-- ==== Sys2Proof/Word.lean ====
section
/-!
DEFINITION. Sys2Proof/Word.lean: the word and byte types, the type of a sparse table, and the small
types that the operands of commands use.
-/

namespace Sys2Proof

/-- One byte (R11). -/
abbrev Byte := BitVec 8

/-- One register word: registers are 32 bits wide (R12). -/
abbrev Word := BitVec 32

/-- A sparse table: keys strictly rising, no entry equal to the value an unlisted key has.
A key may be a port, an entry number, a register address or a byte address. -/
abbrev Tab (α : Type) := List (Nat × α)

/-- The paths that reach register space directly (R574): BAR0, Cuing, I3C and the debug port. -/
inductive Path where
  | bar0
  | cuing
  | i3c
  | jtag
  deriving DecidableEq, Repr

/-- Where a request comes from that both a register and a Cuing command can make: a register write
of a value over one of the paths, or the Cuing command in progress under a tag. -/
inductive Src where
  | reg (path : Path) (addr : Nat) (v : Word)
  | cmd (tag : Nat)
  deriving DecidableEq, Repr

/-- What is seen of a lane that may be retired (R54, R80): lock lost for some ns, uncorrectable codewords within
1 ms, wrong symbols of all symbols over 1 ms, skew in ns, the LANE_ID it reports. -/
inductive LaneFault where
  | lock (ns : Nat)
  | uncorrectable (n : Nat)
  | errorRatio (wrong total : Nat)
  | skew (ns : Nat)
  | laneId (i : Nat)
  deriving DecidableEq, Repr

/-- A report of a lane: its number and what is seen of it. -/
structure LaneReport where
  num : Nat
  why : LaneFault
  deriving DecidableEq, Repr

/-- An instance of a group. -/
structure GroupInst where
  group : Nat
  inst  : Nat
  deriving DecidableEq, Repr

/-- A packet: its 64-byte header pick and its payload bytes (R93, R94). -/
structure Pkt where
  hdr  : List Byte
  data : List Byte
  deriving DecidableEq, Repr

end Sys2Proof
end

