-- ==== Sys2Proof/Syntax.lean ====
section
/-!
DEFINITION. Sys2Proof/Syntax.lean: the commands of the block, one constructor for each row of the
spec's table of operations and events, in the table's order.  The docstring of each constructor
names the row and the rule that governs it.
-/

namespace Sys2Proof

/-- A command of the block: an operation asked of it, or an event that meets it. -/
inductive Instr where
  /-- VIN_AON_APPLY (R557). -/
  | vinAonApply
  /-- VIN_AON_LOSS (R583). -/
  | vinAonLoss
  /-- VIN_MAIN_LOSS (R32). -/
  | vinMainLoss
  /-- MAIN_POWER_GOOD (R557). -/
  | mainPowerGood (leadSel bootSrc : Bool)
  /-- PLL_LOCK_DONE (R557). -/
  | pllLockDone
  /-- CLUSTER_SRAM_BIST_DONE (R558). -/
  | clusterSramBistDone (c : Nat) (pass : Bool)
  /-- HBM_PAIR_TRAINED (R557). -/
  | hbmPairTrained (pair : Nat) (pass0 pass1 : Bool)
  /-- BOOT_COMPLETE (R445). -/
  | bootComplete
  /-- VIN_IO_LOSS (R583). -/
  | vinIoLoss
  /-- VIN_IO_RETURN (R583). -/
  | vinIoReturn
  /-- REFCLK_FAB_LOSS (R48). -/
  | refclkFabLoss
  /-- REFCLK_FAB_RETURN (R48). -/
  | refclkFabReturn
  /-- AON_TRIM (R47). -/
  | aonTrim
  /-- SUPPLY_ALERT_ASSERT (R395). -/
  | supplyAlertAssert
  /-- SUPPLY_ALERT_CLEAR (R395). -/
  | supplyAlertClear
  /-- FLOW_ALERT (R395). -/
  | flowAlert
  /-- FLOW_ALERT_CLEAR (R395). -/
  | flowAlertClear
  /-- ISO_STATUS_FRAME_RX (R36). -/
  | isoStatusFrameRx (bytes : List Byte)
  /-- ISO_LOST_TIMEOUT (R36). -/
  | isoLostTimeout
  /-- DEMAND_FRAME_TX (R35). -/
  | demandFrameTx
  /-- ISO_STATUS_CLEAR (R37). -/
  | isoStatusClear (path : Path) (v : Word)
  /-- DOMAIN_RUN (R40). -/
  | domainRun (tag : Nat)
  /-- DOMAIN_OFF (R41). -/
  | domainOff (tag : Nat)
  /-- DOMAIN_EXIT_DONE (R39). -/
  | domainExitDone (d : Nat)
  /-- SHU_CLOCK_SWITCH (R46). -/
  | shuClockSwitch (c : Nat)
  /-- DEEP_IDLE_ENTER (R394). -/
  | deepIdleEnter
  /-- LINK_FRAME_RX (R57). -/
  | linkFrameRx (p : Nat) (wrong : List Nat) (bytes : List Byte)
  /-- LINK_FRAME_TX (R110). -/
  | linkFrameTx (p : Nat)
  /-- RETRY_TIMER_EXPIRE (R67). -/
  | retryTimerExpire (p : Nat)
  /-- LINK_SILENT_TIMEOUT (R67). -/
  | linkSilentTimeout (p : Nat)
  /-- TRAIN_PARAMS (R71). -/
  | trainParams (p : Nat) (msg : List Byte)
  /-- TRAIN_ACK (R72). -/
  | trainAck (p : Nat) (msg : List Byte)
  /-- HOLD_REQ (R74). -/
  | holdReq (p : Nat) (msg : List Byte)
  /-- HOLD_ACK (R77). -/
  | holdAck (p : Nat) (msg : List Byte)
  /-- WAKE (R76). -/
  | wake (p : Nat) (msg : List Byte)
  /-- WIDTH (R79). -/
  | width (p : Nat) (msg : List Byte)
  /-- WIDTH_ACK (R79). -/
  | widthAck (p : Nat) (msg : List Byte)
  /-- PACE_RX (R86). -/
  | paceRx (p : Nat) (msg : List Byte)
  /-- DOWN_NOTICE (R69). -/
  | downNotice (p : Nat) (msg : List Byte)
  /-- RESYNC (R78). -/
  | resync (p : Nat) (msg : List Byte)
  /-- CTRL_MSG_RESEND (R69). -/
  | ctrlMsgResend (p typ : Nat)
  /-- LINK_TRAIN_START (R72). -/
  | linkTrainStart (p : Nat)
  /-- TRAIN_COMPLETE (R72). -/
  | trainComplete (p : Nat)
  /-- TRAIN_TIMEOUT (R72). -/
  | trainTimeout (p : Nat)
  /-- HOLD_LIMIT_EXPIRE (R72). -/
  | holdLimitExpire (p : Nat)
  /-- DOWN_RETRAIN_TIMER (R72). -/
  | downRetrainTimer (p : Nat)
  /-- LANE_RETIRE (R80). -/
  | laneRetire (p : Nat) (lane : LaneReport)
  /-- LANE_LEND_TIMEOUT (R81). -/
  | laneLendTimeout (p : Nat)
  /-- WAKE_PATTERN_DETECT (R76). -/
  | wakePatternDetect (p : Nat)
  /-- PORT_CFG_WRITE (R87). -/
  | portCfgWrite (path : Path) (p : Nat) (v : Word)
  /-- PORT_CREDIT_WRITE (R185). -/
  | portCreditWrite (path : Path) (p ch : Nat) (v : Word)
  /-- PORT_LINK_ERR_CLEAR (R92). -/
  | portLinkErrClear (path : Path) (p : Nat) (v : Word)
  /-- PORT_QUAR_ERR_CLEAR (R596). -/
  | portQuarErrClear (path : Path) (p : Nat) (v : Word)
  /-- PACE_RESEND (R84). -/
  | paceResend (p : Nat)
  /-- PACE_RELEASE (R161). -/
  | paceRelease (p vc : Nat)
  /-- LINK_REST_TIMER (R392). -/
  | linkRestTimer (p : Nat)
  /-- LINK_DARK_TIMER (R75). -/
  | linkDarkTimer (p : Nat)
  /-- PKT_HEADER_ARRIVE (R107). -/
  | pktHeaderArrive (q vc : Nat)
  /-- PKT_PORT_RETRY (R125). -/
  | pktPortRetry (q vc : Nat)
  /-- SEL_ESCAPE (R165). -/
  | selEscape (q vc : Nat)
  /-- AGE_LIMIT_EXPIRE (R170). -/
  | ageLimitExpire (q vc : Nat)
  /-- OP_TIMEOUT (R108). -/
  | opTimeout (dst flow fsn : Nat)
  /-- PUT (R132). -/
  | put (port : Nat) (pkt : Pkt)
  /-- GET (R132). -/
  | get (port : Nat) (pkt : Pkt)
  /-- ATOMIC (R97). -/
  | atomic (port : Nat) (pkt : Pkt)
  /-- CALL (R279). -/
  | call (port : Nat) (pkt : Pkt)
  /-- WOPEN (R128). -/
  | wopen (port : Nat) (pkt : Pkt)
  /-- WCLOSE (R130). -/
  | wclose (port : Nat) (pkt : Pkt)
  /-- PUT_ACK (R358). -/
  | putAck (port : Nat) (pkt : Pkt)
  /-- GET_DATA (R358). -/
  | getData (port : Nat) (pkt : Pkt)
  /-- ATOMIC_RSP (R360). -/
  | atomicRsp (port : Nat) (pkt : Pkt)
  /-- CALL_DONE (R363). -/
  | callDone (port : Nat) (pkt : Pkt)
  /-- WGRANT (R357). -/
  | wgrant (port : Nat) (pkt : Pkt)
  /-- CONTRIB (R219). -/
  | contrib (port : Nat) (pkt : Pkt)
  /-- RESULT (R368). -/
  | result (port : Nat) (pkt : Pkt)
  /-- GROUP_FAIL (R225). -/
  | groupFail (port : Nat) (pkt : Pkt)
  /-- CUING_CMD (R488). -/
  | cuingCmd (port : Nat) (pkt : Pkt)
  /-- CUING_RSP (R488). -/
  | cuingRsp (port : Nat) (pkt : Pkt)
  /-- CUING_EVT (R488). -/
  | cuingEvt (port : Nat) (pkt : Pkt)
  /-- MAP_REPORT (R538). -/
  | mapReport (port : Nat) (pkt : Pkt)
  /-- PAIR_HB (R511). -/
  | pairHb (port : Nat) (pkt : Pkt)
  /-- MIRROR (R251). -/
  | mirror (port : Nat) (pkt : Pkt)
  /-- MIGRATE (R251). -/
  | migrate (port : Nat) (pkt : Pkt)
  /-- WIN_IDLE_EXPIRE (R130). -/
  | winIdleExpire (src dst flow : Nat)
  /-- REORDER_TIMEOUT (R134). -/
  | reorderTimeout (src dst flow : Nat)
  /-- COMMIT_START (R144). -/
  | commitStart (src : Src)
  /-- COMMIT_SYNC (R143). -/
  | commitSync (src : Src)
  /-- COMMIT_ABORT (R144). -/
  | commitAbort (src : Src)
  /-- COMMIT_VALIDATE_DONE (R144). -/
  | commitValidateDone
  /-- COMMIT_DRAINED (R144). -/
  | commitDrained
  /-- DRAIN_LIMIT_EXPIRE (R144). -/
  | drainLimitExpire
  /-- RTE_PKT_ERR_CLEAR (R118). -/
  | rtePktErrClear (path : Path) (v : Word)
  /-- RTE_FLOW_ERR_CLEAR (R156). -/
  | rteFlowErrClear (path : Path) (v : Word)
  /-- RTE_CONG_ERR_CLEAR (R180). -/
  | rteCongErrClear (path : Path) (v : Word)
  /-- BOB_APPLY (R182). -/
  | bobApply (path : Path) (c : Nat) (v : Word)
  /-- BOB_DRAW_SERVED (R187). -/
  | bobDrawServed (c cls : Nat)
  /-- BOB_DF_LOG_CLEAR (R191). -/
  | bobDfLogClear (path : Path) (c : Nat) (v : Word)
  /-- BOB_ERR_CLEAR (R195). -/
  | bobErrClear (path : Path) (c : Nat) (v : Word)
  /-- GROUP_ADMIT (R217). -/
  | groupAdmit (src : Src)
  /-- GROUP_ADMIT_DONE (R217). -/
  | groupAdmitDone
  /-- GROUP_RELEASE (R218). -/
  | groupRelease (src : Src)
  /-- GROUP_RELEASE_DRAINED (R218). -/
  | groupReleaseDrained (g : Nat)
  /-- GROUP_REARM (R218). -/
  | groupRearm (src : Src)
  /-- RELEASE_WAVE (R223). -/
  | releaseWave (g chunk w : Nat)
  /-- CHUNK_TIMEOUT (R220). -/
  | chunkTimeout (g gc : Nat)
  /-- GATE_GRANT (R224). -/
  | gateGrant (g : Nat)
  /-- GATE_TIMEOUT (R224). -/
  | gateTimeout (g : GroupInst)
  /-- RTE_GRP_ERR_CLEAR (R232). -/
  | rteGrpErrClear (path : Path) (v : Word)
  /-- REED_ERR_CLEAR (R233). -/
  | reedErrClear (path : Path) (c : Nat) (v : Word)
  /-- SEQ_REGION_WRITE (R236). -/
  | seqRegionWrite (path : Path) (v : Word)
  /-- SERVICE_RELOAD_DONE (R236). -/
  | serviceReloadDone
  /-- SLOT_OPEN (R241). -/
  | slotOpen (src : Src)
  /-- SLOT_RELEASE (R250). -/
  | slotRelease (src : Src)
  /-- SLOT_RELEASE_DONE (R250). -/
  | slotReleaseDone (slot : Nat)
  /-- EVACUATE (R255). -/
  | evacuate (src : Src)
  /-- EVAC_PAGE_MOVED (R255). -/
  | evacPageMoved
  /-- EVAC_OLD_FRAME_FREE (R255). -/
  | evacOldFrameFree (frame : Nat)
  /-- EVAC_ABORT (R255). -/
  | evacAbort (src : Src)
  /-- ALLOC_BACK (R255). -/
  | allocBack (src : Src)
  /-- RECALL (R256). -/
  | recall (src : Src)
  /-- RECALL_PAGE_DONE (R256). -/
  | recallPageDone (slot : Nat)
  /-- RECLAIM (R252). -/
  | reclaim (src : Src)
  /-- SEQ_ERR_CLEAR (R269). -/
  | seqErrClear (path : Path) (v : Word)
  /-- LIB_DECODE (R261). -/
  | libDecode (item : Nat)
  /-- LIB_PREFILL (R261). -/
  | libPrefill (item : Nat)
  /-- LIB_LATENT_DECODE (R261). -/
  | libLatentDecode (item : Nat)
  /-- LIB_APPEND (R245). -/
  | libAppend (item : Nat)
  /-- LIB_READ (R245). -/
  | libRead (item : Nat)
  /-- LIB_LEND (R252). -/
  | libLend (item : Nat)
  /-- LIB_RETURN (R252). -/
  | libReturn (item : Nat)
  /-- IMAGE_LOAD (R276). -/
  | imageLoad (tag : Nat)
  /-- IMAGE_VERIFY_DONE (R277). -/
  | imageVerifyDone (ok : Bool)
  /-- IMAGE_COPY_DONE (R277). -/
  | imageCopyDone
  /-- IMAGE_UNLOAD (R278). -/
  | imageUnload (tag : Nat)
  /-- IMAGE_DRAIN_DONE (R278). -/
  | imageDrainDone (idx : Nat)
  /-- WORK_ITEM_DISPATCH (R285). -/
  | workItemDispatch (c : Nat)
  /-- BENCH_WAIT_EXPIRE (R286). -/
  | benchWaitExpire (c q : Nat)
  /-- RUN_LIMIT_EXPIRE (R289). -/
  | runLimitExpire (x : Nat)
  /-- QUEUE_WRITE (R293). -/
  | queueWrite (src : Src)
  /-- SHED_ERR_CLEAR (R292). -/
  | shedErrClear (path : Path) (c : Nat) (v : Word)
  /-- SOP (R328). -/
  | sop (x et fn b a d : Nat)
  /-- ADDI (R329). -/
  | addi (x : Nat) (imm : Int) (a d : Nat)
  /-- ANDI (R329). -/
  | andi (x : Nat) (imm : Int) (a d : Nat)
  /-- ORI (R329). -/
  | ori (x : Nat) (imm : Int) (a d : Nat)
  /-- XORI (R329). -/
  | xori (x : Nat) (imm : Int) (a d : Nat)
  /-- SHI (R329). -/
  | shi (x : Nat) (imm : Int) (a d : Nat)
  /-- SLTI (R329). -/
  | slti (x : Nat) (imm : Int) (a d : Nat)
  /-- SLI (R329). -/
  | sli (x : Nat) (imm : Int) (a d : Nat)
  /-- SMUL (R330). -/
  | smul (x et fn b a d : Nat)
  /-- SCMP (R330). -/
  | scmp (x et fn b a d : Nat)
  /-- FOP (R331). -/
  | fop (x et fn b a d : Nat)
  /-- FMAD (R331). -/
  | fmad (x et fn b a d : Nat)
  /-- FCMP (R331). -/
  | fcmp (x et fn b a d : Nat)
  /-- SCVT (R332). -/
  | scvt (x et fn b a d : Nat)
  /-- VINT (R333). -/
  | vint (x et pred vfn b a d : Nat)
  /-- VFP (R334). -/
  | vfp (x et pred vfn b a d : Nat)
  /-- VFMA (R334). -/
  | vfma (x et pred vfn b a d : Nat)
  /-- VCMP (R335). -/
  | vcmp (x et pred vfn b a d : Nat)
  /-- VPLOG (R335). -/
  | vplog (x et pred vfn b a d : Nat)
  /-- VRED (R336). -/
  | vred (x et pred vfn b a d : Nat)
  /-- VPERM (R337). -/
  | vperm (x et pred vfn b a d : Nat)
  /-- VBCAST (R337). -/
  | vbcast (x et pred vfn b a d : Nat)
  /-- VCVT (R338). -/
  | vcvt (x et pred vfn b a d : Nat)
  /-- VMXCVT (R339). -/
  | vmxcvt (x et pred vfn b a d : Nat)
  /-- VSFN (R340). -/
  | vsfn (x et pred vfn b a d : Nat)
  /-- VTOPK (R341). -/
  | vtopk (x et pred vfn b a d : Nat)
  /-- MLD (R351). -/
  | mld (x et pred vfn b a d : Nat)
  /-- MST (R351). -/
  | mst (x et pred vfn b a d : Nat)
  /-- MMA (R348). -/
  | mma (x et pred vfn b a d : Nat)
  /-- MMX (R349). -/
  | mmx (x et pred vfn b a d : Nat)
  /-- MZERO (R351). -/
  | mzero (x et pred vfn b a d : Nat)
  /-- MTOV (R351). -/
  | mtov (x et pred vfn b a d : Nat)
  /-- LD (R342). -/
  | ld (x et fn b a d : Nat)
  /-- ST (R342). -/
  | st (x et fn b a d : Nat)
  /-- LDI (R342). -/
  | ldi (x : Nat) (imm : Int) (a d : Nat)
  /-- STI (R342). -/
  | sti (x : Nat) (imm : Int) (a d : Nat)
  /-- VLD (R343). -/
  | vld (x et pred vfn b a d : Nat)
  /-- VST (R343). -/
  | vst (x et pred vfn b a d : Nat)
  /-- VGTH (R343). -/
  | vgth (x et pred vfn b a d : Nat)
  /-- VSCT (R343). -/
  | vsct (x et pred vfn b a d : Nat)
  /-- MCPY_ISSUE (R344). -/
  | mcpyIssue (x et fn b a d : Nat)
  /-- MCPY_WAIT (R344). -/
  | mcpyWait (x et fn b a d : Nat)
  /-- MCPY_WAITALL (R344). -/
  | mcpyWaitall (x et fn b a d : Nat)
  /-- ASYNC_COPY_DONE (R344). -/
  | asyncCopyDone (x k : Nat)
  /-- HND_DRAW (R345). -/
  | hndDraw (x et fn b a d : Nat)
  /-- HND_FREE (R345). -/
  | hndFree (x et fn b a d : Nat)
  /-- HND_HGET (R345). -/
  | hndHget (x et fn b a d : Nat)
  /-- HND_HPUT (R345). -/
  | hndHput (x et fn b a d : Nat)
  /-- LATM (R346). -/
  | latm (x et fn b a d : Nat)
  /-- FPUT (R360). -/
  | fput (x et fn b a d : Nat)
  /-- FGET (R360). -/
  | fget (x et fn b a d : Nat)
  /-- FATM (R360). -/
  | fatm (x et fn b a d : Nat)
  /-- FCALL (R360). -/
  | fcall (x et fn b a d : Nat)
  /-- ISSUE_STALL_RELEASE (R361). -/
  | issueStallRelease (x : Nat)
  /-- FOPEN (R357). -/
  | fopen (x et fn b a d : Nat)
  /-- FCLOSE (R359). -/
  | fclose (x et fn b a d : Nat)
  /-- FWAIT_ALL (R359). -/
  | fwaitAll (x et fn b a d : Nat)
  /-- FWAIT_UPTO (R359). -/
  | fwaitUpto (x et fn b a d : Nat)
  /-- FWAIT_POLL (R359). -/
  | fwaitPoll (x et fn b a d : Nat)
  /-- CJOIN (R365). -/
  | cjoin (x et fn b a d : Nat)
  /-- CWAIT_WAIT (R369). -/
  | cwaitWait (x et fn b a d : Nat)
  /-- CWAIT_POLL (R369). -/
  | cwaitPoll (x et fn b a d : Nat)
  /-- CREL (R369). -/
  | crel (x et fn b a d : Nat)
  /-- TGATE (R370). -/
  | tgate (x et fn b a d : Nat)
  /-- JOIN_TIMEOUT (R368). -/
  | joinTimeout (x j : Nat)
  /-- SAPP (R371). -/
  | sapp (x et fn b a d : Nat)
  /-- SAPP_PERFORMED (R371). -/
  | sappPerformed (x k : Nat)
  /-- SGATH (R371). -/
  | sgath (x et fn b a d : Nat)
  /-- SMAP_ADDR (R372). -/
  | smapAddr (x et fn b a d : Nat)
  /-- SMAP_PTE (R372). -/
  | smapPte (x et fn b a d : Nat)
  /-- SMAP_LEN (R372). -/
  | smapLen (x et fn b a d : Nat)
  /-- SREL (R373). -/
  | srel (x et fn b a d : Nat)
  /-- BR (R313). -/
  | br (x : Nat) (ofs : Int) (b a cond : Nat)
  /-- JAL (R313). -/
  | jal (x : Nat) (imm : Int) (a d : Nat)
  /-- JALR (R313). -/
  | jalr (x : Nat) (imm : Int) (a d : Nat)
  /-- CTLR (R374). -/
  | ctlr (x : Nat) (imm : Int) (a d : Nat)
  /-- CTLW (R374). -/
  | ctlw (x : Nat) (imm : Int) (a d : Nat)
  /-- CNTR (R375). -/
  | cntr (x : Nat) (imm : Int) (a d : Nat)
  /-- YIELD (R376). -/
  | yield (x et fn b a d : Nat)
  /-- TRAP (R376). -/
  | trap (x et fn b a d : Nat)
  /-- HALT (R377). -/
  | halt (x et fn b a d : Nat)
  /-- MSYNC (R376). -/
  | msync (x et fn b a d : Nat)
  /-- TREADLE_STEP (R386). -/
  | treadleStep (pkg : Nat) (dom : List Nat)
  /-- CLUSTER_SHARE_UPDATE (R391). -/
  | clusterShareUpdate
  /-- CAP_WORD_WRITE (R384). -/
  | capWordWrite (path : Path) (v : Word)
  /-- CAP_HOLD_EXPIRE (R398). -/
  | capHoldExpire
  /-- CAP_FALLBACK_EXPIRE (R398). -/
  | capFallbackExpire
  /-- HOST_CAP (R393). -/
  | hostCap (src : Src)
  /-- SLEEP (R393). -/
  | sleep (src : Src)
  /-- HOST_CFG (R410). -/
  | hostCfg (tag : Nat)
  /-- TRD_ALERT_CLEAR (R397). -/
  | trdAlertClear (path : Path) (v : Word)
  /-- TRD_ERR_CLEAR (R412). -/
  | trdErrClear (path : Path) (v : Word)
  /-- POWER_REPORT_READ (R413). -/
  | powerReportRead (path : Path) (d : Nat)
  /-- POWER_READ (R493). -/
  | powerRead (tag : Nat)
  /-- POWER_REPORTS (R493). -/
  | powerReports (tag : Nat)
  /-- SW_GATE_TIMER (R392). -/
  | swGateTimer (c : Nat)
  /-- SHU_GATE_TIMER (R392). -/
  | shuGateTimer (c : Nat)
  /-- SHU_RETAIN_TIMER (R392). -/
  | shuRetainTimer (c : Nat)
  /-- REED_GATE_TIMER (R392). -/
  | reedGateTimer (c : Nat)
  /-- REED_RETAIN_TIMER (R392). -/
  | reedRetainTimer (c : Nat)
  /-- HBM_SR_TIMER (R392). -/
  | hbmSrTimer (n : Nat)
  /-- THERMAL_SAMPLE (R418). -/
  | thermalSample (readings : List Int)
  /-- SENSOR_PLAUSIBILITY_TIMER (R416). -/
  | sensorPlausibilityTimer (sensor : Nat)
  /-- RUNG_RELEASE_TIMER (R418). -/
  | rungReleaseTimer (rung c : Nat)
  /-- LADDER_STEP_TIMER (R418). -/
  | ladderStepTimer
  /-- THERMTRIP_ASSERT (R419). -/
  | thermtripAssert (sensor : Nat)
  /-- TRIP_LATCH_CLEAR (R419). -/
  | tripLatchClear (path : Path) (v : Word)
  /-- COOLANT_SAMPLE (R420). -/
  | coolantSample (tin tout : Int)
  /-- COOL_DT_TIMER (R420). -/
  | coolDtTimer (which : Nat)
  /-- LEAK_SAMPLE (R421). -/
  | leakSample (ohms : Nat)
  /-- LEAK_DRY_TIMER (R422). -/
  | leakDryTimer
  /-- CART_PRESENCE_QUALIFIED (R424). -/
  | cartPresenceQualified (k : Nat)
  /-- CART_PULL (R426). -/
  | cartPull (k : Nat)
  /-- CART_REMOVE (R425). -/
  | cartRemove (src : Src)
  /-- CART_INSPECT (R427). -/
  | cartInspect (src : Src)
  /-- CART_IDENTITY_READ_DONE (R425). -/
  | cartIdentityReadDone (k : Nat) (record : List Byte) (valid : Bool)
  /-- INSPECTION_DONE (R427). -/
  | inspectionDone (k : Nat) (scores : List Nat)
  /-- SENSORS (R493). -/
  | sensors (tag : Nat)
  /-- ZONES (R493). -/
  | zones (tag : Nat)
  /-- COOL_CFG (R493). -/
  | coolCfg (tag : Nat)
  /-- CART_STATUS (R493). -/
  | cartStatus (tag : Nat)
  /-- SCORES (R493). -/
  | scores (tag : Nat)
  /-- CART_IDENTITY (R493). -/
  | cartIdentity (tag : Nat)
  /-- COMPONENT_FAULT (R435). -/
  | componentFault (id cause : Nat)
  /-- COMPONENT_WATCHDOG (R434). -/
  | componentWatchdog (id : Nat)
  /-- CORE_WATCHDOG (R434). -/
  | coreWatchdog (core : Nat)
  /-- COMPONENT_RESTART_DONE (R435). -/
  | componentRestartDone (id : Nat)
  /-- KERNEL_FAULT (R436). -/
  | kernelFault (cause : Nat)
  /-- COMPLEX_RESTART_DONE (R436). -/
  | complexRestartDone
  /-- SEC_CORE_FAULT (R437). -/
  | secCoreFault
  /-- TREADLE_CORE_FAULT (R437). -/
  | treadleCoreFault
  /-- SCHEDULER_CORE_FAULT (R437). -/
  | schedulerCoreFault
  /-- CONTROL_CORE_FAULT (R437). -/
  | controlCoreFault (c : Nat)
  /-- DELEGATE_RESTART_DONE (R437). -/
  | delegateRestartDone (d : Nat)
  /-- FW_STAGE (R450). -/
  | fwStage (tag : Nat)
  /-- STAGE_VERIFY_DONE (R450). -/
  | stageVerifyDone
  /-- ACTIVATE_LIVE (R451). -/
  | activateLive (src : Src)
  /-- ACTIVATE_RESET (R451). -/
  | activateReset (src : Src)
  /-- FW_CANCEL (R451). -/
  | fwCancel (src : Src)
  /-- FW_COMMIT (R454). -/
  | fwCommit (src : Src)
  /-- ACTIVATION_COMPONENT_DONE (R452). -/
  | activationComponentDone
  /-- ACTIVATION_RESUME (R453). -/
  | activationResume
  /-- PROBATION_EXPIRE (R451). -/
  | probationExpire
  /-- REVERT_DONE (R451). -/
  | revertDone
  /-- FW_STATUS (R493). -/
  | fwStatus (tag : Nat)
  /-- POLICY_WRITE (R456). -/
  | policyWrite (tag : Nat)
  /-- SPDM (R459). -/
  | spdm (tag : Nat)
  /-- DOE_REQUEST (R477). -/
  | doeRequest (bytes : List Byte)
  /-- DEBUG_NONCE (R461). -/
  | debugNonce (tag : Nat)
  /-- DEBUG_TOKEN (R461). -/
  | debugToken (tag : Nat)
  /-- NONCE_EXPIRE (R461). -/
  | nonceExpire
  /-- PLN_LOG_LOST_CLEAR (R467). -/
  | plnLogLostClear (path : Path) (v : Word)
  /-- LOG_READ (R443). -/
  | logRead (tag : Nat)
  /-- TRACE_CATALOGUE (R443). -/
  | traceCatalogue (tag : Nat)
  /-- IDENTIFY (R493). -/
  | identify (tag : Nat)
  /-- VERSION (R493). -/
  | version (tag : Nat)
  /-- DIGEST (R493). -/
  | digest (tag : Nat)
  /-- CQ_DOORBELL (R480). -/
  | cqDoorbell (path : Path) (v : Word)
  /-- RQ_DOORBELL (R478). -/
  | rqDoorbell (path : Path) (v : Word)
  /-- EQ_DOORBELL (R481). -/
  | eqDoorbell (path : Path) (v : Word)
  /-- RING_ENABLE (R478). -/
  | ringEnable (path : Path) (ring : Nat) (v : Word)
  /-- COMMAND_TAKE (R480). -/
  | commandTake (entry scatter : List Byte)
  /-- REG_READ (R493). -/
  | regRead (tag : Nat)
  /-- REG_WRITE (R493). -/
  | regWrite (tag : Nat)
  /-- ROUTE_WRITE (R493). -/
  | routeWrite (tag : Nat)
  /-- MCAST_WRITE (R493). -/
  | mcastWrite (tag : Nat)
  /-- IMAGE_LIST (R493). -/
  | imageList (tag : Nat)
  /-- GROUP_WRITE (R216). -/
  | groupWrite (src : Src)
  /-- GROUP_READ (R493). -/
  | groupRead (tag : Nat)
  /-- SLOT_READ (R493). -/
  | slotRead (tag : Nat)
  /-- REGION_SET (R493). -/
  | regionSet (tag : Nat)
  /-- BIND (R492). -/
  | bind (port : Nat) (pkt : Pkt)
  /-- EVENT_MASK (R493). -/
  | eventMask (tag : Nat)
  /-- EVENT_CREDIT (R489). -/
  | eventCredit (m n : Nat)
  /-- MAP_READ (R537). -/
  | mapRead (tag : Nat)
  /-- MAP_CFG (R539). -/
  | mapCfg (tag : Nat)
  /-- RELAY_TIMEOUT (R490). -/
  | relayTimeout (m tag : Nat)
  /-- RELAY_PROGRESS_TIMER (R490). -/
  | relayProgressTimer (tag : Nat)
  /-- MSIX_COALESCE_TIMER (R475). -/
  | msixCoalesceTimer (v : Nat)
  /-- FLR (R471). -/
  | flr
  /-- D3HOT_ENTRY (R471). -/
  | d3hotEntry
  /-- PERST_ASSERT (R558). -/
  | perstAssert
  /-- PERST_DEASSERT (R558). -/
  | perstDeassert
  /-- BAR0_BAD_ACCESS (R472). -/
  | bar0BadAccess (isWrite : Bool)
  /-- BAR2_WRITE (R473). -/
  | bar2Write (off : Nat) (bytes : List Byte)
  /-- BAR2_READ (R473). -/
  | bar2Read (off n : Nat)
  /-- HIO_FATAL_ERROR (R476). -/
  | hioFatalError
  /-- HIO_ERR_CLEAR (R499). -/
  | hioErrClear (path : Path) (v : Word)
  /-- PAIR_CONFIG (R503). -/
  | pairConfig (tag : Nat)
  /-- PAIR_STATUS (R493). -/
  | pairStatus (tag : Nat)
  /-- PAIR_SWAP (R519). -/
  | pairSwap (tag : Nat)
  /-- SWAP_ABDICATE (R519). -/
  | swapAbdicate
  /-- HEARTBEAT_TX (R508). -/
  | heartbeatTx
  /-- HB_FRAME_RX (R510). -/
  | hbFrameRx (bytes : List Byte)
  /-- HB_PATH_SILENT (R511). -/
  | hbPathSilent (inband : Bool)
  /-- SELECTOR_SWITCH_DONE (R505). -/
  | selectorSwitchDone (k selStatus : Nat)
  /-- TAKEOVER_COMPLETE (R515). -/
  | takeoverComplete (gap : Nat)
  /-- SELECTOR_POLL (R507). -/
  | selectorPoll (statuses : List Nat)
  /-- PAIR_MSG_ITEM (R595). -/
  | pairMsgItem (port : Nat) (pkt : Pkt)
  /-- PAIR_MSG_ACK (R595). -/
  | pairMsgAck (port : Nat) (pkt : Pkt)
  /-- PAIR_MSG_BASELINE_START (R595). -/
  | pairMsgBaselineStart (port : Nat) (pkt : Pkt)
  /-- PAIR_MSG_BASELINE_END (R595). -/
  | pairMsgBaselineEnd (port : Nat) (pkt : Pkt)
  /-- PAIR_MSG_ABDICATE (R512). -/
  | pairMsgAbdicate (port : Nat) (pkt : Pkt)
  /-- MIRROR_ACK_TIMEOUT (R514). -/
  | mirrorAckTimeout
  /-- EPOCH_MIRROR_TIMER (R513). -/
  | epochMirrorTimer
  /-- DVT_ERR_CLEAR (R523). -/
  | dvtErrClear (path : Path) (v : Word)
  /-- COUNTER_OVERFLOW (R527). -/
  | counterOverflow (id : Nat)
  /-- SAMPLE_CAPTURE (R529). -/
  | sampleCapture (x : Nat)
  /-- COUNTER_READ (R531). -/
  | counterRead (path : Path) (id : Nat)
  /-- COUNTER_CFG_WRITE (R534). -/
  | counterCfgWrite (path : Path) (id : Nat) (v : Word)
  /-- MAP_INTERVAL_END (R536). -/
  | mapIntervalEnd
  /-- CNT_MAP_ERR_CLEAR (R539). -/
  | cntMapErrClear (path : Path) (v : Word)
  /-- HBM_ECC_CLEAR (R577). -/
  | hbmEccClear (path : Path) (n : Nat) (v : Word)
  /-- ATTACH_CUT (R547). -/
  | attachCut
  /-- WARM_RESET (R559). -/
  | warmReset (tag : Nat)
  /-- FABRIC_RESET (R559). -/
  | fabricReset (tag : Nat)
  /-- CLUSTER_RESET (R559). -/
  | clusterReset (tag : Nat)
  /-- PORT_RESET (R559). -/
  | portReset (tag : Nat)
  /-- SELFTEST_AON_TRIM (R563). -/
  | selftestAonTrim (tag : Nat)
  /-- SELFTEST_LANE_CAL (R563). -/
  | selftestLaneCal (tag : Nat)
  /-- SELFTEST_PORT_LOOP (R563). -/
  | selftestPortLoop (tag : Nat)
  /-- SELFTEST_SRAM_BIST (R563). -/
  | selftestSramBist (tag : Nat)
  /-- SELFTEST_SHU_BIST (R563). -/
  | selftestShuBist (tag : Nat)
  /-- SELFTEST_REED_BIST (R563). -/
  | selftestReedBist (tag : Nat)
  /-- SELFTEST_HBM_SCAN (R563). -/
  | selftestHbmScan (tag : Nat)
  /-- SELFTEST_CRYPTO_KAT (R563). -/
  | selftestCryptoKat (tag : Nat)
  /-- SELFTEST_SENSOR_CHECK (R563). -/
  | selftestSensorCheck (tag : Nat)
  /-- SELFTEST_DONE (R563). -/
  | selftestDone (test target errors detail : Nat)
  /-- I3C_WRITE_TRANSFER (R575). -/
  | i3cWriteTransfer (addr : Nat) (words : List Word)
  /-- I3C_READ_TRANSFER (R575). -/
  | i3cReadTransfer (addr n : Nat)
  /-- ENTDAA (R586). -/
  | entdaa (da : Nat)
  /-- RSTDAA (R586). -/
  | rstdaa
  /-- SETNEWDA (R586). -/
  | setnewda (da : Nat)
  /-- GETPID (R586). -/
  | getpid
  /-- GETBCR (R586). -/
  | getbcr
  /-- GETDCR (R586). -/
  | getdcr
  /-- GETSTATUS (R586). -/
  | getstatus
  /-- JTAG_REG_ACCESS (R576). -/
  | jtagRegAccess (write : Bool) (addr : Nat) (v : Word)
  /-- REGISTER_WRITE (R573). -/
  | registerWrite (path : Path) (addr : Nat) (v : Word)
  /-- JTAG_HALT (R462). -/
  | jtagHalt (core : Nat)
  /-- JTAG_RESUME (R462). -/
  | jtagResume (core : Nat)
  /-- PLL_LOCK_LOSS (R46). -/
  | pllLockLoss (kind idx : Nat)
  /-- PCIE_LINK_UP (R469). -/
  | pcieLinkUp (gen width : Nat)
  /-- PCIE_LINK_DOWN (R547). -/
  | pcieLinkDown (refclkLost : Bool)
  /-- PCIE_HOT_RESET (R476). -/
  | pcieHotReset
  /-- BUS_MASTER_ENABLE_WRITE (R471). -/
  | busMasterEnableWrite (b : Bool)
  /-- DOE_ABORT (R477). -/
  | doeAbort
  deriving DecidableEq, Repr

end Sys2Proof
end

