-- ==== Sys2Proof/Decode.lean ====
section
/-!
DEFINITION. Sys2Proof/Decode.lean: the command that a word of the table's bits spells, and the instruction that a word
of a Dapor program spells.  The table gives no row of this block any bits: its rows are operations and events, which
no word encodes.  The rows of Dapor stand for one attempt of a context to issue an instruction, and R311 and R314 give
that instruction's word.
-/

namespace Sys2Proof

/-- The command that a word spells by the table's bits: none, since no row of the table has bits (DESIGN CHOICE, log
entry 2). -/
def decodeTableWord (nbits w : Nat) : Option Instr :=
  match nbits, w with
  | _, _ => none

/-! ### The words of Dapor (R311, R314) -/

/-- n bits of a word from bit lo up. -/
def wordFld (w lo n : Nat) : Nat := w / 2 ^ lo % 2 ^ n

/-- The same, signed. -/
def wordInt (w lo n : Nat) : Int :=
  if wordFld w lo n < 2 ^ (n - 1) then (wordFld w lo n : Int) else (wordFld w lo n : Int) - 2 ^ n

/-- An instruction of format REG: ET, FN, B, A, D. -/
def regForm (w : Nat) (f : Nat → Nat → Nat → Nat → Nat → Instr) : Option Instr :=
  some (f (wordFld w 29 3) (wordFld w 22 7) (wordFld w 17 5) (wordFld w 12 5) (wordFld w 7 5))

/-- An instruction of format VEC: ET, PRED, VFN, B, A, D. -/
def vecForm (w : Nat) (f : Nat → Nat → Nat → Nat → Nat → Nat → Instr) : Option Instr :=
  some (f (wordFld w 29 3) (wordFld w 26 3) (wordFld w 22 4) (wordFld w 17 5) (wordFld w 12 5) (wordFld w 7 5))

/-- An instruction of format IMM: IMM15, A, D. -/
def immForm (w : Nat) (f : Int → Nat → Nat → Instr) : Option Instr :=
  some (f (wordInt w 17 15) (wordFld w 12 5) (wordFld w 7 5))

/-- An instruction of format BRN: OFS10, B, A, COND. -/
def brnForm (w : Nat) (f : Int → Nat → Nat → Nat → Instr) : Option Instr :=
  some (f (wordInt w 22 10) (wordFld w 17 5) (wordFld w 12 5) (wordFld w 7 5))

/-- The row of a list that a function code names; a reserved code goes to the last of them, which traps with
ILLEGAL. -/
def rowOf (l : List (Nat → Nat → Nat → Nat → Nat → Instr)) (last : Nat → Nat → Nat → Nat → Nat → Instr) (n : Nat) :
    Nat → Nat → Nat → Nat → Nat → Instr :=
  l.getD n last

/-- The instruction that a word spells on context x: none for a reserved opcode (R314). -/
def daporWord (x w : Nat) : Option Instr :=
  match wordFld w 0 7 with
  | 0x00 => regForm w (.sop x)
  | 0x01 => immForm w (.addi x)
  | 0x02 => immForm w (.andi x)
  | 0x03 => immForm w (.ori x)
  | 0x04 => immForm w (.xori x)
  | 0x05 => immForm w (.shi x)
  | 0x06 => immForm w (.slti x)
  | 0x07 => immForm w (.sli x)
  | 0x08 => regForm w (.smul x)
  | 0x09 => regForm w (.scmp x)
  | 0x10 => regForm w (.fop x)
  | 0x11 => regForm w (.fmad x)
  | 0x12 => regForm w (.fcmp x)
  | 0x13 => regForm w (.scvt x)
  | 0x20 => vecForm w (.vint x)
  | 0x21 => vecForm w (.vfp x)
  | 0x22 => vecForm w (.vfma x)
  | 0x23 => vecForm w (.vcmp x)
  | 0x24 => vecForm w (.vred x)
  | 0x25 => vecForm w (.vperm x)
  | 0x26 => vecForm w (.vbcast x)
  | 0x27 => vecForm w (.vcvt x)
  | 0x28 => vecForm w (.vmxcvt x)
  | 0x29 => vecForm w (.vsfn x)
  | 0x2A => vecForm w (.vtopk x)
  | 0x2B => vecForm w (.vplog x)
  | 0x40 => vecForm w (.mld x)
  | 0x41 => vecForm w (.mst x)
  | 0x42 => vecForm w (.mma x)
  | 0x43 => vecForm w (.mmx x)
  | 0x44 => vecForm w (.mzero x)
  | 0x45 => vecForm w (.mtov x)
  | 0x50 => regForm w (.ld x)
  | 0x51 => regForm w (.st x)
  | 0x52 => immForm w (.ldi x)
  | 0x53 => immForm w (.sti x)
  | 0x54 => vecForm w (.vld x)
  | 0x55 => vecForm w (.vst x)
  | 0x56 => vecForm w (.vgth x)
  | 0x57 => vecForm w (.vsct x)
  | 0x58 => regForm w (rowOf [.mcpyIssue x, .mcpyWait x, .mcpyWaitall x] (.mcpyWaitall x) (wordFld w 27 2))
  | 0x59 => regForm w (rowOf [.hndDraw x, .hndFree x, .hndHget x, .hndHput x] (.hndHput x) (wordFld w 22 7))
  | 0x5A => regForm w (.latm x)
  | 0x60 => regForm w (.fput x)
  | 0x61 => regForm w (.fget x)
  | 0x62 => regForm w (.fatm x)
  | 0x63 => regForm w (.fcall x)
  | 0x64 => regForm w (.fopen x)
  | 0x65 => regForm w (.fclose x)
  | 0x66 => regForm w (rowOf [.fwaitAll x, .fwaitUpto x, .fwaitPoll x] (.fwaitPoll x) (wordFld w 22 7))
  | 0x67 => regForm w (.cjoin x)
  | 0x68 => regForm w (rowOf [.cwaitWait x, .cwaitPoll x] (.cwaitPoll x) (wordFld w 22 7))
  | 0x69 => regForm w (.crel x)
  | 0x6A => regForm w (.tgate x)
  | 0x70 => regForm w (.sapp x)
  | 0x71 => regForm w (rowOf [.smapAddr x, .smapPte x, .smapLen x] (.smapLen x) (wordFld w 22 2))
  | 0x72 => regForm w (.sgath x)
  | 0x73 => regForm w (.srel x)
  | 0x78 => brnForm w (.br x)
  | 0x79 => immForm w (.jal x)
  | 0x7A => immForm w (.jalr x)
  | 0x7B => immForm w (.ctlr x)
  | 0x7C => immForm w (.ctlw x)
  | 0x7D => immForm w (.cntr x)
  | 0x7E => regForm w (rowOf [.yield x, .trap x, .halt x, .msync x] (.msync x) (wordFld w 22 7))
  | _ => none

end Sys2Proof
end

