-- ==== Sys2Proof/Machine/Tab.lean ====
section
/-!
DEFINITION. Sys2Proof/Machine/Tab.lean: the operations over sparse tables, bit fields, little-endian
byte strings (R10, R11) and the two check codes (R34, R55).  Every table, register file and memory of
the state is read and written through these operations.
-/

namespace Sys2Proof.Machine

/-- The value at key k; an unlisted key has the value `d k`. -/
def tabGet {α : Type} (d : Nat → α) : Tab α → Nat → α
  | [], k => d k
  | (j, v) :: r, k => if j = k then v else tabGet d r k

/-- Remove what is listed at key k. -/
def tabDel {α : Type} : Tab α → Nat → Tab α
  | [], _ => []
  | (j, v) :: r, k => if j = k then tabDel r k else (j, v) :: tabDel r k

/-- Put an entry at key k, whatever its value; rising keys stay rising. -/
def tabPut {α : Type} : Tab α → Nat → α → Tab α
  | [], k, v => [(k, v)]
  | (j, w) :: r, k, v =>
    if j = k then (k, v) :: r else if k < j then (k, v) :: (j, w) :: r else (j, w) :: tabPut r k v

/-- Write the value at key k; writing the value an unlisted key has removes the entry. -/
def tabSet {α : Type} [DecidableEq α] (d : Nat → α) (t : Tab α) (k : Nat) (v : α) : Tab α :=
  if v = d k then tabDel t k else tabPut t k v

/-- The keys rise strictly and lie at or above `lo`, and no entry holds its default. -/
def tabWfFrom {α : Type} [DecidableEq α] (d : Nat → α) : Nat → Tab α → Bool
  | _, [] => true
  | lo, (k, v) :: r => decide (lo ≤ k) && decide (v ≠ d k) && tabWfFrom d (k + 1) r

/-- The canonical form of a table. -/
def tabWf {α : Type} [DecidableEq α] (d : Nat → α) (t : Tab α) : Bool := tabWfFrom d 0 t

/-- Drop every entry whose key satisfies p (those keys return to their defaults). -/
def tabClear {α : Type} (p : Nat → Bool) (t : Tab α) : Tab α := t.filter (fun e => !p e.1)

/-- Change the value at key k by f. -/
def tabUpd {α : Type} [DecidableEq α] (d : Nat → α) (t : Tab α) (k : Nat) (f : α → α) : Tab α :=
  tabSet d t k (f (tabGet d t k))

/-- Write consecutive keys from k. -/
def tabSetList {α : Type} [DecidableEq α] (d : Nat → α) : Tab α → Nat → List α → Tab α
  | t, _, [] => t
  | t, k, v :: r => tabSetList d (tabSet d t k v) (k + 1) r

/-- Read n consecutive keys from k. -/
def tabGetList {α : Type} (d : Nat → α) (t : Tab α) (k n : Nat) : List α :=
  (List.range n).map (fun i => tabGet d t (k + i))

/-! ### Bit fields -/

/-- Bits [hi:lo] of w, right-aligned (R10). -/
def bits (w hi lo : Nat) : Nat := (w >>> lo) % 2 ^ (hi + 1 - lo)

/-- Bit i of w. -/
def bit (w i : Nat) : Bool := w.testBit i

/-- w with bits [hi:lo] replaced by v. -/
def putBits (w hi lo v : Nat) : Nat :=
  w - bits w hi lo * 2 ^ lo + (v % 2 ^ (hi + 1 - lo)) * 2 ^ lo

/-- Bits [hi:lo] of a register word. -/
def fld (w : Word) (hi lo : Nat) : Nat := bits w.toNat hi lo

/-- A register word with bits [hi:lo] replaced by v. -/
def putFld (w : Word) (hi lo v : Nat) : Word := BitVec.ofNat 32 (putBits w.toNat hi lo v)

/-- A count field of the given width that saturates (all counts that the spec calls saturating). -/
def satAdd (width v n : Nat) : Nat := min (2 ^ width - 1) (v + n)

/-- 1 for true, 0 for false. -/
def b2n (b : Bool) : Nat := if b then 1 else 0

/-- The two's-complement value of the low n bits of v. -/
def toSigned (n v : Nat) : Int :=
  let u := v % 2 ^ n
  if u < 2 ^ (n - 1) then (u : Int) else (u : Int) - (2 ^ n : Nat)

/-- The low n bits of an integer. -/
def ofSigned (n : Nat) (i : Int) : Nat := (i % ((2 ^ n : Nat) : Int)).toNat

/-- Round a quotient up. -/
def ceilDiv (a b : Nat) : Nat := (a + b - 1) / b

/-- The number of set bits of w below bit n. -/
def popcount (n w : Nat) : Nat := ((List.range n).filter (fun i => bit w i)).length

/-- The set bits of w below bit n, ascending. -/
def bitList (n w : Nat) : List Nat := (List.range n).filter (fun i => bit w i)

/-! ### Byte strings -/

/-- The number a byte string spells, little-endian (R11). -/
def leNat : List Byte → Nat
  | [] => 0
  | b :: r => b.toNat + 256 * leNat r

/-- n bytes spelling v, little-endian (R11). -/
def leBytes : Nat → Nat → List Byte
  | 0, _ => []
  | n + 1, v => BitVec.ofNat 8 v :: leBytes n (v / 256)

/-- n bytes of a string from offset off, as a string. -/
def slice {α : Type} (l : List α) (off n : Nat) : List α := (l.drop off).take n

/-- n bytes of a string from offset off, as a number. -/
def field (l : List Byte) (off n : Nat) : Nat := leNat (slice l off n)

/-- Byte off of a string, as a number; 0 beyond its end. -/
def byteAt (l : List Byte) (off : Nat) : Nat := (l.getD off 0).toNat

/-- A string cut or padded with zero bytes to length n. -/
def padTo (n : Nat) (l : List Byte) : List Byte := l.take n ++ List.replicate (n - l.length) 0

/-- Replace the bytes of l from off by those of v. -/
def splice (l : List Byte) (off : Nat) (v : List Byte) : List Byte :=
  l.take off ++ v ++ l.drop (off + v.length)

/-- The little-endian bytes of a list of register words. -/
def wordsToBytes : List Word → List Byte
  | [] => []
  | w :: r => leBytes 4 w.toNat ++ wordsToBytes r

/-- n register words from a byte string. -/
def bytesToWords (n : Nat) (l : List Byte) : List Word :=
  (List.range n).map (fun i => BitVec.ofNat 32 (field l (4 * i) 4))

/-! ### Check codes -/

/-- One bit of the reflected CRC-32C division, repeated. -/
def crc32cBits : Nat → Nat → Nat
  | 0, c => c
  | n + 1, c => crc32cBits n (if c % 2 = 1 then (c / 2) ^^^ 0x82F63B78 else c / 2)

/-- CRC-32C carried over a byte string. -/
def crc32cFold : Nat → List Byte → Nat
  | c, [] => c
  | c, b :: r => crc32cFold (crc32cBits 8 (c ^^^ b.toNat)) r

/-- CRC-32C: polynomial 0x1EDC6F41, reflected, initial value and final XOR 0xFFFFFFFF (R55). -/
def crc32c (l : List Byte) : Nat := crc32cFold 0xFFFFFFFF l ^^^ 0xFFFFFFFF

/-- One bit of the CRC-16 division, repeated. -/
def crc16Bits : Nat → Nat → Nat
  | 0, c => c
  | n + 1, c =>
    crc16Bits n (if c / 32768 % 2 = 1 then ((c * 2) % 65536) ^^^ 0x1021 else (c * 2) % 65536)

/-- CRC-16/CCITT-FALSE carried over a byte string. -/
def crc16Fold : Nat → List Byte → Nat
  | c, [] => c
  | c, b :: r => crc16Fold (crc16Bits 8 (c ^^^ (b.toNat * 256))) r

/-- CRC-16/CCITT-FALSE: polynomial 0x1021, initial value 0xFFFF (R34). -/
def crc16 (l : List Byte) : Nat := crc16Fold 0xFFFF l

/-! ### Small list operations -/

/-- Replace element i of a list, if it is there. -/
def setAt {α : Type} (l : List α) (i : Nat) (v : α) : List α := l.set i v

/-- The first element that satisfies p, changed by f. -/
def updFirst {α : Type} (p : α → Bool) (f : α → α) : List α → List α
  | [] => []
  | x :: r => if p x then f x :: r else x :: updFirst p f r

/-- The list without its first element that satisfies p. -/
def delFirst {α : Type} (p : α → Bool) : List α → List α
  | [] => []
  | x :: r => if p x then r else x :: delFirst p r

/-- The sum of a list of numbers. -/
def sumNat : List Nat → Nat
  | [] => 0
  | x :: r => x + sumNat r

/-- The least number of a list, or `m` if it is empty. -/
def minOf (m : Nat) : List Nat → Nat
  | [] => m
  | x :: r => r.foldl min x

end Sys2Proof.Machine
end

