-- ==== Sys2Proof/Machine/Crypto.lean ====
section
/-!
DEFINITION. Sys2Proof/Machine/Crypto.lean: the digest, the keyed digest and the signature that chapter 16 names:
SHA-384, HMAC-SHA-384 and ECDSA on P-384 (R447, R448).  The spec names the standards and does not restate them: what
stands here is theirs (PRESUMED, log entry 174).
-/

namespace Sys2Proof.Machine

/-! ### Big-endian integers (R448) -/

/-- The integer that bytes spell, most significant first. -/
def beNat (l : List Byte) : Nat := l.foldl (fun a b => 256 * a + b.toNat) 0

/-- An integer in n bytes, most significant first. -/
def beBytes (n v : Nat) : List Byte := (leBytes n v).reverse

/-! ### SHA-384 -/

abbrev Word64 := BitVec 64

/-- The round constants: 64 bits of the fractional part of the cube root of each of the first 80 primes. -/
def shaRound : List Nat :=
  [0x428A2F98D728AE22, 0x7137449123EF65CD, 0xB5C0FBCFEC4D3B2F, 0xE9B5DBA58189DBBC,
   0x3956C25BF348B538, 0x59F111F1B605D019, 0x923F82A4AF194F9B, 0xAB1C5ED5DA6D8118,
   0xD807AA98A3030242, 0x12835B0145706FBE, 0x243185BE4EE4B28C, 0x550C7DC3D5FFB4E2,
   0x72BE5D74F27B896F, 0x80DEB1FE3B1696B1, 0x9BDC06A725C71235, 0xC19BF174CF692694,
   0xE49B69C19EF14AD2, 0xEFBE4786384F25E3, 0x0FC19DC68B8CD5B5, 0x240CA1CC77AC9C65] ++
  [0x2DE92C6F592B0275, 0x4A7484AA6EA6E483, 0x5CB0A9DCBD41FBD4, 0x76F988DA831153B5,
   0x983E5152EE66DFAB, 0xA831C66D2DB43210, 0xB00327C898FB213F, 0xBF597FC7BEEF0EE4,
   0xC6E00BF33DA88FC2, 0xD5A79147930AA725, 0x06CA6351E003826F, 0x142929670A0E6E70,
   0x27B70A8546D22FFC, 0x2E1B21385C26C926, 0x4D2C6DFC5AC42AED, 0x53380D139D95B3DF,
   0x650A73548BAF63DE, 0x766A0ABB3C77B2A8, 0x81C2C92E47EDAEE6, 0x92722C851482353B] ++
  [0xA2BFE8A14CF10364, 0xA81A664BBC423001, 0xC24B8B70D0F89791, 0xC76C51A30654BE30,
   0xD192E819D6EF5218, 0xD69906245565A910, 0xF40E35855771202A, 0x106AA07032BBD1B8,
   0x19A4C116B8D2D0C8, 0x1E376C085141AB53, 0x2748774CDF8EEB99, 0x34B0BCB5E19B48A8,
   0x391C0CB3C5C95A63, 0x4ED8AA4AE3418ACB, 0x5B9CCA4F7763E373, 0x682E6FF3D6B2B8A3,
   0x748F82EE5DEFB2FC, 0x78A5636F43172F60, 0x84C87814A1F0AB72, 0x8CC702081A6439EC] ++
  [0x90BEFFFA23631E28, 0xA4506CEBDE82BDE9, 0xBEF9A3F7B2C67915, 0xC67178F2E372532B,
   0xCA273ECEEA26619C, 0xD186B8C721C0C207, 0xEADA7DD6CDE0EB1E, 0xF57D4F7FEE6ED178,
   0x06F067AA72176FBA, 0x0A637DC5A2C898A6, 0x113F9804BEF90DAE, 0x1B710B35131C471B,
   0x28DB77F523047D84, 0x32CAAB7B40C72493, 0x3C9EBE0A15C9BEBC, 0x431D67C49C100D4C,
   0x4CC5D4BECB3E42B6, 0x597F299CFC657E2A, 0x5FCB6FAB3AD6FAEC, 0x6C44198C4A475817]

/-- The initial hash: the square roots of the ninth to sixteenth primes. -/
def shaInit : List Nat :=
  [0xCBBB9D5DC1059ED8, 0x629A292A367CD507, 0x9159015A3070DD17, 0x152FECD8F70E5939,
   0x67332667FFC00B31, 0x8EB44A8768581511, 0xDB0C2E0D64F98FA7, 0x47B5481DBEFA4FA4]

def shaS0 (x : Word64) : Word64 := x.rotateRight 1 ^^^ x.rotateRight 8 ^^^ (x >>> 7)
def shaS1 (x : Word64) : Word64 := x.rotateRight 19 ^^^ x.rotateRight 61 ^^^ (x >>> 6)
def shaB0 (x : Word64) : Word64 := x.rotateRight 28 ^^^ x.rotateRight 34 ^^^ x.rotateRight 39
def shaB1 (x : Word64) : Word64 := x.rotateRight 14 ^^^ x.rotateRight 18 ^^^ x.rotateRight 41

/-- The message schedule, newest word first, `n` words longer. -/
def shaGrow : Nat → List Word64 → List Word64
  | 0, w => w
  | n + 1, w => shaGrow n ((shaS1 (w.getD 1 0) + w.getD 6 0 + shaS0 (w.getD 14 0) + w.getD 15 0) :: w)

/-- One round on the eight working words. -/
def shaStep (h : List Word64) (kw : Nat × Word64) : List Word64 :=
  let e := h.getD 4 0
  let a := h.getD 0 0
  let t := h.getD 7 0 + shaB1 e + ((e &&& h.getD 5 0) ^^^ (~~~e &&& h.getD 6 0)) + BitVec.ofNat 64 kw.1 + kw.2
  let u := shaB0 a + ((a &&& h.getD 1 0) ^^^ (a &&& h.getD 2 0) ^^^ (h.getD 1 0 &&& h.getD 2 0))
  [t + u, a, h.getD 1 0, h.getD 2 0, h.getD 3 0 + t, e, h.getD 5 0, h.getD 6 0]

/-- The hash after a block of 128 bytes. -/
def shaBlock (h : List Word64) (b : List Byte) : List Word64 :=
  let w := shaGrow 64 ((List.range 16).map (fun i => BitVec.ofNat 64 (beNat (slice b (8 * i) 8)))).reverse
  (List.zipWith (· + ·) h ((shaRound.zip w.reverse).foldl shaStep h))

/-- The hash after n blocks. -/
def shaBlocks : Nat → List Word64 → List Byte → List Word64
  | 0, h, _ => h
  | n + 1, h, b => shaBlocks n (shaBlock h (b.take 128)) (b.drop 128)

/-- SHA-384 (R447, R448). -/
def sha384 (m : List Byte) : List Byte :=
  let z := (239 - m.length % 128) % 128
  let b := m ++ (0x80 :: List.replicate z 0) ++ beBytes 16 (8 * m.length)
  ((shaBlocks (b.length / 128) (shaInit.map (BitVec.ofNat 64)) b).take 6).flatMap (fun w => beBytes 8 w.toNat)

/-- HMAC-SHA-384 of a message under a key (R447). -/
def hmac384 (key m : List Byte) : List Byte :=
  let k := padTo 128 (if 128 < key.length then sha384 key else key)
  sha384 (k.map (· ^^^ 0x5C) ++ sha384 (k.map (· ^^^ 0x36) ++ m))

/-! ### ECDSA on P-384 -/

/-- The field, the coefficient b (a is -3), the base point and its order. -/
def ecP : Nat := 2 ^ 384 - 2 ^ 128 - 2 ^ 96 + 2 ^ 32 - 1
def ecB : Nat :=
  0xB3312FA7E23EE7E4988E056BE3F82D19181D9C6EFE8141120314088F5013875AC656398D8A2ED19D2A85C8EDD3EC2AEF
def ecG : Nat × Nat :=
  (0xAA87CA22BE8B05378EB1C71EF320AD746E1D3B628BA79B9859F741E082542A385502F25DBF55296C3A545E3872760AB7,
   0x3617DE4A96262C6F5D9E98BF9292DC29F8F41DBD289A147CE9DA3113B5F0B8C00A60B1CE1D7E819D7A431D7C90EA0E5F)
def ecN : Nat :=
  0xFFFFFFFFFFFFFFFFFFFFFFFFFFFFFFFFFFFFFFFFFFFFFFFFC7634D81F4372DDF581A0DB248B0A77AECEC196ACCC52973

/-- The low n bits of a number, the most significant first. -/
def bitsDown (n e : Nat) : List Bool := (List.range n).reverse.map (bit e)

/-- x to the power e, of 384 bits, modulo m. -/
def powMod (m x e : Nat) : Nat :=
  (bitsDown 384 e).foldl (fun a b => let q := a * a % m; if b then q * x % m else q) 1

/-- The inverse modulo a prime. -/
def invMod (m x : Nat) : Nat := powMod m (x % m) (m - 2)

/-- The sum of two points of the curve; none is the point at infinity. -/
def ecAdd (a b : Option (Nat × Nat)) : Option (Nat × Nat) :=
  match a, b with
  | none, q => q
  | q, none => q
  | some (x, y), some (u, v) =>
    if x = u ∧ (y + v) % ecP = 0 then none
    else
      let l := if x = u then (3 * x * x + ecP - 3) * invMod ecP (2 * y) % ecP
        else (v + ecP - y) * invMod ecP (u + ecP - x) % ecP
      let w := (l * l + 2 * ecP - x - u) % ecP
      some (w, (l * (x + ecP - w) + ecP - y) % ecP)

/-- A multiple of a point. -/
def ecMul (k : Nat) (a : Option (Nat × Nat)) : Option (Nat × Nat) :=
  (bitsDown 384 k).foldl (fun s b => let q := ecAdd s s; if b then ecAdd q a else q) none

/-- A point of the curve. -/
def ecOn (x y : Nat) : Bool :=
  decide (x < ecP) && decide (y < ecP) && decide ((y * y + 3 * x) % ecP = (x * x * x + ecB) % ecP)

/-- Whether a signature, r then s, verifies under a public key, x then y, each 48 bytes and big-endian (R448). -/
def ecdsaOk (key digest sig : List Byte) : Bool :=
  let x := beNat (slice key 0 48)
  let y := beNat (slice key 48 48)
  let r := beNat (slice sig 0 48)
  let t := beNat (slice sig 48 48)
  let w := invMod ecN t
  decide (1 ≤ r) && decide (r < ecN) && decide (1 ≤ t) && decide (t < ecN) && ecOn x y &&
    match ecAdd (ecMul (beNat digest * w % ecN) (some ecG)) (ecMul (r * w % ecN) (some (x, y))) with
    | none => false
    | some q => decide (q.1 % ecN = r)

/-- The public key of a private one (R447, R448). -/
def pubOf (key : List Byte) : List Byte :=
  match ecMul (beNat key % ecN) (some ecG) with
  | none => []
  | some q => beBytes 48 q.1 ++ beBytes 48 q.2

end Sys2Proof.Machine
end

