-- ==== Sys2Proof/Config.lean ====
section
/-!
DEFINITION. Sys2Proof/Config.lean: what one part fixes (its serial, its stepping, its fuses) and the free
values: the values that the spec leaves open.  Each free value is an opaque constant with no body, so
that nothing can be proved of the value it takes.
-/

namespace Sys2Proof

/-- A fresh free value for each number the step draws (DESIGN CHOICE, log entry 3).  Every choice that the spec leaves
open between several allowed outcomes is taken from this sequence. -/
opaque Config.freeNat : Nat → Nat

/-- A fresh free bit string of the given number of bytes (nonces, signatures, session bytes). -/
opaque Config.freeBytes : Nat → Nat → List Byte

/-- The 64-bit serial of the part (R70, R492). -/
opaque Config.serial : Nat

/-- The stepping of the die (R469, R493). -/
opaque Config.stepping : Nat

/-- The 48-bit provisioned identifier that GETPID returns (R586). -/
opaque Config.pid : Nat

/-- The special functions of VSFN and SMERGE that the spec bounds to 2 ulp and does not state to the
bit: function number and operand bits to result bits (R208, R340). -/
opaque Config.special : Nat → Nat → Nat

/-- The conversion of an integer to a narrower integer format that cannot hold it: width and operand to
result bits; the spec states no result (DESIGN CHOICE, log entry 24). -/
opaque Config.narrow : Nat → Nat → Nat

/-- The unique device secret, fused at manufacture, and the fixed label of the device identity key (R447). -/
opaque Config.uds : List Byte
opaque Config.idLabel : List Byte

/-- The P-384 private key that a secret gives, always the same for the same secret (R447); how a key is made from its
secret the spec does not state. -/
opaque Config.keyOf : List Byte → List Byte

/-- The X.509 certificate of a public key signed by a private one, with the digests of its layer in the TcbInfo
extension (R447): issuer's key, subject's key, digests. -/
opaque Config.certOf : List Byte → List Byte → List Byte → List Byte

/-- The certificates that the flash holds from manufacture: the root CA, the device CA, the device identity (R447). -/
opaque Config.deviceCerts : List (List Byte)

/-- The component table of a bundle, and that of the golden image (R445, R447). -/
opaque Config.bundleTable : List Byte → List Byte
opaque Config.goldenTable : List Byte

/-- The answer of the SEC core to an SPDM request that it supports, beyond what the spec states (R459): a fresh number, the signing
key, the certificate chain of slot 0, the measurements of R460, and the request. -/
opaque Config.spdmAnswer : Nat → List Byte → List (List Byte) → List Byte → List Byte → List Byte

/-- The SPDM answer ERROR ResponseNotReady to a request (R437). -/
opaque Config.spdmNotReady : List Byte → List Byte

/-- The SEC ROM and the components of the golden image, as they are measured (R460). -/
opaque Config.secRom : List Byte
opaque Config.goldenComp : Nat → List Byte

/-- The digests that the ROM holds: those of the Nymquel debug keys, and those of the four firmware keys (R448,
R461). -/
opaque Config.romDebugDigests : List (List Byte)
opaque Config.romKeyDigest : Nat → List Byte

/-- What a bundle says of itself: its SVN, its key index and that key, its signature over its component table, the
digest that the table gives a component, the mask of keys it revokes (R445, R448, R449).  The layout of a bundle is
not given (DESIGN CHOICE, log entry 28). -/
opaque Config.bundleSvn : List Byte → Nat
opaque Config.bundleKey : List Byte → Nat
opaque Config.bundlePub : List Byte → List Byte
opaque Config.bundleSig : List Byte → List Byte
opaque Config.bundleDigest : List Byte → Nat → List Byte
opaque Config.bundleRevoke : List Byte → Nat

/-- The trace points that the firmware meets while it serves a command, each with its body (R441 to R443): where a
trace point stands its catalogue says, which the spec does not give (DESIGN CHOICE, log entry 174). -/
opaque Config.traceHits : Nat → List (Nat × List Byte)

/-- The bytes of a component in a bundle, by its ID (R432); none where the bundle does not carry it. -/
opaque Config.bundleComp : List Byte → Nat → List Byte

/-- The trace point catalogue that a bundle carries (R443). -/
opaque Config.bundleTrace : List Byte → List Byte

/-- Whether an identity record names a dovetail cartridge; the layout of the record is not given. -/
opaque Config.dovetail : List Byte → Bool

/-- The thermal resistance fused for a zone, in units of 1/1,024 °C/W (R415, R428). -/
opaque Config.rth : Nat → Nat

/-- The results of a library program's arithmetic whose rounding the spec leaves open (R262, R263). -/
opaque Config.attention : List Byte → Nat → List Byte

end Sys2Proof
end

