-- ==== Sys2Proof/Machine/State.lean ====
section
/-!
DEFINITION. Sys2Proof/Machine/State.lean: the state of the block as plain data, the reasons a step can
stop, and the state after reset.
-/

namespace Sys2Proof.Machine

/-! ### Package: supplies, domains, clocks (chapters 02, 21) -/

/-- The depth of a power domain (R38). -/
inductive Depth where
  | run
  | gated
  | retain
  | off
  deriving DecidableEq, Repr

/-- How a domain that is OFF came to be OFF (R40). -/
inductive OffKind where
  | held
  | idle
  | stop
  deriving DecidableEq, Repr

/-- A power domain: its depth, how it is OFF while it is, and whether it is on its way to RUN (R38–R42). -/
structure Domain where
  depth   : Depth
  off     : OffKind
  exiting : Bool
  deriving DecidableEq, Repr

/-- The supplies, straps, clocks and reset progress of the package. -/
structure Power where
  vinAon    : Bool
  vinIo     : Bool
  vinMain   : Bool
  /-- straps as sampled (R588) -/
  leadSel   : Bool
  bootSrc   : Bool
  sampled   : Bool
  /-- PERST_N is asserted -/
  perst       : Bool
  /-- step of the power-up sequence of R557 that has been completed -/
  bootStep  : Nat
  doms      : Tab Domain
  /-- shuttle clock of each cluster, in MHz (R46) -/
  shuClk    : Tab Nat
  /-- clusters and stacks that failed their power-up test and stay OFF (R558) -/
  sramFail  : Nat
  hbmFail   : Nat
  /-- HBM bytes whose data ECC cannot correct (R315, R577): no command brings an error (log entry 96) -/
  hbmBad    : List Nat
  hbmTrained : Nat
  /-- the level of ALERT_N by the causes that hold it: main-supply loss, loss of REFCLK_FAB -/
  alertMain : Bool
  alertClk  : Bool
  /-- a fault of the leak loop (R421) -/
  alertLoop : Bool
  thermtrip : Bool
  /-- the AON count at the last trim comparison (R49) -/
  trimAt : Nat
  /-- ISO link (R34–R37): last transmitted frame, SEQ of the next, last STATUS payload -/
  isoTx     : List Byte
  isoSeq    : Nat
  isoStatus : List Byte
  /-- self-tests in progress: test, target, Cuing tag that asked -/
  tests     : List (Nat × Nat × Nat)
  /-- the dynamic address on the tray controller's bus (R586), and the bytes of the last I3C answer -/
  i3cAddr   : Option Nat
  i3cOut    : List Byte
  shuOut    : List Nat
  deriving DecidableEq, Repr

/-! ### Fabric link (chapter 03) -/

/-- The link state of a port (R72, R88). -/
inductive LState where
  | dark
  | train
  | active
  | hold
  | down
  deriving DecidableEq, Repr

/-- The reason of a HOLD (R74). -/
inductive HoldReason where
  | none
  | rest
  | freeze
  deriving DecidableEq, Repr

/-- The depth of a HOLD (R75). -/
inductive HoldDepth where
  | lit
  | dark
  deriving DecidableEq, Repr

/-- A DATA frame kept for replay: its FSN and its four slots, each empty or a channel and a pick (R65). -/
structure DFrame where
  fsn   : Nat
  slots : List (Option (Nat × List Byte))
  deriving DecidableEq, Repr

/-- A packet being received on a channel: its number in the device and the data picks still to come. -/
structure RxPkt where
  pid  : Nat
  left : Nat
  deriving DecidableEq, Repr

/-- The state of one port's link. -/
structure Port where
  lstate      : LState
  downCause   : Nat
  laneActive  : Nat
  laneFailed  : Nat
  laneLent    : Nat
  lanePll     : Nat
  peerLanes   : Nat
  peerResync  : Bool
  peerPace    : Bool
  peerKind    : Nat
  peerRole    : Nat
  roleMismatch : Bool
  holdReason  : HoldReason
  holdDepth   : HoldDepth
  holdAsn     : Nat
  holdLimEff  : Nat
  advPeer     : List Nat
  advNow      : List Nat
  peerEid     : Nat
  peerIdent   : Nat
  /-- LINK_EID and IDENT recorded at the last ACTIVE (R73) -/
  lastPeer    : Option (Nat × Nat)
  /-- the body of the TRAIN_PARAMS or RESYNC this side sent last, from byte 2 (R70) -/
  mine        : List Byte
  gotParams   : Bool
  gotAck      : Bool
  /-- a RESYNC that has been exchanged and waits for the port's domains (R42, R78) -/
  resyncMsg   : Option (List Byte)
  /-- credit counters S and F, and the peer's last reported F (R61) -/
  sCnt        : List Nat
  fCnt        : List Nat
  fPeer       : List Nat
  txFsn       : Nat
  rxFsn       : Nat
  retryReq    : Bool
  replay      : List DFrame
  replayAt    : Option Nat
  retryAsn    : Option Nat
  retryRow    : Nat
  rx          : Tab (Option RxPkt)
  /-- control messages: to send, waiting for an answer, received and not yet acted on (R69) -/
  ctlTx       : List (List Byte)
  ctlWait     : List (List Byte)
  ctlRx       : List (List Byte)
  ctlSeqTx    : Tab Nat
  ctlSeqRx    : Tab Nat
  /-- the message sent last of each TYPE: the answer to a request that is sent again (R69) -/
  ctlLast     : Tab (List Byte)
  ctlBad      : Nat
  paceIgnored : Nat
  crPtr       : Nat
  /-- the channel whose turn it is in the round of R110, and the picks left of that turn -/
  wrr         : List Nat
  holdReq     : Option (HoldReason × HoldDepth)
  /-- a width change asked for and not yet answered: lane mask and CAUSE; those waiting behind it -/
  widthReq    : Option (Nat × Nat)
  widthWait   : List (Nat × Nat)
  /-- the CW_COUNT this side's WIDTH names (R69, R79) -/
  widthAt     : Nat
  lentMine    : Bool
  /-- RATE in force by channel REQ, CUP, BULK from congestion (R161) and from the treadle (R162) -/
  paceCong    : List Nat
  paceTrd     : List Nat
  lastTx      : List Byte
  /-- CW_COUNT of the next codeword period, the bytes of the frame stream that wait for it, the scrambler of
  each lane, and the PAM4 levels of the codeword each lane sent last (R51 to R53) -/
  cwCount     : Nat
  cwBytes     : List Byte
  scramble    : Tab Nat
  line        : Tab (List Nat)
  txOn        : Bool
  deriving DecidableEq, Repr

/-! ### Packets, switching, windows (chapters 04 to 06) -/

/-- A packet in the device: its number, header pick, data received so far, the queue it came from
(port, or 128 + c for the injection queue of cluster c), the channel it is on, the picks of it that
have left, its limits as taken when its header reached the head of its queue (R597), and for a
multicast copy the group and chunk it carries and the members it still waits for, if not all (R141); whether
the link it came over has been rebuilt since (R72, R78), and how many of its data picks are zeros that the
device put in (R169). -/
structure QPkt where
  pid    : Nat
  hdr    : List Byte
  data   : List Byte
  inq    : Nat
  vc     : Nat
  sent   : Nat
  ageLim : Nat
  escLim : Nat
  checked : Bool
  mc     : Option (Nat × Nat × Nat)
  only   : Option (List Nat)
  stale  : Bool := false
  pad    : Nat := 0
  /-- The header has reached the head of its queue: its limits are those in force then (R597). -/
  atHead : Bool := false
  deriving DecidableEq, Repr

/-- The queues of the crossbar (R122): input queues by q * 8 + channel, output queues by port * 8 +
channel, and packets sunk and not yet acted on. -/
structure Switch where
  inq     : Tab (List QPkt)
  outq    : Tab (List QPkt)
  sunk    : List QPkt
  nextPid : Nat
  /-- FLOW and FSN of packets to this device that failed the end-to-end check and that no operation has taken
  account of (R108) -/
  e2eSeen : List (Nat × Nat)
  deriving DecidableEq, Repr

/-- The state of one tracked FSN of a window (R133). -/
inductive FsnState where
  | empty
  | held (p : QPkt)
  | done
  deriving DecidableEq, Repr

/-- A destination window record (R128–R134). -/
structure Win where
  src     : Nat
  dst     : Nat
  flow    : Nat
  home    : Nat
  cp      : Nat
  pkts    : Nat
  reqPicks : Nat
  rspPicks : Nat
  spray   : Bool
  pinned  : Bool
  states  : Tab FsnState
  broken  : Bool
  fromImage : Option Nat
  idleLim : Nat
  reorderLim : Option Nat
  deriving DecidableEq, Repr

/-- What an operation the device issued is for: a program's PUT, GET (bench destination), ATOMIC (bench
block) or CALL (bench block) (R360), a move of an asynchronous copy (R371), a LEND or RETURN (R252,
R253), packet i of a page being migrated (R255) or recalled (R256), mirror data (R513). -/
inductive OpKind where
  | put
  | get (dest : Nat)
  | atomic (block : Nat)
  | call (block : Nat)
  | move (x k i : Nat)
  | lend (slot opening eid : Nat)
  | ret (n : Nat)
  | mirror (key : Nat)
  | migrate (no i : Nat)
  | recall (no i : Nat)
  deriving DecidableEq, Repr

/-- An operation the device issued and whose response has not come: its FSN, its request picks, the
largest response it can draw, its SIZE. -/
structure Op where
  fsn    : Nat
  kind   : OpKind
  picks  : Nat
  rsp    : Nat
  size   : Nat
  /-- OP_TIMEOUT_US when it was issued (R119) -/
  limit  : Nat
  deriving DecidableEq, Repr

/-- The state of a source window context (R356, R357). -/
inductive SrcState where
  | closed
  | opening
  | opened
  | closing
  deriving DecidableEq, Repr

/-- A source window context: the image that declared it, the work item that holds it, its destination,
its next FSN, its grant, the status that marked it FAILED (R358; 0 none), the failures not yet
reported (R359), its outstanding operations, oldest first, the requests that aged in the device, which have had
no response and count on (R127, R170), OP_TIMEOUT_US when its WOPEN was sent (R119), and whether the device opened it
for accesses of its own (R253, R371), which no program names. -/
structure SrcWin where
  state   : SrcState
  image   : Option Nat
  item    : Option Nat
  dst     : Nat
  fsn     : Nat
  pkts    : Nat
  reqPicks : Nat
  rspPicks : Nat
  spray   : Bool
  failed  : Nat
  fails   : List Nat
  ops     : List Op
  aged    : List Op
  limit   : Nat
  own     : Bool := false
  deriving DecidableEq, Repr

/-- The end of an operation the device issued for itself: status and response payload. -/
structure OpEnd where
  kind   : OpKind
  status : Nat
  data   : List Byte
  deriving DecidableEq, Repr

/-- Packets that reach the device, have no response and are discarded: RESULT and GROUP_FAIL that match no join
(R369, R378), responses that break their form (R98, R107), and responses that match no open operation (R96, R317).
The spec counts them and names no register. -/
structure Drops where
  results : Nat
  forms   : Nat
  late    : Nat
  grants  : Nat
  mgt     : Nat
  deriving DecidableEq, Repr

/-- The RTE block's flow state: windows of both kinds, the ends of the device's own operations, the Cuing command a
commit answers, and the counts that no register shows. -/
structure Flows where
  wins     : List Win
  srcs     : Tab SrcWin
  ends     : List OpEnd
  commitTag : Option Nat
  drops    : Drops
  deriving DecidableEq, Repr

/-! ### Bobbin pool (chapter 07) -/

/-- Who holds a reservation or a buffer of a pool (R185). -/
inductive Holder where
  | port (p v : Nat)
  | window (src dst flow : Nat)
  | item (i : Nat)
  | group (g : Nat)
  | image (i : Nat)
  | inject (pid : Nat)
  | imgPkt (i pid : Nat)
  | mcast (pid : Nat)
  | payload (item : Nat)
  deriving DecidableEq, Repr

/-- A buffer whose state bit is HELD (R190). -/
structure Buf where
  cls    : Nat
  idx    : Nat
  rsvd   : Bool
  holder : Holder
  deriving DecidableEq, Repr

/-- A committed reservation: n buffers of a class (R183). -/
structure Rsv where
  holder : Holder
  cls    : Nat
  n      : Nat
  deriving DecidableEq, Repr

/-- A waiting unreserved draw (R186): its first class, its size and who asked. -/
structure Draw where
  cls    : Nat
  holder : Holder
  deriving DecidableEq, Repr

/-- The pool of one cluster.  `fill` holds for each port channel the picks in its newest buffer and the
picks that have left its oldest (R185). -/
structure Pool where
  held  : List Buf
  rsvs  : List Rsv
  waits : List Draw
  fill  : Tab (Nat × Nat)
  /-- the throttling level of the cluster: 0 none, 1 slowed, 2 stopped (R159) -/
  level : Nat := 0
  deriving DecidableEq, Repr

/-! ### Host attachment and Cuing (chapter 17) -/

/-- An entry the device has written to a ring in host memory (R482): the ring (1 reply, 2 event), its
index there, and its fields. -/
structure HostEntry where
  ring    : Nat
  idx     : Nat
  minor   : Nat
  opcode  : Nat
  tag     : Nat
  member  : Nat
  flags   : Nat
  status  : Nat
  dataAddr : Nat
  capacity : Nat
  payload : List Byte
  deriving DecidableEq, Repr

/-- Where a Cuing command in progress came from: this device's ring, this device's ring for a member, or
the lead over VC 4. -/
inductive Origin where
  | host
  | relay (m : Nat)
  | lead
  deriving DecidableEq, Repr

/-- A Cuing command in progress (R480). `phase` is 0 until its own command performs it, and 1 while
its reply waits for an end that comes later. -/
structure Prog where
  tag      : Nat
  opcode   : Nat
  minor    : Nat
  member   : Nat
  scatter  : Bool
  serial   : Bool
  rbuf     : Bool
  dataAddr : Nat
  capacity : Nat
  payload  : List Byte
  origin   : Origin
  phase    : Nat
  /-- the function was reset while the command ran: its reply is discarded (R471) -/
  gone     : Bool
  deriving DecidableEq, Repr

/-- A member as its lead knows it (R26, R489): its EID, whether it is bound and whether its path is
lost, and the event slots it holds credit for. -/
structure Member where
  bound   : Bool
  serial  : Nat
  eid     : Nat
  lost    : Bool
  credit  : Nat
  deriving DecidableEq, Repr

/-- A relayed message being put together from its segments (R488). -/
structure Relay where
  tag   : Nat
  member : Nat
  entry : List Byte
  total : Nat
  segs  : List (Nat × List Byte)
  deriving DecidableEq, Repr

/-- The state of the host attachment. -/
structure HostIf where
  prog     : List Prog
  written  : List HostEntry
  /-- scatter bytes the device has written to host memory: address and bytes -/
  dma      : List (Nat × List Byte)
  evtHeld  : List HostEntry
  /-- events lost since the last EVENTS_LOST entry, and that entry is due: the ring was full (R481) -/
  evtGap   : Nat
  evtOwed  : Bool
  /-- replies, and the bytes to write before each, that wait until the function may write (R471) -/
  replyHeld : List (HostEntry × List (Nat × List Byte))
  evtMask  : Nat
  /-- the members as their lead knows them (R26) -/
  members  : Tab Member
  bound    : Bool
  leadEid  : Nat
  memberIdx : Nat
  cut      : Bool
  /-- as a member: events waiting for credit, and the credit held (R489) -/
  memEvts  : List HostEntry
  memCredit : Nat
  relayIn  : List Relay
  relayBack : List Relay
  /-- commands refused a reply because the relay gave up on them (R490) -/
  gaveUp   : List (Nat × Nat)
  /-- MSI-X vectors signalled, in order, and the vectors with a signal pending (R475) -/
  msix     : List Nat
  msixWait : List Nat
  msixQuiet : List Nat
  bme      : Bool
  d3hot    : Bool
  linkDead : Bool
  aerCorr  : Nat
  aerNonfatal : Nat
  aerFatal : Nat
  urCount  : Nat
  bar2Out  : List Byte
  doeOut   : List (List Byte)
  deriving DecidableEq, Repr

/-! ### Firmware, log, security (chapter 16) -/

/-- A log record (R442). -/
structure LogRec where
  time   : Nat
  seq    : Nat
  source : Nat
  kind   : Nat
  code   : Nat
  body   : List Byte
  deriving DecidableEq, Repr

/-- The secrets and keys that the SEC core derives at a boot, and the certificates of its alias keys (R447): none until
it has booted. -/
structure SecKeys where
  cdi0  : List Byte
  l0    : List Byte
  cdi1  : List Byte
  l1    : List Byte
  certs : List (List Byte)
  deriving DecidableEq, Repr

/-- The state of the plinth complex, the security core and the boot flash beyond their registers. -/
structure Firmware where
  /-- bundles in slots A and B of the flash (R444) -/
  slots     : List (Option (List Byte))
  bootRec   : List (List Byte)
  polRec    : List (List Byte)
  /-- the policy record in force; none: the default policy (R456) -/
  policy    : List Byte
  keys      : SecKeys
  /-- bytes staged so far (R450), the length of the bundle, and the command that ended the staging -/
  stage     : List Byte
  stageLen  : Nat
  stageTag  : Option Nat
  /-- activation: components still to activate and those activated, newest first (R451, R452) -/
  actTodo   : List Nat
  actDone   : List Nat
  actLive   : Bool
  actStarted : Bool
  commitOk  : Bool
  /-- what a revert under way will report (R451, step 9) -/
  revertSt  : Nat
  fuseF     : Nat
  keyRevoked : Nat
  ownerDigest : List Byte
  nonce     : Option (List Byte)
  /-- the profile has been made OPEN by a debug unlock (R441) -/
  opened    : Bool
  log       : List LogRec
  logSeq    : Nat
  staging   : List LogRec
  compTimes : List (Nat × Nat)
  kernTimes : List Nat
  haltedCores : Nat
  /-- delegates restarting: 0 SEC, 1 treadle, 2 scheduler, 3 + n control core n -/
  delegates : List Nat
  traceLast : Tab Nat
  deriving DecidableEq, Repr

/-! ### The treadle (chapter 14) -/

/-- The state of the treadle beyond its registers; powers in hundredths of a watt. -/
structure Treadle where
  g         : Nat
  ballast   : Nat
  rackIn    : Nat
  hostIn    : Nat
  /-- the leak target of R422, 1,200 W when none -/
  leakCap   : Nat
  /-- CAP_EFF and FLOOR_EFF as last formed (R385) -/
  capNow    : Nat
  floorNow  : Nat
  supplyOn  : Bool
  flowOn    : Bool
  leakOn    : Bool
  /-- CAP_EFF on entry to RACK_HOLD, which it may not exceed (R398) -/
  holdCap   : Option Nat
  descent   : Bool
  /-- ballast cannot reach FLOOR_EFF (R389) -/
  short     : Bool
  mode      : Nat
  /-- tools 2 to 4 of R388 by cluster: notches taken off the shuttle clock, dispatch held (a mask), F of
  the forwarding throttle, 0 when not engaged -/
  notch     : Tab Nat
  dispatchHold : Nat
  throttle  : Tab Nat
  shares    : Tab Nat
  /-- steps since CAP_EFF last changed, at most 10,000 (R399) -/
  steadyFor : Nat
  /-- package and domain samples, newest first (R381) -/
  pkgHist   : List Nat
  domHist   : Tab (List Nat)
  /-- the safety inputs as the last step latched them (R380, R396): supply, flow, leak, other thermal causes -/
  seen      : List Nat
  /-- D was above G at the last step (R387) -/
  overG     : Bool
  deepIdle  : Bool
  deriving DecidableEq, Repr

/-! ### Thermal, coolant, leak, cartridges (chapter 15) -/

/-- The state of thermal protection beyond its registers: sensor readings and zone temperatures stand
in their registers. -/
structure Thermal where
  /-- per zone: the cluster limit of the WARN rung in hundredths of a watt, none when not on it -/
  warnCap  : Tab (Option Nat)
  /-- per cluster: limited to 75 W for want of a usable sensor (R417) -/
  blindCap : Nat
  /-- terms of THERM_IN: LIMIT in W, CRIT, an unusable plinth zone in W; COOL_HIGH stands in THM_LEAK -/
  limitCap : Nat
  critOn   : Bool
  plinthCap : Nat
  inFailed  : Bool
  outFailed : Bool
  /-- samples in a row in the band of the last LEAK_SENSE sample, and that band -/
  leakRun  : Nat
  leakBand : Nat
  deriving DecidableEq, Repr

/-- A cable cartridge beyond its status register: its identity record, its selector's report. -/
structure Cart where
  record   : List Byte
  laserCmd : Bool
  claim    : Option Nat
  selStatus : Nat
  /-- the commands that asked for the inspection under way (tags; a register write has none); none where its
  insertion did -/
  inspectBy : Option (List Nat)
  deriving DecidableEq, Repr

/-! ### Dovetail pair (chapter 18) -/

/-- One side of a move: a bench offset, an HBM address, an HBM address of another device, the same HBM
address at the dovetail partner (R257). -/
inductive Loc where
  | bench (a : Nat)
  | hbm (a : Nat)
  | fab (eid a : Nat)
  | ext (eid a : Nat)
  | twin (a : Nat)
  deriving DecidableEq, Repr

/-- A move of bytes within a copy; `done` 0 not begun, 1 asked for over the fabric, 2 performed. -/
structure Move where
  src  : Loc
  dst  : Loc
  n    : Nat
  done : Nat
  deriving DecidableEq, Repr

/-- A mirror item sent and not yet acknowledged, or being put together at the standby (R595). -/
structure MirItem where
  seq   : Nat
  typ   : Nat
  key   : Nat
  segs  : Nat
  bytes : Nat
  got   : List (Nat × List Byte)
  tag   : Option Nat
  reply : List Byte
  deriving DecidableEq, Repr

/-- The state of the pair agent beyond its registers. -/
structure Pair where
  hbSeq     : Nat
  hbFrame   : Nat
  /-- the last sideband frame sent -/
  hbTx      : List Byte
  itemSeq   : Nat
  unacked   : List MirItem
  waiting   : List MirItem
  rxItems   : List MirItem
  applied   : Nat
  /-- as standby: a baseline is open; the items it counts, once it has closed -/
  baseline  : Bool
  baseCount : Option Nat
  /-- records received as standby: type, key, body -/
  mirrored  : List (Nat × Nat × List Byte)
  /-- mirror data not yet acknowledged: number and move; the number of the next -/
  push      : List (Nat × Move)
  pushNext  : Nat
  /-- FLAGS of the partner's last heartbeat in band and on the sideband (R509, R510) -/
  peerIn    : Nat
  peerSide  : Nat
  abdicated : Bool
  swapTag   : Option Nat
  deriving DecidableEq, Repr

/-! ### Counters and maps (chapter 19) -/

/-- What the counter and register blocks hold beyond their words: the number of the next congestion map,
the largest occupancies sampled in its interval, the latched high words by address (R413, R531), and
the words of the last direct read. -/
structure Cnt where
  mapSeq  : Nat
  occMax  : Tab Nat
  pctMax  : Tab Nat
  latch   : Tab (Option Word)
  readOut : List Word
  deriving DecidableEq, Repr

/-! ### Sequence memory (chapter 09) -/

/-- What a sequence frame that is not free is used for: a page or page table of a slot, a frame lent to
an EID, an old frame whose readers have not ended (R255), a frame a page is moving to, a frame that test
0x07 withdrew (R563). -/
inductive FrameUse where
  | free
  | slot (n : Nat)
  | lent (eid : Nat)
  | old
  | moving
  | bad
  deriving DecidableEq, Repr

/-- A page that travels: its number among all that have travelled, its slot and LPN, its new frame, and its
moves. -/
structure PageMove where
  no     : Nat
  slot   : Nat
  lpn    : Nat
  frame  : Nat
  moves  : List Move
  deriving DecidableEq, Repr

/-- An evacuation in progress (R255): its stack, whether pages may go to lenders, the frames set aside,
whether it is to be aborted, and the page that travels to a lender. -/
structure Evac where
  stack  : Nat
  remote : Bool
  aside  : Nat
  abort  : Bool
  page   : Option PageMove
  deriving DecidableEq, Repr

/-- A recall in progress (R256): its slot, the Cuing command that asked, the page that travels. -/
structure Bring where
  slot   : Nat
  tag    : Option Nat
  page   : Option PageMove
  deriving DecidableEq, Repr

/-- The state of the SEQ block beyond its registers: frames in use, stacks out of allocation, the
evacuation, the slot being recalled with the Cuing command that asked, frames lent to this device and
not yet placed (slot, frame), lends asked for and lends refused, by slot, slots reserved to images,
frames to be returned by lender, a SERVICE reload in progress, and old frames of moved pages with the
items that had translated them. -/
structure Seq where
  frames  : Tab FrameUse
  outMask : Nat
  evac    : Option Evac
  recalling : List Bring
  lentIn  : List (Nat × Nat)
  asked   : List Nat
  refused : List Nat
  reserved : Tab (Option Nat)
  returns : List (Nat × List Nat)
  reload  : Bool
  readers : List (Nat × List Nat)
  /-- how often each slot has been opened, and how many pages have travelled: they tell an answer that comes late
  from one that is awaited (R253, R256) -/
  openings : Tab Nat
  moveNo   : Nat
  deriving DecidableEq, Repr

/-! ### Work items and Dapor contexts (chapters 10 to 13) -/

/-- Who is answered when a work item ends: a remote caller, or a program's local call (R283). -/
inductive Caller where
  | remote (dst src flow fsn : Nat) (pinned : Bool)
  | prog (x item block : Nat) (buf : Option Nat)
  | gone (x : Nat) (buf : Option Nat)
  deriving DecidableEq, Repr

/-- A work item, queued or running (R279): its form X operation fields (bytes 16 to 55), its caller, its
payload, and the context it runs on. -/
structure Item where
  id      : Nat
  desc    : Nat
  cluster : Nat
  image   : Nat
  entry   : Nat
  queue   : Nat
  form    : List Byte
  src     : Nat
  caller  : Caller
  payload : List Byte
  runs    : Option Nat
  start   : Nat
  /-- LEN of the layer as it was at dispatch (R249), and the frames it has translated (R255) -/
  len0    : Nat
  reads   : List Nat
  /-- windows with failures that FWAIT has not reported, in the order the failures came; 8193 for local
  calls (R377) -/
  failed  : List Nat
  /-- OP_TIMEOUT_US when the local call that made it was issued (R119, R364) -/
  limit   : Nat
  deriving DecidableEq, Repr

/-- A resident image beyond its PLN_IMAGE words (R275, R320). -/
structure Image where
  granules : Nat
  codeBase : Nat
  codeBytes : Nat
  codeKib  : Nat
  dataBase : Nat
  dataBytes : Nat
  dataKib  : Nat
  rsv      : List Nat
  queues   : List Nat
  slots    : List Nat
  groups   : List Nat
  entries  : List (Nat × Nat × Nat × Nat)
  reorder  : Nat
  reorderUsed : Nat
  handles  : List Nat
  /-- contents of the buffers its programs hold, by program data handle (R318, R345) -/
  bufs     : Tab (Tab Byte)
  library  : Option Nat
  buildId  : Nat
  /-- the image's own bytes, kept by the SEC firmware for a SERVICE image (R236) -/
  bytes    : List Byte
  deriving DecidableEq, Repr

/-- A load in progress (R277): its tag, its index, IMAGE_EID, its bytes, and whether its checks passed. -/
structure Load where
  tag    : Option Nat
  idx    : Nat
  eid    : Nat
  bytes  : List Byte
  copying : Bool
  deriving DecidableEq, Repr

/-- The state of the shed scheduler: work items, images, deficits and pointers, set-aside shuttles,
loads and unloads in progress. -/
structure Shed where
  items   : List Item
  nextId  : Nat
  images  : Tab (Option Image)
  dfc     : Tab Int
  ptr     : Tab Nat
  aside   : List (Nat × Nat × Nat)
  /-- items whose wait for a bench has expired while another shuttle was set aside: cluster, item (R286) -/
  claims  : List (Nat × Nat)
  load    : Option Load
  unload  : List (Nat × Option Nat)
  ready   : Tab (List Nat)
  /-- the context that last issued on each shuttle, plus 1 (R526, code 0x04) -/
  lastCtx : Tab Nat
  /-- the context that each shuttle executes, plus 1; 0 for none (R272, R295) -/
  exec    : Tab Nat
  deriving DecidableEq, Repr

/-- An outstanding copy of a context (R344, R371): kind 0 MCPY, 1 SAPP, 2 SGATH. -/
structure Copy where
  k     : Nat
  tag   : Nat
  kind  : Nat
  moves : List Move
  slot  : Nat
  layer : Nat
  token : Nat
  n     : Nat
  status : Nat
  fin   : Bool
  /-- an append: its copies to the dovetail partner have been asked for, or it goes without (R257) -/
  twin  : Bool := false
  deriving DecidableEq, Repr

/-- A join record (R365 to R369). -/
structure Join where
  group   : Nat
  member  : Nat
  epoch   : Nat
  eid     : Nat
  desc    : List Byte
  sent    : Nat
  got     : Tab Nat
  done    : Nat
  status  : Option Nat
  deriving DecidableEq, Repr

/-- An instruction that waits: the grant of a window context for register D, the grant of a gate in join
record j for register D, or an issue stalled by its window or by injection throttling. -/
inductive Wait where
  | no
  | grant (w d : Nat)
  | gate (j d : Nat)
  | stall (op et fn b a d : Nat)
  deriving DecidableEq, Repr

/-- A hardware context (R297 to R301). -/
structure Ctx where
  item  : Option Nat
  pc    : Nat
  s     : Tab (BitVec 64)
  v     : Tab (BitVec 2048)
  t     : Tab (BitVec 32)
  p     : Tab (BitVec 256)
  fp8   : Nat
  rmode : Nat
  flags : Nat
  bench : Tab Byte
  /-- bench bytes with an uncorrectable error (R289, R315) -/
  benchBad : List Nat
  wait  : Wait
  copies : List Copy
  nextK : Nat
  joins : Tab (Option Join)
  /-- local calls outstanding (R364), and their failures not yet reported -/
  calls : Nat
  callFails : List Nat
  /-- the sampling counter whose overflow waits for the next PC (R529): counter, AON count -/
  sample : Option (Nat × Nat)
  deriving DecidableEq, Repr

/-! ### Collective groups (chapter 08) -/

/-- A reed's state for one chunk of a group (R220): the folded elements in the group's own form, each
member's element count, contributions buffered for ORDERED folding, and the release of its result. -/
structure Slot where
  chunk   : Nat
  acc     : Tab Nat
  flags   : Tab Nat
  counts  : Tab Nat
  buf     : List (Nat × Nat × List Byte)
  folded  : Nat
  result  : Option (List Byte)
  /-- plan entries not yet released: their waves -/
  waves   : List Nat
  /-- the AON count at which the result was held, and the spacing of the waves in force then, µs (R401) -/
  heldAt  : Nat
  spacing : Nat
  copies  : Nat
  /-- the handle of the buffer that holds the result (R212) -/
  hand    : Option Nat
  deriving DecidableEq, Repr

/-- The running state of a group: its open slots by global chunk, the oldest instance not yet
complete, chunks already freed beyond it, failed instances, and the grant queue and grants of a GATE, each an
instance and a member. -/
structure Group where
  slots   : List Slot
  oldest  : Nat
  freed   : List Nat
  failed  : List Nat
  queue   : List (Nat × Nat)
  granted : List (Nat × Nat)
  grants  : List Nat
  deriving DecidableEq, Repr

/-! ### The whole block -/

/-- Why a step stops with a fault.  No command of this block faults: the constructor is kept for the
host's interface and nothing raises it (safe). -/
inductive Fault where
  /-- raised by no command (safe) -/
  | none
  deriving DecidableEq, Repr

/-- Why a step refuses a command. -/
inductive Refusal where
  /-- raised only by the dispatcher, for a command that has no meaning yet (safe) -/
  | notModelled (mnemonic : String)
  deriving DecidableEq, Repr

/-- The state of the block. -/
structure State where
  /-- commands waiting, first in, first out -/
  pending : List Instr
  /-- free values drawn so far (the model's own field, log entry 3) -/
  free    : Nat
  /-- the AON cycle count (R47, R540) -/
  aon     : Nat
  /-- register space: every register that holds its own value, by address (R567) -/
  regs    : Tab Word
  pwr     : Power
  ports   : Tab Port
  sw      : Switch
  pools   : Tab Pool
  flows   : Flows
  groups  : Tab Group
  /-- HBM contents by device-global address (R234) -/
  mem     : Tab Byte
  seq     : Seq
  shed    : Shed
  ctxs    : Tab Ctx
  grpCmd  : Option (Nat × Nat × Nat × Option Nat)
  host    : HostIf
  fw      : Firmware
  trd     : Treadle
  thm     : Thermal
  carts   : Tab Cart
  pair    : Pair
  cnt     : Cnt
  deriving DecidableEq, Repr

/-- A step's outcome. -/
abbrev Out := Host.Outcome State Fault Refusal

/-! ### Reset values of the parts -/

/-- The link of a port that has never trained: DARK (R88). -/
def portReset : Port where
  lstate := .dark
  downCause := 0
  laneActive := 0
  laneFailed := 0
  laneLent := 0
  lanePll := 0
  peerLanes := 0
  peerResync := false
  peerPace := false
  peerKind := 0
  peerRole := 0
  roleMismatch := false
  holdReason := .none
  holdDepth := .lit
  holdAsn := 0
  holdLimEff := 0
  advPeer := [0, 0, 0, 0, 0, 0, 0]
  advNow := [0, 0, 0, 0, 0, 0, 0]
  peerEid := 0
  peerIdent := 0
  lastPeer := none
  mine := []
  gotParams := false
  gotAck := false
  resyncMsg := none
  sCnt := [0, 0, 0, 0, 0, 0, 0]
  fCnt := [0, 0, 0, 0, 0, 0, 0]
  fPeer := [0, 0, 0, 0, 0, 0, 0]
  txFsn := 0
  rxFsn := 0
  retryReq := false
  replay := []
  replayAt := none
  retryAsn := none
  retryRow := 0
  rx := []
  ctlTx := []
  ctlWait := []
  ctlRx := []
  ctlSeqTx := []
  ctlSeqRx := []
  ctlLast := []
  ctlBad := 0
  paceIgnored := 0
  crPtr := 0
  wrr := [0, 2]
  holdReq := none
  widthReq := none
  widthWait := []
  widthAt := 0
  lentMine := false
  paceCong := [0, 0, 0]
  paceTrd := [0, 0, 0]
  lastTx := []
  cwCount := 0
  cwBytes := []
  scramble := []
  line := []
  txOn := false

/-- The depth of each domain at full cold reset: every domain but AON is OFF (R44). -/
def domReset (d : Nat) : Domain :=
  if d = 0 then ⟨.run, .idle, false⟩ else ⟨.off, .idle, false⟩

/-- The package with VIN_AON and VIN_IO applied and VIN_MAIN absent (R557, steps 1 to 3). -/
def powerReset : Power where
  vinAon := true
  vinIo := true
  vinMain := false
  leadSel := false
  bootSrc := false
  sampled := false
  perst := false
  bootStep := 1
  doms := []
  shuClk := []
  sramFail := 0
  hbmFail := 0
  hbmBad := []
  hbmTrained := 0
  alertMain := false
  alertClk := false
  alertLoop := false
  thermtrip := false
  trimAt := 0
  isoTx := []
  isoSeq := 0
  isoStatus := []
  tests := []
  i3cAddr := none
  i3cOut := []
  shuOut := []

/-- No frame in use: every slot FREE (R270). -/
def seqReset : Seq where
  frames := []
  outMask := 0
  evac := none
  recalling := []
  lentIn := []
  asked := []
  refused := []
  reserved := []
  returns := []
  reload := false
  readers := []
  openings := []
  moveNo := 0

/-- No image resident and no work item. -/
def shedReset : Shed where
  items := []
  nextId := 0
  images := []
  dfc := []
  ptr := []
  aside := []
  claims := []
  load := none
  unload := []
  ready := []
  lastCtx := []
  exec := []

/-- No host, no member, no command in progress; every event family enabled (R493). -/
def hostReset : HostIf where
  prog := []
  written := []
  dma := []
  evtHeld := []
  evtGap := 0
  evtOwed := false
  replyHeld := []
  evtMask := 0xFFFF
  members := []
  bound := false
  leadEid := 0xFFFF
  memberIdx := 0
  cut := false
  memEvts := []
  memCredit := 0
  relayIn := []
  relayBack := []
  gaveUp := []
  msix := []
  msixWait := []
  msixQuiet := []
  bme := false
  d3hot := false
  linkDead := false
  aerCorr := 0
  aerNonfatal := 0
  aerFatal := 0
  urCount := 0
  bar2Out := []
  doeOut := []

/-- An unprovisioned part whose slot A holds the bundle it left the factory with; the model gives that
bundle no bytes of its own (DESIGN CHOICE, log entry 5). -/
def fwReset : Firmware where
  slots := [some [], none]
  bootRec := []
  polRec := []
  policy := []
  keys := ⟨[], [], [], [], []⟩
  stage := []
  stageLen := 0
  stageTag := none
  actTodo := []
  actDone := []
  actLive := false
  actStarted := false
  commitOk := false
  revertSt := 0
  fuseF := 0
  keyRevoked := 0
  ownerDigest := []
  nonce := none
  opened := false
  log := []
  logSeq := 0
  staging := []
  compTimes := []
  kernTimes := []
  haltedCores := 0
  delegates := []
  traceLast := []

/-- The treadle at full cold reset: the rack cap 600 W, no request, no alert (R382). -/
def trdReset : Treadle where
  g := 0
  ballast := 0
  rackIn := 60000
  hostIn := 120000
  leakCap := 1200
  capNow := 60000
  floorNow := 0
  supplyOn := false
  flowOn := false
  leakOn := false
  holdCap := none
  descent := false
  short := false
  mode := 0
  notch := []
  dispatchHold := 0
  throttle := []
  shares := []
  steadyFor := 0
  pkgHist := []
  domHist := []
  seen := [120000, 120000, 120000, 120000]
  overG := false
  deepIdle := false

/-- Thermal protection with every sensor OK and no limit (R428, R429). -/
def thmReset : Thermal where
  warnCap := []
  blindCap := 0
  limitCap := 1200
  critOn := false
  plinthCap := 1200
  inFailed := false
  outFailed := false
  leakRun := 0
  leakBand := 0

/-- No partner (R502). -/
def pairReset : Pair where
  hbSeq := 0
  hbFrame := 0
  hbTx := []
  itemSeq := 0
  unacked := []
  waiting := []
  rxItems := []
  applied := 0
  baseline := false
  baseCount := none
  mirrored := []
  push := []
  pushNext := 0
  peerIn := 0
  peerSide := 0
  abdicated := false
  swapTag := none

/-- No map formed, nothing latched. -/
def cntReset : Cnt where
  mapSeq := 0
  occMax := []
  pctMax := []
  latch := []
  readOut := []

/-- The block right after full cold reset: VIN_AON and VIN_IO applied, VIN_MAIN absent (R557, R560). -/
def State.reset : State where
  pending := []
  free := 0
  aon := 0
  regs := []
  pwr := powerReset
  ports := []
  sw := { inq := [], outq := [], sunk := [], nextPid := 0, e2eSeen := [] }
  pools := []
  flows := { wins := [], srcs := [], ends := [], commitTag := none, drops := ⟨0, 0, 0, 0, 0⟩ }
  groups := []
  mem := []
  seq := seqReset
  shed := shedReset
  ctxs := []
  grpCmd := none
  host := hostReset
  fw := fwReset
  trd := trdReset
  thm := thmReset
  carts := []
  pair := pairReset
  cnt := cntReset

end Sys2Proof.Machine
end

