-- ==== Sys2Proof/Machine/Addr.lean ====
section
/-!
DEFINITION. Sys2Proof/Machine/Addr.lean: the addresses of register space (R567 to R579) and the reset
value of every register that holds its own value.
-/

namespace Sys2Proof.Machine

/-- Base of cluster n (R568). -/
def aC (n : Nat) : Nat := 0x00800000 + n * 0x00100000
/-- Base of port p (R568). -/
def aP (p : Nat) : Nat := 0x01000000 + p * 0x00020000

/-! PLN block (R497, R498, R49, R550, R565, R566, R464 to R467, R296). -/
def aRing (k : Nat) : Nat := 0x20 * k
def aCuing : Nat := 0x60
def aRelay : Nat := 0x64
def aClk : Nat := 0x300
def aMode : Nat := 0x304
def aRstCause : Nat := 0x308
def aSelftest : Nat := 0x30C
def aDepth (j : Nat) : Nat := 0x310 + 4 * j
def aFw : Nat := 0x400
def aActCtrl : Nat := 0x410
def aAct : Nat := 0x414
def aLogHead : Nat := 0x420
def aLogLost : Nat := 0x424
def aTrace (m : Nat) : Nat := 0x440 + 4 * m
def aComp (i : Nat) : Nat := 0x800 + 4 * i
def aImage (j w : Nat) : Nat := 0x1000 + 0x10 * j + 4 * w
def aSec : Nat := 0x00100000

/-! TRD block (R404 to R413, R37). -/
def aCapRack : Nat := 0x00200000
def aFloor : Nat := 0x00200004
def aFallbk : Nat := 0x00200008
def aCapTim : Nat := 0x0020000C
def aPace0 : Nat := 0x00200010
def aPace1 : Nat := 0x00200014
def aHostReq : Nat := 0x00200040
def aHostSt : Nat := 0x00200044
def aDepthCfg : Nat := 0x00200048
def aGov : Nat := 0x0020004C
def aTrdState : Nat := 0x00200080
def aCapEff : Nat := 0x00200084
def aLevel : Nat := 0x00200088
def aAlert : Nat := 0x0020008C
def aTrdErr : Nat := 0x00200090
def aIso : Nat := 0x00200300
def aReport (d w : Nat) : Nat := 0x00201000 + 8 * d + 4 * w

/-! THM and CRT blocks (R428 to R430). -/
def aCool : Nat := 0x00300000
def aCoolCfg : Nat := 0x00300004
def aLeak : Nat := 0x00300008
def aTrip : Nat := 0x0030000C
def aSensor (i : Nat) : Nat := 0x00301000 + 4 * i
def aZone (z : Nat) : Nat := 0x00301200 + 4 * z
def aCrtCtrl (k : Nat) : Nat := 0x00400000 + 0x10 * k
def aCrt (k : Nat) : Nat := 0x00400004 + 0x10 * k
def aScore (p : Nat) : Nat := 0x00401000 + 4 * p

/-! DVT and CNT blocks (R522, R523, R534 to R539). -/
def aDvtCfg : Nat := 0x00500000
def aClaim : Nat := 0x00500004
def aHbCfg : Nat := 0x00500008
def aDvt : Nat := 0x00500010
def aPeerClaim : Nat := 0x00500014
def aTakeover : Nat := 0x00500018
def aDvtErr : Nat := 0x0050001C
def aCntStatus : Nat := 0x00600000
def aMapCfg : Nat := 0x00600100
def aMapErr : Nat := 0x00600104
def aCntDev (j : Nat) : Nat := 0x00600200 + 0x10 * j
def aMap : Nat := 0x00601000
def aHeldMap (m : Nat) : Nat := 0x00610000 + 0x400 * m

/-! Cluster blocks (R192 to R196, R233, R291 to R295, R534, R535). -/
def aSwx (n j : Nat) : Nat := aC n + 0x2000 + 0x10 * j
def aCarve (n k : Nat) : Nat := aC n + 0x20000 + 4 * k
def aApply (n : Nat) : Nat := aC n + 0x20014
def aClass (n k w : Nat) : Nat := aC n + 0x20040 + 0x10 * k + 4 * w
def aOcc (n : Nat) : Nat := aC n + 0x20090
def aBobErr (n : Nat) : Nat := aC n + 0x20094
def aDfLog (n w : Nat) : Nat := aC n + 0x200A0 + 4 * w
def aGranules (n : Nat) : Nat := aC n + 0x30000
def aReedErr (n : Nat) : Nat := aC n + 0x30004
def aShedCfg (n : Nat) : Nat := aC n + 0x40000
def aShedDesc (n : Nat) : Nat := aC n + 0x40004
def aShedWait (n : Nat) : Nat := aC n + 0x40008
def aShedErr (n : Nat) : Nat := aC n + 0x4000C
def aShedQ (n : Nat) : Nat := aC n + 0x40010
def aQueue (n q w : Nat) : Nat := aC n + 0x41000 + 0x10 * q + 4 * w
def aShuCtx (n i : Nat) : Nat := aC n + 0x50000 + 4 * i
def aSampHead (n : Nat) : Nat := aC n + 0x50080
def aSampTail (n : Nat) : Nat := aC n + 0x50084
def aShuCnt (n i j : Nat) : Nat := aC n + 0x51000 + 0x40 * i + 0x10 * j
def aSample (n r : Nat) : Nat := aC n + 0x54000 + 0x20 * r

/-! Port blocks (R87 to R92, R596, R175). -/
def aPortCfg (p : Nat) : Nat := aP p
def aPortStatus (p : Nat) : Nat := aP p + 4
def aHoldLim (p : Nat) : Nat := aP p + 8
def aRetry (p : Nat) : Nat := aP p + 0xC
def aCredit (p v : Nat) : Nat := aP p + 0x10 + 4 * v
def aLinkErr (p : Nat) : Nat := aP p + 0x40
def aQuar (p : Nat) : Nat := aP p + 0x44
def aPortSel (p : Nat) : Nat := aP p + 0x50

/-! RTE block (R147, R229, R117 to R119, R148 to R156, R176 to R180, R230 to R232). -/
def aRoute (i w : Nat) : Nat := 0x02000000 + 0x20 * i + 4 * w
def aRouteSh (i w : Nat) : Nat := 0x02080000 + 0x20 * i + 4 * w
def aMcast (g w : Nat) : Nat := 0x02100000 + 0x40 * g + 4 * w
def aMcastSh (g w : Nat) : Nat := 0x02110000 + 0x40 * g + 4 * w
def aGroup (g w : Nat) : Nat := 0x02200000 + 0x40 * g + 4 * w
def aMemberE (m : Nat) : Nat := 0x02300000 + 4 * m
def aPlan (i : Nat) : Nat := 0x02400000 + 4 * i
def aSelfEid : Nat := 0x027FF000
def aPktErr0 : Nat := 0x027FF010
def aPktErr1 : Nat := 0x027FF014
def aOpTimeout : Nat := 0x027FF018
def aCommit : Nat := 0x027FF020
def aCommitSt : Nat := 0x027FF024
def aDrain : Nat := 0x027FF028
def aSpray : Nat := 0x027FF02C
def aWinPkts : Nat := 0x027FF030
def aWinPicks : Nat := 0x027FF034
def aWinTim : Nat := 0x027FF038
def aFlowSt : Nat := 0x027FF03C
def aFlowErr (k : Nat) : Nat := 0x027FF040 + 4 * k
def aCong : Nat := 0x027FF050
def aInj : Nat := 0x027FF054
def aPaceCfg : Nat := 0x027FF058
def aPaceDur : Nat := 0x027FF05C
def aCongErr (k : Nat) : Nat := 0x027FF060 + 4 * k
def aGrpCmd : Nat := 0x027FF100
def aGrpSt : Nat := 0x027FF104
def aGrpErr (k : Nat) : Nat := 0x027FF110 + 4 * k

/-! SEQ block (R265 to R270). -/
def aSeqRegion : Nat := 0x02800000
def aFabWin : Nat := 0x02800004
def aStkFree (n : Nat) : Nat := 0x02800010 + 4 * n
def aSeqAvail : Nat := 0x02800030
def aSeqRsv : Nat := 0x02800034
def aLendMax : Nat := 0x02800038
def aLent : Nat := 0x0280003C
def aSeqCmd : Nat := 0x02800040
def aSeqArg : Nat := 0x02800044
def aSeqSt : Nat := 0x02800048
def aEvac : Nat := 0x0280004C
def aSeqErr (k : Nat) : Nat := 0x02800050 + 4 * k
def aSlot (n w : Nat) : Nat := 0x02801000 + 0x40 * n + 4 * w
def aL1 (n i : Nat) : Nat := 0x02810000 + 0x800 * n + 4 * i
def aLen (n l : Nat) : Nat := 0x02820000 + 0x4000 * n + 4 * l

/-! HBM, OPT and HIO blocks (R577, R578, R499). -/
def aHbm (n : Nat) : Nat := 0x02C00000 + n * 0x00080000
def aHbmEcc (n : Nat) : Nat := aHbm n + 4
def aOpt (k : Nat) : Nat := 0x03000000 + k * 0x00080000
def aHioLink : Nat := 0x03F00000
def aAperture : Nat := 0x03F00004
def aHioErr : Nat := 0x03F00008

/-- Reset value of word off of a port's block (R87 to R91). -/
def portRegReset (off : Nat) : Nat :=
  if off = 0 then 0xFD00
  else if off = 8 then 0x1F4
  else if off = 0xC then 0x00081900
  else if off = 0x10 then 0x0800
  else if off = 0x14 then 0x0800
  else if off = 0x18 then 0x1000
  else if off = 0x1C then 0x0400
  else if off = 0x20 then 0x0100
  else if off = 0x24 then 0x0400
  else if off = 0x28 then 0x0200
  else 0

/-- Reset value of word off of a cluster's block (R192, R233, R291, R534). -/
def clusterRegReset (off : Nat) : Nat :=
  if off = 0x20000 then 0x800000E0
  else if off = 0x20004 then 0x80000020
  else if off = 0x20008 then 0x80000060
  else if off = 0x2000C then 0x60
  else if off = 0x20010 then 0x40
  else if off = 0x40000 then 0x00321000
  else if 0x51000 ≤ off ∧ off < 0x51800 ∧ off % 0x10 = 0 then 0x07800000
  else 0

/-- Reset value of a register of the RTE block (R117 to R119, R150 to R154, R176 to R179). -/
def rteRegReset (a : Nat) : Nat :=
  if a = aSelfEid then 0xFFFF
  else if a = aOpTimeout then 0x7D0
  else if a = aDrain then 0x3E8
  else if a = aSpray then 4
  else if a = aWinPkts then 0x10000100
  else if a = aWinPicks then 0x10401040
  else if a = aWinTim then 0x000A07D0
  else if a = aCong then 0x07D02000
  else if a = aInj then 0x5A4B0040
  else if a = aPaceCfg then 0xC0408000
  else if a = aPaceDur then 0x3E8
  else if a = aSeqRegion then 0xFF000020
  else if a = aSeqArg then 0xFFFF
  else 0

/-- Reset value of a register of the AON blocks (R37, R404 to R412, R428, R429, R522, R539). -/
def aonRegReset (a : Nat) : Nat :=
  if a = aCapRack then 0xFDA70258
  else if a = aFloor then 0x00001414
  else if a = aFallbk then 0x02583C28
  else if a = aCapTim then 0x003C1388
  else if a = aPace0 then 0x00C80000
  else if a = aPace1 then 0xFF000001
  else if a = aDepthCfg then 0x14020A64
  else if a = aGov then 0x00280064
  else if a = aTrdState then 0x00180000
  else if a = aCapEff then 0x02580000
  else if a = aIso then 1
  else if a = aCoolCfg then 0x322D0046
  else if a = aLeak then 0x0000012C
  else if aScore 0 ≤ a ∧ a < aScore 128 then 0xC0C0
  else if a = aDvtCfg then 0xFFFF0000
  else if a = aHbCfg then 0x07D00064
  else if a = aMapCfg then 0xFFFF0064
  else 0

/-- Reset value of a register of the PLN block (R464, R497, R498, R565). -/
def plnRegReset (a : Nat) : Nat :=
  if a = aRing 0 + 8 then 0x4
  else if a = aRing 1 + 8 then 0x4
  else if a = aRing 2 + 8 then 0x104
  else if a = aCuing then 0x02010000
  else if a = aRelay then 0x64
  else if a = aRstCause then 0x10000000
  else if a = aFw then 0x60000000
  else 0

/-- What a register that nothing has written holds: its reset value (R572). -/
def regReset (a : Nat) : Word :=
  BitVec.ofNat 32 (
    if a < 0x00100000 then plnRegReset a
    else if a < 0x00800000 then aonRegReset a
    else if a < 0x01000000 then clusterRegReset (a % 0x00100000)
    else if a < 0x02000000 then portRegReset (a % 0x00020000)
    else rteRegReset a)

end Sys2Proof.Machine
end

