-- ==== Sys2Proof/Machine/Ops.lean ====
section
/-!
DEFINITION. Sys2Proof/Machine/Ops.lean: the shared operations over the state: registers, domains, free
values, counters, log records, Cuing replies and events, and the packets the device originates.
-/

namespace Sys2Proof.Machine

/-! ### Status codes (R496) -/

def stOk : Nat := 0
def stFit : Nat := 0x0101
def stBusy : Nat := 0x0102
def stState : Nat := 0x0103
def stAuth : Nat := 0x0104
def stUnsup : Nat := 0x0105
def stTimeout : Nat := 0x0201
def stPathLost : Nat := 0x0202
def stAged : Nat := 0x0203
def stE2e : Nat := 0x0204
def stSeqFull : Nat := 0x0301
def stNoSlot : Nat := 0x0302
def stSeqGap : Nat := 0x0303
def stRemoteLost : Nat := 0x0304
def stSeqRange : Nat := 0x0305
def stMemberLost : Nat := 0x0401
def stGroupState : Nat := 0x0402
def stWindow : Nat := 0x0403
def stCapped : Nat := 0x0501
def stFloorHeld : Nat := 0x0502
def stSignature : Nat := 0x0601
def stRollback : Nat := 0x0602
def stFwRestart : Nat := 0x0603
def stClaimTie : Nat := 0x0701
def stExhausted : Nat := 0x0702
def stNotReady : Nat := 0x0703

/-! ### Registers -/

/-- The register at address a. -/
def State.reg (s : State) (a : Nat) : Word := tabGet regReset s.regs a

/-- Write the register at address a. -/
def State.setReg (s : State) (a : Nat) (v : Word) : State :=
  { s with regs := tabSet regReset s.regs a v }

/-- Bits [hi:lo] of the register at address a. -/
def State.rf (s : State) (a hi lo : Nat) : Nat := fld (s.reg a) hi lo

/-- Write bits [hi:lo] of the register at address a. -/
def State.setRf (s : State) (a hi lo v : Nat) : State := s.setReg a (putFld (s.reg a) hi lo v)

/-- Add n to a saturating count field. -/
def State.bump (s : State) (a hi lo n : Nat) : State :=
  s.setRf a hi lo (satAdd (hi + 1 - lo) (s.rf a hi lo) n)

/-- Set consecutive words. -/
def State.setRegs (s : State) (a : Nat) : List Word → State
  | [] => s
  | w :: r => State.setRegs (s.setReg a w) (a + 4) r

/-- Return every register that satisfies p to its reset value. -/
def State.clearRegs (s : State) (p : Nat → Bool) : State := { s with regs := tabClear p s.regs }

/-- Words at consecutive addresses, as bytes. -/
def State.regBytes (s : State) (a n : Nat) : List Byte :=
  wordsToBytes ((List.range n).map (fun i => s.reg (a + 4 * i)))

/-! ### Free values -/

/-- Draw a free value. -/
def State.draw (s : State) : Nat × State := (Config.freeNat s.free, { s with free := s.free + 1 })

/-- Choose one element of a list; where there is only one there is nothing to choose. -/
def State.choose {α : Type} (s : State) (l : List α) : Option α × State :=
  match l with
  | [] => (none, s)
  | [x] => (some x, s)
  | x :: r =>
    let (k, s) := s.draw
    (some ((x :: r).getD (k % (x :: r).length) x), s)

/-! ### Ports, groups, domains -/

/-- The link of port p. -/
def State.port (s : State) (p : Nat) : Port := tabGet (fun _ => portReset) s.ports p

/-- Write the link of port p. -/
def State.setPort (s : State) (p : Nat) (x : Port) : State :=
  { s with ports := tabSet (fun _ => portReset) s.ports p x }

/-- Change the link of port p. -/
def State.updPort (s : State) (p : Nat) (f : Port → Port) : State := s.setPort p (f (s.port p))

/-- The running state of a group that has none: nothing open. -/
def groupReset : Group :=
  { slots := [], oldest := 0, freed := [], failed := [], queue := [], granted := [], grants := [] }

def State.group (s : State) (g : Nat) : Group := tabGet (fun _ => groupReset) s.groups g
def State.setGroup (s : State) (g : Nat) (x : Group) : State :=
  { s with groups := tabSet (fun _ => groupReset) s.groups g x }

/-- A cartridge slot with nothing in it. -/
def cartReset : Cart :=
  { record := [], laserCmd := false, claim := none, selStatus := 0, inspectBy := none }
def State.cart (s : State) (k : Nat) : Cart := tabGet (fun _ => cartReset) s.carts k
def State.setCart (s : State) (k : Nat) (x : Cart) : State :=
  { s with carts := tabSet (fun _ => cartReset) s.carts k x }

/-- Domain indices (R39). -/
def dPln : Nat := 1
def dSec : Nat := 2
def dHio : Nat := 3
def dSw (n : Nat) : Nat := 4 + n
def dShu (n : Nat) : Nat := 12 + n
def dReed (n : Nat) : Nat := 20 + n
def dHbm (n : Nat) : Nat := 28 + n
def dOpt (k : Nat) : Nat := 36 + k

/-- A domain. -/
def State.dom (s : State) (d : Nat) : Domain := tabGet domReset s.pwr.doms d

/-- Write a domain. -/
def State.setDom (s : State) (d : Nat) (x : Domain) : State :=
  { s with pwr := { s.pwr with doms := tabSet domReset s.pwr.doms d x } }

/-- The domain is at the given depth. -/
def State.atDepth (s : State) (d : Nat) (x : Depth) : Bool := decide ((s.dom d).depth = x)

/-- The domain is OFF. -/
def State.isOff (s : State) (d : Nat) : Bool := s.atDepth d .off

/-- Put a domain at a depth other than OFF. -/
def State.toDepth (s : State) (d : Nat) (x : Depth) : State := s.setDom d ⟨x, .idle, false⟩

/-- Take a domain OFF in one of the three ways of R40. -/
def State.toOff (s : State) (d : Nat) (k : OffKind) : State := s.setDom d ⟨.off, k, false⟩

/-- Whether a domain is held OFF or stop OFF, so that a request that needs it is refused, until the fabric manager has
asked for RUN (R41). -/
def State.barred (s : State) (d : Nat) : Bool :=
  s.isOff d && decide ((s.dom d).off ≠ .idle) && !(s.dom d).exiting

/-- Work that needs the domain has arrived: a domain at GATED or RETAIN begins its exit (R42), and so
does one that is idle OFF (R40, R42).  A held-OFF or stop-OFF domain stays as it is. -/
def State.wake (s : State) (d : Nat) : State :=
  let x := s.dom d
  match x.depth with
  | .run => s
  | .gated => s.setDom d { x with exiting := true }
  | .retain => s.setDom d { x with exiting := true }
  | .off => if x.off = .idle then s.setDom d { x with exiting := true } else s

/-- The code of a depth (R38). -/
def Depth.code : Depth → Nat
  | .run => 0
  | .gated => 1
  | .retain => 2
  | .off => 3

/-! ### Modes that other rules ask for -/

/-- The delegates are in FALLBACK (R438). -/
def State.fallback (s : State) : Bool := s.rf aFw 29 29 = 1

/-- PLINTH (R464): 0 RUN, 1 RESTARTING, 2 HALTED, 3 RECOVERY. -/
def State.plinth (s : State) : Nat := s.rf aFw 31 30

/-- SEALED observability is in force (R441). -/
def State.sealed (s : State) : Bool := s.rf aFw 28 28 = 1

/-- The pair role (R502): 0 UNPAIRED, 1 ACTIVE, 2 STANDBY, 3 CLAIMING. -/
def State.role (s : State) : Nat := s.rf aDvt 31 29

/-- The device's service EID; 0xFFFF while none is assigned (R117). -/
def State.selfEid (s : State) : Nat := s.rf aSelfEid 15 0

/-- The plinth complex is powered. -/
def State.plnUp (s : State) : Bool := !s.isOff dPln

/-- ROLE of port p (R18): 0 OFF, 1 EDGE, 2 TRUNK, 3 PAIR. -/
def State.portRole (s : State) (p : Nat) : Nat := s.rf (aPortCfg p) 1 0

/-- FWD_EN of port p. -/
def State.fwdEn (s : State) (p : Nat) : Bool := s.rf (aPortCfg p) 4 4 = 1

/-- A port is live while its LSTATE is ACTIVE and FWD_EN = 1 (R123). -/
def State.live (s : State) (p : Nat) : Bool := decide ((s.port p).lstate = .active) && s.fwdEn p

/-- The port is DARK or its role is OFF. -/
def State.darkOrOff (s : State) (p : Nat) : Bool :=
  decide ((s.port p).lstate = .dark) || decide (s.portRole p = 0)

/-- The 16 ports of cluster c (R29). -/
def clusterPorts (c : Nat) : List Nat := (List.range 16).map (fun i => 16 * c + i)

/-- The 8 ports of engine k (R29). -/
def enginePorts (k : Nat) : List Nat := (List.range 8).map (fun i => 8 * k + i)

/-- The device state of R45 as TRD_STATE.DEV_STATE codes it: 0 ACTIVE, 1 DEEP_IDLE, 2 STANDBY,
3 MAIN_OFF. -/
def State.devState (s : State) : Nat :=
  if s.isOff dPln then 3
  else if s.role = 2 then 2
  else if s.trd.deepIdle then 1
  else 0

/-! ### Counters (R524 to R528) -/

/-- Write the 48-bit value of a counter. -/
def State.setCtr (s : State) (base v : Nat) : State :=
  (s.setReg (base + 4) (BitVec.ofNat 32 v)).setRf (base + 8) 15 0 (v / 2 ^ 32)

/-- The 48-bit value of a counter. -/
def State.ctr (s : State) (base : Nat) : Nat := s.rf (base + 4) 31 0 + s.rf (base + 8) 15 0 * 2 ^ 32

/-- Where the samples that counters ask for are noted: the counter's base (R527, R529). -/
def State.ctrOverflow (s : State) (base v : Nat) : State × Bool × Bool :=
  -- v is the value past 2^48 − 1, less 2^48
  if s.rf base 29 29 = 1 then (s.setCtr base v, true, false)
  else if s.rf base 28 28 = 1 ∧ s.rf (base + 0xC) 31 0 ≠ 0 then
    ((s.setCtr base (2 ^ 48 - s.rf (base + 0xC) 31 0)).setRf (base + 8) 16 16 1, false, true)
  else ((s.setCtr base v).setRf (base + 8) 16 16 1, false, false)

/-- Add n to the counter at base; a carry of a chained counter goes on into the next one, at most
`fuel` times (R527, R528). -/
def State.ctrAdd : Nat → State → Nat → Nat → State
  | 0, s, _, _ => s
  | fuel + 1, s, base, n =>
    let v := s.ctr base + n
    if v < 2 ^ 48 then s.setCtr base v
    else
      let (s, carry, _) := s.ctrOverflow base (v - 2 ^ 48)
      if carry then State.ctrAdd fuel s (base + 0x10) 1 else s

/-- Whether counter j of a bank, which is not the carry part of the counter before it, counts an event. -/
def State.ctrSees (s : State) (bank j code : Nat) (qual : Nat → Bool) : Bool :=
  let base := bank + 0x10 * j
  s.rf base 31 31 = 1 && decide (s.rf base 7 0 = code) && qual (s.rf base 22 8) &&
    !(decide (0 < j) && s.rf (bank + 0x10 * (j - 1)) 29 29 = 1)

/-- An event of amount n meets the n counters of a bank (R525): LEVEL adds the amount, EDGE adds 1. -/
def State.ctrBank (s : State) (bank count code n : Nat) (qual : Nat → Bool) : State :=
  (List.range count).foldl (fun s j =>
    if s.ctrSees bank j code qual then
      s.ctrAdd 16 (bank + 0x10 * j) (if s.rf (bank + 0x10 * j) 30 30 = 1 then n else min n 1)
    else s) s

/-- A device event (codes 0x80 to 0x89). -/
def State.evDev (s : State) (code n : Nat) : State :=
  if n = 0 then s else s.ctrBank (aCntDev 0) 16 code n (fun _ => true)

/-- A cluster event without qualifier (codes 0x43, 0x44, 0x48, 0x49). -/
def State.evClu (s : State) (c code n : Nat) : State :=
  if n = 0 then s else s.ctrBank (aSwx c 0) 16 code n (fun _ => true)

/-- A cluster event on a port and channel (codes 0x40 to 0x42): QUAL [14:8] is the channel mask and
[4:0] the port within the cluster, 31 for all (R526). -/
def State.evPick (s : State) (p v code : Nat) : State :=
  s.ctrBank (aSwx (p / 16) 0) 16 code 1 (fun q =>
    bit q (8 + v) && (decide (bits q 4 0 = 31) || decide (bits q 4 0 = p % 16)))

/-- A cluster event on a unit of the cluster (codes 0x45 to 0x47, 0x4A, 0x4B). -/
def State.evUnit (s : State) (c code unit n : Nat) : State :=
  if n = 0 then s else s.ctrBank (aSwx c 0) 16 code n (fun q =>
    decide (bits q 4 0 = 31) || decide (bits q 4 0 = unit))

/-! ### Log records (R442, R443) -/

/-- Keep the newest 16,384 records. -/
def logTrim (l : List LogRec) : List LogRec := l.take 16384

/-- Write a log record: not under SEALED; into the staging buffer of 64 records in FALLBACK. -/
def State.log (s : State) (source kind code : Nat) (body : List Byte) : State :=
  if s.sealed then s
  else if s.fallback then
    if s.fw.staging.length < 64 then
      { s with fw := { s.fw with
          staging := s.fw.staging ++ [⟨s.aon, 0, source, kind, code, body⟩] } }
    else s.bump aLogLost 31 16 1
  else
    let n := s.fw.logSeq
    let s := { s with fw := { s.fw with
      log := logTrim (⟨s.aon, n, source, kind, code, body⟩ :: s.fw.log)
      logSeq := (n + 1) % 2 ^ 32 } }
    s.setReg aLogHead (BitVec.ofNat 32 ((n + 1) % 2 ^ 32))

/-! ### Rings (R478 to R481) -/

/-- Entries a ring holds when full: 2^SIZE_LOG2. -/
def State.ringSize (s : State) (k : Nat) : Nat := 2 ^ s.rf (aRing k + 8) 4 0

/-- Entries between HEAD and TAIL of ring k: 0 command, 1 reply, 2 event. -/
def State.ringUsed (s : State) (k : Nat) : Nat :=
  let m := 2 * s.ringSize k
  let door := s.rf (aRing k + 0xC) 16 0
  let own := s.rf (aRing k + 0x10) 16 0
  if k = 0 then (door + m - own) % m else (own + m - door) % m

/-- The ring's fault bit (R479, R498). -/
def State.ringFault (s : State) (k : Nat) : Bool := s.rf aCuing k k = 1

/-- The function may write host memory: Bus Master Enable in D0, on a link that is up (R471). -/
def State.mastering (s : State) : Bool := s.host.bme && !s.host.d3hot && s.rf aHioLink 9 9 = 1

/-- The ring is enabled and has not faulted (R479). -/
def State.ringOn (s : State) (k : Nat) : Bool := s.rf (aRing k + 8) 31 31 = 1 && !s.ringFault k

/-- The ring runs, and the function may reach host memory (R471, R479). -/
def State.ringUp (s : State) (k : Nat) : Bool := s.ringOn k && s.mastering

/-- Signal an MSI-X vector: at most once per 2 µs for vectors 0 and 1, once per fault for vector 2 (R475); a signal
waits while the function may not write. -/
def State.msi (s : State) (v : Nat) : State :=
  if v = 2 then
    if s.mastering then { s with host := { s.host with msix := s.host.msix ++ [v] } }
    else { s with host := { s.host with msixWait := s.host.msixWait ++ [v] } }
  else if s.host.msixQuiet.contains v ∨ !s.mastering then
    if s.host.msixWait.contains v then s
    else { s with host := { s.host with msixWait := s.host.msixWait ++ [v] } }
  else { s with host := { s.host with
    msix := s.host.msix ++ [v], msixQuiet := s.host.msixQuiet ++ [v] } }

/-- Write an entry at the producer index of the reply or event ring, and advance it; an event is written in the minor
that EQ_CFG names then (R482, R487). -/
def State.ringPut (s : State) (k : Nat) (e : HostEntry) : State :=
  let t := s.rf (aRing k + 0x10) 16 0
  let e := if k = 2 then { e with minor := s.rf (aRing 2 + 8) 8 8 } else e
  let s := { s with host := { s.host with written := s.host.written ++ [{ e with idx := t, ring := k }] } }
  (s.setRf (aRing k + 0x10) 16 0 ((t + 1) % (2 * s.ringSize k))).msi (k - 1)

/-! ### Packets the device originates -/

/-- The header pick and payload of a packet, with its end-to-end check code (R94, R106). -/
def mkPkt (dst src typ : Nat) (mcast pinned fence : Bool) (flow fsn : Nat) (op data : List Byte) : Pkt :=
  let len := ceilDiv data.length 64
  let body := padTo (64 * len) data
  let h := leBytes 2 dst ++ leBytes 2 src ++ leBytes 1 typ ++
    leBytes 1 (typ / 8 % 8 + 8 * b2n fence + 16 * b2n pinned + 32 * b2n mcast) ++
    leBytes 1 len ++ leBytes 1 0 ++ leBytes 2 flow ++ leBytes 3 fsn ++ leBytes 3 0 ++
    padTo 40 op ++ leBytes 4 0
  ⟨h ++ leBytes 4 (crc32c (h ++ body)), body⟩

/-- Header fields (R94). -/
def hDst (h : List Byte) : Nat := field h 0 2
def hSrc (h : List Byte) : Nat := field h 2 2
def hType (h : List Byte) : Nat := bits (byteAt h 4) 5 0
def hMcast (h : List Byte) : Bool := bit (byteAt h 5) 5
def hPinned (h : List Byte) : Bool := bit (byteAt h 5) 4
def hFence (h : List Byte) : Bool := bit (byteAt h 5) 3
def hVc (h : List Byte) : Nat := bits (byteAt h 5) 2 0
def hLen (h : List Byte) : Nat := bits (byteAt h 6) 6 0
def hFlow (h : List Byte) : Nat := field h 8 2
def hFsn (h : List Byte) : Nat := field h 10 3
def hStatus (h : List Byte) : Nat := field h 30 2
/-- The end-to-end check of a packet (R106). -/
def e2eOk (p : Pkt) : Bool := decide (crc32c (p.hdr.take 60 ++ p.data) = field p.hdr 60 4)

/-- The input queue q, channel v (q below 128 a port, 128 + c the injection queue of cluster c). -/
def State.inq (s : State) (q v : Nat) : List QPkt := tabGet (fun _ => []) s.sw.inq (8 * q + v)
def State.setInq (s : State) (q v : Nat) (l : List QPkt) : State :=
  { s with sw := { s.sw with inq := tabSet (fun _ => []) s.sw.inq (8 * q + v) l } }
/-- The output queue of port p, channel v. -/
def State.outq (s : State) (p v : Nat) : List QPkt := tabGet (fun _ => []) s.sw.outq (8 * p + v)
def State.setOutq (s : State) (p v : Nat) (l : List QPkt) : State :=
  { s with sw := { s.sw with outq := tabSet (fun _ => []) s.sw.outq (8 * p + v) l } }

/-- Queue a packet the device originates in the injection queue of cluster c, on its class; while
SELF_EID is 0xFFFF the device originates nothing (R117). -/
def State.emit (s : State) (c : Nat) (p : Pkt) : State :=
  if s.selfEid = 0xFFFF then s
  else
    let v := hVc p.hdr
    let q : QPkt :=
      { pid := s.sw.nextPid, hdr := p.hdr, data := p.data, inq := 128 + c, vc := v, sent := 0,
        ageLim := 0, escLim := 0, checked := false, mc := none, only := none }
    let s := { s with sw := { s.sw with nextPid := s.sw.nextPid + 1 } }
    s.setInq (128 + c) v (s.inq (128 + c) v ++ [q])

/-- The cluster a packet of the plinth enters the crossbar by; the spec names none (DESIGN CHOICE, log entry 6). -/
def plinthCluster : Nat := 0

/-- Form G operation fields of a Cuing packet (R103). -/
def opG (ctag member ofs total status : Nat) : List Byte :=
  leBytes 2 ctag ++ leBytes 1 member ++ leBytes 1 0 ++ leBytes 4 ofs ++ leBytes 4 total ++
    leBytes 2 0 ++ leBytes 2 status

/-- The 128-byte form of an entry (R482, R483). -/
def HostEntry.bytes (e : HostEntry) : List Byte :=
  let inl := if e.flags % 2 = 1 then [] else e.payload
  let h := leBytes 1 2 ++ leBytes 1 e.minor ++ leBytes 2 e.opcode ++ leBytes 2 e.tag ++
    leBytes 1 e.member ++ leBytes 1 e.flags ++ leBytes 3 e.payload.length ++ leBytes 1 0 ++
    leBytes 2 e.status ++ leBytes 2 0 ++ leBytes 8 e.dataAddr ++ leBytes 3 e.capacity ++ leBytes 1 0
  let b := padTo 96 inl
  h ++ leBytes 4 (crc32c (h ++ b)) ++ b

/-- Cut a byte string into segments of n bytes with their offsets, at most `fuel` of them. -/
def segments (n : Nat) : Nat → Nat → List Byte → List (Nat × List Byte)
  | 0, _, _ => []
  | fuel + 1, ofs, l =>
    if l.length ≤ n then [(ofs, l)] else (ofs, l.take n) :: segments n fuel (ofs + n) (l.drop n)

/-- Send an entry and its scatter payload to an EID as packets of one of the CUING types (R488). -/
def State.sendCuing (s : State) (typ dst ctag member : Nat) (entry scatter : List Byte)
    (status : Nat) : State :=
  (segments 3968 (scatter.length / 3968 + 1) 0 scatter).foldl (fun s (x : Nat × List Byte) =>
    s.emit plinthCluster (mkPkt dst s.selfEid typ false false false 0 0
      (opG ctag member x.1 scatter.length status) (entry ++ x.2))) s

/-! ### Events (R481, R489, R494) -/

/-- Put an event into the lead's event ring, or hold it, or count it as lost (R481); what is raised while
commands of a function that was reset run out is discarded (R471). -/
def State.eventIn (s : State) (e : HostEntry) : State :=
  if s.host.prog.any (fun p => p.gone) && s.rf (aRing 2 + 8) 31 31 = 0 then s
  else if s.ringUp 2 && decide (s.ringUsed 2 < s.ringSize 2) && s.host.evtHeld.isEmpty &&
      !s.host.evtOwed then s.ringPut 2 e
  else if s.host.evtHeld.length < 256 then
    { s with host := { s.host with
      evtHeld := s.host.evtHeld ++ [e], evtOwed := s.host.evtOwed || (s.host.evtHeld.isEmpty && s.ringUp 2) } }
  else { s.bump aCuing 15 8 1 with host := { s.host with evtGap := s.host.evtGap + 1, evtOwed := true } }

/-- An event entry of this device: the AON count, then the event's own bytes (R494). -/
def State.evtEntry (s : State) (code status : Nat) (time : Nat) (body : List Byte) : HostEntry :=
  { ring := 2, idx := 0, minor := s.rf (aRing 2 + 8) 8 8, opcode := code, tag := 0xFFFF,
    member := s.host.memberIdx, flags := 0, status := status, dataAddr := 0, capacity := 0,
    payload := leBytes 8 time ++ body }

/-- The component that serves the commands of an opcode's family and raises its events (R432, R442, R493). -/
def servedBy (opcode : Nat) : Nat :=
  match opcode / 256 with
  | 1 => 3
  | 6 => 4
  | 7 => 7
  | 8 => 8
  | 9 => 0
  | 10 => 5
  | 11 => 6
  | 12 => 3
  | 13 => 3
  | _ => 2

/-- Raise an event at a given time: masked by family (R493, EVENT_MASK), to the event ring on a lead, to
the lead within credit on a member (R489). -/
def State.eventAt (s : State) (code status time : Nat) (body : List Byte) : State :=
  if !s.plnUp then s
  else
    let s := s.log (servedBy code) 0 code (padTo 48 body)
    if !bit s.host.evtMask (code / 256) then s
    else
      let e := s.evtEntry code status time body
      if s.pwr.leadSel then s.eventIn e
      else if !s.host.bound then s
      else if 0 < s.host.memCredit ∧ s.host.memEvts = [] then
        let s := { s with host := { s.host with memCredit := s.host.memCredit - 1 } }
        s.sendCuing 0x22 s.host.leadEid 0xFFFF s.host.memberIdx e.bytes [] status
      else if s.host.memEvts.length < 64 then
        { s with host := { s.host with memEvts := s.host.memEvts ++ [e] } }
      else { s.bump aCuing 15 8 1 with host := { s.host with evtGap := s.host.evtGap + 1 } }

/-- Raise an event now. -/
def State.event (s : State) (code status : Nat) (body : List Byte) : State :=
  s.eventAt code status s.aon body

/-! ### Cuing commands in progress -/

/-- A component of the application cores restarts, or is being activated, while the others run (R435, R452). -/
def State.compDown (s : State) (id : Nat) : Bool :=
  (decide (s.plinth = 0) || decide (s.plinth = 3)) && !s.fallback && decide (id ≠ 0) && (s.rf (aComp id) 31 29 = 2 || s.rf (aComp id) 31 29 = 3)

/-- The control core of a cluster restarts, is being activated, or is halted (R437, R452, R462). -/
def State.ctlDown (s : State) (c : Nat) : Bool := s.fw.delegates.contains (3 + c) || bit s.fw.haltedCores (4 + c)

/-- FALLBACK without its responder, which runs on the scheduler core (R437, R440). -/
def State.mute (s : State) : Bool := s.fallback && s.fw.delegates.contains 2

/-- The families and reads of the fallback responder (R440). -/
def fallbackServes (op : Nat) : Bool :=
  [1, 6, 9, 0x0D].contains (op / 256) || [0x0701, 0x0702, 0x0704, 0x0706, 0x0707, 0x0B02, 0x0B04].contains op

/-- A command that the lead has relayed to a member. -/
def Prog.relayed (p : Prog) : Bool :=
  match p.origin with
  | .relay _ => true
  | .host => false
  | .lead => false

/-- The component that has a command: the scheduler core for the power family of the lead itself, the Cuing server for
what it relays, and else the one that serves its family (R432, R486, R488). -/
def Prog.server (p : Prog) : Nat :=
  match p.origin with
  | .relay _ => 3
  | .host => if p.opcode / 256 = 6 then 10 else servedBy p.opcode
  | .lead => servedBy p.opcode

/-- What serves a command is down, and the command waits: its component, the scheduler core, the fallback responder, or
a control core, for a table commit or a group's admission (R432, R435, R437, R486). -/
def State.serverDown (s : State) (p : Prog) : Bool :=
  if p.server = 10 then s.fw.delegates.contains 2
  else s.compDown p.server || s.mute ||
    ((decide (p.opcode = 0x0205) || decide (p.opcode = 0x0402)) && (List.range 8).any s.ctlDown)

/-- The command in progress under a tag that waits for its own performance; while CLAIMING every command but
the power family waits, and the resets, which R562 judges then; on a member that is CUT those of its lead
wait (R543). -/
def State.cmd (s : State) (tag opcode : Nat) : Option Prog :=
  if s.role = 3 ∧ opcode / 256 ≠ 6 ∧ opcode ≠ 0x0D01 then none
  else s.host.prog.find? (fun p =>
    decide (p.tag = tag) && decide (p.opcode = opcode) && decide (p.phase = 0) &&
      !(decide (p.origin = .lead) && s.host.cut) && !s.serverDown p)

/-- The reply entry of a command (R482). -/
def replyEntry (p : Prog) (status : Nat) (payload : List Byte) : HostEntry :=
  { ring := 1, idx := 0, minor := p.minor, opcode := p.opcode, tag := p.tag, member := p.member,
    flags := if 96 < payload.length then 1 else 0, status := status, dataAddr := p.dataAddr,
    capacity := p.capacity, payload := payload }

/-- Write bytes to host memory and then a reply entry; the ring engine waits while the function may not write, and with
no running ring the reply is discarded (R471, R479). -/
def State.replyWrite (s : State) (e : HostEntry) (d : List (Nat × List Byte)) : State :=
  if !s.ringOn 1 then s
  else if s.mastering then ({ s with host := { s.host with dma := s.host.dma ++ d } }).ringPut 1 e
  else { s with host := { s.host with replyHeld := s.host.replyHeld ++ [(e, d)] } }

/-- The replies that waited are written, or discarded where the ring no longer runs. -/
def State.replyFlush (s : State) : State :=
  if s.ringOn 1 ∧ !s.mastering then s
  else s.host.replyHeld.foldl (fun s r => s.replyWrite r.1 r.2) { s with host := { s.host with replyHeld := [] } }

/-- Write a reply to the host, its payload at DATA_ADDR when it is longer than 96 bytes (R484). -/
def State.replyOut (s : State) (p : Prog) (status : Nat) (payload : List Byte) : State :=
  s.replyWrite (replyEntry p status payload) (if 96 < payload.length then [(p.dataAddr, payload)] else [])

/-- End a command with a status and a reply payload: it leaves the commands in progress and its reply
goes where it came from (R480, R488). -/
def State.finish (s : State) (tag status : Nat) (payload : List Byte) : State :=
  match s.host.prog.find? (fun p => decide (p.tag = tag)) with
  | none => s
  | some p =>
    let s := { s with host := { s.host with prog := delFirst (fun q => decide (q.tag = tag)) s.host.prog } }
    if p.gone then s
    else match p.origin with
    | .host => s.replyOut p status payload
    | .relay _ => s.replyOut p status payload
    | .lead =>
      let big := decide (96 < payload.length)
      s.sendCuing 0x21 s.host.leadEid tag p.member (replyEntry p status payload).bytes
        (if big then payload else []) status

/-- Let a command's reply wait for an end that comes later. -/
def State.hold (s : State) (tag : Nat) : State :=
  { s with host := { s.host with
    prog := updFirst (fun q => decide (q.tag = tag)) (fun q => { q with phase := 1 }) s.host.prog } }

/-- The bytes of reply a command has room for (R484). -/
def Prog.room (p : Prog) : Nat :=
  if p.rbuf then (if p.capacity = 0 then 2 ^ 24 else p.capacity) else 96

/-- Whether a reply of n bytes fits the command's buffers (R484). -/
def Prog.fits (p : Prog) (n : Nat) : Bool := decide (n ≤ 96) || (p.rbuf && decide (n ≤ p.room))

/-- Serve the command under a tag by f, which answers a status and a reply: refused with REFUSED_FIT
when a reply of the fixed size does not fit, and with UNSUPPORTED when the payload breaks its row. -/
def State.serve (s : State) (tag opcode size : Nat) (ok : List Byte → Bool)
    (f : State → Prog → State × Nat × List Byte) : State :=
  match s.cmd tag opcode with
  | none => s
  | some p =>
    if !ok p.payload then s.finish tag stUnsup []
    else if !p.fits size then s.finish tag stFit []
    else
      let (s, st, r) := f s p
      s.finish tag st (if st = stOk then r else [])

/-- Answer the requester of a request that a register write or a Cuing command made, with a status and,
where it succeeds, a reply. -/
def State.answer (s : State) (src : Src) (status : Nat) (reply : List Byte) : State :=
  match src with
  | .reg _ _ _ => s
  | .cmd tag => s.finish tag status (if status = stOk then reply else [])

/-- A register request over BAR0 or JTAG reaches a device-owned command register; I3C does not reach
these blocks (R575), and the debug port only while the level is INVASIVE (R576). -/
def State.pathOk (s : State) (p : Path) : Bool :=
  s.pwr.vinAon && match p with
  | .bar0 => s.pwr.leadSel
  | .cuing => true
  | .i3c => false
  | .jtag => s.pwr.vinIo && decide (s.rf aSec 19 18 = 2)

end Sys2Proof.Machine
end

