-- ==== Sys2Proof/Machine/Lane.lean ====
section
/-!
DEFINITION. Sys2Proof/Machine/Lane.lean: lanes and coding of a port (R51 to R54): the codeword of a lane, the
scrambler, the PAM4 levels, the striping of the frame stream over the active lanes, and the conditions under
which a lane is retired (R54, R80).  Numbering inside a codeword is log entry 130.
-/

namespace Sys2Proof.Machine

/-! ### RS(544,514) over GF(2^10) (R51) -/

/-- Multiply a field element by the primitive element; the field is that of x^10 + x^3 + 1. -/
def gfTwice (a : Nat) : Nat := if 512 ≤ a then (2 * a) ^^^ 0x409 else 2 * a

/-- The product of two field elements, over the lowest n bits of the second. -/
def gfMul : Nat → Nat → Nat → Nat
  | 0, _, _ => 0
  | n + 1, a, b => (if bit b 0 then a else 0) ^^^ gfMul n (gfTwice a) (b / 2)

/-- The generator polynomial, highest coefficient first, without its leading 1: its roots are the first 30
powers of the primitive element. -/
def rsGen : List Nat :=
  (((List.range 30).foldl (fun (g : List Nat × Nat) _ =>
    (List.zipWith (fun a b => a ^^^ b) (g.1 ++ [0]) (0 :: g.1.map (fun c => gfMul 10 g.2 c)), gfTwice g.2))
    ([1], 1)).1).drop 1

/-- The 30 parity symbols of a message. -/
def rsParity (msg : List Nat) : List Nat :=
  msg.foldl (fun (p : List Nat) m =>
    let fb := m ^^^ p.headD 0
    List.zipWith (fun a g => a ^^^ gfMul 10 fb g) (p.drop 1 ++ [0]) rsGen) (List.replicate 30 0)

/-- A codeword with at most 15 wrong symbols decodes with correctable errors: (544 − 514) / 2 (R51, R57). -/
def fecOk (wrong : List Nat) : Bool := wrong.all (fun n => decide (n ≤ 15))

/-! ### The scrambler and the codeword (R52) -/

/-- Scramble n bits of a word, lowest first, by x^58 + x^39 + 1: the bits that come out, and the scrambler. -/
def scrambleBits : Nat → Nat → Nat → Nat × Nat
  | 0, _, st => (0, st)
  | n + 1, w, st =>
    let o := (w + st / 2 ^ 38 + st / 2 ^ 57) % 2
    let r := scrambleBits n (w / 2) ((2 * st + o) % 2 ^ 58)
    (o + 2 * r.1, r.2)

/-- Scramble bytes. -/
def scrambleBytes : List Byte → Nat → List Byte × Nat
  | [], st => ([], st)
  | b :: l, st =>
    let r := scrambleBits 8 b.toNat st
    let t := scrambleBytes l r.2
    (BitVec.ofNat 8 r.1 :: t.1, t.2)

/-- Four symbols of 10 bits for each five bytes. -/
def symbolsOf : Nat → List Byte → List Nat
  | 0, _ => []
  | n + 1, l =>
    let w := leNat (l.take 5)
    [w % 1024, w / 2 ^ 10 % 1024, w / 2 ^ 20 % 1024, w / 2 ^ 30 % 1024] ++ symbolsOf n (l.drop 5)

/-- The lane word: LANE_ID in [19:18], CW_COUNT in [15:0] (R52). -/
def laneWord (lane cw : Nat) : Nat := cw % 2 ^ 16 + lane % 4 * 2 ^ 18

/-- The 544 symbols of a codeword: the lane word, 640 scrambled bytes, parity. -/
def codeword (lane cw : Nat) (scrambled : List Byte) : List Nat :=
  let m := [laneWord lane cw % 1024, laneWord lane cw / 1024] ++ symbolsOf 128 scrambled
  m ++ rsParity m

/-- The Gray-coded level of two bits, the first sent first: 00, 01, 11, 10 are levels 0 to 3 (R51). -/
def grayLevel (a b : Bool) : Nat := if a then 3 - b2n b else b2n b

/-- The 2,720 levels of a codeword, each symbol lowest bit first. -/
def pam4 (symbols : List Nat) : List Nat :=
  symbols.flatMap (fun w => (List.range 5).map (fun i => grayLevel (bit w (2 * i)) (bit w (2 * i + 1))))

/-! ### Striping (R53) -/

/-- What lane position i of W sends in a period: blocks i, i + W, i + 2W, … of 16 bytes. -/
def laneBytes (w i : Nat) (l : List Byte) : List Byte :=
  (List.range 40).flatMap (fun j => slice l (16 * (w * j + i)) 16)

/-- One codeword period: every active lane sends a codeword of the same CW_COUNT, which then goes on. -/
def Port.period (x : Port) (lanes : List Nat) : Port :=
  let y := (lanes.zip (List.range lanes.length)).foldl (fun (y : Port) e =>
    let (b, st) := scrambleBytes (laneBytes lanes.length e.2 x.cwBytes) (tabGet (fun _ => 0) y.scramble e.1)
    { y with
      scramble := tabSet (fun _ => 0) y.scramble e.1 st
      line := tabSet (fun _ => []) y.line e.1 (pam4 (codeword e.1 x.cwCount b)) }) x
  { y with cwBytes := x.cwBytes.drop (640 * lanes.length), cwCount := (x.cwCount + 1) % 65535 }

/-- The frame stream grows by one frame; a period goes out once its bytes are there. -/
def Port.stream (x : Port) (lanes : List Nat) (frame : List Byte) : Port :=
  if lanes = [] then x
  else
    let y := { x with cwBytes := x.cwBytes ++ frame }
    if 640 * lanes.length ≤ y.cwBytes.length then y.period lanes else y

/-- Striping begins anew at a CW_COUNT, where a frame begins: a multiple of 17 (R53, R79). -/
def Port.restripe (x : Port) (cw : Nat) : Port := { x with cwBytes := [], cwCount := cw / 17 * 17 % 65535 }

/-! ### Retirement of a lane (R54, R80) -/

/-- Whether what was seen of a lane retires it: codeword lock lost for 1 µs, 16 uncorrectable codewords within
1 ms, a symbol error ratio above 2 × 10^-4 over 1 ms, a skew above 1 µs, a LANE_ID not its own. -/
def laneRetires (lane : Nat) : LaneFault → Bool
  | .lock ns => decide (1000 ≤ ns)
  | .uncorrectable n => decide (16 ≤ n)
  | .errorRatio wrong total => decide (2 * total < 10000 * wrong)
  | .skew ns => decide (1000 < ns)
  | .laneId i => decide (i ≠ lane)

end Sys2Proof.Machine
end

