-- ==== Sys2Proof/Machine/Pool.lean ====
section
/-!
DEFINITION. Sys2Proof/Machine/Pool.lean: the bobbin pool of a cluster: carving, reservations, draws, frees
and the double-free record (chapter 07), and the meanings of the pool's own commands.
-/

namespace Sys2Proof.Machine

/-- An empty pool. -/
def poolReset : Pool := { held := [], rsvs := [], waits := [], fill := [] }

/-- Buffers per segment of a class (R181). -/
def bufsPerSeg (k : Nat) : Nat :=
  if k = 0 then 256 else if k = 1 then 64 else if k = 2 then 16 else if k = 3 then 4 else 1

/-- Bytes of a buffer of a class (R181). -/
def bufBytes (k : Nat) : Nat := 65536 / bufsPerSeg k

def State.pool (s : State) (c : Nat) : Pool := tabGet (fun _ => poolReset) s.pools c

/-- OCC_PCT of R189. -/
def Pool.occPct (x : Pool) : Nat := 100 * sumNat (x.held.map (fun b => bufBytes b.cls)) / 33554432
def State.occPct (s : State) (c : Nat) : Nat := (s.pool c).occPct

/-- The throttling level at an occupancy: 2 stopped, 1 slowed; a level is left when the occupancy has fallen 5
points below its threshold (R159). -/
def State.injLevelAt (s : State) (c occ : Nat) : Nat :=
  let old := (s.pool c).level
  let stop := s.rf aInj 31 24
  let slow := s.rf aInj 23 16
  if stop ≤ occ ∨ (old = 2 ∧ stop < occ + 5) then 2
  else if slow ≤ occ ∨ (1 ≤ old ∧ slow < occ + 5) then 1 else 0

/-- Change the pool of a cluster: its occupancy moves the throttling level with it (R159). -/
def State.setPool (s : State) (c : Nat) (x : Pool) : State :=
  { s with pools := tabSet (fun _ => poolReset) s.pools c { x with level := s.injLevelAt c x.occPct } }

/-- The smallest class whose buffers hold n bytes; 5 when none does (R186). -/
def classFor (n : Nat) : Nat :=
  if n ≤ 256 then 0 else if n ≤ 1024 then 1 else if n ≤ 4096 then 2 else if n ≤ 16384 then 3
  else if n ≤ 65536 then 4 else 5

/-- TOTAL: the carved buffers of class k in cluster c (R183). -/
def State.poolTotal (s : State) (c k : Nat) : Nat := s.rf (aCarve c k) 25 16 * bufsPerSeg k

/-- RSV: the committed reservations of class k. -/
def Pool.rsv (x : Pool) (k : Nat) : Nat := sumNat ((x.rsvs.filter (fun r => r.cls = k)).map (·.n))

/-- Buffers of class k held under reservations, and held by unreserved draws. -/
def Pool.heldRsv (x : Pool) (k : Nat) : Nat := (x.held.filter (fun b => b.cls = k && b.rsvd)).length
def Pool.heldUnrsv (x : Pool) (k : Nat) : Nat := (x.held.filter (fun b => b.cls = k && !b.rsvd)).length

/-- AVAIL = TOTAL − RSV − HELD_UNRSV (R183). -/
def State.poolAvail (s : State) (c k : Nat) : Nat :=
  s.poolTotal c k - (s.pool c).rsv k - (s.pool c).heldUnrsv k

/-- Commit a reservation of n buffers of class k for a holder; none when n > AVAIL (R183). -/
def State.poolReserve (s : State) (c : Nat) (h : Holder) (k n : Nat) : Option State :=
  if n ≤ s.poolAvail c k then
    some (s.setPool c { s.pool c with rsvs := (s.pool c).rsvs ++ [⟨h, k, n⟩] })
  else none

/-- Commit several reservations for one holder, all or none. -/
def State.poolReserveAll (s : State) (c : Nat) (h : Holder) : List (Nat × Nat) → Option State
  | [] => some s
  | (k, n) :: r =>
    match s.poolReserve c h k n with
    | none => none
    | some s => State.poolReserveAll s c h r

/-- Release every reservation of a holder. -/
def State.poolRelease (s : State) (c : Nat) (h : Holder) : State :=
  s.setPool c { s.pool c with rsvs := (s.pool c).rsvs.filter (fun r => r.holder ≠ h) }

/-- The first FREE index of class k at or after i, going round: fuel bounds the search. -/
def Pool.freeFrom (x : Pool) (k total : Nat) : Nat → Nat → Nat
  | 0, i => i
  | fuel + 1, i =>
    if x.held.any (fun b => b.cls = k && b.idx = i) then
      Pool.freeFrom x k total fuel (if i + 1 < total then i + 1 else 0)
    else i

/-- Draw one buffer of class k: which free buffer it is, is a free value (R187). -/
def State.poolDraw (s : State) (c k : Nat) (rsvd : Bool) (h : Holder) : Nat × State :=
  let total := s.poolTotal c k
  let (r, s) := s.draw
  let x := s.pool c
  let i := x.freeFrom k total x.held.length (r % max total 1)
  (k * 2 ^ 17 + i, s.setPool c { x with held := ⟨k, i, rsvd, h⟩ :: x.held })

/-- Buffers of class k that a holder holds, and that it has reserved. -/
def Pool.usedBy (x : Pool) (h : Holder) (k : Nat) : Nat :=
  (x.held.filter (fun b => b.cls = k && b.rsvd && b.holder = h)).length
def Pool.rsvBy (x : Pool) (h : Holder) (k : Nat) : Nat :=
  sumNat ((x.rsvs.filter (fun r => r.cls = k && r.holder = h)).map (·.n))

/-- Whether class k spills to larger classes (R192). -/
def State.spills (s : State) (c k : Nat) : Bool := decide (k < 4) && s.rf (aCarve c k) 31 31 = 1

/-- The classes that may serve a draw of class k: its own, and with its SPILL_UP the larger ones (R186). -/
def State.drawFrom (s : State) (c k j : Nat) : Bool := decide (j = k) || (decide (k < j) && s.spills c k)

/-- The class that serves an unreserved draw of class k: its own, or with its SPILL_UP the next larger one that
can (R184, R186); no class that an older draw waits for (R187).  A pool whose SWn is OFF serves none (R41). -/
def State.drawClass (s : State) (c k : Nat) (older : List Draw) : Option Nat :=
  if s.isOff (dSw c) then none
  else ((List.range 5).filter (s.drawFrom c k)).find? (fun j =>
    decide (0 < s.poolAvail c j) && older.all (fun d => !s.drawFrom c d.cls j))

/-- An unreserved draw for n bytes: a handle, or the draw waits in arrival order (R186). -/
def State.poolDrawBytes (s : State) (c n : Nat) (h : Holder) : Option Nat × State :=
  let k := classFor n
  match s.drawClass c k (s.pool c).waits with
  | some j => let (x, s) := s.poolDraw c j false h; (some x, s)
  | none =>
    if (s.pool c).waits.any (fun d => d.holder = h) then (none, s)
    else
      let s := s.evUnit c 0x47 k 1
      (none, s.setPool c { s.pool c with waits := (s.pool c).waits ++ [⟨k, h⟩] })

/-- Record a double free while VALID = 0, and raise its event (R191). -/
def State.dfLog (s : State) (c handle unit holder : Nat) : State :=
  if s.rf (aDfLog c 0) 31 31 = 1 then s
  else
    let w0 := BitVec.ofNat 32 (2 ^ 31 + unit * 2 ^ 20 + handle)
    let s := ((s.setReg (aDfLog c 0) w0).setReg (aDfLog c 1) (BitVec.ofNat 32 holder)).setReg
      (aDfLog c 2) (BitVec.ofNat 32 s.aon)
    let s := s.setReg (aDfLog c 3) (BitVec.ofNat 32 (s.aon / 2 ^ 32))
    s.event 0x0B80 0 (leBytes 1 c ++ leBytes 4 w0.toNat ++ leBytes 4 holder)

/-- What a free came to (R190). -/
inductive FreeResult where
  | freed
  | bad
  | double
  deriving DecidableEq, Repr

/-- Free a buffer by its handle (R190). -/
def State.poolFree (s : State) (c handle unit holder : Nat) : FreeResult × State :=
  let k := bits handle 19 17
  let i := bits handle 16 0
  if 4 < k ∨ s.poolTotal c k ≤ i then (.bad, s.bump (aBobErr c) 15 1 1)
  else
    let x := s.pool c
    if x.held.any (fun b => b.cls = k && b.idx = i) then
      (.freed, s.setPool c { x with held := delFirst (fun b => b.cls = k && b.idx = i) x.held })
    else (.double, (s.bump (aBobErr c) 31 16 1).dfLog c handle unit holder)

/-- Free every buffer of a holder. -/
def State.poolFreeAll (s : State) (c : Nat) (h : Holder) : State :=
  s.setPool c { s.pool c with
    held := (s.pool c).held.filter (fun b => b.holder ≠ h)
    waits := (s.pool c).waits.filter (fun d => d.holder ≠ h) }

/-- Draw n buffers of class k under a holder's reservation. -/
def State.poolDrawN (s : State) (c k : Nat) (h : Holder) : Nat → State
  | 0 => s
  | n + 1 => ((s.poolDraw c k true h).2).poolDrawN c k h n

/-- Bring the buffers of class k that a holder has drawn under its reservation to n. -/
def State.poolHold (s : State) (c k : Nat) (h : Holder) (n : Nat) : State :=
  let m := (s.pool c).usedBy h k
  if m ≤ n then s.poolDrawN c k h (n - m)
  else s.setPool c { s.pool c with
    held := (List.range (m - n)).foldl (fun l _ =>
      delFirst (fun b => decide (b.cls = k) && b.rsvd && decide (b.holder = h)) l) (s.pool c).held }

/-- Release a holder's reservation but for the buffers it has not returned (R130, R184). -/
def State.poolTrim (s : State) (c k : Nat) (h : Holder) : State :=
  let n := (s.pool c).usedBy h k
  let s := s.poolRelease c h
  if n = 0 then s else s.setPool c { s.pool c with rsvs := (s.pool c).rsvs ++ [⟨h, k, n⟩] }

/-- Buffers a port reserves for a channel advertised at adv picks (R185). -/
def portBufs (adv : Nat) : Nat := ceilDiv adv 4 + 1

/-- The reservation of a channel comes down to what the port's role and advertisement need as its buffers return
(R184, R185). -/
def State.portTrim (s : State) (p v : Nat) : State :=
  let c := p / 16
  let h := Holder.port p v
  let n := max ((s.pool c).usedBy h 0) (if s.portRole p = 0 then 0 else portBufs (s.rf (aCredit p v) 15 0))
  if (s.pool c).rsvBy h 0 ≤ n then s
  else
    let s := s.poolRelease c h
    if n = 0 then s else s.setPool c { s.pool c with rsvs := (s.pool c).rsvs ++ [⟨h, 0, n⟩] }

/-- A data pick enters the input buffer of port p, channel v: four picks to a buffer, drawn under the
port's reservation (R185).  `fill` counts the picks in the newest buffer and those that have left the
oldest. -/
def State.pickIn (s : State) (p v : Nat) : State :=
  let c := p / 16
  let (n, m) := tabGet (fun _ => (0, 0)) (s.pool c).fill (8 * p + v)
  let s := if n % 4 = 0 then (s.poolDraw c 0 true (.port p v)).2 else s
  s.setPool c { s.pool c with
    fill := tabSet (fun _ => (0, 0)) (s.pool c).fill (8 * p + v) ((n + 1) % 4, m) }

/-- n data picks leave the input buffer of port p, channel v. -/
def State.picksOut (s : State) (p v : Nat) : Nat → State
  | 0 => s
  | n + 1 =>
    let c := p / 16
    let (a, m) := tabGet (fun _ => (0, 0)) (s.pool c).fill (8 * p + v)
    let x := s.pool c
    let own := x.held.filter (fun b => b.holder = .port p v)
    if own = [] then s
    else
    let last := decide (own.length = 1) && decide ((m + 1) % 4 = a % 4)
    let done := decide (m + 1 = 4) || last
    -- held buffers stand newest first, so the oldest of this channel is the last one
    let held := if done then
        (match own.getLast? with
          | some b => delFirst (fun y => decide (y = b)) x.held
          | none => x.held)
      else x.held
    let f := if last then (0, 0) else (a, (m + 1) % 4)
    let s := s.setPool c { x with held := held, fill := tabSet (fun _ => (0, 0)) x.fill (8 * p + v) f }
    State.picksOut (if done then s.portTrim p v else s) p v n

/-- Commit the reservations of every channel of port p, all or none (R185). -/
def State.portReserve (s : State) (p : Nat) : Option State :=
  (List.range 7).foldl (fun o v =>
    match o with
    | none => none
    | some s => (s.poolRelease (p / 16) (.port p v)).poolReserve (p / 16) (.port p v) 0
        (portBufs (s.rf (aCredit p v) 15 0))) (some s)

/-- Release the reservations of port p, but for buffers whose picks have not left (R184, R185). -/
def State.portUnreserve (s : State) (p : Nat) : State :=
  (List.range 7).foldl (fun s v => s.portTrim p v) s

/-- The carve of SEG_PENDING, class 0 first. -/
def State.segPending (s : State) (c : Nat) : List Nat :=
  (List.range 5).map (fun k => s.rf (aCarve c k) 9 0)

/-- Take SEG_PENDING as the carve in force. -/
def State.carve (s : State) (c : Nat) : State :=
  (List.range 5).foldl (fun s k => s.setRf (aCarve c k) 25 16 (s.rf (aCarve c k) 9 0)) s

/-- The outcome of an APPLY (R182): 1 DONE, 2 REFUSED_STATE, 3 REFUSED_FIT. -/
def State.applyResult (s : State) (c : Nat) : Nat :=
  let x := s.pool c
  if s.fallback then 2
  else if !x.held.isEmpty || !x.waits.isEmpty then 2
  else if 512 < sumNat (s.segPending c) then 3
  else if (List.range 5).any (fun k => decide (s.rf (aCarve c k) 9 0 * bufsPerSeg k < x.rsv k)) then 3
  else 1

/-- The pool comes back empty, carved by SEG_ACTIVE, with its reservations committed again (R182). -/
def State.poolRebuild (s : State) (c : Nat) : State :=
  s.setPool c { poolReset with rsvs := (s.pool c).rsvs }

/-- BOB_APPLY (R182, R193): the write of APPLY takes SEG_PENDING as the carve, or refuses. -/
def execBobApply (path : Path) (c : Nat) (v : Word) (s : State) : Out :=
  if c < 8 ∧ s.pathOk path ∧ fld v 0 0 = 1 ∧ s.isOff (dSw c) = false then
    let r := s.applyResult c
    let s := if r = 1 then s.carve c else s
    .next (s.setRf (aApply c) 3 1 r)
  else .next s

/-- BOB_DRAW_SERVED (R186, R187): the oldest waiting draw of a class is served, from its class or by SPILL_UP from
the next larger one that can, and never before an older draw of another class that could be. -/
def execBobDrawServed (c cls : Nat) (s : State) : Out :=
  match (s.pool c).waits.find? (fun d => decide (d.cls = cls)),
      s.drawClass c cls ((s.pool c).waits.takeWhile (fun d => decide (d.cls ≠ cls))) with
  | some d, some j =>
    let s := s.setPool c { s.pool c with
      waits := delFirst (fun e => decide (e = d)) (s.pool c).waits }
    .next (s.poolDraw c j false d.holder).2
  | _, _ => .next s

/-- BOB_DF_LOG_CLEAR (R191, R196): writing 1 to VALID clears the record. -/
def execBobDfLogClear (path : Path) (c : Nat) (v : Word) (s : State) : Out :=
  if c < 8 ∧ s.pathOk path ∧ fld v 31 31 = 1 ∧ s.isOff (dSw c) = false then
    .next ((((s.setReg (aDfLog c 0) 0).setReg (aDfLog c 1) 0).setReg (aDfLog c 2) 0).setReg
      (aDfLog c 3) 0)
  else .next s

/-- BOB_ERR_CLEAR (R195): writing 1 to CLEAR clears both counts. -/
def execBobErrClear (path : Path) (c : Nat) (v : Word) (s : State) : Out :=
  if c < 8 ∧ s.pathOk path ∧ fld v 0 0 = 1 ∧ s.isOff (dSw c) = false then
    .next (s.setReg (aBobErr c) 0)
  else .next s

end Sys2Proof.Machine
end

