-- ==== Sys2Proof/Machine/Route.lean ====
section
/-!
DEFINITION. Sys2Proof/Machine/Route.lean: the route and multicast tables, the choice of an output port, the
multicast copies, and the checks on arrival (chapters 04 and 05, with the selvedge checks of 06).
-/

namespace Sys2Proof.Machine

/-- Word 4 of a route entry of the active copy (R113). -/
def State.rt4 (s : State) (eid w hi lo : Nat) : Nat := s.rf (aRoute (eid % 16384) w) hi lo

/-- The entry serves the EID: VALID and a matching tag (R111). -/
def State.rtValid (s : State) (eid : Nat) : Bool :=
  s.rt4 eid 4 31 31 = 1 && decide (s.rt4 eid 4 30 29 = eid / 16384)
def State.rtDead (s : State) (eid : Nat) : Bool := s.rt4 eid 4 27 27 = 1
def State.rtLocal (s : State) (eid : Nat) : Bool := s.rt4 eid 4 28 28 = 1
/-- The EID is one of the device's own LOCAL entries. -/
def State.isSelf (s : State) (eid : Nat) : Bool := s.rtValid eid && s.rtLocal eid
/-- A member or peer that R217, R220 or R490 calls DEAD or not VALID. -/
def State.rtGone (s : State) (eid : Nat) : Bool := !s.rtValid eid || s.rtDead eid
def State.pinPort (s : State) (eid : Nat) : Nat := s.rt4 eid 4 14 8
def State.selPort (s : State) (eid : Nat) : Nat := s.rt4 eid 4 22 16
def State.selDir (s : State) (eid : Nat) : Nat := s.rt4 eid 4 25 25

/-- The ports of the spray mask, ascending. -/
def State.sprayPorts (s : State) (eid : Nat) : List Nat :=
  (List.range 4).flatMap (fun j => (bitList 32 (s.rt4 eid j 31 0)).map (fun i => 32 * j + i))

/-- UP_OUT of a port: 0 while ROLE is EDGE or PAIR (R175). -/
def State.upOut (s : State) (p : Nat) : Nat :=
  if s.portRole p = 1 ∨ s.portRole p = 3 then 0 else s.rf (aPortSel p) 0 0

/-- The outcomes of a lookup (R112). -/
inductive Lookup where
  | noRoute
  | dead
  | own
  | forward
  deriving DecidableEq, Repr

/-- Look up a destination EID (R112). -/
def State.lookup (s : State) (eid : Nat) : Lookup :=
  if !s.rtValid eid then .noRoute
  else if s.rtDead eid then .dead
  else if s.rtLocal eid then .own
  else .forward

/-- A member has a live port toward its lead: one of its spray mask, or the pinned port (R547). -/
def State.leadPath (s : State) : Bool :=
  s.rtValid s.host.leadEid && (s.pinPort s.host.leadEid :: s.sprayPorts s.host.leadEid).any (fun p => s.live p)

/-- A member with no record at its lead. -/
def memberReset : Member := { bound := false, serial := 0, eid := 0, lost := false, credit := 0 }
def State.member (s : State) (m : Nat) : Member := tabGet (fun _ => memberReset) s.host.members m
def State.setMember (s : State) (m : Nat) (x : Member) : State :=
  { s with host := { s.host with members := tabSet (fun _ => memberReset) s.host.members m x } }

/-- A lead has a path to an EID: an entry that is VALID and not DEAD, and a port of it that forwards and whose
link is up, held links among them (R27). -/
def State.pathTo (s : State) (eid : Nat) : Bool :=
  !s.rtGone eid && (s.pinPort eid :: s.sprayPorts eid).any (fun p => s.fwdEn p &&
    (decide ((s.port p).lstate = .active) || decide ((s.port p).lstate = .hold)))

/-- A lead raises MEMBER for each member that lost every path, or regained one (R27, R494). -/
def State.memberScan (s : State) : State :=
  (s.host.members.map (·.1)).foldl (fun (s : State) m =>
    let x := s.member m
    let lost := !s.pathTo x.eid
    if x.bound && x.lost != lost then
      (s.setMember m { x with lost := lost }).event 0x0180 0 (leBytes 1 m ++ leBytes 1 (if lost then 1 else 2))
    else s) s

/-- Paths may have come back: a member that is CUT is BOUND again once a port toward its lead is live (R547). -/
def State.uncut (s : State) : State :=
  let s := if s.host.cut && s.leadPath then { s with host := { s.host with cut := false } } else s
  s.memberScan

/-- OCC(p, v): picks queued for port p on channel v, plus the picks outstanding downstream (R124). -/
def State.occ (s : State) (p v : Nat) : Nat :=
  sumNat ((s.outq p v).map (fun q => 1 + q.data.length / 64 - q.sent)) +
    ((s.port p).sCnt.getD v 0 + 65536 - (s.port p).fPeer.getD v 0) % 65536

/-- The hash input of R123 and R124: HASH_SEED, header bytes 0–3, header bytes 8–27. -/
def State.hash (s : State) (h : List Byte) : Nat :=
  crc32c (leBytes 2 (s.rf aSpray 31 16) ++ slice h 0 4 ++ slice h 8 20)

/-- choose_port over a candidate list in ascending order (R123). -/
def State.choosePort (s : State) (cand : List Nat) (v : Nat) (h : List Byte) : Option Nat :=
  match cand.filter (fun p => s.live p) with
  | [] => none
  | p :: r =>
    let sh := s.rf aSpray 2 0
    let m := r.foldl (fun m x => min m (s.occ x v >>> sh)) (s.occ p v >>> sh)
    let tied := (p :: r).filter (fun x => s.occ x v >>> sh = m)
    tied[s.hash h % tied.length]?

/-- The candidate ports of a unicast packet (R123). -/
def State.cand (s : State) (h : List Byte) : List Nat :=
  if hPinned h then [s.pinPort (hDst h)] else s.sprayPorts (hDst h)

/-- What R125 makes of a packet for which no candidate port is live. -/
inductive NoPort where
  | wakePort (p : Nat)
  | wait
  | discard
  deriving DecidableEq, Repr

/-- R125: wake the lowest REST-held candidate, wait for a FREEZE-held one, or discard. -/
def State.noPort (s : State) (cand : List Nat) : NoPort :=
  match cand.find? (fun p => s.fwdEn p && decide ((s.port p).lstate = .hold) &&
      decide ((s.port p).holdReason = .rest)) with
  | some p => .wakePort p
  | none =>
    if cand.any (fun p => s.fwdEn p && decide ((s.port p).lstate = .hold) &&
        decide ((s.port p).holdReason = .freeze)) then .wait
    else .discard

/-- The indices of route entries that hold anything, in one copy of the table. -/
def State.routeKeys (s : State) (base : Nat) : List Nat :=
  s.regs.filterMap (fun e =>
    if base ≤ e.1 ∧ e.1 < base + 0x80000 ∧ e.1 % 0x20 = 0x10 then some ((e.1 - base) / 0x20) else none)

/-- The indices of route entries of which any word holds anything. -/
def State.routeKeysAny (s : State) (base : Nat) : List Nat :=
  (s.regs.filterMap (fun e =>
    if base ≤ e.1 ∧ e.1 < base + 0x80000 then some ((e.1 - base) / 0x20) else none)).eraseDups

/-- The EIDs of VALID entries with a grid position on a row or column whose other coordinate has its
mask bit set (R116). -/
def State.mcastMembers (s : State) (g : Nat) : List Nat :=
  if s.rf (aMcast g 8) 31 31 = 0 then []
  else
    let col := s.rf (aMcast g 8) 30 30 = 1
    let idx := s.rf (aMcast g 8) 7 0
    ((s.routeKeys 0x02000000).filter (fun i =>
      let row := s.rf (aRoute i 5) 15 8
      let cl := s.rf (aRoute i 5) 7 0
      let here := if col then cl else row
      let there := if col then row else cl
      s.rf (aRoute i 4) 31 31 = 1 && s.rf (aRoute i 4) 26 26 = 1 && decide (here = idx) &&
        s.rf (aMcast g (there / 32)) (there % 32) (there % 32) = 1)).map
      (fun i => s.rf (aRoute i 4) 30 29 * 16384 + i)

/-- Whether a partner is configured, its EID, and the PAIR ports named in DVT_CFG (R503). -/
def State.partner (s : State) : Nat := s.rf aDvtCfg 31 16
def State.paired (s : State) : Bool := decide (s.partner ≠ 0xFFFF)
def State.pairPorts (s : State) : List Nat :=
  let a := s.rf aDvtCfg 6 0
  let b := s.rf aDvtCfg 14 8
  if a = b then [a] else [a, b]

/-- The lowest-numbered live PAIR port (R513). -/
def State.livePair (s : State) : Option Nat :=
  (List.range 128).find? (fun p => decide (s.portRole p = 3) && s.live p)

/-- The packet types of R95. -/
def typeKnown (t : Nat) : Bool :=
  [0x01, 0x02, 0x03, 0x04, 0x05, 0x06, 0x09, 0x0A, 0x0B, 0x0C, 0x0D, 0x10, 0x18, 0x19, 0x20, 0x21,
    0x22, 0x23, 0x24, 0x25, 0x28, 0x29].contains t

/-- FENCE, PINNED and MCAST obey R105: FENCE only in the classes REQ and BULK, MCAST only on RESULT and
GROUP_FAIL and never with PINNED (DEDUCED, log entry 8). -/
def flagsOk (h : List Byte) : Bool :=
  let t := hType h
  let c := t / 8
  (!hFence h || c = 0 || c = 5) &&
  (!hMcast h || ((t = 0x18 || t = 0x19) && !hPinned h))

/-- Reserved header bits are 0 (R94; check 2 of R107). -/
def reservedOk (h : List Byte) : Bool :=
  decide (bits (byteAt h 4) 7 6 = 0) && decide (bits (byteAt h 5) 7 6 = 0) &&
  decide (bits (byteAt h 6) 7 7 = 0) && decide (byteAt h 7 = 0) && decide (field h 13 3 = 0) &&
  decide (field h 56 4 = 0)

/-- The ingress checks 1 to 4 of R107, in order: 0 passed, 1 to 4 the check that failed. -/
def State.ingress (s : State) (p ch : Nat) (h : List Byte) : Nat :=
  let t := hType h
  let cuing := t = 0x20 ∨ t = 0x21 ∨ t = 0x22
  let partners := (hSrc h = s.partner ∧ hDst h = s.selfEid) ∨ (hSrc h = s.selfEid ∧ hDst h = s.partner)
  let windowed := t = 5 ∨ t = 6 ∨ t = 0x0D ∨ t = 9
  if 64 < hLen h then 1
  else if !typeKnown t || decide (hVc h ≠ t / 8) || (decide (ch ≠ hVc h) && decide (ch ≠ 6)) ||
      !flagsOk h || !reservedOk h || (hMcast h && decide (hDst h / 1024 ≠ 0)) then 2
  else if (t = 0x24 ∨ t = 0x25 ∨ t = 0x28) ∧ s.portRole p ≠ 3 then 3
  else if s.portRole p = 3 ∧ ¬ (t = 0x24 ∨ t = 0x25 ∨ t = 0x28 ∨ cuing ∨ t = 0x23 ∨
      (windowed ∧ partners)) then 3
  else if s.isSelf (hSrc h) then 4
  else 0

/-- Whether the packet is a BIND (R492): a CUING_CMD whose entry has opcode 0x0104. -/
def isBind (h data : List Byte) : Bool := decide (hType h = 0x20) && decide (field data 2 2 = 0x0104)

/-- Where the payload of a Cuing packet's entry stands: inline, or after the entry with SCATTER = 1 (R484, R488). -/
def payloadAt (data : List Byte) : Nat := if bit (byteAt data 7) 0 then 128 else 32

/-- A BIND that names the device's own serial, whatever its DST_EID (R492). -/
def bindMine (h data : List Byte) : Bool := isBind h data && decide (field data (payloadAt data) 8 = Config.serial)

/-- The quarantine filter of R60: only VC 4 to the own service EID, or a BIND while no EID is assigned. -/
def State.quarPass (s : State) (ch : Nat) (h data : List Byte) : Bool :=
  decide (ch = 4) && (if s.selfEid = 0xFFFF then bindMine h data else decide (hDst h = s.selfEid))

/-- Whether the filter has to wait: the entry that tells a BIND stands in the first data pick, its serial there or in
the third, and these may come after the header. -/
def State.quarWait (s : State) (ch : Nat) (h data : List Byte) : Bool :=
  decide (ch = 4) && decide (s.selfEid = 0xFFFF) && decide (hType h = 0x20) && decide (0 < hLen h) &&
    (decide (data.length < 64) || (isBind h data && decide (data.length < payloadAt data + 8) &&
      decide (payloadAt data + 8 ≤ 64 * hLen h)))

/-- The selvedge order check of R167: the packet must be discarded. -/
def State.selBad (s : State) (q eid : Nat) : Bool :=
  let own := decide (s.lookup eid = .own)
  (decide (q < 128) && decide (s.portRole q = 1) && !own) ||
  (decide (q < 128) && decide (s.upOut q = 1) && !own && decide (s.selDir eid ≠ 0)) ||
  (!own && decide (s.selDir eid ≠ s.upOut (s.selPort eid)))

/-- A commit is in CLOSING (R144, step 3). -/
def State.closing (s : State) : Bool := decide (s.rf aCommitSt 6 4 = 2)

/-- Route entry i differs between its shadow and its active copy. -/
def State.routeChanged (s : State) (i : Nat) : Bool :=
  (List.range 8).any (fun w => decide (s.reg (aRouteSh i w) ≠ s.reg (aRoute i w)))

/-- Multicast group g differs between its shadow and its active copy. -/
def State.mcastChanged (s : State) (g : Nat) : Bool :=
  (List.range 16).any (fun w => decide (s.reg (aMcastSh g w) ≠ s.reg (aMcast g w)))

/-- A lookup of this header hits a changed entry of a commit in CLOSING: for a multicast packet that of its group,
or of one of the members whose copies are chosen by their route entries (R141, R144). -/
def State.heldByCommit (s : State) (h : List Byte) : Bool :=
  s.closing && (if hMcast h then
      s.mcastChanged (hDst h % 1024) || (s.mcastMembers (hDst h % 1024)).any (fun e => s.routeChanged (e % 16384))
    else s.routeChanged (hDst h % 16384))

end Sys2Proof.Machine
end

