-- ==== Sys2Proof/Machine/Mirror.lean ====
section
/-!
DEFINITION. Sys2Proof/Machine/Mirror.lean: the mirror stream of a dovetail pair as the active sends it: the
items of R595, the room of 64 unacknowledged items, and the replies that wait for an acknowledgement
(R513, R514).
-/

namespace Sys2Proof.Machine

/-- MIRROR of DVT_STATUS (R514): 0 NONE, 1 BASELINE, 2 MIRRORING, 3 DEGRADED. -/
def State.mirState (s : State) : Nat := s.rf aDvt 28 27
/-- The pair mirrors: the active's stream is current (R514). -/
def State.mirroring (s : State) : Bool := decide (s.role = 1) && decide (s.mirState = 2)
/-- The active sends its stream: during the baseline and while it is current. -/
def State.streaming (s : State) : Bool :=
  decide (s.role = 1) && (decide (s.mirState = 1) || decide (s.mirState = 2))

/-- The operation fields of a PAIR_MSG (R595). -/
def opP (kind typ seg seq key segs status bytes : Nat) : List Byte :=
  leBytes 1 kind ++ leBytes 1 typ ++ leBytes 2 seg ++ leBytes 4 seq ++ leBytes 4 key ++ leBytes 2 segs ++
    leBytes 2 status ++ leBytes 4 bytes

/-- Send one PAIR_MSG to the partner (R595). -/
def State.pairMsg (s : State) (op data : List Byte) : State :=
  s.emit plinthCluster (mkPkt s.partner s.selfEid 0x25 false false false 0 0 op data)

/-- Send every segment of an item. -/
def State.sendItem (s : State) (m : MirItem) : State :=
  let bytes := sumNat (m.got.map (fun x => x.2.length))
  m.got.foldl (fun s x => s.pairMsg (opP 2 m.typ x.1 m.seq m.key m.segs 0 bytes) x.2) s

/-- The segments of an item body: 4,096 bytes each, the last one shorter (R595). -/
def itemSegs (body : List Byte) : List (Nat × List Byte) :=
  (segments 4096 (body.length / 4096 + 1) 0 body).map (fun x => (x.1 / 4096, x.2))

/-- Put an item into the stream: sent at once while fewer than 64 are unacknowledged, else after those
before it.  An item of type 10 is not acknowledged. -/
def State.mirrorPut (s : State) (typ key : Nat) (body : List Byte) (tag : Option Nat) (reply : List Byte) :
    State :=
  let segs := itemSegs body
  let m : MirItem :=
    { seq := s.pair.itemSeq, typ := typ, key := key, segs := segs.length, bytes := body.length, got := segs, tag := tag, reply := reply }
  let s := { s with pair := { s.pair with itemSeq := (s.pair.itemSeq + 1) % 2 ^ 32 } }
  if typ = 10 then s.sendItem m
  else if s.pair.unacked.length < 64 then
    { s.sendItem m with pair := { s.pair with unacked := s.pair.unacked ++ [{ m with got := [] }] } }
  else { s with pair := { s.pair with waiting := s.pair.waiting ++ [m] } }

/-- Mirror a change that no command waits for. -/
def State.mirror (s : State) (typ key : Nat) (body : List Byte) : State :=
  if s.streaming then s.mirrorPut typ key body none [] else s

/-- Mirror the change that a request made, and answer the request: after the acknowledgement while the
pair mirrors, at once otherwise (R513, R514). -/
def State.mirrorAnswer (s : State) (typ key : Nat) (body : List Byte) (src : Src) (reply : List Byte) : State :=
  match src with
  | .reg _ _ _ => s.mirror typ key body
  | .cmd tag =>
    if s.mirroring then (s.hold tag).mirrorPut typ key body (some tag) reply
    else (s.mirror typ key body).finish tag stOk reply

/-- An item of a type and key still waits for its acknowledgement. -/
def State.mirrorWaits (s : State) (p : MirItem → Bool) : Bool :=
  s.mirroring && (s.pair.unacked ++ s.pair.waiting).any p

/-- The pair leaves MIRRORING: what waited for an acknowledgement completes without it (R514). -/
def State.mirrorEnd (s : State) (state : Nat) : State :=
  let l := s.pair.unacked ++ s.pair.waiting
  let s := s.setRf aDvt 28 27 state
  let s := { s with pair := { s.pair with unacked := [], waiting := [] } }
  l.foldl (fun s m => match m.tag with | some t => s.finish t stOk m.reply | none => s) s

/-! ### The bodies of items (R595) -/

/-- Type 1: route entry i of the active copy; type 2: multicast group g. -/
def State.bodyRoute (s : State) (i : Nat) : List Byte := s.regBytes (aRoute i 0) 8
def State.bodyMcast (s : State) (g : Nat) : List Byte := s.regBytes (aMcast g 0) 16
/-- Type 3: a group context, its member entries, its plan entries. -/
def State.bodyGroup (s : State) (g : Nat) : List Byte :=
  s.regBytes (aGroup g 0) 16 ++
    s.regBytes (aMemberE (s.rf (aGroup g 2) 15 0)) (s.rf (aGroup g 2) 29 16) ++
    s.regBytes (aPlan (s.rf (aGroup g 6) 30 16)) (s.rf (aGroup g 6) 13 0)
/-- Type 5: a slot context, its level-1 entries, LEN of each layer. -/
def State.bodySlot (s : State) (n : Nat) : List Byte :=
  s.regBytes (aSlot n 0) 16 ++ s.regBytes (aL1 n 0) 512 ++ s.regBytes (aLen n 0) (s.rf (aSlot n 3) 31 16)
/-- Type 7: the envelope and host request registers. -/
def State.bodyTrd (s : State) : List Byte := s.regBytes aCapRack 8 ++ s.regBytes aHostReq 4
/-- Type 8: the port configuration and FLOW_PARITY. -/
def State.bodyPorts (s : State) : List Byte :=
  (List.range 128).flatMap (fun p => s.regBytes (aPortCfg p) 1 ++ s.regBytes (aHoldLim p) 1 ++
    s.regBytes (aRetry p) 1 ++ s.regBytes (aCredit p 0) 7 ++ s.regBytes (aPortSel p) 1) ++
    leBytes 4 (s.rf aDvt 22 22)

/-- Mirror the port configuration, the envelope and host requests, SELF_EID, a slot, page entries. -/
def State.mirrorPorts (s : State) : State := if s.streaming then s.mirror 8 0 s.bodyPorts else s
def State.mirrorTrd (s : State) : State := if s.streaming then s.mirror 7 0 s.bodyTrd else s
def State.mirrorSelf (s : State) : State := if s.streaming then s.mirror 9 0 (s.regBytes aSelfEid 1) else s
def State.mirrorSlot (s : State) (n : Nat) : State := if s.streaming then s.mirror 5 n (s.bodySlot n) else s
def State.mirrorPte (s : State) (n lpn e : Nat) : State :=
  if s.streaming then s.mirror 6 (n * 2 ^ 27 + lpn) (leBytes 8 e) else s

/-- A page table or slot item of a slot waits for its acknowledgement (R257). -/
def State.slotWaits (s : State) (n : Nat) : Bool :=
  s.mirrorWaits (fun m => (decide (m.typ = 5) && decide (m.key = n)) ||
    (decide (m.typ = 6) && decide (m.key / 2 ^ 27 = n)))

end Sys2Proof.Machine
end

