-- ==== Sys2Proof/Machine/Sink.lean ====
section
/-!
DEFINITION. Sys2Proof/Machine/Sink.lean: what every packet meets when the device sinks it: it leaves the sunk
packets, and its end-to-end code is checked before any field is acted on (R106, R107 check 6).
-/

namespace Sys2Proof.Machine

/-- A packet stands among those sunk on a port, and it is taken out. -/
def State.wasSunk (s : State) (port : Nat) (p : Pkt) : Bool :=
  s.sw.sunk.any (fun q => decide (q.inq = port) && decide (q.hdr = p.hdr) && decide (q.data = p.data))
def State.unsink (s : State) (port : Nat) (p : Pkt) : State :=
  { s with sw := { s.sw with
    sunk := delFirst (fun q => decide (q.inq = port) && decide (q.hdr = p.hdr) &&
      decide (q.data = p.data)) s.sw.sunk } }

/-- A sunk packet waits: it stands among the sunk ones again. -/
def State.sinkAgain (s : State) (port : Nat) (p : Pkt) : State :=
  { s with sw := { s.sw with sunk := s.sw.sunk ++ [{
    pid := 0, hdr := p.hdr, data := p.data, inq := port, vc := hVc p.hdr, sent := 0, ageLim := 0, escLim := 0
    checked := true, mc := none, only := none }] } }

/-- Picks of a packet that the device holds, and picks it has in all (R93). -/
def QPkt.have (q : QPkt) : Nat := 1 + q.data.length / 64
def QPkt.total (q : QPkt) : Nat := 1 + hLen q.hdr

/-- The payload of a CALL has buffers of its own: its window has ended while the work item goes on (R130). -/
def State.payloadApart (s : State) (id : Nat) : Bool :=
  (List.range 8).any (fun c => (s.pool c).rsvs.any (fun r => decide (r.holder = .payload id)))

/-- Work items whose payload stands in the buffers of a window. -/
def State.windowItems (s : State) (src dst flow : Nat) : List Item :=
  s.shed.items.filter (fun i => (match i.caller with
    | .remote d r f _ _ => decide (d = src) && decide (r = dst) && decide (f = flow)
    | _ => false) && !s.payloadApart i.id)

/-- The window a windowed request belongs to. -/
def State.winOf (s : State) (h : List Byte) : Option Win :=
  s.flows.wins.find? (fun w => decide (w.src = hSrc h) && decide (w.dst = hDst h) && decide (w.flow = hFlow h))

/-- Request picks a window holds: packets held for FENCE, and payloads of CALLs not yet ended (R185). -/
def State.winHeld (s : State) (w : Win) : Nat :=
  sumNat (w.states.map (fun e => match e.2 with | .held k => k.total | _ => 0)) +
    sumNat ((s.windowItems w.src w.dst w.flow).map (fun i => ceilDiv i.payload.length 64))

/-- Picks of a window's responses that have not left. -/
def State.winAnswers (s : State) (w : Win) : Nat :=
  sumNat ((s.sw.inq ++ s.sw.outq).map (fun e => sumNat (e.2.map (fun k =>
    if 128 ≤ k.inq ∧ hType k.hdr / 8 = 1 ∧ hDst k.hdr = w.src ∧ hSrc k.hdr = w.dst ∧ hFlow k.hdr = w.flow then
      k.total - k.sent else 0))))

/-- A request, or its response, would take its window beyond its reservation: it waits at the head (R185). -/
def State.overWindow (s : State) (h : List Byte) : Bool :=
  let t := hType h
  (decide (t / 8 = 0 ∧ t ≠ 5 ∧ t ≠ 6) || decide (t / 8 = 5)) &&
    match s.winOf h with
    | some w => decide (w.reqPicks < s.winHeld w + 1 + hLen h) ||
        decide (w.rspPicks < s.winAnswers w + 1 + (if t = 2 then ceilDiv (field h 24 4) 64 else 0))
    | none => false

/-- A packet joins the input queue of its port, channel by channel (R62, R185).  It did not come as frames, so its
picks count in no F. -/
def State.enqueue (s : State) (port : Nat) (p : Pkt) : State :=
  let v := hVc p.hdr
  let n := s.sw.nextPid
  let k : QPkt := { pid := n, hdr := p.hdr, data := p.data, inq := port, vc := v, sent := 0, ageLim := 0, escLim := 0
                    checked := false, mc := none, only := none, stale := true }
  let s := { s with sw := { s.sw with nextPid := n + 1 } }
  (List.range (p.data.length / 64)).foldl (fun s _ => s.pickIn port v) (s.setInq port v (s.inq port v ++ [k]))

/-- A packet that a command names and that does not stand among the sunk ones arrives on its port with the command
(DESIGN CHOICE, log entry 7), and meets the checks of an arrival in their order: R107 checks 1 to 4, R140, the
quarantine (R60), and the lookup (R112).  One that is not for the device, or that would take its window beyond its
reservation (R185), joins the input queue of its port. -/
def State.arrives (s : State) (port : Nat) (p : Pkt) : Bool × State :=
  let h := p.hdr
  let e := s.ingress port (hVc h) h
  if e = 1 ∨ e = 2 ∨ e = 3 then (false, s.bump aPktErr0 31 16 1)
  else if e = 4 then (false, s.bump aPktErr1 7 1 1)
  else if hMcast h then (false, s.bump (aFlowErr 2) 15 1 1)
  else if !s.fwdEn port then
    if s.quarPass (hVc h) h p.data then (true, s) else (false, s.bump (aQuar port) 31 16 1)
  else
    match s.lookup (hDst h) with
    | .noRoute => (false, (s.bump aPktErr0 15 0 1).evDev 0x82 1)
    | .dead => (false, s.bump aPktErr1 15 8 1)
    | .own => if s.overWindow h then (false, s.enqueue port p) else (true, s)
    | .forward => (false, s.enqueue port p)

/-- A packet reaches the unit that it is addressed to: it was sunk, it is the device's own, or it arrives now. -/
def State.reaches (s : State) (port : Nat) (p : Pkt) : Bool × State :=
  if s.wasSunk port p then (true, s.unsink port p)
  else if 128 ≤ port then (true, s)
  else s.arrives port p

/-- Sink a packet: none when check 6 of R107 discards it, which is counted, and noted for the operation
that its unverified FLOW and FSN name (R108). -/
def State.sink (s : State) (port typ : Nat) (p : Pkt) : Bool × State :=
  if p.hdr.length ≠ 64 ∨ hType p.hdr ≠ typ then (false, s)
  else
  let (here, s) := s.reaches port p
  if !here then (false, s)
  else if e2eOk p then (true, s)
  else
    let s := (s.bump aPktErr1 31 16 1).evDev 0x81 1
    (false, { s with sw := { s.sw with e2eSeen := (hFlow p.hdr, hFsn p.hdr) :: s.sw.e2eSeen } })

/-- A management packet that has no response and does not match what awaits it is discarded, and counted (R107
check 7, R157). -/
def State.mgtLost (s : State) : State :=
  { s with flows := { s.flows with drops := { s.flows.drops with mgt := s.flows.drops.mgt + 1 } } }

/-- The cluster of a port; packets from an injection queue q = 128 + c count to cluster c. -/
def qCluster (q : Nat) : Nat := if q < 128 then q / 16 else q - 128

end Sys2Proof.Machine
end

