-- ==== Sys2Proof/Machine/FP.lean ====
section
/-!
DEFINITION. Sys2Proof/Machine/FP.lean: number formats and exact arithmetic with one rounding (R199 to R205,
R308, R309).  A finite value is a sign, a whole number and a power of two; every result is formed
exactly (or with a sticky remainder) and rounded once.
-/

namespace Sys2Proof.Machine

/-- A binary floating-point format: widths, bias, and how it spells specials: 0 as IEEE 754, 1 as E4M3
(no infinity, S.1111.111 is NaN), 2 no specials at all (FP6, FP4). -/
structure Fmt where
  ebits : Nat
  mbits : Nat
  bias  : Nat
  kind  : Nat
  deriving DecidableEq, Repr

def fE4M3 : Fmt := ⟨4, 3, 7, 1⟩
def fE5M2 : Fmt := ⟨5, 2, 15, 0⟩
def fFP16 : Fmt := ⟨5, 10, 15, 0⟩
def fBF16 : Fmt := ⟨8, 7, 127, 0⟩
def fFP32 : Fmt := ⟨8, 23, 127, 0⟩
def fFP64 : Fmt := ⟨11, 52, 1023, 0⟩
def fE3M2 : Fmt := ⟨3, 2, 3, 2⟩
def fE2M3 : Fmt := ⟨2, 3, 1, 2⟩
def fE2M1 : Fmt := ⟨2, 1, 1, 2⟩

/-- Bits of an element of the format. -/
def Fmt.width (f : Fmt) : Nat := 1 + f.ebits + f.mbits

/-- A decoded value; a finite one is (−1)^neg × m × 2^e. -/
inductive Fp where
  | nan
  | inf (neg : Bool)
  | fin (neg : Bool) (m : Nat) (e : Int)
  deriving DecidableEq, Repr

/-- Decode the bits of an element. -/
def Fmt.dec (f : Fmt) (w : Nat) : Fp :=
  let neg := bit w (f.ebits + f.mbits)
  let x := bits w (f.ebits + f.mbits - 1) f.mbits
  let m := w % 2 ^ f.mbits
  let top := 2 ^ f.ebits - 1
  if f.kind = 0 ∧ x = top then (if m = 0 then .inf neg else .nan)
  else if f.kind = 1 ∧ x = top ∧ m = 2 ^ f.mbits - 1 then .nan
  else if x = 0 then .fin neg m (1 - (f.bias : Int) - (f.mbits : Int))
  else .fin neg (2 ^ f.mbits + m) ((x : Int) - (f.bias : Int) - (f.mbits : Int))

/-- The bits of the largest finite magnitude. -/
def Fmt.maxFin (f : Fmt) : Nat :=
  if f.kind = 0 then (2 ^ f.ebits - 1) * 2 ^ f.mbits - 1
  else if f.kind = 1 then 2 ^ (f.ebits + f.mbits) - 2
  else 2 ^ (f.ebits + f.mbits) - 1

/-- The canonical quiet NaN of the format (R204, R309). -/
def Fmt.qnan (f : Fmt) : Nat :=
  if f.kind = 0 then (2 ^ f.ebits - 1) * 2 ^ f.mbits + 2 ^ (f.mbits - 1)
  else if f.kind = 1 then 2 ^ (f.ebits + f.mbits) - 1
  else 0

/-- The bits of infinity; the largest finite value where the format has none. -/
def Fmt.infBits (f : Fmt) : Nat :=
  if f.kind = 0 then (2 ^ f.ebits - 1) * 2 ^ f.mbits else f.maxFin

/-- The sign bit, when set. -/
def Fmt.sgn (f : Fmt) (neg : Bool) : Nat := b2n neg * 2 ^ (f.ebits + f.mbits)

/-- Exception flags as FPFLAGS codes them (R302). -/
def flInvalid : Nat := 16
def flDivZero : Nat := 8
def flOverflow : Nat := 4
def flUnderflow : Nat := 2
def flInexact : Nat := 1

/-- Round a magnitude m × 2^e (plus a sticky remainder below its last unit) to a whole multiple q of a
unit 2^u: the multiple and whether it is inexact.  Modes: 0 nearest-even, 1 toward zero, 2 toward
+∞, 3 toward −∞ (R302). -/
def roundUnit (mode : Nat) (neg : Bool) (m : Nat) (e u : Int) (sticky : Bool) : Nat × Bool :=
  let sh := u - e
  if sh ≤ 0 then
    let q := m <<< (-sh).toNat
    (q + b2n (sticky && ((mode = 2 && !neg) || (mode = 3 && neg))), sticky)
  else
    let k := sh.toNat
    let q := m >>> k
    let r := m % 2 ^ k
    let half := 2 ^ (k - 1)
    let inex := sticky || decide (r ≠ 0)
    let up :=
      if mode = 0 then decide (half < r) || (decide (r = half) && (sticky || decide (q % 2 = 1)))
      else if mode = 2 then inex && !neg
      else if mode = 3 then inex && neg
      else false
    (q + b2n up, inex)

/-- What an overflow gives: 0 infinity or the largest finite value by IEEE 754, 1 the largest finite
value, 2 NaN, 3 infinity. -/
def Fmt.overflow (f : Fmt) (mode how : Nat) (neg : Bool) : Nat :=
  if how = 2 then f.qnan
  else if how = 1 then f.sgn neg + f.maxFin
  else if how = 3 then f.sgn neg + f.infBits
  else if mode = 1 ∨ (mode = 2 ∧ neg) ∨ (mode = 3 ∧ !neg) then f.sgn neg + f.maxFin
  else f.sgn neg + f.infBits

/-- Round a finite value to the format: its bits and the exception flags it raises.  Tininess is judged
on the exact value (DEDUCED, log entry 12). -/
def Fmt.round (f : Fmt) (mode how : Nat) (neg : Bool) (m : Nat) (e : Int) (sticky : Bool) :
    Nat × Nat :=
  if m = 0 ∧ !sticky then (f.sgn neg, 0)
  else
    let top : Int := e + (Nat.log2 m : Int)
    let emin : Int := 1 - (f.bias : Int)
    let tiny := decide (top < emin)
    let u : Int := (if tiny then emin else top) - (f.mbits : Int)
    let (q, inex) := roundUnit mode neg m e u sticky
    let base := (u + (f.mbits : Int) + (f.bias : Int)).toNat
    let enc := base * 2 ^ f.mbits + q - 2 ^ f.mbits
    if f.maxFin < enc then (f.overflow mode how neg, flOverflow + flInexact)
    else (f.sgn neg + enc, if inex then flInexact + (if tiny then flUnderflow else 0) else 0)

/-- Encode a decoded value, rounding it. -/
def Fmt.enc (f : Fmt) (mode how : Nat) : Fp → Nat × Nat
  | .nan => (f.qnan, 0)
  | .inf neg =>
    if f.kind = 0 then (f.sgn neg + f.infBits, 0)
    else (f.overflow 0 how neg, flOverflow + flInexact)
  | .fin neg m e => f.round mode how neg m e false

/-- The whole number m × 2^e as an integer multiple of 2^u, for u ≤ e. -/
def scaleTo (m : Nat) (e u : Int) : Nat := m <<< (e - u).toNat

/-- A signed whole number from sign and magnitude. -/
def signed (neg : Bool) (m : Nat) : Int := if neg then -(m : Int) else (m : Int)

/-- The exact sum of two values; an exact zero from unlike signs is −0 only when rounding toward −∞. -/
def Fp.add (mode : Nat) : Fp → Fp → Fp
  | .nan, _ => .nan
  | _, .nan => .nan
  | .inf a, .inf b => if a = b then .inf a else .nan
  | .inf a, .fin _ _ _ => .inf a
  | .fin _ _ _, .inf b => .inf b
  | .fin na ma ea, .fin nb mb eb =>
    let u := min ea eb
    let x := signed na (scaleTo ma ea u) + signed nb (scaleTo mb eb u)
    if x = 0 then .fin (if ma = 0 ∧ mb = 0 ∧ na = nb then na else decide (mode = 3)) 0 u
    else .fin (decide (x < 0)) x.natAbs u

/-- The value with the other sign. -/
def Fp.neg : Fp → Fp
  | .nan => .nan
  | .inf a => .inf (!a)
  | .fin n m e => .fin (!n) m e

/-- The value is a zero. -/
def Fp.isZero : Fp → Bool
  | .fin _ m _ => decide (m = 0)
  | _ => false

/-- The sign of a value. -/
def Fp.sign : Fp → Bool
  | .nan => false
  | .inf n => n
  | .fin n _ _ => n

/-- The exact product of two values. -/
def Fp.mul : Fp → Fp → Fp
  | .nan, _ => .nan
  | _, .nan => .nan
  | .inf a, .inf b => .inf (a != b)
  | .inf a, .fin n m _ => if m = 0 then .nan else .inf (a != n)
  | .fin n m _, .inf b => if m = 0 then .nan else .inf (n != b)
  | .fin na ma ea, .fin nb mb eb => .fin (na != nb) (ma * mb) (ea + eb)

/-- A result and the flags of IEEE 754 for an operation on decoded operands: INVALID when a NaN comes
out of operands that are none. -/
def Fmt.fin (f : Fmt) (mode how : Nat) (ins : List Fp) (r : Fp) : Nat × Nat :=
  match r with
  | .nan => (f.qnan, if ins.any (fun x => decide (x = .nan)) then 0 else flInvalid)
  | x => f.enc mode how x

/-- Sum, difference, product, fused product and sum, one rounding each. -/
def Fmt.fadd (f : Fmt) (mode a b : Nat) (how : Nat := 0) : Nat × Nat :=
  f.fin mode how [f.dec a, f.dec b] ((f.dec a).add mode (f.dec b))
def Fmt.fsub (f : Fmt) (mode a b : Nat) (how : Nat := 0) : Nat × Nat :=
  f.fin mode how [f.dec a, f.dec b] ((f.dec a).add mode (f.dec b).neg)
def Fmt.fmul (f : Fmt) (mode a b : Nat) (how : Nat := 0) : Nat × Nat :=
  f.fin mode how [f.dec a, f.dec b] ((f.dec a).mul (f.dec b))
def Fmt.fma (f : Fmt) (mode a b c : Nat) (how : Nat := 0) : Nat × Nat :=
  f.fin mode how [f.dec a, f.dec b, f.dec c] (((f.dec a).mul (f.dec b)).add mode (f.dec c))

/-- The quotient of two values: the exact quotient to far more bits than any format holds, and whether
a remainder is left. -/
def Fmt.fdiv (f : Fmt) (mode a b : Nat) (how : Nat := 0) : Nat × Nat :=
  match f.dec a, f.dec b with
  | .nan, _ => (f.qnan, 0)
  | _, .nan => (f.qnan, 0)
  | .inf _, .inf _ => (f.qnan, flInvalid)
  | .inf x, .fin y _ _ => (f.sgn (x != y) + f.infBits, 0)
  | .fin x _ _, .inf y => (f.sgn (x != y), 0)
  | .fin x ma ea, .fin y mb eb =>
    if mb = 0 then (if ma = 0 then (f.qnan, flInvalid) else ((f.enc mode how (.inf (x != y))).1, flDivZero))
    else
      let n := ma <<< 130
      f.round mode how (x != y) (n / mb) (ea - eb - 130) (decide (n % mb ≠ 0))

/-- Newton's steps toward the whole square root of n, from above. -/
def isqrtLoop : Nat → Nat → Nat → Nat
  | 0, _, x => x
  | fuel + 1, n, x =>
    let y := (x + n / x) / 2
    if y < x then isqrtLoop fuel n y else x

/-- The whole square root of n. -/
def isqrt (n : Nat) : Nat :=
  if n = 0 then 0 else isqrtLoop (Nat.log2 n + 2) n (2 ^ (Nat.log2 n / 2 + 1))

/-- The square root. -/
def Fmt.fsqrt (f : Fmt) (mode a : Nat) : Nat × Nat :=
  match f.dec a with
  | .nan => (f.qnan, 0)
  | .inf n => if n then (f.qnan, flInvalid) else (f.infBits, 0)
  | .fin n m e =>
    if m = 0 then (f.sgn n, 0)
    else if n then (f.qnan, flInvalid)
    else
      let odd := decide (e % 2 ≠ 0)
      let m := if odd then m * 2 else m
      let e := if odd then e - 1 else e
      let w := m <<< 140
      let r := isqrt w
      f.round mode 0 false r ((e - 140) / 2) (decide (r * r ≠ w))

/-- 1 / √a, correctly rounded: √(2^280 × 2^(−e) / m) with a sticky remainder. -/
def Fmt.frsqrt (f : Fmt) (mode a : Nat) : Nat × Nat :=
  match f.dec a with
  | .nan => (f.qnan, 0)
  | .inf n => if n then (f.qnan, flInvalid) else (0, 0)
  | .fin n m e =>
    if m = 0 then (f.sgn n + f.infBits, flDivZero)
    else if n then (f.qnan, flInvalid)
    else
      let odd := decide (e % 2 ≠ 0)
      let m := if odd then m * 2 else m
      let e := if odd then e - 1 else e
      let q := 2 ^ 280 / m
      let r := isqrt q
      f.round mode 0 false r (-(e / 2) - 140) (decide (r * r ≠ q) || decide (2 ^ 280 % m ≠ 0))

/-- Compare two values that are no NaNs: −0 and +0 are equal. -/
def Fp.lt : Fp → Fp → Bool
  | .nan, _ => false
  | _, .nan => false
  | .inf a, .inf b => a && !b
  | .inf a, .fin _ _ _ => a
  | .fin _ _ _, .inf b => !b
  | .fin na ma ea, .fin nb mb eb =>
    let u := min ea eb
    decide (signed na (scaleTo ma ea u) < signed nb (scaleTo mb eb u))
def Fp.eq (a b : Fp) : Bool :=
  decide (a ≠ .nan) && decide (b ≠ .nan) && !a.lt b && !b.lt a

/-- Below in the order that puts −0 below +0 (R207, R331). -/
def Fp.ltz (a b : Fp) : Bool :=
  a.lt b || (a.isZero && b.isZero && a.sign && !b.sign)

/-- The smaller or the larger of two encodings; a NaN gives the canonical NaN (R207). -/
def Fmt.fminmax (f : Fmt) (max : Bool) (a b : Nat) : Nat :=
  let x := f.dec a
  let y := f.dec b
  if x = .nan ∨ y = .nan then f.qnan
  else if max then (if x.ltz y then b else a)
  else (if y.ltz x then b else a)

/-- A value as a whole number, rounded by a mode: none for NaN and infinities. -/
def Fp.toInt (mode : Nat) : Fp → Option (Int × Bool)
  | .fin n m e =>
    let (q, inex) := roundUnit mode n m e 0 false
    some (signed n q, inex)
  | _ => none

/-- A whole number as a value. -/
def Fp.ofInt (i : Int) : Fp := .fin (decide (i < 0)) i.natAbs 0

/-- Bounds of an integer format of n bits. -/
def intMin (n : Nat) (sgn : Bool) : Int := if sgn then -((2 ^ (n - 1) : Nat) : Int) else 0
def intMax (n : Nat) (sgn : Bool) : Int :=
  if sgn then ((2 ^ (n - 1) : Nat) : Int) - 1 else ((2 ^ n : Nat) : Int) - 1

end Sys2Proof.Machine
end

