-- ==== Sys2Proof/Machine/Special.lean ====
section
/-!
DEFINITION. Sys2Proof/Machine/Special.lean: the special functions EXP, EXP2, LN, LOG2, TANH and SIGMOID of R340,
which the spec bounds to 2 ulp of the true value.  The true value is formed in fixed point, far below the last
unit of FP32; which of the values in reach the device gives is free (DESIGN CHOICE, log entry 13).
-/

namespace Sys2Proof.Machine

/-- Bits below the point in the fixed-point numbers of this file. -/
def fxBits : Nat := 400
def fxOne : Int := 2 ^ 400
def fxMul (a b : Int) : Int := a * b / fxOne
def fxDiv (a b : Int) : Int := a * fxOne / b

/-- z + z³/3 + z⁵/5 + …, n terms from the i-th on, `p` the i-th power. -/
def fxAtanh (z2 : Int) : Nat → Nat → Int → Int
  | 0, _, _ => 0
  | n + 1, i, p => p / (2 * i + 1 : Nat) + fxAtanh z2 n (i + 1) (fxMul p z2)

/-- ln y for 1 ≤ y < 2, by 2 artanh((y − 1) / (y + 1)). -/
def fxLn1 (y : Int) : Int :=
  let z := fxDiv (y - fxOne) (y + fxOne)
  2 * fxAtanh (fxMul z z) 130 0 z

def fxLn2 : Int :=
  let z := fxDiv fxOne (3 * fxOne)
  2 * fxAtanh (fxMul z z) 130 0 z

/-- e^r by its series, for |r| < 1: n terms, the i-th first. -/
def fxSeries (r : Int) : Nat → Nat → Int → Int
  | 0, _, _ => 0
  | n + 1, i, t => t + fxSeries r n (i + 1) (fxMul t r / (i + 1 : Nat))

/-- 2^k times a fixed-point number. -/
def fxShift (v k : Int) : Int := if 0 ≤ k then v * 2 ^ k.toNat else v / 2 ^ (-k).toNat

/-- e^x, for |x| at most 256. -/
def fxExp (x : Int) : Int :=
  let k := x / fxLn2
  fxShift (fxSeries (x - k * fxLn2) 100 0 fxOne) k

/-- A value in fixed point, held within a bound. -/
def fxOf (neg : Bool) (m : Nat) (e : Int) (bound : Nat) : Int :=
  let v : Int := min (fxShift (m : Int) (e + fxBits)) (bound * fxOne)
  if neg then -v else v

/-- ln of m × 2^e, for m > 0. -/
def fxLn (m : Nat) (e : Int) : Int :=
  let t := Nat.log2 m
  fxLn1 (fxShift (m : Int) ((fxBits : Int) - t)) + (e + t) * fxLn2

/-- The true value of a special function at a finite value (for LN and LOG2: above zero), in fixed point: VFN 0 EXP,
1 EXP2, 2 LN, 3 LOG2, 6 TANH, else SIGMOID. -/
def sfTrue (vfn : Nat) (neg : Bool) (m : Nat) (e : Int) : Int :=
  match vfn with
  | 0 => fxExp (fxOf neg m e 256)
  | 1 =>
    let x := fxOf neg m e 256
    let k := x / fxOne
    fxShift (fxExp (fxMul (x - k * fxOne) fxLn2)) k
  | 2 => fxLn m e
  | 3 => fxDiv (fxLn m e) fxLn2
  | 6 =>
    let y := fxExp (2 * fxOf false m e 64)
    let v := fxDiv (y - fxOne) (y + fxOne)
    if neg then -v else v
  | _ => fxDiv fxOne (fxOne + fxExp (-(fxOf neg m e 256)))

/-- The true value is an FP32 value itself. -/
def sfExact (vfn : Nat) (m : Nat) (e : Int) : Bool :=
  let whole := decide (m = 0) || decide (0 ≤ e) || decide (m % 2 ^ (-e).toNat = 0)
  let pow2 := decide (m = 2 ^ Nat.log2 m)
  match vfn with
  | 1 => whole
  | 2 => pow2 && decide (e = -(Nat.log2 m : Int))
  | 3 => pow2
  | _ => decide (m = 0)

/-- FP32 values in order, by whole numbers: neighbours differ by one; `neg` is the sign of a zero. -/
def ordBits (o : Int) (neg : Bool) : Nat :=
  let top := fFP32.infBits
  if o = 0 then fFP32.sgn neg else fFP32.sgn (decide (o < 0)) + min o.natAbs top

/-- A special function at a finite value: one of the values within 2 ulp of the true one, and the flags that IEEE 754
gives that result. -/
def sfFin (vfn v : Nat) (neg : Bool) (m : Nat) (e : Int) : Nat × Nat :=
  let y := sfTrue vfn neg m e
  -- a power of two below the last unit of FP32 is no FP32 value
  let exact := sfExact vfn m e && (vfn ≠ 1 || decide (2 ^ 251 ≤ y.natAbs))
  let big := decide (2 ^ 128 * fxOne ≤ (y.natAbs : Int))
  if big then (fFP32.sgn (decide (y < 0)) + fFP32.infBits, flOverflow + flInexact)
  else
    -- the FP32 value at or next below the true one in magnitude; a value that is exact is rounded to itself
    let lo : Int := (fFP32.round (if exact then 0 else 1) 0 false y.natAbs (-(fxBits : Int)) (!exact)).1
    let n := Config.special vfn v
    let step : Int := if exact then (n % 5 : Nat) - 2 else (n % 4 : Nat) - 1
    let o : Int := (if y < 0 then -1 else 1) * (lo + step)
    -- EXP, EXP2 and SIGMOID are above zero, so that a result of zero is +0; TANH has the sign of its input
    let w := ordBits o (decide (y < 0) || (decide (vfn = 6) && neg))
    let inexact := !(exact && decide (step = 0))
    let past := decide (fFP32.maxFin < o.natAbs)
    let tiny := decide ((y.natAbs : Int) < 2 ^ 274)
    (w, (if inexact then flInexact else 0) + (if past then flOverflow else 0) +
      (if inexact && tiny then flUnderflow else 0))

/-- The fp32 value of a special function of VSFN with its flags (R340). -/
def specialFn (mode vfn v : Nat) : Nat × Nat :=
  let f := fFP32
  let one : Nat := 0x3F800000
  match f.dec v with
  | .nan => (f.qnan, 0)
  | .inf n =>
    if vfn = 4 then f.fdiv mode one v
    else if vfn = 5 then f.frsqrt mode v
    else if vfn = 2 ∨ vfn = 3 then (if n then (f.qnan, flInvalid) else (f.infBits, 0))
    else if vfn = 6 then (f.sgn n + one, 0)
    else if n then (0, 0)
    else if vfn = 7 then (one, 0)
    else (f.infBits, 0)
  | .fin n m e =>
    if vfn = 4 then f.fdiv mode one v
    else if vfn = 5 then f.frsqrt mode v
    else if (vfn = 2 ∨ vfn = 3) ∧ m = 0 then (f.sgn true + f.infBits, flDivZero)
    else if (vfn = 2 ∨ vfn = 3) ∧ n then (f.qnan, flInvalid)
    else sfFin vfn v n m e

/-- The exponential of the reeds and of VSFN EXP, which give the same bits (R208, R340). -/
def reedExp (x : Nat) : Nat := (specialFn 0 0 x).1

end Sys2Proof.Machine
end

