-- ==== Sys2Proof/Machine/Reed.lean ====
section
/-!
DEFINITION. Sys2Proof/Machine/Reed.lean: collective groups and the reeds that fold their contributions
(chapter 08): formats, admission, the steps of a chunk, release, gates and failure.
-/

namespace Sys2Proof.Machine

/-! ### Element formats (R199, R200) -/

/-- The integer format: its width and whether it is signed. -/
def intFmt (f : Nat) : Option (Nat × Bool) :=
  if f < 4 then some (8 * 2 ^ f, true) else if f < 8 then some (8 * 2 ^ (f - 4), false) else none

/-- The plain floating-point format of a code. -/
def fpFmt (f : Nat) : Option Fmt :=
  if f = 0x10 then some fE4M3 else if f = 0x11 then some fE5M2 else if f = 0x12 then some fFP16
  else if f = 0x13 then some fBF16 else if f = 0x14 then some fFP32 else none

/-- The element format of an MX code, and the EMAX of R205. -/
def mxFmt (f : Nat) : Option (Fmt × Nat) :=
  if f = 0x20 then some (fE4M3, 8) else if f = 0x21 then some (fE5M2, 15)
  else if f = 0x22 then some (fE3M2, 4) else if f = 0x23 then some (fE2M3, 2)
  else if f = 0x24 then some (fE2M1, 2) else none

def isMaxloc (f : Nat) : Bool := decide (0x30 ≤ f) && decide (f ≤ 0x32)
def isSmerge (f : Nat) : Bool := decide (f = 0x50) || decide (f = 0x51)

/-- Bits per element; 0 for codes with none. -/
def elemBits (f : Nat) : Nat :=
  match intFmt f, fpFmt f, mxFmt f with
  | some (n, _), _, _ => n
  | _, some x, _ => x.width
  | _, _, some (x, _) => x.width
  | _, _, _ => if isMaxloc f then 64 else if f = 0x40 then 320 else 0

/-- A format code that R199 gives a format. -/
def fmtKnown (f : Nat) : Bool := decide (elemBits f ≠ 0) || isSmerge f

/-- Bytes of one SMERGE record of D elements of o (R200). -/
def recBytes (f d : Nat) : Nat := 8 + 4 * ceilDiv (d * (if f = 0x50 then 2 else 4)) 4

/-- Elements and bytes of the smallest piece a payload is cut into: an element, an MX block, a record. -/
def unitOf (f d : Nat) : Nat × Nat :=
  if isSmerge f then (1, recBytes f d)
  else
    match mxFmt f with
    | some (x, _) => (32, 1 + 4 * x.width)
    | none => (1, elemBits f / 8)

/-- The raw elements of a plain payload, in order. -/
def rawElems (w n : Nat) (data : List Byte) : List Nat :=
  (List.range n).map (fun i => field data (w * i) w)

/-- The values of one MX block (R202): a scale byte, then 32 packed elements. -/
def mxVals (x : Fmt) (blk : List Byte) : List Fp :=
  let sc := byteAt blk 0
  let body := leNat (blk.drop 1)
  (List.range 32).map (fun i =>
    if sc = 255 then .nan
    else
      match x.dec (bits body (x.width * (i + 1) - 1) (x.width * i)) with
      | .fin n m e => .fin n m (e + (sc : Int) - 127)
      | v => v)

/-- The exact values of the n elements of a payload. -/
def elemVals (f n : Nat) (data : List Byte) : List Fp :=
  match intFmt f, fpFmt f, mxFmt f with
  | some (w, sg), _, _ =>
    (rawElems (w / 8) n data).map (fun v => .ofInt (if sg then toSigned w v else (v : Int)))
  | _, some x, _ => (rawElems (x.width / 8) n data).map x.dec
  | _, _, some (x, _) =>
    (List.range (n / 32)).flatMap (fun b => mxVals x (slice data (b * (1 + 4 * x.width)) (1 + 4 * x.width)))
  | _, _, _ => []

/-! ### The exact accumulator (R201 to R204) -/

/-- Add one value to a 320-bit accumulator (R202, R203): VAL modulo 2^316, flags ORed. -/
def accAdd (a : Nat) (v : Fp) : Nat :=
  let fl := a / 2 ^ 316
  let val := a % 2 ^ 316
  match v with
  | .nan => (fl ||| 8) * 2 ^ 316 + val
  | .inf false => (fl ||| 4) * 2 ^ 316 + val
  | .inf true => (fl ||| 2) * 2 ^ 316 + val
  | .fin n m e => fl * 2 ^ 316 + ofSigned 316 ((val : Int) + signed n (scaleTo m e (-156)))

/-- Combine two accumulators. -/
def accMerge (a b : Nat) : Nat :=
  ((a / 2 ^ 317) ||| (b / 2 ^ 317)) * 2 ^ 317 + (a % 2 ^ 316 + b % 2 ^ 316) % 2 ^ 316

/-- The value an accumulator stands for, before SCALE (R204, steps 1 to 3). -/
def accVal (a : Nat) : Fp :=
  let nan := bit a 319
  let p := bit a 318
  let n := bit a 317
  if nan || (p && n) then .nan
  else if p then .inf false
  else if n then .inf true
  else
    let v := toSigned 316 a
    .fin (decide (v < 0)) v.natAbs (-156)

/-- An exact zero gives +0 (R204). -/
def plusZero : Fp → Fp
  | .fin n m e => .fin (n && decide (m ≠ 0)) m e
  | v => v

/-- Round a value to a plain output format: its bits and 1 if it was clamped (R204). -/
def outElem (f : Nat) (v : Fp) : Nat × Nat :=
  match intFmt f with
  | some (w, sg) =>
    match v with
    | .nan => (0, 1)
    | .inf true => (ofSigned w (intMin w sg), 1)
    | .inf false => (ofSigned w (intMax w sg), 1)
    | .fin n m e =>
      let (q, _) := roundUnit 0 n m e 0 false
      let i := signed n q
      if i < intMin w sg then (ofSigned w (intMin w sg), 1)
      else if intMax w sg < i then (ofSigned w (intMax w sg), 1)
      else (ofSigned w i, 0)
  | none =>
    match fpFmt f with
    | some x =>
      let (b, fl) := x.enc 0 (if x.kind = 0 then 0 else 1) (plusZero v)
      (b, if x.kind ≠ 0 ∧ flOverflow ≤ fl % 8 then 1 else 0)
    | none => (0, 0)

/-- ⌊log2 |v|⌋ of a finite nonzero value; a large number for an infinity. -/
def ilog2 : Fp → Int
  | .fin _ m e => e + (Nat.log2 m : Int)
  | _ => 1000

/-- The scale byte of an MX block whose values are finite and not all zero (R205). -/
def blkScale (emax : Nat) (vs : List Fp) : Nat :=
  let top := (vs.filter (fun v => !v.isZero)).foldl (fun a v => max a (ilog2 v)) (-100000)
  (max 0 (min 254 (top - (emax : Int) + 127))).toNat

/-- The elements of an MX block under a scale byte: bits and flags. -/
def blkElems (x : Fmt) (sc : Nat) (vs : List Fp) : List (Nat × Nat) :=
  vs.map (fun v =>
    match plusZero v with
    | .fin g m e => x.round 0 1 g m (e - ((sc : Int) - 127)) false
    | .inf g => (x.sgn g + x.maxFin, flOverflow)
    | .nan => (0, 0))

/-- The scale byte and the elements, bits and flags, of an output block of 32 values (R205). -/
def outParts (x : Fmt) (emax : Nat) (vs : List Fp) : Nat × List (Nat × Nat) :=
  if vs.any (fun v => decide (v = .nan)) then (255, vs.map (fun _ => (0, 0)))
  else if vs.all Fp.isZero then (0, vs.map (fun _ => (0, 0)))
  else (blkScale emax vs, blkElems x (blkScale emax vs) vs)

/-- One MX output block of 32 values (R205): its bytes and the elements clamped. -/
def outBlock (x : Fmt) (emax : Nat) (vs : List Fp) : List Byte × Nat :=
  let (sc, es) := outParts x emax vs
  (leBytes 1 sc ++ leBytes (4 * x.width) (es.foldr (fun b acc => acc * 2 ^ x.width + b.1) 0),
    (es.filter (fun r => decide (flOverflow ≤ r.2 % 8))).length)

/-- Cut a list of values into blocks of 32. -/
def blocksOf : Nat → List Fp → List (List Fp)
  | 0, _ => []
  | n + 1, l => l.take 32 :: blocksOf n (l.drop 32)

/-- The payload of a list of result values in a format, and the elements clamped. -/
def outVals (f : Nat) (vs : List Fp) : List Byte × Nat :=
  match mxFmt f with
  | some (x, emax) =>
    let bs := (blocksOf (vs.length / 32) vs).map (outBlock x emax)
    (bs.flatMap (·.1), sumNat (bs.map (·.2)))
  | none =>
    let es := vs.map (outElem f)
    (es.flatMap (fun r => leBytes (elemBits f / 8) r.1), sumNat (es.map (·.2)))

/-- FP32 addition and multiplication to nearest even, on bits. -/
def f32add (a b : Nat) : Nat := (fFP32.fadd 0 a b).1
def f32mul (a b : Nat) : Nat := (fFP32.fmul 0 a b).1
/-- A value converted to FP32 to nearest even (R206). -/
def toF32 (v : Fp) : Nat := (fFP32.enc 0 0 v).1

/-! ### SMERGE (R208) -/

/-- A partial record: m, l, o, as FP32 bits. -/
structure SRec where
  m : Nat
  l : Nat
  o : List Nat
  deriving DecidableEq, Repr

/-- Read a record of D elements. -/
def recOf (f d : Nat) (b : List Byte) : SRec :=
  ⟨field b 0 4, field b 4 4, (List.range d).map (fun i =>
    if f = 0x50 then field b (8 + 2 * i) 2 * 65536 else field b (8 + 4 * i) 4)⟩

/-- Merge one record into the running one (R208). -/
def recMerge (a r : SRec) : SRec :=
  if (fFP32.dec r.l).isZero then a
  else
    let mn := fFP32.fminmax true a.m r.m
    let x := reedExp (fFP32.fsub 0 a.m mn).1
    let y := reedExp (fFP32.fsub 0 r.m mn).1
    ⟨mn, f32add (f32mul x a.l) (f32mul y r.l),
      List.zipWith (fun p q => f32add (f32mul x p) (f32mul y q)) a.o r.o⟩

/-- Write a record in an output format; o normalised at the root when NORMALIZE is set. -/
def recOut (f : Nat) (norm : Bool) (r : SRec) : List Byte :=
  let o := if norm && !(fFP32.dec r.l).isZero then r.o.map (fun x => (fFP32.fdiv 0 x r.l).1) else r.o
  let w := o.flatMap (fun x =>
    if f = 0x50 then leBytes 2 ((fBF16.enc 0 0 (fFP32.dec x)).1) else leBytes 4 x)
  leBytes 4 r.m ++ leBytes 4 r.l ++ padTo (4 * ceilDiv w.length 4) w

/-! ### The group context (R213) -/

/-- A field of a group context. -/
def State.gf (s : State) (g w hi lo : Nat) : Nat := s.rf (aGroup g w) hi lo
def State.gState (s : State) (g : Nat) : Nat := s.gf g 0 31 29
def State.gKind (s : State) (g : Nat) : Nat := s.gf g 0 28 26
def State.gMode (s : State) (g : Nat) : Nat := s.gf g 0 25 24
def State.gOp (s : State) (g : Nat) : Nat := s.gf g 0 23 20
def State.gLevel (s : State) (g : Nat) : Nat := s.gf g 0 19 18
def State.gIn (s : State) (g : Nat) : Nat := s.gf g 1 31 24
def State.gOut (s : State) (g : Nat) : Nat := s.gf g 1 23 16
def State.gMembers (s : State) (g : Nat) : Nat := s.gf g 2 29 16
def State.gMBase (s : State) (g : Nat) : Nat := s.gf g 2 15 0
def State.gPBase (s : State) (g : Nat) : Nat := s.gf g 6 30 16
def State.gPLen (s : State) (g : Nat) : Nat := s.gf g 6 13 0
def State.gTimeout (s : State) (g : Nat) : Nat := s.gf g 5 31 16
def State.gD (s : State) (g : Nat) : Nat := s.gf g 10 25 16
/-- The clusters that reduce for the group, ascending. -/
def State.gClusters (s : State) (g : Nat) : List Nat := bitList 8 (s.gf g 0 15 8)
/-- BARRIER and GATE carry no data. -/
def State.gEmpty (s : State) (g : Nat) : Bool := decide (s.gKind g = 4) || decide (s.gKind g = 5)
/-- CHUNK_SZ in bytes. -/
def State.gChunk (s : State) (g : Nat) : Nat := 4096 * 2 ^ s.gf g 1 15 13
/-- E: elements or records per chunk (R209). -/
def State.gE (s : State) (g : Nat) : Nat :=
  if s.gEmpty g then 0
  else if isSmerge (s.gIn g) then s.gChunk g / recBytes (s.gIn g) (s.gD g)
  else
    let n := s.gChunk g * 8 / max 1 (elemBits (s.gIn g))
    -- elements of 6 bits do not divide a chunk: it holds the whole blocks of 32 that fit (DESIGN CHOICE, log entry 135)
    if (mxFmt (s.gIn g)).isSome then n / 32 * 32 else n
/-- INST_ELEMS. -/
def State.gInst (s : State) (g : Nat) : Nat := s.gf g 3 31 0
/-- C: chunks per instance (R209). -/
def State.gC (s : State) (g : Nat) : Nat :=
  if s.gEmpty g then 1 else ceilDiv (s.gInst g) (max 1 (s.gE g))
/-- Elements of chunk k. -/
def State.gElems (s : State) (g k : Nat) : Nat := min (s.gE g) (s.gInst g - k * s.gE g)
/-- WIN granted, and W = n × WIN (R209). -/
def State.gWin (s : State) (g : Nat) : Nat := s.gf g 11 20 16
def State.gW (s : State) (g : Nat) : Nat := (s.gClusters g).length * s.gWin g
/-- The cluster that reduces a global chunk (R197). -/
def State.gPlace (s : State) (g chunk : Nat) : Nat :=
  (s.gClusters g).getD (chunk % max 1 (s.gClusters g).length) 0
/-- Member i's entry (R214). -/
def State.mEid (s : State) (g i : Nat) : Nat := s.rf (aMemberE (s.gMBase g + i)) 15 0
def State.mValid (s : State) (g i : Nat) : Bool := s.rf (aMemberE (s.gMBase g + i)) 31 31 = 1
def State.mChild (s : State) (g i : Nat) : Bool := s.rf (aMemberE (s.gMBase g + i)) 30 30 = 1
def State.mRecv (s : State) (g i : Nat) : Nat := s.rf (aMemberE (s.gMBase g + i)) 29 23 + 1
/-- The VALID plan entries of the group, in order: UNI, WAVE, TARGET (R215). -/
def State.planOf (s : State) (g : Nat) : List (Bool × Nat × Nat) :=
  (List.range (s.gPLen g)).filterMap (fun i =>
    let a := aPlan (s.gPBase g + i)
    if s.rf a 31 31 = 1 then some (decide (s.rf a 30 30 = 1), s.rf a 29 24, s.rf a 12 0) else none)

/-- Bytes of reed state one slot takes (R211): those of its elements, which are counted in bits, and 2 for each
member. -/
def State.slotBytes (s : State) (g : Nat) : Nat :=
  let per :=
    if s.gOp g = 0 ∧ s.gMode g = 0 then 8 * 40
    else if s.gOp g = 0 ∧ s.gMode g = 1 then 8 * 4
    else if s.gOp g = 0 then 8 * 4 + s.gMembers g * elemBits (s.gIn g)
    else if s.gOp g = 7 then 8 * ((s.gMembers g + 1) * recBytes (s.gIn g) (s.gD g))
    else if s.gOp g = 15 then 0
    else 8 * 8
  ceilDiv (per * s.gE g) 8 + 2 * s.gMembers g
def State.slotGranules (s : State) (g : Nat) : Nat := ceilDiv (s.slotBytes g) 4096

/-- Bytes of one chunk's result (R212). -/
def State.resultBytes (s : State) (g : Nat) : Nat :=
  let (n, b) := unitOf (s.gOut g) (s.gD g)
  s.gE g / n * b

/-- Granules held and free in cluster c (R233). -/
def State.granHeld (s : State) (c : Nat) : Nat := s.rf (aGranules c) 27 16
def State.granFree (s : State) (c : Nat) : Nat :=
  2048 - s.granHeld c - (if s.pwr.tests.any (fun t => t.1 = 6 && t.2.1 = c) then 2048 - s.granHeld c else 0)

/-! ### Admission (R217) -/

/-- The format is one that the operator and mode accept as input (R206, R207): FAST refuses the integer formats,
for every operator. -/
def opOk (kind mode op inF outF : Nat) : Bool :=
  let num := (intFmt inF).isSome || (fpFmt inF).isSome || (mxFmt inF).isSome
  let isInt := (intFmt inF).isSome
  let outNum := (intFmt outF).isSome || (fpFmt outF).isSome || (mxFmt outF).isSome
  if mode = 1 ∧ isInt then false
  else if op = 0 then num && outNum && decide (kind < 2)
  else if op = 1 ∨ op = 2 then
    (isInt || (fpFmt inF).isSome) && decide (mode < 2) && decide (outF = inF) && decide (kind < 2)
  else if op = 3 then isMaxloc inF && decide (mode = 0) && decide (outF = inF) && decide (kind < 2)
  else if op = 4 ∨ op = 5 ∨ op = 6 then
    isInt && decide (mode = 0) && decide (outF = inF) && decide (kind < 2)
  else if op = 7 then isSmerge inF && isSmerge outF && decide (mode = 2) && decide (kind < 2)
  else if op = 15 then fmtKnown inF && decide (mode = 0) && decide (outF = inF) && decide (2 ≤ kind)
  else false

/-- The plan reaches every member exactly once (R217): the members each VALID entry reaches. -/
def State.planReach (s : State) (g : Nat) : List Nat :=
  (s.planOf g).flatMap (fun (e : Bool × Nat × Nat) =>
    if e.1 then [e.2.2]
    else (s.mcastMembers (e.2.2 % 1024)).map (fun eid =>
      ((List.range (s.gMembers g)).find? (fun i => decide (s.mEid g i = eid))).getD 8192))

/-- The coverage rows of R217 hold. -/
def State.planOk (s : State) (g : Nat) : Bool :=
  let reach := s.planReach g
  let uni := (s.planOf g).filterMap (fun (e : Bool × Nat × Nat) => if e.1 then some e.2.2 else none)
  (s.planOf g).all (fun (e : Bool × Nat × Nat) =>
    decide (e.2.1 ≤ s.gf g 7 31 26) && (e.1 || s.rf (aMcast (e.2.2 % 1024) 8) 31 31 = 1)) &&
  decide (reach.length = s.gMembers g) &&
  (List.range (s.gMembers g)).all (fun i => decide ((reach.filter (fun x => x = i)).length = 1) &&
    ((!s.mChild g i && s.rt4 (s.mEid g i) 4 26 26 = 1) || uni.contains i))

/-- The groups that may stand in a tree (R217, R222). -/
def State.treeOk (s : State) (g : Nat) : Bool :=
  (decide (s.gKind g = 0) && ((decide (s.gOp g = 0 ∨ s.gOp g = 1 ∨ s.gOp g = 2) && decide (s.gMode g < 2)) ||
    decide (s.gOp g = 7))) || decide (s.gKind g = 4)

/-- The fields are in range and combine as R206, R207 and R217 ask; what depends on the member entries is judged
after the row on the ranges. -/
def State.groupFieldsOk (s : State) (g : Nat) : Bool :=
  let mx := (mxFmt (s.gIn g)).isSome || (mxFmt (s.gOut g)).isSome
  decide (s.gKind g ≤ 5) && decide (s.gMode g ≤ 2) && decide (s.gf g 0 15 8 ≠ 0) &&
  decide (s.gf g 1 15 13 ≤ 4) && decide (1 ≤ s.gf g 1 12 8) && decide (s.gf g 1 12 8 ≤ 16) &&
  decide (1 ≤ s.gf g 1 4 0) && decide (s.gf g 1 4 0 ≤ s.gf g 1 12 8) &&
  decide (1 ≤ s.gMembers g) && decide (s.gMembers g ≤ 8192) &&
  decide (1 ≤ s.gPLen g) && decide (s.gPLen g ≤ 8192) && decide (s.gf g 7 10 0 ≤ 2000) &&
  opOk (s.gKind g) (s.gMode g) (s.gOp g) (s.gIn g) (s.gOut g) &&
  (match fFP32.dec (s.gf g 4 31 0) with | .fin _ _ _ => true | _ => false) &&
  (decide (s.gf g 4 31 0 = 0x3F800000) ||
    ((decide (s.gOp g = 0) && (intFmt (s.gOut g)).isNone) || decide (s.gOp g = 7))) &&
  (decide (s.gTimeout g = 0) && s.gEmpty g ||
    decide (100 ≤ s.gTimeout g) && decide (s.gTimeout g ≤ 50000)) &&
  (!isSmerge (s.gIn g) || (decide (1 ≤ s.gD g) && decide (s.gD g ≤ 1016))) &&
  (s.gKind g ≠ 5 || (decide (1 ≤ s.gf g 8 31 24) && decide (1 ≤ s.gf g 8 15 0))) &&
  decide (s.gf g 5 12 0 < s.gMembers g) &&
  (!s.gEmpty g || decide (s.gInst g = 0)) &&
  (s.gEmpty g || (decide (s.gE g ≠ 0) && decide (s.gInst g ≠ 0))) &&
  (!mx || decide (s.gInst g % 32 = 0)) &&
  ((s.gKind g ≠ 1 && s.gKind g ≠ 2) || decide (s.gC g % s.gMembers g = 0)) &&
  decide (s.resultBytes g ≤ 65536) &&
  (decide (s.gLevel g = 0) || s.treeOk g)

/-- Two ranges of table entries meet. -/
def overlap (a n b m : Nat) : Bool := decide (a < b + m) && decide (b < a + n)

/-- Groups whose context is not FREE, from the words listed in register space. -/
def State.liveGroups (s : State) : List Nat :=
  s.regs.filterMap (fun e =>
    if 0x02200000 ≤ e.1 ∧ e.1 < 0x02220000 ∧ e.1 % 0x40 = 0 ∧ 2 ^ 29 ≤ e.2.toNat then
      some ((e.1 - 0x02200000) / 0x40) else none)

/-- Whether WIN slots fit (R217): the window rules, reed state, and the buffers of R212. -/
def State.winFits (s : State) (g win : Nat) : Bool :=
  let n := (s.gClusters g).length
  decide (n * win ≤ 128) &&
  (List.range (s.gMembers g)).all (fun i => decide (n * win ≤ s.mRecv g i)) &&
  (s.gClusters g).all (fun c => decide (win * s.slotGranules g ≤ s.granFree c) &&
    (s.gEmpty g || decide (win ≤ s.poolAvail c (classFor (s.resultBytes g)))))

/-- The largest WIN from `lo` to hi that fits. -/
def State.bestWin (s : State) (g lo : Nat) : Nat → Option Nat
  | 0 => none
  | hi + 1 => if hi + 1 < lo then none else if s.winFits g (hi + 1) then some (hi + 1)
    else State.bestWin s g lo hi

/-- ADMIT judged by the rows of R217: a status and the WIN granted.  `exact` asks WIN_MIN = WIN_REQ, as
an image's groups do. -/
def State.admission (s : State) (g : Nat) (exact : Bool) : Nat × Nat :=
  if s.fallback || decide (s.gState g ≠ 0) ||
      (s.gClusters g).any (fun c => s.isOff (dReed c) && decide ((s.dom (dReed c)).off ≠ .idle)) then
    (stState, 0)
  else if !s.groupFieldsOk g then (stUnsup, 0)
  else if 65536 < s.gMBase g + s.gMembers g ∨ 32768 < s.gPBase g + s.gPLen g then (stFit, 0)
  else if (List.range (s.gMembers g)).any (fun i =>
      (s.mChild g i && !s.treeOk g) || !s.mValid g i || s.rtGone (s.mEid g i)) then (stUnsup, 0)
  else if !s.planOk g then (stUnsup, 0)
  else if s.liveGroups.any (fun h => decide (h ≠ g) &&
      (overlap (s.gMBase g) (s.gMembers g) (s.gMBase h) (s.gMembers h) ||
        overlap (s.gPBase g) (s.gPLen g) (s.gPBase h) (s.gPLen h))) then (stFit, 0)
  else
    match s.bestWin g (if exact then s.gf g 1 12 8 else s.gf g 1 4 0) (s.gf g 1 12 8) with
    | none => (stFit, 0)
    | some w => (stOk, w)

/-- Reserve reed state and buffers for WIN slots (R211, R212). -/
def State.groupReserve (s : State) (g win : Nat) : State :=
  (s.gClusters g).foldl (fun s c =>
    let s := s.setRf (aGranules c) 27 16 (s.granHeld c + win * s.slotGranules g)
    if s.gEmpty g then s
    else (s.poolReserve c (.group g) (classFor (s.resultBytes g)) win).getD s) s

/-- Arm a group at an EPOCH with WIN slots. -/
def State.groupArm (s : State) (g win epoch : Nat) : State :=
  let s := (((s.setRf (aGroup g 0) 31 29 1).setRf (aGroup g 11) 31 24 epoch).setRf
    (aGroup g 11) 20 16 win).setRf (aGroup g 11) 11 0 (win * s.slotGranules g)
  let s := s.setReg (aGroup g 12) 0
  s.setGroup g { groupReset with oldest := epoch }

/-- Give back what a group reserved, and set it FREE (R218). -/
def State.groupFree (s : State) (g : Nat) : State :=
  let s := (s.gClusters g).foldl (fun s c =>
    ((s.setRf (aGranules c) 27 16 (s.granHeld c - s.gf g 11 11 0)).poolFreeAll c (.group g)).poolRelease
      c (.group g)) s
  let s := ((s.setRf (aGroup g 0) 31 29 0).setRf (aGroup g 11) 20 16 0).setRf (aGroup g 11) 11 0 0
  s.setGroup g groupReset

/-! ### Release of results (R223, R141 for the copies) -/

/-- Queue a packet of a group in the injection queue of a cluster, marked as a copy of a chunk: kind 0
a result, kind 1 a failure. -/
def State.emitCopy (s : State) (c : Nat) (mc : Nat × Nat × Nat) (p : Pkt) : State :=
  if s.selfEid = 0xFFFF then s
  else
    let v := hVc p.hdr
    let s := s.emit c p
    s.setInq (128 + c) v ((s.inq (128 + c) v).map (fun q =>
      if q.pid + 1 = s.sw.nextPid then { q with mc := some mc } else q))

/-- Form C operation fields (R102). -/
def opC (group member chunk ofs fmt epoch status elems : Nat) : List Byte :=
  leBytes 2 group ++ leBytes 2 member ++ leBytes 4 chunk ++ leBytes 4 ofs ++ leBytes 1 fmt ++
    leBytes 1 epoch ++ leBytes 2 status ++ leBytes 2 elems

/-- Cut a result payload into packets: first element, elements, bytes. -/
def resultPieces (unitN unitB : Nat) : Nat → Nat → List Byte → List (Nat × Nat × List Byte)
  | 0, _, _ => []
  | fuel + 1, ofs, data =>
    if data.isEmpty then []
    else
      let k := 4096 / max 1 unitB
      let d := data.take (k * unitB)
      (ofs, d.length / max 1 unitB * unitN, d) ::
        resultPieces unitN unitB fuel (ofs + k * unitN) (data.drop (k * unitB))

/-- The RESULT packets of a payload; an empty one is one packet with LEN 0. -/
def State.resultPackets (s : State) (g chunk dst member : Nat) (mcast : Bool) (data : List Byte) :
    List Pkt :=
  let c := s.gC g
  let (n, b) := unitOf (s.gOut g) (s.gD g)
  let pieces := resultPieces n b (data.length + 1) 0 data
  let pieces := if pieces.isEmpty then [(0, 0, [])] else pieces
  pieces.map (fun (x : Nat × Nat × List Byte) =>
    mkPkt dst s.selfEid 0x18 mcast false false 0 0
      (opC g member (chunk % c) x.1 (s.gOut g) (chunk / c % 256) 0 x.2.1) x.2.2)

/-- The slot of a chunk changed by f. -/
def State.updSlot (s : State) (g chunk : Nat) (f : Slot → Slot) : State :=
  let x := s.group g
  s.setGroup g { x with slots := updFirst (fun y => decide (y.chunk = chunk)) f x.slots }

/-- The slot of a chunk. -/
def State.slot (s : State) (g chunk : Nat) : Option Slot :=
  (s.group g).slots.find? (fun y => decide (y.chunk = chunk))

/-- Send packets as copies of a chunk and count them. -/
def State.sendCopies (s : State) (g chunk : Nat) (ps : List Pkt) : State :=
  ps.foldl (fun s p =>
    if s.selfEid = 0xFFFF then s
    else (s.emitCopy (s.gPlace g chunk) (g, chunk, 0) p).updSlot g chunk
      (fun y => { y with copies := y.copies + 1 })) s

/-- Release a chunk's result to the plan entries of one wave, in plan order (R223).  REDUCE_SCATTER sends
its plan entries an empty RESULT (R221). -/
def State.releaseWave (s : State) (g chunk w : Nat) (data : List Byte) : State :=
  let body := if s.gKind g = 1 then [] else data
  (s.planOf g).foldl (fun s (e : Bool × Nat × Nat) =>
    if e.2.1 = w then
      s.sendCopies g chunk (if e.1 then s.resultPackets g chunk (s.mEid g e.2.2) e.2.2 false body
        else s.resultPackets g chunk (e.2.2 % 1024) 0 true body)
    else s) s

/-- Advance the oldest instance past those whose chunks have all been freed; EPOCH follows (R220). -/
def State.advance : Nat → State → Nat → State
  | 0, s, _ => s
  | fuel + 1, s, g =>
    let x := s.group g
    let c := s.gC g
    if (List.range c).all (fun k => x.freed.contains (x.oldest * c + k)) then
      let s := s.setGroup g { x with
        oldest := x.oldest + 1
        freed := x.freed.filter (fun y => (x.oldest + 1) * c ≤ y)
        failed := x.failed.filter (fun y => x.oldest + 1 ≤ y) }
      State.advance fuel (s.setRf (aGroup g 11) 31 24 ((x.oldest + 1) % 256)) g
    else s

/-- Give back a result buffer of a group, where the pool still holds it for the group. -/
def State.resultFree (s : State) (c g hand : Nat) : State :=
  s.setPool c { s.pool c with held := delFirst (fun b => decide (b.cls = bits hand 19 17) &&
    decide (b.idx = bits hand 16 0) && decide (b.holder = .group g)) (s.pool c).held }

/-- Draw the buffer that holds a chunk's result, of the group's reservation (R185, R212); an empty result takes
none. -/
def State.resultDraw (s : State) (g chunk : Nat) (data : List Byte) : Option Nat × State :=
  if data.isEmpty then (none, s)
  else
    let (h, s) := s.poolDraw (s.gPlace g chunk) (classFor (s.resultBytes g)) true (.group g)
    (some h, s)

/-- The copies in the device that carry one mark take another. -/
def State.remark (s : State) (a b : Nat × Nat × Nat) : State :=
  let f (l : List QPkt) : List QPkt := l.map (fun k => if k.mc = some a then { k with mc := some b } else k)
  { s with sw := { s.sw with
    inq := s.sw.inq.map (fun e => (e.1, f e.2)), outq := s.sw.outq.map (fun e => (e.1, f e.2)) } }

/-- A copy with a mark is queued. -/
def State.marked (s : State) (a : Nat × Nat × Nat) : Bool :=
  s.sw.inq.any (fun e => e.2.any (fun k => decide (k.mc = some a))) ||
    s.sw.outq.any (fun e => e.2.any (fun k => decide (k.mc = some a)))

/-- A slot is cleared (R225): the buffer of its result stays with the copies that have not left, which carry its
cluster and handle from here on (R188), or is freed. -/
def State.slotCleared (s : State) (g : Nat) (y : Slot) : State :=
  match y.hand with
  | none => s.remark (g, y.chunk, 0) (g, y.chunk, 1)
  | some h =>
    let c := s.gPlace g y.chunk
    if s.marked (g, y.chunk, 0) then s.remark (g, y.chunk, 0) (g, c * 2 ^ 20 + h, 2) else s.resultFree c g h

/-- Free the slot and buffer of a chunk all of whose copies have left (R220, step 6). -/
def State.freeSlot (s : State) (g chunk : Nat) : State :=
  let s := match (s.group g).slots.find? (fun y => decide (y.chunk = chunk)) with
    | some y => (match y.hand with | some h => s.resultFree (s.gPlace g chunk) g h | none => s)
    | none => s
  let x := s.group g
  let s := s.setGroup g { x with
    slots := x.slots.filter (fun y => y.chunk ≠ chunk), freed := chunk :: x.freed }
  s.advance 130 g

/-- A copy of a chunk has left its output port, or was never made: the last one frees the slot and its buffer.  A free
below a count of 0 is a double free by the reed (R188, R190). -/
def State.copyGone (s : State) (mc : Nat × Nat × Nat) : State :=
  if mc.2.2 = 2 then
    if s.marked mc then s else s.resultFree (mc.2.1 / 2 ^ 20) mc.1 (mc.2.1 % 2 ^ 20)
  else if mc.2.2 ≠ 0 ∨ s.gKind mc.1 = 5 then s
  else if ((s.slot mc.1 mc.2.1).any (fun y => decide (y.copies = 0) && y.result.isSome)) then
    let c := s.gPlace mc.1 mc.2.1
    (s.bump (aBobErr c) 31 16 1).dfLog c (((s.slot mc.1 mc.2.1).bind (·.hand)).getD 0) 2 (16 * c)
  else
    let s := s.updSlot mc.1 mc.2.1 (fun y => { y with copies := y.copies - 1 })
    match s.slot mc.1 mc.2.1 with
    | some y =>
      if y.copies = 0 ∧ y.waves = [] ∧ y.result.isSome then s.freeSlot mc.1 mc.2.1 else s
    | none => s

/-- A member left without a copy is counted as UNREACHED in the chunk's cluster (R225). -/
def State.unreached (s : State) (mc : Nat × Nat × Nat) : State :=
  s.bump (aReedErr (s.gPlace mc.1 mc.2.1)) 15 1 1

/-! ### Failure (R225) -/

/-- Send GROUP_FAIL with a status and an EPOCH to every plan entry at once. -/
def State.sendFail (s : State) (g chunk epoch status : Nat) : State :=
  (s.planOf g).foldl (fun s (e : Bool × Nat × Nat) =>
    let dst := if e.1 then s.mEid g e.2.2 else e.2.2 % 1024
    s.emitCopy (s.gPlace g chunk) (g, chunk, 1) (mkPkt dst s.selfEid 0x19 (!e.1) false false 0 0
      (opC g (if e.1 then e.2.2 else 0) 0 0 (s.gOut g) epoch status 0) [])) s

/-- Whether a failure status leaves the group FAILED (R225). -/
def failsGroup (status : Nat) : Bool := decide (status = stMemberLost) || decide (status = stPathLost)

/-- Fail instance e of a group. -/
def State.failInstance (s : State) (g e status : Nat) : State :=
  let x := s.group g
  if x.failed.contains e ∨ e < x.oldest then s
  else
    let c := s.gC g
    let was := s.gState g
    let s := (x.slots.filter (fun y => y.chunk / c = e)).foldl (fun s y => s.slotCleared g y) s
    let s := s.setGroup g { x with
      slots := x.slots.filter (fun y => y.chunk / c ≠ e)
      failed := e :: x.failed
      queue := x.queue.filter (fun y => y.1 ≠ e)
      granted := x.granted.filter (fun y => y.1 ≠ e)
      freed := (List.range c).map (fun k => e * c + k) ++ x.freed.filter (fun y => y / c ≠ e) }
    let s := s.sendFail g (e * c) (e % 256) status
    let s := (s.setRf (aGroup g 12) 15 0 status).bump (aGroup g 12) 31 16 1
    let s := (s.bump (aGrpErr 1) 15 1 1).evDev 0x84 1
    let s := if failsGroup status then
        let s := s.setRf (aGroup g 0) 31 29 2
        -- the event tells that the group enters FAILED (R494)
        if was = 2 then s else s.event 0x0480 0 (leBytes 1 0 ++ leBytes 2 g ++ leBytes 2 status ++ leBytes 1 (e % 256))
      else s
    s.advance 130 g

/-- The instances with a chunk open. -/
def State.openInst (s : State) (g : Nat) : List Nat :=
  ((s.group g).slots.map (fun y => y.chunk / max 1 (s.gC g))).eraseDups

/-- Every open instance of a group fails; with none open, the oldest does when `always` is set (R225). -/
def State.failOpen (s : State) (g status : Nat) (always : Bool) : State :=
  let l := s.openInst g
  let l := if l.isEmpty && always then [(s.group g).oldest] else l
  l.foldl (fun s e => s.failInstance g e status) s

/-- Reed state of cluster c is lost: every open instance of a group that reduces there fails
with FAIL_PATH_LOST, and the oldest of an ARMED group that has none open (R225). -/
def State.reedLost (s : State) (c : Nat) : State :=
  s.liveGroups.foldl (fun s g =>
    if (s.gClusters g).contains c then
      if s.gState g = 1 then (s.failOpen g stPathLost true).setRf (aGroup g 0) 31 29 2
      else if s.gState g = 2 then s.failOpen g stPathLost false
      else s
    else s) s

/-! ### Running a chunk (R219, R220) -/

/-- The members that contribute to chunk k of an instance (R221). -/
def State.contributors (s : State) (g k : Nat) : List Nat :=
  if s.gKind g = 2 then [k / max 1 (s.gC g / max 1 (s.gMembers g))]
  else if s.gKind g = 3 then [s.gf g 5 12 0]
  else List.range (s.gMembers g)

/-- The partial format a CHILD sends (R222). -/
def State.partialFmt (s : State) (g : Nat) : Nat :=
  if s.gOp g = 0 ∧ s.gMode g = 0 then 0x40
  else if s.gOp g = 0 then 0x14
  else if s.gOp g = 7 then 0x51
  else s.gIn g

/-- The oldest chunk not yet freed. -/
def State.oldestChunk (s : State) (g : Nat) : Nat :=
  let x := s.group g
  let c := s.gC g
  ((List.range (c + 1)).find? (fun k => !x.freed.contains (x.oldest * c + k))).getD 0 + x.oldest * c

/-- Combine two raw elements by MIN, MAX, MAXLOC, AND, OR or XOR (R207). -/
def combine (op f a b : Nat) : Nat :=
  if op = 4 then a &&& b
  else if op = 5 then a ||| b
  else if op = 6 then a ^^^ b
  else if op = 3 then
    let va := a % 2 ^ 32
    let vb := b % 2 ^ 32
    let nana := decide (f = 0x32) && decide (fFP32.dec va = .nan)
    let nanb := decide (f = 0x32) && decide (fFP32.dec vb = .nan)
    let gt :=  -- b's value above a's
      if f = 0x30 then decide (toSigned 32 va < toSigned 32 vb)
      else if f = 0x31 then decide (va < vb)
      else (nanb && !nana) || (!nana && (fFP32.dec va).ltz (fFP32.dec vb))
    let lt :=
      if f = 0x30 then decide (toSigned 32 vb < toSigned 32 va)
      else if f = 0x31 then decide (vb < va)
      else (nana && !nanb) || (!nanb && (fFP32.dec vb).ltz (fFP32.dec va))
    -- among ties the smallest location, and two NaNs of one location in an order of their own
    if gt then b else if lt then a else if b < a then b else a
  else
    match intFmt f, fpFmt f with
    | some (w, sg), _ =>
      let x : Int := if sg then toSigned w a else (a : Int)
      let y : Int := if sg then toSigned w b else (b : Int)
      if op = 1 then (if y < x then b else a) else (if x < y then b else a)
    | _, some x => x.fminmax (decide (op = 2)) a b
    | _, _ => a

/-- Fold n elements into accumulators from element ofs. -/
def foldElems (f : Nat → Nat → Nat → Nat) : List Nat → Nat → Tab Nat → Tab Nat → Tab Nat × Tab Nat
  | [], _, acc, seen => (acc, seen)
  | v :: r, i, acc, seen =>
    let old := tabGet (fun _ => 0) acc i
    let fresh := tabGet (fun _ => 0) seen i
    foldElems f r (i + 1) (tabSet (fun _ => 0) acc i (f fresh old v)) (tabSet (fun _ => 0) seen i 1)

/-- Fold a list of exact values into accumulators from element ofs. -/
def foldVals (f : Nat → Nat → Fp → Nat) : List Fp → Nat → Tab Nat → Tab Nat → Tab Nat × Tab Nat
  | [], _, acc, seen => (acc, seen)
  | v :: r, i, acc, seen =>
    let old := tabGet (fun _ => 0) acc i
    let fresh := tabGet (fun _ => 0) seen i
    foldVals f r (i + 1) (tabSet (fun _ => 0) acc i (f fresh old v)) (tabSet (fun _ => 0) seen i 1)

/-- Fold one accepted contribution into a slot (R220, step 2). -/
def State.fold (s : State) (g member ofs elems fmt : Nat) (data : List Byte) (y : Slot) : Slot :=
  let cnt := if s.gEmpty g then 1 else elems
  let counts := tabUpd (fun _ => 0) y.counts member (· + cnt)
  if s.gEmpty g then { y with counts := counts }
  else if s.gMode g = 2 ∨ s.gOp g = 15 ∨ s.gOp g = 7 then
    -- what stands beyond ELEMS is pad (R93)
    let u := unitOf fmt (s.gD g)
    { y with counts := counts, buf := y.buf ++ [(member, ofs, data.take (elems / max 1 u.1 * u.2))] }
  else if s.gOp g = 0 ∧ s.gMode g = 0 then
    let r := if fmt = 0x40 then
        foldElems (fun _ old v => accMerge old v) (rawElems 40 elems data) ofs y.acc y.flags
      else foldVals (fun _ old v => accAdd old v) (elemVals fmt elems data) ofs y.acc y.flags
    { y with counts := counts, acc := r.1, flags := r.2 }
  else if s.gOp g = 0 then
    let r := foldVals (fun seen old v => if seen = 0 then f32add 0 (toF32 v) else f32add old (toF32 v))
      (elemVals fmt elems data) ofs y.acc y.flags
    { y with counts := counts, acc := r.1, flags := r.2 }
  else
    let r := foldElems (fun seen old v => if seen = 0 then
        (if s.gOp g = 1 ∨ s.gOp g = 2 then combine (s.gOp g) fmt v v else v)
      else combine (s.gOp g) fmt old v)
      (rawElems (elemBits fmt / 8) elems data) ofs y.acc y.flags
    { y with counts := counts, acc := r.1, flags := r.2 }

/-- The payload one member sent for a chunk, put together from its packets; `unit` gives elements and
bytes of a piece. -/
def gather (unit : Nat × Nat) (l : List (Nat × List Byte)) (total : Nat) : List Byte :=
  l.foldl (fun acc (x : Nat × List Byte) =>
    let at0 := x.1 / max 1 unit.1 * unit.2
    (splice acc at0 x.2).take total) (List.replicate total 0)

/-- What one member buffered in a slot. -/
def Slot.sent (y : Slot) (m : Nat) : List (Nat × List Byte) :=
  y.buf.filterMap (fun e => if e.1 = m then some e.2 else none)

/-- The FP32 sums of an ORDERED SUM, folding members in ascending index (R206). -/
def State.orderedSum (s : State) (g n : Nat) (y : Slot) : List Nat :=
  let u := unitOf (s.gIn g) 0
  (List.range (s.gMembers g)).foldl (fun acc m =>
    let vs := elemVals (s.gIn g) n (gather u (y.sent m) (n / max 1 u.1 * u.2))
    List.zipWith (fun a v => f32add a (toF32 v)) acc vs) (List.replicate n 0)

/-- The merged records of SMERGE, folding members in ascending index (R208). -/
def State.smerge (s : State) (g n : Nat) (y : Slot) : List SRec :=
  let d := s.gD g
  (List.range n).map (fun i =>
    (List.range (s.gMembers g)).foldl (fun acc m =>
      let f := if s.mChild g m then 0x51 else s.gIn g
      let b := recBytes f d
      recMerge acc (recOf f d (slice (gather (1, b) (y.sent m) (n * b)) (i * b) b)))
      ⟨0xFF800000, 0, List.replicate d 0⟩)

/-- SCALE times a value (R204). -/
def State.scaled (s : State) (g : Nat) (v : Fp) : Fp := v.mul (fFP32.dec (s.gf g 4 31 0))

/-- The result payload of a complete chunk at the root, and the elements clamped (R204 to R208). -/
def State.rootResult (s : State) (g k : Nat) (y : Slot) : List Byte × Nat :=
  let n := s.gElems g k
  let at0 (i : Nat) : Nat := tabGet (fun _ => 0) y.acc i
  if s.gEmpty g then ([], 0)
  else if s.gOp g = 15 then
    let u := unitOf (s.gIn g) (s.gD g)
    (gather u (y.sent ((s.contributors g k).headD 0)) (n / max 1 u.1 * u.2), 0)
  else if s.gOp g = 7 then
    ((s.smerge g n y).flatMap (recOut (s.gOut g) (s.gf g 0 17 17 = 1)), 0)
  else if s.gOp g = 0 then
    let vs : List Fp :=
      if s.gMode g = 0 then (List.range n).map (fun i => accVal (at0 i))
      else if s.gMode g = 1 then (List.range n).map (fun i => fFP32.dec (at0 i))
      else (s.orderedSum g n y).map fFP32.dec
    outVals (s.gOut g) (vs.map (s.scaled g))
  else ((List.range n).flatMap (fun i => leBytes (elemBits (s.gIn g) / 8) (at0 i)), 0)

/-- The partial of a complete chunk below the root, in the format of R222. -/
def State.nodePartial (s : State) (g k : Nat) (y : Slot) : List Byte :=
  let n := s.gElems g k
  let at0 (i : Nat) : Nat := tabGet (fun _ => 0) y.acc i
  if s.gEmpty g then []
  else if s.gOp g = 7 then (s.smerge g n y).flatMap (recOut 0x51 false)
  else (List.range n).flatMap (fun i => leBytes (elemBits (s.partialFmt g) / 8) (at0 i))

/-- The effective spacing of a group's waves, in µs: the larger of its own and the floor in force (R223, R401). -/
def State.waveSpacing (s : State) (g : Nat) : Nat :=
  max (s.gf g 7 10 0) (if s.rf aTrdState 31 25 = 0 then s.rf aPace0 10 0 else s.rf aPace0 26 16)

/-- A result is held (R220, step 5): it is released at once, or its wave 0 is, and later waves wait. -/
def State.holdResult (s : State) (g chunk : Nat) (data : List Byte) : State :=
  let c := s.gC g
  let k := chunk % c
  let last := decide (k + 1 = c)
  let all := ((s.planOf g).map (fun (e : Bool × Nat × Nat) => e.2.1)).eraseDups
  let later := if last then all.filter (fun w => w ≠ 0) else []
  let (h, s) := s.resultDraw g chunk data
  let s := s.updSlot g chunk (fun y => { y with
    result := some data, waves := later, heldAt := s.aon, spacing := s.waveSpacing g, hand := h })
  let s := if s.gKind g = 1 then
      let m := k / max 1 (c / max 1 (s.gMembers g))
      s.sendCopies g chunk (s.resultPackets g chunk (s.mEid g m) m false data)
    else s
  let s := if last then s.releaseWave g chunk 0 data
    else all.foldl (fun s w => s.releaseWave g chunk w data) s
  match s.slot g chunk with
  | some y => if y.copies = 0 ∧ y.waves = [] then s.freeSlot g chunk else s
  | none => s

/-- How many of the first n elements of a chunk belong to reed r of its cluster (R197). -/
def reedShare (n r : Nat) : Nat := n / 1024 * 64 + min 64 (n % 1024 - 64 * r)

/-- Count the elements of a contribution at the reeds they belong to (REED_ELEMS, R526). -/
def State.reedElems (s : State) (c ofs n : Nat) : State :=
  (List.range 16).foldl (fun s r => s.evUnit c 0x45 r (reedShare (ofs + n) r - reedShare ofs r)) s

/-- Count a completed chunk of n elements at every reed that holds a part of it; one with no element counts at the
first (REED_CHUNKS, R526; DESIGN CHOICE, log entry 136). -/
def State.reedChunk (s : State) (c n : Nat) : State :=
  let l := (List.range 16).filter (fun r => decide (r = 0) || decide (0 < reedShare n r))
  s.ctrBank (aSwx c 0) 16 0x46 1 (fun q => decide (bits q 4 0 = 31) || l.contains (bits q 4 0))

/-- Every contributing member's count has reached the chunk's element count (R220, step 3). -/
def State.chunkDone (s : State) (g k : Nat) (y : Slot) : Bool :=
  let n := if s.gEmpty g then 1 else s.gElems g k
  (s.contributors g k).all (fun m => decide (tabGet (fun _ => 0) y.counts m = n))

/-- Steps 3 and 3a of R220. -/
def State.chunkEnd (s : State) (g chunk : Nat) : State :=
  match s.slot g chunk with
  | none => s
  | some y =>
    let c := s.gC g
    let k := chunk % c
    if y.result.isSome || y.folded ≠ 0 || !s.chunkDone g k y then s
    else
      let s := s.reedChunk (s.gPlace g chunk) (if s.gEmpty g then 0 else s.gElems g k)
      if s.gLevel g = 0 then
        let r := s.rootResult g k y
        let s := s.bump (aReedErr (s.gPlace g chunk)) 31 16 r.2
        s.holdResult g chunk r.1
      else
        let f := s.partialFmt g
        let u := unitOf f (s.gD g)
        let data := s.nodePartial g k y
        let ps := resultPieces u.1 u.2 (data.length + 1) 0 data
        let ps := if ps.isEmpty then [(0, 0, [])] else ps
        let s := s.updSlot g chunk (fun y => { y with folded := 1 })
        ps.foldl (fun s (x : Nat × Nat × List Byte) =>
          s.emit (s.gPlace g chunk) (mkPkt (s.gf g 9 31 16) s.selfEid 0x10 false false false 0 0
            (opC (s.gf g 9 10 0) (s.gf g 10 12 0) k x.1 f (chunk / c % 256) 0 x.2.1) x.2.2)) s

/-- The checks of R219 from the third on, and folding.  e is the instance named by EPOCH. -/
def State.contribute (s : State) (g member chunk ofs fmt elems : Nat) (e : Nat)
    (data : List Byte) : State :=
  let x := s.group g
  let c := s.gC g
  let gc := e * c + chunk
  let n := s.gElems g chunk
  let child := s.mChild g member
  let want := if child then s.partialFmt g else s.gIn g
  let stale (s : State) : State := s.bump (aGrpErr 1) 31 16 1
  if 128 < e - x.oldest ∨ (chunk < c ∧ gc < s.oldestChunk g) then stale s
  else if chunk < c ∧ s.oldestChunk g + s.gW g ≤ gc then s.failInstance g e stWindow
  else
    -- of an instance that has been failed no count is kept
    let old := ((s.slot g gc).map (fun y => tabGet (fun _ => 0) y.counts member)).getD
      (if x.freed.contains gc ∧ ¬ x.failed.contains e then n else 0)
    let mx := (mxFmt fmt).isSome
    let bad :=
      decide (fmt ≠ want) || decide (c ≤ chunk) || decide ((if s.gEmpty g then 0 else n) < ofs + elems) ||
      !(s.contributors g chunk).contains member ||
      decide ((if s.gEmpty g then 1 else n) < old + (if s.gEmpty g then 1 else elems)) ||
      (mx && (decide (ofs % 32 ≠ 0) || decide (elems % 32 ≠ 0)))
    if x.failed.contains e then (if bad then s else stale s)
    else if bad then s.failInstance g e stGroupState
    else
      let fresh := (s.slot g gc).isNone
      if fresh ∧ chunk = 0 ∧ (List.range (s.gMembers g)).any (fun i => s.rtGone (s.mEid g i)) then
        s.failInstance g e stMemberLost
      else
        let s := if fresh then s.setGroup g { x with slots := x.slots ++
            [⟨gc, [], [], [], [], 0, none, [], 0, 0, 0, none⟩] } else s
        let s := s.reedElems (s.gPlace g gc) ofs elems
        let s := s.updSlot g gc (s.fold g member ofs elems fmt data)
        if s.gKind g = 5 then s.setGroup g { s.group g with queue := (s.group g).queue ++ [(e, member)] }
        else s.chunkEnd g gc

/-- CONTRIB (R219, R220): checked against its group and folded, or discarded, or its instance fails. -/
def execContrib (port : Nat) (pkt : Pkt) (s : State) : Out :=
  let (ok, s) := s.sink port 0x10 pkt
  if !ok then .next s
  else
    let h := pkt.hdr
    let g := bits (field h 16 2) 10 0
    let m := bits (field h 18 2) 12 0
    let x := s.group g
    if s.gState g = 2 then .next (s.bump (aGrpErr 1) 31 16 1)
    else if s.gState g ≠ 1 then .next (s.bump (aGrpErr 0) 31 16 1)
    else if s.gMembers g ≤ m ∨ s.mEid g m ≠ hSrc h then .next (s.bump (aGrpErr 0) 15 0 1)
    else
      let e := x.oldest + (byteAt h 29 + 256 - x.oldest % 256) % 256
      let d := dReed (s.gPlace g (e * s.gC g + field h 20 4))
      -- a contribution that reaches a reed below RUN waits for its exit (R42, R220)
      if s.atDepth d .run then
        .next (s.contribute g m (field h 20 4) (field h 24 4) (byteAt h 28) (field h 32 2) e pkt.data)
      else .next ((s.sinkAgain port pkt).wake d)

/-- A RESULT from the parent of a tree node: its piece is kept until the chunk's payload is whole, and
the chunk's result is then held and released (R220, step 4; R222). -/
def State.parentResult (s : State) (g : Nat) (pkt : Pkt) : State :=
  let h := pkt.hdr
  let c := s.gC g
  let x := s.group g
  let e := x.oldest + (byteAt h 29 + 256 - x.oldest % 256) % 256
  let gc := e * c + field h 20 4
  let k := field h 20 4
  match s.slot g gc with
  | none => s
  | some y =>
    if y.result.isSome then s
    else
      let n := if s.gEmpty g then 0 else s.gElems g k
      let u := unitOf (s.gOut g) (s.gD g)
      -- what stands beyond ELEMS is pad (R93)
      let buf := y.buf ++ [(8192, field h 24 4, pkt.data.take (field h 32 2 / max 1 u.1 * u.2))]
      let got := sumNat ((Slot.sent { y with buf := buf } 8192).map (fun b => b.2.length / max 1 u.2 * u.1))
      let s := s.updSlot g gc (fun y => { y with buf := buf })
      if n ≤ got then
        s.holdResult g gc (gather u (Slot.sent { y with buf := buf } 8192) (n / max 1 u.1 * u.2))
      else s

/-- The tree node a packet from a parent addresses: LEVEL > 0 and the parent's EID, group and member. -/
def State.nodeOf (s : State) (h : List Byte) : Option Nat :=
  s.liveGroups.find? (fun g => decide (s.gState g = 1) && decide (0 < s.gLevel g) &&
    decide (s.gf g 9 31 16 = hSrc h) && decide (s.gf g 9 10 0 = bits (field h 16 2) 10 0) &&
    decide (s.gf g 10 12 0 = bits (field h 18 2) 12 0))

/-- RELEASE_WAVE (R223): wave w of the last chunk of an instance is released once its time has come, by the spacing
in force when the result was held (R401); the AON count tells the time. -/
def execReleaseWave (g chunk w : Nat) (s : State) : Out :=
  match s.slot g chunk with
  | some y =>
    match y.result with
    | some data =>
      if y.waves.contains w ∧ y.heldAt + 96 * (w * y.spacing) ≤ s.aon then
        let s := s.updSlot g chunk (fun y => { y with waves := y.waves.filter (fun v => v ≠ w) })
        let s := s.releaseWave g chunk w data
        match s.slot g chunk with
        | some y => .next (if y.copies = 0 ∧ y.waves = [] then s.freeSlot g chunk else s)
        | none => .next s
      else .next s
    | none => .next s
  | none => .next s

/-- CHUNK_TIMEOUT (R220, step 7): the slot is open and its result has not come. -/
def execChunkTimeout (g gc : Nat) (s : State) : Out :=
  match s.slot g gc with
  | some y =>
    if y.result.isNone ∧ s.gTimeout g ≠ 0 ∧ s.gKind g ≠ 5 then
      .next (s.failInstance g (gc / max 1 (s.gC g)) stTimeout)
    else .next s
  | none => .next s

/-- Any of SUPPLY, FLOW, THERMAL and LEAK is set (R399). -/
def State.alertFlags (s : State) : Bool := decide (s.rf aTrdState 28 25 ≠ 0)

/-- The effective burst and period of a gate (R402). -/
def State.gateBurst (s : State) (g : Nat) : Nat := min (s.gf g 8 31 24) (s.rf aPace1 31 24)
def State.gatePeriod (s : State) (g : Nat) : Nat :=
  let p := max (s.gf g 8 15 0) (s.rf aPace1 15 0)
  min 65535 (if s.alertFlags then 4 * p else p)

/-- GATE_GRANT (R224, step 2): the head of the grant queue is granted when fewer than the burst have been
granted within the period. -/
def execGateGrant (g : Nat) (s : State) : Out :=
  let x := s.group g
  let recent := x.grants.filter (fun t => s.aon < t + s.gatePeriod g * 96)
  match x.queue with
  | [] => .next s
  | (e, m) :: r =>
    if s.gKind g = 5 ∧ s.gState g = 1 ∧ recent.length < s.gateBurst g then
      let got := x.granted ++ [(e, m)]
      let s := s.setGroup g { x with queue := r, granted := got, grants := s.aon :: recent }
      let s := s.emitCopy (s.gPlace g e) (g, e, 0) (mkPkt (s.mEid g m) s.selfEid 0x18 false false false 0 0
        (opC g m 0 0 (s.gOut g) (e % 256) 0 0) [])
      if (got.filter (fun y => y.1 = e)).length = s.gMembers g then
        let s := s.setGroup g { s.group g with granted := got.filter (fun y => y.1 ≠ e) }
        .next (s.freeSlot g e)
      else .next s
    else .next s

/-- GATE_TIMEOUT (R224, step 4): an instance has not had all its grants. -/
def execGateTimeout (g : GroupInst) (s : State) : Out :=
  if s.gKind g.group = 5 ∧ s.gState g.group = 1 ∧ s.gTimeout g.group ≠ 0 ∧ (s.slot g.group g.inst).isSome then
    .next (s.failInstance g.group g.inst stTimeout)
  else .next s

/-! ### Commands -/

/-- The group command a request carries: CMD, group, EPOCH (R230, R493). -/
def State.grpReq (s : State) (src : Src) : Option (Nat × Nat × Nat) :=
  match src with
  | .reg path a v =>
    if a = aGrpCmd ∧ s.pathOk path then some (fld v 31 29, fld v 10 0, fld v 28 21) else none
  | .cmd tag =>
    match s.cmd tag 0x0402 with
    | some p => some (byteAt p.payload 2, bits (field p.payload 0 2) 10 0, byteAt p.payload 3)
    | none => none

/-- The malformed forms of GROUP_CMD (R493). -/
def State.grpBad (s : State) (src : Src) : Bool :=
  match src with
  | .reg _ _ _ => false
  | .cmd tag =>
    match s.cmd tag 0x0402 with
    | some p => decide (p.payload.length ≠ 4) || decide (2048 ≤ field p.payload 0 2)
    | none => false

def srcTag : Src → Option Nat
  | .reg _ _ _ => none
  | .cmd t => some t

/-- RESULT codes of RTE_GRP_STATUS (R231). -/
def grpCode (st : Nat) : Nat :=
  if st = stOk then 1 else if st = stFit then 2 else if st = stState then 3 else 4

/-- End a group command: RESULT, GROUP, BUSY clear, and the Cuing reply. -/
def State.grpEnd (s : State) (g st win : Nat) (tag : Option Nat) : State :=
  let s := (s.setRf aGrpSt 31 28 (grpCode st)).setRf aGrpSt 10 0 g
  let s := { s with grpCmd := none }
  if st = stOk then
    s.mirrorAnswer 3 g (s.bodyGroup g) (match tag with | some t => .cmd t | none => .reg .bar0 aGrpCmd 0) (leBytes 1 win)
  else
    match tag with
    | some t => s.finish t st []
    | none => s

/-- A group command is in progress. -/
def State.grpBusy (s : State) : Bool := s.grpCmd.isSome

/-- Begin a group command: refused while another is in progress (R230). -/
def State.grpStart (s : State) (src : Src) (cmd : Nat) (f : State → Nat → Nat → State) : State :=
  match s.grpReq src with
  | none => s
  | some (k, g, ep) =>
    if k ≠ cmd then s
    else if s.grpBad src then s.answer src stUnsup []
    else if s.grpBusy then s.answer src stBusy []
    else f s g ep

/-- GROUP_ADMIT (R217): judged at once; a group that passes is reserved for, and is ARMED when the
admission is done. -/
def execGroupAdmit (src : Src) (s : State) : Out :=
  .next (s.grpStart src 1 (fun s g _ =>
    let (st, win) := s.admission g false
    let s := s.setRf aGrpSt 20 16 win
    if st ≠ stOk then s.grpEnd g st 0 (srcTag src)
    else
      let s := s.groupReserve g win
      let s := match srcTag src with | some t => s.hold t | none => s
      { s.setRf aGrpSt 31 31 1 with grpCmd := some (1, g, win, srcTag src) }))

/-- GROUP_ADMIT_DONE (R217, last row). -/
def execGroupAdmitDone (s : State) : Out :=
  match s.grpCmd with
  | some (1, g, win, tag) => .next ((s.groupArm g win 0).grpEnd g stOk win tag)
  | _ => .next s

/-- No packet of the group is held in the device (R218). -/
def State.groupDrained (s : State) (g : Nat) : Bool :=
  let has (l : List QPkt) : Bool := l.any (fun q => match q.mc with | some m => decide (m.1 = g) | none => false)
  !(s.sw.inq.any (fun e => has e.2)) && !(s.sw.outq.any (fun e => has e.2))

/-- GROUP_RELEASE (R218): CLOSING; every open instance fails with GROUP_STATE. -/
def execGroupRelease (src : Src) (s : State) : Out :=
  .next (s.grpStart src 2 (fun s g _ =>
    if s.fallback ∨ (s.gState g ≠ 1 ∧ s.gState g ≠ 2) then s.grpEnd g stState 0 (srcTag src)
    else
      let s := s.failOpen g stGroupState false
      let s := s.setRf (aGroup g 0) 31 29 3
      let s := match srcTag src with | some t => s.hold t | none => s
      { s.setRf aGrpSt 31 31 1 with grpCmd := some (2, g, 0, srcTag src) }))

/-- GROUP_RELEASE_DRAINED (R218): every packet of the group has left; its reservations are freed. -/
def execGroupReleaseDrained (g : Nat) (s : State) : Out :=
  if s.gState g = 3 ∧ s.groupDrained g then
    let s := s.groupFree g
    match s.grpCmd with
    | some (2, h, _, tag) => .next (if h = g then s.grpEnd g stOk 0 tag else s)
    | _ => .next s
  else .next s

/-- The number of the oldest instance after a REARM at an EPOCH: past every instance whose results are still being
released, which keep their slots (R220, step 6). -/
def rearmOldest (x : Group) (ep : Nat) : Nat :=
  if x.slots.isEmpty then ep else x.oldest + 256 + (ep + 256 - x.oldest % 256) % 256

/-- GROUP_REARM (R218): a FAILED group is ARMED again at the EPOCH given. -/
def execGroupRearm (src : Src) (s : State) : Out :=
  .next (s.grpStart src 3 (fun s g ep =>
    if s.fallback ∨ s.gState g ≠ 2 then s.grpEnd g stState 0 (srcTag src)
    else
      let s := (s.setRf (aGroup g 0) 31 29 1).setRf (aGroup g 11) 31 24 ep
      let x := s.group g
      (s.setGroup g { groupReset with oldest := rearmOldest x ep, grants := x.grants, slots := x.slots }).grpEnd g stOk
        (s.gWin g) (srcTag src)))

/-- RTE_GRP_ERR_CLEAR (R232). -/
def execRteGrpErrClear (path : Path) (v : Word) (s : State) : Out :=
  if s.pathOk path ∧ s.plnUp ∧ fld v 0 0 = 1 then .next ((s.setReg (aGrpErr 0) 0).setReg (aGrpErr 1) 0)
  else .next s

/-- REED_ERR_CLEAR (R233). -/
def execReedErrClear (path : Path) (c : Nat) (v : Word) (s : State) : Out :=
  if c < 8 ∧ s.pathOk path ∧ s.isOff (dReed c) = false ∧ fld v 0 0 = 1 then
    .next (s.setReg (aReedErr c) 0)
  else .next s

/-! ### Table writes (R216) -/

/-- Whether a word of the group tables may be written: a context while FREE, an entry outside the ranges
of every non-FREE group. -/
def State.grpWordFree (s : State) (a : Nat) : Bool :=
  if a < 0x02220000 then decide (s.gState ((a - 0x02200000) / 0x40) = 0)
  else if 0x02300000 ≤ a ∧ a < 0x02340000 then
    let m := (a - 0x02300000) / 4
    !(s.liveGroups.any (fun g => decide (s.gMBase g ≤ m) && decide (m < s.gMBase g + s.gMembers g)))
  else
    let i := (a - 0x02400000) / 4
    !(s.liveGroups.any (fun g => decide (s.gPBase g ≤ i) && decide (i < s.gPBase g + s.gPLen g)))

/-- The bits of a word of the group tables that hold a field (R213 to R215), RO fields kept. -/
def State.grpMask (s : State) (a : Nat) (v : Word) : Word :=
  if a < 0x02220000 then
    let w := (a - 0x02200000) / 4 % 16
    if w = 0 then putFld (v &&& 0x1FFEFF00#32) 31 29 (s.rf a 31 29)
    else if w = 1 then v &&& 0xFFFFFF1F#32
    else if w = 2 then v &&& 0x3FFFFFFF#32
    else if w = 3 ∨ w = 4 then v
    else if w = 5 then v &&& 0xFFFF1FFF#32
    else if w = 6 then v &&& 0x7FFF3FFF#32
    else if w = 7 then v &&& 0xFC0007FF#32
    else if w = 8 then v &&& 0xFF00FFFF#32
    else if w = 9 then v &&& 0xFFFF07FF#32
    else if w = 10 then v &&& 0x03FF1FFF#32
    else s.reg a
  else if a < 0x02400000 then v &&& 0xFF80FFFF#32
  else v &&& 0xFF001FFF#32

/-- Write one word of the group tables, or reject it (R216). -/
def State.grpWordWrite (s : State) (a : Nat) (v : Word) : Bool × State :=
  if s.grpWordFree a then (true, s.setReg a (s.grpMask a v))
  else (false, s.setRf aGrpSt 15 15 1)

/-- A list of words with the addresses they go to. -/
def wordsAt (a : Nat) (l : List Word) : List (Nat × Word) :=
  (List.range l.length).map (fun i => (a + 4 * i, l.getD i 0))

/-- GROUP_WRITE (R216, R493): a context, then its member and plan entries; all of it or nothing.  Over a
register path it is one word of one of the tables. -/
def execGroupWrite (src : Src) (s : State) : Out :=
  match src with
  | .reg path a v =>
    if s.pathOk path ∧ s.plnUp ∧ 0x02200000 ≤ a ∧ a < 0x02420000 then .next (s.grpWordWrite a v).2
    else .next s
  | .cmd tag =>
    match s.cmd tag 0x0401 with
    | none => .next s
    | some p =>
      let g := field p.payload 0 2
      let ctx := bytesToWords 16 (p.payload.drop 4)
      let nm := fld (ctx.getD 2 0) 29 16
      let mb := fld (ctx.getD 2 0) 15 0
      let np := fld (ctx.getD 6 0) 13 0
      let pb := fld (ctx.getD 6 0) 30 16
      if 2048 ≤ g ∨ p.payload.length ≠ 68 + 4 * nm + 4 * np ∨ 65536 < mb + nm ∨ 32768 < pb + np then
        .next (s.finish tag stUnsup [])
      else
        let ws := wordsAt (aGroup g 0) ctx ++ wordsAt (aMemberE mb) (bytesToWords nm (p.payload.drop 68)) ++
          wordsAt (aPlan pb) (bytesToWords np (p.payload.drop (68 + 4 * nm)))
        if ws.all (fun w => s.grpWordFree w.1) then
          .next ((ws.foldl (fun s w => (s.grpWordWrite w.1 w.2).2) s).finish tag stOk [])
        else .next ((s.setRf aGrpSt 15 15 1).finish tag stState [])

/-- GROUP_READ (R493): the 64-byte context. -/
def execGroupRead (tag : Nat) (s : State) : Out :=
  .next (s.serve tag 0x0403 64 (fun b => decide (b.length = 2) && decide (field b 0 2 < 2048))
    (fun s p => (s, stOk, s.regBytes (aGroup (field p.payload 0 2) 0) 16)))

end Sys2Proof.Machine
end

