-- ==== Sys2Proof/Machine/Frame.lean ====
section
/-!
DEFINITION. Sys2Proof/Machine/Frame.lean: link frames and control messages of a port (chapter 03): how a
frame is laid out and read (R55, R56), and how a control message is sent (R69, R83).
-/

namespace Sys2Proof.Machine

/-- A link frame: the code and pick of each slot, and the trailer fields of R55. -/
structure Frame where
  slots : List (Option (Nat × List Byte))
  ftype : Nat
  retry : Bool
  asn   : Nat
  fsn   : Nat
  crA   : Option (Nat × Nat)
  crB   : Option (Nat × Nat)
  deriving DecidableEq, Repr

/-- A credit slot: count and channel, 0b111 when empty (R55). -/
def crCode (c : Option (Nat × Nat)) : Nat :=
  match c with
  | none => 7
  | some (v, n) => v + 8 * (n % 65536)

/-- Read a credit slot. -/
def crOf (w : Nat) : Option (Nat × Nat) :=
  if w % 8 = 7 then none else some (w % 8, w / 8 % 65536)

/-- The slot codes of a frame, slot 0 lowest (R55, R56). -/
def slotCodes : List (Option (Nat × List Byte)) → Nat
  | [] => 0
  | x :: r => (match x with | none => 7 | some (v, _) => v) + 8 * slotCodes r

/-- Trailer bits [95:0] (R55). -/
def Frame.trailer (f : Frame) : Nat :=
  f.fsn % 65536 + f.asn % 65536 * 2 ^ 16 + slotCodes f.slots % 4096 * 2 ^ 32 + f.ftype % 4 * 2 ^ 44 +
    b2n f.retry * 2 ^ 46 + crCode f.crA * 2 ^ 48 + crCode f.crB * 2 ^ 67

/-- The 272 bytes of a frame (R55). -/
def Frame.bytes (f : Frame) : List Byte :=
  let b := f.slots.flatMap (fun x => match x with | none => leBytes 64 0 | some (_, d) => padTo 64 d) ++
    leBytes 12 f.trailer
  b ++ leBytes 4 (crc32c b)

/-- The CRC of a received frame matches (R57). -/
def frameCrcOk (b : List Byte) : Bool :=
  decide (b.length = 272) && decide (crc32c (b.take 268) = field b 268 4)

/-- Read the fields of a received frame (R55). -/
def frameOf (b : List Byte) : Frame :=
  let t := field b 256 12
  { slots := (List.range 4).map (fun i =>
      let c := bits t (34 + 3 * i) (32 + 3 * i)
      if c = 7 then none else some (c, slice b (64 * i) 64))
    ftype := bits t 45 44
    retry := bit t 46
    asn := bits t 31 16
    fsn := bits t 15 0
    crA := crOf (bits t 66 48)
    crB := crOf (bits t 85 67) }

/-- Message types that expect an answer (R69). -/
def ctlAwaits (typ : Nat) : Bool :=
  decide (typ = 1) || decide (typ = 3) || decide (typ = 5) || decide (typ = 6) || decide (typ = 10)

/-- Queue a control message on port p: TYPE, the next SEQ of that TYPE, the body (R69). -/
def State.ctlSend (s : State) (p typ : Nat) (body : List Byte) : State :=
  s.updPort p (fun x =>
    let n := tabGet (fun _ => 0) x.ctlSeqTx typ
    let m := padTo 64 (leBytes 1 typ ++ leBytes 1 n ++ body)
    { x with
      ctlTx := x.ctlTx ++ [m]
      ctlLast := tabSet (fun _ => []) x.ctlLast typ m
      ctlSeqTx := tabSet (fun _ => 0) x.ctlSeqTx typ ((n + 1) % 256)
      ctlWait := if ctlAwaits typ then x.ctlWait.filter (fun y => byteAt y 0 ≠ typ) ++ [m]
        else x.ctlWait })

/-- An awaited answer has come: messages of this type are no longer resent. -/
def Port.answered (x : Port) (typ : Nat) : Port :=
  { x with ctlWait := x.ctlWait.filter (fun y => byteAt y 0 ≠ typ) }

/-- The TYPE that answers a request (R69). -/
def ctlAnswer (typ : Nat) : Nat := if typ = 5 ∨ typ = 10 then typ else typ + 1

/-- A request that has been acted on comes again: its answer may have been lost and is sent again, as the
message it was (DEDUCED, log entry 131). -/
def Port.ctlAgain (x : Port) (m : List Byte) : Port :=
  let a := tabGet (fun _ => []) x.ctlLast (ctlAnswer (byteAt m 0))
  if ctlAwaits (byteAt m 0) ∧ a ≠ [] ∧ x.txOn ∧ !x.ctlTx.contains a then { x with ctlTx := x.ctlTx ++ [a] } else x

/-- The state after a message that ctlTake does not pass on. -/
def State.ctlStale (s : State) (p typ : Nat) (msg : List Byte) : State :=
  if byteAt msg 0 = typ ∧ msg.length = 64 ∧ tabGet (fun _ => 256) (s.port p).ctlSeqRx typ = byteAt msg 1 then
    s.updPort p (fun x => { x with ctlRx := delFirst (fun y => decide (y = msg)) x.ctlRx }.ctlAgain msg)
  else s

/-- Act once per SEQ value (R69): none when the message is not of this type or has been acted on. -/
def State.ctlTake (s : State) (p typ : Nat) (msg : List Byte) : Option State :=
  if byteAt msg 0 ≠ typ ∨ msg.length ≠ 64 then none
  else
    let x := s.port p
    let s := s.setPort p { x with ctlRx := delFirst (fun y => decide (y = msg)) x.ctlRx }
    if tabGet (fun _ => 256) x.ctlSeqRx typ = byteAt msg 1 then none
    else some (s.updPort p (fun x =>
      { x with ctlSeqRx := tabSet (fun _ => 256) x.ctlSeqRx typ (byteAt msg 1) }))

/-- The FSN of the last DATA frame accepted in order. -/
def Port.asn (x : Port) : Nat := (x.rxFsn + 65535) % 65536

/-- The credit slots of the next frame, going round the seven channels (R62). -/
def Port.credits (x : Port) : Option (Nat × Nat) × Option (Nat × Nat) × Port :=
  let a := x.crPtr % 7
  let b := (x.crPtr + 1) % 7
  (some (a, x.fCnt.getD a 0), some (b, x.fCnt.getD b 0), { x with crPtr := (x.crPtr + 2) % 7 })

/-- The lanes a port can run: LANE_ALLOW without those retired. -/
def State.lanesMine (s : State) (p : Nat) : Nat :=
  sumNat ((bitList 4 (s.rf (aPortCfg p) 15 12)).map (fun i =>
    if bit (s.port p).laneFailed i then 0 else 2 ^ i))

/-- What this side's parameters said: its lanes, its HOLD_LIMIT, its advertisements. -/
def Port.mineLanes (x : Port) : Nat := byteAt x.mine 14 % 16
def Port.mineHold (x : Port) : Nat := field x.mine 16 2
def Port.mineAdv (x : Port) : List Nat := (List.range 7).map (fun v => field x.mine (18 + 2 * v) 2)

/-- The lanes that carry the frame stream: those active, and before the link is up those that the parameters of this
TRAIN name (R87: a write of LANE_ALLOW applies at the next one). -/
def State.lanesTx (s : State) (p : Nat) : List Nat :=
  bitList 4 (if (s.port p).laneActive = 0 then (s.port p).mineLanes else (s.port p).laneActive)

/-- The first frame in the replay buffer at or after an FSN. -/
def Port.replayFrom (x : Port) (n : Nat) : Option DFrame :=
  x.replay.find? (fun f => decide ((f.fsn + 65536 - n) % 65536 < 32768))

/-- The frame that is sent again next: of a replay in progress, or in a HOLD of the replay at its exit. -/
def Port.replayNext (x : Port) : Option DFrame :=
  match x.replayAt with
  | some n => x.replayFrom n
  | none => if x.lstate = .hold then x.replayFrom ((x.holdAsn + 1) % 65536) else none

/-- The FSN that the next DATA frame will carry (R55). -/
def Port.nextFsn (x : Port) : Nat :=
  match x.replayNext with
  | some f => f.fsn
  | none => x.txFsn

/-- Send one frame on port p with the given slots: its bytes join the frame stream of the lanes (R53). -/
def State.sendFrame (s : State) (p ftype fsn : Nat) (slots : List (Option (Nat × List Byte))) : State :=
  s.updPort p (fun x =>
    let (a, b, x) := x.credits
    let slots := slots ++ List.replicate (4 - slots.length) none
    let f := Frame.bytes ⟨slots, ftype, x.retryReq, x.asn, fsn, a, b⟩
    { x with lastTx := f }.stream (s.lanesTx p) f)

/-- Send a control message at once in a frame of its own, as the last thing before the link goes. -/
def State.ctlNow (s : State) (p typ : Nat) (body : List Byte) : State :=
  let s := s.ctlSend p typ body
  let x := s.port p
  let m := x.ctlTx.getLast?.getD []
  (s.setPort p { x with ctlTx := [], ctlWait := [] }).sendFrame p 1 x.nextFsn [some (0, m)]

/-- Send a control message at once in a frame of its own. -/
def State.ctlFrame (s : State) (p typ : Nat) (body : List Byte) : State :=
  let s := s.ctlSend p typ body
  let x := s.port p
  (s.setPort p { x with ctlTx := x.ctlTx.dropLast }).sendFrame p 1 x.nextFsn [some (0, x.ctlTx.getLast?.getD [])]

/-! ### Pacing (R82 to R84, R161, R162) -/

/-- The channels that PACE may name: REQ, CUP, BULK, with their index in the rate lists. -/
def paceChans : List (Nat × Nat) := [(0, 0), (2, 1), (5, 2)]

/-- The rate in force on a paceable channel: the lower nonzero one (R162). -/
def Port.paceRate (x : Port) (i : Nat) : Nat :=
  let a := x.paceCong.getD i 0
  let b := x.paceTrd.getD i 0
  if a = 0 then b else if b = 0 then a else min a b

/-- The device may send PACE on port p (R82). -/
def State.mayPace (s : State) (p : Nat) : Bool :=
  decide (s.portRole p = 1) && (s.port p).peerPace && s.rf (aPortCfg p) 8 8 = 1

/-- Send one PACE naming every channel of a mask at a rate (R83). -/
def State.paceSend (s : State) (p mask rate : Nat) : State :=
  if s.mayPace p ∧ mask ≠ 0 then
    s.ctlSend p 8 (leBytes 1 mask ++ leBytes 1 rate ++ leBytes 2 (s.rf aPaceDur 15 0))
  else s

/-- The mask of the paceable channels whose rate in force is the given one. -/
def Port.paceMask (x : Port) (rate : Nat) : Nat :=
  sumNat (paceChans.map (fun c => if x.paceRate c.2 = rate then 2 ^ c.1 else 0))

/-- Change the rates of port p by f, and send a PACE for each channel whose rate in force changed; one
PACE names every channel paced at the same rate (R161). -/
def State.setPace (s : State) (p : Nat) (f : Port → Port) : State :=
  let x := s.port p
  let y := f x
  let s := s.setPort p y
  let moved := paceChans.filter (fun c => x.paceRate c.2 ≠ y.paceRate c.2)
  let rates := (moved.map (fun c => y.paceRate c.2)).eraseDups
  rates.foldl (fun s r =>
    s.paceSend p (if r = 0 then sumNat ((moved.filter (fun c => y.paceRate c.2 = 0)).map (fun c => 2 ^ c.1))
      else y.paceMask r) r) s

end Sys2Proof.Machine
end

