-- ==== Sys2Proof/Machine/Mem.lean ====
section
/-!
DEFINITION. Sys2Proof/Machine/Mem.lean: the HBM address space: its regions and stacks (R234, R235, R237),
reading and writing it, and the bench and registers of a hardware context.
-/

namespace Sys2Proof.Machine

/-! ### Regions and stacks -/

/-- One GiB. -/
def gib : Nat := 2 ^ 30
/-- The fields of a SEQ_REGION value (R265). -/
def regionGen (w : Word) : Nat := fld w 8 0 * gib
def regionMir (w : Word) : Nat := fld w 15 9 * gib
def regionStacks (w : Word) : List Nat := bitList 8 (fld w 31 24)
/-- End of the general region, and of the mirror region (R234). -/
def State.genEnd (s : State) : Nat := regionGen (s.reg aSeqRegion)
def State.mirEnd (s : State) : Nat := s.genEnd + regionMir (s.reg aSeqRegion)
/-- The stacks of the general and mirror regions. -/
def State.genStacks (s : State) : List Nat := regionStacks (s.reg aSeqRegion)
/-- The relay staging buffers are the top 64 MiB of the general region (R489). -/
def State.relayBase (s : State) : Nat := s.genEnd - 2 ^ 26
/-- The fabric window (R266), as addresses. -/
def State.fabBase (s : State) : Nat := s.rf aFabWin 15 0 * 2 ^ 24
def State.fabLimit (s : State) : Nat := s.rf aFabWin 31 16 * 2 ^ 24
/-- Bytes of HBM. -/
def hbmBytes : Nat := 2 ^ 39

/-- Sequence frames of stack n (R237). -/
def State.stackFrames (s : State) (n : Nat) : Nat :=
  if s.genStacks.contains n then 1048576 - s.mirEnd / (max 1 s.genStacks.length * 65536) else 1048576

/-- The first frame of stack n's block (R237). -/
def State.stackBase (s : State) (n : Nat) : Nat :=
  s.mirEnd / 65536 + sumNat ((List.range n).map s.stackFrames)

/-- The stack of a sequence frame (R237). -/
def State.frameStack (s : State) (f : Nat) : Nat :=
  ((List.range 8).find? (fun n => decide (f < s.stackBase (n + 1)))).getD 7

/-- The stack that holds an address (R235, R237). -/
def State.stackOf (s : State) (a : Nat) : Nat :=
  if a < s.mirEnd then
    let unit := if s.rf aSeqRegion 23 23 = 1 then 65536 else 4096
    s.genStacks.getD (a / unit % max 1 s.genStacks.length) 0
  else s.frameStack (a / 65536)

/-! ### Bytes -/

/-- What a byte of memory that nothing has written reads as (DESIGN CHOICE, log entry 4). -/
def memZero (_ : Nat) : Byte := 0

/-- One byte of HBM. -/
def State.memByte (s : State) (a : Nat) : Byte := tabGet memZero s.mem a

/-- n bytes of HBM from address a. -/
def State.memGet (s : State) (a n : Nat) : List Byte := tabGetList memZero s.mem a n

/-- Count HBM bytes moved, in units of 64 bytes, on the stack of an address (code 0x87 of R526), and
wake a stack in self-refresh (R42). -/
def State.memUse (s : State) (a n : Nat) : State :=
  let k := s.stackOf a
  (if n = 0 then s else s.ctrBank (aCntDev 0) 16 0x87 (ceilDiv n 64) (fun q => bit q k)).wake (dHbm k)

/-- Write bytes to HBM at address a. -/
def State.memPut (s : State) (a : Nat) (l : List Byte) : State :=
  { s with mem := tabSetList memZero s.mem a l }

/-- Write bytes as an access: counted, and the stack woken. -/
def State.memStore (s : State) (a : Nat) (l : List Byte) : State := (s.memUse a l.length).memPut a l

/-- Read bytes as an access. -/
def State.memLoad (s : State) (a n : Nat) : List Byte × State := (s.memGet a n, s.memUse a n)

/-- A byte of n from an address has an uncorrectable error. -/
def badIn (l : List Nat) (a n : Nat) : Bool := l.any (fun b => decide (a ≤ b) && decide (b < a + n))

/-- An uncorrectable read of HBM is counted in HBM_ECC (R577). -/
def State.eccBump (s : State) (a : Nat) : State := s.bump (aHbmEcc (s.stackOf a)) 15 1 1

/-- Clear a range of HBM. -/
def State.memClear (s : State) (a n : Nat) : State :=
  { s with mem := tabClear (fun k => decide (a ≤ k) && decide (k < a + n)) s.mem }

/-! ### Contexts and work items -/

/-- A context with no work item. -/
def ctxReset : Ctx where
  item := none
  pc := 0
  s := []
  v := []
  t := []
  p := []
  fp8 := 2
  rmode := 0
  flags := 0
  bench := []
  benchBad := []
  wait := .no
  copies := []
  nextK := 0
  joins := []
  calls := 0
  callFails := []
  sample := none

/-- Context x is context x mod 4 of shuttle x div 4 (R271). -/
def State.ctx (s : State) (x : Nat) : Ctx := tabGet (fun _ => ctxReset) s.ctxs x
def State.setCtx (s : State) (x : Nat) (c : Ctx) : State :=
  { s with ctxs := tabSet (fun _ => ctxReset) s.ctxs x c }
def State.updCtx (s : State) (x : Nat) (f : Ctx → Ctx) : State := s.setCtx x (f (s.ctx x))

/-- The cluster and the shuttle within it of a context. -/
def ctxCluster (x : Nat) : Nat := x / 128
def ctxShuttle (x : Nat) : Nat := x / 4 % 32

/-- A work item by its number. -/
def State.item (s : State) (i : Nat) : Option Item := s.shed.items.find? (fun y => decide (y.id = i))
def State.updItem (s : State) (i : Nat) (f : Item → Item) : State :=
  { s with shed := { s.shed with items := updFirst (fun y => decide (y.id = i)) f s.shed.items } }

/-- The work item of a context. -/
def State.ctxItem (s : State) (x : Nat) : Option Item := (s.ctx x).item.bind s.item

/-- A resident or loading image beyond its register words. -/
def State.image (s : State) (i : Nat) : Option Image := tabGet (fun _ => none) s.shed.images i
def State.setImage (s : State) (i : Nat) (im : Option Image) : State :=
  { s with shed := { s.shed with images := tabSet (fun _ => none) s.shed.images i im } }
/-- STATE of PLN_IMAGE_j (R296): 0 FREE, 1 LOADING, 2 RESIDENT, 3 DRAINING. -/
def State.imgState (s : State) (i : Nat) : Nat := s.rf (aImage i 0) 31 29
def State.imgService (s : State) (i : Nat) : Bool := s.rf (aImage i 0) 28 28 = 1

/-- Bytes of the bench allocation of a context's work item (R301, BENCH_SIZE). -/
def State.benchSize (s : State) (x : Nat) : Nat :=
  match s.ctxItem x with
  | some it => match s.image it.image with
    | some im => im.granules * 8192
    | none => 0
  | none => 0

/-- Bench bytes of context x. -/
def State.benchGet (s : State) (x off n : Nat) : List Byte := tabGetList memZero (s.ctx x).bench off n
def State.benchPut (s : State) (x off : Nat) (l : List Byte) : State :=
  s.updCtx x (fun c => { c with bench := tabSetList memZero c.bench off l })

/-- A scalar register; s0 reads as 0 (R297). -/
def Ctx.sreg (c : Ctx) (i : Nat) : BitVec 64 := if i = 0 then 0 else tabGet (fun _ => 0) c.s i
/-- Write a scalar register; a write to s0 is discarded. -/
def Ctx.setS (c : Ctx) (i : Nat) (v : BitVec 64) : Ctx :=
  if i = 0 then c else { c with s := tabSet (fun _ => 0) c.s i v }
/-- Write a scalar register of context x. -/
def State.setS (s : State) (x i : Nat) (v : Nat) : State := s.updCtx x (·.setS i (BitVec.ofNat 64 v))

/-- A shuttle counter sees an event of context x (codes 0x01 to 0x0A; CTX_MASK of R526). -/
def State.evShu (s : State) (x code n : Nat) (qual : Nat → Bool) : State :=
  if n = 0 then s
  else
    let bank := aShuCnt (ctxCluster x) (ctxShuttle x) 0
    (List.range 4).foldl (fun s j =>
      if s.ctrSees bank j code qual && s.rf (bank + 0x10 * j) (23 + x % 4) (23 + x % 4) = 1 then
        let base := bank + 0x10 * j
        let s := if 2 ^ 48 ≤ s.ctr base + n ∧ s.rf base 28 28 = 1 ∧ s.rf base 29 29 = 0 ∧ s.rf (base + 0xC) 31 0 ≠ 0 then
            s.updCtx x (fun c => { c with sample := some (j, s.aon) })
          else s
        s.ctrAdd 4 base (if s.rf base 30 30 = 1 then n else 1)
      else s) s

end Sys2Proof.Machine
end

