-- ==== Sys2Proof/Machine/Flags.lean ====
section
/-!
DEFINITION. Sys2Proof/Machine/Flags.lean: the floating-point arithmetic of Dapor with the exception flags
each operation sets (R302, R309, R331, R332, R334, R338), and FPFLAGS.
-/

namespace Sys2Proof.Machine

/-! ### FPFLAGS (R302, R309) -/

/-- Set the flags that an operation raised; they are sticky. -/
def Ctx.raise (c : Ctx) (fl : Nat) : Ctx := { c with flags := (c.flags ||| fl) % 32 }

/-- The flags of a list of results. -/
def orFlags (l : List (Nat × Nat)) : Nat := l.foldl (fun a r => a ||| r.2) 0

/-- A signaling NaN: IEEE 754 makes it raise INVALID in an arithmetic operation. -/
def Fmt.snan (f : Fmt) (w : Nat) : Bool :=
  decide (f.kind = 0) && decide (f.dec w = .nan) && !bit w (f.mbits - 1)

/-- Add INVALID for signaling operands. -/
def Fmt.sig (f : Fmt) (ws : List Nat) (r : Nat × Nat) : Nat × Nat :=
  if ws.any f.snan then (r.1, r.2 ||| flInvalid) else r

/-! ### Settings of a context -/

/-- What an overflow into fp8 gives by FP8MODE.SAT (R302): the largest finite value, or NaN for E4M3 and
infinity for E5M2; other formats overflow by IEEE 754. -/
def Ctx.how (c : Ctx) (f : Fmt) : Nat :=
  if f.width ≠ 8 then 0 else if bit c.fp8 1 then 1 else if f.kind = 1 then 2 else 3

/-- The format that element type 4 stands for (R302). -/
def Ctx.fp8Fmt (c : Ctx) : Fmt := if bit c.fp8 0 then fE5M2 else fE4M3

/-- The floating-point format of an element type 4 to 7 (R308). -/
def Ctx.fmt (c : Ctx) (et : Nat) : Fmt :=
  if et = 4 then c.fp8Fmt else if et = 5 then fBF16 else if et = 6 then fFP16 else fFP32

/-- Bits of an element of a type (R308). -/
def etBits (et : Nat) : Nat :=
  if et = 0 ∨ et = 4 then 8 else if et = 1 ∨ et = 5 ∨ et = 6 then 16 else if et = 3 then 64 else 32

/-! ### Arithmetic (R331, R334) -/

/-- The value with its sign cleared, inverted, or taken from b; a NaN gives the canonical NaN. -/
def Fmt.signOp (f : Fmt) (k a b : Nat) : Nat :=
  let top := 2 ^ (f.ebits + f.mbits)
  if f.dec a = .nan then f.qnan
  else
    let neg := if k = 7 then false else if k = 8 then !bit a (f.ebits + f.mbits) else bit b (f.ebits + f.mbits)
    a % top + (if neg then top else 0)

/-- FOP and VFP functions 0 to 9: the result and its flags. -/
def Fmt.arith (f : Fmt) (mode how k a b : Nat) : Nat × Nat :=
  match k with
  | 0 => f.sig [a, b] (f.fadd mode a b how)
  | 1 => f.sig [a, b] (f.fsub mode a b how)
  | 2 => f.sig [a, b] (f.fmul mode a b how)
  | 3 => f.sig [a, b] (f.fdiv mode a b how)
  | 4 => f.sig [a] (f.fsqrt mode a)
  | 5 => f.sig [a, b] (f.fminmax false a b, 0)
  | 6 => f.sig [a, b] (f.fminmax true a b, 0)
  | _ => (f.signOp k a b, 0)

/-- d + a × b or d − a × b with one rounding. -/
def Fmt.fused (f : Fmt) (mode how : Nat) (sub : Bool) (d a b : Nat) : Nat × Nat :=
  let a' := if sub ∧ f.dec a ≠ .nan then a ^^^ 2 ^ (f.ebits + f.mbits) else a
  f.sig [d, a, b] (f.fma mode a' b d how)

/-- The exact sum of a value and a list of products, rounded once to FP32: INVALID for ∞ × 0 and
∞ − ∞ (R334, R348). -/
def dotSum (mode : Nat) (acc : Fp) (l : List (Fp × Fp)) : Nat × Nat :=
  let ps := l.map (fun x => x.1.mul x.2)
  let bad := (l.zip ps).any (fun x => decide (x.2 = .nan) && decide (x.1.1 ≠ .nan) && decide (x.1.2 ≠ .nan))
  let r := ps.foldl (fun a p => a.add mode p) acc
  let (w, fl) := fFP32.fin mode 0 (acc :: ps) r
  (w, if bad then fl ||| flInvalid else fl)

/-! ### Comparison (R331, R335) -/

/-- The relations 0 EQ, 1 NE, 2 LT, 3 LE, 4 GT, 5 GE, 8 UNORD, with INVALID for an ordering of a NaN. -/
def Fmt.cmp (f : Fmt) (k a b : Nat) : Bool × Nat :=
  let x := f.dec a
  let y := f.dec b
  let un := decide (x = .nan) || decide (y = .nan)
  match k with
  | 0 => (!un && x.eq y, 0)
  | 1 => (un || !x.eq y, 0)
  | 2 => (!un && x.lt y, if un then flInvalid else 0)
  | 3 => (!un && !y.lt x, if un then flInvalid else 0)
  | 4 => (!un && y.lt x, if un then flInvalid else 0)
  | 5 => (!un && !x.lt y, if un then flInvalid else 0)
  | _ => (un, 0)

/-! ### Conversion (R332, R338) -/

/-- A number format of a conversion: an integer of n bits, or a floating-point format. -/
inductive Num where
  | int (n : Nat) (sgn : Bool)
  | flt (f : Fmt)
  deriving DecidableEq, Repr

/-- Bits of a format. -/
def Num.width : Num → Nat
  | .int n _ => n
  | .flt f => f.width

/-- A whole number held in an integer format. -/
def intVal (n : Nat) (sgn : Bool) (w : Nat) : Int := if sgn then toSigned n w else ((w % 2 ^ n : Nat) : Int)

/-- A decoded value as an integer of n bits: rounded, saturated; NaN gives 0 (R332). -/
def toIntSat (mode n : Nat) (sgn : Bool) (v : Fp) : Nat × Nat :=
  match v with
  | .nan => (0, flInvalid)
  | .inf neg => (ofSigned n (if neg then intMin n sgn else intMax n sgn), flInvalid)
  | .fin neg m e =>
    let (q, inex) := roundUnit mode neg m e 0 false
    let i := signed neg q
    if i < intMin n sgn then (ofSigned n (intMin n sgn), flInvalid)
    else if intMax n sgn < i then (ofSigned n (intMax n sgn), flInvalid)
    else (ofSigned n i, if inex then flInexact else 0)

/-- Convert between formats: the bits and the flags.  An integer that does not fit a narrower integer has
no stated result (DESIGN CHOICE, log entry 24). -/
def convert (mode how : Nat) (src dst : Num) (w : Nat) : Nat × Nat :=
  match src, dst with
  | .int n sg, .int m tg =>
    let i := intVal n sg w
    if intMin m tg ≤ i ∧ i ≤ intMax m tg then (ofSigned m i, 0) else (Config.narrow m w % 2 ^ m, 0)
  | .int n sg, .flt g => g.enc mode how (.ofInt (intVal n sg w))
  | .flt f, .int m tg => toIntSat mode m tg (f.dec w)
  | .flt f, .flt g =>
    let (r, fl) := g.enc mode how (f.dec w)
    f.sig [w] (r, fl)

end Sys2Proof.Machine
end

