-- ==== Sys2Proof/Machine/Own.lean ====
section
/-!
DEFINITION. Sys2Proof/Machine/Own.lean: the device as a source of flows: its window contexts, the requests
it issues in them and how they end (R127, R138, R258, R356 to R363), and the throttling of its own
injection (R159, R160).
-/

namespace Sys2Proof.Machine

/-- A source window context that holds no window. -/
def srcReset : SrcWin where
  state := .closed
  image := none
  item := none
  dst := 0
  fsn := 0
  pkts := 0
  reqPicks := 0
  rspPicks := 0
  spray := false
  failed := 0
  fails := []
  ops := []
  aged := []
  limit := 0

def State.src (s : State) (w : Nat) : SrcWin := tabGet (fun _ => srcReset) s.flows.srcs w
def State.setSrc (s : State) (w : Nat) (x : SrcWin) : State :=
  { s with flows := { s.flows with srcs := tabSet (fun _ => srcReset) s.flows.srcs w x } }
def State.updSrc (s : State) (w : Nat) (f : SrcWin → SrcWin) : State := s.setSrc w (f (s.src w))

/-- The context of the MIRROR flow, which no image declares (DESIGN CHOICE, log entry 20). -/
def mirrorCtx : Nat := 8192

/-- The number under which a work item's local calls stand among its windows. -/
def localWin : Nat := 8193

/-- The FLOW of a context: its number, with bit 15 equal to FLOW_PARITY (R258, R356). -/
def State.flowOf (s : State) (w : Nat) : Nat := w + 32768 * s.rf aDvt 22 22

/-- The context that a FLOW of this device names. -/
def State.ctxOf (s : State) (flow : Nat) : Option Nat :=
  if flow / 32768 = s.rf aDvt 22 22 ∧ flow % 32768 ≤ 8192 then some (flow % 32768) else none

/-! ### Form operation fields -/

/-- Form M (R97). -/
def opM (addr size aop status opnd0 opnd1 : Nat) : List Byte :=
  leBytes 8 addr ++ leBytes 4 size ++ leBytes 1 aop ++ leBytes 1 0 ++ leBytes 2 status ++
    leBytes 8 opnd0 ++ leBytes 8 opnd1
/-- Form W (R100). -/
def opW (pkts req rsp spray status : Nat) : List Byte :=
  leBytes 4 pkts ++ leBytes 4 req ++ leBytes 4 rsp ++ leBytes 1 spray ++ leBytes 1 0 ++ leBytes 2 status

/-- The device's HBM tag in a packet's ADDR (R99, R303). -/
def hbmTag : Nat := 2 ^ 60

/-! ### Throttling (R159) -/

/-- The throttling level of a cluster now. -/
def State.injNow (s : State) (c : Nat) : Nat := s.injLevelAt c (s.occPct c)

/-- A new packet of a class may be injected: REQ below the stop level, BULK below the slow level; the gap
between REQ packets while slowed is timing (R159). -/
def State.mayInject (s : State) (c : Nat) (bulk : Bool) : Bool :=
  let l := s.injNow c
  if bulk then decide (l = 0) else decide (l < 2)

/-! ### Issuing -/

/-- The buffer of an originated packet: drawn unreserved in the smallest class that holds it (R185, R186);
a draw that cannot be served leaves the issue waiting.  `key` names the waiter. -/
def State.injBuffer (s : State) (c key len : Nat) : Bool × State :=
  if len = 0 then (true, s)
  else if (s.pool c).held.any (fun b => b.holder = .item key) then (true, s)
  else
    let (h, s) := s.poolDrawBytes c (64 * len) (.item key)
    (h.isSome, s)

/-- Emit a packet and hand it the buffer drawn for it. -/
def State.emitHeld (s : State) (c key : Nat) (p : Pkt) : State :=
  let pid := s.sw.nextPid
  let s := s.emit c p
  s.setPool c { s.pool c with held := (s.pool c).held.map (fun b =>
    if b.holder = .item key then { b with holder := .inject pid } else b) }

/-- The request picks and the largest response of a request (R127, rules 4 and 5). -/
def rspOf (typ size : Nat) : Nat :=
  if typ = 2 then 1 + ceilDiv size 64 else if typ = 4 then 65 else 1

/-- The requests of a window that have had no response (R127, rules 3 to 5): those that aged are among them. -/
def SrcWin.unanswered (x : SrcWin) : List Op := x.aged ++ x.ops

/-- The window allows the packet under R127, rules 3 to 5. -/
def SrcWin.allows (x : SrcWin) (picks rsp : Nat) : Bool :=
  (0 :: x.unanswered.map (fun o => (x.fsn + 2 ^ 24 - o.fsn) % 2 ^ 24)).all (fun d => decide (d < x.pkts)) &&
  decide (sumNat (x.unanswered.map (·.picks)) + picks ≤ x.reqPicks) &&
  decide (sumNat (x.unanswered.map (·.rsp)) + rsp ≤ x.rspPicks)

/-- A new operation waits for its response: what was noted of an earlier one of its numbers is no discard during
this wait (R108). -/
def State.freshWait (s : State) (flow fsn : Nat) : State :=
  { s with sw := { s.sw with e2eSeen := s.sw.e2eSeen.filter (fun e => e ≠ (flow, fsn)) } }

/-- Send a request in an open window with its next FSN; PINNED exactly when the grant had SPRAY = 0. -/
def State.sendReq (s : State) (c key w typ : Nat) (fence : Bool) (kind : OpKind) (size : Nat)
    (op data : List Byte) : State :=
  let x := s.src w
  let picks := 1 + ceilDiv data.length 64
  let s := s.setSrc w { x with
    fsn := (x.fsn + 1) % 2 ^ 24
    ops := x.ops ++ [⟨x.fsn, kind, picks, rspOf typ size, size, s.rf aOpTimeout 15 0⟩] }
  let s := s.freshWait (s.flowOf w) x.fsn
  s.emitHeld c key (mkPkt x.dst s.selfEid typ false (!x.spray) fence (s.flowOf w) x.fsn op data)

/-- Ask for a window: WOPEN from a free context (R127, rule 2; R356). -/
def State.wopen (s : State) (c w dst : Nat) (item : Option Nat) (pkts req rsp : Nat) (spray : Bool) :
    State :=
  let x := s.src w
  let s := s.setSrc w { x with
    state := .opening, item := item, dst := dst, pkts := pkts, reqPicks := req, rspPicks := rsp,
    spray := spray, failed := 0, fails := [], ops := [], aged := [], limit := s.rf aOpTimeout 15 0 }
  let s := s.freshWait (s.flowOf w) x.fsn
  s.emit c (mkPkt dst s.selfEid 5 false false false (s.flowOf w) x.fsn
    (opW pkts req rsp (b2n spray) 0) [])

/-- Close a window: WCLOSE with the next unused FSN, and the context is free (R127, rule 6; R359). -/
def State.wclose (s : State) (c w : Nat) : State :=
  let x := s.src w
  let s := s.emit c (mkPkt x.dst s.selfEid 6 false (!x.spray) false (s.flowOf w) x.fsn (opW 0 0 0 0 0) [])
  s.setSrc w { srcReset with image := x.image, fsn := x.fsn }

/-- The cluster a context's packets leave from: that of the item holding it. -/
def State.srcCluster (s : State) (w : Nat) : Nat :=
  match (s.src w).item.bind s.item with
  | some it => (it.runs.map ctxCluster).getD it.cluster
  | none => plinthCluster

/-- Close a window when its last operation has ended (R317, step 2). -/
def State.wcloseWhenDone (s : State) (w : Nat) : State :=
  let x := s.src w
  if x.state = .closing ∧ x.ops = [] then s.wclose (s.srcCluster w) w else s

/-! ### The end of an operation (R358, R360, R363) -/

/-- What a response brings: its status, its operation fields and its payload. -/
structure Rsp where
  status : Nat
  op     : List Byte
  data   : List Byte
  deriving DecidableEq, Repr

/-- Write what a completed operation brings to the bench of the work item that issued it. -/
def State.opDeliver (s : State) (item : Option Nat) (o : Op) (r : Rsp) : State :=
  match item.bind s.item with
  | some it =>
    match it.runs with
    | some x =>
      match o.kind with
      | .get dest => if r.status = stOk then s.benchPut x dest (r.data.take o.size) else s
      | .atomic b => if r.status = stOk then s.benchPut x b (leBytes 8 (field r.op 16 o.size)) else s
      | .call b =>
        let s := s.benchPut x b r.op
        let s := s.benchPut x (b + 40) (leBytes 1 (r.data.length / 64))
        s.benchPut x (b + 64) r.data
      | _ => s
    | none => s
  | none => s

/-- Note that a window of a work item has a failure to report (R359, R377). -/
def State.noteFail (s : State) (item : Option Nat) (w : Nat) : State :=
  match item with
  | some i => s.updItem i (fun y => { y with failed := if y.failed.contains w then y.failed else y.failed ++ [w] })
  | none => s

/-- An operation that serves the device itself leaves its end to be collected. -/
def State.opRecord (s : State) (o : Op) (r : Rsp) : State :=
  match o.kind with
  | .put => s
  | .get _ => s
  | .atomic _ => s
  | .call _ => s
  | k => { s with flows := { s.flows with ends := s.flows.ends ++ [⟨k, r.status, r.data⟩] } }

/-- A CALL to a lender's LEND entry. -/
def OpKind.isLend : OpKind → Bool
  | .lend _ _ _ => true
  | _ => false

/-- How an operation ends: its response has come, it timed out, which marks the window FAILED (R358), or its request
aged in the device (R170). -/
inductive OpHow where
  | answered
  | timedOut
  | aged
  deriving DecidableEq, Repr

/-- A response that no outstanding operation awaits is dropped and counted (R157, R317). -/
def State.lateRsp (s : State) (how : OpHow) : State :=
  if how = .answered then
    { s with flows := { s.flows with drops := { s.flows.drops with late := s.flows.drops.late + 1 } } }
  else s

/-- End the operation that a FLOW and FSN name.  What ends for a work item that has ended is dropped (R317). -/
def State.opEnd (s : State) (dst flow fsn : Nat) (how : OpHow) (r : Rsp) : State :=
  match s.ctxOf flow with
  | none => s.lateRsp how
  | some w =>
    let x := s.src w
    match x.ops.find? (fun o => decide (o.fsn = fsn)) with
    | none => s.lateRsp how
    | some o =>
      if x.dst ≠ dst then s.lateRsp how
      else
        let live := x.state = .opened
        -- the answer of a LEND is not its item's but its slot's (R253)
        let gone := x.item.any (fun i => (s.item i).isNone) && !o.kind.isLend
        let s := s.setSrc w { x with
          ops := delFirst (fun y => decide (y.fsn = fsn)) x.ops
          fails := if r.status = stOk then x.fails else x.fails ++ [r.status]
          failed := if how = .timedOut then r.status else x.failed
          aged := if how = .aged then x.aged ++ [o] else x.aged }
        let s := if r.status = stOk ∨ x.own then s else s.noteFail x.item w
        let s := if live then s.opDeliver x.item o r else s
        (if gone then s.lateRsp how else s.opRecord o r).wcloseWhenDone w

/-- Take the end of an operation the device issued for itself. -/
def State.takeEnd (s : State) (k : OpKind) : Option (OpEnd × State) :=
  (s.flows.ends.find? (fun e => decide (e.kind = k))).map (fun e =>
    (e, { s with flows := { s.flows with ends := delFirst (fun y => decide (y.kind = k)) s.flows.ends } }))

/-- The window a work item has opened toward a destination, in any state but closed. -/
def State.winTo (s : State) (item dst : Nat) : Option Nat :=
  (s.flows.srcs.find? (fun e => decide (e.2.item = some item) && !e.2.own && decide (e.2.dst = dst) &&
    (decide (e.2.state = .opened) || decide (e.2.state = .opening)))).map (·.1)

/-- The lowest free window context of an image (R356). -/
def State.freeCtx (s : State) (image : Nat) : Option Nat :=
  (s.flows.srcs.find? (fun e => decide (e.2.image = some image) && decide (e.2.state = .closed))).map (·.1)

end Sys2Proof.Machine
end

