-- ==== Sys2Proof/Machine/Join.lean ====
section
/-!
DEFINITION. Sys2Proof/Machine/Join.lean: the join records of a context (R365 to R369): their descriptors, and the
contributions that the device sends for them out of the image's buffers.
-/

namespace Sys2Proof.Machine

def State.join (s : State) (x j : Nat) : Option Join := tabGet (fun _ => none) (s.ctx x).joins j
def State.setJoin (s : State) (x j : Nat) (v : Option Join) : State :=
  s.updCtx x (fun c => { c with joins := tabSet (fun _ => none) c.joins j v })

/-- Fields of a join descriptor (R366). -/
def Join.fmt (j : Join) : Nat := byteAt j.desc 0
def Join.outFmt (j : Join) : Nat := byteAt j.desc 1
def Join.win (j : Join) : Nat := byteAt j.desc 2
def Join.d (j : Join) : Nat := field j.desc 4 2
def Join.first (j : Join) : Nat := field j.desc 8 4
def Join.count (j : Join) : Nat := field j.desc 12 4
def Join.e (j : Join) : Nat := field j.desc 16 4
def Join.inst (j : Join) : Nat := field j.desc 20 4
def Join.dataOfs (j : Join) : Nat := field j.desc 24 4
def Join.recvOfs (j : Join) : Nat := field j.desc 28 4
/-- C: chunks of the instance; elements of chunk k; bytes of n elements of a format. -/
def Join.c (j : Join) : Nat := if j.e = 0 then 1 else ceilDiv j.inst j.e
def Join.elems (j : Join) (k : Nat) : Nat := if j.e = 0 then 0 else min j.e (j.inst - k * j.e)
def Join.bytes (j : Join) (f n : Nat) : Nat := ceilDiv n (max 1 (unitOf f j.d).1) * (unitOf f j.d).2
/-- Elements this member receives of chunk k (R368). -/
def Join.expects (j : Join) (k : Nat) : Nat :=
  if bit (byteAt j.desc 3) 0 then
    if field j.desc 32 4 ≤ k ∧ k < field j.desc 32 4 + field j.desc 36 4 then j.elems k else 0
  else j.elems k
/-- A join of a GATE has no descriptor. -/
def Join.isGate (j : Join) : Bool := j.desc.isEmpty

/-- Chunk k of the join is complete; its result counts by the elements that have come, the empty result
by one. -/
def Join.chunkHas (j : Join) (k : Nat) : Bool :=
  let n := tabGet (fun _ => 0) j.got k
  decide (0 < n) && decide (j.expects k < n)

/-- Buffers of an image in use in a cluster for its packets, handles and calls, and free (R185). -/
def State.imgUsed (s : State) (c i k : Nat) : Nat :=
  ((s.pool c).held.filter (fun b => decide (b.cls = k) && b.rsvd &&
    match b.holder with | .image y => decide (y = i) | .imgPkt y _ => decide (y = i) | _ => false)).length
def State.imgFree (s : State) (c i k : Nat) : Bool := decide (s.imgUsed c i k < (s.pool c).rsvBy (.image i) k)

/-- The packets of one contributed chunk (R367): element offset, elements, bytes. -/
def Join.pieces (j : Join) (data : List Byte) (n : Nat) : List (Nat × Nat × List Byte) :=
  let u := unitOf j.fmt j.d
  let per := max 1 (4096 / max 1 u.2)
  if n = 0 then [(0, 0, [])]
  else (List.range (ceilDiv (ceilDiv n (max 1 u.1)) per)).map (fun i =>
    let first := i * per * u.1
    let cnt := min (per * u.1) (n - first)
    (first, cnt, slice data (i * per * u.2) (ceilDiv cnt (max 1 u.1) * u.2)))

/-- The class a reserved draw of an image takes for n bytes: the smallest that holds them and that the image has
reserved (R185, R367). -/
def State.imgClass (s : State) (c i n : Nat) : Option Nat :=
  (List.range 5).find? (fun k => decide (classFor n ≤ k) && decide (0 < (s.pool c).rsvBy (.image i) k))

/-- Send one contribution packet of the image's reservation, if a buffer of it is free. -/
def State.contribPkt (s : State) (x im : Nat) (j : Join) (k ofs n : Nat) (data : List Byte) : Option State :=
  let c := ctxCluster x
  let p := mkPkt j.eid s.selfEid 0x10 false false false 0 0 (opC j.group j.member k ofs j.fmt j.epoch 0 n) data
  if data = [] then some (s.emit c p)
  else
    match s.imgClass c im data.length with
    | some k =>
      if s.imgFree c im k then
        let pid := s.sw.nextPid
        some ((s.poolDraw c k true (.imgPkt im pid)).2.emit c p)
      else none
    | none => none

/-- Send the contributions that the window of R367 and the image's buffers allow.  `sent` counts packets
already sent, over all chunks in order. -/
def State.joinSend (s : State) (x jn : Nat) : State :=
  match s.join x jn, s.ctxItem x with
  | some j, some it =>
    if j.status.isSome || j.isGate then s
    else
      let plan := (List.range j.count).flatMap (fun i =>
        let k := j.first + i
        let n := j.elems k
        let data := s.benchGet x (j.dataOfs + i * j.bytes j.fmt j.e) (j.bytes j.fmt n)
        (j.pieces data n).map (fun q => (k, q)))
      let (s, sent, _) := (plan.drop j.sent).foldl (fun (a : State × Nat × Bool) y =>
        if !a.2.2 then a
        else if y.1 < j.win ∨ (List.range (y.1 - j.win + 1)).all j.chunkHas then
          match a.1.contribPkt x it.image j y.1 y.2.1 y.2.2.1 y.2.2.2 with
          | some t => (t, a.2.1 + 1, true)
          | none => (a.1, a.2.1, false)
        else (a.1, a.2.1, false)) (s, j.sent, true)
      s.setJoin x jn (some { j with sent := sent })
  | _, _ => s

/-- A buffer of an image's reservation in a cluster is free again: what its joins there have still to send goes on
(R367). -/
def State.joinsGo (s : State) (c im : Nat) : State :=
  let l := s.ctxs.filter (fun e => decide (ctxCluster e.1 = c) && (s.ctxItem e.1).any (fun it => decide (it.image = im)))
  l.foldl (fun s e => e.2.joins.foldl (fun s y => s.joinSend e.1 y.1) s) s

/-- Images that hold buffers of a cluster for a packet of theirs. -/
def Pool.imagesOf (x : Pool) (pid : Nat) : List Nat :=
  x.held.filterMap (fun b => match b.holder with | .imgPkt i p => if p = pid then some i else none | _ => none)

end Sys2Proof.Machine
end

