-- ==== Sys2Proof/Machine/Switch.lean ====
section
/-!
DEFINITION. Sys2Proof/Machine/Switch.lean: packets in the crossbar (chapters 05 and 06): the checks and the
choice of an output when a header reaches the head of its queue, multicast copies, the selvedge escape,
the age limit and the port-down flush.
-/

namespace Sys2Proof.Machine

/-- n data picks and `h` header picks of packet k leave its input buffer (R62, R185): they count in F
unless the link they came over has been rebuilt since (R72, R78). -/
def State.freeOf (s : State) (k : QPkt) (h n : Nat) : State :=
  if k.inq < 128 then
    let s := s.picksOut k.inq k.vc n
    if k.stale then s
    else s.updPort k.inq (fun x =>
      { x with fCnt := x.fCnt.set k.vc ((x.fCnt.getD k.vc 0 + h + n) % 65536) })
  else s

/-- Every pick of packet k that still stands in its input buffer leaves it: not those sent already, nor
those of zeros that the device put in (R169). -/
def State.freeRest (s : State) (k : QPkt) : State :=
  s.freeOf k (if k.sent = 0 then 1 else 0) (k.have - k.pad - max 1 k.sent)

/-- A packet chosen for an output keeps the input channel until its last pick has left (R62, R121): the
next header of queue q, channel v, has not reached the head.  A packet on the selvedge stands in the VC 6
queue of its output instead (R165). -/
def State.inBusy (s : State) (q v : Nat) : Bool :=
  decide (q < 128) && decide (v ≠ 6) &&
    s.sw.outq.any (fun e => e.2.any (fun k => decide (k.inq = q) && decide (k.vc = v)))

/-- A pick that is not kept in the input buffer is freed at once. -/
def State.freePick (s : State) (p v : Nat) : State :=
  s.updPort p (fun x => { x with fCnt := x.fCnt.set v ((x.fCnt.getD v 0 + 1) % 65536) })

/-- The head of the input or injection queue q, channel v. -/
def State.headOf (s : State) (q v : Nat) : Option QPkt := (s.inq q v).head?

/-- Take the head off its queue; its picks leave the input buffer. -/
def State.dropHead (s : State) (q v : Nat) : State :=
  match s.inq q v with
  | [] => s
  | k :: r => (s.setInq q v r).freeRest k

/-- Data picks a window holds: of packets held for FENCE, of payloads of CALLs not yet ended, and of responses that
have not left (R185). -/
def State.winPicks (s : State) (src dst flow : Nat) : Nat :=
  sumNat (((s.flows.wins.filter (fun w => decide (w.src = src) && decide (w.dst = dst) && decide (w.flow = flow))).map
    (fun w => sumNat (w.states.map (fun e => match e.2 with | .held k => hLen k.hdr | _ => 0))))) +
  sumNat ((s.windowItems src dst flow).map (fun i => ceilDiv i.payload.length 64))
def State.rspPicks (s : State) (src dst flow : Nat) : Nat :=
  sumNat ((s.sw.inq ++ s.sw.outq).map (fun e => sumNat (e.2.map (fun k =>
    if 128 ≤ k.inq ∧ hType k.hdr / 8 = 1 ∧ hDst k.hdr = src ∧ hSrc k.hdr = dst ∧ hFlow k.hdr = flow then
      hLen k.hdr - (k.sent - 1) else 0))))

/-- A window that has ended releases its reservation in cluster c but for the buffers of payloads of CALLs still
running: each of these work items keeps its own, four picks to a buffer (R130, R184). -/
def State.winRelease (s : State) (c src dst flow : Nat) : State :=
  let h : Holder := .window src dst flow
  let l := s.windowItems src dst flow
  let s := (s.poolFreeAll c h).poolRelease c h
  (l.foldl (fun (a : State × Nat) i =>
    let t := a.2 + ceilDiv i.payload.length 64
    let n := ceilDiv t 4 - ceilDiv a.2 4
    let s := a.1
    (if n = 0 then s
     else (s.setPool c { s.pool c with rsvs := (s.pool c).rsvs ++ [⟨.payload i.id, 0, n⟩] }).poolDrawN c 0
       (.payload i.id) n, t)) (s, 0)).1

/-- The buffers of a window's reservation follow what it holds, four picks to a buffer, requests and responses
apart, and never more than it has reserved (R184, R185). -/
def State.winSync (s : State) (src dst flow : Nat) : State :=
  let h : Holder := .window src dst flow
  match (List.range 8).find? (fun c => (s.pool c).rsvs.any (fun r => decide (r.holder = h))) with
  | none => s
  | some c =>
    if s.flows.wins.any (fun w => decide (w.src = src) && decide (w.dst = dst) && decide (w.flow = flow)) then
      s.poolHold c 0 h (min ((s.pool c).rsvBy h 0)
        (ceilDiv (s.winPicks src dst flow) 4 + ceilDiv (s.rspPicks src dst flow) 4))
    else s.winRelease c src dst flow

/-- A packet, or another copy of it, is still queued. -/
def State.pidQueued (s : State) (pid : Nat) : Bool :=
  s.sw.inq.any (fun e => e.2.any (fun k => decide (k.pid = pid))) ||
    s.sw.outq.any (fun e => e.2.any (fun k => decide (k.pid = pid)))

/-- A packet of the device's own is gone: its buffer is freed, which multicast copies share until the last of
them is gone (R142), and contributions that waited for it are sent (R367). -/
def State.pktGone (s : State) (k : QPkt) : State :=
  if k.inq < 128 ∨ s.pidQueued k.pid then s
  else
    let s := if hType k.hdr / 8 = 1 ∧ 0 < hLen k.hdr then
        s.winSync (hDst k.hdr) (hSrc k.hdr) (hFlow k.hdr) else s
    let s := s.poolFreeAll (k.inq - 128) (.inject k.pid)
    let x := s.pool (k.inq - 128)
    let s := s.setPool (k.inq - 128) { x with
      held := x.held.filter (fun b => match b.holder with | .imgPkt _ p => decide (p ≠ k.pid) | _ => true) }
    (x.imagesOf k.pid).foldl (fun s i => s.joinsGo (k.inq - 128) i) s

/-- Discard the head of a queue. -/
def State.discardHead (s : State) (q v : Nat) : State :=
  match s.headOf q v with
  | none => s
  | some k => (s.dropHead q v).pktGone k

/-- A copy of a result is gone without having left: each member that it stood for is reported to the reed as not
reached (R141, R168, R170), and the chunk no longer waits for it. -/
def State.copyLost (s : State) (k : QPkt) : State :=
  match k.mc with
  | some m =>
    (if m.2.2 = 0 then (List.range (k.only.getD [0]).length).foldl (fun s _ => s.unreached m) s else s).copyGone m
  | none => s

/-- Discard the head of a queue that no output can take: a result of this device leaves its member without a copy
(R225), and the chunk no longer waits for it. -/
def State.lostHead (s : State) (q v : Nat) : State :=
  match s.headOf q v with
  | none => s
  | some k => (s.discardHead q v).copyLost k

/-- A queued pick withdraws a REST request that is outstanding (R77). -/
def State.withdrawRest (s : State) (p : Nat) : State :=
  s.updPort p (fun x =>
    match x.holdReq with
    | some (.rest, _) => { x.answered 3 with holdReq := none }
    | _ => x)

/-- Put a packet at the end of an output queue; its picks reach the slice of that port (R42). -/
def State.toOut (s : State) (p v : Nat) (k : QPkt) : State :=
  ((s.setOutq p v (s.outq p v ++ [{ k with vc := v, sent := 0 }])).withdrawRest p).wake (dSw (p / 16))

/-- The head of a queue takes its place in the output queue of port p, channel v; its picks stay in the
input buffer until they leave the device (R62), but for the selvedge, whose output queue holds them (R165). -/
def State.forward (s : State) (q v p pv : Nat) : State :=
  match s.inq q v with
  | [] => s
  | k :: r => (if pv = 6 then s.dropHead q v else s.setInq q v r).toOut p pv k

/-- Sink the head of a queue. -/
def State.sinkHead (s : State) (q v : Nat) : State :=
  match s.headOf q v with
  | none => s
  | some k =>
    let s := (s.dropHead q v).pktGone k
    let s := { s with sw := { s.sw with sunk := s.sw.sunk ++ [k] } }
    match k.mc with | some m => s.copyGone m | none => s

/-- The head waits: its checks have been made. -/
def State.waitHead (s : State) (q v : Nat) : State :=
  match s.inq q v with
  | [] => s
  | k :: r => s.setInq q v ({ k with checked := true } :: r)

/-- Wake a port held for REST (R76, R125): the domains of the port are woken and WAKE is sent; out of
HOLD-dark the transmitter is lit with the wake pattern first.  A request for a deeper HOLD is withdrawn (R77). -/
def State.wakePort (s : State) (p : Nat) : State :=
  let x := s.port p
  if x.lstate ≠ .hold then s
  else
    let s := (s.wake (dSw (p / 16))).wake (dOpt (p / 8))
    let s := s.updPort p (fun x => { x.answered 3 with txOn := true, holdReq := none })
    if x.ctlWait.any (fun m => byteAt m 0 = 5) then s else s.ctlSend p 5 (leBytes 1 0)

/-- VC 6 room at a port (R165). -/
def State.selRoom (s : State) (p n : Nat) : Bool :=
  decide (sumNat ((s.outq p 6).map (fun k => k.total - k.sent)) + n ≤ 260)

/-! ### Multicast (R116, R141, R142) -/

/-- Change the copies still to leave of a chunk's result by the copies made of one packet. -/
def State.copiesMade (s : State) (mc : Nat × Nat × Nat) (n : Nat) : State :=
  if mc.2.2 ≠ 0 then s
  else if n = 0 then s.copyGone mc
  else s.updSlot mc.1 mc.2.1 (fun y => { y with copies := y.copies + (n - 1) })

/-- A member is left without a copy (R141). -/
def State.mcastLost (s : State) (mc : Option (Nat × Nat × Nat)) : State :=
  let s := s.bump (aFlowErr 2) 31 16 1
  match mc with
  | some m => if m.2.2 = 0 then s.unreached m else s
  | none => s

/-- The EDGE ports of a member's spray mask. -/
def State.edgeCand (s : State) (eid : Nat) : List Nat :=
  (s.sprayPorts eid).filter (fun p => s.portRole p = 1)

/-- Where each member's copy goes: a port, the device itself, a wait, or nowhere. -/
inductive CopyTo where
  | port (p : Nat)
  | own
  | waits (wake : Option Nat)
  | nowhere
  deriving DecidableEq, Repr

def State.copyTo (s : State) (h : List Byte) (eid : Nat) : CopyTo :=
  if s.isSelf eid then .own
  else
    let cand := s.edgeCand eid
    match s.choosePort cand (hVc h) h with
    | some p => .port p
    | none =>
      match s.noPort cand with
      | .wakePort p => .waits (some p)
      | .wait => .waits none
      | .discard => .nowhere

/-- Replicate the head of an injection queue to its members: one copy for each chosen port, one sunk for a
LOCAL member, none for a member that no port reaches; the members whose ports are held wait together, so that
those which come to choose one port share its copy (R141, R142). -/
def State.replicate (s : State) (q v : Nat) : State :=
  match s.headOf q v with
  | none => s
  | some k =>
    let g := hDst k.hdr % 1024
    if k.only.isNone ∧ s.rf (aMcast g 8) 31 31 = 0 then
      let s := ((s.bump aPktErr0 15 0 1).evDev 0x82 1).discardHead q v
      match k.mc with | some m => s.copiesMade m 0 | none => s
    else
      let dest := (k.only.getD (s.mcastMembers g)).map (fun e => (e, s.copyTo k.hdr e))
      let ports := (dest.filterMap (fun e => match e.2 with | .port p => some p | _ => none)).eraseDups
      let own := dest.any (fun e => decide (e.2 = .own))
      let waits := dest.filterMap (fun e => match e.2 with | .waits w => some (e.1, w) | _ => none)
      let lost := (dest.filter (fun e => decide (e.2 = .nowhere))).length
      let s := s.dropHead q v
      let s := ports.foldl (fun s p => s.toOut p v { k with
        checked := true, only := some (dest.filterMap (fun e => if e.2 = .port p then some e.1 else none)) }) s
      let s := if own then { s with sw := { s.sw with sunk := s.sw.sunk ++ [k] } } else s
      let s := if waits = [] then s
        else s.setInq q v ({ k with checked := true, only := some (waits.map (·.1)) } :: s.inq q v)
      let s := waits.foldl (fun s w => match w.2 with | some p => s.wakePort p | none => s) s
      let s := (List.range lost).foldl (fun s _ => s.mcastLost k.mc) (s.pktGone k)
      match k.mc with
      | some m => s.copiesMade m (ports.length + (if waits = [] then 0 else 1))
      | none => s

/-! ### Unicast routing (R112, R121 to R125, R165 to R167, R513) -/

/-- The packet leaves on a PAIR port without a lookup: every packet for the partner EID, whoever sends it, and
all that a standby originates (R18, R138, R513, R517). -/
def State.pairBound (s : State) (k : QPkt) : Bool :=
  s.paired && !hMcast k.hdr &&
    ((decide (128 ≤ k.inq) && decide (s.role = 2)) || decide (hDst k.hdr = s.partner))

/-- The head of an injection queue may enter the crossbar: WOPEN and WCLOSE wait while REQ injection is stopped
(R159), and a relayed Cuing segment until its buffer has been drawn (R185, R186). -/
def State.injectOk (s : State) (q : Nat) (k : QPkt) : Bool × State :=
  let t := hType k.hdr
  let c := q - 128
  if t = 5 ∨ t = 6 then (decide (s.injLevelAt c (s.occPct c) < 2), s)
  else if (t = 0x20 ∨ t = 0x21 ∨ t = 0x22) ∧ 0 < hLen k.hdr ∧
      (s.pool c).held.all (fun b => decide (b.holder ≠ .inject k.pid)) then
    let (h, s) := s.poolDrawBytes c (64 * hLen k.hdr) (.inject k.pid)
    (h.isSome, s)
  else (true, s)

/-- Choose the output of the head of a queue, or sink it, or make it wait, or discard it. -/
def State.routeHead (s : State) (q v : Nat) : State :=
  match s.headOf q v with
  | none => s
  | some k =>
    let h := k.hdr
    let eid := hDst h
    if s.pairBound k then
      match s.livePair with
      | some p => s.forward q v p (hVc h)
      | none => s.waitHead q v
    else if s.selfEid = 0xFFFF ∧ q < 128 ∧ !s.fwdEn q then s.sinkHead q v  -- a BIND that passed the filter
    -- one of whose copies some have left goes on by the entries it began with (R144)
    else if s.heldByCommit h ∧ k.only.isNone then s.waitHead q v
    else if hMcast h then s.replicate q v
    else
      match s.lookup eid with
      | .noRoute => ((s.bump aPktErr0 15 0 1).evDev 0x82 1).lostHead q v
      | .dead => (s.bump aPktErr1 15 8 1).lostHead q v
      | .own =>
        -- what is addressed to a device that has no EID is discarded (R492)
        if s.selfEid = 0xFFFF ∧ q < 128 then s.discardHead q v
        else if s.overWindow h then s.waitHead q v
        else s.sinkHead q v
      | .forward =>
        if v = 6 then
          let p := s.selPort eid
          if s.live p ∧ s.selRoom p k.total then s.forward q v p 6 else s.waitHead q v
        else
          let cand := s.cand h
          match s.choosePort cand v h with
          | some p => s.forward q v p v
          | none =>
            match s.noPort cand with
            | .wakePort p => (s.wakePort p).waitHead q v
            | .wait => s.waitHead q v
            | .discard => (s.bump (aFlowErr 1) 15 0 1).lostHead q v

/-- Stamp the limits that run from the moment the header reached the head of its queue (R597). -/
def State.stampHead (s : State) (q v : Nat) : State :=
  match s.inq q v with
  | [] => s
  | k :: r =>
    if k.atHead then s
    else s.setInq q v ({ k with ageLim := s.rf aCong 31 16, escLim := s.rf aCong 15 0, atHead := true } :: r)

/-- Route the head of an injection queue once it may enter the crossbar. -/
def State.inject (s : State) (q v : Nat) (k : QPkt) : State :=
  let (ok, s) := s.injectOk q k
  if ok then s.routeHead q v else s.waitHead q v

/-- PKT_HEADER_ARRIVE (R60, R107, R112, R123, R125, R140, R167): the header at the head of queue q,
channel vc, is checked and routed. -/
def execPktHeaderArrive (q vc : Nat) (s : State) : Out :=
  match s.headOf q vc with
  | none => .next s
  | some k =>
    let s := if k.checked || s.inBusy q vc then s else s.stampHead q vc
    if 128 ≤ q then
      let s := s.wake (dSw (qCluster q))
      -- a swap stops injection, but not the mirror stream or the control traffic (R519)
      if s.pair.swapTag.isSome ∧ (vc = 0 ∨ vc = 5) ∧ !s.pairBound k then .next s else .next (s.inject q vc k)
    else if k.checked || s.inBusy q vc then .next s
    else
      let s := s.wake (dSw (q / 16))
      let e := s.ingress q vc k.hdr
      if e = 1 ∨ e = 2 ∨ e = 3 then .next ((s.bump aPktErr0 31 16 1).discardHead q vc)
      else if e = 4 then .next ((s.bump aPktErr1 7 1 1).discardHead q vc)
      else if hMcast k.hdr then .next ((s.bump (aFlowErr 2) 15 1 1).discardHead q vc)
      else if !s.fwdEn q && s.quarWait vc k.hdr k.data then .next s
      else if !s.fwdEn q && !s.quarPass vc k.hdr k.data then .next ((s.bump (aQuar q) 31 16 1).discardHead q vc)
      else if vc = 6 ∧ s.selBad q (hDst k.hdr) then .next ((s.bump (aCongErr 1) 7 1 1).discardHead q vc)
      else .next (s.routeHead q vc)

/-- PKT_PORT_RETRY (R125): a head that waits is chosen for again. -/
def execPktPortRetry (q vc : Nat) (s : State) : Out :=
  match s.headOf q vc with
  | some k => .next (if !k.checked then s else if 128 ≤ q then s.inject q vc k else s.routeHead q vc)
  | none => .next s

/-- The packets of queue q, channel v, whose header has reached the head of the queue and has not left the device:
those that wait in an output queue, with its port, and the head itself. -/
def State.waitingAll (s : State) (q v : Nat) : List (Option Nat × QPkt) :=
  s.sw.outq.flatMap (fun e => (e.2.filter (fun k =>
    decide (k.inq = q) && decide (k.vc = v) && decide (k.sent = 0))).map (fun k => (some (e.1 / 8), k))) ++
  (match s.headOf q v with
   | some k => if k.checked || k.atHead then [(none, k)] else []
   | none => [])

/-- Remove a packet from an output queue. -/
def State.dropOut (s : State) (p v pid : Nat) : State :=
  s.setOutq p v (delFirst (fun k => decide (k.pid = pid)) (s.outq p v))

/-- The head of an injection queue is held back by the device's own congestion alone (R159, R186). -/
def State.throttled (s : State) (q v : Nat) (k : QPkt) : Bool :=
  decide (128 ≤ q) && (s.headOf q v).any (fun y => decide (y.pid = k.pid)) && !(s.injectOk q k).1

/-- The packet of queue q, channel v, that has waited longest of those that `ok` admits leaves its queue. -/
def State.takeWaiting (s : State) (q v : Nat) (ok : QPkt → Bool) : Option (QPkt × State) :=
  match (s.waitingAll q v).filter (fun e => ok e.2 && !s.throttled q v e.2) with
  | [] => none
  | e :: r =>
    let (o, k) := r.foldl (fun b x => if x.2.pid < b.2.pid then x else b) e
    match o with
    | some p =>
      let t := s.dropOut p v k.pid
      some (k, if v = 6 then t else t.freeRest k)
    | none => some (k, s.dropHead q v)

/-- A packet may escape to the selvedge (R165): unicast, with an entry that is not LOCAL and whose SEL_PORT is live
and has room. -/
def State.mayEscape (s : State) (k : QPkt) : Bool :=
  let p := s.selPort (hDst k.hdr)
  !hMcast k.hdr && !s.pairBound k && !s.heldByCommit k.hdr && decide (s.lookup (hDst k.hdr) = .forward) && s.live p &&
    s.selRoom p k.total

/-- SEL_ESCAPE (R165): a unicast packet that has waited SEL_ESC_CYC escapes to the selvedge. -/
def execSelEscape (q vc : Nat) (s : State) : Out :=
  if 5 < vc then .next s
  else
    match s.takeWaiting q vc s.mayEscape with
    | none => .next s
    | some (k, t) =>
      let t := t.toOut (s.selPort (hDst k.hdr)) 6 { k with checked := true }
      .next ((t.bump (aCongErr 2) 31 0 1).evClu (qCluster q) 0x43 1)

/-! ### Port down (R72, R78, R168, R169) -/

/-- The packets of the whole device, changed by f where it applies to their number. -/
def State.updPid (s : State) (pid : Nat) (f : QPkt → QPkt) : State :=
  let g (l : List QPkt) : List QPkt := l.map (fun k => if k.pid = pid then f k else k)
  { s with sw := { s.sw with
    inq := s.sw.inq.map (fun e => (e.1, g e.2))
    outq := s.sw.outq.map (fun e => (e.1, g e.2))
    sunk := g s.sw.sunk } }

/-- Whether a packet is still in its input queue, in an output queue, or sunk. -/
def State.inInq (s : State) (p v pid : Nat) : Bool := (s.inq p v).any (fun k => k.pid = pid)
def State.inOutq (s : State) (pid : Nat) : Bool := s.sw.outq.any (fun e => e.2.any (fun k => k.pid = pid))
def State.inSunk (s : State) (pid : Nat) : Bool := s.sw.sunk.any (fun k => k.pid = pid)

/-- A partly received packet of port p, channel v, ends.  One whose header has left on an output is completed with
picks of zeros, unless that output goes down with the input: then it is its flush that deals with it (R169).  Any
other is discarded (R72, R78). -/
def State.cutRx (s : State) (p v : Nat) (r : RxPkt) : State :=
  match s.sw.outq.findSome? (fun e => (e.2.find? (fun k => decide (k.pid = r.pid))).map (fun k => (e.1, k))) with
  | some (o, k) =>
    if 0 < k.sent then
      if (s.port (o / 8)).lstate = .down ∨ (s.port (o / 8)).lstate = .dark then s
      else (s.updPid r.pid (fun k => { k with
        data := k.data ++ List.replicate (64 * r.left) 0, pad := k.pad + r.left })).bump (aCongErr 1) 15 8 1
    else
      let s := s.dropOut (o / 8) (o % 8) k.pid
      if o % 8 = 6 then s else s.freeRest k
  | none =>
    let l := s.inq p v
    match l.find? (fun k => decide (k.pid = r.pid)) with
    | some k => (s.setInq p v (l.filter (fun y => y.pid ≠ r.pid))).freeRest k
    | none => { s with sw := { s.sw with sunk := s.sw.sunk.filter (fun y => y.pid ≠ r.pid) } }

/-- Every partly received packet of port p ends, and what stands of the others counts no more in F. -/
def State.cutAll (s : State) (p : Nat) : State :=
  let s := (s.port p).rx.foldl (fun s e =>
    match e.2 with
    | some r => s.cutRx p e.1 r
    | none => s) s
  let g (l : List QPkt) : List QPkt := l.map (fun k => if k.inq = p then { k with stale := true } else k)
  { s.updPort p (fun x => { x with rx := [] }) with sw := { s.sw with
    inq := s.sw.inq.map (fun e => (e.1, g e.2)), outq := s.sw.outq.map (fun e => (e.1, g e.2)) } }

/-- One packet of the flush of a port (R168): false when it is to be chosen again. -/
def State.flushOne (s : State) (v : Nat) (k : QPkt) : State × List QPkt :=
  let lost (s : State) : State :=
    let s := (s.bump (aCongErr 0) 15 0 1).pktGone k
    let s := if v = 6 then s else s.freeRest k
    match k.mc with
    | some m => if k.sent = 0 then s.copyLost k else s.copyGone m
    | none => s
  if 0 < k.sent then (lost s, [])
  else if hMcast k.hdr ∨ hPinned k.hdr ∨ v = 6 then (lost s, [])
  else ((s.bump (aCongErr 1) 31 16 1).evClu (qCluster k.inq) 0x44 1, [k])

/-- Choose again for a packet, as from the head of its queue (R168, R125); what must wait is listed, its checks
made and its limits kept. -/
def State.rechoose (s : State) (k : QPkt) : State × List QPkt :=
  let waits := [{ k with checked := true }]
  if s.pairBound k then
    match s.livePair with
    | some p => (s.toOut p k.vc k, [])
    | none => (s, waits)
  else if s.heldByCommit k.hdr then (s, waits)
  else
    let cand := s.cand k.hdr
    match s.choosePort cand k.vc k.hdr with
    | some p => (s.toOut p k.vc k, [])
    | none =>
      match s.noPort cand with
      | .wakePort p => (s.wakePort p, waits)
      | .wait => (s, waits)
      | .discard =>
        ((((s.bump (aFlowErr 1) 15 0 1).pktGone k).freeRest k).copyLost k, [])

/-- Choose again for packets in their order; those that wait stand at the heads of their queues. -/
def State.rechooseAll (s : State) (l : List QPkt) : State :=
  let (s, waits) := l.foldl (fun (a : State × List QPkt) k =>
    let (t, r) := a.1.rechoose k
    (t, a.2 ++ r)) (s, [])
  waits.foldr (fun k s => s.setInq k.inq k.vc (k :: s.inq k.inq k.vc)) s

/-- The port-down flush of port p (R168): packets chosen again keep their order. -/
def State.flushPort (s : State) (p : Nat) : State :=
  (List.range 7).foldl (fun s v =>
    let (s, again) := (s.outq p v).foldl (fun (a : State × List QPkt) k =>
      let (t, r) := a.1.flushOne v k
      (t, a.2 ++ r)) (s.setOutq p v [], [])
    s.rechooseAll again) s

/-- Zero the credit, replay and sequence state of a port. -/
def Port.zeroed (x : Port) : Port :=
  { x with
    sCnt := [0, 0, 0, 0, 0, 0, 0], fCnt := [0, 0, 0, 0, 0, 0, 0], fPeer := [0, 0, 0, 0, 0, 0, 0]
    txFsn := 0, rxFsn := 0, retryReq := false, replay := [], replayAt := none, retryAsn := none
    retryRow := 0, crPtr := 0, wrr := [0, 2] }

/-- What any departure from an established link clears. -/
def Port.linkless (x : Port) : Port :=
  { x.zeroed with
    holdReason := .none, holdDepth := .lit, holdReq := none, widthReq := none, widthWait := []
    ctlTx := [], ctlWait := [], ctlRx := [], ctlSeqRx := [], gotParams := false, gotAck := false
    resyncMsg := none, ctlLast := [], laneActive := 0, laneLent := 0, lentMine := false
    paceCong := [0, 0, 0], paceTrd := [0, 0, 0] }

/-- A PAIR port that leaves ACTIVE loses the FWD_EN the device gave it (R504). -/
def State.pairQuar (s : State) (p : Nat) : State :=
  if s.portRole p = 3 ∧ s.paired then s.setRf (aPortCfg p) 4 4 0 else s

/-- The link of port p ends, in DOWN or DARK (R72, steps 3, 6, 8 and 10).  DOWN_NOTICE goes out where it is asked for
and a lane can carry it: lanes are in use, or the port trains.  `counts`: the port enters DOWN, or DARK by the steps
of a DOWN (log entry 133), and not the HOLD of a standby (R92, R502). -/
def State.portEnd (s : State) (p cause : Nat) (l : LState) (notice counts : Bool) : State :=
  let x := s.port p
  let s := if notice ∧ (x.laneActive ≠ 0 ∨ x.lstate = .train) then s.ctlNow p 9 (leBytes 1 cause) else s
  let s := (s.updPort p (fun x => { x.linkless with lstate := l, downCause := cause, txOn := false })).pairQuar p
  if counts then s.bump (aLinkErr p) 7 1 1 else s

/-- Ports whose links end together: what they were receiving ends before what is queued for them is flushed
(R168, R169). -/
def State.portsFlush (s : State) (ps : List Nat) : State :=
  let s := ps.foldl (fun (s : State) p => (s.cutAll p).updPort p Port.zeroed) s
  (ps.foldl (fun (s : State) p => s.flushPort p) s).memberScan

/-- Take port p out of its link. -/
def State.portLeave (s : State) (p cause : Nat) (l : LState) (notice counts : Bool) : State :=
  (s.portEnd p cause l notice counts).portsFlush [p]

/-- The causes whose DOWN sends DOWN_NOTICE (R72, steps 8 and 10; R559): RETRY, SILENT, PEER, DISABLED.
Steps 3 and 6 name no notice, and with every lane failed or its clock lost no lane works. -/
def downNotifies (cause : Nat) : Bool :=
  decide (cause = 2) || decide (cause = 3) || decide (cause = 5) || decide (cause = 10)

/-- Ports enter DOWN together (R46, R48, R559). -/
def State.portsDown (s : State) (ps : List Nat) (cause : Nat) : State :=
  let up := ps.filter (fun p => decide ((s.port p).lstate ≠ .dark) && decide ((s.port p).lstate ≠ .down))
  (up.foldl (fun (s : State) p => s.portEnd p cause .down (downNotifies cause) true) s).portsFlush up

/-- Enter DOWN (R72). -/
def State.portDown (s : State) (p cause : Nat) : State :=
  let x := s.port p
  if x.lstate = .dark ∨ x.lstate = .down then s
  else s.portLeave p cause .down (downNotifies cause) true

end Sys2Proof.Machine
end

