-- ==== Sys2Proof/Machine/Link.lean ====
section
/-!
DEFINITION. Sys2Proof/Machine/Link.lean: the fabric link of a port (chapter 03): frames received and sent,
retry, training, HOLD, width changes, pacing, and the port registers whose writes act.
-/

namespace Sys2Proof.Machine

/-- The PAIR event of a kind (chapter 18, Registers). -/
def State.pairEvent (s : State) (kind : Nat) : State :=
  s.event 0x0A80 0 (leBytes 1 kind ++ leBytes 1 s.role ++ leBytes 1 (s.rf aDvt 28 27) ++
    leBytes 1 (s.rf aDvt 24 24 * 2 + s.rf aDvt 25 25) ++ s.regBytes aTakeover 1)

/-- End a self-test that was running: its event, and the reply to the command that asked (R563). -/
def State.testEnd (s : State) (test target status errors detail : Nat) : State :=
  match s.pwr.tests.find? (fun t => decide (t.1 = test) && decide (t.2.1 = target)) with
  | none => s
  | some t =>
    let s := { s with pwr := { s.pwr with
      tests := s.pwr.tests.filter (fun u => !(decide (u.1 = test) && decide (u.2.1 = target))) } }
    let s := s.event 0x0C80 status (leBytes 2 test ++ leBytes 2 status)
    s.finish t.2.2 status (if status = stOk then
      leBytes 2 test ++ leBytes 2 target ++ leBytes 2 (min 65535 errors) ++ leBytes 2 0 ++
        leBytes 4 detail ++ leBytes 4 0 else [])

/-! ### Engines follow their ports (R18, R39, R392) -/

/-- Bring engine k to the depth its ports give it: OFF when all are DARK or OFF, unless the fabric manager
brought it to RUN; GATED or RETAIN when every other port is held; RUN while any is not. -/
def State.optFollow (s : State) (k : Nat) : State :=
  let d := s.dom (dOpt k)
  let ps := enginePorts k
  let up := ps.filter (fun p => !s.darkOrOff p)
  if up = [] then
    if d.depth = .run ∧ d.off = .held then s
    else if d.depth = .off then s
    else s.toOff (dOpt k) .idle
  else if d.depth = .off then s
  else if up.all (fun p => decide ((s.port p).lstate = .hold)) then
    if up.all (fun p => decide ((s.port p).holdDepth = .dark) && !(s.port p).txOn) then
      s.toDepth (dOpt k) .retain
    else if d.exiting then s else s.toDepth (dOpt k) .gated
  else s

/-- Engine k and the slice of its cluster are at RUN. -/
def State.portDomsRun (s : State) (p : Nat) : Bool :=
  s.atDepth (dSw (p / 16)) .run && s.atDepth (dOpt (p / 8)) .run

/-! ### Entering and leaving HOLD (R72, R74 to R77) -/

/-- Send WIDTH: the CW_COUNT at which the new striping starts is a multiple of 17; which one is the sender's own
choice, and free here (R69, R79). -/
def State.sendWidth (s : State) (p mask cause : Nat) : State :=
  let (n, s) := s.draw
  let cw := 17 * (n % 3855)
  (s.updPort p (fun x => { x with widthAt := cw })).ctlSend p 6 (leBytes 1 mask ++ leBytes 1 cause ++ leBytes 2 cw)

/-- Enter HOLD. -/
def State.enterHold (s : State) (p : Nat) (r : HoldReason) (d : HoldDepth) (asn : Nat) : State :=
  let s := s.updPort p (fun x => { x.answered 3 with
    lstate := .hold, holdReason := r, holdDepth := d, holdAsn := asn, holdReq := none, gotAck := false
    txOn := decide (d = .lit), replayAt := none })
  let s := (s.pairQuar p).evUnit (p / 16) 0x4B (p % 16) 1
  let s := match (s.port p).widthReq with
    | some (m, c) => s.sendWidth p m c
    | none => s
  s.optFollow (p / 8)

/-- A replay starts: from ASN + 1 (R67).  It is counted, and the RETRY_LIMIT-th in a row without ASN advancing
takes the port DOWN. -/
def State.replayBegin (s : State) (p asn : Nat) : State :=
  let x := s.port p
  let s := s.setPort p { x with
    retryAsn := some asn, retryRow := x.retryRow + 1
    replayAt := if x.replay = [] then none else some ((asn + 1) % 65536) }
  let s := (s.bump (aLinkErr p) 19 8 1).evUnit (p / 16) 0x4A (p % 16) 1
  if s.rf (aRetry p) 23 16 ≤ x.retryRow + 1 then s.portDown p 2 else s

/-- Ask for a HOLD. -/
def State.askHold (s : State) (p : Nat) (r : HoldReason) (d : HoldDepth) : State :=
  let x := s.port p
  let s := s.setPort p { x with holdReq := some (r, d) }
  s.ctlSend p 3 (leBytes 1 (if r = .freeze then 1 else 0) ++ leBytes 1 (if d = .dark then 1 else 0) ++
    leBytes 2 x.asn)

/-- CRIT holds the port: one of EDGE or TRUNK (R418). -/
def State.critHeld (s : State) (p : Nat) : Bool :=
  s.thm.critOn && (decide (s.portRole p = 1) || decide (s.portRole p = 2))

/-- The lanes set in a mask and not in another. -/
def lanesNot (a b : Nat) : Nat := sumNat ((bitList 4 a).map (fun i => if bit b i then 0 else 2 ^ i))

/-- The lanes that a change to a mask takes out, or brings back by RETURN. -/
def Port.widthDelta (x : Port) (mask cause : Nat) : Nat :=
  if cause = 3 then lanesNot mask x.laneActive else lanesNot x.laneActive mask

/-- Begin a width change, or queue its lanes behind the one in progress (R79): FREEZE first. -/
def State.startWidth (s : State) (p mask cause : Nat) : State :=
  let x := s.port p
  if x.widthReq.isSome then s.setPort p { x with widthWait := x.widthWait ++ [(x.widthDelta mask cause, cause)] }
  else
    let s := s.setPort p { x with widthReq := some (mask, cause) }
    if x.lstate = .active then s.askHold p .freeze .lit
    else if x.lstate = .hold ∧ x.txOn then s.sendWidth p mask cause
    else s

/-- A width change is over; the next one waiting begins, or the link wakes (R79, step 4). -/
def State.widthDone (s : State) (p : Nat) : State :=
  let x := s.port p
  match x.widthWait with
  | [] =>
    let s := s.setPort p { x with widthReq := none }
    -- a REST HOLD stays (R77); a FREEZE entered for the change is left
    if x.lstate = .hold ∧ x.holdReason = .freeze ∧ !s.critHeld p then s.wakePort p else s
  | (d, c) :: r => (s.setPort p { x with widthReq := none, widthWait := r }).startWidth p
      (if c = 3 then x.laneActive ||| d else lanesNot x.laneActive d) c

/-! ### Frames received (R57 to R62, R65 to R67) -/

/-- A packet that came in by port p, channel v, stands in an output queue, its picks still in the input
buffer until they leave (R62). -/
def State.outOf (s : State) (p v : Nat) : List QPkt :=
  if v = 6 then []
  else s.sw.outq.flatMap (fun e => e.2.filter (fun k => decide (k.inq = p) && decide (k.vc = v)))

/-- IN(p, v): picks queued in the input buffer of a channel (R161). -/
def State.inPicks (s : State) (p v : Nat) : Nat :=
  sumNat ((s.inq p v).map QPkt.have) + sumNat ((s.outOf p v).map (fun k => k.have - k.pad - k.sent))

/-- The input buffer of a paceable channel has reached PACE_HI: pace it (R161). -/
def State.paceCheck (s : State) (p v : Nat) : State :=
  match paceChans.find? (fun c => decide (c.1 = v)) with
  | none => s
  | some c =>
    let adv := s.rf (aCredit p v) 15 0
    if s.portRole p = 1 ∧ s.rf aPaceCfg 31 24 * adv ≤ 256 * s.inPicks p v ∧
        (s.port p).paceCong.getD c.2 0 = 0 then
      s.setPace p (fun x => { x with paceCong := x.paceCong.set c.2 (s.rf aPaceCfg 15 8) })
    else s

/-- One pick arrives on channel v of port p (R59). -/
def State.pickArrive (s : State) (p v : Nat) (pick : List Byte) : State :=
  let s := (s.evPick p v 0x41).wake (dSw (p / 16))
  match tabGet (fun _ => none) (s.port p).rx v with
  | none =>
    let n := s.sw.nextPid
    let k : QPkt := { pid := n, hdr := pick, data := [], inq := p, vc := v, sent := 0, ageLim := 0,
                      escLim := 0, checked := false, mc := none, only := none }
    let s := { s with sw := { s.sw with nextPid := n + 1 } }
    let s := s.setInq p v (s.inq p v ++ [k])
    let s := if hLen pick = 0 then s else s.updPort p (fun x =>
      { x with rx := tabSet (fun _ => none) x.rx v (some ⟨n, hLen pick⟩) })
    s.paceCheck p v
  | some r =>
    let s := s.updPort p (fun x => { x with
      rx := tabSet (fun _ => none) x.rx v (if r.left ≤ 1 then none else some ⟨r.pid, r.left - 1⟩) })
    if s.inInq p v r.pid || (s.outOf p v).any (fun k => decide (k.pid = r.pid)) then
      ((s.pickIn p v).updPid r.pid (fun k => { k with data := k.data ++ pick })).paceCheck p v
    else (s.updPid r.pid (fun k => { k with data := k.data ++ pick })).freePick p v

/-- Take one credit slot (R58, R61). -/
def Port.credit (x : Port) (c : Option (Nat × Nat)) : Port :=
  match c with
  | none => x
  | some (v, n) => { x with fPeer := x.fPeer.set v n }

/-- Take ASN: frames it covers leave the replay buffer (R65, R67). -/
def Port.acked (x : Port) (asn : Nat) : Port :=
  let keep := x.replay.filter (fun f => 32768 ≤ (asn + 65536 - f.fsn) % 65536)
  if keep.length = x.replay.length then x
  else { x with replay := keep, retryRow := 0, retryAsn := none }

/-- A frame with RETRY_REQ has been accepted on an ACTIVE link (R67): a replay starts, unless one for this ASN
runs under RETRY_TIMER.  In a HOLD the replay waits for its exit (R77). -/
def State.replayStart (s : State) (p asn : Nat) : State :=
  let x := s.port p
  if x.lstate ≠ .active ∨ x.retryAsn = some asn then s else s.replayBegin p asn

/-- A known control message is kept until its own command acts on it, once per SEQ; one of a reserved
type is discarded and counted (R69). -/
def Port.ctlIn (x : Port) (m : List Byte) : Port :=
  let t := byteAt m 0
  if t = 0 ∨ 10 < t then { x with ctlBad := x.ctlBad + 1 }
  else if tabGet (fun _ => 256) x.ctlSeqRx t = byteAt m 1 then x.ctlAgain m
  else if x.ctlRx.contains m then x
  else { x with ctlRx := x.ctlRx ++ [m] }

/-- A frame is refused (R57): counted, and a retry starts. -/
def State.frameBad (s : State) (p : Nat) : State :=
  (s.bump (aLinkErr p) 31 20 1).updPort p (fun x => { x with retryReq := true })

/-- An accepted frame (R56, R58, R66). -/
def State.frameGood (s : State) (p : Nat) (f : Frame) : State :=
  let s := s.updPort p (fun x => ((x.credit f.crA).credit f.crB).acked f.asn)
  let s := if f.retry then s.replayStart p f.asn else s
  let x := s.port p
  if x.lstate = .down then s
  else if f.ftype = 0 then
    if x.lstate ≠ .active then s
    else if f.fsn = x.rxFsn then
      let s := s.setPort p { x with rxFsn := (x.rxFsn + 1) % 65536, retryReq := false }
      f.slots.foldl (fun s c => match c with | some (v, d) => s.pickArrive p v d | none => s) s
    else if (x.rxFsn + 65536 - f.fsn) % 65536 ≤ 32768 then s
    else s.setPort p { x with retryReq := true }
  else
    s.setPort p (f.slots.foldl (fun x c => match c with
      | some (0, d) => x.ctlIn d
      | _ => x) x)

/-- LINK_FRAME_RX (R57): `wrong` holds the wrong symbols of each codeword that carries part of the frame.  A
frame of a reserved FTYPE is counted where refused frames are (DESIGN CHOICE, log entry 132). -/
def execLinkFrameRx (p : Nat) (wrong : List Nat) (bytes : List Byte) (s : State) : Out :=
  let x := s.port p
  if 128 ≤ p ∨ x.lstate = .dark ∨ x.lstate = .down ∨ !x.txOn then .next s
  else if !fecOk wrong || !frameCrcOk bytes then .next (s.frameBad p)
  else
    let f := frameOf bytes
    if 2 ≤ f.ftype then .next (s.bump (aLinkErr p) 31 20 1)
    else .next (s.frameGood p f)

/-! ### Frames sent (R56, R59 to R62, R65, R110) -/

/-- The round of R110: channels in the order the rule lists them, with their weights. -/
def wrrOrder : List (Nat × Nat) := [(4, 2), (6, 4), (1, 4), (3, 4), (2, 2), (0, 2), (5, 1)]

/-- Channel v has a pick ready: its head packet has a pick that has not been sent; in quarantine only
VC 4 is sent (R60). -/
def State.pickReady (s : State) (p v : Nat) : Bool :=
  (s.fwdEn p || decide (v = 4)) &&
    match s.outq p v with
    | [] => false
    | k :: _ => decide (k.sent < k.have)

/-- Channel v has credit (R61). -/
def Port.hasCredit (x : Port) (v : Nat) : Bool :=
  decide ((x.sCnt.getD v 0 + 65536 - x.fPeer.getD v 0) % 65536 < x.advPeer.getD v 0)

/-- The channel the next slot serves, and the round after it: the turn passes on from a channel that has
no ready pick or no credit. -/
def State.wrrPick (s : State) (p : Nat) : Nat → Nat → Nat → Option (Nat × Nat × Nat)
  | 0, _, _ => none
  | fuel + 1, pos, left =>
    let (v, _) := wrrOrder.getD (pos % 7) (0, 0)
    if 0 < left ∧ s.pickReady p v ∧ (s.port p).hasCredit v then some (v, pos % 7, left - 1)
    else State.wrrPick s p fuel (pos + 1) (wrrOrder.getD ((pos + 1) % 7) (0, 0)).2

/-- The last pick of a packet has left port p: its channel is free, its buffers are freed, and a copy of
a chunk's result counts as gone (R121, R142, R220). -/
def State.pktLeft (s : State) (p v : Nat) (k : QPkt) : State :=
  let s := (s.dropOut p v k.pid).pktGone k
  match k.mc with
  | some m => s.copyGone m
  | none => s

/-- Send one pick of channel v; it leaves the input buffer it stood in (R62). -/
def State.pickSend (s : State) (p v : Nat) : Option (List Byte) × State :=
  match s.outq p v with
  | [] => (none, s)
  | k :: r =>
    let d := if k.sent = 0 then k.hdr else slice k.data (64 * (k.sent - 1)) 64
    let s := s.setOutq p v ({ k with sent := k.sent + 1 } :: r)
    let s := (s.updPort p (fun x => { x with
      sCnt := x.sCnt.set v ((x.sCnt.getD v 0 + 1) % 65536) })).evPick p v 0x40
    let s := if v = 6 then s
      else s.freeOf k (if k.sent = 0 then 1 else 0) (if k.sent = 0 ∨ k.have - k.pad ≤ k.sent then 0 else 1)
    (some d, if k.sent + 1 = k.total then s.pktLeft p v k else s)

/-- Fill up to n pick slots (R110). -/
def State.fillSlots (s : State) (p : Nat) : Nat → List (Option (Nat × List Byte)) × State
  | 0 => ([], s)
  | n + 1 =>
    let x := s.port p
    match s.wrrPick p 15 (x.wrr.getD 0 0) (x.wrr.getD 1 0) with
    | none => ([], s)
    | some (v, pos, left) =>
      let s := s.updPort p (fun x => { x with wrr := [pos, left] })
      let (d, s) := s.pickSend p v
      match d with
      | none => ([], s)
      | some d =>
        let (l, s) := State.fillSlots s p n
        (some (v, d) :: l, s)

/-- Channels that have a pick ready and no credit count CREDIT_WAIT (code 0x42). -/
def State.creditWaits (s : State) (p : Nat) : State :=
  (List.range 7).foldl (fun s v =>
    if s.pickReady p v && !(s.port p).hasCredit v then s.evPick p v 0x42 else s) s

/-- Send a frame of control messages, up to four of them (R69). -/
def State.sendCtl (s : State) (p : Nat) : State :=
  let x := s.port p
  let ms := x.ctlTx.take 4
  (s.setPort p { x with ctlTx := x.ctlTx.drop 4 }).sendFrame p 1 x.nextFsn (ms.map (fun m => some (0, m)))

/-- New DATA frames, or a CONTROL frame where there is nothing to send (R56, R65). -/
def State.sendNew (s : State) (p : Nat) : State :=
  let s := s.creditWaits p
  if 1024 ≤ (s.port p).replay.length then s.sendCtl p
  else
    let (slots, s) := s.fillSlots p 4
    if slots = [] then s.sendCtl p
    else
      let y := s.port p
      let s := s.setPort p { y with
        txFsn := (y.txFsn + 1) % 65536, replay := y.replay ++ [⟨y.txFsn, slots⟩] }
      s.sendFrame p 0 y.txFsn slots

/-- LINK_FRAME_TX (R56, R65, R67, R110): control messages first, then a replay in progress, then new
DATA frames; a CONTROL frame where there is nothing to send. -/
def execLinkFrameTx (p : Nat) (s : State) : Out :=
  let x := s.port p
  if 128 ≤ p ∨ !x.txOn ∨ x.lstate = .dark ∨ x.lstate = .down then .next s
  else if x.ctlTx ≠ [] ∨ x.lstate ≠ .active then .next (s.sendCtl p)
  else
    match x.replayNext with
    | some f =>
      let s := s.setPort p { x with replayAt := some ((f.fsn + 1) % 65536) }
      .next (s.sendFrame p 0 f.fsn f.slots)
    | none => .next ((s.setPort p { x with replayAt := none }).sendNew p)

/-- RETRY_TIMER_EXPIRE (R67): RETRY_REQ for the same ASN is heeded again. -/
def execRetryTimerExpire (p : Nat) (s : State) : Out := .next (s.updPort p (fun x => { x with retryAsn := none }))

/-- LINK_SILENT_TIMEOUT (R67): an ACTIVE port that has accepted no frame for 10 µs. -/
def execLinkSilentTimeout (p : Nat) (s : State) : Out :=
  .next (if (s.port p).lstate = .active then s.portDown p 3 else s)

/-- CTRL_MSG_RESEND (R69): a message that waits for its answer is sent again. -/
def execCtrlMsgResend (p typ : Nat) (s : State) : Out :=
  let x := s.port p
  match x.ctlWait.find? (fun m => decide (byteAt m 0 = typ)) with
  | some m => .next (if x.ctlTx.contains m then s else s.setPort p { x with ctlTx := x.ctlTx ++ [m] })
  | none => .next s

/-! ### Training (R70 to R73, R504, R561) -/

/-- The body of TRAIN_PARAMS (R70). -/
def State.trainBody (s : State) (p : Nat) : List Byte :=
  leBytes 1 1 ++ leBytes 1 0 ++ leBytes 1 1 ++ leBytes 1 (s.portRole p) ++ leBytes 2 s.selfEid ++
    leBytes 8 Config.serial ++ leBytes 1 (s.lanesMine p) ++ leBytes 1 2 ++
    leBytes 2 (s.rf (aHoldLim p) 12 0) ++
    (List.range 7).flatMap (fun v => leBytes 2 (s.rf (aCredit p v) 15 0))

/-- Send TRAIN_PARAMS, or RESYNC with the same body: what it says of this side is kept, and a register written
later applies at the next one (R69, R87, R89, R91). -/
def State.sendParams (s : State) (p typ : Nat) : State :=
  let b := s.trainBody p
  (s.updPort p (fun x => { x with mine := b })).ctlSend p typ b

/-- ADV[0] to ADV[6] as a message carries them. -/
def advOf (m : List Byte) : List Nat := (List.range 7).map (fun v => field m (20 + 2 * v) 2)

/-- Parameters in range (R64, R71). -/
def paramsOk (m : List Byte) : Bool :=
  (advOf m).all (fun a => decide (65 ≤ a) && decide (a ≤ 16384)) &&
    decide (50 ≤ field m 18 2) && decide (field m 18 2 ≤ 5000)

/-- The lanes set in both masks (R71). -/
def lanesBoth (a b : Nat) : Nat := sumNat ((bitList 4 a).map (fun i => if bit b i then 2 ^ i else 0))

/-- The lanes the link runs on: those of both sides' parameters (R71). -/
def Port.lanesOf (x : Port) : Nat := lanesBoth x.mineLanes x.peerLanes

/-- Adopt a peer's parameters (R70, R71). -/
def State.adopt (s : State) (p : Nat) (m : List Byte) : State :=
  let kind := byteAt m 4
  let role := s.portRole p
  s.updPort p (fun x => { x with
    advPeer := advOf m
    advNow := x.mineAdv
    holdLimEff := max (field m 18 2) x.mineHold
    peerKind := kind % 2, peerRole := byteAt m 5, peerEid := field m 6 2, peerIdent := field m 8 8
    peerLanes := byteAt m 16 % 16, peerPace := bit (byteAt m 17) 0, peerResync := bit (byteAt m 17) 1
    roleMismatch := (decide (role = 1) && decide (kind = 1)) ||
      ((decide (role = 2) || decide (role = 3)) && decide (kind = 0)) })

/-- The peer of a PAIR port named in DVT_CFG is the partner (R504). -/
def State.pairMatch (s : State) (p : Nat) : Bool :=
  let x := s.port p
  s.paired && decide (s.portRole p = 3) && s.pairPorts.contains p && decide (x.peerKind = 1) &&
    decide (x.peerRole = 3) && decide (x.peerEid = s.partner)

/-- Release or keep a PAIR port by its peer's parameters (R504). -/
def State.pairFwd (s : State) (p : Nat) : State :=
  if s.paired ∧ s.portRole p = 3 ∧ s.pairPorts.contains p then
    if s.pairMatch p then s.setRf (aPortCfg p) 4 4 1 else (s.setRf (aPortCfg p) 4 4 0).pairEvent 2
  else s

/-- The engine of a port has laser light, and no inspection is in progress (R426): else its transmitters are dark. -/
def State.lit (s : State) (p : Nat) : Bool :=
  decide (s.rf (aCrt (p / 8)) 25 25 = 1) && decide (s.rf (aCrt (p / 8)) 31 28 ≠ 2)

/-- Enter TRAIN (R72, steps 1 and 9): TRAIN_PARAMS is sent where the transmitter has light. -/
def State.toTrain (s : State) (p : Nat) : State :=
  let s := s.updPort p (fun x =>
    { x.linkless with lstate := .train, roleMismatch := false, txOn := s.lit p }.restripe (x.cwCount + 17))
  let s := if s.rf (aPortCfg p) 9 9 = 1 ∧ s.portRole p ≠ 3 then s else s.setRf (aPortCfg p) 4 4 0
  let d := s.dom (dOpt (p / 8))
  let s := if d.depth = .run then s.toDepth (dOpt (p / 8)) .run else (s.wake (dOpt (p / 8))).wake (dSw (p / 16))
  s.sendParams p 1

/-- Hold a dovetail port of a standby lit with no peer: LSTATE HOLD, reason FREEZE (R502). -/
def State.standbyHold (s : State) (p : Nat) : State :=
  let x := s.port p
  let s := if x.lstate = .active ∨ x.lstate = .hold ∨ x.lstate = .train then s.portLeave p x.downCause .down false false else s
  let s := s.updPort p (fun x => { x.linkless with
    lstate := .hold, holdReason := .freeze, holdDepth := .lit, txOn := s.lit p, lastPeer := none
    mine := s.trainBody p }.restripe (x.cwCount + 17))
  (s.setRf (aPortCfg p) 4 4 0).optFollow (p / 8)

/-- Bring up the link of a port: training, or the hold of a standby's dovetail port. -/
def State.linkUp (s : State) (p : Nat) : State :=
  if s.rf (aCrt (p / 8)) 24 24 = 1 ∧ (s.role = 2 ∨ s.role = 3) then s.standbyHold p else s.toTrain p

/-- A port's lane clock and warp clock run (R46, R48). -/
def State.portClock (s : State) (p : Nat) : Bool :=
  decide (s.rf aClk 1 1 = 1) && decide (s.rf aClk (16 + p / 16) (16 + p / 16) = 1) && decide (s.rf (aOpt (p / 8)) 31 31 = 1)

/-- A port whose role and LINK_EN let it train; under the golden image every port stays DARK, while it boots and while its
complex restarts too (R446). -/
def State.mayTrain (s : State) (p : Nat) : Bool :=
  decide (p < 128) && decide (s.portRole p ≠ 0) && s.rf (aPortCfg p) 2 2 = 1 &&
    decide (s.plinth ≠ 3) && decide (s.rf (aComp 0) 28 27 ≠ 2)

/-- Rebuild a link (R78): what was partly sent or received is gone, the counters and the parameters are new. -/
def State.resyncLink (s : State) (p : Nat) (msg : List Byte) : State :=
  let s := s.cutAll p
  let s := (List.range 7).foldl (fun s v =>
    match s.outq p v with
    | k :: r =>
      if 0 < k.sent then
        let s := (s.setOutq p v r).pktGone k
        let s := if v = 6 then s else s.freeRest k
        match k.mc with | some m => s.copyGone m | none => s
      else s
    | [] => s) s
  let s := s.adopt p msg
  let s := s.updPort p (fun x => { x.zeroed with
    lstate := .active, holdReason := .none, holdDepth := .lit, gotAck := false, txOn := true
    holdReq := none, resyncMsg := none, laneActive := x.lanesOf
    lastPeer := some (x.peerEid, x.peerIdent) }.restripe (x.cwCount + 17))
  (s.pairFwd p).uncut

/-- A PAIR port whose peer matches is out of quarantine (R504). -/
def State.pairRelease (s : State) (p : Nat) : State :=
  if s.pairMatch p then s.setRf (aPortCfg p) 4 4 1 else s

/-- Leave HOLD once WAKE or RESYNC has been exchanged and the port's domains are at RUN (R42): after WAKE, DATA goes on
from the ASN of the handshake (R72, step 5; R77), which is no replay of R67 and is not counted (log entry 129).  The
exit waits for the WIDTH that takes a failed lane out of the mask (R77).  A domain that is not at RUN is woken. -/
def State.holdExit (s : State) (p : Nat) : State :=
  let x := s.port p
  if x.lstate ≠ .hold then s
  else
    match x.resyncMsg with
    | some m =>
      -- CRIT holds the port too, and both causes must end (R423)
      if s.critHeld p then s
      else if s.portDomsRun p then s.resyncLink p m
      else (s.wake (dSw (p / 16))).wake (dOpt (p / 8))
    | none =>
      if !x.gotAck ∨ x.widthReq.any (fun w => decide (w.2 = 1)) then s
      else if s.portDomsRun p then
        let s := s.setPort p { x.answered 3 with
          lstate := .active, holdReason := .none, holdDepth := .lit, holdReq := none, gotAck := false, txOn := true
          replayAt := if x.replay = [] then none else some ((x.holdAsn + 1) % 65536) }
        (s.pairRelease p).uncut
      else (s.wake (dSw (p / 16))).wake (dOpt (p / 8))

/-- LINK_TRAIN_START (R72, step 1): a port whose clock has stopped does not train (R46, R48), and training waits
for the cluster's control core (R437). -/
def execLinkTrainStart (p : Nat) (s : State) : Out :=
  if s.mayTrain p ∧ (s.port p).lstate = .dark ∧ !s.ctlDown (p / 16) then
    if s.portDomsRun p then .next (if s.portClock p then s.linkUp p else s)
    else .next ((s.wake (dOpt (p / 8))).wake (dSw (p / 16)))
  else .next s

/-- DOWN_RETRAIN_TIMER (R72, step 9). -/
def execDownRetrainTimer (p : Nat) (s : State) : Out :=
  if s.mayTrain p ∧ (s.port p).lstate = .down ∧ !s.ctlDown (p / 16) then
    if s.portDomsRun p then .next (if s.portClock p then s.linkUp p else s)
    else .next ((s.wake (dOpt (p / 8))).wake (dSw (p / 16)))
  else .next s

/-- TRAIN_PARAMS (R64, R70, R71). -/
def execTrainParams (p : Nat) (msg : List Byte) (s : State) : Out :=
  if s.ctlDown (p / 16) then .next s
  else match s.ctlTake p 1 msg with
  | none => .next (s.ctlStale p 1 msg)
  | some s =>
    if (s.port p).lstate ≠ .train then .next s
    else if byteAt msg 2 ≠ 1 then .next (s.portDown p 8)
    else if !paramsOk msg || decide (lanesBoth (s.port p).mineLanes (byteAt msg 16) = 0) then
      .next (s.portDown p 9)
    else
      let s := (s.adopt p msg).updPort p (fun x => { x with gotParams := true })
      .next (s.ctlSend p 2 (leBytes 2 (byteAt msg 1)))

/-- TRAIN_ACK (R69, R72): our TRAIN_PARAMS has been taken. -/
def execTrainAck (p : Nat) (msg : List Byte) (s : State) : Out :=
  match s.ctlTake p 2 msg with
  | none => .next s
  | some s =>
    let x := s.port p
    if x.lstate = .train ∧ x.ctlWait.any (fun m => byteAt m 0 = 1 && byteAt m 1 = field msg 2 2) then
      .next (s.setPort p { x.answered 1 with gotAck := true })
    else .next s

/-- TRAIN_COMPLETE (R72, step 2; R61, R73, R504): the link is ACTIVE. -/
def execTrainComplete (p : Nat) (s : State) : Out :=
  let x := s.port p
  -- an engine without laser light cannot train (R426)
  if x.lstate = .train ∧ x.gotParams ∧ x.gotAck ∧ s.lit p ∧ !s.ctlDown (p / 16) ∧
      s.portDomsRun p then
    let same := decide (x.lastPeer = some (x.peerEid, x.peerIdent))
    let s := s.setPort p ({ x.zeroed with
      lstate := .active, gotParams := false, gotAck := false
      laneActive := x.lanesOf
      lastPeer := some (x.peerEid, x.peerIdent) }.restripe (x.cwCount + 17))
    let s := if same ∧ !x.roleMismatch ∧ s.role ≠ 2 then s else s.setRf (aPortCfg p) 4 4 0
    .next (s.pairFwd p).uncut
  else .next s

/-- TRAIN_TIMEOUT (R72, step 3). -/
def execTrainTimeout (p : Nat) (s : State) : Out :=
  .next (if (s.port p).lstate = .train then s.portDown p 7 else s)

/-! ### HOLD (R74 to R78) -/

/-- A dovetail port: its cartridge's identity record names a dovetail cartridge (R500, R430). -/
def State.dovetailPort (s : State) (p : Nat) : Bool := s.rf (aCrt (p / 8)) 24 24 = 1

/-- The least HOLD_LIMIT_US of a port: with a partner configured 200, and HB_TIMEOUT_US + 164 on a dovetail port, so
that a FREEZE outlasts the switch-over gap (R74, R89, R503). -/
def State.holdLeast (s : State) (p : Nat) : Nat :=
  if !s.paired then 50 else if s.dovetailPort p then max 200 (s.rf aHbCfg 15 0 + 164) else 200

/-- With a partner configured the device keeps every HOLD_LIMIT_US at its least or more (R74). -/
def State.holdKeep (s : State) : State :=
  (List.range 128).foldl (fun (s : State) p =>
    if s.rf (aHoldLim p) 12 0 < s.holdLeast p then s.setRf (aHoldLim p) 12 0 (s.holdLeast p) else s) s

/-- Every dovetail port's HOLD_LIMIT_US outlasts a heartbeat timeout, where a partner is configured (R74). -/
def State.holdsLast (s : State) (hb : Nat) : Bool :=
  !s.paired || (List.range 128).all (fun p => !s.dovetailPort p || decide (hb + 164 ≤ s.rf (aHoldLim p) 12 0))

/-- Nothing unacknowledged and nothing queued for the port (R74). -/
def State.portIdle (s : State) (p : Nat) : Bool :=
  (s.port p).replay = [] && (List.range 7).all (fun v => decide (s.outq p v = []))

def holdReasonOf (n : Nat) : HoldReason := if n = 1 then .freeze else .rest
def holdDepthOf (n : Nat) : HoldDepth := if n = 1 then .dark else .lit

/-- HOLD_ACK body (R69). -/
def holdAckBody (ok : Bool) (r : HoldReason) (d : HoldDepth) (asn : Nat) : List Byte :=
  leBytes 1 (b2n ok) ++ leBytes 1 (if r = .freeze then 1 else 0) ++ leBytes 1 (if d = .dark then 1 else 0) ++
    leBytes 2 asn

/-- HOLD_REQ (R74, R75, R77). -/
def execHoldReq (p : Nat) (msg : List Byte) (s : State) : Out :=
  -- it waits for the cluster's control core (R437)
  if s.ctlDown (p / 16) then .next s
  else match s.ctlTake p 3 msg with
  | none => .next (s.ctlStale p 3 msg)
  | some s =>
    let x := s.port p
    let r0 := holdReasonOf (byteAt msg 2)
    let d0 := holdDepthOf (byteAt msg 3)
    let asn := field msg 4 2
    if x.lstate = .active then
      let (r, d) := match x.holdReq with
        | some (r1, d1) => (if r0 = HoldReason.freeze ∨ r1 = HoldReason.freeze then HoldReason.freeze else HoldReason.rest,
            if d0 = HoldDepth.lit ∨ d1 = HoldDepth.lit then HoldDepth.lit else HoldDepth.dark)
        | none => (r0, d0)
      if r = HoldReason.freeze ∨ s.portIdle p then
        -- the answer goes out before a dark depth takes the transmitter away
        let s := if d = HoldDepth.dark then s.ctlNow p 4 (holdAckBody true r d x.asn)
          else s.ctlSend p 4 (holdAckBody true r d x.asn)
        .next (s.enterHold p r d asn)
      else .next (s.ctlSend p 4 (holdAckBody false r d x.asn))
    else if x.lstate = .hold ∧ x.txOn then
      if x.holdReason = .rest ∧ x.holdDepth = .lit ∧ r0 = .rest ∧ d0 = .dark ∧ !s.dovetailPort p ∧
          s.rf aDepthCfg 23 16 ≠ 0 then
        let s := s.ctlNow p 4 (holdAckBody true .rest .dark x.asn)
        .next ((s.updPort p (fun x => { x with holdDepth := .dark, txOn := false })).optFollow (p / 8))
      -- every FREEZE request is accepted; the reason and the depth in force stay (R74, R77)
      else .next (s.ctlSend p 4 (holdAckBody (decide (r0 = .freeze)) x.holdReason x.holdDepth x.asn))
    else .next s

/-- HOLD_ACK (R72, step 4; R75, R77). -/
def execHoldAck (p : Nat) (msg : List Byte) (s : State) : Out :=
  match s.ctlTake p 4 msg with
  | none => .next s
  | some s =>
    let x := s.port p
    match x.holdReq with
    | none => .next s
    | some _ =>
      let r := holdReasonOf (byteAt msg 3)
      let d := holdDepthOf (byteAt msg 4)
      if byteAt msg 2 ≠ 1 then .next (s.setPort p { x.answered 3 with holdReq := none })
      else if x.lstate = .active then .next (s.enterHold p r d (field msg 5 2))
      else if x.lstate = .hold ∧ x.holdReason = .rest ∧ d = .dark then
        .next ((s.setPort p { x.answered 3 with holdReq := none, holdDepth := .dark, txOn := false }).optFollow
          (p / 8))
      else .next (s.setPort p { x.answered 3 with holdReq := none })

/-- WAKE (R72, step 5; R76, R77): the link leaves HOLD once both sides have sent it. -/
def execWake (p : Nat) (msg : List Byte) (s : State) : Out :=
  match s.ctlTake p 5 msg with
  | none => .next (s.ctlStale p 5 msg)
  | some s =>
    let x := s.port p
    if x.lstate = .active then
      -- an outstanding REST request is withdrawn (R77)
      .next (s.withdrawRest p)
    else if x.lstate = .hold ∧ x.resyncMsg.isNone then
      let sent := x.ctlWait.any (fun m => byteAt m 0 = 5)
      let s := ((s.wake (dSw (p / 16))).wake (dOpt (p / 8))).updPort p (fun x =>
        { (x.answered 5).answered 3 with gotAck := true, txOn := true, holdReq := none })
      let s := { s with trd := { s.trd with deepIdle := false } }
      let s := if sent then s else (s.ctlSend p 5 (leBytes 1 0)).updPort p (fun x => x.answered 5)
      .next (s.holdExit p)
    else .next s

/-- WAKE_PATTERN_DETECT (R76): light on a port held dark; the device returns from DEEP_IDLE (R45). -/
def execWakePatternDetect (p : Nat) (s : State) : Out :=
  let x := s.port p
  if x.lstate = .hold ∧ x.holdDepth = .dark then
    let s := { s with trd := { s.trd with deepIdle := false } }
    .next (((((s.wake dPln).wake dSec).wake (dSw (p / 16))).wake (dOpt (p / 8))).updPort p (fun x =>
      { x with txOn := true }))
  else .next s

/-- HOLD_LIMIT_EXPIRE (R72, step 6; R77): not once a WAKE has been received, nor on the ports a standby
holds (R502). -/
def execHoldLimitExpire (p : Nat) (s : State) : Out :=
  let x := s.port p
  if x.lstate = .hold ∧ x.holdReason = .freeze ∧ !x.gotAck ∧
      x.resyncMsg.isNone ∧ ¬ (s.dovetailPort p ∧ (s.role = 2 ∨ s.role = 3)) then .next (s.portDown p 4)
  else .next s

/-- DOWN_NOTICE (R69, R72): the peer has gone DOWN. -/
def execDownNotice (p : Nat) (msg : List Byte) (s : State) : Out :=
  match s.ctlTake p 9 msg with
  | none => .next s
  | some s =>
    let x := s.port p
    .next (if x.lstate = .active ∨ x.lstate = .hold then s.portDown p 5 else s)

/-- RESYNC (R72, step 7; R78): sent and received in HOLD-lit, with a peer that has declared RESYNC_CAP, if only
in this message; the link is ACTIVE once the port's domains are at RUN (R42). -/
def execResync (p : Nat) (msg : List Byte) (s : State) : Out :=
  match s.ctlTake p 10 msg with
  | none => .next (s.ctlStale p 10 msg)
  | some s =>
    let x := s.port p
    let sent := x.ctlWait.any (fun m => byteAt m 0 = 10)
    let mine := if sent then x.mineLanes else s.lanesMine p
    if x.lstate = .hold ∧ x.txOn ∧ x.holdDepth = .lit ∧ (x.peerResync ∨ bit (byteAt msg 17) 1) ∧ paramsOk msg ∧
        lanesBoth mine (byteAt msg 16) ≠ 0 then
      let s := if sent then s else s.sendParams p 10
      .next ((s.updPort p (fun x => { x.answered 10 with resyncMsg := some msg })).holdExit p)
    else .next s

/-! ### Width and lending (R79 to R81) -/

/-- Lanes carry the frame stream from a CW_COUNT on (R53, R79): the striping starts anew there.  The frames that
the stream carries until then are CONTROL frames of the HOLD and are not modelled one by one. -/
def Port.useLanes (x : Port) (mask cw : Nat) : Port :=
  if mask = x.laneActive then x else { x with laneActive := mask }.restripe cw

/-- WIDTH (R79 to R81): a change runs in a HOLD-lit.  R80 has a failure always accepted, so one that comes on an
ACTIVE link, or while this side's own change is in progress, is accepted too (log entry 128). -/
def execWidth (p : Nat) (msg : List Byte) (s : State) : Out :=
  match s.ctlTake p 6 msg with
  | none => .next (s.ctlStale p 6 msg)
  | some s =>
    let x := s.port p
    let mask := byteAt msg 2 % 16
    let cause := byteAt msg 3
    let cw := field msg 4 2
    let lost := lanesNot x.laneActive mask
    let no := s.ctlSend p 7 (leBytes 1 0 ++ leBytes 1 x.laneActive)
    -- the answer goes out before the new striping starts
    let yes (f : Port → Port) : State :=
      (s.ctlFrame p 7 (leBytes 1 1 ++ leBytes 1 mask)).updPort p (fun y => (f y).useLanes mask cw)
    if (x.lstate ≠ .hold ∧ x.lstate ≠ .active) ∨ !x.txOn ∨ mask = 0 then .next s
    else if cause = 1 then .next (yes (fun y => { y with laneFailed := y.laneFailed ||| lost }))
    -- one change at a time: a lend or a return that meets this side's own change is not accepted
    else if x.lstate ≠ .hold ∨ x.widthReq.isSome then .next no
    else if cause = 2 then
      let lendMin := s.rf (aPortCfg p) 11 10
      if lendMin ≠ 0 ∧ lendMin ≤ popcount 4 mask ∧ x.laneLent = 0 then
        .next (yes (fun y => { y with laneLent := lost }))
      else .next no
    else if cause = 3 then
      .next (yes (fun y => { y with laneLent := 0, laneFailed := lanesNot y.laneFailed mask }))
    else .next no

/-- WIDTH_ACK (R79, R81): the change asked for is in force, or refused; a refused lend ends the lane
calibration that asked for it (R563). -/
def execWidthAck (p : Nat) (msg : List Byte) (s : State) : Out :=
  match s.ctlTake p 7 msg with
  | none => .next s
  | some s =>
    let x := s.port p
    match x.widthReq with
    | none => .next s
    | some (mask, cause) =>
      let lost := lanesNot x.laneActive mask
      let s := s.setPort p (x.answered 6)
      if byteAt msg 2 = 1 then
        let s := s.updPort p (fun x => { x.useLanes mask x.widthAt with
          laneLent := if cause = 2 then lost else if cause = 3 then 0 else x.laneLent
          lentMine := decide (cause = 2) || (decide (cause = 1) && x.lentMine)
          laneFailed := if cause = 3 then lanesNot x.laneFailed (lanesNot mask x.laneActive) else x.laneFailed })
        .next ((s.widthDone p).holdExit p)
      else
        let s := if cause = 2 then s.testEnd 2 p stBusy 0 0 else s
        .next (s.widthDone p)

/-- LANE_RETIRE (R54, R80): a lane meets a retirement condition, and the others go on; with no lane left the
port goes DOWN (R72, step 8). DEDUCED: a lane the port still ran on when the last one failed is tried again
by the retraining of R72, step 9; one that a WIDTH exchange took out stays retired.  While the cluster's control core
restarts, the retirement waits and the last lane's failure does not (R437). -/
def execLaneRetire (p : Nat) (lane : LaneReport) (s : State) : Out :=
  let x := s.port p
  if laneRetires lane.num lane.why ∧ (x.lstate = .active ∨ x.lstate = .hold) ∧ lane.num < 4 ∧ bit x.laneActive lane.num then
    let failed := x.laneFailed ||| 2 ^ lane.num
    let working := lanesNot x.laneActive failed
    if working = 0 then
      let out := lanesNot x.laneFailed x.laneActive
      .next ((s.setPort p { x with laneFailed := out }).portDown p 1)
    else if s.ctlDown (p / 16) then .next (s.setPort p { x with laneFailed := failed })
    else .next ((s.setPort p { x with laneFailed := failed }).startWidth p working 1)
  else .next s

/-- Lane retirements that waited for the cluster's control core (R437). -/
def State.retireWaiting (s : State) (p : Nat) : State :=
  let x := s.port p
  let working := lanesNot x.laneActive x.laneFailed
  if (x.lstate = .active ∨ x.lstate = .hold) ∧ working ≠ x.laneActive ∧ x.widthReq.isNone then s.startWidth p working 1
  else s

/-- LANE_LEND_TIMEOUT (R81): a lent lane not returned counts as failed. -/
def execLaneLendTimeout (p : Nat) (s : State) : Out :=
  .next (s.updPort p (fun x => { x with
    laneFailed := x.laneFailed ||| x.laneLent, laneLent := 0, lentMine := false }))

/-! ### Pacing (R84, R86, R161) -/

/-- PACE_RX (R86): ignored and counted. -/
def execPaceRx (p : Nat) (msg : List Byte) (s : State) : Out :=
  match s.ctlTake p 8 msg with
  | none => .next s
  | some s => .next (s.updPort p (fun x => { x with paceIgnored := x.paceIgnored + 1 }))

/-- PACE_RESEND (R84): every PACE in force is sent again. -/
def execPaceResend (p : Nat) (s : State) : Out :=
  let x := s.port p
  let rates := ((paceChans.map (fun c => x.paceRate c.2)).filter (fun r => r ≠ 0)).eraseDups
  .next (rates.foldl (fun s r => s.paceSend p (x.paceMask r) r) s)

/-- PACE_RELEASE (R161): IN(p, v) has stayed below PACE_LO for 10 µs. -/
def execPaceRelease (p vc : Nat) (s : State) : Out :=
  match paceChans.find? (fun c => decide (c.1 = vc)) with
  | none => .next s
  | some c =>
    if (s.port p).paceCong.getD c.2 0 ≠ 0 ∧
        256 * s.inPicks p vc < s.rf aPaceCfg 23 16 * s.rf (aCredit p vc) 15 0 then
      .next (s.setPace p (fun x => { x with paceCong := x.paceCong.set c.2 0 }))
    else .next s

/-! ### Resting links (R392) -/

/-- LINK_REST_TIMER (R392): an idle EDGE or TRUNK link asks for REST HOLD-lit; PAIR links are never held. -/
def execLinkRestTimer (p : Nat) (s : State) : Out :=
  let x := s.port p
  if x.lstate = .active ∧ !s.ctlDown (p / 16) ∧ (s.portRole p = 1 ∨ s.portRole p = 2) ∧ s.portIdle p ∧ x.holdReq.isNone ∧
      (List.range 7).all (fun v => decide (s.inq p v = [])) then .next (s.askHold p .rest .lit)
  else .next s

/-- LINK_DARK_TIMER (R75, R392): a REST HOLD-lit link asks for HOLD-dark; never when LINK_DARK_MS is 0, nor on a
standby, whose ports rest HOLD-lit (R45, R544). -/
def execLinkDarkTimer (p : Nat) (s : State) : Out :=
  let x := s.port p
  if x.lstate = .hold ∧ x.holdReason = .rest ∧ x.holdDepth = .lit ∧ x.txOn ∧ x.holdReq.isNone ∧
      !s.dovetailPort p ∧ s.role ≠ 2 ∧ !s.ctlDown (p / 16) ∧ s.rf aDepthCfg 23 16 ≠ 0 then .next (s.askHold p .rest .dark)
  else .next s

/-! ### Port registers whose writes act (R87, R91, R92, R175, R596) -/

/-- A port is in quarantine. -/
def State.inQuar (s : State) (p : Nat) : Bool := !s.fwdEn p

/-- Take a port DARK (R72, step 10). -/
def State.portDark (s : State) (p : Nat) : State :=
  let x := s.port p
  if x.lstate = .dark then s
  else if x.lstate = .down then
    -- no new entry to DOWN: DOWN_CAUSE stays (R88)
    (s.updPort p (fun x => { x with lstate := .dark })).optFollow (p / 8)
  else (s.portLeave p 10 .dark true true).optFollow (p / 8)

/-- A write of PORT_CFG: the status it comes to, and the state (R19, R41, R72, R87, R185, R504, R544,
R548). -/
def State.portCfgSet (s : State) (p : Nat) (v : Word) : Nat × State :=
  let a := aPortCfg p
  let old := s.reg a
  let role := fld v 1 0
  let fwd := fld v 4 4
  if s.role = 2 ∧ fwd = 1 then (stState, s)
  else if fwd = 1 ∧ fld old 4 4 = 0 ∧ !s.pwr.leadSel ∧ (!s.host.bound ∨ s.selfEid = 0xFFFF) then (stState, s)
  else if role ≠ s.portRole p ∧ ¬ (s.darkOrOff p ∨ s.inQuar p) then (stState, s)
  else if fwd = 1 ∧ fld old 4 4 = 0 ∧ (s.port p).roleMismatch then (stState, s)
  else if role = 3 ∧ s.paired ∧ fwd ≠ fld old 4 4 then (stState, s)
  else if role = 3 ∧ !s.paired ∧ fwd = 1 then (stState, s)
  else if role ≠ s.portRole p ∧ (s.barred (dSw (p / 16)) ∨ s.barred (dOpt (p / 8))) then (stState, s)
  else if role ≠ 0 ∧ fld v 2 2 = 1 ∧ (s.barred (dSw (p / 16)) ∨ s.barred (dOpt (p / 8))) then (stState, s)
  else
    let res := if role ≠ 0 ∧ s.portRole p = 0 then s.portReserve p else some s
    match res with
    | none => (stFit, s)
    | some s =>
      let was := s.portRole p
      let s := if role = 0 ∨ fld v 2 2 = 0 then s.portDark p else s
      let s := s.setReg a (BitVec.ofNat 32 (v.toNat % 65536 - bits v.toNat 7 5 * 32 - bits v.toNat 3 3 * 8))
      let s := if role = 0 ∧ was ≠ 0 then s.portUnreserve p else s
      let s := if role ≠ 0 ∧ fld v 2 2 = 1 then s.wake (dOpt (p / 8)) else s
      -- a port whose link is up takes the PAIR role: it leaves quarantine on its own (R19, R504)
      let s := if role = 3 ∧ fld old 1 0 ≠ 3 ∧ (s.port p).lstate = .active then s.pairFwd p else s
      (stOk, s.uncut)

/-- A write of PORT_CREDIT_VCn: the range, and the reservation (R91, R185). -/
def State.portCreditSet (s : State) (p ch : Nat) (v : Word) : Nat × State :=
  let n := fld v 15 0
  if n < 65 ∨ 16384 < n then (stState, s)
  else if s.portRole p = 0 then (stOk, s.setRf (aCredit p ch) 15 0 n)
  else
    -- buffers still held stay reserved until they are returned (R184)
    match (s.poolRelease (p / 16) (.port p ch)).poolReserve (p / 16) (.port p ch) 0
        (max (portBufs n) ((s.pool (p / 16)).usedBy (.port p ch) 0)) with
    | none => (stFit, s)
    | some t => (stOk, t.setRf (aCredit p ch) 15 0 n)

/-- A write of PORT_SEL (R175). -/
def State.portSelSet (s : State) (p : Nat) (v : Word) : Nat × State :=
  if ¬ (s.darkOrOff p ∨ s.inQuar p) then (stState, s)
  else if s.portRole p = 1 ∨ s.portRole p = 3 then (stOk, s)
  else (stOk, s.setRf (aPortSel p) 0 0 (fld v 0 0))

/-- A direct write: a refused one sets PORT_STATUS.CFG_REJECT (R573). -/
def State.portWrite (s : State) (p : Nat) (r : Nat × State) : State :=
  if r.1 = stOk then r.2.mirrorPorts else s.setRf (aPortStatus p) 15 15 1

/-- PORT_CFG_WRITE (R87). -/
def execPortCfgWrite (path : Path) (p : Nat) (v : Word) (s : State) : Out :=
  if p < 128 ∧ s.pathOk path then .next (s.portWrite p (s.portCfgSet p v)) else .next s

/-- PORT_CREDIT_WRITE (R91). -/
def execPortCreditWrite (path : Path) (p ch : Nat) (v : Word) (s : State) : Out :=
  if p < 128 ∧ ch < 7 ∧ s.pathOk path then .next (s.portWrite p (s.portCreditSet p ch v)) else .next s

/-- PORT_LINK_ERR_CLEAR (R92). -/
def execPortLinkErrClear (path : Path) (p : Nat) (v : Word) (s : State) : Out :=
  if p < 128 ∧ s.pathOk path ∧ fld v 0 0 = 1 then .next (s.setReg (aLinkErr p) 0) else .next s

/-- PORT_QUAR_ERR_CLEAR (R596). -/
def execPortQuarErrClear (path : Path) (p : Nat) (v : Word) (s : State) : Out :=
  if p < 128 ∧ s.pathOk path ∧ fld v 0 0 = 1 then .next (s.setReg (aQuar p) 0) else .next s

end Sys2Proof.Machine
end

