-- ==== Sys2Proof/Machine/Seq.lean ====
section
/-!
DEFINITION. Sys2Proof/Machine/Seq.lean: sequence memory (chapter 09): frames and their counts, page tables
and translation, allocation, lends, moves of pages between stacks and devices, and the meanings of the
commands that the SEQ block serves.
-/

namespace Sys2Proof.Machine

/-! ### Windows the device opens for its own work (R138, R253, R371) -/

/-- The image that carries a library number and is RESIDENT (R260). -/
def State.libIndex (s : State) (n : Nat) : Option Nat :=
  (s.shed.images.find? (fun e => decide ((e.2.bind (·.library)) = some n) && decide (s.imgState e.1 = 2))).map (·.1)

/-- What the device has toward a destination: an open window, one that is not there yet, or one that could not be
opened, with its status. -/
inductive OwnWin where
  | at (w : Nat)
  | wait
  | refused (status : Nat)
  deriving DecidableEq, Repr

/-- The window that the device opens for a work item's remote pages, or for itself, toward a destination: an open one
that has not failed; otherwise the state goes on toward one.  One that was not granted fails what asked for it, once.
What the device asks for in its own WOPEN the spec does not give: it is drawn free within the legal ranges (DESIGN
CHOICE, log entry 21). -/
def State.ownWindow (s : State) (item : Option Nat) (image c dst : Nat) : OwnWin × State :=
  match s.flows.srcs.find? (fun e => (decide (e.2.state = .opened) || decide (e.2.state = .opening)) && e.2.own &&
      decide (e.2.item = item) && decide (e.2.dst = dst) && (item.isSome || decide (e.2.image = some image))) with
  | some (w, x) =>
    if x.failed ≠ 0 then
      if x.state = .opening then (.refused x.failed, s.setSrc w { srcReset with image := x.image, fsn := x.fsn })
      else (.wait, (s.setSrc w { x with state := .closing }).wcloseWhenDone w)
    else if x.state = .opened then (.at w, s) else (.wait, s)
  | none =>
    match s.freeCtx image with
    | none => (.wait, s)
    | some w =>
      if !s.mayInject c false then (.wait, s)
      else
        let (a, s) := s.draw
        let (b, s) := s.draw
        let (d, s) := s.draw
        let (e, s) := s.draw
        (.wait, (s.wopen c w dst item (1 + a % 4194304) (65 + b % 65471) (65 + d % 65471) (decide (e % 2 = 1))).updSrc w
          (fun y => { y with own := true }))

/-- The window of the MIRROR flow toward the partner, asked for with SPRAY = 0 (R138). -/
def State.mirrorWindow (s : State) : Option Nat × State :=
  let x := s.src mirrorCtx
  match x.state with
  | .opened => if x.failed ≠ 0 then (none, (s.setSrc mirrorCtx { x with state := .closing }).wcloseWhenDone mirrorCtx)
    else (some mirrorCtx, s)
  | .closed =>
    let (a, s) := s.draw
    let (b, s) := s.draw
    let (d, s) := s.draw
    (none, s.wopen plinthCluster mirrorCtx s.partner none (1 + a % 4194304) (65 + b % 65471) (65 + d % 65471) false)
  | _ => (none, s)

/-- Send a request in a window when R127 and R159 allow it and a buffer is had. -/
def State.ownSend (s : State) (c key w typ : Nat) (kind : OpKind) (size : Nat) (op data : List Byte) :
    Bool × State :=
  if (s.src w).allows (1 + ceilDiv data.length 64) (rspOf typ size) && s.mayInject c (decide (40 ≤ typ)) then
    let (ok, s) := s.injBuffer c key (ceilDiv data.length 64)
    if ok then (true, s.sendReq c key w typ false kind size op data) else (false, s)
  else (false, s)

/-- Form X operation fields (R101). -/
def opX (slotByte token layer imgByte entry status a0 a1 a2 : Nat) : List Byte :=
  leBytes 1 slotByte ++ leBytes 3 token ++ leBytes 2 layer ++ leBytes 1 imgByte ++ leBytes 1 0 ++
    leBytes 2 entry ++ leBytes 4 0 ++ leBytes 2 status ++ leBytes 8 a0 ++ leBytes 8 a1 ++ leBytes 8 a2

/-! ### Moves (R255, R256, R344, R371) -/

/-- On whose behalf bytes move: the item and image whose windows they use, the cluster and buffer key
they leave by, the context whose bench they touch, and the kind of the operation of move i. -/
structure Job where
  item  : Option Nat
  image : Nat
  c     : Nat
  key   : Nat
  x     : Nat
  typ   : Nat
  kind  : Nat → OpKind
  /-- the moves are an append's, which waits for a page that is MOVING (R244, R249) -/
  append : Bool := false

/-- Read and write the local side of a move. -/
def State.locGet (s : State) (x : Nat) (l : Loc) (n : Nat) : List Byte × State :=
  match l with
  | .bench a => (s.benchGet x a n, s)
  | .hbm a => s.memLoad a n
  | _ => ([], s)
def State.locPut (s : State) (x : Nat) (l : Loc) (b : List Byte) : State :=
  match l with
  | .bench a => s.benchPut x a b
  | .hbm a => s.memStore a b
  | _ => s

/-- A read of n bytes of a place meets an uncorrectable error (R315); one of HBM is counted. -/
def State.locBad (s : State) (x : Nat) (l : Loc) (n : Nat) : Bool :=
  match l with
  | .bench a => badIn (s.ctx x).benchBad a n
  | .hbm a => badIn s.pwr.hbmBad a n
  | _ => false
def State.locErr (s : State) (l : Loc) : State :=
  match l with
  | .hbm a => s.eccBump a
  | _ => s

/-- The device, and the address there, of a place across the fabric: sequence memory under the HBM tag, or an
address as its caller named it (R262). -/
def Loc.far : Loc → Option (Nat × Nat)
  | .fab e a => some (e, hbmTag + a)
  | .ext e a => some (e, a)
  | _ => none

/-- A place in a frame: of this device, or of a lender. -/
def Loc.inFrame (p : Option Nat × Nat) : Loc → Bool
  | .hbm a => decide (p.1 = none) && decide (a / 65536 = p.2)
  | .fab e a => decide (p.1 = some e) && decide (a / 65536 = p.2)
  | _ => false

/-- The frame a page that travels still stands in, by its page table entry. -/
def State.oldPlace (s : State) (p : PageMove) : Option Nat × Nat :=
  let e := leNat (s.memGet (s.rf (aL1 p.slot (p.lpn / 8192)) 22 0 * 65536 + p.lpn % 8192 * 8) 8)
  (if bit e 62 then some (bits e 47 32) else none, bits e 22 0)

/-- A place in a page that travels, to a lender or home from one (R255, R256). -/
def State.moving (s : State) (l : Loc) : Bool :=
  ((s.seq.evac.bind (·.page)).toList ++ s.seq.recalling.filterMap (·.page)).any (fun p => l.inFrame (s.oldPlace p))

/-- Take one move a step further: a move within the device is performed, one over the fabric is asked for
or its end is collected.  A failure's status is told; data with an uncorrectable error goes nowhere (R315, R344). -/
def State.moveOne (s : State) (j : Job) (i : Nat) (m : Move) : Move × Nat × State :=
  if m.done = 2 then (m, stOk, s)
  else if m.done = 1 then
    match s.takeEnd (j.kind i) with
    | none => (m, stOk, s)
    | some (e, s) =>
      if e.status ≠ stOk then ({ m with done := 2 }, e.status, s)
      else
        (({ m with done := 2 }), stOk, if m.src.far.isSome then s.locPut j.x m.dst (e.data.take m.n) else s)
  else if j.append && (s.moving m.dst || s.moving m.src) then (m, stOk, s)
  else if s.locBad j.x m.src m.n then ({ m with done := 2 }, stPathLost, s.locErr m.src)
  else
    match m.src.far, m.dst.far, m.dst with
    | some (eid, a), _, _ =>
      match s.ownWindow j.item j.image j.c eid with
      | (.wait, s) => (m, stOk, s)
      | (.refused st, s) => ({ m with done := 2 }, st, s)
      | (.at w, s) =>
        let (ok, s) := s.ownSend j.c j.key w 2 (j.kind i) m.n (opM a m.n 0 0 0 0) []
        (if ok then { m with done := 1 } else m, stOk, s)
    | _, some (eid, a), _ =>
      match s.ownWindow j.item j.image j.c eid with
      | (.wait, s) => (m, stOk, s)
      | (.refused st, s) => ({ m with done := 2 }, st, s)
      | (.at w, s) =>
        let (b, t) := s.locGet j.x m.src m.n
        let (ok, s) := t.ownSend j.c j.key w j.typ (j.kind i) m.n (opM a m.n 0 0 0 0) b
        (if ok then { m with done := 1 } else m, stOk, s)
    | _, _, .twin a =>
      match s.mirrorWindow with
      | (none, s) => (m, stOk, s)
      | (some w, s) =>
        let (b, t) := s.locGet j.x m.src m.n
        let (ok, s) := t.ownSend j.c j.key w 0x28 (j.kind i) m.n (opM (hbmTag + a) m.n 0 0 0 0) b
        (if ok then { m with done := 1 } else m, stOk, s)
    | _, _, _ =>
      let (b, s) := s.locGet j.x m.src m.n
      ({ m with done := 2 }, stOk, s.locPut j.x m.dst b)

/-- Take every move of a list a step further; the first failure's status is told. -/
def State.moveAll (s : State) (j : Job) : Nat → List Move → List Move × Nat × State
  | _, [] => ([], stOk, s)
  | i, m :: r =>
    let (m, st, s) := s.moveOne j i m
    let (r, st', s) := State.moveAll s j (i + 1) r
    (m :: r, if st ≠ stOk then st else st', s)

/-- Cut a move into pieces of at most 4,096 bytes (R98), at most `fuel` of them. -/
def movePieces : Nat → Loc → Loc → Nat → List Move
  | 0, _, _, _ => []
  | fuel + 1, a, b, n =>
    let next (l : Loc) : Loc :=
      match l with
      | .bench x => .bench (x + 4096)
      | .hbm x => .hbm (x + 4096)
      | .fab e x => .fab e (x + 4096)
      | .ext e x => .ext e (x + 4096)
      | .twin x => .twin (x + 4096)
    if n ≤ 4096 then [⟨a, b, n, 0⟩] else ⟨a, b, 4096, 0⟩ :: movePieces fuel (next a) (next b) (n - 4096)

def movesDone (l : List Move) : Bool := l.all (fun m => decide (m.done = 2))

/-- The moves of a list whose operation has come back with a failure, with its status. -/
def State.moveFails (s : State) (j : Job) (l : List Move) : List (Move × Nat) :=
  l.zipIdx.filterMap (fun m =>
    if m.1.done ≠ 1 then none
    else (s.flows.ends.find? (fun e => decide (e.kind = j.kind m.2) && decide (e.status ≠ stOk))).map (fun e => (m.1, e.status)))

/-- The same byte of another frame. -/
def Loc.rebase (n : Option Nat × Nat) (a : Nat) : Loc :=
  match n.1 with
  | none => .hbm (n.2 * 65536 + a % 65536)
  | some e => .fab e (n.2 * 65536 + a % 65536)
def Loc.follow (o n : Option Nat × Nat) (l : Loc) : Loc :=
  if l.inFrame o then
    match l with
    | .hbm a => .rebase n a
    | .fab _ a => .rebase n a
    | l => l
  else l

/-- A move that has not begun follows its page from one frame to another; the copy of a page that has gone to a
lender is not made (R257). -/
def Move.follow (o n : Option Nat × Nat) (m : Move) : Move :=
  if m.done ≠ 0 then m
  else
    match m.dst with
    | .twin a =>
      if !m.src.inFrame o then m
      else if n.1.isSome then { m with done := 2 }
      else { m with src := m.src.follow o n, dst := .twin (n.2 * 65536 + a % 65536) }
    | _ => { m with src := m.src.follow o n, dst := m.dst.follow o n }

/-- A page has switched: appends and reads that were translated before use the new frame (R249). -/
def State.follow (s : State) (o n : Option Nat × Nat) : State :=
  { s with ctxs := s.ctxs.map (fun e => (e.1, { e.2 with copies := e.2.copies.map (fun k =>
      { k with moves := k.moves.map (Move.follow o n) }) })) }

/-- An append to a lender's frame is on its way. -/
def State.writing (s : State) (eid frame : Nat) : Bool :=
  s.ctxs.any (fun e => e.2.copies.any (fun k => decide (k.kind = 1) && k.moves.any (fun m =>
    decide (m.done = 1) && m.dst.inFrame (some eid, frame))))

/-! ### Frames (R237, R238) -/

def State.frameUse (s : State) (f : Nat) : FrameUse := tabGet (fun _ => .free) s.seq.frames f
def State.setFrame (s : State) (f : Nat) (u : FrameUse) : State :=
  { s with seq := { s.seq with frames := tabSet (fun _ => .free) s.seq.frames f u } }

/-- Sequence frames of a stack that are in use, those that are taken (in use or withdrawn), and those free. -/
def State.stackUsed (s : State) (n : Nat) : Nat :=
  (s.seq.frames.filter (fun e => decide (s.frameStack e.1 = n) && decide (e.2 ≠ .bad))).length
def State.stackTaken (s : State) (n : Nat) : Nat :=
  (s.seq.frames.filter (fun e => decide (s.frameStack e.1 = n))).length
def State.stackFree (s : State) (n : Nat) : Nat := s.stackFrames n - s.stackTaken n

/-- The stack takes allocations (R238). -/
def State.inAlloc (s : State) (n : Nat) : Bool := !s.isOff (dHbm n) && !bit s.seq.outMask n

def State.sl (s : State) (n w hi lo : Nat) : Nat := s.rf (aSlot n w) hi lo
/-- STATE of a slot: 0 FREE, 1 OPEN, 2 RELEASING. -/
def State.slotState (s : State) (n : Nat) : Nat := s.sl n 0 31 29
def State.slotLocal (s : State) (n : Nat) : Nat := s.sl n 10 22 0
def State.slotRsv (s : State) (n : Nat) : Nat := s.sl n 7 22 0
def State.slotPeer (s : State) (n : Nat) : Nat := s.sl n 9 31 16
/-- Bytes per token per layer: BPT_64 holds BPT / 64 for every kind of an OPEN slot (R239, R240). -/
def State.bpt (s : State) (n : Nat) : Nat := 64 * s.sl n 3 15 0
def State.tpp (s : State) (n : Nat) : Nat := s.sl n 5 10 0
def State.ppl (s : State) (n : Nat) : Nat := s.sl n 6 21 0
def State.layerLen (s : State) (n l : Nat) : Nat := s.rf (aLen n l) 21 0

/-- The batches of free frames that HBM_SCANs have set aside: 16,384 of a stack, or what it has (R563). -/
def State.scanAside (s : State) : Nat :=
  sumNat ((List.range 8).map (fun n =>
    if s.inAlloc n && s.pwr.tests.any (fun t => decide (t.1 = 7) && decide (t.2.1 = n)) then min 16384 (s.stackFree n) else 0))

/-- FREE, RSV and AVAIL of R238. -/
def State.seqFree (s : State) : Nat :=
  sumNat (((List.range 8).filter (fun n => s.inAlloc n)).map s.stackFree)
def State.seqRsv (s : State) : Nat :=
  sumNat (((List.range 32).filter (fun n => decide (s.slotState n = 1))).map (fun n => s.slotRsv n - s.slotLocal n))
def State.seqAvail (s : State) : Nat :=
  s.seqFree - s.seqRsv - ((s.seq.evac.map (·.aside)).getD 0) - s.scanAside

/-- Frames lent now, and those lent to an EID. -/
def State.lent (s : State) : Nat :=
  (s.seq.frames.filter (fun e => match e.2 with | .lent _ => true | _ => false)).length

/-- The first free frame of a block at or after f, wrapping. -/
def State.freeFrameFrom (s : State) (base n : Nat) : Nat → Nat → Nat
  | 0, f => f
  | fuel + 1, f => if s.frameUse f = .free then f
    else State.freeFrameFrom s base n fuel (if f + 1 < base + n then f + 1 else base)

/-- Take a free frame of a stack: which one is not specified (R248). -/
def State.takeFrame (s : State) (n : Nat) (u : FrameUse) : Nat × State :=
  let (r, s) := s.draw
  let base := s.stackBase n
  let k := s.stackFrames n
  let f := s.freeFrameFrom base k (s.stackTaken n) (base + r % max 1 k)
  (f, s.setFrame f u)

/-! ### Page tables (R242, R243) -/

/-- The level-1 entry of an LPN: the level-2 frame, if VALID. -/
def State.l2Frame (s : State) (n lpn : Nat) : Option Nat :=
  let a := aL1 n (lpn / 8192)
  if s.rf a 31 31 = 1 then some (s.rf a 22 0) else none

/-- The page table entry of an LPN; 0 when there is none. -/
def State.pte (s : State) (n lpn : Nat) : Nat :=
  match s.l2Frame n lpn with
  | none => 0
  | some f => leNat (s.memGet (f * 65536 + lpn % 8192 * 8) 8)
def State.setPte (s : State) (n lpn e : Nat) : State :=
  match s.l2Frame n lpn with
  | none => s
  | some f => (s.memPut (f * 65536 + lpn % 8192 * 8) (leBytes 8 e)).mirrorPte n lpn e

def pteValid (e : Nat) : Bool := bit e 63
def pteRemote (e : Nat) : Bool := bit e 62
def pteLost (e : Nat) : Bool := bit e 61
def pteMoving (e : Nat) : Bool := bit e 60
def pteEid (e : Nat) : Nat := bits e 47 32
def pteFrame (e : Nat) : Nat := bits e 22 0
/-- An entry's bits. -/
def mkPte (frame : Nat) (peer : Option Nat) : Nat :=
  2 ^ 63 + (match peer with | some p => 2 ^ 62 + p * 2 ^ 32 | none => 0) + frame
def pteSetMoving (e : Nat) (b : Bool) : Nat := putBits e 60 60 (b2n b)

/-- Every VALID entry of a slot: LPN and entry. -/
def State.slotPages (s : State) (n : Nat) : List (Nat × Nat) :=
  (List.range 512).flatMap (fun i =>
    if s.rf (aL1 n i) 31 31 = 1 then
      (List.range 8192).filterMap (fun k =>
        let e := s.pte n (8192 * i + k)
        if pteValid e then some (8192 * i + k, e) else none)
    else [])

/-- The stacks of a mask, ascending. -/
def maskStacks (m : Nat) : List Nat := bitList 8 m

/-- The preferred stack of an LPN (R247). -/
def State.prefStack (s : State) (n lpn : Nat) : Nat :=
  if s.sl n 0 25 24 = 1 then s.sl n 0 2 0
  else
    let l := maskStacks (s.sl n 0 23 16)
    l.getD (lpn % max 1 (s.ppl n) / 128 % max 1 l.length) 0

/-! ### Allocation (R248) -/

/-- The sources 1 to 3 of R248 in order, with whether each needs the slot to be below FRAME_MAX. -/
def State.sources (s : State) (n pref : Nat) : List Nat × List Nat :=
  let m := (maskStacks (s.sl n 0 23 16)).filter (fun k => k ≠ pref)
  let first := pref :: (m.filter (fun k => pref < k) ++ m.filter (fun k => k < pref))
  (first, (List.range 8).filter (fun k => !first.contains k))

/-- A local frame for slot n, skipping a stack that is being evacuated. -/
def State.allocLocal (s : State) (n pref : Nat) : Option (Nat × State) :=
  let (first, rest) := s.sources n pref
  let have_ := s.slotLocal n
  let max_ := s.sl n 8 22 0
  let inRsv := decide (have_ < s.slotRsv n)
  let ok (k : Nat) : Bool := s.inAlloc k && decide (0 < s.stackFree k) && (inRsv || decide (0 < s.seqAvail))
  let a := if max_ = 0 ∨ have_ < max_ then first.find? ok else none
  let k := match a with
    | some k => some k
    | none => if inRsv then rest.find? ok else none
  k.map (fun k =>
    let (f, s) := s.takeFrame k (.slot n)
    (f, s.setRf (aSlot n 10) 22 0 (have_ + 1)))

/-- How often a slot has been opened. -/
def State.opening (s : State) (n : Nat) : Nat := tabGet (fun _ => 0) s.seq.openings n

/-- Ask the lender of a slot for one frame by a CALL to its LEND entry, once; where no window for it can be had, the
allocation fails (R253). -/
def State.askLend (s : State) (item : Option Nat) (image c key n : Nat) : State :=
  if s.seq.asked.contains n then s
  else
    let peer := s.slotPeer n
    match s.ownWindow item image c peer with
    | (.wait, s) => s
    | (.refused _, s) => { s with seq := { s.seq with refused := n :: s.seq.refused } }
    | (.at w, s) =>
      let (ok, s) := s.ownSend c key w 4 (.lend n (s.opening n) peer) 0 (opX 0 0 0 64 5 0 1 0 0) []
      if ok then { s with seq := { s.seq with asked := n :: s.seq.asked } } else s

/-- Queue frames to be returned to a lender (R252). -/
def State.queueReturn (s : State) (eid : Nat) (fs : List Nat) : State :=
  if fs = [] then s else { s with seq := { s.seq with returns := s.seq.returns ++ [(eid, fs)] } }

/-- Collect the answers of LEND calls: a frame, a refusal, or a frame that comes after its slot has left
OPEN, which is returned at once (R253). -/
def State.lendSettle (s : State) : State :=
  s.flows.ends.foldl (fun s e =>
    match e.kind with
    | .lend n k eid =>
      let s := { s with flows := { s.flows with ends := delFirst (fun y => decide (y.kind = e.kind)) s.flows.ends } }
      let got := if e.status = stOk ∧ 4 ≤ e.data.length then [field e.data 0 4] else []
      if s.slotState n ≠ 1 ∨ s.opening n ≠ k then s.queueReturn eid got
      else { s with seq := { s.seq with
        asked := s.seq.asked.filter (fun i => i ≠ n)
        lentIn := s.seq.lentIn ++ got.map (fun f => (n, f))
        refused := if got = [] then n :: s.seq.refused else s.seq.refused } }
    | _ => s) s

/-- What an allocation or a translation comes to. -/
inductive SeqR where
  | at (eid : Option Nat) (addr : Nat)
  | fail (status : Nat)
  | wait
  deriving DecidableEq, Repr

/-- Who asks for a translation: a work item and its image, the cluster and buffer key of its packets. -/
structure Asker where
  item  : Option Nat
  image : Nat
  c     : Nat
  key   : Nat

/-- Make sure the level-2 frame of an LPN is there; none when no frame can be had. -/
def State.needL2 (s : State) (n lpn c : Nat) : Option State :=
  if (s.l2Frame n lpn).isSome then some s
  else (s.allocLocal n c).map (fun (f, s) =>
    ((s.memClear (f * 65536) 65536).setReg (aL1 n (lpn / 8192)) (BitVec.ofNat 32 (2 ^ 31 + f))).mirrorSlot n)

/-- Allocate the page of an LPN: a local frame, or one lent by PEER_EID (R248, R253). -/
def State.allocPage (s : State) (q : Asker) (n lpn : Nat) : SeqR × State :=
  match s.allocLocal n (s.prefStack n lpn) with
  | some (f, s) => (.at none (f * 65536), s.setPte n lpn (mkPte f none))
  | none =>
    let max_ := s.sl n 8 22 0
    if s.sl n 0 27 27 = 1 ∧ (max_ = 0 ∨ s.slotLocal n ≤ max_) then
      match s.seq.lentIn.find? (fun x => decide (x.1 = n)) with
      | some (_, f) =>
        let s := { s with seq := { s.seq with lentIn := delFirst (fun x => decide (x.1 = n)) s.seq.lentIn } }
        let s := s.setRf (aSlot n 11) 22 0 (s.sl n 11 22 0 + 1)
        (.at (some (s.slotPeer n)) (f * 65536), s.setPte n lpn (mkPte f (some (s.slotPeer n))))
      | none =>
        if s.seq.refused.contains n then
          (.fail stSeqFull, { s with seq := { s.seq with refused := s.seq.refused.filter (fun k => k ≠ n) } })
        else (.wait, s.askLend q.item q.image q.c q.key n)
    else (.fail stSeqFull, s)

/-! ### Translation (R244) -/

/-- Count a failed access (R269). -/
def State.seqFail (s : State) (st : Nat) : State :=
  if st = stSeqFull then s.bump (aSeqErr 0) 31 16 1
  else if st = stRemoteLost then s.bump (aSeqErr 1) 31 16 1 else s

/-- A translation: the address of a byte, a failure, or a wait.  A read that an item makes is noted, so
that an old frame outlives it (R255, step 4).  A wait keeps only what was sent to end it. -/
def State.translate (s : State) (q : Asker) (n layer token byte size : Nat) (append : Bool) : SeqR × State :=
  if s.slotState n ≠ 1 then (.fail stNoSlot, s)
  else if s.sl n 3 31 16 ≤ layer ∨ s.bpt n < byte + size then (.fail stSeqRange, s)
  else if append ∧ s.sl n 4 21 0 ≤ token then (.fail stSeqFull, s.seqFail stSeqFull)
  else if !append ∧ s.layerLen n layer ≤ token then (.fail stSeqRange, s)
  else
    let lpn := layer * s.ppl n + token / max 1 (s.tpp n)
    let ofs := token % max 1 (s.tpp n) * s.bpt n + byte
    match s.needL2 n lpn q.c with
    | none => (.fail stSeqFull, s.seqFail stSeqFull)
    | some t =>
      let (r, t) := if pteValid (t.pte n lpn) then (SeqR.at none 0, t) else t.lendSettle.allocPage q n lpn
      match r with
      | .fail st => (.fail st, t.seqFail st)
      | .wait => (.wait, t)
      | .at _ _ =>
        let e := t.pte n lpn
        if pteLost e ∨ (pteRemote e ∧ t.rtGone (pteEid e)) then (.fail stRemoteLost, t.seqFail stRemoteLost)
        else if pteMoving e ∧ append then (.wait, s)
        else if pteRemote e then (.at (some (pteEid e)) (pteFrame e * 65536 + ofs), t)
        else
          let t := match q.item with
            | some i => t.updItem i (fun y =>
                { y with reads := if y.reads.contains (pteFrame e) then y.reads else pteFrame e :: y.reads })
            | none => t
          (.at none (pteFrame e * 65536 + ofs), t)

/-- Translate n tokens from a token: their places, or the first failure, or a wait; what was allocated on
the way stays the slot's (DEDUCED from the steps of R244). -/
def State.translateAll (s : State) (q : Asker) (slot layer byte size : Nat) (append : Bool) :
    Nat → Nat → List (Option Nat × Nat) × SeqR × State
  | 0, _ => ([], .at none 0, s)
  | n + 1, token =>
    match s.translate q slot layer token byte size append with
    | (.at e a, t) =>
      let (l, r, t) := State.translateAll t q slot layer byte size append n (token + 1)
      ((e, a) :: l, r, t)
    | (r, t) => ([], r, t)

/-- Mark the remote entries that name a lender's frame LOST (R254). -/
def State.markLost (s : State) (eid frame : Nat) : State :=
  (List.range 32).foldl (fun s n => (s.slotPages n).foldl (fun s x =>
    if pteRemote x.2 ∧ pteEid x.2 = eid ∧ pteFrame x.2 = frame then s.setPte n x.1 (putBits x.2 61 61 1) else s) s) s

/-- LEN becomes max(LEN, t + n) (R245). -/
def State.raiseLen (s : State) (n l len : Nat) : State :=
  if s.layerLen n l < len then s.setRf (aLen n l) 21 0 len else s

/-! ### Commands of the SEQ block (R241, R250, R252, R255, R256, R268) -/

/-- The status of the last command, at its end. -/
def State.seqEnd (s : State) (src : Src) (status : Nat) (reply : List Byte) : State :=
  (s.setRf aSeqSt 15 0 status).answer src status reply

/-- A request of the SEQ block made by a write of SEQ_CMD, or by the Cuing command SEQ_CMD: ANY and
EVAC_REMOTE, stack, slot, EID; none when it is another command. -/
def State.seqReq (s : State) (src : Src) (code : Nat) : Option (Bool × Bool × Nat × Nat × Nat) :=
  match src with
  | .reg path a v =>
    if a = aSeqCmd ∧ s.pathOk path ∧ fld v 31 28 = code ∧ s.plnUp then
      some (fld v 27 27 = 1, fld v 26 26 = 1, fld v 7 5, fld v 4 0, s.rf aSeqArg 15 0)
    else none
  | .cmd tag =>
    match s.cmd tag 0x0503 with
    | some p =>
      if byteAt p.payload 0 = code then
        some (false, bit (byteAt p.payload 1) 7, bits (byteAt p.payload 1) 2 0, byteAt p.payload 2 % 32,
          field p.payload 4 2)
      else none
    | none => none

/-- Every field of a descriptor is in range (R239, R241, row 3). -/
def slotFieldsOk (d : List Word) : Bool :=
  let f (w hi lo : Nat) : Nat := fld (d.getD w 0) hi lo
  let kind := f 1 31 28
  let fmt := f 1 23 16
  decide (kind ≤ 2) && decide (f 0 25 24 ≤ 1) && decide (0x10 ≤ fmt ∧ fmt ≤ 0x14) &&
  decide (1 ≤ f 3 31 16 ∧ f 3 31 16 ≤ 4096) && decide (1 ≤ f 4 21 0 ∧ f 4 21 0 ≤ 2097152) &&
  (if kind = 2 then decide (1 ≤ f 3 15 0 ∧ f 3 15 0 ≤ 1024)
   else decide (16 ≤ f 2 31 16 ∧ f 2 31 16 ≤ 1024) &&
    (if kind = 0 then decide (1 ≤ f 1 15 8 ∧ f 1 15 8 ≤ 64) && decide (f 2 15 0 = 0)
     else decide (f 1 15 8 = 1) && decide (f 2 15 0 ≤ 256)))

/-- BPT of a descriptor (R240). -/
def descBpt (d : List Word) : Nat :=
  let f (w hi lo : Nat) : Nat := fld (d.getD w 0) hi lo
  let fmt := f 1 23 16
  let eb := if fmt ≤ 0x11 then 1 else if fmt ≤ 0x13 then 2 else 4
  let raw := if f 1 31 28 = 0 then 2 * f 1 15 8 * f 2 31 16 * eb
    else if f 1 31 28 = 1 then (f 2 31 16 + f 2 15 0) * eb else 64 * f 3 15 0
  ceilDiv raw 64 * 64

/-- The image a descriptor names as the owner (R241). -/
def descOwner (d : List Word) : Option Nat :=
  if fld (d.getD 12 0) 31 31 = 1 then some (fld (d.getD 12 0) 5 0) else none

/-- The slot is FREE and open to the owner named. -/
def State.slotOpenTo (s : State) (n : Nat) (owner : Option Nat) : Bool :=
  decide (s.slotState n = 0) &&
    match tabGet (fun _ => none) s.seq.reserved n with
    | none => true
    | some i => decide (owner = some i)

/-- A descriptor breaks row 3 of R241. -/
def State.descBad (s : State) (d : List Word) : Bool :=
  let bpt := descBpt d
  let ppl := ceilDiv (fld (d.getD 4 0) 21 0) (max 1 (65536 / max 1 bpt))
  let peer := fld (d.getD 9 0) 31 16
  !slotFieldsOk d || decide (65536 < bpt) || decide (4194304 < fld (d.getD 3 0) 31 16 * ppl) ||
    decide (fld (d.getD 0 0) 23 16 = 0) || (decide (fld (d.getD 0 0) 28 28 = 1) && !s.paired) ||
    (decide (fld (d.getD 0 0) 27 27 = 1) && (decide (peer = s.selfEid) || s.rtGone peer))

/-- OPEN: the status it comes to, the slot, and the state (R240, R241). -/
def State.slotOpen (s : State) (any : Bool) (slot : Nat) (d : List Word) : Nat × Nat × State :=
  let owner := descOwner d
  let pick := (List.range 32).find? (fun n => s.slotOpenTo n owner)
  if any ∧ pick = none then (stNoSlot, slot, s)
  else
    let n := if any then pick.getD 0 else slot
    if s.fallback ∨ (!any ∧ !s.slotOpenTo n owner) then (stState, n, s)
    else if s.descBad d then (stUnsup, n, s)
    else if s.seqAvail < fld (d.getD 7 0) 22 0 then (stFit, n, s)
    else
      let bpt := descBpt d
      let tpp := 65536 / bpt
      let s := s.setRegs (aSlot n 0) (d.take 13)
      let s := (s.setRf (aSlot n 0) 31 29 1).setRf (aSlot n 0) 26 26 0
      let s := (s.setRf (aSlot n 3) 15 0 (bpt / 64)).setReg (aSlot n 5) (BitVec.ofNat 32 tpp)
      let s := s.setReg (aSlot n 6) (BitVec.ofNat 32 (ceilDiv (s.sl n 4 21 0) tpp))
      let s := (s.setReg (aSlot n 10) 0).setReg (aSlot n 11) 0
      let s := { s with seq := { s.seq with openings := tabUpd (fun _ => 0) s.seq.openings n (· + 1) } }
      let s := s.clearRegs (fun a => (aLen n 0 ≤ a && a < aLen n 4096) || (aL1 n 0 ≤ a && a < aL1 n 512))
      (stOk, n, s)

/-- The writable bits of a slot context word (R239). -/
def slotMask (w : Nat) (v : Word) : Word :=
  let m := if w = 0 then 0x1BFFFF07 else if w = 1 then 0xF0FFFF00 else if w = 4 then 0x3FFFFF
    else if w = 7 ∨ w = 8 then 0x7FFFFF else if w = 9 then 0xFFFF0000 else if w = 12 then 0x8000003F
    else if w = 2 ∨ w = 3 then 0xFFFFFFFF else 0
  v &&& BitVec.ofNat 32 m

/-- The writable words of a slot context, as a descriptor. -/
def State.slotDesc (s : State) (n : Nat) : List Word :=
  (List.range 13).map (fun w => slotMask w (s.reg (aSlot n w)))

/-- SLOT_OPEN (R241, R268, R493). -/
def execSlotOpen (src : Src) (s : State) : Out :=
  match src with
  | .reg _ _ _ =>
    match s.seqReq src 1 with
    | none => .next s
    | some (any, _, _, slot, _) =>
      let (st, n, s) := s.slotOpen any slot (s.slotDesc slot)
      let s := s.setRf aSeqSt 20 16 n
      .next ((if st = stOk then s.mirrorSlot n else s).seqEnd src st [])
  | .cmd tag =>
    match s.cmd tag 0x0501 with
    | none => .next s
    | some p =>
      if p.payload.length ≠ 56 then .next (s.seqEnd src stUnsup [])
      else
        let d := (List.range 13).map (fun w => slotMask w ((bytesToWords 13 (p.payload.drop 4)).getD w 0))
        let (st, n, s) := s.slotOpen (bit (byteAt p.payload 0) 7) (byteAt p.payload 0 % 32) d
        let s := (s.setRf aSeqSt 20 16 n).setRf aSeqSt 15 0 st
        if st = stOk then .next (s.mirrorAnswer 5 n (s.bodySlot n) src (leBytes 1 n))
        else .next (s.answer src st [])

/-- RELEASE takes an OPEN slot to RELEASING (R250). -/
def State.slotRelease (s : State) (n : Nat) : Nat × State :=
  if s.fallback ∨ s.slotState n ≠ 1 then (stState, s) else (stOk, s.setRf (aSlot n 0) 31 29 2)

/-- SLOT_RELEASE (R250). -/
def execSlotRelease (src : Src) (s : State) : Out :=
  match src with
  | .reg _ _ _ =>
    match s.seqReq src 2 with
    | none => .next s
    | some (_, _, _, n, _) =>
      let (st, s) := s.slotRelease n
      .next ((if st = stOk then s.mirrorSlot n else s).seqEnd src st [])
  | .cmd tag =>
    match s.cmd tag 0x0502 with
    | none => .next s
    | some p =>
      if p.payload.length ≠ 1 ∨ 32 ≤ byteAt p.payload 0 then .next (s.seqEnd src stUnsup [])
      else
        let n := byteAt p.payload 0
        let (st, s) := s.slotRelease n
        let s := s.setRf aSeqSt 15 0 st
        if st = stOk then .next (s.mirrorAnswer 5 n (s.bodySlot n) src []) else .next (s.answer src st [])

/-- The slot a work item names, if SLOT_VALID. -/
def Item.slot (i : Item) : Option Nat := if bit (byteAt i.form 0) 7 then some (byteAt i.form 0 % 32) else none

/-- The pages of a slot that travel stop: the frames they were on the way to are given back. -/
def State.slotStill (s : State) (n : Nat) : State :=
  let home := s.seq.recalling.filterMap (fun b => b.page.bind (fun p => if p.slot = n then some p.frame else none))
  let s := match s.seq.evac.bind (·.page) with
    | some p => if p.slot = n then s.queueReturn (s.slotPeer n) [p.frame] else s
    | none => s
  let still (o : Option PageMove) : Option PageMove := o.bind (fun p => if p.slot = n then none else some p)
  { s with seq := { s.seq with
    frames := s.seq.frames.filter (fun e => !home.contains e.1)
    evac := s.seq.evac.map (fun e => { e with page := still e.page })
    recalling := s.seq.recalling.map (fun b => { b with page := still b.page }) } }

/-- Free every local frame of a slot, queue its remote frames for RETURN, and make it FREE (R250).  The partner is
told that every entry goes (R257). -/
def State.slotFree (s : State) (n : Nat) : State :=
  let s := s.slotStill n
  let pages := s.slotPages n
  let s := pages.foldl (fun s x => s.mirrorPte n x.1 0) s
  let remote := pages.filter (fun x => pteRemote x.2 && !pteLost x.2)
  let eids := (remote.map (fun x => pteEid x.2)).eraseDups
  let s := eids.foldl (fun s e => s.queueReturn e ((remote.filter (fun x => pteEid x.2 = e)).map (fun x => pteFrame x.2))) s
  let s := s.queueReturn (s.slotPeer n) ((s.seq.lentIn.filter (fun x => x.1 = n)).map (·.2))
  let s := { s with seq := { s.seq with
    lentIn := s.seq.lentIn.filter (fun x => x.1 ≠ n)
    refused := s.seq.refused.filter (fun k => k ≠ n)
    asked := s.seq.asked.filter (fun k => k ≠ n)
    frames := s.seq.frames.filter (fun e => e.2 ≠ FrameUse.slot n) } }
  let s := s.clearRegs (fun a => (aL1 n 0 ≤ a && a < aL1 n 512) || (aLen n 0 ≤ a && a < aLen n 4096))
  let s := (s.setReg (aSlot n 10) 0).setReg (aSlot n 11) 0
  (s.setRf (aSlot n 0) 31 29 0).mirrorSlot n

/-- Send the queued RETURNs that can be sent, at most 1,024 frames in a call, each in a flow of the sequence library
(R252, R253).  One whose window cannot be opened has failed, and is counted (R250). -/
def State.sendReturns (s : State) : State :=
  match s.libIndex 0 with
  | none => s
  | some im =>
    s.seq.returns.foldl (fun s x =>
      let left := x.2.drop 1024
      let gone (s : State) : State :=
        { s with seq := { s.seq with
          returns := delFirst (fun y => decide (y = x)) s.seq.returns ++ (if left = [] then [] else [(x.1, left)]) } }
      match s.ownWindow none im plinthCluster x.1 with
      | (.wait, s) => s
      | (.refused _, s) => (gone s).bump (aSeqErr 1) 15 8 1
      | (.at w, s) =>
        let now := x.2.take 1024
        let data := now.flatMap (leBytes 4)
        let (ok, s) := s.ownSend plinthCluster (2 ^ 20) w 4 (.ret now.length) 0
          (opX 0 0 0 64 6 0 now.length 0 0) data
        if ok then gone s else s) s

/-- The pages and level-2 frames of a stack in frame order: the frame, its slot, its LPN, and whether it
is a level-2 frame. -/
def State.stackPages (s : State) (k : Nat) : List (Nat × Nat × Nat × Bool) :=
  s.seq.frames.filterMap (fun e =>
    match e.2 with
    | .slot n =>
      if s.frameStack e.1 ≠ k then none
      else
        match (List.range 512).find? (fun i => decide (s.rf (aL1 n i) 31 31 = 1) && decide (s.rf (aL1 n i) 22 0 = e.1)) with
        | some i => some (e.1, n, 8192 * i, true)
        | none =>
          ((s.slotPages n).find? (fun x => !pteRemote x.2 && decide (pteFrame x.2 = e.1))).map
            (fun x => (e.1, n, x.1, false))
    | _ => none)

/-- Frames in use on a stack that can move to lenders when that is allowed. -/
def State.movable (s : State) (k : Nat) (remote : Bool) : Nat :=
  if remote then
    ((s.stackPages k).filter (fun x => !x.2.2.2 && decide (s.sl x.2.1 0 27 27 = 1))).length
  else 0

/-- AVAIL on the stacks other than k. -/
def State.availBut (s : State) (k : Nat) : Nat :=
  s.seqAvail - (if s.inAlloc k then s.stackFree k else 0)

/-- EVACUATE (R255, steps 1 and 2). -/
def execEvacuate (src : Src) (s : State) : Out :=
  match s.seqReq src 3 with
  | none => .next s
  | some (_, remote, k, _, _) =>
    let used := s.stackUsed k
    if s.fallback then .next (s.seqEnd src stState [])
    else if s.seq.evac.isSome then .next (s.seqEnd src stBusy [])
    else if s.availBut k + s.movable k remote < used then .next (s.seqEnd src stFit [])
    else
      let s := { s with seq := { s.seq with
        outMask := s.seq.outMask ||| 2 ^ k
        evac := some ⟨k, remote, used - s.movable k remote, false, none⟩ } }
      .next ((s.setReg aEvac (BitVec.ofNat 32 (2 ^ 31 + k * 2 ^ 28))).seqEnd src stOk [])

/-- The evacuation has ended: its event, and its stack stays out of allocation unless it was aborted. -/
def State.evacEnd (s : State) (e : Evac) (status : Nat) : State :=
  let s := { s with seq := { s.seq with
    evac := none
    outMask := if e.abort then (if bit s.seq.outMask e.stack then s.seq.outMask - 2 ^ e.stack else s.seq.outMask)
      else s.seq.outMask } }
  (s.setRf aEvac 31 31 0).event 0x0580 status (leBytes 1 1 ++ leBytes 1 e.stack ++ leBytes 2 status)

/-- The readers of a frame: running items that have translated it. -/
def State.readersOf (s : State) (f : Nat) : List Nat :=
  (s.shed.items.filter (fun i => i.runs.isSome && i.reads.contains f)).map (·.id)

/-- The old frame of a moved page: freed when no running item has translated it, kept until then. -/
def State.oldFrame (s : State) (f n : Nat) : State :=
  let r := s.readersOf f
  let s := s.setRf (aSlot n 10) 22 0 (s.slotLocal n - 1)
  if r = [] then s.setFrame f .free
  else { s.setFrame f .old with seq := { s.seq with readers := s.seq.readers ++ [(f, r)] } }

/-- One frame set aside has been used. -/
def State.asideUsed (s : State) : State :=
  { s with seq := { s.seq with evac := s.seq.evac.map (fun e => { e with aside := e.aside - 1 }) } }

/-- Move one page or level-2 frame to a local frame, whole. -/
def State.evacLocal (s : State) (f n lpn : Nat) (l2 : Bool) (g : Nat) : State :=
  let s := s.memPut (g * 65536) (s.memGet (f * 65536) 65536)
  let s := if l2 then (s.setRf (aL1 n (lpn / 8192)) 22 0 g).mirrorSlot n else s.setPte n lpn (mkPte g none)
  (s.follow (none, f) (none, g)).oldFrame f n

/-- The job under which the device moves pages. -/
def ownJob (im c : Nat) (typ : Nat) (kind : Nat → OpKind) : Job :=
  { item := none, image := im, c := c, key := 2 ^ 20 + 1, x := 0, typ := typ, kind := kind }

/-- The number of the next page that travels. -/
def State.nextMove (s : State) : State := { s with seq := { s.seq with moveNo := s.seq.moveNo + 1 } }

/-- Carry the page that travels to a lender further; when all of it is acknowledged, the entry switches.
A failure leaves the page where it was and ends the evacuation with its status. -/
def State.evacCarry (s : State) (e : Evac) (p : PageMove) : State :=
  match s.libIndex 0 with
  | none => s
  | some im =>
    let (ms, st, s) := s.moveAll (ownJob im e.stack 0x29 (.migrate p.no)) 0 p.moves
    if st ≠ stOk then
      let s := (s.setPte p.slot p.lpn (pteSetMoving (s.pte p.slot p.lpn) false)).queueReturn (s.slotPeer p.slot) [p.frame]
      s.evacEnd e st
    else if movesDone ms then
      let old := pteFrame (s.pte p.slot p.lpn)
      let s := s.setPte p.slot p.lpn (mkPte p.frame (some (s.slotPeer p.slot)))
      let s := s.setRf (aSlot p.slot 11) 22 0 (s.sl p.slot 11 22 0 + 1)
      let s := (s.follow (none, old) (some (s.slotPeer p.slot), p.frame)).oldFrame old p.slot
      { s with seq := { s.seq with evac := some { e with page := none } } }
    else { s with seq := { s.seq with evac := some { e with page := some { p with moves := ms } } } }

/-- Begin to send a page to its lender: a lent frame is needed first. -/
def State.evacRemote (s : State) (e : Evac) (f n lpn : Nat) : State :=
  match s.libIndex 0 with
  | none => s
  | some im =>
    let s := s.lendSettle
    match s.seq.lentIn.find? (fun x => decide (x.1 = n)) with
    | some (_, g) =>
      let s := { s with seq := { s.seq with lentIn := delFirst (fun x => decide (x.1 = n)) s.seq.lentIn } }
      let s := s.setPte n lpn (pteSetMoving (s.pte n lpn) true)
      s.nextMove.evacCarry e ⟨s.seq.moveNo, n, lpn, g, movePieces 16 (.hbm (f * 65536)) (.fab (s.slotPeer n) (g * 65536)) 65536⟩
    | none =>
      if s.seq.refused.contains n then
        ({ s with seq := { s.seq with refused := s.seq.refused.filter (fun k => k ≠ n) } }).evacEnd e stSeqFull
      else s.askLend none im e.stack (2 ^ 20 + 1) n

/-- The stack that takes a frame moved off a stack, by R248 without that stack.  The slot's local frames are counted
without the one that moves; a frame that may go to a lender leaves the frames set aside to those that may not. -/
def State.evacTarget (s : State) (e : Evac) (n lpn : Nat) (l2 far : Bool) : Option Nat :=
  let (first, rest) := s.sources n (if l2 then e.stack else s.prefStack n lpn)
  let have_ := s.slotLocal n - 1
  let max_ := s.sl n 8 22 0
  let ok (k : Nat) : Bool := decide (k ≠ e.stack) && s.inAlloc k && decide (0 < s.stackFree k) && (!far || decide (0 < s.seqAvail))
  let a := if max_ = 0 ∨ have_ < max_ then first.find? ok else none
  if a.isSome then a else if have_ < s.slotRsv n then rest.find? ok else none

/-- EVAC_PAGE_MOVED (R255, steps 3, 5 and 6): the next page of the stack moves, or the evacuation ends. -/
def execEvacPageMoved (s : State) : Out :=
  match s.seq.evac with
  | none => .next s
  | some e =>
    match e.page with
    | some p => .next (s.evacCarry e p)
    | none =>
      if e.abort then .next (s.evacEnd e stOk)
      else
        match s.stackPages e.stack with
        | [] => .next (if s.stackUsed e.stack = 0 then s.evacEnd e stOk else s)
        | (f, n, lpn, l2) :: _ =>
          let far := !l2 && e.remote && decide (s.sl n 0 27 27 = 1)
          match s.evacTarget e n lpn l2 far with
          | some k =>
            let (g, s) := s.takeFrame k (.slot n)
            let s := (s.setRf (aSlot n 10) 22 0 (s.slotLocal n + 1)).evacLocal f n lpn l2 g
            .next (if far then s else s.asideUsed)
          | none => .next (if far then s.evacRemote e f n lpn else s)

/-- EVAC_OLD_FRAME_FREE (R255, step 4). -/
def execEvacOldFrameFree (frame : Nat) (s : State) : Out :=
  match s.seq.readers.find? (fun x => decide (x.1 = frame)) with
  | none => .next s
  | some (_, ids) =>
    if ids.all (fun i => (s.item i).isNone) then
      .next ({ s with seq := { s.seq with readers := s.seq.readers.filter (fun x => x.1 ≠ frame) } }.setFrame frame .free)
    else .next s

/-- EVAC_ABORT (R255, step 6): the page being moved completes first. -/
def execEvacAbort (src : Src) (s : State) : Out :=
  match s.seqReq src 4 with
  | none => .next s
  | some _ =>
    match s.seq.evac with
    | none => .next (s.seqEnd src stOk [])
    | some e =>
      let s := { s with seq := { s.seq with evac := some { e with abort := true } } }
      let s := if e.page.isNone then s.evacEnd { e with abort := true } stOk else s
      .next (s.seqEnd src stOk [])

/-- ALLOC_BACK (R255): an evacuated stack takes allocations again. -/
def execAllocBack (src : Src) (s : State) : Out :=
  match s.seqReq src 5 with
  | none => .next s
  | some (_, _, k, _, _) =>
    if s.seq.evac.any (fun e => decide (e.stack = k)) then .next (s.seqEnd src stBusy [])
    else
      let m := s.seq.outMask
      .next (({ s with seq := { s.seq with outMask := if bit m k then m - 2 ^ k else m } }).seqEnd src stOk [])

/-- The recall has ended: its event and the reply of the command that asked (R256, R493). -/
def State.bringEnd (s : State) (b : Bring) (status : Nat) : State :=
  let s := { s with seq := { s.seq with recalling := delFirst (fun y => decide (y.slot = b.slot) && decide (y.tag = b.tag)) s.seq.recalling } }
  let s := s.setRf aSeqSt 15 0 status
  let s := match b.tag with | some t => s.finish t status [] | none => s
  s.event 0x0580 status (leBytes 1 2 ++ leBytes 1 b.slot ++ leBytes 2 status)

/-- Note how far a recall has come. -/
def State.setBring (s : State) (b : Bring) : State :=
  { s with seq := { s.seq with
    recalling := updFirst (fun y => decide (y.slot = b.slot) && decide (y.tag = b.tag)) (fun _ => b) s.seq.recalling } }

/-- Begin the next page of a recall, or end it (R256).  The pages of a slot come one at a time, and a page that an
append is being written to waits for it. -/
def State.bringNext (s : State) (b : Bring) : State :=
  if s.slotState b.slot ≠ 1 then s.bringEnd b stNoSlot
  else if s.seq.recalling.any (fun y => decide (y.slot = b.slot) && y.page.isSome) then s
  else
    match (s.slotPages b.slot).find? (fun x => pteRemote x.2 && !pteLost x.2) with
    | none => s.bringEnd b stOk
    | some (lpn, e) =>
      if s.seqAvail = 0 then s.bringEnd b stOk
      else if s.writing (pteEid e) (pteFrame e) then s
      else
        let (first, rest) := s.sources b.slot (s.prefStack b.slot lpn)
        match (first ++ rest).find? (fun k => s.inAlloc k && decide (0 < s.stackFree k)) with
        | none => s.bringEnd b stOk
        | some k =>
          let (g, s) := s.takeFrame k .moving
          let s := s.setPte b.slot lpn (pteSetMoving e true)
          let ms := movePieces 16 (.fab (pteEid e) (pteFrame e * 65536)) (.hbm (g * 65536)) 65536
          s.nextMove.setBring { b with page := some ⟨s.seq.moveNo, b.slot, lpn, g, ms⟩ }

/-- Carry the page of a recall further; when all of it is here, the entry switches and the lent frame is
returned. -/
def State.bringCarry (s : State) (b : Bring) (p : PageMove) : State :=
  match s.libIndex 0 with
  | none => s
  | some im =>
    let e := s.pte p.slot p.lpn
    let (ms, st, s) := s.moveAll (ownJob im (s.frameStack p.frame) 2 (.recall p.no)) 0 p.moves
    if st ≠ stOk then
      let s := (s.setFrame p.frame .free).setPte p.slot p.lpn
        (if st = stAuth then putBits (pteSetMoving e false) 61 61 1 else pteSetMoving e false)
      s.bringEnd b st
    else if movesDone ms then
      let s := (s.setFrame p.frame (.slot p.slot)).setPte p.slot p.lpn (mkPte p.frame none)
      let s := s.follow (some (pteEid e), pteFrame e) (none, p.frame)
      let s := s.setRf (aSlot p.slot 10) 22 0 (s.slotLocal p.slot + 1)
      let s := s.setRf (aSlot p.slot 11) 22 0 (s.sl p.slot 11 22 0 - 1)
      let b := { b with page := none }
      ((s.queueReturn (pteEid e) [pteFrame e]).sendReturns.setBring b).bringNext b
    else s.setBring { b with page := some { p with moves := ms } }

/-- RECALL (R256). -/
def execRecall (src : Src) (s : State) : Out :=
  match s.seqReq src 6 with
  | none => .next s
  | some (_, _, _, n, _) =>
    if s.fallback ∨ s.slotState n ≠ 1 then .next (s.seqEnd src stState [])
    else
      let tag := match src with | .cmd t => some t | .reg _ _ _ => none
      let s := match tag with | some t => s.hold t | none => s
      let b : Bring := ⟨n, tag, none⟩
      .next ({ s with seq := { s.seq with recalling := s.seq.recalling ++ [b] } }.bringNext b)

/-- Collect the ends of RETURN calls; a failed one is counted (R250, R269). -/
def State.retSettle (s : State) : State :=
  let bad := (s.flows.ends.filter (fun e =>
    (match e.kind with | .ret _ => true | _ => false) && decide (e.status ≠ stOk))).length
  let s := { s with flows := { s.flows with
    ends := s.flows.ends.filter (fun e => match e.kind with | .ret _ => false | _ => true) } }
  s.bump (aSeqErr 1) 15 8 bad

/-- A window of the device's own that serves nothing any more is closed. -/
def State.ownClose (s : State) : State :=
  if s.seq.evac.isSome || !s.seq.recalling.isEmpty || !s.seq.returns.isEmpty then s
  else
    let ws := s.flows.srcs.filter (fun e => decide (e.1 ≠ mirrorCtx) && e.2.item.isNone && e.2.ops.isEmpty)
    ws.foldl (fun s e =>
      if e.2.state = .opened then s.wclose plinthCluster e.1
      else if e.2.state = .opening ∧ e.2.failed ≠ 0 then
        s.setSrc e.1 { srcReset with image := e.2.image, fsn := e.2.fsn }
      else s) s

def State.evacStep (s : State) : State :=
  match s.seq.evac with
  | some e => (match e.page with | some p => s.evacCarry e p | none => s)
  | none => s

def State.bringStep (s : State) : State :=
  s.seq.recalling.foldl (fun s b => match b.page with | some p => s.bringCarry b p | none => s.bringNext b) s

/-- What comes for a page that no longer travels is dropped. -/
def State.moveSettle (s : State) : State :=
  let live := ((s.seq.evac.bind (·.page)).toList ++ s.seq.recalling.filterMap (·.page)).map (·.no)
  { s with flows := { s.flows with ends := s.flows.ends.filter (fun e =>
    match e.kind with
    | .migrate no _ => live.contains no
    | .recall no _ => live.contains no
    | _ => true) } }

/-- The device's own page traffic and returns go as far as they can. -/
def State.ownStep (s : State) : State := s.lendSettle.moveSettle.evacStep.bringStep.retSettle.sendReturns.ownClose

/-- SLOT_RELEASE_DONE (R250): no work item dispatched for the slot runs, and no translation. -/
def execSlotReleaseDone (slot : Nat) (s : State) : Out :=
  if slot < 32 ∧ s.slotState slot = 2 ∧
      s.shed.items.all (fun i => i.runs.isNone || decide (i.slot ≠ some slot)) ∧
      s.ctxs.all (fun e => e.2.copies.all (fun k => k.fin || decide (k.kind = 0) || decide (k.slot ≠ slot))) then
    .next (s.slotFree slot).ownStep
  else .next s

/-- RECALL_PAGE_DONE (R256): the page being recalled goes as far as it can. -/
def execRecallPageDone (slot : Nat) (s : State) : Out :=
  .next (if s.seq.recalling.any (fun b => decide (b.slot = slot)) then s.ownStep else s)

/-- RECLAIM (R252): every frame lent to an EID is freed. -/
def execReclaim (src : Src) (s : State) : Out :=
  match s.seqReq src 7 with
  | none => .next s
  | some (_, _, _, _, eid) =>
    if s.fallback then .next (s.seqEnd src stState [])
    else
      let s := { s with seq := { s.seq with frames := s.seq.frames.filter (fun e => e.2 ≠ FrameUse.lent eid) } }
      .next (s.seqEnd src stOk [])

/-! ### The regions (R236, R265, R266) -/

/-- A SEQ_REGION value within the ranges of R265. -/
def regionOk (v : Word) : Bool :=
  let k := (regionStacks v).length
  decide (8 ≤ fld v 8 0 ∧ fld v 8 0 ≤ 256) && decide (fld v 15 9 ≤ 64) && decide (0 < k) &&
    decide ((fld v 8 0 + fld v 15 9) % k = 0) && decide (fld v 8 0 + fld v 15 9 ≤ 64 * k)

/-- The conditions of R236. -/
def State.regionFree (s : State) : Bool :=
  (List.range 64).all (fun i => decide (s.imgState i = 0) || s.imgService i) &&
  s.shed.items.all (fun i => !s.imgService i.image) &&
  (List.range 32).all (fun n => decide (s.slotState n = 0)) &&
  s.seq.frames.all (fun e => decide (e.2 = .bad)) && s.seq.returns.isEmpty && s.seq.lentIn.isEmpty &&
  !(s.role = 2 && !s.pair.mirrored.isEmpty) && !s.fallback

/-- A SEQ_REGION value puts a stack into GEN_STACKS that is held OFF or going there: its condition for OFF would start
to fail (R40, R41). -/
def State.regionBarred (s : State) (v : Word) : Bool := (regionStacks v).any (fun k => s.barred (dHbm k))

/-- Set SEQ_REGION: the resident SERVICE images are reloaded from their verified copies. -/
def State.regionSet (s : State) (v : Word) : State :=
  let s := s.setReg aSeqRegion (BitVec.ofNat 32 (v.toNat - bits v.toNat 22 16 * 65536))
  -- "ALLOC_BACK or a new OPEN of the regions" returns evacuated stacks to allocation (R255, step 5)
  let s := { s with seq := { s.seq with
    outMask := 0, reload := true, frames := s.seq.frames.filter (fun e => decide (e.2 = .bad)) } }
  s

/-- A SEQ_FAB_WIN value is allowed by a SEQ_REGION value (R266). -/
def fabWinOk (region w : Word) : Bool :=
  decide (fld w 15 0 ≤ fld w 31 16) && decide (fld w 31 16 * 2 ^ 24 + 2 ^ 26 ≤ regionGen region)

/-- SEQ_REGION_WRITE (R236). -/
def execSeqRegionWrite (path : Path) (v : Word) (s : State) : Out :=
  if s.pathOk path ∧ s.plnUp then
    if !regionOk v then .next s
    else if s.regionFree && !s.regionBarred v then .next (s.regionSet v)
    else .next (s.setRf aSeqSt 30 30 1)
  else .next s

/-- SERVICE_RELOAD_DONE (R236): the SERVICE images stand in the new general region, at the lowest
addresses, in index order. -/
def execServiceReloadDone (s : State) : Out :=
  if s.seq.reload then
    let s := { s with seq := { s.seq with reload := false } }
    let (s, _) := (List.range 64).foldl (fun (a : State × Nat) i =>
      match a.1.image i with
      | some im =>
        if a.1.imgService i then
          let base := a.2
          let data := base + im.codeKib * 1024
          let t := a.1.memPut base (slice im.bytes (field im.bytes 36 4) im.codeBytes)
          let t := (t.memClear data (im.dataKib * 1024)).memPut data (slice im.bytes (field im.bytes 44 4) im.dataBytes)
          (t.setImage i (some { im with codeBase := base, dataBase := data }), data + im.dataKib * 1024)
        else a
      | none => a) (s, 0)
    .next s
  else .next s

/-- SEQ_ERR_CLEAR (R269). -/
def execSeqErrClear (path : Path) (v : Word) (s : State) : Out :=
  if s.pathOk path ∧ s.plnUp ∧ fld v 0 0 = 1 then .next ((s.setReg (aSeqErr 0) 0).setReg (aSeqErr 1) 0)
  else .next s

end Sys2Proof.Machine
end

