-- ==== Sys2Proof/Machine/Shed.lean ====
section
/-!
DEFINITION. Sys2Proof/Machine/Shed.lean: work items and the shed scheduler (chapter 10): queues, the checks
of a CALL, placement, dispatch, and the ends of a work item.
-/

namespace Sys2Proof.Machine

/-! ### Queues (R293) -/

/-- Words 0–1 of a queue are the same in every cluster and stand once, at cluster 0's address. -/
def State.qf (s : State) (q w hi lo : Nat) : Nat := s.rf (aQueue 0 q w) hi lo
def State.qState (s : State) (q : Nat) : Nat := s.qf q 0 31 30
def State.qPrio (s : State) (q : Nat) : Nat := s.qf q 0 29 28
def State.qWeight (s : State) (q : Nat) : Nat := s.qf q 0 27 20
def State.qOwner (s : State) (q : Nat) : Nat := s.qf q 0 19 14
def State.qDepth (s : State) (q : Nat) : Nat := s.qf q 1 11 0

/-- PIN_MASK of an image as clusters: every cluster when 0. -/
def State.pinClusters (s : State) (i : Nat) : List Nat :=
  let m := s.rf (aImage i 0) 23 16
  if m = 0 then List.range 8 else bitList 8 m

/-- A queue is open to a cluster: a SHARED one to all, an OWNED one to its image's clusters. -/
def State.qOpenIn (s : State) (q c : Nat) : Bool :=
  decide (s.qState q = 2) || (decide (s.qState q = 1) && (s.pinClusters (s.qOwner q)).contains c)

/-- Descriptors reserved by queues in cluster c, and in use there (R282, R292). -/
def State.descRsv (s : State) (c : Nat) : Nat :=
  sumNat (((List.range 256).filter (fun q => s.qOpenIn q c)).map s.qDepth)
def State.descUsed (s : State) (c : Nat) : Nat := (s.shed.items.filter (fun i => decide (i.cluster = c))).length

/-- Items of queue q waiting, and running, in cluster c. -/
def State.qWaiting (s : State) (c q : Nat) : List Item :=
  s.shed.items.filter (fun i => decide (i.cluster = c) && decide (i.queue = q) && i.runs.isNone)
def State.qRunning (s : State) (c q : Nat) : List Item :=
  s.shed.items.filter (fun i => decide (i.cluster = c) && decide (i.queue = q) && i.runs.isSome)

/-- DEF[c][q] (R285). -/
def State.dfc (s : State) (c q : Nat) : Int := tabGet (fun _ => 0) s.shed.dfc (256 * c + q)
def State.setDfc (s : State) (c q : Nat) (v : Int) : State :=
  { s with shed := { s.shed with dfc := tabSet (fun _ => 0) s.shed.dfc (256 * c + q) v } }

/-! ### A CALL (R279 to R283) -/

/-- A work item to be: the form X operation fields, payload, caller's EID, the cluster it came in by. -/
structure CallReq where
  form    : List Byte
  payload : List Byte
  src     : Nat
  home    : Nat
  caller  : Caller

/-- The image index a form X names (R101, R260). -/
def State.callImage (s : State) (form : List Byte) : Option Nat :=
  let b := byteAt form 6
  if bit b 6 then s.libIndex (b % 64) else some (b % 64)

/-- Cluster c takes no work: its SHUn is held OFF or stop OFF (R281). -/
def State.closedShu (s : State) (c : Nat) : Bool := s.barred (dShu c)

/-- The fewest descriptors in use; ties to the home cluster, then to the lowest number (R281). -/
def State.leastBusy (s : State) (home : Nat) : Nat :=
  let m := minOf (s.descUsed 0) ((List.range 8).map s.descUsed)
  if s.descUsed home = m then home
  else ((List.range 8).find? (fun c => decide (s.descUsed c = m))).getD 0

/-- The preferred cluster (R281). -/
def State.prefCluster (s : State) (form : List Byte) (q home : Nat) : Nat :=
  if bit (byteAt form 0) 7 then
    let n := byteAt form 0 % 32
    let layer := field form 4 2
    let token := bits (field form 1 3) 20 0
    if s.sl n 3 31 16 ≤ layer ∨ s.sl n 4 21 0 ≤ token then s.sl n 0 2 0
    else
      let lpn := layer * s.ppl n + token / max 1 (s.tpp n)
      let e := s.pte n lpn
      if !pteValid e then s.prefStack n lpn
      else if pteRemote e then s.sl n 0 2 0
      else s.frameStack (pteFrame e)
  else if s.qf q 0 13 13 = 1 ∧ s.slotState (s.qf q 0 12 8) = 1 then s.sl (s.qf q 0 12 8) 0 2 0
  else s.leastBusy home

/-- The clusters open to an image, from the preferred one, ascending and wrapping (R281). -/
def State.openClusters (s : State) (im pref : Nat) : List Nat :=
  ((List.range 8).map (fun i => (pref + i) % 8)).filter (fun c =>
    !s.closedShu c && (s.pinClusters im).contains c)

/-- A descriptor of queue q is free in cluster c (R282). -/
def State.descFree (s : State) (c q : Nat) : Bool :=
  decide ((s.shed.items.filter (fun i => decide (i.cluster = c) && decide (i.queue = q))).length < s.qDepth q)

/-- A descriptor number not in use in cluster c: which one is not specified. -/
def State.newDesc (s : State) (c : Nat) : Nat × State :=
  let (r, s) := s.draw
  let used := (s.shed.items.filter (fun i => decide (i.cluster = c))).map (·.desc)
  let free := (List.range 2048).filter (fun d => !used.contains d)
  (free.getD (r % max 1 free.length) 0, s)

/-- Wake the HBM stack nearest a work item's pages, and its shuttle, where they are not at RUN (R42, R288): the stack
of the page that it names, or that of its cluster.  The shuttle's exit waits while D is above G (R387). -/
def State.wakeItem (s : State) (form : List Byte) (q c : Nat) : State :=
  (if s.trd.overG then s else s.wake (dShu c)).wake (dHbm (if bit (byteAt form 0) 7 then s.prefCluster form q c else c))

/-- Queue a work item in a cluster. -/
def State.queueItem (s : State) (r : CallReq) (im entry q c : Nat) : State :=
  let (d, s) := s.newDesc c
  let it : Item :=
    { id := s.shed.nextId, desc := d, cluster := c, image := im, entry := entry, queue := q, form := r.form
      src := r.src, caller := r.caller, payload := r.payload, runs := none, start := 0, len0 := 0, reads := []
      failed := [], limit := match r.caller with | .prog _ _ _ _ => s.rf aOpTimeout 15 0 | _ => 0 }
  let s := { s with shed := { s.shed with items := s.shed.items ++ [it], nextId := s.shed.nextId + 1 } }
  s.wakeItem r.form q c

/-- Take a CALL: its checks in order, its queue, its cluster, its descriptor (R279).  The payload of a
packet counts in whole picks (DEDUCED, log entry 22). -/
def State.takeCall (s : State) (r : CallReq) (fabric : Bool) : Nat × State :=
  match s.callImage r.form with
  | none => (stUnsup, s)
  | some im =>
    let st := s.imgState im
    let entry := field r.form 8 2
    match s.image im with
    | none => (stUnsup, s)
    | some img =>
      if st = 0 ∨ st = 1 then (stUnsup, s)
      else if st = 3 ∨ (s.seq.reload ∧ s.imgService im) then (stState, s)
      else
        match img.entries[entry]? with
        | none => (stUnsup, s)
        | some (_, dq, flags, pmax) =>
          if fabric ∧ !bit flags 0 then (stAuth, s)
          else if (if fabric then 64 * ceilDiv pmax 64 else pmax) < r.payload.length then (stUnsup, s)
          else
            let n := byteAt r.form 0 % 32
            let named := bit (byteAt r.form 0) 7
            if named ∧ s.slotState n ≠ 1 then (stNoSlot, s)
            else if named ∧ !s.imgService im ∧ ¬ (s.sl n 12 31 31 = 1 ∧ s.sl n 12 5 0 = im) then (stAuth, s)
            else
              let sq := s.sl n 0 15 8
              let q := if named ∧ (s.qState sq = 2 ∨ (s.qState sq = 1 ∧ s.qOwner sq = im)) then sq
                else img.queues.getD dq 0
              match s.openClusters im (s.prefCluster r.form q r.home) with
              | [] => (stState, s)
              | c0 :: cs =>
                match (c0 :: cs).find? (fun c => s.descFree c q) with
                | none => (stBusy, s.bump (aShedErr c0) 31 16 1)
                | some c =>
                  let s := if c = c0 then s else (s.bump (aShedErr c0) 15 8 1).evClu c0 0x49 1
                  (stOk, s.queueItem r im entry q c)

/-! ### The end of a work item (R289, R316, R317) -/

/-- Write the CALL_DONE of a local call into the issuer's call block (R363, R364). -/
def State.localDone (s : State) (x item block : Nat) (form payload : List Byte) (status : Nat) : State :=
  if (s.ctx x).item ≠ some item then s
  else
    let s := s.benchPut x block (form ++ leBytes 1 (ceilDiv payload.length 64))
    let s := s.benchPut x (block + 64) (padTo (64 * ceilDiv payload.length 64) payload)
    let s := if status = stOk then s else s.noteFail (some item) localWin
    s.updCtx x (fun c => { c with
      calls := c.calls - 1
      callFails := if status = stOk then c.callFails else c.callFails ++ [status] })

/-- The form X fields of a CALL_DONE: those of the CALL with STATUS and the results (R101). -/
def doneForm (form : List Byte) (status a0 a1 a2 : Nat) : List Byte :=
  form.take 10 ++ leBytes 4 0 ++ leBytes 2 status ++ leBytes 8 a0 ++ leBytes 8 a1 ++ leBytes 8 a2

/-- Answer the caller of a work item (R289). -/
def State.callDone (s : State) (it : Item) (status a0 a1 a2 : Nat) (payload : List Byte) : State :=
  let f := doneForm it.form status a0 a1 a2
  match it.caller with
  | .remote dst src flow fsn pinned =>
    s.emit it.cluster (mkPkt dst src 0x0C false pinned false flow fsn f payload)
  | .prog x item block _ => s.localDone x item block f payload status
  | .gone _ _ => s

/-- Close the windows of an item: at once, or when the last response has come (R317). -/
def State.closeWindows (s : State) (item : Nat) : State :=
  let ws := (s.flows.srcs.filter (fun e => decide (e.2.item = some item))).map (·.1)
  ws.foldl (fun s w =>
    let x := s.src w
    if x.state = .opened then (s.setSrc w { x with state := .closing }).wcloseWhenDone w
    else if x.state = .opening ∧ x.failed ≠ 0 then s.setSrc w { srcReset with image := x.image, fsn := x.fsn }
    else if x.state = .opening then s.setSrc w { x with state := .closing }
    else s) s

/-- The SHED gives back a local call's buffer (R196). -/
def State.callBuf (s : State) (x image : Nat) (buf : Option Nat) : State :=
  match buf with
  | some h =>
    let c := ctxCluster x
    let im := (s.pool c).held.findSome? (fun b => if b.cls = bits h 19 17 ∧ b.idx = bits h 16 0 then
      (match b.holder with | .image i => some i | _ => none) else none)
    let s := (s.poolFree c h 3 image).2
    match im with | some i => s.joinsGo c i | none => s
  | none => s

/-- The payload of an ended item is given up: its buffers of the window's reservation, and the
reservation itself when its window has ended and no other such payload stands (R130, R279). -/
def State.windowRest (s : State) (it : Item) : State :=
  match it.caller with
  | .remote src dst flow _ _ =>
    if s.payloadApart it.id then (List.range 8).foldl (fun (s : State) c =>
      (s.poolFreeAll c (.payload it.id)).poolRelease c (.payload it.id)) s
    else s.winSync src dst flow
  | .prog x _ _ buf => s.callBuf x it.image buf
  | .gone x buf => s.callBuf x it.image buf

/-- The charge for cycles that an item of queue q executes in cluster c: how many they are is not stated (DESIGN CHOICE,
log entry 23). -/
def State.charge (s : State) (c q : Nat) : State :=
  let (r, s) := s.draw
  s.setDfc c q (s.dfc c q - r)

/-- A queue with no item waiting or running in a cluster keeps no credit there (R285). -/
def State.idleDef (s : State) (c q : Nat) : State :=
  if (s.qWaiting c q).isEmpty && (s.qRunning c q).isEmpty then s.setDfc c q (min (s.dfc c q) 0) else s

/-- The context that a shuttle executes, plus 1. -/
def State.execCtx (s : State) (sh : Nat) : Nat := tabGet (fun _ => 0) s.shed.exec sh

/-- A context takes its shuttle: it executes there, and is not among those that wait for it (R272). -/
def State.onShuttle (s : State) (x : Nat) : State :=
  { s with shed := { s.shed with
    exec := tabSet (fun _ => 0) s.shed.exec (x / 4) (x + 1)
    ready := tabUpd (fun _ => []) s.shed.ready (x / 4) (fun l => l.filter (fun y => y ≠ x)) } }

/-- A context leaves its shuttle to the others, and is not ready. -/
def State.unready (s : State) (x : Nat) : State :=
  { s with shed := { s.shed with
    exec := if s.execCtx (x / 4) = x + 1 then tabSet (fun _ => 0) s.shed.exec (x / 4) 0 else s.shed.exec
    ready := tabUpd (fun _ => []) s.shed.ready (x / 4) (fun l => l.filter (fun y => y ≠ x)) } }

/-- A context stands behind the other contexts of its shuttle that are ready. -/
def State.ready (s : State) (x : Nat) : State :=
  let s := s.unready x
  { s with shed := { s.shed with ready := tabUpd (fun _ => []) s.shed.ready (x / 4) (fun l => l ++ [x]) } }

/-- A context may issue: its shuttle executes it, or executes none and no context that has been ready longer waits for
it (R272; DESIGN CHOICE, log entry 88). -/
def State.turn (s : State) (x : Nat) : Bool :=
  let l := tabGet (fun _ => []) s.shed.ready (x / 4)
  decide (s.execCtx (x / 4) = x + 1) ||
    (decide (s.execCtx (x / 4) = 0) && (!l.contains x || decide (l.head? = some x)))

/-- Write the sample record that an overflow on context x asked for (R529, R530): not under SEALED. -/
def State.takeSample (s : State) (x pc : Nat) : State :=
  match (s.ctx x).sample, s.ctxItem x with
  | some (j, time), some it =>
    let s := s.updCtx x (fun c => { c with sample := none })
    let n := ctxCluster x
    let head := s.rf (aSampHead n) 8 0
    if s.sealed then s
    else if 256 ≤ (head + 512 - s.rf (aSampTail n) 8 0) % 512 then s.bump (aSampHead n) 31 16 1
    else
      let b := leBytes 8 time ++ leBytes 4 pc ++ leBytes 1 (ctxShuttle x + 32 * (x % 4)) ++ leBytes 1 j ++
        leBytes 1 (it.image + 64 * b2n (s.imgService it.image)) ++
        leBytes 1 (s.rf (aShuCnt n (ctxShuttle x) j) 7 0) ++ leBytes 2 it.desc ++ leBytes 14 0
      (s.setRegs (aSample n (head % 256)) (bytesToWords 8 b)).setRf (aSampHead n) 8 0 ((head + 1) % 512)
  | _, _ => s

/-- Shuttle i of cluster c takes work: it is not withdrawn and test 0x05 does not run on it (R563). -/
def State.shuUsable (s : State) (c i : Nat) : Bool :=
  !s.pwr.shuOut.contains (32 * c + i) &&
    !s.pwr.tests.any (fun t => decide (t.1 = 5) && decide (t.2.1 = 32 * c + i))

/-- Granules of an item's image, free granules of shuttle i of cluster c, and its free contexts. -/
def State.itemGranules (s : State) (it : Item) : Nat := ((s.image it.image).map (·.granules)).getD 0
def State.shuttleItems (s : State) (c i : Nat) : List Item :=
  s.shed.items.filter (fun y => match y.runs with | some x => decide (x / 4 = 32 * c + i) | none => false)
def State.benchFree (s : State) (c i : Nat) : Nat := 64 - sumNat ((s.shuttleItems c i).map s.itemGranules)
def State.ctxFree (s : State) (c i : Nat) : Option Nat :=
  ((List.range 4).map (fun k => 4 * (32 * c + i) + k)).find? (fun x => (s.ctx x).item.isNone)

/-- A shuttle may take an item: not under test, and not set aside for another. -/
def State.shuttleOpen (s : State) (c i : Nat) (it : Item) : Bool :=
  s.shuUsable c i &&
    s.shed.aside.all (fun a => decide (a.1 ≠ c) || decide (a.2.1 ≠ i) || decide (a.2.2 = it.id))

/-- The shuttle with the least free bench that fits an item (R285). -/
def State.fitShuttle (s : State) (c : Nat) (it : Item) : Option Nat :=
  let g := s.itemGranules it
  let l := (List.range 32).filter (fun i =>
    (s.ctxFree c i).isSome && decide (g ≤ s.benchFree c i) && s.shuttleOpen c i it)
  let m := minOf 64 (l.map (s.benchFree c))
  l.find? (fun i => decide (s.benchFree c i = m))

/-- The shuttle with the most free bench is set aside in cluster c for the oldest item whose wait has expired, where no
other is set aside there; an item that now fits, or has gone, claims none (R286). -/
def State.nextClaim (s : State) (c : Nat) : State :=
  if s.shed.aside.any (fun a => decide (a.1 = c)) then s
  else
    let live := s.shed.items.filter (fun it => s.shed.claims.contains (c, it.id) && it.runs.isNone && (s.fitShuttle c it).isNone)
    let s := { s with shed := { s.shed with claims := s.shed.claims.filter (fun k => decide (k.1 ≠ c) || live.any (fun it => decide (it.id = k.2))) } }
    match live with
    | [] => s
    | it :: r =>
      let old := r.foldl (fun (b : Item) y => if y.id < b.id then y else b) it
      let l := (List.range 32).filter (fun i => s.shuUsable c i)
      let best := l.foldl (fun b i => if s.benchFree c b < s.benchFree c i then i else b) (l.head?.getD 0)
      { s with shed := { s.shed with
        aside := (c, best, old.id) :: s.shed.aside, claims := s.shed.claims.filter (fun k => decide (k ≠ (c, old.id))) } }

/-- An item no longer needs the shuttle set aside for it: the next claimant's turn comes. -/
def State.asideDone (s : State) (it : Item) : State :=
  ({ s with shed := { s.shed with
    aside := s.shed.aside.filter (fun a => decide (a.2.2 ≠ it.id)), claims := s.shed.claims.filter (fun k => decide (k.2 ≠ it.id)) } }).nextClaim it.cluster

/-- A work item is gone: its context, bench, descriptor and buffers are freed, and its windows close (R289, R317). -/
def State.itemGone (s : State) (it : Item) : State :=
  let s := { s with shed := { s.shed with items := s.shed.items.filter (fun i => i.id ≠ it.id) } }
  let s := match it.runs with
    | some x =>
      let s := ((s.setCtx x ctxReset).unready x).charge it.cluster it.queue
      let s := s.poolFreeAll it.cluster (.item x)
      -- what has come for its copies is dropped (R317, step 3)
      { s with flows := { s.flows with ends := s.flows.ends.filter (fun e =>
        match e.kind with | .move y _ _ => decide (y ≠ x) | _ => true) } }
    | none => s
  ((((s.idleDef it.cluster it.queue).asideDone it)).closeWindows it.id).windowRest it

/-- End a work item: its CALL_DONE is sent, and its context, bench, descriptor and buffers are freed. -/
def State.endItem (s : State) (it : Item) (status a0 a1 a2 : Nat) (payload : List Byte) : State :=
  let s := match it.runs with | some x => s.takeSample x 0xFFFFFFFF | none => s
  (s.callDone it status a0 a1 a2 payload).itemGone it

/-- End a running item by a trap (R315 to R317). -/
def State.trapItem (s : State) (x cause op addr status : Nat) : State :=
  match s.ctxItem x with
  | none => s
  | some it => s.endItem it status (cause + op * 2 ^ 8 + (s.ctx x).pc * 2 ^ 32) addr 0 []

/-- The PC of a context goes on by one instruction; running past the code is a BOUNDS trap at the last
instruction (R313). -/
def State.goOn (s : State) (x op : Nat) : State :=
  let c := s.ctx x
  match (s.ctxItem x).bind (fun it => s.image it.image) with
  | none => s
  | some img =>
    if img.codeBytes ≤ c.pc + 4 then s.trapItem x 3 op (c.pc + 4) stUnsup
    else (s.setCtx x { c with pc := c.pc + 4, wait := .no }).ready x

/-! ### Dispatch (R284 to R288) -/

/-- The oldest waiting item of queue q in c, if it fits. -/
def State.qFits (s : State) (c q : Nat) : Option (Item × Nat) :=
  match (s.qWaiting c q).head? with
  | none => none
  | some it => (s.fitShuttle c it).map (fun i => (it, i))

/-- Refills of DEF until a queue is above 0 (R285). -/
def State.refills (s : State) (c q : Nat) : Nat :=
  let d := s.dfc c q
  let w := s.qWeight q * s.rf (aShedCfg c) 15 0
  if 0 < d then 0 else if w = 0 then 0 else (-d).toNat / w + 1

/-- Choose among the queues of a level (R285). -/
def State.pickQueue (s : State) (c p : Nat) (r level : List Nat) : Option Nat × State :=
  let n := minOf 0 (r.map (s.refills c))
  let s := if n = 0 then s else level.foldl (fun s q =>
    let w : Nat := s.qWeight q * s.rf (aShedCfg c) 15 0
    s.setDfc c q (min (s.dfc c q + (n * w : Nat)) (2 * w : Nat))) s
  let ok := r.filter (fun q => decide (0 < s.dfc c q))
  let ptr := tabGet (fun _ => 0) s.shed.ptr (4 * c + p)
  let q := match ok.find? (fun q => decide (ptr ≤ q)) with
    | some q => some q
    | none => ok.head?
  match q with
  | some q => (some q, { s with shed := { s.shed with ptr := tabSet (fun _ => 0) s.shed.ptr (4 * c + p) q } })
  | none => (none, s)

/-- The next item to dispatch in cluster c with its shuttle, level by level (R284, R285). -/
def State.nextItem (s : State) (c : Nat) : List Nat → Option (Item × Nat) × State
  | [] => (none, s)
  | p :: rest =>
    let level := (List.range 256).filter (fun q =>
      decide (s.qState q ≠ 0) && decide (s.qPrio q = p) && !(s.qWaiting c q).isEmpty)
    let r := level.filter (fun q => (s.qFits c q).isSome)
    if r = [] then State.nextItem s c rest
    else
      match s.pickQueue c p r level with
      | (some q, s) => (s.qFits c q, s)
      | (none, s) => (none, s)

/-- Place an item on a context: registers and bench as R287 gives them. -/
def State.startItem (s : State) (it : Item) (c i : Nat) : State :=
  match s.ctxFree c i, s.image it.image with
  | some x, some img =>
    let e := img.entries.getD it.entry (0, 0, 0, 0)
    let len0 := match it.slot with | some n => s.layerLen n (field it.form 4 2) | none => 0
    let s := s.updItem it.id (fun y => { y with runs := some x, start := s.aon, len0 := len0 })
    let s := s.asideDone it
    let c0 : Ctx := { ctxReset with item := some it.id, pc := e.1 }
    let c0 := (((c0.setS 1 (BitVec.ofNat 64 (field it.form 16 8))).setS 2 (BitVec.ofNat 64 (field it.form 24 8))).setS
      3 (BitVec.ofNat 64 (field it.form 32 8))).setS 4 (BitVec.ofNat 64 it.src)
    let c0 := (c0.setS 5 (BitVec.ofNat 64 (field it.form 0 6))).setS 6 (BitVec.ofNat 64 it.payload.length)
    let s := s.setCtx x { c0 with bench := tabSetList memZero [] 0 it.payload }
    (s.ready x).evClu c 0x48 1
  | _, _ => s

/-- WORK_ITEM_DISPATCH (R284, R285, R287, R288, R290): an item of a slot that is no longer OPEN ends
here. -/
def execWorkItemDispatch (c : Nat) (s : State) : Out :=
  if c < 8 ∧ s.atDepth (dShu c) .run ∧ s.rf aClk (24 + c) (24 + c) = 1 ∧ !bit s.trd.dispatchHold c ∧ !s.thm.critOn ∧
      s.pair.swapTag.isNone then
    match s.nextItem c [0, 1, 2, 3] with
    | (none, s) => .next s
    | (some (it, i), s) =>
      match it.slot with
      | some n =>
        if s.slotState n ≠ 1 then .next (s.endItem it stNoSlot 0 0 0 [])
        else .next ((s.startItem it c i).wakeItem it.form it.queue c)
      | none => .next ((s.startItem it c i).wakeItem it.form it.queue c)
  else .next s

/-- BENCH_WAIT_EXPIRE (R286): the oldest item of queue q has failed to fit for BENCH_WAIT_US, and claims a shuttle: one
is set aside per cluster at a time, for the oldest claimant. -/
def execBenchWaitExpire (c q : Nat) (s : State) : Out :=
  match (s.qWaiting c q).head? with
  | none => .next s
  | some it =>
    if c < 8 ∧ (s.fitShuttle c it).isNone ∧ s.shed.aside.all (fun a => decide (a.2.2 ≠ it.id)) ∧ !s.shed.claims.contains (c, it.id) then
      .next (({ s with shed := { s.shed with claims := s.shed.claims ++ [(c, it.id)] } }).nextClaim c)
    else .next s

/-- RUN_LIMIT_EXPIRE (R289, R317). -/
def execRunLimitExpire (x : Nat) (s : State) : Out :=
  match s.ctxItem x with
  | none => .next s
  | some it => .next ((s.bump (aShedErr it.cluster) 7 1 1).endItem it stTimeout 0 0 0 [])

/-! ### Queue writes (R293) -/

/-- A write of word 1 and word 0 of a queue: the status it comes to, and the state. -/
def State.queueWord1 (s : State) (q : Nat) (v : Word) : Nat × State :=
  if s.fallback ∨ s.qState q ≠ 0 ∨ fld v 11 0 < 1 ∨ 2048 < fld v 11 0 then (stState, s)
  else (stOk, s.setReg (aQueue 0 q 1) (BitVec.ofNat 32 (fld v 11 0)))
def State.queueWord0 (s : State) (q : Nat) (v : Word) : Nat × State :=
  let st := fld v 31 30
  if s.fallback then (stState, s)
  else if st = 2 ∧ s.qState q = 0 then
    let d := s.qDepth q
    if fld v 27 20 = 0 ∨ d = 0 then (stState, s)
    else if (List.range 8).any (fun c => decide (2048 < s.descRsv c + d)) then (stFit, s)
    else (stOk, s.setReg (aQueue 0 q 0) (v &&& 0xFFF03F00#32))
  else if st = 0 ∧ s.qState q = 2 ∧ s.shed.items.all (fun i => decide (i.queue ≠ q)) then
    (stOk, (s.setReg (aQueue 0 q 0) 0).setReg (aQueue 0 q 1) 0)
  else (stState, s)

/-- QUEUE_WRITE (R293): word 1 first, then word 0. -/
def execQueueWrite (src : Src) (s : State) : Out :=
  match src with
  | .reg path a v =>
    let c := (a - 0x00800000) / 0x00100000
    let o := a % 0x00100000
    if s.pathOk path ∧ 0x00800000 ≤ a ∧ a < 0x01000000 ∧ 0x41000 ≤ o ∧ o < 0x42000 then
      let q := (o - 0x41000) / 0x10
      let w := o / 4 % 4
      let (st, t) := if w = 1 then s.queueWord1 q v else if w = 0 then s.queueWord0 q v else (stState, s)
      if st = stOk then .next t else .next (s.setRf (aShedQ c) 0 0 1)
    else .next s
  | .cmd tag =>
    match s.cmd tag 0x0304 with
    | none => .next s
    | some p =>
      if p.payload.length ≠ 12 then .next (s.finish tag stUnsup [])
      else
        let q := byteAt p.payload 0
        let w0 := BitVec.ofNat 32 (field p.payload 4 4)
        let w1 := BitVec.ofNat 32 (field p.payload 8 4)
        -- what is refused sets WRITE_REJECT, by cluster 0's window; word 1 of a FREE queue stays staged
        let no (t : State) (st : Nat) : Out := .next ((t.setRf (aShedQ 0) 0 0 1).finish tag st [])
        let (st, t) := s.queueWord1 q w1
        if st ≠ stOk then no s st
        else
          let (st, u) := t.queueWord0 q w0
          if st = stOk then .next (u.finish tag stOk []) else no t st

/-- SHED_ERR_CLEAR (R292). -/
def execShedErrClear (path : Path) (c : Nat) (v : Word) (s : State) : Out :=
  if c < 8 ∧ s.pathOk path ∧ fld v 0 0 = 1 then .next (s.setReg (aShedErr c) 0) else .next s

end Sys2Proof.Machine
end

