-- ==== Sys2Proof/Machine/Flow.lean ====
section
/-!
DEFINITION. Sys2Proof/Machine/Flow.lean: windows at the destination and the packets the device sinks
(chapters 04, 05, 09, 13): requests performed in sequence order, the responses to the device's own
requests, results that joins receive, and the drain-first commit of the tables.
-/

namespace Sys2Proof.Machine

/-! ### Windows (R128 to R131) -/

def State.setWin (s : State) (w : Win) : State :=
  let p (x : Win) : Bool := decide (x.src = w.src) && decide (x.dst = w.dst) && decide (x.flow = w.flow)
  { s with flows := { s.flows with wins := updFirst p (fun _ => w) s.flows.wins } }
def Win.holder (w : Win) : Holder := .window w.src w.dst w.flow

/-- Reorder contexts reserved by images, and free for a WOPEN that draws on the unreserved ones (R276). -/
def State.reorderRsv (s : State) : Nat :=
  sumNat (s.shed.images.map (fun e => (e.2.map (·.reorder)).getD 0))
def State.reorderFree (s : State) : Nat :=
  4096 - s.reorderRsv - (s.flows.wins.filter (fun w => w.spray && w.fromImage.isNone)).length

/-- The JOB image whose IMAGE_EID an EID is. -/
def State.imageOfEid (s : State) (eid : Nat) : Option Nat :=
  (List.range 64).find? (fun i => decide (s.imgState i ≠ 0) && !s.imgService i && decide (s.rf (aImage i 3) 31 16 = eid))

/-- Change an image's use of its reorder contexts. -/
def State.reorderUse (s : State) (i : Nat) (f : Nat → Nat) : State :=
  match s.image i with
  | some im => s.setImage i (some { im with reorderUsed := f im.reorderUsed })
  | none => s

/-- A reorder context for a WOPEN: one of the image's, or an unreserved one. -/
def State.takeReorder (s : State) (dst : Nat) : Option (Option Nat × State) :=
  match (s.imageOfEid dst).bind (fun i => (s.image i).map (fun im => (i, im))) with
  | some (i, im) =>
    if im.reorderUsed < im.reorder then some (some i, s.reorderUse i (· + 1))
    else if 0 < s.reorderFree then some (none, s) else none
  | none => if 0 < s.reorderFree then some (none, s) else none

/-- The buffers of a window's reservation (R185). -/
def winBufs (req rsp : Nat) : Nat := ceilDiv req 4 + 1 + (ceilDiv rsp 4 + 1)

/-- Answer a WOPEN. -/
def State.grant (s : State) (c : Nat) (h : List Byte) (pkts req rsp : Nat) (spray : Bool) (status : Nat) : State :=
  s.emit c (mkPkt (hSrc h) (hDst h) 0x0D false (hPinned h) false (hFlow h) (hFsn h)
    (opW pkts req rsp (b2n spray) status) [])

/-- WOPEN (R128). -/
def execWopen (port : Nat) (pkt : Pkt) (s : State) : Out :=
  let (ok, s) := s.sink port 5 pkt
  if !ok then .next s
  else
    let h := pkt.hdr
    let c := qCluster port % 8
    let pkts := field h 16 4
    let req := field h 20 4
    let rsp := field h 24 4
    if pkts = 0 ∨ req < 65 ∨ rsp < 65 then .next (s.grant c h 0 0 0 false stUnsup)
    else if (s.winOf h).isSome then .next (s.grant c h 0 0 0 false stState)
    else if 16384 ≤ s.flows.wins.length then .next (s.grant c h 0 0 0 false stBusy)
    else
      let req := min req (s.rf aWinPicks 15 0)
      let rsp := min rsp (s.rf aWinPicks 31 16)
      match s.poolReserve c (.window (hSrc h) (hDst h) (hFlow h)) 0 (winBufs req rsp) with
      | none => .next (s.grant c h 0 0 0 false stBusy)
      | some s =>
        let asked := bit (byteAt h 28) 0
        let (spray, img, s) := match (if asked then s.takeReorder (hDst h) else none) with
          | some (i, s) => (true, i, s)
          | none => (false, none, s)
        let n := min pkts (if spray then s.rf aWinPkts 28 16 else s.rf aWinPkts 8 0)
        let w : Win :=
          { src := hSrc h, dst := hDst h, flow := hFlow h, home := c, cp := hFsn h, pkts := n, reqPicks := req
            rspPicks := rsp, spray := spray, pinned := !spray, states := [], broken := false, fromImage := img
            idleLim := s.rf aWinTim 31 16, reorderLim := none }
        let s := { s with flows := { s.flows with wins := s.flows.wins ++ [w] } }
        let s := if spray then s.evDev 0x85 1 else if asked then s.evDev 0x86 1 else s
        .next (s.grant c h n req rsp spray stOk)

/-- End a window (R130): held packets are discarded, and its reservation is released but for the buffers
that it has not returned, such as those of the payload of a CALL whose work item has not ended. -/
def State.winEnd (s : State) (w : Win) : State :=
  let p (x : Win) : Bool := decide (x.src = w.src) && decide (x.dst = w.dst) && decide (x.flow = w.flow)
  let s := { s with flows := { s.flows with wins := delFirst p s.flows.wins } }
  let s := match w.fromImage with | some i => s.reorderUse i (· - 1) | none => s
  s.winSync w.src w.dst w.flow

/-- WCLOSE (R130, R131): one that matches no window is discarded silently. -/
def execWclose (port : Nat) (pkt : Pkt) (s : State) : Out :=
  let (ok, s) := s.sink port 6 pkt
  if !ok then .next s
  else match s.winOf pkt.hdr with
    | some w => .next (s.winEnd w)
    | none => .next s

/-- The window that three numbers name. -/
def State.winAt (s : State) (src dst flow : Nat) : Option Win :=
  s.flows.wins.find? (fun w => decide (w.src = src) && decide (w.dst = dst) && decide (w.flow = flow))

/-- WIN_IDLE_EXPIRE (R130). -/
def execWinIdleExpire (src dst flow : Nat) (s : State) : Out :=
  match s.winAt src dst flow with
  | some w => .next ((s.winEnd w).bump (aFlowErr 0) 31 16 1)
  | none => .next s

/-! ### Requests performed (R97 to R99, R132, R251) -/

/-- The points of a request's bytes that stand for the targets they touch: its ends and the starts of
the regions and frames within. -/
def State.touches (s : State) (a n : Nat) : List Nat :=
  let cuts := [s.fabBase, s.fabLimit, s.genEnd, s.mirEnd, (a / 65536 + 1) * 65536]
  a :: (cuts.filter (fun p => decide (a < p) && decide (p < a + n)))

/-- What one target of R251 answers a request of a type. -/
def State.targetOk (s : State) (typ src p : Nat) : Nat :=
  let put := decide (typ = 1) || decide (typ = 2)
  if p < s.genEnd then
    if s.fabBase ≤ p ∧ p < s.fabLimit ∧ (put ∨ typ = 3) then stOk else stAuth
  else
    let lent := decide (s.mirEnd ≤ p) && decide (s.frameUse (p / 65536) = .lent src)
    if lent then
      if put ∨ typ = 0x29 then stOk else if typ = 3 then stUnsup else stAuth
    else if typ = 0x28 then (if s.role = 2 then stOk else stState)
    else stAuth

/-- A request judged whole (R251). -/
def State.regionOkFor (s : State) (typ src a n : Nat) : Nat :=
  let l := (s.touches a n).map (s.targetOk typ src)
  if l.contains stAuth then stAuth else (l.find? (fun x => decide (x ≠ stOk))).getD stOk

/-- The form rules of R98 and R99: the status of a request that breaks one. -/
def formBad (typ : Nat) (h : List Byte) (n : Nat) : Bool :=
  let a := field h 16 8
  let size := field h 24 4
  let w := if typ = 3 then size else size
  decide (a / 2 ^ 60 ≠ 1) || decide (2 ^ 39 < a % 2 ^ 60 + w) || decide (2 ^ 39 ≤ a % 2 ^ 60) ||
  (if typ = 3 then !(decide (size = 4) || decide (size = 8)) || decide (a % max 1 size ≠ 0) || decide (10 ≤ byteAt h 28) ||
      decide (n ≠ 0)
    else decide (size = 0) || decide (4096 < size) || decide (n ≠ (if typ = 2 then 0 else ceilDiv size 64)))

/-- The read-modify-write of an ATOMIC on values of n bits (R97). -/
def aop (op n old x y : Nat) : Nat :=
  let m := 2 ^ n
  match op with
  | 0 => (old + x) % m
  | 1 => old &&& x
  | 2 => old ||| x
  | 3 => old ^^^ x
  | 4 => x
  | 5 => if old = y then x else old
  | 6 => if toSigned n old ≤ toSigned n x then old else x
  | 7 => if toSigned n x ≤ toSigned n old then old else x
  | 8 => min old x
  | _ => max old x

/-- Answer a request on RSP (R96). -/
def State.respond (s : State) (c typ : Nat) (h op data : List Byte) : State :=
  let s := s.emit c (mkPkt (hSrc h) (hDst h) typ false (hPinned h) false (hFlow h) (hFsn h) op data)
  if data = [] then s else s.winSync (hSrc h) (hDst h) (hFlow h)

/-- Perform a request of form M: PUT, GET, ATOMIC, MIRROR, MIGRATE. -/
def State.performM (s : State) (c typ : Nat) (h data : List Byte) : State :=
  let a := field h 16 8
  let size := field h 24 4
  let ad := a % 2 ^ 60
  let rtyp := if typ = 2 then 0x0A else if typ = 3 then 0x0B else 0x09
  let st := if formBad typ h (data.length / 64) then stUnsup else s.regionOkFor typ (hSrc h) ad size
  -- AOP is for ATOMIC only: in a response it is reserved, and written as 0 (R13, R97)
  let op (v : Nat) : List Byte := opM a size 0 st v 0
  if st ≠ stOk then
    let s := if formBad typ h (data.length / 64) then s else s.bump (aSeqErr 0) 15 0 1
    s.respond c rtyp h (op 0) []
  else if typ = 2 then
    let (b, s) := s.memLoad ad size
    s.respond c rtyp h (op 0) b
  else if typ = 3 then
    let old := leNat (s.memGet ad size)
    let m := 2 ^ (8 * size)
    let new := aop (byteAt h 28) (8 * size) old (field h 32 8 % m) (field h 40 8 % m)
    (s.memStore ad (leBytes size new)).respond c rtyp h (op old) []
  else (s.memStore ad (data.take size)).respond c rtyp h (op 0) []

/-- Perform a CALL: the work item is queued, or the CALL is answered with a status (R279). -/
def State.performCall (s : State) (w : Win) (h data : List Byte) : State :=
  let form := slice h 16 40
  let r : CallReq :=
    { form := form, payload := data, src := hSrc h, home := w.home
      caller := .remote (hSrc h) (hDst h) (hFlow h) (hFsn h) (hPinned h) }
  let (st, s) := s.takeCall r true
  if st = stOk then s
  else s.respond w.home 0x0C h (doneForm form st 0 0 0) []

/-- Perform a request of a window. -/
def State.perform (s : State) (w : Win) (h data : List Byte) : State :=
  if hType h = 4 then s.performCall w h data else s.performM w.home (hType h) h data

/-- The state a window tracks for an FSN. -/
def Win.at (w : Win) (fsn : Nat) : FsnState := tabGet (fun _ => .empty) w.states fsn
def Win.put (w : Win) (fsn : Nat) (x : FsnState) : Win :=
  { w with states := tabSet (fun _ => .empty) w.states fsn x }

/-- Move the completion pointer on past what is DONE, performing held packets at it (R133). -/
def State.winLoop : Nat → State → Win → State × Win
  | 0, s, w => (s, w)
  | fuel + 1, s, w =>
    match w.at w.cp with
    | .empty => (s, w)
    | .done => State.winLoop fuel s { w.put w.cp .empty with cp := (w.cp + 1) % 2 ^ 24 }
    | .held k => State.winLoop fuel (s.perform w k.hdr k.data) (w.put w.cp .done)

/-- FLOW_ON_ARRIVAL (R133). -/
def State.winArrive (s : State) (w : Win) (pkt : Pkt) : State :=
  let h := pkt.hdr
  let d := (hFsn h + 2 ^ 24 - w.cp) % 2 ^ 24
  let cp := w.cp
  let w := { w with idleLim := s.rf aWinTim 31 16 }
  if w.pkts ≤ d ∨ w.at (hFsn h) ≠ .empty then (s.setWin w).bump (aFlowErr 0) 15 0 1
  else if w.broken then (s.setWin w).bump (aFlowErr 1) 31 16 1
  else
    let (s, w) :=
      if hFence h ∧ d ≠ 0 then
        let k : QPkt :=
          { pid := 0, hdr := h, data := pkt.data, inq := 0, vc := hVc h, sent := 0, ageLim := 0, escLim := 0
            checked := true, mc := none, only := none }
        (s, w.put (hFsn h) (.held k))
      else (s.perform w h pkt.data, w.put (hFsn h) .done)
    let (s, w) := State.winLoop (2 * w.states.length + 2) s w
    -- REORDER_TIMEOUT runs on while the gap stays at one FSN; a later gap starts it afresh (R134, R597)
    let gap := w.at w.cp = .empty && !w.states.isEmpty
    let lim := if w.cp = cp then w.reorderLim.getD (s.rf aWinTim 15 0) else s.rf aWinTim 15 0
    (s.setWin { w with reorderLim := if gap then some lim else none }).winSync w.src w.dst w.flow

/-- A REQ or BULK packet of a flow reaches its destination. -/
def State.request (s : State) (port typ : Nat) (pkt : Pkt) : State :=
  let (ok, s) := s.sink port typ pkt
  if !ok then s
  else match s.winOf pkt.hdr with
    | none => s.bump (aFlowErr 0) 31 16 1
    | some w => s.winArrive w pkt

/-- PUT, GET, ATOMIC, CALL, MIRROR, MIGRATE (R132, R133). -/
def execPut (port : Nat) (pkt : Pkt) (s : State) : Out := .next (s.request port 1 pkt)
def execGet (port : Nat) (pkt : Pkt) (s : State) : Out := .next (s.request port 2 pkt)
def execAtomic (port : Nat) (pkt : Pkt) (s : State) : Out := .next (s.request port 3 pkt)
def execCall (port : Nat) (pkt : Pkt) (s : State) : Out := .next (s.request port 4 pkt)
def execMirror (port : Nat) (pkt : Pkt) (s : State) : Out := .next (s.request port 0x28 pkt)
def execMigrate (port : Nat) (pkt : Pkt) (s : State) : Out := .next (s.request port 0x29 pkt)

/-- REORDER_TIMEOUT (R134): the flow breaks and its held packets are discarded. -/
def execReorderTimeout (src dst flow : Nat) (s : State) : Out :=
  match s.winAt src dst flow with
  | none => .next s
  | some w =>
    if w.at w.cp = .empty ∧ !w.states.isEmpty ∧ !w.broken then
      let held := w.states.filter (fun e => match e.2 with | .held _ => true | _ => false)
      let s := s.bump (aFlowErr 1) 31 16 held.length
      let s := s.setWin { w with broken := true, reorderLim := none, states := w.states.filter (fun e => e.2 = .done) }
      .next (s.winSync w.src w.dst w.flow)
    else .next s

/-! ### Responses to the device's own requests (R358 to R363) -/

/-- Mirror data goes out as far as the MIRROR flow allows (R513). -/
def State.mirrorPush (s : State) : State :=
  if !s.streaming then s
  else (s.pair.push.take 64).foldl (fun s (e : Nat × Move) =>
    let j : Job := { item := none, image := 0, c := plinthCluster, key := 2 ^ 20 + 2, x := 0, typ := 0x28
                     kind := fun _ => .mirror e.1 }
    let (m, st, s) := s.moveOne j 0 e.2
    -- a flow that broke is opened again, and the data is sent again (R138)
    let m := if st ≠ stOk then { m with done := 0 } else m
    let l := if m.done = 2 then delFirst (fun y => decide (y.1 = e.1)) s.pair.push
      else updFirst (fun y => decide (y.1 = e.1)) (fun y => (y.1, m)) s.pair.push
    { s with pair := { s.pair with push := l } }) s

/-- A response that breaks the form of its type (R98): only a GET_DATA whose STATUS is OK, and a CALL_DONE, carry
data. -/
def rspBad (typ : Nat) (h : List Byte) : Bool :=
  if typ = 9 ∨ typ = 0x0B then decide (hLen h ≠ 0)
  else if typ = 0x0A then
    decide (hLen h ≠ if hStatus h = stOk then ceilDiv (field h 24 4) 64 else 0)
  else false

/-- A response reaches the device: the operation that its (FLOW, FSN) names ends (R96); one that breaks its form is
discarded and counted (R107, check 7). -/
def State.response (s : State) (port typ : Nat) (pkt : Pkt) : State :=
  let (ok, s) := s.sink port typ pkt
  if !ok then s
  else
    let h := pkt.hdr
    if rspBad typ h then
      { s with flows := { s.flows with drops := { s.flows.drops with forms := s.flows.drops.forms + 1 } } }
    else ((s.opEnd (hSrc h) (hFlow h) (hFsn h) .answered ⟨hStatus h, slice h 16 40, pkt.data⟩).ownStep).mirrorPush

def execPutAck (port : Nat) (pkt : Pkt) (s : State) : Out := .next (s.response port 9 pkt)
def execGetData (port : Nat) (pkt : Pkt) (s : State) : Out := .next (s.response port 0x0A pkt)
def execAtomicRsp (port : Nat) (pkt : Pkt) (s : State) : Out := .next (s.response port 0x0B pkt)
def execCallDone (port : Nat) (pkt : Pkt) (s : State) : Out := .next (s.response port 0x0C pkt)

/-- The context whose FOPEN waits for the grant of window w, with the register it names. -/
def State.grantWaiter (s : State) (w : Nat) : Option (Nat × Nat) :=
  s.ctxs.findSome? (fun e => match e.2.wait with | .grant v d => if v = w then some (e.1, d) else none | _ => none)

/-- A status word (R354). -/
def statusWord (st low : Nat) : Nat := st * 2 ^ 48 + low % 2 ^ 48

/-- An FOPEN ends: its register is written and its context goes on (R357). -/
def State.fopenEnd (s : State) (w st low : Nat) : State :=
  match s.grantWaiter w with
  | some (x, d) => (s.setS x d (statusWord st low)).goOn x 0x64
  | none => s

/-- A window that was asked for is granted, refused or timed out.  What asked for one of the device's own learns of its
refusal when it asks again. -/
def State.granted (s : State) (w : Nat) (st pkts req rsp : Nat) (spray : Bool) : State :=
  let x := s.src w
  let free := { srcReset with image := x.image, fsn := x.fsn }
  if x.state = .closing then
    -- its work item has ended meanwhile: what was granted is closed again
    if st = stOk then s.wclose plinthCluster w else s.setSrc w free
  else if st = stOk then
    let s := s.setSrc w { x with state := .opened, pkts := pkts, reqPicks := req, rspPicks := rsp, spray := spray }
    s.fopenEnd w stOk (w + 2 ^ 16 * b2n spray)
  else if x.own then s.setSrc w { x with failed := st }
  else (s.setSrc w free).fopenEnd w st 0

/-- Context w awaits the grant of the WOPEN that it sent to an EID with an FSN. -/
def State.awaitsGrant (s : State) (w dst fsn : Nat) : Bool :=
  let x := s.src w
  ((decide (x.state = .opening) && decide (x.failed = 0)) || (decide (x.state = .closing) && x.ops.isEmpty)) && decide (x.dst = dst) &&
    decide (x.fsn = fsn)

/-- WGRANT (R127, R357). -/
def execWgrant (port : Nat) (pkt : Pkt) (s : State) : Out :=
  let (ok, s) := s.sink port 0x0D pkt
  if !ok then .next s
  else
    let h := pkt.hdr
    -- a grant that nothing awaits is discarded and counted (R107, check 7)
    let lost := { s with flows := { s.flows with drops := { s.flows.drops with grants := s.flows.drops.grants + 1 } } }
    match s.ctxOf (hFlow h) with
    | none => .next lost
    | some w =>
      if s.awaitsGrant w (hSrc h) (hFsn h) then
        let s := s.granted w (hStatus h) (field h 16 4) (field h 20 4) (field h 24 4) (bit (byteAt h 28) 0)
        .next s.ownStep.mirrorPush
      else .next lost

/-- OP_TIMEOUT (R108, R358, R364): an operation of a window, a WOPEN (named by the FSN it carries), or a
local call, named by its destination being the device's own, its context and its call block. -/
def execOpTimeout (dst flow fsn : Nat) (s : State) : Out :=
  let st := if s.sw.e2eSeen.contains (flow, fsn) then stE2e else stTimeout
  if s.isSelf dst then
    match s.shed.items.find? (fun i => match i.caller with
        | .prog x _ b _ => decide (x = flow) && decide (b = fsn) | _ => false) with
    | none => .next s
    | some it =>
      let s := s.updItem it.id (fun i => { i with caller := match i.caller with
        | .prog x _ _ buf => .gone x buf | c => c })
      let s := s.noteFail (s.ctx flow).item localWin
      .next (s.updCtx flow (fun c => { c with calls := c.calls - 1, callFails := c.callFails ++ [stTimeout] }))
  else
    match s.ctxOf flow with
    | none => .next s
    | some w =>
      let s := s.freshWait flow fsn
      if s.awaitsGrant w dst fsn then
        .next ((s.granted w st 0 0 0 false).ownStep)
      else .next ((s.opEnd dst flow fsn .timedOut ⟨st, [], []⟩).ownStep).mirrorPush

/-! ### Joins (R365 to R370) -/

/-- The TGATE that waits on a join record ends: the record is freed, the status is written (R370). -/
def State.gateEnd (s : State) (x jn st : Nat) : State :=
  match (s.ctx x).wait with
  | .gate j d => if j = jn then ((s.setJoin x jn none).setS x d (statusWord st 0)).goOn x 0x6A else s
  | _ => s

/-- The join records that a packet of form C matches: context, record (R368). -/
def State.joinsOf (s : State) (h : List Byte) : List (Nat × Nat) :=
  s.ctxs.flatMap (fun e => e.2.joins.filterMap (fun y =>
    match y.2 with
    | some j =>
      if j.eid = hSrc h ∧ j.group = bits (field h 16 2) 10 0 ∧ j.epoch = byteAt h 29 ∧
          (hMcast h ∨ j.member = bits (field h 18 2) 12 0) then some (e.1, y.1) else none
    | none => none))

/-- A RESULT or GROUP_FAIL that no join record matches, and that is not for a tree node, is discarded and counted
(R369, R378). -/
def State.unmatched (s : State) (h : List Byte) : State :=
  if s.joinsOf h = [] ∧ (s.nodeOf h).isNone then
    { s with flows := { s.flows with drops := { s.flows.drops with results := s.flows.drops.results + 1 } } }
  else s

/-- A result reaches a join record. -/
def State.joinResult (s : State) (x jn : Nat) (h data : List Byte) : State :=
  match s.join x jn with
  | none => s
  | some j =>
    if j.isGate then s.gateEnd x jn stOk
    else if j.status.isSome then s
    else
      let k := field h 20 4
      let n := field h 32 2
      let ofs := field h 24 4
      let at_ := j.recvOfs + k * j.bytes j.outFmt j.e + j.bytes j.outFmt ofs
      let s := if j.recvOfs = 0xFFFFFFFF ∨ n = 0 then s else s.benchPut x at_ (data.take (j.bytes j.outFmt n))
      -- an element counts one; the chunk itself counts one more, so that an empty result shows
      let old := tabGet (fun _ => 0) j.got k
      let new := if n = 0 then (if j.expects k = 0 then 1 else old) else (if old = 0 then 1 else old) + n
      let j := { j with got := tabSet (fun _ => 0) j.got k new }
      let j := { j with done := ((List.range j.c).filter j.chunkHas).length }
      (s.setJoin x jn (some j)).joinSend x jn

/-- RESULT (R220, R368): at a tree node it is its parent's result; every matching join takes its copy. -/
def execResult (port : Nat) (pkt : Pkt) (s : State) : Out :=
  let (ok, s) := s.sink port 0x18 pkt
  if !ok then .next s
  else
    let h := pkt.hdr
    let s := s.unmatched h
    let s := match s.nodeOf h with | some g => s.parentResult g pkt | none => s
    .next ((s.joinsOf h).foldl (fun s y => s.joinResult y.1 y.2 h pkt.data) s)

/-- GROUP_FAIL (R225, R368). -/
def execGroupFail (port : Nat) (pkt : Pkt) (s : State) : Out :=
  let (ok, s) := s.sink port 0x19 pkt
  if !ok then .next s
  else
    let h := pkt.hdr
    let s := s.unmatched h
    let s := match s.nodeOf h with
      | some g =>
        let x := s.group g
        let ahead := (byteAt h 29 + 256 - x.oldest % 256) % 256
        -- an EPOCH behind the oldest instance names one that is complete (R219, check 3)
        if 128 < ahead then s else s.failInstance g (x.oldest + ahead) (hStatus h)
      | none => s
    .next ((s.joinsOf h).foldl (fun s y =>
      match s.join y.1 y.2 with
      | some j => if j.isGate then s.gateEnd y.1 y.2 (hStatus h)
        else if j.status.isSome then s else s.setJoin y.1 y.2 (some { j with status := some (hStatus h) })
      | none => s) s)

/-- JOIN_TIMEOUT (R368): TGATE has no timeout of its own (R370). -/
def execJoinTimeout (x j : Nat) (s : State) : Out :=
  match s.join x j with
  | some y => if y.isGate ∨ y.status.isSome ∨ y.done = y.c then .next s
    else .next (s.setJoin x j (some { y with status := some stTimeout }))
  | none => .next s

/-! ### Commit of the route and multicast tables (R114, R143 to R145) -/

/-- A request of the commit engine: the Cuing form COMMIT carries the bits of RTE_COMMIT. -/
def State.commitReq (s : State) (src : Src) (b : Nat) : Bool :=
  match src with
  | .reg path a v => decide (a = aCommit) && s.pathOk path && s.plnUp && decide (fld v b b = 1)
  | .cmd tag =>
    match s.cmd tag 0x0205 with
    | some p => decide (byteAt p.payload 0 = (if b = 0 then 0 else if b = 2 then 1 else 2))
    | none => false

/-- Indices of shadow entries that hold anything, and of the active ones. -/
def State.allRoutes (s : State) : List Nat := (s.routeKeysAny 0x02000000 ++ s.routeKeysAny 0x02080000).eraseDups

/-- The changed route entries and multicast groups. -/
def State.changedRoutes (s : State) : List Nat := s.allRoutes.filter s.routeChanged
def State.mcastKeys (s : State) : List Nat :=
  (s.regs.filterMap (fun e =>
    if 0x02100000 ≤ e.1 ∧ e.1 < 0x02120000 then some ((e.1 - 0x02100000) % 0x10000 / 0x40) else none)).eraseDups
def State.changedMcast (s : State) : List Nat := s.mcastKeys.filter s.mcastChanged

/-- The shadow route copy fails R114. -/
def State.shadowBad (s : State) : Bool :=
  let sh (i w hi lo : Nat) : Nat := s.rf (aRouteSh i w) hi lo
  let l := (s.routeKeysAny 0x02080000).filter (fun i => decide (sh i 4 31 31 = 1))
  let pair (p : Nat) : Bool := decide (s.portRole p = 3)
  let eid (i : Nat) : Nat := sh i 4 30 29 * 16384 + i
  let grid := (l.filter (fun i => decide (sh i 4 26 26 = 1))).map (fun i => (sh i 5 15 8, sh i 5 7 0))
  l.any (fun i => decide (sh i 4 28 28 = 0) && (pair (sh i 4 14 8) || pair (sh i 4 22 16) ||
      (List.range 4).any (fun j => (bitList 32 (sh i j 31 0)).any (fun k => pair (32 * j + k))))) ||
  decide (grid.eraseDups.length ≠ grid.length) ||
  l.any (fun i => decide (eid i = 0xFFFF)) ||
  !(l.any (fun i => decide (sh i 4 28 28 = 1) && decide (eid i = s.selfEid)))

/-- End a commit with a RESULT, and answer the Cuing command that started it. -/
def State.commitEnd (s : State) (result status : Nat) : State :=
  let s := ((s.setRf aCommitSt 0 0 0).setRf aCommitSt 3 1 result).setRf aCommitSt 6 4 0
  let s := match s.flows.commitTag with | some t => s.finish t status (if status = stOk then s.regBytes aCommitSt 1 else []) | none => s
  { s with flows := { s.flows with commitTag := none } }

/-- Answer a COMMIT that ends at once, with RTE_COMMIT_STATUS (R493). -/
def State.commitAnswer (s : State) (src : Src) : State := s.answer src stOk (s.regBytes aCommitSt 1)

/-- COMMIT_START (R144, step 1; R145): CHANGED counts for the commit from its start (R149); the shadow copies cannot
change while it runs. -/
def execCommitStart (src : Src) (s : State) : Out :=
  if !s.commitReq src 0 then .next s
  else if s.rf aCommitSt 0 0 = 1 then .next (s.answer src stBusy [])
  else if s.fallback then .next ((s.setRf aCommitSt 3 1 5).answer src stState [])
  else
    let tag := match src with | .cmd t => some t | .reg _ _ _ => none
    let s := match tag with | some t => s.hold t | none => s
    let n := s.changedRoutes.length + s.changedMcast.length
    let s := ((s.setRf aCommitSt 31 16 (min 65535 n)).setRf aCommitSt 0 0 1).setRf aCommitSt 6 4 1
    .next { s with flows := { s.flows with commitTag := tag } }

/-- No packet routed or replicated by a changed entry is in the device. -/
def State.commitDrained (s : State) : Bool :=
  let hit (p : Nat) (k : QPkt) : Bool :=
    if hMcast k.hdr then
      s.mcastChanged (hDst k.hdr % 1024) || (s.mcastMembers (hDst k.hdr % 1024)).any (fun e =>
        s.routeChanged (e % 16384) && (s.edgeCand e).contains p)
    else !s.pairBound k && s.routeChanged (hDst k.hdr % 16384)
  s.sw.outq.all (fun e => e.2.all (fun k => !hit (e.1 / 8) k)) &&
    -- a packet of which some copies wait is replicated by the entries it began with
    s.sw.inq.all (fun e => e.2.all (fun k => k.only.isNone || !s.heldByCommit k.hdr))

/-- Step 4 of R144: every changed entry takes its shadow value, and is mirrored (R513); the reply waits for the
acknowledgement while the pair mirrors. -/
def State.commitApply (s : State) : State :=
  let rs := s.changedRoutes
  let ms := s.changedMcast
  let s := rs.foldl (fun s i => s.setRegs (aRoute i 0) ((List.range 8).map (fun w => s.reg (aRouteSh i w)))) s
  let s := ms.foldl (fun s g => s.setRegs (aMcast g 0) ((List.range 16).map (fun w => s.reg (aMcastSh g w)))) s
  let s := s.uncut
  let items := rs.map (fun i => (1, i, s.bodyRoute i)) ++ ms.map (fun g => (2, g, s.bodyMcast g))
  match s.flows.commitTag, items.getLast? with
  | some t, some (ty, k, b) =>
    let s := items.dropLast.foldl (fun s x => s.mirror x.1 x.2.1 x.2.2) s
    let s := { s with flows := { s.flows with commitTag := none } }
    let s := s.commitEnd 1 stOk
    s.mirrorAnswer ty k b (.cmd t) (s.regBytes aCommitSt 1)
  | _, _ => (items.foldl (fun s x => s.mirror x.1 x.2.1 x.2.2) s).commitEnd 1 stOk

/-- COMMIT_VALIDATE_DONE (R144, steps 2 and 3): a commit with no changed entry completes at once. -/
def execCommitValidateDone (s : State) : Out :=
  if s.rf aCommitSt 6 4 ≠ 1 then .next s
  else if s.shadowBad then .next (s.commitEnd 2 stFit)
  else
    let s := s.setRf aCommitSt 6 4 2
    .next (if s.changedRoutes = [] ∧ s.changedMcast = [] then s.commitApply else s)

/-- COMMIT_DRAINED (R144, step 4). -/
def execCommitDrained (s : State) : Out :=
  if s.closing ∧ s.commitDrained then .next s.commitApply else .next s

/-- DRAIN_LIMIT_EXPIRE and COMMIT_ABORT (R144, step 5). -/
def execDrainLimitExpire (s : State) : Out := .next (if s.closing then s.commitEnd 3 stBusy else s)
def execCommitAbort (src : Src) (s : State) : Out :=
  if !s.commitReq src 1 then .next s
  else
    .next ((if s.closing then s.commitEnd 4 stBusy else s).commitAnswer src)

/-- COMMIT_SYNC (R143, R145): the active copies are copied into the shadow copies. -/
def execCommitSync (src : Src) (s : State) : Out :=
  if !s.commitReq src 2 then .next s
  else if s.rf aCommitSt 0 0 = 1 then .next (s.answer src stBusy [])
  else
    let rs := s.changedRoutes
    let ms := s.changedMcast
    let s := rs.foldl (fun s i => s.setRegs (aRouteSh i 0) ((List.range 8).map (fun w => s.reg (aRoute i w)))) s
    let s := ms.foldl (fun s g => s.setRegs (aMcastSh g 0) ((List.range 16).map (fun w => s.reg (aMcast g w)))) s
    .next (s.commitAnswer src)

/-! ### Error counts of the RTE block (R118, R156, R180) -/

/-- RTE_PKT_ERR_CLEAR (R118). -/
def execRtePktErrClear (path : Path) (v : Word) (s : State) : Out :=
  if s.pathOk path ∧ s.plnUp ∧ fld v 0 0 = 1 then .next ((s.setReg aPktErr0 0).setReg aPktErr1 0) else .next s
/-- RTE_FLOW_ERR_CLEAR (R156). -/
def execRteFlowErrClear (path : Path) (v : Word) (s : State) : Out :=
  if s.pathOk path ∧ s.plnUp ∧ fld v 0 0 = 1 then
    .next (((s.setReg (aFlowErr 0) 0).setReg (aFlowErr 1) 0).setReg (aFlowErr 2) 0) else .next s
/-- RTE_CONG_ERR_CLEAR (R180). -/
def execRteCongErrClear (path : Path) (v : Word) (s : State) : Out :=
  if s.pathOk path ∧ s.plnUp ∧ fld v 0 0 = 1 then
    .next (((s.setReg (aCongErr 0) 0).setReg (aCongErr 1) 0).setReg (aCongErr 2) 0) else .next s

end Sys2Proof.Machine
end

