-- ==== Sys2Proof/Machine/Load.lean ====
section
/-!
DEFINITION. Sys2Proof/Machine/Load.lean: images: their layout (R319 to R323), the checks of a load and what
it reserves (R276, R277), unloading (R278), and the sequence library's entry points (R260 to R264).
-/

namespace Sys2Proof.Machine

/-! ### The layout of an image (R319 to R321) -/

def imgFlag (b : List Byte) (i : Nat) : Bool := bit (byteAt b 8) i
def imgService (b : List Byte) : Bool := imgFlag b 0
def imgSigned (b : List Byte) : Bool := imgFlag b 1
def imgDecl (b : List Byte) : List Byte := slice b (field b 20 4) (field b 24 4)
def imgEntries (b : List Byte) : List (Nat × Nat × Nat × Nat) :=
  (List.range (field b 32 2)).map (fun i =>
    let o := field b 28 4 + 16 * i
    (field b o 4, byteAt b (o + 4), byteAt b (o + 5), field b (o + 6) 2))

/-- QUEUE records of a declaration block: PRIO, WEIGHT, DEPTH. -/
def declQueues (d : List Byte) : List (Nat × Nat × Nat) :=
  (List.range (byteAt d 5)).map (fun i => (byteAt d (64 + 4 * i), byteAt d (65 + 4 * i), field d (66 + 4 * i) 2))

/-- GROUP records: the 16 words of the context, the member entries, the plan entries; at most `fuel`. -/
def declGroups (d : List Byte) : Nat → Nat → List (List Word × List Word × List Word) × Nat
  | 0, o => ([], o)
  | n + 1, o =>
    let ctx := bytesToWords 16 (d.drop o)
    let m := fld (ctx.getD 2 0) 29 16
    let p := fld (ctx.getD 6 0) 13 0
    let (r, e) := declGroups d n (o + 64 + 4 * m + 4 * p)
    ((ctx, bytesToWords m (d.drop (o + 64)), bytesToWords p (d.drop (o + 64 + 4 * m))) :: r, e)

/-- The regions of an image: offset and length. -/
def imgRegions (b : List Byte) : List (Nat × Nat) :=
  [(0, 64), (field b 20 4, field b 24 4), (field b 28 4, 16 * field b 32 2), (field b 36 4, field b 40 4),
    (field b 44 4, field b 48 4)] ++ (if imgSigned b then [(field b 52 4, field b 16 4 - field b 52 4)] else [])

/-- No two nonempty regions overlap. -/
def disjoint : List (Nat × Nat) → Bool
  | [] => true
  | (a, n) :: r => r.all (fun x => n = 0 || x.2 = 0 || !overlap a n x.1 x.2) && disjoint r

/-- Check 4 of R276: the form of R322. -/
def imgFormOk (b : List Byte) : Bool :=
  let d := imgDecl b
  let code := field b 40 4
  let total := field b 16 4
  let (_, dEnd) := declGroups d (field d 40 2) (64 + 4 * byteAt d 5)
  let bob (k : Nat) : Nat := field d (16 + 4 * k) 4
  decide (field b 0 4 = 0x524F5044) && decide (field b 4 2 = 1) && decide (64 ≤ total) && decide (total ≤ b.length) &&
  (imgRegions b).all (fun x => decide (x.1 + x.2 ≤ total)) && disjoint (imgRegions b) &&
  decide (1 ≤ field b 32 2 ∧ field b 32 2 ≤ 4096) && decide (field b 36 4 % 4 = 0) && decide (code % 4 = 0) &&
  (if imgSigned b then decide (field b 16 4 - field b 52 4 = 104) else decide (field b 52 4 = 0)) &&
  decide (64 ≤ d.length) && decide (dEnd = field b 24 4) &&
  decide (field d 0 2 % 8 = 0 ∧ 8 ≤ field d 0 2 ∧ field d 0 2 ≤ 512) && decide (1 ≤ field d 2 2) &&
  decide (1 ≤ byteAt d 5 ∧ byteAt d 5 ≤ 32) && decide (byteAt d 6 ≤ 32) &&
  decide (ceilDiv code 1024 ≤ field d 8 4) && decide (ceilDiv (field b 48 4) 1024 ≤ field d 12 4) &&
  (List.range 5).all (fun k => decide (bob k ≤ 512 * bufsPerSeg k)) &&
  decide (field d 36 2 ≤ 8192) && decide (field d 38 2 ≤ 4096) && decide (field d 40 2 ≤ 256) &&
  (declQueues d).all (fun q => decide (q.1 ≤ 3) && (imgService b || decide (q.1 ≠ 0)) && decide (1 ≤ q.2.1) &&
    decide (1 ≤ q.2.2 ∧ q.2.2 ≤ 2048)) &&
  (imgEntries b).all (fun e => decide (e.1 % 4 = 0) && decide (e.1 < code) && decide (e.2.1 < byteAt d 5) &&
    decide (e.2.2.2 ≤ 4096))

/-! ### Reserving (R276, checks 5 to 12) -/

/-- The areas of the general region that are taken: images, the fabric window, relay staging. -/
def State.takenAreas (s : State) : List (Nat × Nat) :=
  (s.fabBase, s.fabLimit - s.fabBase) :: (s.relayBase, 2 ^ 26) ::
    s.shed.images.flatMap (fun e => match e.2 with
      | some im => [(im.codeBase, im.codeKib * 1024), (im.dataBase, im.dataKib * 1024)]
      | none => [])

/-- The lowest address at which n bytes fit. -/
def State.placeArea (s : State) (taken : List (Nat × Nat)) (n : Nat) : Option Nat :=
  let starts := 0 :: taken.map (fun x => x.1 + x.2)
  let ok := starts.filter (fun a => decide (a + n ≤ s.genEnd) && taken.all (fun x => x.2 = 0 || n = 0 || !overlap a n x.1 x.2))
  match ok with
  | [] => none
  | a :: r => some (r.foldl min a)

/-- The lowest start in a table of `size` entries at which n entries fit beside the ranges of the groups. -/
def lowestRange (taken : List (Nat × Nat)) (size n : Nat) : Option Nat :=
  let starts := 0 :: taken.map (fun x => x.1 + x.2)
  let ok := starts.filter (fun a => decide (a + n ≤ size) && taken.all (fun x => !overlap a n x.1 x.2))
  match ok with
  | [] => none
  | a :: r => some (r.foldl min a)

/-- Place and take in one declared group (check 12): its context number, or none. -/
def State.loadGroup (s : State) (gr : List Word × List Word × List Word) : Option (Nat × State) :=
  let live := s.liveGroups
  match (List.range 2048).find? (fun g => !live.contains g),
      lowestRange (live.map (fun g => (s.gMBase g, s.gMembers g))) 65536 gr.2.1.length,
      lowestRange (live.map (fun g => (s.gPBase g, s.gPLen g))) 32768 gr.2.2.length with
  | some g, some m, some p =>
    let s := (List.range 16).foldl (fun s w =>
      s.setReg (aGroup g w) (s.grpMask (aGroup g w) (gr.1.getD w 0))) s
    let s := (s.setRf (aGroup g 2) 15 0 m).setRf (aGroup g 6) 30 16 p
    let s := s.setRegs (aMemberE m) (gr.2.1.map (s.grpMask (aMemberE m)))
    let s := s.setRegs (aPlan p) (gr.2.2.map (s.grpMask (aPlan p)))
    let (st, win) := s.admission g true
    if st = stOk then some (g, (s.groupReserve g win).groupArm g win 0) else none
  | _, _, _ => none

/-- Admit every declared group, or none of them. -/
def State.loadGroups (s : State) : List (List Word × List Word × List Word) → Option (List Nat × State)
  | [] => some ([], s)
  | g :: r =>
    match s.loadGroup g with
    | none => none
    | some (k, s) => (State.loadGroups s r).map (fun x => (k :: x.1, x.2))

/-- Take the lowest FREE queues as OWNED by image i, all or none. -/
def State.loadQueues (s : State) (i : Nat) (cs : List Nat) : List (Nat × Nat × Nat) → Option (List Nat × State)
  | [] => some ([], s)
  | (prio, weight, depth) :: r =>
    match (List.range 256).find? (fun q => decide (s.qState q = 0)) with
    | none => none
    | some q =>
      if cs.any (fun c => decide (2048 < s.descRsv c + depth)) then none
      else
        let w0 := 2 ^ 30 + prio * 2 ^ 28 + weight * 2 ^ 20 + i * 2 ^ 14
        let s := (s.setReg (aQueue 0 q 0) (BitVec.ofNat 32 w0)).setReg (aQueue 0 q 1) (BitVec.ofNat 32 depth)
        (State.loadQueues s i cs r).map (fun x => (q :: x.1, x.2))

/-- Commit BOB_RSV in every cluster, all or none. -/
def State.loadBobs (s : State) (i : Nat) (l : List (Nat × Nat)) : List Nat → Option State
  | [] => some s
  | c :: r =>
    match s.poolReserveAll c (.image i) l with
    | none => none
    | some s => State.loadBobs s i l r

/-- The lowest FREE image index. -/
def State.freeImage (s : State) : Option Nat := (List.range 64).find? (fun i => decide (s.imgState i = 0))

/-- Checks 5 to 12 and the reservations, made together (R276); a failure changes nothing. -/
def State.imgReserve (s : State) (i eid : Nat) (b : List Byte) (lib : Option Nat) : Nat × State :=
  let d := imgDecl b
  let pin := byteAt d 4
  let cs := if pin = 0 then List.range 8 else bitList 8 pin
  let going (c : Nat) : Bool := s.barred (dShu c) && decide ((s.dom (dShu c)).off = .held)
  if (if pin = 0 then (List.range 8).all going else cs.any going) then (stState, s)
  else
    let codeK := field d 8 4
    let dataK := field d 12 4
    match s.placeArea s.takenAreas (codeK * 1024) with
    | none => (stFit, s)
    | some ca =>
      match s.placeArea ((ca, codeK * 1024) :: s.takenAreas) (dataK * 1024) with
      | none => (stFit, s)
      | some da =>
        let rsv := (List.range 5).map (fun k => field d (16 + 4 * k) 4)
        let im : Image :=
          { granules := field d 0 2 / 8, codeBase := ca, codeBytes := field b 40 4, codeKib := codeK, dataBase := da
            dataBytes := field b 48 4, dataKib := dataK, rsv := rsv, queues := [], slots := [], groups := []
            entries := imgEntries b, reorder := field d 38 2, reorderUsed := 0, handles := [], bufs := [], library := lib
            buildId := field b 56 8, bytes := b }
        match s.loadBobs i ((List.range 5).map (fun k => (k, rsv.getD k 0))) cs with
        | none => (stFit, s)
        | some t =>
          -- the image's own words come first: its queues count where PIN_MASK opens them
          let t := t.setReg (aImage i 0) (BitVec.ofNat 32 (2 ^ 29 + b2n lib.isSome * 2 ^ 28 + pin * 2 ^ 16))
          match t.loadQueues i cs (declQueues d) with
          | none => (stFit, s)
          | some (qs, t) =>
            let free := (List.range 8192).filter (fun w => (t.src w).image.isNone)
            let nw := field d 36 2
            if free.length < nw ∨ 4096 < t.reorderRsv + (t.flows.wins.filter (fun w => w.spray && w.fromImage.isNone)).length + im.reorder then
              (stFit, s)
            else
              let t := (free.take nw).foldl (fun t w => t.setSrc w { t.src w with image := some i }) t
              let slots := ((List.range 32).filter (fun n => decide (t.slotState n = 0) &&
                (tabGet (fun _ => none) t.seq.reserved n).isNone)).take (byteAt d 6)
              if slots.length < byteAt d 6 then (stFit, s)
              else
                let t := slots.foldl (fun t n => { t with seq := { t.seq with
                  reserved := tabSet (fun _ => none) t.seq.reserved n (some i) } }) t
                match t.loadGroups (declGroups d (field d 40 2) (64 + 4 * byteAt d 5)).1 with
                | none => (stFit, s)
                | some (gs, t) =>
                  let mask := sumNat (slots.map (fun n => 2 ^ n))
                  let t := t.setReg (aImage i 1) (BitVec.ofNat 32 (nw * 2 ^ 16 + im.reorder))
                  let t := (t.setReg (aImage i 2) (BitVec.ofNat 32 mask)).setReg (aImage i 3)
                    (BitVec.ofNat 32 (eid * 2 ^ 16 + field d 2 2))
                  (stOk, t.setImage i (some { im with queues := qs, slots := slots, groups := gs }))

/-- Copy an image's code and data into its areas (R324). -/
def State.imgCopy (s : State) (i : Nat) : State :=
  match s.image i with
  | none => s
  | some im =>
    let b := im.bytes
    let s := s.memPut im.codeBase (slice b (field b 36 4) im.codeBytes)
    ((s.memClear im.dataBase (im.dataKib * 1024)).memPut im.dataBase (slice b (field b 44 4) im.dataBytes))

/-- The body of a mirrored image (R595, type 4). -/
def State.bodyImage (s : State) (i : Nat) : List Byte :=
  match s.image i with
  | none => s.regBytes (aImage i 0) 4
  | some im =>
    let d := imgDecl im.bytes
    s.regBytes (aImage i 0) 4 ++ d.take (64 + 4 * byteAt d 5) ++
      slice im.bytes (field im.bytes 28 4) (16 * field im.bytes 32 2) ++
      im.queues.flatMap (fun q => s.regBytes (aQueue 0 q 0) 2)

/-- Queue mirror data: moves from local addresses to addresses at the partner. -/
def State.pushData (s : State) (ms : List Move) : State :=
  if s.streaming then
    let k := s.pair.pushNext
    { s with pair := { s.pair with
      push := s.pair.push ++ ms.zipIdx.map (fun m => (k + m.2, m.1))
      pushNext := k + ms.length } }
  else s

/-- An image's code and data go through the mirror region (R513); where in it is not stated. -/
def State.pushImage (s : State) (i : Nat) : State :=
  match s.image i with
  | none => s
  | some im =>
    let (r, s) := s.draw
    let n := im.codeKib + im.dataKib
    let room := (s.mirEnd - s.genEnd) / 1024 - n
    let at_ := s.genEnd + r % max 1 room * 1024
    s.pushData (movePieces n (.hbm im.codeBase) (.twin at_) (im.codeKib * 1024) ++
      movePieces n (.hbm im.dataBase) (.twin (at_ + im.codeKib * 1024)) (im.dataKib * 1024))

/-! ### Loading and unloading (R276 to R278) -/

/-- The policy record in force, and its fields (R456). -/
def State.polFlag (s : State) (i : Nat) : Bool := bit (byteAt s.fw.policy 16) i

/-- Refuse the load in progress. -/
def State.loadEnd (s : State) (st : Nat) : State :=
  match s.shed.load with
  | none => s
  | some l =>
    let s := { s with shed := { s.shed with load := none } }
    match l.tag with | some t => s.finish t st [] | none => s

/-- Checks 3 (SVN) to 12 of the load in progress. -/
def State.loadChecks (s : State) : State :=
  match s.shed.load with
  | none => s
  | some l =>
    if field l.bytes 12 4 < field s.fw.policy 20 4 then s.loadEnd stRollback
    else if !imgFormOk l.bytes ∨ !s.isSelf l.eid then s.loadEnd stUnsup
    else
      -- the index is reserved with the rest: a SERVICE image may have taken one meanwhile (R276, check 2)
      match s.freeImage with
      | none => s.loadEnd stFit
      | some i =>
        match s.imgReserve i l.eid l.bytes none with
        | (st, t) =>
          if st ≠ stOk then s.loadEnd st
          else
            let t := t.setRf (aImage i 0) 27 27 (b2n (imgSigned l.bytes))
            { t with shed := { t.shed with load := some { l with idx := i, copying := true } } }

/-- IMAGE_LOAD (R276, checks 1 and 2; R277, step 1; R322). -/
def execImageLoad (tag : Nat) (s : State) : Out :=
  match s.cmd tag 0x0302 with
  | none => .next s
  | some p =>
    let b := p.payload.drop 8
    if p.payload.length < 8 then .next (s.finish tag stUnsup [])
    else if imgService b then .next (s.finish tag stAuth [])
    else if s.fallback ∨ !s.shed.unload.isEmpty then .next (s.finish tag stState [])
    else if s.shed.load.isSome then .next (s.finish tag stBusy [])
    else
      match s.freeImage with
      | none => .next (s.finish tag stFit [])
      | some i =>
        let s := { s.hold tag with shed := { s.shed with load := some ⟨some tag, i, field p.payload 0 2, b, false⟩ } }
        if imgSigned b then .next s
        else if s.polFlag 1 then .next (s.loadEnd stSignature)
        else .next s.loadChecks

/-- The signature block of an image verifies (R323, R448, R457, R458): it lies at SIG_OFS, names a key of the policy, and
signs every byte before it. -/
def State.sigOk (s : State) (b : List Byte) : Bool :=
  let at_ := field b 52 4
  let sg := b.drop at_
  let key := byteAt sg 4
  decide (field sg 0 4 = 0x47534444) && decide (key < byteAt s.fw.policy 17) &&
    ecdsaOk (slice s.fw.policy (64 + 96 * key) 96) (sha384 (b.take at_)) (slice sg 8 96)

/-- IMAGE_VERIFY_DONE (R276, check 3): the SEC core has verified the signature over the image's bytes; an outcome that
is not theirs cannot come (log entry 9). -/
def execImageVerifyDone (ok : Bool) (s : State) : Out :=
  match s.shed.load with
  | none => .next s
  | some l =>
    -- signature checks wait while the SEC core restarts (R437)
    if l.copying ∨ s.fw.delegates.contains 0 ∨ !imgSigned l.bytes ∨ ok ≠ s.sigOk l.bytes then .next s
    else .next (if ok then s.loadChecks else s.loadEnd stSignature)

/-- IMAGE_COPY_DONE (R277, step 4): the image is RESIDENT; the reply waits for the standby's
acknowledgement while the pair mirrors (R513). -/
def execImageCopyDone (s : State) : Out :=
  match s.shed.load with
  | none => .next s
  | some l =>
    if !l.copying then .next s
    else
      let s := (s.imgCopy l.idx).setRf (aImage l.idx 0) 31 29 2
      let s := { s with shed := { s.shed with load := none } }
      let gs := ((s.image l.idx).map (·.groups)).getD []
      let s := gs.foldl (fun s g => s.mirror 3 g (s.bodyGroup g)) (s.pushImage l.idx)
      match l.tag with
      | some t => .next (s.mirrorAnswer 4 l.idx (s.bodyImage l.idx) (.cmd t) (leBytes 1 l.idx)).mirrorPush
      | none => .next (s.mirror 4 l.idx (s.bodyImage l.idx)).mirrorPush

/-- An image goes DRAINING (R278): its queued items end, its groups are released. -/
def State.drainImage (s : State) (i : Nat) (tag : Option Nat) : State :=
  let s := s.setRf (aImage i 0) 31 29 3
  let q := s.shed.items.filter (fun y => decide (y.image = i) && y.runs.isNone)
  let s := q.foldl (fun s y => s.endItem y stState 0 0 0 []) s
  { s with shed := { s.shed with unload := s.shed.unload ++ [(i, tag)] } }

/-- IMAGE_UNLOAD (R278). -/
def execImageUnload (tag : Nat) (s : State) : Out :=
  match s.cmd tag 0x0303 with
  | none => .next s
  | some p =>
    let i := byteAt p.payload 0
    let st := s.imgState i
    if p.payload.length ≠ 1 ∨ 64 ≤ i then .next (s.finish tag stUnsup [])
    else if s.fallback then .next (s.finish tag stState [])
    else if st = 0 then .next (s.finish tag stUnsup [])
    else if s.imgService i then .next (s.finish tag stAuth [])
    else if st = 1 then .next (s.finish tag stBusy [])
    else if st = 3 then .next (s.finish tag stState [])
    else if (((s.image i).map (·.slots)).getD []).any (fun n => decide (s.slotState n = 1)) then
      .next (s.finish tag stState [])
    else .next ((s.hold tag).drainImage i (some tag))

/-- Free every reservation of an image (R276, R278, R318). -/
def State.imgFreeAll (s : State) (i : Nat) : State :=
  match s.image i with
  | none => s
  | some im =>
    let s := (List.range 8).foldl (fun s c => (s.poolFreeAll c (.image i)).poolRelease c (.image i)) s
    let s := im.queues.foldl (fun s q => (s.setReg (aQueue 0 q 0) 0).setReg (aQueue 0 q 1) 0) s
    let ws := (s.flows.srcs.filter (fun e => decide (e.2.image = some i))).map (·.1)
    let s := ws.foldl (fun s w => s.setSrc w { s.src w with image := none }) s
    let s := { s with
      seq := { s.seq with reserved := s.seq.reserved.filter (fun e => e.2 ≠ some i) }
      flows := { s.flows with wins := s.flows.wins.map (fun (w : Win) =>
        if w.fromImage = some i then { w with fromImage := none } else w) } }
    (s.setRegs (aImage i 0) [0, 0, 0, 0]).setImage i none

/-- IMAGE_DRAIN_DONE (R278, steps 3 to 6): no item of the image runs; its groups are released first, and
its reservations are freed once no packet of them remains. -/
def execImageDrainDone (idx : Nat) (s : State) : Out :=
  match s.shed.unload.find? (fun u => decide (u.1 = idx)), s.image idx with
  | some (_, tag), some im =>
    -- the holder returns every buffer before it releases its reservation (R184)
    if s.shed.items.any (fun y => decide (y.image = idx)) || (List.range 8).any (fun c => (s.pool c).held.any (fun b =>
        match b.holder with | .imgPkt i _ => decide (i = idx) | _ => false)) then .next s
    else
      let live := im.groups.filter (fun g => decide (s.gState g = 1) || decide (s.gState g = 2))
      if !live.isEmpty then
        .next (live.foldl (fun s g => (s.failOpen g stGroupState false).setRf (aGroup g 0) 31 29 3) s)
      else if im.groups.any (fun g => decide (s.gState g = 3) && !s.groupDrained g) then .next s
      else
        let s := im.groups.foldl (fun s g => if s.gState g = 3 then (s.groupFree g).mirror 3 g (s.bodyGroup g) else s) s
        let s := s.imgFreeAll idx
        let s := { s with shed := { s.shed with unload := s.shed.unload.filter (fun u => u.1 ≠ idx) } }
        match tag with
        | some t => .next (s.mirrorAnswer 4 idx (s.bodyImage idx) (.cmd t) [])
        | none => .next (s.mirror 4 idx (s.bodyImage idx))
  | _, _ => .next s

/-! ### The sequence library (R260 to R264) -/

/-- The running library item of a command: a SERVICE item of library 0 at one of its entries, with its
context. -/
def State.libItem (s : State) (item entry : Nat) : Option (Item × Nat) :=
  match s.item item with
  | none => none
  | some it =>
    match it.runs with
    | none => none
    | some x =>
      if it.entry = entry ∧ ((s.image it.image).bind (·.library)) = some 0 then some (it, x) else none

/-- A step of a library item: its context must have its turn on its shuttle, and leaves the shuttle to the others
while it waits (R272). -/
def State.libStep (s : State) (item entry : Nat) (go : Item → Nat → State) : Out :=
  match s.libItem item entry with
  | none => .next s
  | some (it, x) =>
    if !s.turn x then .next s
    else
      let t := go it x
      .next (if (t.item item).isSome then t.unready x else t)

def Item.arg (it : Item) (i : Nat) : Nat := field it.form (16 + 8 * i) 8
def Item.slotNo (it : Item) : Nat := byteAt it.form 0 % 32
def Item.token (it : Item) : Nat := bits (field it.form 1 3) 20 0
def Item.layer (it : Item) : Nat := field it.form 4 2
def Item.asker (it : Item) (x : Nat) : Asker :=
  { item := some it.id, image := it.image, c := ctxCluster x, key := x }

/-- End a library item with a failure. -/
def State.libFail (s : State) (it : Item) (st : Nat) : State := s.endItem it st 0 0 0 []

/-- The moves of n records of m bytes between consecutive bytes from `near` and translated places. -/
def placeMoves (append : Bool) (near : Nat → Loc) (m : Nat) : Nat → List (Option Nat × Nat) → List Move
  | _, [] => []
  | i, (e, a) :: r =>
    let far : Loc := match e with | some p => .fab p a | none => .hbm a
    (if append then movePieces (m / 4096 + 1) (near (i * m)) far m else movePieces (m / 4096 + 1) far (near (i * m)) m) ++
      placeMoves append near m (i + 1) r

/-- The copies of an append's local bytes to the dovetail partner (R257). -/
def twinMoves (l : List Move) : List Move :=
  l.filterMap (fun m => match m.dst with | .hbm a => some ⟨m.dst, .twin a, m.n, 0⟩ | _ => none)

def Move.isTwin (m : Move) : Bool := match m.dst with | .twin _ => true | _ => false

/-- An append has been completed without its copy (R257). -/
def State.mirrorStale (s : State) (n : Nat) : State := s.setRf (aSlot n 0) 26 26 1

/-- The job of the copies of a context. -/
def copyJob (x : Nat) (it : Item) (k : Copy) : Job :=
  { item := some it.id, image := it.image, c := ctxCluster x, key := x, x := x, typ := 1, kind := .move x k.k
    append := decide (k.kind = 1) }

/-- Once an append's bytes are written, they are sent to the partner; one that is performed while the pair does not
mirror completes without the copy (R257). -/
def State.copyTwin (s : State) (x : Nat) (it : Item) (k : Copy) : Copy × State :=
  if k.kind ≠ 1 ∨ k.status ≠ stOk ∨ s.sl k.slot 0 28 28 = 0 then (k, s)
  else if !s.mirroring then
    if k.twin && !k.moves.any (fun m => m.isTwin && decide (m.done ≠ 2)) then (k, s)
    else if !k.twin && !movesDone k.moves then (k, s)
    else ({ k with twin := true, moves := k.moves.filter (fun m => !m.isTwin) }, s.mirrorStale k.slot)
  else if k.twin || !movesDone k.moves then (k, s)
  else
    let (ms, _, s) := s.moveAll (copyJob x it k) k.moves.length (twinMoves k.moves)
    ({ k with twin := true, moves := k.moves ++ ms }, s)

/-- The first move of a kind that a step has begun and ended. -/
def firstOver (p : Move → Bool) : List Move → List Move → Option Move
  | m :: r, n :: q => if m.done = 0 ∧ n.done = 2 ∧ p m = true then some m else firstOver p r q
  | _, _ => none

/-- The first move over the fabric that was over without having been asked for: its window was not granted. -/
def turnedAway : List Move → List Move → Option Move := firstOver (fun m => m.src.far.isSome || m.dst.far.isSome)

/-- Another append to tokens that an append names is being performed (R249). -/
def State.appendBusy (s : State) (x : Nat) (k : Copy) : Bool :=
  s.ctxs.any (fun e => e.2.copies.any (fun c => decide (c.kind = 1) && !c.fin && c.moves.any (fun m => decide (m.done ≠ 0)) &&
    decide (c.slot = k.slot) && decide (c.layer = k.layer) && overlap c.token c.n k.token k.n && !(decide (e.1 = x) && decide (c.k = k.k))))

/-- An append that has not begun waits for one to the same tokens that has: appends are performed whole, in the order
the SEQ block takes them (R249). -/
def State.appendWaits (s : State) (x : Nat) (k : Copy) : Bool :=
  decide (k.kind = 1) && k.moves.all (fun m => decide (m.done = 0)) && s.appendBusy x k

/-- Take the copy of a context a step further: the copy, changed.  A page that its lender no longer keeps is lost, and
one whose lender refuses it is marked LOST (R254); what was asked of the caller's memory fails with the status that
came (R262); a copy to the partner that fails leaves the slot stale (R257). -/
def State.copyStep (s : State) (x : Nat) (it : Item) (k : Copy) : Copy × State :=
  if s.appendWaits x k then (k, s)
  else
  let j := copyJob x it k
  let fails := s.moveFails j k.moves
  let (ms, wst, s) := s.moveAll j 0 k.moves
  let fails := fails ++ ((turnedAway k.moves ms).map (fun m => (m, wst))).toList ++
    ((firstOver (fun m => s.locBad x m.src m.n) k.moves ms).map (fun m => (m, stPathLost))).toList
  let s := if fails.any (fun f => f.1.isTwin) then s.mirrorStale k.slot else s
  let (st, s) := match fails.find? (fun f => !f.1.isTwin) with
    | none => (stOk, s)
    | some (m, st) =>
      let lost (e a : Nat) : Nat × State := (stRemoteLost, (if st = stAuth then s.markLost e (a / 65536) else s).seqFail stRemoteLost)
      match m.src, m.dst with
      | .fab e a, _ => lost e a
      | _, .fab e a => lost e a
      | _, _ => (st, s)
  s.copyTwin x it { k with moves := ms, status := if k.status = stOk then st else k.status }

/-- The moves of a copy are over, and for an append to a MIRROR slot so are its acknowledgements. -/
def State.copyOver (s : State) (k : Copy) : Bool :=
  (k.status ≠ stOk || movesDone k.moves) && !(k.kind = 1 && s.slotWaits k.slot)

/-- LIB_APPEND (R245, R257, R261): the records are placed, and the call ends when they are written and
every acknowledgement has come. -/
def execLibAppend (item : Nat) (s : State) : Out :=
  s.libStep item 3 fun it x =>
    let n := it.slotNo
    let cnt := it.arg 0 % 65536
    let m := s.bpt n
    match (s.ctx x).copies with
    | [] =>
      if s.slotState n ≠ 1 then s.libFail it stNoSlot
      else if it.slot.isNone ∨ 4096 < cnt * m ∨ it.payload.length < cnt * m then s.libFail it stUnsup
      else if s.sl n 3 31 16 ≤ it.layer then s.libFail it stSeqRange
      else if s.layerLen n it.layer < it.token then s.libFail it stSeqGap
      else
        match s.translateAll (it.asker x) n it.layer 0 m true cnt it.token with
        | (_, .fail st, t) => t.libFail it st
        | (_, .wait, t) => t
        | (l, .at _ _, t) =>
          let k : Copy :=
            { k := 0, tag := 0, kind := 1, moves := placeMoves true .bench m 0 l, slot := n, layer := it.layer, token := it.token, n := cnt
              status := stOk, fin := false }
          let (k, t) := t.copyStep x it k
          if k.status ≠ stOk then t.libFail it k.status
          else if t.copyOver k then
            let t := t.raiseLen n it.layer (it.token + cnt)
            t.endItem it stOk (t.layerLen n it.layer) 0 0 []
          else t.updCtx x (fun c => { c with copies := [k] })
    | k :: _ =>
      let (k, t) := s.copyStep x it k
      if k.status ≠ stOk then t.libFail it k.status
      else if t.copyOver k then
        let t := t.raiseLen n it.layer (it.token + cnt)
        t.endItem it stOk (t.layerLen n it.layer) 0 0 []
      else t.updCtx x (fun c => { c with copies := [k] })

/-- LIB_READ (R245, R261): the records are gathered and returned. -/
def execLibRead (item : Nat) (s : State) : Out :=
  s.libStep item 4 fun it x =>
    let n := it.slotNo
    let cnt := it.arg 0 % 65536
    let m := s.bpt n
    let done (s : State) : State := s.endItem it stOk 0 0 0 (s.benchGet x 0 (cnt * m))
    match (s.ctx x).copies with
    | [] =>
      if s.slotState n ≠ 1 then s.libFail it stNoSlot
      else if it.slot.isNone ∨ 4096 < cnt * m then s.libFail it stUnsup
      else
        match s.translateAll (it.asker x) n it.layer 0 m false cnt it.token with
        | (_, .fail st, t) => t.libFail it st
        | (_, .wait, t) => t
        | (l, .at _ _, t) =>
          let k : Copy :=
            { k := 0, tag := 0, kind := 2, moves := placeMoves false .bench m 0 l, slot := n, layer := it.layer
              token := it.token, n := cnt, status := stOk, fin := false }
          let (k, t) := t.copyStep x it k
          if k.status ≠ stOk then t.libFail it k.status
          else if movesDone k.moves then done t
          else t.updCtx x (fun c => { c with copies := [k] })
    | k :: _ =>
      let (k, t) := s.copyStep x it k
      if k.status ≠ stOk then t.libFail it k.status
      else if movesDone k.moves then done t
      else t.updCtx x (fun c => { c with copies := [k] })

/-- Take frames for a lend, at most n: from any stacks that take allocations (R252). -/
def State.lendFrames (s : State) (eid : Nat) : Nat → List Nat × State
  | 0 => ([], s)
  | n + 1 =>
    if s.seqAvail = 0 ∨ s.rf (aSeqRegion + 0x38) 22 0 ≤ s.lent then ([], s)
    else
      match s.choose ((List.range 8).filter (fun k => s.inAlloc k && decide (0 < s.stackFree k))) with
      | (none, s) => ([], s)
      | (some k, s) =>
        let (f, s) := s.takeFrame k (.lent eid)
        let (r, s) := State.lendFrames s eid n
        (f :: r, s)

/-- LIB_LEND (R252, R261). -/
def execLibLend (item : Nat) (s : State) : Out :=
  s.libStep item 5 fun it _ =>
    let n := it.arg 0 % 64
    if it.slot.isSome ∨ it.token ≠ 0 ∨ it.layer ≠ 0 ∨ n = 0 ∨ 32 < n then s.libFail it stUnsup
    else
      let (fs, s) := s.lendFrames it.src n
      s.endItem it stOk fs.length 0 0 (fs.flatMap (leBytes 4))

/-- LIB_RETURN (R252, R261). -/
def execLibReturn (item : Nat) (s : State) : Out :=
  s.libStep item 6 fun it _ =>
    let n := it.arg 0
    if it.slot.isSome ∨ it.token ≠ 0 ∨ it.layer ≠ 0 ∨ n = 0 ∨ 1024 < n ∨ it.payload.length < 4 * n then
      s.libFail it stUnsup
    else
      let fs := (List.range n).map (fun i => field it.payload (4 * i) 4)
      let s := fs.foldl (fun s f =>
        if s.frameUse f = .lent it.src then s.setFrame f .free else s.bump (aSeqErr 1) 7 1 1) s
      s.endItem it stOk 0 0 0 []

/-- The records of a range of tokens, for the attention entries; remote ones are fetched first, as moves
into the bench above the payload (R263, R264). -/
def attnBytes (s : State) (it : Item) (x : Nat) (first : Nat) : List Byte :=
  s.benchGet x 4096 ((it.token + 1 - first) * s.bpt it.slotNo)

/-- Bytes of one output record (R200, R262): m and l as FP32, and HEAD_DIM elements of o. -/
def attnRec (s : State) (it : Item) : Nat :=
  recBytes (if byteAt (leBytes 8 (it.arg 1)) 1 = 0x13 then 0x50 else 0x51) (s.sl it.slotNo 2 31 16)

/-- Query heads of a call, and the bytes of one query vector (R262). -/
def attnHeads (it : Item) : Nat := bits (it.arg 0) 15 8 * bits (it.arg 0) 23 16
def attnQVec (s : State) (it : Item) (kind : Nat) : Nat :=
  (s.sl it.slotNo 2 31 16 + if kind = 0 then 0 else s.sl it.slotNo 2 15 0) * if bits (it.arg 0) 31 24 = 0x13 then 2 else 4

/-- The partial of one span: a record of each query head.  The arithmetic within a span is in a fixed order that the
spec does not give: a function of the attended records, the arguments and the descriptor (R264; DESIGN CHOICE, log
entry 13). -/
def attnSpan (s : State) (it : Item) (query records : List Byte) : List SRec :=
  let d := s.sl it.slotNo 2 31 16
  let n := recBytes 0x51 d
  let b := Config.attention (leBytes 8 (it.arg 0) ++ s.regBytes (aSlot it.slotNo 1) 2 ++ query ++ records) (attnHeads it * n)
  (List.range (attnHeads it)).map (fun h => recOf 0x51 d (slice b (h * n) n))

/-- The records of one query: the partials of the spans that its range of tokens touches, merged in ascending span
order by R208 (R247, R264).  `all` holds the records from token `first` on. -/
def attnQuery (s : State) (it : Item) (query all : List Byte) (first last : Nat) : List SRec :=
  let per := 128 * max 1 (s.tpp it.slotNo)
  let m := s.bpt it.slotNo
  (List.range (last / per + 1 - first / per)).foldl (fun acc i =>
    let j := first / per + i
    let a := max first (j * per)
    let b := min last ((j + 1) * per - 1)
    List.zipWith recMerge acc (attnSpan s it query (slice all ((a - first) * m) ((b + 1 - a) * m))))
    (List.replicate (attnHeads it) ⟨0xFF800000, 0, List.replicate (s.sl it.slotNo 2 31 16) 0⟩)

/-- The output of an attention call: one record per query head, queries in token order; FINAL normalises it and sends
only o (R262, R263). -/
def attnOut (s : State) (it : Item) (kind first qt : Nat) (query all : List Byte) : List Byte :=
  let f := if bits (it.arg 1) 15 8 = 0x13 then 0x50 else 0x51
  let final := decide (bits (it.arg 1) 1 0 = 0)
  let q := attnHeads it * attnQVec s it kind
  (List.range qt).flatMap (fun i =>
    (attnQuery s it (slice query (i * q) q) all first (it.token + 1 + i - qt)).flatMap (fun r =>
      (recOut f final r).drop (if final then 8 else 0)))

/-- The output bytes of a call: FINAL sends only o (R262). -/
def attnLen (s : State) (it : Item) (tokens : Nat) : Nat :=
  let r := attnRec s it
  tokens * attnHeads it * (if bits (it.arg 1) 1 0 = 0 then r - 8 else r)

/-- The checks that the attention entries share (R261 to R263): the status of a call that fails one. -/
def attnBad (s : State) (it : Item) (kind first qt : Nat) (inline : Bool) : Nat :=
  let n := it.slotNo
  let a0 := it.arg 0
  let heads := bits a0 15 8
  let qf := bits a0 31 24
  let out := bits (it.arg 1) 1 0
  let of := bits (it.arg 1) 15 8
  let qbytes := attnHeads it * attnQVec s it kind
  if it.slot.isNone then stUnsup
  else if s.slotState n ≠ 1 then stNoSlot
  else if s.sl n 1 31 28 ≠ kind ∨ heads = 0 ∨ s.sl n 1 15 8 < bits a0 7 0 + heads ∨ (kind = 1 ∧ (bits a0 7 0 ≠ 0 ∨ heads ≠ 1)) ∨
      bits a0 23 16 = 0 ∨ 128 < bits a0 23 16 ∨ (qf ≠ 0x13 ∧ qf ≠ 0x14) ∨ out = 3 ∨ (of ≠ 0x13 ∧ of ≠ 0x14) ∨
      it.token < first ∨ qt = 0 ∨ it.token + 1 < qt then stUnsup
  else if s.sl n 3 31 16 ≤ it.layer ∨ it.len0 ≤ it.token then stSeqRange
  else if inline ∧ (it.payload.length < qbytes ∨ (out ≠ 2 ∧ 4096 < attnLen s it qt)) then stUnsup
  else stOk

/-- The moves that bring the attended records into the bench. -/
def State.attnGather (s : State) (it : Item) (x first : Nat) : Option (List Move) × Nat × State :=
  let n := it.slotNo
  let m := s.bpt n
  match s.translateAll (it.asker x) n it.layer 0 m false (it.token + 1 - first) first with
  | (_, .fail st, t) => (none, st, t)
  | (_, .wait, t) => (none, stOk, t)
  | (l, .at _ _, t) => (some (placeMoves false (fun a => .bench (4096 + a)) m 0 l), stOk, t)

/-- Where the query of a call that fetches it lies in the bench. -/
def qBench : Nat := 2 ^ 40

/-- Query bytes of a call. -/
def attnQBytes (s : State) (it : Item) (kind qt : Nat) : Nat :=
  qt * (attnHeads it * attnQVec s it kind)

/-- Contribution i of a GROUP call, of at most 4,096 bytes of its records (R262). -/
def attnPkt (s : State) (it : Item) (data : List Byte) (i : Nat) : Pkt :=
  let a := it.arg 1
  let r := attnRec s it
  let per := max 1 (4096 / max 1 r)
  let d := slice data (i * per * r) (per * r)
  mkPkt (bits a 63 48) s.selfEid 0x10 false false false 0 0
    (opC (bits a 26 16) (bits a 39 27) 0 (i * per) (if bits a 15 8 = 0x13 then 0x50 else 0x51) (bits a 47 40) 0
      (d.length / max 1 r)) d

/-- The contributions of a GROUP call go out from number `sent` on, each with a buffer drawn for it (R185, R186);
a draw that waits stops them until the next step of the call, and the last one ends the call (R262). -/
def State.attnContrib (s : State) (it : Item) (x told : Nat) (data : List Byte) (sent : Nat) : State :=
  let total := ceilDiv (data.length / max 1 (attnRec s it)) (max 1 (4096 / max 1 (attnRec s it)))
  let (n, s) := (List.range (total - sent)).foldl (fun (a : Nat × State) i =>
    if a.1 ≠ sent + i then a
    else
      let p := attnPkt a.2 it data a.1
      let (ok, t) := a.2.injBuffer it.cluster x (ceilDiv p.data.length 64)
      if ok then (a.1 + 1, t.emitHeld it.cluster x p) else (a.1, t)) (sent, s)
  if total ≤ n then s.endItem it stOk told 0 0 []
  else
    let k : Copy :=
      { k := 2, tag := 0, kind := 0, moves := [], slot := 0, layer := 0, token := 0, n := n, status := stOk, fin := false }
    (s.benchPut x (2 * qBench) data).updCtx x (fun c => { c with copies := [k] })

/-- An attention call goes as far as it can (R261 to R264): its query (inline, or by GET from the caller),
the attended records, then its output: in the CALL_DONE, by PUT to the caller, or as contributions.  The
phases stand in the context's copies: copy 0 gathers, copy 1 puts the output, copy 2 contributes it. -/
def State.attend (s : State) (it : Item) (x kind first qt : Nat) (inline : Bool) : State :=
  let st := attnBad s it kind first qt inline
  let qAddr := field it.payload 0 8
  let oAddr := field it.payload 8 8
  let len := attnLen s it qt
  -- PREFILL tells QTOKENS, whatever becomes of the output (R261)
  let told := if kind = 0 ∧ !inline then qt else 0
  let outK := bits (it.arg 1) 1 0
  let finishQ (s : State) : State :=
    let query := if inline then it.payload else s.benchGet x qBench (attnQBytes s it kind qt)
    let data := attnOut s it kind first qt query (attnBytes s it x first)
    if outK = 2 then s.attnContrib it x told data 0
    else if inline then s.endItem it stOk 0 0 0 data
    else
      let s := s.benchPut x (2 * qBench) data
      let k : Copy :=
        { k := 1, tag := 0, kind := 0, moves := movePieces (len / 4096 + 1) (.bench (2 * qBench)) (.ext it.src oAddr) len
          slot := 0, layer := 0, token := 0, n := 0, status := stOk, fin := false }
      let (k, s) := s.copyStep x it k
      s.updCtx x (fun c => { c with copies := [k] })
  match (s.ctx x).copies with
  | [] =>
    if st ≠ stOk then s.libFail it st
    else
      match s.attnGather it x first with
      | (none, st, t) => if st ≠ stOk then s.libFail it st else t
      | (some ms, _, t) =>
        let nq := attnQBytes t it kind qt
        let q := if inline then [] else movePieces (nq / 4096 + 1) (.ext it.src qAddr) (.bench qBench) nq
        let k : Copy :=
          { k := 0, tag := 0, kind := 2, moves := ms ++ q, slot := it.slotNo, layer := it.layer, token := first, n := 0
            status := stOk, fin := false }
        let (k, t) := t.copyStep x it k
        if k.status ≠ stOk then t.libFail it k.status
        else if movesDone k.moves then finishQ t
        else t.updCtx x (fun c => { c with copies := [k] })
  | k :: _ =>
    if k.k = 2 then s.attnContrib it x told (s.benchGet x (2 * qBench) len) k.n
    else
    let (k, t) := s.copyStep x it k
    if k.status ≠ stOk then t.libFail it k.status
    else if movesDone k.moves then
      if k.k = 0 then finishQ t else t.endItem it stOk told 0 0 []
    else t.updCtx x (fun c => { c with copies := [k] })

/-- LIB_DECODE (R261 to R264). -/
def execLibDecode (item : Nat) (s : State) : Out :=
  s.libStep item 0 fun it x => s.attend it x 0 (bits (it.arg 2) 20 0) 1 true

/-- LIB_PREFILL (R261 to R264). -/
def execLibPrefill (item : Nat) (s : State) : Out :=
  s.libStep item 1 fun it x =>
    let qt := field it.payload 20 4
    if 65536 < qt then s.libFail it stUnsup
    else s.attend it x 0 (bits (field it.payload 16 3) 20 0) qt false

/-- LIB_LATENT_DECODE (R261 to R264). -/
def execLibLatentDecode (item : Nat) (s : State) : Out :=
  s.libStep item 2 fun it x =>
    if field it.payload 20 4 ≠ 1 then s.libFail it stUnsup
    else s.attend it x 1 (bits (field it.payload 16 3) 20 0) 1 false

end Sys2Proof.Machine
end

