-- ==== Sys2Proof/Machine/Operands.lean ====
section
/-!
DEFINITION. Sys2Proof/Machine/Operands.lean: how a context issues an instruction (R311 to R316, R325), the
registers and elements its fields name (R297 to R299, R308), and the addresses it forms with the checks on
them (R303 to R306, R342, R343).
-/

namespace Sys2Proof.Machine

/-! ### Issue -/

/-- What issuing an instruction comes to: it is done and the next one follows; it transfers control; it has
ended the work item; it gives its shuttle up and goes on later; it traps (nothing of it stands, but for what a trap itself counts, in `fault`); or
it waits and is issued again, with what it has started; or it waits and nothing follows it (HALT). -/
inductive Issue where
  | done (s : State)
  | jump (s : State) (pc : Nat)
  | ended (s : State)
  | yields (s : State)
  | trap (cause addr status : Nat)
  | fault (s : State) (cause addr status : Nat)
  | wait (s : State)
  | still (s : State)

/-- The status of a trap whose cause fixes it (R315). -/
def causeStatus (cause : Nat) : Nat :=
  if cause = 5 ∨ cause = 6 then stAuth else if cause = 7 then stState else if cause = 8 then stFit
  else if cause = 0x0A then stPathLost else stUnsup

/-- A trap with its cause's own status. -/
def Issue.cause (c addr : Nat) : Issue := .trap c addr (causeStatus c)

/-- The opcodes that the shuttle counters know by class (R526). -/
def isVec (op : Nat) : Bool := decide (0x20 ≤ op) && decide (op ≤ 0x57) && !(decide (0x50 ≤ op) && decide (op ≤ 0x53))
def isMat (op : Nat) : Bool := decide (op = 0x42) || decide (op = 0x43)

/-- The opcodes that read or write memory, or sequence memory; those that load from it. -/
def isMem (op : Nat) : Bool := (decide (0x50 ≤ op) && decide (op ≤ 0x5A)) || (decide (0x70 ≤ op) && decide (op ≤ 0x73))
def isLoad (op : Nat) : Bool := [0x50, 0x52, 0x54, 0x56].contains op

/-- A shuttle counter is set to count an event of context x. -/
def State.shuSees (s : State) (x code : Nat) : Bool :=
  let bank := aShuCnt (ctxCluster x) (ctxShuttle x) 0
  (List.range 4).any (fun j =>
    s.ctrSees bank j code (fun _ => true) && s.rf (bank + 0x10 * j) (23 + x % 4) (23 + x % 4) = 1)

/-- An event whose amount the spec does not state, where a counter counts it: a free value (log entry 53). -/
def State.evFree (s : State) (x code : Nat) : State :=
  if s.shuSees x code then
    let (r, s) := s.draw
    s.evShu x code r (fun _ => true)
  else s

/-- Misses and stalls of an instruction (R526, codes 0x03, 0x07, 0x08): no rule says when a cache misses or how long a
load takes. -/
def State.evMiss (s : State) (x op : Nat) : State :=
  let s := s.evFree x 0x07
  let s := if isMem op then s.evFree x 0x08 else s
  if isLoad op then s.evFree x 0x03 else s

/-- Count an issued instruction, and the context switch when another context of the shuttle issued last
(R526, codes 0x02 to 0x08); its cycles are charged to its queue (R285). -/
def State.evIssue (s : State) (x op : Nat) : State :=
  let last := tabGet (fun _ => 0) s.shed.lastCtx (x / 4)
  let s := if last ≠ 0 ∧ last ≠ x + 1 then s.evShu x 0x04 1 (fun _ => true) else s
  let s := { s with shed := { s.shed with lastCtx := tabSet (fun _ => 0) s.shed.lastCtx (x / 4) (x + 1) } }
  let s := match s.ctxItem x with | some it => s.charge it.cluster it.queue | none => s
  let s := s.evShu x 0x02 1 (fun _ => true)
  let s := if isMat op then s.evShu x 0x05 1 (fun _ => true) else s
  (if isVec op then s.evShu x 0x06 1 (fun _ => true) else s).evMiss x op

/-- Trap: counted (code 0x0A), and the item ends (R315, R316). -/
def State.trapNow (s : State) (x op cause addr status : Nat) : State :=
  (((s.evIssue x op)).evShu x 0x0A 1 (fun _ => true)).trapItem x cause op addr status

/-- The word that context x fetches: four bytes of the code at its program counter (R311). -/
def State.fetched (s : State) (x : Nat) (im : Image) : Nat := leNat (s.memGet (im.codeBase + (s.ctx x).pc) 4)

/-- That word has an uncorrectable error (R315). -/
def State.codeBad (s : State) (x : Nat) (im : Image) : Bool := badIn s.pwr.hbmBad (im.codeBase + (s.ctx x).pc) 4

/-- That word reads without an uncorrectable error, and its opcode is not reserved (R314, R315). -/
def State.fetchOk (s : State) (x : Nat) (im : Image) : Bool := !s.codeBad x im && (daporWord x (s.fetched x im)).isSome

/-- Issue an instruction on context x: the context must hold a work item and not be waiting, and have its turn on its
shuttle, which it keeps until it waits, yields or ends (R272); a word of a reserved opcode and a reserved value in a
field trap with ILLEGAL (R311); one that goes on past the last instruction of the code traps with
BOUNDS and has no effect (R313). -/
def State.issue (s : State) (x op : Nat) (bad : Bool) (f : Item → Image → Issue) : Out :=
  match s.ctxItem x, (s.ctxItem x).bind (fun it => s.image it.image) with
  | some it, some im =>
    let c := s.ctx x
    if c.wait ≠ .no ∨ !s.turn x then .next s
    else if !s.fetchOk x im then
      .next (if s.codeBad x im then (s.eccBump (im.codeBase + c.pc)).trapNow x op 10 0 (causeStatus 10)
        else s.trapNow x (s.fetched x im % 128) 1 0 (causeStatus 1))
    else
      let past := im.codeBytes ≤ c.pc + 4
      match (if bad then Issue.cause 1 0 else f it im) with
      | .trap k a st =>
        .next (s.trapNow x op k a st)
      | .fault t k a st =>
        .next (t.trapNow x op k a st)
      | .jump t pc => .next (((t.updCtx x (fun c => { c with pc := pc })).evIssue x op).onShuttle x)
      | .yields t =>
        if past then .next (s.trapNow x op 3 (c.pc + 4) stUnsup)
        else .next (((t.updCtx x (fun c => { c with pc := c.pc + 4 })).evIssue x op).ready x)
      | .ended t => .next t
      | .still t => .next (t.unready x)
      | .done t =>
        if past then .next (s.trapNow x op 3 (c.pc + 4) stUnsup)
        else .next (((t.updCtx x (fun c => { c with pc := c.pc + 4 })).evIssue x op).onShuttle x)
      | .wait t => if past then .next (s.trapNow x op 3 (c.pc + 4) stUnsup) else .next (t.unready x)
  | _, _ => .next s

/-- An instruction of a table row whose function code `got` may name another row of its opcode (codes
below `count`) or none (then it traps with ILLEGAL). -/
def State.issueFn (s : State) (x op want got count : Nat) (bad : Bool) (f : Item → Image → Issue) : Out :=
  if got = want then s.issue x op bad f
  else if got < count then .next s
  else s.issue x op true f

/-- A result written to scalar register D. -/
def State.doneS (s : State) (x d v : Nat) : Issue := .done (s.setS x d v)

/-- A result with floating-point flags. -/
def State.doneF (s : State) (x d : Nat) (r : Nat × Nat) : Issue :=
  .done ((s.updCtx x (·.raise r.2)).setS x d r.1)

/-- Go on unless some cause is met; of several the lowest code is raised, and of equal ones the first (R315).  A cause
is its code, its address and its status. -/
def Issue.unless (l : List (Option (Nat × Nat × Nat))) (go : Issue) : Issue :=
  let c := l.foldl (fun (b : Option (Nat × Nat × Nat)) e =>
    match b, e with
    | some b, some e => if e.1 < b.1 then some e else some b
    | none, e => e
    | b, none => b) none
  match c with
  | some (k, a, st) => .trap k a st
  | none => go

/-- A cause with its own status, met when a condition holds. -/
def cause? (p : Bool) (k addr : Nat) : Option (Nat × Nat × Nat) := if p then some (k, addr, causeStatus k) else none

/-- MEM where a read of n bench bytes meets an uncorrectable error (R315). -/
def State.benchMem (s : State) (x a n : Nat) : Option (Nat × Nat × Nat) := cause? (badIn (s.ctx x).benchBad a n) 10 0

/-! ### Scalar operands -/

/-- The 64-bit value of a scalar register. -/
def State.sr (s : State) (x i : Nat) : Nat := ((s.ctx x).sreg i).toNat

/-- The low w bits of v, sign-extended to 64 bits (R327). -/
def sext (w v : Nat) : Nat := ofSigned 64 (toSigned w v)

/-- An immediate as 64 bits (R329). -/
def immNat (i : Int) : Nat := ofSigned 64 i

/-! ### Vector, predicate and tile operands (R297 to R299) -/

/-- Element i of w bits of a vector. -/
def velem (v : BitVec 2048) (w i : Nat) : Nat := v.toNat / 2 ^ (w * i) % 2 ^ w

/-- The elements of w bits of a vector, in order. -/
def velems (v : BitVec 2048) (w : Nat) : List Nat := (List.range (2048 / w)).map (velem v w)

/-- Elements of w bits put together. -/
def vpack (w : Nat) (l : List Nat) : Nat := l.foldr (fun e acc => acc * 2 ^ w + e % 2 ^ w) 0

/-- A vector, predicate or tile element of a context; p0 reads as all ones (R297). -/
def Ctx.vreg (c : Ctx) (i : Nat) : BitVec 2048 := tabGet (fun _ => 0) c.v i
def Ctx.preg (c : Ctx) (i : Nat) : Nat :=
  if i = 0 then 2 ^ 256 - 1 else (tabGet (fun _ => (0 : BitVec 256)) c.p i).toNat
def Ctx.setV (c : Ctx) (i v : Nat) : Ctx := { c with v := tabSet (fun _ => 0) c.v i (BitVec.ofNat 2048 v) }
def Ctx.setP (c : Ctx) (i v : Nat) : Ctx :=
  if i = 0 then c else { c with p := tabSet (fun _ => 0) c.p i (BitVec.ofNat 256 v) }
/-- Tile t's element (r, c) is number r × 16 + c (R299). -/
def Ctx.tile (c : Ctx) (t k : Nat) : Nat := (tabGet (fun _ => (0 : BitVec 32)) c.t (256 * t + k)).toNat
def Ctx.setTile (c : Ctx) (t : Nat) (l : List Nat) : Ctx :=
  { c with t := tabSetList (fun _ => 0) c.t (256 * t) (l.map (BitVec.ofNat 32)) }

/-- Element i of w bits is active under predicate p (R298). -/
def pAct (p w i : Nat) : Bool := bit p (i * w / 8)

/-- The indices of the active elements of w bits, ascending. -/
def actives (p w : Nat) : List Nat := (List.range (2048 / w)).filter (pAct p w)

/-- Replace the active elements of w bits of vector D by f of their index (R312), with the flags they
raise. -/
def Ctx.vmap (c : Ctx) (pred w d : Nat) (f : Nat → Nat × Nat) : Ctx :=
  let p := c.preg pred
  let old := c.vreg d
  let rs := (List.range (2048 / w)).map (fun i => if pAct p w i then f i else (velem old w i, 0))
  (c.setV d (vpack w (rs.map (·.1)))).raise (orFlags rs)

/-- The vector D after an elementwise operation. -/
def State.doneV (s : State) (x pred w d : Nat) (f : Nat → Nat × Nat) : Issue :=
  .done (s.updCtx x (fun c => c.vmap pred w d f))

/-- A whole vector written, unpredicated. -/
def State.doneVec (s : State) (x d w : Nat) (rs : List (Nat × Nat)) : Issue :=
  .done (s.updCtx x (fun c => (c.setV d (vpack w (rs.map (·.1)))).raise (orFlags rs)))

/-! ### Addresses (R303 to R305) -/

/-- The place an operand names once it has passed its checks. -/
inductive Place where
  | bench (off : Nat)
  | hbm (a : Nat)
  | seq (slot layer token byte : Nat)
  deriving DecidableEq, Repr

/-- The checks of an operand: its place, or a trap's cause and status. -/
inductive Chk where
  | ok (p : Place)
  | no (cause status : Nat)
  deriving DecidableEq, Repr

def Chk.cause (c : Nat) : Chk := .no c (causeStatus c)

/-- The points where the permission of a range can change. -/
def State.permCuts (s : State) (im : Image) (a n : Nat) : List Nat :=
  let l := [im.codeBase, im.codeBase + im.codeKib * 1024, im.dataBase, im.dataBase + im.dataKib * 1024,
    s.fabBase, s.fabLimit, s.relayBase, s.genEnd, s.mirEnd]
  a :: l.filter (fun p => decide (a < p) && decide (p < a + n))

/-- R305 at one byte. -/
def State.permAt (s : State) (im : Image) (service wr : Bool) (p : Nat) : Bool :=
  let inr (b n : Nat) : Bool := decide (b ≤ p) && decide (p < b + n)
  if inr s.relayBase (2 ^ 26) then false
  else if inr im.codeBase (im.codeKib * 1024) then !wr
  else if inr im.dataBase (im.dataKib * 1024) then true
  else if s.fabBase ≤ p ∧ p < s.fabLimit then true
  else if p < s.genEnd then service
  else if p < s.mirEnd then service && !wr
  else service

/-- R305 over a range. -/
def State.permOk (s : State) (it : Item) (im : Image) (wr : Bool) (a n : Nat) : Bool :=
  n = 0 || (s.permCuts im a n).all (s.permAt im (s.imgService it.image) wr)

/-- The fields of a SEQ address (R244). -/
def seqSlot (a : Nat) : Nat := bits a 59 55
def seqLayer (a : Nat) : Nat := bits a 54 43
def seqToken (a : Nat) : Nat := bits a 42 22
def seqByte (a : Nat) : Nat := bits a 15 0

/-- The slot that a SEQ address names: a declaration index for a JOB program; none when the image did not
declare it (R303, R305). -/
def State.seqSlotOf (s : State) (it : Item) (im : Image) (a : Nat) : Option Nat :=
  if s.imgService it.image then some (seqSlot a) else im.slots[seqSlot a]?

/-- A JOB translation may name the slot: one that is OPEN must be its image's own (R305). -/
def State.slotMine (s : State) (it : Item) (n : Nat) : Bool :=
  s.imgService it.image || decide (s.slotState n ≠ 1) ||
    (s.sl n 12 31 31 = 1 && decide (s.sl n 12 5 0 = it.image))

/-- Which spaces an instruction accepts. -/
structure Acc where
  hbm : Bool
  seq : Bool
  wr  : Bool
  deriving DecidableEq, Repr

/-- Check an operand of n bytes, aligned to `al`, at a 64-bit address (R303 to R305, R315's order of
causes). -/
def State.check (s : State) (x : Nat) (it : Item) (im : Image) (k : Acc) (a n al : Nat) : Chk :=
  match a / 2 ^ 60 with
  | 0 =>
    if bits a 59 19 ≠ 0 ∨ s.benchSize x < a + n then .cause 3
    else if a % al ≠ 0 then .cause 4
    else .ok (.bench a)
  | 1 =>
    let p := bits a 38 0
    if !k.hbm then .cause 2
    else if bits a 59 39 ≠ 0 ∨ 2 ^ 39 < p + n then .cause 3
    else if a % al ≠ 0 then .cause 4
    else if !s.permOk it im k.wr p n then .cause 5
    else .ok (.hbm p)
  | 2 =>
    if !k.seq then .cause 2
    else if a % al ≠ 0 then .cause 4
    else
      match s.seqSlotOf it im a with
      | none => .cause 5
      | some slot =>
        if !s.slotMine it slot then .cause 5 else .ok (.seq slot (seqLayer a) (seqToken a) (seqByte a))
  | _ => .cause 2

/-- The cause that a check comes to, if any. -/
def Chk.cause? (a : Nat) : Chk → Option (Nat × Nat × Nat)
  | .ok _ => none
  | .no k st => some (k, a, st)

/-- Who asks for a translation on behalf of a work item. -/
def asker (x : Nat) (it : Item) : Asker := ⟨some it.id, it.image, ctxCluster x, x⟩

/-- Where the bytes of a load of a remote page are put on their way (internal to the load). -/
def farBench : Nat := 2 ^ 43

/-- The places of loads: for each, the device it is on (none: this one) and its address there, with bench
places above the addresses; or the first failure; or a wait. -/
inductive Locs where
  | ok (l : List Loc) (s : State)
  | trap (cause addr status : Nat) (s : State)
  | wait (s : State)

/-- Resolve the addresses of loads of n bytes each, in order: checks first, then translations (R315). -/
def State.resolve (s : State) (x : Nat) (it : Item) (im : Image) (k : Acc) (n al : Nat) : List Nat → Locs
  | [] => .ok [] s
  | a :: r =>
    match s.check x it im k a n al with
    | .no c st => .trap c a st s
    | .ok p =>
      let one : Locs := match p with
        | .bench o => .ok [.bench o] s
        | .hbm o => .ok [.hbm o] s
        | .seq slot layer token byte =>
          match s.translate (asker x it) slot layer token byte n false with
          | (.at none o, t) => .ok [.hbm o] t
          | (.at (some e) o, t) => .ok [.fab e o] t
          | (.fail st, _) => .trap 9 a st (s.seqFail st)
          | (.wait, t) => .wait t
      match one with
      | .ok l t =>
        match State.resolve t x it im k n al r with
        | .ok l' t => .ok (l ++ l') t
        | o => o
      | o => o

/-- The number that marks the fetch of a load among a context's copies. -/
def farK : Nat := 2 ^ 32

/-- Fetch the remote places of a load through the window that the device opens toward the lender; the load is issued again
until every one has come (R306, R371).  The places are then bench places.  A failure tells its status and which place
it is of. -/
def State.fetchFar (s : State) (x : Nat) (it : Item) (n : Nat) (l : List Loc) : Option (Nat × Nat × Option (List Loc) × State) :=
  let far := l.zipIdx.filter (fun e => match e.1 with | .fab _ _ => true | _ => false)
  if far.isEmpty then some (stOk, 0, some l, s)
  else
    let k : Copy := match (s.ctx x).copies.find? (fun c => decide (c.k = farK)) with
      | some k => k
      | none =>
        { k := farK, tag := 16, kind := 2, moves := far.map (fun e => ⟨e.1, .bench (farBench + 64 * e.2), n, 0⟩)
          slot := 0, layer := 0, token := 0, n := 0, status := stOk, fin := false }
    -- the place of the first that has failed
    let bad := (((s.moveFails (copyJob x it k) k.moves).head?.bind (fun f => k.moves.idxOf? f.1)).bind (fun i => far[i]?)).map (·.2)
    let k0 := k
    let (k, t) := s.copyStep x it k
    let bad := if bad.isSome then bad
      else ((turnedAway k0.moves k.moves).bind (fun m => k0.moves.idxOf? m)).bind (fun i => (far[i]?).map (·.2))
    let rest := (t.ctx x).copies.filter (fun c => c.k ≠ farK)
    if k.status ≠ stOk then some (k.status, bad.getD 0, none, t)
    else if movesDone k.moves then
      some (stOk, 0, some (l.zipIdx.map (fun e => match e.1 with | .fab _ _ => .bench (farBench + 64 * e.2) | p => p)),
        t.updCtx x (fun c => { c with copies := rest }))
    else some (stOk, 0, none, t.updCtx x (fun c => { c with copies := k :: rest }))

/-- Read the bytes of resolved places, in order. -/
def State.readLocs (s : State) (x n : Nat) : List Loc → List (List Byte) × State
  | [] => ([], s)
  | l :: r =>
    let (b, s) := s.locGet x l n
    let (bs, s) := State.readLocs s x n r
    (b :: bs, s)

/-- Bytes of internal places are given up once read. -/
def State.dropFar (s : State) (x : Nat) : State :=
  s.updCtx x (fun c => { c with bench := tabClear (fun a => decide (farBench ≤ a)) c.bench })

/-- Load n bytes from each address and go on with them. -/
def State.load (s : State) (x : Nat) (it : Item) (im : Image) (seqOk hbmOk : Bool) (n al : Nat) (addrs : List Nat)
    (go : List (List Byte) → State → Issue) : Issue :=
  match s.resolve x it im ⟨hbmOk, seqOk, false⟩ n al addrs with
  | .trap c a st t => .fault t c a st
  | .wait t => .wait t
  | .ok l t =>
    match t.fetchFar x it n l with
    | some (_, _, some l, t) =>
      -- an uncorrectable error: the lowest-indexed element decides, and nothing is written (R315)
      match l.findIdx? (fun p => t.locBad x p n) with
      | some i => .fault ((t.locErr (l.getD i (.bench 0))).dropFar x) 10 0 (causeStatus 10)
      | none =>
        let (bs, t) := t.readLocs x n l
        go bs (t.dropFar x)
    | some (st, i, none, t) => if st = stOk then .wait t else .fault t 9 (addrs.getD i 0) st
    | none => .wait s

/-- Check the addresses of stores of n bytes each: the first that fails decides. -/
def State.storeChk (s : State) (x : Nat) (it : Item) (im : Image) (hbmOk : Bool) (n al : Nat) :
    List Nat → Except (Nat × Nat × Nat) (List Loc)
  | [] => .ok []
  | a :: r =>
    match s.check x it im ⟨hbmOk, false, true⟩ a n al with
    | .no c st => .error (c, a, st)
    | .ok p =>
      match State.storeChk s x it im hbmOk n al r with
      | .error e => .error e
      | .ok l => .ok ((match p with | .bench o => Loc.bench o | .hbm o => .hbm o | .seq _ _ _ b => .bench b) :: l)

/-- Write bytes to checked places, in order. -/
def State.writeLocs (s : State) (x : Nat) : List (Loc × List Byte) → State
  | [] => s
  | (l, b) :: r => State.writeLocs (s.locPut x l b) x r

/-- Store bytes at each address; nothing is written when one traps. -/
def State.store (s : State) (x : Nat) (it : Item) (im : Image) (hbmOk : Bool) (n al : Nat)
    (l : List (Nat × List Byte)) : Issue :=
  match s.storeChk x it im hbmOk n al (l.map (·.1)) with
  | .error (c, a, st) => .trap c a st
  | .ok ps => .done (s.writeLocs x (ps.zip (l.map (·.2))))

end Sys2Proof.Machine
end

