-- ==== Sys2Proof/Machine/Scalar.lean ====
section
/-!
DEFINITION. Sys2Proof/Machine/Scalar.lean: the scalar instructions of Dapor: integer (R327 to R330),
floating point (R331), conversion (R332), control transfer (R313) and the scalar memory accesses (R342,
R346).
-/

namespace Sys2Proof.Machine

/-! ### Scalar integer (R327 to R330) -/

/-- Leading zeros of a w-bit value. -/
def clz (w v : Nat) : Nat := if v = 0 then w else w - 1 - Nat.log2 v

/-- Shift right with the sign bit shifted in. -/
def sra (w a n : Nat) : Nat := ofSigned w (toSigned w a >>> n)

/-- The integer operations that SOP and VINT share, on w bits: 0 ADD, 1 SUB, 2 AND, 3 OR, 4 XOR, 5 SLL, 6
SRL, 7 SRA, 8 MIN, 9 MAX, 10 MINU, 11 MAXU (R328, R333). -/
def intAlu (k w a b : Nat) : Nat :=
  let m := 2 ^ w
  let a := a % m
  let b := b % m
  match k with
  | 0 => (a + b) % m
  | 1 => (a + m - b) % m
  | 2 => a &&& b
  | 3 => a ||| b
  | 4 => a ^^^ b
  | 5 => (a <<< (b % w)) % m
  | 6 => a >>> (b % w)
  | 7 => sra w a (b % w)
  | 8 => if toSigned w b < toSigned w a then b else a
  | 9 => if toSigned w a < toSigned w b then b else a
  | 10 => min a b
  | _ => max a b

/-- SOP's result in 64 bits: sign-extended but for SRL, MINU and MAXU (R327, R328). -/
def sopResult (fn w a b : Nat) : Nat :=
  let a' := a % 2 ^ w
  let b' := b % 2 ^ w
  match fn with
  | 6 => intAlu 6 w a b
  | 10 => intAlu 10 w a b
  | 11 => intAlu 11 w a b
  | 12 => b2n (decide (toSigned w a' < toSigned w b'))
  | 13 => b2n (decide (a' < b'))
  | 14 => clz w a'
  | 15 => popcount w a'
  | k => sext w (intAlu k w a b)

/-- SOP (R328). -/
def execSop (x et fn b a d : Nat) (s : State) : Out :=
  s.issue x 0x00 (decide (3 < et) || decide (15 < fn)) fun _ _ =>
    s.doneS x d (sopResult fn (etBits et) (s.sr x a) (s.sr x b))

/-- ADDI, ANDI, ORI, XORI, SLTI (R329). -/
def execAddi (x : Nat) (imm : Int) (a d : Nat) (s : State) : Out :=
  s.issue x 0x01 false fun _ _ => s.doneS x d (intAlu 0 64 (s.sr x a) (immNat imm))
def execAndi (x : Nat) (imm : Int) (a d : Nat) (s : State) : Out :=
  s.issue x 0x02 false fun _ _ => s.doneS x d (intAlu 2 64 (s.sr x a) (immNat imm))
def execOri (x : Nat) (imm : Int) (a d : Nat) (s : State) : Out :=
  s.issue x 0x03 false fun _ _ => s.doneS x d (intAlu 3 64 (s.sr x a) (immNat imm))
def execXori (x : Nat) (imm : Int) (a d : Nat) (s : State) : Out :=
  s.issue x 0x04 false fun _ _ => s.doneS x d (intAlu 4 64 (s.sr x a) (immNat imm))
def execSlti (x : Nat) (imm : Int) (a d : Nat) (s : State) : Out :=
  s.issue x 0x06 false fun _ _ => s.doneS x d (b2n (decide (toSigned 64 (s.sr x a) < imm)))

/-- A shift by an amount and a kind: 0 SLL, 1 SRL, 2 SRA, 3 rotate right. -/
def shiftBy (kind n a : Nat) : Nat :=
  match kind with
  | 0 => (a <<< n) % 2 ^ 64
  | 1 => a >>> n
  | 2 => sra 64 a n
  | _ => (a >>> n ||| a <<< (64 - n)) % 2 ^ 64

/-- SHI (R329): IMM15[14:8] nonzero traps with ILLEGAL. -/
def execShi (x : Nat) (imm : Int) (a d : Nat) (s : State) : Out :=
  let i := ofSigned 15 imm
  s.issue x 0x05 (decide (bits i 14 8 ≠ 0)) fun _ _ =>
    s.doneS x d (shiftBy (bits i 7 6) (bits i 5 0) (s.sr x a))

/-- SLI (R314): D := (A << 15) OR IMM15 taken unsigned. -/
def execSli (x : Nat) (imm : Int) (a d : Nat) (s : State) : Out :=
  s.issue x 0x07 false fun _ _ => s.doneS x d ((s.sr x a <<< 15) % 2 ^ 64 ||| ofSigned 15 imm)

/-- SMUL's result on w bits, not yet extended (R330). -/
def smulResult (fn w a b : Nat) : Nat :=
  let m := 2 ^ w
  let a := a % m
  let b := b % m
  let sa := toSigned w a
  let sb := toSigned w b
  match fn with
  | 0 => a * b % m
  | 1 => ofSigned w ((sa * sb) >>> w)
  | 2 => a * b / m
  | 3 => if b = 0 then m - 1 else ofSigned w (sa.tdiv sb)
  | 4 => if b = 0 then m - 1 else a / b
  | 5 => if b = 0 then a else ofSigned w (sa.tmod sb)
  | _ => if b = 0 then a else a % b

/-- SMUL (R330): the results are sign-extended, but that of MULHU. -/
def execSmul (x et fn b a d : Nat) (s : State) : Out :=
  let w := etBits et
  s.issue x 0x08 (decide (3 < et) || decide (6 < fn)) fun _ _ =>
    let r := smulResult fn w (s.sr x a) (s.sr x b)
    s.doneS x d (if fn = 2 then r else sext w r)

/-- SCMP (R330). -/
def execScmp (x et fn b a d : Nat) (s : State) : Out :=
  let w := etBits et
  s.issue x 0x09 (decide (3 < et) || decide (4 < fn)) fun _ _ =>
    let u := s.sr x a % 2 ^ w
    let v := s.sr x b % 2 ^ w
    s.doneS x d (
      match fn with
      | 0 => b2n (decide (u = v))
      | 1 => b2n (decide (u ≠ v))
      | 2 => b2n (decide (toSigned w u < toSigned w v))
      | 3 => b2n (decide (u < v))
      | _ => if s.sr x d % 2 ^ w ≠ 0 then sext w u else sext w v)

/-! ### Scalar floating point (R331, R332) -/

/-- The scalar format: ET 7 fp32, ET 3 FP64. -/
def sfmt (et : Nat) : Fmt := if et = 7 then fFP32 else fFP64

/-- The bits of a scalar floating-point operand. -/
def State.fr (s : State) (x et i : Nat) : Nat := s.sr x i % 2 ^ (sfmt et).width

/-- FOP (R331). -/
def execFop (x et fn b a d : Nat) (s : State) : Out :=
  s.issue x 0x10 (decide (et ≠ 7 ∧ et ≠ 3) || decide (9 < fn)) fun _ _ =>
    s.doneF x d ((sfmt et).arith (s.ctx x).rmode 0 fn (s.fr x et a) (s.fr x et b))

/-- FMAD (R331). -/
def execFmad (x et fn b a d : Nat) (s : State) : Out :=
  -- FN is a field the opcode does not use, reserved as R13 provides (R311)
  let _ := fn
  s.issue x 0x11 (decide (et ≠ 7 ∧ et ≠ 3)) fun _ _ =>
    s.doneF x d ((sfmt et).fused (s.ctx x).rmode 0 false (s.fr x et d) (s.fr x et a) (s.fr x et b))

/-- FCMP (R331): 0 EQ, 1 LT, 2 LE, 3 UN. -/
def execFcmp (x et fn b a d : Nat) (s : State) : Out :=
  s.issue x 0x12 (decide (et ≠ 7 ∧ et ≠ 3) || decide (3 < fn)) fun _ _ =>
    let k := if fn = 0 then 0 else if fn = 1 then 2 else if fn = 2 then 3 else 8
    let (r, fl) := (sfmt et).cmp k (s.fr x et a) (s.fr x et b)
    s.doneF x d (b2n r, fl)

/-- The source kind of SCVT (R332). -/
def scvtSrc (c : Ctx) (k : Nat) : Num :=
  if k < 4 then .int (8 * 2 ^ k) true
  else if k < 8 then .int (8 * 2 ^ (k - 4)) false
  else if k = 8 then .flt c.fp8Fmt
  else if k = 9 then .flt fBF16
  else if k = 10 then .flt fFP16
  else if k = 11 then .flt fFP32
  else .flt fFP64

/-- The destination type of SCVT (R332). -/
def scvtDst (c : Ctx) (et fn : Nat) : Num :=
  if et = 3 ∧ bit fn 4 then .flt fFP64
  else if et < 4 then .int (etBits et) (!bit fn 5)
  else .flt (c.fmt et)

/-- The result of a conversion in 64 bits: a signed integer sign-extended, anything else zero-extended. -/
def Num.place (n : Num) (v : Nat) : Nat :=
  match n with
  | .int w true => sext w v
  | _ => v

/-- The overflow rule of a destination. -/
def Num.how (n : Num) (c : Ctx) : Nat :=
  match n with
  | .flt f => c.how f
  | _ => 0

/-- SCVT (R332). -/
def execScvt (x et fn b a d : Nat) (s : State) : Out :=
  -- the B field is not used
  let _ := b
  s.issue x 0x13 (decide (12 < fn % 16) || bit fn 6) fun _ _ =>
    let c := s.ctx x
    let dst := scvtDst c et fn
    let (r, fl) := convert c.rmode (dst.how c) (scvtSrc c (fn % 16)) dst
      (s.sr x a % 2 ^ (scvtSrc c (fn % 16)).width)
    s.doneF x d (dst.place r, fl)

/-! ### Control transfer (R313) -/

/-- Go to a target, which must lie within the code. -/
def State.goTo (s : State) (im : Image) (target : Nat) : Issue :=
  if target < im.codeBytes then .jump s target else .cause 3 target

/-- A target relative to the instruction, as the 32-bit PC. -/
def State.relTo (s : State) (x : Nat) (ofs : Int) : Nat := ofSigned 32 (((s.ctx x).pc : Int) + 4 * ofs)

/-- COND of a branch: 0 EQ, 1 NE, 2 LT, 3 GE, 4 LTU, 5 GEU. -/
def brTaken (cond a b : Nat) : Bool :=
  match cond with
  | 0 => decide (a = b)
  | 1 => decide (a ≠ b)
  | 2 => decide (toSigned 64 a < toSigned 64 b)
  | 3 => decide (toSigned 64 b ≤ toSigned 64 a)
  | 4 => decide (a < b)
  | _ => decide (b ≤ a)

/-- BR (R313). -/
def execBr (x : Nat) (ofs : Int) (b a cond : Nat) (s : State) : Out :=
  s.issue x 0x78 (decide (5 < cond)) fun _ im =>
    if brTaken cond (s.sr x a) (s.sr x b) then s.goTo im (s.relTo x ofs) else .done s

/-- JAL (R313). -/
def execJal (x : Nat) (imm : Int) (a d : Nat) (s : State) : Out :=
  -- the A field is not used
  let _ := a
  s.issue x 0x79 false fun _ im => (s.setS x d ((s.ctx x).pc + 4)).goTo im (s.relTo x imm)

/-- JALR (R313): a target that is not a multiple of 4 traps with ALIGN, one outside the code with BOUNDS,
whose code is lower. -/
def execJalr (x : Nat) (imm : Int) (a d : Nat) (s : State) : Out :=
  s.issue x 0x7A false fun _ im =>
    let t := (s.sr x a + immNat (4 * imm)) % 2 ^ 64
    if im.codeBytes ≤ t then .cause 3 t
    else if t % 4 ≠ 0 then .cause 4 t
    else (s.setS x d ((s.ctx x).pc + 4)).goTo im t

/-! ### Scalar memory (R342, R346) -/

/-- A scalar load of n bytes: sign-extended or zero-extended. -/
def State.scalarLoad (s : State) (x : Nat) (it : Item) (im : Image) (addr n d : Nat) (sgn : Bool) : Issue :=
  s.load x it im true true n n [addr] fun bs t =>
    let v := leNat (bs.headD [])
    t.doneS x d (if sgn then sext (8 * n) v else v)

/-- LD (R342). -/
def execLd (x et fn b a d : Nat) (s : State) : Out :=
  s.issue x 0x50 (decide (3 < et) || decide (1 < fn)) fun it im =>
    s.scalarLoad x it im ((s.sr x a + s.sr x b) % 2 ^ 64) (etBits et / 8) d (decide (fn = 0))

/-- ST (R342). -/
def execSt (x et fn b a d : Nat) (s : State) : Out :=
  -- FN is not used
  let _ := fn
  s.issue x 0x51 (decide (3 < et)) fun it im =>
    let n := etBits et / 8
    s.store x it im true n n [((s.sr x a + s.sr x b) % 2 ^ 64, leBytes n (s.sr x d))]

/-- LDI (R342). -/
def execLdi (x : Nat) (imm : Int) (a d : Nat) (s : State) : Out :=
  s.issue x 0x52 false fun it im =>
    s.scalarLoad x it im ((s.sr x a + immNat imm) % 2 ^ 64) 8 d false

/-- STI (R342). -/
def execSti (x : Nat) (imm : Int) (a d : Nat) (s : State) : Out :=
  s.issue x 0x53 false fun it im =>
    s.store x it im true 8 8 [((s.sr x a + immNat imm) % 2 ^ 64, leBytes 8 (s.sr x d))]

/-- LATM (R346): the read-modify-write, its prior value to sD; for CAS sD held the compare value. -/
def execLatm (x et fn b a d : Nat) (s : State) : Out :=
  s.issue x 0x5A (decide (et ≠ 2 ∧ et ≠ 3) || decide (9 < fn)) fun it im =>
    let n := etBits et / 8
    let addr := s.sr x a
    match s.check x it im ⟨true, false, true⟩ addr n n with
    | .no c st => .trap c addr st
    | .ok p =>
      let loc : Loc := match p with | .bench o => .bench o | .hbm o => .hbm o | .seq _ _ _ o => .bench o
      if s.locBad x loc n then .fault (s.locErr loc) 10 0 (causeStatus 10)
      else
      let (old, t) := s.locGet x loc n
      let m := 2 ^ (8 * n)
      let new := aop fn (8 * n) (leNat old) (s.sr x b % m) (s.sr x d % m)
      (t.locPut x loc (leBytes n new)).doneS x d (leNat old)

end Sys2Proof.Machine
end

