-- ==== Sys2Proof/Machine/Vector.lean ====
section
/-!
DEFINITION. Sys2Proof/Machine/Vector.lean: the vector instructions of Dapor (R333 to R341, R343).
-/

namespace Sys2Proof.Machine

/-! ### Elements -/

/-- Element i of w bits of vector register r. -/
def State.ve (s : State) (x r w i : Nat) : Nat := velem ((s.ctx x).vreg r) w i

/-- An element type that is an integer. -/
def etInt (et : Nat) : Bool := decide (et < 4)

/-! ### Arithmetic (R333, R334) -/

/-- A signed sum saturated to w bits. -/
def addSat (w a b : Nat) : Nat :=
  let i := toSigned w a + toSigned w b
  ofSigned w (max (intMin w true) (min (intMax w true) i))

/-- VINT's functions (R333). -/
def vintOp (vfn w a b : Nat) : Nat :=
  match vfn with
  | 0 => intAlu 0 w a b
  | 1 => intAlu 1 w a b
  | 2 => smulResult 0 w a b
  | 3 => smulResult 1 w a b
  | 4 => smulResult 2 w a b
  | 5 => intAlu 8 w a b
  | 6 => intAlu 9 w a b
  | 7 => intAlu 10 w a b
  | 8 => intAlu 11 w a b
  | 9 => intAlu 2 w a b
  | 10 => intAlu 3 w a b
  | 11 => intAlu 4 w a b
  | 12 => intAlu 5 w a b
  | 13 => intAlu 6 w a b
  | 14 => intAlu 7 w a b
  | _ => addSat w a b

/-- VINT (R333). -/
def execVint (x et pred vfn b a d : Nat) (s : State) : Out :=
  let w := etBits et
  s.issue x 0x20 (!etInt et) fun _ _ =>
    s.doneV x pred w d (fun i => (vintOp vfn w (s.ve x a w i) (s.ve x b w i), 0))

/-- VFP (R334). -/
def execVfp (x et pred vfn b a d : Nat) (s : State) : Out :=
  s.issue x 0x21 (etInt et || decide (9 < vfn)) fun _ _ =>
    let c := s.ctx x
    let f := c.fmt et
    s.doneV x pred f.width d (fun i =>
      f.arith c.rmode (c.how f) vfn (s.ve x a f.width i) (s.ve x b f.width i))

/-- WDOT: element i of 64 fp32 elements (R334). -/
def wdotElem (c : Ctx) (f : Fmt) (a b d i : Nat) : Nat × Nat :=
  let g := 32 / f.width
  let ws (r : Nat) : List Nat := (List.range g).map (fun j => velem (c.vreg r) f.width (g * i + j))
  let acc := velem (c.vreg d) 32 i
  fFP32.sig [acc] (f.sig (ws a ++ ws b) (dotSum c.rmode (fFP32.dec acc) (((ws a).map f.dec).zip ((ws b).map f.dec))))

/-- VFMA (R334). -/
def execVfma (x et pred vfn b a d : Nat) (s : State) : Out :=
  s.issue x 0x22 (etInt et || decide (2 < vfn) || decide (vfn = 2 ∧ et = 7)) fun _ _ =>
    let c := s.ctx x
    let f := c.fmt et
    if vfn = 2 then s.doneV x pred 32 d (wdotElem c f a b d)
    else s.doneV x pred f.width d (fun i =>
      f.fused c.rmode (c.how f) (decide (vfn = 1)) (s.ve x d f.width i) (s.ve x a f.width i) (s.ve x b f.width i))

/-! ### Comparison and predicates (R335) -/

/-- An integer relation. -/
def intCmp (k w a b : Nat) : Bool :=
  let u := toSigned w a
  let v := toSigned w b
  match k with
  | 0 => decide (a = b)
  | 1 => decide (a ≠ b)
  | 2 => decide (u < v)
  | 3 => decide (u ≤ v)
  | 4 => decide (v < u)
  | 5 => decide (v ≤ u)
  | 6 => decide (a < b)
  | _ => decide (a ≤ b)

/-- Set or clear the w/8 bits of element i of a predicate. -/
def pPut (p w i : Nat) (v : Bool) : Nat := putBits p (i * w / 8 + w / 8 - 1) (i * w / 8) (if v then 2 ^ (w / 8) - 1 else 0)

/-- VCMP (R335). -/
def execVcmp (x et pred vfn b a d : Nat) (s : State) : Out :=
  let bad := decide (8 < vfn) || (decide (vfn = 6 ∨ vfn = 7) && !etInt et) || (decide (vfn = 8) && etInt et) || decide (7 < d)
  s.issue x 0x23 bad fun _ _ =>
    let c := s.ctx x
    let w := etBits et
    let rs := (actives (c.preg pred) w).map (fun i =>
      if etInt et then (i, intCmp vfn w (s.ve x a w i) (s.ve x b w i), 0)
      else (i, (c.fmt et).cmp vfn (s.ve x a w i) (s.ve x b w i)))
    let p := rs.foldl (fun p r => pPut p w r.1 r.2.1) (c.preg d)
    .done (s.updCtx x (fun c => (c.setP d p).raise (rs.foldl (fun f r => f ||| r.2.2) 0)))

/-- The predicate logic of VPLOG on 256 bits. -/
def plogOp (vfn p q : Nat) : Nat :=
  let all := 2 ^ 256 - 1
  match vfn with
  | 0 => p &&& q
  | 1 => p ||| q
  | 2 => p ^^^ q
  | 3 => p &&& (all ^^^ q)
  | _ => all ^^^ p

/-- VPLOG (R335). -/
def execVplog (x et pred vfn b a d : Nat) (s : State) : Out :=
  -- PRED is not used
  let _ := pred
  let w := etBits et
  let pd := decide (vfn ≤ 5) && decide (7 < d)
  let pa := decide (vfn ≠ 5) && decide (7 < a)
  let pb := decide (vfn ≤ 3) && decide (7 < b)
  s.issue x 0x2B (decide (7 < vfn) || pd || pa || pb) fun _ _ =>
    let c := s.ctx x
    if vfn ≤ 4 then .done (s.updCtx x (fun c => c.setP d (plogOp vfn (c.preg a) (c.preg b))))
    else if vfn = 5 then
      .done (s.updCtx x (fun c => c.setP d ((List.range (2048 / w)).foldl (fun p i => pPut p w i (decide (i < s.sr x a))) 0)))
    else
      let l := actives (c.preg a) w
      if vfn = 6 then s.doneS x d l.length else s.doneS x d (l.headD (2048 / w))

/-! ### Reduction (R336) -/

/-- The extreme of a list by an order; the first of equals. -/
def extreme (lt : Nat → Nat → Bool) : List Nat → Option Nat
  | [] => none
  | a :: r => some (r.foldl (fun m v => if lt m v then v else m) a)

/-- The index of the extreme of a list of (index, value). -/
def extremeAt (lt : Nat → Nat → Bool) : List (Nat × Nat) → Option Nat
  | [] => none
  | a :: r => some (r.foldl (fun m v => if lt m.2 v.2 then v else m) a).1

/-- A float in the order of IMAX: a NaN counts as the largest; in that of IMIN as the smallest. -/
def Fmt.below (f : Fmt) (nanTop : Bool) (a b : Nat) : Bool :=
  let x := f.dec a
  let y := f.dec b
  if x = .nan then !nanTop && decide (y ≠ .nan)
  else if y = .nan then nanTop
  else x.ltz y

/-- Integer reductions on the active elements (R336, VFN 0 to 7), as 64 bits. -/
def redInt (vfn w : Nat) (l : List Nat) : Nat :=
  let lt (a b : Nat) : Bool := decide (toSigned w a < toSigned w b)
  let ones := 2 ^ w - 1
  match vfn with
  | 0 => sumNat (l.map (sext w)) % 2 ^ 64
  | 1 => sext w ((extreme (fun m v => lt v m) l).getD (ofSigned w (intMax w true)))
  | 2 => sext w ((extreme lt l).getD (ofSigned w (intMin w true)))
  | 3 => (extreme (fun m v => decide (v < m)) l).getD ones
  | 4 => (extreme (fun m v => decide (m < v)) l).getD 0
  | 5 => l.foldl (fun a v => a &&& v) ones
  | 6 => l.foldl (fun a v => a ||| v) 0
  | _ => l.foldl (fun a v => a ^^^ v) 0

/-- Float reductions (R336, VFN 0 to 2): the fp32 result and its flags. -/
def redFlt (f : Fmt) (mode vfn : Nat) (l : List Nat) : Nat × Nat :=
  match l with
  | [] => if vfn = 0 then (0, 0) else (fFP32.sgn (decide (vfn = 2)) + fFP32.infBits, 0)
  | a :: r =>
    if vfn = 0 then
      let vs := l.map f.dec
      f.sig l (fFP32.fin mode 0 vs ((r.map f.dec).foldl (fun acc v => acc.add mode v) (f.dec a)))
    else
      let m := r.foldl (fun m v => f.fminmax (decide (vfn = 2)) m v) a
      f.sig l ((fFP32.enc 0 0 (f.dec m)).1, 0)

/-- VRED (R336). -/
def execVred (x et pred vfn b a d : Nat) (s : State) : Out :=
  -- the B field is not used
  let _ := b
  s.issue x 0x24 (decide (9 < vfn) || (decide (3 ≤ vfn ∧ vfn ≤ 7) && !etInt et)) fun _ _ =>
    let c := s.ctx x
    let w := etBits et
    let ix := actives (c.preg pred) w
    let l := ix.map (s.ve x a w)
    if 8 ≤ vfn then
      let lt (p q : Nat) : Bool := if etInt et then decide (toSigned w p < toSigned w q) else (c.fmt et).below (decide (vfn = 8)) p q
      s.doneS x d ((extremeAt (if vfn = 8 then lt else fun m v => lt v m) (ix.zip l)).getD (2048 / w))
    else if etInt et then s.doneS x d (redInt vfn w l)
    else s.doneF x d (redFlt (c.fmt et) c.rmode vfn l)

/-! ### Moves within registers (R337) -/

/-- VBCAST (R337). -/
def execVbcast (x et pred vfn b a d : Nat) (s : State) : Out :=
  let w := etBits et
  let n := 2048 / w
  s.issue x 0x26 (decide (3 < vfn) || (decide (vfn = 3) && !etInt et)) fun _ _ =>
    match vfn with
    | 0 => s.doneV x pred w d (fun _ => (s.sr x a % 2 ^ w, 0))
    | 1 => s.doneV x pred w d (fun i => (if i = s.sr x b % n then s.sr x a % 2 ^ w else s.ve x d w i, 0))
    | 2 =>
      let v := s.ve x a w (s.sr x b % n)
      s.doneS x d (if etInt et then sext w v else v)
    | _ => s.doneV x pred w d (fun i => (i % 2 ^ w, 0))

/-- VPERM's functions but COMPRESS: the source of element i of D (R337). -/
def permElem (vfn n i : Nat) (a b : Nat → Nat) : Nat :=
  match vfn with
  | 0 => a (b i % n)
  | 1 => if i % 2 = 0 then a (i / 2) else b (i / 2)
  | 2 => if i % 2 = 0 then a (i / 2 + n / 2) else b (i / 2 + n / 2)
  | 3 => if 2 * i < n then a (2 * i) else b (2 * i - n)
  | 4 => if 2 * i + 1 < n then a (2 * i + 1) else b (2 * i + 1 - n)
  | _ => a (n - 1 - i)

/-- VPERM (R337). -/
def execVperm (x et pred vfn b a d : Nat) (s : State) : Out :=
  let w := etBits et
  let n := 2048 / w
  s.issue x 0x25 (decide (6 < vfn)) fun _ _ =>
    if vfn = 5 then
      let l := (actives ((s.ctx x).preg pred) w).map (fun i => (s.ve x a w i, 0))
      s.doneVec x d w (l ++ List.replicate (n - l.length) (0, 0))
    else s.doneV x pred w d (fun i => (permElem vfn n i (s.ve x a w) (s.ve x b w), 0))

/-! ### Conversions (R338, R339) -/

/-- A vector element type as a number format. -/
def Ctx.num (c : Ctx) (et : Nat) (uns : Bool) : Num :=
  if et < 4 then .int (etBits et) (!uns) else .flt (c.fmt et)

/-- VCVT (R338). -/
def execVcvt (x et pred vfn b a d : Nat) (s : State) : Out :=
  let nS := 2048 / etBits (b % 8)
  let nD := 2048 / etBits et
  let part := vfn % 8
  let lim := if nD ≤ nS then nS / nD else nD / nS
  s.issue x 0x27 (bit vfn 3 || bit b 4 || decide (lim ≤ part)) fun _ _ =>
    let c := s.ctx x
    let src := c.num (b % 8) (bit b 3)
    let dst := c.num et (bit b 3)
    let cv (i : Nat) : Nat × Nat := convert c.rmode (dst.how c) src dst (s.ve x a src.width i)
    s.doneV x pred dst.width d (fun i =>
      if nD ≤ nS then cv (part * nD + i)
      else if part * nS ≤ i ∧ i < part * nS + nS then cv (i - part * nS)
      else (s.ve x d dst.width i, 0))

/-- The 64-bit sum of two scalar registers, as an address. -/
def State.ab (s : State) (x a b : Nat) : Nat := (s.sr x a + s.sr x b) % 2 ^ 64

/-- The MX format of a code of R339. -/
def mxOf (code : Nat) : Fmt × Nat := (mxFmt (0x20 + code)).getD (fE4M3, 8)

/-- VMXCVT (R339). -/
def execVmxcvt (x et pred vfn b a d : Nat) (s : State) : Out :=
  -- PRED is not used
  let _ := pred
  s.issue x 0x28 (etInt et || decide (4 < vfn / 2)) fun it im =>
    let c := s.ctx x
    let f := c.fmt et
    let (m, emax) := mxOf (vfn / 2)
    let blk := 1 + 4 * m.width
    let nb := 2048 / f.width / 32
    let addr := s.ab x a b
    if vfn % 2 = 0 then
      s.load x it im false false (nb * blk) 1 [addr] fun bs t =>
        let data := bs.headD []
        let vs := (List.range nb).flatMap (fun k => mxVals m (slice data (k * blk) blk))
        t.doneVec x d f.width (vs.map (f.enc c.rmode (c.how f)))
    else
      let vs := (velems (c.vreg d) f.width).map f.dec
      let bs := blocksOf nb vs
      let fl := bs.foldl (fun a k => a ||| orFlags (outParts m emax k).2) 0
      (s.updCtx x (·.raise fl)).store x it im false (nb * blk) 1 [(addr, bs.flatMap (fun k => (outBlock m emax k).1))]

/-! ### Special functions (R340) -/

/-- VSFN (R340): an fp32 function of the widened element, rounded to ET. -/
def execVsfn (x et pred vfn b a d : Nat) (s : State) : Out :=
  -- the B field is not used
  let _ := b
  s.issue x 0x29 (decide (et < 5) || decide (7 < vfn)) fun _ _ =>
    let c := s.ctx x
    let f := c.fmt et
    s.doneV x pred f.width d (fun i =>
      let e := s.ve x a f.width i
      let (r, fl) := specialFn c.rmode vfn ((fFP32.enc 0 0 (f.dec e)).1)
      let (q, fl2) := if et = 7 then (r, 0) else f.enc c.rmode 0 (fFP32.dec r)
      f.sig [e] (q, fl ||| fl2))

/-! ### Sorting and sampling (R341) -/

/-- Below in the order of VTOPK: integers signed; floats with NaN above +∞ and −0 below +0. -/
def Ctx.topLt (c : Ctx) (et a b : Nat) : Bool :=
  if et < 4 then decide (toSigned (etBits et) a < toSigned (etBits et) b) else (c.fmt et).below true a b

/-- The lowest value of a type. -/
def Ctx.lowest (c : Ctx) (et : Nat) : Nat :=
  if et < 4 then 2 ^ (etBits et - 1) else (c.fmt et).sgn true + (c.fmt et).infBits

/-- Put an element into a descending list, behind its equals. -/
def insertDesc (lt : Nat → Nat → Bool) (e : Nat × Nat) : List (Nat × Nat) → List (Nat × Nat)
  | [] => [e]
  | y :: r => if lt y.2 e.2 then e :: y :: r else y :: insertDesc lt e r

/-- The active elements, as (index, value), descending and stable. -/
def Ctx.sorted (c : Ctx) (et pred a : Nat) : List (Nat × Nat) :=
  let w := etBits et
  (actives (c.preg pred) w).foldl (fun l i => insertDesc (c.topLt et) (i, velem (c.vreg a) w i) l) []

/-- The running sums of CUMSUM: index, value and flags. -/
def Ctx.cumsum (c : Ctx) (et pred a : Nat) : List (Nat × Nat × Nat) :=
  let w := etBits et
  let f := c.fmt et
  ((actives (c.preg pred) w).foldl (fun (acc : Option Nat × List (Nat × Nat × Nat)) i =>
    let v := velem (c.vreg a) w i
    let r : Nat × Nat := match acc.1 with
      | none => if et < 4 then (v, 0) else f.sig [v] (if f.dec v = .nan then f.qnan else v, 0)
      | some p => if et < 4 then (intAlu 0 w p v, 0) else f.arith c.rmode (c.how f) 0 p v
    (some r.1, acc.2 ++ [(i, r.1, r.2)])) (none, [])).2

/-- VTOPK (R341). -/
def execVtopk (x et pred vfn b a d : Nat) (s : State) : Out :=
  let w := etBits et
  let n := 2048 / w
  s.issue x 0x2A (decide (4 < vfn)) fun _ _ =>
    let c := s.ctx x
    match vfn with
    | 0 =>
      let l := (c.sorted et pred a).map (fun e => (e.2, 0))
      s.doneVec x d w (l ++ List.replicate (n - l.length) (c.lowest et, 0))
    | 1 =>
      let l := (c.sorted et pred a).map (fun e => (e.1, 0))
      s.doneVec x d w (l ++ List.replicate (n - l.length) (2 ^ w - 1, 0))
    | 2 =>
      let l := c.cumsum et pred a
      s.doneV x pred w d (fun i => match l.find? (fun e => decide (e.1 = i)) with
        | some e => e.2
        | none => (s.ve x d w i, 0))
    | 3 =>
      let t := s.sr x b % 2 ^ w
      s.doneS x d (((actives (c.preg pred) w).find? (fun i => c.topLt et t (s.ve x a w i))).getD n)
    | _ =>
      let k := s.sr x b
      s.doneS x d (if k = 0 then c.lowest et else (((c.sorted et pred a)[k - 1]?).map (·.2)).getD (c.lowest et))

/-! ### Vector memory (R343) -/

/-- Load elements of w bits of D from addresses, all or none. -/
def State.vload (s : State) (x : Nat) (it : Item) (im : Image) (w d : Nat) (l : List (Nat × Nat)) : Issue :=
  s.load x it im true true (w / 8) (w / 8) (l.map (·.2)) fun bs t =>
    let vals := (l.map (·.1)).zip (bs.map leNat)
    let v := vals.foldl (fun acc e => putBits acc (w * e.1 + w - 1) (w * e.1) e.2) ((t.ctx x).vreg d).toNat
    .done (t.updCtx x (fun c => c.setV d v))

/-- Store elements of w bits of D at addresses. -/
def State.vstore (s : State) (x : Nat) (it : Item) (im : Image) (w d : Nat) (l : List (Nat × Nat)) : Issue :=
  s.store x it im true (w / 8) (w / 8) (l.map (fun e => (e.2, leBytes (w / 8) (s.ve x d w e.1))))

/-- The address of element i of a VLD or VST form. -/
def State.vaddr (s : State) (x vfn a b w i : Nat) : Nat :=
  (match vfn with
    | 0 => s.sr x a + s.sr x b + i * (w / 8)
    | 1 => s.sr x a + i * s.sr x b
    | _ => s.sr x a + s.sr x b) % 2 ^ 64

/-- VLD (R343). -/
def execVld (x et pred vfn b a d : Nat) (s : State) : Out :=
  let w := etBits et
  s.issue x 0x54 (decide (2 < vfn)) fun it im =>
    s.vload x it im w d ((actives ((s.ctx x).preg pred) w).map (fun i => (i, s.vaddr x vfn a b w i)))

/-- VST (R343). -/
def execVst (x et pred vfn b a d : Nat) (s : State) : Out :=
  let w := etBits et
  s.issue x 0x55 (decide (1 < vfn)) fun it im =>
    s.vstore x it im w d ((actives ((s.ctx x).preg pred) w).map (fun i => (i, s.vaddr x vfn a b w i)))

/-- The elements and addresses of an indexed access. -/
def State.indexed (s : State) (x et pred vfn b a : Nat) : List (Nat × Nat) :=
  let w := etBits et
  let part := vfn % 4
  ((actives ((s.ctx x).preg pred) w).filter (fun i => decide (i / 64 = part))).map (fun i =>
    (i, (s.sr x a + s.ve x b 32 (i % 64) * (if bit vfn 2 then w / 8 else 1)) % 2 ^ 64))

/-- VGTH and VSCT (R343). -/
def execVgth (x et pred vfn b a d : Nat) (s : State) : Out :=
  s.issue x 0x56 (bit vfn 3 || decide (2048 / etBits et ≤ 64 * (vfn % 4))) fun it im =>
    s.vload x it im (etBits et) d (s.indexed x et pred vfn b a)
def execVsct (x et pred vfn b a d : Nat) (s : State) : Out :=
  s.issue x 0x57 (bit vfn 3 || decide (2048 / etBits et ≤ 64 * (vfn % 4))) fun it im =>
    s.vstore x it im (etBits et) d (s.indexed x et pred vfn b a)

end Sys2Proof.Machine
end

