-- ==== Sys2Proof/Machine/Matrix.lean ====
section
/-!
DEFINITION. Sys2Proof/Machine/Matrix.lean: the matrix instructions of Dapor (R348 to R351).  Every rounding
here is to nearest even, whatever RMODE holds, and PRED is not used.
-/

namespace Sys2Proof.Machine

/-- The cause of the lowest code among the checks of several bench operands, with its address (R315). -/
def State.benchChk (s : State) (x : Nat) (it : Item) (im : Image) (l : List (Nat × Nat × Nat)) : Option (Nat × Nat × Nat) :=
  l.foldl (fun b e =>
    match s.check x it im ⟨false, false, true⟩ e.1 e.2.1 e.2.2 with
    | .ok _ => b
    | .no c st => match b with
      | some (c0, _, _) => if c < c0 then some (c, e.1, st) else b
      | none => some (c, e.1, st)) none

/-- Go on with bench operands (address, bytes, alignment) that pass their checks. -/
def State.withBench (s : State) (x : Nat) (it : Item) (im : Image) (l : List (Nat × Nat × Nat)) (go : Issue) : Issue :=
  match s.benchChk x it im l with
  | some (c, a, st) => .trap c a st
  | none => go

/-- Go on with bench operands that are read. -/
def State.readBench (s : State) (x : Nat) (it : Item) (im : Image) (l : List (Nat × Nat × Nat)) (go : Issue) : Issue :=
  s.withBench x it im l (.unless (l.map (fun e => s.benchMem x e.1 e.2.1)) go)

/-- A tile after every element has been computed by f of row and column. -/
def State.doneTile (s : State) (x d : Nat) (f : Nat → Nat → Nat × Nat) : Issue :=
  let rs := (List.range 256).map (fun k => f (k / 16) (k % 16))
  .done (s.updCtx x (fun c => (c.setTile d (rs.map (·.1))).raise (orFlags rs)))

/-! ### Multiply and accumulate (R348 to R350) -/

/-- The factors of the products of MMA: those of integers are exact integers, whose zero has no sign (R348). -/
def Ctx.mmaPairs (c : Ctx) (et : Nat) (as bs : List Nat) : List (Fp × Fp) :=
  (as.zip bs).map (fun p => if et = 0 then (.ofInt (toSigned 8 p.1 * toSigned 8 p.2), .ofInt 1)
    else ((c.fmt et).dec p.1, (c.fmt et).dec p.2))

/-- Element (r, c) of tile D after an MMA on vectors (R348). -/
def mmaElem (c : Ctx) (et a b d r col : Nat) : Nat × Nat :=
  let w := etBits et
  let k := 2048 / w / 16
  let as := (List.range k).map (fun j => velem (c.vreg a) w (r * k + j))
  let bs := (List.range k).map (fun j => velem (c.vreg b) w (j * 16 + col))
  let acc := c.tile d (r * 16 + col)
  fFP32.sig [acc] ((c.fmt et).sig (if et = 0 then [] else as ++ bs)
    (dotSum 0 (fFP32.dec acc) (c.mmaPairs et as bs)))

/-- An FP64 value in a byte string. -/
def f64At (l : List Byte) (i : Nat) : Nat := field l (8 * i) 8

/-- C(r, c) after the FP64 form: eight fused steps in ascending k (R350). -/
def mma64 (a b c : List Byte) (r col : Nat) : Nat × Nat :=
  (List.range 8).foldl (fun acc k =>
    let (v, fl) := fFP64.fused 0 0 false acc.1 (f64At a (r * 8 + k)) (f64At b (k * 16 + col))
    (v, acc.2 ||| fl)) (f64At c (r * 16 + col), 0)

/-- MMA (R348, R350). -/
def execMma (x et pred vfn b a d : Nat) (s : State) : Out :=
  -- PRED and VFN are not used
  let _ := pred + vfn
  s.issue x 0x42 (decide (et = 1 ∨ et = 2) || decide (et ≠ 3 ∧ 3 < d)) fun it im =>
    let c := s.ctx x
    if et = 3 then
      let pa := s.sr x a
      let pb := s.sr x b
      let pc := s.sr x d
      s.readBench x it im [(pa, 1024, 8), (pb, 1024, 8), (pc, 2048, 8)] (
        let ma := s.benchGet x pa 1024
        let mb := s.benchGet x pb 1024
        let mc := s.benchGet x pc 2048
        let rs := (List.range 256).map (fun k => mma64 ma mb mc (k / 16) (k % 16))
        let t := s.updCtx x (·.raise (orFlags rs))
        .done (t.benchPut x pc (rs.flatMap (fun r => leBytes 8 r.1))))
    else s.doneTile x d (mmaElem c et a b d)

/-- MMX (R349). -/
def execMmx (x et pred vfn b a d : Nat) (s : State) : Out :=
  -- PRED is not used
  let _ := pred
  s.issue x 0x43 (decide (4 < et) || decide (4 < vfn) || decide (3 < d)) fun it im =>
    let c := s.ctx x
    let fa := (mxOf et).1
    let fb := (mxOf vfn).1
    let na := 1 + 4 * fa.width
    let nb := 1 + 4 * fb.width
    let pa := s.sr x a
    let pb := s.sr x b
    s.readBench x it im [(pa, 16 * na, 1), (pb, 16 * nb, 1)] (
      let ra := (List.range 16).map (fun r => mxVals fa (s.benchGet x (pa + r * na) na))
      let rb := (List.range 16).map (fun k => mxVals fb (s.benchGet x (pb + k * nb) nb))
      s.doneTile x d (fun r col =>
        let acc := c.tile d (r * 16 + col)
        fFP32.sig [acc] (dotSum 0 (fFP32.dec acc) ((ra.getD r []).zip (rb.getD col [])))))

/-! ### Moves of tiles (R351) -/

/-- MZERO. -/
def execMzero (x et pred vfn b a d : Nat) (s : State) : Out :=
  -- ET, PRED, VFN, A and B are not used
  let _ := et + pred + vfn + a + b
  s.issue x 0x44 (decide (3 < d)) fun _ _ => s.doneTile x d (fun _ _ => (0, 0))

/-- The address of row r. -/
def State.rowAt (s : State) (x a b r : Nat) : Nat := (s.sr x a + r * s.sr x b) % 2 ^ 64

/-- MLD: rows in the format of ET, or 8 MX blocks. -/
def execMld (x et pred vfn b a d : Nat) (s : State) : Out :=
  -- PRED is not used
  let _ := pred
  let bad := decide (1 < vfn) || decide (3 < d) || (if vfn = 0 then decide (et < 5) else decide (4 < et))
  s.issue x 0x40 bad fun it im =>
    let c := s.ctx x
    if vfn = 0 then
      let f := c.fmt et
      let n := f.width / 8
      s.readBench x it im ((List.range 16).map (fun r => (s.rowAt x a b r, 16 * n, n))) (
        s.doneTile x d (fun r col =>
          let e := leNat (s.benchGet x (s.rowAt x a b r + n * col) n)
          if et = 7 then (e, 0) else f.sig [e] ((fFP32.enc 0 0 (f.dec e)).1, 0)))
    else
      let f := (mxOf et).1
      let n := 1 + 4 * f.width
      let p := s.ab x a b
      s.readBench x it im [(p, 8 * n, 1)] (
        let vs := (List.range 8).flatMap (fun k => mxVals f (s.benchGet x (p + k * n) n))
        s.doneTile x d (fun r col => fFP32.enc 0 0 (vs.getD (r * 16 + col) .nan)))

/-- A tile element in a row format: rounded once. -/
def rowElem (f : Fmt) (v : Nat) : Nat × Nat :=
  if f = fFP32 then (v, 0) else fFP32.sig [v] (f.enc 0 0 (fFP32.dec v))

/-- MST. -/
def execMst (x et pred vfn b a d : Nat) (s : State) : Out :=
  -- PRED and VFN are not used
  let _ := pred + vfn
  s.issue x 0x41 (decide (et < 5) || decide (3 < d)) fun it im =>
    let c := s.ctx x
    let f := c.fmt et
    let n := f.width / 8
    s.withBench x it im ((List.range 16).map (fun r => (s.rowAt x a b r, 16 * n, n))) (
      let rs := (List.range 256).map (fun k => rowElem f (c.tile d k))
      let t := s.updCtx x (·.raise (orFlags rs))
      .done ((List.range 16).foldl (fun t r =>
        t.benchPut x (s.rowAt x a b r) ((slice rs (16 * r) 16).flatMap (fun e => leBytes n e.1))) t))

/-- MTOV: rows 4q to 4q + 3, or 8q to 8q + 7, of a tile. -/
def execMtov (x et pred vfn b a d : Nat) (s : State) : Out :=
  -- PRED and B are not used
  let _ := pred + b
  s.issue x 0x45 (decide (et < 5) || decide (3 < a) || (if et = 7 then decide (3 < vfn) else decide (1 < vfn))) fun _ _ =>
    let c := s.ctx x
    let f := c.fmt et
    let n := 2048 / f.width
    s.doneVec x d f.width ((List.range n).map (fun i => rowElem f (c.tile a (n * vfn + i))))

end Sys2Proof.Machine
end

