-- ==== Sys2Proof/Machine/Copy.lean ====
section
/-!
DEFINITION. Sys2Proof/Machine/Copy.lean: the asynchronous copies of a context (R344, R371), program data
handles (R318, R345) and the sequence instructions (R371 to R373).
-/

namespace Sys2Proof.Machine

/-! ### Outstanding copies -/

/-- The copies that a program has begun and not waited for; of those that are not complete it has at most 8 (R344). -/
def Ctx.progCopies (c : Ctx) : List Copy := c.copies.filter (fun k => decide (k.k ≠ farK))
def Ctx.copiesFull (c : Ctx) : Bool := decide (8 ≤ (c.progCopies.filter (fun k => !k.fin)).length)

/-- Add a copy to a context under its next number. -/
def State.addCopy (s : State) (x : Nat) (k : Copy) : State :=
  s.updCtx x (fun c => { c with copies := c.copies ++ [{ k with k := c.nextK }], nextK := c.nextK + 1 })

/-- Write back copy k of a context. -/
def State.putCopy (s : State) (x : Nat) (k : Copy) : State :=
  s.updCtx x (fun c => { c with copies := updFirst (fun y => decide (y.k = k.k)) (fun _ => k) c.copies })

/-- The SEQ address with which a copy began, as its image names it. -/
def State.copyAddr (s : State) (it : Item) (im : Image) (k : Copy) : Nat :=
  let slot := if s.imgService it.image then k.slot else (im.slots.idxOf? k.slot).getD k.slot
  2 * 2 ^ 60 + slot * 2 ^ 55 + k.layer * 2 ^ 43 + k.token * 2 ^ 22

/-- A WAIT for the copies that satisfy p: none outstanding, the first failure, or a wait (R344, R371). -/
def State.copyWait (s : State) (x : Nat) (it : Item) (im : Image) (p : Copy → Bool) : Issue :=
  let l := (s.ctx x).progCopies.filter p
  if l.any (fun k => !k.fin) then .wait s
  else
    match l.find? (fun k => decide (k.status ≠ stOk)) with
    | some k => if k.kind = 0 then .cause 0x0A 0 else .trap 9 (s.copyAddr it im k) k.status
    | none => .done (s.updCtx x (fun c => { c with copies := c.copies.filter (fun k => k.k = farK || !p k) }))

/-- The place of a checked operand of a local copy. -/
def Place.loc : Place → Loc
  | .bench o => .bench o
  | .hbm o => .hbm o
  | .seq _ _ _ o => .bench o

/-- The pairs of spaces that MCPY accepts, source first (R344). -/
def mcpyPair (src dst : Nat) : Bool :=
  (decide (src = 0) && decide (dst = 0 ∨ dst = 1)) || (decide (src = 1) && decide (dst = 0)) ||
    (decide (src = 2) && decide (dst = 0))

/-- MCPY ISSUE: the checks of the whole range, then a copy that has begun (R344). -/
def State.mcpy (s : State) (x : Nat) (it : Item) (im : Image) (tag src dst n : Nat) : Issue :=
  if !mcpyPair (src / 2 ^ 60) (dst / 2 ^ 60) then
    .cause 2 (if src / 2 ^ 60 ≤ 2 ∧ (src / 2 ^ 60 ≠ 1 ∨ dst / 2 ^ 60 ≠ 1) then dst else src)
  else if 524288 < n then .cause 3 src
  else
    match s.check x it im ⟨true, true, false⟩ src n 1, s.check x it im ⟨true, false, true⟩ dst n 1 with
    | .no c st, .no e st' => if e < c then .trap e dst st' else .trap c src st
    | .no c st, .ok _ => .trap c src st
    | .ok _, .no e st' => .trap e dst st'
    | .ok p, .ok q =>
      if (s.ctx x).copiesFull then .wait s
      else
        let k : Copy :=
          { k := 0, tag := tag, kind := 0, moves := [], slot := 0, layer := 0, token := 0, n := 0
            status := stOk, fin := false }
        match p with
        | .seq slot layer token byte =>
          match s.translate (asker x it) slot layer token byte n false with
          | (.at none a, t) => .done (t.addCopy x { k with moves := movePieces (n / 4096 + 1) (.hbm a) q.loc n })
          | (.at (some e) a, t) =>
            .done (t.addCopy x { k with kind := 2, slot := slot, layer := layer, token := token,
                                        moves := movePieces (n / 4096 + 1) (.fab e a) q.loc n })
          | (.fail st, _) => .fault (s.seqFail st) 9 src st
          | (.wait, t) => .wait t
        | _ => .done (s.addCopy x { k with moves := movePieces (n / 4096 + 1) p.loc q.loc n })

/-- MCPY's FN field: bits [6:5] select the form, bit 4 is reserved. -/
def mcpyForm (fn : Nat) : Nat := bits fn 6 5

/-- MCPY_ISSUE (R344). -/
def execMcpyIssue (x et fn b a d : Nat) (s : State) : Out :=
  -- ET is not used
  let _ := et
  s.issueFn x 0x58 0 (mcpyForm fn) 3 (bit fn 4) fun it im =>
    s.mcpy x it im (fn % 16) (s.sr x a) (s.sr x d) (s.sr x b)

/-- MCPY_WAIT and MCPY_WAITALL (R344). -/
def execMcpyWait (x et fn b a d : Nat) (s : State) : Out :=
  -- ET and the register fields are not used
  let _ := et + a + b + d
  s.issueFn x 0x58 1 (mcpyForm fn) 3 (bit fn 4) fun it im => s.copyWait x it im (fun k => decide (k.tag = fn % 16))
def execMcpyWaitall (x et fn b a d : Nat) (s : State) : Out :=
  -- ET and the register fields are not used
  let _ := et + a + b + d
  s.issueFn x 0x58 2 (mcpyForm fn) 3 (bit fn 4) fun it im => s.copyWait x it im (fun _ => true)

/-- ASYNC_COPY_DONE (R344, R371): an outstanding copy or gather is complete once its bytes have moved. -/
def execAsyncCopyDone (x k : Nat) (s : State) : Out :=
  match s.ctxItem x, (s.ctx x).copies.find? (fun c => decide (c.k = k) && decide (c.kind ≠ 1) && !c.fin && decide (k ≠ farK)) with
  | some it, some c =>
    let (c, t) := s.copyStep x it c
    .next (t.putCopy x { c with fin := t.copyOver c })
  | _, _ => .next s

/-! ### Program data handles (R318, R345) -/

/-- Who holds the buffer that a program data handle names. -/
def State.handleHolder (s : State) (h : Nat) : Option Holder :=
  ((s.pool (bits h 22 20)).held.find? (fun b => decide (b.cls = bits h 19 17) && decide (b.idx = bits h 16 0))).map (·.holder)

/-- The image holds the buffer of a handle: it drew it and has not freed it. -/
def State.handleHeld (s : State) (it : Item) (im : Image) (h : Nat) : Bool :=
  im.handles.contains h && decide (s.handleHolder h = some (.image it.image))

/-- HND_DRAW (R345). -/
def execHndDraw (x et fn b a d : Nat) (s : State) : Out :=
  -- ET and B are not used
  let _ := et + b
  s.issueFn x 0x59 0 fn 4 false fun it im =>
    let n := s.sr x a
    let c := ctxCluster x
    if n = 0 ∨ 65536 < n then .cause 3 n
    else if !s.imgFree c it.image (classFor n) then .cause 8 0
    else
      let (h, t) := s.poolDraw c (classFor n) true (.image it.image)
      let ph := c * 2 ^ 20 + h
      let t := t.setImage it.image (some { im with
        handles := if im.handles.contains ph then im.handles else im.handles ++ [ph]
        bufs := tabSet (fun _ => []) im.bufs ph [] })
      t.doneS x d ph

/-- HND_FREE (R318, R345): a handle that the image does not hold raises HANDLE and counts in BAD_FREE; one
that is FREE already raises DBL_FREE and is recorded (R190, R191). -/
def execHndFree (x et fn b a d : Nat) (s : State) : Out :=
  -- ET, B and D are not used
  let _ := et + b + d
  s.issueFn x 0x59 1 fn 4 false fun it im =>
    let h := s.sr x a
    let c := bits h 22 20
    if s.handleHeld it im h then .done ((s.poolFree c (h % 2 ^ 20) 4 (x / 4)).2.joinsGo c it.image)
    else if im.handles.contains h ∧ s.handleHolder h = none then
      .fault (s.poolFree c (h % 2 ^ 20) 4 (x / 4)).2 7 h stState
    else .fault (s.bump (aBobErr c) 15 1 1) 6 h stAuth

/-- The checks of HGET and HPUT: length, bench range, handle. -/
def State.hndChk (s : State) (x : Nat) (it : Item) (im : Image) (h n at_ : Nat) (go : Issue) : Issue :=
  .unless [cause? (decide (bits h 19 17 ≤ 4) && decide (bufBytes (bits h 19 17) < n)) 3 n,
    (s.check x it im ⟨false, false, true⟩ at_ n 1).cause? at_, cause? (!s.handleHeld it im h) 6 h] go

/-- HND_HGET: bytes of the buffer to the bench (R345). -/
def execHndHget (x et fn b a d : Nat) (s : State) : Out :=
  -- ET is not used
  let _ := et
  s.issueFn x 0x59 2 fn 4 false fun it im =>
    let n := s.sr x b
    s.hndChk x it im (s.sr x a) n (s.sr x d) (
      .done (s.benchPut x (s.sr x d) (tabGetList memZero (tabGet (fun _ => []) im.bufs (s.sr x a)) 0 n)))

/-- HND_HPUT: bytes of the bench to the buffer (R345). -/
def execHndHput (x et fn b a d : Nat) (s : State) : Out :=
  -- ET is not used
  let _ := et
  s.issueFn x 0x59 3 fn 4 false fun it im =>
    let n := s.sr x b
    s.hndChk x it im (s.sr x a) n (s.sr x d) (.unless [s.benchMem x (s.sr x d) n] <|
      .done (s.setImage it.image (some { im with
        bufs := tabUpd (fun _ => []) im.bufs (s.sr x a) (fun t => tabSetList memZero t 0 (s.benchGet x (s.sr x d) n)) })))

/-! ### Sequence instructions (R371 to R373) -/

/-- ACCESS where a SEQ address names a slot that its image may not (R303, R305); none where it names one. -/
def State.slotCause (s : State) (it : Item) (im : Image) (a : Nat) : Option (Nat × Nat × Nat) :=
  match s.seqSlotOf it im a with
  | none => cause? true 5 a
  | some n => cause? (!s.slotMine it n) 5 a

/-- Go on with the slot that a SEQ address names (R303, R305). -/
def State.withSlot (s : State) (it : Item) (im : Image) (a : Nat) (go : Nat → Issue) : Issue :=
  if a / 2 ^ 60 ≠ 2 then .cause 2 a
  else
    match s.seqSlotOf it im a with
    | none => .cause 5 a
    | some n => if s.slotMine it n then go n else .cause 5 a

/-- SAPP at issue (R371): every token is translated as an APPEND. -/
def State.sapp (s : State) (x : Nat) (it : Item) (tag a src cnt slot : Nat) : Issue :=
  let layer := seqLayer a
  let token := seqToken a
  if s.slotState slot ≠ 1 then .fault (s.seqFail stNoSlot) 9 a stNoSlot
  else if s.sl slot 3 31 16 ≤ layer then .fault (s.seqFail stSeqRange) 9 a stSeqRange
  else if s.layerLen slot layer < token then .fault (s.seqFail stSeqGap) 9 a stSeqGap
  else if (s.ctx x).copiesFull then .wait s
  else
    let m := s.bpt slot
    match s.translateAll (asker x it) slot layer 0 m true cnt token with
    | (_, .fail st, t) => .fault t 9 a st
    | (_, .wait, t) => .wait t
    | (l, .at _ _, t) =>
      let near (o : Nat) : Loc := .bench (src + o)
      .done (t.addCopy x
        { k := 0, tag := tag, kind := 1, moves := placeMoves true near m 0 l
          slot := slot, layer := layer, token := token, n := cnt, status := stOk, fin := false })

/-- SAPP (R371). -/
def execSapp (x et fn b a d : Nat) (s : State) : Out :=
  -- ET is not used
  let _ := et
  s.issue x 0x70 (decide (16 ≤ fn)) fun it im =>
    let ad := s.sr x a
    let at_ := s.sr x b
    let n := s.sr x d
    let slot := (s.seqSlotOf it im ad).getD 0
    let total := if s.slotState slot = 1 then n * s.bpt slot else 0
    .unless [cause? (decide (ad / 2 ^ 60 ≠ 2)) 2 ad, cause? (decide (seqByte ad ≠ 0)) 3 ad,
      cause? (decide (524288 < total) || decide (524288 < n)) 3 at_,
      (s.check x it im ⟨false, false, false⟩ at_ total 1).cause? at_, s.slotCause it im ad] (s.sapp x it fn ad at_ n slot)

/-- An earlier append of the context that has not been performed touches tokens that a gather names. -/
def Ctx.appendPending (c : Ctx) (slot layer token n : Nat) : Bool :=
  c.progCopies.any (fun k => decide (k.kind = 1) && !k.fin && decide (k.slot = slot) && decide (k.layer = layer) &&
    overlap token n k.token k.n)

/-- SGATH at issue (R371): every token is translated as a READ. -/
def State.sgath (s : State) (x : Nat) (it : Item) (tag a dst cnt m slot : Nat) : Issue :=
  if (s.ctx x).copiesFull || (s.ctx x).appendPending slot (seqLayer a) (seqToken a) cnt then .wait s
  else
    match s.translateAll (asker x it) slot (seqLayer a) (seqByte a) m false cnt (seqToken a) with
    | (_, .fail st, t) => .fault t 9 a st
    | (_, .wait, t) => .wait t
    | (l, .at _ _, t) =>
      let near (o : Nat) : Loc := .bench (dst + o)
      .done (t.addCopy x
        { k := 0, tag := tag, kind := 2, moves := placeMoves false near m 0 l, slot := slot, layer := seqLayer a
          token := seqToken a, n := cnt, status := stOk, fin := false })

/-- SGATH (R371). -/
def execSgath (x et fn b a d : Nat) (s : State) : Out :=
  -- ET is not used
  let _ := et
  s.issue x 0x72 (decide (16 ≤ fn)) fun it im =>
    let ad := s.sr x a
    let n := s.sr x d % 65536
    let m0 := bits (s.sr x d) 31 16
    let m := if m0 = 0 then 65536 else m0
    let at_ := s.sr x b
    let slot := (s.seqSlotOf it im ad).getD 0
    .unless [cause? (decide (ad / 2 ^ 60 ≠ 2)) 2 ad, cause? (decide (n = 0)) 3 ad,
      cause? (decide (s.slotState slot = 1) && decide (s.bpt slot < seqByte ad + m)) 3 ad,
      (s.check x it im ⟨false, false, true⟩ at_ (n * m) 1).cause? at_, s.slotCause it im ad] (s.sgath x it fn ad at_ n m slot)

/-- SAPP_PERFORMED (R245, R257, R371): the oldest append of the context that is not performed; LEN is
raised when it is. -/
def execSappPerformed (x k : Nat) (s : State) : Out :=
  match s.ctxItem x, (s.ctx x).copies.find? (fun c => decide (c.kind = 1) && !c.fin) with
  | some it, some c =>
    if c.k ≠ k then .next s
    else
      let (c, t) := s.copyStep x it c
      let whole := t.copyOver c
      let t := if whole ∧ c.status = stOk then t.raiseLen c.slot c.layer (c.token + c.n) else t
      .next (t.putCopy x { c with fin := whole })
  | _, _ => .next s

/-- SMAP's FN: bits [1:0] the function, bits [6:2] reserved; 3 is reserved. -/
def smapBad (fn : Nat) : Bool := decide (4 ≤ fn)

/-- SMAP_ADDR (R372). -/
def execSmapAddr (x et fn b a d : Nat) (s : State) : Out :=
  -- ET and B are not used
  let _ := et + b
  s.issueFn x 0x71 0 (fn % 4) 3 (smapBad fn) fun it im =>
    let ad := s.sr x a
    if ad / 2 ^ 60 ≠ 2 then .cause 2 ad
    else if !s.imgService it.image then .cause 5 ad
    else
      s.withSlot it im ad fun slot =>
        match s.translate (asker x it) slot (seqLayer ad) (seqToken ad) (seqByte ad) 1 false with
        | (.at none p, t) => t.doneS x d (hbmTag + p)
        | (.at (some e) p, t) => t.doneS x d (3 * 2 ^ 60 + e * 2 ^ 44 + p)
        | (.fail st, _) => .fault (s.seqFail st) 9 ad st
        | (.wait, t) => .wait t

/-- SMAP_PTE (R372). -/
def execSmapPte (x et fn b a d : Nat) (s : State) : Out :=
  -- ET and B are not used
  let _ := et + b
  s.issueFn x 0x71 1 (fn % 4) 3 (smapBad fn) fun it im =>
    let ad := s.sr x a
    if ad / 2 ^ 60 ≠ 2 then .cause 2 ad
    else if !s.imgService it.image then .cause 5 ad
    else
      s.withSlot it im ad fun slot =>
        let lpn := seqLayer ad * s.ppl slot + seqToken ad / max 1 (s.tpp slot)
        -- a layer or a token beyond the slot's names no page (R281)
        let names := decide (s.slotState slot = 1) && decide (seqLayer ad < s.sl slot 3 31 16) &&
          decide (seqToken ad < s.sl slot 4 21 0)
        s.doneS x d (if names then s.pte slot lpn else 0)

/-- SMAP_LEN (R372). -/
def execSmapLen (x et fn b a d : Nat) (s : State) : Out :=
  -- ET and B are not used
  let _ := et + b
  s.issueFn x 0x71 2 (fn % 4) 3 (smapBad fn) fun it im =>
    let ad := s.sr x a
    s.withSlot it im ad fun slot =>
      if s.slotState slot ≠ 1 then .fault (s.seqFail stNoSlot) 9 ad stNoSlot
      else s.doneS x d (s.layerLen slot (seqLayer ad))

/-- SREL (R373). -/
def execSrel (x et fn b a d : Nat) (s : State) : Out :=
  -- ET and B are not used
  let _ := et + b
  s.issue x 0x73 (decide (fn ≠ 0)) fun it im =>
    s.withSlot it im (s.sr x a) fun slot =>
      let (st, t) := s.slotRelease slot
      (if st = stOk then t.mirrorSlot slot else t).doneS x d (statusWord st 0)

end Sys2Proof.Machine
end

