-- ==== Sys2Proof/Machine/Fabric.lean ====
section
/-!
DEFINITION. Sys2Proof/Machine/Fabric.lean: the fabric and collective instructions of Dapor (R353 to R370).
-/

namespace Sys2Proof.Machine

/-! ### Windows: FOPEN, FCLOSE, FWAIT (R356 to R359) -/

/-- FOPEN (R357): WOPEN is sent and the context waits for its WGRANT; it stalls while injection is stopped
(R378) and while other items hold every context of the image (R356). -/
def State.fopen (s : State) (x : Nat) (it : Item) (d va vb : Nat) : Issue :=
  let pkts := bits vb 22 0
  if bits va 63 16 ≠ 0 then .cause 3 va
  else if pkts = 0 ∨ 4194304 < pkts ∨ bits vb 63 56 ≠ 0 then .cause 3 vb
  else if s.isSelf va then s.doneS x d (statusWord stUnsup 0)
  else if (s.winTo it.id va).isSome then s.doneS x d (statusWord stState 0)
  else if !s.mayInject (ctxCluster x) false then .wait s
  else
    match s.freeCtx it.image with
    | none => .wait s
    | some w =>
      let t := s.wopen (ctxCluster x) w va (some it.id) pkts (bits vb 38 23) (bits vb 54 39) (bit vb 55)
      .wait (t.updCtx x (fun c => { c with wait := .grant w d }))

/-- FOPEN. -/
def execFopen (x et fn b a d : Nat) (s : State) : Out :=
  -- ET is not used
  let _ := et
  s.issue x 0x64 (decide (fn ≠ 0)) fun it _ => s.fopen x it d (s.sr x a) (s.sr x b)

/-- The name of a work item's local calls in FWAIT (R359). -/
def localName : Nat := 2 ^ 64 - 1

/-- The open window that an item names by its number. -/
def State.itemWin (s : State) (it : Item) (w : Nat) : Bool :=
  decide (w < 8192) && decide ((s.src w).item = some it.id) && decide ((s.src w).state = .opened) && !(s.src w).own

/-- The status word of FWAIT: the first failure not yet reported, how many, and what is outstanding. -/
def waitWord (fails : List Nat) (out : Nat) : Nat :=
  statusWord (fails.headD stOk) (min 0xFFFF fails.length * 2 ^ 32 + out % 2 ^ 32)

/-- The failures and outstanding operations of a window, or of the local calls. -/
def State.winFails (s : State) (x w : Nat) : List Nat := if w = localName then (s.ctx x).callFails else (s.src w).fails
def State.winOut (s : State) (x w : Nat) : Nat := if w = localName then (s.ctx x).calls else (s.src w).ops.length

/-- The reported failures are cleared. -/
def State.winReported (s : State) (x : Nat) (it : Item) (w : Nat) : State :=
  let key := if w = localName then localWin else w
  let s := s.updItem it.id (fun y => { y with failed := y.failed.filter (fun k => k ≠ key) })
  if w = localName then s.updCtx x (fun c => { c with callFails := [] })
  else s.updSrc w (fun y => { y with fails := [] })

/-- FWAIT until at most n operations are outstanding (R359). -/
def State.fwait (s : State) (x : Nat) (it : Item) (d w n : Nat) : Issue :=
  if w ≠ localName ∧ !s.itemWin it w then .trap 0x0B 0 stState
  else if n < s.winOut x w then .wait s
  else (s.winReported x it w).doneS x d (waitWord (s.winFails x w) (s.winOut x w))

/-- FWAIT_ALL, FWAIT_UPTO, FWAIT_POLL (R359). -/
def execFwaitAll (x et fn b a d : Nat) (s : State) : Out :=
  -- ET and B are not used
  let _ := et + b
  s.issueFn x 0x66 0 fn 3 false fun it _ => s.fwait x it d (s.sr x a) 0
def execFwaitUpto (x et fn b a d : Nat) (s : State) : Out :=
  -- ET is not used
  let _ := et
  s.issueFn x 0x66 1 fn 3 false fun it _ => s.fwait x it d (s.sr x a) (s.sr x b)
def execFwaitPoll (x et fn b a d : Nat) (s : State) : Out :=
  -- ET and B are not used
  let _ := et + b
  s.issueFn x 0x66 2 fn 3 false fun it _ => s.fwait x it d (s.sr x a) (s.winOut x (s.sr x a))

/-- FCLOSE (R359). -/
def execFclose (x et fn b a d : Nat) (s : State) : Out :=
  -- ET and B are not used
  let _ := et + b
  s.issue x 0x65 (decide (fn ≠ 0)) fun it _ =>
    let w := s.sr x a
    if !s.itemWin it w then .trap 0x0B 0 stState
    else if s.winOut x w ≠ 0 then .wait s
    else ((s.winReported x it w).wclose (ctxCluster x) w).doneS x d (waitWord (s.winFails x w) 0)

/-! ### Remote operations (R360 to R364) -/

/-- A packet to issue: type, FENCE, kind of the operation, SIZE, operation fields, payload. -/
structure Req where
  typ   : Nat
  fence : Bool
  kind  : OpKind
  size  : Nat
  op    : List Byte
  data  : List Byte

/-- The destination and address of a FAB address (R306). -/
def fabEid (a : Nat) : Nat := bits a 59 44
def fabAddr (a : Nat) : Nat := hbmTag + bits a 38 0

/-- Check 5 of R361 and the sending: while the window, injection or a buffer holds the packet back, the
issue stalls. -/
def State.issueReq (s : State) (x w : Nat) (q : Req) (stall : Wait) : Issue :=
  let picks := ceilDiv q.data.length 64
  let c := ctxCluster x
  let hold (t : State) : Issue := .wait (t.updCtx x (fun c => { c with wait := stall }))
  if (s.src w).allows (1 + picks) (rspOf q.typ q.size) && s.mayInject c false then
    let (ok, t) := s.injBuffer c x picks
    if ok then
      let t := t.sendReq c x w q.typ q.fence q.kind q.size q.op q.data
      .done (t.evShu x 0x09 1 (fun v => v % 2 = 0 || q.fence))
    else hold t
  else hold s

/-- Checks 1 to 4 of R361 in order, with the bench range a form names, how much of it is read, and an alignment
check. -/
def State.remote (s : State) (x : Nat) (it : Item) (im : Image) (fa bench n reads al : Nat) (lenOk aligned : Bool)
    (stall : Wait) (q : Req) : Issue :=
  .unless [cause? (decide (fa / 2 ^ 60 ≠ 3)) 2 fa, cause? (decide (bits fa 43 39 ≠ 0) || !lenOk) 3 fa,
      (s.check x it im ⟨false, false, true⟩ bench n 1).cause? bench] (
    .unless [cause? (s.isSelf (fabEid fa)) 2 fa, cause? (!aligned) 4 fa, cause? (decide (bench % al ≠ 0)) 4 bench,
        s.benchMem x bench reads] (
      match s.winTo it.id (fabEid fa) with
      | none => .trap 0x0B 0 stState
      | some w =>
        let y := s.src w
        if y.state ≠ .opened then .trap 0x0B 0 stState
        else if y.failed ≠ 0 then .trap 0x0B 0 y.failed
        else s.issueReq x w q stall))

/-- FPUT (R360). -/
def execFput (x et fn b a d : Nat) (s : State) : Out :=
  s.issue x 0x60 (decide (1 < fn)) fun it im =>
    let fa := s.sr x a
    let n := s.sr x d
    let src := s.sr x b
    s.remote x it im fa src n n 1 (decide (1 ≤ n ∧ n ≤ 4096)) true (.stall 0x60 et fn b a d)
      { typ := 1, fence := decide (fn = 1), kind := .put, size := n, op := opM (fabAddr fa) n 0 0 0 0
        data := padTo (64 * ceilDiv n 64) (s.benchGet x src (if n ≤ 4096 then n else 0)) }

/-- FGET (R360). -/
def execFget (x et fn b a d : Nat) (s : State) : Out :=
  s.issue x 0x61 (decide (1 < fn)) fun it im =>
    let fa := s.sr x a
    let n := s.sr x d
    s.remote x it im fa (s.sr x b) n 0 1 (decide (1 ≤ n ∧ n ≤ 4096)) true (.stall 0x61 et fn b a d)
      { typ := 2, fence := decide (fn = 1), kind := .get (s.sr x b), size := n, op := opM (fabAddr fa) n 0 0 0 0
        data := [] }

/-- FATM (R360): FN[0] FENCE, FN[4:1] AOP. -/
def execFatm (x et fn b a d : Nat) (s : State) : Out :=
  let aopc := bits fn 4 1
  s.issue x 0x62 (decide (et ≠ 2 ∧ et ≠ 3) || decide (32 ≤ fn) || decide (9 < aopc)) fun it im =>
    let fa := s.sr x a
    let blk := s.sr x b
    let n := etBits et / 8
    s.remote x it im fa blk 16 (if aopc = 5 then 16 else 8) 8 true (decide (fa % n = 0)) (.stall 0x62 et fn b a d)
      { typ := 3, fence := bit fn 0, kind := .atomic blk, size := n
        -- bytes 47:40 are reserved unless the AOP is CAS (R97)
        op := opM (fabAddr fa) n aopc 0 (leNat (s.benchGet x blk 8))
          (if aopc = 5 then leNat (s.benchGet x (blk + 8) 8) else 0), data := [] }

/-- A local call (R283, R364): at most 8 outstanding; its payload in a buffer of the image's reservation. -/
def State.localCall (s : State) (x : Nat) (it : Item) (blk n : Nat) : Issue :=
  let c := ctxCluster x
  let cls := classFor n
  if 0 < n ∧ (s.pool c).rsvBy (.image it.image) cls = 0 then .cause 8 0
  else if 8 ≤ (s.ctx x).calls ∨ (0 < n ∧ !s.imgFree c it.image cls) then .wait s
  else
    let form := s.benchGet x blk 40
    let payload := s.benchGet x (blk + 64) n
    let (buf, t) : Option Nat × State := if n = 0 then (none, s)
      else let (h, t) := s.poolDraw c cls true (.image it.image); (some h, t)
    let t := t.updCtx x (fun c => { c with calls := c.calls + 1 })
    let (st, t) := t.takeCall
      { form := form, payload := payload, src := s.selfEid, home := c, caller := .prog x it.id blk buf } false
    .done (if st = stOk then t else (t.callBuf x it.image buf).localDone x it.id blk (doneForm form st 0 0 0) [] st)

/-- FCALL (R360, R363, R364). -/
def execFcall (x et fn b a d : Nat) (s : State) : Out :=
  s.issue x 0x63 (decide (1 < fn)) fun it im =>
    let fa := s.sr x a
    let blk := s.sr x b
    let n := s.sr x d
    let form := s.benchGet x blk 40
    let ok := decide (bits fa 38 0 = 0) && decide (n ≤ 4096) && decide (field form 14 2 = 0)
    if fa / 2 ^ 60 = 3 ∧ s.isSelf (fabEid fa) then
      .unless [cause? (decide (bits fa 43 39 ≠ 0) || !ok) 3 fa, (s.check x it im ⟨false, false, true⟩ blk 4160 1).cause? blk,
          s.benchMem x blk (64 + n)]
        (s.localCall x it blk n)
    else
      s.remote x it im fa blk 4160 (64 + n) 1 ok true (.stall 0x63 et fn b a d)
        { typ := 4, fence := decide (fn = 1), kind := .call blk, size := 0, op := form
          data := padTo (64 * ceilDiv n 64) (s.benchGet x (blk + 64) (if n ≤ 4096 then n else 0)) }

/-- ISSUE_STALL_RELEASE (R361): a stalled issue is tried again. -/
def execIssueStallRelease (x : Nat) (s : State) : Out :=
  match (s.ctx x).wait with
  | .stall op et fn b a d =>
    let t := s.updCtx x (fun c => { c with wait := .no })
    -- while its shuttle executes another context it is ready, and its row issues it again (R272)
    if !t.turn x then .next (t.ready x)
    else if op = 0x60 then execFput x et fn b a d t
    else if op = 0x61 then execFget x et fn b a d t
    else if op = 0x62 then execFatm x et fn b a d t
    else execFcall x et fn b a d t
  | _ => .next s

/-! ### Collectives (R365 to R370) -/

/-- A join record for a group word sA and a descriptor. -/
def joinOf (va : Nat) (desc : List Byte) : Join :=
  { group := bits va 26 16, member := bits va 39 27, epoch := bits va 47 40, eid := bits va 63 48, desc := desc
    sent := 0, got := [], done := 0, status := none }

/-- The lowest free join record of a context. -/
def State.freeJoin (s : State) (x : Nat) : Option Nat := (List.range 4).find? (fun j => (s.join x j).isNone)

/-- A format code that R199 gives. -/
def fmtOk (f : Nat) : Bool := isSmerge f || decide (elemBits f ≠ 0)

/-- The ranges of R366. -/
def Join.rangeOk (j : Join) (bench : Nat) : Bool :=
  let ib := j.bytes j.fmt j.e
  let rb := j.bytes j.outFmt j.e
  decide (1 ≤ j.win ∧ j.win ≤ 128) && fmtOk j.fmt && fmtOk j.outFmt &&
  (j.count = 0 || decide (j.dataOfs + j.count * ib ≤ bench)) &&
  (decide (j.recvOfs = 0xFFFFFFFF) || decide (j.recvOfs + j.c * rb ≤ bench))

/-- Bytes of the largest contribution packet of a join (R367): only the last chunk of an instance is shorter than the
first that the member contributes. -/
def Join.pktBytes (j : Join) : Nat :=
  let u := (unitOf j.fmt j.d).2
  min (j.bytes j.fmt (j.elems j.first)) (4096 / max 1 u * u)

/-- Where a join descriptor may lie: the bench, or the image's own data (R365). -/
def State.descAt (s : State) (x : Nat) (it : Item) (im : Image) (a : Nat) : Chk :=
  match s.check x it im ⟨true, false, false⟩ a 48 1 with
  | .ok (.hbm p) => if im.dataBase ≤ p ∧ p + 48 ≤ im.dataBase + im.dataKib * 1024 then .ok (.hbm p) else .cause 5
  | r => r

/-- CJOIN (R365 to R367). -/
def execCjoin (x et fn b a d : Nat) (s : State) : Out :=
  -- ET is not used
  let _ := et
  s.issue x 0x67 (decide (fn ≠ 0)) fun it im =>
    let va := s.sr x a
    let vb := s.sr x b
    match s.descAt x it im vb with
    | .no 2 st => .trap 2 vb st
    | .no c st => if va % 65536 ≠ 0 then .cause 3 va else .trap c vb st
    | .ok p =>
      let (desc, t) := s.locGet x p.loc 48
      let j := joinOf va desc
      if va % 65536 ≠ 0 then .cause 3 va
      else if s.locBad x p.loc 48 then .fault (s.locErr p.loc) 10 0 (causeStatus 10)
      else if !j.rangeOk (s.benchSize x) then .cause 3 vb
      else if 0 < j.count ∧ j.elems j.first ≠ 0 ∧ (s.pool (ctxCluster x)).rsvBy (.image it.image) (classFor j.pktBytes) = 0 then .cause 8 0
      else if badIn (s.ctx x).benchBad j.dataOfs (j.count * j.bytes j.fmt j.e) then .cause 10 0
      else
        match s.freeJoin x with
        | none => .trap 0x0B 0 stBusy
        | some n => .done (((t.setJoin x n (some j)).setS x d (statusWord stOk n)).joinSend x n)

/-- Go on with a join record that the context holds (R369). -/
def State.withJoin (s : State) (x n : Nat) (go : Join → Issue) : Issue :=
  match (if n < 4 then s.join x n else none) with
  | some j => if j.isGate then .trap 0x0B 0 stState else go j
  | none => .trap 0x0B 0 stState

/-- The status word of CWAIT. -/
def Join.word (j : Join) : Nat := statusWord (j.status.getD stOk) j.done

/-- CWAIT_WAIT and CWAIT_POLL (R369). -/
def execCwaitWait (x et fn b a d : Nat) (s : State) : Out :=
  -- ET and B are not used
  let _ := et + b
  s.issueFn x 0x68 0 fn 2 false fun _ _ =>
    s.withJoin x (s.sr x a) fun j =>
      if j.done = j.c ∨ j.status.isSome then s.doneS x d j.word else .wait s
def execCwaitPoll (x et fn b a d : Nat) (s : State) : Out :=
  -- ET and B are not used
  let _ := et + b
  s.issueFn x 0x68 1 fn 2 false fun _ _ => s.withJoin x (s.sr x a) fun j => s.doneS x d j.word

/-- CREL (R369). -/
def execCrel (x et fn b a d : Nat) (s : State) : Out :=
  -- ET, B and D are not used
  let _ := et + b + d
  s.issue x 0x69 (decide (fn ≠ 0)) fun _ _ =>
    s.withJoin x (s.sr x a) fun _ => .done (s.setJoin x (s.sr x a) none)

/-- TGATE (R370): one CONTRIB of LEN 0, and the context waits for its grant. -/
def execTgate (x et fn b a d : Nat) (s : State) : Out :=
  -- ET is not used
  let _ := et
  s.issue x 0x6A (decide (fn ≠ 0)) fun _ _ =>
    let va := s.sr x a
    if va % 65536 ≠ 0 then .cause 3 va
    else
      match s.freeJoin x with
      | none => .trap 0x0B 0 stBusy
      | some n =>
        let j := joinOf va []
        let t := s.setJoin x n (some j)
        let t := t.emit (ctxCluster x) (mkPkt j.eid s.selfEid 0x10 false false false 0 0
          (opC j.group j.member 0 0 (s.sr x b % 256) j.epoch 0 0) [])
        .wait (t.updCtx x (fun c => { c with wait := .gate n d }))

end Sys2Proof.Machine
end

