-- ==== Sys2Proof/Machine/System.lean ====
section
/-!
DEFINITION. Sys2Proof/Machine/System.lean: control words (R300 to R302, R374), counter reads (R375) and the
SYS functions (R376, R377) of Dapor.
-/

namespace Sys2Proof.Machine

/-! ### Control words (R300, R301) -/

/-- Whether an index is a control word that R301 lists. -/
def ctlListed (i : Nat) : Bool :=
  decide (i ≤ 2) || decide (0x10 ≤ i ∧ i ≤ 0x1A) || decide (0x100 ≤ i ∧ i ≤ 0x11F) || decide (0x200 ≤ i ∧ i ≤ 0x21F) ||
    decide (0x300 ≤ i ∧ i ≤ 0x3FF)

/-- ITEM_ID, IMAGE and WHERE (R301). -/
def Item.idWord (it : Item) : Nat := it.desc + it.cluster * 2 ^ 16
def State.imageWord (s : State) (it : Item) : Nat := it.image + 256 * b2n (s.imgService it.image)
def whereWord (x : Nat) : Nat := x % 4 + ctxShuttle x * 4 + ctxCluster x * 256

/-- Microseconds of RUN_LIMIT_US left (R289, R301). -/
def State.runLeft (s : State) (it : Item) : Nat := s.rf (aImage it.image 3) 15 0 - (s.aon - it.start) / 96

/-- The value of a control word. -/
def State.ctlWord (s : State) (x : Nat) (it : Item) (im : Image) (i : Nat) : Nat :=
  let c := s.ctx x
  if i = 0 then c.fp8
  else if i = 1 then c.rmode
  else if i = 2 then c.flags
  else if i = 0x10 then it.idWord
  else if i = 0x11 then s.imageWord it
  else if i = 0x12 then whereWord x
  else if i = 0x13 then s.benchSize x
  else if i = 0x14 then s.runLeft it
  else if i = 0x15 then s.selfEid
  else if i = 0x16 then (if s.imgService it.image then 0xFFFF else s.rf (aImage it.image 3) 31 16)
  else if i = 0x17 then hbmTag + im.codeBase
  else if i = 0x18 then hbmTag + im.dataBase
  else if i = 0x19 then s.aon % 2 ^ 64
  else if 0x100 ≤ i ∧ i < 0x120 then im.slots.getD (i - 0x100) 0xFF
  else if 0x200 ≤ i ∧ i < 0x220 then im.queues.getD (i - 0x200) 0xFF
  else if 0x300 ≤ i ∧ i < 0x400 then im.groups.getD (i - 0x300) 0xFFFF
  else 0

/-- Check a CTL address: its index (R303, R374). -/
def ctlIndex (a : Nat) (go : Nat → Issue) : Issue :=
  if a / 2 ^ 60 ≠ 4 then .cause 2 a
  else if bits a 59 12 ≠ 0 then .cause 3 a
  else go (bits a 11 0)

/-- CTLR (R300, R301, R374): TRACE is no word of a JOB program, and as a WO word reads as 0 in SERVICE (R12). -/
def execCtlr (x : Nat) (imm : Int) (a d : Nat) (s : State) : Out :=
  s.issue x 0x7B false fun it im =>
    let ad := (s.sr x a + immNat imm) % 2 ^ 64
    ctlIndex ad fun i =>
      if i = 0x1A ∧ !s.imgService it.image then .cause 5 ad
      else s.doneS x d (s.ctlWord x it im i)

/-- A program trace record (R301, R442, R443): at most one per microsecond and shuttle, none under SEALED. -/
def State.traceRecord (s : State) (x : Nat) (it : Item) (v : Nat) : State :=
  if s.sealed then s
  else
    let last := tabGet (fun _ => 0) s.fw.traceLast (x / 4)
    if last ≠ 0 ∧ s.aon < last - 1 + 96 then s.bump aLogLost 15 1 1
    else
      let s := { s with fw := { s.fw with traceLast := tabSet (fun _ => 0) s.fw.traceLast (x / 4) (s.aon + 1) } }
      s.log 0x40 2 0 (leBytes 8 it.idWord ++ leBytes 8 (whereWord x) ++ leBytes 8 (s.imageWord it) ++ leBytes 8 v ++
        leBytes 16 0)

/-- CTLW (R300, R302, R374). -/
def execCtlw (x : Nat) (imm : Int) (a d : Nat) (s : State) : Out :=
  s.issue x 0x7C false fun it _ =>
    let ad := (s.sr x a + immNat imm) % 2 ^ 64
    let v := s.sr x d
    -- the lowest cause is raised: a reserved index before a bit that must be zero (R315)
    if ad / 2 ^ 60 = 4 ∧ !ctlListed (bits ad 11 0) then .cause 1 0
    else ctlIndex ad fun i =>
      if i = 0 then .done (s.updCtx x (fun c => { c with fp8 := v % 4 }))
      else if i = 1 then .done (s.updCtx x (fun c => { c with rmode := v % 4 }))
      else if i = 2 then .done (s.updCtx x (fun c => { c with flags := v % 32 }))
      else if i = 0x1A ∧ s.imgService it.image then .done (s.traceRecord x it v)
      else .cause 5 ad

/-! ### Counters (R375) -/

/-- The counter a selector names. -/
def ctrBase (x sel : Nat) : Option Nat :=
  let i := sel % 16
  let scope := bits sel 9 8
  if bits sel 63 10 ≠ 0 ∨ bits sel 7 4 ≠ 0 then none
  else if scope = 0 then (if i < 4 then some (aShuCnt (ctxCluster x) (ctxShuttle x) i) else none)
  else if scope = 1 then some (aSwx (ctxCluster x) i)
  else if scope = 2 then some (aCntDev i)
  else none

/-- CNTR (R375, R532). -/
def execCntr (x : Nat) (imm : Int) (a d : Nat) (s : State) : Out :=
  s.issue x 0x7D false fun it _ =>
    let sel := (s.sr x a + immNat imm) % 2 ^ 64
    match ctrBase x sel with
    | none => .cause 3 sel
    | some base =>
      if !s.imgService it.image ∧ s.rf base 27 27 = 0 then .cause 5 sel
      else s.doneS x d (s.ctr base + s.rf (base + 8) 16 16 * 2 ^ 48)

/-! ### SYS (R376, R377) -/

/-- YIELD: the context goes behind the shuttle's other ready contexts. -/
def execYield (x et fn b a d : Nat) (s : State) : Out :=
  -- ET and the register fields are not used
  let _ := et + b + a + d
  s.issueFn x 0x7E 0 fn 4 false fun _ _ => .yields s

/-- TRAP: the item ends with cause USER. -/
def execTrap (x et fn b a d : Nat) (s : State) : Out :=
  -- ET and D are not used
  let _ := et + d
  s.issueFn x 0x7E 1 fn 4 false fun _ _ =>
    let st := s.sr x b % 65536
    .trap 0x0C (s.sr x a) (if st = 0 then stState else st)

/-- A copy into HBM that is not complete (R344). -/
def Copy.intoHbm (k : Copy) : Bool :=
  decide (k.kind = 0) && !k.fin && k.moves.any (fun m => match m.dst with | .bench _ => false | _ => true)

/-- MSYNC: stores are performed at once in this model; copies into HBM are waited for (R307, R344). -/
def execMsync (x et fn b a d : Nat) (s : State) : Out :=
  -- ET and the register fields are not used
  let _ := et + b + a + d
  s.issueFn x 0x7E 3 fn 4 false fun _ _ =>
    if (s.ctx x).copies.any Copy.intoHbm then .wait s
    -- a copy that met an uncorrectable error traps here, or at the WAIT that covers it
    else if (s.ctx x).progCopies.any (fun k => decide (k.kind = 0) && k.fin && decide (k.status ≠ stOk)) then .cause 0x0A 0
    else .done s

/-- Nothing of the item is outstanding (R377, step 2). -/
def State.itemQuiet (s : State) (x : Nat) (it : Item) : Bool :=
  (s.ctx x).copies.all (fun k => k.fin || decide (k.k = farK)) && decide ((s.ctx x).calls = 0) &&
  s.flows.srcs.all (fun e => decide (e.2.item ≠ some it.id) || decide (e.2.ops = []))

/-- The first failure that FWAIT and FCLOSE have not reported. -/
def State.firstFail (s : State) (x : Nat) (it : Item) : Option Nat :=
  it.failed.findSome? (fun w => if w = localWin then (s.ctx x).callFails.head? else (s.src w).fails.head?)

/-- HALT (R377). -/
def execHalt (x et fn b a d : Nat) (s : State) : Out :=
  -- ET, B and D are not used
  let _ := et + b + d
  s.issueFn x 0x7E 2 fn 4 false fun it _ =>
    let n := s.sr x a
    if 4096 < n ∨ s.benchSize x < n then .cause 3 n
    else if !s.itemQuiet x it then .still s
    else
      let t := s.evIssue x 0x7E
      if (s.ctx x).copies.any (fun k => k.fin && decide (k.status ≠ stOk)) || badIn (s.ctx x).benchBad 0 n then .cause 0x0A 0
      else
        match s.firstFail x it with
        | some st => .ended ((t.closeWindows it.id).endItem it st (0x0B + 0x7E * 2 ^ 8 + (s.ctx x).pc * 2 ^ 32) 0 0 [])
        | none => .ended ((t.closeWindows it.id).endItem it stOk (s.sr x 1) (s.sr x 2) (s.sr x 3) (s.benchGet x 0 n))

end Sys2Proof.Machine
end

