-- ==== Sys2Proof/Machine/Treadle.lean ====
section
/-!
DEFINITION. Sys2Proof/Machine/Treadle.lean: the power envelope and its step, the safety inputs, the cap
tools, the power reports, the isolated power link and the depth timers (chapters 02 and 14).  Powers are
in hundredths of a watt, so that a slew of 1 W/ms is 1 for each step of 10 µs.
-/

namespace Sys2Proof.Machine

/-- Paths that reach the shared TRD, THM and CRT registers: those of R575 and those of BAR0. -/
def State.pathAny (s : State) (p : Path) : Bool :=
  s.pwr.vinAon && match p with
  | .i3c => s.pwr.vinIo
  | .bar0 => s.pwr.leadSel
  | .cuing => true
  | .jtag => s.pathOk .jtag

/-- The number of whole items of a size that a reply has room for (R484). -/
def Prog.items (p : Prog) (size n : Nat) : Nat := min n (max 96 p.room / size)

/-! ### The inputs and the caps they form (R382, R385) -/

/-- The treadle core is restarting (R437). -/
def State.trdDown (s : State) : Bool := s.fw.delegates.contains 1

def State.upSlew (s : State) : Nat := s.rf aFloor 15 8
def State.dnSlew (s : State) : Nat := s.rf aFloor 7 0
def State.floorSet (s : State) : Nat := 100 * s.rf aFloor 25 16

/-- COOL_HIGH is set (R420). -/
def State.coolHigh (s : State) : Bool := decide (s.rf aLeak 29 29 = 1)
/-- The thermal causes but the leak: LIMIT, CRIT, COOL_HIGH at the flow-alert cap, an unusable plinth zone (R423). -/
def State.heatIn (s : State) : Nat :=
  min (100 * min s.thm.limitCap (if s.thm.critOn then 200 else 1200))
    (min (if s.coolHigh then 1200 * s.rf aFallbk 7 0 else 120000) (100 * s.thm.plinthCap))
/-- THERM_IN: the lowest of the thermal causes (R423). -/
def State.thermIn (s : State) : Nat := min s.heatIn (100 * s.trd.leakCap)
/-- SUPPLY_IN and FLOW_IN: a percentage of 1,200 W while the alert is in force. -/
def State.supplyIn (s : State) : Nat := if s.trd.supplyOn then 1200 * s.rf aFallbk 15 8 else 120000
def State.flowIn (s : State) : Nat := if s.trd.flowOn then 1200 * s.rf aFallbk 7 0 else 120000

/-- What every input but the host's allows, RACK_HOLD's bound among them (R398). -/
def State.capOthers (s : State) : Nat :=
  min (min s.trd.rackIn s.thermIn) (min (min s.supplyIn s.flowIn) (s.trd.holdCap.getD 120000))
/-- CAP_EFF and FLOOR_EFF (R385). -/
def State.capEff (s : State) : Nat := min s.trd.hostIn s.capOthers
def State.floorEff (s : State) : Nat := min s.floorSet s.capEff

/-- BINDING (R411): the lowest-numbered input that equals CAP_EFF; 0 while only RACK_HOLD's bound does. -/
def State.binding (s : State) : Nat :=
  let c := s.capEff
  if s.trd.rackIn = c then 0
  else if s.trd.hostIn = c then 1
  else if s.thermIn = c then 2
  else if s.supplyIn = c then 3
  else if s.flowIn = c then 4
  else 0

/-- One of SUPPLY, FLOW, THERMAL and LEAK is set (R399, R401). -/
def State.emergency (s : State) : Bool :=
  s.trd.supplyOn || s.trd.flowOn || decide (s.thermIn < 120000) || s.trd.leakOn

/-- CAP_STABLE (R399). -/
def State.capStable (s : State) : Bool :=
  decide (s.trd.mode = 0) && !s.emergency && !s.trd.descent && decide (10000 ≤ s.trd.steadyFor)

/-- ALERT_N is driven low: a bit of TRD_ALERT is set, or another cause holds it, and VIN_IO lets the contact be driven
(R397, R32, R48, R420, R421, R583). -/
def State.alertN (s : State) : Bool :=
  s.pwr.vinAon && s.pwr.vinIo &&
    (decide (s.rf aAlert 4 0 ≠ 0) || s.pwr.alertMain || s.pwr.alertClk || s.pwr.alertLoop || s.coolHigh)

/-- SLEEP is in force: it was asked for and taken; a STANDBY refuses it (R393). -/
def State.sleepOn (s : State) : Bool := decide (s.rf aHostReq 31 31 = 1) && decide (s.role ≠ 2)

/-- TRD_STATE (R411). -/
def State.trdWord (s : State) : Nat :=
  s.trd.mode * 2 ^ 29 + b2n s.trd.supplyOn * 2 ^ 28 + b2n s.trd.flowOn * 2 ^ 27 +
    b2n (decide (s.thermIn < 120000)) * 2 ^ 26 + b2n s.trd.leakOn * 2 ^ 25 + b2n s.trd.descent * 2 ^ 24 +
    s.binding * 2 ^ 21 + s.devState * 2 ^ 19 + b2n s.sleepOn * 2 ^ 18 + b2n s.capStable * 2 ^ 17 +
    b2n s.trd.short * 2 ^ 16

/-- The outcome of SLEEP, and of HOST_CAP_W (R393). -/
def State.sleepStatus (s : State) : Nat :=
  if s.rf aHostReq 31 31 = 0 then stOk
  else if s.role = 2 then stState
  else if 9500 < s.trd.floorNow then stFloorHeld
  else stOk
def State.capStatus (s : State) : Nat :=
  let w := 100 * s.rf aHostReq 10 0
  if w = 0 then stOk
  else if w < s.trd.floorNow then stFloorHeld
  else if s.trd.rackIn < w then stCapped
  else stOk
/-- TRD_HOST_STATUS (R409). -/
def State.hostEval (s : State) : State :=
  s.setReg aHostSt (BitVec.ofNat 32 (if s.sleepStatus ≠ stOk then s.sleepStatus else s.capStatus))

/-- The POWER event (R494). -/
def State.powerEvent (s : State) : State :=
  s.event 0x0680 0 (leBytes 4 (s.rf aTrdState 31 0) ++ leBytes 4 (s.rf aAlert 31 0) ++
    leBytes 2 (s.rf aHostSt 15 0) ++ leBytes 1 (s.rf aIso 0 0))

/-- Show the treadle's state in its registers; a change of TRD_STATE, TRD_ALERT or TRD_HOST_STATUS since
`old` raises the POWER event (R393, R397, R494). -/
def State.trdShow (s old : State) : State :=
  let s := s.setReg aTrdState (BitVec.ofNat 32 s.trdWord)
  let s := s.setReg aLevel (BitVec.ofNat 32 (s.trd.g / 100 * 2 ^ 16 + s.trd.ballast / 100))
  if s.reg aTrdState = old.reg aTrdState ∧ s.reg aAlert = old.reg aAlert ∧ s.reg aHostSt = old.reg aHostSt then s
  else s.powerEvent

/-- Form CAP_EFF and FLOOR_EFF from the inputs in force at a step (R380, R385), and count the steps since CAP_EFF
changed (R399); the host's status is judged again when either changes (R393). -/
def State.trdForm (s : State) : State :=
  let cap := s.capEff
  let fl := s.floorEff
  let moved := cap ≠ s.trd.capNow ∨ fl ≠ s.trd.floorNow
  let s := { s with trd := { s.trd with
    capNow := cap, floorNow := fl, steadyFor := if cap = s.trd.capNow then min 10000 (s.trd.steadyFor + 1) else 0 } }
  let s := s.setReg aCapEff (BitVec.ofNat 32 (cap / 100 * 2 ^ 16 + fl / 100))
  if moved then s.hostEval else s

/-! ### The isolated power link (R33 to R37) -/

/-- The sideband contacts carry signals: VIN_AON and VIN_IO are there (R30). -/
def State.sideband (s : State) : Bool := s.pwr.vinAon && s.pwr.vinIo

/-- Send a frame on ISO_TX (R34). -/
def State.isoSend (s : State) (typ : Nat) (payload : List Byte) : State :=
  if !s.sideband then s
  else
  let b := leBytes 1 typ ++ leBytes 1 s.pwr.isoSeq ++ leBytes 1 8 ++ padTo 8 payload
  { s with pwr := { s.pwr with
    isoTx := leBytes 1 0xA5 ++ b ++ leBytes 2 (crc16 b), isoSeq := (s.pwr.isoSeq + 1) % 256 } }

/-- The DESCENT frame (R35). -/
def State.descentFrame (s : State) (cause : Nat) : State :=
  s.isoSend 2 (leBytes 1 cause ++ leBytes 2 (s.trd.capNow / 100))

/-- The tools as an AON backstop sets them on a safety input while the treadle core restarts (R437). -/
def State.backstop (s : State) : State :=
  (List.range 8).foldl (fun (s : State) c => { s with trd := { s.trd with
    notch := tabSet (fun _ => 0) s.trd.notch c 4
    throttle := tabSet (fun _ => 0) s.trd.throttle c 1 } }) s

/-- A safety input has come: the treadle latches it at its next step (R380); while its core restarts, the AON backstop
acts (R437). -/
def State.safety (s : State) : State := if s.trdDown then s.backstop.trdShow s else s

/-- The safety inputs with their causes in DESCENT (R395). -/
def State.safetyIns (s : State) : List (Nat × Nat) :=
  [(4, s.supplyIn), (3, s.flowIn), (2, 100 * s.trd.leakCap), (1, s.heatIn)]

/-- The least of pairs by their second part, the first of equal ones. -/
def lowestOf : List (Nat × Nat) → Option (Nat × Nat)
  | [] => none
  | x :: r =>
    match lowestOf r with
    | some y => some (if x.2 ≤ y.2 then x else y)
    | none => some x

/-- A safety descent begins where a safety input that was lowered since the last step stands below G (R396): its frame
names the lowest of them.  G is taken down, and the alert bits are set, in the same step. -/
def State.descend (s : State) : State :=
  let l := (s.safetyIns.zip s.trd.seen).filter (fun e => decide (e.1.2 < e.2) && decide (e.1.2 < s.trd.g))
  let s := { s with trd := { s.trd with seen := s.safetyIns.map Prod.snd } }
  match lowestOf (l.map Prod.fst) with
  | some e => ({ s with trd := { s.trd with descent := true } }).descentFrame e.1
  | none => s

/-- SUPPLY_ALERT_ASSERT (R33, R395); a sideband input, lost without VIN_IO (R30). -/
def execSupplyAlertAssert (s : State) : Out :=
  if s.sideband then .next ({ s with trd := { s.trd with supplyOn := true } }).safety else .next s

/-- SUPPLY_ALERT_CLEAR (R395). -/
def execSupplyAlertClear (s : State) : Out :=
  if s.sideband then .next { s with trd := { s.trd with supplyOn := false } } else .next s

/-- FLOW_ALERT (R395). -/
def execFlowAlert (s : State) : Out :=
  if s.sideband then .next ({ s with trd := { s.trd with flowOn := true } }).safety else .next s

/-- FLOW_ALERT_CLEAR (R395). -/
def execFlowAlertClear (s : State) : Out :=
  if s.sideband then .next { s with trd := { s.trd with flowOn := false } } else .next s

/-! ### Reports (R381, R413) -/

/-- The average of the newest n samples there are, and the highest of them, in whole watts. -/
def avgW (n : Nat) (l : List Nat) : Nat := sumNat (l.take n) / (max 1 (l.take n).length) / 100
def peakW (n : Nat) (l : List Nat) : Nat := (l.take n).foldl max 0 / 100

/-- The samples of a domain, or of the package. -/
def State.samples (s : State) (d : Nat) : List Nat :=
  if d = 63 then s.trd.pkgHist else if d < 52 then tabGet (fun _ => []) s.trd.domHist d else []

/-- The words of a power report. -/
def State.reportWord (s : State) (d w : Nat) : Word :=
  let l := s.samples d
  BitVec.ofNat 32 (if w = 0 then peakW (100 * s.rf aGov 9 0) l * 2 ^ 16 + avgW 100 l
    else avgW 10000 l * 2 ^ 16 + avgW 100000 l)

/-- Latch a word that a read of its neighbour fixes (R413, R531). -/
def State.latch (s : State) (a : Nat) (w : Word) : State :=
  { s with cnt := { s.cnt with latch := tabSet (fun _ => none) s.cnt.latch a (some w) } }

/-- POWER_REPORT_READ (R413): word 0 is read, and word 1 of the same entry is latched. -/
def execPowerReportRead (path : Path) (d : Nat) (s : State) : Out :=
  if d < 64 ∧ s.pathAny path then
    let s := { s with cnt := { s.cnt with readOut := [s.reportWord d 0] } }
    .next (s.latch (aReport d 1) (s.reportWord d 1))
  else .next s

/-- POWER_READ (R493). -/
def execPowerRead (tag : Nat) (s : State) : Out :=
  .next (s.serve tag 0x0601 28 (fun b => b.isEmpty) (fun s _ => (s, stOk,
    s.regBytes aTrdState 4 ++ s.regBytes aHostSt 1 ++
      wordsToBytes [s.reportWord 63 0, s.reportWord 63 1])))

/-- POWER_REPORTS (R493). -/
def execPowerReports (tag : Nat) (s : State) : Out :=
  .next (s.serve tag 0x0605 0 (fun b => decide (b.length = 2) && decide (byteAt b 0 + byteAt b 1 ≤ 64))
    (fun s p => (s, stOk, (List.range (p.items 8 (byteAt p.payload 1))).flatMap (fun i =>
      wordsToBytes [s.reportWord (byteAt p.payload 0 + i) 0, s.reportWord (byteAt p.payload 0 + i) 1]))))

/-! ### The cap tools (R388, R391, R403) -/

def State.notch (s : State) (c : Nat) : Nat := tabGet (fun _ => 0) s.trd.notch c
def State.setNotch (s : State) (c n : Nat) : State :=
  { s with trd := { s.trd with notch := tabSet (fun _ => 0) s.trd.notch c n } }
def State.throttle (s : State) (c : Nat) : Nat := tabGet (fun _ => 0) s.trd.throttle c
def State.share (s : State) (c : Nat) : Nat := tabGet (fun _ => 0) s.trd.shares c

/-- The shuttle clock ordered for a cluster, in MHz (R46, R388, R418). -/
def State.clkOrdered (s : State) (c : Nat) : Nat := if s.thm.critOn then 400 else 2000 - 400 * s.notch c

/-- A cap tool is applied. -/
def State.toolOn (s : State) : Bool :=
  decide (s.trd.dispatchHold ≠ 0) || (List.range 8).any (fun c => s.notch c ≠ 0 || s.throttle c ≠ 0)

/-- Set F of a cluster's forwarding throttle, 0 to release it, and pace its EDGE ports (R403). -/
def State.setThrottle (s : State) (c f : Nat) : State :=
  let s := { s with trd := { s.trd with throttle := tabSet (fun _ => 0) s.trd.throttle c f } }
  (clusterPorts c).foldl (fun s p =>
    if f = 0 ∨ s.mayPace p then s.setPace p (fun x => { x with paceTrd := [f, f, f] }) else s) s

/-- Latest samples of the domains of a cluster (R391): SW, SHU, REED, HBM and its two engines. -/
def State.cluDraw (s : State) (c : Nat) : Nat :=
  sumNat ([dSw c, dShu c, dReed c, dHbm c, dOpt (2 * c), dOpt (2 * c + 1)].map (fun d =>
    (s.samples d).headD 0))

/-- Apply tools 2 to 4 in a cluster; F is a free value, since no rule gives its law. -/
def State.toolsUp (s : State) (c : Nat) : State :=
  let (r, s) := s.draw
  let s := s.setNotch c (min 4 (s.notch c + 1))
  let s := { s with trd := { s.trd with dispatchHold := putBits s.trd.dispatchHold c c 1 } }
  s.setThrottle c (1 + r % 255)

/-- Release one tool of a cluster, in the reverse order. -/
def State.toolsDown (s : State) (c : Nat) : State :=
  if s.throttle c ≠ 0 then s.setThrottle c 0
  else if bit s.trd.dispatchHold c then
    { s with trd := { s.trd with dispatchHold := putBits s.trd.dispatchHold c c 0 } }
  else if s.notch c ≠ 0 then s.setNotch c (s.notch c - 1)
  else s

/-- The limit of a cluster from its zones' WARN rungs and from R417. -/
def State.cluLimit (s : State) (c : Nat) : Nat :=
  let w := [c, 8 + c, 16 + 2 * c, 17 + 2 * c].map (fun z =>
    (tabGet (fun _ => none) s.thm.warnCap z).getD 1200000)
  min (if bit s.thm.blindCap c then 7500 else 1200000) (minOf 1200000 w)

/-- The tools of every cluster at one step: applied where the cluster is over a limit of R417 or R418, or the package
over G and the cluster over its share; released one at a time, only while D is at or below G (R386 to R388, R391). -/
def State.tools (s : State) (isOver : Bool) : State :=
  (List.range 8).foldl (fun s c =>
    if s.cluLimit c < s.cluDraw c ∨ (isOver ∧ s.share c < s.cluDraw c) then s.toolsUp c
    else if isOver then s else s.toolsDown c) s

/-- The draw of AON, PLN, SEC and HIO, and that of the clusters together (R391). -/
def State.plinthDraw (s : State) : Nat := sumNat ([0, 1, 2, 3].map (fun d => (s.samples d).headD 0))
def State.clustersDraw (s : State) : Nat := sumNat ((List.range 8).map s.cluDraw)

/-- D_c of clusters 0 to n - 1 (R391): their draw less the ballast that runs in them.  How the ballast stands in the
clusters is not stated: each holds a free part of it within its draw, and all of them together the whole. -/
def State.realWork (s : State) : Nat → Nat → List Nat × State
  | 0, _ => ([], s)
  | n + 1, left =>
    let (r, s) := s.draw
    let most := min left (s.cluDraw n)
    let least := left - sumNat ((List.range n).map s.cluDraw)
    let here := if most ≤ least then most else least + r % (most - least + 1)
    let (l, s) := s.realWork n (left - here)
    (l ++ [s.cluDraw n - here], s)

/-- The share of cluster c where those of a list stand at their limits and the others take what that leaves, in
proportion to their real work (R391). -/
def partAt (raw lim real : Nat → Nat) (capped : List Nat) (c : Nat) : Nat :=
  if capped.contains c then lim c
  else
    let extra := sumNat (capped.map raw) - sumNat (capped.map lim)
    let rest := sumNat (((List.range 8).filter (fun d => !capped.contains d)).map real)
    raw c + (if rest = 0 then 0 else extra * real c / rest)

/-- The clusters held at their limits: one that the surplus of others lifts over its own joins them. -/
def cappedAt (raw lim real : Nat → Nat) : Nat → List Nat → List Nat
  | 0, l => l
  | n + 1, l => cappedAt raw lim real n
      ((List.range 8).filter (fun c => l.contains c || decide (lim c < partAt raw lim real l c)))

/-- CLUSTER_SHARE_UPDATE (R391). -/
def execClusterShareUpdate (s : State) : Out :=
  if s.trdDown then .next s
  else
    let b := s.trd.g - s.plinthDraw
    let (work, s) := s.realWork 8 s.trd.ballast
    let real (c : Nat) : Nat := work.getD c 0
    let total := sumNat work
    let raw (c : Nat) : Nat := b / 16 + (if total = 0 then 0 else b / 2 * real c / total)
    let capped := cappedAt raw s.cluLimit real 8 []
    .next ((List.range 8).foldl (fun (s : State) c =>
      { s with trd := { s.trd with
        shares := tabSet (fun _ => 0) s.trd.shares c (partAt raw s.cluLimit real capped c) } }) s)

/-- SHU_CLOCK_SWITCH (R46): a step up waits while D is above G (R387). -/
def execShuClockSwitch (c : Nat) (s : State) : Out :=
  if c < 8 ∧ !(s.trd.overG && decide (tabGet (fun _ => 2000) s.pwr.shuClk c < s.clkOrdered c)) then
    .next { s with pwr := { s.pwr with shuClk := tabSet (fun _ => 2000) s.pwr.shuClk c (s.clkOrdered c) } }
  else .next s

/-! ### The step (R380, R386, R387) -/

/-- AON_TRIMMED reads 1 for 2 ms after a trim comparison, 192,000 AON cycles (R49). -/
def State.trimAge (s : State) : State := if s.pwr.trimAt + 192000 < s.aon then s.setRf aClk 2 2 0 else s

/-- Count AON cycles in the device counters set to event 0x80: the condition always holds, so an EDGE
count never rises. -/
def State.aonTick (s : State) (n : Nat) : State :=
  (List.range 16).foldl (fun s j =>
    if s.ctrSees (aCntDev 0) j 0x80 (fun _ => true) && s.rf (aCntDev j) 30 30 = 1 then s.ctrAdd 16 (aCntDev j) n
    else s) ({ s with aon := s.aon + n }.trimAge)

/-- Count shuttle cycles (event 0x01, LEVEL) for each shuttle a context of which, within the counter's
CTX_MASK, holds a work item; a step is 10 µs of the shuttle's clock. -/
def State.shuTick (s : State) : State :=
  let busy := (s.shed.items.filterMap (·.runs))
  ((busy.map (fun x => x / 4)).eraseDups).foldl (fun s sh =>
    let bank := aShuCnt (sh / 32) (sh % 32) 0
    (List.range 4).foldl (fun s j =>
      if s.ctrSees bank j 0x01 (fun _ => true) && s.rf (bank + 0x10 * j) 30 30 = 1 &&
          busy.any (fun x => decide (x / 4 = sh) && bit (s.rf (bank + 0x10 * j) 26 23) (x % 4)) then
        s.ctrAdd 4 (bank + 0x10 * j) (10 * tabGet (fun _ => 2000) s.pwr.shuClk (sh / 32))
      else s) s) s

/-- Note the occupancies that the next congestion map reports (R536). -/
def State.mapSample (s : State) : State :=
  let s := (List.range 128).foldl (fun (s : State) p =>
    if (s.port p).lstate = .dark then s
    else (List.range 7).foldl (fun (s : State) v =>
      let k := 8 * p + v
      { s with cnt := { s.cnt with
        occMax := tabSet (fun _ => 0) s.cnt.occMax k (max (tabGet (fun _ => 0) s.cnt.occMax k) (s.occ p v)) } }) s) s
  (List.range 8).foldl (fun (s : State) c =>
    { s with cnt := { s.cnt with
      pctMax := tabSet (fun _ => 0) s.cnt.pctMax c (max (tabGet (fun _ => 0) s.cnt.pctMax c) (s.occPct c)) } }) s

/-- Ballast has a domain to run in: it runs only in SHU, HBM and REED domains at RUN (R389). -/
def State.ballastUp (s : State) : Bool :=
  (List.range 8).any (fun n => [dShu n, dHbm n, dReed n].any (fun d => s.atDepth d .run))

/-- A work item is queued for the cluster. -/
def State.shuQueued (s : State) (c : Nat) : Bool :=
  s.shed.items.any (fun i => i.runs.isNone && decide (i.cluster = c))

/-- The SHU exits that waited for D to come down to G start (R43, R387). -/
def State.shuExits (s : State) : State :=
  (List.range 8).foldl (fun s c => if s.shuQueued c then s.wake (dShu c) else s) s

/-- The inputs that move with each step: RACK_IN in the fallback descent (R398), HOST_IN toward the host's
request (R385). -/
def State.trdInputs (s : State) : State :=
  let dn := s.dnSlew
  let fb := 100 * s.rf aFallbk 26 16
  let rack := if s.trd.mode = 2 ∧ fb < s.trd.rackIn then max fb (s.trd.rackIn - dn) else s.trd.rackIn
  let s := { s with trd := { s.trd with rackIn := rack } }
  let w := 100 * s.rf aHostReq 10 0
  let req := if w = 0 then 120000 else w
  let fl := min s.floorSet s.capOthers
  let host := if s.trd.hostIn ≤ req then req else min s.trd.hostIn (max req (max fl (s.trd.hostIn - dn)))
  { s with trd := { s.trd with hostIn := host } }

/-- The alert bits whose condition holds (R397). -/
def State.alertBits (s : State) : Nat :=
  b2n (decide (s.thermIn < 120000)) + 2 * b2n s.trd.supplyOn + 4 * b2n s.trd.flowOn + 8 * b2n s.trd.leakOn +
    16 * b2n (decide (s.trd.mode ≠ 0))

/-- The new governed level of R386, before a traffic rise. -/
def State.nextG (s : State) (d : Nat) : Nat :=
  let rsv := if s.sleepOn then 0 else 100 * s.rf aGov 31 16
  let want := if s.toolOn then s.trd.capNow else min (max (d + rsv) s.trd.floorNow) s.trd.capNow
  let g := s.trd.g
  min s.trd.capNow (if g < want then min want (g + s.upSlew) else max want (g - s.dnSlew))

/-- One step of R386 with a package sample and the domain samples. -/
def State.trdStep (s : State) (pkg : Nat) (dom : List Nat) : State :=
  let old := s
  let s := { s with trd := { s.trd with
    pkgHist := (pkg :: s.trd.pkgHist).take 100000
    domHist := (List.range 52).foldl (fun t d =>
      tabSet (fun _ => []) t d ((dom.getD d 0 :: tabGet (fun _ => []) t d).take 100000)) s.trd.domHist } }
  let s := s.trdInputs.trdForm.descend
  let d := pkg - s.trd.ballast
  let g0 := s.trd.g
  let g1 := s.nextG d
  let rise := g1 < d ∧ d ≤ s.trd.capNow
  let g := if rise then d else g1
  let s := if rise then (s.bump aTrdErr 31 16 1).evDev 0x89 1 else s
  let isOver := decide (g < d)
  let bal := if g ≤ d ∨ !s.ballastUp then 0 else g - d
  let s := if d + bal < g ∨ s.dnSlew < g0 - g then s.bump aTrdErr 7 1 1 else s
  let s := if isOver then s.evDev 0x88 1 else s
  let s := { s with trd := { s.trd with
    g := g, ballast := bal, overG := isOver, short := !s.ballastUp && decide (d < s.trd.floorNow)
    descent := s.trd.descent && decide (s.trd.capNow < sumNat (s.trd.pkgHist.take 10) / max 1 (s.trd.pkgHist.take 10).length) } }
  let s := s.tools isOver
  let s := if isOver then s else s.shuExits
  let s := s.setReg aAlert (s.reg aAlert ||| BitVec.ofNat 32 s.alertBits)
  s.trdShow old

/-- TREADLE_STEP (R380, R386). -/
def execTreadleStep (pkg : Nat) (dom : List Nat) (s : State) : Out :=
  if !s.pwr.vinAon then .next s
  else
  let s := ((s.aonTick 960).shuTick).mapSample
  if s.trdDown then .next s else .next (s.trdStep pkg dom)

/-! ### The rack manager's word and its silence (R384, R398) -/

/-- A write of TRD_CAP_RACK: whether it was valid, and the state. -/
def State.capWord (s : State) (v : Word) : Bool × State :=
  let w := fld v 15 0
  if fld v 31 16 = 65535 - w ∧ 150 ≤ w ∧ w ≤ 1200 then
    let old := s
    let s := (s.setReg aCapRack v).mirrorTrd
    let s := { s with trd := { s.trd with rackIn := 100 * w, mode := 0, holdCap := none } }
    (true, s.trdShow old)
  else (false, s.bump aTrdErr 15 8 1)

/-- CAP_WORD_WRITE (R383, R384): the register is RO on every path but I3C. -/
def execCapWordWrite (path : Path) (v : Word) (s : State) : Out :=
  if path = .i3c ∧ s.pathAny .i3c then .next (s.capWord v).2 else .next s

/-- CAP_HOLD_EXPIRE (R398, step 2). -/
def execCapHoldExpire (s : State) : Out :=
  if s.trd.mode = 0 then
    let t := { s with trd := { s.trd with mode := 1, holdCap := some s.trd.capNow } }
    .next ((t.setRf aAlert 4 4 1).trdShow s)
  else .next s

/-- CAP_FALLBACK_EXPIRE (R398, step 3). -/
def execCapFallbackExpire (s : State) : Out :=
  if s.trd.mode = 1 then .next (({ s with trd := { s.trd with mode := 2 } }).trdShow s) else .next s

/-! ### The host's requests (R393, R410) -/

/-- A request for a cap that R393 does not allow leaves the one in force, and its status is shown. -/
def State.capRefused (s : State) : State :=
  if s.sleepStatus = stOk then s.setReg aHostSt (BitVec.ofNat 32 stUnsup) else s

/-- Take HOST_CAP_W as asked, or refuse: its outcome, and the state (R393). -/
def State.capReq (s : State) (cap : Nat) : Nat × State :=
  if cap ≠ 0 ∧ (cap < 150 ∨ 1200 < cap) then (stUnsup, s.capRefused.trdShow s)
  else
    let t := (s.setRf aHostReq 10 0 cap).hostEval
    (t.capStatus, t.trdShow s)

/-- Take SLEEP as asked, or refuse: its outcome, and the state (R393).  A STANDBY's request in force stays. -/
def State.sleepReq (s : State) (sleep : Nat) : Nat × State :=
  if sleep = 1 ∧ s.role = 2 then (stState, (s.setReg aHostSt (BitVec.ofNat 32 stState)).trdShow s)
  else
    let t := (s.setRf aHostReq 31 31 sleep).hostEval
    (t.sleepStatus, t.trdShow s)

/-- A write of TRD_HOST_REQ, which carries both requests: whether both took effect, and the state.  One outside the
range of HOST_CAP_W has no effect. -/
def State.hostReqWord (s : State) (v : Word) : Bool × State :=
  let (a, t) := s.capReq (fld v 10 0)
  if a = stUnsup then (false, t)
  else
    let (b, t) := t.sleepReq (fld v 31 31)
    (decide (b ≠ stState), t.mirrorTrd)

/-- Answer a power command whose request took effect: an OK waits for the mirror (R513), any other
outcome is answered at once. -/
def State.trdAnswer (s : State) (tag st : Nat) : State :=
  if st = stOk then s.mirrorAnswer 7 0 s.bodyTrd (.cmd tag) []
  else s.mirrorTrd.finish tag st []

/-- HOST_CAP (R393, R486). -/
def execHostCap (src : Src) (s : State) : Out :=
  match src with
  | .reg path a v => if s.pathOk path ∧ a = aHostReq then .next (s.hostReqWord v).2 else .next s
  | .cmd tag =>
    match s.cmd tag 0x0602 with
    | none => .next s
    | some p =>
      if p.payload.length ≠ 2 then .next (s.finish tag stUnsup [])
      else
        let (a, t) := s.capReq (field p.payload 0 2)
        if a = stUnsup then .next (t.finish tag a []) else .next (t.trdAnswer tag a)

/-- SLEEP (R393, R486). -/
def execSleep (src : Src) (s : State) : Out :=
  match src with
  | .reg path a v => if s.pathOk path ∧ a = aHostReq then .next (s.hostReqWord v).2 else .next s
  | .cmd tag =>
    match s.cmd tag 0x0603 with
    | none => .next s
    | some p =>
      if p.payload.length ≠ 1 ∨ 1 < byteAt p.payload 0 then .next (s.finish tag stUnsup [])
      else
        let (b, t) := s.sleepReq (byteAt p.payload 0)
        if b = stState then .next (t.finish tag b []) else .next (t.trdAnswer tag b)

/-- The ranges of TRD_DEPTH_CFG and TRD_GOV_CFG (R410). -/
def depthCfgOk (v : Word) : Bool := decide (1 ≤ fld v 31 24) && decide (1 ≤ fld v 15 8) && decide (10 ≤ fld v 7 0)
def govCfgOk (v : Word) : Bool :=
  decide (fld v 31 16 ≤ 200) && decide (1 ≤ fld v 9 0) && decide (fld v 9 0 ≤ 1000)

/-- Clear the TRD_ALERT bits of a mask (R397). -/
def State.alertClear (s : State) (m : Nat) : State :=
  (s.setReg aAlert (BitVec.ofNat 32 (s.rf aAlert 4 0 - (s.rf aAlert 4 0 &&& m % 32)))).trdShow s

/-- HOST_CFG (R410, R397). -/
def execHostCfg (tag : Nat) (s : State) : Out :=
  match s.cmd tag 0x0606 with
  | none => .next s
  | some p =>
    let d := BitVec.ofNat 32 (field p.payload 0 4)
    let g := BitVec.ofNat 32 (field p.payload 4 4)
    if p.payload.length ≠ 9 then .next (s.finish tag stUnsup [])
    else if !depthCfgOk d || !govCfgOk g then .next (s.finish tag stState [])
    else .next ((((s.setReg aDepthCfg d).setReg aGov (g &&& 0xFFFF03FF#32)).alertClear
      (byteAt p.payload 8)).trdAnswer tag stOk)

/-- TRD_ALERT_CLEAR (R397). -/
def execTrdAlertClear (path : Path) (v : Word) (s : State) : Out :=
  if s.pathAny path then .next (s.alertClear (fld v 4 0)) else .next s

/-- TRD_ERR_CLEAR (R412): the bit is WO, which I3C does not write (R575). -/
def execTrdErrClear (path : Path) (v : Word) (s : State) : Out :=
  if s.pathOk path ∧ fld v 0 0 = 1 then .next (s.setReg aTrdErr 0) else .next s

/-! ### Frames of the isolated link (R35 to R37) -/

/-- DEMAND_FRAME_TX (R35): the package's 10 newest samples are its last 100 µs. -/
def execDemandFrameTx (s : State) : Out :=
  .next (if !s.sideband then s else s.isoSend 1 (leBytes 2 (avgW 10 s.trd.pkgHist) ++ leBytes 2 (peakW 10 s.trd.pkgHist) ++
    leBytes 2 (s.trd.capNow / 100) ++ leBytes 1 s.upSlew ++ leBytes 1 s.dnSlew))

/-- ISO_STATUS_FRAME_RX (R36, R37). -/
def execIsoStatusFrameRx (b : List Byte) (s : State) : Out :=
  if !s.sideband then .next s
  else if b.length = 14 ∧ byteAt b 0 = 0xA5 ∧ byteAt b 3 = 8 ∧ crc16 (slice b 1 11) = field b 12 2 ∧
      byteAt b 1 = 0x81 then
    let s := { s with pwr := { s.pwr with isoStatus := slice b 4 8 } }
    .next ((s.setRf aIso 31 16 (field b 4 2)).setRf aIso 2 1 (bits (byteAt b 9) 1 0))
  else .next (s.bump aIso 15 8 1)

/-- ISO_LOST_TIMEOUT (R36). -/
def execIsoLostTimeout (s : State) : Out :=
  if s.rf aIso 0 0 = 1 then .next s else .next (s.setRf aIso 0 0 1).powerEvent

/-- ISO_STATUS_CLEAR (R37). -/
def execIsoStatusClear (path : Path) (v : Word) (s : State) : Out :=
  if s.pathAny path ∧ fld v 0 0 = 1 then .next ((s.setRf aIso 0 0 0).setRf aIso 15 8 0) else .next s

/-! ### Depth timers (R392) -/

/-- No pick is in the slice of a cluster. -/
def State.sliceEmpty (s : State) (c : Nat) : Bool :=
  ((128 + c) :: clusterPorts c).all (fun q => (List.range 7).all (fun v => (s.inq q v).isEmpty)) &&
    (clusterPorts c).all (fun p => (List.range 7).all (fun v => (s.outq p v).isEmpty))
/-- Every port of the cluster is in HOLD, DARK or OFF (R42). -/
def State.cluQuiet (s : State) (c : Nat) : Bool :=
  (clusterPorts c).all (fun p => s.darkOrOff p || decide ((s.port p).lstate = .hold))
/-- A reed of the cluster holds an open slot (R220). -/
def State.reedOpen (s : State) (c : Nat) : Bool :=
  s.groups.any (fun e => e.2.slots.any (fun y => decide (s.gPlace e.1 y.chunk = c)))
/-- A context of the cluster holds a work item. -/
def State.shuBusy (s : State) (c : Nat) : Bool :=
  s.shed.items.any (fun i => match i.runs with | some x => decide (ctxCluster x = c) | none => false)
/-- SW_GATE_TIMER (R42, R392): on to RETAIN while every port of the cluster is held, DARK or OFF; a
standby keeps the clusters of its PAIR ports at RUN (R45). -/
def execSwGateTimer (c : Nat) (s : State) : Out :=
  let d := dSw c
  if c < 8 ∧ (s.dom d).depth ≠ .off ∧ !(s.dom d).exiting ∧ s.sliceEmpty c ∧
      ¬ (s.role = 2 ∧ s.pairPorts.any (fun p => decide (p / 16 = c))) then
    .next (s.toDepth d (if s.cluQuiet c ∧ s.role ≠ 2 then .retain else .gated))
  else .next s

/-- SHU_GATE_TIMER (R392): where an item waits in the cluster, the exit starts for it at once (R288). -/
def execShuGateTimer (c : Nat) (s : State) : Out :=
  if c < 8 ∧ s.atDepth (dShu c) .run ∧ !s.shuBusy c then
    let t := s.toDepth (dShu c) .gated
    .next (if s.shuQueued c ∧ !s.trd.overG then t.wake (dShu c) else t)
  else .next s

/-- SHU_RETAIN_TIMER (R392). -/
def execShuRetainTimer (c : Nat) (s : State) : Out :=
  if c < 8 ∧ s.atDepth (dShu c) .gated ∧ !(s.dom (dShu c)).exiting ∧ !s.shuBusy c ∧ !s.shuQueued c then
    .next (s.toDepth (dShu c) .retain)
  else .next s

/-- REED_GATE_TIMER (R392). -/
def execReedGateTimer (c : Nat) (s : State) : Out :=
  if c < 8 ∧ s.atDepth (dReed c) .run ∧ !s.reedOpen c then .next (s.toDepth (dReed c) .gated) else .next s

/-- REED_RETAIN_TIMER (R392). -/
def execReedRetainTimer (c : Nat) (s : State) : Out :=
  if c < 8 ∧ (s.atDepth (dReed c) .run ∨ s.atDepth (dReed c) .gated) ∧ !(s.dom (dReed c)).exiting ∧
      !s.reedOpen c then .next (s.toDepth (dReed c) .retain)
  else .next s

/-- HBM_SR_TIMER (R392): a standby's stacks stay at RUN for the mirror stream (R45). -/
def execHbmSrTimer (n : Nat) (s : State) : Out :=
  if n < 8 ∧ s.atDepth (dHbm n) .run ∧ s.role ≠ 2 ∧ !s.streaming then .next (s.toDepth (dHbm n) .retain)
  else .next s

/-! ### Deep idle (R45, R394) -/

/-- What a domain that goes OFF loses of its registers and contents (R39, R569, R570). -/
def State.offLoss (s : State) (d : Nat) : State :=
  if dSw 0 ≤ d ∧ d < dShu 0 then
    let c := d - dSw 0
    let s := s.clearRegs (fun a => (decide (aC c ≤ a) && decide (a < aC c + 0x10000)) ||
      decide (a = aApply c) || (decide (aBobErr c ≤ a) && decide (a ≤ aDfLog c 3)) || decide (a = aShedErr c) || decide (a = aShedQ c))
    s.poolRebuild c
  else if dShu 0 ≤ d ∧ d < dReed 0 then
    let c := d - dShu 0
    let s := s.clearRegs (fun a => decide (aC c + 0x50000 ≤ a) && decide (a < aC c + 0x60000))
    { s with ctxs := tabClear (fun x => decide (x / 128 = c)) s.ctxs }
  else if dReed 0 ≤ d ∧ d < dHbm 0 then s.setRf (aReedErr (d - dReed 0)) 31 0 0
  else if dHbm 0 ≤ d ∧ d < dOpt 0 then s.memClear (s.stackBase (d - dHbm 0) * 65536) (s.stackFrames (d - dHbm 0) * 65536)
  else s

/-- Take a domain OFF, with the loss of what it held. -/
def State.offNow (s : State) (d : Nat) (k : OffKind) : State := (s.offLoss d).toOff d k

/-- The SHUn condition of R40: no work item running or queued, no resident image pinned to it. -/
def State.shuFree (s : State) (c : Nat) : Bool :=
  !s.shuBusy c && !s.shuQueued c &&
    (List.range 64).all (fun i => decide (s.imgState i = 0) || !bit (s.rf (aImage i 0) 23 16) c)

/-- The conditions of R394. -/
def State.deepOk (s : State) : Bool :=
  s.sleepOn && decide (s.trd.floorNow ≤ 9500) && (List.range 8).all s.shuFree &&
    (List.range 128).all (fun p => s.darkOrOff p ||
      (decide ((s.port p).lstate = .hold) && decide ((s.port p).holdDepth = .dark) && !(s.port p).txOn)) &&
    (List.range 8).all (fun c => !s.reedOpen c) && !s.streaming && decide (s.role ≠ 2)

/-- Let a domain that is not OFF rise to RUN. -/
def State.wakeUp (s : State) (d : Nat) : State := if s.isOff d then s else s.wake d

/-- Let a domain that is not OFF sink to a depth. -/
def State.sinkTo (s : State) (d : Nat) (x : Depth) : State := if s.isOff d then s else s.toDepth d x

/-- DEEP_IDLE_ENTER (R45, R394). -/
def execDeepIdleEnter (s : State) : Out :=
  if !s.isOff dPln ∧ s.deepOk then
    let old := s
    let s := { s with trd := { s.trd with deepIdle := true } }
    let s := (s.sinkTo dPln .gated).sinkTo dSec .gated
    let s := (List.range 8).foldl (fun (s : State) c =>
      (((if s.isOff (dShu c) then s else s.offNow (dShu c) .idle).sinkTo (dSw c) .retain).sinkTo
        (dReed c) .retain).sinkTo (dHbm c) .retain) s
    let s := (List.range 16).foldl (fun (s : State) k => s.sinkTo (dOpt k) .retain) s
    .next (s.trdShow old)
  else .next s

end Sys2Proof.Machine
end

