-- ==== Sys2Proof/Machine/Pair.lean ====
section
/-!
DEFINITION. Sys2Proof/Machine/Pair.lean: the dovetail pair (chapter 18): configuration, claims, heartbeats,
abdication, the mirror stream as both sides run it, takeover, and the planned swap.
-/

namespace Sys2Proof.Machine

/-! ### Cartridges and claims (R500, R505) -/

/-- The cartridges whose identity record names a dovetail cartridge. -/
def State.dovetails (s : State) : List Nat := (List.range 16).filter (fun k => decide (s.rf (aCrt k) 24 24 = 1))
/-- The dovetail ports. -/
def State.dovetailPorts (s : State) : List Nat := s.dovetails.flatMap enginePorts
/-- SEL_STATUS: the selectors stand at this device's side; the claims are equal. -/
def selMine (st : Nat) : Bool := decide (st % 2 = st / 8 % 2)
def selTie (st : Nat) : Bool := bit st 1
/-- Every dovetail cartridge reports this side. -/
def State.allMine (s : State) : Bool := s.dovetails.all (fun k => selMine (s.cart k).selStatus)

/-- Write a claim to every dovetail cartridge (R505). -/
def State.putClaim (s : State) (c : Nat) : State :=
  s.dovetails.foldl (fun s k => s.setCart k { s.cart k with claim := some c }) s

def State.claimReg (s : State) : Nat := s.rf aClaim 31 0
def State.peerClaim (s : State) : Nat := s.rf aPeerClaim 31 0
def State.pairReady (s : State) : Bool := s.rf aDvt 26 26 = 1
def State.setLast (s : State) (st : Nat) : State := s.setRf aDvt 15 0 st

/-- Change the pair role, with what follows from it: the role change event, and the device state (R45). -/
def State.toRole (s : State) (r : Nat) : State :=
  let old := s
  let s := s.setRf aDvt 31 29 r
  (s.pairEvent 1).trdShow old

/-- Change MIRROR as the active or the standby sees it, with its event. -/
def State.toMirror (s : State) (m : Nat) : State :=
  if s.mirState = m then s else (s.setRf aDvt 28 27 m).pairEvent 4

/-- The active stops mirroring: what waited completes without its acknowledgement (R514). -/
def State.mirrorStop (s : State) (m : Nat) : State :=
  if s.mirState = m then s
  else
    let s := (s.mirrorEnd m).pairEvent 4
    { s with pair := { s.pair with push := [], baseline := false } }

/-! ### Losing the data plane (R517, and the resets of R560) -/

/-- Drop what the pools of some clusters hold and reserve for holders that satisfy f. -/
def State.poolDrop (s : State) (f : Holder → Bool) : State :=
  (List.range 8).foldl (fun s c =>
    let x := s.pool c
    s.setPool c { x with
      held := x.held.filter (fun b => !f b.holder), rsvs := x.rsvs.filter (fun r => !f r.holder)
      waits := x.waits.filter (fun d => !f d.holder) }) s

/-- Holders that a flow, a work item or a packet stands behind. -/
def Holder.isWork : Holder → Bool
  | .window _ _ _ => true
  | .payload _ => true
  | .item _ => true
  | .inject _ => true
  | .imgPkt _ _ => true
  | .mcast _ => true
  | .port _ _ => false
  | .group _ => false
  | .image _ => false

/-- Every window, reorder context in use and source window ends, with no message; contexts keep the image
that declared them. -/
def State.dropFlows (s : State) : State :=
  let srcs := (s.flows.srcs.map (fun e => (e.1, { srcReset with image := e.2.image }))).filter (fun e => e.2 ≠ srcReset)
  let s := { s with flows := { s.flows with wins := [], srcs := srcs, ends := [] } }
  (List.range 64).foldl (fun s i => s.reorderUse i (fun _ => 0)) s

/-- Every work item ends with no CALL_DONE. -/
def State.dropWork (s : State) : State :=
  { s with
    ctxs := []
    shed := { s.shed with items := [], aside := [], claims := [], ready := [], lastCtx := [], exec := [], dfc := [], ptr := [] } }

/-- Every group loses its reed state and is FREE. -/
def State.dropGroups (s : State) : State := s.liveGroups.foldl (fun s g => s.groupFree g) s

/-- The depths of a standby (R40, R45): SHU idle OFF, REED at RETAIN, HBM at RUN; SW at GATED but in the clusters of
PAIR ports.  Engines follow their ports, which `standbyHold` has held. -/
def State.standbyDepths (s : State) : State :=
  (List.range 8).foldl (fun (s : State) c =>
    let s := if s.isOff (dShu c) then s else s.offNow (dShu c) .idle
    let s := (s.sinkTo (dReed c) .retain).wakeUp (dHbm c)
    if s.pairPorts.any (fun p => decide (p / 16 = c)) then s.wakeUp (dSw c)
    else if s.sliceEmpty c then s.sinkTo (dSw c) .gated else s) s

/-- A receiving standby begins again: it is not READY and holds nothing mirrored (R514, R517). -/
def State.receiveAgain (s : State) : State :=
  let s := s.setRf aDvt 26 26 0
  { s with pair := { s.pair with rxItems := [], applied := 0, baseline := false, baseCount := none, mirrored := [] } }

/-- Become STANDBY (R517): claim 0 is presented, the links of dovetail ports are held with no peer, and work
items, windows and reed state are lost. -/
def State.becomeStandby (s : State) : State :=
  let s := s.mirrorStop 0
  let s := (((s.dropWork).dropFlows).poolDrop Holder.isWork).dropGroups
  let s := (s.putClaim 0).receiveAgain.toRole 2
  -- a port whose clock has stopped stays DOWN, and is held when it can be brought up again (R48)
  (s.dovetailPorts.foldl (fun s p => if s.darkOrOff p || !s.portClock p then s else s.standbyHold p) s).standbyDepths

/-! ### Heartbeats (R508 to R510) -/

/-- FLAGS of a heartbeat: READY, FALLBACK, ABDICATE. -/
def State.hbFlags (s : State) : Nat := b2n s.pairReady + 2 * b2n s.fallback + 4 * b2n s.pair.abdicated

/-- Send a sideband frame. -/
def State.hbFrame (s : State) (typ : Nat) : State :=
  let b := leBytes 1 typ ++ leBytes 1 s.pair.hbFrame ++ leBytes 1 s.hbFlags ++ leBytes 4 s.claimReg ++ leBytes 2 0
  { s with pair := { s.pair with
    hbTx := leBytes 1 0x5A ++ b ++ leBytes 2 (crc16 b), hbFrame := (s.pair.hbFrame + 1) % 256 } }

/-- Send PAIR_HB on one live PAIR port. -/
def State.hbPacket (s : State) (p : Nat) : State :=
  let op := leBytes 4 s.claimReg ++ leBytes 1 s.role ++ leBytes 1 s.hbFlags ++ leBytes 2 s.pair.hbSeq ++
    leBytes 6 0 ++ leBytes 2 0 ++ leBytes 8 s.aon
  let k := mkPkt s.partner s.selfEid 0x24 false false false 0 0 op []
  let q : QPkt :=
    { pid := s.sw.nextPid, hdr := k.hdr, data := [], inq := 128 + p / 16, vc := 4, sent := 0
      ageLim := s.rf aCong 31 16, escLim := s.rf aCong 15 0, checked := true, mc := none, only := none }
  let s := { s with sw := { s.sw with nextPid := s.sw.nextPid + 1 } }
  s.setOutq p 4 (s.outq p 4 ++ [q])

/-- HEARTBEAT_TX (R508): in RECOVERY none is sent (R546). -/
def execHeartbeatTx (s : State) : Out :=
  if !s.paired ∨ s.plinth = 3 ∨ !s.pwr.vinAon then .next s
  else
    -- nothing is originated in band without an EID (R117)
    let ps := s.pairPorts.filter (fun p => decide (s.selfEid ≠ 0xFFFF) && decide (s.portRole p = 3) && s.live p &&
      !s.isOff (dSw (p / 16)))
    let s := ps.foldl (fun s p => s.hbPacket p) s
    let s := { s with pair := { s.pair with hbSeq := (s.pair.hbSeq + 1) % 65536 } }
    .next (if s.pwr.vinIo then s.hbFrame 1 else s)

/-- An ACTIVE device abdicates (R512): ABDICATE in both heartbeat forms and a PAIR_MSG. -/
def State.abdicate (s : State) : State :=
  if s.role = 1 ∧ s.paired then
    let s := { s with pair := { s.pair with abdicated := true } }
    let s := s.pairMsg (opP 1 0 0 0 0 0 0 0) []
    if s.pwr.vinIo then s.hbFrame 2 else s
  else s

/-! ### Installing the mirrored records at a takeover (R513, R515, R518) -/

/-- The records of an item type. -/
def State.records (s : State) (typ : Nat) : List (Nat × List Byte) :=
  s.pair.mirrored.filterMap (fun r => if r.1 = typ then some (r.2.1, r.2.2) else none)

/-- Store a record, in place of one of the same type and key. -/
def putRecord (l : List (Nat × Nat × List Byte)) (typ key : Nat) (b : List Byte) : List (Nat × Nat × List Byte) :=
  l.filter (fun r => !(decide (r.1 = typ) && decide (r.2.1 = key))) ++ [(typ, key, b)]

/-- The mirrored configuration of one port: 11 words (R595, type 8). PAIR ports keep their own. -/
def State.portInstall (s : State) (p : Nat) (b : List Byte) : State :=
  if s.portRole p = 3 then s
  else
    let w := bytesToWords 11 b
    let s := if s.portRole p ≠ 0 then s.portUnreserve p else s
    let s := ((s.setReg (aPortCfg p) (w.getD 0 0)).setReg (aHoldLim p) (w.getD 1 0)).setReg (aRetry p) (w.getD 2 0)
    let s := (s.setRegs (aCredit p 0) ((w.drop 3).take 7)).setReg (aPortSel p) (w.getD 10 0)
    if s.portRole p ≠ 0 then (s.portReserve p).getD s else s

/-- Step 2 of R515: the tables, SELF_EID, the port configuration with FLOW_PARITY inverted (R258), and the
envelope come into force. -/
def State.takeTables (s : State) : State :=
  let s := s.clearRegs (fun a => (decide (aRoute 0 0 ≤ a) && decide (a < aRouteSh 0 0)) ||
    (decide (aMcast 0 0 ≤ a) && decide (a < aMcastSh 0 0)))
  let s := (s.records 1).foldl (fun s r => s.setRegs (aRoute r.1 0) (bytesToWords 8 r.2)) s
  let s := (s.records 2).foldl (fun s r => s.setRegs (aMcast r.1 0) (bytesToWords 16 r.2)) s
  let s := (s.records 9).foldl (fun s r => s.setRf aSelfEid 15 0 (field r.2 0 2)) s
  let s := (s.records 7).foldl (fun s r =>
    let s := (s.setRegs aCapRack (bytesToWords 8 r.2)).setRegs aHostReq
      [BitVec.ofNat 32 (field r.2 32 4)]
    let s := s.setRegs aDepthCfg (bytesToWords 2 (r.2.drop 40))
    { s with trd := { s.trd with rackIn := 100 * s.rf aCapRack 15 0 } }) s
  (s.records 8).foldl (fun s r =>
    let s := (List.range 128).foldl (fun s p => s.portInstall p (r.2.drop (44 * p))) s
    s.setRf aDvt 22 22 (1 - field r.2 5632 4 % 2)) s

/-- Install one mirrored JOB image as RESIDENT at its index (R513).  The item names neither the addresses
of its code and data nor where in the mirror region they came, nor the numbers of its queues: those are free
values and the lowest FREE queues (DESIGN CHOICE, log entry 27). -/
def State.imageInstall (s : State) (j : Nat) (b : List Byte) : State :=
  let w := bytesToWords 4 b
  let w0 := w.getD 0 0
  let d := b.drop 16
  let nq := byteAt d 5
  if fld w0 31 29 ≠ 2 ∨ fld w0 28 28 = 1 ∨ s.imgState j ≠ 0 then s
  else
    let ents := (d.drop (64 + 4 * nq)).take (b.length - 16 - 64 - 4 * nq - 8 * nq)
    let qw := d.drop (64 + 4 * nq + ents.length)
    let codeK := field d 8 4
    let dataK := field d 12 4
    let (r, s) := s.draw
    let (r2, s) := s.draw
    let (bid, s) := s.draw
    let ca := r % max 1 (s.genEnd - codeK * 1024)
    let da := r2 % max 1 (s.genEnd - dataK * 1024)
    let (qs, s) := (List.range nq).foldl (fun (a : List Nat × State) i =>
      match (List.range 256).find? (fun q => decide (a.2.qState q = 0)) with
      | none => a
      | some q => (a.1 ++ [q], (a.2.setReg (aQueue 0 q 0) (BitVec.ofNat 32 (field qw (8 * i) 4))).setReg
          (aQueue 0 q 1) (BitVec.ofNat 32 (field qw (8 * i + 4) 4)))) ([], s)
    let rsv := (List.range 5).map (fun k => field d (16 + 4 * k) 4)
    let pin := byteAt d 4
    let s := (s.loadBobs j ((List.range 5).map (fun k => (k, rsv.getD k 0))) (if pin = 0 then List.range 8 else bitList 8 pin)).getD s
    let free := ((List.range 8192).filter (fun x => (s.src x).image.isNone)).take (fld (w.getD 1 0) 31 16)
    let s := free.foldl (fun s x => s.setSrc x { s.src x with image := some j }) s
    let slots := bitList 32 (fld (w.getD 2 0) 31 0)
    let s := slots.foldl (fun (s : State) n => { s with seq := { s.seq with
      reserved := tabSet (fun _ => none) s.seq.reserved n (some j) } }) s
    let s := s.setRegs (aImage j 0) [w0 &&& 0xFFFF0000#32, w.getD 1 0, w.getD 2 0, w.getD 3 0]
    s.setImage j (some
      { granules := field d 0 2 / 8, codeBase := ca, codeBytes := codeK * 1024, codeKib := codeK, dataBase := da
        dataBytes := dataK * 1024, dataKib := dataK, rsv := rsv, queues := qs, slots := slots, groups := []
        entries := (List.range (ents.length / 16)).map (fun i =>
          (field ents (16 * i) 4, byteAt ents (16 * i + 4), byteAt ents (16 * i + 5), field ents (16 * i + 6) 2))
        reorder := fld (w.getD 1 0) 15 0, reorderUsed := 0, handles := [], bufs := [], library := none
        buildId := bid % 2 ^ 64, bytes := [] })

/-- Install one mirrored group: one that was ARMED is FAILED with FAIL_PATH_LOST, GROUP_FAIL goes to its plan
with the last mirrored EPOCH, its failure is counted, and GROUP_FAILED is raised (R225, R518). -/
def State.groupInstall (s : State) (g : Nat) (b : List Byte) : State :=
  let ctx := bytesToWords 16 b
  if fld (ctx.getD 0 0) 31 29 = 0 then s
  else
    let s := s.setRegs (aGroup g 0) ctx
    let m := s.gMembers g
    let s := s.setRegs (aMemberE (s.gMBase g)) (bytesToWords m (b.drop 64))
    let s := s.setRegs (aPlan (s.gPBase g)) (bytesToWords (s.gPLen g) (b.drop (64 + 4 * m)))
    let epoch := match (s.records 10).find? (fun r => decide (r.1 = g)) with
      | some r => field r.2 0 1
      | none => s.gf g 11 31 24
    let s := s.groupReserve g (s.gWin g)
    let s := (s.setRf (aGroup g 11) 31 24 epoch).setGroup g { groupReset with oldest := epoch }
    if s.gState g = 1 then s.failInstance g epoch stPathLost else s

/-- Install the mirrored slots and their page tables; a slot that is not MIRROR, or is stale, is released
(R518). -/
def State.slotsInstall (s : State) : State :=
  let s := { s with seq := { s.seq with frames := s.seq.frames.filter (fun e => match e.2 with | .slot _ => false | _ => true) } }
  let s := s.clearRegs (fun a => decide (aSlot 0 0 ≤ a) && decide (a < aLen 32 0))
  let s := (s.records 5).foldl (fun s r =>
    let s := s.setRegs (aSlot r.1 0) (bytesToWords 16 r.2)
    let s := s.setRegs (aL1 r.1 0) (bytesToWords 512 (r.2.drop 64))
    s.setRegs (aLen r.1 0) (bytesToWords (s.rf (aSlot r.1 3) 31 16) (r.2.drop 2112))) s
  let s := (s.records 6).foldl (fun s r => s.setPte (r.1 / 2 ^ 27) (r.1 % 2 ^ 23) (field r.2 0 8)) s
  (List.range 32).foldl (fun s n =>
    if s.slotState n = 0 then s
    else
      let s := ((List.range 512).filter (fun i => decide (s.rf (aL1 n i) 31 31 = 1))).foldl (fun s i =>
        s.setFrame (s.rf (aL1 n i) 22 0) (.slot n)) s
      let s := (s.slotPages n).foldl (fun s e => if pteRemote e.2 then s else s.setFrame (pteFrame e.2) (.slot n)) s
      if s.slotState n = 1 ∧ (s.sl n 0 28 28 = 0 ∨ s.sl n 0 26 26 = 1) then s.setRf (aSlot n 0) 31 29 2 else s) s

/-- The device no longer holds the slots, images and groups of its own past. -/
def State.dropResident (s : State) : State :=
  (List.range 64).foldl (fun s i =>
    if s.imgState i = 0 ∨ s.imgService i then s
    else
      let s := (s.poolDrop (fun h => decide (h = .image i))).clearRegs (fun a => decide (aImage i 0 ≤ a) && decide (a ≤ aImage i 3))
      let s := (List.range 256).foldl (fun s q =>
        if s.qState q = 1 ∧ s.qOwner q = i then (s.setReg (aQueue 0 q 0) 0).setReg (aQueue 0 q 1) 0 else s) s
      let s := { s with flows := { s.flows with srcs := s.flows.srcs.filter (fun e => e.2.image ≠ some i) } }
      let s := { s with seq := { s.seq with reserved := s.seq.reserved.filter (fun e => e.2 ≠ some i) } }
      s.setImage i none) s

/-! ### Takeover (R506, R507, R515) -/

/-- TAKEOVER_CLAIM (R506, R515, steps 1 and 2): a standby that is not READY ignores its cause; one whose plinth
is HALTED does not claim (R549). -/
def State.claim (s : State) : State :=
  if s.role ≠ 2 ∨ !s.pairReady then s
  else
    let m := max s.claimReg s.peerClaim
    if m = 0xFFFFFFFF then (s.setLast stExhausted).pairEvent 7
    else
      let s := (s.toRole 3).setReg aClaim (BitVec.ofNat 32 (m + 1))
      let s := (s.dovetailPorts.map (fun p => p / 16)).eraseDups.foldl (fun s c => s.wake (dSw c)) s
      (s.putClaim (m + 1)).takeTables

/-- SELECTOR_SWITCH_DONE (R505, R507, R515, step 3): where light reaches a claiming device, RESYNC goes out on
the ports held for it; on a tie the device keeps only what its side holds. -/
def execSelectorSwitchDone (k st : Nat) (s : State) : Out :=
  if 16 ≤ k ∨ s.rf (aCrt k) 24 24 = 0 ∨ !s.sideband then .next s
  else
    let s := s.setCart k { s.cart k with selStatus := st }
    if s.role = 3 then
      let s := if selTie st then s.bump aDvtErr 7 1 1 else s
      if selMine st then
        .next ((enginePorts k).foldl (fun s p =>
          let x := s.port p
          if x.lstate = .hold ∧ x.txOn ∧ s.rf (aCrt k) 31 28 = 3 ∧ !s.critHeld p then s.sendParams p 10 else s) s)
      else if selTie st then .next (((s.becomeStandby).setLast stClaimTie).pairEvent 6)
      else .next s
    else if s.role = 2 ∧ (s.cart k).claim = some s.claimReg ∧ s.claimReg ≠ 0 ∧ s.allMine ∧ !s.pairReady then
      -- the claim that PAIR_CONFIG presented has won the selectors (R503)
      .next (s.toRole 1)
    else .next s

/-- TAKEOVER_COMPLETE (R515, steps 5 and 6; R518): domains come up as for work, and a port still held
trains cold (R78). -/
def execTakeoverComplete (gap : Nat) (s : State) : Out :=
  if s.role ≠ 3 then .next s
  else
    let s := ((s.setReg aTakeover (BitVec.ofNat 32 gap)).bump aDvtErr 15 8 1).setLast stOk
    let s := (s.setRf aDvt 28 27 0).setRf aDvt 26 26 0
    let s := { s with pair := { s.pair with abdicated := false } }
    let s := s.toRole 1
    let s := (List.range 8).foldl (fun (s : State) c => (((s.wake (dSw c)).wake (dShu c)).wake (dReed c)).wake (dHbm c)) s
    let s := s.dovetailPorts.foldl (fun s p =>
      if (s.port p).lstate = .hold ∧ s.rf (aCrt (p / 8)) 31 28 = 3 ∧ selMine (s.cart (p / 8)).selStatus ∧ !s.critHeld p then
        s.toTrain p
      else s) s
    let s := (s.dropResident).dropGroups
    let s := (s.records 4).foldl (fun s r => s.imageInstall r.1 r.2) s
    let s := (s.records 3).foldl (fun s r => s.groupInstall r.1 r.2) s
    let s := s.slotsInstall
    let s := { s with pair := { s.pair with mirrored := [], rxItems := [] } }
    .next (s.pairEvent 5)

/-- SELECTOR_POLL (R507): an ACTIVE device is deposed when any dovetail cartridge reports the other side. -/
def execSelectorPoll (statuses : List Nat) (s : State) : Out :=
  if !s.sideband then .next s
  else
  let s := s.dovetails.foldl (fun s k =>
    s.setCart k { s.cart k with selStatus := statuses.getD k (s.cart k).selStatus }) s
  if s.role = 1 ∧ !s.allMine then .next (s.becomeStandby.pairEvent 8) else .next s

/-! ### Mirroring: the active (R513, R514, R595) -/

/-- Close the baseline once all of it has been sent. -/
def State.baselineClose (s : State) : State :=
  if s.pair.baseline ∧ s.role = 1 ∧ s.pair.waiting = [] then
    let s := { s with pair := { s.pair with baseline := false } }
    s.pairMsg (opP 5 0 0 s.pair.itemSeq 0 0 0 0) []
  else s

/-- Start a baseline: every mirrored item in full (R514). -/
def State.baselineStart (s : State) : State :=
  let s : State := { s with pair := { s.pair with itemSeq := 0, unacked := [], waiting := [], push := [], baseline := true } }
  let s : State := (s.setRf aDvt 28 27 1).pairEvent 4
  let s : State := s.pairMsg (opP 4 0 0 0 0 0 0 0) []
  let s : State := ((s.mirrorSelf).mirrorPorts).mirrorTrd
  let s : State := (s.routeKeysAny (aRoute 0 0)).foldl (fun (s : State) (i : Nat) => s.mirror 1 i (s.bodyRoute i)) s
  let s : State := ((List.range 1024).filter (fun g => decide (s.rf (aMcast g 8) 31 31 = 1))).foldl (fun s g =>
    s.mirror 2 g (s.bodyMcast g)) s
  let s : State := s.liveGroups.foldl (fun s g => s.mirror 3 g (s.bodyGroup g)) s
  let s : State := ((List.range 64).filter (fun (i : Nat) => decide (s.imgState i = 2) && !s.imgService i)).foldl (fun (s : State) (i : Nat) =>
    (s.pushImage i).mirror 4 i (s.bodyImage i)) s
  let s := ((List.range 32).filter (fun n => decide (s.slotState n = 1))).foldl (fun (s : State) (n : Nat) =>
    let s : State := s.mirrorSlot n
    let s : State := ((List.range 512).filter (fun i => decide (s.rf (aL1 n i) 31 31 = 1))).foldl (fun (s : State) (i : Nat) =>
      s.mirror 6 (n * 2 ^ 27 + 8192 * i) (s.memGet (s.rf (aL1 n i) 22 0 * 65536) 65536)) s
    if s.sl n 0 28 28 = 1 then
      let s : State := s.setRf (aSlot n 0) 26 26 0
      (s.slotPages n).foldl (fun s e =>
        if pteRemote e.2 then s
        else s.pushData (movePieces 17 (.hbm (pteFrame e.2 * 65536)) (.twin (pteFrame e.2 * 65536)) 65536)) s
    else s) s
  s.baselineClose.mirrorPush

/-- An ACTIVE device whose partner is heard as a standby starts a baseline when it has none and its cause
has ended (R514). -/
def State.baselineMay (s : State) (peerRole : Nat) : State :=
  if s.role = 1 ∧ peerRole = 2 ∧ (s.mirState = 0 ∨ s.mirState = 3) ∧ !s.fallback ∧ s.livePair.isSome then s.baselineStart
  else s

/-- PAIR_MSG of a kind from the partner reaches the device: whether it is one. -/
def State.pairSink (s : State) (port kind : Nat) (pkt : Pkt) : Bool × State :=
  let (ok, s) := s.sink port 0x25 pkt
  (ok && s.paired && decide (hSrc pkt.hdr = s.partner) && decide (byteAt pkt.hdr 16 = kind), s)

/-- PAIR_MSG_ACK (R595): the item is complete on the active; one that waited for room is sent. -/
def execPairMsgAck (port : Nat) (pkt : Pkt) (s : State) : Out :=
  let (ok, s) := s.pairSink port 3 pkt
  let h := pkt.hdr
  match s.pair.unacked.find? (fun m => decide (m.seq = field h 20 4) && decide (m.typ = byteAt h 17) &&
      decide (m.key = field h 24 4)) with
  | none => .next s
  | some m =>
    if !ok ∨ !s.streaming then .next s
    else
      let s := { s with pair := { s.pair with unacked := delFirst (fun x => decide (x.seq = m.seq)) s.pair.unacked } }
      let s := match s.pair.waiting with
        | w :: r => { s.sendItem w with pair := { s.pair with
            waiting := r, unacked := s.pair.unacked ++ [{ w with got := [] }] } }
        | [] => s
      let s := match m.tag with | some t => s.finish t stOk m.reply | none => s
      let s := s.baselineClose
      let s := if s.mirState = 1 ∧ !s.pair.baseline ∧ s.pair.unacked = [] ∧ s.pair.waiting = [] then s.toMirror 2 else s
      .next (s.ownStep.mirrorPush)

/-- MIRROR_ACK_TIMEOUT (R514): the stream has fallen behind.  At a standby whose plinth is HALTED, READY
clears (R549). -/
def execMirrorAckTimeout (s : State) : Out :=
  if s.streaming ∧ s.pair.unacked ≠ [] then .next (s.mirrorStop 3)
  else if s.role = 2 ∧ s.plinth = 2 then .next (s.setRf aDvt 26 26 0)
  else .next s

/-- EPOCH_MIRROR_TIMER (R513): the EPOCH of every group context. -/
def execEpochMirrorTimer (s : State) : Out :=
  if s.streaming then
    .next (s.mirrorPut 10 0 ((List.range 2048).map (fun g => BitVec.ofNat 8 (s.gf g 11 31 24))) none [])
  else .next s

/-! ### Mirroring: the standby (R595) -/

/-- The records of one item body; none when the body does not have its item's form. -/
def itemRecords (typ key : Nat) (b : List Byte) : Option (List (Nat × List Byte)) :=
  let cut (n : Nat) : Option (List (Nat × List Byte)) :=
    if b.length % n = 0 ∧ b ≠ [] then some ((List.range (b.length / n)).map (fun i => (key + i, slice b (n * i) n))) else none
  match typ with
  | 1 => cut 32
  | 2 => cut 64
  | 3 => if 64 ≤ b.length then some [(key, b)] else none
  | 4 => if 16 ≤ b.length then some [(key, b)] else none
  | 5 => if 2112 ≤ b.length then some [(key, b)] else none
  | 6 => cut 8
  | 7 => if b.length = 48 then some [(0, b)] else none
  | 8 => if b.length = 5636 then some [(0, b)] else none
  | 9 => if b.length = 4 then some [(0, b)] else none
  | 10 => cut 1
  | _ => none

/-- The body of an item, once every segment has come. -/
def MirItem.body (m : MirItem) : Option (List Byte) :=
  if (List.range m.segs).all (fun i => m.got.any (fun x => decide (x.1 = i))) then
    some (((List.range m.segs).flatMap (fun i =>
      (m.got.find? (fun x => decide (x.1 = i))).elim [] (fun x => x.2.take 4096))).take m.bytes)
  else none

/-- READY is set once every item that a closed baseline counts has been applied (R514, R595). -/
def State.standbyReady (s : State) : State :=
  match s.pair.baseCount with
  | some n =>
    if s.pair.applied = n ∧ s.role = 2 then
      let s := { s with pair := { s.pair with baseline := false, baseCount := none } }
      let s := (s.setRf aDvt 26 26 1).toMirror 2
      match s.pair.swapTag with
      | some t => { s with pair := { s.pair with swapTag := none } }.finish t stOk []
      | none => s
    else s
  | none => s

/-- Apply one complete item, and acknowledge it. -/
def State.applyItem (s : State) (m : MirItem) (b : List Byte) : State :=
  let s := { s with pair := { s.pair with rxItems := s.pair.rxItems.filter (fun x => x.seq ≠ m.seq) } }
  let (st, s) := match itemRecords m.typ m.key b with
    | none => (stUnsup, s)
    | some l => (stOk, { s with pair := { s.pair with
        mirrored := l.foldl (fun (t : List (Nat × Nat × List Byte)) (r : Nat × List Byte) => putRecord t m.typ r.1 r.2) s.pair.mirrored, applied := s.pair.applied + 1 } })
  let s := if m.typ = 10 then s else s.pairMsg (opP 3 m.typ 0 m.seq m.key 0 st 0) []
  s.standbyReady

/-- Apply every complete item, oldest first; a restarting plinth leaves them waiting (R549). -/
def State.applyItems (s : State) : State :=
  if s.plinth ≠ 0 then s
  else (s.pair.rxItems.filterMap (fun m => m.body.map (fun b => (m, b)))).foldl (fun s x => s.applyItem x.1 x.2) s

/-- PAIR_MSG_ITEM (R595). -/
def execPairMsgItem (port : Nat) (pkt : Pkt) (s : State) : Out :=
  let (ok, s) := s.pairSink port 2 pkt
  let h := pkt.hdr
  let typ := byteAt h 17
  let seq := field h 20 4
  if !ok ∨ s.role ≠ 2 then .next s
  else if typ = 0 ∨ 10 < typ then .next (s.pairMsg (opP 3 typ 0 seq (field h 24 4) 0 stUnsup 0) [])
  else
    let seg := (field h 18 2, pkt.data)
    let l := s.pair.rxItems
    let l := if l.any (fun m => decide (m.seq = seq)) then
        updFirst (fun m => decide (m.seq = seq)) (fun m => { m with got := m.got.filter (fun x => x.1 ≠ seg.1) ++ [seg] }) l
      else l ++ [{ seq := seq, typ := typ, key := field h 24 4, segs := field h 28 2, bytes := field h 32 4
                   got := [seg], tag := none, reply := [] }]
    .next ({ s with pair := { s.pair with rxItems := l } }).applyItems

/-- PAIR_MSG_BASELINE_START (R595). -/
def execPairMsgBaselineStart (port : Nat) (pkt : Pkt) (s : State) : Out :=
  let (ok, s) := s.pairSink port 4 pkt
  if ok ∧ s.role = 2 then
    let s := { s with pair := { s.pair with
      rxItems := [], applied := 0, baseline := true, baseCount := none, mirrored := [], abdicated := false } }
    .next ((s.setRf aDvt 26 26 0).toMirror 1)
  else .next s

/-- PAIR_MSG_BASELINE_END (R595): ITEM_SEQ counts the items of the baseline. -/
def execPairMsgBaselineEnd (port : Nat) (pkt : Pkt) (s : State) : Out :=
  let (ok, s) := s.pairSink port 5 pkt
  if ok ∧ s.role = 2 ∧ s.pair.baseline then
    .next ({ s with pair := { s.pair with baseCount := some (field pkt.hdr 20 4) } }).standbyReady
  else .next s

/-- PAIR_MSG_ABDICATE (R512). -/
def execPairMsgAbdicate (port : Nat) (pkt : Pkt) (s : State) : Out :=
  let (ok, s) := s.pairSink port 1 pkt
  .next (if ok then s.claim else s)

/-! ### Heartbeats received (R509 to R511) -/

/-- A heartbeat from the partner on a path: the path is heard, and what it carries is recorded. -/
def State.heard (s : State) (inband : Bool) (claim flags : Nat) : State :=
  let b := if inband then 25 else 24
  let was := s.rf aDvt b b
  let s := (s.setRf aDvt b b 1).setReg aPeerClaim (BitVec.ofNat 32 claim)
  let s := { s with pair :=
    if inband then { s.pair with peerIn := flags } else { s.pair with peerSide := flags } }
  let s := if was = 0 then s.pairEvent 3 else s
  -- an active in FALLBACK does not mirror (R439): its standby is not READY (R514)
  let s := if s.role = 2 ∧ s.pairReady ∧ bit flags 1 then (s.setRf aDvt 26 26 0).toMirror 3 else s
  if bit flags 2 then s.claim else s

/-- PAIR_HB (R509, R511). -/
def execPairHb (port : Nat) (pkt : Pkt) (s : State) : Out :=
  let (ok, s) := s.sink port 0x24 pkt
  let h := pkt.hdr
  if ok ∧ s.paired ∧ hSrc h = s.partner then
    let role := byteAt h 20
    let s := s.heard true (field h 16 4) (byteAt h 21)
    -- a partner that has taken the slot has heard the abdication
    let s := if role = 1 ∨ role = 3 then { s with pair := { s.pair with abdicated := false } } else s
    .next (s.baselineMay role)
  else .next s

/-- HB_FRAME_RX (R510): a frame with a bad SOF, TYPE or CRC is discarded and counted. -/
def execHbFrameRx (b : List Byte) (s : State) : Out :=
  let typ := byteAt b 1
  if !s.sideband then .next s
  else if b.length ≠ 12 ∨ byteAt b 0 ≠ 0x5A ∨ (typ ≠ 1 ∧ typ ≠ 2) ∨ crc16 (slice b 1 9) ≠ field b 10 2 then
    .next (s.bump aDvtErr 31 16 1)
  else if !s.paired then .next s
  else .next (s.heard false (field b 4 4) (if typ = 2 then byteAt b 3 ||| 4 else byteAt b 3))

/-- HB_PATH_SILENT (R511): an active with both paths silent stops mirroring; a standby claims. -/
def execHbPathSilent (inband : Bool) (s : State) : Out :=
  if !s.paired then .next s
  else
    let b := if inband then 25 else 24
    let s := (s.setRf aDvt b b 0).setRf aDvt 23 23 1
    let s := { s with pair :=
      if inband then { s.pair with peerIn := 0 } else { s.pair with peerSide := 0 } }
    let s := s.pairEvent 2
    if s.rf aDvt 25 24 ≠ 0 then .next s
    else if s.role = 1 then .next (s.mirrorStop 0)
    else
      -- a standby that cannot claim hears no partner now
      let s := s.claim
      .next (if s.role = 2 then (s.setRf aDvt 26 26 0).toMirror 0 else s)

/-! ### Commands (R503, R519, R522, R523) -/

/-- The refusals of R503, the first row that matches. -/
def State.pairRefusal (s : State) (partner a b claim hb : Nat) : Nat :=
  if s.fallback ∨ s.role = 3 ∨ s.pair.swapTag.isSome then stState
  else if [a, b].any (fun p => decide (128 ≤ p) || decide (s.portRole p ≠ 3)) ∨ hb < 40 ∨ 10000 < hb ∨
      partner = s.selfEid then stUnsup
  else if s.rf aSeqRegion 15 9 = 0 then stState
  else if s.dovetailPorts.any (fun p => decide (s.rf (aHoldLim p) 12 0 < hb + 164)) then stState
  else if claim = s.peerClaim then stClaimTie
  else if s.role = 1 ∧ claim ≤ s.peerClaim then stState
  else stOk

/-- Set the three registers of a pair and take the role they give (R503, R504). -/
def State.pairSet (s : State) (partner a b claim hb : Nat) : State :=
  let old := s.pairPorts
  let s := s.setReg aDvtCfg (BitVec.ofNat 32 (partner * 2 ^ 16 + b * 2 ^ 8 + a))
  let s := (s.setReg aClaim (BitVec.ofNat 32 claim)).setRf aHbCfg 15 0 hb
  if partner = 0xFFFF then
    let was := s.role
    let s := old.foldl (fun s p => s.setRf (aPortCfg p) 4 4 0) s
    let s := (s.mirrorStop 0).setRf aDvt 26 26 0
    let s := if was = 0 then s else s.toRole 0
    if was = 2 then s.dovetailPorts.foldl (fun s p => s.portDark p) s else s
  else
    let s := s.holdKeep.putClaim claim
    -- a port that is named no longer is a PAIR port in quarantine again
    let s := (old.filter (fun p => !s.pairPorts.contains p)).foldl (fun s p => s.setRf (aPortCfg p) 4 4 0) s
    let s := s.pairPorts.foldl (fun s p => if (s.port p).lstate = .active then s.pairFwd p else s) s
    if s.allMine then (if s.role = 1 then s else s.toRole 1)
    else if s.role = 2 then s
    else s.becomeStandby

/-- PAIR_CONFIG (R503). -/
def execPairConfig (tag : Nat) (s : State) : Out :=
  match s.cmd tag 0x0A01 with
  | none => .next s
  | some p =>
    let b := p.payload
    if b.length ≠ 10 then .next ((s.setLast stUnsup).finish tag stUnsup [])
    else
      let st := s.pairRefusal (field b 0 2) (byteAt b 2) (byteAt b 3) (field b 4 4) (field b 8 2)
      let s := s.setLast st
      if st ≠ stOk then .next (s.finish tag st [])
      else .next ((s.pairSet (field b 0 2) (byteAt b 2) (byteAt b 3) (field b 4 4) (field b 8 2)).finish tag stOk [])

/-- PAIR_STATUS (R493, chapter 18, Registers). -/
def execPairStatus (tag : Nat) (s : State) : Out :=
  .next (s.serve tag 0x0A02 16 (fun b => b.isEmpty) (fun s _ => (s, stOk, s.regBytes aDvt 4)))

/-- PAIR_SWAP (R519, step 1). -/
def execPairSwap (tag : Nat) (s : State) : Out :=
  match s.cmd tag 0x0A03 with
  | none => .next s
  | some p =>
    let st := if p.payload ≠ [] then stUnsup
      else if s.role ≠ 1 ∨ s.fallback then stState
      else if s.pair.swapTag.isSome then stBusy
      else if !bit s.pair.peerIn 0 ∨ !bit s.pair.peerSide 0 then stNotReady
      else stOk
    let s := s.setLast st
    if st ≠ stOk then .next (s.finish tag st [])
    else
      let s := { s.hold tag with pair := { s.pair with swapTag := some tag } }
      .next (s.dovetailPorts.foldl (fun s p =>
        if (s.port p).lstate = .active then s.askHold p .freeze .lit else s) s)

/-- SWAP_ABDICATE (R519, step 2): every HOLD_ACK and every acknowledgement has come. -/
def execSwapAbdicate (s : State) : Out :=
  if s.pair.swapTag.isSome ∧ s.role = 1 ∧ !s.pair.abdicated ∧ s.pair.unacked = [] ∧ s.pair.waiting = [] ∧
      s.dovetailPorts.all (fun p => decide ((s.port p).lstate ≠ .active) && (s.port p).holdReq.isNone) then
    .next s.abdicate
  else .next s

/-- DVT_ERR_CLEAR (R523). -/
def execDvtErrClear (path : Path) (v : Word) (s : State) : Out :=
  if s.pathOk path ∧ fld v 0 0 = 1 then .next (s.setReg aDvtErr 0) else .next s

end Sys2Proof.Machine
end

