-- ==== Sys2Proof/Machine/Reset.lean ====
section
/-!
DEFINITION. Sys2Proof/Machine/Reset.lean: supplies and clocks, the power-up sequence, secure boot as it
chooses what runs, the kinds of reset, domain requests and exits, and the self-tests (chapters 02 and 21, and
R444 to R446).
-/

namespace Sys2Proof.Machine

/-! ### Firmware state shown in registers (R464, R465) -/

/-- The FIRMWARE event for a component (R494). -/
def State.fwEvent (s : State) (id : Nat) : State :=
  s.event 0x0880 0 (leBytes 1 id ++ s.regBytes (aComp id) 1 ++ s.regBytes aAct 1)

/-- Set STATE, SLOT and SVN of a component. -/
def State.compSet (s : State) (id st slot svn : Nat) : State :=
  ((s.setRf (aComp id) 31 29 st).setRf (aComp id) 28 27 slot).setRf (aComp id) 7 0 svn

/-! ### The boot record and the choice of a slot (R444, R446) -/

/-- A copy of the boot record with a valid CRC. -/
def bootOk (r : List Byte) : Bool := decide (r.length = 32) && decide (crc32c (r.take 28) = field r 28 4)

/-- The boot record in force: the valid copy with the higher SEQ; with none, slot A is active and not on
trial (DESIGN CHOICE, log entry 5). -/
def State.bootBest (s : State) : List Byte :=
  (s.fw.bootRec.filter bootOk).foldl (fun a r => if a = [] ∨ field a 0 4 < field r 0 4 then r else a) []

def bootActive (r : List Byte) : Nat := byteAt r 4 % 2
def bootTrial (r : List Byte) : Bool := decide (byteAt r 5 = 1)
def bootTries (r : List Byte) : Nat := byteAt r 6

/-- Write the boot record over the older copy. -/
def State.bootPut (s : State) (active trial tries : Nat) : State :=
  let old := s.bootBest
  let h := leBytes 4 (field old 0 4 + 1) ++ leBytes 1 active ++ leBytes 1 trial ++ leBytes 1 tries ++ leBytes 21 0
  let rec' := h ++ leBytes 4 (crc32c h)
  { s with fw := { s.fw with bootRec := if old = [] then [rec'] else [rec', old] } }

/-- The bundle of a slot. -/
def State.bundle (s : State) (slot : Nat) : Option (List Byte) := s.fw.slots.getD slot none

/-- A bundle verifies (R445, steps 2 to 4; R448): the key it names is the one whose digest the ROM holds, that key signs
its component table, and every component has the digest that the table gives it. -/
def bundleOk (b : List Byte) : Bool :=
  decide (Config.bundleKey b < 4) && decide (sha384 (Config.bundlePub b) = Config.romKeyDigest (Config.bundleKey b)) &&
    ecdsaOk (Config.bundlePub b) (sha384 (Config.bundleTable b)) (Config.bundleSig b) &&
    (List.range 32).all (fun i => decide (Config.bundleComp b i = []) ||
      decide (sha384 (Config.bundleComp b i) = Config.bundleDigest b i))

/-- A slot holds a bundle that verifies, whose key is not revoked and whose SVN is at least F (R446, R448, R449). -/
def State.slotUsable (s : State) (slot : Nat) : Bool :=
  match s.bundle slot with
  | none => false
  | some b => bundleOk b && !bit s.fw.keyRevoked (Config.bundleKey b) && decide (s.fw.fuseF ≤ Config.bundleSvn b)

/-- The slot that boots: 2 is the golden image. -/
def State.bootPick (s : State) : Nat :=
  let a := bootActive s.bootBest
  if s.pwr.bootSrc then 2
  else if s.slotUsable a then a
  else if s.slotUsable (1 - a) then 1 - a
  else 2

/-- A policy record that this device takes: OWNER_KEY is the fused one, where one is fused, it signs the record, and
SERIAL names no other device (R456). -/
def State.policyOk (s : State) (b : List Byte) : Bool :=
  let owner := slice b 448 96
  (decide (s.fw.ownerDigest = []) || decide (sha384 owner = s.fw.ownerDigest)) &&
    ecdsaOk owner (sha384 (b.take 544)) (slice b 544 96) &&
    (decide (field b 8 8 = 0) || decide (field b 8 8 = Config.serial))

/-- Flags of the policy record in force (R456). -/
def State.policyFlag (s : State) (i : Nat) : Bool := bit (byteAt s.fw.policy 16) i

/-- What SEC_STATE shows of fuses and policy (R468). -/
def State.secShow (s : State) : State :=
  let s := (s.setRf aSec 31 25 s.fw.fuseF).setRf aSec 24 24 (b2n (decide (s.fw.ownerDigest ≠ [])))
  let s := (s.setRf aSec 23 20 s.fw.keyRevoked).setRf aSec 17 17 (b2n (s.policyFlag 1))
  s.setRf aSec 16 16 (b2n (s.policyFlag 0))

/-- The SVN of what a slot boots; that of the golden image is not stated. -/
def State.slotSvn (s : State) (slot : Nat) : Nat × State :=
  match (if slot = 2 then none else s.bundle slot) with
  | some b => (Config.bundleSvn b, s)
  | none => s.draw

/-- What of a bundle component ID would run; none: the golden image. -/
def compOf (b : Option (List Byte)) (id : Nat) : List Byte :=
  match b with | some x => Config.bundleComp x id | none => Config.goldenComp id

/-- The device identity key (R447). -/
def identityKey : List Byte := Config.keyOf (hmac384 Config.uds Config.idLabel)

/-- The keys of a boot of a bundle under a policy record (R445, steps 2 and 5; R447): each layer's secret from the one
below and the digest of what it measures, each alias key from its secret, certified by the key below. -/
def bootKeys (b : Option (List Byte)) (policy : List Byte) : SecKeys :=
  let fw := sha384 (compOf b 0)
  let table := sha384 ((match b with | some x => Config.bundleTable x | none => Config.goldenTable) ++ policy)
  let cdi0 := hmac384 Config.uds fw
  let cdi1 := hmac384 cdi0 table
  let l0 := Config.keyOf cdi0
  let l1 := Config.keyOf cdi1
  { cdi0 := cdi0, l0 := l0, cdi1 := cdi1, l1 := l1
    certs := [Config.certOf identityKey (pubOf l0) fw, Config.certOf l0 (pubOf l1) table] }

/-- Secure boot as far as it fixes state (R445, steps 1 to 5; R446): the slot, the policy, the SEC firmware. -/
def State.secBoot (s : State) : State :=
  let r := s.bootBest
  let s := if bootTrial r then
      (if bootTries r + 1 < 3 then s.bootPut (bootActive r) 1 (bootTries r + 1)
       else s.bootPut (1 - bootActive r) 0 (bootTries r + 1))
    else s
  let slot := s.bootPick
  let trial := bootTrial s.bootBest && decide (slot = bootActive s.bootBest)
  let policy := (s.fw.polRec.find? s.policyOk).getD []
  let s := { s with fw := { s.fw with
    policy := policy, keys := bootKeys (if slot = 2 then none else s.bundle slot) policy } }
  let s := s.setReg aFw (BitVec.ofNat 32 (2 ^ 30 + 2 ^ 29 + b2n (s.policyFlag 0) * 2 ^ 28 +
    b2n (decide (slot = 1)) * 2 ^ 27 + b2n trial * 2 ^ 26))
  let (svn, s) := s.slotSvn slot
  s.secShow.compSet 0 1 slot svn

/-! ### What is lost with the main domains, and what returns to its reset value (R560, R568, R569) -/

/-- Registers of a cluster block that its die's AON island holds (R569). -/
def islandReg (o : Nat) : Bool :=
  (decide (0x20000 ≤ o) && decide (o < 0x20014)) || decide (o = 0x40000) ||
    (decide (0x41000 ≤ o) && decide (o < 0x42000) && decide (o % 16 < 8))

/-- Registers held in the main domains. -/
def mainReg (a : Nat) : Bool :=
  (decide (a < 0x00200000) && !(decide (0x300 ≤ a) && decide (a < 0x320))) ||
    (decide (0x00800000 ≤ a) && decide (a < 0x01000000) && !islandReg (a % 0x00100000)) ||
    (decide (0x02000000 ≤ a) && decide (a < 0x02C00000)) || decide (0x03F00000 ≤ a)

/-- Registers of the AON islands and the AON domain that warm and cold resets reset: port configuration, queue
contexts, the host-owned treadle inputs, PLN_SELFTEST. -/
def warmReg (a : Nat) : Bool :=
  (decide (0x01000000 ≤ a) && decide (a < 0x02000000) &&
    (let o := a % 0x00020000
     decide (o = 0) || (decide (8 ≤ o) && decide (o < 0x2C)) || decide (o = 0x50))) ||
  (decide (0x00800000 ≤ a) && decide (a < 0x01000000) &&
    (let o := a % 0x00100000
     decide (0x41000 ≤ o) && decide (o < 0x42000))) ||
  (decide (aHostReq ≤ a) && decide (a ≤ aGov)) || decide (a = aSelftest)

/-- The firmware state that flash and fuses keep. -/
def Firmware.keep (f : Firmware) : Firmware :=
  { fwReset with
    slots := f.slots, bootRec := f.bootRec, polRec := f.polRec, fuseF := f.fuseF, keyRevoked := f.keyRevoked
    ownerDigest := f.ownerDigest }

/-- The host's own memory keeps what the device wrote to it. -/
def HostIf.keep (h : HostIf) : HostIf := { hostReset with written := h.written, dma := h.dma, msix := h.msix }

/-- The pair agent's records that a stop of the main domains loses. -/
def Pair.stopped (p : Pair) : Pair :=
  { p with
    unacked := [], waiting := [], rxItems := [], applied := 0, baseline := false, baseCount := none, mirrored := []
    push := [], swapTag := none }

/-- The commands that waited for an inspection are lost with the plinth. -/
def State.cartsForget (s : State) : State :=
  (s.carts.map Prod.fst).foldl (fun s k => s.setCart k { s.cart k with inspectBy := none }) s

/-- The state of the main domains is lost (R32, R560).  A device of a pair that had the slot comes back as a
standby (R560), and so does one that RECOVERY showed as UNPAIRED (R546). -/
def State.loseMain (s : State) : State :=
  let s := if s.paired ∧ (s.role = 1 ∨ s.role = 3 ∨ s.plinth = 3) then s.setRf aDvt 31 29 2 else s
  let s := ((s.cartsForget.setRf aDvt 28 26 0).clearRegs mainReg).setRf aClk 31 16 0
  let s := (List.range 16).foldl (fun (s : State) k => s.setRf (aOpt k) 31 31 0) s
  { s with
    ports := [], pools := [], groups := [], mem := [], seq := seqReset, shed := shedReset, ctxs := [], grpCmd := none
    sw := { inq := [], outq := [], sunk := [], nextPid := s.sw.nextPid, e2eSeen := [] }
    flows := { wins := [], srcs := [], ends := [], commitTag := none, drops := ⟨0, 0, 0, 0, 0⟩ }
    host := s.host.keep, fw := s.fw.keep, pair := s.pair.stopped
    trd := { s.trd with deepIdle := false }
    pwr := { s.pwr with
      tests := [], hbmTrained := 0, sramFail := 0, hbmFail := 0, shuOut := [], shuClk := [], bootStep := 3 } }

/-- Every domain but AON. -/
def mainDoms : List Nat := (List.range 51).map (· + 1)

/-- Take every domain but AON OFF in one way. -/
def State.allOff (s : State) (k : OffKind) : State := mainDoms.foldl (fun s d => s.toOff d k) s

/-- Stop every domain but AON at once (R32). -/
def State.stopMain (s : State) : State := s.loseMain.allOff .stop

/-! ### Power-up (R557, R558) -/

/-- Note a reset in PLN_RESET_CAUSE (R565). -/
def State.cause (s : State) (kind source : Nat) : State :=
  let s := (s.setRf aRstCause 31 28 kind).setRf aRstCause 27 24 source
  if kind = 2 ∨ kind = 3 then s.bump aRstCause 23 16 1
  else if kind = 4 then s.bump aRstCause 15 8 1
  else if kind = 5 then s.bump aRstCause 7 0 1
  else s

/-- Step 4 of R557: PLN and SEC go to RUN, and HIO on a lead; a lead whose PERST_N is asserted waits here
(R558). -/
def State.bootStart (s : State) : State :=
  let s := (s.clearRegs warmReg).allOff .idle
  if s.pwr.leadSel ∧ s.pwr.perst then { s with pwr := { s.pwr with bootStep := 3 } }
  else
    let s := { s with pwr := { s.pwr with bootStep := 4 } }
    let s := (s.toDepth dPln .run).toDepth dSec .run
    (if s.pwr.leadSel then s.toDepth dHio .run else s).secBoot

/-- The main supply and VIN_IO allow the main domains, and no trip is latched (R30, R419, R583). -/
def State.mainOk (s : State) : Bool := s.pwr.vinAon && s.pwr.vinIo && s.pwr.vinMain && !s.pwr.thermtrip

/-- A cold reset of the main domains from step 4; the first one after VIN_AON belongs to the full cold reset. -/
def State.coldMain (s : State) (source : Nat) : State :=
  let old := s
  let s := if s.pwr.sampled then s.cause 2 source else s
  let s := { s with pwr := { s.pwr with sampled := true, alertMain := false } }
  s.bootStart.trdShow old

/-- VIN_AON_APPLY (R557, steps 1 and 2; R560): a full cold reset. -/
def execVinAonApply (s : State) : Out :=
  .next { State.reset with pending := s.pending, free := s.free, fw := s.fw.keep, host := s.host.keep }

/-- VIN_AON_LOSS (R583): every domain stops and every output is released. -/
def execVinAonLoss (s : State) : Out :=
  let t := { State.reset with
    pending := s.pending, free := s.free, fw := s.fw.keep, host := s.host.keep
    pwr := { powerReset with vinAon := false, vinIo := s.pwr.vinIo, vinMain := s.pwr.vinMain, bootStep := 0 } }
  .next ((t.allOff .stop).toOff 0 .stop)

/-- VIN_MAIN_LOSS (R32, R512). -/
def execVinMainLoss (s : State) : Out :=
  if s.pwr.vinMain then
    let t := s.abdicate.stopMain
    .next ({ t with pwr := { t.pwr with vinMain := false, alertMain := true } }.trdShow s)
  else .next s

/-- MAIN_POWER_GOOD (R557, step 4; R588): the straps are sampled. -/
def execMainPowerGood (leadSel bootSrc : Bool) (s : State) : Out :=
  if s.pwr.vinAon ∧ !s.pwr.vinMain then
    let s := { s with pwr := { s.pwr with vinMain := true, leadSel := leadSel, bootSrc := bootSrc } }
    -- whether PCIe REFCLK is present at a lead no row says: a free value; 0 on a member (R49)
    let (b, s) := s.draw
    let s := s.setRf aClk 3 3 (if leadSel then b % 2 else 0)
    .next (if s.mainOk then s.coldMain 1 else s)
  else .next s

/-- VIN_IO_LOSS (R583). -/
def execVinIoLoss (s : State) : Out :=
  let t := if s.pwr.vinMain then s.stopMain else s
  .next ({ t with pwr := { t.pwr with vinIo := false, alertMain := t.pwr.alertMain || s.pwr.vinMain } }.trdShow s)

/-- VIN_IO_RETURN (R583): the return counts as a main cold reset. -/
def execVinIoReturn (s : State) : Out :=
  if s.pwr.vinIo then .next s
  else
    let s := { s with pwr := { s.pwr with vinIo := true } }
    .next (if s.mainOk then s.coldMain 1 else s)

/-- The warp and shuttle PLLs have REFCLK_FAB. -/
def State.refOk (s : State) : Bool := s.rf aClk 1 1 = 1

/-- Every PLL locks: those of the clusters, and those of the engines that are not OFF. -/
def State.allLock (s : State) : State :=
  let s := s.setRf aClk 31 16 0xFFFF
  (List.range 16).foldl (fun (s : State) k =>
    if s.isOff (dOpt k) then s
    else (enginePorts k).foldl (fun s p => s.updPort p (fun x => { x with lanePll := 15 })) (s.setRf (aOpt k) 31 31 1)) s

/-- PLL_LOCK_DONE (R557, step 5): at power-up SW and REED leave OFF and their SRAM self-test runs. -/
def execPllLockDone (s : State) : Out :=
  if !s.refOk ∨ s.pwr.bootStep < 4 then .next s
  else
    let first := s.pwr.bootStep = 4
    let s := s.allLock
    if first then
      let s := { s with pwr := { s.pwr with bootStep := 5 } }
      .next ((List.range 8).foldl (fun (s : State) c => (s.wake (dSw c)).wake (dReed c)) s)
    else .next s

/-- CLUSTER_SRAM_BIST_DONE (R557, step 6; R558). -/
def execClusterSramBistDone (c : Nat) (pass : Bool) (s : State) : Out :=
  if s.pwr.bootStep = 5 ∧ c < 8 ∧ (s.dom (dSw c)).exiting then
    let s := if pass then ((s.toDepth (dSw c) .run).toDepth (dReed c) .run).carve c
      else
        let s := { s with pwr := { s.pwr with sramFail := putBits s.pwr.sramFail c c 1 } }
        ((s.toOff (dSw c) .stop).toOff (dShu c) .stop).toOff (dReed c) .stop
    if (List.range 8).all (fun n => !(s.dom (dSw n)).exiting) then
      let s := { s with pwr := { s.pwr with bootStep := 6 } }
      .next ((s.wake (dHbm 0)).wake (dHbm 1))
    else .next s
  else .next s

/-- The outcome of a stack's training (R558, R577). -/
def State.hbmTrain (s : State) (n : Nat) (pass : Bool) : State :=
  if pass then ((s.toDepth (dHbm n) .run).setRf (aHbm n) 31 31 1).setRf (aHbm n) 30 30 0
  else
    let s := { s with pwr := { s.pwr with hbmFail := putBits s.pwr.hbmFail n n 1 } }
    ((s.toOff (dHbm n) .stop).setRf (aHbm n) 31 31 0).setRf (aHbm n) 30 30 1

/-- HBM_PAIR_TRAINED (R557, steps 6 and 7; R558). -/
def execHbmPairTrained (pair : Nat) (pass0 pass1 : Bool) (s : State) : Out :=
  if s.pwr.bootStep = 6 ∧ pair = s.pwr.hbmTrained ∧ pair < 4 then
    let s := (s.hbmTrain (2 * pair) pass0).hbmTrain (2 * pair + 1) pass1
    let s := { s with pwr := { s.pwr with hbmTrained := pair + 1 } }
    if pair = 3 then
      let s := { s with pwr := { s.pwr with bootStep := 7 } }
      .next (if s.role = 2 then s else (List.range 8).foldl (fun (s : State) n => s.sinkTo (dHbm n) .retain) s)
    else .next ((s.wake (dHbm (2 * pair + 2))).wake (dHbm (2 * pair + 3)))
  else .next s

/-- Make a SERVICE image of the running bundle resident at the lowest FREE index (R260, R277). -/
def State.serviceLoad (s : State) (lib : Nat) (b : List Byte) : State :=
  match s.freeImage with
  | none => s
  | some i =>
    let (st, t) := s.imgReserve i 0xFFFF b (some lib)
    if st ≠ stOk then s else (t.imgCopy i).setRf (aImage i 0) 31 29 2

/-- The bundle that runs; none for the golden image. -/
def State.running (s : State) : Option (List Byte) :=
  if s.rf (aComp 0) 28 27 = 2 then none else s.bundle (s.rf aFw 27 27)

/-- The components that a bundle's firmware consists of: 0x00 to 0x0B, the policy record, the SERVICE images. -/
def State.compsRun (s : State) : State :=
  let slot := s.rf (aComp 0) 28 27
  let svn := s.rf (aComp 0) 7 0
  let s := (List.range 12).foldl (fun (s : State) i => s.compSet i 1 slot svn) s
  let s := if s.fw.policy = [] then s else s.compSet 12 1 slot svn
  match s.running with
  | none => s
  | some b => (List.range 16).foldl (fun (s : State) i =>
      if Config.bundleComp b (16 + i) = [] then s else s.compSet (16 + i) 1 slot svn) s

/-- Records that delegates staged are merged into the ring, in their order (R443). -/
def State.mergeLog (s : State) : State :=
  let l := s.fw.staging
  let s := { s with fw := { s.fw with staging := [] } }
  l.foldl (fun (s : State) r =>
    let n := s.fw.logSeq
    let s := { s with fw := { s.fw with
      log := logTrim ({ r with seq := n } :: s.fw.log), logSeq := (n + 1) % 2 ^ 32 } }
    s.setReg aLogHead (BitVec.ofNat 32 ((n + 1) % 2 ^ 32))) s

/-- BOOT_COMPLETE (R441, R445, steps 6 and 7; R446; R451, step 6; R557, steps 8 and 9; R558; R560). -/
def execBootComplete (s : State) : Out :=
  if s.pwr.bootStep = 7 ∧ s.plinth = 1 then
    let golden := s.rf (aComp 0) 28 27 = 2
    let s := { s with pwr := { s.pwr with bootStep := 9 } }
    let s := ((s.setRf aFw 31 30 (if golden then 3 else 0)).setRf aFw 29 29 0).compsRun.mergeLog
    -- in RECOVERY the device presents claim 0 and reports UNPAIRED (R546)
    let s := if golden then (s.putClaim 0).setRf aDvt 31 29 0 else s
    let s := match s.running with
      | none => s
      | some b => (List.range 16).foldl (fun (s : State) i =>
          if Config.bundleComp b (16 + i) = [] then s else s.serviceLoad i (Config.bundleComp b (16 + i))) s
    let s := (bitList 8 s.pwr.sramFail).foldl (fun (s : State) _ => s.event 0x0C80 stOk (leBytes 2 4 ++ leBytes 2 stOk)) s
    -- the components that the slot on trial changes are on PROBATION
    let s := if s.rf aFw 26 26 = 1 then
        let ids := ((List.range 12) ++ (List.range 16).map (fun i => 16 + i)).filter (fun i =>
          decide (compOf s.running i ≠ compOf (s.bundle (1 - s.rf aFw 27 27)) i) &&
            !(decide (16 ≤ i) && decide (compOf s.running i = [])))
        let s := ids.foldl (fun (s : State) i => s.setRf (aComp i) 31 29 4) s
        ({ s with fw := { s.fw with actDone := ids } }.setRf aAct 31 29 5).fwEvent 0
      else s
    .next (if s.paired ∧ !golden then
        s.pairPorts.foldl (fun s p =>
          (s.portCfgSet p (BitVec.ofNat 32 (putBits (putBits (s.rf (aPortCfg p) 31 0) 1 0 3) 2 2 1))).2) s
      else s)
  else .next s

/-! ### REFCLK_FAB and the PLLs (R46 to R48) -/

/-- A caller across the fabric. -/
def Caller.far : Caller → Bool
  | .remote _ _ _ _ _ => true
  | _ => false

/-- The running work items of a cluster end with FAIL_TIMEOUT; a caller across the fabric is told where the switch can
still send, and times out otherwise (R46, R289). -/
def State.shuttlesLost (s : State) (c : Nat) : State :=
  let sends := !s.isOff (dSw c) && decide (s.rf aClk (16 + c) (16 + c) = 1)
  (s.shed.items.filter (fun i => match i.runs with | some x => decide (ctxCluster x = c) | none => false)).foldl
    (fun s i => if sends || !i.caller.far then s.endItem i stTimeout 0 0 0 [] else s.itemGone i) s

/-- REFCLK_FAB_LOSS (R46, R48, R512). -/
def execRefclkFabLoss (s : State) : Out :=
  if !s.refOk then .next s
  else
    let had := s.paired ∧ s.role = 1
    let s := s.abdicate
    let s := { s with pwr := { s.pwr with alertClk := true } }
    -- AON_TRIMMED falls when the last trim is 2 ms old (R49)
    let s := ((s.setRf aClk 0 0 1).setRf aClk 1 1 0).setRf aClk 31 16 0
    let s := s.portsDown (List.range 128) 6
    let s := (List.range 16).foldl (fun (s : State) k =>
      (enginePorts k).foldl (fun s p => s.updPort p (fun x => { x with lanePll := 0 })) (s.setRf (aOpt k) 31 31 0)) s
    let s := (List.range 8).foldl (fun (s : State) c => (s.reedLost c).shuttlesLost c) s
    .next (if had then s.becomeStandby else s)

/-- REFCLK_FAB_RETURN (R48): the PLLs relock, and every port that is DOWN comes back in quarantine. -/
def execRefclkFabReturn (s : State) : Out :=
  if s.refOk then .next s
  else
    let s := { s.setRf aClk 1 1 1 with pwr := { s.pwr with alertClk := false } }
    let s := (List.range 128).foldl (fun (s : State) p =>
      if (s.port p).lstate = .down then (s.setRf (aPortCfg p) 4 4 0).updPort p (fun x => { x with lastPeer := none })
      else s) s
    .next (if 5 ≤ s.pwr.bootStep then s.allLock else s)

/-- A trim comparison against REFCLK_FAB. -/
def State.trim (s : State) : State := { s.setRf aClk 2 2 1 with pwr := { s.pwr with trimAt := s.aon } }

/-- AON_TRIM (R47). -/
def execAonTrim (s : State) : Out := if s.refOk then .next s.trim else .next s

/-- PLL_LOCK_LOSS (R46): kind 0 a cluster's warp PLL, 1 its shuttle PLL, 2 an engine's lane PLL. -/
def execPllLockLoss (kind idx : Nat) (s : State) : Out :=
  if kind = 0 ∧ idx < 8 then
    .next (((s.setRf aClk (16 + idx) (16 + idx) 0).portsDown (clusterPorts idx) 6).reedLost idx)
  else if kind = 1 ∧ idx < 8 then .next ((s.setRf aClk (24 + idx) (24 + idx) 0).shuttlesLost idx)
  else if kind = 2 ∧ idx < 16 then
    .next ((enginePorts idx).foldl (fun s p => s.updPort p (fun x => { x with lanePll := 0 }))
      ((s.setRf (aOpt idx) 31 31 0).portsDown (enginePorts idx) 6))
  else .next s

/-! ### Domains (R40 to R43) -/

/-- The condition under which a domain may be held OFF (R40). -/
def State.offOk (s : State) (d : Nat) : Bool :=
  if dSw 0 ≤ d ∧ d < dShu 0 then
    let c := d - dSw 0
    (clusterPorts c).all s.darkOrOff && (s.pool c).held.isEmpty && (s.pool c).waits.isEmpty
  else if dShu 0 ≤ d ∧ d < dReed 0 then s.shuFree (d - dShu 0)
  else if dReed 0 ≤ d ∧ d < dHbm 0 then decide (s.granHeld (d - dReed 0) = 0)
  else if dHbm 0 ≤ d ∧ d < dOpt 0 then
    !s.genStacks.contains (d - dHbm 0) && decide (s.stackUsed (d - dHbm 0) = 0)
  else if dOpt 0 ≤ d ∧ d < 52 then (enginePorts (d - dOpt 0)).all s.darkOrOff
  else false

/-- A DOMAIN command: the state asked for must be RUN or OFF, of a domain there is. -/
def domainOk (b : List Byte) : Bool :=
  decide (b.length = 2) && decide (byteAt b 0 < 52) && (decide (byteAt b 1 = 0) || decide (byteAt b 1 = 3))

/-- DOMAIN_RUN (R40, R41): a domain that the fabric manager brings up keeps the mark of it, since an engine
so brought up stays at RUN. -/
def execDomainRun (tag : Nat) (s : State) : Out :=
  match s.cmd tag 0x0604 with
  | none => .next s
  | some p =>
    let d := byteAt p.payload 0
    let x := s.dom d
    if !domainOk p.payload then .next (s.finish tag stUnsup [])
    else if byteAt p.payload 1 ≠ 0 then .next s
    else if (x.depth = .off ∧ x.off = .stop) ∨ (d = dHio ∧ !s.pwr.leadSel) then .next (s.finish tag stState [])
    else
      let s := if x.depth = .off then s.setDom d ⟨.off, if dOpt 0 ≤ d then .held else x.off, true⟩ else s.wake d
      .next (s.finish tag stOk [])

/-- DOMAIN_OFF (R40, R41). -/
def execDomainOff (tag : Nat) (s : State) : Out :=
  match s.cmd tag 0x0604 with
  | none => .next s
  | some p =>
    let d := byteAt p.payload 0
    let x := s.dom d
    if !domainOk p.payload then .next (s.finish tag stUnsup [])
    else if byteAt p.payload 1 ≠ 3 then .next s
    else if (x.depth = .off ∧ x.off = .stop) ∨ !s.offOk d then .next (s.finish tag stState [])
    else .next ((s.offNow d .held).finish tag stOk [])

/-- DOMAIN_EXIT_DONE (R42, R394, R425, R577, R578): the domain is at RUN, and the links that wait on it proceed.
A domain under its power-up test waits for that test; an engine whose cartridge is being inspected, or is at
FAULT, does not report RUN. -/
def execDomainExitDone (d : Nat) (s : State) : Out :=
  let x := s.dom d
  let sw := decide (dSw 0 ≤ d) && decide (d < dShu 0)
  let reed := decide (dReed 0 ≤ d) && decide (d < dHbm 0)
  let hbm := decide (dHbm 0 ≤ d) && decide (d < dOpt 0)
  let opt := decide (dOpt 0 ≤ d) && decide (d < 52)
  let cart := s.rf (aCrt (d - dOpt 0)) 31 28
  if !x.exiting ∨ 52 ≤ d ∨ (s.pwr.bootStep = 5 ∧ (sw ∨ reed)) ∨ (s.pwr.bootStep = 6 ∧ hbm) ∨
      (opt ∧ x.depth = .off ∧ (cart = 2 ∨ cart = 5)) then .next s
  else
    let old := s
    let fmRun := opt && decide (x.depth = .off) && decide (x.off = .held)
    let s := s.setDom d ⟨.run, if fmRun then .held else .idle, false⟩
    let s := if hbm ∧ x.depth = .off then s.hbmTrain (d - dHbm 0) true else s
    let s := if opt then
        let k := d - dOpt 0
        let s := if x.depth = .retain then s.bump (aOpt k) 23 16 1 else s
        if s.refOk then
          (enginePorts k).foldl (fun s p => s.updPort p (fun y => { y with lanePll := 15 })) (s.setRf (aOpt k) 31 31 1)
        else s
      else s
    let s := if s.trd.deepIdle then
        ({ s with trd := { s.trd with deepIdle := false } }.wake dPln).wake dSec
      else s
    let ps := if sw then clusterPorts (d - dSw 0) else if opt then enginePorts (d - dOpt 0) else []
    .next ((ps.foldl (fun s p => s.holdExit p) s).trdShow old)

/-! ### Resets while the device works (R559 to R562) -/

/-- Self-tests on the targets that a reset reaches end (R562). -/
def State.testsEnd (s : State) (f : Nat × Nat → Bool) : State :=
  (s.pwr.tests.filter (fun t => f (t.1, t.2.1))).foldl (fun s t => s.testEnd t.1 t.2.1 stPathLost 0 0) s

/-- The cluster that a test's target lies in, for the tests on ports, clusters and shuttles. -/
def testCluster (t : Nat × Nat) : Option Nat :=
  if t.1 = 2 ∨ t.1 = 3 then some (t.2 / 16)
  else if t.1 = 4 ∨ t.1 = 6 then some t.2
  else if t.1 = 5 then some (t.2 / 32)
  else none

/-- The packets of an input or injection queue are lost, those among them that wait in an output queue
with no pick sent. -/
def State.dropQueue (s : State) (q : Nat) : State :=
  let gone (l : List QPkt) : List QPkt := l.filter (fun k => decide (k.inq = q) && decide (k.sent = 0))
  let l := (List.range 7).flatMap (fun v => s.inq q v) ++ s.sw.outq.flatMap (fun e => gone e.2)
  let s := (List.range 7).foldl (fun (s : State) v => s.setInq q v []) s
  let s := { s with sw := { s.sw with outq := s.sw.outq.map (fun e =>
    (e.1, e.2.filter (fun k => ¬ (k.inq = q ∧ k.sent = 0)))) |>.filter (fun e => e.2 ≠ []) } }
  l.foldl (fun (s : State) k =>
    let s := s.pktGone k
    match k.mc with | some m => s.copyGone m | none => s) s

/-- Domains pass through OFF to RUN; one that is held OFF stays so. -/
def State.cycle (s : State) (d : Nat) : State :=
  let x := s.dom d
  if x.depth = .off ∧ x.off = .held ∧ !x.exiting then s else (s.offLoss d).setDom d ⟨.off, .idle, true⟩

/-- The shuttles of a cluster that tests withdrew come back (R563, R566). -/
def State.shuBack (s : State) (c : Nat) : State :=
  let l := s.pwr.shuOut.filter (fun i => decide (i / 32 ≠ c))
  { s.setRf aSelftest 23 16 (min 255 l.length) with pwr := { s.pwr with shuOut := l } }

/-- A cluster's reset: its domains, its failures at power-up, its withdrawn shuttles, its control core. -/
def State.clusterCycle (s : State) (c : Nat) : State :=
  let s := { s with
    pwr := { s.pwr with sramFail := putBits s.pwr.sramFail c c 0 }
    fw := { s.fw with delegates := s.fw.delegates.filter (fun d => decide (d ≠ 3 + c)) } }
  (((s.cycle (dSw c)).cycle (dShu c)).cycle (dReed c)).shuBack c

/-- A resident image's groups, as it declared them: context number, its words, member and plan entries. -/
def State.imageGroups (s : State) : List (Nat × List Word × List Word × List Word) :=
  (List.range 64).flatMap (fun i =>
    match s.image i with
    | none => []
    | some im => im.groups.map (fun g =>
        (g, (List.range 16).map (fun w => s.reg (aGroup g w)),
          (List.range (s.gMembers g)).map (fun m => s.reg (aMemberE (s.gMBase g + m))),
          (List.range (s.gPLen g)).map (fun m => s.reg (aPlan (s.gPBase g + m))))))

/-- Admit an image's group again, at the same context and ranges, with EPOCH 0 (R560). -/
def State.groupAgain (s : State) (x : Nat × List Word × List Word × List Word) : State :=
  let g := x.1
  let s := (s.setRegs (aGroup g 0) x.2.1).setRf (aGroup g 0) 31 29 0
  let s := (s.setRegs (aMemberE (s.gMBase g)) x.2.2.1).setRegs (aPlan (s.gPBase g)) x.2.2.2
  let win := (s.admission g true).2
  (s.groupReserve g win).groupArm g win 0

/-- The tables after a fabric reset: only the LOCAL entry and the lead's entry stay, in both copies (R560). -/
def State.tablesReset (s : State) : State :=
  let keep := ([s.selfEid, s.host.leadEid].filter (fun e => decide (e ≠ 0xFFFF) && s.rtValid e)).map (fun e =>
    (e % 16384, (List.range 8).map (fun w => s.reg (aRoute (e % 16384) w))))
  let s := s.clearRegs (fun a => decide (0x02000000 ≤ a) && decide (a < 0x02120000))
  keep.foldl (fun s x => (s.setRegs (aRoute x.1 0) x.2).setRegs (aRouteSh x.1 0) x.2) s

/-- Commands of the groups and the sequence memory that were in progress end with FAIL_PATH_LOST. -/
def State.planeCmds (s : State) : State :=
  let s := match s.grpCmd with
    | some (_, _, _, some t) => s.finish t stPathLost []
    | _ => s
  let s := s.seq.recalling.foldl (fun s r => match r.tag with | some t => s.finish t stPathLost [] | none => s) s
  { s with grpCmd := none }

/-- A fabric reset (R559, R560, R562). -/
def State.fabricReset (s : State) : State :=
  let had := s.paired ∧ s.role = 1
  let s := (s.abdicate.cause 4 4).testsEnd (fun t => (testCluster t).isSome)
  let s := if s.rf aCommitSt 0 0 = 1 then s.commitEnd 4 stBusy else s
  let s := s.planeCmds
  let s := (List.range 128).foldl (fun (s : State) p => s.setRf (aPortCfg p) 4 4 0) (s.portsDown (List.range 128) 10)
  let gs := s.imageGroups
  let s := ((s.dropWork).dropFlows).poolDrop (fun h => match h with
    | .port _ _ => false
    | .image _ => false
    | _ => true)
  let s := { s with
    groups := [], sw := { s.sw with inq := [], outq := [], sunk := [] }
    seq := { seqReset with reserved := s.seq.reserved, outMask := s.seq.outMask } }
  let s := s.tablesReset.clearRegs (fun a => (decide (0x02200000 ≤ a) && decide (a < 0x02420000)) ||
    (decide (aSlot 0 0 ≤ a) && decide (a < 0x028A0000)) || decide (a = aEvac))
  let s := (s.setRf aGrpSt 31 31 0).setRf aSeqSt 31 31 0
  let s := (List.range 8).foldl (fun (s : State) c => (s.setRf (aGranules c) 27 16 0).clusterCycle c) s
  let s := gs.foldl (fun s x => s.groupAgain x) s
  if had then s.becomeStandby else if s.paired ∧ s.role = 2 then s.receiveAgain else s

/-- The work items placed on a cluster end with no CALL_DONE, and their buffers are freed wherever they lie. -/
def State.dropClusterWork (s : State) (c : Nat) : State :=
  (s.shed.items.filter (fun i => decide (i.cluster = c))).foldl (fun (s : State) it => s.itemGone it) s

/-- A cluster reset (R559, R560, R562). -/
def State.clusterReset (s : State) (c : Nat) : State :=
  let s := (s.cause 5 4).testsEnd (fun t => decide (testCluster t = some c))
  let s := s.portsDown (clusterPorts c) 10
  let s := (s.flows.wins.filter (fun w => decide (w.home = c))).foldl (fun s w => s.winEnd w) s
  let s := s.dropClusterWork c
  let s := ((128 + c) :: clusterPorts c).foldl (fun s q => s.dropQueue q) s
  let x := s.pool c
  let s := s.setPool c { poolReset with rsvs := x.rsvs.filter (fun r => !r.holder.isWork) }
  -- the GROUP_FAILs of R225 are sent by the cluster that comes back
  (s.reedLost c).clusterCycle c

/-- A warm reset (R559, R560, R562). -/
def State.warmReset (s : State) (source : Nat) : State :=
  let old := s
  let s := s.abdicate
  let s := if s.role = 3 then (s.putClaim 0) else s
  let up := (List.range 128).filter (fun p => decide ((s.port p).lstate ≠ .dark))
  let told := s.portsDown up 10
  let s := up.foldl (fun s p => s.updPort p (fun x => { x with
    downCause := 10, lastTx := (told.port p).lastTx })) told.loseMain
  ((s.cause 3 source).bootStart).trdShow old

/-- The payload bytes of a RESET that its kind uses: the cluster and the port may be left off where the
kind names none (DEDUCED, log entry 125). -/
def resetBytes (kind : Nat) : Nat := if kind = 3 then 2 else if kind = 4 then 3 else 1

/-- A RESET command of a kind: none where it is of another kind, or is refused. -/
def State.resetCmd (s : State) (tag kind : Nat) (covered : Prog → Bool) (f : State → Prog → State) : Out :=
  match s.cmd tag 0x0D01 with
  | none => .next s
  | some p =>
    let b := p.payload
    if 3 < b.length ∨ byteAt b 0 = 0 ∨ 4 < byteAt b 0 ∨ b.length < resetBytes (byteAt b 0) then
      .next (s.finish tag stUnsup [])
    else if byteAt b 0 ≠ kind then .next s
    else if (kind = 3 ∧ 8 ≤ byteAt b 1) ∨ (kind = 4 ∧ 128 ≤ byteAt b 2) then .next (s.finish tag stUnsup [])
    else if kind ≠ 1 ∧ s.role = 3 then .next (s.finish tag stState [])
    else if covered p then .next (s.finish tag stOk [])
    else .next (f (s.finish tag stOk []) p)

/-- A cluster passes through OFF in a reset. -/
def State.cycling (s : State) (c : Nat) : Bool := s.isOff (dSw c) && (s.dom (dSw c)).exiting

/-- WARM_RESET (R493, R559): the reply goes out first. -/
def execWarmReset (tag : Nat) (s : State) : Out := s.resetCmd tag 1 (fun _ => false) (fun s _ => s.warmReset 4)

/-- FABRIC_RESET. -/
def execFabricReset (tag : Nat) (s : State) : Out :=
  s.resetCmd tag 2 (fun _ => (List.range 8).all s.cycling) (fun s _ => s.fabricReset)

/-- CLUSTER_RESET. -/
def execClusterReset (tag : Nat) (s : State) : Out :=
  s.resetCmd tag 3 (fun p => s.cycling (byteAt p.payload 1)) (fun s p => s.clusterReset (byteAt p.payload 1))

/-- PORT_RESET: the port goes DOWN, and trains again while its configuration lets it. -/
def execPortReset (tag : Nat) (s : State) : Out :=
  s.resetCmd tag 4 (fun p => s.cycling (byteAt p.payload 2 / 16)) (fun s p =>
    let n := byteAt p.payload 2
    ((s.cause 6 4).testsEnd (fun t => (decide (t.1 = 2) || decide (t.1 = 3)) && decide (t.2 = n))).portDown n 10)

/-- PERST_ASSERT (R470, R558, R559): a warm reset of a lead; a member ignores it. -/
def execPerstAssert (s : State) : Out :=
  let t := { s with pwr := { s.pwr with perst := true } }
  if s.pwr.leadSel ∧ !s.pwr.perst ∧ s.mainOk ∧ 4 ≤ s.pwr.bootStep then .next (t.warmReset 3) else .next t

/-- PERST_DEASSERT (R558): a held power-up goes on from step 4. -/
def execPerstDeassert (s : State) : Out :=
  let t := { s with pwr := { s.pwr with perst := false } }
  if s.pwr.leadSel ∧ s.mainOk ∧ s.pwr.bootStep = 3 then .next (t.bootStart.trdShow s) else .next t

/-! ### Self-tests (R563, R564) -/

/-- The kind of unit that a test's target is: the device, a port, a cluster, a shuttle, a stack, a zone. -/
def testUnit (test : Nat) : Nat :=
  if test = 2 ∨ test = 3 then 2
  else if test = 4 ∨ test = 6 then 4
  else test

/-- Targets of a test. -/
def testTargets (test : Nat) : Nat :=
  if test = 2 ∨ test = 3 then 128
  else if test = 4 ∨ test = 6 ∨ test = 7 then 8
  else if test = 5 then 256
  else if test = 9 then 33
  else 1

/-- Take a SELFTEST command for a test: what the test needs is `ok`, and what starting it does is `f`. -/
def State.selftest (s : State) (tag test : Nat) (ok : Nat → Bool) (f : State → Nat → State) : Out :=
  match s.cmd tag 0x0C01 with
  | none => .next s
  | some p =>
    let b := p.payload
    let n := field b 2 2
    -- the lanes of a port are its control core's, and the command waits for it (R437)
    if test = 2 ∧ field b 0 2 = 2 ∧ n < 128 ∧ s.ctlDown (n / 16) then .next s else
    if b.length ≠ 4 ∨ field b 0 2 = 0 ∨ 9 < field b 0 2 then .next (s.finish tag stUnsup [])
    else if field b 0 2 ≠ test then .next s
    else if testTargets test ≤ n then .next (s.finish tag stUnsup [])
    else if s.fallback then .next (s.finish tag stState [])
    else if s.pwr.tests.any (fun t => decide (testUnit t.1 = testUnit test) && decide (t.2.1 = n)) then
      .next (s.finish tag stBusy [])
    else if !ok n then .next (s.finish tag stState [])
    else
      let s := (s.hold tag)
      .next (f { s with pwr := { s.pwr with tests := s.pwr.tests ++ [(test, n, tag)] } } n)

/-- SELFTEST_AON_TRIM. -/
def execSelftestAonTrim (tag : Nat) (s : State) : Out := s.selftest tag 1 (fun _ => s.refOk) (fun s _ => s.trim)

/-- SELFTEST_LANE_CAL: an ACTIVE port lends a lane, or ends the test where it has none to lend (R81). -/
def execSelftestLaneCal (tag : Nat) (s : State) : Out :=
  s.selftest tag 2 (fun _ => true) (fun s p =>
    let x := s.port p
    if x.lstate = .active ∨ (x.lstate = .hold ∧ x.txOn) then
      let lane := (bitList 4 x.laneActive).headD 0
      let mask := x.laneActive - 2 ^ lane
      if mask = 0 then s.testEnd 2 p stBusy 0 0 else s.startWidth p mask 2
    else s)

/-- SELFTEST_PORT_LOOP. -/
def execSelftestPortLoop (tag : Nat) (s : State) : Out :=
  s.selftest tag 3 (fun p => decide ((s.port p).lstate = .dark) ||
    (s.inQuar p && (List.range 7).all (fun v => (s.inq p v).isEmpty && (s.outq p v).isEmpty))) (fun s _ => s)

/-- SELFTEST_SRAM_BIST. -/
def execSelftestSramBist (tag : Nat) (s : State) : Out :=
  s.selftest tag 4 (fun c => (clusterPorts c).all s.darkOrOff &&
    s.shed.items.all (fun i => decide (i.cluster ≠ c)) && decide (s.granHeld c = 0)) (fun s _ => s)

/-- SELFTEST_SHU_BIST. -/
def execSelftestShuBist (tag : Nat) (s : State) : Out := s.selftest tag 5 (fun _ => true) (fun s _ => s)
/-- SELFTEST_REED_BIST. -/
def execSelftestReedBist (tag : Nat) (s : State) : Out := s.selftest tag 6 (fun _ => true) (fun s _ => s)
/-- SELFTEST_HBM_SCAN. -/
def execSelftestHbmScan (tag : Nat) (s : State) : Out := s.selftest tag 7 (fun _ => true) (fun s _ => s)
/-- SELFTEST_CRYPTO_KAT. -/
def execSelftestCryptoKat (tag : Nat) (s : State) : Out := s.selftest tag 8 (fun _ => true) (fun s _ => s)
/-- SELFTEST_SENSOR_CHECK. -/
def execSelftestSensorCheck (tag : Nat) (s : State) : Out := s.selftest tag 9 (fun _ => true) (fun s _ => s)

/-- Withdraw n free frames of a stack; which ones failed is not stated. -/
def State.withdraw (s : State) (st : Nat) : Nat → State
  | 0 => s
  | n + 1 =>
    if s.stackFree st = 0 then s else (s.takeFrame st .bad).2.withdraw st n

/-- The SEC core restarts (R437). -/
def State.secRestart (s : State) : State :=
  let s := s.bump aSec 7 0 1
  if s.fw.delegates.contains 0 then s else { s with fw := { s.fw with delegates := s.fw.delegates ++ [0] } }

/-- SELFTEST_DONE (R563, R564): what a test leaves behind, then its event and its reply.  Tests 0x04 to 0x07
do not end while a safety flag is set or a takeover runs. -/
def execSelftestDone (test target errors detail : Nat) (s : State) : Out :=
  if !s.pwr.tests.any (fun t => decide (t.1 = test) && decide (t.2.1 = target)) ∨
      (4 ≤ test ∧ test ≤ 7 ∧ (s.emergency ∨ s.role = 3)) ∨ (test = 2 ∧ s.ctlDown (target / 16)) ∨
      (test = 5 ∧ s.shed.items.any (fun i => match i.runs with | some x => decide (x / 4 = target) | none => false)) then .next s
  else
    let s :=
      if test = 2 then
        let x := s.port target
        let good := sumNat ((bitList 4 x.laneFailed).map (fun i => if bit detail i then 2 ^ i else 0))
        if x.lstate = .dark ∨ s.portRole target = 0 then
          s.setPort target { x with laneFailed := x.laneFailed - good }
        else if x.laneLent ≠ 0 ∨ good ≠ 0 then s.startWidth target (x.laneActive ||| x.laneLent ||| good) 3
        else s
      else if test = 4 ∧ errors ≠ 0 then
        let s := { s with pwr := { s.pwr with sramFail := putBits s.pwr.sramFail target target 1 } }
        ((s.offNow (dSw target) .stop).offNow (dShu target) .stop).offNow (dReed target) .stop
      else if test = 5 ∧ detail = 1 then
        let l := if s.pwr.shuOut.contains target then s.pwr.shuOut else s.pwr.shuOut ++ [target]
        { s.setRf aSelftest 23 16 (min 255 l.length) with pwr := { s.pwr with shuOut := l } }
      else if test = 7 then
        let n := min detail (s.stackFree target)
        (s.withdraw target n).bump aSelftest 15 0 n
      else if test = 8 ∧ errors ≠ 0 then s.secRestart
      else s
    .next (s.testEnd test target stOk errors detail)

end Sys2Proof.Machine
end

