-- ==== Sys2Proof/Machine/Thermal.lean ====
section
/-!
DEFINITION. Sys2Proof/Machine/Thermal.lean: junction sensors, zones and their model, the thermal ladder, the
trip, the coolant check and the leak loop (chapter 15, R414 to R423, R428, R429).  Temperatures are integers in
units of 1/64 °C.
-/

namespace Sys2Proof.Machine

/-! ### Sensors and zones (R414 to R417) -/

/-- A temperature in whole degrees, in the units of the registers. -/
def deg (c : Int) : Int := 64 * c

/-- The sensors of a zone, the domains whose power heats it, and the cluster it is tied to (R414). -/
def zoneSensors (z : Nat) : List Nat :=
  if z < 8 then [4 * z, 4 * z + 1, 4 * z + 2, 4 * z + 3] else [16 + 2 * z, 17 + 2 * z]
def zoneDoms (z : Nat) : List Nat :=
  if z < 8 then [dSw z, dShu z, dReed z]
  else if z < 16 then [dHbm (z - 8)]
  else if z < 32 then [dOpt (z - 16)]
  else [0, dPln, dSec, dHio]
def zoneCluster (z : Nat) : Option Nat :=
  if z < 8 then some z
  else if z < 16 then some (z - 8)
  else if z < 32 then some ((z - 16) / 2)
  else none
/-- The zone of a sensor. -/
def sensorZone (i : Nat) : Nat := if i < 32 then i / 4 else (i - 16) / 2

def State.sensorState (s : State) (i : Nat) : Nat := s.rf (aSensor i) 31 30
def State.sensorTemp (s : State) (i : Nat) : Int := toSigned 16 (s.rf (aSensor i) 15 0)
def State.zoneTemp (s : State) (z : Nat) : Int := toSigned 16 (s.rf (aZone z) 15 0)
def State.rung (s : State) (z : Nat) : Nat := s.rf (aZone z) 31 29

/-- The average of the newest n samples there are, in hundredths of a watt. -/
def avgH (n : Nat) (l : List Nat) : Nat := sumNat (l.take n) / max 1 (l.take n).length

/-- The 100 ms average power of a zone (R415). -/
def State.zonePower (s : State) (z : Nat) : Nat := sumNat ((zoneDoms z).map (fun d => avgH 10000 (s.samples d)))

/-- T_in (R415, R420). -/
def State.tIn (s : State) : Int :=
  if s.thm.inFailed then deg (s.rf aCoolCfg 23 16 : Nat) else toSigned 16 (s.rf aCool 15 0)

/-- T_model (R415): watts in hundredths times RTH in 1/1,024 °C/W. -/
def State.model (s : State) (z : Nat) : Int := s.tIn + ((s.zonePower z * Config.rth z / 1600 : Nat) : Int)

/-- The SENSOR event. -/
def State.sensorEvent (s : State) (i : Nat) : State :=
  s.event 0x0780 0 (leBytes 1 i ++ leBytes 1 (s.sensorState i) ++ leBytes 2 (s.rf (aSensor i) 15 0))

/-- Change a sensor's state, with its event. -/
def State.setSensor (s : State) (i st : Nat) : State :=
  if s.sensorState i = st then s else (s.setRf (aSensor i) 31 30 st).sensorEvent i

/-- A reading in range (R414). -/
def inRange (t : Int) : Bool := decide (deg (-40) ≤ t) && decide (t ≤ deg 150)

/-- Take a sensor's reading. -/
def State.readSensor (s : State) (i : Nat) (t : Int) : State :=
  let s := s.setRf (aSensor i) 15 0 (ofSigned 16 t)
  if inRange t then s else s.setSensor i 2

/-- Form T_zone (R417). -/
def State.formZone (s : State) (z : Nat) : State :=
  let l := zoneSensors z
  let ok := l.filter (fun i => decide (s.sensorState i = 0) || decide (s.sensorState i = 3))
  let m := s.model z + deg 5
  let hot : Int := ok.foldl (fun a i => max a (s.sensorTemp i)) (if ok.length = l.length then deg (-40) else m)
  let s := (s.setRf (aZone z) 15 0 (ofSigned 16 hot)).setRf (aZone z) 28 28 (b2n ok.isEmpty)
  match zoneCluster z with
  | some _ => s
  | none => { s with thm := { s.thm with plinthCap := if ok.isEmpty then 600 else 1200 } }

/-- The clusters limited to 75 W for want of a usable sensor in one of their zones (R417). -/
def State.blindClusters (s : State) : State :=
  let b := sumNat (((List.range 8).filter (fun c => (List.range 32).any (fun z =>
    decide (zoneCluster z = some c) && s.rf (aZone z) 28 28 = 1))).map (fun c => 2 ^ c))
  { s with thm := { s.thm with blindCap := b } }

/-! ### The ladder (R418) -/

/-- A cluster's draw over 1 ms. -/
def State.cluDraw1 (s : State) (c : Nat) : Nat :=
  sumNat ([dSw c, dShu c, dReed c, dHbm c, dOpt (2 * c), dOpt (2 * c + 1)].map (fun d => avgH 100 (s.samples d)))

/-- WARN in a zone tied to a cluster. -/
def State.enterWarn (s : State) (z c : Nat) : State :=
  { s with thm := { s.thm with
    warnCap := tabSet (fun _ => none) s.thm.warnCap z (some (s.cluDraw1 c * 90 / 100)) } }

/-- LIMIT. -/
def State.enterLimit (s : State) : State :=
  { s with thm := { s.thm with limitCap := min 1200 (avgH 10000 s.trd.pkgHist / 100 - 50) } }

/-- EDGE and TRUNK ports. -/
def State.openPorts (s : State) : List Nat :=
  (List.range 128).filter (fun p => decide (s.portRole p = 1) || decide (s.portRole p = 2))

/-- CRIT: every EDGE and TRUNK port enters a FREEZE HOLD-lit.  The ladder acts at every reading, so one that
becomes ACTIVE while CRIT lasts is asked at the next. -/
def State.critHold (s : State) : State :=
  if s.thm.critOn then
    s.openPorts.foldl (fun s p =>
      if (s.port p).lstate = .active ∧ !s.ctlDown (p / 16) ∧ (s.port p).holdReq.map Prod.fst ≠ some .freeze then s.askHold p .freeze .lit
      else s) s
  else s

/-- The rung that a temperature enters. -/
def rungOf (t : Int) : Nat := if deg 110 ≤ t then 3 else if deg 100 ≤ t then 2 else if deg 95 ≤ t then 1 else 0

/-- LIMIT is in force: a zone stands on it or above, or the plinth zone, whose WARN acts as LIMIT, on any rung. -/
def State.limitOn (s : State) : Bool :=
  (List.range 33).any (fun z => decide (2 ≤ s.rung z)) || decide (s.rung 32 ≠ 0)

/-- A zone's reading raises it on the ladder; each rung on the way is entered, LIMIT and CRIT by the first zone. -/
def State.climb (s : State) (z : Nat) : State :=
  let r := s.rung z
  let n := rungOf (s.zoneTemp z)
  if n ≤ r then s
  else
    let was := s.limitOn
    let s := s.setRf (aZone z) 31 29 n
    let s := match zoneCluster z with
      | some c => if r = 0 then s.enterWarn z c else s
      | none => s
    let s := if !was && s.limitOn then s.enterLimit else s
    if n = 3 then { s with thm := { s.thm with critOn := true } } else s

/-- Where THERM_IN is lower than it was, a safety input has come. -/
def State.thermMoved (s old : State) : State := if s.thermIn < old.thermIn then s.safety else s

/-- THERMTRIP_N is asserted: sensor 0x7F stands for a model-based trip, and only the first is recorded (R419,
R512). -/
def State.trip (s : State) (i : Nat) : State :=
  let t := if s.rf aTrip 0 0 = 1 then s else (s.setRf aTrip 7 1 i).setRf aTrip 0 0 1
  let t := { t with pwr := { t.pwr with thermtrip := true } }
  t.abdicate.stopMain.trdShow s

/-- The TRIP rung: what the readings and the zones ask for at 120 °C, a sensor before a model (R418, R419). -/
def State.tripOf (s : State) : Option Nat :=
  match (List.range 82).find? (fun i => decide (s.sensorState i ≠ 2) && decide (deg 120 ≤ s.sensorTemp i)) with
  | some i => some i
  | none => if (List.range 33).any (fun z => decide (deg 120 ≤ s.zoneTemp z)) then some 0x7F else none

/-- THERMAL_SAMPLE (R414, R417 to R419). -/
def execThermalSample (readings : List Int) (s : State) : Out :=
  if !s.pwr.vinAon then .next s
  else
    let old := s
    let s := (List.range 82).foldl (fun (s : State) i => s.readSensor i (readings.getD i (s.sensorTemp i))) s
    let s := (List.range 33).foldl (fun (s : State) z => s.formZone z) s
    let s := ((List.range 33).foldl (fun (s : State) z => s.climb z) s.blindClusters).critHold
    let s := s.thermMoved old
    match s.tripOf with
    | some i => .next (if s.pwr.thermtrip then s else s.trip i)
    | none => .next s

/-- SENSOR_PLAUSIBILITY_TIMER (R416): the sensor's deviation has lasted its time. -/
def execSensorPlausibilityTimer (i : Nat) (s : State) : Out :=
  if 82 ≤ i then .next s
  else
    let t := s.sensorTemp i
    let m := s.model (sensorZone i)
    let st := s.sensorState i
    if st = 2 then .next (if inRange t then s.setSensor i 0 else s)
    else if t < m - deg 12 then .next (s.setSensor i 1)
    else if m + deg 25 < t then .next (s.setSensor i 3)
    else if st = 1 ∧ m + deg 12 < t then .next s
    else .next (s.setSensor i 0)

/-- The zones a rung acts on: those of a cluster at WARN, the plinth zone at WARN, every zone above. -/
def rungZones (rung c : Nat) : List Nat :=
  if rung = 1 then (if c < 8 then (List.range 32).filter (fun z => decide (zoneCluster z = some c)) else [32])
  else List.range 33

/-- The release temperature of a rung. -/
def rungRelease (rung : Nat) : Int := deg (if rung = 1 then 92 else if rung = 2 then 97 else 105)

/-- The limits that the zones' rungs no longer ask for are lifted. -/
def State.liftLimits (s : State) : State :=
  let warn := s.thm.warnCap.filter (fun e => decide (s.rung e.1 ≠ 0))
  { s with thm := { s.thm with
    warnCap := warn, limitCap := if s.limitOn then s.thm.limitCap else 1200
    critOn := s.thm.critOn && (List.range 33).any (fun z => decide (s.rung z = 3)) } }

/-- CRIT is left: a port that it held is woken.  A RESYNC that came meanwhile is acted on.  On a dovetail port
whose link waits for the selectors the other cause goes on; where the selectors came to this side meanwhile, the link is taken up now (R423, R515). -/
def State.critWake (s : State) (p : Nat) : State :=
  let x := s.port p
  if x.lstate ≠ .hold ∨ x.holdReason ≠ .freeze then s
  else if x.resyncMsg.isSome then s.holdExit p
  else if s.dovetailPort p ∧ s.role = 2 then s
  else if s.dovetailPort p ∧ (s.role = 3 ∨ (s.role = 1 ∧ x.lastPeer = none)) then
    if s.rf (aCrt (p / 8)) 31 28 = 3 ∧ selMine (s.cart (p / 8)).selStatus then
      (if s.role = 3 then s.sendParams p 10 else s.toTrain p)
    else s
  else s.wakePort p

/-- RUNG_RELEASE_TIMER (R418): a rung is left; at CRIT the ports are woken. -/
def execRungReleaseTimer (rung c : Nat) (s : State) : Out :=
  let l := rungZones rung c
  if rung = 0 ∨ 3 < rung ∨ l.any (fun z => decide (rung < s.rung z) || decide (rungRelease rung ≤ s.zoneTemp z)) ∨
      l.all (fun z => decide (s.rung z ≠ rung)) then .next s
  else
    let old := s
    let s := l.foldl (fun (s : State) z => if s.rung z = rung then s.setRf (aZone z) 31 29 (rung - 1) else s) s
    let s := s.liftLimits
    let s := if old.thm.critOn ∧ !s.thm.critOn then s.openPorts.foldl (fun s p => s.critWake p) s else s
    .next (s.thermMoved old)

/-- LADDER_STEP_TIMER (R418): the limits in force are lowered where the heat has not gone; the 5 % are of the
limit in force. -/
def execLadderStepTimer (s : State) : Out :=
  let old := s
  let warn := s.thm.warnCap.map (fun e =>
    (e.1, if deg 95 ≤ s.zoneTemp e.1 then e.2.map (fun v => v * 95 / 100) else e.2))
  let hot := (List.range 33).any (fun z => decide (deg 100 ≤ s.zoneTemp z)) || decide (deg 95 ≤ s.zoneTemp 32)
  let s := { s with thm := { s.thm with
    warnCap := warn
    limitCap := if hot ∧ s.limitOn then s.thm.limitCap - 50 else s.thm.limitCap } }
  .next (s.thermMoved old)

/-! ### The trip (R419) -/

/-- A zone stands at 120 °C by its model. -/
def State.modelTrip (s : State) : Bool := (List.range 33).any (fun z => decide (deg 120 ≤ s.zoneTemp z))

/-- THERMTRIP_ASSERT (R419): a comparator, or the treadle core's model (0x7F), which asks a zone at 120 °C. -/
def execThermtripAssert (i : Nat) (s : State) : Out :=
  if !s.pwr.vinAon ∨ (82 ≤ i ∧ ¬ (i = 0x7F ∧ s.modelTrip)) ∨ (i < 82 ∧ s.sensorState i = 2) then .next s
  else .next (s.trip i)

/-- TRIP_LATCH_CLEAR (R419, R429): a FAILED sensor takes no part (R414). -/
def execTripLatchClear (path : Path) (v : Word) (s : State) : Out :=
  if s.pathAny path ∧ fld v 0 0 = 1 ∧ s.rf aTrip 0 0 = 1 ∧
      (List.range 82).all (fun i => decide (s.sensorState i = 2) || decide (s.sensorTemp i < deg 100)) then
    let s := s.setRf aTrip 0 0 0
    let s := { s with pwr := { s.pwr with thermtrip := false } }
    .next (if s.mainOk then s.coldMain 2 else s)
  else .next s

/-! ### Coolant (R414, R420) -/

/-- The COOLANT event. -/
def State.coolantEvent (s : State) : State := s.event 0x0781 0 (s.regBytes aLeak 1)

/-- A thermistor reading in range (R414). -/
def thermistorOk (t : Int) : Bool := decide (deg (-10) ≤ t) && decide (t ≤ deg 90)

/-- COOLANT_SAMPLE (R414, R429). -/
def execCoolantSample (tin tout : Int) (s : State) : Out :=
  if !s.pwr.vinAon then .next s
  else
    let s := (s.setRf aCool 15 0 (ofSigned 16 tin)).setRf aCool 31 16 (ofSigned 16 tout)
    .next { s with thm := { s.thm with inFailed := !thermistorOk tin, outFailed := !thermistorOk tout } }

/-- The check of R420 runs. -/
def State.coolCheck (s : State) : Bool :=
  !s.thm.inFailed && !s.thm.outFailed && decide (20000 ≤ avgH 100000 s.trd.pkgHist)

/-- How the coolant rise compares with the expected one: above, below, or within tolerance.  Both sides are
multiplied by 100 × 100 × COOL_WK, so that no quotient is rounded. -/
def State.coolSide (s : State) : Int :=
  let wk : Int := (s.rf aCoolCfg 15 0 : Nat)
  let tol : Int := (s.rf aCoolCfg 31 24 : Nat)
  let dt : Int := toSigned 16 (s.rf aCool 31 16) - toSigned 16 (s.rf aCool 15 0)
  let p : Int := (avgH 100000 s.trd.pkgHist : Nat)
  let got := dt * 10000 * wk
  if 64 * p * (100 + tol) + 640000 * wk < got then 1
  else if got < 64 * p * (100 - tol) - 640000 * wk then -1
  else 0

/-- COOL_DT_TIMER (R420): 0 and 1 a rise too high or too low for 5 s; 2 and 3 within tolerance for 10 s.  While the
check is stopped nothing is compared, and the flags stay. -/
def execCoolDtTimer (which : Nat) (s : State) : Out :=
  let high := s.rf aLeak 29 29
  let low := s.rf aLeak 28 28
  if which = 0 ∧ s.coolCheck ∧ s.coolSide = 1 ∧ high = 0 then
    .next (s.setRf aLeak 29 29 1).coolantEvent.safety
  else if which = 1 ∧ s.coolCheck ∧ s.coolSide = -1 ∧ low = 0 then .next (s.setRf aLeak 28 28 1).coolantEvent
  else if which = 2 ∧ s.coolCheck ∧ s.coolSide = 0 ∧ high = 1 then
    .next (s.setRf aLeak 29 29 0).coolantEvent
  else if which = 3 ∧ s.coolCheck ∧ s.coolSide = 0 ∧ low = 1 then .next (s.setRf aLeak 28 28 0).coolantEvent
  else .next s

/-! ### The leak loop (R421, R422) -/

/-- The band of a loop resistance: 0 DRY, 1 WET, 2 OPEN, 3 SHORT. -/
def leakBand (ohms : Nat) : Nat :=
  if ohms < 1000 then 3 else if ohms < 30000 then 1 else if ohms < 100000 then 0 else 2

/-- A new band is registered. -/
def State.newBand (s : State) (b : Nat) : State :=
  let s := (s.setRf aLeak 31 30 b).coolantEvent
  let s := { s with pwr := { s.pwr with alertLoop := decide (2 ≤ b) } }
  if b = 1 then
    let cap := max 200 (min (s.floorSet / 100) (s.rf aLeak 15 0))
    ({ s with trd := { s.trd with leakCap := cap, leakOn := true } }).safety
  else s

/-- LEAK_SAMPLE (R421): a new band is registered after 5 samples in it, one after the other. -/
def execLeakSample (ohms : Nat) (s : State) : Out :=
  if !s.pwr.vinAon then .next s
  else
    let b := leakBand ohms
    let n := if b = s.thm.leakBand then min 5 (s.thm.leakRun + 1) else 1
    let s := { s with thm := { s.thm with leakBand := b, leakRun := n } }
    .next (if n = 5 ∧ s.rf aLeak 31 30 ≠ b then s.newBand b else s)

/-- LEAK_DRY_TIMER (R422): the leak target is lifted. -/
def execLeakDryTimer (s : State) : Out :=
  if s.trd.leakOn ∧ s.rf aLeak 31 30 = 0 then
    .next { s with trd := { s.trd with leakCap := 1200, leakOn := false } }
  else .next s

/-! ### Commands (R428, R429, R493) -/

/-- The zone word, with its fused resistance. -/
def State.zoneWord (s : State) (z : Nat) : Word := putFld (s.reg (aZone z)) 27 16 (Config.rth z)

/-- SENSORS. -/
def execSensors (tag : Nat) (s : State) : Out :=
  .next (s.serve tag 0x0701 0 (fun b => decide (b.length = 2) && decide (1 ≤ byteAt b 1) &&
      decide (byteAt b 0 + byteAt b 1 ≤ 82))
    (fun s p => (s, stOk, s.regBytes (aSensor (byteAt p.payload 0)) (p.items 4 (byteAt p.payload 1)))))

/-- ZONES. -/
def execZones (tag : Nat) (s : State) : Out :=
  .next (s.serve tag 0x0702 140 (fun b => b.isEmpty) (fun s _ => (s, stOk,
    wordsToBytes ((List.range 33).map s.zoneWord) ++ s.regBytes aCool 1 ++ s.regBytes aLeak 1)))

/-- The ranges of THM_COOL_CFG and LEAK_CAP_W (R429). -/
def coolCfgOk (v : Word) : Bool :=
  decide (10 ≤ fld v 31 24 ∧ fld v 31 24 ≤ 90) && decide (20 ≤ fld v 23 16 ∧ fld v 23 16 ≤ 70) &&
    decide (10 ≤ fld v 15 0 ∧ fld v 15 0 ≤ 1000)
def leakCfgOk (v : Word) : Bool := decide (200 ≤ fld v 15 0 ∧ fld v 15 0 ≤ 1200)

/-- COOL_CFG. -/
def execCoolCfg (tag : Nat) (s : State) : Out :=
  .next (s.serve tag 0x0703 0 (fun b => decide (b.length = 6)) (fun s p =>
    let c := BitVec.ofNat 32 (field p.payload 0 4)
    let l := BitVec.ofNat 32 (field p.payload 4 2)
    if coolCfgOk c && leakCfgOk l then ((s.setReg aCoolCfg c).setRf aLeak 15 0 (fld l 15 0), stOk, [])
    else (s, stState, [])))

end Sys2Proof.Machine
end

