-- ==== Sys2Proof/Machine/Cart.lean ====
section
/-!
DEFINITION. Sys2Proof/Machine/Cart.lean: the cable cartridges: the laser interlock, insertion, removal, pulls and
connector inspection (chapter 15, R424 to R427, R430).
-/

namespace Sys2Proof.Machine

/-- STATE of cartridge k: 0 EMPTY, 1 POWERING, 2 INSPECT, 3 READY, 4 REMOVE_OK, 5 FAULT. -/
def State.crtState (s : State) (k : Nat) : Nat := s.rf (aCrt k) 31 28

/-- The CARTRIDGE event. -/
def State.crtEvent (s : State) (k : Nat) : State := s.event 0x0782 0 (leBytes 1 k ++ s.regBytes (aCrt k) 1)

/-- Change STATE, with its event. -/
def State.setCrt (s : State) (k st : Nat) : State := (s.setRf (aCrt k) 31 28 st).crtEvent k

/-- Command the laser, whose light then reaches the engine (R578). -/
def State.laser (s : State) (k b : Nat) : State :=
  let s := (s.setRf (aCrt k) 25 25 b).setRf (aOpt k) 30 30 b
  s.setCart k { s.cart k with laserCmd := decide (b = 1) }

/-- An inspection is over: the commands that asked for it are answered, and RESULT is theirs (R430). -/
def State.inspectEnd (s : State) (k : Nat) : State :=
  match (s.cart k).inspectBy with
  | none => s
  | some l =>
    let s := (s.setRf (aCrt k) 15 8 1).setCart k { s.cart k with inspectBy := none }
    l.foldl (fun s t => s.finish t stOk (s.regBytes (aCrt k) 1)) s

/-- CART_PRESENCE_QUALIFIED (R424, R425, step 5). -/
def execCartPresenceQualified (k : Nat) (s : State) : Out :=
  if k < 16 ∧ s.pwr.vinIo ∧ s.rf (aCrt k) 27 27 = 0 then .next ((s.setRf (aCrt k) 27 26 3).setCrt k 1) else .next s

/-- CART_IDENTITY_READ_DONE (R425, step 6). -/
def execCartIdentityReadDone (k : Nat) (record : List Byte) (valid : Bool) (s : State) : Out :=
  if k < 16 ∧ s.pwr.vinIo ∧ s.crtState k = 1 then
    let s := s.setCart k { s.cart k with record := padTo 64 record }
    if valid then
      let s := (s.setRf (aCrt k) 24 24 (b2n (Config.dovetail (padTo 64 record)))).setCrt k 2
      .next (if s.rf (aCrt k) 24 24 = 1 ∧ s.paired then s.holdKeep else s)
    else .next (s.setCrt k 5)
  else .next s

/-- CART_PULL (R424, R426, R427): the interlock falls, and the engine's ports go DOWN with cause LOCK. -/
def execCartPull (k : Nat) (s : State) : Out :=
  if 16 ≤ k ∨ s.rf (aCrt k) 27 27 = 0 ∨ !s.sideband then .next s
  else
    let was := s.crtState k
    let s := (s.setRf (aCrt k) 27 26 0).laser k 0
    let s := s.portsDown ((enginePorts k).filter (fun p => !s.darkOrOff p)) 1
    let s := if was = 2 then (enginePorts k).foldl (fun s p => s.setReg (aScore p) 0xC0C0) s else s
    let s := s.setCart k { s.cart k with record := [] }
    .next (((s.setRf (aCrt k) 24 24 0).setCrt k 0).inspectEnd k)

/-- A cartridge command: the cartridge and, where a Cuing command asks, its tag; none where the request does
not reach the register or is another one. -/
def State.crtReq (s : State) (src : Src) (n : Nat) : Option (Nat × Option Nat) :=
  match src with
  | .reg path a v =>
    let k := (a - aCrtCtrl 0) / 16
    if s.pathOk path ∧ a = aCrtCtrl k ∧ k < 16 ∧ fld v (n - 1) (n - 1) = 1 then some (k, none) else none
  | .cmd tag =>
    match s.cmd tag 0x0705 with
    | none => none
    | some p => if p.payload.length = 2 ∧ byteAt p.payload 0 < 16 ∧ byteAt p.payload 1 = n then
        some (byteAt p.payload 0, some tag) else none

/-- A CART_CTRL command whose payload breaks its row. -/
def State.crtBad (s : State) (src : Src) : Bool :=
  match src with
  | .reg _ _ _ => false
  | .cmd tag =>
    match s.cmd tag 0x0705 with
    | none => false
    | some p => decide (p.payload.length ≠ 2) || decide (16 ≤ byteAt p.payload 0) ||
        !(decide (byteAt p.payload 1 = 1) || decide (byteAt p.payload 1 = 2))

/-- Refuse a cartridge command. -/
def State.crtRefuse (s : State) (k : Nat) (tag : Option Nat) : State :=
  let s := s.setRf (aCrt k) 15 8 2
  match tag with | some t => s.finish t stState [] | none => s

/-- CART_REMOVE (R425, step 3). -/
def execCartRemove (src : Src) (s : State) : Out :=
  if s.crtBad src then .next (s.answer src stUnsup [])
  else
    match s.crtReq src 1 with
    | none => .next s
    | some (k, tag) =>
      if !s.isOff (dOpt k) then .next (s.crtRefuse k tag)
      else
        let s := ((s.laser k 0).setRf (aCrt k) 26 26 0).setRf (aCrt k) 15 8 1
        let s := (if s.crtState k = 0 then s else s.setCrt k 4).inspectEnd k
        .next (match tag with | some t => s.finish t stOk (s.regBytes (aCrt k) 1) | none => s)

/-- CART_INSPECT (R427): only a cartridge that is READY, or under inspection, can be inspected. -/
def execCartInspect (src : Src) (s : State) : Out :=
  if s.crtBad src then .next (s.answer src stUnsup [])
  else
    match s.crtReq src 2 with
    | none => .next s
    | some (k, tag) =>
      if !(enginePorts k).all s.darkOrOff || !s.atDepth (dOpt k) .run ||
          !(decide (s.crtState k = 3) || decide (s.crtState k = 2)) then .next (s.crtRefuse k tag)
      else
        let s := if s.crtState k = 2 then s else s.setCrt k 2
        let s := match tag with | some t => s.hold t | none => s
        .next (s.setCart k { s.cart k with inspectBy := some ((s.cart k).inspectBy.getD [] ++ tag.toList) })

/-- The score of a fibre from its return loss in whole dB (R427); 256 stands for a fibre that could not be measured,
because light arrives on it or the cartridge was pulled. -/
def fibreScore (db : Nat) : Nat :=
  if 256 ≤ db then 0xC0 else 64 * (if 35 ≤ db then 0 else if 26 ≤ db then 1 else 2) + min 63 db

/-- GRADE of a score is DIRTY (R427). -/
def dirty (score : Nat) : Bool := decide (score / 64 % 4 = 2)

/-- INSPECTION_DONE (R425, step 8; R427): the return losses are given as transmit and receive of each port in turn; the
engine that waited for its inspection reports RUN. -/
def execInspectionDone (k : Nat) (losses : List Nat) (s : State) : Out :=
  let d := s.dom (dOpt k)
  if k < 16 ∧ s.crtState k = 2 ∧ (d.depth = .run ∨ d.exiting) then
    let s := (List.range 8).foldl (fun (s : State) i =>
      s.setReg (aScore (8 * k + i)) (BitVec.ofNat 32
        (fibreScore (losses.getD (2 * i) 256) + fibreScore (losses.getD (2 * i + 1) 256) * 256))) s
    let n := ((losses.take 16).filter (fun x => dirty (fibreScore x))).length
    let s := (s.setRf (aCrt k) 7 0 n).laser k 1
    let s := if d.depth = .off then s.setDom (dOpt k) ⟨.run, d.off, false⟩ else s
    let s := if d.depth = .off ∧ s.refOk then
        (enginePorts k).foldl (fun s p => s.updPort p (fun y => { y with lanePll := 15 })) (s.setRf (aOpt k) 31 31 1)
      else s
    let s := s.setCrt k 3
    let s := (List.range n).foldl (fun (s : State) _ => s.crtEvent k) s
    .next (s.inspectEnd k)
  else .next s

/-- CART_STATUS. -/
def execCartStatus (tag : Nat) (s : State) : Out :=
  .next (s.serve tag 0x0704 64 (fun b => b.isEmpty) (fun s _ =>
    (s, stOk, wordsToBytes ((List.range 16).map (fun k => s.reg (aCrt k))))))

/-- SCORES. -/
def execScores (tag : Nat) (s : State) : Out :=
  .next (s.serve tag 0x0706 0 (fun b => decide (b.length = 2) && decide (byteAt b 0 + byteAt b 1 ≤ 128))
    (fun s p => (s, stOk, s.regBytes (aScore (byteAt p.payload 0)) (p.items 4 (byteAt p.payload 1)))))

/-- CART_IDENTITY (R493): the record as read. -/
def execCartIdentity (tag : Nat) (s : State) : Out :=
  .next (s.serve tag 0x0707 64 (fun b => decide (b.length = 1) && decide (byteAt b 0 < 16)) (fun s p =>
    let k := byteAt p.payload 0
    if s.crtState k = 0 then (s, stState, []) else (s, stOk, padTo 64 (s.cart k).record)))

end Sys2Proof.Machine
end

