-- ==== Sys2Proof/Machine/Firmware.lean ====
section
/-!
DEFINITION. Sys2Proof/Machine/Firmware.lean: faults and restarts of the plinth firmware, FALLBACK, staging and
activation of bundles, the policy record, attestation, debug unlock, the log and the identity commands
(chapter 16).
-/

namespace Sys2Proof.Machine

/-! ### FALLBACK (R436 to R440) -/

/-- The delegates enter FALLBACK, each with its ROM firmware, once a restart of its own is over (R438): the active of a
pair stops mirroring (R439). -/
def State.enterFallback (s : State) : State :=
  let s := s.setRf aFw 29 29 1
  let s := [0, 9, 10, 11].foldl (fun (s : State) i =>
    if s.rf (aComp i) 31 29 = 2 then s else s.setRf (aComp i) 31 29 5) s
  if s.role = 1 ∧ s.mirState ≠ 0 then s.mirrorStop 3 else s

/-- STATE of a component that runs: on PROBATION where the activation on trial changed it (R465). -/
def State.compRunning (s : State) (id : Nat) : Nat := if s.rf aAct 31 29 = 5 ∧ s.fw.actDone.contains id then 4 else 1

/-- The delegates leave FALLBACK, once no application core is halted (R436, R462). -/
def State.leaveFallback (s : State) : State :=
  if s.fw.haltedCores % 16 ≠ 0 ∨ (s.plinth ≠ 0 ∧ s.plinth ≠ 3) then s
  else
    let s := s.setRf aFw 29 29 0
    let s := [0, 9, 10, 11].foldl (fun (s : State) i =>
      if s.rf (aComp i) 31 29 = 5 then s.setRf (aComp i) 31 29 (s.compRunning i) else s) s
    s.mergeLog.applyItems

/-! ### Activation state (R451 to R453) -/

def State.actState (s : State) : Nat := s.rf aAct 31 29
/-- Change the activation state, with its event. -/
def State.setAct (s : State) (st id : Nat) : State := (s.setRf aAct 31 29 st).fwEvent id
/-- Note the status of the last command or activation. -/
def State.setResult (s : State) (st : Nat) : State := s.setRf aAct 15 0 st

/-- A component was being activated when the activation ended: it restarts from the code it had.  The treadle's
hand-over and the load of a SERVICE image leave the old code running. -/
def State.actStop (s : State) : State :=
  match s.fw.actTodo with
  | [] => s
  | k :: _ =>
    if !s.fw.actStarted then s
    else
      let id := if 0x40 ≤ k then 11 else k
      s.setRf (aComp id) 31 29 (if k = 9 ∨ (16 ≤ k ∧ k < 0x40) then 1 else 2)

/-- Begin to revert: the boot record names the previous slot again (R451, step 8). -/
def State.revert (s : State) (result : Nat) : State :=
  let s := s.actStop.bootPut (1 - bootActive s.bootBest) 0 0
  let s := { s with fw := { s.fw with actTodo := [], actStarted := false, revertSt := result } }
  (s.setRf aAct 28 26 0).setAct 6 0

/-- A fault of this component ends the activation: it was activated by it, live or by a boot on trial (R451, step 8). -/
def State.onTrial (s : State) (id : Nat) : Bool :=
  (decide (s.actState = 3) || decide (s.actState = 5)) && s.fw.actDone.contains id

/-! ### Component and kernel faults (R434 to R436) -/

/-- 60 s of the AON count. -/
def sixtySec : Nat := 60 * 96000000

/-- Commands in progress that satisfy f end with FAIL_FW_RESTART. -/
def State.cutCmds (s : State) (f : Prog → Bool) : State :=
  (s.host.prog.filter f).foldl (fun s p => s.finish p.tag stFwRestart []) s

/-- A staging whose command has been cut must be repeated (R435, R450). -/
def State.stageCut (s : State) : State :=
  if s.fw.stageTag.any (fun t => !s.host.prog.any (fun p => decide (p.tag = t))) then
    { s with fw := { s.fw with stage := [], stageLen := 0, stageTag := none } }
  else s

/-- A kernel fault restarts the complex (R436, R440).  One during ACTIVATING does not end the activation, which goes on
through DEFERRED with cause 4 (R455). -/
def State.kernelFault (s : State) (cause : Nat) : State :=
  if s.plinth ≠ 0 ∧ s.plinth ≠ 3 then s
  else
    let times := s.aon :: s.fw.kernTimes.filter (fun t => decide (s.aon < t + sixtySec))
    let trial := decide (s.actState = 5) && s.onTrial 1
    let s := s.log 1 3 cause []
    -- what the scheduler core has, or its fallback responder, goes on (R440, R486)
    let s := (s.cutCmds (fun p => decide (p.server ≠ 10) &&
      !(s.fallback && fallbackServes p.opcode && !p.relayed))).stageCut
    let s := { s with fw := { s.fw with kernTimes := times, compTimes := [] } }
    let s := (s.enterFallback).bump aFw 15 8 1
    let s := ((s.setRf (aComp 1) 26 24 cause).bump (aComp 1) 15 8 1)
    let s := [1, 2, 3, 4, 5, 6, 7, 8].foldl (fun (s : State) i => s.setRf (aComp i) 31 29 2) s
    let s := s.setRf aFw 31 30 1
    -- a component of the complex that was starting starts anew with the activation (R455)
    let s := if s.actState = 3 ∧ s.fw.actTodo.head?.any (fun k => decide (2 ≤ k) && decide (k ≤ 8)) then
        { s with fw := { s.fw with actStarted := false } }
      else s
    let s := if trial then s.revert stFwRestart
      else if s.actState = 3 then (s.setRf aAct 28 26 4).setAct 4 1
      else s
    s.fwEvent 1

/-- A component fault: the component restarts alone; its third within 60 s is a kernel fault (R435). -/
def State.compFault (s : State) (id cause : Nat) : State :=
  if s.plinth ≠ 0 ∧ s.plinth ≠ 3 then s
  else
    let times := (id, s.aon) :: s.fw.compTimes.filter (fun t => decide (s.aon < t.2 + sixtySec))
    let s := { s with fw := { s.fw with compTimes := times } }
    if 3 ≤ (times.filter (fun t => decide (t.1 = id))).length then s.kernelFault cause
    else
      let trial := s.onTrial id
      let s := s.log id 3 cause []
      let s := (s.cutCmds (fun p => decide (p.server = id) && decide (p.phase = 1))).stageCut
      let s := ((s.setRf (aComp id) 31 29 2).setRf (aComp id) 26 24 cause).bump (aComp id) 15 8 1
      let s := (s.bump aFw 7 0 1).fwEvent id
      if trial then s.revert stFwRestart else s

/-- COMPONENT_FAULT (R434, R435): the components of the application cores other than the kernel. -/
def execComponentFault (id cause : Nat) (s : State) : Out :=
  .next (if 2 ≤ id ∧ id ≤ 8 ∧ 1 ≤ cause ∧ cause ≤ 5 then s.compFault id cause else s)

/-- COMPONENT_WATCHDOG (R434). -/
def execComponentWatchdog (id : Nat) (s : State) : Out :=
  .next (if 2 ≤ id ∧ id ≤ 8 then s.compFault id 2 else s)

/-- COMPONENT_RESTART_DONE (R435). -/
def execComponentRestartDone (id : Nat) (s : State) : Out :=
  if 2 ≤ id ∧ id ≤ 8 ∧ s.rf (aComp id) 31 29 = 2 ∧ (s.plinth = 0 ∨ s.plinth = 3) then
    .next ((s.setRf (aComp id) 31 29 (s.compRunning id)).fwEvent id)
  else .next s

/-- CORE_WATCHDOG (R434, R462): a halted core's watchdog is suspended. -/
def execCoreWatchdog (core : Nat) (s : State) : Out :=
  .next (if core < 4 ∧ !bit s.fw.haltedCores core then s.kernelFault 2 else s)

/-- KERNEL_FAULT (R436). -/
def execKernelFault (cause : Nat) (s : State) : Out :=
  .next (if 1 ≤ cause ∧ cause ≤ 5 then s.kernelFault cause else s)

/-- COMPLEX_RESTART_DONE (R436): in RECOVERY the golden image runs again; after the third restart for a fault within
60 s the plinth is HALTED.  The one restart of a LIVE activation of the kernel ends with that step (R452). -/
def execComplexRestartDone (s : State) : Out :=
  if s.plinth = 1 ∧ s.pwr.bootStep = 9 ∧ !(s.fw.actStarted && decide (s.fw.actTodo.head? = some 1)) then
    if 3 ≤ s.fw.kernTimes.length then .next ((s.setRf aFw 31 30 2).fwEvent 1)
    else
    let s := s.setRf aFw 31 30 (if s.rf (aComp 0) 28 27 = 2 then 3 else 0)
    let s := [1, 2, 3, 4, 5, 6, 7, 8].foldl (fun (s : State) i => s.setRf (aComp i) 31 29 (s.compRunning i)) s
    .next (s.leaveFallback.fwEvent 1)
  else .next s

/-! ### The delegate cores (R437) -/

/-- A delegate core restarts: 0 SEC, 1 treadle, 2 scheduler, 3 + n control core n.  It is a fault of its component
(R451, step 8). -/
def State.coreFault (s : State) (d id : Nat) : State :=
  if s.fw.delegates.contains d then s
  else
    let trial := s.onTrial id
    let s := { s with fw := { s.fw with delegates := s.fw.delegates ++ [d] } }
    let s := s.log id 3 2 []
    let s := (((s.setRf (aComp id) 31 29 2).setRf (aComp id) 26 24 2).bump (aComp id) 15 8 1).bump aFw 7 0 1
    let s := s.fwEvent id
    if trial then s.revert stFwRestart else s

/-- SEC_CORE_FAULT. -/
def execSecCoreFault (s : State) : Out :=
  .next (if s.isOff dSec ∨ s.fw.delegates.contains 0 then s else (s.coreFault 0 0).bump aSec 7 0 1)
/-- TREADLE_CORE_FAULT. -/
def execTreadleCoreFault (s : State) : Out := .next (if s.pwr.vinAon then s.coreFault 1 9 else s)
/-- SCHEDULER_CORE_FAULT. -/
def execSchedulerCoreFault (s : State) : Out := .next (if s.pwr.vinAon then s.coreFault 2 10 else s)
/-- CONTROL_CORE_FAULT. -/
def execControlCoreFault (c : Nat) (s : State) : Out :=
  .next (if c < 8 ∧ !s.isOff (dSw c) then s.coreFault (3 + c) 11 else s)

/-- DELEGATE_RESTART_DONE (R437): the treadle resumes from AON retention; its next step latches the inputs that came
meanwhile (R380). -/
def execDelegateRestartDone (d : Nat) (s : State) : Out :=
  if s.fw.delegates.contains d then
    let id := if d = 0 then 0 else if d = 1 then 9 else if d = 2 then 10 else 11
    let s := { s with fw := { s.fw with delegates := s.fw.delegates.filter (fun x => decide (x ≠ d)) } }
    let s := if id = 11 ∧ s.fw.delegates.any (fun x => decide (3 ≤ x)) then s
      else s.setRf (aComp id) 31 29 (if s.fallback then 5 else s.compRunning id)
    let s := if 3 ≤ d then (clusterPorts (d - 3)).foldl (fun s p => s.retireWaiting p) s else s
    .next (s.fwEvent id)
  else .next s

/-! ### Staging (R448 to R450) -/

/-- The slot that does not run; under the golden image the one the boot record does not name (R450). -/
def State.spare (s : State) : Nat := 1 - (if s.rf (aComp 0) 28 27 = 2 then bootActive s.bootBest else s.rf aFw 27 27)

/-- Put a bundle into a slot, or mark it empty. -/
def State.setSlot (s : State) (slot : Nat) (b : Option (List Byte)) : State :=
  { s with fw := { s.fw with slots := setAt s.fw.slots slot b } }

/-- An activation or its trial is under way (R450). -/
def State.actBusy (s : State) : Bool := decide (2 ≤ s.actState)

/-- FW_STAGE (R439, R450, R493). -/
def execFwStage (tag : Nat) (s : State) : Out :=
  match s.cmd tag 0x0801 with
  | none => .next s
  | some p =>
    let b := p.payload
    let ofs := field b 0 4
    let len := field b 4 4
    let data := b.drop 16
    let last := bit (byteAt b 8) 0
    let have_ := if ofs = 0 then 0 else s.fw.stage.length
    if b.length < 16 ∨ 2 ^ 26 < len ∨ ofs ≠ have_ ∨ (ofs ≠ 0 ∧ len ≠ s.fw.stageLen) ∨ len < ofs + data.length ∨
        (last ∧ ofs + data.length ≠ len) then .next (s.finish tag stUnsup [])
    else if s.fallback then .next (s.finish tag stState [])
    else if s.actBusy ∨ s.fw.stageTag.isSome then .next (s.finish tag stBusy [])
    else
      let s := s.setSlot s.spare none
      let s := if s.actState = 1 then s.setAct 0 8 else s
      let s := { s with fw := { s.fw with
        stage := (if ofs = 0 then [] else s.fw.stage) ++ data, stageLen := len } }
      if last then .next { s.hold tag with fw := { s.fw with stageTag := some tag } }
      else .next (s.finish tag stOk [])

/-- The status that a staged bundle comes to (R448, R449). -/
def State.stageStatus (s : State) (b : List Byte) : Nat :=
  if !bundleOk b || bit s.fw.keyRevoked (Config.bundleKey b) then stSignature
  else if Config.bundleSvn b < s.fw.fuseF then stRollback
  else if 64 < Config.bundleSvn b then stUnsup
  else stOk

/-- STAGE_VERIFY_DONE (R448 to R450): checks wait while the SEC core restarts (R437). -/
def execStageVerifyDone (s : State) : Out :=
  match s.fw.stageTag with
  | none => .next s
  | some tag =>
    if s.fw.delegates.contains 0 then .next s
    else
      let st := s.stageStatus s.fw.stage
      let ok := decide (st = stOk)
      let s := s.setSlot s.spare (if ok then some s.fw.stage else none)
      let s := { s with fw := { s.fw with stage := [], stageLen := 0, stageTag := none } }
      let s := (s.setResult st).setAct (if ok then 1 else 0) 8
      .next (s.finish tag st [])

/-! ### Activation (R451 to R455) -/

/-- A component's code differs between the running bundle and the staged one. -/
def State.changed (s : State) (id : Nat) : Bool :=
  decide (compOf s.running id ≠ compOf (s.bundle s.spare) id)

/-- The components of a LIVE activation in their order; 0x40 + n is control core n (R452). -/
def State.actOrder (s : State) : List Nat :=
  let plinth := [2, 3, 4, 5, 6, 7, 8].filter s.changed
  (if s.changed 1 then [1] else plinth) ++
    (if s.changed 11 then (List.range 8).map (fun c => 0x40 + c) else []) ++ [10, 9].filter s.changed ++
    ((List.range 16).map (fun i => 16 + i)).filter s.changed

/-- The component ID of an entry of that order. -/
def actId (k : Nat) : Nat := if 0x40 ≤ k then 11 else k

/-- Why a component may not start, 0 when it may (R453). -/
def State.deferCause (s : State) (k : Nat) : Nat :=
  if s.emergency then 1
  else if (k = 9 ∨ (16 ≤ k ∧ k < 0x40)) ∧ !s.capStable then 2
  else if s.role = 3 ∨ s.pair.swapTag.isSome then 3
  else if s.fallback then 4
  else 0

/-- Count a restart of a component (R464, R465). -/
def State.countRestart (s : State) (id : Nat) : State := (s.bump (aComp id) 15 8 1).bump aFw 7 0 1

/-- Go on with an activation: start its next component, defer it, or enter PROBATION when none is left. -/
def State.actNext (s : State) : State :=
  match s.fw.actTodo with
  | [] =>
    let s := (s.setRf aFw 26 26 1).setRf aFw 27 27 (bootActive s.bootBest)
    (s.setRf aAct 28 21 0).setAct 5 0
  | k :: _ =>
    let id := actId k
    let c := s.deferCause k
    let s := s.setRf aAct 25 21 id
    if c ≠ 0 then
      if s.actState = 4 ∧ s.rf aAct 28 26 = c then s else (s.setRf aAct 28 26 c).setAct 4 id
    else
      let s := (s.setRf aAct 28 26 0).setRf (aComp id) 31 29 3
      let s := { s with fw := { s.fw with actStarted := true } }
      let s := if k = 1 then
          let s := (s.enterFallback.setRf aFw 31 30 1).bump aFw 15 8 1
          let s := { s with fw := { s.fw with
            kernTimes := s.aon :: s.fw.kernTimes.filter (fun t => decide (s.aon < t + sixtySec)) } }
          [2, 3, 4, 5, 6, 7, 8].foldl (fun (s : State) i => s.setRf (aComp i) 31 29 2) s
        else if 0x40 ≤ k then
          { s.countRestart 11 with fw := { s.fw with delegates := s.fw.delegates ++ [3 + (k - 0x40)] } }
        else if k = 10 then { s.countRestart 10 with fw := { s.fw with delegates := s.fw.delegates ++ [2] } }
        else if 2 ≤ k ∧ k ≤ 8 then s.countRestart k
        else s
      s.setAct 3 id

/-- A command of PLN_ACT_CTRL: FORCE and the tag that asks; none when the request is another one. -/
def State.actReq (s : State) (src : Src) (c opcode : Nat) (ok : List Byte → Bool) : Option (Bool × Option Nat) :=
  match src with
  | .reg path a v =>
    if s.pathOk path ∧ s.plnUp ∧ a = aActCtrl ∧ fld v 31 29 = c then some (fld v 28 28 = 1, none) else none
  | .cmd tag =>
    match s.cmd tag opcode with
    | none => none
    | some p => if ok p.payload then some (bit (byteAt p.payload 1) 0, some tag) else none

/-- A command whose payload breaks its row. -/
def State.actBad (s : State) (src : Src) (opcode : Nat) (ok : List Byte → Bool) : Bool :=
  match src with
  | .reg _ _ _ => false
  | .cmd tag => match s.cmd tag opcode with | none => false | some p => !ok p.payload

/-- End a command of PLN_ACT_CTRL with a status. -/
def State.actEnd (s : State) (tag : Option Nat) (st : Nat) : State :=
  let s := s.setResult st
  match tag with | some t => s.finish t st [] | none => s

/-- The payload of FW_ACTIVATE. -/
def activateOk (b : List Byte) : Bool :=
  decide (b.length = 2) && (decide (byteAt b 0 = 1) || decide (byteAt b 0 = 2)) && decide (byteAt b 1 ≤ 1)

/-- A deferral condition holds for some component of the bundle (R453, FORCE). -/
def State.anyDefer (s : State) : Bool := decide (s.deferCause 9 ≠ 0)

/-- The refusals of ACTIVATE (R439, R451, R453). -/
def State.activateStatus (s : State) (live force : Bool) : Nat :=
  if force && s.anyDefer then stState
  else if s.fallback ∨ s.actState ≠ 1 then stState
  else if live && s.changed 0 then stUnsup
  else stOk

/-- ACTIVATE_LIVE (R451, step 3). -/
def execActivateLive (src : Src) (s : State) : Out :=
  if s.actBad src 0x0802 activateOk then .next (s.answer src stUnsup [])
  else
    match s.actReq src 1 0x0802 (fun b => activateOk b && decide (byteAt b 0 = 1)) with
    | none => .next s
    | some (force, tag) =>
      let st := s.activateStatus true force
      if st ≠ stOk then .next (s.actEnd tag st)
      else
        let todo := s.actOrder
        let s := s.bootPut s.spare 1 0
        let s := { s with fw := { s.fw with
          actTodo := todo, actDone := [], actLive := true, actStarted := false, commitOk := false } }
        .next ((s.actEnd tag stOk).actNext)

/-- ACTIVATE_RESET (R451, step 2). -/
def execActivateReset (src : Src) (s : State) : Out :=
  if s.actBad src 0x0802 activateOk then .next (s.answer src stUnsup [])
  else
    match s.actReq src 2 0x0802 (fun b => activateOk b && decide (byteAt b 0 = 2)) with
    | none => .next s
    | some (force, tag) =>
      let st := s.activateStatus false force
      if st ≠ stOk then .next (s.actEnd tag st)
      else
        let s := s.bootPut s.spare 1 0
        let s := { s with fw := { s.fw with
          actTodo := [], actDone := [], actLive := false, actStarted := false, commitOk := false } }
        .next ((s.actEnd tag stOk).setAct 2 0)

/-- Make the SERVICE image of a component that of a bundle: the new one is loaded at a FREE index, and the old
index drains (R452, order 6). -/
def State.serviceSwap (s : State) (id : Nat) (b : List Byte) : State :=
  let old := s.libIndex (id - 16)
  let s := if b = [] then s else s.serviceLoad (id - 16) b
  match old with
  | some i => s.drainImage i none
  | none => s

/-- The SLOT, SVN and STATE of a component after it has been activated or reverted; a SERVICE image that the bundle does
not hold is no component (R465). -/
def State.compTake (s : State) (id st slot : Nat) : State :=
  if 16 ≤ id ∧ compOf (s.bundle slot) id = [] then s.setReg (aComp id) 0
  else s.compSet id st slot (match s.bundle slot with | some b => Config.bundleSvn b | none => s.rf (aComp id) 7 0)

/-- Control core, scheduler core: the entry of `delegates` for a step of an activation. -/
def actDelegate (k : Nat) : Option Nat := if 0x40 ≤ k then some (3 + (k - 0x40)) else if k = 10 then some 2 else none

/-- The control cores share one component register, which is activated with the last of them. -/
def State.compStep (s : State) (k slot : Nat) : State :=
  if k = 1 then ([1, 2, 3, 4, 5, 6, 7, 8]).foldl (fun (s : State) i =>
      if s.fw.actDone.contains i then s.compTake i 4 slot else s.setRf (aComp i) 31 29 1) s
  else if 0x40 ≤ k ∧ k < 0x47 then s
  else s.compTake (actId k) 4 slot

/-- ACTIVATION_COMPONENT_DONE (R451, R452): a component that has started completes whatever condition arises (R453). -/
def execActivationComponentDone (s : State) : Out :=
  match s.fw.actTodo with
  | [] => .next s
  | k :: r =>
    if (s.actState ≠ 3 ∧ s.actState ≠ 4) ∨ !s.fw.actStarted then .next s
    else
      let slot := bootActive s.bootBest
      let b := compOf (s.bundle slot) (actId k)
      let ids := if k = 1 then [1, 2, 3, 4, 5, 6, 7, 8].filter s.changed else [actId k]
      let s := { s with fw := { s.fw with
        actTodo := r, actStarted := false, actDone := ids ++ s.fw.actDone
        delegates := match actDelegate k with
          | some d => s.fw.delegates.filter (fun x => decide (x ≠ d))
          | none => s.fw.delegates } }
      let s := s.compStep k slot
      let s := if k = 1 then (s.setRf aFw 31 30 0).leaveFallback
        else if 16 ≤ k ∧ k < 0x40 then s.serviceSwap k b
        else if 0x40 ≤ k then (clusterPorts (k - 0x40)).foldl (fun s p => s.retireWaiting p) s
        else s
      .next (s.fwEvent (actId k)).actNext

/-- ACTIVATION_RESUME (R451, step 5). -/
def execActivationResume (s : State) : Out := .next (if s.actState = 4 ∧ !s.fw.actStarted then s.actNext else s)

/-- PROBATION_EXPIRE (R451, step 7). -/
def execProbationExpire (s : State) : Out :=
  if s.actState = 5 then
    let s := (s.bootPut (bootActive s.bootBest) 0 0).setRf aFw 26 26 0
    let s := (List.range 32).foldl (fun (s : State) i =>
      if s.rf (aComp i) 31 29 = 4 then s.setRf (aComp i) 31 29 1 else s) s
    let s := { s with fw := { s.fw with actDone := [], actLive := false, commitOk := true } }
    .next ((s.setResult stOk).setAct 0 0)
  else .next s

/-- FW_CANCEL (R451, step 8; R455): R439 does not refuse it. -/
def execFwCancel (src : Src) (s : State) : Out :=
  if s.actBad src 0x0803 (fun b => b.isEmpty) then .next (s.answer src stUnsup [])
  else
    match s.actReq src 3 0x0803 (fun b => b.isEmpty) with
    | none => .next s
    | some (_, tag) =>
      if s.actState < 2 ∨ 5 < s.actState then .next (s.actEnd tag stState)
      else .next ((s.revert stOk).actEnd tag stOk)

/-- REVERT_DONE (R451, step 9): what was activated runs from the previous slot again, newest first; after a boot
on trial that is everything. -/
def execRevertDone (s : State) : Out :=
  if s.actState = 6 then
    let slot := bootActive s.bootBest
    let b := s.bundle slot
    let all := !s.fw.actLive ∧ s.rf aFw 27 27 ≠ slot
    let was := s.running
    let ids := if all then (((List.range 16).map (fun i => 16 + i)).filter (fun i =>
        decide (compOf was i ≠ compOf b i))).reverse ++ (List.range 12).reverse else s.fw.actDone
    let s := ids.foldl (fun (s : State) i =>
      let s := if 16 ≤ i then s.serviceSwap i (compOf b i) else s
      let st := s.rf (aComp i) 31 29
      -- one that still restarts, or runs its ROM firmware in FALLBACK, goes on so
      let s := s.compTake i (if st = 2 ∨ st = 5 then st else 1) slot
      if i < 16 ∧ i ≠ 9 ∧ st ≠ 2 then s.countRestart i else s) s
    let s := (s.setRf aFw 26 26 0).setRf aFw 27 27 slot
    let s := (s.setResult s.fw.revertSt).setAct 0 0
    .next { s with fw := { s.fw with actDone := [], actLive := false, commitOk := false } }
  else .next s

/-- FW_COMMIT (R448, R449, R454). -/
def execFwCommit (src : Src) (s : State) : Out :=
  if s.actBad src 0x0804 (fun b => b.isEmpty) then .next (s.answer src stUnsup [])
  else
    match s.actReq src 4 0x0804 (fun b => b.isEmpty) with
    | none => .next s
    | some (_, tag) =>
      match s.running with
      | none => .next (s.actEnd tag stState)
      | some b =>
        if s.fallback ∨ s.trd.supplyOn ∨ s.actState ≠ 0 ∨ !s.fw.commitOk ∨ Config.bundleSvn b ≤ s.fw.fuseF then
          .next (s.actEnd tag stState)
        else
          let mask := Config.bundleRevoke b % 2 ^ (Config.bundleKey b % 4)
          let s := { s with fw := { s.fw with
            fuseF := min 64 (Config.bundleSvn b), keyRevoked := s.fw.keyRevoked ||| mask, commitOk := false } }
          .next (s.secShow.actEnd tag stOk)

/-- FW_STATUS. -/
def execFwStatus (tag : Nat) (s : State) : Out :=
  .next (s.serve tag 0x0805 136 (fun b => b.isEmpty) (fun s _ =>
    (s, stOk, s.regBytes aFw 1 ++ s.regBytes aAct 1 ++ s.regBytes (aComp 0) 32)))

/-! ### The policy record (R456) -/

/-- POLICY_WRITE: the signature check waits for the SEC core (R437). -/
def execPolicyWrite (tag : Nat) (s : State) : Out :=
  if s.fw.delegates.contains 0 then .next s
  else .next (s.serve tag 0x0806 0 (fun b => decide (b.length = 640) && decide (field b 0 4 = 0x4C50514E) &&
      decide (byteAt b 17 ≤ 4)) (fun s p =>
    let b := p.payload
    if s.fallback then (s, stState, [])
    else if !s.policyOk b then (s, stAuth, [])
    else if field b 4 4 < field s.fw.policy 4 4 then (s, stRollback, [])
    else
      let s := { s with fw := { s.fw with
        polRec := b :: s.fw.polRec.take 1
        ownerDigest := if s.fw.ownerDigest = [] then sha384 (slice b 448 96) else s.fw.ownerDigest } }
      (s.setRf aSec 24 24 1, stOk, [])))

/-! ### Measurements and attestation (R459, R460) -/

/-- The security state, 16 bytes (R460). -/
def State.secBytes (s : State) : List Byte :=
  leBytes 1 s.fw.fuseF ++ leBytes 1 (s.rf aSec 19 18) ++
    leBytes 1 (s.rf aSec 24 24 + 2 * b2n (decide (s.plinth = 3)) + 4 * s.rf aFw 26 26 + 8 * s.rf aFw 27 27 +
      16 * b2n s.sealed + 32 * s.rf aSec 17 17) ++
    leBytes 1 s.fw.keyRevoked ++ leBytes 4 (field s.fw.policy 4 4) ++ leBytes 8 0

/-- Measurement i of R460, 48 bytes; zeros where it is absent. -/
def State.measure (s : State) (i : Nat) : List Byte :=
  let none48 := leBytes 48 0
  if i = 1 then padTo 48 (sha384 Config.secRom)
  else if 2 ≤ i ∧ i ≤ 13 then
    -- a component that an activation skipped has the same code in both slots, and the spare one may be staged anew
    let slot := if s.actBusy then s.rf (aComp (i - 2)) 28 27 else s.rf aFw 27 27
    padTo 48 (sha384 (compOf (if s.rf (aComp (i - 2)) 28 27 = 2 then none else s.bundle slot) (i - 2)))
  else if i = 14 then padTo 48 (sha384 s.fw.policy)
  else if i = 15 then padTo 48 s.secBytes
  else if 16 ≤ i ∧ i < 80 then
    if s.imgService (i - 16) ∧ s.imgState (i - 16) ≠ 0 then
      match s.image (i - 16) with
      | some im => padTo 48 (sha384 (im.bytes.take (field im.bytes 16 4)))
      | none => none48
    else none48
  else none48

/-- DIGEST. -/
def execDigest (tag : Nat) (s : State) : Out :=
  .next (s.serve tag 0x0103 0 (fun b => decide (b.length = 2) && decide (1 ≤ byteAt b 1) && decide (byteAt b 1 ≤ 80))
    (fun s p => (s, stOk, (List.range (p.items 48 (byteAt p.payload 1))).flatMap (fun i =>
      s.measure (byteAt p.payload 0 + i)))))

/-- The request codes that R459 supports: GET_DIGESTS, GET_CERTIFICATE, CHALLENGE, GET_VERSION, GET_MEASUREMENTS,
GET_CAPABILITIES, NEGOTIATE_ALGORITHMS.  The numbers are those of the SPDM standard (PRESUMED, log entry 174). -/
def spdmCodes : List Nat := [0x81, 0x82, 0x83, 0x84, 0xE0, 0xE1, 0xE3]

/-- ERROR UnsupportedRequest in SPDM 1.3 to a request code. -/
def spdmUnsupported (code : Nat) : List Byte := [0x13, 0x7F, 0x07, BitVec.ofNat 8 code]

/-- The answer of the SPDM responder, signed by the L1 alias key (R447, R459): while the SEC core restarts, ERROR
ResponseNotReady (R437). -/
def State.spdm (s : State) (req : List Byte) : List Byte × State :=
  if s.fw.delegates.contains 0 then (Config.spdmNotReady req, s)
  else if !spdmCodes.contains (byteAt req 1) then (spdmUnsupported (byteAt req 1), s)
  else
    let (r, s) := s.draw
    (Config.spdmAnswer r s.fw.keys.l1 (Config.deviceCerts ++ s.fw.keys.certs) ((List.range 80).flatMap s.measure) req, s)

/-- SPDM (R459). -/
def execSpdm (tag : Nat) (s : State) : Out :=
  match s.cmd tag 0x0901 with
  | none => .next s
  | some p =>
    let (a, s) := s.spdm p.payload
    if p.fits a.length then .next (s.finish tag stOk a) else .next (s.finish tag stFit [])

/-- DOE_REQUEST (R459, R477): served on a lead whose function is up; an object is at most 16 KiB. -/
def execDoeRequest (bytes : List Byte) (s : State) : Out :=
  if s.pwr.leadSel ∧ !s.isOff dHio ∧ !s.isOff dSec ∧ s.rf aHioLink 9 9 = 1 ∧ bytes.length ≤ 16384 then
    let (a, s) := s.spdm bytes
    .next { s with host := { s.host with doeOut := s.host.doeOut ++ [a] } }
  else .next s

/-! ### Debug unlock (R461, R462) -/

/-- DEBUG_NONCE: the SEC core draws it. -/
def execDebugNonce (tag : Nat) (s : State) : Out :=
  if s.fw.delegates.contains 0 then .next s
  else .next (s.serve tag 0x0902 48 (fun b => b.isEmpty) (fun s _ =>
    let (r, s) := s.draw
    let n := padTo 48 (Config.freeBytes r 48)
    ({ s with fw := { s.fw with nonce := some n } }, stOk, n)))

/-- A key is a Nymquel debug key whose digest the ROM holds (R461). -/
def debugKeyOk (key : List Byte) : Bool := Config.romDebugDigests.contains (sha384 key)

/-- The checks of a debug token (R461). -/
def State.tokenOk (s : State) (b : List Byte) : Bool :=
  let level := byteAt b 4
  let key := slice b 64 96
  let provisioned := decide (s.fw.ownerDigest ≠ [])
  decide (field b 0 4 = 0x4B544244) && decide (level ≤ 2) && decide (byteAt b 5 ≤ 1) && decide (field b 8 8 = Config.serial) &&
    decide (s.fw.nonce = some (slice b 16 48)) &&
    (if byteAt b 5 = 0 then provisioned && decide (sha384 key = s.fw.ownerDigest) else debugKeyOk key) &&
    ecdsaOk key (sha384 (b.take 160)) (slice b 160 96) &&
    !(decide (level = 1) && !s.policyFlag 2) &&
    !(decide (level = 2) && (decide (byteAt b 5 = 0) || (!s.policyFlag 3 && provisioned)))

/-- Every halted core runs again (R462). -/
def State.unhalt (s : State) : State :=
  let s := { s with fw := { s.fw with haltedCores := 0 } }
  if s.fallback ∧ s.pwr.bootStep = 9 then s.leaveFallback else s

/-- DEBUG_TOKEN: the level takes effect at once, and the nonce is spent; below INVASIVE no core stays halted
(R462). -/
def execDebugToken (tag : Nat) (s : State) : Out :=
  if s.fw.delegates.contains 0 then .next s
  else .next (s.serve tag 0x0903 1 (fun b => decide (b.length = 256)) (fun s p =>
    if s.fallback then (s, stState, [])
    else if !s.tokenOk p.payload then (s, stAuth, [])
    else
      let level := byteAt p.payload 4
      let s := (s.setRf aSec 19 18 level)
      -- an unlock opens the profile; a RELOCK brings the policy's back (R543, R548)
      let s := { s with fw := { s.fw with nonce := none, opened := decide (1 ≤ level) } }
      let s := s.setRf aFw 28 28 (b2n (!s.fw.opened && s.policyFlag 0))
      let s := if level < 2 ∧ s.fw.haltedCores ≠ 0 then s.unhalt else s
      (s, stOk, leBytes 1 level)))

/-- NONCE_EXPIRE. -/
def execNonceExpire (s : State) : Out := .next { s with fw := { s.fw with nonce := none } }

/-- JTAG_HALT (R462): application cores 0 to 3, control cores 4 to 11. -/
def execJtagHalt (core : Nat) (s : State) : Out :=
  if s.pathOk .jtag ∧ core < 12 ∧ !s.isOff (if core < 4 then dPln else dSw (core - 4)) then
    let s := { s with fw := { s.fw with haltedCores := putBits s.fw.haltedCores core core 1 } }
    .next (if core < 4 then s.enterFallback else s)
  else .next s

/-- JTAG_RESUME (R462). -/
def execJtagResume (core : Nat) (s : State) : Out :=
  if s.pathOk .jtag ∧ core < 12 ∧ bit s.fw.haltedCores core then
    let s := { s with fw := { s.fw with haltedCores := putBits s.fw.haltedCores core core 0 } }
    let s : State := if 4 ≤ core then (clusterPorts (core - 4)).foldl (fun (s : State) p => s.retireWaiting p) s else s
    .next (if s.fallback ∧ s.pwr.bootStep = 9 then s.leaveFallback else s)
  else .next s

/-! ### Log, catalogue, identity (R442, R443, R493) -/

/-- PLN_LOG_LOST_CLEAR (R467). -/
def execPlnLogLostClear (path : Path) (v : Word) (s : State) : Out :=
  if s.pathOk path ∧ s.plnUp ∧ !s.sealed ∧ fld v 0 0 = 1 then .next (s.setReg aLogLost 0) else .next s

/-- The 64 bytes of a log record (R442). -/
def LogRec.bytes (r : LogRec) : List Byte :=
  leBytes 8 r.time ++ leBytes 4 r.seq ++ leBytes 1 r.source ++ leBytes 1 r.kind ++ leBytes 2 r.code ++ padTo 48 r.body

/-- LOG_READ: numbers are compared modulo 2^32 as distances behind HEAD_SEQ. -/
def execLogRead (tag : Nat) (s : State) : Out :=
  .next (s.serve tag 0x0B01 10 (fun b => decide (b.length = 6)) (fun s p =>
    if s.sealed then (s, stAuth, [])
    else
      let first := field p.payload 0 4
      let behind := (s.fw.logSeq + 2 ^ 32 - first) % 2 ^ 32
      let held := s.fw.log.length
      let skip := if 2 ^ 31 < behind then 0 else behind - held
      let n := if 2 ^ 31 < behind then 0 else min behind held
      let count := min (min n (field p.payload 4 2)) ((max 96 p.room - 10) / 64)
      let recs := ((s.fw.log.take n).reverse.take count).flatMap LogRec.bytes
      (s, stOk, leBytes 4 ((first + skip) % 2 ^ 32) ++ leBytes 4 skip ++ leBytes 2 count ++ recs)))

/-- TRACE_CATALOGUE. -/
def execTraceCatalogue (tag : Nat) (s : State) : Out :=
  match s.cmd tag 0x0B04 with
  | none => .next s
  | some p =>
    let c := match s.running with | some b => Config.bundleTrace b | none => Config.bundleTrace (Config.goldenComp 0)
    if p.payload ≠ [] then .next (s.finish tag stUnsup [])
    else if s.sealed then .next (s.finish tag stAuth [])
    else if p.fits c.length then .next (s.finish tag stOk c)
    else .next (s.finish tag stFit [])

/-- The Cuing minor revision the device serves (R498). -/
def State.minorRev (s : State) : Nat := s.rf aCuing 23 16

/-- IDENTIFY: a lead names its own SELF_EID as the lead's. -/
def execIdentify (tag : Nat) (s : State) : Out :=
  .next (s.serve tag 0x0101 19 (fun b => b.isEmpty) (fun s _ => (s, stOk,
    leBytes 8 Config.serial ++ leBytes 2 0x5120 ++ leBytes 1 Config.stepping ++ leBytes 1 s.host.memberIdx ++
      leBytes 1 (b2n s.pwr.leadSel + 2 * b2n s.host.bound) ++ leBytes 1 s.minorRev ++ leBytes 2 s.selfEid ++
      leBytes 2 (if s.pwr.leadSel then s.selfEid else s.host.leadEid) ++ leBytes 1 s.plinth)))

/-- VERSION: running slot 2 is the golden image. -/
def execVersion (tag : Nat) (s : State) : Out :=
  .next (s.serve tag 0x0102 36 (fun b => b.isEmpty) (fun s _ =>
    let golden := s.rf (aComp 0) 28 27 = 2
    let svn := match s.running with | some b => Config.bundleSvn b | none => s.rf (aComp 0) 7 0
    (s, stOk, leBytes 1 (if golden then 2 else s.rf aFw 27 27) ++ leBytes 1 svn ++ leBytes 1 s.fw.fuseF ++ leBytes 1 0 ++
      (List.range 32).flatMap (fun i => leBytes 1 (s.rf (aComp i) 7 0)))))

end Sys2Proof.Machine
end

