-- ==== Sys2Proof/Machine/Space.lean ====
section
/-!
DEFINITION. Sys2Proof/Machine/Space.lean: register space as it is read (chapter 22): which addresses are
assigned (R579), which domain holds a register (R568 to R570), and the value every register shows, those
that are composed from the state among them.
-/

namespace Sys2Proof.Machine

/-! ### The map (R567 to R569, R579) -/

/-- a lies in [lo, hi). -/
def within (a lo hi : Nat) : Bool := decide (lo ≤ a) && decide (a < hi)

/-- Assigned addresses of the PLN block. -/
def plnAssigned (a : Nat) : Bool :=
  (decide (a < 0x60) && decide (a % 0x20 ≤ 0x10)) || [0x60, 0x64, 0x400, 0x410, 0x414, 0x420, 0x424].contains a ||
    within a 0x300 0x320 || within a 0x440 0x460 || within a 0x800 0x880 || within a 0x1000 0x1400

/-- Assigned addresses of the TRD, THM, CRT, DVT and CNT blocks. -/
def aonAssigned (a : Nat) : Bool :=
  within a 0x200000 0x200018 || within a 0x200040 0x200050 || within a 0x200080 0x200094 || decide (a = 0x200300) ||
    within a 0x201000 0x201200 || within a 0x300000 0x300010 || within a 0x301000 0x301148 ||
    within a 0x301200 0x301284 || (within a 0x400000 0x400100 && decide (a % 16 < 8)) ||
    within a 0x401000 0x401200 || within a 0x500000 0x50000C || within a 0x500010 0x500020 ||
    [0x600000, 0x600100, 0x600104].contains a || within a 0x600200 0x600300 || within a 0x601000 0x6013C0 ||
    within a 0x610000 0x620000

/-- Assigned offsets of a cluster block. -/
def clusterAssigned (o : Nat) : Bool :=
  within o 0x2000 0x2100 || within o 0x20000 0x20018 || within o 0x20040 0x20098 || within o 0x200A0 0x200B0 ||
    within o 0x30000 0x30008 || within o 0x40000 0x40014 || within o 0x41000 0x42000 || within o 0x50000 0x50088 ||
    within o 0x51000 0x51800 || within o 0x54000 0x56000

/-- Assigned offsets of a port block. -/
def portAssigned (o : Nat) : Bool := within o 0 0x2C || [0x40, 0x44, 0x50].contains o

/-- Assigned addresses of the RTE and SEQ blocks. -/
def rteAssigned (a : Nat) : Bool :=
  within a 0x02000000 0x02120000 || within a 0x02200000 0x02220000 || within a 0x02300000 0x02340000 ||
    within a 0x02400000 0x02420000 || decide (a = 0x027FF000) || within a 0x027FF010 0x027FF01C ||
    within a 0x027FF020 0x027FF04C || within a 0x027FF050 0x027FF06C || within a 0x027FF100 0x027FF108 ||
    within a 0x027FF110 0x027FF118 || within a 0x02800000 0x02800008 || within a 0x02800010 0x02800058 ||
    within a 0x02801000 0x02801800 || within a 0x02810000 0x028A0000

/-- An address holds a register (R571, R579). -/
def assigned (a : Nat) : Bool :=
  decide (a % 4 = 0) &&
    (if a < 0x00100000 then plnAssigned a
     else if a < 0x00200000 then decide (a = aSec)
     else if a < 0x00800000 then aonAssigned a
     else if a < 0x01000000 then clusterAssigned (a % 0x00100000)
     else if a < 0x02000000 then portAssigned (a % 0x00020000)
     else if a < 0x02C00000 then rteAssigned a
     else if a < 0x03000000 then decide (a % 0x00080000 < 8)
     else if a < 0x03800000 then decide (a % 0x00080000 = 0)
     else within a 0x03F00000 0x03F0000C)

/-- The domain that holds an address: 0 for AON and its islands (R568, R569). -/
def heldIn (a : Nat) : Nat :=
  if a < 0x00100000 then (if within a 0x300 0x320 then 0 else dPln)
  else if a < 0x00200000 then dSec
  else if a < 0x00800000 then 0
  else if a < 0x01000000 then
    let n := (a - 0x00800000) / 0x00100000
    let o := a % 0x00100000
    if islandReg o then 0
    else if o < 0x30000 then dSw n
    else if o < 0x40000 then dReed n
    else if o < 0x50000 then dSw n
    else dShu n
  else if a < 0x02000000 then 0
  else if a < 0x02C00000 then dPln
  else if a < 0x03F00000 then 0
  else dHio

/-! ### Composed values -/

/-- PLN_DOMAIN_DEPTH_j (R44). -/
def State.depthWord (s : State) (j : Nat) : Nat :=
  sumNat ((List.range 16).map (fun i => if 16 * j + i < 52 then (s.dom (16 * j + i)).depth.code * 4 ^ i else 0))

/-- ATTACH of PLN_MODE (R25, R26, R547, R550). -/
def State.attach (s : State) : Nat :=
  if s.pwr.leadSel then 0 else if !s.host.bound then 2 else if s.host.cut && !s.leadPath then 3 else 1

/-- The PCIe link is up and the command ring is enabled (R550). -/
def State.hostLink (s : State) : Bool := s.pwr.leadSel && s.rf aHioLink 9 9 = 1 && s.rf (aRing 0 + 8) 31 31 = 1

/-- PLN_MODE (R550). -/
def State.modeWord (s : State) : Nat :=
  s.role * 2 ^ 30 + s.devState * 2 ^ 28 + s.plinth * 2 ^ 26 + b2n s.fallback * 2 ^ 25 + s.attach * 2 ^ 23 +
    b2n s.sealed * 2 ^ 22 + s.rf aSec 19 18 * 2 ^ 20 + b2n (decide (s.fw.ownerDigest ≠ [])) * 2 ^ 19 +
    s.rf aSec 17 17 * 2 ^ 18 + b2n s.hostLink * 2 ^ 17 + ((List.range 128).filter (fun p => !s.fwdEn p)).length

/-- Word w of PLN_IMAGE_j (R296). -/
def State.imageShown (s : State) (j w : Nat) : Nat :=
  if s.rf (aImage j 0) 31 29 = 0 then 0
  else if w = 0 then
    s.rf (aImage j 0) 31 16 * 65536 + (s.shed.items.filter (fun i => decide (i.image = j))).length % 65536
  else (s.reg (aImage j w)).toNat

/-- LSTATE, HOLD_REASON and HOLD_DEPTH as PORT_STATUS codes them (R88). -/
def LState.code : LState → Nat
  | .dark => 0
  | .train => 1
  | .active => 2
  | .hold => 3
  | .down => 4
def HoldReason.code : HoldReason → Nat
  | .none => 0
  | .rest => 1
  | .freeze => 2
def HoldDepth.code : HoldDepth → Nat
  | .lit => 0
  | .dark => 1

/-- PORT_STATUS (R88); CFG_REJECT stands in its register. -/
def State.portShown (s : State) (p : Nat) : Nat :=
  let x := s.port p
  x.downCause * 2 ^ 28 + x.laneActive * 2 ^ 24 + x.lanePll * 2 ^ 20 + b2n x.peerResync * 2 ^ 19 + b2n x.peerPace * 2 ^ 18 +
    x.peerKind % 2 * 2 ^ 17 + b2n x.roleMismatch * 2 ^ 16 + s.rf (aPortStatus p) 15 15 * 2 ^ 15 +
    b2n (!s.fwdEn p) * 2 ^ 14 + x.holdReason.code * 2 ^ 12 + x.holdDepth.code * 2 ^ 11 + x.lstate.code * 2 ^ 8 +
    x.laneLent * 2 ^ 4 + x.laneFailed

/-- A register of port p at offset o (R87 to R92, R175, R596). -/
def State.portReg (s : State) (p o : Nat) : Nat :=
  let a := aP p + o
  if o = 4 then s.portShown p
  else if o = 8 then (s.port p).holdLimEff * 2 ^ 16 + s.rf a 12 0
  else if within o 0x10 0x2C then (s.port p).advPeer.getD ((o - 0x10) / 4) 0 * 2 ^ 16 + s.rf a 15 0
  else if o = 0x50 then (if s.portRole p = 1 ∨ s.portRole p = 3 then 0 else s.rf a 0 0)
  else (s.reg a).toNat

/-- Word w of class k's counts (R194). -/
def State.classShown (s : State) (c k w : Nat) : Nat :=
  let x := s.pool c
  if w = 0 then x.heldRsv k + x.heldUnrsv k
  else if w = 1 then x.rsv k
  else if w = 2 then s.poolAvail c k
  else (x.waits.filter (fun d => decide (d.cls = k))).length

/-- SHU_CTX_i (R295). -/
def State.shuShown (s : State) (c i : Nat) : Nat :=
  let base := 128 * c + 4 * i
  let cur := s.execCtx (32 * c + i)
  sumNat ((List.range 4).map (fun j => if ((s.ctx (base + j)).item).isSome then 2 ^ (20 + j) else 0)) +
    (if 0 < cur then 2 ^ (16 + (cur - 1) % 4) else 0) +
    b2n (s.shed.aside.any (fun a => decide (a.1 = c) && decide (a.2.1 = i))) * 128 + s.benchFree c i

/-- A queue waits at cluster c with an oldest item that does not fit (R292). -/
def State.benchWaits (s : State) (c : Nat) : Nat :=
  ((List.range 256).filter (fun q =>
    match s.qWaiting c q with
    | it :: _ => (s.fitShuttle c it).isNone
    | [] => false)).length

/-- Word w of queue q as cluster c shows it (R293): words 0 and 1 are one copy. -/
def State.queueShown (s : State) (c q w : Nat) : Nat :=
  if w < 2 then (s.reg (aQueue 0 q w)).toNat
  else if w = 2 then (s.qWaiting c q).length % 4096 * 2 ^ 16 + (s.qRunning c q).length % 4096
  else ofSigned 32 (s.dfc c q)

/-- A register of cluster c at offset o. -/
def State.clusterReg (s : State) (c o : Nat) : Nat :=
  let a := aC c + o
  if within o 0x20040 0x20090 then s.classShown c ((o - 0x20040) / 16) (o / 4 % 4)
  else if o = 0x20090 then s.occPct c
  else if o = 0x30000 then s.granHeld c * 2 ^ 16 + s.granFree c
  else if o = 0x40004 then s.descRsv c * 2 ^ 16 + s.descUsed c
  else if o = 0x40008 then s.benchWaits c * 2 ^ 16 +
    (s.shed.items.filter (fun i => decide (i.cluster = c) && i.runs.isNone)).length % 65536
  else if within o 0x41000 0x42000 then s.queueShown c ((o - 0x41000) / 16) (o / 4 % 4)
  else if within o 0x50000 0x50080 then s.shuShown c ((o - 0x50000) / 4)
  else if within o 0x54000 0x56000 then (if s.sealed then 0 else (s.reg a).toNat)
  else if within o 0x51000 0x51800 ∧ o % 16 = 0 ∧ s.sealed then (putFld (s.reg a) 28 28 0).toNat
  else (s.reg a).toNat

/-- A register of the SEQ block that is composed (R267 to R269). -/
def State.seqReg (s : State) (a : Nat) : Nat :=
  if within a (aStkFree 0) (aStkFree 8) then
    let n := (a - aStkFree 0) / 4
    if s.isOff (dHbm n) then 0 else b2n (s.inAlloc n) * 2 ^ 31 + s.stackFree n
  else if a = aSeqAvail then s.seqAvail
  else if a = aSeqRsv then s.seqRsv
  else if a = aLent then s.lent
  else if a = aEvac then s.rf aEvac 31 28 * 2 ^ 28 + (match s.seq.evac with | some e => s.stackUsed e.stack | none => 0)
  else (s.reg a).toNat

/-- PLN and AON registers whose value is composed or hidden. -/
def State.lowReg (s : State) (a : Nat) : Nat :=
  if a < 0x60 ∧ !s.pwr.leadSel then 0
  else if a = aMode then s.modeWord
  else if a = aSelftest then s.pwr.tests.length % 256 * 2 ^ 24 + s.rf a 23 0
  else if within a (aDepth 0) (aDepth 4) then s.depthWord ((a - aDepth 0) / 4)
  else if within a aLogHead (aTrace 8) ∧ s.sealed then 0
  else if within a (aImage 0 0) (aImage 64 0) then s.imageShown ((a - aImage 0 0) / 16) (a / 4 % 4)
  else if within a (aReport 0 0) (aReport 64 0) then (s.reportWord ((a - aReport 0 0) / 8) (a / 4 % 2)).toNat
  else if within a (aZone 0) (aZone 33) then (s.zoneWord ((a - aZone 0) / 4)).toNat
  else (s.reg a).toNat

/-- The value an assigned register shows while its domain is not OFF. -/
def State.shown (s : State) (a : Nat) : Word :=
  BitVec.ofNat 32 (
    if a < 0x00800000 then s.lowReg a
    else if a < 0x01000000 then s.clusterReg ((a - 0x00800000) / 0x00100000) (a % 0x00100000)
    else if a < 0x02000000 then s.portReg ((a - 0x01000000) / 0x00020000) (a % 0x00020000)
    else if a = aFlowSt then s.flows.wins.length * 2 ^ 16 + (s.flows.wins.filter (fun w => w.spray)).length
    else if within a aSeqRegion (aSlot 0 0) then s.seqReg a
    else (s.reg a).toNat)

/-! ### Reads (R570, R571) -/

/-- What a path reads at all: the addresses of R575 over I3C, every one over JTAG at INVASIVE (R576). -/
def State.reads (s : State) (p : Path) (a : Nat) : Bool :=
  s.pathAny p && (decide (p ≠ .i3c) || within a 0x300 0x320 || within a 0x00200000 0x00500000)

/-- The base of the counter at whose VAL_LO (1) or VAL_HI (2) an address lies. -/
def ctrWord (a : Nat) : Option Nat :=
  let o := a % 0x00100000
  if (within a (aCntDev 0) (aCntDev 16) || (within a 0x00800000 0x01000000 && (within o 0x2000 0x2100 || within o 0x51000 0x51800))) &&
      (decide (a / 4 % 4 = 1) || decide (a / 4 % 4 = 2)) then some (a / 4 % 4) else none

/-- The word that a read of word 0 of a pair latches (R413, R531). -/
def latchOf (a : Nat) : Option Nat :=
  if ctrWord a = some 1 then some (a + 4)
  else if within a (aReport 0 0) (aReport 64 0) ∧ a % 8 = 0 then some (a + 4)
  else none

/-- Take the latched word of an address, if it has one. -/
def State.unlatch (s : State) (a : Nat) : Option Word × State :=
  match tabGet (fun _ => none) s.cnt.latch a with
  | none => (none, s)
  | some w => (some w, { s with cnt := { s.cnt with latch := tabSet (fun _ => none) s.cnt.latch a none } })

/-- Read one word over a path (R570, R571): the holding domain wakes, and the latches of R413 and R531 are
set by the first word of a pair and used by the read of the second. -/
def State.readWord (s : State) (p : Path) (a : Nat) : Word × State :=
  if !s.reads p a || !assigned a || s.isOff (heldIn a) then (0, s)
  else
    let s := s.wake (heldIn a)
    let (w, s) := s.unlatch a
    match w with
    | some w => (w, s)
    | none =>
      match latchOf a with
      | some b => (s.shown a, s.latch b (s.shown b))
      | none => (s.shown a, s)

/-- Read n consecutive words. -/
def State.readWords (s : State) (p : Path) (a : Nat) : Nat → List Word × State
  | 0 => ([], s)
  | n + 1 =>
    let (w, s) := s.readWord p a
    let (r, s) := s.readWords p (a + 4) n
    (w :: r, s)

end Sys2Proof.Machine
end

