-- ==== Sys2Proof/Machine/Counters.lean ====
section
/-!
DEFINITION. Sys2Proof/Machine/Counters.lean: the counters as they are set, overflow and are read (R524 to
R535), the samples, the congestion maps (R536 to R539) and the counts of HBM_ECC (R577).
-/

namespace Sys2Proof.Machine

/-! ### The registers of a counter (R534) -/

/-- The scope of a counter's base: 0 shuttle, 1 cluster, 2 device. -/
def ctrScope (base : Nat) : Option Nat :=
  let o := base % 0x00100000
  if base % 16 ≠ 0 then none
  else if within base (aCntDev 0) (aCntDev 16) then some 2
  else if within base 0x00800000 0x01000000 && within o 0x2000 0x2100 then some 1
  else if within base 0x00800000 0x01000000 && within o 0x51000 0x51800 then some 0
  else none

/-- The counter is the last of its scope (R528). -/
def ctrLast (base scope : Nat) : Bool :=
  if scope = 0 then decide (base / 16 % 4 = 3) else decide (base / 16 % 16 = 15)

/-- The event codes of a scope, and 0x00, which counts nothing (R526). -/
def eventOf (scope code : Nat) : Bool :=
  decide (code = 0) ||
    (if scope = 0 then decide (code ≤ 0x0A)
     else if scope = 1 then within code 0x40 0x4C
     else within code 0x80 0x8A)

/-- A CFG value that R534 allows. -/
def ctrCfgOk (scope : Nat) (v : Word) : Bool :=
  !(fld v 29 28 = 3) && !(scope ≠ 0 && fld v 28 28 = 1) && eventOf scope (fld v 7 0)

/-- The CFG word a write leaves: CHAIN is fixed at 0 on the last counter of a scope, CTX_MASK reads 0 except on
shuttle counters, SAMPLE ignores writes under SEALED (R528, R530, R534). -/
def State.ctrCfgWord (s : State) (base scope : Nat) (v : Word) : Word :=
  let v := if ctrLast base scope then putFld v 29 29 0 else v
  let v := if scope = 0 then v else putFld v 26 23 0
  if s.sealed then putFld v 28 28 (s.rf base 28 28) else v

/-- Write one register of a counter: CFG, VAL_LO, VAL_HI, PERIOD (R533, R534). -/
def State.ctrSet (s : State) (base scope w : Nat) (v : Word) : Nat × State :=
  if w = 0 then
    let ok := if s.sealed then ctrCfgOk scope (putFld v 28 28 0) else ctrCfgOk scope v
    if ok then (stOk, s.setReg base (s.ctrCfgWord base scope v)) else (stState, s.setRf aCntStatus 0 0 1)
  else if w = 2 then
    let ovf := if fld v 16 16 = 1 then 0 else s.rf (base + 8) 16 16
    (stOk, s.setReg (base + 8) (BitVec.ofNat 32 (ovf * 2 ^ 16 + fld v 15 0)))
  else (stOk, s.setReg (base + 4 * w) v)

/-- COUNTER_CFG_WRITE (R534): a register path writes CFG; I3C does not reach counters (R575). -/
def execCounterCfgWrite (path : Path) (id : Nat) (v : Word) (s : State) : Out :=
  match ctrScope id with
  | none => .next s
  | some scope =>
    if !s.pathOk path ∨ s.isOff (heldIn id) then .next s
    else .next ((s.wake (heldIn id)).ctrSet id scope 0 v).2

/-- COUNTER_READ (R531): VAL_LO is read, and VAL_HI of the same counter is latched. -/
def execCounterRead (path : Path) (id : Nat) (s : State) : Out :=
  match ctrScope id with
  | none => .next s
  | some _ =>
    let (w, s) := s.readWord path (id + 4)
    .next { s with cnt := { s.cnt with readOut := [w] } }

/-! ### Overflow and samples (R527 to R530) -/

/-- The contexts of a shuttle counter that its CTX_MASK counts and that hold a work item. -/
def State.ctrCtxs (s : State) (base : Nat) : List Nat :=
  let x := 128 * ((base - 0x00800000) / 0x00100000) + 4 * ((base % 0x00100000 - 0x51000) / 0x40)
  (List.range 4).filterMap (fun i =>
    if s.rf base (23 + i) (23 + i) = 1 ∧ (s.ctx (x + i)).item.isSome then some (x + i) else none)

/-- COUNTER_OVERFLOW (R527): an enabled counter that stands at its last value sees one more event.  Which
context a sampled event came from is a free choice among those the counter counts. -/
def execCounterOverflow (id : Nat) (s : State) : Out :=
  match ctrScope id with
  | none => .next s
  | some scope =>
    if s.rf id 31 31 = 0 ∨ s.isOff (heldIn id) ∨ s.ctr id ≠ 2 ^ 48 - 1 then .next s
    else
      let s :=
        if scope = 0 ∧ s.rf id 29 28 = 1 ∧ s.rf (id + 0xC) 31 0 ≠ 0 then
          let (x, t) := s.choose (s.ctrCtxs id)
          match x with
          | some x => t.updCtx x (fun c => { c with sample := some (id / 16 % 4, t.aon) })
          | none => t
        else s
      .next (s.ctrAdd 16 id 1)

/-- SAMPLE_CAPTURE (R529): the PC of the next instruction of context x is captured. -/
def execSampleCapture (x : Nat) (s : State) : Out := .next (s.takeSample x (s.ctx x).pc)

/-! ### Congestion maps (R536 to R539) -/

/-- The level byte of port p and channel v (R536). -/
def State.mapLevel (s : State) (p v : Nat) : Nat :=
  let adv := (s.port p).advPeer.getD v 0
  if !s.live p ∨ adv = 0 then 0 else min 255 (256 * tabGet (fun _ => 0) s.cnt.occMax (8 * p + v) / adv)

/-- The map of the interval that ends (R536). -/
def State.mapBytes (s : State) : List Byte :=
  leBytes 8 s.aon ++ leBytes 4 s.cnt.mapSeq ++ leBytes 2 s.selfEid ++ leBytes 2 (s.rf aMapCfg 15 0) ++
    leBytes 1 s.host.memberIdx ++ leBytes 7 0 ++
    (List.range 8).flatMap (fun c => leBytes 1 (tabGet (fun _ => 0) s.cnt.pctMax c)) ++
    leBytes 16 (sumNat ((List.range 128).map (fun p => if s.live p then 2 ^ p else 0))) ++ leBytes 16 0 ++
    (List.range 128).flatMap (fun p => (List.range 7).flatMap (fun v => leBytes 1 (s.mapLevel p v)))

/-- Operation fields of a MAP_REPORT (R537). -/
def State.mapOp (s : State) : List Byte :=
  leBytes 2 (s.rf aMapCfg 15 0) ++ leBytes 1 s.host.memberIdx ++ leBytes 1 0 ++ leBytes 4 s.cnt.mapSeq

/-- A MAP_REPORT of this device that waits in the injection queue. -/
def isReport (q : QPkt) : Bool := decide (hType q.hdr = 0x23)

/-- Send the map to the collector; one that has not left the device yet is replaced (R537). -/
def State.mapSend (s : State) (m : List Byte) : State :=
  let dst := s.rf aMapCfg 31 16
  if dst = 0xFFFF ∨ s.selfEid = 0xFFFF then s
  else
    let q := s.inq (128 + plinthCluster) 4
    let old := (q.filter isReport).length
    let s := s.setInq (128 + plinthCluster) 4 (q.filter (fun k => !isReport k))
    (s.bump aMapErr 31 16 old).emit plinthCluster (mkPkt dst s.selfEid 0x23 false false false 0 0 s.mapOp m)

/-- MAP_INTERVAL_END (R536, R537). -/
def execMapIntervalEnd (s : State) : Out :=
  if !s.pwr.vinAon then .next s
  else
    let m := s.mapBytes
    let s := (s.setRegs aMap (bytesToWords 240 m)).mapSend m
    .next { s with cnt := { s.cnt with mapSeq := (s.cnt.mapSeq + 1) % 2 ^ 32, occMax := [], pctMax := [] } }

/-- MAP_REPORT (R538): a sunk report is written whole into the held-map slot of its member. -/
def execMapReport (port : Nat) (pkt : Pkt) (s : State) : Out :=
  let (ok, s) := s.sink port 0x23 pkt
  if !ok then .next s
  else if s.plnUp ∧ pkt.data.length = 960 then
    .next (s.setRegs (aHeldMap (byteAt pkt.hdr 18 % 64)) (bytesToWords 240 pkt.data))
  else .next s.mgtLost

/-- MAP_READ (R537, R493). -/
def execMapRead (tag : Nat) (s : State) : Out :=
  .next (s.serve tag 0x0B02 960 (fun b => b.isEmpty) (fun s _ => (s, stOk, s.regBytes aMap 240)))

/-- A value of CNT_MAP_CFG within its range (R539). -/
def mapCfgOk (v : Word) : Bool := decide (10 ≤ fld v 15 0)

/-- MAP_CFG (R539, R493). -/
def execMapCfg (tag : Nat) (s : State) : Out :=
  .next (s.serve tag 0x0B03 0 (fun b => decide (b.length = 4)) (fun s p =>
    let v := BitVec.ofNat 32 (field p.payload 0 2 * 2 ^ 16 + field p.payload 2 2)
    if mapCfgOk v then (s.setReg aMapCfg v, stOk, []) else (s, stState, [])))

/-- CNT_MAP_ERR_CLEAR (R539). -/
def execCntMapErrClear (path : Path) (v : Word) (s : State) : Out :=
  if s.pathOk path ∧ fld v 0 0 = 1 then .next (s.setReg aMapErr 0) else .next s

/-- HBM_ECC_CLEAR (R577). -/
def execHbmEccClear (path : Path) (n : Nat) (v : Word) (s : State) : Out :=
  if n < 8 ∧ s.pathOk path ∧ fld v 0 0 = 1 then .next (s.setReg (aHbmEcc n) 0) else .next s

end Sys2Proof.Machine
end

