-- ==== Sys2Proof/Machine/Rings.lean ====
section
/-!
DEFINITION. Sys2Proof/Machine/Rings.lean: the three rings of the host attachment as they are enabled, rung and
faulted (R478 to R481, R497), the held events, and the MSI-X vectors (R475).
-/

namespace Sys2Proof.Machine

/-- A ring faults: its fault bit and vector 2 (R479). -/
def State.ringFail (s : State) (k : Nat) : State :=
  let s := (s.setRf aCuing k k 1).msi 2
  if k = 1 then s.replyFlush else s

/-- The signals that waited for the function to be able to write, but for those within their 2 µs (R471, R475). -/
def State.msiFlush (s : State) : State :=
  if s.mastering then
    let due (v : Nat) : Bool := !s.host.msixQuiet.contains v
    { s with host := { s.host with
      msix := s.host.msix ++ s.host.msixWait.filter due, msixWait := s.host.msixWait.filter (fun v => !due v)
      msixQuiet := s.host.msixQuiet ++ (s.host.msixWait.filter due).filter (fun v => v ≠ 2) } }
  else s

/-- Entry EVENTS_LOST (R481, R494). -/
def State.lostEntry (s : State) : HostEntry := s.evtEntry 0x0B81 0 s.aon (leBytes 4 s.host.evtGap)

/-- Write what is held to the event ring while there is room: EVENTS_LOST first where the ring had been full, at most n
entries (R481). -/
def State.evtFlush (s : State) : Nat → State
  | 0 => s
  | n + 1 =>
    if s.ringUp 2 && decide (s.ringUsed 2 < s.ringSize 2) then
      if s.host.evtOwed then
        let e := s.lostEntry
        ({ s with host := { s.host with evtGap := 0, evtOwed := false } }.ringPut 2 e).evtFlush n
      else
        match s.host.evtHeld with
        | [] => s
        | e :: r => ({ s with host := { s.host with evtHeld := r } }.ringPut 2 e).evtFlush n
    else s

/-- The base and size of ring k are in range (R478): a 4 KiB-aligned base, the ring below 2^64. -/
def State.ringBaseOk (s : State) (k size : Nat) : Bool :=
  s.rf (aRing k) 11 0 = 0 &&
    decide (s.rf (aRing k) 31 0 + s.rf (aRing k + 4) 31 0 * 2 ^ 32 + 128 * 2 ^ size ≤ 2 ^ 64)

/-- A write of PLN_xQ_CFG (R478, R479, R497).  Setting ENABLE zeroes the indices and clears the fault; a base or
size out of range then faults the ring. -/
def State.ringCfg (s : State) (k : Nat) (v : Word) : Nat × State :=
  let a := aRing k + 8
  let size := fld v 4 0
  let ok := decide (4 ≤ size) && decide (size ≤ 16)
  let on := s.rf a 31 31 = 1
  let put (s : State) : State :=
    let s := if k = 2 then s.setRf a 8 8 (fld v 8 8) else s
    (s.setRf a 4 0 size).setRf a 31 31 (fld v 31 31)
  if fld v 31 31 = 1 ∧ ¬on then
    let s := ((s.setReg (aRing k + 0xC) 0).setReg (aRing k + 0x10) 0).setRf aCuing k k 0
    if ok && s.ringBaseOk k size then
      let s := put s
      (stOk, if k = 2 then s.evtFlush 257 else if k = 1 then s.replyFlush else s)
    else (stOk, (s.setRf a 31 31 1).ringFail k)
  else if !ok ∨ (on ∧ size ≠ s.rf a 4 0) then (stState, s)
  else (stOk, if k = 1 then (put s).replyFlush else put s)

/-- A doorbell value that moves its index backwards, or that puts more entries between HEAD and TAIL than the
ring holds (R479); a value beyond the index range is such a value. -/
def State.doorBad (s : State) (k v : Nat) : Bool :=
  let n := s.ringSize k
  let m := 2 * n
  let door := s.rf (aRing k + 0xC) 16 0
  let own := s.rf (aRing k + 0x10) 16 0
  decide (m ≤ v) ||
    (if k = 0 then
      decide (n < (v + m - own) % m) || decide ((v + m - own) % m < (door + m - own) % m)
    else decide ((own + m - door) % m < (v + m - door) % m))

/-- A doorbell write (R478 to R481). -/
def State.doorbell (s : State) (k : Nat) (v : Word) : State :=
  let i := fld v 16 0
  let a := aRing k + 0xC
  if s.rf (aRing k + 8) 31 31 = 0 ∨ s.ringFault k then s.setRf a 16 0 i
  else if s.doorBad k i then s.ringFail k
  else
    let s := s.setRf a 16 0 i
    if k = 2 then s.evtFlush 257 else s

/-- The ring registers of a lead answer a path; on a member they are reserved. -/
def State.ringPath (s : State) (p : Path) : Bool := s.pathOk p && s.plnUp && s.pwr.leadSel

/-- CQ_DOORBELL (R480). -/
def execCqDoorbell (path : Path) (v : Word) (s : State) : Out := .next (if s.ringPath path then s.doorbell 0 v else s)
/-- RQ_DOORBELL (R478). -/
def execRqDoorbell (path : Path) (v : Word) (s : State) : Out := .next (if s.ringPath path then s.doorbell 1 v else s)
/-- EQ_DOORBELL (R481). -/
def execEqDoorbell (path : Path) (v : Word) (s : State) : Out := .next (if s.ringPath path then s.doorbell 2 v else s)

/-- RING_ENABLE (R478): a write of the CFG register of a ring. -/
def execRingEnable (path : Path) (ring : Nat) (v : Word) (s : State) : Out :=
  .next (if s.ringPath path ∧ ring < 3 then (s.ringCfg ring v).2 else s)

/-- MSIX_COALESCE_TIMER (R475): the 2 µs interval of vector v ends; a signal waits on while the function may not write
(R471). -/
def execMsixCoalesceTimer (v : Nat) (s : State) : Out :=
  if s.host.msixQuiet.contains v then
    if s.host.msixWait.contains v ∧ s.mastering then
      .next { s with host := { s.host with
        msix := s.host.msix ++ [v], msixWait := s.host.msixWait.filter (fun x => x ≠ v) } }
    else .next { s with host := { s.host with msixQuiet := s.host.msixQuiet.filter (fun x => x ≠ v) } }
  else .next s

/-- HIO_ERR_CLEAR (R499). -/
def execHioErrClear (path : Path) (v : Word) (s : State) : Out :=
  if s.pathOk path ∧ !s.isOff dHio ∧ fld v 0 0 = 1 then .next (s.setReg aHioErr 0) else .next s

end Sys2Proof.Machine
end

