-- ==== Sys2Proof/Machine/Registers.lean ====
section
/-!
DEFINITION. Sys2Proof/Machine/Registers.lean: writes of register space (chapter 22): each register's own rule
(R573), the paths (R574 to R576), REG_READ and REG_WRITE (R493), and the transfers of the I3C and debug ports
(R575, R576, R586).
-/

namespace Sys2Proof.Machine

/-! ### Kinds of registers (R12, R572, R573) -/

/-- The state after a command; a command that gives none leaves the state. -/
def State.after (s : State) : Out → State
  | .next t => t
  | .fault _ => s
  | .refused _ => s

/-- A register of RW fields: the mask of its fields, and whether the value is within their ranges. -/
def State.rwSet (s : State) (a mask : Nat) (ok : Bool) (v : Word) : Nat × State :=
  let m := BitVec.ofNat 32 mask
  if ok then (stOk, s.setReg a ((s.reg a &&& ~~~m) ||| (v &&& m))) else (stState, s)

/-- A register of W1C bits. -/
def State.w1cSet (s : State) (a mask : Nat) (v : Word) : Nat × State :=
  (stOk, s.setReg a (s.reg a &&& ~~~(v &&& BitVec.ofNat 32 mask)))

/-- Whether a field lies in a range. -/
def fldIn (v : Word) (hi lo least most : Nat) : Bool := decide (least ≤ fld v hi lo) && decide (fld v hi lo ≤ most)

/-! ### The blocks -/

/-- PLN block: rings, relay, clocks, activation, log (R49, R464 to R467, R497, R498). -/
def State.plnSet (s : State) (path : Path) (a : Nat) (v : Word) : Nat × State :=
  if a < 0x60 then
    let k := a / 0x20
    let o := a % 0x20
    if !s.pwr.leadSel then (stOk, s)
    else if o < 8 then s.rwSet a 0xFFFFFFFF true v
    else if o = 8 then s.ringCfg k v
    else if o = 0xC then (stOk, s.doorbell k v)
    else (stOk, s)
  else if a = aRelay then s.rwSet a 0xFFFF (fldIn v 15 0 10 10000) v
  else if a = aClk then s.w1cSet a 1 v
  else if a = aActCtrl then
    let src := Src.reg path a v
    let c := fld v 31 29
    (stOk, s.after (if c = 1 then execActivateLive src s else if c = 2 then execActivateReset src s
      else if c = 3 then execFwCancel src s else if c = 4 then execFwCommit src s else .next s))
  else if a = aLogLost then (stOk, s.after (execPlnLogLostClear path v s))
  else if within a (aTrace 0) (aTrace 8) then (if s.sealed then (stOk, s) else s.rwSet a 0xFFFFFFFF true v)
  else (stOk, s)

/-- The rack-owned registers of TRD (R404 to R408). -/
def State.rackSet (s : State) (a : Nat) (v : Word) : Nat × State :=
  if a = aCapRack then
    let (ok, t) := s.capWord v
    (if ok then stOk else stState, t)
  else
    let r : Nat × State :=
      if a = aFloor then
        s.rwSet a 0x03FFFFFF (fldIn v 25 16 0 1000 && fldIn v 15 8 1 200 && fldIn v 7 0 1 200) v
      else if a = aFallbk then
        s.rwSet a 0x07FFFFFF (fldIn v 26 16 150 1200 && fldIn v 15 8 20 100 && fldIn v 7 0 20 100) v
      else if a = aCapTim then
        s.rwSet a 0xFFFFFFFF (fldIn v 31 16 1 3600 && fldIn v 15 0 100 60000 &&
          decide (fld v 15 0 < 1000 * fld v 31 16)) v
      else if a = aPace0 then s.rwSet a 0x07FF07FF (fldIn v 26 16 0 2000 && fldIn v 10 0 0 2000) v
      else s.rwSet a 0xFF00FFFF (fldIn v 31 24 1 255 && fldIn v 15 0 1 65535) v
    (r.1, if r.1 = stOk then r.2.mirrorTrd else s)

/-- The other registers of TRD (R37, R409 to R412). -/
def State.trdSet (s : State) (path : Path) (a : Nat) (v : Word) : Nat × State :=
  if a < 0x00200018 then s.rackSet a v
  else if a = aHostReq then
    let (ok, t) := s.hostReqWord v
    (if ok then stOk else stState, t)
  else if a = aDepthCfg then
    let r := s.rwSet a 0xFFFFFFFF (depthCfgOk v) v
    (r.1, if r.1 = stOk then r.2.mirrorTrd else s)
  else if a = aGov then
    let r := s.rwSet a 0xFFFF03FF (govCfgOk v) v
    (r.1, if r.1 = stOk then r.2.mirrorTrd else s)
  else if a = aAlert then (stOk, s.alertClear (fld v 4 0))
  else if a = aTrdErr then (stOk, s.after (execTrdErrClear path v s))
  else if a = aIso then (stOk, s.after (execIsoStatusClear path v s))
  else (stOk, s)

/-- THM, CRT, DVT and CNT (R429, R430, R522, R523, R534 to R539).  A write of DVT_CFG configures the pair with
the claim and the timeout in force; a claim written is presented (R505). -/
def State.aonSet (s : State) (path : Path) (a : Nat) (v : Word) : Nat × State :=
  if a = aCoolCfg then s.rwSet a 0xFFFFFFFF (coolCfgOk v) v
  else if a = aLeak then s.rwSet a 0xFFFF (leakCfgOk v) v
  else if a = aTrip then (stOk, s.after (execTripLatchClear path v s))
  else if within a 0x00400000 0x00400100 ∧ a % 16 = 0 then
    let t := s.after (execCartRemove (.reg path a v) s)
    (stOk, t.after (execCartInspect (.reg path a v) t))
  else if a = aDvtCfg then (stOk, s.pairSet (fld v 31 16) (fld v 6 0) (fld v 14 8) s.claimReg (s.rf aHbCfg 15 0))
  else if a = aClaim then
    let t := s.setReg a v
    (stOk, if t.role = 1 ∨ t.role = 3 then t.putClaim (fld v 31 0) else t)
  else if a = aHbCfg then
    s.rwSet a 0xFFFFFFFF (fldIn v 31 16 100 50000 && fldIn v 15 0 40 10000 && s.holdsLast (fld v 15 0)) v
  else if a = aDvt then s.w1cSet a 0x00800000 v
  else if a = aDvtErr then (stOk, s.after (execDvtErrClear path v s))
  else if a = aCntStatus then s.w1cSet a 1 v
  else if a = aMapCfg then s.rwSet a 0xFFFFFFFF (mapCfgOk v) v
  else if a = aMapErr then (stOk, s.after (execCntMapErrClear path v s))
  else
    match ctrScope (a - a % 16) with
    | some k => s.ctrSet (a - a % 16) k (a / 4 % 4) v
    | none => (stOk, s)

/-- SHU_SAMPLE_TAIL (R535): not backwards, and not past HEAD. -/
def State.sampTail (s : State) (c : Nat) (v : Word) : Nat × State :=
  let head := s.rf (aSampHead c) 8 0
  let tail := s.rf (aSampTail c) 8 0
  let n := fld v 8 0
  if (n + 512 - tail) % 512 ≤ (head + 512 - tail) % 512 then (stOk, s.setRf (aSampTail c) 8 0 n) else (stState, s)

/-- A cluster block at offset o (R192 to R196, R233, R291 to R294, R534, R535). -/
def State.clusterSet (s : State) (path : Path) (c o : Nat) (v : Word) : Nat × State :=
  let a := aC c + o
  if within o 0x20000 0x20010 then s.rwSet a 0x800003FF true v
  else if o = 0x20010 then s.rwSet a 0x3FF true v
  else if o = 0x20014 then (stOk, s.after (execBobApply path c v s))
  else if o = 0x20094 then (stOk, s.after (execBobErrClear path c v s))
  else if o = 0x200A0 then (stOk, s.after (execBobDfLogClear path c v s))
  else if o = 0x30004 then (stOk, s.after (execReedErrClear path c v s))
  else if o = 0x40000 then s.rwSet a 0x00FFFFFF (fldIn v 23 16 1 255 && fldIn v 15 0 256 65535) v
  else if o = 0x4000C then (stOk, s.after (execShedErrClear path c v s))
  else if o = 0x40010 then s.w1cSet a 1 v
  else if within o 0x41000 0x42000 then
    let q := (o - 0x41000) / 16
    let w := o / 4 % 4
    let r := if w = 0 then s.queueWord0 q v else if w = 1 then s.queueWord1 q v else (stState, s)
    if r.1 = stOk then r else (r.1, s.after (execQueueWrite (.reg path a v) s))
  else if o = 0x50084 then s.sampTail c v
  else
    match ctrScope (a - a % 16) with
    | some k => s.ctrSet (a - a % 16) k (a / 4 % 4) v
    | none => (stOk, s)

/-- A port block at offset o (R87 to R92, R175, R596). -/
def State.portSet (s : State) (path : Path) (p o : Nat) (v : Word) : Nat × State :=
  let a := aP p + o
  let put (r : Nat × State) : Nat × State := (r.1, s.portWrite p r)
  if o = 0 then put (s.portCfgSet p v)
  else if o = 4 then s.w1cSet a 0x8000 v
  else if o = 8 then put (s.rwSet a 0x1FFF (fldIn v 12 0 (s.holdLeast p) 5000) v)
  else if o = 0xC then put (s.rwSet a 0x00FFFFFF (fldIn v 23 16 1 255 && fldIn v 15 0 1 65535) v)
  else if within o 0x10 0x2C then put (s.portCreditSet p ((o - 0x10) / 4) v)
  else if o = 0x40 then (stOk, s.after (execPortLinkErrClear path p v s))
  else if o = 0x44 then (stOk, s.after (execPortQuarErrClear path p v s))
  else if o = 0x50 then put (s.portSelSet p v)
  else (stOk, s)

/-- The bits of word w of a route entry that hold a field (R113). -/
def routeMask (w : Nat) : Nat := if w < 4 then 0xFFFFFFFF else if w = 4 then 0xFE7F7F00 else if w = 5 then 0xFFFF else 0
/-- The same of a multicast group entry (R115). -/
def mcastMask (w : Nat) : Nat := if w < 8 then 0xFFFFFFFF else if w = 8 then 0xC00000FF else 0

/-- A word of a shadow copy: not while a commit is BUSY (R143, R145). -/
def State.shadowSet (s : State) (a mask : Nat) (v : Word) : Nat × State :=
  if s.rf aCommitSt 0 0 = 1 then (stBusy, s) else s.rwSet a mask true v

/-- The configuration registers of the RTE block (R117 to R119, R150 to R154, R176 to R179). -/
def State.rteCfgSet (s : State) (a : Nat) (v : Word) : Nat × State :=
  if a = aSelfEid then
    let r := s.rwSet a 0xFFFF true v
    (r.1, r.2.mirrorSelf)
  else if a = aOpTimeout then s.rwSet a 0xFFFF (fldIn v 15 0 100 50000) v
  else if a = aDrain then s.rwSet a 0x3FFF (fldIn v 13 0 10 10000) v
  else if a = aSpray then s.rwSet a 0xFFFF0007 true v
  else if a = aWinPkts then s.rwSet a 0x1FFF01FF (fldIn v 28 16 1 4096 && fldIn v 8 0 1 256) v
  else if a = aWinPicks then s.rwSet a 0xFFFFFFFF (fldIn v 31 16 65 65535 && fldIn v 15 0 65 65535) v
  else if a = aWinTim then s.rwSet a 0xFFFFFFFF (fldIn v 31 16 1 65535 && fldIn v 15 0 100 50000) v
  else if a = aCong then s.rwSet a 0xFFFFFFFF (fldIn v 31 16 100 50000 && fldIn v 15 0 256 65535) v
  else if a = aInj then
    let r := s.rwSet a 0xFFFFFFFF (fldIn v 31 24 10 100 && fldIn v 23 16 5 99 && fldIn v 15 0 1 65535 &&
      decide (fld v 23 16 < fld v 31 24)) v
    -- each cluster's level follows the thresholds now in force (R159)
    (r.1, (List.range 8).foldl (fun (s : State) c => s.setPool c (s.pool c)) r.2)
  else if a = aPaceCfg then
    s.rwSet a 0xFFFFFF00 (fldIn v 31 24 1 255 && fldIn v 23 16 0 254 && fldIn v 15 8 1 255 &&
      decide (fld v 23 16 < fld v 31 24)) v
  else if a = aPaceDur then s.rwSet a 0xFFFF (fldIn v 15 0 1 65535) v
  else (stOk, s)

/-- The RTE block (R147 to R156, R176 to R180, R216, R229 to R232). -/
def State.rteSet (s : State) (path : Path) (a : Nat) (v : Word) : Nat × State :=
  let src := Src.reg path a v
  if within a 0x02080000 0x02100000 then s.shadowSet a (routeMask (a / 4 % 8)) v
  else if within a 0x02110000 0x02120000 then s.shadowSet a (mcastMask (a / 4 % 16)) v
  else if within a 0x02200000 0x02420000 then
    let (ok, t) := s.grpWordWrite a v
    (if ok then stOk else stState, t)
  else if a = aPktErr1 then (stOk, s.after (execRtePktErrClear path v s))
  else if a = aCommit then
    if s.rf aCommitSt 0 0 = 1 ∧ fld v 1 1 = 0 then (stBusy, s)
    else
      let s := s.after (execCommitAbort src s)
      let s := s.after (execCommitSync src s)
      (stOk, s.after (execCommitStart src s))
  else if a = aFlowErr 2 then (stOk, s.after (execRteFlowErrClear path v s))
  else if a = aCongErr 1 then (stOk, s.after (execRteCongErrClear path v s))
  else if a = aGrpCmd then
    let c := fld v 31 29
    if s.grpBusy then (stBusy, s)
    else
      (stOk, s.after (if c = 1 then execGroupAdmit src s else if c = 2 then execGroupRelease src s
        else if c = 3 then execGroupRearm src s else .next s))
  else if a = aGrpSt then s.w1cSet a 0x8000 v
  else if a = aGrpErr 1 then (stOk, s.after (execRteGrpErrClear path v s))
  else s.rteCfgSet a v

/-- A word of a slot context (R239, R270). -/
def State.slotSet (s : State) (a : Nat) (v : Word) : Nat × State :=
  let n := (a - aSlot 0 0) / 0x40
  let w := a / 4 % 16
  if s.slotState n ≠ 0 then (stState, s.setRf aSeqSt 30 30 1)
  else
    -- BPT_64 is RO but in a RAW context (R239)
    let ro := w = 3 ∧ s.rf (aSlot n 1) 31 28 ≠ 2
    s.rwSet a (if ro then 0xFFFF0000 else (slotMask w 0xFFFFFFFF#32).toNat) true v

/-- A command of SEQ_CMD (R268). -/
def State.seqCmdSet (s : State) (src : Src) (c : Nat) : State :=
  s.after (
    if c = 1 then execSlotOpen src s
    else if c = 2 then execSlotRelease src s
    else if c = 3 then execEvacuate src s
    else if c = 4 then execEvacAbort src s
    else if c = 5 then execAllocBack src s
    else if c = 6 then execRecall src s
    else if c = 7 then execReclaim src s
    else .next s)

/-- The SEQ block (R265 to R270). -/
def State.seqSet (s : State) (path : Path) (a : Nat) (v : Word) : Nat × State :=
  if a = aSeqRegion then
    (if regionOk v ∧ s.regionFree then stOk else stState, s.after (execSeqRegionWrite path v s))
  else if a = aFabWin then
    if fabWinOk (s.reg aSeqRegion) v then (stOk, s.setReg a v) else (stState, s.setRf aSeqSt 30 30 1)
  else if a = aLendMax then s.rwSet a 0x7FFFFF true v
  else if a = aSeqCmd then (stOk, s.seqCmdSet (.reg path a v) (fld v 31 28))
  else if a = aSeqArg then s.rwSet a 0xFFFF true v
  else if a = aSeqSt then s.w1cSet a 0x40000000 v
  else if a = aSeqErr 1 then (stOk, s.after (execSeqErrClear path v s))
  else if within a (aSlot 0 0) (aSlot 32 0) then s.slotSet a v
  else (stOk, s)

/-- HBM and HIO (R499, R577). -/
def State.hioSet (s : State) (path : Path) (a : Nat) (v : Word) : Nat × State :=
  if a = aAperture then s.rwSet a 0x1FF (fldIn v 8 0 0 496) v
  else if a = aHioErr then (stOk, s.after (execHioErrClear path v s))
  else if a < 0x03000000 ∧ a % 0x00080000 = 4 then
    (stOk, s.after (execHbmEccClear path ((a - 0x02C00000) / 0x00080000) v s))
  else (stOk, s)

/-- Write an assigned register whose domain is not OFF, by its own rule. -/
def State.regSet (s : State) (path : Path) (a : Nat) (v : Word) : Nat × State :=
  if a < 0x00100000 then s.plnSet path a v
  else if a < 0x00200000 then (stOk, s)
  else if a < 0x00300000 then s.trdSet path a v
  else if a < 0x00800000 then s.aonSet path a v
  else if a < 0x01000000 then s.clusterSet path ((a - 0x00800000) / 0x00100000) (a % 0x00100000) v
  else if a < 0x02000000 then s.portSet path ((a - 0x01000000) / 0x00020000) (a % 0x00020000) v
  else if a < 0x02800000 then s.rteSet path a v
  else if a < 0x02C00000 then s.seqSet path a v
  else s.hioSet path a v

/-! ### Paths (R570, R571, R574 to R576) -/

/-- The rack-owned registers of TRD and the SEC block (R383, R493, R576). -/
def guarded (a : Nat) : Bool := within a 0x00100000 0x00200018

/-- An address that I3C writes (R575). -/
def i3cWrites (a : Nat) : Bool := within a 0x00200000 0x00500000 && !within a 0x00200040 0x00200050

/-- Write one word over a path: the status it would have through Cuing, and the state (R570 to R576). -/
def State.writeWord (s : State) (path : Path) (a : Nat) (v : Word) : Nat × State :=
  if !s.pathAny path then (stState, s)
  else if path = .i3c ∧ !i3cWrites a then (stAuth, s)
  else if path ≠ .i3c ∧ guarded a then (stAuth, s)
  else if !assigned a then (stUnsup, s)
  else if s.isOff (heldIn a) then (stState, s)
  else (s.wake (heldIn a)).regSet path a v

/-- REGISTER_WRITE (R573): Cuing writes registers by REG_WRITE. -/
def execRegisterWrite (path : Path) (addr : Nat) (v : Word) (s : State) : Out := .next (s.writeWord path addr v).2

/-! ### REG_READ and REG_WRITE (R493, R544) -/

/-- Offset and count of a register command lie in register space. -/
def regRangeOk (b : List Byte) : Bool :=
  decide (field b 0 4 % 4 = 0) && decide (0 < field b 4 2) && decide (field b 0 4 + 4 * field b 4 2 ≤ 0x04000000)

/-- REG_READ: as many whole words as fit. -/
def execRegRead (tag : Nat) (s : State) : Out :=
  .next (s.serve tag 0x0201 0 (fun b => decide (b.length = 6) && regRangeOk b) (fun s p =>
    let (ws, t) := s.readWords .cuing (field p.payload 0 4) (p.items 4 (field p.payload 4 2))
    (t, stOk, wordsToBytes ws)))

/-- A block that holds mirrored items: RTE, SEQ, SHED and the ports (R544). -/
def mirroredBlock (a : Nat) : Bool :=
  within a 0x01000000 0x02C00000 || (within a 0x00800000 0x01000000 && within (a % 0x00100000) 0x40000 0x50000)

/-- Write words in order until one is refused: how many were written, and the status of the refused one. -/
def State.writeWords (s : State) (a : Nat) : List Word → Nat → Nat × Nat × State
  | [], n => (n, stOk, s)
  | v :: r, n =>
    if s.role = 2 ∧ mirroredBlock a then (n, stState, s)
    else
      let (st, t) := s.writeWord .cuing a v
      if st = stOk then t.writeWords (a + 4) r (n + 1) else (n, st, t)

/-- Let a reply wait for the acknowledgement of the newest mirror item (R514). -/
def State.mirrorReply (s : State) (tag : Nat) (reply : List Byte) : State :=
  let last := (s.pair.itemSeq + 2 ^ 32 - 1) % 2 ^ 32
  let mark (m : MirItem) : MirItem := if m.seq = last then { m with tag := some tag, reply := reply } else m
  let s := s.hold tag
  { s with pair := { s.pair with unacked := s.pair.unacked.map mark, waiting := s.pair.waiting.map mark } }

/-- REG_WRITE: in order, stopping at the first refused word; the reply tells how many were written. -/
def execRegWrite (tag : Nat) (s : State) : Out :=
  match s.cmd tag 0x0202 with
  | none => .next s
  | some p =>
    let b := p.payload
    let n := field b 4 2
    if b.length ≠ 8 + 4 * n ∨ !regRangeOk b then .next (s.finish tag stUnsup [])
    else
      let (k, st, t) := s.writeWords (field b 0 4) (bytesToWords n (b.drop 8)) 0
      let reply := leBytes 2 k
      if st = stOk ∧ t.mirroring ∧ t.pair.itemSeq ≠ s.pair.itemSeq then .next (t.mirrorReply tag reply)
      else .next (t.finish tag st reply)

/-! ### I3C (R575, R586) -/

/-- The device answers on its tray controller's bus. -/
def State.i3cUp (s : State) : Bool := s.pathAny .i3c && s.pwr.i3cAddr.isSome

/-- I3C_WRITE_TRANSFER (R575): words at consecutive addresses. -/
def execI3cWriteTransfer (addr : Nat) (words : List Word) (s : State) : Out :=
  if !s.i3cUp then .next s
  else .next ((List.range words.length).foldl (fun (s : State) i =>
    (s.writeWord .i3c (addr + 4 * i) (words.getD i 0)).2) s)

/-- I3C_READ_TRANSFER (R575): n words from consecutive addresses. -/
def execI3cReadTransfer (addr n : Nat) (s : State) : Out :=
  if !s.i3cUp then .next s
  else
    let (ws, s) := s.readWords .i3c addr n
    .next { s with pwr := { s.pwr with i3cOut := wordsToBytes ws } }

/-- The provisioned ID (R586). -/
def provisioned : Nat := Config.pid % 2 ^ 15 * 2 ^ 33 + 2 ^ 32 + Config.serial % 2 ^ 32

/-- Its six bytes as the bus carries them, most significant first. -/
def pidBytes : List Byte := (leBytes 6 provisioned).reverse

/-- Leave an answer on the bus. -/
def State.i3cSay (s : State) (b : List Byte) : State := { s with pwr := { s.pwr with i3cOut := b } }

/-- ENTDAA: a device without an address answers its provisioned ID, BCR and DCR and takes the address. -/
def execEntdaa (da : Nat) (s : State) : Out :=
  if s.pathAny .i3c ∧ s.pwr.i3cAddr = none then
    .next ({ s with pwr := { s.pwr with i3cAddr := some (da % 128) } }.i3cSay (pidBytes ++ [0, 0]))
  else .next s

/-- RSTDAA. -/
def execRstdaa (s : State) : Out :=
  if s.pathAny .i3c then .next { s with pwr := { s.pwr with i3cAddr := none } } else .next s

/-- SETNEWDA. -/
def execSetnewda (da : Nat) (s : State) : Out :=
  if s.i3cUp then .next { s with pwr := { s.pwr with i3cAddr := some (da % 128) } } else .next s

/-- GETPID. -/
def execGetpid (s : State) : Out := if s.i3cUp then .next (s.i3cSay pidBytes) else .next s
/-- GETBCR: no in-band interrupt, no controller role, no HDR mode. -/
def execGetbcr (s : State) : Out := if s.i3cUp then .next (s.i3cSay [0]) else .next s
/-- GETDCR. -/
def execGetdcr (s : State) : Out := if s.i3cUp then .next (s.i3cSay [0]) else .next s
/-- GETSTATUS: the two bytes of status are not stated (DESIGN CHOICE, log entry 29). -/
def execGetstatus (s : State) : Out :=
  if s.i3cUp then
    let (r, s) := s.draw
    .next (s.i3cSay (leBytes 2 r))
  else .next s

/-! ### The debug port (R576) -/

/-- JTAG_REG_ACCESS: at INVASIVE a read or a write as BAR0 makes it; at every other level a read gives 0 and
nothing has an effect. -/
def execJtagRegAccess (write : Bool) (addr : Nat) (v : Word) (s : State) : Out :=
  if write then .next (s.writeWord .jtag addr v).2
  else
    let (w, s) := s.readWord .jtag addr
    .next { s with cnt := { s.cnt with readOut := [w] } }

end Sys2Proof.Machine
end

