-- ==== Sys2Proof/Machine/Host.lean ====
section
/-!
DEFINITION. Sys2Proof/Machine/Host.lean: the host attachment as it takes, checks, serves and relays commands
(R480 to R492), the modes that refuse them (R440, R446, R541 to R546), the commands that write tables and read
windows (R493), the PCIe function (R469 to R477) and BAR2 (R473).
-/

namespace Sys2Proof.Machine

/-! ### Entries (R482 to R485) -/

/-- The fields of a command entry (R482). -/
def entOp (e : List Byte) : Nat := field e 2 2
def entTag (e : List Byte) : Nat := field e 4 2
def entMember (e : List Byte) : Nat := byteAt e 6 % 64
def entMinor (e : List Byte) : Nat := byteAt e 1
def entScatter (e : List Byte) : Bool := bit (byteAt e 7) 0
def entSerial (e : List Byte) : Bool := bit (byteAt e 7) 1
def entLen (e : List Byte) : Nat := field e 8 3
/-- Bytes of the payload: a scatter LENGTH of 0 stands for 16 MiB (R484). -/
def entBytes (e : List Byte) : Nat := if entScatter e ∧ entLen e = 0 then 2 ^ 24 else entLen e

/-- The CRC of an entry (R483). -/
def entCrcOk (e : List Byte) : Bool := decide (crc32c (e.take 28 ++ e.drop 32) = field e 28 4)

/-- The opcodes of R493 that a host may send, with the minor from which each is known (R487). -/
def opcodes : List (Nat × Nat) :=
  [(0x0101, 0), (0x0102, 0), (0x0103, 0), (0x0104, 0), (0x0201, 0), (0x0202, 0), (0x0203, 0), (0x0204, 0), (0x0205, 0),
   (0x0301, 0), (0x0302, 0), (0x0303, 0), (0x0304, 0), (0x0401, 0), (0x0402, 0), (0x0403, 0), (0x0501, 0), (0x0502, 0),
   (0x0503, 0), (0x0504, 0), (0x0505, 0), (0x0601, 0), (0x0602, 0), (0x0603, 0), (0x0604, 0), (0x0605, 0), (0x0606, 1)] ++
  [(0x0701, 0), (0x0702, 0), (0x0703, 0), (0x0704, 0), (0x0705, 0), (0x0706, 0), (0x0707, 1), (0x0801, 0), (0x0802, 0),
   (0x0803, 0), (0x0804, 0), (0x0805, 0), (0x0806, 0), (0x0901, 0), (0x0902, 0), (0x0903, 0), (0x0A01, 0), (0x0A02, 0),
   (0x0A03, 0), (0x0B01, 0), (0x0B02, 0), (0x0B03, 0), (0x0B04, 0), (0x0B05, 1), (0x0C01, 0), (0x0D01, 0)]

/-- An opcode is known in a minor (R485, check 6). -/
def opKnown (op minor : Nat) : Bool := opcodes.any (fun x => decide (x.1 = op) && decide (x.2 ≤ minor))

/-- Reserved bits are 0, an inline payload fits, DATA_ADDR is aligned (R485, check 3); SERIAL is reserved for a 2.0
requester (R487). -/
def entFormOk (e : List Byte) : Bool :=
  decide (byteAt e 6 / 64 = 0) && decide (byteAt e 7 / 8 = 0) && decide (byteAt e 11 = 0) && decide (field e 14 2 = 0) &&
    decide (byteAt e 27 = 0) && (entScatter e || decide (entLen e ≤ 96)) && decide (field e 16 8 % 8 = 0) &&
    !(entSerial e && decide (entMinor e = 0))

/-- A TAG is that of a command in progress (R485, check 4). -/
def State.tagUsed (s : State) (tag : Nat) : Bool := s.host.prog.any (fun p => decide (p.tag = tag))

/-- MEMBER is this device, a bound member, or the index that BIND assigns (R485, check 5). -/
def State.memberOk (s : State) (e : List Byte) : Bool :=
  decide (entMember e = 0) || (s.member (entMember e)).bound || decide (entOp e = 0x0104)

/-- The first of checks 1 to 6 of R485 that fails decides the status. -/
def State.entStatus (s : State) (e : List Byte) (direct : Bool) : Nat :=
  if !entCrcOk e then stE2e
  else if byteAt e 0 ≠ 2 ∨ 1 < entMinor e then stUnsup
  else if !entFormOk e then stUnsup
  else if s.tagUsed (entTag e) then stBusy
  else if direct ∧ !s.memberOk e then stState
  else if !opKnown (entOp e) (entMinor e) then stUnsup
  else stOk

/-- The minor of a reply: the requester's, and 2.1 where the version is not one the device accepts (R485, R487). -/
def replyMinor (e : List Byte) : Nat := if byteAt e 0 = 2 ∧ entMinor e = 0 then 0 else 1

/-- A command as it is kept in progress. -/
def entProg (e scatter : List Byte) (o : Origin) : Prog where
  tag := entTag e
  opcode := entOp e
  minor := replyMinor e
  member := entMember e
  scatter := entScatter e
  serial := entSerial e
  rbuf := bit (byteAt e 7) 2
  dataAddr := field e 16 8
  capacity := field e 24 3
  payload := if entScatter e then scatter else slice e 32 (entLen e)
  origin := o
  phase := 0
  gone := false

/-! ### Which commands the modes serve (R440, R446, R542 to R544) -/

/-- Commands that would change a mirrored item (R544); REG_WRITE is judged word by word. -/
def changesMirrored (op : Nat) : Bool :=
  [0x0203, 0x0204, 0x0205, 0x0302, 0x0303, 0x0304, 0x0401, 0x0402, 0x0501, 0x0502, 0x0503, 0x0505].contains op

/-- The status with which the modes in force refuse an opcode, the firmware state before the pair role (R541,
R542). -/
def State.modeStatus (s : State) (op : Nat) : Nat :=
  if s.plinth = 3 then (if [1, 8, 9, 0x0D].contains (op / 256) then stOk else stState)
  else if s.fallback ∧ !fallbackServes op then stState
  else if s.role = 2 ∧ changesMirrored op then stState
  else stOk

/-- A payload whose sub-code is one of its opcode's; the rest of a payload is judged when the command is
performed. -/
def subOk (op : Nat) (b : List Byte) : Bool :=
  if op = 0x0205 then decide (b.length = 1) && decide (byteAt b 0 < 3)
  else if op = 0x0402 then decide (1 ≤ byteAt b 2) && decide (byteAt b 2 ≤ 3)
  else if op = 0x0503 then decide (b.length = 6) && decide (3 ≤ byteAt b 0) && decide (byteAt b 0 ≤ 7)
  else decide (op ≠ 0x0104)

/-- The trace points that the Cuing server meets write their records where they are enabled (R441 to R443). -/
def State.tracePoints (s : State) : State :=
  if s.sealed || (List.range 8).all (fun m => decide (s.reg (aTrace m) = 0)) then s
  else
    let (r, s) := s.draw
    (Config.traceHits r).foldl (fun s h =>
      if h.1 < 256 ∧ bit (s.reg (aTrace (h.1 / 32))).toNat (h.1 % 32) then s.log 3 1 h.1 h.2 else s) s

/-- Take a command into service: in progress, or refused at once. -/
def State.accept (s : State) (p : Prog) : State :=
  let s := { s with host := { s.host with prog := s.host.prog ++ [p] } }
  let st := s.modeStatus p.opcode
  if st ≠ stOk then s.finish p.tag st []
  else if !subOk p.opcode p.payload then s.finish p.tag stUnsup []
  else s

/-! ### COMMAND_TAKE (R480, R488, R490) -/

/-- Commands a lead has outstanding at member m. -/
def State.outstanding (s : State) (m : Nat) : Nat :=
  (s.host.prog.filter (fun p => decide (p.origin = .relay m))).length

/-- The next command of the ring may be taken (R480, R489): the ring engine passes the power family of the lead itself to
the scheduler core whatever the plinth's state (R486). -/
def State.mayTake (s : State) (e scatter : List Byte) : Bool :=
  s.plnUp && ((!s.compDown 3 && !s.mute) || (decide (entMember e = 0) && decide (entOp e / 256 = 6))) && s.ringUp 0 && s.ringUp 1 && decide (0 < s.ringUsed 0) && decide (e.length = 128) &&
    (!entScatter e || decide (scatter.length = entBytes e)) &&
    decide (s.ringUsed 1 + s.host.replyHeld.length + s.host.prog.length < s.ringSize 1) && decide (s.host.prog.length < 64) &&
    !s.host.prog.any (fun p => p.serial) && (!entSerial e || s.host.prog.isEmpty) &&
    (decide (s.entStatus e true ≠ stOk) || decide (entMember e = 0) || decide (s.outstanding (entMember e) < 4))

/-- The EID a relayed command goes to: that of the member, or the one that BIND names. -/
def State.relayEid (s : State) (p : Prog) : Nat :=
  if p.opcode = 0x0104 then field p.payload 8 2 else (s.member p.member).eid

/-- The lead relays a command (R488, R490, R492). -/
def State.relay (s : State) (e : List Byte) (p : Prog) : State :=
  let bind := decide (p.opcode = 0x0104)
  if s.fallback then s.replyOut p stState []
  else if bind ∧ (p.member = 0 ∨ p.payload.length ≠ 44) then s.replyOut p stUnsup []
  else if bind ∧ (s.member p.member).bound then s.replyOut p stState []
  else if s.rtGone (s.relayEid p) then s.replyOut p stPathLost []
  else
    let p := { p with origin := .relay p.member, phase := 1 }
    let s := { s with host := { s.host with prog := s.host.prog ++ [p] } }
    s.sendCuing 0x20 (s.relayEid p) p.tag p.member e (if p.scatter then p.payload else []) 0

/-- COMMAND_TAKE (R480, R485): the ring engine takes the entry at HEAD. -/
def execCommandTake (entry scatter : List Byte) (s : State) : Out :=
  if !s.mayTake entry scatter then .next s
  else
    let s := s.setRf (aRing 0 + 0x10) 16 0 ((s.rf (aRing 0 + 0x10) 16 0 + 1) % (2 * s.ringSize 0))
    let p := entProg entry scatter .host
    let st := s.entStatus entry true
    if st ≠ stOk then .next (s.replyOut p st [])
    else if p.member = 0 ∧ p.opcode ≠ 0x0104 then .next (s.tracePoints.accept p)
    else .next (s.relay entry p)

/-! ### Relay at the member (R488, R491, R492) -/

/-- Bytes of scatter payload in a CUING packet, from its offset and TOTAL. -/
def segBytes (pkt : Pkt) : List Byte := (pkt.data.drop 128).take (min 3968 (field pkt.hdr 24 4 - field pkt.hdr 20 4))

/-- Put a segment into the message it belongs to; the first segment of a message begins it anew. -/
def addSeg (l : List Relay) (tag member : Nat) (pkt : Pkt) : List Relay :=
  let seg := (field pkt.hdr 20 4, segBytes pkt)
  let l := if seg.1 = 0 then l.filter (fun x => !(decide (x.tag = tag) && decide (x.member = member))) else l
  match l.find? (fun r => decide (r.tag = tag) && decide (r.member = member)) with
  | some r =>
    l.filter (fun x => !(decide (x.tag = tag) && decide (x.member = member))) ++
      [{ r with segs := r.segs.filter (fun x => x.1 ≠ seg.1) ++ [seg] }]
  | none => l ++ [⟨tag, member, pkt.data.take 128, field pkt.hdr 24 4, [seg]⟩]

/-- A message is complete once every byte of its scatter payload has come. -/
def Relay.whole (r : Relay) : Bool := decide (r.total ≤ sumNat (r.segs.map (fun x => x.2.length)))

/-- The scatter payload, put together by offset. -/
def Relay.payload (r : Relay) : List Byte := r.segs.foldl (fun b x => splice (padTo (max b.length x.1) b) x.1 x.2) []

/-- Answer a relayed entry that is not taken into service. -/
def State.relayRefuse (s : State) (dst : Nat) (p : Prog) (st : Nat) : State :=
  s.sendCuing 0x21 dst p.tag p.member (replyEntry p st []).bytes [] st

/-- Word 4 of the LOCAL entry of an EID (R113). -/
def localWord (eid : Nat) : Word := BitVec.ofNat 32 (2 ^ 31 + eid / 16384 * 2 ^ 29 + 2 ^ 28)

/-- Write a route entry in both copies. -/
def State.putRoute (s : State) (eid : Nat) (ws : List Word) : State :=
  let i := eid % 16384
  let ws := (List.range 8).map (fun w => ws.getD w 0 &&& BitVec.ofNat 32 (routeMask w))
  (s.setRegs (aRoute i 0) ws).setRegs (aRouteSh i 0) ws

/-- Perform a BIND whose payload serial is the device's own (R492). -/
def State.bindTo (s : State) (p : Prog) : State :=
  let b := p.payload
  let eid := field b 8 2
  let lead := field b 10 2
  let s := s.setRf aSelfEid 15 0 eid
  let s := s.putRoute eid [0, 0, 0, 0, localWord eid]
  let s := s.putRoute lead (bytesToWords 8 (b.drop 12))
  let s := { s with host := { s.host with
    bound := true, leadEid := lead, memberIdx := p.member, memCredit := 16, cut := false } }
  s.sendCuing 0x21 lead p.tag p.member (replyEntry p stOk (leBytes 8 Config.serial)).bytes [] stOk

/-- A BIND entry that has arrived at this device, with its scatter payload where it has one (R492): one for another
serial is discarded, one from a second lead refused. -/
def State.bindIn (s : State) (src : Nat) (e scatter : List Byte) : State :=
  let p := entProg e scatter .lead
  let st := s.entStatus e false
  if s.pwr.leadSel then s.mgtLost
  else if st ≠ stOk then (if s.selfEid = 0xFFFF then s.mgtLost else s.relayRefuse src p st)
  else if p.payload.length ≠ 44 ∨ field p.payload 0 8 ≠ Config.serial then s.mgtLost
  else if s.host.bound ∧ s.host.leadEid ≠ field p.payload 10 2 then s.relayRefuse src p stBusy
  else s.bindTo p

/-- BIND (R492): a device without an EID takes any BIND on a port in quarantine; one with an EID the BIND that is
addressed to it. -/
def execBind (port : Nat) (pkt : Pkt) (s : State) : Out :=
  let (ok, t) := s.sink port 0x20 pkt
  if !ok then .next t
  else if !t.plnUp ∨ pkt.data.length < 128 ∨ entOp pkt.data ≠ 0x0104 then .next t.mgtLost
  else if t.selfEid = 0xFFFF ∧ t.fwdEn port then .next t.mgtLost
  else .next (t.bindIn (hSrc pkt.hdr) (pkt.data.take 128) (segBytes pkt))

/-- Credit the lead returns with EVENT_CREDIT (R489): what waited is sent within it, EVENTS_LOST first where
events were discarded; at most n entries. -/
def State.memFlush (s : State) : Nat → State
  | 0 => s
  | n + 1 =>
    if s.host.memCredit = 0 then s
    else
      let send (s : State) (e : HostEntry) : State :=
        { s with host := { s.host with memCredit := s.host.memCredit - 1 } }.sendCuing 0x22 s.host.leadEid 0xFFFF
          s.host.memberIdx e.bytes [] e.status
      if s.host.evtGap ≠ 0 then
        let e := s.lostEntry
        (send { s with host := { s.host with evtGap := 0 } } e).memFlush n
      else
        match s.host.memEvts with
        | [] => s
        | e :: r => (send { s with host := { s.host with memEvts := r } } e).memFlush n

/-- The opcode EVENT_CREDIT (R489). -/
def opCredit : Nat := 0x0B7F

/-- CUING_CMD (R488, R491): a bound member puts the command of its lead together and serves it. -/
def execCuingCmd (port : Nat) (pkt : Pkt) (s : State) : Out :=
  let (ok, t) := s.sink port 0x20 pkt
  let e := pkt.data.take 128
  let tag := field pkt.hdr 16 2
  let m := byteAt pkt.hdr 18 % 64
  -- a BIND is taken by the command of its own row
  if entOp e = 0x0104 then .next s
  else if !ok then .next t
  else if !t.plnUp ∨ pkt.data.length < 128 then .next t.mgtLost
  else
    if !t.host.bound ∨ hSrc pkt.hdr ≠ t.host.leadEid then .next t.mgtLost
    else if entOp e = opCredit then
      let t := { t with host := { t.host with memCredit := min 16 (t.host.memCredit + byteAt e 32) } }
      .next (t.memFlush 16)
    else
      let l := addSeg t.host.relayIn tag m pkt
      match l.getLast? with
      | none => .next t
      | some r =>
        if !r.whole then
          -- a message that finds the four staging buffers (R489) taken waits for one
          if 4 < l.length then .next (t.sinkAgain port pkt)
          else .next { t with host := { t.host with relayIn := l } }
        else
          let t := { t with host := { t.host with relayIn := l.dropLast } }
          let p := entProg r.entry r.payload .lead
          let st := t.entStatus r.entry false
          if st ≠ stOk then .next (t.relayRefuse t.host.leadEid p st) else .next (t.accept p)

/-! ### Relay at the lead (R488 to R490) -/

/-- The reply entry that a relayed command's packets spell (R482, R488). -/
def relayReply (p : Prog) (r : Relay) : HostEntry :=
  let body := if r.total = 0 then slice r.entry 32 (field r.entry 8 3) else r.payload
  { replyEntry p (field r.entry 12 2) body with flags := byteAt r.entry 7 % 2 }

/-- A member is bound (R492, R494). -/
def State.bound (s : State) (p : Prog) : State :=
  (s.setMember p.member { bound := true, serial := field p.payload 0 8, eid := field p.payload 8 2, lost := false, credit := 16 }).event
    0x0180 0 (leBytes 1 p.member ++ leBytes 1 0)

/-- Write the whole reply of a relayed command to the host: each segment at DATA_ADDR and its offset, then the entry. -/
def State.relayDone (s : State) (p : Prog) (r : Relay) : State :=
  let e := relayReply p r
  let s := { s with host := { s.host with prog := delFirst (fun q => decide (q.tag = p.tag)) s.host.prog } }
  let s := if p.opcode = 0x0104 ∧ e.status = stOk then s.bound p else s
  if p.gone then s
  else s.replyWrite e (if r.total = 0 then [] else r.segs.map (fun x => (p.dataAddr + x.1, x.2)))

/-- CUING_RSP (R488, R490): a reply segment, or a notice of progress, which carries no entry. -/
def execCuingRsp (port : Nat) (pkt : Pkt) (s : State) : Out :=
  let (ok, t) := s.sink port 0x21 pkt
  if !ok ∨ (pkt.data.isEmpty ∧ hStatus pkt.hdr = stBusy) then .next t
  else if !t.plnUp ∨ pkt.data.length < 128 then .next t.mgtLost
  else
    let tag := field pkt.hdr 16 2
    let m := byteAt pkt.hdr 18 % 64
    match t.host.prog.find? (fun p => decide (p.tag = tag) && decide (p.origin = .relay m)) with
    | none =>
      if t.host.gaveUp.contains (m, tag) then
        let t := t.bump aCuing 7 4 1
        .next { t with host := { t.host with gaveUp := t.host.gaveUp.filter (fun x => x ≠ (m, tag)) } }
      else .next t.mgtLost
    | some p =>
      if hSrc pkt.hdr ≠ t.relayEid p then .next t.mgtLost
      else
        let l := addSeg t.host.relayBack tag m pkt
        match l.getLast? with
        | none => .next t
        | some r =>
          if r.whole then .next ({ t with host := { t.host with relayBack := l.dropLast } }.relayDone p r)
          else .next { t with host := { t.host with relayBack := l } }

/-- An event entry of a member, as its bytes spell it, with MEMBER set and in the minor of the lead's event ring
(R482, R487, R488). -/
def evtOf (m minor : Nat) (e : List Byte) : HostEntry where
  ring := 2
  idx := 0
  minor := minor
  opcode := field e 2 2
  tag := 0xFFFF
  member := m
  flags := 0
  status := field e 12 2
  dataAddr := 0
  capacity := 0
  payload := slice e 32 (min 96 (field e 8 3))

/-- CUING_EVT (R488, R489): one entry of a bound member, within the credit it holds. -/
def execCuingEvt (port : Nat) (pkt : Pkt) (s : State) : Out :=
  let (ok, t) := s.sink port 0x22 pkt
  let m := byteAt pkt.hdr 18 % 64
  let x := t.member m
  if !ok then .next t
  else if !t.plnUp ∨ pkt.data.length < 128 ∨ !x.bound ∨ hSrc pkt.hdr ≠ x.eid ∨ x.credit = 0 then .next t.mgtLost
  else .next ((t.setMember m { x with credit := x.credit - 1 }).eventIn (evtOf m (t.rf (aRing 2 + 8) 8 8) (pkt.data.take 128)))

/-- The entry of an EVENT_CREDIT for n slots: how it carries them is not stated (DESIGN CHOICE, log entry 30). -/
def creditEntry (m n : Nat) : HostEntry where
  ring := 0
  idx := 0
  minor := 1
  opcode := opCredit
  tag := 0xFFFF
  member := m
  flags := 0
  status := 0
  dataAddr := 0
  capacity := 0
  payload := leBytes 1 n

/-- EVENT_CREDIT (R489): the lead returns n of a member's 16 event slots. -/
def execEventCredit (m n : Nat) (s : State) : Out :=
  let x := s.member m
  if !s.plnUp ∨ !x.bound ∨ n = 0 ∨ 16 < x.credit + n ∨ s.rtGone x.eid ∨ s.fallback then .next s
  else
    let s := s.setMember m { x with credit := x.credit + n }
    .next (s.sendCuing 0x20 x.eid 0xFFFF m (creditEntry m n).bytes [] 0)

/-- The lead gives a relayed command up: it ends with a status, and a reply that comes late is discarded (R490). -/
def State.relayFails (s : State) (m tag st : Nat) : State :=
  if s.host.prog.any (fun p => decide (p.tag = tag) && decide (p.origin = .relay m)) then
    let s := { s with host := { s.host with
      gaveUp := s.host.gaveUp.filter (fun x => x ≠ (m, tag)) ++ [(m, tag)]
      relayBack := s.host.relayBack.filter (fun r => !(decide (r.tag = tag) && decide (r.member = m))) } }
    s.finish tag st []
  else s

/-- RELAY_TIMEOUT (R490). -/
def execRelayTimeout (m tag : Nat) (s : State) : Out := .next (s.relayFails m tag stTimeout)

/-- RELAY_PROGRESS_TIMER (R490): a member that serves a command for 10 ms more says so. -/
def execRelayProgressTimer (tag : Nat) (s : State) : Out :=
  match s.host.prog.find? (fun p => decide (p.tag = tag) && decide (p.origin = .lead)) with
  | none => .next s
  | some p => .next (s.sendCuing 0x21 s.host.leadEid tag p.member [] [] stBusy)

/-- ATTACH_CUT (R547). -/
def execAttachCut (s : State) : Out :=
  if s.host.bound ∧ !s.pwr.leadSel ∧ !s.leadPath then .next { s with host := { s.host with cut := true } } else .next s

/-! ### Table writes and window reads (R493) -/

/-- ROUTE_WRITE and MCAST_WRITE: entries into a shadow copy, not while a commit is BUSY (R143, R145). -/
def State.tableWrite (s : State) (tag opcode size most base : Nat) (mask : Nat → Nat) : State :=
  match s.cmd tag opcode with
  | none => s
  | some p =>
    let b := p.payload
    let i := field b 0 2
    let n := field b 2 2
    if n = 0 ∨ most < n ∨ most < i + n ∨ b.length ≠ 4 + size * n then s.finish tag stUnsup []
    else if s.rf aCommitSt 0 0 = 1 then s.finish tag stBusy []
    else
      let k := size / 4
      let ws := bytesToWords (k * n) (b.drop 4)
      let ws := (List.range (k * n)).map (fun j => ws.getD j 0 &&& BitVec.ofNat 32 (mask (j % k)))
      (s.setRegs (base + size * i) ws).finish tag stOk []

/-- ROUTE_WRITE (R493). -/
def execRouteWrite (tag : Nat) (s : State) : Out := .next (s.tableWrite tag 0x0203 32 16384 (aRouteSh 0 0) routeMask)
/-- MCAST_WRITE (R493). -/
def execMcastWrite (tag : Nat) (s : State) : Out := .next (s.tableWrite tag 0x0204 64 1024 (aMcastSh 0 0) mcastMask)

/-- IMAGE_LIST (R493): PLN_IMAGE_j and BUILD_ID of each index. -/
def execImageList (tag : Nat) (s : State) : Out :=
  .next (s.serve tag 0x0301 1536 (fun b => b.isEmpty) (fun s _ =>
    (s, stOk, (List.range 64).flatMap (fun j =>
      (List.range 4).flatMap (fun w => leBytes 4 (s.imageShown j w)) ++
        leBytes 8 (((s.image j).map (·.buildId)).getD 0)))))

/-- SLOT_READ (R493): the context, then as many layer lengths as fit. -/
def execSlotRead (tag : Nat) (s : State) : Out :=
  .next (s.serve tag 0x0504 64 (fun b => decide (b.length = 6) && decide (byteAt b 0 < 32) &&
      decide (field b 2 2 + field b 4 2 ≤ 4096)) (fun s p =>
    let n := byteAt p.payload 0
    let k := min (field p.payload 4 2) ((max 96 p.room - 64) / 4)
    (s, stOk, s.regBytes (aSlot n 0) 16 ++ s.regBytes (aLen n (field p.payload 2 2)) k)))

/-- REGION_SET (R493): judged in order, all three or none. -/
def execRegionSet (tag : Nat) (s : State) : Out :=
  .next (s.serve tag 0x0505 0 (fun b => decide (b.length = 12)) (fun s p =>
    let r := BitVec.ofNat 32 (field p.payload 0 4)
    let w := BitVec.ofNat 32 (field p.payload 4 4)
    -- reserved bits are ignored on receipt (R13)
    let l := putFld (BitVec.ofNat 32 (field p.payload 8 4)) 31 23 0
    let r := putFld r 22 16 0
    let moved := decide (r ≠ s.reg aSeqRegion)
    if moved && !regionOk r then (s, stState, [])
    else if moved && (!s.regionFree || s.regionBarred r) then (s.setRf aSeqSt 30 30 1, stState, [])
    else if !fabWinOk r w then (s.setRf aSeqSt 30 30 1, stState, [])
    else (((if moved then s.regionSet r else s).setReg aFabWin w).setReg aLendMax l, stOk, [])))

/-- EVENT_MASK (R493). -/
def execEventMask (tag : Nat) (s : State) : Out :=
  .next (s.serve tag 0x0B05 0 (fun b => decide (b.length = 2)) (fun s p =>
    ({ s with host := { s.host with evtMask := field p.payload 0 2 } }, stOk, [])))

/-! ### The PCIe function (R469 to R477, R547) -/

/-- The function of a lead is powered. -/
def State.hioUp (s : State) : Bool := s.pwr.leadSel && !s.isOff dHio

/-- The function resets: its configuration space and the ring registers are cleared, the rings disabled, and what is
in progress runs on with its replies discarded (R471). -/
def State.functionReset (s : State) : State :=
  let s := s.clearRegs (fun a => decide (a < 0x60))
  { s with host := { s.host with
    bme := false, d3hot := false, replyHeld := [], msixWait := [], msixQuiet := [], aerCorr := 0, aerNonfatal := 0, aerFatal := 0, urCount := 0
    doeOut := []
    prog := s.host.prog.map (fun p => match p.origin with | .lead => p | _ => { p with gone := true }) } }

/-- FLR (R471). -/
def execFlr (s : State) : Out := .next (if s.hioUp then s.functionReset else s)

/-- D3HOT_ENTRY (R471). -/
def execD3hotEntry (s : State) : Out :=
  if s.hioUp then
    let t := s.functionReset
    .next { t with host := { t.host with d3hot := true } }
  else .next s

/-- BUS_MASTER_ENABLE_WRITE (R471): a host that sets it has the function in D0 again. -/
def execBusMasterEnableWrite (b : Bool) (s : State) : Out :=
  if s.hioUp then
    let t := { s with host := { s.host with bme := b, d3hot := if b then false else s.host.d3hot } }
    .next (t.msiFlush.replyFlush.evtFlush 257)
  else .next s

/-- An access of the host that the device answers with an error (R472, R473, R476). -/
def State.badTlp (s : State) (isWrite : Bool) : State :=
  { s with host := { s.host with
    aerNonfatal := s.host.aerNonfatal + 1, urCount := s.host.urCount + (if isWrite then 0 else 1) } }

/-- The function answers the host: the link is up. -/
def State.hostUp (s : State) : Bool := s.hioUp && s.rf aHioLink 9 9 = 1

/-- BAR0_BAD_ACCESS (R472). -/
def execBar0BadAccess (isWrite : Bool) (s : State) : Out :=
  if s.hostUp then .next ((s.bump aHioErr 15 1 1).badTlp isWrite) else .next s

/-- APERTURE_BASE (R473). -/
def State.aperture (s : State) : Nat := s.rf aAperture 8 0 * gib

/-- One byte of HBM that BAR2 may reach (R473); a stack that is held OFF reaches nothing. -/
def State.bar2Byte (s : State) (isWrite : Bool) (a : Nat) : Bool :=
  !s.barred (dHbm (s.stackOf a)) &&
    (if a < s.genEnd then decide (a < s.relayBase) else !isWrite && !s.sealed)

/-- A TLP of n bytes at offset off is permitted: whole, under the stricter row (R473). -/
def State.bar2Ok (s : State) (isWrite : Bool) (off n : Nat) : Bool :=
  decide (0 < n) && decide (off + n ≤ 2 ^ 34) && (List.range n).all (fun i => s.bar2Byte isWrite (s.aperture + off + i))

/-- BAR2_WRITE (R473). -/
def execBar2Write (off : Nat) (bytes : List Byte) (s : State) : Out :=
  if !s.hostUp then .next s
  else if s.bar2Ok true off bytes.length then .next (s.memStore (s.aperture + off) bytes)
  else .next ((s.bump aHioErr 31 16 1).badTlp true)

/-- BAR2_READ (R473): the bytes go to the host. -/
def execBar2Read (off n : Nat) (s : State) : Out :=
  if !s.hostUp then .next s
  else if s.bar2Ok false off n then
    let (b, t) := s.memLoad (s.aperture + off) n
    .next { t with host := { t.host with bar2Out := b } }
  else .next ((s.bump aHioErr 31 16 1).badTlp false)

/-- HIO_FATAL_ERROR (R476): the link goes down until PERST_N or a hot reset. -/
def execHioFatalError (s : State) : Out :=
  if s.hioUp then
    let t := s.setRf aHioLink 9 9 0
    .next { t with host := { t.host with aerFatal := t.host.aerFatal + 1, linkDead := true } }
  else .next s

/-- PCIE_LINK_UP (R469): FLIT mode at 64 and 128 GT/s; at 32 GT/s the spec does not say (a free value). -/
def execPcieLinkUp (gen width : Nat) (s : State) : Out :=
  if s.hioUp ∧ !s.host.linkDead ∧ !s.pwr.perst ∧ 5 ≤ gen ∧ gen ≤ 7 ∧ (width = 1 ∨ width = 2 ∨ width = 4) then
    let (f, s) := if gen = 5 then s.draw else (1, s)
    let s := s.setReg aHioLink (BitVec.ofNat 32 (2 ^ 9 + f % 2 * 2 ^ 8 + width * 16 + gen))
    .next ((s.setRf aClk 3 3 1).msiFlush.replyFlush.evtFlush 257)
  else .next s

/-- PCIE_LINK_DOWN (R547). -/
def execPcieLinkDown (refclkLost : Bool) (s : State) : Out :=
  if s.hioUp then
    let t := s.setRf aHioLink 9 9 0
    .next (if refclkLost then t.setRf aClk 3 3 0 else t)
  else .next s

/-- PCIE_HOT_RESET (R476): the function resets, and the link that a fatal error took down returns. -/
def execPcieHotReset (s : State) : Out :=
  if s.hioUp ∧ !s.pwr.perst then
    let t := s.functionReset
    let t := { t with host := { t.host with linkDead := false } }
    .next (if t.rf aHioLink 3 0 = 0 then t else t.setRf aHioLink 9 9 1)
  else .next s

/-- DOE_ABORT (R477): the objects of the mailbox are discarded. -/
def execDoeAbort (s : State) : Out :=
  if s.hostUp then .next { s with host := { s.host with doeOut := [] } } else .next s

end Sys2Proof.Machine
end

