-- ==== Sys2Proof/Machine/Age.lean ====
section
/-!
DEFINITION. Sys2Proof/Machine/Age.lean: the age limit (R170): a packet whose header has stood at the head of a queue
for longer than AGE_LIMIT is discarded, and what it belonged to fails.
-/

namespace Sys2Proof.Machine

/-- A contribution of a join has aged: the join ends (R170, R366, R370). -/
def State.joinAged (s : State) (h : List Byte) : State :=
  let hit (j : Join) : Bool :=
    decide (j.eid = hDst h) && decide (j.group = bits (field h 16 2) 10 0) && decide (j.epoch = byteAt h 29) &&
      decide (j.member = bits (field h 18 2) 12 0)
  (s.ctxs.flatMap (fun e => e.2.joins.filterMap (fun y => match y.2 with
    | some j => if hit j then some (e.1, y.1) else none
    | none => none))).foldl (fun s y =>
      match s.join y.1 y.2 with
      | some j => if j.isGate then s.gateEnd y.1 y.2 stAged
        else if j.status.isSome then s else s.setJoin y.1 y.2 (some { j with status := some stAged })
      | none => s) s

/-- A packet that the device originated has aged: its operation fails at once (R170).  It is a request of a window, a
WOPEN, a contribution or a relayed command; a packet of another type belongs to no operation of the device. -/
def State.ownAged (s : State) (h : List Byte) : State :=
  let t := hType h
  if t = 1 ∨ t = 2 ∨ t = 3 ∨ t = 4 ∨ t = 0x28 ∨ t = 0x29 then
    (s.opEnd (hDst h) (hFlow h) (hFsn h) .aged ⟨stAged, [], []⟩).ownStep.mirrorPush
  else if t = 5 then
    match s.ctxOf (hFlow h) with
    | some w => if s.awaitsGrant w (hDst h) (hFsn h) then (s.granted w stAged 0 0 0 false).ownStep else s
    | none => s
  else if t = 0x10 then s.joinAged h
  else if t = 0x20 then s.relayFails (bits (byteAt h 18) 5 0) (field h 16 2) stAged
  else s

/-- AGE_LIMIT_EXPIRE (R170): a packet that waits at the head of queue q, channel vc, is discarded and counted;
never one that only the device's own congestion holds back (R160). -/
def execAgeLimitExpire (q vc : Nat) (s : State) : Out :=
  match s.takeWaiting q vc (fun _ => true) with
  | none => .next s
  | some (k, t) =>
    let s := (((t.pktGone k).bump (aCongErr 0) 31 16 1).evDev 0x83 1)
    let s := s.copyLost k
    .next (if 128 ≤ q ∧ k.mc.isNone then s.ownAged k.hdr else s)

end Sys2Proof.Machine
end

