-- ==== Sys2Proof/Machine/Dispatch.lean ====
section
/-!
DEFINITION. Sys2Proof/Machine/Dispatch.lean: each command of the table and the meaning it has.
-/

namespace Sys2Proof.Machine

/-- The effect of a command on everything but the queue. -/
def exec (i : Instr) (s : State) : Host.Outcome State Fault Refusal :=
  match i with
  | .vinAonApply => Sys2Proof.Machine.execVinAonApply s
  | .vinAonLoss => Sys2Proof.Machine.execVinAonLoss s
  | .vinMainLoss => Sys2Proof.Machine.execVinMainLoss s
  | .mainPowerGood leadSel bootSrc => Sys2Proof.Machine.execMainPowerGood leadSel bootSrc s
  | .pllLockDone => Sys2Proof.Machine.execPllLockDone s
  | .clusterSramBistDone c pass => Sys2Proof.Machine.execClusterSramBistDone c pass s
  | .hbmPairTrained pair pass0 pass1 => Sys2Proof.Machine.execHbmPairTrained pair pass0 pass1 s
  | .bootComplete => Sys2Proof.Machine.execBootComplete s
  | .vinIoLoss => Sys2Proof.Machine.execVinIoLoss s
  | .vinIoReturn => Sys2Proof.Machine.execVinIoReturn s
  | .refclkFabLoss => Sys2Proof.Machine.execRefclkFabLoss s
  | .refclkFabReturn => Sys2Proof.Machine.execRefclkFabReturn s
  | .aonTrim => Sys2Proof.Machine.execAonTrim s
  | .supplyAlertAssert => Sys2Proof.Machine.execSupplyAlertAssert s
  | .supplyAlertClear => Sys2Proof.Machine.execSupplyAlertClear s
  | .flowAlert => Sys2Proof.Machine.execFlowAlert s
  | .flowAlertClear => Sys2Proof.Machine.execFlowAlertClear s
  | .isoStatusFrameRx bytes => Sys2Proof.Machine.execIsoStatusFrameRx bytes s
  | .isoLostTimeout => Sys2Proof.Machine.execIsoLostTimeout s
  | .demandFrameTx => Sys2Proof.Machine.execDemandFrameTx s
  | .isoStatusClear path v => Sys2Proof.Machine.execIsoStatusClear path v s
  | .domainRun tag => Sys2Proof.Machine.execDomainRun tag s
  | .domainOff tag => Sys2Proof.Machine.execDomainOff tag s
  | .domainExitDone d => Sys2Proof.Machine.execDomainExitDone d s
  | .shuClockSwitch c => Sys2Proof.Machine.execShuClockSwitch c s
  | .deepIdleEnter => Sys2Proof.Machine.execDeepIdleEnter s
  | .linkFrameRx p wrong bytes => Sys2Proof.Machine.execLinkFrameRx p wrong bytes s
  | .linkFrameTx p => Sys2Proof.Machine.execLinkFrameTx p s
  | .retryTimerExpire p => Sys2Proof.Machine.execRetryTimerExpire p s
  | .linkSilentTimeout p => Sys2Proof.Machine.execLinkSilentTimeout p s
  | .trainParams p msg => Sys2Proof.Machine.execTrainParams p msg s
  | .trainAck p msg => Sys2Proof.Machine.execTrainAck p msg s
  | .holdReq p msg => Sys2Proof.Machine.execHoldReq p msg s
  | .holdAck p msg => Sys2Proof.Machine.execHoldAck p msg s
  | .wake p msg => Sys2Proof.Machine.execWake p msg s
  | .width p msg => Sys2Proof.Machine.execWidth p msg s
  | .widthAck p msg => Sys2Proof.Machine.execWidthAck p msg s
  | .paceRx p msg => Sys2Proof.Machine.execPaceRx p msg s
  | .downNotice p msg => Sys2Proof.Machine.execDownNotice p msg s
  | .resync p msg => Sys2Proof.Machine.execResync p msg s
  | .ctrlMsgResend p typ => Sys2Proof.Machine.execCtrlMsgResend p typ s
  | .linkTrainStart p => Sys2Proof.Machine.execLinkTrainStart p s
  | .trainComplete p => Sys2Proof.Machine.execTrainComplete p s
  | .trainTimeout p => Sys2Proof.Machine.execTrainTimeout p s
  | .holdLimitExpire p => Sys2Proof.Machine.execHoldLimitExpire p s
  | .downRetrainTimer p => Sys2Proof.Machine.execDownRetrainTimer p s
  | .laneRetire p lane => Sys2Proof.Machine.execLaneRetire p lane s
  | .laneLendTimeout p => Sys2Proof.Machine.execLaneLendTimeout p s
  | .wakePatternDetect p => Sys2Proof.Machine.execWakePatternDetect p s
  | .portCfgWrite path p v => Sys2Proof.Machine.execPortCfgWrite path p v s
  | .portCreditWrite path p ch v => Sys2Proof.Machine.execPortCreditWrite path p ch v s
  | .portLinkErrClear path p v => Sys2Proof.Machine.execPortLinkErrClear path p v s
  | .portQuarErrClear path p v => Sys2Proof.Machine.execPortQuarErrClear path p v s
  | .paceResend p => Sys2Proof.Machine.execPaceResend p s
  | .paceRelease p vc => Sys2Proof.Machine.execPaceRelease p vc s
  | .linkRestTimer p => Sys2Proof.Machine.execLinkRestTimer p s
  | .linkDarkTimer p => Sys2Proof.Machine.execLinkDarkTimer p s
  | .pktHeaderArrive q vc => Sys2Proof.Machine.execPktHeaderArrive q vc s
  | .pktPortRetry q vc => Sys2Proof.Machine.execPktPortRetry q vc s
  | .selEscape q vc => Sys2Proof.Machine.execSelEscape q vc s
  | .ageLimitExpire q vc => Sys2Proof.Machine.execAgeLimitExpire q vc s
  | .opTimeout dst flow fsn => Sys2Proof.Machine.execOpTimeout dst flow fsn s
  | .put port pkt => Sys2Proof.Machine.execPut port pkt s
  | .get port pkt => Sys2Proof.Machine.execGet port pkt s
  | .atomic port pkt => Sys2Proof.Machine.execAtomic port pkt s
  | .call port pkt => Sys2Proof.Machine.execCall port pkt s
  | .wopen port pkt => Sys2Proof.Machine.execWopen port pkt s
  | .wclose port pkt => Sys2Proof.Machine.execWclose port pkt s
  | .putAck port pkt => Sys2Proof.Machine.execPutAck port pkt s
  | .getData port pkt => Sys2Proof.Machine.execGetData port pkt s
  | .atomicRsp port pkt => Sys2Proof.Machine.execAtomicRsp port pkt s
  | .callDone port pkt => Sys2Proof.Machine.execCallDone port pkt s
  | .wgrant port pkt => Sys2Proof.Machine.execWgrant port pkt s
  | .contrib port pkt => Sys2Proof.Machine.execContrib port pkt s
  | .result port pkt => Sys2Proof.Machine.execResult port pkt s
  | .groupFail port pkt => Sys2Proof.Machine.execGroupFail port pkt s
  | .cuingCmd port pkt => Sys2Proof.Machine.execCuingCmd port pkt s
  | .cuingRsp port pkt => Sys2Proof.Machine.execCuingRsp port pkt s
  | .cuingEvt port pkt => Sys2Proof.Machine.execCuingEvt port pkt s
  | .mapReport port pkt => Sys2Proof.Machine.execMapReport port pkt s
  | .pairHb port pkt => Sys2Proof.Machine.execPairHb port pkt s
  | .mirror port pkt => Sys2Proof.Machine.execMirror port pkt s
  | .migrate port pkt => Sys2Proof.Machine.execMigrate port pkt s
  | .winIdleExpire src dst flow => Sys2Proof.Machine.execWinIdleExpire src dst flow s
  | .reorderTimeout src dst flow => Sys2Proof.Machine.execReorderTimeout src dst flow s
  | .commitStart src => Sys2Proof.Machine.execCommitStart src s
  | .commitSync src => Sys2Proof.Machine.execCommitSync src s
  | .commitAbort src => Sys2Proof.Machine.execCommitAbort src s
  | .commitValidateDone => Sys2Proof.Machine.execCommitValidateDone s
  | .commitDrained => Sys2Proof.Machine.execCommitDrained s
  | .drainLimitExpire => Sys2Proof.Machine.execDrainLimitExpire s
  | .rtePktErrClear path v => Sys2Proof.Machine.execRtePktErrClear path v s
  | .rteFlowErrClear path v => Sys2Proof.Machine.execRteFlowErrClear path v s
  | .rteCongErrClear path v => Sys2Proof.Machine.execRteCongErrClear path v s
  | .bobApply path c v => Sys2Proof.Machine.execBobApply path c v s
  | .bobDrawServed c cls => Sys2Proof.Machine.execBobDrawServed c cls s
  | .bobDfLogClear path c v => Sys2Proof.Machine.execBobDfLogClear path c v s
  | .bobErrClear path c v => Sys2Proof.Machine.execBobErrClear path c v s
  | .groupAdmit src => Sys2Proof.Machine.execGroupAdmit src s
  | .groupAdmitDone => Sys2Proof.Machine.execGroupAdmitDone s
  | .groupRelease src => Sys2Proof.Machine.execGroupRelease src s
  | .groupReleaseDrained g => Sys2Proof.Machine.execGroupReleaseDrained g s
  | .groupRearm src => Sys2Proof.Machine.execGroupRearm src s
  | .releaseWave g chunk w => Sys2Proof.Machine.execReleaseWave g chunk w s
  | .chunkTimeout g gc => Sys2Proof.Machine.execChunkTimeout g gc s
  | .gateGrant g => Sys2Proof.Machine.execGateGrant g s
  | .gateTimeout g => Sys2Proof.Machine.execGateTimeout g s
  | .rteGrpErrClear path v => Sys2Proof.Machine.execRteGrpErrClear path v s
  | .reedErrClear path c v => Sys2Proof.Machine.execReedErrClear path c v s
  | .seqRegionWrite path v => Sys2Proof.Machine.execSeqRegionWrite path v s
  | .serviceReloadDone => Sys2Proof.Machine.execServiceReloadDone s
  | .slotOpen src => Sys2Proof.Machine.execSlotOpen src s
  | .slotRelease src => Sys2Proof.Machine.execSlotRelease src s
  | .slotReleaseDone slot => Sys2Proof.Machine.execSlotReleaseDone slot s
  | .evacuate src => Sys2Proof.Machine.execEvacuate src s
  | .evacPageMoved => Sys2Proof.Machine.execEvacPageMoved s
  | .evacOldFrameFree frame => Sys2Proof.Machine.execEvacOldFrameFree frame s
  | .evacAbort src => Sys2Proof.Machine.execEvacAbort src s
  | .allocBack src => Sys2Proof.Machine.execAllocBack src s
  | .recall src => Sys2Proof.Machine.execRecall src s
  | .recallPageDone slot => Sys2Proof.Machine.execRecallPageDone slot s
  | .reclaim src => Sys2Proof.Machine.execReclaim src s
  | .seqErrClear path v => Sys2Proof.Machine.execSeqErrClear path v s
  | .libDecode item => Sys2Proof.Machine.execLibDecode item s
  | .libPrefill item => Sys2Proof.Machine.execLibPrefill item s
  | .libLatentDecode item => Sys2Proof.Machine.execLibLatentDecode item s
  | .libAppend item => Sys2Proof.Machine.execLibAppend item s
  | .libRead item => Sys2Proof.Machine.execLibRead item s
  | .libLend item => Sys2Proof.Machine.execLibLend item s
  | .libReturn item => Sys2Proof.Machine.execLibReturn item s
  | .imageLoad tag => Sys2Proof.Machine.execImageLoad tag s
  | .imageVerifyDone ok => Sys2Proof.Machine.execImageVerifyDone ok s
  | .imageCopyDone => Sys2Proof.Machine.execImageCopyDone s
  | .imageUnload tag => Sys2Proof.Machine.execImageUnload tag s
  | .imageDrainDone idx => Sys2Proof.Machine.execImageDrainDone idx s
  | .workItemDispatch c => Sys2Proof.Machine.execWorkItemDispatch c s
  | .benchWaitExpire c q => Sys2Proof.Machine.execBenchWaitExpire c q s
  | .runLimitExpire x => Sys2Proof.Machine.execRunLimitExpire x s
  | .queueWrite src => Sys2Proof.Machine.execQueueWrite src s
  | .shedErrClear path c v => Sys2Proof.Machine.execShedErrClear path c v s
  | .sop x et fn b a d => Sys2Proof.Machine.execSop x et fn b a d s
  | .addi x imm a d => Sys2Proof.Machine.execAddi x imm a d s
  | .andi x imm a d => Sys2Proof.Machine.execAndi x imm a d s
  | .ori x imm a d => Sys2Proof.Machine.execOri x imm a d s
  | .xori x imm a d => Sys2Proof.Machine.execXori x imm a d s
  | .shi x imm a d => Sys2Proof.Machine.execShi x imm a d s
  | .slti x imm a d => Sys2Proof.Machine.execSlti x imm a d s
  | .sli x imm a d => Sys2Proof.Machine.execSli x imm a d s
  | .smul x et fn b a d => Sys2Proof.Machine.execSmul x et fn b a d s
  | .scmp x et fn b a d => Sys2Proof.Machine.execScmp x et fn b a d s
  | .fop x et fn b a d => Sys2Proof.Machine.execFop x et fn b a d s
  | .fmad x et fn b a d => Sys2Proof.Machine.execFmad x et fn b a d s
  | .fcmp x et fn b a d => Sys2Proof.Machine.execFcmp x et fn b a d s
  | .scvt x et fn b a d => Sys2Proof.Machine.execScvt x et fn b a d s
  | .vint x et pred vfn b a d => Sys2Proof.Machine.execVint x et pred vfn b a d s
  | .vfp x et pred vfn b a d => Sys2Proof.Machine.execVfp x et pred vfn b a d s
  | .vfma x et pred vfn b a d => Sys2Proof.Machine.execVfma x et pred vfn b a d s
  | .vcmp x et pred vfn b a d => Sys2Proof.Machine.execVcmp x et pred vfn b a d s
  | .vplog x et pred vfn b a d => Sys2Proof.Machine.execVplog x et pred vfn b a d s
  | .vred x et pred vfn b a d => Sys2Proof.Machine.execVred x et pred vfn b a d s
  | .vperm x et pred vfn b a d => Sys2Proof.Machine.execVperm x et pred vfn b a d s
  | .vbcast x et pred vfn b a d => Sys2Proof.Machine.execVbcast x et pred vfn b a d s
  | .vcvt x et pred vfn b a d => Sys2Proof.Machine.execVcvt x et pred vfn b a d s
  | .vmxcvt x et pred vfn b a d => Sys2Proof.Machine.execVmxcvt x et pred vfn b a d s
  | .vsfn x et pred vfn b a d => Sys2Proof.Machine.execVsfn x et pred vfn b a d s
  | .vtopk x et pred vfn b a d => Sys2Proof.Machine.execVtopk x et pred vfn b a d s
  | .mld x et pred vfn b a d => Sys2Proof.Machine.execMld x et pred vfn b a d s
  | .mst x et pred vfn b a d => Sys2Proof.Machine.execMst x et pred vfn b a d s
  | .mma x et pred vfn b a d => Sys2Proof.Machine.execMma x et pred vfn b a d s
  | .mmx x et pred vfn b a d => Sys2Proof.Machine.execMmx x et pred vfn b a d s
  | .mzero x et pred vfn b a d => Sys2Proof.Machine.execMzero x et pred vfn b a d s
  | .mtov x et pred vfn b a d => Sys2Proof.Machine.execMtov x et pred vfn b a d s
  | .ld x et fn b a d => Sys2Proof.Machine.execLd x et fn b a d s
  | .st x et fn b a d => Sys2Proof.Machine.execSt x et fn b a d s
  | .ldi x imm a d => Sys2Proof.Machine.execLdi x imm a d s
  | .sti x imm a d => Sys2Proof.Machine.execSti x imm a d s
  | .vld x et pred vfn b a d => Sys2Proof.Machine.execVld x et pred vfn b a d s
  | .vst x et pred vfn b a d => Sys2Proof.Machine.execVst x et pred vfn b a d s
  | .vgth x et pred vfn b a d => Sys2Proof.Machine.execVgth x et pred vfn b a d s
  | .vsct x et pred vfn b a d => Sys2Proof.Machine.execVsct x et pred vfn b a d s
  | .mcpyIssue x et fn b a d => Sys2Proof.Machine.execMcpyIssue x et fn b a d s
  | .mcpyWait x et fn b a d => Sys2Proof.Machine.execMcpyWait x et fn b a d s
  | .mcpyWaitall x et fn b a d => Sys2Proof.Machine.execMcpyWaitall x et fn b a d s
  | .asyncCopyDone x k => Sys2Proof.Machine.execAsyncCopyDone x k s
  | .hndDraw x et fn b a d => Sys2Proof.Machine.execHndDraw x et fn b a d s
  | .hndFree x et fn b a d => Sys2Proof.Machine.execHndFree x et fn b a d s
  | .hndHget x et fn b a d => Sys2Proof.Machine.execHndHget x et fn b a d s
  | .hndHput x et fn b a d => Sys2Proof.Machine.execHndHput x et fn b a d s
  | .latm x et fn b a d => Sys2Proof.Machine.execLatm x et fn b a d s
  | .fput x et fn b a d => Sys2Proof.Machine.execFput x et fn b a d s
  | .fget x et fn b a d => Sys2Proof.Machine.execFget x et fn b a d s
  | .fatm x et fn b a d => Sys2Proof.Machine.execFatm x et fn b a d s
  | .fcall x et fn b a d => Sys2Proof.Machine.execFcall x et fn b a d s
  | .issueStallRelease x => Sys2Proof.Machine.execIssueStallRelease x s
  | .fopen x et fn b a d => Sys2Proof.Machine.execFopen x et fn b a d s
  | .fclose x et fn b a d => Sys2Proof.Machine.execFclose x et fn b a d s
  | .fwaitAll x et fn b a d => Sys2Proof.Machine.execFwaitAll x et fn b a d s
  | .fwaitUpto x et fn b a d => Sys2Proof.Machine.execFwaitUpto x et fn b a d s
  | .fwaitPoll x et fn b a d => Sys2Proof.Machine.execFwaitPoll x et fn b a d s
  | .cjoin x et fn b a d => Sys2Proof.Machine.execCjoin x et fn b a d s
  | .cwaitWait x et fn b a d => Sys2Proof.Machine.execCwaitWait x et fn b a d s
  | .cwaitPoll x et fn b a d => Sys2Proof.Machine.execCwaitPoll x et fn b a d s
  | .crel x et fn b a d => Sys2Proof.Machine.execCrel x et fn b a d s
  | .tgate x et fn b a d => Sys2Proof.Machine.execTgate x et fn b a d s
  | .joinTimeout x j => Sys2Proof.Machine.execJoinTimeout x j s
  | .sapp x et fn b a d => Sys2Proof.Machine.execSapp x et fn b a d s
  | .sappPerformed x k => Sys2Proof.Machine.execSappPerformed x k s
  | .sgath x et fn b a d => Sys2Proof.Machine.execSgath x et fn b a d s
  | .smapAddr x et fn b a d => Sys2Proof.Machine.execSmapAddr x et fn b a d s
  | .smapPte x et fn b a d => Sys2Proof.Machine.execSmapPte x et fn b a d s
  | .smapLen x et fn b a d => Sys2Proof.Machine.execSmapLen x et fn b a d s
  | .srel x et fn b a d => Sys2Proof.Machine.execSrel x et fn b a d s
  | .br x ofs b a cond => Sys2Proof.Machine.execBr x ofs b a cond s
  | .jal x imm a d => Sys2Proof.Machine.execJal x imm a d s
  | .jalr x imm a d => Sys2Proof.Machine.execJalr x imm a d s
  | .ctlr x imm a d => Sys2Proof.Machine.execCtlr x imm a d s
  | .ctlw x imm a d => Sys2Proof.Machine.execCtlw x imm a d s
  | .cntr x imm a d => Sys2Proof.Machine.execCntr x imm a d s
  | .yield x et fn b a d => Sys2Proof.Machine.execYield x et fn b a d s
  | .trap x et fn b a d => Sys2Proof.Machine.execTrap x et fn b a d s
  | .halt x et fn b a d => Sys2Proof.Machine.execHalt x et fn b a d s
  | .msync x et fn b a d => Sys2Proof.Machine.execMsync x et fn b a d s
  | .treadleStep pkg dom => Sys2Proof.Machine.execTreadleStep pkg dom s
  | .clusterShareUpdate => Sys2Proof.Machine.execClusterShareUpdate s
  | .capWordWrite path v => Sys2Proof.Machine.execCapWordWrite path v s
  | .capHoldExpire => Sys2Proof.Machine.execCapHoldExpire s
  | .capFallbackExpire => Sys2Proof.Machine.execCapFallbackExpire s
  | .hostCap src => Sys2Proof.Machine.execHostCap src s
  | .sleep src => Sys2Proof.Machine.execSleep src s
  | .hostCfg tag => Sys2Proof.Machine.execHostCfg tag s
  | .trdAlertClear path v => Sys2Proof.Machine.execTrdAlertClear path v s
  | .trdErrClear path v => Sys2Proof.Machine.execTrdErrClear path v s
  | .powerReportRead path d => Sys2Proof.Machine.execPowerReportRead path d s
  | .powerRead tag => Sys2Proof.Machine.execPowerRead tag s
  | .powerReports tag => Sys2Proof.Machine.execPowerReports tag s
  | .swGateTimer c => Sys2Proof.Machine.execSwGateTimer c s
  | .shuGateTimer c => Sys2Proof.Machine.execShuGateTimer c s
  | .shuRetainTimer c => Sys2Proof.Machine.execShuRetainTimer c s
  | .reedGateTimer c => Sys2Proof.Machine.execReedGateTimer c s
  | .reedRetainTimer c => Sys2Proof.Machine.execReedRetainTimer c s
  | .hbmSrTimer n => Sys2Proof.Machine.execHbmSrTimer n s
  | .thermalSample readings => Sys2Proof.Machine.execThermalSample readings s
  | .sensorPlausibilityTimer sensor => Sys2Proof.Machine.execSensorPlausibilityTimer sensor s
  | .rungReleaseTimer rung c => Sys2Proof.Machine.execRungReleaseTimer rung c s
  | .ladderStepTimer => Sys2Proof.Machine.execLadderStepTimer s
  | .thermtripAssert sensor => Sys2Proof.Machine.execThermtripAssert sensor s
  | .tripLatchClear path v => Sys2Proof.Machine.execTripLatchClear path v s
  | .coolantSample tin tout => Sys2Proof.Machine.execCoolantSample tin tout s
  | .coolDtTimer which => Sys2Proof.Machine.execCoolDtTimer which s
  | .leakSample ohms => Sys2Proof.Machine.execLeakSample ohms s
  | .leakDryTimer => Sys2Proof.Machine.execLeakDryTimer s
  | .cartPresenceQualified k => Sys2Proof.Machine.execCartPresenceQualified k s
  | .cartPull k => Sys2Proof.Machine.execCartPull k s
  | .cartRemove src => Sys2Proof.Machine.execCartRemove src s
  | .cartInspect src => Sys2Proof.Machine.execCartInspect src s
  | .cartIdentityReadDone k record valid => Sys2Proof.Machine.execCartIdentityReadDone k record valid s
  | .inspectionDone k scores => Sys2Proof.Machine.execInspectionDone k scores s
  | .sensors tag => Sys2Proof.Machine.execSensors tag s
  | .zones tag => Sys2Proof.Machine.execZones tag s
  | .coolCfg tag => Sys2Proof.Machine.execCoolCfg tag s
  | .cartStatus tag => Sys2Proof.Machine.execCartStatus tag s
  | .scores tag => Sys2Proof.Machine.execScores tag s
  | .cartIdentity tag => Sys2Proof.Machine.execCartIdentity tag s
  | .componentFault id cause => Sys2Proof.Machine.execComponentFault id cause s
  | .componentWatchdog id => Sys2Proof.Machine.execComponentWatchdog id s
  | .coreWatchdog core => Sys2Proof.Machine.execCoreWatchdog core s
  | .componentRestartDone id => Sys2Proof.Machine.execComponentRestartDone id s
  | .kernelFault cause => Sys2Proof.Machine.execKernelFault cause s
  | .complexRestartDone => Sys2Proof.Machine.execComplexRestartDone s
  | .secCoreFault => Sys2Proof.Machine.execSecCoreFault s
  | .treadleCoreFault => Sys2Proof.Machine.execTreadleCoreFault s
  | .schedulerCoreFault => Sys2Proof.Machine.execSchedulerCoreFault s
  | .controlCoreFault c => Sys2Proof.Machine.execControlCoreFault c s
  | .delegateRestartDone d => Sys2Proof.Machine.execDelegateRestartDone d s
  | .fwStage tag => Sys2Proof.Machine.execFwStage tag s
  | .stageVerifyDone => Sys2Proof.Machine.execStageVerifyDone s
  | .activateLive src => Sys2Proof.Machine.execActivateLive src s
  | .activateReset src => Sys2Proof.Machine.execActivateReset src s
  | .fwCancel src => Sys2Proof.Machine.execFwCancel src s
  | .fwCommit src => Sys2Proof.Machine.execFwCommit src s
  | .activationComponentDone => Sys2Proof.Machine.execActivationComponentDone s
  | .activationResume => Sys2Proof.Machine.execActivationResume s
  | .probationExpire => Sys2Proof.Machine.execProbationExpire s
  | .revertDone => Sys2Proof.Machine.execRevertDone s
  | .fwStatus tag => Sys2Proof.Machine.execFwStatus tag s
  | .policyWrite tag => Sys2Proof.Machine.execPolicyWrite tag s
  | .spdm tag => Sys2Proof.Machine.execSpdm tag s
  | .doeRequest bytes => Sys2Proof.Machine.execDoeRequest bytes s
  | .debugNonce tag => Sys2Proof.Machine.execDebugNonce tag s
  | .debugToken tag => Sys2Proof.Machine.execDebugToken tag s
  | .nonceExpire => Sys2Proof.Machine.execNonceExpire s
  | .plnLogLostClear path v => Sys2Proof.Machine.execPlnLogLostClear path v s
  | .logRead tag => Sys2Proof.Machine.execLogRead tag s
  | .traceCatalogue tag => Sys2Proof.Machine.execTraceCatalogue tag s
  | .identify tag => Sys2Proof.Machine.execIdentify tag s
  | .version tag => Sys2Proof.Machine.execVersion tag s
  | .digest tag => Sys2Proof.Machine.execDigest tag s
  | .cqDoorbell path v => Sys2Proof.Machine.execCqDoorbell path v s
  | .rqDoorbell path v => Sys2Proof.Machine.execRqDoorbell path v s
  | .eqDoorbell path v => Sys2Proof.Machine.execEqDoorbell path v s
  | .ringEnable path ring v => Sys2Proof.Machine.execRingEnable path ring v s
  | .commandTake entry scatter => Sys2Proof.Machine.execCommandTake entry scatter s
  | .regRead tag => Sys2Proof.Machine.execRegRead tag s
  | .regWrite tag => Sys2Proof.Machine.execRegWrite tag s
  | .routeWrite tag => Sys2Proof.Machine.execRouteWrite tag s
  | .mcastWrite tag => Sys2Proof.Machine.execMcastWrite tag s
  | .imageList tag => Sys2Proof.Machine.execImageList tag s
  | .groupWrite src => Sys2Proof.Machine.execGroupWrite src s
  | .groupRead tag => Sys2Proof.Machine.execGroupRead tag s
  | .slotRead tag => Sys2Proof.Machine.execSlotRead tag s
  | .regionSet tag => Sys2Proof.Machine.execRegionSet tag s
  | .bind port pkt => Sys2Proof.Machine.execBind port pkt s
  | .eventMask tag => Sys2Proof.Machine.execEventMask tag s
  | .eventCredit m n => Sys2Proof.Machine.execEventCredit m n s
  | .mapRead tag => Sys2Proof.Machine.execMapRead tag s
  | .mapCfg tag => Sys2Proof.Machine.execMapCfg tag s
  | .relayTimeout m tag => Sys2Proof.Machine.execRelayTimeout m tag s
  | .relayProgressTimer tag => Sys2Proof.Machine.execRelayProgressTimer tag s
  | .msixCoalesceTimer v => Sys2Proof.Machine.execMsixCoalesceTimer v s
  | .flr => Sys2Proof.Machine.execFlr s
  | .d3hotEntry => Sys2Proof.Machine.execD3hotEntry s
  | .perstAssert => Sys2Proof.Machine.execPerstAssert s
  | .perstDeassert => Sys2Proof.Machine.execPerstDeassert s
  | .bar0BadAccess isWrite => Sys2Proof.Machine.execBar0BadAccess isWrite s
  | .bar2Write off bytes => Sys2Proof.Machine.execBar2Write off bytes s
  | .bar2Read off n => Sys2Proof.Machine.execBar2Read off n s
  | .hioFatalError => Sys2Proof.Machine.execHioFatalError s
  | .hioErrClear path v => Sys2Proof.Machine.execHioErrClear path v s
  | .pairConfig tag => Sys2Proof.Machine.execPairConfig tag s
  | .pairStatus tag => Sys2Proof.Machine.execPairStatus tag s
  | .pairSwap tag => Sys2Proof.Machine.execPairSwap tag s
  | .swapAbdicate => Sys2Proof.Machine.execSwapAbdicate s
  | .heartbeatTx => Sys2Proof.Machine.execHeartbeatTx s
  | .hbFrameRx bytes => Sys2Proof.Machine.execHbFrameRx bytes s
  | .hbPathSilent inband => Sys2Proof.Machine.execHbPathSilent inband s
  | .selectorSwitchDone k selStatus => Sys2Proof.Machine.execSelectorSwitchDone k selStatus s
  | .takeoverComplete gap => Sys2Proof.Machine.execTakeoverComplete gap s
  | .selectorPoll statuses => Sys2Proof.Machine.execSelectorPoll statuses s
  | .pairMsgItem port pkt => Sys2Proof.Machine.execPairMsgItem port pkt s
  | .pairMsgAck port pkt => Sys2Proof.Machine.execPairMsgAck port pkt s
  | .pairMsgBaselineStart port pkt => Sys2Proof.Machine.execPairMsgBaselineStart port pkt s
  | .pairMsgBaselineEnd port pkt => Sys2Proof.Machine.execPairMsgBaselineEnd port pkt s
  | .pairMsgAbdicate port pkt => Sys2Proof.Machine.execPairMsgAbdicate port pkt s
  | .mirrorAckTimeout => Sys2Proof.Machine.execMirrorAckTimeout s
  | .epochMirrorTimer => Sys2Proof.Machine.execEpochMirrorTimer s
  | .dvtErrClear path v => Sys2Proof.Machine.execDvtErrClear path v s
  | .counterOverflow id => Sys2Proof.Machine.execCounterOverflow id s
  | .sampleCapture x => Sys2Proof.Machine.execSampleCapture x s
  | .counterRead path id => Sys2Proof.Machine.execCounterRead path id s
  | .counterCfgWrite path id v => Sys2Proof.Machine.execCounterCfgWrite path id v s
  | .mapIntervalEnd => Sys2Proof.Machine.execMapIntervalEnd s
  | .cntMapErrClear path v => Sys2Proof.Machine.execCntMapErrClear path v s
  | .hbmEccClear path n v => Sys2Proof.Machine.execHbmEccClear path n v s
  | .attachCut => Sys2Proof.Machine.execAttachCut s
  | .warmReset tag => Sys2Proof.Machine.execWarmReset tag s
  | .fabricReset tag => Sys2Proof.Machine.execFabricReset tag s
  | .clusterReset tag => Sys2Proof.Machine.execClusterReset tag s
  | .portReset tag => Sys2Proof.Machine.execPortReset tag s
  | .selftestAonTrim tag => Sys2Proof.Machine.execSelftestAonTrim tag s
  | .selftestLaneCal tag => Sys2Proof.Machine.execSelftestLaneCal tag s
  | .selftestPortLoop tag => Sys2Proof.Machine.execSelftestPortLoop tag s
  | .selftestSramBist tag => Sys2Proof.Machine.execSelftestSramBist tag s
  | .selftestShuBist tag => Sys2Proof.Machine.execSelftestShuBist tag s
  | .selftestReedBist tag => Sys2Proof.Machine.execSelftestReedBist tag s
  | .selftestHbmScan tag => Sys2Proof.Machine.execSelftestHbmScan tag s
  | .selftestCryptoKat tag => Sys2Proof.Machine.execSelftestCryptoKat tag s
  | .selftestSensorCheck tag => Sys2Proof.Machine.execSelftestSensorCheck tag s
  | .selftestDone test target errors detail => Sys2Proof.Machine.execSelftestDone test target errors detail s
  | .i3cWriteTransfer addr words => Sys2Proof.Machine.execI3cWriteTransfer addr words s
  | .i3cReadTransfer addr n => Sys2Proof.Machine.execI3cReadTransfer addr n s
  | .entdaa da => Sys2Proof.Machine.execEntdaa da s
  | .rstdaa => Sys2Proof.Machine.execRstdaa s
  | .setnewda da => Sys2Proof.Machine.execSetnewda da s
  | .getpid => Sys2Proof.Machine.execGetpid s
  | .getbcr => Sys2Proof.Machine.execGetbcr s
  | .getdcr => Sys2Proof.Machine.execGetdcr s
  | .getstatus => Sys2Proof.Machine.execGetstatus s
  | .jtagRegAccess write addr v => Sys2Proof.Machine.execJtagRegAccess write addr v s
  | .registerWrite path addr v => Sys2Proof.Machine.execRegisterWrite path addr v s
  | .jtagHalt core => Sys2Proof.Machine.execJtagHalt core s
  | .jtagResume core => Sys2Proof.Machine.execJtagResume core s
  | .pllLockLoss kind idx => Sys2Proof.Machine.execPllLockLoss kind idx s
  | .pcieLinkUp gen width => Sys2Proof.Machine.execPcieLinkUp gen width s
  | .pcieLinkDown refclkLost => Sys2Proof.Machine.execPcieLinkDown refclkLost s
  | .pcieHotReset => Sys2Proof.Machine.execPcieHotReset s
  | .busMasterEnableWrite b => Sys2Proof.Machine.execBusMasterEnableWrite b s
  | .doeAbort => Sys2Proof.Machine.execDoeAbort s

end Sys2Proof.Machine
end

