-- ==== Sys2Proof/WellFormed.lean ====
section
/-!
DEFINITION. Sys2Proof/WellFormed.lean: when the operands of a command lie in the ranges the spec gives
them: ports, clusters, channels, instruction fields (R311), entries (R482), frames (R55), packets (R93).
The meanings are total and do not rest on it; statements name it where an operand's range matters.
-/

namespace Sys2Proof

/-- A number below its bound. -/
def below (n v : Nat) : Bool := decide (v < n)

/-- A byte string of the length the spec gives it. -/
def sized (n : Nat) (l : List Byte) : Bool := decide (l.length = n)

/-- A two's-complement field of n bits (R311). -/
def fitsSigned (n : Nat) (i : Int) : Bool := decide (-(2 ^ (n - 1) : Int) ≤ i) && decide (i < 2 ^ (n - 1))

/-- A register address: word-aligned, in the 64 MiB of BAR0 (R472, R567). -/
def regAddr (a : Nat) : Bool := decide (a % 4 = 0) && decide (a < 0x4000000)

/-- A packet: a header pick of 64 bytes and at most 64 data picks (R93). -/
def pktForm (p : Pkt) : Bool :=
  sized 64 p.hdr && decide (p.data.length % 64 = 0) && decide (p.data.length ≤ 4096)

/-- The operands of a command lie in their ranges. -/
def wellFormed (i : Instr) : Bool :=
  match i with
  | .vinAonApply => true
  | .vinAonLoss => true
  | .vinMainLoss => true
  | .mainPowerGood _ _ => true
  | .pllLockDone => true
  | .clusterSramBistDone c _ => below 8 c
  | .hbmPairTrained pair _ _ => below 4 pair
  | .bootComplete => true
  | .vinIoLoss => true
  | .vinIoReturn => true
  | .refclkFabLoss => true
  | .refclkFabReturn => true
  | .aonTrim => true
  | .supplyAlertAssert => true
  | .supplyAlertClear => true
  | .flowAlert => true
  | .flowAlertClear => true
  | .isoStatusFrameRx _ => true
  | .isoLostTimeout => true
  | .demandFrameTx => true
  | .isoStatusClear _ _ => true
  | .domainRun tag => below 65536 tag
  | .domainOff tag => below 65536 tag
  | .domainExitDone d => below 52 d
  | .shuClockSwitch c => below 8 c
  | .deepIdleEnter => true
  | .linkFrameRx p _ bytes => below 128 p && sized 272 bytes
  | .linkFrameTx p => below 128 p
  | .retryTimerExpire p => below 128 p
  | .linkSilentTimeout p => below 128 p
  | .trainParams p msg => below 128 p && sized 64 msg
  | .trainAck p msg => below 128 p && sized 64 msg
  | .holdReq p msg => below 128 p && sized 64 msg
  | .holdAck p msg => below 128 p && sized 64 msg
  | .wake p msg => below 128 p && sized 64 msg
  | .width p msg => below 128 p && sized 64 msg
  | .widthAck p msg => below 128 p && sized 64 msg
  | .paceRx p msg => below 128 p && sized 64 msg
  | .downNotice p msg => below 128 p && sized 64 msg
  | .resync p msg => below 128 p && sized 64 msg
  | .ctrlMsgResend p typ => below 128 p && below 11 typ
  | .linkTrainStart p => below 128 p
  | .trainComplete p => below 128 p
  | .trainTimeout p => below 128 p
  | .holdLimitExpire p => below 128 p
  | .downRetrainTimer p => below 128 p
  | .laneRetire p lane => below 128 p && below 4 lane.num
  | .laneLendTimeout p => below 128 p
  | .wakePatternDetect p => below 128 p
  | .portCfgWrite _ p _ => below 128 p
  | .portCreditWrite _ p ch _ => below 128 p && below 7 ch
  | .portLinkErrClear _ p _ => below 128 p
  | .portQuarErrClear _ p _ => below 128 p
  | .paceResend p => below 128 p
  | .paceRelease p vc => below 128 p && below 7 vc
  | .linkRestTimer p => below 128 p
  | .linkDarkTimer p => below 128 p
  | .pktHeaderArrive q vc => below 136 q && below 7 vc
  | .pktPortRetry q vc => below 136 q && below 7 vc
  | .selEscape q vc => below 136 q && below 7 vc
  | .ageLimitExpire q vc => below 136 q && below 7 vc
  | .opTimeout dst flow fsn => below 65536 dst && below 65536 flow && below 16777216 fsn
  | .put port pkt => below 136 port && pktForm pkt
  | .get port pkt => below 136 port && pktForm pkt
  | .atomic port pkt => below 136 port && pktForm pkt
  | .call port pkt => below 136 port && pktForm pkt
  | .wopen port pkt => below 136 port && pktForm pkt
  | .wclose port pkt => below 136 port && pktForm pkt
  | .putAck port pkt => below 136 port && pktForm pkt
  | .getData port pkt => below 136 port && pktForm pkt
  | .atomicRsp port pkt => below 136 port && pktForm pkt
  | .callDone port pkt => below 136 port && pktForm pkt
  | .wgrant port pkt => below 136 port && pktForm pkt
  | .contrib port pkt => below 136 port && pktForm pkt
  | .result port pkt => below 136 port && pktForm pkt
  | .groupFail port pkt => below 136 port && pktForm pkt
  | .cuingCmd port pkt => below 136 port && pktForm pkt
  | .cuingRsp port pkt => below 136 port && pktForm pkt
  | .cuingEvt port pkt => below 136 port && pktForm pkt
  | .mapReport port pkt => below 136 port && pktForm pkt
  | .pairHb port pkt => below 136 port && pktForm pkt
  | .mirror port pkt => below 136 port && pktForm pkt
  | .migrate port pkt => below 136 port && pktForm pkt
  | .winIdleExpire src dst flow => below 65536 src && below 65536 dst && below 65536 flow
  | .reorderTimeout src dst flow => below 65536 src && below 65536 dst && below 65536 flow
  | .commitStart _ => true
  | .commitSync _ => true
  | .commitAbort _ => true
  | .commitValidateDone => true
  | .commitDrained => true
  | .drainLimitExpire => true
  | .rtePktErrClear _ _ => true
  | .rteFlowErrClear _ _ => true
  | .rteCongErrClear _ _ => true
  | .bobApply _ c _ => below 8 c
  | .bobDrawServed c cls => below 8 c && below 5 cls
  | .bobDfLogClear _ c _ => below 8 c
  | .bobErrClear _ c _ => below 8 c
  | .groupAdmit _ => true
  | .groupAdmitDone => true
  | .groupRelease _ => true
  | .groupReleaseDrained g => below 2048 g
  | .groupRearm _ => true
  | .releaseWave g _ w => below 2048 g && below 64 w
  | .chunkTimeout g _ => below 2048 g
  | .gateGrant g => below 2048 g
  | .gateTimeout g => below 2048 g.group
  | .rteGrpErrClear _ _ => true
  | .reedErrClear _ c _ => below 8 c
  | .seqRegionWrite _ _ => true
  | .serviceReloadDone => true
  | .slotOpen _ => true
  | .slotRelease _ => true
  | .slotReleaseDone slot => below 32 slot
  | .evacuate _ => true
  | .evacPageMoved => true
  | .evacOldFrameFree _ => true
  | .evacAbort _ => true
  | .allocBack _ => true
  | .recall _ => true
  | .recallPageDone slot => below 32 slot
  | .reclaim _ => true
  | .seqErrClear _ _ => true
  | .libDecode _ => true
  | .libPrefill _ => true
  | .libLatentDecode _ => true
  | .libAppend _ => true
  | .libRead _ => true
  | .libLend _ => true
  | .libReturn _ => true
  | .imageLoad tag => below 65536 tag
  | .imageVerifyDone _ => true
  | .imageCopyDone => true
  | .imageUnload tag => below 65536 tag
  | .imageDrainDone idx => below 64 idx
  | .workItemDispatch c => below 8 c
  | .benchWaitExpire c q => below 8 c && below 256 q
  | .runLimitExpire x => below 1024 x
  | .queueWrite _ => true
  | .shedErrClear _ c _ => below 8 c
  | .sop x et fn b a d => below 1024 x && below 8 et && below 128 fn && below 32 b && below 32 a && below 32 d
  | .addi x imm a d => below 1024 x && fitsSigned 15 imm && below 32 a && below 32 d
  | .andi x imm a d => below 1024 x && fitsSigned 15 imm && below 32 a && below 32 d
  | .ori x imm a d => below 1024 x && fitsSigned 15 imm && below 32 a && below 32 d
  | .xori x imm a d => below 1024 x && fitsSigned 15 imm && below 32 a && below 32 d
  | .shi x imm a d => below 1024 x && fitsSigned 15 imm && below 32 a && below 32 d
  | .slti x imm a d => below 1024 x && fitsSigned 15 imm && below 32 a && below 32 d
  | .sli x imm a d => below 1024 x && fitsSigned 15 imm && below 32 a && below 32 d
  | .smul x et fn b a d => below 1024 x && below 8 et && below 128 fn && below 32 b && below 32 a && below 32 d
  | .scmp x et fn b a d => below 1024 x && below 8 et && below 128 fn && below 32 b && below 32 a && below 32 d
  | .fop x et fn b a d => below 1024 x && below 8 et && below 128 fn && below 32 b && below 32 a && below 32 d
  | .fmad x et fn b a d => below 1024 x && below 8 et && below 128 fn && below 32 b && below 32 a && below 32 d
  | .fcmp x et fn b a d => below 1024 x && below 8 et && below 128 fn && below 32 b && below 32 a && below 32 d
  | .scvt x et fn b a d => below 1024 x && below 8 et && below 128 fn && below 32 b && below 32 a && below 32 d
  | .vint x et pred vfn b a d => below 1024 x && below 8 et && below 8 pred && below 16 vfn && below 32 b && below 32 a && below 32 d
  | .vfp x et pred vfn b a d => below 1024 x && below 8 et && below 8 pred && below 16 vfn && below 32 b && below 32 a && below 32 d
  | .vfma x et pred vfn b a d => below 1024 x && below 8 et && below 8 pred && below 16 vfn && below 32 b && below 32 a && below 32 d
  | .vcmp x et pred vfn b a d => below 1024 x && below 8 et && below 8 pred && below 16 vfn && below 32 b && below 32 a && below 32 d
  | .vplog x et pred vfn b a d => below 1024 x && below 8 et && below 8 pred && below 16 vfn && below 32 b && below 32 a && below 32 d
  | .vred x et pred vfn b a d => below 1024 x && below 8 et && below 8 pred && below 16 vfn && below 32 b && below 32 a && below 32 d
  | .vperm x et pred vfn b a d => below 1024 x && below 8 et && below 8 pred && below 16 vfn && below 32 b && below 32 a && below 32 d
  | .vbcast x et pred vfn b a d => below 1024 x && below 8 et && below 8 pred && below 16 vfn && below 32 b && below 32 a && below 32 d
  | .vcvt x et pred vfn b a d => below 1024 x && below 8 et && below 8 pred && below 16 vfn && below 32 b && below 32 a && below 32 d
  | .vmxcvt x et pred vfn b a d => below 1024 x && below 8 et && below 8 pred && below 16 vfn && below 32 b && below 32 a && below 32 d
  | .vsfn x et pred vfn b a d => below 1024 x && below 8 et && below 8 pred && below 16 vfn && below 32 b && below 32 a && below 32 d
  | .vtopk x et pred vfn b a d => below 1024 x && below 8 et && below 8 pred && below 16 vfn && below 32 b && below 32 a && below 32 d
  | .mld x et pred vfn b a d => below 1024 x && below 8 et && below 8 pred && below 16 vfn && below 32 b && below 32 a && below 32 d
  | .mst x et pred vfn b a d => below 1024 x && below 8 et && below 8 pred && below 16 vfn && below 32 b && below 32 a && below 32 d
  | .mma x et pred vfn b a d => below 1024 x && below 8 et && below 8 pred && below 16 vfn && below 32 b && below 32 a && below 32 d
  | .mmx x et pred vfn b a d => below 1024 x && below 8 et && below 8 pred && below 16 vfn && below 32 b && below 32 a && below 32 d
  | .mzero x et pred vfn b a d => below 1024 x && below 8 et && below 8 pred && below 16 vfn && below 32 b && below 32 a && below 32 d
  | .mtov x et pred vfn b a d => below 1024 x && below 8 et && below 8 pred && below 16 vfn && below 32 b && below 32 a && below 32 d
  | .ld x et fn b a d => below 1024 x && below 8 et && below 128 fn && below 32 b && below 32 a && below 32 d
  | .st x et fn b a d => below 1024 x && below 8 et && below 128 fn && below 32 b && below 32 a && below 32 d
  | .ldi x imm a d => below 1024 x && fitsSigned 15 imm && below 32 a && below 32 d
  | .sti x imm a d => below 1024 x && fitsSigned 15 imm && below 32 a && below 32 d
  | .vld x et pred vfn b a d => below 1024 x && below 8 et && below 8 pred && below 16 vfn && below 32 b && below 32 a && below 32 d
  | .vst x et pred vfn b a d => below 1024 x && below 8 et && below 8 pred && below 16 vfn && below 32 b && below 32 a && below 32 d
  | .vgth x et pred vfn b a d => below 1024 x && below 8 et && below 8 pred && below 16 vfn && below 32 b && below 32 a && below 32 d
  | .vsct x et pred vfn b a d => below 1024 x && below 8 et && below 8 pred && below 16 vfn && below 32 b && below 32 a && below 32 d
  | .mcpyIssue x et fn b a d => below 1024 x && below 8 et && below 128 fn && below 32 b && below 32 a && below 32 d
  | .mcpyWait x et fn b a d => below 1024 x && below 8 et && below 128 fn && below 32 b && below 32 a && below 32 d
  | .mcpyWaitall x et fn b a d => below 1024 x && below 8 et && below 128 fn && below 32 b && below 32 a && below 32 d
  | .asyncCopyDone x _ => below 1024 x
  | .hndDraw x et fn b a d => below 1024 x && below 8 et && below 128 fn && below 32 b && below 32 a && below 32 d
  | .hndFree x et fn b a d => below 1024 x && below 8 et && below 128 fn && below 32 b && below 32 a && below 32 d
  | .hndHget x et fn b a d => below 1024 x && below 8 et && below 128 fn && below 32 b && below 32 a && below 32 d
  | .hndHput x et fn b a d => below 1024 x && below 8 et && below 128 fn && below 32 b && below 32 a && below 32 d
  | .latm x et fn b a d => below 1024 x && below 8 et && below 128 fn && below 32 b && below 32 a && below 32 d
  | .fput x et fn b a d => below 1024 x && below 8 et && below 128 fn && below 32 b && below 32 a && below 32 d
  | .fget x et fn b a d => below 1024 x && below 8 et && below 128 fn && below 32 b && below 32 a && below 32 d
  | .fatm x et fn b a d => below 1024 x && below 8 et && below 128 fn && below 32 b && below 32 a && below 32 d
  | .fcall x et fn b a d => below 1024 x && below 8 et && below 128 fn && below 32 b && below 32 a && below 32 d
  | .issueStallRelease x => below 1024 x
  | .fopen x et fn b a d => below 1024 x && below 8 et && below 128 fn && below 32 b && below 32 a && below 32 d
  | .fclose x et fn b a d => below 1024 x && below 8 et && below 128 fn && below 32 b && below 32 a && below 32 d
  | .fwaitAll x et fn b a d => below 1024 x && below 8 et && below 128 fn && below 32 b && below 32 a && below 32 d
  | .fwaitUpto x et fn b a d => below 1024 x && below 8 et && below 128 fn && below 32 b && below 32 a && below 32 d
  | .fwaitPoll x et fn b a d => below 1024 x && below 8 et && below 128 fn && below 32 b && below 32 a && below 32 d
  | .cjoin x et fn b a d => below 1024 x && below 8 et && below 128 fn && below 32 b && below 32 a && below 32 d
  | .cwaitWait x et fn b a d => below 1024 x && below 8 et && below 128 fn && below 32 b && below 32 a && below 32 d
  | .cwaitPoll x et fn b a d => below 1024 x && below 8 et && below 128 fn && below 32 b && below 32 a && below 32 d
  | .crel x et fn b a d => below 1024 x && below 8 et && below 128 fn && below 32 b && below 32 a && below 32 d
  | .tgate x et fn b a d => below 1024 x && below 8 et && below 128 fn && below 32 b && below 32 a && below 32 d
  | .joinTimeout x j => below 1024 x && below 4 j
  | .sapp x et fn b a d => below 1024 x && below 8 et && below 128 fn && below 32 b && below 32 a && below 32 d
  | .sappPerformed x _ => below 1024 x
  | .sgath x et fn b a d => below 1024 x && below 8 et && below 128 fn && below 32 b && below 32 a && below 32 d
  | .smapAddr x et fn b a d => below 1024 x && below 8 et && below 128 fn && below 32 b && below 32 a && below 32 d
  | .smapPte x et fn b a d => below 1024 x && below 8 et && below 128 fn && below 32 b && below 32 a && below 32 d
  | .smapLen x et fn b a d => below 1024 x && below 8 et && below 128 fn && below 32 b && below 32 a && below 32 d
  | .srel x et fn b a d => below 1024 x && below 8 et && below 128 fn && below 32 b && below 32 a && below 32 d
  | .br x ofs b a cond => below 1024 x && fitsSigned 10 ofs && below 32 b && below 32 a && below 32 cond
  | .jal x imm a d => below 1024 x && fitsSigned 15 imm && below 32 a && below 32 d
  | .jalr x imm a d => below 1024 x && fitsSigned 15 imm && below 32 a && below 32 d
  | .ctlr x imm a d => below 1024 x && fitsSigned 15 imm && below 32 a && below 32 d
  | .ctlw x imm a d => below 1024 x && fitsSigned 15 imm && below 32 a && below 32 d
  | .cntr x imm a d => below 1024 x && fitsSigned 15 imm && below 32 a && below 32 d
  | .yield x et fn b a d => below 1024 x && below 8 et && below 128 fn && below 32 b && below 32 a && below 32 d
  | .trap x et fn b a d => below 1024 x && below 8 et && below 128 fn && below 32 b && below 32 a && below 32 d
  | .halt x et fn b a d => below 1024 x && below 8 et && below 128 fn && below 32 b && below 32 a && below 32 d
  | .msync x et fn b a d => below 1024 x && below 8 et && below 128 fn && below 32 b && below 32 a && below 32 d
  | .treadleStep _ _ => true
  | .clusterShareUpdate => true
  | .capWordWrite _ _ => true
  | .capHoldExpire => true
  | .capFallbackExpire => true
  | .hostCap _ => true
  | .sleep _ => true
  | .hostCfg tag => below 65536 tag
  | .trdAlertClear _ _ => true
  | .trdErrClear _ _ => true
  | .powerReportRead _ d => below 64 d
  | .powerRead tag => below 65536 tag
  | .powerReports tag => below 65536 tag
  | .swGateTimer c => below 8 c
  | .shuGateTimer c => below 8 c
  | .shuRetainTimer c => below 8 c
  | .reedGateTimer c => below 8 c
  | .reedRetainTimer c => below 8 c
  | .hbmSrTimer n => below 8 n
  | .thermalSample _ => true
  | .sensorPlausibilityTimer sensor => below 82 sensor
  | .rungReleaseTimer rung c => below 5 rung && below 8 c
  | .ladderStepTimer => true
  | .thermtripAssert sensor => below 82 sensor
  | .tripLatchClear _ _ => true
  | .coolantSample _ _ => true
  | .coolDtTimer which => below 4 which
  | .leakSample _ => true
  | .leakDryTimer => true
  | .cartPresenceQualified k => below 16 k
  | .cartPull k => below 16 k
  | .cartRemove _ => true
  | .cartInspect _ => true
  | .cartIdentityReadDone k _ _ => below 16 k
  | .inspectionDone k _ => below 16 k
  | .sensors tag => below 65536 tag
  | .zones tag => below 65536 tag
  | .coolCfg tag => below 65536 tag
  | .cartStatus tag => below 65536 tag
  | .scores tag => below 65536 tag
  | .cartIdentity tag => below 65536 tag
  | .componentFault id cause => below 32 id && below 256 cause
  | .componentWatchdog id => below 32 id
  | .coreWatchdog core => below 8 core
  | .componentRestartDone id => below 32 id
  | .kernelFault cause => below 256 cause
  | .complexRestartDone => true
  | .secCoreFault => true
  | .treadleCoreFault => true
  | .schedulerCoreFault => true
  | .controlCoreFault c => below 8 c
  | .delegateRestartDone d => below 11 d
  | .fwStage tag => below 65536 tag
  | .stageVerifyDone => true
  | .activateLive _ => true
  | .activateReset _ => true
  | .fwCancel _ => true
  | .fwCommit _ => true
  | .activationComponentDone => true
  | .activationResume => true
  | .probationExpire => true
  | .revertDone => true
  | .fwStatus tag => below 65536 tag
  | .policyWrite tag => below 65536 tag
  | .spdm tag => below 65536 tag
  | .doeRequest _ => true
  | .debugNonce tag => below 65536 tag
  | .debugToken tag => below 65536 tag
  | .nonceExpire => true
  | .plnLogLostClear _ _ => true
  | .logRead tag => below 65536 tag
  | .traceCatalogue tag => below 65536 tag
  | .identify tag => below 65536 tag
  | .version tag => below 65536 tag
  | .digest tag => below 65536 tag
  | .cqDoorbell _ _ => true
  | .rqDoorbell _ _ => true
  | .eqDoorbell _ _ => true
  | .ringEnable _ ring _ => below 3 ring
  | .commandTake entry _ => sized 128 entry
  | .regRead tag => below 65536 tag
  | .regWrite tag => below 65536 tag
  | .routeWrite tag => below 65536 tag
  | .mcastWrite tag => below 65536 tag
  | .imageList tag => below 65536 tag
  | .groupWrite _ => true
  | .groupRead tag => below 65536 tag
  | .slotRead tag => below 65536 tag
  | .regionSet tag => below 65536 tag
  | .bind port pkt => below 136 port && pktForm pkt
  | .eventMask tag => below 65536 tag
  | .eventCredit m n => below 64 m && below 256 n
  | .mapRead tag => below 65536 tag
  | .mapCfg tag => below 65536 tag
  | .relayTimeout m tag => below 64 m && below 65536 tag
  | .relayProgressTimer tag => below 65536 tag
  | .msixCoalesceTimer v => below 32 v
  | .flr => true
  | .d3hotEntry => true
  | .perstAssert => true
  | .perstDeassert => true
  | .bar0BadAccess _ => true
  | .bar2Write _ _ => true
  | .bar2Read _ _ => true
  | .hioFatalError => true
  | .hioErrClear _ _ => true
  | .pairConfig tag => below 65536 tag
  | .pairStatus tag => below 65536 tag
  | .pairSwap tag => below 65536 tag
  | .swapAbdicate => true
  | .heartbeatTx => true
  | .hbFrameRx _ => true
  | .hbPathSilent _ => true
  | .selectorSwitchDone k selStatus => below 16 k && below 4 selStatus
  | .takeoverComplete _ => true
  | .selectorPoll _ => true
  | .pairMsgItem port pkt => below 136 port && pktForm pkt
  | .pairMsgAck port pkt => below 136 port && pktForm pkt
  | .pairMsgBaselineStart port pkt => below 136 port && pktForm pkt
  | .pairMsgBaselineEnd port pkt => below 136 port && pktForm pkt
  | .pairMsgAbdicate port pkt => below 136 port && pktForm pkt
  | .mirrorAckTimeout => true
  | .epochMirrorTimer => true
  | .dvtErrClear _ _ => true
  | .counterOverflow id => below 65536 id
  | .sampleCapture x => below 1024 x
  | .counterRead _ _ => true
  | .counterCfgWrite _ _ _ => true
  | .mapIntervalEnd => true
  | .cntMapErrClear _ _ => true
  | .hbmEccClear _ n _ => below 8 n
  | .attachCut => true
  | .warmReset tag => below 65536 tag
  | .fabricReset tag => below 65536 tag
  | .clusterReset tag => below 65536 tag
  | .portReset tag => below 65536 tag
  | .selftestAonTrim tag => below 65536 tag
  | .selftestLaneCal tag => below 65536 tag
  | .selftestPortLoop tag => below 65536 tag
  | .selftestSramBist tag => below 65536 tag
  | .selftestShuBist tag => below 65536 tag
  | .selftestReedBist tag => below 65536 tag
  | .selftestHbmScan tag => below 65536 tag
  | .selftestCryptoKat tag => below 65536 tag
  | .selftestSensorCheck tag => below 65536 tag
  | .selftestDone test target _ _ => below 10 test && below 65536 target
  | .i3cWriteTransfer addr _ => regAddr addr
  | .i3cReadTransfer addr _ => regAddr addr
  | .entdaa da => below 128 da
  | .rstdaa => true
  | .setnewda da => below 128 da
  | .getpid => true
  | .getbcr => true
  | .getdcr => true
  | .getstatus => true
  | .jtagRegAccess _ addr _ => regAddr addr
  | .registerWrite _ addr _ => regAddr addr
  | .jtagHalt core => below 8 core
  | .jtagResume core => below 8 core
  | .pllLockLoss kind _ => below 3 kind
  | .pcieLinkUp gen width => below 8 gen && below 17 width
  | .pcieLinkDown _ => true
  | .pcieHotReset => true
  | .busMasterEnableWrite _ => true
  | .doeAbort => true

end Sys2Proof
end

