-- ==== Sys2Proof/Safety.lean ====
section
/-!
DEFINITION. Sys2Proof/Safety.lean: the words that claims use: a command that runs to a next state, the
canonical form of every table, a command that waits for its service, and the reply that answers it.
-/

namespace Sys2Proof.Machine

/-- The command runs on s: exec answers a next state, of which P holds. -/
def Runs (i : Instr) (s : State) (P : State → Prop) : Prop := ∃ t, exec i s = .next t ∧ P t

/-- The canonical form of HBM: byte addresses rise and no listed byte is zero. -/
def Memory.wf (m : Tab Byte) : Bool := tabWf memZero m

/-- Every table that the block's state is kept in is in its canonical form: registers, links, pools, groups,
HBM, contexts, cartridges. -/
def Canon (s : State) : Prop :=
  tabWf regReset s.regs = true ∧ tabWf (fun _ => portReset) s.ports = true ∧
  tabWf (fun _ => poolReset) s.pools = true ∧ tabWf (fun _ => groupReset) s.groups = true ∧
  Memory.wf s.mem = true ∧ tabWf (fun _ => ctxReset) s.ctxs = true ∧
  tabWf (fun _ => cartReset) s.carts = true

/-- The command of an opcode waits under a tag for its service, and its reply will go to this device's own
host: it came over the command ring, its function was not reset, and the reply ring runs (R478 to R480). -/
abbrev Waits (s : State) (tag opcode : Nat) (p : Prog) : Prop :=
  s.cmd tag opcode = some p ∧ s.host.prog.find? (fun q => decide (q.tag = tag)) = some p ∧
    p.origin = .host ∧ p.gone = false ∧ s.ringUp 1 = true

/-- The newest entry that the device has written to host memory answers a command with a status and a payload,
at whichever index of the reply ring (R482). -/
abbrev Answered (t : State) (p : Prog) (status : Nat) (payload : List Byte) : Prop :=
  t.host.written.getLast?.map (fun e => { e with idx := 0 }) =
    some { replyEntry p status payload with ring := 1 }

/-- A control message of a type that port p has not acted on yet (R69). -/
abbrev FreshCtl (s : State) (p typ : Nat) (msg : List Byte) : Prop :=
  byteAt msg 0 = typ ∧ msg.length = 64 ∧ tabGet (fun _ => 256) (s.port p).ctlSeqRx typ ≠ byteAt msg 1

/-- A frame that R55 and R56 can lay out: four slots, each empty or a channel and a pick of 64 bytes, and
fields and credit slots within their widths. -/
def Frame.ok (f : Frame) : Prop :=
  f.slots.length = 4 ∧ (∀ v d, some (v, d) ∈ f.slots → v < 7 ∧ d.length = 64) ∧ f.ftype < 4 ∧
    f.asn < 65536 ∧ f.fsn < 65536 ∧ (∀ v n, f.crA = some (v, n) → v < 7 ∧ n < 65536) ∧
    (∀ v n, f.crB = some (v, n) → v < 7 ∧ n < 65536)

/-- The newest packet in the injection queue of cluster c, on its own class, is p. -/
abbrev Sent (t : State) (c : Nat) (p : Pkt) : Prop :=
  (t.inq (128 + c) (hVc p.hdr)).getLast?.map (fun k => (⟨k.hdr, k.data⟩ : Pkt)) = some p

/-- A packet of a type passes its end-to-end check (R106, R107) and reaches the device on a port: it was sunk there, it
is the device's own, or it arrives with the command and every check lets it through (log entry 7). -/
abbrev Comes (s : State) (port typ : Nat) (p : Pkt) : Prop :=
  p.hdr.length = 64 ∧ hType p.hdr = typ ∧ e2eOk p = true ∧ (s.reaches port p).1 = true

/-- A request is the next of its window w: its FSN is the completion pointer, and the one after it has not
come (R133). -/
abbrev InTurn (s : State) (w : Win) (p : Pkt) : Prop :=
  s.winOf p.hdr = some w ∧ 0 < w.pkts ∧ w.broken = false ∧ hFsn p.hdr = w.cp ∧ w.at w.cp = .empty ∧
    w.at ((w.cp + 1) % 2 ^ 24) = .empty

/-- The newest CALL_DONE that cluster c sends answers a work item of a remote caller: its caller, flow and FSN, a
status, the first result word, and so many bytes of payload (R289, R363). -/
abbrev CallDone (t : State) (it : Item) (dst src flow fsn : Nat) (pinned : Bool) (status a0 bytes : Nat) : Prop :=
  it.caller = .remote dst src flow fsn pinned ∧
  (t.inq (128 + it.cluster) 1).getLast?.map (fun k => (hType k.hdr, hDst k.hdr, hFlow k.hdr, hFsn k.hdr)) =
    some (0x0C, dst, flow, fsn) ∧
  (t.inq (128 + it.cluster) 1).getLast?.map (fun k => (hStatus k.hdr, field k.hdr 32 8, k.data.length)) =
    some (status, a0, 64 * ceilDiv bytes 64)

/-- The entry of a slot's page for a token of a layer (R242 to R244): its number, and its place in the page. -/
def State.pageOf (s : State) (n layer token : Nat) : Nat := layer * s.ppl n + token / max 1 (s.tpp n)
def State.placeOf (s : State) (n layer token : Nat) : Nat :=
  pteFrame (s.pte n (s.pageOf n layer token)) * 65536 + token % max 1 (s.tpp n) * s.bpt n

/-- The page of a token is here: VALID, and neither remote nor lost nor on the move. -/
abbrev PageHere (s : State) (n layer token : Nat) : Prop :=
  (s.l2Frame n (s.pageOf n layer token)).isSome = true ∧ pteValid (s.pte n (s.pageOf n layer token)) = true ∧
    pteRemote (s.pte n (s.pageOf n layer token)) = false ∧ pteLost (s.pte n (s.pageOf n layer token)) = false ∧
    pteMoving (s.pte n (s.pageOf n layer token)) = false

/-- The device has no traffic of its own under way: no evacuation, recall, return or mirror data, no end of its
own operations to collect, and no window that it opened for itself. -/
abbrev Quiet (s : State) : Prop :=
  s.seq.evac = none ∧ s.seq.recalling = [] ∧ s.seq.returns = [] ∧ s.pair.push = [] ∧ s.flows.ends = [] ∧
    s.flows.srcs.all (fun e => e.2.item.isSome || decide (e.2.state ≠ .opened)) = true

/-- How far an index p of ring k is ahead of an index q: indices count to twice the ring's size (R478). -/
abbrev State.ahead (s : State) (k p q : Nat) : Nat := (p + 2 * s.ringSize k - q) % (2 * s.ringSize k)

/-- A domain is at a depth. -/
abbrev AtDepth (s : State) (d : Nat) (x : Depth) : Prop := (s.dom d).depth = x

/-! ### Instructions of Dapor -/

/-- Context x may issue: it runs a work item of a loaded image, does not wait, it has its turn on its shuttle (R272),
its word is of no reserved opcode (R314), and its instruction is not the last of the code (R313). -/
abbrev Ready (s : State) (x : Nat) (it : Item) (im : Image) : Prop :=
  s.ctxItem x = some it ∧ s.image it.image = some im ∧ (s.ctx x).wait = .no ∧ s.turn x = true ∧ s.fetchOk x im = true ∧
    (s.ctx x).pc + 4 < im.codeBytes ∧ x < 1024

/-- The same wherever in the code its instruction stands. -/
abbrev Issues (s : State) (x : Nat) (it : Item) (im : Image) : Prop :=
  s.ctxItem x = some it ∧ s.image it.image = some im ∧ (s.ctx x).wait = .no ∧ s.turn x = true ∧ s.fetchOk x im = true ∧
    x < 1024

/-- The work item of context x was called from another device, by a CALL of these identifiers, and the device can
answer it. -/
abbrev CalledBy (s : State) (it : Item) (x dst sr flow fsn : Nat) (pin : Bool) : Prop :=
  it.caller = .remote dst sr flow fsn pin ∧ it.runs = some x ∧ dst < 65536 ∧ flow < 65536 ∧ fsn < 2 ^ 24 ∧
    s.selfEid ≠ 0xFFFF ∧ 10 ≤ it.form.length ∧ it.cluster < 8

/-- The same of a call of the sequence library that context x works on. -/
abbrev LibCaller (s : State) (it : Item) (x dst sr flow fsn : Nat) (pin : Bool) : Prop :=
  it.caller = .remote dst sr flow fsn pin ∧ dst < 65536 ∧ flow < 65536 ∧ fsn < 2 ^ 24 ∧ s.selfEid ≠ 0xFFFF ∧
    10 ≤ it.form.length ∧ x < 1024

/-- The format of an element type in context x; the active elements of width w under a predicate register, and whether
one is active (R298, R302). -/
abbrev State.fm (s : State) (x et : Nat) : Fmt := (s.ctx x).fmt et
abbrev State.acts (s : State) (x p w : Nat) : List Nat := actives ((s.ctx x).preg p) w
abbrev State.pOn (s : State) (x p w i : Nat) : Bool := pAct ((s.ctx x).preg p) w i

/-- The checks of an operand that only the bench may hold (R304). -/
abbrev State.chkBench (s : State) (x : Nat) (it : Item) (im : Image) (a n al : Nat) : Chk :=
  s.check x it im ⟨false, false, true⟩ a n al

/-- The checks of an operand that is read, and of one that is written (R303, R304, R318). -/
abbrev State.chkRd (s : State) (x : Nat) (it : Item) (im : Image) (a n al : Nat) : Chk :=
  s.check x it im ⟨true, true, false⟩ a n al
abbrev State.chkWr (s : State) (x : Nat) (it : Item) (im : Image) (a n al : Nat) : Chk :=
  s.check x it im ⟨true, false, true⟩ a n al

/-- The bytes of an element; the active elements of a strided access, each with its address (R346); a
scalar register at an element type; the address after
the instruction of context x. -/
abbrev etBytes (et : Nat) : Nat := etBits et / 8
abbrev State.strided (s : State) (x et p vfn a b : Nat) : List (Nat × Nat) :=
  (s.acts x p (etBits et)).map (fun i => (i, s.vaddr x vfn a b (etBits et) i))
abbrev State.sv (s : State) (x et r : Nat) : BitVec (etBits et) := BitVec.ofNat (etBits et) (s.sr x r)
abbrev State.nextPc (s : State) (x : Nat) : Nat := (s.ctx x).pc + 4

/-- No byte of HBM, nor of the bench of context x, has an error that its code cannot correct (R315). -/
abbrev NoErr (s : State) (x : Nat) : Prop := s.pwr.hbmBad = [] ∧ (s.ctx x).benchBad = []

/-- Context x goes on with the program counter pc as c, but for a sample that a counter asked for; no other context
changes. -/
def GoesTo (s t : State) (x : Nat) (c : Ctx) (pc : Nat) : Prop :=
  { t.ctx x with sample := none } = { c with pc := pc, sample := none } ∧ ∀ y, y ≠ x → t.ctx y = s.ctx y

/-- The words of the shuttle counters (R525, R568). -/
def inShuCounters (a : Nat) : Prop := 0x00800000 ≤ a ∧ a < 0x01000000 ∧ 0x51000 ≤ a % 0x00100000 ∧ a % 0x00100000 < 0x51840

/-- Nothing has changed but contexts, the counters of shuttle events, which context the shuttle of x executes, and the
charge of the queue of its item, a free value (R285, log entry 23). -/
def OnlyIssued (s t : State) (x : Nat) : Prop :=
  { t with
    regs := s.regs, ctxs := s.ctxs, free := s.free
    shed := { t.shed with lastCtx := s.shed.lastCtx, exec := s.shed.exec, ready := s.shed.ready, dfc := s.shed.dfc } } = s ∧
    (∀ a, ¬ inShuCounters a → t.reg a = s.reg a) ∧ (∀ h, h ≠ x / 4 → t.execCtx h = s.execCtx h) ∧
    ∀ c q, q < 256 → (s.ctxItem x).all (fun it => decide (it.cluster ≠ c) || decide (it.queue ≠ q)) = true →
      t.dfc c q = s.dfc c q

/-- An instruction of context x that only works on its context has issued: the context is c with the next program
counter and keeps its shuttle (R272), and nothing else has changed but what counts it. -/
def Retires (s t : State) (x : Nat) (c : Ctx) : Prop :=
  GoesTo s t x c ((s.ctx x).pc + 4) ∧ OnlyIssued s t x ∧ t.execCtx (x / 4) = x + 1

/-- HBM is as before outside n bytes from address p. -/
def MemSameBut (s t : State) (p n : Nat) : Prop := ∀ a : Nat, a < p ∨ p + n ≤ a → t.memByte a = s.memByte a

/-- The work item of context x has ended by a trap with a cause at an opcode, an address and a status: its caller is
told (R315, R316), and its context is free. -/
abbrev Traps (s t : State) (x : Nat) (it : Item) (dst src flow fsn : Nat) (pinned : Bool) (op cause addr status : Nat) : Prop :=
  t.ctx x = ctxReset ∧ t.item it.id = none ∧
    CallDone t it dst src flow fsn pinned status (cause + op * 2 ^ 8 + (s.ctx x).pc * 2 ^ 32) 0 ∧
    (t.inq (128 + it.cluster) 1).getLast?.map (fun k => field k.hdr 40 8) = some (addr % 2 ^ 64)

/-- The number n of elements of w bits in a vector register (R297, R308). -/
def lanes (w : Nat) : Nat := 2048 / w

/-- Element i of vector register r at an element type, as bits. -/
abbrev State.elemBv (s : State) (x r et i : Nat) : BitVec (etBits et) :=
  ((s.ctx x).vreg r).extractLsb' (etBits et * i) (etBits et)

/-- An instruction has issued that wrote vector register d and perhaps FPFLAGS, and nothing else. -/
def VecRetires (s t : State) (x d : Nat) : Prop :=
  Retires s t x { s.ctx x with v := (t.ctx x).v, flags := (t.ctx x).flags } ∧
    ∀ r, r ≠ d → (t.ctx x).vreg r = (s.ctx x).vreg r

/-- One that wrote tile d and perhaps FPFLAGS (R299). -/
def TileRetires (s t : State) (x d : Nat) : Prop :=
  Retires s t x { s.ctx x with t := (t.ctx x).t, flags := (t.ctx x).flags } ∧
    ∀ r k, r ≠ d → k < 256 → (t.ctx x).tile r k = (s.ctx x).tile r k

/-- One that wrote the bench and perhaps FPFLAGS: n bytes from an offset. -/
def BenchRetires (s t : State) (x off n : Nat) : Prop :=
  Retires s t x { s.ctx x with bench := (t.ctx x).bench, flags := (t.ctx x).flags } ∧
    ∀ o, o < off ∨ off + n ≤ o → t.benchGet x o 1 = s.benchGet x o 1

/-- The flags of context x are those of before and those that some result raised: they are sticky (R302, R309). -/
abbrev FlagsOr (s t : State) (x : Nat) (rs : List (Nat × Nat)) : Prop :=
  ∀ k ∈ List.range 5, bit (t.ctx x).flags k = (bit (s.ctx x).flags k || rs.any (fun r => bit r.2 k))

/-- Vector register d holds in each active element the result of f, rounded once, the others are kept, the flags are
those of the active elements, and nothing else has changed (R312, R334). -/
def VecMap (s t : State) (x d pred w : Nat) (f : Nat → Nat × Nat) : Prop :=
  (∀ i ∈ List.range (lanes w), velem ((t.ctx x).vreg d) w i =
    if s.pOn x pred w i then (f i).1 % 2 ^ w else velem ((s.ctx x).vreg d) w i) ∧
  FlagsOr s t x ((s.acts x pred w).map f) ∧ VecRetires s t x d

/-- The same where every element is written. -/
def VecAll (s t : State) (x d w : Nat) (f : Nat → Nat × Nat) : Prop :=
  (∀ i ∈ List.range (lanes w), velem ((t.ctx x).vreg d) w i = (f i).1 % 2 ^ w) ∧
  FlagsOr s t x ((List.range (lanes w)).map f) ∧ VecRetires s t x d

/-- The same for results as bits, which raise no flag. -/
def VecIs (s t : State) (x d et pred : Nat) (f : Nat → BitVec (etBits et)) : Prop :=
  (∀ i ∈ List.range (lanes (etBits et)), t.elemBv x d et i =
    if s.pOn x pred (etBits et) i then f i else s.elemBv x d et i) ∧
  VecRetires s t x d ∧ FlagsOr s t x []

/-- Predicate register d holds f for the bytes of each active element, keeps its other bits, and no flag rises. -/
def PredIs (s t : State) (x d et pred : Nat) (f : Nat → Bool) : Prop :=
  (∀ k ∈ List.range 256, bit ((t.ctx x).preg d) k =
    if s.pOn x pred (etBits et) (k / (etBits et / 8)) then f (k / (etBits et / 8)) else bit ((s.ctx x).preg d) k) ∧
  Retires s t x { s.ctx x with p := (t.ctx x).p, flags := (t.ctx x).flags } ∧
  (∀ q, q ≠ d → (t.ctx x).preg q = (s.ctx x).preg q) ∧ FlagsOr s t x []

/-- An instruction has issued that wrote predicate register d, and nothing else. -/
def PredRetires (s t : State) (x d : Nat) : Prop :=
  Retires s t x { s.ctx x with p := (t.ctx x).p } ∧ ∀ q, q ≠ d → (t.ctx x).preg q = (s.ctx x).preg q

/-- The conditions of BR between two registers (R374); 6 and 7 are reserved. -/
def branchOn (cond : Nat) (a b : BitVec 64) : Bool :=
  match cond with
  | 0 => a == b
  | 1 => a != b
  | 2 => a.slt b
  | 3 => !a.slt b
  | 4 => a.ult b
  | 5 => !a.ult b
  | _ => false

/-- Tile d holds the results of f, the flags are those that they raised, and nothing else has changed (R299). -/
def TileMap (s t : State) (x d : Nat) (f : Nat → Nat × Nat) : Prop :=
  (∀ k ∈ List.range 256, (t.ctx x).tile d k = (f k).1 % 2 ^ 32) ∧
  FlagsOr s t x ((List.range 256).map f) ∧ TileRetires s t x d

/-- No byte of a remote load is on its way to context x (R371). -/
abbrev NoFar (s : State) (x : Nat) : Prop := (s.ctx x).bench.all (fun e => decide (e.1 < farBench)) = true

/-- Two ranges of bytes have none in common. -/
abbrev Apart (a n b m : Nat) : Prop := a + n ≤ b ∨ b + m ≤ a

/-- A command has been answered with a status and a payload: its reply is among what the device has newly written
to host memory, at whichever index of the reply ring (R482). -/
abbrev Replied (s t : State) (p : Prog) (status : Nat) (payload : List Byte) : Prop :=
  (t.host.written.drop s.host.written.length).any (fun e =>
    decide ({ e with idx := 0 } = { replyEntry p status payload with ring := 1 })) = true

end Sys2Proof.Machine
end

