-- ==== Sys2Proof/Certificates/Slice0/Obligations.lean ====
section
/-!
DEFINITION. Sys2Proof/Certificates/Slice0/Obligations.lean: the statements for the provers.  Each names the rules
of the spec it rests on; where it rests on a choice of the model it names the log entry.
-/

open Sys2Proof Sys2Proof.Machine

/-- STEP RUNS THE FRONT COMMAND. With an empty queue the block idles: log entry 1, the choice of the model. -/
def Obligations.StepRunsFrontCommand : Prop :=
  (∀ (s : State) (c : Instr) (r : List Instr),
    s.pending = c :: r → step s = exec c { s with pending := r }) ∧
  (∀ s : State, s.pending = [] → step s = .next s)

/-- Refusals of the spec (R8) are status words in a next state; no step of the block stops. -/
def Obligations.EveryStepAnswersNext : Prop :=
  ∀ s : State, ∃ t, step s = .next t

/-- The reset state meets the invariant of StepKeepsTablesCanonical. -/
def Obligations.ResetTablesCanonical : Prop :=
  Canon State.reset

/-- Register space (R12), HBM (R234) and every other table keep their canonical form under every command. -/
def Obligations.StepKeepsTablesCanonical : Prop :=
  ∀ s t : State, Canon s → step s = .next t → Canon t

/-- The effect of a command is on everything but the queue of waiting commands. -/
def Obligations.ExecLeavesQueueAlone : Prop :=
  ∀ (c : Instr) (s t : State), exec c s = .next t → t.pending = s.pending

/-- Reset values the spec gives; the reset byte of HBM is log entry 4, the choice of the model. -/
def Obligations.ResetLeavesSpecValues : Prop :=
  (∀ d, (State.reset.dom d).depth = if d = 0 then .run else .off) ∧
  State.reset.selfEid = 0xFFFF ∧ (∀ p, (State.reset.port p).lstate = .dark) ∧
  (∀ a, State.reset.reg a = regReset a) ∧ State.reset.aon = 0 ∧ State.reset.mem = [] ∧
  (∀ i, State.reset.image i = none) ∧ State.reset.host.prog = [] ∧ State.reset.pending = []

/-- R557, R558, R583: the supplies, the straps and PERST_N. Each clause names its command and the state it leaves.
Completes, with the next state of its own effect: vinAonApply, vinAonLoss, vinMainLoss, vinIoLoss,
mainPowerGood, vinIoReturn, perstAssert, perstDeassert. -/
def Obligations.SuppliesGateDomains : Prop :=
  ∀ s : State,
  (Runs (.vinAonApply) s (fun t => t.aon = 0 ∧ t.regs = [] ∧ t.mem = [] ∧ t.fw.slots = s.fw.slots ∧
      t.fw.fuseF = s.fw.fuseF ∧ t.pending = s.pending ∧ (∀ d ∈ List.range 52, t.dom d = domReset d))) ∧
  (Runs (.vinAonLoss) s (fun t => (∀ d ∈ List.range 52, t.isOff d = true) ∧ t.pwr.vinAon = false ∧
      t.pwr.alertMain = false ∧ t.pwr.alertClk = false ∧ t.pwr.thermtrip = false ∧ t.fw.fuseF = s.fw.fuseF)) ∧
  (s.pwr.vinMain = true →
    Runs (.vinMainLoss) s (fun t => t.pwr.vinMain = false ∧ t.pwr.alertMain = true ∧
      (∀ d ∈ mainDoms, t.dom d = ⟨.off, .stop, false⟩) ∧ t.dom 0 = s.dom 0 ∧ t.mem = [] ∧ t.ctxs = [])) ∧
  (s.pwr.vinMain = true →
    Runs (.vinIoLoss) s (fun t => t.pwr.vinIo = false ∧ (∀ d ∈ mainDoms, t.dom d = ⟨.off, .stop, false⟩) ∧
      t.mem = [])) ∧
  (∀ (lead src : Bool), s.pwr.vinAon = true → s.pwr.vinMain = false → s.pwr.vinIo = true →
    s.pwr.thermtrip = false → s.pwr.perst = false →
    Runs (.mainPowerGood lead src) s (fun t => t.pwr.leadSel = lead ∧ t.pwr.bootSrc = src ∧ t.pwr.vinMain = true ∧
      AtDepth t dPln .run ∧ AtDepth t dSec .run ∧ (lead = true → AtDepth t dHio .run) ∧ t.pwr.bootStep = 4)) ∧
  (s.pwr.vinIo = false → s.pwr.vinAon = true → s.pwr.vinMain = true → s.pwr.thermtrip = false →
    s.pwr.perst = false →
    Runs (.vinIoReturn) s (fun t => t.pwr.vinIo = true ∧ AtDepth t dPln .run ∧ AtDepth t dSec .run ∧
      t.pwr.bootStep = 4)) ∧
  (s.pwr.leadSel = true → s.pwr.perst = false → s.mainOk = true → 4 ≤ s.pwr.bootStep →
    Runs (.perstAssert) s (fun t => t.pwr.perst = true ∧ t.pwr.bootStep = 3 ∧ t.mem = [] ∧
      (∀ d ∈ mainDoms, t.isOff d = true))) ∧
  (s.pwr.leadSel = true → s.mainOk = true → s.pwr.bootStep = 3 →
    Runs (.perstDeassert) s (fun t => t.pwr.perst = false ∧ t.pwr.bootStep = 4 ∧ AtDepth t dPln .run ∧
      AtDepth t dHio .run))

/-- R557, steps 5 to 9, and R558: each clause is one step of the sequence. Completes, with the next state of its
own effect: pllLockDone, clusterSramBistDone, hbmPairTrained, bootComplete. -/
def Obligations.PowerUpSequence : Prop :=
  ∀ s : State,
  (∀ (c : Nat), s.refOk = true → s.pwr.bootStep = 4 → c < 8 → s.dom (dSw c) = ⟨.off, .idle, false⟩ →
    Runs (.pllLockDone) s (fun t => t.rf aClk 31 16 = 0xFFFF ∧ t.pwr.bootStep = 5 ∧
      (t.dom (dSw c)).exiting = true)) ∧
  (∀ (c : Nat), s.pwr.bootStep = 5 → c < 8 → (s.dom (dSw c)).exiting = true →
    (Runs (.clusterSramBistDone c true) s (fun t => AtDepth t (dSw c) .run ∧ AtDepth t (dReed c) .run)) ∧
    (Runs (.clusterSramBistDone c false) s (fun t => t.dom (dSw c) = ⟨.off, .stop, false⟩ ∧
        t.dom (dShu c) = ⟨.off, .stop, false⟩ ∧ t.dom (dReed c) = ⟨.off, .stop, false⟩ ∧
        bit t.pwr.sramFail c = true))) ∧
  (∀ (pair : Nat) (pass0 pass1 : Bool), s.pwr.bootStep = 6 → pair = s.pwr.hbmTrained → pair < 4 →
    Runs (.hbmPairTrained pair pass0 pass1) s (fun t => t.pwr.hbmTrained = pair + 1 ∧
      t.rf (aHbm (2 * pair)) 31 31 = b2n pass0 ∧ t.rf (aHbm (2 * pair + 1)) 31 31 = b2n pass1 ∧
      (pass0 = false → t.dom (dHbm (2 * pair)) = ⟨.off, .stop, false⟩) ∧ (pair = 3 → t.pwr.bootStep = 7))) ∧
  (s.pwr.bootStep = 7 → s.plinth = 1 →
    Runs (.bootComplete) s (fun t => t.pwr.bootStep = 9 ∧ t.plinth = (if s.rf (aComp 0) 28 27 = 2 then 3 else 0) ∧
      t.fallback = false))

/-- R46 to R48: the clocks of the package. Completes, with the next state of its own effect: refclkFabLoss,
refclkFabReturn, aonTrim, pllLockLoss. -/
def Obligations.ClocksAndTheirLoss : Prop :=
  ∀ s : State,
  (s.refOk = true →
    Runs (.refclkFabLoss) s (fun t => t.rf aClk 0 0 = 1 ∧ t.rf aClk 1 1 = 0 ∧ t.rf aClk 2 2 = s.rf aClk 2 2 ∧
      t.rf aClk 31 16 = 0 ∧ t.pwr.alertClk = true)) ∧
  (s.refOk = false →
    Runs (.refclkFabReturn) s (fun t => t.refOk = true ∧ t.pwr.alertClk = false ∧
      (5 ≤ s.pwr.bootStep → t.rf aClk 31 16 = 0xFFFF))) ∧
  (s.refOk = true →
    Runs (.aonTrim) s (fun t => t.rf aClk 2 2 = 1 ∧ t.pwr.trimAt = s.aon ∧
      t = { s.setRf aClk 2 2 1 with pwr := t.pwr })) ∧
  (∀ (c : Nat), c < 8 → Runs (.pllLockLoss 0 c) s (fun t => t.rf aClk (16 + c) (16 + c) = 0)) ∧
  (∀ (p : Nat), s.refOk = true → p < 128 → (s.port p).lstate = .active → s.paired = false →
    Runs (.refclkFabLoss) s (fun t => (t.port p).lstate = .down)) ∧
  (∀ (c : Nat), c < 8 → Runs (.pllLockLoss 1 c) s (fun t => t.rf aClk (24 + c) (24 + c) = 0)) ∧
  (∀ (k p : Nat), k < 16 → p / 8 = k → (s.port p).lstate = .active →
    Runs (.pllLockLoss 2 k) s (fun t => t.rf (aOpt k) 31 31 = 0 ∧ (t.port p).lstate = .down ∧
      (t.port p).lanePll = 0))

/-- R384, R385, R395, R396, R398: the inputs of the treadle. While the treadle core restarts a backstop acts in
its place (R437), so the clauses ask that it runs. Completes, with the next state of its own effect:
supplyAlertAssert, supplyAlertClear, flowAlert, flowAlertClear, treadleStep, capWordWrite, capHoldExpire,
capFallbackExpire. -/
def Obligations.SafetyInputsBoundThePower : Prop :=
  ∀ s : State,
  (s.sideband = true → s.trdDown = false →
    (Runs (.supplyAlertAssert) s (fun t => t.trd.supplyOn = true ∧ t.emergency = true ∧ t.trd.g = s.trd.g ∧
        t.regs = s.regs)) ∧
    (Runs (.supplyAlertClear) s (fun t => t.trd.supplyOn = false ∧ t.trd.g = s.trd.g ∧ t.regs = s.regs)) ∧
    (Runs (.flowAlert) s (fun t => t.trd.flowOn = true ∧ t.emergency = true ∧ t.trd.g = s.trd.g ∧ t.regs = s.regs)) ∧
    (Runs (.flowAlertClear) s (fun t => t.trd.flowOn = false ∧ t.trd.g = s.trd.g ∧ t.regs = s.regs)) ∧
    (∀ (pkg : Nat) (dom : List Nat), s.trd.supplyOn = true → s.supplyIn < s.trd.seen.headD 0 →
      s.supplyIn < s.trd.g → (∀ e ∈ s.safetyIns, s.supplyIn ≤ e.2) →
      Runs (.treadleStep pkg dom) s (fun t => t.trd.capNow = t.capEff ∧ t.trd.g ≤ t.supplyIn ∧
        t.rf aAlert 1 1 = 1 ∧ byteAt t.pwr.isoTx 1 = 2 ∧ byteAt t.pwr.isoTx 4 = 4 ∧ t.aon = s.aon + 960))) ∧
  (∀ (v : Word), s.pwr.vinAon = true → s.pwr.vinIo = true → fld v 31 16 = 65535 - fld v 15 0 → 150 ≤ fld v 15 0 →
    fld v 15 0 ≤ 1200 →
    Runs (.capWordWrite .i3c v) s (fun t => t.reg aCapRack = v ∧ t.trd.rackIn = 100 * fld v 15 0 ∧
      t.trd.mode = 0)) ∧
  (s.trd.mode = 0 →
    Runs (.capHoldExpire) s (fun t => t.trd.mode = 1 ∧ t.trd.holdCap = some s.trd.capNow ∧ t.rf aAlert 4 4 = 1)) ∧
  (s.trd.mode = 1 → Runs (.capFallbackExpire) s (fun t => t.trd.mode = 2 ∧ t.trd.rackIn = s.trd.rackIn)) ∧
  (∀ (v : Word), s.pwr.vinAon = true → s.pwr.vinIo = true → fld v 31 16 ≠ 65535 - fld v 15 0 →
    Runs (.capWordWrite .i3c v) s (fun t => t = s.bump aTrdErr 15 8 1))

/-- R386, R389, R391 and R46; that ballast needs a SHU, HBM or REED domain at RUN is the reading of log entry 26.
Completes, with the next state of its own effect: treadleStep, clusterShareUpdate, shuClockSwitch. -/
def Obligations.TreadleStepGoverns : Prop :=
  ∀ s : State,
  (∀ (pkg : Nat) (dom : List Nat), s.pwr.vinAon = true → s.trdDown = false →
    Runs (.treadleStep pkg dom) s (fun t => t.aon = s.aon + 960 ∧ t.trd.capNow = t.capEff ∧
      t.trd.g ≤ t.trd.capNow ∧
      t.trd.ballast = (if t.trd.g ≤ pkg - s.trd.ballast ∨ s.ballastUp = false then 0 else t.trd.g - (pkg - s.trd.ballast)) ∧
      t.trd.pkgHist.head? = some pkg)) ∧
  (s.trdDown = false →
    Runs (.clusterShareUpdate) s (fun t => (∀ c ∈ List.range 8, t.share c ≤ s.cluLimit c) ∧
      (s.trd.ballast = 0 ∧ s.trd.g ≤ 120000 ∧ (∀ c ∈ List.range 8, 120000 ≤ s.cluLimit c) → ∀ c ∈ List.range 8, t.share c = (s.trd.g - s.plinthDraw) / 16 + (if s.clustersDraw = 0 then 0 else (s.trd.g - s.plinthDraw) / 2 * s.cluDraw c / s.clustersDraw)) ∧
      t.regs = s.regs ∧ t.mem = s.mem ∧ t.sw = s.sw)) ∧
  (∀ (c : Nat), c < 8 →
    Runs (.shuClockSwitch c) s (fun t => tabGet (fun _ => 2000) t.pwr.shuClk c = s.clkOrdered c ∧
      t.regs = s.regs ∧ t.mem = s.mem))

/-- R34 to R37. Completes, with the next state of its own effect: isoStatusFrameRx, isoLostTimeout, demandFrameTx,
isoStatusClear. -/
def Obligations.PowerLinkFrames : Prop :=
  ∀ s : State,
  (∀ (b : List Byte), s.sideband = true → b.length = 14 → byteAt b 0 = 0xA5 → byteAt b 1 = 0x81 → byteAt b 3 = 8 →
    crc16 (slice b 1 11) = field b 12 2 →
    Runs (.isoStatusFrameRx b) s (fun t => t.rf aIso 31 16 = field b 4 2 ∧ t.pwr.isoStatus = slice b 4 8 ∧
      t.rf aIso 15 8 = s.rf aIso 15 8)) ∧
  (s.rf aIso 0 0 = 0 → Runs (.isoLostTimeout) s (fun t => t.rf aIso 0 0 = 1)) ∧
  (s.sideband = true →
    Runs (.demandFrameTx) s (fun t => t.pwr.isoTx.length = 14 ∧ byteAt t.pwr.isoTx 0 = 0xA5 ∧
      byteAt t.pwr.isoTx 1 = 1 ∧ field t.pwr.isoTx 4 2 = avgW 10 s.trd.pkgHist % 65536 ∧
      crc16 (slice t.pwr.isoTx 1 11) = field t.pwr.isoTx 12 2 ∧ t.pwr.isoSeq = (s.pwr.isoSeq + 1) % 256)) ∧
  (∀ (path : Path) (v : Word), s.pathAny path = true → fld v 0 0 = 1 →
    Runs (.isoStatusClear path v) s (fun t => t.rf aIso 0 0 = 0 ∧ t.rf aIso 15 8 = 0 ∧
      t.rf aIso 31 16 = s.rf aIso 31 16)) ∧
  (∀ (b : List Byte), s.sideband = true → b.length ≠ 14 ∨ crc16 (slice b 1 11) ≠ field b 12 2 →
    Runs (.isoStatusFrameRx b) s (fun t => t = s.bump aIso 15 8 1))

/-- R39 to R42, R392, R394: moves between the depths of a domain. Completes, with the next state of its own
effect: swGateTimer, shuGateTimer, shuRetainTimer, reedGateTimer, reedRetainTimer, hbmSrTimer, domainExitDone,
deepIdleEnter, domainRun, domainOff. -/
def Obligations.DomainsSinkAndWake : Prop :=
  ∀ s : State,
  (∀ (c : Nat), c < 8 → (s.dom (dSw c)).depth = .run → (s.dom (dSw c)).exiting = false → s.sliceEmpty c = true →
    s.role = 0 →
    Runs (.swGateTimer c) s (fun t => t.dom (dSw c) = ⟨if s.cluQuiet c then .retain else .gated, .idle, false⟩)) ∧
  (∀ (c : Nat), c < 8 → s.atDepth (dShu c) .run = true → s.shuBusy c = false →
    Runs (.shuGateTimer c) s (fun t => AtDepth t (dShu c) .gated)) ∧
  (∀ (c : Nat), c < 8 → s.dom (dShu c) = ⟨.gated, .idle, false⟩ → s.shuBusy c = false → s.shuQueued c = false →
    Runs (.shuRetainTimer c) s (fun t => AtDepth t (dShu c) .retain)) ∧
  (∀ (c : Nat), c < 8 → s.atDepth (dReed c) .run = true → s.reedOpen c = false →
    Runs (.reedGateTimer c) s (fun t => AtDepth t (dReed c) .gated)) ∧
  (∀ (c : Nat), c < 8 → s.dom (dReed c) = ⟨.gated, .idle, false⟩ → s.reedOpen c = false →
    Runs (.reedRetainTimer c) s (fun t => AtDepth t (dReed c) .retain)) ∧
  (∀ (n : Nat), n < 8 → s.atDepth (dHbm n) .run = true → s.role ≠ 2 → s.streaming = false →
    Runs (.hbmSrTimer n) s (fun t => AtDepth t (dHbm n) .retain ∧ t.mem = s.mem)) ∧
  (∀ (d : Nat), d < 36 → (s.dom d).exiting = true → s.pwr.bootStep = 9 →
    Runs (.domainExitDone d) s (fun t => AtDepth t d .run ∧ (t.dom d).exiting = false)) ∧
  (s.isOff dPln = false → s.deepOk = true →
    Runs (.deepIdleEnter) s (fun t => t.trd.deepIdle = true ∧ AtDepth t dPln .gated)) ∧
  (∀ (tag : Nat) (p : Prog),
    (∀ (d : Nat), Waits s tag 0x0604 p → d < 52 →
      (d ≠ dHio → p.payload = [BitVec.ofNat 8 d, 0#8] → s.dom d = ⟨.off, .held, false⟩ →
        Runs (.domainRun tag) s (fun t => t.dom d = ⟨.off, .held, true⟩ ∧ Answered t p stOk [])) ∧
      (p.payload = [BitVec.ofNat 8 d, 3#8] → s.offOk d = true → (s.dom d).depth ≠ .off →
        Runs (.domainOff tag) s (fun t => t.dom d = ⟨.off, .held, false⟩ ∧ Answered t p stOk [])) ∧
      (p.payload = [BitVec.ofNat 8 d, 3#8] → s.offOk d = false →
        Runs (.domainOff tag) s (fun t => t.dom d = s.dom d ∧ Answered t p stState []))))

/-- R393, R397, R410, R412, R413 and the power rows of R493. Completes, with the next state of its own effect:
hostCap, sleep, hostCfg, powerRead, powerReports, powerReportRead, trdAlertClear, trdErrClear. -/
def Obligations.HostPowerCommands : Prop :=
  ∀ s : State,
  (∀ (path : Path) (d : Nat), s.pathAny path = true → d < 64 →
    Runs (.powerReportRead path d) s (fun t => t.cnt.readOut = [s.reportWord d 0] ∧
      tabGet (fun _ => none) t.cnt.latch (aReport d 1) = some (s.reportWord d 1) ∧ t.regs = s.regs)) ∧
  (∀ (path : Path) (v : Word), s.pathAny path = true →
    Runs (.trdAlertClear path v) s (fun t =>
      (∀ i ∈ List.range 5, bit (t.rf aAlert 4 0) i = (bit (s.rf aAlert 4 0) i && !bit (fld v 4 0) i)))) ∧
  (∀ path : Path, s.pathOk path = true →
    (∀ (v : Word), 150 ≤ fld v 10 0 → fld v 10 0 ≤ 1200 → s.role ≠ 2 →
      Runs (.hostCap (.reg path aHostReq v)) s (fun t => t.rf aHostReq 10 0 = fld v 10 0 ∧
        t.rf aHostReq 31 31 = fld v 31 31)) ∧
    (∀ (v : Word), fld v 0 0 = 1 → Runs (.trdErrClear path v) s (fun t => t = s.setReg aTrdErr 0))) ∧
  (∀ (tag : Nat) (p : Prog),
    (Waits s tag 0x0603 p → p.payload = [1#8] → s.role ≠ 2 → s.rf aHostReq 10 0 = 0 →
      Runs (.sleep (.cmd tag)) s (fun t => t.rf aHostReq 31 31 = 1 ∧ t.rf aHostReq 10 0 = 0)) ∧
    (Waits s tag 0x0606 p → p.payload.length = 9 → depthCfgOk (BitVec.ofNat 32 (field p.payload 0 4)) = true →
      govCfgOk (BitVec.ofNat 32 (field p.payload 4 4)) = true →
      Runs (.hostCfg tag) s (fun t => t.rf aDepthCfg 31 0 = field p.payload 0 4 ∧
        t.rf aGov 9 0 = bits (field p.payload 4 4) 9 0 ∧ t.rf aGov 31 16 = bits (field p.payload 4 4) 31 16)) ∧
    (Waits s tag 0x0601 p → p.payload = [] →
      Runs (.powerRead tag) s (fun t =>
        Answered t p stOk (s.regBytes aTrdState 4 ++ s.regBytes aHostSt 1 ++ wordsToBytes [s.reportWord 63 0, s.reportWord 63 1]) ∧
        t.trd = s.trd ∧ t.mem = s.mem)) ∧
    (∀ (first n : Nat), Waits s tag 0x0605 p → p.payload = [BitVec.ofNat 8 first, BitVec.ofNat 8 n] →
      first + n ≤ 64 → n ≤ 12 →
      Runs (.powerReports tag) s (fun t =>
        Answered t p stOk ((List.range n).flatMap (fun i => wordsToBytes [s.reportWord (first + i) 0, s.reportWord (first + i) 1])) ∧
        t.trd = s.trd)) ∧
    (Waits s tag 0x0602 p → p.payload.length = 2 → 150 ≤ field p.payload 0 2 → field p.payload 0 2 ≤ 1200 →
      s.role ≠ 2 →
      Runs (.hostCap (.cmd tag)) s (fun t => t.rf aHostReq 10 0 = field p.payload 0 2 ∧
        t.rf aHostReq 31 31 = s.rf aHostReq 31 31)) ∧
    (Waits s tag 0x0603 p → p.payload = [1#8] → s.role = 2 → s.rf aHostReq 10 0 = 0 →
      Runs (.sleep (.cmd tag)) s (fun t => t.reg aHostReq = s.reg aHostReq ∧ t.rf aHostSt 15 0 = stState)))

/-- R414 to R419; the arithmetic of the ladder is the model's reading, named in the log. Completes, with the next
state of its own effect: thermalSample, sensorPlausibilityTimer, rungReleaseTimer, ladderStepTimer,
thermtripAssert, tripLatchClear. -/
def Obligations.ThermalSensorsAndLadder : Prop :=
  ∀ s : State,
  (∀ (l : List Int) (i : Nat) (v : Int), s.pwr.vinAon = true → i < 82 → l[i]? = some v → inRange v = true →
    Runs (.thermalSample l) s (fun t => t.sensorTemp i = v ∧
      (∀ z ∈ List.range 33, rungOf (t.zoneTemp z) ≤ t.rung z))) ∧
  (∀ (i : Nat), i < 82 → s.sensorState i ≠ 2 → s.sensorTemp i < s.model (sensorZone i) - deg 12 →
    Runs (.sensorPlausibilityTimer i) s (fun t => t.sensorState i = 1)) ∧
  (∀ (c : Nat), c < 8 → (∀ z ∈ rungZones 1 c, s.rung z ≤ 1 ∧ s.zoneTemp z < rungRelease 1) →
    (∃ z ∈ rungZones 1 c, s.rung z = 1) →
    Runs (.rungReleaseTimer 1 c) s (fun t => (∀ z ∈ rungZones 1 c, t.rung z = 0))) ∧
  (∀ (z : Nat), z < 33 → deg 100 ≤ s.zoneTemp z → s.limitOn = true →
    Runs (.ladderStepTimer) s (fun t => t.thm.limitCap = s.thm.limitCap - 50)) ∧
  (∀ (i : Nat), s.pwr.vinAon = true → i < 82 → s.sensorState i ≠ 2 →
    Runs (.thermtripAssert i) s (fun t => t.pwr.thermtrip = true ∧ t.rf aTrip 0 0 = 1 ∧
      (s.rf aTrip 0 0 = 0 → t.rf aTrip 7 1 = i) ∧ (∀ d ∈ mainDoms, t.dom d = ⟨.off, .stop, false⟩))) ∧
  (∀ (path : Path) (v : Word), s.pathAny path = true → fld v 0 0 = 1 → s.rf aTrip 0 0 = 1 →
    (∀ i ∈ List.range 82, s.sensorTemp i < deg 100) →
    Runs (.tripLatchClear path v) s (fun t => t.rf aTrip 0 0 = 0 ∧ t.pwr.thermtrip = false))

/-- R420 to R422, R429 and the rows of R493. Completes, with the next state of its own effect: coolantSample,
coolDtTimer, leakSample, leakDryTimer, sensors, zones, coolCfg. -/
def Obligations.CoolantAndLeakLoop : Prop :=
  ∀ s : State,
  (∀ (a b : Int), s.pwr.vinAon = true →
    Runs (.coolantSample a b) s (fun t => t.rf aCool 15 0 = ofSigned 16 a ∧ t.rf aCool 31 16 = ofSigned 16 b ∧
      t.thm.inFailed = !thermistorOk a ∧ t.thm.outFailed = !thermistorOk b)) ∧
  (s.coolCheck = true → s.coolSide = 1 → s.rf aLeak 29 29 = 0 →
    Runs (.coolDtTimer 0) s (fun t => t.rf aLeak 29 29 = 1 ∧ t.thermIn ≤ 1200 * s.rf aFallbk 7 0)) ∧
  (∀ (r : Nat), s.pwr.vinAon = true → s.thm.leakBand = leakBand r → 4 ≤ s.thm.leakRun →
    s.rf aLeak 31 30 ≠ leakBand r →
    Runs (.leakSample r) s (fun t => t.rf aLeak 31 30 = leakBand r ∧ (leakBand r = 1 → t.trd.leakOn = true))) ∧
  (s.trd.leakOn = true → s.rf aLeak 31 30 = 0 →
    Runs (.leakDryTimer) s (fun t => t.trd.leakOn = false ∧ t.trd.leakCap = 1200)) ∧
  (s.coolCheck = true → s.coolSide = -1 → s.rf aLeak 28 28 = 0 →
    Runs (.coolDtTimer 1) s (fun t => t.rf aLeak 28 28 = 1)) ∧
  (s.coolCheck = true → s.coolSide = 0 → s.rf aLeak 29 29 = 1 →
    Runs (.coolDtTimer 2) s (fun t => t.rf aLeak 29 29 = 0 ∧ t.coolHigh = false)) ∧
  (∀ (r : Nat), s.pwr.vinAon = true → s.thm.leakBand ≠ leakBand r →
    Runs (.leakSample r) s (fun t => t.thm.leakRun = 1 ∧ t.reg aLeak = s.reg aLeak)) ∧
  (∀ (tag : Nat) (p : Prog),
    (∀ (first n : Nat), Waits s tag 0x0701 p → p.payload = [BitVec.ofNat 8 first, BitVec.ofNat 8 n] → 1 ≤ n →
      n ≤ 24 → first + n ≤ 82 →
      Runs (.sensors tag) s (fun t => Answered t p stOk (s.regBytes (aSensor first) n) ∧ t.thm = s.thm)) ∧
    (Waits s tag 0x0702 p → p.payload = [] → p.fits 140 = true →
      Runs (.zones tag) s (fun t =>
        Answered t p stOk (wordsToBytes ((List.range 33).map s.zoneWord) ++ s.regBytes aCool 1 ++ s.regBytes aLeak 1) ∧
        t.thm = s.thm)) ∧
    (Waits s tag 0x0703 p → p.payload.length = 6 → coolCfgOk (BitVec.ofNat 32 (field p.payload 0 4)) = true →
      leakCfgOk (BitVec.ofNat 32 (field p.payload 4 2)) = true →
      Runs (.coolCfg tag) s (fun t => t.rf aCoolCfg 31 0 = field p.payload 0 4 ∧
        t.rf aLeak 15 0 = field p.payload 4 2 ∧ Answered t p stOk [])))

/-- R424 to R427, R430 and the cartridge rows of R493. The layout of the identity record is opaque: log entry 31.
Completes, with the next state of its own effect: cartPresenceQualified, cartIdentityReadDone, inspectionDone,
cartRemove, cartInspect, cartPull, cartStatus, scores, cartIdentity. -/
def Obligations.CartridgeStates : Prop :=
  ∀ s : State,
  (∀ (k : Nat), k < 16 → s.pwr.vinIo = true → s.rf (aCrt k) 27 27 = 0 →
    Runs (.cartPresenceQualified k) s (fun t => t.crtState k = 1 ∧ t.rf (aCrt k) 27 26 = 3)) ∧
  (∀ (k : Nat), s.pwr.vinIo = true → k < 16 → s.crtState k = 1 →
    (∀ (b : List Byte),
      Runs (.cartIdentityReadDone k b true) s (fun t => t.crtState k = 2 ∧ (t.cart k).record = padTo 64 b)) ∧
    (∀ (b : List Byte), Runs (.cartIdentityReadDone k b false) s (fun t => t.crtState k = 5))) ∧
  (∀ (k : Nat) (l : List Nat), k < 16 → s.crtState k = 2 → AtDepth s (dOpt k) .run → l.length = 16 →
    Runs (.inspectionDone k l) s (fun t => t.crtState k = 3 ∧ t.rf (aCrt k) 25 25 = 1 ∧ t.rf (aOpt k) 30 30 = 1 ∧
      (∀ i ∈ List.range 8, t.rf (aScore (8 * k + i)) 7 0 = fibreScore (l.getD (2 * i) 256) ∧ t.rf (aScore (8 * k + i)) 15 8 = fibreScore (l.getD (2 * i + 1) 256)))) ∧
  (∀ (k p : Nat), k < 16 → s.sideband = true → s.rf (aCrt k) 27 27 = 1 → p / 8 = k → (s.port p).lstate = .active →
    s.portRole p ≠ 0 →
    Runs (.cartPull k) s (fun t => t.crtState k = 0 ∧ t.rf (aCrt k) 27 26 = 0 ∧ t.rf (aOpt k) 30 30 = 0 ∧
      (t.port p).lstate = .down ∧ (t.port p).downCause = 1)) ∧
  (∀ (tag : Nat) (p : Prog),
    (∀ (k : Nat), Waits s tag 0x0705 p → k < 16 → p.payload = [BitVec.ofNat 8 k, 1#8] →
      (s.isOff (dOpt k) = true → s.crtState k = 3 →
        Runs (.cartRemove (.cmd tag)) s (fun t => t.crtState k = 4 ∧ t.rf (aCrt k) 26 26 = 0 ∧
          t.rf (aOpt k) 30 30 = 0 ∧ Answered t p stOk (t.regBytes (aCrt k) 1))) ∧
      (s.isOff (dOpt k) = false →
        Runs (.cartRemove (.cmd tag)) s (fun t => t.crtState k = s.crtState k ∧ Answered t p stState []))) ∧
    (∀ (k : Nat), Waits s tag 0x0705 p → k < 16 → p.payload = [BitVec.ofNat 8 k, 2#8] → AtDepth s (dOpt k) .run →
      s.crtState k = 3 → (s.cart k).inspectBy = none → (enginePorts k).all s.darkOrOff = true →
      Runs (.cartInspect (.cmd tag)) s (fun t => t.crtState k = 2 ∧ (t.cart k).inspectBy = some [tag])) ∧
    (Waits s tag 0x0704 p → p.payload = [] →
      Runs (.cartStatus tag) s (fun t =>
        Answered t p stOk (wordsToBytes ((List.range 16).map (fun k => s.reg (aCrt k)))) ∧ t.carts = s.carts)) ∧
    (∀ (first n : Nat), Waits s tag 0x0706 p → p.payload = [BitVec.ofNat 8 first, BitVec.ofNat 8 n] → n ≤ 24 →
      first + n ≤ 128 →
      Runs (.scores tag) s (fun t => Answered t p stOk (s.regBytes (aScore first) n) ∧ t.carts = s.carts)) ∧
    (∀ (k : Nat), Waits s tag 0x0707 p → k < 16 → p.payload = [BitVec.ofNat 8 k] → s.crtState k ≠ 0 →
      Runs (.cartIdentity tag) s (fun t => Answered t p stOk (padTo 64 (s.cart k).record) ∧ t.carts = s.carts)))

/-- R55, R56: decode of encode, for link frames at every value the layout admits. -/
def Obligations.LinkFrameReadsBackAsSent : Prop :=
  ∀ f : Frame, Frame.ok f → f.bytes.length = 272 ∧ frameCrcOk f.bytes = true ∧ frameOf f.bytes = f

/-- R94, R105, R106. -/
def Obligations.PacketHeaderReadsBackAsSent : Prop :=
  ∀ (dst src typ flow fsn : Nat) (mc pin fe : Bool) (op data : List Byte),
    dst < 65536 → src < 65536 → typ < 64 → flow < 65536 → fsn < 2 ^ 24 → data.length ≤ 4096 →
    let k := mkPkt dst src typ mc pin fe flow fsn op data
    k.hdr.length = 64 ∧ hDst k.hdr = dst ∧ hSrc k.hdr = src ∧ hType k.hdr = typ ∧ hVc k.hdr = typ / 8 ∧
      hMcast k.hdr = mc ∧ hPinned k.hdr = pin ∧ hFence k.hdr = fe ∧ hLen k.hdr = ceilDiv data.length 64 ∧
      hFlow k.hdr = flow ∧ hFsn k.hdr = fsn ∧ e2eOk k = true

/-- R57, R61, R65 to R67, R69, R110. Completes, with the next state of its own effect: linkFrameRx, linkFrameTx,
retryTimerExpire, linkSilentTimeout, ctrlMsgResend. -/
def Obligations.LinkFramesInAndOut : Prop :=
  ∀ s : State,
  (∀ (p : Nat), p < 128 → (s.port p).lstate = .active → (s.port p).txOn = true →
    (∀ (w : List Nat) (b : List Byte), fecOk w = false ∨ frameCrcOk b = false →
      Runs (.linkFrameRx p w b) s (fun t => (t.port p).retryReq = true ∧ (t.port p).rxFsn = (s.port p).rxFsn ∧
        t.rf (aLinkErr p) 31 20 = satAdd 12 (s.rf (aLinkErr p) 31 20) 1 ∧ t.sw = s.sw ∧ t.mem = s.mem)) ∧
    ((s.port p).ctlTx = [] → (s.port p).replayAt = none →
      ((∀ v ∈ List.range 7, s.outq p v = []) →
        Runs (.linkFrameTx p) s (fun t => (t.port p).lastTx.length = 272 ∧ (frameOf (t.port p).lastTx).ftype = 1 ∧
          (t.port p).txFsn = (s.port p).txFsn ∧ (t.port p).replay = (s.port p).replay)) ∧
      ((s.port p).replay.length < 1024 →
        (∃ v ∈ List.range 7, s.pickReady p v = true ∧ (s.port p).hasCredit v = true) →
        Runs (.linkFrameTx p) s (fun t => (t.port p).txFsn = ((s.port p).txFsn + 1) % 65536 ∧
          (t.port p).replay.length = (s.port p).replay.length + 1 ∧
          (t.port p).replay.getLast?.map (fun f => f.fsn) = some (s.port p).txFsn))) ∧
    (∀ (w : List Nat) (b : List Byte), fecOk w = true → frameCrcOk b = true → (frameOf b).ftype = 0 →
      (frameOf b).retry = false →
      ((frameOf b).fsn = (s.port p).rxFsn →
        Runs (.linkFrameRx p w b) s (fun t => (t.port p).rxFsn = ((s.port p).rxFsn + 1) % 65536 ∧
          (t.port p).retryReq = false ∧
          (∀ f ∈ (t.port p).replay, 32768 ≤ ((frameOf b).asn + 65536 - f.fsn) % 65536))) ∧
      ((frameOf b).fsn ≠ (s.port p).rxFsn → 32768 < ((s.port p).rxFsn + 65536 - (frameOf b).fsn) % 65536 →
        Runs (.linkFrameRx p w b) s (fun t => (t.port p).rxFsn = (s.port p).rxFsn ∧ (t.port p).retryReq = true ∧
          t.sw = s.sw)))) ∧
  (∀ (p : Nat),
    Runs (.retryTimerExpire p) s (fun t => (t.port p).retryAsn = none ∧ (t.port p).lstate = (s.port p).lstate ∧
      t.regs = s.regs)) ∧
  (∀ (p : Nat), p < 128 → (s.port p).lstate = .active →
    Runs (.linkSilentTimeout p) s (fun t => (t.port p).lstate = .down ∧ (t.port p).downCause = 3 ∧
      (t.port p).replay = [])) ∧
  (∀ (p typ : Nat) (m : List Byte), (s.port p).ctlWait.find? (fun m => decide (byteAt m 0 = typ)) = some m →
    m ∉ (s.port p).ctlTx →
    Runs (.ctrlMsgResend p typ) s (fun t => (t.port p).ctlTx = (s.port p).ctlTx ++ [m] ∧
      (t.port p).ctlWait = (s.port p).ctlWait))

/-- R70 to R73, R78. The clauses about a new peer ask that the device is unpaired; R504 has its own rules for PAIR
ports. Completes, with the next state of its own effect: linkTrainStart, downRetrainTimer, trainParams,
trainAck, trainComplete, trainTimeout, resync. -/
def Obligations.LinkTrainsAndResyncs : Prop :=
  ∀ s : State,
  (∀ (p : Nat), s.mayTrain p = true → (s.port p).lstate = .dark →
    (s.portDomsRun p = true → s.portClock p = true → s.rf (aCrt (p / 8)) 24 24 = 0 → s.lit p = true →
      s.ctlDown (p / 16) = false →
      Runs (.linkTrainStart p) s (fun t => (t.port p).lstate = .train ∧ (t.port p).txOn = true ∧
        (∃ m ∈ (t.port p).ctlTx, byteAt m 0 = 1))) ∧
    (s.dom (dOpt (p / 8)) = ⟨.off, .idle, false⟩ → s.ctlDown (p / 16) = false →
      Runs (.linkTrainStart p) s (fun t => (t.dom (dOpt (p / 8))).exiting = true ∧ (t.port p).lstate = .dark))) ∧
  (∀ (p : Nat), s.mayTrain p = true → (s.port p).lstate = .down → s.portDomsRun p = true → s.portClock p = true →
    s.rf (aCrt (p / 8)) 24 24 = 0 → s.lit p = true → s.ctlDown (p / 16) = false →
    Runs (.downRetrainTimer p) s (fun t => (t.port p).lstate = .train ∧ (t.port p).txOn = true ∧
      (∃ m ∈ (t.port p).ctlTx, byteAt m 0 = 1))) ∧
  (∀ (p : Nat) (m : List Byte), FreshCtl s p 1 m → s.ctlDown (p / 16) = false → (s.port p).lstate = .train →
    byteAt m 2 = 1 → paramsOk m = true → lanesBoth (s.port p).mineLanes (byteAt m 16) ≠ 0 →
    Runs (.trainParams p m) s (fun t => (t.port p).gotParams = true ∧ (t.port p).advPeer = advOf m ∧
      (t.port p).lstate = .train ∧ (∃ a ∈ (t.port p).ctlTx, byteAt a 0 = 2 ∧ field a 2 2 = byteAt m 1))) ∧
  (∀ (p : Nat) (m : List Byte), FreshCtl s p 2 m → (s.port p).lstate = .train →
    (∃ w ∈ (s.port p).ctlWait, byteAt w 0 = 1 ∧ byteAt w 1 = field m 2 2) →
    Runs (.trainAck p m) s (fun t => (t.port p).gotAck = true ∧ (t.port p).lstate = .train)) ∧
  (∀ (p : Nat), p < 128 → (s.port p).lstate = .train → (s.port p).gotParams = true → (s.port p).gotAck = true →
    s.lit p = true → s.portDomsRun p = true → s.ctlDown (p / 16) = false → s.paired = false →
    ((s.port p).lastPeer ≠ some ((s.port p).peerEid, (s.port p).peerIdent) →
      Runs (.trainComplete p) s (fun t => (t.port p).lstate = .active ∧ (t.port p).txFsn = 0 ∧
        (t.port p).rxFsn = 0 ∧ (t.port p).replay = [] ∧ (t.port p).laneActive = (s.port p).lanesOf ∧
        t.fwdEn p = false ∧ (t.port p).lastPeer = some ((s.port p).peerEid, (s.port p).peerIdent))) ∧
    (s.role ≠ 2 → (s.port p).roleMismatch = false →
      (s.port p).lastPeer = some ((s.port p).peerEid, (s.port p).peerIdent) →
      Runs (.trainComplete p) s (fun t => (t.port p).lstate = .active ∧ t.fwdEn p = s.fwdEn p))) ∧
  (∀ (p : Nat), p < 128 → (s.port p).lstate = .train →
    Runs (.trainTimeout p) s (fun t => (t.port p).lstate = .down ∧ (t.port p).downCause = 7)) ∧
  (∀ (p : Nat) (m : List Byte), p < 128 → FreshCtl s p 10 m → (s.port p).lstate = .hold → (s.port p).txOn = true →
    (s.port p).holdDepth = .lit → (s.port p).peerResync = true ∨ bit (byteAt m 17) 1 = true → paramsOk m = true →
    (s.port p).ctlWait = [] → lanesBoth (s.lanesMine p) (byteAt m 16) ≠ 0 → s.portDomsRun p = true →
    Runs (.resync p m) s (fun t => (t.port p).lstate = .active ∧ (t.port p).txFsn = 0 ∧ (t.port p).rxFsn = 0 ∧
      (t.port p).replay = [] ∧ (t.port p).advPeer = advOf m ∧
      (t.port p).laneActive = lanesBoth (s.lanesMine p) (byteAt m 16))) ∧
  (∀ (p : Nat) (m : List Byte), p < 128 → FreshCtl s p 1 m → s.ctlDown (p / 16) = false →
    (s.port p).lstate = .train → byteAt m 2 ≠ 1 →
    Runs (.trainParams p m) s (fun t => (t.port p).lstate = .down ∧ (t.port p).downCause = 8))

/-- R69, R72, R74 to R77, R392. Completes, with the next state of its own effect: holdReq, holdAck, wake,
wakePatternDetect, holdLimitExpire, downNotice, linkRestTimer, linkDarkTimer. -/
def Obligations.LinkHoldsAndWakes : Prop :=
  ∀ s : State,
  (∀ (p : Nat) (m : List Byte), p < 128 → FreshCtl s p 3 m → s.ctlDown (p / 16) = false →
    (s.port p).lstate = .active →
    (byteAt m 2 = 1 → byteAt m 3 = 0 →
      Runs (.holdReq p m) s (fun t => (t.port p).lstate = .hold ∧ (t.port p).holdReason = .freeze ∧
        (t.port p).holdDepth = .lit ∧ (∃ a ∈ (t.port p).ctlTx, byteAt a 0 = 4 ∧ byteAt a 2 = 1))) ∧
    (byteAt m 2 = 0 → (s.port p).holdReq = none → s.portIdle p = false →
      Runs (.holdReq p m) s (fun t => (t.port p).lstate = .active ∧
        (∃ a ∈ (t.port p).ctlTx, byteAt a 0 = 4 ∧ byteAt a 2 = 0)))) ∧
  (∀ (p : Nat) (m : List Byte), p < 128 → FreshCtl s p 4 m → (s.port p).lstate = .active →
    (s.port p).holdReq ≠ none → byteAt m 2 = 1 →
    Runs (.holdAck p m) s (fun t => (t.port p).lstate = .hold ∧
      (t.port p).holdReason = holdReasonOf (byteAt m 3) ∧ (t.port p).holdDepth = holdDepthOf (byteAt m 4) ∧
      (t.port p).holdReq = none)) ∧
  (∀ (p : Nat) (m : List Byte), p < 128 → FreshCtl s p 5 m → (s.port p).widthReq = none →
    s.ctlDown (p / 16) = false → (s.port p).lstate = .hold → (s.port p).resyncMsg = none → s.portDomsRun p = true →
    (s.port p).replay = [] ∨ (s.port p).retryRow + 1 < s.rf (aRetry p) 23 16 →
    Runs (.wake p m) s (fun t => (t.port p).lstate = .active ∧ (t.port p).holdReason = .none ∧
      (t.port p).txOn = true)) ∧
  (∀ (p : Nat), p < 128 → (s.port p).lstate = .hold → (s.port p).holdDepth = .dark →
    AtDepth s (dOpt (p / 8)) .retain →
    Runs (.wakePatternDetect p) s (fun t => (t.port p).txOn = true ∧ (t.dom (dOpt (p / 8))).exiting = true ∧
      t.trd.deepIdle = false)) ∧
  (∀ (p : Nat), p < 128 → (s.port p).lstate = .hold → (s.port p).holdReason = .freeze → (s.port p).gotAck = false →
    (s.port p).resyncMsg = none → s.dovetailPort p = false →
    Runs (.holdLimitExpire p) s (fun t => (t.port p).lstate = .down ∧ (t.port p).downCause = 4)) ∧
  (∀ (p : Nat) (m : List Byte), p < 128 → FreshCtl s p 9 m → (s.port p).lstate = .active →
    Runs (.downNotice p m) s (fun t => (t.port p).lstate = .down ∧ (t.port p).downCause = 5)) ∧
  (∀ (p : Nat), s.ctlDown (p / 16) = false → (s.port p).lstate = .active → s.portRole p = 1 ∨ s.portRole p = 2 →
    s.portIdle p = true → (s.port p).holdReq = none → (∀ v ∈ List.range 7, s.inq p v = []) →
    Runs (.linkRestTimer p) s (fun t => (t.port p).holdReq = some (.rest, .lit) ∧ (t.port p).lstate = .active ∧
      (∃ a ∈ (t.port p).ctlTx, byteAt a 0 = 3 ∧ byteAt a 2 = 0))) ∧
  (∀ (p : Nat), (s.port p).lstate = .hold → (s.port p).holdReason = .rest → (s.port p).holdDepth = .lit →
    (s.port p).txOn = true → (s.port p).holdReq = none → s.dovetailPort p = false → s.role ≠ 2 →
    s.rf aDepthCfg 23 16 ≠ 0 → s.ctlDown (p / 16) = false →
    Runs (.linkDarkTimer p) s (fun t => (t.port p).holdReq = some (.rest, .dark) ∧ (t.port p).lstate = .hold)) ∧
  (∀ (p : Nat) (m : List Byte), FreshCtl s p 4 m → (s.port p).holdReq ≠ none → byteAt m 2 ≠ 1 →
    Runs (.holdAck p m) s (fun t => (t.port p).lstate = (s.port p).lstate ∧ (t.port p).holdReq = none))

/-- R79 to R81, R83, R84, R86, R161. Completes, with the next state of its own effect: width, widthAck,
laneRetire, laneLendTimeout, paceRx, paceResend, paceRelease. -/
def Obligations.LanesAndPacing : Prop :=
  ∀ s : State,
  (∀ (p : Nat) (m : List Byte), FreshCtl s p 6 m → (s.port p).lstate = .hold → (s.port p).txOn = true →
    byteAt m 2 % 16 ≠ 0 →
    (byteAt m 3 = 1 →
      Runs (.width p m) s (fun t => (t.port p).laneActive = byteAt m 2 % 16 ∧
        ((frameOf (t.port p).lastTx).slots.headD none).map (fun e => (e.1, byteAt e.2 0, byteAt e.2 2)) = some (0, 7, 1))) ∧
    (byteAt m 3 = 2 → s.rf (aPortCfg p) 11 10 = 0 →
      Runs (.width p m) s (fun t => (t.port p).laneActive = (s.port p).laneActive ∧
        (∃ a ∈ (t.port p).ctlTx, byteAt a 0 = 7 ∧ byteAt a 2 = 0)))) ∧
  (∀ (p : Nat) (m : List Byte) (mask cause : Nat), FreshCtl s p 7 m → (s.port p).widthReq = some (mask, cause) →
    (s.port p).widthWait = [] → byteAt m 2 = 1 →
    Runs (.widthAck p m) s (fun t => (t.port p).laneActive = mask ∧ (t.port p).widthReq = none)) ∧
  (∀ (p lane : Nat) (why : LaneFault), s.ctlDown (p / 16) = false → laneRetires lane why = true →
    (s.port p).lstate = .active → lane < 4 → bit (s.port p).laneActive lane = true →
    sumNat ((bitList 4 (s.port p).laneActive).map (fun i => if bit ((s.port p).laneFailed ||| 2 ^ lane) i then 0 else 2 ^ i)) ≠ 0 →
    (s.port p).widthReq = none →
    Runs (.laneRetire p ⟨lane, why⟩) s (fun t => bit (t.port p).laneFailed lane = true ∧
      (t.port p).widthReq = some (sumNat ((bitList 4 (s.port p).laneActive).map (fun i => if bit ((s.port p).laneFailed ||| 2 ^ lane) i then 0 else 2 ^ i)), 1) ∧
      (t.port p).lstate = .active)) ∧
  (∀ (p : Nat),
    Runs (.laneLendTimeout p) s (fun t => (t.port p).laneFailed = (s.port p).laneFailed ||| (s.port p).laneLent ∧
      (t.port p).laneLent = 0 ∧ t.regs = s.regs)) ∧
  (∀ (p : Nat) (m : List Byte), FreshCtl s p 8 m →
    Runs (.paceRx p m) s (fun t => (t.port p).paceIgnored = (s.port p).paceIgnored + 1 ∧
      (t.port p).paceCong = (s.port p).paceCong ∧ t.regs = s.regs)) ∧
  (∀ (p r : Nat), s.mayPace p = true → (s.port p).paceRate 0 = r → r ≠ 0 → r < 256 →
    Runs (.paceResend p) s (fun t => (∃ a ∈ (t.port p).ctlTx, byteAt a 0 = 8 ∧ byteAt a 3 = r) ∧
      (t.port p).paceCong = (s.port p).paceCong)) ∧
  (∀ (p : Nat), (s.port p).paceCong.getD 0 0 ≠ 0 →
    256 * s.inPicks p 0 < s.rf aPaceCfg 23 16 * s.rf (aCredit p 0) 15 0 →
    Runs (.paceRelease p 0) s (fun t => (t.port p).paceCong.getD 0 0 = 0)) ∧
  (∀ (p lane : Nat) (why : LaneFault), p < 128 → laneRetires lane why = true → (s.port p).lstate = .active →
    lane < 4 → bit (s.port p).laneActive lane = true →
    sumNat ((bitList 4 (s.port p).laneActive).map (fun i => if bit ((s.port p).laneFailed ||| 2 ^ lane) i then 0 else 2 ^ i)) = 0 →
    Runs (.laneRetire p ⟨lane, why⟩) s (fun t => (t.port p).lstate = .down ∧ (t.port p).downCause = 1))

/-- R19, R72, R87, R91, R92, R596 and the rejection rule R573. Completes, with the next state of its own effect:
portCfgWrite, portCreditWrite, portLinkErrClear, portQuarErrClear. -/
def Obligations.PortRegisterWrites : Prop :=
  ∀ s : State,
  (∀ path : Path, s.pathOk path = true →
    (∀ (p : Nat), p < 128 →
      (∀ (v : Word), fld v 1 0 ≠ s.portRole p → (s.port p).lstate = .active → s.portRole p ≠ 0 → s.fwdEn p = true →
        Runs (.portCfgWrite path p v) s (fun t => t = s.setRf (aPortStatus p) 15 15 1)) ∧
      (∀ (ch : Nat) (v : Word), ch < 7 → fld v 15 0 < 65 →
        Runs (.portCreditWrite path p ch v) s (fun t => t = s.setRf (aPortStatus p) 15 15 1)) ∧
      (∀ (v : Word), fld v 0 0 = 1 → Runs (.portLinkErrClear path p v) s (fun t => t = s.setReg (aLinkErr p) 0)) ∧
      (∀ (v : Word), fld v 0 0 = 1 → Runs (.portQuarErrClear path p v) s (fun t => t = s.setReg (aQuar p) 0)) ∧
      (∀ (v : Word), s.portRole p = 1 → fld v 1 0 = 1 → fld v 2 2 = 0 → fld v 4 4 = 0 →
        (s.port p).lstate = .active →
        Runs (.portCfgWrite path p v) s (fun t => (t.port p).lstate = .dark ∧ t.rf (aPortCfg p) 2 2 = 0 ∧
          t.portRole p = 1)) ∧
      (∀ (v : Word), s.portRole p = 1 → fld v 1 0 = 1 → fld v 2 2 = 1 → fld v 4 4 = 1 → s.pwr.leadSel = true →
        s.role ≠ 2 → (s.port p).roleMismatch = false → s.barred (dSw (p / 16)) = false →
        s.barred (dOpt (p / 8)) = false →
        Runs (.portCfgWrite path p v) s (fun t => t.fwdEn p = true ∧ (t.port p).lstate = (s.port p).lstate)) ∧
      (∀ (ch : Nat) (v : Word), ch < 7 → 65 ≤ fld v 15 0 → fld v 15 0 ≤ 16384 → s.portRole p = 0 →
        Runs (.portCreditWrite path p ch v) s (fun t => t.rf (aCredit p ch) 15 0 = fld v 15 0))))

/-- R60, R107, R112, R118, R122, R123, R125, R165, R170. The clauses name packets that no commit holds back and
that are not for the partner of a pair; their stamps are the limits of R597. Completes, with the next state of
its own effect: pktHeaderArrive, pktPortRetry, selEscape, ageLimitExpire. -/
def Obligations.PacketsAreCheckedAndRouted : Prop :=
  ∀ s : State,
  (∀ (q vc : Nat) (k : QPkt), q < 128 → s.headOf q vc = some k → k.checked = false → k.inq = q →
    s.inBusy q vc = false → k.atHead = false →
    ((s.ingress q vc k.hdr = 1 ∨ s.ingress q vc k.hdr = 2 ∨ s.ingress q vc k.hdr = 3) →
      Runs (.pktHeaderArrive q vc) s (fun t => t.inq q vc = (s.inq q vc).tail ∧
        t.rf aPktErr0 31 16 = satAdd 16 (s.rf aPktErr0 31 16) 1 ∧ t.sw.sunk = s.sw.sunk ∧ t.sw.outq = s.sw.outq ∧
        t.mem = s.mem)) ∧
    (s.ingress q vc k.hdr = 0 →
      (s.fwdEn q = false → s.quarWait vc k.hdr k.data = false → s.quarPass vc k.hdr k.data = false →
        Runs (.pktHeaderArrive q vc) s (fun t => t.inq q vc = (s.inq q vc).tail ∧
          t.rf (aQuar q) 31 16 = satAdd 16 (s.rf (aQuar q) 31 16) 1 ∧ t.sw.sunk = s.sw.sunk ∧
          t.sw.outq = s.sw.outq)) ∧
      (s.fwdEn q = true → hMcast k.hdr = false → vc ≠ 6 → s.pairBound k = false → s.heldByCommit k.hdr = false →
        (s.lookup (hDst k.hdr) = .noRoute →
          Runs (.pktHeaderArrive q vc) s (fun t => t.inq q vc = (s.inq q vc).tail ∧
            t.rf aPktErr0 15 0 = satAdd 16 (s.rf aPktErr0 15 0) 1 ∧ t.sw.sunk = s.sw.sunk ∧ t.sw.outq = s.sw.outq)) ∧
        (s.lookup (hDst k.hdr) = .own → s.selfEid ≠ 0xFFFF → s.overWindow k.hdr = false →
          Runs (.pktHeaderArrive q vc) s (fun t => t.inq q vc = (s.inq q vc).tail ∧
            t.sw.sunk = s.sw.sunk ++ [{ k with ageLim := s.rf aCong 31 16, escLim := s.rf aCong 15 0, atHead := true }] ∧
            t.sw.outq = s.sw.outq)) ∧
        (∀ (p : Nat), s.lookup (hDst k.hdr) = .forward → s.choosePort (s.cand k.hdr) vc k.hdr = some p →
          Runs (.pktHeaderArrive q vc) s (fun t => t.inq q vc = (s.inq q vc).tail ∧
            t.outq p vc = s.outq p vc ++ [{ { k with ageLim := s.rf aCong 31 16, escLim := s.rf aCong 15 0, atHead := true } with vc := vc, sent := 0 }] ∧
            t.sw.sunk = s.sw.sunk))) ∧
      (∀ (p : Nat), s.fwdEn q = true → hMcast k.hdr = false → vc ≠ 6 → s.paired = true → hDst k.hdr = s.partner →
        s.livePair = some p →
        Runs (.pktHeaderArrive q vc) s (fun t => t.inq q vc = (s.inq q vc).tail ∧
          t.outq p (hVc k.hdr) = s.outq p (hVc k.hdr) ++ [{ { k with ageLim := s.rf aCong 31 16, escLim := s.rf aCong 15 0, atHead := true } with vc := hVc k.hdr, sent := 0 }] ∧
          t.sw.sunk = s.sw.sunk)))) ∧
  (∀ (q vc : Nat) (k : QPkt) (p : Nat), q < 128 → s.headOf q vc = some k → k.checked = true → k.inq = q →
    hMcast k.hdr = false → vc ≠ 6 → s.pairBound k = false → s.heldByCommit k.hdr = false →
    s.lookup (hDst k.hdr) = .forward → s.choosePort (s.cand k.hdr) vc k.hdr = some p →
    Runs (.pktPortRetry q vc) s (fun t => t.inq q vc = (s.inq q vc).tail ∧
      t.outq p vc = s.outq p vc ++ [{ k with vc := vc, sent := 0 }] ∧ t.regs = s.regs)) ∧
  (∀ (q vc : Nat) (k : QPkt), s.waitingAll q vc = [(none, k)] → s.headOf q vc = some k → k.inq = q → q < 128 →
    (∀ (p : Nat), vc ≤ 5 → s.mayEscape k = true → s.selPort (hDst k.hdr) = p →
      Runs (.selEscape q vc) s (fun t => t.inq q vc = (s.inq q vc).tail ∧
        t.outq p 6 = s.outq p 6 ++ [{ k with vc := 6, sent := 0, checked := true }] ∧
        t.rf (aCongErr 2) 31 0 = satAdd 32 (s.rf (aCongErr 2) 31 0) 1)) ∧
    (k.mc = none →
      Runs (.ageLimitExpire q vc) s (fun t => t.inq q vc = (s.inq q vc).tail ∧
        t.rf (aCongErr 0) 31 16 = satAdd 16 (s.rf (aCongErr 0) 31 16) 1 ∧ t.sw.sunk = s.sw.sunk ∧
        t.sw.outq = s.sw.outq ∧ t.mem = s.mem)))

/-- R96 to R99, R132, R133, R251, R269. The address stored to is the field that R97 gives, without the device tag
of R99. Completes, with the next state of its own effect: put, migrate, mirror, get, atomic, call. -/
def Obligations.RequestsPerformInTheirWindows : Prop :=
  ∀ s : State,
  (∀ (port : Nat) (pkt : Pkt) (w : Win), Comes s port 1 pkt → InTurn s w pkt → hFence pkt.hdr = false →
    s.selfEid ≠ 0xFFFF → formBad 1 pkt.hdr (pkt.data.length / 64) = false →
    (s.regionOkFor 1 (hSrc pkt.hdr) (field pkt.hdr 16 8 % 2 ^ 60) (field pkt.hdr 24 4) = stOk →
      Runs (.put port pkt) s (fun t =>
        t.memGet (field pkt.hdr 16 8 % 2 ^ 60) (field pkt.hdr 24 4) = pkt.data.take (field pkt.hdr 24 4) ∧
        (∀ a : Nat, a < field pkt.hdr 16 8 % 2 ^ 60 ∨ field pkt.hdr 16 8 % 2 ^ 60 + field pkt.hdr 24 4 ≤ a → t.memByte a = s.memByte a) ∧
        (t.winOf pkt.hdr).map (fun y => (y.cp, y.broken)) = some ((w.cp + 1) % 2 ^ 24, false) ∧
        Sent t w.home (mkPkt (hSrc pkt.hdr) (hDst pkt.hdr) 9 false (hPinned pkt.hdr) false (hFlow pkt.hdr) (hFsn pkt.hdr) (opM (field pkt.hdr 16 8) (field pkt.hdr 24 4) (byteAt pkt.hdr 28) 0 0 0) []))) ∧
    (s.regionOkFor 1 (hSrc pkt.hdr) (field pkt.hdr 16 8 % 2 ^ 60) (field pkt.hdr 24 4) ≠ stOk →
      Runs (.put port pkt) s (fun t => t.mem = s.mem ∧
        (t.winOf pkt.hdr).map (fun y => (y.cp, y.broken)) = some ((w.cp + 1) % 2 ^ 24, false) ∧
        t.rf (aSeqErr 0) 15 0 = satAdd 16 (s.rf (aSeqErr 0) 15 0) 1 ∧
        Sent t w.home (mkPkt (hSrc pkt.hdr) (hDst pkt.hdr) 9 false (hPinned pkt.hdr) false (hFlow pkt.hdr) (hFsn pkt.hdr) (opM (field pkt.hdr 16 8) (field pkt.hdr 24 4) (byteAt pkt.hdr 28) (s.regionOkFor 1 (hSrc pkt.hdr) (field pkt.hdr 16 8 % 2 ^ 60) (field pkt.hdr 24 4)) 0 0) [])))) ∧
  (∀ (port : Nat) (pkt : Pkt) (w : Win), Comes s port 41 pkt → InTurn s w pkt → hFence pkt.hdr = false →
    s.selfEid ≠ 0xFFFF → formBad 41 pkt.hdr (pkt.data.length / 64) = false →
    s.regionOkFor 41 (hSrc pkt.hdr) (field pkt.hdr 16 8 % 2 ^ 60) (field pkt.hdr 24 4) = stOk →
    Runs (.migrate port pkt) s (fun t =>
      t.memGet (field pkt.hdr 16 8 % 2 ^ 60) (field pkt.hdr 24 4) = pkt.data.take (field pkt.hdr 24 4) ∧
      (∀ a : Nat, a < field pkt.hdr 16 8 % 2 ^ 60 ∨ field pkt.hdr 16 8 % 2 ^ 60 + field pkt.hdr 24 4 ≤ a → t.memByte a = s.memByte a) ∧
      (t.winOf pkt.hdr).map (fun y => (y.cp, y.broken)) = some ((w.cp + 1) % 2 ^ 24, false) ∧
      Sent t w.home (mkPkt (hSrc pkt.hdr) (hDst pkt.hdr) 9 false (hPinned pkt.hdr) false (hFlow pkt.hdr) (hFsn pkt.hdr) (opM (field pkt.hdr 16 8) (field pkt.hdr 24 4) (byteAt pkt.hdr 28) 0 0 0) []))) ∧
  (∀ (port : Nat) (pkt : Pkt) (w : Win), Comes s port 40 pkt → InTurn s w pkt → hFence pkt.hdr = false →
    s.selfEid ≠ 0xFFFF → formBad 40 pkt.hdr (pkt.data.length / 64) = false →
    s.regionOkFor 40 (hSrc pkt.hdr) (field pkt.hdr 16 8 % 2 ^ 60) (field pkt.hdr 24 4) = stOk →
    Runs (.mirror port pkt) s (fun t =>
      t.memGet (field pkt.hdr 16 8 % 2 ^ 60) (field pkt.hdr 24 4) = pkt.data.take (field pkt.hdr 24 4) ∧
      (∀ a : Nat, a < field pkt.hdr 16 8 % 2 ^ 60 ∨ field pkt.hdr 16 8 % 2 ^ 60 + field pkt.hdr 24 4 ≤ a → t.memByte a = s.memByte a) ∧
      (t.winOf pkt.hdr).map (fun y => (y.cp, y.broken)) = some ((w.cp + 1) % 2 ^ 24, false) ∧
      Sent t w.home (mkPkt (hSrc pkt.hdr) (hDst pkt.hdr) 9 false (hPinned pkt.hdr) false (hFlow pkt.hdr) (hFsn pkt.hdr) (opM (field pkt.hdr 16 8) (field pkt.hdr 24 4) (byteAt pkt.hdr 28) 0 0 0) []))) ∧
  (∀ (port : Nat) (pkt : Pkt) (w : Win), Comes s port 2 pkt → InTurn s w pkt → hFence pkt.hdr = false →
    s.selfEid ≠ 0xFFFF → formBad 2 pkt.hdr (pkt.data.length / 64) = false →
    s.regionOkFor 2 (hSrc pkt.hdr) (field pkt.hdr 16 8 % 2 ^ 60) (field pkt.hdr 24 4) = stOk →
    Runs (.get port pkt) s (fun t => t.mem = s.mem ∧
      (t.winOf pkt.hdr).map (fun y => (y.cp, y.broken)) = some ((w.cp + 1) % 2 ^ 24, false) ∧
      Sent t w.home (mkPkt (hSrc pkt.hdr) (hDst pkt.hdr) 0x0A false (hPinned pkt.hdr) false (hFlow pkt.hdr) (hFsn pkt.hdr) (opM (field pkt.hdr 16 8) (field pkt.hdr 24 4) (byteAt pkt.hdr 28) 0 0 0) (s.memGet (field pkt.hdr 16 8 % 2 ^ 60) (field pkt.hdr 24 4))))) ∧
  (∀ (port : Nat) (pkt : Pkt) (w : Win), Comes s port 3 pkt → InTurn s w pkt → hFence pkt.hdr = false →
    s.selfEid ≠ 0xFFFF → formBad 3 pkt.hdr (pkt.data.length / 64) = false →
    s.regionOkFor 3 (hSrc pkt.hdr) (field pkt.hdr 16 8 % 2 ^ 60) (field pkt.hdr 24 4) = stOk →
    Runs (.atomic port pkt) s (fun t =>
      t.memGet (field pkt.hdr 16 8 % 2 ^ 60) (field pkt.hdr 24 4) = leBytes (field pkt.hdr 24 4) (aop (byteAt pkt.hdr 28) (8 * field pkt.hdr 24 4) (leNat (s.memGet (field pkt.hdr 16 8 % 2 ^ 60) (field pkt.hdr 24 4))) (field pkt.hdr 32 8 % 2 ^ (8 * field pkt.hdr 24 4)) (field pkt.hdr 40 8 % 2 ^ (8 * field pkt.hdr 24 4))) ∧
      (∀ a : Nat, a < field pkt.hdr 16 8 % 2 ^ 60 ∨ field pkt.hdr 16 8 % 2 ^ 60 + field pkt.hdr 24 4 ≤ a → t.memByte a = s.memByte a) ∧
      (t.winOf pkt.hdr).map (fun y => (y.cp, y.broken)) = some ((w.cp + 1) % 2 ^ 24, false) ∧
      Sent t w.home (mkPkt (hSrc pkt.hdr) (hDst pkt.hdr) 0x0B false (hPinned pkt.hdr) false (hFlow pkt.hdr) (hFsn pkt.hdr) (opM (field pkt.hdr 16 8) (field pkt.hdr 24 4) (byteAt pkt.hdr 28) 0 (leNat (s.memGet (field pkt.hdr 16 8 % 2 ^ 60) (field pkt.hdr 24 4))) 0) []))) ∧
  (∀ (port : Nat) (pkt : Pkt) (w : Win) (im : Nat) (m : Image) (e : Nat × Nat × Nat × Nat), Comes s port 4 pkt →
    InTurn s w pkt → hFence pkt.hdr = false → byteAt pkt.hdr 22 = im → im < 64 → s.imgState im = 2 →
    s.image im = some m → s.seq.reload = false → m.entries[field pkt.hdr 24 2]? = some e → bit e.2.2.1 0 = true →
    pkt.data.length ≤ e.2.2.2 → bit (byteAt pkt.hdr 16) 7 = false →
    (∃ c ∈ s.openClusters im (s.prefCluster (slice pkt.hdr 16 40) (m.queues.getD e.2.1 0) w.home), s.descFree c (m.queues.getD e.2.1 0) = true) →
    Runs (.call port pkt) s (fun t => t.shed.items.length = s.shed.items.length + 1 ∧
      t.shed.items.getLast?.map (fun i => (i.image, i.entry, i.queue)) = some (im, field pkt.hdr 24 2, m.queues.getD e.2.1 0) ∧
      t.shed.items.getLast?.map (fun i => (i.src, i.payload, i.runs)) = some (hSrc pkt.hdr, pkt.data, none) ∧
      (t.winOf pkt.hdr).map (fun y => (y.cp, y.broken)) = some ((w.cp + 1) % 2 ^ 24, false) ∧ t.mem = s.mem)) ∧
  (∀ (port : Nat) (pkt : Pkt), Comes s port 1 pkt → s.winOf pkt.hdr = none →
    Runs (.put port pkt) s (fun t => t.mem = s.mem ∧ t.flows = s.flows ∧
      t.rf (aFlowErr 0) 31 16 = satAdd 16 (s.rf (aFlowErr 0) 31 16) 1))

/-- R100, R128, R130, R131, R134, R185. The first clause is about a WOPEN that does not ask for SPRAY. Completes,
with the next state of its own effect: wopen, wclose, winIdleExpire, reorderTimeout. -/
def Obligations.WindowsOpenAndEnd : Prop :=
  ∀ s : State,
  (∀ (port : Nat) (pkt : Pkt), Comes s port 5 pkt → s.selfEid ≠ 0xFFFF → field pkt.hdr 16 4 ≠ 0 →
    65 ≤ field pkt.hdr 20 4 → 65 ≤ field pkt.hdr 24 4 →
    (s.winOf pkt.hdr = none → s.flows.wins.length < 16384 →
      winBufs (min (field pkt.hdr 20 4) (s.rf aWinPicks 15 0)) (min (field pkt.hdr 24 4) (s.rf aWinPicks 31 16)) ≤ s.poolAvail (qCluster port % 8) 0 →
      bit (byteAt pkt.hdr 28) 0 = false →
      Runs (.wopen port pkt) s (fun t => t.flows.wins.length = s.flows.wins.length + 1 ∧
        (t.winOf pkt.hdr).map (fun y => (y.home, y.cp, y.pkts, y.reqPicks, y.rspPicks)) = some (qCluster port % 8, hFsn pkt.hdr, min (field pkt.hdr 16 4) (s.rf aWinPkts 8 0), min (field pkt.hdr 20 4) (s.rf aWinPicks 15 0), min (field pkt.hdr 24 4) (s.rf aWinPicks 31 16)) ∧
        (t.winOf pkt.hdr).map (fun y => (y.spray, y.broken, y.states)) = some (false, false, []) ∧
        Sent t (qCluster port % 8) (mkPkt (hSrc pkt.hdr) (hDst pkt.hdr) 0x0D false (hPinned pkt.hdr) false (hFlow pkt.hdr) (hFsn pkt.hdr) (opW (min (field pkt.hdr 16 4) (s.rf aWinPkts 8 0)) (min (field pkt.hdr 20 4) (s.rf aWinPicks 15 0)) (min (field pkt.hdr 24 4) (s.rf aWinPicks 31 16)) 0 stOk) []))) ∧
    ((s.winOf pkt.hdr).isSome = true →
      Runs (.wopen port pkt) s (fun t => t.flows = s.flows ∧ t.pools = s.pools ∧
        Sent t (qCluster port % 8) (mkPkt (hSrc pkt.hdr) (hDst pkt.hdr) 0x0D false (hPinned pkt.hdr) false (hFlow pkt.hdr) (hFsn pkt.hdr) (opW (0) (0) (0) 0 stState) [])))) ∧
  (∀ (port : Nat) (pkt : Pkt), Comes s port 6 pkt → (s.winOf pkt.hdr).isSome = true →
    Runs (.wclose port pkt) s (fun t => t.flows.wins.length + 1 = s.flows.wins.length ∧ t.mem = s.mem ∧
      t.regs = s.regs)) ∧
  (∀ (src dst flow : Nat), (s.winAt src dst flow).isSome = true →
    Runs (.winIdleExpire src dst flow) s (fun t => t.flows.wins.length + 1 = s.flows.wins.length ∧
      t.rf (aFlowErr 0) 31 16 = satAdd 16 (s.rf (aFlowErr 0) 31 16) 1)) ∧
  (∀ (src dst flow : Nat) (w : Win), s.winAt src dst flow = some w → w.at w.cp = .empty → w.states ≠ [] →
    w.broken = false →
    Runs (.reorderTimeout src dst flow) s (fun t =>
      (t.winAt src dst flow).map (fun y => (y.broken, y.reorderLim, y.cp)) = some (true, none, w.cp) ∧
      t.flows.wins.length = s.flows.wins.length ∧ t.mem = s.mem)) ∧
  (∀ (port : Nat) (pkt : Pkt), Comes s port 5 pkt → s.selfEid ≠ 0xFFFF → field pkt.hdr 16 4 = 0 →
    Runs (.wopen port pkt) s (fun t => t.flows = s.flows ∧ t.pools = s.pools ∧
      Sent t (qCluster port % 8) (mkPkt (hSrc pkt.hdr) (hDst pkt.hdr) 0x0D false (hPinned pkt.hdr) false (hFlow pkt.hdr) (hFsn pkt.hdr) (opW (0) (0) (0) 0 stUnsup) [])))

/-- R96, R108, R127, R357, R358, R360, R363. The clauses ask that the device has no traffic of its own under way,
so that a response moves nothing further. Completes, with the next state of its own effect: putAck, getData,
atomicRsp, callDone, wgrant, opTimeout. -/
def Obligations.ResponsesEndOperations : Prop :=
  ∀ s : State,
  (∀ (port : Nat) (pkt : Pkt) (w : Nat) (o : Op), Comes s port 9 pkt → s.ctxOf (hFlow pkt.hdr) = some w →
    (s.src w).dst = hSrc pkt.hdr → (s.src w).state = .opened → (s.src w).item.isSome = true →
    (s.src w).ops.find? (fun y => decide (y.fsn = hFsn pkt.hdr)) = some o → Quiet s →
    (hStatus pkt.hdr = stOk →
      Runs (.putAck port pkt) s (fun t =>
        (t.src w).ops = delFirst (fun y => decide (y.fsn = hFsn pkt.hdr)) (s.src w).ops ∧
        (t.src w).fails = (s.src w).fails ∧ (t.src w).state = .opened ∧ t.mem = s.mem)) ∧
    (hStatus pkt.hdr ≠ stOk →
      Runs (.putAck port pkt) s (fun t =>
        (t.src w).ops = delFirst (fun y => decide (y.fsn = hFsn pkt.hdr)) (s.src w).ops ∧
        (t.src w).fails = (s.src w).fails ++ [hStatus pkt.hdr] ∧ (t.src w).failed = (s.src w).failed ∧
        t.mem = s.mem))) ∧
  (∀ (port : Nat) (pkt : Pkt) (w : Nat) (o : Op) (i : Nat) (it : Item) (x d : Nat), Comes s port 0x0A pkt →
    s.ctxOf (hFlow pkt.hdr) = some w → (s.src w).dst = hSrc pkt.hdr → (s.src w).state = .opened →
    (s.src w).item.isSome = true → (s.src w).ops.find? (fun y => decide (y.fsn = hFsn pkt.hdr)) = some o → Quiet s →
    (s.src w).item = some i → s.item i = some it → it.runs = some x → hStatus pkt.hdr = stOk → o.kind = .get d →
    o.size ≤ pkt.data.length →
    Runs (.getData port pkt) s (fun t =>
      (t.src w).ops = delFirst (fun y => decide (y.fsn = hFsn pkt.hdr)) (s.src w).ops ∧
      t.benchGet x d o.size = pkt.data.take o.size ∧
      (∀ a : Nat, a < d ∨ d + o.size ≤ a → t.benchGet x a 1 = s.benchGet x a 1) ∧ t.mem = s.mem)) ∧
  (∀ (port : Nat) (pkt : Pkt) (w : Nat) (o : Op) (i : Nat) (it : Item) (x d : Nat), Comes s port 0x0B pkt →
    s.ctxOf (hFlow pkt.hdr) = some w → (s.src w).dst = hSrc pkt.hdr → (s.src w).state = .opened →
    (s.src w).item.isSome = true → (s.src w).ops.find? (fun y => decide (y.fsn = hFsn pkt.hdr)) = some o → Quiet s →
    (s.src w).item = some i → s.item i = some it → it.runs = some x → hStatus pkt.hdr = stOk → o.kind = .atomic d →
    o.size ≤ 8 →
    Runs (.atomicRsp port pkt) s (fun t =>
      (t.src w).ops = delFirst (fun y => decide (y.fsn = hFsn pkt.hdr)) (s.src w).ops ∧
      t.benchGet x d 8 = leBytes 8 (field pkt.hdr 32 o.size) ∧ t.mem = s.mem)) ∧
  (∀ (port : Nat) (pkt : Pkt) (w : Nat) (o : Op) (i : Nat) (it : Item) (x d : Nat), Comes s port 0x0C pkt →
    s.ctxOf (hFlow pkt.hdr) = some w → (s.src w).dst = hSrc pkt.hdr → (s.src w).state = .opened →
    (s.src w).item.isSome = true → (s.src w).ops.find? (fun y => decide (y.fsn = hFsn pkt.hdr)) = some o → Quiet s →
    (s.src w).item = some i → s.item i = some it → it.runs = some x → hStatus pkt.hdr = stOk → o.kind = .call d →
    Runs (.callDone port pkt) s (fun t =>
      (t.src w).ops = delFirst (fun y => decide (y.fsn = hFsn pkt.hdr)) (s.src w).ops ∧
      t.benchGet x d 40 = slice pkt.hdr 16 40 ∧ t.benchGet x (d + 64) pkt.data.length = pkt.data ∧ t.mem = s.mem)) ∧
  (∀ (port : Nat) (pkt : Pkt) (w x d : Nat) (it : Item) (m : Image), Comes s port 0x0D pkt →
    s.ctxOf (hFlow pkt.hdr) = some w → (s.src w).state = .opening → (s.src w).item.isSome = true →
    (s.src w).dst = hSrc pkt.hdr → (s.src w).fsn = hFsn pkt.hdr → hStatus pkt.hdr = stOk → Quiet s →
    s.grantWaiter w = some (x, d) → d ≠ 0 → s.ctxItem x = some it → s.image it.image = some m →
    (s.ctx x).pc + 4 < m.codeBytes →
    Runs (.wgrant port pkt) s (fun t => (t.src w).state = .opened ∧
      (t.src w).pkts = field pkt.hdr 16 4 ∧ (t.src w).reqPicks = field pkt.hdr 20 4 ∧ (t.src w).rspPicks = field pkt.hdr 24 4 ∧
      (t.ctx x).sreg d = BitVec.ofNat 64 (statusWord stOk (w + 2 ^ 16 * b2n (bit (byteAt pkt.hdr 28) 0))) ∧
      (t.ctx x).pc = (s.ctx x).pc + 4 ∧ (t.ctx x).wait = .no)) ∧
  (∀ (dst flow fsn w : Nat) (o : Op), s.isSelf dst = false → s.ctxOf flow = some w → (s.src w).dst = dst →
    (s.src w).state = .opened → (s.src w).item.isSome = true →
    (s.src w).ops.find? (fun y => decide (y.fsn = fsn)) = some o → s.sw.e2eSeen.contains (flow, fsn) = false →
    Quiet s → o.kind = .put →
    Runs (.opTimeout dst flow fsn) s (fun t =>
      (t.src w).ops = delFirst (fun y => decide (y.fsn = fsn)) (s.src w).ops ∧ (t.src w).failed = stTimeout ∧
      (t.src w).fails = (s.src w).fails ++ [stTimeout] ∧ t.mem = s.mem))

/-- R182, R183, R186, R191, R193, R195, R196. Completes, with the next state of its own effect: bobApply,
bobDrawServed, bobDfLogClear, bobErrClear. -/
def Obligations.PoolCarvesDrawsAndClears : Prop :=
  ∀ s : State,
  (∀ (c cls : Nat) (d : Draw) (j : Nat), (s.pool c).waits.find? (fun y => decide (y.cls = cls)) = some d →
    s.drawClass c cls ((s.pool c).waits.takeWhile (fun y => decide (y.cls ≠ cls))) = some j →
    Runs (.bobDrawServed c cls) s (fun t =>
      (t.pool c).waits = delFirst (fun y => decide (y = d)) (s.pool c).waits ∧
      (t.pool c).held.length = (s.pool c).held.length + 1 ∧
      (t.pool c).held.head?.map (fun b => (b.cls, b.rsvd, b.holder)) = some (j, false, d.holder) ∧
      (t.pool c).rsvs = (s.pool c).rsvs ∧ t.regs = s.regs)) ∧
  (∀ path : Path, s.pathOk path = true →
    (∀ (c : Nat) (v : Word), c < 8 → fld v 0 0 = 1 → s.isOff (dSw c) = false →
      (s.fallback = false → (s.pool c).held = [] → (s.pool c).waits = [] →
        (sumNat (s.segPending c) ≤ 512 →
          (∀ k ∈ List.range 5, (s.pool c).rsv k ≤ s.rf (aCarve c k) 9 0 * bufsPerSeg k) →
          Runs (.bobApply path c v) s (fun t =>
            (∀ k ∈ List.range 5, t.rf (aCarve c k) 25 16 = s.rf (aCarve c k) 9 0) ∧ t.rf (aApply c) 3 1 = 1 ∧
            t.pools = s.pools)) ∧
        (512 < sumNat (s.segPending c) →
          Runs (.bobApply path c v) s (fun t =>
            (∀ k ∈ List.range 5, t.rf (aCarve c k) 25 16 = s.rf (aCarve c k) 25 16) ∧ t.rf (aApply c) 3 1 = 3))) ∧
      (Runs (.bobErrClear path c v) s (fun t => t = s.setReg (aBobErr c) 0)) ∧
      (s.fallback = true ∨ (s.pool c).held ≠ [] ∨ (s.pool c).waits ≠ [] →
        Runs (.bobApply path c v) s (fun t =>
          (∀ k ∈ List.range 5, t.rf (aCarve c k) 25 16 = s.rf (aCarve c k) 25 16) ∧ t.rf (aApply c) 3 1 = 2 ∧
          t.pools = s.pools))) ∧
    (∀ (c : Nat) (v : Word), c < 8 → fld v 31 31 = 1 → s.isOff (dSw c) = false →
      Runs (.bobDfLogClear path c v) s (fun t => (∀ i ∈ List.range 4, t.reg (aDfLog c i) = 0) ∧
        t.pools = s.pools)))

/-- R203. VAL counts units of 2^-156, so ±2^159 is ±2^315 of them; scaleTo and signed write a value in those
units. -/
def Obligations.ExactSumIgnoresOrderAndShape : Prop :=
  (∀ a b : Nat, accMerge a b % 2 ^ 316 = (a % 2 ^ 316 + b % 2 ^ 316) % 2 ^ 316 ∧
      accMerge a b / 2 ^ 317 = (a / 2 ^ 317) ||| (b / 2 ^ 317)) ∧
  (∀ l l' : List Fp, l.Perm l' → l.foldl accAdd 0 = l'.foldl accAdd 0) ∧
  (∀ l l' : List Fp, accMerge (l.foldl accAdd 0) (l'.foldl accAdd 0) = (l ++ l').foldl accAdd 0) ∧
  (∀ (l : List (Bool × Nat × Int)) (sum : Int),
      sum = (l.map (fun x => signed x.1 (scaleTo x.2.1 x.2.2 (-156)))).sum → -2 ^ 315 ≤ sum → sum < 2 ^ 315 →
      accVal ((l.map (fun x => Fp.fin x.1 x.2.1 x.2.2)).foldl accAdd 0) = .fin (decide (sum < 0)) sum.natAbs (-156))

/-- R219 to R221, R225, R232. The last clause names an element range inside the chunk and a format that the member
sends. Completes, with the next state of its own effect: contrib. -/
def Obligations.ContributionsFoldOrAreCounted : Prop :=
  ∀ s : State,
  (∀ (port : Nat) (pkt : Pkt) (g m : Nat), Comes s port 0x10 pkt → bits (field pkt.hdr 16 2) 10 0 = g →
    bits (field pkt.hdr 18 2) 12 0 = m →
    (s.gState g ≠ 1 → s.gState g ≠ 2 →
      Runs (.contrib port pkt) s (fun t => t.rf (aGrpErr 0) 31 16 = satAdd 16 (s.rf (aGrpErr 0) 31 16) 1 ∧
        t.groups = s.groups ∧ t.mem = s.mem)) ∧
    (s.gState g = 2 →
      Runs (.contrib port pkt) s (fun t => t.rf (aGrpErr 1) 31 16 = satAdd 16 (s.rf (aGrpErr 1) 31 16) 1 ∧
        t.groups = s.groups)) ∧
    (s.gState g = 1 → s.gMembers g ≤ m ∨ s.mEid g m ≠ hSrc pkt.hdr →
      Runs (.contrib port pkt) s (fun t => t.rf (aGrpErr 0) 15 0 = satAdd 16 (s.rf (aGrpErr 0) 15 0) 1 ∧
        t.groups = s.groups)) ∧
    (∀ (k ofs n e : Nat) (y : Slot), s.gState g = 1 → m < s.gMembers g → s.mEid g m = hSrc pkt.hdr →
      field pkt.hdr 20 4 = k → field pkt.hdr 24 4 = ofs → field pkt.hdr 32 2 = n → (s.group g).oldest = e →
      byteAt pkt.hdr 29 = e % 256 → k < s.gC g → s.oldestChunk g ≤ e * s.gC g + k →
      e * s.gC g + k < s.oldestChunk g + s.gW g → e ∉ (s.group g).failed →
      byteAt pkt.hdr 28 = (if s.mChild g m then s.partialFmt g else s.gIn g) →
      ofs + n ≤ (if s.gEmpty g then 0 else s.gElems g k) → m ∈ s.contributors g k →
      s.atDepth (dReed (s.gPlace g (e * s.gC g + k))) .run = true → mxFmt (byteAt pkt.hdr 28) = none →
      s.slot g (e * s.gC g + k) = some y →
      tabGet (fun _ => 0) y.counts m + (if s.gEmpty g then 1 else n) ≤ (if s.gEmpty g then 1 else s.gElems g k) →
      s.gKind g ≠ 5 → s.chunkDone g k (s.fold g m ofs n (byteAt pkt.hdr 28) pkt.data y) = false →
      Runs (.contrib port pkt) s (fun t =>
        t.slot g (e * s.gC g + k) = some (s.fold g m ofs n (byteAt pkt.hdr 28) pkt.data y) ∧
        (∀ z ∈ (t.group g).slots, z.chunk ≠ e * s.gC g + k → z ∈ (s.group g).slots) ∧ t.gState g = 1 ∧
        (t.group g).oldest = e ∧ t.mem = s.mem)))

/-- R220, R223 to R225, R368, R370, R402. Completes, with the next state of its own effect: result, groupFail,
releaseWave, chunkTimeout, gateGrant, gateTimeout. -/
def Obligations.ResultsWavesGatesAndTimeouts : Prop :=
  ∀ s : State,
  (∀ (port : Nat) (pkt : Pkt) (x r : Nat) (j : Join), Comes s port 0x18 pkt → s.nodeOf pkt.hdr = none →
    s.joinsOf pkt.hdr = [(x, r)] → s.join x r = some j → j.status = none →
    (∀ (k n : Nat), j.isGate = false → field pkt.hdr 20 4 = k → field pkt.hdr 32 2 = n → n ≠ 0 →
      j.recvOfs ≠ 0xFFFFFFFF → j.bytes j.outFmt n ≤ pkt.data.length →
      Runs (.result port pkt) s (fun t =>
        t.benchGet x (j.recvOfs + k * j.bytes j.outFmt j.e + j.bytes j.outFmt (field pkt.hdr 24 4)) (j.bytes j.outFmt n) = pkt.data.take (j.bytes j.outFmt n) ∧
        (t.join x r).map (fun y => tabGet (fun _ => 0) y.got k) = some ((if tabGet (fun _ => 0) j.got k = 0 then 1 else tabGet (fun _ => 0) j.got k) + n) ∧
        (t.join x r).map (·.status) = some none ∧ t.mem = s.mem)) ∧
    (∀ (d : Nat) (it : Item) (m : Image), j.isGate = true → (s.ctx x).wait = .gate r d → d ≠ 0 →
      s.ctxItem x = some it → s.image it.image = some m → (s.ctx x).pc + 4 < m.codeBytes →
      Runs (.result port pkt) s (fun t => t.join x r = none ∧
        (t.ctx x).sreg d = BitVec.ofNat 64 (statusWord stOk 0) ∧ (t.ctx x).pc = (s.ctx x).pc + 4 ∧
        (t.ctx x).wait = .no ∧ t.mem = s.mem))) ∧
  (∀ (port : Nat) (pkt : Pkt) (x r : Nat) (j : Join), Comes s port 0x19 pkt → s.nodeOf pkt.hdr = none →
    s.joinsOf pkt.hdr = [(x, r)] → s.join x r = some j → j.status = none → j.isGate = false →
    Runs (.groupFail port pkt) s (fun t => t.join x r = some { j with status := some (hStatus pkt.hdr) } ∧
      t.groups = s.groups ∧ t.mem = s.mem)) ∧
  (∀ (g chunk w : Nat) (y : Slot) (m : Nat) (p : Pkt), s.slot g chunk = some y → y.result = some [] → w ∈ y.waves →
    0 < y.copies → s.planOf g = [(true, w, m)] → s.resultPackets g chunk (s.mEid g m) m false [] = [p] →
    s.selfEid ≠ 0xFFFF →
    Runs (.releaseWave g chunk w) s (fun t =>
      (t.slot g chunk).map (fun z => (z.waves, z.copies)) = some (y.waves.filter (fun v => v ≠ w), y.copies + 1) ∧
      Sent t (s.gPlace g chunk) p ∧ t.regs = s.regs ∧ t.mem = s.mem)) ∧
  (∀ (g gc : Nat) (y : Slot), g < 2048 → s.slot g gc = some y → y.result = none → s.gTimeout g ≠ 0 →
    s.gKind g ≠ 5 → 0 < s.gC g → gc / s.gC g ∉ (s.group g).failed → (s.group g).oldest ≤ gc / s.gC g →
    Runs (.chunkTimeout g gc) s (fun t => t.slot g gc = none ∧ t.rf (aGroup g 12) 15 0 = stTimeout ∧
      t.gState g = s.gState g ∧ t.rf (aGrpErr 1) 15 1 = satAdd 15 (s.rf (aGrpErr 1) 15 1) 1 ∧ t.mem = s.mem)) ∧
  (∀ (g e m : Nat) (r : List (Nat × Nat)), s.gKind g = 5 → s.gState g = 1 → (s.group g).queue = (e, m) :: r →
    ((s.group g).grants.filter (fun n => decide (s.aon < n + s.gatePeriod g * 96))).length < s.gateBurst g →
    (((s.group g).granted ++ [(e, m)]).filter (fun y => y.1 = e)).length ≠ s.gMembers g → s.selfEid ≠ 0xFFFF →
    Runs (.gateGrant g) s (fun t => (t.group g).queue = r ∧
      (t.group g).granted = (s.group g).granted ++ [(e, m)] ∧ (t.group g).grants.head? = some s.aon ∧
      Sent t (s.gPlace g e) (mkPkt (s.mEid g m) s.selfEid 0x18 false false false 0 0 (opC g m 0 0 (s.gOut g) (e % 256) 0 0) []) ∧
      t.regs = s.regs)) ∧
  (∀ (g e : Nat), g < 2048 → s.gKind g = 5 → s.gState g = 1 → s.gTimeout g ≠ 0 → (s.slot g e).isSome = true →
    e ∉ (s.group g).failed → (s.group g).oldest ≤ e →
    Runs (.gateTimeout ⟨g, e⟩) s (fun t => t.rf (aGroup g 12) 15 0 = stTimeout ∧ t.gState g = 1 ∧
      (t.group g).queue = (s.group g).queue.filter (fun y => y.1 ≠ e) ∧
      t.rf (aGrpErr 1) 15 1 = satAdd 15 (s.rf (aGrpErr 1) 15 1) 1))

/-- R211, R212, R216 to R218, R230 to R233. The completions are stated for an unpaired device and requests made by
register. Completes, with the next state of its own effect: groupAdmit, groupAdmitDone, groupRelease,
groupReleaseDrained, groupRearm, rteGrpErrClear, reedErrClear. -/
def Obligations.GroupsAdmitReleaseAndRearm : Prop :=
  ∀ s : State,
  (∀ (src : Src) (g ep : Nat), s.grpReq src = some (1, g, ep) → s.grpBad src = false → s.grpCmd = none →
    (∀ (win : Nat), s.admission g false = (stOk, win) →
      Runs (.groupAdmit src) s (fun t => t.grpCmd = some (1, g, win, srcTag src) ∧ t.rf aGrpSt 31 31 = 1 ∧
        t.rf aGrpSt 20 16 = win % 32 ∧ t.gState g = s.gState g ∧
        (∀ c ∈ s.gClusters g, t.granHeld c = (s.granHeld c + win * s.slotGranules g) % 4096) ∧ t.mem = s.mem)) ∧
    ((s.admission g false).1 ≠ stOk →
      Runs (.groupAdmit src) s (fun t => t.grpCmd = none ∧ t.rf aGrpSt 31 28 = grpCode (s.admission g false).1 ∧
        t.gState g = s.gState g ∧ t.groups = s.groups ∧ t.pools = s.pools))) ∧
  (∀ (g win : Nat), s.grpCmd = some (1, g, win, none) → g < 2048 → s.role ≠ 1 →
    Runs (.groupAdmitDone) s (fun t => t.gState g = 1 ∧ t.rf (aGroup g 11) 31 24 = 0 ∧ t.gWin g = win % 32 ∧
      t.group g = groupReset ∧ t.grpCmd = none ∧
      t.rf aGrpSt 31 28 = 1 ∧ t.rf aGrpSt 10 0 = g ∧ t.rf aGrpSt 20 16 = s.rf aGrpSt 20 16)) ∧
  (∀ (src : Src) (g ep : Nat), s.grpReq src = some (2, g, ep) → s.grpBad src = false → s.grpCmd = none →
    s.fallback = false → s.gState g = 1 ∨ s.gState g = 2 →
    Runs (.groupRelease src) s (fun t => t.gState g = 3 ∧ t.grpCmd = some (2, g, 0, srcTag src) ∧
      t.rf aGrpSt 31 31 = 1 ∧ t.mem = s.mem)) ∧
  (∀ (g : Nat), g < 2048 → s.gState g = 3 → s.groupDrained g = true → s.grpCmd = some (2, g, 0, none) →
    s.role ≠ 1 →
    Runs (.groupReleaseDrained g) s (fun t => t.gState g = 0 ∧ t.group g = groupReset ∧ t.grpCmd = none ∧
      t.rf aGrpSt 31 28 = 1 ∧ t.rf (aGroup g 11) 11 0 = 0)) ∧
  (∀ (src : Src) (g ep : Nat), s.grpReq src = some (3, g, ep) → s.grpBad src = false → s.grpCmd = none →
    s.fallback = false → s.gState g = 2 →
    Runs (.groupRearm src) s (fun t => t.gState g = 1 ∧ t.rf (aGroup g 11) 31 24 = ep ∧
      (t.group g).oldest = ep ∧ (t.group g).slots = [] ∧ (t.group g).failed = [] ∧ t.gWin g = s.gWin g ∧
      t.rf aGrpSt 31 28 = 1)) ∧
  (∀ (tag : Nat) (p : Prog) (b : Nat × Nat × Nat × Option Nat), Waits s tag 0x0402 p → p.payload.length = 4 →
    field p.payload 0 2 < 2048 → byteAt p.payload 2 = 1 → s.grpCmd = some b →
    Runs (.groupAdmit (.cmd tag)) s (fun t => Answered t p stBusy [] ∧ t.grpCmd = s.grpCmd ∧ t.groups = s.groups)) ∧
  (∀ path : Path, s.pathOk path = true →
    (∀ (v : Word), s.plnUp = true → fld v 0 0 = 1 →
      Runs (.rteGrpErrClear path v) s (fun t => t = (s.setReg (aGrpErr 0) 0).setReg (aGrpErr 1) 0)) ∧
    (∀ (c : Nat) (v : Word), c < 8 → s.isOff (dReed c) = false → fld v 0 0 = 1 →
      Runs (.reedErrClear path c v) s (fun t => t = s.setReg (aReedErr c) 0)))

/-- R114, R118, R143 to R145, R156, R180. The requests are made by register; a table entry is the words that R113
and R116 give. Completes, with the next state of its own effect: commitStart, commitValidateDone,
commitDrained, drainLimitExpire, commitAbort, commitSync, rtePktErrClear, rteFlowErrClear, rteCongErrClear. -/
def Obligations.TablesCommitDrainFirst : Prop :=
  ∀ s : State,
  (∀ (src : Src), s.commitReq src 0 = true → s.rf aCommitSt 0 0 = 0 →
    (s.fallback = false →
      Runs (.commitStart src) s (fun t => t.rf aCommitSt 0 0 = 1 ∧ t.rf aCommitSt 6 4 = 1 ∧
        t.rf aCommitSt 31 16 = min 65535 (s.changedRoutes.length + s.changedMcast.length) ∧
        t.flows.commitTag = srcTag src ∧ t.sw = s.sw)) ∧
    (s.fallback = true →
      Runs (.commitStart src) s (fun t => t.rf aCommitSt 0 0 = 0 ∧ t.rf aCommitSt 3 1 = 5 ∧
        (∀ i ∈ s.allRoutes, ∀ w ∈ List.range 8, t.reg (aRoute i w) = s.reg (aRoute i w))))) ∧
  (s.rf aCommitSt 6 4 = 1 → s.shadowBad = true →
    Runs (.commitValidateDone) s (fun t => t.rf aCommitSt 0 0 = 0 ∧ t.rf aCommitSt 3 1 = 2 ∧
      t.rf aCommitSt 6 4 = 0 ∧ (∀ i ∈ s.allRoutes, ∀ w ∈ List.range 8, t.reg (aRoute i w) = s.reg (aRoute i w)))) ∧
  (s.rf aCommitSt 6 4 = 2 → s.commitDrained = true → s.flows.commitTag = none → s.role ≠ 1 →
    (∀ i ∈ s.changedRoutes, i < 16384) → (∀ g ∈ s.changedMcast, g < 1024) →
    Runs (.commitDrained) s (fun t =>
      (∀ i ∈ s.changedRoutes, ∀ w ∈ List.range 8, t.reg (aRoute i w) = s.reg (aRouteSh i w)) ∧
      (∀ g ∈ s.changedMcast, ∀ w ∈ List.range 16, t.reg (aMcast g w) = s.reg (aMcastSh g w)) ∧
      t.rf aCommitSt 0 0 = 0 ∧ t.rf aCommitSt 3 1 = 1 ∧ t.rf aCommitSt 6 4 = 0 ∧ t.mem = s.mem)) ∧
  (s.rf aCommitSt 6 4 = 2 → s.flows.commitTag = none →
    Runs (.drainLimitExpire) s (fun t => t.rf aCommitSt 3 1 = 3 ∧ t.rf aCommitSt 0 0 = 0 ∧
      t.rf aCommitSt 6 4 = 0 ∧ (∀ i ∈ s.allRoutes, ∀ w ∈ List.range 8, t.reg (aRoute i w) = s.reg (aRoute i w)))) ∧
  (∀ (src : Src), s.commitReq src 1 = true → s.rf aCommitSt 6 4 = 2 → s.flows.commitTag = none →
    Runs (.commitAbort src) s (fun t => t.rf aCommitSt 3 1 = 4 ∧ t.rf aCommitSt 0 0 = 0 ∧
      (∀ i ∈ s.allRoutes, ∀ w ∈ List.range 8, t.reg (aRoute i w) = s.reg (aRoute i w)))) ∧
  (∀ (src : Src), s.commitReq src 2 = true → s.rf aCommitSt 0 0 = 0 → (∀ i ∈ s.changedRoutes, i < 16384) →
    (∀ g ∈ s.changedMcast, g < 1024) →
    Runs (.commitSync src) s (fun t =>
      (∀ i ∈ s.changedRoutes, ∀ w ∈ List.range 8, t.reg (aRouteSh i w) = s.reg (aRoute i w)) ∧
      (∀ i ∈ s.allRoutes, ∀ w ∈ List.range 8, t.reg (aRoute i w) = s.reg (aRoute i w)) ∧ t.mem = s.mem)) ∧
  (s.rf aCommitSt 6 4 = 1 → s.shadowBad = false → s.changedRoutes ≠ [] ∨ s.changedMcast ≠ [] →
    Runs (.commitValidateDone) s (fun t => t.rf aCommitSt 6 4 = 2 ∧ t.rf aCommitSt 0 0 = s.rf aCommitSt 0 0 ∧
      (∀ i ∈ s.allRoutes, ∀ w ∈ List.range 8, t.reg (aRoute i w) = s.reg (aRoute i w)))) ∧
  (s.rf aCommitSt 6 4 = 1 → s.shadowBad = false → s.changedRoutes = [] ∧ s.changedMcast = [] →
    s.flows.commitTag = none →
    Runs (.commitValidateDone) s (fun t =>
      t.rf aCommitSt 0 0 = 0 ∧ t.rf aCommitSt 3 1 = 1 ∧ t.rf aCommitSt 6 4 = 0 ∧
      (∀ i ∈ s.allRoutes, ∀ w ∈ List.range 8, t.reg (aRoute i w) = s.reg (aRoute i w)))) ∧
  (∀ path : Path, s.pathOk path = true →
    (∀ (v : Word), s.plnUp = true → fld v 0 0 = 1 →
      (Runs (.rtePktErrClear path v) s (fun t => t = ((s.setReg aPktErr0 0).setReg aPktErr1 0))) ∧
      (Runs (.rteFlowErrClear path v) s (fun t =>
          t = (((s.setReg (aFlowErr 0) 0).setReg (aFlowErr 1) 0).setReg (aFlowErr 2) 0))) ∧
      (Runs (.rteCongErrClear path v) s (fun t =>
          t = (((s.setReg (aCongErr 0) 0).setReg (aCongErr 1) 0).setReg (aCongErr 2) 0)))))

/-- R239 to R241, R250, R268, R269, R493. Completes, with the next state of its own effect: slotOpen, slotRelease,
slotReleaseDone, seqErrClear. -/
def Obligations.SlotsOpenAndRelease : Prop :=
  ∀ s : State,
  (∀ (src : Src) (path : Path) (a : Nat) (v : Word) (any rem : Bool) (k n eid : Nat), src = .reg path a v →
    s.seqReq src 1 = some (any, rem, k, n, eid) → any = false →
    (∀ (d : List Word), d = s.slotDesc n → s.slotOpenTo n (descOwner d) = true → s.fallback = false →
      s.descBad d = false → fld (d.getD 7 0) 22 0 ≤ s.seqAvail →
      Runs (.slotOpen src) s (fun t => t.slotState n = 1 ∧ t.bpt n = descBpt d ∧
        t.tpp n = 65536 / descBpt d % 2048 ∧ t.slotLocal n = 0 ∧
        (∀ w ∈ ([1, 2, 4, 7, 8, 9] : List Nat), slotMask w (t.reg (aSlot n w)) = d.getD w 0) ∧
        (∀ l < 4096, t.layerLen n l = 0) ∧ t.rf aSeqSt 15 0 = stOk ∧ t.rf aSeqSt 20 16 = n ∧ t.mem = s.mem)) ∧
    (s.slotOpenTo n (descOwner (s.slotDesc n)) = true → s.fallback = false → s.descBad (s.slotDesc n) = true →
      Runs (.slotOpen src) s (fun t => (∀ w ∈ List.range 16, t.reg (aSlot n w) = s.reg (aSlot n w)) ∧
        t.rf aSeqSt 15 0 = stUnsup ∧ t.seq = s.seq))) ∧
  (∀ (src : Src) (path : Path) (a : Nat) (v : Word) (any rem : Bool) (k n eid : Nat), src = .reg path a v →
    s.seqReq src 2 = some (any, rem, k, n, eid) → s.fallback = false → s.slotState n = 1 →
    Runs (.slotRelease src) s (fun t => t.slotState n = 2 ∧ t.rf aSeqSt 15 0 = stOk ∧ t.seq = s.seq ∧
      t.mem = s.mem)) ∧
  (∀ (n : Nat), n < 32 → s.slotState n = 2 → (∀ i ∈ s.shed.items, i.runs = none ∨ i.slot ≠ some n) →
    (∀ e ∈ s.ctxs, ∀ k ∈ e.2.copies, k.fin = true ∨ k.kind = 0 ∨ k.slot ≠ n) → s.seq.evac = none →
    s.seq.recalling = [] →
    Runs (.slotReleaseDone n) s (fun t => t.slotState n = 0 ∧ t.slotLocal n = 0 ∧
      (∀ e ∈ t.seq.frames, e.2 ≠ .slot n) ∧ (∀ e ∈ s.seq.frames, e.2 ≠ .slot n → e ∈ t.seq.frames) ∧
      (∀ i ∈ List.range 512, t.reg (aL1 n i) = 0) ∧ t.mem = s.mem)) ∧
  (∀ (path : Path) (v : Word), s.pathOk path = true → s.plnUp = true → fld v 0 0 = 1 →
    Runs (.seqErrClear path v) s (fun t => t = (s.setReg (aSeqErr 0) 0).setReg (aSeqErr 1) 0)) ∧
  (∀ (tag : Nat) (p : Prog),
    (∀ (n : Nat) (d : List Word), Waits s tag 0x0501 p → p.payload.length = 56 →
      bit (byteAt p.payload 0) 7 = false → n = byteAt p.payload 0 % 32 →
      d = (List.range 13).map (fun w => slotMask w ((bytesToWords 13 (p.payload.drop 4)).getD w 0)) →
      s.slotOpenTo n (descOwner d) = true → s.fallback = false → s.descBad d = false →
      fld (d.getD 7 0) 22 0 ≤ s.seqAvail → s.role ≠ 1 →
      Runs (.slotOpen (.cmd tag)) s (fun t => t.slotState n = 1 ∧ t.bpt n = descBpt d ∧ t.slotLocal n = 0 ∧
        Answered t p stOk (leBytes 1 n) ∧ t.mem = s.mem)) ∧
    (Waits s tag 0x0502 p → p.payload.length = 1 → byteAt p.payload 0 < 32 → s.fallback = false →
      s.slotState (byteAt p.payload 0) = 1 → s.role ≠ 1 →
      Runs (.slotRelease (.cmd tag)) s (fun t => t.slotState (byteAt p.payload 0) = 2 ∧ Answered t p stOk [] ∧
        t.mem = s.mem)))

/-- R236, R238, R242, R252, R255, R256, R265, R268. Which free frame is taken is not stated: g is the frame that
the model takes. Completes, with the next state of its own effect: evacuate, evacPageMoved, evacOldFrameFree,
evacAbort, allocBack, recall, recallPageDone, reclaim, seqRegionWrite, serviceReloadDone. -/
def Obligations.FramesMoveAndComeBack : Prop :=
  ∀ s : State,
  (∀ (src : Src) (any rem : Bool) (k n eid : Nat), s.seqReq src 3 = some (any, rem, k, n, eid) →
    s.fallback = false → s.seq.evac = none →
    (s.stackUsed k ≤ s.availBut k + s.movable k rem → k < 8 →
      Runs (.evacuate src) s (fun t =>
        (t.seq.evac.map (fun e => (e.stack, e.remote, e.abort))) = some (k, rem, false) ∧
        bit t.seq.outMask k = true ∧ t.rf aEvac 31 31 = 1 ∧ t.rf aEvac 30 28 = k ∧ t.rf aSeqSt 15 0 = stOk ∧
        t.seq.frames = s.seq.frames ∧ t.mem = s.mem)) ∧
    (s.availBut k + s.movable k rem < s.stackUsed k →
      Runs (.evacuate src) s (fun t => t.seq = s.seq ∧ t.rf aSeqSt 15 0 = stFit ∧ t.mem = s.mem))) ∧
  (∀ (e : Evac), s.seq.evac = some e → e.page = none → e.abort = false →
    (s.stackPages e.stack = [] → s.stackUsed e.stack = 0 →
      Runs (.evacPageMoved) s (fun t => t.seq.evac = none ∧ t.seq.outMask = s.seq.outMask ∧ t.rf aEvac 31 31 = 0 ∧
        t.seq.frames = s.seq.frames ∧ t.mem = s.mem)) ∧
    (∀ (f n lpn : Nat) (r : List (Nat × Nat × Nat × Bool)) (far : Bool) (k g l : Nat),
      s.stackPages e.stack = (f, n, lpn, false) :: r → far = (e.remote && decide (s.sl n 0 27 27 = 1)) →
      s.evacTarget e n lpn false far = some k → n < 32 → (s.takeFrame k (.slot n)).1 = g → g ≠ f → g < 2 ^ 23 →
      s.l2Frame n lpn = some l → l ≠ g → s.readersOf f = [] →
      Runs (.evacPageMoved) s (fun t => t.pte n lpn = mkPte g none ∧
        t.memGet (g * 65536) 65536 = s.memGet (f * 65536) 65536 ∧ t.frameUse g = .slot n ∧ t.frameUse f = .free ∧
        t.seq.evac = some (if far then e else { e with aside := e.aside - 1 })))) ∧
  (∀ (frame : Nat) (ids : List Nat), s.seq.readers.find? (fun y => decide (y.1 = frame)) = some (frame, ids) →
    (∀ i ∈ ids, s.item i = none) →
    Runs (.evacOldFrameFree frame) s (fun t => t.frameUse frame = .free ∧ (∀ y ∈ t.seq.readers, y.1 ≠ frame) ∧
      t.mem = s.mem ∧ t.regs = s.regs)) ∧
  (∀ (src : Src) (any rem : Bool) (k n eid : Nat) (e : Evac), s.seqReq src 4 = some (any, rem, k, n, eid) →
    s.seq.evac = some e → e.page = none →
    Runs (.evacAbort src) s (fun t => t.seq.evac = none ∧ bit t.seq.outMask e.stack = false ∧
      t.rf aEvac 31 31 = 0 ∧ t.rf aSeqSt 15 0 = stOk ∧ t.seq.frames = s.seq.frames)) ∧
  (∀ (src : Src) (any rem : Bool) (k n eid : Nat), s.seqReq src 5 = some (any, rem, k, n, eid) →
    s.seq.evac = none →
    Runs (.allocBack src) s (fun t => bit t.seq.outMask k = false ∧
      (∀ j ∈ List.range 8, j ≠ k → bit t.seq.outMask j = bit s.seq.outMask j) ∧ t.rf aSeqSt 15 0 = stOk ∧
      t.seq.frames = s.seq.frames)) ∧
  (∀ (src : Src) (any rem : Bool) (k n eid lpn e j : Nat), s.seqReq src 6 = some (any, rem, k, n, eid) →
    s.fallback = false → s.slotState n = 1 → (∀ y ∈ s.seq.recalling, y.slot ≠ n) →
    (s.slotPages n).find? (fun y => pteRemote y.2 && !pteLost y.2) = some (lpn, e) → s.seqAvail ≠ 0 →
    s.writing (pteEid e) (pteFrame e) = false →
    ((s.sources n (s.prefStack n lpn)).1 ++ (s.sources n (s.prefStack n lpn)).2).find? (fun k => s.inAlloc k && decide (0 < s.stackFree k)) = some j →
    Runs (.recall src) s (fun t =>
      (t.seq.recalling.getLast?.bind (·.page)).map (fun p => (p.slot, p.lpn, p.moves.length)) = some (n, lpn, 16) ∧
      t.seq.recalling.getLast?.map (fun b => (b.slot, b.tag)) = some (n, srcTag src) ∧
      t.seq.recalling.dropLast = s.seq.recalling ∧ t.slotState n = 1)) ∧
  (∀ (n : Nat) (b : Bring) (p : PageMove) (im : Nat), s.seq.recalling = [b] → b.slot = n → p.slot = n →
    (∀ y ∈ s.slotPages n, y.1 ≠ p.lpn → pteRemote y.2 = false ∨ pteLost y.2 = true) → s.slotState n = 1 →
    b.page = some p → (∀ m ∈ p.moves, m.done = 2) → s.libIndex 0 = some im → s.seq.evac = none → s.flows.ends = [] →
    p.slot < 32 → p.frame < 2 ^ 23 → (s.l2Frame p.slot p.lpn).isSome = true → s.role ≠ 1 →
    Runs (.recallPageDone n) s (fun t => t.pte p.slot p.lpn = mkPte p.frame none ∧
      t.slotLocal p.slot = (s.slotLocal p.slot + 1) % 2 ^ 23 ∧ t.seq.recalling = [] ∧ t.rf aSeqSt 15 0 = stOk)) ∧
  (∀ (src : Src) (any rem : Bool) (k n eid : Nat), s.seqReq src 7 = some (any, rem, k, n, eid) →
    s.fallback = false →
    Runs (.reclaim src) s (fun t => t.seq.frames = s.seq.frames.filter (fun e => e.2 ≠ FrameUse.lent eid) ∧
      t.rf aSeqSt 15 0 = stOk ∧ t.mem = s.mem)) ∧
  (∀ (m : Image), s.seq.reload = true → s.image 0 = some m → s.imgService 0 = true →
    (slice m.bytes (field m.bytes 36 4) m.codeBytes).length = m.codeBytes → m.codeBytes ≤ m.codeKib * 1024 →
    Runs (.serviceReloadDone) s (fun t => t.seq.reload = false ∧
      (t.image 0).map (fun y => (y.codeBase, y.dataBase)) = some (0, m.codeKib * 1024) ∧
      t.memGet 0 m.codeBytes = slice m.bytes (field m.bytes 36 4) m.codeBytes ∧ t.regs = s.regs)) ∧
  (∀ (path : Path) (v : Word), regionOk v = false → Runs (.seqRegionWrite path v) s (fun t => t = s)) ∧
  (∀ path : Path, s.pathOk path = true →
    (∀ (v : Word), s.plnUp = true → regionOk v = true → s.regionFree = true →
      Runs (.seqRegionWrite path v) s (fun t =>
        t.rf aSeqRegion 15 0 = fld v 15 0 ∧ t.rf aSeqRegion 31 23 = fld v 31 23 ∧ t.seq.reload = true ∧
        t.seq.outMask = 0 ∧ t.mem = s.mem)) ∧
    (∀ (v : Word), s.plnUp = true → regionOk v = true → s.regionFree = false →
      Runs (.seqRegionWrite path v) s (fun t => t = s.setRf aSeqSt 30 30 1)))

/-- R244, R245, R249, R252, R257, R260 to R264, R289. The numbers an attention call computes are not stated to the
bit (R264) and are left open. Completes, with the next state of its own effect: libAppend, libRead, libLend,
libReturn, libDecode, libPrefill, libLatentDecode. -/
def Obligations.LibraryServesTheSequence : Prop :=
  ∀ s : State,
  (∀ (i : Nat) (it : Item) (x n : Nat), s.libItem i 3 = some (it, x) → s.turn x = true → NoErr s x →
    it.slot = some n → n < 32 → s.slotState n = 1 → it.layer < s.sl n 3 31 16 → it.layer < 4096 → 0 < s.bpt n →
    s.bpt n ≤ 4096 → it.arg 0 % 65536 = 1 → (s.ctx x).copies = [] → s.bpt n ≤ it.payload.length →
    (∀ (A dst sr flow fsn : Nat) (pin : Bool), it.token = s.layerLen n it.layer → it.token < s.sl n 4 21 0 →
      PageHere s n it.layer it.token → s.placeOf n it.layer it.token = A → s.sl n 0 28 28 = 0 → s.role ≠ 1 →
      LibCaller s it x dst sr flow fsn pin →
      Runs (.libAppend i) s (fun t => t.item i = none ∧ t.memGet A (s.bpt n) = s.benchGet x 0 (s.bpt n) ∧
        (∀ a : Nat, a < A ∨ A + s.bpt n ≤ a → t.memByte a = s.memByte a) ∧ t.layerLen n it.layer = it.token + 1 ∧
        CallDone t it dst sr flow fsn pin stOk (it.token + 1) (0))) ∧
    (∀ (dst sr flow fsn : Nat) (pin : Bool), s.layerLen n it.layer < it.token →
      LibCaller s it x dst sr flow fsn pin →
      Runs (.libAppend i) s (fun t => t.item i = none ∧ t.mem = s.mem ∧
        t.layerLen n it.layer = s.layerLen n it.layer ∧ CallDone t it dst sr flow fsn pin stSeqGap (0) (0)))) ∧
  (∀ (i : Nat) (it : Item) (x n A dst sr flow fsn : Nat) (pin : Bool), s.libItem i 4 = some (it, x) →
    s.turn x = true → NoErr s x → it.slot = some n → n < 32 → s.slotState n = 1 → it.layer < s.sl n 3 31 16 →
    it.layer < 4096 → 0 < s.bpt n → s.bpt n ≤ 4096 → it.arg 0 % 65536 = 1 → (s.ctx x).copies = [] →
    it.token < s.layerLen n it.layer → PageHere s n it.layer it.token → s.placeOf n it.layer it.token = A →
    LibCaller s it x dst sr flow fsn pin →
    Runs (.libRead i) s (fun t => t.item i = none ∧ t.mem = s.mem ∧
      CallDone t it dst sr flow fsn pin stOk (0) (s.bpt n) ∧
      (t.inq (128 + it.cluster) 1).getLast?.map (fun k => k.data.take (s.bpt n)) = some (s.memGet A (s.bpt n)))) ∧
  (∀ (i : Nat) (it : Item) (x dst sr flow fsn : Nat) (pin : Bool), s.libItem i 5 = some (it, x) → s.turn x = true →
    NoErr s x → it.slot = none → it.token = 0 → it.layer = 0 → it.arg 0 % 64 = 1 → s.seqAvail ≠ 0 →
    s.lent < s.rf (aSeqRegion + 0x38) 22 0 → (∃ k ∈ List.range 8, s.inAlloc k = true ∧ 0 < s.stackFree k) →
    LibCaller s it x dst sr flow fsn pin →
    Runs (.libLend i) s (fun t => t.item i = none ∧ (∃ e ∈ t.seq.frames, e.2 = .lent it.src ) ∧ t.mem = s.mem ∧
      CallDone t it dst sr flow fsn pin stOk (1) (4))) ∧
  (∀ (i : Nat) (it : Item) (x dst sr flow fsn : Nat) (pin : Bool), s.libItem i 6 = some (it, x) → s.turn x = true →
    NoErr s x → it.slot = none → it.token = 0 → it.layer = 0 → 1 ≤ it.arg 0 → it.arg 0 ≤ 1024 →
    4 * it.arg 0 ≤ it.payload.length →
    (∀ j ∈ List.range (it.arg 0), s.frameUse (field it.payload (4 * j) 4) = .lent it.src) → (it.arg 0 = 1) →
    LibCaller s it x dst sr flow fsn pin →
    Runs (.libReturn i) s (fun t => t.item i = none ∧ t.frameUse (field it.payload 0 4) = .free ∧
      t.rf (aSeqErr 1) 7 1 = s.rf (aSeqErr 1) 7 1 ∧ t.mem = s.mem ∧ CallDone t it dst sr flow fsn pin stOk (0) (0))) ∧
  (∀ (i : Nat) (it : Item) (x : Nat), s.libItem i 0 = some (it, x) → s.turn x = true → NoErr s x →
    (∀ (n A dst sr flow fsn : Nat) (pin : Bool), it.slot = some n → n < 32 → it.layer < 4096 → 0 < s.bpt n →
      s.bpt n ≤ 4096 → (s.ctx x).copies = [] → attnBad s it 0 it.token 1 true = stOk → bits (it.arg 1) 1 0 < 2 →
      bits (it.arg 2) 20 0 = it.token → PageHere s n it.layer it.token → s.placeOf n it.layer it.token = A →
      LibCaller s it x dst sr flow fsn pin →
      Runs (.libDecode i) s (fun t => t.item i = none ∧
        CallDone t it dst sr flow fsn pin stOk (0) (attnLen s it 1) ∧
        (t.inq (128 + it.cluster) 1).getLast?.map (fun k => k.data.take (attnLen s it 1)) = some (attnOut s it 0 it.token 1 it.payload (s.memGet A (s.bpt n))) ∧
        t.mem = s.mem)) ∧
    (∀ (dst sr flow fsn : Nat) (pin : Bool) (k : Copy), (s.ctx x).copies = [k] → k.k = 0 → k.status = stOk →
      movesDone k.moves = true → bits (it.arg 1) 1 0 < 2 → LibCaller s it x dst sr flow fsn pin →
      Runs (.libDecode i) s (fun t => t.item i = none ∧
        CallDone t it dst sr flow fsn pin stOk (0) (attnLen s it 1) ∧ t.mem = s.mem))) ∧
  (∀ (i : Nat) (it : Item) (x : Nat) (k : Copy), s.libItem i 1 = some (it, x) → s.turn x = true → NoErr s x →
    (s.ctx x).copies = [k] →
    (∀ (dst sr flow fsn : Nat) (pin : Bool), k.k = 1 → k.status = stOk → movesDone k.moves = true →
      field it.payload 20 4 = 1 → LibCaller s it x dst sr flow fsn pin →
      Runs (.libPrefill i) s (fun t => t.item i = none ∧
        CallDone t it dst sr flow fsn pin stOk (field it.payload 20 4) (0) ∧ t.mem = s.mem)) ∧
    (∀ (dst sr flow fsn : Nat) (pin : Bool), k.k = 0 → k.status = stOk → movesDone k.moves = true →
      field it.payload 20 4 = 1 → bits (it.arg 1) 1 0 = 2 → attnHeads it = 1 → attnRec s it ≤ 4096 →
      (s.injBuffer it.cluster x (ceilDiv (attnRec s it) 64)).1 = true → LibCaller s it x dst sr flow fsn pin →
      Runs (.libPrefill i) s (fun t => t.item i = none ∧ CallDone t it dst sr flow fsn pin stOk (1) (0) ∧
        Sent t it.cluster (mkPkt (bits (it.arg 1) 63 48) s.selfEid 0x10 false false false 0 0 (opC (bits (it.arg 1) 26 16) (bits (it.arg 1) 39 27) 0 0 (if bits (it.arg 1) 15 8 = 0x13 then 0x50 else 0x51) (bits (it.arg 1) 47 40) 0 1) (attnOut s it 0 (bits (field it.payload 16 3) 20 0) 1 (s.benchGet x qBench (attnQBytes s it 0 1)) (attnBytes s it x (bits (field it.payload 16 3) 20 0)))) ∧
        t.mem = s.mem))) ∧
  (∀ (i : Nat) (it : Item) (x : Nat) (k : Copy), s.libItem i 2 = some (it, x) → s.turn x = true → NoErr s x →
    (s.ctx x).copies = [k] →
    (∀ (dst sr flow fsn : Nat) (pin : Bool), k.k = 1 → k.status = stOk → movesDone k.moves = true →
      field it.payload 20 4 = 1 → LibCaller s it x dst sr flow fsn pin →
      Runs (.libLatentDecode i) s (fun t => t.item i = none ∧ CallDone t it dst sr flow fsn pin stOk (0) (0) ∧
        t.mem = s.mem)) ∧
    (∀ (dst sr flow fsn : Nat) (pin : Bool), k.k = 0 → k.status = stOk → movesDone k.moves = true →
      field it.payload 20 4 = 1 → bits (it.arg 1) 1 0 = 2 → attnHeads it = 1 → attnRec s it ≤ 4096 →
      (s.injBuffer it.cluster x (ceilDiv (attnRec s it) 64)).1 = true → LibCaller s it x dst sr flow fsn pin →
      Runs (.libLatentDecode i) s (fun t => t.item i = none ∧ CallDone t it dst sr flow fsn pin stOk (0) (0) ∧
        Sent t it.cluster (mkPkt (bits (it.arg 1) 63 48) s.selfEid 0x10 false false false 0 0 (opC (bits (it.arg 1) 26 16) (bits (it.arg 1) 39 27) 0 0 (if bits (it.arg 1) 15 8 = 0x13 then 0x50 else 0x51) (bits (it.arg 1) 47 40) 0 1) (attnOut s it 1 (bits (field it.payload 16 3) 20 0) 1 (s.benchGet x qBench (attnQBytes s it 1 1)) (attnBytes s it x (bits (field it.payload 16 3) 20 0)))) ∧
        t.mem = s.mem))) ∧
  (∀ (i : Nat) (it : Item) (x dst sr flow fsn : Nat) (pin : Bool), s.libItem i 3 = some (it, x) → s.turn x = true →
    NoErr s x → s.slotState it.slotNo ≠ 1 → (s.ctx x).copies = [] → LibCaller s it x dst sr flow fsn pin →
    Runs (.libAppend i) s (fun t => t.item i = none ∧ t.mem = s.mem ∧
      CallDone t it dst sr flow fsn pin stNoSlot (0) (0)))

/-- R276 to R278, R318, R319, R322, R324, R456 to R458. The clauses are for an unpaired device; in R277 the checks
and reservations are made together. Completes, with the next state of its own effect: imageLoad,
imageVerifyDone, imageCopyDone, imageUnload, imageDrainDone. -/
def Obligations.ImagesLoadAndUnload : Prop :=
  ∀ s : State,
  (∀ (l : Load) (tag : Nat) (p : Prog), l.idx < 64 → s.fw.delegates.contains 0 = false → s.shed.load = some l →
    l.copying = false → imgSigned l.bytes = true → l.tag = some tag →
    s.host.prog.find? (fun q => decide (q.tag = tag)) = some p ∧ p.origin = .host ∧ p.gone = false ∧ s.ringUp 1 = true →
    field s.fw.policy 20 4 ≤ field l.bytes 12 4 → imgFormOk l.bytes = true → s.isSelf l.eid = true →
    (s.imgReserve l.idx l.eid l.bytes none).1 = stOk →
    Runs (.imageVerifyDone (s.sigOk l.bytes)) s (fun t =>
      (s.sigOk l.bytes = true → t.shed.load = some { l with copying := true } ∧ t.rf (aImage l.idx 0) 27 27 = 1) ∧
      (s.sigOk l.bytes = false → t.shed.load = none ∧ Answered t p stSignature []) ∧ t.mem = s.mem)) ∧
  (∀ (l : Load) (m : Image) (tag : Nat) (p : Prog), s.shed.load = some l → l.copying = true → l.idx < 64 →
    l.tag = some tag →
    s.host.prog.find? (fun q => decide (q.tag = tag)) = some p ∧ p.origin = .host ∧ p.gone = false ∧ s.ringUp 1 = true →
    s.image l.idx = some m →
    m.codeBase + m.codeBytes ≤ m.dataBase ∨ (m.dataBase + m.dataKib * 1024 ≤ m.codeBase ∧ m.dataBytes ≤ m.dataKib * 1024) →
    (slice m.bytes (field m.bytes 36 4) m.codeBytes).length = m.codeBytes → s.role ≠ 1 →
    Runs (.imageCopyDone) s (fun t => t.imgState l.idx = 2 ∧ t.shed.load = none ∧
      t.memGet m.codeBase m.codeBytes = slice m.bytes (field m.bytes 36 4) m.codeBytes ∧
      Answered t p stOk (leBytes 1 l.idx))) ∧
  (∀ (i tag : Nat) (p : Prog) (m : Image), i < 64 →
    s.shed.unload.find? (fun u => decide (u.1 = i)) = some (i, some tag) → s.image i = some m →
    (∀ y ∈ s.shed.items, y.image ≠ i) → m.groups = [] →
    s.host.prog.find? (fun q => decide (q.tag = tag)) = some p ∧ p.origin = .host ∧ p.gone = false ∧ s.ringUp 1 = true →
    s.role ≠ 1 →
    Runs (.imageDrainDone i) s (fun t => t.imgState i = 0 ∧ t.image i = none ∧
      (∀ q ∈ m.queues, q < 256 → t.qState q = 0) ∧ Answered t p stOk [] ∧ t.mem = s.mem)) ∧
  (∀ (tag : Nat) (p : Prog),
    (∀ (i : Nat), Waits s tag 0x0302 p → 8 ≤ p.payload.length → imgService (p.payload.drop 8) = false →
      s.fallback = false → s.shed.unload = [] → s.shed.load = none → s.freeImage = some i →
      (imgSigned (p.payload.drop 8) = false → s.polFlag 1 = false →
        field s.fw.policy 20 4 ≤ field (p.payload.drop 8) 12 4 → imgFormOk (p.payload.drop 8) = true →
        s.isSelf (field p.payload 0 2) = true →
        (State.imgReserve { s.hold tag with shed := { s.shed with load := some ⟨some tag, i, field p.payload 0 2, p.payload.drop 8, false⟩ } } i (field p.payload 0 2) (p.payload.drop 8) none).1 = stOk →
        Runs (.imageLoad tag) s (fun t => t.imgState i = 1 ∧
          t.shed.load.map (fun l => (l.tag, l.idx, l.copying)) = some (some tag, i, true) ∧
          (t.image i).map (fun m => (m.entries, m.codeBytes)) = some (imgEntries (p.payload.drop 8), field (p.payload.drop 8) 40 4) ∧
          t.mem = s.mem)) ∧
      (imgSigned (p.payload.drop 8) = true →
        Runs (.imageLoad tag) s (fun t =>
          t.shed.load = some ⟨some tag, i, field p.payload 0 2, p.payload.drop 8, false⟩ ∧ t.regs = s.regs ∧
          t.mem = s.mem))) ∧
    (∀ (i : Nat), Waits s tag 0x0303 p → p.payload.length = 1 → i = byteAt p.payload 0 → i < 64 →
      s.fallback = false → s.imgState i = 2 → s.imgService i = false →
      (((s.image i).map (·.slots)).getD []).all (fun n => decide (s.slotState n ≠ 1)) = true →
      (∀ y ∈ s.shed.items, y.image ≠ i ∨ y.runs ≠ none) →
      Runs (.imageUnload tag) s (fun t => t.imgState i = 3 ∧ t.shed.unload = s.shed.unload ++ [(i, some tag)] ∧
        t.shed.items = s.shed.items ∧ t.host.prog.length = s.host.prog.length ∧ t.mem = s.mem)) ∧
    (Waits s tag 0x0302 p → 8 ≤ p.payload.length → imgService (p.payload.drop 8) = true →
      Runs (.imageLoad tag) s (fun t => Answered t p stAuth [] ∧ t.shed = s.shed ∧ t.mem = s.mem)))

/-- R284 to R290, R292, R293, R317. Completes, with the next state of its own effect: workItemDispatch,
benchWaitExpire, runLimitExpire, queueWrite, shedErrClear. -/
def Obligations.WorkItemsQueueRunAndEnd : Prop :=
  ∀ s : State,
  (∀ (c : Nat) (it : Item) (i x : Nat) (m : Image), c < 8 → AtDepth s (dShu c) .run →
    s.rf aClk (24 + c) (24 + c) = 1 → bit s.trd.dispatchHold c = false → s.thm.critOn = false →
    s.pair.swapTag = none → (s.nextItem c [0, 1, 2, 3]).1 = some (it, i) → it.slot = none → s.ctxFree c i = some x →
    s.image it.image = some m → s.item it.id = some it →
    Runs (.workItemDispatch c) s (fun t => (t.item it.id).map (·.runs) = some (some x) ∧
      (t.ctx x).item = some it.id ∧ (t.ctx x).pc = (m.entries.getD it.entry (0, 0, 0, 0)).1 ∧
      (t.ctx x).sreg 1 = BitVec.ofNat 64 (field it.form 16 8) ∧
      (t.ctx x).sreg 4 = BitVec.ofNat 64 it.src ∧ (t.ctx x).sreg 6 = BitVec.ofNat 64 it.payload.length ∧
      t.benchGet x 0 it.payload.length = it.payload ∧ (t.ctx x).wait = .no ∧ t.mem = s.mem)) ∧
  (∀ (c q : Nat) (it : Item), c < 8 → (s.qWaiting c q).head? = some it → s.fitShuttle c it = none →
    (∀ a ∈ s.shed.aside, a.1 ≠ c ∧ a.2.2 ≠ it.id) → (c, it.id) ∉ s.shed.claims →
    (∀ y ∈ s.shed.items, (c, y.id) ∈ s.shed.claims → it.id < y.id) →
    Runs (.benchWaitExpire c q) s (fun t => t.shed.aside.length = s.shed.aside.length + 1 ∧
      (t.shed.aside.head?).map (fun a => (a.1, a.2.2)) = some (c, it.id) ∧ t.shed.items = s.shed.items ∧
      t.regs = s.regs)) ∧
  (∀ (x : Nat) (it : Item) (dst sr flow fsn : Nat) (pin : Bool), s.ctxItem x = some it →
    CalledBy s it x dst sr flow fsn pin → x < 1024 →
    Runs (.runLimitExpire x) s (fun t => t.item it.id = none ∧ t.ctx x = ctxReset ∧
      t.rf (aShedErr it.cluster) 7 1 = satAdd 7 (s.rf (aShedErr it.cluster) 7 1) 1 ∧
      CallDone t it dst sr flow fsn pin stTimeout 0 0 ∧ t.mem = s.mem)) ∧
  (∀ (src : Src) (path : Path) (q : Nat) (v : Word), src = .reg path (aQueue 0 q 1) v → q < 256 →
    s.pathOk path = true → s.fallback = false → s.qState q = 0 → 1 ≤ fld v 11 0 → fld v 11 0 ≤ 2048 →
    Runs (.queueWrite src) s (fun t => t.qDepth q = fld v 11 0 ∧ t.qState q = 0 ∧ t.shed = s.shed)) ∧
  (∀ (path : Path) (c : Nat) (v : Word), c < 8 → s.pathOk path = true → fld v 0 0 = 1 →
    Runs (.shedErrClear path c v) s (fun t => t = s.setReg (aShedErr c) 0)) ∧
  (∀ (src : Src) (path : Path) (q : Nat) (v : Word), src = .reg path (aQueue 0 q 0) v → q < 256 →
    s.pathOk path = true →
    (s.fallback = false → s.qState q = 0 → fld v 31 30 = 2 → fld v 27 20 ≠ 0 → s.qDepth q ≠ 0 →
      (∀ c ∈ List.range 8, s.descRsv c + s.qDepth q ≤ 2048) →
      Runs (.queueWrite src) s (fun t => t.qState q = 2 ∧ t.qPrio q = fld v 29 28 ∧ t.qWeight q = fld v 27 20 ∧
        t.qDepth q = s.qDepth q ∧ t.shed = s.shed)) ∧
    (s.qState q = 1 →
      Runs (.queueWrite src) s (fun t => t.rf (aShedQ 0) 0 0 = 1 ∧ t.qState q = 1 ∧ t.qDepth q = s.qDepth q ∧
        t.shed = s.shed))) ∧
  (∀ (tag : Nat) (p : Prog),
    (∀ (q : Nat), Waits s tag 0x0304 p → p.payload.length = 12 → q = byteAt p.payload 0 →
      (s.fallback = false → s.qState q = 0 → bits (field p.payload 4 4) 31 30 = 2 →
        bits (field p.payload 4 4) 27 20 ≠ 0 → 1 ≤ bits (field p.payload 8 4) 11 0 →
        bits (field p.payload 8 4) 11 0 ≤ 2048 →
        (∀ c ∈ List.range 8, s.descRsv c + bits (field p.payload 8 4) 11 0 ≤ 2048) →
        Runs (.queueWrite (.cmd tag)) s (fun t => t.qState q = 2 ∧ t.qDepth q = bits (field p.payload 8 4) 11 0 ∧
          Answered t p stOk [])) ∧
      (s.qState q ≠ 0 →
        Runs (.queueWrite (.cmd tag)) s (fun t => t.rf (aShedQ 0) 0 0 = 1 ∧
          (∀ w ∈ List.range 2, t.reg (aQueue 0 q w) = s.reg (aQueue 0 q w)) ∧ Answered t p stState []))))

/-- R237, R248. Which of the free frames is taken is not stated and is left open; the statement holds for every
choice. -/
def Obligations.FreeFramesAreTaken : Prop :=
  ∀ (s : State) (n : Nat) (u : FrameUse), n < 8 → 0 < s.stackFree n →
    let f := (s.takeFrame n u).1
    let t := (s.takeFrame n u).2
    s.frameUse f = .free ∧ s.frameStack f = n ∧ t.frameUse f = u ∧ (∀ g : Nat, g ≠ f → t.frameUse g = s.frameUse g)

/-- R434 to R437, R439, R440, R443, R455, R462. In R436 what follows the third fault is read as HALTED (a log
entry says so). The clauses are for no activation on trial. Completes, with the next state of its own effect:
componentFault, componentWatchdog, kernelFault, complexRestartDone, coreWatchdog, componentRestartDone,
secCoreFault, treadleCoreFault, schedulerCoreFault, controlCoreFault, delegateRestartDone. -/
def Obligations.FirmwareFaultsRestart : Prop :=
  ∀ s : State,
  (∀ (id cause : Nat), 2 ≤ id ∧ id ≤ 8 → 1 ≤ cause → cause ≤ 5 → s.plinth = 0 ∨ s.plinth = 3 →
    ((s.fw.compTimes.filter (fun t => decide (t.1 = id) && decide (s.aon < t.2 + sixtySec))).length < 2 →
      s.onTrial id = false →
      Runs (.componentFault id cause) s (fun t => t.rf (aComp id) 31 29 = 2 ∧ t.rf (aComp id) 26 24 = cause ∧
        t.rf (aComp id) 15 8 = satAdd 8 (s.rf (aComp id) 15 8) 1 ∧ t.rf aFw 7 0 = satAdd 8 (s.rf aFw 7 0) 1 ∧
        (∀ j ∈ List.range 32, j ≠ id → t.reg (aComp j) = s.reg (aComp j)) ∧
        t.plinth = s.plinth ∧ t.fallback = s.fallback ∧ t.mem = s.mem ∧ t.shed = s.shed ∧ t.trd = s.trd)) ∧
    (2 ≤ (s.fw.compTimes.filter (fun t => decide (t.1 = id) && decide (s.aon < t.2 + sixtySec))).length →
      (s.fw.kernTimes.filter (fun t => decide (s.aon < t + sixtySec))).length < 2 → s.onTrial 1 = false →
      s.actState ≠ 3 → s.role ≠ 1 → s.fallback = false → (∀ p ∈ s.host.prog, p.server ≠ 10) →
      Runs (.componentFault id cause) s (fun t => t.plinth = 1 ∧ t.rf (aComp 1) 26 24 = cause ∧
        (∀ j ∈ List.range 9, 1 ≤ j → t.rf (aComp j) 31 29 = 2) ∧ t.fallback = true ∧
        (∀ j ∈ List.range 12, 9 ≤ j → t.rf (aComp j) 31 29 = 5) ∧ t.host.prog = []))) ∧
  (∀ (id : Nat), 2 ≤ id ∧ id ≤ 8 → s.plinth = 0 ∨ s.plinth = 3 →
    (s.fw.compTimes.filter (fun t => decide (t.1 = id) && decide (s.aon < t.2 + sixtySec))).length < 2 →
    s.onTrial id = false →
    Runs (.componentWatchdog id) s (fun t => t.rf (aComp id) 31 29 = 2 ∧ t.rf (aComp id) 26 24 = 2 ∧
      t.rf (aComp id) 15 8 = satAdd 8 (s.rf (aComp id) 15 8) 1 ∧
      (∀ j ∈ List.range 32, j ≠ id → t.reg (aComp j) = s.reg (aComp j)) ∧ t.plinth = s.plinth)) ∧
  (∀ (cause : Nat), 1 ≤ cause → cause ≤ 5 → s.plinth = 0 ∨ s.plinth = 3 →
    ((s.fw.kernTimes.filter (fun t => decide (s.aon < t + sixtySec))).length < 2 → s.onTrial 1 = false →
      s.actState ≠ 3 → s.role ≠ 1 → s.fallback = false → (∀ p ∈ s.host.prog, p.server ≠ 10) →
      Runs (.kernelFault cause) s (fun t => t.plinth = 1 ∧ t.rf (aComp 1) 26 24 = cause ∧
        t.rf aFw 15 8 = satAdd 8 (s.rf aFw 15 8) 1 ∧ (∀ j ∈ List.range 9, 1 ≤ j → t.rf (aComp j) 31 29 = 2) ∧
        t.fallback = true ∧ (∀ j ∈ List.range 12, 9 ≤ j → t.rf (aComp j) 31 29 = 5) ∧ t.host.prog = [] ∧
        t.mem = s.mem)) ∧
    (2 ≤ (s.fw.kernTimes.filter (fun t => decide (s.aon < t + sixtySec))).length → s.onTrial 1 = false →
      s.actState ≠ 3 → s.role ≠ 1 → s.fallback = false → (∀ p ∈ s.host.prog, p.server ≠ 10) →
      Runs (.kernelFault cause) s (fun t => t.plinth = 1 ∧ 3 ≤ t.fw.kernTimes.length ∧
        (∀ j ∈ List.range 9, 1 ≤ j → t.rf (aComp j) 31 29 = 2) ∧ t.fallback = true)) ∧
    (∀ (p : Prog), s.onTrial 1 = false → s.actState ≠ 3 → s.host.prog = [p] → p.server = 10 →
      Runs (.kernelFault cause) s (fun t => t.plinth = 1 ∧ t.host.prog = [p]))) ∧
  (s.plinth = 1 → s.pwr.bootStep = 9 → s.fw.actStarted = false →
    (3 ≤ s.fw.kernTimes.length →
      Runs (.complexRestartDone) s (fun t => t.plinth = 2 ∧ t.fallback = s.fallback ∧ t.mem = s.mem)) ∧
    (s.fw.kernTimes.length < 3 → s.rf (aComp 0) 28 27 ≠ 2 → s.fw.haltedCores % 16 = 0 → s.actState ≠ 5 →
      s.pair.rxItems = [] →
      Runs (.complexRestartDone) s (fun t => t.plinth = 0 ∧ t.fallback = false ∧
        (∀ j ∈ List.range 9, 1 ≤ j → t.rf (aComp j) 31 29 = 1) ∧
        (∀ j ∈ List.range 12, 9 ≤ j → s.rf (aComp j) 31 29 = 5 → t.rf (aComp j) 31 29 = 1) ∧ t.fw.staging = [] ∧
        t.mem = s.mem))) ∧
  (∀ (core : Nat), core < 4 → bit s.fw.haltedCores core = false → s.plinth = 0 ∨ s.plinth = 3 →
    (s.fw.kernTimes.filter (fun t => decide (s.aon < t + sixtySec))).length < 2 → s.onTrial 1 = false →
    s.actState ≠ 3 → s.role ≠ 1 → s.fallback = false → (∀ p ∈ s.host.prog, p.server ≠ 10) →
    Runs (.coreWatchdog core) s (fun t => t.plinth = 1 ∧ t.rf (aComp 1) 26 24 = 2 ∧
      (∀ j ∈ List.range 9, 1 ≤ j → t.rf (aComp j) 31 29 = 2) ∧ t.fallback = true ∧
      (∀ j ∈ List.range 12, 9 ≤ j → t.rf (aComp j) 31 29 = 5) ∧ t.host.prog = [])) ∧
  (∀ (id : Nat), 2 ≤ id ∧ id ≤ 8 → s.rf (aComp id) 31 29 = 2 → s.plinth = 0 ∨ s.plinth = 3 → s.actState ≠ 5 →
    Runs (.componentRestartDone id) s (fun t => t.rf (aComp id) 31 29 = 1 ∧
      (∀ j ∈ List.range 32, j ≠ id → t.reg (aComp j) = s.reg (aComp j)) ∧
      t.fw.compTimes = s.fw.compTimes ∧ t.fw.kernTimes = s.fw.kernTimes ∧ t.mem = s.mem)) ∧
  (s.isOff dSec = false → s.fw.delegates.contains 0 = false →
    Runs (.secCoreFault) s (fun t => t.rf (aComp 0) 31 29 = 2 ∧ t.rf aSec 7 0 = satAdd 8 (s.rf aSec 7 0) 1 ∧
      t.fw.delegates = s.fw.delegates ++ [0] ∧ t.plinth = s.plinth ∧ t.fallback = s.fallback ∧
      t.mem = s.mem ∧ t.shed = s.shed)) ∧
  (s.pwr.vinAon = true → s.fw.delegates.contains 1 = false →
    Runs (.treadleCoreFault) s (fun t => t.rf (aComp 9) 31 29 = 2 ∧ t.fw.delegates = s.fw.delegates ++ [1] ∧
      t.plinth = s.plinth ∧ t.fallback = s.fallback ∧ t.mem = s.mem ∧ t.shed = s.shed)) ∧
  (s.pwr.vinAon = true → s.fw.delegates.contains 2 = false →
    Runs (.schedulerCoreFault) s (fun t => t.rf (aComp 10) 31 29 = 2 ∧ t.fw.delegates = s.fw.delegates ++ [2] ∧
      t.plinth = s.plinth ∧ t.fallback = s.fallback ∧ t.mem = s.mem ∧ t.shed = s.shed)) ∧
  (∀ (c : Nat), c < 8 → s.isOff (dSw c) = false → s.fw.delegates.contains (3 + c) = false →
    Runs (.controlCoreFault c) s (fun t => t.rf (aComp 11) 31 29 = 2 ∧
      t.fw.delegates = s.fw.delegates ++ [3 + c] ∧ t.plinth = s.plinth ∧ t.fallback = s.fallback ∧
      t.mem = s.mem ∧ t.shed = s.shed)) ∧
  (∀ (d : Nat), s.fw.delegates.contains d = true →
    Runs (.delegateRestartDone d) s (fun t => t.fw.delegates = s.fw.delegates.filter (fun y => decide (y ≠ d)) ∧
      (d = 0 → t.rf (aComp 0) 31 29 = 1) ∧ (d = 2 → t.rf (aComp 10) 31 29 = (if s.fallback then 5 else 1)) ∧
      t.mem = s.mem)) ∧
  (∀ (core : Nat), bit s.fw.haltedCores core = true → Runs (.coreWatchdog core) s (fun t => t = s))

/-- R439, R444, R445, R448 to R455. What a bundle's bytes say is left open (log entry 28), so the clauses hold for
every content. Completes, with the next state of its own effect: fwStage, stageVerifyDone, activateReset,
activateLive, activationComponentDone, activationResume, probationExpire, fwCancel, revertDone, fwCommit,
fwStatus. -/
def Obligations.FirmwareUpdates : Prop :=
  ∀ s : State,
  (∀ (src : Src) (path : Path) (v : Word), src = .reg path aActCtrl v → s.pathOk path = true → s.plnUp = true →
    (fld v 31 29 = 2 → fld v 28 28 = 0 → s.fallback = false → s.actState = 1 →
      Runs (.activateReset src) s (fun t => t.actState = 2 ∧ t.rf aAct 15 0 = stOk ∧
        t.fw.bootRec.head?.map (fun r => (bootActive r, bootTrial r)) = some (s.spare, true) ∧
        t.fw.slots = s.fw.slots ∧ t.mem = s.mem)) ∧
    (fld v 31 29 = 1 → fld v 28 28 = 0 → s.fallback = false → s.actState = 1 →
      Runs (.activateLive src) s (fun t =>
        (s.changed 0 = true → t.rf aAct 15 0 = stUnsup ∧ t.actState = 1 ∧ t.fw = s.fw) ∧
        (s.changed 0 = false → t.rf aAct 15 0 = stOk ∧ t.fw.actLive = true ∧ 3 ≤ t.actState ∧ t.actState ≤ 5) ∧
        (s.changed 0 = false → t.fw.bootRec.head?.map (fun r => (bootActive r, bootTrial r)) = some (s.spare, true)) ∧
        t.mem = s.mem)) ∧
    (fld v 31 29 = 3 → s.fallback = false → 2 ≤ s.actState ∧ s.actState ≤ 5 →
      Runs (.fwCancel src) s (fun t => t.actState = 6 ∧ t.rf aAct 15 0 = stOk ∧ t.fw.actTodo = [] ∧
        t.fw.bootRec.head?.map (fun r => (bootActive r, bootTrial r)) = some (1 - bootActive s.bootBest, false) ∧
        t.mem = s.mem)) ∧
    (∀ (b : List Byte), fld v 31 29 = 4 → s.running = some b → s.fallback = false → s.trd.supplyOn = false →
      s.actState = 0 → s.fw.commitOk = true →
      Runs (.fwCommit src) s (fun t =>
        (s.fw.fuseF < Config.bundleSvn b → t.fw.fuseF = min 64 (Config.bundleSvn b) ∧ t.rf aAct 15 0 = stOk ∧ t.fw.commitOk = false) ∧
        (Config.bundleSvn b ≤ s.fw.fuseF → t.fw = s.fw ∧ t.rf aAct 15 0 = stState) ∧
        (∀ k ∈ List.range 4, bit s.fw.keyRevoked k = true → bit t.fw.keyRevoked k = true))) ∧
    (fld v 31 29 = 2 → fld v 28 28 = 0 → s.fallback = true ∨ s.actState ≠ 1 →
      Runs (.activateReset src) s (fun t => t.rf aAct 15 0 = stState ∧ t.actState = s.actState ∧ t.fw = s.fw)) ∧
    (fld v 31 29 = 1 → s.fallback = true ∨ s.actState ≠ 1 →
      Runs (.activateLive src) s (fun t => t.rf aAct 15 0 = stState ∧ t.actState = s.actState ∧ t.fw = s.fw)) ∧
    (fld v 31 29 = 3 → s.fallback = true ∨ s.actState < 2 ∨ 5 < s.actState →
      Runs (.fwCancel src) s (fun t => t.rf aAct 15 0 = stState ∧ t.actState = s.actState ∧ t.fw = s.fw)) ∧
    (fld v 31 29 = 4 → s.fallback = true ∨ s.trd.supplyOn = true ∨ s.actState ≠ 0 ∨ s.fw.commitOk = false →
      Runs (.fwCommit src) s (fun t => t.rf aAct 15 0 = stState ∧ t.fw = s.fw))) ∧
  (∀ (k : Nat), s.fw.actTodo = [k] → 2 ≤ k ∧ k ≤ 8 → s.actState = 3 → s.fw.actStarted = true →
    Runs (.activationComponentDone) s (fun t => t.actState = 5 ∧
      t.rf aFw 26 26 = 1 ∧ t.rf aFw 27 27 = bootActive s.bootBest ∧
      t.rf (aComp k) 31 29 = 4 ∧ t.rf (aComp k) 28 27 = bootActive s.bootBest ∧
      t.fw.actDone = k :: s.fw.actDone ∧ t.fw.actTodo = [] ∧ t.mem = s.mem)) ∧
  (∀ (k : Nat) (r : List Nat), s.actState = 4 → s.fw.actStarted = false → s.fw.actTodo = k :: r →
    (2 ≤ k ∧ k ≤ 8 → s.deferCause k = 0 →
      Runs (.activationResume) s (fun t => t.actState = 3 ∧ t.rf aAct 25 21 = k ∧ t.rf aAct 28 26 = 0 ∧
        t.rf (aComp k) 31 29 = 3 ∧ t.fw.actStarted = true ∧ t.fw.actTodo = k :: r)) ∧
    (k < 32 → s.emergency = true →
      Runs (.activationResume) s (fun t => t.actState = 4 ∧ t.rf aAct 28 26 = 1 ∧ t.rf aAct 25 21 = k ∧
        t.fw.actStarted = s.fw.actStarted ∧ t.fw.actTodo = k :: r))) ∧
  (s.actState = 5 →
    Runs (.probationExpire) s (fun t => t.actState = 0 ∧ t.rf aAct 15 0 = stOk ∧ t.rf aFw 26 26 = 0 ∧
      t.fw.commitOk = true ∧ t.fw.actDone = [] ∧
      t.fw.bootRec.head?.map (fun r => (bootActive r, bootTrial r)) = some (bootActive s.bootBest, false) ∧
      (∀ i ∈ List.range 32, t.rf (aComp i) 31 29 = (if s.rf (aComp i) 31 29 = 4 then 1 else s.rf (aComp i) 31 29)))) ∧
  (s.actState = 6 → s.fw.actDone = [6] → s.fw.actLive = true →
    Runs (.revertDone) s (fun t => t.actState = 0 ∧ t.rf aFw 26 26 = 0 ∧ t.rf aFw 27 27 = bootActive s.bootBest ∧
      t.rf (aComp 6) 31 29 = 1 ∧ t.rf (aComp 6) 28 27 = bootActive s.bootBest ∧
      t.fw.actDone = [] ∧ t.fw.actLive = false)) ∧
  (∀ (tag : Nat) (p : Prog),
    (Waits s tag 0x0801 p → 16 ≤ p.payload.length → field p.payload 0 4 = 0 →
      p.payload.length - 16 ≤ field p.payload 4 4 → field p.payload 4 4 ≤ 2 ^ 26 →
      (s.fallback = false → s.actState = 0 → s.fw.stageTag = none → s.spare < s.fw.slots.length →
        (bit (byteAt p.payload 8) 0 = false →
          Runs (.fwStage tag) s (fun t => Answered t p stOk [] ∧
            t.fw.stage = p.payload.drop 16 ∧ t.fw.stageLen = field p.payload 4 4 ∧
            t.fw.slots.getD s.spare none = none ∧ t.fw.slots.getD (1 - s.spare) none = s.fw.slots.getD (1 - s.spare) none ∧
            t.mem = s.mem)) ∧
        (bit (byteAt p.payload 8) 0 = true → p.payload.length - 16 = field p.payload 4 4 →
          Runs (.fwStage tag) s (fun t => t.fw.stageTag = some tag ∧ t.fw.stage = p.payload.drop 16 ∧
            t.host.written = s.host.written))) ∧
      (s.fallback = true → bit (byteAt p.payload 8) 0 = false →
        Runs (.fwStage tag) s (fun t => Answered t p stState [] ∧ t.fw = s.fw))) ∧
    (s.fw.stageTag = some tag → s.fw.delegates.contains 0 = false →
      s.host.prog.find? (fun q => decide (q.tag = tag)) = some p ∧ p.origin = .host ∧ p.gone = false ∧ s.ringUp 1 = true →
      s.spare < s.fw.slots.length →
      Runs (.stageVerifyDone) s (fun t => Answered t p (s.stageStatus s.fw.stage) [] ∧
        t.fw.slots.getD s.spare none = (if s.stageStatus s.fw.stage = stOk then some s.fw.stage else none) ∧
        t.actState = (if s.stageStatus s.fw.stage = stOk then 1 else 0) ∧
        t.rf aAct 15 0 = s.stageStatus s.fw.stage ∧ t.fw.stageTag = none ∧
        (bundleOk s.fw.stage = false → s.stageStatus s.fw.stage = stSignature))) ∧
    (Waits s tag 0x0805 p → p.payload = [] → p.fits 136 = true →
      Runs (.fwStatus tag) s (fun t =>
        Answered t p stOk (s.regBytes aFw 1 ++ s.regBytes aAct 1 ++ s.regBytes (aComp 0) 32) ∧
        t.fw = s.fw ∧ t.mem = s.mem)))

/-- R439, R441 to R443, R456, R459 to R462, R467, R492, R493. Digests, signatures and what the SEC core answers
are left open, so the clauses hold for whatever they are. Completes, with the next state of its own effect:
policyWrite, spdm, doeRequest, debugNonce, debugToken, nonceExpire, plnLogLostClear, logRead, traceCatalogue,
identify, version, digest. -/
def Obligations.SecurityLogAndIdentity : Prop :=
  ∀ s : State,
  (∀ (b : List Byte), s.pwr.leadSel = true → s.isOff dHio = false → s.isOff dSec = false → s.rf aHioLink 9 9 = 1 →
    Runs (.doeRequest b) s (fun t => t.host.doeOut.length = s.host.doeOut.length + 1 ∧
      t.fw = s.fw ∧ t.mem = s.mem ∧ t.regs = s.regs)) ∧
  (Runs (.nonceExpire) s (fun t => t = { s with fw := { s.fw with nonce := none } })) ∧
  (∀ (path : Path) (v : Word), s.pathOk path = true → s.plnUp = true → s.sealed = false → fld v 0 0 = 1 →
    Runs (.plnLogLostClear path v) s (fun t => t = s.setReg aLogLost 0)) ∧
  (∀ (tag : Nat) (p : Prog),
    (Waits s tag 0x0806 p → s.fw.delegates.contains 0 = false → p.payload.length = 640 →
      field p.payload 0 4 = 0x4C50514E → byteAt p.payload 17 ≤ 4 →
      (s.fallback = false →
        Runs (.policyWrite tag) s (fun t =>
          (ecdsaOk (slice p.payload 448 96) (sha384 (p.payload.take 544)) (slice p.payload 544 96) = false → Answered t p stAuth [] ∧ t.fw = s.fw) ∧
          ((field p.payload 8 8 ≠ 0 ∧ field p.payload 8 8 ≠ Config.serial) → Answered t p stAuth [] ∧ t.fw = s.fw) ∧
          (t.fw = s.fw ∨ (Answered t p stOk [] ∧ t.fw.polRec = p.payload :: s.fw.polRec.take 1 ∧ field s.fw.policy 4 4 ≤ field p.payload 4 4 ∧ t.fw.policy = s.fw.policy)) ∧
          t.mem = s.mem)) ∧
      (s.fallback = true → Runs (.policyWrite tag) s (fun t => Answered t p stState [] ∧ t.fw = s.fw))) ∧
    (Waits s tag 0x0901 p →
      Runs (.spdm tag) s (fun t =>
        (s.fw.delegates.contains 0 = true → Answered t p (if p.fits (Config.spdmNotReady p.payload).length then stOk else stFit) (if p.fits (Config.spdmNotReady p.payload).length then (Config.spdmNotReady p.payload) else [])) ∧
        t.host.prog.length + 1 = s.host.prog.length ∧ t.fw = s.fw ∧ t.mem = s.mem)) ∧
    (Waits s tag 0x0902 p → s.fw.delegates.contains 0 = false → p.payload = [] →
      Runs (.debugNonce tag) s (fun t => t.fw.nonce.isSome = true ∧ Answered t p stOk (t.fw.nonce.getD []) ∧
        t.rf aSec 19 18 = s.rf aSec 19 18)) ∧
    (Waits s tag 0x0903 p → s.fw.delegates.contains 0 = false → p.payload.length = 256 → s.fallback = false →
      (Runs (.debugToken tag) s (fun t =>
          (s.tokenOk p.payload = true → Answered t p stOk (leBytes 1 (byteAt p.payload 4)) ∧ t.rf aSec 19 18 = byteAt p.payload 4 ∧ t.fw.nonce = none) ∧
          (s.tokenOk p.payload = false → Answered t p stAuth [] ∧ t.fw = s.fw) ∧
          (s.tokenOk p.payload = true → 1 ≤ byteAt p.payload 4 → t.sealed = false))) ∧
      (s.fw.nonce = none → Runs (.debugToken tag) s (fun t => Answered t p stAuth [] ∧ t.fw = s.fw))) ∧
    (Waits s tag 0x0B01 p → p.payload.length = 6 → s.sealed = false →
      field p.payload 0 4 + s.fw.log.length = s.fw.logSeq → s.fw.logSeq < 2 ^ 32 →
      s.fw.log.length ≤ field p.payload 4 2 → 10 + 64 * s.fw.log.length ≤ p.room →
      Runs (.logRead tag) s (fun t =>
        Answered t p stOk (leBytes 4 (field p.payload 0 4) ++ leBytes 4 0 ++ leBytes 2 s.fw.log.length ++ s.fw.log.reverse.flatMap LogRec.bytes) ∧
        t.fw = s.fw)) ∧
    (Waits s tag 0x0B04 p → p.payload = [] → s.sealed = true →
      Runs (.traceCatalogue tag) s (fun t => Answered t p stAuth [] ∧ t.fw = s.fw)) ∧
    (Waits s tag 0x0101 p → p.payload = [] →
      Runs (.identify tag) s (fun t =>
        Answered t p stOk (leBytes 8 Config.serial ++ leBytes 2 0x5120 ++ leBytes 1 Config.stepping ++ leBytes 1 s.host.memberIdx ++ leBytes 1 (b2n s.pwr.leadSel + 2 * b2n s.host.bound) ++ leBytes 1 (s.rf aCuing 23 16) ++ leBytes 2 s.selfEid ++ leBytes 2 (if s.pwr.leadSel then s.selfEid else s.host.leadEid) ++ leBytes 1 s.plinth) ∧
        t.fw = s.fw ∧ t.mem = s.mem)) ∧
    (∀ (b : List Byte), Waits s tag 0x0102 p → p.payload = [] → s.running = some b → s.rf (aComp 0) 28 27 ≠ 2 →
      Runs (.version tag) s (fun t =>
        Answered t p stOk (leBytes 1 (s.rf aFw 27 27) ++ leBytes 1 (Config.bundleSvn b) ++ leBytes 1 s.fw.fuseF ++ leBytes 1 0 ++ (List.range 32).flatMap (fun i => leBytes 1 (s.rf (aComp i) 7 0))) ∧
        t.fw = s.fw ∧ t.mem = s.mem)) ∧
    (Waits s tag 0x0103 p → p.payload.length = 2 → 1 ≤ byteAt p.payload 1 ∧ byteAt p.payload 1 ≤ 80 →
      Runs (.digest tag) s (fun t =>
        Answered t p stOk ((List.range (p.items 48 (byteAt p.payload 1))).flatMap (fun i => s.measure (byteAt p.payload 0 + i))) ∧
        t.fw = s.fw ∧ t.mem = s.mem)) ∧
    (Waits s tag 0x0806 p → s.fw.delegates.contains 0 = false → p.payload.length ≠ 640 →
      Runs (.policyWrite tag) s (fun t => Answered t p stUnsup [] ∧ t.fw = s.fw)) ∧
    (Waits s tag 0x0B01 p → p.payload.length = 6 → s.sealed = true →
      Runs (.logRead tag) s (fun t => Answered t p stAuth [] ∧ t.fw = s.fw)) ∧
    (∀ (b : List Byte), Waits s tag 0x0B04 p → p.payload = [] → s.sealed = false → s.running = some b →
      Runs (.traceCatalogue tag) s (fun t =>
        (p.fits (Config.bundleTrace b).length = true → Answered t p stOk (Config.bundleTrace b)) ∧
        t.host.prog.length + 1 = s.host.prog.length ∧ t.fw = s.fw)))

/-- R113, R478 to R481, R485, R493, R497, R537, R544, R571, R573. The functions entStatus and mayTake spell the
checks of R485 and the conditions of R480. The layout of RING registers is R497. Completes, with the next
state of its own effect: cqDoorbell, rqDoorbell, eqDoorbell, ringEnable, commandTake, msixCoalesceTimer,
hioErrClear, routeWrite, mcastWrite, imageList, groupWrite, groupRead, slotRead, regionSet, eventMask,
mapRead, mapCfg, regRead, regWrite, registerWrite. -/
def Obligations.HostRingsTablesAndRegisters : Prop :=
  ∀ s : State,
  (∀ (path : Path), s.pathOk path = true ∧ s.plnUp = true ∧ s.pwr.leadSel = true →
    (s.rf (aRing 0 + 8) 31 31 = 1 ∧ s.ringFault 0 = false →
      (∀ (v : Word), fld v 16 0 < (2 * s.ringSize 0) →
        s.ahead 0 (fld v 16 0) (s.rf (aRing 0 + 0x10) 16 0) ≤ s.ringSize 0 →
        s.ahead 0 (s.rf (aRing 0 + 0xC) 16 0) (s.rf (aRing 0 + 0x10) 16 0) ≤ s.ahead 0 (fld v 16 0) (s.rf (aRing 0 + 0x10) 16 0) →
        Runs (.cqDoorbell path v) s (fun t => t = s.setRf (aRing 0 + 0xC) 16 0 (fld v 16 0))) ∧
      (∀ (v : Word), s.mastering = true →
        (2 * s.ringSize 0) ≤ fld v 16 0 ∨ s.ringSize 0 < s.ahead 0 (fld v 16 0) (s.rf (aRing 0 + 0x10) 16 0) ∨ s.ahead 0 (fld v 16 0) (s.rf (aRing 0 + 0x10) 16 0) < s.ahead 0 (s.rf (aRing 0 + 0xC) 16 0) (s.rf (aRing 0 + 0x10) 16 0) →
        Runs (.cqDoorbell path v) s (fun t => t.ringFault 0 = true ∧ t.host.msix = s.host.msix ++ [2] ∧
          t.rf (aRing 0 + 0xC) 16 0 = s.rf (aRing 0 + 0xC) 16 0 ∧ t.host.prog = s.host.prog))) ∧
    (s.rf (aRing 1 + 8) 31 31 = 1 ∧ s.ringFault 1 = false →
      (∀ (v : Word), fld v 16 0 < (2 * s.ringSize 1) →
        s.ahead 1 (fld v 16 0) (s.rf (aRing 1 + 0xC) 16 0) ≤ s.ahead 1 (s.rf (aRing 1 + 0x10) 16 0) (s.rf (aRing 1 + 0xC) 16 0) →
        Runs (.rqDoorbell path v) s (fun t => t = s.setRf (aRing 1 + 0xC) 16 0 (fld v 16 0))) ∧
      (∀ (v : Word), s.mastering = true →
        (2 * s.ringSize 1) ≤ fld v 16 0 ∨ s.ahead 1 (s.rf (aRing 1 + 0x10) 16 0) (s.rf (aRing 1 + 0xC) 16 0) < s.ahead 1 (fld v 16 0) (s.rf (aRing 1 + 0xC) 16 0) →
        Runs (.rqDoorbell path v) s (fun t => t.ringFault 1 = true ∧ t.host.msix = s.host.msix ++ [2]))) ∧
    (∀ (v : Word), s.rf (aRing 2 + 8) 31 31 = 1 ∧ s.ringFault 2 = false → fld v 16 0 < (2 * s.ringSize 2) →
      s.ahead 2 (fld v 16 0) (s.rf (aRing 2 + 0xC) 16 0) ≤ s.ahead 2 (s.rf (aRing 2 + 0x10) 16 0) (s.rf (aRing 2 + 0xC) 16 0) →
      (s.host.evtHeld = [] ∧ s.host.evtOwed = false →
        Runs (.eqDoorbell path v) s (fun t => t = s.setRf (aRing 2 + 0xC) 16 0 (fld v 16 0))) ∧
      (∀ (e : HostEntry) (r : List HostEntry), s.host.evtHeld = e :: r ∧ s.host.evtOwed = false →
        s.ringUp 2 = true → 0 < s.ahead 2 (fld v 16 0) (s.rf (aRing 2 + 0xC) 16 0) → s.ringUsed 2 ≤ s.ringSize 2 →
        Runs (.eqDoorbell path v) s (fun t =>
          (t.host.written.drop s.host.written.length).head? = some { e with idx := s.rf (aRing 2 + 0x10) 16 0, ring := 2 })) ∧
      (s.host.evtOwed = true → s.ringUp 2 = true → 0 < s.ahead 2 (fld v 16 0) (s.rf (aRing 2 + 0xC) 16 0) →
        s.ringUsed 2 ≤ s.ringSize 2 →
        Runs (.eqDoorbell path v) s (fun t =>
          (t.host.written.drop s.host.written.length).head? = some { s.lostEntry with idx := s.rf (aRing 2 + 0x10) 16 0, ring := 2 })))) ∧
  (∀ (path : Path) (v : Word) (k : Nat), s.pathOk path = true ∧ s.plnUp = true ∧ s.pwr.leadSel = true ∧ k < 3 →
    s.rf (aRing k + 8) 31 31 = 0 → fld v 31 31 = 1 →
    (4 ≤ fld v 4 0 ∧ fld v 4 0 ≤ 16 → s.ringBaseOk k (fld v 4 0) = true →
      Runs (.ringEnable path k v) s (fun t => t.rf (aRing k + 8) 31 31 = 1 ∧ t.rf (aRing k + 8) 4 0 = fld v 4 0 ∧
        t.ringFault k = false ∧ t.rf (aRing k + 0xC) 16 0 = 0 ∧ (k ≠ 2 → t.rf (aRing k + 0x10) 16 0 = 0) ∧
        t.mem = s.mem)) ∧
    (s.mastering = true → fld v 4 0 < 4 ∨ 16 < fld v 4 0 →
      Runs (.ringEnable path k v) s (fun t => t.ringFault k = true ∧ t.host.msix = s.host.msix ++ [2] ∧
        t.host.written = s.host.written))) ∧
  (∀ (e b : List Byte), s.mayTake e b = true → s.entStatus e true = stOk →
    (entMember e = 0 → entOp e ≠ 0x0104 → s.modeStatus (entOp e) = stOk →
      subOk (entOp e) (entProg e b .host).payload = true →
      Runs (.commandTake e b) s (fun t =>
        t.rf (aRing 0 + 0x10) 16 0 = (s.rf (aRing 0 + 0x10) 16 0 + 1) % (2 * s.ringSize 0) ∧
        t.host = { s.host with prog := s.host.prog ++ [entProg e b .host] } ∧ t.mem = s.mem)) ∧
    (entMember e ≠ 0 → entOp e ≠ 0x0104 → entScatter e = false → s.fallback = false →
      s.rtGone (s.member (entMember e)).eid = false → s.selfEid ≠ 0xFFFF →
      Runs (.commandTake e b) s (fun t =>
        t.rf (aRing 0 + 0x10) 16 0 = (s.rf (aRing 0 + 0x10) 16 0 + 1) % (2 * s.ringSize 0) ∧
        t.host.prog = s.host.prog ++ [{ entProg e b .host with origin := .relay (entMember e), phase := 1 }] ∧
        Sent t 0 (mkPkt (s.member (entMember e)).eid s.selfEid 0x20 false false false 0 0 (opG (entTag e) (entMember e) 0 0 0) e) ∧
        t.mem = s.mem))) ∧
  (∀ (v : Nat), s.host.msixQuiet.contains v = true → s.host.msixWait.contains v = true → s.mastering = true →
    Runs (.msixCoalesceTimer v) s (fun t => t.host.msix = s.host.msix ++ [v] ∧
      t.host.msixWait.contains v = false ∧ t.host.msixQuiet.contains v = true ∧ t.regs = s.regs)) ∧
  (∀ (path : Path) (v : Word) (k : Nat), s.rf (aRing k + 8) 31 31 = 1 →
    fld v 31 31 = 1 ∧ fld v 4 0 ≠ s.rf (aRing k + 8) 4 0 →
    Runs (.ringEnable path k v) s (fun t => t = s)) ∧
  (∀ (e b : List Byte), s.mayTake e b = true → s.entStatus e true ≠ stOk →
    Runs (.commandTake e b) s (fun t =>
      t.rf (aRing 0 + 0x10) 16 0 = (s.rf (aRing 0 + 0x10) 16 0 + 1) % (2 * s.ringSize 0) ∧
      Answered t (entProg e b .host) (s.entStatus e true) [] ∧
      (entCrcOk e = false → Answered t (entProg e b .host) stE2e []) ∧ t.host.prog = s.host.prog ∧ t.mem = s.mem)) ∧
  (∀ (v : Nat), s.host.msixQuiet.contains v = true → s.host.msixWait.contains v = false →
    Runs (.msixCoalesceTimer v) s (fun t => t.host.msixQuiet.contains v = false ∧ t.host.msix = s.host.msix ∧
      t.regs = s.regs)) ∧
  (∀ (src : Src) (path : Path) (a : Nat) (v : Word), src = .reg path a v → s.pathOk path = true ∧ s.plnUp = true →
    0x02200000 ≤ a ∧ a < 0x02420000 →
    Runs (.groupWrite src) s (fun t =>
      t = if s.grpWordFree a then s.setReg a (s.grpMask a v) else s.setRf aGrpSt 15 15 1)) ∧
  (∀ (path : Path) (a : Nat) (v : Word), path = .i3c → s.isOff 0 = false →
    s.pwr.vinAon = true ∧ s.pwr.vinIo = true → a = aPace0 → fld v 26 16 ≤ 2000 ∧ fld v 10 0 ≤ 2000 →
    Runs (.registerWrite path a v) s (fun t => t.rf a 26 16 = fld v 26 16 ∧ t.rf a 10 0 = fld v 10 0 ∧
      t.mem = s.mem)) ∧
  (∀ (path : Path) (a : Nat) (v : Word),
    (path ≠ .i3c ∧ guarded a = true) ∨ (path = .i3c ∧ i3cWrites a = false) ∨ assigned a = false ∨ s.isOff (heldIn a) = true →
    Runs (.registerWrite path a v) s (fun t => t = s)) ∧
  (∀ path : Path, s.pathOk path = true →
    (∀ (v : Word), s.isOff dHio = false → fld v 0 0 = 1 →
      Runs (.hioErrClear path v) s (fun t => t = s.setReg aHioErr 0)) ∧
    (∀ (a : Nat) (v : Word), s.plnUp = true → a = aOpTimeout →
      Runs (.registerWrite path a v) s (fun t =>
        t.reg a = (if 100 ≤ fld v 15 0 ∧ fld v 15 0 ≤ 50000 then (s.reg a &&& 0xFFFF0000#32) ||| (v &&& 0xFFFF#32) else s.reg a) ∧
        t.mem = s.mem ∧ t.host = s.host)) ∧
    (∀ (a : Nat) (v : Word), s.plnUp = true → 0x02080000 ≤ a ∧ a < 0x02100000 ∧ a % 4 = 0 →
      Runs (.registerWrite path a v) s (fun t =>
        t.reg a = if s.rf aCommitSt 0 0 = 1 then s.reg a else (s.reg a &&& ~~~(BitVec.ofNat 32 (routeMask (a / 4 % 8)))) ||| (v &&& BitVec.ofNat 32 (routeMask (a / 4 % 8)))))) ∧
  (∀ (tag : Nat) (p : Prog),
    (Waits s tag 0x0203 p → 0 < field p.payload 2 2 ∧ field p.payload 2 2 ≤ 16384 →
      field p.payload 0 2 + field p.payload 2 2 ≤ 16384 → p.payload.length = 4 + 32 * field p.payload 2 2 →
      (s.rf aCommitSt 0 0 = 0 →
        Runs (.routeWrite tag) s (fun t => Answered t p stOk [] ∧
          (∀ j ∈ List.range (field p.payload 2 2), ∀ w ∈ List.range 8, t.reg (aRouteSh (field p.payload 0 2 + j) w) = BitVec.ofNat 32 (field p.payload (4 + 32 * j + 4 * w) 4) &&& BitVec.ofNat 32 (routeMask w)) ∧
          t.mem = s.mem)) ∧
      (s.rf aCommitSt 0 0 = 1 →
        Runs (.routeWrite tag) s (fun t => Answered t p stBusy [] ∧ (∀ a : Nat, 0x60 ≤ a → t.reg a = s.reg a)))) ∧
    (Waits s tag 0x0204 p → 0 < field p.payload 2 2 ∧ field p.payload 2 2 ≤ 1024 →
      field p.payload 0 2 + field p.payload 2 2 ≤ 1024 → p.payload.length = 4 + 64 * field p.payload 2 2 →
      (s.rf aCommitSt 0 0 = 0 →
        Runs (.mcastWrite tag) s (fun t => Answered t p stOk [] ∧
          (∀ j ∈ List.range (field p.payload 2 2), ∀ w ∈ List.range 16, t.reg (aMcastSh (field p.payload 0 2 + j) w) = BitVec.ofNat 32 (field p.payload (4 + 64 * j + 4 * w) 4) &&& BitVec.ofNat 32 (mcastMask w)) ∧
          t.mem = s.mem)) ∧
      (s.rf aCommitSt 0 0 = 1 →
        Runs (.mcastWrite tag) s (fun t => Answered t p stBusy [] ∧ (∀ a : Nat, 0x60 ≤ a → t.reg a = s.reg a)))) ∧
    (Waits s tag 0x0301 p → p.payload = [] → p.fits 1536 = true →
      Runs (.imageList tag) s (fun t =>
        Answered t p stOk ((List.range 64).flatMap (fun j => (List.range 4).flatMap (fun w => leBytes 4 (s.imageShown j w)) ++ leBytes 8 (((s.image j).map (·.buildId)).getD 0))) ∧
        t.mem = s.mem)) ∧
    (∀ (src : Src) (g : Nat), src = .cmd tag → Waits s tag 0x0401 p → field p.payload 0 2 = g ∧ g < 2048 →
      p.payload.length = 68 → bits (field p.payload 12 4) 29 16 = 0 ∧ bits (field p.payload 28 4) 13 0 = 0 →
      (s.gState g = 0 →
        Runs (.groupWrite src) s (fun t => Answered t p stOk [] ∧
          (∀ w ∈ List.range 16, t.reg (aGroup g w) = s.grpMask (aGroup g w) (BitVec.ofNat 32 (field p.payload (4 + 4 * w) 4))) ∧
          t.mem = s.mem ∧ t.groups = s.groups)) ∧
      (s.gState g ≠ 0 →
        Runs (.groupWrite src) s (fun t => Answered t p stState [] ∧
          (∀ w ∈ List.range 16, t.reg (aGroup g w) = s.reg (aGroup g w)) ∧ t.rf aGrpSt 15 15 = 1))) ∧
    (∀ (g : Nat), Waits s tag 0x0403 p → p.payload.length = 2 → field p.payload 0 2 = g ∧ g < 2048 →
      Runs (.groupRead tag) s (fun t => Answered t p stOk (s.regBytes (aGroup g 0) 16) ∧
        t.mem = s.mem ∧ t.groups = s.groups)) ∧
    (∀ (n : Nat), Waits s tag 0x0504 p → p.payload.length = 6 → byteAt p.payload 0 = n ∧ n < 32 →
      field p.payload 2 2 + field p.payload 4 2 ≤ 4096 →
      Runs (.slotRead tag) s (fun t =>
        Answered t p stOk (s.regBytes (aSlot n 0) 16 ++ s.regBytes (aLen n (field p.payload 2 2)) (min (field p.payload 4 2) ((max 96 p.room - 64) / 4))) ∧
        t.mem = s.mem)) ∧
    (∀ (r w : Word), Waits s tag 0x0505 p → p.payload.length = 12 →
      r = putFld (BitVec.ofNat 32 (field p.payload 0 4)) 22 16 0 → w = BitVec.ofNat 32 (field p.payload 4 4) →
      (r = s.reg aSeqRegion ∨ (regionOk r = true ∧ s.regionFree = true) → fabWinOk r w = true →
        field p.payload 8 4 < 2 ^ 23 →
        Runs (.regionSet tag) s (fun t => Answered t p stOk [] ∧
          t.reg aFabWin = w ∧ t.reg aLendMax = BitVec.ofNat 32 (field p.payload 8 4) ∧ t.reg aSeqRegion = r ∧
          t.mem = s.mem)) ∧
      ((r ≠ s.reg aSeqRegion ∧ (regionOk r = false ∨ s.regionFree = false)) ∨ fabWinOk r w = false →
        Runs (.regionSet tag) s (fun t => Answered t p stState [] ∧
          t.reg aFabWin = s.reg aFabWin ∧ t.reg aLendMax = s.reg aLendMax ∧ t.reg aSeqRegion = s.reg aSeqRegion ∧
          t.rf aSeqSt 30 30 = 1))) ∧
    (Waits s tag 0x0B05 p → p.payload.length = 2 →
      Runs (.eventMask tag) s (fun t => Answered t p stOk [] ∧ t.host.evtMask = field p.payload 0 2 ∧
        t.mem = s.mem)) ∧
    (Waits s tag 0x0B02 p → p.payload = [] → p.fits 960 = true →
      Runs (.mapRead tag) s (fun t => Answered t p stOk (s.regBytes aMap 240) ∧ t.mem = s.mem)) ∧
    (Waits s tag 0x0B03 p → p.payload.length = 4 → 10 ≤ field p.payload 2 2 →
      Runs (.mapCfg tag) s (fun t => Answered t p stOk [] ∧
        t.rf aMapCfg 31 16 = field p.payload 0 2 ∧ t.rf aMapCfg 15 0 = field p.payload 2 2)) ∧
    (∀ (a : Nat), Waits s tag 0x0201 p → p.payload.length = 6 →
      field p.payload 0 4 = a ∧ a % 4 = 0 ∧ a + 4 * field p.payload 4 2 ≤ 0x04000000 → 0 < field p.payload 4 2 →
      (Runs (.regRead tag) s (fun t =>
          Answered t p stOk (wordsToBytes (s.readWords .cuing a (p.items 4 (field p.payload 4 2))).1) ∧
          t.mem = s.mem)) ∧
      (field p.payload 4 2 = 1 → s.pwr.vinAon = true → assigned a = true ∧ s.isOff (heldIn a) = false →
        tabGet (fun _ => none) s.cnt.latch a = none →
        Runs (.regRead tag) s (fun t => Answered t p stOk (leBytes 4 ((s.wake (heldIn a)).shown a).toNat))) ∧
      (field p.payload 4 2 = 1 → assigned a = false ∨ s.isOff (heldIn a) = true →
        Runs (.regRead tag) s (fun t => Answered t p stOk (leBytes 4 0)))) ∧
    (∀ (a : Nat), Waits s tag 0x0202 p → p.payload.length = 12 →
      field p.payload 0 4 = a ∧ a % 4 = 0 ∧ a < 0x04000000 → field p.payload 4 2 = 1 → s.pwr.vinAon = true →
      (s.role ≠ 1 ∧ s.role ≠ 2 → a = aOpTimeout →
        100 ≤ bits (field p.payload 8 4) 15 0 ∧ bits (field p.payload 8 4) 15 0 ≤ 50000 → s.plnUp = true →
        Runs (.regWrite tag) s (fun t => Answered t p stOk (leBytes 2 1) ∧
          t.rf aOpTimeout 15 0 = bits (field p.payload 8 4) 15 0 ∧ t.mem = s.mem)) ∧
      (s.role ≠ 2 → a = aOpTimeout → bits (field p.payload 8 4) 15 0 < 100 → s.plnUp = true →
        Runs (.regWrite tag) s (fun t => Answered t p stState (leBytes 2 0) ∧ t.reg a = s.reg a)) ∧
      (s.role = 2 → mirroredBlock a = true →
        Runs (.regWrite tag) s (fun t => Answered t p stState (leBytes 2 0) ∧
          (∀ b : Nat, 0x60 ≤ b → t.reg b = s.reg b) ∧ t.mem = s.mem)) ∧
      (s.role ≠ 2 ∨ mirroredBlock a = false →
        (guarded a = true →
          Runs (.regWrite tag) s (fun t => Answered t p stAuth (leBytes 2 0) ∧
            (∀ b : Nat, 0x60 ≤ b → t.reg b = s.reg b) ∧ t.mem = s.mem)) ∧
        (guarded a = false → assigned a = false →
          Runs (.regWrite tag) s (fun t => Answered t p stUnsup (leBytes 2 0) ∧
            (∀ b : Nat, 0x60 ≤ b → t.reg b = s.reg b) ∧ t.mem = s.mem)) ∧
        (guarded a = false → assigned a = true → s.isOff (heldIn a) = true →
          Runs (.regWrite tag) s (fun t => Answered t p stState (leBytes 2 0) ∧
            (∀ b : Nat, 0x60 ≤ b → t.reg b = s.reg b) ∧ t.mem = s.mem)))) ∧
    (Waits s tag 0x0B03 p → p.payload.length = 4 → field p.payload 2 2 < 10 →
      Runs (.mapCfg tag) s (fun t => Answered t p stState [] ∧ t.reg aMapCfg = s.reg aMapCfg)))

/-- R471 to R473, R475 to R477, R488 to R492, R538. The layout of EVENT_CREDIT is a choice (log entry 30). The
device's serial is left open, so the clauses of BIND say both what happens when the payload names it and when
it does not. Completes, with the next state of its own effect: cuingCmd, bind, cuingRsp, cuingEvt, mapReport,
eventCredit, relayTimeout, relayProgressTimer, attachCut, flr, d3hotEntry, pcieHotReset, busMasterEnableWrite,
bar0BadAccess, bar2Write, bar2Read, hioFatalError, pcieLinkUp, pcieLinkDown, doeAbort. -/
def Obligations.HostRelayAndFunction : Prop :=
  ∀ s : State,
  (∀ (port : Nat) (pkt : Pkt) (e : List Byte), Comes s port 0x20 pkt → s.plnUp = true → 128 ≤ pkt.data.length →
    e = pkt.data.take 128 →
    (s.host.bound = true → hSrc pkt.hdr = s.host.leadEid → field pkt.hdr 20 4 = 0 ∧ field pkt.hdr 24 4 = 0 →
      s.host.relayIn = [] → entOp e ≠ 0x0104 ∧ entOp e ≠ opCredit →
      (s.entStatus e false = stOk → s.modeStatus (entOp e) = stOk →
        subOk (entOp e) (entProg e [] .lead).payload = true →
        Runs (.cuingCmd port pkt) s (fun t =>
          t.host = { s.host with prog := s.host.prog ++ [entProg e [] .lead] } ∧ t.mem = s.mem)) ∧
      (s.entStatus e false ≠ stOk → s.selfEid ≠ 0xFFFF →
        Runs (.cuingCmd port pkt) s (fun t =>
          Sent t 0 (mkPkt s.host.leadEid s.selfEid 0x21 false false false 0 0 (opG (entTag e) (entMember e) 0 0 (s.entStatus e false)) (replyEntry (entProg e [] .lead) (s.entStatus e false) []).bytes) ∧
          t.host = s.host ∧ t.mem = s.mem))) ∧
    (∀ (p : Prog), s.selfEid ≠ 0xFFFF → entOp e = 0x0104 → s.pwr.leadSel = false → s.entStatus e false = stOk →
      p = entProg e [] .lead → p.payload.length = 44 →
      s.host.bound = false ∨ s.host.leadEid = field p.payload 10 2 → field p.payload 8 2 ≠ 0xFFFF →
      Runs (.bind port pkt) s (fun t => (field p.payload 0 8 = Config.serial → t.selfEid = field p.payload 8 2) ∧
        (field p.payload 0 8 = Config.serial → t.host = { s.host with bound := true, leadEid := field p.payload 10 2, memberIdx := entMember e, memCredit := 16, cut := false }) ∧
        (field p.payload 0 8 = Config.serial → Sent t 0 (mkPkt (field p.payload 10 2) (field p.payload 8 2) 0x21 false false false 0 0 (opG (entTag e) (entMember e) 0 0 stOk) (replyEntry p stOk (leBytes 8 Config.serial)).bytes)) ∧
        (field p.payload 0 8 = Config.serial → field p.payload 10 2 % 16384 ≠ field p.payload 8 2 % 16384 → t.reg (aRoute (field p.payload 8 2 % 16384) 4) = localWord (field p.payload 8 2)) ∧
        (field p.payload 0 8 ≠ Config.serial → t.host = s.host ∧ t.selfEid = s.selfEid) ∧ t.mem = s.mem)) ∧
    (s.host.bound = true → hSrc pkt.hdr = s.host.leadEid → entOp e = opCredit →
      s.host.memEvts = [] ∧ s.host.evtGap = 0 →
      Runs (.cuingCmd port pkt) s (fun t =>
        t.host = { s.host with memCredit := min 16 (s.host.memCredit + byteAt e 32) })) ∧
    (∀ (p : Prog), s.selfEid = 0xFFFF ∧ s.fwdEn port = false → entOp e = 0x0104 → s.pwr.leadSel = false →
      s.entStatus e false = stOk → p = entProg e [] .lead → p.payload.length = 44 →
      s.host.bound = false ∨ s.host.leadEid = field p.payload 10 2 → field p.payload 8 2 ≠ 0xFFFF →
      Runs (.bind port pkt) s (fun t => (field p.payload 0 8 = Config.serial → t.selfEid = field p.payload 8 2) ∧
        (field p.payload 0 8 = Config.serial → t.host = { s.host with bound := true, leadEid := field p.payload 10 2, memberIdx := entMember e, memCredit := 16, cut := false }) ∧
        (field p.payload 0 8 = Config.serial → Sent t 0 (mkPkt (field p.payload 10 2) (field p.payload 8 2) 0x21 false false false 0 0 (opG (entTag e) (entMember e) 0 0 stOk) (replyEntry p stOk (leBytes 8 Config.serial)).bytes)) ∧
        (field p.payload 0 8 = Config.serial → field p.payload 10 2 % 16384 ≠ field p.payload 8 2 % 16384 → t.reg (aRoute (field p.payload 8 2 % 16384) 4) = localWord (field p.payload 8 2)) ∧
        (field p.payload 0 8 ≠ Config.serial → t.host = s.host ∧ t.selfEid = s.selfEid) ∧ t.mem = s.mem)) ∧
    (∀ (p : Prog), s.selfEid ≠ 0xFFFF ∨ s.fwdEn port = false → entOp e = 0x0104 → s.pwr.leadSel = false →
      s.entStatus e false = stOk → p = entProg e [] .lead → p.payload.length = 44 →
      s.host.bound = true ∧ s.host.leadEid ≠ field p.payload 10 2 → s.selfEid ≠ 0xFFFF →
      Runs (.bind port pkt) s (fun t => t.host = s.host ∧ t.selfEid = s.selfEid ∧
        (field p.payload 0 8 = Config.serial → Sent t 0 (mkPkt (hSrc pkt.hdr) s.selfEid 0x21 false false false 0 0 (opG (entTag e) (entMember e) 0 0 stBusy) (replyEntry p stBusy []).bytes))))) ∧
  (∀ (port : Nat) (pkt : Pkt), Comes s port 0x21 pkt → s.plnUp = true → 128 ≤ pkt.data.length →
    (∀ (e : List Byte) (p : Prog), e = pkt.data.take 128 →
      s.host.prog.find? (fun q => decide (q.tag = field pkt.hdr 16 2) && decide (q.origin = .relay (byteAt pkt.hdr 18 % 64))) = some p →
      hSrc pkt.hdr = s.relayEid p → field pkt.hdr 20 4 = 0 ∧ field pkt.hdr 24 4 = 0 → s.host.relayBack = [] →
      p.gone = false ∧ p.opcode ≠ 0x0104 → s.ringUp 1 = true →
      Runs (.cuingRsp port pkt) s (fun t =>
        t.host.written.getLast?.map (fun w => { w with idx := 0 }) = some { replyEntry p (field e 12 2) (slice e 32 (field e 8 3)) with ring := 1, flags := byteAt e 7 % 2 } ∧
        t.host.prog = delFirst (fun q => decide (q.tag = p.tag)) s.host.prog ∧ t.mem = s.mem)) ∧
    (∀ (m tag : Nat), field pkt.hdr 16 2 = tag ∧ byteAt pkt.hdr 18 % 64 = m →
      s.host.prog.all (fun q => decide (q.tag ≠ tag)) = true → s.host.gaveUp.contains (m, tag) = true →
      field pkt.hdr 20 4 = 0 →
      Runs (.cuingRsp port pkt) s (fun t => t.rf aCuing 7 4 = satAdd 4 (s.rf aCuing 7 4) 1 ∧
        t.host = { s.host with gaveUp := s.host.gaveUp.filter (fun y => y ≠ (m, tag)) }))) ∧
  (∀ (port : Nat) (pkt : Pkt) (e : List Byte) (m : Nat), Comes s port 0x22 pkt → s.plnUp = true →
    128 ≤ pkt.data.length → e = pkt.data.take 128 → m = byteAt pkt.hdr 18 % 64 → (s.member m).bound = true →
    hSrc pkt.hdr = (s.member m).eid → 0 < (s.member m).credit → s.ringUp 2 = true → s.ringUsed 2 < s.ringSize 2 →
    s.host.evtHeld = [] ∧ s.host.evtOwed = false →
    Runs (.cuingEvt port pkt) s (fun t =>
      t.host.written.getLast?.map (fun w => { w with idx := 0 }) = some { evtOf m (s.rf (aRing 2 + 8) 8 8) e with ring := 2 } ∧
      t.member m = { s.member m with credit := (s.member m).credit - 1 } ∧ t.host.prog = s.host.prog ∧
      t.mem = s.mem)) ∧
  (∀ (port : Nat) (pkt : Pkt) (m : Nat), Comes s port 0x23 pkt → s.plnUp = true → pkt.data.length = 960 →
    m = byteAt pkt.hdr 18 % 64 →
    Runs (.mapReport port pkt) s (fun t =>
      (∀ i ∈ List.range 240, t.reg (aHeldMap m + 4 * i) = BitVec.ofNat 32 (field pkt.data (4 * i) 4)) ∧
      t.host = s.host ∧ t.mem = s.mem)) ∧
  (∀ (m n : Nat), s.plnUp = true → (s.member m).bound = true → 0 < n ∧ (s.member m).credit + n ≤ 16 →
    s.rtGone (s.member m).eid = false → s.fallback = false → s.selfEid ≠ 0xFFFF →
    Runs (.eventCredit m n) s (fun t => t.member m = { s.member m with credit := (s.member m).credit + n } ∧
      Sent t 0 (mkPkt (s.member m).eid s.selfEid 0x20 false false false 0 0 (opG 0xFFFF m 0 0 0) (creditEntry m n).bytes) ∧
      t.regs = s.regs ∧ t.mem = s.mem)) ∧
  (∀ (m tag : Nat) (p : Prog), s.host.prog.find? (fun q => decide (q.tag = tag)) = some p →
    p.origin = .relay m ∧ p.gone = false → s.ringUp 1 = true →
    Runs (.relayTimeout m tag) s (fun t => Answered t p stTimeout [] ∧
      t.host.prog = delFirst (fun q => decide (q.tag = tag)) s.host.prog ∧ t.host.gaveUp.contains (m, tag) = true ∧
      t.mem = s.mem)) ∧
  (∀ (tag : Nat) (p : Prog),
    s.host.prog.find? (fun q => decide (q.tag = tag) && decide (q.origin = .lead)) = some p → s.selfEid ≠ 0xFFFF →
    Runs (.relayProgressTimer tag) s (fun t =>
      Sent t 0 (mkPkt s.host.leadEid s.selfEid 0x21 false false false 0 0 (opG tag p.member 0 0 stBusy) []) ∧
      t.host = s.host ∧ t.regs = s.regs ∧ t.mem = s.mem)) ∧
  (s.host.bound = true → s.pwr.leadSel = false → s.leadPath = false →
    Runs (.attachCut) s (fun t => t = { s with host := { s.host with cut := true } })) ∧
  (s.hioUp = true →
    (Runs (.flr) s (fun t =>
        (∀ k ∈ List.range 24, t.reg (4 * k) = regReset (4 * k)) ∧ (∀ k ∈ List.range 3, t.rf (aRing k + 8) 31 31 = 0) ∧
        t.host.bme = false ∧ t.host.d3hot = false ∧ (∀ p ∈ t.host.prog, p.origin = .lead ∨ p.gone = true) ∧
        t.host.prog.map (fun p => p.tag) = s.host.prog.map (fun p => p.tag) ∧
        t.host.evtHeld = s.host.evtHeld ∧ t.host.written = s.host.written ∧
        t.mem = s.mem ∧ t.shed = s.shed ∧ t.seq = s.seq)) ∧
    (Runs (.d3hotEntry) s (fun t =>
        (∀ k ∈ List.range 24, t.reg (4 * k) = regReset (4 * k)) ∧ (∀ k ∈ List.range 3, t.rf (aRing k + 8) 31 31 = 0) ∧
        t.host.bme = false ∧ t.host.d3hot = true ∧ (∀ p ∈ t.host.prog, p.origin = .lead ∨ p.gone = true) ∧
        t.host.prog.map (fun p => p.tag) = s.host.prog.map (fun p => p.tag) ∧
        t.host.evtHeld = s.host.evtHeld ∧ t.host.written = s.host.written ∧
        t.mem = s.mem ∧ t.shed = s.shed ∧ t.seq = s.seq)) ∧
    (s.pwr.perst = false → s.rf aHioLink 3 0 ≠ 0 →
      Runs (.pcieHotReset) s (fun t =>
        (∀ k ∈ List.range 24, t.reg (4 * k) = regReset (4 * k)) ∧ (∀ k ∈ List.range 3, t.rf (aRing k + 8) 31 31 = 0) ∧
        t.host.bme = false ∧ t.host.linkDead = false ∧ t.rf aHioLink 9 9 = 1 ∧
        (∀ p ∈ t.host.prog, p.origin = .lead ∨ p.gone = true) ∧ t.mem = s.mem ∧ t.shed = s.shed)) ∧
    (∀ (b : Bool), s.host.evtHeld = [] ∧ s.host.evtOwed = false →
      Runs (.busMasterEnableWrite b) s (fun t =>
        t = { s with host := { s.host with bme := b, d3hot := (if b then false else s.host.d3hot) } })) ∧
    (s.rf aHioLink 9 9 = 1 →
      (∀ (w : Bool),
        Runs (.bar0BadAccess w) s (fun t => t.rf aHioErr 15 1 = satAdd 15 (s.rf aHioErr 15 1) 1 ∧
          t.host.aerNonfatal = s.host.aerNonfatal + 1 ∧ t.host.urCount = s.host.urCount + (if w then 0 else 1) ∧
          t.mem = s.mem ∧ t.host.prog = s.host.prog)) ∧
      (∀ (off a : Nat) (b : List Byte), 0 < b.length ∧ off + b.length ≤ 2 ^ 34 →
        (∀ i ∈ List.range (b.length), s.barred (dHbm (s.stackOf (a + i))) = false ∧ a + i < s.genEnd ∧ a + i < s.relayBase) →
        a = s.aperture + off →
        Runs (.bar2Write off b) s (fun t => (∀ i ∈ List.range b.length, t.memByte (a + i) = b.getD i 0) ∧
          MemSameBut s t a b.length ∧ t.host = s.host ∧
          (∀ r : Nat, r < 0x00600200 ∨ 0x00600300 ≤ r → t.reg r = s.reg r))) ∧
      (∀ (off a n : Nat), 0 < n ∧ off + n ≤ 2 ^ 34 →
        (∀ i ∈ List.range (n), s.barred (dHbm (s.stackOf (a + i))) = false ∧ (a + i < s.genEnd → a + i < s.relayBase) ∧ (s.genEnd ≤ a + i → s.sealed = false)) →
        a = s.aperture + off →
        Runs (.bar2Read off n) s (fun t => t.host = { s.host with bar2Out := s.memGet a n } ∧ t.mem = s.mem ∧
          (∀ r : Nat, r < 0x00600200 ∨ 0x00600300 ≤ r → t.reg r = s.reg r))) ∧
      (Runs (.doeAbort) s (fun t => t = { s with host := { s.host with doeOut := [] } })) ∧
      (∀ (off a : Nat) (b : List Byte), a = s.aperture + off →
        off + b.length > 2 ^ 34 ∨ (∃ i ∈ List.range b.length, s.barred (dHbm (s.stackOf (a + i))) = true ∨ s.genEnd ≤ a + i ∨ s.relayBase ≤ a + i) →
        Runs (.bar2Write off b) s (fun t => t.rf aHioErr 31 16 = satAdd 16 (s.rf aHioErr 31 16) 1 ∧
          t.host.aerNonfatal = s.host.aerNonfatal + 1 ∧ t.host.urCount = s.host.urCount + (if true then 0 else 1) ∧
          t.mem = s.mem)) ∧
      (∀ (off a n : Nat), a = s.aperture + off →
        off + n > 2 ^ 34 ∨ (∃ i ∈ List.range n, s.barred (dHbm (s.stackOf (a + i))) = true ∨ (a + i < s.genEnd ∧ s.relayBase ≤ a + i) ∨ (s.genEnd ≤ a + i ∧ s.sealed = true)) →
        Runs (.bar2Read off n) s (fun t => t.rf aHioErr 31 16 = satAdd 16 (s.rf aHioErr 31 16) 1 ∧
          t.host.aerNonfatal = s.host.aerNonfatal + 1 ∧ t.host.urCount = s.host.urCount + (if false then 0 else 1) ∧
          t.host.bar2Out = s.host.bar2Out ∧ t.mem = s.mem))) ∧
    (Runs (.hioFatalError) s (fun t => t.rf aHioLink 9 9 = 0 ∧
        t.host = { s.host with aerFatal := s.host.aerFatal + 1, linkDead := true } ∧ t.mem = s.mem)) ∧
    (∀ (gen width : Nat), s.host.linkDead = false ∧ s.pwr.perst = false →
      5 ≤ gen ∧ gen ≤ 7 ∧ (width = 1 ∨ width = 2 ∨ width = 4) →
      Runs (.pcieLinkUp gen width) s (fun t =>
        t.rf aHioLink 9 9 = 1 ∧ t.rf aHioLink 6 4 = width ∧ t.rf aHioLink 3 0 = gen ∧
        (gen ≠ 5 → t.rf aHioLink 8 8 = 1) ∧ t.rf aClk 3 3 = 1 ∧ t.mem = s.mem ∧ t.host.prog = s.host.prog)) ∧
    (∀ (lost : Bool),
      Runs (.pcieLinkDown lost) s (fun t => t.rf aHioLink 9 9 = 0 ∧
        t.rf aClk 3 3 = (if lost then 0 else s.rf aClk 3 3) ∧ t.host = s.host ∧ t.mem = s.mem))) ∧
  (∀ (port : Nat) (pkt : Pkt), s.host.bound = false ∨ hSrc pkt.hdr ≠ s.host.leadEid →
    Runs (.cuingCmd port pkt) s (fun t => t.host = s.host ∧ t.mem = s.mem ∧ t.selfEid = s.selfEid)) ∧
  (∀ (m n : Nat), (s.member m).bound = false ∨ n = 0 ∨ 16 < (s.member m).credit + n →
    Runs (.eventCredit m n) s (fun t => t = s)) ∧
  (s.leadPath = true → Runs (.attachCut) s (fun t => t = s)) ∧
  (∀ (gen width : Nat), s.hioUp = false ∨ s.host.linkDead = true ∨ s.pwr.perst = true →
    Runs (.pcieLinkUp gen width) s (fun t => t = s))

/-- R503, R505 to R508, R511 to R515, R519, R595. The clauses about a claim and a takeover are for a standby that
has no mirrored record yet; what an installed record does is not stated here. Completes, with the next state
of its own effect: pairConfig, pairStatus, pairSwap, swapAbdicate, heartbeatTx, hbFrameRx, pairHb,
hbPathSilent, pairMsgAbdicate, selectorSwitchDone, selectorPoll, takeoverComplete, pairMsgItem, pairMsgAck,
pairMsgBaselineStart, pairMsgBaselineEnd, mirrorAckTimeout, epochMirrorTimer, dvtErrClear. -/
def Obligations.PairsClaimAndMirror : Prop :=
  ∀ s : State,
  (s.pair.swapTag.isSome = true → s.role = 1 → s.pair.abdicated = false →
    s.pair.unacked = [] ∧ s.pair.waiting = [] →
    (∀ q ∈ s.dovetailPorts, (s.port q).lstate ≠ .active ∧ (s.port q).holdReq = none) → s.paired = true →
    s.selfEid ≠ 0xFFFF →
    Runs (.swapAbdicate) s (fun t => t.pair.abdicated = true ∧ t.pair.swapTag = s.pair.swapTag ∧
      Sent t 0 (mkPkt s.partner s.selfEid 0x25 false false false 0 0 (opP 1 0 0 0 0 0 0 0) ([])) ∧
      t.regs = s.regs ∧ t.mem = s.mem)) ∧
  (s.paired = true →
    (s.plinth ≠ 3 → s.pwr.vinAon = true → s.selfEid ≠ 0xFFFF →
      Runs (.heartbeatTx) s (fun t => t.pair.hbSeq = (s.pair.hbSeq + 1) % 65536 ∧
        (∀ q ∈ s.pairPorts, s.portRole q = 3 → s.live q = true → s.isOff (dSw (q / 16)) = false → (t.outq q 4).getLast?.map (fun k => (hType k.hdr, hDst k.hdr, field k.hdr 16 4)) = some (0x24, s.partner, s.claimReg)) ∧
        (s.pwr.vinIo = true → t.pair.hbTx.length = 12 ∧ t.pair.hbTx.take 2 = [0x5A#8, 1#8] ∧ field t.pair.hbTx 4 4 = s.claimReg ∧ field t.pair.hbTx 10 2 = crc16 (slice t.pair.hbTx 1 9)) ∧
        t.regs = s.regs ∧ t.mem = s.mem)) ∧
    (∀ (inband : Bool), s.rf aDvt (if inband then 24 else 25) (if inband then 24 else 25) = 1 →
      Runs (.hbPathSilent inband) s (fun t =>
        t.rf aDvt (if inband then 25 else 24) (if inband then 25 else 24) = 0 ∧ t.rf aDvt 23 23 = 1 ∧
        t.role = s.role ∧ t.claimReg = s.claimReg ∧ t.mirState = s.mirState ∧ t.mem = s.mem)) ∧
    (s.plinth ≠ 3 → s.pwr.vinAon = true → s.selfEid = 0xFFFF →
      Runs (.heartbeatTx) s (fun t => t.sw = s.sw ∧ t.pair.hbSeq = (s.pair.hbSeq + 1) % 65536 ∧ t.regs = s.regs)) ∧
    (∀ (inband : Bool), s.rf aDvt (if inband then 24 else 25) (if inband then 24 else 25) = 0 →
      (s.role = 1 → s.mirState ≠ 0 →
        Runs (.hbPathSilent inband) s (fun t => t.mirState = 0 ∧ t.role = 1 ∧
          t.pair.unacked = [] ∧ t.pair.waiting = [] ∧ t.pair.push = [] ∧ t.mem = s.mem)) ∧
      (s.role = 2 ∧ s.pairReady = true → s.pair.mirrored = [] → max s.claimReg s.peerClaim < 0xFFFFFFFF →
        Runs (.hbPathSilent inband) s (fun t => t.role = 3 ∧ t.claimReg = max s.claimReg s.peerClaim + 1 ∧
          (∀ k ∈ s.dovetails, (t.cart k).claim = some (max s.claimReg s.peerClaim + 1)) ∧ t.mem = s.mem)) ∧
      (s.role = 2 ∧ s.pairReady = true → max s.claimReg s.peerClaim = 0xFFFFFFFF →
        Runs (.hbPathSilent inband) s (fun t => t.role = 2 ∧ t.rf aDvt 15 0 = stExhausted ∧
          t.claimReg = s.claimReg ∧ t.carts = s.carts)) ∧
      (s.role = 2 ∧ s.pairReady = false →
        Runs (.hbPathSilent inband) s (fun t => t.role = 2 ∧ t.claimReg = s.claimReg)))) ∧
  (∀ (b : List Byte), s.sideband = true → b.length = 12 ∧ byteAt b 0 = 0x5A ∧ byteAt b 1 = 1 →
    crc16 (slice b 1 9) = field b 10 2 → s.paired = true → bit (byteAt b 3) 2 = false →
    Runs (.hbFrameRx b) s (fun t => t.rf aDvt 24 24 = 1 ∧ t.peerClaim = field b 4 4 ∧
      t.pair = { s.pair with peerSide := byteAt b 3 } ∧ t.role = s.role ∧ t.mem = s.mem)) ∧
  (∀ (port : Nat) (pkt : Pkt), Comes s port 0x24 pkt → s.paired = true → hSrc pkt.hdr = s.partner →
    bit (byteAt pkt.hdr 21) 2 = false →
    (s.role ≠ 1 →
      Runs (.pairHb port pkt) s (fun t => t.rf aDvt 25 25 = 1 ∧ t.peerClaim = field pkt.hdr 16 4 ∧
        t.pair.peerIn = byteAt pkt.hdr 21 ∧ t.role = s.role ∧ t.mem = s.mem)) ∧
    (s.role = 1 ∧ byteAt pkt.hdr 20 = 2 → s.mirState = 0 ∨ s.mirState = 3 →
      s.fallback = false ∧ s.livePair.isSome = true → s.selfEid ≠ 0xFFFF →
      Runs (.pairHb port pkt) s (fun t => t.rf aDvt 25 25 = 1 ∧ t.peerClaim = field pkt.hdr 16 4 ∧
        t.mirState = 1 ∧ t.role = 1))) ∧
  (∀ (port : Nat) (pkt : Pkt), Comes s port 0x25 pkt → s.paired = true → hSrc pkt.hdr = s.partner →
    (byteAt pkt.hdr 16 = 1 → s.role = 2 ∧ s.pairReady = true → s.pair.mirrored = [] →
      max s.claimReg s.peerClaim < 0xFFFFFFFF →
      Runs (.pairMsgAbdicate port pkt) s (fun t => t.role = 3 ∧ t.claimReg = max s.claimReg s.peerClaim + 1 ∧
        (∀ k ∈ s.dovetails, (t.cart k).claim = some (max s.claimReg s.peerClaim + 1)) ∧ t.mem = s.mem)) ∧
    (byteAt pkt.hdr 16 = 2 → s.role = 2 → s.selfEid ≠ 0xFFFF →
      (∀ (typ seq key : Nat) (b : List Byte) (l : List (Nat × List Byte)),
        byteAt pkt.hdr 17 = typ ∧ 1 ≤ typ ∧ typ ≤ 9 → field pkt.hdr 20 4 = seq ∧ field pkt.hdr 24 4 = key →
        field pkt.hdr 18 2 = 0 ∧ field pkt.hdr 28 2 = 1 → b = (pkt.data.take 4096).take (field pkt.hdr 32 4) →
        itemRecords typ key b = some l → s.plinth = 0 → s.pair.rxItems = [] ∧ s.pair.baseCount = none →
        Runs (.pairMsgItem port pkt) s (fun t =>
          t.pair.mirrored = l.foldl (fun m r => putRecord m typ r.1 r.2) s.pair.mirrored ∧
          t.pair.applied = s.pair.applied + 1 ∧ t.pair.rxItems = [] ∧
          Sent t 0 (mkPkt s.partner s.selfEid 0x25 false false false 0 0 (opP 3 typ 0 seq key 0 stOk 0) ([])) ∧
          t.regs = s.regs ∧ t.mem = s.mem)) ∧
      (∀ (seq key : Nat), byteAt pkt.hdr 17 = 0 ∨ 10 < byteAt pkt.hdr 17 →
        field pkt.hdr 20 4 = seq ∧ field pkt.hdr 24 4 = key →
        Runs (.pairMsgItem port pkt) s (fun t =>
          Sent t 0 (mkPkt s.partner s.selfEid 0x25 false false false 0 0 (opP 3 (byteAt pkt.hdr 17) 0 seq key 0 stUnsup 0) ([])) ∧
          t.pair = s.pair ∧ t.regs = s.regs))) ∧
    (∀ (m : MirItem), byteAt pkt.hdr 16 = 3 → Quiet s → s.pair.unacked = [m] ∧ s.pair.waiting = [] →
      m.seq = field pkt.hdr 20 4 ∧ m.typ = byteAt pkt.hdr 17 ∧ m.key = field pkt.hdr 24 4 ∧ m.tag = none →
      s.role = 1 → s.mirState = 1 ∨ s.mirState = 2 → s.pair.baseline = false →
      Runs (.pairMsgAck port pkt) s (fun t => t.pair.unacked = [] ∧ t.pair.waiting = [] ∧
        t.mirState = 2 ∧ t.role = 1 ∧ t.mem = s.mem)) ∧
    (byteAt pkt.hdr 16 = 4 → s.role = 2 →
      Runs (.pairMsgBaselineStart port pkt) s (fun t => t.mirState = 1 ∧ t.pairReady = false ∧ t.role = 2 ∧
        t.pair.mirrored = [] ∧ t.pair.rxItems = [] ∧ t.pair.applied = 0 ∧ t.pair.baseline = true ∧ t.mem = s.mem)) ∧
    (byteAt pkt.hdr 16 = 5 → s.role = 2 ∧ s.pair.baseline = true →
      (s.pair.swapTag = none → s.pair.applied = field pkt.hdr 20 4 →
        Runs (.pairMsgBaselineEnd port pkt) s (fun t => t.pairReady = true ∧ t.mirState = 2 ∧ t.role = 2 ∧
          t.pair.baseline = false ∧ t.pair.mirrored = s.pair.mirrored ∧ t.mem = s.mem)) ∧
      (s.pair.applied ≠ field pkt.hdr 20 4 →
        Runs (.pairMsgBaselineEnd port pkt) s (fun t =>
          t.pair = { s.pair with baseCount := some (field pkt.hdr 20 4) } ∧ t.regs = s.regs ∧ t.mem = s.mem)))) ∧
  (∀ (k : Nat), k < 16 → s.rf (aCrt k) 24 24 = 1 → s.sideband = true →
    (∀ (st : Nat), s.role = 3 → selMine st = false ∧ selTie st = false →
      Runs (.selectorSwitchDone k st) s (fun t => (t.cart k).selStatus = st ∧ t.role = 3 ∧
        t.regs = s.regs ∧ t.mem = s.mem)) ∧
    (∀ (st : Nat), s.role = 3 → selMine st = true ∧ selTie st = false → s.rf (aCrt k) 31 28 = 3 →
      Runs (.selectorSwitchDone k st) s (fun t => (t.cart k).selStatus = st ∧ t.role = 3 ∧
        (∀ q ∈ enginePorts k, (s.port q).lstate = .hold → (s.port q).txOn = true → (t.port q).ctlTx ≠ (s.port q).ctlTx) ∧
        t.mem = s.mem)) ∧
    (∀ (st : Nat), s.role = 3 → selMine st = false ∧ selTie st = true →
      Runs (.selectorSwitchDone k st) s (fun t => t.role = 2 ∧ t.rf aDvt 15 0 = stClaimTie ∧
        t.rf aDvtErr 7 1 = satAdd 7 (s.rf aDvtErr 7 1) 1 ∧ (∀ j ∈ s.dovetails, (t.cart j).claim = some 0))) ∧
    (∀ (st : Nat), s.role = 2 ∧ s.pairReady = false → (s.cart k).claim = some s.claimReg ∧ s.claimReg ≠ 0 →
      (∀ j ∈ s.dovetails, j ≠ k → selMine (s.cart j).selStatus = true) → selMine st = true →
      Runs (.selectorSwitchDone k st) s (fun t => t.role = 1 ∧ (t.cart k).selStatus = st))) ∧
  (∀ (st : List Nat), s.sideband = true → s.role = 1 →
    (∃ k ∈ s.dovetails, selMine (st.getD k (s.cart k).selStatus) = false) →
    Runs (.selectorPoll st) s (fun t => t.role = 2 ∧ t.pairReady = false ∧
      (∀ k ∈ s.dovetails, (t.cart k).claim = some 0 ∧ (t.cart k).selStatus = st.getD k (s.cart k).selStatus) ∧
      t.flows.wins = [] ∧ t.shed.items = [])) ∧
  (∀ (gap : Nat), s.role = 3 → s.pair.mirrored = [] → gap < 2 ^ 32 →
    Runs (.takeoverComplete gap) s (fun t =>
      t.role = 1 ∧ t.pairReady = false ∧ t.mirState = 0 ∧ t.rf aDvt 15 0 = stOk ∧
      t.reg aTakeover = BitVec.ofNat 32 gap ∧ t.rf aDvtErr 15 8 = satAdd 8 (s.rf aDvtErr 15 8) 1 ∧
      (∀ n ∈ List.range 32, t.slotState n = 0) ∧ t.pair.abdicated = false ∧ t.pair.rxItems = [])) ∧
  (s.streaming = true → s.pair.unacked ≠ [] →
    Runs (.mirrorAckTimeout) s (fun t => t.mirState = 3 ∧ t.role = 1 ∧
      t.pair.unacked = [] ∧ t.pair.waiting = [] ∧ t.pair.push = [] ∧ t.mem = s.mem)) ∧
  (s.streaming = true → s.selfEid ≠ 0xFFFF →
    Runs (.epochMirrorTimer) s (fun t => t.pair = { s.pair with itemSeq := (s.pair.itemSeq + 1) % 2 ^ 32 } ∧
      Sent t 0 (mkPkt s.partner s.selfEid 0x25 false false false 0 0 (opP 2 10 0 s.pair.itemSeq 0 1 0 2048) ((List.range 2048).map (fun g => BitVec.ofNat 8 (s.gf g 11 31 24)))) ∧
      t.regs = s.regs ∧ t.mem = s.mem)) ∧
  (∀ (path : Path) (v : Word), s.pathOk path = true → fld v 0 0 = 1 →
    Runs (.dvtErrClear path v) s (fun t => t = s.setReg aDvtErr 0)) ∧
  (∀ (b : List Byte), s.sideband = true →
    b.length ≠ 12 ∨ byteAt b 0 ≠ 0x5A ∨ (byteAt b 1 ≠ 1 ∧ byteAt b 1 ≠ 2) ∨ crc16 (slice b 1 9) ≠ field b 10 2 →
    Runs (.hbFrameRx b) s (fun t => t.rf aDvtErr 31 16 = satAdd 16 (s.rf aDvtErr 31 16) 1 ∧
      t.pair = s.pair ∧ t.rf aDvt 31 0 = s.rf aDvt 31 0)) ∧
  (∀ (st : List Nat), s.role ≠ 1 ∨ (∀ k ∈ s.dovetails, selMine (st.getD k (s.cart k).selStatus) = true) →
    Runs (.selectorPoll st) s (fun t => t.regs = s.regs ∧ t.pair = s.pair ∧ t.mem = s.mem ∧
      (∀ k ∈ s.dovetails, (t.cart k).selStatus = st.getD k (s.cart k).selStatus))) ∧
  (s.role = 2 → s.plinth = 2 →
    Runs (.mirrorAckTimeout) s (fun t => t.pairReady = false ∧ t.role = 2 ∧ t.pair = s.pair ∧ t.mem = s.mem)) ∧
  (∀ (tag : Nat) (p : Prog),
    (∀ (eid a b claim hb : Nat), Waits s tag 0x0A01 p → p.payload.length = 10 →
      field p.payload 0 2 = eid ∧ byteAt p.payload 2 = a ∧ byteAt p.payload 3 = b ∧ field p.payload 4 4 = claim ∧ field p.payload 8 2 = hb →
      (s.role = 0 ∧ s.mirState = 0 ∧ eid ≠ 0xFFFF → s.allMine = true → s.fallback = false ∧ s.pair.swapTag = none →
        a < 128 ∧ b < 128 ∧ s.portRole a = 3 ∧ s.portRole b = 3 → 40 ≤ hb ∧ hb ≤ 10000 ∧ eid ≠ s.selfEid →
        s.rf aSeqRegion 15 9 ≠ 0 → (∀ q ∈ s.dovetailPorts, hb + 164 ≤ s.rf (aHoldLim q) 12 0) →
        claim ≠ s.peerClaim →
        Runs (.pairConfig tag) s (fun t => Answered t p stOk [] ∧
          t.partner = eid ∧ t.rf aDvtCfg 14 8 = b ∧ t.rf aDvtCfg 6 0 = a ∧ t.rf aHbCfg 15 0 = hb ∧
          t.rf aDvt 15 0 = stOk ∧ t.role = 1 ∧
          t.claimReg = claim ∧ (∀ k ∈ s.dovetails, (t.cart k).claim = some claim) ∧
          t.mem = s.mem ∧ t.shed = s.shed)) ∧
      (s.role = 0 ∧ s.mirState = 0 ∧ eid ≠ 0xFFFF → s.allMine = false →
        s.dovetailPorts.all (fun q => s.darkOrOff q) = true → s.fallback = false ∧ s.pair.swapTag = none →
        a < 128 ∧ b < 128 ∧ s.portRole a = 3 ∧ s.portRole b = 3 → 40 ≤ hb ∧ hb ≤ 10000 ∧ eid ≠ s.selfEid →
        s.rf aSeqRegion 15 9 ≠ 0 → (∀ q ∈ s.dovetailPorts, hb + 164 ≤ s.rf (aHoldLim q) 12 0) →
        claim ≠ s.peerClaim →
        Runs (.pairConfig tag) s (fun t => Answered t p stOk [] ∧
          t.partner = eid ∧ t.rf aDvtCfg 14 8 = b ∧ t.rf aDvtCfg 6 0 = a ∧ t.rf aHbCfg 15 0 = hb ∧
          t.rf aDvt 15 0 = stOk ∧ t.role = 2 ∧ t.pairReady = false ∧
          (∀ k ∈ s.dovetails, (t.cart k).claim = some 0) ∧ t.flows.wins = [] ∧ t.shed.items = [] ∧ t.mem = s.mem)) ∧
      (s.fallback = true ∨ s.role = 3 ∨ s.pair.swapTag.isSome = true →
        Runs (.pairConfig tag) s (fun t => Answered t p stState [] ∧
          t.reg aDvtCfg = s.reg aDvtCfg ∧ t.claimReg = s.claimReg ∧ t.reg aHbCfg = s.reg aHbCfg ∧ t.role = s.role ∧
          t.rf aDvt 15 0 = stState)) ∧
      (s.fallback = false ∧ s.role ≠ 3 ∧ s.pair.swapTag = none →
        128 ≤ a ∨ 128 ≤ b ∨ s.portRole a ≠ 3 ∨ s.portRole b ≠ 3 ∨ hb < 40 ∨ 10000 < hb ∨ eid = s.selfEid →
        Runs (.pairConfig tag) s (fun t => Answered t p stUnsup [] ∧
          t.reg aDvtCfg = s.reg aDvtCfg ∧ t.claimReg = s.claimReg ∧ t.reg aHbCfg = s.reg aHbCfg ∧ t.role = s.role ∧
          t.rf aDvt 15 0 = stUnsup)) ∧
      (s.role ≠ 3 → s.fallback = false ∧ s.pair.swapTag = none →
        a < 128 ∧ b < 128 ∧ s.portRole a = 3 ∧ s.portRole b = 3 → 40 ≤ hb ∧ hb ≤ 10000 ∧ eid ≠ s.selfEid →
        (s.rf aSeqRegion 15 9 = 0 →
          Runs (.pairConfig tag) s (fun t => Answered t p stState [] ∧
            t.reg aDvtCfg = s.reg aDvtCfg ∧ t.claimReg = s.claimReg ∧ t.reg aHbCfg = s.reg aHbCfg ∧
            t.role = s.role ∧ t.rf aDvt 15 0 = stState)) ∧
        (s.rf aSeqRegion 15 9 ≠ 0 → (∀ q ∈ s.dovetailPorts, hb + 164 ≤ s.rf (aHoldLim q) 12 0) →
          claim = s.peerClaim →
          Runs (.pairConfig tag) s (fun t => Answered t p stClaimTie [] ∧
            t.reg aDvtCfg = s.reg aDvtCfg ∧ t.claimReg = s.claimReg ∧ t.reg aHbCfg = s.reg aHbCfg ∧
            t.role = s.role ∧ t.rf aDvt 15 0 = stClaimTie)))) ∧
    (Waits s tag 0x0A02 p → p.payload = [] →
      Runs (.pairStatus tag) s (fun t => Answered t p stOk (s.regBytes aDvt 4) ∧ t.mem = s.mem ∧ t.pair = s.pair)) ∧
    (Waits s tag 0x0A03 p → p.payload = [] → s.role = 1 ∧ s.fallback = false ∧ s.pair.swapTag = none →
      (bit s.pair.peerIn 0 = true ∧ bit s.pair.peerSide 0 = true →
        Runs (.pairSwap tag) s (fun t => t.pair.swapTag = some tag ∧ t.rf aDvt 15 0 = stOk ∧ t.role = 1 ∧
          (∀ q ∈ s.dovetailPorts, (s.port q).lstate = .active → (t.port q).holdReq = some (.freeze, .lit)) ∧
          t.host.written = s.host.written ∧ t.mem = s.mem)) ∧
      (bit s.pair.peerIn 0 = false ∨ bit s.pair.peerSide 0 = false →
        Runs (.pairSwap tag) s (fun t => Answered t p stNotReady [] ∧ t.pair = s.pair ∧
          t.rf aDvt 15 0 = stNotReady))) ∧
    (Waits s tag 0x0A03 p → p.payload = [] → s.role ≠ 1 →
      Runs (.pairSwap tag) s (fun t => Answered t p stState [] ∧ t.pair = s.pair)))

/-- R527 to R531, R534 to R537, R539, R577. Completes, with the next state of its own effect: counterOverflow,
counterCfgWrite, counterRead, sampleCapture, mapIntervalEnd, cntMapErrClear, hbmEccClear. -/
def Obligations.CountersSamplesAndMaps : Prop :=
  ∀ s : State,
  (∀ (id k : Nat), ctrScope id = some k → s.rf id 31 31 = 1 → s.isOff (heldIn id) = false → s.ctr id = 2 ^ 48 - 1 →
    (s.rf id 29 29 = 0 → s.rf id 28 28 = 0 ∨ s.rf (id + 0xC) 31 0 = 0 →
      Runs (.counterOverflow id) s (fun t => t.ctr id = 0 ∧ t.rf (id + 8) 16 16 = 1 ∧ t.reg id = s.reg id ∧
        t.mem = s.mem)) ∧
    (s.rf id 29 28 = 1 → s.rf (id + 0xC) 31 0 ≠ 0 → k = 0 →
      Runs (.counterOverflow id) s (fun t => t.ctr id = 2 ^ 48 - s.rf (id + 0xC) 31 0 ∧ t.rf (id + 8) 16 16 = 1 ∧
        t.mem = s.mem)) ∧
    (s.rf id 29 29 = 1 → s.ctr (id + 16) < 2 ^ 48 - 1 → ctrLast id k = false → k ≠ 0 →
      Runs (.counterOverflow id) s (fun t => t.ctr id = 0 ∧ t.rf (id + 8) 16 16 = s.rf (id + 8) 16 16 ∧
        t.ctr (id + 16) = s.ctr (id + 16) + 1 ∧ t.mem = s.mem))) ∧
  (∀ (x j time : Nat) (it : Item) (h : Nat), x < 1024 → (s.ctx x).sample = some (j, time) → s.ctxItem x = some it →
    s.sealed = false → h = s.rf (aSampHead (x / 128)) 8 0 →
    ((h + 512 - s.rf (aSampTail (x / 128)) 8 0) % 512 < 256 →
      Runs (.sampleCapture x) s (fun t => t.rf (aSampHead (x / 128)) 8 0 = (h + 1) % 512 ∧
        t.reg (aSample (x / 128) (h % 256)) = BitVec.ofNat 32 time ∧
        t.reg (aSample (x / 128) (h % 256) + 4) = BitVec.ofNat 32 (time / 2 ^ 32) ∧
        t.reg (aSample (x / 128) (h % 256) + 8) = BitVec.ofNat 32 (s.ctx x).pc ∧
        t.ctx x = { s.ctx x with sample := none } ∧ t.mem = s.mem)) ∧
    (256 ≤ (h + 512 - s.rf (aSampTail (x / 128)) 8 0) % 512 →
      Runs (.sampleCapture x) s (fun t =>
        t.rf (aSampHead (x / 128)) 31 16 = satAdd 16 (s.rf (aSampHead (x / 128)) 31 16) 1 ∧
        t.rf (aSampHead (x / 128)) 8 0 = h ∧ t.ctx x = { s.ctx x with sample := none }))) ∧
  (s.pwr.vinAon = true → s.rf aMapCfg 31 16 ≠ 0xFFFF → s.selfEid ≠ 0xFFFF →
    Runs (.mapIntervalEnd) s (fun t =>
      (∀ i ∈ List.range 240, t.reg (aMap + 4 * i) = BitVec.ofNat 32 (field s.mapBytes (4 * i) 4)) ∧
      t.cnt = { s.cnt with mapSeq := (s.cnt.mapSeq + 1) % 2 ^ 32, occMax := [], pctMax := [] } ∧ t.mem = s.mem ∧
      Sent t 0 (mkPkt (s.rf aMapCfg 31 16) s.selfEid 0x23 false false false 0 0 s.mapOp s.mapBytes))) ∧
  (∀ (id k : Nat), ctrScope id = some k → s.rf id 31 31 = 0 ∨ s.ctr id ≠ 2 ^ 48 - 1 →
    Runs (.counterOverflow id) s (fun t => t = s)) ∧
  (s.pwr.vinAon = true → s.rf aMapCfg 31 16 = 0xFFFF ∨ s.selfEid = 0xFFFF →
    Runs (.mapIntervalEnd) s (fun t =>
      (∀ i ∈ List.range 240, t.reg (aMap + 4 * i) = BitVec.ofNat 32 (field s.mapBytes (4 * i) 4)) ∧
      t.cnt = { s.cnt with mapSeq := (s.cnt.mapSeq + 1) % 2 ^ 32, occMax := [], pctMax := [] } ∧ t.mem = s.mem ∧
      t.sw = s.sw)) ∧
  (∀ path : Path, s.pathOk path = true →
    (∀ (id k : Nat), ctrScope id = some k → s.isOff (heldIn id) = false → s.sealed = false →
      (∀ (v : Word), ctrCfgOk k v = true →
        Runs (.counterCfgWrite path id v) s (fun t =>
          t.reg id = putFld (putFld v 29 29 (if ctrLast id k then 0 else fld v 29 29)) 26 23 (if k = 0 then fld v 26 23 else 0) ∧
          t.reg (id + 4) = s.reg (id + 4) ∧ t.reg (id + 8) = s.reg (id + 8) ∧ t.mem = s.mem)) ∧
      (∀ (v : Word), ctrCfgOk k v = false →
        Runs (.counterCfgWrite path id v) s (fun t => t.reg id = s.reg id ∧ t.rf aCntStatus 0 0 = 1))) ∧
    (∀ (id k : Nat), ctrScope id = some k → s.isOff (heldIn (id + 4)) = false →
      tabGet (fun _ => none) s.cnt.latch (id + 4) = none →
      Runs (.counterRead path id) s (fun t => t.cnt.readOut = [s.reg (id + 4)] ∧
        tabGet (fun _ => none) t.cnt.latch (id + 8) = some (s.reg (id + 8)) ∧ t.regs = s.regs ∧ t.mem = s.mem)) ∧
    (∀ (v : Word), fld v 0 0 = 1 → Runs (.cntMapErrClear path v) s (fun t => t = s.setReg aMapErr 0)) ∧
    (∀ (n : Nat) (v : Word), n < 8 → fld v 0 0 = 1 →
      Runs (.hbmEccClear path n v) s (fun t => t = s.setReg (aHbmEcc n) 0)))

/-- R493, R559 to R565. The fabric reset is stated for a device without a pair role; which tests share a unit is
testUnit. Completes, with the next state of its own effect: warmReset, fabricReset, clusterReset, portReset,
selftestAonTrim, selftestLaneCal, selftestPortLoop, selftestSramBist, selftestShuBist, selftestReedBist,
selftestHbmScan, selftestCryptoKat, selftestSensorCheck, selftestDone. -/
def Obligations.ResetsAndSelfTests : Prop :=
  ∀ s : State,
  (∀ (k n tag : Nat) (p : Prog), s.pwr.tests = [(k, n, tag)] →
    s.host.prog.find? (fun q => decide (q.tag = tag)) = some p →
    p.origin = .host ∧ p.gone = false ∧ s.ringUp 1 = true →
    (∀ (e d : Nat), k = 1 ∨ k = 3 ∨ k = 9 ∨ (k = 8 ∧ e = 0) →
      Runs (.selftestDone k n e d) s (fun t =>
        Answered t p stOk (leBytes 2 k ++ leBytes 2 n ++ leBytes 2 (min 65535 e) ++ leBytes 2 0 ++ leBytes 4 d ++ leBytes 4 0) ∧
        t.pwr.tests = [] ∧ t.mem = s.mem ∧ t.shed = s.shed)) ∧
    (∀ (e d : Nat), k = 5 ∧ d = 1 → s.emergency = false ∧ s.role ≠ 3 →
      s.shed.items.all (fun i => i.runs.all (fun y => decide (y / 4 ≠ n))) = true →
      Runs (.selftestDone k n e d) s (fun t =>
        Answered t p stOk (leBytes 2 k ++ leBytes 2 n ++ leBytes 2 (min 65535 e) ++ leBytes 2 0 ++ leBytes 4 d ++ leBytes 4 0) ∧
        t.pwr.tests = [] ∧ t.pwr.shuOut = s.pwr.shuOut ++ [n] ∧
        t.rf aSelftest 23 16 = min 255 (s.pwr.shuOut.length + 1))) ∧
    (∀ (e d : Nat), k = 4 ∧ e ≠ 0 ∧ n < 8 → s.emergency = false ∧ s.role ≠ 3 →
      Runs (.selftestDone k n e d) s (fun t =>
        Answered t p stOk (leBytes 2 k ++ leBytes 2 n ++ leBytes 2 (min 65535 e) ++ leBytes 2 0 ++ leBytes 4 d ++ leBytes 4 0) ∧
        bit t.pwr.sramFail n = true ∧ t.isOff (dSw n) = true ∧ t.isOff (dShu n) = true ∧ t.isOff (dReed n) = true)) ∧
    (∀ (e d : Nat), k = 8 ∧ e ≠ 0 →
      Runs (.selftestDone k n e d) s (fun t =>
        Answered t p stOk (leBytes 2 k ++ leBytes 2 n ++ leBytes 2 (min 65535 e) ++ leBytes 2 0 ++ leBytes 4 d ++ leBytes 4 0) ∧
        t.pwr.tests = [] ∧ t.rf aSec 7 0 = satAdd 8 (s.rf aSec 7 0) 1 ∧ t.fw.delegates.contains 0 = true))) ∧
  (∀ (k n e d : Nat), 4 ≤ k ∧ k ≤ 7 → s.emergency = true ∨ s.role = 3 →
    Runs (.selftestDone k n e d) s (fun t => t = s)) ∧
  (∀ (tag : Nat) (p : Prog),
    (Waits s tag 0x0D01 p →
      (p.payload.length = 3 ∧ byteAt p.payload 0 = 1 →
        Runs (.warmReset tag) s (fun t => Replied s t p stOk [] ∧
          t.rf aRstCause 31 28 = 3 ∧ t.rf aRstCause 27 24 = 4 ∧ t.rf aRstCause 23 16 = satAdd 8 (s.rf aRstCause 23 16) 1 ∧
          t.mem = [] ∧ t.pools = [] ∧ t.groups = [] ∧ t.ctxs = [] ∧ t.shed = shedReset ∧
          t.flows.wins = [] ∧ t.host.prog = [] ∧ t.pwr.tests = [] ∧
          t.pwr.bootStep = (if s.pwr.leadSel ∧ s.pwr.perst then 3 else 4) ∧
          t.reg aCapRack = s.reg aCapRack ∧ t.reg aFloor = s.reg aFloor ∧ t.aon = s.aon)) ∧
      (p.payload.length = 3 ∧ byteAt p.payload 0 = 2 → s.role = 0 → (List.range 8).all s.cycling = false →
        Runs (.fabricReset tag) s (fun t => Replied s t p stOk [] ∧
          t.rf aRstCause 31 28 = 4 ∧ t.rf aRstCause 27 24 = 4 ∧ t.rf aRstCause 15 8 = satAdd 8 (s.rf aRstCause 15 8) 1 ∧
          t.shed.items = [] ∧ t.flows.wins = [] ∧ t.ctxs = [] ∧
          (∀ q ∈ List.range 128, t.fwdEn q = false ∧ (t.port q).lstate ≠ .active) ∧ t.mem = s.mem ∧
          (∀ j ∈ List.range 64, t.rf (aImage j 0) 31 29 = s.rf (aImage j 0) 31 29))) ∧
      (p.payload.length = 3 ∧ byteAt p.payload 0 = 3 → byteAt p.payload 1 < 8 → s.role ≠ 3 →
        s.cycling (byteAt p.payload 1) = false →
        Runs (.clusterReset tag) s (fun t => Replied s t p stOk [] ∧
          t.rf aRstCause 31 28 = 5 ∧ t.rf aRstCause 27 24 = 4 ∧ t.rf aRstCause 7 0 = satAdd 8 (s.rf aRstCause 7 0) 1 ∧
          (∀ it ∈ t.shed.items, it.cluster ≠ byteAt p.payload 1) ∧
          (∀ q ∈ clusterPorts (byteAt p.payload 1), (t.port q).lstate ≠ .active) ∧
          ((s.dom (dSw (byteAt p.payload 1))).depth ≠ .off → t.dom (dSw (byteAt p.payload 1)) = ⟨.off, .idle, true⟩))) ∧
      (p.payload.length = 3 ∧ byteAt p.payload 0 = 4 → byteAt p.payload 2 < 128 →
        (s.role ≠ 3 → s.cycling (byteAt p.payload 2 / 16) = false →
          Runs (.portReset tag) s (fun t => Replied s t p stOk [] ∧
            t.rf aRstCause 31 28 = 6 ∧ t.rf aRstCause 27 24 = 4 ∧ (t.port (byteAt p.payload 2)).lstate ≠ .active ∧
            ((s.port (byteAt p.payload 2)).lstate = .active → (t.port (byteAt p.payload 2)).lstate = .down ∧ (t.port (byteAt p.payload 2)).downCause = 10) ∧
            t.shed.items.length ≤ s.shed.items.length ∧
            (∀ q ∈ List.range 128, q ≠ byteAt p.payload 2 → t.port q = s.port q))) ∧
        (s.role = 3 →
          Runs (.portReset tag) s (fun t => Answered t p stState [] ∧
            t.ports = s.ports ∧ t.shed = s.shed ∧ t.mem = s.mem))) ∧
      (p.payload.length = 3 ∧ byteAt p.payload 0 = 3 → 8 ≤ byteAt p.payload 1 →
        Runs (.clusterReset tag) s (fun t => Answered t p stUnsup [] ∧
          t.ports = s.ports ∧ t.shed = s.shed ∧ t.mem = s.mem))) ∧
    (∀ (n : Nat), Waits s tag 0x0C01 p → p.payload.length = 4 ∧ field p.payload 0 2 = 1 ∧ field p.payload 2 2 = n →
      n < testTargets 1 → s.fallback = false →
      s.pwr.tests.any (fun u => decide (testUnit u.1 = testUnit 1) && decide (u.2.1 = n)) = false →
      (s.refOk = true →
        Runs (.selftestAonTrim tag) s (fun t => t.host.written = s.host.written ∧
          t.pwr.tests = s.pwr.tests ++ [(1, n, tag)] ∧
          t.host.prog.map (fun q => q.tag) = s.host.prog.map (fun q => q.tag) ∧ t.mem = s.mem ∧
          t.rf aClk 2 2 = 1 ∧ t.pwr.trimAt = s.aon)) ∧
      (s.refOk = false →
        Runs (.selftestAonTrim tag) s (fun t => Answered t p stState [] ∧ t.pwr = s.pwr ∧ t.mem = s.mem))) ∧
    (Waits s tag 0x0C01 p →
      (∀ (n : Nat), p.payload.length = 4 ∧ field p.payload 0 2 = 2 ∧ field p.payload 2 2 = n → n < testTargets 2 →
        s.fallback = false →
        s.pwr.tests.any (fun u => decide (testUnit u.1 = testUnit 2) && decide (u.2.1 = n)) = false →
        s.ctlDown (n / 16) = false → (s.port n).lstate = .active → 1 < (bitList 4 (s.port n).laneActive).length →
        (s.port n).widthReq = none →
        Runs (.selftestLaneCal tag) s (fun t => t.host.written = s.host.written ∧
          t.pwr.tests = s.pwr.tests ++ [(2, n, tag)] ∧
          t.host.prog.map (fun q => q.tag) = s.host.prog.map (fun q => q.tag) ∧ t.mem = s.mem ∧
          (t.port n).widthReq = some ((s.port n).laneActive - 2 ^ (bitList 4 (s.port n).laneActive).headD 0, 2) ∧
          (t.port n).holdReq = some (.freeze, .lit))) ∧
      (∀ (n : Nat), p.payload.length = 4 ∧ field p.payload 0 2 = 3 ∧ field p.payload 2 2 = n → n < testTargets 3 →
        s.fallback = false →
        s.pwr.tests.any (fun u => decide (testUnit u.1 = testUnit 3) && decide (u.2.1 = n)) = false →
        (s.port n).lstate = .dark →
        Runs (.selftestPortLoop tag) s (fun t => t.host.written = s.host.written ∧
          t.pwr.tests = s.pwr.tests ++ [(3, n, tag)] ∧
          t.host.prog.map (fun q => q.tag) = s.host.prog.map (fun q => q.tag) ∧ t.mem = s.mem ∧ t.ports = s.ports)) ∧
      (∀ (n : Nat), p.payload.length = 4 ∧ field p.payload 0 2 = 4 ∧ field p.payload 2 2 = n → n < testTargets 4 →
        s.fallback = false →
        s.pwr.tests.any (fun u => decide (testUnit u.1 = testUnit 4) && decide (u.2.1 = n)) = false →
        (∀ q ∈ clusterPorts n, s.darkOrOff q = true) → (∀ it ∈ s.shed.items, it.cluster ≠ n) → s.granHeld n = 0 →
        Runs (.selftestSramBist tag) s (fun t => t.host.written = s.host.written ∧
          t.pwr.tests = s.pwr.tests ++ [(4, n, tag)] ∧
          t.host.prog.map (fun q => q.tag) = s.host.prog.map (fun q => q.tag) ∧ t.mem = s.mem ∧ t.regs = s.regs)) ∧
      (∀ (n : Nat), p.payload.length = 4 ∧ field p.payload 0 2 = 5 ∧ field p.payload 2 2 = n → n < testTargets 5 →
        s.fallback = false →
        (s.pwr.tests.any (fun u => decide (testUnit u.1 = testUnit 5) && decide (u.2.1 = n)) = false →
          Runs (.selftestShuBist tag) s (fun t => t.host.written = s.host.written ∧
            t.pwr.tests = s.pwr.tests ++ [(5, n, tag)] ∧
            t.host.prog.map (fun q => q.tag) = s.host.prog.map (fun q => q.tag) ∧ t.mem = s.mem ∧ t.regs = s.regs)) ∧
        (s.pwr.tests.any (fun u => decide (u.1 = 5) && decide (u.2.1 = n)) = true →
          Runs (.selftestShuBist tag) s (fun t => Answered t p stBusy [] ∧ t.pwr = s.pwr ∧ t.mem = s.mem))) ∧
      (∀ (n : Nat), p.payload.length = 4 ∧ field p.payload 0 2 = 6 ∧ field p.payload 2 2 = n → n < testTargets 6 →
        s.fallback = false →
        s.pwr.tests.any (fun u => decide (testUnit u.1 = testUnit 6) && decide (u.2.1 = n)) = false →
        Runs (.selftestReedBist tag) s (fun t => t.host.written = s.host.written ∧
          t.pwr.tests = s.pwr.tests ++ [(6, n, tag)] ∧
          t.host.prog.map (fun q => q.tag) = s.host.prog.map (fun q => q.tag) ∧ t.mem = s.mem ∧ t.regs = s.regs)) ∧
      (∀ (n : Nat), p.payload.length = 4 ∧ field p.payload 0 2 = 7 ∧ field p.payload 2 2 = n → n < testTargets 7 →
        s.fallback = false →
        s.pwr.tests.any (fun u => decide (testUnit u.1 = testUnit 7) && decide (u.2.1 = n)) = false →
        Runs (.selftestHbmScan tag) s (fun t => t.host.written = s.host.written ∧
          t.pwr.tests = s.pwr.tests ++ [(7, n, tag)] ∧
          t.host.prog.map (fun q => q.tag) = s.host.prog.map (fun q => q.tag) ∧ t.mem = s.mem ∧ t.regs = s.regs)) ∧
      (∀ (n : Nat), p.payload.length = 4 ∧ field p.payload 0 2 = 8 ∧ field p.payload 2 2 = n → n < testTargets 8 →
        s.fallback = false →
        s.pwr.tests.any (fun u => decide (testUnit u.1 = testUnit 8) && decide (u.2.1 = n)) = false →
        Runs (.selftestCryptoKat tag) s (fun t => t.host.written = s.host.written ∧
          t.pwr.tests = s.pwr.tests ++ [(8, n, tag)] ∧
          t.host.prog.map (fun q => q.tag) = s.host.prog.map (fun q => q.tag) ∧ t.mem = s.mem ∧ t.regs = s.regs)) ∧
      (∀ (n : Nat), p.payload.length = 4 ∧ field p.payload 0 2 = 9 ∧ field p.payload 2 2 = n → n < testTargets 9 →
        (s.fallback = false →
          s.pwr.tests.any (fun u => decide (testUnit u.1 = testUnit 9) && decide (u.2.1 = n)) = false →
          Runs (.selftestSensorCheck tag) s (fun t => t.host.written = s.host.written ∧
            t.pwr.tests = s.pwr.tests ++ [(9, n, tag)] ∧
            t.host.prog.map (fun q => q.tag) = s.host.prog.map (fun q => q.tag) ∧ t.mem = s.mem ∧ t.regs = s.regs)) ∧
        (s.fallback = true →
          Runs (.selftestSensorCheck tag) s (fun t => Answered t p stState [] ∧ t.pwr = s.pwr ∧ t.mem = s.mem)))))

/-- R462, R575, R576, R586. The two bytes of GETSTATUS are left open (log entry 29); the order of the ID's bytes
on the bus and the BCR are PRESUMED from MIPI I3C. Completes, with the next state of its own effect: entdaa,
rstdaa, setnewda, getpid, getbcr, getdcr, getstatus, i3cWriteTransfer, i3cReadTransfer, jtagRegAccess,
jtagHalt, jtagResume. -/
def Obligations.ManagementBusAndDebugPort : Prop :=
  ∀ s : State,
  (s.pwr.vinAon = true ∧ s.pwr.vinIo = true →
    (∀ (da : Nat), s.pwr.i3cAddr = none →
      Runs (.entdaa da) s (fun t =>
        t = { s with pwr := { s.pwr with i3cAddr := some (da % 128), i3cOut := (leBytes 6 (Config.pid % 2 ^ 15 * 2 ^ 33 + 2 ^ 32 + Config.serial % 2 ^ 32)).reverse ++ [0, 0] } })) ∧
    (Runs (.rstdaa) s (fun t => t = { s with pwr := { s.pwr with i3cAddr := none } })) ∧
    (∀ (a : Nat), s.pwr.i3cAddr = some a →
      (∀ (da : Nat),
        Runs (.setnewda da) s (fun t => t = { s with pwr := { s.pwr with i3cAddr := some (da % 128) } })) ∧
      (Runs (.getpid) s (fun t =>
          t = { s with pwr := { s.pwr with i3cOut := (leBytes 6 (Config.pid % 2 ^ 15 * 2 ^ 33 + 2 ^ 32 + Config.serial % 2 ^ 32)).reverse } })) ∧
      (Runs (.getbcr) s (fun t => t = { s with pwr := { s.pwr with i3cOut := [0] } })) ∧
      (Runs (.getdcr) s (fun t => t = { s with pwr := { s.pwr with i3cOut := [0] } })) ∧
      (Runs (.getstatus) s (fun t => t.pwr.i3cOut.length = 2 ∧
          t = { s with free := t.free, pwr := { s.pwr with i3cOut := t.pwr.i3cOut } })) ∧
      (∀ (v : Word), s.isOff 0 = false → fld v 26 16 ≤ 2000 ∧ fld v 10 0 ≤ 2000 →
        Runs (.i3cWriteTransfer aPace0 [v]) s (fun t =>
          t.rf aPace0 26 16 = fld v 26 16 ∧ t.rf aPace0 10 0 = fld v 10 0 ∧ t.mem = s.mem)) ∧
      (∀ (r : Nat), (0x300 ≤ r ∧ r < 0x320) ∨ (0x00200000 ≤ r ∧ r < 0x00500000) →
        assigned r = true ∧ s.isOff 0 = false ∧ (s.dom 0).depth = .run →
        tabGet (fun _ => none) s.cnt.latch r = none →
        Runs (.i3cReadTransfer r 1) s (fun t => t.pwr.i3cOut = leBytes 4 (s.shown r).toNat ∧
          t.regs = s.regs ∧ t.mem = s.mem)) ∧
      (∀ (r : Nat), assigned r = false ∨ ((r < 0x300 ∨ 0x320 ≤ r) ∧ (r < 0x00200000 ∨ 0x00500000 ≤ r)) →
        Runs (.i3cReadTransfer r 1) s (fun t => t.pwr.i3cOut = leBytes 4 0 ∧ t.regs = s.regs ∧ t.mem = s.mem)))) ∧
  (s.pathOk .jtag = true →
    (∀ (r : Nat) (v : Word), s.pwr.vinAon = true → s.pwr.vinIo = true →
      assigned r = true ∧ s.isOff (heldIn r) = false → tabGet (fun _ => none) s.cnt.latch r = none →
      Runs (.jtagRegAccess false r v) s (fun t => t.cnt.readOut = [(s.wake (heldIn r)).shown r] ∧
        t.regs = s.regs ∧ t.mem = s.mem)) ∧
    (∀ (core : Nat), s.plnUp = true → core < 4 →
      Runs (.jtagHalt core) s (fun t => bit t.fw.haltedCores core = true ∧ t.fallback = true ∧
        (∀ j ∈ List.range 12, 9 ≤ j → t.rf (aComp j) 31 29 = 5) ∧ t.mem = s.mem)) ∧
    (∀ (core : Nat), core < 12 ∧ bit s.fw.haltedCores core = true →
      s.fw.haltedCores % 16 = (if core < 4 then 2 ^ core else 0) →
      s.fallback = true ∧ s.pwr.bootStep = 9 ∧ s.plinth = 0 → s.pair.rxItems = [] →
      Runs (.jtagResume core) s (fun t => bit t.fw.haltedCores core = false ∧ t.fallback = false ∧
        (∀ j ∈ List.range 12, 9 ≤ j → s.rf (aComp j) 31 29 = 5 → t.rf (aComp j) 31 29 = 1) ∧ t.mem = s.mem)) ∧
    (∀ (r : Nat) (v : Word), s.pwr.vinAon = true → s.pwr.vinIo = true → s.plnUp = true → r = aOpTimeout →
      100 ≤ fld v 15 0 ∧ fld v 15 0 ≤ 50000 →
      Runs (.jtagRegAccess true r v) s (fun t => t.rf aOpTimeout 15 0 = fld v 15 0 ∧ t.mem = s.mem)) ∧
    (∀ (core : Nat), s.plnUp = true → 4 ≤ core ∧ core < 12 → s.isOff (dSw (core - 4)) = false →
      Runs (.jtagHalt core) s (fun t => bit t.fw.haltedCores core = true ∧ t.regs = s.regs ∧ t.mem = s.mem))) ∧
  (∀ (da : Nat), s.pwr.vinIo = false ∨ s.pwr.i3cAddr.isSome = true → Runs (.entdaa da) s (fun t => t = s)) ∧
  (∀ (da : Nat), s.pwr.i3cAddr = none → Runs (.setnewda da) s (fun t => t = s)) ∧
  (s.pwr.i3cAddr = none ∨ s.pwr.vinIo = false →
    (Runs (.getpid) s (fun t => t = s)) ∧
    (Runs (.getbcr) s (fun t => t = s)) ∧
    (Runs (.getdcr) s (fun t => t = s)) ∧
    (Runs (.getstatus) s (fun t => t = s))) ∧
  (∀ (r : Nat) (v : Word), r < 0x00200000 ∨ 0x00500000 ≤ r ∨ s.pwr.i3cAddr = none ∨ s.pwr.vinIo = false →
    Runs (.i3cWriteTransfer r [v]) s (fun t => t = s)) ∧
  (∀ (r : Nat) (v : Word), s.rf aSec 19 18 ≠ 2 → Runs (.jtagRegAccess true r v) s (fun t => t = s)) ∧
  (∀ (r : Nat) (v : Word), s.rf aSec 19 18 ≠ 2 →
    Runs (.jtagRegAccess false r v) s (fun t => t = { s with cnt := { s.cnt with readOut := [0] } })) ∧
  (∀ (core : Nat), s.rf aSec 19 18 ≠ 2 ∨ 12 ≤ core → Runs (.jtagHalt core) s (fun t => t = s)) ∧
  (∀ (core : Nat), s.rf aSec 19 18 ≠ 2 ∨ bit s.fw.haltedCores core = false →
    Runs (.jtagResume core) s (fun t => t = s))

/-- R328. Every row of the table is a clause, for every operand. Completes, with the next state of its own effect:
sop. -/
def Obligations.ScalarIntegerTable : Prop :=
  ∀ s : State,
  (∀ (x : Nat) (it : Item) (im : Image) (et fn a b d dst sr flow fsn : Nat) (pin : Bool), Ready s x it im →
    CalledBy s it x dst sr flow fsn pin → 3 < et ∨ 15 < fn →
    Runs (.sop x et fn b a d) s (fun t => Traps s t x it dst sr flow fsn pin 0x00 1 0 stUnsup)) ∧
  (∀ (x : Nat) (it : Item) (im : Image),
    Ready s x it im →
    (∀ (et a b : Nat) (A Bv : BitVec (etBits et)), et ≤ 3 → A = s.sv x et a → Bv = s.sv x et b →
      (∀ (d : Nat), Runs (.sop x et 0 b a d) s (fun t => Retires s t x ((s.ctx x).setS d ((A + Bv).signExtend 64)))) ∧
      (∀ (d : Nat), Runs (.sop x et 1 b a d) s (fun t => Retires s t x ((s.ctx x).setS d ((A - Bv).signExtend 64)))) ∧
      (∀ (d : Nat),
        Runs (.sop x et 2 b a d) s (fun t => Retires s t x ((s.ctx x).setS d ((A &&& Bv).signExtend 64)))) ∧
      (∀ (d : Nat),
        Runs (.sop x et 3 b a d) s (fun t => Retires s t x ((s.ctx x).setS d ((A ||| Bv).signExtend 64)))) ∧
      (∀ (d : Nat),
        Runs (.sop x et 4 b a d) s (fun t => Retires s t x ((s.ctx x).setS d ((A ^^^ Bv).signExtend 64)))) ∧
      (∀ (d : Nat),
        Runs (.sop x et 5 b a d) s (fun t =>
          Retires s t x ((s.ctx x).setS d ((A <<< (Bv.toNat % etBits et)).signExtend 64)))) ∧
      (∀ (d : Nat),
        Runs (.sop x et 6 b a d) s (fun t =>
          Retires s t x ((s.ctx x).setS d ((A >>> (Bv.toNat % etBits et)).setWidth 64)))) ∧
      (∀ (d : Nat),
        Runs (.sop x et 7 b a d) s (fun t =>
          Retires s t x ((s.ctx x).setS d ((A.sshiftRight (Bv.toNat % etBits et)).signExtend 64)))) ∧
      (∀ (d : Nat),
        Runs (.sop x et 8 b a d) s (fun t =>
          Retires s t x ((s.ctx x).setS d ((if Bv.slt A then Bv else A).signExtend 64)))) ∧
      (∀ (d : Nat),
        Runs (.sop x et 9 b a d) s (fun t =>
          Retires s t x ((s.ctx x).setS d ((if A.slt Bv then Bv else A).signExtend 64)))) ∧
      (∀ (d : Nat),
        Runs (.sop x et 10 b a d) s (fun t =>
          Retires s t x ((s.ctx x).setS d ((if Bv.ult A then Bv else A).setWidth 64)))) ∧
      (∀ (d : Nat),
        Runs (.sop x et 11 b a d) s (fun t =>
          Retires s t x ((s.ctx x).setS d ((if A.ult Bv then Bv else A).setWidth 64)))) ∧
      (∀ (d : Nat),
        Runs (.sop x et 12 b a d) s (fun t => Retires s t x ((s.ctx x).setS d (if A.slt Bv then 1#64 else 0#64)))) ∧
      (∀ (d : Nat),
        Runs (.sop x et 13 b a d) s (fun t => Retires s t x ((s.ctx x).setS d (if A.ult Bv then 1#64 else 0#64))))) ∧
    (∀ (et a b d : Nat) (A : BitVec (etBits et)) (n : Nat), et ≤ 3 → A = s.sv x et a → n ≤ etBits et →
      (∀ i ∈ List.range n, A.getMsbD i = false) → n = etBits et ∨ A.getMsbD n = true →
      Runs (.sop x et 14 b a d) s (fun t => Retires s t x ((s.ctx x).setS d (BitVec.ofNat 64 n)))) ∧
    (∀ (et a b d : Nat) (A : BitVec (etBits et)), et ≤ 3 → A = s.sv x et a →
      Runs (.sop x et 15 b a d) s (fun t =>
        Retires s t x ((s.ctx x).setS d (BitVec.ofNat 64 ((List.range (etBits et)).filter (fun i => A.getLsbD i)).length)))))

/-- R329, R330, with the form of SLI from R314. Every row of both tables is a clause, for every operand.
Completes, with the next state of its own effect: addi, andi, ori, xori, slti, sli, shi, smul, scmp. -/
def Obligations.ImmediateAndMultiplyTables : Prop :=
  ∀ s : State,
  (∀ (x : Nat) (it : Item) (im : Image),
    Ready s x it im →
    (∀ (imm : Int), -16384 ≤ imm → imm < 16384 →
      (∀ (a d : Nat),
        Runs (.addi x imm a d) s (fun t =>
          Retires s t x ((s.ctx x).setS d (((s.ctx x).sreg a) + BitVec.ofInt 64 imm)))) ∧
      (∀ (a d : Nat),
        Runs (.andi x imm a d) s (fun t =>
          Retires s t x ((s.ctx x).setS d (((s.ctx x).sreg a) &&& BitVec.ofInt 64 imm)))) ∧
      (∀ (a d : Nat),
        Runs (.ori x imm a d) s (fun t =>
          Retires s t x ((s.ctx x).setS d (((s.ctx x).sreg a) ||| BitVec.ofInt 64 imm)))) ∧
      (∀ (a d : Nat),
        Runs (.xori x imm a d) s (fun t =>
          Retires s t x ((s.ctx x).setS d (((s.ctx x).sreg a) ^^^ BitVec.ofInt 64 imm)))) ∧
      (∀ (a d : Nat),
        Runs (.slti x imm a d) s (fun t =>
          Retires s t x ((s.ctx x).setS d (if ((s.ctx x).sreg a).slt (BitVec.ofInt 64 imm) then 1#64 else 0#64)))) ∧
      (∀ (a d : Nat),
        Runs (.sli x imm a d) s (fun t =>
          Retires s t x ((s.ctx x).setS d ((((s.ctx x).sreg a) <<< 15) ||| (BitVec.ofInt 15 imm).setWidth 64))))) ∧
    (∀ (n a d : Nat), n < 64 →
      Runs (.shi x (0 + (n : Int)) a d) s (fun t => Retires s t x ((s.ctx x).setS d (((s.ctx x).sreg a) <<< n)))) ∧
    (∀ (et a b : Nat) (A Bv : BitVec (etBits et)), et ≤ 3 → A = s.sv x et a → Bv = s.sv x et b →
      (∀ (d : Nat),
        Runs (.smul x et 0 b a d) s (fun t => Retires s t x ((s.ctx x).setS d ((A * Bv).signExtend 64)))) ∧
      (∀ (d : Nat),
        Runs (.scmp x et 0 b a d) s (fun t => Retires s t x ((s.ctx x).setS d (if A = Bv then 1#64 else 0#64)))) ∧
      (∀ (d : Nat),
        Runs (.smul x et 1 b a d) s (fun t =>
          Retires s t x ((s.ctx x).setS d ((BitVec.ofInt (etBits et) (A.toInt * Bv.toInt / 2 ^ etBits et)).signExtend 64)))) ∧
      (∀ (d : Nat),
        Runs (.smul x et 2 b a d) s (fun t =>
          Retires s t x ((s.ctx x).setS d (BitVec.ofNat 64 (A.toNat * Bv.toNat / 2 ^ etBits et))))) ∧
      (∀ (d : Nat),
        Runs (.smul x et 3 b a d) s (fun t =>
          Retires s t x ((s.ctx x).setS d ((if Bv = 0 then BitVec.allOnes (etBits et) else A.sdiv Bv).signExtend 64)))) ∧
      (∀ (d : Nat),
        Runs (.smul x et 4 b a d) s (fun t =>
          Retires s t x ((s.ctx x).setS d ((if Bv = 0 then BitVec.allOnes (etBits et) else A / Bv).signExtend 64)))) ∧
      (∀ (d : Nat),
        Runs (.smul x et 5 b a d) s (fun t => Retires s t x ((s.ctx x).setS d ((A.srem Bv).signExtend 64)))) ∧
      (∀ (d : Nat),
        Runs (.smul x et 6 b a d) s (fun t => Retires s t x ((s.ctx x).setS d ((A % Bv).signExtend 64)))) ∧
      (∀ (d : Nat),
        Runs (.scmp x et 1 b a d) s (fun t => Retires s t x ((s.ctx x).setS d (if A ≠ Bv then 1#64 else 0#64)))) ∧
      (∀ (d : Nat),
        Runs (.scmp x et 2 b a d) s (fun t => Retires s t x ((s.ctx x).setS d (if A.slt Bv then 1#64 else 0#64)))) ∧
      (∀ (d : Nat),
        Runs (.scmp x et 3 b a d) s (fun t => Retires s t x ((s.ctx x).setS d (if A.ult Bv then 1#64 else 0#64)))) ∧
      (∀ (d : Nat),
        Runs (.scmp x et 4 b a d) s (fun t =>
          Retires s t x ((s.ctx x).setS d ((if s.sv x et d ≠ 0 then A else Bv).signExtend 64))))) ∧
    (∀ (n a d : Nat), n < 64 →
      Runs (.shi x (64 + (n : Int)) a d) s (fun t => Retires s t x ((s.ctx x).setS d (((s.ctx x).sreg a) >>> n)))) ∧
    (∀ (n a d : Nat), n < 64 →
      Runs (.shi x (128 + (n : Int)) a d) s (fun t =>
        Retires s t x ((s.ctx x).setS d (((s.ctx x).sreg a).sshiftRight n)))) ∧
    (∀ (n a d : Nat), n < 64 →
      Runs (.shi x (192 + (n : Int)) a d) s (fun t =>
        Retires s t x ((s.ctx x).setS d (((s.ctx x).sreg a).rotateRight n))))) ∧
  (∀ (x : Nat) (it : Item) (im : Image) (dst sr flow fsn : Nat) (pin : Bool),
    Ready s x it im → CalledBy s it x dst sr flow fsn pin →
    (∀ (imm : Int) (a d : Nat), -16384 ≤ imm → imm < 16384 → (BitVec.ofInt 15 imm).extractLsb' 8 7 ≠ 0#7 →
      Runs (.shi x imm a d) s (fun t => Traps s t x it dst sr flow fsn pin 0x05 1 0 stUnsup)) ∧
    (∀ (et fn a b d : Nat), 3 < et ∨ 6 < fn →
      Runs (.smul x et fn b a d) s (fun t => Traps s t x it dst sr flow fsn pin 0x08 1 0 stUnsup)) ∧
    (∀ (et fn a b d : Nat), 3 < et ∨ 4 < fn →
      Runs (.scmp x et fn b a d) s (fun t => Traps s t x it dst sr flow fsn pin 0x09 1 0 stUnsup)))

/-- R333. Every row of the table is a clause, for every operand and predicate. Completes, with the next state of
its own effect: vint. -/
def Obligations.VectorIntegerTable : Prop :=
  ∀ s : State,
  (∀ (x : Nat) (it : Item) (im : Image) (et pred vfn a b d dst sr flow fsn : Nat) (pin : Bool), Ready s x it im →
    CalledBy s it x dst sr flow fsn pin → 3 < et →
    Runs (.vint x et pred vfn b a d) s (fun t => Traps s t x it dst sr flow fsn pin 0x20 1 0 stUnsup)) ∧
  (∀ (x : Nat) (it : Item) (im : Image),
    Ready s x it im →
    (∀ (et : Nat), et ≤ 3 →
      (∀ (pred b a d : Nat),
        Runs (.vint x et pred 0 b a d) s (fun t =>
          VecIs s t x d et pred (fun i => (s.elemBv x a et i) + (s.elemBv x b et i)))) ∧
      (∀ (pred b a d : Nat),
        Runs (.vint x et pred 1 b a d) s (fun t =>
          VecIs s t x d et pred (fun i => (s.elemBv x a et i) - (s.elemBv x b et i)))) ∧
      (∀ (pred b a d : Nat),
        Runs (.vint x et pred 2 b a d) s (fun t =>
          VecIs s t x d et pred (fun i => (s.elemBv x a et i) * (s.elemBv x b et i)))) ∧
      (∀ (pred b a d : Nat),
        Runs (.vint x et pred 3 b a d) s (fun t =>
          VecIs s t x d et pred (fun i => BitVec.ofInt (etBits et) ((s.elemBv x a et i).toInt * (s.elemBv x b et i).toInt / 2 ^ etBits et)))) ∧
      (∀ (pred b a d : Nat),
        Runs (.vint x et pred 4 b a d) s (fun t =>
          VecIs s t x d et pred (fun i => BitVec.ofNat (etBits et) ((s.elemBv x a et i).toNat * (s.elemBv x b et i).toNat / 2 ^ etBits et)))) ∧
      (∀ (pred b a d : Nat),
        Runs (.vint x et pred 5 b a d) s (fun t =>
          VecIs s t x d et pred (fun i => (if (s.elemBv x b et i).slt (s.elemBv x a et i) then (s.elemBv x b et i) else (s.elemBv x a et i))))) ∧
      (∀ (pred b a d : Nat),
        Runs (.vint x et pred 6 b a d) s (fun t =>
          VecIs s t x d et pred (fun i => (if (s.elemBv x a et i).slt (s.elemBv x b et i) then (s.elemBv x b et i) else (s.elemBv x a et i))))) ∧
      (∀ (pred b a d : Nat),
        Runs (.vint x et pred 7 b a d) s (fun t =>
          VecIs s t x d et pred (fun i => (if (s.elemBv x b et i).ult (s.elemBv x a et i) then (s.elemBv x b et i) else (s.elemBv x a et i))))) ∧
      (∀ (pred b a d : Nat),
        Runs (.vint x et pred 8 b a d) s (fun t =>
          VecIs s t x d et pred (fun i => (if (s.elemBv x a et i).ult (s.elemBv x b et i) then (s.elemBv x b et i) else (s.elemBv x a et i))))) ∧
      (∀ (pred b a d : Nat),
        Runs (.vint x et pred 9 b a d) s (fun t =>
          VecIs s t x d et pred (fun i => (s.elemBv x a et i) &&& (s.elemBv x b et i)))) ∧
      (∀ (pred b a d : Nat),
        Runs (.vint x et pred 10 b a d) s (fun t =>
          VecIs s t x d et pred (fun i => (s.elemBv x a et i) ||| (s.elemBv x b et i)))) ∧
      (∀ (pred b a d : Nat),
        Runs (.vint x et pred 11 b a d) s (fun t =>
          VecIs s t x d et pred (fun i => (s.elemBv x a et i) ^^^ (s.elemBv x b et i)))) ∧
      (∀ (pred b a d : Nat),
        Runs (.vint x et pred 12 b a d) s (fun t =>
          VecIs s t x d et pred (fun i => (s.elemBv x a et i) <<< ((s.elemBv x b et i).toNat % etBits et)))) ∧
      (∀ (pred b a d : Nat),
        Runs (.vint x et pred 13 b a d) s (fun t =>
          VecIs s t x d et pred (fun i => (s.elemBv x a et i) >>> ((s.elemBv x b et i).toNat % etBits et)))) ∧
      (∀ (pred b a d : Nat),
        Runs (.vint x et pred 14 b a d) s (fun t =>
          VecIs s t x d et pred (fun i => (s.elemBv x a et i).sshiftRight ((s.elemBv x b et i).toNat % etBits et)))) ∧
      (∀ (pred b a d : Nat),
        Runs (.vint x et pred 15 b a d) s (fun t =>
          VecIs s t x d et pred (fun i => BitVec.ofInt (etBits et) (max (-2 ^ (etBits et - 1)) (min (2 ^ (etBits et - 1) - 1) ((s.elemBv x a et i).toInt + (s.elemBv x b et i).toInt))))))))

/-- R331, R332, with R302 and R309 for the flags. The arithmetic is that of IEEE 754, as the model forms it; log
entry 12 names the choice of tininess. Completes, with the next state of its own effect: fop, fmad, fcmp,
scvt. -/
def Obligations.FloatScalarAndConversion : Prop :=
  ∀ s : State,
  (∀ (x : Nat) (it : Item) (im : Image),
    Ready s x it im →
    (∀ (et : Nat), et = 7 ∨ et = 3 →
      (∀ (fn a b d : Nat), fn ≤ 9 →
        Runs (.fop x et fn b a d) s (fun t =>
          Retires s t x (((s.ctx x).raise ((sfmt et).arith (s.ctx x).rmode 0 fn (s.fr x et a) (s.fr x et b)).2).setS d (BitVec.ofNat 64 ((sfmt et).arith (s.ctx x).rmode 0 fn (s.fr x et a) (s.fr x et b)).1)))) ∧
      (∀ (fn a b d : Nat),
        Runs (.fmad x et fn b a d) s (fun t =>
          Retires s t x (((s.ctx x).raise ((sfmt et).fused (s.ctx x).rmode 0 false (s.fr x et d) (s.fr x et a) (s.fr x et b)).2).setS d (BitVec.ofNat 64 ((sfmt et).fused (s.ctx x).rmode 0 false (s.fr x et d) (s.fr x et a) (s.fr x et b)).1)))) ∧
      (∀ (a b d : Nat),
        Runs (.fcmp x et 0 b a d) s (fun t =>
          Retires s t x (((s.ctx x).raise (if ((sfmt et).dec (s.fr x et a) = .nan ∨ (sfmt et).dec (s.fr x et b) = .nan) then 0 else 0)).setS d (if ((sfmt et).dec (s.fr x et a) = .nan ∨ (sfmt et).dec (s.fr x et b) = .nan) then 0 else if ((sfmt et).dec (s.fr x et a)).eq ((sfmt et).dec (s.fr x et b)) then 1 else 0)))) ∧
      (∀ (a : Nat), (sfmt et).dec (s.fr x et a) ≠ .nan →
        (∀ (b d : Nat),
          (∃ p ∈ [true, false], (sfmt et).dec (s.fr x et a) ≠ .inf p ∧ (sfmt et).dec (s.fr x et a) ≠ .inf (!p)) →
          ((sfmt et).dec (s.fr x et a)).isZero = false → ((sfmt et).dec (s.fr x et b)).isZero = true → d ≠ 0 →
          Runs (.fop x et 3 b a d) s (fun t => bit (t.ctx x).flags 3 = true ∧
            (sfmt et).dec (t.fr x et d) = .inf (bit (s.fr x et a) ((sfmt et).width - 1) != bit (s.fr x et b) ((sfmt et).width - 1)))) ∧
        (∀ (b d : Nat), ((sfmt et).dec (s.fr x et a)).isZero = false →
          bit (s.fr x et a) ((sfmt et).width - 1) = true → d ≠ 0 →
          Runs (.fop x et 4 b a d) s (fun t => bit (t.ctx x).flags 4 = true ∧ t.sr x d = (sfmt et).qnan)) ∧
        (∀ (b d : Nat),
          Runs (.fop x et 7 b a d) s (fun t =>
            Retires s t x (((s.ctx x).raise 0).setS d (BitVec.ofNat 64 ((s.fr x et a) % 2 ^ ((sfmt et).width - 1)))))) ∧
        (∀ (b d : Nat),
          Runs (.fop x et 8 b a d) s (fun t =>
            Retires s t x (((s.ctx x).raise 0).setS d (BitVec.ofNat 64 ((s.fr x et a) ^^^ 2 ^ ((sfmt et).width - 1))))))) ∧
      (∀ (fn a b d : Nat), fn = 5 ∨ fn = 6 →
        (sfmt et).dec (s.fr x et a) = .nan ∨ (sfmt et).dec (s.fr x et b) = .nan → d ≠ 0 →
        Runs (.fop x et fn b a d) s (fun t => (sfmt et).dec (t.fr x et d) = .nan)) ∧
      (∀ (a b d : Nat),
        Runs (.fcmp x et 1 b a d) s (fun t =>
          Retires s t x (((s.ctx x).raise (if ((sfmt et).dec (s.fr x et a) = .nan ∨ (sfmt et).dec (s.fr x et b) = .nan) then 16 else 0)).setS d (if ((sfmt et).dec (s.fr x et a) = .nan ∨ (sfmt et).dec (s.fr x et b) = .nan) then 0 else if ((sfmt et).dec (s.fr x et a)).lt ((sfmt et).dec (s.fr x et b)) then 1 else 0)))) ∧
      (∀ (a b d : Nat),
        Runs (.fcmp x et 2 b a d) s (fun t =>
          Retires s t x (((s.ctx x).raise (if ((sfmt et).dec (s.fr x et a) = .nan ∨ (sfmt et).dec (s.fr x et b) = .nan) then 16 else 0)).setS d (if ((sfmt et).dec (s.fr x et a) = .nan ∨ (sfmt et).dec (s.fr x et b) = .nan) then 0 else if !((sfmt et).dec (s.fr x et b)).lt ((sfmt et).dec (s.fr x et a)) then 1 else 0)))) ∧
      (∀ (a b d : Nat),
        Runs (.fcmp x et 3 b a d) s (fun t =>
          Retires s t x (((s.ctx x).raise 0).setS d (if ((sfmt et).dec (s.fr x et a) = .nan ∨ (sfmt et).dec (s.fr x et b) = .nan) then 1 else 0))))) ∧
    (∀ (et fn a b d : Nat), fn % 16 ≤ 12 → fn < 64 →
      Runs (.scvt x et fn b a d) s (fun t =>
        Retires s t x (((s.ctx x).raise (convert (s.ctx x).rmode ((scvtDst (s.ctx x) et fn).how (s.ctx x)) (scvtSrc (s.ctx x) (fn % 16)) (scvtDst (s.ctx x) et fn) (s.sr x a % 2 ^ (scvtSrc (s.ctx x) (fn % 16)).width)).2).setS d (BitVec.ofNat 64 ((scvtDst (s.ctx x) et fn).place (convert (s.ctx x).rmode ((scvtDst (s.ctx x) et fn).how (s.ctx x)) (scvtSrc (s.ctx x) (fn % 16)) (scvtDst (s.ctx x) et fn) (s.sr x a % 2 ^ (scvtSrc (s.ctx x) (fn % 16)).width)).1))))) ∧
    (∀ (et a b d : Nat), et ≤ 3 → fFP32.dec (s.sr x a % 2 ^ 32) = .nan → d ≠ 0 →
      Runs (.scvt x et 11 b a d) s (fun t => t.sr x d = 0 ∧ bit (t.ctx x).flags 4 = true)) ∧
    (∀ (a b d : Nat), fFP32.dec (s.sr x a % 2 ^ 32) = .inf false → d ≠ 0 →
      Runs (.scvt x 2 11 b a d) s (fun t => t.sr x d = 2 ^ 31 - 1 ∧ bit (t.ctx x).flags 4 = true)) ∧
    (∀ (a b d : Nat), fFP32.dec (s.sr x a % 2 ^ 32) ≠ .nan →
      Runs (.scvt x 7 11 b a d) s (fun t =>
        Retires s t x (((s.ctx x).raise 0).setS d (BitVec.ofNat 64 (s.sr x a % 2 ^ 32)))))) ∧
  (∀ (x : Nat) (it : Item) (im : Image) (dst sr flow fsn : Nat) (pin : Bool),
    Ready s x it im → CalledBy s it x dst sr flow fsn pin →
    (∀ (et fn a b d : Nat), (et ≠ 7 ∧ et ≠ 3) ∨ 9 < fn →
      Runs (.fop x et fn b a d) s (fun t => Traps s t x it dst sr flow fsn pin 0x10 1 0 stUnsup)) ∧
    (∀ (et fn a b d : Nat), (et ≠ 7 ∧ et ≠ 3) →
      Runs (.fmad x et fn b a d) s (fun t => Traps s t x it dst sr flow fsn pin 0x11 1 0 stUnsup)) ∧
    (∀ (et fn a b d : Nat), (et ≠ 7 ∧ et ≠ 3) ∨ 3 < fn →
      Runs (.fcmp x et fn b a d) s (fun t => Traps s t x it dst sr flow fsn pin 0x12 1 0 stUnsup)) ∧
    (∀ (et fn a b d : Nat), 12 < fn % 16 ∨ bit fn 6 = true →
      Runs (.scvt x et fn b a d) s (fun t => Traps s t x it dst sr flow fsn pin 0x13 1 0 stUnsup)))

/-- R334 to R338, R340, R341, with R298, R309 and R312. The special functions that R340 bounds and does not fix
are free values (log entry 13), and so are integers that VCVT cannot hold (log entry 24). Completes, with the
next state of its own effect: vfp, vfma, vsfn, vcvt, vcmp, vplog, vred, vbcast, vperm, vtopk. -/
def Obligations.VectorResults : Prop :=
  ∀ s : State,
  (∀ (x : Nat) (it : Item) (im : Image),
    Ready s x it im →
    (∀ (et : Nat), 4 ≤ et → et < 8 →
      (∀ (pred b a d vfn : Nat), vfn ≤ 9 →
        Runs (.vfp x et pred vfn b a d) s (fun t =>
          VecMap s t x d pred ((s.fm x et).width) (fun i => (s.fm x et).arith (s.ctx x).rmode ((s.ctx x).how (s.fm x et)) vfn (s.ve x a (s.fm x et).width i) (s.ve x b (s.fm x et).width i)))) ∧
      (∀ (pred b a d vfn : Nat), vfn ≤ 1 →
        Runs (.vfma x et pred vfn b a d) s (fun t =>
          VecMap s t x d pred ((s.fm x et).width) (fun i => (s.fm x et).fused (s.ctx x).rmode ((s.ctx x).how (s.fm x et)) (decide (vfn = 1)) (s.ve x d (s.fm x et).width i) (s.ve x a (s.fm x et).width i) (s.ve x b (s.fm x et).width i)))) ∧
      (∀ (pred vfn b a d : Nat), vfn ≤ 5 ∨ vfn = 8 → 1 ≤ d → d ≤ 7 →
        Runs (.vcmp x et pred vfn b a d) s (fun t =>
          (∀ k ∈ List.range 256, bit ((t.ctx x).preg d) k = if s.pOn x pred (etBits et) (k / ((etBits et) / 8)) then (((s.fm x et).cmp vfn (s.ve x a (s.fm x et).width (k / (etBytes et))) (s.ve x b (s.fm x et).width (k / (etBytes et)))).1) else bit ((s.ctx x).preg d) k) ∧
          Retires s t x ({ s.ctx x with p := (t.ctx x).p, flags := (t.ctx x).flags }) ∧
          (∀ q, q ≠ d → (t.ctx x).preg q = (s.ctx x).preg q) ∧
          FlagsOr s t x ((s.acts x pred (etBits et)).map (fun i => (0, ((s.fm x et).cmp vfn (s.ve x a (s.fm x et).width i) (s.ve x b (s.fm x et).width i)).2))))) ∧
      (∀ (pred b a d vfn : Nat), vfn ≤ 2 →
        Runs (.vred x et pred vfn b a d) s (fun t =>
          Retires s t x (((s.ctx x).raise (redFlt (s.fm x et) (s.ctx x).rmode vfn ((s.acts x pred (etBits et)).map (s.ve x a (etBits et)))).2).setS d (BitVec.ofNat 64 (redFlt (s.fm x et) (s.ctx x).rmode vfn ((s.acts x pred (etBits et)).map (s.ve x a (etBits et)))).1)))) ∧
      (∀ (pred b a d : Nat),
        Runs (.vtopk x et pred 2 b a d) s (fun t =>
          (∀ e ∈ ((s.ctx x).cumsum et pred a), velem ((t.ctx x).vreg d) (etBits et) e.1 = e.2.1 % 2 ^ etBits et) ∧
          FlagsOr s t x (((s.ctx x).cumsum et pred a).map (fun e => (0, e.2.2))) ∧ VecRetires s t x d))) ∧
    (∀ (pred b a d vfn : Nat), vfn < 8 →
      Runs (.vsfn x 7 pred vfn b a d) s (fun t =>
        VecMap s t x d pred (32) (fun i => fFP32.sig [s.ve x a 32 i] (specialFn (s.ctx x).rmode vfn ((fFP32.enc 0 0 (fFP32.dec (s.ve x a 32 i))).1))))) ∧
    (∀ (et : Nat), et < 8 →
      (∀ (pred vfn b a d : Nat), b < 16 → vfn < 8 → vfn < 8 → lanes (etBits et) ≤ lanes (etBits (b % 8)) →
        vfn < (lanes (etBits (b % 8))) / (lanes (etBits et)) →
        Runs (.vcvt x et pred vfn b a d) s (fun t =>
          (∀ i ∈ List.range (lanes (etBits et)), velem ((t.ctx x).vreg d) (etBits et) i = if s.pOn x pred (etBits et) i then (convert (s.ctx x).rmode (((s.ctx x).num et (bit b 3)).how (s.ctx x)) ((s.ctx x).num (b % 8) (bit b 3)) ((s.ctx x).num et (bit b 3)) (s.ve x a (etBits (b % 8)) (vfn * (lanes (etBits et)) + i))).1 % 2 ^ (etBits et) else velem ((s.ctx x).vreg d) (etBits et) i) ∧
          VecRetires s t x d)) ∧
      (∀ (pred b a d : Nat),
        Runs (.vbcast x et pred 0 b a d) s (fun t => VecIs s t x d et pred (fun i => (s.sv x et a)))) ∧
      (∀ (pred b a d : Nat),
        Runs (.vperm x et pred 0 b a d) s (fun t =>
          VecIs s t x d et pred (fun i => s.elemBv x a et ((s.elemBv x b et i).toNat % (lanes (etBits et)))))) ∧
      (∀ (pred b a d : Nat),
        Runs (.vtopk x et pred 0 b a d) s (fun t =>
          (∀ i ∈ List.range (lanes (etBits et)), velem ((t.ctx x).vreg d) (etBits et) i = ((((s.ctx x).sorted et pred a)[i]?).map (·.2)).getD ((s.ctx x).lowest et) % 2 ^ etBits et) ∧
          VecRetires s t x d ∧ FlagsOr s t x [])) ∧
      (∀ (pred vfn b a d : Nat), b < 16 → vfn < 8 → lanes (etBits (b % 8)) < lanes (etBits et) →
        vfn < (lanes (etBits et)) / (lanes (etBits (b % 8))) →
        Runs (.vcvt x et pred vfn b a d) s (fun t =>
          (∀ i ∈ List.range (lanes (etBits et)), velem ((t.ctx x).vreg d) (etBits et) i = if s.pOn x pred (etBits et) i ∧ vfn * (lanes (etBits (b % 8))) ≤ i ∧ i < (vfn + 1) * (lanes (etBits (b % 8))) then (convert (s.ctx x).rmode (((s.ctx x).num et (bit b 3)).how (s.ctx x)) ((s.ctx x).num (b % 8) (bit b 3)) ((s.ctx x).num et (bit b 3)) (s.ve x a (etBits (b % 8)) (i - vfn * (lanes (etBits (b % 8)))))).1 % 2 ^ etBits et else velem ((s.ctx x).vreg d) (etBits et) i) ∧
          VecRetires s t x d)) ∧
      (∀ (pred b a d : Nat), 1 ≤ d → d ≤ 7 →
        Runs (.vplog x et pred 5 b a d) s (fun t =>
          (∀ i ∈ List.range (lanes (etBits et)), pAct ((t.ctx x).preg d) (etBits et) i = decide (i < s.sr x a)) ∧
          PredRetires s t x d)) ∧
      (∀ (pred b a d : Nat),
        Runs (.vbcast x et pred 1 b a d) s (fun t =>
          VecIs s t x d et pred (fun i => (if i = s.sr x b % (lanes (etBits et)) then (s.sv x et a) else s.elemBv x d et i)))) ∧
      (∀ (pred b a d : Nat),
        Runs (.vbcast x et pred 2 b a d) s (fun t =>
          Retires s t x ((s.ctx x).setS d (let e := s.elemBv x a et (s.sr x b % (lanes (etBits et))); if et ≤ 3 then e.signExtend 64 else e.setWidth 64)))) ∧
      (∀ (pred b a d : Nat),
        Runs (.vperm x et pred 1 b a d) s (fun t =>
          VecIs s t x d et pred (fun i => (if i % 2 = 0 then s.elemBv x a et (i / 2) else s.elemBv x b et (i / 2))))) ∧
      (∀ (pred b a d : Nat),
        Runs (.vperm x et pred 2 b a d) s (fun t =>
          VecIs s t x d et pred (fun i => (if i % 2 = 0 then s.elemBv x a et (i / 2 + lanes (etBits et) / 2) else s.elemBv x b et (i / 2 + lanes (etBits et) / 2))))) ∧
      (∀ (pred b a d : Nat),
        Runs (.vperm x et pred 3 b a d) s (fun t =>
          VecIs s t x d et pred (fun i => (if 2 * i < lanes (etBits et) then s.elemBv x a et (2 * i) else s.elemBv x b et (2 * i - lanes (etBits et)))))) ∧
      (∀ (pred b a d : Nat),
        Runs (.vperm x et pred 4 b a d) s (fun t =>
          VecIs s t x d et pred (fun i => (if 2 * i + 1 < lanes (etBits et) then s.elemBv x a et (2 * i + 1) else s.elemBv x b et (2 * i + 1 - lanes (etBits et)))))) ∧
      (∀ (pred b a d : Nat),
        Runs (.vperm x et pred 6 b a d) s (fun t =>
          VecIs s t x d et pred (fun i => s.elemBv x a et (lanes (etBits et) - 1 - i)))) ∧
      (∀ (pred b a d : Nat),
        Runs (.vperm x et pred 5 b a d) s (fun t =>
          (∀ i ∈ List.range (lanes (etBits et)), t.elemBv x d et i = match (s.acts x pred (etBits et))[i]? with | some j => s.elemBv x a et j | none => 0) ∧
          VecRetires s t x d ∧ FlagsOr s t x [])) ∧
      (∀ (pred b a d : Nat),
        Runs (.vtopk x et pred 1 b a d) s (fun t =>
          (∀ i ∈ List.range (lanes (etBits et)), velem ((t.ctx x).vreg d) (etBits et) i = ((((s.ctx x).sorted et pred a)[i]?).map (·.1)).getD (2 ^ etBits et - 1) % 2 ^ etBits et) ∧
          VecRetires s t x d ∧ FlagsOr s t x [])) ∧
      (∀ (pred b a d : Nat),
        Runs (.vtopk x et pred 3 b a d) s (fun t =>
          Retires s t x ((s.ctx x).setS d (BitVec.ofNat 64 (((s.acts x pred (etBits et)).find? (fun i => (s.ctx x).topLt et (s.sr x b % 2 ^ etBits et) (s.ve x a (etBits et) i))).getD (lanes (etBits et))))))) ∧
      (∀ (pred b a d : Nat), 1 ≤ s.sr x b →
        Runs (.vtopk x et pred 4 b a d) s (fun t =>
          Retires s t x ((s.ctx x).setS d (BitVec.ofNat 64 (((((s.ctx x).sorted et pred a)[s.sr x b - 1]?).map (·.2)).getD ((s.ctx x).lowest et))))))) ∧
    (∀ (et d : Nat), et ≤ 3 → 1 ≤ d → d ≤ 7 →
      (∀ (pred b a : Nat),
        Runs (.vcmp x et pred 0 b a d) s (fun t =>
          PredIs s t x d et pred (fun i => decide ((s.elemBv x a et i) = (s.elemBv x b et i))))) ∧
      (∀ (pred b a : Nat),
        Runs (.vcmp x et pred 1 b a d) s (fun t =>
          PredIs s t x d et pred (fun i => decide ((s.elemBv x a et i) ≠ (s.elemBv x b et i))))) ∧
      (∀ (pred b a : Nat),
        Runs (.vcmp x et pred 2 b a d) s (fun t =>
          PredIs s t x d et pred (fun i => (s.elemBv x a et i).slt (s.elemBv x b et i)))) ∧
      (∀ (pred b a : Nat),
        Runs (.vcmp x et pred 3 b a d) s (fun t =>
          PredIs s t x d et pred (fun i => (s.elemBv x a et i).sle (s.elemBv x b et i)))) ∧
      (∀ (pred b a : Nat),
        Runs (.vcmp x et pred 4 b a d) s (fun t =>
          PredIs s t x d et pred (fun i => (s.elemBv x b et i).slt (s.elemBv x a et i)))) ∧
      (∀ (pred b a : Nat),
        Runs (.vcmp x et pred 5 b a d) s (fun t =>
          PredIs s t x d et pred (fun i => (s.elemBv x b et i).sle (s.elemBv x a et i)))) ∧
      (∀ (pred b a : Nat),
        Runs (.vcmp x et pred 6 b a d) s (fun t =>
          PredIs s t x d et pred (fun i => (s.elemBv x a et i).ult (s.elemBv x b et i)))) ∧
      (∀ (pred b a : Nat),
        Runs (.vcmp x et pred 7 b a d) s (fun t =>
          PredIs s t x d et pred (fun i => (s.elemBv x a et i).ule (s.elemBv x b et i))))) ∧
    (∀ (b a d : Nat), a ≤ 7 → b ≤ 7 → 1 ≤ d → d ≤ 7 →
      (∀ (et pred : Nat),
        Runs (.vplog x et pred 0 b a d) s (fun t =>
          (∀ k ∈ List.range 256, bit ((t.ctx x).preg d) k = (bit ((s.ctx x).preg a) k && bit ((s.ctx x).preg b) k)) ∧
          PredRetires s t x d)) ∧
      (∀ (et pred : Nat),
        Runs (.vplog x et pred 1 b a d) s (fun t =>
          (∀ k ∈ List.range 256, bit ((t.ctx x).preg d) k = (bit ((s.ctx x).preg a) k || bit ((s.ctx x).preg b) k)) ∧
          PredRetires s t x d)) ∧
      (∀ (et pred : Nat),
        Runs (.vplog x et pred 2 b a d) s (fun t =>
          (∀ k ∈ List.range 256, bit ((t.ctx x).preg d) k = (bit ((s.ctx x).preg a) k != bit ((s.ctx x).preg b) k)) ∧
          PredRetires s t x d)) ∧
      (∀ (et pred : Nat),
        Runs (.vplog x et pred 3 b a d) s (fun t =>
          (∀ k ∈ List.range 256, bit ((t.ctx x).preg d) k = (bit ((s.ctx x).preg a) k && !bit ((s.ctx x).preg b) k)) ∧
          PredRetires s t x d)) ∧
      (∀ (et pred : Nat),
        Runs (.vplog x et pred 4 b a d) s (fun t =>
          (∀ k ∈ List.range 256, bit ((t.ctx x).preg d) k = (!bit ((s.ctx x).preg a) k)) ∧ PredRetires s t x d))) ∧
    (∀ (et pred b a d : Nat), et ≤ 3 →
      Runs (.vred x et pred 0 b a d) s (fun t =>
        Retires s t x ((s.ctx x).setS d ((s.acts x pred (etBits et)).foldl (fun acc i => acc + (s.elemBv x a et i).signExtend 64) 0#64)))) ∧
    (∀ (et pred b a d : Nat), 4 ≤ et → et < 7 →
      Runs (.vfma x et pred 2 b a d) s (fun t =>
        VecMap s t x d pred (32) (fun i => dotSum (s.ctx x).rmode (fFP32.dec (s.ve x d 32 i)) ((List.range (32 / (s.fm x et).width)).map (fun j => ((s.fm x et).dec (s.ve x a (s.fm x et).width (32 / (s.fm x et).width * i + j)), (s.fm x et).dec (s.ve x b (s.fm x et).width (32 / (s.fm x et).width * i + j)))))))) ∧
    (∀ (et pred b a d vfn : Nat), et = 5 ∨ et = 6 → vfn < 8 →
      Runs (.vsfn x et pred vfn b a d) s (fun t =>
        VecMap s t x d pred ((s.fm x et).width) (fun i => (s.fm x et).sig [s.ve x a (s.fm x et).width i] (((s.fm x et).enc (s.ctx x).rmode 0 (fFP32.dec (specialFn (s.ctx x).rmode vfn ((fFP32.enc 0 0 ((s.fm x et).dec (s.ve x a (s.fm x et).width i))).1)).1)).1, (specialFn (s.ctx x).rmode vfn ((fFP32.enc 0 0 ((s.fm x et).dec (s.ve x a (s.fm x et).width i))).1)).2 ||| ((s.fm x et).enc (s.ctx x).rmode 0 (fFP32.dec (specialFn (s.ctx x).rmode vfn ((fFP32.enc 0 0 ((s.fm x et).dec (s.ve x a (s.fm x et).width i))).1)).1)).2)))) ∧
    (∀ (pred i : Nat), i < 64 → s.pOn x pred 32 i = true →
      (∀ (b a d : Nat), fFP32.dec (s.ve x a 32 i) = .inf true →
        Runs (.vsfn x 7 pred 0 b a d) s (fun t => velem ((t.ctx x).vreg d) 32 i = 0)) ∧
      (∀ (b a d : Nat), (fFP32.dec (s.ve x a 32 i)).isZero = true →
        Runs (.vsfn x 7 pred 2 b a d) s (fun t => velem ((t.ctx x).vreg d) 32 i = 0xFF800000 ∧
          bit (t.ctx x).flags 3 = true)) ∧
      (∀ (b a d : Nat), s.ve x a 32 i = 0 →
        Runs (.vsfn x 7 pred 4 b a d) s (fun t => velem ((t.ctx x).vreg d) 32 i = 0x7F800000 ∧
          bit (t.ctx x).flags 3 = true)) ∧
      (∀ (a : Nat), fFP32.dec (s.ve x a 32 i) ≠ .nan → (fFP32.dec (s.ve x a 32 i)).isZero = false →
        bit (s.ve x a 32 i) 31 = true →
        (∀ (b d : Nat),
          Runs (.vsfn x 7 pred 2 b a d) s (fun t => velem ((t.ctx x).vreg d) 32 i = 0x7FC00000 ∧
            bit (t.ctx x).flags 4 = true)) ∧
        (∀ (b d : Nat),
          Runs (.vsfn x 7 pred 5 b a d) s (fun t => velem ((t.ctx x).vreg d) 32 i = 0x7FC00000 ∧
            bit (t.ctx x).flags 4 = true)))) ∧
    (∀ (et pred b a d : Nat), a ≤ 7 →
      Runs (.vplog x et pred 6 b a d) s (fun t =>
        Retires s t x ((s.ctx x).setS d (BitVec.ofNat 64 (actives ((s.ctx x).preg a) (etBits et)).length)))) ∧
    (∀ (et pred b a d : Nat), a ≤ 7 →
      Runs (.vplog x et pred 7 b a d) s (fun t =>
        Retires s t x ((s.ctx x).setS d (BitVec.ofNat 64 ((actives ((s.ctx x).preg a) (etBits et)).headD (lanes (etBits et))))))) ∧
    (∀ (et pred b a d vfn : Nat), et ≤ 3 → vfn ≤ 7 →
      Runs (.vred x et pred vfn b a d) s (fun t =>
        Retires s t x ((s.ctx x).setS d (BitVec.ofNat 64 (redInt vfn (etBits et) ((s.acts x pred (etBits et)).map (s.ve x a (etBits et)))))))) ∧
    (∀ (et pred b a d : Nat), et ≤ 3 → (s.acts x pred (etBits et)) ≠ [] → d ≠ 0 →
      Runs (.vred x et pred 8 b a d) s (fun t => t.sr x d ∈ (s.acts x pred (etBits et)) ∧
        (∀ j ∈ (s.acts x pred (etBits et)), (s.elemBv x a et j).sle (s.elemBv x a et (t.sr x d)) = true ∧ (j < t.sr x d → (s.elemBv x a et j).slt (s.elemBv x a et (t.sr x d)) = true)) ∧
        Retires s t x ((s.ctx x).setS d (BitVec.ofNat 64 (t.sr x d))))) ∧
    (∀ (et pred b a d vfn : Nat), (s.acts x pred (etBits et)) = [] → vfn = 8 ∨ vfn = 9 →
      Runs (.vred x et pred vfn b a d) s (fun t =>
        Retires s t x ((s.ctx x).setS d (BitVec.ofNat 64 (lanes (etBits et)))))) ∧
    (∀ (et pred b a d : Nat), et ≤ 3 →
      Runs (.vbcast x et pred 3 b a d) s (fun t => VecIs s t x d et pred (fun i => BitVec.ofNat (etBits et) i))) ∧
    (∀ (et pred b a d : Nat), et ≤ 3 →
      Runs (.vtopk x et pred 2 b a d) s (fun t =>
        VecIs s t x d et pred (fun i => ((s.acts x pred (etBits et)).filter (fun j => decide (j ≤ i))).foldl (fun acc j => acc + s.elemBv x a et j) 0)))) ∧
  (∀ (x : Nat) (it : Item) (im : Image) (dst sr flow fsn : Nat) (pin : Bool),
    Ready s x it im → CalledBy s it x dst sr flow fsn pin →
    (∀ (et pred vfn b a d : Nat), et < 4 ∨ 9 < vfn →
      Runs (.vfp x et pred vfn b a d) s (fun t => Traps s t x it dst sr flow fsn pin 0x21 1 0 stUnsup)) ∧
    (∀ (et pred vfn b a d : Nat), et < 4 ∨ 2 < vfn ∨ (vfn = 2 ∧ et = 7) →
      Runs (.vfma x et pred vfn b a d) s (fun t => Traps s t x it dst sr flow fsn pin 0x22 1 0 stUnsup)) ∧
    (∀ (et pred vfn b a d : Nat), 8 < vfn ∨ ((vfn = 6 ∨ vfn = 7) ∧ 4 ≤ et) ∨ (vfn = 8 ∧ et < 4) ∨ 7 < d →
      Runs (.vcmp x et pred vfn b a d) s (fun t => Traps s t x it dst sr flow fsn pin 0x23 1 0 stUnsup)) ∧
    (∀ (et pred vfn b a d : Nat), 7 < vfn ∨ (vfn ≤ 5 ∧ 7 < d) →
      Runs (.vplog x et pred vfn b a d) s (fun t => Traps s t x it dst sr flow fsn pin 0x2B 1 0 stUnsup)) ∧
    (∀ (et pred vfn b a d : Nat), 9 < vfn ∨ (3 ≤ vfn ∧ vfn ≤ 7 ∧ 4 ≤ et) →
      Runs (.vred x et pred vfn b a d) s (fun t => Traps s t x it dst sr flow fsn pin 0x24 1 0 stUnsup)) ∧
    (∀ (et pred vfn b a d : Nat), 6 < vfn →
      Runs (.vperm x et pred vfn b a d) s (fun t => Traps s t x it dst sr flow fsn pin 0x25 1 0 stUnsup)) ∧
    (∀ (et pred vfn b a d : Nat), 3 < vfn ∨ (vfn = 3 ∧ 4 ≤ et) →
      Runs (.vbcast x et pred vfn b a d) s (fun t => Traps s t x it dst sr flow fsn pin 0x26 1 0 stUnsup)) ∧
    (∀ (et pred vfn b a d : Nat), bit vfn 3 = true ∨ bit b 4 = true →
      Runs (.vcvt x et pred vfn b a d) s (fun t => Traps s t x it dst sr flow fsn pin 0x27 1 0 stUnsup)) ∧
    (∀ (et pred vfn b a d : Nat), et < 5 ∨ 7 < vfn →
      Runs (.vsfn x et pred vfn b a d) s (fun t => Traps s t x it dst sr flow fsn pin 0x29 1 0 stUnsup)) ∧
    (∀ (et pred vfn b a d : Nat), 4 < vfn →
      Runs (.vtopk x et pred vfn b a d) s (fun t => Traps s t x it dst sr flow fsn pin 0x2A 1 0 stUnsup)))

/-- R348 to R351 with R299, R309 and R310. The arithmetic is that of R204 and R309 as the model forms it.
Completes, with the next state of its own effect: mma, mmx, mzero, mld, mst, mtov. -/
def Obligations.MatrixInstructions : Prop :=
  ∀ s : State,
  (∀ (x : Nat) (it : Item) (im : Image),
    Ready s x it im →
    (∀ (et pred vfn b a d : Nat), et = 0 ∨ (4 ≤ et ∧ et < 8) → d ≤ 3 → NoErr s x →
      Runs (.mma x et pred vfn b a d) s (fun t =>
        (∀ k ∈ List.range 256, (t.ctx x).tile d k = (dotSum 0 (fFP32.dec ((s.ctx x).tile d k)) ((s.ctx x).mmaPairs et ((List.range (2048 / etBits et / 16)).map (fun j => s.ve x a (etBits et) (k / 16 * (2048 / etBits et / 16) + j))) ((List.range (2048 / etBits et / 16)).map (fun j => s.ve x b (etBits et) (j * 16 + k % 16))))).1 % 2 ^ 32) ∧
        FlagsOr s t x ((List.range 256).map (fun k => mmaElem (s.ctx x) et a b d (k / 16) (k % 16))) ∧
        TileRetires s t x d)) ∧
    (∀ (et pred vfn b a d : Nat), et ≤ 4 → vfn ≤ 4 → d ≤ 3 →
      s.sr x a + 16 * (1 + 4 * (mxOf et).1.width) ≤ s.benchSize x →
      s.sr x a + 16 * (1 + 4 * (mxOf et).1.width) ≤ 2 ^ 19 →
      s.sr x b + 16 * (1 + 4 * (mxOf vfn).1.width) ≤ s.benchSize x →
      s.sr x b + 16 * (1 + 4 * (mxOf vfn).1.width) ≤ 2 ^ 19 → NoErr s x →
      Runs (.mmx x et pred vfn b a d) s (fun t =>
        (∀ k ∈ List.range 256, (t.ctx x).tile d k = (dotSum 0 (fFP32.dec ((s.ctx x).tile d k)) ((mxVals (mxOf et).1 (s.benchGet x (s.sr x a + k / 16 * (1 + 4 * (mxOf et).1.width)) (1 + 4 * (mxOf et).1.width))).zip (mxVals (mxOf vfn).1 (s.benchGet x (s.sr x b + k % 16 * (1 + 4 * (mxOf vfn).1.width)) (1 + 4 * (mxOf vfn).1.width))))).1 % 2 ^ 32) ∧
        FlagsOr s t x ((List.range 256).map (fun k => fFP32.sig [(s.ctx x).tile d k] (dotSum 0 (fFP32.dec ((s.ctx x).tile d k)) ((mxVals (mxOf et).1 (s.benchGet x (s.sr x a + k / 16 * (1 + 4 * (mxOf et).1.width)) (1 + 4 * (mxOf et).1.width))).zip (mxVals (mxOf vfn).1 (s.benchGet x (s.sr x b + k % 16 * (1 + 4 * (mxOf vfn).1.width)) (1 + 4 * (mxOf vfn).1.width))))))) ∧
        TileRetires s t x d)) ∧
    (∀ (et pred vfn b a d : Nat), d ≤ 3 →
      Runs (.mzero x et pred vfn b a d) s (fun t => (∀ k ∈ List.range 256, (t.ctx x).tile d k = 0) ∧
        FlagsOr s t x [] ∧ TileRetires s t x d)) ∧
    (∀ (et b a d : Nat), 5 ≤ et → et < 8 → d ≤ 3 →
      (∀ r ∈ List.range 16, s.rowAt x a b r + 16 * ((s.fm x et).width / 8) ≤ s.benchSize x ∧ s.rowAt x a b r + 16 * ((s.fm x et).width / 8) ≤ 2 ^ 19 ∧ s.rowAt x a b r % ((s.fm x et).width / 8) = 0) →
      (∀ (pred : Nat), NoErr s x →
        Runs (.mld x et pred 0 b a d) s (fun t =>
          TileMap s t x d (fun k => (if et = 7 then (leNat (s.benchGet x (s.rowAt x a b (k / 16) + ((s.fm x et).width / 8) * (k % 16)) ((s.fm x et).width / 8)), 0) else (s.fm x et).sig [leNat (s.benchGet x (s.rowAt x a b (k / 16) + ((s.fm x et).width / 8) * (k % 16)) ((s.fm x et).width / 8))] ((fFP32.enc 0 0 ((s.fm x et).dec (leNat (s.benchGet x (s.rowAt x a b (k / 16) + ((s.fm x et).width / 8) * (k % 16)) ((s.fm x et).width / 8))))).1, 0))))) ∧
      (∀ (pred vfn : Nat),
        Runs (.mst x et pred vfn b a d) s (fun t =>
          (∀ r ∈ List.range 16, (∀ q ∈ List.range 16, r < q → Apart (s.rowAt x a b r) (16 * ((s.fm x et).width / 8)) (s.rowAt x a b q) (16 * ((s.fm x et).width / 8))) → ∀ c ∈ List.range 16, leNat (t.benchGet x (s.rowAt x a b r + c * ((s.fm x et).width / 8)) ((s.fm x et).width / 8)) = (rowElem (s.fm x et) ((s.ctx x).tile d (16 * r + c))).1 % 2 ^ (s.fm x et).width) ∧
          FlagsOr s t x ((List.range 256).map (fun k => (rowElem (s.fm x et) ((s.ctx x).tile d k)))) ∧
          Retires s t x ({ s.ctx x with bench := (t.ctx x).bench, flags := (t.ctx x).flags }) ∧
          (∀ o : Nat, (∀ r < 16, Apart o 1 (s.rowAt x a b r) (16 * ((s.fm x et).width / 8))) → t.benchGet x o 1 = s.benchGet x o 1)))) ∧
    (∀ (et pred vfn b a d : Nat), (et = 7 ∧ vfn ≤ 3) ∨ ((et = 5 ∨ et = 6) ∧ vfn ≤ 1) → a ≤ 3 →
      Runs (.mtov x et pred vfn b a d) s (fun t =>
        VecAll s t x d (s.fm x et).width (fun i => (rowElem (s.fm x et) ((s.ctx x).tile a (lanes (s.fm x et).width * vfn + i)))))) ∧
    (∀ (pred vfn b a d : Nat), s.sr x a + 1024 ≤ s.benchSize x → s.sr x a + 1024 ≤ 2 ^ 19 → s.sr x a % 8 = 0 →
      s.sr x b + 1024 ≤ s.benchSize x → s.sr x b + 1024 ≤ 2 ^ 19 → s.sr x b % 8 = 0 →
      s.sr x d + 2048 ≤ s.benchSize x → s.sr x d + 2048 ≤ 2 ^ 19 → s.sr x d % 8 = 0 → NoErr s x →
      Runs (.mma x 3 pred vfn b a d) s (fun t =>
        (∀ k ∈ List.range 256, field (t.benchGet x (s.sr x d) 2048) (8 * k) 8 = (mma64 (s.benchGet x (s.sr x a) 1024) (s.benchGet x (s.sr x b) 1024) (s.benchGet x (s.sr x d) 2048) (k / 16) (k % 16)).1 % 2 ^ 64) ∧
        FlagsOr s t x ((List.range 256).map (fun k => mma64 (s.benchGet x (s.sr x a) 1024) (s.benchGet x (s.sr x b) 1024) (s.benchGet x (s.sr x d) 2048) (k / 16) (k % 16))) ∧
        BenchRetires s t x (s.sr x d) 2048)) ∧
    (∀ (et pred b a d : Nat), et ≤ 4 → d ≤ 3 → s.ab x a b + 8 * (1 + 4 * (mxOf et).1.width) ≤ s.benchSize x →
      s.ab x a b + 8 * (1 + 4 * (mxOf et).1.width) ≤ 2 ^ 19 → NoErr s x →
      Runs (.mld x et pred 1 b a d) s (fun t =>
        TileMap s t x d (fun k => fFP32.enc 0 0 (((List.range 8).flatMap (fun q => mxVals (mxOf et).1 (s.benchGet x (s.ab x a b + q * (1 + 4 * (mxOf et).1.width)) (1 + 4 * (mxOf et).1.width)))).getD k .nan))))) ∧
  (∀ (x : Nat) (it : Item) (im : Image) (dst sr flow fsn : Nat) (pin : Bool),
    Ready s x it im → CalledBy s it x dst sr flow fsn pin →
    (∀ (et pred vfn b a d : Nat), et = 1 ∨ et = 2 ∨ (et ≠ 3 ∧ 3 < d) →
      Runs (.mma x et pred vfn b a d) s (fun t => Traps s t x it dst sr flow fsn pin 0x42 1 0 stUnsup)) ∧
    (∀ (et pred vfn b a d : Nat), 4 < et ∨ 4 < vfn ∨ 3 < d →
      Runs (.mmx x et pred vfn b a d) s (fun t => Traps s t x it dst sr flow fsn pin 0x43 1 0 stUnsup)) ∧
    (∀ (et pred vfn b a d : Nat), et ≤ 4 → vfn ≤ 4 → d ≤ 3 → s.sr x a < 2 ^ 60 →
      s.benchSize x < s.sr x a + 16 * (1 + 4 * (mxOf et).1.width) →
      s.sr x b + 16 * (1 + 4 * (mxOf vfn).1.width) ≤ s.benchSize x →
      s.sr x b + 16 * (1 + 4 * (mxOf vfn).1.width) ≤ 2 ^ 19 →
      Runs (.mmx x et pred vfn b a d) s (fun t => Traps s t x it dst sr flow fsn pin 0x43 3 (s.sr x a) stUnsup)) ∧
    (∀ (et pred vfn b a d : Nat), 3 < d →
      Runs (.mzero x et pred vfn b a d) s (fun t => Traps s t x it dst sr flow fsn pin 0x44 1 0 stUnsup)) ∧
    (∀ (et pred vfn b a d : Nat), 1 < vfn ∨ 3 < d ∨ (vfn = 0 ∧ et < 5) ∨ (vfn = 1 ∧ 4 < et) →
      Runs (.mld x et pred vfn b a d) s (fun t => Traps s t x it dst sr flow fsn pin 0x40 1 0 stUnsup)) ∧
    (∀ (et pred vfn b a d : Nat), et < 5 ∨ 3 < d →
      Runs (.mst x et pred vfn b a d) s (fun t => Traps s t x it dst sr flow fsn pin 0x41 1 0 stUnsup)) ∧
    (∀ (et pred vfn b a d : Nat), et < 5 ∨ 3 < a ∨ (et = 7 ∧ 3 < vfn) ∨ (et ≠ 7 ∧ 1 < vfn) →
      Runs (.mtov x et pred vfn b a d) s (fun t => Traps s t x it dst sr flow fsn pin 0x45 1 0 stUnsup)))

/-- R303 to R306, R312, R315, R339, R342, R343, R346, R347. The address and its checks are computed by the
functions that the meaning uses. Completes, with the next state of its own effect: ld, ldi, st, sti, latm,
vld, vgth, vst, vsct, vmxcvt. -/
def Obligations.ProgramMemory : Prop :=
  ∀ s : State,
  (∀ (x : Nat) (it : Item) (im : Image),
    Ready s x it im →
    (∀ (et fn : Nat), et ≤ 3 → fn ≤ 1 → NoFar s x →
      (∀ (b a d o : Nat), s.chkRd x it im (s.ab x a b) (etBytes et) (etBytes et) = .ok (.bench o) → NoErr s x →
        Runs (.ld x et fn b a d) s (fun t =>
          Retires s t x ((s.ctx x).setS d (if fn = 0 then (BitVec.ofNat (etBits et) (leNat (s.benchGet x o (etBytes et)))).signExtend 64 else (BitVec.ofNat (etBits et) (leNat (s.benchGet x o (etBytes et)))).setWidth 64)))) ∧
      (∀ (b a d p : Nat), s.chkRd x it im (s.ab x a b) (etBytes et) (etBytes et) = .ok (.hbm p) → NoErr s x →
        Runs (.ld x et fn b a d) s (fun t =>
          GoesTo s t x ((s.ctx x).setS d (if fn = 0 then (BitVec.ofNat (etBits et) (leNat (s.memGet p (etBytes et)))).signExtend 64 else (BitVec.ofNat (etBits et) (leNat (s.memGet p (etBytes et)))).setWidth 64)) (s.nextPc x) ∧
          t.mem = s.mem ∧ t.shed.items = s.shed.items ∧ t.seq = s.seq ∧ t.flows = s.flows)) ∧
      (∀ (b a d n layer token byte : Nat),
        s.chkRd x it im (s.ab x a b) (etBytes et) (etBytes et) = .ok (.seq n layer token byte) → n < 32 →
        s.slotState n = 1 → layer < s.sl n 3 31 16 → byte + etBytes et ≤ s.bpt n → token < s.layerLen n layer →
        PageHere s n layer token → NoErr s x →
        Runs (.ld x et fn b a d) s (fun t =>
          GoesTo s t x ((s.ctx x).setS d (if fn = 0 then (BitVec.ofNat (etBits et) (leNat (s.memGet (s.placeOf n layer token + byte) (etBytes et)))).signExtend 64 else (BitVec.ofNat (etBits et) (leNat (s.memGet (s.placeOf n layer token + byte) (etBytes et)))).setWidth 64)) (s.nextPc x) ∧
          t.mem = s.mem))) ∧
    (∀ (imm : Int), -16384 ≤ imm → imm < 16384 →
      (∀ (a d o : Nat), NoFar s x → s.chkRd x it im ((s.sr x a + immNat imm) % 2 ^ 64) 8 8 = .ok (.bench o) →
        NoErr s x →
        Runs (.ldi x imm a d) s (fun t =>
          Retires s t x ((s.ctx x).setS d (BitVec.ofNat 64 (leNat (s.benchGet x o 8)))))) ∧
      (∀ (a d o : Nat), s.chkWr x it im ((s.sr x a + immNat imm) % 2 ^ 64) 8 8 = .ok (.bench o) →
        Runs (.sti x imm a d) s (fun t => t.benchGet x o 8 = leBytes 8 (s.sr x d) ∧ BenchRetires s t x o 8 ∧
          (t.ctx x).flags = (s.ctx x).flags)) ∧
      (∀ (a d p : Nat), NoFar s x → s.chkRd x it im ((s.sr x a + immNat imm) % 2 ^ 64) 8 8 = .ok (.hbm p) →
        NoErr s x →
        Runs (.ldi x imm a d) s (fun t =>
          GoesTo s t x ((s.ctx x).setS d (BitVec.ofNat 64 (leNat (s.memGet p 8)))) (s.nextPc x) ∧ t.mem = s.mem ∧
          t.shed.items = s.shed.items ∧ t.seq = s.seq ∧ t.flows = s.flows)) ∧
      (∀ (a d p : Nat), s.chkWr x it im ((s.sr x a + immNat imm) % 2 ^ 64) 8 8 = .ok (.hbm p) →
        Runs (.sti x imm a d) s (fun t => t.memGet p 8 = leBytes 8 (s.sr x d) ∧ MemSameBut s t p 8 ∧
          GoesTo s t x (s.ctx x) (s.nextPc x) ∧ t.shed.items = s.shed.items ∧ t.seq = s.seq ∧ t.flows = s.flows))) ∧
    (∀ (et fn b a d o : Nat), et ≤ 3 → s.chkWr x it im (s.ab x a b) (etBytes et) (etBytes et) = .ok (.bench o) →
      Runs (.st x et fn b a d) s (fun t => t.benchGet x o (etBytes et) = leBytes (etBytes et) (s.sr x d) ∧
        BenchRetires s t x o (etBytes et) ∧ (t.ctx x).flags = (s.ctx x).flags)) ∧
    (∀ (et fn b a d o : Nat), et = 2 ∨ et = 3 → fn ≤ 9 →
      s.chkWr x it im (s.sr x a) (etBytes et) (etBytes et) = .ok (.bench o) → NoErr s x →
      Runs (.latm x et fn b a d) s (fun t =>
        t.benchGet x o (etBytes et) = leBytes (etBytes et) (aop fn (etBits et) (leNat (s.benchGet x o (etBytes et))) (s.sr x b % 2 ^ etBits et) (s.sr x d % 2 ^ etBits et)) ∧
        Retires s t x ({ (s.ctx x).setS d (BitVec.ofNat 64 (leNat (s.benchGet x o (etBytes et)))) with bench := (t.ctx x).bench }) ∧
        (∀ i, i < o ∨ o + etBytes et ≤ i → t.benchGet x i 1 = s.benchGet x i 1))) ∧
    (∀ (et : Nat), et < 8 →
      (∀ (pred vfn b a d : Nat), vfn ≤ 2 → NoFar s x →
        (∀ e ∈ (s.strided x et pred vfn a b), s.chkRd x it im (e.2) (etBytes et) (etBytes et) = .ok (.bench e.2)) →
        NoErr s x →
        Runs (.vld x et pred vfn b a d) s (fun t =>
          (∀ e ∈ (s.strided x et pred vfn a b), velem ((t.ctx x).vreg d) (etBits et) e.1 = leNat (s.benchGet x e.2 (etBytes et))) ∧
          (∀ i ∈ List.range (lanes (etBits et)), (s.strided x et pred vfn a b).all (fun e => decide (e.1 ≠ i)) = true → velem ((t.ctx x).vreg d) (etBits et) i = velem ((s.ctx x).vreg d) (etBits et) i) ∧
          VecRetires s t x d ∧ (t.ctx x).flags = (s.ctx x).flags)) ∧
      (∀ (vfn : Nat), vfn < 8 → 64 * (vfn % 4) < lanes (etBits et) →
        (∀ (pred b a d : Nat), NoFar s x →
          (∀ e ∈ (s.indexed x et pred vfn b a), s.chkRd x it im (e.2) (etBytes et) (etBytes et) = .ok (.bench e.2)) →
          NoErr s x →
          Runs (.vgth x et pred vfn b a d) s (fun t =>
            (∀ e ∈ (s.indexed x et pred vfn b a), velem ((t.ctx x).vreg d) (etBits et) e.1 = leNat (s.benchGet x e.2 (etBytes et))) ∧
            (∀ i ∈ List.range (lanes (etBits et)), (s.indexed x et pred vfn b a).all (fun e => decide (e.1 ≠ i)) = true → velem ((t.ctx x).vreg d) (etBits et) i = velem ((s.ctx x).vreg d) (etBits et) i) ∧
            VecRetires s t x d ∧ (t.ctx x).flags = (s.ctx x).flags)) ∧
        (∀ (pred b a d : Nat),
          (∀ e ∈ (s.indexed x et pred vfn b a), s.chkWr x it im (e.2) (etBytes et) (etBytes et) = .ok (.bench e.2)) →
          Runs (.vsct x et pred vfn b a d) s (fun t =>
            (∀ e ∈ (s.indexed x et pred vfn b a), (∀ g ∈ (s.indexed x et pred vfn b a), e.1 < g.1 → Apart (e.2) (etBytes et) (g.2) (etBytes et)) → t.benchGet x e.2 (etBytes et) = leBytes (etBytes et) (s.ve x d (etBits et) e.1)) ∧
            Retires s t x ({ s.ctx x with bench := (t.ctx x).bench }) ∧
            (∀ o : Nat, (∀ e ∈ (s.indexed x et pred vfn b a), Apart o 1 e.2 (etBytes et)) → t.benchGet x o 1 = s.benchGet x o 1))) ∧
        (∀ (pred b a d : Nat), NoFar s x →
          (∀ e ∈ (s.indexed x et pred vfn b a), s.chkRd x it im (e.2) (etBytes et) (etBytes et) = .ok (.hbm (e.2 % 2 ^ 39))) →
          NoErr s x →
          Runs (.vgth x et pred vfn b a d) s (fun t =>
            (∀ e ∈ (s.indexed x et pred vfn b a), velem ((t.ctx x).vreg d) (etBits et) e.1 = leNat (s.memGet (e.2 % 2 ^ 39) (etBytes et))) ∧
            (∀ i ∈ List.range (lanes (etBits et)), (s.indexed x et pred vfn b a).all (fun e => decide (e.1 ≠ i)) = true → velem ((t.ctx x).vreg d) (etBits et) i = velem ((s.ctx x).vreg d) (etBits et) i) ∧
            GoesTo s t x ({ s.ctx x with v := (t.ctx x).v }) (s.nextPc x) ∧
            (∀ r, r ≠ d → (t.ctx x).vreg r = (s.ctx x).vreg r) ∧ t.mem = s.mem)) ∧
        (∀ (pred b a d : Nat),
          (∀ e ∈ (s.indexed x et pred vfn b a), s.chkWr x it im (e.2) (etBytes et) (etBytes et) = .ok (.hbm (e.2 % 2 ^ 39))) →
          Runs (.vsct x et pred vfn b a d) s (fun t =>
            (∀ e ∈ (s.indexed x et pred vfn b a), (∀ g ∈ (s.indexed x et pred vfn b a), e.1 < g.1 → Apart (e.2 % 2 ^ 39) (etBytes et) (g.2 % 2 ^ 39) (etBytes et)) → t.memGet (e.2 % 2 ^ 39) (etBytes et) = leBytes (etBytes et) (s.ve x d (etBits et) e.1)) ∧
            GoesTo s t x (s.ctx x) (s.nextPc x) ∧
            (∀ o : Nat, (∀ e ∈ (s.indexed x et pred vfn b a), Apart o 1 (e.2 % 2 ^ 39) (etBytes et)) → t.memByte o = s.memByte o)))) ∧
      (∀ (pred vfn b a d : Nat), vfn ≤ 1 →
        (∀ e ∈ (s.strided x et pred vfn a b), s.chkWr x it im (e.2) (etBytes et) (etBytes et) = .ok (.bench e.2)) →
        Runs (.vst x et pred vfn b a d) s (fun t =>
          (∀ e ∈ (s.strided x et pred vfn a b), (∀ g ∈ (s.strided x et pred vfn a b), e.1 < g.1 → Apart (e.2) (etBytes et) (g.2) (etBytes et)) → t.benchGet x e.2 (etBytes et) = leBytes (etBytes et) (s.ve x d (etBits et) e.1)) ∧
          Retires s t x ({ s.ctx x with bench := (t.ctx x).bench }) ∧
          (∀ o : Nat, (∀ e ∈ (s.strided x et pred vfn a b), Apart o 1 e.2 (etBytes et)) → t.benchGet x o 1 = s.benchGet x o 1))) ∧
      (∀ (pred vfn b a d : Nat), vfn ≤ 2 → NoFar s x →
        (∀ e ∈ (s.strided x et pred vfn a b), s.chkRd x it im (e.2) (etBytes et) (etBytes et) = .ok (.hbm (e.2 % 2 ^ 39))) →
        NoErr s x →
        Runs (.vld x et pred vfn b a d) s (fun t =>
          (∀ e ∈ (s.strided x et pred vfn a b), velem ((t.ctx x).vreg d) (etBits et) e.1 = leNat (s.memGet (e.2 % 2 ^ 39) (etBytes et))) ∧
          (∀ i ∈ List.range (lanes (etBits et)), (s.strided x et pred vfn a b).all (fun e => decide (e.1 ≠ i)) = true → velem ((t.ctx x).vreg d) (etBits et) i = velem ((s.ctx x).vreg d) (etBits et) i) ∧
          GoesTo s t x ({ s.ctx x with v := (t.ctx x).v }) (s.nextPc x) ∧
          (∀ r, r ≠ d → (t.ctx x).vreg r = (s.ctx x).vreg r) ∧ t.mem = s.mem)) ∧
      (∀ (pred vfn b a d : Nat), vfn ≤ 1 →
        (∀ e ∈ (s.strided x et pred vfn a b), s.chkWr x it im (e.2) (etBytes et) (etBytes et) = .ok (.hbm (e.2 % 2 ^ 39))) →
        Runs (.vst x et pred vfn b a d) s (fun t =>
          (∀ e ∈ (s.strided x et pred vfn a b), (∀ g ∈ (s.strided x et pred vfn a b), e.1 < g.1 → Apart (e.2 % 2 ^ 39) (etBytes et) (g.2 % 2 ^ 39) (etBytes et)) → t.memGet (e.2 % 2 ^ 39) (etBytes et) = leBytes (etBytes et) (s.ve x d (etBits et) e.1)) ∧
          GoesTo s t x (s.ctx x) (s.nextPc x) ∧
          (∀ o : Nat, (∀ e ∈ (s.strided x et pred vfn a b), Apart o 1 (e.2 % 2 ^ 39) (etBytes et)) → t.memByte o = s.memByte o)))) ∧
    (∀ (et pred vfn b a d : Nat), 4 ≤ et → et < 8 → vfn / 2 ≤ 4 → NoFar s x → vfn % 2 = 0 →
      s.check x it im ⟨false, false, false⟩ (s.ab x a b) ((lanes (s.fm x et).width / 32) * (1 + 4 * (mxOf (vfn / 2)).1.width)) 1 = .ok (.bench (s.ab x a b)) →
      NoErr s x →
      Runs (.vmxcvt x et pred vfn b a d) s (fun t =>
        VecAll s t x d (s.fm x et).width (fun i => (s.fm x et).enc (s.ctx x).rmode ((s.ctx x).how (s.fm x et)) ((mxVals (mxOf (vfn / 2)).1 (s.benchGet x (s.ab x a b + i / 32 * (1 + 4 * (mxOf (vfn / 2)).1.width)) (1 + 4 * (mxOf (vfn / 2)).1.width))).getD (i % 32) .nan)))) ∧
    (∀ (et fn b a d p : Nat), et ≤ 3 → s.chkWr x it im (s.ab x a b) (etBytes et) (etBytes et) = .ok (.hbm p) →
      Runs (.st x et fn b a d) s (fun t => t.memGet p (etBytes et) = leBytes (etBytes et) (s.sr x d) ∧
        MemSameBut s t p (etBytes et) ∧ GoesTo s t x (s.ctx x) (s.nextPc x) ∧
        t.shed.items = s.shed.items ∧ t.seq = s.seq ∧ t.flows = s.flows)) ∧
    (∀ (et fn b a d p : Nat), et = 2 ∨ et = 3 → fn ≤ 9 →
      s.chkWr x it im (s.sr x a) (etBytes et) (etBytes et) = .ok (.hbm p) → NoErr s x →
      Runs (.latm x et fn b a d) s (fun t =>
        t.memGet p (etBytes et) = leBytes (etBytes et) (aop fn (etBits et) (leNat (s.memGet p (etBytes et))) (s.sr x b % 2 ^ etBits et) (s.sr x d % 2 ^ etBits et)) ∧
        MemSameBut s t p (etBytes et) ∧
        GoesTo s t x ((s.ctx x).setS d (BitVec.ofNat 64 (leNat (s.memGet p (etBytes et))))) (s.nextPc x))) ∧
    (∀ (et pred vfn b a d : Nat), 4 ≤ et → et < 8 → vfn / 2 ≤ 4 → vfn % 2 = 1 →
      s.chkBench x it im (s.ab x a b) ((lanes (s.fm x et).width / 32) * (1 + 4 * (mxOf (vfn / 2)).1.width)) 1 = .ok (.bench (s.ab x a b)) →
      NoErr s x →
      Runs (.vmxcvt x et pred vfn b a d) s (fun t =>
        t.benchGet x (s.ab x a b) ((lanes (s.fm x et).width / 32) * (1 + 4 * (mxOf (vfn / 2)).1.width)) = ((blocksOf (lanes (s.fm x et).width / 32) ((velems ((s.ctx x).vreg d) (s.fm x et).width).map (s.fm x et).dec)).flatMap (fun k => (outBlock (mxOf (vfn / 2)).1 (mxOf (vfn / 2)).2 k).1)) ∧
        BenchRetires s t x (s.ab x a b) ((lanes (s.fm x et).width / 32) * (1 + 4 * (mxOf (vfn / 2)).1.width))))) ∧
  (∀ (x : Nat) (it : Item) (im : Image) (dst sr flow fsn : Nat) (pin : Bool),
    Ready s x it im → CalledBy s it x dst sr flow fsn pin →
    (∀ (et fn b a d k st : Nat), et ≤ 3 → fn ≤ 1 →
      s.chkRd x it im (s.ab x a b) (etBytes et) (etBytes et) = .no k st →
      Runs (.ld x et fn b a d) s (fun t => Traps s t x it dst sr flow fsn pin 0x50 k (s.ab x a b) st ∧
        t.mem = s.mem)) ∧
    (∀ (imm : Int) (a d k st : Nat), -16384 ≤ imm → imm < 16384 →
      s.chkRd x it im ((s.sr x a + immNat imm) % 2 ^ 64) 8 8 = .no k st →
      Runs (.ldi x imm a d) s (fun t =>
        Traps s t x it dst sr flow fsn pin 0x52 k ((s.sr x a + immNat imm) % 2 ^ 64) st ∧ t.mem = s.mem)) ∧
    (∀ (et fn b a d k st : Nat), et ≤ 3 → s.chkWr x it im (s.ab x a b) (etBytes et) (etBytes et) = .no k st →
      Runs (.st x et fn b a d) s (fun t => Traps s t x it dst sr flow fsn pin 0x51 k (s.ab x a b) st ∧
        t.mem = s.mem)) ∧
    (∀ (imm : Int) (a d k st : Nat), -16384 ≤ imm → imm < 16384 →
      s.chkWr x it im ((s.sr x a + immNat imm) % 2 ^ 64) 8 8 = .no k st →
      Runs (.sti x imm a d) s (fun t =>
        Traps s t x it dst sr flow fsn pin 0x53 k ((s.sr x a + immNat imm) % 2 ^ 64) st ∧ t.mem = s.mem)) ∧
    (∀ (et fn b a d : Nat), et ≤ 3 → (s.ab x a b) / 2 ^ 60 = 2 →
      Runs (.st x et fn b a d) s (fun t => Traps s t x it dst sr flow fsn pin 0x51 2 (s.ab x a b) stUnsup ∧
        t.mem = s.mem)) ∧
    (∀ (et fn b a d o : Nat), et ≤ 3 → fn ≤ 1 → NoFar s x →
      s.chkRd x it im (s.ab x a b) (etBytes et) (etBytes et) = .ok (.bench o) →
      (∃ e ∈ (s.ctx x).benchBad, o ≤ e ∧ e < o + etBytes et) →
      Runs (.ld x et fn b a d) s (fun t => Traps s t x it dst sr flow fsn pin 0x50 0x0A 0 stPathLost ∧
        t.mem = s.mem)) ∧
    (∀ (et fn b a d : Nat), (et ≠ 2 ∧ et ≠ 3) ∨ 9 < fn →
      Runs (.latm x et fn b a d) s (fun t => Traps s t x it dst sr flow fsn pin 0x5A 1 0 stUnsup)) ∧
    (∀ (et pred vfn b a d i ad k st : Nat), et < 8 → vfn ≤ 2 → (s.strided x et pred vfn a b).head? = some (i, ad) →
      s.chkRd x it im (ad) (etBytes et) (etBytes et) = .no k st →
      Runs (.vld x et pred vfn b a d) s (fun t => Traps s t x it dst sr flow fsn pin 0x54 k ad st ∧
        t.mem = s.mem)) ∧
    (∀ (et pred vfn b a i ad : Nat), et < 8 → vfn < 8 → 64 * (vfn % 4) < lanes (etBits et) →
      (s.indexed x et pred vfn b a).head? = some (i, ad) →
      (∀ (d k st : Nat), s.chkRd x it im (ad) (etBytes et) (etBytes et) = .no k st →
        Runs (.vgth x et pred vfn b a d) s (fun t => Traps s t x it dst sr flow fsn pin 0x56 k ad st ∧
          t.mem = s.mem)) ∧
      (∀ (d k st : Nat), s.chkWr x it im (ad) (etBytes et) (etBytes et) = .no k st →
        Runs (.vsct x et pred vfn b a d) s (fun t => Traps s t x it dst sr flow fsn pin 0x57 k ad st ∧
          t.mem = s.mem))) ∧
    (∀ (et pred vfn b a d i ad k st : Nat), et < 8 → vfn ≤ 1 → (s.strided x et pred vfn a b).head? = some (i, ad) →
      s.chkWr x it im (ad) (etBytes et) (etBytes et) = .no k st →
      Runs (.vst x et pred vfn b a d) s (fun t => Traps s t x it dst sr flow fsn pin 0x55 k ad st ∧
        t.mem = s.mem)) ∧
    (∀ (et pred vfn b a d : Nat), et < 4 ∨ 4 < vfn / 2 →
      Runs (.vmxcvt x et pred vfn b a d) s (fun t => Traps s t x it dst sr flow fsn pin 0x28 1 0 stUnsup)))

/-- R344, R345, R371 to R373, with R244, R245, R305, R315 and R318. Which buffer a draw takes is left open.
Completes, with the next state of its own effect: mcpyIssue, mcpyWait, mcpyWaitall, asyncCopyDone, hndDraw,
hndFree, hndHget, hndHput, sapp, sappPerformed, sgath, smapAddr, smapPte, smapLen, srel. -/
def Obligations.CopiesHandlesAndSequences : Prop :=
  ∀ s : State,
  (∀ (x : Nat) (it : Item) (k : Nat) (c : Copy), s.ctxItem x = some it →
    (s.ctx x).copies.find? (fun c => decide (c.k = k)) = some c → c.kind = 0 → c.fin = false → c.status = stOk →
    k ≠ farK →
    (∀ (p o n : Nat), c.moves = [⟨.hbm p, .bench o, n, 0⟩] → NoErr s x →
      Runs (.asyncCopyDone x k) s (fun t => t.benchGet x o n = s.memGet p n ∧ t.mem = s.mem ∧
        ((t.ctx x).copies.find? (fun c => decide (c.k = k))).map (·.fin) = some true ∧ t.shed.items = s.shed.items)) ∧
    (∀ (p o n : Nat), c.moves = [⟨.bench o, .hbm p, n, 0⟩] → NoErr s x →
      Runs (.asyncCopyDone x k) s (fun t => t.memGet p n = s.benchGet x o n ∧ MemSameBut s t p n ∧
        ((t.ctx x).copies.find? (fun c => decide (c.k = k))).map (·.fin) = some true ∧ t.shed.items = s.shed.items)) ∧
    (∀ (a o n : Nat), c.moves = [⟨.hbm a, .bench o, n, 0⟩] → (∃ e ∈ s.pwr.hbmBad, a ≤ e ∧ e < a + n) →
      Runs (.asyncCopyDone x k) s (fun t =>
        ((t.ctx x).copies.find? (fun c => decide (c.k = k))).map (fun c => (c.fin, c.status)) = some (true, stPathLost) ∧
        (t.ctx x).bench = (s.ctx x).bench ∧ t.mem = s.mem))) ∧
  (∀ (x : Nat) (it : Item) (k : Nat) (c : Copy), s.ctxItem x = some it →
    (s.ctx x).copies.find? (fun c => decide (c.kind = 1) && !c.fin) = some c →
    (s.ctx x).copies.find? (fun c => decide (c.k = k)) = some c → c.k = k → c.status = stOk →
    movesDone c.moves = true → s.slotWaits c.slot = false → c.slot < 32 → c.layer < 4096 → c.token + c.n < 2 ^ 22 →
    Runs (.sappPerformed x k) s (fun t =>
      t.layerLen c.slot c.layer = max (s.layerLen c.slot c.layer) (c.token + c.n) ∧
      ((t.ctx x).copies.find? (fun c => decide (c.k = k))).map (·.fin) = some true ∧ t.mem = s.mem)) ∧
  (∀ (x : Nat) (it : Item) (im : Image),
    Ready s x it im →
    (∀ (tag : Nat), tag < 16 →
      (∀ (et b a d : Nat) (p q : Place), (s.ctx x).copiesFull = false → s.sr x b ≤ 524288 →
        mcpyPair (s.sr x a / 2 ^ 60) (s.sr x d / 2 ^ 60) = true → s.sr x a / 2 ^ 60 ≠ 2 →
        s.chkRd x it im (s.sr x a) (s.sr x b) 1 = .ok p → s.chkWr x it im (s.sr x d) (s.sr x b) 1 = .ok q →
        NoErr s x →
        Runs (.mcpyIssue x et tag b a d) s (fun t =>
          Retires s t x ({ s.ctx x with copies := (s.ctx x).copies ++ [{ k := (s.ctx x).nextK, tag := tag, kind := 0, moves := movePieces (s.sr x b / 4096 + 1) p.loc q.loc (s.sr x b), slot := 0, layer := 0, token := 0, n := 0, status := stOk, fin := false }], nextK := (s.ctx x).nextK + 1 }))) ∧
      (∀ (et b a d : Nat), (∀ k ∈ (s.ctx x).progCopies, k.tag = tag → k.fin = true ∧ k.status = stOk) →
        Runs (.mcpyWait x et (32 + tag) b a d) s (fun t =>
          Retires s t x ({ s.ctx x with copies := (s.ctx x).copies.filter (fun k => decide (k.k = farK) || !decide (k.tag = tag)) }))) ∧
      (∀ (et b a d : Nat), (∀ k ∈ (s.ctx x).progCopies, True → k.fin = true ∧ k.status = stOk) →
        Runs (.mcpyWaitall x et (64 + tag) b a d) s (fun t =>
          Retires s t x ({ s.ctx x with copies := (s.ctx x).copies.filter (fun k => decide (k.k = farK) || !true) }))) ∧
      (∀ (et b a d : Nat) (p q : Place), (s.ctx x).copiesFull = true → s.sr x b ≤ 524288 →
        mcpyPair (s.sr x a / 2 ^ 60) (s.sr x d / 2 ^ 60) = true → s.chkRd x it im (s.sr x a) (s.sr x b) 1 = .ok p →
        s.chkWr x it im (s.sr x d) (s.sr x b) 1 = .ok q → NoErr s x →
        Runs (.mcpyIssue x et tag b a d) s (fun t => t = s.unready x)) ∧
      (∀ (et b a d : Nat) (k : Copy), k ∈ (s.ctx x).progCopies → k.tag = tag → k.fin = false → k.fin = false →
        Runs (.mcpyWait x et (32 + tag) b a d) s (fun t => t = s.unready x)) ∧
      (∀ (et b a d : Nat) (k : Copy), k ∈ (s.ctx x).progCopies → k.fin = false → k.fin = false →
        Runs (.mcpyWaitall x et (64 + tag) b a d) s (fun t => t = s.unready x))) ∧
    (∀ (et b a d : Nat), 1 ≤ s.sr x a → s.sr x a ≤ 65536 →
      s.imgFree (ctxCluster x) it.image (classFor (s.sr x a)) = true →
      s.poolTotal (ctxCluster x) (classFor (s.sr x a)) ≤ 2 ^ 17 → d ≠ 0 →
      Runs (.hndDraw x et 0 b a d) s (fun t =>
        (t.image it.image).map (fun m => m.handles.contains (t.sr x d)) = some true ∧
        (t.image it.image).map (fun m => tabGet (fun _ => []) m.bufs (t.sr x d)) = some [] ∧
        t.handleHolder (t.sr x d) = some (.image it.image) ∧
        GoesTo s t x ((s.ctx x).setS d (BitVec.ofNat 64 (t.sr x d))) (s.nextPc x) ∧ t.mem = s.mem)) ∧
    (∀ (a : Nat), im.handles.contains (s.sr x a) = true → s.handleHolder (s.sr x a) = some (.image it.image) →
      (∀ (et b d : Nat), s.sr x a < 2 ^ 23 → bits (s.sr x a) 19 17 ≤ 4 →
        bits (s.sr x a) 16 0 < s.poolTotal (bits (s.sr x a) 22 20) (bits (s.sr x a) 19 17) →
        Runs (.hndFree x et 1 b a d) s (fun t =>
          (t.pool (bits (s.sr x a) 22 20)).held.length + 1 = (s.pool (bits (s.sr x a) 22 20)).held.length ∧
          GoesTo s t x (s.ctx x) (s.nextPc x) ∧ t.mem = s.mem)) ∧
      (∀ (b d : Nat), bits (s.sr x a) 19 17 ≤ 4 → s.sr x b ≤ bufBytes (bits (s.sr x a) 19 17) →
        s.chkBench x it im (s.sr x d) (s.sr x b) 1 = .ok (.bench (s.sr x d)) →
        (∀ (et : Nat),
          Runs (.hndHget x et 2 b a d) s (fun t =>
            t.benchGet x (s.sr x d) (s.sr x b) = tabGetList memZero (tabGet (fun _ => []) im.bufs (s.sr x a)) 0 (s.sr x b) ∧
            BenchRetires s t x (s.sr x d) (s.sr x b))) ∧
        (∀ (et : Nat), NoErr s x →
          Runs (.hndHput x et 3 b a d) s (fun t =>
            (t.image it.image).map (fun m => tabGetList memZero (tabGet (fun _ => []) m.bufs (s.sr x a)) 0 (s.sr x b)) = some (s.benchGet x (s.sr x d) (s.sr x b)) ∧
            GoesTo s t x (s.ctx x) (s.nextPc x) ∧ t.mem = s.mem ∧ t.pools = s.pools)))) ∧
    (∀ (n A et fn b a d : Nat), fn < 16 → s.sr x a / 2 ^ 60 = 2 → seqByte (s.sr x a) = 0 →
      s.seqSlotOf it im (s.sr x a) = some n → s.slotMine it n = true → n < 32 → s.slotState n = 1 →
      seqLayer (s.sr x a) < s.sl n 3 31 16 → s.sr x d = 1 → s.bpt n ≤ 524288 →
      s.check x it im ⟨false, false, false⟩ (s.sr x b) (s.bpt n) 1 = .ok (.bench (s.sr x b)) →
      seqToken (s.sr x a) ≤ s.layerLen n (seqLayer (s.sr x a)) → (s.ctx x).copiesFull = false →
      seqToken (s.sr x a) < s.sl n 4 21 0 → s.sl n 0 28 28 = 0 →
      PageHere s n (seqLayer (s.sr x a)) (seqToken (s.sr x a)) →
      s.placeOf n (seqLayer (s.sr x a)) (seqToken (s.sr x a)) = A →
      Runs (.sapp x et fn b a d) s (fun t =>
        GoesTo s t x ({ s.ctx x with copies := (s.ctx x).copies ++ [{ k := (s.ctx x).nextK, tag := fn, kind := 1, moves := movePieces (s.bpt n / 4096 + 1) (.bench (s.sr x b)) (.hbm A) (s.bpt n), slot := n, layer := seqLayer (s.sr x a), token := seqToken (s.sr x a), n := 1, status := stOk, fin := false }], nextK := (s.ctx x).nextK + 1 }) (s.nextPc x) ∧
        t.mem = s.mem ∧ t.layerLen n (seqLayer (s.sr x a)) = s.layerLen n (seqLayer (s.sr x a)))) ∧
    (∀ (n A et fn b a d : Nat), fn < 16 → s.sr x a / 2 ^ 60 = 2 → s.seqSlotOf it im (s.sr x a) = some n →
      s.slotMine it n = true → n < 32 → s.slotState n = 1 → seqLayer (s.sr x a) < s.sl n 3 31 16 →
      s.sr x d % 65536 = 1 → bits (s.sr x d) 31 16 ≠ 0 → seqByte (s.sr x a) + bits (s.sr x d) 31 16 ≤ s.bpt n →
      s.chkBench x it im (s.sr x b) (bits (s.sr x d) 31 16) 1 = .ok (.bench (s.sr x b)) →
      (s.ctx x).copiesFull = false →
      (s.ctx x).appendPending n (seqLayer (s.sr x a)) (seqToken (s.sr x a)) 1 = false →
      seqToken (s.sr x a) < s.layerLen n (seqLayer (s.sr x a)) →
      PageHere s n (seqLayer (s.sr x a)) (seqToken (s.sr x a)) →
      s.placeOf n (seqLayer (s.sr x a)) (seqToken (s.sr x a)) = A → NoErr s x →
      Runs (.sgath x et fn b a d) s (fun t =>
        GoesTo s t x ({ s.ctx x with copies := (s.ctx x).copies ++ [{ k := (s.ctx x).nextK, tag := fn, kind := 2, moves := movePieces (bits (s.sr x d) 31 16 / 4096 + 1) (.hbm (A + seqByte (s.sr x a))) (.bench (s.sr x b)) (bits (s.sr x d) 31 16), slot := n, layer := seqLayer (s.sr x a), token := seqToken (s.sr x a), n := 1, status := stOk, fin := false }], nextK := (s.ctx x).nextK + 1 }) (s.nextPc x) ∧
        t.mem = s.mem)) ∧
    (∀ (n a : Nat), s.sr x a / 2 ^ 60 = 2 → s.imgService it.image = true → s.seqSlotOf it im (s.sr x a) = some n →
      s.slotMine it n = true →
      (∀ (A et b d : Nat), n < 32 → s.slotState n = 1 → seqLayer (s.sr x a) < s.sl n 3 31 16 →
        seqToken (s.sr x a) < s.layerLen n (seqLayer (s.sr x a)) → seqByte (s.sr x a) < s.bpt n →
        PageHere s n (seqLayer (s.sr x a)) (seqToken (s.sr x a)) →
        s.placeOf n (seqLayer (s.sr x a)) (seqToken (s.sr x a)) = A →
        Runs (.smapAddr x et 0 b a d) s (fun t =>
          GoesTo s t x ((s.ctx x).setS d (BitVec.ofNat 64 (hbmTag + (A + seqByte (s.sr x a))))) (s.nextPc x) ∧
          t.mem = s.mem)) ∧
      (∀ (et b d : Nat), s.slotState n = 1 →
        Runs (.smapPte x et 1 b a d) s (fun t =>
          Retires s t x ((s.ctx x).setS d (BitVec.ofNat 64 (s.pte n (s.pageOf n (seqLayer (s.sr x a)) (seqToken (s.sr x a))))))))) ∧
    (∀ (n a : Nat), s.sr x a / 2 ^ 60 = 2 → s.seqSlotOf it im (s.sr x a) = some n → s.slotMine it n = true →
      (∀ (et b d : Nat), s.slotState n = 1 →
        Runs (.smapLen x et 2 b a d) s (fun t =>
          Retires s t x ((s.ctx x).setS d (BitVec.ofNat 64 (s.layerLen n (seqLayer (s.sr x a))))))) ∧
      (∀ (et b d : Nat), n < 32 → s.slotState n = 1 → s.fallback = false → s.role ≠ 1 →
        Runs (.srel x et 0 b a d) s (fun t => t.slotState n = 2 ∧
          GoesTo s t x ((s.ctx x).setS d (BitVec.ofNat 64 (statusWord stOk 0))) (s.nextPc x) ∧
          t.mem = s.mem ∧ t.seq = s.seq)) ∧
      (∀ (et b d : Nat), s.slotState n ≠ 1 →
        Runs (.srel x et 0 b a d) s (fun t =>
          Retires s t x ((s.ctx x).setS d (BitVec.ofNat 64 (statusWord stState 0))))))) ∧
  (∀ (x : Nat) (it : Item) (im : Image) (dst sr flow fsn : Nat) (pin : Bool),
    Ready s x it im → CalledBy s it x dst sr flow fsn pin →
    (∀ (et b a d tag : Nat), tag < 16 → s.sr x a / 2 ^ 60 = 1 ∧ s.sr x d / 2 ^ 60 = 1 →
      Runs (.mcpyIssue x et tag b a d) s (fun t => Traps s t x it dst sr flow fsn pin 0x58 2 (s.sr x a) stUnsup)) ∧
    (∀ (et b a d : Nat), 1 ≤ s.sr x a → s.sr x a ≤ 65536 →
      s.imgFree (ctxCluster x) it.image (classFor (s.sr x a)) = false →
      Runs (.hndDraw x et 0 b a d) s (fun t => Traps s t x it dst sr flow fsn pin 0x59 8 (0) stFit)) ∧
    (∀ (et b a d : Nat), im.handles.contains (s.sr x a) = false →
      Runs (.hndFree x et 1 b a d) s (fun t => Traps s t x it dst sr flow fsn pin 0x59 6 (s.sr x a) stAuth)) ∧
    (∀ (b a d : Nat), s.handleHeld it im (s.sr x a) = false → s.sr x b ≤ 256 →
      s.chkBench x it im (s.sr x d) (s.sr x b) 1 = .ok (.bench (s.sr x d)) →
      (∀ (et : Nat),
        Runs (.hndHget x et 2 b a d) s (fun t => Traps s t x it dst sr flow fsn pin 0x59 6 (s.sr x a) stAuth)) ∧
      (∀ (et : Nat),
        Runs (.hndHput x et 3 b a d) s (fun t => Traps s t x it dst sr flow fsn pin 0x59 6 (s.sr x a) stAuth))) ∧
    (∀ (et fn b a d : Nat), fn < 16 → s.sr x a / 2 ^ 60 ≠ 2 →
      Runs (.sapp x et fn b a d) s (fun t => Traps s t x it dst sr flow fsn pin 0x70 2 (s.sr x a) stUnsup)) ∧
    (∀ (n et fn b a d : Nat), fn < 16 → s.sr x a / 2 ^ 60 = 2 → seqByte (s.sr x a) = 0 →
      s.seqSlotOf it im (s.sr x a) = some n → s.slotMine it n = true → n < 32 → s.slotState n = 1 →
      seqLayer (s.sr x a) < s.sl n 3 31 16 → s.sr x d = 1 → s.bpt n ≤ 524288 →
      s.check x it im ⟨false, false, false⟩ (s.sr x b) (s.bpt n) 1 = .ok (.bench (s.sr x b)) →
      s.layerLen n (seqLayer (s.sr x a)) < seqToken (s.sr x a) →
      Runs (.sapp x et fn b a d) s (fun t => Traps s t x it dst sr flow fsn pin 0x70 9 (s.sr x a) stSeqGap)) ∧
    (∀ (et fn b a d : Nat), fn < 16 → s.sr x a / 2 ^ 60 ≠ 2 →
      Runs (.sgath x et fn b a d) s (fun t => Traps s t x it dst sr flow fsn pin 0x72 2 (s.sr x a) stUnsup)) ∧
    (∀ (et b a d : Nat), s.sr x a / 2 ^ 60 = 2 → s.imgService it.image = false →
      Runs (.smapAddr x et 0 b a d) s (fun t => Traps s t x it dst sr flow fsn pin 0x71 5 (s.sr x a) stAuth)) ∧
    (∀ (n et b a d : Nat), s.sr x a / 2 ^ 60 = 2 → s.seqSlotOf it im (s.sr x a) = some n → s.slotMine it n = true →
      s.slotState n ≠ 1 →
      Runs (.smapLen x et 2 b a d) s (fun t => Traps s t x it dst sr flow fsn pin 0x71 9 (s.sr x a) stNoSlot)))

/-- R306, R353, R356 to R361, R363, R364, R378. Completes, with the next state of its own effect: fput, fget,
fatm, fcall, issueStallRelease, fopen, fwaitAll, fwaitUpto, fwaitPoll, fclose. -/
def Obligations.FabricInstructions : Prop :=
  ∀ s : State,
  (∀ (x : Nat) (it : Item) (im : Image) (w et fn b a d : Nat), s.fetchOk x im = true → s.ctxItem x = some it →
    s.image it.image = some im → (s.ctx x).wait = .stall 0x61 et fn b a d → s.turn x = true →
    (s.ctx x).pc + 4 < im.codeBytes → x < 1024 → fn ≤ 1 → s.sr x a / 2 ^ 60 = 3 → bits (s.sr x a) 43 39 = 0 →
    s.chkBench x it im (s.sr x b) (s.sr x d) 1 = .ok (.bench (s.sr x b)) → s.isSelf (fabEid (s.sr x a)) = false →
    s.winTo it.id (fabEid (s.sr x a)) = some w → (s.src w).state = .opened → (s.src w).failed = 0 → 1 ≤ s.sr x d →
    s.sr x d ≤ 4096 → (s.src w).allows (1 + 0) (rspOf 2 (s.sr x d)) = true →
    s.mayInject (ctxCluster x) false = true → s.selfEid ≠ 0xFFFF →
    Runs (.issueStallRelease x) s (fun t =>
      Sent t (ctxCluster x) (mkPkt (s.src w).dst s.selfEid 2 false (!(s.src w).spray) (decide (fn = 1)) (s.flowOf w) (s.src w).fsn (opM (fabAddr (s.sr x a)) (s.sr x d) 0 0 0 0) ([])) ∧
      (t.src w).fsn = ((s.src w).fsn + 1) % 2 ^ 24 ∧ (t.ctx x).wait = .no ∧ (t.ctx x).pc = (s.ctx x).pc + 4)) ∧
  (∀ (x : Nat) (it : Item) (im : Image),
    Ready s x it im →
    (∀ (w fn b a d : Nat), fn ≤ 1 → s.sr x a / 2 ^ 60 = 3 → bits (s.sr x a) 43 39 = 0 →
      s.chkBench x it im (s.sr x b) (s.sr x d) 1 = .ok (.bench (s.sr x b)) → s.isSelf (fabEid (s.sr x a)) = false →
      s.winTo it.id (fabEid (s.sr x a)) = some w → (s.src w).state = .opened → (s.src w).failed = 0 → 1 ≤ s.sr x d →
      s.sr x d ≤ 4096 →
      (∀ (et : Nat), (s.src w).allows (1 + ceilDiv (s.sr x d) 64) (rspOf 1 (s.sr x d)) = true →
        s.mayInject (ctxCluster x) false = true → (s.injBuffer (ctxCluster x) x (ceilDiv (s.sr x d) 64)).1 = true →
        s.selfEid ≠ 0xFFFF → NoErr s x →
        Runs (.fput x et fn b a d) s (fun t =>
          Sent t (ctxCluster x) (mkPkt (s.src w).dst s.selfEid 1 false (!(s.src w).spray) (decide (fn = 1)) (s.flowOf w) (s.src w).fsn (opM (fabAddr (s.sr x a)) (s.sr x d) 0 0 0 0) (padTo (64 * ceilDiv (s.sr x d) 64) (s.benchGet x (s.sr x b) (s.sr x d)))) ∧
          (t.src w).fsn = ((s.src w).fsn + 1) % 2 ^ 24 ∧
          (t.src w).ops = (s.src w).ops ++ [⟨(s.src w).fsn, .put, 1 + ceilDiv (s.sr x d) 64, rspOf 1 (s.sr x d), s.sr x d, s.rf aOpTimeout 15 0⟩] ∧
          GoesTo s t x (s.ctx x) (s.nextPc x) ∧ t.mem = s.mem)) ∧
      (∀ (et : Nat), (s.src w).allows (1 + 0) (rspOf 2 (s.sr x d)) = true →
        s.mayInject (ctxCluster x) false = true → s.selfEid ≠ 0xFFFF →
        Runs (.fget x et fn b a d) s (fun t =>
          Sent t (ctxCluster x) (mkPkt (s.src w).dst s.selfEid 2 false (!(s.src w).spray) (decide (fn = 1)) (s.flowOf w) (s.src w).fsn (opM (fabAddr (s.sr x a)) (s.sr x d) 0 0 0 0) ([])) ∧
          (t.src w).fsn = ((s.src w).fsn + 1) % 2 ^ 24 ∧
          (t.src w).ops = (s.src w).ops ++ [⟨(s.src w).fsn, .get (s.sr x b), 1 + 0, rspOf 2 (s.sr x d), s.sr x d, s.rf aOpTimeout 15 0⟩] ∧
          GoesTo s t x (s.ctx x) (s.nextPc x) ∧ t.mem = s.mem)) ∧
      (∀ (et : Nat), s.mayInject (ctxCluster x) false = false → NoErr s x →
        Runs (.fput x et fn b a d) s (fun t =>
          t = (s.updCtx x (fun c => { c with wait := .stall 0x60 et fn b a d })).unready x))) ∧
    (∀ (w et fn b a d : Nat), et = 2 ∨ et = 3 → fn < 32 → bits fn 4 1 ≤ 9 → s.sr x a % (etBytes et) = 0 →
      s.sr x b % 8 = 0 → s.sr x a / 2 ^ 60 = 3 → bits (s.sr x a) 43 39 = 0 →
      s.chkBench x it im (s.sr x b) (16) 1 = .ok (.bench (s.sr x b)) → s.isSelf (fabEid (s.sr x a)) = false →
      s.winTo it.id (fabEid (s.sr x a)) = some w → (s.src w).state = .opened → (s.src w).failed = 0 →
      (s.src w).allows (1 + 0) (rspOf 3 (etBytes et)) = true → s.mayInject (ctxCluster x) false = true →
      s.selfEid ≠ 0xFFFF → NoErr s x →
      Runs (.fatm x et fn b a d) s (fun t =>
        Sent t (ctxCluster x) (mkPkt (s.src w).dst s.selfEid 3 false (!(s.src w).spray) (bit fn 0) (s.flowOf w) (s.src w).fsn (opM (fabAddr (s.sr x a)) (etBytes et) (bits fn 4 1) 0 (leNat (s.benchGet x (s.sr x b) 8)) (if bits fn 4 1 = 5 then leNat (s.benchGet x (s.sr x b + 8) 8) else 0)) ([])) ∧
        (t.src w).fsn = ((s.src w).fsn + 1) % 2 ^ 24 ∧
        (t.src w).ops = (s.src w).ops ++ [⟨(s.src w).fsn, .atomic (s.sr x b), 1 + 0, rspOf 3 (etBytes et), etBytes et, s.rf aOpTimeout 15 0⟩] ∧
        GoesTo s t x (s.ctx x) (s.nextPc x) ∧ t.mem = s.mem)) ∧
    (∀ (w et fn b a d : Nat), fn ≤ 1 → bits (s.sr x a) 38 0 = 0 → s.sr x d ≤ 4096 →
      field (s.benchGet x (s.sr x b) 40) 14 2 = 0 → s.sr x a / 2 ^ 60 = 3 → bits (s.sr x a) 43 39 = 0 →
      s.chkBench x it im (s.sr x b) (4160) 1 = .ok (.bench (s.sr x b)) → s.isSelf (fabEid (s.sr x a)) = false →
      s.winTo it.id (fabEid (s.sr x a)) = some w → (s.src w).state = .opened → (s.src w).failed = 0 →
      (s.src w).allows (1 + ceilDiv (s.sr x d) 64) (rspOf 4 (0)) = true → s.mayInject (ctxCluster x) false = true →
      (s.injBuffer (ctxCluster x) x (ceilDiv (s.sr x d) 64)).1 = true → s.selfEid ≠ 0xFFFF → NoErr s x →
      Runs (.fcall x et fn b a d) s (fun t =>
        Sent t (ctxCluster x) (mkPkt (s.src w).dst s.selfEid 4 false (!(s.src w).spray) (decide (fn = 1)) (s.flowOf w) (s.src w).fsn (s.benchGet x (s.sr x b) 40) (padTo (64 * ceilDiv (s.sr x d) 64) (s.benchGet x (s.sr x b + 64) (s.sr x d)))) ∧
        (t.src w).fsn = ((s.src w).fsn + 1) % 2 ^ 24 ∧
        (t.src w).ops = (s.src w).ops ++ [⟨(s.src w).fsn, .call (s.sr x b), 1 + ceilDiv (s.sr x d) 64, rspOf 4 (0), 0, s.rf aOpTimeout 15 0⟩] ∧
        GoesTo s t x (s.ctx x) (s.nextPc x) ∧ t.mem = s.mem)) ∧
    (∀ (b a : Nat), bits (s.sr x a) 63 16 = 0 → bits (s.sr x b) 22 0 ≠ 0 → bits (s.sr x b) 22 0 ≤ 4194304 →
      bits (s.sr x b) 63 56 = 0 → s.isSelf (s.sr x a) = false →
      (∀ (w et d : Nat), s.winTo it.id (s.sr x a) = none → s.mayInject (ctxCluster x) false = true →
        s.freeCtx it.image = some w → s.selfEid ≠ 0xFFFF →
        Runs (.fopen x et 0 b a d) s (fun t => (t.ctx x).wait = .grant w d ∧ (t.ctx x).pc = (s.ctx x).pc ∧
          (t.src w).state = .opening ∧ (t.src w).item = some it.id ∧ (t.src w).dst = s.sr x a ∧ (t.src w).ops = [] ∧
          Sent t (ctxCluster x) (mkPkt (s.sr x a) s.selfEid 5 false false false (s.flowOf w) (s.src w).fsn (opW (bits (s.sr x b) 22 0) (bits (s.sr x b) 38 23) (bits (s.sr x b) 54 39) (b2n (bit (s.sr x b) 55)) 0) []) ∧
          t.mem = s.mem)) ∧
      (∀ (w et d : Nat), s.winTo it.id (s.sr x a) = some w →
        Runs (.fopen x et 0 b a d) s (fun t =>
          Retires s t x ((s.ctx x).setS d (BitVec.ofNat 64 (statusWord stState 0)))))) ∧
    (∀ (a : Nat), s.itemWin it (s.sr x a) = true →
      (∀ (et b d : Nat), (s.src (s.sr x a)).ops.length = 0 →
        Runs (.fwaitAll x et 0 b a d) s (fun t =>
          GoesTo s t x ((s.ctx x).setS d (BitVec.ofNat 64 (waitWord (s.src (s.sr x a)).fails ((s.src (s.sr x a)).ops.length)))) (s.nextPc x) ∧
          (t.src (s.sr x a)).fails = [] ∧ (t.src (s.sr x a)).ops = (s.src (s.sr x a)).ops ∧ t.mem = s.mem)) ∧
      (∀ (et b d : Nat), (s.src (s.sr x a)).ops.length ≤ s.sr x b →
        Runs (.fwaitUpto x et 1 b a d) s (fun t =>
          GoesTo s t x ((s.ctx x).setS d (BitVec.ofNat 64 (waitWord (s.src (s.sr x a)).fails ((s.src (s.sr x a)).ops.length)))) (s.nextPc x) ∧
          (t.src (s.sr x a)).fails = [] ∧ (t.src (s.sr x a)).ops = (s.src (s.sr x a)).ops ∧ t.mem = s.mem)) ∧
      (∀ (et b d : Nat),
        Runs (.fwaitPoll x et 2 b a d) s (fun t =>
          GoesTo s t x ((s.ctx x).setS d (BitVec.ofNat 64 (waitWord (s.src (s.sr x a)).fails ((s.src (s.sr x a)).ops.length)))) (s.nextPc x) ∧
          (t.src (s.sr x a)).fails = [] ∧ (t.src (s.sr x a)).ops = (s.src (s.sr x a)).ops ∧ t.mem = s.mem)) ∧
      (∀ (et b d : Nat), (s.src (s.sr x a)).ops.length = 0 → s.selfEid ≠ 0xFFFF →
        Runs (.fclose x et 0 b a d) s (fun t =>
          GoesTo s t x ((s.ctx x).setS d (BitVec.ofNat 64 (waitWord (s.src (s.sr x a)).fails (0)))) (s.nextPc x) ∧
          (t.src (s.sr x a)).state = .closed ∧
          Sent t (ctxCluster x) (mkPkt (s.src (s.sr x a)).dst s.selfEid 6 false (!(s.src (s.sr x a)).spray) false (s.flowOf (s.sr x a)) (s.src (s.sr x a)).fsn (opW 0 0 0 0 0) []) ∧
          t.mem = s.mem)) ∧
      (∀ (et b d : Nat), (s.src (s.sr x a)).ops.length ≠ 0 →
        Runs (.fwaitAll x et 0 b a d) s (fun t => t = s.unready x))) ∧
    (∀ (et fn b a d : Nat), fn ≤ 1 → s.sr x a / 2 ^ 60 = 3 → bits (s.sr x a) 43 0 = 0 →
      s.isSelf (fabEid (s.sr x a)) = true → s.sr x d = 0 →
      s.chkBench x it im (s.sr x b) (4160) 1 = .ok (.bench (s.sr x b)) →
      field (s.benchGet x (s.sr x b) 40) 14 2 = 0 → (s.ctx x).calls < 8 →
      (State.takeCall (s.updCtx x (fun c => { c with calls := c.calls + 1 })) { form := s.benchGet x (s.sr x b) 40, payload := [], src := s.selfEid, home := ctxCluster x, caller := .prog x it.id (s.sr x b) none } false).1 = stOk →
      NoErr s x →
      Runs (.fcall x et fn b a d) s (fun t => (t.ctx x).calls = (s.ctx x).calls + 1 ∧
        t.shed.items.length = s.shed.items.length + 1 ∧
        GoesTo s t x ({ s.ctx x with calls := (s.ctx x).calls + 1 }) (s.nextPc x) ∧ t.mem = s.mem))) ∧
  (∀ (x : Nat) (it : Item) (im : Image) (dst sr flow fsn : Nat) (pin : Bool),
    Ready s x it im → CalledBy s it x dst sr flow fsn pin →
    (∀ (fn b a d : Nat), fn ≤ 1 → s.sr x a / 2 ^ 60 = 3 → bits (s.sr x a) 43 39 = 0 →
      s.chkBench x it im (s.sr x b) (s.sr x d) 1 = .ok (.bench (s.sr x b)) → 1 ≤ s.sr x d → s.sr x d ≤ 4096 →
      s.isSelf (fabEid (s.sr x a)) = false → s.winTo it.id (fabEid (s.sr x a)) = none →
      (∀ (et : Nat), NoErr s x →
        Runs (.fput x et fn b a d) s (fun t => Traps s t x it dst sr flow fsn pin 0x60 0x0B (0) stState)) ∧
      (∀ (et : Nat),
        Runs (.fget x et fn b a d) s (fun t => Traps s t x it dst sr flow fsn pin 0x61 0x0B (0) stState))) ∧
    (∀ (et b a d : Nat), bits (s.sr x a) 63 16 ≠ 0 →
      Runs (.fopen x et 0 b a d) s (fun t => Traps s t x it dst sr flow fsn pin 0x64 3 (s.sr x a) stUnsup)) ∧
    (∀ (et b a d : Nat), s.itemWin it (s.sr x a) = false → s.sr x a ≠ localName →
      Runs (.fwaitAll x et 0 b a d) s (fun t => Traps s t x it dst sr flow fsn pin 0x66 0x0B (0) stState)) ∧
    (∀ (et fn b a d : Nat), 1 < fn →
      Runs (.fput x et fn b a d) s (fun t => Traps s t x it dst sr flow fsn pin 0x60 1 0 stUnsup)) ∧
    (∀ (et fn b a d : Nat), 1 < fn →
      Runs (.fget x et fn b a d) s (fun t => Traps s t x it dst sr flow fsn pin 0x61 1 0 stUnsup)) ∧
    (∀ (et fn b a d : Nat), 1 < fn →
      Runs (.fcall x et fn b a d) s (fun t => Traps s t x it dst sr flow fsn pin 0x63 1 0 stUnsup)) ∧
    (∀ (et fn b a d : Nat), (et ≠ 2 ∧ et ≠ 3) ∨ 32 ≤ fn ∨ 9 < bits fn 4 1 →
      Runs (.fatm x et fn b a d) s (fun t => Traps s t x it dst sr flow fsn pin 0x62 1 0 stUnsup)))

/-- R365 to R370, R315. Completes, with the next state of its own effect: cjoin, cwaitWait, cwaitPoll, crel,
tgate, joinTimeout. -/
def Obligations.JoinsAndGates : Prop :=
  ∀ s : State,
  (∀ (x n : Nat) (j : Join), s.join x n = some j → j.isGate = false → j.status = none → j.done ≠ j.c →
    Runs (.joinTimeout x n) s (fun t => t.join x n = some { j with status := some stTimeout } ∧
      (∀ y, y ≠ x → t.ctx y = s.ctx y) ∧ { t with ctxs := s.ctxs } = s)) ∧
  (∀ (x : Nat) (it : Item) (im : Image),
    Ready s x it im →
    (∀ (o n b a : Nat), s.descAt x it im (s.sr x b) = .ok (.bench o) → s.sr x a % 65536 = 0 →
      (joinOf (s.sr x a) (s.benchGet x o 48)).rangeOk (s.benchSize x) = true → s.freeJoin x = some n →
      (∀ (et d : Nat), (joinOf (s.sr x a) (s.benchGet x o 48)).count = 0 → NoErr s x →
        Runs (.cjoin x et 0 b a d) s (fun t => t.join x n = some (joinOf (s.sr x a) (s.benchGet x o 48)) ∧
          GoesTo s t x ({ (s.ctx x).setS d (BitVec.ofNat 64 (statusWord stOk n)) with joins := (t.ctx x).joins }) (s.nextPc x) ∧
          (∀ k, k ≠ n → t.join x k = s.join x k) ∧ t.mem = s.mem ∧ t.sw = s.sw)) ∧
      (∀ (et d : Nat), (joinOf (s.sr x a) (s.benchGet x o 48)).count = 1 →
        (joinOf (s.sr x a) (s.benchGet x o 48)).e = 0 →
        (joinOf (s.sr x a) (s.benchGet x o 48)).first < (joinOf (s.sr x a) (s.benchGet x o 48)).win →
        s.selfEid ≠ 0xFFFF → NoErr s x →
        Runs (.cjoin x et 0 b a d) s (fun t =>
          t.join x n = some { (joinOf (s.sr x a) (s.benchGet x o 48)) with sent := 1 } ∧
          Sent t (ctxCluster x) (mkPkt (joinOf (s.sr x a) (s.benchGet x o 48)).eid s.selfEid 0x10 false false false 0 0 (opC (joinOf (s.sr x a) (s.benchGet x o 48)).group (joinOf (s.sr x a) (s.benchGet x o 48)).member (joinOf (s.sr x a) (s.benchGet x o 48)).first 0 (joinOf (s.sr x a) (s.benchGet x o 48)).fmt (joinOf (s.sr x a) (s.benchGet x o 48)).epoch 0 0) []) ∧
          GoesTo s t x ({ (s.ctx x).setS d (BitVec.ofNat 64 (statusWord stOk n)) with joins := (t.ctx x).joins }) (s.nextPc x) ∧
          (∀ k, k ≠ n → t.join x k = s.join x k) ∧ t.mem = s.mem))) ∧
    (∀ (a : Nat) (j : Join), s.sr x a < 4 → s.join x (s.sr x a) = some j → j.isGate = false →
      (∀ (et b d : Nat), j.done = j.c ∨ j.status.isSome →
        Runs (.cwaitWait x et 0 b a d) s (fun t =>
          Retires s t x ((s.ctx x).setS d (BitVec.ofNat 64 (statusWord (j.status.getD stOk) j.done))))) ∧
      (∀ (et b d : Nat),
        Runs (.cwaitPoll x et 1 b a d) s (fun t =>
          Retires s t x ((s.ctx x).setS d (BitVec.ofNat 64 (statusWord (j.status.getD stOk) j.done))))) ∧
      (∀ (et b d : Nat),
        Runs (.crel x et 0 b a d) s (fun t => t.join x (s.sr x a) = none ∧
          Retires s t x ({ s.ctx x with joins := (t.ctx x).joins }) ∧
          (∀ k, k ≠ s.sr x a → t.join x k = s.join x k))) ∧
      (∀ (et b d : Nat), j.done ≠ j.c → j.status = none →
        Runs (.cwaitWait x et 0 b a d) s (fun t => t = s.unready x))) ∧
    (∀ (n et b a d : Nat), s.sr x a % 65536 = 0 → s.freeJoin x = some n → s.selfEid ≠ 0xFFFF →
      Runs (.tgate x et 0 b a d) s (fun t => (t.ctx x).wait = .gate n d ∧
        t.join x n = some (joinOf (s.sr x a) []) ∧
        GoesTo s t x ({ s.ctx x with wait := .gate n d, joins := (t.ctx x).joins }) ((s.ctx x).pc) ∧
        Sent t (ctxCluster x) (mkPkt (joinOf (s.sr x a) []).eid s.selfEid 0x10 false false false 0 0 (opC (joinOf (s.sr x a) []).group (joinOf (s.sr x a) []).member 0 0 (s.sr x b % 256) (joinOf (s.sr x a) []).epoch 0 0) []) ∧
        t.mem = s.mem))) ∧
  (∀ (x : Nat) (it : Item) (im : Image) (dst sr flow fsn : Nat) (pin : Bool),
    Ready s x it im → CalledBy s it x dst sr flow fsn pin →
    (∀ (et fn b a d : Nat), fn ≠ 0 →
      Runs (.fopen x et fn b a d) s (fun t => Traps s t x it dst sr flow fsn pin 0x64 1 0 stUnsup)) ∧
    (∀ (et fn b a d : Nat), fn ≠ 0 →
      Runs (.fclose x et fn b a d) s (fun t => Traps s t x it dst sr flow fsn pin 0x65 1 0 stUnsup)) ∧
    (∀ (o et b a d : Nat), s.descAt x it im (s.sr x b) = .ok (.bench o) → s.sr x a % 65536 = 0 →
      (joinOf (s.sr x a) (s.benchGet x o 48)).rangeOk (s.benchSize x) = true →
      (joinOf (s.sr x a) (s.benchGet x o 48)).count = 0 → s.freeJoin x = none → NoErr s x →
      Runs (.cjoin x et 0 b a d) s (fun t => Traps s t x it dst sr flow fsn pin 0x67 0x0B (0) stBusy)) ∧
    (∀ (et b a d o : Nat), s.descAt x it im (s.sr x b) = .ok (.bench o) → s.sr x a % 65536 ≠ 0 →
      Runs (.cjoin x et 0 b a d) s (fun t => Traps s t x it dst sr flow fsn pin 0x67 3 (s.sr x a) stUnsup)) ∧
    (∀ (a : Nat), 4 ≤ s.sr x a ∨ s.join x (s.sr x a) = none →
      (∀ (et b d : Nat),
        Runs (.cwaitWait x et 0 b a d) s (fun t => Traps s t x it dst sr flow fsn pin 0x68 0x0B (0) stState)) ∧
      (∀ (et b d : Nat),
        Runs (.cwaitPoll x et 1 b a d) s (fun t => Traps s t x it dst sr flow fsn pin 0x68 0x0B (0) stState)) ∧
      (∀ (et b d : Nat),
        Runs (.crel x et 0 b a d) s (fun t => Traps s t x it dst sr flow fsn pin 0x69 0x0B (0) stState))) ∧
    (∀ (et fn b a d : Nat), fn ≠ 0 →
      Runs (.cjoin x et fn b a d) s (fun t => Traps s t x it dst sr flow fsn pin 0x67 1 0 stUnsup)) ∧
    (∀ (et fn b a d : Nat), fn ≠ 0 →
      Runs (.crel x et fn b a d) s (fun t => Traps s t x it dst sr flow fsn pin 0x69 1 0 stUnsup)) ∧
    (∀ (et fn b a d : Nat), fn ≠ 0 →
      Runs (.tgate x et fn b a d) s (fun t => Traps s t x it dst sr flow fsn pin 0x6A 1 0 stUnsup)))

/-- R297, R300 to R302, R311, R313, R315, R316, R374 to R377. A CTLR of TRACE, a write-only word, reads 0 in a
SERVICE program (R12). Completes, with the next state of its own effect: br, jal, jalr, ctlr, cntr, yield,
trap, halt, msync, ctlw. -/
def Obligations.ControlFlowAndSystem : Prop :=
  ∀ s : State,
  (∀ (x : Nat) (it : Item) (im : Image), s.ctxItem x = some it → s.image it.image = some im →
    (s.ctx x).wait = .no → s.turn x = true → x < 1024 →
    (∀ (et b a d fn w dst sr flow fsn : Nat) (pin : Bool), s.codeBad x im = false → w = s.fetched x im →
      daporWord x w = none → CalledBy s it x dst sr flow fsn pin →
      Runs (.sop x et fn b a d) s (fun t => Traps s t x it dst sr flow fsn pin (w % 128) 1 0 stUnsup)) ∧
    (∀ (et b a d fn dst sr flow fsn : Nat) (pin : Bool), s.codeBad x im = true →
      CalledBy s it x dst sr flow fsn pin →
      Runs (.sop x et fn b a d) s (fun t => Traps s t x it dst sr flow fsn pin 0x00 0x0A 0 stPathLost ∧
        t.mem = s.mem))) ∧
  (∀ (x : Nat) (it : Item) (im : Image),
    Issues s x it im →
    (∀ (ofs : Int) (b a cond target : Nat), branchOn cond ((s.ctx x).sreg a) ((s.ctx x).sreg b) = true →
      (target : Int) = (s.ctx x).pc + 4 * ofs → target < im.codeBytes → im.codeBytes < 2 ^ 32 →
      Runs (.br x ofs b a cond) s (fun t => GoesTo s t x (s.ctx x) (target) ∧ OnlyIssued s t x)) ∧
    (∀ (imm : Int) (a d target : Nat), (target : Int) = (s.ctx x).pc + 4 * imm → target < im.codeBytes →
      im.codeBytes < 2 ^ 32 →
      Runs (.jal x imm a d) s (fun t => GoesTo s t x ((s.ctx x).setS d (BitVec.ofNat 64 (s.nextPc x))) (target) ∧
        OnlyIssued s t x)) ∧
    (∀ (imm : Int) (a d target : Nat), (target : Int) = s.sr x a + 4 * imm → -16384 ≤ imm → imm < 16384 →
      target % 4 = 0 → target < im.codeBytes → im.codeBytes < 2 ^ 32 →
      Runs (.jalr x imm a d) s (fun t => GoesTo s t x ((s.ctx x).setS d (BitVec.ofNat 64 (s.nextPc x))) (target) ∧
        OnlyIssued s t x)) ∧
    (∀ (et b a d : Nat), s.sr x a ≤ 4096 → s.sr x a ≤ s.benchSize x → s.itemQuiet x it = false → NoErr s x →
      Runs (.halt x et 2 b a d) s (fun t => t = s.unready x))) ∧
  (∀ (x : Nat) (it : Item) (im : Image),
    Ready s x it im →
    (∀ (imm : Int) (a : Nat), (s.sr x a + immNat imm) % 2 ^ 64 = 4 * 2 ^ 60 + 0 →
      (∀ (d : Nat),
        Runs (.ctlr x imm a d) s (fun t => Retires s t x ((s.ctx x).setS d (BitVec.ofNat 64 ((s.ctx x).fp8))))) ∧
      (∀ (d : Nat), Runs (.ctlw x imm a d) s (fun t => Retires s t x ({ s.ctx x with fp8 := s.sr x d % 4 })))) ∧
    (∀ (base : Nat) (imm : Int) (a d : Nat), ctrBase x ((s.sr x a + immNat imm) % 2 ^ 64) = some base →
      s.imgService it.image = true ∨ s.rf base 27 27 = 1 →
      Runs (.cntr x imm a d) s (fun t =>
        Retires s t x ((s.ctx x).setS d (BitVec.ofNat 64 (s.ctr base + s.rf (base + 8) 16 16 * 2 ^ 48))))) ∧
    (∀ (et b a d : Nat),
      Runs (.yield x et 0 b a d) s (fun t => GoesTo s t x (s.ctx x) (s.nextPc x) ∧
        tabGet (fun _ => []) t.shed.ready (x / 4) = (tabGet (fun _ => []) s.shed.ready (x / 4)).filter (fun y => y ≠ x) ++ [x] ∧
        t.mem = s.mem ∧ t.shed.items = s.shed.items)) ∧
    (∀ (et b a d : Nat), (s.ctx x).copies.any Copy.intoHbm = false →
      Runs (.msync x et 3 b a d) s (fun t => Retires s t x (s.ctx x))) ∧
    (∀ (ofs : Int) (b a cond : Nat), cond ≤ 5 ∧ branchOn cond ((s.ctx x).sreg a) ((s.ctx x).sreg b) = false →
      Runs (.br x ofs b a cond) s (fun t => Retires s t x (s.ctx x))) ∧
    (∀ (imm : Int) (a : Nat), (s.sr x a + immNat imm) % 2 ^ 64 = 4 * 2 ^ 60 + 1 →
      (∀ (d : Nat),
        Runs (.ctlr x imm a d) s (fun t => Retires s t x ((s.ctx x).setS d (BitVec.ofNat 64 ((s.ctx x).rmode))))) ∧
      (∀ (d : Nat), Runs (.ctlw x imm a d) s (fun t => Retires s t x ({ s.ctx x with rmode := s.sr x d % 4 })))) ∧
    (∀ (imm : Int) (a : Nat), (s.sr x a + immNat imm) % 2 ^ 64 = 4 * 2 ^ 60 + 2 →
      (∀ (d : Nat),
        Runs (.ctlr x imm a d) s (fun t => Retires s t x ((s.ctx x).setS d (BitVec.ofNat 64 ((s.ctx x).flags))))) ∧
      (∀ (d : Nat), Runs (.ctlw x imm a d) s (fun t => Retires s t x ({ s.ctx x with flags := s.sr x d % 32 })))) ∧
    (∀ (imm : Int) (a d : Nat), (s.sr x a + immNat imm) % 2 ^ 64 = 4 * 2 ^ 60 + 0x10 →
      Runs (.ctlr x imm a d) s (fun t =>
        Retires s t x ((s.ctx x).setS d (BitVec.ofNat 64 (it.desc + it.cluster * 2 ^ 16))))) ∧
    (∀ (imm : Int) (a d : Nat), (s.sr x a + immNat imm) % 2 ^ 64 = 4 * 2 ^ 60 + 0x11 →
      Runs (.ctlr x imm a d) s (fun t =>
        Retires s t x ((s.ctx x).setS d (BitVec.ofNat 64 (it.image + (if s.imgService it.image = true then 256 else 0)))))) ∧
    (∀ (imm : Int) (a d : Nat), (s.sr x a + immNat imm) % 2 ^ 64 = 4 * 2 ^ 60 + 0x12 →
      Runs (.ctlr x imm a d) s (fun t =>
        Retires s t x ((s.ctx x).setS d (BitVec.ofNat 64 (x % 4 + x / 4 % 32 * 4 + x / 128 * 256))))) ∧
    (∀ (imm : Int) (a d : Nat), (s.sr x a + immNat imm) % 2 ^ 64 = 4 * 2 ^ 60 + 0x13 →
      Runs (.ctlr x imm a d) s (fun t => Retires s t x ((s.ctx x).setS d (BitVec.ofNat 64 (im.granules * 8192))))) ∧
    (∀ (imm : Int) (a d : Nat), (s.sr x a + immNat imm) % 2 ^ 64 = 4 * 2 ^ 60 + 0x14 →
      Runs (.ctlr x imm a d) s (fun t => Retires s t x ((s.ctx x).setS d (BitVec.ofNat 64 (s.runLeft it))))) ∧
    (∀ (imm : Int) (a d : Nat), (s.sr x a + immNat imm) % 2 ^ 64 = 4 * 2 ^ 60 + 0x15 →
      Runs (.ctlr x imm a d) s (fun t => Retires s t x ((s.ctx x).setS d (BitVec.ofNat 64 (s.selfEid))))) ∧
    (∀ (imm : Int) (a d : Nat), (s.sr x a + immNat imm) % 2 ^ 64 = 4 * 2 ^ 60 + 0x17 →
      Runs (.ctlr x imm a d) s (fun t =>
        Retires s t x ((s.ctx x).setS d (BitVec.ofNat 64 (hbmTag + im.codeBase))))) ∧
    (∀ (imm : Int) (a d : Nat), (s.sr x a + immNat imm) % 2 ^ 64 = 4 * 2 ^ 60 + 0x18 →
      Runs (.ctlr x imm a d) s (fun t =>
        Retires s t x ((s.ctx x).setS d (BitVec.ofNat 64 (hbmTag + im.dataBase))))) ∧
    (∀ (imm : Int) (a d : Nat), (s.sr x a + immNat imm) % 2 ^ 64 = 4 * 2 ^ 60 + 0x19 →
      Runs (.ctlr x imm a d) s (fun t => Retires s t x ((s.ctx x).setS d (BitVec.ofNat 64 (s.aon % 2 ^ 64))))) ∧
    (∀ (imm : Int) (a d i : Nat), (s.sr x a + immNat imm) % 2 ^ 64 = 4 * 2 ^ 60 + (0x100 + i) → i < 32 →
      Runs (.ctlr x imm a d) s (fun t =>
        Retires s t x ((s.ctx x).setS d (BitVec.ofNat 64 (im.slots.getD i 0xFF))))) ∧
    (∀ (imm : Int) (a : Nat), (s.sr x a + immNat imm) % 2 ^ 64 = 4 * 2 ^ 60 + 0x1A → s.imgService it.image = true →
      (∀ (d : Nat), Runs (.ctlr x imm a d) s (fun t => Retires s t x ((s.ctx x).setS d (0#64)))) ∧
      (∀ (d : Nat), s.sealed = false → s.fallback = false → tabGet (fun _ => 0) s.fw.traceLast (x / 4) = 0 →
        Runs (.ctlw x imm a d) s (fun t =>
          t.fw.log.head?.map (fun r => (r.source, r.kind, field r.body 24 8)) = some (0x40, 2, s.sr x d) ∧
          t.fw.log.length = min 16384 (s.fw.log.length + 1) ∧ GoesTo s t x (s.ctx x) (s.nextPc x))) ∧
      (∀ (d : Nat), s.sealed = true → Runs (.ctlw x imm a d) s (fun t => Retires s t x (s.ctx x)))) ∧
    (∀ (et b a d : Nat), (s.ctx x).copies.any Copy.intoHbm = true →
      Runs (.msync x et 3 b a d) s (fun t => t = s.unready x))) ∧
  (∀ (x : Nat) (it : Item) (im : Image) (dst sr flow fsn : Nat) (pin : Bool),
    Issues s x it im → CalledBy s it x dst sr flow fsn pin →
    (∀ (imm : Int) (a d : Nat), im.codeBytes ≤ (s.ctx x).pc + 4 →
      Runs (.addi x imm a d) s (fun t => Traps s t x it dst sr flow fsn pin 0x01 3 (s.nextPc x) stUnsup ∧
        t.mem = s.mem)) ∧
    (∀ (et b a d : Nat), d ≤ 3 → im.codeBytes ≤ (s.ctx x).pc + 4 →
      Runs (.mzero x et 0 0 b a d) s (fun t => Traps s t x it dst sr flow fsn pin 0x44 3 (s.nextPc x) stUnsup ∧
        t.mem = s.mem)) ∧
    (∀ (imm : Int) (a d : Nat) (p : Place), -16384 ≤ imm → imm < 16384 →
      s.chkWr x it im ((s.sr x a + immNat imm) % 2 ^ 64) 8 8 = .ok p → im.codeBytes ≤ (s.ctx x).pc + 4 →
      Runs (.sti x imm a d) s (fun t => Traps s t x it dst sr flow fsn pin 0x53 3 (s.nextPc x) stUnsup ∧
        t.mem = s.mem)) ∧
    (∀ (et b a d : Nat),
      Runs (.trap x et 1 b a d) s (fun t =>
        Traps s t x it dst sr flow fsn pin 0x7E 0x0C (s.sr x a) (if s.sr x b % 65536 = 0 then stState else s.sr x b % 65536))) ∧
    (∀ (et b a d : Nat), s.sr x a ≤ 4096 → s.sr x a ≤ s.benchSize x → s.itemQuiet x it = true →
      (s.ctx x).copies.all (fun k => decide (k.status = stOk)) = true → s.firstFail x it = none → NoErr s x →
      Runs (.halt x et 2 b a d) s (fun t => t.ctx x = ctxReset ∧ t.item it.id = none ∧
        CallDone t it dst sr flow fsn pin stOk (s.sr x 1) (s.sr x a) ∧
        (t.inq (128 + it.cluster) 1).getLast?.map (fun k => (field k.hdr 40 8, field k.hdr 48 8)) = some (s.sr x 2, s.sr x 3) ∧
        (t.inq (128 + it.cluster) 1).getLast?.map (fun k => k.data.take (s.sr x a)) = some (s.benchGet x 0 (s.sr x a)) ∧
        t.mem = s.mem)) ∧
    (∀ (ofs : Int) (b a cond target : Nat), branchOn cond ((s.ctx x).sreg a) ((s.ctx x).sreg b) = true →
      (target : Int) = (s.ctx x).pc + 4 * ofs → im.codeBytes ≤ target → target < 2 ^ 32 →
      Runs (.br x ofs b a cond) s (fun t => Traps s t x it dst sr flow fsn pin 0x78 3 (target) stUnsup)) ∧
    (∀ (imm : Int) (a target : Nat), (target : Int) = s.sr x a + 4 * imm → -16384 ≤ imm → imm < 16384 →
      (∀ (d : Nat), target % 4 ≠ 0 → target < im.codeBytes → im.codeBytes < 2 ^ 32 →
        Runs (.jalr x imm a d) s (fun t => Traps s t x it dst sr flow fsn pin 0x7A 4 (target) stUnsup)) ∧
      (∀ (d : Nat), im.codeBytes ≤ target → target < 2 ^ 64 →
        Runs (.jalr x imm a d) s (fun t => Traps s t x it dst sr flow fsn pin 0x7A 3 (target) stUnsup))) ∧
    (∀ (et b a d : Nat), 4096 < s.sr x a ∨ s.benchSize x < s.sr x a →
      Runs (.halt x et 2 b a d) s (fun t => Traps s t x it dst sr flow fsn pin 0x7E 3 (s.sr x a) stUnsup))) ∧
  (∀ (x : Nat) (it : Item) (im : Image) (dst sr flow fsn : Nat) (pin : Bool),
    Ready s x it im → CalledBy s it x dst sr flow fsn pin →
    (∀ (imm : Int) (a : Nat), ((s.sr x a + immNat imm) % 2 ^ 64) / 2 ^ 60 ≠ 4 →
      (∀ (d : Nat),
        Runs (.ctlw x imm a d) s (fun t =>
          Traps s t x it dst sr flow fsn pin 0x7C 2 ((s.sr x a + immNat imm) % 2 ^ 64) stUnsup)) ∧
      (∀ (d : Nat),
        Runs (.ctlr x imm a d) s (fun t =>
          Traps s t x it dst sr flow fsn pin 0x7B 2 ((s.sr x a + immNat imm) % 2 ^ 64) stUnsup))) ∧
    (∀ (ofs : Int) (b a cond : Nat), 5 < cond →
      Runs (.br x ofs b a cond) s (fun t => Traps s t x it dst sr flow fsn pin 0x78 1 0 stUnsup)) ∧
    (∀ (imm : Int) (a d : Nat), (s.sr x a + immNat imm) % 2 ^ 64 = 4 * 2 ^ 60 + 0x1A →
      s.imgService it.image = false →
      Runs (.ctlr x imm a d) s (fun t =>
        Traps s t x it dst sr flow fsn pin 0x7B 5 ((s.sr x a + immNat imm) % 2 ^ 64) stAuth)) ∧
    (∀ (imm : Int) (a i : Nat), (s.sr x a + immNat imm) % 2 ^ 64 = 4 * 2 ^ 60 + i → i < 4096 →
      (∀ (d : Nat), ctlListed i = true → 2 < i → i ≠ 0x1A →
        Runs (.ctlw x imm a d) s (fun t =>
          Traps s t x it dst sr flow fsn pin 0x7C 5 ((s.sr x a + immNat imm) % 2 ^ 64) stAuth)) ∧
      (∀ (d : Nat), ctlListed i = false →
        Runs (.ctlw x imm a d) s (fun t => Traps s t x it dst sr flow fsn pin 0x7C 1 0 stUnsup))) ∧
    (∀ (base : Nat) (imm : Int) (a d : Nat), ctrBase x ((s.sr x a + immNat imm) % 2 ^ 64) = some base →
      s.imgService it.image = false → s.rf base 27 27 = 0 →
      Runs (.cntr x imm a d) s (fun t =>
        Traps s t x it dst sr flow fsn pin 0x7D 5 ((s.sr x a + immNat imm) % 2 ^ 64) stAuth)) ∧
    (∀ (imm : Int) (a d : Nat), ctrBase x ((s.sr x a + immNat imm) % 2 ^ 64) = none →
      Runs (.cntr x imm a d) s (fun t =>
        Traps s t x it dst sr flow fsn pin 0x7D 3 ((s.sr x a + immNat imm) % 2 ^ 64) stUnsup)) ∧
    (∀ (et fn a b d : Nat), 4 ≤ fn →
      Runs (.yield x et fn b a d) s (fun t => Traps s t x it dst sr flow fsn pin 0x7E 1 0 stUnsup)))
end

