-- ==== Sys2Proof/Laws/Tab.lean ====
section
/-!
SUPPORT. Sys2Proof/Laws/Tab.lean: what reading a sparse table gives after each way of writing it, that every
way of writing keeps the canonical form, and what a bit field reads as after a field is written.
-/

namespace Sys2Proof.Machine

/-! ### Reading after writing -/

theorem tabGet_tabDel {α : Type} (d : Nat → α) (t : Tab α) (k i : Nat) :
    tabGet d (tabDel t k) i = if i = k then d i else tabGet d t i := by
  induction t with
  | nil => exact (ite_self _).symm
  | cons e r ih => grind [tabDel, tabGet]

theorem tabGet_tabPut {α : Type} (d : Nat → α) (t : Tab α) (k i : Nat) (v : α) :
    tabGet d (tabPut t k v) i = if i = k then v else tabGet d t i := by
  induction t with
  | nil => grind [tabPut, tabGet]
  | cons e r ih => grind [tabPut, tabGet]

/-- A table reads as written at the key written, and as before elsewhere. -/
theorem tabGet_tabSet {α : Type} [DecidableEq α] (d : Nat → α) (t : Tab α) (k i : Nat) (v : α) :
    tabGet d (tabSet d t k v) i = if i = k then v else tabGet d t i := by
  unfold tabSet
  split
  · rename_i h
    rw [tabGet_tabDel]
    split
    · rename_i hi; rw [hi, h]
    · rfl
  · exact tabGet_tabPut d t k i v

@[simp] theorem tabGet_tabSet_same {α : Type} [DecidableEq α] (d : Nat → α) (t : Tab α) (k : Nat) (v : α) :
    tabGet d (tabSet d t k v) k = v := by simp [tabGet_tabSet]

theorem tabGet_tabSet_ne {α : Type} [DecidableEq α] (d : Nat → α) (t : Tab α) {k i : Nat} (v : α) (h : i ≠ k) :
    tabGet d (tabSet d t k v) i = tabGet d t i := by simp [tabGet_tabSet, h]

theorem tabGet_tabClear {α : Type} (d : Nat → α) (p : Nat → Bool) (t : Tab α) (i : Nat) :
    tabGet d (tabClear p t) i = if p i then d i else tabGet d t i := by
  unfold tabClear
  induction t with
  | nil => exact (ite_self _).symm
  | cons e r ih => grind [tabGet]

theorem tabGet_tabSetList {α : Type} [DecidableEq α] (d : Nat → α) (l : List α) (t : Tab α) (k i : Nat) :
    tabGet d (tabSetList d t k l) i = if k ≤ i ∧ i < k + l.length then l.getD (i - k) (d i) else tabGet d t i := by
  induction l generalizing t k with
  | nil => simp [tabSetList]
  | cons v r ih =>
    rw [tabSetList, ih, tabGet_tabSet]
    by_cases h : i = k
    · subst h; simp
    · by_cases h1 : k + 1 ≤ i ∧ i < k + 1 + r.length
      · have h2 : k ≤ i ∧ i < k + (v :: r).length := by simp; omega
        rw [if_pos h1, if_pos h2]
        obtain ⟨n, rfl⟩ : ∃ n, i = k + 1 + n := ⟨i - (k + 1), by omega⟩
        have e1 : k + 1 + n - (k + 1) = n := by omega
        have e2 : k + 1 + n - k = n + 1 := by omega
        simp [e1, e2]
      · have h2 : ¬(k ≤ i ∧ i < k + (v :: r).length) := by simp; omega
        rw [if_neg h1, if_neg h2, if_neg h]

/-! ### The canonical form -/

theorem tabWfFrom_mono {α : Type} [DecidableEq α] {d : Nat → α} {t : Tab α} {lo lo' : Nat} (h : lo' ≤ lo)
    (w : tabWfFrom d lo t = true) : tabWfFrom d lo' t = true := by
  cases t <;> grind [tabWfFrom]

theorem tabWfFrom_tabDel {α : Type} [DecidableEq α] {d : Nat → α} (t : Tab α) (lo k : Nat)
    (w : tabWfFrom d lo t = true) : tabWfFrom d lo (tabDel t k) = true := by
  induction t generalizing lo with
  | nil => exact w
  | cons e r ih =>
    have m := tabWfFrom_mono (d := d) (t := r) (lo' := lo) (lo := e.1 + 1)
    grind [tabWfFrom, tabDel]

theorem tabWfFrom_tabPut {α : Type} [DecidableEq α] {d : Nat → α} (t : Tab α) (lo k : Nat) (v : α)
    (hk : lo ≤ k) (hv : v ≠ d k) (w : tabWfFrom d lo t = true) : tabWfFrom d lo (tabPut t k v) = true := by
  induction t generalizing lo with
  | nil => grind [tabPut, tabWfFrom]
  | cons e r ih => grind [tabPut, tabWfFrom]

theorem tabWf_tabSet {α : Type} [DecidableEq α] {d : Nat → α} {t : Tab α} (k : Nat) (v : α)
    (w : tabWf d t = true) : tabWf d (tabSet d t k v) = true := by
  unfold tabSet
  split
  · exact tabWfFrom_tabDel t 0 k w
  · rename_i h; exact tabWfFrom_tabPut t 0 k v (Nat.zero_le _) h w

theorem tabWf_tabUpd {α : Type} [DecidableEq α] {d : Nat → α} {t : Tab α} (k : Nat) (f : α → α)
    (w : tabWf d t = true) : tabWf d (tabUpd d t k f) = true := tabWf_tabSet k _ w

theorem tabWf_tabSetList {α : Type} [DecidableEq α] {d : Nat → α} (l : List α) {t : Tab α} (k : Nat)
    (w : tabWf d t = true) : tabWf d (tabSetList d t k l) = true := by
  induction l generalizing t k with
  | nil => exact w
  | cons v r ih => exact ih _ (tabWf_tabSet k v w)

theorem tabWfFrom_tabClear {α : Type} [DecidableEq α] {d : Nat → α} (p : Nat → Bool) (t : Tab α) (lo : Nat)
    (w : tabWfFrom d lo t = true) : tabWfFrom d lo (tabClear p t) = true := by
  unfold tabClear
  induction t generalizing lo with
  | nil => exact w
  | cons e r ih =>
    have m := tabWfFrom_mono (d := d) (t := r) (lo' := lo) (lo := e.1 + 1)
    grind [tabWfFrom]

theorem tabWf_tabClear {α : Type} [DecidableEq α] {d : Nat → α} (p : Nat → Bool) {t : Tab α}
    (w : tabWf d t = true) : tabWf d (tabClear p t) = true := tabWfFrom_tabClear p t 0 w

@[simp] theorem tabWf_nil {α : Type} [DecidableEq α] (d : Nat → α) : tabWf d ([] : Tab α) = true := rfl

/-- An unlisted key below a canonical table's least key reads as its default. -/
theorem tabGet_below {α : Type} [DecidableEq α] {d : Nat → α} (t : Tab α) {lo i : Nat}
    (w : tabWfFrom d lo t = true) (h : i < lo) : tabGet d t i = d i := by
  induction t generalizing lo with
  | nil => rfl
  | cons e r ih => grind [tabWfFrom, tabGet]

/-! ### Bit fields -/

theorem testBit_bits (w hi lo i : Nat) : (bits w hi lo).testBit i = (decide (i < hi + 1 - lo) && w.testBit (lo + i)) := by
  simp [bits, Nat.testBit_mod_two_pow, Nat.testBit_shiftRight]

theorem bits_lt (w hi lo : Nat) : bits w hi lo < 2 ^ (hi + 1 - lo) := Nat.mod_lt _ (Nat.two_pow_pos _)

theorem testBit_putBits (w hi lo v i : Nat) : (putBits w hi lo v).testBit i =
    if lo ≤ i ∧ i < lo + (hi + 1 - lo) then v.testBit (i - lo) else w.testBit i := by
  have hn : ∃ n, hi + 1 - lo = n := ⟨_, rfl⟩
  obtain ⟨n, hn⟩ := hn
  have key : putBits w hi lo v = 2 ^ lo * (2 ^ n * (w / 2 ^ lo / 2 ^ n) + v % 2 ^ n) + w % 2 ^ lo := by
    unfold putBits bits
    rw [hn, Nat.shiftRight_eq_div_pow]
    have h1 := Nat.div_add_mod w (2 ^ lo)
    have h2 := Nat.div_add_mod (w / 2 ^ lo) (2 ^ n)
    generalize w / 2 ^ lo / 2 ^ n = c at *
    generalize w / 2 ^ lo % 2 ^ n = m at *
    generalize w % 2 ^ lo = a at *
    generalize v % 2 ^ n = u at *
    have h3 : w = 2 ^ lo * (2 ^ n * c) + m * 2 ^ lo + a := by
      rw [← h1, ← h2]; ring
    have h4 : 2 ^ lo * (2 ^ n * c + u) = 2 ^ lo * (2 ^ n * c) + u * 2 ^ lo := by ring
    rw [h4]
    omega
  rw [key, hn, Nat.testBit_two_pow_mul_add _ (Nat.mod_lt _ (Nat.two_pow_pos _))]
  by_cases h : i < lo
  · have : ¬(lo ≤ i ∧ i < lo + n) := by omega
    rw [if_pos h, if_neg this, Nat.testBit_mod_two_pow]
    simp [h]
  · rw [if_neg h, Nat.testBit_two_pow_mul_add _ (Nat.mod_lt _ (Nat.two_pow_pos _))]
    by_cases h2 : i - lo < n
    · have : lo ≤ i ∧ i < lo + n := by omega
      rw [if_pos h2, if_pos this, Nat.testBit_mod_two_pow]
      simp [h2]
    · have : ¬(lo ≤ i ∧ i < lo + n) := by omega
      rw [if_neg h2, if_neg this, Nat.testBit_div_two_pow, Nat.testBit_div_two_pow]
      congr 1
      omega

theorem bits_putBits_same (w hi lo v : Nat) : bits (putBits w hi lo v) hi lo = v % 2 ^ (hi + 1 - lo) := by
  apply Nat.eq_of_testBit_eq
  intro i
  rw [testBit_bits, testBit_putBits, Nat.testBit_mod_two_pow]
  by_cases h : i < hi + 1 - lo
  · have : lo ≤ lo + i ∧ lo + i < lo + (hi + 1 - lo) := by omega
    simp [h, this]
  · simp [h]

theorem bits_putBits_other (w hi lo v h l : Nat) (hd : h < lo ∨ hi < l) :
    bits (putBits w hi lo v) h l = bits w h l := by
  apply Nat.eq_of_testBit_eq
  intro i
  rw [testBit_bits, testBit_bits, testBit_putBits]
  by_cases hi' : i < h + 1 - l
  · have : ¬(lo ≤ l + i ∧ l + i < lo + (hi + 1 - lo)) := by omega
    rw [if_neg this]
  · simp [hi']

/-- A field that was written reads as the value, within its width. -/
theorem fld_putFld_same (w : Word) (hi lo v : Nat) (h : hi < 32) :
    fld (putFld w hi lo v) hi lo = v % 2 ^ (hi + 1 - lo) := by
  rw [← bits_putBits_same w.toNat hi lo v]
  apply Nat.eq_of_testBit_eq
  intro i
  simp only [fld, putFld, BitVec.toNat_ofNat]
  rw [testBit_bits, testBit_bits, Nat.testBit_mod_two_pow]
  by_cases hi' : i < hi + 1 - lo
  · have : lo + i < 32 := by omega
    simp [this]
  · simp [hi']

/-- A field apart from the one that was written reads as before. -/
theorem fld_putFld_other (w : Word) (hi lo v h l : Nat) (hd : h < lo ∨ hi < l) :
    fld (putFld w hi lo v) h l = fld w h l := by
  rw [fld, fld, ← bits_putBits_other w.toNat hi lo v h l hd]
  apply Nat.eq_of_testBit_eq
  intro i
  simp only [putFld, BitVec.toNat_ofNat]
  rw [testBit_bits, testBit_bits, Nat.testBit_mod_two_pow]
  by_cases h32 : l + i < 32
  · simp [h32]
  · by_cases hi' : i < h + 1 - l
    · have hb : (putBits w.toNat hi lo v).testBit (l + i) = w.toNat.testBit (l + i) := by
        rw [testBit_putBits, if_neg (by omega)]
      have : w.toNat.testBit (l + i) = false :=
        Nat.testBit_lt_two_pow (lt_of_lt_of_le w.isLt (Nat.pow_le_pow_right (by omega) (by omega)))
      simp [h32, hb, this]
    · simp [hi']

theorem fld_lt (w : Word) (hi lo : Nat) : fld w hi lo < 2 ^ (hi + 1 - lo) := bits_lt _ _ _

/-- A saturating count never falls, and stays within its width. -/
theorem satAdd_le (width v n : Nat) : satAdd width v n ≤ 2 ^ width - 1 := Nat.min_le_left _ _

/-! ### Byte strings -/

@[simp] theorem length_leBytes (n v : Nat) : (leBytes n v).length = n := by
  induction n generalizing v with
  | zero => rfl
  | succ n ih => simp [leBytes, ih]

theorem leNat_leBytes (n v : Nat) : leNat (leBytes n v) = v % 256 ^ n := by
  induction n generalizing v with
  | zero => simp [leBytes, leNat, Nat.mod_one]
  | succ n ih =>
    simp only [leBytes, leNat, ih, BitVec.toNat_ofNat]
    have e : (256 : Nat) ^ (n + 1) = 256 * 256 ^ n := by ring
    rw [e, Nat.mod_mul]

@[simp] theorem length_padTo (n : Nat) (l : List Byte) : (padTo n l).length = n := by
  simp [padTo]; omega

@[simp] theorem length_wordsToBytes (l : List Word) : (wordsToBytes l).length = 4 * l.length := by
  induction l with
  | nil => rfl
  | cons w r ih => simp [wordsToBytes, ih]; omega

end Sys2Proof.Machine
end

