-- ==== Sys2Proof/Laws/State.lean ====
section
/-!
SUPPORT. Sys2Proof/Laws/State.lean: what each named update of the state leaves of each field and of what is read
through them, true by unfolding, and what is read back where it was written.
-/

namespace Sys2Proof.Machine

/-! ### setReg -/

@[simp] theorem State.setReg_pending (s : State) (a : Nat) (v : Word) : (s.setReg a v).pending = s.pending := rfl
@[simp] theorem State.setReg_free (s : State) (a : Nat) (v : Word) : (s.setReg a v).free = s.free := rfl
@[simp] theorem State.setReg_aon (s : State) (a : Nat) (v : Word) : (s.setReg a v).aon = s.aon := rfl
@[simp] theorem State.setReg_pwr (s : State) (a : Nat) (v : Word) : (s.setReg a v).pwr = s.pwr := rfl
@[simp] theorem State.setReg_ports (s : State) (a : Nat) (v : Word) : (s.setReg a v).ports = s.ports := rfl
@[simp] theorem State.setReg_sw (s : State) (a : Nat) (v : Word) : (s.setReg a v).sw = s.sw := rfl
@[simp] theorem State.setReg_pools (s : State) (a : Nat) (v : Word) : (s.setReg a v).pools = s.pools := rfl
@[simp] theorem State.setReg_flows (s : State) (a : Nat) (v : Word) : (s.setReg a v).flows = s.flows := rfl
@[simp] theorem State.setReg_groups (s : State) (a : Nat) (v : Word) : (s.setReg a v).groups = s.groups := rfl
@[simp] theorem State.setReg_mem (s : State) (a : Nat) (v : Word) : (s.setReg a v).mem = s.mem := rfl
@[simp] theorem State.setReg_seq (s : State) (a : Nat) (v : Word) : (s.setReg a v).seq = s.seq := rfl
@[simp] theorem State.setReg_shed (s : State) (a : Nat) (v : Word) : (s.setReg a v).shed = s.shed := rfl
@[simp] theorem State.setReg_ctxs (s : State) (a : Nat) (v : Word) : (s.setReg a v).ctxs = s.ctxs := rfl
@[simp] theorem State.setReg_grpCmd (s : State) (a : Nat) (v : Word) : (s.setReg a v).grpCmd = s.grpCmd := rfl
@[simp] theorem State.setReg_host (s : State) (a : Nat) (v : Word) : (s.setReg a v).host = s.host := rfl
@[simp] theorem State.setReg_fw (s : State) (a : Nat) (v : Word) : (s.setReg a v).fw = s.fw := rfl
@[simp] theorem State.setReg_trd (s : State) (a : Nat) (v : Word) : (s.setReg a v).trd = s.trd := rfl
@[simp] theorem State.setReg_thm (s : State) (a : Nat) (v : Word) : (s.setReg a v).thm = s.thm := rfl
@[simp] theorem State.setReg_carts (s : State) (a : Nat) (v : Word) : (s.setReg a v).carts = s.carts := rfl
@[simp] theorem State.setReg_pair (s : State) (a : Nat) (v : Word) : (s.setReg a v).pair = s.pair := rfl
@[simp] theorem State.setReg_cnt (s : State) (a : Nat) (v : Word) : (s.setReg a v).cnt = s.cnt := rfl
@[simp] theorem State.setReg_port (s : State) (a : Nat) (v : Word) (i : Nat) : (s.setReg a v).port i = s.port i := rfl
@[simp] theorem State.setReg_group (s : State) (a : Nat) (v : Word) (i : Nat) : (s.setReg a v).group i = s.group i := rfl
@[simp] theorem State.setReg_cart (s : State) (a : Nat) (v : Word) (i : Nat) : (s.setReg a v).cart i = s.cart i := rfl
@[simp] theorem State.setReg_dom (s : State) (a : Nat) (v : Word) (i : Nat) : (s.setReg a v).dom i = s.dom i := rfl
@[simp] theorem State.setReg_isOff (s : State) (a : Nat) (v : Word) (i : Nat) : (s.setReg a v).isOff i = s.isOff i := rfl
@[simp] theorem State.setReg_inq (s : State) (a : Nat) (v : Word) (i j : Nat) : (s.setReg a v).inq i j = s.inq i j := rfl
@[simp] theorem State.setReg_outq (s : State) (a : Nat) (v : Word) (i j : Nat) : (s.setReg a v).outq i j = s.outq i j := rfl
@[simp] theorem State.setReg_pool (s : State) (a : Nat) (v : Word) (i : Nat) : (s.setReg a v).pool i = s.pool i := rfl
@[simp] theorem State.setReg_ctx (s : State) (a : Nat) (v : Word) (i : Nat) : (s.setReg a v).ctx i = s.ctx i := rfl
@[simp] theorem State.setReg_image (s : State) (a : Nat) (v : Word) (i : Nat) : (s.setReg a v).image i = s.image i := rfl
@[simp] theorem State.setReg_src (s : State) (a : Nat) (v : Word) (i : Nat) : (s.setReg a v).src i = s.src i := rfl
@[simp] theorem State.setReg_member (s : State) (a : Nat) (v : Word) (i : Nat) : (s.setReg a v).member i = s.member i := rfl
@[simp] theorem State.setReg_memByte (s : State) (a : Nat) (v : Word) (i : Nat) : (s.setReg a v).memByte i = s.memByte i := rfl

/-! ### setRf -/

@[simp] theorem State.setRf_pending (s : State) (a b c v : Nat) : (s.setRf a b c v).pending = s.pending := rfl
@[simp] theorem State.setRf_free (s : State) (a b c v : Nat) : (s.setRf a b c v).free = s.free := rfl
@[simp] theorem State.setRf_aon (s : State) (a b c v : Nat) : (s.setRf a b c v).aon = s.aon := rfl
@[simp] theorem State.setRf_pwr (s : State) (a b c v : Nat) : (s.setRf a b c v).pwr = s.pwr := rfl
@[simp] theorem State.setRf_ports (s : State) (a b c v : Nat) : (s.setRf a b c v).ports = s.ports := rfl
@[simp] theorem State.setRf_sw (s : State) (a b c v : Nat) : (s.setRf a b c v).sw = s.sw := rfl
@[simp] theorem State.setRf_pools (s : State) (a b c v : Nat) : (s.setRf a b c v).pools = s.pools := rfl
@[simp] theorem State.setRf_flows (s : State) (a b c v : Nat) : (s.setRf a b c v).flows = s.flows := rfl
@[simp] theorem State.setRf_groups (s : State) (a b c v : Nat) : (s.setRf a b c v).groups = s.groups := rfl
@[simp] theorem State.setRf_mem (s : State) (a b c v : Nat) : (s.setRf a b c v).mem = s.mem := rfl
@[simp] theorem State.setRf_seq (s : State) (a b c v : Nat) : (s.setRf a b c v).seq = s.seq := rfl
@[simp] theorem State.setRf_shed (s : State) (a b c v : Nat) : (s.setRf a b c v).shed = s.shed := rfl
@[simp] theorem State.setRf_ctxs (s : State) (a b c v : Nat) : (s.setRf a b c v).ctxs = s.ctxs := rfl
@[simp] theorem State.setRf_grpCmd (s : State) (a b c v : Nat) : (s.setRf a b c v).grpCmd = s.grpCmd := rfl
@[simp] theorem State.setRf_host (s : State) (a b c v : Nat) : (s.setRf a b c v).host = s.host := rfl
@[simp] theorem State.setRf_fw (s : State) (a b c v : Nat) : (s.setRf a b c v).fw = s.fw := rfl
@[simp] theorem State.setRf_trd (s : State) (a b c v : Nat) : (s.setRf a b c v).trd = s.trd := rfl
@[simp] theorem State.setRf_thm (s : State) (a b c v : Nat) : (s.setRf a b c v).thm = s.thm := rfl
@[simp] theorem State.setRf_carts (s : State) (a b c v : Nat) : (s.setRf a b c v).carts = s.carts := rfl
@[simp] theorem State.setRf_pair (s : State) (a b c v : Nat) : (s.setRf a b c v).pair = s.pair := rfl
@[simp] theorem State.setRf_cnt (s : State) (a b c v : Nat) : (s.setRf a b c v).cnt = s.cnt := rfl
@[simp] theorem State.setRf_port (s : State) (a b c v : Nat) (i : Nat) : (s.setRf a b c v).port i = s.port i := rfl
@[simp] theorem State.setRf_group (s : State) (a b c v : Nat) (i : Nat) : (s.setRf a b c v).group i = s.group i := rfl
@[simp] theorem State.setRf_cart (s : State) (a b c v : Nat) (i : Nat) : (s.setRf a b c v).cart i = s.cart i := rfl
@[simp] theorem State.setRf_dom (s : State) (a b c v : Nat) (i : Nat) : (s.setRf a b c v).dom i = s.dom i := rfl
@[simp] theorem State.setRf_isOff (s : State) (a b c v : Nat) (i : Nat) : (s.setRf a b c v).isOff i = s.isOff i := rfl
@[simp] theorem State.setRf_inq (s : State) (a b c v : Nat) (i j : Nat) : (s.setRf a b c v).inq i j = s.inq i j := rfl
@[simp] theorem State.setRf_outq (s : State) (a b c v : Nat) (i j : Nat) : (s.setRf a b c v).outq i j = s.outq i j := rfl
@[simp] theorem State.setRf_pool (s : State) (a b c v : Nat) (i : Nat) : (s.setRf a b c v).pool i = s.pool i := rfl
@[simp] theorem State.setRf_ctx (s : State) (a b c v : Nat) (i : Nat) : (s.setRf a b c v).ctx i = s.ctx i := rfl
@[simp] theorem State.setRf_image (s : State) (a b c v : Nat) (i : Nat) : (s.setRf a b c v).image i = s.image i := rfl
@[simp] theorem State.setRf_src (s : State) (a b c v : Nat) (i : Nat) : (s.setRf a b c v).src i = s.src i := rfl
@[simp] theorem State.setRf_member (s : State) (a b c v : Nat) (i : Nat) : (s.setRf a b c v).member i = s.member i := rfl
@[simp] theorem State.setRf_memByte (s : State) (a b c v : Nat) (i : Nat) : (s.setRf a b c v).memByte i = s.memByte i := rfl

/-! ### bump -/

@[simp] theorem State.bump_pending (s : State) (a b c v : Nat) : (s.bump a b c v).pending = s.pending := rfl
@[simp] theorem State.bump_free (s : State) (a b c v : Nat) : (s.bump a b c v).free = s.free := rfl
@[simp] theorem State.bump_aon (s : State) (a b c v : Nat) : (s.bump a b c v).aon = s.aon := rfl
@[simp] theorem State.bump_pwr (s : State) (a b c v : Nat) : (s.bump a b c v).pwr = s.pwr := rfl
@[simp] theorem State.bump_ports (s : State) (a b c v : Nat) : (s.bump a b c v).ports = s.ports := rfl
@[simp] theorem State.bump_sw (s : State) (a b c v : Nat) : (s.bump a b c v).sw = s.sw := rfl
@[simp] theorem State.bump_pools (s : State) (a b c v : Nat) : (s.bump a b c v).pools = s.pools := rfl
@[simp] theorem State.bump_flows (s : State) (a b c v : Nat) : (s.bump a b c v).flows = s.flows := rfl
@[simp] theorem State.bump_groups (s : State) (a b c v : Nat) : (s.bump a b c v).groups = s.groups := rfl
@[simp] theorem State.bump_mem (s : State) (a b c v : Nat) : (s.bump a b c v).mem = s.mem := rfl
@[simp] theorem State.bump_seq (s : State) (a b c v : Nat) : (s.bump a b c v).seq = s.seq := rfl
@[simp] theorem State.bump_shed (s : State) (a b c v : Nat) : (s.bump a b c v).shed = s.shed := rfl
@[simp] theorem State.bump_ctxs (s : State) (a b c v : Nat) : (s.bump a b c v).ctxs = s.ctxs := rfl
@[simp] theorem State.bump_grpCmd (s : State) (a b c v : Nat) : (s.bump a b c v).grpCmd = s.grpCmd := rfl
@[simp] theorem State.bump_host (s : State) (a b c v : Nat) : (s.bump a b c v).host = s.host := rfl
@[simp] theorem State.bump_fw (s : State) (a b c v : Nat) : (s.bump a b c v).fw = s.fw := rfl
@[simp] theorem State.bump_trd (s : State) (a b c v : Nat) : (s.bump a b c v).trd = s.trd := rfl
@[simp] theorem State.bump_thm (s : State) (a b c v : Nat) : (s.bump a b c v).thm = s.thm := rfl
@[simp] theorem State.bump_carts (s : State) (a b c v : Nat) : (s.bump a b c v).carts = s.carts := rfl
@[simp] theorem State.bump_pair (s : State) (a b c v : Nat) : (s.bump a b c v).pair = s.pair := rfl
@[simp] theorem State.bump_cnt (s : State) (a b c v : Nat) : (s.bump a b c v).cnt = s.cnt := rfl
@[simp] theorem State.bump_port (s : State) (a b c v : Nat) (i : Nat) : (s.bump a b c v).port i = s.port i := rfl
@[simp] theorem State.bump_group (s : State) (a b c v : Nat) (i : Nat) : (s.bump a b c v).group i = s.group i := rfl
@[simp] theorem State.bump_cart (s : State) (a b c v : Nat) (i : Nat) : (s.bump a b c v).cart i = s.cart i := rfl
@[simp] theorem State.bump_dom (s : State) (a b c v : Nat) (i : Nat) : (s.bump a b c v).dom i = s.dom i := rfl
@[simp] theorem State.bump_isOff (s : State) (a b c v : Nat) (i : Nat) : (s.bump a b c v).isOff i = s.isOff i := rfl
@[simp] theorem State.bump_inq (s : State) (a b c v : Nat) (i j : Nat) : (s.bump a b c v).inq i j = s.inq i j := rfl
@[simp] theorem State.bump_outq (s : State) (a b c v : Nat) (i j : Nat) : (s.bump a b c v).outq i j = s.outq i j := rfl
@[simp] theorem State.bump_pool (s : State) (a b c v : Nat) (i : Nat) : (s.bump a b c v).pool i = s.pool i := rfl
@[simp] theorem State.bump_ctx (s : State) (a b c v : Nat) (i : Nat) : (s.bump a b c v).ctx i = s.ctx i := rfl
@[simp] theorem State.bump_image (s : State) (a b c v : Nat) (i : Nat) : (s.bump a b c v).image i = s.image i := rfl
@[simp] theorem State.bump_src (s : State) (a b c v : Nat) (i : Nat) : (s.bump a b c v).src i = s.src i := rfl
@[simp] theorem State.bump_member (s : State) (a b c v : Nat) (i : Nat) : (s.bump a b c v).member i = s.member i := rfl
@[simp] theorem State.bump_memByte (s : State) (a b c v : Nat) (i : Nat) : (s.bump a b c v).memByte i = s.memByte i := rfl

/-! ### setCtr -/

@[simp] theorem State.setCtr_pending (s : State) (a v : Nat) : (s.setCtr a v).pending = s.pending := rfl
@[simp] theorem State.setCtr_free (s : State) (a v : Nat) : (s.setCtr a v).free = s.free := rfl
@[simp] theorem State.setCtr_aon (s : State) (a v : Nat) : (s.setCtr a v).aon = s.aon := rfl
@[simp] theorem State.setCtr_pwr (s : State) (a v : Nat) : (s.setCtr a v).pwr = s.pwr := rfl
@[simp] theorem State.setCtr_ports (s : State) (a v : Nat) : (s.setCtr a v).ports = s.ports := rfl
@[simp] theorem State.setCtr_sw (s : State) (a v : Nat) : (s.setCtr a v).sw = s.sw := rfl
@[simp] theorem State.setCtr_pools (s : State) (a v : Nat) : (s.setCtr a v).pools = s.pools := rfl
@[simp] theorem State.setCtr_flows (s : State) (a v : Nat) : (s.setCtr a v).flows = s.flows := rfl
@[simp] theorem State.setCtr_groups (s : State) (a v : Nat) : (s.setCtr a v).groups = s.groups := rfl
@[simp] theorem State.setCtr_mem (s : State) (a v : Nat) : (s.setCtr a v).mem = s.mem := rfl
@[simp] theorem State.setCtr_seq (s : State) (a v : Nat) : (s.setCtr a v).seq = s.seq := rfl
@[simp] theorem State.setCtr_shed (s : State) (a v : Nat) : (s.setCtr a v).shed = s.shed := rfl
@[simp] theorem State.setCtr_ctxs (s : State) (a v : Nat) : (s.setCtr a v).ctxs = s.ctxs := rfl
@[simp] theorem State.setCtr_grpCmd (s : State) (a v : Nat) : (s.setCtr a v).grpCmd = s.grpCmd := rfl
@[simp] theorem State.setCtr_host (s : State) (a v : Nat) : (s.setCtr a v).host = s.host := rfl
@[simp] theorem State.setCtr_fw (s : State) (a v : Nat) : (s.setCtr a v).fw = s.fw := rfl
@[simp] theorem State.setCtr_trd (s : State) (a v : Nat) : (s.setCtr a v).trd = s.trd := rfl
@[simp] theorem State.setCtr_thm (s : State) (a v : Nat) : (s.setCtr a v).thm = s.thm := rfl
@[simp] theorem State.setCtr_carts (s : State) (a v : Nat) : (s.setCtr a v).carts = s.carts := rfl
@[simp] theorem State.setCtr_pair (s : State) (a v : Nat) : (s.setCtr a v).pair = s.pair := rfl
@[simp] theorem State.setCtr_cnt (s : State) (a v : Nat) : (s.setCtr a v).cnt = s.cnt := rfl
@[simp] theorem State.setCtr_port (s : State) (a v : Nat) (i : Nat) : (s.setCtr a v).port i = s.port i := rfl
@[simp] theorem State.setCtr_group (s : State) (a v : Nat) (i : Nat) : (s.setCtr a v).group i = s.group i := rfl
@[simp] theorem State.setCtr_cart (s : State) (a v : Nat) (i : Nat) : (s.setCtr a v).cart i = s.cart i := rfl
@[simp] theorem State.setCtr_dom (s : State) (a v : Nat) (i : Nat) : (s.setCtr a v).dom i = s.dom i := rfl
@[simp] theorem State.setCtr_isOff (s : State) (a v : Nat) (i : Nat) : (s.setCtr a v).isOff i = s.isOff i := rfl
@[simp] theorem State.setCtr_inq (s : State) (a v : Nat) (i j : Nat) : (s.setCtr a v).inq i j = s.inq i j := rfl
@[simp] theorem State.setCtr_outq (s : State) (a v : Nat) (i j : Nat) : (s.setCtr a v).outq i j = s.outq i j := rfl
@[simp] theorem State.setCtr_pool (s : State) (a v : Nat) (i : Nat) : (s.setCtr a v).pool i = s.pool i := rfl
@[simp] theorem State.setCtr_ctx (s : State) (a v : Nat) (i : Nat) : (s.setCtr a v).ctx i = s.ctx i := rfl
@[simp] theorem State.setCtr_image (s : State) (a v : Nat) (i : Nat) : (s.setCtr a v).image i = s.image i := rfl
@[simp] theorem State.setCtr_src (s : State) (a v : Nat) (i : Nat) : (s.setCtr a v).src i = s.src i := rfl
@[simp] theorem State.setCtr_member (s : State) (a v : Nat) (i : Nat) : (s.setCtr a v).member i = s.member i := rfl
@[simp] theorem State.setCtr_memByte (s : State) (a v : Nat) (i : Nat) : (s.setCtr a v).memByte i = s.memByte i := rfl

/-! ### clearRegs -/

@[simp] theorem State.clearRegs_pending (s : State) (p : Nat → Bool) : (s.clearRegs p).pending = s.pending := rfl
@[simp] theorem State.clearRegs_free (s : State) (p : Nat → Bool) : (s.clearRegs p).free = s.free := rfl
@[simp] theorem State.clearRegs_aon (s : State) (p : Nat → Bool) : (s.clearRegs p).aon = s.aon := rfl
@[simp] theorem State.clearRegs_pwr (s : State) (p : Nat → Bool) : (s.clearRegs p).pwr = s.pwr := rfl
@[simp] theorem State.clearRegs_ports (s : State) (p : Nat → Bool) : (s.clearRegs p).ports = s.ports := rfl
@[simp] theorem State.clearRegs_sw (s : State) (p : Nat → Bool) : (s.clearRegs p).sw = s.sw := rfl
@[simp] theorem State.clearRegs_pools (s : State) (p : Nat → Bool) : (s.clearRegs p).pools = s.pools := rfl
@[simp] theorem State.clearRegs_flows (s : State) (p : Nat → Bool) : (s.clearRegs p).flows = s.flows := rfl
@[simp] theorem State.clearRegs_groups (s : State) (p : Nat → Bool) : (s.clearRegs p).groups = s.groups := rfl
@[simp] theorem State.clearRegs_mem (s : State) (p : Nat → Bool) : (s.clearRegs p).mem = s.mem := rfl
@[simp] theorem State.clearRegs_seq (s : State) (p : Nat → Bool) : (s.clearRegs p).seq = s.seq := rfl
@[simp] theorem State.clearRegs_shed (s : State) (p : Nat → Bool) : (s.clearRegs p).shed = s.shed := rfl
@[simp] theorem State.clearRegs_ctxs (s : State) (p : Nat → Bool) : (s.clearRegs p).ctxs = s.ctxs := rfl
@[simp] theorem State.clearRegs_grpCmd (s : State) (p : Nat → Bool) : (s.clearRegs p).grpCmd = s.grpCmd := rfl
@[simp] theorem State.clearRegs_host (s : State) (p : Nat → Bool) : (s.clearRegs p).host = s.host := rfl
@[simp] theorem State.clearRegs_fw (s : State) (p : Nat → Bool) : (s.clearRegs p).fw = s.fw := rfl
@[simp] theorem State.clearRegs_trd (s : State) (p : Nat → Bool) : (s.clearRegs p).trd = s.trd := rfl
@[simp] theorem State.clearRegs_thm (s : State) (p : Nat → Bool) : (s.clearRegs p).thm = s.thm := rfl
@[simp] theorem State.clearRegs_carts (s : State) (p : Nat → Bool) : (s.clearRegs p).carts = s.carts := rfl
@[simp] theorem State.clearRegs_pair (s : State) (p : Nat → Bool) : (s.clearRegs p).pair = s.pair := rfl
@[simp] theorem State.clearRegs_cnt (s : State) (p : Nat → Bool) : (s.clearRegs p).cnt = s.cnt := rfl
@[simp] theorem State.clearRegs_port (s : State) (p : Nat → Bool) (i : Nat) : (s.clearRegs p).port i = s.port i := rfl
@[simp] theorem State.clearRegs_group (s : State) (p : Nat → Bool) (i : Nat) : (s.clearRegs p).group i = s.group i := rfl
@[simp] theorem State.clearRegs_cart (s : State) (p : Nat → Bool) (i : Nat) : (s.clearRegs p).cart i = s.cart i := rfl
@[simp] theorem State.clearRegs_dom (s : State) (p : Nat → Bool) (i : Nat) : (s.clearRegs p).dom i = s.dom i := rfl
@[simp] theorem State.clearRegs_isOff (s : State) (p : Nat → Bool) (i : Nat) : (s.clearRegs p).isOff i = s.isOff i := rfl
@[simp] theorem State.clearRegs_inq (s : State) (p : Nat → Bool) (i j : Nat) : (s.clearRegs p).inq i j = s.inq i j := rfl
@[simp] theorem State.clearRegs_outq (s : State) (p : Nat → Bool) (i j : Nat) : (s.clearRegs p).outq i j = s.outq i j := rfl
@[simp] theorem State.clearRegs_pool (s : State) (p : Nat → Bool) (i : Nat) : (s.clearRegs p).pool i = s.pool i := rfl
@[simp] theorem State.clearRegs_ctx (s : State) (p : Nat → Bool) (i : Nat) : (s.clearRegs p).ctx i = s.ctx i := rfl
@[simp] theorem State.clearRegs_image (s : State) (p : Nat → Bool) (i : Nat) : (s.clearRegs p).image i = s.image i := rfl
@[simp] theorem State.clearRegs_src (s : State) (p : Nat → Bool) (i : Nat) : (s.clearRegs p).src i = s.src i := rfl
@[simp] theorem State.clearRegs_member (s : State) (p : Nat → Bool) (i : Nat) : (s.clearRegs p).member i = s.member i := rfl
@[simp] theorem State.clearRegs_memByte (s : State) (p : Nat → Bool) (i : Nat) : (s.clearRegs p).memByte i = s.memByte i := rfl

/-! ### setPort -/

@[simp] theorem State.setPort_pending (s : State) (a : Nat) (x : Port) : (s.setPort a x).pending = s.pending := rfl
@[simp] theorem State.setPort_free (s : State) (a : Nat) (x : Port) : (s.setPort a x).free = s.free := rfl
@[simp] theorem State.setPort_aon (s : State) (a : Nat) (x : Port) : (s.setPort a x).aon = s.aon := rfl
@[simp] theorem State.setPort_regs (s : State) (a : Nat) (x : Port) : (s.setPort a x).regs = s.regs := rfl
@[simp] theorem State.setPort_pwr (s : State) (a : Nat) (x : Port) : (s.setPort a x).pwr = s.pwr := rfl
@[simp] theorem State.setPort_sw (s : State) (a : Nat) (x : Port) : (s.setPort a x).sw = s.sw := rfl
@[simp] theorem State.setPort_pools (s : State) (a : Nat) (x : Port) : (s.setPort a x).pools = s.pools := rfl
@[simp] theorem State.setPort_flows (s : State) (a : Nat) (x : Port) : (s.setPort a x).flows = s.flows := rfl
@[simp] theorem State.setPort_groups (s : State) (a : Nat) (x : Port) : (s.setPort a x).groups = s.groups := rfl
@[simp] theorem State.setPort_mem (s : State) (a : Nat) (x : Port) : (s.setPort a x).mem = s.mem := rfl
@[simp] theorem State.setPort_seq (s : State) (a : Nat) (x : Port) : (s.setPort a x).seq = s.seq := rfl
@[simp] theorem State.setPort_shed (s : State) (a : Nat) (x : Port) : (s.setPort a x).shed = s.shed := rfl
@[simp] theorem State.setPort_ctxs (s : State) (a : Nat) (x : Port) : (s.setPort a x).ctxs = s.ctxs := rfl
@[simp] theorem State.setPort_grpCmd (s : State) (a : Nat) (x : Port) : (s.setPort a x).grpCmd = s.grpCmd := rfl
@[simp] theorem State.setPort_host (s : State) (a : Nat) (x : Port) : (s.setPort a x).host = s.host := rfl
@[simp] theorem State.setPort_fw (s : State) (a : Nat) (x : Port) : (s.setPort a x).fw = s.fw := rfl
@[simp] theorem State.setPort_trd (s : State) (a : Nat) (x : Port) : (s.setPort a x).trd = s.trd := rfl
@[simp] theorem State.setPort_thm (s : State) (a : Nat) (x : Port) : (s.setPort a x).thm = s.thm := rfl
@[simp] theorem State.setPort_carts (s : State) (a : Nat) (x : Port) : (s.setPort a x).carts = s.carts := rfl
@[simp] theorem State.setPort_pair (s : State) (a : Nat) (x : Port) : (s.setPort a x).pair = s.pair := rfl
@[simp] theorem State.setPort_cnt (s : State) (a : Nat) (x : Port) : (s.setPort a x).cnt = s.cnt := rfl
@[simp] theorem State.setPort_reg (s : State) (a : Nat) (x : Port) (i : Nat) : (s.setPort a x).reg i = s.reg i := rfl
@[simp] theorem State.setPort_rf (s : State) (a : Nat) (x : Port) (i h l : Nat) : (s.setPort a x).rf i h l = s.rf i h l := rfl
@[simp] theorem State.setPort_group (s : State) (a : Nat) (x : Port) (i : Nat) : (s.setPort a x).group i = s.group i := rfl
@[simp] theorem State.setPort_cart (s : State) (a : Nat) (x : Port) (i : Nat) : (s.setPort a x).cart i = s.cart i := rfl
@[simp] theorem State.setPort_dom (s : State) (a : Nat) (x : Port) (i : Nat) : (s.setPort a x).dom i = s.dom i := rfl
@[simp] theorem State.setPort_isOff (s : State) (a : Nat) (x : Port) (i : Nat) : (s.setPort a x).isOff i = s.isOff i := rfl
@[simp] theorem State.setPort_inq (s : State) (a : Nat) (x : Port) (i j : Nat) : (s.setPort a x).inq i j = s.inq i j := rfl
@[simp] theorem State.setPort_outq (s : State) (a : Nat) (x : Port) (i j : Nat) : (s.setPort a x).outq i j = s.outq i j := rfl
@[simp] theorem State.setPort_pool (s : State) (a : Nat) (x : Port) (i : Nat) : (s.setPort a x).pool i = s.pool i := rfl
@[simp] theorem State.setPort_ctx (s : State) (a : Nat) (x : Port) (i : Nat) : (s.setPort a x).ctx i = s.ctx i := rfl
@[simp] theorem State.setPort_image (s : State) (a : Nat) (x : Port) (i : Nat) : (s.setPort a x).image i = s.image i := rfl
@[simp] theorem State.setPort_src (s : State) (a : Nat) (x : Port) (i : Nat) : (s.setPort a x).src i = s.src i := rfl
@[simp] theorem State.setPort_member (s : State) (a : Nat) (x : Port) (i : Nat) : (s.setPort a x).member i = s.member i := rfl
@[simp] theorem State.setPort_memByte (s : State) (a : Nat) (x : Port) (i : Nat) : (s.setPort a x).memByte i = s.memByte i := rfl

/-! ### updPort -/

@[simp] theorem State.updPort_pending (s : State) (a : Nat) (f : Port → Port) : (s.updPort a f).pending = s.pending := rfl
@[simp] theorem State.updPort_free (s : State) (a : Nat) (f : Port → Port) : (s.updPort a f).free = s.free := rfl
@[simp] theorem State.updPort_aon (s : State) (a : Nat) (f : Port → Port) : (s.updPort a f).aon = s.aon := rfl
@[simp] theorem State.updPort_regs (s : State) (a : Nat) (f : Port → Port) : (s.updPort a f).regs = s.regs := rfl
@[simp] theorem State.updPort_pwr (s : State) (a : Nat) (f : Port → Port) : (s.updPort a f).pwr = s.pwr := rfl
@[simp] theorem State.updPort_sw (s : State) (a : Nat) (f : Port → Port) : (s.updPort a f).sw = s.sw := rfl
@[simp] theorem State.updPort_pools (s : State) (a : Nat) (f : Port → Port) : (s.updPort a f).pools = s.pools := rfl
@[simp] theorem State.updPort_flows (s : State) (a : Nat) (f : Port → Port) : (s.updPort a f).flows = s.flows := rfl
@[simp] theorem State.updPort_groups (s : State) (a : Nat) (f : Port → Port) : (s.updPort a f).groups = s.groups := rfl
@[simp] theorem State.updPort_mem (s : State) (a : Nat) (f : Port → Port) : (s.updPort a f).mem = s.mem := rfl
@[simp] theorem State.updPort_seq (s : State) (a : Nat) (f : Port → Port) : (s.updPort a f).seq = s.seq := rfl
@[simp] theorem State.updPort_shed (s : State) (a : Nat) (f : Port → Port) : (s.updPort a f).shed = s.shed := rfl
@[simp] theorem State.updPort_ctxs (s : State) (a : Nat) (f : Port → Port) : (s.updPort a f).ctxs = s.ctxs := rfl
@[simp] theorem State.updPort_grpCmd (s : State) (a : Nat) (f : Port → Port) : (s.updPort a f).grpCmd = s.grpCmd := rfl
@[simp] theorem State.updPort_host (s : State) (a : Nat) (f : Port → Port) : (s.updPort a f).host = s.host := rfl
@[simp] theorem State.updPort_fw (s : State) (a : Nat) (f : Port → Port) : (s.updPort a f).fw = s.fw := rfl
@[simp] theorem State.updPort_trd (s : State) (a : Nat) (f : Port → Port) : (s.updPort a f).trd = s.trd := rfl
@[simp] theorem State.updPort_thm (s : State) (a : Nat) (f : Port → Port) : (s.updPort a f).thm = s.thm := rfl
@[simp] theorem State.updPort_carts (s : State) (a : Nat) (f : Port → Port) : (s.updPort a f).carts = s.carts := rfl
@[simp] theorem State.updPort_pair (s : State) (a : Nat) (f : Port → Port) : (s.updPort a f).pair = s.pair := rfl
@[simp] theorem State.updPort_cnt (s : State) (a : Nat) (f : Port → Port) : (s.updPort a f).cnt = s.cnt := rfl
@[simp] theorem State.updPort_reg (s : State) (a : Nat) (f : Port → Port) (i : Nat) : (s.updPort a f).reg i = s.reg i := rfl
@[simp] theorem State.updPort_rf (s : State) (a : Nat) (f : Port → Port) (i h l : Nat) : (s.updPort a f).rf i h l = s.rf i h l := rfl
@[simp] theorem State.updPort_group (s : State) (a : Nat) (f : Port → Port) (i : Nat) : (s.updPort a f).group i = s.group i := rfl
@[simp] theorem State.updPort_cart (s : State) (a : Nat) (f : Port → Port) (i : Nat) : (s.updPort a f).cart i = s.cart i := rfl
@[simp] theorem State.updPort_dom (s : State) (a : Nat) (f : Port → Port) (i : Nat) : (s.updPort a f).dom i = s.dom i := rfl
@[simp] theorem State.updPort_isOff (s : State) (a : Nat) (f : Port → Port) (i : Nat) : (s.updPort a f).isOff i = s.isOff i := rfl
@[simp] theorem State.updPort_inq (s : State) (a : Nat) (f : Port → Port) (i j : Nat) : (s.updPort a f).inq i j = s.inq i j := rfl
@[simp] theorem State.updPort_outq (s : State) (a : Nat) (f : Port → Port) (i j : Nat) : (s.updPort a f).outq i j = s.outq i j := rfl
@[simp] theorem State.updPort_pool (s : State) (a : Nat) (f : Port → Port) (i : Nat) : (s.updPort a f).pool i = s.pool i := rfl
@[simp] theorem State.updPort_ctx (s : State) (a : Nat) (f : Port → Port) (i : Nat) : (s.updPort a f).ctx i = s.ctx i := rfl
@[simp] theorem State.updPort_image (s : State) (a : Nat) (f : Port → Port) (i : Nat) : (s.updPort a f).image i = s.image i := rfl
@[simp] theorem State.updPort_src (s : State) (a : Nat) (f : Port → Port) (i : Nat) : (s.updPort a f).src i = s.src i := rfl
@[simp] theorem State.updPort_member (s : State) (a : Nat) (f : Port → Port) (i : Nat) : (s.updPort a f).member i = s.member i := rfl
@[simp] theorem State.updPort_memByte (s : State) (a : Nat) (f : Port → Port) (i : Nat) : (s.updPort a f).memByte i = s.memByte i := rfl

/-! ### setGroup -/

@[simp] theorem State.setGroup_pending (s : State) (a : Nat) (x : Group) : (s.setGroup a x).pending = s.pending := rfl
@[simp] theorem State.setGroup_free (s : State) (a : Nat) (x : Group) : (s.setGroup a x).free = s.free := rfl
@[simp] theorem State.setGroup_aon (s : State) (a : Nat) (x : Group) : (s.setGroup a x).aon = s.aon := rfl
@[simp] theorem State.setGroup_regs (s : State) (a : Nat) (x : Group) : (s.setGroup a x).regs = s.regs := rfl
@[simp] theorem State.setGroup_pwr (s : State) (a : Nat) (x : Group) : (s.setGroup a x).pwr = s.pwr := rfl
@[simp] theorem State.setGroup_ports (s : State) (a : Nat) (x : Group) : (s.setGroup a x).ports = s.ports := rfl
@[simp] theorem State.setGroup_sw (s : State) (a : Nat) (x : Group) : (s.setGroup a x).sw = s.sw := rfl
@[simp] theorem State.setGroup_pools (s : State) (a : Nat) (x : Group) : (s.setGroup a x).pools = s.pools := rfl
@[simp] theorem State.setGroup_flows (s : State) (a : Nat) (x : Group) : (s.setGroup a x).flows = s.flows := rfl
@[simp] theorem State.setGroup_mem (s : State) (a : Nat) (x : Group) : (s.setGroup a x).mem = s.mem := rfl
@[simp] theorem State.setGroup_seq (s : State) (a : Nat) (x : Group) : (s.setGroup a x).seq = s.seq := rfl
@[simp] theorem State.setGroup_shed (s : State) (a : Nat) (x : Group) : (s.setGroup a x).shed = s.shed := rfl
@[simp] theorem State.setGroup_ctxs (s : State) (a : Nat) (x : Group) : (s.setGroup a x).ctxs = s.ctxs := rfl
@[simp] theorem State.setGroup_grpCmd (s : State) (a : Nat) (x : Group) : (s.setGroup a x).grpCmd = s.grpCmd := rfl
@[simp] theorem State.setGroup_host (s : State) (a : Nat) (x : Group) : (s.setGroup a x).host = s.host := rfl
@[simp] theorem State.setGroup_fw (s : State) (a : Nat) (x : Group) : (s.setGroup a x).fw = s.fw := rfl
@[simp] theorem State.setGroup_trd (s : State) (a : Nat) (x : Group) : (s.setGroup a x).trd = s.trd := rfl
@[simp] theorem State.setGroup_thm (s : State) (a : Nat) (x : Group) : (s.setGroup a x).thm = s.thm := rfl
@[simp] theorem State.setGroup_carts (s : State) (a : Nat) (x : Group) : (s.setGroup a x).carts = s.carts := rfl
@[simp] theorem State.setGroup_pair (s : State) (a : Nat) (x : Group) : (s.setGroup a x).pair = s.pair := rfl
@[simp] theorem State.setGroup_cnt (s : State) (a : Nat) (x : Group) : (s.setGroup a x).cnt = s.cnt := rfl
@[simp] theorem State.setGroup_reg (s : State) (a : Nat) (x : Group) (i : Nat) : (s.setGroup a x).reg i = s.reg i := rfl
@[simp] theorem State.setGroup_rf (s : State) (a : Nat) (x : Group) (i h l : Nat) : (s.setGroup a x).rf i h l = s.rf i h l := rfl
@[simp] theorem State.setGroup_port (s : State) (a : Nat) (x : Group) (i : Nat) : (s.setGroup a x).port i = s.port i := rfl
@[simp] theorem State.setGroup_cart (s : State) (a : Nat) (x : Group) (i : Nat) : (s.setGroup a x).cart i = s.cart i := rfl
@[simp] theorem State.setGroup_dom (s : State) (a : Nat) (x : Group) (i : Nat) : (s.setGroup a x).dom i = s.dom i := rfl
@[simp] theorem State.setGroup_isOff (s : State) (a : Nat) (x : Group) (i : Nat) : (s.setGroup a x).isOff i = s.isOff i := rfl
@[simp] theorem State.setGroup_inq (s : State) (a : Nat) (x : Group) (i j : Nat) : (s.setGroup a x).inq i j = s.inq i j := rfl
@[simp] theorem State.setGroup_outq (s : State) (a : Nat) (x : Group) (i j : Nat) : (s.setGroup a x).outq i j = s.outq i j := rfl
@[simp] theorem State.setGroup_pool (s : State) (a : Nat) (x : Group) (i : Nat) : (s.setGroup a x).pool i = s.pool i := rfl
@[simp] theorem State.setGroup_ctx (s : State) (a : Nat) (x : Group) (i : Nat) : (s.setGroup a x).ctx i = s.ctx i := rfl
@[simp] theorem State.setGroup_image (s : State) (a : Nat) (x : Group) (i : Nat) : (s.setGroup a x).image i = s.image i := rfl
@[simp] theorem State.setGroup_src (s : State) (a : Nat) (x : Group) (i : Nat) : (s.setGroup a x).src i = s.src i := rfl
@[simp] theorem State.setGroup_member (s : State) (a : Nat) (x : Group) (i : Nat) : (s.setGroup a x).member i = s.member i := rfl
@[simp] theorem State.setGroup_memByte (s : State) (a : Nat) (x : Group) (i : Nat) : (s.setGroup a x).memByte i = s.memByte i := rfl

/-! ### setCart -/

@[simp] theorem State.setCart_pending (s : State) (a : Nat) (x : Cart) : (s.setCart a x).pending = s.pending := rfl
@[simp] theorem State.setCart_free (s : State) (a : Nat) (x : Cart) : (s.setCart a x).free = s.free := rfl
@[simp] theorem State.setCart_aon (s : State) (a : Nat) (x : Cart) : (s.setCart a x).aon = s.aon := rfl
@[simp] theorem State.setCart_regs (s : State) (a : Nat) (x : Cart) : (s.setCart a x).regs = s.regs := rfl
@[simp] theorem State.setCart_pwr (s : State) (a : Nat) (x : Cart) : (s.setCart a x).pwr = s.pwr := rfl
@[simp] theorem State.setCart_ports (s : State) (a : Nat) (x : Cart) : (s.setCart a x).ports = s.ports := rfl
@[simp] theorem State.setCart_sw (s : State) (a : Nat) (x : Cart) : (s.setCart a x).sw = s.sw := rfl
@[simp] theorem State.setCart_pools (s : State) (a : Nat) (x : Cart) : (s.setCart a x).pools = s.pools := rfl
@[simp] theorem State.setCart_flows (s : State) (a : Nat) (x : Cart) : (s.setCart a x).flows = s.flows := rfl
@[simp] theorem State.setCart_groups (s : State) (a : Nat) (x : Cart) : (s.setCart a x).groups = s.groups := rfl
@[simp] theorem State.setCart_mem (s : State) (a : Nat) (x : Cart) : (s.setCart a x).mem = s.mem := rfl
@[simp] theorem State.setCart_seq (s : State) (a : Nat) (x : Cart) : (s.setCart a x).seq = s.seq := rfl
@[simp] theorem State.setCart_shed (s : State) (a : Nat) (x : Cart) : (s.setCart a x).shed = s.shed := rfl
@[simp] theorem State.setCart_ctxs (s : State) (a : Nat) (x : Cart) : (s.setCart a x).ctxs = s.ctxs := rfl
@[simp] theorem State.setCart_grpCmd (s : State) (a : Nat) (x : Cart) : (s.setCart a x).grpCmd = s.grpCmd := rfl
@[simp] theorem State.setCart_host (s : State) (a : Nat) (x : Cart) : (s.setCart a x).host = s.host := rfl
@[simp] theorem State.setCart_fw (s : State) (a : Nat) (x : Cart) : (s.setCart a x).fw = s.fw := rfl
@[simp] theorem State.setCart_trd (s : State) (a : Nat) (x : Cart) : (s.setCart a x).trd = s.trd := rfl
@[simp] theorem State.setCart_thm (s : State) (a : Nat) (x : Cart) : (s.setCart a x).thm = s.thm := rfl
@[simp] theorem State.setCart_pair (s : State) (a : Nat) (x : Cart) : (s.setCart a x).pair = s.pair := rfl
@[simp] theorem State.setCart_cnt (s : State) (a : Nat) (x : Cart) : (s.setCart a x).cnt = s.cnt := rfl
@[simp] theorem State.setCart_reg (s : State) (a : Nat) (x : Cart) (i : Nat) : (s.setCart a x).reg i = s.reg i := rfl
@[simp] theorem State.setCart_rf (s : State) (a : Nat) (x : Cart) (i h l : Nat) : (s.setCart a x).rf i h l = s.rf i h l := rfl
@[simp] theorem State.setCart_port (s : State) (a : Nat) (x : Cart) (i : Nat) : (s.setCart a x).port i = s.port i := rfl
@[simp] theorem State.setCart_group (s : State) (a : Nat) (x : Cart) (i : Nat) : (s.setCart a x).group i = s.group i := rfl
@[simp] theorem State.setCart_dom (s : State) (a : Nat) (x : Cart) (i : Nat) : (s.setCart a x).dom i = s.dom i := rfl
@[simp] theorem State.setCart_isOff (s : State) (a : Nat) (x : Cart) (i : Nat) : (s.setCart a x).isOff i = s.isOff i := rfl
@[simp] theorem State.setCart_inq (s : State) (a : Nat) (x : Cart) (i j : Nat) : (s.setCart a x).inq i j = s.inq i j := rfl
@[simp] theorem State.setCart_outq (s : State) (a : Nat) (x : Cart) (i j : Nat) : (s.setCart a x).outq i j = s.outq i j := rfl
@[simp] theorem State.setCart_pool (s : State) (a : Nat) (x : Cart) (i : Nat) : (s.setCart a x).pool i = s.pool i := rfl
@[simp] theorem State.setCart_ctx (s : State) (a : Nat) (x : Cart) (i : Nat) : (s.setCart a x).ctx i = s.ctx i := rfl
@[simp] theorem State.setCart_image (s : State) (a : Nat) (x : Cart) (i : Nat) : (s.setCart a x).image i = s.image i := rfl
@[simp] theorem State.setCart_src (s : State) (a : Nat) (x : Cart) (i : Nat) : (s.setCart a x).src i = s.src i := rfl
@[simp] theorem State.setCart_member (s : State) (a : Nat) (x : Cart) (i : Nat) : (s.setCart a x).member i = s.member i := rfl
@[simp] theorem State.setCart_memByte (s : State) (a : Nat) (x : Cart) (i : Nat) : (s.setCart a x).memByte i = s.memByte i := rfl

/-! ### setDom -/

@[simp] theorem State.setDom_pending (s : State) (a : Nat) (x : Domain) : (s.setDom a x).pending = s.pending := rfl
@[simp] theorem State.setDom_free (s : State) (a : Nat) (x : Domain) : (s.setDom a x).free = s.free := rfl
@[simp] theorem State.setDom_aon (s : State) (a : Nat) (x : Domain) : (s.setDom a x).aon = s.aon := rfl
@[simp] theorem State.setDom_regs (s : State) (a : Nat) (x : Domain) : (s.setDom a x).regs = s.regs := rfl
@[simp] theorem State.setDom_ports (s : State) (a : Nat) (x : Domain) : (s.setDom a x).ports = s.ports := rfl
@[simp] theorem State.setDom_sw (s : State) (a : Nat) (x : Domain) : (s.setDom a x).sw = s.sw := rfl
@[simp] theorem State.setDom_pools (s : State) (a : Nat) (x : Domain) : (s.setDom a x).pools = s.pools := rfl
@[simp] theorem State.setDom_flows (s : State) (a : Nat) (x : Domain) : (s.setDom a x).flows = s.flows := rfl
@[simp] theorem State.setDom_groups (s : State) (a : Nat) (x : Domain) : (s.setDom a x).groups = s.groups := rfl
@[simp] theorem State.setDom_mem (s : State) (a : Nat) (x : Domain) : (s.setDom a x).mem = s.mem := rfl
@[simp] theorem State.setDom_seq (s : State) (a : Nat) (x : Domain) : (s.setDom a x).seq = s.seq := rfl
@[simp] theorem State.setDom_shed (s : State) (a : Nat) (x : Domain) : (s.setDom a x).shed = s.shed := rfl
@[simp] theorem State.setDom_ctxs (s : State) (a : Nat) (x : Domain) : (s.setDom a x).ctxs = s.ctxs := rfl
@[simp] theorem State.setDom_grpCmd (s : State) (a : Nat) (x : Domain) : (s.setDom a x).grpCmd = s.grpCmd := rfl
@[simp] theorem State.setDom_host (s : State) (a : Nat) (x : Domain) : (s.setDom a x).host = s.host := rfl
@[simp] theorem State.setDom_fw (s : State) (a : Nat) (x : Domain) : (s.setDom a x).fw = s.fw := rfl
@[simp] theorem State.setDom_trd (s : State) (a : Nat) (x : Domain) : (s.setDom a x).trd = s.trd := rfl
@[simp] theorem State.setDom_thm (s : State) (a : Nat) (x : Domain) : (s.setDom a x).thm = s.thm := rfl
@[simp] theorem State.setDom_carts (s : State) (a : Nat) (x : Domain) : (s.setDom a x).carts = s.carts := rfl
@[simp] theorem State.setDom_pair (s : State) (a : Nat) (x : Domain) : (s.setDom a x).pair = s.pair := rfl
@[simp] theorem State.setDom_cnt (s : State) (a : Nat) (x : Domain) : (s.setDom a x).cnt = s.cnt := rfl
@[simp] theorem State.setDom_reg (s : State) (a : Nat) (x : Domain) (i : Nat) : (s.setDom a x).reg i = s.reg i := rfl
@[simp] theorem State.setDom_rf (s : State) (a : Nat) (x : Domain) (i h l : Nat) : (s.setDom a x).rf i h l = s.rf i h l := rfl
@[simp] theorem State.setDom_port (s : State) (a : Nat) (x : Domain) (i : Nat) : (s.setDom a x).port i = s.port i := rfl
@[simp] theorem State.setDom_group (s : State) (a : Nat) (x : Domain) (i : Nat) : (s.setDom a x).group i = s.group i := rfl
@[simp] theorem State.setDom_cart (s : State) (a : Nat) (x : Domain) (i : Nat) : (s.setDom a x).cart i = s.cart i := rfl
@[simp] theorem State.setDom_inq (s : State) (a : Nat) (x : Domain) (i j : Nat) : (s.setDom a x).inq i j = s.inq i j := rfl
@[simp] theorem State.setDom_outq (s : State) (a : Nat) (x : Domain) (i j : Nat) : (s.setDom a x).outq i j = s.outq i j := rfl
@[simp] theorem State.setDom_pool (s : State) (a : Nat) (x : Domain) (i : Nat) : (s.setDom a x).pool i = s.pool i := rfl
@[simp] theorem State.setDom_ctx (s : State) (a : Nat) (x : Domain) (i : Nat) : (s.setDom a x).ctx i = s.ctx i := rfl
@[simp] theorem State.setDom_image (s : State) (a : Nat) (x : Domain) (i : Nat) : (s.setDom a x).image i = s.image i := rfl
@[simp] theorem State.setDom_src (s : State) (a : Nat) (x : Domain) (i : Nat) : (s.setDom a x).src i = s.src i := rfl
@[simp] theorem State.setDom_member (s : State) (a : Nat) (x : Domain) (i : Nat) : (s.setDom a x).member i = s.member i := rfl
@[simp] theorem State.setDom_memByte (s : State) (a : Nat) (x : Domain) (i : Nat) : (s.setDom a x).memByte i = s.memByte i := rfl

/-! ### toDepth -/

@[simp] theorem State.toDepth_pending (s : State) (a : Nat) (x : Depth) : (s.toDepth a x).pending = s.pending := rfl
@[simp] theorem State.toDepth_free (s : State) (a : Nat) (x : Depth) : (s.toDepth a x).free = s.free := rfl
@[simp] theorem State.toDepth_aon (s : State) (a : Nat) (x : Depth) : (s.toDepth a x).aon = s.aon := rfl
@[simp] theorem State.toDepth_regs (s : State) (a : Nat) (x : Depth) : (s.toDepth a x).regs = s.regs := rfl
@[simp] theorem State.toDepth_ports (s : State) (a : Nat) (x : Depth) : (s.toDepth a x).ports = s.ports := rfl
@[simp] theorem State.toDepth_sw (s : State) (a : Nat) (x : Depth) : (s.toDepth a x).sw = s.sw := rfl
@[simp] theorem State.toDepth_pools (s : State) (a : Nat) (x : Depth) : (s.toDepth a x).pools = s.pools := rfl
@[simp] theorem State.toDepth_flows (s : State) (a : Nat) (x : Depth) : (s.toDepth a x).flows = s.flows := rfl
@[simp] theorem State.toDepth_groups (s : State) (a : Nat) (x : Depth) : (s.toDepth a x).groups = s.groups := rfl
@[simp] theorem State.toDepth_mem (s : State) (a : Nat) (x : Depth) : (s.toDepth a x).mem = s.mem := rfl
@[simp] theorem State.toDepth_seq (s : State) (a : Nat) (x : Depth) : (s.toDepth a x).seq = s.seq := rfl
@[simp] theorem State.toDepth_shed (s : State) (a : Nat) (x : Depth) : (s.toDepth a x).shed = s.shed := rfl
@[simp] theorem State.toDepth_ctxs (s : State) (a : Nat) (x : Depth) : (s.toDepth a x).ctxs = s.ctxs := rfl
@[simp] theorem State.toDepth_grpCmd (s : State) (a : Nat) (x : Depth) : (s.toDepth a x).grpCmd = s.grpCmd := rfl
@[simp] theorem State.toDepth_host (s : State) (a : Nat) (x : Depth) : (s.toDepth a x).host = s.host := rfl
@[simp] theorem State.toDepth_fw (s : State) (a : Nat) (x : Depth) : (s.toDepth a x).fw = s.fw := rfl
@[simp] theorem State.toDepth_trd (s : State) (a : Nat) (x : Depth) : (s.toDepth a x).trd = s.trd := rfl
@[simp] theorem State.toDepth_thm (s : State) (a : Nat) (x : Depth) : (s.toDepth a x).thm = s.thm := rfl
@[simp] theorem State.toDepth_carts (s : State) (a : Nat) (x : Depth) : (s.toDepth a x).carts = s.carts := rfl
@[simp] theorem State.toDepth_pair (s : State) (a : Nat) (x : Depth) : (s.toDepth a x).pair = s.pair := rfl
@[simp] theorem State.toDepth_cnt (s : State) (a : Nat) (x : Depth) : (s.toDepth a x).cnt = s.cnt := rfl
@[simp] theorem State.toDepth_reg (s : State) (a : Nat) (x : Depth) (i : Nat) : (s.toDepth a x).reg i = s.reg i := rfl
@[simp] theorem State.toDepth_rf (s : State) (a : Nat) (x : Depth) (i h l : Nat) : (s.toDepth a x).rf i h l = s.rf i h l := rfl
@[simp] theorem State.toDepth_port (s : State) (a : Nat) (x : Depth) (i : Nat) : (s.toDepth a x).port i = s.port i := rfl
@[simp] theorem State.toDepth_group (s : State) (a : Nat) (x : Depth) (i : Nat) : (s.toDepth a x).group i = s.group i := rfl
@[simp] theorem State.toDepth_cart (s : State) (a : Nat) (x : Depth) (i : Nat) : (s.toDepth a x).cart i = s.cart i := rfl
@[simp] theorem State.toDepth_inq (s : State) (a : Nat) (x : Depth) (i j : Nat) : (s.toDepth a x).inq i j = s.inq i j := rfl
@[simp] theorem State.toDepth_outq (s : State) (a : Nat) (x : Depth) (i j : Nat) : (s.toDepth a x).outq i j = s.outq i j := rfl
@[simp] theorem State.toDepth_pool (s : State) (a : Nat) (x : Depth) (i : Nat) : (s.toDepth a x).pool i = s.pool i := rfl
@[simp] theorem State.toDepth_ctx (s : State) (a : Nat) (x : Depth) (i : Nat) : (s.toDepth a x).ctx i = s.ctx i := rfl
@[simp] theorem State.toDepth_image (s : State) (a : Nat) (x : Depth) (i : Nat) : (s.toDepth a x).image i = s.image i := rfl
@[simp] theorem State.toDepth_src (s : State) (a : Nat) (x : Depth) (i : Nat) : (s.toDepth a x).src i = s.src i := rfl
@[simp] theorem State.toDepth_member (s : State) (a : Nat) (x : Depth) (i : Nat) : (s.toDepth a x).member i = s.member i := rfl
@[simp] theorem State.toDepth_memByte (s : State) (a : Nat) (x : Depth) (i : Nat) : (s.toDepth a x).memByte i = s.memByte i := rfl

/-! ### toOff -/

@[simp] theorem State.toOff_pending (s : State) (a : Nat) (x : OffKind) : (s.toOff a x).pending = s.pending := rfl
@[simp] theorem State.toOff_free (s : State) (a : Nat) (x : OffKind) : (s.toOff a x).free = s.free := rfl
@[simp] theorem State.toOff_aon (s : State) (a : Nat) (x : OffKind) : (s.toOff a x).aon = s.aon := rfl
@[simp] theorem State.toOff_regs (s : State) (a : Nat) (x : OffKind) : (s.toOff a x).regs = s.regs := rfl
@[simp] theorem State.toOff_ports (s : State) (a : Nat) (x : OffKind) : (s.toOff a x).ports = s.ports := rfl
@[simp] theorem State.toOff_sw (s : State) (a : Nat) (x : OffKind) : (s.toOff a x).sw = s.sw := rfl
@[simp] theorem State.toOff_pools (s : State) (a : Nat) (x : OffKind) : (s.toOff a x).pools = s.pools := rfl
@[simp] theorem State.toOff_flows (s : State) (a : Nat) (x : OffKind) : (s.toOff a x).flows = s.flows := rfl
@[simp] theorem State.toOff_groups (s : State) (a : Nat) (x : OffKind) : (s.toOff a x).groups = s.groups := rfl
@[simp] theorem State.toOff_mem (s : State) (a : Nat) (x : OffKind) : (s.toOff a x).mem = s.mem := rfl
@[simp] theorem State.toOff_seq (s : State) (a : Nat) (x : OffKind) : (s.toOff a x).seq = s.seq := rfl
@[simp] theorem State.toOff_shed (s : State) (a : Nat) (x : OffKind) : (s.toOff a x).shed = s.shed := rfl
@[simp] theorem State.toOff_ctxs (s : State) (a : Nat) (x : OffKind) : (s.toOff a x).ctxs = s.ctxs := rfl
@[simp] theorem State.toOff_grpCmd (s : State) (a : Nat) (x : OffKind) : (s.toOff a x).grpCmd = s.grpCmd := rfl
@[simp] theorem State.toOff_host (s : State) (a : Nat) (x : OffKind) : (s.toOff a x).host = s.host := rfl
@[simp] theorem State.toOff_fw (s : State) (a : Nat) (x : OffKind) : (s.toOff a x).fw = s.fw := rfl
@[simp] theorem State.toOff_trd (s : State) (a : Nat) (x : OffKind) : (s.toOff a x).trd = s.trd := rfl
@[simp] theorem State.toOff_thm (s : State) (a : Nat) (x : OffKind) : (s.toOff a x).thm = s.thm := rfl
@[simp] theorem State.toOff_carts (s : State) (a : Nat) (x : OffKind) : (s.toOff a x).carts = s.carts := rfl
@[simp] theorem State.toOff_pair (s : State) (a : Nat) (x : OffKind) : (s.toOff a x).pair = s.pair := rfl
@[simp] theorem State.toOff_cnt (s : State) (a : Nat) (x : OffKind) : (s.toOff a x).cnt = s.cnt := rfl
@[simp] theorem State.toOff_reg (s : State) (a : Nat) (x : OffKind) (i : Nat) : (s.toOff a x).reg i = s.reg i := rfl
@[simp] theorem State.toOff_rf (s : State) (a : Nat) (x : OffKind) (i h l : Nat) : (s.toOff a x).rf i h l = s.rf i h l := rfl
@[simp] theorem State.toOff_port (s : State) (a : Nat) (x : OffKind) (i : Nat) : (s.toOff a x).port i = s.port i := rfl
@[simp] theorem State.toOff_group (s : State) (a : Nat) (x : OffKind) (i : Nat) : (s.toOff a x).group i = s.group i := rfl
@[simp] theorem State.toOff_cart (s : State) (a : Nat) (x : OffKind) (i : Nat) : (s.toOff a x).cart i = s.cart i := rfl
@[simp] theorem State.toOff_inq (s : State) (a : Nat) (x : OffKind) (i j : Nat) : (s.toOff a x).inq i j = s.inq i j := rfl
@[simp] theorem State.toOff_outq (s : State) (a : Nat) (x : OffKind) (i j : Nat) : (s.toOff a x).outq i j = s.outq i j := rfl
@[simp] theorem State.toOff_pool (s : State) (a : Nat) (x : OffKind) (i : Nat) : (s.toOff a x).pool i = s.pool i := rfl
@[simp] theorem State.toOff_ctx (s : State) (a : Nat) (x : OffKind) (i : Nat) : (s.toOff a x).ctx i = s.ctx i := rfl
@[simp] theorem State.toOff_image (s : State) (a : Nat) (x : OffKind) (i : Nat) : (s.toOff a x).image i = s.image i := rfl
@[simp] theorem State.toOff_src (s : State) (a : Nat) (x : OffKind) (i : Nat) : (s.toOff a x).src i = s.src i := rfl
@[simp] theorem State.toOff_member (s : State) (a : Nat) (x : OffKind) (i : Nat) : (s.toOff a x).member i = s.member i := rfl
@[simp] theorem State.toOff_memByte (s : State) (a : Nat) (x : OffKind) (i : Nat) : (s.toOff a x).memByte i = s.memByte i := rfl

/-! ### setInq -/

@[simp] theorem State.setInq_pending (s : State) (a v : Nat) (x : List QPkt) : (s.setInq a v x).pending = s.pending := rfl
@[simp] theorem State.setInq_free (s : State) (a v : Nat) (x : List QPkt) : (s.setInq a v x).free = s.free := rfl
@[simp] theorem State.setInq_aon (s : State) (a v : Nat) (x : List QPkt) : (s.setInq a v x).aon = s.aon := rfl
@[simp] theorem State.setInq_regs (s : State) (a v : Nat) (x : List QPkt) : (s.setInq a v x).regs = s.regs := rfl
@[simp] theorem State.setInq_pwr (s : State) (a v : Nat) (x : List QPkt) : (s.setInq a v x).pwr = s.pwr := rfl
@[simp] theorem State.setInq_ports (s : State) (a v : Nat) (x : List QPkt) : (s.setInq a v x).ports = s.ports := rfl
@[simp] theorem State.setInq_pools (s : State) (a v : Nat) (x : List QPkt) : (s.setInq a v x).pools = s.pools := rfl
@[simp] theorem State.setInq_flows (s : State) (a v : Nat) (x : List QPkt) : (s.setInq a v x).flows = s.flows := rfl
@[simp] theorem State.setInq_groups (s : State) (a v : Nat) (x : List QPkt) : (s.setInq a v x).groups = s.groups := rfl
@[simp] theorem State.setInq_mem (s : State) (a v : Nat) (x : List QPkt) : (s.setInq a v x).mem = s.mem := rfl
@[simp] theorem State.setInq_seq (s : State) (a v : Nat) (x : List QPkt) : (s.setInq a v x).seq = s.seq := rfl
@[simp] theorem State.setInq_shed (s : State) (a v : Nat) (x : List QPkt) : (s.setInq a v x).shed = s.shed := rfl
@[simp] theorem State.setInq_ctxs (s : State) (a v : Nat) (x : List QPkt) : (s.setInq a v x).ctxs = s.ctxs := rfl
@[simp] theorem State.setInq_grpCmd (s : State) (a v : Nat) (x : List QPkt) : (s.setInq a v x).grpCmd = s.grpCmd := rfl
@[simp] theorem State.setInq_host (s : State) (a v : Nat) (x : List QPkt) : (s.setInq a v x).host = s.host := rfl
@[simp] theorem State.setInq_fw (s : State) (a v : Nat) (x : List QPkt) : (s.setInq a v x).fw = s.fw := rfl
@[simp] theorem State.setInq_trd (s : State) (a v : Nat) (x : List QPkt) : (s.setInq a v x).trd = s.trd := rfl
@[simp] theorem State.setInq_thm (s : State) (a v : Nat) (x : List QPkt) : (s.setInq a v x).thm = s.thm := rfl
@[simp] theorem State.setInq_carts (s : State) (a v : Nat) (x : List QPkt) : (s.setInq a v x).carts = s.carts := rfl
@[simp] theorem State.setInq_pair (s : State) (a v : Nat) (x : List QPkt) : (s.setInq a v x).pair = s.pair := rfl
@[simp] theorem State.setInq_cnt (s : State) (a v : Nat) (x : List QPkt) : (s.setInq a v x).cnt = s.cnt := rfl
@[simp] theorem State.setInq_reg (s : State) (a v : Nat) (x : List QPkt) (i : Nat) : (s.setInq a v x).reg i = s.reg i := rfl
@[simp] theorem State.setInq_rf (s : State) (a v : Nat) (x : List QPkt) (i h l : Nat) : (s.setInq a v x).rf i h l = s.rf i h l := rfl
@[simp] theorem State.setInq_port (s : State) (a v : Nat) (x : List QPkt) (i : Nat) : (s.setInq a v x).port i = s.port i := rfl
@[simp] theorem State.setInq_group (s : State) (a v : Nat) (x : List QPkt) (i : Nat) : (s.setInq a v x).group i = s.group i := rfl
@[simp] theorem State.setInq_cart (s : State) (a v : Nat) (x : List QPkt) (i : Nat) : (s.setInq a v x).cart i = s.cart i := rfl
@[simp] theorem State.setInq_dom (s : State) (a v : Nat) (x : List QPkt) (i : Nat) : (s.setInq a v x).dom i = s.dom i := rfl
@[simp] theorem State.setInq_isOff (s : State) (a v : Nat) (x : List QPkt) (i : Nat) : (s.setInq a v x).isOff i = s.isOff i := rfl
@[simp] theorem State.setInq_pool (s : State) (a v : Nat) (x : List QPkt) (i : Nat) : (s.setInq a v x).pool i = s.pool i := rfl
@[simp] theorem State.setInq_ctx (s : State) (a v : Nat) (x : List QPkt) (i : Nat) : (s.setInq a v x).ctx i = s.ctx i := rfl
@[simp] theorem State.setInq_image (s : State) (a v : Nat) (x : List QPkt) (i : Nat) : (s.setInq a v x).image i = s.image i := rfl
@[simp] theorem State.setInq_src (s : State) (a v : Nat) (x : List QPkt) (i : Nat) : (s.setInq a v x).src i = s.src i := rfl
@[simp] theorem State.setInq_member (s : State) (a v : Nat) (x : List QPkt) (i : Nat) : (s.setInq a v x).member i = s.member i := rfl
@[simp] theorem State.setInq_memByte (s : State) (a v : Nat) (x : List QPkt) (i : Nat) : (s.setInq a v x).memByte i = s.memByte i := rfl

/-! ### setOutq -/

@[simp] theorem State.setOutq_pending (s : State) (a v : Nat) (x : List QPkt) : (s.setOutq a v x).pending = s.pending := rfl
@[simp] theorem State.setOutq_free (s : State) (a v : Nat) (x : List QPkt) : (s.setOutq a v x).free = s.free := rfl
@[simp] theorem State.setOutq_aon (s : State) (a v : Nat) (x : List QPkt) : (s.setOutq a v x).aon = s.aon := rfl
@[simp] theorem State.setOutq_regs (s : State) (a v : Nat) (x : List QPkt) : (s.setOutq a v x).regs = s.regs := rfl
@[simp] theorem State.setOutq_pwr (s : State) (a v : Nat) (x : List QPkt) : (s.setOutq a v x).pwr = s.pwr := rfl
@[simp] theorem State.setOutq_ports (s : State) (a v : Nat) (x : List QPkt) : (s.setOutq a v x).ports = s.ports := rfl
@[simp] theorem State.setOutq_pools (s : State) (a v : Nat) (x : List QPkt) : (s.setOutq a v x).pools = s.pools := rfl
@[simp] theorem State.setOutq_flows (s : State) (a v : Nat) (x : List QPkt) : (s.setOutq a v x).flows = s.flows := rfl
@[simp] theorem State.setOutq_groups (s : State) (a v : Nat) (x : List QPkt) : (s.setOutq a v x).groups = s.groups := rfl
@[simp] theorem State.setOutq_mem (s : State) (a v : Nat) (x : List QPkt) : (s.setOutq a v x).mem = s.mem := rfl
@[simp] theorem State.setOutq_seq (s : State) (a v : Nat) (x : List QPkt) : (s.setOutq a v x).seq = s.seq := rfl
@[simp] theorem State.setOutq_shed (s : State) (a v : Nat) (x : List QPkt) : (s.setOutq a v x).shed = s.shed := rfl
@[simp] theorem State.setOutq_ctxs (s : State) (a v : Nat) (x : List QPkt) : (s.setOutq a v x).ctxs = s.ctxs := rfl
@[simp] theorem State.setOutq_grpCmd (s : State) (a v : Nat) (x : List QPkt) : (s.setOutq a v x).grpCmd = s.grpCmd := rfl
@[simp] theorem State.setOutq_host (s : State) (a v : Nat) (x : List QPkt) : (s.setOutq a v x).host = s.host := rfl
@[simp] theorem State.setOutq_fw (s : State) (a v : Nat) (x : List QPkt) : (s.setOutq a v x).fw = s.fw := rfl
@[simp] theorem State.setOutq_trd (s : State) (a v : Nat) (x : List QPkt) : (s.setOutq a v x).trd = s.trd := rfl
@[simp] theorem State.setOutq_thm (s : State) (a v : Nat) (x : List QPkt) : (s.setOutq a v x).thm = s.thm := rfl
@[simp] theorem State.setOutq_carts (s : State) (a v : Nat) (x : List QPkt) : (s.setOutq a v x).carts = s.carts := rfl
@[simp] theorem State.setOutq_pair (s : State) (a v : Nat) (x : List QPkt) : (s.setOutq a v x).pair = s.pair := rfl
@[simp] theorem State.setOutq_cnt (s : State) (a v : Nat) (x : List QPkt) : (s.setOutq a v x).cnt = s.cnt := rfl
@[simp] theorem State.setOutq_reg (s : State) (a v : Nat) (x : List QPkt) (i : Nat) : (s.setOutq a v x).reg i = s.reg i := rfl
@[simp] theorem State.setOutq_rf (s : State) (a v : Nat) (x : List QPkt) (i h l : Nat) : (s.setOutq a v x).rf i h l = s.rf i h l := rfl
@[simp] theorem State.setOutq_port (s : State) (a v : Nat) (x : List QPkt) (i : Nat) : (s.setOutq a v x).port i = s.port i := rfl
@[simp] theorem State.setOutq_group (s : State) (a v : Nat) (x : List QPkt) (i : Nat) : (s.setOutq a v x).group i = s.group i := rfl
@[simp] theorem State.setOutq_cart (s : State) (a v : Nat) (x : List QPkt) (i : Nat) : (s.setOutq a v x).cart i = s.cart i := rfl
@[simp] theorem State.setOutq_dom (s : State) (a v : Nat) (x : List QPkt) (i : Nat) : (s.setOutq a v x).dom i = s.dom i := rfl
@[simp] theorem State.setOutq_isOff (s : State) (a v : Nat) (x : List QPkt) (i : Nat) : (s.setOutq a v x).isOff i = s.isOff i := rfl
@[simp] theorem State.setOutq_pool (s : State) (a v : Nat) (x : List QPkt) (i : Nat) : (s.setOutq a v x).pool i = s.pool i := rfl
@[simp] theorem State.setOutq_ctx (s : State) (a v : Nat) (x : List QPkt) (i : Nat) : (s.setOutq a v x).ctx i = s.ctx i := rfl
@[simp] theorem State.setOutq_image (s : State) (a v : Nat) (x : List QPkt) (i : Nat) : (s.setOutq a v x).image i = s.image i := rfl
@[simp] theorem State.setOutq_src (s : State) (a v : Nat) (x : List QPkt) (i : Nat) : (s.setOutq a v x).src i = s.src i := rfl
@[simp] theorem State.setOutq_member (s : State) (a v : Nat) (x : List QPkt) (i : Nat) : (s.setOutq a v x).member i = s.member i := rfl
@[simp] theorem State.setOutq_memByte (s : State) (a v : Nat) (x : List QPkt) (i : Nat) : (s.setOutq a v x).memByte i = s.memByte i := rfl

/-! ### setPool -/

@[simp] theorem State.setPool_pending (s : State) (a : Nat) (x : Pool) : (s.setPool a x).pending = s.pending := rfl
@[simp] theorem State.setPool_free (s : State) (a : Nat) (x : Pool) : (s.setPool a x).free = s.free := rfl
@[simp] theorem State.setPool_aon (s : State) (a : Nat) (x : Pool) : (s.setPool a x).aon = s.aon := rfl
@[simp] theorem State.setPool_regs (s : State) (a : Nat) (x : Pool) : (s.setPool a x).regs = s.regs := rfl
@[simp] theorem State.setPool_pwr (s : State) (a : Nat) (x : Pool) : (s.setPool a x).pwr = s.pwr := rfl
@[simp] theorem State.setPool_ports (s : State) (a : Nat) (x : Pool) : (s.setPool a x).ports = s.ports := rfl
@[simp] theorem State.setPool_sw (s : State) (a : Nat) (x : Pool) : (s.setPool a x).sw = s.sw := rfl
@[simp] theorem State.setPool_flows (s : State) (a : Nat) (x : Pool) : (s.setPool a x).flows = s.flows := rfl
@[simp] theorem State.setPool_groups (s : State) (a : Nat) (x : Pool) : (s.setPool a x).groups = s.groups := rfl
@[simp] theorem State.setPool_mem (s : State) (a : Nat) (x : Pool) : (s.setPool a x).mem = s.mem := rfl
@[simp] theorem State.setPool_seq (s : State) (a : Nat) (x : Pool) : (s.setPool a x).seq = s.seq := rfl
@[simp] theorem State.setPool_shed (s : State) (a : Nat) (x : Pool) : (s.setPool a x).shed = s.shed := rfl
@[simp] theorem State.setPool_ctxs (s : State) (a : Nat) (x : Pool) : (s.setPool a x).ctxs = s.ctxs := rfl
@[simp] theorem State.setPool_grpCmd (s : State) (a : Nat) (x : Pool) : (s.setPool a x).grpCmd = s.grpCmd := rfl
@[simp] theorem State.setPool_host (s : State) (a : Nat) (x : Pool) : (s.setPool a x).host = s.host := rfl
@[simp] theorem State.setPool_fw (s : State) (a : Nat) (x : Pool) : (s.setPool a x).fw = s.fw := rfl
@[simp] theorem State.setPool_trd (s : State) (a : Nat) (x : Pool) : (s.setPool a x).trd = s.trd := rfl
@[simp] theorem State.setPool_thm (s : State) (a : Nat) (x : Pool) : (s.setPool a x).thm = s.thm := rfl
@[simp] theorem State.setPool_carts (s : State) (a : Nat) (x : Pool) : (s.setPool a x).carts = s.carts := rfl
@[simp] theorem State.setPool_pair (s : State) (a : Nat) (x : Pool) : (s.setPool a x).pair = s.pair := rfl
@[simp] theorem State.setPool_cnt (s : State) (a : Nat) (x : Pool) : (s.setPool a x).cnt = s.cnt := rfl
@[simp] theorem State.setPool_reg (s : State) (a : Nat) (x : Pool) (i : Nat) : (s.setPool a x).reg i = s.reg i := rfl
@[simp] theorem State.setPool_rf (s : State) (a : Nat) (x : Pool) (i h l : Nat) : (s.setPool a x).rf i h l = s.rf i h l := rfl
@[simp] theorem State.setPool_port (s : State) (a : Nat) (x : Pool) (i : Nat) : (s.setPool a x).port i = s.port i := rfl
@[simp] theorem State.setPool_group (s : State) (a : Nat) (x : Pool) (i : Nat) : (s.setPool a x).group i = s.group i := rfl
@[simp] theorem State.setPool_cart (s : State) (a : Nat) (x : Pool) (i : Nat) : (s.setPool a x).cart i = s.cart i := rfl
@[simp] theorem State.setPool_dom (s : State) (a : Nat) (x : Pool) (i : Nat) : (s.setPool a x).dom i = s.dom i := rfl
@[simp] theorem State.setPool_isOff (s : State) (a : Nat) (x : Pool) (i : Nat) : (s.setPool a x).isOff i = s.isOff i := rfl
@[simp] theorem State.setPool_inq (s : State) (a : Nat) (x : Pool) (i j : Nat) : (s.setPool a x).inq i j = s.inq i j := rfl
@[simp] theorem State.setPool_outq (s : State) (a : Nat) (x : Pool) (i j : Nat) : (s.setPool a x).outq i j = s.outq i j := rfl
@[simp] theorem State.setPool_ctx (s : State) (a : Nat) (x : Pool) (i : Nat) : (s.setPool a x).ctx i = s.ctx i := rfl
@[simp] theorem State.setPool_image (s : State) (a : Nat) (x : Pool) (i : Nat) : (s.setPool a x).image i = s.image i := rfl
@[simp] theorem State.setPool_src (s : State) (a : Nat) (x : Pool) (i : Nat) : (s.setPool a x).src i = s.src i := rfl
@[simp] theorem State.setPool_member (s : State) (a : Nat) (x : Pool) (i : Nat) : (s.setPool a x).member i = s.member i := rfl
@[simp] theorem State.setPool_memByte (s : State) (a : Nat) (x : Pool) (i : Nat) : (s.setPool a x).memByte i = s.memByte i := rfl

/-! ### setCtx -/

@[simp] theorem State.setCtx_pending (s : State) (a : Nat) (x : Ctx) : (s.setCtx a x).pending = s.pending := rfl
@[simp] theorem State.setCtx_free (s : State) (a : Nat) (x : Ctx) : (s.setCtx a x).free = s.free := rfl
@[simp] theorem State.setCtx_aon (s : State) (a : Nat) (x : Ctx) : (s.setCtx a x).aon = s.aon := rfl
@[simp] theorem State.setCtx_regs (s : State) (a : Nat) (x : Ctx) : (s.setCtx a x).regs = s.regs := rfl
@[simp] theorem State.setCtx_pwr (s : State) (a : Nat) (x : Ctx) : (s.setCtx a x).pwr = s.pwr := rfl
@[simp] theorem State.setCtx_ports (s : State) (a : Nat) (x : Ctx) : (s.setCtx a x).ports = s.ports := rfl
@[simp] theorem State.setCtx_sw (s : State) (a : Nat) (x : Ctx) : (s.setCtx a x).sw = s.sw := rfl
@[simp] theorem State.setCtx_pools (s : State) (a : Nat) (x : Ctx) : (s.setCtx a x).pools = s.pools := rfl
@[simp] theorem State.setCtx_flows (s : State) (a : Nat) (x : Ctx) : (s.setCtx a x).flows = s.flows := rfl
@[simp] theorem State.setCtx_groups (s : State) (a : Nat) (x : Ctx) : (s.setCtx a x).groups = s.groups := rfl
@[simp] theorem State.setCtx_mem (s : State) (a : Nat) (x : Ctx) : (s.setCtx a x).mem = s.mem := rfl
@[simp] theorem State.setCtx_seq (s : State) (a : Nat) (x : Ctx) : (s.setCtx a x).seq = s.seq := rfl
@[simp] theorem State.setCtx_shed (s : State) (a : Nat) (x : Ctx) : (s.setCtx a x).shed = s.shed := rfl
@[simp] theorem State.setCtx_grpCmd (s : State) (a : Nat) (x : Ctx) : (s.setCtx a x).grpCmd = s.grpCmd := rfl
@[simp] theorem State.setCtx_host (s : State) (a : Nat) (x : Ctx) : (s.setCtx a x).host = s.host := rfl
@[simp] theorem State.setCtx_fw (s : State) (a : Nat) (x : Ctx) : (s.setCtx a x).fw = s.fw := rfl
@[simp] theorem State.setCtx_trd (s : State) (a : Nat) (x : Ctx) : (s.setCtx a x).trd = s.trd := rfl
@[simp] theorem State.setCtx_thm (s : State) (a : Nat) (x : Ctx) : (s.setCtx a x).thm = s.thm := rfl
@[simp] theorem State.setCtx_carts (s : State) (a : Nat) (x : Ctx) : (s.setCtx a x).carts = s.carts := rfl
@[simp] theorem State.setCtx_pair (s : State) (a : Nat) (x : Ctx) : (s.setCtx a x).pair = s.pair := rfl
@[simp] theorem State.setCtx_cnt (s : State) (a : Nat) (x : Ctx) : (s.setCtx a x).cnt = s.cnt := rfl
@[simp] theorem State.setCtx_reg (s : State) (a : Nat) (x : Ctx) (i : Nat) : (s.setCtx a x).reg i = s.reg i := rfl
@[simp] theorem State.setCtx_rf (s : State) (a : Nat) (x : Ctx) (i h l : Nat) : (s.setCtx a x).rf i h l = s.rf i h l := rfl
@[simp] theorem State.setCtx_port (s : State) (a : Nat) (x : Ctx) (i : Nat) : (s.setCtx a x).port i = s.port i := rfl
@[simp] theorem State.setCtx_group (s : State) (a : Nat) (x : Ctx) (i : Nat) : (s.setCtx a x).group i = s.group i := rfl
@[simp] theorem State.setCtx_cart (s : State) (a : Nat) (x : Ctx) (i : Nat) : (s.setCtx a x).cart i = s.cart i := rfl
@[simp] theorem State.setCtx_dom (s : State) (a : Nat) (x : Ctx) (i : Nat) : (s.setCtx a x).dom i = s.dom i := rfl
@[simp] theorem State.setCtx_isOff (s : State) (a : Nat) (x : Ctx) (i : Nat) : (s.setCtx a x).isOff i = s.isOff i := rfl
@[simp] theorem State.setCtx_inq (s : State) (a : Nat) (x : Ctx) (i j : Nat) : (s.setCtx a x).inq i j = s.inq i j := rfl
@[simp] theorem State.setCtx_outq (s : State) (a : Nat) (x : Ctx) (i j : Nat) : (s.setCtx a x).outq i j = s.outq i j := rfl
@[simp] theorem State.setCtx_pool (s : State) (a : Nat) (x : Ctx) (i : Nat) : (s.setCtx a x).pool i = s.pool i := rfl
@[simp] theorem State.setCtx_image (s : State) (a : Nat) (x : Ctx) (i : Nat) : (s.setCtx a x).image i = s.image i := rfl
@[simp] theorem State.setCtx_src (s : State) (a : Nat) (x : Ctx) (i : Nat) : (s.setCtx a x).src i = s.src i := rfl
@[simp] theorem State.setCtx_member (s : State) (a : Nat) (x : Ctx) (i : Nat) : (s.setCtx a x).member i = s.member i := rfl
@[simp] theorem State.setCtx_memByte (s : State) (a : Nat) (x : Ctx) (i : Nat) : (s.setCtx a x).memByte i = s.memByte i := rfl

/-! ### updCtx -/

@[simp] theorem State.updCtx_pending (s : State) (a : Nat) (f : Ctx → Ctx) : (s.updCtx a f).pending = s.pending := rfl
@[simp] theorem State.updCtx_free (s : State) (a : Nat) (f : Ctx → Ctx) : (s.updCtx a f).free = s.free := rfl
@[simp] theorem State.updCtx_aon (s : State) (a : Nat) (f : Ctx → Ctx) : (s.updCtx a f).aon = s.aon := rfl
@[simp] theorem State.updCtx_regs (s : State) (a : Nat) (f : Ctx → Ctx) : (s.updCtx a f).regs = s.regs := rfl
@[simp] theorem State.updCtx_pwr (s : State) (a : Nat) (f : Ctx → Ctx) : (s.updCtx a f).pwr = s.pwr := rfl
@[simp] theorem State.updCtx_ports (s : State) (a : Nat) (f : Ctx → Ctx) : (s.updCtx a f).ports = s.ports := rfl
@[simp] theorem State.updCtx_sw (s : State) (a : Nat) (f : Ctx → Ctx) : (s.updCtx a f).sw = s.sw := rfl
@[simp] theorem State.updCtx_pools (s : State) (a : Nat) (f : Ctx → Ctx) : (s.updCtx a f).pools = s.pools := rfl
@[simp] theorem State.updCtx_flows (s : State) (a : Nat) (f : Ctx → Ctx) : (s.updCtx a f).flows = s.flows := rfl
@[simp] theorem State.updCtx_groups (s : State) (a : Nat) (f : Ctx → Ctx) : (s.updCtx a f).groups = s.groups := rfl
@[simp] theorem State.updCtx_mem (s : State) (a : Nat) (f : Ctx → Ctx) : (s.updCtx a f).mem = s.mem := rfl
@[simp] theorem State.updCtx_seq (s : State) (a : Nat) (f : Ctx → Ctx) : (s.updCtx a f).seq = s.seq := rfl
@[simp] theorem State.updCtx_shed (s : State) (a : Nat) (f : Ctx → Ctx) : (s.updCtx a f).shed = s.shed := rfl
@[simp] theorem State.updCtx_grpCmd (s : State) (a : Nat) (f : Ctx → Ctx) : (s.updCtx a f).grpCmd = s.grpCmd := rfl
@[simp] theorem State.updCtx_host (s : State) (a : Nat) (f : Ctx → Ctx) : (s.updCtx a f).host = s.host := rfl
@[simp] theorem State.updCtx_fw (s : State) (a : Nat) (f : Ctx → Ctx) : (s.updCtx a f).fw = s.fw := rfl
@[simp] theorem State.updCtx_trd (s : State) (a : Nat) (f : Ctx → Ctx) : (s.updCtx a f).trd = s.trd := rfl
@[simp] theorem State.updCtx_thm (s : State) (a : Nat) (f : Ctx → Ctx) : (s.updCtx a f).thm = s.thm := rfl
@[simp] theorem State.updCtx_carts (s : State) (a : Nat) (f : Ctx → Ctx) : (s.updCtx a f).carts = s.carts := rfl
@[simp] theorem State.updCtx_pair (s : State) (a : Nat) (f : Ctx → Ctx) : (s.updCtx a f).pair = s.pair := rfl
@[simp] theorem State.updCtx_cnt (s : State) (a : Nat) (f : Ctx → Ctx) : (s.updCtx a f).cnt = s.cnt := rfl
@[simp] theorem State.updCtx_reg (s : State) (a : Nat) (f : Ctx → Ctx) (i : Nat) : (s.updCtx a f).reg i = s.reg i := rfl
@[simp] theorem State.updCtx_rf (s : State) (a : Nat) (f : Ctx → Ctx) (i h l : Nat) : (s.updCtx a f).rf i h l = s.rf i h l := rfl
@[simp] theorem State.updCtx_port (s : State) (a : Nat) (f : Ctx → Ctx) (i : Nat) : (s.updCtx a f).port i = s.port i := rfl
@[simp] theorem State.updCtx_group (s : State) (a : Nat) (f : Ctx → Ctx) (i : Nat) : (s.updCtx a f).group i = s.group i := rfl
@[simp] theorem State.updCtx_cart (s : State) (a : Nat) (f : Ctx → Ctx) (i : Nat) : (s.updCtx a f).cart i = s.cart i := rfl
@[simp] theorem State.updCtx_dom (s : State) (a : Nat) (f : Ctx → Ctx) (i : Nat) : (s.updCtx a f).dom i = s.dom i := rfl
@[simp] theorem State.updCtx_isOff (s : State) (a : Nat) (f : Ctx → Ctx) (i : Nat) : (s.updCtx a f).isOff i = s.isOff i := rfl
@[simp] theorem State.updCtx_inq (s : State) (a : Nat) (f : Ctx → Ctx) (i j : Nat) : (s.updCtx a f).inq i j = s.inq i j := rfl
@[simp] theorem State.updCtx_outq (s : State) (a : Nat) (f : Ctx → Ctx) (i j : Nat) : (s.updCtx a f).outq i j = s.outq i j := rfl
@[simp] theorem State.updCtx_pool (s : State) (a : Nat) (f : Ctx → Ctx) (i : Nat) : (s.updCtx a f).pool i = s.pool i := rfl
@[simp] theorem State.updCtx_image (s : State) (a : Nat) (f : Ctx → Ctx) (i : Nat) : (s.updCtx a f).image i = s.image i := rfl
@[simp] theorem State.updCtx_src (s : State) (a : Nat) (f : Ctx → Ctx) (i : Nat) : (s.updCtx a f).src i = s.src i := rfl
@[simp] theorem State.updCtx_member (s : State) (a : Nat) (f : Ctx → Ctx) (i : Nat) : (s.updCtx a f).member i = s.member i := rfl
@[simp] theorem State.updCtx_memByte (s : State) (a : Nat) (f : Ctx → Ctx) (i : Nat) : (s.updCtx a f).memByte i = s.memByte i := rfl

/-! ### setImage -/

@[simp] theorem State.setImage_pending (s : State) (a : Nat) (x : Option Image) : (s.setImage a x).pending = s.pending := rfl
@[simp] theorem State.setImage_free (s : State) (a : Nat) (x : Option Image) : (s.setImage a x).free = s.free := rfl
@[simp] theorem State.setImage_aon (s : State) (a : Nat) (x : Option Image) : (s.setImage a x).aon = s.aon := rfl
@[simp] theorem State.setImage_regs (s : State) (a : Nat) (x : Option Image) : (s.setImage a x).regs = s.regs := rfl
@[simp] theorem State.setImage_pwr (s : State) (a : Nat) (x : Option Image) : (s.setImage a x).pwr = s.pwr := rfl
@[simp] theorem State.setImage_ports (s : State) (a : Nat) (x : Option Image) : (s.setImage a x).ports = s.ports := rfl
@[simp] theorem State.setImage_sw (s : State) (a : Nat) (x : Option Image) : (s.setImage a x).sw = s.sw := rfl
@[simp] theorem State.setImage_pools (s : State) (a : Nat) (x : Option Image) : (s.setImage a x).pools = s.pools := rfl
@[simp] theorem State.setImage_flows (s : State) (a : Nat) (x : Option Image) : (s.setImage a x).flows = s.flows := rfl
@[simp] theorem State.setImage_groups (s : State) (a : Nat) (x : Option Image) : (s.setImage a x).groups = s.groups := rfl
@[simp] theorem State.setImage_mem (s : State) (a : Nat) (x : Option Image) : (s.setImage a x).mem = s.mem := rfl
@[simp] theorem State.setImage_seq (s : State) (a : Nat) (x : Option Image) : (s.setImage a x).seq = s.seq := rfl
@[simp] theorem State.setImage_ctxs (s : State) (a : Nat) (x : Option Image) : (s.setImage a x).ctxs = s.ctxs := rfl
@[simp] theorem State.setImage_grpCmd (s : State) (a : Nat) (x : Option Image) : (s.setImage a x).grpCmd = s.grpCmd := rfl
@[simp] theorem State.setImage_host (s : State) (a : Nat) (x : Option Image) : (s.setImage a x).host = s.host := rfl
@[simp] theorem State.setImage_fw (s : State) (a : Nat) (x : Option Image) : (s.setImage a x).fw = s.fw := rfl
@[simp] theorem State.setImage_trd (s : State) (a : Nat) (x : Option Image) : (s.setImage a x).trd = s.trd := rfl
@[simp] theorem State.setImage_thm (s : State) (a : Nat) (x : Option Image) : (s.setImage a x).thm = s.thm := rfl
@[simp] theorem State.setImage_carts (s : State) (a : Nat) (x : Option Image) : (s.setImage a x).carts = s.carts := rfl
@[simp] theorem State.setImage_pair (s : State) (a : Nat) (x : Option Image) : (s.setImage a x).pair = s.pair := rfl
@[simp] theorem State.setImage_cnt (s : State) (a : Nat) (x : Option Image) : (s.setImage a x).cnt = s.cnt := rfl
@[simp] theorem State.setImage_reg (s : State) (a : Nat) (x : Option Image) (i : Nat) : (s.setImage a x).reg i = s.reg i := rfl
@[simp] theorem State.setImage_rf (s : State) (a : Nat) (x : Option Image) (i h l : Nat) : (s.setImage a x).rf i h l = s.rf i h l := rfl
@[simp] theorem State.setImage_port (s : State) (a : Nat) (x : Option Image) (i : Nat) : (s.setImage a x).port i = s.port i := rfl
@[simp] theorem State.setImage_group (s : State) (a : Nat) (x : Option Image) (i : Nat) : (s.setImage a x).group i = s.group i := rfl
@[simp] theorem State.setImage_cart (s : State) (a : Nat) (x : Option Image) (i : Nat) : (s.setImage a x).cart i = s.cart i := rfl
@[simp] theorem State.setImage_dom (s : State) (a : Nat) (x : Option Image) (i : Nat) : (s.setImage a x).dom i = s.dom i := rfl
@[simp] theorem State.setImage_isOff (s : State) (a : Nat) (x : Option Image) (i : Nat) : (s.setImage a x).isOff i = s.isOff i := rfl
@[simp] theorem State.setImage_inq (s : State) (a : Nat) (x : Option Image) (i j : Nat) : (s.setImage a x).inq i j = s.inq i j := rfl
@[simp] theorem State.setImage_outq (s : State) (a : Nat) (x : Option Image) (i j : Nat) : (s.setImage a x).outq i j = s.outq i j := rfl
@[simp] theorem State.setImage_pool (s : State) (a : Nat) (x : Option Image) (i : Nat) : (s.setImage a x).pool i = s.pool i := rfl
@[simp] theorem State.setImage_ctx (s : State) (a : Nat) (x : Option Image) (i : Nat) : (s.setImage a x).ctx i = s.ctx i := rfl
@[simp] theorem State.setImage_src (s : State) (a : Nat) (x : Option Image) (i : Nat) : (s.setImage a x).src i = s.src i := rfl
@[simp] theorem State.setImage_member (s : State) (a : Nat) (x : Option Image) (i : Nat) : (s.setImage a x).member i = s.member i := rfl
@[simp] theorem State.setImage_memByte (s : State) (a : Nat) (x : Option Image) (i : Nat) : (s.setImage a x).memByte i = s.memByte i := rfl

/-! ### setSrc -/

@[simp] theorem State.setSrc_pending (s : State) (a : Nat) (x : SrcWin) : (s.setSrc a x).pending = s.pending := rfl
@[simp] theorem State.setSrc_free (s : State) (a : Nat) (x : SrcWin) : (s.setSrc a x).free = s.free := rfl
@[simp] theorem State.setSrc_aon (s : State) (a : Nat) (x : SrcWin) : (s.setSrc a x).aon = s.aon := rfl
@[simp] theorem State.setSrc_regs (s : State) (a : Nat) (x : SrcWin) : (s.setSrc a x).regs = s.regs := rfl
@[simp] theorem State.setSrc_pwr (s : State) (a : Nat) (x : SrcWin) : (s.setSrc a x).pwr = s.pwr := rfl
@[simp] theorem State.setSrc_ports (s : State) (a : Nat) (x : SrcWin) : (s.setSrc a x).ports = s.ports := rfl
@[simp] theorem State.setSrc_sw (s : State) (a : Nat) (x : SrcWin) : (s.setSrc a x).sw = s.sw := rfl
@[simp] theorem State.setSrc_pools (s : State) (a : Nat) (x : SrcWin) : (s.setSrc a x).pools = s.pools := rfl
@[simp] theorem State.setSrc_groups (s : State) (a : Nat) (x : SrcWin) : (s.setSrc a x).groups = s.groups := rfl
@[simp] theorem State.setSrc_mem (s : State) (a : Nat) (x : SrcWin) : (s.setSrc a x).mem = s.mem := rfl
@[simp] theorem State.setSrc_seq (s : State) (a : Nat) (x : SrcWin) : (s.setSrc a x).seq = s.seq := rfl
@[simp] theorem State.setSrc_shed (s : State) (a : Nat) (x : SrcWin) : (s.setSrc a x).shed = s.shed := rfl
@[simp] theorem State.setSrc_ctxs (s : State) (a : Nat) (x : SrcWin) : (s.setSrc a x).ctxs = s.ctxs := rfl
@[simp] theorem State.setSrc_grpCmd (s : State) (a : Nat) (x : SrcWin) : (s.setSrc a x).grpCmd = s.grpCmd := rfl
@[simp] theorem State.setSrc_host (s : State) (a : Nat) (x : SrcWin) : (s.setSrc a x).host = s.host := rfl
@[simp] theorem State.setSrc_fw (s : State) (a : Nat) (x : SrcWin) : (s.setSrc a x).fw = s.fw := rfl
@[simp] theorem State.setSrc_trd (s : State) (a : Nat) (x : SrcWin) : (s.setSrc a x).trd = s.trd := rfl
@[simp] theorem State.setSrc_thm (s : State) (a : Nat) (x : SrcWin) : (s.setSrc a x).thm = s.thm := rfl
@[simp] theorem State.setSrc_carts (s : State) (a : Nat) (x : SrcWin) : (s.setSrc a x).carts = s.carts := rfl
@[simp] theorem State.setSrc_pair (s : State) (a : Nat) (x : SrcWin) : (s.setSrc a x).pair = s.pair := rfl
@[simp] theorem State.setSrc_cnt (s : State) (a : Nat) (x : SrcWin) : (s.setSrc a x).cnt = s.cnt := rfl
@[simp] theorem State.setSrc_reg (s : State) (a : Nat) (x : SrcWin) (i : Nat) : (s.setSrc a x).reg i = s.reg i := rfl
@[simp] theorem State.setSrc_rf (s : State) (a : Nat) (x : SrcWin) (i h l : Nat) : (s.setSrc a x).rf i h l = s.rf i h l := rfl
@[simp] theorem State.setSrc_port (s : State) (a : Nat) (x : SrcWin) (i : Nat) : (s.setSrc a x).port i = s.port i := rfl
@[simp] theorem State.setSrc_group (s : State) (a : Nat) (x : SrcWin) (i : Nat) : (s.setSrc a x).group i = s.group i := rfl
@[simp] theorem State.setSrc_cart (s : State) (a : Nat) (x : SrcWin) (i : Nat) : (s.setSrc a x).cart i = s.cart i := rfl
@[simp] theorem State.setSrc_dom (s : State) (a : Nat) (x : SrcWin) (i : Nat) : (s.setSrc a x).dom i = s.dom i := rfl
@[simp] theorem State.setSrc_isOff (s : State) (a : Nat) (x : SrcWin) (i : Nat) : (s.setSrc a x).isOff i = s.isOff i := rfl
@[simp] theorem State.setSrc_inq (s : State) (a : Nat) (x : SrcWin) (i j : Nat) : (s.setSrc a x).inq i j = s.inq i j := rfl
@[simp] theorem State.setSrc_outq (s : State) (a : Nat) (x : SrcWin) (i j : Nat) : (s.setSrc a x).outq i j = s.outq i j := rfl
@[simp] theorem State.setSrc_pool (s : State) (a : Nat) (x : SrcWin) (i : Nat) : (s.setSrc a x).pool i = s.pool i := rfl
@[simp] theorem State.setSrc_ctx (s : State) (a : Nat) (x : SrcWin) (i : Nat) : (s.setSrc a x).ctx i = s.ctx i := rfl
@[simp] theorem State.setSrc_image (s : State) (a : Nat) (x : SrcWin) (i : Nat) : (s.setSrc a x).image i = s.image i := rfl
@[simp] theorem State.setSrc_member (s : State) (a : Nat) (x : SrcWin) (i : Nat) : (s.setSrc a x).member i = s.member i := rfl
@[simp] theorem State.setSrc_memByte (s : State) (a : Nat) (x : SrcWin) (i : Nat) : (s.setSrc a x).memByte i = s.memByte i := rfl

/-! ### setMember -/

@[simp] theorem State.setMember_pending (s : State) (a : Nat) (x : Member) : (s.setMember a x).pending = s.pending := rfl
@[simp] theorem State.setMember_free (s : State) (a : Nat) (x : Member) : (s.setMember a x).free = s.free := rfl
@[simp] theorem State.setMember_aon (s : State) (a : Nat) (x : Member) : (s.setMember a x).aon = s.aon := rfl
@[simp] theorem State.setMember_regs (s : State) (a : Nat) (x : Member) : (s.setMember a x).regs = s.regs := rfl
@[simp] theorem State.setMember_pwr (s : State) (a : Nat) (x : Member) : (s.setMember a x).pwr = s.pwr := rfl
@[simp] theorem State.setMember_ports (s : State) (a : Nat) (x : Member) : (s.setMember a x).ports = s.ports := rfl
@[simp] theorem State.setMember_sw (s : State) (a : Nat) (x : Member) : (s.setMember a x).sw = s.sw := rfl
@[simp] theorem State.setMember_pools (s : State) (a : Nat) (x : Member) : (s.setMember a x).pools = s.pools := rfl
@[simp] theorem State.setMember_flows (s : State) (a : Nat) (x : Member) : (s.setMember a x).flows = s.flows := rfl
@[simp] theorem State.setMember_groups (s : State) (a : Nat) (x : Member) : (s.setMember a x).groups = s.groups := rfl
@[simp] theorem State.setMember_mem (s : State) (a : Nat) (x : Member) : (s.setMember a x).mem = s.mem := rfl
@[simp] theorem State.setMember_seq (s : State) (a : Nat) (x : Member) : (s.setMember a x).seq = s.seq := rfl
@[simp] theorem State.setMember_shed (s : State) (a : Nat) (x : Member) : (s.setMember a x).shed = s.shed := rfl
@[simp] theorem State.setMember_ctxs (s : State) (a : Nat) (x : Member) : (s.setMember a x).ctxs = s.ctxs := rfl
@[simp] theorem State.setMember_grpCmd (s : State) (a : Nat) (x : Member) : (s.setMember a x).grpCmd = s.grpCmd := rfl
@[simp] theorem State.setMember_fw (s : State) (a : Nat) (x : Member) : (s.setMember a x).fw = s.fw := rfl
@[simp] theorem State.setMember_trd (s : State) (a : Nat) (x : Member) : (s.setMember a x).trd = s.trd := rfl
@[simp] theorem State.setMember_thm (s : State) (a : Nat) (x : Member) : (s.setMember a x).thm = s.thm := rfl
@[simp] theorem State.setMember_carts (s : State) (a : Nat) (x : Member) : (s.setMember a x).carts = s.carts := rfl
@[simp] theorem State.setMember_pair (s : State) (a : Nat) (x : Member) : (s.setMember a x).pair = s.pair := rfl
@[simp] theorem State.setMember_cnt (s : State) (a : Nat) (x : Member) : (s.setMember a x).cnt = s.cnt := rfl
@[simp] theorem State.setMember_reg (s : State) (a : Nat) (x : Member) (i : Nat) : (s.setMember a x).reg i = s.reg i := rfl
@[simp] theorem State.setMember_rf (s : State) (a : Nat) (x : Member) (i h l : Nat) : (s.setMember a x).rf i h l = s.rf i h l := rfl
@[simp] theorem State.setMember_port (s : State) (a : Nat) (x : Member) (i : Nat) : (s.setMember a x).port i = s.port i := rfl
@[simp] theorem State.setMember_group (s : State) (a : Nat) (x : Member) (i : Nat) : (s.setMember a x).group i = s.group i := rfl
@[simp] theorem State.setMember_cart (s : State) (a : Nat) (x : Member) (i : Nat) : (s.setMember a x).cart i = s.cart i := rfl
@[simp] theorem State.setMember_dom (s : State) (a : Nat) (x : Member) (i : Nat) : (s.setMember a x).dom i = s.dom i := rfl
@[simp] theorem State.setMember_isOff (s : State) (a : Nat) (x : Member) (i : Nat) : (s.setMember a x).isOff i = s.isOff i := rfl
@[simp] theorem State.setMember_inq (s : State) (a : Nat) (x : Member) (i j : Nat) : (s.setMember a x).inq i j = s.inq i j := rfl
@[simp] theorem State.setMember_outq (s : State) (a : Nat) (x : Member) (i j : Nat) : (s.setMember a x).outq i j = s.outq i j := rfl
@[simp] theorem State.setMember_pool (s : State) (a : Nat) (x : Member) (i : Nat) : (s.setMember a x).pool i = s.pool i := rfl
@[simp] theorem State.setMember_ctx (s : State) (a : Nat) (x : Member) (i : Nat) : (s.setMember a x).ctx i = s.ctx i := rfl
@[simp] theorem State.setMember_image (s : State) (a : Nat) (x : Member) (i : Nat) : (s.setMember a x).image i = s.image i := rfl
@[simp] theorem State.setMember_src (s : State) (a : Nat) (x : Member) (i : Nat) : (s.setMember a x).src i = s.src i := rfl
@[simp] theorem State.setMember_memByte (s : State) (a : Nat) (x : Member) (i : Nat) : (s.setMember a x).memByte i = s.memByte i := rfl

/-! ### memPut -/

@[simp] theorem State.memPut_pending (s : State) (a : Nat) (x : List Byte) : (s.memPut a x).pending = s.pending := rfl
@[simp] theorem State.memPut_free (s : State) (a : Nat) (x : List Byte) : (s.memPut a x).free = s.free := rfl
@[simp] theorem State.memPut_aon (s : State) (a : Nat) (x : List Byte) : (s.memPut a x).aon = s.aon := rfl
@[simp] theorem State.memPut_regs (s : State) (a : Nat) (x : List Byte) : (s.memPut a x).regs = s.regs := rfl
@[simp] theorem State.memPut_pwr (s : State) (a : Nat) (x : List Byte) : (s.memPut a x).pwr = s.pwr := rfl
@[simp] theorem State.memPut_ports (s : State) (a : Nat) (x : List Byte) : (s.memPut a x).ports = s.ports := rfl
@[simp] theorem State.memPut_sw (s : State) (a : Nat) (x : List Byte) : (s.memPut a x).sw = s.sw := rfl
@[simp] theorem State.memPut_pools (s : State) (a : Nat) (x : List Byte) : (s.memPut a x).pools = s.pools := rfl
@[simp] theorem State.memPut_flows (s : State) (a : Nat) (x : List Byte) : (s.memPut a x).flows = s.flows := rfl
@[simp] theorem State.memPut_groups (s : State) (a : Nat) (x : List Byte) : (s.memPut a x).groups = s.groups := rfl
@[simp] theorem State.memPut_seq (s : State) (a : Nat) (x : List Byte) : (s.memPut a x).seq = s.seq := rfl
@[simp] theorem State.memPut_shed (s : State) (a : Nat) (x : List Byte) : (s.memPut a x).shed = s.shed := rfl
@[simp] theorem State.memPut_ctxs (s : State) (a : Nat) (x : List Byte) : (s.memPut a x).ctxs = s.ctxs := rfl
@[simp] theorem State.memPut_grpCmd (s : State) (a : Nat) (x : List Byte) : (s.memPut a x).grpCmd = s.grpCmd := rfl
@[simp] theorem State.memPut_host (s : State) (a : Nat) (x : List Byte) : (s.memPut a x).host = s.host := rfl
@[simp] theorem State.memPut_fw (s : State) (a : Nat) (x : List Byte) : (s.memPut a x).fw = s.fw := rfl
@[simp] theorem State.memPut_trd (s : State) (a : Nat) (x : List Byte) : (s.memPut a x).trd = s.trd := rfl
@[simp] theorem State.memPut_thm (s : State) (a : Nat) (x : List Byte) : (s.memPut a x).thm = s.thm := rfl
@[simp] theorem State.memPut_carts (s : State) (a : Nat) (x : List Byte) : (s.memPut a x).carts = s.carts := rfl
@[simp] theorem State.memPut_pair (s : State) (a : Nat) (x : List Byte) : (s.memPut a x).pair = s.pair := rfl
@[simp] theorem State.memPut_cnt (s : State) (a : Nat) (x : List Byte) : (s.memPut a x).cnt = s.cnt := rfl
@[simp] theorem State.memPut_reg (s : State) (a : Nat) (x : List Byte) (i : Nat) : (s.memPut a x).reg i = s.reg i := rfl
@[simp] theorem State.memPut_rf (s : State) (a : Nat) (x : List Byte) (i h l : Nat) : (s.memPut a x).rf i h l = s.rf i h l := rfl
@[simp] theorem State.memPut_port (s : State) (a : Nat) (x : List Byte) (i : Nat) : (s.memPut a x).port i = s.port i := rfl
@[simp] theorem State.memPut_group (s : State) (a : Nat) (x : List Byte) (i : Nat) : (s.memPut a x).group i = s.group i := rfl
@[simp] theorem State.memPut_cart (s : State) (a : Nat) (x : List Byte) (i : Nat) : (s.memPut a x).cart i = s.cart i := rfl
@[simp] theorem State.memPut_dom (s : State) (a : Nat) (x : List Byte) (i : Nat) : (s.memPut a x).dom i = s.dom i := rfl
@[simp] theorem State.memPut_isOff (s : State) (a : Nat) (x : List Byte) (i : Nat) : (s.memPut a x).isOff i = s.isOff i := rfl
@[simp] theorem State.memPut_inq (s : State) (a : Nat) (x : List Byte) (i j : Nat) : (s.memPut a x).inq i j = s.inq i j := rfl
@[simp] theorem State.memPut_outq (s : State) (a : Nat) (x : List Byte) (i j : Nat) : (s.memPut a x).outq i j = s.outq i j := rfl
@[simp] theorem State.memPut_pool (s : State) (a : Nat) (x : List Byte) (i : Nat) : (s.memPut a x).pool i = s.pool i := rfl
@[simp] theorem State.memPut_ctx (s : State) (a : Nat) (x : List Byte) (i : Nat) : (s.memPut a x).ctx i = s.ctx i := rfl
@[simp] theorem State.memPut_image (s : State) (a : Nat) (x : List Byte) (i : Nat) : (s.memPut a x).image i = s.image i := rfl
@[simp] theorem State.memPut_src (s : State) (a : Nat) (x : List Byte) (i : Nat) : (s.memPut a x).src i = s.src i := rfl
@[simp] theorem State.memPut_member (s : State) (a : Nat) (x : List Byte) (i : Nat) : (s.memPut a x).member i = s.member i := rfl

/-! ### memClear -/

@[simp] theorem State.memClear_pending (s : State) (a n : Nat) : (s.memClear a n).pending = s.pending := rfl
@[simp] theorem State.memClear_free (s : State) (a n : Nat) : (s.memClear a n).free = s.free := rfl
@[simp] theorem State.memClear_aon (s : State) (a n : Nat) : (s.memClear a n).aon = s.aon := rfl
@[simp] theorem State.memClear_regs (s : State) (a n : Nat) : (s.memClear a n).regs = s.regs := rfl
@[simp] theorem State.memClear_pwr (s : State) (a n : Nat) : (s.memClear a n).pwr = s.pwr := rfl
@[simp] theorem State.memClear_ports (s : State) (a n : Nat) : (s.memClear a n).ports = s.ports := rfl
@[simp] theorem State.memClear_sw (s : State) (a n : Nat) : (s.memClear a n).sw = s.sw := rfl
@[simp] theorem State.memClear_pools (s : State) (a n : Nat) : (s.memClear a n).pools = s.pools := rfl
@[simp] theorem State.memClear_flows (s : State) (a n : Nat) : (s.memClear a n).flows = s.flows := rfl
@[simp] theorem State.memClear_groups (s : State) (a n : Nat) : (s.memClear a n).groups = s.groups := rfl
@[simp] theorem State.memClear_seq (s : State) (a n : Nat) : (s.memClear a n).seq = s.seq := rfl
@[simp] theorem State.memClear_shed (s : State) (a n : Nat) : (s.memClear a n).shed = s.shed := rfl
@[simp] theorem State.memClear_ctxs (s : State) (a n : Nat) : (s.memClear a n).ctxs = s.ctxs := rfl
@[simp] theorem State.memClear_grpCmd (s : State) (a n : Nat) : (s.memClear a n).grpCmd = s.grpCmd := rfl
@[simp] theorem State.memClear_host (s : State) (a n : Nat) : (s.memClear a n).host = s.host := rfl
@[simp] theorem State.memClear_fw (s : State) (a n : Nat) : (s.memClear a n).fw = s.fw := rfl
@[simp] theorem State.memClear_trd (s : State) (a n : Nat) : (s.memClear a n).trd = s.trd := rfl
@[simp] theorem State.memClear_thm (s : State) (a n : Nat) : (s.memClear a n).thm = s.thm := rfl
@[simp] theorem State.memClear_carts (s : State) (a n : Nat) : (s.memClear a n).carts = s.carts := rfl
@[simp] theorem State.memClear_pair (s : State) (a n : Nat) : (s.memClear a n).pair = s.pair := rfl
@[simp] theorem State.memClear_cnt (s : State) (a n : Nat) : (s.memClear a n).cnt = s.cnt := rfl
@[simp] theorem State.memClear_reg (s : State) (a n : Nat) (i : Nat) : (s.memClear a n).reg i = s.reg i := rfl
@[simp] theorem State.memClear_rf (s : State) (a n : Nat) (i h l : Nat) : (s.memClear a n).rf i h l = s.rf i h l := rfl
@[simp] theorem State.memClear_port (s : State) (a n : Nat) (i : Nat) : (s.memClear a n).port i = s.port i := rfl
@[simp] theorem State.memClear_group (s : State) (a n : Nat) (i : Nat) : (s.memClear a n).group i = s.group i := rfl
@[simp] theorem State.memClear_cart (s : State) (a n : Nat) (i : Nat) : (s.memClear a n).cart i = s.cart i := rfl
@[simp] theorem State.memClear_dom (s : State) (a n : Nat) (i : Nat) : (s.memClear a n).dom i = s.dom i := rfl
@[simp] theorem State.memClear_isOff (s : State) (a n : Nat) (i : Nat) : (s.memClear a n).isOff i = s.isOff i := rfl
@[simp] theorem State.memClear_inq (s : State) (a n : Nat) (i j : Nat) : (s.memClear a n).inq i j = s.inq i j := rfl
@[simp] theorem State.memClear_outq (s : State) (a n : Nat) (i j : Nat) : (s.memClear a n).outq i j = s.outq i j := rfl
@[simp] theorem State.memClear_pool (s : State) (a n : Nat) (i : Nat) : (s.memClear a n).pool i = s.pool i := rfl
@[simp] theorem State.memClear_ctx (s : State) (a n : Nat) (i : Nat) : (s.memClear a n).ctx i = s.ctx i := rfl
@[simp] theorem State.memClear_image (s : State) (a n : Nat) (i : Nat) : (s.memClear a n).image i = s.image i := rfl
@[simp] theorem State.memClear_src (s : State) (a n : Nat) (i : Nat) : (s.memClear a n).src i = s.src i := rfl
@[simp] theorem State.memClear_member (s : State) (a n : Nat) (i : Nat) : (s.memClear a n).member i = s.member i := rfl

/-! ### hold -/

@[simp] theorem State.hold_pending (s : State) (a : Nat) : (s.hold a).pending = s.pending := rfl
@[simp] theorem State.hold_free (s : State) (a : Nat) : (s.hold a).free = s.free := rfl
@[simp] theorem State.hold_aon (s : State) (a : Nat) : (s.hold a).aon = s.aon := rfl
@[simp] theorem State.hold_regs (s : State) (a : Nat) : (s.hold a).regs = s.regs := rfl
@[simp] theorem State.hold_pwr (s : State) (a : Nat) : (s.hold a).pwr = s.pwr := rfl
@[simp] theorem State.hold_ports (s : State) (a : Nat) : (s.hold a).ports = s.ports := rfl
@[simp] theorem State.hold_sw (s : State) (a : Nat) : (s.hold a).sw = s.sw := rfl
@[simp] theorem State.hold_pools (s : State) (a : Nat) : (s.hold a).pools = s.pools := rfl
@[simp] theorem State.hold_flows (s : State) (a : Nat) : (s.hold a).flows = s.flows := rfl
@[simp] theorem State.hold_groups (s : State) (a : Nat) : (s.hold a).groups = s.groups := rfl
@[simp] theorem State.hold_mem (s : State) (a : Nat) : (s.hold a).mem = s.mem := rfl
@[simp] theorem State.hold_seq (s : State) (a : Nat) : (s.hold a).seq = s.seq := rfl
@[simp] theorem State.hold_shed (s : State) (a : Nat) : (s.hold a).shed = s.shed := rfl
@[simp] theorem State.hold_ctxs (s : State) (a : Nat) : (s.hold a).ctxs = s.ctxs := rfl
@[simp] theorem State.hold_grpCmd (s : State) (a : Nat) : (s.hold a).grpCmd = s.grpCmd := rfl
@[simp] theorem State.hold_fw (s : State) (a : Nat) : (s.hold a).fw = s.fw := rfl
@[simp] theorem State.hold_trd (s : State) (a : Nat) : (s.hold a).trd = s.trd := rfl
@[simp] theorem State.hold_thm (s : State) (a : Nat) : (s.hold a).thm = s.thm := rfl
@[simp] theorem State.hold_carts (s : State) (a : Nat) : (s.hold a).carts = s.carts := rfl
@[simp] theorem State.hold_pair (s : State) (a : Nat) : (s.hold a).pair = s.pair := rfl
@[simp] theorem State.hold_cnt (s : State) (a : Nat) : (s.hold a).cnt = s.cnt := rfl
@[simp] theorem State.hold_reg (s : State) (a : Nat) (i : Nat) : (s.hold a).reg i = s.reg i := rfl
@[simp] theorem State.hold_rf (s : State) (a : Nat) (i h l : Nat) : (s.hold a).rf i h l = s.rf i h l := rfl
@[simp] theorem State.hold_port (s : State) (a : Nat) (i : Nat) : (s.hold a).port i = s.port i := rfl
@[simp] theorem State.hold_group (s : State) (a : Nat) (i : Nat) : (s.hold a).group i = s.group i := rfl
@[simp] theorem State.hold_cart (s : State) (a : Nat) (i : Nat) : (s.hold a).cart i = s.cart i := rfl
@[simp] theorem State.hold_dom (s : State) (a : Nat) (i : Nat) : (s.hold a).dom i = s.dom i := rfl
@[simp] theorem State.hold_isOff (s : State) (a : Nat) (i : Nat) : (s.hold a).isOff i = s.isOff i := rfl
@[simp] theorem State.hold_inq (s : State) (a : Nat) (i j : Nat) : (s.hold a).inq i j = s.inq i j := rfl
@[simp] theorem State.hold_outq (s : State) (a : Nat) (i j : Nat) : (s.hold a).outq i j = s.outq i j := rfl
@[simp] theorem State.hold_pool (s : State) (a : Nat) (i : Nat) : (s.hold a).pool i = s.pool i := rfl
@[simp] theorem State.hold_ctx (s : State) (a : Nat) (i : Nat) : (s.hold a).ctx i = s.ctx i := rfl
@[simp] theorem State.hold_image (s : State) (a : Nat) (i : Nat) : (s.hold a).image i = s.image i := rfl
@[simp] theorem State.hold_src (s : State) (a : Nat) (i : Nat) : (s.hold a).src i = s.src i := rfl
@[simp] theorem State.hold_memByte (s : State) (a : Nat) (i : Nat) : (s.hold a).memByte i = s.memByte i := rfl

/-! ### setRegs -/

@[simp] theorem State.setRegs_pending (s : State) (a : Nat) (l : List Word) : (s.setRegs a l).pending = s.pending := by
  induction l generalizing s a with
  | nil => rfl
  | cons w r ih => exact (ih _ _).trans rfl
@[simp] theorem State.setRegs_free (s : State) (a : Nat) (l : List Word) : (s.setRegs a l).free = s.free := by
  induction l generalizing s a with
  | nil => rfl
  | cons w r ih => exact (ih _ _).trans rfl
@[simp] theorem State.setRegs_aon (s : State) (a : Nat) (l : List Word) : (s.setRegs a l).aon = s.aon := by
  induction l generalizing s a with
  | nil => rfl
  | cons w r ih => exact (ih _ _).trans rfl
@[simp] theorem State.setRegs_pwr (s : State) (a : Nat) (l : List Word) : (s.setRegs a l).pwr = s.pwr := by
  induction l generalizing s a with
  | nil => rfl
  | cons w r ih => exact (ih _ _).trans rfl
@[simp] theorem State.setRegs_ports (s : State) (a : Nat) (l : List Word) : (s.setRegs a l).ports = s.ports := by
  induction l generalizing s a with
  | nil => rfl
  | cons w r ih => exact (ih _ _).trans rfl
@[simp] theorem State.setRegs_sw (s : State) (a : Nat) (l : List Word) : (s.setRegs a l).sw = s.sw := by
  induction l generalizing s a with
  | nil => rfl
  | cons w r ih => exact (ih _ _).trans rfl
@[simp] theorem State.setRegs_pools (s : State) (a : Nat) (l : List Word) : (s.setRegs a l).pools = s.pools := by
  induction l generalizing s a with
  | nil => rfl
  | cons w r ih => exact (ih _ _).trans rfl
@[simp] theorem State.setRegs_flows (s : State) (a : Nat) (l : List Word) : (s.setRegs a l).flows = s.flows := by
  induction l generalizing s a with
  | nil => rfl
  | cons w r ih => exact (ih _ _).trans rfl
@[simp] theorem State.setRegs_groups (s : State) (a : Nat) (l : List Word) : (s.setRegs a l).groups = s.groups := by
  induction l generalizing s a with
  | nil => rfl
  | cons w r ih => exact (ih _ _).trans rfl
@[simp] theorem State.setRegs_mem (s : State) (a : Nat) (l : List Word) : (s.setRegs a l).mem = s.mem := by
  induction l generalizing s a with
  | nil => rfl
  | cons w r ih => exact (ih _ _).trans rfl
@[simp] theorem State.setRegs_seq (s : State) (a : Nat) (l : List Word) : (s.setRegs a l).seq = s.seq := by
  induction l generalizing s a with
  | nil => rfl
  | cons w r ih => exact (ih _ _).trans rfl
@[simp] theorem State.setRegs_shed (s : State) (a : Nat) (l : List Word) : (s.setRegs a l).shed = s.shed := by
  induction l generalizing s a with
  | nil => rfl
  | cons w r ih => exact (ih _ _).trans rfl
@[simp] theorem State.setRegs_ctxs (s : State) (a : Nat) (l : List Word) : (s.setRegs a l).ctxs = s.ctxs := by
  induction l generalizing s a with
  | nil => rfl
  | cons w r ih => exact (ih _ _).trans rfl
@[simp] theorem State.setRegs_grpCmd (s : State) (a : Nat) (l : List Word) : (s.setRegs a l).grpCmd = s.grpCmd := by
  induction l generalizing s a with
  | nil => rfl
  | cons w r ih => exact (ih _ _).trans rfl
@[simp] theorem State.setRegs_host (s : State) (a : Nat) (l : List Word) : (s.setRegs a l).host = s.host := by
  induction l generalizing s a with
  | nil => rfl
  | cons w r ih => exact (ih _ _).trans rfl
@[simp] theorem State.setRegs_fw (s : State) (a : Nat) (l : List Word) : (s.setRegs a l).fw = s.fw := by
  induction l generalizing s a with
  | nil => rfl
  | cons w r ih => exact (ih _ _).trans rfl
@[simp] theorem State.setRegs_trd (s : State) (a : Nat) (l : List Word) : (s.setRegs a l).trd = s.trd := by
  induction l generalizing s a with
  | nil => rfl
  | cons w r ih => exact (ih _ _).trans rfl
@[simp] theorem State.setRegs_thm (s : State) (a : Nat) (l : List Word) : (s.setRegs a l).thm = s.thm := by
  induction l generalizing s a with
  | nil => rfl
  | cons w r ih => exact (ih _ _).trans rfl
@[simp] theorem State.setRegs_carts (s : State) (a : Nat) (l : List Word) : (s.setRegs a l).carts = s.carts := by
  induction l generalizing s a with
  | nil => rfl
  | cons w r ih => exact (ih _ _).trans rfl
@[simp] theorem State.setRegs_pair (s : State) (a : Nat) (l : List Word) : (s.setRegs a l).pair = s.pair := by
  induction l generalizing s a with
  | nil => rfl
  | cons w r ih => exact (ih _ _).trans rfl
@[simp] theorem State.setRegs_cnt (s : State) (a : Nat) (l : List Word) : (s.setRegs a l).cnt = s.cnt := by
  induction l generalizing s a with
  | nil => rfl
  | cons w r ih => exact (ih _ _).trans rfl

/-! ### What is read back where it was written -/

theorem State.reg_setReg (s : State) (a i : Nat) (v : Word) : (s.setReg a v).reg i = if i = a then v else s.reg i :=
  tabGet_tabSet _ _ _ _ _
@[simp] theorem State.reg_setReg_same (s : State) (a : Nat) (v : Word) : (s.setReg a v).reg a = v := by
  simp [State.reg_setReg]
theorem State.reg_setReg_ne (s : State) {a i : Nat} (v : Word) (h : i ≠ a) : (s.setReg a v).reg i = s.reg i := by
  simp [State.reg_setReg, h]
theorem State.reg_setRf_ne (s : State) {a i : Nat} (h l v : Nat) (n : i ≠ a) : (s.setRf a h l v).reg i = s.reg i :=
  s.reg_setReg_ne _ n
theorem State.reg_bump_ne (s : State) {a i : Nat} (h l v : Nat) (n : i ≠ a) : (s.bump a h l v).reg i = s.reg i :=
  s.reg_setReg_ne _ n
/-- The field that was written, within a word, reads as the value within its width. -/
theorem State.rf_setRf_same (s : State) (a h l v : Nat) (b : h < 32) :
    (s.setRf a h l v).rf a h l = v % 2 ^ (h + 1 - l) := by
  simp [State.rf, State.setRf, fld_putFld_same _ _ _ _ b]
/-- A field of the same register apart from the one that was written reads as before. -/
theorem State.rf_setRf_other (s : State) (a h l v h' l' : Nat) (d : h' < l ∨ h < l') :
    (s.setRf a h l v).rf a h' l' = s.rf a h' l' := by
  simp [State.rf, State.setRf, fld_putFld_other _ _ _ _ _ _ d]
theorem State.rf_setRf_ne (s : State) {a i : Nat} (h l v h' l' : Nat) (n : i ≠ a) :
    (s.setRf a h l v).rf i h' l' = s.rf i h' l' := by simp [State.rf, s.reg_setRf_ne h l v n]
theorem State.rf_setReg_ne (s : State) {a i : Nat} (v : Word) (h l : Nat) (n : i ≠ a) :
    (s.setReg a v).rf i h l = s.rf i h l := by simp [State.rf, s.reg_setReg_ne v n]
/-- A saturating count goes up by n to the end of its field. -/
theorem State.rf_bump_same (s : State) (a h l n : Nat) (b : h < 32) :
    (s.bump a h l n).rf a h l = satAdd (h + 1 - l) (s.rf a h l) n := by
  rw [State.bump, s.rf_setRf_same _ _ _ _ b]
  exact Nat.mod_eq_of_lt (lt_of_le_of_lt (satAdd_le _ _ _) (Nat.sub_lt (Nat.two_pow_pos _) Nat.one_pos))
theorem State.reg_clearRegs (s : State) (p : Nat → Bool) (i : Nat) :
    (s.clearRegs p).reg i = if p i then regReset i else s.reg i := tabGet_tabClear _ _ _ _
/-- Consecutive words written: the word for each of their addresses, and every other register as before. -/
theorem State.reg_setRegs (s : State) (a : Nat) (l : List Word) (i : Nat) :
    (s.setRegs a l).reg i =
      if a ≤ i ∧ i < a + 4 * l.length ∧ (i - a) % 4 = 0 then l.getD ((i - a) / 4) 0 else s.reg i := by
  induction l generalizing s a with
  | nil => simp [State.setRegs]; intros; omega
  | cons w r ih =>
    rw [State.setRegs, ih]
    by_cases h : i = a
    · subst h; simp
    · by_cases h1 : a + 4 ≤ i ∧ i < a + 4 + 4 * r.length ∧ (i - (a + 4)) % 4 = 0
      · have h2 : a ≤ i ∧ i < a + 4 * (w :: r).length ∧ (i - a) % 4 = 0 := by simp; omega
        rw [if_pos h1, if_pos h2]
        obtain ⟨n, rfl⟩ : ∃ n, i = a + 4 + 4 * n := ⟨(i - (a + 4)) / 4, by omega⟩
        have e1 : (a + 4 + 4 * n - (a + 4)) / 4 = n := by omega
        have e2 : (a + 4 + 4 * n - a) / 4 = n + 1 := by omega
        rw [e1, e2, List.getD_cons_succ]
      · have h2 : ¬(a ≤ i ∧ i < a + 4 * (w :: r).length ∧ (i - a) % 4 = 0) := by simp; omega
        rw [if_neg h1, if_neg h2, s.reg_setReg_ne w h]

theorem State.port_setPort (s : State) (a i : Nat) (x : Port) :
    (s.setPort a x).port i = if i = a then x else s.port i := tabGet_tabSet _ _ _ _ _
@[simp] theorem State.port_setPort_same (s : State) (a : Nat) (x : Port) : (s.setPort a x).port a = x := by
  simp [State.port_setPort]
theorem State.group_setGroup (s : State) (a i : Nat) (x : Group) :
    (s.setGroup a x).group i = if i = a then x else s.group i := tabGet_tabSet _ _ _ _ _
theorem State.cart_setCart (s : State) (a i : Nat) (x : Cart) :
    (s.setCart a x).cart i = if i = a then x else s.cart i := tabGet_tabSet _ _ _ _ _
theorem State.dom_setDom (s : State) (a i : Nat) (x : Domain) :
    (s.setDom a x).dom i = if i = a then x else s.dom i := tabGet_tabSet _ _ _ _ _
@[simp] theorem State.dom_setDom_same (s : State) (a : Nat) (x : Domain) : (s.setDom a x).dom a = x := by
  simp [State.dom_setDom]
theorem State.pool_setPool (s : State) (a i : Nat) (x : Pool) :
    (s.setPool a x).pool i = if i = a then { x with level := s.injLevelAt a x.occPct } else s.pool i :=
  tabGet_tabSet _ _ _ _ _
theorem State.ctx_setCtx (s : State) (a i : Nat) (x : Ctx) :
    (s.setCtx a x).ctx i = if i = a then x else s.ctx i := tabGet_tabSet _ _ _ _ _
@[simp] theorem State.ctx_setCtx_same (s : State) (a : Nat) (x : Ctx) : (s.setCtx a x).ctx a = x := by
  simp [State.ctx_setCtx]
theorem State.image_setImage (s : State) (a i : Nat) (x : Option Image) :
    (s.setImage a x).image i = if i = a then x else s.image i := tabGet_tabSet _ _ _ _ _
theorem State.src_setSrc (s : State) (a i : Nat) (x : SrcWin) :
    (s.setSrc a x).src i = if i = a then x else s.src i := tabGet_tabSet _ _ _ _ _
theorem State.member_setMember (s : State) (a i : Nat) (x : Member) :
    (s.setMember a x).member i = if i = a then x else s.member i := tabGet_tabSet _ _ _ _ _
theorem State.inq_setInq (s : State) (a v i w : Nat) (x : List QPkt) :
    (s.setInq a v x).inq i w = if 8 * i + w = 8 * a + v then x else s.inq i w := tabGet_tabSet _ _ _ _ _
theorem State.outq_setOutq (s : State) (a v i w : Nat) (x : List QPkt) :
    (s.setOutq a v x).outq i w = if 8 * i + w = 8 * a + v then x else s.outq i w := tabGet_tabSet _ _ _ _ _
/-- HBM reads as the bytes that were written to it, and as before elsewhere. -/
theorem State.memByte_memPut (s : State) (a i : Nat) (l : List Byte) :
    (s.memPut a l).memByte i = if a ≤ i ∧ i < a + l.length then l.getD (i - a) 0 else s.memByte i :=
  tabGet_tabSetList _ _ _ _ _
theorem State.memByte_memClear (s : State) (a n i : Nat) :
    (s.memClear a n).memByte i = if a ≤ i ∧ i < a + n then 0 else s.memByte i := by
  rw [State.memByte, State.memClear, tabGet_tabClear]
  simp [memZero, State.memByte]

end Sys2Proof.Machine
end

