-- ==== Sys2Proof/Laws/Canon.lean ====
section
/-!
SUPPORT. Sys2Proof/Laws/Canon.lean: every named update, and every shared operation over them, keeps each table of
the state in its canonical form.
-/

namespace Sys2Proof.Machine

/-- The canonical form is a matter of seven fields alone. -/
theorem Canon.congr {s t : State} (c : Canon s) (hr : t.regs = s.regs) (hp : t.ports = s.ports)
    (ho : t.pools = s.pools) (hg : t.groups = s.groups) (hm : t.mem = s.mem) (hc : t.ctxs = s.ctxs)
    (hk : t.carts = s.carts) : Canon t := by
  unfold Canon at *
  rw [hr, hp, ho, hg, hm, hc, hk]
  exact c

theorem canon_reset : Canon State.reset := by
  unfold Canon
  refine ⟨rfl, rfl, rfl, rfl, rfl, rfl, rfl⟩

/-! ### The named updates -/

theorem Canon.setReg {s : State} (c : Canon s) (a : Nat) (v : Word) : Canon (s.setReg a v) :=
  And.imp_left (tabWf_tabSet a v) c
theorem Canon.setRf {s : State} (c : Canon s) (a h l v : Nat) : Canon (s.setRf a h l v) := c.setReg _ _
theorem Canon.bump {s : State} (c : Canon s) (a h l n : Nat) : Canon (s.bump a h l n) := c.setReg _ _
theorem Canon.setCtr {s : State} (c : Canon s) (a v : Nat) : Canon (s.setCtr a v) := (c.setReg _ _).setReg _ _
theorem Canon.setRegs {s : State} (c : Canon s) (a : Nat) (l : List Word) : Canon (s.setRegs a l) := by
  induction l generalizing s a with
  | nil => exact c
  | cons w r ih => exact ih (c.setReg a w) _
theorem Canon.clearRegs {s : State} (c : Canon s) (p : Nat → Bool) : Canon (s.clearRegs p) :=
  And.imp_left (tabWf_tabClear p) c
theorem Canon.setPort {s : State} (c : Canon s) (a : Nat) (x : Port) : Canon (s.setPort a x) :=
  And.imp_right (And.imp_left (tabWf_tabSet a x)) c
theorem Canon.updPort {s : State} (c : Canon s) (a : Nat) (f : Port → Port) : Canon (s.updPort a f) := c.setPort _ _
theorem Canon.setPool {s : State} (c : Canon s) (a : Nat) (x : Pool) : Canon (s.setPool a x) :=
  And.imp_right (And.imp_right (And.imp_left (tabWf_tabSet a _))) c
theorem Canon.setGroup {s : State} (c : Canon s) (a : Nat) (x : Group) : Canon (s.setGroup a x) :=
  And.imp_right (And.imp_right (And.imp_right (And.imp_left (tabWf_tabSet a x)))) c
theorem Canon.memPut {s : State} (c : Canon s) (a : Nat) (l : List Byte) : Canon (s.memPut a l) :=
  And.imp_right (And.imp_right (And.imp_right (And.imp_right (And.imp_left (tabWf_tabSetList l a))))) c
theorem Canon.memClear {s : State} (c : Canon s) (a n : Nat) : Canon (s.memClear a n) :=
  And.imp_right (And.imp_right (And.imp_right (And.imp_right (And.imp_left
    (tabWf_tabClear (fun k => decide (a ≤ k) && decide (k < a + n))))))) c
theorem Canon.setCtx {s : State} (c : Canon s) (a : Nat) (x : Ctx) : Canon (s.setCtx a x) :=
  And.imp_right (And.imp_right (And.imp_right (And.imp_right (And.imp_right (And.imp_left (tabWf_tabSet a x)))))) c
theorem Canon.updCtx {s : State} (c : Canon s) (a : Nat) (f : Ctx → Ctx) : Canon (s.updCtx a f) := c.setCtx _ _
theorem Canon.setCart {s : State} (c : Canon s) (a : Nat) (x : Cart) : Canon (s.setCart a x) :=
  And.imp_right (And.imp_right (And.imp_right (And.imp_right (And.imp_right (And.imp_right (tabWf_tabSet a x)))))) c
theorem Canon.setDom {s : State} (c : Canon s) (a : Nat) (x : Domain) : Canon (s.setDom a x) := c
theorem Canon.setInq {s : State} (c : Canon s) (a v : Nat) (l : List QPkt) : Canon (s.setInq a v l) := c
theorem Canon.setOutq {s : State} (c : Canon s) (a v : Nat) (l : List QPkt) : Canon (s.setOutq a v l) := c
theorem Canon.setImage {s : State} (c : Canon s) (a : Nat) (x : Option Image) : Canon (s.setImage a x) := c
theorem Canon.setSrc {s : State} (c : Canon s) (a : Nat) (x : SrcWin) : Canon (s.setSrc a x) := c
theorem Canon.setMember {s : State} (c : Canon s) (a : Nat) (x : Member) : Canon (s.setMember a x) := c
theorem Canon.draw {s : State} (c : Canon s) : Canon s.draw.2 := c
theorem Canon.hold {s : State} (c : Canon s) (tag : Nat) : Canon (s.hold tag) := c

/-! ### The shared operations -/

theorem Canon.wake {s : State} (c : Canon s) (d : Nat) : Canon (s.wake d) := by
  unfold State.wake
  dsimp only
  repeat' split
  all_goals exact c
theorem Canon.msi {s : State} (c : Canon s) (v : Nat) : Canon (s.msi v) := by
  unfold State.msi
  dsimp only
  repeat' split
  all_goals exact c
theorem Canon.ringPut {s : State} (c : Canon s) (k : Nat) (e : HostEntry) : Canon (s.ringPut k e) :=
  Canon.msi (Canon.setRf (by exact c) _ _ _ _) _
theorem Canon.emit {s : State} (c : Canon s) (k : Nat) (p : Pkt) : Canon (s.emit k p) := by
  unfold State.emit
  dsimp only
  split <;> exact c
theorem Canon.sendCuing {s : State} (c : Canon s) (typ dst tag m : Nat) (e b : List Byte) (st : Nat) :
    Canon (s.sendCuing typ dst tag m e b st) := 
      List.foldlRecOn _ _ c (fun _ h _ _ => h.emit _ _)
theorem Canon.log {s : State} (c : Canon s) (a b k : Nat) (l : List Byte) : Canon (s.log a b k l) := by
  unfold State.log
  dsimp only
  repeat' split
  all_goals first | exact c | exact c.bump _ _ _ _ | exact Canon.setReg (by exact c) _ _
theorem Canon.eventIn {s : State} (c : Canon s) (e : HostEntry) : Canon (s.eventIn e) := by
  unfold State.eventIn
  dsimp only
  repeat' split
  all_goals first | exact c | exact c.ringPut _ _ | exact c.bump _ _ _ _
theorem Canon.eventAt {s : State} (c : Canon s) (code st time : Nat) (b : List Byte) :
    Canon (s.eventAt code st time b) := by
  have l := c.log (servedBy code) 0 code (padTo 48 b)
  unfold State.eventAt
  dsimp only
  repeat' split
  all_goals first
    | exact c
    | exact l
    | exact l.eventIn _
    | exact l.bump _ _ _ _
    | exact Canon.sendCuing (by exact l) _ _ _ _ _ _ _
theorem Canon.event {s : State} (c : Canon s) (code st : Nat) (b : List Byte) : Canon (s.event code st b) :=
  c.eventAt _ _ _ _
theorem Canon.replyWrite {s : State} (c : Canon s) (e : HostEntry) (d : List (Nat × List Byte)) :
    Canon (s.replyWrite e d) := by
  unfold State.replyWrite
  repeat' split
  all_goals first | exact c | exact Canon.ringPut (by exact c) _ _
theorem Canon.replyOut {s : State} (c : Canon s) (p : Prog) (st : Nat) (b : List Byte) :
    Canon (s.replyOut p st b) := c.replyWrite _ _
theorem Canon.finish {s : State} (c : Canon s) (tag st : Nat) (b : List Byte) : Canon (s.finish tag st b) := by
  unfold State.finish
  dsimp only
  repeat' split
  all_goals first
    | exact c
    | exact Canon.replyOut (by exact c) _ _ _
    | exact Canon.sendCuing (by exact c) _ _ _ _ _ _ _
/-- Serving a command keeps the form if what serves it does. -/
theorem Canon.serve {s : State} (c : Canon s) (tag op size : Nat) (ok : List Byte → Bool)
    (f : State → Prog → State × Nat × List Byte) (h : ∀ s p, Canon s → Canon (f s p).1) :
    Canon (s.serve tag op size ok f) := by
  unfold State.serve
  dsimp only
  repeat' split
  all_goals first | exact c | exact c.finish _ _ _ | exact (h _ _ c).finish _ _ _
theorem Canon.ctrAdd {s : State} (c : Canon s) (n b v : Nat) : Canon (State.ctrAdd n s b v) := by
  have o : ∀ (s : State) (_ : Canon s) b v, Canon (s.ctrOverflow b v).1 := by
    intro s c b v
    unfold State.ctrOverflow
    split
    · exact c.setCtr _ _
    split <;> exact (c.setCtr _ _).setRf _ _ _ _
  induction n generalizing s b v with
  | zero => exact c
  | succ n ih =>
    unfold State.ctrAdd
    dsimp only
    split
    · exact c.setCtr _ _
    split
    exacts [ih (o _ c _ _) _ _, o _ c _ _]
theorem Canon.ctrBank {s : State} (c : Canon s) (b k code n : Nat) (q : Nat → Bool) :
    Canon (s.ctrBank b k code n q) := by
  refine List.foldlRecOn _ _ c (fun s h j _ => ?_)
  split
  · exact h.ctrAdd _ _ _
  · exact h
theorem Canon.memUse {s : State} (c : Canon s) (a n : Nat) : Canon (s.memUse a n) := by
  unfold State.memUse
  dsimp only
  split
  exacts [c.wake _, (c.ctrBank _ _ _ _ _).wake _]
theorem Canon.memStore {s : State} (c : Canon s) (a : Nat) (l : List Byte) : Canon (s.memStore a l) :=
  (c.memUse _ _).memPut _ _
theorem Canon.evDev {s : State} (c : Canon s) (code n : Nat) : Canon (s.evDev code n) := by
  unfold State.evDev
  split
  exacts [c, c.ctrBank _ _ _ _ _]
theorem Canon.pickIn {s : State} (c : Canon s) (p v : Nat) : Canon (s.pickIn p v) := by
  unfold State.pickIn
  dsimp only
  split <;> exact Canon.setPool (by first | exact c | exact c.setPool _ _) _ _
theorem Canon.enqueue {s : State} (c : Canon s) (port : Nat) (p : Pkt) : Canon (s.enqueue port p) :=
  List.foldlRecOn _ _ (Canon.setInq (by exact c) _ _ _) (fun _ h _ _ => h.pickIn _ _)
theorem Canon.arrives {s : State} (c : Canon s) (port : Nat) (p : Pkt) : Canon (s.arrives port p).2 := by
  unfold State.arrives
  dsimp only
  repeat' split
  all_goals first
    | exact c
    | exact c.bump _ _ _ _
    | exact (c.bump _ _ _ _).evDev _ _
    | exact c.enqueue _ _
theorem Canon.reaches {s : State} (c : Canon s) (port : Nat) (p : Pkt) : Canon (s.reaches port p).2 := by
  unfold State.reaches State.unsink
  repeat' split
  · exact c
  · exact c
  · exact c.arrives _ _
theorem Canon.sink {s : State} (c : Canon s) (port typ : Nat) (p : Pkt) : Canon (s.sink port typ p).2 := by
  have r := c.reaches port p
  unfold State.sink
  dsimp only
  repeat' split
  · exact c
  · exact r
  · exact r
  · exact Canon.evDev (Canon.bump r _ _ _ _) _ _

end Sys2Proof.Machine
end

