-- ==== Sys2Proof/Laws/Frame.lean ====
section
/-!
SUPPORT. Sys2Proof/Laws/Frame.lean: the check codes of a link frame and of a packet: every frame and every packet
that the device puts together carries a good CRC (R55, R57, R106).
-/

namespace Sys2Proof.Machine

theorem crc32cBits_lt (n : Nat) : ∀ c : Nat, c < 2 ^ 32 → crc32cBits n c < 2 ^ 32 := by
  induction n with
  | zero => exact fun c h => h
  | succ n ih =>
    intro c h
    refine ih _ ?_
    split
    · exact Nat.xor_lt_two_pow (by omega) (by decide)
    · omega

theorem crc32cFold_lt (l : List Byte) : ∀ c : Nat, c < 2 ^ 32 → crc32cFold c l < 2 ^ 32 := by
  induction l with
  | nil => exact fun c h => h
  | cons b r ih =>
    exact fun c h => ih _ (crc32cBits_lt 8 _ (Nat.xor_lt_two_pow h (by have := b.isLt; omega)))

/-- CRC-32C fits four bytes. -/
theorem crc32c_lt (l : List Byte) : crc32c l < 2 ^ 32 :=
  Nat.xor_lt_two_pow (crc32cFold_lt l _ (by decide)) (by decide)

/-- Four bytes of CRC after 268 bytes make a frame whose CRC matches. -/
theorem frameCrcOk_append (b : List Byte) (h : b.length = 268) : frameCrcOk (b ++ leBytes 4 (crc32c b)) = true := by
  unfold frameCrcOk field slice
  rw [← h, List.take_left', List.drop_left', List.take_of_length_le, leNat_leBytes,
    show (256 : Nat) ^ 4 = 2 ^ 32 from rfl, Nat.mod_eq_of_lt (crc32c_lt b)]
  · simp [h]
  · simp
  · rfl
  · rfl

/-- The slots of a frame take 64 bytes each. -/
theorem length_slots (l : List (Option (Nat × List Byte))) :
    (l.flatMap (fun x => match x with | none => leBytes 64 0 | some (_, d) => padTo 64 d)).length = 64 * l.length := by
  induction l with
  | nil => rfl
  | cons x r ih =>
    rw [List.flatMap_cons, List.length_append, ih, List.length_cons]
    rcases x with _ | ⟨c, d⟩
    · show (leBytes 64 0).length + _ = _
      rw [length_leBytes]; omega
    · show (padTo 64 d).length + _ = _
      rw [length_padTo]; omega

/-- A frame of four slots as the device sends it passes the receiver's check. -/
theorem frameCrcOk_bytes (f : Frame) (h : f.slots.length = 4) : frameCrcOk f.bytes = true := by
  refine frameCrcOk_append _ ?_
  rw [List.length_append]
  exact (congrArg₂ (· + ·) (length_slots f.slots) (length_leBytes 12 f.trailer)).trans (by rw [h])

/-- Four bytes of CRC at the end of a header make a packet that passes the end-to-end check. -/
theorem e2eOk_append (h b : List Byte) (n : h.length = 60) : e2eOk ⟨h ++ leBytes 4 (crc32c (h ++ b)), b⟩ = true := by
  unfold e2eOk field slice
  rw [← n, List.take_left', List.drop_left', List.take_of_length_le, leNat_leBytes,
    show (256 : Nat) ^ 4 = 2 ^ 32 from rfl, Nat.mod_eq_of_lt (crc32c_lt _)]
  · simp
  · simp
  · rfl
  · rfl

/-- A packet as the device makes it passes the end-to-end check. -/
theorem e2eOk_mkPkt (dst src typ : Nat) (mcast pinned fence : Bool) (flow fsn : Nat) (op data : List Byte) :
    e2eOk (mkPkt dst src typ mcast pinned fence flow fsn op data) = true :=
  e2eOk_append _ _ (by simp only [List.length_append, length_leBytes, length_padTo])

end Sys2Proof.Machine
end

