-- ==== Sys2Proof/Laws/Ops.lean ====
section
/-!
SUPPORT. Sys2Proof/Laws/Ops.lean: for each shared operation, which fields and registers it leaves as they are,
and what it adds where it acts.
-/

namespace Sys2Proof.Machine

/-! ### wake -/

theorem State.wake_same (s : State) (d : Nat) :
    ∃ x0, s.wake d = { s with pwr := x0 } := by
  unfold State.wake; dsimp only; repeat' split
  all_goals exact ⟨_, rfl⟩

@[simp] theorem State.wake_pending (s : State) (d : Nat) : (s.wake d).pending = s.pending := by
  obtain ⟨_, h⟩ := s.wake_same d; rw [h]
@[simp] theorem State.wake_free (s : State) (d : Nat) : (s.wake d).free = s.free := by
  obtain ⟨_, h⟩ := s.wake_same d; rw [h]
@[simp] theorem State.wake_aon (s : State) (d : Nat) : (s.wake d).aon = s.aon := by
  obtain ⟨_, h⟩ := s.wake_same d; rw [h]
@[simp] theorem State.wake_regs (s : State) (d : Nat) : (s.wake d).regs = s.regs := by
  obtain ⟨_, h⟩ := s.wake_same d; rw [h]
@[simp] theorem State.wake_ports (s : State) (d : Nat) : (s.wake d).ports = s.ports := by
  obtain ⟨_, h⟩ := s.wake_same d; rw [h]
@[simp] theorem State.wake_sw (s : State) (d : Nat) : (s.wake d).sw = s.sw := by
  obtain ⟨_, h⟩ := s.wake_same d; rw [h]
@[simp] theorem State.wake_pools (s : State) (d : Nat) : (s.wake d).pools = s.pools := by
  obtain ⟨_, h⟩ := s.wake_same d; rw [h]
@[simp] theorem State.wake_flows (s : State) (d : Nat) : (s.wake d).flows = s.flows := by
  obtain ⟨_, h⟩ := s.wake_same d; rw [h]
@[simp] theorem State.wake_groups (s : State) (d : Nat) : (s.wake d).groups = s.groups := by
  obtain ⟨_, h⟩ := s.wake_same d; rw [h]
@[simp] theorem State.wake_mem (s : State) (d : Nat) : (s.wake d).mem = s.mem := by
  obtain ⟨_, h⟩ := s.wake_same d; rw [h]
@[simp] theorem State.wake_seq (s : State) (d : Nat) : (s.wake d).seq = s.seq := by
  obtain ⟨_, h⟩ := s.wake_same d; rw [h]
@[simp] theorem State.wake_shed (s : State) (d : Nat) : (s.wake d).shed = s.shed := by
  obtain ⟨_, h⟩ := s.wake_same d; rw [h]
@[simp] theorem State.wake_ctxs (s : State) (d : Nat) : (s.wake d).ctxs = s.ctxs := by
  obtain ⟨_, h⟩ := s.wake_same d; rw [h]
@[simp] theorem State.wake_grpCmd (s : State) (d : Nat) : (s.wake d).grpCmd = s.grpCmd := by
  obtain ⟨_, h⟩ := s.wake_same d; rw [h]
@[simp] theorem State.wake_host (s : State) (d : Nat) : (s.wake d).host = s.host := by
  obtain ⟨_, h⟩ := s.wake_same d; rw [h]
@[simp] theorem State.wake_fw (s : State) (d : Nat) : (s.wake d).fw = s.fw := by
  obtain ⟨_, h⟩ := s.wake_same d; rw [h]
@[simp] theorem State.wake_trd (s : State) (d : Nat) : (s.wake d).trd = s.trd := by
  obtain ⟨_, h⟩ := s.wake_same d; rw [h]
@[simp] theorem State.wake_thm (s : State) (d : Nat) : (s.wake d).thm = s.thm := by
  obtain ⟨_, h⟩ := s.wake_same d; rw [h]
@[simp] theorem State.wake_carts (s : State) (d : Nat) : (s.wake d).carts = s.carts := by
  obtain ⟨_, h⟩ := s.wake_same d; rw [h]
@[simp] theorem State.wake_pair (s : State) (d : Nat) : (s.wake d).pair = s.pair := by
  obtain ⟨_, h⟩ := s.wake_same d; rw [h]
@[simp] theorem State.wake_cnt (s : State) (d : Nat) : (s.wake d).cnt = s.cnt := by
  obtain ⟨_, h⟩ := s.wake_same d; rw [h]

/-! ### msi -/

theorem State.msi_same (s : State) (v : Nat) :
    ∃ x0, s.msi v = { s with host := x0 } := by
  unfold State.msi; repeat' split
  all_goals exact ⟨_, rfl⟩

@[simp] theorem State.msi_pending (s : State) (v : Nat) : (s.msi v).pending = s.pending := by
  obtain ⟨_, h⟩ := s.msi_same v; rw [h]
@[simp] theorem State.msi_free (s : State) (v : Nat) : (s.msi v).free = s.free := by
  obtain ⟨_, h⟩ := s.msi_same v; rw [h]
@[simp] theorem State.msi_aon (s : State) (v : Nat) : (s.msi v).aon = s.aon := by
  obtain ⟨_, h⟩ := s.msi_same v; rw [h]
@[simp] theorem State.msi_regs (s : State) (v : Nat) : (s.msi v).regs = s.regs := by
  obtain ⟨_, h⟩ := s.msi_same v; rw [h]
@[simp] theorem State.msi_pwr (s : State) (v : Nat) : (s.msi v).pwr = s.pwr := by
  obtain ⟨_, h⟩ := s.msi_same v; rw [h]
@[simp] theorem State.msi_ports (s : State) (v : Nat) : (s.msi v).ports = s.ports := by
  obtain ⟨_, h⟩ := s.msi_same v; rw [h]
@[simp] theorem State.msi_sw (s : State) (v : Nat) : (s.msi v).sw = s.sw := by
  obtain ⟨_, h⟩ := s.msi_same v; rw [h]
@[simp] theorem State.msi_pools (s : State) (v : Nat) : (s.msi v).pools = s.pools := by
  obtain ⟨_, h⟩ := s.msi_same v; rw [h]
@[simp] theorem State.msi_flows (s : State) (v : Nat) : (s.msi v).flows = s.flows := by
  obtain ⟨_, h⟩ := s.msi_same v; rw [h]
@[simp] theorem State.msi_groups (s : State) (v : Nat) : (s.msi v).groups = s.groups := by
  obtain ⟨_, h⟩ := s.msi_same v; rw [h]
@[simp] theorem State.msi_mem (s : State) (v : Nat) : (s.msi v).mem = s.mem := by
  obtain ⟨_, h⟩ := s.msi_same v; rw [h]
@[simp] theorem State.msi_seq (s : State) (v : Nat) : (s.msi v).seq = s.seq := by
  obtain ⟨_, h⟩ := s.msi_same v; rw [h]
@[simp] theorem State.msi_shed (s : State) (v : Nat) : (s.msi v).shed = s.shed := by
  obtain ⟨_, h⟩ := s.msi_same v; rw [h]
@[simp] theorem State.msi_ctxs (s : State) (v : Nat) : (s.msi v).ctxs = s.ctxs := by
  obtain ⟨_, h⟩ := s.msi_same v; rw [h]
@[simp] theorem State.msi_grpCmd (s : State) (v : Nat) : (s.msi v).grpCmd = s.grpCmd := by
  obtain ⟨_, h⟩ := s.msi_same v; rw [h]
@[simp] theorem State.msi_fw (s : State) (v : Nat) : (s.msi v).fw = s.fw := by
  obtain ⟨_, h⟩ := s.msi_same v; rw [h]
@[simp] theorem State.msi_trd (s : State) (v : Nat) : (s.msi v).trd = s.trd := by
  obtain ⟨_, h⟩ := s.msi_same v; rw [h]
@[simp] theorem State.msi_thm (s : State) (v : Nat) : (s.msi v).thm = s.thm := by
  obtain ⟨_, h⟩ := s.msi_same v; rw [h]
@[simp] theorem State.msi_carts (s : State) (v : Nat) : (s.msi v).carts = s.carts := by
  obtain ⟨_, h⟩ := s.msi_same v; rw [h]
@[simp] theorem State.msi_pair (s : State) (v : Nat) : (s.msi v).pair = s.pair := by
  obtain ⟨_, h⟩ := s.msi_same v; rw [h]
@[simp] theorem State.msi_cnt (s : State) (v : Nat) : (s.msi v).cnt = s.cnt := by
  obtain ⟨_, h⟩ := s.msi_same v; rw [h]

/-! ### ringPut -/

theorem State.ringPut_same (s : State) (k : Nat) (e : HostEntry) :
    ∃ x0 x1, s.ringPut k e = { s with regs := x0, host := x1 } := by
  unfold State.ringPut; dsimp only
  exact ⟨_, _, (State.msi_same _ _).choose_spec⟩

@[simp] theorem State.ringPut_pending (s : State) (k : Nat) (e : HostEntry) : (s.ringPut k e).pending = s.pending := by
  obtain ⟨_, _, h⟩ := s.ringPut_same k e; rw [h]
@[simp] theorem State.ringPut_free (s : State) (k : Nat) (e : HostEntry) : (s.ringPut k e).free = s.free := by
  obtain ⟨_, _, h⟩ := s.ringPut_same k e; rw [h]
@[simp] theorem State.ringPut_aon (s : State) (k : Nat) (e : HostEntry) : (s.ringPut k e).aon = s.aon := by
  obtain ⟨_, _, h⟩ := s.ringPut_same k e; rw [h]
@[simp] theorem State.ringPut_pwr (s : State) (k : Nat) (e : HostEntry) : (s.ringPut k e).pwr = s.pwr := by
  obtain ⟨_, _, h⟩ := s.ringPut_same k e; rw [h]
@[simp] theorem State.ringPut_ports (s : State) (k : Nat) (e : HostEntry) : (s.ringPut k e).ports = s.ports := by
  obtain ⟨_, _, h⟩ := s.ringPut_same k e; rw [h]
@[simp] theorem State.ringPut_sw (s : State) (k : Nat) (e : HostEntry) : (s.ringPut k e).sw = s.sw := by
  obtain ⟨_, _, h⟩ := s.ringPut_same k e; rw [h]
@[simp] theorem State.ringPut_pools (s : State) (k : Nat) (e : HostEntry) : (s.ringPut k e).pools = s.pools := by
  obtain ⟨_, _, h⟩ := s.ringPut_same k e; rw [h]
@[simp] theorem State.ringPut_flows (s : State) (k : Nat) (e : HostEntry) : (s.ringPut k e).flows = s.flows := by
  obtain ⟨_, _, h⟩ := s.ringPut_same k e; rw [h]
@[simp] theorem State.ringPut_groups (s : State) (k : Nat) (e : HostEntry) : (s.ringPut k e).groups = s.groups := by
  obtain ⟨_, _, h⟩ := s.ringPut_same k e; rw [h]
@[simp] theorem State.ringPut_mem (s : State) (k : Nat) (e : HostEntry) : (s.ringPut k e).mem = s.mem := by
  obtain ⟨_, _, h⟩ := s.ringPut_same k e; rw [h]
@[simp] theorem State.ringPut_seq (s : State) (k : Nat) (e : HostEntry) : (s.ringPut k e).seq = s.seq := by
  obtain ⟨_, _, h⟩ := s.ringPut_same k e; rw [h]
@[simp] theorem State.ringPut_shed (s : State) (k : Nat) (e : HostEntry) : (s.ringPut k e).shed = s.shed := by
  obtain ⟨_, _, h⟩ := s.ringPut_same k e; rw [h]
@[simp] theorem State.ringPut_ctxs (s : State) (k : Nat) (e : HostEntry) : (s.ringPut k e).ctxs = s.ctxs := by
  obtain ⟨_, _, h⟩ := s.ringPut_same k e; rw [h]
@[simp] theorem State.ringPut_grpCmd (s : State) (k : Nat) (e : HostEntry) : (s.ringPut k e).grpCmd = s.grpCmd := by
  obtain ⟨_, _, h⟩ := s.ringPut_same k e; rw [h]
@[simp] theorem State.ringPut_fw (s : State) (k : Nat) (e : HostEntry) : (s.ringPut k e).fw = s.fw := by
  obtain ⟨_, _, h⟩ := s.ringPut_same k e; rw [h]
@[simp] theorem State.ringPut_trd (s : State) (k : Nat) (e : HostEntry) : (s.ringPut k e).trd = s.trd := by
  obtain ⟨_, _, h⟩ := s.ringPut_same k e; rw [h]
@[simp] theorem State.ringPut_thm (s : State) (k : Nat) (e : HostEntry) : (s.ringPut k e).thm = s.thm := by
  obtain ⟨_, _, h⟩ := s.ringPut_same k e; rw [h]
@[simp] theorem State.ringPut_carts (s : State) (k : Nat) (e : HostEntry) : (s.ringPut k e).carts = s.carts := by
  obtain ⟨_, _, h⟩ := s.ringPut_same k e; rw [h]
@[simp] theorem State.ringPut_pair (s : State) (k : Nat) (e : HostEntry) : (s.ringPut k e).pair = s.pair := by
  obtain ⟨_, _, h⟩ := s.ringPut_same k e; rw [h]
@[simp] theorem State.ringPut_cnt (s : State) (k : Nat) (e : HostEntry) : (s.ringPut k e).cnt = s.cnt := by
  obtain ⟨_, _, h⟩ := s.ringPut_same k e; rw [h]

/-! ### emit -/

theorem State.emit_same (s : State) (k : Nat) (p : Pkt) :
    ∃ x0, s.emit k p = { s with sw := x0 } := by
  unfold State.emit; dsimp only; split
  all_goals exact ⟨_, rfl⟩

@[simp] theorem State.emit_pending (s : State) (k : Nat) (p : Pkt) : (s.emit k p).pending = s.pending := by
  obtain ⟨_, h⟩ := s.emit_same k p; rw [h]
@[simp] theorem State.emit_free (s : State) (k : Nat) (p : Pkt) : (s.emit k p).free = s.free := by
  obtain ⟨_, h⟩ := s.emit_same k p; rw [h]
@[simp] theorem State.emit_aon (s : State) (k : Nat) (p : Pkt) : (s.emit k p).aon = s.aon := by
  obtain ⟨_, h⟩ := s.emit_same k p; rw [h]
@[simp] theorem State.emit_regs (s : State) (k : Nat) (p : Pkt) : (s.emit k p).regs = s.regs := by
  obtain ⟨_, h⟩ := s.emit_same k p; rw [h]
@[simp] theorem State.emit_pwr (s : State) (k : Nat) (p : Pkt) : (s.emit k p).pwr = s.pwr := by
  obtain ⟨_, h⟩ := s.emit_same k p; rw [h]
@[simp] theorem State.emit_ports (s : State) (k : Nat) (p : Pkt) : (s.emit k p).ports = s.ports := by
  obtain ⟨_, h⟩ := s.emit_same k p; rw [h]
@[simp] theorem State.emit_pools (s : State) (k : Nat) (p : Pkt) : (s.emit k p).pools = s.pools := by
  obtain ⟨_, h⟩ := s.emit_same k p; rw [h]
@[simp] theorem State.emit_flows (s : State) (k : Nat) (p : Pkt) : (s.emit k p).flows = s.flows := by
  obtain ⟨_, h⟩ := s.emit_same k p; rw [h]
@[simp] theorem State.emit_groups (s : State) (k : Nat) (p : Pkt) : (s.emit k p).groups = s.groups := by
  obtain ⟨_, h⟩ := s.emit_same k p; rw [h]
@[simp] theorem State.emit_mem (s : State) (k : Nat) (p : Pkt) : (s.emit k p).mem = s.mem := by
  obtain ⟨_, h⟩ := s.emit_same k p; rw [h]
@[simp] theorem State.emit_seq (s : State) (k : Nat) (p : Pkt) : (s.emit k p).seq = s.seq := by
  obtain ⟨_, h⟩ := s.emit_same k p; rw [h]
@[simp] theorem State.emit_shed (s : State) (k : Nat) (p : Pkt) : (s.emit k p).shed = s.shed := by
  obtain ⟨_, h⟩ := s.emit_same k p; rw [h]
@[simp] theorem State.emit_ctxs (s : State) (k : Nat) (p : Pkt) : (s.emit k p).ctxs = s.ctxs := by
  obtain ⟨_, h⟩ := s.emit_same k p; rw [h]
@[simp] theorem State.emit_grpCmd (s : State) (k : Nat) (p : Pkt) : (s.emit k p).grpCmd = s.grpCmd := by
  obtain ⟨_, h⟩ := s.emit_same k p; rw [h]
@[simp] theorem State.emit_host (s : State) (k : Nat) (p : Pkt) : (s.emit k p).host = s.host := by
  obtain ⟨_, h⟩ := s.emit_same k p; rw [h]
@[simp] theorem State.emit_fw (s : State) (k : Nat) (p : Pkt) : (s.emit k p).fw = s.fw := by
  obtain ⟨_, h⟩ := s.emit_same k p; rw [h]
@[simp] theorem State.emit_trd (s : State) (k : Nat) (p : Pkt) : (s.emit k p).trd = s.trd := by
  obtain ⟨_, h⟩ := s.emit_same k p; rw [h]
@[simp] theorem State.emit_thm (s : State) (k : Nat) (p : Pkt) : (s.emit k p).thm = s.thm := by
  obtain ⟨_, h⟩ := s.emit_same k p; rw [h]
@[simp] theorem State.emit_carts (s : State) (k : Nat) (p : Pkt) : (s.emit k p).carts = s.carts := by
  obtain ⟨_, h⟩ := s.emit_same k p; rw [h]
@[simp] theorem State.emit_pair (s : State) (k : Nat) (p : Pkt) : (s.emit k p).pair = s.pair := by
  obtain ⟨_, h⟩ := s.emit_same k p; rw [h]
@[simp] theorem State.emit_cnt (s : State) (k : Nat) (p : Pkt) : (s.emit k p).cnt = s.cnt := by
  obtain ⟨_, h⟩ := s.emit_same k p; rw [h]

/-! ### sendCuing -/

theorem State.sendCuing_same (s : State) (a b c d : Nat) (l m : List Byte) (n : Nat) :
    ∃ x0, s.sendCuing a b c d l m n = { s with sw := x0 } := by
  refine List.foldlRecOn (motive := fun t : State => ∃ x0, t = { s with sw := x0 }) _ _ ⟨_, rfl⟩ (fun t h x _ => ?_)
  obtain ⟨_, rfl⟩ := h
  obtain ⟨_, h⟩ := State.emit_same _ plinthCluster _
  exact ⟨_, h⟩

@[simp] theorem State.sendCuing_pending (s : State) (a b c d : Nat) (l m : List Byte) (n : Nat) : (s.sendCuing a b c d l m n).pending = s.pending := by
  obtain ⟨_, h⟩ := s.sendCuing_same a b c d l m n; rw [h]
@[simp] theorem State.sendCuing_free (s : State) (a b c d : Nat) (l m : List Byte) (n : Nat) : (s.sendCuing a b c d l m n).free = s.free := by
  obtain ⟨_, h⟩ := s.sendCuing_same a b c d l m n; rw [h]
@[simp] theorem State.sendCuing_aon (s : State) (a b c d : Nat) (l m : List Byte) (n : Nat) : (s.sendCuing a b c d l m n).aon = s.aon := by
  obtain ⟨_, h⟩ := s.sendCuing_same a b c d l m n; rw [h]
@[simp] theorem State.sendCuing_regs (s : State) (a b c d : Nat) (l m : List Byte) (n : Nat) : (s.sendCuing a b c d l m n).regs = s.regs := by
  obtain ⟨_, h⟩ := s.sendCuing_same a b c d l m n; rw [h]
@[simp] theorem State.sendCuing_pwr (s : State) (a b c d : Nat) (l m : List Byte) (n : Nat) : (s.sendCuing a b c d l m n).pwr = s.pwr := by
  obtain ⟨_, h⟩ := s.sendCuing_same a b c d l m n; rw [h]
@[simp] theorem State.sendCuing_ports (s : State) (a b c d : Nat) (l m : List Byte) (n : Nat) : (s.sendCuing a b c d l m n).ports = s.ports := by
  obtain ⟨_, h⟩ := s.sendCuing_same a b c d l m n; rw [h]
@[simp] theorem State.sendCuing_pools (s : State) (a b c d : Nat) (l m : List Byte) (n : Nat) : (s.sendCuing a b c d l m n).pools = s.pools := by
  obtain ⟨_, h⟩ := s.sendCuing_same a b c d l m n; rw [h]
@[simp] theorem State.sendCuing_flows (s : State) (a b c d : Nat) (l m : List Byte) (n : Nat) : (s.sendCuing a b c d l m n).flows = s.flows := by
  obtain ⟨_, h⟩ := s.sendCuing_same a b c d l m n; rw [h]
@[simp] theorem State.sendCuing_groups (s : State) (a b c d : Nat) (l m : List Byte) (n : Nat) : (s.sendCuing a b c d l m n).groups = s.groups := by
  obtain ⟨_, h⟩ := s.sendCuing_same a b c d l m n; rw [h]
@[simp] theorem State.sendCuing_mem (s : State) (a b c d : Nat) (l m : List Byte) (n : Nat) : (s.sendCuing a b c d l m n).mem = s.mem := by
  obtain ⟨_, h⟩ := s.sendCuing_same a b c d l m n; rw [h]
@[simp] theorem State.sendCuing_seq (s : State) (a b c d : Nat) (l m : List Byte) (n : Nat) : (s.sendCuing a b c d l m n).seq = s.seq := by
  obtain ⟨_, h⟩ := s.sendCuing_same a b c d l m n; rw [h]
@[simp] theorem State.sendCuing_shed (s : State) (a b c d : Nat) (l m : List Byte) (n : Nat) : (s.sendCuing a b c d l m n).shed = s.shed := by
  obtain ⟨_, h⟩ := s.sendCuing_same a b c d l m n; rw [h]
@[simp] theorem State.sendCuing_ctxs (s : State) (a b c d : Nat) (l m : List Byte) (n : Nat) : (s.sendCuing a b c d l m n).ctxs = s.ctxs := by
  obtain ⟨_, h⟩ := s.sendCuing_same a b c d l m n; rw [h]
@[simp] theorem State.sendCuing_grpCmd (s : State) (a b c d : Nat) (l m : List Byte) (n : Nat) : (s.sendCuing a b c d l m n).grpCmd = s.grpCmd := by
  obtain ⟨_, h⟩ := s.sendCuing_same a b c d l m n; rw [h]
@[simp] theorem State.sendCuing_host (s : State) (a b c d : Nat) (l m : List Byte) (n : Nat) : (s.sendCuing a b c d l m n).host = s.host := by
  obtain ⟨_, h⟩ := s.sendCuing_same a b c d l m n; rw [h]
@[simp] theorem State.sendCuing_fw (s : State) (a b c d : Nat) (l m : List Byte) (n : Nat) : (s.sendCuing a b c d l m n).fw = s.fw := by
  obtain ⟨_, h⟩ := s.sendCuing_same a b c d l m n; rw [h]
@[simp] theorem State.sendCuing_trd (s : State) (a b c d : Nat) (l m : List Byte) (n : Nat) : (s.sendCuing a b c d l m n).trd = s.trd := by
  obtain ⟨_, h⟩ := s.sendCuing_same a b c d l m n; rw [h]
@[simp] theorem State.sendCuing_thm (s : State) (a b c d : Nat) (l m : List Byte) (n : Nat) : (s.sendCuing a b c d l m n).thm = s.thm := by
  obtain ⟨_, h⟩ := s.sendCuing_same a b c d l m n; rw [h]
@[simp] theorem State.sendCuing_carts (s : State) (a b c d : Nat) (l m : List Byte) (n : Nat) : (s.sendCuing a b c d l m n).carts = s.carts := by
  obtain ⟨_, h⟩ := s.sendCuing_same a b c d l m n; rw [h]
@[simp] theorem State.sendCuing_pair (s : State) (a b c d : Nat) (l m : List Byte) (n : Nat) : (s.sendCuing a b c d l m n).pair = s.pair := by
  obtain ⟨_, h⟩ := s.sendCuing_same a b c d l m n; rw [h]
@[simp] theorem State.sendCuing_cnt (s : State) (a b c d : Nat) (l m : List Byte) (n : Nat) : (s.sendCuing a b c d l m n).cnt = s.cnt := by
  obtain ⟨_, h⟩ := s.sendCuing_same a b c d l m n; rw [h]

/-! ### log -/

theorem State.log_same (s : State) (a b c : Nat) (l : List Byte) :
    ∃ x0 x1, s.log a b c l = { s with regs := x0, fw := x1 } := by
  unfold State.log; dsimp only; repeat' split
  all_goals exact ⟨_, _, rfl⟩

@[simp] theorem State.log_pending (s : State) (a b c : Nat) (l : List Byte) : (s.log a b c l).pending = s.pending := by
  obtain ⟨_, _, h⟩ := s.log_same a b c l; rw [h]
@[simp] theorem State.log_free (s : State) (a b c : Nat) (l : List Byte) : (s.log a b c l).free = s.free := by
  obtain ⟨_, _, h⟩ := s.log_same a b c l; rw [h]
@[simp] theorem State.log_aon (s : State) (a b c : Nat) (l : List Byte) : (s.log a b c l).aon = s.aon := by
  obtain ⟨_, _, h⟩ := s.log_same a b c l; rw [h]
@[simp] theorem State.log_pwr (s : State) (a b c : Nat) (l : List Byte) : (s.log a b c l).pwr = s.pwr := by
  obtain ⟨_, _, h⟩ := s.log_same a b c l; rw [h]
@[simp] theorem State.log_ports (s : State) (a b c : Nat) (l : List Byte) : (s.log a b c l).ports = s.ports := by
  obtain ⟨_, _, h⟩ := s.log_same a b c l; rw [h]
@[simp] theorem State.log_sw (s : State) (a b c : Nat) (l : List Byte) : (s.log a b c l).sw = s.sw := by
  obtain ⟨_, _, h⟩ := s.log_same a b c l; rw [h]
@[simp] theorem State.log_pools (s : State) (a b c : Nat) (l : List Byte) : (s.log a b c l).pools = s.pools := by
  obtain ⟨_, _, h⟩ := s.log_same a b c l; rw [h]
@[simp] theorem State.log_flows (s : State) (a b c : Nat) (l : List Byte) : (s.log a b c l).flows = s.flows := by
  obtain ⟨_, _, h⟩ := s.log_same a b c l; rw [h]
@[simp] theorem State.log_groups (s : State) (a b c : Nat) (l : List Byte) : (s.log a b c l).groups = s.groups := by
  obtain ⟨_, _, h⟩ := s.log_same a b c l; rw [h]
@[simp] theorem State.log_mem (s : State) (a b c : Nat) (l : List Byte) : (s.log a b c l).mem = s.mem := by
  obtain ⟨_, _, h⟩ := s.log_same a b c l; rw [h]
@[simp] theorem State.log_seq (s : State) (a b c : Nat) (l : List Byte) : (s.log a b c l).seq = s.seq := by
  obtain ⟨_, _, h⟩ := s.log_same a b c l; rw [h]
@[simp] theorem State.log_shed (s : State) (a b c : Nat) (l : List Byte) : (s.log a b c l).shed = s.shed := by
  obtain ⟨_, _, h⟩ := s.log_same a b c l; rw [h]
@[simp] theorem State.log_ctxs (s : State) (a b c : Nat) (l : List Byte) : (s.log a b c l).ctxs = s.ctxs := by
  obtain ⟨_, _, h⟩ := s.log_same a b c l; rw [h]
@[simp] theorem State.log_grpCmd (s : State) (a b c : Nat) (l : List Byte) : (s.log a b c l).grpCmd = s.grpCmd := by
  obtain ⟨_, _, h⟩ := s.log_same a b c l; rw [h]
@[simp] theorem State.log_host (s : State) (a b c : Nat) (l : List Byte) : (s.log a b c l).host = s.host := by
  obtain ⟨_, _, h⟩ := s.log_same a b c l; rw [h]
@[simp] theorem State.log_trd (s : State) (a b c : Nat) (l : List Byte) : (s.log a b c l).trd = s.trd := by
  obtain ⟨_, _, h⟩ := s.log_same a b c l; rw [h]
@[simp] theorem State.log_thm (s : State) (a b c : Nat) (l : List Byte) : (s.log a b c l).thm = s.thm := by
  obtain ⟨_, _, h⟩ := s.log_same a b c l; rw [h]
@[simp] theorem State.log_carts (s : State) (a b c : Nat) (l : List Byte) : (s.log a b c l).carts = s.carts := by
  obtain ⟨_, _, h⟩ := s.log_same a b c l; rw [h]
@[simp] theorem State.log_pair (s : State) (a b c : Nat) (l : List Byte) : (s.log a b c l).pair = s.pair := by
  obtain ⟨_, _, h⟩ := s.log_same a b c l; rw [h]
@[simp] theorem State.log_cnt (s : State) (a b c : Nat) (l : List Byte) : (s.log a b c l).cnt = s.cnt := by
  obtain ⟨_, _, h⟩ := s.log_same a b c l; rw [h]

/-! ### eventIn -/

theorem State.eventIn_same (s : State) (e : HostEntry) :
    ∃ x0 x1, s.eventIn e = { s with regs := x0, host := x1 } := by
  unfold State.eventIn; dsimp only; repeat' split
  · exact ⟨_, _, rfl⟩
  · obtain ⟨_, _, h⟩ := s.ringPut_same 2 e; exact ⟨_, _, h⟩
  · exact ⟨_, _, rfl⟩
  · exact ⟨_, _, rfl⟩

@[simp] theorem State.eventIn_pending (s : State) (e : HostEntry) : (s.eventIn e).pending = s.pending := by
  obtain ⟨_, _, h⟩ := s.eventIn_same e; rw [h]
@[simp] theorem State.eventIn_free (s : State) (e : HostEntry) : (s.eventIn e).free = s.free := by
  obtain ⟨_, _, h⟩ := s.eventIn_same e; rw [h]
@[simp] theorem State.eventIn_aon (s : State) (e : HostEntry) : (s.eventIn e).aon = s.aon := by
  obtain ⟨_, _, h⟩ := s.eventIn_same e; rw [h]
@[simp] theorem State.eventIn_pwr (s : State) (e : HostEntry) : (s.eventIn e).pwr = s.pwr := by
  obtain ⟨_, _, h⟩ := s.eventIn_same e; rw [h]
@[simp] theorem State.eventIn_ports (s : State) (e : HostEntry) : (s.eventIn e).ports = s.ports := by
  obtain ⟨_, _, h⟩ := s.eventIn_same e; rw [h]
@[simp] theorem State.eventIn_sw (s : State) (e : HostEntry) : (s.eventIn e).sw = s.sw := by
  obtain ⟨_, _, h⟩ := s.eventIn_same e; rw [h]
@[simp] theorem State.eventIn_pools (s : State) (e : HostEntry) : (s.eventIn e).pools = s.pools := by
  obtain ⟨_, _, h⟩ := s.eventIn_same e; rw [h]
@[simp] theorem State.eventIn_flows (s : State) (e : HostEntry) : (s.eventIn e).flows = s.flows := by
  obtain ⟨_, _, h⟩ := s.eventIn_same e; rw [h]
@[simp] theorem State.eventIn_groups (s : State) (e : HostEntry) : (s.eventIn e).groups = s.groups := by
  obtain ⟨_, _, h⟩ := s.eventIn_same e; rw [h]
@[simp] theorem State.eventIn_mem (s : State) (e : HostEntry) : (s.eventIn e).mem = s.mem := by
  obtain ⟨_, _, h⟩ := s.eventIn_same e; rw [h]
@[simp] theorem State.eventIn_seq (s : State) (e : HostEntry) : (s.eventIn e).seq = s.seq := by
  obtain ⟨_, _, h⟩ := s.eventIn_same e; rw [h]
@[simp] theorem State.eventIn_shed (s : State) (e : HostEntry) : (s.eventIn e).shed = s.shed := by
  obtain ⟨_, _, h⟩ := s.eventIn_same e; rw [h]
@[simp] theorem State.eventIn_ctxs (s : State) (e : HostEntry) : (s.eventIn e).ctxs = s.ctxs := by
  obtain ⟨_, _, h⟩ := s.eventIn_same e; rw [h]
@[simp] theorem State.eventIn_grpCmd (s : State) (e : HostEntry) : (s.eventIn e).grpCmd = s.grpCmd := by
  obtain ⟨_, _, h⟩ := s.eventIn_same e; rw [h]
@[simp] theorem State.eventIn_fw (s : State) (e : HostEntry) : (s.eventIn e).fw = s.fw := by
  obtain ⟨_, _, h⟩ := s.eventIn_same e; rw [h]
@[simp] theorem State.eventIn_trd (s : State) (e : HostEntry) : (s.eventIn e).trd = s.trd := by
  obtain ⟨_, _, h⟩ := s.eventIn_same e; rw [h]
@[simp] theorem State.eventIn_thm (s : State) (e : HostEntry) : (s.eventIn e).thm = s.thm := by
  obtain ⟨_, _, h⟩ := s.eventIn_same e; rw [h]
@[simp] theorem State.eventIn_carts (s : State) (e : HostEntry) : (s.eventIn e).carts = s.carts := by
  obtain ⟨_, _, h⟩ := s.eventIn_same e; rw [h]
@[simp] theorem State.eventIn_pair (s : State) (e : HostEntry) : (s.eventIn e).pair = s.pair := by
  obtain ⟨_, _, h⟩ := s.eventIn_same e; rw [h]
@[simp] theorem State.eventIn_cnt (s : State) (e : HostEntry) : (s.eventIn e).cnt = s.cnt := by
  obtain ⟨_, _, h⟩ := s.eventIn_same e; rw [h]

/-! ### eventAt -/

theorem State.eventAt_same (s : State) (a b c : Nat) (l : List Byte) :
    ∃ x0 x1 x2 x3, s.eventAt a b c l = { s with regs := x0, host := x1, fw := x2, sw := x3 } := by
  obtain ⟨_, _, hl⟩ := s.log_same (servedBy a) 0 a (padTo 48 l)
  unfold State.eventAt; dsimp only; rw [hl]; repeat' split
  · exact ⟨_, _, _, _, rfl⟩
  · exact ⟨_, _, _, _, rfl⟩
  · obtain ⟨_, _, h⟩ := State.eventIn_same _ _; exact ⟨_, _, _, _, h⟩
  · exact ⟨_, _, _, _, rfl⟩
  · obtain ⟨_, h⟩ := State.sendCuing_same _ _ _ _ _ _ _ _; exact ⟨_, _, _, _, h⟩
  · exact ⟨_, _, _, _, rfl⟩
  · exact ⟨_, _, _, _, rfl⟩

@[simp] theorem State.eventAt_pending (s : State) (a b c : Nat) (l : List Byte) : (s.eventAt a b c l).pending = s.pending := by
  obtain ⟨_, _, _, _, h⟩ := s.eventAt_same a b c l; rw [h]
@[simp] theorem State.eventAt_free (s : State) (a b c : Nat) (l : List Byte) : (s.eventAt a b c l).free = s.free := by
  obtain ⟨_, _, _, _, h⟩ := s.eventAt_same a b c l; rw [h]
@[simp] theorem State.eventAt_aon (s : State) (a b c : Nat) (l : List Byte) : (s.eventAt a b c l).aon = s.aon := by
  obtain ⟨_, _, _, _, h⟩ := s.eventAt_same a b c l; rw [h]
@[simp] theorem State.eventAt_pwr (s : State) (a b c : Nat) (l : List Byte) : (s.eventAt a b c l).pwr = s.pwr := by
  obtain ⟨_, _, _, _, h⟩ := s.eventAt_same a b c l; rw [h]
@[simp] theorem State.eventAt_ports (s : State) (a b c : Nat) (l : List Byte) : (s.eventAt a b c l).ports = s.ports := by
  obtain ⟨_, _, _, _, h⟩ := s.eventAt_same a b c l; rw [h]
@[simp] theorem State.eventAt_pools (s : State) (a b c : Nat) (l : List Byte) : (s.eventAt a b c l).pools = s.pools := by
  obtain ⟨_, _, _, _, h⟩ := s.eventAt_same a b c l; rw [h]
@[simp] theorem State.eventAt_flows (s : State) (a b c : Nat) (l : List Byte) : (s.eventAt a b c l).flows = s.flows := by
  obtain ⟨_, _, _, _, h⟩ := s.eventAt_same a b c l; rw [h]
@[simp] theorem State.eventAt_groups (s : State) (a b c : Nat) (l : List Byte) : (s.eventAt a b c l).groups = s.groups := by
  obtain ⟨_, _, _, _, h⟩ := s.eventAt_same a b c l; rw [h]
@[simp] theorem State.eventAt_mem (s : State) (a b c : Nat) (l : List Byte) : (s.eventAt a b c l).mem = s.mem := by
  obtain ⟨_, _, _, _, h⟩ := s.eventAt_same a b c l; rw [h]
@[simp] theorem State.eventAt_seq (s : State) (a b c : Nat) (l : List Byte) : (s.eventAt a b c l).seq = s.seq := by
  obtain ⟨_, _, _, _, h⟩ := s.eventAt_same a b c l; rw [h]
@[simp] theorem State.eventAt_shed (s : State) (a b c : Nat) (l : List Byte) : (s.eventAt a b c l).shed = s.shed := by
  obtain ⟨_, _, _, _, h⟩ := s.eventAt_same a b c l; rw [h]
@[simp] theorem State.eventAt_ctxs (s : State) (a b c : Nat) (l : List Byte) : (s.eventAt a b c l).ctxs = s.ctxs := by
  obtain ⟨_, _, _, _, h⟩ := s.eventAt_same a b c l; rw [h]
@[simp] theorem State.eventAt_grpCmd (s : State) (a b c : Nat) (l : List Byte) : (s.eventAt a b c l).grpCmd = s.grpCmd := by
  obtain ⟨_, _, _, _, h⟩ := s.eventAt_same a b c l; rw [h]
@[simp] theorem State.eventAt_trd (s : State) (a b c : Nat) (l : List Byte) : (s.eventAt a b c l).trd = s.trd := by
  obtain ⟨_, _, _, _, h⟩ := s.eventAt_same a b c l; rw [h]
@[simp] theorem State.eventAt_thm (s : State) (a b c : Nat) (l : List Byte) : (s.eventAt a b c l).thm = s.thm := by
  obtain ⟨_, _, _, _, h⟩ := s.eventAt_same a b c l; rw [h]
@[simp] theorem State.eventAt_carts (s : State) (a b c : Nat) (l : List Byte) : (s.eventAt a b c l).carts = s.carts := by
  obtain ⟨_, _, _, _, h⟩ := s.eventAt_same a b c l; rw [h]
@[simp] theorem State.eventAt_pair (s : State) (a b c : Nat) (l : List Byte) : (s.eventAt a b c l).pair = s.pair := by
  obtain ⟨_, _, _, _, h⟩ := s.eventAt_same a b c l; rw [h]
@[simp] theorem State.eventAt_cnt (s : State) (a b c : Nat) (l : List Byte) : (s.eventAt a b c l).cnt = s.cnt := by
  obtain ⟨_, _, _, _, h⟩ := s.eventAt_same a b c l; rw [h]

/-! ### event -/

theorem State.event_same (s : State) (a b : Nat) (l : List Byte) :
    ∃ x0 x1 x2 x3, s.event a b l = { s with regs := x0, host := x1, fw := x2, sw := x3 } := by
  exact s.eventAt_same _ _ _ _

@[simp] theorem State.event_pending (s : State) (a b : Nat) (l : List Byte) : (s.event a b l).pending = s.pending := by
  obtain ⟨_, _, _, _, h⟩ := s.event_same a b l; rw [h]
@[simp] theorem State.event_free (s : State) (a b : Nat) (l : List Byte) : (s.event a b l).free = s.free := by
  obtain ⟨_, _, _, _, h⟩ := s.event_same a b l; rw [h]
@[simp] theorem State.event_aon (s : State) (a b : Nat) (l : List Byte) : (s.event a b l).aon = s.aon := by
  obtain ⟨_, _, _, _, h⟩ := s.event_same a b l; rw [h]
@[simp] theorem State.event_pwr (s : State) (a b : Nat) (l : List Byte) : (s.event a b l).pwr = s.pwr := by
  obtain ⟨_, _, _, _, h⟩ := s.event_same a b l; rw [h]
@[simp] theorem State.event_ports (s : State) (a b : Nat) (l : List Byte) : (s.event a b l).ports = s.ports := by
  obtain ⟨_, _, _, _, h⟩ := s.event_same a b l; rw [h]
@[simp] theorem State.event_pools (s : State) (a b : Nat) (l : List Byte) : (s.event a b l).pools = s.pools := by
  obtain ⟨_, _, _, _, h⟩ := s.event_same a b l; rw [h]
@[simp] theorem State.event_flows (s : State) (a b : Nat) (l : List Byte) : (s.event a b l).flows = s.flows := by
  obtain ⟨_, _, _, _, h⟩ := s.event_same a b l; rw [h]
@[simp] theorem State.event_groups (s : State) (a b : Nat) (l : List Byte) : (s.event a b l).groups = s.groups := by
  obtain ⟨_, _, _, _, h⟩ := s.event_same a b l; rw [h]
@[simp] theorem State.event_mem (s : State) (a b : Nat) (l : List Byte) : (s.event a b l).mem = s.mem := by
  obtain ⟨_, _, _, _, h⟩ := s.event_same a b l; rw [h]
@[simp] theorem State.event_seq (s : State) (a b : Nat) (l : List Byte) : (s.event a b l).seq = s.seq := by
  obtain ⟨_, _, _, _, h⟩ := s.event_same a b l; rw [h]
@[simp] theorem State.event_shed (s : State) (a b : Nat) (l : List Byte) : (s.event a b l).shed = s.shed := by
  obtain ⟨_, _, _, _, h⟩ := s.event_same a b l; rw [h]
@[simp] theorem State.event_ctxs (s : State) (a b : Nat) (l : List Byte) : (s.event a b l).ctxs = s.ctxs := by
  obtain ⟨_, _, _, _, h⟩ := s.event_same a b l; rw [h]
@[simp] theorem State.event_grpCmd (s : State) (a b : Nat) (l : List Byte) : (s.event a b l).grpCmd = s.grpCmd := by
  obtain ⟨_, _, _, _, h⟩ := s.event_same a b l; rw [h]
@[simp] theorem State.event_trd (s : State) (a b : Nat) (l : List Byte) : (s.event a b l).trd = s.trd := by
  obtain ⟨_, _, _, _, h⟩ := s.event_same a b l; rw [h]
@[simp] theorem State.event_thm (s : State) (a b : Nat) (l : List Byte) : (s.event a b l).thm = s.thm := by
  obtain ⟨_, _, _, _, h⟩ := s.event_same a b l; rw [h]
@[simp] theorem State.event_carts (s : State) (a b : Nat) (l : List Byte) : (s.event a b l).carts = s.carts := by
  obtain ⟨_, _, _, _, h⟩ := s.event_same a b l; rw [h]
@[simp] theorem State.event_pair (s : State) (a b : Nat) (l : List Byte) : (s.event a b l).pair = s.pair := by
  obtain ⟨_, _, _, _, h⟩ := s.event_same a b l; rw [h]
@[simp] theorem State.event_cnt (s : State) (a b : Nat) (l : List Byte) : (s.event a b l).cnt = s.cnt := by
  obtain ⟨_, _, _, _, h⟩ := s.event_same a b l; rw [h]

/-! ### replyWrite -/

theorem State.replyWrite_same (s : State) (e : HostEntry) (d : List (Nat × List Byte)) :
    ∃ x0 x1, s.replyWrite e d = { s with regs := x0, host := x1 } := by
  unfold State.replyWrite; repeat' split
  · exact ⟨_, _, rfl⟩
  · obtain ⟨_, _, h⟩ := State.ringPut_same _ _ _; exact ⟨_, _, h⟩
  · exact ⟨_, _, rfl⟩

@[simp] theorem State.replyWrite_pending (s : State) (e : HostEntry) (d : List (Nat × List Byte)) : (s.replyWrite e d).pending = s.pending := by
  obtain ⟨_, _, h⟩ := s.replyWrite_same e d; rw [h]
@[simp] theorem State.replyWrite_free (s : State) (e : HostEntry) (d : List (Nat × List Byte)) : (s.replyWrite e d).free = s.free := by
  obtain ⟨_, _, h⟩ := s.replyWrite_same e d; rw [h]
@[simp] theorem State.replyWrite_aon (s : State) (e : HostEntry) (d : List (Nat × List Byte)) : (s.replyWrite e d).aon = s.aon := by
  obtain ⟨_, _, h⟩ := s.replyWrite_same e d; rw [h]
@[simp] theorem State.replyWrite_pwr (s : State) (e : HostEntry) (d : List (Nat × List Byte)) : (s.replyWrite e d).pwr = s.pwr := by
  obtain ⟨_, _, h⟩ := s.replyWrite_same e d; rw [h]
@[simp] theorem State.replyWrite_ports (s : State) (e : HostEntry) (d : List (Nat × List Byte)) : (s.replyWrite e d).ports = s.ports := by
  obtain ⟨_, _, h⟩ := s.replyWrite_same e d; rw [h]
@[simp] theorem State.replyWrite_sw (s : State) (e : HostEntry) (d : List (Nat × List Byte)) : (s.replyWrite e d).sw = s.sw := by
  obtain ⟨_, _, h⟩ := s.replyWrite_same e d; rw [h]
@[simp] theorem State.replyWrite_pools (s : State) (e : HostEntry) (d : List (Nat × List Byte)) : (s.replyWrite e d).pools = s.pools := by
  obtain ⟨_, _, h⟩ := s.replyWrite_same e d; rw [h]
@[simp] theorem State.replyWrite_flows (s : State) (e : HostEntry) (d : List (Nat × List Byte)) : (s.replyWrite e d).flows = s.flows := by
  obtain ⟨_, _, h⟩ := s.replyWrite_same e d; rw [h]
@[simp] theorem State.replyWrite_groups (s : State) (e : HostEntry) (d : List (Nat × List Byte)) : (s.replyWrite e d).groups = s.groups := by
  obtain ⟨_, _, h⟩ := s.replyWrite_same e d; rw [h]
@[simp] theorem State.replyWrite_mem (s : State) (e : HostEntry) (d : List (Nat × List Byte)) : (s.replyWrite e d).mem = s.mem := by
  obtain ⟨_, _, h⟩ := s.replyWrite_same e d; rw [h]
@[simp] theorem State.replyWrite_seq (s : State) (e : HostEntry) (d : List (Nat × List Byte)) : (s.replyWrite e d).seq = s.seq := by
  obtain ⟨_, _, h⟩ := s.replyWrite_same e d; rw [h]
@[simp] theorem State.replyWrite_shed (s : State) (e : HostEntry) (d : List (Nat × List Byte)) : (s.replyWrite e d).shed = s.shed := by
  obtain ⟨_, _, h⟩ := s.replyWrite_same e d; rw [h]
@[simp] theorem State.replyWrite_ctxs (s : State) (e : HostEntry) (d : List (Nat × List Byte)) : (s.replyWrite e d).ctxs = s.ctxs := by
  obtain ⟨_, _, h⟩ := s.replyWrite_same e d; rw [h]
@[simp] theorem State.replyWrite_grpCmd (s : State) (e : HostEntry) (d : List (Nat × List Byte)) : (s.replyWrite e d).grpCmd = s.grpCmd := by
  obtain ⟨_, _, h⟩ := s.replyWrite_same e d; rw [h]
@[simp] theorem State.replyWrite_fw (s : State) (e : HostEntry) (d : List (Nat × List Byte)) : (s.replyWrite e d).fw = s.fw := by
  obtain ⟨_, _, h⟩ := s.replyWrite_same e d; rw [h]
@[simp] theorem State.replyWrite_trd (s : State) (e : HostEntry) (d : List (Nat × List Byte)) : (s.replyWrite e d).trd = s.trd := by
  obtain ⟨_, _, h⟩ := s.replyWrite_same e d; rw [h]
@[simp] theorem State.replyWrite_thm (s : State) (e : HostEntry) (d : List (Nat × List Byte)) : (s.replyWrite e d).thm = s.thm := by
  obtain ⟨_, _, h⟩ := s.replyWrite_same e d; rw [h]
@[simp] theorem State.replyWrite_carts (s : State) (e : HostEntry) (d : List (Nat × List Byte)) : (s.replyWrite e d).carts = s.carts := by
  obtain ⟨_, _, h⟩ := s.replyWrite_same e d; rw [h]
@[simp] theorem State.replyWrite_pair (s : State) (e : HostEntry) (d : List (Nat × List Byte)) : (s.replyWrite e d).pair = s.pair := by
  obtain ⟨_, _, h⟩ := s.replyWrite_same e d; rw [h]
@[simp] theorem State.replyWrite_cnt (s : State) (e : HostEntry) (d : List (Nat × List Byte)) : (s.replyWrite e d).cnt = s.cnt := by
  obtain ⟨_, _, h⟩ := s.replyWrite_same e d; rw [h]

/-! ### replyOut -/

theorem State.replyOut_same (s : State) (p : Prog) (a : Nat) (l : List Byte) :
    ∃ x0 x1, s.replyOut p a l = { s with regs := x0, host := x1 } := by
  exact s.replyWrite_same _ _

@[simp] theorem State.replyOut_pending (s : State) (p : Prog) (a : Nat) (l : List Byte) : (s.replyOut p a l).pending = s.pending := by
  obtain ⟨_, _, h⟩ := s.replyOut_same p a l; rw [h]
@[simp] theorem State.replyOut_free (s : State) (p : Prog) (a : Nat) (l : List Byte) : (s.replyOut p a l).free = s.free := by
  obtain ⟨_, _, h⟩ := s.replyOut_same p a l; rw [h]
@[simp] theorem State.replyOut_aon (s : State) (p : Prog) (a : Nat) (l : List Byte) : (s.replyOut p a l).aon = s.aon := by
  obtain ⟨_, _, h⟩ := s.replyOut_same p a l; rw [h]
@[simp] theorem State.replyOut_pwr (s : State) (p : Prog) (a : Nat) (l : List Byte) : (s.replyOut p a l).pwr = s.pwr := by
  obtain ⟨_, _, h⟩ := s.replyOut_same p a l; rw [h]
@[simp] theorem State.replyOut_ports (s : State) (p : Prog) (a : Nat) (l : List Byte) : (s.replyOut p a l).ports = s.ports := by
  obtain ⟨_, _, h⟩ := s.replyOut_same p a l; rw [h]
@[simp] theorem State.replyOut_sw (s : State) (p : Prog) (a : Nat) (l : List Byte) : (s.replyOut p a l).sw = s.sw := by
  obtain ⟨_, _, h⟩ := s.replyOut_same p a l; rw [h]
@[simp] theorem State.replyOut_pools (s : State) (p : Prog) (a : Nat) (l : List Byte) : (s.replyOut p a l).pools = s.pools := by
  obtain ⟨_, _, h⟩ := s.replyOut_same p a l; rw [h]
@[simp] theorem State.replyOut_flows (s : State) (p : Prog) (a : Nat) (l : List Byte) : (s.replyOut p a l).flows = s.flows := by
  obtain ⟨_, _, h⟩ := s.replyOut_same p a l; rw [h]
@[simp] theorem State.replyOut_groups (s : State) (p : Prog) (a : Nat) (l : List Byte) : (s.replyOut p a l).groups = s.groups := by
  obtain ⟨_, _, h⟩ := s.replyOut_same p a l; rw [h]
@[simp] theorem State.replyOut_mem (s : State) (p : Prog) (a : Nat) (l : List Byte) : (s.replyOut p a l).mem = s.mem := by
  obtain ⟨_, _, h⟩ := s.replyOut_same p a l; rw [h]
@[simp] theorem State.replyOut_seq (s : State) (p : Prog) (a : Nat) (l : List Byte) : (s.replyOut p a l).seq = s.seq := by
  obtain ⟨_, _, h⟩ := s.replyOut_same p a l; rw [h]
@[simp] theorem State.replyOut_shed (s : State) (p : Prog) (a : Nat) (l : List Byte) : (s.replyOut p a l).shed = s.shed := by
  obtain ⟨_, _, h⟩ := s.replyOut_same p a l; rw [h]
@[simp] theorem State.replyOut_ctxs (s : State) (p : Prog) (a : Nat) (l : List Byte) : (s.replyOut p a l).ctxs = s.ctxs := by
  obtain ⟨_, _, h⟩ := s.replyOut_same p a l; rw [h]
@[simp] theorem State.replyOut_grpCmd (s : State) (p : Prog) (a : Nat) (l : List Byte) : (s.replyOut p a l).grpCmd = s.grpCmd := by
  obtain ⟨_, _, h⟩ := s.replyOut_same p a l; rw [h]
@[simp] theorem State.replyOut_fw (s : State) (p : Prog) (a : Nat) (l : List Byte) : (s.replyOut p a l).fw = s.fw := by
  obtain ⟨_, _, h⟩ := s.replyOut_same p a l; rw [h]
@[simp] theorem State.replyOut_trd (s : State) (p : Prog) (a : Nat) (l : List Byte) : (s.replyOut p a l).trd = s.trd := by
  obtain ⟨_, _, h⟩ := s.replyOut_same p a l; rw [h]
@[simp] theorem State.replyOut_thm (s : State) (p : Prog) (a : Nat) (l : List Byte) : (s.replyOut p a l).thm = s.thm := by
  obtain ⟨_, _, h⟩ := s.replyOut_same p a l; rw [h]
@[simp] theorem State.replyOut_carts (s : State) (p : Prog) (a : Nat) (l : List Byte) : (s.replyOut p a l).carts = s.carts := by
  obtain ⟨_, _, h⟩ := s.replyOut_same p a l; rw [h]
@[simp] theorem State.replyOut_pair (s : State) (p : Prog) (a : Nat) (l : List Byte) : (s.replyOut p a l).pair = s.pair := by
  obtain ⟨_, _, h⟩ := s.replyOut_same p a l; rw [h]
@[simp] theorem State.replyOut_cnt (s : State) (p : Prog) (a : Nat) (l : List Byte) : (s.replyOut p a l).cnt = s.cnt := by
  obtain ⟨_, _, h⟩ := s.replyOut_same p a l; rw [h]

/-! ### finish -/

theorem State.finish_same (s : State) (a b : Nat) (l : List Byte) :
    ∃ x0 x1 x2, s.finish a b l = { s with regs := x0, host := x1, sw := x2 } := by
  unfold State.finish; dsimp only; repeat' split
  · exact ⟨_, _, _, rfl⟩
  · exact ⟨_, _, _, rfl⟩
  · obtain ⟨_, _, h⟩ := State.replyOut_same _ _ _ _; exact ⟨_, _, _, h⟩
  · obtain ⟨_, _, h⟩ := State.replyOut_same _ _ _ _; exact ⟨_, _, _, h⟩
  all_goals obtain ⟨_, h⟩ := State.sendCuing_same _ _ _ _ _ _ _ _; exact ⟨_, _, _, h⟩

@[simp] theorem State.finish_pending (s : State) (a b : Nat) (l : List Byte) : (s.finish a b l).pending = s.pending := by
  obtain ⟨_, _, _, h⟩ := s.finish_same a b l; rw [h]
@[simp] theorem State.finish_free (s : State) (a b : Nat) (l : List Byte) : (s.finish a b l).free = s.free := by
  obtain ⟨_, _, _, h⟩ := s.finish_same a b l; rw [h]
@[simp] theorem State.finish_aon (s : State) (a b : Nat) (l : List Byte) : (s.finish a b l).aon = s.aon := by
  obtain ⟨_, _, _, h⟩ := s.finish_same a b l; rw [h]
@[simp] theorem State.finish_pwr (s : State) (a b : Nat) (l : List Byte) : (s.finish a b l).pwr = s.pwr := by
  obtain ⟨_, _, _, h⟩ := s.finish_same a b l; rw [h]
@[simp] theorem State.finish_ports (s : State) (a b : Nat) (l : List Byte) : (s.finish a b l).ports = s.ports := by
  obtain ⟨_, _, _, h⟩ := s.finish_same a b l; rw [h]
@[simp] theorem State.finish_pools (s : State) (a b : Nat) (l : List Byte) : (s.finish a b l).pools = s.pools := by
  obtain ⟨_, _, _, h⟩ := s.finish_same a b l; rw [h]
@[simp] theorem State.finish_flows (s : State) (a b : Nat) (l : List Byte) : (s.finish a b l).flows = s.flows := by
  obtain ⟨_, _, _, h⟩ := s.finish_same a b l; rw [h]
@[simp] theorem State.finish_groups (s : State) (a b : Nat) (l : List Byte) : (s.finish a b l).groups = s.groups := by
  obtain ⟨_, _, _, h⟩ := s.finish_same a b l; rw [h]
@[simp] theorem State.finish_mem (s : State) (a b : Nat) (l : List Byte) : (s.finish a b l).mem = s.mem := by
  obtain ⟨_, _, _, h⟩ := s.finish_same a b l; rw [h]
@[simp] theorem State.finish_seq (s : State) (a b : Nat) (l : List Byte) : (s.finish a b l).seq = s.seq := by
  obtain ⟨_, _, _, h⟩ := s.finish_same a b l; rw [h]
@[simp] theorem State.finish_shed (s : State) (a b : Nat) (l : List Byte) : (s.finish a b l).shed = s.shed := by
  obtain ⟨_, _, _, h⟩ := s.finish_same a b l; rw [h]
@[simp] theorem State.finish_ctxs (s : State) (a b : Nat) (l : List Byte) : (s.finish a b l).ctxs = s.ctxs := by
  obtain ⟨_, _, _, h⟩ := s.finish_same a b l; rw [h]
@[simp] theorem State.finish_grpCmd (s : State) (a b : Nat) (l : List Byte) : (s.finish a b l).grpCmd = s.grpCmd := by
  obtain ⟨_, _, _, h⟩ := s.finish_same a b l; rw [h]
@[simp] theorem State.finish_fw (s : State) (a b : Nat) (l : List Byte) : (s.finish a b l).fw = s.fw := by
  obtain ⟨_, _, _, h⟩ := s.finish_same a b l; rw [h]
@[simp] theorem State.finish_trd (s : State) (a b : Nat) (l : List Byte) : (s.finish a b l).trd = s.trd := by
  obtain ⟨_, _, _, h⟩ := s.finish_same a b l; rw [h]
@[simp] theorem State.finish_thm (s : State) (a b : Nat) (l : List Byte) : (s.finish a b l).thm = s.thm := by
  obtain ⟨_, _, _, h⟩ := s.finish_same a b l; rw [h]
@[simp] theorem State.finish_carts (s : State) (a b : Nat) (l : List Byte) : (s.finish a b l).carts = s.carts := by
  obtain ⟨_, _, _, h⟩ := s.finish_same a b l; rw [h]
@[simp] theorem State.finish_pair (s : State) (a b : Nat) (l : List Byte) : (s.finish a b l).pair = s.pair := by
  obtain ⟨_, _, _, h⟩ := s.finish_same a b l; rw [h]
@[simp] theorem State.finish_cnt (s : State) (a b : Nat) (l : List Byte) : (s.finish a b l).cnt = s.cnt := by
  obtain ⟨_, _, _, h⟩ := s.finish_same a b l; rw [h]

/-! ### Counters -/

theorem State.setRf_same (s : State) (a h l v : Nat) : ∃ r, s.setRf a h l v = { s with regs := r } := ⟨_, rfl⟩
theorem State.setCtr_same (s : State) (b v : Nat) : ∃ r, s.setCtr b v = { s with regs := r } := ⟨_, rfl⟩
theorem State.ctrOverflow_same (s : State) (b v : Nat) : ∃ r, (s.ctrOverflow b v).1 = { s with regs := r } := by
  unfold State.ctrOverflow
  split
  · exact s.setCtr_same b v
  · split
    · dsimp only
      generalize 2 ^ 48 - s.rf (b + 12) 31 0 = w
      obtain ⟨_, h⟩ := s.setCtr_same b w
      rw [h]; exact State.setRf_same _ _ _ _ _
    · dsimp only
      obtain ⟨_, h⟩ := s.setCtr_same b v
      rw [h]; exact State.setRf_same _ _ _ _ _

/-- Counting changes registers alone. -/
theorem State.ctrAdd_same (n : Nat) (s : State) (b v : Nat) : ∃ r, State.ctrAdd n s b v = { s with regs := r } := by
  induction n generalizing s b v with
  | zero => exact ⟨_, rfl⟩
  | succ n ih =>
    unfold State.ctrAdd
    dsimp only
    generalize 2 ^ 48 = m
    split
    · exact s.setCtr_same _ _
    · obtain ⟨_, hu⟩ := s.ctrOverflow_same b (s.ctr b + v - m)
      split
      · rw [hu]
        obtain ⟨_, ht⟩ := ih _ (b + 0x10) 1
        exact ⟨_, ht⟩
      · exact ⟨_, hu⟩

@[simp] theorem State.ctrAdd_pending (n : Nat) (s : State) (b v : Nat) : (State.ctrAdd n s b v).pending = s.pending := by
  obtain ⟨t, h⟩ := State.ctrAdd_same n s b v; rw [h]
@[simp] theorem State.ctrAdd_free (n : Nat) (s : State) (b v : Nat) : (State.ctrAdd n s b v).free = s.free := by
  obtain ⟨t, h⟩ := State.ctrAdd_same n s b v; rw [h]
@[simp] theorem State.ctrAdd_aon (n : Nat) (s : State) (b v : Nat) : (State.ctrAdd n s b v).aon = s.aon := by
  obtain ⟨t, h⟩ := State.ctrAdd_same n s b v; rw [h]
@[simp] theorem State.ctrAdd_pwr (n : Nat) (s : State) (b v : Nat) : (State.ctrAdd n s b v).pwr = s.pwr := by
  obtain ⟨t, h⟩ := State.ctrAdd_same n s b v; rw [h]
@[simp] theorem State.ctrAdd_ports (n : Nat) (s : State) (b v : Nat) : (State.ctrAdd n s b v).ports = s.ports := by
  obtain ⟨t, h⟩ := State.ctrAdd_same n s b v; rw [h]
@[simp] theorem State.ctrAdd_sw (n : Nat) (s : State) (b v : Nat) : (State.ctrAdd n s b v).sw = s.sw := by
  obtain ⟨t, h⟩ := State.ctrAdd_same n s b v; rw [h]
@[simp] theorem State.ctrAdd_pools (n : Nat) (s : State) (b v : Nat) : (State.ctrAdd n s b v).pools = s.pools := by
  obtain ⟨t, h⟩ := State.ctrAdd_same n s b v; rw [h]
@[simp] theorem State.ctrAdd_flows (n : Nat) (s : State) (b v : Nat) : (State.ctrAdd n s b v).flows = s.flows := by
  obtain ⟨t, h⟩ := State.ctrAdd_same n s b v; rw [h]
@[simp] theorem State.ctrAdd_groups (n : Nat) (s : State) (b v : Nat) : (State.ctrAdd n s b v).groups = s.groups := by
  obtain ⟨t, h⟩ := State.ctrAdd_same n s b v; rw [h]
@[simp] theorem State.ctrAdd_mem (n : Nat) (s : State) (b v : Nat) : (State.ctrAdd n s b v).mem = s.mem := by
  obtain ⟨t, h⟩ := State.ctrAdd_same n s b v; rw [h]
@[simp] theorem State.ctrAdd_seq (n : Nat) (s : State) (b v : Nat) : (State.ctrAdd n s b v).seq = s.seq := by
  obtain ⟨t, h⟩ := State.ctrAdd_same n s b v; rw [h]
@[simp] theorem State.ctrAdd_shed (n : Nat) (s : State) (b v : Nat) : (State.ctrAdd n s b v).shed = s.shed := by
  obtain ⟨t, h⟩ := State.ctrAdd_same n s b v; rw [h]
@[simp] theorem State.ctrAdd_ctxs (n : Nat) (s : State) (b v : Nat) : (State.ctrAdd n s b v).ctxs = s.ctxs := by
  obtain ⟨t, h⟩ := State.ctrAdd_same n s b v; rw [h]
@[simp] theorem State.ctrAdd_grpCmd (n : Nat) (s : State) (b v : Nat) : (State.ctrAdd n s b v).grpCmd = s.grpCmd := by
  obtain ⟨t, h⟩ := State.ctrAdd_same n s b v; rw [h]
@[simp] theorem State.ctrAdd_host (n : Nat) (s : State) (b v : Nat) : (State.ctrAdd n s b v).host = s.host := by
  obtain ⟨t, h⟩ := State.ctrAdd_same n s b v; rw [h]
@[simp] theorem State.ctrAdd_fw (n : Nat) (s : State) (b v : Nat) : (State.ctrAdd n s b v).fw = s.fw := by
  obtain ⟨t, h⟩ := State.ctrAdd_same n s b v; rw [h]
@[simp] theorem State.ctrAdd_trd (n : Nat) (s : State) (b v : Nat) : (State.ctrAdd n s b v).trd = s.trd := by
  obtain ⟨t, h⟩ := State.ctrAdd_same n s b v; rw [h]
@[simp] theorem State.ctrAdd_thm (n : Nat) (s : State) (b v : Nat) : (State.ctrAdd n s b v).thm = s.thm := by
  obtain ⟨t, h⟩ := State.ctrAdd_same n s b v; rw [h]
@[simp] theorem State.ctrAdd_carts (n : Nat) (s : State) (b v : Nat) : (State.ctrAdd n s b v).carts = s.carts := by
  obtain ⟨t, h⟩ := State.ctrAdd_same n s b v; rw [h]
@[simp] theorem State.ctrAdd_pair (n : Nat) (s : State) (b v : Nat) : (State.ctrAdd n s b v).pair = s.pair := by
  obtain ⟨t, h⟩ := State.ctrAdd_same n s b v; rw [h]
@[simp] theorem State.ctrAdd_cnt (n : Nat) (s : State) (b v : Nat) : (State.ctrAdd n s b v).cnt = s.cnt := by
  obtain ⟨t, h⟩ := State.ctrAdd_same n s b v; rw [h]
/-! ### ctrBank -/

theorem State.ctrBank_same (s : State) (b k c n : Nat) (q : Nat → Bool) :
    ∃ x0, s.ctrBank b k c n q = { s with regs := x0 } := by
  refine List.foldlRecOn (motive := fun t : State => ∃ x0, t = { s with regs := x0 }) _ _ ⟨_, rfl⟩ (fun t h x _ => ?_)
  obtain ⟨_, rfl⟩ := h
  split
  · obtain ⟨_, h⟩ := State.ctrAdd_same 16 _ _ _; exact ⟨_, h⟩
  · exact ⟨_, rfl⟩

@[simp] theorem State.ctrBank_pending (s : State) (b k c n : Nat) (q : Nat → Bool) : (s.ctrBank b k c n q).pending = s.pending := by
  obtain ⟨_, h⟩ := s.ctrBank_same b k c n q; rw [h]
@[simp] theorem State.ctrBank_free (s : State) (b k c n : Nat) (q : Nat → Bool) : (s.ctrBank b k c n q).free = s.free := by
  obtain ⟨_, h⟩ := s.ctrBank_same b k c n q; rw [h]
@[simp] theorem State.ctrBank_aon (s : State) (b k c n : Nat) (q : Nat → Bool) : (s.ctrBank b k c n q).aon = s.aon := by
  obtain ⟨_, h⟩ := s.ctrBank_same b k c n q; rw [h]
@[simp] theorem State.ctrBank_pwr (s : State) (b k c n : Nat) (q : Nat → Bool) : (s.ctrBank b k c n q).pwr = s.pwr := by
  obtain ⟨_, h⟩ := s.ctrBank_same b k c n q; rw [h]
@[simp] theorem State.ctrBank_ports (s : State) (b k c n : Nat) (q : Nat → Bool) : (s.ctrBank b k c n q).ports = s.ports := by
  obtain ⟨_, h⟩ := s.ctrBank_same b k c n q; rw [h]
@[simp] theorem State.ctrBank_sw (s : State) (b k c n : Nat) (q : Nat → Bool) : (s.ctrBank b k c n q).sw = s.sw := by
  obtain ⟨_, h⟩ := s.ctrBank_same b k c n q; rw [h]
@[simp] theorem State.ctrBank_pools (s : State) (b k c n : Nat) (q : Nat → Bool) : (s.ctrBank b k c n q).pools = s.pools := by
  obtain ⟨_, h⟩ := s.ctrBank_same b k c n q; rw [h]
@[simp] theorem State.ctrBank_flows (s : State) (b k c n : Nat) (q : Nat → Bool) : (s.ctrBank b k c n q).flows = s.flows := by
  obtain ⟨_, h⟩ := s.ctrBank_same b k c n q; rw [h]
@[simp] theorem State.ctrBank_groups (s : State) (b k c n : Nat) (q : Nat → Bool) : (s.ctrBank b k c n q).groups = s.groups := by
  obtain ⟨_, h⟩ := s.ctrBank_same b k c n q; rw [h]
@[simp] theorem State.ctrBank_mem (s : State) (b k c n : Nat) (q : Nat → Bool) : (s.ctrBank b k c n q).mem = s.mem := by
  obtain ⟨_, h⟩ := s.ctrBank_same b k c n q; rw [h]
@[simp] theorem State.ctrBank_seq (s : State) (b k c n : Nat) (q : Nat → Bool) : (s.ctrBank b k c n q).seq = s.seq := by
  obtain ⟨_, h⟩ := s.ctrBank_same b k c n q; rw [h]
@[simp] theorem State.ctrBank_shed (s : State) (b k c n : Nat) (q : Nat → Bool) : (s.ctrBank b k c n q).shed = s.shed := by
  obtain ⟨_, h⟩ := s.ctrBank_same b k c n q; rw [h]
@[simp] theorem State.ctrBank_ctxs (s : State) (b k c n : Nat) (q : Nat → Bool) : (s.ctrBank b k c n q).ctxs = s.ctxs := by
  obtain ⟨_, h⟩ := s.ctrBank_same b k c n q; rw [h]
@[simp] theorem State.ctrBank_grpCmd (s : State) (b k c n : Nat) (q : Nat → Bool) : (s.ctrBank b k c n q).grpCmd = s.grpCmd := by
  obtain ⟨_, h⟩ := s.ctrBank_same b k c n q; rw [h]
@[simp] theorem State.ctrBank_host (s : State) (b k c n : Nat) (q : Nat → Bool) : (s.ctrBank b k c n q).host = s.host := by
  obtain ⟨_, h⟩ := s.ctrBank_same b k c n q; rw [h]
@[simp] theorem State.ctrBank_fw (s : State) (b k c n : Nat) (q : Nat → Bool) : (s.ctrBank b k c n q).fw = s.fw := by
  obtain ⟨_, h⟩ := s.ctrBank_same b k c n q; rw [h]
@[simp] theorem State.ctrBank_trd (s : State) (b k c n : Nat) (q : Nat → Bool) : (s.ctrBank b k c n q).trd = s.trd := by
  obtain ⟨_, h⟩ := s.ctrBank_same b k c n q; rw [h]
@[simp] theorem State.ctrBank_thm (s : State) (b k c n : Nat) (q : Nat → Bool) : (s.ctrBank b k c n q).thm = s.thm := by
  obtain ⟨_, h⟩ := s.ctrBank_same b k c n q; rw [h]
@[simp] theorem State.ctrBank_carts (s : State) (b k c n : Nat) (q : Nat → Bool) : (s.ctrBank b k c n q).carts = s.carts := by
  obtain ⟨_, h⟩ := s.ctrBank_same b k c n q; rw [h]
@[simp] theorem State.ctrBank_pair (s : State) (b k c n : Nat) (q : Nat → Bool) : (s.ctrBank b k c n q).pair = s.pair := by
  obtain ⟨_, h⟩ := s.ctrBank_same b k c n q; rw [h]
@[simp] theorem State.ctrBank_cnt (s : State) (b k c n : Nat) (q : Nat → Bool) : (s.ctrBank b k c n q).cnt = s.cnt := by
  obtain ⟨_, h⟩ := s.ctrBank_same b k c n q; rw [h]

/-! ### evDev -/

theorem State.evDev_same (s : State) (c n : Nat) :
    ∃ x0, s.evDev c n = { s with regs := x0 } := by
  unfold State.evDev; split
  · exact ⟨_, rfl⟩
  · exact s.ctrBank_same _ _ _ _ _

@[simp] theorem State.evDev_pending (s : State) (c n : Nat) : (s.evDev c n).pending = s.pending := by
  obtain ⟨_, h⟩ := s.evDev_same c n; rw [h]
@[simp] theorem State.evDev_free (s : State) (c n : Nat) : (s.evDev c n).free = s.free := by
  obtain ⟨_, h⟩ := s.evDev_same c n; rw [h]
@[simp] theorem State.evDev_aon (s : State) (c n : Nat) : (s.evDev c n).aon = s.aon := by
  obtain ⟨_, h⟩ := s.evDev_same c n; rw [h]
@[simp] theorem State.evDev_pwr (s : State) (c n : Nat) : (s.evDev c n).pwr = s.pwr := by
  obtain ⟨_, h⟩ := s.evDev_same c n; rw [h]
@[simp] theorem State.evDev_ports (s : State) (c n : Nat) : (s.evDev c n).ports = s.ports := by
  obtain ⟨_, h⟩ := s.evDev_same c n; rw [h]
@[simp] theorem State.evDev_sw (s : State) (c n : Nat) : (s.evDev c n).sw = s.sw := by
  obtain ⟨_, h⟩ := s.evDev_same c n; rw [h]
@[simp] theorem State.evDev_pools (s : State) (c n : Nat) : (s.evDev c n).pools = s.pools := by
  obtain ⟨_, h⟩ := s.evDev_same c n; rw [h]
@[simp] theorem State.evDev_flows (s : State) (c n : Nat) : (s.evDev c n).flows = s.flows := by
  obtain ⟨_, h⟩ := s.evDev_same c n; rw [h]
@[simp] theorem State.evDev_groups (s : State) (c n : Nat) : (s.evDev c n).groups = s.groups := by
  obtain ⟨_, h⟩ := s.evDev_same c n; rw [h]
@[simp] theorem State.evDev_mem (s : State) (c n : Nat) : (s.evDev c n).mem = s.mem := by
  obtain ⟨_, h⟩ := s.evDev_same c n; rw [h]
@[simp] theorem State.evDev_seq (s : State) (c n : Nat) : (s.evDev c n).seq = s.seq := by
  obtain ⟨_, h⟩ := s.evDev_same c n; rw [h]
@[simp] theorem State.evDev_shed (s : State) (c n : Nat) : (s.evDev c n).shed = s.shed := by
  obtain ⟨_, h⟩ := s.evDev_same c n; rw [h]
@[simp] theorem State.evDev_ctxs (s : State) (c n : Nat) : (s.evDev c n).ctxs = s.ctxs := by
  obtain ⟨_, h⟩ := s.evDev_same c n; rw [h]
@[simp] theorem State.evDev_grpCmd (s : State) (c n : Nat) : (s.evDev c n).grpCmd = s.grpCmd := by
  obtain ⟨_, h⟩ := s.evDev_same c n; rw [h]
@[simp] theorem State.evDev_host (s : State) (c n : Nat) : (s.evDev c n).host = s.host := by
  obtain ⟨_, h⟩ := s.evDev_same c n; rw [h]
@[simp] theorem State.evDev_fw (s : State) (c n : Nat) : (s.evDev c n).fw = s.fw := by
  obtain ⟨_, h⟩ := s.evDev_same c n; rw [h]
@[simp] theorem State.evDev_trd (s : State) (c n : Nat) : (s.evDev c n).trd = s.trd := by
  obtain ⟨_, h⟩ := s.evDev_same c n; rw [h]
@[simp] theorem State.evDev_thm (s : State) (c n : Nat) : (s.evDev c n).thm = s.thm := by
  obtain ⟨_, h⟩ := s.evDev_same c n; rw [h]
@[simp] theorem State.evDev_carts (s : State) (c n : Nat) : (s.evDev c n).carts = s.carts := by
  obtain ⟨_, h⟩ := s.evDev_same c n; rw [h]
@[simp] theorem State.evDev_pair (s : State) (c n : Nat) : (s.evDev c n).pair = s.pair := by
  obtain ⟨_, h⟩ := s.evDev_same c n; rw [h]
@[simp] theorem State.evDev_cnt (s : State) (c n : Nat) : (s.evDev c n).cnt = s.cnt := by
  obtain ⟨_, h⟩ := s.evDev_same c n; rw [h]

/-! ### memUse -/

theorem State.memUse_same (s : State) (a n : Nat) :
    ∃ x0 x1, s.memUse a n = { s with regs := x0, pwr := x1 } := by
  unfold State.memUse; dsimp only; split
  · obtain ⟨_, h⟩ := s.wake_same _; exact ⟨_, _, h⟩
  · obtain ⟨_, h⟩ := s.ctrBank_same (aCntDev 0) 16 0x87 (ceilDiv n 64) (fun q => bit q (s.stackOf a))
    rw [h]; obtain ⟨_, h⟩ := State.wake_same _ _; exact ⟨_, _, h⟩

@[simp] theorem State.memUse_pending (s : State) (a n : Nat) : (s.memUse a n).pending = s.pending := by
  obtain ⟨_, _, h⟩ := s.memUse_same a n; rw [h]
@[simp] theorem State.memUse_free (s : State) (a n : Nat) : (s.memUse a n).free = s.free := by
  obtain ⟨_, _, h⟩ := s.memUse_same a n; rw [h]
@[simp] theorem State.memUse_aon (s : State) (a n : Nat) : (s.memUse a n).aon = s.aon := by
  obtain ⟨_, _, h⟩ := s.memUse_same a n; rw [h]
@[simp] theorem State.memUse_ports (s : State) (a n : Nat) : (s.memUse a n).ports = s.ports := by
  obtain ⟨_, _, h⟩ := s.memUse_same a n; rw [h]
@[simp] theorem State.memUse_sw (s : State) (a n : Nat) : (s.memUse a n).sw = s.sw := by
  obtain ⟨_, _, h⟩ := s.memUse_same a n; rw [h]
@[simp] theorem State.memUse_pools (s : State) (a n : Nat) : (s.memUse a n).pools = s.pools := by
  obtain ⟨_, _, h⟩ := s.memUse_same a n; rw [h]
@[simp] theorem State.memUse_flows (s : State) (a n : Nat) : (s.memUse a n).flows = s.flows := by
  obtain ⟨_, _, h⟩ := s.memUse_same a n; rw [h]
@[simp] theorem State.memUse_groups (s : State) (a n : Nat) : (s.memUse a n).groups = s.groups := by
  obtain ⟨_, _, h⟩ := s.memUse_same a n; rw [h]
@[simp] theorem State.memUse_mem (s : State) (a n : Nat) : (s.memUse a n).mem = s.mem := by
  obtain ⟨_, _, h⟩ := s.memUse_same a n; rw [h]
@[simp] theorem State.memUse_seq (s : State) (a n : Nat) : (s.memUse a n).seq = s.seq := by
  obtain ⟨_, _, h⟩ := s.memUse_same a n; rw [h]
@[simp] theorem State.memUse_shed (s : State) (a n : Nat) : (s.memUse a n).shed = s.shed := by
  obtain ⟨_, _, h⟩ := s.memUse_same a n; rw [h]
@[simp] theorem State.memUse_ctxs (s : State) (a n : Nat) : (s.memUse a n).ctxs = s.ctxs := by
  obtain ⟨_, _, h⟩ := s.memUse_same a n; rw [h]
@[simp] theorem State.memUse_grpCmd (s : State) (a n : Nat) : (s.memUse a n).grpCmd = s.grpCmd := by
  obtain ⟨_, _, h⟩ := s.memUse_same a n; rw [h]
@[simp] theorem State.memUse_host (s : State) (a n : Nat) : (s.memUse a n).host = s.host := by
  obtain ⟨_, _, h⟩ := s.memUse_same a n; rw [h]
@[simp] theorem State.memUse_fw (s : State) (a n : Nat) : (s.memUse a n).fw = s.fw := by
  obtain ⟨_, _, h⟩ := s.memUse_same a n; rw [h]
@[simp] theorem State.memUse_trd (s : State) (a n : Nat) : (s.memUse a n).trd = s.trd := by
  obtain ⟨_, _, h⟩ := s.memUse_same a n; rw [h]
@[simp] theorem State.memUse_thm (s : State) (a n : Nat) : (s.memUse a n).thm = s.thm := by
  obtain ⟨_, _, h⟩ := s.memUse_same a n; rw [h]
@[simp] theorem State.memUse_carts (s : State) (a n : Nat) : (s.memUse a n).carts = s.carts := by
  obtain ⟨_, _, h⟩ := s.memUse_same a n; rw [h]
@[simp] theorem State.memUse_pair (s : State) (a n : Nat) : (s.memUse a n).pair = s.pair := by
  obtain ⟨_, _, h⟩ := s.memUse_same a n; rw [h]
@[simp] theorem State.memUse_cnt (s : State) (a n : Nat) : (s.memUse a n).cnt = s.cnt := by
  obtain ⟨_, _, h⟩ := s.memUse_same a n; rw [h]

/-! ### memStore -/

theorem State.memStore_same (s : State) (a : Nat) (l : List Byte) :
    ∃ x0 x1 x2, s.memStore a l = { s with regs := x0, pwr := x1, mem := x2 } := by
  obtain ⟨_, _, h⟩ := s.memUse_same a l.length
  unfold State.memStore; rw [h]; exact ⟨_, _, _, rfl⟩

@[simp] theorem State.memStore_pending (s : State) (a : Nat) (l : List Byte) : (s.memStore a l).pending = s.pending := by
  obtain ⟨_, _, _, h⟩ := s.memStore_same a l; rw [h]
@[simp] theorem State.memStore_free (s : State) (a : Nat) (l : List Byte) : (s.memStore a l).free = s.free := by
  obtain ⟨_, _, _, h⟩ := s.memStore_same a l; rw [h]
@[simp] theorem State.memStore_aon (s : State) (a : Nat) (l : List Byte) : (s.memStore a l).aon = s.aon := by
  obtain ⟨_, _, _, h⟩ := s.memStore_same a l; rw [h]
@[simp] theorem State.memStore_ports (s : State) (a : Nat) (l : List Byte) : (s.memStore a l).ports = s.ports := by
  obtain ⟨_, _, _, h⟩ := s.memStore_same a l; rw [h]
@[simp] theorem State.memStore_sw (s : State) (a : Nat) (l : List Byte) : (s.memStore a l).sw = s.sw := by
  obtain ⟨_, _, _, h⟩ := s.memStore_same a l; rw [h]
@[simp] theorem State.memStore_pools (s : State) (a : Nat) (l : List Byte) : (s.memStore a l).pools = s.pools := by
  obtain ⟨_, _, _, h⟩ := s.memStore_same a l; rw [h]
@[simp] theorem State.memStore_flows (s : State) (a : Nat) (l : List Byte) : (s.memStore a l).flows = s.flows := by
  obtain ⟨_, _, _, h⟩ := s.memStore_same a l; rw [h]
@[simp] theorem State.memStore_groups (s : State) (a : Nat) (l : List Byte) : (s.memStore a l).groups = s.groups := by
  obtain ⟨_, _, _, h⟩ := s.memStore_same a l; rw [h]
@[simp] theorem State.memStore_seq (s : State) (a : Nat) (l : List Byte) : (s.memStore a l).seq = s.seq := by
  obtain ⟨_, _, _, h⟩ := s.memStore_same a l; rw [h]
@[simp] theorem State.memStore_shed (s : State) (a : Nat) (l : List Byte) : (s.memStore a l).shed = s.shed := by
  obtain ⟨_, _, _, h⟩ := s.memStore_same a l; rw [h]
@[simp] theorem State.memStore_ctxs (s : State) (a : Nat) (l : List Byte) : (s.memStore a l).ctxs = s.ctxs := by
  obtain ⟨_, _, _, h⟩ := s.memStore_same a l; rw [h]
@[simp] theorem State.memStore_grpCmd (s : State) (a : Nat) (l : List Byte) : (s.memStore a l).grpCmd = s.grpCmd := by
  obtain ⟨_, _, _, h⟩ := s.memStore_same a l; rw [h]
@[simp] theorem State.memStore_host (s : State) (a : Nat) (l : List Byte) : (s.memStore a l).host = s.host := by
  obtain ⟨_, _, _, h⟩ := s.memStore_same a l; rw [h]
@[simp] theorem State.memStore_fw (s : State) (a : Nat) (l : List Byte) : (s.memStore a l).fw = s.fw := by
  obtain ⟨_, _, _, h⟩ := s.memStore_same a l; rw [h]
@[simp] theorem State.memStore_trd (s : State) (a : Nat) (l : List Byte) : (s.memStore a l).trd = s.trd := by
  obtain ⟨_, _, _, h⟩ := s.memStore_same a l; rw [h]
@[simp] theorem State.memStore_thm (s : State) (a : Nat) (l : List Byte) : (s.memStore a l).thm = s.thm := by
  obtain ⟨_, _, _, h⟩ := s.memStore_same a l; rw [h]
@[simp] theorem State.memStore_carts (s : State) (a : Nat) (l : List Byte) : (s.memStore a l).carts = s.carts := by
  obtain ⟨_, _, _, h⟩ := s.memStore_same a l; rw [h]
@[simp] theorem State.memStore_pair (s : State) (a : Nat) (l : List Byte) : (s.memStore a l).pair = s.pair := by
  obtain ⟨_, _, _, h⟩ := s.memStore_same a l; rw [h]
@[simp] theorem State.memStore_cnt (s : State) (a : Nat) (l : List Byte) : (s.memStore a l).cnt = s.cnt := by
  obtain ⟨_, _, _, h⟩ := s.memStore_same a l; rw [h]

/-! ### pickIn -/

theorem State.pickIn_same (s : State) (p v : Nat) :
    ∃ x0 x1, s.pickIn p v = { s with free := x0, pools := x1 } := by
  unfold State.pickIn; dsimp only
  split
  all_goals exact ⟨_, _, rfl⟩

@[simp] theorem State.pickIn_pending (s : State) (p v : Nat) : (s.pickIn p v).pending = s.pending := by
  obtain ⟨_, _, h⟩ := s.pickIn_same p v; rw [h]
@[simp] theorem State.pickIn_aon (s : State) (p v : Nat) : (s.pickIn p v).aon = s.aon := by
  obtain ⟨_, _, h⟩ := s.pickIn_same p v; rw [h]
@[simp] theorem State.pickIn_regs (s : State) (p v : Nat) : (s.pickIn p v).regs = s.regs := by
  obtain ⟨_, _, h⟩ := s.pickIn_same p v; rw [h]
@[simp] theorem State.pickIn_pwr (s : State) (p v : Nat) : (s.pickIn p v).pwr = s.pwr := by
  obtain ⟨_, _, h⟩ := s.pickIn_same p v; rw [h]
@[simp] theorem State.pickIn_ports (s : State) (p v : Nat) : (s.pickIn p v).ports = s.ports := by
  obtain ⟨_, _, h⟩ := s.pickIn_same p v; rw [h]
@[simp] theorem State.pickIn_sw (s : State) (p v : Nat) : (s.pickIn p v).sw = s.sw := by
  obtain ⟨_, _, h⟩ := s.pickIn_same p v; rw [h]
@[simp] theorem State.pickIn_flows (s : State) (p v : Nat) : (s.pickIn p v).flows = s.flows := by
  obtain ⟨_, _, h⟩ := s.pickIn_same p v; rw [h]
@[simp] theorem State.pickIn_groups (s : State) (p v : Nat) : (s.pickIn p v).groups = s.groups := by
  obtain ⟨_, _, h⟩ := s.pickIn_same p v; rw [h]
@[simp] theorem State.pickIn_mem (s : State) (p v : Nat) : (s.pickIn p v).mem = s.mem := by
  obtain ⟨_, _, h⟩ := s.pickIn_same p v; rw [h]
@[simp] theorem State.pickIn_seq (s : State) (p v : Nat) : (s.pickIn p v).seq = s.seq := by
  obtain ⟨_, _, h⟩ := s.pickIn_same p v; rw [h]
@[simp] theorem State.pickIn_shed (s : State) (p v : Nat) : (s.pickIn p v).shed = s.shed := by
  obtain ⟨_, _, h⟩ := s.pickIn_same p v; rw [h]
@[simp] theorem State.pickIn_ctxs (s : State) (p v : Nat) : (s.pickIn p v).ctxs = s.ctxs := by
  obtain ⟨_, _, h⟩ := s.pickIn_same p v; rw [h]
@[simp] theorem State.pickIn_grpCmd (s : State) (p v : Nat) : (s.pickIn p v).grpCmd = s.grpCmd := by
  obtain ⟨_, _, h⟩ := s.pickIn_same p v; rw [h]
@[simp] theorem State.pickIn_host (s : State) (p v : Nat) : (s.pickIn p v).host = s.host := by
  obtain ⟨_, _, h⟩ := s.pickIn_same p v; rw [h]
@[simp] theorem State.pickIn_fw (s : State) (p v : Nat) : (s.pickIn p v).fw = s.fw := by
  obtain ⟨_, _, h⟩ := s.pickIn_same p v; rw [h]
@[simp] theorem State.pickIn_trd (s : State) (p v : Nat) : (s.pickIn p v).trd = s.trd := by
  obtain ⟨_, _, h⟩ := s.pickIn_same p v; rw [h]
@[simp] theorem State.pickIn_thm (s : State) (p v : Nat) : (s.pickIn p v).thm = s.thm := by
  obtain ⟨_, _, h⟩ := s.pickIn_same p v; rw [h]
@[simp] theorem State.pickIn_carts (s : State) (p v : Nat) : (s.pickIn p v).carts = s.carts := by
  obtain ⟨_, _, h⟩ := s.pickIn_same p v; rw [h]
@[simp] theorem State.pickIn_pair (s : State) (p v : Nat) : (s.pickIn p v).pair = s.pair := by
  obtain ⟨_, _, h⟩ := s.pickIn_same p v; rw [h]
@[simp] theorem State.pickIn_cnt (s : State) (p v : Nat) : (s.pickIn p v).cnt = s.cnt := by
  obtain ⟨_, _, h⟩ := s.pickIn_same p v; rw [h]

/-! ### enqueue -/

theorem State.enqueue_same (s : State) (a : Nat) (p : Pkt) :
    ∃ x0 x1 x2, s.enqueue a p = { s with free := x0, pools := x1, sw := x2 } := by
  refine List.foldlRecOn (motive := fun t : State => ∃ x0 x1 x2, t = { s with free := x0, pools := x1, sw := x2 }) _ _ ⟨_, _, _, rfl⟩ (fun t h x _ => ?_)
  obtain ⟨_, _, _, rfl⟩ := h
  obtain ⟨_, _, h⟩ := State.pickIn_same _ a (hVc p.hdr)
  exact ⟨_, _, _, h⟩

@[simp] theorem State.enqueue_pending (s : State) (a : Nat) (p : Pkt) : (s.enqueue a p).pending = s.pending := by
  obtain ⟨_, _, _, h⟩ := s.enqueue_same a p; rw [h]
@[simp] theorem State.enqueue_aon (s : State) (a : Nat) (p : Pkt) : (s.enqueue a p).aon = s.aon := by
  obtain ⟨_, _, _, h⟩ := s.enqueue_same a p; rw [h]
@[simp] theorem State.enqueue_regs (s : State) (a : Nat) (p : Pkt) : (s.enqueue a p).regs = s.regs := by
  obtain ⟨_, _, _, h⟩ := s.enqueue_same a p; rw [h]
@[simp] theorem State.enqueue_pwr (s : State) (a : Nat) (p : Pkt) : (s.enqueue a p).pwr = s.pwr := by
  obtain ⟨_, _, _, h⟩ := s.enqueue_same a p; rw [h]
@[simp] theorem State.enqueue_ports (s : State) (a : Nat) (p : Pkt) : (s.enqueue a p).ports = s.ports := by
  obtain ⟨_, _, _, h⟩ := s.enqueue_same a p; rw [h]
@[simp] theorem State.enqueue_flows (s : State) (a : Nat) (p : Pkt) : (s.enqueue a p).flows = s.flows := by
  obtain ⟨_, _, _, h⟩ := s.enqueue_same a p; rw [h]
@[simp] theorem State.enqueue_groups (s : State) (a : Nat) (p : Pkt) : (s.enqueue a p).groups = s.groups := by
  obtain ⟨_, _, _, h⟩ := s.enqueue_same a p; rw [h]
@[simp] theorem State.enqueue_mem (s : State) (a : Nat) (p : Pkt) : (s.enqueue a p).mem = s.mem := by
  obtain ⟨_, _, _, h⟩ := s.enqueue_same a p; rw [h]
@[simp] theorem State.enqueue_seq (s : State) (a : Nat) (p : Pkt) : (s.enqueue a p).seq = s.seq := by
  obtain ⟨_, _, _, h⟩ := s.enqueue_same a p; rw [h]
@[simp] theorem State.enqueue_shed (s : State) (a : Nat) (p : Pkt) : (s.enqueue a p).shed = s.shed := by
  obtain ⟨_, _, _, h⟩ := s.enqueue_same a p; rw [h]
@[simp] theorem State.enqueue_ctxs (s : State) (a : Nat) (p : Pkt) : (s.enqueue a p).ctxs = s.ctxs := by
  obtain ⟨_, _, _, h⟩ := s.enqueue_same a p; rw [h]
@[simp] theorem State.enqueue_grpCmd (s : State) (a : Nat) (p : Pkt) : (s.enqueue a p).grpCmd = s.grpCmd := by
  obtain ⟨_, _, _, h⟩ := s.enqueue_same a p; rw [h]
@[simp] theorem State.enqueue_host (s : State) (a : Nat) (p : Pkt) : (s.enqueue a p).host = s.host := by
  obtain ⟨_, _, _, h⟩ := s.enqueue_same a p; rw [h]
@[simp] theorem State.enqueue_fw (s : State) (a : Nat) (p : Pkt) : (s.enqueue a p).fw = s.fw := by
  obtain ⟨_, _, _, h⟩ := s.enqueue_same a p; rw [h]
@[simp] theorem State.enqueue_trd (s : State) (a : Nat) (p : Pkt) : (s.enqueue a p).trd = s.trd := by
  obtain ⟨_, _, _, h⟩ := s.enqueue_same a p; rw [h]
@[simp] theorem State.enqueue_thm (s : State) (a : Nat) (p : Pkt) : (s.enqueue a p).thm = s.thm := by
  obtain ⟨_, _, _, h⟩ := s.enqueue_same a p; rw [h]
@[simp] theorem State.enqueue_carts (s : State) (a : Nat) (p : Pkt) : (s.enqueue a p).carts = s.carts := by
  obtain ⟨_, _, _, h⟩ := s.enqueue_same a p; rw [h]
@[simp] theorem State.enqueue_pair (s : State) (a : Nat) (p : Pkt) : (s.enqueue a p).pair = s.pair := by
  obtain ⟨_, _, _, h⟩ := s.enqueue_same a p; rw [h]
@[simp] theorem State.enqueue_cnt (s : State) (a : Nat) (p : Pkt) : (s.enqueue a p).cnt = s.cnt := by
  obtain ⟨_, _, _, h⟩ := s.enqueue_same a p; rw [h]

/-! ### arrives -/

theorem State.arrives_same (s : State) (a : Nat) (p : Pkt) :
    ∃ x0 x1 x2 x3, (s.arrives a p).2 = { s with regs := x0, free := x1, pools := x2, sw := x3 } := by
  unfold State.arrives; dsimp only; repeat' split
  all_goals first
    | exact ⟨_, _, _, _, rfl⟩
    | (obtain ⟨_, h⟩ := State.evDev_same (s.bump aPktErr0 15 0 1) 0x82 1; rw [h]; exact ⟨_, _, _, _, rfl⟩)
    | (obtain ⟨_, _, _, h⟩ := s.enqueue_same a p; rw [h]; exact ⟨_, _, _, _, rfl⟩)

@[simp] theorem State.arrives_pending (s : State) (a : Nat) (p : Pkt) : ((s.arrives a p).2).pending = s.pending := by
  obtain ⟨_, _, _, _, h⟩ := s.arrives_same a p; rw [h]
@[simp] theorem State.arrives_aon (s : State) (a : Nat) (p : Pkt) : ((s.arrives a p).2).aon = s.aon := by
  obtain ⟨_, _, _, _, h⟩ := s.arrives_same a p; rw [h]
@[simp] theorem State.arrives_pwr (s : State) (a : Nat) (p : Pkt) : ((s.arrives a p).2).pwr = s.pwr := by
  obtain ⟨_, _, _, _, h⟩ := s.arrives_same a p; rw [h]
@[simp] theorem State.arrives_ports (s : State) (a : Nat) (p : Pkt) : ((s.arrives a p).2).ports = s.ports := by
  obtain ⟨_, _, _, _, h⟩ := s.arrives_same a p; rw [h]
@[simp] theorem State.arrives_flows (s : State) (a : Nat) (p : Pkt) : ((s.arrives a p).2).flows = s.flows := by
  obtain ⟨_, _, _, _, h⟩ := s.arrives_same a p; rw [h]
@[simp] theorem State.arrives_groups (s : State) (a : Nat) (p : Pkt) : ((s.arrives a p).2).groups = s.groups := by
  obtain ⟨_, _, _, _, h⟩ := s.arrives_same a p; rw [h]
@[simp] theorem State.arrives_mem (s : State) (a : Nat) (p : Pkt) : ((s.arrives a p).2).mem = s.mem := by
  obtain ⟨_, _, _, _, h⟩ := s.arrives_same a p; rw [h]
@[simp] theorem State.arrives_seq (s : State) (a : Nat) (p : Pkt) : ((s.arrives a p).2).seq = s.seq := by
  obtain ⟨_, _, _, _, h⟩ := s.arrives_same a p; rw [h]
@[simp] theorem State.arrives_shed (s : State) (a : Nat) (p : Pkt) : ((s.arrives a p).2).shed = s.shed := by
  obtain ⟨_, _, _, _, h⟩ := s.arrives_same a p; rw [h]
@[simp] theorem State.arrives_ctxs (s : State) (a : Nat) (p : Pkt) : ((s.arrives a p).2).ctxs = s.ctxs := by
  obtain ⟨_, _, _, _, h⟩ := s.arrives_same a p; rw [h]
@[simp] theorem State.arrives_grpCmd (s : State) (a : Nat) (p : Pkt) : ((s.arrives a p).2).grpCmd = s.grpCmd := by
  obtain ⟨_, _, _, _, h⟩ := s.arrives_same a p; rw [h]
@[simp] theorem State.arrives_host (s : State) (a : Nat) (p : Pkt) : ((s.arrives a p).2).host = s.host := by
  obtain ⟨_, _, _, _, h⟩ := s.arrives_same a p; rw [h]
@[simp] theorem State.arrives_fw (s : State) (a : Nat) (p : Pkt) : ((s.arrives a p).2).fw = s.fw := by
  obtain ⟨_, _, _, _, h⟩ := s.arrives_same a p; rw [h]
@[simp] theorem State.arrives_trd (s : State) (a : Nat) (p : Pkt) : ((s.arrives a p).2).trd = s.trd := by
  obtain ⟨_, _, _, _, h⟩ := s.arrives_same a p; rw [h]
@[simp] theorem State.arrives_thm (s : State) (a : Nat) (p : Pkt) : ((s.arrives a p).2).thm = s.thm := by
  obtain ⟨_, _, _, _, h⟩ := s.arrives_same a p; rw [h]
@[simp] theorem State.arrives_carts (s : State) (a : Nat) (p : Pkt) : ((s.arrives a p).2).carts = s.carts := by
  obtain ⟨_, _, _, _, h⟩ := s.arrives_same a p; rw [h]
@[simp] theorem State.arrives_pair (s : State) (a : Nat) (p : Pkt) : ((s.arrives a p).2).pair = s.pair := by
  obtain ⟨_, _, _, _, h⟩ := s.arrives_same a p; rw [h]
@[simp] theorem State.arrives_cnt (s : State) (a : Nat) (p : Pkt) : ((s.arrives a p).2).cnt = s.cnt := by
  obtain ⟨_, _, _, _, h⟩ := s.arrives_same a p; rw [h]

/-! ### reaches -/

theorem State.reaches_same (s : State) (a : Nat) (p : Pkt) :
    ∃ x0 x1 x2 x3, (s.reaches a p).2 = { s with regs := x0, free := x1, pools := x2, sw := x3 } := by
  unfold State.reaches State.unsink; repeat' split
  · exact ⟨_, _, _, _, rfl⟩
  · exact ⟨_, _, _, _, rfl⟩
  · obtain ⟨_, _, _, _, h⟩ := s.arrives_same a p; exact ⟨_, _, _, _, h⟩

@[simp] theorem State.reaches_pending (s : State) (a : Nat) (p : Pkt) : ((s.reaches a p).2).pending = s.pending := by
  obtain ⟨_, _, _, _, h⟩ := s.reaches_same a p; rw [h]
@[simp] theorem State.reaches_aon (s : State) (a : Nat) (p : Pkt) : ((s.reaches a p).2).aon = s.aon := by
  obtain ⟨_, _, _, _, h⟩ := s.reaches_same a p; rw [h]
@[simp] theorem State.reaches_pwr (s : State) (a : Nat) (p : Pkt) : ((s.reaches a p).2).pwr = s.pwr := by
  obtain ⟨_, _, _, _, h⟩ := s.reaches_same a p; rw [h]
@[simp] theorem State.reaches_ports (s : State) (a : Nat) (p : Pkt) : ((s.reaches a p).2).ports = s.ports := by
  obtain ⟨_, _, _, _, h⟩ := s.reaches_same a p; rw [h]
@[simp] theorem State.reaches_flows (s : State) (a : Nat) (p : Pkt) : ((s.reaches a p).2).flows = s.flows := by
  obtain ⟨_, _, _, _, h⟩ := s.reaches_same a p; rw [h]
@[simp] theorem State.reaches_groups (s : State) (a : Nat) (p : Pkt) : ((s.reaches a p).2).groups = s.groups := by
  obtain ⟨_, _, _, _, h⟩ := s.reaches_same a p; rw [h]
@[simp] theorem State.reaches_mem (s : State) (a : Nat) (p : Pkt) : ((s.reaches a p).2).mem = s.mem := by
  obtain ⟨_, _, _, _, h⟩ := s.reaches_same a p; rw [h]
@[simp] theorem State.reaches_seq (s : State) (a : Nat) (p : Pkt) : ((s.reaches a p).2).seq = s.seq := by
  obtain ⟨_, _, _, _, h⟩ := s.reaches_same a p; rw [h]
@[simp] theorem State.reaches_shed (s : State) (a : Nat) (p : Pkt) : ((s.reaches a p).2).shed = s.shed := by
  obtain ⟨_, _, _, _, h⟩ := s.reaches_same a p; rw [h]
@[simp] theorem State.reaches_ctxs (s : State) (a : Nat) (p : Pkt) : ((s.reaches a p).2).ctxs = s.ctxs := by
  obtain ⟨_, _, _, _, h⟩ := s.reaches_same a p; rw [h]
@[simp] theorem State.reaches_grpCmd (s : State) (a : Nat) (p : Pkt) : ((s.reaches a p).2).grpCmd = s.grpCmd := by
  obtain ⟨_, _, _, _, h⟩ := s.reaches_same a p; rw [h]
@[simp] theorem State.reaches_host (s : State) (a : Nat) (p : Pkt) : ((s.reaches a p).2).host = s.host := by
  obtain ⟨_, _, _, _, h⟩ := s.reaches_same a p; rw [h]
@[simp] theorem State.reaches_fw (s : State) (a : Nat) (p : Pkt) : ((s.reaches a p).2).fw = s.fw := by
  obtain ⟨_, _, _, _, h⟩ := s.reaches_same a p; rw [h]
@[simp] theorem State.reaches_trd (s : State) (a : Nat) (p : Pkt) : ((s.reaches a p).2).trd = s.trd := by
  obtain ⟨_, _, _, _, h⟩ := s.reaches_same a p; rw [h]
@[simp] theorem State.reaches_thm (s : State) (a : Nat) (p : Pkt) : ((s.reaches a p).2).thm = s.thm := by
  obtain ⟨_, _, _, _, h⟩ := s.reaches_same a p; rw [h]
@[simp] theorem State.reaches_carts (s : State) (a : Nat) (p : Pkt) : ((s.reaches a p).2).carts = s.carts := by
  obtain ⟨_, _, _, _, h⟩ := s.reaches_same a p; rw [h]
@[simp] theorem State.reaches_pair (s : State) (a : Nat) (p : Pkt) : ((s.reaches a p).2).pair = s.pair := by
  obtain ⟨_, _, _, _, h⟩ := s.reaches_same a p; rw [h]
@[simp] theorem State.reaches_cnt (s : State) (a : Nat) (p : Pkt) : ((s.reaches a p).2).cnt = s.cnt := by
  obtain ⟨_, _, _, _, h⟩ := s.reaches_same a p; rw [h]

/-! ### sink -/

theorem State.sink_same (s : State) (a b : Nat) (p : Pkt) :
    ∃ x0 x1 x2 x3, (s.sink a b p).2 = { s with regs := x0, free := x1, pools := x2, sw := x3 } := by
  obtain ⟨_, _, _, _, hr⟩ := s.reaches_same a p
  unfold State.sink; dsimp only; rw [hr]; repeat' split
  · exact ⟨_, _, _, _, rfl⟩
  · exact ⟨_, _, _, _, rfl⟩
  · exact ⟨_, _, _, _, rfl⟩
  · obtain ⟨_, h⟩ := State.evDev_same _ 0x81 1; rw [h]; exact ⟨_, _, _, _, rfl⟩

@[simp] theorem State.sink_pending (s : State) (a b : Nat) (p : Pkt) : ((s.sink a b p).2).pending = s.pending := by
  obtain ⟨_, _, _, _, h⟩ := s.sink_same a b p; rw [h]
@[simp] theorem State.sink_aon (s : State) (a b : Nat) (p : Pkt) : ((s.sink a b p).2).aon = s.aon := by
  obtain ⟨_, _, _, _, h⟩ := s.sink_same a b p; rw [h]
@[simp] theorem State.sink_pwr (s : State) (a b : Nat) (p : Pkt) : ((s.sink a b p).2).pwr = s.pwr := by
  obtain ⟨_, _, _, _, h⟩ := s.sink_same a b p; rw [h]
@[simp] theorem State.sink_ports (s : State) (a b : Nat) (p : Pkt) : ((s.sink a b p).2).ports = s.ports := by
  obtain ⟨_, _, _, _, h⟩ := s.sink_same a b p; rw [h]
@[simp] theorem State.sink_flows (s : State) (a b : Nat) (p : Pkt) : ((s.sink a b p).2).flows = s.flows := by
  obtain ⟨_, _, _, _, h⟩ := s.sink_same a b p; rw [h]
@[simp] theorem State.sink_groups (s : State) (a b : Nat) (p : Pkt) : ((s.sink a b p).2).groups = s.groups := by
  obtain ⟨_, _, _, _, h⟩ := s.sink_same a b p; rw [h]
@[simp] theorem State.sink_mem (s : State) (a b : Nat) (p : Pkt) : ((s.sink a b p).2).mem = s.mem := by
  obtain ⟨_, _, _, _, h⟩ := s.sink_same a b p; rw [h]
@[simp] theorem State.sink_seq (s : State) (a b : Nat) (p : Pkt) : ((s.sink a b p).2).seq = s.seq := by
  obtain ⟨_, _, _, _, h⟩ := s.sink_same a b p; rw [h]
@[simp] theorem State.sink_shed (s : State) (a b : Nat) (p : Pkt) : ((s.sink a b p).2).shed = s.shed := by
  obtain ⟨_, _, _, _, h⟩ := s.sink_same a b p; rw [h]
@[simp] theorem State.sink_ctxs (s : State) (a b : Nat) (p : Pkt) : ((s.sink a b p).2).ctxs = s.ctxs := by
  obtain ⟨_, _, _, _, h⟩ := s.sink_same a b p; rw [h]
@[simp] theorem State.sink_grpCmd (s : State) (a b : Nat) (p : Pkt) : ((s.sink a b p).2).grpCmd = s.grpCmd := by
  obtain ⟨_, _, _, _, h⟩ := s.sink_same a b p; rw [h]
@[simp] theorem State.sink_host (s : State) (a b : Nat) (p : Pkt) : ((s.sink a b p).2).host = s.host := by
  obtain ⟨_, _, _, _, h⟩ := s.sink_same a b p; rw [h]
@[simp] theorem State.sink_fw (s : State) (a b : Nat) (p : Pkt) : ((s.sink a b p).2).fw = s.fw := by
  obtain ⟨_, _, _, _, h⟩ := s.sink_same a b p; rw [h]
@[simp] theorem State.sink_trd (s : State) (a b : Nat) (p : Pkt) : ((s.sink a b p).2).trd = s.trd := by
  obtain ⟨_, _, _, _, h⟩ := s.sink_same a b p; rw [h]
@[simp] theorem State.sink_thm (s : State) (a b : Nat) (p : Pkt) : ((s.sink a b p).2).thm = s.thm := by
  obtain ⟨_, _, _, _, h⟩ := s.sink_same a b p; rw [h]
@[simp] theorem State.sink_carts (s : State) (a b : Nat) (p : Pkt) : ((s.sink a b p).2).carts = s.carts := by
  obtain ⟨_, _, _, _, h⟩ := s.sink_same a b p; rw [h]
@[simp] theorem State.sink_pair (s : State) (a b : Nat) (p : Pkt) : ((s.sink a b p).2).pair = s.pair := by
  obtain ⟨_, _, _, _, h⟩ := s.sink_same a b p; rw [h]
@[simp] theorem State.sink_cnt (s : State) (a b : Nat) (p : Pkt) : ((s.sink a b p).2).cnt = s.cnt := by
  obtain ⟨_, _, _, _, h⟩ := s.sink_same a b p; rw [h]

/-! ### Which registers change -/

theorem State.reg_msi (s : State) (v a : Nat) : (s.msi v).reg a = s.reg a := by rw [State.reg, State.msi_regs]; rfl
/-- Writing an entry moves the producer index of its ring alone. -/
theorem State.reg_ringPut (s : State) (k : Nat) (e : HostEntry) {a : Nat} (h : a ≠ aRing k + 0x10) :
    (s.ringPut k e).reg a = s.reg a := by
  unfold State.ringPut
  dsimp only
  rw [State.reg_msi, State.reg_setRf_ne _ _ _ _ h]
  rfl
theorem State.reg_log (s : State) (x y z : Nat) (l : List Byte) {a : Nat} (h : a ≠ aLogHead) (h' : a ≠ aLogLost) :
    (s.log x y z l).reg a = s.reg a := by
  unfold State.log
  dsimp only
  repeat' split
  · rfl
  · rfl
  · exact s.reg_bump_ne _ _ _ h'
  · exact State.reg_setReg_ne _ _ h
theorem State.reg_emit (s : State) (k : Nat) (p : Pkt) (a : Nat) : (s.emit k p).reg a = s.reg a := by
  rw [State.reg, State.emit_regs]; rfl
theorem State.reg_sendCuing (s : State) (x y z w : Nat) (l m : List Byte) (n a : Nat) :
    (s.sendCuing x y z w l m n).reg a = s.reg a := by rw [State.reg, State.sendCuing_regs]; rfl
/-- An event moves the event ring's index and the relay's count of losses, beyond the log. -/
theorem State.reg_eventIn (s : State) (e : HostEntry) {a : Nat} (h : a ≠ aRing 2 + 0x10) (h' : a ≠ aCuing) :
    (s.eventIn e).reg a = s.reg a := by
  unfold State.eventIn
  dsimp only
  repeat' split
  · rfl
  · exact s.reg_ringPut _ _ h
  · rfl
  · exact s.reg_bump_ne _ _ _ h'
/-- An event leaves every register at or above 0x64 but the two of the log. -/
theorem State.reg_eventAt (s : State) (x y z : Nat) (l : List Byte) {a : Nat} (h : 0x60 < a) (h1 : a ≠ aLogHead)
    (h2 : a ≠ aLogLost) : (s.eventAt x y z l).reg a = s.reg a := by
  have r : a ≠ aRing 2 + 0x10 := by unfold aRing; omega
  have c : a ≠ aCuing := by unfold aCuing; omega
  have g := s.reg_log (servedBy x) 0 x (padTo 48 l) h1 h2
  unfold State.eventAt
  dsimp only
  repeat' split
  · rfl
  · exact g
  · exact (State.reg_eventIn _ _ r c).trans g
  · exact g
  · exact (State.reg_sendCuing _ _ _ _ _ _ _ _ _).trans g
  · exact g
  · exact (State.reg_bump_ne _ _ _ _ c).trans g
theorem State.reg_event (s : State) (x y : Nat) (l : List Byte) {a : Nat} (h : 0x60 < a) (h1 : a ≠ aLogHead)
    (h2 : a ≠ aLogLost) : (s.event x y l).reg a = s.reg a := s.reg_eventAt _ _ _ _ h h1 h2
theorem State.reg_replyWrite (s : State) (e : HostEntry) (d : List (Nat × List Byte)) {a : Nat}
    (h : a ≠ aRing 1 + 0x10) : (s.replyWrite e d).reg a = s.reg a := by
  unfold State.replyWrite
  repeat' split
  · rfl
  · exact (State.reg_ringPut _ _ _ h).trans rfl
  · rfl
theorem State.reg_replyOut (s : State) (p : Prog) (x : Nat) (l : List Byte) {a : Nat} (h : a ≠ aRing 1 + 0x10) :
    (s.replyOut p x l).reg a = s.reg a := s.reg_replyWrite _ _ h
/-- A reply moves the reply ring's index alone. -/
theorem State.reg_finish (s : State) (x y : Nat) (l : List Byte) {a : Nat} (h : a ≠ aRing 1 + 0x10) :
    (s.finish x y l).reg a = s.reg a := by
  unfold State.finish
  dsimp only
  repeat' split
  · rfl
  · rfl
  · exact (State.reg_replyOut _ _ _ _ h).trans rfl
  · exact (State.reg_replyOut _ _ _ _ h).trans rfl
  · exact (State.reg_sendCuing _ _ _ _ _ _ _ _ _).trans rfl
  · exact (State.reg_sendCuing _ _ _ _ _ _ _ _ _).trans rfl

/-! ### What they add -/

/-- An entry is written once, at the producer index of its ring; an event's with the minor in force (R482). -/
theorem State.ringPut_written (s : State) (k : Nat) (e : HostEntry) :
    (s.ringPut k e).host.written = s.host.written ++
      [{ e with idx := s.rf (aRing k + 0x10) 16 0, ring := k, minor := if k = 2 then s.rf (aRing 2 + 8) 8 8 else e.minor }] := by
  unfold State.ringPut State.msi
  by_cases k2 : k = 2 <;> simp only [k2, if_true, if_false] <;> repeat' split
  all_goals rfl
/-- While the reply ring runs a reply is the newest entry written. -/
theorem State.replyWrite_written (s : State) (e : HostEntry) (d : List (Nat × List Byte)) (r : s.ringUp 1 = true) :
    (s.replyWrite e d).host.written = s.host.written ++ [{ e with idx := s.rf (aRing 1 + 0x10) 16 0, ring := 1 }] := by
  obtain ⟨o, m⟩ := (Bool.and_eq_true_iff ..).mp r
  unfold State.replyWrite
  rw [o, m]
  exact State.ringPut_written _ 1 e
/-- A packet that the device may originate is the newest of its queue. -/
theorem State.emit_inq (s : State) (k : Nat) (p : Pkt) (h : s.selfEid ≠ 0xFFFF) :
    ((s.emit k p).inq (128 + k) (hVc p.hdr)).getLast?.map (fun q => (⟨q.hdr, q.data⟩ : Pkt)) = some p := by
  unfold State.emit
  rw [if_neg h]
  dsimp only
  rw [State.inq_setInq]
  simp
/-- A command of this device's own host is answered by one entry of the reply ring. -/
theorem State.finish_host (s : State) (tag st : Nat) (b : List Byte) (p : Prog)
    (h : s.host.prog.find? (fun q => decide (q.tag = tag)) = some p) (o : p.origin = .host) (g : p.gone = false)
    (r : s.ringUp 1 = true) : Answered (s.finish tag st b) p st b := by
  have e : s.finish tag st b =
      ({ s with host := { s.host with prog := delFirst (fun q => decide (q.tag = tag)) s.host.prog } } : State).replyOut p st b := by
    unfold State.finish
    rw [h]
    dsimp only
    rw [g, o]
    rfl
  rw [Answered, e, State.replyOut, State.replyWrite_written _ _ _ (by exact r)]
  simp [replyEntry]

end Sys2Proof.Machine
end

