-- ==== Sys2Proof/Tests/Aid.lean ====
section
/-!
SUPPORT. Sys2Proof/Tests/Aid.lean: the small states that the tests and the witnesses of statements start from.
-/

namespace Sys2Proof.Tests

open Sys2Proof.Machine

/-- The block after reset. -/
def r0 : State := State.reset

/-- The block after reset with one package record changed. -/
def rPwr (f : Power → Power) : State := { State.reset with pwr := f powerReset }

/-- A command in progress over the command ring, with its payload. -/
def prog (tag opcode : Nat) (b : List Byte) : Prog :=
  { tag := tag, opcode := opcode, minor := 1, member := 0, scatter := false, serial := false, rbuf := true
    dataAddr := 0, capacity := 0, payload := b, origin := .host, phase := 0, gone := false }

/-- A state with a command in progress and a reply ring that runs. -/
def waiting (s : State) (tag opcode : Nat) (b : List Byte) : State :=
  { ((s.setReg (aRing 1 + 8) 0x80000004#32).setRf aHioLink 9 9 1) with
    host := { s.host with prog := [prog tag opcode b], bme := true } }

/-- The block after reset with the link of one port given. -/
def rPort (p : Nat) (x : Port) : State := State.reset.setPort p x

/-- A link that is up with one lane. -/
def up : Port := { portReset with lstate := .active, txOn := true, laneActive := 1 }

/-- A link in a lit HOLD. -/
def held : Port := { up with lstate := .hold, holdReason := .freeze }

/-- A control message. -/
def ctl (typ seq : Nat) (body : List Byte) : List Byte := padTo 64 (leBytes 1 typ ++ leBytes 1 seq ++ body)

/-- A TRAIN_PARAMS or RESYNC message with one lane, HOLD_LIMIT 50 and 65 credits on every channel. -/
def params (typ : Nat) : List Byte :=
  ctl typ 0 ([1#8, 0#8, 1#8, 1#8] ++ leBytes 10 0 ++ [1#8, 0#8] ++ leBytes 2 50 ++
    (List.range 7).flatMap (fun _ => leBytes 2 65))

/-- A state with the domains of a port at RUN. -/
def run (s : State) (p : Nat) : State :=
  (s.setDom (dSw (p / 16)) ⟨.run, .idle, false⟩).setDom (dOpt (p / 8)) ⟨.run, .idle, false⟩

/-- A state with the clocks of port 3 running. -/
def clocked (s : State) : State := ((s.setRf aClk 1 1 1).setRf aClk 16 16 1).setRf (aOpt 0) 31 31 1

/-- A state with its windows at the destination given. -/
def withWins (s : State) (l : List Win) : State := { s with flows := { s.flows with wins := l } }

/-- The block with the plinth complex at RUN and its firmware in service. -/
def rFw : State := (State.reset.toDepth dPln .run).setReg aFw 0#32

/-- That block with its own EID 5 assigned. -/
def rEid : State := rFw.setReg aSelfEid 5#32

/-- A state with some register words given. -/
def sets (s : State) (l : List (Nat × Word)) : State := l.foldl (fun s e => s.setReg e.1 e.2) s

/-- A packet in a queue, its checks made or not. -/
def qp (p : Pkt) (q vc : Nat) (checked : Bool) : QPkt :=
  { pid := 0, hdr := p.hdr, data := p.data, inq := q, vc := vc, sent := 0, ageLim := 0, escLim := 0
    checked := checked, mc := none, only := none }

/-- A window at the destination, homed in cluster 0, with the completion pointer 0. -/
def win : Win :=
  { src := 7, dst := 5, flow := 3, home := 0, cp := 0, pkts := 8, reqPicks := 100, rspPicks := 100, spray := false
    pinned := true, states := [], broken := false, fromImage := none, idleLim := 0, reorderLim := none }

/-- A request of that window. -/
def req (typ : Nat) (op data : List Byte) : Pkt := mkPkt 5 7 typ false true false 3 0 op data

/-- A state whose port 3 is out of quarantine, with its own EID 5 as a LOCAL route: packets for it arrive there. -/
def hear (s : State) : State := (s.setReg (aPortCfg 3) 0x15#32).setReg (aRoute 5 4) 0x90000000#32

/-- The same on a port of the role PAIR. -/
def hearPair (s : State) : State := (hear s).setReg (aPortCfg 3) 0x17#32

/-- The state with that window, and the general region of 64 GiB under a fabric window that allows it. -/
def rWin : State :=
  withWins ((rEid.setReg aSeqRegion 0xFF000040#32).setReg aFabWin 0x00100000#32) [win]

/-- An image with one entry at PC 0 that any caller may name, and 64 KiB of code. -/
def img : Image :=
  { granules := 8, codeBase := 0, codeBytes := 65536, codeKib := 64, dataBase := 65536, dataBytes := 0, dataKib := 0
    rsv := [], queues := [0], slots := [], groups := [], entries := [(0, 0, 1, 4096)], reorder := 0
    reorderUsed := 0, handles := [], bufs := [], library := none, buildId := 0, bytes := [] }

/-- A state with that image RESIDENT at index 0. -/
def loaded (s : State) : State := (s.setRf (aImage 0 0) 31 29 2).setImage 0 (some img)

/-- A work item of that image, waiting or running. -/
def item (runs : Option Nat) : Item :=
  { id := 0, desc := 0, cluster := 0, image := 0, entry := 0, queue := 0, form := List.replicate 40 0, src := 7
    caller := .remote 7 5 3 0 true, payload := [], runs := runs, start := 0, len0 := 0, reads := [], failed := []
    limit := 0 }

/-- The context 0 that runs that item. -/
def ctx0 : Ctx := { ctxReset with item := some 0 }

/-- The block after reset with the image loaded and the item running on context 0, given as c. -/
def onCtx (s : State) (c : Ctx) : State :=
  { (loaded s).setCtx 0 c with shed := { (loaded s).shed with items := [item (some 0)], nextId := 1 } }

/-- Two members at EIDs 8 and 9, each with a unicast plan entry, and group 0 over them in cluster 0: its word 0
is given. -/
def grp (w0 : Word) : State :=
  sets rEid [(aGroup 0 0, w0), (aGroup 0 1, 0x14140101#32), (aGroup 0 2, 0x00020000#32),
    (aGroup 0 4, 0x3F800000#32), (aGroup 0 5, 0x00640000#32), (aGroup 0 6, 2#32), (aGroup 0 8, 0x01000001#32),
    (aGroup 0 11, 0x00010000#32), (aMemberE 0, 0x80000008#32), (aMemberE 1, 0x80000009#32),
    (aPlan 0, 0xC0000000#32), (aPlan 1, 0xC0000001#32), (aRoute 8 4, 0x80000000#32), (aRoute 9 4, 0x80000000#32),
    (aPace1, 0x04000001#32)]

/-- An open slot of a group. -/
def slot0 : Slot :=
  { chunk := 0, acc := [], flags := [], counts := [], buf := [], folded := 0, result := none, waves := [], heldAt := 0, spacing := 0, copies := 0
    hand := none }

/-- The block with stack 0 at RUN, and slot 0 holding a descriptor of one layer of 16 tokens, KV of one head of 16
BF16 elements on stack 0. -/
def rSeq : State :=
  sets (rEid.toDepth (dHbm 0) .run) [(aSlot 0 0, 0x00010000#32), (aSlot 0 1, 0x00130100#32), (aSlot 0 2, 0x00100000#32),
    (aSlot 0 3, 0x00010000#32), (aSlot 0 4, 16#32)]

/-- The first sequence frame of stack 0, and the one after it. -/
def fA : Nat := 524288
def fB : Nat := 524289

/-- That slot OPEN with one token, its page table in frame fA, and its page's entry given. -/
def rSlot (pte : Nat) : State :=
  let s := sets rSeq [(aSlot 0 0, 0x20010000#32), (aSlot 0 3, 0x00010001#32), (aSlot 0 5, 1024#32), (aSlot 0 6, 1#32),
    (aSlot 0 10, 2#32), (aLen 0 0, 1#32), (aL1 0 0, BitVec.ofNat 32 (2 ^ 31 + fA))]
  let s := s.memPut (fA * 65536) (leBytes 8 pte)
  { s with seq := { s.seq with frames := [(fA, .slot 0), (fB, .slot 0)] } }

/-- That slot with its only page at a lender, which a recall has brought into frame fB; the sequence library is there. -/
def rRecall : State :=
  { ((loaded (rSlot (mkPte fA (some 9)))).setRf (aImage 0 0) 28 28 1).setImage 0 (some { img with library := some 0 }) with
    seq := { (rSlot 0).seq with recalling := [{ slot := 0, tag := none, page := some ⟨0, 0, 0, fB, []⟩ }] } }

/-- That slot on a second stack at RUN that it may use, its page on stack 0, which is being evacuated with frames
set aside; no frame holds its page table, so the page is the only thing to move. -/
def rMove : State :=
  let s := ((rSlot (mkPte fB none)).toDepth (dHbm 1) .run).setRf (aSlot 0 0) 23 16 3
  { s with seq := { s.seq with frames := [(fB, .slot 0)], outMask := 1, evac := some ⟨0, false, 5, false, none⟩ } }

/-- The bytes of an image with one entry, one queue and four bytes of code; signed ones end with a signature block. -/
def imgBytes (flags : Nat) : List Byte :=
  leBytes 4 0x524F5044 ++ leBytes 2 1 ++ leBytes 2 0 ++ leBytes 4 flags ++ leBytes 4 0 ++
    leBytes 4 (if flags = 2 then 256 else 152) ++ leBytes 4 64 ++ leBytes 4 68 ++ leBytes 4 132 ++ leBytes 2 1 ++
    leBytes 2 0 ++ leBytes 4 148 ++ leBytes 4 4 ++ leBytes 4 152 ++ leBytes 4 0 ++
    leBytes 4 (if flags = 2 then 152 else 0) ++ leBytes 8 77 ++
  leBytes 2 8 ++ leBytes 2 1 ++ leBytes 1 0 ++ leBytes 1 1 ++ leBytes 2 0 ++ leBytes 4 1 ++ leBytes 48 0 ++ leBytes 4 0 ++
    (leBytes 1 1 ++ leBytes 1 1 ++ leBytes 2 1) ++
  (leBytes 4 0 ++ leBytes 1 0 ++ leBytes 1 1 ++ leBytes 2 0) ++ leBytes 8 0 ++ [1#8, 2#8, 3#8, 4#8] ++
  (if flags = 2 then leBytes 4 0x47534444 ++ leBytes 100 0 else [])

/-- The block with its own EID as a LOCAL entry of the route table. -/
def rLocal : State := rEid.setReg (aRoute 5 4) 0x90000000#32

/-- An item of library 0 at an entry, with its form X fields and payload, that runs on context 0 as c; its slot is
slot 0 with one token. -/
def onLib (entry : Nat) (form payload : List Byte) (c : Ctx) : State :=
  let s := ((loaded (rSlot (mkPte fB none))).setRf (aImage 0 0) 28 28 1).setImage 0 (some { img with library := some 0 })
  let s := s.setCtx 0 { c with item := some 0 }
  { s with shed := { s.shed with nextId := 1, items :=
    [{ item (some 0) with entry := entry, form := form, payload := payload, len0 := 1 }] } }

/-- A copy of a context whose moves are all over. -/
def copyOver (k : Nat) : Copy :=
  { k := k, tag := 0, kind := 0, moves := [], slot := 0, layer := 0, token := 0, n := 1, status := 0, fin := false }

/-- Slot 0 open with one token, its page here, granted to image 0, which is a SERVICE image or not; the image's
item runs on context 0 as c. -/
def onSlot (service : Nat) (c : Ctx) : State :=
  let s := ((rSlot (mkPte fB none)).setRf (aImage 0 0) 31 29 2).setRf (aImage 0 0) 28 28 service
  let s := (s.setRf (aSlot 0 12) 31 31 1).setImage 0 (some { img with slots := [0] })
  { s.setCtx 0 { c with item := some 0 } with shed := { s.shed with items := [item (some 0)], nextId := 1 } }

/-- A window of the item of context 0 toward EID 9, open, and its operations. -/
def srcOpen (ops : List Op) (fails : List Nat) : SrcWin :=
  { state := .opened, image := some 0, item := some 0, dst := 9, fsn := 4, pkts := 8, reqPicks := 200
    rspPicks := 200, spray := false, failed := 0, fails := fails, ops := ops, aged := [], limit := 0 }

/-- Context 0 as c with that window as number 2. -/
def onWin (c : Ctx) (w : SrcWin) : State :=
  ((onCtx rEid c).setSrc 2 w).setReg (aRoute 9 4) 0x80000000#32

end Sys2Proof.Tests
end

