-- ==== Sys2Proof/Tests/Slice0.lean ====
section
/-!
SUPPORT. Sys2Proof/Tests/Slice0.lean: terms that WellFormed refuses, small tests whose expected results come from the
spec's worked examples and tables, and for every statement a state and operands that meet the hypotheses of each of
its clauses.
-/

namespace Sys2Proof.Tests

open Sys2Proof.Machine

-- Each of these small proofs waits for the ones before it: one after the other costs no more, and no thread waits.
set_option Elab.async false

/-! ### Ill-formed terms, one for each check (R472, R482, R55, R93, R311 and the ranges of the operands) -/

theorem test_wf_cluster : wellFormed (.clusterSramBistDone 8 true) = false := by decide
theorem test_wf_pair : wellFormed (.hbmPairTrained 4 true true) = false := by decide
theorem test_wf_tag : wellFormed (.domainRun 65536) = false := by decide
theorem test_wf_domain : wellFormed (.domainExitDone 52) = false := by decide
theorem test_wf_port : wellFormed (.linkFrameTx 128) = false := by decide
theorem test_wf_frame : wellFormed (.linkFrameRx 0 [] []) = false := by decide
theorem test_wf_message : wellFormed (.trainParams 0 []) = false := by decide
theorem test_wf_ctrlType : wellFormed (.ctrlMsgResend 0 11) = false := by decide
theorem test_wf_channel : wellFormed (.portCreditWrite .bar0 0 7 0#32) = false := by decide
theorem test_wf_queue : wellFormed (.pktHeaderArrive 136 0) = false := by decide
theorem test_wf_fsn : wellFormed (.opTimeout 0 0 16777216) = false := by decide
theorem test_wf_packet : wellFormed (.put 0 ⟨[], []⟩) = false := by decide
theorem test_wf_packet_data : wellFormed (.put 0 ⟨List.replicate 64 0, [0]⟩) = false := by decide
theorem test_wf_class : wellFormed (.bobDrawServed 0 5) = false := by decide
theorem test_wf_group : wellFormed (.groupReleaseDrained 2048) = false := by decide
theorem test_wf_wave : wellFormed (.releaseWave 0 0 64) = false := by decide
theorem test_wf_slot : wellFormed (.slotReleaseDone 32) = false := by decide
theorem test_wf_workQueue : wellFormed (.benchWaitExpire 0 256) = false := by decide
theorem test_wf_context : wellFormed (.runLimitExpire 1024) = false := by decide
theorem test_wf_immediate : wellFormed (.addi 0 16384 1 2) = false := by decide
theorem test_wf_element : wellFormed (.vint 0 16 0 0 0 0 0) = false := by decide
theorem test_wf_offset : wellFormed (.br 0 (-513) 0 0 0) = false := by decide
theorem test_wf_sensor : wellFormed (.sensorPlausibilityTimer 82) = false := by decide
theorem test_wf_ring : wellFormed (.ringEnable .bar0 3 0#32) = false := by decide
theorem test_wf_entry : wellFormed (.commandTake [] []) = false := by decide
theorem test_wf_test : wellFormed (.selftestDone 10 0 0 0) = false := by decide
theorem test_wf_regAddr : wellFormed (.i3cWriteTransfer 2 []) = false := by decide
theorem test_wf_width : wellFormed (.pcieLinkUp 6 17) = false := by decide
theorem test_wf_addi : wellFormed (.addi 0 (-16384) 31 31) = true := by decide

/-! ### Words of Dapor, field by field as R311 lays them out and with the opcodes of R314 -/

theorem test_word_sop : daporWord 5 0b01100000100011100110001010000000 = some (.sop 5 3 2 7 6 5) := by decide
theorem test_word_addi : daporWord 5 0b11111111111111000001000110000001 = some (.addi 5 (-2) 1 3) := by decide
theorem test_word_vfp : daporWord 5 0b11100100100001100010000010100001 = some (.vfp 5 7 1 2 3 2 1) := by decide
theorem test_word_br : daporWord 5 0b11111111110001000001000111111000 = some (.br 5 (-1) 2 1 3) := by decide
theorem test_word_mcpyWait : daporWord 5 0b00001001010000000000000001011000 = some (.mcpyWait 5 0 37 0 0 0) := by decide
theorem test_word_halt : daporWord 5 0b00000000100000000000000001111110 = some (.halt 5 0 2 0 0 0) := by decide
theorem test_word_reserved : daporWord 5 0b00000000000000000000000000011111 = none := by decide

/-! ### The queue -/

/-- An empty queue idles (log entry 1). -/
theorem test_idle : step State.reset = .next State.reset := rfl
/-- The command at the front runs, and the rest waits. -/
theorem test_front : step { State.reset with pending := [.doeAbort, .vinIoLoss] } = .next { State.reset with pending := [.vinIoLoss] } := rfl

/-! ### Check codes: the check values of the two polynomials for the string 123456789 -/

theorem test_crc32c : crc32c [0x31#8, 0x32#8, 0x33#8, 0x34#8, 0x35#8, 0x36#8, 0x37#8, 0x38#8, 0x39#8] = 0xE3069283 := by
  decide +kernel
theorem test_crc16 : crc16 [0x31#8, 0x32#8, 0x33#8, 0x34#8, 0x35#8, 0x36#8, 0x37#8, 0x38#8, 0x39#8] = 0x29B1 := by
  decide +kernel

/-! ### Addresses: the four targets worked at the end of chapter 22 -/

theorem test_addr_counter : aShuCnt 6 8 2 + 4 = 0x00E51224 := by decide
theorem test_addr_avail : (r0.setRf (aCarve 6 3) 25 16 1).shown 0x00E20078 = BitVec.ofNat 32 (bufsPerSeg 3) := by decide +kernel
theorem test_addr_credit : aCredit 93 5 = 0x01BA0024 := by decide
theorem test_addr_shadow : aRouteSh 0x25 4 = 0x020804B0 := by decide
/-- A read of a counter of a shuttle in SHU6 while that domain is OFF gives 0 (R570). -/
theorem test_read_off : (r0.readWord .bar0 (aShuCnt 6 8 2 + 4)).1 = 0#32 := by decide +kernel

/-! ### Reset values (R497, R522, R539) -/

theorem test_reset_pair : r0.reg aDvtCfg = 0xFFFF0000#32 ∧ r0.reg aHbCfg = 0x07D00064#32 := by decide +kernel
theorem test_reset_ring : r0.reg (aRing 2 + 8) = 0x00000104#32 ∧ r0.reg aMapCfg = 0xFFFF0064#32 := by decide +kernel
theorem test_reset_canon : Canon State.reset := by unfold Canon; exact ⟨rfl, rfl, rfl, rfl, rfl, rfl, rfl⟩

/-! ### Routing: EID 0x4025 shares the index of 0x0025 and not its tag (R113) -/

theorem test_route_tag : (rFw.setReg (aRoute 0x25 4) 0x80000000#32).rtValid 0x0025 = true ∧
    (rFw.setReg (aRoute 0x25 4) 0x80000000#32).rtValid 0x4025 = false := by decide +kernel

/-! ### Buffers: one EDGE port with default credits reserves 2,759 (R185), a window of 260 and 65 picks 84 (R186) -/

theorem test_port_buffers : sumNat ((List.range 7).map (fun v => portBufs (r0.rf (aCredit 0 v) 15 0))) = 2759 := by decide +kernel
theorem test_window_buffers : winBufs 260 65 = 84 ∧ winBufs 4160 4160 = 2082 := by decide
theorem test_class0_carve : r0.rf (aCarve 2 0) 9 0 * bufsPerSeg 0 = 57344 := by decide +kernel

/-! ### Sequence memory: the default regions (R237), and the dense layout (R242, R243) -/

theorem test_region : r0.stackBase 0 = 524288 ∧ r0.stackFrames 3 = 983040 ∧ r0.stackBase 8 = 8388608 := by decide +kernel

/-! ### Congestion map: the level of a channel with OCC 3,000 of 4,096 advertised is 187 (R536) -/

def rMap : State :=
  let s := (rFw.setPort 37 { up with advPeer := [0, 0, 4096, 0, 0, 0, 0] }).setReg (aPortCfg 37) 0x15#32
  { s with cnt := { s.cnt with occMax := [(8 * 37 + 2, 3000)] } }
theorem test_map_level : rMap.mapLevel 37 2 = 187 ∧ rMap.mapLevel 37 1 = 0 := by decide +kernel
theorem test_map_byte : rMap.mapBytes.length = 960 ∧ byteAt rMap.mapBytes 325 = 0xBB := by decide +kernel

/-! ### Commands: the header of the image load that chapter 17 works out (R482) -/

def exEntry : List Byte :=
  leBytes 8 0x010C004203020102 ++ leBytes 8 0x500008 ++ leBytes 16 0 ++ leBytes 96 0
theorem test_entry : entOp exEntry = 0x0302 ∧ entTag exEntry = 0x0042 ∧ entMember exEntry = 12 ∧ entScatter exEntry = true ∧
    entBytes exEntry = 5242888 ∧ entMinor exEntry = 1 := by decide +kernel

/-! ### Temperatures: a model of 80.5 degrees leaves a sensor at 66 implausible, and 85.5 for the zone (R416, R418) -/

theorem test_deg : deg 66 < deg 80 + 32 - deg 12 ∧ ¬(deg 82 < deg 80 + 32 - deg 12) := by decide

/-! ### Number formats (R302, R309): largest values, rounding and special values -/

theorem test_e4m3_max : fE4M3.maxFin = 0x7E ∧ fE5M2.maxFin = 0x7B ∧ fBF16.maxFin = 0x7F7F := by decide
theorem test_fp32_add : fFP32.fadd 0 0x3F800000 0x40000000 = (0x40400000, 0) := by decide +kernel
theorem test_fp32_inexact : fFP32.fadd 0 0x3F800000 0x33000000 = (0x3F800000, 1) := by decide +kernel
theorem test_fp32_div0 : fFP32.fdiv 0 0x3F800000 0 = (0x7F800000, 8) := by decide +kernel
theorem test_fp32_sqrt : fFP32.fsqrt 0 0x40800000 = (0x40000000, 0) := by decide +kernel
theorem test_fp32_fma : fFP32.fma 0 0x40000000 0x40400000 0xC0C00000 = (0, 0) := by decide +kernel

/-! ### The exact accumulator (R203): 1.0 and -1.0 fold to zero in either order -/

theorem test_exact : accVal (accAdd (accAdd 0 (fFP32.dec 0x3F800000)) (fFP32.dec 0xBF800000)) = .fin false 0 (-156) ∧
    accAdd (accAdd 0 (fFP32.dec 0x3F800000)) (fFP32.dec 0x40000000) = accAdd (accAdd 0 (fFP32.dec 0x40000000)) (fFP32.dec 0x3F800000) := by
  decide +kernel

/-! ### One step of an instruction: ADDI wraps at 64 bits (R328, R329) -/

def one : State := onCtx rEid (ctx0.setS 3 (BitVec.ofNat 64 (2 ^ 64 - 1)))
def after (i : Instr) (s : State) : State := s.after (exec i s)
theorem test_addi_wraps : ((after (.addi 0 2 3 4) one).ctx 0).sreg 4 = 1#64 ∧ ((after (.addi 0 2 3 4) one).ctx 0).pc = 4 := by
  decide +kernel
theorem test_addi_zero : ((after (.addi 0 2 3 0) one).ctx 0).sreg 0 = 0#64 := by decide +kernel
theorem test_addi_sign : ((after (.addi 0 (-1) 0 4) one).ctx 0).sreg 4 = BitVec.ofNat 64 (2 ^ 64 - 1) := by decide +kernel

/-! ### Witnesses that a free value enters -/

theorem no_power : (r0.setRf (aSensor 3) 15 0 (ofSigned 16 (-2000))).zonePower (sensorZone 3) = 0 := by decide +kernel

theorem cold_sensor : (let s : State := r0.setRf (aSensor 3) 15 0 (ofSigned 16 (-2000)); let i : Nat := 3
    (i < 82) ∧ (s.sensorState i ≠ 2) ∧ (s.sensorTemp i < s.model (sensorZone i) - deg 12)) := by
  refine ⟨by decide, by decide +kernel, ?_⟩
  show _ < State.model _ _ - _
  unfold State.model
  rw [no_power, Nat.zero_mul]
  decide +kernel

theorem move_base : rMove.draw.2.stackBase 1 = 1507328 ∧ rMove.draw.2.stackFrames 1 = 983040 ∧
    rMove.draw.2.stackUsed 1 = 0 := by
  refine ⟨?_, ?_, ?_⟩ <;> decide +kernel

theorem move_taken :
    (rMove.takeFrame 1 (.slot 0)).1 = rMove.draw.2.stackBase 1 + Config.freeNat rMove.free % max 1 (rMove.draw.2.stackFrames 1) := by
  show rMove.draw.2.freeFrameFrom (rMove.draw.2.stackBase 1) (rMove.draw.2.stackFrames 1) (rMove.draw.2.stackUsed 1)
    (rMove.draw.2.stackBase 1 + rMove.draw.1 % max 1 (rMove.draw.2.stackFrames 1)) = _
  rw [move_base.2.2]
  rfl

theorem move_frame : 1507328 ≤ (rMove.takeFrame 1 (.slot 0)).1 ∧ (rMove.takeFrame 1 (.slot 0)).1 < 2490368 := by
  have e := move_taken
  rw [move_base.1, move_base.2.1, show max 1 983040 = 983040 from rfl] at e
  omega

theorem page_moves : (let s : State := rMove; let e : Evac := ⟨0, false, 5, false, none⟩; let f : Nat := fB
    let n : Nat := 0; let lpn : Nat := 0; let r : List (Nat × Nat × Nat × Bool) := []; let far : Bool := false; let k : Nat := 1
    let g : Nat := ((rMove.takeFrame 1 (.slot 0)).1); let l : Nat := fA
    s.seq.evac = some e ∧ e.page = none ∧ e.abort = false ∧ s.stackPages e.stack = (f, n, lpn, false) :: r ∧
    far = (e.remote && decide (s.sl n 0 27 27 = 1)) ∧ s.evacTarget e n lpn false far = some k ∧
    n < 32 ∧ (s.takeFrame k (.slot n)).1 = g ∧ g ≠ f ∧ g < 2 ^ 23 ∧
    s.l2Frame n lpn = some l ∧ l ≠ g ∧ s.readersOf f = []) := by
  have h := move_frame
  have hf : fB = 524289 := by decide +kernel
  have hl : fA = 524288 := by decide +kernel
  refine ⟨by decide +kernel, by decide +kernel, by decide +kernel, by decide +kernel, by decide +kernel,
    by decide +kernel, by decide +kernel, rfl, ?_, ?_, by decide +kernel, ?_, by decide +kernel⟩
  · show _ ≠ fB
    omega
  · show (rMove.takeFrame 1 (.slot 0)).1 < 2 ^ 23
    omega
  · show fA ≠ _
    omega

/-! ### A slot whose one page comes home -/

/-- A key beyond every listed one reads as unlisted. -/
theorem tabGet_above {α : Type} (d : Nat → α) (t : Tab α) (i : Nat) (h : ∀ e ∈ t, e.1 < i) : tabGet d t i = d i := by
  induction t with
  | nil => rfl
  | cons e r ih =>
    have he := h e (List.mem_cons_self ..)
    simp only [tabGet]
    rw [if_neg (by omega), ih (fun e m => h e (List.mem_cons_of_mem _ m))]

/-- An address below entry 1 of a page table is below every later one. -/
theorem entry_above (f k a i : Nat) (h : a < f + 8) (h0 : 1 ≤ k) : a < f + k * 8 + i := by
  omega

/-- Beside its page 0, no entry of the slot's page table is written. -/
theorem recall_pte (k : Nat) (h : k < 8192) (h0 : k ≠ 0) : rRecall.pte 0 k = 0 := by
  have l2 : rRecall.l2Frame 0 k = some fA := by
    have e : rRecall.l2Frame 0 0 = some fA := by decide +kernel
    rw [← e]
    unfold State.l2Frame
    rw [Nat.div_eq_of_lt h]
  have m : ∀ e ∈ rRecall.mem, e.1 < fA * 65536 + 8 := by decide +kernel
  unfold State.pte
  rw [l2]
  unfold State.memGet tabGetList
  have z : (List.range 8).map (fun i => tabGet memZero rRecall.mem (fA * 65536 + k % 8192 * 8 + i)) =
      (List.range 8).map (fun _ => 0#8) :=
    List.map_congr_left (fun i _ => tabGet_above _ _ _ (fun e he => (Nat.mod_eq_of_lt h).symm ▸ entry_above _ k _ i (m e he) (Nat.pos_of_ne_zero h0)))
  have e : leNat ((List.range 8).map (fun _ => 0#8)) = 0 := by decide
  exact (congrArg leNat z).trans e

theorem recall_pages : ∀ y ∈ rRecall.slotPages 0, y.1 ≠ 0 → pteRemote y.2 = false ∨ pteLost y.2 = true := by
  intro y hy hne
  have l1 : ∀ i ∈ List.range 512, i = 0 ∨ rRecall.rf (aL1 0 i) 31 31 ≠ 1 := by decide +kernel
  obtain ⟨i, hi, hy⟩ := List.mem_flatMap.mp hy
  split at hy
  · rename_i v
    rcases l1 i hi with rfl | h
    · obtain ⟨k, hk, hy⟩ := List.mem_filterMap.mp hy
      simp only [Nat.mul_zero, Nat.zero_add] at hy
      split at hy
      · rename_i p
        cases hy
        rw [recall_pte k (List.mem_range.mp hk) hne] at p
        exact absurd p (by decide)
      · cases hy
    · exact absurd v h
  · cases hy

/-! ### States and operands that meet the hypotheses of each clause of each statement -/

theorem met_SuppliesGateDomains_1 :
    (∃ (s : State), s.pwr.vinMain = true) ∧
    (∃ (s : State), s.pwr.vinMain = true) ∧
    (∃ (s : State) (_lead _src : Bool), s.pwr.vinAon = true ∧ s.pwr.vinMain = false ∧ s.pwr.vinIo = true ∧ s.pwr.thermtrip = false ∧ s.pwr.perst = false) ∧
    (∃ (s : State), s.pwr.vinIo = false ∧ s.pwr.vinAon = true ∧ s.pwr.vinMain = true ∧ s.pwr.thermtrip = false ∧ s.pwr.perst = false) :=
  ⟨⟨rPwr (fun w => { w with vinMain := true }), by decide +kernel⟩,
   ⟨rPwr (fun w => { w with vinMain := true }), by decide +kernel⟩,
   ⟨r0, true, false, by decide +kernel⟩,
   ⟨rPwr (fun w => { w with vinIo := false, vinMain := true }), by decide +kernel⟩⟩

theorem met_SuppliesGateDomains_2 :
    (∃ (s : State), s.pwr.leadSel = true ∧ s.pwr.perst = false ∧ s.mainOk = true ∧ 4 ≤ s.pwr.bootStep) ∧
    (∃ (s : State), s.pwr.leadSel = true ∧ s.mainOk = true ∧ s.pwr.bootStep = 3) :=
  ⟨⟨rPwr (fun w => { w with vinMain := true, leadSel := true, bootStep := 9 }), by decide +kernel⟩,
   ⟨rPwr (fun w => { w with vinMain := true, leadSel := true, bootStep := 3, perst := true }), by decide +kernel⟩⟩

theorem met_PowerUpSequence_1 :
    (∃ (s : State) (c : Nat), s.refOk = true ∧ s.pwr.bootStep = 4 ∧ c < 8 ∧ s.dom (dSw c) = ⟨.off, .idle, false⟩) ∧
    (∃ (s : State) (c : Nat), s.pwr.bootStep = 5 ∧ c < 8 ∧ (s.dom (dSw c)).exiting = true) ∧
    (∃ (s : State) (pair : Nat) (_pass0 _pass1 : Bool), s.pwr.bootStep = 6 ∧ pair = s.pwr.hbmTrained ∧ pair < 4) ∧
    (∃ (s : State), s.pwr.bootStep = 7 ∧ s.plinth = 1) :=
  ⟨⟨(rPwr (fun w => { w with vinMain := true, bootStep := 4 })).setRf aClk 1 1 1, 3, by decide +kernel⟩,
   ⟨(rPwr (fun w => { w with vinMain := true, bootStep := 5 })).setDom (dSw 3) ⟨.off, .idle, true⟩, 3, by decide +kernel⟩,
   ⟨rPwr (fun w => { w with vinMain := true, bootStep := 6, hbmTrained := 1 }), 1, true, false, by decide +kernel⟩,
   ⟨(rPwr (fun w => { w with vinMain := true, bootStep := 7 })).setRf aFw 31 30 1, by decide +kernel⟩⟩

theorem met_PowerUpSequence_2 :
    ∃ (s : State) (c : Nat), s.pwr.bootStep = 5 ∧ c < 8 ∧ (s.dom (dSw c)).exiting = true :=
  ⟨(rPwr (fun w => { w with vinMain := true, bootStep := 5 })).setDom (dSw 3) ⟨.off, .idle, true⟩, 3, by decide +kernel⟩

theorem met_ClocksAndTheirLoss_1 :
    (∃ (s : State), s.refOk = true) ∧
    (∃ (s : State), s.refOk = false) ∧
    (∃ (s : State), s.refOk = true) ∧
    (∃ (_s : State) (c : Nat), c < 8) :=
  ⟨⟨r0.setRf aClk 1 1 1, by decide +kernel⟩,
   ⟨r0, by decide +kernel⟩,
   ⟨r0.setRf aClk 1 1 1, by decide +kernel⟩,
   ⟨r0.setRf aClk 1 1 1, 2, by decide +kernel⟩⟩

theorem met_ClocksAndTheirLoss_2 :
    (∃ (s : State) (p : Nat), s.refOk = true ∧ p < 128 ∧ (s.port p).lstate = .active ∧ s.paired = false) ∧
    (∃ (_s : State) (c : Nat), c < 8) ∧
    (∃ (s : State) (k p : Nat), k < 16 ∧ p / 8 = k ∧ (s.port p).lstate = .active) :=
  ⟨⟨(r0.setRf aClk 1 1 1).setPort 5 { portReset with lstate := .active }, 5, by decide +kernel⟩,
   ⟨r0.setRf aClk 1 1 1, 2, by decide +kernel⟩,
   ⟨r0.setPort 20 { portReset with lstate := .active }, 2, 20, by decide +kernel⟩⟩

theorem met_SafetyInputsBoundThePower_1 :
    (∃ (s : State), s.sideband = true ∧ s.trdDown = false) ∧
    (∃ (s : State), s.sideband = true ∧ s.trdDown = false) ∧
    (∃ (s : State), s.sideband = true ∧ s.trdDown = false) ∧
    (∃ (s : State), s.sideband = true ∧ s.trdDown = false) :=
  ⟨⟨State.reset, by decide +kernel⟩,
   ⟨State.reset, by decide +kernel⟩,
   ⟨State.reset, by decide +kernel⟩,
   ⟨State.reset, by decide +kernel⟩⟩

theorem met_SafetyInputsBoundThePower_2 :
    (∃ (s : State) (_pkg : Nat) (_dom : List Nat), s.sideband = true ∧ s.trdDown = false ∧ s.trd.supplyOn = true ∧ s.supplyIn < s.trd.seen.headD 0 ∧ s.supplyIn < s.trd.g ∧ ((∀ e ∈ s.safetyIns, s.supplyIn ≤ e.2))) ∧
    (∃ (s : State) (v : Word), s.pwr.vinAon = true ∧ s.pwr.vinIo = true ∧ fld v 31 16 = 65535 - fld v 15 0 ∧ 150 ≤ fld v 15 0 ∧ fld v 15 0 ≤ 1200) ∧
    (∃ (s : State), s.trd.mode = 0) ∧
    (∃ (s : State), s.trd.mode = 1) :=
  ⟨⟨{ r0 with trd := { trdReset with supplyOn := true, g := 90000 } }, 90000, [], by decide +kernel⟩,
   ⟨r0, 0xFDA70258#32, by decide +kernel⟩,
   ⟨r0, by decide +kernel⟩,
   ⟨{ State.reset with trd := { trdReset with mode := 1 } }, by decide +kernel⟩⟩

theorem met_SafetyInputsBoundThePower_3 :
    ∃ (s : State) (v : Word), s.pwr.vinAon = true ∧ s.pwr.vinIo = true ∧ fld v 31 16 ≠ 65535 - fld v 15 0 :=
  ⟨r0, 0x258#32, by decide +kernel⟩

theorem met_TreadleStepGoverns :
    (∃ (s : State) (_pkg : Nat) (_dom : List Nat), s.pwr.vinAon = true ∧ s.trdDown = false) ∧
    (∃ (s : State), s.trdDown = false) ∧
    (∃ (_s : State) (c : Nat), c < 8) :=
  ⟨⟨r0, 20000, [100, 200], by decide +kernel⟩,
   ⟨r0, by decide +kernel⟩,
   ⟨r0, 2, by decide +kernel⟩⟩

theorem met_PowerLinkFrames_1 :
    (∃ (s : State) (b : List Byte), s.sideband = true ∧ b.length = 14 ∧ byteAt b 0 = 0xA5 ∧ byteAt b 1 = 0x81 ∧ byteAt b 3 = 8 ∧ crc16 (slice b 1 11) = field b 12 2) ∧
    (∃ (s : State), s.rf aIso 0 0 = 0) ∧
    (∃ (s : State), s.sideband = true) ∧
    (∃ (s : State) (path : Path) (v : Word), s.pathAny path = true ∧ fld v 0 0 = 1) :=
  ⟨⟨r0, [0xA5#8, 0x81#8, 0#8, 8#8, 1#8, 2#8, 3#8, 4#8, 5#8, 0#8, 0#8, 0#8] ++ leBytes 2 (crc16 [0x81#8, 0#8, 8#8, 1#8, 2#8, 3#8, 4#8, 5#8, 0#8, 0#8, 0#8]), by decide +kernel⟩,
   ⟨r0.setRf aIso 0 0 0, by decide +kernel⟩,
   ⟨r0, by decide +kernel⟩,
   ⟨r0, .cuing, 1#32, by decide +kernel⟩⟩

theorem met_PowerLinkFrames_2 :
    ∃ (s : State) (b : List Byte), s.sideband = true ∧ (b.length ≠ 14 ∨ crc16 (slice b 1 11) ≠ field b 12 2) :=
  ⟨r0, [], by decide +kernel⟩

theorem met_DomainsSinkAndWake_1 :
    (∃ (s : State) (c : Nat), c < 8 ∧ (s.dom (dSw c)).depth = .run ∧ (s.dom (dSw c)).exiting = false ∧ s.sliceEmpty c = true ∧ s.role = 0) ∧
    (∃ (s : State) (c : Nat), c < 8 ∧ s.atDepth (dShu c) .run = true ∧ s.shuBusy c = false) ∧
    (∃ (s : State) (c : Nat), c < 8 ∧ s.dom (dShu c) = ⟨.gated, .idle, false⟩ ∧ s.shuBusy c = false ∧ s.shuQueued c = false) ∧
    (∃ (s : State) (c : Nat), c < 8 ∧ s.atDepth (dReed c) .run = true ∧ s.reedOpen c = false) :=
  ⟨⟨r0.setDom (dSw 1) ⟨.run, .idle, false⟩, 1, by decide +kernel⟩,
   ⟨r0.setDom (dShu 1) ⟨.run, .idle, false⟩, 1, by decide +kernel⟩,
   ⟨r0.setDom (dShu 1) ⟨.gated, .idle, false⟩, 1, by decide +kernel⟩,
   ⟨r0.setDom (dReed 1) ⟨.run, .idle, false⟩, 1, by decide +kernel⟩⟩

theorem met_DomainsSinkAndWake_2 :
    (∃ (s : State) (c : Nat), c < 8 ∧ s.dom (dReed c) = ⟨.gated, .idle, false⟩ ∧ s.reedOpen c = false) ∧
    (∃ (s : State) (n : Nat), n < 8 ∧ s.atDepth (dHbm n) .run = true ∧ s.role ≠ 2 ∧ s.streaming = false) ∧
    (∃ (s : State) (d : Nat), d < 36 ∧ (s.dom d).exiting = true ∧ s.pwr.bootStep = 9) ∧
    (∃ (s : State), s.isOff dPln = false ∧ s.deepOk = true) :=
  ⟨⟨r0.setDom (dReed 1) ⟨.gated, .idle, false⟩, 1, by decide +kernel⟩,
   ⟨r0.setDom (dHbm 1) ⟨.run, .idle, false⟩, 1, by decide +kernel⟩,
   ⟨{ (r0.setDom 13 ⟨.gated, .idle, true⟩) with pwr := { (r0.setDom 13 ⟨.gated, .idle, true⟩).pwr with bootStep := 9 } }, 13, by decide +kernel⟩,
   ⟨(r0.setDom 1 ⟨.run, .idle, false⟩).setRf aHostReq 31 31 1, by decide +kernel⟩⟩

theorem met_DomainsSinkAndWake_3 :
    (∃ (s : State) (tag : Nat) (p : Prog) (d : Nat), Waits s tag 0x0604 p ∧ d < 52 ∧ d ≠ dHio ∧ p.payload = [BitVec.ofNat 8 d, 0#8] ∧ s.dom d = ⟨.off, .held, false⟩) ∧
    (∃ (s : State) (tag : Nat) (p : Prog) (d : Nat), Waits s tag 0x0604 p ∧ d < 52 ∧ p.payload = [BitVec.ofNat 8 d, 3#8] ∧ s.offOk d = true ∧ (s.dom d).depth ≠ .off) ∧
    (∃ (s : State) (tag : Nat) (p : Prog) (d : Nat), Waits s tag 0x0604 p ∧ d < 52 ∧ p.payload = [BitVec.ofNat 8 d, 3#8] ∧ s.offOk d = false) :=
  ⟨⟨waiting (r0.setDom 13 ⟨.off, .held, false⟩) 7 0x0604 [13#8, 0#8], 7, prog 7 0x0604 [13#8, 0#8], 13, by decide +kernel⟩,
   ⟨waiting (r0.setDom 13 ⟨.gated, .idle, false⟩) 7 0x0604 [13#8, 3#8], 7, prog 7 0x0604 [13#8, 3#8], 13, by decide +kernel⟩,
   ⟨waiting r0 7 0x0604 [0#8, 3#8], 7, prog 7 0x0604 [0#8, 3#8], 0, by decide +kernel⟩⟩

theorem met_HostPowerCommands_1 :
    (∃ (s : State) (path : Path) (v : Word), s.pathOk path = true ∧ 150 ≤ fld v 10 0 ∧ fld v 10 0 ≤ 1200 ∧ s.role ≠ 2) ∧
    (∃ (s : State) (tag : Nat) (p : Prog), Waits s tag 0x0603 p ∧ p.payload = [1#8] ∧ s.role ≠ 2 ∧ s.rf aHostReq 10 0 = 0) ∧
    (∃ (s : State) (tag : Nat) (p : Prog), Waits s tag 0x0606 p ∧ p.payload.length = 9 ∧ depthCfgOk (BitVec.ofNat 32 (field p.payload 0 4)) = true ∧ govCfgOk (BitVec.ofNat 32 (field p.payload 4 4)) = true) ∧
    (∃ (s : State) (tag : Nat) (p : Prog), Waits s tag 0x0601 p ∧ p.payload = []) :=
  ⟨⟨r0, .cuing, 0x190#32, by decide +kernel⟩,
   ⟨waiting r0 7 0x0603 [1#8], 7, prog 7 0x0603 [1#8], by decide +kernel⟩,
   ⟨waiting r0 7 0x0606 [10#8, 1#8, 1#8, 1#8, 1#8, 0#8, 0#8, 0#8, 0#8], 7, prog 7 0x0606 [10#8, 1#8, 1#8, 1#8, 1#8, 0#8, 0#8, 0#8, 0#8], by decide +kernel⟩,
   ⟨waiting r0 7 0x0601 [], 7, prog 7 0x0601 [], by decide +kernel⟩⟩

theorem met_HostPowerCommands_2 :
    (∃ (s : State) (tag : Nat) (p : Prog) (first n : Nat), Waits s tag 0x0605 p ∧ p.payload = [BitVec.ofNat 8 first, BitVec.ofNat 8 n] ∧ first + n ≤ 64 ∧ n ≤ 12) ∧
    (∃ (s : State) (path : Path) (d : Nat), s.pathAny path = true ∧ d < 64) ∧
    (∃ (s : State) (path : Path) (_v : Word), s.pathAny path = true) ∧
    (∃ (s : State) (path : Path) (v : Word), s.pathOk path = true ∧ fld v 0 0 = 1) :=
  ⟨⟨waiting r0 7 0x0605 [3#8, 4#8], 7, prog 7 0x0605 [3#8, 4#8], 3, 4, by decide +kernel⟩,
   ⟨r0, .cuing, 63, by decide +kernel⟩,
   ⟨r0.setRf aAlert 4 0 15, .cuing, 5#32, by decide +kernel⟩,
   ⟨r0, .cuing, 1#32, by decide +kernel⟩⟩

theorem met_HostPowerCommands_3 :
    (∃ (s : State) (tag : Nat) (p : Prog), Waits s tag 0x0602 p ∧ p.payload.length = 2 ∧ 150 ≤ field p.payload 0 2 ∧ field p.payload 0 2 ≤ 1200 ∧ s.role ≠ 2) ∧
    (∃ (s : State) (tag : Nat) (p : Prog), Waits s tag 0x0603 p ∧ p.payload = [1#8] ∧ s.role = 2 ∧ s.rf aHostReq 10 0 = 0) :=
  ⟨⟨waiting r0 7 0x0602 [0x90#8, 1#8], 7, prog 7 0x0602 [0x90#8, 1#8], by decide +kernel⟩,
   ⟨waiting (r0.setRf aDvt 31 29 2) 7 0x0603 [1#8], 7, prog 7 0x0603 [1#8], by decide +kernel⟩⟩

theorem met_ThermalSensorsAndLadder_1 :
    (∃ (s : State) (l : List Int) (i : Nat) (v : Int), s.pwr.vinAon = true ∧ i < 82 ∧ l[i]? = some v ∧ inRange v = true) ∧
    (∃ (s : State) (i : Nat), i < 82 ∧ s.sensorState i ≠ 2 ∧ s.sensorTemp i < s.model (sensorZone i) - deg 12) ∧
    (∃ (s : State) (c : Nat), c < 8 ∧ ((∀ z ∈ rungZones 1 c, s.rung z ≤ 1 ∧ s.zoneTemp z < rungRelease 1)) ∧ ((∃ z ∈ rungZones 1 c, s.rung z = 1))) ∧
    (∃ (s : State) (z : Nat), z < 33 ∧ deg 100 ≤ s.zoneTemp z ∧ s.limitOn = true) :=
  ⟨⟨r0, [5000, 6400], 1, 6400, by decide +kernel⟩,
   ⟨r0.setRf (aSensor 3) 15 0 (ofSigned 16 (-2000)), 3, cold_sensor⟩,
   ⟨r0.setRf (aZone 2) 31 29 1, 2, by decide +kernel⟩,
   ⟨{ ((r0.setRf (aZone 4) 15 0 6500).setRf (aZone 4) 31 29 2) with thm := { thmReset with limitCap := 500 } }, 4, by decide +kernel⟩⟩

theorem met_ThermalSensorsAndLadder_2 :
    (∃ (s : State) (i : Nat), s.pwr.vinAon = true ∧ i < 82 ∧ s.sensorState i ≠ 2) ∧
    (∃ (s : State) (path : Path) (v : Word), s.pathAny path = true ∧ fld v 0 0 = 1 ∧ s.rf aTrip 0 0 = 1 ∧ ((∀ i ∈ List.range 82, s.sensorTemp i < deg 100))) :=
  ⟨⟨r0, 4, by decide +kernel⟩,
   ⟨r0.setRf aTrip 0 0 1, .cuing, 1#32, by decide +kernel⟩⟩

theorem met_CoolantAndLeakLoop_1 :
    (∃ (s : State) (_a _b : Int), s.pwr.vinAon = true) ∧
    (∃ (s : State), s.coolCheck = true ∧ s.coolSide = 1 ∧ s.rf aLeak 29 29 = 0) ∧
    (∃ (s : State) (r : Nat), s.pwr.vinAon = true ∧ s.thm.leakBand = leakBand r ∧ 4 ≤ s.thm.leakRun ∧ s.rf aLeak 31 30 ≠ leakBand r) ∧
    (∃ (s : State), s.trd.leakOn = true ∧ s.rf aLeak 31 30 = 0) :=
  ⟨⟨r0, 1000, 1200, by decide +kernel⟩,
   ⟨{ (r0.setRf aCool 31 16 5000) with trd := { trdReset with pkgHist := [30000] } }, by decide +kernel⟩,
   ⟨{ r0 with thm := { thmReset with leakBand := 1, leakRun := 4 } }, 2000, by decide +kernel⟩,
   ⟨{ r0 with trd := { trdReset with leakOn := true } }, by decide +kernel⟩⟩

theorem met_CoolantAndLeakLoop_2 :
    (∃ (s : State) (tag : Nat) (p : Prog) (first n : Nat), Waits s tag 0x0701 p ∧ p.payload = [BitVec.ofNat 8 first, BitVec.ofNat 8 n] ∧ 1 ≤ n ∧ n ≤ 24 ∧ first + n ≤ 82) ∧
    (∃ (s : State) (tag : Nat) (p : Prog), Waits s tag 0x0702 p ∧ p.payload = [] ∧ p.fits 140 = true) ∧
    (∃ (s : State) (tag : Nat) (p : Prog), Waits s tag 0x0703 p ∧ p.payload.length = 6 ∧ coolCfgOk (BitVec.ofNat 32 (field p.payload 0 4)) = true ∧ leakCfgOk (BitVec.ofNat 32 (field p.payload 4 2)) = true) ∧
    (∃ (s : State), s.coolCheck = true ∧ s.coolSide = -1 ∧ s.rf aLeak 28 28 = 0) :=
  ⟨⟨waiting r0 7 0x0701 [3#8, 4#8], 7, prog 7 0x0701 [3#8, 4#8], 3, 4, by decide +kernel⟩,
   ⟨waiting r0 7 0x0702 [], 7, prog 7 0x0702 [], by decide +kernel⟩,
   ⟨waiting r0 7 0x0703 [100#8, 0#8, 40#8, 20#8, 0xF4#8, 1#8], 7, prog 7 0x0703 [100#8, 0#8, 40#8, 20#8, 0xF4#8, 1#8], by decide +kernel⟩,
   ⟨{ r0 with trd := { trdReset with pkgHist := [90000] } }, by decide +kernel⟩⟩

theorem met_CoolantAndLeakLoop_3 :
    (∃ (s : State), s.coolCheck = true ∧ s.coolSide = 0 ∧ s.rf aLeak 29 29 = 1) ∧
    (∃ (s : State) (r : Nat), s.pwr.vinAon = true ∧ s.thm.leakBand ≠ leakBand r) :=
  ⟨⟨{ ((r0.setRf aLeak 29 29 1).setRf aCool 31 16 183) with trd := { trdReset with pkgHist := [20000] } }, by decide +kernel⟩,
   ⟨r0, 2000, by decide +kernel⟩⟩

theorem met_CartridgeStates_1 :
    (∃ (s : State) (k : Nat), k < 16 ∧ s.pwr.vinIo = true ∧ s.rf (aCrt k) 27 27 = 0) ∧
    (∃ (s : State) (k : Nat) (_b : List Byte), s.pwr.vinIo = true ∧ k < 16 ∧ s.crtState k = 1) ∧
    (∃ (s : State) (k : Nat) (l : List Nat), k < 16 ∧ s.crtState k = 2 ∧ AtDepth s (dOpt k) .run ∧ l.length = 16) ∧
    (∃ (s : State) (tag : Nat) (p : Prog) (k : Nat), Waits s tag 0x0705 p ∧ k < 16 ∧ p.payload = [BitVec.ofNat 8 k, 1#8] ∧ s.isOff (dOpt k) = true ∧ s.crtState k = 3) :=
  ⟨⟨r0, 3, by decide +kernel⟩,
   ⟨r0.setRf (aCrt 3) 31 28 1, 3, [1#8], by decide +kernel⟩,
   ⟨(r0.setRf (aCrt 3) 31 28 2).setDom 39 ⟨.run, .idle, false⟩, 3, [40, 35, 34, 26, 25, 0, 63, 64, 300, 35, 35, 35, 35, 35, 35, 35], by decide +kernel⟩,
   ⟨waiting (r0.setRf (aCrt 3) 31 28 3) 7 0x0705 [3#8, 1#8], 7, prog 7 0x0705 [3#8, 1#8], 3, by decide +kernel⟩⟩

theorem met_CartridgeStates_2 :
    (∃ (s : State) (tag : Nat) (p : Prog) (k : Nat), Waits s tag 0x0705 p ∧ k < 16 ∧ p.payload = [BitVec.ofNat 8 k, 2#8] ∧ AtDepth s (dOpt k) .run ∧ s.crtState k = 3 ∧ (s.cart k).inspectBy = none ∧ (enginePorts k).all s.darkOrOff = true) ∧
    (∃ (s : State) (k p : Nat), k < 16 ∧ s.sideband = true ∧ s.rf (aCrt k) 27 27 = 1 ∧ p / 8 = k ∧ (s.port p).lstate = .active ∧ s.portRole p ≠ 0) ∧
    (∃ (s : State) (tag : Nat) (p : Prog), Waits s tag 0x0704 p ∧ p.payload = []) ∧
    (∃ (s : State) (tag : Nat) (p : Prog) (first n : Nat), Waits s tag 0x0706 p ∧ p.payload = [BitVec.ofNat 8 first, BitVec.ofNat 8 n] ∧ n ≤ 24 ∧ first + n ≤ 128) :=
  ⟨⟨waiting ((r0.setRf (aCrt 3) 31 28 3).setDom 39 ⟨.run, .idle, false⟩) 7 0x0705 [3#8, 2#8], 7, prog 7 0x0705 [3#8, 2#8], 3, by decide +kernel⟩,
   ⟨((r0.setRf (aCrt 3) 27 27 1).setPort 25 { portReset with lstate := .active }).setRf (aPortCfg 25) 1 0 1, 3, 25, by decide +kernel⟩,
   ⟨waiting r0 7 0x0704 [], 7, prog 7 0x0704 [], by decide +kernel⟩,
   ⟨waiting r0 7 0x0706 [3#8, 4#8], 7, prog 7 0x0706 [3#8, 4#8], 3, 4, by decide +kernel⟩⟩

theorem met_CartridgeStates_3 :
    (∃ (s : State) (tag : Nat) (p : Prog) (k : Nat), Waits s tag 0x0707 p ∧ k < 16 ∧ p.payload = [BitVec.ofNat 8 k] ∧ s.crtState k ≠ 0) ∧
    (∃ (s : State) (k : Nat) (_b : List Byte), s.pwr.vinIo = true ∧ k < 16 ∧ s.crtState k = 1) ∧
    (∃ (s : State) (tag : Nat) (p : Prog) (k : Nat), Waits s tag 0x0705 p ∧ k < 16 ∧ p.payload = [BitVec.ofNat 8 k, 1#8] ∧ s.isOff (dOpt k) = false) :=
  ⟨⟨waiting (r0.setRf (aCrt 3) 31 28 3) 7 0x0707 [3#8], 7, prog 7 0x0707 [3#8], 3, by decide +kernel⟩,
   ⟨r0.setRf (aCrt 3) 31 28 1, 3, [1#8], by decide +kernel⟩,
   ⟨waiting (r0.setDom 39 ⟨.run, .idle, false⟩) 7 0x0705 [3#8, 1#8], 7, prog 7 0x0705 [3#8, 1#8], 3, by decide +kernel⟩⟩

theorem met_LinkFramesInAndOut_1 :
    (∃ (s : State) (p : Nat) (w : List Nat) (b : List Byte), p < 128 ∧ (s.port p).lstate = .active ∧ (s.port p).txOn = true ∧ (fecOk w = false ∨ frameCrcOk b = false)) ∧
    (∃ (s : State) (p : Nat), p < 128 ∧ (s.port p).lstate = .active ∧ (s.port p).txOn = true ∧ (s.port p).ctlTx = [] ∧ (s.port p).replayAt = none ∧ ((∀ v ∈ List.range 7, s.outq p v = []))) ∧
    (∃ (s : State) (p : Nat), p < 128 ∧ (s.port p).lstate = .active) ∧
    (∃ (s : State) (p typ : Nat) (m : List Byte), ((s.port p).ctlWait.find? (fun m => decide (byteAt m 0 = typ)) = some m) ∧ m ∉ (s.port p).ctlTx) :=
  ⟨⟨rPort 3 up, 3, [16], [], by decide +kernel⟩,
   ⟨rPort 3 up, 3, by decide +kernel⟩,
   ⟨rPort 3 up, 3, by decide +kernel⟩,
   ⟨rPort 3 { up with ctlWait := [ctl 3 0 []] }, 3, 3, ctl 3 0 [], by decide +kernel⟩⟩

theorem met_LinkFramesInAndOut_2 :
    (∃ (s : State) (p : Nat) (w : List Nat) (b : List Byte), p < 128 ∧ (s.port p).lstate = .active ∧ (s.port p).txOn = true ∧ fecOk w = true ∧ frameCrcOk b = true ∧ (frameOf b).ftype = 0 ∧ (frameOf b).retry = false ∧ (frameOf b).fsn = (s.port p).rxFsn) ∧
    (∃ (s : State) (p : Nat) (w : List Nat) (b : List Byte), p < 128 ∧ (s.port p).lstate = .active ∧ (s.port p).txOn = true ∧ fecOk w = true ∧ frameCrcOk b = true ∧ (frameOf b).ftype = 0 ∧ (frameOf b).retry = false ∧ (frameOf b).fsn ≠ (s.port p).rxFsn ∧ 32768 < ((s.port p).rxFsn + 65536 - (frameOf b).fsn) % 65536) ∧
    (∃ (s : State) (p : Nat), p < 128 ∧ (s.port p).lstate = .active ∧ (s.port p).txOn = true ∧ (s.port p).ctlTx = [] ∧ (s.port p).replayAt = none ∧ (s.port p).replay.length < 1024 ∧ ((∃ v ∈ List.range 7, s.pickReady p v = true ∧ (s.port p).hasCredit v = true))) :=
  ⟨⟨rPort 3 up, 3, [15, 0], (Frame.bytes ⟨[none, none, none, none], 0, false, 5, 0, none, none⟩), ⟨by decide +kernel, by decide +kernel, by decide +kernel, by decide +kernel, frameCrcOk_bytes _ rfl, by decide +kernel, by decide +kernel, by decide +kernel⟩⟩,
   ⟨rPort 3 up, 3, [15, 0], (Frame.bytes ⟨[none, none, none, none], 0, false, 5, 9, none, none⟩), ⟨by decide +kernel, by decide +kernel, by decide +kernel, by decide +kernel, frameCrcOk_bytes _ rfl, by decide +kernel, by decide +kernel, by decide +kernel, by decide +kernel⟩⟩,
   ⟨(rPort 3 { up with advPeer := [9, 9, 9, 9, 9, 9, 9] }).setOutq 3 4 [{ pid := 0, hdr := (mkPkt 1 2 1 false false false 0 0 [] []).hdr, data := [], inq := 128, vc := 4, sent := 0, ageLim := 0, escLim := 0, checked := true, mc := none, only := none }], 3, by decide +kernel⟩⟩

theorem met_LinkTrainsAndResyncs_1 :
    (∃ (s : State) (p : Nat), s.mayTrain p = true ∧ (s.port p).lstate = .dark ∧ s.portDomsRun p = true ∧ s.portClock p = true ∧ s.rf (aCrt (p / 8)) 24 24 = 0 ∧ s.lit p = true ∧ s.ctlDown (p / 16) = false) ∧
    (∃ (s : State) (p : Nat), s.mayTrain p = true ∧ (s.port p).lstate = .down ∧ s.portDomsRun p = true ∧ s.portClock p = true ∧ s.rf (aCrt (p / 8)) 24 24 = 0 ∧ s.lit p = true ∧ s.ctlDown (p / 16) = false) ∧
    (∃ (s : State) (p : Nat) (m : List Byte), FreshCtl s p 1 m ∧ s.ctlDown (p / 16) = false ∧ (s.port p).lstate = .train ∧ byteAt m 2 = 1 ∧ paramsOk m = true ∧ lanesBoth (s.port p).mineLanes (byteAt m 16) ≠ 0) ∧
    (∃ (s : State) (p : Nat) (m : List Byte), FreshCtl s p 2 m ∧ (s.port p).lstate = .train ∧ ((∃ w ∈ (s.port p).ctlWait, byteAt w 0 = 1 ∧ byteAt w 1 = field m 2 2))) :=
  ⟨⟨(clocked ((run (rPort 3 { portReset with lstate := .dark }) 3).setReg (aPortCfg 3) 5#32)).setRf (aCrt 0) 25 25 1, 3, by decide +kernel⟩,
   ⟨(clocked ((run (rPort 3 { portReset with lstate := .down }) 3).setReg (aPortCfg 3) 5#32)).setRf (aCrt 0) 25 25 1, 3, by decide +kernel⟩,
   ⟨rPort 3 { portReset with lstate := .train, txOn := true, mine := List.replicate 32 15#8 }, 3, params 1, by decide +kernel⟩,
   ⟨rPort 3 { portReset with lstate := .train, txOn := true, ctlWait := [ctl 1 4 []] }, 3, ctl 2 0 [4#8, 0#8], by decide +kernel⟩⟩

theorem met_LinkTrainsAndResyncs_2 :
    (∃ (s : State) (p : Nat), p < 128 ∧ (s.port p).lstate = .train ∧ (s.port p).gotParams = true ∧ (s.port p).gotAck = true ∧ s.lit p = true ∧ s.portDomsRun p = true ∧ s.ctlDown (p / 16) = false ∧ s.paired = false ∧ (s.port p).lastPeer ≠ some ((s.port p).peerEid, (s.port p).peerIdent)) ∧
    (∃ (s : State) (p : Nat), p < 128 ∧ (s.port p).lstate = .train) ∧
    (∃ (s : State) (p : Nat) (m : List Byte), p < 128 ∧ FreshCtl s p 10 m ∧ (s.port p).lstate = .hold ∧ (s.port p).txOn = true ∧ (s.port p).holdDepth = .lit ∧ ((s.port p).peerResync = true ∨ bit (byteAt m 17) 1 = true) ∧ paramsOk m = true ∧ (s.port p).ctlWait = [] ∧ lanesBoth (s.lanesMine p) (byteAt m 16) ≠ 0 ∧ s.portDomsRun p = true) ∧
    (∃ (s : State) (p : Nat), s.mayTrain p = true ∧ (s.port p).lstate = .dark ∧ s.dom (dOpt (p / 8)) = ⟨.off, .idle, false⟩ ∧ s.ctlDown (p / 16) = false) :=
  ⟨⟨(run (rPort 3 { portReset with lstate := .train, txOn := true, gotParams := true, gotAck := true }) 3).setRf (aCrt 0) 25 25 1, 3, by decide +kernel⟩,
   ⟨rPort 3 { portReset with lstate := .train, txOn := true }, 3, by decide +kernel⟩,
   ⟨(run (rPort 3 { held with peerResync := true }) 3).setReg (aPortCfg 3) 0xF005#32, 3, params 10, by decide +kernel⟩,
   ⟨r0.setReg (aPortCfg 3) 5#32, 3, by decide +kernel⟩⟩

theorem met_LinkTrainsAndResyncs_3 :
    (∃ (s : State) (p : Nat) (m : List Byte), p < 128 ∧ FreshCtl s p 1 m ∧ s.ctlDown (p / 16) = false ∧ (s.port p).lstate = .train ∧ byteAt m 2 ≠ 1) ∧
    (∃ (s : State) (p : Nat), p < 128 ∧ (s.port p).lstate = .train ∧ (s.port p).gotParams = true ∧ (s.port p).gotAck = true ∧ s.lit p = true ∧ s.portDomsRun p = true ∧ s.ctlDown (p / 16) = false ∧ s.paired = false ∧ s.role ≠ 2 ∧ ((s.port p).roleMismatch = false) ∧ (s.port p).lastPeer = some ((s.port p).peerEid, (s.port p).peerIdent)) :=
  ⟨⟨rPort 3 { portReset with lstate := .train, txOn := true }, 3, ctl 1 0 [2#8], by decide +kernel⟩,
   ⟨(run (rPort 3 { portReset with lstate := .train, txOn := true, gotParams := true, gotAck := true, lastPeer := some (0, 0) }) 3).setRf (aCrt 0) 25 25 1, 3, by decide +kernel⟩⟩

theorem met_LinkHoldsAndWakes_1 :
    (∃ (s : State) (p : Nat) (m : List Byte), p < 128 ∧ FreshCtl s p 3 m ∧ s.ctlDown (p / 16) = false ∧ (s.port p).lstate = .active ∧ byteAt m 2 = 1 ∧ byteAt m 3 = 0) ∧
    (∃ (s : State) (p : Nat) (m : List Byte), p < 128 ∧ FreshCtl s p 4 m ∧ (s.port p).lstate = .active ∧ (s.port p).holdReq ≠ none ∧ byteAt m 2 = 1) ∧
    (∃ (s : State) (p : Nat) (m : List Byte), p < 128 ∧ FreshCtl s p 5 m ∧ (s.port p).widthReq = none ∧ s.ctlDown (p / 16) = false ∧ (s.port p).lstate = .hold ∧ (s.port p).resyncMsg = none ∧ s.portDomsRun p = true ∧ ((s.port p).replay = [] ∨ (s.port p).retryRow + 1 < s.rf (aRetry p) 23 16)) ∧
    (∃ (s : State) (p : Nat), p < 128 ∧ (s.port p).lstate = .hold ∧ (s.port p).holdDepth = .dark ∧ AtDepth s (dOpt (p / 8)) .retain) :=
  ⟨⟨rPort 3 up, 3, ctl 3 0 [1#8, 0#8], by decide +kernel⟩,
   ⟨rPort 3 { up with holdReq := some (.freeze, .lit) }, 3, ctl 4 0 [1#8, 1#8, 0#8], by decide +kernel⟩,
   ⟨run (rPort 3 held) 3, 3, ctl 5 0 [], by decide +kernel⟩,
   ⟨(rPort 3 { held with holdDepth := .dark, txOn := false }).setDom 36 ⟨.retain, .idle, false⟩, 3, by decide +kernel⟩⟩

theorem met_LinkHoldsAndWakes_2 :
    (∃ (s : State) (p : Nat), p < 128 ∧ (s.port p).lstate = .hold ∧ (s.port p).holdReason = .freeze ∧ (s.port p).gotAck = false ∧ (s.port p).resyncMsg = none ∧ s.dovetailPort p = false) ∧
    (∃ (s : State) (p : Nat) (m : List Byte), p < 128 ∧ FreshCtl s p 9 m ∧ (s.port p).lstate = .active) ∧
    (∃ (s : State) (p : Nat), s.ctlDown (p / 16) = false ∧ (s.port p).lstate = .active ∧ (s.portRole p = 1 ∨ s.portRole p = 2) ∧ s.portIdle p = true ∧ (s.port p).holdReq = none ∧ ((∀ v ∈ List.range 7, s.inq p v = []))) ∧
    (∃ (s : State) (p : Nat), (s.port p).lstate = .hold ∧ (s.port p).holdReason = .rest ∧ (s.port p).holdDepth = .lit ∧ (s.port p).txOn = true ∧ (s.port p).holdReq = none ∧ s.dovetailPort p = false ∧ s.role ≠ 2 ∧ s.rf aDepthCfg 23 16 ≠ 0 ∧ s.ctlDown (p / 16) = false) :=
  ⟨⟨rPort 3 held, 3, by decide +kernel⟩,
   ⟨rPort 3 up, 3, ctl 9 0 [], by decide +kernel⟩,
   ⟨(rPort 3 up).setReg (aPortCfg 3) 5#32, 3, by decide +kernel⟩,
   ⟨(rPort 3 { held with holdReason := .rest }).setRf aDepthCfg 23 16 1, 3, by decide +kernel⟩⟩

theorem met_LinkHoldsAndWakes_3 :
    (∃ (s : State) (p : Nat) (m : List Byte), p < 128 ∧ FreshCtl s p 3 m ∧ s.ctlDown (p / 16) = false ∧ (s.port p).lstate = .active ∧ byteAt m 2 = 0 ∧ (s.port p).holdReq = none ∧ s.portIdle p = false) ∧
    (∃ (s : State) (p : Nat) (m : List Byte), FreshCtl s p 4 m ∧ (s.port p).holdReq ≠ none ∧ byteAt m 2 ≠ 1) :=
  ⟨⟨rPort 3 { up with replay := [⟨0, []⟩] }, 3, ctl 3 0 [0#8, 0#8], by decide +kernel⟩,
   ⟨rPort 3 { up with holdReq := some (.freeze, .lit) }, 3, ctl 4 0 [0#8, 1#8, 0#8], by decide +kernel⟩⟩

theorem met_LanesAndPacing_1 :
    (∃ (s : State) (p : Nat) (m : List Byte), FreshCtl s p 6 m ∧ (s.port p).lstate = .hold ∧ (s.port p).txOn = true ∧ byteAt m 2 % 16 ≠ 0 ∧ byteAt m 3 = 1) ∧
    (∃ (s : State) (p : Nat) (m : List Byte) (mask cause : Nat), FreshCtl s p 7 m ∧ (s.port p).widthReq = some (mask, cause) ∧ (s.port p).widthWait = [] ∧ byteAt m 2 = 1) ∧
    (∃ (s : State) (p lane : Nat) (why : LaneFault), s.ctlDown (p / 16) = false ∧ laneRetires lane why = true ∧ (s.port p).lstate = .active ∧ lane < 4 ∧ bit (s.port p).laneActive lane = true ∧ (sumNat ((bitList 4 (s.port p).laneActive).map (fun i => if bit ((s.port p).laneFailed ||| 2 ^ lane) i then 0 else 2 ^ i)) ≠ 0) ∧ (s.port p).widthReq = none) ∧
    (∃ (s : State) (p : Nat) (m : List Byte), FreshCtl s p 8 m) :=
  ⟨⟨(rPort 3 { held with laneActive := 3 }).setRf (aPortCfg 3) 11 10 0, 3, ctl 6 0 [1#8, 1#8], by decide +kernel⟩,
   ⟨rPort 3 { held with laneActive := 3, widthReq := some (1, 1) }, 3, ctl 7 0 [1#8, 1#8], 1, 1, by decide +kernel⟩,
   ⟨rPort 3 { up with laneActive := 3 }, 3, 1, .lock 1000, by decide +kernel⟩,
   ⟨rPort 3 up, 3, ctl 8 0 [], by decide +kernel⟩⟩

theorem met_LanesAndPacing_2 :
    (∃ (s : State) (p r : Nat), s.mayPace p = true ∧ (s.port p).paceRate 0 = r ∧ r ≠ 0 ∧ r < 256) ∧
    (∃ (s : State) (p : Nat), (s.port p).paceCong.getD 0 0 ≠ 0 ∧ 256 * s.inPicks p 0 < s.rf aPaceCfg 23 16 * s.rf (aCredit p 0) 15 0) ∧
    (∃ (s : State) (p : Nat) (m : List Byte), FreshCtl s p 6 m ∧ (s.port p).lstate = .hold ∧ (s.port p).txOn = true ∧ byteAt m 2 % 16 ≠ 0 ∧ byteAt m 3 = 2 ∧ s.rf (aPortCfg p) 11 10 = 0) ∧
    (∃ (s : State) (p lane : Nat) (why : LaneFault), p < 128 ∧ laneRetires lane why = true ∧ (s.port p).lstate = .active ∧ lane < 4 ∧ bit (s.port p).laneActive lane = true ∧ (sumNat ((bitList 4 (s.port p).laneActive).map (fun i => if bit ((s.port p).laneFailed ||| 2 ^ lane) i then 0 else 2 ^ i)) = 0)) :=
  ⟨⟨(rPort 3 { up with peerPace := true, paceCong := [9, 0, 0] }).setReg (aPortCfg 3) 0x105#32, 3, 9, by decide +kernel⟩,
   ⟨rPort 3 { up with paceCong := [9, 0, 0] }, 3, by decide +kernel⟩,
   ⟨(rPort 3 { held with laneActive := 3 }).setRf (aPortCfg 3) 11 10 0, 3, ctl 6 0 [1#8, 2#8], by decide +kernel⟩,
   ⟨rPort 3 up, 3, 0, .laneId 2, by decide +kernel⟩⟩

theorem met_PortRegisterWrites_1 :
    (∃ (s : State) (path : Path) (p : Nat) (v : Word), p < 128 ∧ s.pathOk path = true ∧ fld v 1 0 ≠ s.portRole p ∧ (s.port p).lstate = .active ∧ s.portRole p ≠ 0 ∧ s.fwdEn p = true) ∧
    (∃ (s : State) (path : Path) (p ch : Nat) (v : Word), p < 128 ∧ ch < 7 ∧ s.pathOk path = true ∧ fld v 15 0 < 65) ∧
    (∃ (s : State) (path : Path) (p : Nat) (v : Word), p < 128 ∧ s.pathOk path = true ∧ fld v 0 0 = 1) ∧
    (∃ (s : State) (path : Path) (p : Nat) (v : Word), p < 128 ∧ s.pathOk path = true ∧ fld v 0 0 = 1) :=
  ⟨⟨(rPort 3 up).setReg (aPortCfg 3) 0x15#32, .cuing, 3, 0x16#32, by decide +kernel⟩,
   ⟨r0, .cuing, 3, 2, 3#32, by decide +kernel⟩,
   ⟨r0, .cuing, 3, 1#32, by decide +kernel⟩,
   ⟨r0, .cuing, 3, 1#32, by decide +kernel⟩⟩

theorem met_PortRegisterWrites_2 :
    (∃ (s : State) (path : Path) (p : Nat) (v : Word), p < 128 ∧ s.pathOk path = true ∧ s.portRole p = 1 ∧ fld v 1 0 = 1 ∧ fld v 2 2 = 0 ∧ fld v 4 4 = 0 ∧ (s.port p).lstate = .active) ∧
    (∃ (s : State) (path : Path) (p : Nat) (v : Word), p < 128 ∧ s.pathOk path = true ∧ s.portRole p = 1 ∧ fld v 1 0 = 1 ∧ fld v 2 2 = 1 ∧ fld v 4 4 = 1 ∧ s.pwr.leadSel = true ∧ s.role ≠ 2 ∧ ((s.port p).roleMismatch = false) ∧ s.barred (dSw (p / 16)) = false ∧ s.barred (dOpt (p / 8)) = false) ∧
    (∃ (s : State) (path : Path) (p ch : Nat) (v : Word), p < 128 ∧ ch < 7 ∧ s.pathOk path = true ∧ 65 ≤ fld v 15 0 ∧ fld v 15 0 ≤ 16384 ∧ s.portRole p = 0) :=
  ⟨⟨(rPort 3 up).setReg (aPortCfg 3) 5#32, .cuing, 3, 1#32, by decide +kernel⟩,
   ⟨{ (rPort 3 up).setReg (aPortCfg 3) 5#32 with pwr := { powerReset with leadSel := true } }, .cuing, 3, 0x15#32, by decide +kernel⟩,
   ⟨r0, .cuing, 3, 2, 100#32, by decide +kernel⟩⟩

theorem met_PacketsAreCheckedAndRouted_1 :
    (∃ (s : State) (q vc : Nat) (k : QPkt), q < 128 ∧ s.headOf q vc = some k ∧ k.checked = false ∧ k.inq = q ∧ s.inBusy q vc = false ∧ k.atHead = false ∧ ((s.ingress q vc k.hdr = 1 ∨ s.ingress q vc k.hdr = 2 ∨ s.ingress q vc k.hdr = 3))) ∧
    (∃ (s : State) (q vc : Nat) (k : QPkt) (p : Nat), q < 128 ∧ s.headOf q vc = some k ∧ k.checked = true ∧ k.inq = q ∧ hMcast k.hdr = false ∧ vc ≠ 6 ∧ s.pairBound k = false ∧ s.heldByCommit k.hdr = false ∧ s.lookup (hDst k.hdr) = .forward ∧ s.choosePort (s.cand k.hdr) vc k.hdr = some p) ∧
    (∃ (s : State) (q vc : Nat) (k : QPkt) (p : Nat), s.waitingAll q vc = [(none, k)] ∧ s.headOf q vc = some k ∧ k.inq = q ∧ q < 128 ∧ vc ≤ 5 ∧ s.mayEscape k = true ∧ s.selPort (hDst k.hdr) = p) ∧
    (∃ (s : State) (q vc : Nat) (k : QPkt), s.waitingAll q vc = [(none, k)] ∧ s.headOf q vc = some k ∧ k.inq = q ∧ q < 128 ∧ k.mc = none) :=
  ⟨⟨rEid.setInq 3 0 [qp (mkPkt 5 7 9 false false false 0 0 [] []) 3 0 false], 3, 0, qp (mkPkt 5 7 9 false false false 0 0 [] []) 3 0 false, by decide +kernel⟩,
   ⟨((sets rEid [(aPortCfg 3, 0x15#32), (aRoute 9 4, 0x80040400#32), (aRoute 9 0, 0x10#32), (aPortCfg 4, 0x15#32)]).setPort 4 up).setInq 3 1 [qp (mkPkt 9 7 9 false true false 3 0 [] []) 3 1 true], 3, 1, qp (mkPkt 9 7 9 false true false 3 0 [] []) 3 1 true, 4, by decide +kernel⟩,
   ⟨((sets rEid [(aPortCfg 3, 0x15#32), (aRoute 9 4, 0x80040400#32), (aRoute 9 0, 0x10#32), (aPortCfg 4, 0x15#32)]).setPort 4 up).setInq 3 1 [qp (mkPkt 9 7 9 false true false 3 0 [] []) 3 1 true], 3, 1, qp (mkPkt 9 7 9 false true false 3 0 [] []) 3 1 true, 4, by decide +kernel⟩,
   ⟨(sets rEid []).setInq 3 1 [qp (mkPkt 9 7 9 false true false 3 0 [] []) 3 1 true], 3, 1, qp (mkPkt 9 7 9 false true false 3 0 [] []) 3 1 true, by decide +kernel⟩⟩

theorem met_PacketsAreCheckedAndRouted_2 :
    (∃ (s : State) (q vc : Nat) (k : QPkt), q < 128 ∧ s.headOf q vc = some k ∧ k.checked = false ∧ k.inq = q ∧ s.inBusy q vc = false ∧ k.atHead = false ∧ s.ingress q vc k.hdr = 0 ∧ s.fwdEn q = false ∧ s.quarWait vc k.hdr k.data = false ∧ s.quarPass vc k.hdr k.data = false) ∧
    (∃ (s : State) (q vc : Nat) (k : QPkt), q < 128 ∧ s.headOf q vc = some k ∧ k.checked = false ∧ k.inq = q ∧ s.inBusy q vc = false ∧ k.atHead = false ∧ s.ingress q vc k.hdr = 0 ∧ s.fwdEn q = true ∧ hMcast k.hdr = false ∧ vc ≠ 6 ∧ s.pairBound k = false ∧ s.heldByCommit k.hdr = false ∧ s.lookup (hDst k.hdr) = .noRoute) ∧
    (∃ (s : State) (q vc : Nat) (k : QPkt), q < 128 ∧ s.headOf q vc = some k ∧ k.checked = false ∧ k.inq = q ∧ s.inBusy q vc = false ∧ k.atHead = false ∧ s.ingress q vc k.hdr = 0 ∧ s.fwdEn q = true ∧ hMcast k.hdr = false ∧ vc ≠ 6 ∧ s.pairBound k = false ∧ s.heldByCommit k.hdr = false ∧ s.lookup (hDst k.hdr) = .own ∧ s.selfEid ≠ 0xFFFF ∧ s.overWindow k.hdr = false) ∧
    (∃ (s : State) (q vc : Nat) (k : QPkt) (p : Nat), q < 128 ∧ s.headOf q vc = some k ∧ k.checked = false ∧ k.inq = q ∧ s.inBusy q vc = false ∧ k.atHead = false ∧ s.ingress q vc k.hdr = 0 ∧ s.fwdEn q = true ∧ hMcast k.hdr = false ∧ vc ≠ 6 ∧ s.pairBound k = false ∧ s.heldByCommit k.hdr = false ∧ s.lookup (hDst k.hdr) = .forward ∧ s.choosePort (s.cand k.hdr) vc k.hdr = some p) :=
  ⟨⟨(sets rEid [(aPortCfg 3, 5#32)]).setInq 3 1 [qp (mkPkt 5 7 9 false true false 3 0 [] []) 3 1 false], 3, 1, qp (mkPkt 5 7 9 false true false 3 0 [] []) 3 1 false, by decide +kernel⟩,
   ⟨(sets rEid [(aPortCfg 3, 0x15#32)]).setInq 3 1 [qp (mkPkt 9 7 9 false true false 3 0 [] []) 3 1 false], 3, 1, qp (mkPkt 9 7 9 false true false 3 0 [] []) 3 1 false, by decide +kernel⟩,
   ⟨(sets rEid [(aPortCfg 3, 0x15#32), (aRoute 5 4, 0x90000000#32)]).setInq 3 1 [qp (mkPkt 5 7 9 false true false 3 0 [] []) 3 1 false], 3, 1, qp (mkPkt 5 7 9 false true false 3 0 [] []) 3 1 false, by decide +kernel⟩,
   ⟨((sets rEid [(aPortCfg 3, 0x15#32), (aRoute 9 4, 0x80040400#32), (aRoute 9 0, 0x10#32), (aPortCfg 4, 0x15#32)]).setPort 4 up).setInq 3 1 [qp (mkPkt 9 7 9 false true false 3 0 [] []) 3 1 false], 3, 1, qp (mkPkt 9 7 9 false true false 3 0 [] []) 3 1 false, 4, by decide +kernel⟩⟩

theorem met_PacketsAreCheckedAndRouted_3 :
    ∃ (s : State) (q vc : Nat) (k : QPkt) (p : Nat), q < 128 ∧ s.headOf q vc = some k ∧ k.checked = false ∧ k.inq = q ∧ s.inBusy q vc = false ∧ k.atHead = false ∧ s.ingress q vc k.hdr = 0 ∧ s.fwdEn q = true ∧ hMcast k.hdr = false ∧ vc ≠ 6 ∧ s.paired = true ∧ hDst k.hdr = s.partner ∧ s.livePair = some p :=
  ⟨(sets ((rEid.setPort 3 up).setRf aDvt 31 27 6) [(aDvtCfg, 0x00090303#32), (aPortCfg 3, 0x17#32), (aPortCfg 4, 0x15#32)]).setInq 4 1 [qp (mkPkt 9 7 9 false true false 3 0 [] []) 4 1 false], 4, 1, qp (mkPkt 9 7 9 false true false 3 0 [] []) 4 1 false, 3, by decide +kernel⟩

theorem met_RequestsPerformInTheirWindows_1 :
    (∃ (s : State) (port : Nat) (pkt : Pkt) (w : Win), Comes s port 1 pkt ∧ InTurn s w pkt ∧ hFence pkt.hdr = false ∧ s.selfEid ≠ 0xFFFF ∧ formBad 1 pkt.hdr (pkt.data.length / 64) = false ∧ s.regionOkFor 1 (hSrc pkt.hdr) (field pkt.hdr 16 8 % 2 ^ 60) (field pkt.hdr 24 4) = stOk) ∧
    (∃ (s : State) (port : Nat) (pkt : Pkt) (w : Win), Comes s port 41 pkt ∧ InTurn s w pkt ∧ hFence pkt.hdr = false ∧ s.selfEid ≠ 0xFFFF ∧ formBad 41 pkt.hdr (pkt.data.length / 64) = false ∧ s.regionOkFor 41 (hSrc pkt.hdr) (field pkt.hdr 16 8 % 2 ^ 60) (field pkt.hdr 24 4) = stOk) ∧
    (∃ (s : State) (port : Nat) (pkt : Pkt) (w : Win), Comes s port 40 pkt ∧ InTurn s w pkt ∧ hFence pkt.hdr = false ∧ s.selfEid ≠ 0xFFFF ∧ formBad 40 pkt.hdr (pkt.data.length / 64) = false ∧ s.regionOkFor 40 (hSrc pkt.hdr) (field pkt.hdr 16 8 % 2 ^ 60) (field pkt.hdr 24 4) = stOk) ∧
    (∃ (s : State) (port : Nat) (pkt : Pkt) (w : Win), Comes s port 2 pkt ∧ InTurn s w pkt ∧ hFence pkt.hdr = false ∧ s.selfEid ≠ 0xFFFF ∧ formBad 2 pkt.hdr (pkt.data.length / 64) = false ∧ s.regionOkFor 2 (hSrc pkt.hdr) (field pkt.hdr 16 8 % 2 ^ 60) (field pkt.hdr 24 4) = stOk) :=
  ⟨⟨hear (rWin), 3, req 1 (opM (2 ^ 60 + 8192) 64 0 0 0 0) (List.replicate 64 0xAB#8), win, by decide +kernel⟩,
   ⟨hear ({ rWin with seq := { rWin.seq with frames := [(1048576, .lent 7)] } }), 3, req 41 (opM (2 ^ 60 + 2 ^ 36) 64 0 0 0 0) (List.replicate 64 0xAB#8), win, by decide +kernel⟩,
   ⟨hearPair (((rWin.setRf aSeqRegion 15 9 8).setRf aDvt 31 29 2)), 3, req 40 (opM (2 ^ 60 + 2 ^ 36) 64 0 0 0 0) (List.replicate 64 0xAB#8), win, by decide +kernel⟩,
   ⟨hear (rWin.memPut 8192 [1#8, 2#8, 3#8]), 3, req 2 (opM (2 ^ 60 + 8192) 8 0 0 0 0) [], win, by decide +kernel⟩⟩

theorem met_RequestsPerformInTheirWindows_2 :
    (∃ (s : State) (port : Nat) (pkt : Pkt) (w : Win), Comes s port 3 pkt ∧ InTurn s w pkt ∧ hFence pkt.hdr = false ∧ s.selfEid ≠ 0xFFFF ∧ formBad 3 pkt.hdr (pkt.data.length / 64) = false ∧ s.regionOkFor 3 (hSrc pkt.hdr) (field pkt.hdr 16 8 % 2 ^ 60) (field pkt.hdr 24 4) = stOk) ∧
    (∃ (s : State) (port : Nat) (pkt : Pkt) (w : Win) (im : Nat) (m : Image) (e : Nat × Nat × Nat × Nat), Comes s port 4 pkt ∧ InTurn s w pkt ∧ hFence pkt.hdr = false ∧ byteAt pkt.hdr 22 = im ∧ im < 64 ∧ s.imgState im = 2 ∧ s.image im = some m ∧ s.seq.reload = false ∧ m.entries[field pkt.hdr 24 2]? = some e ∧ bit e.2.2.1 0 = true ∧ pkt.data.length ≤ e.2.2.2 ∧ bit (byteAt pkt.hdr 16) 7 = false ∧ ((∃ c ∈ s.openClusters im (s.prefCluster (slice pkt.hdr 16 40) (m.queues.getD e.2.1 0) w.home), s.descFree c (m.queues.getD e.2.1 0) = true))) ∧
    (∃ (s : State) (port : Nat) (pkt : Pkt) (w : Win), Comes s port 1 pkt ∧ InTurn s w pkt ∧ hFence pkt.hdr = false ∧ s.selfEid ≠ 0xFFFF ∧ formBad 1 pkt.hdr (pkt.data.length / 64) = false ∧ s.regionOkFor 1 (hSrc pkt.hdr) (field pkt.hdr 16 8 % 2 ^ 60) (field pkt.hdr 24 4) ≠ stOk) ∧
    (∃ (s : State) (port : Nat) (pkt : Pkt), Comes s port 1 pkt ∧ s.winOf pkt.hdr = none) :=
  ⟨⟨hear (rWin.memPut 8192 [1#8, 2#8, 3#8]), 3, req 3 (opM (2 ^ 60 + 8192) 4 0 0 5 0) [], win, by decide +kernel⟩,
   ⟨hear (((loaded rWin).setReg (aQueue 0 0 0) 0x40000000#32).setReg (aQueue 0 0 1) 8#32), 3, req 4 (opX 0 0 0 0 0 0 11 12 13) [], win, 0, img, (0, 0, 1, 4096), by decide +kernel⟩,
   ⟨hear (rWin), 3, req 1 (opM (2 ^ 60 + 2 ^ 38) 64 0 0 0 0) (List.replicate 64 0xAB#8), win, by decide +kernel⟩,
   ⟨hear (rEid), 3, req 1 (opM (2 ^ 60 + 8192) 64 0 0 0 0) (List.replicate 64 0xAB#8), by decide +kernel⟩⟩

theorem met_WindowsOpenAndEnd_1 :
    (∃ (s : State) (port : Nat) (pkt : Pkt), Comes s port 5 pkt ∧ s.selfEid ≠ 0xFFFF ∧ field pkt.hdr 16 4 ≠ 0 ∧ 65 ≤ field pkt.hdr 20 4 ∧ 65 ≤ field pkt.hdr 24 4 ∧ s.winOf pkt.hdr = none ∧ s.flows.wins.length < 16384 ∧ winBufs (min (field pkt.hdr 20 4) (s.rf aWinPicks 15 0)) (min (field pkt.hdr 24 4) (s.rf aWinPicks 31 16)) ≤ s.poolAvail (qCluster port % 8) 0 ∧ bit (byteAt pkt.hdr 28) 0 = false) ∧
    (∃ (s : State) (port : Nat) (pkt : Pkt), Comes s port 6 pkt ∧ (s.winOf pkt.hdr).isSome = true) ∧
    (∃ (s : State) (src dst flow : Nat), (s.winAt src dst flow).isSome = true) ∧
    (∃ (s : State) (src dst flow : Nat) (w : Win), s.winAt src dst flow = some w ∧ w.at w.cp = .empty ∧ w.states ≠ [] ∧ w.broken = false) :=
  ⟨⟨hear ((rEid.setReg (aCarve 0 0) 0x00100010#32).setReg aWinPicks 0x01000100#32), 3, mkPkt 5 7 5 false false false 3 0 (opW 8 100 100 0 0) [], by decide +kernel⟩,
   ⟨hear (rWin), 3, req 6 [] [], by decide +kernel⟩,
   ⟨rWin, 7, 5, 3, by decide +kernel⟩,
   ⟨withWins rEid [{ win with states := [(2, .done)] }], 7, 5, 3, { win with states := [(2, .done)] }, by decide +kernel⟩⟩

theorem met_WindowsOpenAndEnd_2 :
    (∃ (s : State) (port : Nat) (pkt : Pkt), Comes s port 5 pkt ∧ s.selfEid ≠ 0xFFFF ∧ field pkt.hdr 16 4 = 0) ∧
    (∃ (s : State) (port : Nat) (pkt : Pkt), Comes s port 5 pkt ∧ s.selfEid ≠ 0xFFFF ∧ field pkt.hdr 16 4 ≠ 0 ∧ 65 ≤ field pkt.hdr 20 4 ∧ 65 ≤ field pkt.hdr 24 4 ∧ (s.winOf pkt.hdr).isSome = true) :=
  ⟨⟨hear (rEid), 3, mkPkt 5 7 5 false false false 3 0 (opW 0 100 100 0 0) [], by decide +kernel⟩,
   ⟨hear (rWin), 3, mkPkt 5 7 5 false false false 3 0 (opW 8 100 100 0 0) [], by decide +kernel⟩⟩

theorem met_ResponsesEndOperations_1 :
    (∃ (s : State) (port : Nat) (pkt : Pkt) (w : Nat) (o : Op), Comes s port 9 pkt ∧ s.ctxOf (hFlow pkt.hdr) = some w ∧ (s.src w).dst = hSrc pkt.hdr ∧ (s.src w).state = .opened ∧ (s.src w).item.isSome = true ∧ ((s.src w).ops.find? (fun y => decide (y.fsn = hFsn pkt.hdr)) = some o) ∧ Quiet s ∧ hStatus pkt.hdr = stOk) ∧
    (∃ (s : State) (port : Nat) (pkt : Pkt) (w : Nat) (o : Op) (i : Nat) (it : Item) (x d : Nat), Comes s port 0x0A pkt ∧ s.ctxOf (hFlow pkt.hdr) = some w ∧ (s.src w).dst = hSrc pkt.hdr ∧ (s.src w).state = .opened ∧ (s.src w).item.isSome = true ∧ ((s.src w).ops.find? (fun y => decide (y.fsn = hFsn pkt.hdr)) = some o) ∧ Quiet s ∧ (s.src w).item = some i ∧ s.item i = some it ∧ it.runs = some x ∧ hStatus pkt.hdr = stOk ∧ o.kind = .get d ∧ o.size ≤ pkt.data.length) ∧
    (∃ (s : State) (port : Nat) (pkt : Pkt) (w : Nat) (o : Op) (i : Nat) (it : Item) (x d : Nat), Comes s port 0x0B pkt ∧ s.ctxOf (hFlow pkt.hdr) = some w ∧ (s.src w).dst = hSrc pkt.hdr ∧ (s.src w).state = .opened ∧ (s.src w).item.isSome = true ∧ ((s.src w).ops.find? (fun y => decide (y.fsn = hFsn pkt.hdr)) = some o) ∧ Quiet s ∧ (s.src w).item = some i ∧ s.item i = some it ∧ it.runs = some x ∧ hStatus pkt.hdr = stOk ∧ o.kind = .atomic d ∧ o.size ≤ 8) ∧
    (∃ (s : State) (port : Nat) (pkt : Pkt) (w : Nat) (o : Op) (i : Nat) (it : Item) (x d : Nat), Comes s port 0x0C pkt ∧ s.ctxOf (hFlow pkt.hdr) = some w ∧ (s.src w).dst = hSrc pkt.hdr ∧ (s.src w).state = .opened ∧ (s.src w).item.isSome = true ∧ ((s.src w).ops.find? (fun y => decide (y.fsn = hFsn pkt.hdr)) = some o) ∧ Quiet s ∧ (s.src w).item = some i ∧ s.item i = some it ∧ it.runs = some x ∧ hStatus pkt.hdr = stOk ∧ o.kind = .call d) :=
  ⟨⟨hear ((onCtx rEid ctx0).setSrc 4 ({ srcReset with state := .opened, image := some 0, item := some 0, dst := 7, fsn := 1, pkts := 8, reqPicks := 100, rspPicks := 100, ops := [⟨0, .put, 1, 1, 8, 2000⟩] })), 3, mkPkt 5 7 9 false true false 4 0 (opM 0 8 0 0 0 0) [], 4, ⟨0, .put, 1, 1, 8, 2000⟩, by decide +kernel⟩,
   ⟨hear ((onCtx rEid ctx0).setSrc 4 ({ srcReset with state := .opened, image := some 0, item := some 0, dst := 7, fsn := 1, pkts := 8, reqPicks := 100, rspPicks := 100, ops := [⟨0, (.get 128), 1, 1, 8, 2000⟩] })), 3, mkPkt 5 7 10 false true false 4 0 (opM 0 8 0 0 0 0) (List.replicate 64 7#8), 4, ⟨0, (.get 128), 1, 1, 8, 2000⟩, 0, item (some 0), 0, 128, by decide +kernel⟩,
   ⟨hear ((onCtx rEid ctx0).setSrc 4 ({ srcReset with state := .opened, image := some 0, item := some 0, dst := 7, fsn := 1, pkts := 8, reqPicks := 100, rspPicks := 100, ops := [⟨0, (.atomic 64), 1, 1, 8, 2000⟩] })), 3, mkPkt 5 7 11 false true false 4 0 (opM 0 8 0 0 99 0) [], 4, ⟨0, (.atomic 64), 1, 1, 8, 2000⟩, 0, item (some 0), 0, 64, by decide +kernel⟩,
   ⟨hear ((onCtx rEid ctx0).setSrc 4 ({ srcReset with state := .opened, image := some 0, item := some 0, dst := 7, fsn := 1, pkts := 8, reqPicks := 100, rspPicks := 100, ops := [⟨0, (.call 64), 1, 1, 8, 2000⟩] })), 3, mkPkt 5 7 12 false true false 4 0 (doneForm (List.replicate 40 0) 0 5 0 0) [], 4, ⟨0, (.call 64), 1, 1, 8, 2000⟩, 0, item (some 0), 0, 64, by decide +kernel⟩⟩

theorem met_ResponsesEndOperations_2 :
    (∃ (s : State) (port : Nat) (pkt : Pkt) (w x d : Nat) (it : Item) (m : Image), Comes s port 0x0D pkt ∧ s.ctxOf (hFlow pkt.hdr) = some w ∧ (s.src w).state = .opening ∧ (s.src w).item.isSome = true ∧ (s.src w).dst = hSrc pkt.hdr ∧ (s.src w).fsn = hFsn pkt.hdr ∧ hStatus pkt.hdr = stOk ∧ Quiet s ∧ s.grantWaiter w = some (x, d) ∧ d ≠ 0 ∧ s.ctxItem x = some it ∧ s.image it.image = some m ∧ (s.ctx x).pc + 4 < m.codeBytes) ∧
    (∃ (s : State) (dst flow fsn w : Nat) (o : Op), s.isSelf dst = false ∧ s.ctxOf flow = some w ∧ (s.src w).dst = dst ∧ (s.src w).state = .opened ∧ (s.src w).item.isSome = true ∧ ((s.src w).ops.find? (fun y => decide (y.fsn = fsn)) = some o) ∧ s.sw.e2eSeen.contains (flow, fsn) = false ∧ Quiet s ∧ o.kind = .put) ∧
    (∃ (s : State) (port : Nat) (pkt : Pkt) (w : Nat) (o : Op), Comes s port 9 pkt ∧ s.ctxOf (hFlow pkt.hdr) = some w ∧ (s.src w).dst = hSrc pkt.hdr ∧ (s.src w).state = .opened ∧ (s.src w).item.isSome = true ∧ ((s.src w).ops.find? (fun y => decide (y.fsn = hFsn pkt.hdr)) = some o) ∧ Quiet s ∧ hStatus pkt.hdr ≠ stOk) :=
  ⟨⟨hear ((onCtx rEid { ctx0 with wait := .grant 4 9 }).setSrc 4 ({ srcReset with state := .opening, image := some 0, item := some 0, dst := 7, fsn := 1, pkts := 8, reqPicks := 100, rspPicks := 100, ops := [] })), 3, mkPkt 5 7 0x0D false true false 4 1 (opW 4 80 90 1 0) [], 4, 0, 9, item (some 0), img, by decide +kernel⟩,
   ⟨(onCtx rEid ctx0).setSrc 4 ({ srcReset with state := .opened, image := some 0, item := some 0, dst := 7, fsn := 1, pkts := 8, reqPicks := 100, rspPicks := 100, ops := [⟨0, .put, 1, 1, 8, 2000⟩] }), 7, 4, 0, 4, ⟨0, .put, 1, 1, 8, 2000⟩, by decide +kernel⟩,
   ⟨hear ((onCtx rEid ctx0).setSrc 4 ({ srcReset with state := .opened, image := some 0, item := some 0, dst := 7, fsn := 1, pkts := 8, reqPicks := 100, rspPicks := 100, ops := [⟨0, .put, 1, 1, 8, 2000⟩] })), 3, mkPkt 5 7 9 false true false 4 0 (opM 0 8 0 stAuth 0 0) [], 4, ⟨0, .put, 1, 1, 8, 2000⟩, by decide +kernel⟩⟩

theorem met_PoolCarvesDrawsAndClears_1 :
    (∃ (s : State) (path : Path) (c : Nat) (v : Word), c < 8 ∧ s.pathOk path = true ∧ fld v 0 0 = 1 ∧ s.isOff (dSw c) = false ∧ s.fallback = false ∧ (s.pool c).held = [] ∧ (s.pool c).waits = [] ∧ sumNat (s.segPending c) ≤ 512 ∧ ((∀ k ∈ List.range 5, (s.pool c).rsv k ≤ s.rf (aCarve c k) 9 0 * bufsPerSeg k))) ∧
    (∃ (s : State) (c cls : Nat) (d : Draw) (j : Nat), ((s.pool c).waits.find? (fun y => decide (y.cls = cls)) = some d) ∧ (s.drawClass c cls ((s.pool c).waits.takeWhile (fun y => decide (y.cls ≠ cls))) = some j)) ∧
    (∃ (s : State) (path : Path) (c : Nat) (v : Word), c < 8 ∧ s.pathOk path = true ∧ fld v 31 31 = 1 ∧ s.isOff (dSw c) = false) ∧
    (∃ (s : State) (path : Path) (c : Nat) (v : Word), c < 8 ∧ s.pathOk path = true ∧ fld v 0 0 = 1 ∧ s.isOff (dSw c) = false) :=
  ⟨⟨(rFw.toDepth (dSw 0) .run), .cuing, 0, 1#32, by decide +kernel⟩,
   ⟨(((r0.setRf (aCarve 0 1) 25 16 4).setPool 0 { poolReset with waits := [⟨1, .item 0⟩] }).toDepth (dSw 0) .run), 0, 1, ⟨1, .item 0⟩, 1, by decide +kernel⟩,
   ⟨(rFw.toDepth (dSw 0) .run), .cuing, 0, 0x80000000#32, by decide +kernel⟩,
   ⟨(rFw.toDepth (dSw 0) .run), .cuing, 0, 1#32, by decide +kernel⟩⟩

theorem met_PoolCarvesDrawsAndClears_2 :
    (∃ (s : State) (path : Path) (c : Nat) (v : Word), c < 8 ∧ s.pathOk path = true ∧ fld v 0 0 = 1 ∧ s.isOff (dSw c) = false ∧ (s.fallback = true ∨ (s.pool c).held ≠ [] ∨ (s.pool c).waits ≠ [])) ∧
    (∃ (s : State) (path : Path) (c : Nat) (v : Word), c < 8 ∧ s.pathOk path = true ∧ fld v 0 0 = 1 ∧ s.isOff (dSw c) = false ∧ s.fallback = false ∧ (s.pool c).held = [] ∧ (s.pool c).waits = [] ∧ 512 < sumNat (s.segPending c)) :=
  ⟨⟨(rFw.toDepth (dSw 0) .run).setPool 0 { poolReset with held := [⟨0, 0, false, .item 0⟩] }, .cuing, 0, 1#32, by decide +kernel⟩,
   ⟨(rFw.toDepth (dSw 0) .run).setRf (aCarve 0 0) 9 0 1000, .cuing, 0, 1#32, by decide +kernel⟩⟩

theorem met_ContributionsFoldOrAreCounted :
    (∃ (s : State) (port : Nat) (pkt : Pkt) (g m : Nat), Comes s port 0x10 pkt ∧ bits (field pkt.hdr 16 2) 10 0 = g ∧ bits (field pkt.hdr 18 2) 12 0 = m ∧ s.gState g ≠ 1 ∧ s.gState g ≠ 2) ∧
    (∃ (s : State) (port : Nat) (pkt : Pkt) (g m : Nat), Comes s port 0x10 pkt ∧ bits (field pkt.hdr 16 2) 10 0 = g ∧ bits (field pkt.hdr 18 2) 12 0 = m ∧ s.gState g = 2) ∧
    (∃ (s : State) (port : Nat) (pkt : Pkt) (g m : Nat), Comes s port 0x10 pkt ∧ bits (field pkt.hdr 16 2) 10 0 = g ∧ bits (field pkt.hdr 18 2) 12 0 = m ∧ s.gState g = 1 ∧ (s.gMembers g ≤ m ∨ s.mEid g m ≠ hSrc pkt.hdr)) ∧
    (∃ (s : State) (port : Nat) (pkt : Pkt) (g m k ofs n e : Nat) (y : Slot), Comes s port 0x10 pkt ∧ bits (field pkt.hdr 16 2) 10 0 = g ∧ bits (field pkt.hdr 18 2) 12 0 = m ∧ s.gState g = 1 ∧ m < s.gMembers g ∧ s.mEid g m = hSrc pkt.hdr ∧ field pkt.hdr 20 4 = k ∧ field pkt.hdr 24 4 = ofs ∧ field pkt.hdr 32 2 = n ∧ (s.group g).oldest = e ∧ byteAt pkt.hdr 29 = e % 256 ∧ k < s.gC g ∧ s.oldestChunk g ≤ e * s.gC g + k ∧ e * s.gC g + k < s.oldestChunk g + s.gW g ∧ e ∉ (s.group g).failed ∧ (byteAt pkt.hdr 28 = (if s.mChild g m then s.partialFmt g else s.gIn g)) ∧ (ofs + n ≤ (if s.gEmpty g then 0 else s.gElems g k)) ∧ m ∈ s.contributors g k ∧ s.atDepth (dReed (s.gPlace g (e * s.gC g + k))) .run = true ∧ mxFmt (byteAt pkt.hdr 28) = none ∧ s.slot g (e * s.gC g + k) = some y ∧ (tabGet (fun _ => 0) y.counts m + (if s.gEmpty g then 1 else n) ≤ (if s.gEmpty g then 1 else s.gElems g k)) ∧ s.gKind g ≠ 5 ∧ s.chunkDone g k (s.fold g m ofs n (byteAt pkt.hdr 28) pkt.data y) = false) :=
  ⟨⟨hear (rEid), 3, mkPkt 5 8 0x10 false false false 0 0 (opC 0 0 0 0 0x14 0 0 0) [], 0, 0, by decide +kernel⟩,
   ⟨hear (grp 0x50F00100#32), 3, mkPkt 5 8 0x10 false false false 0 0 (opC 0 0 0 0 0x14 0 0 0) [], 0, 0, by decide +kernel⟩,
   ⟨hear (grp 0x30F00100#32), 3, mkPkt 5 7 0x10 false false false 0 0 (opC 0 0 0 0 0x14 0 0 0) [], 0, 0, by decide +kernel⟩,
   ⟨hear (((grp 0x30F00100#32).toDepth (dReed 0) .run).setGroup 0 { groupReset with slots := [slot0] }), 3, mkPkt 5 8 0x10 false false false 0 0 (opC 0 0 0 0 0x14 0 0 0) [], 0, 0, 0, 0, 0, 0, slot0, by decide +kernel⟩⟩

theorem met_ResultsWavesGatesAndTimeouts_1 :
    (∃ (s : State) (port : Nat) (pkt : Pkt) (x r : Nat) (j : Join) (k n : Nat), Comes s port 0x18 pkt ∧ s.nodeOf pkt.hdr = none ∧ s.joinsOf pkt.hdr = [(x, r)] ∧ s.join x r = some j ∧ j.status = none ∧ j.isGate = false ∧ field pkt.hdr 20 4 = k ∧ field pkt.hdr 32 2 = n ∧ n ≠ 0 ∧ j.recvOfs ≠ 0xFFFFFFFF ∧ j.bytes j.outFmt n ≤ pkt.data.length) ∧
    (∃ (s : State) (port : Nat) (pkt : Pkt) (x r : Nat) (j : Join), Comes s port 0x19 pkt ∧ s.nodeOf pkt.hdr = none ∧ s.joinsOf pkt.hdr = [(x, r)] ∧ s.join x r = some j ∧ j.status = none ∧ j.isGate = false) ∧
    (∃ (s : State) (g chunk w : Nat) (y : Slot) (m : Nat) (p : Pkt), s.slot g chunk = some y ∧ y.result = some [] ∧ w ∈ y.waves ∧ 0 < y.copies ∧ s.planOf g = [(true, w, m)] ∧ s.resultPackets g chunk (s.mEid g m) m false [] = [p] ∧ s.selfEid ≠ 0xFFFF) ∧
    (∃ (s : State) (g gc : Nat) (y : Slot), g < 2048 ∧ s.slot g gc = some y ∧ y.result = none ∧ s.gTimeout g ≠ 0 ∧ s.gKind g ≠ 5 ∧ 0 < s.gC g ∧ gc / s.gC g ∉ (s.group g).failed ∧ (s.group g).oldest ≤ gc / s.gC g) :=
  ⟨⟨hear (onCtx rEid { ctx0 with joins := [(1, some { group := 0, member := 0, epoch := 0, eid := 8, desc := (leBytes 1 0x14 ++ leBytes 1 0x14 ++ leBytes 1 1 ++ leBytes 1 0 ++ leBytes 4 0 ++ leBytes 4 0 ++ leBytes 4 0 ++ leBytes 4 4 ++ leBytes 4 4 ++ leBytes 4 0 ++ leBytes 4 256 ++ leBytes 24 0), sent := 0, got := [], done := 0, status := none })], wait := .no }), 3, mkPkt 5 8 0x18 false false false 0 0 (opC 0 0 0 0 0x14 0 0 4) (List.replicate 16 9#8), 0, 1, { group := 0, member := 0, epoch := 0, eid := 8, desc := (leBytes 1 0x14 ++ leBytes 1 0x14 ++ leBytes 1 1 ++ leBytes 1 0 ++ leBytes 4 0 ++ leBytes 4 0 ++ leBytes 4 0 ++ leBytes 4 4 ++ leBytes 4 4 ++ leBytes 4 0 ++ leBytes 4 256 ++ leBytes 24 0), sent := 0, got := [], done := 0, status := none }, 0, 4, by decide +kernel⟩,
   ⟨hear (onCtx rEid { ctx0 with joins := [(1, some { group := 0, member := 0, epoch := 0, eid := 8, desc := (leBytes 1 0x14 ++ leBytes 1 0x14 ++ leBytes 1 1 ++ leBytes 1 0 ++ leBytes 4 0 ++ leBytes 4 0 ++ leBytes 4 0 ++ leBytes 4 4 ++ leBytes 4 4 ++ leBytes 4 0 ++ leBytes 4 256 ++ leBytes 24 0), sent := 0, got := [], done := 0, status := none })], wait := .no }), 3, mkPkt 5 8 0x19 false false false 0 0 (opC 0 0 0 0 0x14 0 stMemberLost 0) ([]), 0, 1, { group := 0, member := 0, epoch := 0, eid := 8, desc := (leBytes 1 0x14 ++ leBytes 1 0x14 ++ leBytes 1 1 ++ leBytes 1 0 ++ leBytes 4 0 ++ leBytes 4 0 ++ leBytes 4 0 ++ leBytes 4 4 ++ leBytes 4 4 ++ leBytes 4 0 ++ leBytes 4 256 ++ leBytes 24 0), sent := 0, got := [], done := 0, status := none }, by decide +kernel⟩,
   ⟨(sets (grp 0x30F00100#32) [(aPlan 0, 0xC1000001#32), (aGroup 0 6, 1#32)]).setGroup 0 { groupReset with slots := [{ slot0 with result := some [], waves := [1], copies := 1 }] }, 0, 0, 1, { slot0 with result := some [], waves := [1], copies := 1 }, 1, mkPkt 9 5 0x18 false false false 0 0 (opC 0 1 0 0 0x14 0 0 0) [], by decide +kernel⟩,
   ⟨(grp 0x30F00100#32).setGroup 0 { groupReset with slots := [slot0] }, 0, 0, slot0, by decide +kernel⟩⟩

theorem met_ResultsWavesGatesAndTimeouts_2 :
    (∃ (s : State) (g e m : Nat) (r : List (Nat × Nat)), s.gKind g = 5 ∧ s.gState g = 1 ∧ (s.group g).queue = (e, m) :: r ∧ (((s.group g).grants.filter (fun n => decide (s.aon < n + s.gatePeriod g * 96))).length < s.gateBurst g) ∧ ((((s.group g).granted ++ [(e, m)]).filter (fun y => y.1 = e)).length ≠ s.gMembers g) ∧ s.selfEid ≠ 0xFFFF) ∧
    (∃ (s : State) (g e : Nat), g < 2048 ∧ s.gKind g = 5 ∧ s.gState g = 1 ∧ s.gTimeout g ≠ 0 ∧ (s.slot g e).isSome = true ∧ e ∉ (s.group g).failed ∧ (s.group g).oldest ≤ e) ∧
    (∃ (s : State) (port : Nat) (pkt : Pkt) (x r : Nat) (j : Join) (d : Nat) (it : Item) (m : Image), Comes s port 0x18 pkt ∧ s.nodeOf pkt.hdr = none ∧ s.joinsOf pkt.hdr = [(x, r)] ∧ s.join x r = some j ∧ j.status = none ∧ j.isGate = true ∧ (s.ctx x).wait = .gate r d ∧ d ≠ 0 ∧ s.ctxItem x = some it ∧ s.image it.image = some m ∧ (s.ctx x).pc + 4 < m.codeBytes) :=
  ⟨⟨(grp 0x34F00100#32).setGroup 0 { groupReset with slots := [slot0], queue := [(0, 1)] }, 0, 0, 1, [], by decide +kernel⟩,
   ⟨(grp 0x34F00100#32).setGroup 0 { groupReset with slots := [slot0], queue := [(0, 1)] }, 0, 0, by decide +kernel⟩,
   ⟨hear (onCtx rEid { ctx0 with joins := [(1, some { group := 0, member := 0, epoch := 0, eid := 8, desc := [], sent := 0, got := [], done := 0, status := none })], wait := .gate 1 9 }), 3, mkPkt 5 8 0x18 false false false 0 0 (opC 0 0 0 0 0x14 0 0 0) ([]), 0, 1, { group := 0, member := 0, epoch := 0, eid := 8, desc := [], sent := 0, got := [], done := 0, status := none }, 9, item (some 0), img, by decide +kernel⟩⟩

theorem met_GroupsAdmitReleaseAndRearm_1 :
    (∃ (s : State) (src : Src) (g ep win : Nat), s.grpReq src = some (1, g, ep) ∧ s.grpBad src = false ∧ s.grpCmd = none ∧ s.admission g false = (stOk, win)) ∧
    (∃ (s : State) (g win : Nat), s.grpCmd = some (1, g, win, none) ∧ g < 2048 ∧ s.role ≠ 1) ∧
    (∃ (s : State) (src : Src) (g ep : Nat), s.grpReq src = some (2, g, ep) ∧ s.grpBad src = false ∧ s.grpCmd = none ∧ s.fallback = false ∧ (s.gState g = 1 ∨ s.gState g = 2)) ∧
    (∃ (s : State) (g : Nat), g < 2048 ∧ s.gState g = 3 ∧ s.groupDrained g = true ∧ s.grpCmd = some (2, g, 0, none) ∧ s.role ≠ 1) :=
  ⟨⟨grp 0x10F00100#32, .reg .cuing aGrpCmd 0x20000000#32, 0, 0, 1, by decide +kernel⟩,
   ⟨{ grp 0x10F00100#32 with grpCmd := some (1, 0, 1, none) }, 0, 1, by decide +kernel⟩,
   ⟨grp 0x30F00100#32, .reg .cuing aGrpCmd 0x40000000#32, 0, 0, by decide +kernel⟩,
   ⟨{ grp 0x70F00100#32 with grpCmd := some (2, 0, 0, none) }, 0, by decide +kernel⟩⟩

theorem met_GroupsAdmitReleaseAndRearm_2 :
    (∃ (s : State) (src : Src) (g ep : Nat), s.grpReq src = some (3, g, ep) ∧ s.grpBad src = false ∧ s.grpCmd = none ∧ s.fallback = false ∧ s.gState g = 2) ∧
    (∃ (s : State) (path : Path) (v : Word), s.pathOk path = true ∧ s.plnUp = true ∧ fld v 0 0 = 1) ∧
    (∃ (s : State) (path : Path) (c : Nat) (v : Word), c < 8 ∧ s.pathOk path = true ∧ s.isOff (dReed c) = false ∧ fld v 0 0 = 1) ∧
    (∃ (s : State) (src : Src) (g ep : Nat), s.grpReq src = some (1, g, ep) ∧ s.grpBad src = false ∧ s.grpCmd = none ∧ (s.admission g false).1 ≠ stOk) :=
  ⟨⟨grp 0x50F00100#32, .reg .cuing aGrpCmd 0x60E00000#32, 0, 7, by decide +kernel⟩,
   ⟨rFw, .cuing, 1#32, by decide +kernel⟩,
   ⟨r0.toDepth (dReed 2) .run, .cuing, 2, 1#32, by decide +kernel⟩,
   ⟨grp 0x30F00100#32, .reg .cuing aGrpCmd 0x20000000#32, 0, 0, by decide +kernel⟩⟩

theorem met_GroupsAdmitReleaseAndRearm_3 :
    ∃ (s : State) (tag : Nat) (p : Prog) (b : Nat × Nat × Nat × Option Nat), Waits s tag 0x0402 p ∧ p.payload.length = 4 ∧ field p.payload 0 2 < 2048 ∧ byteAt p.payload 2 = 1 ∧ s.grpCmd = some b :=
  ⟨{ (waiting (grp 0x10F00100#32) 4 0x0402 [0#8, 0#8, 1#8, 0#8]) with grpCmd := some (1, 0, 1, none) }, 4, prog 4 0x0402 [0#8, 0#8, 1#8, 0#8], (1, 0, 1, none), by decide +kernel⟩

theorem met_TablesCommitDrainFirst_1 :
    (∃ (s : State) (src : Src), s.commitReq src 0 = true ∧ s.rf aCommitSt 0 0 = 0 ∧ s.fallback = false) ∧
    (∃ (s : State), s.rf aCommitSt 6 4 = 1 ∧ s.shadowBad = true) ∧
    (∃ (s : State), s.rf aCommitSt 6 4 = 2 ∧ s.commitDrained = true ∧ s.flows.commitTag = none ∧ s.role ≠ 1 ∧ ((∀ i ∈ s.changedRoutes, i < 16384)) ∧ ((∀ g ∈ s.changedMcast, g < 1024))) ∧
    (∃ (s : State), s.rf aCommitSt 6 4 = 2 ∧ s.flows.commitTag = none) :=
  ⟨⟨rFw, .reg .cuing aCommit 1#32, by decide +kernel⟩,
   ⟨(((rFw).setRf aCommitSt 0 0 1).setRf aCommitSt 6 4 1), by decide +kernel⟩,
   ⟨((((rFw).setRf aCommitSt 0 0 1).setRf aCommitSt 6 4 2)).setReg (aRouteSh 9 4) 0x80000000#32, by decide +kernel⟩,
   ⟨(((rFw).setRf aCommitSt 0 0 1).setRf aCommitSt 6 4 2), by decide +kernel⟩⟩

theorem met_TablesCommitDrainFirst_2 :
    (∃ (s : State) (src : Src), s.commitReq src 1 = true ∧ s.rf aCommitSt 6 4 = 2 ∧ s.flows.commitTag = none) ∧
    (∃ (s : State) (src : Src), s.commitReq src 2 = true ∧ s.rf aCommitSt 0 0 = 0 ∧ ((∀ i ∈ s.changedRoutes, i < 16384)) ∧ ((∀ g ∈ s.changedMcast, g < 1024))) ∧
    (∃ (s : State) (path : Path) (v : Word), s.pathOk path = true ∧ s.plnUp = true ∧ fld v 0 0 = 1) ∧
    (∃ (s : State) (path : Path) (v : Word), s.pathOk path = true ∧ s.plnUp = true ∧ fld v 0 0 = 1) :=
  ⟨⟨(((rFw).setRf aCommitSt 0 0 1).setRf aCommitSt 6 4 2), .reg .cuing aCommit 2#32, by decide +kernel⟩,
   ⟨(rFw).setReg (aRouteSh 9 4) 0x80000000#32, .reg .cuing aCommit 4#32, by decide +kernel⟩,
   ⟨rFw, .cuing, 1#32, by decide +kernel⟩,
   ⟨rFw, .cuing, 1#32, by decide +kernel⟩⟩

theorem met_TablesCommitDrainFirst_3 :
    (∃ (s : State) (path : Path) (v : Word), s.pathOk path = true ∧ s.plnUp = true ∧ fld v 0 0 = 1) ∧
    (∃ (s : State) (src : Src), s.commitReq src 0 = true ∧ s.rf aCommitSt 0 0 = 0 ∧ s.fallback = true) ∧
    (∃ (s : State), s.rf aCommitSt 6 4 = 1 ∧ s.shadowBad = false ∧ (s.changedRoutes ≠ [] ∨ s.changedMcast ≠ [])) ∧
    (∃ (s : State), s.rf aCommitSt 6 4 = 1 ∧ s.shadowBad = false ∧ s.changedRoutes = [] ∧ s.changedMcast = [] ∧ s.flows.commitTag = none) :=
  ⟨⟨rFw, .cuing, 1#32, by decide +kernel⟩,
   ⟨(rFw).setRf aFw 29 29 1, .reg .cuing aCommit 1#32, by decide +kernel⟩,
   ⟨((rEid.setRf aCommitSt 0 0 1).setRf aCommitSt 6 4 1).setReg (aRouteSh 5 4) 0x90000000#32, by decide +kernel⟩,
   ⟨((((rEid.setRf aCommitSt 0 0 1).setRf aCommitSt 6 4 1).setReg (aRouteSh 5 4) 0x90000000#32).setReg (aRoute 5 4) 0x90000000#32), by decide +kernel⟩⟩

theorem met_SlotsOpenAndRelease_1 :
    (∃ (s : State) (src : Src) (path : Path) (a : Nat) (v : Word) (any rem : Bool) (k n eid : Nat) (d : List Word), src = .reg path a v ∧ s.seqReq src 1 = some (any, rem, k, n, eid) ∧ any = false ∧ d = s.slotDesc n ∧ s.slotOpenTo n (descOwner d) = true ∧ s.fallback = false ∧ s.descBad d = false ∧ fld (d.getD 7 0) 22 0 ≤ s.seqAvail) ∧
    (∃ (s : State) (src : Src) (path : Path) (a : Nat) (v : Word) (any rem : Bool) (k n eid : Nat), src = .reg path a v ∧ s.seqReq src 2 = some (any, rem, k, n, eid) ∧ s.fallback = false ∧ s.slotState n = 1) ∧
    (∃ (s : State) (n : Nat), n < 32 ∧ s.slotState n = 2 ∧ ((∀ i ∈ s.shed.items, i.runs = none ∨ i.slot ≠ some n)) ∧ ((∀ e ∈ s.ctxs, ∀ k ∈ e.2.copies, k.fin = true ∨ k.kind = 0 ∨ k.slot ≠ n)) ∧ s.seq.evac = none ∧ s.seq.recalling = []) ∧
    (∃ (s : State) (path : Path) (v : Word), s.pathOk path = true ∧ s.plnUp = true ∧ fld v 0 0 = 1) :=
  ⟨⟨rSeq, .reg .cuing aSeqCmd 0x10000000#32, .cuing, aSeqCmd, 0x10000000#32, false, false, 0, 0, 0xFFFF, rSeq.slotDesc 0, by decide +kernel⟩,
   ⟨rSlot 0, .reg .cuing aSeqCmd 0x20000000#32, .cuing, aSeqCmd, 0x20000000#32, false, false, 0, 0, 0xFFFF, by decide +kernel⟩,
   ⟨(rSlot 0).setRf (aSlot 0 0) 31 29 2, 0, by decide +kernel⟩,
   ⟨rFw, .cuing, 1#32, by decide +kernel⟩⟩

theorem met_SlotsOpenAndRelease_2 :
    (∃ (s : State) (src : Src) (path : Path) (a : Nat) (v : Word) (any rem : Bool) (k n eid : Nat), src = .reg path a v ∧ s.seqReq src 1 = some (any, rem, k, n, eid) ∧ any = false ∧ s.slotOpenTo n (descOwner (s.slotDesc n)) = true ∧ s.fallback = false ∧ s.descBad (s.slotDesc n) = true) ∧
    (∃ (s : State) (tag : Nat) (p : Prog) (n : Nat) (d : List Word), Waits s tag 0x0501 p ∧ p.payload.length = 56 ∧ bit (byteAt p.payload 0) 7 = false ∧ n = byteAt p.payload 0 % 32 ∧ (d = (List.range 13).map (fun w => slotMask w ((bytesToWords 13 (p.payload.drop 4)).getD w 0))) ∧ s.slotOpenTo n (descOwner d) = true ∧ s.fallback = false ∧ s.descBad d = false ∧ fld (d.getD 7 0) 22 0 ≤ s.seqAvail ∧ s.role ≠ 1) ∧
    (∃ (s : State) (tag : Nat) (p : Prog), Waits s tag 0x0502 p ∧ p.payload.length = 1 ∧ byteAt p.payload 0 < 32 ∧ s.fallback = false ∧ s.slotState (byteAt p.payload 0) = 1 ∧ s.role ≠ 1) :=
  ⟨⟨rSeq.setReg (aSlot 0 4) 0, .reg .cuing aSeqCmd 0x10000000#32, .cuing, aSeqCmd, 0x10000000#32, false, false, 0, 0, 0xFFFF, by decide +kernel⟩,
   ⟨waiting rSeq 4 0x0501 ([0#8] ++ leBytes 3 0 ++ leBytes 4 0x00010000 ++ leBytes 4 0x00130100 ++ leBytes 4 0x00100000 ++ leBytes 4 0x00010000 ++ leBytes 4 16 ++ leBytes 32 0), 4, prog 4 0x0501 ([0#8] ++ leBytes 3 0 ++ leBytes 4 0x00010000 ++ leBytes 4 0x00130100 ++ leBytes 4 0x00100000 ++ leBytes 4 0x00010000 ++ leBytes 4 16 ++ leBytes 32 0), 0, rSeq.slotDesc 0, by decide +kernel⟩,
   ⟨waiting (rSlot 0) 4 0x0502 [0#8], 4, prog 4 0x0502 [0#8], by decide +kernel⟩⟩

theorem met_FramesMoveAndComeBack_1 :
    (∃ (s : State) (src : Src) (any rem : Bool) (k n eid : Nat), s.seqReq src 3 = some (any, rem, k, n, eid) ∧ s.fallback = false ∧ s.seq.evac = none ∧ s.stackUsed k ≤ s.availBut k + s.movable k rem ∧ k < 8) ∧
    (∃ (s : State) (e : Evac), s.seq.evac = some e ∧ e.page = none ∧ e.abort = false ∧ s.stackPages e.stack = [] ∧ s.stackUsed e.stack = 0) ∧
    (∃ (s : State) (frame : Nat) (ids : List Nat), (s.seq.readers.find? (fun y => decide (y.1 = frame)) = some (frame, ids)) ∧ ((∀ i ∈ ids, s.item i = none))) ∧
    (∃ (s : State) (src : Src) (any rem : Bool) (k n eid : Nat) (e : Evac), s.seqReq src 4 = some (any, rem, k, n, eid) ∧ s.seq.evac = some e ∧ e.page = none) :=
  ⟨⟨rSeq, .reg .cuing aSeqCmd 0x30000000#32, false, false, 0, 0, 0xFFFF, by decide +kernel⟩,
   ⟨{ rSlot (mkPte fB none) with seq := { (rSlot 0).seq with outMask := 2, evac := some ⟨1, false, 5, false, none⟩ } }, ⟨1, false, 5, false, none⟩, by decide +kernel⟩,
   ⟨{ r0 with seq := { r0.seq with frames := [(fB, .old)], readers := [(fB, [4])] } }, fB, [4], by decide +kernel⟩,
   ⟨{ rSeq with seq := { rSeq.seq with outMask := 2, evac := some ⟨1, false, 5, false, none⟩ } }, .reg .cuing aSeqCmd 0x40000000#32, false, false, 0, 0, 0xFFFF, ⟨1, false, 5, false, none⟩, by decide +kernel⟩⟩

theorem met_FramesMoveAndComeBack_2 :
    (∃ (s : State) (src : Src) (any rem : Bool) (k n eid : Nat), s.seqReq src 5 = some (any, rem, k, n, eid) ∧ s.seq.evac = none) ∧
    (∃ (s : State) (src : Src) (any rem : Bool) (k n eid lpn e j : Nat), s.seqReq src 6 = some (any, rem, k, n, eid) ∧ s.fallback = false ∧ s.slotState n = 1 ∧ ((∀ y ∈ s.seq.recalling, y.slot ≠ n)) ∧ ((s.slotPages n).find? (fun y => pteRemote y.2 && !pteLost y.2) = some (lpn, e)) ∧ s.seqAvail ≠ 0 ∧ s.writing (pteEid e) (pteFrame e) = false ∧ (((s.sources n (s.prefStack n lpn)).1 ++ (s.sources n (s.prefStack n lpn)).2).find? (fun k => s.inAlloc k && decide (0 < s.stackFree k)) = some j)) ∧
    (∃ (s : State) (n : Nat) (b : Bring) (p : PageMove) (im : Nat), s.seq.recalling = [b] ∧ b.slot = n ∧ p.slot = n ∧ ((∀ y ∈ s.slotPages n, y.1 ≠ p.lpn → pteRemote y.2 = false ∨ pteLost y.2 = true)) ∧ s.slotState n = 1 ∧ b.page = some p ∧ ((∀ m ∈ p.moves, m.done = 2)) ∧ s.libIndex 0 = some im ∧ s.seq.evac = none ∧ s.flows.ends = [] ∧ p.slot < 32 ∧ p.frame < 2 ^ 23 ∧ (s.l2Frame p.slot p.lpn).isSome = true ∧ s.role ≠ 1) ∧
    (∃ (s : State) (src : Src) (any rem : Bool) (k n eid : Nat), s.seqReq src 7 = some (any, rem, k, n, eid) ∧ s.fallback = false) :=
  ⟨⟨{ rSeq with seq := { rSeq.seq with outMask := 3 } }, .reg .cuing aSeqCmd 0x50000020#32, false, false, 1, 0, 0xFFFF, by decide +kernel⟩,
   ⟨rSlot (mkPte fA (some 9)), .reg .cuing aSeqCmd 0x60000000#32, false, false, 0, 0, 0xFFFF, 0, (mkPte fA (some 9)), 0, by decide +kernel⟩,
   ⟨rRecall, 0, { slot := 0, tag := none, page := some ⟨0, 0, 0, fB, []⟩ }, ⟨0, 0, 0, fB, []⟩, 0, ⟨by decide +kernel, by decide +kernel, by decide +kernel, recall_pages, by decide +kernel, by decide +kernel, by decide +kernel, by decide +kernel, by decide +kernel, by decide +kernel, by decide +kernel, by decide +kernel, by decide +kernel, by decide +kernel⟩⟩,
   ⟨{ rSeq.setReg aSeqArg 9#32 with seq := { rSeq.seq with frames := [(fA, .lent 9), (fB, .lent 8)] } }, .reg .cuing aSeqCmd 0x70000000#32, false, false, 0, 0, 9, by decide +kernel⟩⟩

theorem met_FramesMoveAndComeBack_3 :
    (∃ (s : State) (path : Path) (v : Word), s.pathOk path = true ∧ s.plnUp = true ∧ regionOk v = true ∧ s.regionFree = true) ∧
    (∃ (s : State) (m : Image), s.seq.reload = true ∧ s.image 0 = some m ∧ s.imgService 0 = true ∧ (slice m.bytes (field m.bytes 36 4) m.codeBytes).length = m.codeBytes ∧ m.codeBytes ≤ m.codeKib * 1024) ∧
    (∃ (s : State) (src : Src) (any rem : Bool) (k n eid : Nat), s.seqReq src 3 = some (any, rem, k, n, eid) ∧ s.fallback = false ∧ s.seq.evac = none ∧ s.availBut k + s.movable k rem < s.stackUsed k) ∧
    (∃ (s : State) (e : Evac) (f n lpn : Nat) (r : List (Nat × Nat × Nat × Bool)) (far : Bool) (k g l : Nat), s.seq.evac = some e ∧ e.page = none ∧ e.abort = false ∧ s.stackPages e.stack = (f, n, lpn, false) :: r ∧ far = (e.remote && decide (s.sl n 0 27 27 = 1)) ∧ s.evacTarget e n lpn false far = some k ∧ n < 32 ∧ (s.takeFrame k (.slot n)).1 = g ∧ g ≠ f ∧ g < 2 ^ 23 ∧ s.l2Frame n lpn = some l ∧ l ≠ g ∧ s.readersOf f = []) :=
  ⟨⟨rSeq, .cuing, 0xFF000040#32, by decide +kernel⟩,
   ⟨{ ((loaded rSeq).setRf (aImage 0 0) 28 28 1).setImage 0 (some { img with codeKib := 1, codeBytes := 4, bytes := List.replicate 64 0 }) with seq := { rSeq.seq with reload := true } }, { img with codeKib := 1, codeBytes := 4, bytes := List.replicate 64 0 }, by decide +kernel⟩,
   ⟨rSlot (mkPte fB none), .reg .cuing aSeqCmd 0x30000000#32, false, false, 0, 0, 0xFFFF, by decide +kernel⟩,
   ⟨rMove, ⟨0, false, 5, false, none⟩, fB, 0, 0, [], false, 1, ((rMove.takeFrame 1 (.slot 0)).1), fA, page_moves⟩⟩

theorem met_FramesMoveAndComeBack_4 :
    (∃ (s : State) (path : Path) (v : Word), s.pathOk path = true ∧ s.plnUp = true ∧ regionOk v = true ∧ s.regionFree = false) ∧
    (∃ (_s : State) (_path : Path) (v : Word), regionOk v = false) :=
  ⟨⟨rSlot 0, .cuing, 0xFF000040#32, by decide +kernel⟩,
   ⟨rSeq, .cuing, 0xFF000001#32, by decide +kernel⟩⟩

theorem met_LibraryServesTheSequence_1 :
    (∃ (s : State) (i : Nat) (it : Item) (x n A dst sr flow fsn : Nat) (pin : Bool), s.libItem i 3 = some (it, x) ∧ s.turn x = true ∧ NoErr s x ∧ it.slot = some n ∧ n < 32 ∧ s.slotState n = 1 ∧ it.layer < s.sl n 3 31 16 ∧ it.layer < 4096 ∧ 0 < s.bpt n ∧ s.bpt n ≤ 4096 ∧ it.arg 0 % 65536 = 1 ∧ (s.ctx x).copies = [] ∧ s.bpt n ≤ it.payload.length ∧ it.token = s.layerLen n it.layer ∧ it.token < s.sl n 4 21 0 ∧ PageHere s n it.layer it.token ∧ s.placeOf n it.layer it.token = A ∧ s.sl n 0 28 28 = 0 ∧ s.role ≠ 1 ∧ LibCaller s it x dst sr flow fsn pin) ∧
    (∃ (s : State) (i : Nat) (it : Item) (x n A dst sr flow fsn : Nat) (pin : Bool), s.libItem i 4 = some (it, x) ∧ s.turn x = true ∧ NoErr s x ∧ it.slot = some n ∧ n < 32 ∧ s.slotState n = 1 ∧ it.layer < s.sl n 3 31 16 ∧ it.layer < 4096 ∧ 0 < s.bpt n ∧ s.bpt n ≤ 4096 ∧ it.arg 0 % 65536 = 1 ∧ (s.ctx x).copies = [] ∧ it.token < s.layerLen n it.layer ∧ PageHere s n it.layer it.token ∧ s.placeOf n it.layer it.token = A ∧ LibCaller s it x dst sr flow fsn pin) ∧
    (∃ (s : State) (i : Nat) (it : Item) (x dst sr flow fsn : Nat) (pin : Bool), s.libItem i 5 = some (it, x) ∧ s.turn x = true ∧ NoErr s x ∧ it.slot = none ∧ it.token = 0 ∧ it.layer = 0 ∧ it.arg 0 % 64 = 1 ∧ s.seqAvail ≠ 0 ∧ s.lent < s.rf (aSeqRegion + 0x38) 22 0 ∧ ((∃ k ∈ List.range 8, s.inAlloc k = true ∧ 0 < s.stackFree k)) ∧ LibCaller s it x dst sr flow fsn pin) ∧
    (∃ (s : State) (i : Nat) (it : Item) (x dst sr flow fsn : Nat) (pin : Bool), s.libItem i 6 = some (it, x) ∧ s.turn x = true ∧ NoErr s x ∧ it.slot = none ∧ it.token = 0 ∧ it.layer = 0 ∧ 1 ≤ it.arg 0 ∧ it.arg 0 ≤ 1024 ∧ 4 * it.arg 0 ≤ it.payload.length ∧ ((∀ j ∈ List.range (it.arg 0), s.frameUse (field it.payload (4 * j) 4) = .lent it.src)) ∧ (it.arg 0 = 1) ∧ LibCaller s it x dst sr flow fsn pin) :=
  ⟨⟨onLib 3 (opX 0x80 1 0 64 0 0 1 0 0) (List.replicate 64 5#8) { ctxReset with bench := tabSetList memZero [] 0 (List.replicate 64 5#8) }, 0, { item (some 0) with entry := 3, form := (opX 0x80 1 0 64 0 0 1 0 0), payload := (List.replicate 64 5#8), len0 := 1 }, 0, 0, fB * 65536 + 64, 7, 5, 3, 0, true, by decide +kernel⟩,
   ⟨(onLib 4 (opX 0x80 0 0 64 0 0 1 0 0) [] ctxReset).memPut (fB * 65536) (List.replicate 64 5#8), 0, { item (some 0) with entry := 4, form := (opX 0x80 0 0 64 0 0 1 0 0), payload := [], len0 := 1 }, 0, 0, fB * 65536, 7, 5, 3, 0, true, by decide +kernel⟩,
   ⟨(onLib 5 (opX 0 0 0 64 0 0 1 0 0) [] ctxReset).setReg aLendMax 4#32, 0, { item (some 0) with entry := 5, form := (opX 0 0 0 64 0 0 1 0 0), payload := [], len0 := 1 }, 0, 7, 5, 3, 0, true, by decide +kernel⟩,
   ⟨{ onLib 6 (opX 0 0 0 64 0 0 1 0 0) (leBytes 4 fA) ctxReset with seq := { seqReset with frames := [(fA, .lent 7)] } }, 0, { item (some 0) with entry := 6, form := (opX 0 0 0 64 0 0 1 0 0), payload := (leBytes 4 fA), len0 := 1 }, 0, 7, 5, 3, 0, true, by decide +kernel⟩⟩

theorem met_LibraryServesTheSequence_2 :
    (∃ (s : State) (i : Nat) (it : Item) (x n A dst sr flow fsn : Nat) (pin : Bool), s.libItem i 0 = some (it, x) ∧ s.turn x = true ∧ NoErr s x ∧ it.slot = some n ∧ n < 32 ∧ it.layer < 4096 ∧ 0 < s.bpt n ∧ s.bpt n ≤ 4096 ∧ (s.ctx x).copies = [] ∧ attnBad s it 0 it.token 1 true = stOk ∧ bits (it.arg 1) 1 0 < 2 ∧ bits (it.arg 2) 20 0 = it.token ∧ PageHere s n it.layer it.token ∧ s.placeOf n it.layer it.token = A ∧ LibCaller s it x dst sr flow fsn pin) ∧
    (∃ (s : State) (i : Nat) (it : Item) (x dst sr flow fsn : Nat) (pin : Bool) (k : Copy), s.libItem i 1 = some (it, x) ∧ s.turn x = true ∧ NoErr s x ∧ (s.ctx x).copies = [k] ∧ k.k = 1 ∧ k.status = stOk ∧ movesDone k.moves = true ∧ field it.payload 20 4 = 1 ∧ LibCaller s it x dst sr flow fsn pin) ∧
    (∃ (s : State) (i : Nat) (it : Item) (x dst sr flow fsn : Nat) (pin : Bool) (k : Copy), s.libItem i 2 = some (it, x) ∧ s.turn x = true ∧ NoErr s x ∧ (s.ctx x).copies = [k] ∧ k.k = 1 ∧ k.status = stOk ∧ movesDone k.moves = true ∧ field it.payload 20 4 = 1 ∧ LibCaller s it x dst sr flow fsn pin) ∧
    (∃ (s : State) (i : Nat) (it : Item) (x n dst sr flow fsn : Nat) (pin : Bool), s.libItem i 3 = some (it, x) ∧ s.turn x = true ∧ NoErr s x ∧ it.slot = some n ∧ n < 32 ∧ s.slotState n = 1 ∧ it.layer < s.sl n 3 31 16 ∧ it.layer < 4096 ∧ 0 < s.bpt n ∧ s.bpt n ≤ 4096 ∧ it.arg 0 % 65536 = 1 ∧ (s.ctx x).copies = [] ∧ s.bpt n ≤ it.payload.length ∧ s.layerLen n it.layer < it.token ∧ LibCaller s it x dst sr flow fsn pin) :=
  ⟨⟨(onLib 0 (opX 0x80 0 0 64 0 0 0x13010100 0x1300 0) (List.replicate 64 0) ctxReset).memPut (fB * 65536) (List.replicate 64 5#8), 0, { item (some 0) with entry := 0, form := (opX 0x80 0 0 64 0 0 0x13010100 0x1300 0), payload := (List.replicate 64 0), len0 := 1 }, 0, 0, fB * 65536, 7, 5, 3, 0, true, by decide +kernel⟩,
   ⟨onLib 1 (opX 0x80 0 0 64 0 0 0x13010100 0x1300 0) (leBytes 16 0 ++ leBytes 4 0 ++ leBytes 4 1) { ctxReset with copies := [copyOver 1] }, 0, { item (some 0) with entry := 1, form := (opX 0x80 0 0 64 0 0 0x13010100 0x1300 0), payload := (leBytes 16 0 ++ leBytes 4 0 ++ leBytes 4 1), len0 := 1 }, 0, 7, 5, 3, 0, true, copyOver 1, by decide +kernel⟩,
   ⟨onLib 2 (opX 0x80 0 0 64 0 0 0x13010100 0x1300 0) (leBytes 16 0 ++ leBytes 4 0 ++ leBytes 4 1) { ctxReset with copies := [copyOver 1] }, 0, { item (some 0) with entry := 2, form := (opX 0x80 0 0 64 0 0 0x13010100 0x1300 0), payload := (leBytes 16 0 ++ leBytes 4 0 ++ leBytes 4 1), len0 := 1 }, 0, 7, 5, 3, 0, true, copyOver 1, by decide +kernel⟩,
   ⟨onLib 3 (opX 0x80 2 0 64 0 0 1 0 0) (List.replicate 64 5#8) ctxReset, 0, { item (some 0) with entry := 3, form := (opX 0x80 2 0 64 0 0 1 0 0), payload := (List.replicate 64 5#8), len0 := 1 }, 0, 0, 7, 5, 3, 0, true, by decide +kernel⟩⟩

theorem met_LibraryServesTheSequence_3 :
    (∃ (s : State) (i : Nat) (it : Item) (x dst sr flow fsn : Nat) (pin : Bool), s.libItem i 3 = some (it, x) ∧ s.turn x = true ∧ NoErr s x ∧ s.slotState it.slotNo ≠ 1 ∧ (s.ctx x).copies = [] ∧ LibCaller s it x dst sr flow fsn pin) ∧
    (∃ (s : State) (i : Nat) (it : Item) (x dst sr flow fsn : Nat) (pin : Bool) (k : Copy), s.libItem i 0 = some (it, x) ∧ s.turn x = true ∧ NoErr s x ∧ (s.ctx x).copies = [k] ∧ k.k = 0 ∧ k.status = stOk ∧ movesDone k.moves = true ∧ bits (it.arg 1) 1 0 < 2 ∧ LibCaller s it x dst sr flow fsn pin) ∧
    (∃ (s : State) (i : Nat) (it : Item) (x dst sr flow fsn : Nat) (pin : Bool) (k : Copy), s.libItem i 1 = some (it, x) ∧ s.turn x = true ∧ NoErr s x ∧ (s.ctx x).copies = [k] ∧ k.k = 0 ∧ k.status = stOk ∧ movesDone k.moves = true ∧ field it.payload 20 4 = 1 ∧ bits (it.arg 1) 1 0 = 2 ∧ attnHeads it = 1 ∧ attnRec s it ≤ 4096 ∧ (s.injBuffer it.cluster x (ceilDiv (attnRec s it) 64)).1 = true ∧ LibCaller s it x dst sr flow fsn pin) ∧
    (∃ (s : State) (i : Nat) (it : Item) (x dst sr flow fsn : Nat) (pin : Bool) (k : Copy), s.libItem i 2 = some (it, x) ∧ s.turn x = true ∧ NoErr s x ∧ (s.ctx x).copies = [k] ∧ k.k = 0 ∧ k.status = stOk ∧ movesDone k.moves = true ∧ field it.payload 20 4 = 1 ∧ bits (it.arg 1) 1 0 = 2 ∧ attnHeads it = 1 ∧ attnRec s it ≤ 4096 ∧ (s.injBuffer it.cluster x (ceilDiv (attnRec s it) 64)).1 = true ∧ LibCaller s it x dst sr flow fsn pin) :=
  ⟨⟨(onLib 3 (opX 0x80 1 0 64 0 0 1 0 0) (List.replicate 64 5#8) ctxReset).setRf (aSlot 0 0) 31 29 2, 0, { item (some 0) with entry := 3, form := (opX 0x80 1 0 64 0 0 1 0 0), payload := (List.replicate 64 5#8), len0 := 1 }, 0, 7, 5, 3, 0, true, by decide +kernel⟩,
   ⟨onLib 0 (opX 0x80 0 0 64 0 0 0x13010100 0x1300 0) (List.replicate 64 0) { ctxReset with copies := [copyOver 0] }, 0, { item (some 0) with entry := 0, form := (opX 0x80 0 0 64 0 0 0x13010100 0x1300 0), payload := (List.replicate 64 0), len0 := 1 }, 0, 7, 5, 3, 0, true, copyOver 0, by decide +kernel⟩,
   ⟨((onLib 1 (opX 0x80 0 0 64 0 0 0x13010100 0x1302 0) (leBytes 16 0 ++ leBytes 4 0 ++ leBytes 4 1) { ctxReset with copies := [copyOver 0] }).setRf (aCarve 0 0) 25 16 8).toDepth (dSw 0) .run, 0, { item (some 0) with entry := 1, form := (opX 0x80 0 0 64 0 0 0x13010100 0x1302 0), payload := (leBytes 16 0 ++ leBytes 4 0 ++ leBytes 4 1), len0 := 1 }, 0, 7, 5, 3, 0, true, copyOver 0, by decide +kernel⟩,
   ⟨((onLib 2 (opX 0x80 0 0 64 0 0 0x13010100 0x1302 0) (leBytes 16 0 ++ leBytes 4 0 ++ leBytes 4 1) { ctxReset with copies := [copyOver 0] }).setRf (aCarve 0 0) 25 16 8).toDepth (dSw 0) .run, 0, { item (some 0) with entry := 2, form := (opX 0x80 0 0 64 0 0 0x13010100 0x1302 0), payload := (leBytes 16 0 ++ leBytes 4 0 ++ leBytes 4 1), len0 := 1 }, 0, 7, 5, 3, 0, true, copyOver 0, by decide +kernel⟩⟩

theorem met_ImagesLoadAndUnload_1 :
    (∃ (s : State) (tag : Nat) (p : Prog) (i : Nat), Waits s tag 0x0302 p ∧ 8 ≤ p.payload.length ∧ imgService (p.payload.drop 8) = false ∧ s.fallback = false ∧ s.shed.unload = [] ∧ s.shed.load = none ∧ s.freeImage = some i ∧ imgSigned (p.payload.drop 8) = false ∧ s.polFlag 1 = false ∧ field s.fw.policy 20 4 ≤ field (p.payload.drop 8) 12 4 ∧ imgFormOk (p.payload.drop 8) = true ∧ s.isSelf (field p.payload 0 2) = true ∧ (State.imgReserve { s.hold tag with shed := { s.shed with load := some ⟨some tag, i, field p.payload 0 2, p.payload.drop 8, false⟩ } } i (field p.payload 0 2) (p.payload.drop 8) none).1 = stOk) ∧
    (∃ (s : State) (l : Load) (tag : Nat) (p : Prog), l.idx < 64 ∧ s.fw.delegates.contains 0 = false ∧ s.shed.load = some l ∧ l.copying = false ∧ imgSigned l.bytes = true ∧ l.tag = some tag ∧ (s.host.prog.find? (fun q => decide (q.tag = tag)) = some p ∧ p.origin = .host ∧ p.gone = false ∧ s.ringUp 1 = true) ∧ field s.fw.policy 20 4 ≤ field l.bytes 12 4 ∧ imgFormOk l.bytes = true ∧ s.isSelf l.eid = true ∧ (s.imgReserve l.idx l.eid l.bytes none).1 = stOk) ∧
    (∃ (s : State) (l : Load) (m : Image) (tag : Nat) (p : Prog), s.shed.load = some l ∧ l.copying = true ∧ l.idx < 64 ∧ l.tag = some tag ∧ (s.host.prog.find? (fun q => decide (q.tag = tag)) = some p ∧ p.origin = .host ∧ p.gone = false ∧ s.ringUp 1 = true) ∧ s.image l.idx = some m ∧ (m.codeBase + m.codeBytes ≤ m.dataBase ∨ (m.dataBase + m.dataKib * 1024 ≤ m.codeBase ∧ m.dataBytes ≤ m.dataKib * 1024)) ∧ (slice m.bytes (field m.bytes 36 4) m.codeBytes).length = m.codeBytes ∧ s.role ≠ 1) ∧
    (∃ (s : State) (tag : Nat) (p : Prog) (i : Nat), Waits s tag 0x0303 p ∧ p.payload.length = 1 ∧ i = byteAt p.payload 0 ∧ i < 64 ∧ s.fallback = false ∧ s.imgState i = 2 ∧ s.imgService i = false ∧ ((((s.image i).map (·.slots)).getD []).all (fun n => decide (s.slotState n ≠ 1)) = true) ∧ ((∀ y ∈ s.shed.items, y.image ≠ i ∨ y.runs ≠ none))) :=
  ⟨⟨waiting rLocal 4 0x0302 (leBytes 2 5 ++ leBytes 6 0 ++ imgBytes 0), 4, prog 4 0x0302 (leBytes 2 5 ++ leBytes 6 0 ++ imgBytes 0), 0, by decide +kernel⟩,
   ⟨{ waiting rLocal 4 0x0302 [] with fw := { fwReset with policy := leBytes 17 0 ++ leBytes 1 1 ++ leBytes 6 0 }, shed := { shedReset with load := some ⟨some 4, 0, 5, imgBytes 2, false⟩ } }, ⟨some 4, 0, 5, imgBytes 2, false⟩, 4, prog 4 0x0302 [], by decide +kernel⟩,
   ⟨{ ((waiting rLocal 4 0x0302 []).setRf (aImage 0 0) 31 29 1).setImage 0 (some { img with codeBytes := 4, bytes := imgBytes 0, queues := [] }) with shed := { (((waiting rLocal 4 0x0302 []).setRf (aImage 0 0) 31 29 1).setImage 0 (some { img with codeBytes := 4, bytes := imgBytes 0, queues := [] })).shed with load := some ⟨some 4, 0, 5, imgBytes 0, true⟩ } }, ⟨some 4, 0, 5, imgBytes 0, true⟩, { img with codeBytes := 4, bytes := imgBytes 0, queues := [] }, 4, prog 4 0x0302 [], by decide +kernel⟩,
   ⟨waiting (loaded rLocal) 4 0x0303 [0#8], 4, prog 4 0x0303 [0#8], 0, by decide +kernel⟩⟩

theorem met_ImagesLoadAndUnload_2 :
    (∃ (s : State) (i tag : Nat) (p : Prog) (m : Image), i < 64 ∧ (s.shed.unload.find? (fun u => decide (u.1 = i)) = some (i, some tag)) ∧ s.image i = some m ∧ ((∀ y ∈ s.shed.items, y.image ≠ i)) ∧ m.groups = [] ∧ (s.host.prog.find? (fun q => decide (q.tag = tag)) = some p ∧ p.origin = .host ∧ p.gone = false ∧ s.ringUp 1 = true) ∧ s.role ≠ 1) ∧
    (∃ (s : State) (tag : Nat) (p : Prog), Waits s tag 0x0302 p ∧ 8 ≤ p.payload.length ∧ imgService (p.payload.drop 8) = true) ∧
    (∃ (s : State) (tag : Nat) (p : Prog) (i : Nat), Waits s tag 0x0302 p ∧ 8 ≤ p.payload.length ∧ imgService (p.payload.drop 8) = false ∧ s.fallback = false ∧ s.shed.unload = [] ∧ s.shed.load = none ∧ s.freeImage = some i ∧ imgSigned (p.payload.drop 8) = true) :=
  ⟨⟨{ waiting (loaded rLocal) 4 0x0303 [0#8] with shed := { (loaded rLocal).shed with unload := [(0, some 4)] } }, 0, 4, prog 4 0x0303 [0#8], img, by decide +kernel⟩,
   ⟨waiting rLocal 4 0x0302 (leBytes 2 5 ++ leBytes 6 0 ++ imgBytes 1), 4, prog 4 0x0302 (leBytes 2 5 ++ leBytes 6 0 ++ imgBytes 1), by decide +kernel⟩,
   ⟨waiting rLocal 4 0x0302 (leBytes 2 5 ++ leBytes 6 0 ++ imgBytes 2), 4, prog 4 0x0302 (leBytes 2 5 ++ leBytes 6 0 ++ imgBytes 2), 0, by decide +kernel⟩⟩

theorem met_WorkItemsQueueRunAndEnd_1 :
    (∃ (s : State) (c : Nat) (it : Item) (i x : Nat) (m : Image), c < 8 ∧ AtDepth s (dShu c) .run ∧ s.rf aClk (24 + c) (24 + c) = 1 ∧ bit s.trd.dispatchHold c = false ∧ s.thm.critOn = false ∧ s.pair.swapTag = none ∧ (s.nextItem c [0, 1, 2, 3]).1 = some (it, i) ∧ it.slot = none ∧ s.ctxFree c i = some x ∧ s.image it.image = some m ∧ s.item it.id = some it) ∧
    (∃ (s : State) (c q : Nat) (it : Item), c < 8 ∧ (s.qWaiting c q).head? = some it ∧ s.fitShuttle c it = none ∧ ((∀ a ∈ s.shed.aside, a.1 ≠ c ∧ a.2.2 ≠ it.id)) ∧ (c, it.id) ∉ s.shed.claims ∧ ((∀ y ∈ s.shed.items, (c, y.id) ∈ s.shed.claims → it.id < y.id))) ∧
    (∃ (s : State) (x : Nat) (it : Item) (dst sr flow fsn : Nat) (pin : Bool), s.ctxItem x = some it ∧ CalledBy s it x dst sr flow fsn pin ∧ x < 1024) ∧
    (∃ (s : State) (src : Src) (path : Path) (q : Nat) (v : Word), src = .reg path (aQueue 0 q 1) v ∧ q < 256 ∧ s.pathOk path = true ∧ s.fallback = false ∧ s.qState q = 0 ∧ 1 ≤ fld v 11 0 ∧ fld v 11 0 ≤ 2048) :=
  ⟨⟨{ (((((loaded rFw).setRf aClk 31 24 0xFF).toDepth (dShu 0) .run).setReg (aQueue 0 0 0) 0x50100000#32).setReg (aQueue 0 0 1) 8#32) with shed := { (((((loaded rFw).setRf aClk 31 24 0xFF).toDepth (dShu 0) .run).setReg (aQueue 0 0 0) 0x50100000#32).setReg (aQueue 0 0 1) 8#32).shed with items := [item none], nextId := 1 } }, 0, item none, 0, 0, img, by decide +kernel⟩,
   ⟨{ ((loaded rFw).setImage 0 (some { img with granules := 65 })) with shed := { ((loaded rFw).setImage 0 (some { img with granules := 65 })).shed with items := [item none], nextId := 1 } }, 0, 0, item none, by decide +kernel⟩,
   ⟨onCtx rEid ctx0, 0, item (some 0), 7, 5, 3, 0, true, by decide +kernel⟩,
   ⟨rFw, .reg .cuing (aQueue 0 3 1) 8#32, .cuing, 3, 8#32, by decide +kernel⟩⟩

theorem met_WorkItemsQueueRunAndEnd_2 :
    (∃ (s : State) (path : Path) (c : Nat) (v : Word), c < 8 ∧ s.pathOk path = true ∧ fld v 0 0 = 1) ∧
    (∃ (s : State) (src : Src) (path : Path) (q : Nat) (v : Word), src = .reg path (aQueue 0 q 0) v ∧ q < 256 ∧ s.pathOk path = true ∧ s.fallback = false ∧ s.qState q = 0 ∧ fld v 31 30 = 2 ∧ fld v 27 20 ≠ 0 ∧ s.qDepth q ≠ 0 ∧ ((∀ c ∈ List.range 8, s.descRsv c + s.qDepth q ≤ 2048))) ∧
    (∃ (s : State) (src : Src) (path : Path) (q : Nat) (v : Word), src = .reg path (aQueue 0 q 0) v ∧ q < 256 ∧ s.pathOk path = true ∧ s.qState q = 1) ∧
    (∃ (s : State) (tag : Nat) (p : Prog) (q : Nat), Waits s tag 0x0304 p ∧ p.payload.length = 12 ∧ q = byteAt p.payload 0 ∧ s.fallback = false ∧ s.qState q = 0 ∧ bits (field p.payload 4 4) 31 30 = 2 ∧ bits (field p.payload 4 4) 27 20 ≠ 0 ∧ 1 ≤ bits (field p.payload 8 4) 11 0 ∧ bits (field p.payload 8 4) 11 0 ≤ 2048 ∧ ((∀ c ∈ List.range 8, s.descRsv c + bits (field p.payload 8 4) 11 0 ≤ 2048))) :=
  ⟨⟨rFw, .cuing, 2, 1#32, by decide +kernel⟩,
   ⟨rFw.setReg (aQueue 0 3 1) 8#32, .reg .cuing (aQueue 0 3 0) 0x90100000#32, .cuing, 3, 0x90100000#32, by decide +kernel⟩,
   ⟨rFw.setReg (aQueue 0 3 0) 0x40000000#32, .reg .cuing (aQueue 0 3 0) 0x90000000#32, .cuing, 3, 0x90000000#32, by decide +kernel⟩,
   ⟨waiting rFw 4 0x0304 ([3#8] ++ leBytes 3 0 ++ leBytes 4 0x90100000 ++ leBytes 4 8), 4, prog 4 0x0304 ([3#8] ++ leBytes 3 0 ++ leBytes 4 0x90100000 ++ leBytes 4 8), 3, by decide +kernel⟩⟩

theorem met_WorkItemsQueueRunAndEnd_3 :
    ∃ (s : State) (tag : Nat) (p : Prog) (q : Nat), Waits s tag 0x0304 p ∧ p.payload.length = 12 ∧ q = byteAt p.payload 0 ∧ s.qState q ≠ 0 :=
  ⟨(waiting rFw 4 0x0304 ([3#8] ++ leBytes 3 0 ++ leBytes 4 0x90100000 ++ leBytes 4 8)).setReg (aQueue 0 3 0) 0x40000000#32, 4, prog 4 0x0304 ([3#8] ++ leBytes 3 0 ++ leBytes 4 0x90100000 ++ leBytes 4 8), 3, by decide +kernel⟩

theorem met_FirmwareFaultsRestart_1 :
    (∃ (s : State) (id cause : Nat), 2 ≤ id ∧ id ≤ 8 ∧ 1 ≤ cause ∧ cause ≤ 5 ∧ (s.plinth = 0 ∨ s.plinth = 3) ∧ ((s.fw.compTimes.filter (fun t => decide (t.1 = id) && decide (s.aon < t.2 + sixtySec))).length < 2) ∧ s.onTrial id = false) ∧
    (∃ (s : State) (id : Nat), 2 ≤ id ∧ id ≤ 8 ∧ (s.plinth = 0 ∨ s.plinth = 3) ∧ ((s.fw.compTimes.filter (fun t => decide (t.1 = id) && decide (s.aon < t.2 + sixtySec))).length < 2) ∧ s.onTrial id = false) ∧
    (∃ (s : State) (cause : Nat), 1 ≤ cause ∧ cause ≤ 5 ∧ (s.plinth = 0 ∨ s.plinth = 3) ∧ ((s.fw.kernTimes.filter (fun t => decide (s.aon < t + sixtySec))).length < 2) ∧ s.onTrial 1 = false ∧ s.actState ≠ 3 ∧ s.role ≠ 1 ∧ s.fallback = false ∧ ((∀ p ∈ s.host.prog, p.server ≠ 10))) ∧
    (∃ (s : State), s.plinth = 1 ∧ s.pwr.bootStep = 9 ∧ s.fw.actStarted = false ∧ 3 ≤ s.fw.kernTimes.length) :=
  ⟨⟨rFw, 4, 3, by decide +kernel⟩,
   ⟨rFw, 4, by decide +kernel⟩,
   ⟨waiting rFw 4 0x0302 [], 3, by decide +kernel⟩,
   ⟨{ rFw.setRf aFw 31 29 3 with pwr := { rFw.pwr with bootStep := 9 }, fw := { rFw.fw with kernTimes := [0, 0, 0] } }, by decide +kernel⟩⟩

theorem met_FirmwareFaultsRestart_2 :
    (∃ (s : State) (core : Nat), core < 4 ∧ bit s.fw.haltedCores core = false ∧ (s.plinth = 0 ∨ s.plinth = 3) ∧ ((s.fw.kernTimes.filter (fun t => decide (s.aon < t + sixtySec))).length < 2) ∧ s.onTrial 1 = false ∧ s.actState ≠ 3 ∧ s.role ≠ 1 ∧ s.fallback = false ∧ ((∀ p ∈ s.host.prog, p.server ≠ 10))) ∧
    (∃ (s : State) (id : Nat), 2 ≤ id ∧ id ≤ 8 ∧ s.rf (aComp id) 31 29 = 2 ∧ (s.plinth = 0 ∨ s.plinth = 3) ∧ s.actState ≠ 5) ∧
    (∃ (s : State), s.isOff dSec = false ∧ s.fw.delegates.contains 0 = false) ∧
    (∃ (s : State), s.pwr.vinAon = true ∧ s.fw.delegates.contains 1 = false) :=
  ⟨⟨rFw, 2, by decide +kernel⟩,
   ⟨rFw.setRf (aComp 4) 31 29 2, 4, by decide +kernel⟩,
   ⟨rFw.toDepth dSec .run, by decide +kernel⟩,
   ⟨rFw, by decide +kernel⟩⟩

theorem met_FirmwareFaultsRestart_3 :
    (∃ (s : State), s.pwr.vinAon = true ∧ s.fw.delegates.contains 2 = false) ∧
    (∃ (s : State) (c : Nat), c < 8 ∧ s.isOff (dSw c) = false ∧ s.fw.delegates.contains (3 + c) = false) ∧
    (∃ (s : State) (d : Nat), s.fw.delegates.contains d = true) ∧
    (∃ (s : State) (id cause : Nat), 2 ≤ id ∧ id ≤ 8 ∧ 1 ≤ cause ∧ cause ≤ 5 ∧ (s.plinth = 0 ∨ s.plinth = 3) ∧ (2 ≤ (s.fw.compTimes.filter (fun t => decide (t.1 = id) && decide (s.aon < t.2 + sixtySec))).length) ∧ ((s.fw.kernTimes.filter (fun t => decide (s.aon < t + sixtySec))).length < 2) ∧ s.onTrial 1 = false ∧ s.actState ≠ 3 ∧ s.role ≠ 1 ∧ s.fallback = false ∧ ((∀ p ∈ s.host.prog, p.server ≠ 10))) :=
  ⟨⟨rFw, by decide +kernel⟩,
   ⟨rFw.toDepth (dSw 3) .run, 3, by decide +kernel⟩,
   ⟨{ rFw with fw := { rFw.fw with delegates := [2, 5] } }, 2, by decide +kernel⟩,
   ⟨{ rFw with fw := { rFw.fw with compTimes := [(4, 0), (4, 0)] } }, 4, 3, by decide +kernel⟩⟩

theorem met_FirmwareFaultsRestart_4 :
    (∃ (s : State) (cause : Nat), 1 ≤ cause ∧ cause ≤ 5 ∧ (s.plinth = 0 ∨ s.plinth = 3) ∧ (2 ≤ (s.fw.kernTimes.filter (fun t => decide (s.aon < t + sixtySec))).length) ∧ s.onTrial 1 = false ∧ s.actState ≠ 3 ∧ s.role ≠ 1 ∧ s.fallback = false ∧ ((∀ p ∈ s.host.prog, p.server ≠ 10))) ∧
    (∃ (s : State) (cause : Nat) (p : Prog), 1 ≤ cause ∧ cause ≤ 5 ∧ (s.plinth = 0 ∨ s.plinth = 3) ∧ s.onTrial 1 = false ∧ s.actState ≠ 3 ∧ s.host.prog = [p] ∧ p.server = 10) ∧
    (∃ (s : State) (core : Nat), bit s.fw.haltedCores core = true) ∧
    (∃ (s : State), s.plinth = 1 ∧ s.pwr.bootStep = 9 ∧ s.fw.actStarted = false ∧ s.fw.kernTimes.length < 3 ∧ s.rf (aComp 0) 28 27 ≠ 2 ∧ s.fw.haltedCores % 16 = 0 ∧ s.actState ≠ 5 ∧ s.pair.rxItems = []) :=
  ⟨⟨{ rFw with fw := { rFw.fw with kernTimes := [0, 0] } }, 3, by decide +kernel⟩,
   ⟨waiting rFw 4 0x0602 [], 3, prog 4 0x0602 [], by decide +kernel⟩,
   ⟨{ rFw with fw := { rFw.fw with haltedCores := 4 } }, 2, by decide +kernel⟩,
   ⟨{ ((rFw.setRf aFw 31 29 3).setRf (aComp 1) 31 29 2) with pwr := { rFw.pwr with bootStep := 9 } }, by decide +kernel⟩⟩

theorem met_FirmwareUpdates_1 :
    (∃ (s : State) (tag : Nat) (p : Prog), Waits s tag 0x0801 p ∧ 16 ≤ p.payload.length ∧ field p.payload 0 4 = 0 ∧ p.payload.length - 16 ≤ field p.payload 4 4 ∧ field p.payload 4 4 ≤ 2 ^ 26 ∧ s.fallback = false ∧ s.actState = 0 ∧ s.fw.stageTag = none ∧ s.spare < s.fw.slots.length ∧ bit (byteAt p.payload 8) 0 = false) ∧
    (∃ (s : State) (tag : Nat) (p : Prog), s.fw.stageTag = some tag ∧ s.fw.delegates.contains 0 = false ∧ (s.host.prog.find? (fun q => decide (q.tag = tag)) = some p ∧ p.origin = .host ∧ p.gone = false ∧ s.ringUp 1 = true) ∧ s.spare < s.fw.slots.length) ∧
    (∃ (s : State) (src : Src) (path : Path) (v : Word), src = .reg path aActCtrl v ∧ s.pathOk path = true ∧ s.plnUp = true ∧ fld v 31 29 = 2 ∧ fld v 28 28 = 0 ∧ s.fallback = false ∧ s.actState = 1) ∧
    (∃ (s : State) (src : Src) (path : Path) (v : Word), src = .reg path aActCtrl v ∧ s.pathOk path = true ∧ s.plnUp = true ∧ fld v 31 29 = 1 ∧ fld v 28 28 = 0 ∧ s.fallback = false ∧ s.actState = 1) :=
  ⟨⟨waiting (rFw) 4 0x0801 (leBytes 4 0 ++ leBytes 4 8 ++ leBytes 8 0 ++ [1#8, 2#8]), 4, prog 4 0x0801 (leBytes 4 0 ++ leBytes 4 8 ++ leBytes 8 0 ++ [1#8, 2#8]), by decide +kernel⟩,
   ⟨{ waiting (rFw) 4 0x0801 (leBytes 4 0 ++ leBytes 4 2 ++ leBytes 8 1 ++ [1#8, 2#8]) with fw := { rFw.fw with stageTag := some 4, stage := [1#8] } }, 4, prog 4 0x0801 (leBytes 4 0 ++ leBytes 4 2 ++ leBytes 8 1 ++ [1#8, 2#8]), by decide +kernel⟩,
   ⟨rFw.setRf aAct 31 29 1, .reg .cuing aActCtrl 1073741824#32, .cuing, 1073741824#32, by decide +kernel⟩,
   ⟨rFw.setRf aAct 31 29 1, .reg .cuing aActCtrl 536870912#32, .cuing, 536870912#32, by decide +kernel⟩⟩

theorem met_FirmwareUpdates_2 :
    (∃ (s : State) (k : Nat), s.fw.actTodo = [k] ∧ 2 ≤ k ∧ k ≤ 8 ∧ s.actState = 3 ∧ s.fw.actStarted = true) ∧
    (∃ (s : State) (k : Nat) (r : List Nat), s.actState = 4 ∧ s.fw.actStarted = false ∧ s.fw.actTodo = k :: r ∧ 2 ≤ k ∧ k ≤ 8 ∧ s.deferCause k = 0) ∧
    (∃ (s : State), s.actState = 5) ∧
    (∃ (s : State) (src : Src) (path : Path) (v : Word), src = .reg path aActCtrl v ∧ s.pathOk path = true ∧ s.plnUp = true ∧ fld v 31 29 = 3 ∧ s.fallback = false ∧ 2 ≤ s.actState ∧ s.actState ≤ 5) :=
  ⟨⟨{ rFw.setRf aAct 31 29 3 with fw := { rFw.fw with actTodo := [6], actStarted := true } }, 6, by decide +kernel⟩,
   ⟨{ rFw.setRf aAct 31 29 4 with fw := { rFw.fw with actTodo := [6, 7] } }, 6, [7], by decide +kernel⟩,
   ⟨(rFw.setRf aAct 31 29 5).setRf (aComp 6) 31 29 4, by decide +kernel⟩,
   ⟨rFw.setRf aAct 31 29 5, .reg .cuing aActCtrl 1610612736#32, .cuing, 1610612736#32, by decide +kernel⟩⟩

theorem met_FirmwareUpdates_3 :
    (∃ (s : State), s.actState = 6 ∧ s.fw.actDone = [6] ∧ s.fw.actLive = true) ∧
    (∃ (s : State) (src : Src) (path : Path) (v : Word) (b : List Byte), src = .reg path aActCtrl v ∧ s.pathOk path = true ∧ s.plnUp = true ∧ fld v 31 29 = 4 ∧ s.running = some b ∧ s.fallback = false ∧ s.trd.supplyOn = false ∧ s.actState = 0 ∧ s.fw.commitOk = true) ∧
    (∃ (s : State) (tag : Nat) (p : Prog), Waits s tag 0x0805 p ∧ p.payload = [] ∧ p.fits 136 = true) ∧
    (∃ (s : State) (tag : Nat) (p : Prog), Waits s tag 0x0801 p ∧ 16 ≤ p.payload.length ∧ field p.payload 0 4 = 0 ∧ p.payload.length - 16 ≤ field p.payload 4 4 ∧ field p.payload 4 4 ≤ 2 ^ 26 ∧ s.fallback = false ∧ s.actState = 0 ∧ s.fw.stageTag = none ∧ s.spare < s.fw.slots.length ∧ bit (byteAt p.payload 8) 0 = true ∧ p.payload.length - 16 = field p.payload 4 4) :=
  ⟨⟨{ rFw.setRf aAct 31 29 6 with fw := { rFw.fw with actDone := [6], actLive := true } }, by decide +kernel⟩,
   ⟨{ rFw with fw := { rFw.fw with commitOk := true } }, .reg .cuing aActCtrl 2147483648#32, .cuing, 2147483648#32, [], by decide +kernel⟩,
   ⟨(fun s : State => { s with host := { s.host with prog := [{ prog 4 0x0805 [] with rbuf := true, capacity := 1000 }] } }) (waiting (rFw) 4 0x0805 ([])), 4, { prog 4 0x0805 [] with rbuf := true, capacity := 1000 }, by decide +kernel⟩,
   ⟨waiting (rFw) 4 0x0801 (leBytes 4 0 ++ leBytes 4 2 ++ leBytes 8 1 ++ [1#8, 2#8]), 4, prog 4 0x0801 (leBytes 4 0 ++ leBytes 4 2 ++ leBytes 8 1 ++ [1#8, 2#8]), by decide +kernel⟩⟩

theorem met_FirmwareUpdates_4 :
    (∃ (s : State) (tag : Nat) (p : Prog), Waits s tag 0x0801 p ∧ 16 ≤ p.payload.length ∧ field p.payload 0 4 = 0 ∧ p.payload.length - 16 ≤ field p.payload 4 4 ∧ field p.payload 4 4 ≤ 2 ^ 26 ∧ s.fallback = true ∧ bit (byteAt p.payload 8) 0 = false) ∧
    (∃ (s : State) (src : Src) (path : Path) (v : Word), src = .reg path aActCtrl v ∧ s.pathOk path = true ∧ s.plnUp = true ∧ fld v 31 29 = 2 ∧ fld v 28 28 = 0 ∧ (s.fallback = true ∨ s.actState ≠ 1)) ∧
    (∃ (s : State) (src : Src) (path : Path) (v : Word), src = .reg path aActCtrl v ∧ s.pathOk path = true ∧ s.plnUp = true ∧ fld v 31 29 = 1 ∧ (s.fallback = true ∨ s.actState ≠ 1)) ∧
    (∃ (s : State) (k : Nat) (r : List Nat), s.actState = 4 ∧ s.fw.actStarted = false ∧ s.fw.actTodo = k :: r ∧ k < 32 ∧ s.emergency = true) :=
  ⟨⟨waiting (rFw.setRf aFw 29 29 1) 4 0x0801 (leBytes 4 0 ++ leBytes 4 8 ++ leBytes 8 0 ++ [1#8, 2#8]), 4, prog 4 0x0801 (leBytes 4 0 ++ leBytes 4 8 ++ leBytes 8 0 ++ [1#8, 2#8]), by decide +kernel⟩,
   ⟨rFw, .reg .cuing aActCtrl 1073741824#32, .cuing, 1073741824#32, by decide +kernel⟩,
   ⟨rFw, .reg .cuing aActCtrl 536870912#32, .cuing, 536870912#32, by decide +kernel⟩,
   ⟨{ rFw.setRf aAct 31 29 4 with fw := { rFw.fw with actTodo := [6, 7] }, trd := { rFw.trd with supplyOn := true } }, 6, [7], by decide +kernel⟩⟩

theorem met_FirmwareUpdates_5 :
    (∃ (s : State) (src : Src) (path : Path) (v : Word), src = .reg path aActCtrl v ∧ s.pathOk path = true ∧ s.plnUp = true ∧ fld v 31 29 = 3 ∧ (s.fallback = true ∨ s.actState < 2 ∨ 5 < s.actState)) ∧
    (∃ (s : State) (src : Src) (path : Path) (v : Word), src = .reg path aActCtrl v ∧ s.pathOk path = true ∧ s.plnUp = true ∧ fld v 31 29 = 4 ∧ (s.fallback = true ∨ s.trd.supplyOn = true ∨ s.actState ≠ 0 ∨ s.fw.commitOk = false)) :=
  ⟨⟨rFw, .reg .cuing aActCtrl 1610612736#32, .cuing, 1610612736#32, by decide +kernel⟩,
   ⟨rFw, .reg .cuing aActCtrl 2147483648#32, .cuing, 2147483648#32, by decide +kernel⟩⟩

theorem met_SecurityLogAndIdentity_1 :
    (∃ (s : State) (tag : Nat) (p : Prog), Waits s tag 0x0806 p ∧ s.fw.delegates.contains 0 = false ∧ p.payload.length = 640 ∧ field p.payload 0 4 = 0x4C50514E ∧ byteAt p.payload 17 ≤ 4 ∧ s.fallback = false) ∧
    (∃ (s : State) (tag : Nat) (p : Prog), Waits s tag 0x0901 p) ∧
    (∃ (s : State) (_b : List Byte), s.pwr.leadSel = true ∧ s.isOff dHio = false ∧ s.isOff dSec = false ∧ s.rf aHioLink 9 9 = 1) ∧
    (∃ (s : State) (tag : Nat) (p : Prog), Waits s tag 0x0902 p ∧ s.fw.delegates.contains 0 = false ∧ p.payload = []) :=
  ⟨⟨waiting (rFw) 4 0x0806 (leBytes 4 0x4C50514E ++ leBytes 636 0), 4, prog 4 0x0806 (leBytes 4 0x4C50514E ++ leBytes 636 0), by decide +kernel⟩,
   ⟨waiting (rFw) 4 0x0901 ([0x12#8]), 4, prog 4 0x0901 ([0x12#8]), by decide +kernel⟩,
   ⟨(fun s : State => { s with pwr := { s.pwr with leadSel := true } }) (((rFw.toDepth dHio .run).toDepth dSec .run).setRf aHioLink 9 9 1), [0x12#8], by decide +kernel⟩,
   ⟨waiting (rFw) 4 0x0902 ([]), 4, prog 4 0x0902 ([]), by decide +kernel⟩⟩

theorem met_SecurityLogAndIdentity_2 :
    (∃ (s : State) (tag : Nat) (p : Prog), Waits s tag 0x0903 p ∧ s.fw.delegates.contains 0 = false ∧ p.payload.length = 256 ∧ s.fallback = false) ∧
    (∃ (s : State) (path : Path) (v : Word), s.pathOk path = true ∧ s.plnUp = true ∧ s.sealed = false ∧ fld v 0 0 = 1) ∧
    (∃ (s : State) (tag : Nat) (p : Prog), Waits s tag 0x0B01 p ∧ p.payload.length = 6 ∧ s.sealed = false ∧ field p.payload 0 4 + s.fw.log.length = s.fw.logSeq ∧ s.fw.logSeq < 2 ^ 32 ∧ s.fw.log.length ≤ field p.payload 4 2 ∧ 10 + 64 * s.fw.log.length ≤ p.room) ∧
    (∃ (s : State) (tag : Nat) (p : Prog), Waits s tag 0x0B04 p ∧ p.payload = [] ∧ s.sealed = true) :=
  ⟨⟨waiting (rFw) 4 0x0903 (leBytes 4 0x4B544244 ++ leBytes 252 1), 4, prog 4 0x0903 (leBytes 4 0x4B544244 ++ leBytes 252 1), by decide +kernel⟩,
   ⟨rFw, .cuing, 1#32, by decide +kernel⟩,
   ⟨{ waiting (rFw) 4 0x0B01 (leBytes 4 0 ++ leBytes 2 8) with fw := { rFw.fw with logSeq := 2, log := [⟨9, 1, 1, 3, 2, []⟩, ⟨8, 0, 1, 3, 2, []⟩] } }, 4, prog 4 0x0B01 (leBytes 4 0 ++ leBytes 2 8), by decide +kernel⟩,
   ⟨waiting (rFw.setRf aFw 28 28 1) 4 0x0B04 ([]), 4, prog 4 0x0B04 ([]), by decide +kernel⟩⟩

theorem met_SecurityLogAndIdentity_3 :
    (∃ (s : State) (tag : Nat) (p : Prog), Waits s tag 0x0101 p ∧ p.payload = []) ∧
    (∃ (s : State) (tag : Nat) (p : Prog) (b : List Byte), Waits s tag 0x0102 p ∧ p.payload = [] ∧ s.running = some b ∧ s.rf (aComp 0) 28 27 ≠ 2) ∧
    (∃ (s : State) (tag : Nat) (p : Prog), Waits s tag 0x0103 p ∧ p.payload.length = 2 ∧ 1 ≤ byteAt p.payload 1 ∧ byteAt p.payload 1 ≤ 80) ∧
    (∃ (s : State) (tag : Nat) (p : Prog), Waits s tag 0x0806 p ∧ s.fw.delegates.contains 0 = false ∧ p.payload.length = 640 ∧ field p.payload 0 4 = 0x4C50514E ∧ byteAt p.payload 17 ≤ 4 ∧ s.fallback = true) :=
  ⟨⟨waiting (rFw) 4 0x0101 ([]), 4, prog 4 0x0101 ([]), by decide +kernel⟩,
   ⟨waiting (rFw) 4 0x0102 ([]), 4, prog 4 0x0102 ([]), [], by decide +kernel⟩,
   ⟨waiting (rFw) 4 0x0103 ([2#8, 1#8]), 4, prog 4 0x0103 ([2#8, 1#8]), by decide +kernel⟩,
   ⟨waiting (rFw.setRf aFw 29 29 1) 4 0x0806 (leBytes 4 0x4C50514E ++ leBytes 636 0), 4, prog 4 0x0806 (leBytes 4 0x4C50514E ++ leBytes 636 0), by decide +kernel⟩⟩

theorem met_SecurityLogAndIdentity_4 :
    (∃ (s : State) (tag : Nat) (p : Prog), Waits s tag 0x0806 p ∧ s.fw.delegates.contains 0 = false ∧ p.payload.length ≠ 640) ∧
    (∃ (s : State) (tag : Nat) (p : Prog), Waits s tag 0x0903 p ∧ s.fw.delegates.contains 0 = false ∧ p.payload.length = 256 ∧ s.fallback = false ∧ s.fw.nonce = none) ∧
    (∃ (s : State) (tag : Nat) (p : Prog), Waits s tag 0x0B01 p ∧ p.payload.length = 6 ∧ s.sealed = true) ∧
    (∃ (s : State) (tag : Nat) (p : Prog) (b : List Byte), Waits s tag 0x0B04 p ∧ p.payload = [] ∧ s.sealed = false ∧ s.running = some b) :=
  ⟨⟨waiting (rFw) 4 0x0806 ([1#8]), 4, prog 4 0x0806 ([1#8]), by decide +kernel⟩,
   ⟨waiting (rFw) 4 0x0903 (leBytes 4 0x4B544244 ++ leBytes 252 1), 4, prog 4 0x0903 (leBytes 4 0x4B544244 ++ leBytes 252 1), by decide +kernel⟩,
   ⟨waiting (rFw.setRf aFw 28 28 1) 4 0x0B01 (leBytes 4 0 ++ leBytes 2 8), 4, prog 4 0x0B01 (leBytes 4 0 ++ leBytes 2 8), by decide +kernel⟩,
   ⟨waiting (rFw) 4 0x0B04 ([]), 4, prog 4 0x0B04 ([]), [], by decide +kernel⟩⟩

theorem met_HostRingsTablesAndRegisters_1 :
    (∃ (s : State) (path : Path) (v : Word), s.pathOk path = true ∧ s.plnUp = true ∧ s.pwr.leadSel = true ∧ s.rf (aRing 0 + 8) 31 31 = 1 ∧ s.ringFault 0 = false ∧ fld v 16 0 < (2 * s.ringSize 0) ∧ s.ahead 0 (fld v 16 0) (s.rf (aRing 0 + 0x10) 16 0) ≤ s.ringSize 0 ∧ s.ahead 0 (s.rf (aRing 0 + 0xC) 16 0) (s.rf (aRing 0 + 0x10) 16 0) ≤ s.ahead 0 (fld v 16 0) (s.rf (aRing 0 + 0x10) 16 0)) ∧
    (∃ (s : State) (path : Path) (v : Word), s.pathOk path = true ∧ s.plnUp = true ∧ s.pwr.leadSel = true ∧ s.rf (aRing 1 + 8) 31 31 = 1 ∧ s.ringFault 1 = false ∧ fld v 16 0 < (2 * s.ringSize 1) ∧ s.ahead 1 (fld v 16 0) (s.rf (aRing 1 + 0xC) 16 0) ≤ s.ahead 1 (s.rf (aRing 1 + 0x10) 16 0) (s.rf (aRing 1 + 0xC) 16 0)) ∧
    (∃ (s : State) (path : Path) (v : Word), s.pathOk path = true ∧ s.plnUp = true ∧ s.pwr.leadSel = true ∧ s.rf (aRing 2 + 8) 31 31 = 1 ∧ s.ringFault 2 = false ∧ fld v 16 0 < (2 * s.ringSize 2) ∧ s.ahead 2 (fld v 16 0) (s.rf (aRing 2 + 0xC) 16 0) ≤ s.ahead 2 (s.rf (aRing 2 + 0x10) 16 0) (s.rf (aRing 2 + 0xC) 16 0) ∧ s.host.evtHeld = [] ∧ s.host.evtOwed = false) ∧
    (∃ (s : State) (path : Path) (v : Word) (k : Nat), s.pathOk path = true ∧ s.plnUp = true ∧ s.pwr.leadSel = true ∧ k < 3 ∧ s.rf (aRing k + 8) 31 31 = 0 ∧ fld v 31 31 = 1 ∧ 4 ≤ fld v 4 0 ∧ fld v 4 0 ≤ 16 ∧ s.ringBaseOk k (fld v 4 0) = true) :=
  ⟨⟨(let s := { rEid with pwr := { rEid.pwr with leadSel := true }, host := { rEid.host with bme := true } }; sets (s.setRf aHioLink 9 9 1) [(aRing 0 + 8, 0x80000004#32), (aRing 1 + 8, 0x80000004#32), (aRing 2 + 8, 0x80000104#32)]), .cuing, 3#32, by decide +kernel⟩,
   ⟨(let s := { rEid with pwr := { rEid.pwr with leadSel := true }, host := { rEid.host with bme := true } }; sets (s.setRf aHioLink 9 9 1) [(aRing 0 + 8, 0x80000004#32), (aRing 1 + 8, 0x80000004#32), (aRing 2 + 8, 0x80000104#32)]).setReg (aRing 1 + 0x10) 5, .cuing, 2#32, by decide +kernel⟩,
   ⟨(let s := { rEid with pwr := { rEid.pwr with leadSel := true }, host := { rEid.host with bme := true } }; sets (s.setRf aHioLink 9 9 1) [(aRing 0 + 8, 0x80000004#32), (aRing 1 + 8, 0x80000004#32), (aRing 2 + 8, 0x80000104#32)]).setReg (aRing 2 + 0x10) 5, .cuing, 2#32, by decide +kernel⟩,
   ⟨(sets (let s := { rEid with pwr := { rEid.pwr with leadSel := true }, host := { rEid.host with bme := true } }; sets (s.setRf aHioLink 9 9 1) [(aRing 0 + 8, 0x80000004#32), (aRing 1 + 8, 0x80000004#32), (aRing 2 + 8, 0x80000104#32)]) [(aRing 1 + 8, 4#32), (aRing 1 + 0xC, 3#32)]).setRf aCuing 1 1 1, .cuing, 0x80000008#32, 1, by decide +kernel⟩⟩

theorem met_HostRingsTablesAndRegisters_2 :
    (∃ (s : State) (e b : List Byte), s.mayTake e b = true ∧ s.entStatus e true = stOk ∧ entMember e = 0 ∧ entOp e ≠ 0x0104 ∧ s.modeStatus (entOp e) = stOk ∧ subOk (entOp e) (entProg e b .host).payload = true) ∧
    (∃ (s : State) (v : Nat), s.host.msixQuiet.contains v = true ∧ s.host.msixWait.contains v = true ∧ s.mastering = true) ∧
    (∃ (s : State) (path : Path) (v : Word), s.pathOk path = true ∧ s.isOff dHio = false ∧ fld v 0 0 = 1) ∧
    (∃ (s : State) (tag : Nat) (p : Prog), Waits s tag 0x0203 p ∧ 0 < field p.payload 2 2 ∧ field p.payload 2 2 ≤ 16384 ∧ field p.payload 0 2 + field p.payload 2 2 ≤ 16384 ∧ p.payload.length = 4 + 32 * field p.payload 2 2 ∧ s.rf aCommitSt 0 0 = 0) :=
  ⟨⟨(let s := { rEid with pwr := { rEid.pwr with leadSel := true }, host := { rEid.host with bme := true } }; sets (s.setRf aHioLink 9 9 1) [(aRing 0 + 8, 0x80000004#32), (aRing 1 + 8, 0x80000004#32), (aRing 2 + 8, 0x80000104#32)]).setReg (aRing 0 + 0xC) 1, (let h : List Byte := leBytes 1 2 ++ leBytes 1 1 ++ leBytes 2 0x0101 ++ leBytes 2 7 ++ leBytes 1 0 ++ leBytes 1 0 ++ leBytes 3 ([] : List Byte).length ++ leBytes 5 0 ++ leBytes 8 0 ++ leBytes 4 0; let b := padTo 96 ([]); h ++ leBytes 4 (crc32c (h ++ b)) ++ b), [], by decide +kernel⟩,
   ⟨{ r0.setRf aHioLink 9 9 1 with host := { r0.host with msixQuiet := [1], msixWait := [1], bme := true } }, 1, by decide +kernel⟩,
   ⟨r0.toDepth dHio .run, .cuing, 1#32, by decide +kernel⟩,
   ⟨waiting (rFw) 4 0x0203 (leBytes 2 5 ++ leBytes 2 1 ++ leBytes 32 1361129467683753853853498429727072845901), 4, prog 4 0x0203 (leBytes 2 5 ++ leBytes 2 1 ++ leBytes 32 1361129467683753853853498429727072845901), by decide +kernel⟩⟩

theorem met_HostRingsTablesAndRegisters_3 :
    (∃ (s : State) (tag : Nat) (p : Prog), Waits s tag 0x0204 p ∧ 0 < field p.payload 2 2 ∧ field p.payload 2 2 ≤ 1024 ∧ field p.payload 0 2 + field p.payload 2 2 ≤ 1024 ∧ p.payload.length = 4 + 64 * field p.payload 2 2 ∧ s.rf aCommitSt 0 0 = 0) ∧
    (∃ (s : State) (tag : Nat) (p : Prog), Waits s tag 0x0301 p ∧ p.payload = [] ∧ p.fits 1536 = true) ∧
    (∃ (s : State) (tag : Nat) (p : Prog) (src : Src) (g : Nat), src = .cmd tag ∧ Waits s tag 0x0401 p ∧ field p.payload 0 2 = g ∧ g < 2048 ∧ p.payload.length = 68 ∧ bits (field p.payload 12 4) 29 16 = 0 ∧ bits (field p.payload 28 4) 13 0 = 0 ∧ s.gState g = 0) ∧
    (∃ (s : State) (tag : Nat) (p : Prog) (g : Nat), Waits s tag 0x0403 p ∧ p.payload.length = 2 ∧ field p.payload 0 2 = g ∧ g < 2048) :=
  ⟨⟨waiting (rFw) 4 0x0204 (leBytes 2 5 ++ leBytes 2 1 ++ leBytes 64 1361129467683753853853498429727072845901), 4, prog 4 0x0204 (leBytes 2 5 ++ leBytes 2 1 ++ leBytes 64 1361129467683753853853498429727072845901), by decide +kernel⟩,
   ⟨waiting (loaded rFw) 4 0x0301 ([]), 4, prog 4 0x0301 ([]), by decide +kernel⟩,
   ⟨waiting (rFw) 4 0x0401 (leBytes 4 0 ++ leBytes 64 0x0000000000000001), 4, prog 4 0x0401 (leBytes 4 0 ++ leBytes 64 0x0000000000000001), .cmd 4, 0, by decide +kernel⟩,
   ⟨waiting (rFw) 4 0x0403 (leBytes 2 3), 4, prog 4 0x0403 (leBytes 2 3), 3, by decide +kernel⟩⟩

theorem met_HostRingsTablesAndRegisters_4 :
    (∃ (s : State) (tag : Nat) (p : Prog) (n : Nat), Waits s tag 0x0504 p ∧ p.payload.length = 6 ∧ byteAt p.payload 0 = n ∧ n < 32 ∧ field p.payload 2 2 + field p.payload 4 2 ≤ 4096) ∧
    (∃ (s : State) (tag : Nat) (p : Prog) (r w : Word), Waits s tag 0x0505 p ∧ p.payload.length = 12 ∧ r = putFld (BitVec.ofNat 32 (field p.payload 0 4)) 22 16 0 ∧ w = BitVec.ofNat 32 (field p.payload 4 4) ∧ (r = s.reg aSeqRegion ∨ (regionOk r = true ∧ s.regionFree = true)) ∧ fabWinOk r w = true ∧ field p.payload 8 4 < 2 ^ 23) ∧
    (∃ (s : State) (tag : Nat) (p : Prog), Waits s tag 0x0B05 p ∧ p.payload.length = 2) ∧
    (∃ (s : State) (tag : Nat) (p : Prog), Waits s tag 0x0B02 p ∧ p.payload = [] ∧ p.fits 960 = true) :=
  ⟨⟨waiting (rFw) 4 0x0504 (leBytes 2 1 ++ leBytes 2 0 ++ leBytes 2 4), 4, prog 4 0x0504 (leBytes 2 1 ++ leBytes 2 0 ++ leBytes 2 4), 1, by decide +kernel⟩,
   ⟨waiting (rFw.setReg aSeqRegion 0xFF000040#32) 4 0x0505 (leBytes 4 0xFF000040 ++ leBytes 4 0x00100000 ++ leBytes 4 99), 4, prog 4 0x0505 (leBytes 4 0xFF000040 ++ leBytes 4 0x00100000 ++ leBytes 4 99), 0xFF000040#32, 0x00100000#32, by decide +kernel⟩,
   ⟨waiting (rFw) 4 0x0B05 (leBytes 2 0x00FF), 4, prog 4 0x0B05 (leBytes 2 0x00FF), by decide +kernel⟩,
   ⟨waiting (rFw) 4 0x0B02 ([]), 4, prog 4 0x0B02 ([]), by decide +kernel⟩⟩

theorem met_HostRingsTablesAndRegisters_5 :
    (∃ (s : State) (tag : Nat) (p : Prog), Waits s tag 0x0B03 p ∧ p.payload.length = 4 ∧ 10 ≤ field p.payload 2 2) ∧
    (∃ (s : State) (tag : Nat) (p : Prog) (a : Nat), Waits s tag 0x0201 p ∧ p.payload.length = 6 ∧ field p.payload 0 4 = a ∧ a % 4 = 0 ∧ a + 4 * field p.payload 4 2 ≤ 0x04000000 ∧ 0 < field p.payload 4 2) ∧
    (∃ (s : State) (tag : Nat) (p : Prog) (a : Nat), Waits s tag 0x0202 p ∧ p.payload.length = 12 ∧ field p.payload 0 4 = a ∧ a % 4 = 0 ∧ a < 0x04000000 ∧ field p.payload 4 2 = 1 ∧ s.pwr.vinAon = true ∧ s.role ≠ 1 ∧ s.role ≠ 2 ∧ a = aOpTimeout ∧ 100 ≤ bits (field p.payload 8 4) 15 0 ∧ bits (field p.payload 8 4) 15 0 ≤ 50000 ∧ s.plnUp = true) ∧
    (∃ (s : State) (path : Path) (a : Nat) (_v : Word), s.pathOk path = true ∧ s.plnUp = true ∧ a = aOpTimeout) :=
  ⟨⟨waiting (rFw) 4 0x0B03 (leBytes 2 9 ++ leBytes 2 100), 4, prog 4 0x0B03 (leBytes 2 9 ++ leBytes 2 100), by decide +kernel⟩,
   ⟨waiting (rFw) 4 0x0201 (leBytes 4 aPace0 ++ leBytes 2 2), 4, prog 4 0x0201 (leBytes 4 aPace0 ++ leBytes 2 2), aPace0, by decide +kernel⟩,
   ⟨waiting (rFw) 4 0x0202 (leBytes 4 aOpTimeout ++ leBytes 2 1 ++ leBytes 2 0 ++ leBytes 4 500), 4, prog 4 0x0202 (leBytes 4 aOpTimeout ++ leBytes 2 1 ++ leBytes 2 0 ++ leBytes 4 500), aOpTimeout, by decide +kernel⟩,
   ⟨rFw, .cuing, aOpTimeout, 500#32, by decide +kernel⟩⟩

theorem met_HostRingsTablesAndRegisters_6 :
    (∃ (s : State) (path : Path) (v : Word), s.pathOk path = true ∧ s.plnUp = true ∧ s.pwr.leadSel = true ∧ s.rf (aRing 0 + 8) 31 31 = 1 ∧ s.ringFault 0 = false ∧ s.mastering = true ∧ ((2 * s.ringSize 0) ≤ fld v 16 0 ∨ s.ringSize 0 < s.ahead 0 (fld v 16 0) (s.rf (aRing 0 + 0x10) 16 0) ∨ s.ahead 0 (fld v 16 0) (s.rf (aRing 0 + 0x10) 16 0) < s.ahead 0 (s.rf (aRing 0 + 0xC) 16 0) (s.rf (aRing 0 + 0x10) 16 0))) ∧
    (∃ (s : State) (path : Path) (v : Word), s.pathOk path = true ∧ s.plnUp = true ∧ s.pwr.leadSel = true ∧ s.rf (aRing 1 + 8) 31 31 = 1 ∧ s.ringFault 1 = false ∧ s.mastering = true ∧ ((2 * s.ringSize 1) ≤ fld v 16 0 ∨ s.ahead 1 (s.rf (aRing 1 + 0x10) 16 0) (s.rf (aRing 1 + 0xC) 16 0) < s.ahead 1 (fld v 16 0) (s.rf (aRing 1 + 0xC) 16 0))) ∧
    (∃ (s : State) (path : Path) (v : Word) (e : HostEntry) (r : List HostEntry), s.pathOk path = true ∧ s.plnUp = true ∧ s.pwr.leadSel = true ∧ s.rf (aRing 2 + 8) 31 31 = 1 ∧ s.ringFault 2 = false ∧ fld v 16 0 < (2 * s.ringSize 2) ∧ s.ahead 2 (fld v 16 0) (s.rf (aRing 2 + 0xC) 16 0) ≤ s.ahead 2 (s.rf (aRing 2 + 0x10) 16 0) (s.rf (aRing 2 + 0xC) 16 0) ∧ s.host.evtHeld = e :: r ∧ s.host.evtOwed = false ∧ s.ringUp 2 = true ∧ 0 < s.ahead 2 (fld v 16 0) (s.rf (aRing 2 + 0xC) 16 0) ∧ s.ringUsed 2 ≤ s.ringSize 2) ∧
    (∃ (s : State) (path : Path) (v : Word), s.pathOk path = true ∧ s.plnUp = true ∧ s.pwr.leadSel = true ∧ s.rf (aRing 2 + 8) 31 31 = 1 ∧ s.ringFault 2 = false ∧ fld v 16 0 < (2 * s.ringSize 2) ∧ s.ahead 2 (fld v 16 0) (s.rf (aRing 2 + 0xC) 16 0) ≤ s.ahead 2 (s.rf (aRing 2 + 0x10) 16 0) (s.rf (aRing 2 + 0xC) 16 0) ∧ s.host.evtOwed = true ∧ s.ringUp 2 = true ∧ 0 < s.ahead 2 (fld v 16 0) (s.rf (aRing 2 + 0xC) 16 0) ∧ s.ringUsed 2 ≤ s.ringSize 2) :=
  ⟨⟨(let s := { rEid with pwr := { rEid.pwr with leadSel := true }, host := { rEid.host with bme := true } }; sets (s.setRf aHioLink 9 9 1) [(aRing 0 + 8, 0x80000004#32), (aRing 1 + 8, 0x80000004#32), (aRing 2 + 8, 0x80000104#32)]), .cuing, 17#32, by decide +kernel⟩,
   ⟨(let s := { rEid with pwr := { rEid.pwr with leadSel := true }, host := { rEid.host with bme := true } }; sets (s.setRf aHioLink 9 9 1) [(aRing 0 + 8, 0x80000004#32), (aRing 1 + 8, 0x80000004#32), (aRing 2 + 8, 0x80000104#32)]), .cuing, 6#32, by decide +kernel⟩,
   ⟨(fun s : State => { s with host := { s.host with evtHeld := [{ ring := 2, idx := 0, minor := 1, opcode := 0x0180, tag := 0xFFFF, member := 0, flags := 0, status := 0, dataAddr := 0, capacity := 0, payload := [] }] } }) ((let s := { rEid with pwr := { rEid.pwr with leadSel := true }, host := { rEid.host with bme := true } }; sets (s.setRf aHioLink 9 9 1) [(aRing 0 + 8, 0x80000004#32), (aRing 1 + 8, 0x80000004#32), (aRing 2 + 8, 0x80000104#32)]).setReg (aRing 2 + 0x10) 16), .cuing, 2#32, { ring := 2, idx := 0, minor := 1, opcode := 0x0180, tag := 0xFFFF, member := 0, flags := 0, status := 0, dataAddr := 0, capacity := 0, payload := [] }, [], by decide +kernel⟩,
   ⟨(fun s : State => { s with host := { s.host with evtOwed := true, evtHeld := [{ ring := 2, idx := 0, minor := 1, opcode := 0x0180, tag := 0xFFFF, member := 0, flags := 0, status := 0, dataAddr := 0, capacity := 0, payload := [] }] } }) ((let s := { rEid with pwr := { rEid.pwr with leadSel := true }, host := { rEid.host with bme := true } }; sets (s.setRf aHioLink 9 9 1) [(aRing 0 + 8, 0x80000004#32), (aRing 1 + 8, 0x80000004#32), (aRing 2 + 8, 0x80000104#32)]).setReg (aRing 2 + 0x10) 16), .cuing, 2#32, by decide +kernel⟩⟩

theorem met_HostRingsTablesAndRegisters_7 :
    (∃ (s : State) (path : Path) (v : Word) (k : Nat), s.pathOk path = true ∧ s.plnUp = true ∧ s.pwr.leadSel = true ∧ k < 3 ∧ s.rf (aRing k + 8) 31 31 = 0 ∧ fld v 31 31 = 1 ∧ s.mastering = true ∧ (fld v 4 0 < 4 ∨ 16 < fld v 4 0)) ∧
    (∃ (s : State) (_path : Path) (v : Word) (k : Nat), s.rf (aRing k + 8) 31 31 = 1 ∧ fld v 31 31 = 1 ∧ fld v 4 0 ≠ s.rf (aRing k + 8) 4 0) ∧
    (∃ (s : State) (e b : List Byte), s.mayTake e b = true ∧ s.entStatus e true ≠ stOk) ∧
    (∃ (s : State) (e b : List Byte), s.mayTake e b = true ∧ s.entStatus e true = stOk ∧ entMember e ≠ 0 ∧ entOp e ≠ 0x0104 ∧ entScatter e = false ∧ s.fallback = false ∧ s.rtGone (s.member (entMember e)).eid = false ∧ s.selfEid ≠ 0xFFFF) :=
  ⟨⟨sets (let s := { rEid with pwr := { rEid.pwr with leadSel := true }, host := { rEid.host with bme := true } }; sets (s.setRf aHioLink 9 9 1) [(aRing 0 + 8, 0x80000004#32), (aRing 1 + 8, 0x80000004#32), (aRing 2 + 8, 0x80000104#32)]) [(aRing 1 + 8, 4#32)], .cuing, 0x80000003#32, 1, by decide +kernel⟩,
   ⟨(let s := { rEid with pwr := { rEid.pwr with leadSel := true }, host := { rEid.host with bme := true } }; sets (s.setRf aHioLink 9 9 1) [(aRing 0 + 8, 0x80000004#32), (aRing 1 + 8, 0x80000004#32), (aRing 2 + 8, 0x80000104#32)]), .cuing, 0x80000008#32, 1, by decide +kernel⟩,
   ⟨(let s := { rEid with pwr := { rEid.pwr with leadSel := true }, host := { rEid.host with bme := true } }; sets (s.setRf aHioLink 9 9 1) [(aRing 0 + 8, 0x80000004#32), (aRing 1 + 8, 0x80000004#32), (aRing 2 + 8, 0x80000104#32)]).setReg (aRing 0 + 0xC) 1, List.replicate 128 0#8, [], by decide +kernel⟩,
   ⟨(((let s := { rEid with pwr := { rEid.pwr with leadSel := true }, host := { rEid.host with bme := true } }; sets (s.setRf aHioLink 9 9 1) [(aRing 0 + 8, 0x80000004#32), (aRing 1 + 8, 0x80000004#32), (aRing 2 + 8, 0x80000104#32)]).setReg (aRing 0 + 0xC) 1).setMember 3 { bound := true, serial := 5, eid := 9, lost := false, credit := 16 }).setReg (aRoute 9 4) 0x80000000#32, (let h : List Byte := leBytes 1 2 ++ leBytes 1 1 ++ leBytes 2 0x0102 ++ leBytes 2 7 ++ leBytes 1 3 ++ leBytes 1 0 ++ leBytes 3 ([] : List Byte).length ++ leBytes 5 0 ++ leBytes 8 0 ++ leBytes 4 0; let b := padTo 96 ([]); h ++ leBytes 4 (crc32c (h ++ b)) ++ b), [], by decide +kernel⟩⟩

theorem met_HostRingsTablesAndRegisters_8 :
    (∃ (s : State) (v : Nat), s.host.msixQuiet.contains v = true ∧ s.host.msixWait.contains v = false) ∧
    (∃ (s : State) (tag : Nat) (p : Prog), Waits s tag 0x0203 p ∧ 0 < field p.payload 2 2 ∧ field p.payload 2 2 ≤ 16384 ∧ field p.payload 0 2 + field p.payload 2 2 ≤ 16384 ∧ p.payload.length = 4 + 32 * field p.payload 2 2 ∧ s.rf aCommitSt 0 0 = 1) ∧
    (∃ (s : State) (tag : Nat) (p : Prog), Waits s tag 0x0204 p ∧ 0 < field p.payload 2 2 ∧ field p.payload 2 2 ≤ 1024 ∧ field p.payload 0 2 + field p.payload 2 2 ≤ 1024 ∧ p.payload.length = 4 + 64 * field p.payload 2 2 ∧ s.rf aCommitSt 0 0 = 1) ∧
    (∃ (s : State) (tag : Nat) (p : Prog) (src : Src) (g : Nat), src = .cmd tag ∧ Waits s tag 0x0401 p ∧ field p.payload 0 2 = g ∧ g < 2048 ∧ p.payload.length = 68 ∧ bits (field p.payload 12 4) 29 16 = 0 ∧ bits (field p.payload 28 4) 13 0 = 0 ∧ s.gState g ≠ 0) :=
  ⟨⟨{ r0 with host := { r0.host with msixQuiet := [1] } }, 1, by decide +kernel⟩,
   ⟨waiting (rFw.setRf aCommitSt 0 0 1) 4 0x0203 (leBytes 2 5 ++ leBytes 2 1 ++ leBytes 32 1361129467683753853853498429727072845901), 4, prog 4 0x0203 (leBytes 2 5 ++ leBytes 2 1 ++ leBytes 32 1361129467683753853853498429727072845901), by decide +kernel⟩,
   ⟨waiting (rFw.setRf aCommitSt 0 0 1) 4 0x0204 (leBytes 2 5 ++ leBytes 2 1 ++ leBytes 64 1361129467683753853853498429727072845901), 4, prog 4 0x0204 (leBytes 2 5 ++ leBytes 2 1 ++ leBytes 64 1361129467683753853853498429727072845901), by decide +kernel⟩,
   ⟨waiting (grp 0x30F00100#32) 4 0x0401 (leBytes 4 0 ++ leBytes 64 0x0000000000000001), 4, prog 4 0x0401 (leBytes 4 0 ++ leBytes 64 0x0000000000000001), .cmd 4, 0, by decide +kernel⟩⟩

theorem met_HostRingsTablesAndRegisters_9 :
    (∃ (s : State) (src : Src) (path : Path) (a : Nat) (v : Word), src = .reg path a v ∧ s.pathOk path = true ∧ s.plnUp = true ∧ 0x02200000 ≤ a ∧ a < 0x02420000) ∧
    (∃ (s : State) (tag : Nat) (p : Prog) (r w : Word), Waits s tag 0x0505 p ∧ p.payload.length = 12 ∧ r = putFld (BitVec.ofNat 32 (field p.payload 0 4)) 22 16 0 ∧ w = BitVec.ofNat 32 (field p.payload 4 4) ∧ ((r ≠ s.reg aSeqRegion ∧ (regionOk r = false ∨ s.regionFree = false)) ∨ fabWinOk r w = false)) ∧
    (∃ (s : State) (tag : Nat) (p : Prog), Waits s tag 0x0B03 p ∧ p.payload.length = 4 ∧ field p.payload 2 2 < 10) ∧
    (∃ (s : State) (tag : Nat) (p : Prog) (a : Nat), Waits s tag 0x0201 p ∧ p.payload.length = 6 ∧ field p.payload 0 4 = a ∧ a % 4 = 0 ∧ a + 4 * field p.payload 4 2 ≤ 0x04000000 ∧ 0 < field p.payload 4 2 ∧ field p.payload 4 2 = 1 ∧ s.pwr.vinAon = true ∧ assigned a = true ∧ s.isOff (heldIn a) = false ∧ (tabGet (fun _ => none) s.cnt.latch a = none)) :=
  ⟨⟨rFw, .reg .cuing 0x02200004 7#32, .cuing, 0x02200004, 7#32, by decide +kernel⟩,
   ⟨waiting (rFw.setReg aSeqRegion 0xFF000040#32) 4 0x0505 (leBytes 4 0xFF000040 ++ leBytes 4 0xFFFF0000 ++ leBytes 4 99), 4, prog 4 0x0505 (leBytes 4 0xFF000040 ++ leBytes 4 0xFFFF0000 ++ leBytes 4 99), 0xFF000040#32, 0xFFFF0000#32, by decide +kernel⟩,
   ⟨waiting (rFw) 4 0x0B03 (leBytes 2 9 ++ leBytes 2 9), 4, prog 4 0x0B03 (leBytes 2 9 ++ leBytes 2 9), by decide +kernel⟩,
   ⟨waiting (rFw) 4 0x0201 (leBytes 4 aOpTimeout ++ leBytes 2 1), 4, prog 4 0x0201 (leBytes 4 aOpTimeout ++ leBytes 2 1), aOpTimeout, by decide +kernel⟩⟩

theorem met_HostRingsTablesAndRegisters_10 :
    (∃ (s : State) (tag : Nat) (p : Prog) (a : Nat), Waits s tag 0x0201 p ∧ p.payload.length = 6 ∧ field p.payload 0 4 = a ∧ a % 4 = 0 ∧ a + 4 * field p.payload 4 2 ≤ 0x04000000 ∧ 0 < field p.payload 4 2 ∧ field p.payload 4 2 = 1 ∧ (assigned a = false ∨ s.isOff (heldIn a) = true)) ∧
    (∃ (s : State) (tag : Nat) (p : Prog) (a : Nat), Waits s tag 0x0202 p ∧ p.payload.length = 12 ∧ field p.payload 0 4 = a ∧ a % 4 = 0 ∧ a < 0x04000000 ∧ field p.payload 4 2 = 1 ∧ s.pwr.vinAon = true ∧ s.role ≠ 2 ∧ a = aOpTimeout ∧ bits (field p.payload 8 4) 15 0 < 100 ∧ s.plnUp = true) ∧
    (∃ (s : State) (tag : Nat) (p : Prog) (a : Nat), Waits s tag 0x0202 p ∧ p.payload.length = 12 ∧ field p.payload 0 4 = a ∧ a % 4 = 0 ∧ a < 0x04000000 ∧ field p.payload 4 2 = 1 ∧ s.pwr.vinAon = true ∧ s.role = 2 ∧ mirroredBlock a = true) ∧
    (∃ (s : State) (tag : Nat) (p : Prog) (a : Nat), Waits s tag 0x0202 p ∧ p.payload.length = 12 ∧ field p.payload 0 4 = a ∧ a % 4 = 0 ∧ a < 0x04000000 ∧ field p.payload 4 2 = 1 ∧ s.pwr.vinAon = true ∧ (s.role ≠ 2 ∨ mirroredBlock a = false) ∧ guarded a = true) :=
  ⟨⟨waiting (rFw) 4 0x0201 (leBytes 4 0x00300200 ++ leBytes 2 1), 4, prog 4 0x0201 (leBytes 4 0x00300200 ++ leBytes 2 1), 0x00300200, by decide +kernel⟩,
   ⟨waiting (rFw) 4 0x0202 (leBytes 4 aOpTimeout ++ leBytes 2 1 ++ leBytes 2 0 ++ leBytes 4 99), 4, prog 4 0x0202 (leBytes 4 aOpTimeout ++ leBytes 2 1 ++ leBytes 2 0 ++ leBytes 4 99), aOpTimeout, by decide +kernel⟩,
   ⟨waiting (rFw.setRf aDvt 31 29 2) 4 0x0202 (leBytes 4 aOpTimeout ++ leBytes 2 1 ++ leBytes 2 0 ++ leBytes 4 5), 4, prog 4 0x0202 (leBytes 4 aOpTimeout ++ leBytes 2 1 ++ leBytes 2 0 ++ leBytes 4 5), aOpTimeout, by decide +kernel⟩,
   ⟨waiting (rFw) 4 0x0202 (leBytes 4 aCapRack ++ leBytes 2 1 ++ leBytes 2 0 ++ leBytes 4 5), 4, prog 4 0x0202 (leBytes 4 aCapRack ++ leBytes 2 1 ++ leBytes 2 0 ++ leBytes 4 5), aCapRack, by decide +kernel⟩⟩

theorem met_HostRingsTablesAndRegisters_11 :
    (∃ (s : State) (tag : Nat) (p : Prog) (a : Nat), Waits s tag 0x0202 p ∧ p.payload.length = 12 ∧ field p.payload 0 4 = a ∧ a % 4 = 0 ∧ a < 0x04000000 ∧ field p.payload 4 2 = 1 ∧ s.pwr.vinAon = true ∧ (s.role ≠ 2 ∨ mirroredBlock a = false) ∧ guarded a = false ∧ assigned a = false) ∧
    (∃ (s : State) (tag : Nat) (p : Prog) (a : Nat), Waits s tag 0x0202 p ∧ p.payload.length = 12 ∧ field p.payload 0 4 = a ∧ a % 4 = 0 ∧ a < 0x04000000 ∧ field p.payload 4 2 = 1 ∧ s.pwr.vinAon = true ∧ (s.role ≠ 2 ∨ mirroredBlock a = false) ∧ guarded a = false ∧ assigned a = true ∧ s.isOff (heldIn a) = true) ∧
    (∃ (s : State) (path : Path) (a : Nat) (v : Word), path = .i3c ∧ s.isOff 0 = false ∧ s.pwr.vinAon = true ∧ s.pwr.vinIo = true ∧ a = aPace0 ∧ fld v 26 16 ≤ 2000 ∧ fld v 10 0 ≤ 2000) ∧
    (∃ (s : State) (path : Path) (a : Nat) (_v : Word), ((path ≠ .i3c ∧ guarded a = true) ∨ (path = .i3c ∧ i3cWrites a = false) ∨ assigned a = false ∨ s.isOff (heldIn a) = true)) :=
  ⟨⟨waiting (rFw) 4 0x0202 (leBytes 4 0x00300200 ++ leBytes 2 1 ++ leBytes 2 0 ++ leBytes 4 5), 4, prog 4 0x0202 (leBytes 4 0x00300200 ++ leBytes 2 1 ++ leBytes 2 0 ++ leBytes 4 5), 0x00300200, by decide +kernel⟩,
   ⟨waiting (rFw) 4 0x0202 (leBytes 4 0x00830004 ++ leBytes 2 1 ++ leBytes 2 0 ++ leBytes 4 5), 4, prog 4 0x0202 (leBytes 4 0x00830004 ++ leBytes 2 1 ++ leBytes 2 0 ++ leBytes 4 5), 0x00830004, by decide +kernel⟩,
   ⟨rFw, .i3c, aPace0, 0x00640032#32, by decide +kernel⟩,
   ⟨rFw, .cuing, aPace0, 5#32, by decide +kernel⟩⟩

theorem met_HostRingsTablesAndRegisters_12 :
    ∃ (s : State) (path : Path) (a : Nat) (_v : Word), s.pathOk path = true ∧ s.plnUp = true ∧ 0x02080000 ≤ a ∧ a < 0x02100000 ∧ a % 4 = 0 :=
  ⟨rFw, .cuing, aRouteSh 9 4, 0xFFFFFFFF#32, by decide +kernel⟩

theorem met_HostRelayAndFunction_1 :
    (∃ (s : State) (port : Nat) (pkt : Pkt) (e : List Byte), Comes s port 0x20 pkt ∧ s.plnUp = true ∧ 128 ≤ pkt.data.length ∧ e = pkt.data.take 128 ∧ s.host.bound = true ∧ hSrc pkt.hdr = s.host.leadEid ∧ field pkt.hdr 20 4 = 0 ∧ field pkt.hdr 24 4 = 0 ∧ s.host.relayIn = [] ∧ entOp e ≠ 0x0104 ∧ entOp e ≠ opCredit ∧ s.entStatus e false = stOk ∧ s.modeStatus (entOp e) = stOk ∧ subOk (entOp e) (entProg e [] .lead).payload = true) ∧
    (∃ (s : State) (port : Nat) (pkt : Pkt) (e : List Byte) (p : Prog), Comes s port 0x20 pkt ∧ s.plnUp = true ∧ 128 ≤ pkt.data.length ∧ e = pkt.data.take 128 ∧ s.selfEid ≠ 0xFFFF ∧ entOp e = 0x0104 ∧ s.pwr.leadSel = false ∧ s.entStatus e false = stOk ∧ p = entProg e [] .lead ∧ p.payload.length = 44 ∧ (s.host.bound = false ∨ s.host.leadEid = field p.payload 10 2) ∧ field p.payload 8 2 ≠ 0xFFFF) ∧
    (∃ (s : State) (port : Nat) (pkt : Pkt) (e : List Byte) (p : Prog), Comes s port 0x21 pkt ∧ s.plnUp = true ∧ 128 ≤ pkt.data.length ∧ e = pkt.data.take 128 ∧ (s.host.prog.find? (fun q => decide (q.tag = field pkt.hdr 16 2) && decide (q.origin = .relay (byteAt pkt.hdr 18 % 64))) = some p) ∧ hSrc pkt.hdr = s.relayEid p ∧ field pkt.hdr 20 4 = 0 ∧ field pkt.hdr 24 4 = 0 ∧ s.host.relayBack = [] ∧ p.gone = false ∧ p.opcode ≠ 0x0104 ∧ s.ringUp 1 = true) ∧
    (∃ (s : State) (port : Nat) (pkt : Pkt) (e : List Byte) (m : Nat), Comes s port 0x22 pkt ∧ s.plnUp = true ∧ 128 ≤ pkt.data.length ∧ e = pkt.data.take 128 ∧ m = byteAt pkt.hdr 18 % 64 ∧ (s.member m).bound = true ∧ hSrc pkt.hdr = (s.member m).eid ∧ 0 < (s.member m).credit ∧ s.ringUp 2 = true ∧ s.ringUsed 2 < s.ringSize 2 ∧ s.host.evtHeld = [] ∧ s.host.evtOwed = false) :=
  ⟨⟨hear ({ rEid with host := { rEid.host with bound := true, leadEid := 9, memberIdx := 3, memCredit := 2 } }), 3, mkPkt 5 9 0x20 false false false 0 0 (opG 7 3 0 0 0) ((let h : List Byte := leBytes 1 2 ++ leBytes 1 1 ++ leBytes 2 0x0101 ++ leBytes 2 7 ++ leBytes 1 3 ++ leBytes 1 0 ++ leBytes 3 ([] : List Byte).length ++ leBytes 5 0 ++ leBytes 8 0 ++ leBytes 4 0; let b := padTo 96 ([]); h ++ leBytes 4 (crc32c (h ++ b)) ++ b)), (mkPkt 5 9 0x20 false false false 0 0 (opG 7 3 0 0 0) ((let h : List Byte := leBytes 1 2 ++ leBytes 1 1 ++ leBytes 2 0x0101 ++ leBytes 2 7 ++ leBytes 1 3 ++ leBytes 1 0 ++ leBytes 3 ([] : List Byte).length ++ leBytes 5 0 ++ leBytes 8 0 ++ leBytes 4 0; let b := padTo 96 ([]); h ++ leBytes 4 (crc32c (h ++ b)) ++ b)) : Pkt).data.take 128, by decide +kernel⟩,
   ⟨hear (rEid), 3, mkPkt 5 9 0x20 false false false 0 0 (opG 7 3 0 0 0) ((let h : List Byte := leBytes 1 2 ++ leBytes 1 1 ++ leBytes 2 0x0104 ++ leBytes 2 7 ++ leBytes 1 3 ++ leBytes 1 0 ++ leBytes 3 (leBytes 8 0 ++ leBytes 2 5 ++ leBytes 2 9 ++ leBytes 32 0 : List Byte).length ++ leBytes 5 0 ++ leBytes 8 0 ++ leBytes 4 0; let b := padTo 96 (leBytes 8 0 ++ leBytes 2 5 ++ leBytes 2 9 ++ leBytes 32 0); h ++ leBytes 4 (crc32c (h ++ b)) ++ b)), (mkPkt 5 9 0x20 false false false 0 0 (opG 7 3 0 0 0) ((let h : List Byte := leBytes 1 2 ++ leBytes 1 1 ++ leBytes 2 0x0104 ++ leBytes 2 7 ++ leBytes 1 3 ++ leBytes 1 0 ++ leBytes 3 (leBytes 8 0 ++ leBytes 2 5 ++ leBytes 2 9 ++ leBytes 32 0 : List Byte).length ++ leBytes 5 0 ++ leBytes 8 0 ++ leBytes 4 0; let b := padTo 96 (leBytes 8 0 ++ leBytes 2 5 ++ leBytes 2 9 ++ leBytes 32 0); h ++ leBytes 4 (crc32c (h ++ b)) ++ b)) : Pkt).data.take 128, entProg ((mkPkt 5 9 0x20 false false false 0 0 (opG 7 3 0 0 0) ((let h : List Byte := leBytes 1 2 ++ leBytes 1 1 ++ leBytes 2 0x0104 ++ leBytes 2 7 ++ leBytes 1 3 ++ leBytes 1 0 ++ leBytes 3 (leBytes 8 0 ++ leBytes 2 5 ++ leBytes 2 9 ++ leBytes 32 0 : List Byte).length ++ leBytes 5 0 ++ leBytes 8 0 ++ leBytes 4 0; let b := padTo 96 (leBytes 8 0 ++ leBytes 2 5 ++ leBytes 2 9 ++ leBytes 32 0); h ++ leBytes 4 (crc32c (h ++ b)) ++ b)) : Pkt).data.take 128 : List Byte) [] .lead, by decide +kernel⟩,
   ⟨hear ((fun s : State => { s with host := { s.host with prog := [{ prog 7 0x0101 [] with origin := .relay 3, member := 3, phase := 1 }] } }) (((let s := { rEid with pwr := { rEid.pwr with leadSel := true }, host := { rEid.host with bme := true } }; sets (s.setRf aHioLink 9 9 1) [(aRing 0 + 8, 0x80000004#32), (aRing 1 + 8, 0x80000004#32), (aRing 2 + 8, 0x80000104#32)])).setMember 3 { bound := true, serial := 5, eid := 9, lost := false, credit := 4 })), 3, mkPkt 5 9 0x21 false false false 0 0 (opG 7 3 0 0 0) ((let h : List Byte := leBytes 1 2 ++ leBytes 1 1 ++ leBytes 2 0x0101 ++ leBytes 2 7 ++ leBytes 1 3 ++ leBytes 1 0 ++ leBytes 3 ([1#8, 2#8] : List Byte).length ++ leBytes 5 0 ++ leBytes 8 0 ++ leBytes 4 0; let b := padTo 96 ([1#8, 2#8]); h ++ leBytes 4 (crc32c (h ++ b)) ++ b)), (mkPkt 5 9 0x21 false false false 0 0 (opG 7 3 0 0 0) ((let h : List Byte := leBytes 1 2 ++ leBytes 1 1 ++ leBytes 2 0x0101 ++ leBytes 2 7 ++ leBytes 1 3 ++ leBytes 1 0 ++ leBytes 3 ([1#8, 2#8] : List Byte).length ++ leBytes 5 0 ++ leBytes 8 0 ++ leBytes 4 0; let b := padTo 96 ([1#8, 2#8]); h ++ leBytes 4 (crc32c (h ++ b)) ++ b)) : Pkt).data.take 128, { prog 7 0x0101 [] with origin := .relay 3, member := 3, phase := 1 }, by decide +kernel⟩,
   ⟨hear ((fun s : State => { s with host := { s.host with prog := [{ prog 7 0x0101 [] with origin := .relay 3, member := 3, phase := 1 }] } }) (((let s := { rEid with pwr := { rEid.pwr with leadSel := true }, host := { rEid.host with bme := true } }; sets (s.setRf aHioLink 9 9 1) [(aRing 0 + 8, 0x80000004#32), (aRing 1 + 8, 0x80000004#32), (aRing 2 + 8, 0x80000104#32)])).setMember 3 { bound := true, serial := 5, eid := 9, lost := false, credit := 4 })), 3, mkPkt 5 9 0x22 false false false 0 0 (opG 0xFFFF 3 0 0 0) ((let h : List Byte := leBytes 1 2 ++ leBytes 1 1 ++ leBytes 2 0x0180 ++ leBytes 2 0xFFFF ++ leBytes 1 3 ++ leBytes 1 0 ++ leBytes 3 (leBytes 8 5 : List Byte).length ++ leBytes 5 0 ++ leBytes 8 0 ++ leBytes 4 0; let b := padTo 96 (leBytes 8 5); h ++ leBytes 4 (crc32c (h ++ b)) ++ b)), (mkPkt 5 9 0x22 false false false 0 0 (opG 0xFFFF 3 0 0 0) ((let h : List Byte := leBytes 1 2 ++ leBytes 1 1 ++ leBytes 2 0x0180 ++ leBytes 2 0xFFFF ++ leBytes 1 3 ++ leBytes 1 0 ++ leBytes 3 (leBytes 8 5 : List Byte).length ++ leBytes 5 0 ++ leBytes 8 0 ++ leBytes 4 0; let b := padTo 96 (leBytes 8 5); h ++ leBytes 4 (crc32c (h ++ b)) ++ b)) : Pkt).data.take 128, 3, by decide +kernel⟩⟩

theorem met_HostRelayAndFunction_2 :
    (∃ (s : State) (port : Nat) (pkt : Pkt) (m : Nat), Comes s port 0x23 pkt ∧ s.plnUp = true ∧ pkt.data.length = 960 ∧ m = byteAt pkt.hdr 18 % 64) ∧
    (∃ (s : State) (m n : Nat), s.plnUp = true ∧ (s.member m).bound = true ∧ 0 < n ∧ (s.member m).credit + n ≤ 16 ∧ s.rtGone (s.member m).eid = false ∧ s.fallback = false ∧ s.selfEid ≠ 0xFFFF) ∧
    (∃ (s : State) (m tag : Nat) (p : Prog), (s.host.prog.find? (fun q => decide (q.tag = tag)) = some p) ∧ p.origin = .relay m ∧ p.gone = false ∧ s.ringUp 1 = true) ∧
    (∃ (s : State) (tag : Nat) (p : Prog), (s.host.prog.find? (fun q => decide (q.tag = tag) && decide (q.origin = .lead)) = some p) ∧ s.selfEid ≠ 0xFFFF) :=
  ⟨⟨hear (rEid), 3, mkPkt 5 9 0x23 false false false 0 0 ([]) (leBytes 960 77), 0, ⟨⟨by decide +kernel, by decide +kernel, e2eOk_mkPkt .., by decide +kernel⟩, by decide +kernel, by decide +kernel, by decide +kernel⟩⟩,
   ⟨(((fun s : State => { s with host := { s.host with prog := [{ prog 7 0x0101 [] with origin := .relay 3, member := 3, phase := 1 }] } }) (((let s := { rEid with pwr := { rEid.pwr with leadSel := true }, host := { rEid.host with bme := true } }; sets (s.setRf aHioLink 9 9 1) [(aRing 0 + 8, 0x80000004#32), (aRing 1 + 8, 0x80000004#32), (aRing 2 + 8, 0x80000104#32)])).setMember 3 { bound := true, serial := 5, eid := 9, lost := false, credit := 4 })).setReg (aRoute 9 4) 0x80000000#32), 3, 5, by decide +kernel⟩,
   ⟨(fun s : State => { s with host := { s.host with prog := [{ prog 7 0x0101 [] with origin := .relay 3, member := 3, phase := 1 }] } }) (((let s := { rEid with pwr := { rEid.pwr with leadSel := true }, host := { rEid.host with bme := true } }; sets (s.setRf aHioLink 9 9 1) [(aRing 0 + 8, 0x80000004#32), (aRing 1 + 8, 0x80000004#32), (aRing 2 + 8, 0x80000104#32)])).setMember 3 { bound := true, serial := 5, eid := 9, lost := false, credit := 4 }), 3, 7, { prog 7 0x0101 [] with origin := .relay 3, member := 3, phase := 1 }, by decide +kernel⟩,
   ⟨(fun s : State => { s with host := { s.host with prog := [{ prog 7 0x0101 [] with origin := .lead, member := 3 }] } }) ({ rEid with host := { rEid.host with bound := true, leadEid := 9, memberIdx := 3, memCredit := 2 } }), 7, { prog 7 0x0101 [] with origin := .lead, member := 3 }, by decide +kernel⟩⟩

theorem met_HostRelayAndFunction_3 :
    (∃ (s : State), s.host.bound = true ∧ s.pwr.leadSel = false ∧ s.leadPath = false) ∧
    (∃ (s : State), s.hioUp = true) ∧
    (∃ (s : State), s.hioUp = true) ∧
    (∃ (s : State), s.hioUp = true ∧ s.pwr.perst = false ∧ s.rf aHioLink 3 0 ≠ 0) :=
  ⟨⟨{ rEid with host := { rEid.host with bound := true, leadEid := 9, memberIdx := 3, memCredit := 2 } }, by decide +kernel⟩,
   ⟨(((fun s : State => { s with host := { s.host with prog := [{ prog 7 0x0101 [] with origin := .relay 3, member := 3, phase := 1 }] } }) (((let s := { rEid with pwr := { rEid.pwr with leadSel := true }, host := { rEid.host with bme := true } }; sets (s.setRf aHioLink 9 9 1) [(aRing 0 + 8, 0x80000004#32), (aRing 1 + 8, 0x80000004#32), (aRing 2 + 8, 0x80000104#32)])).setMember 3 { bound := true, serial := 5, eid := 9, lost := false, credit := 4 })).toDepth dHio .run), by decide +kernel⟩,
   ⟨(((fun s : State => { s with host := { s.host with prog := [{ prog 7 0x0101 [] with origin := .relay 3, member := 3, phase := 1 }] } }) (((let s := { rEid with pwr := { rEid.pwr with leadSel := true }, host := { rEid.host with bme := true } }; sets (s.setRf aHioLink 9 9 1) [(aRing 0 + 8, 0x80000004#32), (aRing 1 + 8, 0x80000004#32), (aRing 2 + 8, 0x80000104#32)])).setMember 3 { bound := true, serial := 5, eid := 9, lost := false, credit := 4 })).toDepth dHio .run), by decide +kernel⟩,
   ⟨(fun s : State => { s with host := { s.host with linkDead := true } }) ((((fun s : State => { s with host := { s.host with prog := [{ prog 7 0x0101 [] with origin := .relay 3, member := 3, phase := 1 }] } }) (((let s := { rEid with pwr := { rEid.pwr with leadSel := true }, host := { rEid.host with bme := true } }; sets (s.setRf aHioLink 9 9 1) [(aRing 0 + 8, 0x80000004#32), (aRing 1 + 8, 0x80000004#32), (aRing 2 + 8, 0x80000104#32)])).setMember 3 { bound := true, serial := 5, eid := 9, lost := false, credit := 4 })).toDepth dHio .run).setReg aHioLink 0x146), by decide +kernel⟩⟩

theorem met_HostRelayAndFunction_4 :
    (∃ (s : State) (_b : Bool), s.hioUp = true ∧ s.host.evtHeld = [] ∧ s.host.evtOwed = false) ∧
    (∃ (s : State) (_w : Bool), s.hioUp = true ∧ s.rf aHioLink 9 9 = 1) ∧
    (∃ (s : State) (off a : Nat) (b : List Byte), s.hioUp = true ∧ s.rf aHioLink 9 9 = 1 ∧ 0 < b.length ∧ off + b.length ≤ 2 ^ 34 ∧ ((∀ i ∈ List.range (b.length), s.barred (dHbm (s.stackOf (a + i))) = false ∧ a + i < s.genEnd ∧ a + i < s.relayBase)) ∧ a = s.aperture + off) ∧
    (∃ (s : State) (off a n : Nat), s.hioUp = true ∧ s.rf aHioLink 9 9 = 1 ∧ 0 < n ∧ off + n ≤ 2 ^ 34 ∧ ((∀ i ∈ List.range (n), s.barred (dHbm (s.stackOf (a + i))) = false ∧ (a + i < s.genEnd → a + i < s.relayBase) ∧ (s.genEnd ≤ a + i → s.sealed = false))) ∧ a = s.aperture + off) :=
  ⟨⟨(((fun s : State => { s with host := { s.host with prog := [{ prog 7 0x0101 [] with origin := .relay 3, member := 3, phase := 1 }] } }) (((let s := { rEid with pwr := { rEid.pwr with leadSel := true }, host := { rEid.host with bme := true } }; sets (s.setRf aHioLink 9 9 1) [(aRing 0 + 8, 0x80000004#32), (aRing 1 + 8, 0x80000004#32), (aRing 2 + 8, 0x80000104#32)])).setMember 3 { bound := true, serial := 5, eid := 9, lost := false, credit := 4 })).toDepth dHio .run), true, by decide +kernel⟩,
   ⟨(((fun s : State => { s with host := { s.host with prog := [{ prog 7 0x0101 [] with origin := .relay 3, member := 3, phase := 1 }] } }) (((let s := { rEid with pwr := { rEid.pwr with leadSel := true }, host := { rEid.host with bme := true } }; sets (s.setRf aHioLink 9 9 1) [(aRing 0 + 8, 0x80000004#32), (aRing 1 + 8, 0x80000004#32), (aRing 2 + 8, 0x80000104#32)])).setMember 3 { bound := true, serial := 5, eid := 9, lost := false, credit := 4 })).toDepth dHio .run), false, by decide +kernel⟩,
   ⟨((((fun s : State => { s with host := { s.host with prog := [{ prog 7 0x0101 [] with origin := .relay 3, member := 3, phase := 1 }] } }) (((let s := { rEid with pwr := { rEid.pwr with leadSel := true }, host := { rEid.host with bme := true } }; sets (s.setRf aHioLink 9 9 1) [(aRing 0 + 8, 0x80000004#32), (aRing 1 + 8, 0x80000004#32), (aRing 2 + 8, 0x80000104#32)])).setMember 3 { bound := true, serial := 5, eid := 9, lost := false, credit := 4 })).toDepth dHio .run).toDepth (dHbm 0) .run).setReg aSeqRegion 0xFF000040#32, 64, 64, [1#8, 2#8], by decide +kernel⟩,
   ⟨((((fun s : State => { s with host := { s.host with prog := [{ prog 7 0x0101 [] with origin := .relay 3, member := 3, phase := 1 }] } }) (((let s := { rEid with pwr := { rEid.pwr with leadSel := true }, host := { rEid.host with bme := true } }; sets (s.setRf aHioLink 9 9 1) [(aRing 0 + 8, 0x80000004#32), (aRing 1 + 8, 0x80000004#32), (aRing 2 + 8, 0x80000104#32)])).setMember 3 { bound := true, serial := 5, eid := 9, lost := false, credit := 4 })).toDepth dHio .run).toDepth (dHbm 0) .run).setReg aSeqRegion 0xFF000040#32, 64, 64, 2, by decide +kernel⟩⟩

theorem met_HostRelayAndFunction_5 :
    (∃ (s : State), s.hioUp = true) ∧
    (∃ (s : State) (gen width : Nat), s.hioUp = true ∧ s.host.linkDead = false ∧ s.pwr.perst = false ∧ (5 ≤ gen ∧ gen ≤ 7 ∧ (width = 1 ∨ width = 2 ∨ width = 4))) ∧
    (∃ (s : State) (_lost : Bool), s.hioUp = true) ∧
    (∃ (s : State), s.hioUp = true ∧ s.rf aHioLink 9 9 = 1) :=
  ⟨⟨(((fun s : State => { s with host := { s.host with prog := [{ prog 7 0x0101 [] with origin := .relay 3, member := 3, phase := 1 }] } }) (((let s := { rEid with pwr := { rEid.pwr with leadSel := true }, host := { rEid.host with bme := true } }; sets (s.setRf aHioLink 9 9 1) [(aRing 0 + 8, 0x80000004#32), (aRing 1 + 8, 0x80000004#32), (aRing 2 + 8, 0x80000104#32)])).setMember 3 { bound := true, serial := 5, eid := 9, lost := false, credit := 4 })).toDepth dHio .run), by decide +kernel⟩,
   ⟨(((fun s : State => { s with host := { s.host with prog := [{ prog 7 0x0101 [] with origin := .relay 3, member := 3, phase := 1 }] } }) (((let s := { rEid with pwr := { rEid.pwr with leadSel := true }, host := { rEid.host with bme := true } }; sets (s.setRf aHioLink 9 9 1) [(aRing 0 + 8, 0x80000004#32), (aRing 1 + 8, 0x80000004#32), (aRing 2 + 8, 0x80000104#32)])).setMember 3 { bound := true, serial := 5, eid := 9, lost := false, credit := 4 })).toDepth dHio .run), 6, 4, by decide +kernel⟩,
   ⟨(((fun s : State => { s with host := { s.host with prog := [{ prog 7 0x0101 [] with origin := .relay 3, member := 3, phase := 1 }] } }) (((let s := { rEid with pwr := { rEid.pwr with leadSel := true }, host := { rEid.host with bme := true } }; sets (s.setRf aHioLink 9 9 1) [(aRing 0 + 8, 0x80000004#32), (aRing 1 + 8, 0x80000004#32), (aRing 2 + 8, 0x80000104#32)])).setMember 3 { bound := true, serial := 5, eid := 9, lost := false, credit := 4 })).toDepth dHio .run), true, by decide +kernel⟩,
   ⟨(((fun s : State => { s with host := { s.host with prog := [{ prog 7 0x0101 [] with origin := .relay 3, member := 3, phase := 1 }] } }) (((let s := { rEid with pwr := { rEid.pwr with leadSel := true }, host := { rEid.host with bme := true } }; sets (s.setRf aHioLink 9 9 1) [(aRing 0 + 8, 0x80000004#32), (aRing 1 + 8, 0x80000004#32), (aRing 2 + 8, 0x80000104#32)])).setMember 3 { bound := true, serial := 5, eid := 9, lost := false, credit := 4 })).toDepth dHio .run), by decide +kernel⟩⟩

theorem met_HostRelayAndFunction_6 :
    (∃ (s : State) (port : Nat) (pkt : Pkt) (e : List Byte), Comes s port 0x20 pkt ∧ s.plnUp = true ∧ 128 ≤ pkt.data.length ∧ e = pkt.data.take 128 ∧ s.host.bound = true ∧ hSrc pkt.hdr = s.host.leadEid ∧ field pkt.hdr 20 4 = 0 ∧ field pkt.hdr 24 4 = 0 ∧ s.host.relayIn = [] ∧ entOp e ≠ 0x0104 ∧ entOp e ≠ opCredit ∧ s.entStatus e false ≠ stOk ∧ s.selfEid ≠ 0xFFFF) ∧
    (∃ (s : State) (_port : Nat) (pkt : Pkt), (s.host.bound = false ∨ hSrc pkt.hdr ≠ s.host.leadEid)) ∧
    (∃ (s : State) (port : Nat) (pkt : Pkt) (e : List Byte), Comes s port 0x20 pkt ∧ s.plnUp = true ∧ 128 ≤ pkt.data.length ∧ e = pkt.data.take 128 ∧ s.host.bound = true ∧ hSrc pkt.hdr = s.host.leadEid ∧ entOp e = opCredit ∧ s.host.memEvts = [] ∧ s.host.evtGap = 0) ∧
    (∃ (s : State) (port : Nat) (pkt : Pkt) (e : List Byte) (p : Prog), Comes s port 0x20 pkt ∧ s.plnUp = true ∧ 128 ≤ pkt.data.length ∧ e = pkt.data.take 128 ∧ s.selfEid = 0xFFFF ∧ s.fwdEn port = false ∧ entOp e = 0x0104 ∧ s.pwr.leadSel = false ∧ s.entStatus e false = stOk ∧ p = entProg e [] .lead ∧ p.payload.length = 44 ∧ (s.host.bound = false ∨ s.host.leadEid = field p.payload 10 2) ∧ field p.payload 8 2 ≠ 0xFFFF) :=
  ⟨⟨hear ({ rEid with host := { rEid.host with bound := true, leadEid := 9, memberIdx := 3, memCredit := 2 } }), 3, mkPkt 5 9 0x20 false false false 0 0 (opG 7 3 0 0 0) ((let h : List Byte := leBytes 1 2 ++ leBytes 1 1 ++ leBytes 2 0x01FF ++ leBytes 2 7 ++ leBytes 1 3 ++ leBytes 1 0 ++ leBytes 3 ([] : List Byte).length ++ leBytes 5 0 ++ leBytes 8 0 ++ leBytes 4 0; let b := padTo 96 ([]); h ++ leBytes 4 (crc32c (h ++ b)) ++ b)), (mkPkt 5 9 0x20 false false false 0 0 (opG 7 3 0 0 0) ((let h : List Byte := leBytes 1 2 ++ leBytes 1 1 ++ leBytes 2 0x01FF ++ leBytes 2 7 ++ leBytes 1 3 ++ leBytes 1 0 ++ leBytes 3 ([] : List Byte).length ++ leBytes 5 0 ++ leBytes 8 0 ++ leBytes 4 0; let b := padTo 96 ([]); h ++ leBytes 4 (crc32c (h ++ b)) ++ b)) : Pkt).data.take 128, by decide +kernel⟩,
   ⟨{ rEid with host := { rEid.host with bound := true, leadEid := 9, memberIdx := 3, memCredit := 2 } }, 3, mkPkt 5 8 0x20 false false false 0 0 (opG 7 3 0 0 0) ((let h : List Byte := leBytes 1 2 ++ leBytes 1 1 ++ leBytes 2 0x0101 ++ leBytes 2 7 ++ leBytes 1 3 ++ leBytes 1 0 ++ leBytes 3 ([] : List Byte).length ++ leBytes 5 0 ++ leBytes 8 0 ++ leBytes 4 0; let b := padTo 96 ([]); h ++ leBytes 4 (crc32c (h ++ b)) ++ b)), by decide +kernel⟩,
   ⟨hear ({ rEid with host := { rEid.host with bound := true, leadEid := 9, memberIdx := 3, memCredit := 2 } }), 3, mkPkt 5 9 0x20 false false false 0 0 (opG 7 3 0 0 0) ((let h : List Byte := leBytes 1 2 ++ leBytes 1 1 ++ leBytes 2 0x0B7F ++ leBytes 2 7 ++ leBytes 1 3 ++ leBytes 1 0 ++ leBytes 3 ([5#8] : List Byte).length ++ leBytes 5 0 ++ leBytes 8 0 ++ leBytes 4 0; let b := padTo 96 ([5#8]); h ++ leBytes 4 (crc32c (h ++ b)) ++ b)), (mkPkt 5 9 0x20 false false false 0 0 (opG 7 3 0 0 0) ((let h : List Byte := leBytes 1 2 ++ leBytes 1 1 ++ leBytes 2 0x0B7F ++ leBytes 2 7 ++ leBytes 1 3 ++ leBytes 1 0 ++ leBytes 3 ([5#8] : List Byte).length ++ leBytes 5 0 ++ leBytes 8 0 ++ leBytes 4 0; let b := padTo 96 ([5#8]); h ++ leBytes 4 (crc32c (h ++ b)) ++ b)) : Pkt).data.take 128, by decide +kernel⟩,
   ⟨hear ((r0.toDepth dPln .run).sinkAgain 4 (mkPkt 5 9 0x20 false false false 0 0 (opG 7 3 0 0 0) ((let h : List Byte := leBytes 1 2 ++ leBytes 1 1 ++ leBytes 2 0x0104 ++ leBytes 2 7 ++ leBytes 1 3 ++ leBytes 1 0 ++ leBytes 3 (leBytes 8 0 ++ leBytes 2 5 ++ leBytes 2 9 ++ leBytes 32 0 : List Byte).length ++ leBytes 5 0 ++ leBytes 8 0 ++ leBytes 4 0; let b := padTo 96 (leBytes 8 0 ++ leBytes 2 5 ++ leBytes 2 9 ++ leBytes 32 0); h ++ leBytes 4 (crc32c (h ++ b)) ++ b)))), 4, mkPkt 5 9 0x20 false false false 0 0 (opG 7 3 0 0 0) ((let h : List Byte := leBytes 1 2 ++ leBytes 1 1 ++ leBytes 2 0x0104 ++ leBytes 2 7 ++ leBytes 1 3 ++ leBytes 1 0 ++ leBytes 3 (leBytes 8 0 ++ leBytes 2 5 ++ leBytes 2 9 ++ leBytes 32 0 : List Byte).length ++ leBytes 5 0 ++ leBytes 8 0 ++ leBytes 4 0; let b := padTo 96 (leBytes 8 0 ++ leBytes 2 5 ++ leBytes 2 9 ++ leBytes 32 0); h ++ leBytes 4 (crc32c (h ++ b)) ++ b)), (mkPkt 5 9 0x20 false false false 0 0 (opG 7 3 0 0 0) ((let h : List Byte := leBytes 1 2 ++ leBytes 1 1 ++ leBytes 2 0x0104 ++ leBytes 2 7 ++ leBytes 1 3 ++ leBytes 1 0 ++ leBytes 3 (leBytes 8 0 ++ leBytes 2 5 ++ leBytes 2 9 ++ leBytes 32 0 : List Byte).length ++ leBytes 5 0 ++ leBytes 8 0 ++ leBytes 4 0; let b := padTo 96 (leBytes 8 0 ++ leBytes 2 5 ++ leBytes 2 9 ++ leBytes 32 0); h ++ leBytes 4 (crc32c (h ++ b)) ++ b)) : Pkt).data.take 128, entProg ((mkPkt 5 9 0x20 false false false 0 0 (opG 7 3 0 0 0) ((let h : List Byte := leBytes 1 2 ++ leBytes 1 1 ++ leBytes 2 0x0104 ++ leBytes 2 7 ++ leBytes 1 3 ++ leBytes 1 0 ++ leBytes 3 (leBytes 8 0 ++ leBytes 2 5 ++ leBytes 2 9 ++ leBytes 32 0 : List Byte).length ++ leBytes 5 0 ++ leBytes 8 0 ++ leBytes 4 0; let b := padTo 96 (leBytes 8 0 ++ leBytes 2 5 ++ leBytes 2 9 ++ leBytes 32 0); h ++ leBytes 4 (crc32c (h ++ b)) ++ b)) : Pkt).data.take 128 : List Byte) [] .lead, by decide +kernel⟩⟩

theorem met_HostRelayAndFunction_7 :
    (∃ (s : State) (port : Nat) (pkt : Pkt) (e : List Byte) (p : Prog), Comes s port 0x20 pkt ∧ s.plnUp = true ∧ 128 ≤ pkt.data.length ∧ e = pkt.data.take 128 ∧ (s.selfEid ≠ 0xFFFF ∨ s.fwdEn port = false) ∧ entOp e = 0x0104 ∧ s.pwr.leadSel = false ∧ s.entStatus e false = stOk ∧ p = entProg e [] .lead ∧ p.payload.length = 44 ∧ s.host.bound = true ∧ s.host.leadEid ≠ field p.payload 10 2 ∧ s.selfEid ≠ 0xFFFF) ∧
    (∃ (s : State) (port : Nat) (pkt : Pkt) (m tag : Nat), Comes s port 0x21 pkt ∧ s.plnUp = true ∧ 128 ≤ pkt.data.length ∧ field pkt.hdr 16 2 = tag ∧ byteAt pkt.hdr 18 % 64 = m ∧ (s.host.prog.all (fun q => decide (q.tag ≠ tag)) = true) ∧ s.host.gaveUp.contains (m, tag) = true ∧ field pkt.hdr 20 4 = 0) ∧
    (∃ (s : State) (m n : Nat), ((s.member m).bound = false ∨ n = 0 ∨ 16 < (s.member m).credit + n)) ∧
    (∃ (s : State), s.leadPath = true) :=
  ⟨⟨hear ({ rEid with host := { rEid.host with bound := true, leadEid := 10 } }), 3, mkPkt 5 9 0x20 false false false 0 0 (opG 7 3 0 0 0) ((let h : List Byte := leBytes 1 2 ++ leBytes 1 1 ++ leBytes 2 0x0104 ++ leBytes 2 7 ++ leBytes 1 3 ++ leBytes 1 0 ++ leBytes 3 (leBytes 8 0 ++ leBytes 2 5 ++ leBytes 2 9 ++ leBytes 32 0 : List Byte).length ++ leBytes 5 0 ++ leBytes 8 0 ++ leBytes 4 0; let b := padTo 96 (leBytes 8 0 ++ leBytes 2 5 ++ leBytes 2 9 ++ leBytes 32 0); h ++ leBytes 4 (crc32c (h ++ b)) ++ b)), (mkPkt 5 9 0x20 false false false 0 0 (opG 7 3 0 0 0) ((let h : List Byte := leBytes 1 2 ++ leBytes 1 1 ++ leBytes 2 0x0104 ++ leBytes 2 7 ++ leBytes 1 3 ++ leBytes 1 0 ++ leBytes 3 (leBytes 8 0 ++ leBytes 2 5 ++ leBytes 2 9 ++ leBytes 32 0 : List Byte).length ++ leBytes 5 0 ++ leBytes 8 0 ++ leBytes 4 0; let b := padTo 96 (leBytes 8 0 ++ leBytes 2 5 ++ leBytes 2 9 ++ leBytes 32 0); h ++ leBytes 4 (crc32c (h ++ b)) ++ b)) : Pkt).data.take 128, entProg ((mkPkt 5 9 0x20 false false false 0 0 (opG 7 3 0 0 0) ((let h : List Byte := leBytes 1 2 ++ leBytes 1 1 ++ leBytes 2 0x0104 ++ leBytes 2 7 ++ leBytes 1 3 ++ leBytes 1 0 ++ leBytes 3 (leBytes 8 0 ++ leBytes 2 5 ++ leBytes 2 9 ++ leBytes 32 0 : List Byte).length ++ leBytes 5 0 ++ leBytes 8 0 ++ leBytes 4 0; let b := padTo 96 (leBytes 8 0 ++ leBytes 2 5 ++ leBytes 2 9 ++ leBytes 32 0); h ++ leBytes 4 (crc32c (h ++ b)) ++ b)) : Pkt).data.take 128 : List Byte) [] .lead, by decide +kernel⟩,
   ⟨hear ({ rFw with host := { rFw.host with gaveUp := [(3, 7)] } }), 3, mkPkt 5 9 0x21 false false false 0 0 (opG 7 3 0 0 0) ((let h : List Byte := leBytes 1 2 ++ leBytes 1 1 ++ leBytes 2 0x0101 ++ leBytes 2 7 ++ leBytes 1 3 ++ leBytes 1 0 ++ leBytes 3 ([1#8, 2#8] : List Byte).length ++ leBytes 5 0 ++ leBytes 8 0 ++ leBytes 4 0; let b := padTo 96 ([1#8, 2#8]); h ++ leBytes 4 (crc32c (h ++ b)) ++ b)), 3, 7, by decide +kernel⟩,
   ⟨(fun s : State => { s with host := { s.host with prog := [{ prog 7 0x0101 [] with origin := .relay 3, member := 3, phase := 1 }] } }) (((let s := { rEid with pwr := { rEid.pwr with leadSel := true }, host := { rEid.host with bme := true } }; sets (s.setRf aHioLink 9 9 1) [(aRing 0 + 8, 0x80000004#32), (aRing 1 + 8, 0x80000004#32), (aRing 2 + 8, 0x80000104#32)])).setMember 3 { bound := true, serial := 5, eid := 9, lost := false, credit := 4 }), 3, 15, by decide +kernel⟩,
   ⟨((run (({ rEid with host := { rEid.host with bound := true, leadEid := 9, memberIdx := 3, memCredit := 2 } }).setPort 0 up) 0).setReg (aRoute 9 4) 0x80000000#32).setRf (aPortCfg 0) 4 0 0x11, by decide +kernel⟩⟩

theorem met_HostRelayAndFunction_8 :
    (∃ (s : State) (off a : Nat) (b : List Byte), s.hioUp = true ∧ s.rf aHioLink 9 9 = 1 ∧ a = s.aperture + off ∧ (off + b.length > 2 ^ 34 ∨ (∃ i ∈ List.range b.length, s.barred (dHbm (s.stackOf (a + i))) = true ∨ s.genEnd ≤ a + i ∨ s.relayBase ≤ a + i))) ∧
    (∃ (s : State) (off a n : Nat), s.hioUp = true ∧ s.rf aHioLink 9 9 = 1 ∧ a = s.aperture + off ∧ (off + n > 2 ^ 34 ∨ (∃ i ∈ List.range n, s.barred (dHbm (s.stackOf (a + i))) = true ∨ (a + i < s.genEnd ∧ s.relayBase ≤ a + i) ∨ (s.genEnd ≤ a + i ∧ s.sealed = true)))) ∧
    (∃ (s : State) (_gen _width : Nat), (s.hioUp = false ∨ s.host.linkDead = true ∨ s.pwr.perst = true)) :=
  ⟨⟨((((fun s : State => { s with host := { s.host with prog := [{ prog 7 0x0101 [] with origin := .relay 3, member := 3, phase := 1 }] } }) (((let s := { rEid with pwr := { rEid.pwr with leadSel := true }, host := { rEid.host with bme := true } }; sets (s.setRf aHioLink 9 9 1) [(aRing 0 + 8, 0x80000004#32), (aRing 1 + 8, 0x80000004#32), (aRing 2 + 8, 0x80000104#32)])).setMember 3 { bound := true, serial := 5, eid := 9, lost := false, credit := 4 })).toDepth dHio .run)).setDom (dHbm 0) ⟨.off, .held, false⟩, 64, 64, [1#8, 2#8], by decide +kernel⟩,
   ⟨((((fun s : State => { s with host := { s.host with prog := [{ prog 7 0x0101 [] with origin := .relay 3, member := 3, phase := 1 }] } }) (((let s := { rEid with pwr := { rEid.pwr with leadSel := true }, host := { rEid.host with bme := true } }; sets (s.setRf aHioLink 9 9 1) [(aRing 0 + 8, 0x80000004#32), (aRing 1 + 8, 0x80000004#32), (aRing 2 + 8, 0x80000104#32)])).setMember 3 { bound := true, serial := 5, eid := 9, lost := false, credit := 4 })).toDepth dHio .run)).setDom (dHbm 0) ⟨.off, .held, false⟩, 64, 64, 2, by decide +kernel⟩,
   ⟨r0, 6, 4, by decide +kernel⟩⟩

theorem met_PairsClaimAndMirror_1 :
    (∃ (s : State) (tag : Nat) (p : Prog) (eid a b claim hb : Nat), Waits s tag 0x0A01 p ∧ p.payload.length = 10 ∧ field p.payload 0 2 = eid ∧ byteAt p.payload 2 = a ∧ byteAt p.payload 3 = b ∧ field p.payload 4 4 = claim ∧ field p.payload 8 2 = hb ∧ s.role = 0 ∧ s.mirState = 0 ∧ eid ≠ 0xFFFF ∧ s.allMine = true ∧ s.fallback = false ∧ s.pair.swapTag = none ∧ a < 128 ∧ b < 128 ∧ s.portRole a = 3 ∧ s.portRole b = 3 ∧ 40 ≤ hb ∧ hb ≤ 10000 ∧ eid ≠ s.selfEid ∧ s.rf aSeqRegion 15 9 ≠ 0 ∧ ((∀ q ∈ s.dovetailPorts, hb + 164 ≤ s.rf (aHoldLim q) 12 0)) ∧ claim ≠ s.peerClaim) ∧
    (∃ (s : State) (tag : Nat) (p : Prog), Waits s tag 0x0A02 p ∧ p.payload = []) ∧
    (∃ (s : State) (tag : Nat) (p : Prog), Waits s tag 0x0A03 p ∧ p.payload = [] ∧ s.role = 1 ∧ s.fallback = false ∧ s.pair.swapTag = none ∧ bit s.pair.peerIn 0 = true ∧ bit s.pair.peerSide 0 = true) ∧
    (∃ (s : State), s.pair.swapTag.isSome = true ∧ s.role = 1 ∧ s.pair.abdicated = false ∧ s.pair.unacked = [] ∧ s.pair.waiting = [] ∧ ((∀ q ∈ s.dovetailPorts, (s.port q).lstate ≠ .active ∧ (s.port q).holdReq = none)) ∧ s.paired = true ∧ s.selfEid ≠ 0xFFFF) :=
  ⟨⟨waiting ((((List.range 8).foldl (fun (s : State) i => s.setRf (aHoldLim (16 + i)) 12 0 500) (sets (rEid.setPort 3 up) [(aPortCfg 3, 0x17#32), (aCrt 2, 0x31000000#32), (aSeqRegion, 0xFF001040#32)])))) 4 0x0A01 (leBytes 2 9 ++ leBytes 1 3 ++ leBytes 1 3 ++ leBytes 4 5 ++ leBytes 2 100), 4, prog 4 0x0A01 (leBytes 2 9 ++ leBytes 1 3 ++ leBytes 1 3 ++ leBytes 4 5 ++ leBytes 2 100), 9, 3, 3, 5, 100, by decide +kernel⟩,
   ⟨waiting (((sets (rEid.setPort 3 up) [(aPortCfg 3, 0x17#32), (aCrt 2, 0x31000000#32), (aSeqRegion, 0xFF001040#32)]).setReg aDvtCfg 0x00090303#32)) 4 0x0A02 ([]), 4, prog 4 0x0A02 ([]), by decide +kernel⟩,
   ⟨(fun s : State => { s with pair := { s.pair with peerIn := 1, peerSide := 1 } }) (waiting ((((((sets (rEid.setPort 3 up) [(aPortCfg 3, 0x17#32), (aCrt 2, 0x31000000#32), (aSeqRegion, 0xFF001040#32)]).setReg aDvtCfg 0x00090303#32).setRf aDvt 31 29 1).setRf aDvt 28 27 2).setRf aDvt 26 26 0).setPort 17 up) 4 0x0A03 ([])), 4, prog 4 0x0A03 ([]), by decide +kernel⟩,
   ⟨(fun s : State => { s with pair := { s.pair with swapTag := some 4 } }) ((((((sets (rEid.setPort 3 up) [(aPortCfg 3, 0x17#32), (aCrt 2, 0x31000000#32), (aSeqRegion, 0xFF001040#32)]).setReg aDvtCfg 0x00090303#32).setRf aDvt 31 29 1).setRf aDvt 28 27 2).setRf aDvt 26 26 0)), by decide +kernel⟩⟩

theorem met_PairsClaimAndMirror_2 :
    (∃ (s : State), s.paired = true ∧ s.plinth ≠ 3 ∧ s.pwr.vinAon = true ∧ s.selfEid ≠ 0xFFFF) ∧
    (∃ (s : State) (b : List Byte), s.sideband = true ∧ b.length = 12 ∧ byteAt b 0 = 0x5A ∧ byteAt b 1 = 1 ∧ crc16 (slice b 1 9) = field b 10 2 ∧ s.paired = true ∧ bit (byteAt b 3) 2 = false) ∧
    (∃ (s : State) (port : Nat) (pkt : Pkt), Comes s port 0x24 pkt ∧ s.paired = true ∧ hSrc pkt.hdr = s.partner ∧ bit (byteAt pkt.hdr 21) 2 = false ∧ s.role ≠ 1) ∧
    (∃ (s : State) (inband : Bool), s.paired = true ∧ (s.rf aDvt (if inband then 24 else 25) (if inband then 24 else 25) = 1)) :=
  ⟨⟨((((((sets (rEid.setPort 3 up) [(aPortCfg 3, 0x17#32), (aCrt 2, 0x31000000#32), (aSeqRegion, 0xFF001040#32)]).setReg aDvtCfg 0x00090303#32).setRf aDvt 31 29 1).setRf aDvt 28 27 0).setRf aDvt 26 26 0).toDepth (dSw 0) .run), by decide +kernel⟩,
   ⟨((sets (rEid.setPort 3 up) [(aPortCfg 3, 0x17#32), (aCrt 2, 0x31000000#32), (aSeqRegion, 0xFF001040#32)]).setReg aDvtCfg 0x00090303#32), (let b : List Byte := leBytes 1 1 ++ leBytes 1 0 ++ leBytes 1 1 ++ leBytes 4 77 ++ leBytes 2 0; leBytes 1 0x5A ++ b ++ leBytes 2 (crc16 b)), by decide +kernel⟩,
   ⟨hearPair (((sets (rEid.setPort 3 up) [(aPortCfg 3, 0x17#32), (aCrt 2, 0x31000000#32), (aSeqRegion, 0xFF001040#32)]).setReg aDvtCfg 0x00090303#32)), 3, mkPkt 5 9 0x24 false false false 0 0 (leBytes 4 77 ++ leBytes 1 2 ++ leBytes 1 1 ++ leBytes 18 0) [], by decide +kernel⟩,
   ⟨((sets (rEid.setPort 3 up) [(aPortCfg 3, 0x17#32), (aCrt 2, 0x31000000#32), (aSeqRegion, 0xFF001040#32)]).setReg aDvtCfg 0x00090303#32).setRf aDvt 25 24 3, true, by decide +kernel⟩⟩

theorem met_PairsClaimAndMirror_3 :
    (∃ (s : State) (port : Nat) (pkt : Pkt), Comes s port 0x25 pkt ∧ s.paired = true ∧ hSrc pkt.hdr = s.partner ∧ byteAt pkt.hdr 16 = 1 ∧ s.role = 2 ∧ s.pairReady = true ∧ s.pair.mirrored = [] ∧ max s.claimReg s.peerClaim < 0xFFFFFFFF) ∧
    (∃ (s : State) (k st : Nat), k < 16 ∧ s.rf (aCrt k) 24 24 = 1 ∧ s.sideband = true ∧ s.role = 3 ∧ selMine st = false ∧ selTie st = false) ∧
    (∃ (s : State) (st : List Nat), s.sideband = true ∧ s.role = 1 ∧ ((∃ k ∈ s.dovetails, selMine (st.getD k (s.cart k).selStatus) = false))) ∧
    (∃ (s : State) (gap : Nat), s.role = 3 ∧ s.pair.mirrored = [] ∧ gap < 2 ^ 32) :=
  ⟨⟨hearPair ((((((sets (rEid.setPort 3 up) [(aPortCfg 3, 0x17#32), (aCrt 2, 0x31000000#32), (aSeqRegion, 0xFF001040#32)]).setReg aDvtCfg 0x00090303#32).setRf aDvt 31 29 2).setRf aDvt 28 27 0).setRf aDvt 26 26 1)), 3, mkPkt 5 9 0x25 false false false 0 0 (opP 1 0 0 0 0 0 0 0) ([]), by decide +kernel⟩,
   ⟨(((((sets (rEid.setPort 3 up) [(aPortCfg 3, 0x17#32), (aCrt 2, 0x31000000#32), (aSeqRegion, 0xFF001040#32)]).setReg aDvtCfg 0x00090303#32).setRf aDvt 31 29 3).setRf aDvt 28 27 0).setRf aDvt 26 26 0), 2, 1, by decide +kernel⟩,
   ⟨(((((sets (rEid.setPort 3 up) [(aPortCfg 3, 0x17#32), (aCrt 2, 0x31000000#32), (aSeqRegion, 0xFF001040#32)]).setReg aDvtCfg 0x00090303#32).setRf aDvt 31 29 1).setRf aDvt 28 27 2).setRf aDvt 26 26 0), List.replicate 16 1, by decide +kernel⟩,
   ⟨(((((sets (rEid.setPort 3 up) [(aPortCfg 3, 0x17#32), (aCrt 2, 0x31000000#32), (aSeqRegion, 0xFF001040#32)]).setReg aDvtCfg 0x00090303#32).setRf aDvt 31 29 3).setRf aDvt 28 27 0).setRf aDvt 26 26 0), 900, by decide +kernel⟩⟩

theorem met_PairsClaimAndMirror_4 :
    (∃ (s : State) (port : Nat) (pkt : Pkt) (typ seq key : Nat) (b : List Byte) (l : List (Nat × List Byte)), Comes s port 0x25 pkt ∧ s.paired = true ∧ hSrc pkt.hdr = s.partner ∧ byteAt pkt.hdr 16 = 2 ∧ s.role = 2 ∧ s.selfEid ≠ 0xFFFF ∧ byteAt pkt.hdr 17 = typ ∧ 1 ≤ typ ∧ typ ≤ 9 ∧ field pkt.hdr 20 4 = seq ∧ field pkt.hdr 24 4 = key ∧ field pkt.hdr 18 2 = 0 ∧ field pkt.hdr 28 2 = 1 ∧ b = (pkt.data.take 4096).take (field pkt.hdr 32 4) ∧ itemRecords typ key b = some l ∧ s.plinth = 0 ∧ s.pair.rxItems = [] ∧ s.pair.baseCount = none) ∧
    (∃ (s : State) (port : Nat) (pkt : Pkt) (m : MirItem), Comes s port 0x25 pkt ∧ s.paired = true ∧ hSrc pkt.hdr = s.partner ∧ byteAt pkt.hdr 16 = 3 ∧ Quiet s ∧ s.pair.unacked = [m] ∧ s.pair.waiting = [] ∧ m.seq = field pkt.hdr 20 4 ∧ m.typ = byteAt pkt.hdr 17 ∧ m.key = field pkt.hdr 24 4 ∧ m.tag = none ∧ s.role = 1 ∧ (s.mirState = 1 ∨ s.mirState = 2) ∧ s.pair.baseline = false) ∧
    (∃ (s : State) (port : Nat) (pkt : Pkt), Comes s port 0x25 pkt ∧ s.paired = true ∧ hSrc pkt.hdr = s.partner ∧ byteAt pkt.hdr 16 = 4 ∧ s.role = 2) ∧
    (∃ (s : State) (port : Nat) (pkt : Pkt), Comes s port 0x25 pkt ∧ s.paired = true ∧ hSrc pkt.hdr = s.partner ∧ byteAt pkt.hdr 16 = 5 ∧ s.role = 2 ∧ s.pair.baseline = true ∧ s.pair.swapTag = none ∧ s.pair.applied = field pkt.hdr 20 4) :=
  ⟨⟨hearPair ((((((sets (rEid.setPort 3 up) [(aPortCfg 3, 0x17#32), (aCrt 2, 0x31000000#32), (aSeqRegion, 0xFF001040#32)]).setReg aDvtCfg 0x00090303#32).setRf aDvt 31 29 2).setRf aDvt 28 27 1).setRf aDvt 26 26 0)), 3, mkPkt 5 9 0x25 false false false 0 0 (opP 2 9 0 6 0 1 0 4) (leBytes 4 5), 9, 6, 0, leBytes 4 5, [(0, leBytes 4 5)], by decide +kernel⟩,
   ⟨hearPair ((fun s : State => { s with pair := { s.pair with unacked := [{ seq := 6, typ := 9, key := 0, segs := 1, bytes := 4, got := [], tag := none, reply := [] }] } }) ((((((sets (rEid.setPort 3 up) [(aPortCfg 3, 0x17#32), (aCrt 2, 0x31000000#32), (aSeqRegion, 0xFF001040#32)]).setReg aDvtCfg 0x00090303#32).setRf aDvt 31 29 1).setRf aDvt 28 27 1).setRf aDvt 26 26 0))), 3, mkPkt 5 9 0x25 false false false 0 0 (opP 3 9 0 6 0 0 0 0) ([]), { seq := 6, typ := 9, key := 0, segs := 1, bytes := 4, got := [], tag := none, reply := [] }, by decide +kernel⟩,
   ⟨hearPair ((((((sets (rEid.setPort 3 up) [(aPortCfg 3, 0x17#32), (aCrt 2, 0x31000000#32), (aSeqRegion, 0xFF001040#32)]).setReg aDvtCfg 0x00090303#32).setRf aDvt 31 29 2).setRf aDvt 28 27 0).setRf aDvt 26 26 1)), 3, mkPkt 5 9 0x25 false false false 0 0 (opP 4 0 0 0 0 0 0 0) ([]), by decide +kernel⟩,
   ⟨hearPair ((fun s : State => { s with pair := { s.pair with applied := 6, baseline := true } }) ((((((sets (rEid.setPort 3 up) [(aPortCfg 3, 0x17#32), (aCrt 2, 0x31000000#32), (aSeqRegion, 0xFF001040#32)]).setReg aDvtCfg 0x00090303#32).setRf aDvt 31 29 2).setRf aDvt 28 27 1).setRf aDvt 26 26 0))), 3, mkPkt 5 9 0x25 false false false 0 0 (opP 5 0 0 6 0 0 0 0) ([]), by decide +kernel⟩⟩

theorem met_PairsClaimAndMirror_5 :
    (∃ (s : State), s.streaming = true ∧ s.pair.unacked ≠ []) ∧
    (∃ (s : State), s.streaming = true ∧ s.selfEid ≠ 0xFFFF) ∧
    (∃ (s : State) (path : Path) (v : Word), s.pathOk path = true ∧ fld v 0 0 = 1) ∧
    (∃ (s : State) (tag : Nat) (p : Prog) (eid a b claim hb : Nat), Waits s tag 0x0A01 p ∧ p.payload.length = 10 ∧ field p.payload 0 2 = eid ∧ byteAt p.payload 2 = a ∧ byteAt p.payload 3 = b ∧ field p.payload 4 4 = claim ∧ field p.payload 8 2 = hb ∧ s.role = 0 ∧ s.mirState = 0 ∧ eid ≠ 0xFFFF ∧ s.allMine = false ∧ (s.dovetailPorts.all (fun q => s.darkOrOff q) = true) ∧ s.fallback = false ∧ s.pair.swapTag = none ∧ a < 128 ∧ b < 128 ∧ s.portRole a = 3 ∧ s.portRole b = 3 ∧ 40 ≤ hb ∧ hb ≤ 10000 ∧ eid ≠ s.selfEid ∧ s.rf aSeqRegion 15 9 ≠ 0 ∧ ((∀ q ∈ s.dovetailPorts, hb + 164 ≤ s.rf (aHoldLim q) 12 0)) ∧ claim ≠ s.peerClaim) :=
  ⟨⟨(fun s : State => { s with pair := { s.pair with unacked := [{ seq := 6, typ := 9, key := 0, segs := 1, bytes := 4, got := [], tag := none, reply := [] }] } }) ((((((sets (rEid.setPort 3 up) [(aPortCfg 3, 0x17#32), (aCrt 2, 0x31000000#32), (aSeqRegion, 0xFF001040#32)]).setReg aDvtCfg 0x00090303#32).setRf aDvt 31 29 1).setRf aDvt 28 27 2).setRf aDvt 26 26 0)), by decide +kernel⟩,
   ⟨(((((sets (rEid.setPort 3 up) [(aPortCfg 3, 0x17#32), (aCrt 2, 0x31000000#32), (aSeqRegion, 0xFF001040#32)]).setReg aDvtCfg 0x00090303#32).setRf aDvt 31 29 1).setRf aDvt 28 27 2).setRf aDvt 26 26 0), by decide +kernel⟩,
   ⟨((sets (rEid.setPort 3 up) [(aPortCfg 3, 0x17#32), (aCrt 2, 0x31000000#32), (aSeqRegion, 0xFF001040#32)]).setReg aDvtCfg 0x00090303#32), .cuing, 1#32, by decide +kernel⟩,
   ⟨waiting ((((List.range 8).foldl (fun (s : State) i => s.setRf (aHoldLim (16 + i)) 12 0 500) ((sets (rEid.setPort 3 up) [(aPortCfg 3, 0x17#32), (aCrt 2, 0x31000000#32), (aSeqRegion, 0xFF001040#32)]).setCart 2 { cartReset with selStatus := 1 })))) 4 0x0A01 (leBytes 2 9 ++ leBytes 1 3 ++ leBytes 1 3 ++ leBytes 4 5 ++ leBytes 2 100), 4, prog 4 0x0A01 (leBytes 2 9 ++ leBytes 1 3 ++ leBytes 1 3 ++ leBytes 4 5 ++ leBytes 2 100), 9, 3, 3, 5, 100, by decide +kernel⟩⟩

theorem met_PairsClaimAndMirror_6 :
    (∃ (s : State) (tag : Nat) (p : Prog) (eid a b claim hb : Nat), Waits s tag 0x0A01 p ∧ p.payload.length = 10 ∧ field p.payload 0 2 = eid ∧ byteAt p.payload 2 = a ∧ byteAt p.payload 3 = b ∧ field p.payload 4 4 = claim ∧ field p.payload 8 2 = hb ∧ (s.fallback = true ∨ s.role = 3 ∨ s.pair.swapTag.isSome = true)) ∧
    (∃ (s : State) (tag : Nat) (p : Prog) (eid a b claim hb : Nat), Waits s tag 0x0A01 p ∧ p.payload.length = 10 ∧ field p.payload 0 2 = eid ∧ byteAt p.payload 2 = a ∧ byteAt p.payload 3 = b ∧ field p.payload 4 4 = claim ∧ field p.payload 8 2 = hb ∧ s.fallback = false ∧ s.role ≠ 3 ∧ s.pair.swapTag = none ∧ (128 ≤ a ∨ 128 ≤ b ∨ s.portRole a ≠ 3 ∨ s.portRole b ≠ 3 ∨ hb < 40 ∨ 10000 < hb ∨ eid = s.selfEid)) ∧
    (∃ (s : State) (tag : Nat) (p : Prog) (eid a b claim hb : Nat), Waits s tag 0x0A01 p ∧ p.payload.length = 10 ∧ field p.payload 0 2 = eid ∧ byteAt p.payload 2 = a ∧ byteAt p.payload 3 = b ∧ field p.payload 4 4 = claim ∧ field p.payload 8 2 = hb ∧ s.role ≠ 3 ∧ s.fallback = false ∧ s.pair.swapTag = none ∧ a < 128 ∧ b < 128 ∧ s.portRole a = 3 ∧ s.portRole b = 3 ∧ 40 ≤ hb ∧ hb ≤ 10000 ∧ eid ≠ s.selfEid ∧ s.rf aSeqRegion 15 9 = 0) ∧
    (∃ (s : State) (tag : Nat) (p : Prog) (eid a b claim hb : Nat), Waits s tag 0x0A01 p ∧ p.payload.length = 10 ∧ field p.payload 0 2 = eid ∧ byteAt p.payload 2 = a ∧ byteAt p.payload 3 = b ∧ field p.payload 4 4 = claim ∧ field p.payload 8 2 = hb ∧ s.role ≠ 3 ∧ s.fallback = false ∧ s.pair.swapTag = none ∧ a < 128 ∧ b < 128 ∧ s.portRole a = 3 ∧ s.portRole b = 3 ∧ 40 ≤ hb ∧ hb ≤ 10000 ∧ eid ≠ s.selfEid ∧ s.rf aSeqRegion 15 9 ≠ 0 ∧ ((∀ q ∈ s.dovetailPorts, hb + 164 ≤ s.rf (aHoldLim q) 12 0)) ∧ claim = s.peerClaim) :=
  ⟨⟨waiting ((sets (rEid.setPort 3 up) [(aPortCfg 3, 0x17#32), (aCrt 2, 0x31000000#32), (aSeqRegion, 0xFF001040#32)]).setRf aFw 29 29 1) 4 0x0A01 (leBytes 2 9 ++ leBytes 1 3 ++ leBytes 1 3 ++ leBytes 4 5 ++ leBytes 2 100), 4, prog 4 0x0A01 (leBytes 2 9 ++ leBytes 1 3 ++ leBytes 1 3 ++ leBytes 4 5 ++ leBytes 2 100), 9, 3, 3, 5, 100, by decide +kernel⟩,
   ⟨waiting ((sets (rEid.setPort 3 up) [(aPortCfg 3, 0x17#32), (aCrt 2, 0x31000000#32), (aSeqRegion, 0xFF001040#32)])) 4 0x0A01 (leBytes 2 9 ++ leBytes 1 3 ++ leBytes 1 3 ++ leBytes 4 5 ++ leBytes 2 39), 4, prog 4 0x0A01 (leBytes 2 9 ++ leBytes 1 3 ++ leBytes 1 3 ++ leBytes 4 5 ++ leBytes 2 39), 9, 3, 3, 5, 39, by decide +kernel⟩,
   ⟨waiting ((sets (rEid.setPort 3 up) [(aPortCfg 3, 0x17#32), (aCrt 2, 0x31000000#32), (aSeqRegion, 0xFF001040#32)]).setReg aSeqRegion 0xFF000040#32) 4 0x0A01 (leBytes 2 9 ++ leBytes 1 3 ++ leBytes 1 3 ++ leBytes 4 5 ++ leBytes 2 100), 4, prog 4 0x0A01 (leBytes 2 9 ++ leBytes 1 3 ++ leBytes 1 3 ++ leBytes 4 5 ++ leBytes 2 100), 9, 3, 3, 5, 100, by decide +kernel⟩,
   ⟨waiting ((((List.range 8).foldl (fun (s : State) i => s.setRf (aHoldLim (16 + i)) 12 0 500) ((sets (rEid.setPort 3 up) [(aPortCfg 3, 0x17#32), (aCrt 2, 0x31000000#32), (aSeqRegion, 0xFF001040#32)]).setReg aPeerClaim 5#32)))) 4 0x0A01 (leBytes 2 9 ++ leBytes 1 3 ++ leBytes 1 3 ++ leBytes 4 5 ++ leBytes 2 100), 4, prog 4 0x0A01 (leBytes 2 9 ++ leBytes 1 3 ++ leBytes 1 3 ++ leBytes 4 5 ++ leBytes 2 100), 9, 3, 3, 5, 100, by decide +kernel⟩⟩

theorem met_PairsClaimAndMirror_7 :
    (∃ (s : State) (tag : Nat) (p : Prog), Waits s tag 0x0A03 p ∧ p.payload = [] ∧ s.role = 1 ∧ s.fallback = false ∧ s.pair.swapTag = none ∧ (bit s.pair.peerIn 0 = false ∨ bit s.pair.peerSide 0 = false)) ∧
    (∃ (s : State) (tag : Nat) (p : Prog), Waits s tag 0x0A03 p ∧ p.payload = [] ∧ s.role ≠ 1) ∧
    (∃ (s : State), s.paired = true ∧ s.plinth ≠ 3 ∧ s.pwr.vinAon = true ∧ s.selfEid = 0xFFFF) ∧
    (∃ (s : State) (b : List Byte), s.sideband = true ∧ (b.length ≠ 12 ∨ byteAt b 0 ≠ 0x5A ∨ (byteAt b 1 ≠ 1 ∧ byteAt b 1 ≠ 2) ∨ crc16 (slice b 1 9) ≠ field b 10 2)) :=
  ⟨⟨(fun s : State => { s with pair := { s.pair with peerIn := 1, peerSide := 0 } }) (waiting ((((((sets (rEid.setPort 3 up) [(aPortCfg 3, 0x17#32), (aCrt 2, 0x31000000#32), (aSeqRegion, 0xFF001040#32)]).setReg aDvtCfg 0x00090303#32).setRf aDvt 31 29 1).setRf aDvt 28 27 2).setRf aDvt 26 26 0).setPort 17 up) 4 0x0A03 ([])), 4, prog 4 0x0A03 ([]), by decide +kernel⟩,
   ⟨waiting (((sets (rEid.setPort 3 up) [(aPortCfg 3, 0x17#32), (aCrt 2, 0x31000000#32), (aSeqRegion, 0xFF001040#32)]).setReg aDvtCfg 0x00090303#32)) 4 0x0A03 ([]), 4, prog 4 0x0A03 ([]), by decide +kernel⟩,
   ⟨(((((((sets (rEid.setPort 3 up) [(aPortCfg 3, 0x17#32), (aCrt 2, 0x31000000#32), (aSeqRegion, 0xFF001040#32)]).setReg aDvtCfg 0x00090303#32).setRf aDvt 31 29 1).setRf aDvt 28 27 0).setRf aDvt 26 26 0).toDepth (dSw 0) .run).setReg aSelfEid 0xFFFF#32), by decide +kernel⟩,
   ⟨((sets (rEid.setPort 3 up) [(aPortCfg 3, 0x17#32), (aCrt 2, 0x31000000#32), (aSeqRegion, 0xFF001040#32)]).setReg aDvtCfg 0x00090303#32), [0x5A#8], by decide +kernel⟩⟩

theorem met_PairsClaimAndMirror_8 :
    (∃ (s : State) (port : Nat) (pkt : Pkt), Comes s port 0x24 pkt ∧ s.paired = true ∧ hSrc pkt.hdr = s.partner ∧ bit (byteAt pkt.hdr 21) 2 = false ∧ s.role = 1 ∧ byteAt pkt.hdr 20 = 2 ∧ (s.mirState = 0 ∨ s.mirState = 3) ∧ s.fallback = false ∧ s.livePair.isSome = true ∧ s.selfEid ≠ 0xFFFF) ∧
    (∃ (s : State) (inband : Bool), s.paired = true ∧ (s.rf aDvt (if inband then 24 else 25) (if inband then 24 else 25) = 0) ∧ s.role = 1 ∧ s.mirState ≠ 0) ∧
    (∃ (s : State) (inband : Bool), s.paired = true ∧ (s.rf aDvt (if inband then 24 else 25) (if inband then 24 else 25) = 0) ∧ s.role = 2 ∧ s.pairReady = true ∧ s.pair.mirrored = [] ∧ max s.claimReg s.peerClaim < 0xFFFFFFFF) ∧
    (∃ (s : State) (inband : Bool), s.paired = true ∧ (s.rf aDvt (if inband then 24 else 25) (if inband then 24 else 25) = 0) ∧ s.role = 2 ∧ s.pairReady = true ∧ max s.claimReg s.peerClaim = 0xFFFFFFFF) :=
  ⟨⟨hearPair ((((((sets (rEid.setPort 3 up) [(aPortCfg 3, 0x17#32), (aCrt 2, 0x31000000#32), (aSeqRegion, 0xFF001040#32)]).setReg aDvtCfg 0x00090303#32).setRf aDvt 31 29 1).setRf aDvt 28 27 0).setRf aDvt 26 26 0)), 3, mkPkt 5 9 0x24 false false false 0 0 (leBytes 4 77 ++ leBytes 1 2 ++ leBytes 1 1 ++ leBytes 18 0) [], by decide +kernel⟩,
   ⟨(((((sets (rEid.setPort 3 up) [(aPortCfg 3, 0x17#32), (aCrt 2, 0x31000000#32), (aSeqRegion, 0xFF001040#32)]).setReg aDvtCfg 0x00090303#32).setRf aDvt 31 29 1).setRf aDvt 28 27 2).setRf aDvt 26 26 0), true, by decide +kernel⟩,
   ⟨(((((sets (rEid.setPort 3 up) [(aPortCfg 3, 0x17#32), (aCrt 2, 0x31000000#32), (aSeqRegion, 0xFF001040#32)]).setReg aDvtCfg 0x00090303#32).setRf aDvt 31 29 2).setRf aDvt 28 27 0).setRf aDvt 26 26 1), true, by decide +kernel⟩,
   ⟨(((((sets (rEid.setPort 3 up) [(aPortCfg 3, 0x17#32), (aCrt 2, 0x31000000#32), (aSeqRegion, 0xFF001040#32)]).setReg aDvtCfg 0x00090303#32).setRf aDvt 31 29 2).setRf aDvt 28 27 0).setRf aDvt 26 26 1).setReg aPeerClaim 0xFFFFFFFF#32, true, by decide +kernel⟩⟩

theorem met_PairsClaimAndMirror_9 :
    (∃ (s : State) (inband : Bool), s.paired = true ∧ (s.rf aDvt (if inband then 24 else 25) (if inband then 24 else 25) = 0) ∧ s.role = 2 ∧ s.pairReady = false) ∧
    (∃ (s : State) (k st : Nat), k < 16 ∧ s.rf (aCrt k) 24 24 = 1 ∧ s.sideband = true ∧ s.role = 3 ∧ selMine st = true ∧ selTie st = false ∧ s.rf (aCrt k) 31 28 = 3) ∧
    (∃ (s : State) (k st : Nat), k < 16 ∧ s.rf (aCrt k) 24 24 = 1 ∧ s.sideband = true ∧ s.role = 3 ∧ selMine st = false ∧ selTie st = true) ∧
    (∃ (s : State) (k st : Nat), k < 16 ∧ s.rf (aCrt k) 24 24 = 1 ∧ s.sideband = true ∧ s.role = 2 ∧ s.pairReady = false ∧ (s.cart k).claim = some s.claimReg ∧ s.claimReg ≠ 0 ∧ ((∀ j ∈ s.dovetails, j ≠ k → selMine (s.cart j).selStatus = true)) ∧ selMine st = true) :=
  ⟨⟨(((((sets (rEid.setPort 3 up) [(aPortCfg 3, 0x17#32), (aCrt 2, 0x31000000#32), (aSeqRegion, 0xFF001040#32)]).setReg aDvtCfg 0x00090303#32).setRf aDvt 31 29 2).setRf aDvt 28 27 0).setRf aDvt 26 26 0), true, by decide +kernel⟩,
   ⟨(((((sets (rEid.setPort 3 up) [(aPortCfg 3, 0x17#32), (aCrt 2, 0x31000000#32), (aSeqRegion, 0xFF001040#32)]).setReg aDvtCfg 0x00090303#32).setRf aDvt 31 29 3).setRf aDvt 28 27 0).setRf aDvt 26 26 0).setPort 17 held, 2, 0, by decide +kernel⟩,
   ⟨(((((sets (rEid.setPort 3 up) [(aPortCfg 3, 0x17#32), (aCrt 2, 0x31000000#32), (aSeqRegion, 0xFF001040#32)]).setReg aDvtCfg 0x00090303#32).setRf aDvt 31 29 3).setRf aDvt 28 27 0).setRf aDvt 26 26 0), 2, 3, by decide +kernel⟩,
   ⟨((((((sets (rEid.setPort 3 up) [(aPortCfg 3, 0x17#32), (aCrt 2, 0x31000000#32), (aSeqRegion, 0xFF001040#32)]).setReg aDvtCfg 0x00090303#32).setRf aDvt 31 29 2).setRf aDvt 28 27 0).setRf aDvt 26 26 0).setReg aClaim 5#32).setCart 2 { cartReset with claim := some 5 }, 2, 0, by decide +kernel⟩⟩

theorem met_PairsClaimAndMirror_10 :
    (∃ (s : State) (st : List Nat), (s.role ≠ 1 ∨ (∀ k ∈ s.dovetails, selMine (st.getD k (s.cart k).selStatus) = true))) ∧
    (∃ (s : State) (port : Nat) (pkt : Pkt) (seq key : Nat), Comes s port 0x25 pkt ∧ s.paired = true ∧ hSrc pkt.hdr = s.partner ∧ byteAt pkt.hdr 16 = 2 ∧ s.role = 2 ∧ s.selfEid ≠ 0xFFFF ∧ (byteAt pkt.hdr 17 = 0 ∨ 10 < byteAt pkt.hdr 17) ∧ field pkt.hdr 20 4 = seq ∧ field pkt.hdr 24 4 = key) ∧
    (∃ (s : State) (port : Nat) (pkt : Pkt), Comes s port 0x25 pkt ∧ s.paired = true ∧ hSrc pkt.hdr = s.partner ∧ byteAt pkt.hdr 16 = 5 ∧ s.role = 2 ∧ s.pair.baseline = true ∧ s.pair.applied ≠ field pkt.hdr 20 4) ∧
    (∃ (s : State), s.role = 2 ∧ s.plinth = 2) :=
  ⟨⟨(((((sets (rEid.setPort 3 up) [(aPortCfg 3, 0x17#32), (aCrt 2, 0x31000000#32), (aSeqRegion, 0xFF001040#32)]).setReg aDvtCfg 0x00090303#32).setRf aDvt 31 29 1).setRf aDvt 28 27 2).setRf aDvt 26 26 0), List.replicate 16 0, by decide +kernel⟩,
   ⟨hearPair ((((((sets (rEid.setPort 3 up) [(aPortCfg 3, 0x17#32), (aCrt 2, 0x31000000#32), (aSeqRegion, 0xFF001040#32)]).setReg aDvtCfg 0x00090303#32).setRf aDvt 31 29 2).setRf aDvt 28 27 1).setRf aDvt 26 26 0)), 3, mkPkt 5 9 0x25 false false false 0 0 (opP 2 11 0 6 0 1 0 4) (leBytes 4 5), 6, 0, by decide +kernel⟩,
   ⟨hearPair ((fun s : State => { s with pair := { s.pair with applied := 5, baseline := true } }) ((((((sets (rEid.setPort 3 up) [(aPortCfg 3, 0x17#32), (aCrt 2, 0x31000000#32), (aSeqRegion, 0xFF001040#32)]).setReg aDvtCfg 0x00090303#32).setRf aDvt 31 29 2).setRf aDvt 28 27 1).setRf aDvt 26 26 0))), 3, mkPkt 5 9 0x25 false false false 0 0 (opP 5 0 0 6 0 0 0 0) ([]), by decide +kernel⟩,
   ⟨(((((sets (rEid.setPort 3 up) [(aPortCfg 3, 0x17#32), (aCrt 2, 0x31000000#32), (aSeqRegion, 0xFF001040#32)]).setReg aDvtCfg 0x00090303#32).setRf aDvt 31 29 2).setRf aDvt 28 27 2).setRf aDvt 26 26 1).setRf aFw 31 30 2, by decide +kernel⟩⟩

theorem met_CountersSamplesAndMaps_1 :
    (∃ (s : State) (id k : Nat), ctrScope id = some k ∧ s.rf id 31 31 = 1 ∧ s.isOff (heldIn id) = false ∧ s.ctr id = 2 ^ 48 - 1 ∧ s.rf id 29 29 = 0 ∧ (s.rf id 28 28 = 0 ∨ s.rf (id + 0xC) 31 0 = 0)) ∧
    (∃ (s : State) (path : Path) (id : Nat) (v : Word) (k : Nat), ctrScope id = some k ∧ s.pathOk path = true ∧ s.isOff (heldIn id) = false ∧ s.sealed = false ∧ ctrCfgOk k v = true) ∧
    (∃ (s : State) (path : Path) (id k : Nat), ctrScope id = some k ∧ s.pathOk path = true ∧ s.isOff (heldIn (id + 4)) = false ∧ (tabGet (fun _ => none) s.cnt.latch (id + 4) = none)) ∧
    (∃ (s : State) (x j time : Nat) (it : Item) (h : Nat), x < 1024 ∧ (s.ctx x).sample = some (j, time) ∧ s.ctxItem x = some it ∧ s.sealed = false ∧ h = s.rf (aSampHead (x / 128)) 8 0 ∧ (h + 512 - s.rf (aSampTail (x / 128)) 8 0) % 512 < 256) :=
  ⟨⟨((rFw.setReg 0x00600200 0x80000080#32).setReg (0x00600200 + 4) 0xFFFFFFFF#32).setRf (0x00600200 + 8) 15 0 0xFFFF, 0x00600200, 2, by decide +kernel⟩,
   ⟨rFw.toDepth (dShu 0) .run, .cuing, 0x00851000, 0x90800001#32, 0, by decide +kernel⟩,
   ⟨rFw.setReg (0x00600200 + 4) 77#32, .cuing, 0x00600200, 2, by decide +kernel⟩,
   ⟨onCtx rEid { ctx0 with pc := 64, sample := some (2, 99) }, 0, 2, 99, item (some 0), 0, by decide +kernel⟩⟩

theorem met_CountersSamplesAndMaps_2 :
    (∃ (s : State), s.pwr.vinAon = true ∧ s.rf aMapCfg 31 16 ≠ 0xFFFF ∧ s.selfEid ≠ 0xFFFF) ∧
    (∃ (s : State) (path : Path) (v : Word), s.pathOk path = true ∧ fld v 0 0 = 1) ∧
    (∃ (s : State) (path : Path) (n : Nat) (v : Word), n < 8 ∧ s.pathOk path = true ∧ fld v 0 0 = 1) ∧
    (∃ (s : State) (id k : Nat), ctrScope id = some k ∧ s.rf id 31 31 = 1 ∧ s.isOff (heldIn id) = false ∧ s.ctr id = 2 ^ 48 - 1 ∧ s.rf id 29 28 = 1 ∧ s.rf (id + 0xC) 31 0 ≠ 0 ∧ k = 0) :=
  ⟨⟨rEid.setReg aMapCfg 0x00090064#32, by decide +kernel⟩,
   ⟨r0, .cuing, 1#32, by decide +kernel⟩,
   ⟨r0, .cuing, 3, 1#32, by decide +kernel⟩,
   ⟨((((rFw.toDepth (dShu 0) .run).setReg 0x00851000 0x90000001#32).setReg (0x00851000 + 4) 0xFFFFFFFF#32).setRf (0x00851000 + 8) 15 0 0xFFFF).setReg (0x00851000 + 12) 1000#32, 0x00851000, 0, by decide +kernel⟩⟩

theorem met_CountersSamplesAndMaps_3 :
    (∃ (s : State) (id k : Nat), ctrScope id = some k ∧ s.rf id 31 31 = 1 ∧ s.isOff (heldIn id) = false ∧ s.ctr id = 2 ^ 48 - 1 ∧ s.rf id 29 29 = 1 ∧ s.ctr (id + 16) < 2 ^ 48 - 1 ∧ ctrLast id k = false ∧ k ≠ 0) ∧
    (∃ (s : State) (id k : Nat), ctrScope id = some k ∧ (s.rf id 31 31 = 0 ∨ s.ctr id ≠ 2 ^ 48 - 1)) ∧
    (∃ (s : State) (path : Path) (id : Nat) (v : Word) (k : Nat), ctrScope id = some k ∧ s.pathOk path = true ∧ s.isOff (heldIn id) = false ∧ s.sealed = false ∧ ctrCfgOk k v = false) ∧
    (∃ (s : State) (x j time : Nat) (it : Item) (h : Nat), x < 1024 ∧ (s.ctx x).sample = some (j, time) ∧ s.ctxItem x = some it ∧ s.sealed = false ∧ h = s.rf (aSampHead (x / 128)) 8 0 ∧ 256 ≤ (h + 512 - s.rf (aSampTail (x / 128)) 8 0) % 512) :=
  ⟨⟨((rFw.setReg 0x00600200 0xA0000080#32).setReg (0x00600200 + 4) 0xFFFFFFFF#32).setRf (0x00600200 + 8) 15 0 0xFFFF, 0x00600200, 2, by decide +kernel⟩,
   ⟨rFw, 0x00600200, 2, by decide +kernel⟩,
   ⟨rFw, .cuing, 0x00600200, 0x90000080#32, 2, by decide +kernel⟩,
   ⟨(onCtx rEid { ctx0 with pc := 64, sample := some (2, 99) }).setRf (aSampHead 0) 8 0 256, 0, 2, 99, item (some 0), 256, by decide +kernel⟩⟩

theorem met_CountersSamplesAndMaps_4 :
    ∃ (s : State), s.pwr.vinAon = true ∧ (s.rf aMapCfg 31 16 = 0xFFFF ∨ s.selfEid = 0xFFFF) :=
  ⟨r0, by decide +kernel⟩

theorem met_ResetsAndSelfTests_1 :
    (∃ (s : State) (tag : Nat) (p : Prog), Waits s tag 0x0D01 p ∧ p.payload.length = 3 ∧ byteAt p.payload 0 = 1) ∧
    (∃ (s : State) (tag : Nat) (p : Prog), Waits s tag 0x0D01 p ∧ p.payload.length = 3 ∧ byteAt p.payload 0 = 2 ∧ s.role = 0 ∧ (List.range 8).all s.cycling = false) ∧
    (∃ (s : State) (tag : Nat) (p : Prog), Waits s tag 0x0D01 p ∧ p.payload.length = 3 ∧ byteAt p.payload 0 = 3 ∧ byteAt p.payload 1 < 8 ∧ s.role ≠ 3 ∧ s.cycling (byteAt p.payload 1) = false) ∧
    (∃ (s : State) (tag : Nat) (p : Prog), Waits s tag 0x0D01 p ∧ p.payload.length = 3 ∧ byteAt p.payload 0 = 4 ∧ byteAt p.payload 2 < 128 ∧ s.role ≠ 3 ∧ s.cycling (byteAt p.payload 2 / 16) = false) :=
  ⟨⟨waiting ((((loaded (run rEid 3)).setPort 3 up).memPut 100 [7#8])) 4 0x0D01 ([1#8, 0#8, 0#8]), 4, prog 4 0x0D01 ([1#8, 0#8, 0#8]), by decide +kernel⟩,
   ⟨waiting ((((loaded (run rEid 3)).setPort 3 up).memPut 100 [7#8])) 4 0x0D01 ([2#8, 0#8, 0#8]), 4, prog 4 0x0D01 ([2#8, 0#8, 0#8]), by decide +kernel⟩,
   ⟨waiting (((loaded (run rEid 3)).setPort 3 up)) 4 0x0D01 ([3#8, 0#8, 0#8]), 4, prog 4 0x0D01 ([3#8, 0#8, 0#8]), by decide +kernel⟩,
   ⟨waiting (((loaded (run rEid 3)).setPort 3 up)) 4 0x0D01 ([4#8, 0#8, 3#8]), 4, prog 4 0x0D01 ([4#8, 0#8, 3#8]), by decide +kernel⟩⟩

theorem met_ResetsAndSelfTests_2 :
    (∃ (s : State) (tag : Nat) (p : Prog) (n : Nat), Waits s tag 0x0C01 p ∧ p.payload.length = 4 ∧ field p.payload 0 2 = 1 ∧ field p.payload 2 2 = n ∧ n < testTargets 1 ∧ s.fallback = false ∧ (s.pwr.tests.any (fun u => decide (testUnit u.1 = testUnit 1) && decide (u.2.1 = n)) = false) ∧ s.refOk = true) ∧
    (∃ (s : State) (tag : Nat) (p : Prog) (n : Nat), Waits s tag 0x0C01 p ∧ p.payload.length = 4 ∧ field p.payload 0 2 = 2 ∧ field p.payload 2 2 = n ∧ n < testTargets 2 ∧ s.fallback = false ∧ (s.pwr.tests.any (fun u => decide (testUnit u.1 = testUnit 2) && decide (u.2.1 = n)) = false) ∧ s.ctlDown (n / 16) = false ∧ (s.port n).lstate = .active ∧ 1 < (bitList 4 (s.port n).laneActive).length ∧ (s.port n).widthReq = none) ∧
    (∃ (s : State) (tag : Nat) (p : Prog) (n : Nat), Waits s tag 0x0C01 p ∧ p.payload.length = 4 ∧ field p.payload 0 2 = 3 ∧ field p.payload 2 2 = n ∧ n < testTargets 3 ∧ s.fallback = false ∧ (s.pwr.tests.any (fun u => decide (testUnit u.1 = testUnit 3) && decide (u.2.1 = n)) = false) ∧ (s.port n).lstate = .dark) ∧
    (∃ (s : State) (tag : Nat) (p : Prog) (n : Nat), Waits s tag 0x0C01 p ∧ p.payload.length = 4 ∧ field p.payload 0 2 = 4 ∧ field p.payload 2 2 = n ∧ n < testTargets 4 ∧ s.fallback = false ∧ (s.pwr.tests.any (fun u => decide (testUnit u.1 = testUnit 4) && decide (u.2.1 = n)) = false) ∧ ((∀ q ∈ clusterPorts n, s.darkOrOff q = true)) ∧ ((∀ it ∈ s.shed.items, it.cluster ≠ n)) ∧ s.granHeld n = 0) :=
  ⟨⟨waiting (rFw.setRf aClk 1 1 1) 4 0x0C01 (leBytes 2 1 ++ leBytes 2 0), 4, prog 4 0x0C01 (leBytes 2 1 ++ leBytes 2 0), 0, by decide +kernel⟩,
   ⟨waiting (rFw.setPort 3 { up with laneActive := 3 }) 4 0x0C01 (leBytes 2 2 ++ leBytes 2 3), 4, prog 4 0x0C01 (leBytes 2 2 ++ leBytes 2 3), 3, by decide +kernel⟩,
   ⟨waiting (rFw) 4 0x0C01 (leBytes 2 3 ++ leBytes 2 0), 4, prog 4 0x0C01 (leBytes 2 3 ++ leBytes 2 0), 0, by decide +kernel⟩,
   ⟨waiting (rFw) 4 0x0C01 (leBytes 2 4 ++ leBytes 2 0), 4, prog 4 0x0C01 (leBytes 2 4 ++ leBytes 2 0), 0, by decide +kernel⟩⟩

theorem met_ResetsAndSelfTests_3 :
    (∃ (s : State) (tag : Nat) (p : Prog) (n : Nat), Waits s tag 0x0C01 p ∧ p.payload.length = 4 ∧ field p.payload 0 2 = 5 ∧ field p.payload 2 2 = n ∧ n < testTargets 5 ∧ s.fallback = false ∧ (s.pwr.tests.any (fun u => decide (testUnit u.1 = testUnit 5) && decide (u.2.1 = n)) = false)) ∧
    (∃ (s : State) (tag : Nat) (p : Prog) (n : Nat), Waits s tag 0x0C01 p ∧ p.payload.length = 4 ∧ field p.payload 0 2 = 6 ∧ field p.payload 2 2 = n ∧ n < testTargets 6 ∧ s.fallback = false ∧ (s.pwr.tests.any (fun u => decide (testUnit u.1 = testUnit 6) && decide (u.2.1 = n)) = false)) ∧
    (∃ (s : State) (tag : Nat) (p : Prog) (n : Nat), Waits s tag 0x0C01 p ∧ p.payload.length = 4 ∧ field p.payload 0 2 = 7 ∧ field p.payload 2 2 = n ∧ n < testTargets 7 ∧ s.fallback = false ∧ (s.pwr.tests.any (fun u => decide (testUnit u.1 = testUnit 7) && decide (u.2.1 = n)) = false)) ∧
    (∃ (s : State) (tag : Nat) (p : Prog) (n : Nat), Waits s tag 0x0C01 p ∧ p.payload.length = 4 ∧ field p.payload 0 2 = 8 ∧ field p.payload 2 2 = n ∧ n < testTargets 8 ∧ s.fallback = false ∧ (s.pwr.tests.any (fun u => decide (testUnit u.1 = testUnit 8) && decide (u.2.1 = n)) = false)) :=
  ⟨⟨waiting (rFw) 4 0x0C01 (leBytes 2 5 ++ leBytes 2 0), 4, prog 4 0x0C01 (leBytes 2 5 ++ leBytes 2 0), 0, by decide +kernel⟩,
   ⟨waiting (rFw) 4 0x0C01 (leBytes 2 6 ++ leBytes 2 0), 4, prog 4 0x0C01 (leBytes 2 6 ++ leBytes 2 0), 0, by decide +kernel⟩,
   ⟨waiting (rFw) 4 0x0C01 (leBytes 2 7 ++ leBytes 2 0), 4, prog 4 0x0C01 (leBytes 2 7 ++ leBytes 2 0), 0, by decide +kernel⟩,
   ⟨waiting (rFw) 4 0x0C01 (leBytes 2 8 ++ leBytes 2 0), 4, prog 4 0x0C01 (leBytes 2 8 ++ leBytes 2 0), 0, by decide +kernel⟩⟩

theorem met_ResetsAndSelfTests_4 :
    (∃ (s : State) (tag : Nat) (p : Prog) (n : Nat), Waits s tag 0x0C01 p ∧ p.payload.length = 4 ∧ field p.payload 0 2 = 9 ∧ field p.payload 2 2 = n ∧ n < testTargets 9 ∧ s.fallback = false ∧ (s.pwr.tests.any (fun u => decide (testUnit u.1 = testUnit 9) && decide (u.2.1 = n)) = false)) ∧
    (∃ (s : State) (k n e _d tag : Nat) (p : Prog), s.pwr.tests = [(k, n, tag)] ∧ (s.host.prog.find? (fun q => decide (q.tag = tag)) = some p) ∧ p.origin = .host ∧ p.gone = false ∧ s.ringUp 1 = true ∧ (k = 1 ∨ k = 3 ∨ k = 9 ∨ (k = 8 ∧ e = 0))) ∧
    (∃ (s : State) (tag : Nat) (p : Prog), Waits s tag 0x0D01 p ∧ p.payload.length = 3 ∧ byteAt p.payload 0 = 4 ∧ byteAt p.payload 2 < 128 ∧ s.role = 3) ∧
    (∃ (s : State) (tag : Nat) (p : Prog), Waits s tag 0x0D01 p ∧ p.payload.length = 3 ∧ byteAt p.payload 0 = 3 ∧ 8 ≤ byteAt p.payload 1) :=
  ⟨⟨waiting (rFw) 4 0x0C01 (leBytes 2 9 ++ leBytes 2 0), 4, prog 4 0x0C01 (leBytes 2 9 ++ leBytes 2 0), 0, by decide +kernel⟩,
   ⟨(fun s : State => { s with pwr := { s.pwr with tests := [(9, 2, 4)] } }) (waiting (rFw) 4 0x0C01 (leBytes 2 9 ++ leBytes 2 2)), 9, 2, 1, 0, 4, prog 4 0x0C01 (leBytes 2 9 ++ leBytes 2 2), by decide +kernel⟩,
   ⟨waiting (rFw.setRf aDvt 31 29 3) 4 0x0D01 ([4#8, 0#8, 3#8]), 4, prog 4 0x0D01 ([4#8, 0#8, 3#8]), by decide +kernel⟩,
   ⟨waiting (rFw) 4 0x0D01 ([3#8, 8#8, 0#8]), 4, prog 4 0x0D01 ([3#8, 8#8, 0#8]), by decide +kernel⟩⟩

theorem met_ResetsAndSelfTests_5 :
    (∃ (s : State) (tag : Nat) (p : Prog) (n : Nat), Waits s tag 0x0C01 p ∧ p.payload.length = 4 ∧ field p.payload 0 2 = 1 ∧ field p.payload 2 2 = n ∧ n < testTargets 1 ∧ s.fallback = false ∧ (s.pwr.tests.any (fun u => decide (testUnit u.1 = testUnit 1) && decide (u.2.1 = n)) = false) ∧ s.refOk = false) ∧
    (∃ (s : State) (tag : Nat) (p : Prog) (n : Nat), Waits s tag 0x0C01 p ∧ p.payload.length = 4 ∧ field p.payload 0 2 = 5 ∧ field p.payload 2 2 = n ∧ n < testTargets 5 ∧ s.fallback = false ∧ (s.pwr.tests.any (fun u => decide (u.1 = 5) && decide (u.2.1 = n)) = true)) ∧
    (∃ (s : State) (tag : Nat) (p : Prog) (n : Nat), Waits s tag 0x0C01 p ∧ p.payload.length = 4 ∧ field p.payload 0 2 = 9 ∧ field p.payload 2 2 = n ∧ n < testTargets 9 ∧ s.fallback = true) ∧
    (∃ (s : State) (k n _e d tag : Nat) (p : Prog), s.pwr.tests = [(k, n, tag)] ∧ (s.host.prog.find? (fun q => decide (q.tag = tag)) = some p) ∧ p.origin = .host ∧ p.gone = false ∧ s.ringUp 1 = true ∧ k = 5 ∧ d = 1 ∧ s.emergency = false ∧ s.role ≠ 3 ∧ (s.shed.items.all (fun i => i.runs.all (fun y => decide (y / 4 ≠ n))) = true)) :=
  ⟨⟨waiting (rFw.setRf aClk 1 1 0) 4 0x0C01 (leBytes 2 1 ++ leBytes 2 0), 4, prog 4 0x0C01 (leBytes 2 1 ++ leBytes 2 0), 0, by decide +kernel⟩,
   ⟨waiting ({ rFw with pwr := { rFw.pwr with tests := [(5, 0, 9)] } }) 4 0x0C01 (leBytes 2 5 ++ leBytes 2 0), 4, prog 4 0x0C01 (leBytes 2 5 ++ leBytes 2 0), 0, by decide +kernel⟩,
   ⟨waiting (rFw.setRf aFw 29 29 1) 4 0x0C01 (leBytes 2 9 ++ leBytes 2 0), 4, prog 4 0x0C01 (leBytes 2 9 ++ leBytes 2 0), 0, by decide +kernel⟩,
   ⟨(fun s : State => { s with pwr := { s.pwr with tests := [(5, 7, 4)] } }) (waiting (rFw) 4 0x0C01 (leBytes 2 5 ++ leBytes 2 7)), 5, 7, 3, 1, 4, prog 4 0x0C01 (leBytes 2 5 ++ leBytes 2 7), by decide +kernel⟩⟩

theorem met_ResetsAndSelfTests_6 :
    (∃ (s : State) (k n e _d tag : Nat) (p : Prog), s.pwr.tests = [(k, n, tag)] ∧ (s.host.prog.find? (fun q => decide (q.tag = tag)) = some p) ∧ p.origin = .host ∧ p.gone = false ∧ s.ringUp 1 = true ∧ k = 4 ∧ e ≠ 0 ∧ n < 8 ∧ s.emergency = false ∧ s.role ≠ 3) ∧
    (∃ (s : State) (k n e _d tag : Nat) (p : Prog), s.pwr.tests = [(k, n, tag)] ∧ (s.host.prog.find? (fun q => decide (q.tag = tag)) = some p) ∧ p.origin = .host ∧ p.gone = false ∧ s.ringUp 1 = true ∧ k = 8 ∧ e ≠ 0) ∧
    (∃ (s : State) (k _n _e _d : Nat), 4 ≤ k ∧ k ≤ 7 ∧ (s.emergency = true ∨ s.role = 3)) :=
  ⟨⟨(fun s : State => { s with pwr := { s.pwr with tests := [(4, 2, 4)] } }) (waiting (rFw) 4 0x0C01 (leBytes 2 4 ++ leBytes 2 2)), 4, 2, 3, 0, 4, prog 4 0x0C01 (leBytes 2 4 ++ leBytes 2 2), by decide +kernel⟩,
   ⟨(fun s : State => { s with pwr := { s.pwr with tests := [(8, 0, 4)] } }) (waiting (rFw) 4 0x0C01 (leBytes 2 8 ++ leBytes 2 0)), 8, 0, 1, 0, 4, prog 4 0x0C01 (leBytes 2 8 ++ leBytes 2 0), by decide +kernel⟩,
   ⟨(fun s : State => { s with trd := { s.trd with supplyOn := true } }) ((fun s : State => { s with pwr := { s.pwr with tests := [(6, 2, 4)] } }) (waiting (rFw) 4 0x0C01 (leBytes 2 6 ++ leBytes 2 2))), 6, 2, 0, 0, by decide +kernel⟩⟩

theorem met_ManagementBusAndDebugPort_1 :
    (∃ (s : State) (_da : Nat), s.pwr.vinAon = true ∧ s.pwr.vinIo = true ∧ s.pwr.i3cAddr = none) ∧
    (∃ (s : State), s.pwr.vinAon = true ∧ s.pwr.vinIo = true) ∧
    (∃ (s : State) (_da a : Nat), s.pwr.vinAon = true ∧ s.pwr.vinIo = true ∧ s.pwr.i3cAddr = some a) ∧
    (∃ (s : State) (a : Nat), s.pwr.vinAon = true ∧ s.pwr.vinIo = true ∧ s.pwr.i3cAddr = some a) :=
  ⟨⟨{ rFw with pwr := { rFw.pwr with i3cAddr := none } }, 9, by decide +kernel⟩,
   ⟨{ rFw with pwr := { rFw.pwr with i3cAddr := some 9 } }, by decide +kernel⟩,
   ⟨{ rFw with pwr := { rFw.pwr with i3cAddr := some 9 } }, 200, 9, by decide +kernel⟩,
   ⟨{ rFw with pwr := { rFw.pwr with i3cAddr := some 9 } }, 9, by decide +kernel⟩⟩

theorem met_ManagementBusAndDebugPort_2 :
    (∃ (s : State) (a : Nat), s.pwr.vinAon = true ∧ s.pwr.vinIo = true ∧ s.pwr.i3cAddr = some a) ∧
    (∃ (s : State) (a : Nat), s.pwr.vinAon = true ∧ s.pwr.vinIo = true ∧ s.pwr.i3cAddr = some a) ∧
    (∃ (s : State) (a : Nat), s.pwr.vinAon = true ∧ s.pwr.vinIo = true ∧ s.pwr.i3cAddr = some a) ∧
    (∃ (s : State) (a : Nat) (v : Word), s.pwr.vinAon = true ∧ s.pwr.vinIo = true ∧ s.pwr.i3cAddr = some a ∧ s.isOff 0 = false ∧ fld v 26 16 ≤ 2000 ∧ fld v 10 0 ≤ 2000) :=
  ⟨⟨{ rFw with pwr := { rFw.pwr with i3cAddr := some 9 } }, 9, by decide +kernel⟩,
   ⟨{ rFw with pwr := { rFw.pwr with i3cAddr := some 9 } }, 9, by decide +kernel⟩,
   ⟨{ rFw with pwr := { rFw.pwr with i3cAddr := some 9 } }, 9, by decide +kernel⟩,
   ⟨{ rFw with pwr := { rFw.pwr with i3cAddr := some 9 } }, 9, 0x00640032#32, by decide +kernel⟩⟩

theorem met_ManagementBusAndDebugPort_3 :
    (∃ (s : State) (a r : Nat), s.pwr.vinAon = true ∧ s.pwr.vinIo = true ∧ s.pwr.i3cAddr = some a ∧ ((0x300 ≤ r ∧ r < 0x320) ∨ (0x00200000 ≤ r ∧ r < 0x00500000)) ∧ assigned r = true ∧ s.isOff 0 = false ∧ (s.dom 0).depth = .run ∧ (tabGet (fun _ => none) s.cnt.latch r = none)) ∧
    (∃ (s : State) (r : Nat) (_v : Word), s.pathOk .jtag = true ∧ s.pwr.vinAon = true ∧ s.pwr.vinIo = true ∧ assigned r = true ∧ s.isOff (heldIn r) = false ∧ (tabGet (fun _ => none) s.cnt.latch r = none)) ∧
    (∃ (s : State) (core : Nat), s.pathOk .jtag = true ∧ s.plnUp = true ∧ core < 4) ∧
    (∃ (s : State) (core : Nat), s.pathOk .jtag = true ∧ core < 12 ∧ bit s.fw.haltedCores core = true ∧ (s.fw.haltedCores % 16 = (if core < 4 then 2 ^ core else 0)) ∧ s.fallback = true ∧ s.pwr.bootStep = 9 ∧ s.plinth = 0 ∧ s.pair.rxItems = []) :=
  ⟨⟨{ rFw with pwr := { rFw.pwr with i3cAddr := some 9 } }, 9, aPace0, by decide +kernel⟩,
   ⟨(rFw.setRf aSec 19 18 2), aPace0, 0#32, by decide +kernel⟩,
   ⟨(rFw.setRf aSec 19 18 2), 2, by decide +kernel⟩,
   ⟨{ ((rFw.setRf aSec 19 18 2).setRf aFw 29 29 1) with fw := { rFw.fw with haltedCores := 4 }, pwr := { rFw.pwr with bootStep := 9 } }, 2, by decide +kernel⟩⟩

theorem met_ManagementBusAndDebugPort_4 :
    (∃ (s : State) (_da : Nat), (s.pwr.vinIo = false ∨ s.pwr.i3cAddr.isSome = true)) ∧
    (∃ (s : State) (_da : Nat), s.pwr.i3cAddr = none) ∧
    (∃ (s : State), (s.pwr.i3cAddr = none ∨ s.pwr.vinIo = false)) ∧
    (∃ (s : State), (s.pwr.i3cAddr = none ∨ s.pwr.vinIo = false)) :=
  ⟨⟨{ rFw with pwr := { rFw.pwr with i3cAddr := some 9 } }, 9, by decide +kernel⟩,
   ⟨{ rFw with pwr := { rFw.pwr with i3cAddr := none } }, 9, by decide +kernel⟩,
   ⟨{ rFw with pwr := { rFw.pwr with i3cAddr := none } }, by decide +kernel⟩,
   ⟨{ rFw with pwr := { rFw.pwr with i3cAddr := none } }, by decide +kernel⟩⟩

theorem met_ManagementBusAndDebugPort_5 :
    (∃ (s : State), (s.pwr.i3cAddr = none ∨ s.pwr.vinIo = false)) ∧
    (∃ (s : State), (s.pwr.i3cAddr = none ∨ s.pwr.vinIo = false)) ∧
    (∃ (s : State) (r : Nat) (_v : Word), (r < 0x00200000 ∨ 0x00500000 ≤ r ∨ s.pwr.i3cAddr = none ∨ s.pwr.vinIo = false)) ∧
    (∃ (s : State) (a r : Nat), s.pwr.vinAon = true ∧ s.pwr.vinIo = true ∧ s.pwr.i3cAddr = some a ∧ (assigned r = false ∨ ((r < 0x300 ∨ 0x320 ≤ r) ∧ (r < 0x00200000 ∨ 0x00500000 ≤ r)))) :=
  ⟨⟨{ rFw with pwr := { rFw.pwr with i3cAddr := none } }, by decide +kernel⟩,
   ⟨{ rFw with pwr := { rFw.pwr with i3cAddr := none } }, by decide +kernel⟩,
   ⟨{ rFw with pwr := { rFw.pwr with i3cAddr := some 9 } }, aOpTimeout, 500#32, by decide +kernel⟩,
   ⟨{ rFw with pwr := { rFw.pwr with i3cAddr := some 9 } }, 9, aOpTimeout, by decide +kernel⟩⟩

theorem met_ManagementBusAndDebugPort_6 :
    (∃ (s : State) (r : Nat) (v : Word), s.pathOk .jtag = true ∧ s.pwr.vinAon = true ∧ s.pwr.vinIo = true ∧ s.plnUp = true ∧ r = aOpTimeout ∧ 100 ≤ fld v 15 0 ∧ fld v 15 0 ≤ 50000) ∧
    (∃ (s : State) (_r : Nat) (_v : Word), s.rf aSec 19 18 ≠ 2) ∧
    (∃ (s : State) (_r : Nat) (_v : Word), s.rf aSec 19 18 ≠ 2) ∧
    (∃ (s : State) (core : Nat), s.pathOk .jtag = true ∧ s.plnUp = true ∧ 4 ≤ core ∧ core < 12 ∧ s.isOff (dSw (core - 4)) = false) :=
  ⟨⟨(rFw.setRf aSec 19 18 2), aOpTimeout, 500#32, by decide +kernel⟩,
   ⟨rFw, aOpTimeout, 500#32, by decide +kernel⟩,
   ⟨rFw, aOpTimeout, 500#32, by decide +kernel⟩,
   ⟨(rFw.setRf aSec 19 18 2).toDepth (dSw 3) .run, 7, by decide +kernel⟩⟩

theorem met_ManagementBusAndDebugPort_7 :
    (∃ (s : State) (core : Nat), (s.rf aSec 19 18 ≠ 2 ∨ 12 ≤ core)) ∧
    (∃ (s : State) (core : Nat), (s.rf aSec 19 18 ≠ 2 ∨ bit s.fw.haltedCores core = false)) :=
  ⟨⟨rFw, 2, by decide +kernel⟩,
   ⟨rFw, 2, by decide +kernel⟩⟩

theorem met_ScalarIntegerTable_1 :
    (∃ (s : State) (x : Nat) (it : Item) (im : Image) (et a b _d : Nat) (A Bv : BitVec (etBits et)), Ready s x it im ∧ et ≤ 3 ∧ A = s.sv x et a ∧ Bv = s.sv x et b) ∧
    (∃ (s : State) (x : Nat) (it : Item) (im : Image) (et a b _d : Nat) (A Bv : BitVec (etBits et)), Ready s x it im ∧ et ≤ 3 ∧ A = s.sv x et a ∧ Bv = s.sv x et b) ∧
    (∃ (s : State) (x : Nat) (it : Item) (im : Image) (et a b _d : Nat) (A Bv : BitVec (etBits et)), Ready s x it im ∧ et ≤ 3 ∧ A = s.sv x et a ∧ Bv = s.sv x et b) ∧
    (∃ (s : State) (x : Nat) (it : Item) (im : Image) (et a b _d : Nat) (A Bv : BitVec (etBits et)), Ready s x it im ∧ et ≤ 3 ∧ A = s.sv x et a ∧ Bv = s.sv x et b) :=
  ⟨⟨onCtx r0 { ctx0 with s := [(1, 13#64), (2, 0xFFFFFFFFFFFFFFF6#64), (3, 6#64)] }, 0, item (some 0), img, 1, 1, 2, 3, BitVec.ofNat (etBits 1) ((onCtx r0 { ctx0 with s := [(1, 13#64), (2, 0xFFFFFFFFFFFFFFF6#64), (3, 6#64)] } : State).sr 0 1), BitVec.ofNat (etBits 1) ((onCtx r0 { ctx0 with s := [(1, 13#64), (2, 0xFFFFFFFFFFFFFFF6#64), (3, 6#64)] } : State).sr 0 2), by decide +kernel⟩,
   ⟨onCtx r0 { ctx0 with s := [(1, 13#64), (2, 0xFFFFFFFFFFFFFFF6#64), (3, 6#64)] }, 0, item (some 0), img, 1, 1, 2, 3, BitVec.ofNat (etBits 1) ((onCtx r0 { ctx0 with s := [(1, 13#64), (2, 0xFFFFFFFFFFFFFFF6#64), (3, 6#64)] } : State).sr 0 1), BitVec.ofNat (etBits 1) ((onCtx r0 { ctx0 with s := [(1, 13#64), (2, 0xFFFFFFFFFFFFFFF6#64), (3, 6#64)] } : State).sr 0 2), by decide +kernel⟩,
   ⟨onCtx r0 { ctx0 with s := [(1, 13#64), (2, 0xFFFFFFFFFFFFFFF6#64), (3, 6#64)] }, 0, item (some 0), img, 1, 1, 2, 3, BitVec.ofNat (etBits 1) ((onCtx r0 { ctx0 with s := [(1, 13#64), (2, 0xFFFFFFFFFFFFFFF6#64), (3, 6#64)] } : State).sr 0 1), BitVec.ofNat (etBits 1) ((onCtx r0 { ctx0 with s := [(1, 13#64), (2, 0xFFFFFFFFFFFFFFF6#64), (3, 6#64)] } : State).sr 0 2), by decide +kernel⟩,
   ⟨onCtx r0 { ctx0 with s := [(1, 13#64), (2, 0xFFFFFFFFFFFFFFF6#64), (3, 6#64)] }, 0, item (some 0), img, 1, 1, 2, 3, BitVec.ofNat (etBits 1) ((onCtx r0 { ctx0 with s := [(1, 13#64), (2, 0xFFFFFFFFFFFFFFF6#64), (3, 6#64)] } : State).sr 0 1), BitVec.ofNat (etBits 1) ((onCtx r0 { ctx0 with s := [(1, 13#64), (2, 0xFFFFFFFFFFFFFFF6#64), (3, 6#64)] } : State).sr 0 2), by decide +kernel⟩⟩

theorem met_ScalarIntegerTable_2 :
    (∃ (s : State) (x : Nat) (it : Item) (im : Image) (et a b _d : Nat) (A Bv : BitVec (etBits et)), Ready s x it im ∧ et ≤ 3 ∧ A = s.sv x et a ∧ Bv = s.sv x et b) ∧
    (∃ (s : State) (x : Nat) (it : Item) (im : Image) (et a b _d : Nat) (A Bv : BitVec (etBits et)), Ready s x it im ∧ et ≤ 3 ∧ A = s.sv x et a ∧ Bv = s.sv x et b) ∧
    (∃ (s : State) (x : Nat) (it : Item) (im : Image) (et a b _d : Nat) (A Bv : BitVec (etBits et)), Ready s x it im ∧ et ≤ 3 ∧ A = s.sv x et a ∧ Bv = s.sv x et b) ∧
    (∃ (s : State) (x : Nat) (it : Item) (im : Image) (et a b _d : Nat) (A Bv : BitVec (etBits et)), Ready s x it im ∧ et ≤ 3 ∧ A = s.sv x et a ∧ Bv = s.sv x et b) :=
  ⟨⟨onCtx r0 { ctx0 with s := [(1, 13#64), (2, 0xFFFFFFFFFFFFFFF6#64), (3, 6#64)] }, 0, item (some 0), img, 1, 1, 2, 3, BitVec.ofNat (etBits 1) ((onCtx r0 { ctx0 with s := [(1, 13#64), (2, 0xFFFFFFFFFFFFFFF6#64), (3, 6#64)] } : State).sr 0 1), BitVec.ofNat (etBits 1) ((onCtx r0 { ctx0 with s := [(1, 13#64), (2, 0xFFFFFFFFFFFFFFF6#64), (3, 6#64)] } : State).sr 0 2), by decide +kernel⟩,
   ⟨onCtx r0 { ctx0 with s := [(1, 13#64), (2, 0xFFFFFFFFFFFFFFF6#64), (3, 6#64)] }, 0, item (some 0), img, 1, 1, 2, 3, BitVec.ofNat (etBits 1) ((onCtx r0 { ctx0 with s := [(1, 13#64), (2, 0xFFFFFFFFFFFFFFF6#64), (3, 6#64)] } : State).sr 0 1), BitVec.ofNat (etBits 1) ((onCtx r0 { ctx0 with s := [(1, 13#64), (2, 0xFFFFFFFFFFFFFFF6#64), (3, 6#64)] } : State).sr 0 2), by decide +kernel⟩,
   ⟨onCtx r0 { ctx0 with s := [(1, 13#64), (2, 0xFFFFFFFFFFFFFFF6#64), (3, 6#64)] }, 0, item (some 0), img, 1, 1, 2, 3, BitVec.ofNat (etBits 1) ((onCtx r0 { ctx0 with s := [(1, 13#64), (2, 0xFFFFFFFFFFFFFFF6#64), (3, 6#64)] } : State).sr 0 1), BitVec.ofNat (etBits 1) ((onCtx r0 { ctx0 with s := [(1, 13#64), (2, 0xFFFFFFFFFFFFFFF6#64), (3, 6#64)] } : State).sr 0 2), by decide +kernel⟩,
   ⟨onCtx r0 { ctx0 with s := [(1, 13#64), (2, 0xFFFFFFFFFFFFFFF6#64), (3, 6#64)] }, 0, item (some 0), img, 1, 1, 2, 3, BitVec.ofNat (etBits 1) ((onCtx r0 { ctx0 with s := [(1, 13#64), (2, 0xFFFFFFFFFFFFFFF6#64), (3, 6#64)] } : State).sr 0 1), BitVec.ofNat (etBits 1) ((onCtx r0 { ctx0 with s := [(1, 13#64), (2, 0xFFFFFFFFFFFFFFF6#64), (3, 6#64)] } : State).sr 0 2), by decide +kernel⟩⟩

theorem met_ScalarIntegerTable_3 :
    (∃ (s : State) (x : Nat) (it : Item) (im : Image) (et a b _d : Nat) (A Bv : BitVec (etBits et)), Ready s x it im ∧ et ≤ 3 ∧ A = s.sv x et a ∧ Bv = s.sv x et b) ∧
    (∃ (s : State) (x : Nat) (it : Item) (im : Image) (et a b _d : Nat) (A Bv : BitVec (etBits et)), Ready s x it im ∧ et ≤ 3 ∧ A = s.sv x et a ∧ Bv = s.sv x et b) ∧
    (∃ (s : State) (x : Nat) (it : Item) (im : Image) (et a b _d : Nat) (A Bv : BitVec (etBits et)), Ready s x it im ∧ et ≤ 3 ∧ A = s.sv x et a ∧ Bv = s.sv x et b) ∧
    (∃ (s : State) (x : Nat) (it : Item) (im : Image) (et a b _d : Nat) (A Bv : BitVec (etBits et)), Ready s x it im ∧ et ≤ 3 ∧ A = s.sv x et a ∧ Bv = s.sv x et b) :=
  ⟨⟨onCtx r0 { ctx0 with s := [(1, 13#64), (2, 0xFFFFFFFFFFFFFFF6#64), (3, 6#64)] }, 0, item (some 0), img, 1, 1, 2, 3, BitVec.ofNat (etBits 1) ((onCtx r0 { ctx0 with s := [(1, 13#64), (2, 0xFFFFFFFFFFFFFFF6#64), (3, 6#64)] } : State).sr 0 1), BitVec.ofNat (etBits 1) ((onCtx r0 { ctx0 with s := [(1, 13#64), (2, 0xFFFFFFFFFFFFFFF6#64), (3, 6#64)] } : State).sr 0 2), by decide +kernel⟩,
   ⟨onCtx r0 { ctx0 with s := [(1, 13#64), (2, 0xFFFFFFFFFFFFFFF6#64), (3, 6#64)] }, 0, item (some 0), img, 1, 1, 2, 3, BitVec.ofNat (etBits 1) ((onCtx r0 { ctx0 with s := [(1, 13#64), (2, 0xFFFFFFFFFFFFFFF6#64), (3, 6#64)] } : State).sr 0 1), BitVec.ofNat (etBits 1) ((onCtx r0 { ctx0 with s := [(1, 13#64), (2, 0xFFFFFFFFFFFFFFF6#64), (3, 6#64)] } : State).sr 0 2), by decide +kernel⟩,
   ⟨onCtx r0 { ctx0 with s := [(1, 13#64), (2, 0xFFFFFFFFFFFFFFF6#64), (3, 6#64)] }, 0, item (some 0), img, 1, 1, 2, 3, BitVec.ofNat (etBits 1) ((onCtx r0 { ctx0 with s := [(1, 13#64), (2, 0xFFFFFFFFFFFFFFF6#64), (3, 6#64)] } : State).sr 0 1), BitVec.ofNat (etBits 1) ((onCtx r0 { ctx0 with s := [(1, 13#64), (2, 0xFFFFFFFFFFFFFFF6#64), (3, 6#64)] } : State).sr 0 2), by decide +kernel⟩,
   ⟨onCtx r0 { ctx0 with s := [(1, 13#64), (2, 0xFFFFFFFFFFFFFFF6#64), (3, 6#64)] }, 0, item (some 0), img, 1, 1, 2, 3, BitVec.ofNat (etBits 1) ((onCtx r0 { ctx0 with s := [(1, 13#64), (2, 0xFFFFFFFFFFFFFFF6#64), (3, 6#64)] } : State).sr 0 1), BitVec.ofNat (etBits 1) ((onCtx r0 { ctx0 with s := [(1, 13#64), (2, 0xFFFFFFFFFFFFFFF6#64), (3, 6#64)] } : State).sr 0 2), by decide +kernel⟩⟩

theorem met_ScalarIntegerTable_4 :
    (∃ (s : State) (x : Nat) (it : Item) (im : Image) (et a b _d : Nat) (A Bv : BitVec (etBits et)), Ready s x it im ∧ et ≤ 3 ∧ A = s.sv x et a ∧ Bv = s.sv x et b) ∧
    (∃ (s : State) (x : Nat) (it : Item) (im : Image) (et a b _d : Nat) (A Bv : BitVec (etBits et)), Ready s x it im ∧ et ≤ 3 ∧ A = s.sv x et a ∧ Bv = s.sv x et b) ∧
    (∃ (s : State) (x : Nat) (it : Item) (im : Image) (et a _b _d : Nat) (A : BitVec (etBits et)) (n : Nat), Ready s x it im ∧ et ≤ 3 ∧ A = s.sv x et a ∧ n ≤ etBits et ∧ ((∀ i ∈ List.range n, A.getMsbD i = false)) ∧ (n = etBits et ∨ A.getMsbD n = true)) ∧
    (∃ (s : State) (x : Nat) (it : Item) (im : Image) (et a _b _d : Nat) (A : BitVec (etBits et)), Ready s x it im ∧ et ≤ 3 ∧ A = s.sv x et a) :=
  ⟨⟨onCtx r0 { ctx0 with s := [(1, 13#64), (2, 0xFFFFFFFFFFFFFFF6#64), (3, 6#64)] }, 0, item (some 0), img, 1, 1, 2, 3, BitVec.ofNat (etBits 1) ((onCtx r0 { ctx0 with s := [(1, 13#64), (2, 0xFFFFFFFFFFFFFFF6#64), (3, 6#64)] } : State).sr 0 1), BitVec.ofNat (etBits 1) ((onCtx r0 { ctx0 with s := [(1, 13#64), (2, 0xFFFFFFFFFFFFFFF6#64), (3, 6#64)] } : State).sr 0 2), by decide +kernel⟩,
   ⟨onCtx r0 { ctx0 with s := [(1, 13#64), (2, 0xFFFFFFFFFFFFFFF6#64), (3, 6#64)] }, 0, item (some 0), img, 1, 1, 2, 3, BitVec.ofNat (etBits 1) ((onCtx r0 { ctx0 with s := [(1, 13#64), (2, 0xFFFFFFFFFFFFFFF6#64), (3, 6#64)] } : State).sr 0 1), BitVec.ofNat (etBits 1) ((onCtx r0 { ctx0 with s := [(1, 13#64), (2, 0xFFFFFFFFFFFFFFF6#64), (3, 6#64)] } : State).sr 0 2), by decide +kernel⟩,
   ⟨onCtx r0 { ctx0 with s := [(1, 13#64), (2, 0xFFFFFFFFFFFFFFF6#64), (3, 6#64)] }, 0, item (some 0), img, 1, 1, 2, 3, BitVec.ofNat (etBits 1) ((onCtx r0 { ctx0 with s := [(1, 13#64), (2, 0xFFFFFFFFFFFFFFF6#64), (3, 6#64)] } : State).sr 0 1), 12, by decide +kernel⟩,
   ⟨onCtx r0 { ctx0 with s := [(1, 13#64), (2, 0xFFFFFFFFFFFFFFF6#64), (3, 6#64)] }, 0, item (some 0), img, 1, 1, 2, 3, BitVec.ofNat (etBits 1) ((onCtx r0 { ctx0 with s := [(1, 13#64), (2, 0xFFFFFFFFFFFFFFF6#64), (3, 6#64)] } : State).sr 0 1), by decide +kernel⟩⟩

theorem met_ScalarIntegerTable_5 :
    ∃ (s : State) (x : Nat) (it : Item) (im : Image) (et fn _a _b _d dst sr flow fsn : Nat) (pin : Bool), Ready s x it im ∧ CalledBy s it x dst sr flow fsn pin ∧ (3 < et ∨ 15 < fn) :=
  ⟨onCtx rEid ctx0, 0, item (some 0), img, 4, 0, 1, 2, 3, 7, 5, 3, 0, true, by decide +kernel⟩

theorem met_ImmediateAndMultiplyTables_1 :
    (∃ (s : State) (x : Nat) (it : Item) (im : Image) (imm : Int) (_a _d : Nat), Ready s x it im ∧ -16384 ≤ imm ∧ imm < 16384) ∧
    (∃ (s : State) (x : Nat) (it : Item) (im : Image) (imm : Int) (_a _d : Nat), Ready s x it im ∧ -16384 ≤ imm ∧ imm < 16384) ∧
    (∃ (s : State) (x : Nat) (it : Item) (im : Image) (imm : Int) (_a _d : Nat), Ready s x it im ∧ -16384 ≤ imm ∧ imm < 16384) ∧
    (∃ (s : State) (x : Nat) (it : Item) (im : Image) (imm : Int) (_a _d : Nat), Ready s x it im ∧ -16384 ≤ imm ∧ imm < 16384) :=
  ⟨⟨onCtx r0 { ctx0 with s := [(1, 13#64), (2, 0xFFFFFFFFFFFFFFF6#64), (3, 6#64)] }, 0, item (some 0), img, -7, 1, 3, by decide +kernel⟩,
   ⟨onCtx r0 { ctx0 with s := [(1, 13#64), (2, 0xFFFFFFFFFFFFFFF6#64), (3, 6#64)] }, 0, item (some 0), img, -7, 1, 3, by decide +kernel⟩,
   ⟨onCtx r0 { ctx0 with s := [(1, 13#64), (2, 0xFFFFFFFFFFFFFFF6#64), (3, 6#64)] }, 0, item (some 0), img, -7, 1, 3, by decide +kernel⟩,
   ⟨onCtx r0 { ctx0 with s := [(1, 13#64), (2, 0xFFFFFFFFFFFFFFF6#64), (3, 6#64)] }, 0, item (some 0), img, -7, 1, 3, by decide +kernel⟩⟩

theorem met_ImmediateAndMultiplyTables_2 :
    (∃ (s : State) (x : Nat) (it : Item) (im : Image) (imm : Int) (_a _d : Nat), Ready s x it im ∧ -16384 ≤ imm ∧ imm < 16384) ∧
    (∃ (s : State) (x : Nat) (it : Item) (im : Image) (imm : Int) (_a _d : Nat), Ready s x it im ∧ -16384 ≤ imm ∧ imm < 16384) ∧
    (∃ (s : State) (x : Nat) (it : Item) (im : Image) (n _a _d : Nat), Ready s x it im ∧ n < 64) ∧
    (∃ (s : State) (x : Nat) (it : Item) (im : Image) (et a b _d : Nat) (A Bv : BitVec (etBits et)), Ready s x it im ∧ et ≤ 3 ∧ A = s.sv x et a ∧ Bv = s.sv x et b) :=
  ⟨⟨onCtx r0 { ctx0 with s := [(1, 13#64), (2, 0xFFFFFFFFFFFFFFF6#64), (3, 6#64)] }, 0, item (some 0), img, -7, 1, 3, by decide +kernel⟩,
   ⟨onCtx r0 { ctx0 with s := [(1, 13#64), (2, 0xFFFFFFFFFFFFFFF6#64), (3, 6#64)] }, 0, item (some 0), img, -7, 1, 3, by decide +kernel⟩,
   ⟨onCtx r0 { ctx0 with s := [(1, 13#64), (2, 0xFFFFFFFFFFFFFFF6#64), (3, 6#64)] }, 0, item (some 0), img, 5, 2, 3, by decide +kernel⟩,
   ⟨onCtx r0 { ctx0 with s := [(1, 13#64), (2, 0xFFFFFFFFFFFFFFF6#64), (3, 6#64)] }, 0, item (some 0), img, 1, 1, 2, 3, BitVec.ofNat (etBits 1) ((onCtx r0 { ctx0 with s := [(1, 13#64), (2, 0xFFFFFFFFFFFFFFF6#64), (3, 6#64)] } : State).sr 0 1), BitVec.ofNat (etBits 1) ((onCtx r0 { ctx0 with s := [(1, 13#64), (2, 0xFFFFFFFFFFFFFFF6#64), (3, 6#64)] } : State).sr 0 2), by decide +kernel⟩⟩

theorem met_ImmediateAndMultiplyTables_3 :
    (∃ (s : State) (x : Nat) (it : Item) (im : Image) (et a b _d : Nat) (A Bv : BitVec (etBits et)), Ready s x it im ∧ et ≤ 3 ∧ A = s.sv x et a ∧ Bv = s.sv x et b) ∧
    (∃ (s : State) (x : Nat) (it : Item) (im : Image) (n _a _d : Nat), Ready s x it im ∧ n < 64) ∧
    (∃ (s : State) (x : Nat) (it : Item) (im : Image) (n _a _d : Nat), Ready s x it im ∧ n < 64) ∧
    (∃ (s : State) (x : Nat) (it : Item) (im : Image) (n _a _d : Nat), Ready s x it im ∧ n < 64) :=
  ⟨⟨onCtx r0 { ctx0 with s := [(1, 13#64), (2, 0xFFFFFFFFFFFFFFF6#64), (3, 6#64)] }, 0, item (some 0), img, 1, 1, 2, 3, BitVec.ofNat (etBits 1) ((onCtx r0 { ctx0 with s := [(1, 13#64), (2, 0xFFFFFFFFFFFFFFF6#64), (3, 6#64)] } : State).sr 0 1), BitVec.ofNat (etBits 1) ((onCtx r0 { ctx0 with s := [(1, 13#64), (2, 0xFFFFFFFFFFFFFFF6#64), (3, 6#64)] } : State).sr 0 2), by decide +kernel⟩,
   ⟨onCtx r0 { ctx0 with s := [(1, 13#64), (2, 0xFFFFFFFFFFFFFFF6#64), (3, 6#64)] }, 0, item (some 0), img, 5, 2, 3, by decide +kernel⟩,
   ⟨onCtx r0 { ctx0 with s := [(1, 13#64), (2, 0xFFFFFFFFFFFFFFF6#64), (3, 6#64)] }, 0, item (some 0), img, 5, 2, 3, by decide +kernel⟩,
   ⟨onCtx r0 { ctx0 with s := [(1, 13#64), (2, 0xFFFFFFFFFFFFFFF6#64), (3, 6#64)] }, 0, item (some 0), img, 5, 2, 3, by decide +kernel⟩⟩

theorem met_ImmediateAndMultiplyTables_4 :
    (∃ (s : State) (x : Nat) (it : Item) (im : Image) (imm : Int) (_a _d dst sr flow fsn : Nat) (pin : Bool), Ready s x it im ∧ CalledBy s it x dst sr flow fsn pin ∧ -16384 ≤ imm ∧ imm < 16384 ∧ (BitVec.ofInt 15 imm).extractLsb' 8 7 ≠ 0#7) ∧
    (∃ (s : State) (x : Nat) (it : Item) (im : Image) (et a b _d : Nat) (A Bv : BitVec (etBits et)), Ready s x it im ∧ et ≤ 3 ∧ A = s.sv x et a ∧ Bv = s.sv x et b) ∧
    (∃ (s : State) (x : Nat) (it : Item) (im : Image) (et a b _d : Nat) (A Bv : BitVec (etBits et)), Ready s x it im ∧ et ≤ 3 ∧ A = s.sv x et a ∧ Bv = s.sv x et b) ∧
    (∃ (s : State) (x : Nat) (it : Item) (im : Image) (et a b _d : Nat) (A Bv : BitVec (etBits et)), Ready s x it im ∧ et ≤ 3 ∧ A = s.sv x et a ∧ Bv = s.sv x et b) :=
  ⟨⟨onCtx rEid ctx0, 0, item (some 0), img, -7, 1, 3, 7, 5, 3, 0, true, by decide +kernel⟩,
   ⟨onCtx r0 { ctx0 with s := [(1, 13#64), (2, 0xFFFFFFFFFFFFFFF6#64), (3, 6#64)] }, 0, item (some 0), img, 1, 1, 2, 3, BitVec.ofNat (etBits 1) ((onCtx r0 { ctx0 with s := [(1, 13#64), (2, 0xFFFFFFFFFFFFFFF6#64), (3, 6#64)] } : State).sr 0 1), BitVec.ofNat (etBits 1) ((onCtx r0 { ctx0 with s := [(1, 13#64), (2, 0xFFFFFFFFFFFFFFF6#64), (3, 6#64)] } : State).sr 0 2), by decide +kernel⟩,
   ⟨onCtx r0 { ctx0 with s := [(1, 13#64), (2, 0xFFFFFFFFFFFFFFF6#64), (3, 6#64)] }, 0, item (some 0), img, 1, 1, 2, 3, BitVec.ofNat (etBits 1) ((onCtx r0 { ctx0 with s := [(1, 13#64), (2, 0xFFFFFFFFFFFFFFF6#64), (3, 6#64)] } : State).sr 0 1), BitVec.ofNat (etBits 1) ((onCtx r0 { ctx0 with s := [(1, 13#64), (2, 0xFFFFFFFFFFFFFFF6#64), (3, 6#64)] } : State).sr 0 2), by decide +kernel⟩,
   ⟨onCtx r0 { ctx0 with s := [(1, 13#64), (2, 0xFFFFFFFFFFFFFFF6#64), (3, 6#64)] }, 0, item (some 0), img, 1, 1, 2, 3, BitVec.ofNat (etBits 1) ((onCtx r0 { ctx0 with s := [(1, 13#64), (2, 0xFFFFFFFFFFFFFFF6#64), (3, 6#64)] } : State).sr 0 1), BitVec.ofNat (etBits 1) ((onCtx r0 { ctx0 with s := [(1, 13#64), (2, 0xFFFFFFFFFFFFFFF6#64), (3, 6#64)] } : State).sr 0 2), by decide +kernel⟩⟩

theorem met_ImmediateAndMultiplyTables_5 :
    (∃ (s : State) (x : Nat) (it : Item) (im : Image) (et a b _d : Nat) (A Bv : BitVec (etBits et)), Ready s x it im ∧ et ≤ 3 ∧ A = s.sv x et a ∧ Bv = s.sv x et b) ∧
    (∃ (s : State) (x : Nat) (it : Item) (im : Image) (et a b _d : Nat) (A Bv : BitVec (etBits et)), Ready s x it im ∧ et ≤ 3 ∧ A = s.sv x et a ∧ Bv = s.sv x et b) ∧
    (∃ (s : State) (x : Nat) (it : Item) (im : Image) (et a b _d : Nat) (A Bv : BitVec (etBits et)), Ready s x it im ∧ et ≤ 3 ∧ A = s.sv x et a ∧ Bv = s.sv x et b) ∧
    (∃ (s : State) (x : Nat) (it : Item) (im : Image) (et a b _d : Nat) (A Bv : BitVec (etBits et)), Ready s x it im ∧ et ≤ 3 ∧ A = s.sv x et a ∧ Bv = s.sv x et b) :=
  ⟨⟨onCtx r0 { ctx0 with s := [(1, 13#64), (2, 0xFFFFFFFFFFFFFFF6#64), (3, 6#64)] }, 0, item (some 0), img, 1, 1, 2, 3, BitVec.ofNat (etBits 1) ((onCtx r0 { ctx0 with s := [(1, 13#64), (2, 0xFFFFFFFFFFFFFFF6#64), (3, 6#64)] } : State).sr 0 1), BitVec.ofNat (etBits 1) ((onCtx r0 { ctx0 with s := [(1, 13#64), (2, 0xFFFFFFFFFFFFFFF6#64), (3, 6#64)] } : State).sr 0 2), by decide +kernel⟩,
   ⟨onCtx r0 { ctx0 with s := [(1, 13#64), (2, 0xFFFFFFFFFFFFFFF6#64), (3, 6#64)] }, 0, item (some 0), img, 1, 1, 2, 3, BitVec.ofNat (etBits 1) ((onCtx r0 { ctx0 with s := [(1, 13#64), (2, 0xFFFFFFFFFFFFFFF6#64), (3, 6#64)] } : State).sr 0 1), BitVec.ofNat (etBits 1) ((onCtx r0 { ctx0 with s := [(1, 13#64), (2, 0xFFFFFFFFFFFFFFF6#64), (3, 6#64)] } : State).sr 0 2), by decide +kernel⟩,
   ⟨onCtx r0 { ctx0 with s := [(1, 13#64), (2, 0xFFFFFFFFFFFFFFF6#64), (3, 6#64)] }, 0, item (some 0), img, 1, 1, 2, 3, BitVec.ofNat (etBits 1) ((onCtx r0 { ctx0 with s := [(1, 13#64), (2, 0xFFFFFFFFFFFFFFF6#64), (3, 6#64)] } : State).sr 0 1), BitVec.ofNat (etBits 1) ((onCtx r0 { ctx0 with s := [(1, 13#64), (2, 0xFFFFFFFFFFFFFFF6#64), (3, 6#64)] } : State).sr 0 2), by decide +kernel⟩,
   ⟨onCtx r0 { ctx0 with s := [(1, 13#64), (2, 0xFFFFFFFFFFFFFFF6#64), (3, 6#64)] }, 0, item (some 0), img, 1, 1, 2, 3, BitVec.ofNat (etBits 1) ((onCtx r0 { ctx0 with s := [(1, 13#64), (2, 0xFFFFFFFFFFFFFFF6#64), (3, 6#64)] } : State).sr 0 1), BitVec.ofNat (etBits 1) ((onCtx r0 { ctx0 with s := [(1, 13#64), (2, 0xFFFFFFFFFFFFFFF6#64), (3, 6#64)] } : State).sr 0 2), by decide +kernel⟩⟩

theorem met_ImmediateAndMultiplyTables_6 :
    (∃ (s : State) (x : Nat) (it : Item) (im : Image) (et a b _d : Nat) (A Bv : BitVec (etBits et)), Ready s x it im ∧ et ≤ 3 ∧ A = s.sv x et a ∧ Bv = s.sv x et b) ∧
    (∃ (s : State) (x : Nat) (it : Item) (im : Image) (et a b _d : Nat) (A Bv : BitVec (etBits et)), Ready s x it im ∧ et ≤ 3 ∧ A = s.sv x et a ∧ Bv = s.sv x et b) ∧
    (∃ (s : State) (x : Nat) (it : Item) (im : Image) (et a b _d : Nat) (A Bv : BitVec (etBits et)), Ready s x it im ∧ et ≤ 3 ∧ A = s.sv x et a ∧ Bv = s.sv x et b) ∧
    (∃ (s : State) (x : Nat) (it : Item) (im : Image) (et fn _a _b _d dst sr flow fsn : Nat) (pin : Bool), Ready s x it im ∧ CalledBy s it x dst sr flow fsn pin ∧ (3 < et ∨ 6 < fn)) :=
  ⟨⟨onCtx r0 { ctx0 with s := [(1, 13#64), (2, 0xFFFFFFFFFFFFFFF6#64), (3, 6#64)] }, 0, item (some 0), img, 1, 1, 2, 3, BitVec.ofNat (etBits 1) ((onCtx r0 { ctx0 with s := [(1, 13#64), (2, 0xFFFFFFFFFFFFFFF6#64), (3, 6#64)] } : State).sr 0 1), BitVec.ofNat (etBits 1) ((onCtx r0 { ctx0 with s := [(1, 13#64), (2, 0xFFFFFFFFFFFFFFF6#64), (3, 6#64)] } : State).sr 0 2), by decide +kernel⟩,
   ⟨onCtx r0 { ctx0 with s := [(1, 13#64), (2, 0xFFFFFFFFFFFFFFF6#64), (3, 6#64)] }, 0, item (some 0), img, 1, 1, 2, 3, BitVec.ofNat (etBits 1) ((onCtx r0 { ctx0 with s := [(1, 13#64), (2, 0xFFFFFFFFFFFFFFF6#64), (3, 6#64)] } : State).sr 0 1), BitVec.ofNat (etBits 1) ((onCtx r0 { ctx0 with s := [(1, 13#64), (2, 0xFFFFFFFFFFFFFFF6#64), (3, 6#64)] } : State).sr 0 2), by decide +kernel⟩,
   ⟨onCtx r0 { ctx0 with s := [(1, 13#64), (2, 0xFFFFFFFFFFFFFFF6#64), (3, 6#64)] }, 0, item (some 0), img, 1, 1, 2, 3, BitVec.ofNat (etBits 1) ((onCtx r0 { ctx0 with s := [(1, 13#64), (2, 0xFFFFFFFFFFFFFFF6#64), (3, 6#64)] } : State).sr 0 1), BitVec.ofNat (etBits 1) ((onCtx r0 { ctx0 with s := [(1, 13#64), (2, 0xFFFFFFFFFFFFFFF6#64), (3, 6#64)] } : State).sr 0 2), by decide +kernel⟩,
   ⟨onCtx rEid ctx0, 0, item (some 0), img, 4, 0, 1, 2, 3, 7, 5, 3, 0, true, by decide +kernel⟩⟩

theorem met_ImmediateAndMultiplyTables_7 :
    ∃ (s : State) (x : Nat) (it : Item) (im : Image) (et fn _a _b _d dst sr flow fsn : Nat) (pin : Bool), Ready s x it im ∧ CalledBy s it x dst sr flow fsn pin ∧ (3 < et ∨ 4 < fn) :=
  ⟨onCtx rEid ctx0, 0, item (some 0), img, 4, 0, 1, 2, 3, 7, 5, 3, 0, true, by decide +kernel⟩

theorem met_VectorIntegerTable_1 :
    (∃ (s : State) (x : Nat) (it : Item) (im : Image) (et _pred _b _a _d : Nat), Ready s x it im ∧ et ≤ 3) ∧
    (∃ (s : State) (x : Nat) (it : Item) (im : Image) (et _pred _b _a _d : Nat), Ready s x it im ∧ et ≤ 3) ∧
    (∃ (s : State) (x : Nat) (it : Item) (im : Image) (et _pred _b _a _d : Nat), Ready s x it im ∧ et ≤ 3) ∧
    (∃ (s : State) (x : Nat) (it : Item) (im : Image) (et _pred _b _a _d : Nat), Ready s x it im ∧ et ≤ 3) :=
  ⟨⟨onCtx r0 { ctx0 with s := [(1, 5#64), (2, 3#64)], v := [(1, 18056063667490309128334060330970408786289241410788230029127624999321177223224444823297235325324834942694079124121502482719515098439613524250881377230023979084536095694778854362925913941655551300956217392786292191048920144935069532399074868412849280726302466907498087430890811353406808205032521342396643314893267407031136592784643798459305528496021255111267758247434009574999320458485341657063777090478528527289441650009855632823752157492118974406042763092455845865825769161576027174783619758493389777088197878190979542021591403958776841186898623071404092424561240716323391059951852853972861825734501448760790241390649#2048), (2, 16199374278937742645215518055842366887377307338561461736026605085072157660687679137358068507611205092477012883250471280631194687925651376018594172789193779370921464096491494577072168129505425182976250930280891228265157357014106055969536960804304383454066122692232072294972947124972571643978565630538729059369250376111485584929567391283929928078518634025664413200512981203952106297110901360486427262571535456756553064510214470515572670538122283294057802348703124777304727739587003285296610172397001924749119518078184063914562087134679401944874915270034424720527409841639071823486750852317042627326186065327199356977929#2048), (3, 77#2048)], p := [(1, 7214146644632059600433971645540134703057928547948583550364008781632857378803#256)] }, 0, item (some 0), img, 1, 1, 2, 1, 3, by decide +kernel⟩,
   ⟨onCtx r0 { ctx0 with s := [(1, 5#64), (2, 3#64)], v := [(1, 18056063667490309128334060330970408786289241410788230029127624999321177223224444823297235325324834942694079124121502482719515098439613524250881377230023979084536095694778854362925913941655551300956217392786292191048920144935069532399074868412849280726302466907498087430890811353406808205032521342396643314893267407031136592784643798459305528496021255111267758247434009574999320458485341657063777090478528527289441650009855632823752157492118974406042763092455845865825769161576027174783619758493389777088197878190979542021591403958776841186898623071404092424561240716323391059951852853972861825734501448760790241390649#2048), (2, 16199374278937742645215518055842366887377307338561461736026605085072157660687679137358068507611205092477012883250471280631194687925651376018594172789193779370921464096491494577072168129505425182976250930280891228265157357014106055969536960804304383454066122692232072294972947124972571643978565630538729059369250376111485584929567391283929928078518634025664413200512981203952106297110901360486427262571535456756553064510214470515572670538122283294057802348703124777304727739587003285296610172397001924749119518078184063914562087134679401944874915270034424720527409841639071823486750852317042627326186065327199356977929#2048), (3, 77#2048)], p := [(1, 7214146644632059600433971645540134703057928547948583550364008781632857378803#256)] }, 0, item (some 0), img, 1, 1, 2, 1, 3, by decide +kernel⟩,
   ⟨onCtx r0 { ctx0 with s := [(1, 5#64), (2, 3#64)], v := [(1, 18056063667490309128334060330970408786289241410788230029127624999321177223224444823297235325324834942694079124121502482719515098439613524250881377230023979084536095694778854362925913941655551300956217392786292191048920144935069532399074868412849280726302466907498087430890811353406808205032521342396643314893267407031136592784643798459305528496021255111267758247434009574999320458485341657063777090478528527289441650009855632823752157492118974406042763092455845865825769161576027174783619758493389777088197878190979542021591403958776841186898623071404092424561240716323391059951852853972861825734501448760790241390649#2048), (2, 16199374278937742645215518055842366887377307338561461736026605085072157660687679137358068507611205092477012883250471280631194687925651376018594172789193779370921464096491494577072168129505425182976250930280891228265157357014106055969536960804304383454066122692232072294972947124972571643978565630538729059369250376111485584929567391283929928078518634025664413200512981203952106297110901360486427262571535456756553064510214470515572670538122283294057802348703124777304727739587003285296610172397001924749119518078184063914562087134679401944874915270034424720527409841639071823486750852317042627326186065327199356977929#2048), (3, 77#2048)], p := [(1, 7214146644632059600433971645540134703057928547948583550364008781632857378803#256)] }, 0, item (some 0), img, 1, 1, 2, 1, 3, by decide +kernel⟩,
   ⟨onCtx r0 { ctx0 with s := [(1, 5#64), (2, 3#64)], v := [(1, 18056063667490309128334060330970408786289241410788230029127624999321177223224444823297235325324834942694079124121502482719515098439613524250881377230023979084536095694778854362925913941655551300956217392786292191048920144935069532399074868412849280726302466907498087430890811353406808205032521342396643314893267407031136592784643798459305528496021255111267758247434009574999320458485341657063777090478528527289441650009855632823752157492118974406042763092455845865825769161576027174783619758493389777088197878190979542021591403958776841186898623071404092424561240716323391059951852853972861825734501448760790241390649#2048), (2, 16199374278937742645215518055842366887377307338561461736026605085072157660687679137358068507611205092477012883250471280631194687925651376018594172789193779370921464096491494577072168129505425182976250930280891228265157357014106055969536960804304383454066122692232072294972947124972571643978565630538729059369250376111485584929567391283929928078518634025664413200512981203952106297110901360486427262571535456756553064510214470515572670538122283294057802348703124777304727739587003285296610172397001924749119518078184063914562087134679401944874915270034424720527409841639071823486750852317042627326186065327199356977929#2048), (3, 77#2048)], p := [(1, 7214146644632059600433971645540134703057928547948583550364008781632857378803#256)] }, 0, item (some 0), img, 1, 1, 2, 1, 3, by decide +kernel⟩⟩

theorem met_VectorIntegerTable_2 :
    (∃ (s : State) (x : Nat) (it : Item) (im : Image) (et _pred _b _a _d : Nat), Ready s x it im ∧ et ≤ 3) ∧
    (∃ (s : State) (x : Nat) (it : Item) (im : Image) (et _pred _b _a _d : Nat), Ready s x it im ∧ et ≤ 3) ∧
    (∃ (s : State) (x : Nat) (it : Item) (im : Image) (et _pred _b _a _d : Nat), Ready s x it im ∧ et ≤ 3) ∧
    (∃ (s : State) (x : Nat) (it : Item) (im : Image) (et _pred _b _a _d : Nat), Ready s x it im ∧ et ≤ 3) :=
  ⟨⟨onCtx r0 { ctx0 with s := [(1, 5#64), (2, 3#64)], v := [(1, 18056063667490309128334060330970408786289241410788230029127624999321177223224444823297235325324834942694079124121502482719515098439613524250881377230023979084536095694778854362925913941655551300956217392786292191048920144935069532399074868412849280726302466907498087430890811353406808205032521342396643314893267407031136592784643798459305528496021255111267758247434009574999320458485341657063777090478528527289441650009855632823752157492118974406042763092455845865825769161576027174783619758493389777088197878190979542021591403958776841186898623071404092424561240716323391059951852853972861825734501448760790241390649#2048), (2, 16199374278937742645215518055842366887377307338561461736026605085072157660687679137358068507611205092477012883250471280631194687925651376018594172789193779370921464096491494577072168129505425182976250930280891228265157357014106055969536960804304383454066122692232072294972947124972571643978565630538729059369250376111485584929567391283929928078518634025664413200512981203952106297110901360486427262571535456756553064510214470515572670538122283294057802348703124777304727739587003285296610172397001924749119518078184063914562087134679401944874915270034424720527409841639071823486750852317042627326186065327199356977929#2048), (3, 77#2048)], p := [(1, 7214146644632059600433971645540134703057928547948583550364008781632857378803#256)] }, 0, item (some 0), img, 1, 1, 2, 1, 3, by decide +kernel⟩,
   ⟨onCtx r0 { ctx0 with s := [(1, 5#64), (2, 3#64)], v := [(1, 18056063667490309128334060330970408786289241410788230029127624999321177223224444823297235325324834942694079124121502482719515098439613524250881377230023979084536095694778854362925913941655551300956217392786292191048920144935069532399074868412849280726302466907498087430890811353406808205032521342396643314893267407031136592784643798459305528496021255111267758247434009574999320458485341657063777090478528527289441650009855632823752157492118974406042763092455845865825769161576027174783619758493389777088197878190979542021591403958776841186898623071404092424561240716323391059951852853972861825734501448760790241390649#2048), (2, 16199374278937742645215518055842366887377307338561461736026605085072157660687679137358068507611205092477012883250471280631194687925651376018594172789193779370921464096491494577072168129505425182976250930280891228265157357014106055969536960804304383454066122692232072294972947124972571643978565630538729059369250376111485584929567391283929928078518634025664413200512981203952106297110901360486427262571535456756553064510214470515572670538122283294057802348703124777304727739587003285296610172397001924749119518078184063914562087134679401944874915270034424720527409841639071823486750852317042627326186065327199356977929#2048), (3, 77#2048)], p := [(1, 7214146644632059600433971645540134703057928547948583550364008781632857378803#256)] }, 0, item (some 0), img, 1, 1, 2, 1, 3, by decide +kernel⟩,
   ⟨onCtx r0 { ctx0 with s := [(1, 5#64), (2, 3#64)], v := [(1, 18056063667490309128334060330970408786289241410788230029127624999321177223224444823297235325324834942694079124121502482719515098439613524250881377230023979084536095694778854362925913941655551300956217392786292191048920144935069532399074868412849280726302466907498087430890811353406808205032521342396643314893267407031136592784643798459305528496021255111267758247434009574999320458485341657063777090478528527289441650009855632823752157492118974406042763092455845865825769161576027174783619758493389777088197878190979542021591403958776841186898623071404092424561240716323391059951852853972861825734501448760790241390649#2048), (2, 16199374278937742645215518055842366887377307338561461736026605085072157660687679137358068507611205092477012883250471280631194687925651376018594172789193779370921464096491494577072168129505425182976250930280891228265157357014106055969536960804304383454066122692232072294972947124972571643978565630538729059369250376111485584929567391283929928078518634025664413200512981203952106297110901360486427262571535456756553064510214470515572670538122283294057802348703124777304727739587003285296610172397001924749119518078184063914562087134679401944874915270034424720527409841639071823486750852317042627326186065327199356977929#2048), (3, 77#2048)], p := [(1, 7214146644632059600433971645540134703057928547948583550364008781632857378803#256)] }, 0, item (some 0), img, 1, 1, 2, 1, 3, by decide +kernel⟩,
   ⟨onCtx r0 { ctx0 with s := [(1, 5#64), (2, 3#64)], v := [(1, 18056063667490309128334060330970408786289241410788230029127624999321177223224444823297235325324834942694079124121502482719515098439613524250881377230023979084536095694778854362925913941655551300956217392786292191048920144935069532399074868412849280726302466907498087430890811353406808205032521342396643314893267407031136592784643798459305528496021255111267758247434009574999320458485341657063777090478528527289441650009855632823752157492118974406042763092455845865825769161576027174783619758493389777088197878190979542021591403958776841186898623071404092424561240716323391059951852853972861825734501448760790241390649#2048), (2, 16199374278937742645215518055842366887377307338561461736026605085072157660687679137358068507611205092477012883250471280631194687925651376018594172789193779370921464096491494577072168129505425182976250930280891228265157357014106055969536960804304383454066122692232072294972947124972571643978565630538729059369250376111485584929567391283929928078518634025664413200512981203952106297110901360486427262571535456756553064510214470515572670538122283294057802348703124777304727739587003285296610172397001924749119518078184063914562087134679401944874915270034424720527409841639071823486750852317042627326186065327199356977929#2048), (3, 77#2048)], p := [(1, 7214146644632059600433971645540134703057928547948583550364008781632857378803#256)] }, 0, item (some 0), img, 1, 1, 2, 1, 3, by decide +kernel⟩⟩

theorem met_VectorIntegerTable_3 :
    (∃ (s : State) (x : Nat) (it : Item) (im : Image) (et _pred _b _a _d : Nat), Ready s x it im ∧ et ≤ 3) ∧
    (∃ (s : State) (x : Nat) (it : Item) (im : Image) (et _pred _b _a _d : Nat), Ready s x it im ∧ et ≤ 3) ∧
    (∃ (s : State) (x : Nat) (it : Item) (im : Image) (et _pred _b _a _d : Nat), Ready s x it im ∧ et ≤ 3) ∧
    (∃ (s : State) (x : Nat) (it : Item) (im : Image) (et _pred _b _a _d : Nat), Ready s x it im ∧ et ≤ 3) :=
  ⟨⟨onCtx r0 { ctx0 with s := [(1, 5#64), (2, 3#64)], v := [(1, 18056063667490309128334060330970408786289241410788230029127624999321177223224444823297235325324834942694079124121502482719515098439613524250881377230023979084536095694778854362925913941655551300956217392786292191048920144935069532399074868412849280726302466907498087430890811353406808205032521342396643314893267407031136592784643798459305528496021255111267758247434009574999320458485341657063777090478528527289441650009855632823752157492118974406042763092455845865825769161576027174783619758493389777088197878190979542021591403958776841186898623071404092424561240716323391059951852853972861825734501448760790241390649#2048), (2, 16199374278937742645215518055842366887377307338561461736026605085072157660687679137358068507611205092477012883250471280631194687925651376018594172789193779370921464096491494577072168129505425182976250930280891228265157357014106055969536960804304383454066122692232072294972947124972571643978565630538729059369250376111485584929567391283929928078518634025664413200512981203952106297110901360486427262571535456756553064510214470515572670538122283294057802348703124777304727739587003285296610172397001924749119518078184063914562087134679401944874915270034424720527409841639071823486750852317042627326186065327199356977929#2048), (3, 77#2048)], p := [(1, 7214146644632059600433971645540134703057928547948583550364008781632857378803#256)] }, 0, item (some 0), img, 1, 1, 2, 1, 3, by decide +kernel⟩,
   ⟨onCtx r0 { ctx0 with s := [(1, 5#64), (2, 3#64)], v := [(1, 18056063667490309128334060330970408786289241410788230029127624999321177223224444823297235325324834942694079124121502482719515098439613524250881377230023979084536095694778854362925913941655551300956217392786292191048920144935069532399074868412849280726302466907498087430890811353406808205032521342396643314893267407031136592784643798459305528496021255111267758247434009574999320458485341657063777090478528527289441650009855632823752157492118974406042763092455845865825769161576027174783619758493389777088197878190979542021591403958776841186898623071404092424561240716323391059951852853972861825734501448760790241390649#2048), (2, 16199374278937742645215518055842366887377307338561461736026605085072157660687679137358068507611205092477012883250471280631194687925651376018594172789193779370921464096491494577072168129505425182976250930280891228265157357014106055969536960804304383454066122692232072294972947124972571643978565630538729059369250376111485584929567391283929928078518634025664413200512981203952106297110901360486427262571535456756553064510214470515572670538122283294057802348703124777304727739587003285296610172397001924749119518078184063914562087134679401944874915270034424720527409841639071823486750852317042627326186065327199356977929#2048), (3, 77#2048)], p := [(1, 7214146644632059600433971645540134703057928547948583550364008781632857378803#256)] }, 0, item (some 0), img, 1, 1, 2, 1, 3, by decide +kernel⟩,
   ⟨onCtx r0 { ctx0 with s := [(1, 5#64), (2, 3#64)], v := [(1, 18056063667490309128334060330970408786289241410788230029127624999321177223224444823297235325324834942694079124121502482719515098439613524250881377230023979084536095694778854362925913941655551300956217392786292191048920144935069532399074868412849280726302466907498087430890811353406808205032521342396643314893267407031136592784643798459305528496021255111267758247434009574999320458485341657063777090478528527289441650009855632823752157492118974406042763092455845865825769161576027174783619758493389777088197878190979542021591403958776841186898623071404092424561240716323391059951852853972861825734501448760790241390649#2048), (2, 16199374278937742645215518055842366887377307338561461736026605085072157660687679137358068507611205092477012883250471280631194687925651376018594172789193779370921464096491494577072168129505425182976250930280891228265157357014106055969536960804304383454066122692232072294972947124972571643978565630538729059369250376111485584929567391283929928078518634025664413200512981203952106297110901360486427262571535456756553064510214470515572670538122283294057802348703124777304727739587003285296610172397001924749119518078184063914562087134679401944874915270034424720527409841639071823486750852317042627326186065327199356977929#2048), (3, 77#2048)], p := [(1, 7214146644632059600433971645540134703057928547948583550364008781632857378803#256)] }, 0, item (some 0), img, 1, 1, 2, 1, 3, by decide +kernel⟩,
   ⟨onCtx r0 { ctx0 with s := [(1, 5#64), (2, 3#64)], v := [(1, 18056063667490309128334060330970408786289241410788230029127624999321177223224444823297235325324834942694079124121502482719515098439613524250881377230023979084536095694778854362925913941655551300956217392786292191048920144935069532399074868412849280726302466907498087430890811353406808205032521342396643314893267407031136592784643798459305528496021255111267758247434009574999320458485341657063777090478528527289441650009855632823752157492118974406042763092455845865825769161576027174783619758493389777088197878190979542021591403958776841186898623071404092424561240716323391059951852853972861825734501448760790241390649#2048), (2, 16199374278937742645215518055842366887377307338561461736026605085072157660687679137358068507611205092477012883250471280631194687925651376018594172789193779370921464096491494577072168129505425182976250930280891228265157357014106055969536960804304383454066122692232072294972947124972571643978565630538729059369250376111485584929567391283929928078518634025664413200512981203952106297110901360486427262571535456756553064510214470515572670538122283294057802348703124777304727739587003285296610172397001924749119518078184063914562087134679401944874915270034424720527409841639071823486750852317042627326186065327199356977929#2048), (3, 77#2048)], p := [(1, 7214146644632059600433971645540134703057928547948583550364008781632857378803#256)] }, 0, item (some 0), img, 1, 1, 2, 1, 3, by decide +kernel⟩⟩

theorem met_VectorIntegerTable_4 :
    (∃ (s : State) (x : Nat) (it : Item) (im : Image) (et _pred _b _a _d : Nat), Ready s x it im ∧ et ≤ 3) ∧
    (∃ (s : State) (x : Nat) (it : Item) (im : Image) (et _pred _b _a _d : Nat), Ready s x it im ∧ et ≤ 3) ∧
    (∃ (s : State) (x : Nat) (it : Item) (im : Image) (et _pred _b _a _d : Nat), Ready s x it im ∧ et ≤ 3) ∧
    (∃ (s : State) (x : Nat) (it : Item) (im : Image) (et _pred _b _a _d : Nat), Ready s x it im ∧ et ≤ 3) :=
  ⟨⟨onCtx r0 { ctx0 with s := [(1, 5#64), (2, 3#64)], v := [(1, 18056063667490309128334060330970408786289241410788230029127624999321177223224444823297235325324834942694079124121502482719515098439613524250881377230023979084536095694778854362925913941655551300956217392786292191048920144935069532399074868412849280726302466907498087430890811353406808205032521342396643314893267407031136592784643798459305528496021255111267758247434009574999320458485341657063777090478528527289441650009855632823752157492118974406042763092455845865825769161576027174783619758493389777088197878190979542021591403958776841186898623071404092424561240716323391059951852853972861825734501448760790241390649#2048), (2, 16199374278937742645215518055842366887377307338561461736026605085072157660687679137358068507611205092477012883250471280631194687925651376018594172789193779370921464096491494577072168129505425182976250930280891228265157357014106055969536960804304383454066122692232072294972947124972571643978565630538729059369250376111485584929567391283929928078518634025664413200512981203952106297110901360486427262571535456756553064510214470515572670538122283294057802348703124777304727739587003285296610172397001924749119518078184063914562087134679401944874915270034424720527409841639071823486750852317042627326186065327199356977929#2048), (3, 77#2048)], p := [(1, 7214146644632059600433971645540134703057928547948583550364008781632857378803#256)] }, 0, item (some 0), img, 1, 1, 2, 1, 3, by decide +kernel⟩,
   ⟨onCtx r0 { ctx0 with s := [(1, 5#64), (2, 3#64)], v := [(1, 18056063667490309128334060330970408786289241410788230029127624999321177223224444823297235325324834942694079124121502482719515098439613524250881377230023979084536095694778854362925913941655551300956217392786292191048920144935069532399074868412849280726302466907498087430890811353406808205032521342396643314893267407031136592784643798459305528496021255111267758247434009574999320458485341657063777090478528527289441650009855632823752157492118974406042763092455845865825769161576027174783619758493389777088197878190979542021591403958776841186898623071404092424561240716323391059951852853972861825734501448760790241390649#2048), (2, 16199374278937742645215518055842366887377307338561461736026605085072157660687679137358068507611205092477012883250471280631194687925651376018594172789193779370921464096491494577072168129505425182976250930280891228265157357014106055969536960804304383454066122692232072294972947124972571643978565630538729059369250376111485584929567391283929928078518634025664413200512981203952106297110901360486427262571535456756553064510214470515572670538122283294057802348703124777304727739587003285296610172397001924749119518078184063914562087134679401944874915270034424720527409841639071823486750852317042627326186065327199356977929#2048), (3, 77#2048)], p := [(1, 7214146644632059600433971645540134703057928547948583550364008781632857378803#256)] }, 0, item (some 0), img, 1, 1, 2, 1, 3, by decide +kernel⟩,
   ⟨onCtx r0 { ctx0 with s := [(1, 5#64), (2, 3#64)], v := [(1, 18056063667490309128334060330970408786289241410788230029127624999321177223224444823297235325324834942694079124121502482719515098439613524250881377230023979084536095694778854362925913941655551300956217392786292191048920144935069532399074868412849280726302466907498087430890811353406808205032521342396643314893267407031136592784643798459305528496021255111267758247434009574999320458485341657063777090478528527289441650009855632823752157492118974406042763092455845865825769161576027174783619758493389777088197878190979542021591403958776841186898623071404092424561240716323391059951852853972861825734501448760790241390649#2048), (2, 16199374278937742645215518055842366887377307338561461736026605085072157660687679137358068507611205092477012883250471280631194687925651376018594172789193779370921464096491494577072168129505425182976250930280891228265157357014106055969536960804304383454066122692232072294972947124972571643978565630538729059369250376111485584929567391283929928078518634025664413200512981203952106297110901360486427262571535456756553064510214470515572670538122283294057802348703124777304727739587003285296610172397001924749119518078184063914562087134679401944874915270034424720527409841639071823486750852317042627326186065327199356977929#2048), (3, 77#2048)], p := [(1, 7214146644632059600433971645540134703057928547948583550364008781632857378803#256)] }, 0, item (some 0), img, 1, 1, 2, 1, 3, by decide +kernel⟩,
   ⟨onCtx r0 { ctx0 with s := [(1, 5#64), (2, 3#64)], v := [(1, 18056063667490309128334060330970408786289241410788230029127624999321177223224444823297235325324834942694079124121502482719515098439613524250881377230023979084536095694778854362925913941655551300956217392786292191048920144935069532399074868412849280726302466907498087430890811353406808205032521342396643314893267407031136592784643798459305528496021255111267758247434009574999320458485341657063777090478528527289441650009855632823752157492118974406042763092455845865825769161576027174783619758493389777088197878190979542021591403958776841186898623071404092424561240716323391059951852853972861825734501448760790241390649#2048), (2, 16199374278937742645215518055842366887377307338561461736026605085072157660687679137358068507611205092477012883250471280631194687925651376018594172789193779370921464096491494577072168129505425182976250930280891228265157357014106055969536960804304383454066122692232072294972947124972571643978565630538729059369250376111485584929567391283929928078518634025664413200512981203952106297110901360486427262571535456756553064510214470515572670538122283294057802348703124777304727739587003285296610172397001924749119518078184063914562087134679401944874915270034424720527409841639071823486750852317042627326186065327199356977929#2048), (3, 77#2048)], p := [(1, 7214146644632059600433971645540134703057928547948583550364008781632857378803#256)] }, 0, item (some 0), img, 1, 1, 2, 1, 3, by decide +kernel⟩⟩

theorem met_VectorIntegerTable_5 :
    ∃ (s : State) (x : Nat) (it : Item) (im : Image) (et _pred _vfn _a _b _d dst sr flow fsn : Nat) (pin : Bool), Ready s x it im ∧ CalledBy s it x dst sr flow fsn pin ∧ 3 < et :=
  ⟨onCtx rEid ctx0, 0, item (some 0), img, 4, 0, 0, 1, 2, 3, 7, 5, 3, 0, true, by decide +kernel⟩

theorem met_FloatScalarAndConversion_1 :
    (∃ (s : State) (x : Nat) (it : Item) (im : Image) (et fn _a _b _d : Nat), Ready s x it im ∧ (et = 7 ∨ et = 3) ∧ fn ≤ 9) ∧
    (∃ (s : State) (x : Nat) (it : Item) (im : Image) (et _fn _a _b _d : Nat), Ready s x it im ∧ (et = 7 ∨ et = 3)) ∧
    (∃ (s : State) (x : Nat) (it : Item) (im : Image) (et _a _b _d : Nat), Ready s x it im ∧ (et = 7 ∨ et = 3)) ∧
    (∃ (s : State) (x : Nat) (it : Item) (im : Image) (_et fn _a _b _d : Nat), Ready s x it im ∧ fn % 16 ≤ 12 ∧ fn < 64) :=
  ⟨⟨onCtx r0 { ctx0 with s := [(1, 1065353216#64), (2, 1077936128#64), (3, 1065353216#64)], rmode := 0 }, 0, item (some 0), img, 7, 3, 1, 2, 3, by decide +kernel⟩,
   ⟨onCtx r0 { ctx0 with s := [(1, 1065353217#64), (2, 1077936128#64), (3, 1065353216#64)], rmode := 0 }, 0, item (some 0), img, 7, 0, 1, 2, 3, by decide +kernel⟩,
   ⟨onCtx r0 { ctx0 with s := [(1, 1065353217#64), (2, 1077936128#64), (3, 1065353216#64)], rmode := 0 }, 0, item (some 0), img, 7, 1, 2, 3, by decide +kernel⟩,
   ⟨onCtx r0 { ctx0 with s := [(1, 3270901760#64), (2, 0#64), (3, 1065353216#64)], rmode := 0 }, 0, item (some 0), img, 2, 11, 1, 2, 3, by decide +kernel⟩⟩

theorem met_FloatScalarAndConversion_2 :
    (∃ (s : State) (x : Nat) (it : Item) (im : Image) (et a b d : Nat), Ready s x it im ∧ (et = 7 ∨ et = 3) ∧ (sfmt et).dec (s.fr x et a) ≠ .nan ∧ ((∃ p ∈ [true, false], (sfmt et).dec (s.fr x et a) ≠ .inf p ∧ (sfmt et).dec (s.fr x et a) ≠ .inf (!p))) ∧ ((sfmt et).dec (s.fr x et a)).isZero = false ∧ ((sfmt et).dec (s.fr x et b)).isZero = true ∧ d ≠ 0) ∧
    (∃ (s : State) (x : Nat) (it : Item) (im : Image) (et a _b d : Nat), Ready s x it im ∧ (et = 7 ∨ et = 3) ∧ (sfmt et).dec (s.fr x et a) ≠ .nan ∧ ((sfmt et).dec (s.fr x et a)).isZero = false ∧ bit (s.fr x et a) ((sfmt et).width - 1) = true ∧ d ≠ 0) ∧
    (∃ (s : State) (x : Nat) (it : Item) (im : Image) (et fn a b d : Nat), Ready s x it im ∧ (et = 7 ∨ et = 3) ∧ (fn = 5 ∨ fn = 6) ∧ ((sfmt et).dec (s.fr x et a) = .nan ∨ (sfmt et).dec (s.fr x et b) = .nan) ∧ d ≠ 0) ∧
    (∃ (s : State) (x : Nat) (it : Item) (im : Image) (et a _b _d : Nat), Ready s x it im ∧ (et = 7 ∨ et = 3) ∧ (sfmt et).dec (s.fr x et a) ≠ .nan) :=
  ⟨⟨onCtx r0 { ctx0 with s := [(1, 1065353216#64), (2, 0#64), (3, 1065353216#64)], rmode := 0 }, 0, item (some 0), img, 7, 1, 2, 3, by decide +kernel⟩,
   ⟨onCtx r0 { ctx0 with s := [(1, 3212836864#64), (2, 0#64), (3, 1065353216#64)], rmode := 0 }, 0, item (some 0), img, 7, 1, 2, 3, by decide +kernel⟩,
   ⟨onCtx r0 { ctx0 with s := [(1, 2143289345#64), (2, 1#64), (3, 1065353216#64)], rmode := 0 }, 0, item (some 0), img, 7, 5, 1, 2, 3, by decide +kernel⟩,
   ⟨onCtx r0 { ctx0 with s := [(1, 3212836865#64), (2, 1#64), (3, 1065353216#64)], rmode := 0 }, 0, item (some 0), img, 7, 1, 2, 3, by decide +kernel⟩⟩

theorem met_FloatScalarAndConversion_3 :
    (∃ (s : State) (x : Nat) (it : Item) (im : Image) (et a _b _d : Nat), Ready s x it im ∧ (et = 7 ∨ et = 3) ∧ (sfmt et).dec (s.fr x et a) ≠ .nan) ∧
    (∃ (s : State) (x : Nat) (it : Item) (im : Image) (et _a _b _d : Nat), Ready s x it im ∧ (et = 7 ∨ et = 3)) ∧
    (∃ (s : State) (x : Nat) (it : Item) (im : Image) (et _a _b _d : Nat), Ready s x it im ∧ (et = 7 ∨ et = 3)) ∧
    (∃ (s : State) (x : Nat) (it : Item) (im : Image) (et _a _b _d : Nat), Ready s x it im ∧ (et = 7 ∨ et = 3)) :=
  ⟨⟨onCtx r0 { ctx0 with s := [(1, 3212836865#64), (2, 1#64), (3, 1065353216#64)], rmode := 0 }, 0, item (some 0), img, 7, 1, 2, 3, by decide +kernel⟩,
   ⟨onCtx r0 { ctx0 with s := [(1, 1065353217#64), (2, 1077936128#64), (3, 1065353216#64)], rmode := 0 }, 0, item (some 0), img, 7, 1, 2, 3, by decide +kernel⟩,
   ⟨onCtx r0 { ctx0 with s := [(1, 1065353217#64), (2, 1077936128#64), (3, 1065353216#64)], rmode := 0 }, 0, item (some 0), img, 7, 1, 2, 3, by decide +kernel⟩,
   ⟨onCtx r0 { ctx0 with s := [(1, 1065353217#64), (2, 2143289344#64), (3, 1065353216#64)], rmode := 0 }, 0, item (some 0), img, 7, 1, 2, 3, by decide +kernel⟩⟩

theorem met_FloatScalarAndConversion_4 :
    (∃ (s : State) (x : Nat) (it : Item) (im : Image) (et fn _a _b _d dst sr flow fsn : Nat) (pin : Bool), Ready s x it im ∧ CalledBy s it x dst sr flow fsn pin ∧ ((et ≠ 7 ∧ et ≠ 3) ∨ 9 < fn)) ∧
    (∃ (s : State) (x : Nat) (it : Item) (im : Image) (et _fn _a _b _d dst sr flow fsn : Nat) (pin : Bool), Ready s x it im ∧ CalledBy s it x dst sr flow fsn pin ∧ (et ≠ 7 ∧ et ≠ 3)) ∧
    (∃ (s : State) (x : Nat) (it : Item) (im : Image) (et fn _a _b _d dst sr flow fsn : Nat) (pin : Bool), Ready s x it im ∧ CalledBy s it x dst sr flow fsn pin ∧ ((et ≠ 7 ∧ et ≠ 3) ∨ 3 < fn)) ∧
    (∃ (s : State) (x : Nat) (it : Item) (im : Image) (et a _b d : Nat), Ready s x it im ∧ et ≤ 3 ∧ fFP32.dec (s.sr x a % 2 ^ 32) = .nan ∧ d ≠ 0) :=
  ⟨⟨onCtx rEid ctx0, 0, item (some 0), img, 2, 0, 1, 2, 3, 7, 5, 3, 0, true, by decide +kernel⟩,
   ⟨onCtx rEid ctx0, 0, item (some 0), img, 2, 0, 1, 2, 3, 7, 5, 3, 0, true, by decide +kernel⟩,
   ⟨onCtx rEid ctx0, 0, item (some 0), img, 2, 0, 1, 2, 3, 7, 5, 3, 0, true, by decide +kernel⟩,
   ⟨onCtx r0 { ctx0 with s := [(1, 2143289344#64), (2, 0#64), (3, 1065353216#64)], rmode := 0 }, 0, item (some 0), img, 2, 1, 2, 3, by decide +kernel⟩⟩

theorem met_FloatScalarAndConversion_5 :
    (∃ (s : State) (x : Nat) (it : Item) (im : Image) (a _b d : Nat), Ready s x it im ∧ fFP32.dec (s.sr x a % 2 ^ 32) = .inf false ∧ d ≠ 0) ∧
    (∃ (s : State) (x : Nat) (it : Item) (im : Image) (a _b _d : Nat), Ready s x it im ∧ fFP32.dec (s.sr x a % 2 ^ 32) ≠ .nan) ∧
    (∃ (s : State) (x : Nat) (it : Item) (im : Image) (_et fn _a _b _d dst sr flow fsn : Nat) (pin : Bool), Ready s x it im ∧ CalledBy s it x dst sr flow fsn pin ∧ (12 < fn % 16 ∨ bit fn 6 = true)) :=
  ⟨⟨onCtx r0 { ctx0 with s := [(1, 2139095040#64), (2, 0#64), (3, 1065353216#64)], rmode := 0 }, 0, item (some 0), img, 1, 2, 3, by decide +kernel⟩,
   ⟨onCtx r0 { ctx0 with s := [(1, 3#64), (2, 0#64), (3, 1065353216#64)], rmode := 0 }, 0, item (some 0), img, 1, 2, 3, by decide +kernel⟩,
   ⟨onCtx rEid ctx0, 0, item (some 0), img, 2, 15, 1, 2, 3, 7, 5, 3, 0, true, by decide +kernel⟩⟩

theorem met_VectorResults_1 :
    (∃ (s : State) (x : Nat) (it : Item) (im : Image) (et _pred _b _a _d vfn : Nat), Ready s x it im ∧ 4 ≤ et ∧ et < 8 ∧ vfn ≤ 9) ∧
    (∃ (s : State) (x : Nat) (it : Item) (im : Image) (et _pred _b _a _d vfn : Nat), Ready s x it im ∧ 4 ≤ et ∧ et < 8 ∧ vfn ≤ 1) ∧
    (∃ (s : State) (x : Nat) (it : Item) (im : Image) (_pred _b _a _d vfn : Nat), Ready s x it im ∧ vfn < 8) ∧
    (∃ (s : State) (x : Nat) (it : Item) (im : Image) (et _pred vfn b _a _d : Nat), Ready s x it im ∧ et < 8 ∧ b < 16 ∧ vfn < 8 ∧ vfn < 8 ∧ lanes (etBits et) ≤ lanes (etBits (b % 8)) ∧ vfn < (lanes (etBits (b % 8))) / (lanes (etBits et))) :=
  ⟨⟨onCtx r0 { ctx0 with s := [(1, 5#64), (2, 3#64)], v := [(1, 16126943465120657802581488660223468836056688126126249546043697836395089619224692103949035155826942250712189257994562816149780343608701256266319546221945419151717629368742453668307573828730112938975713706998740786789855066454781493776057055907647413045045024540086470246123298037890766379245904837786220177265291119592030181122172179971132067019490335428150073184221363184466626837115455368887163843632928265493376467103445430694278581772619586458540616782353302211144536136009821645553859575399328279213119916665981478424974296922819123218071323641826675692745566904877483778840570082925525538708785936745638192480256#2048), (2, 8079251519679457010962712787691281965158773335284955597378528152920734932630010865062157672272579810120688370598322626607086763208280806321426195086624739024922240246007015417008884733400303027475603404524167514239684978542233860909233441632226977807299649840214621540019822249307347450998419035411210751985474056070934030242588687658980891581811987162214054664564664026192693577804547660184349498058379055460487562141643877735663147429342541734833504136734800449665070377274278309292356713195573677681847784580062602719079631660644198006346806112729843952096573527610998584549800399440947714472309619775529616932864#2048), (3, 77#2048)], p := [(1, 7214146644632059600433971645540134703057928547948583550364008781632857378803#256)] }, 0, item (some 0), img, 7, 1, 2, 1, 3, 2, by decide +kernel⟩,
   ⟨onCtx r0 { ctx0 with s := [(1, 5#64), (2, 3#64)], v := [(1, 16126943465120657802581488660223468836056688126126249546043697836395089619224692103949035155826942250712189257994562816149780343608701256266319546221945419151717629368742453668307573828730112938975713706998740786789855066454781493776057055907647413045045024540086470246123298037890766379245904837786220177265291119592030181122172179971132067019490335428150073184221363184466626837115455368887163843632928265493376467103445430694278581772619586458540616782353302211144536136009821645553859575399328279213119916665981478424974296922819123218071323641826675692745566904877483778840570082925525538708785936745638192480256#2048), (2, 8079251519679457010962712787691281965158773335284955597378528152920734932630010865062157672272579810120688370598322626607086763208280806321426195086624739024922240246007015417008884733400303027475603404524167514239684978542233860909233441632226977807299649840214621540019822249307347450998419035411210751985474056070934030242588687658980891581811987162214054664564664026192693577804547660184349498058379055460487562141643877735663147429342541734833504136734800449665070377274278309292356713195573677681847784580062602719079631660644198006346806112729843952096573527610998584549800399440947714472309619775529616932864#2048), (3, 77#2048)], p := [(1, 7214146644632059600433971645540134703057928547948583550364008781632857378803#256)] }, 0, item (some 0), img, 7, 1, 2, 1, 3, 1, by decide +kernel⟩,
   ⟨onCtx r0 { ctx0 with s := [(1, 5#64), (2, 3#64)], v := [(1, 16126943465120657802581488660223468836056688126126249546043697836395089619224692103949035155826942250712189257994562816149780343608701256266319546221945419151717629368742453668307573828730112938975713706998740786789855066454781493776057055907647413045045024540086470246123298037890766379245904837786220177265291119592030181122172179971132067019490335428150073184221363184466626837115455368887163843632928265493376467103445430694278581772619586458540616782353302211144536136009821645553859575399328279213119916665981478424974296922819123218071323641826675692745566904877483778840570082925525538708785936745638192480256#2048), (2, 8079251519679457010962712787691281965158773335284955597378528152920734932630010865062157672272579810120688370598322626607086763208280806321426195086624739024922240246007015417008884733400303027475603404524167514239684978542233860909233441632226977807299649840214621540019822249307347450998419035411210751985474056070934030242588687658980891581811987162214054664564664026192693577804547660184349498058379055460487562141643877735663147429342541734833504136734800449665070377274278309292356713195573677681847784580062602719079631660644198006346806112729843952096573527610998584549800399440947714472309619775529616932864#2048), (3, 77#2048)], p := [(1, 7214146644632059600433971645540134703057928547948583550364008781632857378803#256)] }, 0, item (some 0), img, 1, 2, 1, 3, 4, by decide +kernel⟩,
   ⟨onCtx r0 { ctx0 with s := [(1, 5#64), (2, 3#64)], v := [(1, 16126943465120657802581488660223468836056688126126249546043697836395089619224692103949035155826942250712189257994562816149780343608701256266319546221945419151717629368742453668307573828730112938975713706998740786789855066454781493776057055907647413045045024540086470246123298037890766379245904837786220177265291119592030181122172179971132067019490335428150073184221363184466626837115455368887163843632928265493376467103445430694278581772619586458540616782353302211144536136009821645553859575399328279213119916665981478424974296922819123218071323641826675692745566904877483778840570082925525538708785936745638192480256#2048), (2, 8079251519679457010962712787691281965158773335284955597378528152920734932630010865062157672272579810120688370598322626607086763208280806321426195086624739024922240246007015417008884733400303027475603404524167514239684978542233860909233441632226977807299649840214621540019822249307347450998419035411210751985474056070934030242588687658980891581811987162214054664564664026192693577804547660184349498058379055460487562141643877735663147429342541734833504136734800449665070377274278309292356713195573677681847784580062602719079631660644198006346806112729843952096573527610998584549800399440947714472309619775529616932864#2048), (3, 77#2048)], p := [(1, 7214146644632059600433971645540134703057928547948583550364008781632857378803#256)] }, 0, item (some 0), img, 7, 1, 1, 5, 1, 3, by decide +kernel⟩⟩

theorem met_VectorResults_2 :
    (∃ (s : State) (x : Nat) (it : Item) (im : Image) (et _pred _b _a d : Nat), Ready s x it im ∧ et ≤ 3 ∧ 1 ≤ d ∧ d ≤ 7) ∧
    (∃ (s : State) (x : Nat) (it : Item) (im : Image) (_et _pred b a d : Nat), Ready s x it im ∧ a ≤ 7 ∧ b ≤ 7 ∧ 1 ≤ d ∧ d ≤ 7) ∧
    (∃ (s : State) (x : Nat) (it : Item) (im : Image) (et _pred _b _a _d : Nat), Ready s x it im ∧ et ≤ 3) ∧
    (∃ (s : State) (x : Nat) (it : Item) (im : Image) (et _pred _b _a _d : Nat), Ready s x it im ∧ et < 8) :=
  ⟨⟨onCtx r0 { ctx0 with s := [(1, 5#64), (2, 3#64)], v := [(1, 18056063667490309128334060330970408786289241410788230029127624999321177223224444823297235325324834942694079124121502482719515098439613524250881377230023979084536095694778854362925913941655551300956217392786292191048920144935069532399074868412849280726302466907498087430890811353406808205032521342396643314893267407031136592784643798459305528496021255111267758247434009574999320458485341657063777090478528527289441650009855632823752157492118974406042763092455845865825769161576027174783619758493389777088197878190979542021591403958776841186898623071404092424561240716323391059951852853972861825734501448760790241390649#2048), (2, 16199374278937742645215518055842366887377307338561461736026605085072157660687679137358068507611205092477012883250471280631194687925651376018594172789193779370921464096491494577072168129505425182976250930280891228265157357014106055969536960804304383454066122692232072294972947124972571643978565630538729059369250376111485584929567391283929928078518634025664413200512981203952106297110901360486427262571535456756553064510214470515572670538122283294057802348703124777304727739587003285296610172397001924749119518078184063914562087134679401944874915270034424720527409841639071823486750852317042627326186065327199356977929#2048), (3, 77#2048)], p := [(1, 7214146644632059600433971645540134703057928547948583550364008781632857378803#256)] }, 0, item (some 0), img, 1, 1, 2, 1, 2, by decide +kernel⟩,
   ⟨onCtx r0 { ctx0 with s := [(2, 5#64)], p := [(1, 7214146644632059600433971645540134703057928547948583550364008781632857378803#256), (2, 77942113870843508487372958902697027224098555482648999793584991277043898494033#256)] }, 0, item (some 0), img, 1, 0, 1, 2, 3, by decide +kernel⟩,
   ⟨onCtx r0 { ctx0 with s := [(1, 5#64), (2, 3#64)], v := [(1, 18056063667490309128334060330970408786289241410788230029127624999321177223224444823297235325324834942694079124121502482719515098439613524250881377230023979084536095694778854362925913941655551300956217392786292191048920144935069532399074868412849280726302466907498087430890811353406808205032521342396643314893267407031136592784643798459305528496021255111267758247434009574999320458485341657063777090478528527289441650009855632823752157492118974406042763092455845865825769161576027174783619758493389777088197878190979542021591403958776841186898623071404092424561240716323391059951852853972861825734501448760790241390649#2048), (2, 16199374278937742645215518055842366887377307338561461736026605085072157660687679137358068507611205092477012883250471280631194687925651376018594172789193779370921464096491494577072168129505425182976250930280891228265157357014106055969536960804304383454066122692232072294972947124972571643978565630538729059369250376111485584929567391283929928078518634025664413200512981203952106297110901360486427262571535456756553064510214470515572670538122283294057802348703124777304727739587003285296610172397001924749119518078184063914562087134679401944874915270034424720527409841639071823486750852317042627326186065327199356977929#2048), (3, 77#2048)], p := [(1, 7214146644632059600433971645540134703057928547948583550364008781632857378803#256)] }, 0, item (some 0), img, 1, 1, 0, 1, 3, by decide +kernel⟩,
   ⟨onCtx r0 { ctx0 with s := [(1, 5#64), (2, 3#64)], v := [(1, 18056063667490309128334060330970408786289241410788230029127624999321177223224444823297235325324834942694079124121502482719515098439613524250881377230023979084536095694778854362925913941655551300956217392786292191048920144935069532399074868412849280726302466907498087430890811353406808205032521342396643314893267407031136592784643798459305528496021255111267758247434009574999320458485341657063777090478528527289441650009855632823752157492118974406042763092455845865825769161576027174783619758493389777088197878190979542021591403958776841186898623071404092424561240716323391059951852853972861825734501448760790241390649#2048), (2, 16199374278937742645215518055842366887377307338561461736026605085072157660687679137358068507611205092477012883250471280631194687925651376018594172789193779370921464096491494577072168129505425182976250930280891228265157357014106055969536960804304383454066122692232072294972947124972571643978565630538729059369250376111485584929567391283929928078518634025664413200512981203952106297110901360486427262571535456756553064510214470515572670538122283294057802348703124777304727739587003285296610172397001924749119518078184063914562087134679401944874915270034424720527409841639071823486750852317042627326186065327199356977929#2048), (3, 77#2048)], p := [(1, 7214146644632059600433971645540134703057928547948583550364008781632857378803#256)] }, 0, item (some 0), img, 1, 1, 2, 1, 3, by decide +kernel⟩⟩

theorem met_VectorResults_3 :
    (∃ (s : State) (x : Nat) (it : Item) (im : Image) (et _pred _b _a _d : Nat), Ready s x it im ∧ et < 8) ∧
    (∃ (s : State) (x : Nat) (it : Item) (im : Image) (et _pred _b _a _d : Nat), Ready s x it im ∧ et < 8) ∧
    (∃ (s : State) (x : Nat) (it : Item) (im : Image) (et _pred _b _a _d : Nat), Ready s x it im ∧ 4 ≤ et ∧ et < 7) ∧
    (∃ (s : State) (x : Nat) (it : Item) (im : Image) (et _pred _b _a _d vfn : Nat), Ready s x it im ∧ (et = 5 ∨ et = 6) ∧ vfn < 8) :=
  ⟨⟨onCtx r0 { ctx0 with s := [(1, 5#64), (2, 3#64)], v := [(1, 18056063667490309128334060330970408786289241410788230029127624999321177223224444823297235325324834942694079124121502482719515098439613524250881377230023979084536095694778854362925913941655551300956217392786292191048920144935069532399074868412849280726302466907498087430890811353406808205032521342396643314893267407031136592784643798459305528496021255111267758247434009574999320458485341657063777090478528527289441650009855632823752157492118974406042763092455845865825769161576027174783619758493389777088197878190979542021591403958776841186898623071404092424561240716323391059951852853972861825734501448760790241390649#2048), (2, 16199374278937742645215518055842366887377307338561461736026605085072157660687679137358068507611205092477012883250471280631194687925651376018594172789193779370921464096491494577072168129505425182976250930280891228265157357014106055969536960804304383454066122692232072294972947124972571643978565630538729059369250376111485584929567391283929928078518634025664413200512981203952106297110901360486427262571535456756553064510214470515572670538122283294057802348703124777304727739587003285296610172397001924749119518078184063914562087134679401944874915270034424720527409841639071823486750852317042627326186065327199356977929#2048), (3, 77#2048)], p := [(1, 7214146644632059600433971645540134703057928547948583550364008781632857378803#256)] }, 0, item (some 0), img, 1, 1, 2, 1, 3, by decide +kernel⟩,
   ⟨onCtx r0 { ctx0 with s := [(1, 5#64), (2, 3#64)], v := [(1, 18056063667490309128334060330970408786289241410788230029127624999321177223224444823297235325324834942694079124121502482719515098439613524250881377230023979084536095694778854362925913941655551300956217392786292191048920144935069532399074868412849280726302466907498087430890811353406808205032521342396643314893267407031136592784643798459305528496021255111267758247434009574999320458485341657063777090478528527289441650009855632823752157492118974406042763092455845865825769161576027174783619758493389777088197878190979542021591403958776841186898623071404092424561240716323391059951852853972861825734501448760790241390649#2048), (2, 16199374278937742645215518055842366887377307338561461736026605085072157660687679137358068507611205092477012883250471280631194687925651376018594172789193779370921464096491494577072168129505425182976250930280891228265157357014106055969536960804304383454066122692232072294972947124972571643978565630538729059369250376111485584929567391283929928078518634025664413200512981203952106297110901360486427262571535456756553064510214470515572670538122283294057802348703124777304727739587003285296610172397001924749119518078184063914562087134679401944874915270034424720527409841639071823486750852317042627326186065327199356977929#2048), (3, 77#2048)], p := [(1, 7214146644632059600433971645540134703057928547948583550364008781632857378803#256)] }, 0, item (some 0), img, 1, 1, 2, 1, 3, by decide +kernel⟩,
   ⟨onCtx r0 { ctx0 with s := [(1, 5#64), (2, 3#64)], v := [(1, 16126943465120657802581488660223468836056688126126249546043697836395089619224692103949035155826942250712189257994562816149780343608701256266319546221945419151717629368742453668307573828730112938975713706998740786789855066454781493776057055907647413045045024540086470246123298037890766379245904837786220177265291119592030181122172179971132067019490335428150073184221363184466626837115455368887163843632928265493376467103445430694278581772619586458540616782353302211144536136009821645553859575399328279213119916665981478424974296922819123218071323641826675692745566904877483778840570082925525538708785936745638192480256#2048), (2, 8079251519679457010962712787691281965158773335284955597378528152920734932630010865062157672272579810120688370598322626607086763208280806321426195086624739024922240246007015417008884733400303027475603404524167514239684978542233860909233441632226977807299649840214621540019822249307347450998419035411210751985474056070934030242588687658980891581811987162214054664564664026192693577804547660184349498058379055460487562141643877735663147429342541734833504136734800449665070377274278309292356713195573677681847784580062602719079631660644198006346806112729843952096573527610998584549800399440947714472309619775529616932864#2048), (3, 77#2048)], p := [(1, 7214146644632059600433971645540134703057928547948583550364008781632857378803#256)] }, 0, item (some 0), img, 5, 1, 2, 1, 3, by decide +kernel⟩,
   ⟨onCtx r0 { ctx0 with s := [(1, 5#64), (2, 3#64)], v := [(1, 16126943465120657802581488660223468836056688126126249546043697836395089619224692103949035155826942250712189257994562816149780343608701256266319546221945419151717629368742453668307573828730112938975713706998740786789855066454781493776057055907647413045045024540086470246123298037890766379245904837786220177265291119592030181122172179971132067019490335428150073184221363184466626837115455368887163843632928265493376467103445430694278581772619586458540616782353302211144536136009821645553859575399328279213119916665981478424974296922819123218071323641826675692745566904877483778840570082925525538708785936745638192480256#2048), (2, 8079251519679457010962712787691281965158773335284955597378528152920734932630010865062157672272579810120688370598322626607086763208280806321426195086624739024922240246007015417008884733400303027475603404524167514239684978542233860909233441632226977807299649840214621540019822249307347450998419035411210751985474056070934030242588687658980891581811987162214054664564664026192693577804547660184349498058379055460487562141643877735663147429342541734833504136734800449665070377274278309292356713195573677681847784580062602719079631660644198006346806112729843952096573527610998584549800399440947714472309619775529616932864#2048), (3, 77#2048)], p := [(1, 7214146644632059600433971645540134703057928547948583550364008781632857378803#256)] }, 0, item (some 0), img, 5, 1, 2, 1, 3, 4, by decide +kernel⟩⟩

theorem met_VectorResults_4 :
    (∃ (s : State) (x : Nat) (it : Item) (im : Image) (pred _b a _d i : Nat), Ready s x it im ∧ i < 64 ∧ s.pOn x pred 32 i = true ∧ fFP32.dec (s.ve x a 32 i) = .inf true) ∧
    (∃ (s : State) (x : Nat) (it : Item) (im : Image) (pred _b a _d i : Nat), Ready s x it im ∧ i < 64 ∧ s.pOn x pred 32 i = true ∧ (fFP32.dec (s.ve x a 32 i)).isZero = true) ∧
    (∃ (s : State) (x : Nat) (it : Item) (im : Image) (pred _b a _d i : Nat), Ready s x it im ∧ i < 64 ∧ s.pOn x pred 32 i = true ∧ s.ve x a 32 i = 0) ∧
    (∃ (s : State) (x : Nat) (it : Item) (im : Image) (pred _b a _d i : Nat), Ready s x it im ∧ i < 64 ∧ s.pOn x pred 32 i = true ∧ fFP32.dec (s.ve x a 32 i) ≠ .nan ∧ (fFP32.dec (s.ve x a 32 i)).isZero = false ∧ bit (s.ve x a 32 i) 31 = true) :=
  ⟨⟨onCtx r0 { ctx0 with v := [(1, 4286578688#2048)], p := [(1, 0xF#256)] }, 0, item (some 0), img, 1, 2, 1, 3, 0, by decide +kernel⟩,
   ⟨onCtx r0 { ctx0 with v := [(1, 0#2048)], p := [(1, 0xF#256)] }, 0, item (some 0), img, 1, 2, 1, 3, 0, by decide +kernel⟩,
   ⟨onCtx r0 { ctx0 with v := [(1, 0#2048)], p := [(1, 0xF#256)] }, 0, item (some 0), img, 1, 2, 1, 3, 0, by decide +kernel⟩,
   ⟨onCtx r0 { ctx0 with v := [(1, 3212836864#2048)], p := [(1, 0xF#256)] }, 0, item (some 0), img, 1, 2, 1, 3, 0, by decide +kernel⟩⟩

theorem met_VectorResults_5 :
    (∃ (s : State) (x : Nat) (it : Item) (im : Image) (pred _b a _d i : Nat), Ready s x it im ∧ i < 64 ∧ s.pOn x pred 32 i = true ∧ fFP32.dec (s.ve x a 32 i) ≠ .nan ∧ (fFP32.dec (s.ve x a 32 i)).isZero = false ∧ bit (s.ve x a 32 i) 31 = true) ∧
    (∃ (s : State) (x : Nat) (it : Item) (im : Image) (et _pred vfn b _a _d : Nat), Ready s x it im ∧ et < 8 ∧ b < 16 ∧ vfn < 8 ∧ lanes (etBits (b % 8)) < lanes (etBits et) ∧ vfn < (lanes (etBits et)) / (lanes (etBits (b % 8)))) ∧
    (∃ (s : State) (x : Nat) (it : Item) (im : Image) (et _pred _b _a d : Nat), Ready s x it im ∧ et ≤ 3 ∧ 1 ≤ d ∧ d ≤ 7) ∧
    (∃ (s : State) (x : Nat) (it : Item) (im : Image) (et _pred _b _a d : Nat), Ready s x it im ∧ et ≤ 3 ∧ 1 ≤ d ∧ d ≤ 7) :=
  ⟨⟨onCtx r0 { ctx0 with v := [(1, 3212836864#2048)], p := [(1, 0xF#256)] }, 0, item (some 0), img, 1, 2, 1, 3, 0, by decide +kernel⟩,
   ⟨onCtx r0 { ctx0 with s := [(1, 5#64), (2, 3#64)], v := [(1, 16126943465120657802581488660223468836056688126126249546043697836395089619224692103949035155826942250712189257994562816149780343608701256266319546221945419151717629368742453668307573828730112938975713706998740786789855066454781493776057055907647413045045024540086470246123298037890766379245904837786220177265291119592030181122172179971132067019490335428150073184221363184466626837115455368887163843632928265493376467103445430694278581772619586458540616782353302211144536136009821645553859575399328279213119916665981478424974296922819123218071323641826675692745566904877483778840570082925525538708785936745638192480256#2048), (2, 8079251519679457010962712787691281965158773335284955597378528152920734932630010865062157672272579810120688370598322626607086763208280806321426195086624739024922240246007015417008884733400303027475603404524167514239684978542233860909233441632226977807299649840214621540019822249307347450998419035411210751985474056070934030242588687658980891581811987162214054664564664026192693577804547660184349498058379055460487562141643877735663147429342541734833504136734800449665070377274278309292356713195573677681847784580062602719079631660644198006346806112729843952096573527610998584549800399440947714472309619775529616932864#2048), (3, 77#2048)], p := [(1, 7214146644632059600433971645540134703057928547948583550364008781632857378803#256)] }, 0, item (some 0), img, 5, 1, 1, 7, 1, 3, by decide +kernel⟩,
   ⟨onCtx r0 { ctx0 with s := [(1, 5#64), (2, 3#64)], v := [(1, 18056063667490309128334060330970408786289241410788230029127624999321177223224444823297235325324834942694079124121502482719515098439613524250881377230023979084536095694778854362925913941655551300956217392786292191048920144935069532399074868412849280726302466907498087430890811353406808205032521342396643314893267407031136592784643798459305528496021255111267758247434009574999320458485341657063777090478528527289441650009855632823752157492118974406042763092455845865825769161576027174783619758493389777088197878190979542021591403958776841186898623071404092424561240716323391059951852853972861825734501448760790241390649#2048), (2, 16199374278937742645215518055842366887377307338561461736026605085072157660687679137358068507611205092477012883250471280631194687925651376018594172789193779370921464096491494577072168129505425182976250930280891228265157357014106055969536960804304383454066122692232072294972947124972571643978565630538729059369250376111485584929567391283929928078518634025664413200512981203952106297110901360486427262571535456756553064510214470515572670538122283294057802348703124777304727739587003285296610172397001924749119518078184063914562087134679401944874915270034424720527409841639071823486750852317042627326186065327199356977929#2048), (3, 77#2048)], p := [(1, 7214146644632059600433971645540134703057928547948583550364008781632857378803#256)] }, 0, item (some 0), img, 1, 1, 2, 1, 2, by decide +kernel⟩,
   ⟨onCtx r0 { ctx0 with s := [(1, 5#64), (2, 3#64)], v := [(1, 18056063667490309128334060330970408786289241410788230029127624999321177223224444823297235325324834942694079124121502482719515098439613524250881377230023979084536095694778854362925913941655551300956217392786292191048920144935069532399074868412849280726302466907498087430890811353406808205032521342396643314893267407031136592784643798459305528496021255111267758247434009574999320458485341657063777090478528527289441650009855632823752157492118974406042763092455845865825769161576027174783619758493389777088197878190979542021591403958776841186898623071404092424561240716323391059951852853972861825734501448760790241390649#2048), (2, 16199374278937742645215518055842366887377307338561461736026605085072157660687679137358068507611205092477012883250471280631194687925651376018594172789193779370921464096491494577072168129505425182976250930280891228265157357014106055969536960804304383454066122692232072294972947124972571643978565630538729059369250376111485584929567391283929928078518634025664413200512981203952106297110901360486427262571535456756553064510214470515572670538122283294057802348703124777304727739587003285296610172397001924749119518078184063914562087134679401944874915270034424720527409841639071823486750852317042627326186065327199356977929#2048), (3, 77#2048)], p := [(1, 7214146644632059600433971645540134703057928547948583550364008781632857378803#256)] }, 0, item (some 0), img, 1, 1, 2, 1, 2, by decide +kernel⟩⟩

theorem met_VectorResults_6 :
    (∃ (s : State) (x : Nat) (it : Item) (im : Image) (et _pred _b _a d : Nat), Ready s x it im ∧ et ≤ 3 ∧ 1 ≤ d ∧ d ≤ 7) ∧
    (∃ (s : State) (x : Nat) (it : Item) (im : Image) (et _pred _b _a d : Nat), Ready s x it im ∧ et ≤ 3 ∧ 1 ≤ d ∧ d ≤ 7) ∧
    (∃ (s : State) (x : Nat) (it : Item) (im : Image) (et _pred _b _a d : Nat), Ready s x it im ∧ et ≤ 3 ∧ 1 ≤ d ∧ d ≤ 7) ∧
    (∃ (s : State) (x : Nat) (it : Item) (im : Image) (et _pred _b _a d : Nat), Ready s x it im ∧ et ≤ 3 ∧ 1 ≤ d ∧ d ≤ 7) :=
  ⟨⟨onCtx r0 { ctx0 with s := [(1, 5#64), (2, 3#64)], v := [(1, 18056063667490309128334060330970408786289241410788230029127624999321177223224444823297235325324834942694079124121502482719515098439613524250881377230023979084536095694778854362925913941655551300956217392786292191048920144935069532399074868412849280726302466907498087430890811353406808205032521342396643314893267407031136592784643798459305528496021255111267758247434009574999320458485341657063777090478528527289441650009855632823752157492118974406042763092455845865825769161576027174783619758493389777088197878190979542021591403958776841186898623071404092424561240716323391059951852853972861825734501448760790241390649#2048), (2, 16199374278937742645215518055842366887377307338561461736026605085072157660687679137358068507611205092477012883250471280631194687925651376018594172789193779370921464096491494577072168129505425182976250930280891228265157357014106055969536960804304383454066122692232072294972947124972571643978565630538729059369250376111485584929567391283929928078518634025664413200512981203952106297110901360486427262571535456756553064510214470515572670538122283294057802348703124777304727739587003285296610172397001924749119518078184063914562087134679401944874915270034424720527409841639071823486750852317042627326186065327199356977929#2048), (3, 77#2048)], p := [(1, 7214146644632059600433971645540134703057928547948583550364008781632857378803#256)] }, 0, item (some 0), img, 1, 1, 2, 1, 2, by decide +kernel⟩,
   ⟨onCtx r0 { ctx0 with s := [(1, 5#64), (2, 3#64)], v := [(1, 18056063667490309128334060330970408786289241410788230029127624999321177223224444823297235325324834942694079124121502482719515098439613524250881377230023979084536095694778854362925913941655551300956217392786292191048920144935069532399074868412849280726302466907498087430890811353406808205032521342396643314893267407031136592784643798459305528496021255111267758247434009574999320458485341657063777090478528527289441650009855632823752157492118974406042763092455845865825769161576027174783619758493389777088197878190979542021591403958776841186898623071404092424561240716323391059951852853972861825734501448760790241390649#2048), (2, 16199374278937742645215518055842366887377307338561461736026605085072157660687679137358068507611205092477012883250471280631194687925651376018594172789193779370921464096491494577072168129505425182976250930280891228265157357014106055969536960804304383454066122692232072294972947124972571643978565630538729059369250376111485584929567391283929928078518634025664413200512981203952106297110901360486427262571535456756553064510214470515572670538122283294057802348703124777304727739587003285296610172397001924749119518078184063914562087134679401944874915270034424720527409841639071823486750852317042627326186065327199356977929#2048), (3, 77#2048)], p := [(1, 7214146644632059600433971645540134703057928547948583550364008781632857378803#256)] }, 0, item (some 0), img, 1, 1, 2, 1, 2, by decide +kernel⟩,
   ⟨onCtx r0 { ctx0 with s := [(1, 5#64), (2, 3#64)], v := [(1, 18056063667490309128334060330970408786289241410788230029127624999321177223224444823297235325324834942694079124121502482719515098439613524250881377230023979084536095694778854362925913941655551300956217392786292191048920144935069532399074868412849280726302466907498087430890811353406808205032521342396643314893267407031136592784643798459305528496021255111267758247434009574999320458485341657063777090478528527289441650009855632823752157492118974406042763092455845865825769161576027174783619758493389777088197878190979542021591403958776841186898623071404092424561240716323391059951852853972861825734501448760790241390649#2048), (2, 16199374278937742645215518055842366887377307338561461736026605085072157660687679137358068507611205092477012883250471280631194687925651376018594172789193779370921464096491494577072168129505425182976250930280891228265157357014106055969536960804304383454066122692232072294972947124972571643978565630538729059369250376111485584929567391283929928078518634025664413200512981203952106297110901360486427262571535456756553064510214470515572670538122283294057802348703124777304727739587003285296610172397001924749119518078184063914562087134679401944874915270034424720527409841639071823486750852317042627326186065327199356977929#2048), (3, 77#2048)], p := [(1, 7214146644632059600433971645540134703057928547948583550364008781632857378803#256)] }, 0, item (some 0), img, 1, 1, 2, 1, 2, by decide +kernel⟩,
   ⟨onCtx r0 { ctx0 with s := [(1, 5#64), (2, 3#64)], v := [(1, 18056063667490309128334060330970408786289241410788230029127624999321177223224444823297235325324834942694079124121502482719515098439613524250881377230023979084536095694778854362925913941655551300956217392786292191048920144935069532399074868412849280726302466907498087430890811353406808205032521342396643314893267407031136592784643798459305528496021255111267758247434009574999320458485341657063777090478528527289441650009855632823752157492118974406042763092455845865825769161576027174783619758493389777088197878190979542021591403958776841186898623071404092424561240716323391059951852853972861825734501448760790241390649#2048), (2, 16199374278937742645215518055842366887377307338561461736026605085072157660687679137358068507611205092477012883250471280631194687925651376018594172789193779370921464096491494577072168129505425182976250930280891228265157357014106055969536960804304383454066122692232072294972947124972571643978565630538729059369250376111485584929567391283929928078518634025664413200512981203952106297110901360486427262571535456756553064510214470515572670538122283294057802348703124777304727739587003285296610172397001924749119518078184063914562087134679401944874915270034424720527409841639071823486750852317042627326186065327199356977929#2048), (3, 77#2048)], p := [(1, 7214146644632059600433971645540134703057928547948583550364008781632857378803#256)] }, 0, item (some 0), img, 1, 1, 2, 1, 2, by decide +kernel⟩⟩

theorem met_VectorResults_7 :
    (∃ (s : State) (x : Nat) (it : Item) (im : Image) (et _pred _b _a d : Nat), Ready s x it im ∧ et ≤ 3 ∧ 1 ≤ d ∧ d ≤ 7) ∧
    (∃ (s : State) (x : Nat) (it : Item) (im : Image) (et _pred vfn _b _a d : Nat), Ready s x it im ∧ 4 ≤ et ∧ et < 8 ∧ (vfn ≤ 5 ∨ vfn = 8) ∧ 1 ≤ d ∧ d ≤ 7) ∧
    (∃ (s : State) (x : Nat) (it : Item) (im : Image) (_et _pred b a d : Nat), Ready s x it im ∧ a ≤ 7 ∧ b ≤ 7 ∧ 1 ≤ d ∧ d ≤ 7) ∧
    (∃ (s : State) (x : Nat) (it : Item) (im : Image) (_et _pred b a d : Nat), Ready s x it im ∧ a ≤ 7 ∧ b ≤ 7 ∧ 1 ≤ d ∧ d ≤ 7) :=
  ⟨⟨onCtx r0 { ctx0 with s := [(1, 5#64), (2, 3#64)], v := [(1, 18056063667490309128334060330970408786289241410788230029127624999321177223224444823297235325324834942694079124121502482719515098439613524250881377230023979084536095694778854362925913941655551300956217392786292191048920144935069532399074868412849280726302466907498087430890811353406808205032521342396643314893267407031136592784643798459305528496021255111267758247434009574999320458485341657063777090478528527289441650009855632823752157492118974406042763092455845865825769161576027174783619758493389777088197878190979542021591403958776841186898623071404092424561240716323391059951852853972861825734501448760790241390649#2048), (2, 16199374278937742645215518055842366887377307338561461736026605085072157660687679137358068507611205092477012883250471280631194687925651376018594172789193779370921464096491494577072168129505425182976250930280891228265157357014106055969536960804304383454066122692232072294972947124972571643978565630538729059369250376111485584929567391283929928078518634025664413200512981203952106297110901360486427262571535456756553064510214470515572670538122283294057802348703124777304727739587003285296610172397001924749119518078184063914562087134679401944874915270034424720527409841639071823486750852317042627326186065327199356977929#2048), (3, 77#2048)], p := [(1, 7214146644632059600433971645540134703057928547948583550364008781632857378803#256)] }, 0, item (some 0), img, 1, 1, 2, 1, 2, by decide +kernel⟩,
   ⟨onCtx r0 { ctx0 with s := [(1, 5#64), (2, 3#64)], v := [(1, 16126943465120657802581488660223468836056688126126249546043697836395089619224692103949035155826942250712189257994562816149780343608701256266319546221945419151717629368742453668307573828730112938975713706998740786789855066454781493776057055907647413045045024540086470246123298037890766379245904837786220177265291119592030181122172179971132067019490335428150073184221363184466626837115455368887163843632928265493376467103445430694278581772619586458540616782353302211144536136009821645553859575399328279213119916665981478424974296922819123218071323641826675692745566904877483778840570082925525538708785936745638192480256#2048), (2, 8079251519679457010962712787691281965158773335284955597378528152920734932630010865062157672272579810120688370598322626607086763208280806321426195086624739024922240246007015417008884733400303027475603404524167514239684978542233860909233441632226977807299649840214621540019822249307347450998419035411210751985474056070934030242588687658980891581811987162214054664564664026192693577804547660184349498058379055460487562141643877735663147429342541734833504136734800449665070377274278309292356713195573677681847784580062602719079631660644198006346806112729843952096573527610998584549800399440947714472309619775529616932864#2048), (3, 77#2048)], p := [(1, 7214146644632059600433971645540134703057928547948583550364008781632857378803#256)] }, 0, item (some 0), img, 7, 1, 3, 2, 1, 2, by decide +kernel⟩,
   ⟨onCtx r0 { ctx0 with s := [(2, 5#64)], p := [(1, 7214146644632059600433971645540134703057928547948583550364008781632857378803#256), (2, 77942113870843508487372958902697027224098555482648999793584991277043898494033#256)] }, 0, item (some 0), img, 1, 0, 1, 2, 3, by decide +kernel⟩,
   ⟨onCtx r0 { ctx0 with s := [(2, 5#64)], p := [(1, 7214146644632059600433971645540134703057928547948583550364008781632857378803#256), (2, 77942113870843508487372958902697027224098555482648999793584991277043898494033#256)] }, 0, item (some 0), img, 1, 0, 1, 2, 3, by decide +kernel⟩⟩

theorem met_VectorResults_8 :
    (∃ (s : State) (x : Nat) (it : Item) (im : Image) (_et _pred b a d : Nat), Ready s x it im ∧ a ≤ 7 ∧ b ≤ 7 ∧ 1 ≤ d ∧ d ≤ 7) ∧
    (∃ (s : State) (x : Nat) (it : Item) (im : Image) (_et _pred b a d : Nat), Ready s x it im ∧ a ≤ 7 ∧ b ≤ 7 ∧ 1 ≤ d ∧ d ≤ 7) ∧
    (∃ (s : State) (x : Nat) (it : Item) (im : Image) (et _pred _b _a d : Nat), Ready s x it im ∧ et < 8 ∧ 1 ≤ d ∧ d ≤ 7) ∧
    (∃ (s : State) (x : Nat) (it : Item) (im : Image) (_et _pred _b a _d : Nat), Ready s x it im ∧ a ≤ 7) :=
  ⟨⟨onCtx r0 { ctx0 with s := [(2, 5#64)], p := [(1, 7214146644632059600433971645540134703057928547948583550364008781632857378803#256), (2, 77942113870843508487372958902697027224098555482648999793584991277043898494033#256)] }, 0, item (some 0), img, 1, 0, 1, 2, 3, by decide +kernel⟩,
   ⟨onCtx r0 { ctx0 with s := [(2, 5#64)], p := [(1, 7214146644632059600433971645540134703057928547948583550364008781632857378803#256), (2, 77942113870843508487372958902697027224098555482648999793584991277043898494033#256)] }, 0, item (some 0), img, 1, 0, 1, 2, 3, by decide +kernel⟩,
   ⟨onCtx r0 { ctx0 with s := [(2, 5#64)], p := [(1, 7214146644632059600433971645540134703057928547948583550364008781632857378803#256), (2, 77942113870843508487372958902697027224098555482648999793584991277043898494033#256)] }, 0, item (some 0), img, 1, 0, 1, 2, 3, by decide +kernel⟩,
   ⟨onCtx r0 { ctx0 with s := [(2, 5#64)], p := [(1, 7214146644632059600433971645540134703057928547948583550364008781632857378803#256), (2, 77942113870843508487372958902697027224098555482648999793584991277043898494033#256)] }, 0, item (some 0), img, 1, 0, 1, 2, 3, by decide +kernel⟩⟩

theorem met_VectorResults_9 :
    (∃ (s : State) (x : Nat) (it : Item) (im : Image) (_et _pred _b a _d : Nat), Ready s x it im ∧ a ≤ 7) ∧
    (∃ (s : State) (x : Nat) (it : Item) (im : Image) (et _pred _b _a _d vfn : Nat), Ready s x it im ∧ et ≤ 3 ∧ vfn ≤ 7) ∧
    (∃ (s : State) (x : Nat) (it : Item) (im : Image) (et _pred _b _a _d vfn : Nat), Ready s x it im ∧ 4 ≤ et ∧ et < 8 ∧ vfn ≤ 2) ∧
    (∃ (s : State) (x : Nat) (it : Item) (im : Image) (et pred _b _a d : Nat), Ready s x it im ∧ et ≤ 3 ∧ (s.acts x pred (etBits et)) ≠ [] ∧ d ≠ 0) :=
  ⟨⟨onCtx r0 { ctx0 with s := [(2, 5#64)], p := [(1, 7214146644632059600433971645540134703057928547948583550364008781632857378803#256), (2, 77942113870843508487372958902697027224098555482648999793584991277043898494033#256)] }, 0, item (some 0), img, 1, 0, 1, 2, 3, by decide +kernel⟩,
   ⟨onCtx r0 { ctx0 with s := [(1, 5#64), (2, 3#64)], v := [(1, 18056063667490309128334060330970408786289241410788230029127624999321177223224444823297235325324834942694079124121502482719515098439613524250881377230023979084536095694778854362925913941655551300956217392786292191048920144935069532399074868412849280726302466907498087430890811353406808205032521342396643314893267407031136592784643798459305528496021255111267758247434009574999320458485341657063777090478528527289441650009855632823752157492118974406042763092455845865825769161576027174783619758493389777088197878190979542021591403958776841186898623071404092424561240716323391059951852853972861825734501448760790241390649#2048), (2, 16199374278937742645215518055842366887377307338561461736026605085072157660687679137358068507611205092477012883250471280631194687925651376018594172789193779370921464096491494577072168129505425182976250930280891228265157357014106055969536960804304383454066122692232072294972947124972571643978565630538729059369250376111485584929567391283929928078518634025664413200512981203952106297110901360486427262571535456756553064510214470515572670538122283294057802348703124777304727739587003285296610172397001924749119518078184063914562087134679401944874915270034424720527409841639071823486750852317042627326186065327199356977929#2048), (3, 77#2048)], p := [(1, 7214146644632059600433971645540134703057928547948583550364008781632857378803#256)] }, 0, item (some 0), img, 1, 1, 0, 1, 3, 1, by decide +kernel⟩,
   ⟨onCtx r0 { ctx0 with s := [(1, 5#64), (2, 3#64)], v := [(1, 16126943465120657802581488660223468836056688126126249546043697836395089619224692103949035155826942250712189257994562816149780343608701256266319546221945419151717629368742453668307573828730112938975713706998740786789855066454781493776057055907647413045045024540086470246123298037890766379245904837786220177265291119592030181122172179971132067019490335428150073184221363184466626837115455368887163843632928265493376467103445430694278581772619586458540616782353302211144536136009821645553859575399328279213119916665981478424974296922819123218071323641826675692745566904877483778840570082925525538708785936745638192480256#2048), (2, 8079251519679457010962712787691281965158773335284955597378528152920734932630010865062157672272579810120688370598322626607086763208280806321426195086624739024922240246007015417008884733400303027475603404524167514239684978542233860909233441632226977807299649840214621540019822249307347450998419035411210751985474056070934030242588687658980891581811987162214054664564664026192693577804547660184349498058379055460487562141643877735663147429342541734833504136734800449665070377274278309292356713195573677681847784580062602719079631660644198006346806112729843952096573527610998584549800399440947714472309619775529616932864#2048), (3, 77#2048)], p := [(1, 7214146644632059600433971645540134703057928547948583550364008781632857378803#256)] }, 0, item (some 0), img, 7, 1, 0, 1, 3, 1, by decide +kernel⟩,
   ⟨onCtx r0 { ctx0 with s := [(1, 5#64), (2, 3#64)], v := [(1, 18056063667490309128334060330970408786289241410788230029127624999321177223224444823297235325324834942694079124121502482719515098439613524250881377230023979084536095694778854362925913941655551300956217392786292191048920144935069532399074868412849280726302466907498087430890811353406808205032521342396643314893267407031136592784643798459305528496021255111267758247434009574999320458485341657063777090478528527289441650009855632823752157492118974406042763092455845865825769161576027174783619758493389777088197878190979542021591403958776841186898623071404092424561240716323391059951852853972861825734501448760790241390649#2048), (2, 16199374278937742645215518055842366887377307338561461736026605085072157660687679137358068507611205092477012883250471280631194687925651376018594172789193779370921464096491494577072168129505425182976250930280891228265157357014106055969536960804304383454066122692232072294972947124972571643978565630538729059369250376111485584929567391283929928078518634025664413200512981203952106297110901360486427262571535456756553064510214470515572670538122283294057802348703124777304727739587003285296610172397001924749119518078184063914562087134679401944874915270034424720527409841639071823486750852317042627326186065327199356977929#2048), (3, 77#2048)], p := [(1, 7214146644632059600433971645540134703057928547948583550364008781632857378803#256)] }, 0, item (some 0), img, 1, 1, 0, 1, 3, by decide +kernel⟩⟩

theorem met_VectorResults_10 :
    (∃ (s : State) (x : Nat) (it : Item) (im : Image) (et pred _b _a _d vfn : Nat), Ready s x it im ∧ (s.acts x pred (etBits et)) = [] ∧ (vfn = 8 ∨ vfn = 9)) ∧
    (∃ (s : State) (x : Nat) (it : Item) (im : Image) (et _pred _b _a _d : Nat), Ready s x it im ∧ et < 8) ∧
    (∃ (s : State) (x : Nat) (it : Item) (im : Image) (et _pred _b _a _d : Nat), Ready s x it im ∧ et < 8) ∧
    (∃ (s : State) (x : Nat) (it : Item) (im : Image) (et _pred _b _a _d : Nat), Ready s x it im ∧ et ≤ 3) :=
  ⟨⟨onCtx r0 ctx0, 0, item (some 0), img, 1, 1, 0, 1, 3, 8, by decide +kernel⟩,
   ⟨onCtx r0 { ctx0 with s := [(1, 5#64), (2, 3#64)], v := [(1, 18056063667490309128334060330970408786289241410788230029127624999321177223224444823297235325324834942694079124121502482719515098439613524250881377230023979084536095694778854362925913941655551300956217392786292191048920144935069532399074868412849280726302466907498087430890811353406808205032521342396643314893267407031136592784643798459305528496021255111267758247434009574999320458485341657063777090478528527289441650009855632823752157492118974406042763092455845865825769161576027174783619758493389777088197878190979542021591403958776841186898623071404092424561240716323391059951852853972861825734501448760790241390649#2048), (2, 16199374278937742645215518055842366887377307338561461736026605085072157660687679137358068507611205092477012883250471280631194687925651376018594172789193779370921464096491494577072168129505425182976250930280891228265157357014106055969536960804304383454066122692232072294972947124972571643978565630538729059369250376111485584929567391283929928078518634025664413200512981203952106297110901360486427262571535456756553064510214470515572670538122283294057802348703124777304727739587003285296610172397001924749119518078184063914562087134679401944874915270034424720527409841639071823486750852317042627326186065327199356977929#2048), (3, 77#2048)], p := [(1, 7214146644632059600433971645540134703057928547948583550364008781632857378803#256)] }, 0, item (some 0), img, 1, 1, 2, 1, 3, by decide +kernel⟩,
   ⟨onCtx r0 { ctx0 with s := [(1, 5#64), (2, 3#64)], v := [(1, 18056063667490309128334060330970408786289241410788230029127624999321177223224444823297235325324834942694079124121502482719515098439613524250881377230023979084536095694778854362925913941655551300956217392786292191048920144935069532399074868412849280726302466907498087430890811353406808205032521342396643314893267407031136592784643798459305528496021255111267758247434009574999320458485341657063777090478528527289441650009855632823752157492118974406042763092455845865825769161576027174783619758493389777088197878190979542021591403958776841186898623071404092424561240716323391059951852853972861825734501448760790241390649#2048), (2, 16199374278937742645215518055842366887377307338561461736026605085072157660687679137358068507611205092477012883250471280631194687925651376018594172789193779370921464096491494577072168129505425182976250930280891228265157357014106055969536960804304383454066122692232072294972947124972571643978565630538729059369250376111485584929567391283929928078518634025664413200512981203952106297110901360486427262571535456756553064510214470515572670538122283294057802348703124777304727739587003285296610172397001924749119518078184063914562087134679401944874915270034424720527409841639071823486750852317042627326186065327199356977929#2048), (3, 77#2048)], p := [(1, 7214146644632059600433971645540134703057928547948583550364008781632857378803#256)] }, 0, item (some 0), img, 1, 1, 2, 1, 3, by decide +kernel⟩,
   ⟨onCtx r0 { ctx0 with s := [(1, 5#64), (2, 3#64)], v := [(1, 18056063667490309128334060330970408786289241410788230029127624999321177223224444823297235325324834942694079124121502482719515098439613524250881377230023979084536095694778854362925913941655551300956217392786292191048920144935069532399074868412849280726302466907498087430890811353406808205032521342396643314893267407031136592784643798459305528496021255111267758247434009574999320458485341657063777090478528527289441650009855632823752157492118974406042763092455845865825769161576027174783619758493389777088197878190979542021591403958776841186898623071404092424561240716323391059951852853972861825734501448760790241390649#2048), (2, 16199374278937742645215518055842366887377307338561461736026605085072157660687679137358068507611205092477012883250471280631194687925651376018594172789193779370921464096491494577072168129505425182976250930280891228265157357014106055969536960804304383454066122692232072294972947124972571643978565630538729059369250376111485584929567391283929928078518634025664413200512981203952106297110901360486427262571535456756553064510214470515572670538122283294057802348703124777304727739587003285296610172397001924749119518078184063914562087134679401944874915270034424720527409841639071823486750852317042627326186065327199356977929#2048), (3, 77#2048)], p := [(1, 7214146644632059600433971645540134703057928547948583550364008781632857378803#256)] }, 0, item (some 0), img, 1, 1, 2, 1, 3, by decide +kernel⟩⟩

theorem met_VectorResults_11 :
    (∃ (s : State) (x : Nat) (it : Item) (im : Image) (et _pred _b _a _d : Nat), Ready s x it im ∧ et < 8) ∧
    (∃ (s : State) (x : Nat) (it : Item) (im : Image) (et _pred _b _a _d : Nat), Ready s x it im ∧ et < 8) ∧
    (∃ (s : State) (x : Nat) (it : Item) (im : Image) (et _pred _b _a _d : Nat), Ready s x it im ∧ et < 8) ∧
    (∃ (s : State) (x : Nat) (it : Item) (im : Image) (et _pred _b _a _d : Nat), Ready s x it im ∧ et < 8) :=
  ⟨⟨onCtx r0 { ctx0 with s := [(1, 5#64), (2, 3#64)], v := [(1, 18056063667490309128334060330970408786289241410788230029127624999321177223224444823297235325324834942694079124121502482719515098439613524250881377230023979084536095694778854362925913941655551300956217392786292191048920144935069532399074868412849280726302466907498087430890811353406808205032521342396643314893267407031136592784643798459305528496021255111267758247434009574999320458485341657063777090478528527289441650009855632823752157492118974406042763092455845865825769161576027174783619758493389777088197878190979542021591403958776841186898623071404092424561240716323391059951852853972861825734501448760790241390649#2048), (2, 16199374278937742645215518055842366887377307338561461736026605085072157660687679137358068507611205092477012883250471280631194687925651376018594172789193779370921464096491494577072168129505425182976250930280891228265157357014106055969536960804304383454066122692232072294972947124972571643978565630538729059369250376111485584929567391283929928078518634025664413200512981203952106297110901360486427262571535456756553064510214470515572670538122283294057802348703124777304727739587003285296610172397001924749119518078184063914562087134679401944874915270034424720527409841639071823486750852317042627326186065327199356977929#2048), (3, 77#2048)], p := [(1, 7214146644632059600433971645540134703057928547948583550364008781632857378803#256)] }, 0, item (some 0), img, 1, 1, 2, 1, 3, by decide +kernel⟩,
   ⟨onCtx r0 { ctx0 with s := [(1, 5#64), (2, 3#64)], v := [(1, 18056063667490309128334060330970408786289241410788230029127624999321177223224444823297235325324834942694079124121502482719515098439613524250881377230023979084536095694778854362925913941655551300956217392786292191048920144935069532399074868412849280726302466907498087430890811353406808205032521342396643314893267407031136592784643798459305528496021255111267758247434009574999320458485341657063777090478528527289441650009855632823752157492118974406042763092455845865825769161576027174783619758493389777088197878190979542021591403958776841186898623071404092424561240716323391059951852853972861825734501448760790241390649#2048), (2, 16199374278937742645215518055842366887377307338561461736026605085072157660687679137358068507611205092477012883250471280631194687925651376018594172789193779370921464096491494577072168129505425182976250930280891228265157357014106055969536960804304383454066122692232072294972947124972571643978565630538729059369250376111485584929567391283929928078518634025664413200512981203952106297110901360486427262571535456756553064510214470515572670538122283294057802348703124777304727739587003285296610172397001924749119518078184063914562087134679401944874915270034424720527409841639071823486750852317042627326186065327199356977929#2048), (3, 77#2048)], p := [(1, 7214146644632059600433971645540134703057928547948583550364008781632857378803#256)] }, 0, item (some 0), img, 1, 1, 2, 1, 3, by decide +kernel⟩,
   ⟨onCtx r0 { ctx0 with s := [(1, 5#64), (2, 3#64)], v := [(1, 18056063667490309128334060330970408786289241410788230029127624999321177223224444823297235325324834942694079124121502482719515098439613524250881377230023979084536095694778854362925913941655551300956217392786292191048920144935069532399074868412849280726302466907498087430890811353406808205032521342396643314893267407031136592784643798459305528496021255111267758247434009574999320458485341657063777090478528527289441650009855632823752157492118974406042763092455845865825769161576027174783619758493389777088197878190979542021591403958776841186898623071404092424561240716323391059951852853972861825734501448760790241390649#2048), (2, 16199374278937742645215518055842366887377307338561461736026605085072157660687679137358068507611205092477012883250471280631194687925651376018594172789193779370921464096491494577072168129505425182976250930280891228265157357014106055969536960804304383454066122692232072294972947124972571643978565630538729059369250376111485584929567391283929928078518634025664413200512981203952106297110901360486427262571535456756553064510214470515572670538122283294057802348703124777304727739587003285296610172397001924749119518078184063914562087134679401944874915270034424720527409841639071823486750852317042627326186065327199356977929#2048), (3, 77#2048)], p := [(1, 7214146644632059600433971645540134703057928547948583550364008781632857378803#256)] }, 0, item (some 0), img, 1, 1, 2, 1, 3, by decide +kernel⟩,
   ⟨onCtx r0 { ctx0 with s := [(1, 5#64), (2, 3#64)], v := [(1, 18056063667490309128334060330970408786289241410788230029127624999321177223224444823297235325324834942694079124121502482719515098439613524250881377230023979084536095694778854362925913941655551300956217392786292191048920144935069532399074868412849280726302466907498087430890811353406808205032521342396643314893267407031136592784643798459305528496021255111267758247434009574999320458485341657063777090478528527289441650009855632823752157492118974406042763092455845865825769161576027174783619758493389777088197878190979542021591403958776841186898623071404092424561240716323391059951852853972861825734501448760790241390649#2048), (2, 16199374278937742645215518055842366887377307338561461736026605085072157660687679137358068507611205092477012883250471280631194687925651376018594172789193779370921464096491494577072168129505425182976250930280891228265157357014106055969536960804304383454066122692232072294972947124972571643978565630538729059369250376111485584929567391283929928078518634025664413200512981203952106297110901360486427262571535456756553064510214470515572670538122283294057802348703124777304727739587003285296610172397001924749119518078184063914562087134679401944874915270034424720527409841639071823486750852317042627326186065327199356977929#2048), (3, 77#2048)], p := [(1, 7214146644632059600433971645540134703057928547948583550364008781632857378803#256)] }, 0, item (some 0), img, 1, 1, 2, 1, 3, by decide +kernel⟩⟩

theorem met_VectorResults_12 :
    (∃ (s : State) (x : Nat) (it : Item) (im : Image) (et _pred _b _a _d : Nat), Ready s x it im ∧ et < 8) ∧
    (∃ (s : State) (x : Nat) (it : Item) (im : Image) (et _pred _b _a _d : Nat), Ready s x it im ∧ et < 8) ∧
    (∃ (s : State) (x : Nat) (it : Item) (im : Image) (et _pred _b _a _d : Nat), Ready s x it im ∧ et < 8) ∧
    (∃ (s : State) (x : Nat) (it : Item) (im : Image) (et _pred _b _a _d : Nat), Ready s x it im ∧ et ≤ 3) :=
  ⟨⟨onCtx r0 { ctx0 with s := [(1, 5#64), (2, 3#64)], v := [(1, 18056063667490309128334060330970408786289241410788230029127624999321177223224444823297235325324834942694079124121502482719515098439613524250881377230023979084536095694778854362925913941655551300956217392786292191048920144935069532399074868412849280726302466907498087430890811353406808205032521342396643314893267407031136592784643798459305528496021255111267758247434009574999320458485341657063777090478528527289441650009855632823752157492118974406042763092455845865825769161576027174783619758493389777088197878190979542021591403958776841186898623071404092424561240716323391059951852853972861825734501448760790241390649#2048), (2, 16199374278937742645215518055842366887377307338561461736026605085072157660687679137358068507611205092477012883250471280631194687925651376018594172789193779370921464096491494577072168129505425182976250930280891228265157357014106055969536960804304383454066122692232072294972947124972571643978565630538729059369250376111485584929567391283929928078518634025664413200512981203952106297110901360486427262571535456756553064510214470515572670538122283294057802348703124777304727739587003285296610172397001924749119518078184063914562087134679401944874915270034424720527409841639071823486750852317042627326186065327199356977929#2048), (3, 77#2048)], p := [(1, 7214146644632059600433971645540134703057928547948583550364008781632857378803#256)] }, 0, item (some 0), img, 1, 1, 2, 1, 3, by decide +kernel⟩,
   ⟨onCtx r0 { ctx0 with s := [(1, 5#64), (2, 3#64)], v := [(1, 18056063667490309128334060330970408786289241410788230029127624999321177223224444823297235325324834942694079124121502482719515098439613524250881377230023979084536095694778854362925913941655551300956217392786292191048920144935069532399074868412849280726302466907498087430890811353406808205032521342396643314893267407031136592784643798459305528496021255111267758247434009574999320458485341657063777090478528527289441650009855632823752157492118974406042763092455845865825769161576027174783619758493389777088197878190979542021591403958776841186898623071404092424561240716323391059951852853972861825734501448760790241390649#2048), (2, 16199374278937742645215518055842366887377307338561461736026605085072157660687679137358068507611205092477012883250471280631194687925651376018594172789193779370921464096491494577072168129505425182976250930280891228265157357014106055969536960804304383454066122692232072294972947124972571643978565630538729059369250376111485584929567391283929928078518634025664413200512981203952106297110901360486427262571535456756553064510214470515572670538122283294057802348703124777304727739587003285296610172397001924749119518078184063914562087134679401944874915270034424720527409841639071823486750852317042627326186065327199356977929#2048), (3, 77#2048)], p := [(1, 7214146644632059600433971645540134703057928547948583550364008781632857378803#256)] }, 0, item (some 0), img, 1, 1, 2, 1, 3, by decide +kernel⟩,
   ⟨onCtx r0 { ctx0 with s := [(1, 5#64), (2, 3#64)], v := [(1, 18056063667490309128334060330970408786289241410788230029127624999321177223224444823297235325324834942694079124121502482719515098439613524250881377230023979084536095694778854362925913941655551300956217392786292191048920144935069532399074868412849280726302466907498087430890811353406808205032521342396643314893267407031136592784643798459305528496021255111267758247434009574999320458485341657063777090478528527289441650009855632823752157492118974406042763092455845865825769161576027174783619758493389777088197878190979542021591403958776841186898623071404092424561240716323391059951852853972861825734501448760790241390649#2048), (2, 16199374278937742645215518055842366887377307338561461736026605085072157660687679137358068507611205092477012883250471280631194687925651376018594172789193779370921464096491494577072168129505425182976250930280891228265157357014106055969536960804304383454066122692232072294972947124972571643978565630538729059369250376111485584929567391283929928078518634025664413200512981203952106297110901360486427262571535456756553064510214470515572670538122283294057802348703124777304727739587003285296610172397001924749119518078184063914562087134679401944874915270034424720527409841639071823486750852317042627326186065327199356977929#2048), (3, 77#2048)], p := [(1, 7214146644632059600433971645540134703057928547948583550364008781632857378803#256)] }, 0, item (some 0), img, 1, 1, 2, 1, 3, by decide +kernel⟩,
   ⟨onCtx r0 { ctx0 with s := [(1, 5#64), (2, 3#64)], v := [(1, 18056063667490309128334060330970408786289241410788230029127624999321177223224444823297235325324834942694079124121502482719515098439613524250881377230023979084536095694778854362925913941655551300956217392786292191048920144935069532399074868412849280726302466907498087430890811353406808205032521342396643314893267407031136592784643798459305528496021255111267758247434009574999320458485341657063777090478528527289441650009855632823752157492118974406042763092455845865825769161576027174783619758493389777088197878190979542021591403958776841186898623071404092424561240716323391059951852853972861825734501448760790241390649#2048), (2, 16199374278937742645215518055842366887377307338561461736026605085072157660687679137358068507611205092477012883250471280631194687925651376018594172789193779370921464096491494577072168129505425182976250930280891228265157357014106055969536960804304383454066122692232072294972947124972571643978565630538729059369250376111485584929567391283929928078518634025664413200512981203952106297110901360486427262571535456756553064510214470515572670538122283294057802348703124777304727739587003285296610172397001924749119518078184063914562087134679401944874915270034424720527409841639071823486750852317042627326186065327199356977929#2048), (3, 77#2048)], p := [(1, 7214146644632059600433971645540134703057928547948583550364008781632857378803#256)] }, 0, item (some 0), img, 1, 1, 2, 1, 3, by decide +kernel⟩⟩

theorem met_VectorResults_13 :
    (∃ (s : State) (x : Nat) (it : Item) (im : Image) (et _pred _b _a _d : Nat), Ready s x it im ∧ 4 ≤ et ∧ et < 8) ∧
    (∃ (s : State) (x : Nat) (it : Item) (im : Image) (et _pred _b _a _d : Nat), Ready s x it im ∧ et < 8) ∧
    (∃ (s : State) (x : Nat) (it : Item) (im : Image) (et _pred b _a _d : Nat), Ready s x it im ∧ et < 8 ∧ 1 ≤ s.sr x b) ∧
    (∃ (s : State) (x : Nat) (it : Item) (im : Image) (et _pred vfn _b _a _d dst sr flow fsn : Nat) (pin : Bool), Ready s x it im ∧ CalledBy s it x dst sr flow fsn pin ∧ (et < 4 ∨ 9 < vfn)) :=
  ⟨⟨onCtx r0 { ctx0 with s := [(1, 5#64), (2, 3#64)], v := [(1, 16126943465120657802581488660223468836056688126126249546043697836395089619224692103949035155826942250712189257994562816149780343608701256266319546221945419151717629368742453668307573828730112938975713706998740786789855066454781493776057055907647413045045024540086470246123298037890766379245904837786220177265291119592030181122172179971132067019490335428150073184221363184466626837115455368887163843632928265493376467103445430694278581772619586458540616782353302211144536136009821645553859575399328279213119916665981478424974296922819123218071323641826675692745566904877483778840570082925525538708785936745638192480256#2048), (2, 8079251519679457010962712787691281965158773335284955597378528152920734932630010865062157672272579810120688370598322626607086763208280806321426195086624739024922240246007015417008884733400303027475603404524167514239684978542233860909233441632226977807299649840214621540019822249307347450998419035411210751985474056070934030242588687658980891581811987162214054664564664026192693577804547660184349498058379055460487562141643877735663147429342541734833504136734800449665070377274278309292356713195573677681847784580062602719079631660644198006346806112729843952096573527610998584549800399440947714472309619775529616932864#2048), (3, 77#2048)], p := [(1, 7214146644632059600433971645540134703057928547948583550364008781632857378803#256)] }, 0, item (some 0), img, 7, 1, 2, 1, 3, by decide +kernel⟩,
   ⟨onCtx r0 { ctx0 with s := [(1, 5#64), (2, 3#64)], v := [(1, 18056063667490309128334060330970408786289241410788230029127624999321177223224444823297235325324834942694079124121502482719515098439613524250881377230023979084536095694778854362925913941655551300956217392786292191048920144935069532399074868412849280726302466907498087430890811353406808205032521342396643314893267407031136592784643798459305528496021255111267758247434009574999320458485341657063777090478528527289441650009855632823752157492118974406042763092455845865825769161576027174783619758493389777088197878190979542021591403958776841186898623071404092424561240716323391059951852853972861825734501448760790241390649#2048), (2, 16199374278937742645215518055842366887377307338561461736026605085072157660687679137358068507611205092477012883250471280631194687925651376018594172789193779370921464096491494577072168129505425182976250930280891228265157357014106055969536960804304383454066122692232072294972947124972571643978565630538729059369250376111485584929567391283929928078518634025664413200512981203952106297110901360486427262571535456756553064510214470515572670538122283294057802348703124777304727739587003285296610172397001924749119518078184063914562087134679401944874915270034424720527409841639071823486750852317042627326186065327199356977929#2048), (3, 77#2048)], p := [(1, 7214146644632059600433971645540134703057928547948583550364008781632857378803#256)] }, 0, item (some 0), img, 1, 1, 2, 1, 3, by decide +kernel⟩,
   ⟨onCtx r0 { ctx0 with s := [(1, 5#64), (2, 3#64)], v := [(1, 18056063667490309128334060330970408786289241410788230029127624999321177223224444823297235325324834942694079124121502482719515098439613524250881377230023979084536095694778854362925913941655551300956217392786292191048920144935069532399074868412849280726302466907498087430890811353406808205032521342396643314893267407031136592784643798459305528496021255111267758247434009574999320458485341657063777090478528527289441650009855632823752157492118974406042763092455845865825769161576027174783619758493389777088197878190979542021591403958776841186898623071404092424561240716323391059951852853972861825734501448760790241390649#2048), (2, 16199374278937742645215518055842366887377307338561461736026605085072157660687679137358068507611205092477012883250471280631194687925651376018594172789193779370921464096491494577072168129505425182976250930280891228265157357014106055969536960804304383454066122692232072294972947124972571643978565630538729059369250376111485584929567391283929928078518634025664413200512981203952106297110901360486427262571535456756553064510214470515572670538122283294057802348703124777304727739587003285296610172397001924749119518078184063914562087134679401944874915270034424720527409841639071823486750852317042627326186065327199356977929#2048), (3, 77#2048)], p := [(1, 7214146644632059600433971645540134703057928547948583550364008781632857378803#256)] }, 0, item (some 0), img, 1, 1, 2, 1, 3, by decide +kernel⟩,
   ⟨onCtx rEid ctx0, 0, item (some 0), img, 0, 0, 15, 2, 1, 3, 7, 5, 3, 0, true, by decide +kernel⟩⟩

theorem met_VectorResults_14 :
    (∃ (s : State) (x : Nat) (it : Item) (im : Image) (et _pred vfn _b _a _d dst sr flow fsn : Nat) (pin : Bool), Ready s x it im ∧ CalledBy s it x dst sr flow fsn pin ∧ (et < 4 ∨ 2 < vfn ∨ (vfn = 2 ∧ et = 7))) ∧
    (∃ (s : State) (x : Nat) (it : Item) (im : Image) (et _pred vfn _b _a d dst sr flow fsn : Nat) (pin : Bool), Ready s x it im ∧ CalledBy s it x dst sr flow fsn pin ∧ (8 < vfn ∨ ((vfn = 6 ∨ vfn = 7) ∧ 4 ≤ et) ∨ (vfn = 8 ∧ et < 4) ∨ 7 < d)) ∧
    (∃ (s : State) (x : Nat) (it : Item) (im : Image) (_et _pred vfn _b _a d dst sr flow fsn : Nat) (pin : Bool), Ready s x it im ∧ CalledBy s it x dst sr flow fsn pin ∧ (7 < vfn ∨ (vfn ≤ 5 ∧ 7 < d))) ∧
    (∃ (s : State) (x : Nat) (it : Item) (im : Image) (et _pred vfn _b _a _d dst sr flow fsn : Nat) (pin : Bool), Ready s x it im ∧ CalledBy s it x dst sr flow fsn pin ∧ (9 < vfn ∨ (3 ≤ vfn ∧ vfn ≤ 7 ∧ 4 ≤ et))) :=
  ⟨⟨onCtx rEid ctx0, 0, item (some 0), img, 0, 0, 15, 2, 1, 3, 7, 5, 3, 0, true, by decide +kernel⟩,
   ⟨onCtx rEid ctx0, 0, item (some 0), img, 0, 0, 15, 2, 1, 3, 7, 5, 3, 0, true, by decide +kernel⟩,
   ⟨onCtx rEid ctx0, 0, item (some 0), img, 0, 0, 15, 2, 1, 3, 7, 5, 3, 0, true, by decide +kernel⟩,
   ⟨onCtx rEid ctx0, 0, item (some 0), img, 0, 0, 15, 2, 1, 3, 7, 5, 3, 0, true, by decide +kernel⟩⟩

theorem met_VectorResults_15 :
    (∃ (s : State) (x : Nat) (it : Item) (im : Image) (_et _pred vfn _b _a _d dst sr flow fsn : Nat) (pin : Bool), Ready s x it im ∧ CalledBy s it x dst sr flow fsn pin ∧ 6 < vfn) ∧
    (∃ (s : State) (x : Nat) (it : Item) (im : Image) (et _pred vfn _b _a _d dst sr flow fsn : Nat) (pin : Bool), Ready s x it im ∧ CalledBy s it x dst sr flow fsn pin ∧ (3 < vfn ∨ (vfn = 3 ∧ 4 ≤ et))) ∧
    (∃ (s : State) (x : Nat) (it : Item) (im : Image) (_et _pred vfn b _a _d dst sr flow fsn : Nat) (pin : Bool), Ready s x it im ∧ CalledBy s it x dst sr flow fsn pin ∧ (bit vfn 3 = true ∨ bit b 4 = true)) ∧
    (∃ (s : State) (x : Nat) (it : Item) (im : Image) (et _pred vfn _b _a _d dst sr flow fsn : Nat) (pin : Bool), Ready s x it im ∧ CalledBy s it x dst sr flow fsn pin ∧ (et < 5 ∨ 7 < vfn)) :=
  ⟨⟨onCtx rEid ctx0, 0, item (some 0), img, 0, 0, 15, 2, 1, 3, 7, 5, 3, 0, true, by decide +kernel⟩,
   ⟨onCtx rEid ctx0, 0, item (some 0), img, 0, 0, 15, 2, 1, 3, 7, 5, 3, 0, true, by decide +kernel⟩,
   ⟨onCtx rEid ctx0, 0, item (some 0), img, 0, 0, 15, 2, 1, 3, 7, 5, 3, 0, true, by decide +kernel⟩,
   ⟨onCtx rEid ctx0, 0, item (some 0), img, 0, 0, 15, 2, 1, 3, 7, 5, 3, 0, true, by decide +kernel⟩⟩

theorem met_VectorResults_16 :
    ∃ (s : State) (x : Nat) (it : Item) (im : Image) (_et _pred vfn _b _a _d dst sr flow fsn : Nat) (pin : Bool), Ready s x it im ∧ CalledBy s it x dst sr flow fsn pin ∧ 4 < vfn :=
  ⟨onCtx rEid ctx0, 0, item (some 0), img, 0, 0, 15, 2, 1, 3, 7, 5, 3, 0, true, by decide +kernel⟩

theorem met_MatrixInstructions_1 :
    (∃ (s : State) (x : Nat) (it : Item) (im : Image) (et _pred _vfn _b _a d : Nat), Ready s x it im ∧ (et = 0 ∨ (4 ≤ et ∧ et < 8)) ∧ d ≤ 3 ∧ NoErr s x) ∧
    (∃ (s : State) (x : Nat) (it : Item) (im : Image) (et _pred vfn b a d : Nat), Ready s x it im ∧ et ≤ 4 ∧ vfn ≤ 4 ∧ d ≤ 3 ∧ s.sr x a + 16 * (1 + 4 * (mxOf et).1.width) ≤ s.benchSize x ∧ s.sr x a + 16 * (1 + 4 * (mxOf et).1.width) ≤ 2 ^ 19 ∧ s.sr x b + 16 * (1 + 4 * (mxOf vfn).1.width) ≤ s.benchSize x ∧ s.sr x b + 16 * (1 + 4 * (mxOf vfn).1.width) ≤ 2 ^ 19 ∧ NoErr s x) ∧
    (∃ (s : State) (x : Nat) (it : Item) (im : Image) (_et _pred _vfn _b _a d : Nat), Ready s x it im ∧ d ≤ 3) ∧
    (∃ (s : State) (x : Nat) (it : Item) (im : Image) (et _pred b a d : Nat), Ready s x it im ∧ 5 ≤ et ∧ et < 8 ∧ d ≤ 3 ∧ ((∀ r ∈ List.range 16, s.rowAt x a b r + 16 * ((s.fm x et).width / 8) ≤ s.benchSize x ∧ s.rowAt x a b r + 16 * ((s.fm x et).width / 8) ≤ 2 ^ 19 ∧ s.rowAt x a b r % ((s.fm x et).width / 8) = 0)) ∧ NoErr s x) :=
  ⟨⟨onCtx r0 { ctx0 with s := [(1, 0#64), (2, 1024#64), (3, 2048#64)], v := [(1, 21873718538955837677123574463898404948807649277769390410364381874147314523935534121200051074196652508274297615262647861538720820261498049141126940788520768279530449773625390015421162120124561578760015304205895060274883107749279678430018082539970896300329320784609868574179210912680500755061276214321079078213591894769805095771614393393976754005315475457521858629299653726460758192812071407486181200859413336067255409296658838616816684576112877945074734750115068888282206214264961910257744276627649524600124736202323504155264015273283100718406664190882340315991101317649837632869395055185051756113125257031433970889205#2048), (2, 23856913672602858097763738258999911556559946009013358214180089616896553093645496361692228640404183582921058681519903882181000539684990514732128932915661432973700826815996466143524932093047350484030996438624234019619117714777872755589702469890759544481985387365192973627205439085731212250671963359596543449498698790879832156146339622752120933309441162343543195794964257120878837411873963596265246429974838857904088256783127525890504289252637948510085440550293648986021771191187426716675230602597810589776462435958066620743435088613355107899135266327754380599942442349328508556963619301523899655909096491310446756890793#2048)], bench := [(7, 0x3F#8), (1031, 0x40#8), (2055, 0xC0#8)] }, 0, item (some 0), img, 0, 1, 0, 2, 1, 2, by decide +kernel⟩,
   ⟨onCtx r0 { ctx0 with s := [(1, 0#64), (2, 1024#64), (3, 2048#64)], v := [(1, 21873718538955837677123574463898404948807649277769390410364381874147314523935534121200051074196652508274297615262647861538720820261498049141126940788520768279530449773625390015421162120124561578760015304205895060274883107749279678430018082539970896300329320784609868574179210912680500755061276214321079078213591894769805095771614393393976754005315475457521858629299653726460758192812071407486181200859413336067255409296658838616816684576112877945074734750115068888282206214264961910257744276627649524600124736202323504155264015273283100718406664190882340315991101317649837632869395055185051756113125257031433970889205#2048), (2, 23856913672602858097763738258999911556559946009013358214180089616896553093645496361692228640404183582921058681519903882181000539684990514732128932915661432973700826815996466143524932093047350484030996438624234019619117714777872755589702469890759544481985387365192973627205439085731212250671963359596543449498698790879832156146339622752120933309441162343543195794964257120878837411873963596265246429974838857904088256783127525890504289252637948510085440550293648986021771191187426716675230602597810589776462435958066620743435088613355107899135266327754380599942442349328508556963619301523899655909096491310446756890793#2048)], bench := [(7, 0x3F#8), (1031, 0x40#8), (2055, 0xC0#8)] }, 0, item (some 0), img, 0, 1, 4, 2, 1, 2, by decide +kernel⟩,
   ⟨onCtx r0 { ctx0 with t := [(513, 5#32)] }, 0, item (some 0), img, 0, 1, 4, 2, 1, 2, by decide +kernel⟩,
   ⟨onCtx r0 { ctx0 with s := [(1, 64#64), (2, 96#64)], bench := [(67, 0x3F#8), (163, 0x40#8)], t := [(512, 9#32)] }, 0, item (some 0), img, 7, 1, 2, 1, 2, by decide +kernel⟩⟩

theorem met_MatrixInstructions_2 :
    (∃ (s : State) (x : Nat) (it : Item) (im : Image) (et _pred _vfn b a d : Nat), Ready s x it im ∧ 5 ≤ et ∧ et < 8 ∧ d ≤ 3 ∧ ((∀ r ∈ List.range 16, s.rowAt x a b r + 16 * ((s.fm x et).width / 8) ≤ s.benchSize x ∧ s.rowAt x a b r + 16 * ((s.fm x et).width / 8) ≤ 2 ^ 19 ∧ s.rowAt x a b r % ((s.fm x et).width / 8) = 0))) ∧
    (∃ (s : State) (x : Nat) (it : Item) (im : Image) (et _pred vfn _b a _d : Nat), Ready s x it im ∧ ((et = 7 ∧ vfn ≤ 3) ∨ ((et = 5 ∨ et = 6) ∧ vfn ≤ 1)) ∧ a ≤ 3) ∧
    (∃ (s : State) (x : Nat) (it : Item) (im : Image) (_pred _vfn b a d : Nat), Ready s x it im ∧ s.sr x a + 1024 ≤ s.benchSize x ∧ s.sr x a + 1024 ≤ 2 ^ 19 ∧ s.sr x a % 8 = 0 ∧ s.sr x b + 1024 ≤ s.benchSize x ∧ s.sr x b + 1024 ≤ 2 ^ 19 ∧ s.sr x b % 8 = 0 ∧ s.sr x d + 2048 ≤ s.benchSize x ∧ s.sr x d + 2048 ≤ 2 ^ 19 ∧ s.sr x d % 8 = 0 ∧ NoErr s x) ∧
    (∃ (s : State) (x : Nat) (it : Item) (im : Image) (et _pred _vfn _b _a d dst sr flow fsn : Nat) (pin : Bool), Ready s x it im ∧ CalledBy s it x dst sr flow fsn pin ∧ (et = 1 ∨ et = 2 ∨ (et ≠ 3 ∧ 3 < d))) :=
  ⟨⟨onCtx r0 { ctx0 with s := [(1, 64#64), (2, 96#64)], t := [(512, 0x3F800000#32), (700, 0x40490FDB#32)] }, 0, item (some 0), img, 5, 1, 0, 2, 1, 2, by decide +kernel⟩,
   ⟨onCtx r0 { ctx0 with t := [(704, 0x3F800000#32), (705, 0x40490FDB#32)] }, 0, item (some 0), img, 7, 1, 3, 0, 2, 5, by decide +kernel⟩,
   ⟨onCtx r0 { ctx0 with s := [(1, 0#64), (2, 1024#64), (3, 2048#64)], v := [(1, 21873718538955837677123574463898404948807649277769390410364381874147314523935534121200051074196652508274297615262647861538720820261498049141126940788520768279530449773625390015421162120124561578760015304205895060274883107749279678430018082539970896300329320784609868574179210912680500755061276214321079078213591894769805095771614393393976754005315475457521858629299653726460758192812071407486181200859413336067255409296658838616816684576112877945074734750115068888282206214264961910257744276627649524600124736202323504155264015273283100718406664190882340315991101317649837632869395055185051756113125257031433970889205#2048), (2, 23856913672602858097763738258999911556559946009013358214180089616896553093645496361692228640404183582921058681519903882181000539684990514732128932915661432973700826815996466143524932093047350484030996438624234019619117714777872755589702469890759544481985387365192973627205439085731212250671963359596543449498698790879832156146339622752120933309441162343543195794964257120878837411873963596265246429974838857904088256783127525890504289252637948510085440550293648986021771191187426716675230602597810589776462435958066620743435088613355107899135266327754380599942442349328508556963619301523899655909096491310446756890793#2048)], bench := [(7, 0x3F#8), (1031, 0x40#8), (2055, 0xC0#8)] }, 0, item (some 0), img, 0, 0, 2, 1, 3, by decide +kernel⟩,
   ⟨onCtx rEid ctx0, 0, item (some 0), img, 1, 1, 0, 2, 1, 2, 7, 5, 3, 0, true, by decide +kernel⟩⟩

theorem met_MatrixInstructions_3 :
    (∃ (s : State) (x : Nat) (it : Item) (im : Image) (et _pred vfn _b _a d dst sr flow fsn : Nat) (pin : Bool), Ready s x it im ∧ CalledBy s it x dst sr flow fsn pin ∧ (4 < et ∨ 4 < vfn ∨ 3 < d)) ∧
    (∃ (s : State) (x : Nat) (it : Item) (im : Image) (et _pred vfn b a d dst sr flow fsn : Nat) (pin : Bool), Ready s x it im ∧ CalledBy s it x dst sr flow fsn pin ∧ et ≤ 4 ∧ vfn ≤ 4 ∧ d ≤ 3 ∧ s.sr x a < 2 ^ 60 ∧ s.benchSize x < s.sr x a + 16 * (1 + 4 * (mxOf et).1.width) ∧ s.sr x b + 16 * (1 + 4 * (mxOf vfn).1.width) ≤ s.benchSize x ∧ s.sr x b + 16 * (1 + 4 * (mxOf vfn).1.width) ≤ 2 ^ 19) ∧
    (∃ (s : State) (x : Nat) (it : Item) (im : Image) (_et _pred _vfn _b _a d dst sr flow fsn : Nat) (pin : Bool), Ready s x it im ∧ CalledBy s it x dst sr flow fsn pin ∧ 3 < d) ∧
    (∃ (s : State) (x : Nat) (it : Item) (im : Image) (et _pred b a d : Nat), Ready s x it im ∧ et ≤ 4 ∧ d ≤ 3 ∧ s.ab x a b + 8 * (1 + 4 * (mxOf et).1.width) ≤ s.benchSize x ∧ s.ab x a b + 8 * (1 + 4 * (mxOf et).1.width) ≤ 2 ^ 19 ∧ NoErr s x) :=
  ⟨⟨onCtx rEid ctx0, 0, item (some 0), img, 5, 1, 4, 2, 1, 2, 7, 5, 3, 0, true, by decide +kernel⟩,
   ⟨onCtx rEid { ctx0 with s := [(1, 65100#64)] }, 0, item (some 0), img, 0, 1, 4, 2, 1, 2, 7, 5, 3, 0, true, by decide +kernel⟩,
   ⟨onCtx rEid ctx0, 0, item (some 0), img, 5, 1, 4, 2, 1, 4, 7, 5, 3, 0, true, by decide +kernel⟩,
   ⟨onCtx r0 { ctx0 with s := [(1, 64#64), (2, 1#64)], bench := [(65, 0x80#8), (66, 0x40#8)], t := [(512, 9#32)] }, 0, item (some 0), img, 1, 1, 2, 1, 2, by decide +kernel⟩⟩

theorem met_MatrixInstructions_4 :
    (∃ (s : State) (x : Nat) (it : Item) (im : Image) (et _pred vfn _b _a d dst sr flow fsn : Nat) (pin : Bool), Ready s x it im ∧ CalledBy s it x dst sr flow fsn pin ∧ (1 < vfn ∨ 3 < d ∨ (vfn = 0 ∧ et < 5) ∨ (vfn = 1 ∧ 4 < et))) ∧
    (∃ (s : State) (x : Nat) (it : Item) (im : Image) (et _pred _vfn _b _a d dst sr flow fsn : Nat) (pin : Bool), Ready s x it im ∧ CalledBy s it x dst sr flow fsn pin ∧ (et < 5 ∨ 3 < d)) ∧
    (∃ (s : State) (x : Nat) (it : Item) (im : Image) (et _pred vfn _b a _d dst sr flow fsn : Nat) (pin : Bool), Ready s x it im ∧ CalledBy s it x dst sr flow fsn pin ∧ (et < 5 ∨ 3 < a ∨ (et = 7 ∧ 3 < vfn) ∨ (et ≠ 7 ∧ 1 < vfn))) :=
  ⟨⟨onCtx rEid ctx0, 0, item (some 0), img, 4, 1, 0, 2, 1, 2, 7, 5, 3, 0, true, by decide +kernel⟩,
   ⟨onCtx rEid ctx0, 0, item (some 0), img, 4, 1, 0, 2, 1, 2, 7, 5, 3, 0, true, by decide +kernel⟩,
   ⟨onCtx rEid ctx0, 0, item (some 0), img, 4, 1, 0, 2, 1, 2, 7, 5, 3, 0, true, by decide +kernel⟩⟩

theorem met_ProgramMemory_1 :
    (∃ (s : State) (x : Nat) (it : Item) (im : Image) (et fn b a _d o : Nat), Ready s x it im ∧ et ≤ 3 ∧ fn ≤ 1 ∧ NoFar s x ∧ s.chkRd x it im (s.ab x a b) (etBytes et) (etBytes et) = .ok (.bench o) ∧ NoErr s x) ∧
    (∃ (s : State) (x : Nat) (it : Item) (im : Image) (imm : Int) (a _d o : Nat), Ready s x it im ∧ -16384 ≤ imm ∧ imm < 16384 ∧ NoFar s x ∧ s.chkRd x it im ((s.sr x a + immNat imm) % 2 ^ 64) 8 8 = .ok (.bench o) ∧ NoErr s x) ∧
    (∃ (s : State) (x : Nat) (it : Item) (im : Image) (et _fn b a _d o : Nat), Ready s x it im ∧ et ≤ 3 ∧ s.chkWr x it im (s.ab x a b) (etBytes et) (etBytes et) = .ok (.bench o)) ∧
    (∃ (s : State) (x : Nat) (it : Item) (im : Image) (imm : Int) (a _d o : Nat), Ready s x it im ∧ -16384 ≤ imm ∧ imm < 16384 ∧ s.chkWr x it im ((s.sr x a + immNat imm) % 2 ^ 64) 8 8 = .ok (.bench o)) :=
  ⟨⟨(onCtx rEid { ctx0 with s := [(1, 40#64), (3, 0x1122334455667788#64)], bench := [(40, 0x85#8), (41, 0xFF#8)] }).memPut 65540 [0x91#8, 0x92#8], 0, item (some 0), img, 1, 0, 0, 1, 4, 40, by decide +kernel⟩,
   ⟨(onCtx rEid { ctx0 with s := [(1, 40#64), (3, 0x1122334455667788#64)], bench := [(40, 0x85#8), (41, 0xFF#8)] }).memPut 65540 [0x91#8, 0x92#8], 0, item (some 0), img, 0, 1, 4, 40, by decide +kernel⟩,
   ⟨(onCtx rEid { ctx0 with s := [(1, 40#64), (3, 0x1122334455667788#64)], bench := [(40, 0x85#8), (41, 0xFF#8)] }).memPut 65540 [0x91#8, 0x92#8], 0, item (some 0), img, 1, 0, 0, 1, 3, 40, by decide +kernel⟩,
   ⟨(onCtx rEid { ctx0 with s := [(1, 40#64), (3, 0x1122334455667788#64)], bench := [(40, 0x85#8), (41, 0xFF#8)] }).memPut 65540 [0x91#8, 0x92#8], 0, item (some 0), img, 0, 1, 3, 40, by decide +kernel⟩⟩

theorem met_ProgramMemory_2 :
    (∃ (s : State) (x : Nat) (it : Item) (im : Image) (et fn _b a _d o : Nat), Ready s x it im ∧ (et = 2 ∨ et = 3) ∧ fn ≤ 9 ∧ s.chkWr x it im (s.sr x a) (etBytes et) (etBytes et) = .ok (.bench o) ∧ NoErr s x) ∧
    (∃ (s : State) (x : Nat) (it : Item) (im : Image) (et pred vfn b a _d : Nat), Ready s x it im ∧ et < 8 ∧ vfn ≤ 2 ∧ NoFar s x ∧ ((∀ e ∈ (s.strided x et pred vfn a b), s.chkRd x it im (e.2) (etBytes et) (etBytes et) = .ok (.bench e.2))) ∧ NoErr s x) ∧
    (∃ (s : State) (x : Nat) (it : Item) (im : Image) (et pred vfn b a _d : Nat), Ready s x it im ∧ et < 8 ∧ vfn < 8 ∧ 64 * (vfn % 4) < lanes (etBits et) ∧ NoFar s x ∧ ((∀ e ∈ (s.indexed x et pred vfn b a), s.chkRd x it im (e.2) (etBytes et) (etBytes et) = .ok (.bench e.2))) ∧ NoErr s x) ∧
    (∃ (s : State) (x : Nat) (it : Item) (im : Image) (et pred vfn b a _d : Nat), Ready s x it im ∧ et < 8 ∧ vfn ≤ 1 ∧ ((∀ e ∈ (s.strided x et pred vfn a b), s.chkWr x it im (e.2) (etBytes et) (etBytes et) = .ok (.bench e.2)))) :=
  ⟨⟨(onCtx rEid { ctx0 with s := [(1, 40#64), (3, 0x1122334455667788#64)], bench := [(40, 0x85#8), (41, 0xFF#8)] }).memPut 65540 [0x91#8, 0x92#8], 0, item (some 0), img, 2, 0, 3, 1, 4, 40, by decide +kernel⟩,
   ⟨onCtx rEid { ctx0 with s := [(1, 64#64), (2, 2#64)], v := [(2, 948073055110455303533917116137784070526110850574578743682728776088233935398500668826108823275338191807207815198374610131611529903572810743089885267549332752161474904960905297708457501950431429332117730257527161533114068542442753085020037071605325124471228234189448784013296375877083770867894479545896503140506517245683376887464146321363672447523441027186209788664763388954958267503940660872436005396044631528176613341551552275363951361844380281883719527789080494825044960495561861148019085452031205002964496202890549306940439375664723828926237112482711940965963876103086253690188499956552604091312871196065792#2048), (3, 16562463486211670509235964827108421666385591275010333163109924929365465294904707302268999817369152913267600383031533829796193543109995240393557243702737445273023692827651169439496903712928606745739685887405195510049064840407317336668984406645879755086222754290540999769406051086143635733616857359164636186503633498514385150502790939964464078111627872489455312532541429913517444433582681430478348857821502815568691607896543716640213161459545993997145517856249849485702580653950324668297355997420846197547548475458891252168343626052626930307636342067665274641915047566462865434412313814756655084853657940850083688647055#2048)], p := [(1, 0xF3F#256)], bench := [(66, 0x85#8), (67, 0xFF#8), (68, 7#8)] }, 0, item (some 0), img, 5, 1, 0, 2, 1, 3, by decide +kernel⟩,
   ⟨onCtx rEid { ctx0 with s := [(1, 64#64), (2, 2#64)], v := [(2, 948073055110455303533917116137784070526110850574578743682728776088233935398500668826108823275338191807207815198374610131611529903572810743089885267549332752161474904960905297708457501950431429332117730257527161533114068542442753085020037071605325124471228234189448784013296375877083770867894479545896503140506517245683376887464146321363672447523441027186209788664763388954958267503940660872436005396044631528176613341551552275363951361844380281883719527789080494825044960495561861148019085452031205002964496202890549306940439375664723828926237112482711940965963876103086253690188499956552604091312871196065792#2048), (3, 16562463486211670509235964827108421666385591275010333163109924929365465294904707302268999817369152913267600383031533829796193543109995240393557243702737445273023692827651169439496903712928606745739685887405195510049064840407317336668984406645879755086222754290540999769406051086143635733616857359164636186503633498514385150502790939964464078111627872489455312532541429913517444433582681430478348857821502815568691607896543716640213161459545993997145517856249849485702580653950324668297355997420846197547548475458891252168343626052626930307636342067665274641915047566462865434412313814756655084853657940850083688647055#2048)], p := [(1, 0xF3F#256)], bench := [(66, 0x85#8), (67, 0xFF#8), (68, 7#8)] }, 0, item (some 0), img, 5, 1, 0, 2, 1, 3, by decide +kernel⟩,
   ⟨onCtx rEid { ctx0 with s := [(1, 64#64), (2, 2#64)], v := [(2, 948073055110455303533917116137784070526110850574578743682728776088233935398500668826108823275338191807207815198374610131611529903572810743089885267549332752161474904960905297708457501950431429332117730257527161533114068542442753085020037071605325124471228234189448784013296375877083770867894479545896503140506517245683376887464146321363672447523441027186209788664763388954958267503940660872436005396044631528176613341551552275363951361844380281883719527789080494825044960495561861148019085452031205002964496202890549306940439375664723828926237112482711940965963876103086253690188499956552604091312871196065792#2048), (3, 16562463486211670509235964827108421666385591275010333163109924929365465294904707302268999817369152913267600383031533829796193543109995240393557243702737445273023692827651169439496903712928606745739685887405195510049064840407317336668984406645879755086222754290540999769406051086143635733616857359164636186503633498514385150502790939964464078111627872489455312532541429913517444433582681430478348857821502815568691607896543716640213161459545993997145517856249849485702580653950324668297355997420846197547548475458891252168343626052626930307636342067665274641915047566462865434412313814756655084853657940850083688647055#2048)], p := [(1, 0xF3F#256)], bench := [(66, 0x85#8), (67, 0xFF#8), (68, 7#8)] }, 0, item (some 0), img, 5, 1, 0, 2, 1, 3, by decide +kernel⟩⟩

theorem met_ProgramMemory_3 :
    (∃ (s : State) (x : Nat) (it : Item) (im : Image) (et pred vfn b a _d : Nat), Ready s x it im ∧ et < 8 ∧ vfn < 8 ∧ 64 * (vfn % 4) < lanes (etBits et) ∧ ((∀ e ∈ (s.indexed x et pred vfn b a), s.chkWr x it im (e.2) (etBytes et) (etBytes et) = .ok (.bench e.2)))) ∧
    (∃ (s : State) (x : Nat) (it : Item) (im : Image) (et _pred vfn b a _d : Nat), Ready s x it im ∧ 4 ≤ et ∧ et < 8 ∧ vfn / 2 ≤ 4 ∧ NoFar s x ∧ vfn % 2 = 0 ∧ s.check x it im ⟨false, false, false⟩ (s.ab x a b) ((lanes (s.fm x et).width / 32) * (1 + 4 * (mxOf (vfn / 2)).1.width)) 1 = .ok (.bench (s.ab x a b)) ∧ NoErr s x) ∧
    (∃ (s : State) (x : Nat) (it : Item) (im : Image) (et fn b a _d p : Nat), Ready s x it im ∧ et ≤ 3 ∧ fn ≤ 1 ∧ NoFar s x ∧ s.chkRd x it im (s.ab x a b) (etBytes et) (etBytes et) = .ok (.hbm p) ∧ NoErr s x) ∧
    (∃ (s : State) (x : Nat) (it : Item) (im : Image) (et fn b a _d k st dst sr flow fsn : Nat) (pin : Bool), Ready s x it im ∧ CalledBy s it x dst sr flow fsn pin ∧ et ≤ 3 ∧ fn ≤ 1 ∧ s.chkRd x it im (s.ab x a b) (etBytes et) (etBytes et) = .no k st) :=
  ⟨⟨onCtx rEid { ctx0 with s := [(1, 64#64), (2, 2#64)], v := [(2, 948073055110455303533917116137784070526110850574578743682728776088233935398500668826108823275338191807207815198374610131611529903572810743089885267549332752161474904960905297708457501950431429332117730257527161533114068542442753085020037071605325124471228234189448784013296375877083770867894479545896503140506517245683376887464146321363672447523441027186209788664763388954958267503940660872436005396044631528176613341551552275363951361844380281883719527789080494825044960495561861148019085452031205002964496202890549306940439375664723828926237112482711940965963876103086253690188499956552604091312871196065792#2048), (3, 16562463486211670509235964827108421666385591275010333163109924929365465294904707302268999817369152913267600383031533829796193543109995240393557243702737445273023692827651169439496903712928606745739685887405195510049064840407317336668984406645879755086222754290540999769406051086143635733616857359164636186503633498514385150502790939964464078111627872489455312532541429913517444433582681430478348857821502815568691607896543716640213161459545993997145517856249849485702580653950324668297355997420846197547548475458891252168343626052626930307636342067665274641915047566462865434412313814756655084853657940850083688647055#2048)], p := [(1, 0xF3F#256)], bench := [(66, 0x85#8), (67, 0xFF#8), (68, 7#8)] }, 0, item (some 0), img, 5, 1, 0, 2, 1, 3, by decide +kernel⟩,
   ⟨onCtx rEid { ctx0 with s := [(1, 64#64), (2, 2#64)], v := [(2, 948073055110455303533917116137784070526110850574578743682728776088233935398500668826108823275338191807207815198374610131611529903572810743089885267549332752161474904960905297708457501950431429332117730257527161533114068542442753085020037071605325124471228234189448784013296375877083770867894479545896503140506517245683376887464146321363672447523441027186209788664763388954958267503940660872436005396044631528176613341551552275363951361844380281883719527789080494825044960495561861148019085452031205002964496202890549306940439375664723828926237112482711940965963876103086253690188499956552604091312871196065792#2048), (3, 16562463486211670509235964827108421666385591275010333163109924929365465294904707302268999817369152913267600383031533829796193543109995240393557243702737445273023692827651169439496903712928606745739685887405195510049064840407317336668984406645879755086222754290540999769406051086143635733616857359164636186503633498514385150502790939964464078111627872489455312532541429913517444433582681430478348857821502815568691607896543716640213161459545993997145517856249849485702580653950324668297355997420846197547548475458891252168343626052626930307636342067665274641915047566462865434412313814756655084853657940850083688647055#2048)], p := [(1, 0xF3F#256)], bench := [(66, 0x85#8), (67, 0xFF#8), (68, 7#8)] }, 0, item (some 0), img, 7, 1, 0, 2, 1, 3, by decide +kernel⟩,
   ⟨(fun s : State => s.setImage 0 (some { img with dataKib := 64 })) ((onCtx rEid { ctx0 with s := [(1, 0x1000000000010004#64), (3, 0x1122334455667788#64)], bench := [(40, 0x85#8), (41, 0xFF#8)] }).memPut 65540 [0x91#8, 0x92#8]), 0, item (some 0), { img with dataKib := 64 }, 1, 0, 0, 1, 4, 65540, by decide +kernel⟩,
   ⟨(onCtx rEid { ctx0 with s := [(1, 41#64), (3, 0x1122334455667788#64)], bench := [(40, 0x85#8), (41, 0xFF#8)] }).memPut 65540 [0x91#8, 0x92#8], 0, item (some 0), img, 1, 0, 0, 1, 4, 4, stUnsup, 7, 5, 3, 0, true, by decide +kernel⟩⟩

theorem met_ProgramMemory_4 :
    (∃ (s : State) (x : Nat) (it : Item) (im : Image) (imm : Int) (a _d p : Nat), Ready s x it im ∧ -16384 ≤ imm ∧ imm < 16384 ∧ NoFar s x ∧ s.chkRd x it im ((s.sr x a + immNat imm) % 2 ^ 64) 8 8 = .ok (.hbm p) ∧ NoErr s x) ∧
    (∃ (s : State) (x : Nat) (it : Item) (im : Image) (imm : Int) (a _d k st dst sr flow fsn : Nat) (pin : Bool), Ready s x it im ∧ CalledBy s it x dst sr flow fsn pin ∧ -16384 ≤ imm ∧ imm < 16384 ∧ s.chkRd x it im ((s.sr x a + immNat imm) % 2 ^ 64) 8 8 = .no k st) ∧
    (∃ (s : State) (x : Nat) (it : Item) (im : Image) (et fn b a _d n layer token byte : Nat), Ready s x it im ∧ et ≤ 3 ∧ fn ≤ 1 ∧ NoFar s x ∧ s.chkRd x it im (s.ab x a b) (etBytes et) (etBytes et) = .ok (.seq n layer token byte) ∧ n < 32 ∧ s.slotState n = 1 ∧ layer < s.sl n 3 31 16 ∧ byte + etBytes et ≤ s.bpt n ∧ token < s.layerLen n layer ∧ PageHere s n layer token ∧ NoErr s x) ∧
    (∃ (s : State) (x : Nat) (it : Item) (im : Image) (et _fn b a _d p : Nat), Ready s x it im ∧ et ≤ 3 ∧ s.chkWr x it im (s.ab x a b) (etBytes et) (etBytes et) = .ok (.hbm p)) :=
  ⟨⟨(fun s : State => s.setImage 0 (some { img with dataKib := 64 })) ((onCtx rEid { ctx0 with s := [(1, 0x1000000000010004#64), (3, 0x1122334455667788#64)], bench := [(40, 0x85#8), (41, 0xFF#8)] }).memPut 65540 [0x91#8, 0x92#8]), 0, item (some 0), { img with dataKib := 64 }, 4, 1, 4, 65544, by decide +kernel⟩,
   ⟨(onCtx rEid { ctx0 with s := [(1, 41#64), (3, 0x1122334455667788#64)], bench := [(40, 0x85#8), (41, 0xFF#8)] }).memPut 65540 [0x91#8, 0x92#8], 0, item (some 0), img, 0, 1, 4, 4, stUnsup, 7, 5, 3, 0, true, by decide +kernel⟩,
   ⟨(fun s : State => ((s.setCtx 0 { ctx0 with s := [(1, 0x2000000000000008#64)] }).setRf (aSlot 0 12) 31 31 1).memPut (fB * 65536 + 8) [0x85#8, 0xFF#8]) { (fun s : State => ((s.setRf (aImage 0 0) 31 29 2).setImage 0 (some { img with slots := [0] }))) (rSlot (mkPte fB none)) with shed := { (((rSlot (mkPte fB none)).setRf (aImage 0 0) 31 29 2).setImage 0 (some { img with slots := [0] })).shed with items := [item (some 0)], nextId := 1 } }, 0, item (some 0), { img with slots := [0] }, 1, 0, 0, 1, 4, 0, 0, 0, 8, by decide +kernel⟩,
   ⟨(fun s : State => s.setImage 0 (some { img with dataKib := 64 })) ((onCtx rEid { ctx0 with s := [(1, 0x1000000000010004#64), (3, 0x1122334455667788#64)], bench := [(40, 0x85#8), (41, 0xFF#8)] }).memPut 65540 [0x91#8, 0x92#8]), 0, item (some 0), { img with dataKib := 64 }, 1, 0, 0, 1, 3, 65540, by decide +kernel⟩⟩

theorem met_ProgramMemory_5 :
    (∃ (s : State) (x : Nat) (it : Item) (im : Image) (et _fn b a _d k st dst sr flow fsn : Nat) (pin : Bool), Ready s x it im ∧ CalledBy s it x dst sr flow fsn pin ∧ et ≤ 3 ∧ s.chkWr x it im (s.ab x a b) (etBytes et) (etBytes et) = .no k st) ∧
    (∃ (s : State) (x : Nat) (it : Item) (im : Image) (imm : Int) (a _d p : Nat), Ready s x it im ∧ -16384 ≤ imm ∧ imm < 16384 ∧ s.chkWr x it im ((s.sr x a + immNat imm) % 2 ^ 64) 8 8 = .ok (.hbm p)) ∧
    (∃ (s : State) (x : Nat) (it : Item) (im : Image) (imm : Int) (a _d k st dst sr flow fsn : Nat) (pin : Bool), Ready s x it im ∧ CalledBy s it x dst sr flow fsn pin ∧ -16384 ≤ imm ∧ imm < 16384 ∧ s.chkWr x it im ((s.sr x a + immNat imm) % 2 ^ 64) 8 8 = .no k st) ∧
    (∃ (s : State) (x : Nat) (it : Item) (im : Image) (et _fn b a _d dst sr flow fsn : Nat) (pin : Bool), Ready s x it im ∧ CalledBy s it x dst sr flow fsn pin ∧ et ≤ 3 ∧ (s.ab x a b) / 2 ^ 60 = 2) :=
  ⟨⟨(onCtx rEid { ctx0 with s := [(1, 41#64), (3, 0x1122334455667788#64)], bench := [(40, 0x85#8), (41, 0xFF#8)] }).memPut 65540 [0x91#8, 0x92#8], 0, item (some 0), img, 1, 0, 0, 1, 3, 4, stUnsup, 7, 5, 3, 0, true, by decide +kernel⟩,
   ⟨(fun s : State => s.setImage 0 (some { img with dataKib := 64 })) ((onCtx rEid { ctx0 with s := [(1, 0x1000000000010004#64), (3, 0x1122334455667788#64)], bench := [(40, 0x85#8), (41, 0xFF#8)] }).memPut 65540 [0x91#8, 0x92#8]), 0, item (some 0), { img with dataKib := 64 }, 4, 1, 3, 65544, by decide +kernel⟩,
   ⟨(onCtx rEid { ctx0 with s := [(1, 41#64), (3, 0x1122334455667788#64)], bench := [(40, 0x85#8), (41, 0xFF#8)] }).memPut 65540 [0x91#8, 0x92#8], 0, item (some 0), img, 0, 1, 3, 4, stUnsup, 7, 5, 3, 0, true, by decide +kernel⟩,
   ⟨(onCtx rEid { ctx0 with s := [(1, 0x2000000000000000#64), (3, 0x1122334455667788#64)], bench := [(40, 0x85#8), (41, 0xFF#8)] }).memPut 65540 [0x91#8, 0x92#8], 0, item (some 0), img, 1, 0, 0, 1, 3, 7, 5, 3, 0, true, by decide +kernel⟩⟩

theorem met_ProgramMemory_6 :
    (∃ (s : State) (x : Nat) (it : Item) (im : Image) (et fn b a _d o dst sr flow fsn : Nat) (pin : Bool), Ready s x it im ∧ CalledBy s it x dst sr flow fsn pin ∧ et ≤ 3 ∧ fn ≤ 1 ∧ NoFar s x ∧ s.chkRd x it im (s.ab x a b) (etBytes et) (etBytes et) = .ok (.bench o) ∧ ((∃ e ∈ (s.ctx x).benchBad, o ≤ e ∧ e < o + etBytes et))) ∧
    (∃ (s : State) (x : Nat) (it : Item) (im : Image) (et fn _b a _d p : Nat), Ready s x it im ∧ (et = 2 ∨ et = 3) ∧ fn ≤ 9 ∧ s.chkWr x it im (s.sr x a) (etBytes et) (etBytes et) = .ok (.hbm p) ∧ NoErr s x) ∧
    (∃ (s : State) (x : Nat) (it : Item) (im : Image) (et fn _b _a _d dst sr flow fsn : Nat) (pin : Bool), Ready s x it im ∧ CalledBy s it x dst sr flow fsn pin ∧ ((et ≠ 2 ∧ et ≠ 3) ∨ 9 < fn)) ∧
    (∃ (s : State) (x : Nat) (it : Item) (im : Image) (et pred vfn b a _d : Nat), Ready s x it im ∧ et < 8 ∧ vfn ≤ 2 ∧ NoFar s x ∧ ((∀ e ∈ (s.strided x et pred vfn a b), s.chkRd x it im (e.2) (etBytes et) (etBytes et) = .ok (.hbm (e.2 % 2 ^ 39)))) ∧ NoErr s x) :=
  ⟨⟨onCtx rEid { ctx0 with s := [(1, 40#64)], benchBad := [41] }, 0, item (some 0), img, 1, 0, 0, 1, 4, 40, 7, 5, 3, 0, true, by decide +kernel⟩,
   ⟨(fun s : State => s.setImage 0 (some { img with dataKib := 64 })) ((onCtx rEid { ctx0 with s := [(1, 0x1000000000010004#64), (3, 0x1122334455667788#64)], bench := [(40, 0x85#8), (41, 0xFF#8)] }).memPut 65540 [0x91#8, 0x92#8]), 0, item (some 0), { img with dataKib := 64 }, 2, 0, 3, 1, 4, 65540, by decide +kernel⟩,
   ⟨onCtx rEid ctx0, 0, item (some 0), img, 1, 0, 3, 1, 4, 7, 5, 3, 0, true, by decide +kernel⟩,
   ⟨(fun s : State => (s.setImage 0 (some { img with dataKib := 64 })).memPut 65536 [1#8, 2#8, 3#8, 4#8, 5#8]) (onCtx rEid { ctx0 with s := [(1, 0x1000000000010000#64), (2, 2#64)], v := [(2, 948073055110455303533917116137784070526110850574578743682728776088233935398500668826108823275338191807207815198374610131611529903572810743089885267549332752161474904960905297708457501950431429332117730257527161533114068542442753085020037071605325124471228234189448784013296375877083770867894479545896503140506517245683376887464146321363672447523441027186209788664763388954958267503940660872436005396044631528176613341551552275363951361844380281883719527789080494825044960495561861148019085452031205002964496202890549306940439375664723828926237112482711940965963876103086253690188499956552604091312871196065792#2048), (3, 16562463486211670509235964827108421666385591275010333163109924929365465294904707302268999817369152913267600383031533829796193543109995240393557243702737445273023692827651169439496903712928606745739685887405195510049064840407317336668984406645879755086222754290540999769406051086143635733616857359164636186503633498514385150502790939964464078111627872489455312532541429913517444433582681430478348857821502815568691607896543716640213161459545993997145517856249849485702580653950324668297355997420846197547548475458891252168343626052626930307636342067665274641915047566462865434412313814756655084853657940850083688647055#2048)], p := [(1, 0xF3F#256)], bench := [(66, 0x85#8), (67, 0xFF#8), (68, 7#8)] }), 0, item (some 0), { img with dataKib := 64 }, 5, 1, 0, 2, 1, 3, by decide +kernel⟩⟩

theorem met_ProgramMemory_7 :
    (∃ (s : State) (x : Nat) (it : Item) (im : Image) (et pred vfn b a _d i ad k st dst sr flow fsn : Nat) (pin : Bool), Ready s x it im ∧ CalledBy s it x dst sr flow fsn pin ∧ et < 8 ∧ vfn ≤ 2 ∧ (s.strided x et pred vfn a b).head? = some (i, ad) ∧ s.chkRd x it im (ad) (etBytes et) (etBytes et) = .no k st) ∧
    (∃ (s : State) (x : Nat) (it : Item) (im : Image) (et pred vfn b a _d : Nat), Ready s x it im ∧ et < 8 ∧ vfn < 8 ∧ 64 * (vfn % 4) < lanes (etBits et) ∧ NoFar s x ∧ ((∀ e ∈ (s.indexed x et pred vfn b a), s.chkRd x it im (e.2) (etBytes et) (etBytes et) = .ok (.hbm (e.2 % 2 ^ 39)))) ∧ NoErr s x) ∧
    (∃ (s : State) (x : Nat) (it : Item) (im : Image) (et pred vfn b a _d i ad k st dst sr flow fsn : Nat) (pin : Bool), Ready s x it im ∧ CalledBy s it x dst sr flow fsn pin ∧ et < 8 ∧ vfn < 8 ∧ 64 * (vfn % 4) < lanes (etBits et) ∧ (s.indexed x et pred vfn b a).head? = some (i, ad) ∧ s.chkRd x it im (ad) (etBytes et) (etBytes et) = .no k st) ∧
    (∃ (s : State) (x : Nat) (it : Item) (im : Image) (et pred vfn b a _d : Nat), Ready s x it im ∧ et < 8 ∧ vfn ≤ 1 ∧ ((∀ e ∈ (s.strided x et pred vfn a b), s.chkWr x it im (e.2) (etBytes et) (etBytes et) = .ok (.hbm (e.2 % 2 ^ 39))))) :=
  ⟨⟨onCtx rEid { ctx0 with s := [(1, 63#64), (2, 0#64)], v := [(2, 948073055110455303533917116137784070526110850574578743682728776088233935398500668826108823275338191807207815198374610131611529903572810743089885267549332752161474904960905297708457501950431429332117730257527161533114068542442753085020037071605325124471228234189448784013296375877083770867894479545896503140506517245683376887464146321363672447523441027186209788664763388954958267503940660872436005396044631528176613341551552275363951361844380281883719527789080494825044960495561861148019085452031205002964496202890549306940439375664723828926237112482711940965963876103086253690188499956552604091312871196065792#2048), (3, 16562463486211670509235964827108421666385591275010333163109924929365465294904707302268999817369152913267600383031533829796193543109995240393557243702737445273023692827651169439496903712928606745739685887405195510049064840407317336668984406645879755086222754290540999769406051086143635733616857359164636186503633498514385150502790939964464078111627872489455312532541429913517444433582681430478348857821502815568691607896543716640213161459545993997145517856249849485702580653950324668297355997420846197547548475458891252168343626052626930307636342067665274641915047566462865434412313814756655084853657940850083688647055#2048)], p := [(1, 0xF3F#256)], bench := [(66, 0x85#8), (67, 0xFF#8), (68, 7#8)] }, 0, item (some 0), img, 5, 1, 0, 2, 1, 3, 0, 63, 4, stUnsup, 7, 5, 3, 0, true, by decide +kernel⟩,
   ⟨(fun s : State => (s.setImage 0 (some { img with dataKib := 64 })).memPut 65536 [1#8, 2#8, 3#8, 4#8, 5#8]) (onCtx rEid { ctx0 with s := [(1, 0x1000000000010000#64), (2, 2#64)], v := [(2, 948073055110455303533917116137784070526110850574578743682728776088233935398500668826108823275338191807207815198374610131611529903572810743089885267549332752161474904960905297708457501950431429332117730257527161533114068542442753085020037071605325124471228234189448784013296375877083770867894479545896503140506517245683376887464146321363672447523441027186209788664763388954958267503940660872436005396044631528176613341551552275363951361844380281883719527789080494825044960495561861148019085452031205002964496202890549306940439375664723828926237112482711940965963876103086253690188499956552604091312871196065792#2048), (3, 16562463486211670509235964827108421666385591275010333163109924929365465294904707302268999817369152913267600383031533829796193543109995240393557243702737445273023692827651169439496903712928606745739685887405195510049064840407317336668984406645879755086222754290540999769406051086143635733616857359164636186503633498514385150502790939964464078111627872489455312532541429913517444433582681430478348857821502815568691607896543716640213161459545993997145517856249849485702580653950324668297355997420846197547548475458891252168343626052626930307636342067665274641915047566462865434412313814756655084853657940850083688647055#2048)], p := [(1, 0xF3F#256)], bench := [(66, 0x85#8), (67, 0xFF#8), (68, 7#8)] }), 0, item (some 0), { img with dataKib := 64 }, 5, 1, 0, 2, 1, 3, by decide +kernel⟩,
   ⟨onCtx rEid { ctx0 with s := [(1, 63#64), (2, 0#64)], v := [(2, 948073055110455303533917116137784070526110850574578743682728776088233935398500668826108823275338191807207815198374610131611529903572810743089885267549332752161474904960905297708457501950431429332117730257527161533114068542442753085020037071605325124471228234189448784013296375877083770867894479545896503140506517245683376887464146321363672447523441027186209788664763388954958267503940660872436005396044631528176613341551552275363951361844380281883719527789080494825044960495561861148019085452031205002964496202890549306940439375664723828926237112482711940965963876103086253690188499956552604091312871196065792#2048), (3, 16562463486211670509235964827108421666385591275010333163109924929365465294904707302268999817369152913267600383031533829796193543109995240393557243702737445273023692827651169439496903712928606745739685887405195510049064840407317336668984406645879755086222754290540999769406051086143635733616857359164636186503633498514385150502790939964464078111627872489455312532541429913517444433582681430478348857821502815568691607896543716640213161459545993997145517856249849485702580653950324668297355997420846197547548475458891252168343626052626930307636342067665274641915047566462865434412313814756655084853657940850083688647055#2048)], p := [(1, 0xF3F#256)], bench := [(66, 0x85#8), (67, 0xFF#8), (68, 7#8)] }, 0, item (some 0), img, 5, 1, 0, 2, 1, 3, 0, 63, 4, stUnsup, 7, 5, 3, 0, true, by decide +kernel⟩,
   ⟨(fun s : State => (s.setImage 0 (some { img with dataKib := 64 })).memPut 65536 [1#8, 2#8, 3#8, 4#8, 5#8]) (onCtx rEid { ctx0 with s := [(1, 0x1000000000010000#64), (2, 2#64)], v := [(2, 948073055110455303533917116137784070526110850574578743682728776088233935398500668826108823275338191807207815198374610131611529903572810743089885267549332752161474904960905297708457501950431429332117730257527161533114068542442753085020037071605325124471228234189448784013296375877083770867894479545896503140506517245683376887464146321363672447523441027186209788664763388954958267503940660872436005396044631528176613341551552275363951361844380281883719527789080494825044960495561861148019085452031205002964496202890549306940439375664723828926237112482711940965963876103086253690188499956552604091312871196065792#2048), (3, 16562463486211670509235964827108421666385591275010333163109924929365465294904707302268999817369152913267600383031533829796193543109995240393557243702737445273023692827651169439496903712928606745739685887405195510049064840407317336668984406645879755086222754290540999769406051086143635733616857359164636186503633498514385150502790939964464078111627872489455312532541429913517444433582681430478348857821502815568691607896543716640213161459545993997145517856249849485702580653950324668297355997420846197547548475458891252168343626052626930307636342067665274641915047566462865434412313814756655084853657940850083688647055#2048)], p := [(1, 0xF3F#256)], bench := [(66, 0x85#8), (67, 0xFF#8), (68, 7#8)] }), 0, item (some 0), { img with dataKib := 64 }, 5, 1, 0, 2, 1, 3, by decide +kernel⟩⟩

theorem met_ProgramMemory_8 :
    (∃ (s : State) (x : Nat) (it : Item) (im : Image) (et pred vfn b a _d i ad k st dst sr flow fsn : Nat) (pin : Bool), Ready s x it im ∧ CalledBy s it x dst sr flow fsn pin ∧ et < 8 ∧ vfn ≤ 1 ∧ (s.strided x et pred vfn a b).head? = some (i, ad) ∧ s.chkWr x it im (ad) (etBytes et) (etBytes et) = .no k st) ∧
    (∃ (s : State) (x : Nat) (it : Item) (im : Image) (et pred vfn b a _d : Nat), Ready s x it im ∧ et < 8 ∧ vfn < 8 ∧ 64 * (vfn % 4) < lanes (etBits et) ∧ ((∀ e ∈ (s.indexed x et pred vfn b a), s.chkWr x it im (e.2) (etBytes et) (etBytes et) = .ok (.hbm (e.2 % 2 ^ 39))))) ∧
    (∃ (s : State) (x : Nat) (it : Item) (im : Image) (et pred vfn b a _d i ad k st dst sr flow fsn : Nat) (pin : Bool), Ready s x it im ∧ CalledBy s it x dst sr flow fsn pin ∧ et < 8 ∧ vfn < 8 ∧ 64 * (vfn % 4) < lanes (etBits et) ∧ (s.indexed x et pred vfn b a).head? = some (i, ad) ∧ s.chkWr x it im (ad) (etBytes et) (etBytes et) = .no k st) ∧
    (∃ (s : State) (x : Nat) (it : Item) (im : Image) (et _pred vfn b a _d : Nat), Ready s x it im ∧ 4 ≤ et ∧ et < 8 ∧ vfn / 2 ≤ 4 ∧ vfn % 2 = 1 ∧ s.chkBench x it im (s.ab x a b) ((lanes (s.fm x et).width / 32) * (1 + 4 * (mxOf (vfn / 2)).1.width)) 1 = .ok (.bench (s.ab x a b)) ∧ NoErr s x) :=
  ⟨⟨onCtx rEid { ctx0 with s := [(1, 63#64), (2, 0#64)], v := [(2, 948073055110455303533917116137784070526110850574578743682728776088233935398500668826108823275338191807207815198374610131611529903572810743089885267549332752161474904960905297708457501950431429332117730257527161533114068542442753085020037071605325124471228234189448784013296375877083770867894479545896503140506517245683376887464146321363672447523441027186209788664763388954958267503940660872436005396044631528176613341551552275363951361844380281883719527789080494825044960495561861148019085452031205002964496202890549306940439375664723828926237112482711940965963876103086253690188499956552604091312871196065792#2048), (3, 16562463486211670509235964827108421666385591275010333163109924929365465294904707302268999817369152913267600383031533829796193543109995240393557243702737445273023692827651169439496903712928606745739685887405195510049064840407317336668984406645879755086222754290540999769406051086143635733616857359164636186503633498514385150502790939964464078111627872489455312532541429913517444433582681430478348857821502815568691607896543716640213161459545993997145517856249849485702580653950324668297355997420846197547548475458891252168343626052626930307636342067665274641915047566462865434412313814756655084853657940850083688647055#2048)], p := [(1, 0xF3F#256)], bench := [(66, 0x85#8), (67, 0xFF#8), (68, 7#8)] }, 0, item (some 0), img, 5, 1, 0, 2, 1, 3, 0, 63, 4, stUnsup, 7, 5, 3, 0, true, by decide +kernel⟩,
   ⟨(fun s : State => (s.setImage 0 (some { img with dataKib := 64 })).memPut 65536 [1#8, 2#8, 3#8, 4#8, 5#8]) (onCtx rEid { ctx0 with s := [(1, 0x1000000000010000#64), (2, 2#64)], v := [(2, 948073055110455303533917116137784070526110850574578743682728776088233935398500668826108823275338191807207815198374610131611529903572810743089885267549332752161474904960905297708457501950431429332117730257527161533114068542442753085020037071605325124471228234189448784013296375877083770867894479545896503140506517245683376887464146321363672447523441027186209788664763388954958267503940660872436005396044631528176613341551552275363951361844380281883719527789080494825044960495561861148019085452031205002964496202890549306940439375664723828926237112482711940965963876103086253690188499956552604091312871196065792#2048), (3, 16562463486211670509235964827108421666385591275010333163109924929365465294904707302268999817369152913267600383031533829796193543109995240393557243702737445273023692827651169439496903712928606745739685887405195510049064840407317336668984406645879755086222754290540999769406051086143635733616857359164636186503633498514385150502790939964464078111627872489455312532541429913517444433582681430478348857821502815568691607896543716640213161459545993997145517856249849485702580653950324668297355997420846197547548475458891252168343626052626930307636342067665274641915047566462865434412313814756655084853657940850083688647055#2048)], p := [(1, 0xF3F#256)], bench := [(66, 0x85#8), (67, 0xFF#8), (68, 7#8)] }), 0, item (some 0), { img with dataKib := 64 }, 5, 1, 0, 2, 1, 3, by decide +kernel⟩,
   ⟨onCtx rEid { ctx0 with s := [(1, 63#64), (2, 0#64)], v := [(2, 948073055110455303533917116137784070526110850574578743682728776088233935398500668826108823275338191807207815198374610131611529903572810743089885267549332752161474904960905297708457501950431429332117730257527161533114068542442753085020037071605325124471228234189448784013296375877083770867894479545896503140506517245683376887464146321363672447523441027186209788664763388954958267503940660872436005396044631528176613341551552275363951361844380281883719527789080494825044960495561861148019085452031205002964496202890549306940439375664723828926237112482711940965963876103086253690188499956552604091312871196065792#2048), (3, 16562463486211670509235964827108421666385591275010333163109924929365465294904707302268999817369152913267600383031533829796193543109995240393557243702737445273023692827651169439496903712928606745739685887405195510049064840407317336668984406645879755086222754290540999769406051086143635733616857359164636186503633498514385150502790939964464078111627872489455312532541429913517444433582681430478348857821502815568691607896543716640213161459545993997145517856249849485702580653950324668297355997420846197547548475458891252168343626052626930307636342067665274641915047566462865434412313814756655084853657940850083688647055#2048)], p := [(1, 0xF3F#256)], bench := [(66, 0x85#8), (67, 0xFF#8), (68, 7#8)] }, 0, item (some 0), img, 5, 1, 0, 2, 1, 3, 0, 63, 4, stUnsup, 7, 5, 3, 0, true, by decide +kernel⟩,
   ⟨onCtx rEid { ctx0 with s := [(1, 64#64), (2, 2#64)], v := [(2, 948073055110455303533917116137784070526110850574578743682728776088233935398500668826108823275338191807207815198374610131611529903572810743089885267549332752161474904960905297708457501950431429332117730257527161533114068542442753085020037071605325124471228234189448784013296375877083770867894479545896503140506517245683376887464146321363672447523441027186209788664763388954958267503940660872436005396044631528176613341551552275363951361844380281883719527789080494825044960495561861148019085452031205002964496202890549306940439375664723828926237112482711940965963876103086253690188499956552604091312871196065792#2048), (3, 16562463486211670509235964827108421666385591275010333163109924929365465294904707302268999817369152913267600383031533829796193543109995240393557243702737445273023692827651169439496903712928606745739685887405195510049064840407317336668984406645879755086222754290540999769406051086143635733616857359164636186503633498514385150502790939964464078111627872489455312532541429913517444433582681430478348857821502815568691607896543716640213161459545993997145517856249849485702580653950324668297355997420846197547548475458891252168343626052626930307636342067665274641915047566462865434412313814756655084853657940850083688647055#2048)], p := [(1, 0xF3F#256)], bench := [(66, 0x85#8), (67, 0xFF#8), (68, 7#8)] }, 0, item (some 0), img, 7, 1, 9, 2, 1, 3, by decide +kernel⟩⟩

theorem met_ProgramMemory_9 :
    ∃ (s : State) (x : Nat) (it : Item) (im : Image) (et _pred vfn _b _a _d dst sr flow fsn : Nat) (pin : Bool), Ready s x it im ∧ CalledBy s it x dst sr flow fsn pin ∧ (et < 4 ∨ 4 < vfn / 2) :=
  ⟨onCtx rEid ctx0, 0, item (some 0), img, 3, 1, 0, 3, 1, 4, 7, 5, 3, 0, true, by decide +kernel⟩

theorem met_CopiesHandlesAndSequences_1 :
    (∃ (s : State) (x : Nat) (it : Item) (im : Image) (_et b a d tag : Nat) (p q : Place), Ready s x it im ∧ tag < 16 ∧ (s.ctx x).copiesFull = false ∧ s.sr x b ≤ 524288 ∧ mcpyPair (s.sr x a / 2 ^ 60) (s.sr x d / 2 ^ 60) = true ∧ s.sr x a / 2 ^ 60 ≠ 2 ∧ s.chkRd x it im (s.sr x a) (s.sr x b) 1 = .ok p ∧ s.chkWr x it im (s.sr x d) (s.sr x b) 1 = .ok q ∧ NoErr s x) ∧
    (∃ (s : State) (x : Nat) (it : Item) (im : Image) (_et _b _a _d tag : Nat), Ready s x it im ∧ tag < 16 ∧ ((∀ k ∈ (s.ctx x).progCopies, k.tag = tag → k.fin = true ∧ k.status = stOk))) ∧
    (∃ (s : State) (x : Nat) (it : Item) (im : Image) (_et _b _a _d tag : Nat), Ready s x it im ∧ tag < 16 ∧ ((∀ k ∈ (s.ctx x).progCopies, True → k.fin = true ∧ k.status = stOk))) ∧
    (∃ (s : State) (x : Nat) (it : Item) (k p o n : Nat) (c : Copy), s.ctxItem x = some it ∧ ((s.ctx x).copies.find? (fun c => decide (c.k = k)) = some c) ∧ c.kind = 0 ∧ c.fin = false ∧ c.status = stOk ∧ k ≠ farK ∧ c.moves = [⟨.hbm p, .bench o, n, 0⟩] ∧ NoErr s x) :=
  ⟨⟨onCtx rEid { ctx0 with s := [(1, 64#64), (2, 256#64), (3, 5000#64)], bench := [(70, 9#8)] }, 0, item (some 0), img, 0, 3, 1, 2, 3, .bench 64, .bench 256, by decide +kernel⟩,
   ⟨onCtx rEid { ctx0 with copies := [{ copyOver 0 with tag := 3, fin := true }] }, 0, item (some 0), img, 0, 3, 1, 2, 3, by decide +kernel⟩,
   ⟨onCtx rEid { ctx0 with copies := [{ copyOver 0 with tag := 3, fin := true }] }, 0, item (some 0), img, 0, 3, 1, 2, 3, by decide +kernel⟩,
   ⟨(onCtx rEid { ctx0 with copies := [{ copyOver 0 with moves := [⟨.hbm 65536, .bench 8, 3, 0⟩] }] }).memPut 65536 [1#8, 2#8, 3#8], 0, item (some 0), 0, 65536, 8, 3, { copyOver 0 with moves := [⟨.hbm 65536, .bench 8, 3, 0⟩] }, by decide +kernel⟩⟩

theorem met_CopiesHandlesAndSequences_2 :
    (∃ (s : State) (x : Nat) (it : Item) (im : Image) (_et _b a d : Nat), Ready s x it im ∧ 1 ≤ s.sr x a ∧ s.sr x a ≤ 65536 ∧ s.imgFree (ctxCluster x) it.image (classFor (s.sr x a)) = true ∧ s.poolTotal (ctxCluster x) (classFor (s.sr x a)) ≤ 2 ^ 17 ∧ d ≠ 0) ∧
    (∃ (s : State) (x : Nat) (it : Item) (im : Image) (_et _b a _d : Nat), Ready s x it im ∧ im.handles.contains (s.sr x a) = true ∧ s.handleHolder (s.sr x a) = some (.image it.image) ∧ s.sr x a < 2 ^ 23 ∧ bits (s.sr x a) 19 17 ≤ 4 ∧ bits (s.sr x a) 16 0 < s.poolTotal (bits (s.sr x a) 22 20) (bits (s.sr x a) 19 17)) ∧
    (∃ (s : State) (x : Nat) (it : Item) (im : Image) (_et b a d : Nat), Ready s x it im ∧ im.handles.contains (s.sr x a) = true ∧ s.handleHolder (s.sr x a) = some (.image it.image) ∧ bits (s.sr x a) 19 17 ≤ 4 ∧ s.sr x b ≤ bufBytes (bits (s.sr x a) 19 17) ∧ s.chkBench x it im (s.sr x d) (s.sr x b) 1 = .ok (.bench (s.sr x d))) ∧
    (∃ (s : State) (x : Nat) (it : Item) (im : Image) (_et b a d : Nat), Ready s x it im ∧ im.handles.contains (s.sr x a) = true ∧ s.handleHolder (s.sr x a) = some (.image it.image) ∧ bits (s.sr x a) 19 17 ≤ 4 ∧ s.sr x b ≤ bufBytes (bits (s.sr x a) 19 17) ∧ s.chkBench x it im (s.sr x d) (s.sr x b) 1 = .ok (.bench (s.sr x d)) ∧ NoErr s x) :=
  ⟨⟨(((onCtx rEid { ctx0 with s := [(1, 100#64)], bench := [(256, 5#8)] }).setImage 0 (some { img with handles := [], bufs := [] })).setPool 0 { poolReset with rsvs := [⟨.image 0, 0, 4⟩], held := [] }).setRf (aCarve 0 0) 25 16 4, 0, item (some 0), img, 0, 3, 1, 2, by decide +kernel⟩,
   ⟨(((onCtx rEid { ctx0 with s := [(1, 0#64)], bench := [(256, 5#8)] }).setImage 0 (some { img with handles := [0], bufs := [(0, [(1, 9#8)])] })).setPool 0 { poolReset with rsvs := [⟨.image 0, 0, 4⟩], held := [⟨0, 0, true, .image 0⟩] }).setRf (aCarve 0 0) 25 16 4, 0, item (some 0), { img with handles := [0], bufs := [(0, [(1, 9#8)])] }, 0, 3, 1, 2, by decide +kernel⟩,
   ⟨((onCtx rEid { ctx0 with s := [(2, 256#64), (3, 5#64)], bench := [(256, 5#8)] }).setImage 0 (some { img with handles := [0], bufs := [(0, [(1, 9#8)])] })).setPool 0 { poolReset with rsvs := [⟨.image 0, 0, 4⟩], held := [⟨0, 0, true, .image 0⟩] }, 0, item (some 0), { img with handles := [0], bufs := [(0, [(1, 9#8)])] }, 0, 3, 1, 2, by decide +kernel⟩,
   ⟨((onCtx rEid { ctx0 with s := [(2, 256#64), (3, 5#64)], bench := [(256, 5#8)] }).setImage 0 (some { img with handles := [0], bufs := [(0, [(1, 9#8)])] })).setPool 0 { poolReset with rsvs := [⟨.image 0, 0, 4⟩], held := [⟨0, 0, true, .image 0⟩] }, 0, item (some 0), { img with handles := [0], bufs := [(0, [(1, 9#8)])] }, 0, 3, 1, 2, by decide +kernel⟩⟩

theorem met_CopiesHandlesAndSequences_3 :
    (∃ (s : State) (x : Nat) (it : Item) (im : Image) (n A _et fn b a d : Nat), Ready s x it im ∧ fn < 16 ∧ s.sr x a / 2 ^ 60 = 2 ∧ seqByte (s.sr x a) = 0 ∧ s.seqSlotOf it im (s.sr x a) = some n ∧ s.slotMine it n = true ∧ n < 32 ∧ s.slotState n = 1 ∧ seqLayer (s.sr x a) < s.sl n 3 31 16 ∧ s.sr x d = 1 ∧ s.bpt n ≤ 524288 ∧ s.check x it im ⟨false, false, false⟩ (s.sr x b) (s.bpt n) 1 = .ok (.bench (s.sr x b)) ∧ seqToken (s.sr x a) ≤ s.layerLen n (seqLayer (s.sr x a)) ∧ (s.ctx x).copiesFull = false ∧ seqToken (s.sr x a) < s.sl n 4 21 0 ∧ s.sl n 0 28 28 = 0 ∧ PageHere s n (seqLayer (s.sr x a)) (seqToken (s.sr x a)) ∧ s.placeOf n (seqLayer (s.sr x a)) (seqToken (s.sr x a)) = A) ∧
    (∃ (s : State) (x : Nat) (it : Item) (k : Nat) (c : Copy), s.ctxItem x = some it ∧ ((s.ctx x).copies.find? (fun c => decide (c.kind = 1) && !c.fin) = some c) ∧ ((s.ctx x).copies.find? (fun c => decide (c.k = k)) = some c) ∧ c.k = k ∧ c.status = stOk ∧ movesDone c.moves = true ∧ s.slotWaits c.slot = false ∧ c.slot < 32 ∧ c.layer < 4096 ∧ c.token + c.n < 2 ^ 22) ∧
    (∃ (s : State) (x : Nat) (it : Item) (im : Image) (n A _et fn b a d : Nat), Ready s x it im ∧ fn < 16 ∧ s.sr x a / 2 ^ 60 = 2 ∧ s.seqSlotOf it im (s.sr x a) = some n ∧ s.slotMine it n = true ∧ n < 32 ∧ s.slotState n = 1 ∧ seqLayer (s.sr x a) < s.sl n 3 31 16 ∧ s.sr x d % 65536 = 1 ∧ bits (s.sr x d) 31 16 ≠ 0 ∧ seqByte (s.sr x a) + bits (s.sr x d) 31 16 ≤ s.bpt n ∧ s.chkBench x it im (s.sr x b) (bits (s.sr x d) 31 16) 1 = .ok (.bench (s.sr x b)) ∧ (s.ctx x).copiesFull = false ∧ (s.ctx x).appendPending n (seqLayer (s.sr x a)) (seqToken (s.sr x a)) 1 = false ∧ seqToken (s.sr x a) < s.layerLen n (seqLayer (s.sr x a)) ∧ PageHere s n (seqLayer (s.sr x a)) (seqToken (s.sr x a)) ∧ s.placeOf n (seqLayer (s.sr x a)) (seqToken (s.sr x a)) = A ∧ NoErr s x) ∧
    (∃ (s : State) (x : Nat) (it : Item) (im : Image) (n A _et _b a _d : Nat), Ready s x it im ∧ s.sr x a / 2 ^ 60 = 2 ∧ s.imgService it.image = true ∧ s.seqSlotOf it im (s.sr x a) = some n ∧ s.slotMine it n = true ∧ n < 32 ∧ s.slotState n = 1 ∧ seqLayer (s.sr x a) < s.sl n 3 31 16 ∧ seqToken (s.sr x a) < s.layerLen n (seqLayer (s.sr x a)) ∧ seqByte (s.sr x a) < s.bpt n ∧ PageHere s n (seqLayer (s.sr x a)) (seqToken (s.sr x a)) ∧ s.placeOf n (seqLayer (s.sr x a)) (seqToken (s.sr x a)) = A) :=
  ⟨⟨onSlot 0 { ctx0 with s := [(1, 0x2000000000400000#64), (2, 256#64), (3, 1#64)] }, 0, item (some 0), { img with slots := [0] }, 0, fB * 65536 + 64, 0, 3, 2, 1, 3, by decide +kernel⟩,
   ⟨onSlot 0 { ctx0 with copies := [{ copyOver 0 with kind := 1, token := 1 }] }, 0, item (some 0), 0, { copyOver 0 with kind := 1, token := 1 }, by decide +kernel⟩,
   ⟨onSlot 0 { ctx0 with s := [(1, 0x2000000000000004#64), (2, 256#64), (3, 0x100001#64)] }, 0, item (some 0), { img with slots := [0] }, 0, fB * 65536, 0, 3, 2, 1, 3, by decide +kernel⟩,
   ⟨onSlot 1 { ctx0 with s := [(1, 0x2000000000000004#64)] }, 0, item (some 0), { img with slots := [0] }, 0, fB * 65536, 0, 2, 1, 3, by decide +kernel⟩⟩

theorem met_CopiesHandlesAndSequences_4 :
    (∃ (s : State) (x : Nat) (it : Item) (im : Image) (n _et _b a _d : Nat), Ready s x it im ∧ s.sr x a / 2 ^ 60 = 2 ∧ s.imgService it.image = true ∧ s.seqSlotOf it im (s.sr x a) = some n ∧ s.slotMine it n = true ∧ s.slotState n = 1) ∧
    (∃ (s : State) (x : Nat) (it : Item) (im : Image) (n _et _b a _d : Nat), Ready s x it im ∧ s.sr x a / 2 ^ 60 = 2 ∧ s.seqSlotOf it im (s.sr x a) = some n ∧ s.slotMine it n = true ∧ s.slotState n = 1) ∧
    (∃ (s : State) (x : Nat) (it : Item) (im : Image) (n _et _b a _d : Nat), Ready s x it im ∧ s.sr x a / 2 ^ 60 = 2 ∧ s.seqSlotOf it im (s.sr x a) = some n ∧ s.slotMine it n = true ∧ n < 32 ∧ s.slotState n = 1 ∧ s.fallback = false ∧ s.role ≠ 1) ∧
    (∃ (s : State) (x : Nat) (it : Item) (im : Image) (_et _b a d tag dst sr flow fsn : Nat) (pin : Bool), Ready s x it im ∧ CalledBy s it x dst sr flow fsn pin ∧ tag < 16 ∧ s.sr x a / 2 ^ 60 = 1 ∧ s.sr x d / 2 ^ 60 = 1) :=
  ⟨⟨onSlot 1 { ctx0 with s := [(1, 0x2000000000000004#64)] }, 0, item (some 0), { img with slots := [0] }, 0, 0, 2, 1, 3, by decide +kernel⟩,
   ⟨onSlot 0 { ctx0 with s := [(1, 0x2000000000000004#64)] }, 0, item (some 0), { img with slots := [0] }, 0, 0, 2, 1, 3, by decide +kernel⟩,
   ⟨onSlot 0 { ctx0 with s := [(1, 0x2000000000000000#64)] }, 0, item (some 0), { img with slots := [0] }, 0, 0, 2, 1, 3, by decide +kernel⟩,
   ⟨onCtx rEid { ctx0 with s := [(1, 0x1000000000000000#64), (2, 0x1000000000001000#64)] }, 0, item (some 0), img, 0, 3, 1, 2, 3, 7, 5, 3, 0, true, by decide +kernel⟩⟩

theorem met_CopiesHandlesAndSequences_5 :
    (∃ (s : State) (x : Nat) (it : Item) (im : Image) (_et b a d tag : Nat) (p q : Place), Ready s x it im ∧ tag < 16 ∧ (s.ctx x).copiesFull = true ∧ s.sr x b ≤ 524288 ∧ mcpyPair (s.sr x a / 2 ^ 60) (s.sr x d / 2 ^ 60) = true ∧ s.chkRd x it im (s.sr x a) (s.sr x b) 1 = .ok p ∧ s.chkWr x it im (s.sr x d) (s.sr x b) 1 = .ok q ∧ NoErr s x) ∧
    (∃ (s : State) (x : Nat) (it : Item) (im : Image) (_et _b _a _d tag : Nat) (k : Copy), Ready s x it im ∧ tag < 16 ∧ k ∈ (s.ctx x).progCopies ∧ k.tag = tag ∧ k.fin = false ∧ k.fin = false) ∧
    (∃ (s : State) (x : Nat) (it : Item) (im : Image) (_et _b _a _d tag : Nat) (k : Copy), Ready s x it im ∧ tag < 16 ∧ k ∈ (s.ctx x).progCopies ∧ k.fin = false ∧ k.fin = false) ∧
    (∃ (s : State) (x : Nat) (it : Item) (k p o n : Nat) (c : Copy), s.ctxItem x = some it ∧ ((s.ctx x).copies.find? (fun c => decide (c.k = k)) = some c) ∧ c.kind = 0 ∧ c.fin = false ∧ c.status = stOk ∧ k ≠ farK ∧ c.moves = [⟨.bench o, .hbm p, n, 0⟩] ∧ NoErr s x) :=
  ⟨⟨onCtx rEid { ctx0 with s := [(1, 64#64), (2, 256#64), (3, 50#64)], copies := (List.range 8).map copyOver }, 0, item (some 0), img, 0, 3, 1, 2, 3, .bench 64, .bench 256, by decide +kernel⟩,
   ⟨onCtx rEid { ctx0 with copies := [{ copyOver 0 with tag := 3 }] }, 0, item (some 0), img, 0, 3, 1, 2, 3, { copyOver 0 with tag := 3 }, by decide +kernel⟩,
   ⟨onCtx rEid { ctx0 with copies := [{ copyOver 0 with tag := 3 }] }, 0, item (some 0), img, 0, 3, 1, 2, 3, { copyOver 0 with tag := 3 }, by decide +kernel⟩,
   ⟨onCtx rEid { ctx0 with bench := [(8, 7#8)], copies := [{ copyOver 0 with moves := [⟨.bench 8, .hbm 65536, 3, 0⟩] }] }, 0, item (some 0), 0, 65536, 8, 3, { copyOver 0 with moves := [⟨.bench 8, .hbm 65536, 3, 0⟩] }, by decide +kernel⟩⟩

theorem met_CopiesHandlesAndSequences_6 :
    (∃ (s : State) (x : Nat) (it : Item) (k a o n : Nat) (c : Copy), s.ctxItem x = some it ∧ ((s.ctx x).copies.find? (fun c => decide (c.k = k)) = some c) ∧ c.kind = 0 ∧ c.fin = false ∧ c.status = stOk ∧ k ≠ farK ∧ c.moves = [⟨.hbm a, .bench o, n, 0⟩] ∧ ((∃ e ∈ s.pwr.hbmBad, a ≤ e ∧ e < a + n))) ∧
    (∃ (s : State) (x : Nat) (it : Item) (im : Image) (_et _b a _d dst sr flow fsn : Nat) (pin : Bool), Ready s x it im ∧ CalledBy s it x dst sr flow fsn pin ∧ 1 ≤ s.sr x a ∧ s.sr x a ≤ 65536 ∧ s.imgFree (ctxCluster x) it.image (classFor (s.sr x a)) = false) ∧
    (∃ (s : State) (x : Nat) (it : Item) (im : Image) (_et _b a _d dst sr flow fsn : Nat) (pin : Bool), Ready s x it im ∧ CalledBy s it x dst sr flow fsn pin ∧ im.handles.contains (s.sr x a) = false) ∧
    (∃ (s : State) (x : Nat) (it : Item) (im : Image) (_et b a d dst sr flow fsn : Nat) (pin : Bool), Ready s x it im ∧ CalledBy s it x dst sr flow fsn pin ∧ s.handleHeld it im (s.sr x a) = false ∧ s.sr x b ≤ 256 ∧ s.chkBench x it im (s.sr x d) (s.sr x b) 1 = .ok (.bench (s.sr x d))) :=
  ⟨⟨{ onCtx rEid { ctx0 with copies := [{ copyOver 0 with moves := [⟨.hbm 65536, .bench 8, 3, 0⟩] }] } with pwr := { powerReset with hbmBad := [65538] } }, 0, item (some 0), 0, 65536, 8, 3, { copyOver 0 with moves := [⟨.hbm 65536, .bench 8, 3, 0⟩] }, by decide +kernel⟩,
   ⟨onCtx rEid { ctx0 with s := [(1, 100#64)] }, 0, item (some 0), img, 0, 3, 1, 2, 7, 5, 3, 0, true, by decide +kernel⟩,
   ⟨((onCtx rEid { ctx0 with s := [(1, 7#64)], bench := [(256, 5#8)] }).setImage 0 (some { img with handles := [], bufs := [] })).setPool 0 { poolReset with rsvs := [⟨.image 0, 0, 4⟩], held := [] }, 0, item (some 0), img, 0, 3, 1, 2, 7, 5, 3, 0, true, by decide +kernel⟩,
   ⟨((onCtx rEid { ctx0 with s := [(2, 256#64), (3, 5#64)], bench := [(256, 5#8)] }).setImage 0 (some { img with handles := [], bufs := [] })).setPool 0 { poolReset with rsvs := [⟨.image 0, 0, 4⟩], held := [] }, 0, item (some 0), img, 0, 3, 1, 2, 7, 5, 3, 0, true, by decide +kernel⟩⟩

theorem met_CopiesHandlesAndSequences_7 :
    (∃ (s : State) (x : Nat) (it : Item) (im : Image) (_et b a d dst sr flow fsn : Nat) (pin : Bool), Ready s x it im ∧ CalledBy s it x dst sr flow fsn pin ∧ s.handleHeld it im (s.sr x a) = false ∧ s.sr x b ≤ 256 ∧ s.chkBench x it im (s.sr x d) (s.sr x b) 1 = .ok (.bench (s.sr x d))) ∧
    (∃ (s : State) (x : Nat) (it : Item) (im : Image) (_et fn _b a _d dst sr flow fsn : Nat) (pin : Bool), Ready s x it im ∧ CalledBy s it x dst sr flow fsn pin ∧ fn < 16 ∧ s.sr x a / 2 ^ 60 ≠ 2) ∧
    (∃ (s : State) (x : Nat) (it : Item) (im : Image) (n _et fn b a d dst sr flow fsn : Nat) (pin : Bool), Ready s x it im ∧ CalledBy s it x dst sr flow fsn pin ∧ fn < 16 ∧ s.sr x a / 2 ^ 60 = 2 ∧ seqByte (s.sr x a) = 0 ∧ s.seqSlotOf it im (s.sr x a) = some n ∧ s.slotMine it n = true ∧ n < 32 ∧ s.slotState n = 1 ∧ seqLayer (s.sr x a) < s.sl n 3 31 16 ∧ s.sr x d = 1 ∧ s.bpt n ≤ 524288 ∧ s.check x it im ⟨false, false, false⟩ (s.sr x b) (s.bpt n) 1 = .ok (.bench (s.sr x b)) ∧ s.layerLen n (seqLayer (s.sr x a)) < seqToken (s.sr x a)) ∧
    (∃ (s : State) (x : Nat) (it : Item) (im : Image) (_et fn _b a _d dst sr flow fsn : Nat) (pin : Bool), Ready s x it im ∧ CalledBy s it x dst sr flow fsn pin ∧ fn < 16 ∧ s.sr x a / 2 ^ 60 ≠ 2) :=
  ⟨⟨((onCtx rEid { ctx0 with s := [(2, 256#64), (3, 5#64)], bench := [(256, 5#8)] }).setImage 0 (some { img with handles := [], bufs := [] })).setPool 0 { poolReset with rsvs := [⟨.image 0, 0, 4⟩], held := [] }, 0, item (some 0), img, 0, 3, 1, 2, 7, 5, 3, 0, true, by decide +kernel⟩,
   ⟨onSlot 0 { ctx0 with s := [(1, 64#64)] }, 0, item (some 0), { img with slots := [0] }, 0, 3, 2, 1, 3, 7, 5, 3, 0, true, by decide +kernel⟩,
   ⟨onSlot 0 { ctx0 with s := [(1, 0x2000000000800000#64), (2, 256#64), (3, 1#64)] }, 0, item (some 0), { img with slots := [0] }, 0, 0, 3, 2, 1, 3, 7, 5, 3, 0, true, by decide +kernel⟩,
   ⟨onSlot 0 { ctx0 with s := [(1, 64#64)] }, 0, item (some 0), { img with slots := [0] }, 0, 3, 2, 1, 3, 7, 5, 3, 0, true, by decide +kernel⟩⟩

theorem met_CopiesHandlesAndSequences_8 :
    (∃ (s : State) (x : Nat) (it : Item) (im : Image) (_et _b a _d dst sr flow fsn : Nat) (pin : Bool), Ready s x it im ∧ CalledBy s it x dst sr flow fsn pin ∧ s.sr x a / 2 ^ 60 = 2 ∧ s.imgService it.image = false) ∧
    (∃ (s : State) (x : Nat) (it : Item) (im : Image) (n _et _b a _d dst sr flow fsn : Nat) (pin : Bool), Ready s x it im ∧ CalledBy s it x dst sr flow fsn pin ∧ s.sr x a / 2 ^ 60 = 2 ∧ s.seqSlotOf it im (s.sr x a) = some n ∧ s.slotMine it n = true ∧ s.slotState n ≠ 1) ∧
    (∃ (s : State) (x : Nat) (it : Item) (im : Image) (n _et _b a _d : Nat), Ready s x it im ∧ s.sr x a / 2 ^ 60 = 2 ∧ s.seqSlotOf it im (s.sr x a) = some n ∧ s.slotMine it n = true ∧ s.slotState n ≠ 1) :=
  ⟨⟨onSlot 0 { ctx0 with s := [(1, 0x2000000000000004#64)] }, 0, item (some 0), { img with slots := [0] }, 0, 2, 1, 3, 7, 5, 3, 0, true, by decide +kernel⟩,
   ⟨(onSlot 0 { ctx0 with s := [(1, 0x2000000000000004#64)] }).setRf (aSlot 0 0) 31 29 2, 0, item (some 0), { img with slots := [0] }, 0, 0, 2, 1, 3, 7, 5, 3, 0, true, by decide +kernel⟩,
   ⟨(onSlot 0 { ctx0 with s := [(1, 0x2000000000000000#64)] }).setRf (aSlot 0 0) 31 29 2, 0, item (some 0), { img with slots := [0] }, 0, 0, 2, 1, 3, by decide +kernel⟩⟩

theorem met_FabricInstructions_1 :
    (∃ (s : State) (x : Nat) (it : Item) (im : Image) (w _et fn b a d : Nat), Ready s x it im ∧ fn ≤ 1 ∧ s.sr x a / 2 ^ 60 = 3 ∧ bits (s.sr x a) 43 39 = 0 ∧ s.chkBench x it im (s.sr x b) (s.sr x d) 1 = .ok (.bench (s.sr x b)) ∧ s.isSelf (fabEid (s.sr x a)) = false ∧ s.winTo it.id (fabEid (s.sr x a)) = some w ∧ (s.src w).state = .opened ∧ (s.src w).failed = 0 ∧ 1 ≤ s.sr x d ∧ s.sr x d ≤ 4096 ∧ (s.src w).allows (1 + ceilDiv (s.sr x d) 64) (rspOf 1 (s.sr x d)) = true ∧ s.mayInject (ctxCluster x) false = true ∧ (s.injBuffer (ctxCluster x) x (ceilDiv (s.sr x d) 64)).1 = true ∧ s.selfEid ≠ 0xFFFF ∧ NoErr s x) ∧
    (∃ (s : State) (x : Nat) (it : Item) (im : Image) (w _et fn b a d : Nat), Ready s x it im ∧ fn ≤ 1 ∧ s.sr x a / 2 ^ 60 = 3 ∧ bits (s.sr x a) 43 39 = 0 ∧ s.chkBench x it im (s.sr x b) (s.sr x d) 1 = .ok (.bench (s.sr x b)) ∧ s.isSelf (fabEid (s.sr x a)) = false ∧ s.winTo it.id (fabEid (s.sr x a)) = some w ∧ (s.src w).state = .opened ∧ (s.src w).failed = 0 ∧ 1 ≤ s.sr x d ∧ s.sr x d ≤ 4096 ∧ (s.src w).allows (1 + 0) (rspOf 2 (s.sr x d)) = true ∧ s.mayInject (ctxCluster x) false = true ∧ s.selfEid ≠ 0xFFFF) ∧
    (∃ (s : State) (x : Nat) (it : Item) (im : Image) (w et fn b a _d : Nat), Ready s x it im ∧ (et = 2 ∨ et = 3) ∧ fn < 32 ∧ bits fn 4 1 ≤ 9 ∧ s.sr x a % (etBytes et) = 0 ∧ s.sr x b % 8 = 0 ∧ s.sr x a / 2 ^ 60 = 3 ∧ bits (s.sr x a) 43 39 = 0 ∧ s.chkBench x it im (s.sr x b) (16) 1 = .ok (.bench (s.sr x b)) ∧ s.isSelf (fabEid (s.sr x a)) = false ∧ s.winTo it.id (fabEid (s.sr x a)) = some w ∧ (s.src w).state = .opened ∧ (s.src w).failed = 0 ∧ (s.src w).allows (1 + 0) (rspOf 3 (etBytes et)) = true ∧ s.mayInject (ctxCluster x) false = true ∧ s.selfEid ≠ 0xFFFF ∧ NoErr s x) ∧
    (∃ (s : State) (x : Nat) (it : Item) (im : Image) (w _et fn b a d : Nat), Ready s x it im ∧ fn ≤ 1 ∧ bits (s.sr x a) 38 0 = 0 ∧ s.sr x d ≤ 4096 ∧ field (s.benchGet x (s.sr x b) 40) 14 2 = 0 ∧ s.sr x a / 2 ^ 60 = 3 ∧ bits (s.sr x a) 43 39 = 0 ∧ s.chkBench x it im (s.sr x b) (4160) 1 = .ok (.bench (s.sr x b)) ∧ s.isSelf (fabEid (s.sr x a)) = false ∧ s.winTo it.id (fabEid (s.sr x a)) = some w ∧ (s.src w).state = .opened ∧ (s.src w).failed = 0 ∧ (s.src w).allows (1 + ceilDiv (s.sr x d) 64) (rspOf 4 (0)) = true ∧ s.mayInject (ctxCluster x) false = true ∧ (s.injBuffer (ctxCluster x) x (ceilDiv (s.sr x d) 64)).1 = true ∧ s.selfEid ≠ 0xFFFF ∧ NoErr s x) :=
  ⟨⟨((onWin { ctx0 with s := [(1, 0x3000900000001000#64), (2, 64#64), (3, 2#64)], bench := [(64, 7#8), (65, 8#8)] } (srcOpen [] [])).setRf (aCarve 0 0) 25 16 4).toDepth (dSw 0) .run, 0, item (some 0), img, 2, 0, 0, 2, 1, 3, by decide +kernel⟩,
   ⟨onWin { ctx0 with s := [(1, 0x3000900000001000#64), (2, 64#64), (3, 2#64)], bench := [(64, 7#8), (65, 8#8)] } (srcOpen [] []), 0, item (some 0), img, 2, 0, 0, 2, 1, 3, by decide +kernel⟩,
   ⟨onWin { ctx0 with s := [(1, 0x3000900000001000#64), (2, 64#64), (3, 2#64)], bench := [(64, 7#8), (65, 8#8)] } (srcOpen [] []), 0, item (some 0), img, 2, 2, 2, 2, 1, 3, by decide +kernel⟩,
   ⟨onWin { ctx0 with s := [(1, 0x3000900000000000#64), (2, 64#64)], bench := [(64, 7#8), (65, 8#8)] } (srcOpen [] []), 0, item (some 0), img, 2, 0, 0, 2, 1, 3, by decide +kernel⟩⟩

theorem met_FabricInstructions_2 :
    (∃ (s : State) (x : Nat) (it : Item) (im : Image) (w et fn b a d : Nat), s.fetchOk x im = true ∧ s.ctxItem x = some it ∧ s.image it.image = some im ∧ (s.ctx x).wait = .stall 0x61 et fn b a d ∧ s.turn x = true ∧ (s.ctx x).pc + 4 < im.codeBytes ∧ x < 1024 ∧ fn ≤ 1 ∧ s.sr x a / 2 ^ 60 = 3 ∧ bits (s.sr x a) 43 39 = 0 ∧ s.chkBench x it im (s.sr x b) (s.sr x d) 1 = .ok (.bench (s.sr x b)) ∧ s.isSelf (fabEid (s.sr x a)) = false ∧ s.winTo it.id (fabEid (s.sr x a)) = some w ∧ (s.src w).state = .opened ∧ (s.src w).failed = 0 ∧ 1 ≤ s.sr x d ∧ s.sr x d ≤ 4096 ∧ (s.src w).allows (1 + 0) (rspOf 2 (s.sr x d)) = true ∧ s.mayInject (ctxCluster x) false = true ∧ s.selfEid ≠ 0xFFFF) ∧
    (∃ (s : State) (x : Nat) (it : Item) (im : Image) (w _et b a _d : Nat), Ready s x it im ∧ bits (s.sr x a) 63 16 = 0 ∧ bits (s.sr x b) 22 0 ≠ 0 ∧ bits (s.sr x b) 22 0 ≤ 4194304 ∧ bits (s.sr x b) 63 56 = 0 ∧ s.isSelf (s.sr x a) = false ∧ s.winTo it.id (s.sr x a) = none ∧ s.mayInject (ctxCluster x) false = true ∧ s.freeCtx it.image = some w ∧ s.selfEid ≠ 0xFFFF) ∧
    (∃ (s : State) (x : Nat) (it : Item) (im : Image) (_et _b a _d : Nat), Ready s x it im ∧ s.itemWin it (s.sr x a) = true ∧ (s.src (s.sr x a)).ops.length = 0) ∧
    (∃ (s : State) (x : Nat) (it : Item) (im : Image) (_et b a _d : Nat), Ready s x it im ∧ s.itemWin it (s.sr x a) = true ∧ (s.src (s.sr x a)).ops.length ≤ s.sr x b) :=
  ⟨⟨onWin { ctx0 with s := [(1, 0x3000900000001000#64), (2, 64#64), (3, 2#64)], wait := .stall 0x61 0 0 2 1 3, bench := [(64, 7#8), (65, 8#8)] } (srcOpen [] []), 0, item (some 0), img, 2, 0, 0, 2, 1, 3, by decide +kernel⟩,
   ⟨onWin { ctx0 with s := [(1, 9#64), (2, 0x0000640032000008#64)] } { srcOpen [] [] with state := .closed }, 0, item (some 0), img, 2, 0, 2, 1, 3, by decide +kernel⟩,
   ⟨onWin { ctx0 with s := [(1, 2#64), (2, 1#64)] } (srcOpen [] [5]), 0, item (some 0), img, 0, 2, 1, 3, by decide +kernel⟩,
   ⟨onWin { ctx0 with s := [(1, 2#64), (2, 1#64)] } (srcOpen [⟨3, .put, 2, 1, 64, 2000⟩] [5]), 0, item (some 0), img, 0, 2, 1, 3, by decide +kernel⟩⟩

theorem met_FabricInstructions_3 :
    (∃ (s : State) (x : Nat) (it : Item) (im : Image) (_et _b a _d : Nat), Ready s x it im ∧ s.itemWin it (s.sr x a) = true) ∧
    (∃ (s : State) (x : Nat) (it : Item) (im : Image) (_et _b a _d : Nat), Ready s x it im ∧ s.itemWin it (s.sr x a) = true ∧ (s.src (s.sr x a)).ops.length = 0 ∧ s.selfEid ≠ 0xFFFF) ∧
    (∃ (s : State) (x : Nat) (it : Item) (im : Image) (_et fn b a d dst sr flow fsn : Nat) (pin : Bool), Ready s x it im ∧ CalledBy s it x dst sr flow fsn pin ∧ fn ≤ 1 ∧ s.sr x a / 2 ^ 60 = 3 ∧ bits (s.sr x a) 43 39 = 0 ∧ s.chkBench x it im (s.sr x b) (s.sr x d) 1 = .ok (.bench (s.sr x b)) ∧ 1 ≤ s.sr x d ∧ s.sr x d ≤ 4096 ∧ s.isSelf (fabEid (s.sr x a)) = false ∧ s.winTo it.id (fabEid (s.sr x a)) = none ∧ NoErr s x) ∧
    (∃ (s : State) (x : Nat) (it : Item) (im : Image) (_et fn b a d dst sr flow fsn : Nat) (pin : Bool), Ready s x it im ∧ CalledBy s it x dst sr flow fsn pin ∧ fn ≤ 1 ∧ s.sr x a / 2 ^ 60 = 3 ∧ bits (s.sr x a) 43 39 = 0 ∧ s.chkBench x it im (s.sr x b) (s.sr x d) 1 = .ok (.bench (s.sr x b)) ∧ 1 ≤ s.sr x d ∧ s.sr x d ≤ 4096 ∧ s.isSelf (fabEid (s.sr x a)) = false ∧ s.winTo it.id (fabEid (s.sr x a)) = none) :=
  ⟨⟨onWin { ctx0 with s := [(1, 2#64), (2, 0#64)] } (srcOpen [⟨3, .put, 2, 1, 64, 2000⟩] []), 0, item (some 0), img, 0, 2, 1, 3, by decide +kernel⟩,
   ⟨onWin { ctx0 with s := [(1, 2#64)] } (srcOpen [] []), 0, item (some 0), img, 0, 2, 1, 3, by decide +kernel⟩,
   ⟨onCtx rEid { ctx0 with s := [(1, 0x3000900000001000#64), (2, 64#64), (3, 2#64)] }, 0, item (some 0), img, 0, 0, 2, 1, 3, 7, 5, 3, 0, true, by decide +kernel⟩,
   ⟨onCtx rEid { ctx0 with s := [(1, 0x3000900000001000#64), (2, 64#64), (3, 2#64)] }, 0, item (some 0), img, 0, 0, 2, 1, 3, 7, 5, 3, 0, true, by decide +kernel⟩⟩

theorem met_FabricInstructions_4 :
    (∃ (s : State) (x : Nat) (it : Item) (im : Image) (w _et fn b a d : Nat), Ready s x it im ∧ fn ≤ 1 ∧ s.sr x a / 2 ^ 60 = 3 ∧ bits (s.sr x a) 43 39 = 0 ∧ s.chkBench x it im (s.sr x b) (s.sr x d) 1 = .ok (.bench (s.sr x b)) ∧ s.isSelf (fabEid (s.sr x a)) = false ∧ s.winTo it.id (fabEid (s.sr x a)) = some w ∧ (s.src w).state = .opened ∧ (s.src w).failed = 0 ∧ 1 ≤ s.sr x d ∧ s.sr x d ≤ 4096 ∧ s.mayInject (ctxCluster x) false = false ∧ NoErr s x) ∧
    (∃ (s : State) (x : Nat) (it : Item) (im : Image) (_et fn b a d : Nat), Ready s x it im ∧ fn ≤ 1 ∧ s.sr x a / 2 ^ 60 = 3 ∧ bits (s.sr x a) 43 0 = 0 ∧ s.isSelf (fabEid (s.sr x a)) = true ∧ s.sr x d = 0 ∧ s.chkBench x it im (s.sr x b) (4160) 1 = .ok (.bench (s.sr x b)) ∧ field (s.benchGet x (s.sr x b) 40) 14 2 = 0 ∧ (s.ctx x).calls < 8 ∧ ((State.takeCall (s.updCtx x (fun c => { c with calls := c.calls + 1 })) { form := s.benchGet x (s.sr x b) 40, payload := [], src := s.selfEid, home := ctxCluster x, caller := .prog x it.id (s.sr x b) none } false).1 = stOk) ∧ NoErr s x) ∧
    (∃ (s : State) (x : Nat) (it : Item) (im : Image) (w _et b a _d : Nat), Ready s x it im ∧ bits (s.sr x a) 63 16 = 0 ∧ bits (s.sr x b) 22 0 ≠ 0 ∧ bits (s.sr x b) 22 0 ≤ 4194304 ∧ bits (s.sr x b) 63 56 = 0 ∧ s.isSelf (s.sr x a) = false ∧ s.winTo it.id (s.sr x a) = some w) ∧
    (∃ (s : State) (x : Nat) (it : Item) (im : Image) (_et _b a _d dst sr flow fsn : Nat) (pin : Bool), Ready s x it im ∧ CalledBy s it x dst sr flow fsn pin ∧ bits (s.sr x a) 63 16 ≠ 0) :=
  ⟨⟨(onWin { ctx0 with s := [(1, 0x3000900000001000#64), (2, 64#64), (3, 2#64)], bench := [(64, 7#8), (65, 8#8)] } (srcOpen [] [])).setReg aInj 0#32, 0, item (some 0), img, 2, 0, 0, 2, 1, 3, by decide +kernel⟩,
   ⟨(((onCtx rEid { ctx0 with s := [(1, 0x3000500000000000#64), (2, 64#64)] }).setReg (aRoute 5 4) 0x90000000#32).toDepth (dShu 0) .run).setReg (aQueue 0 0 0) 0x50100000#32 |>.setReg (aQueue 0 0 1) 8#32, 0, item (some 0), img, 0, 0, 2, 1, 3, by decide +kernel⟩,
   ⟨onWin { ctx0 with s := [(1, 9#64), (2, 0x0000640032000008#64)] } (srcOpen [] []), 0, item (some 0), img, 2, 0, 2, 1, 3, by decide +kernel⟩,
   ⟨onCtx rEid { ctx0 with s := [(1, 0x10000#64)] }, 0, item (some 0), img, 0, 2, 1, 3, 7, 5, 3, 0, true, by decide +kernel⟩⟩

theorem met_FabricInstructions_5 :
    (∃ (s : State) (x : Nat) (it : Item) (im : Image) (_et _b a _d : Nat), Ready s x it im ∧ s.itemWin it (s.sr x a) = true ∧ (s.src (s.sr x a)).ops.length ≠ 0) ∧
    (∃ (s : State) (x : Nat) (it : Item) (im : Image) (_et _b a _d dst sr flow fsn : Nat) (pin : Bool), Ready s x it im ∧ CalledBy s it x dst sr flow fsn pin ∧ s.itemWin it (s.sr x a) = false ∧ s.sr x a ≠ localName) ∧
    (∃ (s : State) (x : Nat) (it : Item) (im : Image) (_et fn _b _a _d dst sr flow fsn : Nat) (pin : Bool), Ready s x it im ∧ CalledBy s it x dst sr flow fsn pin ∧ 1 < fn) ∧
    (∃ (s : State) (x : Nat) (it : Item) (im : Image) (_et fn _b _a _d dst sr flow fsn : Nat) (pin : Bool), Ready s x it im ∧ CalledBy s it x dst sr flow fsn pin ∧ 1 < fn) :=
  ⟨⟨onWin { ctx0 with s := [(1, 2#64)] } (srcOpen [⟨3, .put, 2, 1, 64, 2000⟩] []), 0, item (some 0), img, 0, 2, 1, 3, by decide +kernel⟩,
   ⟨onCtx rEid { ctx0 with s := [(1, 3#64)] }, 0, item (some 0), img, 0, 2, 1, 3, 7, 5, 3, 0, true, by decide +kernel⟩,
   ⟨onCtx rEid ctx0, 0, item (some 0), img, 0, 2, 2, 1, 3, 7, 5, 3, 0, true, by decide +kernel⟩,
   ⟨onCtx rEid ctx0, 0, item (some 0), img, 0, 2, 2, 1, 3, 7, 5, 3, 0, true, by decide +kernel⟩⟩

theorem met_FabricInstructions_6 :
    (∃ (s : State) (x : Nat) (it : Item) (im : Image) (_et fn _b _a _d dst sr flow fsn : Nat) (pin : Bool), Ready s x it im ∧ CalledBy s it x dst sr flow fsn pin ∧ 1 < fn) ∧
    (∃ (s : State) (x : Nat) (it : Item) (im : Image) (et fn _b _a _d dst sr flow fsn : Nat) (pin : Bool), Ready s x it im ∧ CalledBy s it x dst sr flow fsn pin ∧ ((et ≠ 2 ∧ et ≠ 3) ∨ 32 ≤ fn ∨ 9 < bits fn 4 1)) :=
  ⟨⟨onCtx rEid ctx0, 0, item (some 0), img, 0, 2, 2, 1, 3, 7, 5, 3, 0, true, by decide +kernel⟩,
   ⟨onCtx rEid ctx0, 0, item (some 0), img, 1, 2, 2, 1, 3, 7, 5, 3, 0, true, by decide +kernel⟩⟩

theorem met_JoinsAndGates_1 :
    (∃ (s : State) (x : Nat) (it : Item) (im : Image) (o n _et b a _d : Nat), Ready s x it im ∧ s.descAt x it im (s.sr x b) = .ok (.bench o) ∧ s.sr x a % 65536 = 0 ∧ (joinOf (s.sr x a) (s.benchGet x o 48)).rangeOk (s.benchSize x) = true ∧ s.freeJoin x = some n ∧ (joinOf (s.sr x a) (s.benchGet x o 48)).count = 0 ∧ NoErr s x) ∧
    (∃ (s : State) (x : Nat) (it : Item) (im : Image) (_et _b a _d : Nat) (j : Join), Ready s x it im ∧ s.sr x a < 4 ∧ s.join x (s.sr x a) = some j ∧ j.isGate = false ∧ (j.done = j.c ∨ j.status.isSome)) ∧
    (∃ (s : State) (x : Nat) (it : Item) (im : Image) (_et _b a _d : Nat) (j : Join), Ready s x it im ∧ s.sr x a < 4 ∧ s.join x (s.sr x a) = some j ∧ j.isGate = false) ∧
    (∃ (s : State) (x : Nat) (it : Item) (im : Image) (_et _b a _d : Nat) (j : Join), Ready s x it im ∧ s.sr x a < 4 ∧ s.join x (s.sr x a) = some j ∧ j.isGate = false) :=
  ⟨⟨onCtx rEid { ctx0 with s := [(1, 0x0009050300070000#64), (2, 64#64)], bench := tabSetList memZero [] 64 ([2#8, 2#8, 1#8, 0#8] ++ leBytes 4 0 ++ leBytes 4 0 ++ leBytes 4 0 ++ leBytes 4 16 ++ leBytes 4 16 ++ leBytes 4 0 ++ leBytes 4 0xFFFFFFFF ++ leBytes 16 0) }, 0, item (some 0), img, 64, 0, 0, 2, 1, 3, by decide +kernel⟩,
   ⟨onCtx rEid { ctx0 with s := [(1, 0#64)], joins := [(0, some { joinOf 0 [1#8] with status := some 5 })] }, 0, item (some 0), img, 0, 2, 1, 3, { joinOf 0 [1#8] with status := some 5 }, by decide +kernel⟩,
   ⟨onCtx rEid { ctx0 with s := [(1, 0#64)], joins := [(0, some { joinOf 0 [1#8] with status := none })] }, 0, item (some 0), img, 0, 2, 1, 3, { joinOf 0 [1#8] with status := none }, by decide +kernel⟩,
   ⟨onCtx rEid { ctx0 with s := [(1, 0#64)], joins := [(0, some { joinOf 0 [1#8] with status := none })] }, 0, item (some 0), img, 0, 2, 1, 3, { joinOf 0 [1#8] with status := none }, by decide +kernel⟩⟩

theorem met_JoinsAndGates_2 :
    (∃ (s : State) (x : Nat) (it : Item) (im : Image) (n _et _b a _d : Nat), Ready s x it im ∧ s.sr x a % 65536 = 0 ∧ s.freeJoin x = some n ∧ s.selfEid ≠ 0xFFFF) ∧
    (∃ (s : State) (x n : Nat) (j : Join), s.join x n = some j ∧ j.isGate = false ∧ j.status = none ∧ j.done ≠ j.c) ∧
    (∃ (s : State) (x : Nat) (it : Item) (im : Image) (_et fn _b _a _d dst sr flow fsn : Nat) (pin : Bool), Ready s x it im ∧ CalledBy s it x dst sr flow fsn pin ∧ fn ≠ 0) ∧
    (∃ (s : State) (x : Nat) (it : Item) (im : Image) (_et fn _b _a _d dst sr flow fsn : Nat) (pin : Bool), Ready s x it im ∧ CalledBy s it x dst sr flow fsn pin ∧ fn ≠ 0) :=
  ⟨⟨onCtx rEid { ctx0 with s := [(1, 0x0009050300070000#64), (2, 3#64)] }, 0, item (some 0), img, 0, 0, 2, 1, 3, by decide +kernel⟩,
   ⟨onCtx rEid { ctx0 with joins := [(0, some (joinOf 0 (leBytes 16 1 ++ leBytes 4 1 ++ leBytes 4 4)))] }, 0, 0, joinOf 0 (leBytes 16 1 ++ leBytes 4 1 ++ leBytes 4 4), by decide +kernel⟩,
   ⟨onCtx rEid ctx0, 0, item (some 0), img, 0, 1, 2, 1, 3, 7, 5, 3, 0, true, by decide +kernel⟩,
   ⟨onCtx rEid ctx0, 0, item (some 0), img, 0, 1, 2, 1, 3, 7, 5, 3, 0, true, by decide +kernel⟩⟩

theorem met_JoinsAndGates_3 :
    (∃ (s : State) (x : Nat) (it : Item) (im : Image) (o n _et b a _d : Nat), Ready s x it im ∧ s.descAt x it im (s.sr x b) = .ok (.bench o) ∧ s.sr x a % 65536 = 0 ∧ (joinOf (s.sr x a) (s.benchGet x o 48)).rangeOk (s.benchSize x) = true ∧ s.freeJoin x = some n ∧ (joinOf (s.sr x a) (s.benchGet x o 48)).count = 1 ∧ (joinOf (s.sr x a) (s.benchGet x o 48)).e = 0 ∧ (joinOf (s.sr x a) (s.benchGet x o 48)).first < (joinOf (s.sr x a) (s.benchGet x o 48)).win ∧ s.selfEid ≠ 0xFFFF ∧ NoErr s x) ∧
    (∃ (s : State) (x : Nat) (it : Item) (im : Image) (o _et b a _d dst sr flow fsn : Nat) (pin : Bool), Ready s x it im ∧ CalledBy s it x dst sr flow fsn pin ∧ s.descAt x it im (s.sr x b) = .ok (.bench o) ∧ s.sr x a % 65536 = 0 ∧ (joinOf (s.sr x a) (s.benchGet x o 48)).rangeOk (s.benchSize x) = true ∧ (joinOf (s.sr x a) (s.benchGet x o 48)).count = 0 ∧ s.freeJoin x = none ∧ NoErr s x) ∧
    (∃ (s : State) (x : Nat) (it : Item) (im : Image) (_et b a _d dst sr flow fsn : Nat) (pin : Bool) (o : Nat), Ready s x it im ∧ CalledBy s it x dst sr flow fsn pin ∧ s.descAt x it im (s.sr x b) = .ok (.bench o) ∧ s.sr x a % 65536 ≠ 0) ∧
    (∃ (s : State) (x : Nat) (it : Item) (im : Image) (_et _b a _d : Nat) (j : Join), Ready s x it im ∧ s.sr x a < 4 ∧ s.join x (s.sr x a) = some j ∧ j.isGate = false ∧ j.done ≠ j.c ∧ j.status = none) :=
  ⟨⟨onCtx rEid { ctx0 with s := [(1, 0x0009050300070000#64), (2, 64#64)], bench := tabSetList memZero [] 64 ([2#8, 2#8, 1#8, 0#8] ++ leBytes 4 0 ++ leBytes 4 0 ++ leBytes 4 1 ++ leBytes 4 0 ++ leBytes 4 0 ++ leBytes 4 0 ++ leBytes 4 0xFFFFFFFF ++ leBytes 16 0) }, 0, item (some 0), img, 64, 0, 0, 2, 1, 3, by decide +kernel⟩,
   ⟨onCtx rEid { ctx0 with s := [(1, 0x0009050300070000#64), (2, 64#64)], bench := tabSetList memZero [] 64 ([2#8, 2#8, 1#8, 0#8] ++ leBytes 4 0 ++ leBytes 4 0 ++ leBytes 4 0 ++ leBytes 4 16 ++ leBytes 4 16 ++ leBytes 4 0 ++ leBytes 4 0xFFFFFFFF ++ leBytes 16 0), joins := (List.range 4).map (fun i => (i, some (joinOf 0 [1#8]))) }, 0, item (some 0), img, 64, 0, 2, 1, 3, 7, 5, 3, 0, true, by decide +kernel⟩,
   ⟨onCtx rEid { ctx0 with s := [(1, 0x1#64), (2, 64#64)], bench := tabSetList memZero [] 64 ([2#8, 2#8, 1#8, 0#8] ++ leBytes 4 0 ++ leBytes 4 0 ++ leBytes 4 0 ++ leBytes 4 16 ++ leBytes 4 16 ++ leBytes 4 0 ++ leBytes 4 0xFFFFFFFF ++ leBytes 16 0) }, 0, item (some 0), img, 0, 2, 1, 3, 7, 5, 3, 0, true, 64, by decide +kernel⟩,
   ⟨onCtx rEid { ctx0 with s := [(1, 0#64)], joins := [(0, some (joinOf 0 (leBytes 16 1 ++ leBytes 4 1 ++ leBytes 4 4)))] }, 0, item (some 0), img, 0, 2, 1, 3, joinOf 0 (leBytes 16 1 ++ leBytes 4 1 ++ leBytes 4 4), by decide +kernel⟩⟩

theorem met_JoinsAndGates_4 :
    (∃ (s : State) (x : Nat) (it : Item) (im : Image) (_et _b a _d dst sr flow fsn : Nat) (pin : Bool), Ready s x it im ∧ CalledBy s it x dst sr flow fsn pin ∧ (4 ≤ s.sr x a ∨ s.join x (s.sr x a) = none)) ∧
    (∃ (s : State) (x : Nat) (it : Item) (im : Image) (_et _b a _d dst sr flow fsn : Nat) (pin : Bool), Ready s x it im ∧ CalledBy s it x dst sr flow fsn pin ∧ (4 ≤ s.sr x a ∨ s.join x (s.sr x a) = none)) ∧
    (∃ (s : State) (x : Nat) (it : Item) (im : Image) (_et _b a _d dst sr flow fsn : Nat) (pin : Bool), Ready s x it im ∧ CalledBy s it x dst sr flow fsn pin ∧ (4 ≤ s.sr x a ∨ s.join x (s.sr x a) = none)) ∧
    (∃ (s : State) (x : Nat) (it : Item) (im : Image) (_et fn _b _a _d dst sr flow fsn : Nat) (pin : Bool), Ready s x it im ∧ CalledBy s it x dst sr flow fsn pin ∧ fn ≠ 0) :=
  ⟨⟨onCtx rEid ctx0, 0, item (some 0), img, 0, 2, 1, 3, 7, 5, 3, 0, true, by decide +kernel⟩,
   ⟨onCtx rEid ctx0, 0, item (some 0), img, 0, 2, 1, 3, 7, 5, 3, 0, true, by decide +kernel⟩,
   ⟨onCtx rEid ctx0, 0, item (some 0), img, 0, 2, 1, 3, 7, 5, 3, 0, true, by decide +kernel⟩,
   ⟨onCtx rEid ctx0, 0, item (some 0), img, 0, 1, 2, 1, 3, 7, 5, 3, 0, true, by decide +kernel⟩⟩

theorem met_JoinsAndGates_5 :
    (∃ (s : State) (x : Nat) (it : Item) (im : Image) (_et fn _b _a _d dst sr flow fsn : Nat) (pin : Bool), Ready s x it im ∧ CalledBy s it x dst sr flow fsn pin ∧ fn ≠ 0) ∧
    (∃ (s : State) (x : Nat) (it : Item) (im : Image) (_et fn _b _a _d dst sr flow fsn : Nat) (pin : Bool), Ready s x it im ∧ CalledBy s it x dst sr flow fsn pin ∧ fn ≠ 0) :=
  ⟨⟨onCtx rEid ctx0, 0, item (some 0), img, 0, 1, 2, 1, 3, 7, 5, 3, 0, true, by decide +kernel⟩,
   ⟨onCtx rEid ctx0, 0, item (some 0), img, 0, 1, 2, 1, 3, 7, 5, 3, 0, true, by decide +kernel⟩⟩

theorem met_ControlFlowAndSystem_1 :
    (∃ (s : State) (x : Nat) (it : Item) (im : Image) (ofs : Int) (b a cond target : Nat), Issues s x it im ∧ branchOn cond ((s.ctx x).sreg a) ((s.ctx x).sreg b) = true ∧ (target : Int) = (s.ctx x).pc + 4 * ofs ∧ target < im.codeBytes ∧ im.codeBytes < 2 ^ 32) ∧
    (∃ (s : State) (x : Nat) (it : Item) (im : Image) (imm : Int) (_a _d target : Nat), Issues s x it im ∧ (target : Int) = (s.ctx x).pc + 4 * imm ∧ target < im.codeBytes ∧ im.codeBytes < 2 ^ 32) ∧
    (∃ (s : State) (x : Nat) (it : Item) (im : Image) (imm : Int) (a _d target : Nat), Issues s x it im ∧ (target : Int) = s.sr x a + 4 * imm ∧ -16384 ≤ imm ∧ imm < 16384 ∧ target % 4 = 0 ∧ target < im.codeBytes ∧ im.codeBytes < 2 ^ 32) ∧
    (∃ (s : State) (x : Nat) (it : Item) (im : Image) (_imm : Int) (_a _d dst sr flow fsn : Nat) (pin : Bool), Issues s x it im ∧ CalledBy s it x dst sr flow fsn pin ∧ im.codeBytes ≤ (s.ctx x).pc + 4) :=
  ⟨⟨onCtx rEid { ctx0 with pc := 20, s := [(1, 0xFFFFFFFFFFFFFFFF#64), (2, 3#64)] }, 0, item (some 0), img, -2, 2, 1, 2, 12, by decide +kernel⟩,
   ⟨onCtx rEid { ctx0 with pc := 20, s := [(1, 0xFFFFFFFFFFFFFFFF#64), (2, 3#64)] }, 0, item (some 0), img, -2, 0, 1, 12, by decide +kernel⟩,
   ⟨onCtx rEid { ctx0 with pc := 20, s := [(1, 0xFFFFFFFFFFFFFFFF#64), (2, 4#64)] }, 0, item (some 0), img, 2, 2, 1, 12, by decide +kernel⟩,
   ⟨onCtx rEid { ctx0 with pc := 65532, s := [(1, 64#64)] }, 0, item (some 0), img, -7, 1, 3, 7, 5, 3, 0, true, by decide +kernel⟩⟩

theorem met_ControlFlowAndSystem_2 :
    (∃ (s : State) (x : Nat) (it : Item) (im : Image) (_et _b _a d dst sr flow fsn : Nat) (pin : Bool), Issues s x it im ∧ CalledBy s it x dst sr flow fsn pin ∧ d ≤ 3 ∧ im.codeBytes ≤ (s.ctx x).pc + 4) ∧
    (∃ (s : State) (x : Nat) (it : Item) (im : Image) (imm : Int) (a _d : Nat) (p : Place) (dst sr flow fsn : Nat) (pin : Bool), Issues s x it im ∧ CalledBy s it x dst sr flow fsn pin ∧ -16384 ≤ imm ∧ imm < 16384 ∧ s.chkWr x it im ((s.sr x a + immNat imm) % 2 ^ 64) 8 8 = .ok p ∧ im.codeBytes ≤ (s.ctx x).pc + 4) ∧
    (∃ (s : State) (x : Nat) (it : Item) (im : Image) (imm : Int) (a _d : Nat), Ready s x it im ∧ (s.sr x a + immNat imm) % 2 ^ 64 = 4 * 2 ^ 60 + 0) ∧
    (∃ (s : State) (x : Nat) (it : Item) (im : Image) (imm : Int) (a _d dst sr flow fsn : Nat) (pin : Bool), Ready s x it im ∧ CalledBy s it x dst sr flow fsn pin ∧ ((s.sr x a + immNat imm) % 2 ^ 64) / 2 ^ 60 ≠ 4) :=
  ⟨⟨onCtx rEid { ctx0 with pc := 65532, s := [(1, 64#64)] }, 0, item (some 0), img, 0, 0, 0, 1, 7, 5, 3, 0, true, by decide +kernel⟩,
   ⟨onCtx rEid { ctx0 with pc := 65532, s := [(1, 64#64)] }, 0, item (some 0), img, 0, 1, 3, .bench 64, 7, 5, 3, 0, true, by decide +kernel⟩,
   ⟨onCtx rEid { ctx0 with s := [(1, 0x4000000000000000#64), (3, 0x1F7#64)] }, 0, item (some 0), img, 0, 1, 3, by decide +kernel⟩,
   ⟨onCtx rEid { ctx0 with s := [(1, 0x3000000000000000#64), (3, 0x1F7#64)] }, 0, item (some 0), img, 0, 1, 3, 7, 5, 3, 0, true, by decide +kernel⟩⟩

theorem met_ControlFlowAndSystem_3 :
    (∃ (s : State) (x : Nat) (it : Item) (im : Image) (base : Nat) (imm : Int) (a _d : Nat), Ready s x it im ∧ ctrBase x ((s.sr x a + immNat imm) % 2 ^ 64) = some base ∧ (s.imgService it.image = true ∨ s.rf base 27 27 = 1)) ∧
    (∃ (s : State) (x : Nat) (it : Item) (im : Image) (_et _b _a _d : Nat), Ready s x it im) ∧
    (∃ (s : State) (x : Nat) (it : Item) (im : Image) (_et _b _a _d _fn w dst sr flow fsn : Nat) (pin : Bool), s.ctxItem x = some it ∧ s.image it.image = some im ∧ (s.ctx x).wait = .no ∧ s.turn x = true ∧ x < 1024 ∧ s.codeBad x im = false ∧ w = s.fetched x im ∧ daporWord x w = none ∧ CalledBy s it x dst sr flow fsn pin) ∧
    (∃ (s : State) (x : Nat) (it : Item) (im : Image) (_et _b _a _d dst sr flow fsn : Nat) (pin : Bool), Issues s x it im ∧ CalledBy s it x dst sr flow fsn pin) :=
  ⟨⟨((onCtx rEid ctx0).setRf 0x600200 27 27 1).setReg 0x600204 9#32, 0, item (some 0), img, 0x600200, 0x200, 0, 3, by decide +kernel⟩,
   ⟨onCtx rEid ctx0, 0, item (some 0), img, 0, 2, 1, 3, by decide +kernel⟩,
   ⟨(onCtx rEid ctx0).memPut img.codeBase [0x1F#8], 0, item (some 0), img, 0, 2, 1, 3, 0, 0x1F, 7, 5, 3, 0, true, by decide +kernel⟩,
   ⟨onCtx rEid { ctx0 with s := [(1, 77#64), (2, 3#64)] }, 0, item (some 0), img, 0, 2, 1, 3, 7, 5, 3, 0, true, by decide +kernel⟩⟩

theorem met_ControlFlowAndSystem_4 :
    (∃ (s : State) (x : Nat) (it : Item) (im : Image) (_et _b a _d dst sr flow fsn : Nat) (pin : Bool), Issues s x it im ∧ CalledBy s it x dst sr flow fsn pin ∧ s.sr x a ≤ 4096 ∧ s.sr x a ≤ s.benchSize x ∧ s.itemQuiet x it = true ∧ ((s.ctx x).copies.all (fun k => decide (k.status = stOk)) = true) ∧ s.firstFail x it = none ∧ NoErr s x) ∧
    (∃ (s : State) (x : Nat) (it : Item) (im : Image) (_et _b _a _d : Nat), Ready s x it im ∧ (s.ctx x).copies.any Copy.intoHbm = false) ∧
    (∃ (s : State) (x : Nat) (it : Item) (im : Image) (_ofs : Int) (b a cond : Nat), Ready s x it im ∧ cond ≤ 5 ∧ branchOn cond ((s.ctx x).sreg a) ((s.ctx x).sreg b) = false) ∧
    (∃ (s : State) (x : Nat) (it : Item) (im : Image) (ofs : Int) (b a cond target dst sr flow fsn : Nat) (pin : Bool), Issues s x it im ∧ CalledBy s it x dst sr flow fsn pin ∧ branchOn cond ((s.ctx x).sreg a) ((s.ctx x).sreg b) = true ∧ (target : Int) = (s.ctx x).pc + 4 * ofs ∧ im.codeBytes ≤ target ∧ target < 2 ^ 32) :=
  ⟨⟨onCtx rEid { ctx0 with pc := 65532, s := [(1, 5#64), (2, 6#64), (3, 7#64)], bench := [(1, 9#8)] }, 0, item (some 0), img, 0, 2, 1, 3, 7, 5, 3, 0, true, by decide +kernel⟩,
   ⟨onCtx rEid ctx0, 0, item (some 0), img, 0, 2, 1, 3, by decide +kernel⟩,
   ⟨onCtx rEid { ctx0 with pc := 20, s := [(1, 0xFFFFFFFFFFFFFFFF#64), (2, 3#64)] }, 0, item (some 0), img, -2, 2, 1, 3, by decide +kernel⟩,
   ⟨((onCtx rEid { ctx0 with pc := 20, s := [(1, 0xFFFFFFFFFFFFFFFF#64), (2, 3#64)] }).setImage 0 (some { img with codeBytes := 64 })), 0, item (some 0), { img with codeBytes := 64 }, 500, 2, 1, 2, 2020, 7, 5, 3, 0, true, by decide +kernel⟩⟩

theorem met_ControlFlowAndSystem_5 :
    (∃ (s : State) (x : Nat) (it : Item) (im : Image) (_ofs : Int) (_b _a cond dst sr flow fsn : Nat) (pin : Bool), Ready s x it im ∧ CalledBy s it x dst sr flow fsn pin ∧ 5 < cond) ∧
    (∃ (s : State) (x : Nat) (it : Item) (im : Image) (imm : Int) (a _d target dst sr flow fsn : Nat) (pin : Bool), Issues s x it im ∧ CalledBy s it x dst sr flow fsn pin ∧ (target : Int) = s.sr x a + 4 * imm ∧ -16384 ≤ imm ∧ imm < 16384 ∧ target % 4 ≠ 0 ∧ target < im.codeBytes ∧ im.codeBytes < 2 ^ 32) ∧
    (∃ (s : State) (x : Nat) (it : Item) (im : Image) (imm : Int) (a _d target dst sr flow fsn : Nat) (pin : Bool), Issues s x it im ∧ CalledBy s it x dst sr flow fsn pin ∧ (target : Int) = s.sr x a + 4 * imm ∧ -16384 ≤ imm ∧ imm < 16384 ∧ im.codeBytes ≤ target ∧ target < 2 ^ 64) ∧
    (∃ (s : State) (x : Nat) (it : Item) (im : Image) (imm : Int) (a _d : Nat), Ready s x it im ∧ (s.sr x a + immNat imm) % 2 ^ 64 = 4 * 2 ^ 60 + 1) :=
  ⟨⟨onCtx rEid { ctx0 with pc := 20, s := [(1, 0xFFFFFFFFFFFFFFFF#64), (2, 3#64)] }, 0, item (some 0), img, -2, 2, 1, 6, 7, 5, 3, 0, true, by decide +kernel⟩,
   ⟨onCtx rEid { ctx0 with pc := 20, s := [(1, 0xFFFFFFFFFFFFFFFF#64), (2, 3#64)] }, 0, item (some 0), img, 2, 2, 1, 11, 7, 5, 3, 0, true, by decide +kernel⟩,
   ⟨onCtx rEid { ctx0 with pc := 20, s := [(1, 0xFFFFFFFFFFFFFFFF#64), (2, 70000#64)] }, 0, item (some 0), img, 2, 2, 1, 70008, 7, 5, 3, 0, true, by decide +kernel⟩,
   ⟨onCtx rEid { ctx0 with s := [(1, 0x4000000000000000#64), (3, 0x1F7#64)] }, 0, item (some 0), img, 1, 1, 3, by decide +kernel⟩⟩

theorem met_ControlFlowAndSystem_6 :
    (∃ (s : State) (x : Nat) (it : Item) (im : Image) (imm : Int) (a _d : Nat), Ready s x it im ∧ (s.sr x a + immNat imm) % 2 ^ 64 = 4 * 2 ^ 60 + 2) ∧
    (∃ (s : State) (x : Nat) (it : Item) (im : Image) (imm : Int) (a _d : Nat), Ready s x it im ∧ (s.sr x a + immNat imm) % 2 ^ 64 = 4 * 2 ^ 60 + 0x10) ∧
    (∃ (s : State) (x : Nat) (it : Item) (im : Image) (imm : Int) (a _d : Nat), Ready s x it im ∧ (s.sr x a + immNat imm) % 2 ^ 64 = 4 * 2 ^ 60 + 0x11) ∧
    (∃ (s : State) (x : Nat) (it : Item) (im : Image) (imm : Int) (a _d : Nat), Ready s x it im ∧ (s.sr x a + immNat imm) % 2 ^ 64 = 4 * 2 ^ 60 + 0x12) :=
  ⟨⟨onCtx rEid { ctx0 with s := [(1, 0x4000000000000000#64), (3, 0x1F7#64)] }, 0, item (some 0), img, 2, 1, 3, by decide +kernel⟩,
   ⟨onCtx rEid { ctx0 with s := [(1, 0x4000000000000000#64), (3, 0x1F7#64)] }, 0, item (some 0), img, 16, 1, 3, by decide +kernel⟩,
   ⟨onCtx rEid { ctx0 with s := [(1, 0x4000000000000000#64), (3, 0x1F7#64)] }, 0, item (some 0), img, 17, 1, 3, by decide +kernel⟩,
   ⟨onCtx rEid { ctx0 with s := [(1, 0x4000000000000000#64), (3, 0x1F7#64)] }, 0, item (some 0), img, 18, 1, 3, by decide +kernel⟩⟩

theorem met_ControlFlowAndSystem_7 :
    (∃ (s : State) (x : Nat) (it : Item) (im : Image) (imm : Int) (a _d : Nat), Ready s x it im ∧ (s.sr x a + immNat imm) % 2 ^ 64 = 4 * 2 ^ 60 + 0x13) ∧
    (∃ (s : State) (x : Nat) (it : Item) (im : Image) (imm : Int) (a _d : Nat), Ready s x it im ∧ (s.sr x a + immNat imm) % 2 ^ 64 = 4 * 2 ^ 60 + 0x14) ∧
    (∃ (s : State) (x : Nat) (it : Item) (im : Image) (imm : Int) (a _d : Nat), Ready s x it im ∧ (s.sr x a + immNat imm) % 2 ^ 64 = 4 * 2 ^ 60 + 0x15) ∧
    (∃ (s : State) (x : Nat) (it : Item) (im : Image) (imm : Int) (a _d : Nat), Ready s x it im ∧ (s.sr x a + immNat imm) % 2 ^ 64 = 4 * 2 ^ 60 + 0x17) :=
  ⟨⟨onCtx rEid { ctx0 with s := [(1, 0x4000000000000000#64), (3, 0x1F7#64)] }, 0, item (some 0), img, 19, 1, 3, by decide +kernel⟩,
   ⟨onCtx rEid { ctx0 with s := [(1, 0x4000000000000000#64), (3, 0x1F7#64)] }, 0, item (some 0), img, 20, 1, 3, by decide +kernel⟩,
   ⟨onCtx rEid { ctx0 with s := [(1, 0x4000000000000000#64), (3, 0x1F7#64)] }, 0, item (some 0), img, 21, 1, 3, by decide +kernel⟩,
   ⟨onCtx rEid { ctx0 with s := [(1, 0x4000000000000000#64), (3, 0x1F7#64)] }, 0, item (some 0), img, 23, 1, 3, by decide +kernel⟩⟩

theorem met_ControlFlowAndSystem_8 :
    (∃ (s : State) (x : Nat) (it : Item) (im : Image) (imm : Int) (a _d : Nat), Ready s x it im ∧ (s.sr x a + immNat imm) % 2 ^ 64 = 4 * 2 ^ 60 + 0x18) ∧
    (∃ (s : State) (x : Nat) (it : Item) (im : Image) (imm : Int) (a _d : Nat), Ready s x it im ∧ (s.sr x a + immNat imm) % 2 ^ 64 = 4 * 2 ^ 60 + 0x19) ∧
    (∃ (s : State) (x : Nat) (it : Item) (im : Image) (imm : Int) (a _d i : Nat), Ready s x it im ∧ (s.sr x a + immNat imm) % 2 ^ 64 = 4 * 2 ^ 60 + (0x100 + i) ∧ i < 32) ∧
    (∃ (s : State) (x : Nat) (it : Item) (im : Image) (imm : Int) (a _d dst sr flow fsn : Nat) (pin : Bool), Ready s x it im ∧ CalledBy s it x dst sr flow fsn pin ∧ (s.sr x a + immNat imm) % 2 ^ 64 = 4 * 2 ^ 60 + 0x1A ∧ s.imgService it.image = false) :=
  ⟨⟨onCtx rEid { ctx0 with s := [(1, 0x4000000000000000#64), (3, 0x1F7#64)] }, 0, item (some 0), img, 24, 1, 3, by decide +kernel⟩,
   ⟨onCtx rEid { ctx0 with s := [(1, 0x4000000000000000#64), (3, 0x1F7#64)] }, 0, item (some 0), img, 25, 1, 3, by decide +kernel⟩,
   ⟨onCtx rEid { ctx0 with s := [(1, 0x4000000000000000#64), (3, 0x1F7#64)] }, 0, item (some 0), img, 0x100, 1, 3, 0, by decide +kernel⟩,
   ⟨onCtx rEid { ctx0 with s := [(1, 0x4000000000000000#64), (3, 0x1F7#64)] }, 0, item (some 0), img, 0x1A, 1, 3, 7, 5, 3, 0, true, by decide +kernel⟩⟩

theorem met_ControlFlowAndSystem_9 :
    (∃ (s : State) (x : Nat) (it : Item) (im : Image) (imm : Int) (a _d : Nat), Ready s x it im ∧ (s.sr x a + immNat imm) % 2 ^ 64 = 4 * 2 ^ 60 + 0x1A ∧ s.imgService it.image = true) ∧
    (∃ (s : State) (x : Nat) (it : Item) (im : Image) (imm : Int) (a _d dst sr flow fsn : Nat) (pin : Bool), Ready s x it im ∧ CalledBy s it x dst sr flow fsn pin ∧ ((s.sr x a + immNat imm) % 2 ^ 64) / 2 ^ 60 ≠ 4) ∧
    (∃ (s : State) (x : Nat) (it : Item) (im : Image) (imm : Int) (a _d : Nat), Ready s x it im ∧ (s.sr x a + immNat imm) % 2 ^ 64 = 4 * 2 ^ 60 + 0) ∧
    (∃ (s : State) (x : Nat) (it : Item) (im : Image) (imm : Int) (a _d : Nat), Ready s x it im ∧ (s.sr x a + immNat imm) % 2 ^ 64 = 4 * 2 ^ 60 + 1) :=
  ⟨⟨(onCtx rEid { ctx0 with s := [(1, 0x4000000000000000#64), (3, 0x1F7#64)] }).setRf (aImage 0 0) 28 28 1, 0, item (some 0), img, 0x1A, 1, 3, by decide +kernel⟩,
   ⟨onCtx rEid { ctx0 with s := [(1, 0x3000000000000000#64), (3, 0x1F7#64)] }, 0, item (some 0), img, 0, 1, 3, 7, 5, 3, 0, true, by decide +kernel⟩,
   ⟨onCtx rEid { ctx0 with s := [(1, 0x4000000000000000#64), (3, 0x1F7#64)] }, 0, item (some 0), img, 0, 1, 3, by decide +kernel⟩,
   ⟨onCtx rEid { ctx0 with s := [(1, 0x4000000000000000#64), (3, 0x1F7#64)] }, 0, item (some 0), img, 1, 1, 3, by decide +kernel⟩⟩

theorem met_ControlFlowAndSystem_10 :
    (∃ (s : State) (x : Nat) (it : Item) (im : Image) (imm : Int) (a _d : Nat), Ready s x it im ∧ (s.sr x a + immNat imm) % 2 ^ 64 = 4 * 2 ^ 60 + 2) ∧
    (∃ (s : State) (x : Nat) (it : Item) (im : Image) (imm : Int) (a _d i dst sr flow fsn : Nat) (pin : Bool), Ready s x it im ∧ CalledBy s it x dst sr flow fsn pin ∧ (s.sr x a + immNat imm) % 2 ^ 64 = 4 * 2 ^ 60 + i ∧ i < 4096 ∧ ctlListed i = true ∧ 2 < i ∧ i ≠ 0x1A) ∧
    (∃ (s : State) (x : Nat) (it : Item) (im : Image) (imm : Int) (a _d i dst sr flow fsn : Nat) (pin : Bool), Ready s x it im ∧ CalledBy s it x dst sr flow fsn pin ∧ (s.sr x a + immNat imm) % 2 ^ 64 = 4 * 2 ^ 60 + i ∧ i < 4096 ∧ ctlListed i = false) ∧
    (∃ (s : State) (x : Nat) (it : Item) (im : Image) (imm : Int) (a _d : Nat), Ready s x it im ∧ (s.sr x a + immNat imm) % 2 ^ 64 = 4 * 2 ^ 60 + 0x1A ∧ s.imgService it.image = true ∧ s.sealed = false ∧ s.fallback = false ∧ (tabGet (fun _ => 0) s.fw.traceLast (x / 4) = 0)) :=
  ⟨⟨onCtx rEid { ctx0 with s := [(1, 0x4000000000000000#64), (3, 0x1F7#64)] }, 0, item (some 0), img, 2, 1, 3, by decide +kernel⟩,
   ⟨onCtx rEid { ctx0 with s := [(1, 0x4000000000000000#64), (3, 0x1F7#64)] }, 0, item (some 0), img, 0x15, 1, 3, 0x15, 7, 5, 3, 0, true, by decide +kernel⟩,
   ⟨onCtx rEid { ctx0 with s := [(1, 0x4000000000000000#64), (3, 0x1F7#64)] }, 0, item (some 0), img, 0x20, 1, 3, 0x20, 7, 5, 3, 0, true, by decide +kernel⟩,
   ⟨(onCtx rEid { ctx0 with s := [(1, 0x4000000000000000#64), (3, 0x1F7#64)] }).setRf (aImage 0 0) 28 28 1, 0, item (some 0), img, 0x1A, 1, 3, by decide +kernel⟩⟩

theorem met_ControlFlowAndSystem_11 :
    (∃ (s : State) (x : Nat) (it : Item) (im : Image) (imm : Int) (a _d : Nat), Ready s x it im ∧ (s.sr x a + immNat imm) % 2 ^ 64 = 4 * 2 ^ 60 + 0x1A ∧ s.imgService it.image = true ∧ s.sealed = true) ∧
    (∃ (s : State) (x : Nat) (it : Item) (im : Image) (base : Nat) (imm : Int) (a _d dst sr flow fsn : Nat) (pin : Bool), Ready s x it im ∧ CalledBy s it x dst sr flow fsn pin ∧ ctrBase x ((s.sr x a + immNat imm) % 2 ^ 64) = some base ∧ s.imgService it.image = false ∧ s.rf base 27 27 = 0) ∧
    (∃ (s : State) (x : Nat) (it : Item) (im : Image) (imm : Int) (a _d dst sr flow fsn : Nat) (pin : Bool), Ready s x it im ∧ CalledBy s it x dst sr flow fsn pin ∧ ctrBase x ((s.sr x a + immNat imm) % 2 ^ 64) = none) ∧
    (∃ (s : State) (x : Nat) (it : Item) (im : Image) (_et _b _a _d _fn dst sr flow fsn : Nat) (pin : Bool), s.ctxItem x = some it ∧ s.image it.image = some im ∧ (s.ctx x).wait = .no ∧ s.turn x = true ∧ x < 1024 ∧ s.codeBad x im = true ∧ CalledBy s it x dst sr flow fsn pin) :=
  ⟨⟨((onCtx rEid { ctx0 with s := [(1, 0x4000000000000000#64), (3, 0x1F7#64)] }).setRf (aImage 0 0) 28 28 1).setRf aFw 28 28 1, 0, item (some 0), img, 0x1A, 1, 3, by decide +kernel⟩,
   ⟨onCtx rEid ctx0, 0, item (some 0), img, 0x600200, 0x200, 0, 3, 7, 5, 3, 0, true, by decide +kernel⟩,
   ⟨onCtx rEid ctx0, 0, item (some 0), img, 0x300, 0, 3, 7, 5, 3, 0, true, by decide +kernel⟩,
   ⟨{ onCtx rEid ctx0 with pwr := { powerReset with hbmBad := [img.codeBase + 2] } }, 0, item (some 0), img, 0, 2, 1, 3, 0, 7, 5, 3, 0, true, by decide +kernel⟩⟩

theorem met_ControlFlowAndSystem_12 :
    (∃ (s : State) (x : Nat) (it : Item) (im : Image) (_et _b a _d : Nat), Issues s x it im ∧ s.sr x a ≤ 4096 ∧ s.sr x a ≤ s.benchSize x ∧ s.itemQuiet x it = false ∧ NoErr s x) ∧
    (∃ (s : State) (x : Nat) (it : Item) (im : Image) (_et _b a _d dst sr flow fsn : Nat) (pin : Bool), Issues s x it im ∧ CalledBy s it x dst sr flow fsn pin ∧ (4096 < s.sr x a ∨ s.benchSize x < s.sr x a)) ∧
    (∃ (s : State) (x : Nat) (it : Item) (im : Image) (_et _b _a _d : Nat), Ready s x it im ∧ (s.ctx x).copies.any Copy.intoHbm = true) ∧
    (∃ (s : State) (x : Nat) (it : Item) (im : Image) (_et fn _a _b _d dst sr flow fsn : Nat) (pin : Bool), Ready s x it im ∧ CalledBy s it x dst sr flow fsn pin ∧ 4 ≤ fn) :=
  ⟨⟨onCtx rEid { ctx0 with pc := 65532, calls := 1 }, 0, item (some 0), img, 0, 2, 1, 3, by decide +kernel⟩,
   ⟨onCtx rEid { ctx0 with s := [(1, 5000#64)] }, 0, item (some 0), img, 0, 2, 1, 3, 7, 5, 3, 0, true, by decide +kernel⟩,
   ⟨onCtx rEid { ctx0 with copies := [{ copyOver 0 with moves := [⟨.bench 0, .hbm 0, 4, 0⟩] }] }, 0, item (some 0), img, 0, 2, 1, 3, by decide +kernel⟩,
   ⟨onCtx rEid ctx0, 0, item (some 0), img, 0, 4, 1, 2, 3, 7, 5, 3, 0, true, by decide +kernel⟩⟩

end Sys2Proof.Tests
end

section
/-!
The canonical form under every command.  Each function of the model that answers a state has one lemma here, which
says that it keeps the form (`Canon.<function>`); each command has one which says that it answers a next state and
keeps the form (`keeps_<command>`).  They stand in the order of the model's files.  A proof names the updates from
the outermost inwards, as the function nests them, and cites the lemma of each; the form of the updated state is
never unfolded.
-/

namespace Sys2Proof.Machine

/-! ### Rules for the shapes that the model's functions are built of -/

/-- A record update of the other fields keeps the form. -/
theorem Canon.update {s : State} (c : Canon s)
    {pending free aon pwr sw flows seq shed grpCmd host fw trd thm pair cnt} :
    Canon ⟨pending, free, aon, s.regs, pwr, s.ports, sw, s.pools, flows, s.groups, s.mem, seq, shed, s.ctxs, grpCmd,
      host, fw, trd, thm, s.carts, pair, cnt⟩ := c

section Conditionals
variable {α β : Type} {p : Prop} [Decidable p]

theorem Canon.ite {a b : State} (ca : Canon a) (cb : Canon b) : Canon (if p then a else b) := by
  split <;> assumption

theorem Canon.ite_snd {a b : α × State} (ca : Canon a.2) (cb : Canon b.2) : Canon (if p then a else b).2 := by
  split <;> assumption

theorem Canon.ite_fst {a b : State × α} (ca : Canon a.1) (cb : Canon b.1) : Canon (if p then a else b).1 := by
  split <;> assumption

theorem Canon.ite_snd_snd {a b : α × β × State} (ca : Canon a.2.2) (cb : Canon b.2.2) :
    Canon (if p then a else b).2.2 := by
  split <;> assumption

end Conditionals

section Folds
variable {α β : Type} {l : List α}

theorem Canon.foldl {f : State → α → State} {s : State} (c : Canon s) (h : ∀ s x, Canon s → Canon (f s x)) :
    Canon (l.foldl f s) :=
  List.foldlRecOn l f c (fun s c x _ => h s x c)

theorem Canon.foldr {f : α → State → State} {s : State} (c : Canon s) (h : ∀ x s, Canon s → Canon (f x s)) :
    Canon (l.foldr f s) :=
  List.foldrRecOn l f c (fun s c x _ => h x s c)

theorem Canon.foldl_snd {f : β × State → α → β × State} {s : β × State} (c : Canon s.2)
    (h : ∀ s x, Canon s.2 → Canon (f s x).2) : Canon (l.foldl f s).2 :=
  List.foldlRecOn (motive := fun s => Canon s.2) l f c (fun s c x _ => h s x c)

theorem Canon.foldl_fst {f : State × β → α → State × β} {s : State × β} (c : Canon s.1)
    (h : ∀ s x, Canon s.1 → Canon (f s x).1) : Canon (l.foldl f s).1 :=
  List.foldlRecOn (motive := fun s => Canon s.1) l f c (fun s c x _ => h s x c)

end Folds

section Answers
variable {α β : Type} {s t : State} {a : α} {b : β}

theorem Canon.snd {r : α × State} (h : r = (a, t)) (c : Canon r.2) : Canon t := by
  subst h; exact c

theorem Canon.fst {r : State × α} (h : r = (t, a)) (c : Canon r.1) : Canon t := by
  subst h; exact c

theorem Canon.snd_snd {r : α × β × State} (h : r = (a, b, t)) (c : Canon r.2.2) : Canon t := by
  subst h; exact c

theorem Canon.getD {o : Option State} (h : ∀ t, o = some t → Canon t) (c : Canon s) : Canon (o.getD s) := by
  cases o with
  | none => exact c
  | some t => exact h t rfl

end Answers

/-! ### What a command and an attempt to issue answer -/

/-- The outcome is a next state, in canonical form where `s` is. -/
def Keeps (s : State) (o : Out) : Prop := ∃ t, o = .next t ∧ (Canon s → Canon t)

/-- The state that an attempt to issue leaves, where it leaves one, is in canonical form. -/
def CanonIssue : Issue → Prop
  | .done t => Canon t
  | .jump t _ => Canon t
  | .ended t => Canon t
  | .yields t => Canon t
  | .trap _ _ _ => True
  | .fault t _ _ _ => Canon t
  | .wait t => Canon t
  | .still t => Canon t

/-- The state that comes with resolved addresses is in canonical form. -/
def CanonLocs : Locs → Prop
  | .ok _ t => Canon t
  | .trap _ _ _ t => Canon t
  | .wait t => Canon t

section Outcomes
variable {s t : State} {o : Out} {p : Prop} [Decidable p]

theorem Keeps.next (h : Canon s → Canon t) : Keeps s (.next t) := ⟨t, rfl, h⟩

theorem Keeps.ite {a b : Out} (ha : Keeps s a) (hb : Keeps s b) : Keeps s (if p then a else b) := by
  split <;> assumption

theorem Keeps.of (h : Canon s → Canon t) (k : Keeps t o) : Keeps s o := by
  obtain ⟨u, rfl, hu⟩ := k
  exact .next fun c => hu (h c)

theorem Canon.after (h : Keeps s o) (c : Canon s) : Canon (s.after o) := by
  obtain ⟨t, rfl, ht⟩ := h
  exact ht c

theorem CanonIssue.done (c : Canon t) : CanonIssue (.done t) := c
theorem CanonIssue.jump (c : Canon t) {pc} : CanonIssue (.jump t pc) := c
theorem CanonIssue.ended (c : Canon t) : CanonIssue (.ended t) := c
theorem CanonIssue.yields (c : Canon t) : CanonIssue (.yields t) := c
theorem CanonIssue.fault (c : Canon t) {k a st} : CanonIssue (.fault t k a st) := c
theorem CanonIssue.wait (c : Canon t) : CanonIssue (.wait t) := c
theorem CanonIssue.still (c : Canon t) : CanonIssue (.still t) := c
theorem CanonIssue.trap {k a st} : CanonIssue (.trap k a st) := trivial

theorem CanonIssue.ite {a b : Issue} (ha : CanonIssue a) (hb : CanonIssue b) : CanonIssue (if p then a else b) := by
  split <;> assumption

end Outcomes

section Functions
variable {s : State}

/-! ### Ops: the shared operations -/

theorem Canon.choose {α : Type} (c : Canon s) {l : List α} : Canon (s.choose l).2 := by
  unfold State.choose
  split
  exacts [c, c, c.draw]

theorem Canon.toDepth (c : Canon s) {d x} : Canon (s.toDepth d x) := c.setDom _ _

theorem Canon.toOff (c : Canon s) {d k} : Canon (s.toOff d k) := c.setDom _ _

theorem Canon.evClu (c : Canon s) {n0 code n} : Canon (s.evClu n0 code n) := .ite c (c.ctrBank _ _ _ _ _)

theorem Canon.evPick (c : Canon s) {p v code} : Canon (s.evPick p v code) := c.ctrBank _ _ _ _ _

theorem Canon.evUnit (c : Canon s) {n0 code unit n} : Canon (s.evUnit n0 code unit n) :=
  .ite c (c.ctrBank _ _ _ _ _)

theorem Canon.replyFlush (c : Canon s) : Canon s.replyFlush := by
  unfold State.replyFlush
  exact .ite c (.foldl c.update fun _ _ c => c.replyWrite _ _)

theorem Canon.answer (c : Canon s) {src status reply} : Canon (s.answer src status reply) := by
  unfold State.answer
  split
  exacts [c, c.finish _ _ _]

/-! ### Pool: the bobbin pools -/

theorem Canon.poolReserve (c : Canon s) {a h k n t} (e : s.poolReserve a h k n = some t) : Canon t := by
  unfold State.poolReserve at e
  split at e <;> cases e
  exact c.setPool _ _

theorem Canon.poolReserveAll (c : Canon s) {a h l t} (e : s.poolReserveAll a h l = some t) : Canon t := by
  induction l generalizing s with
  | nil => cases e; exact c
  | cons x r ih =>
    unfold State.poolReserveAll at e
    split at e
    · cases e
    · exact ih (c.poolReserve ‹_›) e

theorem Canon.poolRelease (c : Canon s) {n0 a1} : Canon (s.poolRelease n0 a1) := by
  unfold State.poolRelease
  exact c.setPool _ _

theorem Canon.poolDraw (c : Canon s) {n0 k rsvd a1} : Canon (s.poolDraw n0 k rsvd a1).2 := by
  unfold State.poolDraw
  extract_lets
  split
  next h1 =>
  exact .setPool (.snd h1 c.draw) _ _

theorem Canon.poolDrawBytes (c : Canon s) {n0 n a1} : Canon (s.poolDrawBytes n0 n a1).2 := by
  unfold State.poolDrawBytes
  extract_lets _ s1
  have c1 : Canon s1 := c.evUnit
  split
  · split
    next h2 =>
    exact .snd h2 c.poolDraw
  · exact .ite_snd c (c1.setPool _ _)

theorem Canon.dfLog (c : Canon s) {n0 handle unit holder} : Canon (s.dfLog n0 handle unit holder) := by
  unfold State.dfLog
  exact .ite c (.event (.setReg (.setReg (.setReg (c.setReg _ _) _ _) _ _) _ _) _ _ _)

theorem Canon.poolFree (c : Canon s) {n0 handle unit holder} : Canon (s.poolFree n0 handle unit holder).2 := by
  unfold State.poolFree
  exact .ite_snd (c.bump _ _ _ _) (.ite_snd (c.setPool _ _) (.dfLog (c.bump _ _ _ _)))

theorem Canon.poolFreeAll (c : Canon s) {n0 a1} : Canon (s.poolFreeAll n0 a1) := by
  unfold State.poolFreeAll
  exact c.setPool _ _

theorem Canon.poolDrawN (c : Canon s) {a k h n} : Canon (s.poolDrawN a k h n) := by
  induction n generalizing s with
  | zero => exact c
  | succ n ih => exact ih c.poolDraw

theorem Canon.poolHold (c : Canon s) {n0 k a1 n} : Canon (s.poolHold n0 k a1 n) := by
  unfold State.poolHold
  exact .ite c.poolDrawN (c.setPool _ _)

theorem Canon.portTrim (c : Canon s) {p v} : Canon (s.portTrim p v) := by
  unfold State.portTrim
  exact .ite c (.ite c.poolRelease (.setPool c.poolRelease _ _))

theorem Canon.picksOut (c : Canon s) {p v n} : Canon (s.picksOut p v n) := by
  induction n generalizing s with
  | zero => exact c
  | succ n ih =>
    unfold State.picksOut
    exact .ite c (ih (.ite (.portTrim (c.setPool _ _)) (c.setPool _ _)))

theorem Canon.portReserve (c : Canon s) {p t} (e : s.portReserve p = some t) : Canon t := by
  refine List.foldlRecOn (motive := fun o => ∀ t, o = some t → Canon t) (List.range 7) _ ?_ ?_ t e
  · rintro t ⟨⟩
    exact c
  · intro o ih v _ t e
    split at e
    · cases e
    · exact (ih _ rfl).poolRelease.poolReserve e

theorem Canon.portUnreserve (c : Canon s) {p} : Canon (s.portUnreserve p) := .foldl c fun _ _ c => c.portTrim

theorem Canon.carve (c : Canon s) {n0} : Canon (s.carve n0) := .foldl c fun _ _ c => c.setRf _ _ _ _

theorem Canon.poolRebuild (c : Canon s) {n0} : Canon (s.poolRebuild n0) := by
  unfold State.poolRebuild
  exact c.setPool _ _

theorem keeps_execBobApply {path n0 v} : Keeps s (execBobApply path n0 v s) := by
  unfold execBobApply
  exact .ite (.next fun c => .setRf (.ite c.carve c) _ _ _ _) (.next id)

theorem keeps_execBobDrawServed {n0 cls} : Keeps s (execBobDrawServed n0 cls s) := by
  unfold execBobDrawServed
  split
  exacts [.next fun c => .poolDraw (c.setPool _ _), .next id]

theorem keeps_execBobDfLogClear {path n0 v} : Keeps s (execBobDfLogClear path n0 v s) :=
  .ite (.next fun c => .setReg (.setReg (.setReg (c.setReg _ _) _ _) _ _) _ _) (.next id)

theorem keeps_execBobErrClear {path n0 v} : Keeps s (execBobErrClear path n0 v s) :=
  .ite (.next fun c => c.setReg _ _) (.next id)

/-! ### Route: routes, multicast copies and the checks on arrival -/

theorem Canon.memberScan (c : Canon s) : Canon s.memberScan := by
  unfold State.memberScan
  exact .foldl c fun _ _ c => .ite (.event (c.setMember _ _) _ _ _) c

theorem Canon.uncut (c : Canon s) : Canon s.uncut := by
  unfold State.uncut
  exact .memberScan (.ite c.update c)

/-! ### Mirror: the mirror stream as the active sends it -/

theorem Canon.pairMsg (c : Canon s) {op data} : Canon (s.pairMsg op data) := c.emit _ _

theorem Canon.sendItem (c : Canon s) {m} : Canon (s.sendItem m) := by
  unfold State.sendItem
  exact .foldl c fun _ _ c => c.pairMsg

theorem Canon.mirrorPut (c : Canon s) {typ key body tag reply} : Canon (s.mirrorPut typ key body tag reply) := by
  unfold State.mirrorPut
  exact .ite (.sendItem c.update) (.ite (.update (.sendItem c.update)) c.update.update)

theorem Canon.mirror (c : Canon s) {typ key body} : Canon (s.mirror typ key body) := .ite c.mirrorPut c

theorem Canon.mirrorAnswer (c : Canon s) {typ key body src reply} : Canon (s.mirrorAnswer typ key body src reply) :=
  by
  unfold State.mirrorAnswer
  split
  exacts [c.mirror, .ite (.mirrorPut (c.hold _)) (.finish c.mirror _ _ _)]

theorem Canon.mirrorEnd (c : Canon s) {state} : Canon (s.mirrorEnd state) := by
  unfold State.mirrorEnd
  refine .foldl (.update (c.setRf _ _ _ _)) fun _ _ c => ?_
  split
  exacts [c.finish _ _ _, c]

theorem Canon.mirrorPorts (c : Canon s) : Canon s.mirrorPorts := .ite c.mirror c

theorem Canon.mirrorTrd (c : Canon s) : Canon s.mirrorTrd := .ite c.mirror c

theorem Canon.mirrorSelf (c : Canon s) : Canon s.mirrorSelf := .ite c.mirror c

theorem Canon.mirrorSlot (c : Canon s) {n} : Canon (s.mirrorSlot n) := .ite c.mirror c

theorem Canon.mirrorPte (c : Canon s) {n lpn e} : Canon (s.mirrorPte n lpn e) := .ite c.mirror c

/-! ### Sink: the packets that the device sinks -/

theorem Canon.sinkAgain (c : Canon s) {port p} : Canon (s.sinkAgain port p) := by
  unfold State.sinkAgain
  exact c.update

theorem Canon.mgtLost (c : Canon s) : Canon s.mgtLost := by
  unfold State.mgtLost
  exact c.update

/-! ### Reed: collective groups and their reeds -/

theorem Canon.groupReserve (c : Canon s) {g win} : Canon (s.groupReserve g win) := by
  unfold State.groupReserve
  exact .foldl c fun _ _ c => .ite (c.setRf _ _ _ _) (.getD (fun _ h => .poolReserve (c.setRf _ _ _ _) h)
    (c.setRf _ _ _ _))

theorem Canon.groupArm (c : Canon s) {g win epoch} : Canon (s.groupArm g win epoch) := by
  unfold State.groupArm
  exact .setGroup (.setReg (.setRf (.setRf (.setRf (c.setRf _ _ _ _) _ _ _ _) _ _ _ _) _ _ _ _) _ _) _ _

theorem Canon.groupFree (c : Canon s) {g} : Canon (s.groupFree g) := by
  unfold State.groupFree
  exact .setGroup (.setRf (.setRf (.setRf (.foldl c fun _ _ c => .poolRelease
    (.poolFreeAll (c.setRf _ _ _ _))) _ _ _ _) _ _ _ _) _ _ _ _) _ _

theorem Canon.emitCopy (c : Canon s) {n0 mc p} : Canon (s.emitCopy n0 mc p) := by
  unfold State.emitCopy
  exact .ite c (.setInq (c.emit _ _) _ _ _)

theorem Canon.updSlot (c : Canon s) {g chunk f} : Canon (s.updSlot g chunk f) := by
  unfold State.updSlot
  exact c.setGroup _ _

theorem Canon.sendCopies (c : Canon s) {g chunk ps} : Canon (s.sendCopies g chunk ps) :=
  .foldl c fun _ _ c => .ite c (.updSlot c.emitCopy)

theorem Canon.releaseWave (c : Canon s) {g chunk w data} : Canon (s.releaseWave g chunk w data) := by
  unfold State.releaseWave
  exact .foldl c fun _ _ c => .ite c.sendCopies c

theorem Canon.advance (c : Canon s) {n g} : Canon (State.advance n s g) := by
  induction n generalizing s with
  | zero => exact c
  | succ n ih =>
    unfold State.advance
    exact .ite (ih ((c.setGroup _ _).setRf _ _ _ _)) c

theorem Canon.resultFree (c : Canon s) {n0 g hand} : Canon (s.resultFree n0 g hand) := by
  unfold State.resultFree
  exact c.setPool _ _

theorem Canon.resultDraw (c : Canon s) {g chunk data} : Canon (s.resultDraw g chunk data).2 := by
  unfold State.resultDraw
  refine .ite_snd c ?_
  split
  next h1 =>
  exact .snd h1 c.poolDraw

theorem Canon.remark (c : Canon s) {a b} : Canon (s.remark a b) := by
  unfold State.remark
  exact c.update

theorem Canon.slotCleared (c : Canon s) {g y} : Canon (s.slotCleared g y) := by
  unfold State.slotCleared
  split
  exacts [c.remark, .ite c.remark c.resultFree]

theorem Canon.freeSlot (c : Canon s) {g chunk} : Canon (s.freeSlot g chunk) := by
  unfold State.freeSlot
  refine .advance (.setGroup ?_ _ _)
  split
  · split
    exacts [c.resultFree, c]
  · exact c

theorem Canon.copyGone (c : Canon s) {mc} : Canon (s.copyGone mc) := by
  unfold State.copyGone
  refine .ite (.ite c c.resultFree) (.ite c (.ite (.dfLog (c.bump _ _ _ _)) ?_))
  extract_lets s1
  have c1 : Canon s1 := c.updSlot
  split
  exacts [.ite c1.freeSlot c1, c1]

theorem Canon.unreached (c : Canon s) {mc} : Canon (s.unreached mc) := c.bump _ _ _ _

theorem Canon.sendFail (c : Canon s) {g chunk epoch status} : Canon (s.sendFail g chunk epoch status) := by
  unfold State.sendFail
  exact .foldl c fun _ _ c => c.emitCopy

theorem Canon.failInstance (c : Canon s) {g e status} : Canon (s.failInstance g e status) := by
  unfold State.failInstance
  refine .ite c (.advance (.ite ?_ (.evDev (.bump (.bump (.setRf
    (.sendFail (.setGroup (.foldl c fun _ _ c => c.slotCleared) _ _)) _ _ _ _) _ _ _ _) _ _ _ _) _ _)))
  extract_lets s1
  have c1 : Canon s1 := .setRf (.evDev (.bump (.bump (.setRf
    (.sendFail (.setGroup (.foldl c fun _ _ c => c.slotCleared) _ _)) _ _ _ _) _ _ _ _) _ _ _ _) _ _) _ _ _ _
  exact .ite c1 (c1.event _ _ _)

theorem Canon.failOpen (c : Canon s) {g status always} : Canon (s.failOpen g status always) := by
  unfold State.failOpen
  exact .foldl c fun _ _ c => c.failInstance

theorem Canon.reedLost (c : Canon s) {n0} : Canon (s.reedLost n0) :=
  .foldl c fun _ _ c => .ite (.ite (.setRf c.failOpen _ _ _ _) (.ite c.failOpen c)) c

theorem Canon.holdResult (c : Canon s) {g chunk data} : Canon (s.holdResult g chunk data) := by
  unfold State.holdResult
  extract_lets
  split
  next h1 =>
  extract_lets s2 _ s3 s4
  have c2 : Canon s2 := .updSlot (.snd h1 c.resultDraw)
  have c3 : Canon s3 := .ite c2.sendCopies c2
  have c4 : Canon s4 := .ite c3.releaseWave (.foldl c3 fun _ _ c => c.releaseWave)
  split
  exacts [.ite c4.freeSlot c4, c4]

theorem Canon.reedElems (c : Canon s) {n0 ofs n} : Canon (s.reedElems n0 ofs n) := .foldl c fun _ _ c => c.evUnit

theorem Canon.reedChunk (c : Canon s) {n0 n} : Canon (s.reedChunk n0 n) := by
  unfold State.reedChunk
  exact c.ctrBank _ _ _ _ _

theorem Canon.chunkEnd (c : Canon s) {g chunk} : Canon (s.chunkEnd g chunk) := by
  unfold State.chunkEnd
  split
  · exact c
  · exact .ite c (.ite (.holdResult (.bump c.reedChunk _ _ _ _))
      (.foldl (.updSlot c.reedChunk) fun _ _ c => c.emit _ _))

theorem Canon.contribute (c : Canon s) {g member chunk ofs fmt elems e data} : Canon
    (s.contribute g member chunk ofs fmt elems e data) := by
  unfold State.contribute
  refine .ite (c.bump _ _ _ _) (.ite c.failInstance (.ite (.ite c (c.bump _ _ _ _))
    (.ite c.failInstance (.ite c.failInstance ?_))))
  extract_lets s1 s2 s3
  have c1 : Canon s1 := .ite (c.setGroup _ _) c
  have c2 : Canon s2 := c1.reedElems
  have c3 : Canon s3 := c2.updSlot
  exact .ite (c3.setGroup _ _) c3.chunkEnd

theorem keeps_execContrib {port pkt} : Keeps s (execContrib port pkt s) := by
  unfold execContrib
  split
  next h1 =>
  exact .ite (.next fun c => .snd h1 (c.sink _ _ _)) (.ite (.next fun c => .bump (.snd h1 (c.sink _ _ _)) _ _ _ _)
    (.ite (.next fun c => .bump (.snd h1 (c.sink _ _ _)) _ _ _ _)
    (.ite (.next fun c => .bump (.snd h1 (c.sink _ _ _)) _ _ _ _)
    (.ite (.next fun c => .contribute (.snd h1 (c.sink _ _ _)))
    (.next fun c => .wake (.sinkAgain (.snd h1 (c.sink _ _ _))) _)))))

theorem Canon.parentResult (c : Canon s) {g pkt} : Canon (s.parentResult g pkt) := by
  unfold State.parentResult
  extract_lets
  split
  exacts [c, .ite c (.ite (.holdResult c.updSlot) c.updSlot)]

theorem keeps_execReleaseWave {g chunk w} : Keeps s (execReleaseWave g chunk w s) := by
  unfold execReleaseWave
  split
  · split
    · refine .ite ?_ (.next id)
      extract_lets s1 s2
      have c1 : Canon s → Canon s1 := fun c => c.updSlot
      have c2 : Canon s → Canon s2 := fun c => .releaseWave (c1 c)
      split
      exacts [.next fun c => .ite (.freeSlot (c2 c)) (c2 c), .next c2]
    · exact .next id
  · exact .next id

theorem keeps_execChunkTimeout {g gc} : Keeps s (execChunkTimeout g gc s) := by
  unfold execChunkTimeout
  split
  exacts [.ite (.next fun c => c.failInstance) (.next id), .next id]

theorem keeps_execGateGrant {g} : Keeps s (execGateGrant g s) := by
  unfold execGateGrant
  extract_lets
  split
  · exact .next id
  · refine .ite ?_ (.next id)
    extract_lets _ s1 s2 _ s3
    have c1 : Canon s → Canon s1 := fun c => c.setGroup _ _
    have c2 : Canon s → Canon s2 := fun c => .emitCopy (c1 c)
    have c3 : Canon s → Canon s3 := fun c => .setGroup (c2 c) _ _
    exact .ite (.next fun c => .freeSlot (c3 c)) (.next c2)

theorem keeps_execGateTimeout {g} : Keeps s (execGateTimeout g s) := .ite (.next fun c => c.failInstance) (.next id)

theorem Canon.grpEnd (c : Canon s) {g st win tag} : Canon (s.grpEnd g st win tag) := by
  unfold State.grpEnd
  refine .ite (.mirrorAnswer (.update (.setRf (c.setRf _ _ _ _) _ _ _ _))) ?_
  split
  exacts [.finish (.update (.setRf (c.setRf _ _ _ _) _ _ _ _)) _ _ _, .update (.setRf (c.setRf _ _ _ _) _ _ _ _)]

theorem Canon.grpStart (c : Canon s) {src cmd f} (h : ∀ s g e, Canon s → Canon (f s g e)) :
    Canon (s.grpStart src cmd f) := by
  unfold State.grpStart
  split
  exacts [c, .ite c (.ite c.answer (.ite c.answer (h _ _ _ c)))]

theorem keeps_execGroupAdmit {src} : Keeps s (execGroupAdmit src s) := by
  unfold execGroupAdmit
  refine .next fun c => c.grpStart fun _ _ _ c => ?_
  split
  refine .ite (.grpEnd (c.setRf _ _ _ _)) (.update (.setRf ?_ _ _ _ _))
  split
  exacts [.hold (.groupReserve (c.setRf _ _ _ _)) _, .groupReserve (c.setRf _ _ _ _)]

theorem keeps_execGroupAdmitDone : Keeps s (execGroupAdmitDone s) := by
  unfold execGroupAdmitDone
  split
  exacts [.next fun c => .grpEnd c.groupArm, .next id]

theorem keeps_execGroupRelease {src} : Keeps s (execGroupRelease src s) := by
  unfold execGroupRelease
  refine .next fun c => c.grpStart fun _ _ _ c => .ite c.grpEnd (.update (.setRf ?_ _ _ _ _))
  split
  exacts [.hold (.setRf c.failOpen _ _ _ _) _, .setRf c.failOpen _ _ _ _]

theorem keeps_execGroupReleaseDrained {g} : Keeps s (execGroupReleaseDrained g s) := by
  unfold execGroupReleaseDrained
  refine .ite ?_ (.next id)
  extract_lets s1
  have c1 : Canon s → Canon s1 := fun c => c.groupFree
  split
  exacts [.next fun c => .ite (.grpEnd (c1 c)) (c1 c), .next c1]

theorem keeps_execGroupRearm {src} : Keeps s (execGroupRearm src s) := by
  unfold execGroupRearm
  exact .next fun c => c.grpStart fun _ _ _ c => .ite c.grpEnd
    (.grpEnd (.setGroup (.setRf (c.setRf _ _ _ _) _ _ _ _) _ _))

theorem keeps_execRteGrpErrClear {path v} : Keeps s (execRteGrpErrClear path v s) :=
  .ite (.next fun c => .setReg (c.setReg _ _) _ _) (.next id)

theorem keeps_execReedErrClear {path n0 v} : Keeps s (execReedErrClear path n0 v s) :=
  .ite (.next fun c => c.setReg _ _) (.next id)

theorem Canon.grpWordWrite (c : Canon s) {a v} : Canon (s.grpWordWrite a v).2 :=
  .ite_snd (c.setReg _ _) (c.setRf _ _ _ _)

theorem keeps_execGroupWrite {src} : Keeps s (execGroupWrite src s) := by
  unfold execGroupWrite
  split
  · exact .ite (.next fun c => c.grpWordWrite) (.next id)
  · split
    · exact .next id
    · exact .ite (.next fun c => c.finish _ _ _) (.ite (.next fun c => .finish
        (.foldl c fun _ _ c => c.grpWordWrite) _ _ _) (.next fun c => .finish (c.setRf _ _ _ _) _ _ _))

theorem keeps_execGroupRead {tag} : Keeps s (execGroupRead tag s) := .next fun c => c.serve _ _ _ _ _ fun _ _ c => c

/-! ### Frame: control messages of a port -/

theorem Canon.ctlSend (c : Canon s) {p typ body} : Canon (s.ctlSend p typ body) := by
  unfold State.ctlSend
  exact c.updPort _ _

theorem Canon.ctlStale (c : Canon s) {p typ msg} : Canon (s.ctlStale p typ msg) := .ite (c.updPort _ _) c

theorem Canon.ctlTake (c : Canon s) {p typ msg t} (e : s.ctlTake p typ msg = some t) : Canon t := by
  unfold State.ctlTake at e
  dsimp only at e
  split at e
  · cases e
  · split at e <;> cases e
    exact (c.setPort _ _).updPort _ _

theorem Canon.sendFrame (c : Canon s) {p ftype fsn slots} : Canon (s.sendFrame p ftype fsn slots) := by
  unfold State.sendFrame
  exact c.updPort _ _

theorem Canon.ctlNow (c : Canon s) {p typ body} : Canon (s.ctlNow p typ body) := by
  unfold State.ctlNow
  exact .sendFrame (.setPort c.ctlSend _ _)

theorem Canon.ctlFrame (c : Canon s) {p typ body} : Canon (s.ctlFrame p typ body) := by
  unfold State.ctlFrame
  exact .sendFrame (.setPort c.ctlSend _ _)

theorem Canon.paceSend (c : Canon s) {p mask rate} : Canon (s.paceSend p mask rate) := .ite c.ctlSend c

theorem Canon.setPace (c : Canon s) {p f} : Canon (s.setPace p f) := by
  unfold State.setPace
  exact .foldl (c.setPort _ _) fun _ _ c => c.paceSend

/-! ### Mem: contexts and their benches -/

theorem Canon.memLoad (c : Canon s) {a n} : Canon (s.memLoad a n).2 := c.memUse _ _

theorem Canon.eccBump (c : Canon s) {a} : Canon (s.eccBump a) := c.bump _ _ _ _

theorem Canon.updItem (c : Canon s) {i f} : Canon (s.updItem i f) := by
  unfold State.updItem
  exact c.update

theorem Canon.benchPut (c : Canon s) {x off l} : Canon (s.benchPut x off l) := c.updCtx _ _

theorem Canon.setS (c : Canon s) {x i v} : Canon (s.setS x i v) := c.updCtx _ _

theorem Canon.evShu (c : Canon s) {x code n qual} : Canon (s.evShu x code n qual) := by
  unfold State.evShu
  exact .ite c (.foldl c fun _ _ c => .ite (.ctrAdd (.ite (c.updCtx _ _) c) _ _ _) c)

/-! ### Own: the device as a source of flows -/

theorem Canon.updSrc (c : Canon s) {w f} : Canon (s.updSrc w f) := c.setSrc _ _

theorem Canon.injBuffer (c : Canon s) {n0 key len} : Canon (s.injBuffer n0 key len).2 := by
  unfold State.injBuffer
  refine .ite_snd c (.ite_snd c ?_)
  split
  next h1 =>
  exact .snd h1 c.poolDrawBytes

theorem Canon.emitHeld (c : Canon s) {n0 key p} : Canon (s.emitHeld n0 key p) := by
  unfold State.emitHeld
  exact .setPool (c.emit _ _) _ _

theorem Canon.freshWait (c : Canon s) {flow fsn} : Canon (s.freshWait flow fsn) := by
  unfold State.freshWait
  exact c.update

theorem Canon.sendReq (c : Canon s) {n0 key w typ fence kind size op data} : Canon
    (s.sendReq n0 key w typ fence kind size op data) := by
  unfold State.sendReq
  exact .emitHeld (.freshWait (c.setSrc _ _))

theorem Canon.wopen (c : Canon s) {n0 w dst item pkts req rsp spray} : Canon
    (s.wopen n0 w dst item pkts req rsp spray) := by
  unfold State.wopen
  exact .emit (.freshWait (c.setSrc _ _)) _ _

theorem Canon.wclose (c : Canon s) {n0 w} : Canon (s.wclose n0 w) := by
  unfold State.wclose
  exact .setSrc (c.emit _ _) _ _

theorem Canon.wcloseWhenDone (c : Canon s) {w} : Canon (s.wcloseWhenDone w) := by
  unfold State.wcloseWhenDone
  exact .ite c.wclose c

theorem Canon.opDeliver (c : Canon s) {item o r} : Canon (s.opDeliver item o r) := by
  unfold State.opDeliver
  split
  · split
    · split
      exacts [.ite c.benchPut c, .ite c.benchPut c, .benchPut (.benchPut c.benchPut), c]
    · exact c
  · exact c

theorem Canon.noteFail (c : Canon s) {item w} : Canon (s.noteFail item w) := by
  unfold State.noteFail
  split
  exacts [c.updItem, c]

theorem Canon.opRecord (c : Canon s) {o r} : Canon (s.opRecord o r) := by
  unfold State.opRecord
  split
  exacts [c, c, c, c, c.update]

theorem Canon.lateRsp (c : Canon s) {how} : Canon (s.lateRsp how) := by
  unfold State.lateRsp
  exact .ite c.update c

theorem Canon.opEnd (c : Canon s) {dst flow fsn how r} : Canon (s.opEnd dst flow fsn how r) := by
  unfold State.opEnd
  split
  · exact c.lateRsp
  · extract_lets
    split
    · exact c.lateRsp
    · refine .ite c.lateRsp ?_
      extract_lets _ s1 s2 s3
      have c1 : Canon s1 := c.setSrc _ _
      have c2 : Canon s2 := .ite c1 c1.noteFail
      have c3 : Canon s3 := .ite c2.opDeliver c2
      exact .wcloseWhenDone (.ite c3.lateRsp c3.opRecord)

theorem Canon.takeEnd (c : Canon s) {k x t} (e : s.takeEnd k = some (x, t)) : Canon t := by
  obtain ⟨y, -, e⟩ := Option.map_eq_some_iff.mp e
  cases e
  exact c

/-! ### Join: the join records of a context -/

theorem Canon.setJoin (c : Canon s) {x j v} : Canon (s.setJoin x j v) := c.updCtx _ _

theorem Canon.contribPkt (c : Canon s) {x im j k ofs n data t} (e : s.contribPkt x im j k ofs n data = some t) :
    Canon t := by
  unfold State.contribPkt at e
  dsimp only at e
  split at e
  · cases e
    exact c.emit _ _
  · split at e
    · split at e <;> cases e
      exact c.poolDraw.emit _ _
    · cases e

theorem Canon.joinSend (c : Canon s) {x jn} : Canon (s.joinSend x jn) := by
  unfold State.joinSend
  split
  · refine .ite c (.setJoin (.foldl_fst c fun a y ca => .ite_fst ca ?_))
    split
    · split
      · exact ca.contribPkt ‹_›
      · exact ca
    · exact ca
  · exact c

theorem Canon.joinsGo (c : Canon s) {n0 im} : Canon (s.joinsGo n0 im) := by
  unfold State.joinsGo
  exact .foldl c fun _ _ c => .foldl c fun _ _ c' => c'.joinSend

/-! ### Switch: packets in the crossbar -/

theorem Canon.freeOf (c : Canon s) {k a0 n} : Canon (s.freeOf k a0 n) := by
  unfold State.freeOf
  exact .ite (.ite c.picksOut (.updPort c.picksOut _ _)) c

theorem Canon.freeRest (c : Canon s) {k} : Canon (s.freeRest k) := c.freeOf

theorem Canon.freePick (c : Canon s) {p v} : Canon (s.freePick p v) := c.updPort _ _

theorem Canon.dropHead (c : Canon s) {q v} : Canon (s.dropHead q v) := by
  unfold State.dropHead
  split
  exacts [c, .freeRest (c.setInq _ _ _)]

theorem Canon.winRelease (c : Canon s) {n0 src dst flow} : Canon (s.winRelease n0 src dst flow) := by
  unfold State.winRelease
  extract_lets _ _ s1
  have c1 : Canon s1 := .poolRelease c.poolFreeAll
  exact .foldl_fst c1 fun _ _ c => .ite c (.poolDrawN (c.setPool _ _))

theorem Canon.winSync (c : Canon s) {src dst flow} : Canon (s.winSync src dst flow) := by
  unfold State.winSync
  extract_lets
  split
  exacts [c, .ite c.poolHold c.winRelease]

theorem Canon.pktGone (c : Canon s) {k} : Canon (s.pktGone k) := by
  unfold State.pktGone
  exact .ite c (.foldl (.setPool (.poolFreeAll (.ite c.winSync c)) _ _) fun _ _ c => c.joinsGo)

theorem Canon.discardHead (c : Canon s) {q v} : Canon (s.discardHead q v) := by
  unfold State.discardHead
  split
  exacts [c, .pktGone c.dropHead]

theorem Canon.copyLost (c : Canon s) {k} : Canon (s.copyLost k) := by
  unfold State.copyLost
  split
  exacts [.copyGone (.ite (.foldl c fun _ _ c => c.unreached) c), c]

theorem Canon.lostHead (c : Canon s) {q v} : Canon (s.lostHead q v) := by
  unfold State.lostHead
  split
  exacts [c, .copyLost c.discardHead]

theorem Canon.withdrawRest (c : Canon s) {p} : Canon (s.withdrawRest p) := by
  unfold State.withdrawRest
  exact c.updPort _ _

theorem Canon.toOut (c : Canon s) {p v k} : Canon (s.toOut p v k) := .wake (.withdrawRest (c.setOutq _ _ _)) _

theorem Canon.forward (c : Canon s) {q v p pv} : Canon (s.forward q v p pv) := by
  unfold State.forward
  split
  exacts [c, .toOut (.ite c.dropHead (c.setInq _ _ _))]

theorem Canon.sinkHead (c : Canon s) {q v} : Canon (s.sinkHead q v) := by
  unfold State.sinkHead
  split
  · exact c
  · extract_lets s1 _ s2
    have c1 : Canon s1 := .pktGone c.dropHead
    have c2 : Canon s2 := c1.update
    split
    exacts [c2.copyGone, c2]

theorem Canon.waitHead (c : Canon s) {q v} : Canon (s.waitHead q v) := by
  unfold State.waitHead
  split
  exacts [c, c.setInq _ _ _]

theorem Canon.wakePort (c : Canon s) {p} : Canon (s.wakePort p) := by
  unfold State.wakePort
  refine .ite c ?_
  extract_lets s1 s2
  have c1 : Canon s1 := .wake (c.wake _) _
  have c2 : Canon s2 := c1.updPort _ _
  exact .ite c2 c2.ctlSend

theorem Canon.copiesMade (c : Canon s) {mc n} : Canon (s.copiesMade mc n) := .ite c (.ite c.copyGone c.updSlot)

theorem Canon.mcastLost (c : Canon s) {mc} : Canon (s.mcastLost mc) := by
  unfold State.mcastLost
  extract_lets s1
  have c1 : Canon s1 := c.bump _ _ _ _
  split
  exacts [.ite c1.unreached c1, c1]

theorem Canon.replicate (c : Canon s) {q v} : Canon (s.replicate q v) := by
  unfold State.replicate
  split
  · exact c
  · refine .ite ?_ ?_
    · extract_lets s1
      have c1 : Canon s1 := .discardHead (.evDev (c.bump _ _ _ _) _ _)
      split
      exacts [c1.copiesMade, c1]
    · extract_lets _ _ _ _ _ s2 s3 _ s4 s5 s6 s7
      have c2 : Canon s2 := c.dropHead
      have c3 : Canon s3 := .foldl c2 fun _ _ c => c.toOut
      have c4 : Canon s4 := .ite c3.update c3
      have c5 : Canon s5 := .ite c4 (c4.setInq _ _ _)
      have c6 : Canon s6 := by
        refine .foldl c5 fun _ _ c => ?_
        split
        exacts [c.wakePort, c]
      have c7 : Canon s7 := .foldl c6.pktGone fun _ _ c => c.mcastLost
      split
      exacts [c7.copiesMade, c7]

theorem Canon.injectOk (c : Canon s) {q k} : Canon (s.injectOk q k).2 := by
  unfold State.injectOk
  refine .ite_snd c (.ite_snd ?_ c)
  split
  next h1 =>
  exact .snd h1 c.poolDrawBytes

theorem Canon.routeHead (c : Canon s) {q v} : Canon (s.routeHead q v) := by
  unfold State.routeHead
  split
  · exact c
  · refine .ite ?_ (.ite c.sinkHead (.ite c.waitHead (.ite c.replicate ?_)))
    · split
      exacts [c.forward, c.waitHead]
    · split
      · exact .lostHead (.evDev (c.bump _ _ _ _) _ _)
      · exact .lostHead (c.bump _ _ _ _)
      · exact .ite c.discardHead (.ite c.waitHead c.sinkHead)
      · refine .ite (.ite c.forward c.waitHead) ?_
        extract_lets
        split
        · exact c.forward
        · split
          exacts [.waitHead c.wakePort, c.waitHead, .lostHead (c.bump _ _ _ _)]

theorem Canon.stampHead (c : Canon s) {q v} : Canon (s.stampHead q v) := by
  unfold State.stampHead
  split
  exacts [c, .ite c (c.setInq _ _ _)]

theorem Canon.inject (c : Canon s) {q v k} : Canon (s.inject q v k) := by
  unfold State.inject
  split
  next h1 =>
  exact .ite (.routeHead (.snd h1 c.injectOk)) (.waitHead (.snd h1 c.injectOk))

theorem keeps_execPktHeaderArrive {q vc} : Keeps s (execPktHeaderArrive q vc s) := by
  unfold execPktHeaderArrive
  split
  · exact .next id
  · refine .ite ?_ (.ite (.next fun c => .ite c c.stampHead) ?_)
    · extract_lets s1
      have c1 : Canon s → Canon s1 := fun c => .wake (.ite c c.stampHead) _
      exact .ite (.next c1) (.next fun c => .inject (c1 c))
    · extract_lets s2
      have c2 : Canon s → Canon s2 := fun c => .wake (.ite c c.stampHead) _
      exact .ite (.next fun c => .discardHead (.bump (c2 c) _ _ _ _))
        (.ite (.next fun c => .discardHead (.bump (c2 c) _ _ _ _))
        (.ite (.next fun c => .discardHead (.bump (c2 c) _ _ _ _))
        (.ite (.next c2) (.ite (.next fun c => .discardHead (.bump (c2 c) _ _ _ _))
        (.ite (.next fun c => .discardHead (.bump (c2 c) _ _ _ _)) (.next fun c => .routeHead (c2 c)))))))

theorem keeps_execPktPortRetry {q vc} : Keeps s (execPktPortRetry q vc s) := by
  unfold execPktPortRetry
  split
  exacts [.next fun c => .ite c (.ite c.inject c.routeHead), .next id]

theorem Canon.dropOut (c : Canon s) {p v pid} : Canon (s.dropOut p v pid) := c.setOutq _ _ _

theorem Canon.takeWaiting (c : Canon s) {q v ok k t} (e : s.takeWaiting q v ok = some (k, t)) : Canon t := by
  unfold State.takeWaiting at e
  split at e
  · cases e
  · dsimp only at e
    split at e <;> cases e
    · exact .ite c.dropOut c.dropOut.freeRest
    · exact c.dropHead

theorem keeps_execSelEscape {q vc} : Keeps s (execSelEscape q vc s) := by
  unfold execSelEscape
  refine .ite (.next id) ?_
  split
  · exact .next id
  next h2 => exact .next fun c => .evClu (.bump (.toOut (c.takeWaiting h2)) _ _ _ _)

theorem Canon.updPid (c : Canon s) {pid f} : Canon (s.updPid pid f) := by
  unfold State.updPid
  exact c.update

theorem Canon.cutRx (c : Canon s) {p v r} : Canon (s.cutRx p v r) := by
  unfold State.cutRx
  split
  · exact .ite (.ite c (.bump c.updPid _ _ _ _)) (.ite c.dropOut (.freeRest c.dropOut))
  · extract_lets
    split
    exacts [.freeRest (c.setInq _ _ _), c.update]

theorem Canon.cutAll (c : Canon s) {p} : Canon (s.cutAll p) := by
  unfold State.cutAll
  refine .update (.updPort (.foldl c fun _ _ c => ?_) _ _)
  split
  exacts [c.cutRx, c]

theorem Canon.flushOne (c : Canon s) {v k} : Canon (s.flushOne v k).1 := by
  unfold State.flushOne
  extract_lets lost
  have hlost : Canon (lost s) := by
    unfold lost
    extract_lets s1 s2
    have c1 : Canon s1 := .pktGone (c.bump _ _ _ _)
    have c2 : Canon s2 := .ite c1 c1.freeRest
    split
    exacts [.ite c2.copyLost c2.copyGone, c2]
  exact .ite_fst hlost (.ite_fst hlost (.evClu (c.bump _ _ _ _)))

theorem Canon.rechoose (c : Canon s) {k} : Canon (s.rechoose k).1 := by
  unfold State.rechoose
  refine .ite_fst ?_ (.ite_fst c ?_)
  · split
    exacts [c.toOut, c]
  · extract_lets
    split
    · exact c.toOut
    · split
      exacts [c.wakePort, c, .copyLost (.freeRest (.pktGone (c.bump _ _ _ _)))]

theorem Canon.rechooseAll (c : Canon s) {l} : Canon (s.rechooseAll l) := by
  unfold State.rechooseAll
  split
  next t3 _ h1 =>
  have ct3 : Canon t3 := by
    refine .fst h1 (.foldl_fst c fun _ _ c => ?_)
    split
    next h2 =>
    exact .fst h2 c.rechoose
  exact .foldr ct3 fun _ _ c => c.setInq _ _ _

theorem Canon.flushPort (c : Canon s) {p} : Canon (s.flushPort p) := by
  unfold State.flushPort
  refine .foldl c fun _ _ c => ?_
  split
  next t3 _ h1 =>
  have ct3 : Canon t3 := by
    refine .fst h1 (.foldl_fst (c.setOutq _ _ _) fun _ _ c' => ?_)
    split
    next h2 =>
    exact .fst h2 c'.flushOne
  exact ct3.rechooseAll

theorem Canon.pairQuar (c : Canon s) {p} : Canon (s.pairQuar p) := .ite (c.setRf _ _ _ _) c

theorem Canon.portEnd (c : Canon s) {p cause l notice counts} : Canon (s.portEnd p cause l notice counts) := by
  unfold State.portEnd
  extract_lets _ s1 s2
  have c1 : Canon s1 := .ite c.ctlNow c
  have c2 : Canon s2 := .pairQuar (c1.updPort _ _)
  exact .ite (c2.bump _ _ _ _) c2

theorem Canon.portsFlush (c : Canon s) {ps} : Canon (s.portsFlush ps) := by
  unfold State.portsFlush
  exact .memberScan (.foldl (.foldl c fun _ _ c => .updPort c.cutAll _ _) fun _ _ c => c.flushPort)

theorem Canon.portLeave (c : Canon s) {p cause l notice counts} : Canon (s.portLeave p cause l notice counts) :=
  .portsFlush c.portEnd

theorem Canon.portsDown (c : Canon s) {ps cause} : Canon (s.portsDown ps cause) := by
  unfold State.portsDown
  exact .portsFlush (.foldl c fun _ _ c => c.portEnd)

theorem Canon.portDown (c : Canon s) {p cause} : Canon (s.portDown p cause) := by
  unfold State.portDown
  exact .ite c c.portLeave

/-! ### Link: the link of a port -/

theorem Canon.pairEvent (c : Canon s) {kind} : Canon (s.pairEvent kind) := c.event _ _ _

theorem Canon.testEnd (c : Canon s) {test target status errors detail} : Canon
    (s.testEnd test target status errors detail) := by
  unfold State.testEnd
  split
  exacts [c, .finish (.event c.update _ _ _) _ _ _]

theorem Canon.optFollow (c : Canon s) {k} : Canon (s.optFollow k) := by
  unfold State.optFollow
  exact .ite (.ite c (.ite c c.toOff)) (.ite c (.ite (.ite c.toDepth (.ite c c.toDepth)) c))

theorem Canon.sendWidth (c : Canon s) {p mask cause} : Canon (s.sendWidth p mask cause) := by
  unfold State.sendWidth
  split
  next h1 =>
  exact .ctlSend (.updPort (.snd h1 c.draw) _ _)

theorem Canon.enterHold (c : Canon s) {p r d asn} : Canon (s.enterHold p r d asn) := by
  unfold State.enterHold
  refine .optFollow ?_
  split
  exacts [.sendWidth (.evUnit (.pairQuar (c.updPort _ _))), .evUnit (.pairQuar (c.updPort _ _))]

theorem Canon.replayBegin (c : Canon s) {p asn} : Canon (s.replayBegin p asn) := by
  unfold State.replayBegin
  extract_lets _ s1 s2
  have c1 : Canon s1 := c.setPort _ _
  have c2 : Canon s2 := .evUnit (c1.bump _ _ _ _)
  exact .ite c2.portDown c2

theorem Canon.askHold (c : Canon s) {p r d} : Canon (s.askHold p r d) := by
  unfold State.askHold
  exact .ctlSend (c.setPort _ _)

theorem Canon.startWidth (c : Canon s) {p mask cause} : Canon (s.startWidth p mask cause) := by
  unfold State.startWidth
  exact .ite (c.setPort _ _) (.ite (.askHold (c.setPort _ _)) (.ite (.sendWidth (c.setPort _ _)) (c.setPort _ _)))

theorem Canon.widthDone (c : Canon s) {p} : Canon (s.widthDone p) := by
  unfold State.widthDone
  extract_lets _ s1
  have c1 : Canon s1 := c.setPort _ _
  split
  exacts [.ite c1.wakePort c1, .startWidth (c.setPort _ _)]

theorem Canon.paceCheck (c : Canon s) {p v} : Canon (s.paceCheck p v) := by
  unfold State.paceCheck
  split
  exacts [c, .ite c.setPace c]

theorem Canon.pickArrive (c : Canon s) {p v pick} : Canon (s.pickArrive p v pick) := by
  unfold State.pickArrive
  extract_lets s1 _ _ _ s2 s3 s4
  have c1 : Canon s1 := .wake c.evPick _
  have c2 : Canon s2 := c1.update
  have c3 : Canon s3 := c2.setInq _ _ _
  have c4 : Canon s4 := .ite c3 (c3.updPort _ _)
  split
  · exact c4.paceCheck
  · exact .ite (.paceCheck (.updPid (.pickIn (c1.updPort _ _) _ _))) (.freePick (.updPid (c1.updPort _ _)))

theorem Canon.replayStart (c : Canon s) {p asn} : Canon (s.replayStart p asn) := by
  unfold State.replayStart
  exact .ite c c.replayBegin

theorem Canon.frameBad (c : Canon s) {p} : Canon (s.frameBad p) := .updPort (c.bump _ _ _ _) _ _

theorem Canon.frameGood (c : Canon s) {p f} : Canon (s.frameGood p f) := by
  unfold State.frameGood
  extract_lets s1 s2 _ s3
  have c1 : Canon s1 := c.updPort _ _
  have c2 : Canon s2 := .ite c1.replayStart c1
  have c3 : Canon s3 := c2.setPort _ _
  refine .ite c2 (.ite (.ite c2 (.ite (.foldl c3 fun _ _ c => ?_) (.ite c2 (c2.setPort _ _)))) (c2.setPort _ _))
  split
  exacts [c.pickArrive, c]

theorem keeps_execLinkFrameRx {p wrong bytes} : Keeps s (execLinkFrameRx p wrong bytes s) := by
  unfold execLinkFrameRx
  exact .ite (.next id) (.ite (.next fun c => c.frameBad) (.ite (.next fun c => c.bump _ _ _ _)
    (.next fun c => c.frameGood)))

theorem Canon.pktLeft (c : Canon s) {p v k} : Canon (s.pktLeft p v k) := by
  unfold State.pktLeft
  extract_lets s1
  have c1 : Canon s1 := .pktGone c.dropOut
  split
  exacts [c1.copyGone, c1]

theorem Canon.pickSend (c : Canon s) {p v} : Canon (s.pickSend p v).2 := by
  unfold State.pickSend
  split
  · exact c
  · extract_lets _ s1 s2 s3
    have c1 : Canon s1 := c.setOutq _ _ _
    have c2 : Canon s2 := .evPick (c1.updPort _ _)
    have c3 : Canon s3 := .ite c2 c2.freeOf
    exact .ite c3.pktLeft c3

theorem Canon.fillSlots (c : Canon s) {p n} : Canon (s.fillSlots p n).2 := by
  induction n generalizing s with
  | zero => exact c
  | succ n ih =>
    unfold State.fillSlots
    dsimp only
    split
    · exact c
    · split
      · exact Canon.pickSend (c.updPort _ _)
      · exact ih (Canon.pickSend (c.updPort _ _))

theorem Canon.creditWaits (c : Canon s) {p} : Canon (s.creditWaits p) := .foldl c fun _ _ c => .ite c.evPick c

theorem Canon.sendCtl (c : Canon s) {p} : Canon (s.sendCtl p) := by
  unfold State.sendCtl
  exact .sendFrame (c.setPort _ _)

theorem Canon.sendNew (c : Canon s) {p} : Canon (s.sendNew p) := by
  unfold State.sendNew
  refine .ite (.sendCtl c.creditWaits) ?_
  split
  next h1 =>
  exact .ite (.sendCtl (.snd h1 (.fillSlots c.creditWaits)))
    (.sendFrame (.setPort (.snd h1 (.fillSlots c.creditWaits)) _ _))

theorem keeps_execLinkFrameTx {p} : Keeps s (execLinkFrameTx p s) := by
  unfold execLinkFrameTx
  refine .ite (.next id) (.ite (.next fun c => c.sendCtl) ?_)
  split
  exacts [.next fun c => .sendFrame (c.setPort _ _), .next fun c => .sendNew (c.setPort _ _)]

theorem keeps_execRetryTimerExpire {p} : Keeps s (execRetryTimerExpire p s) := .next fun c => c.updPort _ _

theorem keeps_execLinkSilentTimeout {p} : Keeps s (execLinkSilentTimeout p s) := .next fun c => .ite c.portDown c

theorem keeps_execCtrlMsgResend {p typ} : Keeps s (execCtrlMsgResend p typ s) := by
  unfold execCtrlMsgResend
  extract_lets
  split
  exacts [.next fun c => .ite c (c.setPort _ _), .next id]

theorem Canon.sendParams (c : Canon s) {p typ} : Canon (s.sendParams p typ) := by
  unfold State.sendParams
  exact .ctlSend (c.updPort _ _)

theorem Canon.adopt (c : Canon s) {p m} : Canon (s.adopt p m) := by
  unfold State.adopt
  exact c.updPort _ _

theorem Canon.pairFwd (c : Canon s) {p} : Canon (s.pairFwd p) :=
  .ite (.ite (c.setRf _ _ _ _) (.pairEvent (c.setRf _ _ _ _))) c

theorem Canon.toTrain (c : Canon s) {p} : Canon (s.toTrain p) := by
  unfold State.toTrain
  extract_lets s1 s2 _ s3
  have c1 : Canon s1 := c.updPort _ _
  have c2 : Canon s2 := .ite c1 (c1.setRf _ _ _ _)
  have c3 : Canon s3 := .ite c2.toDepth (.wake (c2.wake _) _)
  exact c3.sendParams

theorem Canon.standbyHold (c : Canon s) {p} : Canon (s.standbyHold p) := by
  unfold State.standbyHold
  exact .optFollow (.setRf (.updPort (.ite c.portLeave c) _ _) _ _ _ _)

theorem Canon.linkUp (c : Canon s) {p} : Canon (s.linkUp p) := .ite c.standbyHold c.toTrain

theorem Canon.resyncLink (c : Canon s) {p msg} : Canon (s.resyncLink p msg) := by
  unfold State.resyncLink
  refine .uncut (.pairFwd (.updPort (.adopt (.foldl c.cutAll fun _ _ c => ?_)) _ _))
  split
  · refine .ite ?_ c
    extract_lets s1 s2
    have c1 : Canon s1 := .pktGone (c.setOutq _ _ _)
    have c2 : Canon s2 := .ite c1 c1.freeRest
    split
    exacts [c2.copyGone, c2]
  · exact c

theorem Canon.pairRelease (c : Canon s) {p} : Canon (s.pairRelease p) := .ite (c.setRf _ _ _ _) c

theorem Canon.holdExit (c : Canon s) {p} : Canon (s.holdExit p) := by
  unfold State.holdExit
  refine .ite c ?_
  split
  · exact .ite c (.ite c.resyncLink (.wake (c.wake _) _))
  · exact .ite c (.ite (.uncut (.pairRelease (c.setPort _ _))) (.wake (c.wake _) _))

theorem keeps_execLinkTrainStart {p} : Keeps s (execLinkTrainStart p s) :=
  .ite (.ite (.next fun c => .ite c.linkUp c) (.next fun c => .wake (c.wake _) _)) (.next id)

theorem keeps_execDownRetrainTimer {p} : Keeps s (execDownRetrainTimer p s) :=
  .ite (.ite (.next fun c => .ite c.linkUp c) (.next fun c => .wake (c.wake _) _)) (.next id)

theorem keeps_execTrainParams {p msg} : Keeps s (execTrainParams p msg s) := by
  unfold execTrainParams
  refine .ite (.next id) ?_
  split
  · exact .next fun c => c.ctlStale
  next h2 =>
    exact .ite (.next fun c => c.ctlTake h2) (.ite (.next fun c => .portDown (c.ctlTake h2))
      (.ite (.next fun c => .portDown (c.ctlTake h2)) (.next fun c => .ctlSend
      (.updPort (.adopt (c.ctlTake h2)) _ _))))

theorem keeps_execTrainAck {p msg} : Keeps s (execTrainAck p msg s) := by
  unfold execTrainAck
  split
  · exact .next id
  next h2 => exact .ite (.next fun c => .setPort (c.ctlTake h2) _ _) (.next fun c => c.ctlTake h2)

theorem keeps_execTrainComplete {p} : Keeps s (execTrainComplete p s) := by
  unfold execTrainComplete
  exact .ite (.next fun c => .uncut (.pairFwd (.ite (c.setPort _ _) (.setRf (c.setPort _ _) _ _ _ _)))) (.next id)

theorem keeps_execTrainTimeout {p} : Keeps s (execTrainTimeout p s) := .next fun c => .ite c.portDown c

theorem Canon.holdKeep (c : Canon s) : Canon s.holdKeep := .foldl c fun _ _ c => .ite (c.setRf _ _ _ _) c

theorem keeps_execHoldReq {p msg} : Keeps s (execHoldReq p msg s) := by
  unfold execHoldReq
  refine .ite (.next id) ?_
  split
  · exact .next fun c => c.ctlStale
  next h2 =>
    refine .ite ?_ (.ite (.ite (.next fun c => .optFollow (.updPort (.ctlNow (c.ctlTake h2)) _ _))
      (.next fun c => .ctlSend (c.ctlTake h2))) (.next fun c => c.ctlTake h2))
    split
    exact .ite (.next fun c => .enterHold (.ite (.ctlNow (c.ctlTake h2)) (.ctlSend (c.ctlTake h2))))
      (.next fun c => .ctlSend (c.ctlTake h2))

theorem keeps_execHoldAck {p msg} : Keeps s (execHoldAck p msg s) := by
  unfold execHoldAck
  split
  · exact .next id
  next h2 =>
    extract_lets
    split
    · exact .next fun c => c.ctlTake h2
    · exact .ite (.next fun c => .setPort (c.ctlTake h2) _ _)
        (.ite (.next fun c => .enterHold (c.ctlTake h2)) (.ite (.next fun c => .optFollow
        (.setPort (c.ctlTake h2) _ _)) (.next fun c => .setPort (c.ctlTake h2) _ _)))

theorem keeps_execWake {p msg} : Keeps s (execWake p msg s) := by
  unfold execWake
  split
  · exact .next fun c => c.ctlStale
  next h2 =>
    refine .ite (.next fun c => .withdrawRest (c.ctlTake h2)) (.ite ?_ (.next fun c => c.ctlTake h2))
    extract_lets _ s3 _ s4 s5
    have c3 : Canon s → Canon s3 := fun c => .updPort (.wake (.wake (c.ctlTake h2) _) _) _ _
    have c4 : Canon s → Canon s4 := fun c => .update (c3 c)
    have c5 : Canon s → Canon s5 := fun c => .ite (c4 c) (.updPort (.ctlSend (c4 c)) _ _)
    exact .next fun c => .holdExit (c5 c)

theorem keeps_execWakePatternDetect {p} : Keeps s (execWakePatternDetect p s) := by
  unfold execWakePatternDetect
  exact .ite (.next fun c => .updPort (.wake (.wake (.wake (.wake c.update _) _) _) _) _ _) (.next id)

theorem keeps_execHoldLimitExpire {p} : Keeps s (execHoldLimitExpire p s) := by
  unfold execHoldLimitExpire
  exact .ite (.next fun c => c.portDown) (.next id)

theorem keeps_execDownNotice {p msg} : Keeps s (execDownNotice p msg s) := by
  unfold execDownNotice
  split
  · exact .next id
  next h2 => exact .next fun c => .ite (.portDown (c.ctlTake h2)) (c.ctlTake h2)

theorem keeps_execResync {p msg} : Keeps s (execResync p msg s) := by
  unfold execResync
  split
  · exact .next fun c => c.ctlStale
  next h2 =>
    exact .ite (.next fun c => .holdExit (.updPort (.ite (c.ctlTake h2) (.sendParams (c.ctlTake h2))) _ _))
      (.next fun c => c.ctlTake h2)

theorem keeps_execWidth {p msg} : Keeps s (execWidth p msg s) := by
  unfold execWidth
  split
  · exact .next fun c => c.ctlStale
  next h2 =>
    extract_lets _ _ _ _ _ s3
    have c3 : Canon s → Canon s3 := fun c => .ctlSend (c.ctlTake h2)
    exact .ite (.next fun c => c.ctlTake h2) (.ite (.next fun c => .updPort (.ctlFrame (c.ctlTake h2)) _ _)
      (.ite (.next c3) (.ite (.ite (.next fun c => .updPort (.ctlFrame (c.ctlTake h2)) _ _) (.next c3))
      (.ite (.next fun c => .updPort (.ctlFrame (c.ctlTake h2)) _ _) (.next c3)))))

theorem keeps_execWidthAck {p msg} : Keeps s (execWidthAck p msg s) := by
  unfold execWidthAck
  split
  · exact .next id
  next h2 =>
    extract_lets _ s3
    have c3 : Canon s → Canon s3 := fun c => .setPort (c.ctlTake h2) _ _
    split
    · exact .next fun c => c.ctlTake h2
    · exact .ite (.next fun c => .holdExit (.widthDone (.updPort (c3 c) _ _)))
        (.next fun c => .widthDone (.ite (.testEnd (c3 c)) (c3 c)))

theorem keeps_execLaneRetire {p lane} : Keeps s (execLaneRetire p lane s) := by
  unfold execLaneRetire
  exact .ite (.ite (.next fun c => .portDown (c.setPort _ _))
    (.ite (.next fun c => c.setPort _ _) (.next fun c => .startWidth (c.setPort _ _)))) (.next id)

theorem Canon.retireWaiting (c : Canon s) {p} : Canon (s.retireWaiting p) := by
  unfold State.retireWaiting
  exact .ite c.startWidth c

theorem keeps_execLaneLendTimeout {p} : Keeps s (execLaneLendTimeout p s) := .next fun c => c.updPort _ _

theorem keeps_execPaceRx {p msg} : Keeps s (execPaceRx p msg s) := by
  unfold execPaceRx
  split
  · exact .next id
  next h2 => exact .next fun c => .updPort (c.ctlTake h2) _ _

theorem keeps_execPaceResend {p} : Keeps s (execPaceResend p s) := by
  unfold execPaceResend
  exact .next fun c => .foldl c fun _ _ c => c.paceSend

theorem keeps_execPaceRelease {p vc} : Keeps s (execPaceRelease p vc s) := by
  unfold execPaceRelease
  split
  exacts [.next id, .ite (.next fun c => c.setPace) (.next id)]

theorem keeps_execLinkRestTimer {p} : Keeps s (execLinkRestTimer p s) := by
  unfold execLinkRestTimer
  exact .ite (.next fun c => c.askHold) (.next id)

theorem keeps_execLinkDarkTimer {p} : Keeps s (execLinkDarkTimer p s) := by
  unfold execLinkDarkTimer
  exact .ite (.next fun c => c.askHold) (.next id)

theorem Canon.portDark (c : Canon s) {p} : Canon (s.portDark p) := by
  unfold State.portDark
  exact .ite c (.ite (.optFollow (c.updPort _ _)) (.optFollow c.portLeave))

theorem Canon.portCfgSet (c : Canon s) {p v} : Canon (s.portCfgSet p v).2 := by
  unfold State.portCfgSet
  iterate 8 refine .ite_snd c ?_
  extract_lets res
  have hres : ∀ t, res = some t → Canon t := by
    intro t e
    unfold res at e
    split at e
    · exact c.portReserve e
    · cases e; exact c
  clear_value res
  split
  · exact c
  next t =>
  have ct := hres t rfl
  extract_lets was s1 s2 s3 s4 s5
  have c1 : Canon s1 := .ite ct.portDark ct
  have c2 : Canon s2 := c1.setReg _ _
  have c3 : Canon s3 := .ite c2.portUnreserve c2
  have c4 : Canon s4 := .ite (c3.wake _) c3
  exact .uncut (.ite c4.pairFwd c4)

theorem Canon.portCreditSet (c : Canon s) {p ch v} : Canon (s.portCreditSet p ch v).2 := by
  unfold State.portCreditSet
  refine .ite_snd c (.ite_snd (c.setRf _ _ _ _) ?_)
  split
  · exact c
  next h2 => exact .setRf (.poolReserve c.poolRelease h2) _ _ _ _

theorem Canon.portSelSet (c : Canon s) {p v} : Canon (s.portSelSet p v).2 :=
  .ite_snd c (.ite_snd c (c.setRf _ _ _ _))

theorem Canon.portWrite {p : Nat} {r : Nat × State} (c : Canon s) (cr : Canon r.2) : Canon (s.portWrite p r) :=
  .ite cr.mirrorPorts (c.setRf _ _ _ _)

theorem keeps_execPortCfgWrite {path p v} : Keeps s (execPortCfgWrite path p v s) :=
  .ite (.next fun c => c.portWrite c.portCfgSet) (.next id)

theorem keeps_execPortCreditWrite {path p ch v} : Keeps s (execPortCreditWrite path p ch v s) :=
  .ite (.next fun c => c.portWrite c.portCreditSet) (.next id)

theorem keeps_execPortLinkErrClear {path p v} : Keeps s (execPortLinkErrClear path p v s) :=
  .ite (.next fun c => c.setReg _ _) (.next id)

theorem keeps_execPortQuarErrClear {path p v} : Keeps s (execPortQuarErrClear path p v s) :=
  .ite (.next fun c => c.setReg _ _) (.next id)

/-! ### Seq: sequence memory -/

theorem Canon.ownWindow (c : Canon s) {item image n0 dst} : Canon (s.ownWindow item image n0 dst).2 := by
  unfold State.ownWindow
  split
  · exact .ite_snd (.ite_snd (c.setSrc _ _) (.wcloseWhenDone (c.setSrc _ _))) (.ite_snd c c)
  · split
    · exact c
    · refine .ite_snd c ?_
      split
      next h1 =>
      split
      next h2 =>
      split
      next h3 =>
      split
      next h4 =>
      exact .updSrc (.wopen (.snd h4 (.draw (.snd h3 (.draw (.snd h2 (.draw (.snd h1 c.draw))))))))

theorem Canon.mirrorWindow (c : Canon s) : Canon s.mirrorWindow.2 := by
  unfold State.mirrorWindow
  extract_lets
  split
  · exact .ite_snd (.wcloseWhenDone (c.setSrc _ _)) c
  · split
    next h1 =>
    split
    next h2 =>
    split
    next h3 =>
    exact .wopen (.snd h3 (.draw (.snd h2 (.draw (.snd h1 c.draw)))))
  · exact c

theorem Canon.ownSend (c : Canon s) {n0 key w typ kind size op data} : Canon
    (s.ownSend n0 key w typ kind size op data).2 := by
  unfold State.ownSend
  refine .ite_snd ?_ c
  split
  next h1 =>
  exact .ite_snd (.sendReq (.snd h1 c.injBuffer)) (.snd h1 c.injBuffer)

theorem Canon.locGet (c : Canon s) {x l n} : Canon (s.locGet x l n).2 := by
  unfold State.locGet
  split
  exacts [c, c.memLoad, c]

theorem Canon.locPut (c : Canon s) {x l b} : Canon (s.locPut x l b) := by
  unfold State.locPut
  split
  exacts [c.benchPut, c.memStore _ _, c]

theorem Canon.locErr (c : Canon s) {l} : Canon (s.locErr l) := by
  unfold State.locErr
  split
  exacts [c.eccBump, c]

theorem Canon.moveOne (c : Canon s) {j i m} : Canon (s.moveOne j i m).2.2 := by
  unfold State.moveOne
  refine .ite_snd_snd c (.ite_snd_snd ?_ (.ite_snd_snd c (.ite_snd_snd c.locErr ?_)))
  · split
    · exact c
    next h2 => exact .ite_snd_snd (c.takeEnd h2) (.ite (.locPut (c.takeEnd h2)) (c.takeEnd h2))
  · split
    · split
      next h3 => exact .snd h3 c.ownWindow
      next h4 => exact .snd h4 c.ownWindow
      next h5 =>
        split
        next h6 =>
        exact .snd h6 (.ownSend (.snd h5 c.ownWindow))
    · split
      next h7 => exact .snd h7 c.ownWindow
      next h8 => exact .snd h8 c.ownWindow
      next h9 =>
        split
        next h10 =>
        split
        next h11 =>
        exact .snd h11 (.ownSend (.snd h10 (.locGet (.snd h9 c.ownWindow))))
    · split
      next h12 => exact .snd h12 c.mirrorWindow
      next h13 =>
        split
        next h14 =>
        split
        next h15 =>
        exact .snd h15 (.ownSend (.snd h14 (.locGet (.snd h13 c.mirrorWindow))))
    · split
      next h16 =>
      exact .locPut (.snd h16 c.locGet)

theorem Canon.moveAll (c : Canon s) {j i l} : Canon (s.moveAll j i l).2.2 := by
  induction l generalizing s i with
  | nil => exact c
  | cons m r ih => exact ih (c.moveOne (j := j) (i := i) (m := m))

theorem Ctx.copies_follow_reset {x : Ctx} {f : Copy → Copy} (h : { x with copies := x.copies.map f } = ctxReset) :
    x = ctxReset := by
  have hc : x.copies = [] := List.map_eq_nil_iff.mp (congrArg Ctx.copies h)
  rw [← h, hc]
  cases x
  cases hc
  rfl

theorem tabWfFrom_map {α : Type} [DecidableEq α] {d : Nat → α} {f : α → α} (hf : ∀ k v, f v = d k → v = d k)
    {t : Tab α} {lo : Nat} (w : tabWfFrom d lo t = true) :
    tabWfFrom d lo (t.map fun e => (e.1, f e.2)) = true := by
  induction t generalizing lo with
  | nil => rfl
  | cons e r ih =>
    simp only [tabWfFrom, List.map_cons, Bool.and_eq_true, decide_eq_true_eq] at w ⊢
    exact ⟨⟨w.1.1, fun h => w.1.2 (hf _ _ h)⟩, ih w.2⟩

theorem Canon.follow (c : Canon s) {o n} : Canon (s.follow o n) := by
  obtain ⟨hregs, hports, hpools, hgroups, hmem, hctxs, hcarts⟩ := c
  exact ⟨hregs, hports, hpools, hgroups, hmem, tabWfFrom_map (fun _ _ => Ctx.copies_follow_reset) hctxs, hcarts⟩

theorem Canon.setFrame (c : Canon s) {f u} : Canon (s.setFrame f u) := by
  unfold State.setFrame
  exact c.update

theorem Canon.takeFrame (c : Canon s) {n u} : Canon (s.takeFrame n u).2 := by
  unfold State.takeFrame
  split
  next h1 =>
  exact .setFrame (.snd h1 c.draw)

theorem Canon.setPte (c : Canon s) {n lpn e} : Canon (s.setPte n lpn e) := by
  unfold State.setPte
  split
  exacts [c, .mirrorPte (c.memPut _ _)]

theorem Canon.allocLocal (c : Canon s) {n pref f t} (e : s.allocLocal n pref = some (f, t)) : Canon t := by
  obtain ⟨k, -, e⟩ := Option.map_eq_some_iff.mp e
  cases e
  exact c.takeFrame.setRf _ _ _ _

theorem Canon.askLend (c : Canon s) {item image n0 key n} : Canon (s.askLend item image n0 key n) := by
  unfold State.askLend
  refine .ite c ?_
  extract_lets
  split
  next h1 => exact .snd h1 c.ownWindow
  next h2 => exact .update (.snd h2 c.ownWindow)
  next h3 =>
    split
    next h4 =>
    exact .ite (.update (.snd h4 (.ownSend (.snd h3 c.ownWindow)))) (.snd h4 (.ownSend (.snd h3 c.ownWindow)))

theorem Canon.queueReturn (c : Canon s) {eid fs} : Canon (s.queueReturn eid fs) := by
  unfold State.queueReturn
  exact .ite c c.update

theorem Canon.lendSettle (c : Canon s) : Canon s.lendSettle := by
  unfold State.lendSettle
  refine .foldl c fun _ _ c => ?_
  split
  exacts [.ite (.queueReturn c.update) c.update.update, c]

theorem Canon.needL2 (c : Canon s) {n lpn k t} (e : s.needL2 n lpn k = some t) : Canon t := by
  unfold State.needL2 at e
  split at e
  · cases e; exact c
  · obtain ⟨⟨f, u⟩, hu, e⟩ := Option.map_eq_some_iff.mp e
    cases e
    exact (((c.allocLocal hu).memClear _ _).setReg _ _).mirrorSlot

theorem Canon.allocPage (c : Canon s) {q n lpn} : Canon (s.allocPage q n lpn).2 := by
  unfold State.allocPage
  split
  next h1 => exact .setPte (c.allocLocal h1)
  · refine .ite_snd ?_ c
    split
    exacts [.setPte (.setRf c.update _ _ _ _), .ite_snd c.update c.askLend]

theorem Canon.seqFail (c : Canon s) {st} : Canon (s.seqFail st) := .ite (c.bump _ _ _ _) (.ite (c.bump _ _ _ _) c)

theorem Canon.translate (c : Canon s) {q n layer token byte size append} : Canon
    (s.translate q n layer token byte size append).2 := by
  unfold State.translate
  refine .ite_snd c (.ite_snd c (.ite_snd c.seqFail (.ite_snd c ?_)))
  extract_lets
  split
  · exact c.seqFail
  next h2 =>
    split
    next h3 =>
    split
    · exact .seqFail (.snd h3 (.ite_snd (c.needL2 h2) (.allocPage (.lendSettle (c.needL2 h2)))))
    · exact .snd h3 (.ite_snd (c.needL2 h2) (.allocPage (.lendSettle (c.needL2 h2))))
    · refine .ite_snd (.seqFail (.snd h3 (.ite_snd (c.needL2 h2) (.allocPage (.lendSettle (c.needL2 h2))))))
        (.ite_snd c (.ite_snd (.snd h3 (.ite_snd (c.needL2 h2) (.allocPage (.lendSettle (c.needL2 h2))))) ?_))
      split
      · exact .updItem (.snd h3 (.ite_snd (c.needL2 h2) (.allocPage (.lendSettle (c.needL2 h2)))))
      · exact .snd h3 (.ite_snd (c.needL2 h2) (.allocPage (.lendSettle (c.needL2 h2))))

theorem Canon.translateAll (c : Canon s) {q slot layer byte size app n token} :
    Canon (s.translateAll q slot layer byte size app n token).2.2 := by
  induction n generalizing s token with
  | zero => exact c
  | succ n ih =>
    have ct := c.translate (q := q) (n := slot) (layer := layer) (token := token) (byte := byte) (size := size)
      (append := app)
    unfold State.translateAll
    split
    · exact ih (.snd ‹_› ct)
    · exact .snd ‹_› ct

theorem Canon.markLost (c : Canon s) {eid frame} : Canon (s.markLost eid frame) :=
  .foldl c fun _ _ c => .foldl c fun _ _ c' => .ite c'.setPte c'

theorem Canon.raiseLen (c : Canon s) {n l len} : Canon (s.raiseLen n l len) := .ite (c.setRf _ _ _ _) c

theorem Canon.seqEnd (c : Canon s) {src status reply} : Canon (s.seqEnd src status reply) :=
  .answer (c.setRf _ _ _ _)

theorem Canon.slotOpen (c : Canon s) {any slot d} : Canon (s.slotOpen any slot d).2.2 := by
  unfold State.slotOpen
  exact .ite_snd_snd c (.ite_snd_snd c (.ite_snd_snd c (.ite_snd_snd c
    (.clearRegs (.update (.setReg (.setReg (.setReg (.setReg
    (.setRf (.setRf (.setRf (c.setRegs _ _) _ _ _ _) _ _ _ _) _ _ _ _) _ _) _ _) _ _) _ _)) _))))

theorem keeps_execSlotOpen {src} : Keeps s (execSlotOpen src s) := by
  unfold execSlotOpen
  split
  · split
    · exact .next id
    · split
      next h1 =>
      extract_lets s2
      have c2 : Canon s → Canon s2 := fun c => .setRf (.snd_snd h1 c.slotOpen) _ _ _ _
      exact .next fun c => .seqEnd (.ite (.mirrorSlot (c2 c)) (c2 c))
  · split
    · exact .next id
    · refine .ite (.next fun c => c.seqEnd) ?_
      extract_lets
      split
      next h3 =>
      extract_lets s4
      have c4 : Canon s → Canon s4 := fun c => .setRf (.setRf (.snd_snd h3 c.slotOpen) _ _ _ _) _ _ _ _
      exact .ite (.next fun c => .mirrorAnswer (c4 c)) (.next fun c => .answer (c4 c))

theorem Canon.slotRelease (c : Canon s) {n} : Canon (s.slotRelease n).2 := .ite_snd c (c.setRf _ _ _ _)

theorem keeps_execSlotRelease {src} : Keeps s (execSlotRelease src s) := by
  unfold execSlotRelease
  split
  · split
    · exact .next id
    · split
      next h1 =>
      exact .next fun c => .seqEnd (.ite (.mirrorSlot (.snd h1 c.slotRelease)) (.snd h1 c.slotRelease))
  · split
    · exact .next id
    · refine .ite (.next fun c => c.seqEnd) ?_
      extract_lets
      split
      next h2 =>
      extract_lets s3
      have c3 : Canon s → Canon s3 := fun c => .setRf (.snd h2 c.slotRelease) _ _ _ _
      exact .ite (.next fun c => .mirrorAnswer (c3 c)) (.next fun c => .answer (c3 c))

theorem Canon.slotStill (c : Canon s) {n} : Canon (s.slotStill n) := by
  unfold State.slotStill
  refine .update ?_
  split
  exacts [.ite c.queueReturn c, c]

theorem Canon.slotFree (c : Canon s) {n} : Canon (s.slotFree n) := by
  unfold State.slotFree
  exact .mirrorSlot (.setRf (.setReg (.setReg (.clearRegs (.update
    (.queueReturn (.foldl (.foldl c.slotStill fun _ _ c => c.mirrorPte) fun _ _ c =>
    c.queueReturn))) _) _ _) _ _) _ _ _ _)

theorem Canon.sendReturns (c : Canon s) : Canon s.sendReturns := by
  unfold State.sendReturns
  split
  · exact c
  · refine .foldl c fun _ _ c => ?_
    extract_lets
    split
    next h1 => exact .snd h1 c.ownWindow
    next h2 => exact .bump (.update (.snd h2 c.ownWindow)) _ _ _ _
    next h3 =>
      split
      next h4 =>
      exact .ite (.update (.snd h4 (.ownSend (.snd h3 c.ownWindow)))) (.snd h4 (.ownSend (.snd h3 c.ownWindow)))

theorem keeps_execEvacuate {src} : Keeps s (execEvacuate src s) := by
  unfold execEvacuate
  split
  · exact .next id
  · exact .ite (.next fun c => c.seqEnd) (.ite (.next fun c => c.seqEnd)
      (.ite (.next fun c => c.seqEnd) (.next fun c => .seqEnd (.setReg c.update _ _))))

theorem Canon.evacEnd (c : Canon s) {e status} : Canon (s.evacEnd e status) := by
  unfold State.evacEnd
  exact .event (.setRf c.update _ _ _ _) _ _ _

theorem Canon.oldFrame (c : Canon s) {f n} : Canon (s.oldFrame f n) := by
  unfold State.oldFrame
  exact .ite (.setFrame (c.setRf _ _ _ _)) (.update (.setFrame (c.setRf _ _ _ _)))

theorem Canon.asideUsed (c : Canon s) : Canon s.asideUsed := by
  unfold State.asideUsed
  exact c.update

theorem Canon.evacLocal (c : Canon s) {f n lpn l2 g} : Canon (s.evacLocal f n lpn l2 g) := by
  unfold State.evacLocal
  exact .oldFrame (.follow (.ite (.mirrorSlot (.setRf (c.memPut _ _) _ _ _ _)) (.setPte (c.memPut _ _))))

theorem Canon.nextMove (c : Canon s) : Canon s.nextMove := by
  unfold State.nextMove
  exact c.update

theorem Canon.evacCarry (c : Canon s) {e p} : Canon (s.evacCarry e p) := by
  unfold State.evacCarry
  split
  · exact c
  · split
    next h1 =>
    exact .ite (.evacEnd (.queueReturn (.setPte (.snd_snd h1 c.moveAll))))
      (.ite (.update (.oldFrame (.follow (.setRf (.setPte (.snd_snd h1 c.moveAll)) _ _ _ _))))
      (.update (.snd_snd h1 c.moveAll)))

theorem Canon.evacRemote (c : Canon s) {e f n lpn} : Canon (s.evacRemote e f n lpn) := by
  unfold State.evacRemote
  split
  · exact c
  · extract_lets s1 _ s2 s3
    have c1 : Canon s1 := c.lendSettle
    have c2 : Canon s2 := c1.update
    have c3 : Canon s3 := c2.setPte
    split
    exacts [.evacCarry c3.nextMove, .ite (.evacEnd c1.update) c1.askLend]

theorem keeps_execEvacPageMoved : Keeps s (execEvacPageMoved s) := by
  unfold execEvacPageMoved
  split
  · exact .next id
  · split
    · exact .next fun c => c.evacCarry
    · refine .ite (.next fun c => c.evacEnd) ?_
      split
      · exact .next fun c => .ite c.evacEnd c
      · extract_lets
        split
        · split
          next h1 =>
          extract_lets s2
          have c2 : Canon s → Canon s2 := fun c => .evacLocal (.setRf (.snd h1 c.takeFrame) _ _ _ _)
          exact .next fun c => .ite (c2 c) (.asideUsed (c2 c))
        · exact .next fun c => .ite c.evacRemote c

theorem keeps_execEvacOldFrameFree {frame} : Keeps s (execEvacOldFrameFree frame s) := by
  unfold execEvacOldFrameFree
  split
  exacts [.next id, .ite (.next fun c => .setFrame c.update) (.next id)]

theorem keeps_execEvacAbort {src} : Keeps s (execEvacAbort src s) := by
  unfold execEvacAbort
  split
  · exact .next id
  · split
    exacts [.next fun c => c.seqEnd, .next fun c => .seqEnd (.ite (.evacEnd c.update) c.update)]

theorem keeps_execAllocBack {src} : Keeps s (execAllocBack src s) := by
  unfold execAllocBack
  split
  · exact .next id
  · exact .ite (.next fun c => c.seqEnd) (.next fun c => .seqEnd c.update)

theorem Canon.bringEnd (c : Canon s) {b status} : Canon (s.bringEnd b status) := by
  unfold State.bringEnd
  refine .event ?_ _ _ _
  split
  exacts [.finish (.setRf c.update _ _ _ _) _ _ _, .setRf c.update _ _ _ _]

theorem Canon.setBring (c : Canon s) {b} : Canon (s.setBring b) := by
  unfold State.setBring
  exact c.update

theorem Canon.bringNext (c : Canon s) {b} : Canon (s.bringNext b) := by
  unfold State.bringNext
  refine .ite c.bringEnd (.ite c ?_)
  split
  · exact c.bringEnd
  · refine .ite c.bringEnd (.ite c ?_)
    split
    split
    · exact c.bringEnd
    · split
      next h1 =>
      exact .setBring (.nextMove (.setPte (.snd h1 c.takeFrame)))

theorem Canon.bringCarry (c : Canon s) {b p} : Canon (s.bringCarry b p) := by
  unfold State.bringCarry
  split
  · exact c
  · extract_lets
    split
    next h1 =>
    exact .ite (.bringEnd (.setPte (.setFrame (.snd_snd h1 c.moveAll))))
      (.ite (.bringNext (.setBring (.sendReturns (.queueReturn
      (.setRf (.setRf (.follow (.setPte (.setFrame (.snd_snd h1 c.moveAll)))) _ _ _ _) _ _ _ _)))))
      (.setBring (.snd_snd h1 c.moveAll)))

theorem keeps_execRecall {src} : Keeps s (execRecall src s) := by
  unfold execRecall
  split
  · exact .next id
  · refine .ite (.next fun c => c.seqEnd) ?_
    extract_lets tag s1 b
    clear_value tag
    have h1 : Canon s → Canon s1 := by
      intro c
      unfold s1
      split
      exacts [c.hold _, c]
    exact .next fun c => .bringNext (.update (h1 c))

theorem Canon.retSettle (c : Canon s) : Canon s.retSettle := by
  unfold State.retSettle
  exact .bump c.update _ _ _ _

theorem Canon.ownClose (c : Canon s) : Canon s.ownClose := by
  unfold State.ownClose
  exact .ite c (.foldl c fun _ _ c => .ite c.wclose (.ite (c.setSrc _ _) c))

theorem Canon.evacStep (c : Canon s) : Canon s.evacStep := by
  unfold State.evacStep
  split
  · split
    exacts [c.evacCarry, c]
  · exact c

theorem Canon.bringStep (c : Canon s) : Canon s.bringStep := by
  unfold State.bringStep
  refine .foldl c fun _ _ c => ?_
  split
  exacts [c.bringCarry, c.bringNext]

theorem Canon.moveSettle (c : Canon s) : Canon s.moveSettle := by
  unfold State.moveSettle
  exact c.update

theorem Canon.ownStep (c : Canon s) : Canon s.ownStep :=
  .ownClose (.sendReturns (.retSettle (.bringStep (.evacStep (.moveSettle c.lendSettle)))))

theorem keeps_execSlotReleaseDone {slot} : Keeps s (execSlotReleaseDone slot s) :=
  .ite (.next fun c => .ownStep c.slotFree) (.next id)

theorem keeps_execRecallPageDone {slot} : Keeps s (execRecallPageDone slot s) := .next fun c => .ite c.ownStep c

theorem keeps_execReclaim {src} : Keeps s (execReclaim src s) := by
  unfold execReclaim
  split
  · exact .next id
  · exact .ite (.next fun c => c.seqEnd) (.next fun c => .seqEnd c.update)

theorem Canon.regionSet (c : Canon s) {v} : Canon (s.regionSet v) := by
  unfold State.regionSet
  exact .update (c.setReg _ _)

theorem keeps_execSeqRegionWrite {path v} : Keeps s (execSeqRegionWrite path v s) :=
  .ite (.ite (.next id) (.ite (.next fun c => c.regionSet) (.next fun c => c.setRf _ _ _ _))) (.next id)

theorem keeps_execServiceReloadDone : Keeps s (execServiceReloadDone s) := by
  unfold execServiceReloadDone
  refine .ite ?_ (.next id)
  extract_lets _ s1
  have c1 : Canon s → Canon s1 := fun c => c.update
  split
  next _ _ h =>
  refine .next fun c => .fst h (.foldl_fst (c1 c) fun _ _ c => ?_)
  split
  · exact .ite_fst (.setImage (.memPut (.memClear (c.memPut _ _) _ _) _ _) _ _) c
  · exact c

theorem keeps_execSeqErrClear {path v} : Keeps s (execSeqErrClear path v s) :=
  .ite (.next fun c => .setReg (c.setReg _ _) _ _) (.next id)

/-! ### Shed: work items and the shed scheduler -/

theorem Canon.setDfc (c : Canon s) {n0 q v} : Canon (s.setDfc n0 q v) := by
  unfold State.setDfc
  exact c.update

theorem Canon.newDesc (c : Canon s) {n0} : Canon (s.newDesc n0).2 := by
  unfold State.newDesc
  split
  next h1 =>
  exact .snd h1 c.draw

theorem Canon.wakeItem (c : Canon s) {form q n0} : Canon (s.wakeItem form q n0) := .wake (.ite c (c.wake _)) _

theorem Canon.queueItem (c : Canon s) {r im entry q n0} : Canon (s.queueItem r im entry q n0) := by
  unfold State.queueItem
  split
  next h1 =>
  exact .wakeItem (.update (.snd h1 c.newDesc))

theorem Canon.takeCall (c : Canon s) {r fabric} : Canon (s.takeCall r fabric).2 := by
  unfold State.takeCall
  split
  · exact c
  · extract_lets
    split
    · exact c
    · refine .ite_snd c (.ite_snd c ?_)
      split
      · exact c
      · refine .ite_snd c (.ite_snd c (.ite_snd c (.ite_snd c ?_)))
        extract_lets
        split
        · exact c
        · split
          exacts [c.bump _ _ _ _, .queueItem (.ite c (.evClu (c.bump _ _ _ _)))]

theorem Canon.localDone (c : Canon s) {x item block form payload status} : Canon
    (s.localDone x item block form payload status) := by
  unfold State.localDone
  exact .ite c (.updCtx (.ite (.benchPut c.benchPut) (.noteFail (.benchPut c.benchPut))) _ _)

theorem Canon.callDone (c : Canon s) {it status a0 a1 a2 payload} : Canon (s.callDone it status a0 a1 a2 payload) :=
  by
  unfold State.callDone
  extract_lets
  split
  exacts [c.emit _ _, c.localDone, c]

theorem Canon.closeWindows (c : Canon s) {item} : Canon (s.closeWindows item) := by
  unfold State.closeWindows
  exact .foldl c fun _ _ c => .ite (.wcloseWhenDone (c.setSrc _ _)) (.ite (c.setSrc _ _) (.ite (c.setSrc _ _) c))

theorem Canon.callBuf (c : Canon s) {x image buf} : Canon (s.callBuf x image buf) := by
  unfold State.callBuf
  split
  · extract_lets k im s1
    clear_value im
    have c1 : Canon s1 := c.poolFree
    split
    exacts [c1.joinsGo, c1]
  · exact c

theorem Canon.windowRest (c : Canon s) {it} : Canon (s.windowRest it) := by
  unfold State.windowRest
  split
  · exact .ite (.foldl c fun _ _ c => .poolRelease c.poolFreeAll) c.winSync
  · exact c.callBuf
  · exact c.callBuf

theorem Canon.charge (c : Canon s) {n0 q} : Canon (s.charge n0 q) := by
  unfold State.charge
  split
  next h1 =>
  exact .setDfc (.snd h1 c.draw)

theorem Canon.idleDef (c : Canon s) {n0 q} : Canon (s.idleDef n0 q) := .ite c.setDfc c

theorem Canon.onShuttle (c : Canon s) {x} : Canon (s.onShuttle x) := by
  unfold State.onShuttle
  exact c.update

theorem Canon.unready (c : Canon s) {x} : Canon (s.unready x) := by
  unfold State.unready
  exact c.update

theorem Canon.ready (c : Canon s) {x} : Canon (s.ready x) := by
  unfold State.ready
  exact c.unready.update

theorem Canon.takeSample (c : Canon s) {x pc} : Canon (s.takeSample x pc) := by
  unfold State.takeSample
  split
  · exact .ite (c.updCtx _ _) (.ite (.bump (c.updCtx _ _) _ _ _ _) (.setRf (.setRegs (c.updCtx _ _) _ _) _ _ _ _))
  · exact c

theorem Canon.nextClaim (c : Canon s) {n} : Canon (s.nextClaim n) := by
  unfold State.nextClaim
  refine .ite c ?_
  extract_lets live _ s1
  clear_value live
  have c1 : Canon s1 := c.update
  split
  exacts [c1, c1.update]

theorem Canon.asideDone (c : Canon s) {it} : Canon (s.asideDone it) := by
  unfold State.asideDone
  exact .nextClaim c.update

theorem Canon.itemGone (c : Canon s) {it} : Canon (s.itemGone it) := by
  unfold State.itemGone
  refine .windowRest (.closeWindows (.asideDone (.idleDef ?_)))
  split
  · exact .update (.poolFreeAll (.charge (.unready (.setCtx c.update _ _))))
  · exact c.update

theorem Canon.endItem (c : Canon s) {it status a0 a1 a2 payload} : Canon (s.endItem it status a0 a1 a2 payload) :=
  by
  unfold State.endItem
  refine .itemGone (.callDone ?_)
  split
  exacts [c.takeSample, c]

theorem Canon.trapItem (c : Canon s) {x cause op addr status} : Canon (s.trapItem x cause op addr status) := by
  unfold State.trapItem
  split
  exacts [c, c.endItem]

theorem Canon.goOn (c : Canon s) {x op} : Canon (s.goOn x op) := by
  unfold State.goOn
  extract_lets
  split
  exacts [c, .ite c.trapItem (.ready (c.setCtx _ _))]

theorem Canon.pickQueue (c : Canon s) {n p r level} : Canon (s.pickQueue n p r level).2 := by
  unfold State.pickQueue
  extract_lets k s1 ok ptr q
  have c1 : Canon s1 := .ite c (.foldl c fun _ _ c => c.setDfc)
  clear_value q
  split
  exacts [c1.update, c1]

theorem Canon.nextItem (c : Canon s) {a l} : Canon (s.nextItem a l).2 := by
  induction l generalizing s with
  | nil => exact c
  | cons p r ih =>
    unfold State.nextItem
    refine .ite_snd (ih c) ?_
    split <;> exact .snd ‹_› c.pickQueue

theorem Canon.startItem (c : Canon s) {it n0 i} : Canon (s.startItem it n0 i) := by
  unfold State.startItem
  split
  exacts [.evClu (.ready (.setCtx (.asideDone c.updItem) _ _)), c]

theorem keeps_execWorkItemDispatch {n0} : Keeps s (execWorkItemDispatch n0 s) := by
  unfold execWorkItemDispatch
  refine .ite ?_ (.next id)
  split
  next h1 => exact .next fun c => .snd h1 c.nextItem
  next h2 =>
    split
    · exact .ite (.next fun c => .endItem (.snd h2 c.nextItem))
        (.next fun c => .wakeItem (.startItem (.snd h2 c.nextItem)))
    · exact .next fun c => .wakeItem (.startItem (.snd h2 c.nextItem))

theorem keeps_execBenchWaitExpire {n0 q} : Keeps s (execBenchWaitExpire n0 q s) := by
  unfold execBenchWaitExpire
  split
  · exact .next id
  · exact .ite (.next fun c => .nextClaim c.update) (.next id)

theorem keeps_execRunLimitExpire {x} : Keeps s (execRunLimitExpire x s) := by
  unfold execRunLimitExpire
  split
  exacts [.next id, .next fun c => .endItem (c.bump _ _ _ _)]

theorem Canon.queueWord1 (c : Canon s) {q v} : Canon (s.queueWord1 q v).2 := .ite_snd c (c.setReg _ _)

theorem Canon.queueWord0 (c : Canon s) {q v} : Canon (s.queueWord0 q v).2 := by
  unfold State.queueWord0
  exact .ite_snd c (.ite_snd (.ite_snd c (.ite_snd c (c.setReg _ _))) (.ite_snd (.setReg (c.setReg _ _) _ _) c))

theorem keeps_execQueueWrite {src} : Keeps s (execQueueWrite src s) := by
  unfold execQueueWrite
  split
  next path a v =>
    extract_lets n o
    refine .ite ?_ (.next id)
    extract_lets
    split
    next st t h =>
    have ct : Canon s → Canon t := fun c => .snd h (.ite_snd c.queueWord1 (.ite_snd c.queueWord0 c))
    exact .ite (.next ct) (.next fun c => c.setRf _ _ _ _)
  next tag =>
    split
    · exact .next id
    refine .ite (.next fun c => c.finish _ _ _) ?_
    extract_lets q w0 w1 no
    have hno {t st} (ct : Canon s → Canon t) : Keeps s (no t st) :=
      .next fun c => .finish (.setRf (ct c) _ _ _ _) _ _ _
    split
    next st t h =>
    have ct : Canon s → Canon t := fun c => .snd h c.queueWord1
    refine .ite (hno id) ?_
    split
    next st' u h' =>
    exact .ite (.next fun c => .finish (.snd h' (ct c).queueWord0) _ _ _) (hno ct)

theorem keeps_execShedErrClear {path n0 v} : Keeps s (execShedErrClear path n0 v s) :=
  .ite (.next fun c => c.setReg _ _) (.next id)

/-! ### Flow: windows at the destination and what they perform -/

theorem Canon.setWin (c : Canon s) {w} : Canon (s.setWin w) := by
  unfold State.setWin
  exact c.update

theorem Canon.reorderUse (c : Canon s) {i f} : Canon (s.reorderUse i f) := by
  unfold State.reorderUse
  split
  exacts [c.setImage _ _, c]

theorem Canon.takeReorder (c : Canon s) {dst o t} (e : s.takeReorder dst = some (o, t)) : Canon t := by
  unfold State.takeReorder at e
  split at e
  · split at e
    · cases e; exact c.reorderUse
    · split at e <;> cases e
      exact c
  · split at e <;> cases e
    exact c

theorem Canon.grant (c : Canon s) {n0 a1 pkts req rsp spray status} : Canon
    (s.grant n0 a1 pkts req rsp spray status) := c.emit _ _

theorem keeps_execWopen {port pkt} : Keeps s (execWopen port pkt s) := by
  unfold execWopen
  split
  next ok s1 h =>
  have c1 : Canon s → Canon s1 := fun c => .snd h (c.sink _ _ _)
  have hgrant {cl r n1 n2 n3 b st} : Keeps s (.next (s1.grant cl r n1 n2 n3 b st)) := .next fun c => (c1 c).grant
  refine .ite (.next c1) ?_
  extract_lets
  refine .ite hgrant (.ite hgrant (.ite hgrant ?_))
  extract_lets
  split
  · exact hgrant
  next s2 h2 =>
  have c2 : Canon s → Canon s2 := fun c => (c1 c).poolReserve h2
  clear hgrant
  split
  next spray img s3 h3 =>
  have c3 : Canon s → Canon s3 := by
    intro c
    split at h3
    next e =>
      cases h3
      split at e
      · exact (c2 c).takeReorder e
      · cases e
    · cases h3
      exact c2 c
  extract_lets n w _ s4 s5
  exact .next fun c => .grant (.ite ((c3 c).update.evDev _ _) (.ite ((c3 c).update.evDev _ _) (c3 c).update))

theorem Canon.winEnd (c : Canon s) {w} : Canon (s.winEnd w) := by
  unfold State.winEnd
  refine .winSync ?_
  split
  exacts [.reorderUse c.update, c.update]

theorem keeps_execWclose {port pkt} : Keeps s (execWclose port pkt s) := by
  unfold execWclose
  split
  next h1 =>
  refine .ite (.next fun c => .snd h1 (c.sink _ _ _)) ?_
  split
  exacts [.next fun c => .winEnd (.snd h1 (c.sink _ _ _)), .next fun c => .snd h1 (c.sink _ _ _)]

theorem keeps_execWinIdleExpire {src dst flow} : Keeps s (execWinIdleExpire src dst flow s) := by
  unfold execWinIdleExpire
  split
  exacts [.next fun c => .bump c.winEnd _ _ _ _, .next id]

theorem Canon.respond (c : Canon s) {n0 typ a1 op data} : Canon (s.respond n0 typ a1 op data) := by
  unfold State.respond
  exact .ite (c.emit _ _) (.winSync (c.emit _ _))

theorem Canon.performM (c : Canon s) {n0 typ a1 data} : Canon (s.performM n0 typ a1 data) := by
  unfold State.performM
  refine .ite (.respond (.ite c (c.bump _ _ _ _))) (.ite ?_
    (.ite (.respond (c.memStore _ _)) (.respond (c.memStore _ _))))
  split
  next h1 =>
  exact .respond (.snd h1 c.memLoad)

theorem Canon.performCall (c : Canon s) {w a0 data} : Canon (s.performCall w a0 data) := by
  unfold State.performCall
  extract_lets
  split
  next h1 =>
  exact .ite (.snd h1 c.takeCall) (.respond (.snd h1 c.takeCall))

theorem Canon.perform (c : Canon s) {w a0 data} : Canon (s.perform w a0 data) := .ite c.performCall c.performM

theorem Canon.winLoop (c : Canon s) {n w} : Canon (State.winLoop n s w).1 := by
  induction n generalizing s w with
  | zero => exact c
  | succ n ih =>
    unfold State.winLoop
    split
    exacts [c, ih c, ih c.perform]

theorem Canon.winArrive (c : Canon s) {w pkt} : Canon (s.winArrive w pkt) := by
  unfold State.winArrive
  refine .ite (.bump c.setWin _ _ _ _) (.ite (.bump c.setWin _ _ _ _) ?_)
  split
  next h1 =>
  split
  next h2 =>
  exact .winSync (.setWin (.fst h2 (.winLoop (.fst h1 (.ite_fst c c.perform)))))

theorem Canon.request (c : Canon s) {port typ pkt} : Canon (s.request port typ pkt) := by
  unfold State.request
  split
  next h1 =>
  refine .ite (.snd h1 (c.sink _ _ _)) ?_
  split
  exacts [.bump (.snd h1 (c.sink _ _ _)) _ _ _ _, .winArrive (.snd h1 (c.sink _ _ _))]

theorem keeps_execPut {port pkt} : Keeps s (execPut port pkt s) := .next fun c => c.request

theorem keeps_execGet {port pkt} : Keeps s (execGet port pkt s) := .next fun c => c.request

theorem keeps_execAtomic {port pkt} : Keeps s (execAtomic port pkt s) := .next fun c => c.request

theorem keeps_execCall {port pkt} : Keeps s (execCall port pkt s) := .next fun c => c.request

theorem keeps_execMirror {port pkt} : Keeps s (execMirror port pkt s) := .next fun c => c.request

theorem keeps_execMigrate {port pkt} : Keeps s (execMigrate port pkt s) := .next fun c => c.request

theorem keeps_execReorderTimeout {src dst flow} : Keeps s (execReorderTimeout src dst flow s) := by
  unfold execReorderTimeout
  split
  · exact .next id
  · exact .ite (.next fun c => .winSync (.setWin (c.bump _ _ _ _))) (.next id)

theorem Canon.mirrorPush (c : Canon s) : Canon s.mirrorPush := by
  unfold State.mirrorPush
  refine .ite c (.foldl c fun _ _ c => ?_)
  extract_lets
  split
  next h1 =>
  exact .update (.snd_snd h1 c.moveOne)

theorem Canon.response (c : Canon s) {port typ pkt} : Canon (s.response port typ pkt) := by
  unfold State.response
  split
  next h1 =>
  exact .ite (.snd h1 (c.sink _ _ _)) (.ite (.update (.snd h1 (c.sink _ _ _)))
    (.mirrorPush (.ownStep (.opEnd (.snd h1 (c.sink _ _ _))))))

theorem keeps_execPutAck {port pkt} : Keeps s (execPutAck port pkt s) := .next fun c => c.response

theorem keeps_execGetData {port pkt} : Keeps s (execGetData port pkt s) := .next fun c => c.response

theorem keeps_execAtomicRsp {port pkt} : Keeps s (execAtomicRsp port pkt s) := .next fun c => c.response

theorem keeps_execCallDone {port pkt} : Keeps s (execCallDone port pkt s) := .next fun c => c.response

theorem Canon.fopenEnd (c : Canon s) {w st low} : Canon (s.fopenEnd w st low) := by
  unfold State.fopenEnd
  split
  exacts [.goOn c.setS, c]

theorem Canon.granted (c : Canon s) {w st pkts req rsp spray} : Canon (s.granted w st pkts req rsp spray) := by
  unfold State.granted
  exact .ite (.ite c.wclose (c.setSrc _ _)) (.ite (.fopenEnd (c.setSrc _ _))
    (.ite (c.setSrc _ _) (.fopenEnd (c.setSrc _ _))))

theorem keeps_execWgrant {port pkt} : Keeps s (execWgrant port pkt s) := by
  unfold execWgrant
  split
  next h1 =>
  refine .ite (.next fun c => .snd h1 (c.sink _ _ _)) ?_
  extract_lets _ _ _ s2
  have c2 : Canon s → Canon s2 := fun c => .update (.snd h1 (c.sink _ _ _))
  split
  · exact .next c2
  · exact .ite (.next fun c => .mirrorPush (.ownStep (.granted (.snd h1 (c.sink _ _ _))))) (.next c2)

theorem keeps_execOpTimeout {dst flow fsn} : Keeps s (execOpTimeout dst flow fsn s) := by
  unfold execOpTimeout
  refine .ite ?_ ?_
  · split
    exacts [.next id, .next fun c => .updCtx (.noteFail c.updItem) _ _]
  · split
    · exact .next id
    · exact .ite (.next fun c => .ownStep (.granted c.freshWait))
        (.next fun c => .mirrorPush (.ownStep (.opEnd c.freshWait)))

theorem Canon.gateEnd (c : Canon s) {x jn st} : Canon (s.gateEnd x jn st) := by
  unfold State.gateEnd
  split
  exacts [.ite (.goOn (.setS c.setJoin)) c, c]

theorem Canon.unmatched (c : Canon s) {a0} : Canon (s.unmatched a0) := by
  unfold State.unmatched
  exact .ite c.update c

theorem Canon.joinResult (c : Canon s) {x jn a0 data} : Canon (s.joinResult x jn a0 data) := by
  unfold State.joinResult
  split
  · exact c
  · exact .ite c.gateEnd (.ite c (.joinSend (.setJoin (.ite c c.benchPut))))

theorem keeps_execResult {port pkt} : Keeps s (execResult port pkt s) := by
  unfold execResult
  split
  next h1 =>
  refine .ite (.next fun c => .snd h1 (c.sink _ _ _)) (.next fun c => .foldl ?_ fun _ _ c => c.joinResult)
  split
  exacts [.parentResult (.unmatched (.snd h1 (c.sink _ _ _))), .unmatched (.snd h1 (c.sink _ _ _))]

theorem keeps_execGroupFail {port pkt} : Keeps s (execGroupFail port pkt s) := by
  unfold execGroupFail
  split
  next h1 =>
  refine .ite (.next fun c => .snd h1 (c.sink _ _ _)) (.next fun c => .foldl ?_ fun _ _ c => ?_)
  · split
    · exact .ite (.unmatched (.snd h1 (c.sink _ _ _))) (.failInstance (.unmatched (.snd h1 (c.sink _ _ _))))
    · exact .unmatched (.snd h1 (c.sink _ _ _))
  · split
    exacts [.ite c.gateEnd (.ite c c.setJoin), c]

theorem keeps_execJoinTimeout {x j} : Keeps s (execJoinTimeout x j s) := by
  unfold execJoinTimeout
  split
  exacts [.ite (.next id) (.next fun c => c.setJoin), .next id]

theorem Canon.commitEnd (c : Canon s) {result status} : Canon (s.commitEnd result status) := by
  unfold State.commitEnd
  refine .update ?_
  split
  · exact .finish (.setRf (.setRf (c.setRf _ _ _ _) _ _ _ _) _ _ _ _) _ _ _
  · exact .setRf (.setRf (c.setRf _ _ _ _) _ _ _ _) _ _ _ _

theorem Canon.commitAnswer (c : Canon s) {src} : Canon (s.commitAnswer src) := c.answer

theorem keeps_execCommitStart {src} : Keeps s (execCommitStart src s) := by
  unfold execCommitStart
  refine .ite (.next id) (.ite (.next fun c => c.answer) (.ite (.next fun c => .answer (c.setRf _ _ _ _)) ?_))
  extract_lets tag s1 n s2
  clear_value tag
  have h1 : Canon s → Canon s1 := by
    intro c
    unfold s1
    split
    exacts [c.hold _, c]
  exact .next fun c => .update (.setRf (.setRf (.setRf (h1 c) _ _ _ _) _ _ _ _) _ _ _ _)

theorem Canon.commitApply (c : Canon s) : Canon s.commitApply := by
  unfold State.commitApply
  extract_lets _ _ s1 s2 s3 _ s4 _ s5 s6
  have c1 : Canon s1 := .foldl c fun _ _ c => c.setRegs _ _
  have c2 : Canon s2 := .foldl c1 fun _ _ c => c.setRegs _ _
  have c3 : Canon s3 := c2.uncut
  have c4 : Canon s4 := .foldl c3 fun _ _ c => c.mirror
  have c5 : Canon s5 := c4.update
  have c6 : Canon s6 := c5.commitEnd
  split
  exacts [c6.mirrorAnswer, .commitEnd (.foldl c3 fun _ _ c => c.mirror)]

theorem keeps_execCommitValidateDone : Keeps s (execCommitValidateDone s) := by
  unfold execCommitValidateDone
  exact .ite (.next id) (.ite (.next fun c => c.commitEnd)
    (.next fun c => .ite (.commitApply (c.setRf _ _ _ _)) (c.setRf _ _ _ _)))

theorem keeps_execCommitDrained : Keeps s (execCommitDrained s) := .ite (.next fun c => c.commitApply) (.next id)

theorem keeps_execDrainLimitExpire : Keeps s (execDrainLimitExpire s) := .next fun c => .ite c.commitEnd c

theorem keeps_execCommitAbort {src} : Keeps s (execCommitAbort src s) :=
  .ite (.next id) (.next fun c => .commitAnswer (.ite c.commitEnd c))

theorem keeps_execCommitSync {src} : Keeps s (execCommitSync src s) := by
  unfold execCommitSync
  exact .ite (.next id) (.ite (.next fun c => c.answer) (.next fun c => .commitAnswer
    (.foldl (.foldl c fun _ _ c => c.setRegs _ _) fun _ _ c => c.setRegs _ _)))

theorem keeps_execRtePktErrClear {path v} : Keeps s (execRtePktErrClear path v s) :=
  .ite (.next fun c => .setReg (c.setReg _ _) _ _) (.next id)

theorem keeps_execRteFlowErrClear {path v} : Keeps s (execRteFlowErrClear path v s) :=
  .ite (.next fun c => .setReg (.setReg (c.setReg _ _) _ _) _ _) (.next id)

theorem keeps_execRteCongErrClear {path v} : Keeps s (execRteCongErrClear path v s) :=
  .ite (.next fun c => .setReg (.setReg (c.setReg _ _) _ _) _ _) (.next id)

/-! ### Load: images and the sequence library -/

theorem Canon.loadGroup (c : Canon s) {gr g t} (e : s.loadGroup gr = some (g, t)) : Canon t := by
  unfold State.loadGroup at e
  extract_lets live at e
  split at e
  · extract_lets s1 s2 s3 s4 at e
    have c1 : Canon s1 := .foldl c fun _ _ c => c.setReg _ _
    have c4 : Canon s4 := .setRegs (.setRegs (.setRf (c1.setRf _ _ _ _) _ _ _ _) _ _) _ _
    split at e
    split at e <;> cases e
    exact c4.groupReserve.groupArm
  · cases e

theorem Canon.loadGroups (c : Canon s) {l gs t} (e : s.loadGroups l = some (gs, t)) : Canon t := by
  -- Lean cannot state the equations of `loadGroups` (it would evaluate `loadGroup`): open its recursion by hand.
  delta State.loadGroups State.loadGroups._f List.brecOn List.brecOn.go at e
  dsimp only at e
  induction l generalizing s gs with
  | nil => cases e; exact c
  | cons x r ih =>
    dsimp only at e
    generalize hu : s.loadGroup x = o at e
    split at e
    · cases e
    obtain ⟨y, hy, e⟩ := Option.map_eq_some_iff.mp e
    cases e
    exact ih (c.loadGroup hu) hy

theorem Canon.loadQueues (c : Canon s) {i cs l qs t} (e : s.loadQueues i cs l = some (qs, t)) : Canon t := by
  induction l generalizing s qs with
  | nil => cases e; exact c
  | cons x r ih =>
    unfold State.loadQueues at e
    split at e
    · cases e
    · split at e
      · cases e
      · obtain ⟨y, hy, e⟩ := Option.map_eq_some_iff.mp e
        cases e
        exact ih ((c.setReg _ _).setReg _ _) hy

theorem Canon.loadBobs (c : Canon s) {i l cs t} (e : s.loadBobs i l cs = some t) : Canon t := by
  induction cs generalizing s with
  | nil => cases e; exact c
  | cons x r ih =>
    unfold State.loadBobs at e
    split at e
    · cases e
    · exact ih (c.poolReserveAll ‹_›) e

theorem Canon.imgReserve (c : Canon s) {i eid b lib} : Canon (s.imgReserve i eid b lib).2 := by
  unfold State.imgReserve
  refine .ite_snd c ?_
  extract_lets
  split
  · exact c
  · split
    · exact c
    · extract_lets
      split
      · exact c
      next h2 =>
        extract_lets s3
        have c3 : Canon s3 := .setReg (c.loadBobs h2) _ _
        split
        · exact c
        next h5 =>
          refine .ite_snd c (.ite_snd c ?_)
          extract_lets s6
          have c6 : Canon s6 := .foldl (.foldl (c3.loadQueues h5) fun _ _ c => c.setSrc _ _) fun _ _ c => c.update
          split
          · exact c
          next h8 =>
            exact .setImage (.setReg (.setReg (.setReg (c6.loadGroups h8) _ _) _ _) _ _) _ _

theorem Canon.imgCopy (c : Canon s) {i} : Canon (s.imgCopy i) := by
  unfold State.imgCopy
  split
  exacts [c, .memPut (.memClear (c.memPut _ _) _ _) _ _]

theorem Canon.pushData (c : Canon s) {ms} : Canon (s.pushData ms) := by
  unfold State.pushData
  exact .ite c.update c

theorem Canon.pushImage (c : Canon s) {i} : Canon (s.pushImage i) := by
  unfold State.pushImage
  split
  · exact c
  · split
    next h1 =>
    exact .pushData (.snd h1 c.draw)

theorem Canon.loadEnd (c : Canon s) {st} : Canon (s.loadEnd st) := by
  unfold State.loadEnd
  split
  · exact c
  · extract_lets _ s1
    have c1 : Canon s1 := c.update
    split
    exacts [c1.finish _ _ _, c1]

theorem Canon.loadChecks (c : Canon s) : Canon s.loadChecks := by
  unfold State.loadChecks
  split
  · exact c
  · refine .ite c.loadEnd (.ite c.loadEnd ?_)
    split
    · exact c.loadEnd
    · split
      next h1 =>
      exact .ite c.loadEnd (.update (.setRf (.snd h1 c.imgReserve) _ _ _ _))

theorem keeps_execImageLoad {tag} : Keeps s (execImageLoad tag s) := by
  unfold execImageLoad
  split
  · exact .next id
  · refine .ite (.next fun c => c.finish _ _ _) (.ite (.next fun c => c.finish _ _ _)
      (.ite (.next fun c => c.finish _ _ _) (.ite (.next fun c => c.finish _ _ _) ?_)))
    split
    · exact .next fun c => c.finish _ _ _
    · exact .ite (.next fun c => .update (c.hold _)) (.ite (.next fun c => .loadEnd (.update (c.hold _)))
        (.next fun c => .loadChecks (.update (c.hold _))))

theorem keeps_execImageVerifyDone {ok} : Keeps s (execImageVerifyDone ok s) := by
  unfold execImageVerifyDone
  split
  · exact .next id
  · exact .ite (.next id) (.next fun c => .ite c.loadChecks c.loadEnd)

theorem keeps_execImageCopyDone : Keeps s (execImageCopyDone s) := by
  unfold execImageCopyDone
  split
  · exact .next id
  · refine .ite (.next id) ?_
    extract_lets s1 _ s2 _ s3
    have c1 : Canon s → Canon s1 := fun c => .setRf c.imgCopy _ _ _ _
    have c2 : Canon s → Canon s2 := fun c => .update (c1 c)
    have c3 : Canon s → Canon s3 := fun c => .foldl (.pushImage (c2 c)) fun _ _ c => c.mirror
    split
    exacts [.next fun c => .mirrorPush (.mirrorAnswer (c3 c)), .next fun c => .mirrorPush (.mirror (c3 c))]

theorem Canon.drainImage (c : Canon s) {i tag} : Canon (s.drainImage i tag) := by
  unfold State.drainImage
  exact .update (.foldl (c.setRf _ _ _ _) fun _ _ c => c.endItem)

theorem keeps_execImageUnload {tag} : Keeps s (execImageUnload tag s) := by
  unfold execImageUnload
  split
  · exact .next id
  · exact .ite (.next fun c => c.finish _ _ _) (.ite (.next fun c => c.finish _ _ _)
      (.ite (.next fun c => c.finish _ _ _) (.ite (.next fun c => c.finish _ _ _)
      (.ite (.next fun c => c.finish _ _ _) (.ite (.next fun c => c.finish _ _ _)
      (.ite (.next fun c => c.finish _ _ _) (.next fun c => .drainImage (c.hold _))))))))

theorem Canon.imgFreeAll (c : Canon s) {i} : Canon (s.imgFreeAll i) := by
  unfold State.imgFreeAll
  split
  · exact c
  · exact .setImage (.setRegs (.update (.foldl (.foldl (.foldl c fun _ _ c => .poolRelease c.poolFreeAll)
      fun _ _ c => .setReg (c.setReg _ _) _ _) fun _ _ c => c.setSrc _ _)) _ _) _ _

theorem keeps_execImageDrainDone {idx} : Keeps s (execImageDrainDone idx s) := by
  unfold execImageDrainDone
  split
  · refine .ite (.next id) (.ite (.next fun c => .foldl c fun _ _ c => .setRf c.failOpen _ _ _ _)
      (.ite (.next id) ?_))
    extract_lets s1 s2 _ s3
    have c1 : Canon s → Canon s1 := fun c => .foldl c fun _ _ c => .ite (.mirror c.groupFree) c
    have c2 : Canon s → Canon s2 := fun c => .imgFreeAll (c1 c)
    have c3 : Canon s → Canon s3 := fun c => .update (c2 c)
    split
    exacts [.next fun c => .mirrorAnswer (c3 c), .next fun c => .mirror (c3 c)]
  · exact .next id

theorem keeps_libStep {item entry go} (h : ∀ it x, Canon s → Canon (go it x)) :
    Keeps s (s.libStep item entry go) := by
  unfold State.libStep
  split
  · exact .next id
  · exact .ite (.next id) (.next fun c => .ite (.unready (h _ _ c)) (h _ _ c))

theorem Canon.libFail (c : Canon s) {it st} : Canon (s.libFail it st) := c.endItem

theorem Canon.mirrorStale (c : Canon s) {n} : Canon (s.mirrorStale n) := c.setRf _ _ _ _

theorem Canon.copyTwin (c : Canon s) {x it k} : Canon (s.copyTwin x it k).2 := by
  unfold State.copyTwin
  refine .ite_snd c (.ite_snd (.ite_snd c (.ite_snd c c.mirrorStale)) (.ite_snd c ?_))
  split
  next h1 =>
  exact .snd_snd h1 c.moveAll

theorem Canon.copyStep (c : Canon s) {x it k} : Canon (s.copyStep x it k).2 := by
  unfold State.copyStep
  refine .ite_snd c ?_
  extract_lets
  split
  next h1 =>
  extract_lets _ s2
  have c2 : Canon s2 := .ite (.mirrorStale (.snd_snd h1 c.moveAll)) (.snd_snd h1 c.moveAll)
  split
  next t4 h3 =>
  have ct4 : Canon t4 := by
    refine .snd h3 ?_
    split
    · exact c2
    · extract_lets
      split
      exacts [.seqFail (.ite c2.markLost c2), .seqFail (.ite c2.markLost c2), c2]
  exact ct4.copyTwin

theorem keeps_execLibAppend {item} : Keeps s (execLibAppend item s) := by
  unfold execLibAppend
  refine keeps_libStep fun _ _ c => ?_
  extract_lets
  split
  · refine .ite c.libFail (.ite c.libFail (.ite c.libFail (.ite c.libFail ?_)))
    split
    next h1 => exact .libFail (.snd_snd h1 c.translateAll)
    next h2 => exact .snd_snd h2 c.translateAll
    next h3 =>
      extract_lets
      split
      next h4 =>
      exact .ite (.libFail (.snd h4 (.copyStep (.snd_snd h3 c.translateAll))))
        (.ite (.endItem (.raiseLen (.snd h4 (.copyStep (.snd_snd h3 c.translateAll)))))
        (.updCtx (.snd h4 (.copyStep (.snd_snd h3 c.translateAll))) _ _))
  · split
    next h5 =>
    exact .ite (.libFail (.snd h5 c.copyStep)) (.ite (.endItem (.raiseLen (.snd h5 c.copyStep)))
      (.updCtx (.snd h5 c.copyStep) _ _))

theorem keeps_execLibRead {item} : Keeps s (execLibRead item s) := by
  unfold execLibRead
  refine keeps_libStep fun _ _ c => ?_
  extract_lets
  split
  · refine .ite c.libFail (.ite c.libFail ?_)
    split
    next h1 => exact .libFail (.snd_snd h1 c.translateAll)
    next h2 => exact .snd_snd h2 c.translateAll
    next h3 =>
      extract_lets
      split
      next h4 =>
      exact .ite (.libFail (.snd h4 (.copyStep (.snd_snd h3 c.translateAll))))
        (.ite (.endItem (.snd h4 (.copyStep (.snd_snd h3 c.translateAll))))
        (.updCtx (.snd h4 (.copyStep (.snd_snd h3 c.translateAll))) _ _))
  · split
    next h5 =>
    exact .ite (.libFail (.snd h5 c.copyStep)) (.ite (.endItem (.snd h5 c.copyStep))
      (.updCtx (.snd h5 c.copyStep) _ _))

theorem Canon.lendFrames (c : Canon s) {eid n} : Canon (s.lendFrames eid n).2 := by
  induction n generalizing s with
  | zero => exact c
  | succ n ih =>
    unfold State.lendFrames
    refine .ite_snd c ?_
    split
    · exact .snd ‹_› c.choose
    · exact ih (Canon.takeFrame (.snd ‹_› c.choose))

theorem keeps_execLibLend {item} : Keeps s (execLibLend item s) := by
  unfold execLibLend
  refine keeps_libStep fun _ _ c => .ite c.libFail ?_
  split
  next h1 =>
  exact .endItem (.snd h1 c.lendFrames)

theorem keeps_execLibReturn {item} : Keeps s (execLibReturn item s) := by
  unfold execLibReturn
  exact keeps_libStep fun _ _ c => .ite c.libFail (.endItem
    (.foldl c fun _ _ c' => .ite c'.setFrame (c'.bump _ _ _ _)))

theorem Canon.attnGather (c : Canon s) {it x first} : Canon (s.attnGather it x first).2.2 := by
  unfold State.attnGather
  extract_lets
  split
  next h1 => exact .snd_snd h1 c.translateAll
  next h2 => exact .snd_snd h2 c.translateAll
  next h3 => exact .snd_snd h3 c.translateAll

theorem Canon.attnContrib (c : Canon s) {it x told data sent} : Canon (s.attnContrib it x told data sent) := by
  unfold State.attnContrib
  extract_lets
  split
  next t3 h1 =>
  have ct3 : Canon t3 := by
    refine .snd h1 (.foldl_snd c fun _ _ c => .ite_snd c ?_)
    extract_lets
    split
    next h2 =>
    exact .ite_snd (.emitHeld (.snd h2 c.injBuffer)) (.snd h2 c.injBuffer)
  exact .ite ct3.endItem (.updCtx ct3.benchPut _ _)

theorem Canon.attend (c : Canon s) {it x kind first qt inline} : Canon (s.attend it x kind first qt inline) := by
  unfold State.attend
  extract_lets
  split
  · refine .ite c.libFail ?_
    split
    next h1 => exact .ite c.libFail (.snd_snd h1 c.attnGather)
    next h2 =>
      extract_lets
      split
      next h3 =>
      refine .ite (.libFail (.snd h3 (.copyStep (.snd_snd h2 c.attnGather))))
        (.ite (.ite (.attnContrib (.snd h3 (.copyStep (.snd_snd h2 c.attnGather))))
        (.ite (.endItem (.snd h3 (.copyStep (.snd_snd h2 c.attnGather)))) ?_))
        (.updCtx (.snd h3 (.copyStep (.snd_snd h2 c.attnGather))) _ _))
      extract_lets s4
      have c4 : Canon s4 := .benchPut (.snd h3 (.copyStep (.snd_snd h2 c.attnGather)))
      split
      next h5 =>
      exact .updCtx (.snd h5 c4.copyStep) _ _
  · refine .ite c.attnContrib ?_
    split
    next h6 =>
    refine .ite (.libFail (.snd h6 c.copyStep)) (.ite (.ite (.ite (.attnContrib (.snd h6 c.copyStep))
      (.ite (.endItem (.snd h6 c.copyStep)) ?_)) (.endItem (.snd h6 c.copyStep)))
      (.updCtx (.snd h6 c.copyStep) _ _))
    extract_lets s7
    have c7 : Canon s7 := .benchPut (.snd h6 c.copyStep)
    split
    next h8 =>
    exact .updCtx (.snd h8 c7.copyStep) _ _

theorem keeps_execLibDecode {item} : Keeps s (execLibDecode item s) := keeps_libStep fun _ _ c => c.attend

theorem keeps_execLibPrefill {item} : Keeps s (execLibPrefill item s) := by
  unfold execLibPrefill
  exact keeps_libStep fun _ _ c => .ite c.libFail c.attend

theorem keeps_execLibLatentDecode {item} : Keeps s (execLibLatentDecode item s) :=
  keeps_libStep fun _ _ c => .ite c.libFail c.attend

/-! ### Operands: how a context issues an instruction -/

theorem CanonIssue.cause {k a} : CanonIssue (.cause k a) := trivial

theorem Canon.evFree (c : Canon s) {x code} : Canon (s.evFree x code) := by
  unfold State.evFree
  refine .ite ?_ c
  split
  next h1 =>
  exact .evShu (.snd h1 c.draw)

theorem Canon.evMiss (c : Canon s) {x op} : Canon (s.evMiss x op) := by
  unfold State.evMiss
  extract_lets s1 s2
  have c1 : Canon s1 := c.evFree
  have c2 : Canon s2 := .ite c1.evFree c1
  exact .ite c2.evFree c2

theorem Canon.evIssue (c : Canon s) {x op} : Canon (s.evIssue x op) := by
  unfold State.evIssue
  extract_lets _ s1 _ s2 s3 s4 s5
  have c1 : Canon s1 := .ite c.evShu c
  have c2 : Canon s2 := c1.update
  have c3 : Canon s3 := by
    unfold s3
    split
    exacts [c2.charge, c2]
  have c4 : Canon s4 := c3.evShu
  have c5 : Canon s5 := .ite c4.evShu c4
  exact .evMiss (.ite c5.evShu c5)

theorem Canon.trapNow (c : Canon s) {x op cause addr status} : Canon (s.trapNow x op cause addr status) :=
  .trapItem (.evShu c.evIssue)

theorem keeps_issue {x op bad f} (h : ∀ it im, Canon s → CanonIssue (f it im)) : Keeps s (s.issue x op bad f) := by
  unfold State.issue
  split
  next it im _ _ =>
    refine .ite (.next id) (.ite (.next fun c => .ite (.trapNow c.eccBump) c.trapNow) ?_)
    extract_lets past
    have hi : Canon s → CanonIssue (if bad then Issue.cause 1 0 else f it im) := fun c => .ite .cause (h it im c)
    generalize (if bad then Issue.cause 1 0 else f it im) = i at hi
    cases i with
    | trap k a st => exact .next fun c => c.trapNow
    | fault t k a st => exact .next fun c => .trapNow (hi c)
    | jump t pc => exact .next fun c => .onShuttle (.evIssue (.updCtx (hi c) _ _))
    | yields t => exact .ite (.next fun c => c.trapNow) (.next fun c => .ready (.evIssue (.updCtx (hi c) _ _)))
    | ended t => exact .next hi
    | still t => exact .next fun c => .unready (hi c)
    | done t => exact .ite (.next fun c => c.trapNow) (.next fun c => .onShuttle (.evIssue (.updCtx (hi c) _ _)))
    | wait t => exact .ite (.next fun c => c.trapNow) (.next fun c => .unready (hi c))
  · exact .next id

theorem keeps_issueFn {x op want got count bad f} (h : ∀ it im, Canon s → CanonIssue (f it im)) :
    Keeps s (s.issueFn x op want got count bad f) :=
  .ite (keeps_issue h) (.ite (.next id) (keeps_issue h))

theorem CanonIssue.doneS (c : Canon s) {x d v} : CanonIssue (s.doneS x d v) := .done c.setS

theorem CanonIssue.doneF (c : Canon s) {x d r} : CanonIssue (s.doneF x d r) := .done (.setS (c.updCtx _ _))

theorem CanonIssue.unless {l go} (h : CanonIssue go) : CanonIssue (.unless l go) := by
  unfold Issue.unless
  dsimp only
  split
  exacts [.trap, h]

theorem CanonIssue.doneV (c : Canon s) {x pred w d f} : CanonIssue (s.doneV x pred w d f) := .done (c.updCtx _ _)

theorem CanonIssue.doneVec (c : Canon s) {x d w rs} : CanonIssue (s.doneVec x d w rs) := .done (c.updCtx _ _)

theorem CanonLocs.resolve (c : Canon s) {x it im k n al l} : CanonLocs (s.resolve x it im k n al l) := by
  induction l generalizing s with
  | nil => exact c
  | cons a r ih =>
    unfold State.resolve
    split
    · exact c
    next p _ =>
    extract_lets one
    have hone : CanonLocs one := by
      unfold one
      split
      · exact c
      · exact c
      · split
        next h => exact Canon.snd h c.translate
        next h => exact Canon.snd h c.translate
        · exact Canon.seqFail c
        next h => exact Canon.snd h c.translate
    clear_value one
    split
    next t =>
      have ht := ih (s := t) hone
      split
      next h => rw [h] at ht; exact ht
      · exact ht
    · exact hone

theorem Canon.fetchFar (c : Canon s) {x it n l a b o t} (e : s.fetchFar x it n l = some (a, b, o, t)) : Canon t :=
  by
  unfold State.fetchFar at e
  extract_lets far k bad k0 at e
  split at e
  · cases e; exact c
  split at e
  next k' u hu =>
  have cu : Canon u := .snd hu c.copyStep
  extract_lets at e
  split at e
  · cases e; exact cu
  · split at e <;> cases e
    exacts [cu.updCtx _ _, cu.updCtx _ _]

theorem Canon.readLocs (c : Canon s) {x n l} : Canon (s.readLocs x n l).2 := by
  induction l generalizing s with
  | nil => exact c
  | cons a r ih => exact ih (c.locGet (x := x) (l := a) (n := n))

theorem Canon.dropFar (c : Canon s) {x} : Canon (s.dropFar x) := c.updCtx _ _

theorem CanonIssue.load (c : Canon s) {x it im seqOk hbmOk n al addrs go}
    (h : ∀ bs t, Canon t → CanonIssue (go bs t)) :
    CanonIssue (s.load x it im seqOk hbmOk n al addrs go) := by
  have hl := CanonLocs.resolve c (x := x) (it := it) (im := im) (k := ⟨hbmOk, seqOk, false⟩) (n := n) (al := al)
    (l := addrs)
  unfold State.load
  generalize s.resolve x it im ⟨hbmOk, seqOk, false⟩ n al addrs = o at hl
  split
  · exact .fault hl
  · exact .wait hl
  next l t =>
    have ct : Canon t := hl
    split
    next e =>
      have cu := ct.fetchFar e
      split
      · exact .fault (.dropFar cu.locErr)
      · split
        next e' => exact h _ _ (.dropFar (.snd e' cu.readLocs))
    next e => exact .ite (.wait (ct.fetchFar e)) (.fault (ct.fetchFar e))
    · exact .wait c

theorem Canon.writeLocs (c : Canon s) {x l} : Canon (s.writeLocs x l) := by
  induction l generalizing s with
  | nil => exact c
  | cons a r ih => exact ih c.locPut

theorem CanonIssue.store (c : Canon s) {x it im hbmOk n al l} : CanonIssue (s.store x it im hbmOk n al l) := by
  unfold State.store
  split
  exacts [.trap, .done c.writeLocs]

/-! ### Scalar: the scalar instructions -/

theorem keeps_execSop {x et fn b a d} : Keeps s (execSop x et fn b a d s) := keeps_issue fun _ _ c => .doneS c

theorem keeps_execAddi {x imm a d} : Keeps s (execAddi x imm a d s) := keeps_issue fun _ _ c => .doneS c

theorem keeps_execAndi {x imm a d} : Keeps s (execAndi x imm a d s) := keeps_issue fun _ _ c => .doneS c

theorem keeps_execOri {x imm a d} : Keeps s (execOri x imm a d s) := keeps_issue fun _ _ c => .doneS c

theorem keeps_execXori {x imm a d} : Keeps s (execXori x imm a d s) := keeps_issue fun _ _ c => .doneS c

theorem keeps_execSlti {x imm a d} : Keeps s (execSlti x imm a d s) := keeps_issue fun _ _ c => .doneS c

theorem keeps_execShi {x imm a d} : Keeps s (execShi x imm a d s) := by
  unfold execShi
  exact keeps_issue fun _ _ c => .doneS c

theorem keeps_execSli {x imm a d} : Keeps s (execSli x imm a d s) := keeps_issue fun _ _ c => .doneS c

theorem keeps_execSmul {x et fn b a d} : Keeps s (execSmul x et fn b a d s) := by
  unfold execSmul
  exact keeps_issue fun _ _ c => .doneS c

theorem keeps_execScmp {x et fn b a d} : Keeps s (execScmp x et fn b a d s) := by
  unfold execScmp
  exact keeps_issue fun _ _ c => .doneS c

theorem keeps_execFop {x et fn b a d} : Keeps s (execFop x et fn b a d s) := keeps_issue fun _ _ c => .doneF c

theorem keeps_execFmad {x et fn b a d} : Keeps s (execFmad x et fn b a d s) := by
  unfold execFmad
  exact keeps_issue fun _ _ c => .doneF c

theorem keeps_execFcmp {x et fn b a d} : Keeps s (execFcmp x et fn b a d s) := by
  unfold execFcmp
  refine keeps_issue fun _ _ c => ?_
  extract_lets
  split
  exact .doneF c

theorem keeps_execScvt {x et fn b a d} : Keeps s (execScvt x et fn b a d s) := by
  unfold execScvt
  refine keeps_issue fun _ _ c => ?_
  extract_lets
  split
  exact .doneF c

theorem CanonIssue.goTo (c : Canon s) {im target} : CanonIssue (s.goTo im target) := .ite (.jump c) .cause

theorem keeps_execBr {x ofs b a cond} : Keeps s (execBr x ofs b a cond s) :=
  keeps_issue fun _ _ c => .ite (.goTo c) (.done c)

theorem keeps_execJal {x imm a d} : Keeps s (execJal x imm a d s) := by
  unfold execJal
  exact keeps_issue fun _ _ c => .goTo c.setS

theorem keeps_execJalr {x imm a d} : Keeps s (execJalr x imm a d s) := by
  unfold execJalr
  exact keeps_issue fun _ _ c => .ite .cause (.ite .cause (.goTo c.setS))

theorem CanonIssue.scalarLoad (c : Canon s) {x it im addr n d sgn} : CanonIssue
    (s.scalarLoad x it im addr n d sgn) := by
  unfold State.scalarLoad
  exact .load c fun _ _ c => .doneS c

theorem keeps_execLd {x et fn b a d} : Keeps s (execLd x et fn b a d s) := keeps_issue fun _ _ c => .scalarLoad c

theorem keeps_execSt {x et fn b a d} : Keeps s (execSt x et fn b a d s) := by
  unfold execSt
  exact keeps_issue fun _ _ c => .store c

theorem keeps_execLdi {x imm a d} : Keeps s (execLdi x imm a d s) := keeps_issue fun _ _ c => .scalarLoad c

theorem keeps_execSti {x imm a d} : Keeps s (execSti x imm a d s) := keeps_issue fun _ _ c => .store c

theorem keeps_execLatm {x et fn b a d} : Keeps s (execLatm x et fn b a d s) := by
  unfold execLatm
  refine keeps_issue fun _ _ c => ?_
  extract_lets
  split
  · exact .trap
  · refine .ite (.fault c.locErr) ?_
    split
    next h1 =>
    exact .doneS (.locPut (.snd h1 c.locGet))

/-! ### Vector: the vector instructions -/

theorem keeps_execVint {x et pred vfn b a d} : Keeps s (execVint x et pred vfn b a d s) := by
  unfold execVint
  exact keeps_issue fun _ _ c => .doneV c

theorem keeps_execVfp {x et pred vfn b a d} : Keeps s (execVfp x et pred vfn b a d s) := by
  unfold execVfp
  exact keeps_issue fun _ _ c => .doneV c

theorem keeps_execVfma {x et pred vfn b a d} : Keeps s (execVfma x et pred vfn b a d s) := by
  unfold execVfma
  exact keeps_issue fun _ _ c => .ite (.doneV c) (.doneV c)

theorem keeps_execVcmp {x et pred vfn b a d} : Keeps s (execVcmp x et pred vfn b a d s) := by
  unfold execVcmp
  exact keeps_issue fun _ _ c => .done (c.updCtx _ _)

theorem keeps_execVplog {x et pred vfn b a d} : Keeps s (execVplog x et pred vfn b a d s) := by
  unfold execVplog
  exact keeps_issue fun _ _ c => .ite (.done (c.updCtx _ _))
    (.ite (.done (c.updCtx _ _)) (.ite (.doneS c) (.doneS c)))

theorem keeps_execVred {x et pred vfn b a d} : Keeps s (execVred x et pred vfn b a d s) := by
  unfold execVred
  exact keeps_issue fun _ _ c => .ite (.doneS c) (.ite (.doneS c) (.doneF c))

theorem keeps_execVbcast {x et pred vfn b a d} : Keeps s (execVbcast x et pred vfn b a d s) := by
  unfold execVbcast
  refine keeps_issue fun _ _ c => ?_
  split
  exacts [.doneV c, .doneV c, .doneS c, .doneV c]

theorem keeps_execVperm {x et pred vfn b a d} : Keeps s (execVperm x et pred vfn b a d s) := by
  unfold execVperm
  exact keeps_issue fun _ _ c => .ite (.doneVec c) (.doneV c)

theorem keeps_execVcvt {x et pred vfn b a d} : Keeps s (execVcvt x et pred vfn b a d s) := by
  unfold execVcvt
  exact keeps_issue fun _ _ c => .doneV c

theorem keeps_execVmxcvt {x et pred vfn b a d} : Keeps s (execVmxcvt x et pred vfn b a d s) := by
  unfold execVmxcvt
  refine keeps_issue fun _ _ c => ?_
  extract_lets
  split
  exact .ite (.load c (fun _ _ c' => .doneVec c')) (.store (c.updCtx _ _))

theorem keeps_execVsfn {x et pred vfn b a d} : Keeps s (execVsfn x et pred vfn b a d s) := by
  unfold execVsfn
  exact keeps_issue fun _ _ c => .doneV c

theorem keeps_execVtopk {x et pred vfn b a d} : Keeps s (execVtopk x et pred vfn b a d s) := by
  unfold execVtopk
  refine keeps_issue fun _ _ c => ?_
  extract_lets
  split
  exacts [.doneVec c, .doneVec c, .doneV c, .doneS c, .doneS c]

theorem CanonIssue.vload (c : Canon s) {x it im w d l} : CanonIssue (s.vload x it im w d l) := by
  unfold State.vload
  exact .load c fun _ _ c => .done (c.updCtx _ _)

theorem CanonIssue.vstore (c : Canon s) {x it im w d l} : CanonIssue (s.vstore x it im w d l) := .store c

theorem keeps_execVld {x et pred vfn b a d} : Keeps s (execVld x et pred vfn b a d s) := by
  unfold execVld
  exact keeps_issue fun _ _ c => .vload c

theorem keeps_execVst {x et pred vfn b a d} : Keeps s (execVst x et pred vfn b a d s) := by
  unfold execVst
  exact keeps_issue fun _ _ c => .vstore c

theorem keeps_execVgth {x et pred vfn b a d} : Keeps s (execVgth x et pred vfn b a d s) :=
  keeps_issue fun _ _ c => .vload c

theorem keeps_execVsct {x et pred vfn b a d} : Keeps s (execVsct x et pred vfn b a d s) :=
  keeps_issue fun _ _ c => .vstore c

/-! ### Matrix: the matrix instructions -/

theorem CanonIssue.withBench {x it im l go} (c1' : CanonIssue go) : CanonIssue (s.withBench x it im l go) := by
  unfold State.withBench
  split
  exacts [.trap, c1']

theorem CanonIssue.readBench {x it im l go} (c1' : CanonIssue go) : CanonIssue (s.readBench x it im l go) :=
  .withBench (.unless c1')

theorem CanonIssue.doneTile (c : Canon s) {x d f} : CanonIssue (s.doneTile x d f) := by
  unfold State.doneTile
  exact .done (c.updCtx _ _)

theorem keeps_execMma {x et pred vfn b a d} : Keeps s (execMma x et pred vfn b a d s) := by
  unfold execMma
  exact keeps_issue fun _ _ c => .ite (.readBench (.done (.benchPut (c.updCtx _ _)))) (.doneTile c)

theorem keeps_execMmx {x et pred vfn b a d} : Keeps s (execMmx x et pred vfn b a d s) := by
  unfold execMmx
  exact keeps_issue fun _ _ c => .readBench (.doneTile c)

theorem keeps_execMzero {x et pred vfn b a d} : Keeps s (execMzero x et pred vfn b a d s) := by
  unfold execMzero
  exact keeps_issue fun _ _ c => .doneTile c

theorem keeps_execMld {x et pred vfn b a d} : Keeps s (execMld x et pred vfn b a d s) := by
  unfold execMld
  exact keeps_issue fun _ _ c => .ite (.readBench (.doneTile c)) (.readBench (.doneTile c))

theorem keeps_execMst {x et pred vfn b a d} : Keeps s (execMst x et pred vfn b a d s) := by
  unfold execMst
  exact keeps_issue fun _ _ c => .withBench (.done (.foldl (c.updCtx _ _) fun _ _ c' => c'.benchPut))

theorem keeps_execMtov {x et pred vfn b a d} : Keeps s (execMtov x et pred vfn b a d s) := by
  unfold execMtov
  exact keeps_issue fun _ _ c => .doneVec c

/-! ### Copy: asynchronous copies, handles and the sequence instructions -/

theorem Canon.addCopy (c : Canon s) {x k} : Canon (s.addCopy x k) := c.updCtx _ _

theorem Canon.putCopy (c : Canon s) {x k} : Canon (s.putCopy x k) := c.updCtx _ _

theorem CanonIssue.copyWait (c : Canon s) {x it im p} : CanonIssue (s.copyWait x it im p) := by
  unfold State.copyWait
  refine .ite (.wait c) ?_
  split
  exacts [.ite .cause .trap, .done (c.updCtx _ _)]

theorem CanonIssue.mcpy (c : Canon s) {x it im tag src dst n} : CanonIssue (s.mcpy x it im tag src dst n) := by
  unfold State.mcpy
  refine .ite .cause (.ite .cause ?_)
  split
  · exact .ite .trap .trap
  · exact .trap
  · exact .trap
  · refine .ite (.wait c) ?_
    extract_lets
    split
    · split
      next h1 => exact .done (.addCopy (.snd h1 c.translate))
      next h2 => exact .done (.addCopy (.snd h2 c.translate))
      · exact .fault c.seqFail
      next h4 => exact .wait (.snd h4 c.translate)
    · exact .done c.addCopy

theorem keeps_execMcpyIssue {x et fn b a d} : Keeps s (execMcpyIssue x et fn b a d s) := by
  unfold execMcpyIssue
  exact keeps_issueFn fun _ _ c => .mcpy c

theorem keeps_execMcpyWait {x et fn b a d} : Keeps s (execMcpyWait x et fn b a d s) := by
  unfold execMcpyWait
  exact keeps_issueFn fun _ _ c => .copyWait c

theorem keeps_execMcpyWaitall {x et fn b a d} : Keeps s (execMcpyWaitall x et fn b a d s) := by
  unfold execMcpyWaitall
  exact keeps_issueFn fun _ _ c => .copyWait c

theorem keeps_execAsyncCopyDone {x k} : Keeps s (execAsyncCopyDone x k s) := by
  unfold execAsyncCopyDone
  split
  · split
    next h1 =>
    exact .next fun c => .putCopy (.snd h1 c.copyStep)
  · exact .next id

theorem keeps_execHndDraw {x et fn b a d} : Keeps s (execHndDraw x et fn b a d s) := by
  unfold execHndDraw
  refine keeps_issueFn fun _ _ c => .ite .cause (.ite .cause ?_)
  split
  next h1 =>
  exact .doneS (.setImage (.snd h1 c.poolDraw) _ _)

theorem keeps_execHndFree {x et fn b a d} : Keeps s (execHndFree x et fn b a d s) := by
  unfold execHndFree
  exact keeps_issueFn fun _ _ c => .ite (.done (.joinsGo c.poolFree))
    (.ite (.fault c.poolFree) (.fault (c.bump _ _ _ _)))

theorem CanonIssue.hndChk {x it im a0 n at_ go} (c1' : CanonIssue go) : CanonIssue (s.hndChk x it im a0 n at_ go) :=
  .unless c1'

theorem keeps_execHndHget {x et fn b a d} : Keeps s (execHndHget x et fn b a d s) := by
  unfold execHndHget
  exact keeps_issueFn fun _ _ c => .hndChk (.done c.benchPut)

theorem keeps_execHndHput {x et fn b a d} : Keeps s (execHndHput x et fn b a d s) := by
  unfold execHndHput
  exact keeps_issueFn fun _ _ c => .hndChk (.unless (.done (c.setImage _ _)))

theorem CanonIssue.withSlot {it im a go} (h : ∀ n, CanonIssue (go n)) : CanonIssue (s.withSlot it im a go) := by
  unfold State.withSlot
  refine .ite .cause ?_
  split
  exacts [.cause, .ite (h _) .cause]

theorem CanonIssue.sapp (c : Canon s) {x it tag a src cnt slot} : CanonIssue (s.sapp x it tag a src cnt slot) := by
  unfold State.sapp
  refine .ite (.fault c.seqFail) (.ite (.fault c.seqFail) (.ite (.fault c.seqFail) (.ite (.wait c) ?_)))
  extract_lets
  split
  next h1 => exact .fault (.snd_snd h1 c.translateAll)
  next h2 => exact .wait (.snd_snd h2 c.translateAll)
  next h3 => exact .done (.addCopy (.snd_snd h3 c.translateAll))

theorem keeps_execSapp {x et fn b a d} : Keeps s (execSapp x et fn b a d s) := by
  unfold execSapp
  exact keeps_issue fun _ _ c => .unless (.sapp c)

theorem CanonIssue.sgath (c : Canon s) {x it tag a dst cnt m slot} : CanonIssue
    (s.sgath x it tag a dst cnt m slot) := by
  unfold State.sgath
  refine .ite (.wait c) ?_
  split
  next h1 => exact .fault (.snd_snd h1 c.translateAll)
  next h2 => exact .wait (.snd_snd h2 c.translateAll)
  next h3 => exact .done (.addCopy (.snd_snd h3 c.translateAll))

theorem keeps_execSgath {x et fn b a d} : Keeps s (execSgath x et fn b a d s) := by
  unfold execSgath
  exact keeps_issue fun _ _ c => .unless (.sgath c)

theorem keeps_execSappPerformed {x k} : Keeps s (execSappPerformed x k s) := by
  unfold execSappPerformed
  split
  · refine .ite (.next id) ?_
    split
    next h1 =>
    exact .next fun c => .putCopy (.ite (.raiseLen (.snd h1 c.copyStep)) (.snd h1 c.copyStep))
  · exact .next id

theorem keeps_execSmapAddr {x et fn b a d} : Keeps s (execSmapAddr x et fn b a d s) := by
  unfold execSmapAddr
  refine keeps_issueFn fun _ _ c => .ite .cause (.ite .cause (.withSlot (fun _  => ?_)))
  split
  next h1 => exact .doneS (.snd h1 c.translate)
  next h2 => exact .doneS (.snd h2 c.translate)
  · exact .fault c.seqFail
  next h4 => exact .wait (.snd h4 c.translate)

theorem keeps_execSmapPte {x et fn b a d} : Keeps s (execSmapPte x et fn b a d s) := by
  unfold execSmapPte
  exact keeps_issueFn fun _ _ c => .ite .cause (.ite .cause (.withSlot (fun _  => .doneS c)))

theorem keeps_execSmapLen {x et fn b a d} : Keeps s (execSmapLen x et fn b a d s) := by
  unfold execSmapLen
  exact keeps_issueFn fun _ _ c => .withSlot (fun _  => .ite (.fault c.seqFail) (.doneS c))

theorem keeps_execSrel {x et fn b a d} : Keeps s (execSrel x et fn b a d s) := by
  unfold execSrel
  refine keeps_issue fun _ _ c => .withSlot (fun _  => ?_)
  split
  next h1 =>
  exact .doneS (.ite (.mirrorSlot (.snd h1 c.slotRelease)) (.snd h1 c.slotRelease))

/-! ### Fabric: the fabric and collective instructions -/

theorem CanonIssue.fopen (c : Canon s) {x it d va vb} : CanonIssue (s.fopen x it d va vb) := by
  unfold State.fopen
  refine .ite .cause (.ite .cause (.ite (.doneS c) (.ite (.doneS c) (.ite (.wait c) ?_))))
  split
  exacts [.wait c, .wait (.updCtx c.wopen _ _)]

theorem keeps_execFopen {x et fn b a d} : Keeps s (execFopen x et fn b a d s) := by
  unfold execFopen
  exact keeps_issue fun _ _ c => .fopen c

theorem Canon.winReported (c : Canon s) {x it w} : Canon (s.winReported x it w) := by
  unfold State.winReported
  exact .ite (.updCtx c.updItem _ _) (.updSrc c.updItem)

theorem CanonIssue.fwait (c : Canon s) {x it d w n} : CanonIssue (s.fwait x it d w n) :=
  .ite .trap (.ite (.wait c) (.doneS c.winReported))

theorem keeps_execFwaitAll {x et fn b a d} : Keeps s (execFwaitAll x et fn b a d s) := by
  unfold execFwaitAll
  exact keeps_issueFn fun _ _ c => .fwait c

theorem keeps_execFwaitUpto {x et fn b a d} : Keeps s (execFwaitUpto x et fn b a d s) := by
  unfold execFwaitUpto
  exact keeps_issueFn fun _ _ c => .fwait c

theorem keeps_execFwaitPoll {x et fn b a d} : Keeps s (execFwaitPoll x et fn b a d s) := by
  unfold execFwaitPoll
  exact keeps_issueFn fun _ _ c => .fwait c

theorem keeps_execFclose {x et fn b a d} : Keeps s (execFclose x et fn b a d s) := by
  unfold execFclose
  exact keeps_issue fun _ _ c => .ite .trap (.ite (.wait c) (.doneS (.wclose c.winReported)))

theorem CanonIssue.issueReq (c : Canon s) {x w q stall} : CanonIssue (s.issueReq x w q stall) := by
  unfold State.issueReq
  refine .ite ?_ (.wait (c.updCtx _ _))
  split
  next h1 =>
  exact .ite (.done (.evShu (.sendReq (.snd h1 c.injBuffer)))) (.wait (.updCtx (.snd h1 c.injBuffer) _ _))

theorem CanonIssue.remote (c : Canon s) {x it im fa bench n reads al lenOk aligned stall q} : CanonIssue
    (s.remote x it im fa bench n reads al lenOk aligned stall q) := by
  unfold State.remote
  refine .unless (.unless ?_)
  split
  exacts [.trap, .ite .trap (.ite .trap (.issueReq c))]

theorem keeps_execFput {x et fn b a d} : Keeps s (execFput x et fn b a d s) := by
  unfold execFput
  exact keeps_issue fun _ _ c => .remote c

theorem keeps_execFget {x et fn b a d} : Keeps s (execFget x et fn b a d s) := by
  unfold execFget
  exact keeps_issue fun _ _ c => .remote c

theorem keeps_execFatm {x et fn b a d} : Keeps s (execFatm x et fn b a d s) := by
  unfold execFatm
  exact keeps_issue fun _ _ c => .remote c

theorem CanonIssue.localCall (c : Canon s) {x it blk n} : CanonIssue (s.localCall x it blk n) := by
  unfold State.localCall
  refine .ite .cause (.ite (.wait c) ?_)
  extract_lets
  split
  next t3 h1 =>
  have ct3 : Canon t3 := by
    refine .snd h1 (.ite_snd c ?_)
    split
    next h2 =>
    exact .snd h2 c.poolDraw
  extract_lets s4
  have c4 : Canon s4 := ct3.updCtx _ _
  split
  next h5 =>
  exact .done (.ite (.snd h5 c4.takeCall) (.localDone (.callBuf (.snd h5 c4.takeCall))))

theorem keeps_execFcall {x et fn b a d} : Keeps s (execFcall x et fn b a d s) := by
  unfold execFcall
  exact keeps_issue fun _ _ c => .ite (.unless (.localCall c)) (.remote c)

theorem keeps_execIssueStallRelease {x} : Keeps s (execIssueStallRelease x s) := by
  unfold execIssueStallRelease
  split
  · extract_lets t
    have ht : Canon s → Canon t := fun c => c.updCtx _ _
    exact .ite (.next fun c => .ready (ht c)) (.of ht (.ite keeps_execFput (.ite keeps_execFget
      (.ite keeps_execFatm keeps_execFcall))))
  · exact .next id

theorem keeps_execCjoin {x et fn b a d} : Keeps s (execCjoin x et fn b a d s) := by
  unfold execCjoin
  refine keeps_issue fun _ _ c => ?_
  extract_lets
  split
  · exact .trap
  · exact .ite .cause .trap
  · split
    next h1 =>
    refine .ite .cause (.ite (.fault c.locErr) (.ite .cause (.ite .cause (.ite .cause ?_))))
    split
    exacts [.trap, .done (.joinSend (.setS (.setJoin (.snd h1 c.locGet))))]

theorem CanonIssue.withJoin {x n go} (h : ∀ j, CanonIssue (go j)) : CanonIssue (s.withJoin x n go) := by
  unfold State.withJoin
  split
  exacts [.ite .trap (h _), .trap]

theorem keeps_execCwaitWait {x et fn b a d} : Keeps s (execCwaitWait x et fn b a d s) := by
  unfold execCwaitWait
  exact keeps_issueFn fun _ _ c => .withJoin (fun _  => .ite (.doneS c) (.wait c))

theorem keeps_execCwaitPoll {x et fn b a d} : Keeps s (execCwaitPoll x et fn b a d s) := by
  unfold execCwaitPoll
  exact keeps_issueFn fun _ _ c => .withJoin (fun _  => .doneS c)

theorem keeps_execCrel {x et fn b a d} : Keeps s (execCrel x et fn b a d s) := by
  unfold execCrel
  exact keeps_issue fun _ _ c => .withJoin (fun _  => .done c.setJoin)

theorem keeps_execTgate {x et fn b a d} : Keeps s (execTgate x et fn b a d s) := by
  unfold execTgate
  refine keeps_issue fun _ _ c => .ite .cause ?_
  split
  exacts [.trap, .wait (.updCtx (.emit c.setJoin _ _) _ _)]

/-! ### System: control words, counter reads and the SYS functions -/

theorem CanonIssue.ctlIndex {a go} (h : ∀ n, CanonIssue (go n)) : CanonIssue (ctlIndex a go) :=
  .ite .cause (.ite .cause (h _))

theorem keeps_execCtlr {x imm a d} : Keeps s (execCtlr x imm a d s) := by
  unfold execCtlr
  exact keeps_issue fun _ _ c => .ctlIndex (fun _  => .ite .cause (.doneS c))

theorem Canon.traceRecord (c : Canon s) {x it v} : Canon (s.traceRecord x it v) := by
  unfold State.traceRecord
  exact .ite c (.ite (c.bump _ _ _ _) (.log c.update _ _ _ _))

theorem keeps_execCtlw {x imm a d} : Keeps s (execCtlw x imm a d s) := by
  unfold execCtlw
  exact keeps_issue fun _ _ c => .ite .cause (.ctlIndex (fun _  => .ite (.done (c.updCtx _ _))
    (.ite (.done (c.updCtx _ _)) (.ite (.done (c.updCtx _ _)) (.ite (.done c.traceRecord) .cause)))))

theorem keeps_execCntr {x imm a d} : Keeps s (execCntr x imm a d s) := by
  unfold execCntr
  refine keeps_issue fun _ _ c => ?_
  extract_lets
  split
  exacts [.cause, .ite .cause (.doneS c)]

theorem keeps_execYield {x et fn b a d} : Keeps s (execYield x et fn b a d s) := by
  unfold execYield
  exact keeps_issueFn fun _ _ c => .yields c

theorem keeps_execTrap {x et fn b a d} : Keeps s (execTrap x et fn b a d s) := by
  unfold execTrap
  exact keeps_issueFn fun _ _ c => .trap

theorem keeps_execMsync {x et fn b a d} : Keeps s (execMsync x et fn b a d s) := by
  unfold execMsync
  exact keeps_issueFn fun _ _ c => .ite (.wait c) (.ite .cause (.done c))

theorem keeps_execHalt {x et fn b a d} : Keeps s (execHalt x et fn b a d s) := by
  unfold execHalt
  refine keeps_issueFn fun _ _ c => .ite .cause (.ite (.still c) (.ite .cause ?_))
  split <;> exact .ended (.endItem (.closeWindows c.evIssue))

/-! ### Treadle: the power envelope and its inputs -/

theorem Canon.hostEval (c : Canon s) : Canon s.hostEval := c.setReg _ _

theorem Canon.powerEvent (c : Canon s) : Canon s.powerEvent := c.event _ _ _

theorem Canon.trdShow (c : Canon s) {old} : Canon (s.trdShow old) := by
  unfold State.trdShow
  extract_lets s1 s2
  have c1 : Canon s1 := c.setReg _ _
  have c2 : Canon s2 := c1.setReg _ _
  exact .ite c2 c2.powerEvent

theorem Canon.trdForm (c : Canon s) : Canon s.trdForm := by
  unfold State.trdForm
  exact .ite (.hostEval (.setReg c.update _ _)) (.setReg c.update _ _)

theorem Canon.isoSend (c : Canon s) {typ payload} : Canon (s.isoSend typ payload) := by
  unfold State.isoSend
  exact .ite c c.update

theorem Canon.descentFrame (c : Canon s) {cause} : Canon (s.descentFrame cause) := c.isoSend

theorem Canon.backstop (c : Canon s) : Canon s.backstop := by
  unfold State.backstop
  exact .foldl c fun _ _ c => c.update

theorem Canon.safety (c : Canon s) : Canon s.safety := .ite (.trdShow c.backstop) c

theorem Canon.descend (c : Canon s) : Canon s.descend := by
  unfold State.descend
  extract_lets _ _ s1
  have c1 : Canon s1 := c.update
  split
  exacts [.descentFrame c1.update, c1]

theorem keeps_execSupplyAlertAssert : Keeps s (execSupplyAlertAssert s) := by
  unfold execSupplyAlertAssert
  exact .ite (.next fun c => .safety c.update) (.next id)

theorem keeps_execSupplyAlertClear : Keeps s (execSupplyAlertClear s) := by
  unfold execSupplyAlertClear
  exact .ite (.next fun c => c.update) (.next id)

theorem keeps_execFlowAlert : Keeps s (execFlowAlert s) := by
  unfold execFlowAlert
  exact .ite (.next fun c => .safety c.update) (.next id)

theorem keeps_execFlowAlertClear : Keeps s (execFlowAlertClear s) := by
  unfold execFlowAlertClear
  exact .ite (.next fun c => c.update) (.next id)

theorem Canon.latch (c : Canon s) {a w} : Canon (s.latch a w) := by
  unfold State.latch
  exact c.update

theorem keeps_execPowerReportRead {path d} : Keeps s (execPowerReportRead path d s) := by
  unfold execPowerReportRead
  exact .ite (.next fun c => .latch c.update) (.next id)

theorem keeps_execPowerRead {tag} : Keeps s (execPowerRead tag s) := .next fun c => c.serve _ _ _ _ _ fun _ _ c => c

theorem keeps_execPowerReports {tag} : Keeps s (execPowerReports tag s) :=
  .next fun c => c.serve _ _ _ _ _ fun _ _ c => c

theorem Canon.setNotch (c : Canon s) {n0 n} : Canon (s.setNotch n0 n) := by
  unfold State.setNotch
  exact c.update

theorem Canon.setThrottle (c : Canon s) {n0 f} : Canon (s.setThrottle n0 f) := by
  unfold State.setThrottle
  exact .foldl c.update fun _ _ c => .ite c.setPace c

theorem Canon.toolsUp (c : Canon s) {n0} : Canon (s.toolsUp n0) := by
  unfold State.toolsUp
  split
  next h1 =>
  exact .setThrottle (.update (.setNotch (.snd h1 c.draw)))

theorem Canon.toolsDown (c : Canon s) {n0} : Canon (s.toolsDown n0) := by
  unfold State.toolsDown
  exact .ite c.setThrottle (.ite c.update (.ite c.setNotch c))

theorem Canon.tools (c : Canon s) {isOver} : Canon (s.tools isOver) :=
  .foldl c fun _ _ c => .ite c.toolsUp (.ite c c.toolsDown)

theorem Canon.realWork (c : Canon s) {n left} : Canon (s.realWork n left).2 := by
  induction n generalizing s left with
  | zero => exact c
  | succ n ih =>
    unfold State.realWork
    exact ih c.draw

theorem keeps_execClusterShareUpdate : Keeps s (execClusterShareUpdate s) := by
  unfold execClusterShareUpdate
  refine .ite (.next id) ?_
  extract_lets
  split
  next h1 =>
  exact .next fun c => .foldl (.snd h1 c.realWork) fun _ _ c => c.update

theorem keeps_execShuClockSwitch {n0} : Keeps s (execShuClockSwitch n0 s) := by
  unfold execShuClockSwitch
  exact .ite (.next fun c => c.update) (.next id)

theorem Canon.trimAge (c : Canon s) : Canon s.trimAge := .ite (c.setRf _ _ _ _) c

theorem Canon.aonTick (c : Canon s) {n} : Canon (s.aonTick n) := by
  unfold State.aonTick
  exact .foldl (.trimAge c.update) fun _ _ c => .ite (c.ctrAdd _ _ _) c

theorem Canon.shuTick (c : Canon s) : Canon s.shuTick := by
  unfold State.shuTick
  exact .foldl c fun _ _ c => .foldl c fun _ _ c' => .ite (c'.ctrAdd _ _ _) c'

theorem Canon.mapSample (c : Canon s) : Canon s.mapSample := by
  unfold State.mapSample
  exact .foldl (.foldl c fun _ _ c => .ite c (.foldl c fun _ _ c' => c'.update)) fun _ _ c => c.update

theorem Canon.shuExits (c : Canon s) : Canon s.shuExits := .foldl c fun _ _ c => .ite (c.wake _) c

theorem Canon.trdInputs (c : Canon s) : Canon s.trdInputs := by
  unfold State.trdInputs
  exact c.update.update

theorem Canon.trdStep (c : Canon s) {pkg dom} : Canon (s.trdStep pkg dom) := by
  unfold State.trdStep
  extract_lets _ _ s1 s2 _ _ _ _ _ s3 _ _ s4 s5 _ s6 s7 s8 s9
  have c1 : Canon s1 := c.update
  have c2 : Canon s2 := .descend (.trdForm c1.trdInputs)
  have c3 : Canon s3 := .ite (.evDev (c2.bump _ _ _ _) _ _) c2
  have c4 : Canon s4 := .ite (c3.bump _ _ _ _) c3
  have c5 : Canon s5 := .ite (c4.evDev _ _) c4
  have c6 : Canon s6 := c5.update
  have c7 : Canon s7 := c6.tools
  have c8 : Canon s8 := .ite c7 c7.shuExits
  have c9 : Canon s9 := c8.setReg _ _
  exact c9.trdShow

theorem keeps_execTreadleStep {pkg dom} : Keeps s (execTreadleStep pkg dom s) := by
  unfold execTreadleStep
  refine .ite (.next id) ?_
  extract_lets s1
  have c1 : Canon s → Canon s1 := fun c => .mapSample (.shuTick c.aonTick)
  exact .ite (.next c1) (.next fun c => .trdStep (c1 c))

theorem Canon.capWord (c : Canon s) {v} : Canon (s.capWord v).2 := by
  unfold State.capWord
  exact .ite_snd (.trdShow (.update (.mirrorTrd (c.setReg _ _)))) (c.bump _ _ _ _)

theorem keeps_execCapWordWrite {path v} : Keeps s (execCapWordWrite path v s) :=
  .ite (.next fun c => c.capWord) (.next id)

theorem keeps_execCapHoldExpire : Keeps s (execCapHoldExpire s) := by
  unfold execCapHoldExpire
  exact .ite (.next fun c => .trdShow (.setRf c.update _ _ _ _)) (.next id)

theorem keeps_execCapFallbackExpire : Keeps s (execCapFallbackExpire s) := by
  unfold execCapFallbackExpire
  exact .ite (.next fun c => .trdShow c.update) (.next id)

theorem Canon.capRefused (c : Canon s) : Canon s.capRefused := .ite (c.setReg _ _) c

theorem Canon.capReq (c : Canon s) {cap} : Canon (s.capReq cap).2 := by
  unfold State.capReq
  exact .ite_snd (.trdShow c.capRefused) (.trdShow (.hostEval (c.setRf _ _ _ _)))

theorem Canon.sleepReq (c : Canon s) {sleep} : Canon (s.sleepReq sleep).2 := by
  unfold State.sleepReq
  exact .ite_snd (.trdShow (c.setReg _ _)) (.trdShow (.hostEval (c.setRf _ _ _ _)))

theorem Canon.hostReqWord (c : Canon s) {v} : Canon (s.hostReqWord v).2 := by
  unfold State.hostReqWord
  split
  next h1 =>
  refine .ite_snd (.snd h1 c.capReq) ?_
  split
  next h2 =>
  exact .mirrorTrd (.snd h2 (.sleepReq (.snd h1 c.capReq)))

theorem Canon.trdAnswer (c : Canon s) {tag st} : Canon (s.trdAnswer tag st) :=
  .ite c.mirrorAnswer (.finish c.mirrorTrd _ _ _)

theorem keeps_execHostCap {src} : Keeps s (execHostCap src s) := by
  unfold execHostCap
  split
  · exact .ite (.next fun c => c.hostReqWord) (.next id)
  · split
    · exact .next id
    · refine .ite (.next fun c => c.finish _ _ _) ?_
      split
      next h1 =>
      exact .ite (.next fun c => .finish (.snd h1 c.capReq) _ _ _) (.next fun c => .trdAnswer (.snd h1 c.capReq))

theorem keeps_execSleep {src} : Keeps s (execSleep src s) := by
  unfold execSleep
  split
  · exact .ite (.next fun c => c.hostReqWord) (.next id)
  · split
    · exact .next id
    · refine .ite (.next fun c => c.finish _ _ _) ?_
      split
      next h1 =>
      exact .ite (.next fun c => .finish (.snd h1 c.sleepReq) _ _ _)
        (.next fun c => .trdAnswer (.snd h1 c.sleepReq))

theorem Canon.alertClear (c : Canon s) {m} : Canon (s.alertClear m) := .trdShow (c.setReg _ _)

theorem keeps_execHostCfg {tag} : Keeps s (execHostCfg tag s) := by
  unfold execHostCfg
  split
  · exact .next id
  · exact .ite (.next fun c => c.finish _ _ _) (.ite (.next fun c => c.finish _ _ _)
      (.next fun c => .trdAnswer (.alertClear (.setReg (c.setReg _ _) _ _))))

theorem keeps_execTrdAlertClear {path v} : Keeps s (execTrdAlertClear path v s) :=
  .ite (.next fun c => c.alertClear) (.next id)

theorem keeps_execTrdErrClear {path v} : Keeps s (execTrdErrClear path v s) :=
  .ite (.next fun c => c.setReg _ _) (.next id)

theorem keeps_execDemandFrameTx : Keeps s (execDemandFrameTx s) := .next fun c => .ite c c.isoSend

theorem keeps_execIsoStatusFrameRx {b} : Keeps s (execIsoStatusFrameRx b s) := by
  unfold execIsoStatusFrameRx
  exact .ite (.next id) (.ite (.next fun c => .setRf (.setRf c.update _ _ _ _) _ _ _ _)
    (.next fun c => c.bump _ _ _ _))

theorem keeps_execIsoLostTimeout : Keeps s (execIsoLostTimeout s) :=
  .ite (.next id) (.next fun c => .powerEvent (c.setRf _ _ _ _))

theorem keeps_execIsoStatusClear {path v} : Keeps s (execIsoStatusClear path v s) :=
  .ite (.next fun c => .setRf (c.setRf _ _ _ _) _ _ _ _) (.next id)

theorem keeps_execSwGateTimer {n0} : Keeps s (execSwGateTimer n0 s) := by
  unfold execSwGateTimer
  exact .ite (.next fun c => c.toDepth) (.next id)

theorem keeps_execShuGateTimer {n0} : Keeps s (execShuGateTimer n0 s) := by
  unfold execShuGateTimer
  exact .ite (.next fun c => .ite (.wake c.toDepth _) c.toDepth) (.next id)

theorem keeps_execShuRetainTimer {n0} : Keeps s (execShuRetainTimer n0 s) :=
  .ite (.next fun c => c.toDepth) (.next id)

theorem keeps_execReedGateTimer {n0} : Keeps s (execReedGateTimer n0 s) :=
  .ite (.next fun c => c.toDepth) (.next id)

theorem keeps_execReedRetainTimer {n0} : Keeps s (execReedRetainTimer n0 s) :=
  .ite (.next fun c => c.toDepth) (.next id)

theorem keeps_execHbmSrTimer {n} : Keeps s (execHbmSrTimer n s) := .ite (.next fun c => c.toDepth) (.next id)

theorem Canon.clearCtxs (c : Canon s) (p : Nat → Bool) : Canon { s with ctxs := tabClear p s.ctxs } := by
  obtain ⟨hregs, hports, hpools, hgroups, hmem, hctxs, hcarts⟩ := c
  exact ⟨hregs, hports, hpools, hgroups, hmem, tabWf_tabClear p hctxs, hcarts⟩

theorem Canon.offLoss (c : Canon s) {d} : Canon (s.offLoss d) := by
  unfold State.offLoss
  exact .ite (c.clearRegs _).poolRebuild (.ite ((c.clearRegs _).clearCtxs _)
    (.ite (c.setRf _ _ _ _) (.ite (c.memClear _ _) c)))

theorem Canon.offNow (c : Canon s) {d k} : Canon (s.offNow d k) := .toOff c.offLoss

theorem Canon.wakeUp (c : Canon s) {d} : Canon (s.wakeUp d) := .ite c (c.wake _)

theorem Canon.sinkTo (c : Canon s) {d x} : Canon (s.sinkTo d x) := .ite c c.toDepth

theorem keeps_execDeepIdleEnter : Keeps s (execDeepIdleEnter s) := by
  unfold execDeepIdleEnter
  exact .ite (.next fun c => .trdShow (.foldl (.foldl (.sinkTo (.sinkTo c.update)) fun _ _ c => .sinkTo
    (.sinkTo (.sinkTo (.ite c c.offNow)))) fun _ _ c => c.sinkTo)) (.next id)

/-! ### Pair: the dovetail pair -/

theorem Canon.putClaim (c : Canon s) {n0} : Canon (s.putClaim n0) := by
  unfold State.putClaim
  exact .foldl c fun _ _ c => c.setCart _ _

theorem Canon.setLast (c : Canon s) {st} : Canon (s.setLast st) := c.setRf _ _ _ _

theorem Canon.toRole (c : Canon s) {r} : Canon (s.toRole r) := by
  unfold State.toRole
  exact .trdShow (.pairEvent (c.setRf _ _ _ _))

theorem Canon.toMirror (c : Canon s) {m} : Canon (s.toMirror m) := .ite c (.pairEvent (c.setRf _ _ _ _))

theorem Canon.mirrorStop (c : Canon s) {m} : Canon (s.mirrorStop m) := by
  unfold State.mirrorStop
  exact .ite c (.update (.pairEvent c.mirrorEnd))

theorem Canon.poolDrop (c : Canon s) {f} : Canon (s.poolDrop f) := by
  unfold State.poolDrop
  exact .foldl c fun _ _ c => c.setPool _ _

theorem Canon.dropFlows (c : Canon s) : Canon s.dropFlows := by
  unfold State.dropFlows
  exact .foldl c.update fun _ _ c => c.reorderUse

theorem Canon.dropWork (c : Canon s) : Canon s.dropWork := by
  obtain ⟨hregs, hports, hpools, hgroups, hmem, -, hcarts⟩ := c
  exact ⟨hregs, hports, hpools, hgroups, hmem, rfl, hcarts⟩

theorem Canon.dropGroups (c : Canon s) : Canon s.dropGroups := .foldl c fun _ _ c => c.groupFree

theorem Canon.standbyDepths (c : Canon s) : Canon s.standbyDepths := by
  unfold State.standbyDepths
  refine .foldl c fun _ _ c => ?_
  extract_lets s1 s2
  have c1 : Canon s1 := .ite c c.offNow
  have c2 : Canon s2 := .wakeUp c1.sinkTo
  exact .ite c2.wakeUp (.ite c2.sinkTo c2)

theorem Canon.receiveAgain (c : Canon s) : Canon s.receiveAgain := by
  unfold State.receiveAgain
  exact .update (c.setRf _ _ _ _)

theorem Canon.becomeStandby (c : Canon s) : Canon s.becomeStandby := by
  unfold State.becomeStandby
  exact .standbyDepths (.foldl (.toRole (.receiveAgain (.putClaim
    (.dropGroups (.poolDrop (.dropFlows (.dropWork c.mirrorStop))))))) fun _ _ c => .ite c c.standbyHold)

theorem Canon.hbFrame (c : Canon s) {typ} : Canon (s.hbFrame typ) := by
  unfold State.hbFrame
  exact c.update

theorem Canon.hbPacket (c : Canon s) {p} : Canon (s.hbPacket p) := by
  unfold State.hbPacket
  exact .setOutq c.update _ _ _

theorem keeps_execHeartbeatTx : Keeps s (execHeartbeatTx s) := by
  unfold execHeartbeatTx
  refine .ite (.next id) ?_
  extract_lets _ s1 _ s2
  have c1 : Canon s → Canon s1 := fun c => .foldl c fun _ _ c => c.hbPacket
  have c2 : Canon s → Canon s2 := fun c => .update (c1 c)
  exact .next fun c => .ite (.hbFrame (c2 c)) (c2 c)

theorem Canon.abdicate (c : Canon s) : Canon s.abdicate := by
  unfold State.abdicate
  exact .ite (.ite (.hbFrame (.pairMsg c.update)) (.pairMsg c.update)) c

theorem Canon.portInstall (c : Canon s) {p b} : Canon (s.portInstall p b) := by
  unfold State.portInstall
  refine .ite c ?_
  extract_lets _ s1 s2 s3
  have c1 : Canon s1 := .ite c.portUnreserve c
  have c2 : Canon s2 := .setReg (.setReg (c1.setReg _ _) _ _) _ _
  have c3 : Canon s3 := .setReg (c2.setRegs _ _) _ _
  exact .ite (.getD (fun _ h => c3.portReserve h) c3) c3

theorem Canon.takeTables (c : Canon s) : Canon s.takeTables := by
  unfold State.takeTables
  extract_lets s1 s2 s3 s4 s5
  have c1 : Canon s1 := c.clearRegs _
  have c2 : Canon s2 := .foldl c1 fun _ _ c => c.setRegs _ _
  have c3 : Canon s3 := .foldl c2 fun _ _ c => c.setRegs _ _
  have c4 : Canon s4 := .foldl c3 fun _ _ c => c.setRf _ _ _ _
  have c5 : Canon s5 := .foldl c4 fun _ _ c => .update (.setRegs (.setRegs (c.setRegs _ _) _ _) _ _)
  exact .foldl c5 fun _ _ c => .setRf (.foldl c fun _ _ c' => c'.portInstall) _ _ _ _

theorem Canon.imageInstall (c : Canon s) {j b} : Canon (s.imageInstall j b) := by
  unfold State.imageInstall
  refine .ite c ?_
  extract_lets
  split
  next h1 =>
  split
  next h2 =>
  split
  next h3 =>
  extract_lets
  split
  next t5 h4 =>
  have ct5 : Canon t5 := by
    refine .snd h4 (.foldl_snd (.snd h3 (.draw (.snd h2 (.draw (.snd h1 c.draw))))) fun _ _ c => ?_)
    split
    exacts [c, .setReg (c.setReg _ _) _ _]
  exact .setImage (.setRegs (.foldl (.foldl (.getD (fun _ h => ct5.loadBobs h) ct5) fun _ _ c => c.setSrc _ _)
    fun _ _ c => c.update) _ _) _ _

theorem Canon.groupInstall (c : Canon s) {g b} : Canon (s.groupInstall g b) := by
  unfold State.groupInstall
  refine .ite c ?_
  extract_lets s1 _ s2 s3 _ s4 _ s5
  have c1 : Canon s1 := c.setRegs _ _
  have c2 : Canon s2 := c1.setRegs _ _
  have c3 : Canon s3 := c2.setRegs _ _
  have c4 : Canon s4 := c3.groupReserve
  have c5 : Canon s5 := .setGroup (c4.setRf _ _ _ _) _ _
  exact .ite c5.failInstance c5

theorem Canon.slotsInstall (c : Canon s) : Canon s.slotsInstall := by
  unfold State.slotsInstall
  refine .foldl (.foldl (.foldl (.clearRegs c.update _) fun _ _ c => .setRegs (.setRegs (c.setRegs _ _) _ _) _ _)
    fun _ _ c => c.setPte) fun _ _ c => .ite c ?_
  extract_lets s1 s2
  have c1 : Canon s1 := .foldl c fun _ _ c' => c'.setFrame
  have c2 : Canon s2 := .foldl c1 fun _ _ c' => .ite c' c'.setFrame
  exact .ite (c2.setRf _ _ _ _) c2

theorem Canon.dropResident (c : Canon s) : Canon s.dropResident := by
  unfold State.dropResident
  exact .foldl c fun _ _ c => .ite c (.setImage (.update (.update
    (.foldl (.clearRegs c.poolDrop _) fun _ _ c' => .ite (.setReg (c'.setReg _ _) _ _) c'))) _ _)

theorem Canon.claim (c : Canon s) : Canon s.claim := by
  unfold State.claim
  exact .ite c (.ite (.pairEvent c.setLast) (.takeTables (.putClaim
    (.foldl (.setReg c.toRole _ _) fun _ _ c => c.wake _))))

theorem keeps_execSelectorSwitchDone {k st} : Keeps s (execSelectorSwitchDone k st s) := by
  unfold execSelectorSwitchDone
  refine .ite (.next id) (.ite ?_ (.ite (.next fun c => .toRole (c.setCart _ _)) (.next fun c => c.setCart _ _)))
  extract_lets _ s1
  have c1 : Canon s → Canon s1 := fun c => .ite (.bump (c.setCart _ _) _ _ _ _) (c.setCart _ _)
  exact .ite (.next fun c => .foldl (c1 c) fun _ _ c => .ite c.sendParams c)
    (.ite (.next fun c => .pairEvent (.setLast (.becomeStandby (c1 c)))) (.next c1))

theorem keeps_execTakeoverComplete {gap} : Keeps s (execTakeoverComplete gap s) := by
  unfold execTakeoverComplete
  exact .ite (.next id) (.next fun c => .pairEvent (.update
    (.slotsInstall (.foldl (.foldl (.dropGroups (.dropResident
    (.foldl (.foldl (.toRole (.update (.setRf (.setRf (.setLast (.bump (c.setReg _ _) _ _ _ _)) _ _ _ _) _ _ _ _)))
    fun _ _ c => .wake (.wake (.wake (c.wake _) _) _) _) fun _ _ c => .ite c.toTrain c))) fun _ _ c =>
    c.imageInstall) fun _ _ c => c.groupInstall))))

theorem keeps_execSelectorPoll {statuses} : Keeps s (execSelectorPoll statuses s) := by
  unfold execSelectorPoll
  refine .ite (.next id) ?_
  extract_lets s1
  have c1 : Canon s → Canon s1 := fun c => .foldl c fun _ _ c => c.setCart _ _
  exact .ite (.next fun c => .pairEvent (.becomeStandby (c1 c))) (.next c1)

theorem Canon.baselineClose (c : Canon s) : Canon s.baselineClose := by
  unfold State.baselineClose
  exact .ite (.pairMsg c.update) c

theorem Canon.baselineStart (c : Canon s) : Canon s.baselineStart := by
  unfold State.baselineStart
  refine .mirrorPush (.baselineClose (.foldl (.foldl (.foldl
    (.foldl (.foldl (.mirrorTrd (.mirrorPorts (.mirrorSelf (.pairMsg (.pairEvent (.setRf c.update _ _ _ _))))))
    fun _ _ c => c.mirror) fun _ _ c => c.mirror) fun _ _ c => c.mirror) fun _ _ c => .mirror c.pushImage)
    fun _ _ c => ?_))
  extract_lets s1 s2 s3
  have c1 : Canon s1 := c.mirrorSlot
  have c2 : Canon s2 := .foldl c1 fun _ _ c' => c'.mirror
  have c3 : Canon s3 := c2.setRf _ _ _ _
  exact .ite (.foldl c3 fun _ _ c' => .ite c' c'.pushData) c2

theorem Canon.baselineMay (c : Canon s) {peerRole} : Canon (s.baselineMay peerRole) := .ite c.baselineStart c

theorem Canon.pairSink (c : Canon s) {port kind pkt} : Canon (s.pairSink port kind pkt).2 := by
  unfold State.pairSink
  split
  next h1 =>
  exact .snd h1 (c.sink _ _ _)

theorem keeps_execPairMsgAck {port pkt} : Keeps s (execPairMsgAck port pkt s) := by
  unfold execPairMsgAck
  split
  next h1 =>
  extract_lets
  split
  · exact .next fun c => .snd h1 c.pairSink
  · refine .ite (.next fun c => .snd h1 c.pairSink) ?_
    extract_lets s2 _ s3 s4 s5 s6
    have c2 : Canon s → Canon s2 := fun c => .update (.snd h1 c.pairSink)
    have c3 : Canon s → Canon s3 := by
      intro c
      unfold s3
      split
      exacts [.update (.sendItem (c2 c)), c2 c]
    have c4 : Canon s → Canon s4 := by
      intro c
      unfold s4
      split
      exacts [.finish (c3 c) _ _ _, c3 c]
    have c5 : Canon s → Canon s5 := fun c => .baselineClose (c4 c)
    have c6 : Canon s → Canon s6 := fun c => .ite (.toMirror (c5 c)) (c5 c)
    exact .next fun c => .mirrorPush (.ownStep (c6 c))

theorem keeps_execMirrorAckTimeout : Keeps s (execMirrorAckTimeout s) :=
  .ite (.next fun c => c.mirrorStop) (.ite (.next fun c => c.setRf _ _ _ _) (.next id))

theorem keeps_execEpochMirrorTimer : Keeps s (execEpochMirrorTimer s) :=
  .ite (.next fun c => c.mirrorPut) (.next id)

theorem Canon.standbyReady (c : Canon s) : Canon s.standbyReady := by
  unfold State.standbyReady
  split
  · refine .ite ?_ c
    generalize hb : ({ s with pair := have p := s.pair; { p with baseline := false, baseCount := none } }
      : State) = t
    have ct : Canon t := hb ▸ c.update
    extract_lets +onlyGivenNames s1 s2
    have c2 : Canon s2 := .toMirror (.setRf ct _ _ _ _)
    split
    exacts [.finish c2.update _ _ _, c2]
  · exact c

theorem Canon.applyItem (c : Canon s) {m b} : Canon (s.applyItem m b) := by
  unfold State.applyItem
  extract_lets _ s1
  have c1 : Canon s1 := c.update
  split
  next t3 h2 =>
  have ct3 : Canon t3 := by
    refine .snd h2 ?_
    split
    exacts [c1, c1.update]
  exact .standbyReady (.ite ct3 ct3.pairMsg)

theorem Canon.applyItems (c : Canon s) : Canon s.applyItems := .ite c (.foldl c fun _ _ c => c.applyItem)

theorem keeps_execPairMsgItem {port pkt} : Keeps s (execPairMsgItem port pkt s) := by
  unfold execPairMsgItem
  split
  next h1 =>
  exact .ite (.next fun c => .snd h1 c.pairSink) (.ite (.next fun c => .pairMsg (.snd h1 c.pairSink))
    (.next fun c => .applyItems (.update (.snd h1 c.pairSink))))

theorem keeps_execPairMsgBaselineStart {port pkt} : Keeps s (execPairMsgBaselineStart port pkt s) := by
  unfold execPairMsgBaselineStart
  split
  next h1 =>
  exact .ite (.next fun c => .toMirror (.setRf (.update (.snd h1 c.pairSink)) _ _ _ _))
    (.next fun c => .snd h1 c.pairSink)

theorem keeps_execPairMsgBaselineEnd {port pkt} : Keeps s (execPairMsgBaselineEnd port pkt s) := by
  unfold execPairMsgBaselineEnd
  split
  next h1 =>
  exact .ite (.next fun c => .standbyReady (.update (.snd h1 c.pairSink))) (.next fun c => .snd h1 c.pairSink)

theorem keeps_execPairMsgAbdicate {port pkt} : Keeps s (execPairMsgAbdicate port pkt s) := by
  unfold execPairMsgAbdicate
  split
  next h1 =>
  exact .next fun c => .ite (.claim (.snd h1 c.pairSink)) (.snd h1 c.pairSink)

theorem Canon.heard (c : Canon s) {inband claim flags} : Canon (s.heard inband claim flags) := by
  unfold State.heard
  extract_lets _ _ s1 _ s2 s3 s4
  have c1 : Canon s1 := .setReg (c.setRf _ _ _ _) _ _
  have c2 : Canon s2 := c1.update
  have c3 : Canon s3 := .ite c2.pairEvent c2
  have c4 : Canon s4 := .ite (.toMirror (c3.setRf _ _ _ _)) c3
  exact .ite c4.claim c4

theorem keeps_execPairHb {port pkt} : Keeps s (execPairHb port pkt s) := by
  unfold execPairHb
  split
  next h1 =>
  refine .ite ?_ (.next fun c => .snd h1 (c.sink _ _ _))
  extract_lets _ s2 _ s3
  have c2 : Canon s → Canon s2 := fun c => .heard (.snd h1 (c.sink _ _ _))
  have c3 : Canon s → Canon s3 := fun c => .ite (.update (c2 c)) (c2 c)
  exact .next fun c => .baselineMay (c3 c)

theorem keeps_execHbFrameRx {b} : Keeps s (execHbFrameRx b s) := by
  unfold execHbFrameRx
  exact .ite (.next id) (.ite (.next fun c => c.bump _ _ _ _) (.ite (.next id) (.next fun c => c.heard)))

theorem keeps_execHbPathSilent {inband} : Keeps s (execHbPathSilent inband s) := by
  unfold execHbPathSilent
  refine .ite (.next id) ?_
  extract_lets +onlyGivenNames b s1
  have c1 : Canon s → Canon s1 := fun c => .setRf (c.setRf _ _ _ _) _ _ _ _
  generalize (if inband then have p := s1.pair; { p with peerIn := 0 } else have p := s1.pair;
    { p with peerSide := 0 } : Pair) = p
  extract_lets s2 s3 s4
  have c3 : Canon s → Canon s3 := fun c => .pairEvent (c1 c).update
  have c4 : Canon s → Canon s4 := fun c => .claim (c3 c)
  exact .ite (.next c3) (.ite (.next fun c => .mirrorStop (c3 c))
    (.next fun c => .ite (.toMirror (.setRf (c4 c) _ _ _ _)) (c4 c)))

theorem Canon.pairSet (c : Canon s) {partner a b claim hb} : Canon (s.pairSet partner a b claim hb) := by
  unfold State.pairSet
  refine .ite ?_ ?_
  · extract_lets _ s1 s2 s3
    have c1 : Canon s1 := .foldl (.setRf (.setReg (c.setReg _ _) _ _) _ _ _ _) fun _ _ c => c.setRf _ _ _ _
    have c2 : Canon s2 := .setRf c1.mirrorStop _ _ _ _
    have c3 : Canon s3 := .ite c2 c2.toRole
    exact .ite (.foldl c3 fun _ _ c => c.portDark) c3
  · extract_lets s4 s5 s6
    have c4 : Canon s4 := .putClaim (.holdKeep (.setRf (.setReg (c.setReg _ _) _ _) _ _ _ _))
    have c5 : Canon s5 := .foldl c4 fun _ _ c => c.setRf _ _ _ _
    have c6 : Canon s6 := .foldl c5 fun _ _ c => .ite c.pairFwd c
    exact .ite (.ite c6 c6.toRole) (.ite c6 c6.becomeStandby)

theorem keeps_execPairConfig {tag} : Keeps s (execPairConfig tag s) := by
  unfold execPairConfig
  split
  · exact .next id
  · exact .ite (.next fun c => .finish c.setLast _ _ _) (.ite (.next fun c => .finish c.setLast _ _ _)
      (.next fun c => .finish (.pairSet c.setLast) _ _ _))

theorem keeps_execPairStatus {tag} : Keeps s (execPairStatus tag s) :=
  .next fun c => c.serve _ _ _ _ _ fun _ _ c => c

theorem keeps_execPairSwap {tag} : Keeps s (execPairSwap tag s) := by
  unfold execPairSwap
  split
  · exact .next id
  · exact .ite (.next fun c => .finish c.setLast _ _ _) (.next fun c => .foldl (.update (.hold c.setLast _))
      fun _ _ c => .ite c.askHold c)

theorem keeps_execSwapAbdicate : Keeps s (execSwapAbdicate s) := .ite (.next fun c => c.abdicate) (.next id)

theorem keeps_execDvtErrClear {path v} : Keeps s (execDvtErrClear path v s) :=
  .ite (.next fun c => c.setReg _ _) (.next id)

/-! ### Reset: supplies, boot, resets, domains and self-tests -/

theorem Canon.fwEvent (c : Canon s) {ident} : Canon (s.fwEvent ident) := c.event _ _ _

theorem Canon.compSet (c : Canon s) {ident st slot svn} : Canon (s.compSet ident st slot svn) :=
  .setRf (.setRf (c.setRf _ _ _ _) _ _ _ _) _ _ _ _

theorem Canon.bootPut (c : Canon s) {active trial tries} : Canon (s.bootPut active trial tries) := by
  unfold State.bootPut
  exact c.update

theorem Canon.secShow (c : Canon s) : Canon s.secShow := by
  unfold State.secShow
  exact .setRf (.setRf (.setRf (.setRf (c.setRf _ _ _ _) _ _ _ _) _ _ _ _) _ _ _ _) _ _ _ _

theorem Canon.slotSvn (c : Canon s) {slot} : Canon (s.slotSvn slot).2 := by
  unfold State.slotSvn
  split
  exacts [c, c.draw]

theorem Canon.secBoot (c : Canon s) : Canon s.secBoot := by
  unfold State.secBoot
  extract_lets _ s1 _ _ _ _ s2 s3
  have c1 : Canon s1 := .ite (.ite c.bootPut c.bootPut) c
  have c2 : Canon s2 := c1.update
  have c3 : Canon s3 := c2.setReg _ _
  split
  next h4 =>
  exact .compSet (.secShow (.snd h4 c3.slotSvn))

theorem Canon.cartsForget (c : Canon s) : Canon s.cartsForget := by
  unfold State.cartsForget
  exact .foldl c fun _ _ c => c.setCart _ _

theorem Canon.tablesLost {s : State} (c : Canon s)
    {pending free aon pwr sw flows seq shed grpCmd host fw trd thm pair cnt} :
    Canon ⟨pending, free, aon, s.regs, pwr, [], sw, [], flows, [], [], seq, shed, [], grpCmd,
      host, fw, trd, thm, s.carts, pair, cnt⟩ := by
  obtain ⟨hregs, -, -, -, -, -, hcarts⟩ := c
  exact ⟨hregs, rfl, rfl, rfl, rfl, rfl, hcarts⟩

theorem Canon.loseMain (c : Canon s) : Canon s.loseMain := by
  unfold State.loseMain
  refine .tablesLost (.foldl (.setRf (.clearRegs (.setRf (.cartsForget (.ite ?_ c)) _ _ _ _) _) _ _ _ _) ?_)
  · exact c.setRf _ _ _ _
  · exact fun _ _ c => c.setRf _ _ _ _

theorem Canon.allOff (c : Canon s) {k} : Canon (s.allOff k) := .foldl c fun _ _ c => c.toOff

theorem Canon.stopMain (c : Canon s) : Canon s.stopMain := .allOff c.loseMain

theorem Canon.cause (c : Canon s) {kind source} : Canon (s.cause kind source) := by
  unfold State.cause
  extract_lets s1
  have c1 : Canon s1 := .setRf (c.setRf _ _ _ _) _ _ _ _
  exact .ite (c1.bump _ _ _ _) (.ite (c1.bump _ _ _ _) (.ite (c1.bump _ _ _ _) c1))

theorem Canon.bootStart (c : Canon s) : Canon s.bootStart := by
  unfold State.bootStart
  refine .ite (.update (.allOff (c.clearRegs _))) ?_
  extract_lets _ s1 s2
  have c1 : Canon s1 := .update (.allOff (c.clearRegs _))
  have c2 : Canon s2 := .toDepth c1.toDepth
  exact .secBoot (.ite c2.toDepth c2)

theorem Canon.coldMain (c : Canon s) {source} : Canon (s.coldMain source) := by
  unfold State.coldMain
  exact .trdShow (.bootStart (.update (.ite c.cause c)))

theorem keeps_execVinAonApply : Keeps s (execVinAonApply s) := .next fun _ => canon_reset.update

theorem keeps_execVinAonLoss : Keeps s (execVinAonLoss s) := by
  unfold execVinAonLoss
  extract_lets
  exact .next fun _ => .toOff (.allOff canon_reset.update)

theorem keeps_execVinMainLoss : Keeps s (execVinMainLoss s) := by
  unfold execVinMainLoss
  exact .ite (.next fun c => .trdShow (.update (.stopMain c.abdicate))) (.next id)

theorem keeps_execMainPowerGood {leadSel bootSrc} : Keeps s (execMainPowerGood leadSel bootSrc s) := by
  unfold execMainPowerGood
  refine .ite ?_ (.next id)
  extract_lets _ s1
  have c1 : Canon s → Canon s1 := fun c => c.update
  split
  next h2 =>
  extract_lets s3
  have c3 : Canon s → Canon s3 := fun c => .setRf (.snd h2 (.draw (c1 c))) _ _ _ _
  exact .next fun c => .ite (.coldMain (c3 c)) (c3 c)

theorem keeps_execVinIoLoss : Keeps s (execVinIoLoss s) := by
  unfold execVinIoLoss
  exact .next fun c => .trdShow (.update (.ite c.stopMain c))

theorem keeps_execVinIoReturn : Keeps s (execVinIoReturn s) := by
  unfold execVinIoReturn
  exact .ite (.next id) (.next fun c => .ite (.coldMain c.update) c.update)

theorem Canon.allLock (c : Canon s) : Canon s.allLock := by
  unfold State.allLock
  exact .foldl (c.setRf _ _ _ _) fun _ _ c => .ite c (.foldl (c.setRf _ _ _ _) fun _ _ c' => c'.updPort _ _)

theorem keeps_execPllLockDone : Keeps s (execPllLockDone s) := by
  unfold execPllLockDone
  exact .ite (.next id) (.ite (.next fun c => .foldl c.allLock.update fun _ _ c => .wake (c.wake _) _)
    (.next fun c => c.allLock))

theorem keeps_execClusterSramBistDone {n0 pass} : Keeps s (execClusterSramBistDone n0 pass s) := by
  unfold execClusterSramBistDone
  refine .ite ?_ (.next id)
  extract_lets _ s1 s2 _ s3
  have c1 : Canon s → Canon s1 := fun c => c.update
  have c2 : Canon s → Canon s2 := fun c => .ite (.carve (.toDepth c.toDepth)) (.toOff (.toOff (.toOff (c1 c))))
  have c3 : Canon s → Canon s3 := fun c => .update (c2 c)
  exact .ite (.next fun c => .wake (.wake (c3 c) _) _) (.next c2)

theorem Canon.hbmTrain (c : Canon s) {n pass} : Canon (s.hbmTrain n pass) := by
  unfold State.hbmTrain
  exact .ite (.setRf (.setRf c.toDepth _ _ _ _) _ _ _ _) (.setRf (.setRf (.toOff c.update) _ _ _ _) _ _ _ _)

theorem keeps_execHbmPairTrained {pair pass0 pass1} : Keeps s (execHbmPairTrained pair pass0 pass1 s) := by
  unfold execHbmPairTrained
  refine .ite (.ite ?_ (.next fun c => .wake (.wake (.update (.hbmTrain c.hbmTrain)) _) _)) (.next id)
  extract_lets _ _ s1
  have c1 : Canon s → Canon s1 := fun c => .update (.update (.hbmTrain c.hbmTrain))
  exact .next fun c => .ite (c1 c) (.foldl (c1 c) fun _ _ c => c.sinkTo)

theorem Canon.serviceLoad (c : Canon s) {lib b} : Canon (s.serviceLoad lib b) := by
  unfold State.serviceLoad
  split
  · exact c
  · split
    next h1 =>
    exact .ite c (.setRf (.imgCopy (.snd h1 c.imgReserve)) _ _ _ _)

theorem Canon.compsRun (c : Canon s) : Canon s.compsRun := by
  unfold State.compsRun
  extract_lets _ _ s1 s2
  have c1 : Canon s1 := .foldl c fun _ _ c => c.compSet
  have c2 : Canon s2 := .ite c1 c1.compSet
  split
  exacts [c2, .foldl c2 fun _ _ c => .ite c c.compSet]

theorem Canon.mergeLog (c : Canon s) : Canon s.mergeLog := by
  unfold State.mergeLog
  exact .foldl c.update fun _ _ c => .setReg c.update _ _

theorem keeps_execBootComplete : Keeps s (execBootComplete s) := by
  unfold execBootComplete
  refine .ite ?_ (.next id)
  extract_lets _ _ s1 s2 s3 s4 s5 _ s6 _ s7
  have c1 : Canon s → Canon s1 := fun c => c.update
  have c2 : Canon s → Canon s2 := fun c => .mergeLog (.compsRun (.setRf (.setRf (c1 c) _ _ _ _) _ _ _ _))
  have c3 : Canon s → Canon s3 := fun c => .ite (.setRf (.putClaim (c2 c)) _ _ _ _) (c2 c)
  have c4 : Canon s → Canon s4 := by
    intro c
    unfold s4
    split
    exacts [c3 c, .foldl (c3 c) fun _ _ c => .ite c c.serviceLoad]
  have c5 : Canon s → Canon s5 := fun c => .foldl (c4 c) fun _ _ c => c.event _ _ _
  have c6 : Canon s → Canon s6 := fun c => .foldl (c5 c) fun _ _ c => c.setRf _ _ _ _
  have c7 : Canon s → Canon s7 := fun c => .ite (.fwEvent (.setRf (.update (c6 c)) _ _ _ _)) (c5 c)
  exact .next fun c => .ite (.foldl (c7 c) fun _ _ c => c.portCfgSet) (c7 c)

theorem Canon.shuttlesLost (c : Canon s) {n0} : Canon (s.shuttlesLost n0) := by
  unfold State.shuttlesLost
  exact .foldl c fun _ _ c => .ite c.endItem c.itemGone

theorem keeps_execRefclkFabLoss : Keeps s (execRefclkFabLoss s) := by
  unfold execRefclkFabLoss
  refine .ite (.next id) ?_
  extract_lets _ s1 _ s2 s3 s4 s5 s6
  have c1 : Canon s → Canon s1 := fun c => c.abdicate
  have c2 : Canon s → Canon s2 := fun c => .update (c1 c)
  have c3 : Canon s → Canon s3 := fun c => .setRf (.setRf (.setRf (c2 c) _ _ _ _) _ _ _ _) _ _ _ _
  have c4 : Canon s → Canon s4 := fun c => .portsDown (c3 c)
  have c5 : Canon s → Canon s5 := fun c => .foldl (c4 c) fun _ _ c => .foldl (c.setRf _ _ _ _) fun _ _ c' =>
    c'.updPort _ _
  have c6 : Canon s → Canon s6 := fun c => .foldl (c5 c) fun _ _ c => .shuttlesLost c.reedLost
  exact .next fun c => .ite (.becomeStandby (c6 c)) (c6 c)

theorem keeps_execRefclkFabReturn : Keeps s (execRefclkFabReturn s) := by
  unfold execRefclkFabReturn
  refine .ite (.next id) ?_
  extract_lets s1 _ s2 s3
  have c1 : Canon s → Canon s1 := fun c => c.setRf _ _ _ _
  have c2 : Canon s → Canon s2 := fun c => .update (c1 c)
  have c3 : Canon s → Canon s3 := fun c => .foldl (c2 c) fun _ _ c => .ite (.updPort (c.setRf _ _ _ _) _ _) c
  exact .next fun c => .ite (.allLock (c3 c)) (c3 c)

theorem Canon.trim (c : Canon s) : Canon s.trim := by
  unfold State.trim
  exact .update (c.setRf _ _ _ _)

theorem keeps_execAonTrim : Keeps s (execAonTrim s) := .ite (.next fun c => c.trim) (.next id)

theorem keeps_execPllLockLoss {kind idx} : Keeps s (execPllLockLoss kind idx s) :=
  .ite (.next fun c => .reedLost (.portsDown (c.setRf _ _ _ _)))
    (.ite (.next fun c => .shuttlesLost (c.setRf _ _ _ _)) (.ite
    (.next fun c => .foldl (.portsDown (c.setRf _ _ _ _)) fun _ _ c => c.updPort _ _) (.next id)))

theorem keeps_execDomainRun {tag} : Keeps s (execDomainRun tag s) := by
  unfold execDomainRun
  split
  · exact .next id
  · exact .ite (.next fun c => c.finish _ _ _) (.ite (.next id)
      (.ite (.next fun c => c.finish _ _ _) (.next fun c => .finish (.ite (c.setDom _ _) (c.wake _)) _ _ _)))

theorem keeps_execDomainOff {tag} : Keeps s (execDomainOff tag s) := by
  unfold execDomainOff
  split
  · exact .next id
  · exact .ite (.next fun c => c.finish _ _ _) (.ite (.next id)
      (.ite (.next fun c => c.finish _ _ _) (.next fun c => .finish c.offNow _ _ _)))

theorem keeps_execDomainExitDone {d} : Keeps s (execDomainExitDone d s) := by
  unfold execDomainExitDone
  refine .ite (.next id) ?_
  extract_lets _ _ s1 s2 _ s3 s4 _ s5
  have c1 : Canon s → Canon s1 := fun c => c.setDom _ _
  have c2 : Canon s → Canon s2 := fun c => .ite (.hbmTrain (c1 c)) (c1 c)
  have c3 : Canon s → Canon s3 := fun c => .ite (.bump (c2 c) _ _ _ _) (c2 c)
  have c4 : Canon s → Canon s4 := fun c => .ite (.ite (.foldl (.setRf (c3 c) _ _ _ _) fun _ _ c => c.updPort _ _)
    (c3 c)) (c2 c)
  have c5 : Canon s → Canon s5 := fun c => .ite (.wake (.wake (.update (c4 c)) _) _) (c4 c)
  exact .next fun c => .trdShow (.foldl (c5 c) fun _ _ c => c.holdExit)

theorem Canon.testsEnd (c : Canon s) {f} : Canon (s.testsEnd f) := .foldl c fun _ _ c => c.testEnd

theorem Canon.dropQueue (c : Canon s) {q} : Canon (s.dropQueue q) := by
  unfold State.dropQueue
  refine .foldl (.update (.foldl c fun _ _ c => c.setInq _ _ _)) fun _ _ c => ?_
  extract_lets s1
  have c1 : Canon s1 := c.pktGone
  split
  exacts [c1.copyGone, c1]

theorem Canon.cycle (c : Canon s) {d} : Canon (s.cycle d) := by
  unfold State.cycle
  exact .ite c (.setDom c.offLoss _ _)

theorem Canon.shuBack (c : Canon s) {n0} : Canon (s.shuBack n0) := by
  unfold State.shuBack
  exact .update (c.setRf _ _ _ _)

theorem Canon.clusterCycle (c : Canon s) {n0} : Canon (s.clusterCycle n0) := by
  unfold State.clusterCycle
  exact .shuBack (.cycle (.cycle (.cycle c.update)))

theorem Canon.groupAgain (c : Canon s) {x} : Canon (s.groupAgain x) := by
  unfold State.groupAgain
  exact .groupArm (.groupReserve (.setRegs (.setRegs (.setRf (c.setRegs _ _) _ _ _ _) _ _) _ _))

theorem Canon.tablesReset (c : Canon s) : Canon s.tablesReset := by
  unfold State.tablesReset
  exact .foldl (c.clearRegs _) fun _ _ c => .setRegs (c.setRegs _ _) _ _

theorem Canon.planeCmds (c : Canon s) : Canon s.planeCmds := by
  unfold State.planeCmds
  refine .update (.foldl ?_ fun _ _ c => ?_)
  · split
    exacts [c.finish _ _ _, c]
  · split
    exacts [c.finish _ _ _, c]

theorem Canon.clearGroups (c : Canon s) {pending free aon pwr sw flows seq shed grpCmd host fw trd thm pair cnt} :
    Canon ⟨pending, free, aon, s.regs, pwr, s.ports, sw, s.pools, flows, [], s.mem, seq, shed, s.ctxs, grpCmd,
      host, fw, trd, thm, s.carts, pair, cnt⟩ := by
  obtain ⟨hregs, hports, hpools, -, hmem, hctxs, hcarts⟩ := c
  exact ⟨hregs, hports, hpools, rfl, hmem, hctxs, hcarts⟩

theorem Canon.fabricReset (c : Canon s) : Canon s.fabricReset := by
  unfold State.fabricReset
  extract_lets +onlyGivenNames had s1 s2 s3 s4 gs s5
  have c1 : Canon s1 := .testsEnd (.cause c.abdicate)
  have c2 : Canon s2 := .ite c1.commitEnd c1
  have c4 : Canon s4 := .foldl (.portsDown (.planeCmds c2)) fun _ _ c => c.setRf _ _ _ _
  have c5 : Canon s5 := .poolDrop (.dropFlows c4.dropWork)
  extract_lets _ _ s6 s7 s8 s9 s10
  have c8 : Canon s8 := .setRf (.setRf (.clearRegs (.tablesReset c5.clearGroups) _) _ _ _ _) _ _ _ _
  have c9 : Canon s9 := .foldl c8 fun _ _ c => .clusterCycle (c.setRf _ _ _ _)
  have c10 : Canon s10 := .foldl c9 fun _ _ c => .groupAgain c
  exact .ite c10.becomeStandby (.ite c10.receiveAgain c10)

theorem Canon.dropClusterWork (c : Canon s) {n0} : Canon (s.dropClusterWork n0) := .foldl c fun _ _ c => c.itemGone

theorem Canon.clusterReset (c : Canon s) {n0} : Canon (s.clusterReset n0) := by
  unfold State.clusterReset
  exact .clusterCycle (.reedLost (.setPool (.foldl (.dropClusterWork
    (.foldl (.portsDown (.testsEnd c.cause)) fun _ _ c => c.winEnd)) fun _ _ c => c.dropQueue) _ _))

theorem Canon.warmReset (c : Canon s) {source} : Canon (s.warmReset source) := by
  unfold State.warmReset
  exact .trdShow (.bootStart (.cause (.foldl (.loseMain (.portsDown (.ite (.putClaim c.abdicate) c.abdicate)))
    fun _ _ c => c.updPort _ _)))

theorem keeps_resetCmd {tag kind covered f} (h : ∀ t p, Canon t → Canon (f t p)) :
    Keeps s (s.resetCmd tag kind covered f) := by
  unfold State.resetCmd
  split
  · exact .next id
  · exact .ite (.next fun c => c.finish _ _ _) (.ite (.next id) (.ite (.next fun c => c.finish _ _ _)
      (.ite (.next fun c => c.finish _ _ _) (.ite (.next fun c => c.finish _ _ _)
        (.next fun c => h _ _ (c.finish _ _ _))))))

theorem keeps_execWarmReset {tag} : Keeps s (execWarmReset tag s) := keeps_resetCmd fun _ _ c => c.warmReset

theorem keeps_execFabricReset {tag} : Keeps s (execFabricReset tag s) := keeps_resetCmd fun _ _ c => c.fabricReset

theorem keeps_execClusterReset {tag} : Keeps s (execClusterReset tag s) :=
  keeps_resetCmd fun _ _ c => c.clusterReset

theorem keeps_execPortReset {tag} : Keeps s (execPortReset tag s) := by
  unfold execPortReset
  exact keeps_resetCmd fun _ _ c => .portDown (.testsEnd c.cause)

theorem keeps_execPerstAssert : Keeps s (execPerstAssert s) := by
  unfold execPerstAssert
  exact .ite (.next fun c => .warmReset c.update) (.next fun c => c.update)

theorem keeps_execPerstDeassert : Keeps s (execPerstDeassert s) := by
  unfold execPerstDeassert
  exact .ite (.next fun c => .trdShow (.bootStart c.update)) (.next fun c => c.update)

theorem keeps_selftest {tag test ok f} (h : ∀ t n, Canon t → Canon (f t n)) :
    Keeps s (s.selftest tag test ok f) := by
  unfold State.selftest
  split
  · exact .next id
  · refine .ite (.next id) (.ite (.next fun c => c.finish _ _ _) (.ite (.next id) ?_))
    refine .ite (.next fun c => c.finish _ _ _) (.ite (.next fun c => c.finish _ _ _) ?_)
    refine .ite (.next fun c => c.finish _ _ _) (.ite (.next fun c => c.finish _ _ _) ?_)
    exact .next fun c => h _ _ (.update (c.hold _))

theorem keeps_execSelftestAonTrim {tag} : Keeps s (execSelftestAonTrim tag s) := keeps_selftest fun _ _ c => c.trim

theorem keeps_execSelftestLaneCal {tag} : Keeps s (execSelftestLaneCal tag s) := by
  unfold execSelftestLaneCal
  exact keeps_selftest fun _ _ c => .ite (.ite c.testEnd c.startWidth) c

theorem keeps_execSelftestPortLoop {tag} : Keeps s (execSelftestPortLoop tag s) := keeps_selftest fun _ _ c => c

theorem keeps_execSelftestSramBist {tag} : Keeps s (execSelftestSramBist tag s) := keeps_selftest fun _ _ c => c

theorem keeps_execSelftestShuBist {tag} : Keeps s (execSelftestShuBist tag s) := keeps_selftest fun _ _ c => c

theorem keeps_execSelftestReedBist {tag} : Keeps s (execSelftestReedBist tag s) := keeps_selftest fun _ _ c => c

theorem keeps_execSelftestHbmScan {tag} : Keeps s (execSelftestHbmScan tag s) := keeps_selftest fun _ _ c => c

theorem keeps_execSelftestCryptoKat {tag} : Keeps s (execSelftestCryptoKat tag s) := keeps_selftest fun _ _ c => c

theorem keeps_execSelftestSensorCheck {tag} : Keeps s (execSelftestSensorCheck tag s) :=
  keeps_selftest fun _ _ c => c

theorem Canon.withdraw (c : Canon s) {k n} : Canon (s.withdraw k n) := by
  induction n generalizing s with
  | zero => exact c
  | succ n ih =>
    unfold State.withdraw
    exact .ite c (ih c.takeFrame)

theorem Canon.secRestart (c : Canon s) : Canon s.secRestart := by
  unfold State.secRestart
  exact .ite (c.bump _ _ _ _) (.update (c.bump _ _ _ _))

theorem keeps_execSelftestDone {test target errors detail} : Keeps s
    (execSelftestDone test target errors detail s) := by
  unfold execSelftestDone
  exact .ite (.next id) (.next fun c => .testEnd (.ite (.ite (c.setPort _ _) (.ite c.startWidth c))
    (.ite (.offNow (.offNow (.offNow c.update))) (.ite (.update (c.setRf _ _ _ _))
    (.ite (.bump c.withdraw _ _ _ _) (.ite c.secRestart c))))))

/-! ### Thermal: sensors, the thermal ladder and the leak loop -/

theorem Canon.sensorEvent (c : Canon s) {i} : Canon (s.sensorEvent i) := c.event _ _ _

theorem Canon.setSensor (c : Canon s) {i st} : Canon (s.setSensor i st) := .ite c (.sensorEvent (c.setRf _ _ _ _))

theorem Canon.readSensor (c : Canon s) {i a0} : Canon (s.readSensor i a0) := by
  unfold State.readSensor
  exact .ite (c.setRf _ _ _ _) (.setSensor (c.setRf _ _ _ _))

theorem Canon.formZone (c : Canon s) {z} : Canon (s.formZone z) := by
  unfold State.formZone
  extract_lets _ _ _ _ s1
  have c1 : Canon s1 := .setRf (c.setRf _ _ _ _) _ _ _ _
  split
  exacts [c1, c1.update]

theorem Canon.blindClusters (c : Canon s) : Canon s.blindClusters := by
  unfold State.blindClusters
  exact c.update

theorem Canon.enterWarn (c : Canon s) {z n0} : Canon (s.enterWarn z n0) := by
  unfold State.enterWarn
  exact c.update

theorem Canon.enterLimit (c : Canon s) : Canon s.enterLimit := by
  unfold State.enterLimit
  exact c.update

theorem Canon.critHold (c : Canon s) : Canon s.critHold := .ite (.foldl c fun _ _ c => .ite c.askHold c) c

theorem Canon.climb (c : Canon s) {z} : Canon (s.climb z) := by
  unfold State.climb
  refine .ite c ?_
  extract_lets _ s1 s2 s3
  have c1 : Canon s1 := c.setRf _ _ _ _
  have c2 : Canon s2 := by
    unfold s2
    split
    exacts [.ite c1.enterWarn c1, c1]
  have c3 : Canon s3 := .ite c2.enterLimit c2
  exact .ite c3.update c3

theorem Canon.thermMoved (c : Canon s) {old} : Canon (s.thermMoved old) := .ite c.safety c

theorem Canon.trip (c : Canon s) {i} : Canon (s.trip i) := by
  unfold State.trip
  exact .trdShow (.stopMain (.abdicate (.update (.ite c (.setRf (c.setRf _ _ _ _) _ _ _ _)))))

theorem keeps_execThermalSample {readings} : Keeps s (execThermalSample readings s) := by
  unfold execThermalSample
  refine .ite (.next id) ?_
  extract_lets _ s1 s2 s3 s4
  have c1 : Canon s → Canon s1 := fun c => .foldl c fun _ _ c => c.readSensor
  have c2 : Canon s → Canon s2 := fun c => .foldl (c1 c) fun _ _ c => c.formZone
  have c3 : Canon s → Canon s3 := fun c => .critHold (.foldl (.blindClusters (c2 c)) fun _ _ c => c.climb)
  have c4 : Canon s → Canon s4 := fun c => .thermMoved (c3 c)
  split
  exacts [.next fun c => .ite (c4 c) (.trip (c4 c)), .next c4]

theorem keeps_execSensorPlausibilityTimer {i} : Keeps s (execSensorPlausibilityTimer i s) := by
  unfold execSensorPlausibilityTimer
  exact .ite (.next id) (.ite (.next fun c => .ite c.setSensor c)
    (.ite (.next fun c => c.setSensor) (.ite (.next fun c => c.setSensor)
    (.ite (.next id) (.next fun c => c.setSensor)))))

theorem Canon.liftLimits (c : Canon s) : Canon s.liftLimits := by
  unfold State.liftLimits
  exact c.update

theorem Canon.critWake (c : Canon s) {p} : Canon (s.critWake p) := by
  unfold State.critWake
  exact .ite c (.ite c.holdExit (.ite c (.ite (.ite (.ite c.sendParams c.toTrain) c) c.wakePort)))

theorem keeps_execRungReleaseTimer {rung n0} : Keeps s (execRungReleaseTimer rung n0 s) := by
  unfold execRungReleaseTimer
  refine .ite (.next id) ?_
  extract_lets _ s1 s2 s3
  have c1 : Canon s → Canon s1 := fun c => .foldl c fun _ _ c => .ite (c.setRf _ _ _ _) c
  have c2 : Canon s → Canon s2 := fun c => .liftLimits (c1 c)
  have c3 : Canon s → Canon s3 := fun c => .ite (.foldl (c2 c) fun _ _ c => c.critWake) (c2 c)
  exact .next fun c => .thermMoved (c3 c)

theorem keeps_execLadderStepTimer : Keeps s (execLadderStepTimer s) := by
  unfold execLadderStepTimer
  exact .next fun c => .thermMoved c.update

theorem keeps_execThermtripAssert {i} : Keeps s (execThermtripAssert i s) := .ite (.next id) (.next fun c => c.trip)

theorem keeps_execTripLatchClear {path v} : Keeps s (execTripLatchClear path v s) := by
  unfold execTripLatchClear
  refine .ite ?_ (.next id)
  extract_lets s1 _ s2
  have c1 : Canon s → Canon s1 := fun c => c.setRf _ _ _ _
  have c2 : Canon s → Canon s2 := fun c => .update (c1 c)
  exact .next fun c => .ite (.coldMain (c2 c)) (c2 c)

theorem Canon.coolantEvent (c : Canon s) : Canon s.coolantEvent := c.event _ _ _

theorem keeps_execCoolantSample {tin tout} : Keeps s (execCoolantSample tin tout s) := by
  unfold execCoolantSample
  exact .ite (.next id) (.next fun c => .update (.setRf (c.setRf _ _ _ _) _ _ _ _))

theorem keeps_execCoolDtTimer {which} : Keeps s (execCoolDtTimer which s) := by
  unfold execCoolDtTimer
  exact .ite (.next fun c => .safety (.coolantEvent (c.setRf _ _ _ _)))
    (.ite (.next fun c => .coolantEvent (c.setRf _ _ _ _)) (.ite (.next fun c => .coolantEvent (c.setRf _ _ _ _))
    (.ite (.next fun c => .coolantEvent (c.setRf _ _ _ _)) (.next id))))

theorem Canon.newBand (c : Canon s) {b} : Canon (s.newBand b) := by
  unfold State.newBand
  extract_lets s1 _ s2
  have c1 : Canon s1 := .coolantEvent (c.setRf _ _ _ _)
  have c2 : Canon s2 := c1.update
  exact .ite (.safety c2.update) c2

theorem keeps_execLeakSample {ohms} : Keeps s (execLeakSample ohms s) := by
  unfold execLeakSample
  exact .ite (.next id) (.next fun c => .ite (.newBand c.update) c.update)

theorem keeps_execLeakDryTimer : Keeps s (execLeakDryTimer s) := by
  unfold execLeakDryTimer
  exact .ite (.next fun c => c.update) (.next id)

theorem keeps_execSensors {tag} : Keeps s (execSensors tag s) := .next fun c => c.serve _ _ _ _ _ fun _ _ c => c

theorem keeps_execZones {tag} : Keeps s (execZones tag s) := .next fun c => c.serve _ _ _ _ _ fun _ _ c => c

theorem keeps_execCoolCfg {tag} : Keeps s (execCoolCfg tag s) := by
  unfold execCoolCfg
  exact .next fun c => c.serve _ _ _ _ _ fun _ _ c => .ite_fst (.setRf (c.setReg _ _) _ _ _ _) c

/-! ### Cart: the cable cartridges -/

theorem Canon.crtEvent (c : Canon s) {k} : Canon (s.crtEvent k) := c.event _ _ _

theorem Canon.setCrt (c : Canon s) {k st} : Canon (s.setCrt k st) := .crtEvent (c.setRf _ _ _ _)

theorem Canon.laser (c : Canon s) {k b} : Canon (s.laser k b) := by
  unfold State.laser
  exact .setCart (.setRf (c.setRf _ _ _ _) _ _ _ _) _ _

theorem Canon.inspectEnd (c : Canon s) {k} : Canon (s.inspectEnd k) := by
  unfold State.inspectEnd
  split
  · exact c
  · exact .foldl (.setCart (c.setRf _ _ _ _) _ _) fun _ _ c => c.finish _ _ _

theorem keeps_execCartPresenceQualified {k} : Keeps s (execCartPresenceQualified k s) :=
  .ite (.next fun c => .setCrt (c.setRf _ _ _ _)) (.next id)

theorem keeps_execCartIdentityReadDone {k record valid} : Keeps s (execCartIdentityReadDone k record valid s) := by
  unfold execCartIdentityReadDone
  refine .ite (.ite ?_ (.next fun c => .setCrt (c.setCart _ _))) (.next id)
  extract_lets _ s1
  have c1 : Canon s → Canon s1 := fun c => .setCrt (.setRf (c.setCart _ _) _ _ _ _)
  exact .next fun c => .ite (.holdKeep (c1 c)) (c1 c)

theorem keeps_execCartPull {k} : Keeps s (execCartPull k s) := by
  unfold execCartPull
  refine .ite (.next id) ?_
  extract_lets _ s1 s2 s3 _ s4
  have c1 : Canon s → Canon s1 := fun c => .laser (c.setRf _ _ _ _)
  have c2 : Canon s → Canon s2 := fun c => .portsDown (c1 c)
  have c3 : Canon s → Canon s3 := fun c => .ite (.foldl (c2 c) fun _ _ c => c.setReg _ _) (c2 c)
  have c4 : Canon s → Canon s4 := fun c => .setCart (c3 c) _ _
  exact .next fun c => .inspectEnd (.setCrt (.setRf (c4 c) _ _ _ _))

theorem Canon.crtRefuse (c : Canon s) {k tag} : Canon (s.crtRefuse k tag) := by
  unfold State.crtRefuse
  extract_lets s1
  have c1 : Canon s1 := c.setRf _ _ _ _
  split
  exacts [c1.finish _ _ _, c1]

theorem keeps_execCartRemove {src} : Keeps s (execCartRemove src s) := by
  unfold execCartRemove
  refine .ite (.next fun c => c.answer) ?_
  split
  · exact .next id
  · refine .ite (.next fun c => c.crtRefuse) (.next fun c => ?_)
    split
    · exact .finish (.inspectEnd (.ite (.setRf (.setRf c.laser _ _ _ _) _ _ _ _)
        (.setCrt (.setRf (.setRf c.laser _ _ _ _) _ _ _ _)))) _ _ _
    · exact .inspectEnd (.ite (.setRf (.setRf c.laser _ _ _ _) _ _ _ _)
        (.setCrt (.setRf (.setRf c.laser _ _ _ _) _ _ _ _)))

theorem keeps_execCartInspect {src} : Keeps s (execCartInspect src s) := by
  unfold execCartInspect
  refine .ite (.next fun c => c.answer) ?_
  split
  · exact .next id
  · refine .ite (.next fun c => c.crtRefuse) (.next fun c => .setCart ?_ _ _)
    split
    exacts [.hold (.ite c c.setCrt) _, .ite c c.setCrt]

theorem keeps_execInspectionDone {k losses} : Keeps s (execInspectionDone k losses s) := by
  unfold execInspectionDone
  refine .ite ?_ (.next id)
  extract_lets s1 _ s2 s3 s4 s5 s6
  have c1 : Canon s → Canon s1 := fun c => .foldl c fun _ _ c => c.setReg _ _
  have c2 : Canon s → Canon s2 := fun c => .laser (.setRf (c1 c) _ _ _ _)
  have c3 : Canon s → Canon s3 := fun c => .ite (.setDom (c2 c) _ _) (c2 c)
  have c4 : Canon s → Canon s4 := fun c => .ite (.foldl (.setRf (c3 c) _ _ _ _) fun _ _ c => c.updPort _ _) (c3 c)
  have c5 : Canon s → Canon s5 := fun c => .setCrt (c4 c)
  have c6 : Canon s → Canon s6 := fun c => .foldl (c5 c) fun _ _ c => c.crtEvent
  exact .next fun c => .inspectEnd (c6 c)

theorem keeps_execCartStatus {tag} : Keeps s (execCartStatus tag s) :=
  .next fun c => c.serve _ _ _ _ _ fun _ _ c => c

theorem keeps_execScores {tag} : Keeps s (execScores tag s) := .next fun c => c.serve _ _ _ _ _ fun _ _ c => c

theorem keeps_execCartIdentity {tag} : Keeps s (execCartIdentity tag s) := by
  unfold execCartIdentity
  exact .next fun c => c.serve _ _ _ _ _ fun _ _ c => .ite_fst c c

/-! ### Firmware: the plinth firmware -/

theorem Canon.enterFallback (c : Canon s) : Canon s.enterFallback := by
  unfold State.enterFallback
  extract_lets s1 s2
  have c1 : Canon s1 := c.setRf _ _ _ _
  have c2 : Canon s2 := .foldl c1 fun _ _ c => .ite c (c.setRf _ _ _ _)
  exact .ite c2.mirrorStop c2

theorem Canon.leaveFallback (c : Canon s) : Canon s.leaveFallback := by
  unfold State.leaveFallback
  exact .ite c (.applyItems (.mergeLog (.foldl (c.setRf _ _ _ _) fun _ _ c => .ite (c.setRf _ _ _ _) c)))

theorem Canon.setAct (c : Canon s) {st ident} : Canon (s.setAct st ident) := .fwEvent (c.setRf _ _ _ _)

theorem Canon.setResult (c : Canon s) {st} : Canon (s.setResult st) := c.setRf _ _ _ _

theorem Canon.actStop (c : Canon s) : Canon s.actStop := by
  unfold State.actStop
  split
  exacts [c, .ite c (c.setRf _ _ _ _)]

theorem Canon.revert (c : Canon s) {result} : Canon (s.revert result) := by
  unfold State.revert
  exact .setAct (.setRf (.update (.bootPut c.actStop)) _ _ _ _)

theorem Canon.cutCmds (c : Canon s) {f} : Canon (s.cutCmds f) := .foldl c fun _ _ c => c.finish _ _ _

theorem Canon.stageCut (c : Canon s) : Canon s.stageCut := by
  unfold State.stageCut
  exact .ite c.update c

theorem Canon.kernelFault (c : Canon s) {cause} : Canon (s.kernelFault cause) := by
  unfold State.kernelFault
  refine .ite c ?_
  extract_lets _ _ s1 s2 _ s3 s4 s5 s6 s7 _ s8 s9
  have c1 : Canon s1 := c.log _ _ _ _
  have c2 : Canon s2 := .stageCut c1.cutCmds
  have c3 : Canon s3 := c2.update
  have c4 : Canon s4 := .bump c3.enterFallback _ _ _ _
  have c5 : Canon s5 := .bump (c4.setRf _ _ _ _) _ _ _ _
  have c6 : Canon s6 := .foldl c5 fun _ _ c => c.setRf _ _ _ _
  have c7 : Canon s7 := c6.setRf _ _ _ _
  have c8 : Canon s8 := .ite c7.update c7
  have c9 : Canon s9 := .ite c8.revert (.ite (.setAct (c8.setRf _ _ _ _)) c8)
  exact c9.fwEvent

theorem Canon.compFault (c : Canon s) {ident cause} : Canon (s.compFault ident cause) := by
  unfold State.compFault
  refine .ite c (.ite (.kernelFault c.update) ?_)
  extract_lets _ _ s1 s2 s3 s4
  have c1 : Canon s1 := .log c.update _ _ _ _
  have c2 : Canon s2 := .stageCut c1.cutCmds
  have c3 : Canon s3 := .bump (.setRf (c2.setRf _ _ _ _) _ _ _ _) _ _ _ _
  have c4 : Canon s4 := .fwEvent (c3.bump _ _ _ _)
  exact .ite c4.revert c4

theorem keeps_execComponentFault {ident cause} : Keeps s (execComponentFault ident cause s) :=
  .next fun c => .ite c.compFault c

theorem keeps_execComponentWatchdog {ident} : Keeps s (execComponentWatchdog ident s) :=
  .next fun c => .ite c.compFault c

theorem keeps_execComponentRestartDone {ident} : Keeps s (execComponentRestartDone ident s) :=
  .ite (.next fun c => .fwEvent (c.setRf _ _ _ _)) (.next id)

theorem keeps_execCoreWatchdog {core} : Keeps s (execCoreWatchdog core s) := .next fun c => .ite c.kernelFault c

theorem keeps_execKernelFault {cause} : Keeps s (execKernelFault cause s) := .next fun c => .ite c.kernelFault c

theorem keeps_execComplexRestartDone : Keeps s (execComplexRestartDone s) := by
  unfold execComplexRestartDone
  exact .ite (.ite (.next fun c => .fwEvent (c.setRf _ _ _ _))
    (.next fun c => .fwEvent (.leaveFallback (.foldl (c.setRf _ _ _ _) fun _ _ c => c.setRf _ _ _ _)))) (.next id)

theorem Canon.coreFault (c : Canon s) {d ident} : Canon (s.coreFault d ident) := by
  unfold State.coreFault
  refine .ite c ?_
  extract_lets _ _ s1 s2 s3 s4
  have c1 : Canon s1 := c.update
  have c2 : Canon s2 := c1.log _ _ _ _
  have c3 : Canon s3 := .bump (.bump (.setRf (c2.setRf _ _ _ _) _ _ _ _) _ _ _ _) _ _ _ _
  have c4 : Canon s4 := c3.fwEvent
  exact .ite c4.revert c4

theorem keeps_execSecCoreFault : Keeps s (execSecCoreFault s) := .next fun c => .ite c (.bump c.coreFault _ _ _ _)

theorem keeps_execTreadleCoreFault : Keeps s (execTreadleCoreFault s) := .next fun c => .ite c.coreFault c

theorem keeps_execSchedulerCoreFault : Keeps s (execSchedulerCoreFault s) := .next fun c => .ite c.coreFault c

theorem keeps_execControlCoreFault {n0} : Keeps s (execControlCoreFault n0 s) := .next fun c => .ite c.coreFault c

theorem keeps_execDelegateRestartDone {d} : Keeps s (execDelegateRestartDone d s) := by
  unfold execDelegateRestartDone
  refine .ite ?_ (.next id)
  extract_lets _ _ s1 s2 s3
  have c1 : Canon s → Canon s1 := fun c => c.update
  have c2 : Canon s → Canon s2 := fun c => .ite (c1 c) (.setRf (c1 c) _ _ _ _)
  have c3 : Canon s → Canon s3 := fun c => .ite (.foldl (c2 c) fun _ _ c => c.retireWaiting) (c2 c)
  exact .next fun c => .fwEvent (c3 c)

theorem Canon.setSlot (c : Canon s) {slot b} : Canon (s.setSlot slot b) := by
  unfold State.setSlot
  exact c.update

theorem keeps_execFwStage {tag} : Keeps s (execFwStage tag s) := by
  unfold execFwStage
  split
  · exact .next id
  · refine .ite (.next fun c => c.finish _ _ _) (.ite (.next fun c => c.finish _ _ _)
      (.ite (.next fun c => c.finish _ _ _) ?_))
    extract_lets s1 s2 _ s3 s4
    have c1 : Canon s → Canon s1 := fun c => c.setSlot
    have c2 : Canon s → Canon s2 := fun c => .ite (.setAct (c1 c)) (c1 c)
    have c3 : Canon s → Canon s3 := fun c => .update (c2 c)
    have c4 : Canon s → Canon s4 := fun c => .hold (c3 c) _
    exact .ite (.next fun c => .update (c4 c)) (.next fun c => .finish (c3 c) _ _ _)

theorem keeps_execStageVerifyDone : Keeps s (execStageVerifyDone s) := by
  unfold execStageVerifyDone
  split
  · exact .next id
  · exact .ite (.next id) (.next fun c => .finish (.setAct (.setResult c.setSlot.update)) _ _ _)

theorem Canon.countRestart (c : Canon s) {ident} : Canon (s.countRestart ident) := .bump (c.bump _ _ _ _) _ _ _ _

theorem Canon.actNext (c : Canon s) : Canon s.actNext := by
  unfold State.actNext
  split
  · exact .setAct (.setRf (.setRf (c.setRf _ _ _ _) _ _ _ _) _ _ _ _)
  · refine .ite (.ite (c.setRf _ _ _ _) (.setAct (.setRf (c.setRf _ _ _ _) _ _ _ _))) ?_
    extract_lets s1 _ s2 s3 _ s4 s5 _ s6 s7
    have c1 : Canon s1 := .setRf (.setRf (c.setRf _ _ _ _) _ _ _ _) _ _ _ _
    have c2 : Canon s2 := c1.update
    have c3 : Canon s3 := .bump (.setRf c2.enterFallback _ _ _ _) _ _ _ _
    have c4 : Canon s4 := c3.update
    have c5 : Canon s5 := c2.countRestart
    have c6 : Canon s6 := c2.countRestart
    have c7 : Canon s7 := .ite (.foldl c4 fun _ _ c => c.setRf _ _ _ _)
      (.ite c5.update (.ite c6.update (.ite c2.countRestart c2)))
    exact c7.setAct

theorem Canon.actEnd (c : Canon s) {tag st} : Canon (s.actEnd tag st) := by
  unfold State.actEnd
  extract_lets s1
  have c1 : Canon s1 := c.setResult
  split
  exacts [c1.finish _ _ _, c1]

theorem keeps_execActivateLive {src} : Keeps s (execActivateLive src s) := by
  unfold execActivateLive
  refine .ite (.next fun c => c.answer) ?_
  split
  · exact .next id
  · exact .ite (.next fun c => c.actEnd) (.next fun c => .actNext (.actEnd c.bootPut.update))

theorem keeps_execActivateReset {src} : Keeps s (execActivateReset src s) := by
  unfold execActivateReset
  refine .ite (.next fun c => c.answer) ?_
  split
  · exact .next id
  · exact .ite (.next fun c => c.actEnd) (.next fun c => .setAct (.actEnd c.bootPut.update))

theorem Canon.serviceSwap (c : Canon s) {ident b} : Canon (s.serviceSwap ident b) := by
  unfold State.serviceSwap
  extract_lets old s1
  clear_value old
  have c1 : Canon s1 := .ite c c.serviceLoad
  split
  exacts [c1.drainImage, c1]

theorem Canon.compTake (c : Canon s) {ident st slot} : Canon (s.compTake ident st slot) :=
  .ite (c.setReg _ _) c.compSet

theorem Canon.compStep (c : Canon s) {k slot} : Canon (s.compStep k slot) :=
  .ite (.foldl c fun _ _ c => .ite c.compTake (c.setRf _ _ _ _)) (.ite c c.compTake)

theorem keeps_execActivationComponentDone : Keeps s (execActivationComponentDone s) := by
  unfold execActivationComponentDone
  split
  · exact .next id
  · exact .ite (.next id) (.next fun c => .actNext (.fwEvent
      (.ite (.leaveFallback (.setRf (.compStep c.update) _ _ _ _))
      (.ite (.serviceSwap (.compStep c.update)) (.ite (.foldl (.compStep c.update) fun _ _ c => c.retireWaiting)
      (.compStep c.update))))))

theorem keeps_execActivationResume : Keeps s (execActivationResume s) := .next fun c => .ite c.actNext c

theorem keeps_execProbationExpire : Keeps s (execProbationExpire s) := by
  unfold execProbationExpire
  exact .ite (.next fun c => .setAct (.setResult (.update (.foldl (.setRf c.bootPut _ _ _ _) fun _ _ c => .ite
    (c.setRf _ _ _ _) c)))) (.next id)

theorem keeps_execFwCancel {src} : Keeps s (execFwCancel src s) := by
  unfold execFwCancel
  refine .ite (.next fun c => c.answer) ?_
  split
  · exact .next id
  · exact .ite (.next fun c => c.actEnd) (.next fun c => .actEnd c.revert)

theorem keeps_execRevertDone : Keeps s (execRevertDone s) := by
  unfold execRevertDone
  refine .ite (.next fun c => .update (.setAct (.setResult
    (.setRf (.setRf (.foldl c fun _ _ c => ?_) _ _ _ _) _ _ _ _))))
    (.next id)
  extract_lets s1 _ s2
  have c1 : Canon s1 := .ite c.serviceSwap c
  have c2 : Canon s2 := c1.compTake
  exact .ite c2.countRestart c2

theorem keeps_execFwCommit {src} : Keeps s (execFwCommit src s) := by
  unfold execFwCommit
  refine .ite (.next fun c => c.answer) ?_
  split
  · exact .next id
  · split
    · exact .next fun c => c.actEnd
    · exact .ite (.next fun c => c.actEnd) (.next fun c => .actEnd (.secShow c.update))

theorem keeps_execFwStatus {tag} : Keeps s (execFwStatus tag s) := .next fun c => c.serve _ _ _ _ _ fun _ _ c => c

theorem keeps_execPolicyWrite {tag} : Keeps s (execPolicyWrite tag s) := by
  unfold execPolicyWrite
  exact .ite (.next id) (.next fun c => c.serve _ _ _ _ _ (fun _ _ c => .ite_fst c
    (.ite_fst c (.ite_fst c (.setRf c.update _ _ _ _)))))

theorem keeps_execDigest {tag} : Keeps s (execDigest tag s) := .next fun c => c.serve _ _ _ _ _ fun _ _ c => c

theorem Canon.spdm (c : Canon s) {req} : Canon (s.spdm req).2 := by
  unfold State.spdm
  refine .ite_snd c (.ite_snd c ?_)
  split
  next h1 =>
  exact .snd h1 c.draw

theorem keeps_execSpdm {tag} : Keeps s (execSpdm tag s) := by
  unfold execSpdm
  split
  · exact .next id
  · split
    next h1 =>
    exact .ite (.next fun c => .finish (.snd h1 c.spdm) _ _ _) (.next fun c => .finish (.snd h1 c.spdm) _ _ _)

theorem keeps_execDoeRequest {bytes} : Keeps s (execDoeRequest bytes s) := by
  unfold execDoeRequest
  refine .ite ?_ (.next id)
  split
  next h1 =>
  exact .next fun c => .update (.snd h1 c.spdm)

theorem keeps_execDebugNonce {tag} : Keeps s (execDebugNonce tag s) := by
  unfold execDebugNonce
  refine .ite (.next id) (.next fun c => c.serve _ _ _ _ _ (fun _ _ c => ?_))
  split
  next h1 =>
  exact .update (.snd h1 c.draw)

theorem Canon.unhalt (c : Canon s) : Canon s.unhalt := by
  unfold State.unhalt
  exact .ite (.leaveFallback c.update) c.update

theorem keeps_execDebugToken {tag} : Keeps s (execDebugToken tag s) :=
  .ite (.next id) (.next fun c => c.serve _ _ _ _ _ fun _ _ c => .ite_fst c (.ite_fst c
    (.ite (.unhalt (.setRf (.update (c.setRf _ _ _ _)) _ _ _ _)) (.setRf (.update (c.setRf _ _ _ _)) _ _ _ _))))

theorem keeps_execNonceExpire : Keeps s (execNonceExpire s) := by
  unfold execNonceExpire
  exact .next fun c => c.update

theorem keeps_execJtagHalt {core} : Keeps s (execJtagHalt core s) := by
  unfold execJtagHalt
  exact .ite (.next fun c => .ite (.enterFallback c.update) c.update) (.next id)

theorem keeps_execJtagResume {core} : Keeps s (execJtagResume core s) := by
  unfold execJtagResume
  refine .ite ?_ (.next id)
  extract_lets _ s1 s2
  have c1 : Canon s → Canon s1 := fun c => c.update
  have c2 : Canon s → Canon s2 := fun c => .ite (.foldl (c1 c) fun _ _ c => c.retireWaiting) (c1 c)
  exact .next fun c => .ite (.leaveFallback (c2 c)) (c2 c)

theorem keeps_execPlnLogLostClear {path v} : Keeps s (execPlnLogLostClear path v s) :=
  .ite (.next fun c => c.setReg _ _) (.next id)

theorem keeps_execLogRead {tag} : Keeps s (execLogRead tag s) := by
  unfold execLogRead
  exact .next fun c => c.serve _ _ _ _ _ fun _ _ c => .ite_fst c c

theorem keeps_execTraceCatalogue {tag} : Keeps s (execTraceCatalogue tag s) := by
  unfold execTraceCatalogue
  split
  · exact .next id
  · exact .ite (.next fun c => c.finish _ _ _) (.ite (.next fun c => c.finish _ _ _)
      (.ite (.next fun c => c.finish _ _ _) (.next fun c => c.finish _ _ _)))

theorem keeps_execIdentify {tag} : Keeps s (execIdentify tag s) := .next fun c => c.serve _ _ _ _ _ fun _ _ c => c

theorem keeps_execVersion {tag} : Keeps s (execVersion tag s) := by
  unfold execVersion
  exact .next fun c => c.serve _ _ _ _ _ fun _ _ c => c

/-! ### Space: the register space as it is read -/

theorem Canon.unlatch (c : Canon s) {a} : Canon (s.unlatch a).2 := by
  unfold State.unlatch
  split
  exacts [c, c.update]

theorem Canon.readWord (c : Canon s) {p a} : Canon (s.readWord p a).2 := by
  unfold State.readWord
  refine .ite_snd c ?_
  extract_lets s1
  have c1 : Canon s1 := c.wake _
  split
  next h2 =>
  split
  · exact .snd h2 c1.unlatch
  · split
    exacts [.latch (.snd h2 c1.unlatch), .snd h2 c1.unlatch]

theorem Canon.readWords (c : Canon s) {p a n} : Canon (s.readWords p a n).2 := by
  induction n generalizing s a with
  | zero => exact c
  | succ n ih =>
    unfold State.readWords
    exact ih c.readWord

/-! ### Counters: counters, samples and maps -/

theorem Canon.ctrSet (c : Canon s) {base scope w v} : Canon (s.ctrSet base scope w v).2 := by
  unfold State.ctrSet
  exact .ite_snd (.ite_snd (c.setReg _ _) (c.setRf _ _ _ _)) (.ite_snd (c.setReg _ _) (c.setReg _ _))

theorem keeps_execCounterCfgWrite {path ident v} : Keeps s (execCounterCfgWrite path ident v s) := by
  unfold execCounterCfgWrite
  split
  exacts [.next id, .ite (.next id) (.next fun c => .ctrSet (c.wake _))]

theorem keeps_execCounterRead {path ident} : Keeps s (execCounterRead path ident s) := by
  unfold execCounterRead
  split
  · exact .next id
  · split
    next h1 =>
    exact .next fun c => .update (.snd h1 c.readWord)

theorem keeps_execCounterOverflow {ident} : Keeps s (execCounterOverflow ident s) := by
  unfold execCounterOverflow
  split
  · exact .next id
  · refine .ite (.next id) (.next fun c => .ctrAdd (.ite ?_ c) _ _ _)
    split
    next h1 =>
    split
    exacts [.updCtx (.snd h1 c.choose) _ _, .snd h1 c.choose]

theorem keeps_execSampleCapture {x} : Keeps s (execSampleCapture x s) := .next fun c => c.takeSample

theorem Canon.mapSend (c : Canon s) {m} : Canon (s.mapSend m) := by
  unfold State.mapSend
  exact .ite c (.emit (.bump (c.setInq _ _ _) _ _ _ _) _ _)

theorem keeps_execMapIntervalEnd : Keeps s (execMapIntervalEnd s) := by
  unfold execMapIntervalEnd
  exact .ite (.next id) (.next fun c => .update (.mapSend (c.setRegs _ _)))

theorem keeps_execMapReport {port pkt} : Keeps s (execMapReport port pkt s) := by
  unfold execMapReport
  split
  next h1 =>
  exact .ite (.next fun c => .snd h1 (c.sink _ _ _)) (.ite (.next fun c => .setRegs (.snd h1 (c.sink _ _ _)) _ _)
    (.next fun c => .mgtLost (.snd h1 (c.sink _ _ _))))

theorem keeps_execMapRead {tag} : Keeps s (execMapRead tag s) := .next fun c => c.serve _ _ _ _ _ fun _ _ c => c

theorem keeps_execMapCfg {tag} : Keeps s (execMapCfg tag s) := by
  unfold execMapCfg
  exact .next fun c => c.serve _ _ _ _ _ fun _ _ c => .ite_fst (c.setReg _ _) c

theorem keeps_execCntMapErrClear {path v} : Keeps s (execCntMapErrClear path v s) :=
  .ite (.next fun c => c.setReg _ _) (.next id)

theorem keeps_execHbmEccClear {path n v} : Keeps s (execHbmEccClear path n v s) :=
  .ite (.next fun c => c.setReg _ _) (.next id)

/-! ### Rings: the rings of the host attachment -/

theorem Canon.ringFail (c : Canon s) {k} : Canon (s.ringFail k) := by
  unfold State.ringFail
  extract_lets s1
  have c1 : Canon s1 := .msi (c.setRf _ _ _ _) _
  exact .ite c1.replyFlush c1

theorem Canon.msiFlush (c : Canon s) : Canon s.msiFlush := by
  unfold State.msiFlush
  exact .ite c.update c

theorem Canon.evtFlush (c : Canon s) {n} : Canon (s.evtFlush n) := by
  induction n generalizing s with
  | zero => exact c
  | succ n ih =>
    unfold State.evtFlush
    refine .ite (.ite (ih (.ringPut c.update _ _)) ?_) c
    split
    · exact c
    · exact ih (.ringPut c.update _ _)

theorem Canon.ringCfg (c : Canon s) {k v} : Canon (s.ringCfg k v).2 := by
  unfold State.ringCfg
  refine .ite_snd (.ite_snd ?_ (.ringFail (.setRf (.setRf (.setReg (c.setReg _ _) _ _) _ _ _ _) _ _ _ _)))
    (.ite_snd c (.ite (.replyFlush (.setRf (.setRf (.ite (c.setRf _ _ _ _) c) _ _ _ _) _ _ _ _))
    (.setRf (.setRf (.ite (c.setRf _ _ _ _) c) _ _ _ _) _ _ _ _)))
  extract_lets s1
  have c1 : Canon s1 := .setRf (.setRf (.ite (.setRf (.setRf (.setReg (c.setReg _ _) _ _) _ _ _ _) _ _ _ _)
    (.setRf (.setReg (c.setReg _ _) _ _) _ _ _ _)) _ _ _ _) _ _ _ _
  exact .ite c1.evtFlush (.ite c1.replyFlush c1)

theorem Canon.doorbell (c : Canon s) {k v} : Canon (s.doorbell k v) := by
  unfold State.doorbell
  exact .ite (c.setRf _ _ _ _) (.ite c.ringFail (.ite (.evtFlush (c.setRf _ _ _ _)) (c.setRf _ _ _ _)))

theorem keeps_execCqDoorbell {path v} : Keeps s (execCqDoorbell path v s) := .next fun c => .ite c.doorbell c

theorem keeps_execRqDoorbell {path v} : Keeps s (execRqDoorbell path v s) := .next fun c => .ite c.doorbell c

theorem keeps_execEqDoorbell {path v} : Keeps s (execEqDoorbell path v s) := .next fun c => .ite c.doorbell c

theorem keeps_execRingEnable {path ring v} : Keeps s (execRingEnable path ring v s) :=
  .next fun c => .ite c.ringCfg c

theorem keeps_execMsixCoalesceTimer {v} : Keeps s (execMsixCoalesceTimer v s) := by
  unfold execMsixCoalesceTimer
  exact .ite (.ite (.next fun c => c.update) (.next fun c => c.update)) (.next id)

theorem keeps_execHioErrClear {path v} : Keeps s (execHioErrClear path v s) :=
  .ite (.next fun c => c.setReg _ _) (.next id)

/-! ### Registers: writes of register space -/

theorem Canon.rwSet (c : Canon s) {a mask ok v} : Canon (s.rwSet a mask ok v).2 := by
  unfold State.rwSet
  exact .ite_snd (c.setReg _ _) c

theorem Canon.w1cSet (c : Canon s) {a mask v} : Canon (s.w1cSet a mask v).2 := c.setReg _ _

theorem Canon.plnSet (c : Canon s) {path a v} : Canon (s.plnSet path a v).2 := by
  unfold State.plnSet
  refine .ite_snd ?_ (.ite_snd c.rwSet (.ite_snd c.w1cSet (.ite_snd ?_
    (.ite_snd (.after keeps_execPlnLogLostClear c)
    (.ite_snd (.ite_snd c c.rwSet) c)))))
  · exact .ite_snd c (.ite_snd c.rwSet (.ite_snd c.ringCfg (.ite_snd c.doorbell c)))
  · exact .after (.ite keeps_execActivateLive (.ite keeps_execActivateReset (.ite keeps_execFwCancel
      (.ite keeps_execFwCommit (.next id))))) c

theorem Canon.rackSet (c : Canon s) {a v} : Canon (s.rackSet a v).2 := by
  unfold State.rackSet
  refine .ite_snd ?_ (.ite (.mirrorTrd (.ite_snd c.rwSet (.ite_snd c.rwSet
    (.ite_snd c.rwSet (.ite_snd c.rwSet c.rwSet))))) c)
  split
  next h1 =>
  exact .snd h1 c.capWord

theorem Canon.trdSet (c : Canon s) {path a v} : Canon (s.trdSet path a v).2 := by
  unfold State.trdSet
  refine .ite_snd c.rackSet (.ite_snd ?_ (.ite_snd (.ite (.mirrorTrd c.rwSet) c)
    (.ite_snd (.ite (.mirrorTrd c.rwSet) c) (.ite_snd c.alertClear
    (.ite_snd (.after keeps_execTrdErrClear c) (.ite_snd (.after keeps_execIsoStatusClear c) c))))))
  split
  next h1 =>
  exact .snd h1 c.hostReqWord

theorem Canon.aonSet (c : Canon s) {path a v} : Canon (s.aonSet path a v).2 := by
  unfold State.aonSet
  refine .ite_snd c.rwSet (.ite_snd c.rwSet (.ite_snd (.after keeps_execTripLatchClear c)
    (.ite_snd (.after keeps_execCartInspect (.after keeps_execCartRemove c))
    (.ite_snd c.pairSet (.ite_snd (.ite (.putClaim (c.setReg _ _)) (c.setReg _ _))
    (.ite_snd c.rwSet (.ite_snd c.w1cSet (.ite_snd (.after keeps_execDvtErrClear c)
    (.ite_snd c.w1cSet (.ite_snd c.rwSet (.ite_snd (.after keeps_execCntMapErrClear c) ?_)))))))))))
  split
  exacts [c.ctrSet, c]

theorem Canon.sampTail (c : Canon s) {n0 v} : Canon (s.sampTail n0 v).2 := by
  unfold State.sampTail
  exact .ite_snd (c.setRf _ _ _ _) c

theorem Canon.clusterSet (c : Canon s) {path n0 o v} : Canon (s.clusterSet path n0 o v).2 := by
  unfold State.clusterSet
  refine .ite_snd c.rwSet (.ite_snd c.rwSet (.ite_snd (.after keeps_execBobApply c)
    (.ite_snd (.after keeps_execBobErrClear c) (.ite_snd (.after keeps_execBobDfLogClear c)
    (.ite_snd (.after keeps_execReedErrClear c) (.ite_snd c.rwSet
    (.ite_snd (.after keeps_execShedErrClear c) (.ite_snd c.w1cSet
    (.ite_snd (.ite_snd (.ite_snd c.queueWord0 (.ite_snd c.queueWord1 c)) (.after keeps_execQueueWrite c))
    (.ite_snd c.sampTail ?_))))))))))
  split
  exacts [c.ctrSet, c]

theorem Canon.portSet (c : Canon s) {path p o v} : Canon (s.portSet path p o v).2 := by
  unfold State.portSet
  exact .ite_snd (c.portWrite c.portCfgSet) (.ite_snd c.w1cSet
    (.ite_snd (c.portWrite c.rwSet) (.ite_snd (c.portWrite c.rwSet)
    (.ite_snd (c.portWrite c.portCreditSet) (.ite_snd (.after keeps_execPortLinkErrClear c)
    (.ite_snd (.after keeps_execPortQuarErrClear c) (.ite_snd (c.portWrite c.portSelSet) c)))))))

theorem Canon.shadowSet (c : Canon s) {a mask v} : Canon (s.shadowSet a mask v).2 := .ite_snd c c.rwSet

theorem Canon.rteCfgSet (c : Canon s) {a v} : Canon (s.rteCfgSet a v).2 := by
  unfold State.rteCfgSet
  exact .ite_snd (.mirrorSelf c.rwSet) (.ite_snd c.rwSet (.ite_snd c.rwSet
    (.ite_snd c.rwSet (.ite_snd c.rwSet (.ite_snd c.rwSet (.ite_snd c.rwSet
    (.ite_snd c.rwSet (.ite_snd (.foldl c.rwSet fun _ _ c => c.setPool _ _)
    (.ite_snd c.rwSet (.ite_snd c.rwSet c))))))))))

theorem Canon.rteSet (c : Canon s) {path a v} : Canon (s.rteSet path a v).2 := by
  unfold State.rteSet
  refine .ite_snd c.shadowSet (.ite_snd c.shadowSet (.ite_snd ?_ (.ite_snd (.after keeps_execRtePktErrClear c)
    (.ite_snd (.ite_snd c ?_) (.ite_snd (.after keeps_execRteFlowErrClear c)
      (.ite_snd (.after keeps_execRteCongErrClear c) (.ite_snd (.ite_snd c ?_) (.ite_snd c.w1cSet
        (.ite_snd (.after keeps_execRteGrpErrClear c) c.rteCfgSet)))))))))
  · split
    exact .snd ‹_› c.grpWordWrite
  · exact .after keeps_execCommitStart (.after keeps_execCommitSync (.after keeps_execCommitAbort c))
  · exact .after (.ite keeps_execGroupAdmit (.ite keeps_execGroupRelease (.ite keeps_execGroupRearm (.next id)))) c

theorem Canon.slotSet (c : Canon s) {a v} : Canon (s.slotSet a v).2 := by
  unfold State.slotSet
  exact .ite_snd (c.setRf _ _ _ _) c.rwSet

theorem Canon.seqCmdSet (c : Canon s) {src n} : Canon (s.seqCmdSet src n) :=
  .after (.ite keeps_execSlotOpen (.ite keeps_execSlotRelease (.ite keeps_execEvacuate (.ite keeps_execEvacAbort
    (.ite keeps_execAllocBack (.ite keeps_execRecall (.ite keeps_execReclaim (.next id)))))))) c

theorem Canon.seqSet (c : Canon s) {path a v} : Canon (s.seqSet path a v).2 :=
  .ite_snd (.after keeps_execSeqRegionWrite c) (.ite_snd (.ite_snd (c.setReg _ _) (c.setRf _ _ _ _))
    (.ite_snd c.rwSet (.ite_snd c.seqCmdSet (.ite_snd c.rwSet
    (.ite_snd c.w1cSet (.ite_snd (.after keeps_execSeqErrClear c) (.ite_snd c.slotSet c)))))))

theorem Canon.hioSet (c : Canon s) {path a v} : Canon (s.hioSet path a v).2 :=
  .ite_snd c.rwSet (.ite_snd (.after keeps_execHioErrClear c) (.ite_snd (.after keeps_execHbmEccClear c) c))

theorem Canon.regSet (c : Canon s) {path a v} : Canon (s.regSet path a v).2 :=
  .ite_snd c.plnSet (.ite_snd c (.ite_snd c.trdSet (.ite_snd c.aonSet
    (.ite_snd c.clusterSet (.ite_snd c.portSet (.ite_snd c.rteSet (.ite_snd c.seqSet c.hioSet)))))))

theorem Canon.writeWord (c : Canon s) {path a v} : Canon (s.writeWord path a v).2 :=
  .ite_snd c (.ite_snd c (.ite_snd c (.ite_snd c (.ite_snd c (.regSet (c.wake _))))))

theorem keeps_execRegisterWrite {path addr v} : Keeps s (execRegisterWrite path addr v s) :=
  .next fun c => c.writeWord

theorem keeps_execRegRead {tag} : Keeps s (execRegRead tag s) := by
  unfold execRegRead
  refine .next fun c => c.serve _ _ _ _ _ fun _ _ c => ?_
  split
  next h1 =>
  exact .snd h1 c.readWords

theorem Canon.writeWords (c : Canon s) {a l n} : Canon (s.writeWords a l n).2.2 := by
  induction l generalizing s a n with
  | nil => exact c
  | cons v r ih =>
    unfold State.writeWords
    exact .ite_snd_snd c (.ite_snd_snd (ih c.writeWord) c.writeWord)

theorem Canon.mirrorReply (c : Canon s) {tag reply} : Canon (s.mirrorReply tag reply) := by
  unfold State.mirrorReply
  exact .update (c.hold _)

theorem keeps_execRegWrite {tag} : Keeps s (execRegWrite tag s) := by
  unfold execRegWrite
  split
  · exact .next id
  · refine .ite (.next fun c => c.finish _ _ _) ?_
    split
    next h1 =>
    exact .ite (.next fun c => .mirrorReply (.snd_snd h1 c.writeWords))
      (.next fun c => .finish (.snd_snd h1 c.writeWords) _ _ _)

theorem keeps_execI3cWriteTransfer {addr words} : Keeps s (execI3cWriteTransfer addr words s) :=
  .ite (.next id) (.next fun c => .foldl c fun _ _ c => c.writeWord)

theorem keeps_execI3cReadTransfer {addr n} : Keeps s (execI3cReadTransfer addr n s) := by
  unfold execI3cReadTransfer
  refine .ite (.next id) ?_
  split
  next h1 =>
  exact .next fun c => .update (.snd h1 c.readWords)

theorem Canon.i3cSay (c : Canon s) {b} : Canon (s.i3cSay b) := by
  unfold State.i3cSay
  exact c.update

theorem keeps_execEntdaa {da} : Keeps s (execEntdaa da s) := by
  unfold execEntdaa
  exact .ite (.next fun c => .i3cSay c.update) (.next id)

theorem keeps_execRstdaa : Keeps s (execRstdaa s) := by
  unfold execRstdaa
  exact .ite (.next fun c => c.update) (.next id)

theorem keeps_execSetnewda {da} : Keeps s (execSetnewda da s) := by
  unfold execSetnewda
  exact .ite (.next fun c => c.update) (.next id)

theorem keeps_execGetpid : Keeps s (execGetpid s) := .ite (.next fun c => c.i3cSay) (.next id)

theorem keeps_execGetbcr : Keeps s (execGetbcr s) := .ite (.next fun c => c.i3cSay) (.next id)

theorem keeps_execGetdcr : Keeps s (execGetdcr s) := .ite (.next fun c => c.i3cSay) (.next id)

theorem keeps_execGetstatus : Keeps s (execGetstatus s) := by
  unfold execGetstatus
  refine .ite ?_ (.next id)
  split
  next h1 =>
  exact .next fun c => .i3cSay (.snd h1 c.draw)

theorem keeps_execJtagRegAccess {write addr v} : Keeps s (execJtagRegAccess write addr v s) := by
  unfold execJtagRegAccess
  refine .ite (.next fun c => c.writeWord) ?_
  split
  next h1 =>
  exact .next fun c => .update (.snd h1 c.readWord)

/-! ### Host: the host attachment -/

theorem Canon.tracePoints (c : Canon s) : Canon s.tracePoints := by
  unfold State.tracePoints
  refine .ite c ?_
  split
  next h1 =>
  exact .foldl (.snd h1 c.draw) fun _ _ c => .ite (c.log _ _ _ _) c

theorem Canon.accept (c : Canon s) {p} : Canon (s.accept p) := by
  unfold State.accept
  exact .ite (.finish c.update _ _ _) (.ite (.finish c.update _ _ _) c.update)

theorem Canon.relay (c : Canon s) {e p} : Canon (s.relay e p) := by
  unfold State.relay
  exact .ite (c.replyOut _ _ _) (.ite (c.replyOut _ _ _) (.ite (c.replyOut _ _ _)
    (.ite (c.replyOut _ _ _) (.sendCuing c.update _ _ _ _ _ _ _))))

theorem keeps_execCommandTake {entry scatter} : Keeps s (execCommandTake entry scatter s) := by
  unfold execCommandTake
  exact .ite (.next id) (.ite (.next fun c => .replyOut (c.setRf _ _ _ _) _ _ _)
    (.ite (.next fun c => .accept (.tracePoints (c.setRf _ _ _ _))) (.next fun c => .relay (c.setRf _ _ _ _))))

theorem Canon.relayRefuse (c : Canon s) {dst p st} : Canon (s.relayRefuse dst p st) := c.sendCuing _ _ _ _ _ _ _

theorem Canon.putRoute (c : Canon s) {eid ws} : Canon (s.putRoute eid ws) := by
  unfold State.putRoute
  exact .setRegs (c.setRegs _ _) _ _

theorem Canon.bindTo (c : Canon s) {p} : Canon (s.bindTo p) := by
  unfold State.bindTo
  exact .sendCuing (.update (.putRoute (.putRoute (c.setRf _ _ _ _)))) _ _ _ _ _ _ _

theorem Canon.bindIn (c : Canon s) {src e scatter} : Canon (s.bindIn src e scatter) := by
  unfold State.bindIn
  exact .ite c.mgtLost (.ite (.ite c.mgtLost c.relayRefuse) (.ite c.mgtLost (.ite c.relayRefuse c.bindTo)))

theorem keeps_execBind {port pkt} : Keeps s (execBind port pkt s) := by
  unfold execBind
  split
  next h1 =>
  exact .ite (.next fun c => .snd h1 (c.sink _ _ _)) (.ite (.next fun c => .mgtLost (.snd h1 (c.sink _ _ _)))
    (.ite (.next fun c => .mgtLost (.snd h1 (c.sink _ _ _))) (.next fun c => .bindIn (.snd h1 (c.sink _ _ _)))))

theorem Canon.memFlush (c : Canon s) {n} : Canon (s.memFlush n) := by
  induction n generalizing s with
  | zero => exact c
  | succ n ih =>
    unfold State.memFlush
    refine .ite c (.ite (ih (.sendCuing c.update _ _ _ _ _ _ _)) ?_)
    split
    · exact c
    · exact ih (.sendCuing c.update _ _ _ _ _ _ _)

theorem keeps_execCuingCmd {port pkt} : Keeps s (execCuingCmd port pkt s) := by
  unfold execCuingCmd
  split
  next h1 =>
  refine .ite (.next id) (.ite (.next fun c => .snd h1 (c.sink _ _ _))
    (.ite (.next fun c => .mgtLost (.snd h1 (c.sink _ _ _)))
    (.ite (.next fun c => .mgtLost (.snd h1 (c.sink _ _ _)))
    (.ite (.next fun c => .memFlush (.update (.snd h1 (c.sink _ _ _)))) ?_))))
  extract_lets _ _ s2
  have c2 : Canon s → Canon s2 := fun c => .update (.snd h1 (c.sink _ _ _))
  split
  · exact .next fun c => .snd h1 (c.sink _ _ _)
  · exact .ite (.ite (.next fun c => .sinkAgain (.snd h1 (c.sink _ _ _)))
      (.next fun c => .update (.snd h1 (c.sink _ _ _)))) (.ite (.next fun c => .relayRefuse (c2 c))
      (.next fun c => .accept (c2 c)))

theorem Canon.bound (c : Canon s) {p} : Canon (s.bound p) := .event (c.setMember _ _) _ _ _

theorem Canon.relayDone (c : Canon s) {p r} : Canon (s.relayDone p r) := by
  unfold State.relayDone
  extract_lets _ _ s1 s2
  have c1 : Canon s1 := c.update
  have c2 : Canon s2 := .ite c1.bound c1
  exact .ite c2 (c2.replyWrite _ _)

theorem keeps_execCuingRsp {port pkt} : Keeps s (execCuingRsp port pkt s) := by
  unfold execCuingRsp
  split
  next h1 =>
  refine .ite (.next fun c => .snd h1 (c.sink _ _ _)) (.ite (.next fun c => .mgtLost (.snd h1 (c.sink _ _ _))) ?_)
  extract_lets _ _ s2
  have c2 : Canon s → Canon s2 := fun c => .bump (.snd h1 (c.sink _ _ _)) _ _ _ _
  split
  · exact .ite (.next fun c => .update (c2 c)) (.next fun c => .mgtLost (.snd h1 (c.sink _ _ _)))
  · refine .ite (.next fun c => .mgtLost (.snd h1 (c.sink _ _ _))) ?_
    split
    · exact .next fun c => .snd h1 (c.sink _ _ _)
    · exact .ite (.next fun c => .relayDone (.update (.snd h1 (c.sink _ _ _))))
        (.next fun c => .update (.snd h1 (c.sink _ _ _)))

theorem keeps_execCuingEvt {port pkt} : Keeps s (execCuingEvt port pkt s) := by
  unfold execCuingEvt
  split
  next h1 =>
  exact .ite (.next fun c => .snd h1 (c.sink _ _ _)) (.ite (.next fun c => .mgtLost (.snd h1 (c.sink _ _ _)))
    (.next fun c => .eventIn (.setMember (.snd h1 (c.sink _ _ _)) _ _) _))

theorem keeps_execEventCredit {m n} : Keeps s (execEventCredit m n s) := by
  unfold execEventCredit
  exact .ite (.next id) (.next fun c => .sendCuing (c.setMember _ _) _ _ _ _ _ _ _)

theorem Canon.relayFails (c : Canon s) {m tag st} : Canon (s.relayFails m tag st) := by
  unfold State.relayFails
  exact .ite (.finish c.update _ _ _) c

theorem keeps_execRelayTimeout {m tag} : Keeps s (execRelayTimeout m tag s) := .next fun c => c.relayFails

theorem keeps_execRelayProgressTimer {tag} : Keeps s (execRelayProgressTimer tag s) := by
  unfold execRelayProgressTimer
  split
  exacts [.next id, .next fun c => c.sendCuing _ _ _ _ _ _ _]

theorem keeps_execAttachCut : Keeps s (execAttachCut s) := by
  unfold execAttachCut
  exact .ite (.next fun c => c.update) (.next id)

theorem Canon.tableWrite (c : Canon s) {tag opcode size most base mask} : Canon
    (s.tableWrite tag opcode size most base mask) := by
  unfold State.tableWrite
  split
  · exact c
  · exact .ite (c.finish _ _ _) (.ite (c.finish _ _ _) (.finish (c.setRegs _ _) _ _ _))

theorem keeps_execRouteWrite {tag} : Keeps s (execRouteWrite tag s) := .next fun c => c.tableWrite

theorem keeps_execMcastWrite {tag} : Keeps s (execMcastWrite tag s) := .next fun c => c.tableWrite

theorem keeps_execImageList {tag} : Keeps s (execImageList tag s) := .next fun c => c.serve _ _ _ _ _ fun _ _ c => c

theorem keeps_execSlotRead {tag} : Keeps s (execSlotRead tag s) := by
  unfold execSlotRead
  exact .next fun c => c.serve _ _ _ _ _ fun _ _ c => c

theorem keeps_execRegionSet {tag} : Keeps s (execRegionSet tag s) := by
  unfold execRegionSet
  exact .next fun c => c.serve _ _ _ _ _ fun _ _ c => .ite_fst c
    (.ite_fst (c.setRf _ _ _ _) (.ite_fst (c.setRf _ _ _ _) (.setReg (.setReg (.ite c.regionSet c) _ _) _ _)))

theorem keeps_execEventMask {tag} : Keeps s (execEventMask tag s) := by
  unfold execEventMask
  exact .next fun c => c.serve _ _ _ _ _ fun _ _ c => c.update

theorem Canon.functionReset (c : Canon s) : Canon s.functionReset := by
  unfold State.functionReset
  exact .update (c.clearRegs _)

theorem keeps_execFlr : Keeps s (execFlr s) := .next fun c => .ite c.functionReset c

theorem keeps_execD3hotEntry : Keeps s (execD3hotEntry s) := by
  unfold execD3hotEntry
  exact .ite (.next fun c => c.functionReset.update) (.next id)

theorem keeps_execBusMasterEnableWrite {b} : Keeps s (execBusMasterEnableWrite b s) := by
  unfold execBusMasterEnableWrite
  exact .ite (.next fun c => .evtFlush (.replyFlush (.msiFlush c.update))) (.next id)

theorem Canon.badTlp (c : Canon s) {isWrite} : Canon (s.badTlp isWrite) := by
  unfold State.badTlp
  exact c.update

theorem keeps_execBar0BadAccess {isWrite} : Keeps s (execBar0BadAccess isWrite s) :=
  .ite (.next fun c => .badTlp (c.bump _ _ _ _)) (.next id)

theorem keeps_execBar2Write {off bytes} : Keeps s (execBar2Write off bytes s) :=
  .ite (.next id) (.ite (.next fun c => c.memStore _ _) (.next fun c => .badTlp (c.bump _ _ _ _)))

theorem keeps_execBar2Read {off n} : Keeps s (execBar2Read off n s) := by
  unfold execBar2Read
  refine .ite (.next id) (.ite ?_ (.next fun c => .badTlp (c.bump _ _ _ _)))
  split
  next h1 =>
  exact .next fun c => .update (.snd h1 c.memLoad)

theorem keeps_execHioFatalError : Keeps s (execHioFatalError s) := by
  unfold execHioFatalError
  exact .ite (.next fun c => .update (c.setRf _ _ _ _)) (.next id)

theorem keeps_execPcieLinkUp {gen width} : Keeps s (execPcieLinkUp gen width s) := by
  unfold execPcieLinkUp
  refine .ite ?_ (.next id)
  split
  next h1 =>
  exact .next fun c => .evtFlush (.replyFlush (.msiFlush (.setRf
    (.setReg (.snd h1 (.ite_snd c.draw c)) _ _) _ _ _ _)))

theorem keeps_execPcieLinkDown {refclkLost} : Keeps s (execPcieLinkDown refclkLost s) := by
  unfold execPcieLinkDown
  exact .ite (.next fun c => .ite (.setRf (c.setRf _ _ _ _) _ _ _ _) (c.setRf _ _ _ _)) (.next id)

theorem keeps_execPcieHotReset : Keeps s (execPcieHotReset s) := by
  unfold execPcieHotReset
  exact .ite (.next fun c => .ite c.functionReset.update (.setRf c.functionReset.update _ _ _ _)) (.next id)

theorem keeps_execDoeAbort : Keeps s (execDoeAbort s) := by
  unfold execDoeAbort
  exact .ite (.next fun c => c.update) (.next id)

/-! ### Age: the age limit -/

theorem Canon.joinAged (c : Canon s) {a0} : Canon (s.joinAged a0) := by
  unfold State.joinAged
  refine .foldl c fun _ _ c => ?_
  split
  exacts [.ite c.gateEnd (.ite c c.setJoin), c]

theorem Canon.ownAged (c : Canon s) {a0} : Canon (s.ownAged a0) := by
  unfold State.ownAged
  refine .ite (.mirrorPush (.ownStep c.opEnd)) (.ite ?_ (.ite c.joinAged (.ite c.relayFails c)))
  split
  exacts [.ite (.ownStep c.granted) c, c]

theorem keeps_execAgeLimitExpire {q vc} : Keeps s (execAgeLimitExpire q vc s) := by
  unfold execAgeLimitExpire
  split
  · exact .next id
  next h2 =>
    extract_lets s3 s4
    have c3 : Canon s → Canon s3 := fun c => .evDev (.bump (.pktGone (c.takeWaiting h2)) _ _ _ _) _ _
    have c4 : Canon s → Canon s4 := fun c => .copyLost (c3 c)
    exact .next fun c => .ite (.ownAged (c4 c)) (c4 c)

end Functions

/-! ### Every command, and the step -/

/-- Every command of the table answers a next state and keeps the canonical form: one lemma per command. -/
theorem exec_keeps (i : Instr) (s : State) : Keeps s (exec i s) := by
  unfold exec
  cases i
  exacts [keeps_execVinAonApply, keeps_execVinAonLoss, keeps_execVinMainLoss, keeps_execMainPowerGood,
    keeps_execPllLockDone, keeps_execClusterSramBistDone, keeps_execHbmPairTrained, keeps_execBootComplete,
    keeps_execVinIoLoss, keeps_execVinIoReturn, keeps_execRefclkFabLoss, keeps_execRefclkFabReturn,
    keeps_execAonTrim, keeps_execSupplyAlertAssert, keeps_execSupplyAlertClear, keeps_execFlowAlert,
    keeps_execFlowAlertClear, keeps_execIsoStatusFrameRx, keeps_execIsoLostTimeout, keeps_execDemandFrameTx,
    keeps_execIsoStatusClear, keeps_execDomainRun, keeps_execDomainOff, keeps_execDomainExitDone,
    keeps_execShuClockSwitch, keeps_execDeepIdleEnter, keeps_execLinkFrameRx, keeps_execLinkFrameTx,
    keeps_execRetryTimerExpire, keeps_execLinkSilentTimeout, keeps_execTrainParams, keeps_execTrainAck,
    keeps_execHoldReq, keeps_execHoldAck, keeps_execWake, keeps_execWidth, keeps_execWidthAck, keeps_execPaceRx,
    keeps_execDownNotice, keeps_execResync, keeps_execCtrlMsgResend, keeps_execLinkTrainStart,
    keeps_execTrainComplete, keeps_execTrainTimeout, keeps_execHoldLimitExpire, keeps_execDownRetrainTimer,
    keeps_execLaneRetire, keeps_execLaneLendTimeout, keeps_execWakePatternDetect, keeps_execPortCfgWrite,
    keeps_execPortCreditWrite, keeps_execPortLinkErrClear, keeps_execPortQuarErrClear, keeps_execPaceResend,
    keeps_execPaceRelease, keeps_execLinkRestTimer, keeps_execLinkDarkTimer, keeps_execPktHeaderArrive,
    keeps_execPktPortRetry, keeps_execSelEscape, keeps_execAgeLimitExpire, keeps_execOpTimeout, keeps_execPut,
    keeps_execGet, keeps_execAtomic, keeps_execCall, keeps_execWopen, keeps_execWclose, keeps_execPutAck,
    keeps_execGetData, keeps_execAtomicRsp, keeps_execCallDone, keeps_execWgrant, keeps_execContrib,
    keeps_execResult, keeps_execGroupFail, keeps_execCuingCmd, keeps_execCuingRsp, keeps_execCuingEvt,
    keeps_execMapReport, keeps_execPairHb, keeps_execMirror, keeps_execMigrate, keeps_execWinIdleExpire,
    keeps_execReorderTimeout, keeps_execCommitStart, keeps_execCommitSync, keeps_execCommitAbort,
    keeps_execCommitValidateDone, keeps_execCommitDrained, keeps_execDrainLimitExpire, keeps_execRtePktErrClear,
    keeps_execRteFlowErrClear, keeps_execRteCongErrClear, keeps_execBobApply, keeps_execBobDrawServed,
    keeps_execBobDfLogClear, keeps_execBobErrClear, keeps_execGroupAdmit, keeps_execGroupAdmitDone,
    keeps_execGroupRelease, keeps_execGroupReleaseDrained, keeps_execGroupRearm, keeps_execReleaseWave,
    keeps_execChunkTimeout, keeps_execGateGrant, keeps_execGateTimeout, keeps_execRteGrpErrClear,
    keeps_execReedErrClear, keeps_execSeqRegionWrite, keeps_execServiceReloadDone, keeps_execSlotOpen,
    keeps_execSlotRelease, keeps_execSlotReleaseDone, keeps_execEvacuate, keeps_execEvacPageMoved,
    keeps_execEvacOldFrameFree, keeps_execEvacAbort, keeps_execAllocBack, keeps_execRecall,
    keeps_execRecallPageDone, keeps_execReclaim, keeps_execSeqErrClear, keeps_execLibDecode, keeps_execLibPrefill,
    keeps_execLibLatentDecode, keeps_execLibAppend, keeps_execLibRead, keeps_execLibLend, keeps_execLibReturn,
    keeps_execImageLoad, keeps_execImageVerifyDone, keeps_execImageCopyDone, keeps_execImageUnload,
    keeps_execImageDrainDone, keeps_execWorkItemDispatch, keeps_execBenchWaitExpire, keeps_execRunLimitExpire,
    keeps_execQueueWrite, keeps_execShedErrClear, keeps_execSop, keeps_execAddi, keeps_execAndi, keeps_execOri,
    keeps_execXori, keeps_execShi, keeps_execSlti, keeps_execSli, keeps_execSmul, keeps_execScmp, keeps_execFop,
    keeps_execFmad, keeps_execFcmp, keeps_execScvt, keeps_execVint, keeps_execVfp, keeps_execVfma, keeps_execVcmp,
    keeps_execVplog, keeps_execVred, keeps_execVperm, keeps_execVbcast, keeps_execVcvt, keeps_execVmxcvt,
    keeps_execVsfn, keeps_execVtopk, keeps_execMld, keeps_execMst, keeps_execMma, keeps_execMmx, keeps_execMzero,
    keeps_execMtov, keeps_execLd, keeps_execSt, keeps_execLdi, keeps_execSti, keeps_execVld, keeps_execVst,
    keeps_execVgth, keeps_execVsct, keeps_execMcpyIssue, keeps_execMcpyWait, keeps_execMcpyWaitall,
    keeps_execAsyncCopyDone, keeps_execHndDraw, keeps_execHndFree, keeps_execHndHget, keeps_execHndHput,
    keeps_execLatm, keeps_execFput, keeps_execFget, keeps_execFatm, keeps_execFcall, keeps_execIssueStallRelease,
    keeps_execFopen, keeps_execFclose, keeps_execFwaitAll, keeps_execFwaitUpto, keeps_execFwaitPoll,
    keeps_execCjoin, keeps_execCwaitWait, keeps_execCwaitPoll, keeps_execCrel, keeps_execTgate,
    keeps_execJoinTimeout, keeps_execSapp, keeps_execSappPerformed, keeps_execSgath, keeps_execSmapAddr,
    keeps_execSmapPte, keeps_execSmapLen, keeps_execSrel, keeps_execBr, keeps_execJal, keeps_execJalr,
    keeps_execCtlr, keeps_execCtlw, keeps_execCntr, keeps_execYield, keeps_execTrap, keeps_execHalt,
    keeps_execMsync, keeps_execTreadleStep, keeps_execClusterShareUpdate, keeps_execCapWordWrite,
    keeps_execCapHoldExpire, keeps_execCapFallbackExpire, keeps_execHostCap, keeps_execSleep, keeps_execHostCfg,
    keeps_execTrdAlertClear, keeps_execTrdErrClear, keeps_execPowerReportRead, keeps_execPowerRead,
    keeps_execPowerReports, keeps_execSwGateTimer, keeps_execShuGateTimer, keeps_execShuRetainTimer,
    keeps_execReedGateTimer, keeps_execReedRetainTimer, keeps_execHbmSrTimer, keeps_execThermalSample,
    keeps_execSensorPlausibilityTimer, keeps_execRungReleaseTimer, keeps_execLadderStepTimer,
    keeps_execThermtripAssert, keeps_execTripLatchClear, keeps_execCoolantSample, keeps_execCoolDtTimer,
    keeps_execLeakSample, keeps_execLeakDryTimer, keeps_execCartPresenceQualified, keeps_execCartPull,
    keeps_execCartRemove, keeps_execCartInspect, keeps_execCartIdentityReadDone, keeps_execInspectionDone,
    keeps_execSensors, keeps_execZones, keeps_execCoolCfg, keeps_execCartStatus, keeps_execScores,
    keeps_execCartIdentity, keeps_execComponentFault, keeps_execComponentWatchdog, keeps_execCoreWatchdog,
    keeps_execComponentRestartDone, keeps_execKernelFault, keeps_execComplexRestartDone, keeps_execSecCoreFault,
    keeps_execTreadleCoreFault, keeps_execSchedulerCoreFault, keeps_execControlCoreFault,
    keeps_execDelegateRestartDone, keeps_execFwStage, keeps_execStageVerifyDone, keeps_execActivateLive,
    keeps_execActivateReset, keeps_execFwCancel, keeps_execFwCommit, keeps_execActivationComponentDone,
    keeps_execActivationResume, keeps_execProbationExpire, keeps_execRevertDone, keeps_execFwStatus,
    keeps_execPolicyWrite, keeps_execSpdm, keeps_execDoeRequest, keeps_execDebugNonce, keeps_execDebugToken,
    keeps_execNonceExpire, keeps_execPlnLogLostClear, keeps_execLogRead, keeps_execTraceCatalogue,
    keeps_execIdentify, keeps_execVersion, keeps_execDigest, keeps_execCqDoorbell, keeps_execRqDoorbell,
    keeps_execEqDoorbell, keeps_execRingEnable, keeps_execCommandTake, keeps_execRegRead, keeps_execRegWrite,
    keeps_execRouteWrite, keeps_execMcastWrite, keeps_execImageList, keeps_execGroupWrite, keeps_execGroupRead,
    keeps_execSlotRead, keeps_execRegionSet, keeps_execBind, keeps_execEventMask, keeps_execEventCredit,
    keeps_execMapRead, keeps_execMapCfg, keeps_execRelayTimeout, keeps_execRelayProgressTimer,
    keeps_execMsixCoalesceTimer, keeps_execFlr, keeps_execD3hotEntry, keeps_execPerstAssert,
    keeps_execPerstDeassert, keeps_execBar0BadAccess, keeps_execBar2Write, keeps_execBar2Read,
    keeps_execHioFatalError, keeps_execHioErrClear, keeps_execPairConfig, keeps_execPairStatus, keeps_execPairSwap,
    keeps_execSwapAbdicate, keeps_execHeartbeatTx, keeps_execHbFrameRx, keeps_execHbPathSilent,
    keeps_execSelectorSwitchDone, keeps_execTakeoverComplete, keeps_execSelectorPoll, keeps_execPairMsgItem,
    keeps_execPairMsgAck, keeps_execPairMsgBaselineStart, keeps_execPairMsgBaselineEnd, keeps_execPairMsgAbdicate,
    keeps_execMirrorAckTimeout, keeps_execEpochMirrorTimer, keeps_execDvtErrClear, keeps_execCounterOverflow,
    keeps_execSampleCapture, keeps_execCounterRead, keeps_execCounterCfgWrite, keeps_execMapIntervalEnd,
    keeps_execCntMapErrClear, keeps_execHbmEccClear, keeps_execAttachCut, keeps_execWarmReset,
    keeps_execFabricReset, keeps_execClusterReset, keeps_execPortReset, keeps_execSelftestAonTrim,
    keeps_execSelftestLaneCal, keeps_execSelftestPortLoop, keeps_execSelftestSramBist, keeps_execSelftestShuBist,
    keeps_execSelftestReedBist, keeps_execSelftestHbmScan, keeps_execSelftestCryptoKat,
    keeps_execSelftestSensorCheck, keeps_execSelftestDone, keeps_execI3cWriteTransfer, keeps_execI3cReadTransfer,
    keeps_execEntdaa, keeps_execRstdaa, keeps_execSetnewda, keeps_execGetpid, keeps_execGetbcr, keeps_execGetdcr,
    keeps_execGetstatus, keeps_execJtagRegAccess, keeps_execRegisterWrite, keeps_execJtagHalt, keeps_execJtagResume,
    keeps_execPllLockLoss, keeps_execPcieLinkUp, keeps_execPcieLinkDown, keeps_execPcieHotReset,
    keeps_execBusMasterEnableWrite, keeps_execDoeAbort]

/-- The step takes the front command off the queue, which no table holds. -/
theorem step_keeps (s : State) : Keeps s (step s) := by
  unfold step
  split
  · exact .next id
  · exact .of (fun c => c.update) (exec_keeps _ _)

/-! ### The obligations -/

/-- Settles O3: the tables of the reset state are empty. -/
theorem resetTablesCanonical : Obligations.ResetTablesCanonical := by
  unfold Obligations.ResetTablesCanonical
  exact canon_reset

/-- Settles O2: no command of the table faults or is refused. -/
theorem everyStepAnswersNext : Obligations.EveryStepAnswersNext := by
  unfold Obligations.EveryStepAnswersNext
  intro s
  obtain ⟨t, ht, -⟩ := step_keeps s
  exact ⟨t, ht⟩

/-- Settles O4: the command that a step executes keeps the canonical form. -/
theorem stepKeepsTablesCanonical : Obligations.StepKeepsTablesCanonical := by
  unfold Obligations.StepKeepsTablesCanonical
  intro s t c ht
  obtain ⟨u, hu, keep⟩ := step_keeps s
  cases hu.symm.trans ht
  exact keep c

end Sys2Proof.Machine
end

section
/-!
The links of the ports under the operations of the crossbar, and the port registers whose writes act (R87, R91, R92,
R596).  The operations on pools, joins, reeds, events and the mirror stream leave the ports as they are
(`State.<operation>_ports`); those that move packets between ports write port records and leave the state of every
link (`State.<operation>_links`).  So a port that leaves its link is in the state it was taken to, whatever the
flush of its queues moves.
-/

namespace Sys2Proof.Machine

/-! ### What is read of a state after a fold that leaves it -/

section Reads
variable {σ α β : Type} (g : σ → β)

theorem foldl_read {f : σ → α → σ} (h : ∀ s x, g (f s x) = g s) (l : List α) (s : σ) : g (l.foldl f s) = g s :=
  List.foldlRecOn (motive := fun t => g t = g s) l f rfl fun t ht x _ => (h t x).trans ht

theorem foldr_read {f : α → σ → σ} (h : ∀ s x, g (f x s) = g s) (l : List α) (s : σ) : g (l.foldr f s) = g s :=
  List.foldrRecOn (motive := fun t => g t = g s) l f rfl fun t ht x _ => (h t x).trans ht

end Reads

/-! ### Operations that leave the ports as they are -/

section Ports
variable (s : State)

@[simp] theorem State.poolDraw_ports (c k : Nat) (r : Bool) (h : Holder) : (s.poolDraw c k r h).2.ports = s.ports := rfl

@[simp] theorem State.poolDrawN_ports (c k : Nat) (h : Holder) (n : Nat) : (s.poolDrawN c k h n).ports = s.ports := by
  induction n generalizing s with
  | zero => rfl
  | succ n ih => exact (ih _).trans rfl

@[simp] theorem State.poolRelease_ports (c : Nat) (h : Holder) : (s.poolRelease c h).ports = s.ports := rfl

@[simp] theorem State.poolFreeAll_ports (c : Nat) (h : Holder) : (s.poolFreeAll c h).ports = s.ports := rfl

@[simp] theorem State.poolHold_ports (c k : Nat) (h : Holder) (n : Nat) : (s.poolHold c k h n).ports = s.ports := by
  unfold State.poolHold
  dsimp only
  split
  · exact s.poolDrawN_ports _ _ _ _
  · rfl

@[simp] theorem State.portTrim_ports (p v : Nat) : (s.portTrim p v).ports = s.ports := by
  unfold State.portTrim
  extract_lets
  split
  · rfl
  · split <;> rfl

@[simp] theorem State.picksOut_ports (p v n : Nat) : (s.picksOut p v n).ports = s.ports := by
  induction n generalizing s with
  | zero => rfl
  | succ n ih =>
    unfold State.picksOut
    dsimp only
    split
    · rfl
    · rw [ih]
      split
      · rw [State.portTrim_ports, State.setPool_ports]
      · rfl

@[simp] theorem State.winRelease_ports (c src dst flow : Nat) : (s.winRelease c src dst flow).ports = s.ports := by
  unfold State.winRelease
  refine foldl_read (fun a : State × Nat => a.1.ports) (fun a i => ?_) _ _
  dsimp only
  split
  · rfl
  · exact State.poolDrawN_ports _ _ _ _ _

@[simp] theorem State.winSync_ports (src dst flow : Nat) : (s.winSync src dst flow).ports = s.ports := by
  unfold State.winSync
  dsimp only
  split
  · rfl
  · split
    · exact s.poolHold_ports _ _ _ _
    · exact s.winRelease_ports _ _ _ _

theorem State.contribPkt_ports {x im k ofs n : Nat} {j : Join} {data : List Byte} {t : State}
    (e : s.contribPkt x im j k ofs n data = some t) : t.ports = s.ports := by
  unfold State.contribPkt at e
  dsimp only at e
  split at e
  · cases e
    exact s.emit_ports _ _
  · split at e
    · split at e <;> cases e
      exact State.emit_ports _ _ _
    · cases e

@[simp] theorem State.joinSend_ports (x j : Nat) : (s.joinSend x j).ports = s.ports := by
  unfold State.joinSend
  split
  · split
    · rfl
    · refine foldl_read (fun a : State × Nat × Bool => a.1.ports) (fun a y => ?_) _ _
      split
      · rfl
      · split
        · split
          next h => exact a.1.contribPkt_ports h
          next => rfl
        · rfl
  · rfl

@[simp] theorem State.joinsGo_ports (c im : Nat) : (s.joinsGo c im).ports = s.ports := by
  unfold State.joinsGo
  exact foldl_read State.ports (fun s _ => foldl_read State.ports (fun s _ => s.joinSend_ports _ _) _ s) _ _

@[simp] theorem State.pktGone_ports (k : QPkt) : (s.pktGone k).ports = s.ports := by
  unfold State.pktGone
  dsimp only
  split
  · rfl
  · rw [foldl_read State.ports fun s i => s.joinsGo_ports (k.inq - 128) i, State.setPool_ports,
      State.poolFreeAll_ports]
    split
    · exact s.winSync_ports _ _ _
    · rfl

@[simp] theorem State.evClu_ports (c code n : Nat) : (s.evClu c code n).ports = s.ports := by
  unfold State.evClu
  split
  · rfl
  · exact s.ctrBank_ports _ _ _ _ _

@[simp] theorem State.dfLog_ports (c handle unit holder : Nat) : (s.dfLog c handle unit holder).ports = s.ports := by
  unfold State.dfLog
  split
  · rfl
  · dsimp only
    rw [State.event_ports, State.setReg_ports, State.setReg_ports, State.setReg_ports, State.setReg_ports]

@[simp] theorem State.resultFree_ports (c g hand : Nat) : (s.resultFree c g hand).ports = s.ports := rfl

@[simp] theorem State.updSlot_ports (g chunk : Nat) (f : Slot → Slot) : (s.updSlot g chunk f).ports = s.ports := rfl

@[simp] theorem State.advance_ports (n g : Nat) : (State.advance n s g).ports = s.ports := by
  induction n generalizing s with
  | zero => rfl
  | succ n ih =>
    unfold State.advance
    dsimp only
    split
    · rw [ih, State.setRf_ports, State.setGroup_ports]
    · rfl

@[simp] theorem State.freeSlot_ports (g chunk : Nat) : (s.freeSlot g chunk).ports = s.ports := by
  unfold State.freeSlot
  dsimp only
  rw [State.advance_ports, State.setGroup_ports]
  split
  · split <;> rfl
  · rfl

@[simp] theorem State.copyGone_ports (mc : Nat × Nat × Nat) : (s.copyGone mc).ports = s.ports := by
  unfold State.copyGone
  dsimp only
  split
  · split <;> rfl
  · split
    · rfl
    · split
      · rw [State.dfLog_ports, State.bump_ports]
      · split
        · split
          · rw [State.freeSlot_ports, State.updSlot_ports]
          · rfl
        · rfl

@[simp] theorem State.copyLost_ports (k : QPkt) : (s.copyLost k).ports = s.ports := by
  unfold State.copyLost
  split
  next m _ =>
    rw [State.copyGone_ports]
    split
    · exact foldl_read State.ports (fun s _ => s.bump_ports _ _ _ _) _ _
    · rfl
  next => rfl

@[simp] theorem State.memberScan_ports : s.memberScan.ports = s.ports := by
  unfold State.memberScan
  refine foldl_read State.ports (fun s m => ?_) _ _
  dsimp only
  split
  · rw [State.event_ports, State.setMember_ports]
  · rfl

@[simp] theorem State.uncut_ports : s.uncut.ports = s.ports := by
  unfold State.uncut
  dsimp only
  rw [State.memberScan_ports]
  split <;> rfl

@[simp] theorem State.optFollow_ports (k : Nat) : (s.optFollow k).ports = s.ports := by
  unfold State.optFollow
  dsimp only
  repeat' split
  all_goals rfl

end Ports

/-! ### Registers that a scan of the members and the mirror stream leave -/

section Registers
variable (s : State)

theorem State.reg_wake (d a : Nat) : (s.wake d).reg a = s.reg a := by
  rw [State.reg, State.wake_regs]
  rfl

theorem State.reg_memberScan {a : Nat} (h : 0x60 < a) (h1 : a ≠ aLogHead) (h2 : a ≠ aLogLost) :
    s.memberScan.reg a = s.reg a := by
  unfold State.memberScan
  refine foldl_read (fun t : State => t.reg a) (fun s m => ?_) _ _
  dsimp only
  split
  · rw [State.reg_event _ _ _ _ h h1 h2, State.setMember_reg]
  · rfl

theorem State.reg_uncut {a : Nat} (h : 0x60 < a) (h1 : a ≠ aLogHead) (h2 : a ≠ aLogLost) :
    s.uncut.reg a = s.reg a := by
  unfold State.uncut
  dsimp only
  rw [State.reg_memberScan _ h h1 h2]
  split <;> rfl

theorem State.sendItem_same (m : MirItem) : ∃ x0, s.sendItem m = { s with sw := x0 } := by
  unfold State.sendItem
  refine List.foldlRecOn (motive := fun t => ∃ x0, t = { s with sw := x0 }) m.got _ ⟨s.sw, rfl⟩ ?_
  rintro _ ⟨x0, rfl⟩ x -
  exact State.emit_same _ _ _

theorem State.mirrorPut_same (typ key : Nat) (body : List Byte) (tag : Option Nat) (reply : List Byte) :
    ∃ x0 x1, s.mirrorPut typ key body tag reply = { s with sw := x0, pair := x1 } := by
  unfold State.mirrorPut
  dsimp only
  split
  · obtain ⟨_, h⟩ := State.sendItem_same _ _
    exact ⟨_, _, h⟩
  · split
    · obtain ⟨_, h⟩ := State.sendItem_same _ _
      rw [h]
      exact ⟨_, _, rfl⟩
    · exact ⟨_, _, rfl⟩

/-- A mirrored change joins the packets of the device and the stream of the pair. -/
theorem State.mirrorPorts_same : ∃ x0 x1, s.mirrorPorts = { s with sw := x0, pair := x1 } := by
  unfold State.mirrorPorts State.mirror
  split
  · exact s.mirrorPut_same _ _ _ _ _
  · exact ⟨_, _, rfl⟩

@[simp] theorem State.mirrorPorts_regs : s.mirrorPorts.regs = s.regs := by
  obtain ⟨_, _, h⟩ := s.mirrorPorts_same; rw [h]

@[simp] theorem State.mirrorPorts_ports : s.mirrorPorts.ports = s.ports := by
  obtain ⟨_, _, h⟩ := s.mirrorPorts_same; rw [h]

end Registers

/-! ### Operations that leave the state of every link -/

/-- The state of the link of each port. -/
def State.links (s : State) (q : Nat) : LState := (s.port q).lstate

section Links
variable (s : State)

theorem State.links_of_ports {s t : State} (h : t.ports = s.ports) : t.links = s.links := by
  funext q
  rw [State.links, State.port, h]
  rfl

theorem State.links_updPort {p : Nat} {f : Port → Port} (h : ∀ x, (f x).lstate = x.lstate) :
    (s.updPort p f).links = s.links := by
  funext q
  rw [State.links, State.updPort, State.port_setPort]
  split
  next e => rw [h, e]; rfl
  next => rfl

theorem State.freeRest_links (k : QPkt) : (s.freeRest k).links = s.links := by
  have picks (n : Nat) : (s.picksOut k.inq k.vc n).links = s.links := State.links_of_ports (s.picksOut_ports _ _ _)
  unfold State.freeRest State.freeOf
  dsimp only
  split
  · split
    · exact picks _
    · rw [State.links_updPort, picks]
      exact fun _ => rfl
  · rfl

theorem State.withdrawRest_links (p : Nat) : (s.withdrawRest p).links = s.links :=
  s.links_updPort fun x => by split <;> rfl

theorem State.toOut_links (p v : Nat) (k : QPkt) : (s.toOut p v k).links = s.links := by
  unfold State.toOut
  rw [State.links_of_ports (State.wake_ports _ _), State.withdrawRest_links,
    State.links_of_ports (s.setOutq_ports _ _ _)]

theorem State.wakePort_links (p : Nat) : (s.wakePort p).links = s.links := by
  have lit : (((s.wake (dSw (p / 16))).wake (dOpt (p / 8))).updPort p fun x =>
      { x.answered 3 with txOn := true, holdReq := none }).links = s.links := by
    rw [State.links_updPort, State.links_of_ports (State.wake_ports _ _), State.links_of_ports (s.wake_ports _)]
    exact fun _ => rfl
  unfold State.wakePort
  dsimp only
  split
  · rfl
  · split
    · exact lit
    · unfold State.ctlSend
      rw [State.links_updPort, lit]
      exact fun _ => rfl

/-! ### The flush of a port (R168, R169) -/

theorem State.cutRx_links (p v : Nat) (r : RxPkt) : (s.cutRx p v r).links = s.links := by
  unfold State.cutRx
  split
  · split
    · split
      · rfl
      · rw [State.links_of_ports (State.bump_ports _ _ _ _ _)]; rfl
    · dsimp only
      split
      · rfl
      · rw [State.freeRest_links]; rfl
  · dsimp only
    split
    · rw [State.freeRest_links]; rfl
    · rfl

theorem State.cutAll_links (p : Nat) : (s.cutAll p).links = s.links := by
  unfold State.cutAll
  extract_lets s1 g
  have cut : s1.links = s.links := by
    refine foldl_read State.links (fun s e => ?_) _ _
    split
    · exact s.cutRx_links _ _ _
    · rfl
  change (s1.updPort p fun x => { x with rx := [] }).links = s.links
  rw [State.links_updPort, cut]
  exact fun _ => rfl

theorem State.flushOne_links (v : Nat) (k : QPkt) : (s.flushOne v k).1.links = s.links := by
  have gone : ((s.bump (aCongErr 0) 15 0 1).pktGone k).links = s.links := by
    rw [State.links_of_ports (State.pktGone_ports _ _), State.links_of_ports (s.bump_ports _ _ _ _)]
  have freed : (if v = 6 then (s.bump (aCongErr 0) 15 0 1).pktGone k
      else ((s.bump (aCongErr 0) 15 0 1).pktGone k).freeRest k).links = s.links := by
    split
    · exact gone
    · rw [State.freeRest_links, gone]
  unfold State.flushOne
  extract_lets lost
  have hlost : (lost s).links = s.links := by
    unfold lost
    dsimp only
    split
    · split
      · rw [State.links_of_ports (State.copyLost_ports _ _), freed]
      · rw [State.links_of_ports (State.copyGone_ports _ _), freed]
    · exact freed
  split
  · exact hlost
  · split
    · exact hlost
    · rw [State.links_of_ports (State.evClu_ports _ _ _ _), State.links_of_ports (s.bump_ports _ _ _ _)]

theorem State.rechoose_links (k : QPkt) : (s.rechoose k).1.links = s.links := by
  unfold State.rechoose
  dsimp only
  split
  · split
    · exact s.toOut_links _ _ _
    · rfl
  · split
    · rfl
    · split
      · exact s.toOut_links _ _ _
      · split
        · exact s.wakePort_links _
        · rfl
        · rw [State.links_of_ports (State.copyLost_ports _ _), State.freeRest_links,
            State.links_of_ports (State.pktGone_ports _ _), State.links_of_ports (s.bump_ports _ _ _ _)]

theorem State.rechooseAll_links (l : List QPkt) : (s.rechooseAll l).links = s.links := by
  unfold State.rechooseAll
  dsimp only
  rw [foldr_read State.links fun s k => State.links_of_ports (s.setInq_ports _ _ _)]
  refine foldl_read (fun a : State × List QPkt => a.1.links) (fun a k => ?_) _ _
  exact a.1.rechoose_links k

theorem State.flushPort_links (p : Nat) : (s.flushPort p).links = s.links := by
  unfold State.flushPort
  refine foldl_read State.links (fun s v => ?_) _ _
  dsimp only
  rw [State.rechooseAll_links]
  refine foldl_read (fun a : State × List QPkt => a.1.links) (fun a k => ?_) _ _
  exact a.1.flushOne_links v k

theorem State.portsFlush_links (ps : List Nat) : (s.portsFlush ps).links = s.links := by
  unfold State.portsFlush
  dsimp only
  rw [State.links_of_ports (State.memberScan_ports _), foldl_read State.links fun s p => s.flushPort_links p]
  refine foldl_read State.links (fun s p => ?_) _ _
  rw [State.links_updPort, State.cutAll_links]
  exact fun _ => rfl

end Links

/-! ### A port that leaves its link -/

section Leave
variable (s : State) (p : Nat)

theorem State.lstate_portEnd (cause : Nat) (l : LState) (notice counts : Bool) :
    ((s.portEnd p cause l notice counts).port p).lstate = l := by
  have taken (t : State) : ((t.updPort p fun x =>
      { x.linkless with lstate := l, downCause := cause, txOn := false }).port p).lstate = l := by
    rw [State.updPort, State.port_setPort_same]
  have quarantined (t : State) : (t.pairQuar p).port p = t.port p := by
    unfold State.pairQuar
    split
    · exact t.setRf_port _ _ _ _ _
    · rfl
  unfold State.portEnd
  dsimp only
  split
  · rw [State.bump_port, quarantined, taken]
  · rw [quarantined, taken]

theorem State.lstate_portLeave (cause : Nat) (l : LState) (notice counts : Bool) :
    ((s.portLeave p cause l notice counts).port p).lstate = l :=
  (congrFun (State.portsFlush_links _ _) p).trans (s.lstate_portEnd p cause l notice counts)

theorem State.lstate_portDark : ((s.portDark p).port p).lstate = .dark := by
  have followed (t : State) (h : (t.port p).lstate = .dark) : ((t.optFollow (p / 8)).port p).lstate = .dark :=
    (congrFun (State.links_of_ports (t.optFollow_ports _)) p).trans h
  unfold State.portDark
  dsimp only
  split
  next h => exact h
  next =>
    split
    · exact followed _ (by simp [State.updPort])
    · exact followed _ (s.lstate_portLeave p 10 .dark true true)

end Leave

/-! ### Port registers whose writes act (R87, R91, R92, R596) -/

section PortCfg

/-- The word that PORT_CFG holds once v is written: its undefined bits stay 0. -/
def portCfgWord (v : Word) : Word :=
  BitVec.ofNat 32 (v.toNat % 65536 - bits v.toNat 7 5 * 32 - bits v.toNat 3 3 * 8)

theorem fld_portCfgWord_role (v : Word) : fld (portCfgWord v) 1 0 = fld v 1 0 := by
  simp only [fld, portCfgWord, bits, BitVec.toNat_ofNat, Nat.shiftRight_eq_div_pow]
  omega

theorem fld_portCfgWord_linkEn (v : Word) : fld (portCfgWord v) 2 2 = fld v 2 2 := by
  simp only [fld, portCfgWord, bits, BitVec.toNat_ofNat, Nat.shiftRight_eq_div_pow]
  omega

theorem fld_portCfgWord_fwdEn (v : Word) : fld (portCfgWord v) 4 4 = fld v 4 4 := by
  simp only [fld, portCfgWord, bits, BitVec.toNat_ofNat, Nat.shiftRight_eq_div_pow]
  omega

variable {s : State} {p : Nat} {v : Word}

theorem State.portCfgSet_roleChange (role : fld v 1 0 ≠ s.portRole p) (up : s.darkOrOff p = false)
    (free : s.inQuar p = false) : s.portCfgSet p v = (stState, s) := by
  have refused : fld v 1 0 ≠ s.portRole p ∧ ¬(s.darkOrOff p = true ∨ s.inQuar p = true) := ⟨role, by simp [up, free]⟩
  unfold State.portCfgSet
  dsimp only
  rw [if_pos refused, ite_self, ite_self]

/-- A write that clears LINK_EN of an EDGE port out of forwarding takes the port DARK (R72, step 10). -/
theorem State.portCfgSet_linkOff (was : s.portRole p = 1) (role : fld v 1 0 = 1) (link : fld v 2 2 = 0)
    (fwd : fld v 4 4 = 0) :
    s.portCfgSet p v = (stOk, ((s.portDark p).setReg (aPortCfg p) (portCfgWord v)).uncut) := by
  unfold State.portCfgSet
  dsimp only
  rw [was, role, link, fwd, if_neg (by simp), if_neg (by simp), if_neg (by simp), if_neg (by simp), if_neg (by simp),
    if_neg (by simp), if_neg (by simp), if_neg (by simp), if_neg (by simp)]
  rfl

/-- A lead may set FWD_EN of an EDGE port whose link may run and whose peer has the role of one (R19, R41). -/
theorem State.portCfgSet_release (was : s.portRole p = 1) (role : fld v 1 0 = 1) (link : fld v 2 2 = 1)
    (fwd : fld v 4 4 = 1) (lead : s.pwr.leadSel = true) (pair : s.role ≠ 2) (peer : (s.port p).roleMismatch = false)
    (sw : s.barred (dSw (p / 16)) = false) (opt : s.barred (dOpt (p / 8)) = false) :
    s.portCfgSet p v = (stOk, ((s.setReg (aPortCfg p) (portCfgWord v)).wake (dOpt (p / 8))).uncut) := by
  unfold State.portCfgSet
  dsimp only
  rw [was, role, link, fwd, if_neg (by simp [pair]), if_neg (by simp [lead]), if_neg (by simp),
    if_neg (by simp [peer]), if_neg (by simp), if_neg (by simp), if_neg (by simp), if_neg (by simp [sw, opt]),
    if_neg (by simp)]
  rfl

theorem State.portCreditSet_short {ch : Nat} (n : fld v 15 0 < 65) : s.portCreditSet p ch v = (stState, s) :=
  if_pos (.inl n)

theorem State.portCreditSet_roleOff {ch : Nat} (lo : 65 ≤ fld v 15 0) (hi : fld v 15 0 ≤ 16384)
    (off : s.portRole p = 0) : s.portCreditSet p ch v = (stOk, s.setRf (aCredit p ch) 15 0 (fld v 15 0)) :=
  (if_neg (by omega)).trans (if_pos off)

theorem State.portWrite_accepted (t : State) : s.portWrite p (stOk, t) = t.mirrorPorts := if_pos rfl

theorem State.portWrite_rejected (t : State) : s.portWrite p (stState, t) = s.setRf (aPortStatus p) 15 15 1 :=
  if_neg (by decide : stState ≠ stOk)

/-- PORT_CFG is neither a register of the log nor one of the rings, so reports of members found or lost leave it. -/
theorem State.reg_portCfg_mirrored (t : State) : t.uncut.mirrorPorts.reg (aPortCfg p) = t.reg (aPortCfg p) := by
  have uncut : t.uncut.reg (aPortCfg p) = t.reg (aPortCfg p) := by
    apply State.reg_uncut <;> simp only [aPortCfg, aP, aLogHead, aLogLost] <;> omega
  rw [State.reg, State.mirrorPorts_regs]
  exact uncut

theorem State.links_mirrored (t : State) : t.uncut.mirrorPorts.links = t.links :=
  State.links_of_ports ((State.mirrorPorts_ports _).trans t.uncut_ports)

end PortCfg

section PortWrites
variable {s : State} {path : Path} {p : Nat} {P : State → Prop} (hp : p < 128) (via : s.pathOk path = true)
include hp via

theorem runs_portCfgWrite {v : Word} (h : P (s.portWrite p (s.portCfgSet p v))) : Runs (.portCfgWrite path p v) s P :=
  ⟨_, if_pos ⟨hp, via⟩, h⟩

theorem runs_portCreditWrite {ch : Nat} {v : Word} (hch : ch < 7) (h : P (s.portWrite p (s.portCreditSet p ch v))) :
    Runs (.portCreditWrite path p ch v) s P :=
  ⟨_, if_pos ⟨hp, hch, via⟩, h⟩

theorem runs_portLinkErrClear {v : Word} (clear : fld v 0 0 = 1) (h : P (s.setReg (aLinkErr p) 0)) :
    Runs (.portLinkErrClear path p v) s P :=
  ⟨_, if_pos ⟨hp, via, clear⟩, h⟩

theorem runs_portQuarErrClear {v : Word} (clear : fld v 0 0 = 1) (h : P (s.setReg (aQuar p) 0)) :
    Runs (.portQuarErrClear path p v) s P :=
  ⟨_, if_pos ⟨hp, via, clear⟩, h⟩

end PortWrites

/-- Settles O24: a refused write leaves PORT_CFG and PORT_CREDIT and sets CFG_REJECT alone; an accepted one is read
back from its register, which neither the scan of the members nor the mirror stream writes. -/
theorem portRegisterWrites : Obligations.PortRegisterWrites := by
  unfold Obligations.PortRegisterWrites
  intro s path via p hp
  refine ⟨?_, ?_, ?_, ?_, ?_, ?_, ?_⟩
  · intro v role active was fwd
    have up : s.darkOrOff p = false := by simp [State.darkOrOff, active, was]
    have free : s.inQuar p = false := by simp [State.inQuar, fwd]
    refine runs_portCfgWrite hp via ?_
    rw [State.portCfgSet_roleChange role up free, State.portWrite_rejected]
  · intro ch v hch short
    refine runs_portCreditWrite hp via hch ?_
    rw [State.portCreditSet_short short, State.portWrite_rejected]
  · intro v clear
    exact runs_portLinkErrClear hp via clear rfl
  · intro v clear
    exact runs_portQuarErrClear hp via clear rfl
  · intro v was role link fwd _
    refine runs_portCfgWrite hp via ?_
    rw [State.portCfgSet_linkOff was role link fwd, State.portWrite_accepted]
    have cfg := (State.reg_portCfg_mirrored (p := p) _).trans (State.reg_setReg_same (s.portDark p) _ (portCfgWord v))
    refine ⟨?_, ?_, ?_⟩
    · exact (congrFun (State.links_mirrored _) p).trans (s.lstate_portDark p)
    · rw [State.rf, cfg, fld_portCfgWord_linkEn, link]
    · rw [State.portRole, State.rf, cfg, fld_portCfgWord_role, role]
  · intro v was role link fwd lead pair peer sw opt
    refine runs_portCfgWrite hp via ?_
    rw [State.portCfgSet_release was role link fwd lead pair peer sw opt, State.portWrite_accepted]
    have cfg := (State.reg_portCfg_mirrored (p := p) _).trans
      ((State.reg_wake _ (dOpt (p / 8)) _).trans (State.reg_setReg_same s _ (portCfgWord v)))
    refine ⟨?_, ?_⟩
    · rw [State.fwdEn, State.rf, cfg, fld_portCfgWord_fwdEn, fwd, decide_eq_true rfl]
    · exact (congrFun (State.links_mirrored _) p).trans
        (congrFun (State.links_of_ports (State.wake_ports _ _)) p)
  · intro ch v hch lo hi off
    refine runs_portCreditWrite hp via hch ?_
    rw [State.portCreditSet_roleOff lo hi off, State.portWrite_accepted, State.rf, State.reg, State.mirrorPorts_regs]
    exact (s.rf_setRf_same _ _ _ _ (by omega)).trans (Nat.mod_eq_of_lt (by omega))

end Sys2Proof.Machine
end

section
/-!
The reset state (R44, R117), and a clause of the treadle that does not hold: a step up of a shuttle clock waits
while D is above G (R387).
-/

namespace Sys2Proof.Machine

/-! ### The reset state -/

/-- Settles O6: every field of the reset state stands as the spec gives it, and nothing is listed in its tables. -/
theorem resetLeavesSpecValues : Obligations.ResetLeavesSpecValues := by
  unfold Obligations.ResetLeavesSpecValues
  refine ⟨fun d => ?_, rfl, fun _ => rfl, fun _ => rfl, rfl, rfl, fun _ => rfl, rfl, rfl⟩
  change (domReset d).depth = _
  unfold domReset
  split <;> rfl

/-! ### The step of the treadle -/

/-- The shuttle clock of cluster 0 stands at 400 MHz, 2,000 MHz are ordered, and D was above G at the last step. -/
def clockHeldBack : State :=
  { State.reset with
    pwr := { powerReset with shuClk := [(0, 400)] }
    trd := { trdReset with overG := true } }

/-- A step up of the shuttle clock waits while D is above G (R387): the clock stays at 400 MHz. -/
theorem execShuClockSwitch_heldBack : execShuClockSwitch 0 clockHeldBack = .next clockHeldBack :=
  if_neg (by decide)

theorem clkOrdered_heldBack : clockHeldBack.clkOrdered 0 = 2000 := rfl

/-- Refutes O11: the clause of SHU_CLOCK_SWITCH has no premise on D, and a step up of the clock that R387 holds back
leaves the clock below the ordered one. -/
theorem not_treadleStepGoverns : ¬ Obligations.TreadleStepGoverns := by
  unfold Obligations.TreadleStepGoverns
  intro h
  obtain ⟨-, -, switch⟩ := h clockHeldBack
  obtain ⟨t, run, clock, -, -⟩ := switch 0 (by decide)
  obtain rfl : clockHeldBack = t := Host.Outcome.next.inj (execShuClockSwitch_heldBack.symm.trans run)
  rw [clkOrdered_heldBack] at clock
  exact absurd clock (by decide)

end Sys2Proof.Machine
end

section
/-!
The isolated power link (R34 to R37): the layout of a frame, its check code, and what the link leaves in ISO_STATUS.
-/

namespace Sys2Proof.Machine

theorem Runs.of {i : Instr} {s t : State} {P : State → Prop} (run : exec i s = .next t) (h : P t) : Runs i s P :=
  ⟨t, run, h⟩

section Bytes

theorem leNat_lt (l : List Byte) : leNat l < 256 ^ l.length := by
  induction l with
  | nil => simp [leNat]
  | cons b r ih =>
    have := b.isLt
    rw [leNat, List.length_cons, Nat.pow_succ]
    omega

theorem field_lt (l : List Byte) (off n : Nat) : field l off n < 256 ^ n :=
  lt_of_lt_of_le (leNat_lt _) (Nat.pow_le_pow_right (by decide) (List.length_take_le _ _))

/-- A field between two parts of a byte string reads as the number written there. -/
theorem field_append (a c : List Byte) (n v : Nat) (off : Nat) (h : a.length = off) :
    field (a ++ (leBytes n v ++ c)) off n = v % 256 ^ n := by
  rw [field, slice, List.drop_left' h, List.take_left' (length_leBytes n v), leNat_leBytes]

theorem crc16Bits_lt (n : Nat) : ∀ c : Nat, c < 2 ^ 16 → crc16Bits n c < 2 ^ 16 := by
  induction n with
  | zero => exact fun _ h => h
  | succ n ih =>
    intro c _
    refine ih _ ?_
    split
    · exact Nat.xor_lt_two_pow (by omega) (by decide)
    · omega

/-- CRC-16 fits two bytes. -/
theorem crc16_lt (l : List Byte) : crc16 l < 2 ^ 16 := by
  have fold : ∀ (l : List Byte) (c : Nat), c < 2 ^ 16 → crc16Fold c l < 2 ^ 16 := by
    intro l
    induction l with
    | nil => exact fun _ h => h
    | cons b r ih => exact fun c h => ih _ (crc16Bits_lt 8 _ (Nat.xor_lt_two_pow h (by have := b.isLt; omega)))
  exact fold l _ (by decide)

end Bytes

/-! ### The frames of the isolated link (R34, R35) -/

section IsoFrame

/-- The part of an isolated-link frame that its check code covers: type, sequence number, length and eight bytes. -/
def isoBody (typ seq : Nat) (payload : List Byte) : List Byte :=
  leBytes 1 typ ++ leBytes 1 seq ++ leBytes 1 8 ++ padTo 8 payload

/-- A frame of the isolated link (R34). -/
def isoFrame (typ seq : Nat) (payload : List Byte) : List Byte :=
  leBytes 1 0xA5 ++ isoBody typ seq payload ++ leBytes 2 (crc16 (isoBody typ seq payload))

theorem State.isoSend_up {s : State} (up : s.sideband = true) (typ : Nat) (payload : List Byte) :
    s.isoSend typ payload = { s with pwr := { s.pwr with
      isoTx := isoFrame typ s.pwr.isoSeq payload, isoSeq := (s.pwr.isoSeq + 1) % 256 } } :=
  if_neg (by simp [up])

variable (typ seq : Nat) (payload : List Byte)

@[simp] theorem length_isoBody : (isoBody typ seq payload).length = 11 := by
  simp only [isoBody, List.length_append, length_leBytes, length_padTo]

@[simp] theorem length_isoFrame : (isoFrame typ seq payload).length = 14 := by
  simp only [isoFrame, List.length_append, length_leBytes, length_isoBody]

theorem slice_isoFrame : slice (isoFrame typ seq payload) 1 11 = isoBody typ seq payload := by
  rw [slice, isoFrame, List.append_assoc, List.drop_left' (length_leBytes 1 0xA5), List.take_left' (length_isoBody ..)]

/-- The check code of a frame is that of its bytes 1 to 11. -/
theorem crc16_isoFrame : crc16 (slice (isoFrame typ seq payload) 1 11) = field (isoFrame typ seq payload) 12 2 := by
  have sent : field (isoFrame typ seq payload) 12 2 = crc16 (isoBody typ seq payload) % 256 ^ 2 := by
    have := field_append (leBytes 1 0xA5 ++ isoBody typ seq payload) [] 2 (crc16 (isoBody typ seq payload)) 12
      (by simp)
    rwa [List.append_nil] at this
  rw [sent, slice_isoFrame]
  exact (Nat.mod_eq_of_lt (crc16_lt _)).symm

/-- Bytes 4 and 5 of a frame are the first two of its payload. -/
theorem field_isoFrame_payload (v : Nat) (rest : List Byte) (h : rest.length = 6) :
    field (isoFrame typ seq (leBytes 2 v ++ rest)) 4 2 = v % 256 ^ 2 := by
  have pad : padTo 8 (leBytes 2 v ++ rest) = leBytes 2 v ++ rest := by
    rw [padTo, List.take_of_length_le (by simp [h])]
    simp [h]
  have head : (leBytes 1 0xA5 ++ (leBytes 1 typ ++ (leBytes 1 seq ++ leBytes 1 8))).length = 4 := by simp
  have read := field_append _ (rest ++ leBytes 2 (crc16 (isoBody typ seq (leBytes 2 v ++ rest)))) 2 v 4 head
  simpa only [isoFrame, isoBody, pad, List.append_assoc] using read

end IsoFrame

/-! ### What the link leaves in ISO_STATUS (R36, R37) -/

section PowerLink
variable {s : State}

theorem runs_isoStatusFrameRx {b : List Byte} (up : s.sideband = true) (length : b.length = 14)
    (start : byteAt b 0 = 0xA5) (typ : byteAt b 1 = 0x81) (len : byteAt b 3 = 8)
    (crc : crc16 (slice b 1 11) = field b 12 2) :
    Runs (.isoStatusFrameRx b) s (fun t => t.rf aIso 31 16 = field b 4 2 ∧ t.pwr.isoStatus = slice b 4 8 ∧
      t.rf aIso 15 8 = s.rf aIso 15 8) := by
  refine .of ((if_neg (by simp [up])).trans (if_pos ⟨length, start, len, crc, typ⟩)) ⟨?_, rfl, ?_⟩
  · rw [State.rf_setRf_other _ _ _ _ _ _ _ (by omega), State.rf_setRf_same _ _ _ _ _ (by omega)]
    exact Nat.mod_eq_of_lt (field_lt b 4 2)
  · rw [State.rf_setRf_other _ _ _ _ _ _ _ (by omega), State.rf_setRf_other _ _ _ _ _ _ _ (by omega)]
    rfl

theorem runs_isoStatusFrameRx_bad {b : List Byte} (up : s.sideband = true)
    (bad : b.length ≠ 14 ∨ crc16 (slice b 1 11) ≠ field b 12 2) :
    Runs (.isoStatusFrameRx b) s (fun t => t = s.bump aIso 15 8 1) := by
  refine .of ((if_neg (by simp [up])).trans (if_neg ?_)) rfl
  rintro ⟨length, -, -, crc, -⟩
  exact bad.elim (· length) (· crc)

/-- ISO_STATUS is no register of an event: neither of the rings nor of the log. -/
theorem State.rf_powerEvent_iso (t : State) (h l : Nat) : t.powerEvent.rf aIso h l = t.rf aIso h l := by
  unfold State.powerEvent State.rf
  rw [State.reg_event] <;> decide

theorem runs_isoLostTimeout (clear : s.rf aIso 0 0 = 0) :
    Runs .isoLostTimeout s (fun t => t.rf aIso 0 0 = 1) := by
  refine .of (if_neg (by simp [clear])) ?_
  rw [State.rf_powerEvent_iso]
  exact State.rf_setRf_same _ _ _ _ _ (by omega)

theorem runs_demandFrameTx (up : s.sideband = true) :
    Runs .demandFrameTx s (fun t => t.pwr.isoTx.length = 14 ∧ byteAt t.pwr.isoTx 0 = 0xA5 ∧
      byteAt t.pwr.isoTx 1 = 1 ∧ field t.pwr.isoTx 4 2 = avgW 10 s.trd.pkgHist % 65536 ∧
      crc16 (slice t.pwr.isoTx 1 11) = field t.pwr.isoTx 12 2 ∧ t.pwr.isoSeq = (s.pwr.isoSeq + 1) % 256) := by
  refine .of (congrArg Host.Outcome.next ((if_neg (by simp [up])).trans (State.isoSend_up up 1 _)))
    ⟨length_isoFrame .., rfl, rfl, ?_, crc16_isoFrame .., rfl⟩
  simp only [List.append_assoc]
  exact field_isoFrame_payload _ _ _ _ (by simp)

theorem runs_isoStatusClear {path : Path} {v : Word} (via : s.pathAny path = true) (one : fld v 0 0 = 1) :
    Runs (.isoStatusClear path v) s (fun t => t.rf aIso 0 0 = 0 ∧ t.rf aIso 15 8 = 0 ∧
      t.rf aIso 31 16 = s.rf aIso 31 16) := by
  refine .of (if_pos ⟨via, one⟩) ⟨?_, ?_, ?_⟩
  · rw [State.rf_setRf_other _ _ _ _ _ _ _ (by omega), State.rf_setRf_same _ _ _ _ _ (by omega), Nat.zero_mod]
  · rw [State.rf_setRf_same _ _ _ _ _ (by omega), Nat.zero_mod]
  · rw [State.rf_setRf_other _ _ _ _ _ _ _ (by omega), State.rf_setRf_other _ _ _ _ _ _ _ (by omega)]

end PowerLink

/-- Settles O12: a STATUS frame that passes the checks writes VOUT_MV apart from BAD_FRAMES, a frame that fails one is
counted, and a DEMAND frame is laid out as R34 and R35 say. -/
theorem powerLinkFrames : Obligations.PowerLinkFrames := by
  unfold Obligations.PowerLinkFrames
  intro s
  exact ⟨fun _ up length start typ len crc => runs_isoStatusFrameRx up length start typ len crc, runs_isoLostTimeout,
    runs_demandFrameTx, fun _ _ via one => runs_isoStatusClear via one, fun _ up bad => runs_isoStatusFrameRx_bad up bad⟩

end Sys2Proof.Machine
end

section
/-!
What the operations of the crossbar, of the groups and of the work items leave: the registers of the clocks and of
the firmware's state (`kept`), the package, and the links.  Three readings of a state say it, each weaker than the one
before: `State.still`, `State.quiet` (links may change) and `State.calm` (depths of domains may change too).
-/

namespace Sys2Proof.Machine

/-! ### What is watched -/

/-- The registers of the clocks, of resets and of the firmware's state; with `opt`, those of the engines too. -/
def kept (opt : Bool) (a : Nat) : Bool :=
  (decide (0x64 < a) && decide (a ≤ 0x400)) || (opt && decide (0x03000000 ≤ a) && decide (a % 0x10000 = 0))

/-- The watched registers. -/
def State.keptRegs (opt : Bool) (s : State) (a : Nat) : Word := if kept opt a then s.reg a else 0

/-- The watched registers, the package and the links. -/
def State.still (opt : Bool) (s : State) : (Nat → Word) × Power × Tab Port := (s.keptRegs opt, s.pwr, s.ports)

/-- The watched registers and the package. -/
def State.quiet (opt : Bool) (s : State) : (Nat → Word) × Power := (s.keptRegs opt, s.pwr)

/-- The watched registers and the package but for the depths of its domains. -/
def State.calm (opt : Bool) (s : State) : (Nat → Word) × Power := (s.keptRegs opt, { s.pwr with doms := [] })

section Read
variable {s t : State} {opt : Bool}

theorem State.still_of (regs : t.regs = s.regs) (pwr : t.pwr = s.pwr) (ports : t.ports = s.ports) :
    t.still opt = s.still opt := by
  unfold State.still State.keptRegs State.reg
  rw [regs, pwr, ports]

theorem State.keptRegs_of_reg (h : ∀ a, kept opt a = true → t.reg a = s.reg a) : t.keptRegs opt = s.keptRegs opt := by
  funext a
  unfold State.keptRegs
  split
  next k => exact h a k
  next => rfl

theorem State.still_of_reg (h : ∀ a, kept opt a = true → t.reg a = s.reg a) (pwr : t.pwr = s.pwr)
    (ports : t.ports = s.ports) : t.still opt = s.still opt := by
  unfold State.still
  rw [State.keptRegs_of_reg h, pwr, ports]

theorem State.quiet_of_still (h : t.still opt = s.still opt) : t.quiet opt = s.quiet opt :=
  congrArg (fun x : (Nat → Word) × Power × Tab Port => (x.1, x.2.1)) h

theorem State.calm_of_quiet (h : t.quiet opt = s.quiet opt) : t.calm opt = s.calm opt :=
  congrArg (fun x : (Nat → Word) × Power => (x.1, { x.2 with doms := [] })) h

theorem State.calm_of_still (h : t.still opt = s.still opt) : t.calm opt = s.calm opt :=
  State.calm_of_quiet (State.quiet_of_still h)

theorem State.ports_of_still (h : t.still opt = s.still opt) : t.ports = s.ports := congrArg (fun x => x.2.2) h

theorem State.pwr_of_quiet (h : t.quiet opt = s.quiet opt) : t.pwr = s.pwr := congrArg Prod.snd h

theorem State.reg_of_calm (h : t.calm opt = s.calm opt) {a : Nat} (k : kept opt a = true) : t.reg a = s.reg a := by
  have := congrFun (congrArg Prod.fst h) a
  simpa only [State.calm, State.keptRegs, k, if_true] using this

end Read

/-! ### Registers that are not watched -/

section Addresses
variable {opt : Bool}

theorem kept_iff {a : Nat} :
    kept opt a = true ↔ (0x64 < a ∧ a ≤ 0x400) ∨ (opt = true ∧ 0x03000000 ≤ a ∧ a % 0x10000 = 0) := by
  simp [kept, and_assoc]

theorem kept_eq_false {a : Nat} (low : a ≤ 0x64 ∨ 0x400 < a) (h : a % 0x10000 ≠ 0) : kept opt a = false := by
  rw [← Bool.not_eq_true, kept_iff]
  omega

theorem kept_false_eq_false {a : Nat} (low : a ≤ 0x64 ∨ 0x400 < a) : kept false a = false := by
  rw [← Bool.not_eq_true, kept_iff]
  simp
  omega

theorem kept_aBobErr (c : Nat) : kept opt (aBobErr c) = false :=
  kept_eq_false (by unfold aBobErr aC; omega) (by unfold aBobErr aC; omega)

theorem kept_aDfLog (c w : Nat) (h : w < 4) : kept opt (aDfLog c w) = false :=
  kept_eq_false (by unfold aDfLog aC; omega) (by unfold aDfLog aC; omega)

theorem kept_aGroup (g w : Nat) (h : w < 16) (h0 : w ≠ 0) : kept opt (aGroup g w) = false :=
  kept_eq_false (by unfold aGroup; omega) (by unfold aGroup; omega)

theorem kept_aReedErr (c : Nat) : kept opt (aReedErr c) = false :=
  kept_eq_false (by unfold aReedErr aC; omega) (by unfold aReedErr aC; omega)

theorem kept_aPort (p o : Nat) (hp : p < 128) (h : o < 0x20000) : kept opt (aP p + o) = false := by
  rw [← Bool.not_eq_true, kept_iff]
  unfold aP
  omega

end Addresses

/-! ### Updates -/

section Updates
variable (s : State) {opt : Bool}

theorem State.keptRegs_setReg {a : Nat} {v : Word} (h : kept opt a = false) :
    (s.setReg a v).keptRegs opt = s.keptRegs opt :=
  State.keptRegs_of_reg fun i k => s.reg_setReg_ne v fun e => by rw [e, h] at k; cases k

@[simp] theorem State.setReg_still {a : Nat} {v : Word} (h : kept opt a = false) :
    (s.setReg a v).still opt = s.still opt := by
  unfold State.still
  rw [s.keptRegs_setReg h]
  rfl

@[simp] theorem State.setRf_still {a hi lo v : Nat} (h : kept opt a = false) :
    (s.setRf a hi lo v).still opt = s.still opt := s.setReg_still h

@[simp] theorem State.bump_still {a hi lo n : Nat} (h : kept opt a = false) :
    (s.bump a hi lo n).still opt = s.still opt := s.setReg_still h

theorem State.setRegs_still (l : List Word) {a : Nat} (h : ∀ i < l.length, kept opt (a + 4 * i) = false) :
    (s.setRegs a l).still opt = s.still opt := by
  induction l generalizing s a with
  | nil => rfl
  | cons w r ih =>
    rw [State.setRegs, ih]
    · exact s.setReg_still (h 0 (by simp))
    intro i hi
    rw [show a + 4 + 4 * i = a + 4 * (i + 1) by omega]
    exact h (i + 1) (by simpa using hi)

@[simp] theorem State.emit_still (c : Nat) (p : Pkt) : (s.emit c p).still opt = s.still opt :=
  State.still_of (s.emit_regs _ _) (s.emit_pwr _ _) (s.emit_ports _ _)

@[simp] theorem State.event_still (code st : Nat) (l : List Byte) : (s.event code st l).still opt = s.still opt := by
  refine State.still_of_reg (fun a k => ?_) (s.event_pwr _ _ _) (s.event_ports _ _ _)
  rw [kept_iff] at k
  exact s.reg_event _ _ _ (by omega) (by unfold aLogHead; omega) (by unfold aLogLost; omega)

@[simp] theorem State.finish_still (tag st : Nat) (l : List Byte) : (s.finish tag st l).still opt = s.still opt := by
  refine State.still_of_reg (fun a k => ?_) (s.finish_pwr _ _ _) (s.finish_ports _ _ _)
  rw [kept_iff] at k
  exact s.reg_finish _ _ _ (by unfold aRing; omega)

/-- The words of the counters that a bank of 16 may write, with those that a carry goes on into. -/
def bankFree (opt : Bool) (bank : Nat) : Prop :=
  ∀ i < 32, kept opt (bank + 0x10 * i + 4) = false ∧ kept opt (bank + 0x10 * i + 8) = false

theorem State.ctrAdd_still (n : Nat) {bank j v : Nat} (h : bankFree opt bank) (hj : j + n ≤ 32) :
    (State.ctrAdd n s (bank + 0x10 * j) v).still opt = s.still opt := by
  have set (t : State) (i v : Nat) (hi : i < 32) : (t.setCtr (bank + 0x10 * i) v).still opt = t.still opt := by
    unfold State.setCtr
    rw [State.setRf_still _ (h i hi).2, State.setReg_still _ (h i hi).1]
  induction n generalizing s j v with
  | zero => rfl
  | succ n ih =>
    have carry (v : Nat) : (s.ctrOverflow (bank + 0x10 * j) v).1.still opt = s.still opt := by
      unfold State.ctrOverflow
      split
      · exact set _ _ _ (by omega)
      · split <;> exact (State.setRf_still _ (h j (by omega)).2).trans (set _ _ _ (by omega))
    unfold State.ctrAdd
    dsimp only
    split
    · exact set _ _ _ (by omega)
    · split
      · rw [show bank + 0x10 * j + 0x10 = bank + 0x10 * (j + 1) by omega, ih _ (by omega), carry]
      · exact carry _

theorem State.ctrBank_still {bank code n : Nat} {q : Nat → Bool} (h : bankFree opt bank) :
    (s.ctrBank bank 16 code n q).still opt = s.still opt := by
  refine List.foldlRecOn (motive := fun t : State => t.still opt = s.still opt) _ _ rfl fun t ht j hj => ?_
  rw [List.mem_range] at hj
  split
  · rw [State.ctrAdd_still _ _ h (by omega), ht]
  · exact ht

@[simp] theorem State.evDev_still (code n : Nat) : (s.evDev code n).still opt = s.still opt := by
  unfold State.evDev
  split
  · rfl
  · refine s.ctrBank_still fun i hi => ⟨?_, ?_⟩ <;>
      exact kept_eq_false (by unfold aCntDev; omega) (by unfold aCntDev; omega)

@[simp] theorem State.evClu_still (c code n : Nat) : (s.evClu c code n).still opt = s.still opt := by
  unfold State.evClu
  split
  · rfl
  · refine s.ctrBank_still fun i hi => ⟨?_, ?_⟩ <;>
      exact kept_eq_false (by unfold aSwx aC; omega) (by unfold aSwx aC; omega)

end Updates

/-! ### Buffers, windows and joins -/

section Buffers
variable (s : State) {opt : Bool}

@[simp] theorem State.setPool_still (c : Nat) (x : Pool) : (s.setPool c x).still opt = s.still opt := rfl

@[simp] theorem State.poolRelease_still (c : Nat) (h : Holder) : (s.poolRelease c h).still opt = s.still opt := rfl

@[simp] theorem State.poolFreeAll_still (c : Nat) (h : Holder) : (s.poolFreeAll c h).still opt = s.still opt := rfl

theorem State.poolReserve_still {s t : State} {c k n : Nat} {h : Holder} (e : s.poolReserve c h k n = some t) :
    t.still opt = s.still opt := by
  unfold State.poolReserve at e
  split at e <;> cases e
  rfl

@[simp] theorem State.poolDrawN_still (c k : Nat) (h : Holder) (n : Nat) :
    (s.poolDrawN c k h n).still opt = s.still opt := by
  induction n generalizing s with
  | zero => rfl
  | succ n ih => exact (ih _).trans rfl

@[simp] theorem State.poolHold_still (c k : Nat) (h : Holder) (n : Nat) :
    (s.poolHold c k h n).still opt = s.still opt := by
  unfold State.poolHold
  dsimp only
  split
  · exact s.poolDrawN_still _ _ _ _
  · rfl

@[simp] theorem State.portTrim_still (p v : Nat) : (s.portTrim p v).still opt = s.still opt := by
  unfold State.portTrim
  extract_lets
  split
  · rfl
  · split <;> rfl

@[simp] theorem State.picksOut_still (p v n : Nat) : (s.picksOut p v n).still opt = s.still opt := by
  induction n generalizing s with
  | zero => rfl
  | succ n ih =>
    unfold State.picksOut
    dsimp only
    split
    · rfl
    · rw [ih]
      split
      · rw [State.portTrim_still]; rfl
      · rfl

@[simp] theorem State.dfLog_still (c handle unit holder : Nat) : (s.dfLog c handle unit holder).still opt = s.still opt := by
  unfold State.dfLog
  split
  · rfl
  · simp only [State.event_still, State.setReg_still, kept_aDfLog, Nat.reduceLT]

@[simp] theorem State.poolFree_still (c handle unit holder : Nat) :
    (s.poolFree c handle unit holder).2.still opt = s.still opt := by
  unfold State.poolFree
  dsimp only
  split
  · exact s.bump_still (kept_aBobErr c)
  · split
    · rfl
    · rw [State.dfLog_still, State.bump_still _ (kept_aBobErr c)]

@[simp] theorem State.winRelease_still (c src dst flow : Nat) : (s.winRelease c src dst flow).still opt = s.still opt := by
  unfold State.winRelease
  refine (foldl_read (fun a : State × Nat => a.1.still opt) (fun a i => ?_) _ _).trans rfl
  dsimp only
  split
  · rfl
  · exact (State.poolDrawN_still _ _ _ _ _).trans rfl

@[simp] theorem State.winSync_still (src dst flow : Nat) : (s.winSync src dst flow).still opt = s.still opt := by
  unfold State.winSync
  dsimp only
  split
  · rfl
  · split
    · exact s.poolHold_still _ _ _ _
    · exact s.winRelease_still _ _ _ _

theorem State.contribPkt_still {s t : State} {x im k ofs n : Nat} {j : Join} {data : List Byte}
    (e : s.contribPkt x im j k ofs n data = some t) : t.still opt = s.still opt := by
  unfold State.contribPkt at e
  dsimp only at e
  split at e
  · cases e
    exact s.emit_still _ _
  · split at e
    · split at e <;> cases e
      exact (State.emit_still _ _ _).trans rfl
    · cases e

@[simp] theorem State.joinSend_still (x j : Nat) : (s.joinSend x j).still opt = s.still opt := by
  unfold State.joinSend
  split
  · split
    · rfl
    · refine (foldl_read (fun a : State × Nat × Bool => a.1.still opt) (fun a y => ?_) _ _).trans rfl
      split
      · rfl
      · split
        · split
          next h => exact State.contribPkt_still h
          next => rfl
        · rfl
  · rfl

@[simp] theorem State.joinsGo_still (c im : Nat) : (s.joinsGo c im).still opt = s.still opt := by
  unfold State.joinsGo
  exact foldl_read (State.still opt) (fun s _ => foldl_read (State.still opt) (fun s _ => s.joinSend_still _ _) _ s) _ _

@[simp] theorem State.pktGone_still (k : QPkt) : (s.pktGone k).still opt = s.still opt := by
  unfold State.pktGone
  dsimp only
  split
  · rfl
  · rw [foldl_read (State.still opt) fun s i => s.joinsGo_still (k.inq - 128) i, State.setPool_still,
      State.poolFreeAll_still]
    split
    · exact s.winSync_still _ _ _
    · rfl

end Buffers

/-! ### Groups -/

section Groups
variable (s : State) {opt : Bool}

@[simp] theorem State.emitCopy_still (c : Nat) (mc : Nat × Nat × Nat) (p : Pkt) :
    (s.emitCopy c mc p).still opt = s.still opt := by
  unfold State.emitCopy
  split
  · rfl
  · exact s.emit_still _ _

@[simp] theorem State.updSlot_still (g chunk : Nat) (f : Slot → Slot) : (s.updSlot g chunk f).still opt = s.still opt := rfl

@[simp] theorem State.advance_still (n g : Nat) : (State.advance n s g).still opt = s.still opt := by
  induction n generalizing s with
  | zero => rfl
  | succ n ih =>
    unfold State.advance
    dsimp only
    split
    · rw [ih, State.setRf_still _ (kept_aGroup g 11 (by omega) (by omega))]; rfl
    · rfl

@[simp] theorem State.freeSlot_still (g chunk : Nat) : (s.freeSlot g chunk).still opt = s.still opt := by
  unfold State.freeSlot
  extract_lets s1 x s2
  have h1 : s1.still opt = s.still opt := by
    unfold s1
    split
    · split <;> rfl
    · rfl
  exact (s2.advance_still _ _).trans h1

@[simp] theorem State.copyGone_still (mc : Nat × Nat × Nat) : (s.copyGone mc).still opt = s.still opt := by
  unfold State.copyGone
  dsimp only
  split
  · split <;> rfl
  · split
    · rfl
    · split
      · rw [State.dfLog_still, State.bump_still _ (kept_aBobErr _)]
      · split
        · split
          · rw [State.freeSlot_still, State.updSlot_still]
          · rfl
        · rfl

@[simp] theorem State.copyLost_still (k : QPkt) : (s.copyLost k).still opt = s.still opt := by
  unfold State.copyLost
  split
  next m _ =>
    rw [State.copyGone_still]
    split
    · exact foldl_read (State.still opt) (fun s _ => s.bump_still (kept_aReedErr _)) _ _
    · rfl
  next => rfl

@[simp] theorem State.slotCleared_still (g : Nat) (y : Slot) : (s.slotCleared g y).still opt = s.still opt := by
  unfold State.slotCleared
  split
  · rfl
  · dsimp only
    split <;> rfl

@[simp] theorem State.sendFail_still (g chunk epoch status : Nat) : (s.sendFail g chunk epoch status).still opt = s.still opt := by
  unfold State.sendFail
  exact foldl_read (State.still opt) (fun s _ => s.emitCopy_still _ _ _) _ _

/-- The registers of group tables are watched by nothing but the engines' option. -/
theorem kept_aGroup_false (g w : Nat) : kept false (aGroup g w) = false :=
  kept_false_eq_false (by unfold aGroup; omega)

@[simp] theorem State.failInstance_still (g e status : Nat) : (s.failInstance g e status).still false = s.still false := by
  unfold State.failInstance
  extract_lets x c was s1 s2 s3 s4 s5 s6 s7
  have h1 : s1.still false = s.still false := foldl_read (State.still false) (fun s _ => s.slotCleared_still _ _) _ _
  have h4 : s4.still false = s.still false := by
    unfold s4
    rw [State.bump_still _ (kept_aGroup_false _ _), State.setRf_still _ (kept_aGroup_false _ _)]
    exact (s2.sendFail_still _ _ _ _).trans h1
  have h5 : s5.still false = s.still false := by
    unfold s5
    rw [State.evDev_still, State.bump_still _ (by decide), h4]
  have h6 : s6.still false = s.still false := (s5.setRf_still (kept_aGroup_false _ _)).trans h5
  have h7 : s7.still false = s.still false := by
    unfold s7
    split
    · split
      · exact h6
      · exact (s6.event_still _ _ _).trans h6
    · exact h5
  split
  · rfl
  · exact (s7.advance_still _ _).trans h7

@[simp] theorem State.failOpen_still (g status : Nat) (always : Bool) :
    (s.failOpen g status always).still false = s.still false := by
  unfold State.failOpen
  exact foldl_read (State.still false) (fun s _ => s.failInstance_still _ _ _) _ _

/-- The groups with a reed in a cluster that is lost fail: no watched register, no link and no part of the package
changes. -/
theorem State.reedLost_still (c : Nat) : (s.reedLost c).still false = s.still false := by
  unfold State.reedLost
  refine foldl_read (State.still false) (fun s g => ?_) _ _
  split
  · split
    · rw [State.setRf_still _ (kept_aGroup_false _ _), State.failOpen_still]
    · split
      · exact s.failOpen_still _ _ _
      · rfl
  · rfl

end Groups

/-! ### Work items -/

section Items
variable (s : State) {opt : Bool}

theorem kept_aC (n o i : Nat) (h : (o + 4 * i) % 0x10000 ≠ 0) : kept opt (aC n + o + 4 * i) = false :=
  kept_eq_false (by unfold aC; omega) (by unfold aC; omega)

@[simp] theorem State.takeSample_still (x pc : Nat) : (s.takeSample x pc).still opt = s.still opt := by
  have head (c : Nat) : kept opt (aSampHead c) = false := kept_aC c 0x50080 0 (by decide)
  unfold State.takeSample
  split
  · extract_lets t n
    have ht : t.still opt = s.still opt := rfl
    split
    · exact ht
    · split
      · exact (t.bump_still (head n)).trans ht
      · rw [State.setRf_still _ (head n), State.setRegs_still, ht]
        intro i hi
        have : i < 8 := by simpa [bytesToWords] using hi
        exact kept_eq_false (by unfold aSample aC; omega) (by unfold aSample aC; omega)
  · rfl

@[simp] theorem State.updCtx_still (x : Nat) (f : Ctx → Ctx) : (s.updCtx x f).still opt = s.still opt := rfl

@[simp] theorem State.noteFail_still (item : Option Nat) (w : Nat) : (s.noteFail item w).still opt = s.still opt := by
  cases item <;> rfl

@[simp] theorem State.localDone_still (x item block : Nat) (form payload : List Byte) (status : Nat) :
    (s.localDone x item block form payload status).still opt = s.still opt := by
  unfold State.localDone
  split
  · rfl
  · extract_lets s1 s2 s3
    have h3 : s3.still opt = s.still opt := by
      unfold s3
      split
      · exact (s1.updCtx_still _ _).trans (s.updCtx_still _ _)
      · exact (s2.noteFail_still _ _).trans ((s1.updCtx_still _ _).trans (s.updCtx_still _ _))
    exact (s3.updCtx_still _ _).trans h3

@[simp] theorem State.callDone_still (it : Item) (status a0 a1 a2 : Nat) (payload : List Byte) :
    (s.callDone it status a0 a1 a2 payload).still opt = s.still opt := by
  unfold State.callDone
  dsimp only
  split
  · exact s.emit_still _ _
  · exact s.localDone_still _ _ _ _ _ _
  · rfl

@[simp] theorem State.wcloseWhenDone_still (w : Nat) : (s.wcloseWhenDone w).still opt = s.still opt := by
  unfold State.wcloseWhenDone
  dsimp only
  split
  · exact s.emit_still _ _
  · rfl

@[simp] theorem State.closeWindows_still (item : Nat) : (s.closeWindows item).still opt = s.still opt := by
  unfold State.closeWindows
  refine foldl_read (State.still opt) (fun s w => ?_) _ _
  dsimp only
  split
  · exact (State.wcloseWhenDone_still _ _).trans rfl
  · split
    · rfl
    · split <;> rfl

@[simp] theorem State.callBuf_still (x image : Nat) (buf : Option Nat) : (s.callBuf x image buf).still opt = s.still opt := by
  unfold State.callBuf
  split
  · dsimp only
    split
    · rw [State.joinsGo_still, State.poolFree_still]
    · exact s.poolFree_still _ _ _ _
  · rfl

@[simp] theorem State.windowRest_still (it : Item) : (s.windowRest it).still opt = s.still opt := by
  unfold State.windowRest
  split
  · split
    · exact foldl_read (State.still opt) (fun s c => (State.poolRelease_still _ c _).trans (s.poolFreeAll_still c _)) _ _
    · exact s.winSync_still _ _ _
  · exact s.callBuf_still _ _ _
  · exact s.callBuf_still _ _ _

@[simp] theorem State.asideDone_still (it : Item) : (s.asideDone it).still opt = s.still opt := by
  unfold State.asideDone State.nextClaim
  split
  · rfl
  · dsimp only
    split <;> exact State.still_of rfl rfl rfl

@[simp] theorem State.idleDef_still (c q : Nat) : (s.idleDef c q).still opt = s.still opt := by
  unfold State.idleDef
  split <;> rfl

@[simp] theorem State.itemGone_still (it : Item) : (s.itemGone it).still opt = s.still opt := by
  unfold State.itemGone
  extract_lets _ s1 s2
  have h2 : s2.still opt = s.still opt := by
    unfold s2
    split <;> exact State.still_of rfl rfl rfl
  rw [State.windowRest_still, State.closeWindows_still, State.asideDone_still, State.idleDef_still, h2]

@[simp] theorem State.endItem_still (it : Item) (status a0 a1 a2 : Nat) (payload : List Byte) :
    (s.endItem it status a0 a1 a2 payload).still opt = s.still opt := by
  unfold State.endItem
  dsimp only
  rw [State.itemGone_still, State.callDone_still]
  split
  · exact s.takeSample_still _ _
  · rfl

/-- The items of a shuttle that stops end, and nothing of the links or of the package with them. -/
theorem State.shuttlesLost_still (c : Nat) : (s.shuttlesLost c).still opt = s.still opt := by
  unfold State.shuttlesLost
  refine foldl_read (State.still opt) (fun s it => ?_) _ _
  split
  · exact s.endItem_still _ _ _ _ _ _
  · exact s.itemGone_still _

end Items

/-! ### The packets and frames of a port -/

section PortFrames
variable (s : State) {opt : Bool}

@[simp] theorem State.setPort_quiet (p : Nat) (x : Port) : (s.setPort p x).quiet opt = s.quiet opt := rfl

@[simp] theorem State.updPort_quiet (p : Nat) (f : Port → Port) : (s.updPort p f).quiet opt = s.quiet opt := rfl

@[simp] theorem State.freeRest_quiet (k : QPkt) : (s.freeRest k).quiet opt = s.quiet opt := by
  unfold State.freeRest State.freeOf
  dsimp only
  split
  · split
    · exact State.quiet_of_still (s.picksOut_still _ _ _)
    · rw [State.updPort_quiet, State.quiet_of_still (s.picksOut_still _ _ _)]
  · rfl

theorem kept_aCongErr (k : Nat) (h : k < 2) : kept opt (aCongErr k) = false :=
  kept_eq_false (by unfold aCongErr; omega) (by unfold aCongErr; omega)

@[simp] theorem State.cutRx_quiet (p v : Nat) (r : RxPkt) : (s.cutRx p v r).quiet opt = s.quiet opt := by
  unfold State.cutRx
  split
  · split
    · split
      · rfl
      · rw [State.quiet_of_still (State.bump_still _ (kept_aCongErr 1 (by omega)))]; rfl
    · dsimp only
      split
      · rfl
      · rw [State.freeRest_quiet]; rfl
  · dsimp only
    split
    · rw [State.freeRest_quiet]; rfl
    · rfl

@[simp] theorem State.cutAll_quiet (p : Nat) : (s.cutAll p).quiet opt = s.quiet opt := by
  unfold State.cutAll
  extract_lets s1 g
  have cut : s1.quiet opt = s.quiet opt := by
    refine foldl_read (State.quiet opt) (fun s e => ?_) _ _
    split
    · exact s.cutRx_quiet _ _ _
    · rfl
  exact (s1.updPort_quiet p fun x => { x with rx := [] }).trans cut

@[simp] theorem State.flushOne_quiet (v : Nat) (k : QPkt) : (s.flushOne v k).1.quiet opt = s.quiet opt := by
  unfold State.flushOne
  extract_lets lost
  have hlost : (lost s).quiet opt = s.quiet opt := by
    unfold lost
    extract_lets s1 s2
    have h1 : s1.quiet opt = s.quiet opt := State.quiet_of_still
      ((State.pktGone_still _ _).trans (s.bump_still (kept_aCongErr 0 (by omega))))
    have h2 : s2.quiet opt = s.quiet opt := by
      unfold s2
      split
      · exact h1
      · rw [State.freeRest_quiet, h1]
    split
    · split
      · exact (State.quiet_of_still (s2.copyLost_still _)).trans h2
      · exact (State.quiet_of_still (s2.copyGone_still _)).trans h2
    · exact h2
  split
  · exact hlost
  · split
    · exact hlost
    · rw [State.quiet_of_still (State.evClu_still _ _ _ _), State.quiet_of_still (s.bump_still (kept_aCongErr 1 (by omega)))]

@[simp] theorem State.memberScan_still : s.memberScan.still opt = s.still opt := by
  unfold State.memberScan
  refine foldl_read (State.still opt) (fun s m => ?_) _ _
  dsimp only
  split
  · rw [State.event_still]; rfl
  · rfl

@[simp] theorem State.uncut_still : s.uncut.still opt = s.still opt := by
  unfold State.uncut
  dsimp only
  rw [State.memberScan_still]
  split <;> rfl

theorem State.ctlSend_quiet (p typ : Nat) (body : List Byte) : (s.ctlSend p typ body).quiet opt = s.quiet opt := rfl

theorem State.ctlNow_quiet (p typ : Nat) (body : List Byte) : (s.ctlNow p typ body).quiet opt = s.quiet opt := by
  unfold State.ctlNow State.sendFrame
  extract_lets s1 x m
  exact (State.updPort_quiet _ _ _).trans ((s1.setPort_quiet _ _).trans (s.ctlSend_quiet p typ body))

/-- A port that ends its link writes its own registers alone. -/
theorem State.portEnd_quiet (p cause : Nat) (l : LState) (notice counts : Bool) (hp : opt = true → p < 128) :
    (s.portEnd p cause l notice counts).quiet opt = s.quiet opt := by
  have own (o : Nat) (h : o < 0x20000) : kept opt (aP p + o) = false := by
    cases opt with
    | true => exact kept_aPort p o (hp rfl) h
    | false => exact kept_false_eq_false (by unfold aP; omega)
  unfold State.portEnd
  extract_lets x s1 s2
  have h1 : s1.quiet opt = s.quiet opt := by
    unfold s1
    split
    · exact s.ctlNow_quiet _ _ _
    · rfl
  have h2 : s2.quiet opt = s.quiet opt := by
    unfold s2 State.pairQuar
    split
    · exact (State.quiet_of_still (State.setRf_still _ (own 0 (by omega)))).trans h1
    · exact h1
  split
  · exact (State.quiet_of_still (s2.bump_still (own 0x40 (by omega)))).trans h2
  · exact h2

end PortFrames

/-! ### Ports and the depths of their domains -/

section Calm
variable (s : State) {opt : Bool}

@[simp] theorem State.toOff_calm (d : Nat) (k : OffKind) : (s.toOff d k).calm opt = s.calm opt := rfl

@[simp] theorem State.wake_calm (d : Nat) : (s.wake d).calm opt = s.calm opt := by
  unfold State.wake
  dsimp only
  split
  · rfl
  · rfl
  · rfl
  · split <;> rfl

@[simp] theorem State.wakeUp_calm (d : Nat) : (s.wakeUp d).calm opt = s.calm opt := by
  unfold State.wakeUp
  split
  · rfl
  · exact s.wake_calm d

@[simp] theorem State.sinkTo_calm (d : Nat) (x : Depth) : (s.sinkTo d x).calm opt = s.calm opt := by
  unfold State.sinkTo
  split <;> rfl

theorem State.setInq_calm (q v : Nat) (l : List QPkt) : (s.setInq q v l).calm opt = s.calm opt := rfl

theorem State.updPort_calm (p : Nat) (f : Port → Port) : (s.updPort p f).calm opt = s.calm opt := rfl

@[simp] theorem State.toOut_calm (p v : Nat) (k : QPkt) : (s.toOut p v k).calm opt = s.calm opt := by
  unfold State.toOut
  rw [State.wake_calm]
  rfl

@[simp] theorem State.wakePort_calm (p : Nat) : (s.wakePort p).calm opt = s.calm opt := by
  unfold State.wakePort
  extract_lets x s1 s2
  have h2 : s2.calm opt = s.calm opt := by
    unfold s2 s1
    rw [State.updPort_calm, State.wake_calm, State.wake_calm]
  split
  · rfl
  · split
    · exact h2
    · exact (State.calm_of_quiet (s2.ctlSend_quiet _ _ _)).trans h2

@[simp] theorem State.rechoose_calm (k : QPkt) : (s.rechoose k).1.calm opt = s.calm opt := by
  unfold State.rechoose
  dsimp only
  split
  · split
    · exact s.toOut_calm _ _ _
    · rfl
  · split
    · rfl
    · split
      · exact s.toOut_calm _ _ _
      · split
        · exact s.wakePort_calm _
        · rfl
        · rw [State.calm_of_still (State.copyLost_still _ _), State.calm_of_quiet (State.freeRest_quiet _ _),
            State.calm_of_still (State.pktGone_still _ _)]
          exact State.calm_of_still (s.bump_still (kept_eq_false (by decide) (by decide)))

@[simp] theorem State.rechooseAll_calm (l : List QPkt) : (s.rechooseAll l).calm opt = s.calm opt := by
  unfold State.rechooseAll
  dsimp only
  rw [foldr_read (State.calm opt) fun s (k : QPkt) => s.setInq_calm k.inq k.vc _]
  refine foldl_read (fun a : State × List QPkt => a.1.calm opt) (fun a k => ?_) _ _
  exact a.1.rechoose_calm k

@[simp] theorem State.flushPort_calm (p : Nat) : (s.flushPort p).calm opt = s.calm opt := by
  unfold State.flushPort
  refine foldl_read (State.calm opt) (fun s v => ?_) _ _
  dsimp only
  rw [State.rechooseAll_calm]
  refine foldl_read (fun a : State × List QPkt => a.1.calm opt) (fun a k => ?_) _ _
  exact State.calm_of_quiet (a.1.flushOne_quiet v k)

@[simp] theorem State.portsFlush_calm (ps : List Nat) : (s.portsFlush ps).calm opt = s.calm opt := by
  unfold State.portsFlush
  dsimp only
  rw [State.calm_of_still (State.memberScan_still _), foldl_read (State.calm opt) fun s p => s.flushPort_calm p]
  refine foldl_read (State.calm opt) (fun s p => ?_) _ _
  rw [State.updPort_calm]
  exact State.calm_of_quiet (s.cutAll_quiet p)

theorem State.portLeave_calm (p cause : Nat) (l : LState) (notice counts : Bool) (hp : opt = true → p < 128) :
    (s.portLeave p cause l notice counts).calm opt = s.calm opt :=
  (State.portsFlush_calm _ _).trans (State.calm_of_quiet (s.portEnd_quiet p cause l notice counts hp))

/-- Ports that go DOWN leave the watched registers, and of the package all but depths. -/
theorem State.portsDown_calm (ps : List Nat) (cause : Nat) (hp : opt = true → ∀ p ∈ ps, p < 128) :
    (s.portsDown ps cause).calm opt = s.calm opt := by
  unfold State.portsDown
  dsimp only
  rw [State.portsFlush_calm]
  refine List.foldlRecOn (motive := fun t : State => t.calm opt = s.calm opt) _ _ rfl fun t ht p hp' => ?_
  exact (State.calm_of_quiet (t.portEnd_quiet p cause _ _ _ fun o => hp o p (List.mem_of_mem_filter hp'))).trans ht

@[simp] theorem State.optFollow_calm (k : Nat) : (s.optFollow k).calm opt = s.calm opt := by
  unfold State.optFollow
  dsimp only
  repeat' split
  all_goals rfl

end Calm

end Sys2Proof.Machine
end

section
/-!
The treadle's registers, the pair agent and a device that becomes a standby leave the clocks and their registers.
-/

namespace Sys2Proof.Machine

section Calm2
variable {s t : State} {opt : Bool}

theorem State.rf_of_calm (h : t.calm opt = s.calm opt) {a : Nat} (k : kept opt a = true) (hi lo : Nat) :
    t.rf a hi lo = s.rf a hi lo := by
  rw [State.rf, State.rf, State.reg_of_calm h k]

theorem State.alertClk_of_calm (h : t.calm opt = s.calm opt) : t.pwr.alertClk = s.pwr.alertClk :=
  congrArg (fun x : (Nat → Word) × Power => x.2.alertClk) h

theorem State.bootStep_of_calm (h : t.calm opt = s.calm opt) : t.pwr.bootStep = s.pwr.bootStep :=
  congrArg (fun x : (Nat → Word) × Power => x.2.bootStep) h

end Calm2

/-! ### The treadle's registers, the pair and what a standby drops -/

section Standby
variable (s : State) {opt : Bool}

@[simp] theorem State.trdShow_still (old : State) : (s.trdShow old).still opt = s.still opt := by
  unfold State.trdShow
  extract_lets s1 s2
  have h2 : s2.still opt = s.still opt :=
    (s1.setReg_still (kept_eq_false (by unfold aLevel; omega) (by unfold aLevel; omega))).trans
      (s.setReg_still (kept_eq_false (by unfold aTrdState; omega) (by unfold aTrdState; omega)))
  split
  · exact h2
  · exact (s2.event_still _ _ _).trans h2

@[simp] theorem State.pairEvent_still (kind : Nat) : (s.pairEvent kind).still opt = s.still opt := s.event_still _ _ _

theorem State.pairMsg_still (op data : List Byte) : (s.pairMsg op data).still opt = s.still opt := s.emit_still _ _

/-- The pair agent's records are watched by nothing. -/
theorem State.withPair_still (x : Pair) : ({ s with pair := x } : State).still opt = s.still opt := rfl

theorem State.hbFrame_still (typ : Nat) : (s.hbFrame typ).still opt = s.still opt := s.withPair_still _

@[simp] theorem State.abdicate_still : s.abdicate.still opt = s.still opt := by
  unfold State.abdicate
  split
  · extract_lets _ s1 s2
    have h2 : s2.still opt = s.still opt := (s1.pairMsg_still _ _).trans (s.withPair_still _)
    split
    · exact (s2.hbFrame_still 2).trans h2
    · exact h2
  · rfl

theorem State.setCart_still (k : Nat) (x : Cart) : (s.setCart k x).still opt = s.still opt := rfl

@[simp] theorem State.putClaim_still (c : Nat) : (s.putClaim c).still opt = s.still opt :=
  foldl_read (State.still opt) (fun s k => s.setCart_still k _) _ _

theorem kept_aDvt : kept opt aDvt = false := kept_eq_false (by unfold aDvt; omega) (by unfold aDvt; omega)

@[simp] theorem State.mirrorEnd_still (state : Nat) : (s.mirrorEnd state).still opt = s.still opt := by
  unfold State.mirrorEnd
  dsimp only
  refine (foldl_read (State.still opt) (fun s m => ?_) _ _).trans
    ((State.withPair_still _ _).trans (s.setRf_still kept_aDvt))
  split
  · exact s.finish_still _ _ _
  · rfl

@[simp] theorem State.mirrorStop_still (m : Nat) : (s.mirrorStop m).still opt = s.still opt := by
  unfold State.mirrorStop
  split
  · rfl
  · exact (State.withPair_still _ _).trans ((State.pairEvent_still _ _).trans (s.mirrorEnd_still m))

@[simp] theorem State.dropWork_still : s.dropWork.still opt = s.still opt := rfl

@[simp] theorem State.reorderUse_still (i : Nat) (f : Nat → Nat) : (s.reorderUse i f).still opt = s.still opt := by
  unfold State.reorderUse
  split <;> rfl

@[simp] theorem State.dropFlows_still : s.dropFlows.still opt = s.still opt := by
  unfold State.dropFlows
  exact (foldl_read (State.still opt) (fun s i => s.reorderUse_still i _) _ _).trans (State.still_of rfl rfl rfl)

@[simp] theorem State.poolDrop_still (f : Holder → Bool) : (s.poolDrop f).still opt = s.still opt :=
  foldl_read (State.still opt) (fun s c => s.setPool_still c _) _ _

theorem kept_aGranules (c : Nat) : kept false (aGranules c) = false :=
  kept_false_eq_false (by unfold aGranules aC; omega)

@[simp] theorem State.groupFree_still (g : Nat) : (s.groupFree g).still false = s.still false := by
  have freed (t : State) : (t.setGroup g groupReset).still false = t.still false := rfl
  unfold State.groupFree
  dsimp only
  rw [freed, State.setRf_still _ (kept_aGroup_false _ _), State.setRf_still _ (kept_aGroup_false _ _),
    State.setRf_still _ (kept_aGroup_false _ _)]
  refine foldl_read (State.still false) (fun s c => ?_) _ _
  rw [State.poolRelease_still, State.poolFreeAll_still, State.setRf_still _ (kept_aGranules c)]

@[simp] theorem State.dropGroups_still : s.dropGroups.still false = s.still false :=
  foldl_read (State.still false) (fun s g => s.groupFree_still g) _ _

@[simp] theorem State.receiveAgain_still : s.receiveAgain.still opt = s.still opt :=
  (State.withPair_still _ _).trans (s.setRf_still kept_aDvt)

@[simp] theorem State.toRole_still (r : Nat) : (s.toRole r).still opt = s.still opt := by
  unfold State.toRole
  dsimp only
  rw [State.trdShow_still, State.pairEvent_still, State.setRf_still _ kept_aDvt]

theorem kept_aPortCfg_false (p : Nat) : kept false (aPortCfg p) = false :=
  kept_false_eq_false (by unfold aPortCfg aP; omega)

@[simp] theorem State.standbyHold_calm (p : Nat) : (s.standbyHold p).calm false = s.calm false := by
  unfold State.standbyHold
  extract_lets x s1 s2
  have h1 : s1.calm false = s.calm false := by
    unfold s1
    split
    · exact s.portLeave_calm p _ _ _ _ nofun
    · rfl
  rw [State.optFollow_calm, State.calm_of_still (State.setRf_still _ (kept_aPortCfg_false p))]
  exact h1

theorem State.clearRegs_still {f : Nat → Bool} (h : ∀ a, f a = true → kept opt a = false) :
    (s.clearRegs f).still opt = s.still opt := by
  refine State.still_of_reg (fun a k => ?_) rfl rfl
  rw [State.reg_clearRegs, if_neg]
  intro e
  rw [h a e] at k
  cases k

/-- What a domain holds of registers stands in the blocks of the clusters. -/
@[simp] theorem State.offLoss_still (d : Nat) : (s.offLoss d).still false = s.still false := by
  unfold State.offLoss
  split
  · refine (State.setPool_still _ _ _).trans (s.clearRegs_still fun a h => kept_false_eq_false ?_)
    simp only [Bool.or_eq_true, Bool.and_eq_true, decide_eq_true_eq] at h
    simp only [aApply, aBobErr, aDfLog, aShedErr, aShedQ, aC] at h
    omega
  · split
    · extract_lets c s1
      refine (State.still_of (s := s1) rfl rfl rfl).trans (s.clearRegs_still fun a h => kept_false_eq_false ?_)
      simp only [Bool.and_eq_true, decide_eq_true_eq] at h
      simp only [aC] at h
      omega
    · split
      · exact s.setRf_still (kept_aReedErr _)
      · split <;> rfl

@[simp] theorem State.offNow_calm (d : Nat) (k : OffKind) : (s.offNow d k).calm false = s.calm false :=
  (State.toOff_calm _ _ _).trans (State.calm_of_still (s.offLoss_still d))

@[simp] theorem State.standbyDepths_calm : s.standbyDepths.calm false = s.calm false := by
  unfold State.standbyDepths
  refine foldl_read (State.calm false) (fun s c => ?_) _ _
  extract_lets s1 s2
  have h2 : s2.calm false = s.calm false := by
    unfold s2 s1
    rw [State.wakeUp_calm, State.sinkTo_calm]
    split
    · rfl
    · exact s.offNow_calm _ _
  split
  · exact (s2.wakeUp_calm _).trans h2
  · split
    · exact (s2.sinkTo_calm _ _).trans h2
    · exact h2

/-- A device that becomes a standby keeps the registers of its clocks. -/
theorem State.becomeStandby_calm : s.becomeStandby.calm false = s.calm false := by
  unfold State.becomeStandby
  dsimp only
  rw [State.standbyDepths_calm, foldl_read (State.calm false) fun s p => ?_]
  · refine State.calm_of_still ?_
    rw [State.toRole_still, State.receiveAgain_still, State.putClaim_still, State.dropGroups_still,
      State.poolDrop_still, State.dropFlows_still, State.dropWork_still, State.mirrorStop_still]
  · split
    · rfl
    · exact s.standbyHold_calm p

end Standby

end Sys2Proof.Machine
end

section
/-!
The clocks of the package (R46 to R48).
-/

namespace Sys2Proof.Machine

/-! ### Ports that go DOWN, and ports whose lane PLLs lose lock -/

section Down
variable (s : State)

theorem State.lstate_of_links {s t : State} (h : t.links = s.links) (p : Nat) :
    (t.port p).lstate = (s.port p).lstate := congrFun h p

theorem State.port_portEnd_ne {p q : Nat} (cause : Nat) (l : LState) (notice counts : Bool) (h : p ≠ q) :
    (s.portEnd q cause l notice counts).port p = s.port p := by
  have other (t : State) (x : Port) : (t.setPort q x).port p = t.port p := by rw [State.port_setPort, if_neg h]
  unfold State.portEnd
  extract_lets x s1 s2
  have h1 : s1.port p = s.port p := by
    unfold s1
    split
    · unfold State.ctlNow State.sendFrame State.ctlSend State.updPort
      exact (other _ _).trans ((other _ _).trans (other _ _))
    · rfl
  have h2 : s2.port p = s.port p := by
    unfold s2 State.pairQuar State.updPort
    split <;> exact (other s1 _).trans h1
  split
  · exact (s2.bump_port _ _ _ _ p).trans h2
  · exact h2

/-- A port among those taken down is DOWN, whatever the flush of the others moves. -/
theorem State.lstate_portsDown {p : Nat} {ps : List Nat} (cause : Nat) (mem : p ∈ ps)
    (up : (s.port p).lstate = .active) : ((s.portsDown ps cause).port p).lstate = .down := by
  have ended (l : List Nat) : ∀ t : State, p ∈ l ∨ (t.port p).lstate = .down →
      ((l.foldl (fun (s : State) q => s.portEnd q cause .down (downNotifies cause) true) t).port p).lstate = .down := by
    induction l with
    | nil => exact fun t h => h.elim nofun id
    | cons q r ih =>
      intro t h
      refine ih _ ?_
      by_cases e : p = q
      · subst e
        exact .inr (t.lstate_portEnd p cause .down _ _)
      · rw [State.port_portEnd_ne _ _ _ _ _ e]
        exact h.imp_left fun h => (List.mem_cons.mp h).resolve_left e
  unfold State.portsDown
  refine (congrFun (State.portsFlush_links _ _) p).trans (ended _ _ (.inl ?_))
  exact List.mem_filter.mpr ⟨mem, by simp [up]⟩

/-- The lane PLLs of the ports of a list have lost lock (R46). -/
def State.lanesLost (s : State) (ps : List Nat) : State :=
  ps.foldl (fun s p => s.updPort p (fun x => { x with lanePll := 0 })) s

theorem State.lanesLost_quiet {opt : Bool} (ps : List Nat) : (s.lanesLost ps).quiet opt = s.quiet opt :=
  foldl_read (State.quiet opt) (fun s p => s.updPort_quiet p _) _ _

theorem State.lanesLost_links (ps : List Nat) : (s.lanesLost ps).links = s.links :=
  foldl_read State.links (fun s _ => s.links_updPort (f := fun x => { x with lanePll := 0 }) fun _ => rfl) _ _

theorem State.lanePll_lanesLost {p : Nat} {ps : List Nat} (mem : p ∈ ps) : ((s.lanesLost ps).port p).lanePll = 0 := by
  have lost (l : List Nat) : ∀ t : State, p ∈ l ∨ (t.port p).lanePll = 0 → ((t.lanesLost l).port p).lanePll = 0 := by
    induction l with
    | nil => exact fun t h => h.elim nofun id
    | cons q r ih =>
      intro t h
      refine ih _ ?_
      have set := t.port_setPort q p { t.port q with lanePll := 0 }
      by_cases e : p = q
      · exact .inr (congrArg Port.lanePll (set.trans (if_pos e)))
      · exact h.imp (fun h => (List.mem_cons.mp h).resolve_left e)
          fun h => (congrArg Port.lanePll (set.trans (if_neg e))).trans h
  exact lost ps s (.inl mem)

end Down

/-! ### Loss and return of REFCLK_FAB (R46 to R48) -/

theorem kept_aClk (opt : Bool) : kept opt aClk = true := kept_iff.mpr (.inl (by unfold aClk; omega))

theorem kept_aOpt_false (k : Nat) : kept false (aOpt k) = false := kept_false_eq_false (by unfold aOpt; omega)

theorem kept_aOpt {k : Nat} : kept true (aOpt k) = true := kept_iff.mpr (.inr ⟨rfl, by unfold aOpt; omega, by unfold aOpt; omega⟩)

section Refclk
variable (s : State)

/-- The bits of the clock register and ALERT_N once REFCLK_FAB is lost. -/
def State.refBits (s : State) : State :=
  (({ s.abdicate with pwr := { s.abdicate.pwr with alertClk := true } }.setRf aClk 0 0 1).setRf aClk 1 1 0).setRf
    aClk 31 16 0

/-- What follows the loss at the ports, their engines and the clusters. -/
def State.refDark (s : State) : State :=
  let s := s.portsDown (List.range 128) 6
  let s := (List.range 16).foldl (fun (s : State) k => (s.setRf (aOpt k) 31 31 0).lanesLost (enginePorts k)) s
  (List.range 8).foldl (fun (s : State) c => (s.reedLost c).shuttlesLost c) s

theorem execRefclkFabLoss_eq (up : s.refOk = true) : execRefclkFabLoss s =
    .next (if s.paired ∧ s.role = 1 then s.refBits.refDark.becomeStandby else s.refBits.refDark) := by
  unfold execRefclkFabLoss State.refDark State.refBits State.lanesLost
  rw [if_neg (by simp [up])]

theorem State.refDark_engines_calm : ((List.range 16).foldl
    (fun (s : State) k => (s.setRf (aOpt k) 31 31 0).lanesLost (enginePorts k)) s).calm false = s.calm false := by
  refine foldl_read (State.calm false) (fun s k => ?_) _ _
  exact (State.calm_of_quiet (State.lanesLost_quiet _ _)).trans (State.calm_of_still (s.setRf_still (kept_aOpt_false k)))

theorem State.refDark_clusters_still : ((List.range 8).foldl
    (fun (s : State) c => (s.reedLost c).shuttlesLost c) s).still false = s.still false :=
  foldl_read (State.still false) (fun s c => (State.shuttlesLost_still _ c).trans (s.reedLost_still c)) _ _

theorem State.refDark_calm : s.refDark.calm false = s.calm false := by
  unfold State.refDark
  extract_lets s1 s2
  rw [State.calm_of_still (State.refDark_clusters_still s2)]
  exact (State.refDark_engines_calm s1).trans (s.portsDown_calm _ _ nofun)

theorem State.refDark_links : s.refDark.links = (s.portsDown (List.range 128) 6).links := by
  unfold State.refDark
  extract_lets s1 s2
  rw [State.links_of_ports (State.ports_of_still (State.refDark_clusters_still s2))]
  refine foldl_read State.links (fun s k => ?_) _ _
  exact (State.lanesLost_links _ _).trans (State.links_of_ports (s.setRf_ports _ _ _ _))

variable {s}

/-- The state after the loss has the clock register and ALERT_N as the loss sets them. -/
theorem refclkFabLoss_calm (up : s.refOk = true) :
    Runs .refclkFabLoss s (fun t => t.calm false = s.refBits.calm false) := by
  refine .of (execRefclkFabLoss_eq s up) ?_
  split
  · exact (State.becomeStandby_calm _).trans s.refBits.refDark_calm
  · exact s.refBits.refDark_calm

theorem State.rf_refBits (hi lo : Nat) (h : 1 < lo) (h' : hi < 16) : s.refBits.rf aClk hi lo = s.rf aClk hi lo := by
  have same : s.abdicate.rf aClk hi lo = s.rf aClk hi lo :=
    State.rf_of_calm (State.calm_of_still s.abdicate_still) (kept_aClk true) hi lo
  rw [State.refBits, State.rf_setRf_other _ _ _ _ _ _ _ (by omega), State.rf_setRf_other _ _ _ _ _ _ _ (by omega),
    State.rf_setRf_other _ _ _ _ _ _ _ (by omega)]
  exact same

theorem runs_refclkFabLoss (up : s.refOk = true) :
    Runs .refclkFabLoss s (fun t => t.rf aClk 0 0 = 1 ∧ t.rf aClk 1 1 = 0 ∧ t.rf aClk 2 2 = s.rf aClk 2 2 ∧
      t.rf aClk 31 16 = 0 ∧ t.pwr.alertClk = true) := by
  obtain ⟨t, run, same⟩ := refclkFabLoss_calm up
  have read := State.rf_of_calm same (kept_aClk false)
  refine .of run ⟨?_, ?_, ?_, ?_, (State.alertClk_of_calm same).trans rfl⟩
  · rw [read, State.refBits, State.rf_setRf_other _ _ _ _ _ _ _ (by omega),
      State.rf_setRf_other _ _ _ _ _ _ _ (by omega), State.rf_setRf_same _ _ _ _ _ (by omega)]
    rfl
  · rw [read, State.refBits, State.rf_setRf_other _ _ _ _ _ _ _ (by omega), State.rf_setRf_same _ _ _ _ _ (by omega),
      Nat.zero_mod]
  · rw [read, State.rf_refBits 2 2 (by omega) (by omega)]
  · rw [read, State.refBits, State.rf_setRf_same _ _ _ _ _ (by omega), Nat.zero_mod]

theorem runs_refclkFabLoss_down {p : Nat} (up : s.refOk = true) (hp : p < 128) (active : (s.port p).lstate = .active)
    (alone : s.paired = false) : Runs .refclkFabLoss s (fun t => (t.port p).lstate = .down) := by
  refine .of (execRefclkFabLoss_eq s up) ?_
  have same : s.refBits.ports = s.ports := by
    unfold State.refBits
    have told : s.abdicate.ports = s.ports := State.ports_of_still (opt := false) s.abdicate_still
    rw [State.setRf_ports, State.setRf_ports, State.setRf_ports]
    exact told
  rw [if_neg (by simp [alone])]
  refine (State.lstate_of_links s.refBits.refDark_links p).trans (s.refBits.lstate_portsDown 6 (List.mem_range.mpr hp) ?_)
  rw [State.port, same]
  exact active

/-- The ports that are DOWN come back in quarantine (R48). -/
def State.refPorts (s : State) : State :=
  (List.range 128).foldl (fun (s : State) p =>
    if (s.port p).lstate = .down then (s.setRf (aPortCfg p) 4 4 0).updPort p (fun x => { x with lastPeer := none })
    else s) s

theorem State.refPorts_calm (s : State) : s.refPorts.calm false = s.calm false := by
  refine foldl_read (State.calm false) (fun s p => ?_) _ _
  split
  · rw [State.updPort_calm]
    exact State.calm_of_still (s.setRf_still (kept_aPortCfg_false p))
  · rfl

/-- The PLLs lock: the watched registers are those with the lock bits set. -/
theorem State.allLock_calm (s : State) : s.allLock.calm false = (s.setRf aClk 31 16 0xFFFF).calm false := by
  unfold State.allLock
  refine foldl_read (State.calm false) (fun s k => ?_) _ _
  split
  · rfl
  · refine (foldl_read (State.calm false) (fun s p => s.updPort_calm p _) _ _).trans ?_
    exact State.calm_of_still (s.setRf_still (kept_aOpt_false k))

/-- The bits of the clock register and ALERT_N once REFCLK_FAB is back. -/
def State.refBack (s : State) : State := { s.setRf aClk 1 1 1 with pwr := { s.pwr with alertClk := false } }

theorem State.bootStep_refBack (s : State) : s.refBack.pwr.bootStep = s.pwr.bootStep := by
  unfold State.refBack
  dsimp only

theorem execRefclkFabReturn_eq (lost : s.refOk = false) : execRefclkFabReturn s =
    .next (if 5 ≤ s.refBack.refPorts.pwr.bootStep then s.refBack.refPorts.allLock else s.refBack.refPorts) := by
  unfold execRefclkFabReturn State.refPorts State.refBack
  rw [if_neg (by simp [lost])]

theorem runs_refclkFabReturn (lost : s.refOk = false) :
    Runs .refclkFabReturn s (fun t => t.refOk = true ∧ t.pwr.alertClk = false ∧
      (5 ≤ s.pwr.bootStep → t.rf aClk 31 16 = 0xFFFF)) := by
  have same := s.refBack.refPorts_calm
  have ok : s.refBack.refPorts.rf aClk 1 1 = 1 := by
    rw [State.rf_of_calm same (kept_aClk false)]
    exact s.rf_setRf_same _ _ _ _ (by omega)
  have step : s.refBack.refPorts.pwr.bootStep = s.pwr.bootStep :=
    (State.bootStep_of_calm same).trans s.bootStep_refBack
  have alert : s.refBack.refPorts.pwr.alertClk = false := State.alertClk_of_calm same
  refine .of (execRefclkFabReturn_eq lost) ?_
  split
  next =>
    have locked := s.refBack.refPorts.allLock_calm
    refine ⟨decide_eq_true ?_, ?_, fun _ => ?_⟩
    · rw [State.rf_of_calm locked (kept_aClk false), State.rf_setRf_other _ _ _ _ _ _ _ (by omega), ok]
    · rw [State.alertClk_of_calm locked, State.setRf_pwr, alert]
    · rw [State.rf_of_calm locked (kept_aClk false), State.rf_setRf_same _ _ _ _ _ (by omega)]
      rfl
  next early =>
    rw [step] at early
    exact ⟨decide_eq_true ok, alert, fun h => absurd h early⟩

theorem runs_aonTrim (up : s.refOk = true) :
    Runs .aonTrim s (fun t => t.rf aClk 2 2 = 1 ∧ t.pwr.trimAt = s.aon ∧
      t = { s.setRf aClk 2 2 1 with pwr := t.pwr }) :=
  .of (if_pos up) ⟨s.rf_setRf_same aClk 2 2 1 (by omega), rfl, rfl⟩

/-! ### Loss of a PLL (R46) -/

theorem runs_pllLockLoss_warp {c : Nat} (hc : c < 8) :
    Runs (.pllLockLoss 0 c) s (fun t => t.rf aClk (16 + c) (16 + c) = 0) := by
  refine .of (if_pos ⟨rfl, hc⟩) ?_
  rw [State.rf_of_calm (State.calm_of_still (State.reedLost_still _ c)) (kept_aClk false),
    State.rf_of_calm (State.portsDown_calm (opt := false) _ _ 6 nofun) (kept_aClk false), State.rf_setRf_same _ _ _ _ _ (by omega),
    Nat.zero_mod]

theorem execPllLockLoss_shuttle {c : Nat} (hc : c < 8) :
    execPllLockLoss 1 c s = .next ((s.setRf aClk (24 + c) (24 + c) 0).shuttlesLost c) :=
  (if_neg (by simp)).trans (if_pos ⟨rfl, hc⟩)

theorem execPllLockLoss_lane {k : Nat} (hk : k < 16) : execPllLockLoss 2 k s =
    .next (((s.setRf (aOpt k) 31 31 0).portsDown (enginePorts k) 6).lanesLost (enginePorts k)) := by
  unfold execPllLockLoss State.lanesLost
  rw [if_neg (by simp), if_neg (by simp), if_pos ⟨rfl, hk⟩]

theorem runs_pllLockLoss_shuttle {c : Nat} (hc : c < 8) :
    Runs (.pllLockLoss 1 c) s (fun t => t.rf aClk (24 + c) (24 + c) = 0) := by
  refine .of (execPllLockLoss_shuttle hc) ?_
  rw [State.rf_of_calm (State.calm_of_still (State.shuttlesLost_still _ c)) (kept_aClk false),
    State.rf_setRf_same _ _ _ _ _ (by omega), Nat.zero_mod]

theorem mem_enginePorts {p k : Nat} (h : p / 8 = k) : p ∈ enginePorts k :=
  List.mem_map.mpr ⟨p % 8, List.mem_range.mpr (by omega), by omega⟩

theorem lt_of_mem_enginePorts {p k : Nat} (hk : k < 16) (h : p ∈ enginePorts k) : p < 128 := by
  obtain ⟨i, hi, rfl⟩ := List.mem_map.mp h
  have := List.mem_range.mp hi
  omega

theorem runs_pllLockLoss_lane {k p : Nat} (hk : k < 16) (own : p / 8 = k) (active : (s.port p).lstate = .active) :
    Runs (.pllLockLoss 2 k) s (fun t => t.rf (aOpt k) 31 31 = 0 ∧ (t.port p).lstate = .down ∧
      (t.port p).lanePll = 0) := by
  have down := (s.setRf (aOpt k) 31 31 0).portsDown_calm (opt := true) (enginePorts k) 6
    fun _ q => lt_of_mem_enginePorts hk
  refine .of (execPllLockLoss_lane hk) ⟨?_, ?_, ?_⟩
  · rw [State.rf_of_calm ((State.calm_of_quiet (State.lanesLost_quiet _ _)).trans down) kept_aOpt,
      State.rf_setRf_same _ _ _ _ _ (by omega), Nat.zero_mod]
  · exact (State.lstate_of_links (State.lanesLost_links _ _) p).trans (State.lstate_portsDown _ 6 (mem_enginePorts own)
      (by rw [State.setRf_port, active]))
  · exact State.lanePll_lanesLost _ (mem_enginePorts own)

end Refclk

/-- Settles O9: neither the ports that go DOWN nor the groups and items that end with a clock, nor a device that becomes
a standby, write the clock register, and a port that went DOWN stays so. -/
theorem clocksAndTheirLoss : Obligations.ClocksAndTheirLoss := by
  unfold Obligations.ClocksAndTheirLoss
  intro s
  exact ⟨runs_refclkFabLoss, runs_refclkFabReturn, runs_aonTrim, fun _ => runs_pllLockLoss_warp,
    fun _ up hp active alone => runs_refclkFabLoss_down up hp active alone, fun _ => runs_pllLockLoss_shuttle,
    fun _ _ hk own active => runs_pllLockLoss_lane hk own active⟩

end Sys2Proof.Machine
end

section
/-!
The supplies, the straps and PERST_N (R557, R558, R583).
-/

namespace Sys2Proof.Machine

/-! ### Domains taken OFF together -/

section Domains
variable (s : State)

/-- The package but for the depths of its domains and the step of the power-up sequence. -/
def Power.rest (x : Power) : Power := { x with doms := [], bootStep := 0 }

/-- Powers that differ in depths and step alone agree in every other field `f`. -/
theorem Power.field_of_rest {β : Type} (f : Power → β) (own : ∀ z : Power, f z.rest = f z) {x y : Power}
    (h : x.rest = y.rest) : f x = f y :=
  (own x).symm.trans ((congrArg f h).trans (own y))

/-- What no domain's depth touches, taking the main domains OFF leaves. -/
theorem State.allOff_read {β : Type} (g : State → β) (k : OffKind) (off : ∀ (t : State) d, g (t.toOff d k) = g t) :
    g (s.allOff k) = g s := by
  unfold State.allOff
  exact foldl_read g off _ _

theorem State.rest_of_calm {opt : Bool} {s t : State} (h : t.calm opt = s.calm opt) : t.pwr.rest = s.pwr.rest :=
  congrArg (fun x : (Nat → Word) × Power => x.2.rest) h

theorem State.toOff_rest (d : Nat) (k : OffKind) : (s.toOff d k).pwr.rest = s.pwr.rest := rfl

theorem State.allOff_rest (k : OffKind) : (s.allOff k).pwr.rest = s.pwr.rest :=
  s.allOff_read (fun t => t.pwr.rest) k fun t d => t.toOff_rest d k

theorem State.allOff_mem (k : OffKind) : (s.allOff k).mem = s.mem :=
  s.allOff_read State.mem k fun t d => t.toOff_mem d k

theorem State.allOff_ctxs (k : OffKind) : (s.allOff k).ctxs = s.ctxs :=
  s.allOff_read State.ctxs k fun t d => t.toOff_ctxs d k

theorem State.allOff_fw (k : OffKind) : (s.allOff k).fw = s.fw :=
  s.allOff_read State.fw k fun t d => t.toOff_fw d k

theorem State.dom_toOff (d i : Nat) (k : OffKind) :
    (s.toOff d k).dom i = if i = d then ⟨.off, k, false⟩ else s.dom i := s.dom_setDom _ _ _

theorem State.dom_toDepth (d i : Nat) (x : Depth) :
    (s.toDepth d x).dom i = if i = d then ⟨x, .idle, false⟩ else s.dom i := s.dom_setDom _ _ _

theorem State.dom_allOff (k : OffKind) (i : Nat) :
    (s.allOff k).dom i = if i ∈ mainDoms then ⟨.off, k, false⟩ else s.dom i := by
  unfold State.allOff
  generalize mainDoms = l
  induction l generalizing s with
  | nil => rfl
  | cons d r ih =>
    rw [List.foldl_cons, ih, State.dom_toOff]
    by_cases h : i ∈ r
    · rw [if_pos h, if_pos (List.mem_cons_of_mem d h)]
    · rw [if_neg h]
      by_cases e : i = d
      · rw [if_pos e, if_pos (List.mem_cons.mpr (.inl e))]
      · rw [if_neg e, if_neg fun m => (List.mem_cons.mp m).elim e h]

theorem State.isOff_of_dom {d : Nat} {k : OffKind} {b : Bool} (h : s.dom d = ⟨.off, k, b⟩) : s.isOff d = true :=
  decide_eq_true (congrArg Domain.depth h)

theorem zero_notMem_mainDoms : 0 ∉ mainDoms := by decide

theorem mem_mainDoms {d : Nat} (h : d < 52) (h0 : d ≠ 0) : d ∈ mainDoms :=
  List.mem_map.mpr ⟨d - 1, List.mem_range.mpr (by omega), by omega⟩

end Domains

/-! ### A stop of the main domains (R32, R560) -/

section Stop
variable (s : State)

/-- What neither a register nor an event touches, showing the treadle's state leaves. -/
theorem State.trdShow_read {β : Type} (g : State → β) (set : ∀ (t : State) a v, g (t.setReg a v) = g t)
    (event : ∀ (t : State) code st l, g (t.event code st l) = g t) (old : State) : g (s.trdShow old) = g s := by
  unfold State.trdShow
  extract_lets s1 s2
  have h2 : g s2 = g s := (set s1 _ _).trans (set s _ _)
  split
  · exact h2
  · exact (event s2 _ _ _).trans h2

theorem State.trdShow_pwr (old : State) : (s.trdShow old).pwr = s.pwr :=
  s.trdShow_read State.pwr State.setReg_pwr State.event_pwr old

theorem State.trdShow_mem (old : State) : (s.trdShow old).mem = s.mem :=
  s.trdShow_read State.mem State.setReg_mem State.event_mem old

theorem State.trdShow_ctxs (old : State) : (s.trdShow old).ctxs = s.ctxs :=
  s.trdShow_read State.ctxs State.setReg_ctxs State.event_ctxs old

theorem State.trdShow_trd (old : State) : (s.trdShow old).trd = s.trd :=
  s.trdShow_read State.trd State.setReg_trd State.event_trd old

theorem State.trdShow_dom (old : State) (d : Nat) : (s.trdShow old).dom d = s.dom d := by
  rw [State.dom, State.trdShow_pwr]
  rfl

/-- The package as a stop of the main domains leaves it, but for the depths (R560). -/
def Power.stopped (x : Power) : Power :=
  { x with tests := [], hbmTrained := 0, sramFail := 0, hbmFail := 0, shuOut := [], shuClk := [], bootStep := 3 }

theorem State.cartsForget_pwr : s.cartsForget.pwr = s.pwr :=
  foldl_read State.pwr (fun s k => s.setCart_pwr k _) _ _

theorem State.loseMain_pwr : s.loseMain.pwr = s.pwr.stopped := by
  unfold State.loseMain
  extract_lets s1 s2 s3
  have h1 : s1.pwr = s.pwr := by
    unfold s1
    split
    · exact s.setRf_pwr _ _ _ _
    · rfl
  have h3 : s3.pwr = s.pwr := by
    refine (foldl_read State.pwr (fun s k => s.setRf_pwr _ _ _ _) _ _).trans ?_
    unfold s2
    rw [State.setRf_pwr, State.clearRegs_pwr, State.setRf_pwr, State.cartsForget_pwr, h1]
  exact congrArg Power.stopped h3

theorem State.loseMain_mem : s.loseMain.mem = [] := rfl

theorem State.loseMain_ctxs : s.loseMain.ctxs = [] := rfl

theorem State.dom_loseMain (d : Nat) : s.loseMain.dom d = s.dom d := by
  rw [State.dom, State.loseMain_pwr]
  rfl

theorem State.stopMain_mem : s.stopMain.mem = [] := (s.loseMain.allOff_mem .stop).trans s.loseMain_mem

theorem State.stopMain_ctxs : s.stopMain.ctxs = [] := (s.loseMain.allOff_ctxs .stop).trans s.loseMain_ctxs

theorem State.dom_stopMain {d : Nat} (h : d ∈ mainDoms) : s.stopMain.dom d = ⟨.off, .stop, false⟩ := by
  rw [State.stopMain, State.dom_allOff, if_pos h]

theorem State.dom_stopMain_zero : s.stopMain.dom 0 = s.dom 0 := by
  rw [State.stopMain, State.dom_allOff, if_neg zero_notMem_mainDoms, State.dom_loseMain]

theorem State.abdicate_pwr : s.abdicate.pwr = s.pwr :=
  State.pwr_of_quiet (opt := false) (State.quiet_of_still s.abdicate_still)

end Stop

/-! ### The start of the main domains (R557, step 4; R558) -/

section Start
variable (s : State)

/-- What no register touches, noting a reset leaves. -/
theorem State.cause_read {β : Type} (g : State → β) (set : ∀ (t : State) a v, g (t.setReg a v) = g t)
    (kind source : Nat) : g (s.cause kind source) = g s := by
  unfold State.cause
  extract_lets s1
  have field (t : State) (a hi lo v : Nat) : g (t.setRf a hi lo v) = g t := by
    unfold State.setRf
    exact set t _ _
  have h1 : g s1 = g s := (field _ _ _ _ _).trans (field s _ _ _ _)
  have bump (hi lo : Nat) : g (s1.bump aRstCause hi lo 1) = g s := by
    unfold State.bump
    exact (field s1 _ _ _ _).trans h1
  split
  · exact bump _ _
  · split
    · exact bump _ _
    · split
      · exact bump _ _
      · exact h1

theorem State.cause_pwr (kind source : Nat) : (s.cause kind source).pwr = s.pwr :=
  s.cause_read State.pwr State.setReg_pwr kind source

theorem State.cause_mem (kind source : Nat) : (s.cause kind source).mem = s.mem :=
  s.cause_read State.mem State.setReg_mem kind source

theorem State.slotSvn_pwr (slot : Nat) : (s.slotSvn slot).2.pwr = s.pwr := by
  unfold State.slotSvn
  split <;> rfl

theorem State.secShow_pwr : s.secShow.pwr = s.pwr := by
  unfold State.secShow
  extract_lets s1 s2
  have h1 : s1.pwr = s.pwr := (State.setRf_pwr _ _ _ _ _).trans (s.setRf_pwr _ _ _ _)
  have h2 : s2.pwr = s1.pwr := (State.setRf_pwr _ _ _ _ _).trans (s1.setRf_pwr _ _ _ _)
  exact (s2.setRf_pwr _ _ _ _).trans (h2.trans h1)

theorem State.compSet_pwr (id st slot svn : Nat) : (s.compSet id st slot svn).pwr = s.pwr := by
  unfold State.compSet
  exact (State.setRf_pwr _ _ _ _ _).trans ((State.setRf_pwr _ _ _ _ _).trans (s.setRf_pwr _ _ _ _))

/-- Secure boot writes firmware state and registers. -/
theorem State.secBoot_pwr : s.secBoot.pwr = s.pwr := by
  unfold State.secBoot
  extract_lets r s1 slot trial policy _ s2 s3
  have h1 : s1.pwr = s.pwr := by
    unfold s1
    split
    · split <;> rfl
    · rfl
  have h3 : s3.pwr = s.pwr := (s2.setReg_pwr _ _).trans h1
  exact (State.compSet_pwr _ _ _ _ _).trans ((State.secShow_pwr _).trans ((s3.slotSvn_pwr slot).trans h3))

/-- PLN and SEC, and on a lead HIO, are at RUN. -/
def State.risen (s : State) : Prop :=
  AtDepth s dPln .run ∧ AtDepth s dSec .run ∧ (s.pwr.leadSel = true → AtDepth s dHio .run)

/-- The step of the power-up sequence that has been completed. -/
def State.withBoot (s : State) (n : Nat) : State := { s with pwr := { s.pwr with bootStep := n } }

theorem State.withBoot_perst (n : Nat) : (s.withBoot n).pwr.perst = s.pwr.perst := rfl

theorem State.withBoot_bootStep (n : Nat) : (s.withBoot n).pwr.bootStep = n := rfl

theorem State.withBoot_mem (n : Nat) : (s.withBoot n).mem = s.mem := rfl

theorem State.dom_withBoot (n d : Nat) : (s.withBoot n).dom d = s.dom d := rfl

/-- Every domain but AON is idle OFF, and the registers that a reset reaches are as at reset. -/
def State.cleared (s : State) : State := (s.clearRegs warmReg).allOff .idle

theorem State.cleared_rest : s.cleared.pwr.rest = s.pwr.rest := (s.clearRegs warmReg).allOff_rest .idle

theorem State.cleared_mem : s.cleared.mem = s.mem := (s.clearRegs warmReg).allOff_mem .idle

theorem State.cleared_leadSel : s.cleared.pwr.leadSel = s.pwr.leadSel := Power.field_of_rest Power.leadSel (fun _ => rfl) s.cleared_rest

theorem State.cleared_perst : s.cleared.pwr.perst = s.pwr.perst := Power.field_of_rest Power.perst (fun _ => rfl) s.cleared_rest

/-- A lead whose PERST_N is asserted waits before step 4 (R558). -/
theorem State.bootStart_held (lead : s.pwr.leadSel = true) (perst : s.pwr.perst = true) :
    s.bootStart = s.cleared.withBoot 3 :=
  if_pos ⟨s.cleared_leadSel.trans lead, s.cleared_perst.trans perst⟩

/-- PLN and SEC at RUN, and HIO where the device is a lead. -/
def State.plinthUp (s : State) : State :=
  if s.pwr.leadSel then ((s.toDepth dPln .run).toDepth dSec .run).toDepth dHio .run
  else (s.toDepth dPln .run).toDepth dSec .run

theorem State.bootStart_up (perst : s.pwr.perst = false) :
    s.bootStart = (s.cleared.withBoot 4).plinthUp.secBoot :=
  if_neg fun held => by
    have := s.cleared_perst.symm.trans held.2
    simp [perst] at this

theorem State.plinthUp_risen : s.plinthUp.risen := by
  unfold State.plinthUp State.risen AtDepth
  split
  next => simp [State.dom_toDepth, dPln, dSec, dHio]
  next member =>
    refine ⟨by simp [State.dom_toDepth, dPln, dSec], by simp [State.dom_toDepth], fun lead => absurd lead member⟩

theorem State.plinthUp_bare : { s.plinthUp.pwr with doms := [] } = { s.pwr with doms := [] } := by
  unfold State.plinthUp
  split <;> rfl

theorem State.risen_of_pwr {s t : State} (h : t.pwr = s.pwr) (up : s.risen) : t.risen := by
  unfold State.risen AtDepth State.dom at *
  rw [h]
  exact up

/-- Once the main domains may start, they start: step 4 is done, and nothing else of the package changes. -/
theorem State.bootStart_spec (perst : s.pwr.perst = false) :
    s.bootStart.risen ∧ s.bootStart.pwr.bootStep = 4 ∧ s.bootStart.pwr.rest = s.pwr.rest := by
  rw [s.bootStart_up perst]
  have bare := (s.cleared.withBoot 4).plinthUp_bare
  refine ⟨State.risen_of_pwr (State.secBoot_pwr _) (State.plinthUp_risen _), ?_, ?_⟩ <;> rw [State.secBoot_pwr]
  · exact congrArg Power.bootStep bare
  · exact (congrArg Power.rest bare).trans s.cleared_rest

/-- The package as a main cold reset starts it: the straps are sampled and no supply raises ALERT_N. -/
def Power.started (x : Power) : Power := { x with sampled := true, alertMain := false }

/-- The state that a main cold reset starts from. -/
def State.started (s : State) : State := { s with pwr := s.pwr.started }

theorem State.coldMain_eq (source : Nat) : s.coldMain source =
    (if s.pwr.sampled then s.cause 2 source else s).started.bootStart.trdShow s := rfl

/-- A main cold reset starts the main domains (R559). -/
theorem State.coldMain_spec (source : Nat) (perst : s.pwr.perst = false) :
    (s.coldMain source).risen ∧ (s.coldMain source).pwr.bootStep = 4 ∧
      (s.coldMain source).pwr.rest = s.pwr.started.rest := by
  have noted : (if s.pwr.sampled then s.cause 2 source else s).pwr = s.pwr := by
    split
    · exact s.cause_pwr _ _
    · rfl
  rw [s.coldMain_eq]
  generalize (if s.pwr.sampled then s.cause 2 source else s) = t at noted
  obtain ⟨up, step, rest⟩ := t.started.bootStart_spec ((congrArg Power.perst noted).trans perst)
  refine ⟨State.risen_of_pwr (State.trdShow_pwr _ _) up, ?_, ?_⟩ <;> rw [State.trdShow_pwr]
  · exact step
  · exact rest.trans (congrArg (fun x => x.started.rest) noted)

end Start

/-! ### The supplies (R32, R557, R583) -/

section Supplies
variable {s : State}

/-- The state with another package. -/
def State.withPwr (s : State) (x : Power) : State := { s with pwr := x }

theorem State.withPwr_mem (s : State) (x : Power) : (s.withPwr x).mem = s.mem := rfl

theorem State.withPwr_ctxs (s : State) (x : Power) : (s.withPwr x).ctxs = s.ctxs := rfl

theorem State.withPwr_pwr (s : State) (x : Power) : (s.withPwr x).pwr = x := rfl

theorem State.pwr_trdShow_withPwr (s old : State) (x : Power) : ((s.withPwr x).trdShow old).pwr = x :=
  ((s.withPwr x).trdShow_pwr old).trans (s.withPwr_pwr x)

theorem State.mem_trdShow_withPwr (s old : State) (x : Power) : ((s.withPwr x).trdShow old).mem = s.mem :=
  ((s.withPwr x).trdShow_mem old).trans (s.withPwr_mem x)

theorem State.ctxs_trdShow_withPwr (s old : State) (x : Power) : ((s.withPwr x).trdShow old).ctxs = s.ctxs :=
  ((s.withPwr x).trdShow_ctxs old).trans (s.withPwr_ctxs x)

theorem State.dom_withPwr (s : State) {x : Power} (doms : x.doms = s.pwr.doms) (d : Nat) :
    (s.withPwr x).dom d = s.dom d := by
  unfold State.dom
  rw [← doms]
  rfl

theorem State.dom_trdShow_withPwr (s old : State) {x : Power} (doms : x.doms = s.pwr.doms) (d : Nat) :
    ((s.withPwr x).trdShow old).dom d = s.dom d :=
  ((s.withPwr x).trdShow_dom old d).trans (s.dom_withPwr doms d)

theorem runs_vinAonApply : Runs .vinAonApply s (fun t => t.aon = 0 ∧ t.regs = [] ∧ t.mem = [] ∧
    t.fw.slots = s.fw.slots ∧ t.fw.fuseF = s.fw.fuseF ∧ t.pending = s.pending ∧
    (∀ d ∈ List.range 52, t.dom d = domReset d)) :=
  .of rfl ⟨rfl, rfl, rfl, rfl, rfl, rfl, fun _ _ => rfl⟩

/-- What is left without VIN_AON, before its domains stop. -/
def State.aonLost (s : State) : State :=
  { State.reset with
    pending := s.pending, free := s.free, fw := s.fw.keep, host := s.host.keep
    pwr := { powerReset with vinAon := false, vinIo := s.pwr.vinIo, vinMain := s.pwr.vinMain, bootStep := 0 } }

/-- Every domain but AON stopped, then AON as well. -/
def State.stopAll (s : State) : State := (s.allOff .stop).toOff 0 .stop

theorem State.stopAll_rest (s : State) : s.stopAll.pwr.rest = s.pwr.rest :=
  (State.toOff_rest _ 0 .stop).trans (s.allOff_rest .stop)

theorem State.stopAll_fw (s : State) : s.stopAll.fw = s.fw := (State.toOff_fw _ 0 .stop).trans (s.allOff_fw .stop)

theorem State.isOff_stopAll (s : State) {d : Nat} (h : d < 52) : s.stopAll.isOff d = true := by
  refine State.isOff_of_dom (k := .stop) (b := false) _ ?_
  rw [State.stopAll, State.dom_toOff, State.dom_allOff]
  by_cases h0 : d = 0
  · rw [if_pos h0]
  · rw [if_neg h0, if_pos (mem_mainDoms h h0)]

theorem execVinAonLoss_eq : execVinAonLoss s = .next s.aonLost.stopAll := by
  unfold execVinAonLoss State.stopAll State.aonLost
  rfl

theorem runs_vinAonLoss : Runs .vinAonLoss s (fun t => (∀ d ∈ List.range 52, t.isOff d = true) ∧
    t.pwr.vinAon = false ∧ t.pwr.alertMain = false ∧ t.pwr.alertClk = false ∧ t.pwr.thermtrip = false ∧
    t.fw.fuseF = s.fw.fuseF) := by
  have rest : s.aonLost.stopAll.pwr.rest = s.aonLost.pwr.rest := s.aonLost.stopAll_rest
  have fuse : s.aonLost.stopAll.fw.fuseF = s.aonLost.fw.fuseF := congrArg Firmware.fuseF s.aonLost.stopAll_fw
  have off : ∀ d ∈ List.range 52, s.aonLost.stopAll.isOff d = true :=
    fun d hd => s.aonLost.isOff_stopAll (List.mem_range.mp hd)
  refine Runs.of execVinAonLoss_eq ?_
  generalize s.aonLost.stopAll = t at rest fuse off
  have aon : t.pwr.vinAon = s.aonLost.pwr.vinAon := Power.field_of_rest Power.vinAon (fun _ => rfl) rest
  have main : t.pwr.alertMain = s.aonLost.pwr.alertMain := Power.field_of_rest Power.alertMain (fun _ => rfl) rest
  have clk : t.pwr.alertClk = s.aonLost.pwr.alertClk := Power.field_of_rest Power.alertClk (fun _ => rfl) rest
  have trip : t.pwr.thermtrip = s.aonLost.pwr.thermtrip := Power.field_of_rest Power.thermtrip (fun _ => rfl) rest
  exact ⟨off, aon, main, clk, trip, fuse⟩

/-- The package once VIN_MAIN is lost. -/
def Power.noMain (x : Power) : Power := { x with vinMain := false, alertMain := true }

theorem execVinMainLoss_eq (main : s.pwr.vinMain = true) : execVinMainLoss s =
    .next ((s.abdicate.stopMain.withPwr s.abdicate.stopMain.pwr.noMain).trdShow s) := by
  unfold execVinMainLoss State.withPwr Power.noMain
  rw [if_pos main]

theorem runs_vinMainLoss (main : s.pwr.vinMain = true) :
    Runs .vinMainLoss s (fun t => t.pwr.vinMain = false ∧ t.pwr.alertMain = true ∧
      (∀ d ∈ mainDoms, t.dom d = ⟨.off, .stop, false⟩) ∧ t.dom 0 = s.dom 0 ∧ t.mem = [] ∧ t.ctxs = []) := by
  have aon : s.abdicate.dom 0 = s.dom 0 := by
    rw [State.dom, State.abdicate_pwr]
    rfl
  refine Runs.of (execVinMainLoss_eq main) ?_
  have stopped := fun d => s.abdicate.dom_stopMain (d := d)
  have kept := s.abdicate.dom_stopMain_zero.trans aon
  have mem := s.abdicate.stopMain_mem
  have ctxs := s.abdicate.stopMain_ctxs
  generalize s.abdicate.stopMain = t at stopped kept mem ctxs
  have dom := t.dom_trdShow_withPwr s (x := t.pwr.noMain) rfl
  rw [State.pwr_trdShow_withPwr, State.mem_trdShow_withPwr, State.ctxs_trdShow_withPwr, dom 0]
  exact ⟨rfl, rfl, fun d hd => (dom d).trans (stopped d hd), kept, mem, ctxs⟩

/-- The package once VIN_IO is lost, while VIN_MAIN was as `main` says. -/
def Power.noIo (x : Power) (main : Bool) : Power := { x with vinIo := false, alertMain := x.alertMain || main }

theorem execVinIoLoss_eq (main : s.pwr.vinMain = true) : execVinIoLoss s =
    .next ((s.stopMain.withPwr (s.stopMain.pwr.noIo s.pwr.vinMain)).trdShow s) := by
  unfold execVinIoLoss State.withPwr Power.noIo
  rw [if_pos main]

theorem runs_vinIoLoss (main : s.pwr.vinMain = true) :
    Runs .vinIoLoss s (fun t => t.pwr.vinIo = false ∧ (∀ d ∈ mainDoms, t.dom d = ⟨.off, .stop, false⟩) ∧
      t.mem = []) := by
  refine Runs.of (execVinIoLoss_eq main) ?_
  have stopped := fun d => s.dom_stopMain (d := d)
  have mem := s.stopMain_mem
  generalize s.stopMain = t at stopped mem
  have dom := t.dom_trdShow_withPwr s (x := t.pwr.noIo s.pwr.vinMain) rfl
  rw [State.pwr_trdShow_withPwr, State.mem_trdShow_withPwr]
  exact ⟨rfl, fun d hd => (dom d).trans (stopped d hd), mem⟩

/-- The straps as MAIN_POWER_GOOD samples them, and whether PCIe REFCLK is there. -/
def State.powered (s : State) (lead src : Bool) : State :=
  ({ s with pwr := { s.pwr with vinMain := true, leadSel := lead, bootSrc := src }, free := s.free + 1 } : State).setRf
    aClk 3 3 (if lead then Config.freeNat s.free % 2 else 0)

theorem State.powered_pwr (s : State) (lead src : Bool) :
    (s.powered lead src).pwr = { s.pwr with vinMain := true, leadSel := lead, bootSrc := src } := State.setRf_pwr _ _ _ _ _

theorem execMainPowerGood_eq (lead src : Bool) (aon : s.pwr.vinAon = true) (main : s.pwr.vinMain = false)
    (io : s.pwr.vinIo = true) (trip : s.pwr.thermtrip = false) :
    execMainPowerGood lead src s = .next ((s.powered lead src).coldMain 1) := by
  have ok : (s.powered lead src).mainOk = true := by
    rw [State.mainOk, State.powered_pwr]
    simp [aon, io, trip]
  exact (if_pos ⟨aon, by simp [main]⟩).trans (congrArg Host.Outcome.next (if_pos ok))

theorem runs_mainPowerGood (lead src : Bool) (aon : s.pwr.vinAon = true) (main : s.pwr.vinMain = false)
    (io : s.pwr.vinIo = true) (trip : s.pwr.thermtrip = false) (perst : s.pwr.perst = false) :
    Runs (.mainPowerGood lead src) s (fun t => t.pwr.leadSel = lead ∧ t.pwr.bootSrc = src ∧ t.pwr.vinMain = true ∧
      AtDepth t dPln .run ∧ AtDepth t dSec .run ∧ (lead = true → AtDepth t dHio .run) ∧ t.pwr.bootStep = 4) := by
  have pwr := s.powered_pwr lead src
  obtain ⟨⟨pln, sec, hio⟩, step, rest⟩ :=
    (s.powered lead src).coldMain_spec 1 ((congrArg Power.perst pwr).trans perst)
  rw [pwr] at rest
  have sel : ((s.powered lead src).coldMain 1).pwr.leadSel = lead := Power.field_of_rest Power.leadSel (fun _ => rfl) rest
  exact .of (execMainPowerGood_eq lead src aon main io trip)
    ⟨sel, Power.field_of_rest Power.bootSrc (fun _ => rfl) rest, Power.field_of_rest Power.vinMain (fun _ => rfl) rest, pln, sec, fun h => hio (sel.trans h), step⟩

theorem runs_vinIoReturn (io : s.pwr.vinIo = false) (aon : s.pwr.vinAon = true) (main : s.pwr.vinMain = true)
    (trip : s.pwr.thermtrip = false) (perst : s.pwr.perst = false) :
    Runs .vinIoReturn s (fun t => t.pwr.vinIo = true ∧ AtDepth t dPln .run ∧ AtDepth t dSec .run ∧
      t.pwr.bootStep = 4) := by
  obtain ⟨⟨pln, sec, -⟩, step, rest⟩ :=
    ({ s with pwr := { s.pwr with vinIo := true } } : State).coldMain_spec 1 perst
  refine .of ((if_neg (by simp [io])).trans (congrArg Host.Outcome.next (if_pos ?_)))
    ⟨Power.field_of_rest Power.vinIo (fun _ => rfl) rest, pln, sec, step⟩
  simp [State.mainOk, aon, main, trip]

/-! ### PERST_N (R558) -/

/-- PERST_N at a level. -/
def State.withPerst (s : State) (b : Bool) : State := { s with pwr := { s.pwr with perst := b } }

theorem State.putClaim_pwr (c : Nat) (s : State) : (s.putClaim c).pwr = s.pwr :=
  State.pwr_of_quiet (opt := false) (State.quiet_of_still (s.putClaim_still c))

/-- The main domains lost for a warm reset, the told ports DOWN. -/
def State.warmLost (s : State) (source : Nat) : State :=
  let s := s.abdicate
  let s := if s.role = 3 then (s.putClaim 0) else s
  let up := (List.range 128).filter (fun p => decide ((s.port p).lstate ≠ .dark))
  let told := s.portsDown up 10
  let s := up.foldl (fun s p => s.updPort p (fun x => { x with
    downCause := 10, lastTx := (told.port p).lastTx })) told.loseMain
  s.cause 3 source

theorem State.warmReset_eq (source : Nat) : s.warmReset source = (s.warmLost source).bootStart.trdShow s := by
  unfold State.warmReset State.warmLost
  rfl

/-- The main domains of a warm reset are lost in the package as a stop loses them, but for their depths. -/
theorem State.warmLost_spec (source : Nat) :
    (s.warmLost source).pwr.perst = s.pwr.perst ∧ (s.warmLost source).pwr.leadSel = s.pwr.leadSel ∧
      (s.warmLost source).mem = [] := by
  unfold State.warmLost
  extract_lets s1 s2 up told s3
  have h2 : s2.pwr = s.pwr := by
    unfold s2
    split
    · exact (State.putClaim_pwr 0 s1).trans s.abdicate_pwr
    · exact s.abdicate_pwr
  have rest := State.rest_of_calm (opt := false) (s2.portsDown_calm up 10 nofun)
  have low : told.pwr.perst = s2.pwr.perst := Power.field_of_rest Power.perst (fun _ => rfl) rest
  have sel : told.pwr.leadSel = s2.pwr.leadSel := Power.field_of_rest Power.leadSel (fun _ => rfl) rest
  rw [h2] at low sel
  have h3 : s3.pwr = told.pwr.stopped :=
    (foldl_read State.pwr (fun s p => s.updPort_pwr p _) _ _).trans told.loseMain_pwr
  have m3 : s3.mem = [] := (foldl_read State.mem (fun s p => s.updPort_mem p _) _ _).trans told.loseMain_mem
  rw [State.cause_pwr, State.cause_mem, h3]
  exact ⟨low, sel, m3⟩

/-- A warm reset of a lead whose PERST_N is asserted holds its power-up, with the main domains lost. -/
theorem State.warmReset_held (source : Nat) (lead : s.pwr.leadSel = true) (perst : s.pwr.perst = true) :
    (s.warmReset source).pwr.perst = true ∧ (s.warmReset source).pwr.bootStep = 3 ∧ (s.warmReset source).mem = [] ∧
      ∀ d ∈ mainDoms, (s.warmReset source).isOff d = true := by
  obtain ⟨low, sel, mem⟩ := s.warmLost_spec source
  rw [s.warmReset_eq, (s.warmLost source).bootStart_held (sel.trans lead) (low.trans perst)]
  generalize s.warmLost source = t at low mem
  refine ⟨?_, ?_, ?_, fun d hd => State.isOff_of_dom (k := .idle) (b := false) _ ?_⟩
  · rw [State.trdShow_pwr, State.withBoot_perst, t.cleared_perst, low, perst]
  · rw [State.trdShow_pwr, State.withBoot_bootStep]
  · exact (State.trdShow_mem _ s).trans ((State.withBoot_mem _ 3).trans (t.cleared_mem.trans mem))
  · rw [State.trdShow_dom, State.dom_withBoot, State.cleared, State.dom_allOff, if_pos hd]

theorem runs_perstAssert (lead : s.pwr.leadSel = true) (perst : s.pwr.perst = false) (main : s.mainOk = true)
    (step : 4 ≤ s.pwr.bootStep) : Runs .perstAssert s (fun t => t.pwr.perst = true ∧ t.pwr.bootStep = 3 ∧
      t.mem = [] ∧ (∀ d ∈ mainDoms, t.isOff d = true)) :=
  .of (if_pos ⟨lead, by simp [perst], main, step⟩) ((s.withPerst true).warmReset_held 3 lead rfl)

theorem runs_perstDeassert (lead : s.pwr.leadSel = true) (main : s.mainOk = true) (step : s.pwr.bootStep = 3) :
    Runs .perstDeassert s (fun t => t.pwr.perst = false ∧ t.pwr.bootStep = 4 ∧ AtDepth t dPln .run ∧
      AtDepth t dHio .run) := by
  obtain ⟨up, done, rest⟩ := (s.withPerst false).bootStart_spec rfl
  have sel : ((s.withPerst false).bootStart.trdShow s).pwr.leadSel = true := by
    rw [State.trdShow_pwr]
    exact (Power.field_of_rest Power.leadSel (fun _ => rfl) rest).trans lead
  obtain ⟨pln, -, hio⟩ := State.risen_of_pwr (State.trdShow_pwr _ s) up
  refine .of (if_pos ⟨lead, main, step⟩) ⟨?_, ?_, pln, hio sel⟩
  · rw [State.trdShow_pwr]
    exact Power.field_of_rest Power.perst (fun _ => rfl) rest
  · rw [State.trdShow_pwr]
    exact done

end Supplies

/-- Settles O7: a stop takes every domain but AON OFF and loses HBM and the contexts, a start brings PLN, SEC and on a
lead HIO to RUN, and a lead under PERST_N waits between the two. -/
theorem suppliesGateDomains : Obligations.SuppliesGateDomains := by
  unfold Obligations.SuppliesGateDomains
  intro s
  exact ⟨runs_vinAonApply, runs_vinAonLoss, runs_vinMainLoss, runs_vinIoLoss,
    fun lead src aon main io trip perst => runs_mainPowerGood lead src aon main io trip perst,
    fun io aon main trip perst => runs_vinIoReturn io aon main trip perst,
    fun lead perst main step => runs_perstAssert lead perst main step,
    fun lead main step => runs_perstDeassert lead main step⟩

end Sys2Proof.Machine
end

section
/-!
Domains that sink and wake (R39 to R42, R392, R394).
-/

namespace Sys2Proof.Machine

/-! ### What waking, sinking and holding OFF do to the depths -/

section Depths
variable (s : State)

/-- A wake starts an exit; the depth is the same until it is done (R40). -/
theorem State.depth_wake (d i : Nat) : ((s.wake d).dom i).depth = (s.dom i).depth := by
  have mark : ((s.setDom d { s.dom d with exiting := true }).dom i).depth = (s.dom i).depth := by
    rw [State.dom_setDom]
    split
    next e => rw [e]
    next => rfl
  unfold State.wake
  dsimp only
  split
  · rfl
  · exact mark
  · exact mark
  · split
    · exact mark
    · rfl

/-- A wake leaves a domain at RUN as it is. -/
theorem State.dom_wake_run {i : Nat} (d : Nat) (run : (s.dom i).depth = .run) : (s.wake d).dom i = s.dom i := by
  have other (h : (s.dom d).depth ≠ .run) (x : Domain) : (s.setDom d x).dom i = s.dom i := by
    rw [State.dom_setDom, if_neg]
    rintro rfl
    exact h run
  unfold State.wake
  dsimp only
  split
  next => rfl
  next h => exact other (by simp [h]) _
  next h => exact other (by simp [h]) _
  next h =>
    split
    · exact other (by simp [h]) _
    · rfl

theorem State.dom_toDepth_ne {d i : Nat} (x : Depth) (h : i ≠ d) : (s.toDepth d x).dom i = s.dom i := by
  rw [State.dom_toDepth, if_neg h]

theorem State.dom_sinkTo_ne {d i : Nat} (x : Depth) (h : i ≠ d) : (s.sinkTo d x).dom i = s.dom i := by
  unfold State.sinkTo
  split
  · rfl
  · exact s.dom_toDepth_ne x h

theorem State.sinkTo_trd (d : Nat) (x : Depth) : (s.sinkTo d x).trd = s.trd := by
  unfold State.sinkTo
  split
  · rfl
  · exact s.toDepth_trd d x

/-- What a domain OFF loses stands outside the package. -/
theorem State.offLoss_pwr (d : Nat) : (s.offLoss d).pwr = s.pwr :=
  State.pwr_of_quiet (opt := false) (State.quiet_of_still (s.offLoss_still d))

/-- What no register, pool, context or byte of HBM touches, what a domain OFF loses leaves. -/
theorem State.offLoss_read {β : Type} (g : State → β) (clear : ∀ (t : State) f, g (t.clearRegs f) = g t)
    (pool : ∀ (t : State) c, g (t.poolRebuild c) = g t) (ctxs : ∀ (t : State) x, g { t with ctxs := x } = g t)
    (field : ∀ (t : State) a hi lo v, g (t.setRf a hi lo v) = g t)
    (mem : ∀ (t : State) a n, g (t.memClear a n) = g t) (d : Nat) : g (s.offLoss d) = g s := by
  unfold State.offLoss
  split
  · exact (pool _ _).trans (clear _ _)
  · split
    · exact (ctxs _ _).trans (clear _ _)
    · split
      · exact field _ _ _ _ _
      · split
        · exact mem _ _ _
        · rfl

theorem State.offLoss_host (d : Nat) : (s.offLoss d).host = s.host :=
  s.offLoss_read State.host State.clearRegs_host (fun _ _ => rfl) (fun _ _ => rfl) State.setRf_host State.memClear_host d

theorem State.offLoss_trd (d : Nat) : (s.offLoss d).trd = s.trd :=
  s.offLoss_read State.trd State.clearRegs_trd (fun _ _ => rfl) (fun _ _ => rfl) State.setRf_trd State.memClear_trd d

/-- What a domain OFF loses of registers stands in the blocks of the clusters. -/
theorem State.reg_offLoss (d : Nat) {a : Nat} (h : a < 0x800000 ∨ 0x1000000 ≤ a) : (s.offLoss d).reg a = s.reg a := by
  have clear (f : Nat → Bool) (out : f a = false) : (s.clearRegs f).reg a = s.reg a := by
    rw [State.reg_clearRegs, if_neg (by simp [out])]
  have pool (t : State) (c : Nat) : (t.poolRebuild c).reg a = t.reg a := rfl
  have ctxs (t : State) (x : Tab Ctx) : ({ t with ctxs := x } : State).reg a = t.reg a := rfl
  unfold State.offLoss
  split
  next sw =>
    have hc : d - dSw 0 < 8 := by simp only [dSw, dShu] at sw ⊢; omega
    refine (pool _ _).trans (clear _ ?_)
    simp only [Bool.or_eq_false_iff, Bool.and_eq_false_iff, decide_eq_false_iff_not]
    simp only [aApply, aBobErr, aDfLog, aShedErr, aShedQ, aC]
    omega
  next =>
    split
    next shu =>
      have hc : d - dShu 0 < 8 := by simp only [dShu, dReed] at shu ⊢; omega
      refine (ctxs _ _).trans (clear _ ?_)
      simp only [Bool.and_eq_false_iff, decide_eq_false_iff_not]
      simp only [aC]
      omega
    next =>
      split
      next reed =>
        have hc : d - dReed 0 < 8 := by simp only [dReed, dHbm] at reed ⊢; omega
        refine s.reg_setReg_ne _ ?_
        simp only [aReedErr, aC]
        omega
      next => split <;> rfl

theorem State.dom_offNow (d i : Nat) (k : OffKind) :
    (s.offNow d k).dom i = if i = d then ⟨.off, k, false⟩ else s.dom i := by
  rw [State.offNow, State.dom_toOff, State.dom, State.offLoss_pwr]
  rfl

end Depths

/-! ### The depth timers (R392) -/

section Timers
variable {s : State}

theorem runs_swGateTimer {c : Nat} (hc : c < 8) (run : (s.dom (dSw c)).depth = .run)
    (stay : (s.dom (dSw c)).exiting = false) (empty : s.sliceEmpty c = true) (role : s.role = 0) :
    Runs (.swGateTimer c) s (fun t => t.dom (dSw c) = ⟨if s.cluQuiet c then .retain else .gated, .idle, false⟩) := by
  refine .of (if_pos ⟨hc, by simp [run], by simp [stay], empty, by simp [role]⟩) ?_
  simp only [role]
  rw [State.dom_toDepth, if_pos rfl]
  simp

theorem runs_shuGateTimer {c : Nat} (hc : c < 8) (run : s.atDepth (dShu c) .run = true) (idle : s.shuBusy c = false) :
    Runs (.shuGateTimer c) s (fun t => AtDepth t (dShu c) .gated) := by
  refine .of (if_pos ⟨hc, run, by simp [idle]⟩) ?_
  have gated : ((s.toDepth (dShu c) .gated).dom (dShu c)).depth = .gated := by rw [State.dom_toDepth, if_pos rfl]
  split
  · exact (State.depth_wake _ _ _).trans gated
  · exact gated

/-- A timer that takes its domain to a depth. -/
theorem atDepth_toDepth (d : Nat) (x : Depth) : AtDepth (s.toDepth d x) d x := by
  unfold AtDepth
  rw [State.dom_toDepth, if_pos rfl]

theorem runs_shuRetainTimer {c : Nat} (hc : c < 8) (gated : s.dom (dShu c) = ⟨.gated, .idle, false⟩)
    (idle : s.shuBusy c = false) (empty : s.shuQueued c = false) :
    Runs (.shuRetainTimer c) s (fun t => AtDepth t (dShu c) .retain) :=
  .of (if_pos ⟨hc, by simp [State.atDepth, gated], by simp [gated], by simp [idle], by simp [empty]⟩)
    (atDepth_toDepth _ _)

theorem runs_reedGateTimer {c : Nat} (hc : c < 8) (run : s.atDepth (dReed c) .run = true)
    (idle : s.reedOpen c = false) : Runs (.reedGateTimer c) s (fun t => AtDepth t (dReed c) .gated) :=
  .of (if_pos ⟨hc, run, by simp [idle]⟩) (atDepth_toDepth _ _)

theorem runs_reedRetainTimer {c : Nat} (hc : c < 8) (gated : s.dom (dReed c) = ⟨.gated, .idle, false⟩)
    (idle : s.reedOpen c = false) : Runs (.reedRetainTimer c) s (fun t => AtDepth t (dReed c) .retain) :=
  .of (if_pos ⟨hc, .inr (by simp [State.atDepth, gated]), by simp [gated], by simp [idle]⟩) (atDepth_toDepth _ _)

theorem runs_hbmSrTimer {n : Nat} (hn : n < 8) (run : s.atDepth (dHbm n) .run = true) (role : s.role ≠ 2)
    (quiet : s.streaming = false) :
    Runs (.hbmSrTimer n) s (fun t => AtDepth t (dHbm n) .retain ∧ t.mem = s.mem) :=
  .of (if_pos ⟨hn, run, role, by simp [quiet]⟩) ⟨atDepth_toDepth _ _, s.toDepth_mem _ _⟩

end Timers

/-! ### The end of an exit (R40, R72) -/

section Exits
variable (s : State)

theorem State.pairFwd_still (p : Nat) : (s.pairFwd p).still false = s.still false := by
  have cfg (v : Nat) : (s.setRf (aPortCfg p) 4 4 v).still false = s.still false := s.setRf_still (kept_aPortCfg_false p)
  unfold State.pairFwd
  split
  · split
    · exact cfg 1
    · exact (State.pairEvent_still _ _).trans (cfg 0)
  · rfl

theorem State.pairRelease_still (p : Nat) : (s.pairRelease p).still false = s.still false := by
  unfold State.pairRelease
  split
  · exact s.setRf_still (kept_aPortCfg_false p)
  · rfl

theorem State.adopt_quiet {opt : Bool} (p : Nat) (m : List Byte) : (s.adopt p m).quiet opt = s.quiet opt :=
  s.updPort_quiet p _

theorem State.setOutq_still {opt : Bool} (p v : Nat) (l : List QPkt) : (s.setOutq p v l).still opt = s.still opt := rfl

/-- A link that resumes from HOLD with RESYNC leaves the package. -/
theorem State.resyncLink_quiet (p : Nat) (m : List Byte) : (s.resyncLink p m).quiet false = s.quiet false := by
  unfold State.resyncLink
  extract_lets s1 s2 s3 s4
  have h2 : s2.quiet false = s1.quiet false := by
    refine foldl_read (fun t : State => t.quiet false) (fun t v => ?_) _ _
    dsimp only
    split
    next k r _ =>
      split
      next =>
        have gone : ((t.setOutq p v r).pktGone k).quiet false = t.quiet false :=
          State.quiet_of_still ((State.pktGone_still _ k).trans (t.setOutq_still p v r))
        have rest : (if v = 6 then (t.setOutq p v r).pktGone k else ((t.setOutq p v r).pktGone k).freeRest k).quiet
            false = t.quiet false := by
          split
          · exact gone
          · exact (State.freeRest_quiet _ k).trans gone
        split
        · exact (State.quiet_of_still (State.copyGone_still _ _)).trans rest
        · exact rest
      next => rfl
    next => rfl
  calc ((s4.pairFwd p).uncut).quiet false
      = s4.quiet false := State.quiet_of_still ((State.uncut_still _).trans (s4.pairFwd_still p))
    _ = s3.quiet false := s3.updPort_quiet p _
    _ = s2.quiet false := s2.adopt_quiet p m
    _ = s1.quiet false := h2
    _ = s.quiet false := s.cutAll_quiet p

theorem State.dom_of_quiet {opt : Bool} {s t : State} (h : t.quiet opt = s.quiet opt) (d : Nat) : t.dom d = s.dom d := by
  unfold State.dom
  rw [State.pwr_of_quiet h]

theorem State.dom_wakes_run {d : Nat} {x : Domain} (a b : Nat) (h : s.dom d = x) (run : x.depth = .run) :
    ((s.wake a).wake b).dom d = x := by
  have first := (s.dom_wake_run a ((congrArg Domain.depth h).trans run)).trans h
  exact (State.dom_wake_run _ b ((congrArg Domain.depth first).trans run)).trans first

/-- A link that its domains let leave HOLD, or that wakes them, leaves a domain at RUN as it is. -/
theorem State.dom_holdExit_run {d : Nat} (p : Nat) (run : (s.dom d).depth = .run) : (s.holdExit p).dom d = s.dom d := by
  have wakes (a b : Nat) : ((s.wake a).wake b).dom d = s.dom d := s.dom_wakes_run a b rfl run
  unfold State.holdExit
  dsimp only
  split
  · rfl
  · split
    · split
      · rfl
      · split
        · exact State.dom_of_quiet (s.resyncLink_quiet p _) d
        · exact wakes _ _
    · split
      · rfl
      · split
        · exact State.dom_of_quiet (opt := false) ((State.quiet_of_still ((State.uncut_still _).trans
            (State.pairRelease_still _ p))).trans (s.setPort_quiet p _)) d
        · exact wakes _ _

theorem State.dom_holdExits_run {d : Nat} (ps : List Nat) (run : (s.dom d).depth = .run) :
    (ps.foldl (fun s p => s.holdExit p) s).dom d = s.dom d := by
  induction ps generalizing s with
  | nil => rfl
  | cons p r ih =>
    have first := s.dom_holdExit_run p run
    rw [List.foldl_cons, ih _ (by rw [first, run]), first]

theorem State.dom_hbmTrain_pass (n d : Nat) :
    (s.hbmTrain n true).dom d = if d = dHbm n then ⟨.run, .idle, false⟩ else s.dom d := by
  unfold State.hbmTrain State.dom
  rw [if_pos rfl, State.setRf_pwr, State.setRf_pwr]
  exact s.dom_toDepth (dHbm n) d .run

/-- The end of an exit leaves the domain at RUN. -/
theorem runs_domainExitDone {d : Nat} (hd : d < 36) (exiting : (s.dom d).exiting = true) (step : s.pwr.bootStep = 9) :
    Runs (.domainExitDone d) s (fun t => AtDepth t d .run ∧ (t.dom d).exiting = false) := by
  suffices h : ∃ t, execDomainExitDone d s = .next t ∧ t.dom d = ⟨.run, .idle, false⟩ by
    obtain ⟨t, run, dom⟩ := h
    exact .of run ⟨congrArg Domain.depth dom, congrArg Domain.exiting dom⟩
  generalize h : execDomainExitDone d s = out
  unfold execDomainExitDone at h
  extract_lets x sw reed hbm opt cart old fmRun s1 s2 k _ s3 _ s4 ps at h
  have noOpt : opt = false := by simp [opt, dOpt]; omega
  rw [if_neg (by simp [x, exiting, step, noOpt]; omega)] at h
  refine ⟨_, h.symm, ?_⟩
  have h1 : s1.dom d = ⟨.run, .idle, false⟩ := by
    unfold s1
    simp [State.dom_setDom_same, fmRun, noOpt]
  have h2 : s2.dom d = ⟨.run, .idle, false⟩ := by
    unfold s2
    split
    · rw [State.dom_hbmTrain_pass]
      split
      · rfl
      · exact h1
    · exact h1
  have h3 : s3 = s2 := if_neg (by simp [noOpt])
  have h4 : s4.dom d = ⟨.run, .idle, false⟩ := by
    unfold s4
    rw [h3]
    split
    · exact State.dom_wakes_run _ dPln dSec (show State.dom _ d = _ from h2) rfl
    · exact h2
  rw [State.trdShow_dom, State.dom_holdExits_run _ _ (by rw [h4]), h4]

end Exits

/-! ### Deep idle (R394) -/

section DeepIdle
variable (s : State)

/-- The state that deep idle starts from. -/
def State.withDeep (s : State) : State := { s with trd := { s.trd with deepIdle := true } }

/-- One cluster in deep idle. -/
def State.deepCluster (s : State) (c : Nat) : State :=
  (((if s.isOff (dShu c) then s else s.offNow (dShu c) .idle).sinkTo (dSw c) .retain).sinkTo
    (dReed c) .retain).sinkTo (dHbm c) .retain

/-- Every domain that deep idle takes down. -/
def State.deepened (s : State) : State :=
  (List.range 16).foldl (fun (s : State) k => s.sinkTo (dOpt k) .retain)
    ((List.range 8).foldl (fun (s : State) c => s.deepCluster c) ((s.withDeep.sinkTo dPln .gated).sinkTo dSec .gated))

theorem execDeepIdleEnter_eq (up : s.isOff dPln = false) (ok : s.deepOk = true) :
    execDeepIdleEnter s = .next (s.deepened.trdShow s) := by
  unfold execDeepIdleEnter State.deepened State.deepCluster State.withDeep
  rw [if_pos ⟨by simp [up], ok⟩]

theorem State.dom_deepCluster_pln (c : Nat) : (s.deepCluster c).dom dPln = s.dom dPln := by
  unfold State.deepCluster
  rw [State.dom_sinkTo_ne _ _ (by unfold dPln dHbm; omega), State.dom_sinkTo_ne _ _ (by unfold dPln dReed; omega),
    State.dom_sinkTo_ne _ _ (by unfold dPln dSw; omega)]
  split
  · rfl
  · rw [State.dom_offNow, if_neg (by unfold dPln dShu; omega)]

theorem State.deepCluster_trd (c : Nat) : (s.deepCluster c).trd = s.trd := by
  unfold State.deepCluster
  rw [State.sinkTo_trd, State.sinkTo_trd, State.sinkTo_trd]
  split
  · rfl
  · rw [State.offNow, State.toOff_trd, State.offLoss_trd]

theorem State.dom_deepened_pln (up : s.isOff dPln = false) : s.deepened.dom dPln = ⟨.gated, .idle, false⟩ := by
  have off : ¬ s.withDeep.isOff dPln = true := by
    rw [show s.withDeep.isOff dPln = s.isOff dPln from rfl, up]
    decide
  have first : (s.withDeep.sinkTo dPln .gated).dom dPln = ⟨.gated, .idle, false⟩ := by
    rw [State.sinkTo, if_neg off, State.dom_toDepth, if_pos rfl]
  unfold State.deepened
  rw [foldl_read (fun t : State => t.dom dPln) (fun t k => t.dom_sinkTo_ne _ (by unfold dPln dOpt; omega)),
    foldl_read (fun t : State => t.dom dPln) (fun t c => t.dom_deepCluster_pln c),
    State.dom_sinkTo_ne _ _ (by decide), first]

theorem State.deepened_trd : s.deepened.trd = s.withDeep.trd := by
  unfold State.deepened
  rw [foldl_read State.trd (fun t k => t.sinkTo_trd _ _), foldl_read State.trd (fun t c => t.deepCluster_trd c),
    State.sinkTo_trd, State.sinkTo_trd]

theorem runs_deepIdleEnter (up : s.isOff dPln = false) (ok : s.deepOk = true) :
    Runs .deepIdleEnter s (fun t => t.trd.deepIdle = true ∧ AtDepth t dPln .gated) := by
  refine .of (execDeepIdleEnter_eq s up ok) ⟨?_, ?_⟩
  · rw [State.trdShow_trd, State.deepened_trd]
    rfl
  · rw [AtDepth, State.trdShow_dom, s.dom_deepened_pln up]

end DeepIdle

/-! ### The fabric manager's commands (R45) -/

section Commands
variable {s : State} {tag d : Nat} {p : Prog}

theorem byteAt_ofNat {d k : Nat} (h : d < 52) : byteAt [BitVec.ofNat 8 d, BitVec.ofNat 8 k] 0 = d := by
  simp only [byteAt, List.getD_cons_zero, BitVec.toNat_ofNat]
  omega

/-- The payload of DOMAIN names a domain. -/
theorem domainOk_of_lt {k : Nat} (h : d < 52) (k03 : k = 0 ∨ k = 3) :
    domainOk [BitVec.ofNat 8 d, BitVec.ofNat 8 k] = true := by
  unfold domainOk
  rw [byteAt_ofNat h]
  obtain rfl | rfl := k03 <;> simp [byteAt, h]

/-- A command that waits is answered from every state with its host's record, its ring and its link. -/
theorem answered_of_waits {t : State} {op st : Nat} {b : List Byte} (w : Waits s tag op p) (host : t.host = s.host)
    (ring : ∀ a, a = aRing 1 + 8 ∨ a = aCuing ∨ a = aHioLink → t.reg a = s.reg a) :
    Answered (t.finish tag st b) p st b := by
  obtain ⟨-, found, origin, gone, up⟩ := w
  refine t.finish_host tag st b p (by rw [host]; exact found) origin gone ?_
  rw [← up]
  unfold State.ringUp State.ringOn State.ringFault State.mastering State.rf
  rw [host, ring _ (.inl rfl), ring _ (.inr (.inl rfl)), ring _ (.inr (.inr rfl))]

theorem State.dom_finish (s : State) (tag st i : Nat) (b : List Byte) : (s.finish tag st b).dom i = s.dom i := by
  unfold State.dom
  rw [State.finish_pwr]

theorem runs_domainRun (w : Waits s tag 0x0604 p) (hd : d < 52) (hio : d ≠ dHio)
    (payload : p.payload = [BitVec.ofNat 8 d, 0#8]) (held : s.dom d = ⟨.off, .held, false⟩) :
    Runs (.domainRun tag) s (fun t => t.dom d = ⟨.off, .held, true⟩ ∧ Answered t p stOk []) := by
  have run : execDomainRun tag s = .next ((s.setDom d ⟨.off, .held, true⟩).finish tag stOk []) := by
    unfold execDomainRun
    rw [w.1]
    dsimp only
    rw [payload, show byteAt [BitVec.ofNat 8 d, 0#8] 0 = d from byteAt_ofNat hd, held,
      if_neg (by simp [show domainOk [BitVec.ofNat 8 d, 0#8] = true from domainOk_of_lt hd (.inl rfl)]),
      if_neg (by simp [byteAt]), if_neg (by simp [hio]), if_pos rfl]
    simp
  refine .of run ⟨?_, answered_of_waits w rfl fun _ _ => rfl⟩
  rw [State.dom_finish, State.dom_setDom_same]

/-- DOMAIN with depth 3 is refused where the domain was stopped or does not meet its condition, and holds it OFF
otherwise. -/
theorem execDomainOff_eq (w : Waits s tag 0x0604 p) (hd : d < 52) (payload : p.payload = [BitVec.ofNat 8 d, 3#8]) :
    execDomainOff tag s =
      if ((s.dom d).depth = .off ∧ (s.dom d).off = .stop) ∨ !s.offOk d then .next (s.finish tag stState [])
      else .next ((s.offNow d .held).finish tag stOk []) := by
  unfold execDomainOff
  rw [w.1]
  dsimp only
  rw [payload, show byteAt [BitVec.ofNat 8 d, 3#8] 0 = d from byteAt_ofNat hd,
    if_neg (by simp [show domainOk [BitVec.ofNat 8 d, 3#8] = true from domainOk_of_lt hd (.inr rfl)]),
    if_neg (by simp [byteAt])]

theorem runs_domainOff_held (w : Waits s tag 0x0604 p) (hd : d < 52)
    (payload : p.payload = [BitVec.ofNat 8 d, 3#8]) (ok : s.offOk d = true) (on : (s.dom d).depth ≠ .off) :
    Runs (.domainOff tag) s (fun t => t.dom d = ⟨.off, .held, false⟩ ∧ Answered t p stOk []) := by
  refine .of ((execDomainOff_eq w hd payload).trans (if_neg (by simp [ok, on]))) ⟨?_, ?_⟩
  · rw [State.dom_finish, State.dom_offNow, if_pos rfl]
  · refine answered_of_waits w (s.offLoss_host d) fun a ha => ?_
    refine (State.toOff_reg _ _ _ _).trans (s.reg_offLoss d ?_)
    unfold aRing aCuing aHioLink at ha
    omega

theorem runs_domainOff_refused (w : Waits s tag 0x0604 p) (hd : d < 52)
    (payload : p.payload = [BitVec.ofNat 8 d, 3#8]) (ok : s.offOk d = false) :
    Runs (.domainOff tag) s (fun t => t.dom d = s.dom d ∧ Answered t p stState []) :=
  .of ((execDomainOff_eq w hd payload).trans (if_pos (by simp [ok])))
    ⟨s.dom_finish _ _ _ _, answered_of_waits w rfl fun _ _ => rfl⟩

end Commands

/-- Settles O13: a timer sets a depth, a wake keeps it, and only the end of the exit leaves RUN; the fabric manager's
command holds a domain OFF or starts its exit. -/
theorem domainsSinkAndWake : Obligations.DomainsSinkAndWake := by
  unfold Obligations.DomainsSinkAndWake
  intro s
  exact ⟨fun _ hc run stay empty role => runs_swGateTimer hc run stay empty role,
    fun _ hc run idle => runs_shuGateTimer hc run idle,
    fun _ hc gated idle empty => runs_shuRetainTimer hc gated idle empty,
    fun _ hc run idle => runs_reedGateTimer hc run idle,
    fun _ hc gated idle => runs_reedRetainTimer hc gated idle,
    fun _ hn run role quiet => runs_hbmSrTimer hn run role quiet,
    fun _ hd exiting step => runs_domainExitDone s hd exiting step,
    fun up ok => runs_deepIdleEnter s up ok,
    fun _ _ _ w hd =>
      ⟨fun hio payload held => runs_domainRun w hd hio payload held,
        fun payload ok on => runs_domainOff_held w hd payload ok on,
        fun payload ok => runs_domainOff_refused w hd payload ok⟩⟩

end Sys2Proof.Machine
end

section
/-!
The power-up sequence (R557, R558).
-/

namespace Sys2Proof.Machine

/-! ### Domains taken out of OFF -/

section Wakes
variable (s : State)

theorem State.dom_wake_ne {d i : Nat} (h : i ≠ d) : (s.wake d).dom i = s.dom i := by
  have mark (x : Domain) : (s.setDom d x).dom i = s.dom i := by rw [State.dom_setDom, if_neg h]
  unfold State.wake
  dsimp only
  split
  · rfl
  · exact mark _
  · exact mark _
  · split
    · exact mark _
    · rfl

/-- An idle domain that is OFF starts its exit. -/
theorem State.dom_wake_idle {d : Nat} {b : Bool} (h : s.dom d = ⟨.off, .idle, b⟩) :
    (s.wake d).dom d = ⟨.off, .idle, true⟩ := by
  unfold State.wake
  rw [h]
  dsimp only
  rw [if_pos rfl, State.dom_setDom_same]

/-- The slices and the reeds of the clusters named, taken out of OFF. -/
def State.wakeSlices (s : State) (cs : List Nat) : State :=
  cs.foldl (fun (s : State) c => (s.wake (dSw c)).wake (dReed c)) s

theorem State.wakeSlices_calm (cs : List Nat) : (s.wakeSlices cs).calm false = s.calm false :=
  foldl_read (State.calm false) (fun s _ => (State.wake_calm _ _).trans (s.wake_calm _)) _ _

theorem State.dom_wakeSlices {c : Nat} {b : Bool} {cs : List Nat} (hc : c < 8)
    (h : s.dom (dSw c) = ⟨.off, .idle, b⟩) (named : b = true ∨ c ∈ cs) :
    (s.wakeSlices cs).dom (dSw c) = ⟨.off, .idle, true⟩ := by
  induction cs generalizing s b with
  | nil =>
    obtain rfl | named := named
    · exact h
    · cases named
  | cons k r ih =>
    have reed (t : State) : (t.wake (dReed k)).dom (dSw c) = t.dom (dSw c) :=
      t.dom_wake_ne (by unfold dSw dReed; omega)
    by_cases e : c = k
    · subst e
      exact ih ((s.wake (dSw c)).wake (dReed c)) (b := true) ((reed _).trans (s.dom_wake_idle h)) (.inl rfl)
    · have other : (s.wake (dSw k)).dom (dSw c) = s.dom (dSw c) := s.dom_wake_ne (by unfold dSw; omega)
      refine ih ((s.wake (dSw k)).wake (dReed k)) ((reed _).trans (other.trans h)) (named.imp_right fun m => ?_)
      exact (List.mem_cons.mp m).resolve_left e

end Wakes

/-! ### Lock of the PLLs (R46, R557 step 4) -/

section Lock
variable {s : State}

theorem State.allLock_pwr (s : State) : s.allLock.pwr = s.pwr := by
  unfold State.allLock
  refine (foldl_read State.pwr (fun t k => ?_) _ _).trans (s.setRf_pwr _ _ _ _)
  split
  · rfl
  · exact (foldl_read State.pwr (fun t p => t.updPort_pwr p _) _ _).trans (t.setRf_pwr _ _ _ _)

theorem State.reg_withBoot (s : State) (n a : Nat) : (s.withBoot n).reg a = s.reg a := rfl

theorem execPllLockDone_eq (ok : s.refOk = true) (step : s.pwr.bootStep = 4) :
    execPllLockDone s = .next ((s.allLock.withBoot 5).wakeSlices (List.range 8)) := by
  unfold execPllLockDone State.wakeSlices State.withBoot
  rw [if_neg (by simp [ok, step])]
  simp only [step, if_true]

theorem runs_pllLockDone {c : Nat} (ok : s.refOk = true) (step : s.pwr.bootStep = 4) (hc : c < 8)
    (idle : s.dom (dSw c) = ⟨.off, .idle, false⟩) :
    Runs .pllLockDone s (fun t => t.rf aClk 31 16 = 0xFFFF ∧ t.pwr.bootStep = 5 ∧ (t.dom (dSw c)).exiting = true) := by
  have calm := (s.allLock.withBoot 5).wakeSlices_calm (List.range 8)
  have off : (s.allLock.withBoot 5).dom (dSw c) = ⟨.off, .idle, false⟩ := by
    rw [State.dom_withBoot, State.dom, s.allLock_pwr]
    exact idle
  refine .of (execPllLockDone_eq ok step) ⟨?_, ?_, ?_⟩
  · rw [State.rf_of_calm calm (kept_aClk false), State.rf, State.reg_withBoot]
    exact (State.rf_of_calm s.allLock_calm (kept_aClk false) 31 16).trans (s.rf_setRf_same _ _ _ _ (by omega))
  · rw [State.bootStep_of_calm calm, State.withBoot_bootStep]
  · rw [State.dom_wakeSlices _ hc off (.inr (List.mem_range.mpr hc))]

end Lock

/-! ### The SRAM test of a cluster (R557 step 5) -/

section Sram
variable {s : State} {c : Nat}

theorem State.carve_pwr (s : State) (c : Nat) : (s.carve c).pwr = s.pwr :=
  foldl_read State.pwr (fun t _ => t.setRf_pwr _ _ _ _) _ _

/-- A cluster whose SRAM test passed. -/
def State.sramPass (s : State) (c : Nat) : State := ((s.toDepth (dSw c) .run).toDepth (dReed c) .run).carve c

/-- A cluster whose SRAM test failed. -/
def State.sramBad (s : State) (c : Nat) : State :=
  ((({ s with pwr := { s.pwr with sramFail := putBits s.pwr.sramFail c c 1 } } : State).toOff (dSw c) .stop).toOff
    (dShu c) .stop).toOff (dReed c) .stop

/-- Once no slice is on its way any more, the first pair of stacks leaves OFF. -/
def State.sramDone (s : State) : State :=
  if (List.range 8).all (fun n => !(s.dom (dSw n)).exiting) then ((s.withBoot 6).wake (dHbm 0)).wake (dHbm 1) else s

theorem execClusterSramBistDone_eq (pass : Bool) (step : s.pwr.bootStep = 5) (hc : c < 8)
    (exiting : (s.dom (dSw c)).exiting = true) :
    execClusterSramBistDone c pass s = .next (if pass then s.sramPass c else s.sramBad c).sramDone := by
  unfold execClusterSramBistDone
  rw [if_pos ⟨step, hc, exiting⟩]
  unfold State.sramDone
  rw [apply_ite Host.Outcome.next]
  rfl

theorem State.dom_sramDone (s : State) {d : Nat} (h : d < 28) : s.sramDone.dom d = s.dom d := by
  unfold State.sramDone
  split
  · rw [State.dom_wake_ne _ (by unfold dHbm; omega), State.dom_wake_ne _ (by unfold dHbm; omega), State.dom_withBoot]
  · rfl

theorem State.withBoot_rest (s : State) (n : Nat) : (s.withBoot n).pwr.rest = s.pwr.rest := rfl

theorem State.sramDone_rest (s : State) : s.sramDone.pwr.rest = s.pwr.rest := by
  unfold State.sramDone
  split
  · exact (State.rest_of_calm (opt := false) ((State.wake_calm _ _).trans (State.wake_calm _ _))).trans
      (s.withBoot_rest 6)
  · rfl

theorem runs_clusterSramBistDone_pass (step : s.pwr.bootStep = 5) (hc : c < 8)
    (exiting : (s.dom (dSw c)).exiting = true) :
    Runs (.clusterSramBistDone c true) s (fun t => AtDepth t (dSw c) .run ∧ AtDepth t (dReed c) .run) := by
  have dom (d : Nat) : (s.sramPass c).dom d = ((s.toDepth (dSw c) .run).toDepth (dReed c) .run).dom d := by
    rw [State.dom, State.sramPass, State.carve_pwr]
    rfl
  refine .of (execClusterSramBistDone_eq true step hc exiting) ⟨?_, ?_⟩
  · rw [AtDepth, State.dom_sramDone _ (by unfold dSw; omega), if_pos rfl, dom, State.dom_toDepth,
      if_neg (by unfold dSw dReed; omega), State.dom_toDepth, if_pos rfl]
  · rw [AtDepth, State.dom_sramDone _ (by unfold dReed; omega), if_pos rfl, dom, State.dom_toDepth, if_pos rfl]

theorem runs_clusterSramBistDone_fail (step : s.pwr.bootStep = 5) (hc : c < 8)
    (exiting : (s.dom (dSw c)).exiting = true) :
    Runs (.clusterSramBistDone c false) s (fun t => t.dom (dSw c) = ⟨.off, .stop, false⟩ ∧
      t.dom (dShu c) = ⟨.off, .stop, false⟩ ∧ t.dom (dReed c) = ⟨.off, .stop, false⟩ ∧
      bit t.pwr.sramFail c = true) := by
  have fail : (s.sramBad c).sramDone.pwr.sramFail = (s.sramBad c).pwr.sramFail :=
    Power.field_of_rest Power.sramFail (fun _ => rfl) (State.sramDone_rest _)
  refine .of (execClusterSramBistDone_eq false step hc exiting) ?_
  rw [if_neg (by decide), State.dom_sramDone _ (by unfold dSw; omega), State.dom_sramDone _ (by unfold dShu; omega),
    State.dom_sramDone _ (by unfold dReed; omega), fail]
  refine ⟨?_, ?_, ?_, ?_⟩
  · rw [State.sramBad, State.dom_toOff, if_neg (by unfold dSw dReed; omega), State.dom_toOff,
      if_neg (by unfold dSw dShu; omega), State.dom_toOff, if_pos rfl]
  · rw [State.sramBad, State.dom_toOff, if_neg (by unfold dShu dReed; omega), State.dom_toOff, if_pos rfl]
  · rw [State.sramBad, State.dom_toOff, if_pos rfl]
  · change (putBits s.pwr.sramFail c c 1).testBit c = true
    simp [testBit_putBits]

end Sram

/-! ### The stacks, pair by pair (R557 step 7) -/

section Stacks
variable (s : State)

theorem State.rf_hbmTrain_same (n : Nat) (pass : Bool) : (s.hbmTrain n pass).rf (aHbm n) 31 31 = b2n pass := by
  unfold State.hbmTrain
  cases pass <;>
    exact (State.rf_setRf_other _ _ _ _ _ _ _ (by omega)).trans (State.rf_setRf_same _ _ _ _ _ (by omega))

theorem State.rf_hbmTrain_ne {n m : Nat} (pass : Bool) (h : m ≠ n) :
    (s.hbmTrain n pass).rf (aHbm m) 31 31 = s.rf (aHbm m) 31 31 := by
  have other : aHbm m ≠ aHbm n := by unfold aHbm; omega
  unfold State.hbmTrain
  cases pass <;> exact (State.rf_setRf_ne _ _ _ _ _ _ other).trans (State.rf_setRf_ne _ _ _ _ _ _ other)

/-- A stack whose training failed is held OFF. -/
theorem State.dom_hbmTrain_fail (n : Nat) : (s.hbmTrain n false).dom (dHbm n) = ⟨.off, .stop, false⟩ := by
  unfold State.hbmTrain
  rw [if_neg (by decide), State.dom, State.setRf_pwr, State.setRf_pwr]
  exact (State.dom_toOff _ (dHbm n) (dHbm n) .stop).trans (if_pos rfl)

theorem State.dom_hbmTrain_ne {n d : Nat} (pass : Bool) (h : d ≠ dHbm n) : (s.hbmTrain n pass).dom d = s.dom d := by
  unfold State.hbmTrain State.dom
  cases pass
  · rw [if_neg (by decide), State.setRf_pwr, State.setRf_pwr]
    exact (State.dom_toOff _ (dHbm n) d .stop).trans (if_neg h)
  · rw [if_pos rfl, State.setRf_pwr, State.setRf_pwr]
    exact (s.dom_toDepth (dHbm n) d .run).trans (if_neg h)

/-- Both stacks of a pair trained, and counted. -/
def State.pairTrained (s : State) (pair : Nat) (pass0 pass1 : Bool) : State :=
  let s := (s.hbmTrain (2 * pair) pass0).hbmTrain (2 * pair + 1) pass1
  { s with pwr := { s.pwr with hbmTrained := pair + 1 } }

/-- After the last pair the stacks wait in self-refresh, but for a standby's. -/
def State.stacksDone (s : State) : State :=
  if s.role = 2 then s else (List.range 8).foldl (fun (s : State) n => s.sinkTo (dHbm n) .retain) s

/-- The next pair of stacks leaves OFF. -/
def State.nextPair (s : State) (pair : Nat) : State := (s.wake (dHbm (2 * pair + 2))).wake (dHbm (2 * pair + 3))

theorem execHbmPairTrained_eq {pair : Nat} (pass0 pass1 : Bool) (step : s.pwr.bootStep = 6)
    (next : pair = s.pwr.hbmTrained) (hp : pair < 4) : execHbmPairTrained pair pass0 pass1 s =
      .next (if pair = 3 then ((s.pairTrained pair pass0 pass1).withBoot 7).stacksDone
        else (s.pairTrained pair pass0 pass1).nextPair pair) := by
  unfold execHbmPairTrained
  rw [if_pos ⟨step, next, hp⟩]
  unfold State.stacksDone State.nextPair State.pairTrained State.withBoot
  rw [apply_ite Host.Outcome.next]

/-- What no depth of a domain touches, the stacks' wait leaves. -/
theorem State.stacksDone_read {β : Type} (g : State → β) (sink : ∀ (t : State) d x, g (t.sinkTo d x) = g t) :
    g s.stacksDone = g s := by
  unfold State.stacksDone
  split
  · rfl
  · exact foldl_read g (fun t n => sink t _ _) _ _

theorem State.sinkTo_regs (d : Nat) (x : Depth) : (s.sinkTo d x).regs = s.regs := by
  unfold State.sinkTo
  split
  · rfl
  · exact s.toDepth_regs d x

/-- A domain that is OFF stays so. -/
theorem State.dom_sinkTo_off {d : Nat} {k : OffKind} {b : Bool} (i : Nat) (x : Depth)
    (h : s.dom d = ⟨.off, k, b⟩) : (s.sinkTo i x).dom d = s.dom d := by
  by_cases e : d = i
  · subst e
    rw [State.sinkTo, if_pos (s.isOff_of_dom h)]
  · exact s.dom_sinkTo_ne x e

theorem State.dom_stacksDone_off {d : Nat} {k : OffKind} {b : Bool} (h : s.dom d = ⟨.off, k, b⟩) :
    s.stacksDone.dom d = s.dom d := by
  unfold State.stacksDone
  split
  · rfl
  · refine List.foldlRecOn (motive := fun t : State => t.dom d = s.dom d) (List.range 8) _ rfl fun t ih n _ => ?_
    exact (t.dom_sinkTo_off (dHbm n) .retain (ih.trans h)).trans ih

theorem State.rf_of_regs {s t : State} (h : t.regs = s.regs) (a hi lo : Nat) : t.rf a hi lo = s.rf a hi lo := by
  unfold State.rf State.reg
  rw [h]

variable {s}

theorem runs_hbmPairTrained {pair : Nat} (pass0 pass1 : Bool) (step : s.pwr.bootStep = 6)
    (next : pair = s.pwr.hbmTrained) (hp : pair < 4) :
    Runs (.hbmPairTrained pair pass0 pass1) s (fun t => t.pwr.hbmTrained = pair + 1 ∧
      t.rf (aHbm (2 * pair)) 31 31 = b2n pass0 ∧ t.rf (aHbm (2 * pair + 1)) 31 31 = b2n pass1 ∧
      (pass0 = false → t.dom (dHbm (2 * pair)) = ⟨.off, .stop, false⟩) ∧ (pair = 3 → t.pwr.bootStep = 7)) := by
  have first : (s.pairTrained pair pass0 pass1).rf (aHbm (2 * pair)) 31 31 = b2n pass0 :=
    (State.rf_hbmTrain_ne _ pass1 (by omega)).trans (s.rf_hbmTrain_same _ pass0)
  have second : (s.pairTrained pair pass0 pass1).rf (aHbm (2 * pair + 1)) 31 31 = b2n pass1 :=
    State.rf_hbmTrain_same _ _ pass1
  have count : (s.pairTrained pair pass0 pass1).pwr.hbmTrained = pair + 1 := rfl
  have off (bad : pass0 = false) : (s.pairTrained pair pass0 pass1).dom (dHbm (2 * pair)) = ⟨.off, .stop, false⟩ := by
    subst bad
    exact (State.dom_hbmTrain_ne _ pass1 (by unfold dHbm; omega)).trans (s.dom_hbmTrain_fail _)
  refine .of (execHbmPairTrained_eq s pass0 pass1 step next hp) ?_
  generalize s.pairTrained pair pass0 pass1 = t at first second count off
  split
  next last =>
    have regs : (t.withBoot 7).stacksDone.regs = t.regs := State.stacksDone_read _ State.regs State.sinkTo_regs
    have rest := State.stacksDone_read (t.withBoot 7) (State.calm false) (fun u d x => u.sinkTo_calm d x)
    refine ⟨?_, (State.rf_of_regs regs _ _ _).trans first, (State.rf_of_regs regs _ _ _).trans second,
      fun bad => ?_, fun _ => State.bootStep_of_calm rest⟩
    · exact (Power.field_of_rest Power.hbmTrained (fun _ => rfl) (State.rest_of_calm rest)).trans count
    · exact ((t.withBoot 7).dom_stacksDone_off (off bad)).trans (off bad)
  next more =>
    have regs : (t.nextPair pair).regs = t.regs := (State.wake_regs _ _).trans (t.wake_regs _)
    have calm : (t.nextPair pair).calm false = t.calm false := (State.wake_calm _ _).trans (t.wake_calm _)
    refine ⟨?_, (State.rf_of_regs regs _ _ _).trans first, (State.rf_of_regs regs _ _ _).trans second,
      fun bad => ?_, fun last => absurd last more⟩
    · exact (Power.field_of_rest Power.hbmTrained (fun _ => rfl) (State.rest_of_calm calm)).trans count
    · rw [State.nextPair, State.dom_wake_ne _ (by unfold dHbm; omega), State.dom_wake_ne _ (by unfold dHbm; omega),
        off bad]

end Stacks

/-! ### What the firmware's start leaves (R557 step 8, R446) -/

section Start
variable (s : State)

theorem kept_false_of_le {a : Nat} (h : 0x400 < a) : kept false a = false := kept_false_eq_false (.inr h)

theorem State.compSet_still (id st slot svn : Nat) : (s.compSet id st slot svn).still false = s.still false := by
  have low : kept false (aComp id) = false := kept_false_of_le (by unfold aComp; omega)
  unfold State.compSet
  exact (State.setRf_still _ low).trans ((State.setRf_still _ low).trans (s.setRf_still low))

theorem State.compsRun_still : s.compsRun.still false = s.still false := by
  unfold State.compsRun
  extract_lets slot svn s1 s2
  have h1 : s1.still false = s.still false :=
    foldl_read (State.still false) (fun t i => t.compSet_still i 1 slot svn) _ _
  have h2 : s2.still false = s.still false := by
    unfold s2
    split
    · exact h1
    · exact (s1.compSet_still 12 1 slot svn).trans h1
  split
  · exact h2
  · refine (foldl_read (State.still false) (fun t i => ?_) _ _).trans h2
    split
    · rfl
    · exact t.compSet_still _ _ _ _

theorem State.withFw_still (x : Firmware) : ({ s with fw := x } : State).still false = s.still false := rfl

theorem State.mergeLog_still : s.mergeLog.still false = s.still false := by
  unfold State.mergeLog
  refine (foldl_read (State.still false) (fun t r => ?_) _ _).trans (s.withFw_still _)
  exact (State.setReg_still _ (kept_false_of_le (by unfold aLogHead; omega))).trans (t.withFw_still _)

theorem State.groupReserve_still (g win : Nat) : (s.groupReserve g win).still false = s.still false := by
  unfold State.groupReserve
  refine foldl_read (State.still false) (fun t c => ?_) _ _
  extract_lets t1
  have h1 : t1.still false = t.still false := t.setRf_still (kept_aGranules c)
  split
  · exact h1
  · cases e : t1.poolReserve c (.group g) (classFor (t1.resultBytes g)) win with
    | none => exact h1
    | some u => exact (State.poolReserve_still e).trans h1

theorem State.setGroup_still (g : Nat) (x : Group) : (s.setGroup g x).still false = s.still false := rfl

theorem State.groupArm_still (g win epoch : Nat) : (s.groupArm g win epoch).still false = s.still false := by
  have low (w : Nat) : kept false (aGroup g w) = false := kept_aGroup_false g w
  unfold State.groupArm
  extract_lets s1 s2
  have h1 : s1.still false = s.still false := (State.setRf_still _ (low 11)).trans ((State.setRf_still _ (low 11)).trans
    ((State.setRf_still _ (low 11)).trans (s.setRf_still (low 0))))
  exact (s2.setGroup_still g _).trans ((s1.setReg_still (low 12)).trans h1)

theorem State.loadGroup_still {gr : List Word × List Word × List Word} {g : Nat} {s t : State}
    (e : s.loadGroup gr = some (g, t)) : t.still false = s.still false := by
  unfold State.loadGroup at e
  extract_lets live at e
  split at e
  next g m p _ _ _ =>
    extract_lets s1 s2 s3 s4 at e
    have low (w : Nat) : kept false (aGroup g w) = false := kept_aGroup_false g w
    have h1 : s1.still false = s.still false :=
      foldl_read (State.still false) (fun t w => t.setReg_still (low w)) _ _
    have h2 : s2.still false = s1.still false := (State.setRf_still _ (low 6)).trans (s1.setRf_still (low 2))
    have h3 : s3.still false = s2.still false :=
      s2.setRegs_still _ fun i _ => kept_false_of_le (by unfold aMemberE; omega)
    have h4 : s4.still false = s3.still false := s3.setRegs_still _ fun i _ => kept_false_of_le (by unfold aPlan; omega)
    split at e
    split at e <;> cases e
    exact (State.groupArm_still _ _ _ _).trans ((s4.groupReserve_still g _).trans (h4.trans (h3.trans (h2.trans h1))))
  next => cases e

theorem State.loadGroups_still {l : List (List Word × List Word × List Word)} {gs : List Nat} {s t : State}
    (e : s.loadGroups l = some (gs, t)) : t.still false = s.still false := by
  -- The equations of `loadGroups` would evaluate `loadGroup`: open the recursion by hand.
  delta State.loadGroups State.loadGroups._f List.brecOn List.brecOn.go at e
  dsimp only at e
  induction l generalizing s gs with
  | nil => cases e; rfl
  | cons x r ih =>
    dsimp only at e
    generalize hu : s.loadGroup x = o at e
    split at e
    · cases e
    · obtain ⟨y, hy, e⟩ := Option.map_eq_some_iff.mp e
      cases e
      exact (ih hy).trans (State.loadGroup_still hu)

theorem State.loadQueues_still {i : Nat} {cs : List Nat} {l : List (Nat × Nat × Nat)} {qs : List Nat} {s t : State}
    (e : s.loadQueues i cs l = some (qs, t)) : t.still false = s.still false := by
  induction l generalizing s qs with
  | nil => cases e; rfl
  | cons x r ih =>
    unfold State.loadQueues at e
    split at e
    · cases e
    · split at e
      · cases e
      · obtain ⟨y, hy, e⟩ := Option.map_eq_some_iff.mp e
        cases e
        have low (q w : Nat) : kept false (aQueue 0 q w) = false := kept_false_of_le (by unfold aQueue aC; omega)
        exact (ih hy).trans ((State.setReg_still _ (low _ 1)).trans (s.setReg_still (low _ 0)))

theorem State.poolReserveAll_still {c : Nat} {h : Holder} {l : List (Nat × Nat)} {s t : State}
    (e : s.poolReserveAll c h l = some t) : t.still false = s.still false := by
  induction l generalizing s with
  | nil => cases e; rfl
  | cons x r ih =>
    unfold State.poolReserveAll at e
    split at e
    · cases e
    next u hu => exact (ih e).trans (State.poolReserve_still hu)

theorem State.loadBobs_still {i : Nat} {l : List (Nat × Nat)} {cs : List Nat} {s t : State}
    (e : s.loadBobs i l cs = some t) : t.still false = s.still false := by
  induction cs generalizing s with
  | nil => cases e; rfl
  | cons c r ih =>
    unfold State.loadBobs at e
    split at e
    · cases e
    next u hu => exact (ih e).trans (State.poolReserveAll_still hu)

theorem kept_aImage (i w : Nat) : kept false (aImage i w) = false := kept_false_of_le (by unfold aImage; omega)

theorem State.setSrc_still (w : Nat) (x : SrcWin) : (s.setSrc w x).still false = s.still false := rfl

theorem State.setImage_still (i : Nat) (x : Option Image) : (s.setImage i x).still false = s.still false := rfl

theorem State.withSeq_still (x : Seq) : ({ s with seq := x } : State).still false = s.still false := rfl

/-- An outcome that is either a refusal, with the state as it was, or another one with the same reading. -/
theorem read_ite_snd {β : Type} (g : State → β) {s : State} {c : Prop} [Decidable c] {x : Nat} {r : Nat × State}
    (h : g r.2 = g s) : g (if c then (x, s) else r).2 = g s := by
  split
  · rfl
  · exact h

theorem State.imgReserve_still (i eid : Nat) (b : List Byte) (lib : Option Nat) :
    (s.imgReserve i eid b lib).2.still false = s.still false := by
  unfold State.imgReserve
  refine read_ite_snd (State.still false) ?_
  extract_lets codeK dataK
  split
  · rfl
  · split
    · rfl
    · extract_lets rsv
      split
      · rfl
      next t ht =>
        extract_lets t1
        have h1 : t1.still false = s.still false :=
          (t.setReg_still (kept_aImage i 0)).trans (State.loadBobs_still ht)
        split
        · rfl
        next qs u hu =>
          refine read_ite_snd (State.still false) (read_ite_snd (State.still false) ?_)
          extract_lets t3
          have h3 : t3.still false = s.still false :=
            (foldl_read (State.still false) (fun t n => t.withSeq_still _) _ _).trans
              ((foldl_read (State.still false) (fun t w => t.setSrc_still w _) _ _).trans
                ((State.loadQueues_still hu).trans h1))
          split
          · rfl
          next gs v hv =>
            exact (State.setImage_still _ i _).trans ((State.setReg_still _ (kept_aImage i 3)).trans
              ((State.setReg_still _ (kept_aImage i 2)).trans ((v.setReg_still (kept_aImage i 1)).trans
                ((State.loadGroups_still hv).trans h3))))

theorem State.memPut_still (a : Nat) (l : List Byte) : (s.memPut a l).still false = s.still false := rfl

theorem State.memClear_still (a n : Nat) : (s.memClear a n).still false = s.still false := rfl

theorem State.imgCopy_still (i : Nat) : (s.imgCopy i).still false = s.still false := by
  unfold State.imgCopy
  split
  · rfl
  · exact (State.memPut_still _ _ _).trans ((State.memClear_still _ _ _).trans (s.memPut_still _ _))

theorem State.serviceLoad_still (lib : Nat) (b : List Byte) : (s.serviceLoad lib b).still false = s.still false := by
  unfold State.serviceLoad
  split
  · rfl
  next i _ =>
    have reserve := s.imgReserve_still i 0xFFFF b (some lib)
    generalize s.imgReserve i 0xFFFF b (some lib) = r at reserve
    obtain ⟨st, t⟩ := r
    dsimp only at reserve ⊢
    split
    · rfl
    · exact (State.setRf_still _ (kept_aImage i 0)).trans ((t.imgCopy_still i).trans reserve)

theorem State.portReserve_still {p : Nat} {s t : State} (e : s.portReserve p = some t) :
    t.still false = s.still false := by
  unfold State.portReserve at e
  refine List.foldlRecOn (motive := fun o => ∀ t, o = some t → State.still false t = s.still false) (List.range 7) _
    ?_ ?_ t e
  · rintro t ⟨⟩
    rfl
  · intro o ih v _ t e
    split at e
    · cases e
    · exact (State.poolReserve_still e).trans ((State.poolRelease_still _ _ _).trans (ih _ rfl))

theorem State.portUnreserve_still (p : Nat) : (s.portUnreserve p).still false = s.still false :=
  foldl_read (State.still false) (fun t v => t.portTrim_still p v) _ _

theorem State.portDark_calm (p : Nat) : (s.portDark p).calm false = s.calm false := by
  unfold State.portDark
  dsimp only
  split
  · rfl
  · split
    · exact (State.optFollow_calm _ _).trans (s.updPort_calm p _)
    · exact (State.optFollow_calm _ _).trans (s.portLeave_calm p 10 _ true true nofun)

/-- A write to a port's CFG leaves the clocks and the firmware's state. -/
theorem State.portCfgSet_calm (p : Nat) (v : Word) : (s.portCfgSet p v).2.calm false = s.calm false := by
  unfold State.portCfgSet
  iterate 8 refine read_ite_snd (State.calm false) ?_
  extract_lets res
  have reserve (t : State) (e : res = some t) : t.calm false = s.calm false := by
    unfold res at e
    split at e
    · exact State.calm_of_still (State.portReserve_still e)
    · cases e
      rfl
  clear_value res
  split
  · rfl
  next t =>
    extract_lets was s1 s2 s3 s4 s5
    have h1 : s1.calm false = t.calm false := by
      unfold s1
      split
      · exact t.portDark_calm p
      · rfl
    have h2 : s2.calm false = s1.calm false := State.calm_of_still (s1.setReg_still (kept_aPortCfg_false p))
    have h3 : s3.calm false = s2.calm false := by
      unfold s3
      split
      · exact State.calm_of_still (s2.portUnreserve_still p)
      · rfl
    have h4 : s4.calm false = s3.calm false := by
      unfold s4
      split
      · exact s3.wake_calm _
      · rfl
    have h5 : s5.calm false = s4.calm false := by
      unfold s5
      split
      · exact State.calm_of_still (s4.pairFwd_still p)
      · rfl
    exact (State.calm_of_still s5.uncut_still).trans
      (h5.trans (h4.trans (h3.trans (h2.trans (h1.trans (reserve t rfl))))))

theorem State.fwEvent_still (id : Nat) : (s.fwEvent id).still false = s.still false := s.event_still _ _ _

/-- The firmware's state as the start of the kernel sets it: RUN, or RECOVERY on the golden image, out of FALLBACK. -/
def State.fwStarted (s : State) : State :=
  ((s.withBoot 9).setRf aFw 31 30 (if s.rf (aComp 0) 28 27 = 2 then 3 else 0)).setRf aFw 29 29 0

theorem State.fwStarted_plinth : s.fwStarted.plinth = if s.rf (aComp 0) 28 27 = 2 then 3 else 0 := by
  rw [State.plinth, State.fwStarted, State.rf_setRf_other _ _ _ _ _ _ _ (by omega),
    State.rf_setRf_same _ _ _ _ _ (by omega)]
  split <;> rfl

theorem State.fwStarted_fallback : s.fwStarted.rf aFw 29 29 = 0 := by
  rw [State.fwStarted, State.rf_setRf_same _ _ _ _ _ (by omega), Nat.zero_mod]

theorem State.fwStarted_bootStep : s.fwStarted.pwr.bootStep = 9 := by
  rw [State.fwStarted, State.setRf_pwr, State.setRf_pwr, State.withBoot_bootStep]

/-- The rest of the start leaves the clocks and the firmware's state as `fwStarted` sets them. -/
theorem bootComplete_calm (step : s.pwr.bootStep = 7) (boot : s.plinth = 1) :
    Runs .bootComplete s (fun t => t.calm false = s.fwStarted.calm false) := by
  suffices h : ∃ t, execBootComplete s = .next t ∧ t.calm false = s.fwStarted.calm false by
    obtain ⟨t, run, same⟩ := h
    exact .of run same
  generalize h : execBootComplete s = out
  unfold execBootComplete at h
  rw [if_pos ⟨step, boot⟩] at h
  extract_lets golden _ s1 s2 s3 s4 s5 ids s6 _ s7 at h
  have h2 : s2.still false = s.fwStarted.still false :=
    (State.mergeLog_still _).trans (State.compsRun_still _)
  have h3 : s3.still false = s2.still false := by
    unfold s3
    split
    · exact (State.setRf_still _ kept_aDvt).trans (s2.putClaim_still 0)
    · rfl
  have h4 : s4.still false = s3.still false := by
    unfold s4
    split
    · rfl
    · refine foldl_read (State.still false) (fun t i => ?_) _ _
      split
      · rfl
      · exact t.serviceLoad_still _ _
  have h5 : s5.still false = s4.still false :=
    foldl_read (State.still false) (fun t _ => t.event_still _ _ _) _ _
  have h6 : s6.still false = s5.still false :=
    foldl_read (State.still false) (fun t i => t.setRf_still (kept_false_of_le (by unfold aComp; omega))) _ _
  have h7 : s7.still false = s5.still false := by
    unfold s7
    split
    · exact (State.fwEvent_still _ 0).trans ((State.setRf_still _ (kept_false_of_le (by unfold aAct; omega))).trans
        ((s6.withFw_still _).trans h6))
    · rfl
  refine ⟨_, h.symm, ?_⟩
  have start : s7.calm false = s.fwStarted.calm false :=
    State.calm_of_still (h7.trans (h5.trans (h4.trans (h3.trans h2))))
  split
  · exact (foldl_read (State.calm false) (fun t p => t.portCfgSet_calm p _) _ _).trans start
  · exact start

theorem runs_bootComplete (step : s.pwr.bootStep = 7) (boot : s.plinth = 1) :
    Runs .bootComplete s (fun t => t.pwr.bootStep = 9 ∧ t.plinth = (if s.rf (aComp 0) 28 27 = 2 then 3 else 0) ∧
      t.fallback = false) := by
  obtain ⟨t, run, same⟩ := bootComplete_calm s step boot
  have fw : kept false aFw = true := kept_iff.mpr (.inl (by unfold aFw; omega))
  refine .of run ⟨(State.bootStep_of_calm same).trans s.fwStarted_bootStep,
    (State.rf_of_calm same fw 31 30).trans s.fwStarted_plinth, decide_eq_false ?_⟩
  rw [State.rf_of_calm same fw, State.fwStarted_fallback]
  decide

end Start

/-- Settles O8: each step of the sequence sets its own step and registers, and wakes or holds OFF the domains it
names; what follows the firmware's start leaves the firmware's state. -/
theorem powerUpSequence : Obligations.PowerUpSequence := by
  unfold Obligations.PowerUpSequence
  intro s
  exact ⟨fun _ ok step hc idle => runs_pllLockDone ok step hc idle,
    fun _ step hc exiting =>
      ⟨runs_clusterSramBistDone_pass step hc exiting, runs_clusterSramBistDone_fail step hc exiting⟩,
    fun _ pass0 pass1 step next hp => runs_hbmPairTrained pass0 pass1 step next hp,
    fun step boot => runs_bootComplete s step boot⟩

end Sys2Proof.Machine
end

section
/-!
What is read back of a link frame (R55, R56): the bytes of a frame are its four slots, its trailer and the check code,
and the reader takes each field from the bits where the sender put it.
-/

namespace Sys2Proof.Machine

/-! ### The slots of a frame -/

/-- The code of a slot: its channel, 7 for an empty one. -/
def slotCode : Option (Nat × List Byte) → Nat
  | none => 7
  | some (v, _) => v

/-- The 64 bytes of a slot. -/
def slotPick : Option (Nat × List Byte) → List Byte
  | none => leBytes 64 0
  | some (_, d) => padTo 64 d

/-- A slot that R55 can lay out: empty, or one of the seven channels and a pick of 64 bytes. -/
def SlotOk (x : Option (Nat × List Byte)) : Prop := ∀ v d, x = some (v, d) → v < 7 ∧ d.length = 64

/-- The slot that a code and 64 bytes spell. -/
def slotOf (c : Nat) (d : List Byte) : Option (Nat × List Byte) := if c = 7 then none else some (c, d)

@[simp] theorem length_slotPick (x : Option (Nat × List Byte)) : (slotPick x).length = 64 := by
  cases x with
  | none => exact length_leBytes 64 0
  | some e => exact length_padTo 64 e.2

theorem slotCode_lt {x : Option (Nat × List Byte)} (h : SlotOk x) : slotCode x < 8 := by
  cases x with
  | none => decide
  | some e => exact Nat.lt_succ_of_lt (h e.1 e.2 rfl).1

/-- A slot is read back from its code and its bytes. -/
theorem slotOf_slotCode {x : Option (Nat × List Byte)} (h : SlotOk x) : slotOf (slotCode x) (slotPick x) = x := by
  cases x with
  | none => rfl
  | some e =>
    obtain ⟨hv, hd⟩ := h e.1 e.2 rfl
    have pad : padTo 64 e.2 = e.2 := by simp [padTo, hd, List.take_of_length_le]
    rw [slotOf, slotCode, slotPick, if_neg (by omega), pad]

theorem slotCodes_cons (x : Option (Nat × List Byte)) (r : List (Option (Nat × List Byte))) :
    slotCodes (x :: r) = slotCode x + 8 * slotCodes r := by
  cases x <;> rfl

theorem slotCodes_lt {l : List (Option (Nat × List Byte))} (h : ∀ x ∈ l, SlotOk x) : slotCodes l < 8 ^ l.length := by
  induction l with
  | nil => decide
  | cons x r ih =>
    have hx := slotCode_lt (h x List.mem_cons_self)
    have hr := ih fun y hy => h y (List.mem_cons_of_mem x hy)
    rw [slotCodes_cons, List.length_cons, Nat.pow_succ]
    omega

/-- Three bits of the slot codes are the code of one slot. -/
theorem slotCodes_div_mod {l : List (Option (Nat × List Byte))} (h : ∀ x ∈ l, SlotOk x) (i : Nat) (hi : i < l.length) :
    slotCodes l / 8 ^ i % 8 = slotCode l[i] := by
  induction l generalizing i with
  | nil => cases hi
  | cons x r ih =>
    have hx := slotCode_lt (h x List.mem_cons_self)
    rw [slotCodes_cons]
    cases i with
    | zero => simp; omega
    | succ i =>
      rw [List.getElem_cons_succ, ← ih (fun y hy => h y (List.mem_cons_of_mem x hy)) i (by simpa using hi),
        Nat.pow_succ', ← Nat.div_div_eq_div_mul]
      congr 2
      omega

/-- The bytes of one slot stand at 64 times its place. -/
theorem slice_flatMap_slotPick (l : List (Option (Nat × List Byte))) (tail : List Byte) (i : Nat) (hi : i < l.length) :
    slice (l.flatMap slotPick ++ tail) (64 * i) 64 = slotPick l[i] := by
  induction l generalizing i with
  | nil => cases hi
  | cons x r ih =>
    rw [List.flatMap_cons, List.append_assoc, slice]
    cases i with
    | zero => exact List.take_left' (length_slotPick x)
    | succ i =>
      rw [List.getElem_cons_succ, ← ih i (by simpa using hi), slice, show 64 * (i + 1) = 64 + 64 * i by omega,
        ← List.drop_drop, List.drop_left' (length_slotPick x)]

theorem length_flatMap_slotPick (l : List (Option (Nat × List Byte))) : (l.flatMap slotPick).length = 64 * l.length := by
  induction l with
  | nil => rfl
  | cons x r ih => rw [List.flatMap_cons, List.length_append, ih, length_slotPick, List.length_cons]; omega

/-! ### The trailer -/

/-- A credit slot as 19 bits carry it: the count modulo 2^16. -/
def carriedCredit (c : Option (Nat × Nat)) : Option (Nat × Nat) := c.map fun e => (e.1, e.2 % 65536)

/-- A credit slot that R55 can lay out: empty, or one of the seven channels with its count. -/
def CreditOk (c : Option (Nat × Nat)) : Prop := ∀ v n, c = some (v, n) → v < 7

theorem crCode_lt {c : Option (Nat × Nat)} (h : CreditOk c) : crCode c < 2 ^ 19 := by
  cases c with
  | none => decide
  | some e =>
    have := h e.1 e.2 rfl
    simp only [crCode]
    omega

theorem crOf_crCode {c : Option (Nat × Nat)} (h : CreditOk c) : crOf (crCode c) = carriedCredit c := by
  cases c with
  | none => rfl
  | some e =>
    have := h e.1 e.2 rfl
    have channel : (e.1 + 8 * (e.2 % 65536)) % 8 = e.1 := by omega
    have count : (e.1 + 8 * (e.2 % 65536)) / 8 % 65536 = e.2 % 65536 := by omega
    simp only [crOf, crCode, channel, count, carriedCredit, Option.map_some]
    exact if_neg (by omega)

/-- A frame that R55 can lay out, but for counters that it carries modulo 2^16. -/
structure Frame.Fits (f : Frame) : Prop where
  slots : f.slots.length = 4
  slot : ∀ x ∈ f.slots, SlotOk x
  ftype : f.ftype < 4
  crA : CreditOk f.crA
  crB : CreditOk f.crB

/-- What the trailer of a frame carries of it. -/
def Frame.carried (f : Frame) : Frame :=
  { f with fsn := f.fsn % 65536, asn := f.asn % 65536, crA := carriedCredit f.crA, crB := carriedCredit f.crB }

section Trailer
variable {f : Frame}

/-- The fields of the trailer, each at the bits of R55. -/
theorem Frame.bits_trailer (h : f.Fits) :
    bits f.trailer 15 0 = f.fsn % 65536 ∧ bits f.trailer 31 16 = f.asn % 65536 ∧
      bits f.trailer 43 32 = slotCodes f.slots ∧ bits f.trailer 45 44 = f.ftype ∧
      bits f.trailer 46 46 = b2n f.retry ∧ bits f.trailer 66 48 = crCode f.crA ∧
      bits f.trailer 85 67 = crCode f.crB ∧ f.trailer < 256 ^ 12 := by
  have slots : slotCodes f.slots < 4096 := by
    have := slotCodes_lt h.slot
    rwa [h.slots] at this
  have retry : b2n f.retry < 2 := by cases f.retry <;> decide
  have ftype := h.ftype
  have crA := crCode_lt h.crA
  have crB := crCode_lt h.crB
  simp only [Frame.trailer, bits, Nat.shiftRight_eq_div_pow]
  generalize slotCodes f.slots = c at *
  generalize b2n f.retry = r at *
  generalize crCode f.crA = a at *
  generalize crCode f.crB = b at *
  refine ⟨?_, ?_, ?_, ?_, ?_, ?_, ?_, ?_⟩ <;> omega

/-- The code of slot i stands in three bits of the slot codes. -/
theorem bits_slotCode (t : Nat) {i : Nat} (hi : i < 4) : bits t (34 + 3 * i) (32 + 3 * i) = bits t 43 32 / 8 ^ i % 8 := by
  simp only [bits, Nat.shiftRight_eq_div_pow]
  interval_cases i <;> omega

theorem bit_eq_bits (t i : Nat) : bit t i = decide (bits t i i = 1) := by
  rw [bit, bits, Nat.testBit_eq_decide_div_mod_eq, Nat.shiftRight_eq_div_pow, Nat.add_sub_cancel_left, Nat.pow_one]

end Trailer

/-! ### The bytes of a frame -/

/-- The part of a frame that its check code covers. -/
def Frame.body (f : Frame) : List Byte := f.slots.flatMap slotPick ++ leBytes 12 f.trailer

theorem Frame.bytes_eq (f : Frame) : f.bytes = f.body ++ leBytes 4 (crc32c f.body) := by
  have body : f.body = f.slots.flatMap (fun x => match x with | none => leBytes 64 0 | some (_, d) => padTo 64 d) ++
      leBytes 12 f.trailer :=
    congrArg (fun pick => f.slots.flatMap pick ++ leBytes 12 f.trailer) (funext fun x => by cases x <;> rfl)
  rw [body]
  rfl

theorem Frame.length_bytes {f : Frame} (h : f.slots.length = 4) : f.bytes.length = 272 := by
  rw [Frame.bytes_eq, Frame.body, List.length_append, List.length_append, length_flatMap_slotPick, length_leBytes,
    length_leBytes, h]

theorem frameOf_eq (b : List Byte) : frameOf b =
    { slots := (List.range 4).map fun i =>
        slotOf (bits (field b 256 12) (34 + 3 * i) (32 + 3 * i)) (slice b (64 * i) 64)
      ftype := bits (field b 256 12) 45 44, retry := bit (field b 256 12) 46, asn := bits (field b 256 12) 31 16
      fsn := bits (field b 256 12) 15 0, crA := crOf (bits (field b 256 12) 66 48)
      crB := crOf (bits (field b 256 12) 85 67) } := rfl

/-- The reader gives back what the trailer carries of a frame, and its slots. -/
theorem frameOf_bytes {f : Frame} (h : f.Fits) : frameOf f.bytes = f.carried := by
  obtain ⟨fsn, asn, codes, ftype, retry, crA, crB, lt⟩ := f.bits_trailer h
  have bytes : f.bytes = f.slots.flatMap slotPick ++ (leBytes 12 f.trailer ++ leBytes 4 (crc32c f.body)) := by
    rw [Frame.bytes_eq, Frame.body, List.append_assoc]
  have trailer : field f.bytes 256 12 = f.trailer := by
    rw [bytes, field_append _ _ _ _ _ (by rw [length_flatMap_slotPick, h.slots]), Nat.mod_eq_of_lt lt]
  have slots : (List.range 4).map (fun i => slotOf (bits f.trailer (34 + 3 * i) (32 + 3 * i)) (slice f.bytes (64 * i) 64)) =
      f.slots := by
    refine List.ext_getElem (by simp [h.slots]) fun i h4 hi => ?_
    have i4 : i < 4 := by simpa using h4
    rw [List.getElem_map, List.getElem_range, bits_slotCode _ i4, codes, slotCodes_div_mod h.slot i hi, bytes,
      slice_flatMap_slotPick _ _ i hi, slotOf_slotCode (h.slot _ (List.getElem_mem hi))]
  have flag : bit f.trailer 46 = f.retry := by
    rw [bit_eq_bits, retry]
    cases f.retry <;> rfl
  rw [frameOf_eq, trailer, slots, fsn, asn, ftype, crA, crB, flag, crOf_crCode h.crA, crOf_crCode h.crB, Frame.carried]

theorem Frame.fits_of_ok {f : Frame} (h : f.ok) : f.Fits := by
  obtain ⟨slots, slot, ftype, -, -, crA, crB⟩ := h
  exact ⟨slots, fun x hx v d e => slot v d (e ▸ hx), ftype, fun v n e => (crA v n e).1, fun v n e => (crB v n e).1⟩

theorem carriedCredit_eq {c : Option (Nat × Nat)} (h : ∀ v n, c = some (v, n) → v < 7 ∧ n < 65536) :
    carriedCredit c = c := by
  cases c with
  | none => rfl
  | some e => rw [carriedCredit, Option.map_some, Nat.mod_eq_of_lt (h e.1 e.2 rfl).2]

/-- A frame whose counters fit is carried whole. -/
theorem Frame.carried_eq {f : Frame} (h : f.ok) : f.carried = f := by
  obtain ⟨-, -, -, asn, fsn, crA, crB⟩ := h
  rw [Frame.carried, Nat.mod_eq_of_lt asn, Nat.mod_eq_of_lt fsn, carriedCredit_eq crA, carriedCredit_eq crB]

/-- Settles O18: the trailer's fields lie apart in its bits, the slots apart in the bytes, and the check code covers
both. -/
theorem linkFrameReadsBackAsSent : Obligations.LinkFrameReadsBackAsSent := by
  unfold Obligations.LinkFrameReadsBackAsSent
  intro f ok
  have fits := Frame.fits_of_ok ok
  exact ⟨Frame.length_bytes fits.slots, frameCrcOk_bytes f fits.slots, (frameOf_bytes fits).trans (Frame.carried_eq ok)⟩

end Sys2Proof.Machine
end

section
/-!
Three clauses of the link and of the crossbar that do not hold: RESYNC under CRIT (R423), WIDTH_ACK in a HOLD that a
RESYNC ends (R78), and a multicast packet on a port in quarantine (R140).
-/

namespace Sys2Proof.Machine

/-- Port 0 has the role EDGE and may run its four lanes; its engine and its cluster's slice are at RUN. -/
def edgeRunning : State :=
  ((State.reset.setReg (aPortCfg 0) 0xF001#32).toDepth (dSw 0) .run).toDepth (dOpt 0) .run

/-- A link in a lit FREEZE HOLD, with its transmitter on. -/
def litHold : Port :=
  { portReset with lstate := .hold, holdReason := .freeze, holdDepth := .lit, txOn := true, laneActive := 1 }

/-! ### RESYNC while CRIT holds the port (R78, R423) -/

/-- Port 0 is held, its peer takes RESYNC, and CRIT is on. -/
def critHeldPort : State :=
  { edgeRunning.setPort 0 { litHold with peerResync := true } with thm := { State.reset.thm with critOn := true } }

/-- A RESYNC with one lane, 50 µs of HOLD_LIMIT and 65 credits on every channel. -/
def resyncOneLane : List Byte :=
  leBytes 16 10 ++ leBytes 2 1 ++ leBytes 2 50 ++ (List.range 7).flatMap (fun _ => leBytes 2 65) ++ leBytes 30 0

/-- RESYNC waits for CRIT to end: the port stays in HOLD. -/
theorem execResync_critHeldPort :
    ∃ t, execResync 0 resyncOneLane critHeldPort = .next t ∧ (t.port 0).lstate = .hold := ⟨_, rfl, rfl⟩

/-- Refutes O21: the clause of RESYNC has no premise on CRIT, which holds an EDGE port too (R423). -/
theorem not_linkTrainsAndResyncs : ¬ Obligations.LinkTrainsAndResyncs := by
  unfold Obligations.LinkTrainsAndResyncs
  intro h
  obtain ⟨-, -, -, -, -, -, resync, -⟩ := h critHeldPort
  obtain ⟨t, run, active, -⟩ := resync 0 resyncOneLane (by decide) (by decide) rfl rfl rfl (.inl rfl) (by decide) rfl
    (by decide) (by decide)
  obtain ⟨u, held, hold⟩ := execResync_critHeldPort
  obtain rfl : u = t := Host.Outcome.next.inj (held.symm.trans run)
  rw [hold] at active
  cases active

/-! ### WIDTH_ACK in a HOLD that a RESYNC ends (R78, R79) -/

/-- Port 0 is held, has asked for lane 0 alone, and a RESYNC that names no lane waits for the end of the HOLD. -/
def resyncWaits : State :=
  edgeRunning.setPort 0 { litHold with widthReq := some (1, 1), resyncMsg := some [] }

/-- A WIDTH_ACK that accepts lane 0. -/
def widthAccepted : List Byte := leBytes 2 7 ++ leBytes 2 0x0101 ++ leBytes 60 0

theorem execWidthAck_resyncWaits :
    ∃ t, execWidthAck 0 widthAccepted resyncWaits = .next t ∧ (t.port 0).laneActive = 0 := ⟨_, rfl, rfl⟩

/-- Refutes O23: the clause of WIDTH_ACK has no premise on a RESYNC that waits, and with the width change over the
link is rebuilt on the lanes of both sides' parameters. -/
theorem not_lanesAndPacing : ¬ Obligations.LanesAndPacing := by
  unfold Obligations.LanesAndPacing
  intro h
  obtain ⟨-, widthAck, -⟩ := h resyncWaits
  obtain ⟨t, run, lanes, -⟩ := widthAck 0 widthAccepted 1 1 (by decide) rfl rfl rfl
  obtain ⟨u, rebuilt, none⟩ := execWidthAck_resyncWaits
  obtain rfl : u = t := Host.Outcome.next.inj (rebuilt.symm.trans run)
  rw [none] at lanes
  cases lanes

/-! ### A multicast packet on a port in quarantine (R60, R140) -/

/-- The header of a RESULT to multicast group 0 from EID 9. -/
def mcastResult : List Byte := (mkPkt 0 9 0x18 true false false 0 0 [] []).hdr

/-- That packet at the head of its queue at port 0. -/
def mcastPkt : QPkt :=
  { pid := 0, hdr := mcastResult, data := [], inq := 0, vc := 3, sent := 0, ageLim := 0, escLim := 0, checked := false
    mc := none, only := none }

/-- Port 0 is in quarantine, as after reset. -/
def mcastArrives : State := State.reset.setInq 0 3 [mcastPkt]

theorem execPktHeaderArrive_mcastArrives :
    ∃ t, execPktHeaderArrive 0 3 mcastArrives = .next t ∧ t.rf (aQuar 0) 31 16 = 0 := ⟨_, rfl, rfl⟩

/-- Refutes O25: the clause of the quarantine has no premise on MCAST, and a multicast packet that arrives is counted
in MCAST_IN before the quarantine is asked. -/
theorem not_packetsAreCheckedAndRouted : ¬ Obligations.PacketsAreCheckedAndRouted := by
  unfold Obligations.PacketsAreCheckedAndRouted
  intro h
  obtain ⟨header, -⟩ := h mcastArrives
  obtain ⟨-, passed⟩ := header 0 3 mcastPkt (by decide) rfl rfl rfl rfl rfl
  obtain ⟨quarantine, -⟩ := passed (by decide)
  obtain ⟨t, run, -, count, -⟩ := quarantine rfl rfl rfl
  obtain ⟨u, counted, none⟩ := execPktHeaderArrive_mcastArrives
  obtain rfl : u = t := Host.Outcome.next.inj (counted.symm.trans run)
  rw [none] at count
  exact absurd count (by decide)

end Sys2Proof.Machine
end

section
/-!
What the crossbar, the credit of a link and its control messages leave of a port: everything but what `Port.core` blanks.
So a port that has gone DOWN keeps its cause and its empty replay buffer whatever its flush moves, and picks that come or
go leave the numbers of frames and the replay buffer.
-/

namespace Sys2Proof.Machine

/-- A port without its credit, its control messages, and what it paces, receives and asks for. -/
def Port.core (x : Port) : Port :=
  { x with
    sCnt := [], fCnt := [], wrr := [], rx := [], holdReq := none, txOn := false, ctlTx := [], ctlWait := []
    ctlLast := [], ctlSeqTx := [], paceCong := [] }

section Core
variable {x y : Port} (h : x.core = y.core)
include h

theorem Port.lstate_of_core : x.lstate = y.lstate := (congrArg Port.lstate h :)
theorem Port.downCause_of_core : x.downCause = y.downCause := (congrArg Port.downCause h :)
theorem Port.replay_of_core : x.replay = y.replay := (congrArg Port.replay h :)
theorem Port.txFsn_of_core : x.txFsn = y.txFsn := (congrArg Port.txFsn h :)
theorem Port.rxFsn_of_core : x.rxFsn = y.rxFsn := (congrArg Port.rxFsn h :)
theorem Port.retryReq_of_core : x.retryReq = y.retryReq := (congrArg Port.retryReq h :)

end Core

/-- Those of every port. -/
def State.cores (s : State) (q : Nat) : Port := (s.port q).core

section Cores
variable (s : State)

theorem State.port_of_ports {s t : State} (h : t.ports = s.ports) (q : Nat) : t.port q = s.port q := by
  rw [State.port, h]
  rfl

theorem State.cores_of_ports {s t : State} (h : t.ports = s.ports) : t.cores = s.cores :=
  funext fun q => congrArg Port.core (State.port_of_ports h q)

theorem State.cores_setPort {p : Nat} {x : Port} (h : x.core = (s.port p).core) : (s.setPort p x).cores = s.cores := by
  funext q
  rw [State.cores, State.port_setPort]
  split
  next e => rw [h, e]; rfl
  next => rfl

theorem State.cores_updPort {p : Nat} {f : Port → Port} (h : ∀ x, (f x).core = x.core) :
    (s.updPort p f).cores = s.cores := s.cores_setPort (h _)

@[simp] theorem State.port_updPort_same (p : Nat) (f : Port → Port) : (s.updPort p f).port p = f (s.port p) :=
  s.port_setPort_same p _

theorem State.ctlSend_cores (p typ : Nat) (body : List Byte) : (s.ctlSend p typ body).cores = s.cores :=
  s.cores_updPort fun _ => rfl

theorem State.freeOf_cores (k : QPkt) (h n : Nat) : (s.freeOf k h n).cores = s.cores := by
  have picks : (s.picksOut k.inq k.vc n).cores = s.cores := State.cores_of_ports (s.picksOut_ports _ _ _)
  unfold State.freeOf
  dsimp only
  split
  · split
    · exact picks
    · rw [State.cores_updPort, picks]
      exact fun _ => rfl
  · rfl

theorem State.freeRest_cores (k : QPkt) : (s.freeRest k).cores = s.cores := s.freeOf_cores _ _ _

theorem State.pktGone_cores (k : QPkt) : (s.pktGone k).cores = s.cores := State.cores_of_ports (s.pktGone_ports k)

/-- Outside the VC 6 queue the picks of a packet leave its input buffer. -/
theorem State.ite_freeRest_cores (v : Nat) (k : QPkt) : (if v = 6 then s else s.freeRest k).cores = s.cores := by
  split
  · rfl
  · exact s.freeRest_cores k

theorem State.withdrawRest_cores (p : Nat) : (s.withdrawRest p).cores = s.cores := by
  refine s.cores_updPort fun x => ?_
  split <;> rfl

theorem State.wakes_cores (a b : Nat) : ((s.wake a).wake b).cores = s.cores :=
  State.cores_of_ports ((State.wake_ports _ _).trans (s.wake_ports _))

theorem State.toOut_cores (p v : Nat) (k : QPkt) : (s.toOut p v k).cores = s.cores :=
  (State.cores_of_ports (State.wake_ports _ _)).trans ((State.withdrawRest_cores _ p).trans (State.cores_of_ports rfl))

theorem State.wakePort_cores (p : Nat) : (s.wakePort p).cores = s.cores := by
  unfold State.wakePort
  extract_lets x s1 s2
  have h2 : s2.cores = s.cores := by
    unfold s2
    rw [State.cores_updPort]
    · exact s.wakes_cores _ _
    · exact fun _ => rfl
  split
  · rfl
  · split
    · exact h2
    · exact (s2.ctlSend_cores _ _ _).trans h2

/-! ### The flush of a port (R168, R169) -/

theorem State.cutRx_cores (p v : Nat) (r : RxPkt) : (s.cutRx p v r).cores = s.cores := by
  unfold State.cutRx
  split
  · split
    · split
      · rfl
      · exact State.cores_of_ports rfl
    · exact (State.ite_freeRest_cores _ _ _).trans (State.cores_of_ports rfl)
  · dsimp only
    split
    · exact (State.freeRest_cores _ _).trans (State.cores_of_ports rfl)
    · exact State.cores_of_ports rfl

theorem State.cutAll_cores (p : Nat) : (s.cutAll p).cores = s.cores := by
  unfold State.cutAll
  extract_lets s1 g
  have cut : s1.cores = s.cores := by
    refine foldl_read State.cores (fun s e => ?_) _ _
    split
    · exact s.cutRx_cores _ _ _
    · rfl
  exact ((State.cores_of_ports rfl).trans (s1.cores_updPort (f := fun x => { x with rx := [] }) fun _ => rfl)).trans cut

theorem State.flushOne_cores (v : Nat) (k : QPkt) : (s.flushOne v k).1.cores = s.cores := by
  have freed : (if v = 6 then (s.bump (aCongErr 0) 15 0 1).pktGone k
      else ((s.bump (aCongErr 0) 15 0 1).pktGone k).freeRest k).cores = s.cores :=
    (State.ite_freeRest_cores _ v k).trans ((State.pktGone_cores _ k).trans (State.cores_of_ports rfl))
  unfold State.flushOne
  extract_lets lost
  have hlost : (lost s).cores = s.cores := by
    unfold lost
    dsimp only
    split
    · split
      · exact (State.cores_of_ports (State.copyLost_ports _ _)).trans freed
      · exact (State.cores_of_ports (State.copyGone_ports _ _)).trans freed
    · exact freed
  split
  · exact hlost
  · split
    · exact hlost
    · exact State.cores_of_ports (State.evClu_ports _ _ _ _)

theorem State.rechoose_cores (k : QPkt) : (s.rechoose k).1.cores = s.cores := by
  unfold State.rechoose
  dsimp only
  split
  · split
    · exact s.toOut_cores _ _ _
    · rfl
  · split
    · rfl
    · split
      · exact s.toOut_cores _ _ _
      · split
        · exact s.wakePort_cores _
        · rfl
        · exact (State.cores_of_ports (State.copyLost_ports _ _)).trans
            ((State.freeRest_cores _ k).trans ((State.pktGone_cores _ k).trans (State.cores_of_ports rfl)))

theorem State.rechooseAll_cores (l : List QPkt) : (s.rechooseAll l).cores = s.cores := by
  unfold State.rechooseAll
  dsimp only
  rw [foldr_read State.cores fun s (k : QPkt) => State.cores_of_ports (s.setInq_ports k.inq k.vc _)]
  refine foldl_read (fun a : State × List QPkt => a.1.cores) (fun a k => ?_) _ _
  exact a.1.rechoose_cores k

theorem State.flushPort_cores (p : Nat) : (s.flushPort p).cores = s.cores := by
  unfold State.flushPort
  refine foldl_read State.cores (fun s v => (State.rechooseAll_cores _ _).trans ?_) _ _
  refine (foldl_read (fun a : State × List QPkt => a.1.cores) (fun a k => ?_) _ _).trans (State.cores_of_ports rfl)
  exact a.1.flushOne_cores v k

end Cores

/-! ### A port that goes DOWN (R72) -/

section Down
variable (s : State) (p : Nat)

theorem State.pairQuar_ports : (s.pairQuar p).ports = s.ports := by
  unfold State.pairQuar
  split <;> rfl

/-- A port that ends its link has no link, and shows its new state and the cause. -/
theorem State.port_portEnd (cause : Nat) (l : LState) (notice counts : Bool) :
    ∃ x : Port, (s.portEnd p cause l notice counts).port p =
      { x.linkless with lstate := l, downCause := cause, txOn := false } := by
  unfold State.portEnd
  extract_lets x s1 s2
  have ended : s2.port p = { (s1.port p).linkless with lstate := l, downCause := cause, txOn := false } :=
    (State.port_of_ports (State.pairQuar_ports _ p) p).trans (s1.port_updPort_same p _)
  refine ⟨s1.port p, ?_⟩
  split
  · exact (s2.bump_port _ _ _ _ p).trans ended
  · exact ended

/-- A port that leaves its link is in the state it was taken to, for the cause given, and has nothing to replay. -/
theorem State.portLeave_spec (cause : Nat) (l : LState) (notice counts : Bool) :
    ((s.portLeave p cause l notice counts).port p).lstate = l ∧
      ((s.portLeave p cause l notice counts).port p).downCause = cause ∧
      ((s.portLeave p cause l notice counts).port p).replay = [] := by
  obtain ⟨x, ended⟩ := s.port_portEnd p cause l notice counts
  unfold State.portLeave
  generalize s.portEnd p cause l notice counts = u at ended
  have cut : ((u.cutAll p).port p).core = (u.port p).core := congrFun (u.cutAll_cores p) p
  have flush : (u.portsFlush [p]).cores = ((u.cutAll p).updPort p Port.zeroed).cores := by
    unfold State.portsFlush
    simp only [List.foldl_cons, List.foldl_nil]
    rw [State.cores_of_ports (State.memberScan_ports _), State.flushPort_cores]
  have flushed : ((u.portsFlush [p]).port p).core = ((u.cutAll p).port p).zeroed.core :=
    (congrFun flush p).trans (congrArg Port.core ((u.cutAll p).port_updPort_same p _))
  rw [ended] at cut
  exact ⟨(Port.lstate_of_core flushed).trans (Port.lstate_of_core cut),
    (Port.downCause_of_core flushed).trans (Port.downCause_of_core cut), Port.replay_of_core flushed⟩

/-- The same of a port that enters DOWN. -/
theorem State.portDown_spec (cause : Nat) (up : (s.port p).lstate ≠ .dark ∧ (s.port p).lstate ≠ .down) :
    ((s.portDown p cause).port p).lstate = .down ∧ ((s.portDown p cause).port p).downCause = cause ∧
      ((s.portDown p cause).port p).replay = [] := by
  unfold State.portDown
  dsimp only
  rw [if_neg (by simp [up])]
  exact s.portLeave_spec p cause .down _ _

end Down

end Sys2Proof.Machine
end

section
/-!
Frames received and sent (R57 to R69, R110).
-/

namespace Sys2Proof.Machine

/-! ### Counters of the crossbar stand below the registers of the ports -/

section Counters
variable (s : State)

theorem State.reg_ctrAdd (n : Nat) {bank j v a : Nat} (far : bank + 0x200 ≤ a) (hj : j + n ≤ 32) :
    (State.ctrAdd n s (bank + 0x10 * j) v).reg a = s.reg a := by
  have set (t : State) (i v : Nat) (hi : i < 32) : (t.setCtr (bank + 0x10 * i) v).reg a = t.reg a := by
    unfold State.setCtr
    rw [State.reg_setRf_ne _ _ _ _ (by omega), State.reg_setReg_ne _ _ (by omega)]
  induction n generalizing s j v with
  | zero => rfl
  | succ n ih =>
    have carry (v : Nat) : (s.ctrOverflow (bank + 0x10 * j) v).1.reg a = s.reg a := by
      unfold State.ctrOverflow
      split
      · exact set _ _ _ (by omega)
      · split <;> exact (State.reg_setRf_ne _ _ _ _ (by omega)).trans (set _ _ _ (by omega))
    unfold State.ctrAdd
    dsimp only
    split
    · exact set _ _ _ (by omega)
    · split
      · rw [show bank + 0x10 * j + 0x10 = bank + 0x10 * (j + 1) by omega, ih _ (by omega), carry]
      · exact carry _

theorem State.reg_ctrBank {bank code n a : Nat} {q : Nat → Bool} (far : bank + 0x200 ≤ a) :
    (s.ctrBank bank 16 code n q).reg a = s.reg a := by
  refine List.foldlRecOn (motive := fun t : State => t.reg a = s.reg a) _ _ rfl fun t ht j hj => ?_
  rw [List.mem_range] at hj
  split
  · rw [State.reg_ctrAdd _ _ far (by omega), ht]
  · exact ht

theorem State.reg_evPick {p v code a : Nat} (hp : p < 128) (far : 0x01000000 ≤ a) :
    (s.evPick p v code).reg a = s.reg a :=
  s.reg_ctrBank (by unfold aSwx aC; omega)

theorem State.evPick_ports (p v code : Nat) : (s.evPick p v code).ports = s.ports := s.ctrBank_ports _ _ _ _ _

theorem State.evPick_sw (p v code : Nat) : (s.evPick p v code).sw = s.sw := s.ctrBank_sw _ _ _ _ _

end Counters

/-! ### The bytes that a port sends (R53, R55, R62) -/

section Send

/-- The stream of a lane is nothing but its bytes, its count, its scrambler and its levels. -/
theorem Port.period_rest (x : Port) (lanes : List Nat) :
    ∃ a b c d, x.period lanes = { x with cwBytes := a, cwCount := b, scramble := c, line := d } := by
  have lane : ∃ c d, (lanes.zip (List.range lanes.length)).foldl (fun (y : Port) e =>
      let (b, st) := scrambleBytes (laneBytes lanes.length e.2 x.cwBytes) (tabGet (fun _ => 0) y.scramble e.1)
      { y with
        scramble := tabSet (fun _ => 0) y.scramble e.1 st
        line := tabSet (fun _ => []) y.line e.1 (pam4 (codeword e.1 x.cwCount b)) }) x =
      { x with scramble := c, line := d } := by
    refine List.foldlRecOn (motive := fun y : Port => ∃ c d, y = { x with scramble := c, line := d }) _ _ ⟨_, _, rfl⟩ ?_
    rintro _ ⟨c, d, rfl⟩ e -
    exact ⟨_, _, rfl⟩
  obtain ⟨c, d, lane⟩ := lane
  unfold Port.period
  dsimp only at lane ⊢
  rw [lane]
  exact ⟨_, _, _, _, rfl⟩

theorem Port.stream_rest (x : Port) (lanes : List Nat) (frame : List Byte) :
    ∃ a b c d, x.stream lanes frame = { x with cwBytes := a, cwCount := b, scramble := c, line := d } := by
  unfold Port.stream
  split
  · exact ⟨_, _, _, _, rfl⟩
  · dsimp only
    split
    · obtain ⟨a, b, c, d, h⟩ := Port.period_rest { x with cwBytes := x.cwBytes ++ frame } lanes
      exact ⟨a, b, c, d, h⟩
    · exact ⟨_, _, _, _, rfl⟩

/-- The frame that a port forms of slots: its own flags, ASN and credit, and empty slots up to four. -/
def Port.framed (x : Port) (ftype fsn : Nat) (slots : List (Option (Nat × List Byte))) : Frame :=
  ⟨slots ++ List.replicate (4 - slots.length) none, ftype, x.retryReq, x.asn, fsn,
    some (x.crPtr % 7, x.fCnt.getD (x.crPtr % 7) 0), some ((x.crPtr + 1) % 7, x.fCnt.getD ((x.crPtr + 1) % 7) 0)⟩

theorem Port.framed_fits (x : Port) {ftype fsn : Nat} {slots : List (Option (Nat × List Byte))} (len : slots.length ≤ 4)
    (slot : ∀ y ∈ slots, SlotOk y) (ft : ftype < 4) : (x.framed ftype fsn slots).Fits where
  slots := by simp [Port.framed]; omega
  slot := by
    intro y hy
    rcases List.mem_append.mp hy with h | h
    · exact slot y h
    · rw [List.eq_of_mem_replicate h]
      exact nofun
  ftype := ft
  crA := by
    rintro v n ⟨⟩
    exact Nat.mod_lt _ (by decide)
  crB := by
    rintro v n ⟨⟩
    exact Nat.mod_lt _ (by decide)

/-- Sending a frame turns the credit pointer, keeps the frame's bytes and feeds the stream, and nothing else. -/
theorem State.port_sendFrame (s : State) (p ftype fsn : Nat) (slots : List (Option (Nat × List Byte))) :
    ∃ a b c d, (s.sendFrame p ftype fsn slots).port p =
      { s.port p with
        crPtr := ((s.port p).crPtr + 2) % 7, lastTx := ((s.port p).framed ftype fsn slots).bytes
        cwBytes := a, cwCount := b, scramble := c, line := d } := by
  unfold State.sendFrame
  rw [State.port_updPort_same]
  obtain ⟨a, b, c, d, h⟩ := Port.stream_rest { s.port p with
    crPtr := ((s.port p).crPtr + 2) % 7, lastTx := ((s.port p).framed ftype fsn slots).bytes } (s.lanesTx p)
    ((s.port p).framed ftype fsn slots).bytes
  exact ⟨a, b, c, d, h⟩

end Send

/-! ### The round of the channels (R110) -/

section Round

/-- The channel whose turn it is at a place of the round, and its weight. -/
def wrrChan (pos : Nat) : Nat := (wrrOrder.getD (pos % 7) (0, 0)).1
def wrrWeight (pos : Nat) : Nat := (wrrOrder.getD (pos % 7) (0, 0)).2

theorem wrrChan_lt (pos : Nat) : wrrChan pos < 7 := by
  have turns : ∀ i < 7, (wrrOrder.getD i (0, 0)).1 < 7 := by decide
  exact turns _ (Nat.mod_lt _ (by decide))

theorem wrrWeight_pos (pos : Nat) : 0 < wrrWeight pos := by
  have turns : ∀ i < 7, 0 < (wrrOrder.getD i (0, 0)).2 := by decide
  exact turns _ (Nat.mod_lt _ (by decide))

/-- Every channel has its turn within the seven places after a place. -/
theorem exists_wrrChan {v : Nat} (hv : v < 7) (pos : Nat) : ∃ n, 1 ≤ n ∧ n ≤ 7 ∧ wrrChan (pos + n) = v := by
  have turns : ∀ v < 7, ∀ i < 7, ∃ n, n < 8 ∧ 1 ≤ n ∧ (wrrOrder.getD ((i + n) % 7) (0, 0)).1 = v := by decide
  obtain ⟨n, n8, n1, chan⟩ := turns v hv (pos % 7) (Nat.mod_lt _ (by decide))
  refine ⟨n, n1, by omega, ?_⟩
  rwa [wrrChan, ← Nat.mod_add_mod]

variable (s : State) (p : Nat)

/-- A channel may send: a pick is ready and its credit lasts. -/
abbrev State.maySend (v : Nat) : Prop := s.pickReady p v = true ∧ (s.port p).hasCredit v = true

theorem State.wrrPick_succ (fuel pos left : Nat) : s.wrrPick p (fuel + 1) pos left =
    if 0 < left ∧ s.maySend p (wrrChan pos) then some (wrrChan pos, pos % 7, left - 1)
    else s.wrrPick p fuel (pos + 1) (wrrWeight (pos + 1)) := rfl

theorem State.wrrPick_none (idle : ∀ v < 7, s.pickReady p v = false) (fuel pos left : Nat) :
    s.wrrPick p fuel pos left = none := by
  induction fuel generalizing pos left with
  | zero => rfl
  | succ fuel ih => rw [State.wrrPick_succ, if_neg (by simp [idle _ (wrrChan_lt pos)]), ih]

/-- What the round chooses may send. -/
theorem State.maySend_of_wrrPick {fuel pos left v pos' left' : Nat}
    (h : s.wrrPick p fuel pos left = some (v, pos', left')) : s.maySend p v := by
  induction fuel generalizing pos left with
  | zero => cases h
  | succ fuel ih =>
    rw [State.wrrPick_succ] at h
    split at h
    next ok =>
      obtain ⟨rfl, -⟩ := Prod.mk.inj (Option.some.inj h)
      exact ok.2
    next => exact ih h

/-- A channel that may send is reached, with its whole weight where it is not the one whose turn runs. -/
theorem State.wrrPick_isSome {n fuel pos left : Nat} (may : s.maySend p (wrrChan (pos + n))) (hn : n < fuel)
    (turn : n = 0 → 0 < left) : (s.wrrPick p fuel pos left).isSome = true := by
  induction n generalizing fuel pos left with
  | zero =>
    obtain ⟨fuel, rfl⟩ := Nat.exists_eq_add_of_lt hn
    rw [Nat.zero_add, State.wrrPick_succ, if_pos ⟨turn rfl, may⟩]
    rfl
  | succ n ih =>
    obtain ⟨fuel, rfl⟩ : ∃ k, fuel = k + 1 := ⟨fuel - 1, by omega⟩
    rw [State.wrrPick_succ]
    split
    · rfl
    · refine ih (by rwa [show pos + 1 + n = pos + (n + 1) by omega]) (by omega) fun _ => wrrWeight_pos _

end Round

end Sys2Proof.Machine
end

section
/-!
What a port sends when it has nothing else under way, and what it does with a frame received (R56 to R67).
-/

namespace Sys2Proof.Machine

/-! ### Picks that leave and that arrive -/

section Picks
variable (s : State)

theorem State.evPick_cores (p v code : Nat) : (s.evPick p v code).cores = s.cores :=
  State.cores_of_ports (s.evPick_ports p v code)

theorem State.pktLeft_cores (p v : Nat) (k : QPkt) : (s.pktLeft p v k).cores = s.cores := by
  have gone : ((s.dropOut p v k.pid).pktGone k).cores = s.cores :=
    (State.pktGone_cores _ k).trans (State.cores_of_ports rfl)
  unfold State.pktLeft
  dsimp only
  split
  · exact (State.cores_of_ports (State.copyGone_ports _ _)).trans gone
  · exact gone

theorem State.pickSend_cores (p v : Nat) : (s.pickSend p v).2.cores = s.cores := by
  unfold State.pickSend
  split
  · rfl
  · extract_lets d s1 s2 s3
    have h2 : s2.cores = s.cores := by
      unfold s2
      rw [State.evPick_cores, State.cores_updPort]
      · exact State.cores_of_ports rfl
      · exact fun _ => rfl
    have h3 : s3.cores = s.cores := by
      unfold s3
      split
      · exact h2
      · exact (State.freeOf_cores _ _ _ _).trans h2
    dsimp only
    split
    · exact (State.pktLeft_cores _ _ _ _).trans h3
    · exact h3

/-- A channel with a pick ready sends one. -/
theorem State.pickSend_isSome {p v : Nat} (ready : s.pickReady p v = true) : (s.pickSend p v).1.isSome = true := by
  unfold State.pickReady at ready
  unfold State.pickSend
  split
  next none => simp [none] at ready
  next => rfl

/-- The turn of the round stands at a place, with so many picks left. -/
def State.turned (s : State) (p pos left : Nat) : State := s.updPort p fun x => { x with wrr := [pos, left] }

theorem State.fillSlots_none {p n : Nat} (none : s.wrrPick p 15 ((s.port p).wrr.getD 0 0) ((s.port p).wrr.getD 1 0) = none) :
    s.fillSlots p (n + 1) = ([], s) := by
  unfold State.fillSlots
  dsimp only
  rw [none]

/-- A chosen channel fills a slot with its pick. -/
theorem State.fillSlots_some {p n v pos left : Nat}
    (chosen : s.wrrPick p 15 ((s.port p).wrr.getD 0 0) ((s.port p).wrr.getD 1 0) = some (v, pos, left)) :
    ∃ d, s.fillSlots p (n + 1) =
      (some (v, d) :: (((s.turned p pos left).pickSend p v).2.fillSlots p n).1,
        (((s.turned p pos left).pickSend p v).2.fillSlots p n).2) := by
  have ready : (s.turned p pos left).pickReady p v = true := (s.maySend_of_wrrPick p chosen).1
  obtain ⟨d, sent⟩ := Option.isSome_iff_exists.mp (State.pickSend_isSome _ ready)
  refine ⟨d, ?_⟩
  conv_lhs => unfold State.fillSlots
  dsimp only
  rw [chosen]
  dsimp only
  rw [← State.turned, sent]

theorem State.fillSlots_cores (p n : Nat) : (s.fillSlots p n).2.cores = s.cores := by
  induction n generalizing s with
  | zero => rfl
  | succ n ih =>
    cases chosen : s.wrrPick p 15 ((s.port p).wrr.getD 0 0) ((s.port p).wrr.getD 1 0) with
    | none => rw [s.fillSlots_none chosen]
    | some c =>
      obtain ⟨v, pos, left⟩ := c
      obtain ⟨d, filled⟩ := s.fillSlots_some (n := n) chosen
      rw [filled]
      exact (ih _).trans ((State.pickSend_cores _ p v).trans (s.cores_updPort fun _ => rfl))

/-- Where a channel may send, the first slot is filled. -/
theorem State.fillSlots_ne_nil {p n v : Nat} (hv : v < 7) (may : s.maySend p v) : (s.fillSlots p (n + 1)).1 ≠ [] := by
  obtain ⟨k, k1, k7, chan⟩ := exists_wrrChan hv ((s.port p).wrr.getD 0 0)
  have found := s.wrrPick_isSome (fuel := 15) (left := (s.port p).wrr.getD 1 0) p (chan ▸ may) (by omega) (by omega)
  obtain ⟨⟨w, pos, left⟩, chosen⟩ := Option.isSome_iff_exists.mp found
  obtain ⟨d, filled⟩ := s.fillSlots_some (n := n) chosen
  rw [filled]
  exact List.cons_ne_nil _ _

theorem State.paceSend_cores (p mask rate : Nat) : (s.paceSend p mask rate).cores = s.cores := by
  unfold State.paceSend
  split
  · exact s.ctlSend_cores _ _ _
  · rfl

theorem State.setPace_cores {p : Nat} {f : Port → Port} (h : ∀ x, (f x).core = x.core) : (s.setPace p f).cores = s.cores := by
  unfold State.setPace
  extract_lets x y s1 moved rates
  exact (foldl_read State.cores (fun s r => s.paceSend_cores _ _ _) _ _).trans (s.cores_setPort (h _))

theorem State.paceCheck_cores (p v : Nat) : (s.paceCheck p v).cores = s.cores := by
  unfold State.paceCheck
  split
  · rfl
  · dsimp only
    split
    · exact s.setPace_cores fun _ => rfl
    · rfl

theorem State.pickArrive_cores (p v : Nat) (pick : List Byte) : (s.pickArrive p v pick).cores = s.cores := by
  have h1 : ((s.evPick p v 0x41).wake (dSw (p / 16))).cores = s.cores :=
    (State.cores_of_ports (State.wake_ports _ _)).trans (s.evPick_cores _ _ _)
  unfold State.pickArrive
  generalize (s.evPick p v 0x41).wake (dSw (p / 16)) = s1 at h1
  dsimp only
  split
  · rw [State.paceCheck_cores]
    split
    · exact (State.cores_of_ports rfl).trans h1
    · rw [State.cores_updPort]
      · exact (State.cores_of_ports rfl).trans h1
      · exact fun _ => rfl
  next r _ =>
    generalize (if r.left ≤ 1 then none else some (RxPkt.mk r.pid (r.left - 1))) = rest
    have h2 : (s1.updPort p fun x => { x with rx := tabSet (fun _ => none) x.rx v rest }).cores = s.cores := by
      rw [State.cores_updPort, h1]
      exact fun _ => rfl
    split
    · rw [State.paceCheck_cores]
      exact (State.cores_of_ports (State.pickIn_ports _ _ _)).trans h2
    · unfold State.freePick
      rw [State.cores_updPort]
      · exact (State.cores_of_ports rfl).trans h2
      · exact fun _ => rfl

end Picks

end Sys2Proof.Machine
end

section
/-!
LINK_FRAME_TX and LINK_FRAME_RX on an ACTIVE port (R56 to R67), and the link's timers (R67, R69).
-/

namespace Sys2Proof.Machine

/-! ### New frames (R56, R65) -/

section Transmit
variable {s : State} {p : Nat}

/-- An ACTIVE port with no control message and no replay in progress sends what is new. -/
theorem execLinkFrameTx_new (hp : p < 128) (active : (s.port p).lstate = .active) (lit : (s.port p).txOn = true)
    (quiet : (s.port p).ctlTx = []) (fresh : (s.port p).replayAt = none) :
    execLinkFrameTx p s = .next ((s.setPort p { s.port p with replayAt := none }).sendNew p) := by
  have next : (s.port p).replayNext = none := by simp [Port.replayNext, fresh, active]
  unfold execLinkFrameTx
  dsimp only
  rw [if_neg (by simp [hp, active, lit]), if_neg (by simp [quiet, active]), next]

theorem State.creditWaits_ports (s : State) (p : Nat) : (s.creditWaits p).ports = s.ports := by
  refine foldl_read State.ports (fun s v => ?_) _ _
  split
  · exact s.evPick_ports _ _ _
  · rfl

theorem State.creditWaits_sw (s : State) (p : Nat) : (s.creditWaits p).sw = s.sw := by
  refine foldl_read State.sw (fun s v => ?_) _ _
  split
  · exact s.evPick_sw _ _ _
  · rfl

theorem State.creditWaits_fwdEn (s : State) (hp : p < 128) : (s.creditWaits p).fwdEn p = s.fwdEn p := by
  refine foldl_read (fun t : State => t.fwdEn p) (fun s v => ?_) _ _
  split
  · rw [State.fwdEn, State.rf, s.reg_evPick hp (by unfold aPortCfg aP; omega)]
    rfl
  · rfl

theorem State.pickReady_creditWaits (s : State) (hp : p < 128) (v : Nat) :
    (s.creditWaits p).pickReady p v = s.pickReady p v := by
  unfold State.pickReady State.outq
  rw [s.creditWaits_fwdEn hp, s.creditWaits_sw]

theorem State.pickReady_of_outq_nil {v : Nat} (none : s.outq p v = []) : s.pickReady p v = false := by
  unfold State.pickReady
  rw [none, Bool.and_false]

/-- With no pick ready the frame is a CONTROL frame. -/
theorem State.sendNew_idle (hp : p < 128) (idle : ∀ v < 7, s.pickReady p v = false) :
    s.sendNew p = (s.creditWaits p).sendCtl p := by
  have none := State.wrrPick_none (s.creditWaits p) p fun v hv => (s.pickReady_creditWaits hp v).trans (idle v hv)
  unfold State.sendNew
  dsimp only
  rw [State.fillSlots_none _ (none _ _ _), if_pos rfl, ite_self]

/-- A CONTROL frame without messages is 272 bytes of FTYPE 1, and numbers and replay buffer stay. -/
theorem State.sendCtl_empty (quiet : (s.port p).ctlTx = []) :
    ((s.sendCtl p).port p).lastTx.length = 272 ∧ (frameOf ((s.sendCtl p).port p).lastTx).ftype = 1 ∧
      ((s.sendCtl p).port p).txFsn = (s.port p).txFsn ∧ ((s.sendCtl p).port p).replay = (s.port p).replay := by
  unfold State.sendCtl
  dsimp only
  rw [quiet]
  generalize sent : s.setPort p _ = t
  have same : t.port p = { s.port p with ctlTx := [] } := by rw [← sent, State.port_setPort_same, List.drop_nil]
  obtain ⟨a, b, c, d, port⟩ := t.port_sendFrame p 1 (s.port p).nextFsn []
  have fits := (t.port p).framed_fits (fsn := (s.port p).nextFsn) (slots := []) (by decide) nofun (by decide : 1 < 4)
  rw [List.take_nil, List.map_nil, port]
  refine ⟨Frame.length_bytes fits.slots, ?_, by rw [same], by rw [same]⟩
  change (frameOf ((t.port p).framed 1 (s.port p).nextFsn []).bytes).ftype = 1
  rw [frameOf_bytes fits]
  rfl

theorem runs_linkFrameTx_idle (hp : p < 128) (active : (s.port p).lstate = .active) (lit : (s.port p).txOn = true)
    (quiet : (s.port p).ctlTx = []) (fresh : (s.port p).replayAt = none) (idle : ∀ v ∈ List.range 7, s.outq p v = []) :
    Runs (.linkFrameTx p) s (fun t => (t.port p).lastTx.length = 272 ∧ (frameOf (t.port p).lastTx).ftype = 1 ∧
      (t.port p).txFsn = (s.port p).txFsn ∧ (t.port p).replay = (s.port p).replay) := by
  refine .of (execLinkFrameTx_new hp active lit quiet fresh) ?_
  generalize started : s.setPort p { s.port p with replayAt := none } = u
  have port : (u.creditWaits p).port p = { s.port p with replayAt := none } := by
    rw [State.port_of_ports (u.creditWaits_ports p), ← started, State.port_setPort_same]
  have none : ∀ v < 7, u.pickReady p v = false := fun v hv =>
    State.pickReady_of_outq_nil (by rw [← started]; exact idle v (List.mem_range.mpr hv))
  have sent := (u.creditWaits p).sendCtl_empty (p := p) (by rw [port]; exact quiet)
  rw [port] at sent
  rw [State.sendNew_idle hp none]
  exact sent

/-- A channel that may send fills the next DATA frame, which joins the replay buffer (R65). -/
theorem State.sendNew_data {v : Nat} (room : (s.port p).replay.length < 1024) (hp : p < 128) (hv : v < 7)
    (may : s.maySend p v) :
    ∃ slots, ((s.sendNew p).port p).txFsn = ((s.port p).txFsn + 1) % 65536 ∧
      ((s.sendNew p).port p).replay = (s.port p).replay ++ [⟨(s.port p).txFsn, slots⟩] := by
  have waited : (s.creditWaits p).port p = s.port p := State.port_of_ports (s.creditWaits_ports p) p
  have filled := State.fillSlots_ne_nil (s.creditWaits p) (p := p) (n := 3) hv
    ⟨(s.pickReady_creditWaits hp v).trans may.1, by rw [waited]; exact may.2⟩
  have core : (((s.creditWaits p).fillSlots p 4).2.port p).core = (s.port p).core :=
    (congrFun (State.fillSlots_cores _ p 4) p).trans (congrArg Port.core waited)
  have fsn := Port.txFsn_of_core core
  have replay := Port.replay_of_core core
  unfold State.sendNew
  dsimp only
  rw [if_neg (by rw [waited]; omega), if_neg filled]
  generalize ((s.creditWaits p).fillSlots p 4).2 = w at *
  generalize ((s.creditWaits p).fillSlots p 4).1 = slots at *
  obtain ⟨a, b, c, d, port⟩ := (w.setPort p { w.port p with
    txFsn := ((w.port p).txFsn + 1) % 65536, replay := (w.port p).replay ++ [⟨(w.port p).txFsn, slots⟩] }).port_sendFrame p 0
    (w.port p).txFsn slots
  rw [port, State.port_setPort_same]
  exact ⟨slots, by rw [fsn], by rw [fsn, replay]⟩

theorem runs_linkFrameTx_data (hp : p < 128) (active : (s.port p).lstate = .active) (lit : (s.port p).txOn = true)
    (quiet : (s.port p).ctlTx = []) (fresh : (s.port p).replayAt = none) (room : (s.port p).replay.length < 1024)
    (may : ∃ v ∈ List.range 7, s.pickReady p v = true ∧ (s.port p).hasCredit v = true) :
    Runs (.linkFrameTx p) s (fun t => (t.port p).txFsn = ((s.port p).txFsn + 1) % 65536 ∧
      (t.port p).replay.length = (s.port p).replay.length + 1 ∧
      (t.port p).replay.getLast?.map (fun f => f.fsn) = some (s.port p).txFsn) := by
  obtain ⟨v, hv, ready, credit⟩ := may
  refine .of (execLinkFrameTx_new hp active lit quiet fresh) ?_
  generalize started : s.setPort p { s.port p with replayAt := none } = u
  have port : u.port p = { s.port p with replayAt := none } := by rw [← started, State.port_setPort_same]
  obtain ⟨slots, fsn, replay⟩ := u.sendNew_data (p := p) (v := v) (by rw [port]; exact room) hp (List.mem_range.mp hv)
    ⟨by rw [← started]; exact ready, by rw [port]; exact credit⟩
  rw [port] at fsn replay
  refine ⟨fsn, ?_, ?_⟩
  · rw [replay, List.length_append]
    rfl
  · rw [replay, List.getLast?_concat]
    rfl

end Transmit

/-! ### Frames received (R57, R65 to R67) -/

section Receive
variable {s : State} {p : Nat}

/-- What a frame's credit and ASN change of a port: the peer's F, the replay buffer, and the count of replays.  Frames that
the ASN covers are not replayed. -/
theorem Port.acked_rest (x : Port) (f : Frame) :
    ∃ l r n a, ((x.credit f.crA).credit f.crB).acked f.asn =
      { x with fPeer := l, replay := r, retryRow := n, retryAsn := a } ∧
      ∀ g ∈ r, 32768 ≤ (f.asn + 65536 - g.fsn) % 65536 := by
  have credited (x : Port) (c : Option (Nat × Nat)) : ∃ l, x.credit c = { x with fPeer := l } := by
    cases c <;> exact ⟨_, rfl⟩
  obtain ⟨l, credit⟩ : ∃ l, (x.credit f.crA).credit f.crB = { x with fPeer := l } := by
    obtain ⟨l1, h1⟩ := credited x f.crA
    obtain ⟨l2, h2⟩ := credited (x.credit f.crA) f.crB
    exact ⟨l2, h2.trans (by rw [h1])⟩
  rw [credit]
  unfold Port.acked
  dsimp only
  split
  next all =>
    refine ⟨l, _, _, _, rfl, fun g hg => ?_⟩
    exact of_decide_eq_true (List.length_filter_eq_length_iff.mp all g hg)
  next =>
    exact ⟨l, _, 0, none, rfl, fun g hg => of_decide_eq_true (List.mem_filter.mp hg).2⟩

theorem execLinkFrameRx_bad {w : List Nat} {b : List Byte} (hp : p < 128) (active : (s.port p).lstate = .active)
    (lit : (s.port p).txOn = true) (bad : fecOk w = false ∨ frameCrcOk b = false) :
    execLinkFrameRx p w b s = .next (s.frameBad p) := by
  unfold execLinkFrameRx
  dsimp only
  rw [if_neg (by simp [hp, active, lit]), if_pos (by simpa using bad)]

theorem execLinkFrameRx_data {w : List Nat} {b : List Byte} (hp : p < 128) (active : (s.port p).lstate = .active)
    (lit : (s.port p).txOn = true) (fec : fecOk w = true) (crc : frameCrcOk b = true) (ftype : (frameOf b).ftype = 0) :
    execLinkFrameRx p w b s = .next (s.frameGood p (frameOf b)) := by
  unfold execLinkFrameRx
  dsimp only
  rw [if_neg (by simp [hp, active, lit]), if_neg (by simp [fec, crc]), if_neg (by omega)]

/-- The state once a frame's credit and ASN are taken. -/
def State.creditTaken (s : State) (p : Nat) (f : Frame) : State :=
  s.updPort p fun x => ((x.credit f.crA).credit f.crB).acked f.asn

/-- The picks of a frame's slots arrive one by one. -/
def State.picksArrive (s : State) (p : Nat) (slots : List (Option (Nat × List Byte))) : State :=
  slots.foldl (fun s c => match c with | some (v, d) => s.pickArrive p v d | none => s) s

theorem State.picksArrive_cores (s : State) (p : Nat) (slots : List (Option (Nat × List Byte))) :
    (s.picksArrive p slots).cores = s.cores := by
  refine foldl_read State.cores (fun s c => ?_) _ _
  rcases c with _ | ⟨v, d⟩
  · rfl
  · exact s.pickArrive_cores p v d

/-- A DATA frame that asks for no retry: in order, behind what was accepted, or ahead of it (R57, R66). -/
theorem State.frameGood_data {f : Frame} (active : (s.port p).lstate = .active) (ftype : f.ftype = 0)
    (retry : f.retry = false) : s.frameGood p f =
      if f.fsn = (s.port p).rxFsn then
        ((s.creditTaken p f).setPort p { (s.creditTaken p f).port p with
          rxFsn := ((s.port p).rxFsn + 1) % 65536, retryReq := false }).picksArrive p f.slots
      else if ((s.port p).rxFsn + 65536 - f.fsn) % 65536 ≤ 32768 then s.creditTaken p f
      else (s.creditTaken p f).setPort p { (s.creditTaken p f).port p with retryReq := true } := by
  obtain ⟨l, r, n, a, port, -⟩ := (s.port p).acked_rest f
  have taken : (s.creditTaken p f).port p = { s.port p with fPeer := l, replay := r, retryRow := n, retryAsn := a } :=
    (s.port_updPort_same p _).trans port
  have up : ((s.creditTaken p f).port p).lstate = .active := by rw [taken]; exact active
  have rxFsn : ((s.creditTaken p f).port p).rxFsn = (s.port p).rxFsn := by rw [taken]
  unfold State.frameGood
  dsimp only
  rw [retry, if_neg Bool.false_ne_true, ← State.creditTaken, if_neg (by simp [up]), if_pos ftype,
    if_neg (not_not_intro up), rxFsn]
  rfl

theorem runs_linkFrameRx_bad {w : List Nat} {b : List Byte} (hp : p < 128) (active : (s.port p).lstate = .active)
    (lit : (s.port p).txOn = true) (bad : fecOk w = false ∨ frameCrcOk b = false) :
    Runs (.linkFrameRx p w b) s (fun t => (t.port p).retryReq = true ∧ (t.port p).rxFsn = (s.port p).rxFsn ∧
      t.rf (aLinkErr p) 31 20 = satAdd 12 (s.rf (aLinkErr p) 31 20) 1 ∧ t.sw = s.sw ∧ t.mem = s.mem) := by
  have port : (s.frameBad p).port p = { s.port p with retryReq := true } :=
    (State.port_updPort_same _ p _).trans (by rw [State.bump_port])
  refine .of (execLinkFrameRx_bad hp active lit bad) ⟨by rw [port], by rw [port], ?_, ?_, ?_⟩ <;>
    unfold State.frameBad State.updPort
  · rw [State.setPort_rf, s.rf_bump_same _ 31 20 1 (by decide)]
  · rw [State.setPort_sw, State.bump_sw]
  · rw [State.setPort_mem, State.bump_mem]

theorem runs_linkFrameRx_inOrder {w : List Nat} {b : List Byte} (hp : p < 128) (active : (s.port p).lstate = .active)
    (lit : (s.port p).txOn = true) (fec : fecOk w = true) (crc : frameCrcOk b = true) (ftype : (frameOf b).ftype = 0)
    (retry : (frameOf b).retry = false) (order : (frameOf b).fsn = (s.port p).rxFsn) :
    Runs (.linkFrameRx p w b) s (fun t => (t.port p).rxFsn = ((s.port p).rxFsn + 1) % 65536 ∧
      (t.port p).retryReq = false ∧
      (∀ f ∈ (t.port p).replay, 32768 ≤ ((frameOf b).asn + 65536 - f.fsn) % 65536)) := by
  obtain ⟨l, r, n, a, acked, later⟩ := (s.port p).acked_rest (frameOf b)
  refine .of (execLinkFrameRx_data hp active lit fec crc ftype) ?_
  rw [State.frameGood_data active ftype retry, if_pos order]
  generalize counted : (s.creditTaken p (frameOf b)).setPort p _ = u
  have port : u.port p = { s.port p with
      fPeer := l, replay := r, retryRow := n, retryAsn := a, rxFsn := ((s.port p).rxFsn + 1) % 65536, retryReq := false } := by
    rw [← counted, State.port_setPort_same, State.creditTaken, State.port_updPort_same, acked]
  have core : ((u.picksArrive p (frameOf b).slots).port p).core = (u.port p).core :=
    congrFun (u.picksArrive_cores p _) p
  rw [port] at core
  refine ⟨Port.rxFsn_of_core core, Port.retryReq_of_core core, ?_⟩
  rw [Port.replay_of_core core]
  exact later

theorem runs_linkFrameRx_ahead {w : List Nat} {b : List Byte} (hp : p < 128) (active : (s.port p).lstate = .active)
    (lit : (s.port p).txOn = true) (fec : fecOk w = true) (crc : frameCrcOk b = true) (ftype : (frameOf b).ftype = 0)
    (retry : (frameOf b).retry = false) (order : (frameOf b).fsn ≠ (s.port p).rxFsn)
    (ahead : 32768 < ((s.port p).rxFsn + 65536 - (frameOf b).fsn) % 65536) :
    Runs (.linkFrameRx p w b) s (fun t => (t.port p).rxFsn = (s.port p).rxFsn ∧ (t.port p).retryReq = true ∧
      t.sw = s.sw) := by
  obtain ⟨l, r, n, a, acked, -⟩ := (s.port p).acked_rest (frameOf b)
  refine .of (execLinkFrameRx_data hp active lit fec crc ftype) ?_
  rw [State.frameGood_data active ftype retry, if_neg order, if_neg (by omega), State.port_setPort_same]
  refine ⟨?_, rfl, (State.setPort_sw _ _ _).trans (State.setPort_sw _ _ _)⟩
  rw [State.creditTaken, State.port_updPort_same, acked]

end Receive

/-! ### The link's timers (R67, R69) -/

section Timers
variable {s : State} {p : Nat}

theorem runs_retryTimerExpire : Runs (.retryTimerExpire p) s (fun t => (t.port p).retryAsn = none ∧
    (t.port p).lstate = (s.port p).lstate ∧ t.regs = s.regs) := by
  refine .of (t := s.updPort p fun x => { x with retryAsn := none }) rfl ⟨?_, ?_, State.setPort_regs _ _ _⟩ <;> rw [State.port_updPort_same]

theorem runs_linkSilentTimeout (active : (s.port p).lstate = .active) :
    Runs (.linkSilentTimeout p) s (fun t => (t.port p).lstate = .down ∧ (t.port p).downCause = 3 ∧
      (t.port p).replay = []) :=
  .of (congrArg Host.Outcome.next (if_pos active)) (s.portDown_spec p 3 (by simp [active]))

theorem runs_ctrlMsgResend {typ : Nat} {m : List Byte}
    (waits : (s.port p).ctlWait.find? (fun m => decide (byteAt m 0 = typ)) = some m) (queued : m ∉ (s.port p).ctlTx) :
    Runs (.ctrlMsgResend p typ) s (fun t => (t.port p).ctlTx = (s.port p).ctlTx ++ [m] ∧
      (t.port p).ctlWait = (s.port p).ctlWait) := by
  refine .of (t := s.setPort p { s.port p with ctlTx := (s.port p).ctlTx ++ [m] }) ?_ ?_
  · change execCtrlMsgResend p typ s = _
    unfold execCtrlMsgResend
    dsimp only
    rw [waits]
    exact congrArg Host.Outcome.next (if_neg (by simpa using queued))
  · rw [State.port_setPort_same]
    exact ⟨rfl, rfl⟩

end Timers

/-- Settles O20: the credit and ASN of a frame change neither the link's state nor the numbers of frames, and neither do
the picks that arrive or leave; a port that goes DOWN has nothing to replay whatever its flush moves. -/
theorem linkFramesInAndOut : Obligations.LinkFramesInAndOut := by
  unfold Obligations.LinkFramesInAndOut
  intro s
  refine ⟨fun p hp active lit => ⟨fun w b bad => runs_linkFrameRx_bad hp active lit bad, fun quiet fresh => ⟨?_, ?_⟩, ?_⟩,
    fun p => runs_retryTimerExpire, fun p _ active => runs_linkSilentTimeout active,
    fun p typ m waits queued => runs_ctrlMsgResend waits queued⟩
  · exact runs_linkFrameTx_idle hp active lit quiet fresh
  · exact runs_linkFrameTx_data hp active lit quiet fresh
  · intro w b fec crc ftype retry
    exact ⟨runs_linkFrameRx_inOrder hp active lit fec crc ftype retry,
      runs_linkFrameRx_ahead hp active lit fec crc ftype retry⟩

end Sys2Proof.Machine
end

section
/-!
HOLD and the exchange of control messages (R69, R72 to R77).
-/

namespace Sys2Proof.Machine

/-! ### Control messages (R69) -/

section Messages
variable {s : State} {p typ : Nat} {m : List Byte}

/-- A port that acts on a control message: the message is gone, and its SEQ is the last acted on. -/
def Port.ctlTaken (x : Port) (typ : Nat) (m : List Byte) : Port :=
  { x with ctlRx := delFirst (fun y => decide (y = m)) x.ctlRx
           ctlSeqRx := tabSet (fun _ => 256) x.ctlSeqRx typ (byteAt m 1) }

/-- The state once port p acts on a control message. -/
def State.ctlTaken (s : State) (p typ : Nat) (m : List Byte) : State :=
  (s.setPort p { s.port p with ctlRx := delFirst (fun y => decide (y = m)) (s.port p).ctlRx }).updPort p fun x =>
    { x with ctlSeqRx := tabSet (fun _ => 256) x.ctlSeqRx typ (byteAt m 1) }

theorem State.ctlTake_fresh (fresh : FreshCtl s p typ m) : s.ctlTake p typ m = some (s.ctlTaken p typ m) := by
  obtain ⟨type, length, seq⟩ := fresh
  unfold State.ctlTake State.ctlTaken
  dsimp only
  rw [if_neg (by simp [type, length]), if_neg seq]

@[simp] theorem State.port_ctlTaken (s : State) (p typ : Nat) (m : List Byte) :
    (s.ctlTaken p typ m).port p = (s.port p).ctlTaken typ m := by
  rw [State.ctlTaken, State.port_updPort_same, State.port_setPort_same, Port.ctlTaken]

/-- The message that a port forms of a TYPE and a body: its next SEQ of that TYPE between the two. -/
def Port.message (x : Port) (typ : Nat) (body : List Byte) : List Byte :=
  padTo 64 (leBytes 1 typ ++ leBytes 1 (tabGet (fun _ => 0) x.ctlSeqTx typ) ++ body)

theorem byteAt_message_type (x : Port) {typ : Nat} (body : List Byte) (h : typ < 256) :
    byteAt (x.message typ body) 0 = typ := by
  simp [Port.message, leBytes, padTo, byteAt, Nat.mod_eq_of_lt h]

theorem byteAt_message_body (x : Port) (typ : Nat) {body : List Byte} {b : Byte} (h : body.head? = some b) :
    byteAt (x.message typ body) 2 = b.toNat := by
  obtain ⟨rest, rfl⟩ := List.head?_eq_some_iff.mp h
  simp [Port.message, leBytes, padTo, byteAt]

/-- Sending a message queues it, notes it for its answer and for its repetition, and nothing else. -/
theorem State.port_ctlSend (s : State) (p typ : Nat) (body : List Byte) :
    ∃ l n w, (s.ctlSend p typ body).port p = { s.port p with
      ctlTx := (s.port p).ctlTx ++ [(s.port p).message typ body], ctlLast := l, ctlSeqTx := n, ctlWait := w } :=
  ⟨_, _, _, s.port_updPort_same p _⟩

/-- A message that is sent is queued, with its TYPE and the first byte of its body in their places. -/
theorem exists_ctlTx_ctlSend (s : State) (p : Nat) {typ : Nat} {body : List Byte} {b : Byte} (h : typ < 256)
    (first : body.head? = some b) :
    ∃ a ∈ ((s.ctlSend p typ body).port p).ctlTx, byteAt a 0 = typ ∧ byteAt a 2 = b.toNat := by
  obtain ⟨l, n, w, port⟩ := s.port_ctlSend p typ body
  rw [port]
  exact ⟨_, List.mem_append_right _ (List.mem_singleton.mpr rfl), byteAt_message_type _ _ h, byteAt_message_body _ _ first⟩

end Messages

/-! ### Entering HOLD (R72, step 4) -/

section Enter
variable (s : State) (p : Nat)

theorem State.evUnit_ports (c code unit n : Nat) : (s.evUnit c code unit n).ports = s.ports := by
  unfold State.evUnit
  split
  · rfl
  · exact s.ctrBank_ports _ _ _ _ _

/-- WIDTH goes out behind what is queued, and leaves the link as it is. -/
theorem State.port_sendWidth (mask cause : Nat) :
    ∃ tx l n w cw, (s.sendWidth p mask cause).port p = { s.port p with
      ctlTx := (s.port p).ctlTx ++ [tx], ctlLast := l, ctlSeqTx := n, ctlWait := w, widthAt := cw } := by
  obtain ⟨l, n, w, port⟩ := (s.draw.2.updPort p fun x => { x with widthAt := 17 * (s.draw.1 % 3855) }).port_ctlSend p 6
    (leBytes 1 mask ++ leBytes 1 cause ++ leBytes 2 (17 * (s.draw.1 % 3855)))
  rw [State.port_updPort_same] at port
  exact ⟨_, l, n, w, _, port⟩

/-- The width change that waits for the HOLD is asked for, if there is one. -/
def State.widthAsked (s : State) (p : Nat) : State :=
  match (s.port p).widthReq with
  | some (m, c) => s.sendWidth p m c
  | none => s

theorem State.port_widthAsked : ∃ tx l n w cw, (s.widthAsked p).port p = { s.port p with
    ctlTx := (s.port p).ctlTx ++ tx, ctlLast := l, ctlSeqTx := n, ctlWait := w, widthAt := cw } := by
  unfold State.widthAsked
  split
  next m c _ =>
    obtain ⟨tx, l, n, w, cw, port⟩ := s.port_sendWidth p m c
    exact ⟨[tx], l, n, w, cw, port⟩
  next => exact ⟨[], _, _, _, _, by rw [List.append_nil]⟩

/-- A port that enters HOLD has the reason and the depth given and asks for none; what is queued is still sent. -/
theorem State.enterHold_spec (r : HoldReason) (d : HoldDepth) (asn : Nat) :
    ((s.enterHold p r d asn).port p).lstate = .hold ∧ ((s.enterHold p r d asn).port p).holdReason = r ∧
      ((s.enterHold p r d asn).port p).holdDepth = d ∧ ((s.enterHold p r d asn).port p).holdReq = none ∧
      ∀ a ∈ (s.port p).ctlTx, a ∈ ((s.enterHold p r d asn).port p).ctlTx := by
  have eq : s.enterHold p r d asn = ((((s.updPort p fun x => { x.answered 3 with
      lstate := .hold, holdReason := r, holdDepth := d, holdAsn := asn, holdReq := none, gotAck := false
      txOn := decide (d = .lit), replayAt := none }).pairQuar p).evUnit (p / 16) 0x4B (p % 16) 1).widthAsked p).optFollow
      (p / 8) := rfl
  rw [eq, State.port_of_ports (State.optFollow_ports _ _)]
  obtain ⟨tx, l, n, w, cw, port⟩ := State.port_widthAsked (((s.updPort p fun x => { x.answered 3 with
      lstate := .hold, holdReason := r, holdDepth := d, holdAsn := asn, holdReq := none, gotAck := false
      txOn := decide (d = .lit), replayAt := none }).pairQuar p).evUnit (p / 16) 0x4B (p % 16) 1) p
  rw [State.port_of_ports ((State.evUnit_ports _ _ _ _ _).trans (State.pairQuar_ports _ p)), State.port_updPort_same] at port
  rw [port]
  exact ⟨rfl, rfl, rfl, rfl, fun a ha => List.mem_append_left _ ha⟩

end Enter

/-! ### HOLD_REQ and HOLD_ACK (R74, R75, R77) -/

section Requests
variable {s : State} {p : Nat} {m : List Byte}

theorem runs_holdReq_freeze (fresh : FreshCtl s p 3 m) (up : s.ctlDown (p / 16) = false)
    (active : (s.port p).lstate = .active) (freeze : byteAt m 2 = 1) (lit : byteAt m 3 = 0) :
    Runs (.holdReq p m) s (fun t => (t.port p).lstate = .hold ∧ (t.port p).holdReason = .freeze ∧
      (t.port p).holdDepth = .lit ∧ (∃ a ∈ (t.port p).ctlTx, byteAt a 0 = 4 ∧ byteAt a 2 = 1)) := by
  have run : execHoldReq p m s = .next (((s.ctlTaken p 3 m).ctlSend p 4
      (holdAckBody true .freeze .lit ((s.ctlTaken p 3 m).port p).asn)).enterHold p .freeze .lit (field m 4 2)) := by
    unfold execHoldReq
    rw [if_neg (by simp [up]), State.ctlTake_fresh fresh]
    dsimp only
    rw [if_pos (by rw [State.port_ctlTaken]; exact active), freeze, lit]
    have depths (d : HoldDepth) : (if holdDepthOf 0 = .lit ∨ d = .lit then HoldDepth.lit else .dark) = .lit := if_pos (.inl rfl)
    have reasons (r : HoldReason) : (if holdReasonOf 1 = .freeze ∨ r = .freeze then HoldReason.freeze else .rest) = .freeze :=
      if_pos (.inl rfl)
    cases ((s.ctlTaken p 3 m).port p).holdReq with
    | none => rfl
    | some e => simp only [depths, reasons]; rfl
  obtain ⟨a, mem, type, accepts⟩ := exists_ctlTx_ctlSend (s.ctlTaken p 3 m) p (typ := 4) (b := 1#8) (by decide)
    (rfl : (holdAckBody true .freeze .lit ((s.ctlTaken p 3 m).port p).asn).head? = _)
  generalize (s.ctlTaken p 3 m).ctlSend p 4 _ = u at run mem
  obtain ⟨hold, reason, depth, -, kept⟩ := u.enterHold_spec p .freeze .lit (field m 4 2)
  exact .of run ⟨hold, reason, depth, a, kept a mem, type, accepts⟩

theorem runs_holdReq_busy (fresh : FreshCtl s p 3 m) (up : s.ctlDown (p / 16) = false)
    (active : (s.port p).lstate = .active) (rest : byteAt m 2 = 0) (none : (s.port p).holdReq = none)
    (busy : s.portIdle p = false) :
    Runs (.holdReq p m) s (fun t => (t.port p).lstate = .active ∧
      (∃ a ∈ (t.port p).ctlTx, byteAt a 0 = 4 ∧ byteAt a 2 = 0)) := by
  have same : (s.ctlTaken p 3 m).portIdle p = s.portIdle p := by
    unfold State.portIdle
    rw [State.port_ctlTaken]
    rfl
  have run : execHoldReq p m s = .next ((s.ctlTaken p 3 m).ctlSend p 4
      (holdAckBody false .rest (holdDepthOf (byteAt m 3)) ((s.ctlTaken p 3 m).port p).asn)) := by
    unfold execHoldReq
    rw [if_neg (by simp [up]), State.ctlTake_fresh fresh]
    dsimp only
    rw [if_pos (by rw [State.port_ctlTaken]; exact active),
      show ((s.ctlTaken p 3 m).port p).holdReq = Option.none by rw [State.port_ctlTaken]; exact none, rest]
    exact if_neg (by simp [same, busy, holdReasonOf])
  obtain ⟨a, mem, type, refuses⟩ := exists_ctlTx_ctlSend (s.ctlTaken p 3 m) p (typ := 4) (b := 0#8) (by decide)
    (rfl : (holdAckBody false .rest (holdDepthOf (byteAt m 3)) ((s.ctlTaken p 3 m).port p).asn).head? = _)
  obtain ⟨l, n, w, port⟩ := (s.ctlTaken p 3 m).port_ctlSend p 4
    (holdAckBody false .rest (holdDepthOf (byteAt m 3)) ((s.ctlTaken p 3 m).port p).asn)
  refine .of run ⟨?_, a, mem, type, refuses⟩
  rw [port, State.port_ctlTaken]
  exact active

theorem runs_holdAck_accepts (fresh : FreshCtl s p 4 m) (active : (s.port p).lstate = .active)
    (asked : (s.port p).holdReq ≠ none) (accepts : byteAt m 2 = 1) :
    Runs (.holdAck p m) s (fun t => (t.port p).lstate = .hold ∧
      (t.port p).holdReason = holdReasonOf (byteAt m 3) ∧ (t.port p).holdDepth = holdDepthOf (byteAt m 4) ∧
      (t.port p).holdReq = none) := by
  obtain ⟨e, asked⟩ := Option.ne_none_iff_exists'.mp asked
  have run : execHoldAck p m s = .next ((s.ctlTaken p 4 m).enterHold p (holdReasonOf (byteAt m 3))
      (holdDepthOf (byteAt m 4)) (field m 5 2)) := by
    unfold execHoldAck
    rw [State.ctlTake_fresh fresh]
    dsimp only
    rw [show ((s.ctlTaken p 4 m).port p).holdReq = some e by rw [State.port_ctlTaken]; exact asked]
    dsimp only
    rw [if_neg (not_not_intro accepts), if_pos (by rw [State.port_ctlTaken]; exact active)]
  obtain ⟨hold, reason, depth, req, -⟩ := (s.ctlTaken p 4 m).enterHold_spec p (holdReasonOf (byteAt m 3))
    (holdDepthOf (byteAt m 4)) (field m 5 2)
  exact .of run ⟨hold, reason, depth, req⟩

theorem runs_holdAck_refuses (fresh : FreshCtl s p 4 m) (asked : (s.port p).holdReq ≠ none) (refuses : byteAt m 2 ≠ 1) :
    Runs (.holdAck p m) s (fun t => (t.port p).lstate = (s.port p).lstate ∧ (t.port p).holdReq = none) := by
  obtain ⟨e, asked⟩ := Option.ne_none_iff_exists'.mp asked
  have run : execHoldAck p m s = .next ((s.ctlTaken p 4 m).setPort p
      { ((s.ctlTaken p 4 m).port p).answered 3 with holdReq := none }) := by
    unfold execHoldAck
    rw [State.ctlTake_fresh fresh]
    dsimp only
    rw [show ((s.ctlTaken p 4 m).port p).holdReq = some e by rw [State.port_ctlTaken]; exact asked]
    dsimp only
    rw [if_pos refuses]
  refine .of run ?_
  rw [State.port_setPort_same, State.port_ctlTaken]
  exact ⟨rfl, rfl⟩

end Requests

/-! ### WAKE (R72, step 5; R76, R77) -/

section Wakes
variable {s : State} {p : Nat} {m : List Byte}

theorem State.pairRelease_ports (s : State) (p : Nat) : (s.pairRelease p).ports = s.ports := by
  unfold State.pairRelease
  split <;> rfl

/-- A WAKE that has been exchanged takes a held port whose domains are at RUN to ACTIVE, unless a width change for a
failed lane waits (R77). -/
theorem State.holdExit_awake (hold : (s.port p).lstate = .hold) (noResync : (s.port p).resyncMsg = none)
    (ack : (s.port p).gotAck = true) (noWidth : (s.port p).widthReq = none) (run : s.portDomsRun p = true) :
    ((s.holdExit p).port p).lstate = .active ∧ ((s.holdExit p).port p).holdReason = .none ∧
      ((s.holdExit p).port p).txOn = true := by
  unfold State.holdExit
  dsimp only
  rw [if_neg (not_not_intro hold), noResync]
  dsimp only
  rw [if_neg (by simp [ack, noWidth]), if_pos run, State.port_of_ports (State.uncut_ports _),
    State.port_of_ports (State.pairRelease_ports _ p), State.port_setPort_same]
  exact ⟨rfl, rfl, rfl⟩

theorem State.portDomsRun_of_pwr {s t : State} (h : t.pwr = s.pwr) (p : Nat) : t.portDomsRun p = s.portDomsRun p := by
  unfold State.portDomsRun State.atDepth State.dom
  rw [h]

/-- Domains at RUN are not moved by work that needs them. -/
theorem State.portDomsRun_wakes (run : s.portDomsRun p = true) (a b : Nat) :
    ((s.wake a).wake b).portDomsRun p = true := by
  simp only [State.portDomsRun, State.atDepth, Bool.and_eq_true, decide_eq_true_eq] at run ⊢
  exact ⟨by rw [s.dom_wakes_run a b rfl run.1]; exact run.1, by rw [s.dom_wakes_run a b rfl run.2]; exact run.2⟩

/-- A held port whose peer sends WAKE: its transmitter is on, and its own requests are over. -/
def Port.wakeHeard (x : Port) : Port :=
  { (x.answered 5).answered 3 with gotAck := true, txOn := true, holdReq := none }

/-- What `State.holdExit` asks of a port, once the port has heard WAKE. -/
theorem Port.wakeHeard_spec (x : Port) : x.wakeHeard.lstate = x.lstate ∧ x.wakeHeard.resyncMsg = x.resyncMsg ∧
    x.wakeHeard.gotAck = true ∧ x.wakeHeard.widthReq = x.widthReq := by
  simp only [Port.wakeHeard, Port.answered, and_self]

/-- The state once a held port heard WAKE: the port's domains are woken as well. -/
def State.wakeHeard (s : State) (p : Nat) : State :=
  let t := ((s.wake (dSw (p / 16))).wake (dOpt (p / 8))).updPort p Port.wakeHeard
  { t with trd := { t.trd with deepIdle := false } }

/-- WAKE is answered by one of the port's own, unless that has been sent. -/
def State.wakeAnswered (s : State) (p : Nat) (sent : Bool) : State :=
  if sent then s else (s.ctlSend p 5 (leBytes 1 0)).updPort p fun x => x.answered 5

theorem State.port_wakeHeard (s : State) (p : Nat) : (s.wakeHeard p).port p = (s.port p).wakeHeard := by
  have woken := State.port_of_ports ((State.wake_ports (s.wake (dSw (p / 16))) (dOpt (p / 8))).trans (s.wake_ports _)) p
  rw [← woken]
  exact State.port_updPort_same ((s.wake (dSw (p / 16))).wake (dOpt (p / 8))) p Port.wakeHeard

theorem State.wakeHeard_pwr (s : State) (p : Nat) :
    (s.wakeHeard p).pwr = ((s.wake (dSw (p / 16))).wake (dOpt (p / 8))).pwr := by
  unfold State.wakeHeard State.updPort
  dsimp only
  rw [State.setPort_pwr]

/-- An answer to WAKE leaves what `State.holdExit` asks of the port. -/
theorem State.wakeAnswered_spec (s : State) (p : Nat) (sent : Bool) :
    ((s.wakeAnswered p sent).port p).lstate = (s.port p).lstate ∧
      ((s.wakeAnswered p sent).port p).resyncMsg = (s.port p).resyncMsg ∧
      ((s.wakeAnswered p sent).port p).gotAck = (s.port p).gotAck ∧
      ((s.wakeAnswered p sent).port p).widthReq = (s.port p).widthReq := by
  unfold State.wakeAnswered
  split
  · exact ⟨rfl, rfl, rfl, rfl⟩
  · obtain ⟨l, n, w, port⟩ := s.port_ctlSend p 5 (leBytes 1 0)
    rw [State.port_updPort_same, port]
    simp only [Port.answered, and_self]

theorem State.wakeAnswered_pwr (s : State) (p : Nat) (sent : Bool) : (s.wakeAnswered p sent).pwr = s.pwr := by
  unfold State.wakeAnswered
  split <;> rfl

theorem runs_wake (fresh : FreshCtl s p 5 m) (noWidth : (s.port p).widthReq = none) (hold : (s.port p).lstate = .hold)
    (noResync : (s.port p).resyncMsg = none) (run : s.portDomsRun p = true) :
    Runs (.wake p m) s (fun t => (t.port p).lstate = .active ∧ (t.port p).holdReason = .none ∧
      (t.port p).txOn = true) := by
  have taken := s.port_ctlTaken p 5 m
  obtain ⟨sent, eq⟩ : ∃ sent, execWake p m s =
      .next ((((s.ctlTaken p 5 m).wakeHeard p).wakeAnswered p sent).holdExit p) := by
    refine ⟨((s.ctlTaken p 5 m).port p).ctlWait.any fun m => byteAt m 0 = 5, ?_⟩
    unfold execWake
    rw [State.ctlTake_fresh fresh]
    dsimp only
    rw [if_neg (by rw [taken]; simp [Port.ctlTaken, hold]), if_pos (by rw [taken]; simp [Port.ctlTaken, hold, noResync])]
    rfl
  obtain ⟨lstate, resync, ack, width⟩ := ((s.ctlTaken p 5 m).wakeHeard p).wakeAnswered_spec p sent
  obtain ⟨lstate', resync', ack', width'⟩ := ((s.port p).ctlTaken 5 m).wakeHeard_spec
  rw [State.port_wakeHeard, taken] at lstate resync ack width
  refine .of eq (State.holdExit_awake (lstate.trans (lstate'.trans hold)) (resync.trans (resync'.trans noResync))
    (ack.trans ack') (width.trans (width'.trans noWidth)) ?_)
  have kept : (s.ctlTaken p 5 m).portDomsRun p = s.portDomsRun p := State.portDomsRun_of_pwr rfl p
  rw [State.portDomsRun_of_pwr ((State.wakeAnswered_pwr _ p _).trans (State.wakeHeard_pwr _ p))]
  exact State.portDomsRun_wakes (kept.trans run) _ _

theorem State.exiting_wake (s : State) {d : Nat} (h : (s.dom d).depth = .retain) : ((s.wake d).dom d).exiting = true := by
  unfold State.wake
  dsimp only
  rw [h]
  dsimp only
  rw [State.dom_setDom_same]

theorem runs_wakePatternDetect (hp : p < 128) (hold : (s.port p).lstate = .hold) (dark : (s.port p).holdDepth = .dark)
    (engine : AtDepth s (dOpt (p / 8)) .retain) :
    Runs (.wakePatternDetect p) s (fun t => (t.port p).txOn = true ∧ (t.dom (dOpt (p / 8))).exiting = true ∧
      t.trd.deepIdle = false) := by
  generalize lit : ({ s with trd := { s.trd with deepIdle := false } } : State) = u
  have eq : execWakePatternDetect p s =
      .next (((((u.wake dPln).wake dSec).wake (dSw (p / 16))).wake (dOpt (p / 8))).updPort p fun x => { x with txOn := true }) := by
    unfold execWakePatternDetect
    dsimp only
    rw [if_pos ⟨hold, dark⟩, lit]
  have dom : (((u.wake dPln).wake dSec).wake (dSw (p / 16))).dom (dOpt (p / 8)) = s.dom (dOpt (p / 8)) := by
    rw [State.dom_wake_ne _ (by unfold dOpt dSw; omega), State.dom_wake_ne _ (by unfold dOpt dSec; omega),
      State.dom_wake_ne _ (by unfold dOpt dPln; omega), ← lit]
    rfl
  refine .of eq ⟨by rw [State.port_updPort_same], ?_, ?_⟩
  · exact State.exiting_wake _ (by rw [dom]; exact engine)
  · unfold State.updPort
    rw [State.setPort_trd, State.wake_trd, State.wake_trd, State.wake_trd, State.wake_trd, ← lit]

end Wakes

/-! ### The timers of HOLD and DOWN_NOTICE (R69, R72, R392) -/

section Limits
variable {s : State} {p : Nat} {m : List Byte}

theorem runs_holdLimitExpire (hold : (s.port p).lstate = .hold) (freeze : (s.port p).holdReason = .freeze)
    (asleep : (s.port p).gotAck = false) (noResync : (s.port p).resyncMsg = none) (plain : s.dovetailPort p = false) :
    Runs (.holdLimitExpire p) s (fun t => (t.port p).lstate = .down ∧ (t.port p).downCause = 4) := by
  have eq : execHoldLimitExpire p s = .next (s.portDown p 4) :=
    if_pos ⟨hold, freeze, by simp [asleep], by simp [noResync], by simp [plain]⟩
  obtain ⟨down, cause, -⟩ := s.portDown_spec p 4 (by simp [hold])
  exact .of eq ⟨down, cause⟩

theorem runs_downNotice (fresh : FreshCtl s p 9 m) (active : (s.port p).lstate = .active) :
    Runs (.downNotice p m) s (fun t => (t.port p).lstate = .down ∧ (t.port p).downCause = 5) := by
  have up : ((s.ctlTaken p 9 m).port p).lstate = .active := by rw [State.port_ctlTaken]; exact active
  have eq : execDownNotice p m s = .next ((s.ctlTaken p 9 m).portDown p 5) := by
    unfold execDownNotice
    rw [State.ctlTake_fresh fresh]
    exact congrArg Host.Outcome.next (if_pos (.inl up))
  obtain ⟨down, cause, -⟩ := (s.ctlTaken p 9 m).portDown_spec p 5 ⟨by rw [up]; nofun, by rw [up]; nofun⟩
  exact .of eq ⟨down, cause⟩

/-- A port that asks for a HOLD notes it and sends HOLD_REQ; its link stays as it is. -/
theorem State.askHold_spec (s : State) (p : Nat) (r : HoldReason) (d : HoldDepth) :
    ((s.askHold p r d).port p).holdReq = some (r, d) ∧ ((s.askHold p r d).port p).lstate = (s.port p).lstate ∧
      ∃ a ∈ ((s.askHold p r d).port p).ctlTx, byteAt a 0 = 3 ∧ byteAt a 2 = if r = .freeze then 1 else 0 := by
  unfold State.askHold
  dsimp only
  generalize noted : s.setPort p _ = t
  have port : t.port p = { s.port p with holdReq := some (r, d) } := by rw [← noted, State.port_setPort_same]
  obtain ⟨l, n, w, sent⟩ := t.port_ctlSend p 3 (leBytes 1 (if r = .freeze then 1 else 0) ++
    leBytes 1 (if d = .dark then 1 else 0) ++ leBytes 2 (s.port p).asn)
  obtain ⟨a, mem, type, reason⟩ := exists_ctlTx_ctlSend t p (typ := 3) (by decide)
    (rfl : (leBytes 1 (if r = .freeze then 1 else 0) ++ leBytes 1 (if d = .dark then 1 else 0) ++
      leBytes 2 (s.port p).asn).head? = some (BitVec.ofNat 8 (if r = .freeze then 1 else 0)))
  refine ⟨by rw [sent, port], by rw [sent, port], a, mem, type, reason.trans ?_⟩
  split <;> rfl

theorem runs_linkRestTimer (up : s.ctlDown (p / 16) = false) (active : (s.port p).lstate = .active)
    (role : s.portRole p = 1 ∨ s.portRole p = 2) (idle : s.portIdle p = true) (none : (s.port p).holdReq = none)
    (empty : ∀ v ∈ List.range 7, s.inq p v = []) :
    Runs (.linkRestTimer p) s (fun t => (t.port p).holdReq = some (.rest, .lit) ∧ (t.port p).lstate = .active ∧
      (∃ a ∈ (t.port p).ctlTx, byteAt a 0 = 3 ∧ byteAt a 2 = 0)) := by
  have eq : execLinkRestTimer p s = .next (s.askHold p .rest .lit) :=
    if_pos ⟨active, by simp [up], role, idle, by simp [none], by simpa using empty⟩
  obtain ⟨req, lstate, sent⟩ := s.askHold_spec p .rest .lit
  exact .of eq ⟨req, lstate.trans active, sent⟩

theorem runs_linkDarkTimer (hold : (s.port p).lstate = .hold) (rest : (s.port p).holdReason = .rest)
    (depth : (s.port p).holdDepth = .lit) (lit : (s.port p).txOn = true) (none : (s.port p).holdReq = none)
    (plain : s.dovetailPort p = false) (role : s.role ≠ 2) (timer : s.rf aDepthCfg 23 16 ≠ 0)
    (up : s.ctlDown (p / 16) = false) :
    Runs (.linkDarkTimer p) s (fun t => (t.port p).holdReq = some (.rest, .dark) ∧ (t.port p).lstate = .hold) := by
  have eq : execLinkDarkTimer p s = .next (s.askHold p .rest .dark) :=
    if_pos ⟨hold, rest, depth, lit, by simp [none], by simp [plain], role, by simp [up], timer⟩
  obtain ⟨req, lstate, -⟩ := s.askHold_spec p .rest .dark
  exact .of eq ⟨req, lstate.trans hold⟩

end Limits

/-- Settles O22: what an answer or a request queues is kept by the HOLD it leads to, domains at RUN stay there while a
link wakes, and a port that goes DOWN shows its cause whatever its flush moves. -/
theorem linkHoldsAndWakes : Obligations.LinkHoldsAndWakes := by
  unfold Obligations.LinkHoldsAndWakes
  intro s
  exact ⟨fun _ _ _ fresh up active => ⟨runs_holdReq_freeze fresh up active, runs_holdReq_busy fresh up active⟩,
    fun _ _ _ fresh active asked accepts => runs_holdAck_accepts fresh active asked accepts,
    fun _ _ _ fresh noWidth _ hold noResync run _ => runs_wake fresh noWidth hold noResync run,
    fun _ hp hold dark engine => runs_wakePatternDetect hp hold dark engine,
    fun _ _ hold freeze asleep noResync plain => runs_holdLimitExpire hold freeze asleep noResync plain,
    fun _ _ _ fresh active => runs_downNotice fresh active,
    fun _ up active role idle none empty => runs_linkRestTimer up active role idle none empty,
    fun _ hold rest depth lit none plain role timer up => runs_linkDarkTimer hold rest depth lit none plain role timer up,
    fun _ _ fresh asked refuses => runs_holdAck_refuses fresh asked refuses⟩

end Sys2Proof.Machine
end

section
/-!
What is read back of a packet's header (R94): each field from the bytes where the device puts it.
-/

namespace Sys2Proof.Machine

/-! ### Fields of a byte string that is put together of numbers -/

/-- A field behind the first number of a byte string. -/
theorem field_leBytes_skip {m off : Nat} (h : m ≤ off) (w n : Nat) (c : List Byte) :
    field (leBytes m w ++ c) off n = field c (off - m) n := by
  rw [field, slice, List.drop_append, List.drop_of_length_le (by simpa using h), length_leBytes]
  rfl

/-- The field that is the first number of a byte string. -/
theorem field_leBytes_zero (n v : Nat) (c : List Byte) : field (leBytes n v ++ c) 0 n = v % 256 ^ n :=
  field_append [] c n v 0 rfl

theorem byteAt_eq_field (l : List Byte) (off : Nat) : byteAt l off = field l off 1 := by
  induction l generalizing off with
  | nil => simp [byteAt, field, slice, leNat]
  | cons b r ih =>
    cases off with
    | zero => simp [byteAt, field, slice, leNat]
    | succ off => exact (ih off :)

/-! ### The header of a packet -/

theorem b2n_lt (b : Bool) : b2n b < 2 := by cases b <;> decide

theorem decide_b2n_eq_one (b : Bool) : decide (b2n b = 1) = b := by cases b <;> rfl

section Header
variable (dst src typ : Nat) (mc pin fe : Bool) (flow fsn : Nat) (op data : List Byte)

/-- Byte 5 of a header: the channel and the three flags. -/
def flagByte : Nat := typ / 8 % 8 + 8 * b2n fe + 16 * b2n pin + 32 * b2n mc

/-- The first 13 bytes of a header, number by number. -/
theorem mkPkt_hdr : ∃ rest : List Byte, rest.length = 51 ∧
    (mkPkt dst src typ mc pin fe flow fsn op data).hdr =
      leBytes 2 dst ++ (leBytes 2 src ++ (leBytes 1 typ ++ (leBytes 1 (flagByte typ mc pin fe) ++
        (leBytes 1 (ceilDiv data.length 64) ++ (leBytes 1 0 ++ (leBytes 2 flow ++ (leBytes 3 fsn ++ rest))))))) := by
  refine ⟨?rest, ?length, ?header⟩
  case header =>
    simp only [mkPkt, List.append_assoc]
    rfl
  case length => simp only [List.length_append, length_leBytes, length_padTo]

theorem length_hdr_mkPkt : (mkPkt dst src typ mc pin fe flow fsn op data).hdr.length = 64 := by
  obtain ⟨rest, len, hdr⟩ := mkPkt_hdr dst src typ mc pin fe flow fsn op data
  rw [hdr]
  simp only [List.length_append, length_leBytes, len]

/-- The numbers that the first 13 bytes of a header spell. -/
theorem fields_mkPkt : ∀ h, h = (mkPkt dst src typ mc pin fe flow fsn op data).hdr →
    hDst h = dst % 256 ^ 2 ∧ hSrc h = src % 256 ^ 2 ∧ byteAt h 4 = typ % 256 ^ 1 ∧
      byteAt h 5 = flagByte typ mc pin fe % 256 ^ 1 ∧ byteAt h 6 = ceilDiv data.length 64 % 256 ^ 1 ∧
      hFlow h = flow % 256 ^ 2 ∧ hFsn h = fsn % 256 ^ 3 := by
  rintro _ rfl
  obtain ⟨rest, -, hdr⟩ := mkPkt_hdr dst src typ mc pin fe flow fsn op data
  simp only [hdr, byteAt_eq_field, hDst, hSrc, hFlow, hFsn]
  refine ⟨?_, ?_, ?_, ?_, ?_, ?_, ?_⟩ <;>
    simp only [field_leBytes_skip, field_leBytes_zero, Nat.reduceLeDiff, Nat.reduceSub]

/-- The channel and the flags lie apart in byte 5. -/
theorem bits_flagByte : bits (flagByte typ mc pin fe) 2 0 = typ / 8 % 8 ∧ bit (flagByte typ mc pin fe) 3 = fe ∧
    bit (flagByte typ mc pin fe) 4 = pin ∧ bit (flagByte typ mc pin fe) 5 = mc := by
  have hf := b2n_lt fe
  have hp := b2n_lt pin
  have hm := b2n_lt mc
  simp only [bit_eq_bits, flagByte, bits, Nat.shiftRight_eq_div_pow]
  refine ⟨by omega, ?_, ?_, ?_⟩
  · exact (congrArg (fun n => decide (n = 1)) (by omega)).trans (decide_b2n_eq_one fe)
  · exact (congrArg (fun n => decide (n = 1)) (by omega)).trans (decide_b2n_eq_one pin)
  · exact (congrArg (fun n => decide (n = 1)) (by omega)).trans (decide_b2n_eq_one mc)

theorem flagByte_lt : flagByte typ mc pin fe < 256 := by
  have hf := b2n_lt fe
  have hp := b2n_lt pin
  have hm := b2n_lt mc
  unfold flagByte
  omega

end Header

/-- Settles O19: the fields of a header stand one behind the other, channel and flags apart in one byte, and the last
four bytes are the check code. -/
theorem packetHeaderReadsBackAsSent : Obligations.PacketHeaderReadsBackAsSent := by
  unfold Obligations.PacketHeaderReadsBackAsSent
  intro dst src typ flow fsn mc pin fe op data hdst hsrc htyp hflow hfsn hdata
  have len : ceilDiv data.length 64 < 128 := by unfold ceilDiv; omega
  have flags := flagByte_lt typ mc pin fe
  obtain ⟨vc, fence, pinned, mcast⟩ := bits_flagByte typ mc pin fe
  obtain ⟨dst', src', typ', flag', len', flow', fsn'⟩ := fields_mkPkt dst src typ mc pin fe flow fsn op data _ rfl
  rw [Nat.mod_eq_of_lt (by omega)] at dst' src' typ' flag' len' flow' fsn'
  refine ⟨length_hdr_mkPkt .., dst', src', ?_, ?_, ?_, ?_, ?_, ?_, flow', fsn', e2eOk_mkPkt ..⟩
  · rw [hType, typ', bits, Nat.shiftRight_zero]
    exact Nat.mod_eq_of_lt htyp
  · rw [hVc, flag', vc, Nat.mod_eq_of_lt (by omega)]
  · rw [hMcast, flag', mcast]
  · rw [hPinned, flag', pinned]
  · rw [hFence, flag', fence]
  · rw [hLen, len', bits, Nat.shiftRight_zero]
    exact Nat.mod_eq_of_lt len

end Sys2Proof.Machine
end

section
/-!
Three clauses that do not hold: the AOP of an answer (R97), a PUT_ACK that breaks its form (R98), and the minor of an
event that was held (R481, R487).
-/

namespace Sys2Proof.Machine

/-! ### The AOP of an answer (R13, R97) -/

/-- A window from EID 7, homed in cluster 0, whose completion pointer is 0. -/
def flow3 : Win :=
  { src := 7, dst := 5, flow := 3, home := 0, cp := 0, pkts := 8, reqPicks := 100, rspPicks := 100, spray := false
    pinned := true, states := [], broken := false, fromImage := none, idleLim := 0, reorderLim := none }

/-- EID 5 is the device's own, a LOCAL route, and port 3 forwards. -/
def eidFive : State :=
  ((State.reset.setReg aSelfEid 5#32).setReg (aPortCfg 3) 0x15#32).setReg (aRoute 5 4) 0x90000000#32

/-- That window, and a general region of 64 GiB that the fabric window opens. -/
def fabricOpen : State :=
  { ((eidFive.setReg aSeqRegion 0xFF000040#32).setReg aFabWin 0x00100000#32) with
    flows := { eidFive.flows with wins := [flow3] } }

/-- An ATOMIC by AND, with operand 5, on the 4 bytes at 8192. -/
def atomicAnd : Pkt := mkPkt 5 7 3 false true false 3 0 (opM (2 ^ 60 + 8192) 4 1 0 5 0) []

theorem atomicAnd_comes : Comes fabricOpen 3 3 atomicAnd ∧ InTurn fabricOpen flow3 atomicAnd ∧
    formBad 3 atomicAnd.hdr (atomicAnd.data.length / 64) = false ∧
    fabricOpen.regionOkFor 3 (hSrc atomicAnd.hdr) (field atomicAnd.hdr 16 8 % 2 ^ 60) (field atomicAnd.hdr 24 4) = stOk := by
  decide +kernel

/-- Byte 28 of a packet of form M is its AOP. -/
theorem aop_mkPkt (dst src typ : Nat) (mc pin fe : Bool) (flow fsn addr size aop st x y : Nat) (data : List Byte) :
    byteAt (mkPkt dst src typ mc pin fe flow fsn (opM addr size aop st x y) data).hdr 28 = aop % 256 := by
  have pad : padTo 40 (opM addr size aop st x y) = opM addr size aop st x y ++ List.replicate 8 0 := by
    simp [padTo, opM, List.take_of_length_le]
  simp only [mkPkt, pad]
  simp only [opM, List.append_assoc, byteAt_eq_field, field_leBytes_skip, field_leBytes_zero, Nat.reduceLeDiff,
    Nat.reduceSub, Nat.pow_one]

/-- The ATOMIC asks for AND, and its answer carries 0 there. -/
theorem atomicAnd_answer : byteAt atomicAnd.hdr 28 = 1 ∧
    ((fabricOpen.request 3 3 atomicAnd).inq 128 1).getLast?.map (fun k => byteAt k.hdr 28) = some 0 := by
  decide +kernel

/-- Refutes O26: its answers repeat the AOP of the request, which a response does not have (R97): the device writes the
reserved field as 0 (R13). -/
theorem not_requestsPerformInTheirWindows : ¬ Obligations.RequestsPerformInTheirWindows := by
  unfold Obligations.RequestsPerformInTheirWindows
  intro h
  obtain ⟨comes, turn, form, allowed⟩ := atomicAnd_comes
  obtain ⟨asked, answered⟩ := atomicAnd_answer
  obtain ⟨-, -, -, -, atomic, -⟩ := h fabricOpen
  obtain ⟨t, run, -, -, -, sent⟩ := atomic 3 atomicAnd flow3 comes turn (by decide +kernel) (by decide +kernel) form allowed
  obtain rfl : fabricOpen.request 3 3 atomicAnd = t := Host.Outcome.next.inj run
  have read := congrArg (Option.map fun p => byteAt p.hdr 28) sent
  rw [Option.map_some, Option.map_map, aop_mkPkt, asked] at read
  exact absurd (answered.symm.trans read) (by decide)

/-! ### A PUT_ACK that carries data (R98) -/

/-- A PUT to EID 7 with FSN 0 waits for its answer in window 4 of work item 0. -/
def putWaits : State :=
  eidFive.setSrc 4 { srcReset with
    state := .opened, item := some 0, dst := 7, fsn := 1, pkts := 8, reqPicks := 100, rspPicks := 100
    ops := [⟨0, .put, 1, 1, 8, 2000⟩] }

/-- A PUT_ACK of that operation with 64 bytes of data. -/
def ackWithData : Pkt := mkPkt 5 7 9 false true false 4 0 (opM 0 8 0 0 0 0) (List.replicate 64 0)

theorem ackWithData_comes : Comes putWaits 3 9 ackWithData ∧ putWaits.ctxOf (hFlow ackWithData.hdr) = some 4 ∧
    (putWaits.src 4).dst = hSrc ackWithData.hdr ∧ hStatus ackWithData.hdr = stOk ∧ Quiet putWaits := by
  decide +kernel

/-- The PUT_ACK is discarded: the operation waits on. -/
theorem ackWithData_discarded : ((putWaits.response 3 9 ackWithData).src 4).ops = (putWaits.src 4).ops := by
  decide +kernel

theorem putWaits_op : (putWaits.src 4).ops.find? (fun y => decide (y.fsn = hFsn ackWithData.hdr)) =
    some ⟨0, .put, 1, 1, 8, 2000⟩ := by
  decide +kernel

/-- Refutes O28: its clauses have no premise on LEN, and a PUT_ACK with data breaks R98, is discarded and ends no
operation. -/
theorem not_responsesEndOperations : ¬ Obligations.ResponsesEndOperations := by
  unfold Obligations.ResponsesEndOperations
  intro h
  obtain ⟨comes, ctx, dst, ok, quiet⟩ := ackWithData_comes
  obtain ⟨putAck, -⟩ := h putWaits
  obtain ⟨good, -⟩ := putAck 3 ackWithData 4 _ comes ctx dst rfl rfl putWaits_op quiet
  obtain ⟨t, run, ended, -⟩ := good ok
  obtain rfl : putWaits.response 3 9 ackWithData = t := Host.Outcome.next.inj run
  exact absurd (ackWithData_discarded.symm.trans ended) (by decide +kernel)

/-! ### The minor of an event that was held (R481, R487) -/

/-- An event that was held while the event ring was in minor 0. -/
def heldEvent : HostEntry :=
  { ring := 2, idx := 0, minor := 0, opcode := 0x0180, tag := 0xFFFF, member := 0, flags := 0, status := 0, dataAddr := 0
    capacity := 0, payload := [] }

/-- A lead whose event ring of 16 entries is full, and now in minor 1. -/
def eventRingFull : State :=
  let s := (((State.reset.toDepth dPln .run).setRf aHioLink 9 9 1).setReg (aRing 2 + 8) 0x80000104#32).setReg (aRing 2 + 0x10) 16#32
  { s with pwr := { s.pwr with leadSel := true }, host := { s.host with bme := true, evtHeld := [heldEvent] } }

/-- The doorbell of the event ring makes room for two entries: the event is written in minor 1. -/
theorem heldEvent_written : (eventRingFull.doorbell 2 2#32).host.written.head?.map (·.minor) = some 1 := by
  decide +kernel

/-- Refutes O44: the clause of EQ_DOORBELL has no premise on MINOR of EQ_CFG, and an event that was held under minor 0
is written in the minor in force (R487). -/
theorem not_hostRingsTablesAndRegisters : ¬ Obligations.HostRingsTablesAndRegisters := by
  unfold Obligations.HostRingsTablesAndRegisters
  intro h
  obtain ⟨doorbells, -⟩ := h eventRingFull
  obtain ⟨-, -, event⟩ := doorbells .cuing (by decide +kernel)
  obtain ⟨-, held, -⟩ := event 2#32 (by decide +kernel) (by decide +kernel) (by decide +kernel)
  obtain ⟨t, run, first⟩ := held heldEvent [] (by decide +kernel) (by decide +kernel) (by decide +kernel) (by decide +kernel)
  obtain rfl : eventRingFull.doorbell 2 2#32 = t := Host.Outcome.next.inj run
  exact absurd (heldEvent_written.symm.trans (congrArg (Option.map (·.minor)) first)) (by decide)

end Sys2Proof.Machine
end

section
/-!
Windows at the destination (R100, R128 to R134): how they are found, opened and ended, and what the buffers of a window
leave of the state.
-/

namespace Sys2Proof.Machine

/-! ### The first element that a test finds -/

section Lists
variable {α : Type} {p : α → Bool}

theorem delFirst_eq_eraseP (l : List α) : delFirst p l = l.eraseP p := by
  induction l with
  | nil => rfl
  | cons x r ih =>
    rw [delFirst, List.eraseP_cons, ih]
    cases p x <;> rfl

theorem length_delFirst {l : List α} {a : α} (found : l.find? p = some a) : (delFirst p l).length + 1 = l.length := by
  have mem := List.mem_of_find?_eq_some found
  have pos := List.length_pos_of_mem mem
  rw [delFirst_eq_eraseP, List.length_eraseP_of_mem mem (List.find?_some found)]
  omega

theorem length_updFirst (f : α → α) (l : List α) : (updFirst p f l).length = l.length := by
  induction l with
  | nil => rfl
  | cons x r ih =>
    unfold updFirst
    split
    · rfl
    · exact congrArg (· + 1) ih

/-- What replaces the first element of a test is the first of that test, if it meets it. -/
theorem find?_updFirst {l : List α} {a b : α} (found : l.find? p = some a) (hb : p b = true) :
    (updFirst p (fun _ => b) l).find? p = some b := by
  induction l with
  | nil => cases found
  | cons x r ih =>
    unfold updFirst
    cases hx : p x with
    | true => rw [if_pos rfl, List.find?_cons_of_pos hb]
    | false =>
      rw [List.find?_cons_of_neg (by simp [hx])] at found
      rw [if_neg (by decide), List.find?_cons_of_neg (by simp [hx])]
      exact ih found

end Lists

/-! ### Packets that the device sinks -/

section Sink
variable {s : State} {port typ : Nat} {p : Pkt}

/-- An arrival that every check lets through leaves the state. -/
theorem State.arrives_true (h : (s.arrives port p).1 = true) : s.arrives port p = (true, s) := by
  have same : (s.arrives port p).1 = true → (s.arrives port p).2 = s := by
    unfold State.arrives
    dsimp only
    repeat' split
    all_goals simp
  exact Prod.ext h (same h)

theorem State.reaches_true (h : (s.reaches port p).1 = true) :
    ∃ sw, s.reaches port p = (true, { s with sw := sw }) := by
  unfold State.reaches at h ⊢
  split
  · exact ⟨_, rfl⟩
  · split
    · exact ⟨s.sw, rfl⟩
    · rename_i sunk far
      rw [if_neg sunk, if_neg far] at h
      exact ⟨s.sw, State.arrives_true h⟩

/-- A packet that comes is sunk, and nothing but the crossbar's record of it changes. -/
theorem State.sink_comes (h : Comes s port typ p) : ∃ sw, s.sink port typ p = (true, { s with sw := sw }) := by
  obtain ⟨len, type, good, here⟩ := h
  obtain ⟨sw, reach⟩ := State.reaches_true here
  refine ⟨sw, ?_⟩
  unfold State.sink
  rw [if_neg (by simp [len, type]), reach]
  exact if_pos good

end Sink

/-! ### Buffers of a window -/

section Buffers
variable (s : State)

theorem State.poolDrawN_same (c k : Nat) (h : Holder) (n : Nat) :
    ∃ x0 x1, s.poolDrawN c k h n = { s with free := x0, pools := x1 } := by
  induction n generalizing s with
  | zero => exact ⟨_, _, rfl⟩
  | succ n ih => exact ih (s.poolDraw c k true h).2

theorem State.poolHold_same (c k : Nat) (h : Holder) (n : Nat) :
    ∃ x0 x1, s.poolHold c k h n = { s with free := x0, pools := x1 } := by
  unfold State.poolHold
  dsimp only
  split
  · exact s.poolDrawN_same _ _ _ _
  · exact ⟨_, _, rfl⟩

theorem State.winRelease_same (c src dst flow : Nat) :
    ∃ x0 x1, s.winRelease c src dst flow = { s with free := x0, pools := x1 } := by
  refine List.foldlRecOn (motive := fun a : State × Nat => ∃ x0 x1, a.1 = { s with free := x0, pools := x1 }) _ _
    ⟨_, _, rfl⟩ fun a ih i _ => ?_
  obtain ⟨_, _, ha⟩ := ih
  dsimp only
  rw [ha]
  split
  · exact ⟨_, _, rfl⟩
  · exact State.poolDrawN_same _ _ _ _ _

theorem State.winSync_same (src dst flow : Nat) :
    ∃ x0 x1, s.winSync src dst flow = { s with free := x0, pools := x1 } := by
  unfold State.winSync
  dsimp only
  split
  · exact ⟨_, _, rfl⟩
  · split
    · exact s.poolHold_same _ _ _ _
    · exact s.winRelease_same _ _ _ _

@[simp] theorem State.winSync_flows (src dst flow : Nat) : (s.winSync src dst flow).flows = s.flows := by
  obtain ⟨_, _, h⟩ := s.winSync_same src dst flow; rw [h]
@[simp] theorem State.winSync_mem (src dst flow : Nat) : (s.winSync src dst flow).mem = s.mem := by
  obtain ⟨_, _, h⟩ := s.winSync_same src dst flow; rw [h]

theorem State.reorderUse_same (i : Nat) (f : Nat → Nat) : ∃ x, s.reorderUse i f = { s with shed := x } := by
  unfold State.reorderUse
  split <;> exact ⟨_, rfl⟩

/-- The windows without the one of a window's flow. -/
def State.dropWin (w : Win) : State :=
  let p (x : Win) : Bool := decide (x.src = w.src) && decide (x.dst = w.dst) && decide (x.flow = w.flow)
  { s with flows := { s.flows with wins := delFirst p s.flows.wins } }

/-- A window that ends leaves the windows; beyond them only pools and reorder contexts change. -/
theorem State.winEnd_same (w : Win) :
    ∃ x0 x1 x2, s.winEnd w = { s.dropWin w with free := x0, pools := x1, shed := x2 } := by
  unfold State.winEnd
  dsimp only
  split
  · rename_i i _
    obtain ⟨x, used⟩ := (s.dropWin w).reorderUse_same i (· - 1)
    obtain ⟨_, _, sync⟩ := State.winSync_same { s.dropWin w with shed := x } w.src w.dst w.flow
    exact ⟨_, _, _, (congrArg (State.winSync · w.src w.dst w.flow) used).trans sync⟩
  · obtain ⟨_, _, sync⟩ := State.winSync_same (s.dropWin w) w.src w.dst w.flow
    exact ⟨_, _, _, sync⟩

end Buffers

/-! ### Windows that are found, and windows that end -/

section Windows
variable {s : State} {src dst flow : Nat} {w : Win}

theorem State.winAt_names (found : s.winAt src dst flow = some w) : w.src = src ∧ w.dst = dst ∧ w.flow = flow := by
  simpa [and_assoc] using List.find?_some found

/-- The window that ends is no longer there; registers and HBM stay. -/
theorem State.winEnd_spec (found : s.winAt src dst flow = some w) :
    (s.winEnd w).flows.wins.length + 1 = s.flows.wins.length ∧ (s.winEnd w).mem = s.mem ∧
      (s.winEnd w).regs = s.regs := by
  obtain ⟨rfl, rfl, rfl⟩ := State.winAt_names found
  obtain ⟨_, _, _, h⟩ := s.winEnd_same w
  rw [h]
  exact ⟨length_delFirst found, rfl, rfl⟩

theorem State.winAt_winSync (s : State) (a b c : Nat) :
    (s.winSync a b c).winAt src dst flow = s.winAt src dst flow := by
  rw [State.winAt, State.winSync_flows, State.winAt]

/-- A window that was written is found with what was written. -/
theorem State.winAt_setWin {y : Win} (found : s.winAt src dst flow = some w)
    (same : y.src = src ∧ y.dst = dst ∧ y.flow = flow) : (s.setWin y).winAt src dst flow = some y := by
  obtain ⟨rfl, rfl, rfl⟩ := same
  exact find?_updFirst found (by simp)

theorem State.length_setWin (s : State) (y : Win) : (s.setWin y).flows.wins.length = s.flows.wins.length :=
  length_updFirst _ _

theorem State.setWin_mem (s : State) (y : Win) : (s.setWin y).mem = s.mem := rfl

/-- WCLOSE ends the window that it names. -/
theorem runs_wclose {port : Nat} {pkt : Pkt} (comes : Comes s port 6 pkt) (known : (s.winOf pkt.hdr).isSome = true) :
    Runs (.wclose port pkt) s (fun t => t.flows.wins.length + 1 = s.flows.wins.length ∧ t.mem = s.mem ∧
      t.regs = s.regs) := by
  obtain ⟨w, found⟩ := Option.isSome_iff_exists.mp known
  obtain ⟨sw, sunk⟩ := State.sink_comes comes
  have found' : State.winOf { s with sw := sw } pkt.hdr = some w := found
  refine Runs.of (t := State.winEnd { s with sw := sw } w) ?_ (State.winEnd_spec found' :)
  show execWclose port pkt s = _
  unfold execWclose
  rw [sunk]
  simp only [found', Bool.not_true, Bool.false_eq_true, if_false]

/-- The idle limit ends a window, which is counted. -/
theorem runs_winIdleExpire (known : (s.winAt src dst flow).isSome = true) :
    Runs (.winIdleExpire src dst flow) s (fun t => t.flows.wins.length + 1 = s.flows.wins.length ∧
      t.rf (aFlowErr 0) 31 16 = satAdd 16 (s.rf (aFlowErr 0) 31 16) 1) := by
  obtain ⟨w, found⟩ := Option.isSome_iff_exists.mp known
  obtain ⟨ended, -, regs⟩ := State.winEnd_spec found
  refine Runs.of (t := (s.winEnd w).bump (aFlowErr 0) 31 16 1) ?_ ⟨by rw [State.bump_flows, ended], ?_⟩
  · show execWinIdleExpire src dst flow s = _
    simp only [execWinIdleExpire, found]
  · rw [State.rf_bump_same _ _ _ _ _ (by decide), State.rf, State.reg, regs]
    rfl

/-- A window whose flow is broken: what it holds is gone, and what is done stays. -/
def Win.broke (w : Win) : Win :=
  { w with broken := true, reorderLim := none, states := w.states.filter (fun e => e.2 = .done) }

/-- A gap that lasts too long breaks the flow: its window stays where it was. -/
theorem runs_reorderTimeout (found : s.winAt src dst flow = some w) (gap : w.at w.cp = .empty) (later : w.states ≠ [])
    (whole : w.broken = false) :
    Runs (.reorderTimeout src dst flow) s (fun t =>
      (t.winAt src dst flow).map (fun y => (y.broken, y.reorderLim, y.cp)) = some (true, none, w.cp) ∧
      t.flows.wins.length = s.flows.wins.length ∧ t.mem = s.mem) := by
  have cond : w.at w.cp = .empty ∧ (!w.states.isEmpty) = true ∧ (!w.broken) = true := by simp [gap, later, whole]
  obtain ⟨n, run⟩ : ∃ n, exec (.reorderTimeout src dst flow) s =
      .next (((s.bump (aFlowErr 1) 31 16 n).setWin w.broke).winSync w.src w.dst w.flow) := by
    show ∃ n, execReorderTimeout src dst flow s = _
    simp only [execReorderTimeout, found]
    exact ⟨_, if_pos cond⟩
  refine Runs.of run ?_
  have counted : (s.bump (aFlowErr 1) 31 16 n).winAt src dst flow = some w := by
    rw [State.winAt, State.bump_flows]
    exact found
  refine ⟨?_, ?_, ?_⟩
  · rw [State.winAt_winSync, State.winAt_setWin (y := w.broke) counted (State.winAt_names found :)]
    rfl
  · rw [State.winSync_flows, State.length_setWin, State.bump_flows]
  · rw [State.winSync_mem, State.setWin_mem, State.bump_mem]

end Windows

/-! ### WOPEN (R128) -/

section Wopen
variable {s : State} {port : Nat} {pkt : Pkt}

/-- A WOPEN that its checks refuse with a status opens nothing. -/
theorem runs_wopen_refused {st : Nat} (comes : Comes s port 5 pkt) (eid : s.selfEid ≠ 0xFFFF)
    (refused : field pkt.hdr 16 4 = 0 ∧ st = stUnsup ∨ field pkt.hdr 16 4 ≠ 0 ∧ 65 ≤ field pkt.hdr 20 4 ∧
      65 ≤ field pkt.hdr 24 4 ∧ (s.winOf pkt.hdr).isSome = true ∧ st = stState) :
    Runs (.wopen port pkt) s (fun t => t.flows = s.flows ∧ t.pools = s.pools ∧
      Sent t (qCluster port % 8) (mkPkt (hSrc pkt.hdr) (hDst pkt.hdr) 0x0D false (hPinned pkt.hdr) false (hFlow pkt.hdr)
        (hFsn pkt.hdr) (opW 0 0 0 0 st) [])) := by
  obtain ⟨sw, sunk⟩ := State.sink_comes comes
  refine Runs.of (t := State.grant { s with sw := sw } (qCluster port % 8) pkt.hdr 0 0 0 false st) ?run
    ⟨State.emit_flows _ _ _, State.emit_pools _ _ _, State.emit_inq _ _ _ eid⟩
  show execWopen port pkt s = _
  unfold execWopen
  simp only [sunk, Bool.not_true, Bool.false_eq_true, if_false]
  obtain ⟨none, rfl⟩ | ⟨some, req, rsp, known, rfl⟩ := refused
  · rw [if_pos (.inl none)]
  · rw [if_neg (by omega)]
    exact if_pos known

/-- A window is reserved when the pool has room, and only the pools change. -/
theorem State.poolReserve_room {c k n : Nat} (h : Holder) (room : n ≤ s.poolAvail c k) :
    ∃ x, s.poolReserve c h k n = some { s with pools := x } :=
  ⟨_, if_pos room⟩

/-- The window that a WOPEN without SPRAY opens. -/
def State.pinnedWin (s : State) (c : Nat) (h : List Byte) : Win :=
  { src := hSrc h, dst := hDst h, flow := hFlow h, home := c, cp := hFsn h
    pkts := min (field h 16 4) (s.rf aWinPkts 8 0)
    reqPicks := min (field h 20 4) (s.rf aWinPicks 15 0), rspPicks := min (field h 24 4) (s.rf aWinPicks 31 16)
    spray := false, pinned := true, states := [], broken := false, fromImage := none
    idleLim := s.rf aWinTim 31 16, reorderLim := none }

/-- A window that joins the others is found, if its flow had none. -/
theorem State.winOf_append {h : List Byte} {w : Win} {t : State} (fresh : s.winOf h = none)
    (same : w.src = hSrc h ∧ w.dst = hDst h ∧ w.flow = hFlow h) (wins : t.flows.wins = s.flows.wins ++ [w]) :
    t.winOf h = some w := by
  obtain ⟨hs, hd, hf⟩ := same
  have : s.flows.wins.find? _ = none := fresh
  rw [State.winOf, wins, List.find?_append, this]
  simp [hs, hd, hf]

/-- A WOPEN for a flow with no window, with room in the pool, opens the window and grants it. -/
theorem runs_wopen_granted (comes : Comes s port 5 pkt) (eid : s.selfEid ≠ 0xFFFF) (pkts : field pkt.hdr 16 4 ≠ 0)
    (req : 65 ≤ field pkt.hdr 20 4) (rsp : 65 ≤ field pkt.hdr 24 4) (fresh : s.winOf pkt.hdr = none)
    (few : s.flows.wins.length < 16384)
    (room : winBufs (min (field pkt.hdr 20 4) (s.rf aWinPicks 15 0))
      (min (field pkt.hdr 24 4) (s.rf aWinPicks 31 16)) ≤ s.poolAvail (qCluster port % 8) 0)
    (plain : bit (byteAt pkt.hdr 28) 0 = false) :
    Runs (.wopen port pkt) s (fun t =>
      t.flows.wins = s.flows.wins ++ [s.pinnedWin (qCluster port % 8) pkt.hdr] ∧
      Sent t (qCluster port % 8) (mkPkt (hSrc pkt.hdr) (hDst pkt.hdr) 0x0D false (hPinned pkt.hdr) false (hFlow pkt.hdr)
        (hFsn pkt.hdr) (opW (min (field pkt.hdr 16 4) (s.rf aWinPkts 8 0))
          (min (field pkt.hdr 20 4) (s.rf aWinPicks 15 0)) (min (field pkt.hdr 24 4) (s.rf aWinPicks 31 16)) 0 stOk)
        [])) := by
  obtain ⟨sw, sunk⟩ := State.sink_comes comes
  obtain ⟨pools, reserved⟩ := State.poolReserve_room (s := { s with sw := sw })
    (.window (hSrc pkt.hdr) (hDst pkt.hdr) (hFlow pkt.hdr)) room
  have regs : State.rf { s with sw := sw } = s.rf := rfl
  have run : exec (.wopen port pkt) s = .next (State.grant
      { s with
        sw := sw, pools := pools
        flows := { s.flows with wins := s.flows.wins ++ [s.pinnedWin (qCluster port % 8) pkt.hdr] } }
      (qCluster port % 8) pkt.hdr (min (field pkt.hdr 16 4) (s.rf aWinPkts 8 0))
      (min (field pkt.hdr 20 4) (s.rf aWinPicks 15 0)) (min (field pkt.hdr 24 4) (s.rf aWinPicks 31 16))
      false stOk) := by
    show execWopen port pkt s = _
    unfold execWopen
    simp only [sunk, regs, Bool.not_true, Bool.false_eq_true, if_false]
    rw [if_neg (by omega), if_neg (by rw [show State.winOf { s with sw := sw } pkt.hdr = none from fresh]; decide),
      if_neg (by simpa using few), reserved]
    simp only [plain, Bool.false_eq_true, if_false]
    rfl
  refine Runs.of run ?_
  exact ⟨congrArg Flows.wins (State.emit_flows _ _ _), State.emit_inq _ _ _ eid⟩

end Wopen

/-- Settles O27: each clause is the run of its command, from a packet that is sunk. -/
theorem windowsOpenAndEnd : Obligations.WindowsOpenAndEnd := by
  unfold Obligations.WindowsOpenAndEnd
  intro s
  refine ⟨fun port pkt comes eid pkts req rsp => ⟨fun fresh few room plain => ?_, fun known =>
      runs_wopen_refused comes eid (.inr ⟨pkts, req, rsp, known, rfl⟩)⟩,
    fun _ _ comes known => runs_wclose comes known, fun _ _ _ known => runs_winIdleExpire known,
    fun _ _ _ _ found gap later whole => runs_reorderTimeout found gap later whole,
    fun port pkt comes eid pkts => runs_wopen_refused comes eid (.inl ⟨pkts, rfl⟩)⟩
  obtain ⟨t, run, wins, sent⟩ := runs_wopen_granted comes eid pkts req rsp fresh few room plain
  have opened : t.winOf pkt.hdr = some _ := State.winOf_append fresh ⟨rfl, rfl, rfl⟩ wins
  refine Runs.of run ⟨?_, ?_, ?_, sent⟩
  · rw [wins, List.length_append]
    rfl
  · rw [opened]
    rfl
  · rw [opened]
    rfl

end Sys2Proof.Machine
end

section
/-!
The commit of the route and multicast tables (R143 to R145): what is copied, what a commit that ends leaves, and which
registers stay.
-/

namespace Sys2Proof.Machine

/-! ### What a list of table entries yields when another key is written -/

section Tables
variable {α β : Type} {f : Nat × α → Option β} {k : Nat}

theorem filterMap_tabDel (none : ∀ v, f (k, v) = none) (t : Tab α) : (tabDel t k).filterMap f = t.filterMap f := by
  induction t with
  | nil => rfl
  | cons e r ih =>
    obtain ⟨j, v⟩ := e
    unfold tabDel
    split
    next same =>
      subst same
      rw [ih, List.filterMap_cons, none]
    next => rw [List.filterMap_cons, List.filterMap_cons, ih]

theorem filterMap_tabPut (none : ∀ v, f (k, v) = none) (x : α) (t : Tab α) :
    (tabPut t k x).filterMap f = t.filterMap f := by
  induction t with
  | nil => simp [tabPut, none]
  | cons e r ih =>
    obtain ⟨j, v⟩ := e
    unfold tabPut
    repeat' split
    next same =>
      subst same
      rw [List.filterMap_cons, List.filterMap_cons, none, none]
    next => rw [List.filterMap_cons, none]
    next => rw [List.filterMap_cons, List.filterMap_cons, ih]

theorem filterMap_tabSet [DecidableEq α] (none : ∀ v, f (k, v) = none) (d : Nat → α) (t : Tab α) (x : α) :
    (tabSet d t k x).filterMap f = t.filterMap f := by
  unfold tabSet
  split
  · exact filterMap_tabDel none t
  · exact filterMap_tabPut none x t

end Tables

/-! ### Entries of a table that are copied -/

/-- Words written at consecutive addresses leave the register at any other. -/
theorem State.reg_setRegs_ne {a b : Nat} (s : State) (l : List Word) (h : ∀ w < l.length, a ≠ b + 4 * w) :
    (s.setRegs b l).reg a = s.reg a := by
  rw [State.reg_setRegs]
  refine if_neg fun ⟨low, high, aligned⟩ => h ((a - b) / 4) ?_ ?_ <;> omega

theorem State.reg_setRegs_at {b w : Nat} (s : State) (l : List Word) (h : w < l.length) :
    (s.setRegs b l).reg (b + 4 * w) = l.getD w 0 := by
  rw [State.reg_setRegs, if_pos (by omega)]
  congr 1
  omega

/-- The entries of a list, n words each, take the words of another table. -/
def State.copyEntries (s : State) (n : Nat) (dst src : Nat → Nat → Nat) (l : List Nat) : State :=
  l.foldl (fun s i => s.setRegs (dst i 0) ((List.range n).map (fun w => s.reg (src i w)))) s

section Copy
variable {n : Nat} {dst src : Nat → Nat → Nat} (words : ∀ i w, dst i w = dst i 0 + 4 * w) (s : State)

@[simp] theorem State.copyEntries_mem (l : List Nat) : (s.copyEntries n dst src l).mem = s.mem :=
  foldl_read State.mem (fun s _ => s.setRegs_mem _ _) _ _

@[simp] theorem State.copyEntries_flows (l : List Nat) : (s.copyEntries n dst src l).flows = s.flows :=
  foldl_read State.flows (fun s _ => s.setRegs_flows _ _) _ _

include words

/-- A register that is no word of a copied entry stays. -/
theorem State.reg_copyEntries_ne {a : Nat} {l : List Nat} (apart : ∀ i ∈ l, ∀ w < n, a ≠ dst i w) :
    (s.copyEntries n dst src l).reg a = s.reg a := by
  refine List.foldlRecOn (motive := fun t : State => t.reg a = s.reg a) l _ rfl fun t same i hi => ?_
  rw [← same]
  refine State.reg_setRegs_ne _ _ fun w hw => ?_
  rw [← words]
  exact apart i hi w (by simpa using hw)

/-- A copied entry reads as the entry that it was copied from. -/
theorem State.reg_copyEntries_mem {i w : Nat} {l : List Nat} (hi : i ∈ l) (hw : w < n)
    (inj : ∀ j v, v < n → dst i w = dst j v → j = i) (apart : ∀ j ∈ l, ∀ v < n, src i w ≠ dst j v) :
    (s.copyEntries n dst src l).reg (dst i w) = s.reg (src i w) := by
  induction l generalizing s with
  | nil => cases hi
  | cons j r ih =>
    show (State.copyEntries (s.setRegs (dst j 0) _) n dst src r).reg (dst i w) = _
    by_cases later : i ∈ r
    · rw [ih _ later fun j hj => apart j (.tail _ hj)]
      refine State.reg_setRegs_ne _ _ fun v hv => ?_
      rw [← words]
      exact apart j (.head _) v (by simpa using hv)
    · obtain rfl : i = j := (List.mem_cons.mp hi).resolve_right later
      rw [State.reg_copyEntries_ne words _ fun j hj v hv same => later (inj j v hv same ▸ hj), words i w,
        State.reg_setRegs_at _ _ (by simpa using hw)]
      simp [List.getD_eq_getElem?_getD, hw]

end Copy

/-! ### The entries that a commit names -/

section Keys
variable (s : State)

theorem State.mem_routeKeysAny_lt {base i : Nat} (h : i ∈ s.routeKeysAny base) : i < 16384 := by
  rw [State.routeKeysAny, List.mem_eraseDups, List.mem_filterMap] at h
  obtain ⟨e, -, he⟩ := h
  split at he
  · obtain rfl := Option.some.inj he
    omega
  · cases he

theorem State.mem_allRoutes_lt {i : Nat} (h : i ∈ s.allRoutes) : i < 16384 := by
  rw [State.allRoutes, List.mem_eraseDups, List.mem_append] at h
  exact h.elim s.mem_routeKeysAny_lt s.mem_routeKeysAny_lt

theorem State.mem_mcastKeys_lt {g : Nat} (h : g ∈ s.mcastKeys) : g < 1024 := by
  rw [State.mcastKeys, List.mem_eraseDups, List.mem_filterMap] at h
  obtain ⟨e, -, he⟩ := h
  split at he
  · obtain rfl := Option.some.inj he
    omega
  · cases he

theorem State.mem_changedRoutes_lt {i : Nat} (h : i ∈ s.changedRoutes) : i < 16384 :=
  s.mem_allRoutes_lt (List.mem_of_mem_filter h)

theorem State.mem_changedMcast_lt {g : Nat} (h : g ∈ s.changedMcast) : g < 1024 :=
  s.mem_mcastKeys_lt (List.mem_of_mem_filter h)

/-- A test of a list's elements gives what another gives that agrees on them. -/
theorem any_congr_mem {α : Type} {p q : α → Bool} {l : List α} (h : ∀ x ∈ l, p x = q x) : l.any p = l.any q := by
  rw [Bool.eq_iff_iff, List.any_eq_true, List.any_eq_true]
  exact exists_congr fun x => and_congr_right fun hx => by rw [h x hx]

/-- The status of the commit engine is no word of an entry: what has changed does not depend on it. -/
theorem State.setCommitSt_changedRoutes (v : Word) : (s.setReg aCommitSt v).changedRoutes = s.changedRoutes := by
  have keys (base : Nat) (below : base + 0x80000 ≤ aCommitSt) :
      (s.setReg aCommitSt v).routeKeysAny base = s.routeKeysAny base :=
    congrArg List.eraseDups (filterMap_tabSet (fun _ => if_neg (by omega)) _ _ _)
  unfold State.changedRoutes State.allRoutes
  rw [keys _ (by decide), keys _ (by decide)]
  refine List.filter_congr fun i hi => any_congr_mem fun w hw => ?_
  have low : i < 16384 := s.mem_allRoutes_lt hi
  have word : w < 8 := List.mem_range.mp hw
  rw [State.reg_setReg_ne _ _ (by unfold aRouteSh aCommitSt; omega),
    State.reg_setReg_ne _ _ (by unfold aRoute aCommitSt; omega)]

theorem State.setCommitSt_changedMcast (v : Word) : (s.setReg aCommitSt v).changedMcast = s.changedMcast := by
  have keys : (s.setReg aCommitSt v).mcastKeys = s.mcastKeys :=
    congrArg List.eraseDups (filterMap_tabSet (fun _ => if_neg (by unfold aCommitSt; omega)) _ _ _)
  unfold State.changedMcast
  rw [keys]
  refine List.filter_congr fun g hg => any_congr_mem fun w hw => ?_
  have low : g < 1024 := s.mem_mcastKeys_lt hg
  have word : w < 16 := List.mem_range.mp hw
  rw [State.reg_setReg_ne _ _ (by unfold aMcastSh aCommitSt; omega),
    State.reg_setReg_ne _ _ (by unfold aMcast aCommitSt; omega)]

end Keys

/-! ### What taking the shadow copies writes -/

section Take
variable (s : State)

theorem aRoute_words (i w : Nat) : aRoute i w = aRoute i 0 + 4 * w := rfl
theorem aRouteSh_words (i w : Nat) : aRouteSh i w = aRouteSh i 0 + 4 * w := rfl
theorem aMcast_words (g w : Nat) : aMcast g w = aMcast g 0 + 4 * w := rfl
theorem aMcastSh_words (g w : Nat) : aMcastSh g w = aMcastSh g 0 + 4 * w := rfl

/-- Every changed entry with its shadow value (R144, step 4). -/
def State.takeShadow : State :=
  (s.copyEntries 8 aRoute aRouteSh s.changedRoutes).copyEntries 16 aMcast aMcastSh s.changedMcast

/-- Every changed shadow entry with its active value (R143). -/
def State.syncShadow : State :=
  (s.copyEntries 8 aRouteSh aRoute s.changedRoutes).copyEntries 16 aMcastSh aMcast s.changedMcast

@[simp] theorem State.takeShadow_mem : s.takeShadow.mem = s.mem := by simp [State.takeShadow]
@[simp] theorem State.takeShadow_flows : s.takeShadow.flows = s.flows := by simp [State.takeShadow]
@[simp] theorem State.syncShadow_mem : s.syncShadow.mem = s.mem := by simp [State.syncShadow]

/-- The multicast entries lie apart from the route entries. -/
theorem State.reg_copyMcast_of_low {a : Nat} (t : State) (low : a < 0x02100000) :
    (t.copyEntries 16 aMcast aMcastSh s.changedMcast).reg a = t.reg a ∧
      (t.copyEntries 16 aMcastSh aMcast s.changedMcast).reg a = t.reg a :=
  ⟨t.reg_copyEntries_ne aMcast_words fun i _ w _ => by unfold aMcast; omega,
    t.reg_copyEntries_ne aMcastSh_words fun i _ w _ => by unfold aMcastSh; omega⟩

/-- A register outside the two tables stays. -/
theorem State.reg_takeShadow_ne {a : Nat} (out : a < 0x02000000 ∨ 0x02200000 ≤ a) : s.takeShadow.reg a = s.reg a := by
  refine (State.reg_copyEntries_ne aMcast_words _ fun g hg w _ => ?_).trans
    (State.reg_copyEntries_ne aRoute_words _ fun i hi w _ => ?_)
  · have := s.mem_changedMcast_lt hg
    unfold aMcast
    omega
  · have := s.mem_changedRoutes_lt hi
    unfold aRoute
    omega

theorem State.takeShadow_route {i w : Nat} (hi : i ∈ s.changedRoutes) (hw : w < 8) :
    s.takeShadow.reg (aRoute i w) = s.reg (aRouteSh i w) := by
  have := s.mem_changedRoutes_lt hi
  rw [State.takeShadow, (s.reg_copyMcast_of_low _ (by unfold aRoute; omega)).1]
  refine State.reg_copyEntries_mem aRoute_words _ hi hw (fun j v hv => ?_) (fun j hj v hv => ?_)
  · unfold aRoute
    omega
  · have := s.mem_changedRoutes_lt hj
    unfold aRouteSh aRoute
    omega

theorem State.takeShadow_mcast {g w : Nat} (hg : g ∈ s.changedMcast) (hw : w < 16) :
    s.takeShadow.reg (aMcast g w) = s.reg (aMcastSh g w) := by
  have := s.mem_changedMcast_lt hg
  refine (State.reg_copyEntries_mem aMcast_words _ hg hw (fun j v hv => ?_) (fun j hj v hv => ?_)).trans
    (State.reg_copyEntries_ne aRoute_words _ fun i hi v hv => ?_)
  · unfold aMcast
    omega
  · have := s.mem_changedMcast_lt hj
    unfold aMcastSh aMcast
    omega
  · have := s.mem_changedRoutes_lt hi
    unfold aMcastSh aRoute
    omega

/-- The shadow copies taken from the active ones leave these. -/
theorem State.syncShadow_active {i w : Nat} (hi : i < 16384) (hw : w < 8) :
    s.syncShadow.reg (aRoute i w) = s.reg (aRoute i w) := by
  rw [State.syncShadow, (s.reg_copyMcast_of_low _ (by unfold aRoute; omega)).2]
  refine State.reg_copyEntries_ne aRouteSh_words _ fun j _ v _ => ?_
  unfold aRouteSh aRoute
  omega

theorem State.syncShadow_route {i w : Nat} (hi : i ∈ s.changedRoutes) (hw : w < 8) :
    s.syncShadow.reg (aRouteSh i w) = s.reg (aRoute i w) := by
  have := s.mem_changedRoutes_lt hi
  rw [State.syncShadow, (s.reg_copyMcast_of_low _ (by unfold aRouteSh; omega)).2]
  refine State.reg_copyEntries_mem aRouteSh_words _ hi hw (fun j v hv => ?_) (fun j hj v hv => ?_)
  · unfold aRouteSh
    omega
  · have := s.mem_changedRoutes_lt hj
    unfold aRouteSh aRoute
    omega

end Take

/-! ### How a commit ends -/

section End
variable (s : State)

/-- A reply to a request moves the reply ring's index alone. -/
theorem State.reg_answer (src : Src) (st : Nat) (l : List Byte) {a : Nat} (h : a ≠ aRing 1 + 0x10) :
    (s.answer src st l).reg a = s.reg a := by
  unfold State.answer
  split
  · rfl
  · exact s.reg_finish _ _ _ h

theorem State.answer_mem (src : Src) (st : Nat) (l : List Byte) : (s.answer src st l).mem = s.mem := by
  unfold State.answer
  split
  · rfl
  · exact s.finish_mem _ _ _

/-- BUSY, RESULT and PHASE of the status that a commit leaves. -/
def State.commitOver (r : Nat) : State := ((s.setRf aCommitSt 0 0 0).setRf aCommitSt 3 1 r).setRf aCommitSt 6 4 0

theorem State.reg_commitEnd (r st : Nat) {a : Nat} (h : a ≠ aRing 1 + 0x10) :
    (s.commitEnd r st).reg a = (s.commitOver r).reg a := by
  unfold State.commitEnd
  dsimp only
  split
  · exact (s.commitOver r).reg_finish _ _ _ h
  · rfl

theorem State.commitEnd_mem (r st : Nat) : (s.commitEnd r st).mem = s.mem := by
  unfold State.commitEnd
  dsimp only
  split
  · exact (s.commitOver r).finish_mem _ _ _
  · rfl

/-- A commit that ends is no longer busy, and shows its RESULT. -/
theorem State.rf_commitEnd (r st : Nat) : (s.commitEnd r st).rf aCommitSt 0 0 = 0 ∧
    (s.commitEnd r st).rf aCommitSt 3 1 = r % 2 ^ 3 ∧ (s.commitEnd r st).rf aCommitSt 6 4 = 0 := by
  have read (hi lo : Nat) : (s.commitEnd r st).rf aCommitSt hi lo = (s.commitOver r).rf aCommitSt hi lo :=
    congrArg (fld · hi lo) (s.reg_commitEnd r st (by decide))
  refine ⟨(read _ _).trans ?_, (read _ _).trans ?_, (read _ _).trans ?_⟩
  · rw [State.commitOver, State.rf_setRf_other _ _ _ _ _ _ _ (by decide), State.rf_setRf_other _ _ _ _ _ _ _ (by decide),
      State.rf_setRf_same _ _ _ _ _ (by decide)]
    rfl
  · rw [State.commitOver, State.rf_setRf_other _ _ _ _ _ _ _ (by decide), State.rf_setRf_same _ _ _ _ _ (by decide)]
  · rw [State.commitOver, State.rf_setRf_same _ _ _ _ _ (by decide)]
    rfl

/-- A commit that ends leaves the entries as they are. -/
theorem State.reg_commitEnd_entry (r st : Nat) {a : Nat} (low : 0x02000000 ≤ a) (high : a < 0x02200000) :
    (s.commitEnd r st).reg a = s.reg a := by
  have far : a ≠ aCommitSt := by unfold aCommitSt; omega
  rw [State.reg_commitEnd _ _ _ (by unfold aRing; omega), State.commitOver, State.reg_setRf_ne _ _ _ _ far,
    State.reg_setRf_ne _ _ _ _ far, State.reg_setRf_ne _ _ _ _ far]

theorem State.memberScan_flows : s.memberScan.flows = s.flows := by
  unfold State.memberScan
  refine foldl_read State.flows (fun s m => ?_) _ _
  dsimp only
  split
  · rw [State.event_flows, State.setMember_flows]
  · rfl

theorem State.memberScan_mem : s.memberScan.mem = s.mem := by
  unfold State.memberScan
  refine foldl_read State.mem (fun s m => ?_) _ _
  dsimp only
  split
  · rw [State.event_mem, State.setMember_mem]
  · rfl

theorem State.uncut_flows : s.uncut.flows = s.flows := by
  unfold State.uncut
  dsimp only
  rw [State.memberScan_flows]
  split <;> rfl

theorem State.uncut_mem : s.uncut.mem = s.mem := by
  unfold State.uncut
  dsimp only
  rw [State.memberScan_mem]
  split <;> rfl

/-- A device that does not stream to a partner mirrors nothing. -/
theorem State.foldl_mirror (quiet : s.streaming = false) (items : List (Nat × Nat × List Byte)) :
    items.foldl (fun s x => s.mirror x.1 x.2.1 x.2.2) s = s := by
  refine List.foldlRecOn (motive := fun t => t = s) items _ rfl fun t same x _ => ?_
  rw [same]
  exact if_neg (by simp [quiet])

/-- Step 4 of R144 without a partner, for a request that waits for no reply. -/
theorem State.commitApply_untagged (tag : s.flows.commitTag = none)
    (alone : s.role ≠ 1 ∨ s.changedRoutes = [] ∧ s.changedMcast = []) :
    s.commitApply = s.takeShadow.uncut.commitEnd 1 stOk := by
  have tag' : s.takeShadow.uncut.flows.commitTag = none := by rw [State.uncut_flows, State.takeShadow_flows, tag]
  have role : s.takeShadow.uncut.role = s.role := by
    rw [State.role, State.rf, State.reg_uncut _ (by decide) (by decide) (by decide),
      State.reg_takeShadow_ne _ (.inl (by decide))]
    rfl
  have unmirrored (items : List (Nat × Nat × List Byte)) (none : s.role = 1 → items = []) :
      items.foldl (fun (s : State) x => s.mirror x.1 x.2.1 x.2.2) s.takeShadow.uncut = s.takeShadow.uncut := by
    by_cases active : s.role = 1
    · rw [none active]
      rfl
    · exact State.foldl_mirror _ (by rw [State.streaming, role]; simp [active]) _
  unfold State.commitApply
  dsimp only
  split
  next some _ => cases tag'.symm.trans some
  next =>
    refine congrArg (State.commitEnd · 1 stOk) (unmirrored _ fun active => ?_)
    obtain ⟨routes, mcast⟩ := alone.resolve_left (not_not_intro active)
    rw [routes, mcast]
    rfl

end End
/-! ### The commands of the commit engine -/

section Commit
variable {s t : State} {src : Src}

/-- What leaves the two tables leaves every route entry. -/
theorem routes_kept (keep : ∀ a, 0x02000000 ≤ a → a < 0x02200000 → t.reg a = s.reg a) :
    ∀ i ∈ s.allRoutes, ∀ w ∈ List.range 8, t.reg (aRoute i w) = s.reg (aRoute i w) := by
  intro i hi w hw
  have low := s.mem_allRoutes_lt hi
  have word := List.mem_range.mp hw
  exact keep _ (by unfold aRoute; omega) (by unfold aRoute; omega)

/-- A field of the commit status that is written leaves the entries. -/
theorem State.reg_setCommitSt_entry (s : State) (hi lo v : Nat) {a : Nat} (high : a < 0x02200000) :
    (s.setRf aCommitSt hi lo v).reg a = s.reg a :=
  s.reg_setRf_ne _ _ _ (by unfold aCommitSt; omega)

/-- The status of a commit that begins: CHANGED, BUSY and PHASE. -/
def State.commitBegun (s : State) (n : Nat) : State :=
  ((s.setRf aCommitSt 31 16 n).setRf aCommitSt 0 0 1).setRf aCommitSt 6 4 1

/-- The command that a commit answers at its end. -/
def State.setTag (s : State) (tag : Option Nat) : State := { s with flows := { s.flows with commitTag := tag } }

theorem State.setTag_rf (s : State) (tag : Option Nat) (a hi lo : Nat) : (s.setTag tag).rf a hi lo = s.rf a hi lo := rfl

theorem State.setTag_sw (s : State) (tag : Option Nat) : (s.setTag tag).sw = s.sw := rfl

theorem State.commitBegun_sw (s : State) (n : Nat) : (s.commitBegun n).sw = s.sw := by
  rw [State.commitBegun, State.setRf_sw, State.setRf_sw, State.setRf_sw]

/-- What has changed stands in the registers. -/
theorem State.changed_of_regs {u : State} (h : u.regs = s.regs) :
    u.changedRoutes = s.changedRoutes ∧ u.changedMcast = s.changedMcast := by
  have reg : u.reg = s.reg := funext fun a => by rw [State.reg, h, State.reg]
  have route : u.routeChanged = s.routeChanged := funext fun i => by rw [State.routeChanged, reg, State.routeChanged]
  have mcast : u.mcastChanged = s.mcastChanged := funext fun g => by rw [State.mcastChanged, reg, State.mcastChanged]
  constructor
  · simp only [State.changedRoutes, State.allRoutes, State.routeKeysAny, route, h]
  · simp only [State.changedMcast, State.mcastKeys, mcast, h]

theorem State.rf_commitBegun (s : State) {n : Nat} (fits : n < 65536) : (s.commitBegun n).rf aCommitSt 0 0 = 1 ∧
    (s.commitBegun n).rf aCommitSt 6 4 = 1 ∧ (s.commitBegun n).rf aCommitSt 31 16 = n := by
  refine ⟨?_, ?_, ?_⟩
  · rw [State.commitBegun, State.rf_setRf_other _ _ _ _ _ _ _ (by decide), State.rf_setRf_same _ _ _ _ _ (by decide)]
    rfl
  · rw [State.commitBegun, State.rf_setRf_same _ _ _ _ _ (by decide)]
    rfl
  · rw [State.commitBegun, State.rf_setRf_other _ _ _ _ _ _ _ (by decide),
      State.rf_setRf_other _ _ _ _ _ _ _ (by decide), State.rf_setRf_same _ _ _ _ _ (by decide)]
    exact Nat.mod_eq_of_lt fits

/-- START of a commit: busy in VALIDATE, with the count of what changed. -/
theorem runs_commitStart (req : s.commitReq src 0 = true) (idle : s.rf aCommitSt 0 0 = 0) (up : s.fallback = false) :
    Runs (.commitStart src) s (fun t => t.rf aCommitSt 0 0 = 1 ∧ t.rf aCommitSt 6 4 = 1 ∧
      t.rf aCommitSt 31 16 = min 65535 (s.changedRoutes.length + s.changedMcast.length) ∧
      t.flows.commitTag = srcTag src ∧ t.sw = s.sw) := by
  obtain ⟨u, run, regs, sw⟩ : ∃ u : State, exec (.commitStart src) s = .next
      ((u.commitBegun (min 65535 (u.changedRoutes.length + u.changedMcast.length))).setTag (srcTag src)) ∧
      u.regs = s.regs ∧ u.sw = s.sw := by
    show ∃ u : State, execCommitStart src s = _ ∧ _
    unfold execCommitStart
    rw [if_neg (by simp [req]), if_neg (by omega), if_neg (by simp [up])]
    cases src with
    | reg path a v => exact ⟨s, rfl, rfl, rfl⟩
    | cmd tag => exact ⟨s.hold tag, rfl, s.hold_regs tag, s.hold_sw tag⟩
  have few : min 65535 (u.changedRoutes.length + u.changedMcast.length) < 65536 := by omega
  obtain ⟨routes, mcast⟩ := State.changed_of_regs regs
  rw [← routes, ← mcast]
  obtain ⟨busy, phase, count⟩ := u.rf_commitBegun few
  refine Runs.of run ⟨?_, ?_, ?_, rfl, ?_⟩
  · rw [State.setTag_rf, busy]
  · rw [State.setTag_rf, phase]
  · rw [State.setTag_rf, count]
  · rw [State.setTag_sw, State.commitBegun_sw, sw]

/-- START in FALLBACK is RESULT 5, and begins nothing. -/
theorem runs_commitStart_fallback (req : s.commitReq src 0 = true) (idle : s.rf aCommitSt 0 0 = 0)
    (down : s.fallback = true) :
    Runs (.commitStart src) s (fun t => t.rf aCommitSt 0 0 = 0 ∧ t.rf aCommitSt 3 1 = 5 ∧
      (∀ i ∈ s.allRoutes, ∀ w ∈ List.range 8, t.reg (aRoute i w) = s.reg (aRoute i w))) := by
  have read {a : Nat} (h : a ≠ aRing 1 + 0x10) :
      ((s.setRf aCommitSt 3 1 5).answer src stState []).reg a = (s.setRf aCommitSt 3 1 5).reg a :=
    State.reg_answer _ _ _ _ h
  refine Runs.of (t := (s.setRf aCommitSt 3 1 5).answer src stState []) ?_ ⟨?_, ?_, routes_kept fun a low high => ?_⟩
  · show execCommitStart src s = _
    unfold execCommitStart
    rw [if_neg (by simp [req]), if_neg (by omega), if_pos down]
  · rw [State.rf, read (by decide)]
    exact (State.rf_setRf_other _ _ _ _ _ _ _ (by decide)).trans idle
  · rw [State.rf, read (by decide)]
    exact State.rf_setRf_same _ _ _ _ _ (by decide)
  · rw [read (by unfold aRing; omega), State.reg_setCommitSt_entry _ _ _ _ high]

/-- Shadow copies that fail R114 end the commit with RESULT 2. -/
theorem runs_commitValidateDone_bad (validate : s.rf aCommitSt 6 4 = 1) (bad : s.shadowBad = true) :
    Runs .commitValidateDone s (fun t => t = s.commitEnd 2 stFit) := by
  refine Runs.of ?_ rfl
  show execCommitValidateDone s = _
  unfold execCommitValidateDone
  rw [if_neg (by omega), if_pos bad]

/-- Shadow copies that pass take the commit to CLOSING, and at once to its end when nothing changed. -/
theorem runs_commitValidateDone_good (validate : s.rf aCommitSt 6 4 = 1) (good : s.shadowBad = false) :
    Runs .commitValidateDone s (fun t => t = if s.changedRoutes = [] ∧ s.changedMcast = [] then
      (s.setRf aCommitSt 6 4 2).commitApply else s.setRf aCommitSt 6 4 2) := by
  refine Runs.of ?_ rfl
  show execCommitValidateDone s = _
  unfold execCommitValidateDone
  rw [if_neg (by omega), if_neg (by simp [good])]
  simp only [State.setRf, State.setCommitSt_changedRoutes, State.setCommitSt_changedMcast]

theorem runs_commitDrained (closing : s.rf aCommitSt 6 4 = 2) (drained : s.commitDrained = true) :
    Runs .commitDrained s (fun t => t = s.commitApply) :=
  Runs.of (if_pos ⟨by simp [State.closing, closing], drained⟩) rfl

theorem runs_drainLimitExpire (closing : s.rf aCommitSt 6 4 = 2) :
    Runs .drainLimitExpire s (fun t => t = s.commitEnd 3 stBusy) :=
  Runs.of (congrArg Host.Outcome.next (if_pos (by simp [State.closing, closing]))) rfl

theorem runs_commitAbort (req : s.commitReq src 1 = true) (closing : s.rf aCommitSt 6 4 = 2) :
    Runs (.commitAbort src) s (fun t => t = (s.commitEnd 4 stBusy).commitAnswer src) := by
  refine Runs.of ?_ rfl
  show execCommitAbort src s = _
  unfold execCommitAbort
  rw [if_neg (by simp [req]), if_pos (by simp [State.closing, closing])]

theorem runs_commitSync (req : s.commitReq src 2 = true) (idle : s.rf aCommitSt 0 0 = 0) :
    Runs (.commitSync src) s (fun t => t = s.syncShadow.commitAnswer src) := by
  refine Runs.of ?_ rfl
  show execCommitSync src s = _
  unfold execCommitSync
  rw [if_neg (by simp [req]), if_neg (by omega)]
  rfl

end Commit

/-! ### The statement -/

section Statement
variable {s : State}

/-- The end of a commit leaves every route entry. -/
theorem State.commitEnd_routes (s : State) (r st : Nat) :
    ∀ i ∈ s.allRoutes, ∀ w ∈ List.range 8, (s.commitEnd r st).reg (aRoute i w) = s.reg (aRoute i w) :=
  routes_kept fun _ => s.reg_commitEnd_entry r st

/-- A commit with nothing to take leaves the entries. -/
theorem State.commitApply_unchanged (tag : s.flows.commitTag = none)
    (same : s.changedRoutes = [] ∧ s.changedMcast = []) :
    s.commitApply = s.uncut.commitEnd 1 stOk := by
  rw [s.commitApply_untagged tag (.inr same), State.takeShadow, same.1, same.2]
  rfl

theorem State.reg_uncut_entry (s : State) {a : Nat} (low : 0x02000000 ≤ a) : s.uncut.reg a = s.reg a :=
  s.reg_uncut (by omega) (by unfold aLogHead; omega) (by unfold aLogLost; omega)

/-- What a commit that takes the shadow copies leaves. -/
theorem State.commitApply_takes (tag : s.flows.commitTag = none) (single : s.role ≠ 1) :
    (∀ i ∈ s.changedRoutes, ∀ w ∈ List.range 8, s.commitApply.reg (aRoute i w) = s.reg (aRouteSh i w)) ∧
    (∀ g ∈ s.changedMcast, ∀ w ∈ List.range 16, s.commitApply.reg (aMcast g w) = s.reg (aMcastSh g w)) ∧
    s.commitApply.rf aCommitSt 0 0 = 0 ∧ s.commitApply.rf aCommitSt 3 1 = 1 ∧ s.commitApply.rf aCommitSt 6 4 = 0 ∧
    s.commitApply.mem = s.mem := by
  rw [s.commitApply_untagged tag (.inl single)]
  obtain ⟨busy, result, phase⟩ := s.takeShadow.uncut.rf_commitEnd 1 stOk
  refine ⟨fun i hi w hw => ?_, fun g hg w hw => ?_, busy, result, phase, ?_⟩
  · have := s.mem_changedRoutes_lt hi
    have word := List.mem_range.mp hw
    rw [State.reg_commitEnd_entry _ _ _ (by unfold aRoute; omega) (by unfold aRoute; omega),
      State.reg_uncut_entry _ (by unfold aRoute; omega), s.takeShadow_route hi word]
  · have := s.mem_changedMcast_lt hg
    have word := List.mem_range.mp hw
    rw [State.reg_commitEnd_entry _ _ _ (by unfold aMcast; omega) (by unfold aMcast; omega),
      State.reg_uncut_entry _ (by unfold aMcast; omega), s.takeShadow_mcast hg word]
  · rw [State.commitEnd_mem, State.uncut_mem, State.takeShadow_mem]

/-- SYNC gives the shadow copies what is active, and leaves that. -/
theorem State.commitSync_takes (src : Src) :
    (∀ i ∈ s.changedRoutes, ∀ w ∈ List.range 8,
      (s.syncShadow.commitAnswer src).reg (aRouteSh i w) = s.reg (aRoute i w)) ∧
    (∀ i ∈ s.allRoutes, ∀ w ∈ List.range 8,
      (s.syncShadow.commitAnswer src).reg (aRoute i w) = s.reg (aRoute i w)) ∧
    (s.syncShadow.commitAnswer src).mem = s.mem := by
  refine ⟨fun i hi w hw => ?_, fun i hi w hw => ?_, ?_⟩
  · rw [State.commitAnswer, State.reg_answer _ _ _ _ (by unfold aRouteSh aRing; omega)]
    exact s.syncShadow_route hi (List.mem_range.mp hw)
  · rw [State.commitAnswer, State.reg_answer _ _ _ _ (by unfold aRoute aRing; omega)]
    exact s.syncShadow_active (s.mem_allRoutes_lt hi) (List.mem_range.mp hw)
  · rw [State.commitAnswer, State.answer_mem, State.syncShadow_mem]

/-- Settles O34: a commit writes its own status, and the entries when it takes them. -/
theorem tablesCommitDrainFirst : Obligations.TablesCommitDrainFirst := by
  unfold Obligations.TablesCommitDrainFirst
  intro s
  refine ⟨fun src req idle => ⟨runs_commitStart req idle, runs_commitStart_fallback req idle⟩,
    fun validate bad => ?_, fun closing drained tag single _ _ => ?_, fun closing tag => ?_,
    fun src req closing tag => ?_, fun src req idle _ _ => ?_, fun validate good changed => ?_,
    fun validate good same tag => ?_, fun path ok v up fire => ⟨?_, ?_, ?_⟩⟩
  · obtain ⟨_, run, rfl⟩ := runs_commitValidateDone_bad validate bad
    obtain ⟨busy, result, phase⟩ := s.rf_commitEnd 2 stFit
    exact Runs.of run ⟨busy, result, phase, s.commitEnd_routes 2 stFit⟩
  · obtain ⟨_, run, rfl⟩ := runs_commitDrained closing drained
    exact Runs.of run (State.commitApply_takes tag single)
  · obtain ⟨_, run, rfl⟩ := runs_drainLimitExpire closing
    obtain ⟨busy, result, phase⟩ := s.rf_commitEnd 3 stBusy
    exact Runs.of run ⟨result, busy, phase, s.commitEnd_routes 3 stBusy⟩
  · obtain ⟨_, run, rfl⟩ := runs_commitAbort req closing
    have read {a : Nat} (h : a ≠ aRing 1 + 0x10) :
        ((s.commitEnd 4 stBusy).commitAnswer src).reg a = (s.commitEnd 4 stBusy).reg a := State.reg_answer _ _ _ _ h
    obtain ⟨busy, result, -⟩ := s.rf_commitEnd 4 stBusy
    refine Runs.of run ⟨?_, ?_, routes_kept fun a low high => ?_⟩
    · rw [State.rf, read (by decide)]
      exact result
    · rw [State.rf, read (by decide)]
      exact busy
    · rw [read (by unfold aRing; omega), State.reg_commitEnd_entry _ _ _ low high]
  · obtain ⟨_, run, rfl⟩ := runs_commitSync req idle
    exact Runs.of run (State.commitSync_takes src)
  · obtain ⟨_, run, rfl⟩ := runs_commitValidateDone_good validate good
    refine Runs.of run ?_
    rw [if_neg fun same => changed.elim (· same.1) (· same.2)]
    refine ⟨State.rf_setRf_same _ _ _ _ _ (by decide), State.rf_setRf_other _ _ _ _ _ _ _ (by decide),
      routes_kept fun a _ high => State.reg_setCommitSt_entry _ _ _ _ high⟩
  · obtain ⟨_, run, rfl⟩ := runs_commitValidateDone_good validate good
    refine Runs.of run ?_
    have same' : (s.setRf aCommitSt 6 4 2).changedRoutes = [] ∧ (s.setRf aCommitSt 6 4 2).changedMcast = [] := by
      rw [State.setRf, State.setCommitSt_changedRoutes, State.setCommitSt_changedMcast]
      exact same
    rw [if_pos same, State.commitApply_unchanged (s := s.setRf aCommitSt 6 4 2) tag same']
    obtain ⟨busy, result, phase⟩ := (s.setRf aCommitSt 6 4 2).uncut.rf_commitEnd 1 stOk
    refine ⟨busy, result, phase, routes_kept fun a low high => ?_⟩
    rw [State.reg_commitEnd_entry _ _ _ low high, State.reg_uncut_entry _ low, State.reg_setCommitSt_entry _ _ _ _ high]
  · exact Runs.of (if_pos ⟨ok, up, fire⟩) rfl
  · exact Runs.of (if_pos ⟨ok, up, fire⟩) rfl
  · exact Runs.of (if_pos ⟨ok, up, fire⟩) rfl

end Statement

end Sys2Proof.Machine
end

section
/-!
The bobbin pool of a cluster (R182, R183, R186, R191, R193, R195, R196): what taking a carve writes and leaves, how an
APPLY comes out, and what a waiting draw that is served leaves.
-/

namespace Sys2Proof.Machine

/-! ### The registers of the pool, and the carve (R182) -/

section Carve
variable (s : State) (c : Nat)

theorem aCarve_inj {j k : Nat} : aCarve c j = aCarve c k ↔ j = k := by
  unfold aCarve
  omega

theorem aCarve_ne_aApply {k : Nat} (h : k < 5) : aCarve c k ≠ aApply c := by
  unfold aCarve aApply
  omega

theorem aDfLog_inj {i j : Nat} : aDfLog c i = aDfLog c j ↔ i = j := by
  unfold aDfLog
  omega

/-- SEG_PENDING of one class becomes its SEG_ACTIVE. -/
def State.carveClass (c : Nat) (s : State) (k : Nat) : State := s.setRf (aCarve c k) 25 16 (s.rf (aCarve c k) 9 0)

theorem State.carve_eq_foldl : s.carve c = (List.range 5).foldl (State.carveClass c) s := rfl

theorem State.carve_pools : (s.carve c).pools = s.pools := by
  rw [State.carve_eq_foldl]
  exact foldl_read State.pools (f := State.carveClass c) (fun _ _ => rfl) _ _

theorem State.rf_carveClass_pending (j k : Nat) :
    (s.carveClass c j).rf (aCarve c k) 9 0 = s.rf (aCarve c k) 9 0 := by
  by_cases h : k = j
  · subst h
    exact s.rf_setRf_other _ _ _ _ _ _ (by decide)
  · exact s.rf_setRf_ne _ _ _ _ _ (mt (aCarve_inj c).mp h)

theorem State.rf_carveClass_active (j k : Nat) :
    (s.carveClass c j).rf (aCarve c k) 25 16 =
      if k = j then s.rf (aCarve c k) 9 0 else s.rf (aCarve c k) 25 16 := by
  split
  next h =>
    subst h
    exact (s.rf_setRf_same _ _ _ _ (by decide)).trans (Nat.mod_eq_of_lt (fld_lt _ 9 0))
  next h => exact s.rf_setRf_ne _ _ _ _ _ (mt (aCarve_inj c).mp h)

/-- The classes of a list take SEG_PENDING, the others keep what is active. -/
theorem State.rf_foldl_carveClass (l : List Nat) (k : Nat) :
    (l.foldl (State.carveClass c) s).rf (aCarve c k) 25 16 =
      if k ∈ l then s.rf (aCarve c k) 9 0 else s.rf (aCarve c k) 25 16 := by
  induction l generalizing s with
  | nil => rfl
  | cons j r ih =>
    rw [List.foldl_cons, ih, State.rf_carveClass_pending, State.rf_carveClass_active]
    by_cases later : k ∈ r <;> simp [later]

theorem State.rf_carve {k : Nat} (h : k ∈ List.range 5) : (s.carve c).rf (aCarve c k) 25 16 = s.rf (aCarve c k) 9 0 := by
  rw [State.carve_eq_foldl, State.rf_foldl_carveClass, if_pos h]

end Carve

/-! ### How an APPLY comes out (R182, R193) -/

section Apply
variable {s : State} {c : Nat}

theorem State.applyResult_refusedState (h : s.fallback = true ∨ (s.pool c).held ≠ [] ∨ (s.pool c).waits ≠ []) :
    s.applyResult c = 2 := by
  unfold State.applyResult
  dsimp only
  split
  · rfl
  next up =>
    refine if_pos ?_
    simpa [up] using h

/-- On an empty pool the carve alone decides. -/
theorem State.applyResult_empty (up : s.fallback = false) (held : (s.pool c).held = []) (waits : (s.pool c).waits = []) :
    s.applyResult c =
      if 512 < sumNat (s.segPending c) then 3
      else if (List.range 5).any (fun k => decide (s.rf (aCarve c k) 9 0 * bufsPerSeg k < (s.pool c).rsv k)) then 3
      else 1 := by
  unfold State.applyResult
  dsimp only
  rw [up, held, waits]
  rfl

theorem State.applyResult_refusedFit (up : s.fallback = false) (held : (s.pool c).held = [])
    (waits : (s.pool c).waits = []) (big : 512 < sumNat (s.segPending c)) : s.applyResult c = 3 := by
  rw [State.applyResult_empty up held waits, if_pos big]

theorem State.applyResult_done (up : s.fallback = false) (held : (s.pool c).held = []) (waits : (s.pool c).waits = [])
    (fits : sumNat (s.segPending c) ≤ 512)
    (reserved : ∀ k ∈ List.range 5, (s.pool c).rsv k ≤ s.rf (aCarve c k) 9 0 * bufsPerSeg k) : s.applyResult c = 1 := by
  rw [State.applyResult_empty up held waits, if_neg fits.not_gt, if_neg]
  intro short
  obtain ⟨k, hk, less⟩ := List.any_eq_true.mp short
  exact (reserved k hk).not_gt (of_decide_eq_true less)

end Apply

/-! ### The commands of the pool -/

section Commands
variable {s : State} {path : Path} {c : Nat} {v : Word}

/-- RESULT of APPLY reads the outcome, and its write leaves the carve and the pools. -/
theorem State.setRf_aApply (s : State) (c : Nat) {r : Nat} (small : r < 8) :
    (s.setRf (aApply c) 3 1 r).rf (aApply c) 3 1 = r ∧ (s.setRf (aApply c) 3 1 r).pools = s.pools ∧
    ∀ k ∈ List.range 5, (s.setRf (aApply c) 3 1 r).rf (aCarve c k) 25 16 = s.rf (aCarve c k) 25 16 :=
  ⟨(s.rf_setRf_same _ _ _ _ (by decide)).trans (Nat.mod_eq_of_lt small), rfl, fun _ hk =>
    s.rf_setRf_ne _ _ _ _ _ (aCarve_ne_aApply c (List.mem_range.mp hk))⟩

theorem runs_bobApply_done (here : c < 8 ∧ s.pathOk path = true ∧ fld v 0 0 = 1 ∧ s.isOff (dSw c) = false)
    (done : s.applyResult c = 1) :
    Runs (.bobApply path c v) s (fun t => t.rf (aApply c) 3 1 = 1 ∧ t.pools = s.pools ∧
      ∀ k ∈ List.range 5, t.rf (aCarve c k) 25 16 = s.rf (aCarve c k) 9 0) := by
  have run : exec (.bobApply path c v) s = .next ((s.carve c).setRf (aApply c) 3 1 1) := by
    show execBobApply path c v s = _
    unfold execBobApply
    rw [if_pos here, done]
    rfl
  obtain ⟨result, pools, carve⟩ := (s.carve c).setRf_aApply c (r := 1) (by decide)
  exact Runs.of run ⟨result, pools.trans (s.carve_pools c), fun k hk => (carve k hk).trans (s.rf_carve c hk)⟩

theorem runs_bobApply_refused {r : Nat} (here : c < 8 ∧ s.pathOk path = true ∧ fld v 0 0 = 1 ∧ s.isOff (dSw c) = false)
    (refused : s.applyResult c = r) (not_done : r ≠ 1) (small : r < 8) :
    Runs (.bobApply path c v) s (fun t => t.rf (aApply c) 3 1 = r ∧ t.pools = s.pools ∧
      ∀ k ∈ List.range 5, t.rf (aCarve c k) 25 16 = s.rf (aCarve c k) 25 16) := by
  refine Runs.of (t := s.setRf (aApply c) 3 1 r) ?_ (s.setRf_aApply c small)
  show execBobApply path c v s = _
  unfold execBobApply
  rw [if_pos here, refused]
  dsimp only
  rw [if_neg not_done]

/-- A draw holds one buffer more, of its class and for its holder. -/
theorem State.pool_poolDraw (s : State) (c k : Nat) (rsvd : Bool) (h : Holder) :
    ((s.poolDraw c k rsvd h).2.pool c).waits = (s.pool c).waits ∧
    ((s.poolDraw c k rsvd h).2.pool c).rsvs = (s.pool c).rsvs ∧
    ∃ i, ((s.poolDraw c k rsvd h).2.pool c).held = ⟨k, i, rsvd, h⟩ :: (s.pool c).held := by
  unfold State.poolDraw
  dsimp only
  rw [State.pool_setPool, if_pos rfl]
  exact ⟨rfl, rfl, _, rfl⟩

/-- A draw that is served leaves the waiting draws and holds a buffer of the class that serves it. -/
theorem runs_bobDrawServed {cls j : Nat} {d : Draw}
    (oldest : (s.pool c).waits.find? (fun y => decide (y.cls = cls)) = some d)
    (serves : s.drawClass c cls ((s.pool c).waits.takeWhile (fun y => decide (y.cls ≠ cls))) = some j) :
    Runs (.bobDrawServed c cls) s (fun t => t.regs = s.regs ∧
      (t.pool c).waits = delFirst (fun y => decide (y = d)) (s.pool c).waits ∧ (t.pool c).rsvs = (s.pool c).rsvs ∧
      ∃ i, (t.pool c).held = ⟨j, i, false, d.holder⟩ :: (s.pool c).held) := by
  have run : exec (.bobDrawServed c cls) s = .next (State.poolDraw
      (s.setPool c { s.pool c with waits := delFirst (fun y => decide (y = d)) (s.pool c).waits })
      c j false d.holder).2 := by
    show execBobDrawServed c cls s = _
    unfold execBobDrawServed
    rw [oldest, serves]
  refine Runs.of run ⟨rfl, ?_⟩
  have drawn := State.pool_poolDraw
    (s.setPool c { s.pool c with waits := delFirst (fun y => decide (y = d)) (s.pool c).waits }) c j false d.holder
  rw [State.pool_setPool, if_pos rfl] at drawn
  exact drawn

/-- The words of the double-free record read 0, and the pools stay. -/
theorem runs_bobDfLogClear (here : c < 8 ∧ s.pathOk path = true ∧ fld v 31 31 = 1 ∧ s.isOff (dSw c) = false) :
    Runs (.bobDfLogClear path c v) s (fun t => (∀ i ∈ List.range 4, t.reg (aDfLog c i) = 0) ∧ t.pools = s.pools) := by
  have run : exec (.bobDfLogClear path c v) s = .next ((((s.setReg (aDfLog c 0) 0).setReg (aDfLog c 1) 0).setReg
      (aDfLog c 2) 0).setReg (aDfLog c 3) 0) := by
    show execBobDfLogClear path c v s = _
    unfold execBobDfLogClear
    rw [if_pos here]
  refine Runs.of run ⟨fun i hi => ?_, by iterate 4 rw [State.setReg_pools]⟩
  have word : i < 4 := List.mem_range.mp hi
  simp only [State.reg_setReg, aDfLog_inj]
  interval_cases i <;> rfl

end Commands

/-- Settles O29: an APPLY writes the carve only when it is done, and a draw that is served is the newest held. -/
theorem poolCarvesDrawsAndClears : Obligations.PoolCarvesDrawsAndClears := by
  unfold Obligations.PoolCarvesDrawsAndClears
  intro s
  refine ⟨fun c cls d j oldest serves => ?_, fun path ok => ⟨fun c v low fire on => ⟨fun up held waits =>
    ⟨fun fits reserved => ?_, fun big => ?_⟩, ?_, fun busy => ?_⟩, fun c v low fire on => ?_⟩⟩
  · obtain ⟨_, run, regs, waits, rsvs, i, held⟩ := runs_bobDrawServed oldest serves
    exact Runs.of run ⟨waits, by rw [held, List.length_cons], by rw [held]; rfl, rsvs, regs⟩
  · obtain ⟨_, run, result, pools, carve⟩ := runs_bobApply_done ⟨low, ok, fire, on⟩
      (State.applyResult_done up held waits fits reserved)
    exact Runs.of run ⟨carve, result, pools⟩
  · obtain ⟨_, run, result, -, carve⟩ := runs_bobApply_refused ⟨low, ok, fire, on⟩
      (State.applyResult_refusedFit up held waits big) (by decide) (by decide)
    exact Runs.of run ⟨carve, result⟩
  · exact Runs.of (if_pos ⟨low, ok, fire, on⟩) rfl
  · obtain ⟨_, run, result, pools, carve⟩ := runs_bobApply_refused ⟨low, ok, fire, on⟩
      (State.applyResult_refusedState busy) (by decide) (by decide)
    exact Runs.of run ⟨carve, result, pools⟩
  · exact runs_bobDfLogClear ⟨low, ok, fire, on⟩

end Sys2Proof.Machine
end

section
/-!
The exact accumulator (R201 to R204).  An accumulator is the word of a set of flags and of an integer that VAL holds
modulo 2^316 (`accWord`); a value adds its flag to the one and its multiple of 2^-156 to the other, so that a fold is
the word of the OR of the flags and of the sum, whatever the order and the grouping of the values.
-/

namespace Sys2Proof.Machine

/-! ### Integers in the low bits of a word -/

theorem ofSigned_lt (n : Nat) (i : Int) : ofSigned n i < 2 ^ n := by
  have pos : (0 : Int) < ((2 ^ n : Nat) : Int) := by exact_mod_cast Nat.two_pow_pos n
  have below := Int.emod_lt_of_pos i pos
  have nonneg := Int.emod_nonneg i pos.ne'
  unfold ofSigned
  omega

theorem cast_ofSigned (n : Nat) (i : Int) : (ofSigned n i : Int) = i % ((2 ^ n : Nat) : Int) := by
  have pos : ((2 ^ n : Nat) : Int) ≠ 0 := by exact_mod_cast (Nat.two_pow_pos n).ne'
  exact Int.toNat_of_nonneg (Int.emod_nonneg i pos)

theorem ofSigned_cast {n x : Nat} (small : x < 2 ^ n) : ofSigned n x = x := by
  apply Int.ofNat_inj.mp
  rw [cast_ofSigned]
  exact_mod_cast Nat.mod_eq_of_lt small

/-- What is added to the bits of an integer may as well be added to the integer. -/
theorem ofSigned_cast_add (n : Nat) (i j : Int) : ofSigned n ((ofSigned n i : Int) + j) = ofSigned n (i + j) := by
  rw [ofSigned, cast_ofSigned, Int.emod_add_emod, ← ofSigned]

theorem ofSigned_add_mod (n : Nat) (i j : Int) : (ofSigned n i + ofSigned n j) % 2 ^ n = ofSigned n (i + j) := by
  apply Int.ofNat_inj.mp
  rw [cast_ofSigned, Int.natCast_mod, Nat.cast_add, cast_ofSigned, cast_ofSigned, ← Int.add_emod]

/-- The low bits of an integer within their range stand for it. -/
theorem toSigned_ofSigned {n : Nat} {i : Int} (low : -2 ^ n ≤ i) (high : i < 2 ^ n) :
    toSigned (n + 1) (ofSigned (n + 1) i) = i := by
  have double : ((2 ^ (n + 1) : Nat) : Int) = 2 * 2 ^ n := by push_cast; ring
  have half : ((2 ^ n : Nat) : Int) = 2 ^ n := by push_cast; rfl
  have word := cast_ofSigned (n + 1) i
  have small := Nat.mod_eq_of_lt (ofSigned_lt (n + 1) i)
  unfold toSigned
  dsimp only
  rw [small, Nat.add_sub_cancel]
  rcases lt_or_ge i 0 with neg | nonneg
  · have wrapped : i % ((2 ^ (n + 1) : Nat) : Int) = i + 2 * 2 ^ n := by
      rw [← Int.add_emod_right, double]
      exact Int.emod_eq_of_lt (by omega) (by omega)
    rw [if_neg (by omega)]
    omega
  · have kept : i % ((2 ^ (n + 1) : Nat) : Int) = i := Int.emod_eq_of_lt nonneg (by omega)
    rw [if_pos (by omega)]
    omega

/-! ### Flags and sum of an accumulator -/

/-- The flag that a value sets, of NAN, PINF and NINF in bits 2 to 0. -/
def accFlag : Fp → Nat
  | .nan => 4
  | .inf false => 2
  | .inf true => 1
  | .fin _ _ _ => 0

/-- What a value adds to VAL, in units of 2^-156. -/
def accTerm : Fp → Int
  | .fin n m e => signed n (scaleTo m e (-156))
  | _ => 0

/-- The accumulator of a set of flags and an integer. -/
def accWord (flags : Nat) (sum : Int) : Nat := flags * 2 ^ 317 + ofSigned 316 sum

theorem accWord_noFlag (sum : Int) : accWord 0 sum = ofSigned 316 sum := by
  unfold accWord
  omega

theorem accWord_val (flags : Nat) (sum : Int) : accWord flags sum % 2 ^ 316 = ofSigned 316 sum := by
  have small := ofSigned_lt 316 sum
  unfold accWord
  omega

theorem accWord_flags (flags : Nat) (sum : Int) : accWord flags sum / 2 ^ 317 = flags := by
  have small := ofSigned_lt 316 sum
  unfold accWord
  omega

/-- Bit 316, between the flags and VAL, stays 0. -/
theorem accWord_above (flags : Nat) (sum : Int) : accWord flags sum / 2 ^ 316 = 2 * flags := by
  have small := ofSigned_lt 316 sum
  unfold accWord
  omega

/-- A value of whichever kind adds its flag to the flags and its multiple to VAL (R202). -/
theorem accAdd_eq (a : Nat) (v : Fp) :
    accAdd a v = (a / 2 ^ 316 ||| 2 * accFlag v) * 2 ^ 316 + ofSigned 316 (((a % 2 ^ 316 : Nat) : Int) + accTerm v) := by
  have kept : ofSigned 316 (((a % 2 ^ 316 : Nat) : Int) + 0) = a % 2 ^ 316 := by
    rw [Int.add_zero, ofSigned_cast (Nat.mod_lt _ (Nat.two_pow_pos _))]
  rcases v with _ | ⟨_ | _⟩ | _
  · exact congrArg ((a / 2 ^ 316 ||| 8) * 2 ^ 316 + ·) kept.symm
  · exact congrArg ((a / 2 ^ 316 ||| 4) * 2 ^ 316 + ·) kept.symm
  · exact congrArg ((a / 2 ^ 316 ||| 2) * 2 ^ 316 + ·) kept.symm
  · exact congrArg (· * 2 ^ 316 + _) (Nat.or_zero _).symm

theorem accAdd_accWord (flags : Nat) (sum : Int) (v : Fp) :
    accAdd (accWord flags sum) v = accWord (flags ||| accFlag v) (sum + accTerm v) := by
  have double : 2 * flags ||| 2 * accFlag v = 2 * (flags ||| accFlag v) := by
    simpa [Nat.shiftLeft_eq, Nat.mul_comm] using (Nat.shiftLeft_or_distrib (i := 1) (a := flags) (b := accFlag v)).symm
  rw [accAdd_eq, accWord_above, accWord_val, ofSigned_cast_add, double]
  unfold accWord
  omega

/-! ### Folding a list of values -/

/-- The OR of the flags of a list of values. -/
def accFlags (l : List Fp) : Nat := (l.map accFlag).foldr (· ||| ·) 0

/-- The sum of a list of values, in units of 2^-156. -/
def accSum (l : List Fp) : Int := (l.map accTerm).sum

theorem foldl_accAdd_accWord (l : List Fp) (flags : Nat) (sum : Int) :
    l.foldl accAdd (accWord flags sum) = accWord (flags ||| accFlags l) (sum + accSum l) := by
  induction l generalizing flags sum with
  | nil => simp [accFlags, accSum]
  | cons v r ih =>
    rw [List.foldl_cons, accAdd_accWord, ih]
    simp [accFlags, accSum, Nat.or_assoc, Int.add_assoc]

theorem foldl_accAdd (l : List Fp) : l.foldl accAdd 0 = accWord (accFlags l) (accSum l) := by
  have empty : accWord 0 0 = 0 := by rw [accWord_noFlag, ofSigned, Int.zero_emod, Int.toNat_zero]
  have fold := foldl_accAdd_accWord l 0 0
  rwa [empty, Nat.zero_or, Int.zero_add] at fold

theorem accFlags_perm {l l' : List Fp} (h : l.Perm l') : accFlags l = accFlags l' :=
  (h.map accFlag).foldr_op_eq

theorem accSum_perm {l l' : List Fp} (h : l.Perm l') : accSum l = accSum l' := (h.map accTerm).sum_eq

theorem accFlags_append (l l' : List Fp) : accFlags (l ++ l') = accFlags l ||| accFlags l' := by
  induction l with
  | nil => simp [accFlags]
  | cons v r ih =>
    calc accFlags (v :: r ++ l') = accFlag v ||| accFlags (r ++ l') := rfl
      _ = accFlag v ||| accFlags r ||| accFlags l' := by rw [ih, Nat.or_assoc]

theorem accSum_append (l l' : List Fp) : accSum (l ++ l') = accSum l + accSum l' := by simp [accSum]

/-! ### Merging two accumulators (R203) -/

theorem accMerge_val (a b : Nat) : accMerge a b % 2 ^ 316 = (a % 2 ^ 316 + b % 2 ^ 316) % 2 ^ 316 := by
  unfold accMerge
  omega

theorem accMerge_flags (a b : Nat) : accMerge a b / 2 ^ 317 = (a / 2 ^ 317) ||| (b / 2 ^ 317) := by
  unfold accMerge
  omega

theorem accMerge_accWord (f g : Nat) (x y : Int) :
    accMerge (accWord f x) (accWord g y) = accWord (f ||| g) (x + y) := by
  unfold accMerge
  rw [accWord_flags, accWord_flags, accWord_val, accWord_val, ofSigned_add_mod]
  rfl

/-! ### The value of an accumulator (R204) -/

/-- Without a flag, and with the sum in the range of VAL, the accumulator stands for the sum. -/
theorem accVal_accWord {sum : Int} (low : -2 ^ 315 ≤ sum) (high : sum < 2 ^ 315) :
    accVal (accWord 0 sum) = .fin (decide (sum < 0)) sum.natAbs (-156) := by
  have clear {i : Nat} (hi : 316 ≤ i) : bit (ofSigned 316 sum) i = false :=
    Nat.testBit_lt_two_pow ((ofSigned_lt 316 sum).trans_le (Nat.pow_le_pow_right (by decide) hi))
  unfold accVal
  rw [accWord_noFlag, clear (by decide), clear (by decide), clear (by decide), toSigned_ofSigned (n := 315) low high]
  rfl

/-- Finite values set no flag. -/
theorem accFlags_fin (l : List (Bool × Nat × Int)) : accFlags (l.map fun x => .fin x.1 x.2.1 x.2.2) = 0 := by
  induction l with
  | nil => rfl
  | cons x r ih => exact (Nat.zero_or _).trans ih

theorem accSum_fin (l : List (Bool × Nat × Int)) :
    accSum (l.map fun x => .fin x.1 x.2.1 x.2.2) = (l.map fun x => signed x.1 (scaleTo x.2.1 x.2.2 (-156))).sum := by
  unfold accSum
  rw [List.map_map]
  rfl

/-- Settles O30: a fold is the word of the OR of the flags and of the sum, which order and grouping leave. -/
theorem exactSumIgnoresOrderAndShape : Obligations.ExactSumIgnoresOrderAndShape := by
  unfold Obligations.ExactSumIgnoresOrderAndShape
  refine ⟨fun a b => ⟨accMerge_val a b, accMerge_flags a b⟩, fun l l' perm => ?_, fun l l' => ?_,
    fun l sum total low high => ?_⟩
  · rw [foldl_accAdd, foldl_accAdd, accFlags_perm perm, accSum_perm perm]
  · rw [foldl_accAdd, foldl_accAdd, foldl_accAdd, accMerge_accWord, accFlags_append, accSum_append]
  · rw [foldl_accAdd, accFlags_fin, accSum_fin, ← total]
    exact accVal_accWord low high

end Sys2Proof.Machine
end

section
/-!
Contributions (R219, R220): what stands in the slot of a chunk after a fold, which registers the count of folded
elements leaves, and the state that an accepted contribution to an open chunk ends in.
-/

namespace Sys2Proof.Machine

/-! ### The first element that is changed -/

section Lists
variable {α : Type} {p : α → Bool} {f : α → α}

/-- The first element of a test is changed in its place, if the change meets the test. -/
theorem find?_updFirst_changed {l : List α} {a : α} (found : l.find? p = some a) (hf : p (f a) = true) :
    (updFirst p f l).find? p = some (f a) := by
  induction l with
  | nil => cases found
  | cons x r ih =>
    unfold updFirst
    cases hx : p x with
    | true =>
      rw [List.find?_cons_of_pos hx, Option.some.injEq] at found
      subst found
      rw [if_pos rfl, List.find?_cons_of_pos hf]
    | false =>
      rw [List.find?_cons_of_neg (by simp [hx])] at found
      rw [if_neg (by decide), List.find?_cons_of_neg (by simp [hx])]
      exact ih found

/-- What stands in the list after the change stood there, or is the change of an element of the test. -/
theorem mem_updFirst {l : List α} {z : α} (h : z ∈ updFirst p f l) : z ∈ l ∨ ∃ a, p a = true ∧ z = f a := by
  induction l with
  | nil => cases h
  | cons x r ih =>
    unfold updFirst at h
    split at h
    next hx =>
      obtain rfl | later := List.mem_cons.mp h
      · exact .inr ⟨x, hx, rfl⟩
      · exact .inl (.tail _ later)
    next =>
      obtain rfl | later := List.mem_cons.mp h
      · exact .inl (.head _)
      · exact (ih later).imp_left (.tail _)

end Lists

/-! ### The slot of a chunk -/

section Slots
variable {s : State} {g gc : Nat} {f : Slot → Slot}

theorem State.group_updSlot : (s.updSlot g gc f).group g =
    { s.group g with slots := updFirst (fun y => decide (y.chunk = gc)) f (s.group g).slots } := by
  unfold State.updSlot
  rw [State.group_setGroup, if_pos rfl]

theorem State.updSlot_mem (s : State) (g gc : Nat) (f : Slot → Slot) : (s.updSlot g gc f).mem = s.mem := rfl

theorem State.slot_chunk {y : Slot} (found : s.slot g gc = some y) : y.chunk = gc := by
  simpa using List.find?_some found

theorem State.slot_updSlot {y : Slot} (found : s.slot g gc = some y) (kept : ∀ y, (f y).chunk = y.chunk) :
    (s.updSlot g gc f).slot g gc = some (f y) := by
  unfold State.slot
  rw [State.group_updSlot]
  exact find?_updFirst_changed found (decide_eq_true ((kept y).trans (State.slot_chunk found)))

/-- The slots of the other chunks stand as before. -/
theorem State.mem_slots_updSlot {z : Slot} (kept : ∀ y, (f y).chunk = y.chunk)
    (h : z ∈ ((s.updSlot g gc f).group g).slots) (other : z.chunk ≠ gc) : z ∈ (s.group g).slots := by
  rw [State.group_updSlot] at h
  obtain stood | ⟨y, hy, rfl⟩ := mem_updFirst h
  · exact stood
  · exact absurd ((kept y).trans (of_decide_eq_true hy)) other

theorem State.fold_chunk (s : State) (g m ofs n fmt : Nat) (data : List Byte) (y : Slot) :
    (s.fold g m ofs n fmt data y).chunk = y.chunk := by
  unfold State.fold
  dsimp only
  repeat' split
  all_goals rfl

/-- A chunk that is not complete stays open (R220, step 3). -/
theorem State.chunkEnd_open {y : Slot} (found : s.slot g gc = some y)
    (more : s.chunkDone g (gc % s.gC g) y = false) : s.chunkEnd g gc = s := by
  unfold State.chunkEnd
  rw [found]
  dsimp only
  rw [more]
  simp

end Slots

/-! ### What is read of the fields of a group -/

section Fields
variable {s t : State} {g : Nat}

theorem State.gf_updSlot (s : State) (g gc : Nat) (f : Slot → Slot) (i : Nat) : (s.updSlot g gc f).gf i = s.gf i := rfl

theorem State.fold_of_gf (h : t.gf g = s.gf g) : t.fold g = s.fold g := by
  unfold State.fold State.gEmpty State.gKind State.gMode State.gOp State.gD
  rw [h]

theorem State.gC_of_gf (h : t.gf g = s.gf g) : t.gC g = s.gC g := by
  unfold State.gC State.gE State.gEmpty State.gKind State.gIn State.gD State.gChunk State.gInst
  rw [h]

theorem State.chunkDone_of_gf (h : t.gf g = s.gf g) : t.chunkDone g = s.chunkDone g := by
  unfold State.chunkDone State.contributors State.gElems
  rw [State.gC_of_gf h]
  unfold State.gE State.gEmpty State.gKind State.gMembers State.gIn State.gD State.gChunk State.gInst
  rw [h]

end Fields

/-! ### The count of folded elements (R526) -/

section Elements
variable (s : State) (c ofs n : Nat)

theorem State.evUnit_same (code unit : Nat) : ∃ x, s.evUnit c code unit n = { s with regs := x } := by
  unfold State.evUnit
  split
  · exact ⟨_, rfl⟩
  · exact s.ctrBank_same _ _ _ _ _

theorem State.reedElems_same : ∃ x, s.reedElems c ofs n = { s with regs := x } := by
  refine List.foldlRecOn (motive := fun t : State => ∃ x, t = { s with regs := x }) _ _ ⟨_, rfl⟩ fun t ih r _ => ?_
  obtain ⟨_, rfl⟩ := ih
  exact State.evUnit_same _ _ _ _ _

theorem State.reedElems_mem : (s.reedElems c ofs n).mem = s.mem := by
  obtain ⟨_, same⟩ := s.reedElems_same c ofs n
  rw [same]

theorem State.group_reedElems (g : Nat) : (s.reedElems c ofs n).group g = s.group g := by
  obtain ⟨_, same⟩ := s.reedElems_same c ofs n
  rw [same]
  rfl

variable {c}

theorem State.reg_evUnit {code unit a : Nat} (hc : c < 8) (far : 0x01000000 ≤ a) :
    (s.evUnit c code unit n).reg a = s.reg a := by
  unfold State.evUnit
  split
  · rfl
  · exact s.reg_ctrBank (by unfold aSwx aC; omega)

theorem State.reg_reedElems {a : Nat} (hc : c < 8) (far : 0x01000000 ≤ a) : (s.reedElems c ofs n).reg a = s.reg a :=
  foldl_read (State.reg · a) (fun t _ => t.reg_evUnit _ hc far) _ _

theorem State.gf_reedElems (hc : c < 8) (g : Nat) : (s.reedElems c ofs n).gf g = s.gf g := by
  funext w hi lo
  unfold State.gf State.rf
  rw [s.reg_reedElems ofs n hc (by unfold aGroup; omega)]

/-- The clusters of a group are among the eight of the device. -/
theorem State.gPlace_lt (g chunk : Nat) : s.gPlace g chunk < 8 := by
  unfold State.gPlace State.gClusters bitList
  generalize chunk % _ = i
  rcases Nat.lt_or_ge i ((List.range 8).filter fun j => bit (s.gf g 0 15 8) j).length with inside | past
  · rw [List.getD_eq_getElem _ _ inside]
    exact List.mem_range.mp (List.mem_of_mem_filter (List.getElem_mem inside))
  · rw [List.getD_eq_default _ _ past]
    decide

end Elements

/-! ### An accepted contribution (R219, R220) -/

/-- Member m contributes elements ofs to ofs + n of chunk k, for e the oldest that the group has not finished: what the
checks of R219 ask from the third on, for a chunk whose slot y is open. -/
structure Accepted (s : State) (g m k ofs fmt n e : Nat) (y : Slot) : Prop where
  oldest : (s.group g).oldest = e
  chunk : k < s.gC g
  fresh : s.oldestChunk g ≤ e * s.gC g + k
  window : e * s.gC g + k < s.oldestChunk g + s.gW g
  running : e ∉ (s.group g).failed
  format : fmt = if s.mChild g m then s.partialFmt g else s.gIn g
  range : ofs + n ≤ if s.gEmpty g then 0 else s.gElems g k
  sender : m ∈ s.contributors g k
  plain : mxFmt fmt = none
  slot : s.slot g (e * s.gC g + k) = some y
  room : tabGet (fun _ => 0) y.counts m + (if s.gEmpty g then 1 else n) ≤ if s.gEmpty g then 1 else s.gElems g k

/-- The state that a contribution is folded in: its elements are counted, and its slot is changed. -/
def State.foldIn (s : State) (g m gc ofs fmt n : Nat) (data : List Byte) : State :=
  (s.reedElems (s.gPlace g gc) ofs n).updSlot g gc (s.fold g m ofs n fmt data)

section Contributions
variable {s : State} {g m k ofs fmt n e : Nat} {y : Slot} {data : List Byte}

theorem State.gf_foldIn {gc : Nat} : (s.foldIn g m gc ofs fmt n data).gf g = s.gf g :=
  (State.gf_updSlot ..).trans (s.gf_reedElems ofs n (s.gPlace_lt g gc) g)

theorem State.slot_foldIn {gc : Nat} (found : s.slot g gc = some y) :
    (s.foldIn g m gc ofs fmt n data).slot g gc = some (s.fold g m ofs n fmt data y) := by
  refine State.slot_updSlot ?_ (s.fold_chunk g m ofs n fmt data)
  rwa [State.slot, State.group_reedElems]

theorem State.mem_slots_foldIn {gc : Nat} {z : Slot} (h : z ∈ ((s.foldIn g m gc ofs fmt n data).group g).slots)
    (other : z.chunk ≠ gc) : z ∈ (s.group g).slots := by
  rw [← s.group_reedElems (s.gPlace g gc) ofs n]
  exact State.mem_slots_updSlot (s.fold_chunk g m ofs n fmt data) h other

theorem State.oldest_foldIn {gc : Nat} : ((s.foldIn g m gc ofs fmt n data).group g).oldest = (s.group g).oldest := by
  unfold State.foldIn
  rw [State.group_updSlot, State.group_reedElems]

theorem State.foldIn_mem {gc : Nat} : (s.foldIn g m gc ofs fmt n data).mem = s.mem :=
  (State.updSlot_mem ..).trans (s.reedElems_mem _ _ _)

/-- A contribution that passes every check is folded, and a chunk that it does not complete stays open. -/
theorem State.contribute_accepted (ok : Accepted s g m k ofs fmt n e y) (noGate : s.gKind g ≠ 5)
    (more : s.chunkDone g k (s.fold g m ofs n fmt data y) = false) :
    s.contribute g m k ofs fmt n e data = s.foldIn g m (e * s.gC g + k) ofs fmt n data := by
  have gf : (s.reedElems (s.gPlace g (e * s.gC g + k)) ofs n).gf g = s.gf g := s.gf_reedElems ofs n (s.gPlace_lt g _) g
  have index : (e * s.gC g + k) % s.gC g = k := by
    rw [Nat.mul_comm, Nat.mul_add_mod, Nat.mod_eq_of_lt ok.chunk]
  have stays : (s.foldIn g m (e * s.gC g + k) ofs fmt n data).chunkEnd g (e * s.gC g + k) =
      s.foldIn g m (e * s.gC g + k) ofs fmt n data :=
    State.chunkEnd_open (State.slot_foldIn ok.slot) (by
      rwa [State.gC_of_gf State.gf_foldIn, State.chunkDone_of_gf State.gf_foldIn, index])
  have old : ¬(128 < e - (s.group g).oldest ∨ k < s.gC g ∧ e * s.gC g + k < s.oldestChunk g) := by
    have := ok.fresh
    rw [ok.oldest]
    omega
  have ahead : ¬(k < s.gC g ∧ s.oldestChunk g + s.gW g ≤ e * s.gC g + k) := fun h => absurd ok.window (by omega)
  have gate : (s.foldIn g m (e * s.gC g + k) ofs fmt n data).gKind g ≠ 5 := by
    rwa [State.gKind, State.gf_foldIn]
  unfold State.contribute
  dsimp only
  rw [if_neg old, if_neg ahead, if_neg (by simpa using ok.running)]
  simp only [ok.slot, Option.isNone_some, Option.map_some, Option.getD_some, Bool.false_eq_true, false_and, if_false]
  rw [State.fold_of_gf gf, if_neg]
  · exact (if_neg gate).trans stays
  · simp only [ok.plain, ← ok.format]
    simp [ok.chunk, ok.range, ok.sender, ok.room]

/-! ### What a contribution that comes is checked for first (R219) -/

section Checks
variable {port : Nat} {pkt : Pkt}

/-- EPOCH names the oldest by its low bits. -/
theorem epoch_oldest {b : Nat} (h : b = e % 256) : e + (b + 256 - e % 256) % 256 = e := by
  omega

/-- A contribution that comes goes through the checks of its group and its member. -/
theorem exec_contrib (comes : Comes s port 0x10 pkt) (group : bits (field pkt.hdr 16 2) 10 0 = g)
    (member : bits (field pkt.hdr 18 2) 12 0 = m) : ∃ sw, exec (.contrib port pkt) s =
      if s.gState g = 2 then .next (State.bump { s with sw := sw } (aGrpErr 1) 31 16 1)
      else if s.gState g ≠ 1 then .next (State.bump { s with sw := sw } (aGrpErr 0) 31 16 1)
      else if s.gMembers g ≤ m ∨ s.mEid g m ≠ hSrc pkt.hdr then
        .next (State.bump { s with sw := sw } (aGrpErr 0) 15 0 1)
      else
        let e := (s.group g).oldest + (byteAt pkt.hdr 29 + 256 - (s.group g).oldest % 256) % 256
        let d := dReed (s.gPlace g (e * s.gC g + field pkt.hdr 20 4))
        if s.atDepth d .run then
          .next (State.contribute { s with sw := sw } g m (field pkt.hdr 20 4) (field pkt.hdr 24 4) (byteAt pkt.hdr 28)
            (field pkt.hdr 32 2) e pkt.data)
        else .next ((State.sinkAgain { s with sw := sw } port pkt).wake d) := by
  obtain ⟨sw, sunk⟩ := State.sink_comes comes
  subst group member
  refine ⟨sw, ?_⟩
  show execContrib port pkt s = _
  unfold execContrib
  rw [sunk]
  rfl

/-- A contribution that is discarded moves one count, and no group. -/
theorem Runs.counted {i : Instr} {sw : Switch} {a hi lo : Nat} (b : hi < 32)
    (run : exec i s = .next (State.bump { s with sw := sw } a hi lo 1)) :
    Runs i s (fun t => t.rf a hi lo = satAdd (hi + 1 - lo) (s.rf a hi lo) 1 ∧ t.groups = s.groups ∧ t.mem = s.mem) :=
  Runs.of run ⟨State.rf_bump_same _ a hi lo 1 b, rfl, rfl⟩

end Checks

end Contributions

/-- Settles O31: the checks of R219 in their order, each with its count, and the fold into an open slot. -/
theorem contributionsFoldOrAreCounted : Obligations.ContributionsFoldOrAreCounted := by
  unfold Obligations.ContributionsFoldOrAreCounted
  intro s port pkt g m comes group member
  obtain ⟨sw, run⟩ := exec_contrib comes group member
  refine ⟨fun unarmed unfailed => ?_, fun failed => ?_, fun armed stranger => ?_, ?_⟩
  · rw [if_neg unfailed, if_pos unarmed] at run
    exact Runs.counted (by decide) run
  · rw [if_pos failed] at run
    obtain ⟨t, next, count, groups, -⟩ := Runs.counted (by decide) run
    exact ⟨t, next, count, groups⟩
  · rw [if_neg (by omega), if_neg (by omega), if_pos stranger] at run
    obtain ⟨t, next, count, groups, -⟩ := Runs.counted (by decide) run
    exact ⟨t, next, count, groups⟩
  · intro k ofs n e y armed named known chunk offset elems oldest epoch inChunk fresh window running format range sender
      awake plain slot room noGate more
    have ok : Accepted { s with sw := sw } g m k ofs (byteAt pkt.hdr 28) n e y :=
      ⟨oldest, inChunk, fresh, window, running, format, range, sender, plain, slot, room⟩
    rw [if_neg (by omega), if_neg (by omega), if_neg (by omega)] at run
    dsimp only at run
    rw [oldest, epoch_oldest epoch, chunk, offset, elems, if_pos awake, State.contribute_accepted ok noGate more] at run
    refine Runs.of run ⟨State.slot_foldIn ok.slot,
      fun z hz other => State.mem_slots_foldIn (s := { s with sw := sw }) hz other, ?_,
      State.oldest_foldIn.trans oldest, State.foldIn_mem⟩
    rwa [State.gState, State.gf_foldIn]

end Sys2Proof.Machine
end

section
/-!
Frames of the sequence region (R237, R248): the block of a stack, and the search for a free frame, which ends at one
where a stack has more frames than are taken.
-/

namespace Sys2Proof.Machine

theorem exists_mem_of_tabGet_ne {α : Type} {d : Nat → α} {t : Tab α} {k : Nat} (h : tabGet d t k ≠ d k) :
    ∃ e ∈ t, e.1 = k := by
  induction t with
  | nil => exact absurd rfl h
  | cons e r ih => grind [tabGet]

theorem State.frameUse_setFrame (s : State) (f g : Nat) (u : FrameUse) :
    (s.setFrame f u).frameUse g = if g = f then u else s.frameUse g := tabGet_tabSet _ _ _ _ _

/-! ### The blocks of frames (R237) -/

section Blocks
variable (s : State) {n f : Nat}

theorem sumNat_append (l r : List Nat) : sumNat (l ++ r) = sumNat l + sumNat r := by
  induction l with
  | nil => exact (Nat.zero_add _).symm
  | cons x l ih => rw [List.cons_append, sumNat, sumNat, ih, Nat.add_assoc]

theorem State.stackBase_succ (n : Nat) : s.stackBase (n + 1) = s.stackBase n + s.stackFrames n := by
  unfold State.stackBase
  rw [List.range_succ, List.map_append, sumNat_append, ← Nat.add_assoc]
  rfl

theorem State.stackBase_mono : Monotone s.stackBase :=
  monotone_nat_of_le_succ fun n => (s.stackBase_succ n).symm ▸ Nat.le_add_right _ _

/-- A frame of a stack's block is that stack's. -/
theorem State.frameStack_eq (hn : n < 8) (low : s.stackBase n ≤ f) (high : f < s.stackBase n + s.stackFrames n) :
    s.frameStack f = n := by
  have first : (List.range 8).find? (fun k => decide (f < s.stackBase (k + 1))) = some n := by
    rw [List.find?_range_eq_some]
    refine ⟨?_, List.mem_range.mpr hn, fun j hj => ?_⟩
    · rw [s.stackBase_succ]
      exact decide_eq_true high
    · have := s.stackBase_mono (Nat.succ_le_of_lt hj)
      simp only [Bool.not_eq_true', decide_eq_false_iff_not, Nat.not_lt]
      exact this.trans low
  rw [State.frameStack, first]
  rfl

end Blocks

/-! ### The search for a free frame (R248) -/

section Search
variable {s : State} {base k : Nat}

/-- A search that goes far enough to meet a free frame ends at one, in its block. -/
theorem State.freeFrameFrom_free {fuel i : Nat} (hi : i < k)
    (met : ∃ m ≤ fuel, s.frameUse (base + (i + m) % k) = .free) :
    ∃ j < k, s.freeFrameFrom base k fuel (base + i) = base + j ∧ s.frameUse (base + j) = .free := by
  induction fuel generalizing i with
  | zero =>
    obtain ⟨m, hm, free⟩ := met
    obtain rfl : m = 0 := by omega
    rw [Nat.add_zero, Nat.mod_eq_of_lt hi] at free
    exact ⟨i, hi, rfl, free⟩
  | succ fuel ih =>
    unfold State.freeFrameFrom
    split
    next free => exact ⟨i, hi, rfl, free⟩
    next used =>
      have next : (if base + i + 1 < base + k then base + i + 1 else base) = base + (i + 1) % k := by
        split
        · rw [Nat.mod_eq_of_lt (by omega), Nat.add_assoc]
        · rw [show i + 1 = k by omega, Nat.mod_self, Nat.add_zero]
      rw [next]
      refine ih (Nat.mod_lt _ (by omega)) ?_
      obtain ⟨m, hm, free⟩ := met
      cases m with
      | zero =>
        rw [Nat.add_zero, Nat.mod_eq_of_lt hi] at free
        exact absurd free used
      | succ m =>
        refine ⟨m, by omega, ?_⟩
        rwa [Nat.mod_add_mod, Nat.add_right_comm]

/-- The frames of a stack that are listed as taken. -/
def State.takenFrames (s : State) (n : Nat) : Finset Nat :=
  ((s.seq.frames.filter fun e => decide (s.frameStack e.1 = n)).map Prod.fst).toFinset

theorem State.card_takenFrames_le (s : State) (n : Nat) : (s.takenFrames n).card ≤ s.stackTaken n :=
  (List.toFinset_card_le _).trans_eq (List.length_map _)

theorem State.mem_takenFrames {n f : Nat} (used : s.frameUse f ≠ .free) (stack : s.frameStack f = n) :
    f ∈ s.takenFrames n := by
  obtain ⟨e, he, rfl⟩ := exists_mem_of_tabGet_ne used
  exact List.mem_toFinset.mpr (List.mem_map.mpr ⟨e, List.mem_filter.mpr ⟨he, decide_eq_true stack⟩, rfl⟩)

/-- Among one more frames of a stack's block than are taken there, one is free. -/
theorem State.exists_free_frame {n : Nat} (hn : n < 8) (room : s.stackTaken n < s.stackFrames n) (i : Nat) :
    ∃ m ≤ s.stackTaken n, s.frameUse (s.stackBase n + (i + m) % s.stackFrames n) = .free := by
  by_contra all
  push Not at all
  have lt (m : Nat) : (i + m) % s.stackFrames n < s.stackFrames n := Nat.mod_lt _ (by omega)
  have listed : Set.MapsTo (fun m => s.stackBase n + (i + m) % s.stackFrames n) (Finset.range (s.stackTaken n + 1))
      (s.takenFrames n) := by
    intro m hm
    rw [Finset.mem_coe, Finset.mem_range] at hm
    exact State.mem_takenFrames (all m (by omega)) (s.frameStack_eq hn (Nat.le_add_right _ _) (Nat.add_lt_add_left (lt m) _))
  have apart : Set.InjOn (fun m => s.stackBase n + (i + m) % s.stackFrames n) (Finset.range (s.stackTaken n + 1)) := by
    intro a ha b hb eq
    rw [Finset.mem_coe, Finset.mem_range] at ha hb
    have : (i + a) % s.stackFrames n = (i + b) % s.stackFrames n := Nat.add_left_cancel eq
    have := Nat.ModEq.add_left_cancel' i this
    exact this.eq_of_lt_of_lt (by omega) (by omega)
  have many := Finset.card_le_card_of_injOn _ listed apart
  have few := s.card_takenFrames_le n
  rw [Finset.card_range] at many
  omega

end Search

/-- The frame that an allocation takes on a stack with a free one was free, and is that stack's. -/
theorem State.takeFrame_free {s : State} {n : Nat} (u : FrameUse) (hn : n < 8) (free : 0 < s.stackFree n) :
    s.frameUse (s.takeFrame n u).1 = .free ∧ s.frameStack (s.takeFrame n u).1 = n := by
  have room : s.stackTaken n < s.stackFrames n := Nat.lt_of_sub_pos free
  have start : s.draw.1 % max 1 (s.stackFrames n) < s.stackFrames n := by
    rw [Nat.max_eq_right (by omega)]
    exact Nat.mod_lt _ (by omega)
  obtain ⟨j, hj, found, unused⟩ := State.freeFrameFrom_free (base := s.stackBase n) (s := s.draw.2) start
    (State.exists_free_frame (s := s.draw.2) hn room _)
  have taken : (s.takeFrame n u).1 = s.stackBase n + j := found
  rw [taken]
  exact ⟨unused, s.frameStack_eq hn (by omega) (by omega)⟩

/-- Settles O40: the frames taken on a stack are fewer than its block has, so the search for a free one ends at one. -/
theorem freeFramesAreTaken : Obligations.FreeFramesAreTaken := by
  unfold Obligations.FreeFramesAreTaken
  intro s n u hn free f t
  obtain ⟨unused, stack⟩ := State.takeFrame_free u hn free
  have use (g : Nat) : t.frameUse g = if g = f then u else s.frameUse g := State.frameUse_setFrame s.draw.2 f g u
  exact ⟨unused, stack, (use f).trans (if_pos rfl), fun g apart => (use g).trans (if_neg apart)⟩

end Sys2Proof.Machine
end

section
/-!
The slots of sequence memory (R239, R242, R250): what the mirror stream, replies and the device's own page traffic leave
of them, and the end of a slot that is released.
-/

namespace Sys2Proof.Machine

/-! ### What is watched of the slots -/

/-- The registers of the slot contexts, their page tables and lengths, HBM, the frames, and the pages that travel. -/
def State.slotParts (s : State) : (Nat → Word) × Tab Byte × Tab FrameUse × Option Evac × List Bring :=
  (fun a => if 0x02801000 ≤ a then s.reg a else 0, s.mem, s.seq.frames, s.seq.evac, s.seq.recalling)

section Read
variable {s t : State}

theorem State.slotParts_of_reg (reg : ∀ a, 0x02801000 ≤ a → t.reg a = s.reg a) (mem : t.mem = s.mem)
    (seq : t.seq = s.seq) : t.slotParts = s.slotParts := by
  have regs : (fun a => if 0x02801000 ≤ a then t.reg a else 0) = fun a => if 0x02801000 ≤ a then s.reg a else 0 := by
    funext a
    split
    next low => exact reg a low
    next => rfl
  rw [State.slotParts, regs, mem, seq]
  rfl

theorem State.slotParts_of_regs (regs : t.regs = s.regs) (mem : t.mem = s.mem) (seq : t.seq = s.seq) :
    t.slotParts = s.slotParts :=
  State.slotParts_of_reg (fun a _ => by rw [State.reg, regs]; rfl) mem seq

variable (h : t.slotParts = s.slotParts)
include h

theorem State.reg_of_slotParts {a : Nat} (low : 0x02801000 ≤ a) : t.reg a = s.reg a := by
  have := congrFun (congrArg Prod.fst h) a
  simpa only [State.slotParts, if_pos low] using this

theorem State.mem_of_slotParts : t.mem = s.mem := congrArg (fun x => x.2.1) h

theorem State.frames_of_slotParts : t.seq.frames = s.seq.frames := congrArg (fun x => x.2.2.1) h

theorem State.evac_of_slotParts : t.seq.evac = s.seq.evac := congrArg (fun x => x.2.2.2.1) h

theorem State.recalling_of_slotParts : t.seq.recalling = s.seq.recalling := congrArg (fun x => x.2.2.2.2) h

theorem State.slotReg_of_slotParts (n w : Nat) : t.reg (aSlot n w) = s.reg (aSlot n w) :=
  State.reg_of_slotParts h (by unfold aSlot; omega)

theorem State.sl_of_slotParts (n w hi lo : Nat) : t.sl n w hi lo = s.sl n w hi lo :=
  congrArg (fld · hi lo) (State.slotReg_of_slotParts h n w)

theorem State.layerLen_of_slotParts (n l : Nat) : t.layerLen n l = s.layerLen n l :=
  congrArg (fld · 21 0) (State.reg_of_slotParts h (by unfold aLen; omega))

end Read

/-! ### Updates that leave the slots -/

section Updates
variable (s : State)

theorem State.setReg_slotParts {a : Nat} {v : Word} (low : a < 0x02801000) : (s.setReg a v).slotParts = s.slotParts :=
  State.slotParts_of_reg (fun _ _ => s.reg_setReg_ne _ (by omega)) rfl rfl

theorem State.setRf_slotParts {a hi lo v : Nat} (low : a < 0x02801000) : (s.setRf a hi lo v).slotParts = s.slotParts :=
  s.setReg_slotParts low

theorem State.bump_slotParts {a hi lo n : Nat} (low : a < 0x02801000) : (s.bump a hi lo n).slotParts = s.slotParts :=
  s.setReg_slotParts low

@[simp] theorem State.emit_slotParts (c : Nat) (p : Pkt) : (s.emit c p).slotParts = s.slotParts :=
  State.slotParts_of_regs (s.emit_regs _ _) (s.emit_mem _ _) (s.emit_seq _ _)

@[simp] theorem State.finish_slotParts (tag st : Nat) (l : List Byte) : (s.finish tag st l).slotParts = s.slotParts :=
  State.slotParts_of_reg (fun _ low => s.reg_finish _ _ _ (by unfold aRing; omega)) (s.finish_mem _ _ _)
    (s.finish_seq _ _ _)

/-- A mirrored change joins the packets of the device and the stream of the pair. -/
theorem State.mirror_same (typ key : Nat) (body : List Byte) :
    ∃ x0 x1, s.mirror typ key body = { s with sw := x0, pair := x1 } := by
  unfold State.mirror
  split
  · exact s.mirrorPut_same _ _ _ _ _
  · exact ⟨_, _, rfl⟩

theorem State.mirrorSlot_same (n : Nat) : ∃ x0 x1, s.mirrorSlot n = { s with sw := x0, pair := x1 } := by
  unfold State.mirrorSlot
  split
  · exact s.mirror_same _ _ _
  · exact ⟨_, _, rfl⟩

@[simp] theorem State.mirrorSlot_regs (n : Nat) : (s.mirrorSlot n).regs = s.regs := by
  obtain ⟨_, _, h⟩ := s.mirrorSlot_same n; rw [h]
@[simp] theorem State.mirrorSlot_mem (n : Nat) : (s.mirrorSlot n).mem = s.mem := by
  obtain ⟨_, _, h⟩ := s.mirrorSlot_same n; rw [h]
@[simp] theorem State.mirrorSlot_seq (n : Nat) : (s.mirrorSlot n).seq = s.seq := by
  obtain ⟨_, _, h⟩ := s.mirrorSlot_same n; rw [h]

theorem State.rf_mirrorSlot (n a hi lo : Nat) : (s.mirrorSlot n).rf a hi lo = s.rf a hi lo := by
  rw [State.rf, State.reg, State.mirrorSlot_regs]
  rfl

@[simp] theorem State.mirrorSlot_slotParts (n : Nat) : (s.mirrorSlot n).slotParts = s.slotParts :=
  State.slotParts_of_regs (s.mirrorSlot_regs n) (s.mirrorSlot_mem n) (s.mirrorSlot_seq n)

@[simp] theorem State.mirrorPte_slotParts (n lpn e : Nat) : (s.mirrorPte n lpn e).slotParts = s.slotParts := by
  unfold State.mirrorPte
  split
  · obtain ⟨_, _, h⟩ := s.mirror_same 6 (n * 2 ^ 27 + lpn) (leBytes 8 e)
    rw [h]
    rfl
  · rfl

/-- On a device that is not the active of a pair a change is answered at once. -/
theorem State.mirrorAnswer_cmd {s : State} (role : s.role ≠ 1) (typ key : Nat) (body : List Byte) (tag : Nat)
    (reply : List Byte) : s.mirrorAnswer typ key body (.cmd tag) reply = s.finish tag stOk reply := by
  have alone : s.mirroring = false := by simp [State.mirroring, role]
  have silent : s.streaming = false := by simp [State.streaming, role]
  simp only [State.mirrorAnswer, State.mirror, alone, silent, Bool.false_eq_true, if_false]

end Updates

/-! ### The device's own page traffic leaves the slots -/

section Own
variable (s : State)

@[simp] theorem State.queueReturn_slotParts (eid : Nat) (fs : List Nat) :
    (s.queueReturn eid fs).slotParts = s.slotParts := by
  unfold State.queueReturn
  split <;> rfl

@[simp] theorem State.lendSettle_slotParts : s.lendSettle.slotParts = s.slotParts := by
  unfold State.lendSettle
  refine foldl_read State.slotParts (fun s e => ?_) _ _
  split
  · dsimp only
    split
    · exact State.queueReturn_slotParts _ _ _
    · rfl
  · rfl

@[simp] theorem State.moveSettle_slotParts : s.moveSettle.slotParts = s.slotParts := rfl

@[simp] theorem State.retSettle_slotParts : s.retSettle.slotParts = s.slotParts := by
  unfold State.retSettle
  exact (State.bump_slotParts _ (by decide)).trans rfl

@[simp] theorem State.wopen_slotParts (c w dst : Nat) (item : Option Nat) (pkts req rsp : Nat) (spray : Bool) :
    (s.wopen c w dst item pkts req rsp spray).slotParts = s.slotParts := by
  unfold State.wopen
  exact (State.emit_slotParts _ _ _).trans rfl

@[simp] theorem State.wclose_slotParts (c w : Nat) : (s.wclose c w).slotParts = s.slotParts :=
  s.emit_slotParts _ _

@[simp] theorem State.wcloseWhenDone_slotParts (w : Nat) : (s.wcloseWhenDone w).slotParts = s.slotParts := by
  unfold State.wcloseWhenDone
  dsimp only
  split
  · exact s.wclose_slotParts _ _
  · rfl

@[simp] theorem State.ownWindow_slotParts (item : Option Nat) (image c dst : Nat) :
    (s.ownWindow item image c dst).2.slotParts = s.slotParts := by
  unfold State.ownWindow
  split
  · split
    · split
      · rfl
      · exact (State.wcloseWhenDone_slotParts _ _).trans rfl
    · split <;> rfl
  · split
    · rfl
    · split
      · rfl
      · exact (State.wopen_slotParts _ _ _ _ _ _ _ _ _).trans rfl

/-- The event counters of a cluster lie below the SEQ block. -/
theorem State.evUnit_slotParts (code unit n : Nat) : (s.evUnit plinthCluster code unit n).slotParts = s.slotParts := by
  unfold State.evUnit
  split
  · rfl
  · exact State.slotParts_of_reg (fun a low => s.reg_ctrBank (by unfold aSwx aC plinthCluster; omega))
      (s.ctrBank_mem _ _ _ _ _) (s.ctrBank_seq _ _ _ _ _)

@[simp] theorem State.injBuffer_slotParts (key len : Nat) :
    (s.injBuffer plinthCluster key len).2.slotParts = s.slotParts := by
  unfold State.injBuffer State.poolDrawBytes
  split
  · rfl
  · split
    · rfl
    · dsimp only
      split
      · rfl
      · split
        · rfl
        · exact s.evUnit_slotParts _ _ _

@[simp] theorem State.emitHeld_slotParts (c key : Nat) (p : Pkt) : (s.emitHeld c key p).slotParts = s.slotParts :=
  s.emit_slotParts c p

@[simp] theorem State.sendReq_slotParts (c key w typ : Nat) (fence : Bool) (kind : OpKind) (size : Nat)
    (op data : List Byte) : (s.sendReq c key w typ fence kind size op data).slotParts = s.slotParts :=
  State.emitHeld_slotParts _ _ _ _

@[simp] theorem State.ownSend_slotParts (key w typ : Nat) (kind : OpKind) (size : Nat) (op data : List Byte) :
    (s.ownSend plinthCluster key w typ kind size op data).2.slotParts = s.slotParts := by
  unfold State.ownSend
  split
  · dsimp only
    split
    · rw [State.sendReq_slotParts, State.injBuffer_slotParts]
    · exact s.injBuffer_slotParts _ _
  · rfl

@[simp] theorem State.sendReturns_slotParts : s.sendReturns.slotParts = s.slotParts := by
  unfold State.sendReturns
  split
  · rfl
  next im _ =>
    refine foldl_read State.slotParts (fun s x => ?_) _ _
    have window := s.ownWindow_slotParts none im plinthCluster x.1
    dsimp only
    split
    next h => rw [h] at window; exact window
    next h => rw [h] at window; exact (State.bump_slotParts _ (by decide)).trans window
    next h =>
      rw [h] at window
      split
      · exact (State.ownSend_slotParts _ _ _ _ _ _ _ _).trans window
      · exact (State.ownSend_slotParts _ _ _ _ _ _ _ _).trans window

@[simp] theorem State.ownClose_slotParts : s.ownClose.slotParts = s.slotParts := by
  unfold State.ownClose
  split
  · rfl
  · refine foldl_read State.slotParts (fun s e => ?_) _ _
    split
    · exact s.wclose_slotParts _ _
    · split <;> rfl

variable {s}

/-- With no page on the move the device's own traffic leaves the slots as they are. -/
theorem State.ownStep_slotParts (evac : s.seq.evac = none) (home : s.seq.recalling = []) :
    s.ownStep.slotParts = s.slotParts := by
  have settled : s.lendSettle.moveSettle.slotParts = s.slotParts := s.lendSettle_slotParts
  have noEvac : s.lendSettle.moveSettle.seq.evac = none := (State.evac_of_slotParts settled).trans evac
  have noRecall : s.lendSettle.moveSettle.seq.recalling = [] := (State.recalling_of_slotParts settled).trans home
  have idle : s.lendSettle.moveSettle.evacStep.bringStep = s.lendSettle.moveSettle := by
    rw [State.evacStep, noEvac]
    dsimp only
    rw [State.bringStep, noRecall]
    rfl
  rw [State.ownStep, State.ownClose_slotParts, State.sendReturns_slotParts, State.retSettle_slotParts, idle, settled]

end Own

/-! ### The end of a slot (R250) -/

/-- A slot that has given up its pages: no frame is its own, and its context and its tables are cleared. -/
def State.slotEmptied (s : State) (n : Nat) : State :=
  let s := { s with seq := { s.seq with
    lentIn := s.seq.lentIn.filter (fun x => x.1 ≠ n)
    refused := s.seq.refused.filter (fun k => k ≠ n)
    asked := s.seq.asked.filter (fun k => k ≠ n)
    frames := s.seq.frames.filter (fun e => e.2 ≠ FrameUse.slot n) } }
  let s := s.clearRegs (fun a => (aL1 n 0 ≤ a && a < aL1 n 512) || (aLen n 0 ≤ a && a < aLen n 4096))
  ((s.setReg (aSlot n 10) 0).setReg (aSlot n 11) 0).setRf (aSlot n 0) 31 29 0

section Emptied
variable {s : State} {n : Nat}

/-- No page on the move is stopped. -/
theorem State.slotStill_slotParts (evac : s.seq.evac = none) (home : s.seq.recalling = []) :
    (s.slotStill n).slotParts = s.slotParts := by
  simp [State.slotStill, State.slotParts, evac, home, State.reg]

/-- The returns that a slot's end queues leave the slots, and then the slot is emptied. -/
theorem State.slotFree_eq (evac : s.seq.evac = none) (home : s.seq.recalling = []) :
    ∃ u : State, u.slotParts = s.slotParts ∧ s.slotFree n = (u.slotEmptied n).mirrorSlot n := by
  refine ⟨_, ?_, rfl⟩
  rw [State.queueReturn_slotParts, foldl_read State.slotParts fun s _ => s.queueReturn_slotParts _ _,
    foldl_read State.slotParts fun s _ => s.mirrorPte_slotParts _ _ _, State.slotStill_slotParts evac home]

theorem State.slotEmptied_frames : (s.slotEmptied n).seq.frames = s.seq.frames.filter (fun e => e.2 ≠ .slot n) := by
  simp [State.slotEmptied]

theorem State.slotEmptied_mem : (s.slotEmptied n).mem = s.mem := by
  unfold State.slotEmptied
  rw [State.setRf_mem, State.setReg_mem, State.setReg_mem, State.clearRegs_mem]

theorem State.slotEmptied_evac : (s.slotEmptied n).seq.evac = s.seq.evac := by simp [State.slotEmptied]

theorem State.slotEmptied_recalling : (s.slotEmptied n).seq.recalling = s.seq.recalling := by simp [State.slotEmptied]

theorem State.slotEmptied_state : (s.slotEmptied n).slotState n = 0 := by
  unfold State.slotEmptied State.slotState State.sl
  exact (State.rf_setRf_same _ _ _ _ _ (by decide)).trans (Nat.zero_mod _)

theorem State.slotEmptied_local : (s.slotEmptied n).slotLocal n = 0 := by
  unfold State.slotEmptied State.slotLocal State.sl
  dsimp only
  rw [State.rf_setRf_ne _ _ _ _ _ _ (by unfold aSlot; omega), State.rf_setReg_ne _ _ _ _ (by unfold aSlot; omega),
    State.rf, State.reg_setReg_same]
  rfl

/-- A word of the tables of the slots, and of their lengths, is 0 after reset. -/
theorem regReset_seqTable {a : Nat} (low : 0x02801000 ≤ a) : regReset a = 0 := by
  unfold regReset rteRegReset
  rw [if_neg (by omega), if_neg (by omega), if_neg (by omega), if_neg (by omega)]
  repeat rw [if_neg (by dsimp [aSelfEid, aOpTimeout, aDrain, aSpray, aWinPkts, aWinPicks, aWinTim, aCong, aInj, aPaceCfg,
    aPaceDur, aSeqRegion, aSeqArg]; omega)]
  rfl

theorem State.slotEmptied_table (hn : n < 32) {i : Nat} (hi : i < 512) : (s.slotEmptied n).reg (aL1 n i) = 0 := by
  unfold State.slotEmptied
  dsimp only
  rw [State.reg_setRf_ne _ _ _ _ (by unfold aL1 aSlot; omega), State.reg_setReg_ne _ _ (by unfold aL1 aSlot; omega),
    State.reg_setReg_ne _ _ (by unfold aL1 aSlot; omega), State.reg_clearRegs, if_pos, regReset_seqTable]
  · unfold aL1; omega
  · simp [aL1]; omega

/-- SLOT_RELEASE_DONE ends a slot that no work item and no translation uses. -/
theorem runs_slotReleaseDone (hn : n < 32) (releasing : s.slotState n = 2)
    (items : ∀ i ∈ s.shed.items, i.runs = none ∨ i.slot ≠ some n)
    (copies : ∀ e ∈ s.ctxs, ∀ k ∈ e.2.copies, k.fin = true ∨ k.kind = 0 ∨ k.slot ≠ n) (evac : s.seq.evac = none)
    (home : s.seq.recalling = []) :
    Runs (.slotReleaseDone n) s (fun t => t.slotState n = 0 ∧ t.slotLocal n = 0 ∧
      (∀ e ∈ t.seq.frames, e.2 ≠ .slot n) ∧ (∀ e ∈ s.seq.frames, e.2 ≠ .slot n → e ∈ t.seq.frames) ∧
      (∀ i ∈ List.range 512, t.reg (aL1 n i) = 0) ∧ t.mem = s.mem) := by
  obtain ⟨u, same, free⟩ := State.slotFree_eq (n := n) evac home
  have ended : (s.slotFree n).ownStep.slotParts = (u.slotEmptied n).slotParts := by
    have parts : (s.slotFree n).slotParts = (u.slotEmptied n).slotParts := by rw [free, State.mirrorSlot_slotParts]
    rw [State.ownStep_slotParts, parts]
    · rw [State.evac_of_slotParts parts, State.slotEmptied_evac, State.evac_of_slotParts same, evac]
    · rw [State.recalling_of_slotParts parts, State.slotEmptied_recalling, State.recalling_of_slotParts same, home]
  have frames : (s.slotFree n).ownStep.seq.frames = s.seq.frames.filter (fun e => e.2 ≠ .slot n) := by
    rw [State.frames_of_slotParts ended, State.slotEmptied_frames, State.frames_of_slotParts same]
  have noItem : (s.shed.items.all fun i => i.runs.isNone || decide (i.slot ≠ some n)) = true :=
    List.all_eq_true.mpr fun i hi => by simpa using items i hi
  have noCopy : (s.ctxs.all fun e => e.2.copies.all fun k => k.fin || decide (k.kind = 0) || decide (k.slot ≠ n)) = true :=
    List.all_eq_true.mpr fun e he => List.all_eq_true.mpr fun k hk => by simpa [or_assoc] using copies e he k hk
  refine Runs.of (if_pos ⟨hn, releasing, noItem, noCopy⟩) ⟨?_, ?_, ?_, ?_, ?_, ?_⟩
  · exact (State.sl_of_slotParts ended _ _ _ _).trans State.slotEmptied_state
  · exact (State.sl_of_slotParts ended _ _ _ _).trans State.slotEmptied_local
  · rw [frames]
    exact fun e he => of_decide_eq_true (List.mem_filter.mp he).2
  · rw [frames]
    exact fun e he other => List.mem_filter.mpr ⟨he, decide_eq_true other⟩
  · intro i hi
    rw [State.reg_of_slotParts ended (by unfold aL1; omega), State.slotEmptied_table hn (List.mem_range.mp hi)]
  · rw [State.mem_of_slotParts ended, State.slotEmptied_mem, State.mem_of_slotParts same]

end Emptied

end Sys2Proof.Machine
end

section
/-!
OPEN and RELEASE of a slot (R240, R241, R250, R268): what OPEN writes, what a command of the SEQ block leaves outside
it, and how each command runs.
-/

namespace Sys2Proof.Machine

/-! ### Opening a slot (R239 to R241) -/

/-- The context that OPEN writes from a descriptor: its own words, STATE, BPT and TPP. -/
def State.slotHead (s : State) (n : Nat) (d : List Word) : State :=
  ((((s.setRegs (aSlot n 0) (d.take 13)).setRf (aSlot n 0) 31 29 1).setRf (aSlot n 0) 26 26 0).setRf (aSlot n 3) 15 0
    (descBpt d / 64)).setReg (aSlot n 5) (BitVec.ofNat 32 (65536 / descBpt d))

/-- The whole context: PPL too, and no frame. -/
def State.slotWritten (s : State) (n : Nat) (d : List Word) : State :=
  (((s.slotHead n d).setReg (aSlot n 6)
    (BitVec.ofNat 32 (ceilDiv ((s.slotHead n d).sl n 4 21 0) (65536 / descBpt d)))).setReg (aSlot n 10) 0).setReg
      (aSlot n 11) 0

/-- A slot has been opened once more. -/
def State.slotCounted (s : State) (n : Nat) : State :=
  { s with seq := { s.seq with openings := tabUpd (fun _ => 0) s.seq.openings n (· + 1) } }

/-- The words of a slot's lengths and of its level-1 table. -/
def inSlotTables (n a : Nat) : Bool := (aLen n 0 ≤ a && a < aLen n 4096) || (aL1 n 0 ≤ a && a < aL1 n 512)

theorem inSlotTables_iff {n a : Nat} :
    inSlotTables n a = true ↔ (aLen n 0 ≤ a ∧ a < aLen n 4096) ∨ (aL1 n 0 ≤ a ∧ a < aL1 n 512) := by
  simp [inSlotTables]

/-- The state after OPEN: the context is written, and the slot's tables and lengths are empty. -/
def State.slotOpened (s : State) (n : Nat) (d : List Word) : State :=
  ((s.slotWritten n d).slotCounted n).clearRegs (inSlotTables n)

theorem State.slotCounted_mem (s : State) (n : Nat) : (s.slotCounted n).mem = s.mem := rfl
theorem State.slotCounted_host (s : State) (n : Nat) : (s.slotCounted n).host = s.host := rfl
theorem State.slotCounted_reg (s : State) (n a : Nat) : (s.slotCounted n).reg a = s.reg a := rfl

section Open
variable {s : State} {n : Nat} {d : List Word}

/-- OPEN of a FREE slot with a descriptor that passes row 3 of R241, and frames enough. -/
theorem State.slotOpen_ok (free : s.slotOpenTo n (descOwner d) = true) (up : s.fallback = false)
    (good : s.descBad d = false) (room : fld (d.getD 7 0) 22 0 ≤ s.seqAvail) :
    s.slotOpen false n d = (stOk, n, s.slotOpened n d) := by
  unfold State.slotOpen
  dsimp only
  rw [if_neg (by simp), if_neg (by simp [up, free]), if_neg (by simp [good]), if_neg (by omega)]
  rfl

/-- OPEN of a FREE slot with a descriptor that breaks row 3 of R241. -/
theorem State.slotOpen_bad (free : s.slotOpenTo n (descOwner d) = true) (up : s.fallback = false)
    (bad : s.descBad d = true) : s.slotOpen false n d = (stUnsup, n, s) := by
  unfold State.slotOpen
  dsimp only
  rw [if_neg (by simp), if_neg (by simp [up, free]), if_pos bad]
  rfl

theorem State.slotOpened_mem : (s.slotOpened n d).mem = s.mem := by
  unfold State.slotOpened State.slotWritten State.slotHead
  rw [State.clearRegs_mem, State.slotCounted_mem, State.setReg_mem, State.setReg_mem, State.setReg_mem, State.setReg_mem,
    State.setRf_mem, State.setRf_mem, State.setRf_mem, State.setRegs_mem]

theorem State.slotOpened_host : (s.slotOpened n d).host = s.host := by
  unfold State.slotOpened State.slotWritten State.slotHead
  rw [State.clearRegs_host, State.slotCounted_host, State.setReg_host, State.setReg_host, State.setReg_host,
    State.setReg_host, State.setRf_host, State.setRf_host, State.setRf_host, State.setRegs_host]

theorem aSlot_inj {v w : Nat} : aSlot n v = aSlot n w ↔ v = w := by
  unfold aSlot
  omega

theorem aSlot_words (n w : Nat) : aSlot n w = aSlot n 0 + 4 * w := rfl

/-- OPEN writes the context of the slot alone. -/
theorem State.reg_slotWritten_ne {a : Nat} (out : ∀ w < 13, a ≠ aSlot n w) : (s.slotWritten n d).reg a = s.reg a := by
  unfold State.slotWritten State.slotHead
  rw [State.reg_setReg_ne _ _ (out 11 (by decide)), State.reg_setReg_ne _ _ (out 10 (by decide)),
    State.reg_setReg_ne _ _ (out 6 (by decide)), State.reg_setReg_ne _ _ (out 5 (by decide)),
    State.reg_setRf_ne _ _ _ _ (out 3 (by decide)), State.reg_setRf_ne _ _ _ _ (out 0 (by decide)),
    State.reg_setRf_ne _ _ _ _ (out 0 (by decide)), State.reg_setRegs_ne]
  intro w hw
  exact out w (by simp at hw; omega)

/-- The words of the context that the descriptor gives and OPEN does not change. -/
theorem State.reg_slotWritten_word (len : d.length = 13) {w : Nat} (hw : w ∈ ([1, 2, 4, 7, 8, 9] : List Nat)) :
    (s.slotWritten n d).reg (aSlot n w) = d.getD w 0 := by
  have own {v : Nat} (h : v ∉ ([1, 2, 4, 7, 8, 9] : List Nat)) : aSlot n w ≠ aSlot n v :=
    fun e => h (aSlot_inj.mp e ▸ hw)
  have small : w < (d.take 13).length := by
    simp only [List.mem_cons, List.not_mem_nil, or_false] at hw
    simp [len]
    omega
  unfold State.slotWritten State.slotHead
  rw [State.reg_setReg_ne _ _ (own (by decide)), State.reg_setReg_ne _ _ (own (by decide)),
    State.reg_setReg_ne _ _ (own (by decide)), State.reg_setReg_ne _ _ (own (by decide)),
    State.reg_setRf_ne _ _ _ _ (own (by decide)), State.reg_setRf_ne _ _ _ _ (own (by decide)),
    State.reg_setRf_ne _ _ _ _ (own (by decide)), aSlot_words n w, State.reg_setRegs_at _ _ small,
    List.take_of_length_le len.le]

theorem State.slotWritten_state : (s.slotWritten n d).slotState n = 1 := by
  unfold State.slotWritten State.slotHead State.slotState State.sl
  rw [State.rf_setReg_ne _ _ _ _ (by simp [aSlot_inj]), State.rf_setReg_ne _ _ _ _ (by simp [aSlot_inj]),
    State.rf_setReg_ne _ _ _ _ (by simp [aSlot_inj]), State.rf_setReg_ne _ _ _ _ (by simp [aSlot_inj]),
    State.rf_setRf_ne _ _ _ _ _ _ (by simp [aSlot_inj]), State.rf_setRf_other _ _ _ _ _ _ _ (by decide),
    State.rf_setRf_same _ _ _ _ _ (by decide)]
  rfl

theorem State.slotWritten_bpt : (s.slotWritten n d).bpt n = 64 * (descBpt d / 64 % 65536) := by
  unfold State.slotWritten State.slotHead State.bpt State.sl
  rw [State.rf_setReg_ne _ _ _ _ (by simp [aSlot_inj]), State.rf_setReg_ne _ _ _ _ (by simp [aSlot_inj]),
    State.rf_setReg_ne _ _ _ _ (by simp [aSlot_inj]), State.rf_setReg_ne _ _ _ _ (by simp [aSlot_inj]),
    State.rf_setRf_same _ _ _ _ _ (by decide)]
  rfl

theorem State.slotWritten_tpp : (s.slotWritten n d).tpp n = 65536 / descBpt d % 2048 := by
  unfold State.slotWritten State.slotHead State.tpp State.sl
  rw [State.rf_setReg_ne _ _ _ _ (by simp [aSlot_inj]), State.rf_setReg_ne _ _ _ _ (by simp [aSlot_inj]),
    State.rf_setReg_ne _ _ _ _ (by simp [aSlot_inj]), State.rf, State.reg_setReg_same, fld, bits, BitVec.toNat_ofNat,
    Nat.shiftRight_zero]
  omega

theorem State.slotWritten_local : (s.slotWritten n d).slotLocal n = 0 := by
  unfold State.slotWritten State.slotHead State.slotLocal State.sl
  rw [State.rf_setReg_ne _ _ _ _ (by simp [aSlot_inj]), State.rf, State.reg_setReg_same]
  rfl

/-- The tables and lengths of a slot stand apart from the contexts. -/
theorem State.reg_slotOpened_slot (hn : n < 32) {w : Nat} (hw : w < 16) :
    (s.slotOpened n d).reg (aSlot n w) = (s.slotWritten n d).reg (aSlot n w) := by
  rw [State.slotOpened, State.reg_clearRegs, if_neg, State.slotCounted_reg]
  rw [inSlotTables_iff]
  unfold aLen aL1 aSlot
  omega

theorem State.sl_slotOpened (hn : n < 32) {w hi lo : Nat} (hw : w < 16) :
    (s.slotOpened n d).sl n w hi lo = (s.slotWritten n d).sl n w hi lo :=
  congrArg (fld · hi lo) (State.reg_slotOpened_slot hn hw)

theorem State.slotOpened_layerLen {l : Nat} (hl : l < 4096) : (s.slotOpened n d).layerLen n l = 0 := by
  rw [State.layerLen, State.rf, State.slotOpened, State.reg_clearRegs, if_pos, regReset_seqTable]
  · rfl
  · unfold aLen; omega
  · rw [inSlotTables_iff]
    unfold aLen
    omega

/-- OPEN writes no register outside the contexts, the tables and the lengths of the slots. -/
theorem State.reg_slotOpened_ne (hn : n < 32) {a : Nat} (out : a < 0x02801000 ∨ 0x028A0000 ≤ a) :
    (s.slotOpened n d).reg a = s.reg a := by
  rw [State.slotOpened, State.reg_clearRegs, if_neg, State.slotCounted_reg]
  · exact State.reg_slotWritten_ne fun w hw => by unfold aSlot; omega
  · rw [inSlotTables_iff]
    unfold aLen aL1
    omega

/-- What OPEN says of the slot that it opens. -/
theorem State.slotOpened_spec (hn : n < 32) (len : d.length = 13) (good : s.descBad d = false) :
    (s.slotOpened n d).slotState n = 1 ∧ (s.slotOpened n d).bpt n = descBpt d ∧
      (s.slotOpened n d).tpp n = 65536 / descBpt d % 2048 ∧ (s.slotOpened n d).slotLocal n = 0 ∧
      (∀ w ∈ ([1, 2, 4, 7, 8, 9] : List Nat), (s.slotOpened n d).reg (aSlot n w) = d.getD w 0) ∧
      ∀ l < 4096, (s.slotOpened n d).layerLen n l = 0 := by
  refine ⟨?_, ?_, ?_, ?_, fun w hw => ?_, fun l hl => State.slotOpened_layerLen hl⟩
  · exact (State.sl_slotOpened hn (by decide)).trans State.slotWritten_state
  · have small : descBpt d ≤ 65536 := by
      simp only [State.descBad, Bool.or_eq_false_iff, decide_eq_false_iff_not, Nat.not_lt] at good
      exact good.1.1.1.1.2
    have whole : descBpt d / 64 * 64 = descBpt d := Nat.div_mul_cancel (Dvd.intro_left _ rfl)
    rw [State.bpt, State.sl_slotOpened hn (by decide)]
    refine State.slotWritten_bpt.trans ?_
    omega
  · exact (State.sl_slotOpened hn (by decide)).trans State.slotWritten_tpp
  · exact (State.sl_slotOpened hn (by decide)).trans State.slotWritten_local
  · have small : w < 16 := by
      simp only [List.mem_cons, List.not_mem_nil, or_false] at hw
      omega
    rw [State.reg_slotOpened_slot hn small, State.reg_slotWritten_word len hw]

end Open

/-! ### What a command of the SEQ block leaves outside it -/

/-- The host interface and every register outside the SEQ block are as before. -/
def SameOutsideSeq (s t : State) : Prop :=
  t.host = s.host ∧ ∀ a, a < 0x02800000 ∨ 0x02C00000 ≤ a → t.reg a = s.reg a

section Outside
variable {s t : State}

theorem SameOutsideSeq.refl (s : State) : SameOutsideSeq s s := ⟨rfl, fun _ _ => rfl⟩

theorem SameOutsideSeq.setRf {a hi lo v : Nat} (h : SameOutsideSeq s t) (block : 0x02800000 ≤ a ∧ a < 0x02C00000) :
    SameOutsideSeq s (t.setRf a hi lo v) :=
  ⟨h.1, fun i out => (t.reg_setRf_ne _ _ _ (by omega)).trans (h.2 i out)⟩

theorem SameOutsideSeq.role (h : SameOutsideSeq s t) : t.role = s.role :=
  congrArg (fld · 31 29) (h.2 aDvt (by decide))

theorem SameOutsideSeq.ringUp (h : SameOutsideSeq s t) : t.ringUp 1 = s.ringUp 1 := by
  obtain ⟨host, reg⟩ := h
  unfold State.ringUp State.ringOn State.ringFault State.mastering State.rf
  rw [host, reg (aRing 1 + 8) (by decide), reg aCuing (by decide), reg aHioLink (by decide)]

theorem SameOutsideSeq.answered (h : SameOutsideSeq s t) {tag opcode : Nat} {p : Prog} (waits : Waits s tag opcode p)
    (st : Nat) (b : List Byte) : Answered (t.finish tag st b) p st b := by
  obtain ⟨-, found, origin, here, ring⟩ := waits
  exact State.finish_host _ _ _ _ _ (by rw [h.1, found]) origin here (h.ringUp.trans ring)

theorem sameOutsideSeq_slotOpened {n : Nat} {d : List Word} (hn : n < 32) : SameOutsideSeq s (s.slotOpened n d) :=
  ⟨State.slotOpened_host, fun a out => State.reg_slotOpened_ne hn (by omega)⟩

end Outside

/-! ### The commands -/

section Commands
variable {s u : State} {n st tag : Nat} {p : Prog} {path : Path} {a code k eid : Nat} {v : Word} {any rem : Bool}

theorem State.seqReq_slot_lt {src : Src} (req : s.seqReq src code = some (any, rem, k, n, eid)) : n < 32 := by
  unfold State.seqReq at req
  split at req
  · split at req
    · cases req
      exact fld_lt _ 4 0
    · cases req
  · split at req
    · split at req
      · cases req
        exact Nat.mod_lt _ (by decide)
      · cases req
    · cases req

theorem State.length_slotDesc : (s.slotDesc n).length = 13 := by simp [State.slotDesc]

theorem State.slotDesc_getD {w : Nat} (hw : w < 13) : (s.slotDesc n).getD w 0 = slotMask w (s.reg (aSlot n w)) := by
  simp [State.slotDesc, hw]

theorem slotMask_slotMask (w : Nat) (x : Word) : slotMask w (slotMask w x) = slotMask w x := by
  unfold slotMask
  rw [BitVec.and_assoc, BitVec.and_self]

/-- A request made by a register ends with its status alone. -/
theorem State.seqEnd_reg (l : List Byte) : s.seqEnd (.reg path a v) st l = s.setRf aSeqSt 15 0 st := rfl

theorem execSlotOpen_reg (req : s.seqReq (.reg path a v) 1 = some (false, rem, k, n, eid))
    (opened : s.slotOpen false n (s.slotDesc n) = (st, n, u)) :
    execSlotOpen (.reg path a v) s = .next ((if st = stOk then (u.setRf aSeqSt 20 16 n).mirrorSlot n
      else u.setRf aSeqSt 20 16 n).setRf aSeqSt 15 0 st) := by
  unfold execSlotOpen
  dsimp only
  rw [req]
  dsimp only
  rw [opened]
  dsimp only
  rw [State.seqEnd_reg]

/-- OPEN by register with a good descriptor. -/
theorem runs_slotOpen_reg (req : s.seqReq (.reg path a v) 1 = some (false, rem, k, n, eid))
    (free : s.slotOpenTo n (descOwner (s.slotDesc n)) = true) (up : s.fallback = false)
    (good : s.descBad (s.slotDesc n) = false) (room : fld ((s.slotDesc n).getD 7 0) 22 0 ≤ s.seqAvail) :
    Runs (.slotOpen (.reg path a v)) s (fun t => t.slotState n = 1 ∧ t.bpt n = descBpt (s.slotDesc n) ∧
      t.tpp n = 65536 / descBpt (s.slotDesc n) % 2048 ∧ t.slotLocal n = 0 ∧
      (∀ w ∈ ([1, 2, 4, 7, 8, 9] : List Nat), slotMask w (t.reg (aSlot n w)) = (s.slotDesc n).getD w 0) ∧
      (∀ l < 4096, t.layerLen n l = 0) ∧ t.rf aSeqSt 15 0 = stOk ∧ t.rf aSeqSt 20 16 = n ∧ t.mem = s.mem) := by
  have hn := State.seqReq_slot_lt req
  obtain ⟨state, bpt, tpp, noFrame, words, empty⟩ := State.slotOpened_spec hn State.length_slotDesc good
  have run := execSlotOpen_reg req (State.slotOpen_ok free up good room)
  rw [if_pos rfl] at run
  have parts : ((((s.slotOpened n (s.slotDesc n)).setRf aSeqSt 20 16 n).mirrorSlot n).setRf aSeqSt 15 0 stOk).slotParts =
      (s.slotOpened n (s.slotDesc n)).slotParts := by
    rw [State.setRf_slotParts _ (by decide), State.mirrorSlot_slotParts, State.setRf_slotParts _ (by decide)]
  refine Runs.of run ⟨?_, ?_, ?_, ?_, fun w hw => ?_, fun l hl => ?_, ?_, ?_, ?_⟩
  · exact (State.sl_of_slotParts parts _ _ _ _).trans state
  · exact (congrArg (64 * ·) (State.sl_of_slotParts parts _ _ _ _)).trans bpt
  · exact (State.sl_of_slotParts parts _ _ _ _).trans tpp
  · exact (State.sl_of_slotParts parts _ _ _ _).trans noFrame
  · have small : w < 13 := by
      simp only [List.mem_cons, List.not_mem_nil, or_false] at hw
      omega
    rw [State.slotReg_of_slotParts parts, words w hw, State.slotDesc_getD small, slotMask_slotMask]
  · exact (State.layerLen_of_slotParts parts _ _).trans (empty l hl)
  · exact State.rf_setRf_same _ _ _ _ _ (by decide)
  · rw [State.rf_setRf_other _ _ _ _ _ _ _ (by decide), State.rf_mirrorSlot, State.rf_setRf_same _ _ _ _ _ (by decide)]
    exact Nat.mod_eq_of_lt hn
  · rw [State.mem_of_slotParts parts, State.slotOpened_mem]

/-- OPEN by register with a descriptor that breaks row 3 of R241 ends with UNSUPPORTED. -/
theorem runs_slotOpen_reg_bad (req : s.seqReq (.reg path a v) 1 = some (false, rem, k, n, eid))
    (free : s.slotOpenTo n (descOwner (s.slotDesc n)) = true) (up : s.fallback = false)
    (bad : s.descBad (s.slotDesc n) = true) :
    Runs (.slotOpen (.reg path a v)) s (fun t => (∀ w ∈ List.range 16, t.reg (aSlot n w) = s.reg (aSlot n w)) ∧
      t.rf aSeqSt 15 0 = stUnsup ∧ t.seq = s.seq) := by
  have run := execSlotOpen_reg req (State.slotOpen_bad free up bad)
  rw [if_neg (by decide)] at run
  have parts : ((s.setRf aSeqSt 20 16 n).setRf aSeqSt 15 0 stUnsup).slotParts = s.slotParts := by
    rw [State.setRf_slotParts _ (by decide), State.setRf_slotParts _ (by decide)]
  exact Runs.of run ⟨fun w _ => State.slotReg_of_slotParts parts n w, State.rf_setRf_same _ _ _ _ _ (by decide), rfl⟩

/-- OPEN by a Cuing command with a good descriptor. -/
theorem runs_slotOpen_cmd {d : List Word} (waits : Waits s tag 0x0501 p) (len : p.payload.length = 56)
    (named : bit (byteAt p.payload 0) 7 = false) (slot : n = byteAt p.payload 0 % 32)
    (desc : d = (List.range 13).map (fun w => slotMask w ((bytesToWords 13 (p.payload.drop 4)).getD w 0)))
    (free : s.slotOpenTo n (descOwner d) = true) (up : s.fallback = false) (good : s.descBad d = false)
    (room : fld (d.getD 7 0) 22 0 ≤ s.seqAvail) (role : s.role ≠ 1) :
    Runs (.slotOpen (.cmd tag)) s (fun t => t.slotState n = 1 ∧ t.bpt n = descBpt d ∧ t.slotLocal n = 0 ∧
      Answered t p stOk (leBytes 1 n) ∧ t.mem = s.mem) := by
  have hn : n < 32 := slot ▸ Nat.mod_lt _ (by decide)
  obtain ⟨state, bpt, -, noFrame, -, -⟩ := State.slotOpened_spec hn (by rw [desc]; simp) good
  have outside : SameOutsideSeq s (((s.slotOpened n d).setRf aSeqSt 20 16 n).setRf aSeqSt 15 0 stOk) :=
    ((sameOutsideSeq_slotOpened hn).setRf (by decide)).setRf (by decide)
  have run : exec (.slotOpen (.cmd tag)) s = .next
      ((((s.slotOpened n d).setRf aSeqSt 20 16 n).setRf aSeqSt 15 0 stOk).finish tag stOk (leBytes 1 n)) := by
    show execSlotOpen (.cmd tag) s = _
    unfold execSlotOpen
    dsimp only
    rw [waits.1]
    dsimp only
    rw [if_neg (by simp [len]), ← desc, ← slot, named, State.slotOpen_ok free up good room]
    dsimp only
    rw [if_pos rfl, State.mirrorAnswer_cmd (by rw [outside.role]; exact role)]
  have parts : ((((s.slotOpened n d).setRf aSeqSt 20 16 n).setRf aSeqSt 15 0 stOk).finish tag stOk
      (leBytes 1 n)).slotParts = (s.slotOpened n d).slotParts := by
    rw [State.finish_slotParts, State.setRf_slotParts _ (by decide), State.setRf_slotParts _ (by decide)]
  refine Runs.of run ⟨?_, ?_, ?_, outside.answered waits _ _, ?_⟩
  · exact (State.sl_of_slotParts parts _ _ _ _).trans state
  · exact (congrArg (64 * ·) (State.sl_of_slotParts parts _ _ _ _)).trans bpt
  · exact (State.sl_of_slotParts parts _ _ _ _).trans noFrame
  · rw [State.mem_of_slotParts parts, State.slotOpened_mem]

theorem State.slotRelease_ok (up : s.fallback = false) (opened : s.slotState n = 1) :
    s.slotRelease n = (stOk, s.setRf (aSlot n 0) 31 29 2) :=
  if_neg (by simp [up, opened])

theorem State.slotState_released : (s.setRf (aSlot n 0) 31 29 2).slotState n = 2 :=
  State.rf_setRf_same _ _ _ _ _ (by decide)

/-- RELEASE by register of an OPEN slot. -/
theorem runs_slotRelease_reg (req : s.seqReq (.reg path a v) 2 = some (any, rem, k, n, eid)) (up : s.fallback = false)
    (opened : s.slotState n = 1) :
    Runs (.slotRelease (.reg path a v)) s (fun t => t.slotState n = 2 ∧ t.rf aSeqSt 15 0 = stOk ∧ t.seq = s.seq ∧
      t.mem = s.mem) := by
  have run : exec (.slotRelease (.reg path a v)) s =
      .next (((s.setRf (aSlot n 0) 31 29 2).mirrorSlot n).setRf aSeqSt 15 0 stOk) := by
    show execSlotRelease (.reg path a v) s = _
    unfold execSlotRelease
    dsimp only
    rw [req]
    dsimp only
    rw [State.slotRelease_ok up opened]
    dsimp only
    rw [if_pos rfl, State.seqEnd_reg]
  have parts : (((s.setRf (aSlot n 0) 31 29 2).mirrorSlot n).setRf aSeqSt 15 0 stOk).slotParts =
      (s.setRf (aSlot n 0) 31 29 2).slotParts := by
    rw [State.setRf_slotParts _ (by decide), State.mirrorSlot_slotParts]
  refine Runs.of run ⟨?_, ?_, ?_, ?_⟩
  · exact (State.sl_of_slotParts parts _ _ _ _).trans State.slotState_released
  · exact State.rf_setRf_same _ _ _ _ _ (by decide)
  · rw [State.setRf_seq, State.mirrorSlot_seq, State.setRf_seq]
  · rw [State.setRf_mem, State.mirrorSlot_mem, State.setRf_mem]

/-- RELEASE by a Cuing command of an OPEN slot. -/
theorem runs_slotRelease_cmd (waits : Waits s tag 0x0502 p) (len : p.payload.length = 1)
    (small : byteAt p.payload 0 < 32) (up : s.fallback = false) (opened : s.slotState (byteAt p.payload 0) = 1)
    (role : s.role ≠ 1) :
    Runs (.slotRelease (.cmd tag)) s (fun t => t.slotState (byteAt p.payload 0) = 2 ∧ Answered t p stOk [] ∧
      t.mem = s.mem) := by
  generalize slot : byteAt p.payload 0 = n at *
  have outside : SameOutsideSeq s ((s.setRf (aSlot n 0) 31 29 2).setRf aSeqSt 15 0 stOk) :=
    ((SameOutsideSeq.refl s).setRf (by unfold aSlot; omega)).setRf (by decide)
  have run : exec (.slotRelease (.cmd tag)) s = .next
      (((s.setRf (aSlot n 0) 31 29 2).setRf aSeqSt 15 0 stOk).finish tag stOk []) := by
    show execSlotRelease (.cmd tag) s = _
    unfold execSlotRelease
    dsimp only
    rw [waits.1]
    dsimp only
    rw [slot, if_neg (by omega), State.slotRelease_ok up opened]
    dsimp only
    rw [if_pos rfl, State.mirrorAnswer_cmd (by rw [outside.role]; exact role)]
  have parts : (((s.setRf (aSlot n 0) 31 29 2).setRf aSeqSt 15 0 stOk).finish tag stOk []).slotParts =
      (s.setRf (aSlot n 0) 31 29 2).slotParts := by
    rw [State.finish_slotParts, State.setRf_slotParts _ (by decide)]
  refine Runs.of run ⟨?_, outside.answered waits _ _, ?_⟩
  · exact (State.sl_of_slotParts parts _ _ _ _).trans State.slotState_released
  · rw [State.mem_of_slotParts parts, State.setRf_mem]

theorem runs_seqErrClear (via : s.pathOk path = true) (up : s.plnUp = true) (clear : fld v 0 0 = 1) :
    Runs (.seqErrClear path v) s (fun t => t = (s.setReg (aSeqErr 0) 0).setReg (aSeqErr 1) 0) :=
  Runs.of (if_pos ⟨via, up, clear⟩) rfl

end Commands

/-- Settles O35: OPEN writes the slot's own words, its tables and lengths alone, the reply and the mirror stream write
none of them, and neither does the device's own traffic once a slot has been emptied. -/
theorem slotsOpenAndRelease : Obligations.SlotsOpenAndRelease := by
  unfold Obligations.SlotsOpenAndRelease
  intro s
  refine ⟨?_, ?_, ?_, ?_, ?_⟩
  · rintro _ path a v _ rem k n eid rfl req rfl
    refine ⟨?_, fun free up bad => runs_slotOpen_reg_bad req free up bad⟩
    rintro _ rfl free up good room
    exact runs_slotOpen_reg req free up good room
  · rintro _ path a v any rem k n eid rfl req up opened
    exact runs_slotRelease_reg req up opened
  · intro n hn releasing items copies evac home
    exact runs_slotReleaseDone hn releasing items copies evac home
  · intro path v via up clear
    exact runs_seqErrClear via up clear
  · refine fun tag p => ⟨fun n d waits len named slot desc free up good room role => ?_,
      fun waits len small up opened role => ?_⟩
    · exact runs_slotOpen_cmd waits len named slot desc free up good room role
    · exact runs_slotRelease_cmd waits len small up opened role

end Sys2Proof.Machine
end

section
/-!
Two clauses of sequence memory that do not hold: a SEQ_REGION that names a stack at stop OFF (R40, R236), and an append
to tokens that another append is being performed to (R249).
-/

namespace Sys2Proof.Machine

/-! ### A SEQ_REGION that names a stack at stop OFF (R40, R236) -/

/-- The plinth is at RUN with its firmware in service, no slot is open, and stack 0 is at stop OFF. -/
def stackStopped : State := ((State.reset.toDepth dPln .run).setReg aFw 0#32).toOff (dHbm 0) .stop

/-- A general region of 8 GiB on stack 0 alone. -/
def regionOnStack0 : Word := 0x01000008#32

theorem stackStopped_free : stackStopped.pathOk .cuing = true ∧ stackStopped.plnUp = true ∧
    regionOk regionOnStack0 = true ∧ stackStopped.regionFree = true := by
  decide +kernel

theorem stackStopped_barred : stackStopped.regionBarred regionOnStack0 = true := by decide +kernel

/-- A value that a barred stack keeps out is rejected. -/
theorem execSeqRegionWrite_barred {s : State} {path : Path} {v : Word} (via : s.pathOk path = true) (up : s.plnUp = true)
    (ok : regionOk v = true) (barred : s.regionBarred v = true) :
    execSeqRegionWrite path v s = .next (s.setRf aSeqSt 30 30 1) := by
  unfold execSeqRegionWrite
  rw [if_pos ⟨via, up⟩, ok, barred, Bool.not_true, Bool.and_false]
  rfl

/-- Refutes O36: the clause of an accepted SEQ_REGION has no premise on the depth of its stacks, and a value that would
put a stack at stop OFF into GEN_STACKS is rejected, since its condition for OFF would fail (R40, R41). -/
theorem not_framesMoveAndComeBack : ¬ Obligations.FramesMoveAndComeBack := by
  unfold Obligations.FramesMoveAndComeBack
  intro h
  obtain ⟨via, up, ok, free⟩ := stackStopped_free
  obtain ⟨-, -, -, -, -, -, -, -, -, -, region⟩ := h stackStopped
  obtain ⟨accepted, -⟩ := region .cuing via
  obtain ⟨t, run, -, -, reload, -, -⟩ := accepted regionOnStack0 up ok free
  obtain rfl : stackStopped.setRf aSeqSt 30 30 1 = t :=
    Host.Outcome.next.inj ((execSeqRegionWrite_barred via up ok stackStopped_barred).symm.trans run)
  cases reload

/-! ### An append that waits for another (R249) -/

/-- The append of one token of 64 bytes at the end of layer 0 of slot 0, as a call of the sequence library on
context 0. -/
def appendItem : Item :=
  { id := 0, desc := 0, cluster := 0, image := 0, entry := 3, queue := 0
    form := opX 0x80 1023 0 0 3 0 1 0 0, src := 7, caller := .remote 7 5 3 0 true, payload := List.replicate 64 1
    runs := some 0, start := 0, len0 := 1023, reads := [], failed := [], limit := 0 }

/-- The sequence library. -/
def seqLibrary : Image :=
  { granules := 8, codeBase := 0, codeBytes := 65536, codeKib := 64, dataBase := 65536, dataBytes := 0, dataKib := 0
    rsv := [], queues := [0], slots := [], groups := [], entries := [], reorder := 0, reorderUsed := 0, handles := []
    bufs := [], library := some 0, buildId := 0, bytes := [] }

/-- Frames of stack 0: the page table of slot 0, and its page 0, which has room for 1,024 tokens. -/
def tableFrame : Nat := 524288
def pageFrame : Nat := 524289

/-- Slot 0 is OPEN with one layer of 1,023 tokens of 64 bytes. -/
def slotOf1023 : State :=
  ((((((State.reset.setReg aSelfEid 5#32).setReg (aSlot 0 0) 0x20010000#32).setReg (aSlot 0 3) 0x00010001#32).setReg
    (aSlot 0 4) 2048#32).setReg (aSlot 0 5) 1024#32).setReg (aSlot 0 6) 2#32).setReg (aLen 0 0) 1023#32

/-- An append of tokens 1,023 and 1,024 that has begun: the first is written, the second is on its way to a lender. -/
def appendBegun : Copy :=
  { k := 0, tag := 0, kind := 1, slot := 0, layer := 0, token := 1023, n := 2, status := stOk, fin := false
    moves := [⟨.bench 0, .hbm (pageFrame * 65536 + 65472), 64, 2⟩, ⟨.bench 64, .fab 9 0, 64, 1⟩] }

/-- Context 0 calls for the append while the one of context 1 is being performed. -/
def appendsMeet : State :=
  let s := ((slotOf1023.setReg (aL1 0 0) (BitVec.ofNat 32 (2 ^ 31 + tableFrame))).memPut (tableFrame * 65536)
    (leBytes 8 (mkPte pageFrame none))).setImage 0 (some seqLibrary)
  let s := (s.setCtx 0 { ctxReset with item := some 0 }).setCtx 1 { ctxReset with copies := [appendBegun] }
  { s with shed := { s.shed with items := [appendItem], nextId := 1 } }

theorem appendsMeet_append : appendsMeet.libItem 0 3 = some (appendItem, 0) ∧ appendsMeet.turn 0 = true ∧
    NoErr appendsMeet 0 ∧ (appendsMeet.ctx 0).copies = [] ∧ LibCaller appendsMeet appendItem 0 7 5 3 0 true ∧
    PageHere appendsMeet 0 appendItem.layer appendItem.token := by
  decide +kernel

theorem appendsMeet_slot : appendItem.slot = some 0 ∧ appendsMeet.slotState 0 = 1 ∧
    appendItem.layer < appendsMeet.sl 0 3 31 16 ∧ appendItem.layer < 4096 ∧ appendsMeet.bpt 0 = 64 ∧
    appendItem.arg 0 % 65536 = 1 ∧ appendItem.token = appendsMeet.layerLen 0 appendItem.layer ∧
    appendItem.token < appendsMeet.sl 0 4 21 0 ∧ appendsMeet.sl 0 0 28 28 = 0 ∧ appendsMeet.role ≠ 1 := by
  decide +kernel

/-- The item goes on: the append waits. -/
theorem execLibAppend_appendsMeet :
    ∃ t, execLibAppend 0 appendsMeet = .next t ∧ (t.item 0).isSome = true := ⟨_, rfl, by decide +kernel⟩

/-- Refutes O37: the clause of APPEND has no premise on the other appends, and one to tokens that another append is
being performed to waits for its end (R249). -/
theorem not_libraryServesTheSequence : ¬ Obligations.LibraryServesTheSequence := by
  unfold Obligations.LibraryServesTheSequence
  intro h
  obtain ⟨lib, turn, noErr, copies, caller, here⟩ := appendsMeet_append
  obtain ⟨slot, opened, layer, small, bpt, one, token, room, single, role⟩ := appendsMeet_slot
  obtain ⟨append, -⟩ := h appendsMeet
  obtain ⟨atEnd, -⟩ := append 0 appendItem 0 0 lib turn noErr slot (by decide) opened layer small (by omega) (by omega) one
    copies (bpt.trans_le (by decide))
  obtain ⟨t, run, ended, -⟩ := atEnd _ 7 5 3 0 true token room here rfl single role caller
  obtain ⟨u, waits, stays⟩ := execLibAppend_appendsMeet
  obtain rfl : u = t := Host.Outcome.next.inj (waits.symm.trans run)
  rw [ended] at stays
  cases stays

end Sys2Proof.Machine
end

section
/-!
The drain of an image whose last packet has not left: its buffer is out under the image's reservation (R184, R278).
-/

namespace Sys2Proof.Machine

/-- IMAGE_UNLOAD of image 0 over the command ring, its reply outstanding. -/
def unloadCommand : Prog :=
  { tag := 4, opcode := 0x0303, minor := 1, member := 0, scatter := false, serial := false, rbuf := true, dataAddr := 0
    capacity := 0, payload := [0#8], origin := .host, phase := 1, gone := false }

/-- A job image with one queue and one buffer of class 0 in each cluster. -/
def drainingImage : Image := { seqLibrary with rsv := [1, 0, 0, 0, 0], library := none }

/-- The pool of a cluster that holds a packet of image 0, which waits to be injected, under the image's reservation. -/
def packetPool : Pool := { poolReset with held := [⟨0, 0, true, .imgPkt 0 0⟩], rsvs := [⟨.image 0, 0, 1⟩] }

/-- Image 0 is DRAINING with no item left, and cluster 0 still holds a packet of it. -/
def packetOutlivesItems : State :=
  let s := (State.reset.setReg (aRing 1 + 8) 0x80000004#32).setRf aHioLink 9 9 1
  let s := ((s.setRf (aImage 0 0) 31 29 3).setImage 0 (some drainingImage)).setPool 0 packetPool
  { s with host := { s.host with prog := [unloadCommand], bme := true }, shed := { s.shed with unload := [(0, some 4)] } }

theorem packetOutlivesItems_draining :
    packetOutlivesItems.shed.unload.find? (fun u => decide (u.1 = 0)) = some (0, some 4) ∧
    packetOutlivesItems.image 0 = some drainingImage ∧ (∀ y ∈ packetOutlivesItems.shed.items, y.image ≠ 0) ∧
    drainingImage.groups = [] ∧ packetOutlivesItems.role ≠ 1 := by
  decide +kernel

theorem packetOutlivesItems_command :
    packetOutlivesItems.host.prog.find? (fun q => decide (q.tag = 4)) = some unloadCommand ∧
    unloadCommand.origin = .host ∧ unloadCommand.gone = false ∧ packetOutlivesItems.ringUp 1 = true := by
  decide +kernel

/-- The unload waits for the packet. -/
theorem execImageDrainDone_packetOutlivesItems :
    execImageDrainDone 0 packetOutlivesItems = .next packetOutlivesItems :=
  rfl

/-- Refutes O38: the clause of IMAGE_DRAIN_DONE has no premise on the packets of the image, and a buffer that it has
drawn must be returned before its reservation is released (R184, R278). -/
theorem not_imagesLoadAndUnload : ¬ Obligations.ImagesLoadAndUnload := by
  unfold Obligations.ImagesLoadAndUnload
  intro h
  obtain ⟨unload, image, noItem, noGroup, role⟩ := packetOutlivesItems_draining
  obtain ⟨-, -, drain, -⟩ := h packetOutlivesItems
  obtain ⟨t, run, -, gone, -⟩ := drain 0 4 _ _ (by decide) unload image noItem noGroup
    packetOutlivesItems_command role
  obtain rfl : packetOutlivesItems = t :=
    Host.Outcome.next.inj (execImageDrainDone_packetOutlivesItems.symm.trans run)
  rw [image] at gone
  cases gone

end Sys2Proof.Machine
end

section
/-!
The end of a work item (R289, R317): the CALL_DONE that its caller gets, and what its clean-up leaves as it is.
-/

namespace Sys2Proof.Machine

/-! ### The header of a packet that the device makes -/

/-- A field behind the first part of a byte string. -/
theorem field_append_skip {a : List Byte} {off : Nat} (h : a.length ≤ off) (c : List Byte) (n : Nat) :
    field (a ++ c) off n = field c (off - a.length) n := by
  rw [field, slice, List.drop_append, List.drop_of_length_le h]
  rfl

section Header
variable (dst src typ : Nat) (mc pin fe : Bool) (flow fsn : Nat) (op data : List Byte)

/-- A packet goes on the channel of its class (R94). -/
theorem hVc_mkPkt : hVc (mkPkt dst src typ mc pin fe flow fsn op data).hdr = typ / 8 % 8 := by
  obtain ⟨vc, -⟩ := bits_flagByte typ mc pin fe
  obtain ⟨-, -, -, flags, -⟩ := fields_mkPkt dst src typ mc pin fe flow fsn op data _ rfl
  rw [hVc, flags, Nat.pow_one, Nat.mod_eq_of_lt (flagByte_lt typ mc pin fe), vc]

/-- The fields of a CALL_DONE's operation: its status, and its first result (R101). -/
theorem fields_doneForm {form : List Byte} (long : 10 ≤ form.length) (status a0 a1 a2 : Nat) :
    ∀ h, h = (mkPkt dst src typ mc pin fe flow fsn (doneForm form status a0 a1 a2) data).hdr →
      hStatus h = status % 256 ^ 2 ∧ field h 32 8 = a0 % 256 ^ 8 := by
  rintro _ rfl
  have head : (form.take 10).length = 10 := List.length_take_of_le long
  have pad : padTo 40 (doneForm form status a0 a1 a2) = doneForm form status a0 a1 a2 := by
    have full : (doneForm form status a0 a1 a2).length = 40 := by simp [doneForm, long]
    rw [padTo, List.take_of_length_le full.le, full]
    exact List.append_nil _
  simp only [hStatus, mkPkt, pad]
  simp only [doneForm, List.append_assoc]
  constructor <;>
    simp only [field_leBytes_skip, field_append_skip, head, field_leBytes_zero, Nat.reduceLeDiff, Nat.reduceSub]

end Header

/-! ### What the clean-up leaves -/

/-- What stands beyond the clean-up: registers, HBM, the items, the contexts, and the responses of every queue. -/
def State.lasting (s : State) : Tab Word × Tab Byte × List Item × Tab Ctx × (Nat → List QPkt) :=
  (s.regs, s.mem, s.shed.items, s.ctxs, fun q => s.inq q 1)

section Lasting
variable {s t : State} (h : t.lasting = s.lasting)
include h

theorem State.reg_of_lasting (a : Nat) : t.reg a = s.reg a :=
  congrArg (fun r : Tab Word => tabGet regReset r a) (congrArg (fun x => x.1) h)

theorem State.mem_of_lasting : t.mem = s.mem := congrArg (fun x => x.2.1) h

theorem State.items_of_lasting : t.shed.items = s.shed.items := congrArg (fun x => x.2.2.1) h

theorem State.item_of_lasting (i : Nat) : t.item i = s.item i := by
  unfold State.item
  rw [State.items_of_lasting h]

theorem State.ctx_of_lasting (x : Nat) : t.ctx x = s.ctx x :=
  congrArg (fun c : Tab Ctx => tabGet (fun _ => ctxReset) c x) (congrArg (fun x => x.2.2.2.1) h)

theorem State.inq_of_lasting (q : Nat) : t.inq q 1 = s.inq q 1 := congrArg (fun x => x.2.2.2.2 q) h

end Lasting

section Cleanup
variable (s : State)

/-- A packet of another class than the responses'. -/
theorem State.emit_lasting (c : Nat) {p : Pkt} (small : hVc p.hdr < 8) (other : hVc p.hdr ≠ 1) :
    (s.emit c p).lasting = s.lasting := by
  have responses (q : Nat) : (s.emit c p).inq q 1 = s.inq q 1 := by
    unfold State.emit
    split
    · rfl
    · rw [State.inq_setInq, if_neg (by omega)]
      rfl
  unfold State.lasting
  rw [State.emit_regs, State.emit_mem, State.emit_shed, State.emit_ctxs, funext responses]

/-- WCLOSE is a request. -/
theorem State.wcloseWhenDone_lasting (w : Nat) : (s.wcloseWhenDone w).lasting = s.lasting := by
  unfold State.wcloseWhenDone State.wclose
  dsimp only
  split
  · refine Eq.trans rfl (s.emit_lasting _ (p := mkPkt ..) ?_ ?_) <;> rw [hVc_mkPkt] <;> decide
  · rfl

theorem State.closeWindows_lasting (item : Nat) : (s.closeWindows item).lasting = s.lasting := by
  unfold State.closeWindows
  refine foldl_read State.lasting (fun s w => ?_) _ _
  dsimp only
  split
  · exact (State.wcloseWhenDone_lasting _ _).trans rfl
  · split
    · rfl
    · split <;> rfl

theorem State.nextClaim_same (c : Nat) :
    ∃ x0 x1, s.nextClaim c = { s with shed := { s.shed with aside := x0, claims := x1 } } := by
  unfold State.nextClaim
  split
  · exact ⟨_, _, rfl⟩
  · dsimp only
    split <;> exact ⟨_, _, rfl⟩

theorem State.asideDone_lasting (it : Item) : (s.asideDone it).lasting = s.lasting := by
  unfold State.asideDone
  obtain ⟨_, _, same⟩ := State.nextClaim_same _ it.cluster
  rw [same]
  rfl

theorem State.idleDef_lasting (c q : Nat) : (s.idleDef c q).lasting = s.lasting := by
  unfold State.idleDef
  split <;> rfl

theorem State.setPool_lasting (c : Nat) (x : Pool) : (s.setPool c x).lasting = s.lasting := rfl

/-- The payload of a remote caller's item is given up: pools change, and free values are drawn. -/
theorem State.windowRest_lasting {it : Item} {dst src flow fsn : Nat} {pin : Bool}
    (remote : it.caller = .remote dst src flow fsn pin) : (s.windowRest it).lasting = s.lasting := by
  unfold State.windowRest
  rw [remote]
  dsimp only
  split
  · refine foldl_read State.lasting (fun s c => ?_) _ _
    exact (State.setPool_lasting _ _ _).trans (s.setPool_lasting _ _)
  · obtain ⟨_, _, same⟩ := s.winSync_same dst src flow
    rw [same]
    rfl

/-- A running item of a remote caller is gone: it is no item any more, and its context is free. -/
theorem State.itemGone_lasting {it : Item} {x dst src flow fsn : Nat} {pin : Bool} (runs : it.runs = some x)
    (remote : it.caller = .remote dst src flow fsn pin) :
    (s.itemGone it).lasting = (State.setCtx { s with
      shed := { s.shed with items := s.shed.items.filter (fun i => i.id ≠ it.id) } } x ctxReset).lasting := by
  unfold State.itemGone
  rw [State.windowRest_lasting _ remote, State.closeWindows_lasting, State.asideDone_lasting, State.idleDef_lasting, runs]
  rfl

end Cleanup

/-! ### The sample of an item that ends (R529, R530) -/

section Sample
variable (s : State) (x pc : Nat)

theorem State.takeSample_same : ∃ x0 x1, s.takeSample x pc = { s with regs := x0, ctxs := x1 } := by
  have words (t : State) (a : Nat) (l : List Word) : ∃ r, t.setRegs a l = { t with regs := r } := by
    induction l generalizing t a with
    | nil => exact ⟨_, rfl⟩
    | cons w l ih => exact ih (t.setReg a w) _
  choose r words using words
  unfold State.takeSample
  split
  · dsimp only
    split
    · exact ⟨_, _, rfl⟩
    · split
      · exact ⟨_, _, rfl⟩
      · rw [words]
        exact ⟨_, _, rfl⟩
  · exact ⟨_, _, rfl⟩

/-- A sample is written apart from the registers of the shed. -/
theorem State.reg_takeSample {a : Nat} (apart : a % 0x100000 < 0x50000 ∨ 0x60000 ≤ a % 0x100000) :
    (s.takeSample x pc).reg a = s.reg a := by
  have head : a ≠ aSampHead (ctxCluster x) := by unfold aSampHead aC; omega
  have record (r : Nat) (l : List Byte) (t : State) :
      (t.setRegs (aSample (ctxCluster x) (r % 256)) (bytesToWords 8 l)).reg a = t.reg a := by
    rw [State.reg_setRegs, if_neg]
    rw [bytesToWords, List.length_map, List.length_range]
    unfold aSample aC
    omega
  unfold State.takeSample
  split
  · dsimp only
    split
    · rfl
    · split
      · exact State.reg_bump_ne _ _ _ _ head
      · rw [State.reg_setRf_ne _ _ _ _ head, record]
        rfl
  · rfl

end Sample

/-! ### The answer to the caller (R289, R363) -/

/-- A remote caller gets a CALL_DONE, which is the newest of the responses that its cluster sends. -/
theorem State.callDone_sent {s : State} {it : Item} {dst src flow fsn status a0 : Nat} {pin : Bool} (a1 a2 : Nat)
    (payload : List Byte) (remote : it.caller = .remote dst src flow fsn pin) (hdst : dst < 65536) (hflow : flow < 65536)
    (hfsn : fsn < 2 ^ 24) (eid : s.selfEid ≠ 0xFFFF) (long : 10 ≤ it.form.length) (hstatus : status < 65536)
    (ha0 : a0 < 2 ^ 64) :
    CallDone (s.callDone it status a0 a1 a2 payload) it dst src flow fsn pin status a0 payload.length := by
  have sent := s.emit_inq it.cluster
    (mkPkt dst src 0x0C false pin false flow fsn (doneForm it.form status a0 a1 a2) payload) eid
  rw [hVc_mkPkt, Option.map_eq_some_iff] at sent
  obtain ⟨k, newest, packet⟩ := sent
  obtain ⟨hdr, data⟩ := Pkt.mk.inj packet
  obtain ⟨toDst, -, type, -, -, onFlow, withFsn⟩ :=
    fields_mkPkt dst src 0x0C false pin false flow fsn _ payload k.hdr hdr
  obtain ⟨withStatus, withA0⟩ :=
    fields_doneForm dst src 0x0C false pin false flow fsn payload long status a0 a1 a2 k.hdr hdr
  rw [Nat.mod_eq_of_lt (by omega)] at toDst onFlow withFsn withStatus withA0
  have length : k.data.length = 64 * ceilDiv payload.length 64 := by rw [data]; exact length_padTo _ _
  have done : s.callDone it status a0 a1 a2 payload = s.emit it.cluster
      (mkPkt dst src 0x0C false pin false flow fsn (doneForm it.form status a0 a1 a2) payload) := by
    unfold State.callDone
    rw [remote]
  rw [CallDone, done, newest]
  refine ⟨remote, ?_, ?_⟩
  · rw [Option.map_some, hType, type, toDst, onFlow, withFsn]
    rfl
  · rw [Option.map_some, withStatus, withA0, length]

/-! ### RUN_LIMIT_EXPIRE (R289, R317) -/

section RunLimit
variable {s : State} {x dst src flow fsn : Nat} {pin : Bool} {it : Item}

/-- A running item of a remote caller ends: what stands beyond its end stands in the state that has answered. -/
theorem State.endItem_spec {status a0 : Nat} (a1 a2 : Nat) (payload : List Byte)
    (called : CalledBy s it x dst src flow fsn pin) (hstatus : status < 65536) (ha0 : a0 < 2 ^ 64) :
    let t := s.endItem it status a0 a1 a2 payload
    t.item it.id = none ∧ t.ctx x = ctxReset ∧ CallDone t it dst src flow fsn pin status a0 payload.length ∧
      t.mem = s.mem ∧ ∀ a, a % 0x100000 < 0x50000 → t.reg a = s.reg a := by
  obtain ⟨remote, runs, hdst, hflow, hfsn, eid, long, -⟩ := called
  extract_lets t
  have ended : t = ((s.takeSample x 0xFFFFFFFF).callDone it status a0 a1 a2 payload).itemGone it := by
    unfold t State.endItem
    rw [runs]
  have sampled {a : Nat} := s.reg_takeSample x 0xFFFFFFFF (a := a)
  have answered := State.callDone_sent (s := s.takeSample x 0xFFFFFFFF) a1 a2 payload remote hdst hflow hfsn
    (by rwa [State.selfEid, State.rf, sampled (by decide)]) long hstatus ha0
  obtain ⟨_, _, same⟩ := s.takeSample_same x 0xFFFFFFFF
  have done : ∃ x0, (s.takeSample x 0xFFFFFFFF).callDone it status a0 a1 a2 payload =
      { s.takeSample x 0xFFFFFFFF with sw := x0 } := by
    unfold State.callDone
    rw [remote]
    exact State.emit_same _ _ _
  obtain ⟨_, done⟩ := done
  have gone := State.itemGone_lasting ((s.takeSample x 0xFFFFFFFF).callDone it status a0 a1 a2 payload) runs remote
  rw [← ended] at gone
  refine ⟨?_, ?_, ?_, ?_, fun a low => ?_⟩
  · rw [State.item_of_lasting gone]
    exact List.find?_eq_none.mpr fun y hy => by simpa using (List.mem_filter.mp hy).2
  · rw [State.ctx_of_lasting gone]
    exact State.ctx_setCtx_same _ _ _
  · rw [CallDone, State.inq_of_lasting gone]
    exact answered
  · rw [State.mem_of_lasting gone, done, same]
    rfl
  · rw [State.reg_of_lasting gone, ← sampled (.inl low), done]
    rfl

theorem runs_runLimitExpire (item : s.ctxItem x = some it) (called : CalledBy s it x dst src flow fsn pin) :
    Runs (.runLimitExpire x) s (fun t => t.item it.id = none ∧ t.ctx x = ctxReset ∧
      t.rf (aShedErr it.cluster) 7 1 = satAdd 7 (s.rf (aShedErr it.cluster) 7 1) 1 ∧
      CallDone t it dst src flow fsn pin stTimeout 0 0 ∧ t.mem = s.mem) := by
  have run : exec (.runLimitExpire x) s = .next ((s.bump (aShedErr it.cluster) 7 1 1).endItem it stTimeout 0 0 0 []) := by
    show execRunLimitExpire x s = _
    unfold execRunLimitExpire
    rw [item]
  have shed : aShedErr it.cluster % 0x100000 = 0x4000C := by unfold aShedErr aC; omega
  have eid : (s.bump (aShedErr it.cluster) 7 1 1).selfEid = s.selfEid :=
    congrArg (fld · 15 0) (State.reg_bump_ne _ _ _ _ (by unfold aShedErr aC aSelfEid; omega))
  obtain ⟨gone, free, done, mem, reg⟩ := State.endItem_spec (s := s.bump (aShedErr it.cluster) 7 1 1)
    (status := stTimeout) (a0 := 0) 0 0 [] (by rwa [CalledBy, eid]) (by decide) (by decide)
  refine Runs.of run ⟨gone, free, ?_, done, mem⟩
  rw [State.rf, reg _ (by omega)]
  exact State.rf_bump_same _ _ _ _ _ (by decide)

end RunLimit

end Sys2Proof.Machine
end

section
/-!
Waiting items (R284 to R288): the item that is chosen, the context that it starts on, and the shuttle that is set aside.
-/

namespace Sys2Proof.Machine

/-! ### The choice among the queues (R284, R285) -/

/-- The deficits and the pointers of the queues are given. -/
def State.withDeficits (s : State) (dfc : Tab Int) (ptr : Tab Nat) : State :=
  { s with shed := { s.shed with dfc := dfc, ptr := ptr } }

section Choice
variable (s : State)

theorem State.setDfc_same (c q : Nat) (v : Int) : ∃ x0, s.setDfc c q v = s.withDeficits x0 s.shed.ptr := ⟨_, rfl⟩

theorem State.pickQueue_same (c p : Nat) (r level : List Nat) :
    ∃ x0 x1, (s.pickQueue c p r level).2 = s.withDeficits x0 x1 := by
  unfold State.pickQueue
  extract_lets n t ok ptr q
  have refilled : ∃ x0, t = s.withDeficits x0 s.shed.ptr := by
    unfold t
    split
    · exact ⟨_, rfl⟩
    · refine List.foldlRecOn (motive := fun t : State => ∃ x0, t = s.withDeficits x0 s.shed.ptr) _ _ ⟨_, rfl⟩
        fun t same q _ => ?_
      obtain ⟨_, rfl⟩ := same
      exact State.setDfc_same _ _ _ _
  clear_value q t
  obtain ⟨_, rfl⟩ := refilled
  cases q <;> exact ⟨_, _, rfl⟩

/-- The choice of the next item moves the deficits and the pointers of the queues alone. -/
theorem State.nextItem_same (c : Nat) (l : List Nat) : ∃ x0 x1, (s.nextItem c l).2 = s.withDeficits x0 x1 := by
  induction l with
  | nil => exact ⟨_, _, rfl⟩
  | cons p rest ih =>
    unfold State.nextItem
    extract_lets level r
    split
    · exact ih
    · obtain ⟨x0, x1, same⟩ := s.pickQueue_same c p r level
      split <;>
        next h =>
          rw [h] at same
          exact ⟨x0, x1, same⟩

end Choice

/-! ### The context that an item starts on (R287) -/

/-- A context as a work item of no slot starts: the PC of its entry, its arguments and its payload. -/
def Item.firstCtx (it : Item) (pc : Nat) : Ctx :=
  let c : Ctx := { ctxReset with item := some it.id, pc := pc }
  let c := ((c.setS 1 (BitVec.ofNat 64 (field it.form 16 8))).setS 2 (BitVec.ofNat 64 (field it.form 24 8))).setS 3
    (BitVec.ofNat 64 (field it.form 32 8))
  let c := ((c.setS 4 (BitVec.ofNat 64 it.src)).setS 5 (BitVec.ofNat 64 (field it.form 0 6))).setS 6
    (BitVec.ofNat 64 it.payload.length)
  { c with bench := tabSetList memZero [] 0 it.payload }

section FirstCtx
variable (it : Item) (pc : Nat)

theorem Item.firstCtx_sreg : ((it.firstCtx pc).sreg 1 = BitVec.ofNat 64 (field it.form 16 8)) ∧
    (it.firstCtx pc).sreg 4 = BitVec.ofNat 64 it.src ∧ (it.firstCtx pc).sreg 6 = BitVec.ofNat 64 it.payload.length := by
  simp [Item.firstCtx, Ctx.sreg, Ctx.setS, tabGet_tabSet]

/-- The payload stands at the start of the bench. -/
theorem Item.firstCtx_bench : tabGetList memZero (it.firstCtx pc).bench 0 it.payload.length = it.payload := by
  refine List.ext_getElem (by simp [tabGetList]) fun i hi _ => ?_
  have inside : i < it.payload.length := by simpa [tabGetList] using hi
  simp [tabGetList, Item.firstCtx, tabGet_tabSetList, inside]

end FirstCtx

section Start
variable {s : State} {it : Item} {c i x : Nat} {m : Image}

/-- An item as it starts on a context. -/
def Item.started (y : Item) (x aon : Nat) : Item := { y with runs := some x, start := aon, len0 := 0 }

theorem State.evClu_same (s : State) (c code n : Nat) : ∃ x0, s.evClu c code n = { s with regs := x0 } := by
  unfold State.evClu
  split
  · exact ⟨_, rfl⟩
  · exact s.ctrBank_same _ _ _ _ _

theorem State.wakeItem_same (s : State) (form : List Byte) (q c : Nat) :
    ∃ x0, s.wakeItem form q c = { s with pwr := x0 } := by
  unfold State.wakeItem
  split
  · exact s.wake_same _
  · obtain ⟨_, first⟩ := s.wake_same (dShu c)
    rw [first]
    exact State.wake_same _ _

theorem State.item_updItem (listed : s.item it.id = some it) (x aon : Nat) :
    (s.updItem it.id (fun y => y.started x aon)).item it.id = some (it.started x aon) := by
  have same : decide ((it.started x aon).id = it.id) = true := decide_eq_true rfl
  exact find?_updFirst_changed (f := fun y => Item.started y x aon) listed same

/-- A context is given, is ready, and the start is counted: items and HBM stand. -/
theorem State.ctx_started (s : State) (c x : Nat) (k : Ctx) : ∀ t, t = ((s.setCtx x k).ready x).evClu c 0x48 1 →
    t.ctx x = k ∧ t.shed.items = s.shed.items ∧ t.mem = s.mem := by
  rintro _ rfl
  obtain ⟨_, counted⟩ := ((s.setCtx x k).ready x).evClu_same c 0x48 1
  rw [counted]
  exact ⟨s.ctx_setCtx_same x k, rfl, rfl⟩

/-- An item of no slot that starts: it runs on its context, which holds what R287 gives it. -/
theorem State.startItem_spec (noSlot : it.slot = none) (free : s.ctxFree c i = some x) (image : s.image it.image = some m)
    (listed : s.item it.id = some it) :
    (s.startItem it c i).item it.id = some (it.started x s.aon) ∧
      (s.startItem it c i).ctx x = it.firstCtx (m.entries.getD it.entry (0, 0, 0, 0)).1 ∧
      (s.startItem it c i).mem = s.mem := by
  have started : s.startItem it c i = ((((s.updItem it.id (fun y => y.started x s.aon)).asideDone it).setCtx x
      (it.firstCtx (m.entries.getD it.entry (0, 0, 0, 0)).1)).ready x).evClu c 0x48 1 := by
    unfold State.startItem
    rw [free, image]
    dsimp only
    rw [noSlot]
    rfl
  have aside := (s.updItem it.id (fun y => y.started x s.aon)).asideDone_lasting it
  obtain ⟨ctx, items, mem⟩ := State.ctx_started _ c x _ _ started
  have kept := State.mem_of_lasting aside
  refine ⟨?_, ctx, mem.trans kept⟩
  rw [← State.item_updItem listed, ← State.item_of_lasting aside, State.item, items]
  rfl

/-- The item that is chosen starts on the lowest free context of its shuttle. -/
theorem runs_workItemDispatch (hc : c < 8) (run : AtDepth s (dShu c) .run) (clock : s.rf aClk (24 + c) (24 + c) = 1)
    (noHold : bit s.trd.dispatchHold c = false) (cool : s.thm.critOn = false) (noSwap : s.pair.swapTag = none)
    (chosen : (s.nextItem c [0, 1, 2, 3]).1 = some (it, i)) (noSlot : it.slot = none) (free : s.ctxFree c i = some x)
    (image : s.image it.image = some m) (listed : s.item it.id = some it) :
    Runs (.workItemDispatch c) s (fun t => (t.item it.id).map (·.runs) = some (some x) ∧
      (t.ctx x).item = some it.id ∧ (t.ctx x).pc = (m.entries.getD it.entry (0, 0, 0, 0)).1 ∧
      (t.ctx x).sreg 1 = BitVec.ofNat 64 (field it.form 16 8) ∧
      (t.ctx x).sreg 4 = BitVec.ofNat 64 it.src ∧ (t.ctx x).sreg 6 = BitVec.ofNat 64 it.payload.length ∧
      t.benchGet x 0 it.payload.length = it.payload ∧ (t.ctx x).wait = .no ∧ t.mem = s.mem) := by
  obtain ⟨x0, x1, same⟩ := s.nextItem_same c [0, 1, 2, 3]
  have next : s.nextItem c [0, 1, 2, 3] = (some (it, i), s.withDeficits x0 x1) := Prod.ext chosen same
  obtain ⟨runs, ctx, mem⟩ := State.startItem_spec (s := s.withDeficits x0 x1) noSlot free image listed
  obtain ⟨_, woken⟩ := ((s.withDeficits x0 x1).startItem it c i).wakeItem_same it.form it.queue c
  have run : exec (.workItemDispatch c) s =
      .next (((s.withDeficits x0 x1).startItem it c i).wakeItem it.form it.queue c) := by
    show execWorkItemDispatch c s = _
    unfold execWorkItemDispatch
    rw [if_pos (by simp [hc, State.atDepth, run, clock, noHold, cool, noSwap]), next]
    dsimp only
    rw [noSlot]
  rw [woken] at run
  obtain ⟨s1, s4, s6⟩ := it.firstCtx_sreg (m.entries.getD it.entry (0, 0, 0, 0)).1
  refine Runs.of run ⟨congrArg (Option.map (·.runs)) runs, ?_⟩
  simp only [State.benchGet, State.ctx] at ctx ⊢
  rw [ctx]
  exact ⟨rfl, rfl, s1, s4, s6, it.firstCtx_bench _, rfl, mem⟩

end Start

/-! ### The shuttle that is set aside (R286) -/

/-- The older of two items. -/
def Item.older (b y : Item) : Item := if y.id < b.id then y else b

theorem Item.foldl_older (a : Item) (l : List Item) :
    l.foldl Item.older a ∈ a :: l ∧ ∀ y ∈ a :: l, (l.foldl Item.older a).id ≤ y.id := by
  induction l generalizing a with
  | nil => simp
  | cons b l ih =>
    obtain ⟨mem, least⟩ := ih (a.older b)
    have either : a.older b = a ∨ a.older b = b := by unfold Item.older; split <;> simp
    have below : (a.older b).id ≤ a.id ∧ (a.older b).id ≤ b.id := by unfold Item.older; split <;> omega
    have first := least _ List.mem_cons_self
    rw [List.foldl_cons]
    refine ⟨?_, fun y hy => ?_⟩
    · obtain h | h := List.mem_cons.mp mem
      · rw [h]
        obtain h | h := either <;> simp [h]
      · exact .tail _ (.tail _ h)
    · obtain rfl | hy := List.mem_cons.mp hy
      · omega
      · obtain rfl | hy := List.mem_cons.mp hy
        · omega
        · exact least y (.tail _ hy)

section Aside
variable {s : State} {c q : Nat} {it : Item}

/-- The items whose wait in a cluster has expired and that still fit no shuttle. -/
def State.claimants (s : State) (c : Nat) : List Item :=
  s.shed.items.filter (fun it => s.shed.claims.contains (c, it.id) && it.runs.isNone && (s.fitShuttle c it).isNone)

/-- A shuttle is set aside for the oldest claimant, where none is set aside yet. -/
theorem State.nextClaim_oldest (noneYet : s.shed.aside.any (fun a => decide (a.1 = c)) = false)
    (claims : it ∈ s.claimants c) (oldest : ∀ y ∈ s.claimants c, it.id ≤ y.id) :
    ∃ best x0, s.nextClaim c =
      { s with shed := { s.shed with aside := (c, best, it.id) :: s.shed.aside, claims := x0 } } := by
  unfold State.nextClaim
  rw [noneYet, if_neg (by decide)]
  extract_lets live t
  have all : live = s.claimants c := rfl
  rw [← all] at claims oldest
  clear_value live
  cases live with
  | nil => cases claims
  | cons a l =>
    obtain ⟨mem, least⟩ := Item.foldl_older a l
    have same : (l.foldl Item.older a).id = it.id := le_antisymm (least it claims) (oldest _ mem)
    rw [← same]
    exact ⟨_, _, rfl⟩

/-- The state in which an item claims a shuttle of a cluster. -/
def State.withClaim (s : State) (c id : Nat) : State :=
  { s with shed := { s.shed with claims := s.shed.claims ++ [(c, id)] } }

theorem State.mem_claimants_withClaim {id : Nat} {y : Item} : y ∈ (s.withClaim c id).claimants c ↔
    y ∈ s.shed.items ∧ ((c, y.id) ∈ s.shed.claims ∨ y.id = id) ∧ y.runs = none ∧ s.fitShuttle c y = none := by
  have fits : (s.withClaim c id).fitShuttle c y = s.fitShuttle c y := rfl
  have items : (s.withClaim c id).shed.items = s.shed.items := rfl
  have claims : (s.withClaim c id).shed.claims = s.shed.claims ++ [(c, id)] := rfl
  simp [State.claimants, fits, items, claims, and_assoc]

theorem runs_benchWaitExpire (hc : c < 8) (oldest : (s.qWaiting c q).head? = some it) (fits : s.fitShuttle c it = none)
    (aside : ∀ a ∈ s.shed.aside, a.1 ≠ c ∧ a.2.2 ≠ it.id) (fresh : (c, it.id) ∉ s.shed.claims)
    (younger : ∀ y ∈ s.shed.items, (c, y.id) ∈ s.shed.claims → it.id < y.id) :
    Runs (.benchWaitExpire c q) s (fun t => t.shed.aside.length = s.shed.aside.length + 1 ∧
      (t.shed.aside.head?).map (fun a => (a.1, a.2.2)) = some (c, it.id) ∧ t.shed.items = s.shed.items ∧
      t.regs = s.regs) := by
  have run : exec (.benchWaitExpire c q) s = .next ((s.withClaim c it.id).nextClaim c) := by
    show execBenchWaitExpire c q s = _
    unfold execBenchWaitExpire
    rw [oldest]
    exact if_pos (by simpa [hc, fits, fresh] using fun a b d h => (aside (a, b, d) h).2)
  have claims : it ∈ (s.withClaim c it.id).claimants c := by
    have waiting := List.mem_of_mem_head? oldest
    simp only [State.qWaiting, List.mem_filter, Bool.and_eq_true, Option.isNone_iff_eq_none] at waiting
    exact State.mem_claimants_withClaim.mpr ⟨waiting.1, .inr rfl, waiting.2.2, fits⟩
  have first : ∀ y ∈ (s.withClaim c it.id).claimants c, it.id ≤ y.id := by
    intro y hy
    obtain ⟨listed, claimed | new, -⟩ := State.mem_claimants_withClaim.mp hy
    · exact (younger y listed claimed).le
    · exact new.ge
  have noneYet : (s.withClaim c it.id).shed.aside.any (fun a => decide (a.1 = c)) = false :=
    List.any_eq_false.mpr fun a h => by simpa using (aside a h).1
  obtain ⟨best, _, set⟩ := State.nextClaim_oldest noneYet claims first
  rw [set] at run
  exact Runs.of run ⟨rfl, rfl, rfl, rfl⟩

end Aside

end Sys2Proof.Machine
end

section
/-!
Writes of queues (R293): words 0 and 1 by a register and by a command, and what refuses them.
-/

namespace Sys2Proof.Machine

section QueueWrites
variable {s : State} {path : Path} {q w tag : Nat} {v : Word} {p : Prog}

/-! ### The words of a queue -/

theorem aQueue_inj {n i j u : Nat} (hw : w < 4) (hu : u < 4) : aQueue n i w = aQueue n j u ↔ i = j ∧ w = u := by
  unfold aQueue
  omega

/-- A field that a mask keeps. -/
theorem fld_and_of_kept {mask : Word} {hi lo : Nat} (kept : ∀ i < hi + 1 - lo, mask.toNat.testBit (lo + i) = true) :
    fld (v &&& mask) hi lo = fld v hi lo := by
  refine Nat.eq_of_testBit_eq fun i => ?_
  rw [fld, fld, testBit_bits, testBit_bits, BitVec.toNat_and, Nat.testBit_and]
  by_cases inside : i < hi + 1 - lo
  · rw [kept i inside, Bool.and_true]
  · rw [decide_eq_false inside, Bool.false_and, Bool.false_and]

theorem fld_ofNat (n : Nat) {hi lo : Nat} (h : hi < 32) : fld (BitVec.ofNat 32 n) hi lo = bits n hi lo := by
  refine Nat.eq_of_testBit_eq fun i => ?_
  rw [fld, testBit_bits, testBit_bits, BitVec.toNat_ofNat, Nat.testBit_mod_two_pow]
  grind

theorem fld_ofNat_depth {d : Nat} (h : d ≤ 2048) : fld (BitVec.ofNat 32 d) 11 0 = d := by
  rw [fld_ofNat d (by decide)]
  exact Nat.mod_eq_of_lt (by omega)

/-- Word 1 of a FREE queue is taken where it names a depth. -/
theorem State.queueWord1_taken (up : s.fallback = false) (free : s.qState q = 0) (low : 1 ≤ fld v 11 0)
    (high : fld v 11 0 ≤ 2048) :
    s.queueWord1 q v = (stOk, s.setReg (aQueue 0 q 1) (BitVec.ofNat 32 (fld v 11 0))) :=
  if_neg (by simp [up, free]; omega)

theorem State.queueWord1_refused (used : s.qState q ≠ 0) : s.queueWord1 q v = (stState, s) := if_pos (.inr (.inl used))

/-- Word 0 opens a FREE queue as SHARED, where it has a weight, a depth and room for that in every cluster. -/
theorem State.queueWord0_opens (up : s.fallback = false) (free : s.qState q = 0) (shared : fld v 31 30 = 2)
    (weight : fld v 27 20 ≠ 0) (depth : s.qDepth q ≠ 0)
    (room : ∀ c ∈ List.range 8, s.descRsv c + s.qDepth q ≤ 2048) :
    s.queueWord0 q v = (stOk, s.setReg (aQueue 0 q 0) (v &&& 0xFFF03F00#32)) := by
  have fits : (List.range 8).any (fun c => decide (2048 < s.descRsv c + s.qDepth q)) = false :=
    List.any_eq_false.mpr fun c hc => by simpa using room c hc
  unfold State.queueWord0
  simp only [up, free, shared, weight, depth, fits]
  rfl

/-- Word 0 of a queue that is OWNED is refused. -/
theorem State.queueWord0_owned (owned : s.qState q = 1) : s.queueWord0 q v = (stState, s) := by
  unfold State.queueWord0
  simp [owned]

/-- A queue that was opened reads as it was written. -/
theorem State.queue_opened (shared : fld v 31 30 = 2) :
    let t := s.setReg (aQueue 0 q 0) (v &&& 0xFFF03F00#32)
    t.qState q = 2 ∧ t.qPrio q = fld v 29 28 ∧ t.qWeight q = fld v 27 20 ∧ t.qDepth q = s.qDepth q := by
  have state : fld (v &&& 0xFFF03F00#32) 31 30 = fld v 31 30 := fld_and_of_kept (by decide)
  have prio : fld (v &&& 0xFFF03F00#32) 29 28 = fld v 29 28 := fld_and_of_kept (by decide)
  have weight : fld (v &&& 0xFFF03F00#32) 27 20 = fld v 27 20 := fld_and_of_kept (by decide)
  have word : (s.setReg (aQueue 0 q 0) (v &&& 0xFFF03F00#32)).reg (aQueue 0 q 0) = v &&& 0xFFF03F00#32 :=
    s.reg_setReg_same _ _
  simp only [State.qState, State.qPrio, State.qWeight, State.qDepth, State.qf, State.rf, word]
  refine ⟨state.trans shared, prio, weight, ?_⟩
  rw [State.reg_setReg_ne _ _ (by simp [aQueue_inj])]

/-! ### By a register -/

/-- WRITE_REJECT stands apart from the words of the queues. -/
theorem State.qf_rejected (q w hi lo : Nat) : (s.setRf (aShedQ 0) 0 0 1).qf q w hi lo = s.qf q w hi lo :=
  s.rf_setRf_ne _ _ _ _ _ (by unfold aQueue aShedQ; omega)

/-- A register write of a queue's word: it is taken, or WRITE_REJECT is set. -/
theorem exec_queueWrite_reg {r : Nat × State} (hq : q < 256) (hw : w < 4) (via : s.pathOk path = true)
    (write : (if w = 1 then s.queueWord1 q v else if w = 0 then s.queueWord0 q v else (stState, s)) = r) :
    exec (.queueWrite (.reg path (aQueue 0 q w) v)) s =
      if r.1 = stOk then .next r.2 else .next (s.setRf (aShedQ 0) 0 0 1) := by
  have addr : aQueue 0 q w = 0x00841000 + 0x10 * q + 4 * w := by unfold aQueue aC; omega
  have cluster : (aQueue 0 q w - 0x00800000) / 0x00100000 = 0 := by omega
  have offset : aQueue 0 q w % 0x00100000 = 0x41000 + 0x10 * q + 4 * w := by omega
  have queue (base : Nat) : (base + 0x10 * q + 4 * w - base) / 0x10 = q := by omega
  have word : (0x41000 + 0x10 * q + 4 * w) / 4 % 4 = w := by omega
  show execQueueWrite (.reg path (aQueue 0 q w) v) s = _
  unfold execQueueWrite
  dsimp only
  rw [cluster, offset, queue, word, write]
  exact if_pos ⟨via, by omega, by omega, by omega, by omega⟩

theorem runs_queueWrite_depth (hq : q < 256) (via : s.pathOk path = true) (up : s.fallback = false)
    (free : s.qState q = 0) (low : 1 ≤ fld v 11 0) (high : fld v 11 0 ≤ 2048) :
    Runs (.queueWrite (.reg path (aQueue 0 q 1) v)) s (fun t => t.qDepth q = fld v 11 0 ∧ t.qState q = 0 ∧
      t.shed = s.shed) := by
  refine Runs.of (exec_queueWrite_reg (w := 1) (v := v) hq (by decide) via
    (State.queueWord1_taken up free low high)) ⟨?_, ?_, rfl⟩
  · rw [State.qDepth, State.qf, State.rf, State.reg_setReg_same, fld_ofNat_depth high]
  · rw [State.qState, State.qf, State.rf_setReg_ne _ _ _ _ (by simp [aQueue_inj])]
    exact free

theorem runs_queueWrite_opens (hq : q < 256) (via : s.pathOk path = true) (up : s.fallback = false)
    (free : s.qState q = 0) (shared : fld v 31 30 = 2) (weight : fld v 27 20 ≠ 0) (depth : s.qDepth q ≠ 0)
    (room : ∀ c ∈ List.range 8, s.descRsv c + s.qDepth q ≤ 2048) :
    Runs (.queueWrite (.reg path (aQueue 0 q 0) v)) s (fun t => t.qState q = 2 ∧ t.qPrio q = fld v 29 28 ∧
      t.qWeight q = fld v 27 20 ∧ t.qDepth q = s.qDepth q ∧ t.shed = s.shed) := by
  obtain ⟨state, prio, weighs, kept⟩ := State.queue_opened (s := s) (q := q) shared
  exact Runs.of (exec_queueWrite_reg (w := 0) (v := v) hq (by decide) via
    (State.queueWord0_opens up free shared weight depth room)) ⟨state, prio, weighs, kept, rfl⟩

theorem runs_queueWrite_owned (hq : q < 256) (via : s.pathOk path = true) (owned : s.qState q = 1) :
    Runs (.queueWrite (.reg path (aQueue 0 q 0) v)) s (fun t => t.rf (aShedQ 0) 0 0 = 1 ∧ t.qState q = 1 ∧
      t.qDepth q = s.qDepth q ∧ t.shed = s.shed) := by
  refine Runs.of (exec_queueWrite_reg (w := 0) (v := v) hq (by decide) via (State.queueWord0_owned owned))
    ⟨s.rf_setRf_same _ _ _ _ (by decide), ?_, s.qf_rejected q 1 11 0, rfl⟩
  exact (s.qf_rejected q 0 31 30).trans owned

/-! ### By a command -/

/-- The words of a queue stand in a reply's wake, apart from the reply ring. -/
theorem State.qf_finish (tag st : Nat) (b : List Byte) (q w hi lo : Nat) :
    (s.finish tag st b).qf q w hi lo = s.qf q w hi lo :=
  congrArg (fld · hi lo) (s.reg_finish _ _ _ (by unfold aQueue aC aRing; omega))

/-- The depth of a FREE queue reserves no descriptor. -/
theorem State.descRsv_freeDepth (free : s.qState q = 0) (d : Word) (c : Nat) :
    (s.setReg (aQueue 0 q 1) d).descRsv c = s.descRsv c := by
  have word0 (k hi lo : Nat) : (s.setReg (aQueue 0 q 1) d).qf k 0 hi lo = s.qf k 0 hi lo :=
    s.rf_setReg_ne _ _ _ (by simp [aQueue_inj])
  have pins (i : Nat) : (s.setReg (aQueue 0 q 1) d).pinClusters i = s.pinClusters i := by
    unfold State.pinClusters
    rw [s.rf_setReg_ne _ _ _ (by unfold aImage aQueue aC; omega)]
  have opens (k : Nat) : (s.setReg (aQueue 0 q 1) d).qOpenIn k c = s.qOpenIn k c := by
    unfold State.qOpenIn State.qState State.qOwner
    rw [word0, word0, pins]
  unfold State.descRsv
  simp only [opens]
  congr 1
  refine List.map_congr_left fun k hk => ?_
  have opened := (List.mem_filter.mp hk).2
  have other : k ≠ q := by
    rintro rfl
    simp [State.qOpenIn, free] at opened
  exact s.rf_setReg_ne _ _ _ (by simp [aQueue_inj, other])

/-- A queue's words stand in the block of the clusters. -/
theorem State.reg_setQueue {a : Nat} (hq : q < 256) (hw : w < 4) (out : a < 0x00800000 ∨ 0x01000000 ≤ a) (d : Word) :
    (s.setReg (aQueue 0 q w) d).reg a = s.reg a :=
  s.reg_setReg_ne _ (by unfold aQueue aC; omega)

theorem State.fallback_setQueue (hq : q < 256) (hw : w < 4) (d : Word) :
    (s.setReg (aQueue 0 q w) d).fallback = s.fallback :=
  congrArg (fun r => decide (fld r 29 29 = 1)) (State.reg_setQueue hq hw (by decide) d)

/-- Word 1 of a FREE queue is taken, and word 0 with it opens the queue. -/
theorem State.queueWords_open {v0 v1 : Word} (hq : q < 256) (up : s.fallback = false) (free : s.qState q = 0)
    (shared : fld v0 31 30 = 2) (weight : fld v0 27 20 ≠ 0) (low : 1 ≤ fld v1 11 0) (high : fld v1 11 0 ≤ 2048)
    (room : ∀ c ∈ List.range 8, s.descRsv c + fld v1 11 0 ≤ 2048) :
    ∃ t d0 d1, s.queueWord1 q v1 = (stOk, s.setReg (aQueue 0 q 1) d1) ∧
      (s.setReg (aQueue 0 q 1) d1).queueWord0 q v0 = (stOk, t) ∧ t.qState q = 2 ∧ t.qDepth q = fld v1 11 0 ∧
      t = (s.setReg (aQueue 0 q 1) d1).setReg (aQueue 0 q 0) d0 := by
  have depth : (s.setReg (aQueue 0 q 1) (BitVec.ofNat 32 (fld v1 11 0))).qDepth q = fld v1 11 0 := by
    rw [State.qDepth, State.qf, State.rf, State.reg_setReg_same, fld_ofNat_depth high]
  have stillFree : (s.setReg (aQueue 0 q 1) (BitVec.ofNat 32 (fld v1 11 0))).qState q = 0 :=
    (s.rf_setReg_ne _ _ _ (by simp [aQueue_inj])).trans free
  obtain ⟨state, -, -, kept⟩ := State.queue_opened
    (s := s.setReg (aQueue 0 q 1) (BitVec.ofNat 32 (fld v1 11 0))) (q := q) shared
  refine ⟨_, _, _, State.queueWord1_taken up free low high, State.queueWord0_opens ?_ stillFree shared weight ?_ ?_,
    state, kept.trans depth, rfl⟩
  · rw [State.fallback_setQueue hq (by decide), up]
  · omega
  · intro c hc
    rw [depth, State.descRsv_freeDepth free]
    exact room c hc

/-- A command whose word 1 and word 0 are taken. -/
theorem runs_queueWrite_cmd_opens (waits : Waits s tag 0x0304 p) (len : p.payload.length = 12)
    (named : q = byteAt p.payload 0) (up : s.fallback = false) (free : s.qState q = 0)
    (shared : bits (field p.payload 4 4) 31 30 = 2) (weight : bits (field p.payload 4 4) 27 20 ≠ 0)
    (low : 1 ≤ bits (field p.payload 8 4) 11 0) (high : bits (field p.payload 8 4) 11 0 ≤ 2048)
    (room : ∀ c ∈ List.range 8, s.descRsv c + bits (field p.payload 8 4) 11 0 ≤ 2048) :
    Runs (.queueWrite (.cmd tag)) s (fun t => t.qState q = 2 ∧ t.qDepth q = bits (field p.payload 8 4) 11 0 ∧
      Answered t p stOk []) := by
  have hq : q < 256 := named ▸ BitVec.isLt _
  rw [← fld_ofNat _ (by decide)] at shared weight
  simp only [← fld_ofNat (field p.payload 8 4) (show 11 < 32 by decide)] at low high room ⊢
  obtain ⟨t, d0, d1, first, second, state, depth, same⟩ :=
    State.queueWords_open hq up free shared weight low high room
  have run : exec (.queueWrite (.cmd tag)) s = .next (t.finish tag stOk []) := by
    show execQueueWrite (.cmd tag) s = _
    unfold execQueueWrite
    dsimp only
    rw [waits.1]
    dsimp only
    rw [if_neg (by simp [len]), ← named, first]
    dsimp only
    rw [if_neg (by simp), second]
    rfl
  refine Runs.of run ⟨(State.qf_finish _ _ _ _ _ _ _).trans state, (State.qf_finish _ _ _ _ _ _ _).trans depth,
    answered_of_waits waits (by rw [same]; rfl) fun a ha => ?_⟩
  have out : a < 0x00800000 ∨ 0x01000000 ≤ a := by obtain rfl | rfl | rfl := ha <;> decide
  rw [same, State.reg_setQueue hq (by decide) out, State.reg_setQueue hq (by decide) out]

/-- A command that names a queue in use. -/
theorem runs_queueWrite_cmd_used (waits : Waits s tag 0x0304 p) (len : p.payload.length = 12)
    (named : q = byteAt p.payload 0) (used : s.qState q ≠ 0) :
    Runs (.queueWrite (.cmd tag)) s (fun t => t.rf (aShedQ 0) 0 0 = 1 ∧
      (∀ w ∈ List.range 2, t.reg (aQueue 0 q w) = s.reg (aQueue 0 q w)) ∧ Answered t p stState []) := by
  have run : exec (.queueWrite (.cmd tag)) s = .next ((s.setRf (aShedQ 0) 0 0 1).finish tag stState []) := by
    show execQueueWrite (.cmd tag) s = _
    unfold execQueueWrite
    dsimp only
    rw [waits.1]
    dsimp only
    rw [if_neg (by simp [len]), ← named, State.queueWord1_refused used]
    rfl
  refine Runs.of run ⟨?_, fun w _ => ?_, answered_of_waits waits rfl fun a ha => ?_⟩
  · rw [State.rf, State.reg_finish _ _ _ _ (by decide)]
    exact s.rf_setRf_same _ _ _ _ (by decide)
  · rw [State.reg_finish _ _ _ _ (by unfold aQueue aC aRing; omega),
      s.reg_setRf_ne _ _ _ (by unfold aQueue aShedQ; omega)]
  · exact s.reg_setRf_ne _ _ _ (by obtain rfl | rfl | rfl := ha <;> decide)

/-! ### SHED_ERR_CLEAR (R292) -/

theorem runs_shedErrClear {c : Nat} (hc : c < 8) (via : s.pathOk path = true) (one : fld v 0 0 = 1) :
    Runs (.shedErrClear path c v) s (fun t => t = s.setReg (aShedErr c) 0) :=
  Runs.of (if_pos ⟨hc, via, one⟩) rfl

end QueueWrites

/-- Settles O39: an item starts as R287 says on the context that is free, the oldest claimant gets a shuttle, a running
item ends with its answer sent, and the words of a queue are written as R293 lets them. -/
theorem workItemsQueueRunAndEnd : Obligations.WorkItemsQueueRunAndEnd := by
  unfold Obligations.WorkItemsQueueRunAndEnd
  intro s
  refine ⟨?_, ?_, ?_, ?_, ?_, ?_, ?_⟩
  · intro c it i x m hc run clock noHold cool noSwap chosen noSlot free image listed
    exact runs_workItemDispatch hc run clock noHold cool noSwap chosen noSlot free image listed
  · intro c q it hc oldest fits aside fresh younger
    exact runs_benchWaitExpire hc oldest fits aside fresh younger
  · intro x it dst sr flow fsn pin item called _
    exact runs_runLimitExpire item called
  · rintro _ path q v rfl hq via up free low high
    exact runs_queueWrite_depth hq via up free low high
  · intro path c v hc via one
    exact runs_shedErrClear hc via one
  · rintro _ path q v rfl hq via
    exact ⟨fun up free shared weight depth room => runs_queueWrite_opens hq via up free shared weight depth room,
      fun owned => runs_queueWrite_owned hq via owned⟩
  · exact fun tag p q waits len named => ⟨fun up free shared weight low high room =>
      runs_queueWrite_cmd_opens waits len named up free shared weight low high room,
      fun used => runs_queueWrite_cmd_used waits len named used⟩

end Sys2Proof.Machine
end

section
/-!
Four families of instructions whose clauses of the traps ask for more than a trap record holds: ARG0 has 32 bits for the
PC (R316), and no premise keeps the PC of the context within them (R297).
-/

namespace Sys2Proof.Machine

/-! ### A called item on context 0 -/

/-- An image of 64 KiB of code that declares nothing. -/
def plainImage : Image := { seqLibrary with library := none }

/-- A work item of image 0, called from EID 7, which runs on context 0. -/
def calledItem : Item := { appendItem with entry := 0, form := List.replicate 40 0, payload := [], len0 := 0 }

/-- The state with image 0 as m and that item on context 0 as c. -/
def State.runs0 (s : State) (m : Image) (c : Ctx) : State :=
  let s := (s.setImage 0 (some m)).setCtx 0 { c with item := some 0 }
  { s with shed := { s.shed with items := [calledItem], nextId := 1 } }

/-! ### A PC past 32 bits -/

/-- An image with more code than a PC of 32 bits reaches. -/
def wideImage : Image := { plainImage with codeBytes := 2 ^ 33 }

/-- The item has come to the instruction at 2^32. -/
def pcPast32Bits : State := (State.reset.setReg aSelfEid 5#32).runs0 wideImage { ctxReset with pc := 2 ^ 32 }

theorem pcPast32Bits_ready : Ready pcPast32Bits 0 calledItem wideImage := by decide +kernel

theorem pcPast32Bits_called : CalledBy pcPast32Bits calledItem 0 7 5 3 0 true := by decide +kernel

/-- ARG0 of the newest answer that cluster 0 sends (R101). -/
def State.answerArg0 (s : State) : Option Nat := (s.inq 128 1).getLast?.map (fun k => field k.hdr 32 8)

/-- The record that the clauses of the traps ask for holds the whole PC. -/
theorem State.answerArg0_of_traps {t : State} {op cause addr status : Nat}
    (h : Traps pcPast32Bits t 0 calledItem 7 5 3 0 true op cause addr status) :
    t.answerArg0 = some (cause + op * 2 ^ 8 + 2 ^ 32 * 2 ^ 32) := by
  obtain ⟨-, -, ⟨-, -, answer⟩, -⟩ := h
  have arg0 := congrArg (Option.map (fun a : Nat × Nat × Nat => a.2.1)) answer
  rwa [Option.map_map] at arg0

/-- Where the item ends with a record that holds the cause and the opcode alone, no clause of a trap has that outcome. -/
theorem not_runs_traps {i : Instr} {u : State} {op cause addr status : Nat} (run : exec i pcPast32Bits = .next u)
    (answer : u.answerArg0 = some (cause + op * 2 ^ 8)) :
    ¬ Runs i pcPast32Bits (fun t => Traps pcPast32Bits t 0 calledItem 7 5 3 0 true op cause addr status) := by
  rintro ⟨t, same, trapped⟩
  obtain rfl : u = t := Host.Outcome.next.inj (run.symm.trans same)
  have longer := Option.some.inj (answer.symm.trans (State.answerArg0_of_traps trapped))
  omega

/-- Refutes O53: its clauses of ILLEGAL have no premise that the PC has 32 bits (R297), and the trap record has no more
room for it (R316). The instruction is an FOP of ET 2. -/
theorem not_floatScalarAndConversion : ¬ Obligations.FloatScalarAndConversion := by
  unfold Obligations.FloatScalarAndConversion
  intro h
  obtain ⟨-, traps⟩ := h pcPast32Bits
  obtain ⟨fop, -⟩ := traps 0 calledItem wideImage 7 5 3 0 true pcPast32Bits_ready pcPast32Bits_called
  exact not_runs_traps rfl (by decide +kernel) (fop 2 0 0 0 0 (.inl (by decide)))

/-- Refutes O55 by the same state: its clauses of a trap have no premise on the PC either. The instruction is an MMA of
ET 1. -/
theorem not_matrixInstructions : ¬ Obligations.MatrixInstructions := by
  unfold Obligations.MatrixInstructions
  intro h
  obtain ⟨-, traps⟩ := h pcPast32Bits
  obtain ⟨mma, -⟩ := traps 0 calledItem wideImage 7 5 3 0 true pcPast32Bits_ready pcPast32Bits_called
  exact not_runs_traps rfl (by decide +kernel) (mma 1 0 0 0 0 0 (.inl rfl))

/-- Refutes O56 by the same state, with a LATM of the reserved ET 0. -/
theorem not_programMemory : ¬ Obligations.ProgramMemory := by
  unfold Obligations.ProgramMemory
  intro h
  obtain ⟨-, traps⟩ := h pcPast32Bits
  obtain ⟨-, -, -, -, -, -, latm, -⟩ := traps 0 calledItem wideImage 7 5 3 0 true pcPast32Bits_ready pcPast32Bits_called
  exact not_runs_traps rfl (by decide +kernel) (latm 0 0 0 0 0 (.inl (by decide)))

/-- Refutes O58 by the same state, with an FPUT of a reserved FN. -/
theorem not_fabricInstructions : ¬ Obligations.FabricInstructions := by
  unfold Obligations.FabricInstructions
  intro h
  obtain ⟨-, -, traps⟩ := h pcPast32Bits
  obtain ⟨-, -, -, fput, -⟩ := traps 0 calledItem wideImage 7 5 3 0 true pcPast32Bits_ready pcPast32Bits_called
  exact not_runs_traps rfl (by decide +kernel) (fput 0 2 0 0 0 (by decide))

end Sys2Proof.Machine
end

section
/-!
A dot product of a signaling NaN (R309, R334), the page table entry of a token that its slot has no room for (R281,
R372), and an MSYNC after a copy that met an uncorrectable error (R344, R376).
-/

namespace Sys2Proof.Machine

/-! ### VFMA's dot product of a signaling NaN -/

/-- Element 0 of v2 is a signaling NaN of fp32, every other element of every register is zero. -/
def signalingSum : State := State.reset.runs0 plainImage { ctxReset with v := [(2, 0x7F800001#2048)] }

theorem signalingSum_ready : Ready signalingSum 0 calledItem plainImage := by decide +kernel

/-- The dot products of v1 with itself, added to v2, raise INVALID. -/
theorem exec_vfma_signalingSum :
    ∃ t, exec (.vfma 0 5 0 2 1 1 2) signalingSum = .next t ∧ bit (t.ctx 0).flags 4 = true := ⟨_, rfl, by decide +kernel⟩

/-- Refutes O54: the clause of the dot products leaves out the INVALID that a signaling NaN raises (R309), which those of
the other arithmetic have. -/
theorem not_vectorResults : ¬ Obligations.VectorResults := by
  unfold Obligations.VectorResults
  intro h
  obtain ⟨results, -⟩ := h signalingSum
  obtain ⟨-, -, -, -, -, -, dot, -⟩ := results 0 calledItem plainImage signalingSum_ready
  obtain ⟨t, run, -, flags, -⟩ := dot 5 0 1 1 2 (by decide) (by decide)
  obtain ⟨u, same, invalid⟩ := exec_vfma_signalingSum
  obtain rfl : u = t := Host.Outcome.next.inj (same.symm.trans run)
  have quiet : bit (u.ctx 0).flags 4 = false := (flags 4 (by decide)).trans (by decide +kernel)
  exact Bool.false_ne_true (quiet.symm.trans invalid)

/-! ### SMAP_PTE of a token beyond its slot -/

/-- Slot 0 is OPEN with two layers of 2,048 tokens, in two pages each; the first page of layer 1 is there. Context 0 of a
SERVICE image has in s1 the address of token 2,048 of layer 0. -/
def tokenBeyondSlot : State :=
  let s := (((slotOf1023.setReg (aSlot 0 3) 0x00020001#32).setReg (aL1 0 0) (BitVec.ofNat 32 (2 ^ 31 + tableFrame))).memPut
    (tableFrame * 65536 + 2 * 8) (leBytes 8 (mkPte pageFrame none))).setRf (aImage 0 0) 28 28 1
  s.runs0 plainImage { ctxReset with s := [(1, BitVec.ofNat 64 (2 * 2 ^ 60 + 2048 * 2 ^ 22))] }

theorem tokenBeyondSlot_ready : Ready tokenBeyondSlot 0 calledItem plainImage := by decide +kernel

theorem tokenBeyondSlot_named : tokenBeyondSlot.sr 0 1 / 2 ^ 60 = 2 ∧ tokenBeyondSlot.imgService calledItem.image = true ∧
    tokenBeyondSlot.seqSlotOf calledItem plainImage (tokenBeyondSlot.sr 0 1) = some 0 ∧
    tokenBeyondSlot.slotMine calledItem 0 = true ∧ tokenBeyondSlot.slotState 0 = 1 := by
  decide +kernel

/-- The token would stand in the first page of layer 1. -/
theorem pte_tokenBeyondSlot : tokenBeyondSlot.pte 0
    (tokenBeyondSlot.pageOf 0 (seqLayer (tokenBeyondSlot.sr 0 1)) (seqToken (tokenBeyondSlot.sr 0 1))) =
      mkPte pageFrame none := by
  decide +kernel

theorem exec_smapPte_tokenBeyondSlot :
    ∃ t, exec (.smapPte 0 0 1 0 1 2) tokenBeyondSlot = .next t ∧ (t.ctx 0).sreg 2 = 0 := ⟨_, rfl, by decide +kernel⟩

/-- Refutes O57: the clause of SMAP_PTE has no premise on the layer and the token, and one beyond the slot names no page
(R281), so that the instruction reads 0. -/
theorem not_copiesHandlesAndSequences : ¬ Obligations.CopiesHandlesAndSequences := by
  unfold Obligations.CopiesHandlesAndSequences
  intro h
  obtain ⟨seq, service, slot, mine, opened⟩ := tokenBeyondSlot_named
  obtain ⟨-, -, ready, -⟩ := h tokenBeyondSlot
  obtain ⟨-, -, -, -, -, smap, -⟩ := ready 0 calledItem plainImage tokenBeyondSlot_ready
  obtain ⟨-, pte⟩ := smap 0 1 seq service slot mine
  obtain ⟨t, run, ⟨ctx, -⟩, -⟩ := pte 0 0 2 opened
  obtain ⟨u, same, zero⟩ := exec_smapPte_tokenBeyondSlot
  obtain rfl : u = t := Host.Outcome.next.inj (same.symm.trans run)
  have entry : (u.ctx 0).sreg 2 = BitVec.ofNat 64 (mkPte pageFrame none) := by
    rw [← pte_tokenBeyondSlot]
    exact congrArg (fun c : Ctx => c.sreg 2) ctx
  exact absurd (zero.symm.trans entry) (by decide)

/-! ### MSYNC after a copy that failed -/

/-- Context 0 has waited for none of its copies, and the one that it began has met an uncorrectable error. -/
def copyFailed : State :=
  State.reset.runs0 plainImage { ctxReset with
    copies := [{ k := 0, tag := 0, kind := 0, moves := [], slot := 0, layer := 0, token := 0, n := 0, status := stPathLost
                 fin := true }]
    nextK := 1 }

theorem copyFailed_ready : Ready copyFailed 0 calledItem plainImage := by decide +kernel

/-- MSYNC ends the item. -/
theorem exec_msync_copyFailed : ∃ t, exec (.msync 0 0 3 0 0 0) copyFailed = .next t ∧ (t.ctx 0).item = none :=
  ⟨_, rfl, by decide +kernel⟩

/-- Refutes O60: the clause of MSYNC has no premise that the copies have gone well, and after one that met an
uncorrectable error it traps with MEM (R315, R344). -/
theorem not_controlFlowAndSystem : ¬ Obligations.ControlFlowAndSystem := by
  unfold Obligations.ControlFlowAndSystem
  intro h
  obtain ⟨-, -, ready, -⟩ := h copyFailed
  obtain ⟨-, -, -, msync, -⟩ := ready 0 calledItem plainImage copyFailed_ready
  obtain ⟨t, run, ⟨ctx, -⟩, -⟩ := msync 0 0 0 0 (by decide +kernel)
  obtain ⟨u, same, ended⟩ := exec_msync_copyFailed
  obtain rfl : u = t := Host.Outcome.next.inj (same.symm.trans run)
  have goesOn : (u.ctx 0).item = some 0 := congrArg Ctx.item ctx
  cases ended.symm.trans goesOn

end Sys2Proof.Machine
end

section
/-!
The integer tables of Dapor: their clauses of ILLEGAL have no premise on the PC of the context either, and ARG0 of the
trap record has 32 bits for it (R297, R316).
-/

namespace Sys2Proof.Machine

/-- Refutes O50 by the state whose PC is past 32 bits: the record of the trap does not hold that PC. The instruction is
an SOP of ET 4. -/
theorem not_scalarIntegerTable : ¬ Obligations.ScalarIntegerTable := by
  unfold Obligations.ScalarIntegerTable
  intro h
  obtain ⟨illegal, -⟩ := h pcPast32Bits
  exact not_runs_traps rfl (by decide +kernel)
    (illegal 0 calledItem wideImage 4 0 0 0 0 7 5 3 0 true pcPast32Bits_ready pcPast32Bits_called (.inl (by decide)))

/-- Refutes O51 by the same state, with an SMUL of ET 4. -/
theorem not_immediateAndMultiplyTables : ¬ Obligations.ImmediateAndMultiplyTables := by
  unfold Obligations.ImmediateAndMultiplyTables
  intro h
  obtain ⟨-, traps⟩ := h pcPast32Bits
  obtain ⟨-, smul, -⟩ := traps 0 calledItem wideImage 7 5 3 0 true pcPast32Bits_ready pcPast32Bits_called
  exact not_runs_traps rfl (by decide +kernel) (smul 4 0 0 0 0 (.inl (by decide)))

/-- Refutes O52 by the same state, with a VINT of ET 4. -/
theorem not_vectorIntegerTable : ¬ Obligations.VectorIntegerTable := by
  unfold Obligations.VectorIntegerTable
  intro h
  obtain ⟨illegal, -⟩ := h pcPast32Bits
  exact not_runs_traps rfl (by decide +kernel)
    (illegal 0 calledItem wideImage 4 0 0 0 0 0 7 5 3 0 true pcPast32Bits_ready pcPast32Bits_called (by decide))

end Sys2Proof.Machine
end

section
/-!
Statements whose clauses reach states that they do not mean: each is refuted by a state a few registers away from reset.
-/

namespace Sys2Proof.Machine

/- Each refutation evaluates a state in the kernel, which waits for every declaration before it: elaborated at once they
would hold a thread each, so they are elaborated in turn. -/
set_option Elab.async false

/-- What holds of every next state of a command holds of the one it answers. -/
theorem Runs.after {i : Instr} {s : State} {P : State → Prop} (h : Runs i s P) : P (s.after (exec i s)) := by
  obtain ⟨t, run, holds⟩ := h
  rw [run]
  exact holds

/-! ### The traps of the joins (R297, R316) -/

/-- Refutes O59 by the state whose PC is past 32 bits: its clauses of a trap have no premise on the PC either. The
instruction is an FOPEN of a reserved FN. -/
theorem not_joinsAndGates : ¬ Obligations.JoinsAndGates := by
  unfold Obligations.JoinsAndGates
  intro h
  obtain ⟨-, -, traps⟩ := h pcPast32Bits
  obtain ⟨fopen, -⟩ := traps 0 calledItem wideImage 7 5 3 0 true pcPast32Bits_ready pcPast32Bits_called
  exact not_runs_traps rfl (by decide +kernel) (fopen 0 1 0 0 0 (by decide))

/-! ### Commands of the host over a running reply ring -/

/-- A command of the host over the command ring that waits for its service. -/
def hostCommand (tag opcode : Nat) (payload : List Byte) : Prog :=
  { tag := tag, opcode := opcode, minor := 1, member := 0, scatter := false, serial := false, rbuf := false, dataAddr := 0
    capacity := 0, payload := payload, origin := .host, phase := 0, gone := false }

/-- The state after reset with a reply ring of 16 entries that runs, and commands in progress. -/
def State.served (l : List Prog) : State :=
  let s := (State.reset.setReg (aRing 1 + 8) 0x80000004#32).setRf aHioLink 9 9 1
  { s with host := { s.host with prog := l, bme := true } }

/-! ### Two commands that wait for one inspection (R427, R430) -/

/-- REMOVE of cartridge 0. -/
def removeCommand (tag : Nat) : Prog := hostCommand tag 0x0705 [0#8, 1#8]

/-- Cartridge 0 is READY, and commands 1 and 2 stand as those that its inspection answers. -/
def twoInspections : State :=
  ((State.served [removeCommand 1, removeCommand 2]).setReg (aCrt 0) 0x30000000#32).setCart 0
    { cartReset with inspectBy := some [1, 2] }

theorem twoInspections_waits : Waits twoInspections 1 0x0705 (removeCommand 1) := by decide +kernel

/-- The newest reply answers command 2. -/
theorem twoInspections_tag :
    ((twoInspections.after (exec (.cartRemove (.cmd 1)) twoInspections)).host.written.getLast?.map (·.tag)) = some 2 := by
  decide +kernel

/-- Refutes O17: the clause of REMOVE has no premise on the commands that wait for an inspection, which are answered in
the same step, the one that asked first. -/
theorem not_cartridgeStates : ¬ Obligations.CartridgeStates := by
  unfold Obligations.CartridgeStates
  intro h
  obtain ⟨-, -, -, -, commands⟩ := h twoInspections
  obtain ⟨remove, -⟩ := commands 1 (removeCommand 1)
  obtain ⟨off, -⟩ := remove 0 twoInspections_waits (by decide) rfl
  obtain ⟨-, -, -, answered⟩ := (off (by decide +kernel) (by decide +kernel)).after
  have tag := congrArg (Option.map HostEntry.tag) answered
  rw [Option.map_map] at tag
  exact absurd (twoInspections_tag.symm.trans tag) (by decide)

/-! ### The SEC core restarts in FALLBACK (R437, R438) -/

/-- The delegates are in FALLBACK, as after reset, and the SEC core restarts. -/
def secRestarts : State := { State.reset with fw := { fwReset with delegates := [0] } }

/-- The component runs its ROM firmware: its STATE is FALLBACK. -/
theorem secRestarts_state : (secRestarts.after (exec (.delegateRestartDone 0) secRestarts)).rf (aComp 0) 31 29 = 5 := by
  decide +kernel

/-- Refutes O41: the clause of DELEGATE_RESTART_DONE has the SEC core RUN in FALLBACK too, where it asks FALLBACK of the
scheduler core. -/
theorem not_firmwareFaultsRestart : ¬ Obligations.FirmwareFaultsRestart := by
  unfold Obligations.FirmwareFaultsRestart
  intro h
  obtain ⟨-, -, -, -, -, -, -, -, -, -, restarted, -⟩ := h secRestarts
  obtain ⟨-, sec, -⟩ := (restarted 0 rfl).after
  exact absurd (secRestarts_state.symm.trans (sec rfl)) (by decide)

/-! ### CANCEL in FALLBACK (R439, R455) -/

/-- The plinth is powered, in FALLBACK, and a staged bundle waits for the reset that activates it. -/
def resetAwaited : State := (State.reset.toDepth dPln .run).setReg aAct 0x40000000#32

/-- CANCEL, written to PLN_ACT_CTRL. -/
def cancelWrite : Src := .reg .cuing aActCtrl 0x60000000#32

theorem resetAwaited_cancelled : (resetAwaited.after (exec (.fwCancel cancelWrite) resetAwaited)).rf aAct 15 0 = stOk := by
  decide +kernel

/-- Refutes O42: it has CANCEL refused in FALLBACK, where R439 refuses ACTIVATE and COMMIT alone. -/
theorem not_firmwareUpdates : ¬ Obligations.FirmwareUpdates := by
  unfold Obligations.FirmwareUpdates
  intro h
  obtain ⟨writes, -⟩ := h resetAwaited
  obtain ⟨-, -, -, -, -, -, cancel, -⟩ := writes cancelWrite .cuing 0x60000000#32 rfl rfl (by decide +kernel)
  obtain ⟨refused, -⟩ := (cancel (by decide) (.inl (by decide +kernel))).after
  exact absurd (resetAwaited_cancelled.symm.trans refused) (by decide)

/-! ### A DOE object past 16 KiB (R477) -/

/-- A lead whose function, SEC core and link are up. -/
def doeUp : State :=
  let s := ((State.reset.toDepth dHio .run).toDepth dSec .run).setRf aHioLink 9 9 1
  { s with pwr := { s.pwr with leadSel := true } }

/-- An object of more than 16 KiB gets no answer. -/
theorem execDoeRequest_long {b : List Byte} {s : State} (h : 16384 < b.length) : execDoeRequest b s = .next s :=
  if_neg fun ⟨_, _, _, _, short⟩ => absurd short (by omega)

/-- Refutes O43: the clause of a DOE request has no premise on its length. -/
theorem not_securityLogAndIdentity : ¬ Obligations.SecurityLogAndIdentity := by
  unfold Obligations.SecurityLogAndIdentity
  intro h
  obtain ⟨doe, -⟩ := h doeUp
  obtain ⟨t, run, longer, -⟩ := doe (List.replicate 16385 0) rfl (by decide +kernel) (by decide +kernel) (by decide +kernel)
  obtain rfl : doeUp = t :=
    Host.Outcome.next.inj ((execDoeRequest_long (by rw [List.length_replicate]; decide)).symm.trans run)
  omega

/-! ### A component that restarts as a core is halted (R438, R462) -/

/-- The debug port is open at INVASIVE, the plinth is powered, and the treadle core restarts. -/
def treadleRestarts : State :=
  ((State.reset.toDepth dPln .run).setRf aSec 19 18 2).setReg (aComp 9) 0x40000000#32

theorem treadleRestarts_state : (treadleRestarts.after (exec (.jtagHalt 0) treadleRestarts)).rf (aComp 9) 31 29 = 2 := by
  decide +kernel

/-- Refutes O49: its clause of a halted application core has every delegate in FALLBACK at once, and one that restarts
enters FALLBACK when its restart is over (R438). -/
theorem not_managementBusAndDebugPort : ¬ Obligations.ManagementBusAndDebugPort := by
  unfold Obligations.ManagementBusAndDebugPort
  intro h
  obtain ⟨-, jtag, -⟩ := h treadleRestarts
  obtain ⟨-, halt, -⟩ := jtag (by decide +kernel)
  obtain ⟨-, -, fallback, -⟩ := (halt 0 (by decide +kernel) (by decide)).after
  exact absurd (treadleRestarts_state.symm.trans (fallback 9 (by decide) (by decide))) (by decide)

/-! ### A signal that waits for Bus Master Enable (R471, R475) -/

/-- The function is up on its link, and vector 0 waits for it to master the bus. -/
def signalWaits : State :=
  let s := (State.reset.toDepth dHio .run).setRf aHioLink 9 9 1
  { s with pwr := { s.pwr with leadSel := true }, host := { s.host with msixWait := [0] } }

theorem signalWaits_sent : (signalWaits.after (exec (.busMasterEnableWrite true) signalWaits)).host.msix = [0] := by
  decide +kernel

/-- Refutes O45: the clause of Bus Master Enable has no premise on the signals that wait, which then go out (R471). -/
theorem not_hostRelayAndFunction : ¬ Obligations.HostRelayAndFunction := by
  unfold Obligations.HostRelayAndFunction
  intro h
  obtain ⟨-, -, -, -, -, -, -, -, function, -⟩ := h signalWaits
  obtain ⟨-, -, -, enable, -⟩ := function (by decide +kernel)
  have same := (enable true ⟨rfl, rfl⟩).after
  have quiet := congrArg (fun t : State => t.host.msix) same
  exact absurd (signalWaits_sent.symm.trans quiet) (by decide)

/-! ### A selector that switches while CRIT holds the port (R423, R515) -/

/-- The device claims, cartridge 0 is a dovetail cartridge that is READY, and its port 0, of role EDGE, is held with its
transmitter on while CRIT lasts. -/
def claimUnderCrit : State :=
  let s := ((State.reset.setReg aDvt 0x60000000#32).setReg (aCrt 0) 0x31000000#32).setReg (aPortCfg 0) 0xF001#32
  { s.setPort 0 { portReset with lstate := .hold, txOn := true } with thm := { s.thm with critOn := true } }

/-- No RESYNC goes out on the port. -/
theorem claimUnderCrit_silent :
    ((claimUnderCrit.after (exec (.selectorSwitchDone 0 0) claimUnderCrit)).port 0).ctlTx =
      (claimUnderCrit.port 0).ctlTx := by
  decide +kernel

/-- Refutes O46: the clause of the selectors that come to a claiming device has no premise on CRIT, under which the
RESYNC of a held port waits (R423). -/
theorem not_pairsClaimAndMirror : ¬ Obligations.PairsClaimAndMirror := by
  unfold Obligations.PairsClaimAndMirror
  intro h
  obtain ⟨-, -, -, -, -, selectors, -⟩ := h claimUnderCrit
  obtain ⟨-, mine, -⟩ := selectors 0 (by decide) (by decide +kernel) rfl
  obtain ⟨-, -, resyncs, -⟩ := (mine 0 (by decide +kernel) ⟨rfl, rfl⟩ (by decide +kernel)).after
  exact resyncs 0 (by decide) (by decide +kernel) (by decide +kernel) claimUnderCrit_silent

/-! ### A shuttle that a test has withdrawn before (R563) -/

/-- SELFTEST of shuttle 0, under way. -/
def shuttleTest : Prog := { hostCommand 1 0x0C01 [5#8, 0#8, 0#8, 0#8] with phase := 1 }

/-- Test 0x05 runs again on shuttle 0, which an earlier one withdrew. -/
def withdrawnShuttle : State :=
  let s := State.served [shuttleTest]
  { s with pwr := { s.pwr with tests := [(5, 0, 1)], shuOut := [0] } }

theorem withdrawnShuttle_once :
    (withdrawnShuttle.after (exec (.selftestDone 5 0 0 1) withdrawnShuttle)).pwr.shuOut = [0] := by
  decide +kernel

/-- Refutes O48: the clause of test 0x05 has no premise that the shuttle works, and one that is withdrawn is not
withdrawn twice. -/
theorem not_resetsAndSelfTests : ¬ Obligations.ResetsAndSelfTests := by
  unfold Obligations.ResetsAndSelfTests
  intro h
  obtain ⟨done, -⟩ := h withdrawnShuttle
  obtain ⟨-, shuttle, -⟩ := done 5 0 1 shuttleTest rfl (by decide +kernel) (by decide +kernel)
  obtain ⟨-, -, twice, -⟩ := (shuttle 0 1 ⟨rfl, rfl⟩ (by decide +kernel) (by decide +kernel)).after
  exact absurd (withdrawnShuttle_once.symm.trans twice) (by decide)

end Sys2Proof.Machine
end

section
/-!
The step of the block (R480): what it does with the queue of waiting commands.
-/

-- Elaborated in turn, as the section of the refutations says.
set_option Elab.async false

namespace Sys2Proof.Machine

/-- Settles O1, by the two arms of `step`. -/
theorem stepRunsFrontCommand : Obligations.StepRunsFrontCommand := by
  refine ⟨fun s c r front => ?_, fun s empty => ?_⟩
  · simp only [step, front]
  · simp only [step, empty]

end Sys2Proof.Machine
end

section
/-!
The host's power requests and settings (R393, R397, R410 to R413): what showing the treadle's state, judging a request
and mirroring a change leave of the registers, and what each command writes.
-/

-- Elaborated in turn, as the section of the refutations says.
set_option Elab.async false

namespace Sys2Proof.Machine

/-! ### What the treadle's show, the mirror and a judged request leave -/

/-- A register that neither a ring, the log, the state that the treadle shows, nor its level moves. -/
abbrev Settled (a : Nat) : Prop := 0x424 < a ∧ a ≠ aTrdState ∧ a ≠ aLevel

section Frames
variable (s : State) {a : Nat}

theorem State.reg_event_settled (code st : Nat) (l : List Byte) (h : Settled a) : (s.event code st l).reg a = s.reg a :=
  s.reg_event _ _ _ (by omega) (by unfold aLogHead; omega) (by unfold aLogLost; omega)

theorem State.reg_trdShow (old : State) (h : Settled a) : (s.trdShow old).reg a = s.reg a := by
  unfold State.trdShow
  extract_lets s1 s2
  have shown : s2.reg a = s.reg a := (s1.reg_setReg_ne _ h.2.2).trans (s.reg_setReg_ne _ h.2.1)
  split
  · exact shown
  · exact (s2.reg_event_settled _ _ _ h).trans shown

theorem State.rf_trdShow (old : State) (hi lo : Nat) (h : Settled a) : (s.trdShow old).rf a hi lo = s.rf a hi lo :=
  congrArg (fld · hi lo) (s.reg_trdShow old h)

theorem State.reg_hostEval (h : a ≠ aHostSt) : s.hostEval.reg a = s.reg a := s.reg_setReg_ne _ h

theorem State.mirrorTrd_same : ∃ x0 x1, s.mirrorTrd = { s with sw := x0, pair := x1 } := by
  unfold State.mirrorTrd
  split
  · exact s.mirror_same _ _ _
  · exact ⟨_, _, rfl⟩

theorem State.reg_mirrorTrd (a : Nat) : s.mirrorTrd.reg a = s.reg a := by
  obtain ⟨_, _, h⟩ := s.mirrorTrd_same
  rw [h]
  rfl

theorem State.mirrorTrd_trd : s.mirrorTrd.trd = s.trd := by
  obtain ⟨_, _, h⟩ := s.mirrorTrd_same
  rw [h]

/-- The answer to a request moves the reply ring's index alone. -/
theorem State.reg_mirrorAnswer (typ key : Nat) (body : List Byte) (tag : Nat) (reply : List Byte)
    (h : a ≠ aRing 1 + 0x10) : (s.mirrorAnswer typ key body (.cmd tag) reply).reg a = s.reg a := by
  unfold State.mirrorAnswer
  dsimp only
  split
  · obtain ⟨_, _, e⟩ := (s.hold tag).mirrorPut_same typ key body (some tag) reply
    rw [e]
    rfl
  · obtain ⟨_, _, e⟩ := s.mirror_same typ key body
    rw [State.reg_finish _ _ _ _ h, e]
    rfl

theorem State.reg_trdAnswer (tag st : Nat) (h : a ≠ aRing 1 + 0x10) : (s.trdAnswer tag st).reg a = s.reg a := by
  unfold State.trdAnswer
  split
  · exact s.reg_mirrorAnswer _ _ _ _ _ h
  · exact (State.reg_finish _ _ _ _ h).trans (s.reg_mirrorTrd a)

end Frames

/-! ### Serving a command that waits -/

section Serve
variable {s : State} {tag opcode : Nat} {p : Prog}

/-- A command whose payload its row takes, and whose reply fits, is served. -/
theorem State.serve_taken {size : Nat} {ok : List Byte → Bool} {f : State → Prog → State × Nat × List Byte}
    (found : s.cmd tag opcode = some p) (good : ok p.payload = true) (fits : p.fits size = true) :
    s.serve tag opcode size ok f =
      (f s p).1.finish tag (f s p).2.1 (if (f s p).2.1 = stOk then (f s p).2.2 else []) := by
  unfold State.serve
  rw [found]
  simp only [good, fits, Bool.not_true, Bool.false_eq_true, if_false]

/-- A reply of 96 bytes or fewer fits every command. -/
theorem Prog.fits_of_le (p : Prog) {n : Nat} (h : n ≤ 96) : p.fits n = true := by simp [Prog.fits, h]

/-- A command that waits and only reads is answered with what it reads. -/
theorem State.serve_read {size : Nat} {ok : List Byte → Bool} {f : State → Prog → List Byte} (found : s.cmd tag opcode = some p)
    (good : ok p.payload = true) (small : size ≤ 96) :
    s.serve tag opcode size ok (fun s p => (s, stOk, f s p)) = s.finish tag stOk (f s p) := by
  rw [State.serve_taken found good (p.fits_of_le small), if_pos rfl]

theorem Waits.answered (w : Waits s tag opcode p) (st : Nat) (b : List Byte) : Answered (s.finish tag st b) p st b := by
  obtain ⟨-, found, origin, gone, up⟩ := w
  exact s.finish_host tag st b p found origin gone up

end Serve

/-! ### The reports (R413) -/

section Reports
variable {s : State} {tag : Nat} {p : Prog}

theorem State.latch_same (s : State) (a : Nat) (w : Word) : tabGet (fun _ => none) (s.latch a w).cnt.latch a = some w := by
  simp [State.latch]

theorem runs_powerReportRead {path : Path} {d : Nat} (via : s.pathAny path = true) (hd : d < 64) :
    Runs (.powerReportRead path d) s (fun t => t.cnt.readOut = [s.reportWord d 0] ∧
      tabGet (fun _ => none) t.cnt.latch (aReport d 1) = some (s.reportWord d 1) ∧ t.regs = s.regs) := by
  exact .of (if_pos ⟨hd, via⟩) ⟨rfl, State.latch_same _ _ _, rfl⟩

theorem runs_powerRead (w : Waits s tag 0x0601 p) (payload : p.payload = []) :
    Runs (.powerRead tag) s (fun t =>
      Answered t p stOk (s.regBytes aTrdState 4 ++ s.regBytes aHostSt 1 ++ wordsToBytes [s.reportWord 63 0, s.reportWord 63 1]) ∧
      t.trd = s.trd ∧ t.mem = s.mem) :=
  .of (congrArg Host.Outcome.next (State.serve_read w.1 (by simp [payload]) (by decide)))
    ⟨w.answered _ _, s.finish_trd _ _ _, s.finish_mem _ _ _⟩

/-- Twelve reports and fewer fit every reply. -/
theorem Prog.items_reports (p : Prog) {n : Nat} (h : n ≤ 12) : p.items 8 n = n := by
  unfold Prog.items
  omega

theorem runs_powerReports {first n : Nat} (w : Waits s tag 0x0605 p)
    (payload : p.payload = [BitVec.ofNat 8 first, BitVec.ofNat 8 n]) (range : first + n ≤ 64) (few : n ≤ 12) :
    Runs (.powerReports tag) s (fun t =>
      Answered t p stOk ((List.range n).flatMap (fun i => wordsToBytes [s.reportWord (first + i) 0, s.reportWord (first + i) 1])) ∧
      t.trd = s.trd) := by
  have from0 : byteAt p.payload 0 = first := by
    rw [payload]
    exact Nat.mod_eq_of_lt (by omega)
  have count : byteAt p.payload 1 = n := by
    rw [payload]
    exact Nat.mod_eq_of_lt (by omega)
  have length : p.payload.length = 2 := by rw [payload]; rfl
  refine .of (congrArg Host.Outcome.next (State.serve_read w.1 ?_ (by decide))) ?_
  · simp [length, from0, count, range]
  · rw [from0, count, p.items_reports few]
    exact ⟨w.answered _ _, s.finish_trd _ _ _⟩

end Reports

/-! ### Clearing alerts and counts (R397, R412) -/

section Clear

/-- Taking away the bits that two numbers share leaves the bits of the first that the second lacks. -/
theorem testBit_sub_and (a b i : Nat) : (a - (a &&& b)).testBit i = (a.testBit i && !b.testBit i) := by
  induction i generalizing a b with
  | zero =>
    have low : (a &&& b) % 2 = 1 ↔ a % 2 = 1 ∧ b % 2 = 1 := by simp
    have part : a &&& b ≤ a := Nat.and_le_left
    simp only [Nat.testBit_zero]
    rw [Bool.eq_iff_iff]
    simp only [decide_eq_true_eq, Bool.and_eq_true, Bool.not_eq_true', decide_eq_false_iff_not]
    omega
  | succ i ih =>
    have low : (a &&& b) % 2 = 1 → a % 2 = 1 := by simp +contextual
    have part : a &&& b ≤ a := Nat.and_le_left
    have half : (a - (a &&& b)) / 2 = a / 2 - (a / 2 &&& b / 2) := by
      rw [← Nat.and_div_two]
      omega
    rw [Nat.testBit_succ, half, ih, Nat.testBit_succ, Nat.testBit_succ]

variable {s : State}

theorem State.rf_alertClear (m : Nat) : (s.alertClear m).rf aAlert 4 0 = s.rf aAlert 4 0 - (s.rf aAlert 4 0 &&& m % 32) := by
  have small : s.rf aAlert 4 0 < 32 := fld_lt _ _ _
  unfold State.alertClear
  rw [State.rf_trdShow _ _ _ _ (by decide), State.rf, State.reg_setReg_same, fld_ofNat _ (by decide)]
  exact Nat.mod_eq_of_lt (by omega)

theorem State.reg_alertClear (m : Nat) {a : Nat} (h : Settled a) (other : a ≠ aAlert) : (s.alertClear m).reg a = s.reg a :=
  (State.reg_trdShow _ _ h).trans (s.reg_setReg_ne _ other)

theorem runs_trdAlertClear {path : Path} {v : Word} (via : s.pathAny path = true) :
    Runs (.trdAlertClear path v) s (fun t =>
      (∀ i ∈ List.range 5, bit (t.rf aAlert 4 0) i = (bit (s.rf aAlert 4 0) i && !bit (fld v 4 0) i))) := by
  refine .of (if_pos via) fun i _ => ?_
  rw [State.rf_alertClear, show fld v 4 0 % 32 = fld v 4 0 from Nat.mod_eq_of_lt (fld_lt v 4 0)]
  exact testBit_sub_and _ _ _

end Clear

/-! ### Requests (R393) -/

section Requests
variable {s : State} {tag : Nat} {p : Prog}

theorem stUnsup_ne_capStatus (t : State) : t.capStatus ≠ stUnsup := by
  unfold State.capStatus
  dsimp only
  repeat' split
  all_goals decide

theorem stState_ne_sleepStatus {t : State} (role : t.role ≠ 2) : t.sleepStatus ≠ stState := by
  unfold State.sleepStatus
  rw [if_neg role]
  repeat' split
  all_goals decide

/-- The state with HOST_CAP_W as asked, judged. -/
def State.capAsked (s : State) (cap : Nat) : State := (s.setRf aHostReq 10 0 cap).hostEval

/-- The state with SLEEP as asked, judged. -/
def State.sleepAsked (s : State) (n : Nat) : State := (s.setRf aHostReq 31 31 n).hostEval

theorem State.capReq_taken {cap : Nat} (lo : 150 ≤ cap) (hi : cap ≤ 1200) :
    s.capReq cap = ((s.capAsked cap).capStatus, (s.capAsked cap).trdShow s) := if_neg (by omega)

theorem State.sleepReq_taken (role : s.role ≠ 2) (n : Nat) :
    s.sleepReq n = ((s.sleepAsked n).sleepStatus, (s.sleepAsked n).trdShow s) := if_neg (by simp [role])

theorem State.sleepReq_refused (role : s.role = 2) :
    s.sleepReq 1 = (stState, (s.setReg aHostSt (BitVec.ofNat 32 stState)).trdShow s) := if_pos ⟨rfl, role⟩

theorem State.reg_capAsked_shown (cap : Nat) (old : State) {a : Nat} (h : Settled a) (judged : a ≠ aHostSt) :
    ((s.capAsked cap).trdShow old).reg a = (s.setRf aHostReq 10 0 cap).reg a :=
  (State.reg_trdShow _ _ h).trans (State.reg_hostEval _ judged)

theorem State.reg_sleepAsked_shown (n : Nat) (old : State) {a : Nat} (h : Settled a) (judged : a ≠ aHostSt) :
    ((s.sleepAsked n).trdShow old).reg a = (s.setRf aHostReq 31 31 n).reg a :=
  (State.reg_trdShow _ _ h).trans (State.reg_hostEval _ judged)

theorem State.role_capAsked_shown (cap : Nat) (old : State) : ((s.capAsked cap).trdShow old).role = s.role :=
  congrArg (fld · 31 29) ((State.reg_capAsked_shown cap old (by decide) (by decide)).trans (s.reg_setRf_ne _ _ _ (by decide)))

theorem fld_cap_lt {cap : Nat} (h : cap ≤ 1200) : cap % 2 ^ (10 + 1 - 0) = cap := Nat.mod_eq_of_lt (by omega)

/-- HOST_CAP_W and SLEEP as both were asked. -/
theorem rf_bothAsked (w : Word) {cap n : Nat} (hcap : cap ≤ 1200) (hn : n < 2) :
    fld (putFld (putFld w 10 0 cap) 31 31 n) 10 0 = cap ∧ fld (putFld (putFld w 10 0 cap) 31 31 n) 31 31 = n := by
  constructor
  · rw [fld_putFld_other _ _ _ _ _ _ (by omega), fld_putFld_same _ _ _ _ (by omega), fld_cap_lt hcap]
  · rw [fld_putFld_same _ _ _ _ (by omega)]
    exact Nat.mod_eq_of_lt (by omega)

/-- A write of TRD_HOST_REQ on a device that is no standby, with a cap in range, sets both requests. -/
theorem State.reg_hostReqWord {v : Word} (lo : 150 ≤ fld v 10 0) (hi : fld v 10 0 ≤ 1200) (role : s.role ≠ 2) :
    (s.hostReqWord v).2.reg aHostReq = putFld (putFld (s.reg aHostReq) 10 0 (fld v 10 0)) 31 31 (fld v 31 31) := by
  unfold State.hostReqWord
  rw [State.capReq_taken lo hi]
  dsimp only
  rw [if_neg (stUnsup_ne_capStatus _), State.sleepReq_taken (by rwa [State.role_capAsked_shown])]
  dsimp only
  rw [State.reg_mirrorTrd, State.reg_sleepAsked_shown _ _ (by decide) (by decide), State.setRf, State.reg_setReg_same,
    State.reg_capAsked_shown _ _ (by decide) (by decide), State.setRf, State.reg_setReg_same]

theorem runs_hostCap_reg {path : Path} {v : Word} (via : s.pathOk path = true) (lo : 150 ≤ fld v 10 0)
    (hi : fld v 10 0 ≤ 1200) (role : s.role ≠ 2) :
    Runs (.hostCap (.reg path aHostReq v)) s (fun t => t.rf aHostReq 10 0 = fld v 10 0 ∧
      t.rf aHostReq 31 31 = fld v 31 31) := by
  refine .of (if_pos ⟨via, rfl⟩) ?_
  rw [State.rf, State.rf, State.reg_hostReqWord lo hi role]
  exact rf_bothAsked _ hi (fld_lt v 31 31)

theorem runs_hostCap_cmd (w : Waits s tag 0x0602 p) (length : p.payload.length = 2) (lo : 150 ≤ field p.payload 0 2)
    (hi : field p.payload 0 2 ≤ 1200) :
    Runs (.hostCap (.cmd tag)) s (fun t => t.rf aHostReq 10 0 = field p.payload 0 2 ∧
      t.rf aHostReq 31 31 = s.rf aHostReq 31 31) := by
  obtain ⟨found, -⟩ := w
  have run : execHostCap (.cmd tag) s = .next (((s.capAsked (field p.payload 0 2)).trdShow s).trdAnswer tag
      (s.capAsked (field p.payload 0 2)).capStatus) := by
    unfold execHostCap
    dsimp only
    rw [found]
    dsimp only
    rw [if_neg (by simp [length]), State.capReq_taken lo hi]
    exact if_neg (stUnsup_ne_capStatus _)
  have asked (t : State) (st : Nat) (e : t = s.capAsked (field p.payload 0 2)) : ((t.trdShow s).trdAnswer tag st).reg aHostReq =
      putFld (s.reg aHostReq) 10 0 (field p.payload 0 2) := by
    rw [e, State.reg_trdAnswer _ _ _ (by decide), State.reg_capAsked_shown _ _ (by decide) (by decide), State.setRf,
      State.reg_setReg_same]
  refine .of run ?_
  rw [State.rf, State.rf, asked _ _ rfl]
  exact ⟨(fld_putFld_same _ _ _ _ (by omega)).trans (fld_cap_lt hi), fld_putFld_other _ _ _ _ _ _ (by omega)⟩

theorem runs_sleep (w : Waits s tag 0x0603 p) (payload : p.payload = [1#8]) (role : s.role ≠ 2)
    (none : s.rf aHostReq 10 0 = 0) :
    Runs (.sleep (.cmd tag)) s (fun t => t.rf aHostReq 31 31 = 1 ∧ t.rf aHostReq 10 0 = 0) := by
  obtain ⟨found, -⟩ := w
  have length : p.payload.length = 1 := by rw [payload]; rfl
  have one : byteAt p.payload 0 = 1 := by rw [payload]; rfl
  have judged : (s.sleepAsked 1).role = s.role := congrArg (fld · 31 29)
    ((State.reg_hostEval _ (by decide)).trans (s.reg_setRf_ne _ _ _ (by decide)))
  have run : execSleep (.cmd tag) s =
      .next (((s.sleepAsked 1).trdShow s).trdAnswer tag (s.sleepAsked 1).sleepStatus) := by
    unfold execSleep
    dsimp only
    rw [found]
    dsimp only
    rw [if_neg (by simp [length, one]), one, State.sleepReq_taken role]
    exact if_neg (stState_ne_sleepStatus (by rwa [judged]))
  refine .of run ?_
  rw [State.rf, State.rf, State.reg_trdAnswer _ _ _ (by decide), State.reg_sleepAsked_shown _ _ (by decide) (by decide),
    State.setRf, State.reg_setReg_same]
  exact ⟨fld_putFld_same _ _ _ _ (by omega), (fld_putFld_other _ _ _ _ _ _ (by omega)).trans none⟩

theorem runs_sleep_refused (w : Waits s tag 0x0603 p) (payload : p.payload = [1#8]) (role : s.role = 2) :
    Runs (.sleep (.cmd tag)) s (fun t => t.reg aHostReq = s.reg aHostReq ∧ t.rf aHostSt 15 0 = stState) := by
  obtain ⟨found, -⟩ := w
  have length : p.payload.length = 1 := by rw [payload]; rfl
  have one : byteAt p.payload 0 = 1 := by rw [payload]; rfl
  have run : execSleep (.cmd tag) s =
      .next (((s.setReg aHostSt (BitVec.ofNat 32 stState)).trdShow s).finish tag stState []) := by
    unfold execSleep
    dsimp only
    rw [found]
    dsimp only
    rw [if_neg (by simp [length, one]), one, State.sleepReq_refused role]
    exact if_pos rfl
  refine .of run ⟨?_, ?_⟩
  · rw [State.reg_finish _ _ _ _ (by decide), State.reg_trdShow _ _ (by decide), State.reg_setReg_ne _ _ (by decide)]
  · rw [State.rf, State.reg_finish _ _ _ _ (by decide), State.reg_trdShow _ _ (by decide), State.reg_setReg_same]
    decide

theorem runs_hostCfg (w : Waits s tag 0x0606 p) (length : p.payload.length = 9)
    (depth : depthCfgOk (BitVec.ofNat 32 (field p.payload 0 4)) = true)
    (gov : govCfgOk (BitVec.ofNat 32 (field p.payload 4 4)) = true) :
    Runs (.hostCfg tag) s (fun t => t.rf aDepthCfg 31 0 = field p.payload 0 4 ∧
      t.rf aGov 9 0 = bits (field p.payload 4 4) 9 0 ∧ t.rf aGov 31 16 = bits (field p.payload 4 4) 31 16) := by
  obtain ⟨found, -⟩ := w
  have run : execHostCfg tag s = .next ((((s.setReg aDepthCfg (BitVec.ofNat 32 (field p.payload 0 4))).setReg aGov
      (BitVec.ofNat 32 (field p.payload 4 4) &&& 0xFFFF03FF#32)).alertClear (byteAt p.payload 8)).trdAnswer tag stOk) := by
    unfold execHostCfg
    rw [found]
    dsimp only
    rw [if_neg (by simp [length]), if_neg (by simp [depth, gov])]
  refine .of run ?_
  simp only [State.rf, State.reg_trdAnswer _ _ _ (by decide : aDepthCfg ≠ aRing 1 + 0x10),
    State.reg_trdAnswer _ _ _ (by decide : aGov ≠ aRing 1 + 0x10),
    State.reg_alertClear _ (by decide : Settled aDepthCfg) (by decide), State.reg_alertClear _ (by decide : Settled aGov) (by decide),
    State.reg_setReg_same, State.reg_setReg_ne _ _ (by decide : aDepthCfg ≠ aGov)]
  refine ⟨?_, ?_, ?_⟩
  · rw [fld_ofNat _ (by decide)]
    exact Nat.mod_eq_of_lt (by simpa using field_lt p.payload 0 4)
  · rw [fld_and_of_kept (by decide), fld_ofNat _ (by decide)]
  · rw [fld_and_of_kept (by decide), fld_ofNat _ (by decide)]

end Requests

/-- Settles O14: a request in range is written to its field of TRD_HOST_REQ and judged, and the other field stays;
the settings are written, the reports read, and the alerts and counts cleared. -/
theorem hostPowerCommands : Obligations.HostPowerCommands := by
  unfold Obligations.HostPowerCommands
  intro s
  refine ⟨fun _ _ via hd => runs_powerReportRead via hd, fun _ _ via => runs_trdAlertClear via,
    fun _ via => ⟨fun _ lo hi role => runs_hostCap_reg via lo hi role, fun _ one => .of (if_pos ⟨via, one⟩) rfl⟩,
    fun _ _ => ⟨fun w payload role none => runs_sleep w payload role none,
      fun w length depth gov => runs_hostCfg w length depth gov, fun w payload => runs_powerRead w payload,
      fun _ _ w payload range few => runs_powerReports w payload range few,
      fun w length lo hi _ => runs_hostCap_cmd w length lo hi,
      fun w payload role _ => runs_sleep_refused w payload role⟩⟩

end Sys2Proof.Machine
end

section
/-!
The coolant readings and their check, the leak loop, and the commands that read and set them (R414, R420 to R422, R429).
-/

-- Elaborated in turn, as the section of the refutations says.
set_option Elab.async false

namespace Sys2Proof.Machine

/-! ### What a safety input leaves (R437) -/

section Safety
variable (s : State)

/-- What neither the tools, a register nor an event touches, a safety input leaves. -/
theorem State.safety_read {β : Type} (g : State → β) (tools : g s.backstop = g s)
    (show' : ∀ t old : State, g (t.trdShow old) = g t) : g s.safety = g s := by
  unfold State.safety
  split
  · exact (show' _ _).trans tools
  · rfl

theorem State.backstop_read {β : Type} (g : State → β)
    (tools : ∀ (t : State) n k, g { t with trd := { t.trd with notch := n, throttle := k } } = g t) :
    g s.backstop = g s :=
  foldl_read g (fun t _ => tools t _ _) _ _

theorem State.reg_safety {a : Nat} (h : Settled a) : s.safety.reg a = s.reg a :=
  s.safety_read (fun t => t.reg a) (s.backstop_read (fun t => t.reg a) fun _ _ _ => rfl) fun t old => t.reg_trdShow old h

theorem State.rf_safety {a : Nat} (hi lo : Nat) (h : Settled a) : s.safety.rf a hi lo = s.rf a hi lo :=
  congrArg (fld · hi lo) (s.reg_safety h)

theorem State.safety_leakOn : s.safety.trd.leakOn = s.trd.leakOn :=
  s.safety_read (fun t => t.trd.leakOn) (s.backstop_read (fun t => t.trd.leakOn) fun _ _ _ => rfl)
    fun t old => congrArg Treadle.leakOn (t.trdShow_trd old)

theorem State.reg_coolantEvent {a : Nat} (h : Settled a) : s.coolantEvent.reg a = s.reg a := s.reg_event_settled _ _ _ h

theorem State.rf_coolantEvent {a : Nat} (hi lo : Nat) (h : Settled a) : s.coolantEvent.rf a hi lo = s.rf a hi lo :=
  congrArg (fld · hi lo) (s.reg_coolantEvent h)

/-- While the rise stands too high the thermal input is bounded as in a flow alert (R420, R423). -/
theorem State.thermIn_le_of_coolHigh (high : s.coolHigh = true) : s.thermIn ≤ 1200 * s.rf aFallbk 7 0 := by
  unfold State.thermIn State.heatIn
  rw [if_pos high]
  omega

end Safety

/-! ### The coolant (R414, R420) -/

section Coolant
variable {s : State}

theorem runs_coolantSample (a b : Int) (up : s.pwr.vinAon = true) :
    Runs (.coolantSample a b) s (fun t => t.rf aCool 15 0 = ofSigned 16 a ∧ t.rf aCool 31 16 = ofSigned 16 b ∧
      t.thm.inFailed = !thermistorOk a ∧ t.thm.outFailed = !thermistorOk b) := by
  have cool : ((s.setRf aCool 15 0 (ofSigned 16 a)).setRf aCool 31 16 (ofSigned 16 b)).rf aCool 15 0 = ofSigned 16 a ∧
      ((s.setRf aCool 15 0 (ofSigned 16 a)).setRf aCool 31 16 (ofSigned 16 b)).rf aCool 31 16 = ofSigned 16 b := by
    rw [State.rf_setRf_other _ _ _ _ _ _ _ (by omega), State.rf_setRf_same _ _ _ _ _ (by omega),
      State.rf_setRf_same _ _ _ _ _ (by omega)]
    exact ⟨Nat.mod_eq_of_lt (ofSigned_lt 16 a), Nat.mod_eq_of_lt (ofSigned_lt 16 b)⟩
  refine .of (if_neg (by simp [up])) ⟨?_, ?_, rfl, rfl⟩
  · exact cool.1
  · exact cool.2

/-- A flag of the check as it was set, and after its event. -/
theorem State.rf_coolFlag {n v : Nat} (hn : n < 32) (hv : v < 2) :
    (s.setRf aLeak n n v).coolantEvent.rf aLeak n n = v := by
  rw [State.rf_coolantEvent _ _ _ (by decide), State.rf_setRf_same _ _ _ _ _ hn]
  exact Nat.mod_eq_of_lt (by rwa [Nat.add_sub_cancel_left])

theorem runs_coolDtTimer_high (check : s.coolCheck = true) (above : s.coolSide = 1) (clear : s.rf aLeak 29 29 = 0) :
    Runs (.coolDtTimer 0) s (fun t => t.rf aLeak 29 29 = 1 ∧ t.thermIn ≤ 1200 * s.rf aFallbk 7 0) := by
  have flag : (s.setRf aLeak 29 29 1).coolantEvent.safety.rf aLeak 29 29 = 1 := by
    rw [State.rf_safety _ _ _ (by decide), State.rf_coolFlag (by decide) (by decide)]
  refine .of (if_pos ⟨rfl, check, above, clear⟩) ⟨flag, ?_⟩
  refine (State.thermIn_le_of_coolHigh _ (decide_eq_true flag)).trans_eq ?_
  rw [State.rf_safety _ _ _ (by decide), State.rf_coolantEvent _ _ _ (by decide), State.rf_setRf_ne _ _ _ _ _ _ (by decide)]

theorem runs_coolDtTimer_low (check : s.coolCheck = true) (below : s.coolSide = -1) (clear : s.rf aLeak 28 28 = 0) :
    Runs (.coolDtTimer 1) s (fun t => t.rf aLeak 28 28 = 1) := by
  have run : execCoolDtTimer 1 s = .next (s.setRf aLeak 28 28 1).coolantEvent := by
    simp [execCoolDtTimer, check, below, clear]
  exact .of run (State.rf_coolFlag (by decide) (by decide))

theorem runs_coolDtTimer_within (check : s.coolCheck = true) (within : s.coolSide = 0) (high : s.rf aLeak 29 29 = 1) :
    Runs (.coolDtTimer 2) s (fun t => t.rf aLeak 29 29 = 0 ∧ t.coolHigh = false) := by
  have run : execCoolDtTimer 2 s = .next (s.setRf aLeak 29 29 0).coolantEvent := by
    simp [execCoolDtTimer, check, within, high]
  have flag : (s.setRf aLeak 29 29 0).coolantEvent.rf aLeak 29 29 = 0 := State.rf_coolFlag (by decide) (by decide)
  exact .of run ⟨flag, by simp [State.coolHigh, flag]⟩

end Coolant

/-! ### The leak loop (R421, R422) -/

section Leak
variable {s : State}

theorem leakBand_lt (r : Nat) : leakBand r < 4 := by
  unfold leakBand
  repeat' split
  all_goals decide

/-- A band that is registered is shown, and WET sets the leak target. -/
theorem State.newBand_shows {b : Nat} (hb : b < 4) :
    (s.newBand b).rf aLeak 31 30 = b ∧ (b = 1 → (s.newBand b).trd.leakOn = true) := by
  have band : (s.setRf aLeak 31 30 b).coolantEvent.rf aLeak 31 30 = b := by
    rw [State.rf_coolantEvent _ _ _ (by decide), State.rf_setRf_same _ _ _ _ _ (by decide)]
    exact Nat.mod_eq_of_lt hb
  unfold State.newBand
  dsimp only
  split
  next => exact ⟨(State.rf_safety _ _ _ (by decide)).trans band, fun _ => State.safety_leakOn _⟩
  next dry => exact ⟨band, fun wet => absurd wet dry⟩

theorem runs_leakSample_fifth {r : Nat} (up : s.pwr.vinAon = true) (same : s.thm.leakBand = leakBand r)
    (four : 4 ≤ s.thm.leakRun) (new : s.rf aLeak 31 30 ≠ leakBand r) :
    Runs (.leakSample r) s (fun t => t.rf aLeak 31 30 = leakBand r ∧ (leakBand r = 1 → t.trd.leakOn = true)) := by
  have five : (if leakBand r = s.thm.leakBand then min 5 (s.thm.leakRun + 1) else 1) = 5 := by
    rw [if_pos same.symm]
    omega
  have run : execLeakSample r s =
      .next (({ s with thm := { s.thm with leakBand := leakBand r, leakRun := 5 } } : State).newBand (leakBand r)) := by
    unfold execLeakSample
    rw [if_neg (by simp [up])]
    dsimp only
    rw [five, if_pos ⟨rfl, new⟩]
  exact .of run (State.newBand_shows (leakBand_lt r))

theorem runs_leakSample_other {r : Nat} (up : s.pwr.vinAon = true) (other : s.thm.leakBand ≠ leakBand r) :
    Runs (.leakSample r) s (fun t => t.thm.leakRun = 1 ∧ t.reg aLeak = s.reg aLeak) := by
  have run : execLeakSample r s =
      .next { s with thm := { s.thm with leakBand := leakBand r, leakRun := 1 } } := by
    unfold execLeakSample
    rw [if_neg (by simp [up])]
    dsimp only
    rw [if_neg other.symm, if_neg (by omega)]
  exact .of run ⟨rfl, rfl⟩

end Leak

/-! ### The commands (R428, R429, R493) -/

section Commands
variable {s : State} {tag : Nat} {p : Prog}

/-- Twenty-four sensors and fewer fit every reply. -/
theorem Prog.items_sensors (p : Prog) {n : Nat} (h : n ≤ 24) : p.items 4 n = n := by
  unfold Prog.items
  omega

theorem runs_sensors {first n : Nat} (w : Waits s tag 0x0701 p)
    (payload : p.payload = [BitVec.ofNat 8 first, BitVec.ofNat 8 n]) (some' : 1 ≤ n) (few : n ≤ 24)
    (range : first + n ≤ 82) :
    Runs (.sensors tag) s (fun t => Answered t p stOk (s.regBytes (aSensor first) n) ∧ t.thm = s.thm) := by
  have from0 : byteAt p.payload 0 = first := by
    rw [payload]
    exact Nat.mod_eq_of_lt (by omega)
  have count : byteAt p.payload 1 = n := by
    rw [payload]
    exact Nat.mod_eq_of_lt (by omega)
  have length : p.payload.length = 2 := by rw [payload]; rfl
  refine .of (congrArg Host.Outcome.next (State.serve_read w.1 (by simp [length, from0, count, some', range]) (by decide))) ?_
  rw [from0, count, p.items_sensors few]
  exact ⟨w.answered _ _, s.finish_thm _ _ _⟩

theorem runs_zones (w : Waits s tag 0x0702 p) (payload : p.payload = []) (fits : p.fits 140 = true) :
    Runs (.zones tag) s (fun t =>
      Answered t p stOk (wordsToBytes ((List.range 33).map s.zoneWord) ++ s.regBytes aCool 1 ++ s.regBytes aLeak 1) ∧
      t.thm = s.thm) :=
  .of (congrArg Host.Outcome.next (State.serve_taken w.1 (by simp [payload]) fits))
    ⟨w.answered _ _, s.finish_thm _ _ _⟩

theorem State.rf_finish (s : State) (tag st : Nat) (l : List Byte) (hi lo : Nat) {a : Nat} (h : a ≠ aRing 1 + 0x10) :
    (s.finish tag st l).rf a hi lo = s.rf a hi lo :=
  congrArg (fld · hi lo) (s.reg_finish _ _ _ h)

theorem runs_coolCfg (w : Waits s tag 0x0703 p) (length : p.payload.length = 6)
    (cool : coolCfgOk (BitVec.ofNat 32 (field p.payload 0 4)) = true)
    (leak : leakCfgOk (BitVec.ofNat 32 (field p.payload 4 2)) = true) :
    Runs (.coolCfg tag) s (fun t => t.rf aCoolCfg 31 0 = field p.payload 0 4 ∧
      t.rf aLeak 15 0 = field p.payload 4 2 ∧ Answered t p stOk []) := by
  have cap : fld (BitVec.ofNat 32 (field p.payload 4 2)) 15 0 = field p.payload 4 2 := by
    rw [fld_ofNat _ (by decide)]
    exact Nat.mod_eq_of_lt (field_lt p.payload 4 2)
  have run : execCoolCfg tag s = .next (((s.setReg aCoolCfg (BitVec.ofNat 32 (field p.payload 0 4))).setRf aLeak 15 0
      (field p.payload 4 2)).finish tag stOk []) := by
    unfold execCoolCfg
    rw [State.serve_taken w.1 (by simp [length]) (p.fits_of_le (by decide))]
    dsimp only
    simp only [cool, leak, cap, Bool.and_self, if_true]
  refine .of run ⟨?_, ?_, answered_of_waits w rfl fun a ha => ?_⟩
  · rw [State.rf, State.reg_finish _ _ _ _ (by decide), State.reg_setRf_ne _ _ _ _ (by decide), State.reg_setReg_same,
      fld_ofNat _ (by decide)]
    exact Nat.mod_eq_of_lt (by simpa using field_lt p.payload 0 4)
  · rw [State.rf_finish _ _ _ _ _ _ (by decide), State.rf_setRf_same _ _ _ _ _ (by decide)]
    exact Nat.mod_eq_of_lt (field_lt p.payload 4 2)
  · rw [State.reg_setRf_ne _ _ _ _ (by unfold aRing aCuing aHioLink at ha; unfold aLeak; omega),
      State.reg_setReg_ne _ _ (by unfold aRing aCuing aHioLink at ha; unfold aCoolCfg; omega)]

end Commands

/-- Settles O16: readings go to their fields; each flag of the check is set and cleared with its event, which no register
of the block takes part in; and a band is registered by its fifth sample. -/
theorem coolantAndLeakLoop : Obligations.CoolantAndLeakLoop := by
  unfold Obligations.CoolantAndLeakLoop
  intro s
  exact ⟨fun a b up => runs_coolantSample a b up, fun check above clear => runs_coolDtTimer_high check above clear,
    fun _ up same four new => runs_leakSample_fifth up same four new, fun on dry => .of (if_pos ⟨on, dry⟩) ⟨rfl, rfl⟩,
    fun check below clear => runs_coolDtTimer_low check below clear,
    fun check within high => runs_coolDtTimer_within check within high,
    fun _ up other => runs_leakSample_other up other,
    fun _ _ => ⟨fun _ _ w payload one few range => runs_sensors w payload one few range,
      fun w payload fits => runs_zones w payload fits, fun w length cool leak => runs_coolCfg w length cool leak⟩⟩

end Sys2Proof.Machine
end

section
/-!
The counters as they count on from their last value, are set and are read (R527 to R534), the samples that they ask for
(R529, R530), and the congestion map of an interval (R536, R537).
-/

-- Elaborated in turn, as the section of the refutations says.
set_option Elab.async false

namespace Sys2Proof.Machine

/-! ### Where a counter stands -/

/-- The four words of a counter stand in the banks of the device, of a cluster, or of a shuttle. -/
def CtrBase (id : Nat) : Prop :=
  id % 16 = 0 ∧ ((0x600200 ≤ id ∧ id < 0x600300) ∨ (0x800000 ≤ id ∧ id < 0x1000000 ∧
    ((0x2000 ≤ id % 0x100000 ∧ id % 0x100000 < 0x2100) ∨ (0x51000 ≤ id % 0x100000 ∧ id % 0x100000 < 0x51800))))

theorem within_iff {a lo hi : Nat} : within a lo hi = true ↔ lo ≤ a ∧ a < hi := by simp [within]

theorem ctrBase_of_scope {id k : Nat} (scope : ctrScope id = some k) : CtrBase id := by
  unfold ctrScope at scope
  dsimp only at scope
  unfold CtrBase
  simp only [within_iff, aCntDev, Bool.and_eq_true] at scope
  split at scope
  · cases scope
  · split at scope
    · omega
    · split at scope
      · omega
      · split at scope
        · omega
        · cases scope

/-! ### One more event at the last value (R527, R528) -/

section Overflow
variable (s : State) {id k : Nat}

/-- The value of a counter as it was set, within its 48 bits. -/
theorem State.ctr_setCtr_same (v : Nat) (h : v < 2 ^ 48) : (s.setCtr id v).ctr id = v := by
  unfold State.setCtr State.ctr
  rw [State.rf_setRf_ne _ _ _ _ _ _ (by omega), State.rf, State.reg_setReg_same, fld_ofNat _ (by decide),
    State.rf_setRf_same _ _ _ _ _ (by decide), bits]
  simp only [Nat.shiftRight_zero]
  omega

theorem State.reg_setCtr_ne (v : Nat) {a : Nat} (lo : a ≠ id + 4) (hi : a ≠ id + 8) : (s.setCtr id v).reg a = s.reg a := by
  unfold State.setCtr
  rw [State.reg_setRf_ne _ _ _ _ hi, State.reg_setReg_ne _ _ lo]

/-- OVF stands beside the upper bits of the value. -/
theorem State.rf_setCtr_ovf (v : Nat) : (s.setCtr id v).rf (id + 8) 16 16 = s.rf (id + 8) 16 16 := by
  unfold State.setCtr
  rw [State.rf_setRf_other _ _ _ _ _ _ _ (by decide), State.rf_setReg_ne _ _ _ _ (by omega)]

theorem State.ctr_of_words {t : State} (lo : t.reg (id + 4) = s.reg (id + 4)) (hi : t.rf (id + 8) 15 0 = s.rf (id + 8) 15 0) :
    t.ctr id = s.ctr id := by
  unfold State.ctr
  rw [hi, show t.rf (id + 4) 31 0 = s.rf (id + 4) 31 0 from congrArg (fld · 31 0) lo]

/-- The state with a counter set and its OVF. -/
def State.ctrOver (s : State) (id v : Nat) : State := (s.setCtr id v).setRf (id + 8) 16 16 1

theorem State.ctrOver_spec {v : Nat} (h : v < 2 ^ 48) :
    (s.ctrOver id v).ctr id = v ∧ (s.ctrOver id v).rf (id + 8) 16 16 = 1 ∧ (s.ctrOver id v).reg id = s.reg id ∧
      (s.ctrOver id v).mem = s.mem := by
  unfold State.ctrOver
  refine ⟨?_, State.rf_setRf_same _ _ _ _ _ (by decide), ?_, (State.setRf_mem _ _ _ _ _).trans (s.setCtr_mem _ _)⟩
  · refine (State.ctr_of_words _ (State.reg_setRf_ne _ _ _ _ (by omega))
      (State.rf_setRf_other _ _ _ _ _ _ _ (by decide))).trans (s.ctr_setCtr_same v h)
  · exact (State.reg_setRf_ne _ _ _ _ (by omega)).trans (s.reg_setCtr_ne _ (by omega) (by omega))

/-- A counter at its last value that sees one more event. -/
theorem State.ctrAdd_last (n : Nat) (last : s.ctr id = 2 ^ 48 - 1) :
    State.ctrAdd (n + 1) s id 1 = if (s.ctrOverflow id 0).2.1 then State.ctrAdd n (s.ctrOverflow id 0).1 (id + 0x10) 1
      else (s.ctrOverflow id 0).1 := by
  rw [State.ctrAdd]
  dsimp only
  rw [if_neg (by omega), show s.ctr id + 1 - 2 ^ 48 = 0 by omega]

theorem State.ctrAdd_wraps (last : s.ctr id = 2 ^ 48 - 1) (alone : s.rf id 29 29 = 0)
    (plain : s.rf id 28 28 = 0 ∨ s.rf (id + 0xC) 31 0 = 0) : s.ctrAdd 16 id 1 = s.ctrOver id 0 := by
  have step : s.ctrOverflow id 0 = (s.ctrOver id 0, false, false) := by
    unfold State.ctrOverflow
    rw [if_neg (by omega), if_neg (by omega)]
    rfl
  rw [State.ctrAdd_last _ _ last, step]
  rfl

theorem State.ctrAdd_restarts (last : s.ctr id = 2 ^ 48 - 1) (alone : s.rf id 29 29 = 0) (sampled : s.rf id 28 28 = 1)
    (period : s.rf (id + 0xC) 31 0 ≠ 0) : s.ctrAdd 16 id 1 = s.ctrOver id (2 ^ 48 - s.rf (id + 0xC) 31 0) := by
  have step : s.ctrOverflow id 0 = (s.ctrOver id (2 ^ 48 - s.rf (id + 0xC) 31 0), false, true) := by
    unfold State.ctrOverflow
    rw [if_neg (by omega), if_pos ⟨sampled, period⟩]
    rfl
  rw [State.ctrAdd_last _ _ last, step]
  rfl

theorem State.ctrAdd_carries (last : s.ctr id = 2 ^ 48 - 1) (chained : s.rf id 29 29 = 1)
    (room : s.ctr (id + 16) < 2 ^ 48 - 1) :
    s.ctrAdd 16 id 1 = (s.setCtr id 0).setCtr (id + 16) (s.ctr (id + 16) + 1) := by
  have step : s.ctrOverflow id 0 = (s.setCtr id 0, true, false) := by
    unfold State.ctrOverflow
    rw [if_pos chained]
  have next : (s.setCtr id 0).ctr (id + 16) = s.ctr (id + 16) :=
    State.ctr_of_words _ (s.reg_setCtr_ne _ (by omega) (by omega))
      (congrArg (fld · 15 0) (s.reg_setCtr_ne _ (by omega) (by omega)))
  rw [State.ctrAdd_last _ _ last, step]
  dsimp only
  rw [if_pos rfl, State.ctrAdd]
  dsimp only
  rw [next, if_pos (by omega)]

/-- SAMPLE without CHAIN, as two fields. -/
theorem rf_sample_chain : s.rf id 29 28 = 1 ↔ s.rf id 28 28 = 1 ∧ s.rf id 29 29 = 0 := by
  simp only [State.rf, fld, bits, Nat.shiftRight_eq_div_pow]
  omega

/-- The choice of a context draws a free value. -/
theorem State.choose_same {α : Type} (l : List α) : ∃ x, (s.choose l).2 = { s with free := x } := by
  unfold State.choose
  split
  · exact ⟨_, rfl⟩
  · exact ⟨_, rfl⟩
  · exact ⟨_, rfl⟩

/-- The state with the sample noted that an overflow of a shuttle counter asks for. -/
def State.sampleNoted (s : State) (id : Nat) : State :=
  match (s.choose (s.ctrCtxs id)).1 with
  | some x => (s.choose (s.ctrCtxs id)).2.updCtx x
      (fun c => { c with sample := some (id / 16 % 4, (s.choose (s.ctrCtxs id)).2.aon) })
  | none => (s.choose (s.ctrCtxs id)).2

theorem State.sampleNoted_regs : (s.sampleNoted id).regs = s.regs ∧ (s.sampleNoted id).mem = s.mem := by
  obtain ⟨_, same⟩ := s.choose_same (s.ctrCtxs id)
  unfold State.sampleNoted
  split <;> rw [same] <;> exact ⟨rfl, rfl⟩

variable {s}

/-- A counter that counts at its last value: the sample is noted where the counter asks for one, and it counts on. -/
theorem execCounterOverflow_last (scope : ctrScope id = some k) (on : s.rf id 31 31 = 1) (held : s.isOff (heldIn id) = false)
    (last : s.ctr id = 2 ^ 48 - 1) :
    execCounterOverflow id s = .next ((if k = 0 ∧ s.rf id 29 28 = 1 ∧ s.rf (id + 0xC) 31 0 ≠ 0 then s.sampleNoted id
      else s).ctrAdd 16 id 1) := by
  unfold execCounterOverflow
  rw [scope]
  dsimp only
  rw [if_neg (by simp [on, held, last])]
  rfl

theorem execCounterOverflow_still (scope : ctrScope id = some k) (off : s.rf id 31 31 = 0 ∨ s.ctr id ≠ 2 ^ 48 - 1) :
    execCounterOverflow id s = .next s := by
  unfold execCounterOverflow
  rw [scope]
  exact if_pos (by tauto)

theorem runs_counterOverflow_wraps (scope : ctrScope id = some k) (on : s.rf id 31 31 = 1)
    (held : s.isOff (heldIn id) = false) (last : s.ctr id = 2 ^ 48 - 1) (alone : s.rf id 29 29 = 0)
    (plain : s.rf id 28 28 = 0 ∨ s.rf (id + 0xC) 31 0 = 0) :
    Runs (.counterOverflow id) s (fun t => t.ctr id = 0 ∧ t.rf (id + 8) 16 16 = 1 ∧ t.reg id = s.reg id ∧
      t.mem = s.mem) := by
  refine .of (execCounterOverflow_last scope on held last) ?_
  rw [if_neg (by rw [rf_sample_chain]; omega), State.ctrAdd_wraps s last alone plain]
  exact s.ctrOver_spec (by decide)

theorem runs_counterOverflow_restarts (scope : ctrScope id = some 0) (on : s.rf id 31 31 = 1)
    (held : s.isOff (heldIn id) = false) (last : s.ctr id = 2 ^ 48 - 1) (sampled : s.rf id 29 28 = 1)
    (period : s.rf (id + 0xC) 31 0 ≠ 0) :
    Runs (.counterOverflow id) s (fun t => t.ctr id = 2 ^ 48 - s.rf (id + 0xC) 31 0 ∧ t.rf (id + 8) 16 16 = 1 ∧
      t.mem = s.mem) := by
  obtain ⟨regs, mem⟩ := s.sampleNoted_regs (id := id)
  obtain ⟨sample, alone⟩ := (rf_sample_chain s).mp sampled
  have same (a hi lo : Nat) : (s.sampleNoted id).rf a hi lo = s.rf a hi lo := State.rf_of_regs regs a hi lo
  have value : (s.sampleNoted id).ctr id = s.ctr id := by simp only [State.ctr, same]
  refine .of (execCounterOverflow_last scope on held last) ?_
  rw [if_pos ⟨rfl, sampled, period⟩, State.ctrAdd_restarts _ (value.trans last) (by rwa [same]) (by rwa [same])
    (by rwa [same]), same]
  obtain ⟨ctr, ovf, -, kept⟩ := (s.sampleNoted id).ctrOver_spec (id := id) (v := 2 ^ 48 - s.rf (id + 0xC) 31 0) (by omega)
  exact ⟨ctr, ovf, kept.trans mem⟩

theorem runs_counterOverflow_carries (scope : ctrScope id = some k) (on : s.rf id 31 31 = 1)
    (held : s.isOff (heldIn id) = false) (last : s.ctr id = 2 ^ 48 - 1) (chained : s.rf id 29 29 = 1)
    (room : s.ctr (id + 16) < 2 ^ 48 - 1) (shared : k ≠ 0) :
    Runs (.counterOverflow id) s (fun t => t.ctr id = 0 ∧ t.rf (id + 8) 16 16 = s.rf (id + 8) 16 16 ∧
      t.ctr (id + 16) = s.ctr (id + 16) + 1 ∧ t.mem = s.mem) := by
  refine .of (execCounterOverflow_last scope on held last) ?_
  rw [if_neg (by simp [shared]), State.ctrAdd_carries s last chained room]
  have beyond (hi lo : Nat) : ((s.setCtr id 0).setCtr (id + 16) (s.ctr (id + 16) + 1)).rf (id + 8) hi lo =
      (s.setCtr id 0).rf (id + 8) hi lo := congrArg (fld · hi lo) (State.reg_setCtr_ne _ _ (by omega) (by omega))
  refine ⟨?_, (beyond _ _).trans (s.rf_setCtr_ovf 0), State.ctr_setCtr_same _ _ (by omega),
    (State.setCtr_mem _ _ _).trans (s.setCtr_mem _ _)⟩
  exact (State.ctr_of_words _ (State.reg_setCtr_ne _ _ (by omega) (by omega)) (beyond _ _)).trans
    (s.ctr_setCtr_same 0 (by decide))

end Overflow

/-! ### CFG as it is written (R528, R530, R534) -/

section Config
variable {s : State} {path : Path} {id k : Nat} {v : Word}

/-- A field that is written with what it holds. -/
theorem putFld_fld (w : Word) (hi lo : Nat) : putFld w hi lo (fld w hi lo) = w := by
  have part : bits w.toNat hi lo * 2 ^ lo ≤ w.toNat := by
    unfold bits
    rw [Nat.shiftRight_eq_div_pow]
    exact (Nat.mul_le_mul_right _ (Nat.mod_le _ _)).trans (Nat.div_mul_le_self _ _)
  unfold putFld putBits fld
  rw [Nat.mod_eq_of_lt (bits_lt _ _ _), Nat.sub_add_cancel part, BitVec.ofNat_toNat, BitVec.setWidth_eq]

theorem State.ctrCfgWord_open (unsealed : s.sealed = false) : s.ctrCfgWord id k v =
    putFld (putFld v 29 29 (if ctrLast id k then 0 else fld v 29 29)) 26 23 (if k = 0 then fld v 26 23 else 0) := by
  have chain : putFld v 29 29 (if ctrLast id k then 0 else fld v 29 29) =
      if ctrLast id k then putFld v 29 29 0 else v := by
    split
    · rfl
    · exact putFld_fld v 29 29
  have mask : fld v 26 23 = fld (putFld v 29 29 (if ctrLast id k then 0 else fld v 29 29)) 26 23 :=
    (fld_putFld_other _ _ _ _ _ _ (by decide)).symm
  unfold State.ctrCfgWord
  rw [← chain, unsealed, if_neg (by simp)]
  split
  · rw [mask, putFld_fld]
  · rfl

theorem execCounterCfgWrite_eq (via : s.pathOk path = true) (scope : ctrScope id = some k)
    (held : s.isOff (heldIn id) = false) :
    execCounterCfgWrite path id v s = .next ((s.wake (heldIn id)).ctrSet id k 0 v).2 := by
  unfold execCounterCfgWrite
  rw [scope]
  exact if_neg (by simp [via, held])

theorem State.sealed_wake (d : Nat) : (s.wake d).sealed = s.sealed := by
  unfold State.sealed State.rf
  rw [State.reg_wake]

theorem runs_counterCfgWrite (via : s.pathOk path = true) (scope : ctrScope id = some k)
    (held : s.isOff (heldIn id) = false) (unsealed : s.sealed = false) (good : ctrCfgOk k v = true) :
    Runs (.counterCfgWrite path id v) s (fun t =>
      t.reg id = putFld (putFld v 29 29 (if ctrLast id k then 0 else fld v 29 29)) 26 23 (if k = 0 then fld v 26 23 else 0) ∧
      t.reg (id + 4) = s.reg (id + 4) ∧ t.reg (id + 8) = s.reg (id + 8) ∧ t.mem = s.mem) := by
  have unsealed' : (s.wake (heldIn id)).sealed = false := s.sealed_wake _ ▸ unsealed
  have set : ((s.wake (heldIn id)).ctrSet id k 0 v).2 =
      (s.wake (heldIn id)).setReg id ((s.wake (heldIn id)).ctrCfgWord id k v) := by
    simp [State.ctrSet, unsealed', good]
  refine .of (execCounterCfgWrite_eq via scope held) ?_
  rw [set, State.reg_setReg_same, State.ctrCfgWord_open unsealed', State.reg_setReg_ne _ _ (by omega),
    State.reg_setReg_ne _ _ (by omega), State.reg_wake, State.reg_wake, State.setReg_mem, State.wake_mem]
  exact ⟨rfl, rfl, rfl, rfl⟩

theorem runs_counterCfgWrite_refused (via : s.pathOk path = true) (scope : ctrScope id = some k)
    (held : s.isOff (heldIn id) = false) (unsealed : s.sealed = false) (bad : ctrCfgOk k v = false) :
    Runs (.counterCfgWrite path id v) s (fun t => t.reg id = s.reg id ∧ t.rf aCntStatus 0 0 = 1) := by
  have unsealed' : (s.wake (heldIn id)).sealed = false := s.sealed_wake _ ▸ unsealed
  have set : ((s.wake (heldIn id)).ctrSet id k 0 v).2 = (s.wake (heldIn id)).setRf aCntStatus 0 0 1 := by
    simp [State.ctrSet, unsealed', bad]
  obtain ⟨-, place⟩ := ctrBase_of_scope scope
  refine .of (execCounterCfgWrite_eq via scope held) ?_
  rw [set, State.reg_setRf_ne _ _ _ _ (by unfold aCntStatus; omega), State.reg_wake]
  exact ⟨rfl, State.rf_setRf_same _ _ _ _ _ (by decide)⟩

end Config

/-! ### VAL_LO as it is read (R531) -/

section Read
variable {s : State} {path : Path} {id k w : Nat}

theorem assigned_ctr (at' : CtrBase id) (hw : w = 4 ∨ w = 8) : assigned (id + w) = true := by
  obtain ⟨aligned, place⟩ := at'
  unfold assigned
  rw [Bool.and_eq_true, decide_eq_true_eq, if_neg (by omega), if_neg (by omega)]
  refine ⟨by omega, ?_⟩
  split
  · simp only [aonAssigned, within_iff, Bool.or_eq_true, Bool.and_eq_true, decide_eq_true_eq]
    omega
  · rw [if_pos (by omega)]
    simp only [clusterAssigned, within_iff, Bool.or_eq_true]
    omega

/-- The words of a counter's value show what their registers hold. -/
theorem State.shown_ctr (s : State) (at' : CtrBase id) (hw : w = 4 ∨ w = 8) : s.shown (id + w) = s.reg (id + w) := by
  obtain ⟨aligned, place⟩ := at'
  have word : BitVec.ofNat 32 (s.reg (id + w)).toNat = s.reg (id + w) := by simp
  unfold State.shown
  refine Eq.trans (congrArg (BitVec.ofNat 32) ?_) word
  split
  · unfold State.lowReg
    simp only [within_iff, aMode, aSelftest, aDepth, aLogHead, aTrace, aImage, aReport, aZone]
    repeat rw [if_neg (by omega)]
  · rw [if_pos (by omega)]
    have address : aC ((id + w - 0x00800000) / 0x00100000) + (id + w) % 0x00100000 = id + w := by unfold aC; omega
    unfold State.clusterReg
    simp only [within_iff, address]
    repeat rw [if_neg (by omega)]

theorem latchOf_ctr (at' : CtrBase id) : latchOf (id + 4) = some (id + 8) := by
  obtain ⟨aligned, place⟩ := at'
  have lo : (id + 4) / 4 % 4 = 1 := by omega
  have word : ctrWord (id + 4) = some 1 := by
    unfold ctrWord
    dsimp only
    rw [lo, if_pos]
    simp only [within_iff, aCntDev, Bool.or_eq_true, Bool.and_eq_true, decide_eq_true_eq, true_or, and_true]
    omega
  unfold latchOf
  rw [if_pos word]

theorem State.reads_of_pathOk (via : s.pathOk path = true) (a : Nat) : s.reads path a = true := by
  unfold State.pathOk at via
  unfold State.reads State.pathAny
  cases path <;> simp_all [State.pathOk]

theorem runs_counterRead (via : s.pathOk path = true) (scope : ctrScope id = some k)
    (held : s.isOff (heldIn (id + 4)) = false) (free : tabGet (fun _ => none) s.cnt.latch (id + 4) = none) :
    Runs (.counterRead path id) s (fun t => t.cnt.readOut = [s.reg (id + 4)] ∧
      tabGet (fun _ => none) t.cnt.latch (id + 8) = some (s.reg (id + 8)) ∧ t.regs = s.regs ∧ t.mem = s.mem) := by
  have at' := ctrBase_of_scope scope
  have read : s.readWord path (id + 4) = ((s.wake (heldIn (id + 4))).reg (id + 4),
      (s.wake (heldIn (id + 4))).latch (id + 8) ((s.wake (heldIn (id + 4))).reg (id + 8))) := by
    unfold State.readWord
    rw [if_neg (by simp [s.reads_of_pathOk via, assigned_ctr at', held])]
    have unlatched : (s.wake (heldIn (id + 4))).unlatch (id + 4) = (none, s.wake (heldIn (id + 4))) := by
      unfold State.unlatch
      rw [State.wake_cnt, free]
    dsimp only
    rw [unlatched, latchOf_ctr at']
    dsimp only
    rw [State.shown_ctr _ at' (.inl rfl), State.shown_ctr _ at' (.inr rfl)]
  have run : execCounterRead path id s = .next
      { (s.wake (heldIn (id + 4))).latch (id + 8) ((s.wake (heldIn (id + 4))).reg (id + 8)) with
        cnt := { ((s.wake (heldIn (id + 4))).latch (id + 8) ((s.wake (heldIn (id + 4))).reg (id + 8))).cnt with
          readOut := [(s.wake (heldIn (id + 4))).reg (id + 4)] } } := by
    unfold execCounterRead
    rw [scope]
    dsimp only
    rw [read]
  refine .of run ⟨congrArg (fun w => [w]) (s.reg_wake _ _), ?_, s.wake_regs _, s.wake_mem _⟩
  exact (State.latch_same _ _ _).trans (congrArg some (s.reg_wake _ _))

end Read

/-! ### Samples (R529, R530) -/

section Samples
variable {s : State} {x j time h : Nat} {it : Item}

theorem leBytes_eight (v : Nat) : leBytes 8 v = leBytes 4 v ++ leBytes 4 (v / 2 ^ 32) := by
  simp [leBytes, Nat.div_div_eq_div_mul]

theorem bytesToWords_getD {n i : Nat} (l : List Byte) (h : i < n) :
    (bytesToWords n l).getD i 0 = BitVec.ofNat 32 (field l (4 * i) 4) := by
  simp [bytesToWords, h]

/-- The three first words of a sample record: its time, and the PC. -/
theorem sampleRecord_words (time pc : Nat) (rest : List Byte) :
    let l := bytesToWords 8 (leBytes 8 time ++ (leBytes 4 pc ++ rest))
    l.getD 0 0 = BitVec.ofNat 32 time ∧ l.getD 1 0 = BitVec.ofNat 32 (time / 2 ^ 32) ∧ l.getD 2 0 = BitVec.ofNat 32 pc := by
  have low (n : Nat) : BitVec.ofNat 32 (n % 256 ^ 4) = BitVec.ofNat 32 n := by
    apply BitVec.eq_of_toNat_eq
    simp
  rw [leBytes_eight, List.append_assoc]
  dsimp only
  rw [bytesToWords_getD _ (by decide), bytesToWords_getD _ (by decide), bytesToWords_getD _ (by decide), field_leBytes_zero,
    field_leBytes_skip (by decide), field_leBytes_zero, field_leBytes_skip (by decide), field_leBytes_skip (by decide),
    field_leBytes_zero, low, low, low]
  exact ⟨rfl, rfl, rfl⟩

/-- The state without the request for a sample of context x. -/
def State.sampleTaken (s : State) (x : Nat) : State := s.updCtx x (fun c => { c with sample := none })

theorem State.ctx_sampleTaken : (s.sampleTaken x).ctx x = { s.ctx x with sample := none } := by
  simp [State.sampleTaken, State.updCtx, State.ctx_setCtx_same]

/-- A sample that is asked for and not sealed, of any PC: a record at HEAD, or one more dropped. -/
theorem State.takeSample_asked (pc : Nat) (asked : (s.ctx x).sample = some (j, time)) (item : s.ctxItem x = some it)
    (unsealed : s.sealed = false) : ∃ rest, s.takeSample x pc =
      if 256 ≤ (s.rf (aSampHead (x / 128)) 8 0 + 512 - s.rf (aSampTail (x / 128)) 8 0) % 512 then
        (s.sampleTaken x).bump (aSampHead (x / 128)) 31 16 1
      else ((s.sampleTaken x).setRegs (aSample (x / 128) (s.rf (aSampHead (x / 128)) 8 0 % 256))
        (bytesToWords 8 (leBytes 8 time ++ (leBytes 4 pc ++ rest)))).setRf (aSampHead (x / 128)) 8 0
          ((s.rf (aSampHead (x / 128)) 8 0 + 1) % 512) := by
  have open' : (s.sampleTaken x).sealed = false := unsealed
  refine ⟨leBytes 1 (ctxShuttle x + 32 * (x % 4)) ++ (leBytes 1 j ++ (leBytes 1 (it.image + 64 * b2n (s.imgService it.image)) ++
    (leBytes 1 (s.rf (aShuCnt (x / 128) (ctxShuttle x) j) 7 0) ++ (leBytes 2 it.desc ++ leBytes 14 0)))), ?_⟩
  unfold State.takeSample
  rw [asked, item]
  dsimp only
  rw [← State.sampleTaken, open', if_neg Bool.false_ne_true]
  simp only [List.append_assoc]
  rfl

theorem runs_sampleCapture (asked : (s.ctx x).sample = some (j, time)) (item : s.ctxItem x = some it)
    (unsealed : s.sealed = false) (head : h = s.rf (aSampHead (x / 128)) 8 0)
    (room : (h + 512 - s.rf (aSampTail (x / 128)) 8 0) % 512 < 256) :
    Runs (.sampleCapture x) s (fun t => t.rf (aSampHead (x / 128)) 8 0 = (h + 1) % 512 ∧
      t.reg (aSample (x / 128) (h % 256)) = BitVec.ofNat 32 time ∧
      t.reg (aSample (x / 128) (h % 256) + 4) = BitVec.ofNat 32 (time / 2 ^ 32) ∧
      t.reg (aSample (x / 128) (h % 256) + 8) = BitVec.ofNat 32 (s.ctx x).pc ∧
      t.ctx x = { s.ctx x with sample := none } ∧ t.mem = s.mem) := by
  obtain ⟨rest, run⟩ := State.takeSample_asked (s.ctx x).pc asked item unsealed
  rw [← head, if_neg (by omega)] at run
  obtain ⟨w0, w1, w2⟩ := sampleRecord_words time (s.ctx x).pc rest
  have length : (bytesToWords 8 (leBytes 8 time ++ (leBytes 4 (s.ctx x).pc ++ rest))).length = 8 := by simp [bytesToWords]
  have word {i : Nat} (hi : i < 8) : (((s.sampleTaken x).setRegs (aSample (x / 128) (h % 256))
      (bytesToWords 8 (leBytes 8 time ++ (leBytes 4 (s.ctx x).pc ++ rest)))).setRf (aSampHead (x / 128)) 8 0
      ((h + 1) % 512)).reg (aSample (x / 128) (h % 256) + 4 * i) =
      (bytesToWords 8 (leBytes 8 time ++ (leBytes 4 (s.ctx x).pc ++ rest))).getD i 0 := by
    rw [State.reg_setRf_ne _ _ _ _ (by unfold aSample aSampHead; omega), State.reg_setRegs_at _ _ (by omega)]
  refine .of (congrArg Host.Outcome.next run) ⟨?_, (word (i := 0) (by decide)).trans w0, (word (i := 1) (by decide)).trans w1,
    (word (i := 2) (by decide)).trans w2, ?_, ?_⟩
  · rw [State.rf_setRf_same _ _ _ _ _ (by decide)]
    exact Nat.mod_eq_of_lt (Nat.mod_lt _ (by decide))
  · rw [State.setRf_ctx, State.ctx, State.setRegs_ctxs]
    exact State.ctx_sampleTaken
  · rw [State.setRf_mem, State.setRegs_mem]
    rfl

theorem runs_sampleCapture_dropped (asked : (s.ctx x).sample = some (j, time)) (item : s.ctxItem x = some it)
    (unsealed : s.sealed = false) (head : h = s.rf (aSampHead (x / 128)) 8 0)
    (full : 256 ≤ (h + 512 - s.rf (aSampTail (x / 128)) 8 0) % 512) :
    Runs (.sampleCapture x) s (fun t =>
      t.rf (aSampHead (x / 128)) 31 16 = satAdd 16 (s.rf (aSampHead (x / 128)) 31 16) 1 ∧
      t.rf (aSampHead (x / 128)) 8 0 = h ∧ t.ctx x = { s.ctx x with sample := none }) := by
  obtain ⟨rest, run⟩ := State.takeSample_asked (s.ctx x).pc asked item unsealed
  rw [← head, if_pos full] at run
  refine .of (congrArg Host.Outcome.next run) ⟨State.rf_bump_same _ _ _ _ _ (by decide), ?_,
    ((s.sampleTaken x).bump_ctx _ _ _ _ _).trans State.ctx_sampleTaken⟩
  rw [head, State.bump, State.rf_setRf_other _ _ _ _ _ _ _ (by decide), State.sampleTaken, State.updCtx_rf]

end Samples

/-! ### The map of an interval (R536, R537) -/

section Maps
variable {s : State}

/-- The words of the map of an interval, which are read through the two lemmas below alone. -/
@[irreducible] def State.mapWords (s : State) : List Word := bytesToWords 240 s.mapBytes

theorem State.mapWords_eq (s : State) : bytesToWords 240 s.mapBytes = s.mapWords := by rw [State.mapWords]

theorem State.length_mapWords (s : State) : s.mapWords.length = 240 := by
  rw [State.mapWords, bytesToWords, List.length_map, List.length_range]

theorem State.mapWords_getD {i : Nat} (h : i < 240) : s.mapWords.getD i 0 = BitVec.ofNat 32 (field s.mapBytes (4 * i) 4) := by
  rw [State.mapWords, bytesToWords_getD _ h]

/-- The state with the map of its interval. -/
def State.mapShown (s : State) : State := s.setRegs aMap s.mapWords

theorem State.reg_mapShown {i : Nat} (h : i < 240) :
    s.mapShown.reg (aMap + 4 * i) = BitVec.ofNat 32 (field s.mapBytes (4 * i) 4) := by
  unfold State.mapShown
  rw [State.reg_setRegs_at _ _ (by rwa [State.length_mapWords]), State.mapWords_getD h]

theorem State.reg_mapShown_ne {a : Nat} (h : a < aMap ∨ aMap + 960 ≤ a) : s.mapShown.reg a = s.reg a := by
  refine State.reg_setRegs_ne _ _ fun w hw => ?_
  rw [State.length_mapWords] at hw
  omega

theorem State.mapShown_mem : s.mapShown.mem = s.mem := State.setRegs_mem _ _ _
theorem State.mapShown_sw : s.mapShown.sw = s.sw := State.setRegs_sw _ _ _
theorem State.mapShown_cnt : s.mapShown.cnt = s.cnt := State.setRegs_cnt _ _ _
theorem State.mapShown_host : s.mapShown.host = s.host := State.setRegs_host _ _ _

/-- The state with the map, without a report of it that has not left yet, and with the count of those. -/
def State.mapReplaced (s : State) : State :=
  (s.mapShown.setInq (128 + plinthCluster) 4 ((s.mapShown.inq (128 + plinthCluster) 4).filter (fun k => !isReport k))).bump
    aMapErr 31 16 ((s.mapShown.inq (128 + plinthCluster) 4).filter isReport).length

theorem State.reg_mapReplaced {a : Nat} (h : a ≠ aMapErr) : s.mapReplaced.reg a = s.mapShown.reg a := by
  unfold State.mapReplaced
  rw [State.reg_bump_ne _ _ _ _ h, State.setInq_reg]

theorem State.reg_withCnt (t : State) (x : Cnt) (a : Nat) : ({ t with cnt := x } : State).reg a = t.reg a := rfl
theorem State.mem_withCnt (t : State) (x : Cnt) : ({ t with cnt := x } : State).mem = t.mem := rfl

/-- A packet that the device originates is the newest of its queue, whatever the counters then hold. -/
theorem sent_emit {t : State} (eid : t.selfEid ≠ 0xFFFF) (c : Nat) (p : Pkt) (x : Cnt) :
    Sent { t.emit c p with cnt := x } c p := State.emit_inq t c p eid

theorem State.mapReplaced_mem : s.mapReplaced.mem = s.mem := by
  unfold State.mapReplaced
  rw [State.bump_mem, State.setInq_mem, State.mapShown_mem]

/-- The map is shown, and sent where the device and its collector have an EID. -/
theorem execMapIntervalEnd_eq (up : s.pwr.vinAon = true) : execMapIntervalEnd s = .next
    { s.mapShown.mapSend s.mapBytes with cnt := { s.cnt with mapSeq := (s.cnt.mapSeq + 1) % 2 ^ 32, occMax := [], pctMax := [] } } := by
  have cnt : (s.mapShown.mapSend s.mapBytes).cnt = s.cnt := by
    unfold State.mapSend
    dsimp only
    split
    · exact State.mapShown_cnt
    · rw [State.emit_cnt, State.bump_cnt, State.setInq_cnt, State.mapShown_cnt]
  unfold execMapIntervalEnd
  rw [if_neg (by simp [up])]
  dsimp only
  rw [State.mapWords_eq, ← State.mapShown, cnt]

theorem State.collector_mapShown : s.mapShown.rf aMapCfg 31 16 = s.rf aMapCfg 31 16 :=
  congrArg (fld · 31 16) (State.reg_mapShown_ne (by decide))

theorem State.selfEid_mapShown : s.mapShown.selfEid = s.selfEid := congrArg (fld · 15 0) (State.reg_mapShown_ne (by decide))

theorem runs_mapIntervalEnd_alone (up : s.pwr.vinAon = true) (none : s.rf aMapCfg 31 16 = 0xFFFF ∨ s.selfEid = 0xFFFF) :
    Runs (.mapIntervalEnd) s (fun t =>
      (∀ i ∈ List.range 240, t.reg (aMap + 4 * i) = BitVec.ofNat 32 (field s.mapBytes (4 * i) 4)) ∧
      t.cnt = { s.cnt with mapSeq := (s.cnt.mapSeq + 1) % 2 ^ 32, occMax := [], pctMax := [] } ∧ t.mem = s.mem ∧
      t.sw = s.sw) := by
  have sent : s.mapShown.mapSend s.mapBytes = s.mapShown := by
    unfold State.mapSend
    dsimp only
    rw [State.collector_mapShown, State.selfEid_mapShown, if_pos none]
  refine .of (execMapIntervalEnd_eq up) ?_
  rw [sent]
  refine ⟨fun i hi => ?_, rfl, State.mapShown_mem, State.mapShown_sw⟩
  rw [State.reg_withCnt, State.reg_mapShown (List.mem_range.mp hi)]

theorem runs_mapIntervalEnd (up : s.pwr.vinAon = true) (collector : s.rf aMapCfg 31 16 ≠ 0xFFFF) (eid : s.selfEid ≠ 0xFFFF) :
    Runs (.mapIntervalEnd) s (fun t =>
      (∀ i ∈ List.range 240, t.reg (aMap + 4 * i) = BitVec.ofNat 32 (field s.mapBytes (4 * i) 4)) ∧
      t.cnt = { s.cnt with mapSeq := (s.cnt.mapSeq + 1) % 2 ^ 32, occMax := [], pctMax := [] } ∧ t.mem = s.mem ∧
      Sent t 0 (mkPkt (s.rf aMapCfg 31 16) s.selfEid 0x23 false false false 0 0 s.mapOp s.mapBytes)) := by
  have replaced : s.mapReplaced.selfEid = s.selfEid :=
    (congrArg (fld · 15 0) (State.reg_mapReplaced (by decide))).trans State.selfEid_mapShown
  have sender (q v : Nat) (l : List QPkt) : (s.mapShown.setInq q v l).selfEid = s.selfEid := by
    rw [State.selfEid, State.setInq_rf]
    exact State.selfEid_mapShown
  have op (q v : Nat) (l : List QPkt) : (s.mapShown.setInq q v l).mapOp = s.mapOp := by
    unfold State.mapOp
    rw [State.setInq_rf, State.setInq_host, State.setInq_cnt,
      show s.mapShown.rf aMapCfg 15 0 = s.rf aMapCfg 15 0 from congrArg (fld · 15 0) (State.reg_mapShown_ne (by decide)),
      State.mapShown_host, State.mapShown_cnt]
  have sent : s.mapShown.mapSend s.mapBytes = s.mapReplaced.emit plinthCluster
      (mkPkt (s.rf aMapCfg 31 16) s.selfEid 0x23 false false false 0 0 s.mapOp s.mapBytes) := by
    unfold State.mapSend
    dsimp only
    rw [State.collector_mapShown, State.selfEid_mapShown, if_neg (by simp [collector, eid])]
    rw [sender, op, ← State.mapReplaced]
  refine .of (execMapIntervalEnd_eq up) ?_
  rw [sent]
  refine ⟨fun i hi => ?_, rfl, ?_, sent_emit (replaced ▸ eid) _ _ _⟩
  · have away : aMap + 4 * i ≠ aMapErr := by unfold aMap aMapErr; omega
    rw [State.reg_withCnt, State.reg_emit, State.reg_mapReplaced away, State.reg_mapShown (List.mem_range.mp hi)]
  · rw [State.mem_withCnt, State.emit_mem, State.mapReplaced_mem]

end Maps

/-- Settles O47: a counter at its last value wraps, restarts or carries as its CFG says; a sample goes to HEAD while there
is room; and the map of an interval is shown and sent before the next begins. -/
theorem countersSamplesAndMaps : Obligations.CountersSamplesAndMaps := by
  unfold Obligations.CountersSamplesAndMaps
  intro s
  refine ⟨fun id k scope on held last => ⟨fun alone plain => runs_counterOverflow_wraps scope on held last alone plain,
      fun sampled period shuttle => ?_,
      fun chained room _ shared => runs_counterOverflow_carries scope on held last chained room shared⟩,
    fun x j time it h _ asked item unsealed head => ⟨fun room => runs_sampleCapture asked item unsealed head room,
      fun full => runs_sampleCapture_dropped asked item unsealed head full⟩,
    fun up collector eid => runs_mapIntervalEnd up collector eid,
    fun id k scope off => .of (execCounterOverflow_still scope off) rfl,
    fun up none => runs_mapIntervalEnd_alone up none,
    fun path via => ⟨fun id k scope held unsealed => ⟨fun v good => runs_counterCfgWrite via scope held unsealed good,
        fun v bad => runs_counterCfgWrite_refused via scope held unsealed bad⟩,
      fun id k scope held free => runs_counterRead via scope held free, fun v one => .of (if_pos ⟨via, one⟩) rfl,
      fun n v hn one => .of (if_pos ⟨hn, via, one⟩) rfl⟩⟩
  subst shuttle
  exact runs_counterOverflow_restarts scope on held last sampled period

end Sys2Proof.Machine
end

section
/-!
The safety inputs and the rack manager's word (R384, R385, R395, R396, R398): what the parts of a step of the treadle
leave of the safety inputs, and the descent that an input below G begins.
-/

-- Elaborated in turn, as the section of the refutations says.
set_option Elab.async false

namespace Sys2Proof.Machine

/-! ### What bounds the power, apart from the cap tools -/

/-- The registers that the safety inputs are formed of, and that of the alerts. -/
def boundRegs : List Nat := [aFallbk, aLeak, aAlert]

theorem notMem_boundRegs {a : Nat} (h : 0x600000 ≤ a) : a ∉ boundRegs := by
  simp only [boundRegs, List.mem_cons, List.not_mem_nil, or_false, aFallbk, aLeak, aAlert]
  omega

theorem settled_of_mem_boundRegs : ∀ a ∈ boundRegs, Settled a := by decide

/-- What the safety inputs are formed of. -/
def State.safetyParts (s : State) : Word × Word × Thermal × Nat × Bool × Bool :=
  (s.reg aFallbk, s.reg aLeak, s.thm, s.trd.leakCap, s.trd.supplyOn, s.trd.flowOn)

section Parts
variable {s t : State} (h : t.safetyParts = s.safetyParts)
include h

theorem State.fallbk_of_parts : t.reg aFallbk = s.reg aFallbk := congrArg (fun x => x.1) h
theorem State.leakCap_of_parts : t.trd.leakCap = s.trd.leakCap := congrArg (fun x => x.2.2.2.1) h

theorem State.supplyIn_of_parts : t.supplyIn = s.supplyIn := by
  unfold State.supplyIn State.rf
  rw [State.fallbk_of_parts h, show t.trd.supplyOn = s.trd.supplyOn from congrArg (fun x => x.2.2.2.2.1) h]

theorem State.flowIn_of_parts : t.flowIn = s.flowIn := by
  unfold State.flowIn State.rf
  rw [State.fallbk_of_parts h, show t.trd.flowOn = s.trd.flowOn from congrArg (fun x => x.2.2.2.2.2) h]

theorem State.heatIn_of_parts : t.heatIn = s.heatIn := by
  unfold State.heatIn State.coolHigh State.rf
  rw [State.fallbk_of_parts h, show t.reg aLeak = s.reg aLeak from congrArg (fun x => x.2.1) h,
    show t.thm = s.thm from congrArg (fun x => x.2.2.1) h]

theorem State.safetyIns_of_parts : t.safetyIns = s.safetyIns := by
  unfold State.safetyIns
  rw [State.supplyIn_of_parts h, State.flowIn_of_parts h, State.heatIn_of_parts h, State.leakCap_of_parts h]

theorem State.capEff_of_parts
    (others : (t.trd.rackIn, t.trd.hostIn, t.trd.holdCap) = (s.trd.rackIn, s.trd.hostIn, s.trd.holdCap)) :
    t.capEff = s.capEff := by
  unfold State.capEff State.capOthers State.thermIn
  rw [State.supplyIn_of_parts h, State.flowIn_of_parts h, State.heatIn_of_parts h, State.leakCap_of_parts h,
    show t.trd.rackIn = s.trd.rackIn from congrArg (fun x => x.1) others,
    show t.trd.hostIn = s.trd.hostIn from congrArg (fun x => x.2.1) others,
    show t.trd.holdCap = s.trd.holdCap from congrArg (fun x => x.2.2) others]

end Parts

/-- What the caps are formed of, and what a step shows of a descent: the registers of the fallback percentages, of the
leak and of the alerts, the thermal record, the last frame on the isolated link, the clock, and the treadle but for its
tools. -/
def State.bounds (s : State) : (Word × Word × Word) × Thermal × List Byte × Nat × Treadle :=
  ((s.reg aFallbk, s.reg aLeak, s.reg aAlert), s.thm, s.pwr.isoTx, s.aon,
    { s.trd with notch := [], throttle := [], dispatchHold := 0 })

section Bounds
variable {s t : State}

theorem State.bounds_of (regs : ∀ a ∈ boundRegs, t.reg a = s.reg a) (thm : t.thm = s.thm)
    (iso : t.pwr.isoTx = s.pwr.isoTx) (aon : t.aon = s.aon)
    (trd : ({ t.trd with notch := [], throttle := [], dispatchHold := 0 } : Treadle) =
      { s.trd with notch := [], throttle := [], dispatchHold := 0 }) : t.bounds = s.bounds := by
  unfold State.bounds
  rw [regs _ (by decide), regs _ (by decide), regs _ (by decide), thm, iso, aon, trd]

section Read
variable (h : t.bounds = s.bounds)
include h

theorem State.alert_of_bounds : t.reg aAlert = s.reg aAlert := congrArg (fun x => x.1.2.2) h
theorem State.isoTx_of_bounds : t.pwr.isoTx = s.pwr.isoTx := congrArg (fun x => x.2.2.1) h
theorem State.aon_of_bounds : t.aon = s.aon := congrArg (fun x => x.2.2.2.1) h

/-- A part of the treadle that its tools do not take part in. -/
theorem State.trd_of_bounds {β : Type} (f : Treadle → β)
    (tools : ∀ x : Treadle, f { x with notch := [], throttle := [], dispatchHold := 0 } = f x) : f t.trd = f s.trd := by
  rw [← tools t.trd, ← tools s.trd]
  exact congrArg (fun x => f x.2.2.2.2) h

theorem State.safety_of_bounds : t.safetyParts = s.safetyParts := by
  unfold State.safetyParts
  rw [show t.reg aFallbk = s.reg aFallbk from congrArg (fun x => x.1.1) h,
    show t.reg aLeak = s.reg aLeak from congrArg (fun x => x.1.2.1) h, show t.thm = s.thm from congrArg (fun x => x.2.1) h,
    State.trd_of_bounds h (fun x => (x.leakCap, x.supplyOn, x.flowOn)) fun _ => rfl]

theorem State.capEff_of_bounds : t.capEff = s.capEff :=
  State.capEff_of_parts (State.safety_of_bounds h)
    (State.trd_of_bounds h (fun x => (x.rackIn, x.hostIn, x.holdCap)) fun _ => rfl)

end Read

variable (s)

/-! ### Operations that leave them -/

theorem State.setReg_bounds {a : Nat} {v : Word} (h : a ∉ boundRegs) : (s.setReg a v).bounds = s.bounds :=
  State.bounds_of (fun _ hi => s.reg_setReg_ne _ fun e => h (e ▸ hi)) rfl rfl rfl rfl

theorem State.setRf_bounds {a hi lo v : Nat} (h : a ∉ boundRegs) : (s.setRf a hi lo v).bounds = s.bounds :=
  s.setReg_bounds h

theorem State.bump_bounds {a hi lo n : Nat} (h : a ∉ boundRegs) : (s.bump a hi lo n).bounds = s.bounds :=
  s.setReg_bounds h

theorem State.setCtr_bounds {a v : Nat} (h : 0x600200 ≤ a) : (s.setCtr a v).bounds = s.bounds :=
  (State.setRf_bounds _ (notMem_boundRegs (by omega))).trans (s.setReg_bounds (notMem_boundRegs (by omega)))

/-- A counter stands apart, and so does each that it carries into. -/
theorem State.ctrAdd_bounds (n : Nat) {a v : Nat} (h : 0x600200 ≤ a) : (State.ctrAdd n s a v).bounds = s.bounds := by
  have past (t : State) {a v : Nat} (h : 0x600200 ≤ a) : (t.ctrOverflow a v).1.bounds = t.bounds := by
    have out : a + 8 ∉ boundRegs := notMem_boundRegs (by omega)
    unfold State.ctrOverflow
    split
    · exact t.setCtr_bounds h
    · split <;> exact (State.setRf_bounds _ out).trans (t.setCtr_bounds h)
  induction n generalizing s a v with
  | zero => rfl
  | succ n ih =>
    unfold State.ctrAdd
    dsimp only
    split
    · exact s.setCtr_bounds h
    · split
      · exact (ih _ (by omega)).trans (past s h)
      · exact past s h

theorem State.evDev_bounds (code n : Nat) : (s.evDev code n).bounds = s.bounds := by
  unfold State.evDev State.ctrBank
  split
  · rfl
  · refine foldl_read State.bounds (fun t j => ?_) _ _
    split
    · exact t.ctrAdd_bounds _ (by unfold aCntDev; omega)
    · rfl

theorem State.shuTick_bounds : s.shuTick.bounds = s.bounds := by
  unfold State.shuTick
  refine foldl_read State.bounds (fun t sh => foldl_read State.bounds (fun t j => ?_) _ _) _ _
  split
  · exact t.ctrAdd_bounds _ (by unfold aShuCnt aC; omega)
  · rfl

theorem State.withCnt_bounds (x : Cnt) : ({ s with cnt := x } : State).bounds = s.bounds := rfl

theorem State.mapSample_bounds : s.mapSample.bounds = s.bounds := by
  unfold State.mapSample
  refine (foldl_read State.bounds (fun t c => t.withCnt_bounds _) _ _).trans (foldl_read State.bounds (fun t p => ?_) _ _)
  split
  · rfl
  · exact foldl_read State.bounds (fun t v => t.withCnt_bounds _) _ _

theorem State.updPort_bounds (p : Nat) (f : Port → Port) : (s.updPort p f).bounds = s.bounds := rfl

theorem State.paceSend_bounds (p mask rate : Nat) : (s.paceSend p mask rate).bounds = s.bounds := by
  unfold State.paceSend
  split
  · exact s.updPort_bounds _ _
  · rfl

theorem State.setPace_bounds (p : Nat) (f : Port → Port) : (s.setPace p f).bounds = s.bounds := by
  unfold State.setPace
  exact (foldl_read State.bounds (fun t r => t.paceSend_bounds _ _ _) _ _).trans (s.updPort_bounds p f)

theorem State.withTools_bounds (n k : Tab Nat) (d : Nat) :
    ({ s with trd := { s.trd with notch := n, throttle := k, dispatchHold := d } } : State).bounds = s.bounds := rfl

/-- The cap tools write the tools of the treadle and the rates of ports. -/
theorem State.setThrottle_bounds (c f : Nat) : (s.setThrottle c f).bounds = s.bounds := by
  unfold State.setThrottle
  refine (foldl_read State.bounds (fun t p => ?_) _ _).trans (s.withTools_bounds _ _ _)
  split
  · exact t.setPace_bounds _ _
  · rfl

theorem State.toolsUp_bounds (c : Nat) : (s.toolsUp c).bounds = s.bounds := by
  unfold State.toolsUp State.draw
  exact (State.setThrottle_bounds _ _ _).trans ((State.withTools_bounds _ _ _ _).trans (State.withTools_bounds _ _ _ _))

theorem State.toolsDown_bounds (c : Nat) : (s.toolsDown c).bounds = s.bounds := by
  unfold State.toolsDown
  split
  · exact s.setThrottle_bounds _ _
  · split
    · exact s.withTools_bounds _ _ _
    · split
      · exact s.withTools_bounds _ _ _
      · rfl

theorem State.tools_bounds (isOver : Bool) : (s.tools isOver).bounds = s.bounds := by
  unfold State.tools
  refine foldl_read State.bounds (fun t c => ?_) _ _
  split
  · exact t.toolsUp_bounds c
  · split
    · rfl
    · exact t.toolsDown_bounds c

theorem State.wake_bounds (d : Nat) : (s.wake d).bounds = s.bounds := by
  unfold State.wake
  dsimp only
  split
  · rfl
  · rfl
  · rfl
  · split <;> rfl

theorem State.shuExits_bounds : s.shuExits.bounds = s.bounds := by
  unfold State.shuExits
  refine foldl_read State.bounds (fun t c => ?_) _ _
  split
  · exact t.wake_bounds _
  · rfl

theorem State.event_bounds (code st : Nat) (l : List Byte) : (s.event code st l).bounds = s.bounds := by
  refine State.bounds_of (fun a ha => s.reg_event_settled _ _ _ (settled_of_mem_boundRegs a ha)) (s.event_thm _ _ _) ?_
    (s.event_aon _ _ _) ?_
  · rw [State.event_pwr]
  · rw [State.event_trd]

theorem State.trdShow_bounds (old : State) : (s.trdShow old).bounds = s.bounds := by
  unfold State.trdShow
  extract_lets s1 s2
  have shown : s2.bounds = s.bounds := (s1.setReg_bounds (by decide)).trans (s.setReg_bounds (by decide))
  split
  · exact shown
  · exact (s2.event_bounds _ _ _).trans shown

end Bounds

/-! ### The descent (R396) -/

section Descent
variable {s : State}

/-- The first of pairs that none of the others is below. -/
theorem lowestOf_head {x : Nat × Nat} {l : List (Nat × Nat)} (h : ∀ y ∈ l, x.2 ≤ y.2) : lowestOf (x :: l) = some x := by
  have among : ∀ (l : List (Nat × Nat)) (y : Nat × Nat), lowestOf l = some y → y ∈ l := by
    intro l
    induction l with
    | nil => intro y hy; cases hy
    | cons z r ih =>
      intro y hy
      rw [lowestOf] at hy
      split at hy
      next found =>
        split at hy <;> cases hy
        · exact List.mem_cons_self
        · exact List.mem_cons_of_mem _ (ih _ found)
      next => cases hy; exact List.mem_cons_self
  rw [lowestOf]
  split
  next y found => rw [if_pos (h y (among l y found))]
  next => rfl

/-- The state with the safety inputs noted as seen, and the descent under way. -/
def State.descending (s : State) : State :=
  { s with trd := { s.trd with seen := s.safetyIns.map Prod.snd, descent := true } }

/-- A supply alert that fell below G, and below the other inputs, begins a descent that names it. -/
theorem State.descend_supply (fell : s.supplyIn < s.trd.seen.headD 0) (below : s.supplyIn < s.trd.g)
    (lowest : ∀ e ∈ s.safetyIns, s.supplyIn ≤ e.2) : s.descend = s.descending.descentFrame 4 := by
  obtain ⟨y, r, seen, fell⟩ : ∃ y r, s.trd.seen = y :: r ∧ s.supplyIn < y := by
    cases e : s.trd.seen with
    | nil => rw [e] at fell; exact absurd fell (Nat.not_lt_zero _)
    | cons y r => rw [e] at fell; exact ⟨y, r, rfl, fell⟩
  let others := ([(3, s.flowIn), (2, 100 * s.trd.leakCap), (1, s.heatIn)].zip r).filter
    (fun e => decide (e.1.2 < e.2) && decide (e.1.2 < s.trd.g))
  have fallen : (s.safetyIns.zip s.trd.seen).filter (fun e => decide (e.1.2 < e.2) && decide (e.1.2 < s.trd.g)) =
      ((4, s.supplyIn), y) :: others := by
    rw [seen, State.safetyIns, List.zip_cons_cons, List.filter_cons_of_pos (by simp [fell, below])]
  have named : lowestOf ((((4, s.supplyIn), y) :: others).map Prod.fst) = some (4, s.supplyIn) := by
    rw [List.map_cons]
    refine lowestOf_head fun y hy => lowest _ ?_
    obtain ⟨e, he, rfl⟩ := List.mem_map.mp hy
    exact List.mem_cons_of_mem _ (List.of_mem_zip (List.mem_of_mem_filter he)).1
  unfold State.descend
  dsimp only
  rw [fallen, named]
  rfl

/-- The frame of a descent: its type, and its cause. -/
theorem State.descentFrame_isoTx (up : s.sideband = true) {cause : Nat} (h : cause < 256) :
    byteAt (s.descentFrame cause).pwr.isoTx 1 = 2 ∧ byteAt (s.descentFrame cause).pwr.isoTx 4 = cause := by
  unfold State.descentFrame
  rw [State.isoSend_up up]
  refine ⟨rfl, ?_⟩
  exact (BitVec.toNat_ofNat _ _).trans (Nat.mod_eq_of_lt h)

theorem State.descentFrame_trd (cause : Nat) : (s.descentFrame cause).trd = s.trd ∧ (s.descentFrame cause).regs = s.regs ∧
    (s.descentFrame cause).thm = s.thm ∧ (s.descentFrame cause).aon = s.aon := by
  unfold State.descentFrame State.isoSend
  split <;> exact ⟨rfl, rfl, rfl, rfl⟩

end Descent

/-! ### The parts of a step (R380, R386) -/

section Step
variable (s : State)

/-- The state when 10 µs have gone by and their occupancies are noted: what counters do not touch is as before. -/
theorem State.tick_read {β : Type} (g : State → β)
    (ctr : ∀ n t a v, 0x600200 ≤ a → g (State.ctrAdd n t a v) = g t) (cnt : ∀ (t : State) x, g { t with cnt := x } = g t)
    (trim : ∀ t : State, g (t.setRf aClk 2 2 0) = g t) :
    g ((s.aonTick 960).shuTick).mapSample = g { s with aon := s.aon + 960 } := by
  have sampled (t : State) : g t.mapSample = g t := by
    unfold State.mapSample
    refine (foldl_read g (fun t c => cnt t _) _ _).trans (foldl_read g (fun t p => ?_) _ _)
    split
    · rfl
    · exact foldl_read g (fun t v => cnt t _) _ _
  have shuttles (t : State) : g t.shuTick = g t := by
    unfold State.shuTick
    refine foldl_read g (fun t sh => foldl_read g (fun t j => ?_) _ _) _ _
    split
    · exact ctr _ _ _ _ (by unfold aShuCnt aC; omega)
    · rfl
  rw [sampled, shuttles, State.aonTick, foldl_read g, State.trimAge]
  · split
    · exact trim _
    · rfl
  · intro t j
    split
    · exact ctr _ _ _ _ (by unfold aCntDev; omega)
    · rfl

theorem State.trdForm_trd : s.trdForm.trd = { s.trd with
    capNow := s.capEff, floorNow := s.floorEff,
    steadyFor := if s.capEff = s.trd.capNow then min 10000 (s.trd.steadyFor + 1) else 0 } := by
  unfold State.trdForm State.hostEval
  dsimp only
  split <;> rfl

theorem State.trdForm_bounds : s.trdForm.bounds = ({ s with trd := s.trdForm.trd } : State).bounds := by
  rw [State.trdForm_trd]
  unfold State.trdForm State.hostEval
  dsimp only
  split
  · exact (State.setReg_bounds _ (by decide)).trans (State.setReg_bounds _ (by decide))
  · exact State.setReg_bounds _ (by decide)

theorem State.trdForm_pwr : s.trdForm.pwr = s.pwr := by
  unfold State.trdForm State.hostEval
  dsimp only
  split <;> rfl

theorem State.capEff_le_supplyIn : s.capEff ≤ s.supplyIn := by
  unfold State.capEff State.capOthers
  omega

theorem State.nextG_le (d : Nat) : s.nextG d ≤ s.trd.capNow := Nat.min_le_left _ _

/-- Bit 1 of the alerts stands while the supply alert does. -/
theorem fld_alertBits (on : s.trd.supplyOn = true) (w : Word) : fld (w ||| BitVec.ofNat 32 s.alertBits) 1 1 = 1 := by
  have bit1 : s.alertBits.testBit 1 = true := by
    have (b : Bool) : b2n b < 2 := by cases b <;> decide
    have heat := this (decide (s.thermIn < 120000))
    rw [Nat.testBit_succ, Nat.testBit_zero, State.alertBits, on, decide_eq_true_eq, show b2n true = 1 from rfl]
    omega
  have low : (BitVec.ofNat 32 s.alertBits).toNat.testBit 1 = true := by
    rw [BitVec.toNat_ofNat, Nat.testBit_mod_two_pow, bit1]
    rfl
  have set : (w ||| BitVec.ofNat 32 s.alertBits).toNat.testBit 1 = true := by
    rw [BitVec.toNat_or, Nat.testBit_or, low, Bool.or_true]
  rw [Nat.testBit_succ, Nat.testBit_zero, decide_eq_true_eq] at set
  exact set

/-- The state at which a step's descent is judged: its samples are noted, and its caps are formed. -/
def State.stepFormed (s : State) (pkg : Nat) (dom : List Nat) : State :=
  ({ s with trd := { s.trd with
    pkgHist := (pkg :: s.trd.pkgHist).take 100000
    domHist := (List.range 52).foldl (fun t d =>
      tabSet (fun _ => []) t d ((dom.getD d 0 :: tabGet (fun _ => []) t d).take 100000)) s.trd.domHist } } : State).trdInputs.trdForm

theorem State.stepFormed_parts (pkg : Nat) (dom : List Nat) :
    (s.stepFormed pkg dom).safetyParts = s.safetyParts ∧ (s.stepFormed pkg dom).trd.g = s.trd.g ∧
      (s.stepFormed pkg dom).trd.seen = s.trd.seen ∧ (s.stepFormed pkg dom).aon = s.aon ∧
      (s.stepFormed pkg dom).sideband = s.sideband ∧ (s.stepFormed pkg dom).trd.capNow = (s.stepFormed pkg dom).capEff := by
  unfold State.stepFormed
  generalize hu : State.trdInputs _ = u
  have parts : u.safetyParts = s.safetyParts := by rw [← hu]; rfl
  have formed := u.trdForm_bounds
  refine ⟨?_, ?_, ?_, ?_, ?_, ?_⟩
  · rw [State.safety_of_bounds formed, ← parts, State.trdForm_trd]
    rfl
  · rw [State.trdForm_trd, ← hu]
    rfl
  · rw [State.trdForm_trd, ← hu]
    rfl
  · rw [State.aon_of_bounds formed, ← hu]
    rfl
  · unfold State.sideband
    rw [State.trdForm_pwr, ← hu]
    rfl
  · rw [State.capEff_of_bounds formed, State.trdForm_trd]
    rfl

/-- The rest of a step, once its descent is judged. -/
def State.stepGoverned (s old : State) (pkg : Nat) : State :=
  let d := pkg - s.trd.ballast
  let g0 := s.trd.g
  let g1 := s.nextG d
  let rise := g1 < d ∧ d ≤ s.trd.capNow
  let g := if rise then d else g1
  let s := if rise then (s.bump aTrdErr 31 16 1).evDev 0x89 1 else s
  let isOver := decide (g < d)
  let bal := if g ≤ d ∨ !s.ballastUp then 0 else g - d
  let s := if d + bal < g ∨ s.dnSlew < g0 - g then s.bump aTrdErr 7 1 1 else s
  let s := if isOver then s.evDev 0x88 1 else s
  let s := { s with trd := { s.trd with
    g := g, ballast := bal, overG := isOver, short := !s.ballastUp && decide (d < s.trd.floorNow)
    descent := s.trd.descent && decide (s.trd.capNow < sumNat (s.trd.pkgHist.take 10) / max 1 (s.trd.pkgHist.take 10).length) } }
  let s := s.tools isOver
  let s := if isOver then s else s.shuExits
  let s := s.setReg aAlert (s.reg aAlert ||| BitVec.ofNat 32 s.alertBits)
  s.trdShow old

theorem State.trdStep_eq (pkg : Nat) (dom : List Nat) :
    s.trdStep pkg dom = (s.stepFormed pkg dom).descend.stepGoverned s pkg := by
  unfold State.trdStep State.stepGoverned State.stepFormed
  rfl

/-- The governed level stays within the cap; the caps, the clock and the frame that was sent stay as they were judged; and
the supply alert shows. -/
theorem State.stepGoverned_spec (old : State) (pkg : Nat) (on : s.trd.supplyOn = true) :
    let t := s.stepGoverned old pkg
    t.trd.capNow = s.trd.capNow ∧ t.capEff = s.capEff ∧ t.supplyIn = s.supplyIn ∧ t.trd.g ≤ s.trd.capNow ∧
      t.rf aAlert 1 1 = 1 ∧ t.pwr.isoTx = s.pwr.isoTx ∧ t.aon = s.aon := by
  unfold State.stepGoverned
  extract_lets d g0 g1 rise g s1 isOver bal s2 s3 _ s4 s5 s6 s7 t
  have b1 : s1.bounds = s.bounds := by
    unfold s1
    split
    · exact (State.evDev_bounds _ _ _).trans (s.bump_bounds (by decide))
    · rfl
  have b2 : s2.bounds = s.bounds := by
    unfold s2
    split
    · exact (s1.bump_bounds (by decide)).trans b1
    · exact b1
  have b3 : s3.bounds = s.bounds := by
    unfold s3
    split
    · exact (s2.evDev_bounds _ _).trans b2
    · exact b2
  have b6 : s6.bounds = s4.bounds := by
    unfold s6
    split
    · exact s4.tools_bounds _
    · exact (State.shuExits_bounds _).trans (s4.tools_bounds _)
  have low : g ≤ s.trd.capNow := by
    unfold g
    split
    next h => exact h.2
    next => exact s.nextG_le d
  have parts4 : s4.safetyParts = s.safetyParts := Eq.trans (b := s3.safetyParts) rfl (State.safety_of_bounds b3)
  have caps (u : State) (regs : ∀ a ∈ [aFallbk, aLeak], u.reg a = s6.reg a) (thm : u.thm = s6.thm) (trd : u.trd = s6.trd) :
      u.safetyParts = s6.safetyParts := by
    unfold State.safetyParts
    rw [regs _ (by decide), regs _ (by decide), thm, trd]
  have shown : t.bounds = s7.bounds := s7.trdShow_bounds old
  have parts7 : s7.safetyParts = s6.safetyParts :=
    caps s7 (fun a ha => s6.reg_setReg_ne _ fun e => absurd (e ▸ ha) (by decide)) rfl rfl
  have parts : t.safetyParts = s.safetyParts :=
    (State.safety_of_bounds shown).trans (parts7.trans ((State.safety_of_bounds b6).trans parts4))
  have trd {β : Type} (f : Treadle → β) (tools : ∀ x : Treadle, f { x with notch := [], throttle := [], dispatchHold := 0 } = f x) :
      f t.trd = f s4.trd := (State.trd_of_bounds shown f tools).trans (State.trd_of_bounds b6 f tools)
  refine ⟨?_, ?_, State.supplyIn_of_parts parts, ?_, ?_, ?_, ?_⟩
  · exact (trd (·.capNow) fun _ => rfl).trans (State.trd_of_bounds b3 (·.capNow) fun _ => rfl)
  · refine State.capEff_of_parts parts ((trd (fun x => (x.rackIn, x.hostIn, x.holdCap)) fun _ => rfl).trans ?_)
    exact State.trd_of_bounds b3 (fun x => (x.rackIn, x.hostIn, x.holdCap)) fun _ => rfl
  · rw [trd (·.g) fun _ => rfl]
    exact low
  · have on6 : s6.trd.supplyOn = true :=
      (State.trd_of_bounds b6 (·.supplyOn) fun _ => rfl).trans ((State.trd_of_bounds b3 (·.supplyOn) fun _ => rfl).trans on)
    rw [State.rf, State.alert_of_bounds shown, State.reg_setReg_same]
    exact fld_alertBits s6 on6 _
  · rw [State.isoTx_of_bounds shown]
    exact (State.isoTx_of_bounds b6).trans (Eq.trans (b := s3.pwr.isoTx) rfl (State.isoTx_of_bounds b3))
  · rw [State.aon_of_bounds shown]
    exact (State.aon_of_bounds b6).trans (Eq.trans (b := s3.aon) rfl (State.aon_of_bounds b3))

end Step

/-! ### The commands -/

section Commands
variable {s : State}

theorem State.supplyOn_of_fell (u : State) : u.safetyParts = s.safetyParts → u.trd.supplyOn = s.trd.supplyOn :=
  fun h => congrArg (fun x => x.2.2.2.2.1) h

theorem runs_treadleStep_supply (pkg : Nat) (dom : List Nat) (up : s.sideband = true) (running : s.trdDown = false)
    (on : s.trd.supplyOn = true) (fell : s.supplyIn < s.trd.seen.headD 0) (below : s.supplyIn < s.trd.g)
    (lowest : ∀ e ∈ s.safetyIns, s.supplyIn ≤ e.2) :
    Runs (.treadleStep pkg dom) s (fun t => t.trd.capNow = t.capEff ∧ t.trd.g ≤ t.supplyIn ∧
      t.rf aAlert 1 1 = 1 ∧ byteAt t.pwr.isoTx 1 = 2 ∧ byteAt t.pwr.isoTx 4 = 4 ∧ t.aon = s.aon + 960) := by
  obtain ⟨u, hu⟩ : ∃ u, u = ((s.aonTick 960).shuTick).mapSample := ⟨_, rfl⟩
  have ticked : u.bounds = ({ s with aon := s.aon + 960 } : State).bounds := by
    rw [hu]
    exact s.tick_read State.bounds (fun n t a v h => t.ctrAdd_bounds n h) (fun t x => t.withCnt_bounds x)
      fun t => t.setRf_bounds (by decide)
  have pwr : u.pwr = s.pwr := by
    rw [hu]
    exact s.tick_read State.pwr (fun n t a v _ => t.ctrAdd_pwr n a v) (fun _ _ => rfl) fun _ => rfl
  have fw : u.fw = s.fw := by
    rw [hu]
    exact s.tick_read State.fw (fun n t a v _ => t.ctrAdd_fw n a v) (fun _ _ => rfl) fun _ => rfl
  have vin : s.pwr.vinAon = true := ((Bool.and_eq_true_iff ..).mp up).1
  have run : execTreadleStep pkg dom s = .next ((u.stepFormed pkg dom).descend.stepGoverned u pkg) := by
    unfold execTreadleStep
    rw [if_neg (by simp [vin]), ← hu]
    dsimp only
    rw [if_neg (by simp [State.trdDown, fw] at running ⊢; exact running), State.trdStep_eq]
  obtain ⟨parts, g, seen, aon, sideband, cap⟩ := u.stepFormed_parts pkg dom
  generalize u.stepFormed pkg dom = f at run parts g seen aon sideband cap
  have same : f.safetyParts = s.safetyParts := parts.trans ((State.safety_of_bounds ticked).trans rfl)
  have supply : f.supplyIn = s.supplyIn := State.supplyIn_of_parts same
  have descends : f.descend = f.descending.descentFrame 4 := by
    refine State.descend_supply ?_ ?_ ?_
    · rw [supply, seen, State.trd_of_bounds ticked (·.seen) fun _ => rfl]
      exact fell
    · rw [supply, g, State.trd_of_bounds ticked (·.g) fun _ => rfl]
      exact below
    · rw [supply, State.safetyIns_of_parts same]
      exact lowest
  obtain ⟨trd, regs, thm, clock⟩ := f.descending.descentFrame_trd 4
  obtain ⟨typ, cause⟩ := State.descentFrame_isoTx (s := f.descending) (cause := 4)
    (show f.sideband = true by rw [sideband, State.sideband, pwr]; exact up) (by decide)
  rw [descends] at run
  have framed : (f.descending.descentFrame 4).safetyParts = f.safetyParts := by
    unfold State.safetyParts State.reg
    rw [trd, regs, thm]
    rfl
  obtain ⟨capNow, capEff, supplyIn, level, alert, iso, after⟩ :=
    (f.descending.descentFrame 4).stepGoverned_spec u pkg (by rw [trd]; exact (State.supplyOn_of_fell f same).trans on)
  have eff : (f.descending.descentFrame 4).capEff = f.capEff := State.capEff_of_parts framed (by rw [trd]; rfl)
  have now : (f.descending.descentFrame 4).trd.capNow = f.capEff := by rw [trd]; exact cap
  refine .of run ⟨?_, ?_, alert, ?_, ?_, ?_⟩
  · rw [capNow, capEff, eff, now]
  · rw [supplyIn, State.supplyIn_of_parts framed]
    exact (level.trans_eq now).trans f.capEff_le_supplyIn
  · rw [iso, typ]
  · rw [iso, cause]
  · rw [after, clock]
    exact aon.trans (State.aon_of_bounds ticked)

theorem State.safety_running (t : State) (running : t.trdDown = false) : t.safety = t := if_neg (by simp [running])

theorem runs_supplyAlertAssert (up : s.sideband = true) (running : s.trdDown = false) :
    Runs (.supplyAlertAssert) s (fun t => t.trd.supplyOn = true ∧ t.emergency = true ∧ t.trd.g = s.trd.g ∧
      t.regs = s.regs) := by
  refine .of ((if_pos up).trans (congrArg Host.Outcome.next (State.safety_running _ running))) ⟨rfl, ?_, rfl, rfl⟩
  simp [State.emergency]

theorem runs_flowAlert (up : s.sideband = true) (running : s.trdDown = false) :
    Runs (.flowAlert) s (fun t => t.trd.flowOn = true ∧ t.emergency = true ∧ t.trd.g = s.trd.g ∧ t.regs = s.regs) := by
  refine .of ((if_pos up).trans (congrArg Host.Outcome.next (State.safety_running _ running))) ⟨rfl, ?_, rfl, rfl⟩
  simp [State.emergency]

/-- The rack manager's word comes over I3C while the supplies of AON and of the contacts stand. -/
theorem execCapWordWrite_i3c (v : Word) (aon : s.pwr.vinAon = true) (io : s.pwr.vinIo = true) :
    execCapWordWrite .i3c v s = .next (s.capWord v).2 := if_pos ⟨rfl, by simp [State.pathAny, aon, io]⟩

theorem runs_capWordWrite {v : Word} (aon : s.pwr.vinAon = true) (io : s.pwr.vinIo = true)
    (check : fld v 31 16 = 65535 - fld v 15 0) (lo : 150 ≤ fld v 15 0) (hi : fld v 15 0 ≤ 1200) :
    Runs (.capWordWrite .i3c v) s (fun t => t.reg aCapRack = v ∧ t.trd.rackIn = 100 * fld v 15 0 ∧ t.trd.mode = 0) := by
  obtain ⟨u, hu⟩ : ∃ u, u = (s.setReg aCapRack v).mirrorTrd := ⟨_, rfl⟩
  have word : s.capWord v = (true, ({ u with trd := { u.trd with
      rackIn := 100 * fld v 15 0, mode := 0, holdCap := none } } : State).trdShow s) := by
    unfold State.capWord
    dsimp only
    rw [if_pos ⟨check, lo, hi⟩, hu]
  refine .of ((execCapWordWrite_i3c v aon io).trans (by rw [word])) ⟨?_, ?_, ?_⟩
  · rw [State.reg_trdShow _ _ (by decide)]
    show u.reg aCapRack = v
    rw [hu, State.reg_mirrorTrd, State.reg_setReg_same]
  · rw [State.trdShow_trd]
  · rw [State.trdShow_trd]

theorem runs_capWordWrite_bad {v : Word} (aon : s.pwr.vinAon = true) (io : s.pwr.vinIo = true)
    (check : fld v 31 16 ≠ 65535 - fld v 15 0) :
    Runs (.capWordWrite .i3c v) s (fun t => t = s.bump aTrdErr 15 8 1) := by
  refine .of ((execCapWordWrite_i3c v aon io).trans (congrArg Host.Outcome.next ?_)) rfl
  unfold State.capWord
  dsimp only
  rw [if_neg fun h => check h.1]

theorem runs_capHoldExpire (normal : s.trd.mode = 0) :
    Runs (.capHoldExpire) s (fun t => t.trd.mode = 1 ∧ t.trd.holdCap = some s.trd.capNow ∧ t.rf aAlert 4 4 = 1) := by
  refine .of (if_pos normal) ⟨?_, ?_, ?_⟩
  · rw [State.trdShow_trd]
    rfl
  · rw [State.trdShow_trd]
    rfl
  · rw [State.rf_trdShow _ _ _ _ (by decide)]
    exact State.rf_setRf_same _ _ _ _ _ (by decide)

theorem runs_capFallbackExpire (hold : s.trd.mode = 1) :
    Runs (.capFallbackExpire) s (fun t => t.trd.mode = 2 ∧ t.trd.rackIn = s.trd.rackIn) := by
  refine .of (if_pos hold) ⟨?_, ?_⟩ <;> rw [State.trdShow_trd]

end Commands

/-- Settles O10: an alert is latched as it comes; the step that finds it below G forms the caps of it, begins the descent
that names it, and takes G to the cap; and the rack manager's word and its silence move the modes. -/
theorem safetyInputsBoundThePower : Obligations.SafetyInputsBoundThePower := by
  unfold Obligations.SafetyInputsBoundThePower
  intro s
  exact ⟨fun up running => ⟨runs_supplyAlertAssert up running, .of (if_pos up) ⟨rfl, rfl, rfl⟩, runs_flowAlert up running,
      .of (if_pos up) ⟨rfl, rfl, rfl⟩,
      fun pkg dom on fell below lowest => runs_treadleStep_supply pkg dom up running on fell below lowest⟩,
    fun _ aon io check lo hi => runs_capWordWrite aon io check lo hi, runs_capHoldExpire, runs_capFallbackExpire,
    fun _ aon io check => runs_capWordWrite_bad aon io check⟩

end Sys2Proof.Machine
end

section
/-!
The thermal ladder and the trip (R414 to R419): what leaves the registers of sensors, zones and the trip, how a reading
raises its zone, and what a rung and a trip come to.
-/

-- Elaborated in turn, as the section of the refutations says.
set_option Elab.async false

namespace Sys2Proof.Machine

/-! ### The registers of chapter 15 -/

/-- The block of the sensors, the zones, the trip and the coolant. -/
def thermal (a : Nat) : Bool := decide (0x00300000 ≤ a) && decide (a < 0x00400000)

theorem thermal_iff {a : Nat} : thermal a = true ↔ 0x00300000 ≤ a ∧ a < 0x00400000 := by simp [thermal]

theorem thermal_low {a : Nat} (h : a < 0x00300000) : thermal a = false := by
  rw [← Bool.not_eq_true, thermal_iff]
  omega

theorem thermal_high {a : Nat} (h : 0x00400000 ≤ a) : thermal a = false := by
  rw [← Bool.not_eq_true, thermal_iff]
  omega

/-- What stands in the block. -/
def State.thermals (s : State) (a : Nat) : Word := if thermal a then s.reg a else 0

section Read
variable {s t : State}

theorem State.thermals_of_reg (h : ∀ a, thermal a = true → t.reg a = s.reg a) : t.thermals = s.thermals := by
  funext a
  unfold State.thermals
  split
  next k => exact h a k
  next => rfl

theorem State.thermals_of_regs (h : t.regs = s.regs) : t.thermals = s.thermals :=
  State.thermals_of_reg fun a _ => by rw [State.reg, h]; rfl

theorem State.reg_of_thermals (h : t.thermals = s.thermals) {a : Nat} (k : thermal a = true) : t.reg a = s.reg a := by
  simpa only [State.thermals, k, if_true] using congrFun h a

theorem State.rf_of_thermals (h : t.thermals = s.thermals) {a : Nat} (k : thermal a = true) (hi lo : Nat) :
    t.rf a hi lo = s.rf a hi lo := congrArg (fld · hi lo) (State.reg_of_thermals h k)

end Read

/-! ### Registers and events -/

section Updates
variable (s : State)

theorem State.setReg_thermals {a : Nat} {v : Word} (h : thermal a = false) : (s.setReg a v).thermals = s.thermals :=
  State.thermals_of_reg fun i k => s.reg_setReg_ne v fun e => by rw [e, h] at k; cases k

theorem State.setRf_thermals {a hi lo v : Nat} (h : thermal a = false) : (s.setRf a hi lo v).thermals = s.thermals :=
  s.setReg_thermals h

theorem State.bump_thermals {a hi lo n : Nat} (h : thermal a = false) : (s.bump a hi lo n).thermals = s.thermals :=
  s.setReg_thermals h

theorem State.clearRegs_thermals {f : Nat → Bool} (h : ∀ a, f a = true → thermal a = false) :
    (s.clearRegs f).thermals = s.thermals := by
  refine State.thermals_of_reg fun a k => ?_
  rw [State.reg_clearRegs, if_neg]
  intro e
  rw [h a e] at k
  cases k

@[simp] theorem State.event_thermals (code st : Nat) (l : List Byte) : (s.event code st l).thermals = s.thermals := by
  refine State.thermals_of_reg fun a k => ?_
  rw [thermal_iff] at k
  exact s.reg_event _ _ _ (by omega) (by unfold aLogHead; omega) (by unfold aLogLost; omega)

@[simp] theorem State.emit_thermals (c : Nat) (p : Pkt) : (s.emit c p).thermals = s.thermals :=
  State.thermals_of_regs (s.emit_regs _ _)

@[simp] theorem State.wake_thermals (d : Nat) : (s.wake d).thermals = s.thermals :=
  State.thermals_of_regs (s.wake_regs d)

theorem State.updPort_thermals (p : Nat) (f : Port → Port) : (s.updPort p f).thermals = s.thermals := rfl

theorem State.setPort_thermals (p : Nat) (x : Port) : (s.setPort p x).thermals = s.thermals := rfl

theorem State.setPool_thermals (c : Nat) (x : Pool) : (s.setPool c x).thermals = s.thermals := rfl

theorem State.ctlSend_thermals (p typ : Nat) (body : List Byte) : (s.ctlSend p typ body).thermals = s.thermals := rfl

theorem State.toDepth_thermals (d : Nat) (x : Depth) : (s.toDepth d x).thermals = s.thermals := rfl

theorem State.setMember_thermals (m : Nat) (x : Member) : (s.setMember m x).thermals = s.thermals := rfl

theorem State.askHold_thermals (p : Nat) (r : HoldReason) (d : HoldDepth) :
    (s.askHold p r d).thermals = s.thermals := rfl

theorem thermal_aPortCfg (p : Nat) : thermal (aPortCfg p) = false := thermal_high (by unfold aPortCfg aP; omega)

theorem thermal_aBobErr (c : Nat) : thermal (aBobErr c) = false := thermal_high (by unfold aBobErr aC; omega)

theorem thermal_aDfLog (c w : Nat) : thermal (aDfLog c w) = false := thermal_high (by unfold aDfLog aC; omega)

end Updates

/-! ### Buffers, copies and links -/

section Links
variable (s : State)

@[simp] theorem State.portTrim_thermals (p v : Nat) : (s.portTrim p v).thermals = s.thermals := by
  unfold State.portTrim
  extract_lets
  split
  · rfl
  · split <;> rfl

@[simp] theorem State.picksOut_thermals (p v n : Nat) : (s.picksOut p v n).thermals = s.thermals := by
  induction n generalizing s with
  | zero => rfl
  | succ n ih =>
    unfold State.picksOut
    dsimp only
    split
    · rfl
    · rw [ih]
      split
      · exact State.portTrim_thermals _ _ _
      · rfl

@[simp] theorem State.freeRest_thermals (k : QPkt) : (s.freeRest k).thermals = s.thermals := by
  unfold State.freeRest State.freeOf
  dsimp only
  split
  · split
    · exact s.picksOut_thermals _ _ _
    · rw [State.updPort_thermals, State.picksOut_thermals]
  · rfl

@[simp] theorem State.winSync_thermals (src dst flow : Nat) : (s.winSync src dst flow).thermals = s.thermals := by
  obtain ⟨_, _, h⟩ := s.winSync_same src dst flow
  rw [h]
  rfl

theorem State.contribPkt_thermals {s t : State} {x im k ofs n : Nat} {j : Join} {data : List Byte}
    (e : s.contribPkt x im j k ofs n data = some t) : t.thermals = s.thermals := by
  unfold State.contribPkt at e
  dsimp only at e
  split at e
  · cases e
    exact s.emit_thermals _ _
  · split at e
    · split at e <;> cases e
      exact (State.emit_thermals _ _ _).trans rfl
    · cases e

@[simp] theorem State.joinSend_thermals (x j : Nat) : (s.joinSend x j).thermals = s.thermals := by
  unfold State.joinSend
  split
  · split
    · rfl
    · refine (foldl_read (fun a : State × Nat × Bool => a.1.thermals) (fun a y => ?_) _ _).trans rfl
      split
      · rfl
      · split
        · split
          next h => exact State.contribPkt_thermals h
          next => rfl
        · rfl
  · rfl

@[simp] theorem State.joinsGo_thermals (c im : Nat) : (s.joinsGo c im).thermals = s.thermals := by
  unfold State.joinsGo
  exact foldl_read State.thermals (fun s _ => foldl_read State.thermals (fun s _ => s.joinSend_thermals _ _) _ s) _ _

@[simp] theorem State.pktGone_thermals (k : QPkt) : (s.pktGone k).thermals = s.thermals := by
  unfold State.pktGone
  extract_lets s1 s2 x s3
  have gone : s3.thermals = s1.thermals := rfl
  split
  · rfl
  · rw [foldl_read State.thermals fun s i => s.joinsGo_thermals (k.inq - 128) i, gone]
    unfold s1
    split
    · exact s.winSync_thermals _ _ _
    · rfl

@[simp] theorem State.dfLog_thermals (c handle unit holder : Nat) :
    (s.dfLog c handle unit holder).thermals = s.thermals := by
  unfold State.dfLog
  split
  · rfl
  · dsimp only
    rw [State.event_thermals, State.setReg_thermals _ (thermal_aDfLog _ _), State.setReg_thermals _ (thermal_aDfLog _ _),
      State.setReg_thermals _ (thermal_aDfLog _ _), State.setReg_thermals _ (thermal_aDfLog _ _)]

@[simp] theorem State.advance_thermals (n g : Nat) : (State.advance n s g).thermals = s.thermals := by
  induction n generalizing s with
  | zero => rfl
  | succ n ih =>
    unfold State.advance
    dsimp only
    split
    · exact (ih _).trans (State.setRf_thermals _ (thermal_high (by unfold aGroup; omega)))
    · rfl

@[simp] theorem State.freeSlot_thermals (g chunk : Nat) : (s.freeSlot g chunk).thermals = s.thermals := by
  unfold State.freeSlot
  extract_lets s1 x s2
  have released : s1.thermals = s.thermals := by
    unfold s1
    split
    · split <;> rfl
    · rfl
  exact (s2.advance_thermals _ _).trans released

@[simp] theorem State.copyGone_thermals (mc : Nat × Nat × Nat) : (s.copyGone mc).thermals = s.thermals := by
  unfold State.copyGone
  dsimp only
  split
  · split <;> rfl
  · split
    · rfl
    · split
      · rw [State.dfLog_thermals, State.bump_thermals _ (thermal_aBobErr _)]
      · split
        · split
          · exact State.freeSlot_thermals _ _ _
          · rfl
        · rfl

@[simp] theorem State.cutRx_thermals (p v : Nat) (r : RxPkt) : (s.cutRx p v r).thermals = s.thermals := by
  unfold State.cutRx
  split
  · split
    · split
      · rfl
      · exact State.bump_thermals _ (by decide)
    · dsimp only
      split
      · rfl
      · exact State.freeRest_thermals _ _
  · dsimp only
    split
    · exact State.freeRest_thermals _ _
    · rfl

@[simp] theorem State.cutAll_thermals (p : Nat) : (s.cutAll p).thermals = s.thermals := by
  unfold State.cutAll
  extract_lets s1 g
  refine Eq.trans (b := s1.thermals) rfl (foldl_read State.thermals (fun s e => ?_) _ _)
  split
  · exact s.cutRx_thermals _ _ _
  · rfl

@[simp] theorem State.memberScan_thermals : s.memberScan.thermals = s.thermals := by
  unfold State.memberScan
  refine foldl_read State.thermals (fun s m => ?_) _ _
  dsimp only
  split
  · rw [State.event_thermals, State.setMember_thermals]
  · rfl

@[simp] theorem State.uncut_thermals : s.uncut.thermals = s.thermals := by
  unfold State.uncut
  dsimp only
  rw [State.memberScan_thermals]
  split <;> rfl

@[simp] theorem State.pairFwd_thermals (p : Nat) : (s.pairFwd p).thermals = s.thermals := by
  unfold State.pairFwd State.pairEvent
  split
  · split
    · exact s.setRf_thermals (thermal_aPortCfg p)
    · exact (State.event_thermals _ _ _ _).trans (s.setRf_thermals (thermal_aPortCfg p))
  · rfl

@[simp] theorem State.pairRelease_thermals (p : Nat) : (s.pairRelease p).thermals = s.thermals := by
  unfold State.pairRelease
  split
  · exact s.setRf_thermals (thermal_aPortCfg p)
  · rfl

theorem State.adopt_thermals (p : Nat) (m : List Byte) : (s.adopt p m).thermals = s.thermals := s.updPort_thermals p _

/-- A link that resumes with RESYNC writes nothing of the block. -/
@[simp] theorem State.resyncLink_thermals (p : Nat) (m : List Byte) : (s.resyncLink p m).thermals = s.thermals := by
  unfold State.resyncLink
  extract_lets s1 s2 s3 s4
  have dropped : s2.thermals = s1.thermals := by
    refine foldl_read State.thermals (fun t v => ?_) _ _
    dsimp only
    split
    next k r _ =>
      split
      next =>
        have gone : ((t.setOutq p v r).pktGone k).thermals = t.thermals := State.pktGone_thermals _ _
        have rest : (if v = 6 then (t.setOutq p v r).pktGone k else ((t.setOutq p v r).pktGone k).freeRest k).thermals
            = t.thermals := by
          split
          · exact gone
          · exact (State.freeRest_thermals _ k).trans gone
        split
        · exact (State.copyGone_thermals _ _).trans rest
        · exact rest
      next => rfl
    next => rfl
  rw [State.uncut_thermals, State.pairFwd_thermals]
  exact (s3.updPort_thermals p _).trans ((s2.adopt_thermals p m).trans (dropped.trans (s.cutAll_thermals p)))

@[simp] theorem State.holdExit_thermals (p : Nat) : (s.holdExit p).thermals = s.thermals := by
  have wakes : ((s.wake (dSw (p / 16))).wake (dOpt (p / 8))).thermals = s.thermals := by
    rw [State.wake_thermals, State.wake_thermals]
  unfold State.holdExit
  dsimp only
  split
  · rfl
  · split
    · split
      · rfl
      · split
        · exact s.resyncLink_thermals _ _
        · exact wakes
    · split
      · rfl
      · split
        · rw [State.uncut_thermals, State.pairRelease_thermals, State.setPort_thermals]
        · exact wakes

@[simp] theorem State.wakePort_thermals (p : Nat) : (s.wakePort p).thermals = s.thermals := by
  unfold State.wakePort
  extract_lets x s1 s2
  have lit : s2.thermals = s.thermals := by
    unfold s2 s1
    rw [State.updPort_thermals, State.wake_thermals, State.wake_thermals]
  split
  · rfl
  · split
    · exact lit
    · exact (s2.ctlSend_thermals _ _ _).trans lit

@[simp] theorem State.sendParams_thermals (p typ : Nat) : (s.sendParams p typ).thermals = s.thermals := rfl

@[simp] theorem State.toTrain_thermals (p : Nat) : (s.toTrain p).thermals = s.thermals := by
  unfold State.toTrain
  extract_lets s1 s2 d s3
  have forwards : s2.thermals = s.thermals := by
    unfold s2
    split
    · exact s.updPort_thermals _ _
    · exact (s1.setRf_thermals (thermal_aPortCfg p)).trans (s.updPort_thermals _ _)
  have woken : s3.thermals = s2.thermals := by
    unfold s3
    split
    · exact s2.toDepth_thermals _ _
    · rw [State.wake_thermals, State.wake_thermals]
  exact (s3.sendParams_thermals p 1).trans (woken.trans forwards)

@[simp] theorem State.critWake_thermals (p : Nat) : (s.critWake p).thermals = s.thermals := by
  unfold State.critWake
  extract_lets x
  split
  · rfl
  · split
    · exact s.holdExit_thermals p
    · split
      · rfl
      · split
        · split
          · split
            · exact s.sendParams_thermals _ _
            · exact s.toTrain_thermals _
          · rfl
        · exact s.wakePort_thermals p

@[simp] theorem State.critHold_thermals : s.critHold.thermals = s.thermals := by
  unfold State.critHold
  split
  · refine foldl_read State.thermals (fun t p => ?_) _ _
    split
    · exact t.askHold_thermals _ _ _
    · rfl
  · rfl

end Links

/-! ### A safety input, a trip and a reset -/

section Stops
variable (s : State)

theorem settled_of_thermal {a : Nat} (k : thermal a = true) : Settled a := by
  rw [thermal_iff] at k
  exact ⟨by omega, by unfold aTrdState; omega, by unfold aLevel; omega⟩

@[simp] theorem State.trdShow_thermals (old : State) : (s.trdShow old).thermals = s.thermals :=
  State.thermals_of_reg fun _ k => s.reg_trdShow old (settled_of_thermal k)

@[simp] theorem State.safety_thermals : s.safety.thermals = s.thermals :=
  State.thermals_of_reg fun _ k => s.reg_safety (settled_of_thermal k)

theorem State.safety_thm : s.safety.thm = s.thm :=
  s.safety_read State.thm (s.backstop_read State.thm fun _ _ _ => rfl)
    fun t old => t.trdShow_read State.thm State.setReg_thm State.event_thm old

@[simp] theorem State.thermMoved_thermals (old : State) : (s.thermMoved old).thermals = s.thermals := by
  unfold State.thermMoved
  split
  · exact s.safety_thermals
  · rfl

theorem State.thermMoved_thm (old : State) : (s.thermMoved old).thm = s.thm := by
  unfold State.thermMoved
  split
  · exact s.safety_thm
  · rfl

@[simp] theorem State.abdicate_thermals : s.abdicate.thermals = s.thermals := by
  unfold State.abdicate State.pairMsg State.hbFrame
  split
  · extract_lets _ s1 s2
    have sent : s2.thermals = s.thermals := (s1.emit_thermals _ _).trans rfl
    split
    · exact Eq.trans (b := s2.thermals) rfl sent
    · exact sent
  · rfl

theorem State.allOff_thermals (k : OffKind) : (s.allOff k).thermals = s.thermals :=
  s.allOff_read State.thermals k fun _ _ => rfl

theorem thermal_of_mainReg {a : Nat} (h : mainReg a = true) : thermal a = false := by
  rw [← Bool.not_eq_true, thermal_iff]
  intro block
  simp only [mainReg, Bool.or_eq_true, Bool.and_eq_true, decide_eq_true_eq] at h
  rcases h with ((⟨h, _⟩ | ⟨h, _⟩) | h) | h <;> omega

theorem thermal_of_warmReg {a : Nat} (h : warmReg a = true) : thermal a = false := by
  rw [← Bool.not_eq_true, thermal_iff]
  simp only [warmReg, Bool.or_eq_true, Bool.and_eq_true, decide_eq_true_eq] at h
  unfold aHostReq aGov aSelftest at h
  rcases h with ((⟨h, _⟩ | ⟨h, _⟩) | h) | h <;> omega

theorem State.setCart_thermals (k : Nat) (x : Cart) : (s.setCart k x).thermals = s.thermals := rfl

theorem State.cartsForget_thermals : s.cartsForget.thermals = s.thermals :=
  foldl_read State.thermals (fun s k => s.setCart_thermals k _) _ _

/-- The block keeps what it holds when the main domains stop. -/
theorem State.loseMain_thermals : s.loseMain.thermals = s.thermals := by
  unfold State.loseMain
  extract_lets s1 s2 s3
  have h1 : s1.thermals = s.thermals := by
    unfold s1
    split
    · exact s.setRf_thermals (by decide)
    · rfl
  have h2 : s2.thermals = s1.thermals := by
    unfold s2
    rw [State.setRf_thermals _ (by decide), State.clearRegs_thermals _ fun _ => thermal_of_mainReg,
      State.setRf_thermals _ (by decide), State.cartsForget_thermals]
  have h3 : s3.thermals = s2.thermals :=
    foldl_read State.thermals (fun t k => t.setRf_thermals (thermal_high (by unfold aOpt; omega))) _ _
  refine Eq.trans (State.thermals_of_regs ?_) (h3.trans (h2.trans h1))
  rfl

@[simp] theorem State.stopMain_thermals : s.stopMain.thermals = s.thermals :=
  (s.loseMain.allOff_thermals .stop).trans s.loseMain_thermals

theorem State.cause_thermals (kind source : Nat) : (s.cause kind source).thermals = s.thermals := by
  have field (t : State) (hi lo v : Nat) : (t.setRf aRstCause hi lo v).thermals = t.thermals :=
    t.setRf_thermals (by decide)
  unfold State.cause
  extract_lets s1
  have noted : s1.thermals = s.thermals := (field _ _ _ _).trans (field s _ _ _)
  split
  · exact (field s1 _ _ _).trans noted
  · split
    · exact (field s1 _ _ _).trans noted
    · split
      · exact (field s1 _ _ _).trans noted
      · exact noted

theorem State.slotSvn_thermals (slot : Nat) : (s.slotSvn slot).2.thermals = s.thermals := by
  unfold State.slotSvn
  split <;> rfl

theorem State.secShow_thermals : s.secShow.thermals = s.thermals := by
  have field (t : State) (hi lo v : Nat) : (t.setRf aSec hi lo v).thermals = t.thermals := t.setRf_thermals (by decide)
  unfold State.secShow
  dsimp only
  rw [field, field, field, field, field]

theorem State.compSet_kernel_thermals (st slot svn : Nat) : (s.compSet 0 st slot svn).thermals = s.thermals := by
  unfold State.compSet
  rw [State.setRf_thermals _ (by decide), State.setRf_thermals _ (by decide), State.setRf_thermals _ (by decide)]

theorem State.bootPut_thermals (active trial tries : Nat) : (s.bootPut active trial tries).thermals = s.thermals := rfl

/-- Secure boot writes registers of the firmware. -/
theorem State.secBoot_thermals : s.secBoot.thermals = s.thermals := by
  unfold State.secBoot
  extract_lets r s1 slot trial policy _ s2 s3
  have h1 : s1.thermals = s.thermals := by
    unfold s1
    split
    · split
      · exact s.bootPut_thermals _ _ _
      · exact s.bootPut_thermals _ _ _
    · rfl
  have h3 : s3.thermals = s1.thermals := (s2.setReg_thermals (by decide)).trans (State.thermals_of_regs rfl)
  exact (State.compSet_kernel_thermals _ _ _ _).trans
    ((State.secShow_thermals _).trans ((s3.slotSvn_thermals slot).trans (h3.trans h1)))

theorem State.plinthUp_thermals : s.plinthUp.thermals = s.thermals := by
  unfold State.plinthUp
  split <;> rfl

theorem State.cleared_thermals : s.cleared.thermals = s.thermals :=
  ((s.clearRegs warmReg).allOff_thermals .idle).trans (s.clearRegs_thermals fun _ => thermal_of_warmReg)

theorem State.withBoot_thermals (n : Nat) : (s.withBoot n).thermals = s.thermals := rfl

/-- A start of the main domains, whether PERST_N lets it go on or not, writes nothing of the block, and of the package
the depths and the step alone. -/
theorem State.bootStart_keeps : s.bootStart.thermals = s.thermals ∧ s.bootStart.pwr.rest = s.pwr.rest := by
  by_cases held : s.cleared.pwr.leadSel = true ∧ s.cleared.pwr.perst = true
  · have at3 : s.bootStart = s.cleared.withBoot 3 := if_pos held
    rw [at3]
    exact ⟨(s.cleared.withBoot_thermals 3).trans s.cleared_thermals, (s.cleared.withBoot_rest 3).trans s.cleared_rest⟩
  · have at4 : s.bootStart = (s.cleared.withBoot 4).plinthUp.secBoot := if_neg held
    rw [at4]
    refine ⟨?_, ?_⟩
    · rw [State.secBoot_thermals, State.plinthUp_thermals, State.withBoot_thermals, State.cleared_thermals]
    · rw [State.secBoot_pwr]
      exact (congrArg Power.rest (s.cleared.withBoot 4).plinthUp_bare).trans s.cleared_rest

/-- A main cold reset neither clears nor sets a trip. -/
theorem State.coldMain_trip (source : Nat) :
    (s.coldMain source).thermals = s.thermals ∧ (s.coldMain source).pwr.thermtrip = s.pwr.thermtrip := by
  have noted : (if s.pwr.sampled then s.cause 2 source else s).thermals = s.thermals ∧
      (if s.pwr.sampled then s.cause 2 source else s).pwr = s.pwr := by
    split
    · exact ⟨s.cause_thermals _ _, s.cause_pwr _ _⟩
    · exact ⟨rfl, rfl⟩
  rw [s.coldMain_eq]
  generalize (if s.pwr.sampled then s.cause 2 source else s) = t at noted
  obtain ⟨block, rest⟩ := t.started.bootStart_keeps
  rw [State.trdShow_thermals, State.trdShow_pwr, block, Power.field_of_rest Power.thermtrip (fun _ => rfl) rest]
  exact ⟨(State.thermals_of_regs (s := t) rfl).trans noted.1, congrArg (fun x => x.started.thermtrip) noted.2⟩

end Stops

/-! ### Readings (R414) -/

/-- A fold whose every step keeps a property, and whose step at `i` brings it about, ends with it where it comes to `i`. -/
theorem foldl_reaches {α β : Type} {P : β → Prop} {f : β → α → β} {i : α} (keep : ∀ t x, x ≠ i → P t → P (f t x))
    (hit : ∀ t, P (f t i)) {l : List α} (h : i ∈ l) (s : β) : P (l.foldl f s) := by
  have kept (t : β) (x : α) (ht : P t) : P (f t x) := by
    by_cases e : x = i
    · exact e ▸ hit t
    · exact keep t x e ht
  have stays (l : List α) (t : β) (ht : P t) : P (l.foldl f t) :=
    List.foldlRecOn (motive := P) l f ht fun t ht x _ => kept t x ht
  obtain ⟨before, after, rfl⟩ := List.append_of_mem h
  rw [List.foldl_append, List.foldl_cons]
  exact stays after _ (hit _)

section Readings
variable (s : State)

theorem thermal_aSensor {i : Nat} (h : i < 82) : thermal (aSensor i) = true := by
  rw [thermal_iff]
  unfold aSensor
  omega

theorem thermal_aZone {z : Nat} (h : z < 33) : thermal (aZone z) = true := by
  rw [thermal_iff]
  unfold aZone
  omega

theorem aSensor_ne {i j : Nat} (h : i ≠ j) : aSensor i ≠ aSensor j := by
  unfold aSensor
  omega

theorem aZone_ne {z x : Nat} (h : z ≠ x) : aZone z ≠ aZone x := by
  unfold aZone
  omega

theorem aSensor_ne_aZone {i : Nat} (h : i < 82) (z : Nat) : aSensor i ≠ aZone z := by
  unfold aSensor aZone
  omega

/-- A sensor's state, once set, stands; its temperature and the other registers of the block do not change. -/
theorem State.setSensor_spec (i st : Nat) :
    (st < 4 → (s.setSensor i st).sensorState i = st) ∧
    (∀ a, a ≠ aSensor i → thermal a = true → (s.setSensor i st).reg a = s.reg a) ∧
    (s.setSensor i st).rf (aSensor i) 15 0 = s.rf (aSensor i) 15 0 := by
  unfold State.setSensor State.sensorEvent
  split
  next already => exact ⟨fun _ => already, fun _ _ _ => rfl, rfl⟩
  next =>
    have own : Settled (aSensor i) := ⟨by unfold aSensor; omega, by unfold aSensor aTrdState; omega, by unfold aSensor aLevel; omega⟩
    refine ⟨fun h => ?_, fun a other k => ?_, ?_⟩
    · rw [State.sensorState, State.rf, State.reg_event_settled _ _ _ _ own]
      exact (State.rf_setRf_same _ _ _ _ _ (by decide)).trans (Nat.mod_eq_of_lt h)
    · rw [State.reg_of_thermals (State.event_thermals _ _ _ _) k, State.reg_setRf_ne _ _ _ _ other]
    · rw [State.rf, State.reg_event_settled _ _ _ _ own]
      exact State.rf_setRf_other _ _ _ _ _ _ _ (by omega)

/-- A reading writes the register of its sensor. -/
theorem State.reg_readSensor (i : Nat) (v : Int) {a : Nat} (other : a ≠ aSensor i) (k : thermal a = true) :
    (s.readSensor i v).reg a = s.reg a := by
  unfold State.readSensor
  dsimp only
  split
  · exact s.reg_setRf_ne _ _ _ other
  · rw [(State.setSensor_spec _ i 2).2.1 a other k, State.reg_setRf_ne _ _ _ _ other]

/-- A reading in range is what its sensor shows. -/
theorem State.sensorTemp_readSensor {i : Nat} {v : Int} (range : inRange v = true) :
    (s.readSensor i v).sensorTemp i = v := by
  obtain ⟨low, high⟩ := (Bool.and_eq_true_iff ..).mp range
  have low' : 64 * -40 ≤ v := of_decide_eq_true low
  have high' : v ≤ 64 * 150 := of_decide_eq_true high
  unfold State.readSensor
  dsimp only
  rw [if_pos range, State.sensorTemp, State.rf_setRf_same _ _ _ _ _ (by decide), Nat.mod_eq_of_lt (ofSigned_lt 16 v)]
  exact toSigned_ofSigned (by omega) (by omega)

theorem State.reg_withThm (x : Thermal) (a : Nat) : ({ s with thm := x } : State).reg a = s.reg a := rfl

theorem State.reg_formZone (z : Nat) {a : Nat} (other : a ≠ aZone z) : (s.formZone z).reg a = s.reg a := by
  unfold State.formZone
  dsimp only
  split
  · rw [State.reg_setRf_ne _ _ _ _ other, State.reg_setRf_ne _ _ _ _ other]
  · rw [State.reg_withThm, State.reg_setRf_ne _ _ _ _ other, State.reg_setRf_ne _ _ _ _ other]

theorem State.blindClusters_thermals : s.blindClusters.thermals = s.thermals := rfl

end Readings

/-! ### The ladder (R418) -/

section Ladder
variable (s : State)

theorem rungOf_lt (t : Int) : rungOf t < 4 := by
  unfold rungOf
  repeat' split
  all_goals decide

theorem State.withThm_thermals (x : Thermal) : ({ s with thm := x } : State).thermals = s.thermals := rfl

/-- What a zone's climb leaves of the block, and its rung and its temperature afterwards. -/
theorem State.climb_thermals (z : Nat) (above : s.rung z < rungOf (s.zoneTemp z)) :
    (s.climb z).thermals = (s.setRf (aZone z) 31 29 (rungOf (s.zoneTemp z))).thermals := by
  unfold State.climb
  extract_lets r n was s1 s2 s3
  have h2 : s2.thermals = s1.thermals := by
    unfold s2
    split
    · split
      · exact s1.withThm_thermals _
      · rfl
    · rfl
  have h3 : s3.thermals = s2.thermals := by
    unfold s3
    split
    · exact s2.withThm_thermals _
    · rfl
  rw [if_neg (Nat.not_le.mpr above)]
  split
  · exact (s3.withThm_thermals _).trans (h3.trans h2)
  · exact h3.trans h2

theorem State.climb_stays (z : Nat) (within : rungOf (s.zoneTemp z) ≤ s.rung z) : s.climb z = s := if_pos within

theorem State.reg_climb (z : Nat) {a : Nat} (other : a ≠ aZone z) (k : thermal a = true) : (s.climb z).reg a = s.reg a := by
  by_cases within : rungOf (s.zoneTemp z) ≤ s.rung z
  · rw [s.climb_stays z within]
  · rw [State.reg_of_thermals (s.climb_thermals z (Nat.not_le.mp within)) k, State.reg_setRf_ne _ _ _ _ other]

/-- A zone is on the rung that its temperature calls for or above. -/
def State.climbed (z : Nat) (s : State) : Prop := rungOf (s.zoneTemp z) ≤ s.rung z

theorem State.climbed_of_reg {s t : State} {z : Nat} (h : t.reg (aZone z) = s.reg (aZone z)) (up : s.climbed z) :
    t.climbed z := by
  unfold State.climbed State.zoneTemp State.rung State.rf at *
  rwa [h]

theorem State.climb_climbed {z : Nat} (hz : z < 33) : (s.climb z).climbed z := by
  by_cases within : rungOf (s.zoneTemp z) ≤ s.rung z
  · rwa [s.climb_stays z within]
  · refine State.climbed_of_reg (State.reg_of_thermals (s.climb_thermals z (Nat.not_le.mp within)) (thermal_aZone hz)) ?_
    unfold State.climbed State.zoneTemp State.rung
    rw [State.rf_setRf_same _ _ _ _ _ (by decide), State.rf_setRf_other _ _ _ _ _ _ _ (by omega),
      Nat.mod_eq_of_lt (lt_of_lt_of_le (rungOf_lt _) (by decide))]

/-- The state when every sensor is read, every zone formed, and each zone has climbed. -/
def State.heated (s : State) (readings : List Int) : State :=
  (List.range 33).foldl (fun (s : State) z => s.climb z)
    ((List.range 33).foldl (fun (s : State) z => s.formZone z)
      ((List.range 82).foldl (fun (s : State) i => s.readSensor i (readings.getD i (s.sensorTemp i))) s)).blindClusters

theorem State.heated_climbed (l : List Int) {z : Nat} (hz : z ∈ List.range 33) : (s.heated l).climbed z := by
  have range : z < 33 := List.mem_range.mp hz
  exact foldl_reaches (P := State.climbed z)
    (fun t x other up => State.climbed_of_reg (t.reg_climb x (aZone_ne other.symm) (thermal_aZone range)) up)
    (fun t => t.climb_climbed range) hz _

theorem State.sensorTemp_of_reg {s t : State} {i : Nat} (h : t.reg (aSensor i) = s.reg (aSensor i)) :
    t.sensorTemp i = s.sensorTemp i := by
  unfold State.sensorTemp State.rf
  rw [h]

theorem State.sensorTemp_heated {l : List Int} {i : Nat} {v : Int} (hi : i < 82) (given : l[i]? = some v)
    (range : inRange v = true) : (s.heated l).sensorTemp i = v := by
  have block := thermal_aSensor hi
  have read : ((List.range 82).foldl (fun (s : State) i => s.readSensor i (l.getD i (s.sensorTemp i))) s).sensorTemp i = v := by
    refine foldl_reaches (P := fun t : State => t.sensorTemp i = v) (fun t x other ht => ?_) (fun t => ?_)
      (List.mem_range.mpr hi) s
    · exact (State.sensorTemp_of_reg (t.reg_readSensor _ _ (aSensor_ne other.symm) block)).trans ht
    · rw [List.getD_eq_getElem?_getD, given]
      exact t.sensorTemp_readSensor range
  refine (State.sensorTemp_of_reg ?_).trans read
  refine (foldl_read (fun t : State => t.reg (aSensor i)) (fun t z => t.reg_climb z (aSensor_ne_aZone hi z) block) _ _).trans ?_
  rw [State.reg_of_thermals (State.blindClusters_thermals _) block]
  exact foldl_read (fun t : State => t.reg (aSensor i)) (fun t z => t.reg_formZone z (aSensor_ne_aZone hi z)) _ _

/-- A rung is left by the zones that stood on it. -/
def State.leaveRung (rung : Nat) (s : State) (z : Nat) : State :=
  if s.rung z = rung then s.setRf (aZone z) 31 29 (rung - 1) else s

theorem State.rung_leaveWarn {z : Nat} (low : s.rung z ≤ 1) : (s.leaveRung 1 z).rung z = 0 := by
  unfold State.leaveRung
  split
  next => exact State.rf_setRf_same _ _ _ _ _ (by decide)
  next off => omega

theorem State.rung_leaveRung_ne (r : Nat) {z x : Nat} (h : x ≠ z) : (s.leaveRung r x).rung z = s.rung z := by
  unfold State.leaveRung
  split
  · exact congrArg (fld · 31 29) (s.reg_setRf_ne _ _ _ (aZone_ne h.symm))
  · rfl

/-- When WARN is left, each zone that stood on it or below is off the ladder. -/
theorem State.rung_leaveWarns (l : List Nat) (low : ∀ z ∈ l, s.rung z ≤ 1) {z : Nat} (hz : z ∈ l) :
    (l.foldl (State.leaveRung 1) s).rung z = 0 := by
  have stays (t : State) (l : List Nat) (h : t.rung z = 0) : (l.foldl (State.leaveRung 1) t).rung z = 0 := by
    refine List.foldlRecOn (motive := fun t : State => t.rung z = 0) _ _ h fun t ht x _ => ?_
    by_cases e : x = z
    · rw [e]
      exact t.rung_leaveWarn (by omega)
    · rw [t.rung_leaveRung_ne 1 e, ht]
  induction l generalizing s with
  | nil => cases hz
  | cons x r ih =>
    rw [List.foldl_cons]
    by_cases e : x = z
    · exact stays _ r (by rw [e]; exact s.rung_leaveWarn (e ▸ low x List.mem_cons_self))
    · refine ih _ (fun y hy => ?_) ((List.mem_cons.mp hz).resolve_left (Ne.symm e))
      by_cases same : x = y
      · rw [same, s.rung_leaveWarn (low y (List.mem_cons_of_mem _ hy))]
        exact Nat.zero_le 1
      · rw [s.rung_leaveRung_ne 1 same]
        exact low y (List.mem_cons_of_mem _ hy)

end Ladder

/-! ### The trip (R419) -/

section Trip
variable (s : State)

/-- The state in which THERMTRIP_N is noted. -/
def State.tripped (s : State) (i : Nat) : State :=
  let t := if s.rf aTrip 0 0 = 1 then s else (s.setRf aTrip 7 1 i).setRf aTrip 0 0 1
  { t with pwr := { t.pwr with thermtrip := true } }

theorem State.trip_eq (i : Nat) : s.trip i = (s.tripped i).abdicate.stopMain.trdShow s := rfl

theorem State.trip_thermals (i : Nat) : (s.trip i).thermals = (s.tripped i).thermals := by
  rw [s.trip_eq, State.trdShow_thermals, State.stopMain_thermals, State.abdicate_thermals]

theorem State.reg_withPower (x : Power) (a : Nat) : ({ s with pwr := x } : State).reg a = s.reg a := rfl

theorem State.reg_tripped (i : Nat) {a : Nat} (other : a ≠ aTrip) : (s.tripped i).reg a = s.reg a := by
  unfold State.tripped
  dsimp only
  split
  · rfl
  · rw [State.reg_withPower, State.reg_setRf_ne _ _ _ _ other, State.reg_setRf_ne _ _ _ _ other]

theorem State.reg_trip (i : Nat) {a : Nat} (other : a ≠ aTrip) (k : thermal a = true) : (s.trip i).reg a = s.reg a :=
  (State.reg_of_thermals (s.trip_thermals i) k).trans (s.reg_tripped i other)

/-- The latch stands, and the first trip is the one that it records. -/
theorem State.rf_tripped {i : Nat} (h : i < 128) : (s.tripped i).rf aTrip 0 0 = 1 ∧
    (s.rf aTrip 0 0 = 0 → (s.tripped i).rf aTrip 7 1 = i) := by
  have first : ((s.setRf aTrip 7 1 i).setRf aTrip 0 0 1).rf aTrip 0 0 = 1 ∧
      ((s.setRf aTrip 7 1 i).setRf aTrip 0 0 1).rf aTrip 7 1 = i := by
    rw [State.rf_setRf_same _ _ _ _ _ (by decide), State.rf_setRf_other _ _ _ _ _ _ _ (by omega),
      State.rf_setRf_same _ _ _ _ _ (by decide)]
    exact ⟨rfl, Nat.mod_eq_of_lt h⟩
  by_cases latched : s.rf aTrip 0 0 = 1
  · have shape : s.tripped i = { s with pwr := { s.pwr with thermtrip := true } } := by
      unfold State.tripped
      rw [if_pos latched]
    rw [shape]
    exact ⟨latched, fun clear => absurd latched (by omega)⟩
  · have shape : s.tripped i = { (s.setRf aTrip 7 1 i).setRf aTrip 0 0 1 with
        pwr := { ((s.setRf aTrip 7 1 i).setRf aTrip 0 0 1).pwr with thermtrip := true } } := by
      unfold State.tripped
      rw [if_neg latched]
    rw [shape]
    exact ⟨first.1, fun _ => first.2⟩

theorem State.trip_thermtrip (i : Nat) : (s.trip i).pwr.thermtrip = true := by
  rw [s.trip_eq, State.trdShow_pwr, State.stopMain,
    Power.field_of_rest Power.thermtrip (fun _ => rfl) (State.allOff_rest _ .stop), State.loseMain_pwr, State.abdicate_pwr]
  rfl

theorem State.dom_trip (i : Nat) {d : Nat} (h : d ∈ mainDoms) : (s.trip i).dom d = ⟨.off, .stop, false⟩ := by
  rw [s.trip_eq, State.trdShow_dom, State.dom_stopMain _ h]

end Trip

/-! ### The commands -/

section Commands
variable {s : State}

/-- A sample comes to the state of its ladder, or to a trip from there. -/
theorem execThermalSample_eq (up : s.pwr.vinAon = true) (l : List Int) :
    execThermalSample l s = .next ((s.heated l).critHold.thermMoved s) ∨
      ∃ j, execThermalSample l s = .next (((s.heated l).critHold.thermMoved s).trip j) := by
  unfold execThermalSample State.heated
  rw [if_neg (by simp [up])]
  dsimp only
  generalize State.thermMoved _ s = u
  split
  next i _ =>
    split
    · exact .inl rfl
    · exact .inr ⟨i, rfl⟩
  next => exact .inl rfl

theorem runs_thermalSample {l : List Int} {i : Nat} {v : Int} (up : s.pwr.vinAon = true) (hi : i < 82)
    (given : l[i]? = some v) (range : inRange v = true) :
    Runs (.thermalSample l) s (fun t => t.sensorTemp i = v ∧ (∀ z ∈ List.range 33, rungOf (t.zoneTemp z) ≤ t.rung z)) := by
  obtain ⟨u, hu⟩ : ∃ u, u = ((s.heated l).critHold).thermMoved s := ⟨_, rfl⟩
  have block : u.thermals = (s.heated l).thermals := by
    rw [hu, State.thermMoved_thermals, State.critHold_thermals]
  have shown (t : State) (same : ∀ a, a ≠ aTrip → thermal a = true → t.reg a = u.reg a) :
      t.sensorTemp i = v ∧ (∀ z ∈ List.range 33, rungOf (t.zoneTemp z) ≤ t.rung z) := by
    have settled {a : Nat} (other : a ≠ aTrip) (k : thermal a = true) : t.reg a = (s.heated l).reg a :=
      (same a other k).trans (State.reg_of_thermals block k)
    refine ⟨?_, fun z hz => ?_⟩
    · exact (State.sensorTemp_of_reg (settled (by unfold aSensor aTrip; omega) (thermal_aSensor hi))).trans
        (s.sensorTemp_heated hi given range)
    · exact State.climbed_of_reg (settled (by unfold aZone aTrip; omega) (thermal_aZone (List.mem_range.mp hz)))
        (s.heated_climbed l hz)
  rcases execThermalSample_eq up l with run | ⟨j, run⟩
  · exact .of (run.trans (congrArg _ hu.symm)) (shown u fun _ _ _ => rfl)
  · rw [← hu] at run
    exact .of run (shown _ fun a other k => u.reg_trip j other k)

theorem runs_sensorPlausibilityTimer_cold {i : Nat} (hi : i < 82) (good : s.sensorState i ≠ 2)
    (cold : s.sensorTemp i < s.model (sensorZone i) - deg 12) :
    Runs (.sensorPlausibilityTimer i) s (fun t => t.sensorState i = 1) := by
  have run : execSensorPlausibilityTimer i s = .next (s.setSensor i 1) := by
    unfold execSensorPlausibilityTimer
    rw [if_neg (Nat.not_le.mpr hi)]
    dsimp only
    rw [if_neg good, if_pos cold]
  exact .of run ((s.setSensor_spec i 1).1 (by decide))

theorem runs_rungReleaseTimer_warn {c : Nat}
    (low : ∀ z ∈ rungZones 1 c, s.rung z ≤ 1 ∧ s.zoneTemp z < rungRelease 1) (on : ∃ z ∈ rungZones 1 c, s.rung z = 1) :
    Runs (.rungReleaseTimer 1 c) s (fun t => (∀ z ∈ rungZones 1 c, t.rung z = 0)) := by
  obtain ⟨u, hu⟩ : ∃ u, u = ((rungZones 1 c).foldl (State.leaveRung 1) s).liftLimits := ⟨_, rfl⟩
  have run : execRungReleaseTimer 1 c s = .next ((if s.thm.critOn ∧ !u.thm.critOn then
      u.openPorts.foldl (fun s p => s.critWake p) u else u).thermMoved s) := by
    rw [hu]
    refine if_neg ?_
    rintro (zero | three | high | none)
    · cases zero
    · exact absurd three (by decide)
    · obtain ⟨z, hz, h⟩ := List.any_eq_true.mp high
      obtain ⟨rung, temp⟩ := low z hz
      simp only [Bool.or_eq_true, decide_eq_true_eq] at h
      omega
    · obtain ⟨z, hz, h⟩ := on
      exact absurd h (of_decide_eq_true (List.all_eq_true.mp none z hz))
  refine .of run fun z hz => ?_
  have range : z < 33 := by
    unfold rungZones at hz
    split at hz
    · split at hz
      · have := List.mem_range.mp (List.mem_of_mem_filter hz)
        omega
      · have := List.mem_singleton.mp hz
        omega
    · exact List.mem_range.mp hz
  have woken : (if s.thm.critOn ∧ !u.thm.critOn then u.openPorts.foldl (fun s p => s.critWake p) u else u).thermals =
      u.thermals := by
    split
    · exact foldl_read State.thermals (fun t p => t.critWake_thermals p) _ _
    · rfl
  have block := (State.thermMoved_thermals _ s).trans woken
  rw [State.rung, State.rf_of_thermals block (thermal_aZone range), hu]
  exact State.rung_leaveWarns s _ (fun z hz => (low z hz).1) hz

theorem runs_ladderStepTimer_hot {z : Nat} (hz : z < 33) (hot : deg 100 ≤ s.zoneTemp z) (on : s.limitOn = true) :
    Runs (.ladderStepTimer) s (fun t => t.thm.limitCap = s.thm.limitCap - 50) := by
  have lowers : ((List.range 33).any (fun z => decide (deg 100 ≤ s.zoneTemp z)) || decide (deg 95 ≤ s.zoneTemp 32)) = true := by
    rw [List.any_eq_true.mpr ⟨z, List.mem_range.mpr hz, decide_eq_true hot⟩, Bool.true_or]
  refine .of rfl ?_
  rw [State.thermMoved_thm]
  exact if_pos ⟨lowers, on⟩

theorem runs_thermtripAssert_sensor {i : Nat} (up : s.pwr.vinAon = true) (hi : i < 82) (good : s.sensorState i ≠ 2) :
    Runs (.thermtripAssert i) s (fun t => t.pwr.thermtrip = true ∧ t.rf aTrip 0 0 = 1 ∧
      (s.rf aTrip 0 0 = 0 → t.rf aTrip 7 1 = i) ∧ (∀ d ∈ mainDoms, t.dom d = ⟨.off, .stop, false⟩)) := by
  have run : execThermtripAssert i s = .next (s.trip i) := by
    refine if_neg ?_
    rintro (down | ⟨other, _⟩ | ⟨_, failed⟩)
    · simp [up] at down
    · omega
    · exact good failed
  obtain ⟨latch, names⟩ := s.rf_tripped (i := i) (by omega)
  have block (hi lo : Nat) : (s.trip i).rf aTrip hi lo = (s.tripped i).rf aTrip hi lo :=
    State.rf_of_thermals (s.trip_thermals i) (by decide) hi lo
  exact .of run ⟨s.trip_thermtrip i, (block 0 0).trans latch, fun clear => (block 7 1).trans (names clear),
    fun d hd => s.dom_trip i hd⟩

theorem runs_tripLatchClear {path : Path} {v : Word} (path' : s.pathAny path = true) (one : fld v 0 0 = 1)
    (latched : s.rf aTrip 0 0 = 1) (cool : ∀ i ∈ List.range 82, s.sensorTemp i < deg 100) :
    Runs (.tripLatchClear path v) s (fun t => t.rf aTrip 0 0 = 0 ∧ t.pwr.thermtrip = false) := by
  obtain ⟨u, hu⟩ : ∃ u : State, u = { s.setRf aTrip 0 0 0 with pwr := { s.pwr with thermtrip := false } } := ⟨_, rfl⟩
  have run : execTripLatchClear path v s = .next (if u.mainOk then u.coldMain 2 else u) := by
    rw [hu]
    refine if_pos ⟨path', one, latched, List.all_eq_true.mpr fun i hi => ?_⟩
    rw [decide_eq_true (cool i hi), Bool.or_true]
  have clear : u.rf aTrip 0 0 = 0 := by
    rw [hu]
    exact s.rf_setRf_same _ _ _ _ (by decide)
  have off : u.pwr.thermtrip = false := by rw [hu]
  refine .of run ?_
  split
  · obtain ⟨block, trip⟩ := u.coldMain_trip 2
    exact ⟨(State.rf_of_thermals block (by decide) 0 0).trans clear, trip.trans off⟩
  · exact ⟨clear, off⟩

end Commands

/-- Settles O15: a sample is read, formed and climbed zone by zone, and neither a HOLD, a safety input nor a trip writes a
sensor or a zone; a trip stops the main domains, and a cold reset leaves the latch clear. -/
theorem thermalSensorsAndLadder : Obligations.ThermalSensorsAndLadder := by
  unfold Obligations.ThermalSensorsAndLadder
  intro s
  exact ⟨fun _ _ _ up hi given range => runs_thermalSample up hi given range,
    fun _ hi good cold => runs_sensorPlausibilityTimer_cold hi good cold,
    fun _ _ low on => runs_rungReleaseTimer_warn low on,
    fun _ hz hot on => runs_ladderStepTimer_hot hz hot on,
    fun _ up hi good => runs_thermtripAssert_sensor up hi good,
    fun _ _ path one latched cool => runs_tripLatchClear path one latched cool⟩

end Sys2Proof.Machine
end

section
/-!
No command changes the queue of waiting commands (R480): the operations of the model, in its order, each leave the
commands that wait as they are.
-/

-- Elaborated in turn, as the section of the refutations says.
set_option Elab.async false

namespace Sys2Proof.Machine

variable {todo : List Instr}

/-- The commands that wait are those of the list. -/
def Queued (todo : List Instr) (s : State) : Prop := s.pending = todo

section Shared
variable {s : State} (c : Queued todo s)
include c

/-! ### The named updates and the shared operations -/

/-- An update of the other fields keeps the queue. -/
theorem Queued.update
    {free aon regs pwr ports sw pools flows groups mem seq shed ctxs grpCmd host fw trd thm carts pair cnt} :
    Queued todo ⟨s.pending, free, aon, regs, pwr, ports, sw, pools, flows, groups, mem, seq, shed, ctxs, grpCmd, host,
      fw, trd, thm, carts, pair, cnt⟩ := c

theorem Queued.setReg (a : Nat) (v : Word) : Queued todo (s.setReg a v) := (s.setReg_pending _ _).trans c
theorem Queued.setRf (a h l v : Nat) : Queued todo (s.setRf a h l v) := (s.setRf_pending _ _ _ _).trans c
theorem Queued.bump (a h l n : Nat) : Queued todo (s.bump a h l n) := (s.bump_pending _ _ _ _).trans c
theorem Queued.setCtr (a v : Nat) : Queued todo (s.setCtr a v) := (s.setCtr_pending _ _).trans c
theorem Queued.setRegs (a : Nat) (l : List Word) : Queued todo (s.setRegs a l) := (s.setRegs_pending _ _).trans c
theorem Queued.clearRegs (p : Nat → Bool) : Queued todo (s.clearRegs p) := (s.clearRegs_pending _).trans c
theorem Queued.setPort (a : Nat) (x : Port) : Queued todo (s.setPort a x) := (s.setPort_pending _ _).trans c
theorem Queued.updPort (a : Nat) (f : Port → Port) : Queued todo (s.updPort a f) := (s.updPort_pending _ _).trans c
theorem Queued.setPool (a : Nat) (x : Pool) : Queued todo (s.setPool a x) := (s.setPool_pending _ _).trans c
theorem Queued.setGroup (a : Nat) (x : Group) : Queued todo (s.setGroup a x) := (s.setGroup_pending _ _).trans c
theorem Queued.memPut (a : Nat) (l : List Byte) : Queued todo (s.memPut a l) := (s.memPut_pending _ _).trans c
theorem Queued.memClear (a n : Nat) : Queued todo (s.memClear a n) := (s.memClear_pending _ _).trans c
theorem Queued.setCtx (a : Nat) (x : Ctx) : Queued todo (s.setCtx a x) := (s.setCtx_pending _ _).trans c
theorem Queued.updCtx (a : Nat) (f : Ctx → Ctx) : Queued todo (s.updCtx a f) := (s.updCtx_pending _ _).trans c
theorem Queued.setCart (a : Nat) (x : Cart) : Queued todo (s.setCart a x) := (s.setCart_pending _ _).trans c
theorem Queued.setDom (a : Nat) (x : Domain) : Queued todo (s.setDom a x) := (s.setDom_pending _ _).trans c
theorem Queued.setInq (a v : Nat) (l : List QPkt) : Queued todo (s.setInq a v l) := (s.setInq_pending _ _ _).trans c
theorem Queued.setOutq (a v : Nat) (l : List QPkt) : Queued todo (s.setOutq a v l) := (s.setOutq_pending _ _ _).trans c
theorem Queued.setImage (a : Nat) (x : Option Image) : Queued todo (s.setImage a x) := (s.setImage_pending _ _).trans c
theorem Queued.setSrc (a : Nat) (x : SrcWin) : Queued todo (s.setSrc a x) := (s.setSrc_pending _ _).trans c
theorem Queued.setMember (a : Nat) (x : Member) : Queued todo (s.setMember a x) := (s.setMember_pending _ _).trans c
theorem Queued.draw : Queued todo s.draw.2 := c
theorem Queued.hold (tag : Nat) : Queued todo (s.hold tag) := (s.hold_pending _).trans c
theorem Queued.wake (d : Nat) : Queued todo (s.wake d) := (s.wake_pending _).trans c
theorem Queued.msi (v : Nat) : Queued todo (s.msi v) := (s.msi_pending _).trans c
theorem Queued.ringPut (k : Nat) (e : HostEntry) : Queued todo (s.ringPut k e) := (s.ringPut_pending _ _).trans c
theorem Queued.emit (k : Nat) (p : Pkt) : Queued todo (s.emit k p) := (s.emit_pending _ _).trans c
theorem Queued.sendCuing (typ dst tag m : Nat) (e b : List Byte) (st : Nat) :
    Queued todo (s.sendCuing typ dst tag m e b st) :=
    (s.sendCuing_pending _ _ _ _ _ _ _).trans c
theorem Queued.log (a b k : Nat) (l : List Byte) : Queued todo (s.log a b k l) := (s.log_pending _ _ _ _).trans c
theorem Queued.eventIn (e : HostEntry) : Queued todo (s.eventIn e) := (s.eventIn_pending _).trans c
theorem Queued.eventAt (code st time : Nat) (b : List Byte) : Queued todo (s.eventAt code st time b) :=
    (s.eventAt_pending _ _ _ _).trans c
theorem Queued.event (code st : Nat) (b : List Byte) : Queued todo (s.event code st b) :=
    (s.event_pending _ _ _).trans c
theorem Queued.replyWrite (e : HostEntry) (d : List (Nat × List Byte)) : Queued todo (s.replyWrite e d) :=
    (s.replyWrite_pending _ _).trans c
theorem Queued.replyOut (p : Prog) (st : Nat) (b : List Byte) : Queued todo (s.replyOut p st b) :=
    (s.replyOut_pending _ _ _).trans c
theorem Queued.finish (tag st : Nat) (b : List Byte) : Queued todo (s.finish tag st b) :=
    (s.finish_pending _ _ _).trans c
/-- Serving a command keeps the queue if what serves it does. -/
theorem Queued.serve (tag op size : Nat) (ok : List Byte → Bool) (f : State → Prog → State × Nat × List Byte)
    (h : ∀ s p, Queued todo s → Queued todo (f s p).1) : Queued todo (s.serve tag op size ok f) := by
  have ends {t : State} (ct : Queued todo t) (st : Nat) (b : List Byte) : Queued todo (t.finish tag st b) :=
    (t.finish_pending tag st b).trans ct
  unfold State.serve
  split
  · exact c
  · split
    · exact ends c _ _
    · split
      · exact ends c _ _
      · exact ends (h s _ c) _ _

theorem Queued.ctrAdd (n b v : Nat) : Queued todo (State.ctrAdd n s b v) := (State.ctrAdd_pending _ _ _ _).trans c
theorem Queued.ctrBank (b k code n : Nat) (q : Nat → Bool) : Queued todo (s.ctrBank b k code n q) :=
    (s.ctrBank_pending _ _ _ _ _).trans c
theorem Queued.memUse (a n : Nat) : Queued todo (s.memUse a n) := (s.memUse_pending _ _).trans c
theorem Queued.memStore (a : Nat) (l : List Byte) : Queued todo (s.memStore a l) := (s.memStore_pending _ _).trans c
theorem Queued.evDev (code n : Nat) : Queued todo (s.evDev code n) := (s.evDev_pending _ _).trans c
theorem Queued.pickIn (p v : Nat) : Queued todo (s.pickIn p v) := (s.pickIn_pending _ _).trans c
theorem Queued.enqueue (port : Nat) (p : Pkt) : Queued todo (s.enqueue port p) := (s.enqueue_pending _ _).trans c
theorem Queued.arrives (port : Nat) (p : Pkt) : Queued todo (s.arrives port p).2 := (s.arrives_pending _ _).trans c
theorem Queued.reaches (port : Nat) (p : Pkt) : Queued todo (s.reaches port p).2 := (s.reaches_pending _ _).trans c
theorem Queued.sink (port typ : Nat) (p : Pkt) : Queued todo (s.sink port typ p).2 := (s.sink_pending _ _ _).trans c

end Shared

/-! ### Rules for the shapes that the model's functions are built of -/

section Conditionals
variable {α β : Type} {p : Prop} [Decidable p]

theorem Queued.ite {a b : State} (ca : Queued todo a) (cb : Queued todo b) : Queued todo (if p then a else b) := by
  split <;> assumption

theorem Queued.ite_snd {a b : α × State} (ca : Queued todo a.2) (cb : Queued todo b.2) :
    Queued todo (if p then a else b).2 := by
  split <;> assumption

theorem Queued.ite_fst {a b : State × α} (ca : Queued todo a.1) (cb : Queued todo b.1) :
    Queued todo (if p then a else b).1 := by
  split <;> assumption

theorem Queued.ite_snd_snd {a b : α × β × State} (ca : Queued todo a.2.2) (cb : Queued todo b.2.2) :
    Queued todo (if p then a else b).2.2 := by
  split <;> assumption

end Conditionals

section Folds
variable {α β : Type} {l : List α}

theorem Queued.foldl {f : State → α → State} {s : State} (c :
    Queued todo s) (h : ∀ s x, Queued todo s → Queued todo (f s x)) :
    Queued todo (l.foldl f s) :=
  List.foldlRecOn l f c (fun s c x _ => h s x c)

theorem Queued.foldr {f : α → State → State} {s : State} (c :
    Queued todo s) (h : ∀ x s, Queued todo s → Queued todo (f x s)) :
    Queued todo (l.foldr f s) :=
  List.foldrRecOn l f c (fun s c x _ => h x s c)

theorem Queued.foldl_snd {f : β × State → α → β × State} {s : β × State} (c : Queued todo s.2)
    (h : ∀ s x, Queued todo s.2 → Queued todo (f s x).2) : Queued todo (l.foldl f s).2 :=
  List.foldlRecOn (motive := fun s => Queued todo s.2) l f c (fun s c x _ => h s x c)

theorem Queued.foldl_fst {f : State × β → α → State × β} {s : State × β} (c : Queued todo s.1)
    (h : ∀ s x, Queued todo s.1 → Queued todo (f s x).1) : Queued todo (l.foldl f s).1 :=
  List.foldlRecOn (motive := fun s => Queued todo s.1) l f c (fun s c x _ => h s x c)

end Folds

section Answers
variable {α β : Type} {s t : State} {a : α} {b : β}

theorem Queued.snd {r : α × State} (h : r = (a, t)) (c : Queued todo r.2) : Queued todo t := by
  subst h; exact c

theorem Queued.fst {r : State × α} (h : r = (t, a)) (c : Queued todo r.1) : Queued todo t := by
  subst h; exact c

theorem Queued.snd_snd {r : α × β × State} (h : r = (a, b, t)) (c : Queued todo r.2.2) : Queued todo t := by
  subst h; exact c

/-- What is answered keeps the queue if it does with its local names written out. -/
theorem Queued.fst_of {r r' : State × α} (h : r = r') (c : Queued todo r'.1) : Queued todo r.1 := h ▸ c

theorem Queued.getD {o : Option State} (h : ∀ t, o = some t → Queued todo t) (c : Queued todo s) :
    Queued todo (o.getD s) := by
  cases o with
  | none => exact c
  | some t => exact h t rfl

end Answers

/-! ### What a command and an attempt to issue answer -/

/-- The outcome is a next state, with the queue of `s`. -/
def KeepsQueue (todo : List Instr) (s : State) (o : Out) : Prop := ∃ t, o = .next t ∧ (Queued todo s → Queued todo t)

/-- The state that an attempt to issue leaves, where it leaves one, has the queue. -/
def QueuedIssue (todo : List Instr) : Issue → Prop
  | .done t => Queued todo t
  | .jump t _ => Queued todo t
  | .ended t => Queued todo t
  | .yields t => Queued todo t
  | .trap _ _ _ => True
  | .fault t _ _ _ => Queued todo t
  | .wait t => Queued todo t
  | .still t => Queued todo t

/-- The state that comes with resolved addresses has the queue. -/
def QueuedLocs (todo : List Instr) : Locs → Prop
  | .ok _ t => Queued todo t
  | .trap _ _ _ t => Queued todo t
  | .wait t => Queued todo t

section Outcomes
variable {s t : State} {o : Out} {p : Prop} [Decidable p]

theorem KeepsQueue.next (h : Queued todo s → Queued todo t) : KeepsQueue todo s (.next t) := ⟨t, rfl, h⟩

theorem KeepsQueue.ite {a b : Out} (ha : KeepsQueue todo s a) (hb : KeepsQueue todo s b) :
    KeepsQueue todo s (if p then a else b) := by
  split <;> assumption

theorem KeepsQueue.of (h : Queued todo s → Queued todo t) (k : KeepsQueue todo t o) : KeepsQueue todo s o := by
  obtain ⟨u, rfl, hu⟩ := k
  exact .next fun c => hu (h c)

theorem Queued.after (h : KeepsQueue todo s o) (c : Queued todo s) : Queued todo (s.after o) := by
  obtain ⟨t, rfl, ht⟩ := h
  exact ht c

theorem QueuedIssue.done (c : Queued todo t) : QueuedIssue todo (.done t) := c
theorem QueuedIssue.jump (c : Queued todo t) {pc} : QueuedIssue todo (.jump t pc) := c
theorem QueuedIssue.ended (c : Queued todo t) : QueuedIssue todo (.ended t) := c
theorem QueuedIssue.yields (c : Queued todo t) : QueuedIssue todo (.yields t) := c
theorem QueuedIssue.fault (c : Queued todo t) {k a st} : QueuedIssue todo (.fault t k a st) := c
theorem QueuedIssue.wait (c : Queued todo t) : QueuedIssue todo (.wait t) := c
theorem QueuedIssue.still (c : Queued todo t) : QueuedIssue todo (.still t) := c
theorem QueuedIssue.trap {k a st} : QueuedIssue todo (.trap k a st) := trivial

theorem QueuedIssue.ite {a b : Issue} (ha : QueuedIssue todo a) (hb : QueuedIssue todo b) :
    QueuedIssue todo (if p then a else b) := by
  split <;> assumption

end Outcomes

section Functions
variable {s : State}

/-! ### Ops: the shared operations -/

theorem Queued.choose {α : Type} (c : Queued todo s) {l : List α} : Queued todo (s.choose l).2 := by
  unfold State.choose
  split
  exacts [c, c, c.draw]

theorem Queued.toDepth (c : Queued todo s) {d x} : Queued todo (s.toDepth d x) := c.setDom _ _

theorem Queued.toOff (c : Queued todo s) {d k} : Queued todo (s.toOff d k) := c.setDom _ _

theorem Queued.evClu (c : Queued todo s) {n0 code n} : Queued todo (s.evClu n0 code n) := .ite c (c.ctrBank _ _ _ _ _)

theorem Queued.evPick (c : Queued todo s) {p v code} : Queued todo (s.evPick p v code) := c.ctrBank _ _ _ _ _

theorem Queued.evUnit (c : Queued todo s) {n0 code unit n} : Queued todo (s.evUnit n0 code unit n) :=
  .ite c (c.ctrBank _ _ _ _ _)

theorem Queued.replyFlush (c : Queued todo s) : Queued todo s.replyFlush := by
  unfold State.replyFlush
  exact .ite c (.foldl c.update fun _ _ c => c.replyWrite _ _)

theorem Queued.answer (c : Queued todo s) {src status reply} : Queued todo (s.answer src status reply) := by
  unfold State.answer
  split
  exacts [c, c.finish _ _ _]

/-! ### Pool: the bobbin pools -/

theorem Queued.poolReserve (c : Queued todo s) {a h k n t} (e : s.poolReserve a h k n = some t) : Queued todo t := by
  unfold State.poolReserve at e
  split at e <;> cases e
  exact c.setPool _ _

theorem Queued.poolReserveAll (c : Queued todo s) {a h l t} (e : s.poolReserveAll a h l = some t) : Queued todo t := by
  induction l generalizing s with
  | nil => cases e; exact c
  | cons x r ih =>
    unfold State.poolReserveAll at e
    split at e
    · cases e
    · exact ih (c.poolReserve ‹_›) e

theorem Queued.poolRelease (c : Queued todo s) {n0 a1} : Queued todo (s.poolRelease n0 a1) := by
  unfold State.poolRelease
  exact c.setPool _ _

theorem Queued.poolDraw (c : Queued todo s) {n0 k rsvd a1} : Queued todo (s.poolDraw n0 k rsvd a1).2 := by
  unfold State.poolDraw
  extract_lets
  split
  next h1 =>
  exact .setPool (.snd h1 c.draw) _ _

theorem Queued.poolDrawBytes (c : Queued todo s) {n0 n a1} : Queued todo (s.poolDrawBytes n0 n a1).2 := by
  unfold State.poolDrawBytes
  extract_lets _ s1
  have c1 : Queued todo s1 := c.evUnit
  split
  · split
    next h2 =>
    exact .snd h2 c.poolDraw
  · exact .ite_snd c (c1.setPool _ _)

theorem Queued.dfLog (c : Queued todo s) {n0 handle unit holder} : Queued todo (s.dfLog n0 handle unit holder) := by
  unfold State.dfLog
  exact .ite c (.event (.setReg (.setReg (.setReg (c.setReg _ _) _ _) _ _) _ _) _ _ _)

theorem Queued.poolFree (c : Queued todo s) {n0 handle unit holder} :
    Queued todo (s.poolFree n0 handle unit holder).2 := by
  unfold State.poolFree
  exact .ite_snd (c.bump _ _ _ _) (.ite_snd (c.setPool _ _) (.dfLog (c.bump _ _ _ _)))

theorem Queued.poolFreeAll (c : Queued todo s) {n0 a1} : Queued todo (s.poolFreeAll n0 a1) := by
  unfold State.poolFreeAll
  exact c.setPool _ _

theorem Queued.poolDrawN (c : Queued todo s) {a k h n} : Queued todo (s.poolDrawN a k h n) := by
  induction n generalizing s with
  | zero => exact c
  | succ n ih => exact ih c.poolDraw

theorem Queued.poolHold (c : Queued todo s) {n0 k a1 n} : Queued todo (s.poolHold n0 k a1 n) := by
  unfold State.poolHold
  exact .ite c.poolDrawN (c.setPool _ _)

theorem Queued.portTrim (c : Queued todo s) {p v} : Queued todo (s.portTrim p v) := by
  unfold State.portTrim
  exact .ite c (.ite c.poolRelease (.setPool c.poolRelease _ _))

theorem Queued.picksOut (c : Queued todo s) {p v n} : Queued todo (s.picksOut p v n) := by
  induction n generalizing s with
  | zero => exact c
  | succ n ih =>
    unfold State.picksOut
    exact .ite c (ih (.ite (.portTrim (c.setPool _ _)) (c.setPool _ _)))

theorem Queued.portReserve (c : Queued todo s) {p t} (e : s.portReserve p = some t) : Queued todo t := by
  refine List.foldlRecOn (motive := fun o => ∀ t, o = some t → Queued todo t) (List.range 7) _ ?_ ?_ t e
  · rintro t ⟨⟩
    exact c
  · intro o ih v _ t e
    split at e
    · cases e
    · exact (ih _ rfl).poolRelease.poolReserve e

theorem Queued.portUnreserve (c : Queued todo s) {p} : Queued todo (s.portUnreserve p) :=
  .foldl c fun _ _ c => c.portTrim

theorem Queued.carve (c : Queued todo s) {n0} : Queued todo (s.carve n0) := .foldl c fun _ _ c => c.setRf _ _ _ _

theorem Queued.poolRebuild (c : Queued todo s) {n0} : Queued todo (s.poolRebuild n0) := by
  unfold State.poolRebuild
  exact c.setPool _ _

theorem queue_execBobApply {path n0 v} : KeepsQueue todo s (execBobApply path n0 v s) := by
  unfold execBobApply
  exact .ite (.next fun c => .setRf (.ite c.carve c) _ _ _ _) (.next id)

theorem queue_execBobDrawServed {n0 cls} : KeepsQueue todo s (execBobDrawServed n0 cls s) := by
  unfold execBobDrawServed
  split
  exacts [.next fun c => .poolDraw (c.setPool _ _), .next id]

theorem queue_execBobDfLogClear {path n0 v} : KeepsQueue todo s (execBobDfLogClear path n0 v s) :=
  .ite (.next fun c => .setReg (.setReg (.setReg (c.setReg _ _) _ _) _ _) _ _) (.next id)

theorem queue_execBobErrClear {path n0 v} : KeepsQueue todo s (execBobErrClear path n0 v s) :=
  .ite (.next fun c => c.setReg _ _) (.next id)

/-! ### Route: routes, multicast copies and the checks on arrival -/

theorem Queued.memberScan (c : Queued todo s) : Queued todo s.memberScan := by
  unfold State.memberScan
  exact .foldl c fun _ _ c => .ite (.event (c.setMember _ _) _ _ _) c

theorem Queued.uncut (c : Queued todo s) : Queued todo s.uncut := by
  unfold State.uncut
  exact .memberScan (.ite c.update c)

/-! ### Mirror: the mirror stream as the active sends it -/

theorem Queued.pairMsg (c : Queued todo s) {op data} : Queued todo (s.pairMsg op data) := c.emit _ _

theorem Queued.sendItem (c : Queued todo s) {m} : Queued todo (s.sendItem m) := by
  unfold State.sendItem
  exact .foldl c fun _ _ c => c.pairMsg

theorem Queued.mirrorPut (c : Queued todo s) {typ key body tag reply} :
    Queued todo (s.mirrorPut typ key body tag reply) := by
  unfold State.mirrorPut
  exact .ite (.sendItem c.update) (.ite (.update (.sendItem c.update)) c.update.update)

theorem Queued.mirror (c : Queued todo s) {typ key body} : Queued todo (s.mirror typ key body) := .ite c.mirrorPut c

theorem Queued.mirrorAnswer (c : Queued todo s) {typ key body src reply} :
    Queued todo (s.mirrorAnswer typ key body src reply) :=
  by
  unfold State.mirrorAnswer
  split
  exacts [c.mirror, .ite (.mirrorPut (c.hold _)) (.finish c.mirror _ _ _)]

theorem Queued.mirrorEnd (c : Queued todo s) {state} : Queued todo (s.mirrorEnd state) := by
  unfold State.mirrorEnd
  refine .foldl (.update (c.setRf _ _ _ _)) fun _ _ c => ?_
  split
  exacts [c.finish _ _ _, c]

theorem Queued.mirrorPorts (c : Queued todo s) : Queued todo s.mirrorPorts := .ite c.mirror c

theorem Queued.mirrorTrd (c : Queued todo s) : Queued todo s.mirrorTrd := .ite c.mirror c

theorem Queued.mirrorSelf (c : Queued todo s) : Queued todo s.mirrorSelf := .ite c.mirror c

theorem Queued.mirrorSlot (c : Queued todo s) {n} : Queued todo (s.mirrorSlot n) := .ite c.mirror c

theorem Queued.mirrorPte (c : Queued todo s) {n lpn e} : Queued todo (s.mirrorPte n lpn e) := .ite c.mirror c

/-! ### Sink: the packets that the device sinks -/

theorem Queued.sinkAgain (c : Queued todo s) {port p} : Queued todo (s.sinkAgain port p) := by
  unfold State.sinkAgain
  exact c.update

theorem Queued.mgtLost (c : Queued todo s) : Queued todo s.mgtLost := by
  unfold State.mgtLost
  exact c.update

/-! ### Reed: collective groups and their reeds -/

theorem Queued.groupReserve (c : Queued todo s) {g win} : Queued todo (s.groupReserve g win) := by
  unfold State.groupReserve
  exact .foldl c fun _ _ c => .ite (c.setRf _ _ _ _) (.getD (fun _ h => .poolReserve (c.setRf _ _ _ _) h)
    (c.setRf _ _ _ _))

theorem Queued.groupArm (c : Queued todo s) {g win epoch} : Queued todo (s.groupArm g win epoch) := by
  unfold State.groupArm
  exact .setGroup (.setReg (.setRf (.setRf (.setRf (c.setRf _ _ _ _) _ _ _ _) _ _ _ _) _ _ _ _) _ _) _ _

theorem Queued.groupFree (c : Queued todo s) {g} : Queued todo (s.groupFree g) := by
  unfold State.groupFree
  exact .setGroup (.setRf (.setRf (.setRf (.foldl c fun _ _ c => .poolRelease
    (.poolFreeAll (c.setRf _ _ _ _))) _ _ _ _) _ _ _ _) _ _ _ _) _ _

theorem Queued.emitCopy (c : Queued todo s) {n0 mc p} : Queued todo (s.emitCopy n0 mc p) := by
  unfold State.emitCopy
  exact .ite c (.setInq (c.emit _ _) _ _ _)

theorem Queued.updSlot (c : Queued todo s) {g chunk f} : Queued todo (s.updSlot g chunk f) := by
  unfold State.updSlot
  exact c.setGroup _ _

theorem Queued.sendCopies (c : Queued todo s) {g chunk ps} : Queued todo (s.sendCopies g chunk ps) :=
  .foldl c fun _ _ c => .ite c (.updSlot c.emitCopy)

theorem Queued.releaseWave (c : Queued todo s) {g chunk w data} : Queued todo (s.releaseWave g chunk w data) := by
  unfold State.releaseWave
  exact .foldl c fun _ _ c => .ite c.sendCopies c

theorem Queued.advance (c : Queued todo s) {n g} : Queued todo (State.advance n s g) := by
  induction n generalizing s with
  | zero => exact c
  | succ n ih =>
    unfold State.advance
    exact .ite (ih ((c.setGroup _ _).setRf _ _ _ _)) c

theorem Queued.resultFree (c : Queued todo s) {n0 g hand} : Queued todo (s.resultFree n0 g hand) := by
  unfold State.resultFree
  exact c.setPool _ _

theorem Queued.resultDraw (c : Queued todo s) {g chunk data} : Queued todo (s.resultDraw g chunk data).2 := by
  unfold State.resultDraw
  refine .ite_snd c ?_
  split
  next h1 =>
  exact .snd h1 c.poolDraw

theorem Queued.remark (c : Queued todo s) {a b} : Queued todo (s.remark a b) := by
  unfold State.remark
  exact c.update

theorem Queued.slotCleared (c : Queued todo s) {g y} : Queued todo (s.slotCleared g y) := by
  unfold State.slotCleared
  split
  exacts [c.remark, .ite c.remark c.resultFree]

theorem Queued.freeSlot (c : Queued todo s) {g chunk} : Queued todo (s.freeSlot g chunk) := by
  unfold State.freeSlot
  refine .advance (.setGroup ?_ _ _)
  split
  · split
    exacts [c.resultFree, c]
  · exact c

theorem Queued.copyGone (c : Queued todo s) {mc} : Queued todo (s.copyGone mc) := by
  unfold State.copyGone
  refine .ite (.ite c c.resultFree) (.ite c (.ite (.dfLog (c.bump _ _ _ _)) ?_))
  extract_lets s1
  have c1 : Queued todo s1 := c.updSlot
  split
  exacts [.ite c1.freeSlot c1, c1]

theorem Queued.unreached (c : Queued todo s) {mc} : Queued todo (s.unreached mc) := c.bump _ _ _ _

theorem Queued.sendFail (c : Queued todo s) {g chunk epoch status} : Queued todo (s.sendFail g chunk epoch status) := by
  unfold State.sendFail
  exact .foldl c fun _ _ c => c.emitCopy

theorem Queued.failInstance (c : Queued todo s) {g e status} : Queued todo (s.failInstance g e status) := by
  unfold State.failInstance
  refine .ite c (.advance (.ite ?_ (.evDev (.bump (.bump (.setRf
    (.sendFail (.setGroup (.foldl c fun _ _ c => c.slotCleared) _ _)) _ _ _ _) _ _ _ _) _ _ _ _) _ _)))
  extract_lets s1
  have c1 : Queued todo s1 := .setRf (.evDev (.bump (.bump (.setRf
    (.sendFail (.setGroup (.foldl c fun _ _ c => c.slotCleared) _ _)) _ _ _ _) _ _ _ _) _ _ _ _) _ _) _ _ _ _
  exact .ite c1 (c1.event _ _ _)

theorem Queued.failOpen (c : Queued todo s) {g status always} : Queued todo (s.failOpen g status always) := by
  unfold State.failOpen
  exact .foldl c fun _ _ c => c.failInstance

theorem Queued.reedLost (c : Queued todo s) {n0} : Queued todo (s.reedLost n0) :=
  .foldl c fun _ _ c => .ite (.ite (.setRf c.failOpen _ _ _ _) (.ite c.failOpen c)) c

theorem Queued.holdResult (c : Queued todo s) {g chunk data} : Queued todo (s.holdResult g chunk data) := by
  unfold State.holdResult
  extract_lets
  split
  next h1 =>
  extract_lets s2 _ s3 s4
  have c2 : Queued todo s2 := .updSlot (.snd h1 c.resultDraw)
  have c3 : Queued todo s3 := .ite c2.sendCopies c2
  have c4 : Queued todo s4 := .ite c3.releaseWave (.foldl c3 fun _ _ c => c.releaseWave)
  split
  exacts [.ite c4.freeSlot c4, c4]

theorem Queued.reedElems (c : Queued todo s) {n0 ofs n} : Queued todo (s.reedElems n0 ofs n) :=
  .foldl c fun _ _ c => c.evUnit

theorem Queued.reedChunk (c : Queued todo s) {n0 n} : Queued todo (s.reedChunk n0 n) := by
  unfold State.reedChunk
  exact c.ctrBank _ _ _ _ _

theorem Queued.chunkEnd (c : Queued todo s) {g chunk} : Queued todo (s.chunkEnd g chunk) := by
  unfold State.chunkEnd
  split
  · exact c
  · exact .ite c (.ite (.holdResult (.bump c.reedChunk _ _ _ _))
      (.foldl (.updSlot c.reedChunk) fun _ _ c => c.emit _ _))

theorem Queued.contribute (c : Queued todo s) {g member chunk ofs fmt elems e data} : Queued todo
    (s.contribute g member chunk ofs fmt elems e data) := by
  unfold State.contribute
  refine .ite (c.bump _ _ _ _) (.ite c.failInstance (.ite (.ite c (c.bump _ _ _ _))
    (.ite c.failInstance (.ite c.failInstance ?_))))
  extract_lets s1 s2 s3
  have c1 : Queued todo s1 := .ite (c.setGroup _ _) c
  have c2 : Queued todo s2 := c1.reedElems
  have c3 : Queued todo s3 := c2.updSlot
  exact .ite (c3.setGroup _ _) c3.chunkEnd

theorem queue_execContrib {port pkt} : KeepsQueue todo s (execContrib port pkt s) := by
  unfold execContrib
  split
  next h1 =>
  exact .ite (.next fun c => .snd h1 (c.sink _ _ _)) (.ite (.next fun c => .bump (.snd h1 (c.sink _ _ _)) _ _ _ _)
    (.ite (.next fun c => .bump (.snd h1 (c.sink _ _ _)) _ _ _ _)
    (.ite (.next fun c => .bump (.snd h1 (c.sink _ _ _)) _ _ _ _)
    (.ite (.next fun c => .contribute (.snd h1 (c.sink _ _ _)))
    (.next fun c => .wake (.sinkAgain (.snd h1 (c.sink _ _ _))) _)))))

theorem Queued.parentResult (c : Queued todo s) {g pkt} : Queued todo (s.parentResult g pkt) := by
  unfold State.parentResult
  extract_lets
  split
  exacts [c, .ite c (.ite (.holdResult c.updSlot) c.updSlot)]

theorem queue_execReleaseWave {g chunk w} : KeepsQueue todo s (execReleaseWave g chunk w s) := by
  unfold execReleaseWave
  split
  · split
    · refine .ite ?_ (.next id)
      extract_lets s1 s2
      have c1 : Queued todo s → Queued todo s1 := fun c => c.updSlot
      have c2 : Queued todo s → Queued todo s2 := fun c => .releaseWave (c1 c)
      split
      exacts [.next fun c => .ite (.freeSlot (c2 c)) (c2 c), .next c2]
    · exact .next id
  · exact .next id

theorem queue_execChunkTimeout {g gc} : KeepsQueue todo s (execChunkTimeout g gc s) := by
  unfold execChunkTimeout
  split
  exacts [.ite (.next fun c => c.failInstance) (.next id), .next id]

theorem queue_execGateGrant {g} : KeepsQueue todo s (execGateGrant g s) := by
  unfold execGateGrant
  extract_lets
  split
  · exact .next id
  · refine .ite ?_ (.next id)
    extract_lets _ s1 s2 _ s3
    have c1 : Queued todo s → Queued todo s1 := fun c => c.setGroup _ _
    have c2 : Queued todo s → Queued todo s2 := fun c => .emitCopy (c1 c)
    have c3 : Queued todo s → Queued todo s3 := fun c => .setGroup (c2 c) _ _
    exact .ite (.next fun c => .freeSlot (c3 c)) (.next c2)

theorem queue_execGateTimeout {g} : KeepsQueue todo s (execGateTimeout g s) :=
  .ite (.next fun c => c.failInstance) (.next id)

theorem Queued.grpEnd (c : Queued todo s) {g st win tag} : Queued todo (s.grpEnd g st win tag) := by
  unfold State.grpEnd
  refine .ite (.mirrorAnswer (.update (.setRf (c.setRf _ _ _ _) _ _ _ _))) ?_
  split
  exacts [.finish (.update (.setRf (c.setRf _ _ _ _) _ _ _ _)) _ _ _, .update (.setRf (c.setRf _ _ _ _) _ _ _ _)]

theorem Queued.grpStart (c : Queued todo s) {src cmd f} (h : ∀ s g e, Queued todo s → Queued todo (f s g e)) :
    Queued todo (s.grpStart src cmd f) := by
  unfold State.grpStart
  split
  exacts [c, .ite c (.ite c.answer (.ite c.answer (h _ _ _ c)))]

theorem queue_execGroupAdmit {src} : KeepsQueue todo s (execGroupAdmit src s) := by
  unfold execGroupAdmit
  refine .next fun c => c.grpStart fun _ _ _ c => ?_
  split
  refine .ite (.grpEnd (c.setRf _ _ _ _)) (.update (.setRf ?_ _ _ _ _))
  split
  exacts [.hold (.groupReserve (c.setRf _ _ _ _)) _, .groupReserve (c.setRf _ _ _ _)]

theorem queue_execGroupAdmitDone : KeepsQueue todo s (execGroupAdmitDone s) := by
  unfold execGroupAdmitDone
  split
  exacts [.next fun c => .grpEnd c.groupArm, .next id]

theorem queue_execGroupRelease {src} : KeepsQueue todo s (execGroupRelease src s) := by
  unfold execGroupRelease
  refine .next fun c => c.grpStart fun _ _ _ c => .ite c.grpEnd (.update (.setRf ?_ _ _ _ _))
  split
  exacts [.hold (.setRf c.failOpen _ _ _ _) _, .setRf c.failOpen _ _ _ _]

theorem queue_execGroupReleaseDrained {g} : KeepsQueue todo s (execGroupReleaseDrained g s) := by
  unfold execGroupReleaseDrained
  refine .ite ?_ (.next id)
  extract_lets s1
  have c1 : Queued todo s → Queued todo s1 := fun c => c.groupFree
  split
  exacts [.next fun c => .ite (.grpEnd (c1 c)) (c1 c), .next c1]

theorem queue_execGroupRearm {src} : KeepsQueue todo s (execGroupRearm src s) := by
  unfold execGroupRearm
  exact .next fun c => c.grpStart fun _ _ _ c => .ite c.grpEnd
    (.grpEnd (.setGroup (.setRf (c.setRf _ _ _ _) _ _ _ _) _ _))

theorem queue_execRteGrpErrClear {path v} : KeepsQueue todo s (execRteGrpErrClear path v s) :=
  .ite (.next fun c => .setReg (c.setReg _ _) _ _) (.next id)

theorem queue_execReedErrClear {path n0 v} : KeepsQueue todo s (execReedErrClear path n0 v s) :=
  .ite (.next fun c => c.setReg _ _) (.next id)

theorem Queued.grpWordWrite (c : Queued todo s) {a v} : Queued todo (s.grpWordWrite a v).2 :=
  .ite_snd (c.setReg _ _) (c.setRf _ _ _ _)

theorem queue_execGroupWrite {src} : KeepsQueue todo s (execGroupWrite src s) := by
  unfold execGroupWrite
  split
  · exact .ite (.next fun c => c.grpWordWrite) (.next id)
  · split
    · exact .next id
    · exact .ite (.next fun c => c.finish _ _ _) (.ite (.next fun c => .finish
        (.foldl c fun _ _ c => c.grpWordWrite) _ _ _) (.next fun c => .finish (c.setRf _ _ _ _) _ _ _))

theorem queue_execGroupRead {tag} : KeepsQueue todo s (execGroupRead tag s) :=
  .next fun c => c.serve _ _ _ _ _ fun _ _ c => c

/-! ### Frame: control messages of a port -/

theorem Queued.ctlSend (c : Queued todo s) {p typ body} : Queued todo (s.ctlSend p typ body) := by
  unfold State.ctlSend
  exact c.updPort _ _

theorem Queued.ctlStale (c : Queued todo s) {p typ msg} : Queued todo (s.ctlStale p typ msg) := .ite (c.updPort _ _) c

theorem Queued.ctlTake (c : Queued todo s) {p typ msg t} (e : s.ctlTake p typ msg = some t) : Queued todo t := by
  unfold State.ctlTake at e
  dsimp only at e
  split at e
  · cases e
  · split at e <;> cases e
    exact (c.setPort _ _).updPort _ _

theorem Queued.sendFrame (c : Queued todo s) {p ftype fsn slots} : Queued todo (s.sendFrame p ftype fsn slots) := by
  unfold State.sendFrame
  exact c.updPort _ _

theorem Queued.ctlNow (c : Queued todo s) {p typ body} : Queued todo (s.ctlNow p typ body) := by
  unfold State.ctlNow
  exact .sendFrame (.setPort c.ctlSend _ _)

theorem Queued.ctlFrame (c : Queued todo s) {p typ body} : Queued todo (s.ctlFrame p typ body) := by
  unfold State.ctlFrame
  exact .sendFrame (.setPort c.ctlSend _ _)

theorem Queued.paceSend (c : Queued todo s) {p mask rate} : Queued todo (s.paceSend p mask rate) := .ite c.ctlSend c

theorem Queued.setPace (c : Queued todo s) {p f} : Queued todo (s.setPace p f) := by
  unfold State.setPace
  exact .foldl (c.setPort _ _) fun _ _ c => c.paceSend

/-! ### Mem: contexts and their benches -/

theorem Queued.memLoad (c : Queued todo s) {a n} : Queued todo (s.memLoad a n).2 := c.memUse _ _

theorem Queued.eccBump (c : Queued todo s) {a} : Queued todo (s.eccBump a) := c.bump _ _ _ _

theorem Queued.updItem (c : Queued todo s) {i f} : Queued todo (s.updItem i f) := by
  unfold State.updItem
  exact c.update

theorem Queued.benchPut (c : Queued todo s) {x off l} : Queued todo (s.benchPut x off l) := c.updCtx _ _

theorem Queued.setS (c : Queued todo s) {x i v} : Queued todo (s.setS x i v) := c.updCtx _ _

theorem Queued.evShu (c : Queued todo s) {x code n qual} : Queued todo (s.evShu x code n qual) := by
  unfold State.evShu
  exact .ite c (.foldl c fun _ _ c => .ite (.ctrAdd (.ite (c.updCtx _ _) c) _ _ _) c)

/-! ### Own: the device as a source of flows -/

theorem Queued.updSrc (c : Queued todo s) {w f} : Queued todo (s.updSrc w f) := c.setSrc _ _

theorem Queued.injBuffer (c : Queued todo s) {n0 key len} : Queued todo (s.injBuffer n0 key len).2 := by
  unfold State.injBuffer
  refine .ite_snd c (.ite_snd c ?_)
  split
  next h1 =>
  exact .snd h1 c.poolDrawBytes

theorem Queued.emitHeld (c : Queued todo s) {n0 key p} : Queued todo (s.emitHeld n0 key p) := by
  unfold State.emitHeld
  exact .setPool (c.emit _ _) _ _

theorem Queued.freshWait (c : Queued todo s) {flow fsn} : Queued todo (s.freshWait flow fsn) := by
  unfold State.freshWait
  exact c.update

theorem Queued.sendReq (c : Queued todo s) {n0 key w typ fence kind size op data} : Queued todo
    (s.sendReq n0 key w typ fence kind size op data) := by
  unfold State.sendReq
  exact .emitHeld (.freshWait (c.setSrc _ _))

theorem Queued.wopen (c : Queued todo s) {n0 w dst item pkts req rsp spray} : Queued todo
    (s.wopen n0 w dst item pkts req rsp spray) := by
  unfold State.wopen
  exact .emit (.freshWait (c.setSrc _ _)) _ _

theorem Queued.wclose (c : Queued todo s) {n0 w} : Queued todo (s.wclose n0 w) := by
  unfold State.wclose
  exact .setSrc (c.emit _ _) _ _

theorem Queued.wcloseWhenDone (c : Queued todo s) {w} : Queued todo (s.wcloseWhenDone w) := by
  unfold State.wcloseWhenDone
  exact .ite c.wclose c

theorem Queued.opDeliver (c : Queued todo s) {item o r} : Queued todo (s.opDeliver item o r) := by
  unfold State.opDeliver
  split
  · split
    · split
      exacts [.ite c.benchPut c, .ite c.benchPut c, .benchPut (.benchPut c.benchPut), c]
    · exact c
  · exact c

theorem Queued.noteFail (c : Queued todo s) {item w} : Queued todo (s.noteFail item w) := by
  unfold State.noteFail
  split
  exacts [c.updItem, c]

theorem Queued.opRecord (c : Queued todo s) {o r} : Queued todo (s.opRecord o r) := by
  unfold State.opRecord
  split
  exacts [c, c, c, c, c.update]

theorem Queued.lateRsp (c : Queued todo s) {how} : Queued todo (s.lateRsp how) := by
  unfold State.lateRsp
  exact .ite c.update c

theorem Queued.opEnd (c : Queued todo s) {dst flow fsn how r} : Queued todo (s.opEnd dst flow fsn how r) := by
  unfold State.opEnd
  split
  · exact c.lateRsp
  · extract_lets
    split
    · exact c.lateRsp
    · refine .ite c.lateRsp ?_
      extract_lets _ s1 s2 s3
      have c1 : Queued todo s1 := c.setSrc _ _
      have c2 : Queued todo s2 := .ite c1 c1.noteFail
      have c3 : Queued todo s3 := .ite c2.opDeliver c2
      exact .wcloseWhenDone (.ite c3.lateRsp c3.opRecord)

theorem Queued.takeEnd (c : Queued todo s) {k x t} (e : s.takeEnd k = some (x, t)) : Queued todo t := by
  obtain ⟨y, -, e⟩ := Option.map_eq_some_iff.mp e
  cases e
  exact c

/-! ### Join: the join records of a context -/

theorem Queued.setJoin (c : Queued todo s) {x j v} : Queued todo (s.setJoin x j v) := c.updCtx _ _

theorem Queued.contribPkt (c : Queued todo s) {x im j k ofs n data t} (e : s.contribPkt x im j k ofs n data = some t) :
    Queued todo t := by
  unfold State.contribPkt at e
  dsimp only at e
  split at e
  · cases e
    exact c.emit _ _
  · split at e
    · split at e <;> cases e
      exact c.poolDraw.emit _ _
    · cases e

theorem Queued.joinSend (c : Queued todo s) {x jn} : Queued todo (s.joinSend x jn) := by
  unfold State.joinSend
  split
  · refine .ite c (.setJoin (.foldl_fst c fun a y ca => .ite_fst ca ?_))
    split
    · split
      · exact ca.contribPkt ‹_›
      · exact ca
    · exact ca
  · exact c

theorem Queued.joinsGo (c : Queued todo s) {n0 im} : Queued todo (s.joinsGo n0 im) := by
  unfold State.joinsGo
  exact .foldl c fun _ _ c => .foldl c fun _ _ c' => c'.joinSend

/-! ### Switch: packets in the crossbar -/

theorem Queued.freeOf (c : Queued todo s) {k a0 n} : Queued todo (s.freeOf k a0 n) := by
  unfold State.freeOf
  exact .ite (.ite c.picksOut (.updPort c.picksOut _ _)) c

theorem Queued.freeRest (c : Queued todo s) {k} : Queued todo (s.freeRest k) := c.freeOf

theorem Queued.freePick (c : Queued todo s) {p v} : Queued todo (s.freePick p v) := c.updPort _ _

theorem Queued.dropHead (c : Queued todo s) {q v} : Queued todo (s.dropHead q v) := by
  unfold State.dropHead
  split
  exacts [c, .freeRest (c.setInq _ _ _)]

theorem Queued.winRelease (c : Queued todo s) {n0 src dst flow} : Queued todo (s.winRelease n0 src dst flow) := by
  unfold State.winRelease
  extract_lets _ _ s1
  have c1 : Queued todo s1 := .poolRelease c.poolFreeAll
  exact .foldl_fst c1 fun _ _ c => .ite c (.poolDrawN (c.setPool _ _))

theorem Queued.winSync (c : Queued todo s) {src dst flow} : Queued todo (s.winSync src dst flow) := by
  unfold State.winSync
  extract_lets
  split
  exacts [c, .ite c.poolHold c.winRelease]

theorem Queued.pktGone (c : Queued todo s) {k} : Queued todo (s.pktGone k) := by
  unfold State.pktGone
  exact .ite c (.foldl (.setPool (.poolFreeAll (.ite c.winSync c)) _ _) fun _ _ c => c.joinsGo)

theorem Queued.discardHead (c : Queued todo s) {q v} : Queued todo (s.discardHead q v) := by
  unfold State.discardHead
  split
  exacts [c, .pktGone c.dropHead]

theorem Queued.copyLost (c : Queued todo s) {k} : Queued todo (s.copyLost k) := by
  unfold State.copyLost
  split
  exacts [.copyGone (.ite (.foldl c fun _ _ c => c.unreached) c), c]

theorem Queued.lostHead (c : Queued todo s) {q v} : Queued todo (s.lostHead q v) := by
  unfold State.lostHead
  split
  exacts [c, .copyLost c.discardHead]

theorem Queued.withdrawRest (c : Queued todo s) {p} : Queued todo (s.withdrawRest p) := by
  unfold State.withdrawRest
  exact c.updPort _ _

theorem Queued.toOut (c : Queued todo s) {p v k} : Queued todo (s.toOut p v k) :=
  .wake (.withdrawRest (c.setOutq _ _ _)) _

theorem Queued.forward (c : Queued todo s) {q v p pv} : Queued todo (s.forward q v p pv) := by
  unfold State.forward
  split
  exacts [c, .toOut (.ite c.dropHead (c.setInq _ _ _))]

theorem Queued.sinkHead (c : Queued todo s) {q v} : Queued todo (s.sinkHead q v) := by
  unfold State.sinkHead
  split
  · exact c
  · extract_lets s1 _ s2
    have c1 : Queued todo s1 := .pktGone c.dropHead
    have c2 : Queued todo s2 := c1.update
    split
    exacts [c2.copyGone, c2]

theorem Queued.waitHead (c : Queued todo s) {q v} : Queued todo (s.waitHead q v) := by
  unfold State.waitHead
  split
  exacts [c, c.setInq _ _ _]

theorem Queued.wakePort (c : Queued todo s) {p} : Queued todo (s.wakePort p) := by
  unfold State.wakePort
  refine .ite c ?_
  extract_lets s1 s2
  have c1 : Queued todo s1 := .wake (c.wake _) _
  have c2 : Queued todo s2 := c1.updPort _ _
  exact .ite c2 c2.ctlSend

theorem Queued.copiesMade (c : Queued todo s) {mc n} : Queued todo (s.copiesMade mc n) :=
  .ite c (.ite c.copyGone c.updSlot)

theorem Queued.mcastLost (c : Queued todo s) {mc} : Queued todo (s.mcastLost mc) := by
  unfold State.mcastLost
  extract_lets s1
  have c1 : Queued todo s1 := c.bump _ _ _ _
  split
  exacts [.ite c1.unreached c1, c1]

theorem Queued.replicate (c : Queued todo s) {q v} : Queued todo (s.replicate q v) := by
  unfold State.replicate
  split
  · exact c
  · refine .ite ?_ ?_
    · extract_lets s1
      have c1 : Queued todo s1 := .discardHead (.evDev (c.bump _ _ _ _) _ _)
      split
      exacts [c1.copiesMade, c1]
    · extract_lets _ _ _ _ _ s2 s3 _ s4 s5 s6 s7
      have c2 : Queued todo s2 := c.dropHead
      have c3 : Queued todo s3 := .foldl c2 fun _ _ c => c.toOut
      have c4 : Queued todo s4 := .ite c3.update c3
      have c5 : Queued todo s5 := .ite c4 (c4.setInq _ _ _)
      have c6 : Queued todo s6 := by
        refine .foldl c5 fun _ _ c => ?_
        split
        exacts [c.wakePort, c]
      have c7 : Queued todo s7 := .foldl c6.pktGone fun _ _ c => c.mcastLost
      split
      exacts [c7.copiesMade, c7]

theorem Queued.injectOk (c : Queued todo s) {q k} : Queued todo (s.injectOk q k).2 := by
  unfold State.injectOk
  refine .ite_snd c (.ite_snd ?_ c)
  split
  next h1 =>
  exact .snd h1 c.poolDrawBytes

theorem Queued.routeHead (c : Queued todo s) {q v} : Queued todo (s.routeHead q v) := by
  unfold State.routeHead
  split
  · exact c
  · refine .ite ?_ (.ite c.sinkHead (.ite c.waitHead (.ite c.replicate ?_)))
    · split
      exacts [c.forward, c.waitHead]
    · split
      · exact .lostHead (.evDev (c.bump _ _ _ _) _ _)
      · exact .lostHead (c.bump _ _ _ _)
      · exact .ite c.discardHead (.ite c.waitHead c.sinkHead)
      · refine .ite (.ite c.forward c.waitHead) ?_
        extract_lets
        split
        · exact c.forward
        · split
          exacts [.waitHead c.wakePort, c.waitHead, .lostHead (c.bump _ _ _ _)]

theorem Queued.stampHead (c : Queued todo s) {q v} : Queued todo (s.stampHead q v) := by
  unfold State.stampHead
  split
  exacts [c, .ite c (c.setInq _ _ _)]

theorem Queued.inject (c : Queued todo s) {q v k} : Queued todo (s.inject q v k) := by
  unfold State.inject
  split
  next h1 =>
  exact .ite (.routeHead (.snd h1 c.injectOk)) (.waitHead (.snd h1 c.injectOk))

theorem queue_execPktHeaderArrive {q vc} : KeepsQueue todo s (execPktHeaderArrive q vc s) := by
  unfold execPktHeaderArrive
  split
  · exact .next id
  · refine .ite ?_ (.ite (.next fun c => .ite c c.stampHead) ?_)
    · extract_lets s1
      have c1 : Queued todo s → Queued todo s1 := fun c => .wake (.ite c c.stampHead) _
      exact .ite (.next c1) (.next fun c => .inject (c1 c))
    · extract_lets s2
      have c2 : Queued todo s → Queued todo s2 := fun c => .wake (.ite c c.stampHead) _
      exact .ite (.next fun c => .discardHead (.bump (c2 c) _ _ _ _))
        (.ite (.next fun c => .discardHead (.bump (c2 c) _ _ _ _))
        (.ite (.next fun c => .discardHead (.bump (c2 c) _ _ _ _))
        (.ite (.next c2) (.ite (.next fun c => .discardHead (.bump (c2 c) _ _ _ _))
        (.ite (.next fun c => .discardHead (.bump (c2 c) _ _ _ _)) (.next fun c => .routeHead (c2 c)))))))

theorem queue_execPktPortRetry {q vc} : KeepsQueue todo s (execPktPortRetry q vc s) := by
  unfold execPktPortRetry
  split
  exacts [.next fun c => .ite c (.ite c.inject c.routeHead), .next id]

theorem Queued.dropOut (c : Queued todo s) {p v pid} : Queued todo (s.dropOut p v pid) := c.setOutq _ _ _

theorem Queued.takeWaiting (c : Queued todo s) {q v ok k t} (e : s.takeWaiting q v ok = some (k, t)) :
    Queued todo t := by
  unfold State.takeWaiting at e
  split at e
  · cases e
  · dsimp only at e
    split at e <;> cases e
    · exact .ite c.dropOut c.dropOut.freeRest
    · exact c.dropHead

theorem queue_execSelEscape {q vc} : KeepsQueue todo s (execSelEscape q vc s) := by
  unfold execSelEscape
  refine .ite (.next id) ?_
  split
  · exact .next id
  next h2 => exact .next fun c => .evClu (.bump (.toOut (c.takeWaiting h2)) _ _ _ _)

theorem Queued.updPid (c : Queued todo s) {pid f} : Queued todo (s.updPid pid f) := by
  unfold State.updPid
  exact c.update

theorem Queued.cutRx (c : Queued todo s) {p v r} : Queued todo (s.cutRx p v r) := by
  unfold State.cutRx
  split
  · exact .ite (.ite c (.bump c.updPid _ _ _ _)) (.ite c.dropOut (.freeRest c.dropOut))
  · extract_lets
    split
    exacts [.freeRest (c.setInq _ _ _), c.update]

theorem Queued.cutAll (c : Queued todo s) {p} : Queued todo (s.cutAll p) := by
  unfold State.cutAll
  refine .update (.updPort (.foldl c fun _ _ c => ?_) _ _)
  split
  exacts [c.cutRx, c]

theorem Queued.flushOne (c : Queued todo s) {v k} : Queued todo (s.flushOne v k).1 := by
  unfold State.flushOne
  extract_lets lost
  have hlost : Queued todo (lost s) := by
    unfold lost
    extract_lets s1 s2
    have c1 : Queued todo s1 := .pktGone (c.bump _ _ _ _)
    have c2 : Queued todo s2 := .ite c1 c1.freeRest
    split
    exacts [.ite c2.copyLost c2.copyGone, c2]
  exact .ite_fst hlost (.ite_fst hlost (.evClu (c.bump _ _ _ _)))

theorem Queued.rechoose (c : Queued todo s) {k} : Queued todo (s.rechoose k).1 := by
  unfold State.rechoose
  refine .ite_fst ?_ (.ite_fst c ?_)
  · split
    exacts [c.toOut, c]
  · extract_lets
    split
    · exact c.toOut
    · split
      exacts [c.wakePort, c, .copyLost (.freeRest (.pktGone (c.bump _ _ _ _)))]

theorem Queued.rechooseAll (c : Queued todo s) {l} : Queued todo (s.rechooseAll l) := by
  unfold State.rechooseAll
  split
  next t3 _ h1 =>
  have ct3 : Queued todo t3 := by
    refine .fst h1 (.foldl_fst c fun _ _ c => ?_)
    split
    next h2 =>
    exact .fst h2 c.rechoose
  exact .foldr ct3 fun _ _ c => c.setInq _ _ _

theorem Queued.flushPort (c : Queued todo s) {p} : Queued todo (s.flushPort p) := by
  unfold State.flushPort
  refine .foldl c fun _ _ c => ?_
  split
  next t3 _ h1 =>
  have ct3 : Queued todo t3 := by
    refine .fst h1 (.foldl_fst (c.setOutq _ _ _) fun _ _ c' => ?_)
    split
    next h2 =>
    exact .fst h2 c'.flushOne
  exact ct3.rechooseAll

theorem Queued.pairQuar (c : Queued todo s) {p} : Queued todo (s.pairQuar p) := .ite (c.setRf _ _ _ _) c

theorem Queued.portEnd (c : Queued todo s) {p cause l notice counts} :
    Queued todo (s.portEnd p cause l notice counts) := by
  unfold State.portEnd
  extract_lets _ s1 s2
  have c1 : Queued todo s1 := .ite c.ctlNow c
  have c2 : Queued todo s2 := .pairQuar (c1.updPort _ _)
  exact .ite (c2.bump _ _ _ _) c2

theorem Queued.portsFlush (c : Queued todo s) {ps} : Queued todo (s.portsFlush ps) := by
  unfold State.portsFlush
  exact .memberScan (.foldl (.foldl c fun _ _ c => .updPort c.cutAll _ _) fun _ _ c => c.flushPort)

theorem Queued.portLeave (c : Queued todo s) {p cause l notice counts} :
    Queued todo (s.portLeave p cause l notice counts) :=
  .portsFlush c.portEnd

theorem Queued.portsDown (c : Queued todo s) {ps cause} : Queued todo (s.portsDown ps cause) := by
  unfold State.portsDown
  exact .portsFlush (.foldl c fun _ _ c => c.portEnd)

theorem Queued.portDown (c : Queued todo s) {p cause} : Queued todo (s.portDown p cause) := by
  unfold State.portDown
  exact .ite c c.portLeave

/-! ### Link: the link of a port -/

theorem Queued.pairEvent (c : Queued todo s) {kind} : Queued todo (s.pairEvent kind) := c.event _ _ _

theorem Queued.testEnd (c : Queued todo s) {test target status errors detail} : Queued todo
    (s.testEnd test target status errors detail) := by
  unfold State.testEnd
  split
  exacts [c, .finish (.event c.update _ _ _) _ _ _]

theorem Queued.optFollow (c : Queued todo s) {k} : Queued todo (s.optFollow k) := by
  unfold State.optFollow
  exact .ite (.ite c (.ite c c.toOff)) (.ite c (.ite (.ite c.toDepth (.ite c c.toDepth)) c))

theorem Queued.sendWidth (c : Queued todo s) {p mask cause} : Queued todo (s.sendWidth p mask cause) := by
  unfold State.sendWidth
  split
  next h1 =>
  exact .ctlSend (.updPort (.snd h1 c.draw) _ _)

theorem Queued.enterHold (c : Queued todo s) {p r d asn} : Queued todo (s.enterHold p r d asn) := by
  unfold State.enterHold
  refine .optFollow ?_
  split
  exacts [.sendWidth (.evUnit (.pairQuar (c.updPort _ _))), .evUnit (.pairQuar (c.updPort _ _))]

theorem Queued.replayBegin (c : Queued todo s) {p asn} : Queued todo (s.replayBegin p asn) := by
  unfold State.replayBegin
  extract_lets _ s1 s2
  have c1 : Queued todo s1 := c.setPort _ _
  have c2 : Queued todo s2 := .evUnit (c1.bump _ _ _ _)
  exact .ite c2.portDown c2

theorem Queued.askHold (c : Queued todo s) {p r d} : Queued todo (s.askHold p r d) := by
  unfold State.askHold
  exact .ctlSend (c.setPort _ _)

theorem Queued.startWidth (c : Queued todo s) {p mask cause} : Queued todo (s.startWidth p mask cause) := by
  unfold State.startWidth
  exact .ite (c.setPort _ _) (.ite (.askHold (c.setPort _ _)) (.ite (.sendWidth (c.setPort _ _)) (c.setPort _ _)))

theorem Queued.widthDone (c : Queued todo s) {p} : Queued todo (s.widthDone p) := by
  unfold State.widthDone
  extract_lets _ s1
  have c1 : Queued todo s1 := c.setPort _ _
  split
  exacts [.ite c1.wakePort c1, .startWidth (c.setPort _ _)]

theorem Queued.paceCheck (c : Queued todo s) {p v} : Queued todo (s.paceCheck p v) := by
  unfold State.paceCheck
  split
  exacts [c, .ite c.setPace c]

theorem Queued.pickArrive (c : Queued todo s) {p v pick} : Queued todo (s.pickArrive p v pick) := by
  unfold State.pickArrive
  extract_lets s1 _ _ _ s2 s3 s4
  have c1 : Queued todo s1 := .wake c.evPick _
  have c2 : Queued todo s2 := c1.update
  have c3 : Queued todo s3 := c2.setInq _ _ _
  have c4 : Queued todo s4 := .ite c3 (c3.updPort _ _)
  split
  · exact c4.paceCheck
  · exact .ite (.paceCheck (.updPid (.pickIn (c1.updPort _ _) _ _))) (.freePick (.updPid (c1.updPort _ _)))

theorem Queued.replayStart (c : Queued todo s) {p asn} : Queued todo (s.replayStart p asn) := by
  unfold State.replayStart
  exact .ite c c.replayBegin

theorem Queued.frameBad (c : Queued todo s) {p} : Queued todo (s.frameBad p) := .updPort (c.bump _ _ _ _) _ _

theorem Queued.frameGood (c : Queued todo s) {p f} : Queued todo (s.frameGood p f) := by
  unfold State.frameGood
  extract_lets s1 s2 _ s3
  have c1 : Queued todo s1 := c.updPort _ _
  have c2 : Queued todo s2 := .ite c1.replayStart c1
  have c3 : Queued todo s3 := c2.setPort _ _
  refine .ite c2 (.ite (.ite c2 (.ite (.foldl c3 fun _ _ c => ?_) (.ite c2 (c2.setPort _ _)))) (c2.setPort _ _))
  split
  exacts [c.pickArrive, c]

theorem queue_execLinkFrameRx {p wrong bytes} : KeepsQueue todo s (execLinkFrameRx p wrong bytes s) := by
  unfold execLinkFrameRx
  exact .ite (.next id) (.ite (.next fun c => c.frameBad) (.ite (.next fun c => c.bump _ _ _ _)
    (.next fun c => c.frameGood)))

theorem Queued.pktLeft (c : Queued todo s) {p v k} : Queued todo (s.pktLeft p v k) := by
  unfold State.pktLeft
  extract_lets s1
  have c1 : Queued todo s1 := .pktGone c.dropOut
  split
  exacts [c1.copyGone, c1]

theorem Queued.pickSend (c : Queued todo s) {p v} : Queued todo (s.pickSend p v).2 := by
  unfold State.pickSend
  split
  · exact c
  · extract_lets _ s1 s2 s3
    have c1 : Queued todo s1 := c.setOutq _ _ _
    have c2 : Queued todo s2 := .evPick (c1.updPort _ _)
    have c3 : Queued todo s3 := .ite c2 c2.freeOf
    exact .ite c3.pktLeft c3

theorem Queued.fillSlots (c : Queued todo s) {p n} : Queued todo (s.fillSlots p n).2 := by
  induction n generalizing s with
  | zero => exact c
  | succ n ih =>
    unfold State.fillSlots
    dsimp only
    split
    · exact c
    · split
      · exact Queued.pickSend (c.updPort _ _)
      · exact ih (Queued.pickSend (c.updPort _ _))

theorem Queued.creditWaits (c : Queued todo s) {p} : Queued todo (s.creditWaits p) :=
  .foldl c fun _ _ c => .ite c.evPick c

theorem Queued.sendCtl (c : Queued todo s) {p} : Queued todo (s.sendCtl p) := by
  unfold State.sendCtl
  exact .sendFrame (c.setPort _ _)

theorem Queued.sendNew (c : Queued todo s) {p} : Queued todo (s.sendNew p) := by
  unfold State.sendNew
  refine .ite (.sendCtl c.creditWaits) ?_
  split
  next h1 =>
  exact .ite (.sendCtl (.snd h1 (.fillSlots c.creditWaits)))
    (.sendFrame (.setPort (.snd h1 (.fillSlots c.creditWaits)) _ _))

theorem queue_execLinkFrameTx {p} : KeepsQueue todo s (execLinkFrameTx p s) := by
  unfold execLinkFrameTx
  refine .ite (.next id) (.ite (.next fun c => c.sendCtl) ?_)
  split
  exacts [.next fun c => .sendFrame (c.setPort _ _), .next fun c => .sendNew (c.setPort _ _)]

theorem queue_execRetryTimerExpire {p} : KeepsQueue todo s (execRetryTimerExpire p s) := .next fun c => c.updPort _ _

theorem queue_execLinkSilentTimeout {p} : KeepsQueue todo s (execLinkSilentTimeout p s) :=
  .next fun c => .ite c.portDown c

theorem queue_execCtrlMsgResend {p typ} : KeepsQueue todo s (execCtrlMsgResend p typ s) := by
  unfold execCtrlMsgResend
  extract_lets
  split
  exacts [.next fun c => .ite c (c.setPort _ _), .next id]

theorem Queued.sendParams (c : Queued todo s) {p typ} : Queued todo (s.sendParams p typ) := by
  unfold State.sendParams
  exact .ctlSend (c.updPort _ _)

theorem Queued.adopt (c : Queued todo s) {p m} : Queued todo (s.adopt p m) := by
  unfold State.adopt
  exact c.updPort _ _

theorem Queued.pairFwd (c : Queued todo s) {p} : Queued todo (s.pairFwd p) :=
  .ite (.ite (c.setRf _ _ _ _) (.pairEvent (c.setRf _ _ _ _))) c

theorem Queued.toTrain (c : Queued todo s) {p} : Queued todo (s.toTrain p) := by
  unfold State.toTrain
  extract_lets s1 s2 _ s3
  have c1 : Queued todo s1 := c.updPort _ _
  have c2 : Queued todo s2 := .ite c1 (c1.setRf _ _ _ _)
  have c3 : Queued todo s3 := .ite c2.toDepth (.wake (c2.wake _) _)
  exact c3.sendParams

theorem Queued.standbyHold (c : Queued todo s) {p} : Queued todo (s.standbyHold p) := by
  unfold State.standbyHold
  exact .optFollow (.setRf (.updPort (.ite c.portLeave c) _ _) _ _ _ _)

theorem Queued.linkUp (c : Queued todo s) {p} : Queued todo (s.linkUp p) := .ite c.standbyHold c.toTrain

theorem Queued.resyncLink (c : Queued todo s) {p msg} : Queued todo (s.resyncLink p msg) := by
  unfold State.resyncLink
  refine .uncut (.pairFwd (.updPort (.adopt (.foldl c.cutAll fun _ _ c => ?_)) _ _))
  split
  · refine .ite ?_ c
    extract_lets s1 s2
    have c1 : Queued todo s1 := .pktGone (c.setOutq _ _ _)
    have c2 : Queued todo s2 := .ite c1 c1.freeRest
    split
    exacts [c2.copyGone, c2]
  · exact c

theorem Queued.pairRelease (c : Queued todo s) {p} : Queued todo (s.pairRelease p) := .ite (c.setRf _ _ _ _) c

theorem Queued.holdExit (c : Queued todo s) {p} : Queued todo (s.holdExit p) := by
  unfold State.holdExit
  refine .ite c ?_
  split
  · exact .ite c (.ite c.resyncLink (.wake (c.wake _) _))
  · exact .ite c (.ite (.uncut (.pairRelease (c.setPort _ _))) (.wake (c.wake _) _))

theorem queue_execLinkTrainStart {p} : KeepsQueue todo s (execLinkTrainStart p s) :=
  .ite (.ite (.next fun c => .ite c.linkUp c) (.next fun c => .wake (c.wake _) _)) (.next id)

theorem queue_execDownRetrainTimer {p} : KeepsQueue todo s (execDownRetrainTimer p s) :=
  .ite (.ite (.next fun c => .ite c.linkUp c) (.next fun c => .wake (c.wake _) _)) (.next id)

theorem queue_execTrainParams {p msg} : KeepsQueue todo s (execTrainParams p msg s) := by
  unfold execTrainParams
  refine .ite (.next id) ?_
  split
  · exact .next fun c => c.ctlStale
  next h2 =>
    exact .ite (.next fun c => c.ctlTake h2) (.ite (.next fun c => .portDown (c.ctlTake h2))
      (.ite (.next fun c => .portDown (c.ctlTake h2)) (.next fun c => .ctlSend
      (.updPort (.adopt (c.ctlTake h2)) _ _))))

theorem queue_execTrainAck {p msg} : KeepsQueue todo s (execTrainAck p msg s) := by
  unfold execTrainAck
  split
  · exact .next id
  next h2 => exact .ite (.next fun c => .setPort (c.ctlTake h2) _ _) (.next fun c => c.ctlTake h2)

theorem queue_execTrainComplete {p} : KeepsQueue todo s (execTrainComplete p s) := by
  unfold execTrainComplete
  exact .ite (.next fun c => .uncut (.pairFwd (.ite (c.setPort _ _) (.setRf (c.setPort _ _) _ _ _ _)))) (.next id)

theorem queue_execTrainTimeout {p} : KeepsQueue todo s (execTrainTimeout p s) := .next fun c => .ite c.portDown c

theorem Queued.holdKeep (c : Queued todo s) : Queued todo s.holdKeep := .foldl c fun _ _ c => .ite (c.setRf _ _ _ _) c

theorem queue_execHoldReq {p msg} : KeepsQueue todo s (execHoldReq p msg s) := by
  unfold execHoldReq
  refine .ite (.next id) ?_
  split
  · exact .next fun c => c.ctlStale
  next h2 =>
    refine .ite ?_ (.ite (.ite (.next fun c => .optFollow (.updPort (.ctlNow (c.ctlTake h2)) _ _))
      (.next fun c => .ctlSend (c.ctlTake h2))) (.next fun c => c.ctlTake h2))
    split
    exact .ite (.next fun c => .enterHold (.ite (.ctlNow (c.ctlTake h2)) (.ctlSend (c.ctlTake h2))))
      (.next fun c => .ctlSend (c.ctlTake h2))

theorem queue_execHoldAck {p msg} : KeepsQueue todo s (execHoldAck p msg s) := by
  unfold execHoldAck
  split
  · exact .next id
  next h2 =>
    extract_lets
    split
    · exact .next fun c => c.ctlTake h2
    · exact .ite (.next fun c => .setPort (c.ctlTake h2) _ _)
        (.ite (.next fun c => .enterHold (c.ctlTake h2)) (.ite (.next fun c => .optFollow
        (.setPort (c.ctlTake h2) _ _)) (.next fun c => .setPort (c.ctlTake h2) _ _)))

theorem queue_execWake {p msg} : KeepsQueue todo s (execWake p msg s) := by
  unfold execWake
  split
  · exact .next fun c => c.ctlStale
  next h2 =>
    refine .ite (.next fun c => .withdrawRest (c.ctlTake h2)) (.ite ?_ (.next fun c => c.ctlTake h2))
    extract_lets _ s3 _ s4 s5
    have c3 : Queued todo s → Queued todo s3 := fun c => .updPort (.wake (.wake (c.ctlTake h2) _) _) _ _
    have c4 : Queued todo s → Queued todo s4 := fun c => .update (c3 c)
    have c5 : Queued todo s → Queued todo s5 := fun c => .ite (c4 c) (.updPort (.ctlSend (c4 c)) _ _)
    exact .next fun c => .holdExit (c5 c)

theorem queue_execWakePatternDetect {p} : KeepsQueue todo s (execWakePatternDetect p s) := by
  unfold execWakePatternDetect
  exact .ite (.next fun c => .updPort (.wake (.wake (.wake (.wake c.update _) _) _) _) _ _) (.next id)

theorem queue_execHoldLimitExpire {p} : KeepsQueue todo s (execHoldLimitExpire p s) := by
  unfold execHoldLimitExpire
  exact .ite (.next fun c => c.portDown) (.next id)

theorem queue_execDownNotice {p msg} : KeepsQueue todo s (execDownNotice p msg s) := by
  unfold execDownNotice
  split
  · exact .next id
  next h2 => exact .next fun c => .ite (.portDown (c.ctlTake h2)) (c.ctlTake h2)

theorem queue_execResync {p msg} : KeepsQueue todo s (execResync p msg s) := by
  unfold execResync
  split
  · exact .next fun c => c.ctlStale
  next h2 =>
    exact .ite (.next fun c => .holdExit (.updPort (.ite (c.ctlTake h2) (.sendParams (c.ctlTake h2))) _ _))
      (.next fun c => c.ctlTake h2)

theorem queue_execWidth {p msg} : KeepsQueue todo s (execWidth p msg s) := by
  unfold execWidth
  split
  · exact .next fun c => c.ctlStale
  next h2 =>
    extract_lets _ _ _ _ _ s3
    have c3 : Queued todo s → Queued todo s3 := fun c => .ctlSend (c.ctlTake h2)
    exact .ite (.next fun c => c.ctlTake h2) (.ite (.next fun c => .updPort (.ctlFrame (c.ctlTake h2)) _ _)
      (.ite (.next c3) (.ite (.ite (.next fun c => .updPort (.ctlFrame (c.ctlTake h2)) _ _) (.next c3))
      (.ite (.next fun c => .updPort (.ctlFrame (c.ctlTake h2)) _ _) (.next c3)))))

theorem queue_execWidthAck {p msg} : KeepsQueue todo s (execWidthAck p msg s) := by
  unfold execWidthAck
  split
  · exact .next id
  next h2 =>
    extract_lets _ s3
    have c3 : Queued todo s → Queued todo s3 := fun c => .setPort (c.ctlTake h2) _ _
    split
    · exact .next fun c => c.ctlTake h2
    · exact .ite (.next fun c => .holdExit (.widthDone (.updPort (c3 c) _ _)))
        (.next fun c => .widthDone (.ite (.testEnd (c3 c)) (c3 c)))

theorem queue_execLaneRetire {p lane} : KeepsQueue todo s (execLaneRetire p lane s) := by
  unfold execLaneRetire
  exact .ite (.ite (.next fun c => .portDown (c.setPort _ _))
    (.ite (.next fun c => c.setPort _ _) (.next fun c => .startWidth (c.setPort _ _)))) (.next id)

theorem Queued.retireWaiting (c : Queued todo s) {p} : Queued todo (s.retireWaiting p) := by
  unfold State.retireWaiting
  exact .ite c.startWidth c

theorem queue_execLaneLendTimeout {p} : KeepsQueue todo s (execLaneLendTimeout p s) := .next fun c => c.updPort _ _

theorem queue_execPaceRx {p msg} : KeepsQueue todo s (execPaceRx p msg s) := by
  unfold execPaceRx
  split
  · exact .next id
  next h2 => exact .next fun c => .updPort (c.ctlTake h2) _ _

theorem queue_execPaceResend {p} : KeepsQueue todo s (execPaceResend p s) := by
  unfold execPaceResend
  exact .next fun c => .foldl c fun _ _ c => c.paceSend

theorem queue_execPaceRelease {p vc} : KeepsQueue todo s (execPaceRelease p vc s) := by
  unfold execPaceRelease
  split
  exacts [.next id, .ite (.next fun c => c.setPace) (.next id)]

theorem queue_execLinkRestTimer {p} : KeepsQueue todo s (execLinkRestTimer p s) := by
  unfold execLinkRestTimer
  exact .ite (.next fun c => c.askHold) (.next id)

theorem queue_execLinkDarkTimer {p} : KeepsQueue todo s (execLinkDarkTimer p s) := by
  unfold execLinkDarkTimer
  exact .ite (.next fun c => c.askHold) (.next id)

theorem Queued.portDark (c : Queued todo s) {p} : Queued todo (s.portDark p) := by
  unfold State.portDark
  exact .ite c (.ite (.optFollow (c.updPort _ _)) (.optFollow c.portLeave))

theorem Queued.portCfgSet (c : Queued todo s) {p v} : Queued todo (s.portCfgSet p v).2 := by
  unfold State.portCfgSet
  iterate 8 refine .ite_snd c ?_
  extract_lets res
  have hres : ∀ t, res = some t → Queued todo t := by
    intro t e
    unfold res at e
    split at e
    · exact c.portReserve e
    · cases e; exact c
  clear_value res
  split
  · exact c
  next t =>
  have ct := hres t rfl
  extract_lets was s1 s2 s3 s4 s5
  have c1 : Queued todo s1 := .ite ct.portDark ct
  have c2 : Queued todo s2 := c1.setReg _ _
  have c3 : Queued todo s3 := .ite c2.portUnreserve c2
  have c4 : Queued todo s4 := .ite (c3.wake _) c3
  exact .uncut (.ite c4.pairFwd c4)

theorem Queued.portCreditSet (c : Queued todo s) {p ch v} : Queued todo (s.portCreditSet p ch v).2 := by
  unfold State.portCreditSet
  refine .ite_snd c (.ite_snd (c.setRf _ _ _ _) ?_)
  split
  · exact c
  next h2 => exact .setRf (.poolReserve c.poolRelease h2) _ _ _ _

theorem Queued.portSelSet (c : Queued todo s) {p v} : Queued todo (s.portSelSet p v).2 :=
  .ite_snd c (.ite_snd c (c.setRf _ _ _ _))

theorem Queued.portWrite {p : Nat} {r : Nat × State} (c : Queued todo s) (cr : Queued todo r.2) :
    Queued todo (s.portWrite p r) :=
  .ite cr.mirrorPorts (c.setRf _ _ _ _)

theorem queue_execPortCfgWrite {path p v} : KeepsQueue todo s (execPortCfgWrite path p v s) :=
  .ite (.next fun c => c.portWrite c.portCfgSet) (.next id)

theorem queue_execPortCreditWrite {path p ch v} : KeepsQueue todo s (execPortCreditWrite path p ch v s) :=
  .ite (.next fun c => c.portWrite c.portCreditSet) (.next id)

theorem queue_execPortLinkErrClear {path p v} : KeepsQueue todo s (execPortLinkErrClear path p v s) :=
  .ite (.next fun c => c.setReg _ _) (.next id)

theorem queue_execPortQuarErrClear {path p v} : KeepsQueue todo s (execPortQuarErrClear path p v s) :=
  .ite (.next fun c => c.setReg _ _) (.next id)

/-! ### Seq: sequence memory -/

theorem Queued.ownWindow (c : Queued todo s) {item image n0 dst} : Queued todo (s.ownWindow item image n0 dst).2 := by
  unfold State.ownWindow
  split
  · exact .ite_snd (.ite_snd (c.setSrc _ _) (.wcloseWhenDone (c.setSrc _ _))) (.ite_snd c c)
  · split
    · exact c
    · refine .ite_snd c ?_
      split
      next h1 =>
      split
      next h2 =>
      split
      next h3 =>
      split
      next h4 =>
      exact .updSrc (.wopen (.snd h4 (.draw (.snd h3 (.draw (.snd h2 (.draw (.snd h1 c.draw))))))))

theorem Queued.mirrorWindow (c : Queued todo s) : Queued todo s.mirrorWindow.2 := by
  unfold State.mirrorWindow
  extract_lets
  split
  · exact .ite_snd (.wcloseWhenDone (c.setSrc _ _)) c
  · split
    next h1 =>
    split
    next h2 =>
    split
    next h3 =>
    exact .wopen (.snd h3 (.draw (.snd h2 (.draw (.snd h1 c.draw)))))
  · exact c

theorem Queued.ownSend (c : Queued todo s) {n0 key w typ kind size op data} : Queued todo
    (s.ownSend n0 key w typ kind size op data).2 := by
  unfold State.ownSend
  refine .ite_snd ?_ c
  split
  next h1 =>
  exact .ite_snd (.sendReq (.snd h1 c.injBuffer)) (.snd h1 c.injBuffer)

theorem Queued.locGet (c : Queued todo s) {x l n} : Queued todo (s.locGet x l n).2 := by
  unfold State.locGet
  split
  exacts [c, c.memLoad, c]

theorem Queued.locPut (c : Queued todo s) {x l b} : Queued todo (s.locPut x l b) := by
  unfold State.locPut
  split
  exacts [c.benchPut, c.memStore _ _, c]

theorem Queued.locErr (c : Queued todo s) {l} : Queued todo (s.locErr l) := by
  unfold State.locErr
  split
  exacts [c.eccBump, c]

theorem Queued.moveOne (c : Queued todo s) {j i m} : Queued todo (s.moveOne j i m).2.2 := by
  unfold State.moveOne
  refine .ite_snd_snd c (.ite_snd_snd ?_ (.ite_snd_snd c (.ite_snd_snd c.locErr ?_)))
  · split
    · exact c
    next h2 => exact .ite_snd_snd (c.takeEnd h2) (.ite (.locPut (c.takeEnd h2)) (c.takeEnd h2))
  · split
    · split
      next h3 => exact .snd h3 c.ownWindow
      next h4 => exact .snd h4 c.ownWindow
      next h5 =>
        split
        next h6 =>
        exact .snd h6 (.ownSend (.snd h5 c.ownWindow))
    · split
      next h7 => exact .snd h7 c.ownWindow
      next h8 => exact .snd h8 c.ownWindow
      next h9 =>
        split
        next h10 =>
        split
        next h11 =>
        exact .snd h11 (.ownSend (.snd h10 (.locGet (.snd h9 c.ownWindow))))
    · split
      next h12 => exact .snd h12 c.mirrorWindow
      next h13 =>
        split
        next h14 =>
        split
        next h15 =>
        exact .snd h15 (.ownSend (.snd h14 (.locGet (.snd h13 c.mirrorWindow))))
    · split
      next h16 =>
      exact .locPut (.snd h16 c.locGet)

theorem Queued.moveAll (c : Queued todo s) {j i l} : Queued todo (s.moveAll j i l).2.2 := by
  induction l generalizing s i with
  | nil => exact c
  | cons m r ih => exact ih (c.moveOne (j := j) (i := i) (m := m))

theorem Queued.follow (c : Queued todo s) {o n} : Queued todo (s.follow o n) := c

theorem Queued.setFrame (c : Queued todo s) {f u} : Queued todo (s.setFrame f u) := by
  unfold State.setFrame
  exact c.update

theorem Queued.takeFrame (c : Queued todo s) {n u} : Queued todo (s.takeFrame n u).2 := by
  unfold State.takeFrame
  split
  next h1 =>
  exact .setFrame (.snd h1 c.draw)

theorem Queued.setPte (c : Queued todo s) {n lpn e} : Queued todo (s.setPte n lpn e) := by
  unfold State.setPte
  split
  exacts [c, .mirrorPte (c.memPut _ _)]

theorem Queued.allocLocal (c : Queued todo s) {n pref f t} (e : s.allocLocal n pref = some (f, t)) : Queued todo t := by
  obtain ⟨k, -, e⟩ := Option.map_eq_some_iff.mp e
  cases e
  exact c.takeFrame.setRf _ _ _ _

theorem Queued.askLend (c : Queued todo s) {item image n0 key n} : Queued todo (s.askLend item image n0 key n) := by
  unfold State.askLend
  refine .ite c ?_
  extract_lets
  split
  next h1 => exact .snd h1 c.ownWindow
  next h2 => exact .update (.snd h2 c.ownWindow)
  next h3 =>
    split
    next h4 =>
    exact .ite (.update (.snd h4 (.ownSend (.snd h3 c.ownWindow)))) (.snd h4 (.ownSend (.snd h3 c.ownWindow)))

theorem Queued.queueReturn (c : Queued todo s) {eid fs} : Queued todo (s.queueReturn eid fs) := by
  unfold State.queueReturn
  exact .ite c c.update

theorem Queued.lendSettle (c : Queued todo s) : Queued todo s.lendSettle := by
  unfold State.lendSettle
  refine .foldl c fun _ _ c => ?_
  split
  exacts [.ite (.queueReturn c.update) c.update.update, c]

theorem Queued.needL2 (c : Queued todo s) {n lpn k t} (e : s.needL2 n lpn k = some t) : Queued todo t := by
  unfold State.needL2 at e
  split at e
  · cases e; exact c
  · obtain ⟨⟨f, u⟩, hu, e⟩ := Option.map_eq_some_iff.mp e
    cases e
    exact (((c.allocLocal hu).memClear _ _).setReg _ _).mirrorSlot

theorem Queued.allocPage (c : Queued todo s) {q n lpn} : Queued todo (s.allocPage q n lpn).2 := by
  unfold State.allocPage
  split
  next h1 => exact .setPte (c.allocLocal h1)
  · refine .ite_snd ?_ c
    split
    exacts [.setPte (.setRf c.update _ _ _ _), .ite_snd c.update c.askLend]

theorem Queued.seqFail (c : Queued todo s) {st} : Queued todo (s.seqFail st) :=
  .ite (c.bump _ _ _ _) (.ite (c.bump _ _ _ _) c)

theorem Queued.translate (c : Queued todo s) {q n layer token byte size append} : Queued todo
    (s.translate q n layer token byte size append).2 := by
  unfold State.translate
  refine .ite_snd c (.ite_snd c (.ite_snd c.seqFail (.ite_snd c ?_)))
  extract_lets
  split
  · exact c.seqFail
  next h2 =>
    split
    next h3 =>
    split
    · exact .seqFail (.snd h3 (.ite_snd (c.needL2 h2) (.allocPage (.lendSettle (c.needL2 h2)))))
    · exact .snd h3 (.ite_snd (c.needL2 h2) (.allocPage (.lendSettle (c.needL2 h2))))
    · refine .ite_snd (.seqFail (.snd h3 (.ite_snd (c.needL2 h2) (.allocPage (.lendSettle (c.needL2 h2))))))
        (.ite_snd c (.ite_snd (.snd h3 (.ite_snd (c.needL2 h2) (.allocPage (.lendSettle (c.needL2 h2))))) ?_))
      split
      · exact .updItem (.snd h3 (.ite_snd (c.needL2 h2) (.allocPage (.lendSettle (c.needL2 h2)))))
      · exact .snd h3 (.ite_snd (c.needL2 h2) (.allocPage (.lendSettle (c.needL2 h2))))

theorem Queued.translateAll (c : Queued todo s) {q slot layer byte size app n token} :
    Queued todo (s.translateAll q slot layer byte size app n token).2.2 := by
  induction n generalizing s token with
  | zero => exact c
  | succ n ih =>
    have ct := c.translate (q := q) (n := slot) (layer := layer) (token := token) (byte := byte) (size := size)
      (append := app)
    unfold State.translateAll
    split
    · exact ih (.snd ‹_› ct)
    · exact .snd ‹_› ct

theorem Queued.markLost (c : Queued todo s) {eid frame} : Queued todo (s.markLost eid frame) :=
  .foldl c fun _ _ c => .foldl c fun _ _ c' => .ite c'.setPte c'

theorem Queued.raiseLen (c : Queued todo s) {n l len} : Queued todo (s.raiseLen n l len) := .ite (c.setRf _ _ _ _) c

theorem Queued.seqEnd (c : Queued todo s) {src status reply} : Queued todo (s.seqEnd src status reply) :=
  .answer (c.setRf _ _ _ _)

theorem Queued.slotOpen (c : Queued todo s) {any slot d} : Queued todo (s.slotOpen any slot d).2.2 := by
  unfold State.slotOpen
  exact .ite_snd_snd c (.ite_snd_snd c (.ite_snd_snd c (.ite_snd_snd c
    (.clearRegs (.update (.setReg (.setReg (.setReg (.setReg
    (.setRf (.setRf (.setRf (c.setRegs _ _) _ _ _ _) _ _ _ _) _ _ _ _) _ _) _ _) _ _) _ _)) _))))

theorem queue_execSlotOpen {src} : KeepsQueue todo s (execSlotOpen src s) := by
  unfold execSlotOpen
  split
  · split
    · exact .next id
    · split
      next h1 =>
      extract_lets s2
      have c2 : Queued todo s → Queued todo s2 := fun c => .setRf (.snd_snd h1 c.slotOpen) _ _ _ _
      exact .next fun c => .seqEnd (.ite (.mirrorSlot (c2 c)) (c2 c))
  · split
    · exact .next id
    · refine .ite (.next fun c => c.seqEnd) ?_
      extract_lets
      split
      next h3 =>
      extract_lets s4
      have c4 : Queued todo s → Queued todo s4 := fun c => .setRf (.setRf (.snd_snd h3 c.slotOpen) _ _ _ _) _ _ _ _
      exact .ite (.next fun c => .mirrorAnswer (c4 c)) (.next fun c => .answer (c4 c))

theorem Queued.slotRelease (c : Queued todo s) {n} : Queued todo (s.slotRelease n).2 := .ite_snd c (c.setRf _ _ _ _)

theorem queue_execSlotRelease {src} : KeepsQueue todo s (execSlotRelease src s) := by
  unfold execSlotRelease
  split
  · split
    · exact .next id
    · split
      next h1 =>
      exact .next fun c => .seqEnd (.ite (.mirrorSlot (.snd h1 c.slotRelease)) (.snd h1 c.slotRelease))
  · split
    · exact .next id
    · refine .ite (.next fun c => c.seqEnd) ?_
      extract_lets
      split
      next h2 =>
      extract_lets s3
      have c3 : Queued todo s → Queued todo s3 := fun c => .setRf (.snd h2 c.slotRelease) _ _ _ _
      exact .ite (.next fun c => .mirrorAnswer (c3 c)) (.next fun c => .answer (c3 c))

theorem Queued.slotStill (c : Queued todo s) {n} : Queued todo (s.slotStill n) := by
  unfold State.slotStill
  refine .update ?_
  split
  exacts [.ite c.queueReturn c, c]

theorem Queued.slotFree (c : Queued todo s) {n} : Queued todo (s.slotFree n) := by
  unfold State.slotFree
  exact .mirrorSlot (.setRf (.setReg (.setReg (.clearRegs (.update
    (.queueReturn (.foldl (.foldl c.slotStill fun _ _ c => c.mirrorPte) fun _ _ c =>
    c.queueReturn))) _) _ _) _ _) _ _ _ _)

theorem Queued.sendReturns (c : Queued todo s) : Queued todo s.sendReturns := by
  unfold State.sendReturns
  split
  · exact c
  · refine .foldl c fun _ _ c => ?_
    extract_lets
    split
    next h1 => exact .snd h1 c.ownWindow
    next h2 => exact .bump (.update (.snd h2 c.ownWindow)) _ _ _ _
    next h3 =>
      split
      next h4 =>
      exact .ite (.update (.snd h4 (.ownSend (.snd h3 c.ownWindow)))) (.snd h4 (.ownSend (.snd h3 c.ownWindow)))

theorem queue_execEvacuate {src} : KeepsQueue todo s (execEvacuate src s) := by
  unfold execEvacuate
  split
  · exact .next id
  · exact .ite (.next fun c => c.seqEnd) (.ite (.next fun c => c.seqEnd)
      (.ite (.next fun c => c.seqEnd) (.next fun c => .seqEnd (.setReg c.update _ _))))

theorem Queued.evacEnd (c : Queued todo s) {e status} : Queued todo (s.evacEnd e status) := by
  unfold State.evacEnd
  exact .event (.setRf c.update _ _ _ _) _ _ _

theorem Queued.oldFrame (c : Queued todo s) {f n} : Queued todo (s.oldFrame f n) := by
  unfold State.oldFrame
  exact .ite (.setFrame (c.setRf _ _ _ _)) (.update (.setFrame (c.setRf _ _ _ _)))

theorem Queued.asideUsed (c : Queued todo s) : Queued todo s.asideUsed := by
  unfold State.asideUsed
  exact c.update

theorem Queued.evacLocal (c : Queued todo s) {f n lpn l2 g} : Queued todo (s.evacLocal f n lpn l2 g) := by
  unfold State.evacLocal
  exact .oldFrame (.follow (.ite (.mirrorSlot (.setRf (c.memPut _ _) _ _ _ _)) (.setPte (c.memPut _ _))))

theorem Queued.nextMove (c : Queued todo s) : Queued todo s.nextMove := by
  unfold State.nextMove
  exact c.update

theorem Queued.evacCarry (c : Queued todo s) {e p} : Queued todo (s.evacCarry e p) := by
  unfold State.evacCarry
  split
  · exact c
  · split
    next h1 =>
    exact .ite (.evacEnd (.queueReturn (.setPte (.snd_snd h1 c.moveAll))))
      (.ite (.update (.oldFrame (.follow (.setRf (.setPte (.snd_snd h1 c.moveAll)) _ _ _ _))))
      (.update (.snd_snd h1 c.moveAll)))

theorem Queued.evacRemote (c : Queued todo s) {e f n lpn} : Queued todo (s.evacRemote e f n lpn) := by
  unfold State.evacRemote
  split
  · exact c
  · extract_lets s1 _ s2 s3
    have c1 : Queued todo s1 := c.lendSettle
    have c2 : Queued todo s2 := c1.update
    have c3 : Queued todo s3 := c2.setPte
    split
    exacts [.evacCarry c3.nextMove, .ite (.evacEnd c1.update) c1.askLend]

theorem queue_execEvacPageMoved : KeepsQueue todo s (execEvacPageMoved s) := by
  unfold execEvacPageMoved
  split
  · exact .next id
  · split
    · exact .next fun c => c.evacCarry
    · refine .ite (.next fun c => c.evacEnd) ?_
      split
      · exact .next fun c => .ite c.evacEnd c
      · extract_lets
        split
        · split
          next h1 =>
          extract_lets s2
          have c2 : Queued todo s → Queued todo s2 := fun c => .evacLocal (.setRf (.snd h1 c.takeFrame) _ _ _ _)
          exact .next fun c => .ite (c2 c) (.asideUsed (c2 c))
        · exact .next fun c => .ite c.evacRemote c

theorem queue_execEvacOldFrameFree {frame} : KeepsQueue todo s (execEvacOldFrameFree frame s) := by
  unfold execEvacOldFrameFree
  split
  exacts [.next id, .ite (.next fun c => .setFrame c.update) (.next id)]

theorem queue_execEvacAbort {src} : KeepsQueue todo s (execEvacAbort src s) := by
  unfold execEvacAbort
  split
  · exact .next id
  · split
    exacts [.next fun c => c.seqEnd, .next fun c => .seqEnd (.ite (.evacEnd c.update) c.update)]

theorem queue_execAllocBack {src} : KeepsQueue todo s (execAllocBack src s) := by
  unfold execAllocBack
  split
  · exact .next id
  · exact .ite (.next fun c => c.seqEnd) (.next fun c => .seqEnd c.update)

theorem Queued.bringEnd (c : Queued todo s) {b status} : Queued todo (s.bringEnd b status) := by
  unfold State.bringEnd
  refine .event ?_ _ _ _
  split
  exacts [.finish (.setRf c.update _ _ _ _) _ _ _, .setRf c.update _ _ _ _]

theorem Queued.setBring (c : Queued todo s) {b} : Queued todo (s.setBring b) := by
  unfold State.setBring
  exact c.update

theorem Queued.bringNext (c : Queued todo s) {b} : Queued todo (s.bringNext b) := by
  unfold State.bringNext
  refine .ite c.bringEnd (.ite c ?_)
  split
  · exact c.bringEnd
  · refine .ite c.bringEnd (.ite c ?_)
    split
    split
    · exact c.bringEnd
    · split
      next h1 =>
      exact .setBring (.nextMove (.setPte (.snd h1 c.takeFrame)))

theorem Queued.bringCarry (c : Queued todo s) {b p} : Queued todo (s.bringCarry b p) := by
  unfold State.bringCarry
  split
  · exact c
  · extract_lets
    split
    next h1 =>
    exact .ite (.bringEnd (.setPte (.setFrame (.snd_snd h1 c.moveAll))))
      (.ite (.bringNext (.setBring (.sendReturns (.queueReturn
      (.setRf (.setRf (.follow (.setPte (.setFrame (.snd_snd h1 c.moveAll)))) _ _ _ _) _ _ _ _)))))
      (.setBring (.snd_snd h1 c.moveAll)))

theorem queue_execRecall {src} : KeepsQueue todo s (execRecall src s) := by
  unfold execRecall
  split
  · exact .next id
  · refine .ite (.next fun c => c.seqEnd) ?_
    extract_lets tag s1 b
    clear_value tag
    have h1 : Queued todo s → Queued todo s1 := by
      intro c
      unfold s1
      split
      exacts [c.hold _, c]
    exact .next fun c => .bringNext (.update (h1 c))

theorem Queued.retSettle (c : Queued todo s) : Queued todo s.retSettle := by
  unfold State.retSettle
  exact .bump c.update _ _ _ _

theorem Queued.ownClose (c : Queued todo s) : Queued todo s.ownClose := by
  unfold State.ownClose
  exact .ite c (.foldl c fun _ _ c => .ite c.wclose (.ite (c.setSrc _ _) c))

theorem Queued.evacStep (c : Queued todo s) : Queued todo s.evacStep := by
  unfold State.evacStep
  split
  · split
    exacts [c.evacCarry, c]
  · exact c

theorem Queued.bringStep (c : Queued todo s) : Queued todo s.bringStep := by
  unfold State.bringStep
  refine .foldl c fun _ _ c => ?_
  split
  exacts [c.bringCarry, c.bringNext]

theorem Queued.moveSettle (c : Queued todo s) : Queued todo s.moveSettle := by
  unfold State.moveSettle
  exact c.update

theorem Queued.ownStep (c : Queued todo s) : Queued todo s.ownStep :=
  .ownClose (.sendReturns (.retSettle (.bringStep (.evacStep (.moveSettle c.lendSettle)))))

theorem queue_execSlotReleaseDone {slot} : KeepsQueue todo s (execSlotReleaseDone slot s) :=
  .ite (.next fun c => .ownStep c.slotFree) (.next id)

theorem queue_execRecallPageDone {slot} : KeepsQueue todo s (execRecallPageDone slot s) :=
  .next fun c => .ite c.ownStep c

theorem queue_execReclaim {src} : KeepsQueue todo s (execReclaim src s) := by
  unfold execReclaim
  split
  · exact .next id
  · exact .ite (.next fun c => c.seqEnd) (.next fun c => .seqEnd c.update)

theorem Queued.regionSet (c : Queued todo s) {v} : Queued todo (s.regionSet v) := by
  unfold State.regionSet
  exact .update (c.setReg _ _)

theorem queue_execSeqRegionWrite {path v} : KeepsQueue todo s (execSeqRegionWrite path v s) :=
  .ite (.ite (.next id) (.ite (.next fun c => c.regionSet) (.next fun c => c.setRf _ _ _ _))) (.next id)

theorem queue_execServiceReloadDone : KeepsQueue todo s (execServiceReloadDone s) := by
  unfold execServiceReloadDone
  refine .ite ?_ (.next id)
  extract_lets _ s1
  have c1 : Queued todo s → Queued todo s1 := fun c => c.update
  split
  next _ _ h =>
  refine .next fun c => .fst h (.foldl_fst (c1 c) fun _ _ c => ?_)
  split
  · exact .ite_fst (.setImage (.memPut (.memClear (c.memPut _ _) _ _) _ _) _ _) c
  · exact c

theorem queue_execSeqErrClear {path v} : KeepsQueue todo s (execSeqErrClear path v s) :=
  .ite (.next fun c => .setReg (c.setReg _ _) _ _) (.next id)

/-! ### Shed: work items and the shed scheduler -/

theorem Queued.setDfc (c : Queued todo s) {n0 q v} : Queued todo (s.setDfc n0 q v) := by
  unfold State.setDfc
  exact c.update

theorem Queued.newDesc (c : Queued todo s) {n0} : Queued todo (s.newDesc n0).2 := by
  unfold State.newDesc
  split
  next h1 =>
  exact .snd h1 c.draw

theorem Queued.wakeItem (c : Queued todo s) {form q n0} : Queued todo (s.wakeItem form q n0) :=
  .wake (.ite c (c.wake _)) _

theorem Queued.queueItem (c : Queued todo s) {r im entry q n0} : Queued todo (s.queueItem r im entry q n0) := by
  unfold State.queueItem
  split
  next h1 =>
  exact .wakeItem (.update (.snd h1 c.newDesc))

theorem Queued.takeCall (c : Queued todo s) {r fabric} : Queued todo (s.takeCall r fabric).2 := by
  unfold State.takeCall
  split
  · exact c
  · extract_lets
    split
    · exact c
    · refine .ite_snd c (.ite_snd c ?_)
      split
      · exact c
      · refine .ite_snd c (.ite_snd c (.ite_snd c (.ite_snd c ?_)))
        extract_lets
        split
        · exact c
        · split
          exacts [c.bump _ _ _ _, .queueItem (.ite c (.evClu (c.bump _ _ _ _)))]

theorem Queued.localDone (c : Queued todo s) {x item block form payload status} : Queued todo
    (s.localDone x item block form payload status) := by
  unfold State.localDone
  exact .ite c (.updCtx (.ite (.benchPut c.benchPut) (.noteFail (.benchPut c.benchPut))) _ _)

theorem Queued.callDone (c : Queued todo s) {it status a0 a1 a2 payload} :
    Queued todo (s.callDone it status a0 a1 a2 payload) :=
  by
  unfold State.callDone
  extract_lets
  split
  exacts [c.emit _ _, c.localDone, c]

theorem Queued.closeWindows (c : Queued todo s) {item} : Queued todo (s.closeWindows item) := by
  unfold State.closeWindows
  exact .foldl c fun _ _ c => .ite (.wcloseWhenDone (c.setSrc _ _)) (.ite (c.setSrc _ _) (.ite (c.setSrc _ _) c))

theorem Queued.callBuf (c : Queued todo s) {x image buf} : Queued todo (s.callBuf x image buf) := by
  unfold State.callBuf
  split
  · extract_lets k im s1
    clear_value im
    have c1 : Queued todo s1 := c.poolFree
    split
    exacts [c1.joinsGo, c1]
  · exact c

theorem Queued.windowRest (c : Queued todo s) {it} : Queued todo (s.windowRest it) := by
  unfold State.windowRest
  split
  · exact .ite (.foldl c fun _ _ c => .poolRelease c.poolFreeAll) c.winSync
  · exact c.callBuf
  · exact c.callBuf

theorem Queued.charge (c : Queued todo s) {n0 q} : Queued todo (s.charge n0 q) := by
  unfold State.charge
  split
  next h1 =>
  exact .setDfc (.snd h1 c.draw)

theorem Queued.idleDef (c : Queued todo s) {n0 q} : Queued todo (s.idleDef n0 q) := .ite c.setDfc c

theorem Queued.onShuttle (c : Queued todo s) {x} : Queued todo (s.onShuttle x) := by
  unfold State.onShuttle
  exact c.update

theorem Queued.unready (c : Queued todo s) {x} : Queued todo (s.unready x) := by
  unfold State.unready
  exact c.update

theorem Queued.ready (c : Queued todo s) {x} : Queued todo (s.ready x) := by
  unfold State.ready
  exact c.unready.update

theorem Queued.takeSample (c : Queued todo s) {x pc} : Queued todo (s.takeSample x pc) := by
  unfold State.takeSample
  split
  · exact .ite (c.updCtx _ _) (.ite (.bump (c.updCtx _ _) _ _ _ _) (.setRf (.setRegs (c.updCtx _ _) _ _) _ _ _ _))
  · exact c

theorem Queued.nextClaim (c : Queued todo s) {n} : Queued todo (s.nextClaim n) := by
  unfold State.nextClaim
  refine .ite c ?_
  extract_lets live _ s1
  clear_value live
  have c1 : Queued todo s1 := c.update
  split
  exacts [c1, c1.update]

theorem Queued.asideDone (c : Queued todo s) {it} : Queued todo (s.asideDone it) := by
  unfold State.asideDone
  exact .nextClaim c.update

theorem Queued.itemGone (c : Queued todo s) {it} : Queued todo (s.itemGone it) := by
  unfold State.itemGone
  refine .windowRest (.closeWindows (.asideDone (.idleDef ?_)))
  split
  · exact .update (.poolFreeAll (.charge (.unready (.setCtx c.update _ _))))
  · exact c.update

theorem Queued.endItem (c : Queued todo s) {it status a0 a1 a2 payload} :
    Queued todo (s.endItem it status a0 a1 a2 payload) :=
  by
  unfold State.endItem
  refine .itemGone (.callDone ?_)
  split
  exacts [c.takeSample, c]

theorem Queued.trapItem (c : Queued todo s) {x cause op addr status} :
    Queued todo (s.trapItem x cause op addr status) := by
  unfold State.trapItem
  split
  exacts [c, c.endItem]

theorem Queued.goOn (c : Queued todo s) {x op} : Queued todo (s.goOn x op) := by
  unfold State.goOn
  extract_lets
  split
  exacts [c, .ite c.trapItem (.ready (c.setCtx _ _))]

theorem Queued.pickQueue (c : Queued todo s) {n p r level} : Queued todo (s.pickQueue n p r level).2 := by
  unfold State.pickQueue
  extract_lets k s1 ok ptr q
  have c1 : Queued todo s1 := .ite c (.foldl c fun _ _ c => c.setDfc)
  clear_value q
  split
  exacts [c1.update, c1]

theorem Queued.nextItem (c : Queued todo s) {a l} : Queued todo (s.nextItem a l).2 := by
  induction l generalizing s with
  | nil => exact c
  | cons p r ih =>
    unfold State.nextItem
    refine .ite_snd (ih c) ?_
    split <;> exact .snd ‹_› c.pickQueue

theorem Queued.startItem (c : Queued todo s) {it n0 i} : Queued todo (s.startItem it n0 i) := by
  unfold State.startItem
  split
  exacts [.evClu (.ready (.setCtx (.asideDone c.updItem) _ _)), c]

theorem queue_execWorkItemDispatch {n0} : KeepsQueue todo s (execWorkItemDispatch n0 s) := by
  unfold execWorkItemDispatch
  refine .ite ?_ (.next id)
  split
  next h1 => exact .next fun c => .snd h1 c.nextItem
  next h2 =>
    split
    · exact .ite (.next fun c => .endItem (.snd h2 c.nextItem))
        (.next fun c => .wakeItem (.startItem (.snd h2 c.nextItem)))
    · exact .next fun c => .wakeItem (.startItem (.snd h2 c.nextItem))

theorem queue_execBenchWaitExpire {n0 q} : KeepsQueue todo s (execBenchWaitExpire n0 q s) := by
  unfold execBenchWaitExpire
  split
  · exact .next id
  · exact .ite (.next fun c => .nextClaim c.update) (.next id)

theorem queue_execRunLimitExpire {x} : KeepsQueue todo s (execRunLimitExpire x s) := by
  unfold execRunLimitExpire
  split
  exacts [.next id, .next fun c => .endItem (c.bump _ _ _ _)]

theorem Queued.queueWord1 (c : Queued todo s) {q v} : Queued todo (s.queueWord1 q v).2 := .ite_snd c (c.setReg _ _)

theorem Queued.queueWord0 (c : Queued todo s) {q v} : Queued todo (s.queueWord0 q v).2 := by
  unfold State.queueWord0
  exact .ite_snd c (.ite_snd (.ite_snd c (.ite_snd c (c.setReg _ _))) (.ite_snd (.setReg (c.setReg _ _) _ _) c))

theorem queue_execQueueWrite {src} : KeepsQueue todo s (execQueueWrite src s) := by
  unfold execQueueWrite
  split
  next path a v =>
    extract_lets n o
    refine .ite ?_ (.next id)
    extract_lets
    split
    next st t h =>
    have ct : Queued todo s → Queued todo t := fun c => .snd h (.ite_snd c.queueWord1 (.ite_snd c.queueWord0 c))
    exact .ite (.next ct) (.next fun c => c.setRf _ _ _ _)
  next tag =>
    split
    · exact .next id
    refine .ite (.next fun c => c.finish _ _ _) ?_
    extract_lets q w0 w1 no
    have hno {t st} (ct : Queued todo s → Queued todo t) : KeepsQueue todo s (no t st) :=
      .next fun c => .finish (.setRf (ct c) _ _ _ _) _ _ _
    split
    next st t h =>
    have ct : Queued todo s → Queued todo t := fun c => .snd h c.queueWord1
    refine .ite (hno id) ?_
    split
    next st' u h' =>
    exact .ite (.next fun c => .finish (.snd h' (ct c).queueWord0) _ _ _) (hno ct)

theorem queue_execShedErrClear {path n0 v} : KeepsQueue todo s (execShedErrClear path n0 v s) :=
  .ite (.next fun c => c.setReg _ _) (.next id)

/-! ### Flow: windows at the destination and what they perform -/

theorem Queued.setWin (c : Queued todo s) {w} : Queued todo (s.setWin w) := by
  unfold State.setWin
  exact c.update

theorem Queued.reorderUse (c : Queued todo s) {i f} : Queued todo (s.reorderUse i f) := by
  unfold State.reorderUse
  split
  exacts [c.setImage _ _, c]

theorem Queued.takeReorder (c : Queued todo s) {dst o t} (e : s.takeReorder dst = some (o, t)) : Queued todo t := by
  unfold State.takeReorder at e
  split at e
  · split at e
    · cases e; exact c.reorderUse
    · split at e <;> cases e
      exact c
  · split at e <;> cases e
    exact c

theorem Queued.grant (c : Queued todo s) {n0 a1 pkts req rsp spray status} : Queued todo
    (s.grant n0 a1 pkts req rsp spray status) := c.emit _ _

theorem queue_execWopen {port pkt} : KeepsQueue todo s (execWopen port pkt s) := by
  unfold execWopen
  split
  next ok s1 h =>
  have c1 : Queued todo s → Queued todo s1 := fun c => .snd h (c.sink _ _ _)
  have hgrant {cl r n1 n2 n3 b st} : KeepsQueue todo s (.next (s1.grant cl r n1 n2 n3 b st)) :=
    .next fun c => (c1 c).grant
  refine .ite (.next c1) ?_
  extract_lets
  refine .ite hgrant (.ite hgrant (.ite hgrant ?_))
  extract_lets
  split
  · exact hgrant
  next s2 h2 =>
  have c2 : Queued todo s → Queued todo s2 := fun c => (c1 c).poolReserve h2
  clear hgrant
  split
  next spray img s3 h3 =>
  have c3 : Queued todo s → Queued todo s3 := by
    intro c
    split at h3
    next e =>
      cases h3
      split at e
      · exact (c2 c).takeReorder e
      · cases e
    · cases h3
      exact c2 c
  extract_lets n w _ s4 s5
  exact .next fun c => .grant (.ite ((c3 c).update.evDev _ _) (.ite ((c3 c).update.evDev _ _) (c3 c).update))

theorem Queued.winEnd (c : Queued todo s) {w} : Queued todo (s.winEnd w) := by
  unfold State.winEnd
  refine .winSync ?_
  split
  exacts [.reorderUse c.update, c.update]

theorem queue_execWclose {port pkt} : KeepsQueue todo s (execWclose port pkt s) := by
  unfold execWclose
  split
  next h1 =>
  refine .ite (.next fun c => .snd h1 (c.sink _ _ _)) ?_
  split
  exacts [.next fun c => .winEnd (.snd h1 (c.sink _ _ _)), .next fun c => .snd h1 (c.sink _ _ _)]

theorem queue_execWinIdleExpire {src dst flow} : KeepsQueue todo s (execWinIdleExpire src dst flow s) := by
  unfold execWinIdleExpire
  split
  exacts [.next fun c => .bump c.winEnd _ _ _ _, .next id]

theorem Queued.respond (c : Queued todo s) {n0 typ a1 op data} : Queued todo (s.respond n0 typ a1 op data) := by
  unfold State.respond
  exact .ite (c.emit _ _) (.winSync (c.emit _ _))

theorem Queued.performM (c : Queued todo s) {n0 typ a1 data} : Queued todo (s.performM n0 typ a1 data) := by
  unfold State.performM
  refine .ite (.respond (.ite c (c.bump _ _ _ _))) (.ite ?_
    (.ite (.respond (c.memStore _ _)) (.respond (c.memStore _ _))))
  split
  next h1 =>
  exact .respond (.snd h1 c.memLoad)

theorem Queued.performCall (c : Queued todo s) {w a0 data} : Queued todo (s.performCall w a0 data) := by
  unfold State.performCall
  extract_lets
  split
  next h1 =>
  exact .ite (.snd h1 c.takeCall) (.respond (.snd h1 c.takeCall))

theorem Queued.perform (c : Queued todo s) {w a0 data} : Queued todo (s.perform w a0 data) :=
  .ite c.performCall c.performM

theorem Queued.winLoop (c : Queued todo s) {n w} : Queued todo (State.winLoop n s w).1 := by
  induction n generalizing s w with
  | zero => exact c
  | succ n ih =>
    unfold State.winLoop
    split
    exacts [c, ih c, ih c.perform]

theorem Queued.winArrive (c : Queued todo s) {w pkt} : Queued todo (s.winArrive w pkt) := by
  unfold State.winArrive
  refine .ite (.bump c.setWin _ _ _ _) (.ite (.bump c.setWin _ _ _ _) ?_)
  split
  next h1 =>
  split
  next h2 =>
  exact .winSync (.setWin (.fst h2 (.winLoop (.fst h1 (.ite_fst c c.perform)))))

theorem Queued.request (c : Queued todo s) {port typ pkt} : Queued todo (s.request port typ pkt) := by
  unfold State.request
  split
  next h1 =>
  refine .ite (.snd h1 (c.sink _ _ _)) ?_
  split
  exacts [.bump (.snd h1 (c.sink _ _ _)) _ _ _ _, .winArrive (.snd h1 (c.sink _ _ _))]

theorem queue_execPut {port pkt} : KeepsQueue todo s (execPut port pkt s) := .next fun c => c.request

theorem queue_execGet {port pkt} : KeepsQueue todo s (execGet port pkt s) := .next fun c => c.request

theorem queue_execAtomic {port pkt} : KeepsQueue todo s (execAtomic port pkt s) := .next fun c => c.request

theorem queue_execCall {port pkt} : KeepsQueue todo s (execCall port pkt s) := .next fun c => c.request

theorem queue_execMirror {port pkt} : KeepsQueue todo s (execMirror port pkt s) := .next fun c => c.request

theorem queue_execMigrate {port pkt} : KeepsQueue todo s (execMigrate port pkt s) := .next fun c => c.request

theorem queue_execReorderTimeout {src dst flow} : KeepsQueue todo s (execReorderTimeout src dst flow s) := by
  unfold execReorderTimeout
  split
  · exact .next id
  · exact .ite (.next fun c => .winSync (.setWin (c.bump _ _ _ _))) (.next id)

theorem Queued.mirrorPush (c : Queued todo s) : Queued todo s.mirrorPush := by
  unfold State.mirrorPush
  refine .ite c (.foldl c fun _ _ c => ?_)
  extract_lets
  split
  next h1 =>
  exact .update (.snd_snd h1 c.moveOne)

theorem Queued.response (c : Queued todo s) {port typ pkt} : Queued todo (s.response port typ pkt) := by
  unfold State.response
  split
  next h1 =>
  exact .ite (.snd h1 (c.sink _ _ _)) (.ite (.update (.snd h1 (c.sink _ _ _)))
    (.mirrorPush (.ownStep (.opEnd (.snd h1 (c.sink _ _ _))))))

theorem queue_execPutAck {port pkt} : KeepsQueue todo s (execPutAck port pkt s) := .next fun c => c.response

theorem queue_execGetData {port pkt} : KeepsQueue todo s (execGetData port pkt s) := .next fun c => c.response

theorem queue_execAtomicRsp {port pkt} : KeepsQueue todo s (execAtomicRsp port pkt s) := .next fun c => c.response

theorem queue_execCallDone {port pkt} : KeepsQueue todo s (execCallDone port pkt s) := .next fun c => c.response

theorem Queued.fopenEnd (c : Queued todo s) {w st low} : Queued todo (s.fopenEnd w st low) := by
  unfold State.fopenEnd
  split
  exacts [.goOn c.setS, c]

theorem Queued.granted (c : Queued todo s) {w st pkts req rsp spray} :
    Queued todo (s.granted w st pkts req rsp spray) := by
  unfold State.granted
  exact .ite (.ite c.wclose (c.setSrc _ _)) (.ite (.fopenEnd (c.setSrc _ _))
    (.ite (c.setSrc _ _) (.fopenEnd (c.setSrc _ _))))

theorem queue_execWgrant {port pkt} : KeepsQueue todo s (execWgrant port pkt s) := by
  unfold execWgrant
  split
  next h1 =>
  refine .ite (.next fun c => .snd h1 (c.sink _ _ _)) ?_
  extract_lets _ _ _ s2
  have c2 : Queued todo s → Queued todo s2 := fun c => .update (.snd h1 (c.sink _ _ _))
  split
  · exact .next c2
  · exact .ite (.next fun c => .mirrorPush (.ownStep (.granted (.snd h1 (c.sink _ _ _))))) (.next c2)

theorem queue_execOpTimeout {dst flow fsn} : KeepsQueue todo s (execOpTimeout dst flow fsn s) := by
  unfold execOpTimeout
  refine .ite ?_ ?_
  · split
    exacts [.next id, .next fun c => .updCtx (.noteFail c.updItem) _ _]
  · split
    · exact .next id
    · exact .ite (.next fun c => .ownStep (.granted c.freshWait))
        (.next fun c => .mirrorPush (.ownStep (.opEnd c.freshWait)))

theorem Queued.gateEnd (c : Queued todo s) {x jn st} : Queued todo (s.gateEnd x jn st) := by
  unfold State.gateEnd
  split
  exacts [.ite (.goOn (.setS c.setJoin)) c, c]

theorem Queued.unmatched (c : Queued todo s) {a0} : Queued todo (s.unmatched a0) := by
  unfold State.unmatched
  exact .ite c.update c

theorem Queued.joinResult (c : Queued todo s) {x jn a0 data} : Queued todo (s.joinResult x jn a0 data) := by
  unfold State.joinResult
  split
  · exact c
  · exact .ite c.gateEnd (.ite c (.joinSend (.setJoin (.ite c c.benchPut))))

theorem queue_execResult {port pkt} : KeepsQueue todo s (execResult port pkt s) := by
  unfold execResult
  split
  next h1 =>
  refine .ite (.next fun c => .snd h1 (c.sink _ _ _)) (.next fun c => .foldl ?_ fun _ _ c => c.joinResult)
  split
  exacts [.parentResult (.unmatched (.snd h1 (c.sink _ _ _))), .unmatched (.snd h1 (c.sink _ _ _))]

theorem queue_execGroupFail {port pkt} : KeepsQueue todo s (execGroupFail port pkt s) := by
  unfold execGroupFail
  split
  next h1 =>
  refine .ite (.next fun c => .snd h1 (c.sink _ _ _)) (.next fun c => .foldl ?_ fun _ _ c => ?_)
  · split
    · exact .ite (.unmatched (.snd h1 (c.sink _ _ _))) (.failInstance (.unmatched (.snd h1 (c.sink _ _ _))))
    · exact .unmatched (.snd h1 (c.sink _ _ _))
  · split
    exacts [.ite c.gateEnd (.ite c c.setJoin), c]

theorem queue_execJoinTimeout {x j} : KeepsQueue todo s (execJoinTimeout x j s) := by
  unfold execJoinTimeout
  split
  exacts [.ite (.next id) (.next fun c => c.setJoin), .next id]

theorem Queued.commitEnd (c : Queued todo s) {result status} : Queued todo (s.commitEnd result status) := by
  unfold State.commitEnd
  refine .update ?_
  split
  · exact .finish (.setRf (.setRf (c.setRf _ _ _ _) _ _ _ _) _ _ _ _) _ _ _
  · exact .setRf (.setRf (c.setRf _ _ _ _) _ _ _ _) _ _ _ _

theorem Queued.commitAnswer (c : Queued todo s) {src} : Queued todo (s.commitAnswer src) := c.answer

theorem queue_execCommitStart {src} : KeepsQueue todo s (execCommitStart src s) := by
  unfold execCommitStart
  refine .ite (.next id) (.ite (.next fun c => c.answer) (.ite (.next fun c => .answer (c.setRf _ _ _ _)) ?_))
  extract_lets tag s1 n s2
  clear_value tag
  have h1 : Queued todo s → Queued todo s1 := by
    intro c
    unfold s1
    split
    exacts [c.hold _, c]
  exact .next fun c => .update (.setRf (.setRf (.setRf (h1 c) _ _ _ _) _ _ _ _) _ _ _ _)

theorem Queued.commitApply (c : Queued todo s) : Queued todo s.commitApply := by
  unfold State.commitApply
  extract_lets _ _ s1 s2 s3 _ s4 _ s5 s6
  have c1 : Queued todo s1 := .foldl c fun _ _ c => c.setRegs _ _
  have c2 : Queued todo s2 := .foldl c1 fun _ _ c => c.setRegs _ _
  have c3 : Queued todo s3 := c2.uncut
  have c4 : Queued todo s4 := .foldl c3 fun _ _ c => c.mirror
  have c5 : Queued todo s5 := c4.update
  have c6 : Queued todo s6 := c5.commitEnd
  split
  exacts [c6.mirrorAnswer, .commitEnd (.foldl c3 fun _ _ c => c.mirror)]

theorem queue_execCommitValidateDone : KeepsQueue todo s (execCommitValidateDone s) := by
  unfold execCommitValidateDone
  exact .ite (.next id) (.ite (.next fun c => c.commitEnd)
    (.next fun c => .ite (.commitApply (c.setRf _ _ _ _)) (c.setRf _ _ _ _)))

theorem queue_execCommitDrained : KeepsQueue todo s (execCommitDrained s) :=
  .ite (.next fun c => c.commitApply) (.next id)

theorem queue_execDrainLimitExpire : KeepsQueue todo s (execDrainLimitExpire s) := .next fun c => .ite c.commitEnd c

theorem queue_execCommitAbort {src} : KeepsQueue todo s (execCommitAbort src s) :=
  .ite (.next id) (.next fun c => .commitAnswer (.ite c.commitEnd c))

theorem queue_execCommitSync {src} : KeepsQueue todo s (execCommitSync src s) := by
  unfold execCommitSync
  exact .ite (.next id) (.ite (.next fun c => c.answer) (.next fun c => .commitAnswer
    (.foldl (.foldl c fun _ _ c => c.setRegs _ _) fun _ _ c => c.setRegs _ _)))

theorem queue_execRtePktErrClear {path v} : KeepsQueue todo s (execRtePktErrClear path v s) :=
  .ite (.next fun c => .setReg (c.setReg _ _) _ _) (.next id)

theorem queue_execRteFlowErrClear {path v} : KeepsQueue todo s (execRteFlowErrClear path v s) :=
  .ite (.next fun c => .setReg (.setReg (c.setReg _ _) _ _) _ _) (.next id)

theorem queue_execRteCongErrClear {path v} : KeepsQueue todo s (execRteCongErrClear path v s) :=
  .ite (.next fun c => .setReg (.setReg (c.setReg _ _) _ _) _ _) (.next id)

/-! ### Load: images and the sequence library -/

theorem Queued.loadGroup (c : Queued todo s) {gr g t} (e : s.loadGroup gr = some (g, t)) : Queued todo t := by
  unfold State.loadGroup at e
  extract_lets live at e
  split at e
  · extract_lets s1 s2 s3 s4 at e
    have c1 : Queued todo s1 := .foldl c fun _ _ c => c.setReg _ _
    have c4 : Queued todo s4 := .setRegs (.setRegs (.setRf (c1.setRf _ _ _ _) _ _ _ _) _ _) _ _
    split at e
    split at e <;> cases e
    exact c4.groupReserve.groupArm
  · cases e

theorem Queued.loadGroups (c : Queued todo s) {l gs t} (e : s.loadGroups l = some (gs, t)) : Queued todo t := by
  -- Lean cannot state the equations of `loadGroups` (it would evaluate `loadGroup`): open its recursion by hand.
  delta State.loadGroups State.loadGroups._f List.brecOn List.brecOn.go at e
  dsimp only at e
  induction l generalizing s gs with
  | nil => cases e; exact c
  | cons x r ih =>
    dsimp only at e
    generalize hu : s.loadGroup x = o at e
    split at e
    · cases e
    obtain ⟨y, hy, e⟩ := Option.map_eq_some_iff.mp e
    cases e
    exact ih (c.loadGroup hu) hy

theorem Queued.loadQueues (c : Queued todo s) {i cs l qs t} (e : s.loadQueues i cs l = some (qs, t)) :
    Queued todo t := by
  induction l generalizing s qs with
  | nil => cases e; exact c
  | cons x r ih =>
    unfold State.loadQueues at e
    split at e
    · cases e
    · split at e
      · cases e
      · obtain ⟨y, hy, e⟩ := Option.map_eq_some_iff.mp e
        cases e
        exact ih ((c.setReg _ _).setReg _ _) hy

theorem Queued.loadBobs (c : Queued todo s) {i l cs t} (e : s.loadBobs i l cs = some t) : Queued todo t := by
  induction cs generalizing s with
  | nil => cases e; exact c
  | cons x r ih =>
    unfold State.loadBobs at e
    split at e
    · cases e
    · exact ih (c.poolReserveAll ‹_›) e

theorem Queued.imgReserve (c : Queued todo s) {i eid b lib} : Queued todo (s.imgReserve i eid b lib).2 := by
  unfold State.imgReserve
  refine .ite_snd c ?_
  extract_lets
  split
  · exact c
  · split
    · exact c
    · extract_lets
      split
      · exact c
      next h2 =>
        extract_lets s3
        have c3 : Queued todo s3 := .setReg (c.loadBobs h2) _ _
        split
        · exact c
        next h5 =>
          refine .ite_snd c (.ite_snd c ?_)
          extract_lets s6
          have c6 : Queued todo s6 := .foldl (.foldl (c3.loadQueues h5) fun _ _ c => c.setSrc _ _) fun _ _ c => c.update
          split
          · exact c
          next h8 =>
            exact .setImage (.setReg (.setReg (.setReg (c6.loadGroups h8) _ _) _ _) _ _) _ _

theorem Queued.imgCopy (c : Queued todo s) {i} : Queued todo (s.imgCopy i) := by
  unfold State.imgCopy
  split
  exacts [c, .memPut (.memClear (c.memPut _ _) _ _) _ _]

theorem Queued.pushData (c : Queued todo s) {ms} : Queued todo (s.pushData ms) := by
  unfold State.pushData
  exact .ite c.update c

theorem Queued.pushImage (c : Queued todo s) {i} : Queued todo (s.pushImage i) := by
  unfold State.pushImage
  split
  · exact c
  · split
    next h1 =>
    exact .pushData (.snd h1 c.draw)

theorem Queued.loadEnd (c : Queued todo s) {st} : Queued todo (s.loadEnd st) := by
  unfold State.loadEnd
  split
  · exact c
  · extract_lets _ s1
    have c1 : Queued todo s1 := c.update
    split
    exacts [c1.finish _ _ _, c1]

theorem Queued.loadChecks (c : Queued todo s) : Queued todo s.loadChecks := by
  unfold State.loadChecks
  split
  · exact c
  · refine .ite c.loadEnd (.ite c.loadEnd ?_)
    split
    · exact c.loadEnd
    · split
      next h1 =>
      exact .ite c.loadEnd (.update (.setRf (.snd h1 c.imgReserve) _ _ _ _))

theorem queue_execImageLoad {tag} : KeepsQueue todo s (execImageLoad tag s) := by
  unfold execImageLoad
  split
  · exact .next id
  · refine .ite (.next fun c => c.finish _ _ _) (.ite (.next fun c => c.finish _ _ _)
      (.ite (.next fun c => c.finish _ _ _) (.ite (.next fun c => c.finish _ _ _) ?_)))
    split
    · exact .next fun c => c.finish _ _ _
    · exact .ite (.next fun c => .update (c.hold _)) (.ite (.next fun c => .loadEnd (.update (c.hold _)))
        (.next fun c => .loadChecks (.update (c.hold _))))

theorem queue_execImageVerifyDone {ok} : KeepsQueue todo s (execImageVerifyDone ok s) := by
  unfold execImageVerifyDone
  split
  · exact .next id
  · exact .ite (.next id) (.next fun c => .ite c.loadChecks c.loadEnd)

theorem queue_execImageCopyDone : KeepsQueue todo s (execImageCopyDone s) := by
  unfold execImageCopyDone
  split
  · exact .next id
  · refine .ite (.next id) ?_
    extract_lets s1 _ s2 _ s3
    have c1 : Queued todo s → Queued todo s1 := fun c => .setRf c.imgCopy _ _ _ _
    have c2 : Queued todo s → Queued todo s2 := fun c => .update (c1 c)
    have c3 : Queued todo s → Queued todo s3 := fun c => .foldl (.pushImage (c2 c)) fun _ _ c => c.mirror
    split
    exacts [.next fun c => .mirrorPush (.mirrorAnswer (c3 c)), .next fun c => .mirrorPush (.mirror (c3 c))]

theorem Queued.drainImage (c : Queued todo s) {i tag} : Queued todo (s.drainImage i tag) := by
  unfold State.drainImage
  exact .update (.foldl (c.setRf _ _ _ _) fun _ _ c => c.endItem)

theorem queue_execImageUnload {tag} : KeepsQueue todo s (execImageUnload tag s) := by
  unfold execImageUnload
  split
  · exact .next id
  · exact .ite (.next fun c => c.finish _ _ _) (.ite (.next fun c => c.finish _ _ _)
      (.ite (.next fun c => c.finish _ _ _) (.ite (.next fun c => c.finish _ _ _)
      (.ite (.next fun c => c.finish _ _ _) (.ite (.next fun c => c.finish _ _ _)
      (.ite (.next fun c => c.finish _ _ _) (.next fun c => .drainImage (c.hold _))))))))

theorem Queued.imgFreeAll (c : Queued todo s) {i} : Queued todo (s.imgFreeAll i) := by
  unfold State.imgFreeAll
  split
  · exact c
  · exact .setImage (.setRegs (.update (.foldl (.foldl (.foldl c fun _ _ c => .poolRelease c.poolFreeAll)
      fun _ _ c => .setReg (c.setReg _ _) _ _) fun _ _ c => c.setSrc _ _)) _ _) _ _

theorem queue_execImageDrainDone {idx} : KeepsQueue todo s (execImageDrainDone idx s) := by
  unfold execImageDrainDone
  split
  · refine .ite (.next id) (.ite (.next fun c => .foldl c fun _ _ c => .setRf c.failOpen _ _ _ _)
      (.ite (.next id) ?_))
    extract_lets s1 s2 _ s3
    have c1 : Queued todo s → Queued todo s1 := fun c => .foldl c fun _ _ c => .ite (.mirror c.groupFree) c
    have c2 : Queued todo s → Queued todo s2 := fun c => .imgFreeAll (c1 c)
    have c3 : Queued todo s → Queued todo s3 := fun c => .update (c2 c)
    split
    exacts [.next fun c => .mirrorAnswer (c3 c), .next fun c => .mirror (c3 c)]
  · exact .next id

theorem queue_libStep {item entry go} (h : ∀ it x, Queued todo s → Queued todo (go it x)) :
    KeepsQueue todo s (s.libStep item entry go) := by
  unfold State.libStep
  split
  · exact .next id
  · exact .ite (.next id) (.next fun c => .ite (.unready (h _ _ c)) (h _ _ c))

theorem Queued.libFail (c : Queued todo s) {it st} : Queued todo (s.libFail it st) := c.endItem

theorem Queued.mirrorStale (c : Queued todo s) {n} : Queued todo (s.mirrorStale n) := c.setRf _ _ _ _

theorem Queued.copyTwin (c : Queued todo s) {x it k} : Queued todo (s.copyTwin x it k).2 := by
  unfold State.copyTwin
  refine .ite_snd c (.ite_snd (.ite_snd c (.ite_snd c c.mirrorStale)) (.ite_snd c ?_))
  split
  next h1 =>
  exact .snd_snd h1 c.moveAll

theorem Queued.copyStep (c : Queued todo s) {x it k} : Queued todo (s.copyStep x it k).2 := by
  unfold State.copyStep
  refine .ite_snd c ?_
  extract_lets
  split
  next h1 =>
  extract_lets _ s2
  have c2 : Queued todo s2 := .ite (.mirrorStale (.snd_snd h1 c.moveAll)) (.snd_snd h1 c.moveAll)
  split
  next t4 h3 =>
  have ct4 : Queued todo t4 := by
    refine .snd h3 ?_
    split
    · exact c2
    · extract_lets
      split
      exacts [.seqFail (.ite c2.markLost c2), .seqFail (.ite c2.markLost c2), c2]
  exact ct4.copyTwin

theorem queue_execLibAppend {item} : KeepsQueue todo s (execLibAppend item s) := by
  unfold execLibAppend
  refine queue_libStep fun _ _ c => ?_
  extract_lets
  split
  · refine .ite c.libFail (.ite c.libFail (.ite c.libFail (.ite c.libFail ?_)))
    split
    next h1 => exact .libFail (.snd_snd h1 c.translateAll)
    next h2 => exact .snd_snd h2 c.translateAll
    next h3 =>
      extract_lets
      split
      next h4 =>
      exact .ite (.libFail (.snd h4 (.copyStep (.snd_snd h3 c.translateAll))))
        (.ite (.endItem (.raiseLen (.snd h4 (.copyStep (.snd_snd h3 c.translateAll)))))
        (.updCtx (.snd h4 (.copyStep (.snd_snd h3 c.translateAll))) _ _))
  · split
    next h5 =>
    exact .ite (.libFail (.snd h5 c.copyStep)) (.ite (.endItem (.raiseLen (.snd h5 c.copyStep)))
      (.updCtx (.snd h5 c.copyStep) _ _))

theorem queue_execLibRead {item} : KeepsQueue todo s (execLibRead item s) := by
  unfold execLibRead
  refine queue_libStep fun _ _ c => ?_
  extract_lets
  split
  · refine .ite c.libFail (.ite c.libFail ?_)
    split
    next h1 => exact .libFail (.snd_snd h1 c.translateAll)
    next h2 => exact .snd_snd h2 c.translateAll
    next h3 =>
      extract_lets
      split
      next h4 =>
      exact .ite (.libFail (.snd h4 (.copyStep (.snd_snd h3 c.translateAll))))
        (.ite (.endItem (.snd h4 (.copyStep (.snd_snd h3 c.translateAll))))
        (.updCtx (.snd h4 (.copyStep (.snd_snd h3 c.translateAll))) _ _))
  · split
    next h5 =>
    exact .ite (.libFail (.snd h5 c.copyStep)) (.ite (.endItem (.snd h5 c.copyStep))
      (.updCtx (.snd h5 c.copyStep) _ _))

theorem Queued.lendFrames (c : Queued todo s) {eid n} : Queued todo (s.lendFrames eid n).2 := by
  induction n generalizing s with
  | zero => exact c
  | succ n ih =>
    unfold State.lendFrames
    refine .ite_snd c ?_
    split
    · exact .snd ‹_› c.choose
    · exact ih (Queued.takeFrame (.snd ‹_› c.choose))

theorem queue_execLibLend {item} : KeepsQueue todo s (execLibLend item s) := by
  unfold execLibLend
  refine queue_libStep fun _ _ c => .ite c.libFail ?_
  split
  next h1 =>
  exact .endItem (.snd h1 c.lendFrames)

theorem queue_execLibReturn {item} : KeepsQueue todo s (execLibReturn item s) := by
  unfold execLibReturn
  exact queue_libStep fun _ _ c => .ite c.libFail (.endItem
    (.foldl c fun _ _ c' => .ite c'.setFrame (c'.bump _ _ _ _)))

theorem Queued.attnGather (c : Queued todo s) {it x first} : Queued todo (s.attnGather it x first).2.2 := by
  unfold State.attnGather
  extract_lets
  split
  next h1 => exact .snd_snd h1 c.translateAll
  next h2 => exact .snd_snd h2 c.translateAll
  next h3 => exact .snd_snd h3 c.translateAll

theorem Queued.attnContrib (c : Queued todo s) {it x told data sent} :
    Queued todo (s.attnContrib it x told data sent) := by
  unfold State.attnContrib
  extract_lets
  split
  next t3 h1 =>
  have ct3 : Queued todo t3 := by
    refine .snd h1 (.foldl_snd c fun _ _ c => .ite_snd c ?_)
    extract_lets
    split
    next h2 =>
    exact .ite_snd (.emitHeld (.snd h2 c.injBuffer)) (.snd h2 c.injBuffer)
  exact .ite ct3.endItem (.updCtx ct3.benchPut _ _)

theorem Queued.attend (c : Queued todo s) {it x kind first qt inline} :
    Queued todo (s.attend it x kind first qt inline) := by
  unfold State.attend
  extract_lets
  split
  · refine .ite c.libFail ?_
    split
    next h1 => exact .ite c.libFail (.snd_snd h1 c.attnGather)
    next h2 =>
      extract_lets
      split
      next h3 =>
      refine .ite (.libFail (.snd h3 (.copyStep (.snd_snd h2 c.attnGather))))
        (.ite (.ite (.attnContrib (.snd h3 (.copyStep (.snd_snd h2 c.attnGather))))
        (.ite (.endItem (.snd h3 (.copyStep (.snd_snd h2 c.attnGather)))) ?_))
        (.updCtx (.snd h3 (.copyStep (.snd_snd h2 c.attnGather))) _ _))
      extract_lets s4
      have c4 : Queued todo s4 := .benchPut (.snd h3 (.copyStep (.snd_snd h2 c.attnGather)))
      split
      next h5 =>
      exact .updCtx (.snd h5 c4.copyStep) _ _
  · refine .ite c.attnContrib ?_
    split
    next h6 =>
    refine .ite (.libFail (.snd h6 c.copyStep)) (.ite (.ite (.ite (.attnContrib (.snd h6 c.copyStep))
      (.ite (.endItem (.snd h6 c.copyStep)) ?_)) (.endItem (.snd h6 c.copyStep)))
      (.updCtx (.snd h6 c.copyStep) _ _))
    extract_lets s7
    have c7 : Queued todo s7 := .benchPut (.snd h6 c.copyStep)
    split
    next h8 =>
    exact .updCtx (.snd h8 c7.copyStep) _ _

theorem queue_execLibDecode {item} : KeepsQueue todo s (execLibDecode item s) := queue_libStep fun _ _ c => c.attend

theorem queue_execLibPrefill {item} : KeepsQueue todo s (execLibPrefill item s) := by
  unfold execLibPrefill
  exact queue_libStep fun _ _ c => .ite c.libFail c.attend

theorem queue_execLibLatentDecode {item} : KeepsQueue todo s (execLibLatentDecode item s) :=
  queue_libStep fun _ _ c => .ite c.libFail c.attend

/-! ### Operands: how a context issues an instruction -/

theorem QueuedIssue.cause {k a} : QueuedIssue todo (.cause k a) := trivial

theorem Queued.evFree (c : Queued todo s) {x code} : Queued todo (s.evFree x code) := by
  unfold State.evFree
  refine .ite ?_ c
  split
  next h1 =>
  exact .evShu (.snd h1 c.draw)

theorem Queued.evMiss (c : Queued todo s) {x op} : Queued todo (s.evMiss x op) := by
  unfold State.evMiss
  extract_lets s1 s2
  have c1 : Queued todo s1 := c.evFree
  have c2 : Queued todo s2 := .ite c1.evFree c1
  exact .ite c2.evFree c2

theorem Queued.evIssue (c : Queued todo s) {x op} : Queued todo (s.evIssue x op) := by
  unfold State.evIssue
  extract_lets _ s1 _ s2 s3 s4 s5
  have c1 : Queued todo s1 := .ite c.evShu c
  have c2 : Queued todo s2 := c1.update
  have c3 : Queued todo s3 := by
    unfold s3
    split
    exacts [c2.charge, c2]
  have c4 : Queued todo s4 := c3.evShu
  have c5 : Queued todo s5 := .ite c4.evShu c4
  exact .evMiss (.ite c5.evShu c5)

theorem Queued.trapNow (c : Queued todo s) {x op cause addr status} : Queued todo (s.trapNow x op cause addr status) :=
  .trapItem (.evShu c.evIssue)

theorem queue_issue {x op bad f} (h : ∀ it im, Queued todo s → QueuedIssue todo (f it im)) :
    KeepsQueue todo s (s.issue x op bad f) := by
  unfold State.issue
  split
  next it im _ _ =>
    refine .ite (.next id) (.ite (.next fun c => .ite (.trapNow c.eccBump) c.trapNow) ?_)
    extract_lets past
    have hi : Queued todo s → QueuedIssue todo (if bad then Issue.cause 1 0 else f it im) :=
      fun c => .ite .cause (h it im c)
    generalize (if bad then Issue.cause 1 0 else f it im) = i at hi
    cases i with
    | trap k a st => exact .next fun c => c.trapNow
    | fault t k a st => exact .next fun c => .trapNow (hi c)
    | jump t pc => exact .next fun c => .onShuttle (.evIssue (.updCtx (hi c) _ _))
    | yields t => exact .ite (.next fun c => c.trapNow) (.next fun c => .ready (.evIssue (.updCtx (hi c) _ _)))
    | ended t => exact .next hi
    | still t => exact .next fun c => .unready (hi c)
    | done t => exact .ite (.next fun c => c.trapNow) (.next fun c => .onShuttle (.evIssue (.updCtx (hi c) _ _)))
    | wait t => exact .ite (.next fun c => c.trapNow) (.next fun c => .unready (hi c))
  · exact .next id

theorem queue_issueFn {x op want got count bad f} (h : ∀ it im, Queued todo s → QueuedIssue todo (f it im)) :
    KeepsQueue todo s (s.issueFn x op want got count bad f) :=
  .ite (queue_issue h) (.ite (.next id) (queue_issue h))

theorem QueuedIssue.doneS (c : Queued todo s) {x d v} : QueuedIssue todo (s.doneS x d v) := .done c.setS

theorem QueuedIssue.doneF (c : Queued todo s) {x d r} : QueuedIssue todo (s.doneF x d r) := .done (.setS (c.updCtx _ _))

theorem QueuedIssue.unless {l go} (h : QueuedIssue todo go) : QueuedIssue todo (.unless l go) := by
  unfold Issue.unless
  dsimp only
  split
  exacts [.trap, h]

theorem QueuedIssue.doneV (c : Queued todo s) {x pred w d f} : QueuedIssue todo (s.doneV x pred w d f) :=
  .done (c.updCtx _ _)

theorem QueuedIssue.doneVec (c : Queued todo s) {x d w rs} : QueuedIssue todo (s.doneVec x d w rs) :=
  .done (c.updCtx _ _)

theorem QueuedLocs.resolve (c : Queued todo s) {x it im k n al l} : QueuedLocs todo (s.resolve x it im k n al l) := by
  induction l generalizing s with
  | nil => exact c
  | cons a r ih =>
    unfold State.resolve
    split
    · exact c
    next p _ =>
    extract_lets one
    have hone : QueuedLocs todo one := by
      unfold one
      split
      · exact c
      · exact c
      · split
        next h => exact Queued.snd h c.translate
        next h => exact Queued.snd h c.translate
        · exact Queued.seqFail c
        next h => exact Queued.snd h c.translate
    clear_value one
    split
    next t =>
      have ht := ih (s := t) hone
      split
      next h => rw [h] at ht; exact ht
      · exact ht
    · exact hone

theorem Queued.fetchFar (c : Queued todo s) {x it n l a b o t} (e : s.fetchFar x it n l = some (a, b, o, t)) :
    Queued todo t :=
  by
  unfold State.fetchFar at e
  extract_lets far k bad k0 at e
  split at e
  · cases e; exact c
  split at e
  next k' u hu =>
  have cu : Queued todo u := .snd hu c.copyStep
  extract_lets at e
  split at e
  · cases e; exact cu
  · split at e <;> cases e
    exacts [cu.updCtx _ _, cu.updCtx _ _]

theorem Queued.readLocs (c : Queued todo s) {x n l} : Queued todo (s.readLocs x n l).2 := by
  induction l generalizing s with
  | nil => exact c
  | cons a r ih => exact ih (c.locGet (x := x) (l := a) (n := n))

theorem Queued.dropFar (c : Queued todo s) {x} : Queued todo (s.dropFar x) := c.updCtx _ _

theorem QueuedIssue.load (c : Queued todo s) {x it im seqOk hbmOk n al addrs go}
    (h : ∀ bs t, Queued todo t → QueuedIssue todo (go bs t)) :
    QueuedIssue todo (s.load x it im seqOk hbmOk n al addrs go) := by
  have hl := QueuedLocs.resolve c (x := x) (it := it) (im := im) (k := ⟨hbmOk, seqOk, false⟩) (n := n) (al := al)
    (l := addrs)
  unfold State.load
  generalize s.resolve x it im ⟨hbmOk, seqOk, false⟩ n al addrs = o at hl
  split
  · exact .fault hl
  · exact .wait hl
  next l t =>
    have ct : Queued todo t := hl
    split
    next e =>
      have cu := ct.fetchFar e
      split
      · exact .fault (.dropFar cu.locErr)
      · split
        next e' => exact h _ _ (.dropFar (.snd e' cu.readLocs))
    next e => exact .ite (.wait (ct.fetchFar e)) (.fault (ct.fetchFar e))
    · exact .wait c

theorem Queued.writeLocs (c : Queued todo s) {x l} : Queued todo (s.writeLocs x l) := by
  induction l generalizing s with
  | nil => exact c
  | cons a r ih => exact ih c.locPut

theorem QueuedIssue.store (c : Queued todo s) {x it im hbmOk n al l} :
    QueuedIssue todo (s.store x it im hbmOk n al l) := by
  unfold State.store
  split
  exacts [.trap, .done c.writeLocs]

/-! ### Scalar: the scalar instructions -/

theorem queue_execSop {x et fn b a d} : KeepsQueue todo s (execSop x et fn b a d s) := queue_issue fun _ _ c => .doneS c

theorem queue_execAddi {x imm a d} : KeepsQueue todo s (execAddi x imm a d s) := queue_issue fun _ _ c => .doneS c

theorem queue_execAndi {x imm a d} : KeepsQueue todo s (execAndi x imm a d s) := queue_issue fun _ _ c => .doneS c

theorem queue_execOri {x imm a d} : KeepsQueue todo s (execOri x imm a d s) := queue_issue fun _ _ c => .doneS c

theorem queue_execXori {x imm a d} : KeepsQueue todo s (execXori x imm a d s) := queue_issue fun _ _ c => .doneS c

theorem queue_execSlti {x imm a d} : KeepsQueue todo s (execSlti x imm a d s) := queue_issue fun _ _ c => .doneS c

theorem queue_execShi {x imm a d} : KeepsQueue todo s (execShi x imm a d s) := by
  unfold execShi
  exact queue_issue fun _ _ c => .doneS c

theorem queue_execSli {x imm a d} : KeepsQueue todo s (execSli x imm a d s) := queue_issue fun _ _ c => .doneS c

theorem queue_execSmul {x et fn b a d} : KeepsQueue todo s (execSmul x et fn b a d s) := by
  unfold execSmul
  exact queue_issue fun _ _ c => .doneS c

theorem queue_execScmp {x et fn b a d} : KeepsQueue todo s (execScmp x et fn b a d s) := by
  unfold execScmp
  exact queue_issue fun _ _ c => .doneS c

theorem queue_execFop {x et fn b a d} : KeepsQueue todo s (execFop x et fn b a d s) := queue_issue fun _ _ c => .doneF c

theorem queue_execFmad {x et fn b a d} : KeepsQueue todo s (execFmad x et fn b a d s) := by
  unfold execFmad
  exact queue_issue fun _ _ c => .doneF c

theorem queue_execFcmp {x et fn b a d} : KeepsQueue todo s (execFcmp x et fn b a d s) := by
  unfold execFcmp
  refine queue_issue fun _ _ c => ?_
  extract_lets
  split
  exact .doneF c

theorem queue_execScvt {x et fn b a d} : KeepsQueue todo s (execScvt x et fn b a d s) := by
  unfold execScvt
  refine queue_issue fun _ _ c => ?_
  extract_lets
  split
  exact .doneF c

theorem QueuedIssue.goTo (c : Queued todo s) {im target} : QueuedIssue todo (s.goTo im target) := .ite (.jump c) .cause

theorem queue_execBr {x ofs b a cond} : KeepsQueue todo s (execBr x ofs b a cond s) :=
  queue_issue fun _ _ c => .ite (.goTo c) (.done c)

theorem queue_execJal {x imm a d} : KeepsQueue todo s (execJal x imm a d s) := by
  unfold execJal
  exact queue_issue fun _ _ c => .goTo c.setS

theorem queue_execJalr {x imm a d} : KeepsQueue todo s (execJalr x imm a d s) := by
  unfold execJalr
  exact queue_issue fun _ _ c => .ite .cause (.ite .cause (.goTo c.setS))

theorem QueuedIssue.scalarLoad (c : Queued todo s) {x it im addr n d sgn} : QueuedIssue todo
    (s.scalarLoad x it im addr n d sgn) := by
  unfold State.scalarLoad
  exact .load c fun _ _ c => .doneS c

theorem queue_execLd {x et fn b a d} : KeepsQueue todo s (execLd x et fn b a d s) :=
  queue_issue fun _ _ c => .scalarLoad c

theorem queue_execSt {x et fn b a d} : KeepsQueue todo s (execSt x et fn b a d s) := by
  unfold execSt
  exact queue_issue fun _ _ c => .store c

theorem queue_execLdi {x imm a d} : KeepsQueue todo s (execLdi x imm a d s) := queue_issue fun _ _ c => .scalarLoad c

theorem queue_execSti {x imm a d} : KeepsQueue todo s (execSti x imm a d s) := queue_issue fun _ _ c => .store c

theorem queue_execLatm {x et fn b a d} : KeepsQueue todo s (execLatm x et fn b a d s) := by
  unfold execLatm
  refine queue_issue fun _ _ c => ?_
  extract_lets
  split
  · exact .trap
  · refine .ite (.fault c.locErr) ?_
    split
    next h1 =>
    exact .doneS (.locPut (.snd h1 c.locGet))

/-! ### Vector: the vector instructions -/

theorem queue_execVint {x et pred vfn b a d} : KeepsQueue todo s (execVint x et pred vfn b a d s) := by
  unfold execVint
  exact queue_issue fun _ _ c => .doneV c

theorem queue_execVfp {x et pred vfn b a d} : KeepsQueue todo s (execVfp x et pred vfn b a d s) := by
  unfold execVfp
  exact queue_issue fun _ _ c => .doneV c

theorem queue_execVfma {x et pred vfn b a d} : KeepsQueue todo s (execVfma x et pred vfn b a d s) := by
  unfold execVfma
  exact queue_issue fun _ _ c => .ite (.doneV c) (.doneV c)

theorem queue_execVcmp {x et pred vfn b a d} : KeepsQueue todo s (execVcmp x et pred vfn b a d s) := by
  unfold execVcmp
  exact queue_issue fun _ _ c => .done (c.updCtx _ _)

theorem queue_execVplog {x et pred vfn b a d} : KeepsQueue todo s (execVplog x et pred vfn b a d s) := by
  unfold execVplog
  exact queue_issue fun _ _ c => .ite (.done (c.updCtx _ _))
    (.ite (.done (c.updCtx _ _)) (.ite (.doneS c) (.doneS c)))

theorem queue_execVred {x et pred vfn b a d} : KeepsQueue todo s (execVred x et pred vfn b a d s) := by
  unfold execVred
  exact queue_issue fun _ _ c => .ite (.doneS c) (.ite (.doneS c) (.doneF c))

theorem queue_execVbcast {x et pred vfn b a d} : KeepsQueue todo s (execVbcast x et pred vfn b a d s) := by
  unfold execVbcast
  refine queue_issue fun _ _ c => ?_
  split
  exacts [.doneV c, .doneV c, .doneS c, .doneV c]

theorem queue_execVperm {x et pred vfn b a d} : KeepsQueue todo s (execVperm x et pred vfn b a d s) := by
  unfold execVperm
  exact queue_issue fun _ _ c => .ite (.doneVec c) (.doneV c)

theorem queue_execVcvt {x et pred vfn b a d} : KeepsQueue todo s (execVcvt x et pred vfn b a d s) := by
  unfold execVcvt
  exact queue_issue fun _ _ c => .doneV c

theorem queue_execVmxcvt {x et pred vfn b a d} : KeepsQueue todo s (execVmxcvt x et pred vfn b a d s) := by
  unfold execVmxcvt
  refine queue_issue fun _ _ c => ?_
  extract_lets
  split
  exact .ite (.load c (fun _ _ c' => .doneVec c')) (.store (c.updCtx _ _))

theorem queue_execVsfn {x et pred vfn b a d} : KeepsQueue todo s (execVsfn x et pred vfn b a d s) := by
  unfold execVsfn
  exact queue_issue fun _ _ c => .doneV c

theorem queue_execVtopk {x et pred vfn b a d} : KeepsQueue todo s (execVtopk x et pred vfn b a d s) := by
  unfold execVtopk
  refine queue_issue fun _ _ c => ?_
  extract_lets
  split
  exacts [.doneVec c, .doneVec c, .doneV c, .doneS c, .doneS c]

theorem QueuedIssue.vload (c : Queued todo s) {x it im w d l} : QueuedIssue todo (s.vload x it im w d l) := by
  unfold State.vload
  exact .load c fun _ _ c => .done (c.updCtx _ _)

theorem QueuedIssue.vstore (c : Queued todo s) {x it im w d l} : QueuedIssue todo (s.vstore x it im w d l) := .store c

theorem queue_execVld {x et pred vfn b a d} : KeepsQueue todo s (execVld x et pred vfn b a d s) := by
  unfold execVld
  exact queue_issue fun _ _ c => .vload c

theorem queue_execVst {x et pred vfn b a d} : KeepsQueue todo s (execVst x et pred vfn b a d s) := by
  unfold execVst
  exact queue_issue fun _ _ c => .vstore c

theorem queue_execVgth {x et pred vfn b a d} : KeepsQueue todo s (execVgth x et pred vfn b a d s) :=
  queue_issue fun _ _ c => .vload c

theorem queue_execVsct {x et pred vfn b a d} : KeepsQueue todo s (execVsct x et pred vfn b a d s) :=
  queue_issue fun _ _ c => .vstore c

/-! ### Matrix: the matrix instructions -/

theorem QueuedIssue.withBench {x it im l go} (c1' : QueuedIssue todo go) :
    QueuedIssue todo (s.withBench x it im l go) := by
  unfold State.withBench
  split
  exacts [.trap, c1']

theorem QueuedIssue.readBench {x it im l go} (c1' : QueuedIssue todo go) :
    QueuedIssue todo (s.readBench x it im l go) :=
  .withBench (.unless c1')

theorem QueuedIssue.doneTile (c : Queued todo s) {x d f} : QueuedIssue todo (s.doneTile x d f) := by
  unfold State.doneTile
  exact .done (c.updCtx _ _)

theorem queue_execMma {x et pred vfn b a d} : KeepsQueue todo s (execMma x et pred vfn b a d s) := by
  unfold execMma
  exact queue_issue fun _ _ c => .ite (.readBench (.done (.benchPut (c.updCtx _ _)))) (.doneTile c)

theorem queue_execMmx {x et pred vfn b a d} : KeepsQueue todo s (execMmx x et pred vfn b a d s) := by
  unfold execMmx
  exact queue_issue fun _ _ c => .readBench (.doneTile c)

theorem queue_execMzero {x et pred vfn b a d} : KeepsQueue todo s (execMzero x et pred vfn b a d s) := by
  unfold execMzero
  exact queue_issue fun _ _ c => .doneTile c

theorem queue_execMld {x et pred vfn b a d} : KeepsQueue todo s (execMld x et pred vfn b a d s) := by
  unfold execMld
  exact queue_issue fun _ _ c => .ite (.readBench (.doneTile c)) (.readBench (.doneTile c))

theorem queue_execMst {x et pred vfn b a d} : KeepsQueue todo s (execMst x et pred vfn b a d s) := by
  unfold execMst
  exact queue_issue fun _ _ c => .withBench (.done (.foldl (c.updCtx _ _) fun _ _ c' => c'.benchPut))

theorem queue_execMtov {x et pred vfn b a d} : KeepsQueue todo s (execMtov x et pred vfn b a d s) := by
  unfold execMtov
  exact queue_issue fun _ _ c => .doneVec c

/-! ### Copy: asynchronous copies, handles and the sequence instructions -/

theorem Queued.addCopy (c : Queued todo s) {x k} : Queued todo (s.addCopy x k) := c.updCtx _ _

theorem Queued.putCopy (c : Queued todo s) {x k} : Queued todo (s.putCopy x k) := c.updCtx _ _

theorem QueuedIssue.copyWait (c : Queued todo s) {x it im p} : QueuedIssue todo (s.copyWait x it im p) := by
  unfold State.copyWait
  refine .ite (.wait c) ?_
  split
  exacts [.ite .cause .trap, .done (c.updCtx _ _)]

theorem QueuedIssue.mcpy (c : Queued todo s) {x it im tag src dst n} :
    QueuedIssue todo (s.mcpy x it im tag src dst n) := by
  unfold State.mcpy
  refine .ite .cause (.ite .cause ?_)
  split
  · exact .ite .trap .trap
  · exact .trap
  · exact .trap
  · refine .ite (.wait c) ?_
    extract_lets
    split
    · split
      next h1 => exact .done (.addCopy (.snd h1 c.translate))
      next h2 => exact .done (.addCopy (.snd h2 c.translate))
      · exact .fault c.seqFail
      next h4 => exact .wait (.snd h4 c.translate)
    · exact .done c.addCopy

theorem queue_execMcpyIssue {x et fn b a d} : KeepsQueue todo s (execMcpyIssue x et fn b a d s) := by
  unfold execMcpyIssue
  exact queue_issueFn fun _ _ c => .mcpy c

theorem queue_execMcpyWait {x et fn b a d} : KeepsQueue todo s (execMcpyWait x et fn b a d s) := by
  unfold execMcpyWait
  exact queue_issueFn fun _ _ c => .copyWait c

theorem queue_execMcpyWaitall {x et fn b a d} : KeepsQueue todo s (execMcpyWaitall x et fn b a d s) := by
  unfold execMcpyWaitall
  exact queue_issueFn fun _ _ c => .copyWait c

theorem queue_execAsyncCopyDone {x k} : KeepsQueue todo s (execAsyncCopyDone x k s) := by
  unfold execAsyncCopyDone
  split
  · split
    next h1 =>
    exact .next fun c => .putCopy (.snd h1 c.copyStep)
  · exact .next id

theorem queue_execHndDraw {x et fn b a d} : KeepsQueue todo s (execHndDraw x et fn b a d s) := by
  unfold execHndDraw
  refine queue_issueFn fun _ _ c => .ite .cause (.ite .cause ?_)
  split
  next h1 =>
  exact .doneS (.setImage (.snd h1 c.poolDraw) _ _)

theorem queue_execHndFree {x et fn b a d} : KeepsQueue todo s (execHndFree x et fn b a d s) := by
  unfold execHndFree
  exact queue_issueFn fun _ _ c => .ite (.done (.joinsGo c.poolFree))
    (.ite (.fault c.poolFree) (.fault (c.bump _ _ _ _)))

theorem QueuedIssue.hndChk {x it im a0 n at_ go} (c1' : QueuedIssue todo go) :
    QueuedIssue todo (s.hndChk x it im a0 n at_ go) :=
  .unless c1'

theorem queue_execHndHget {x et fn b a d} : KeepsQueue todo s (execHndHget x et fn b a d s) := by
  unfold execHndHget
  exact queue_issueFn fun _ _ c => .hndChk (.done c.benchPut)

theorem queue_execHndHput {x et fn b a d} : KeepsQueue todo s (execHndHput x et fn b a d s) := by
  unfold execHndHput
  exact queue_issueFn fun _ _ c => .hndChk (.unless (.done (c.setImage _ _)))

theorem QueuedIssue.withSlot {it im a go} (h : ∀ n, QueuedIssue todo (go n)) :
    QueuedIssue todo (s.withSlot it im a go) := by
  unfold State.withSlot
  refine .ite .cause ?_
  split
  exacts [.cause, .ite (h _) .cause]

theorem QueuedIssue.sapp (c : Queued todo s) {x it tag a src cnt slot} :
    QueuedIssue todo (s.sapp x it tag a src cnt slot) := by
  unfold State.sapp
  refine .ite (.fault c.seqFail) (.ite (.fault c.seqFail) (.ite (.fault c.seqFail) (.ite (.wait c) ?_)))
  extract_lets
  split
  next h1 => exact .fault (.snd_snd h1 c.translateAll)
  next h2 => exact .wait (.snd_snd h2 c.translateAll)
  next h3 => exact .done (.addCopy (.snd_snd h3 c.translateAll))

theorem queue_execSapp {x et fn b a d} : KeepsQueue todo s (execSapp x et fn b a d s) := by
  unfold execSapp
  exact queue_issue fun _ _ c => .unless (.sapp c)

theorem QueuedIssue.sgath (c : Queued todo s) {x it tag a dst cnt m slot} : QueuedIssue todo
    (s.sgath x it tag a dst cnt m slot) := by
  unfold State.sgath
  refine .ite (.wait c) ?_
  split
  next h1 => exact .fault (.snd_snd h1 c.translateAll)
  next h2 => exact .wait (.snd_snd h2 c.translateAll)
  next h3 => exact .done (.addCopy (.snd_snd h3 c.translateAll))

theorem queue_execSgath {x et fn b a d} : KeepsQueue todo s (execSgath x et fn b a d s) := by
  unfold execSgath
  exact queue_issue fun _ _ c => .unless (.sgath c)

theorem queue_execSappPerformed {x k} : KeepsQueue todo s (execSappPerformed x k s) := by
  unfold execSappPerformed
  split
  · refine .ite (.next id) ?_
    split
    next h1 =>
    exact .next fun c => .putCopy (.ite (.raiseLen (.snd h1 c.copyStep)) (.snd h1 c.copyStep))
  · exact .next id

theorem queue_execSmapAddr {x et fn b a d} : KeepsQueue todo s (execSmapAddr x et fn b a d s) := by
  unfold execSmapAddr
  refine queue_issueFn fun _ _ c => .ite .cause (.ite .cause (.withSlot (fun _  => ?_)))
  split
  next h1 => exact .doneS (.snd h1 c.translate)
  next h2 => exact .doneS (.snd h2 c.translate)
  · exact .fault c.seqFail
  next h4 => exact .wait (.snd h4 c.translate)

theorem queue_execSmapPte {x et fn b a d} : KeepsQueue todo s (execSmapPte x et fn b a d s) := by
  unfold execSmapPte
  exact queue_issueFn fun _ _ c => .ite .cause (.ite .cause (.withSlot (fun _  => .doneS c)))

theorem queue_execSmapLen {x et fn b a d} : KeepsQueue todo s (execSmapLen x et fn b a d s) := by
  unfold execSmapLen
  exact queue_issueFn fun _ _ c => .withSlot (fun _  => .ite (.fault c.seqFail) (.doneS c))

theorem queue_execSrel {x et fn b a d} : KeepsQueue todo s (execSrel x et fn b a d s) := by
  unfold execSrel
  refine queue_issue fun _ _ c => .withSlot (fun _  => ?_)
  split
  next h1 =>
  exact .doneS (.ite (.mirrorSlot (.snd h1 c.slotRelease)) (.snd h1 c.slotRelease))

/-! ### Fabric: the fabric and collective instructions -/

theorem QueuedIssue.fopen (c : Queued todo s) {x it d va vb} : QueuedIssue todo (s.fopen x it d va vb) := by
  unfold State.fopen
  refine .ite .cause (.ite .cause (.ite (.doneS c) (.ite (.doneS c) (.ite (.wait c) ?_))))
  split
  exacts [.wait c, .wait (.updCtx c.wopen _ _)]

theorem queue_execFopen {x et fn b a d} : KeepsQueue todo s (execFopen x et fn b a d s) := by
  unfold execFopen
  exact queue_issue fun _ _ c => .fopen c

theorem Queued.winReported (c : Queued todo s) {x it w} : Queued todo (s.winReported x it w) := by
  unfold State.winReported
  exact .ite (.updCtx c.updItem _ _) (.updSrc c.updItem)

theorem QueuedIssue.fwait (c : Queued todo s) {x it d w n} : QueuedIssue todo (s.fwait x it d w n) :=
  .ite .trap (.ite (.wait c) (.doneS c.winReported))

theorem queue_execFwaitAll {x et fn b a d} : KeepsQueue todo s (execFwaitAll x et fn b a d s) := by
  unfold execFwaitAll
  exact queue_issueFn fun _ _ c => .fwait c

theorem queue_execFwaitUpto {x et fn b a d} : KeepsQueue todo s (execFwaitUpto x et fn b a d s) := by
  unfold execFwaitUpto
  exact queue_issueFn fun _ _ c => .fwait c

theorem queue_execFwaitPoll {x et fn b a d} : KeepsQueue todo s (execFwaitPoll x et fn b a d s) := by
  unfold execFwaitPoll
  exact queue_issueFn fun _ _ c => .fwait c

theorem queue_execFclose {x et fn b a d} : KeepsQueue todo s (execFclose x et fn b a d s) := by
  unfold execFclose
  exact queue_issue fun _ _ c => .ite .trap (.ite (.wait c) (.doneS (.wclose c.winReported)))

theorem QueuedIssue.issueReq (c : Queued todo s) {x w q stall} : QueuedIssue todo (s.issueReq x w q stall) := by
  unfold State.issueReq
  refine .ite ?_ (.wait (c.updCtx _ _))
  split
  next h1 =>
  exact .ite (.done (.evShu (.sendReq (.snd h1 c.injBuffer)))) (.wait (.updCtx (.snd h1 c.injBuffer) _ _))

theorem QueuedIssue.remote (c : Queued todo s) {x it im fa bench n reads al lenOk aligned stall q} : QueuedIssue todo
    (s.remote x it im fa bench n reads al lenOk aligned stall q) := by
  unfold State.remote
  refine .unless (.unless ?_)
  split
  exacts [.trap, .ite .trap (.ite .trap (.issueReq c))]

theorem queue_execFput {x et fn b a d} : KeepsQueue todo s (execFput x et fn b a d s) := by
  unfold execFput
  exact queue_issue fun _ _ c => .remote c

theorem queue_execFget {x et fn b a d} : KeepsQueue todo s (execFget x et fn b a d s) := by
  unfold execFget
  exact queue_issue fun _ _ c => .remote c

theorem queue_execFatm {x et fn b a d} : KeepsQueue todo s (execFatm x et fn b a d s) := by
  unfold execFatm
  exact queue_issue fun _ _ c => .remote c

theorem QueuedIssue.localCall (c : Queued todo s) {x it blk n} : QueuedIssue todo (s.localCall x it blk n) := by
  unfold State.localCall
  refine .ite .cause (.ite (.wait c) ?_)
  extract_lets
  split
  next t3 h1 =>
  have ct3 : Queued todo t3 := by
    refine .snd h1 (.ite_snd c ?_)
    split
    next h2 =>
    exact .snd h2 c.poolDraw
  extract_lets s4
  have c4 : Queued todo s4 := ct3.updCtx _ _
  split
  next h5 =>
  exact .done (.ite (.snd h5 c4.takeCall) (.localDone (.callBuf (.snd h5 c4.takeCall))))

theorem queue_execFcall {x et fn b a d} : KeepsQueue todo s (execFcall x et fn b a d s) := by
  unfold execFcall
  exact queue_issue fun _ _ c => .ite (.unless (.localCall c)) (.remote c)

theorem queue_execIssueStallRelease {x} : KeepsQueue todo s (execIssueStallRelease x s) := by
  unfold execIssueStallRelease
  split
  · extract_lets t
    have ht : Queued todo s → Queued todo t := fun c => c.updCtx _ _
    exact .ite (.next fun c => .ready (ht c)) (.of ht (.ite queue_execFput (.ite queue_execFget
      (.ite queue_execFatm queue_execFcall))))
  · exact .next id

theorem queue_execCjoin {x et fn b a d} : KeepsQueue todo s (execCjoin x et fn b a d s) := by
  unfold execCjoin
  refine queue_issue fun _ _ c => ?_
  extract_lets
  split
  · exact .trap
  · exact .ite .cause .trap
  · split
    next h1 =>
    refine .ite .cause (.ite (.fault c.locErr) (.ite .cause (.ite .cause (.ite .cause ?_))))
    split
    exacts [.trap, .done (.joinSend (.setS (.setJoin (.snd h1 c.locGet))))]

theorem QueuedIssue.withJoin {x n go} (h : ∀ j, QueuedIssue todo (go j)) : QueuedIssue todo (s.withJoin x n go) := by
  unfold State.withJoin
  split
  exacts [.ite .trap (h _), .trap]

theorem queue_execCwaitWait {x et fn b a d} : KeepsQueue todo s (execCwaitWait x et fn b a d s) := by
  unfold execCwaitWait
  exact queue_issueFn fun _ _ c => .withJoin (fun _  => .ite (.doneS c) (.wait c))

theorem queue_execCwaitPoll {x et fn b a d} : KeepsQueue todo s (execCwaitPoll x et fn b a d s) := by
  unfold execCwaitPoll
  exact queue_issueFn fun _ _ c => .withJoin (fun _  => .doneS c)

theorem queue_execCrel {x et fn b a d} : KeepsQueue todo s (execCrel x et fn b a d s) := by
  unfold execCrel
  exact queue_issue fun _ _ c => .withJoin (fun _  => .done c.setJoin)

theorem queue_execTgate {x et fn b a d} : KeepsQueue todo s (execTgate x et fn b a d s) := by
  unfold execTgate
  refine queue_issue fun _ _ c => .ite .cause ?_
  split
  exacts [.trap, .wait (.updCtx (.emit c.setJoin _ _) _ _)]

/-! ### System: control words, counter reads and the SYS functions -/

theorem QueuedIssue.ctlIndex {a go} (h : ∀ n, QueuedIssue todo (go n)) : QueuedIssue todo (ctlIndex a go) :=
  .ite .cause (.ite .cause (h _))

theorem queue_execCtlr {x imm a d} : KeepsQueue todo s (execCtlr x imm a d s) := by
  unfold execCtlr
  exact queue_issue fun _ _ c => .ctlIndex (fun _  => .ite .cause (.doneS c))

theorem Queued.traceRecord (c : Queued todo s) {x it v} : Queued todo (s.traceRecord x it v) := by
  unfold State.traceRecord
  exact .ite c (.ite (c.bump _ _ _ _) (.log c.update _ _ _ _))

theorem queue_execCtlw {x imm a d} : KeepsQueue todo s (execCtlw x imm a d s) := by
  unfold execCtlw
  exact queue_issue fun _ _ c => .ite .cause (.ctlIndex (fun _  => .ite (.done (c.updCtx _ _))
    (.ite (.done (c.updCtx _ _)) (.ite (.done (c.updCtx _ _)) (.ite (.done c.traceRecord) .cause)))))

theorem queue_execCntr {x imm a d} : KeepsQueue todo s (execCntr x imm a d s) := by
  unfold execCntr
  refine queue_issue fun _ _ c => ?_
  extract_lets
  split
  exacts [.cause, .ite .cause (.doneS c)]

theorem queue_execYield {x et fn b a d} : KeepsQueue todo s (execYield x et fn b a d s) := by
  unfold execYield
  exact queue_issueFn fun _ _ c => .yields c

theorem queue_execTrap {x et fn b a d} : KeepsQueue todo s (execTrap x et fn b a d s) := by
  unfold execTrap
  exact queue_issueFn fun _ _ c => .trap

theorem queue_execMsync {x et fn b a d} : KeepsQueue todo s (execMsync x et fn b a d s) := by
  unfold execMsync
  exact queue_issueFn fun _ _ c => .ite (.wait c) (.ite .cause (.done c))

theorem queue_execHalt {x et fn b a d} : KeepsQueue todo s (execHalt x et fn b a d s) := by
  unfold execHalt
  refine queue_issueFn fun _ _ c => .ite .cause (.ite (.still c) (.ite .cause ?_))
  split <;> exact .ended (.endItem (.closeWindows c.evIssue))

/-! ### Treadle: the power envelope and its inputs -/

theorem Queued.hostEval (c : Queued todo s) : Queued todo s.hostEval := c.setReg _ _

theorem Queued.powerEvent (c : Queued todo s) : Queued todo s.powerEvent := c.event _ _ _

theorem Queued.trdShow (c : Queued todo s) {old} : Queued todo (s.trdShow old) := by
  unfold State.trdShow
  extract_lets s1 s2
  have c1 : Queued todo s1 := c.setReg _ _
  have c2 : Queued todo s2 := c1.setReg _ _
  exact .ite c2 c2.powerEvent

theorem Queued.trdForm (c : Queued todo s) : Queued todo s.trdForm := by
  unfold State.trdForm
  exact .ite (.hostEval (.setReg c.update _ _)) (.setReg c.update _ _)

theorem Queued.isoSend (c : Queued todo s) {typ payload} : Queued todo (s.isoSend typ payload) := by
  unfold State.isoSend
  exact .ite c c.update

theorem Queued.descentFrame (c : Queued todo s) {cause} : Queued todo (s.descentFrame cause) := c.isoSend

theorem Queued.backstop (c : Queued todo s) : Queued todo s.backstop := by
  unfold State.backstop
  exact .foldl c fun _ _ c => c.update

theorem Queued.safety (c : Queued todo s) : Queued todo s.safety := .ite (.trdShow c.backstop) c

theorem Queued.descend (c : Queued todo s) : Queued todo s.descend := by
  unfold State.descend
  extract_lets _ _ s1
  have c1 : Queued todo s1 := c.update
  split
  exacts [.descentFrame c1.update, c1]

theorem queue_execSupplyAlertAssert : KeepsQueue todo s (execSupplyAlertAssert s) := by
  unfold execSupplyAlertAssert
  exact .ite (.next fun c => .safety c.update) (.next id)

theorem queue_execSupplyAlertClear : KeepsQueue todo s (execSupplyAlertClear s) := by
  unfold execSupplyAlertClear
  exact .ite (.next fun c => c.update) (.next id)

theorem queue_execFlowAlert : KeepsQueue todo s (execFlowAlert s) := by
  unfold execFlowAlert
  exact .ite (.next fun c => .safety c.update) (.next id)

theorem queue_execFlowAlertClear : KeepsQueue todo s (execFlowAlertClear s) := by
  unfold execFlowAlertClear
  exact .ite (.next fun c => c.update) (.next id)

theorem Queued.latch (c : Queued todo s) {a w} : Queued todo (s.latch a w) := by
  unfold State.latch
  exact c.update

theorem queue_execPowerReportRead {path d} : KeepsQueue todo s (execPowerReportRead path d s) := by
  unfold execPowerReportRead
  exact .ite (.next fun c => .latch c.update) (.next id)

theorem queue_execPowerRead {tag} : KeepsQueue todo s (execPowerRead tag s) :=
  .next fun c => c.serve _ _ _ _ _ fun _ _ c => c

theorem queue_execPowerReports {tag} : KeepsQueue todo s (execPowerReports tag s) :=
  .next fun c => c.serve _ _ _ _ _ fun _ _ c => c

theorem Queued.setNotch (c : Queued todo s) {n0 n} : Queued todo (s.setNotch n0 n) := by
  unfold State.setNotch
  exact c.update

theorem Queued.setThrottle (c : Queued todo s) {n0 f} : Queued todo (s.setThrottle n0 f) := by
  unfold State.setThrottle
  exact .foldl c.update fun _ _ c => .ite c.setPace c

theorem Queued.toolsUp (c : Queued todo s) {n0} : Queued todo (s.toolsUp n0) := by
  unfold State.toolsUp
  split
  next h1 =>
  exact .setThrottle (.update (.setNotch (.snd h1 c.draw)))

theorem Queued.toolsDown (c : Queued todo s) {n0} : Queued todo (s.toolsDown n0) := by
  unfold State.toolsDown
  exact .ite c.setThrottle (.ite c.update (.ite c.setNotch c))

theorem Queued.tools (c : Queued todo s) {isOver} : Queued todo (s.tools isOver) :=
  .foldl c fun _ _ c => .ite c.toolsUp (.ite c c.toolsDown)

theorem Queued.realWork (c : Queued todo s) {n left} : Queued todo (s.realWork n left).2 := by
  induction n generalizing s left with
  | zero => exact c
  | succ n ih =>
    unfold State.realWork
    exact ih c.draw

theorem queue_execClusterShareUpdate : KeepsQueue todo s (execClusterShareUpdate s) := by
  unfold execClusterShareUpdate
  refine .ite (.next id) ?_
  extract_lets
  split
  next h1 =>
  exact .next fun c => .foldl (.snd h1 c.realWork) fun _ _ c => c.update

theorem queue_execShuClockSwitch {n0} : KeepsQueue todo s (execShuClockSwitch n0 s) := by
  unfold execShuClockSwitch
  exact .ite (.next fun c => c.update) (.next id)

theorem Queued.trimAge (c : Queued todo s) : Queued todo s.trimAge := .ite (c.setRf _ _ _ _) c

theorem Queued.aonTick (c : Queued todo s) {n} : Queued todo (s.aonTick n) := by
  unfold State.aonTick
  exact .foldl (.trimAge c.update) fun _ _ c => .ite (c.ctrAdd _ _ _) c

theorem Queued.shuTick (c : Queued todo s) : Queued todo s.shuTick := by
  unfold State.shuTick
  exact .foldl c fun _ _ c => .foldl c fun _ _ c' => .ite (c'.ctrAdd _ _ _) c'

theorem Queued.mapSample (c : Queued todo s) : Queued todo s.mapSample := by
  unfold State.mapSample
  exact .foldl (.foldl c fun _ _ c => .ite c (.foldl c fun _ _ c' => c'.update)) fun _ _ c => c.update

theorem Queued.shuExits (c : Queued todo s) : Queued todo s.shuExits := .foldl c fun _ _ c => .ite (c.wake _) c

theorem Queued.trdInputs (c : Queued todo s) : Queued todo s.trdInputs := by
  unfold State.trdInputs
  exact c.update.update

theorem Queued.trdStep (c : Queued todo s) {pkg dom} : Queued todo (s.trdStep pkg dom) := by
  unfold State.trdStep
  extract_lets _ _ s1 s2 _ _ _ _ _ s3 _ _ s4 s5 _ s6 s7 s8 s9
  have c1 : Queued todo s1 := c.update
  have c2 : Queued todo s2 := .descend (.trdForm c1.trdInputs)
  have c3 : Queued todo s3 := .ite (.evDev (c2.bump _ _ _ _) _ _) c2
  have c4 : Queued todo s4 := .ite (c3.bump _ _ _ _) c3
  have c5 : Queued todo s5 := .ite (c4.evDev _ _) c4
  have c6 : Queued todo s6 := c5.update
  have c7 : Queued todo s7 := c6.tools
  have c8 : Queued todo s8 := .ite c7 c7.shuExits
  have c9 : Queued todo s9 := c8.setReg _ _
  exact c9.trdShow

theorem queue_execTreadleStep {pkg dom} : KeepsQueue todo s (execTreadleStep pkg dom s) := by
  unfold execTreadleStep
  refine .ite (.next id) ?_
  extract_lets s1
  have c1 : Queued todo s → Queued todo s1 := fun c => .mapSample (.shuTick c.aonTick)
  exact .ite (.next c1) (.next fun c => .trdStep (c1 c))

theorem Queued.capWord (c : Queued todo s) {v} : Queued todo (s.capWord v).2 := by
  unfold State.capWord
  exact .ite_snd (.trdShow (.update (.mirrorTrd (c.setReg _ _)))) (c.bump _ _ _ _)

theorem queue_execCapWordWrite {path v} : KeepsQueue todo s (execCapWordWrite path v s) :=
  .ite (.next fun c => c.capWord) (.next id)

theorem queue_execCapHoldExpire : KeepsQueue todo s (execCapHoldExpire s) := by
  unfold execCapHoldExpire
  exact .ite (.next fun c => .trdShow (.setRf c.update _ _ _ _)) (.next id)

theorem queue_execCapFallbackExpire : KeepsQueue todo s (execCapFallbackExpire s) := by
  unfold execCapFallbackExpire
  exact .ite (.next fun c => .trdShow c.update) (.next id)

theorem Queued.capRefused (c : Queued todo s) : Queued todo s.capRefused := .ite (c.setReg _ _) c

theorem Queued.capReq (c : Queued todo s) {cap} : Queued todo (s.capReq cap).2 := by
  unfold State.capReq
  exact .ite_snd (.trdShow c.capRefused) (.trdShow (.hostEval (c.setRf _ _ _ _)))

theorem Queued.sleepReq (c : Queued todo s) {sleep} : Queued todo (s.sleepReq sleep).2 := by
  unfold State.sleepReq
  exact .ite_snd (.trdShow (c.setReg _ _)) (.trdShow (.hostEval (c.setRf _ _ _ _)))

theorem Queued.hostReqWord (c : Queued todo s) {v} : Queued todo (s.hostReqWord v).2 := by
  unfold State.hostReqWord
  split
  next h1 =>
  refine .ite_snd (.snd h1 c.capReq) ?_
  split
  next h2 =>
  exact .mirrorTrd (.snd h2 (.sleepReq (.snd h1 c.capReq)))

theorem Queued.trdAnswer (c : Queued todo s) {tag st} : Queued todo (s.trdAnswer tag st) :=
  .ite c.mirrorAnswer (.finish c.mirrorTrd _ _ _)

theorem queue_execHostCap {src} : KeepsQueue todo s (execHostCap src s) := by
  unfold execHostCap
  split
  · exact .ite (.next fun c => c.hostReqWord) (.next id)
  · split
    · exact .next id
    · refine .ite (.next fun c => c.finish _ _ _) ?_
      split
      next h1 =>
      exact .ite (.next fun c => .finish (.snd h1 c.capReq) _ _ _) (.next fun c => .trdAnswer (.snd h1 c.capReq))

theorem queue_execSleep {src} : KeepsQueue todo s (execSleep src s) := by
  unfold execSleep
  split
  · exact .ite (.next fun c => c.hostReqWord) (.next id)
  · split
    · exact .next id
    · refine .ite (.next fun c => c.finish _ _ _) ?_
      split
      next h1 =>
      exact .ite (.next fun c => .finish (.snd h1 c.sleepReq) _ _ _)
        (.next fun c => .trdAnswer (.snd h1 c.sleepReq))

theorem Queued.alertClear (c : Queued todo s) {m} : Queued todo (s.alertClear m) := .trdShow (c.setReg _ _)

theorem queue_execHostCfg {tag} : KeepsQueue todo s (execHostCfg tag s) := by
  unfold execHostCfg
  split
  · exact .next id
  · exact .ite (.next fun c => c.finish _ _ _) (.ite (.next fun c => c.finish _ _ _)
      (.next fun c => .trdAnswer (.alertClear (.setReg (c.setReg _ _) _ _))))

theorem queue_execTrdAlertClear {path v} : KeepsQueue todo s (execTrdAlertClear path v s) :=
  .ite (.next fun c => c.alertClear) (.next id)

theorem queue_execTrdErrClear {path v} : KeepsQueue todo s (execTrdErrClear path v s) :=
  .ite (.next fun c => c.setReg _ _) (.next id)

theorem queue_execDemandFrameTx : KeepsQueue todo s (execDemandFrameTx s) := .next fun c => .ite c c.isoSend

theorem queue_execIsoStatusFrameRx {b} : KeepsQueue todo s (execIsoStatusFrameRx b s) := by
  unfold execIsoStatusFrameRx
  exact .ite (.next id) (.ite (.next fun c => .setRf (.setRf c.update _ _ _ _) _ _ _ _)
    (.next fun c => c.bump _ _ _ _))

theorem queue_execIsoLostTimeout : KeepsQueue todo s (execIsoLostTimeout s) :=
  .ite (.next id) (.next fun c => .powerEvent (c.setRf _ _ _ _))

theorem queue_execIsoStatusClear {path v} : KeepsQueue todo s (execIsoStatusClear path v s) :=
  .ite (.next fun c => .setRf (c.setRf _ _ _ _) _ _ _ _) (.next id)

theorem queue_execSwGateTimer {n0} : KeepsQueue todo s (execSwGateTimer n0 s) := by
  unfold execSwGateTimer
  exact .ite (.next fun c => c.toDepth) (.next id)

theorem queue_execShuGateTimer {n0} : KeepsQueue todo s (execShuGateTimer n0 s) := by
  unfold execShuGateTimer
  exact .ite (.next fun c => .ite (.wake c.toDepth _) c.toDepth) (.next id)

theorem queue_execShuRetainTimer {n0} : KeepsQueue todo s (execShuRetainTimer n0 s) :=
  .ite (.next fun c => c.toDepth) (.next id)

theorem queue_execReedGateTimer {n0} : KeepsQueue todo s (execReedGateTimer n0 s) :=
  .ite (.next fun c => c.toDepth) (.next id)

theorem queue_execReedRetainTimer {n0} : KeepsQueue todo s (execReedRetainTimer n0 s) :=
  .ite (.next fun c => c.toDepth) (.next id)

theorem queue_execHbmSrTimer {n} : KeepsQueue todo s (execHbmSrTimer n s) := .ite (.next fun c => c.toDepth) (.next id)

theorem Queued.offLoss (c : Queued todo s) {d} : Queued todo (s.offLoss d) := by
  unfold State.offLoss
  exact .ite (c.clearRegs _).poolRebuild (.ite (.update (c.clearRegs _))
    (.ite (c.setRf _ _ _ _) (.ite (c.memClear _ _) c)))

theorem Queued.offNow (c : Queued todo s) {d k} : Queued todo (s.offNow d k) := .toOff c.offLoss

theorem Queued.wakeUp (c : Queued todo s) {d} : Queued todo (s.wakeUp d) := .ite c (c.wake _)

theorem Queued.sinkTo (c : Queued todo s) {d x} : Queued todo (s.sinkTo d x) := .ite c c.toDepth

theorem queue_execDeepIdleEnter : KeepsQueue todo s (execDeepIdleEnter s) := by
  unfold execDeepIdleEnter
  exact .ite (.next fun c => .trdShow (.foldl (.foldl (.sinkTo (.sinkTo c.update)) fun _ _ c => .sinkTo
    (.sinkTo (.sinkTo (.ite c c.offNow)))) fun _ _ c => c.sinkTo)) (.next id)

/-! ### Pair: the dovetail pair -/

theorem Queued.putClaim (c : Queued todo s) {n0} : Queued todo (s.putClaim n0) := by
  unfold State.putClaim
  exact .foldl c fun _ _ c => c.setCart _ _

theorem Queued.setLast (c : Queued todo s) {st} : Queued todo (s.setLast st) := c.setRf _ _ _ _

theorem Queued.toRole (c : Queued todo s) {r} : Queued todo (s.toRole r) := by
  unfold State.toRole
  exact .trdShow (.pairEvent (c.setRf _ _ _ _))

theorem Queued.toMirror (c : Queued todo s) {m} : Queued todo (s.toMirror m) := .ite c (.pairEvent (c.setRf _ _ _ _))

theorem Queued.mirrorStop (c : Queued todo s) {m} : Queued todo (s.mirrorStop m) := by
  unfold State.mirrorStop
  exact .ite c (.update (.pairEvent c.mirrorEnd))

theorem Queued.poolDrop (c : Queued todo s) {f} : Queued todo (s.poolDrop f) := by
  unfold State.poolDrop
  exact .foldl c fun _ _ c => c.setPool _ _

theorem Queued.dropFlows (c : Queued todo s) : Queued todo s.dropFlows := by
  unfold State.dropFlows
  exact .foldl c.update fun _ _ c => c.reorderUse

theorem Queued.dropWork (c : Queued todo s) : Queued todo s.dropWork := c

theorem Queued.dropGroups (c : Queued todo s) : Queued todo s.dropGroups := .foldl c fun _ _ c => c.groupFree

theorem Queued.standbyDepths (c : Queued todo s) : Queued todo s.standbyDepths := by
  unfold State.standbyDepths
  refine .foldl c fun _ _ c => ?_
  extract_lets s1 s2
  have c1 : Queued todo s1 := .ite c c.offNow
  have c2 : Queued todo s2 := .wakeUp c1.sinkTo
  exact .ite c2.wakeUp (.ite c2.sinkTo c2)

theorem Queued.receiveAgain (c : Queued todo s) : Queued todo s.receiveAgain := by
  unfold State.receiveAgain
  exact .update (c.setRf _ _ _ _)

theorem Queued.becomeStandby (c : Queued todo s) : Queued todo s.becomeStandby := by
  unfold State.becomeStandby
  exact .standbyDepths (.foldl (.toRole (.receiveAgain (.putClaim
    (.dropGroups (.poolDrop (.dropFlows (.dropWork c.mirrorStop))))))) fun _ _ c => .ite c c.standbyHold)

theorem Queued.hbFrame (c : Queued todo s) {typ} : Queued todo (s.hbFrame typ) := by
  unfold State.hbFrame
  exact c.update

theorem Queued.hbPacket (c : Queued todo s) {p} : Queued todo (s.hbPacket p) := by
  unfold State.hbPacket
  exact .setOutq c.update _ _ _

theorem queue_execHeartbeatTx : KeepsQueue todo s (execHeartbeatTx s) := by
  unfold execHeartbeatTx
  refine .ite (.next id) ?_
  extract_lets _ s1 _ s2
  have c1 : Queued todo s → Queued todo s1 := fun c => .foldl c fun _ _ c => c.hbPacket
  have c2 : Queued todo s → Queued todo s2 := fun c => .update (c1 c)
  exact .next fun c => .ite (.hbFrame (c2 c)) (c2 c)

theorem Queued.abdicate (c : Queued todo s) : Queued todo s.abdicate := by
  unfold State.abdicate
  exact .ite (.ite (.hbFrame (.pairMsg c.update)) (.pairMsg c.update)) c

theorem Queued.portInstall (c : Queued todo s) {p b} : Queued todo (s.portInstall p b) := by
  unfold State.portInstall
  refine .ite c ?_
  extract_lets _ s1 s2 s3
  have c1 : Queued todo s1 := .ite c.portUnreserve c
  have c2 : Queued todo s2 := .setReg (.setReg (c1.setReg _ _) _ _) _ _
  have c3 : Queued todo s3 := .setReg (c2.setRegs _ _) _ _
  exact .ite (.getD (fun _ h => c3.portReserve h) c3) c3

theorem Queued.takeTables (c : Queued todo s) : Queued todo s.takeTables := by
  unfold State.takeTables
  extract_lets s1 s2 s3 s4 s5
  have c1 : Queued todo s1 := c.clearRegs _
  have c2 : Queued todo s2 := .foldl c1 fun _ _ c => c.setRegs _ _
  have c3 : Queued todo s3 := .foldl c2 fun _ _ c => c.setRegs _ _
  have c4 : Queued todo s4 := .foldl c3 fun _ _ c => c.setRf _ _ _ _
  have c5 : Queued todo s5 := .foldl c4 fun _ _ c => .update (.setRegs (.setRegs (c.setRegs _ _) _ _) _ _)
  exact .foldl c5 fun _ _ c => .setRf (.foldl c fun _ _ c' => c'.portInstall) _ _ _ _

theorem Queued.imageInstall (c : Queued todo s) {j b} : Queued todo (s.imageInstall j b) := by
  unfold State.imageInstall
  refine .ite c ?_
  extract_lets
  split
  next h1 =>
  split
  next h2 =>
  split
  next h3 =>
  extract_lets
  split
  next t5 h4 =>
  have ct5 : Queued todo t5 := by
    refine .snd h4 (.foldl_snd (.snd h3 (.draw (.snd h2 (.draw (.snd h1 c.draw))))) fun _ _ c => ?_)
    split
    exacts [c, .setReg (c.setReg _ _) _ _]
  exact .setImage (.setRegs (.foldl (.foldl (.getD (fun _ h => ct5.loadBobs h) ct5) fun _ _ c => c.setSrc _ _)
    fun _ _ c => c.update) _ _) _ _

theorem Queued.groupInstall (c : Queued todo s) {g b} : Queued todo (s.groupInstall g b) := by
  unfold State.groupInstall
  refine .ite c ?_
  extract_lets s1 _ s2 s3 _ s4 _ s5
  have c1 : Queued todo s1 := c.setRegs _ _
  have c2 : Queued todo s2 := c1.setRegs _ _
  have c3 : Queued todo s3 := c2.setRegs _ _
  have c4 : Queued todo s4 := c3.groupReserve
  have c5 : Queued todo s5 := .setGroup (c4.setRf _ _ _ _) _ _
  exact .ite c5.failInstance c5

theorem Queued.slotsInstall (c : Queued todo s) : Queued todo s.slotsInstall := by
  unfold State.slotsInstall
  refine .foldl (.foldl (.foldl (.clearRegs c.update _) fun _ _ c => .setRegs (.setRegs (c.setRegs _ _) _ _) _ _)
    fun _ _ c => c.setPte) fun _ _ c => .ite c ?_
  extract_lets s1 s2
  have c1 : Queued todo s1 := .foldl c fun _ _ c' => c'.setFrame
  have c2 : Queued todo s2 := .foldl c1 fun _ _ c' => .ite c' c'.setFrame
  exact .ite (c2.setRf _ _ _ _) c2

theorem Queued.dropResident (c : Queued todo s) : Queued todo s.dropResident := by
  unfold State.dropResident
  exact .foldl c fun _ _ c => .ite c (.setImage (.update (.update
    (.foldl (.clearRegs c.poolDrop _) fun _ _ c' => .ite (.setReg (c'.setReg _ _) _ _) c'))) _ _)

theorem Queued.claim (c : Queued todo s) : Queued todo s.claim := by
  unfold State.claim
  exact .ite c (.ite (.pairEvent c.setLast) (.takeTables (.putClaim
    (.foldl (.setReg c.toRole _ _) fun _ _ c => c.wake _))))

theorem queue_execSelectorSwitchDone {k st} : KeepsQueue todo s (execSelectorSwitchDone k st s) := by
  unfold execSelectorSwitchDone
  refine .ite (.next id) (.ite ?_ (.ite (.next fun c => .toRole (c.setCart _ _)) (.next fun c => c.setCart _ _)))
  extract_lets _ s1
  have c1 : Queued todo s → Queued todo s1 := fun c => .ite (.bump (c.setCart _ _) _ _ _ _) (c.setCart _ _)
  exact .ite (.next fun c => .foldl (c1 c) fun _ _ c => .ite c.sendParams c)
    (.ite (.next fun c => .pairEvent (.setLast (.becomeStandby (c1 c)))) (.next c1))

theorem queue_execTakeoverComplete {gap} : KeepsQueue todo s (execTakeoverComplete gap s) := by
  unfold execTakeoverComplete
  exact .ite (.next id) (.next fun c => .pairEvent (.update
    (.slotsInstall (.foldl (.foldl (.dropGroups (.dropResident
    (.foldl (.foldl (.toRole (.update (.setRf (.setRf (.setLast (.bump (c.setReg _ _) _ _ _ _)) _ _ _ _) _ _ _ _)))
    fun _ _ c => .wake (.wake (.wake (c.wake _) _) _) _) fun _ _ c => .ite c.toTrain c))) fun _ _ c =>
    c.imageInstall) fun _ _ c => c.groupInstall))))

theorem queue_execSelectorPoll {statuses} : KeepsQueue todo s (execSelectorPoll statuses s) := by
  unfold execSelectorPoll
  refine .ite (.next id) ?_
  extract_lets s1
  have c1 : Queued todo s → Queued todo s1 := fun c => .foldl c fun _ _ c => c.setCart _ _
  exact .ite (.next fun c => .pairEvent (.becomeStandby (c1 c))) (.next c1)

theorem Queued.baselineClose (c : Queued todo s) : Queued todo s.baselineClose := by
  unfold State.baselineClose
  exact .ite (.pairMsg c.update) c

theorem Queued.baselineStart (c : Queued todo s) : Queued todo s.baselineStart := by
  unfold State.baselineStart
  refine .mirrorPush (.baselineClose (.foldl (.foldl (.foldl
    (.foldl (.foldl (.mirrorTrd (.mirrorPorts (.mirrorSelf (.pairMsg (.pairEvent (.setRf c.update _ _ _ _))))))
    fun _ _ c => c.mirror) fun _ _ c => c.mirror) fun _ _ c => c.mirror) fun _ _ c => .mirror c.pushImage)
    fun _ _ c => ?_))
  extract_lets s1 s2 s3
  have c1 : Queued todo s1 := c.mirrorSlot
  have c2 : Queued todo s2 := .foldl c1 fun _ _ c' => c'.mirror
  have c3 : Queued todo s3 := c2.setRf _ _ _ _
  exact .ite (.foldl c3 fun _ _ c' => .ite c' c'.pushData) c2

theorem Queued.baselineMay (c : Queued todo s) {peerRole} : Queued todo (s.baselineMay peerRole) :=
  .ite c.baselineStart c

theorem Queued.pairSink (c : Queued todo s) {port kind pkt} : Queued todo (s.pairSink port kind pkt).2 := by
  unfold State.pairSink
  split
  next h1 =>
  exact .snd h1 (c.sink _ _ _)

theorem queue_execPairMsgAck {port pkt} : KeepsQueue todo s (execPairMsgAck port pkt s) := by
  unfold execPairMsgAck
  split
  next h1 =>
  extract_lets
  split
  · exact .next fun c => .snd h1 c.pairSink
  · refine .ite (.next fun c => .snd h1 c.pairSink) ?_
    extract_lets s2 _ s3 s4 s5 s6
    have c2 : Queued todo s → Queued todo s2 := fun c => .update (.snd h1 c.pairSink)
    have c3 : Queued todo s → Queued todo s3 := by
      intro c
      unfold s3
      split
      exacts [.update (.sendItem (c2 c)), c2 c]
    have c4 : Queued todo s → Queued todo s4 := by
      intro c
      unfold s4
      split
      exacts [.finish (c3 c) _ _ _, c3 c]
    have c5 : Queued todo s → Queued todo s5 := fun c => .baselineClose (c4 c)
    have c6 : Queued todo s → Queued todo s6 := fun c => .ite (.toMirror (c5 c)) (c5 c)
    exact .next fun c => .mirrorPush (.ownStep (c6 c))

theorem queue_execMirrorAckTimeout : KeepsQueue todo s (execMirrorAckTimeout s) :=
  .ite (.next fun c => c.mirrorStop) (.ite (.next fun c => c.setRf _ _ _ _) (.next id))

theorem queue_execEpochMirrorTimer : KeepsQueue todo s (execEpochMirrorTimer s) :=
  .ite (.next fun c => c.mirrorPut) (.next id)

theorem Queued.standbyReady (c : Queued todo s) : Queued todo s.standbyReady := by
  unfold State.standbyReady
  split
  · refine .ite ?_ c
    generalize hb : ({ s with pair := have p := s.pair; { p with baseline := false, baseCount := none } }
      : State) = t
    have ct : Queued todo t := hb ▸ c.update
    extract_lets +onlyGivenNames s1 s2
    have c2 : Queued todo s2 := .toMirror (.setRf ct _ _ _ _)
    split
    exacts [.finish c2.update _ _ _, c2]
  · exact c

theorem Queued.applyItem (c : Queued todo s) {m b} : Queued todo (s.applyItem m b) := by
  unfold State.applyItem
  extract_lets _ s1
  have c1 : Queued todo s1 := c.update
  split
  next t3 h2 =>
  have ct3 : Queued todo t3 := by
    refine .snd h2 ?_
    split
    exacts [c1, c1.update]
  exact .standbyReady (.ite ct3 ct3.pairMsg)

theorem Queued.applyItems (c : Queued todo s) : Queued todo s.applyItems := .ite c (.foldl c fun _ _ c => c.applyItem)

theorem queue_execPairMsgItem {port pkt} : KeepsQueue todo s (execPairMsgItem port pkt s) := by
  unfold execPairMsgItem
  split
  next h1 =>
  exact .ite (.next fun c => .snd h1 c.pairSink) (.ite (.next fun c => .pairMsg (.snd h1 c.pairSink))
    (.next fun c => .applyItems (.update (.snd h1 c.pairSink))))

theorem queue_execPairMsgBaselineStart {port pkt} : KeepsQueue todo s (execPairMsgBaselineStart port pkt s) := by
  unfold execPairMsgBaselineStart
  split
  next h1 =>
  exact .ite (.next fun c => .toMirror (.setRf (.update (.snd h1 c.pairSink)) _ _ _ _))
    (.next fun c => .snd h1 c.pairSink)

theorem queue_execPairMsgBaselineEnd {port pkt} : KeepsQueue todo s (execPairMsgBaselineEnd port pkt s) := by
  unfold execPairMsgBaselineEnd
  split
  next h1 =>
  exact .ite (.next fun c => .standbyReady (.update (.snd h1 c.pairSink))) (.next fun c => .snd h1 c.pairSink)

theorem queue_execPairMsgAbdicate {port pkt} : KeepsQueue todo s (execPairMsgAbdicate port pkt s) := by
  unfold execPairMsgAbdicate
  split
  next h1 =>
  exact .next fun c => .ite (.claim (.snd h1 c.pairSink)) (.snd h1 c.pairSink)

theorem Queued.heard (c : Queued todo s) {inband claim flags} : Queued todo (s.heard inband claim flags) := by
  unfold State.heard
  extract_lets _ _ s1 _ s2 s3 s4
  have c1 : Queued todo s1 := .setReg (c.setRf _ _ _ _) _ _
  have c2 : Queued todo s2 := c1.update
  have c3 : Queued todo s3 := .ite c2.pairEvent c2
  have c4 : Queued todo s4 := .ite (.toMirror (c3.setRf _ _ _ _)) c3
  exact .ite c4.claim c4

theorem queue_execPairHb {port pkt} : KeepsQueue todo s (execPairHb port pkt s) := by
  unfold execPairHb
  split
  next h1 =>
  refine .ite ?_ (.next fun c => .snd h1 (c.sink _ _ _))
  extract_lets _ s2 _ s3
  have c2 : Queued todo s → Queued todo s2 := fun c => .heard (.snd h1 (c.sink _ _ _))
  have c3 : Queued todo s → Queued todo s3 := fun c => .ite (.update (c2 c)) (c2 c)
  exact .next fun c => .baselineMay (c3 c)

theorem queue_execHbFrameRx {b} : KeepsQueue todo s (execHbFrameRx b s) := by
  unfold execHbFrameRx
  exact .ite (.next id) (.ite (.next fun c => c.bump _ _ _ _) (.ite (.next id) (.next fun c => c.heard)))

theorem queue_execHbPathSilent {inband} : KeepsQueue todo s (execHbPathSilent inband s) := by
  unfold execHbPathSilent
  refine .ite (.next id) ?_
  extract_lets +onlyGivenNames b s1
  have c1 : Queued todo s → Queued todo s1 := fun c => .setRf (c.setRf _ _ _ _) _ _ _ _
  generalize (if inband then have p := s1.pair; { p with peerIn := 0 } else have p := s1.pair;
    { p with peerSide := 0 } : Pair) = p
  extract_lets s2 s3 s4
  have c3 : Queued todo s → Queued todo s3 := fun c => .pairEvent (c1 c).update
  have c4 : Queued todo s → Queued todo s4 := fun c => .claim (c3 c)
  exact .ite (.next c3) (.ite (.next fun c => .mirrorStop (c3 c))
    (.next fun c => .ite (.toMirror (.setRf (c4 c) _ _ _ _)) (c4 c)))

theorem Queued.pairSet (c : Queued todo s) {partner a b claim hb} : Queued todo (s.pairSet partner a b claim hb) := by
  unfold State.pairSet
  refine .ite ?_ ?_
  · extract_lets _ s1 s2 s3
    have c1 : Queued todo s1 := .foldl (.setRf (.setReg (c.setReg _ _) _ _) _ _ _ _) fun _ _ c => c.setRf _ _ _ _
    have c2 : Queued todo s2 := .setRf c1.mirrorStop _ _ _ _
    have c3 : Queued todo s3 := .ite c2 c2.toRole
    exact .ite (.foldl c3 fun _ _ c => c.portDark) c3
  · extract_lets s4 s5 s6
    have c4 : Queued todo s4 := .putClaim (.holdKeep (.setRf (.setReg (c.setReg _ _) _ _) _ _ _ _))
    have c5 : Queued todo s5 := .foldl c4 fun _ _ c => c.setRf _ _ _ _
    have c6 : Queued todo s6 := .foldl c5 fun _ _ c => .ite c.pairFwd c
    exact .ite (.ite c6 c6.toRole) (.ite c6 c6.becomeStandby)

theorem queue_execPairConfig {tag} : KeepsQueue todo s (execPairConfig tag s) := by
  unfold execPairConfig
  split
  · exact .next id
  · exact .ite (.next fun c => .finish c.setLast _ _ _) (.ite (.next fun c => .finish c.setLast _ _ _)
      (.next fun c => .finish (.pairSet c.setLast) _ _ _))

theorem queue_execPairStatus {tag} : KeepsQueue todo s (execPairStatus tag s) :=
  .next fun c => c.serve _ _ _ _ _ fun _ _ c => c

theorem queue_execPairSwap {tag} : KeepsQueue todo s (execPairSwap tag s) := by
  unfold execPairSwap
  split
  · exact .next id
  · exact .ite (.next fun c => .finish c.setLast _ _ _) (.next fun c => .foldl (.update (.hold c.setLast _))
      fun _ _ c => .ite c.askHold c)

theorem queue_execSwapAbdicate : KeepsQueue todo s (execSwapAbdicate s) := .ite (.next fun c => c.abdicate) (.next id)

theorem queue_execDvtErrClear {path v} : KeepsQueue todo s (execDvtErrClear path v s) :=
  .ite (.next fun c => c.setReg _ _) (.next id)

/-! ### Reset: supplies, boot, resets, domains and self-tests -/

theorem Queued.fwEvent (c : Queued todo s) {ident} : Queued todo (s.fwEvent ident) := c.event _ _ _

theorem Queued.compSet (c : Queued todo s) {ident st slot svn} : Queued todo (s.compSet ident st slot svn) :=
  .setRf (.setRf (c.setRf _ _ _ _) _ _ _ _) _ _ _ _

theorem Queued.bootPut (c : Queued todo s) {active trial tries} : Queued todo (s.bootPut active trial tries) := by
  unfold State.bootPut
  exact c.update

theorem Queued.secShow (c : Queued todo s) : Queued todo s.secShow := by
  unfold State.secShow
  exact .setRf (.setRf (.setRf (.setRf (c.setRf _ _ _ _) _ _ _ _) _ _ _ _) _ _ _ _) _ _ _ _

theorem Queued.slotSvn (c : Queued todo s) {slot} : Queued todo (s.slotSvn slot).2 := by
  unfold State.slotSvn
  split
  exacts [c, c.draw]

theorem Queued.secBoot (c : Queued todo s) : Queued todo s.secBoot := by
  unfold State.secBoot
  extract_lets _ s1 _ _ _ _ s2 s3
  have c1 : Queued todo s1 := .ite (.ite c.bootPut c.bootPut) c
  have c2 : Queued todo s2 := c1.update
  have c3 : Queued todo s3 := c2.setReg _ _
  split
  next h4 =>
  exact .compSet (.secShow (.snd h4 c3.slotSvn))

theorem Queued.cartsForget (c : Queued todo s) : Queued todo s.cartsForget := by
  unfold State.cartsForget
  exact .foldl c fun _ _ c => c.setCart _ _

theorem Queued.loseMain (c : Queued todo s) : Queued todo s.loseMain := by
  unfold State.loseMain
  refine .update (.foldl (.setRf (.clearRegs (.setRf (.cartsForget (.ite ?_ c)) _ _ _ _) _) _ _ _ _) ?_)
  · exact c.setRf _ _ _ _
  · exact fun _ _ c => c.setRf _ _ _ _

theorem Queued.allOff (c : Queued todo s) {k} : Queued todo (s.allOff k) := .foldl c fun _ _ c => c.toOff

theorem Queued.stopMain (c : Queued todo s) : Queued todo s.stopMain := .allOff c.loseMain

theorem Queued.cause (c : Queued todo s) {kind source} : Queued todo (s.cause kind source) := by
  unfold State.cause
  extract_lets s1
  have c1 : Queued todo s1 := .setRf (c.setRf _ _ _ _) _ _ _ _
  exact .ite (c1.bump _ _ _ _) (.ite (c1.bump _ _ _ _) (.ite (c1.bump _ _ _ _) c1))

theorem Queued.bootStart (c : Queued todo s) : Queued todo s.bootStart := by
  unfold State.bootStart
  refine .ite (.update (.allOff (c.clearRegs _))) ?_
  extract_lets _ s1 s2
  have c1 : Queued todo s1 := .update (.allOff (c.clearRegs _))
  have c2 : Queued todo s2 := .toDepth c1.toDepth
  exact .secBoot (.ite c2.toDepth c2)

theorem Queued.coldMain (c : Queued todo s) {source} : Queued todo (s.coldMain source) := by
  unfold State.coldMain
  exact .trdShow (.bootStart (.update (.ite c.cause c)))

theorem queue_execVinAonApply : KeepsQueue todo s (execVinAonApply s) := .next fun c => c.update

theorem queue_execVinAonLoss : KeepsQueue todo s (execVinAonLoss s) := by
  unfold execVinAonLoss
  extract_lets
  exact .next fun c => .toOff (.allOff c.update)

theorem queue_execVinMainLoss : KeepsQueue todo s (execVinMainLoss s) := by
  unfold execVinMainLoss
  exact .ite (.next fun c => .trdShow (.update (.stopMain c.abdicate))) (.next id)

theorem queue_execMainPowerGood {leadSel bootSrc} : KeepsQueue todo s (execMainPowerGood leadSel bootSrc s) := by
  unfold execMainPowerGood
  refine .ite ?_ (.next id)
  extract_lets _ s1
  have c1 : Queued todo s → Queued todo s1 := fun c => c.update
  split
  next h2 =>
  extract_lets s3
  have c3 : Queued todo s → Queued todo s3 := fun c => .setRf (.snd h2 (.draw (c1 c))) _ _ _ _
  exact .next fun c => .ite (.coldMain (c3 c)) (c3 c)

theorem queue_execVinIoLoss : KeepsQueue todo s (execVinIoLoss s) := by
  unfold execVinIoLoss
  exact .next fun c => .trdShow (.update (.ite c.stopMain c))

theorem queue_execVinIoReturn : KeepsQueue todo s (execVinIoReturn s) := by
  unfold execVinIoReturn
  exact .ite (.next id) (.next fun c => .ite (.coldMain c.update) c.update)

theorem Queued.allLock (c : Queued todo s) : Queued todo s.allLock := by
  unfold State.allLock
  exact .foldl (c.setRf _ _ _ _) fun _ _ c => .ite c (.foldl (c.setRf _ _ _ _) fun _ _ c' => c'.updPort _ _)

theorem queue_execPllLockDone : KeepsQueue todo s (execPllLockDone s) := by
  unfold execPllLockDone
  exact .ite (.next id) (.ite (.next fun c => .foldl c.allLock.update fun _ _ c => .wake (c.wake _) _)
    (.next fun c => c.allLock))

theorem queue_execClusterSramBistDone {n0 pass} : KeepsQueue todo s (execClusterSramBistDone n0 pass s) := by
  unfold execClusterSramBistDone
  refine .ite ?_ (.next id)
  extract_lets _ s1 s2 _ s3
  have c1 : Queued todo s → Queued todo s1 := fun c => c.update
  have c2 : Queued todo s → Queued todo s2 :=
    fun c => .ite (.carve (.toDepth c.toDepth)) (.toOff (.toOff (.toOff (c1 c))))
  have c3 : Queued todo s → Queued todo s3 := fun c => .update (c2 c)
  exact .ite (.next fun c => .wake (.wake (c3 c) _) _) (.next c2)

theorem Queued.hbmTrain (c : Queued todo s) {n pass} : Queued todo (s.hbmTrain n pass) := by
  unfold State.hbmTrain
  exact .ite (.setRf (.setRf c.toDepth _ _ _ _) _ _ _ _) (.setRf (.setRf (.toOff c.update) _ _ _ _) _ _ _ _)

theorem queue_execHbmPairTrained {pair pass0 pass1} : KeepsQueue todo s (execHbmPairTrained pair pass0 pass1 s) := by
  unfold execHbmPairTrained
  refine .ite (.ite ?_ (.next fun c => .wake (.wake (.update (.hbmTrain c.hbmTrain)) _) _)) (.next id)
  extract_lets _ _ s1
  have c1 : Queued todo s → Queued todo s1 := fun c => .update (.update (.hbmTrain c.hbmTrain))
  exact .next fun c => .ite (c1 c) (.foldl (c1 c) fun _ _ c => c.sinkTo)

theorem Queued.serviceLoad (c : Queued todo s) {lib b} : Queued todo (s.serviceLoad lib b) := by
  unfold State.serviceLoad
  split
  · exact c
  · split
    next h1 =>
    exact .ite c (.setRf (.imgCopy (.snd h1 c.imgReserve)) _ _ _ _)

theorem Queued.compsRun (c : Queued todo s) : Queued todo s.compsRun := by
  unfold State.compsRun
  extract_lets _ _ s1 s2
  have c1 : Queued todo s1 := .foldl c fun _ _ c => c.compSet
  have c2 : Queued todo s2 := .ite c1 c1.compSet
  split
  exacts [c2, .foldl c2 fun _ _ c => .ite c c.compSet]

theorem Queued.mergeLog (c : Queued todo s) : Queued todo s.mergeLog := by
  unfold State.mergeLog
  exact .foldl c.update fun _ _ c => .setReg c.update _ _

theorem queue_execBootComplete : KeepsQueue todo s (execBootComplete s) := by
  unfold execBootComplete
  refine .ite ?_ (.next id)
  extract_lets _ _ s1 s2 s3 s4 s5 _ s6 _ s7
  have c1 : Queued todo s → Queued todo s1 := fun c => c.update
  have c2 : Queued todo s → Queued todo s2 := fun c => .mergeLog (.compsRun (.setRf (.setRf (c1 c) _ _ _ _) _ _ _ _))
  have c3 : Queued todo s → Queued todo s3 := fun c => .ite (.setRf (.putClaim (c2 c)) _ _ _ _) (c2 c)
  have c4 : Queued todo s → Queued todo s4 := by
    intro c
    unfold s4
    split
    exacts [c3 c, .foldl (c3 c) fun _ _ c => .ite c c.serviceLoad]
  have c5 : Queued todo s → Queued todo s5 := fun c => .foldl (c4 c) fun _ _ c => c.event _ _ _
  have c6 : Queued todo s → Queued todo s6 := fun c => .foldl (c5 c) fun _ _ c => c.setRf _ _ _ _
  have c7 : Queued todo s → Queued todo s7 := fun c => .ite (.fwEvent (.setRf (.update (c6 c)) _ _ _ _)) (c5 c)
  exact .next fun c => .ite (.foldl (c7 c) fun _ _ c => c.portCfgSet) (c7 c)

theorem Queued.shuttlesLost (c : Queued todo s) {n0} : Queued todo (s.shuttlesLost n0) := by
  unfold State.shuttlesLost
  exact .foldl c fun _ _ c => .ite c.endItem c.itemGone

theorem queue_execRefclkFabLoss : KeepsQueue todo s (execRefclkFabLoss s) := by
  unfold execRefclkFabLoss
  refine .ite (.next id) ?_
  extract_lets _ s1 _ s2 s3 s4 s5 s6
  have c1 : Queued todo s → Queued todo s1 := fun c => c.abdicate
  have c2 : Queued todo s → Queued todo s2 := fun c => .update (c1 c)
  have c3 : Queued todo s → Queued todo s3 := fun c => .setRf (.setRf (.setRf (c2 c) _ _ _ _) _ _ _ _) _ _ _ _
  have c4 : Queued todo s → Queued todo s4 := fun c => .portsDown (c3 c)
  have c5 : Queued todo s → Queued todo s5 := fun c => .foldl (c4 c) fun _ _ c => .foldl (c.setRf _ _ _ _) fun _ _ c' =>
    c'.updPort _ _
  have c6 : Queued todo s → Queued todo s6 := fun c => .foldl (c5 c) fun _ _ c => .shuttlesLost c.reedLost
  exact .next fun c => .ite (.becomeStandby (c6 c)) (c6 c)

theorem queue_execRefclkFabReturn : KeepsQueue todo s (execRefclkFabReturn s) := by
  unfold execRefclkFabReturn
  refine .ite (.next id) ?_
  extract_lets s1 _ s2 s3
  have c1 : Queued todo s → Queued todo s1 := fun c => c.setRf _ _ _ _
  have c2 : Queued todo s → Queued todo s2 := fun c => .update (c1 c)
  have c3 : Queued todo s → Queued todo s3 :=
    fun c => .foldl (c2 c) fun _ _ c => .ite (.updPort (c.setRf _ _ _ _) _ _) c
  exact .next fun c => .ite (.allLock (c3 c)) (c3 c)

theorem Queued.trim (c : Queued todo s) : Queued todo s.trim := by
  unfold State.trim
  exact .update (c.setRf _ _ _ _)

theorem queue_execAonTrim : KeepsQueue todo s (execAonTrim s) := .ite (.next fun c => c.trim) (.next id)

theorem queue_execPllLockLoss {kind idx} : KeepsQueue todo s (execPllLockLoss kind idx s) :=
  .ite (.next fun c => .reedLost (.portsDown (c.setRf _ _ _ _)))
    (.ite (.next fun c => .shuttlesLost (c.setRf _ _ _ _)) (.ite
    (.next fun c => .foldl (.portsDown (c.setRf _ _ _ _)) fun _ _ c => c.updPort _ _) (.next id)))

theorem queue_execDomainRun {tag} : KeepsQueue todo s (execDomainRun tag s) := by
  unfold execDomainRun
  split
  · exact .next id
  · exact .ite (.next fun c => c.finish _ _ _) (.ite (.next id)
      (.ite (.next fun c => c.finish _ _ _) (.next fun c => .finish (.ite (c.setDom _ _) (c.wake _)) _ _ _)))

theorem queue_execDomainOff {tag} : KeepsQueue todo s (execDomainOff tag s) := by
  unfold execDomainOff
  split
  · exact .next id
  · exact .ite (.next fun c => c.finish _ _ _) (.ite (.next id)
      (.ite (.next fun c => c.finish _ _ _) (.next fun c => .finish c.offNow _ _ _)))

theorem queue_execDomainExitDone {d} : KeepsQueue todo s (execDomainExitDone d s) := by
  unfold execDomainExitDone
  refine .ite (.next id) ?_
  extract_lets _ _ s1 s2 _ s3 s4 _ s5
  have c1 : Queued todo s → Queued todo s1 := fun c => c.setDom _ _
  have c2 : Queued todo s → Queued todo s2 := fun c => .ite (.hbmTrain (c1 c)) (c1 c)
  have c3 : Queued todo s → Queued todo s3 := fun c => .ite (.bump (c2 c) _ _ _ _) (c2 c)
  have c4 : Queued todo s → Queued todo s4 :=
    fun c => .ite (.ite (.foldl (.setRf (c3 c) _ _ _ _) fun _ _ c => c.updPort _ _)
    (c3 c)) (c2 c)
  have c5 : Queued todo s → Queued todo s5 := fun c => .ite (.wake (.wake (.update (c4 c)) _) _) (c4 c)
  exact .next fun c => .trdShow (.foldl (c5 c) fun _ _ c => c.holdExit)

theorem Queued.testsEnd (c : Queued todo s) {f} : Queued todo (s.testsEnd f) := .foldl c fun _ _ c => c.testEnd

theorem Queued.dropQueue (c : Queued todo s) {q} : Queued todo (s.dropQueue q) := by
  unfold State.dropQueue
  refine .foldl (.update (.foldl c fun _ _ c => c.setInq _ _ _)) fun _ _ c => ?_
  extract_lets s1
  have c1 : Queued todo s1 := c.pktGone
  split
  exacts [c1.copyGone, c1]

theorem Queued.cycle (c : Queued todo s) {d} : Queued todo (s.cycle d) := by
  unfold State.cycle
  exact .ite c (.setDom c.offLoss _ _)

theorem Queued.shuBack (c : Queued todo s) {n0} : Queued todo (s.shuBack n0) := by
  unfold State.shuBack
  exact .update (c.setRf _ _ _ _)

theorem Queued.clusterCycle (c : Queued todo s) {n0} : Queued todo (s.clusterCycle n0) := by
  unfold State.clusterCycle
  exact .shuBack (.cycle (.cycle (.cycle c.update)))

theorem Queued.groupAgain (c : Queued todo s) {x} : Queued todo (s.groupAgain x) := by
  unfold State.groupAgain
  exact .groupArm (.groupReserve (.setRegs (.setRegs (.setRf (c.setRegs _ _) _ _ _ _) _ _) _ _))

theorem Queued.tablesReset (c : Queued todo s) : Queued todo s.tablesReset := by
  unfold State.tablesReset
  exact .foldl (c.clearRegs _) fun _ _ c => .setRegs (c.setRegs _ _) _ _

theorem Queued.planeCmds (c : Queued todo s) : Queued todo s.planeCmds := by
  unfold State.planeCmds
  refine .update (.foldl ?_ fun _ _ c => ?_)
  · split
    exacts [c.finish _ _ _, c]
  · split
    exacts [c.finish _ _ _, c]

theorem Queued.fabricReset (c : Queued todo s) : Queued todo s.fabricReset := by
  unfold State.fabricReset
  extract_lets +onlyGivenNames had s1 s2 s3 s4 gs s5
  have c1 : Queued todo s1 := .testsEnd (.cause c.abdicate)
  have c2 : Queued todo s2 := .ite c1.commitEnd c1
  have c4 : Queued todo s4 := .foldl (.portsDown (.planeCmds c2)) fun _ _ c => c.setRf _ _ _ _
  have c5 : Queued todo s5 := .poolDrop (.dropFlows c4.dropWork)
  extract_lets _ _ s6 s7 s8 s9 s10
  have c8 : Queued todo s8 := .setRf (.setRf (.clearRegs (.tablesReset c5.update) _) _ _ _ _) _ _ _ _
  have c9 : Queued todo s9 := .foldl c8 fun _ _ c => .clusterCycle (c.setRf _ _ _ _)
  have c10 : Queued todo s10 := .foldl c9 fun _ _ c => .groupAgain c
  exact .ite c10.becomeStandby (.ite c10.receiveAgain c10)

theorem Queued.dropClusterWork (c : Queued todo s) {n0} : Queued todo (s.dropClusterWork n0) :=
  .foldl c fun _ _ c => c.itemGone

theorem Queued.clusterReset (c : Queued todo s) {n0} : Queued todo (s.clusterReset n0) := by
  unfold State.clusterReset
  exact .clusterCycle (.reedLost (.setPool (.foldl (.dropClusterWork
    (.foldl (.portsDown (.testsEnd c.cause)) fun _ _ c => c.winEnd)) fun _ _ c => c.dropQueue) _ _))

theorem Queued.warmReset (c : Queued todo s) {source} : Queued todo (s.warmReset source) := by
  unfold State.warmReset
  exact .trdShow (.bootStart (.cause (.foldl (.loseMain (.portsDown (.ite (.putClaim c.abdicate) c.abdicate)))
    fun _ _ c => c.updPort _ _)))

theorem queue_resetCmd {tag kind covered f} (h : ∀ t p, Queued todo t → Queued todo (f t p)) :
    KeepsQueue todo s (s.resetCmd tag kind covered f) := by
  unfold State.resetCmd
  split
  · exact .next id
  · exact .ite (.next fun c => c.finish _ _ _) (.ite (.next id) (.ite (.next fun c => c.finish _ _ _)
      (.ite (.next fun c => c.finish _ _ _) (.ite (.next fun c => c.finish _ _ _)
        (.next fun c => h _ _ (c.finish _ _ _))))))

theorem queue_execWarmReset {tag} : KeepsQueue todo s (execWarmReset tag s) := queue_resetCmd fun _ _ c => c.warmReset

theorem queue_execFabricReset {tag} : KeepsQueue todo s (execFabricReset tag s) :=
  queue_resetCmd fun _ _ c => c.fabricReset

theorem queue_execClusterReset {tag} : KeepsQueue todo s (execClusterReset tag s) :=
  queue_resetCmd fun _ _ c => c.clusterReset

theorem queue_execPortReset {tag} : KeepsQueue todo s (execPortReset tag s) := by
  unfold execPortReset
  exact queue_resetCmd fun _ _ c => .portDown (.testsEnd c.cause)

theorem queue_execPerstAssert : KeepsQueue todo s (execPerstAssert s) := by
  unfold execPerstAssert
  exact .ite (.next fun c => .warmReset c.update) (.next fun c => c.update)

theorem queue_execPerstDeassert : KeepsQueue todo s (execPerstDeassert s) := by
  unfold execPerstDeassert
  exact .ite (.next fun c => .trdShow (.bootStart c.update)) (.next fun c => c.update)

theorem queue_selftest {tag test ok f} (h : ∀ t n, Queued todo t → Queued todo (f t n)) :
    KeepsQueue todo s (s.selftest tag test ok f) := by
  unfold State.selftest
  split
  · exact .next id
  · refine .ite (.next id) (.ite (.next fun c => c.finish _ _ _) (.ite (.next id) ?_))
    refine .ite (.next fun c => c.finish _ _ _) (.ite (.next fun c => c.finish _ _ _) ?_)
    refine .ite (.next fun c => c.finish _ _ _) (.ite (.next fun c => c.finish _ _ _) ?_)
    exact .next fun c => h _ _ (.update (c.hold _))

theorem queue_execSelftestAonTrim {tag} : KeepsQueue todo s (execSelftestAonTrim tag s) :=
  queue_selftest fun _ _ c => c.trim

theorem queue_execSelftestLaneCal {tag} : KeepsQueue todo s (execSelftestLaneCal tag s) := by
  unfold execSelftestLaneCal
  exact queue_selftest fun _ _ c => .ite (.ite c.testEnd c.startWidth) c

theorem queue_execSelftestPortLoop {tag} : KeepsQueue todo s (execSelftestPortLoop tag s) :=
  queue_selftest fun _ _ c => c

theorem queue_execSelftestSramBist {tag} : KeepsQueue todo s (execSelftestSramBist tag s) :=
  queue_selftest fun _ _ c => c

theorem queue_execSelftestShuBist {tag} : KeepsQueue todo s (execSelftestShuBist tag s) := queue_selftest fun _ _ c => c

theorem queue_execSelftestReedBist {tag} : KeepsQueue todo s (execSelftestReedBist tag s) :=
  queue_selftest fun _ _ c => c

theorem queue_execSelftestHbmScan {tag} : KeepsQueue todo s (execSelftestHbmScan tag s) := queue_selftest fun _ _ c => c

theorem queue_execSelftestCryptoKat {tag} : KeepsQueue todo s (execSelftestCryptoKat tag s) :=
  queue_selftest fun _ _ c => c

theorem queue_execSelftestSensorCheck {tag} : KeepsQueue todo s (execSelftestSensorCheck tag s) :=
  queue_selftest fun _ _ c => c

theorem Queued.withdraw (c : Queued todo s) {k n} : Queued todo (s.withdraw k n) := by
  induction n generalizing s with
  | zero => exact c
  | succ n ih =>
    unfold State.withdraw
    exact .ite c (ih c.takeFrame)

theorem Queued.secRestart (c : Queued todo s) : Queued todo s.secRestart := by
  unfold State.secRestart
  exact .ite (c.bump _ _ _ _) (.update (c.bump _ _ _ _))

theorem queue_execSelftestDone {test target errors detail} : KeepsQueue todo s
    (execSelftestDone test target errors detail s) := by
  unfold execSelftestDone
  exact .ite (.next id) (.next fun c => .testEnd (.ite (.ite (c.setPort _ _) (.ite c.startWidth c))
    (.ite (.offNow (.offNow (.offNow c.update))) (.ite (.update (c.setRf _ _ _ _))
    (.ite (.bump c.withdraw _ _ _ _) (.ite c.secRestart c))))))

/-! ### Thermal: sensors, the thermal ladder and the leak loop -/

theorem Queued.sensorEvent (c : Queued todo s) {i} : Queued todo (s.sensorEvent i) := c.event _ _ _

theorem Queued.setSensor (c : Queued todo s) {i st} : Queued todo (s.setSensor i st) :=
  .ite c (.sensorEvent (c.setRf _ _ _ _))

theorem Queued.readSensor (c : Queued todo s) {i a0} : Queued todo (s.readSensor i a0) := by
  unfold State.readSensor
  exact .ite (c.setRf _ _ _ _) (.setSensor (c.setRf _ _ _ _))

theorem Queued.formZone (c : Queued todo s) {z} : Queued todo (s.formZone z) := by
  unfold State.formZone
  extract_lets _ _ _ _ s1
  have c1 : Queued todo s1 := .setRf (c.setRf _ _ _ _) _ _ _ _
  split
  exacts [c1, c1.update]

theorem Queued.blindClusters (c : Queued todo s) : Queued todo s.blindClusters := by
  unfold State.blindClusters
  exact c.update

theorem Queued.enterWarn (c : Queued todo s) {z n0} : Queued todo (s.enterWarn z n0) := by
  unfold State.enterWarn
  exact c.update

theorem Queued.enterLimit (c : Queued todo s) : Queued todo s.enterLimit := by
  unfold State.enterLimit
  exact c.update

theorem Queued.critHold (c : Queued todo s) : Queued todo s.critHold := .ite (.foldl c fun _ _ c => .ite c.askHold c) c

theorem Queued.climb (c : Queued todo s) {z} : Queued todo (s.climb z) := by
  unfold State.climb
  refine .ite c ?_
  extract_lets _ s1 s2 s3
  have c1 : Queued todo s1 := c.setRf _ _ _ _
  have c2 : Queued todo s2 := by
    unfold s2
    split
    exacts [.ite c1.enterWarn c1, c1]
  have c3 : Queued todo s3 := .ite c2.enterLimit c2
  exact .ite c3.update c3

theorem Queued.thermMoved (c : Queued todo s) {old} : Queued todo (s.thermMoved old) := .ite c.safety c

theorem Queued.trip (c : Queued todo s) {i} : Queued todo (s.trip i) := by
  unfold State.trip
  exact .trdShow (.stopMain (.abdicate (.update (.ite c (.setRf (c.setRf _ _ _ _) _ _ _ _)))))

theorem queue_execThermalSample {readings} : KeepsQueue todo s (execThermalSample readings s) := by
  unfold execThermalSample
  refine .ite (.next id) ?_
  extract_lets _ s1 s2 s3 s4
  have c1 : Queued todo s → Queued todo s1 := fun c => .foldl c fun _ _ c => c.readSensor
  have c2 : Queued todo s → Queued todo s2 := fun c => .foldl (c1 c) fun _ _ c => c.formZone
  have c3 : Queued todo s → Queued todo s3 := fun c => .critHold (.foldl (.blindClusters (c2 c)) fun _ _ c => c.climb)
  have c4 : Queued todo s → Queued todo s4 := fun c => .thermMoved (c3 c)
  split
  exacts [.next fun c => .ite (c4 c) (.trip (c4 c)), .next c4]

theorem queue_execSensorPlausibilityTimer {i} : KeepsQueue todo s (execSensorPlausibilityTimer i s) := by
  unfold execSensorPlausibilityTimer
  exact .ite (.next id) (.ite (.next fun c => .ite c.setSensor c)
    (.ite (.next fun c => c.setSensor) (.ite (.next fun c => c.setSensor)
    (.ite (.next id) (.next fun c => c.setSensor)))))

theorem Queued.liftLimits (c : Queued todo s) : Queued todo s.liftLimits := by
  unfold State.liftLimits
  exact c.update

theorem Queued.critWake (c : Queued todo s) {p} : Queued todo (s.critWake p) := by
  unfold State.critWake
  exact .ite c (.ite c.holdExit (.ite c (.ite (.ite (.ite c.sendParams c.toTrain) c) c.wakePort)))

theorem queue_execRungReleaseTimer {rung n0} : KeepsQueue todo s (execRungReleaseTimer rung n0 s) := by
  unfold execRungReleaseTimer
  refine .ite (.next id) ?_
  extract_lets _ s1 s2 s3
  have c1 : Queued todo s → Queued todo s1 := fun c => .foldl c fun _ _ c => .ite (c.setRf _ _ _ _) c
  have c2 : Queued todo s → Queued todo s2 := fun c => .liftLimits (c1 c)
  have c3 : Queued todo s → Queued todo s3 := fun c => .ite (.foldl (c2 c) fun _ _ c => c.critWake) (c2 c)
  exact .next fun c => .thermMoved (c3 c)

theorem queue_execLadderStepTimer : KeepsQueue todo s (execLadderStepTimer s) := by
  unfold execLadderStepTimer
  exact .next fun c => .thermMoved c.update

theorem queue_execThermtripAssert {i} : KeepsQueue todo s (execThermtripAssert i s) :=
  .ite (.next id) (.next fun c => c.trip)

theorem queue_execTripLatchClear {path v} : KeepsQueue todo s (execTripLatchClear path v s) := by
  unfold execTripLatchClear
  refine .ite ?_ (.next id)
  extract_lets s1 _ s2
  have c1 : Queued todo s → Queued todo s1 := fun c => c.setRf _ _ _ _
  have c2 : Queued todo s → Queued todo s2 := fun c => .update (c1 c)
  exact .next fun c => .ite (.coldMain (c2 c)) (c2 c)

theorem Queued.coolantEvent (c : Queued todo s) : Queued todo s.coolantEvent := c.event _ _ _

theorem queue_execCoolantSample {tin tout} : KeepsQueue todo s (execCoolantSample tin tout s) := by
  unfold execCoolantSample
  exact .ite (.next id) (.next fun c => .update (.setRf (c.setRf _ _ _ _) _ _ _ _))

theorem queue_execCoolDtTimer {which} : KeepsQueue todo s (execCoolDtTimer which s) := by
  unfold execCoolDtTimer
  exact .ite (.next fun c => .safety (.coolantEvent (c.setRf _ _ _ _)))
    (.ite (.next fun c => .coolantEvent (c.setRf _ _ _ _)) (.ite (.next fun c => .coolantEvent (c.setRf _ _ _ _))
    (.ite (.next fun c => .coolantEvent (c.setRf _ _ _ _)) (.next id))))

theorem Queued.newBand (c : Queued todo s) {b} : Queued todo (s.newBand b) := by
  unfold State.newBand
  extract_lets s1 _ s2
  have c1 : Queued todo s1 := .coolantEvent (c.setRf _ _ _ _)
  have c2 : Queued todo s2 := c1.update
  exact .ite (.safety c2.update) c2

theorem queue_execLeakSample {ohms} : KeepsQueue todo s (execLeakSample ohms s) := by
  unfold execLeakSample
  exact .ite (.next id) (.next fun c => .ite (.newBand c.update) c.update)

theorem queue_execLeakDryTimer : KeepsQueue todo s (execLeakDryTimer s) := by
  unfold execLeakDryTimer
  exact .ite (.next fun c => c.update) (.next id)

theorem queue_execSensors {tag} : KeepsQueue todo s (execSensors tag s) :=
  .next fun c => c.serve _ _ _ _ _ fun _ _ c => c

theorem queue_execZones {tag} : KeepsQueue todo s (execZones tag s) := .next fun c => c.serve _ _ _ _ _ fun _ _ c => c

theorem queue_execCoolCfg {tag} : KeepsQueue todo s (execCoolCfg tag s) := by
  unfold execCoolCfg
  exact .next fun c => c.serve _ _ _ _ _ fun _ _ c => .ite_fst (.setRf (c.setReg _ _) _ _ _ _) c

/-! ### Cart: the cable cartridges -/

theorem Queued.crtEvent (c : Queued todo s) {k} : Queued todo (s.crtEvent k) := c.event _ _ _

theorem Queued.setCrt (c : Queued todo s) {k st} : Queued todo (s.setCrt k st) := .crtEvent (c.setRf _ _ _ _)

theorem Queued.laser (c : Queued todo s) {k b} : Queued todo (s.laser k b) := by
  unfold State.laser
  exact .setCart (.setRf (c.setRf _ _ _ _) _ _ _ _) _ _

theorem Queued.inspectEnd (c : Queued todo s) {k} : Queued todo (s.inspectEnd k) := by
  unfold State.inspectEnd
  split
  · exact c
  · exact .foldl (.setCart (c.setRf _ _ _ _) _ _) fun _ _ c => c.finish _ _ _

theorem queue_execCartPresenceQualified {k} : KeepsQueue todo s (execCartPresenceQualified k s) :=
  .ite (.next fun c => .setCrt (c.setRf _ _ _ _)) (.next id)

theorem queue_execCartIdentityReadDone {k record valid} :
    KeepsQueue todo s (execCartIdentityReadDone k record valid s) := by
  unfold execCartIdentityReadDone
  refine .ite (.ite ?_ (.next fun c => .setCrt (c.setCart _ _))) (.next id)
  extract_lets _ s1
  have c1 : Queued todo s → Queued todo s1 := fun c => .setCrt (.setRf (c.setCart _ _) _ _ _ _)
  exact .next fun c => .ite (.holdKeep (c1 c)) (c1 c)

theorem queue_execCartPull {k} : KeepsQueue todo s (execCartPull k s) := by
  unfold execCartPull
  refine .ite (.next id) ?_
  extract_lets _ s1 s2 s3 _ s4
  have c1 : Queued todo s → Queued todo s1 := fun c => .laser (c.setRf _ _ _ _)
  have c2 : Queued todo s → Queued todo s2 := fun c => .portsDown (c1 c)
  have c3 : Queued todo s → Queued todo s3 := fun c => .ite (.foldl (c2 c) fun _ _ c => c.setReg _ _) (c2 c)
  have c4 : Queued todo s → Queued todo s4 := fun c => .setCart (c3 c) _ _
  exact .next fun c => .inspectEnd (.setCrt (.setRf (c4 c) _ _ _ _))

theorem Queued.crtRefuse (c : Queued todo s) {k tag} : Queued todo (s.crtRefuse k tag) := by
  unfold State.crtRefuse
  extract_lets s1
  have c1 : Queued todo s1 := c.setRf _ _ _ _
  split
  exacts [c1.finish _ _ _, c1]

theorem queue_execCartRemove {src} : KeepsQueue todo s (execCartRemove src s) := by
  unfold execCartRemove
  refine .ite (.next fun c => c.answer) ?_
  split
  · exact .next id
  · refine .ite (.next fun c => c.crtRefuse) (.next fun c => ?_)
    split
    · exact .finish (.inspectEnd (.ite (.setRf (.setRf c.laser _ _ _ _) _ _ _ _)
        (.setCrt (.setRf (.setRf c.laser _ _ _ _) _ _ _ _)))) _ _ _
    · exact .inspectEnd (.ite (.setRf (.setRf c.laser _ _ _ _) _ _ _ _)
        (.setCrt (.setRf (.setRf c.laser _ _ _ _) _ _ _ _)))

theorem queue_execCartInspect {src} : KeepsQueue todo s (execCartInspect src s) := by
  unfold execCartInspect
  refine .ite (.next fun c => c.answer) ?_
  split
  · exact .next id
  · refine .ite (.next fun c => c.crtRefuse) (.next fun c => .setCart ?_ _ _)
    split
    exacts [.hold (.ite c c.setCrt) _, .ite c c.setCrt]

theorem queue_execInspectionDone {k losses} : KeepsQueue todo s (execInspectionDone k losses s) := by
  unfold execInspectionDone
  refine .ite ?_ (.next id)
  extract_lets s1 _ s2 s3 s4 s5 s6
  have c1 : Queued todo s → Queued todo s1 := fun c => .foldl c fun _ _ c => c.setReg _ _
  have c2 : Queued todo s → Queued todo s2 := fun c => .laser (.setRf (c1 c) _ _ _ _)
  have c3 : Queued todo s → Queued todo s3 := fun c => .ite (.setDom (c2 c) _ _) (c2 c)
  have c4 : Queued todo s → Queued todo s4 :=
    fun c => .ite (.foldl (.setRf (c3 c) _ _ _ _) fun _ _ c => c.updPort _ _) (c3 c)
  have c5 : Queued todo s → Queued todo s5 := fun c => .setCrt (c4 c)
  have c6 : Queued todo s → Queued todo s6 := fun c => .foldl (c5 c) fun _ _ c => c.crtEvent
  exact .next fun c => .inspectEnd (c6 c)

theorem queue_execCartStatus {tag} : KeepsQueue todo s (execCartStatus tag s) :=
  .next fun c => c.serve _ _ _ _ _ fun _ _ c => c

theorem queue_execScores {tag} : KeepsQueue todo s (execScores tag s) := .next fun c => c.serve _ _ _ _ _ fun _ _ c => c

theorem queue_execCartIdentity {tag} : KeepsQueue todo s (execCartIdentity tag s) := by
  unfold execCartIdentity
  exact .next fun c => c.serve _ _ _ _ _ fun _ _ c => .ite_fst c c

/-! ### Firmware: the plinth firmware -/

theorem Queued.enterFallback (c : Queued todo s) : Queued todo s.enterFallback := by
  unfold State.enterFallback
  extract_lets s1 s2
  have c1 : Queued todo s1 := c.setRf _ _ _ _
  have c2 : Queued todo s2 := .foldl c1 fun _ _ c => .ite c (c.setRf _ _ _ _)
  exact .ite c2.mirrorStop c2

theorem Queued.leaveFallback (c : Queued todo s) : Queued todo s.leaveFallback := by
  unfold State.leaveFallback
  exact .ite c (.applyItems (.mergeLog (.foldl (c.setRf _ _ _ _) fun _ _ c => .ite (c.setRf _ _ _ _) c)))

theorem Queued.setAct (c : Queued todo s) {st ident} : Queued todo (s.setAct st ident) := .fwEvent (c.setRf _ _ _ _)

theorem Queued.setResult (c : Queued todo s) {st} : Queued todo (s.setResult st) := c.setRf _ _ _ _

theorem Queued.actStop (c : Queued todo s) : Queued todo s.actStop := by
  unfold State.actStop
  split
  exacts [c, .ite c (c.setRf _ _ _ _)]

theorem Queued.revert (c : Queued todo s) {result} : Queued todo (s.revert result) := by
  unfold State.revert
  exact .setAct (.setRf (.update (.bootPut c.actStop)) _ _ _ _)

theorem Queued.cutCmds (c : Queued todo s) {f} : Queued todo (s.cutCmds f) := .foldl c fun _ _ c => c.finish _ _ _

theorem Queued.stageCut (c : Queued todo s) : Queued todo s.stageCut := by
  unfold State.stageCut
  exact .ite c.update c

theorem Queued.kernelFault (c : Queued todo s) {cause} : Queued todo (s.kernelFault cause) := by
  unfold State.kernelFault
  refine .ite c ?_
  extract_lets _ _ s1 s2 _ s3 s4 s5 s6 s7 _ s8 s9
  have c1 : Queued todo s1 := c.log _ _ _ _
  have c2 : Queued todo s2 := .stageCut c1.cutCmds
  have c3 : Queued todo s3 := c2.update
  have c4 : Queued todo s4 := .bump c3.enterFallback _ _ _ _
  have c5 : Queued todo s5 := .bump (c4.setRf _ _ _ _) _ _ _ _
  have c6 : Queued todo s6 := .foldl c5 fun _ _ c => c.setRf _ _ _ _
  have c7 : Queued todo s7 := c6.setRf _ _ _ _
  have c8 : Queued todo s8 := .ite c7.update c7
  have c9 : Queued todo s9 := .ite c8.revert (.ite (.setAct (c8.setRf _ _ _ _)) c8)
  exact c9.fwEvent

theorem Queued.compFault (c : Queued todo s) {ident cause} : Queued todo (s.compFault ident cause) := by
  unfold State.compFault
  refine .ite c (.ite (.kernelFault c.update) ?_)
  extract_lets _ _ s1 s2 s3 s4
  have c1 : Queued todo s1 := .log c.update _ _ _ _
  have c2 : Queued todo s2 := .stageCut c1.cutCmds
  have c3 : Queued todo s3 := .bump (.setRf (c2.setRf _ _ _ _) _ _ _ _) _ _ _ _
  have c4 : Queued todo s4 := .fwEvent (c3.bump _ _ _ _)
  exact .ite c4.revert c4

theorem queue_execComponentFault {ident cause} : KeepsQueue todo s (execComponentFault ident cause s) :=
  .next fun c => .ite c.compFault c

theorem queue_execComponentWatchdog {ident} : KeepsQueue todo s (execComponentWatchdog ident s) :=
  .next fun c => .ite c.compFault c

theorem queue_execComponentRestartDone {ident} : KeepsQueue todo s (execComponentRestartDone ident s) :=
  .ite (.next fun c => .fwEvent (c.setRf _ _ _ _)) (.next id)

theorem queue_execCoreWatchdog {core} : KeepsQueue todo s (execCoreWatchdog core s) :=
  .next fun c => .ite c.kernelFault c

theorem queue_execKernelFault {cause} : KeepsQueue todo s (execKernelFault cause s) :=
  .next fun c => .ite c.kernelFault c

theorem queue_execComplexRestartDone : KeepsQueue todo s (execComplexRestartDone s) := by
  unfold execComplexRestartDone
  exact .ite (.ite (.next fun c => .fwEvent (c.setRf _ _ _ _))
    (.next fun c => .fwEvent (.leaveFallback (.foldl (c.setRf _ _ _ _) fun _ _ c => c.setRf _ _ _ _)))) (.next id)

theorem Queued.coreFault (c : Queued todo s) {d ident} : Queued todo (s.coreFault d ident) := by
  unfold State.coreFault
  refine .ite c ?_
  extract_lets _ _ s1 s2 s3 s4
  have c1 : Queued todo s1 := c.update
  have c2 : Queued todo s2 := c1.log _ _ _ _
  have c3 : Queued todo s3 := .bump (.bump (.setRf (c2.setRf _ _ _ _) _ _ _ _) _ _ _ _) _ _ _ _
  have c4 : Queued todo s4 := c3.fwEvent
  exact .ite c4.revert c4

theorem queue_execSecCoreFault : KeepsQueue todo s (execSecCoreFault s) :=
  .next fun c => .ite c (.bump c.coreFault _ _ _ _)

theorem queue_execTreadleCoreFault : KeepsQueue todo s (execTreadleCoreFault s) := .next fun c => .ite c.coreFault c

theorem queue_execSchedulerCoreFault : KeepsQueue todo s (execSchedulerCoreFault s) := .next fun c => .ite c.coreFault c

theorem queue_execControlCoreFault {n0} : KeepsQueue todo s (execControlCoreFault n0 s) :=
  .next fun c => .ite c.coreFault c

theorem queue_execDelegateRestartDone {d} : KeepsQueue todo s (execDelegateRestartDone d s) := by
  unfold execDelegateRestartDone
  refine .ite ?_ (.next id)
  extract_lets _ _ s1 s2 s3
  have c1 : Queued todo s → Queued todo s1 := fun c => c.update
  have c2 : Queued todo s → Queued todo s2 := fun c => .ite (c1 c) (.setRf (c1 c) _ _ _ _)
  have c3 : Queued todo s → Queued todo s3 := fun c => .ite (.foldl (c2 c) fun _ _ c => c.retireWaiting) (c2 c)
  exact .next fun c => .fwEvent (c3 c)

theorem Queued.setSlot (c : Queued todo s) {slot b} : Queued todo (s.setSlot slot b) := by
  unfold State.setSlot
  exact c.update

theorem queue_execFwStage {tag} : KeepsQueue todo s (execFwStage tag s) := by
  unfold execFwStage
  split
  · exact .next id
  · refine .ite (.next fun c => c.finish _ _ _) (.ite (.next fun c => c.finish _ _ _)
      (.ite (.next fun c => c.finish _ _ _) ?_))
    extract_lets s1 s2 _ s3 s4
    have c1 : Queued todo s → Queued todo s1 := fun c => c.setSlot
    have c2 : Queued todo s → Queued todo s2 := fun c => .ite (.setAct (c1 c)) (c1 c)
    have c3 : Queued todo s → Queued todo s3 := fun c => .update (c2 c)
    have c4 : Queued todo s → Queued todo s4 := fun c => .hold (c3 c) _
    exact .ite (.next fun c => .update (c4 c)) (.next fun c => .finish (c3 c) _ _ _)

theorem queue_execStageVerifyDone : KeepsQueue todo s (execStageVerifyDone s) := by
  unfold execStageVerifyDone
  split
  · exact .next id
  · exact .ite (.next id) (.next fun c => .finish (.setAct (.setResult c.setSlot.update)) _ _ _)

theorem Queued.countRestart (c : Queued todo s) {ident} : Queued todo (s.countRestart ident) :=
  .bump (c.bump _ _ _ _) _ _ _ _

theorem Queued.actNext (c : Queued todo s) : Queued todo s.actNext := by
  unfold State.actNext
  split
  · exact .setAct (.setRf (.setRf (c.setRf _ _ _ _) _ _ _ _) _ _ _ _)
  · refine .ite (.ite (c.setRf _ _ _ _) (.setAct (.setRf (c.setRf _ _ _ _) _ _ _ _))) ?_
    extract_lets s1 _ s2 s3 _ s4 s5 _ s6 s7
    have c1 : Queued todo s1 := .setRf (.setRf (c.setRf _ _ _ _) _ _ _ _) _ _ _ _
    have c2 : Queued todo s2 := c1.update
    have c3 : Queued todo s3 := .bump (.setRf c2.enterFallback _ _ _ _) _ _ _ _
    have c4 : Queued todo s4 := c3.update
    have c5 : Queued todo s5 := c2.countRestart
    have c6 : Queued todo s6 := c2.countRestart
    have c7 : Queued todo s7 := .ite (.foldl c4 fun _ _ c => c.setRf _ _ _ _)
      (.ite c5.update (.ite c6.update (.ite c2.countRestart c2)))
    exact c7.setAct

theorem Queued.actEnd (c : Queued todo s) {tag st} : Queued todo (s.actEnd tag st) := by
  unfold State.actEnd
  extract_lets s1
  have c1 : Queued todo s1 := c.setResult
  split
  exacts [c1.finish _ _ _, c1]

theorem queue_execActivateLive {src} : KeepsQueue todo s (execActivateLive src s) := by
  unfold execActivateLive
  refine .ite (.next fun c => c.answer) ?_
  split
  · exact .next id
  · exact .ite (.next fun c => c.actEnd) (.next fun c => .actNext (.actEnd c.bootPut.update))

theorem queue_execActivateReset {src} : KeepsQueue todo s (execActivateReset src s) := by
  unfold execActivateReset
  refine .ite (.next fun c => c.answer) ?_
  split
  · exact .next id
  · exact .ite (.next fun c => c.actEnd) (.next fun c => .setAct (.actEnd c.bootPut.update))

theorem Queued.serviceSwap (c : Queued todo s) {ident b} : Queued todo (s.serviceSwap ident b) := by
  unfold State.serviceSwap
  extract_lets old s1
  clear_value old
  have c1 : Queued todo s1 := .ite c c.serviceLoad
  split
  exacts [c1.drainImage, c1]

theorem Queued.compTake (c : Queued todo s) {ident st slot} : Queued todo (s.compTake ident st slot) :=
  .ite (c.setReg _ _) c.compSet

theorem Queued.compStep (c : Queued todo s) {k slot} : Queued todo (s.compStep k slot) :=
  .ite (.foldl c fun _ _ c => .ite c.compTake (c.setRf _ _ _ _)) (.ite c c.compTake)

theorem queue_execActivationComponentDone : KeepsQueue todo s (execActivationComponentDone s) := by
  unfold execActivationComponentDone
  split
  · exact .next id
  · exact .ite (.next id) (.next fun c => .actNext (.fwEvent
      (.ite (.leaveFallback (.setRf (.compStep c.update) _ _ _ _))
      (.ite (.serviceSwap (.compStep c.update)) (.ite (.foldl (.compStep c.update) fun _ _ c => c.retireWaiting)
      (.compStep c.update))))))

theorem queue_execActivationResume : KeepsQueue todo s (execActivationResume s) := .next fun c => .ite c.actNext c

theorem queue_execProbationExpire : KeepsQueue todo s (execProbationExpire s) := by
  unfold execProbationExpire
  exact .ite (.next fun c => .setAct (.setResult (.update (.foldl (.setRf c.bootPut _ _ _ _) fun _ _ c => .ite
    (c.setRf _ _ _ _) c)))) (.next id)

theorem queue_execFwCancel {src} : KeepsQueue todo s (execFwCancel src s) := by
  unfold execFwCancel
  refine .ite (.next fun c => c.answer) ?_
  split
  · exact .next id
  · exact .ite (.next fun c => c.actEnd) (.next fun c => .actEnd c.revert)

theorem queue_execRevertDone : KeepsQueue todo s (execRevertDone s) := by
  unfold execRevertDone
  refine .ite (.next fun c => .update (.setAct (.setResult
    (.setRf (.setRf (.foldl c fun _ _ c => ?_) _ _ _ _) _ _ _ _))))
    (.next id)
  extract_lets s1 _ s2
  have c1 : Queued todo s1 := .ite c.serviceSwap c
  have c2 : Queued todo s2 := c1.compTake
  exact .ite c2.countRestart c2

theorem queue_execFwCommit {src} : KeepsQueue todo s (execFwCommit src s) := by
  unfold execFwCommit
  refine .ite (.next fun c => c.answer) ?_
  split
  · exact .next id
  · split
    · exact .next fun c => c.actEnd
    · exact .ite (.next fun c => c.actEnd) (.next fun c => .actEnd (.secShow c.update))

theorem queue_execFwStatus {tag} : KeepsQueue todo s (execFwStatus tag s) :=
  .next fun c => c.serve _ _ _ _ _ fun _ _ c => c

theorem queue_execPolicyWrite {tag} : KeepsQueue todo s (execPolicyWrite tag s) := by
  unfold execPolicyWrite
  exact .ite (.next id) (.next fun c => c.serve _ _ _ _ _ (fun _ _ c => .ite_fst c
    (.ite_fst c (.ite_fst c (.setRf c.update _ _ _ _)))))

theorem queue_execDigest {tag} : KeepsQueue todo s (execDigest tag s) := .next fun c => c.serve _ _ _ _ _ fun _ _ c => c

theorem Queued.spdm (c : Queued todo s) {req} : Queued todo (s.spdm req).2 := by
  unfold State.spdm
  refine .ite_snd c (.ite_snd c ?_)
  split
  next h1 =>
  exact .snd h1 c.draw

theorem queue_execSpdm {tag} : KeepsQueue todo s (execSpdm tag s) := by
  unfold execSpdm
  split
  · exact .next id
  · split
    next h1 =>
    exact .ite (.next fun c => .finish (.snd h1 c.spdm) _ _ _) (.next fun c => .finish (.snd h1 c.spdm) _ _ _)

theorem queue_execDoeRequest {bytes} : KeepsQueue todo s (execDoeRequest bytes s) := by
  unfold execDoeRequest
  refine .ite ?_ (.next id)
  split
  next h1 =>
  exact .next fun c => .update (.snd h1 c.spdm)

theorem queue_execDebugNonce {tag} : KeepsQueue todo s (execDebugNonce tag s) := by
  unfold execDebugNonce
  refine .ite (.next id) (.next fun c => c.serve _ _ _ _ _ (fun _ _ c => ?_))
  split
  next h1 =>
  exact .update (.snd h1 c.draw)

theorem Queued.unhalt (c : Queued todo s) : Queued todo s.unhalt := by
  unfold State.unhalt
  exact .ite (.leaveFallback c.update) c.update

theorem queue_execDebugToken {tag} : KeepsQueue todo s (execDebugToken tag s) :=
  .ite (.next id) (.next fun c => c.serve _ _ _ _ _ fun _ _ c => .ite_fst c (.ite_fst c
    (.ite (.unhalt (.setRf (.update (c.setRf _ _ _ _)) _ _ _ _)) (.setRf (.update (c.setRf _ _ _ _)) _ _ _ _))))

theorem queue_execNonceExpire : KeepsQueue todo s (execNonceExpire s) := by
  unfold execNonceExpire
  exact .next fun c => c.update

theorem queue_execJtagHalt {core} : KeepsQueue todo s (execJtagHalt core s) := by
  unfold execJtagHalt
  exact .ite (.next fun c => .ite (.enterFallback c.update) c.update) (.next id)

theorem queue_execJtagResume {core} : KeepsQueue todo s (execJtagResume core s) := by
  unfold execJtagResume
  refine .ite ?_ (.next id)
  extract_lets _ s1 s2
  have c1 : Queued todo s → Queued todo s1 := fun c => c.update
  have c2 : Queued todo s → Queued todo s2 := fun c => .ite (.foldl (c1 c) fun _ _ c => c.retireWaiting) (c1 c)
  exact .next fun c => .ite (.leaveFallback (c2 c)) (c2 c)

theorem queue_execPlnLogLostClear {path v} : KeepsQueue todo s (execPlnLogLostClear path v s) :=
  .ite (.next fun c => c.setReg _ _) (.next id)

theorem queue_execLogRead {tag} : KeepsQueue todo s (execLogRead tag s) := by
  unfold execLogRead
  exact .next fun c => c.serve _ _ _ _ _ fun _ _ c => .ite_fst c c

theorem queue_execTraceCatalogue {tag} : KeepsQueue todo s (execTraceCatalogue tag s) := by
  unfold execTraceCatalogue
  split
  · exact .next id
  · exact .ite (.next fun c => c.finish _ _ _) (.ite (.next fun c => c.finish _ _ _)
      (.ite (.next fun c => c.finish _ _ _) (.next fun c => c.finish _ _ _)))

theorem queue_execIdentify {tag} : KeepsQueue todo s (execIdentify tag s) :=
  .next fun c => c.serve _ _ _ _ _ fun _ _ c => c

theorem queue_execVersion {tag} : KeepsQueue todo s (execVersion tag s) := by
  unfold execVersion
  exact .next fun c => c.serve _ _ _ _ _ fun _ _ c => c

/-! ### Space: the register space as it is read -/

theorem Queued.unlatch (c : Queued todo s) {a} : Queued todo (s.unlatch a).2 := by
  unfold State.unlatch
  split
  exacts [c, c.update]

theorem Queued.readWord (c : Queued todo s) {p a} : Queued todo (s.readWord p a).2 := by
  unfold State.readWord
  refine .ite_snd c ?_
  extract_lets s1
  have c1 : Queued todo s1 := c.wake _
  split
  next h2 =>
  split
  · exact .snd h2 c1.unlatch
  · split
    exacts [.latch (.snd h2 c1.unlatch), .snd h2 c1.unlatch]

theorem Queued.readWords (c : Queued todo s) {p a n} : Queued todo (s.readWords p a n).2 := by
  induction n generalizing s a with
  | zero => exact c
  | succ n ih =>
    unfold State.readWords
    exact ih c.readWord

/-! ### Counters: counters, samples and maps -/

theorem Queued.ctrSet (c : Queued todo s) {base scope w v} : Queued todo (s.ctrSet base scope w v).2 := by
  unfold State.ctrSet
  exact .ite_snd (.ite_snd (c.setReg _ _) (c.setRf _ _ _ _)) (.ite_snd (c.setReg _ _) (c.setReg _ _))

theorem queue_execCounterCfgWrite {path ident v} : KeepsQueue todo s (execCounterCfgWrite path ident v s) := by
  unfold execCounterCfgWrite
  split
  exacts [.next id, .ite (.next id) (.next fun c => .ctrSet (c.wake _))]

theorem queue_execCounterRead {path ident} : KeepsQueue todo s (execCounterRead path ident s) := by
  unfold execCounterRead
  split
  · exact .next id
  · split
    next h1 =>
    exact .next fun c => .update (.snd h1 c.readWord)

theorem queue_execCounterOverflow {ident} : KeepsQueue todo s (execCounterOverflow ident s) := by
  unfold execCounterOverflow
  split
  · exact .next id
  · refine .ite (.next id) (.next fun c => .ctrAdd (.ite ?_ c) _ _ _)
    split
    next h1 =>
    split
    exacts [.updCtx (.snd h1 c.choose) _ _, .snd h1 c.choose]

theorem queue_execSampleCapture {x} : KeepsQueue todo s (execSampleCapture x s) := .next fun c => c.takeSample

theorem Queued.mapSend (c : Queued todo s) {m} : Queued todo (s.mapSend m) := by
  unfold State.mapSend
  exact .ite c (.emit (.bump (c.setInq _ _ _) _ _ _ _) _ _)

theorem queue_execMapIntervalEnd : KeepsQueue todo s (execMapIntervalEnd s) := by
  unfold execMapIntervalEnd
  exact .ite (.next id) (.next fun c => .update (.mapSend (c.setRegs _ _)))

theorem queue_execMapReport {port pkt} : KeepsQueue todo s (execMapReport port pkt s) := by
  unfold execMapReport
  split
  next h1 =>
  exact .ite (.next fun c => .snd h1 (c.sink _ _ _)) (.ite (.next fun c => .setRegs (.snd h1 (c.sink _ _ _)) _ _)
    (.next fun c => .mgtLost (.snd h1 (c.sink _ _ _))))

theorem queue_execMapRead {tag} : KeepsQueue todo s (execMapRead tag s) :=
  .next fun c => c.serve _ _ _ _ _ fun _ _ c => c

theorem queue_execMapCfg {tag} : KeepsQueue todo s (execMapCfg tag s) := by
  unfold execMapCfg
  exact .next fun c => c.serve _ _ _ _ _ fun s _ c => .fst_of
    (r' := if mapCfgOk _ then (s.setReg aMapCfg _, stOk, []) else (s, stState, [])) rfl (.ite_fst (c.setReg _ _) c)

theorem queue_execCntMapErrClear {path v} : KeepsQueue todo s (execCntMapErrClear path v s) :=
  .ite (.next fun c => c.setReg _ _) (.next id)

theorem queue_execHbmEccClear {path n v} : KeepsQueue todo s (execHbmEccClear path n v s) :=
  .ite (.next fun c => c.setReg _ _) (.next id)

/-! ### Rings: the rings of the host attachment -/

theorem Queued.ringFail (c : Queued todo s) {k} : Queued todo (s.ringFail k) := by
  unfold State.ringFail
  extract_lets s1
  have c1 : Queued todo s1 := .msi (c.setRf _ _ _ _) _
  exact .ite c1.replyFlush c1

theorem Queued.msiFlush (c : Queued todo s) : Queued todo s.msiFlush := by
  unfold State.msiFlush
  exact .ite c.update c

theorem Queued.evtFlush (c : Queued todo s) {n} : Queued todo (s.evtFlush n) := by
  induction n generalizing s with
  | zero => exact c
  | succ n ih =>
    unfold State.evtFlush
    refine .ite (.ite (ih (.ringPut c.update _ _)) ?_) c
    split
    · exact c
    · exact ih (.ringPut c.update _ _)

theorem Queued.ringCfg (c : Queued todo s) {k v} : Queued todo (s.ringCfg k v).2 := by
  unfold State.ringCfg
  refine .ite_snd (.ite_snd ?_ (.ringFail (.setRf (.setRf (.setReg (c.setReg _ _) _ _) _ _ _ _) _ _ _ _)))
    (.ite_snd c (.ite (.replyFlush (.setRf (.setRf (.ite (c.setRf _ _ _ _) c) _ _ _ _) _ _ _ _))
    (.setRf (.setRf (.ite (c.setRf _ _ _ _) c) _ _ _ _) _ _ _ _)))
  extract_lets s1
  have c1 : Queued todo s1 := .setRf (.setRf (.ite (.setRf (.setRf (.setReg (c.setReg _ _) _ _) _ _ _ _) _ _ _ _)
    (.setRf (.setReg (c.setReg _ _) _ _) _ _ _ _)) _ _ _ _) _ _ _ _
  exact .ite c1.evtFlush (.ite c1.replyFlush c1)

theorem Queued.doorbell (c : Queued todo s) {k v} : Queued todo (s.doorbell k v) := by
  unfold State.doorbell
  exact .ite (c.setRf _ _ _ _) (.ite c.ringFail (.ite (.evtFlush (c.setRf _ _ _ _)) (c.setRf _ _ _ _)))

theorem queue_execCqDoorbell {path v} : KeepsQueue todo s (execCqDoorbell path v s) := .next fun c => .ite c.doorbell c

theorem queue_execRqDoorbell {path v} : KeepsQueue todo s (execRqDoorbell path v s) := .next fun c => .ite c.doorbell c

theorem queue_execEqDoorbell {path v} : KeepsQueue todo s (execEqDoorbell path v s) := .next fun c => .ite c.doorbell c

theorem queue_execRingEnable {path ring v} : KeepsQueue todo s (execRingEnable path ring v s) :=
  .next fun c => .ite c.ringCfg c

theorem queue_execMsixCoalesceTimer {v} : KeepsQueue todo s (execMsixCoalesceTimer v s) := by
  unfold execMsixCoalesceTimer
  exact .ite (.ite (.next fun c => c.update) (.next fun c => c.update)) (.next id)

theorem queue_execHioErrClear {path v} : KeepsQueue todo s (execHioErrClear path v s) :=
  .ite (.next fun c => c.setReg _ _) (.next id)

/-! ### Registers: writes of register space -/

theorem Queued.rwSet (c : Queued todo s) {a mask ok v} : Queued todo (s.rwSet a mask ok v).2 := by
  unfold State.rwSet
  exact .ite_snd (c.setReg _ _) c

theorem Queued.w1cSet (c : Queued todo s) {a mask v} : Queued todo (s.w1cSet a mask v).2 := c.setReg _ _

theorem Queued.plnSet (c : Queued todo s) {path a v} : Queued todo (s.plnSet path a v).2 := by
  unfold State.plnSet
  refine .ite_snd ?_ (.ite_snd c.rwSet (.ite_snd c.w1cSet (.ite_snd ?_
    (.ite_snd (.after queue_execPlnLogLostClear c)
    (.ite_snd (.ite_snd c c.rwSet) c)))))
  · exact .ite_snd c (.ite_snd c.rwSet (.ite_snd c.ringCfg (.ite_snd c.doorbell c)))
  · exact .after (.ite queue_execActivateLive (.ite queue_execActivateReset (.ite queue_execFwCancel
      (.ite queue_execFwCommit (.next id))))) c

theorem Queued.rackSet (c : Queued todo s) {a v} : Queued todo (s.rackSet a v).2 := by
  unfold State.rackSet
  refine .ite_snd ?_ (.ite (.mirrorTrd (.ite_snd c.rwSet (.ite_snd c.rwSet
    (.ite_snd c.rwSet (.ite_snd c.rwSet c.rwSet))))) c)
  split
  next h1 =>
  exact .snd h1 c.capWord

theorem Queued.trdSet (c : Queued todo s) {path a v} : Queued todo (s.trdSet path a v).2 := by
  unfold State.trdSet
  refine .ite_snd c.rackSet (.ite_snd ?_ (.ite_snd (.ite (.mirrorTrd c.rwSet) c)
    (.ite_snd (.ite (.mirrorTrd c.rwSet) c) (.ite_snd c.alertClear
    (.ite_snd (.after queue_execTrdErrClear c) (.ite_snd (.after queue_execIsoStatusClear c) c))))))
  split
  next h1 =>
  exact .snd h1 c.hostReqWord

theorem Queued.aonSet (c : Queued todo s) {path a v} : Queued todo (s.aonSet path a v).2 := by
  unfold State.aonSet
  refine .ite_snd c.rwSet (.ite_snd c.rwSet (.ite_snd (.after queue_execTripLatchClear c)
    (.ite_snd (.after queue_execCartInspect (.after queue_execCartRemove c))
    (.ite_snd c.pairSet (.ite_snd (.ite (.putClaim (c.setReg _ _)) (c.setReg _ _))
    (.ite_snd c.rwSet (.ite_snd c.w1cSet (.ite_snd (.after queue_execDvtErrClear c)
    (.ite_snd c.w1cSet (.ite_snd c.rwSet (.ite_snd (.after queue_execCntMapErrClear c) ?_)))))))))))
  split
  exacts [c.ctrSet, c]

theorem Queued.sampTail (c : Queued todo s) {n0 v} : Queued todo (s.sampTail n0 v).2 := by
  unfold State.sampTail
  exact .ite_snd (c.setRf _ _ _ _) c

theorem Queued.clusterSet (c : Queued todo s) {path n0 o v} : Queued todo (s.clusterSet path n0 o v).2 := by
  unfold State.clusterSet
  refine .ite_snd c.rwSet (.ite_snd c.rwSet (.ite_snd (.after queue_execBobApply c)
    (.ite_snd (.after queue_execBobErrClear c) (.ite_snd (.after queue_execBobDfLogClear c)
    (.ite_snd (.after queue_execReedErrClear c) (.ite_snd c.rwSet
    (.ite_snd (.after queue_execShedErrClear c) (.ite_snd c.w1cSet
    (.ite_snd (.ite_snd (.ite_snd c.queueWord0 (.ite_snd c.queueWord1 c)) (.after queue_execQueueWrite c))
    (.ite_snd c.sampTail ?_))))))))))
  split
  exacts [c.ctrSet, c]

theorem Queued.portSet (c : Queued todo s) {path p o v} : Queued todo (s.portSet path p o v).2 := by
  unfold State.portSet
  exact .ite_snd (c.portWrite c.portCfgSet) (.ite_snd c.w1cSet
    (.ite_snd (c.portWrite c.rwSet) (.ite_snd (c.portWrite c.rwSet)
    (.ite_snd (c.portWrite c.portCreditSet) (.ite_snd (.after queue_execPortLinkErrClear c)
    (.ite_snd (.after queue_execPortQuarErrClear c) (.ite_snd (c.portWrite c.portSelSet) c)))))))

theorem Queued.shadowSet (c : Queued todo s) {a mask v} : Queued todo (s.shadowSet a mask v).2 := .ite_snd c c.rwSet

theorem Queued.rteCfgSet (c : Queued todo s) {a v} : Queued todo (s.rteCfgSet a v).2 := by
  unfold State.rteCfgSet
  exact .ite_snd (.mirrorSelf c.rwSet) (.ite_snd c.rwSet (.ite_snd c.rwSet
    (.ite_snd c.rwSet (.ite_snd c.rwSet (.ite_snd c.rwSet (.ite_snd c.rwSet
    (.ite_snd c.rwSet (.ite_snd (.foldl c.rwSet fun _ _ c => c.setPool _ _)
    (.ite_snd c.rwSet (.ite_snd c.rwSet c))))))))))

theorem Queued.rteSet (c : Queued todo s) {path a v} : Queued todo (s.rteSet path a v).2 := by
  unfold State.rteSet
  refine .ite_snd c.shadowSet (.ite_snd c.shadowSet (.ite_snd ?_ (.ite_snd (.after queue_execRtePktErrClear c)
    (.ite_snd (.ite_snd c ?_) (.ite_snd (.after queue_execRteFlowErrClear c)
      (.ite_snd (.after queue_execRteCongErrClear c) (.ite_snd (.ite_snd c ?_) (.ite_snd c.w1cSet
        (.ite_snd (.after queue_execRteGrpErrClear c) c.rteCfgSet)))))))))
  · split
    exact .snd ‹_› c.grpWordWrite
  · exact .after queue_execCommitStart (.after queue_execCommitSync (.after queue_execCommitAbort c))
  · exact .after (.ite queue_execGroupAdmit (.ite queue_execGroupRelease (.ite queue_execGroupRearm (.next id)))) c

theorem Queued.slotSet (c : Queued todo s) {a v} : Queued todo (s.slotSet a v).2 := by
  unfold State.slotSet
  exact .ite_snd (c.setRf _ _ _ _) c.rwSet

theorem Queued.seqCmdSet (c : Queued todo s) {src n} : Queued todo (s.seqCmdSet src n) :=
  .after (.ite queue_execSlotOpen (.ite queue_execSlotRelease (.ite queue_execEvacuate (.ite queue_execEvacAbort
    (.ite queue_execAllocBack (.ite queue_execRecall (.ite queue_execReclaim (.next id)))))))) c

theorem Queued.seqSet (c : Queued todo s) {path a v} : Queued todo (s.seqSet path a v).2 :=
  .ite_snd (.after queue_execSeqRegionWrite c) (.ite_snd (.ite_snd (c.setReg _ _) (c.setRf _ _ _ _))
    (.ite_snd c.rwSet (.ite_snd c.seqCmdSet (.ite_snd c.rwSet
    (.ite_snd c.w1cSet (.ite_snd (.after queue_execSeqErrClear c) (.ite_snd c.slotSet c)))))))

theorem Queued.hioSet (c : Queued todo s) {path a v} : Queued todo (s.hioSet path a v).2 :=
  .ite_snd c.rwSet (.ite_snd (.after queue_execHioErrClear c) (.ite_snd (.after queue_execHbmEccClear c) c))

theorem Queued.regSet (c : Queued todo s) {path a v} : Queued todo (s.regSet path a v).2 :=
  .ite_snd c.plnSet (.ite_snd c (.ite_snd c.trdSet (.ite_snd c.aonSet
    (.ite_snd c.clusterSet (.ite_snd c.portSet (.ite_snd c.rteSet (.ite_snd c.seqSet c.hioSet)))))))

theorem Queued.writeWord (c : Queued todo s) {path a v} : Queued todo (s.writeWord path a v).2 :=
  .ite_snd c (.ite_snd c (.ite_snd c (.ite_snd c (.ite_snd c (.regSet (c.wake _))))))

theorem queue_execRegisterWrite {path addr v} : KeepsQueue todo s (execRegisterWrite path addr v s) :=
  .next fun c => c.writeWord

theorem queue_execRegRead {tag} : KeepsQueue todo s (execRegRead tag s) := by
  unfold execRegRead
  refine .next fun c => c.serve _ _ _ _ _ fun _ _ c => ?_
  split
  next h1 =>
  exact .snd h1 c.readWords

theorem Queued.writeWords (c : Queued todo s) {a l n} : Queued todo (s.writeWords a l n).2.2 := by
  induction l generalizing s a n with
  | nil => exact c
  | cons v r ih =>
    unfold State.writeWords
    exact .ite_snd_snd c (.ite_snd_snd (ih c.writeWord) c.writeWord)

theorem Queued.mirrorReply (c : Queued todo s) {tag reply} : Queued todo (s.mirrorReply tag reply) := by
  unfold State.mirrorReply
  exact .update (c.hold _)

theorem queue_execRegWrite {tag} : KeepsQueue todo s (execRegWrite tag s) := by
  unfold execRegWrite
  split
  · exact .next id
  · refine .ite (.next fun c => c.finish _ _ _) ?_
    split
    next h1 =>
    exact .ite (.next fun c => .mirrorReply (.snd_snd h1 c.writeWords))
      (.next fun c => .finish (.snd_snd h1 c.writeWords) _ _ _)

theorem queue_execI3cWriteTransfer {addr words} : KeepsQueue todo s (execI3cWriteTransfer addr words s) :=
  .ite (.next id) (.next fun c => .foldl c fun _ _ c => c.writeWord)

theorem queue_execI3cReadTransfer {addr n} : KeepsQueue todo s (execI3cReadTransfer addr n s) := by
  unfold execI3cReadTransfer
  refine .ite (.next id) ?_
  split
  next h1 =>
  exact .next fun c => .update (.snd h1 c.readWords)

theorem Queued.i3cSay (c : Queued todo s) {b} : Queued todo (s.i3cSay b) := by
  unfold State.i3cSay
  exact c.update

theorem queue_execEntdaa {da} : KeepsQueue todo s (execEntdaa da s) := by
  unfold execEntdaa
  exact .ite (.next fun c => .i3cSay c.update) (.next id)

theorem queue_execRstdaa : KeepsQueue todo s (execRstdaa s) := by
  unfold execRstdaa
  exact .ite (.next fun c => c.update) (.next id)

theorem queue_execSetnewda {da} : KeepsQueue todo s (execSetnewda da s) := by
  unfold execSetnewda
  exact .ite (.next fun c => c.update) (.next id)

theorem queue_execGetpid : KeepsQueue todo s (execGetpid s) := .ite (.next fun c => c.i3cSay) (.next id)

theorem queue_execGetbcr : KeepsQueue todo s (execGetbcr s) := .ite (.next fun c => c.i3cSay) (.next id)

theorem queue_execGetdcr : KeepsQueue todo s (execGetdcr s) := .ite (.next fun c => c.i3cSay) (.next id)

theorem queue_execGetstatus : KeepsQueue todo s (execGetstatus s) := by
  unfold execGetstatus
  refine .ite ?_ (.next id)
  split
  next h1 =>
  exact .next fun c => .i3cSay (.snd h1 c.draw)

theorem queue_execJtagRegAccess {write addr v} : KeepsQueue todo s (execJtagRegAccess write addr v s) := by
  unfold execJtagRegAccess
  refine .ite (.next fun c => c.writeWord) ?_
  split
  next h1 =>
  exact .next fun c => .update (.snd h1 c.readWord)

/-! ### Host: the host attachment -/

theorem Queued.tracePoints (c : Queued todo s) : Queued todo s.tracePoints := by
  unfold State.tracePoints
  refine .ite c ?_
  split
  next h1 =>
  exact .foldl (.snd h1 c.draw) fun _ _ c => .ite (c.log _ _ _ _) c

theorem Queued.accept (c : Queued todo s) {p} : Queued todo (s.accept p) := by
  unfold State.accept
  exact .ite (.finish c.update _ _ _) (.ite (.finish c.update _ _ _) c.update)

theorem Queued.relay (c : Queued todo s) {e p} : Queued todo (s.relay e p) := by
  unfold State.relay
  exact .ite (c.replyOut _ _ _) (.ite (c.replyOut _ _ _) (.ite (c.replyOut _ _ _)
    (.ite (c.replyOut _ _ _) (.sendCuing c.update _ _ _ _ _ _ _))))

theorem queue_execCommandTake {entry scatter} : KeepsQueue todo s (execCommandTake entry scatter s) := by
  unfold execCommandTake
  exact .ite (.next id) (.ite (.next fun c => .replyOut (c.setRf _ _ _ _) _ _ _)
    (.ite (.next fun c => .accept (.tracePoints (c.setRf _ _ _ _))) (.next fun c => .relay (c.setRf _ _ _ _))))

theorem Queued.relayRefuse (c : Queued todo s) {dst p st} : Queued todo (s.relayRefuse dst p st) :=
  c.sendCuing _ _ _ _ _ _ _

theorem Queued.putRoute (c : Queued todo s) {eid ws} : Queued todo (s.putRoute eid ws) := by
  unfold State.putRoute
  exact .setRegs (c.setRegs _ _) _ _

theorem Queued.bindTo (c : Queued todo s) {p} : Queued todo (s.bindTo p) := by
  unfold State.bindTo
  exact .sendCuing (.update (.putRoute (.putRoute (c.setRf _ _ _ _)))) _ _ _ _ _ _ _

theorem Queued.bindIn (c : Queued todo s) {src e scatter} : Queued todo (s.bindIn src e scatter) := by
  unfold State.bindIn
  exact .ite c.mgtLost (.ite (.ite c.mgtLost c.relayRefuse) (.ite c.mgtLost (.ite c.relayRefuse c.bindTo)))

theorem queue_execBind {port pkt} : KeepsQueue todo s (execBind port pkt s) := by
  unfold execBind
  split
  next h1 =>
  exact .ite (.next fun c => .snd h1 (c.sink _ _ _)) (.ite (.next fun c => .mgtLost (.snd h1 (c.sink _ _ _)))
    (.ite (.next fun c => .mgtLost (.snd h1 (c.sink _ _ _))) (.next fun c => .bindIn (.snd h1 (c.sink _ _ _)))))

theorem Queued.memFlush (c : Queued todo s) {n} : Queued todo (s.memFlush n) := by
  induction n generalizing s with
  | zero => exact c
  | succ n ih =>
    unfold State.memFlush
    refine .ite c (.ite (ih (.sendCuing c.update _ _ _ _ _ _ _)) ?_)
    split
    · exact c
    · exact ih (.sendCuing c.update _ _ _ _ _ _ _)

theorem queue_execCuingCmd {port pkt} : KeepsQueue todo s (execCuingCmd port pkt s) := by
  unfold execCuingCmd
  split
  next h1 =>
  refine .ite (.next id) (.ite (.next fun c => .snd h1 (c.sink _ _ _))
    (.ite (.next fun c => .mgtLost (.snd h1 (c.sink _ _ _)))
    (.ite (.next fun c => .mgtLost (.snd h1 (c.sink _ _ _)))
    (.ite (.next fun c => .memFlush (.update (.snd h1 (c.sink _ _ _)))) ?_))))
  extract_lets _ _ s2
  have c2 : Queued todo s → Queued todo s2 := fun c => .update (.snd h1 (c.sink _ _ _))
  split
  · exact .next fun c => .snd h1 (c.sink _ _ _)
  · exact .ite (.ite (.next fun c => .sinkAgain (.snd h1 (c.sink _ _ _)))
      (.next fun c => .update (.snd h1 (c.sink _ _ _)))) (.ite (.next fun c => .relayRefuse (c2 c))
      (.next fun c => .accept (c2 c)))

theorem Queued.bound (c : Queued todo s) {p} : Queued todo (s.bound p) := .event (c.setMember _ _) _ _ _

theorem Queued.relayDone (c : Queued todo s) {p r} : Queued todo (s.relayDone p r) := by
  unfold State.relayDone
  extract_lets _ _ s1 s2
  have c1 : Queued todo s1 := c.update
  have c2 : Queued todo s2 := .ite c1.bound c1
  exact .ite c2 (c2.replyWrite _ _)

theorem queue_execCuingRsp {port pkt} : KeepsQueue todo s (execCuingRsp port pkt s) := by
  unfold execCuingRsp
  split
  next h1 =>
  refine .ite (.next fun c => .snd h1 (c.sink _ _ _)) (.ite (.next fun c => .mgtLost (.snd h1 (c.sink _ _ _))) ?_)
  extract_lets _ _ s2
  have c2 : Queued todo s → Queued todo s2 := fun c => .bump (.snd h1 (c.sink _ _ _)) _ _ _ _
  split
  · exact .ite (.next fun c => .update (c2 c)) (.next fun c => .mgtLost (.snd h1 (c.sink _ _ _)))
  · refine .ite (.next fun c => .mgtLost (.snd h1 (c.sink _ _ _))) ?_
    split
    · exact .next fun c => .snd h1 (c.sink _ _ _)
    · exact .ite (.next fun c => .relayDone (.update (.snd h1 (c.sink _ _ _))))
        (.next fun c => .update (.snd h1 (c.sink _ _ _)))

theorem queue_execCuingEvt {port pkt} : KeepsQueue todo s (execCuingEvt port pkt s) := by
  unfold execCuingEvt
  split
  next h1 =>
  exact .ite (.next fun c => .snd h1 (c.sink _ _ _)) (.ite (.next fun c => .mgtLost (.snd h1 (c.sink _ _ _)))
    (.next fun c => .eventIn (.setMember (.snd h1 (c.sink _ _ _)) _ _) _))

theorem queue_execEventCredit {m n} : KeepsQueue todo s (execEventCredit m n s) := by
  unfold execEventCredit
  exact .ite (.next id) (.next fun c => .sendCuing (c.setMember _ _) _ _ _ _ _ _ _)

theorem Queued.relayFails (c : Queued todo s) {m tag st} : Queued todo (s.relayFails m tag st) := by
  unfold State.relayFails
  exact .ite (.finish c.update _ _ _) c

theorem queue_execRelayTimeout {m tag} : KeepsQueue todo s (execRelayTimeout m tag s) := .next fun c => c.relayFails

theorem queue_execRelayProgressTimer {tag} : KeepsQueue todo s (execRelayProgressTimer tag s) := by
  unfold execRelayProgressTimer
  split
  exacts [.next id, .next fun c => c.sendCuing _ _ _ _ _ _ _]

theorem queue_execAttachCut : KeepsQueue todo s (execAttachCut s) := by
  unfold execAttachCut
  exact .ite (.next fun c => c.update) (.next id)

theorem Queued.tableWrite (c : Queued todo s) {tag opcode size most base mask} : Queued todo
    (s.tableWrite tag opcode size most base mask) := by
  unfold State.tableWrite
  split
  · exact c
  · exact .ite (c.finish _ _ _) (.ite (c.finish _ _ _) (.finish (c.setRegs _ _) _ _ _))

theorem queue_execRouteWrite {tag} : KeepsQueue todo s (execRouteWrite tag s) := .next fun c => c.tableWrite

theorem queue_execMcastWrite {tag} : KeepsQueue todo s (execMcastWrite tag s) := .next fun c => c.tableWrite

theorem queue_execImageList {tag} : KeepsQueue todo s (execImageList tag s) :=
  .next fun c => c.serve _ _ _ _ _ fun _ _ c => c

theorem queue_execSlotRead {tag} : KeepsQueue todo s (execSlotRead tag s) := by
  unfold execSlotRead
  exact .next fun c => c.serve _ _ _ _ _ fun _ _ c => c

theorem queue_execRegionSet {tag} : KeepsQueue todo s (execRegionSet tag s) := by
  unfold execRegionSet
  exact .next fun c => c.serve _ _ _ _ _ fun s _ c => .fst_of
    (r' := if _ && !regionOk _ then (s, stState, [])
      else if _ && (!s.regionFree || s.regionBarred _) then (s.setRf aSeqSt 30 30 1, stState, [])
      else if !fabWinOk _ _ then (s.setRf aSeqSt 30 30 1, stState, [])
      else (((if _ then s.regionSet _ else s).setReg aFabWin _).setReg aLendMax _, stOk, []))
    rfl (.ite_fst c (.ite_fst (c.setRf _ _ _ _) (.ite_fst (c.setRf _ _ _ _)
      (.setReg (.setReg (.ite c.regionSet c) _ _) _ _))))

theorem queue_execEventMask {tag} : KeepsQueue todo s (execEventMask tag s) := by
  unfold execEventMask
  exact .next fun c => c.serve _ _ _ _ _ fun _ _ c => c.update

theorem Queued.functionReset (c : Queued todo s) : Queued todo s.functionReset := by
  unfold State.functionReset
  exact .update (c.clearRegs _)

theorem queue_execFlr : KeepsQueue todo s (execFlr s) := .next fun c => .ite c.functionReset c

theorem queue_execD3hotEntry : KeepsQueue todo s (execD3hotEntry s) := by
  unfold execD3hotEntry
  exact .ite (.next fun c => c.functionReset.update) (.next id)

theorem queue_execBusMasterEnableWrite {b} : KeepsQueue todo s (execBusMasterEnableWrite b s) := by
  unfold execBusMasterEnableWrite
  exact .ite (.next fun c => .evtFlush (.replyFlush (.msiFlush c.update))) (.next id)

theorem Queued.badTlp (c : Queued todo s) {isWrite} : Queued todo (s.badTlp isWrite) := by
  unfold State.badTlp
  exact c.update

theorem queue_execBar0BadAccess {isWrite} : KeepsQueue todo s (execBar0BadAccess isWrite s) :=
  .ite (.next fun c => .badTlp (c.bump _ _ _ _)) (.next id)

theorem queue_execBar2Write {off bytes} : KeepsQueue todo s (execBar2Write off bytes s) :=
  .ite (.next id) (.ite (.next fun c => c.memStore _ _) (.next fun c => .badTlp (c.bump _ _ _ _)))

theorem queue_execBar2Read {off n} : KeepsQueue todo s (execBar2Read off n s) := by
  unfold execBar2Read
  refine .ite (.next id) (.ite ?_ (.next fun c => .badTlp (c.bump _ _ _ _)))
  split
  next h1 =>
  exact .next fun c => .update (.snd h1 c.memLoad)

theorem queue_execHioFatalError : KeepsQueue todo s (execHioFatalError s) := by
  unfold execHioFatalError
  exact .ite (.next fun c => .update (c.setRf _ _ _ _)) (.next id)

theorem queue_execPcieLinkUp {gen width} : KeepsQueue todo s (execPcieLinkUp gen width s) := by
  unfold execPcieLinkUp
  refine .ite ?_ (.next id)
  split
  next h1 =>
  exact .next fun c => .evtFlush (.replyFlush (.msiFlush (.setRf
    (.setReg (.snd h1 (.ite_snd c.draw c)) _ _) _ _ _ _)))

theorem queue_execPcieLinkDown {refclkLost} : KeepsQueue todo s (execPcieLinkDown refclkLost s) := by
  unfold execPcieLinkDown
  exact .ite (.next fun c => .ite (.setRf (c.setRf _ _ _ _) _ _ _ _) (c.setRf _ _ _ _)) (.next id)

theorem queue_execPcieHotReset : KeepsQueue todo s (execPcieHotReset s) := by
  unfold execPcieHotReset
  exact .ite (.next fun c => .ite c.functionReset.update (.setRf c.functionReset.update _ _ _ _)) (.next id)

theorem queue_execDoeAbort : KeepsQueue todo s (execDoeAbort s) := by
  unfold execDoeAbort
  exact .ite (.next fun c => c.update) (.next id)

/-! ### Age: the age limit -/

theorem Queued.joinAged (c : Queued todo s) {a0} : Queued todo (s.joinAged a0) := by
  unfold State.joinAged
  refine .foldl c fun _ _ c => ?_
  split
  exacts [.ite c.gateEnd (.ite c c.setJoin), c]

theorem Queued.ownAged (c : Queued todo s) {a0} : Queued todo (s.ownAged a0) := by
  unfold State.ownAged
  refine .ite (.mirrorPush (.ownStep c.opEnd)) (.ite ?_ (.ite c.joinAged (.ite c.relayFails c)))
  split
  exacts [.ite (.ownStep c.granted) c, c]

theorem queue_execAgeLimitExpire {q vc} : KeepsQueue todo s (execAgeLimitExpire q vc s) := by
  unfold execAgeLimitExpire
  split
  · exact .next id
  next h2 =>
    extract_lets s3 s4
    have c3 : Queued todo s → Queued todo s3 := fun c => .evDev (.bump (.pktGone (c.takeWaiting h2)) _ _ _ _) _ _
    have c4 : Queued todo s → Queued todo s4 := fun c => .copyLost (c3 c)
    exact .next fun c => .ite (.ownAged (c4 c)) (c4 c)

end Functions

/-! ### Every command, and the step -/

/-- Every command of the table answers a next state and keeps the queue: one lemma per command. -/
theorem exec_keepsQueue (i : Instr) (s : State) : KeepsQueue todo s (exec i s) := by
  unfold exec
  cases i
  exacts [queue_execVinAonApply, queue_execVinAonLoss, queue_execVinMainLoss, queue_execMainPowerGood,
    queue_execPllLockDone, queue_execClusterSramBistDone, queue_execHbmPairTrained, queue_execBootComplete,
    queue_execVinIoLoss, queue_execVinIoReturn, queue_execRefclkFabLoss, queue_execRefclkFabReturn,
    queue_execAonTrim, queue_execSupplyAlertAssert, queue_execSupplyAlertClear, queue_execFlowAlert,
    queue_execFlowAlertClear, queue_execIsoStatusFrameRx, queue_execIsoLostTimeout, queue_execDemandFrameTx,
    queue_execIsoStatusClear, queue_execDomainRun, queue_execDomainOff, queue_execDomainExitDone,
    queue_execShuClockSwitch, queue_execDeepIdleEnter, queue_execLinkFrameRx, queue_execLinkFrameTx,
    queue_execRetryTimerExpire, queue_execLinkSilentTimeout, queue_execTrainParams, queue_execTrainAck,
    queue_execHoldReq, queue_execHoldAck, queue_execWake, queue_execWidth, queue_execWidthAck, queue_execPaceRx,
    queue_execDownNotice, queue_execResync, queue_execCtrlMsgResend, queue_execLinkTrainStart,
    queue_execTrainComplete, queue_execTrainTimeout, queue_execHoldLimitExpire, queue_execDownRetrainTimer,
    queue_execLaneRetire, queue_execLaneLendTimeout, queue_execWakePatternDetect, queue_execPortCfgWrite,
    queue_execPortCreditWrite, queue_execPortLinkErrClear, queue_execPortQuarErrClear, queue_execPaceResend,
    queue_execPaceRelease, queue_execLinkRestTimer, queue_execLinkDarkTimer, queue_execPktHeaderArrive,
    queue_execPktPortRetry, queue_execSelEscape, queue_execAgeLimitExpire, queue_execOpTimeout, queue_execPut,
    queue_execGet, queue_execAtomic, queue_execCall, queue_execWopen, queue_execWclose, queue_execPutAck,
    queue_execGetData, queue_execAtomicRsp, queue_execCallDone, queue_execWgrant, queue_execContrib,
    queue_execResult, queue_execGroupFail, queue_execCuingCmd, queue_execCuingRsp, queue_execCuingEvt,
    queue_execMapReport, queue_execPairHb, queue_execMirror, queue_execMigrate, queue_execWinIdleExpire,
    queue_execReorderTimeout, queue_execCommitStart, queue_execCommitSync, queue_execCommitAbort,
    queue_execCommitValidateDone, queue_execCommitDrained, queue_execDrainLimitExpire, queue_execRtePktErrClear,
    queue_execRteFlowErrClear, queue_execRteCongErrClear, queue_execBobApply, queue_execBobDrawServed,
    queue_execBobDfLogClear, queue_execBobErrClear, queue_execGroupAdmit, queue_execGroupAdmitDone,
    queue_execGroupRelease, queue_execGroupReleaseDrained, queue_execGroupRearm, queue_execReleaseWave,
    queue_execChunkTimeout, queue_execGateGrant, queue_execGateTimeout, queue_execRteGrpErrClear,
    queue_execReedErrClear, queue_execSeqRegionWrite, queue_execServiceReloadDone, queue_execSlotOpen,
    queue_execSlotRelease, queue_execSlotReleaseDone, queue_execEvacuate, queue_execEvacPageMoved,
    queue_execEvacOldFrameFree, queue_execEvacAbort, queue_execAllocBack, queue_execRecall,
    queue_execRecallPageDone, queue_execReclaim, queue_execSeqErrClear, queue_execLibDecode, queue_execLibPrefill,
    queue_execLibLatentDecode, queue_execLibAppend, queue_execLibRead, queue_execLibLend, queue_execLibReturn,
    queue_execImageLoad, queue_execImageVerifyDone, queue_execImageCopyDone, queue_execImageUnload,
    queue_execImageDrainDone, queue_execWorkItemDispatch, queue_execBenchWaitExpire, queue_execRunLimitExpire,
    queue_execQueueWrite, queue_execShedErrClear, queue_execSop, queue_execAddi, queue_execAndi, queue_execOri,
    queue_execXori, queue_execShi, queue_execSlti, queue_execSli, queue_execSmul, queue_execScmp, queue_execFop,
    queue_execFmad, queue_execFcmp, queue_execScvt, queue_execVint, queue_execVfp, queue_execVfma, queue_execVcmp,
    queue_execVplog, queue_execVred, queue_execVperm, queue_execVbcast, queue_execVcvt, queue_execVmxcvt,
    queue_execVsfn, queue_execVtopk, queue_execMld, queue_execMst, queue_execMma, queue_execMmx, queue_execMzero,
    queue_execMtov, queue_execLd, queue_execSt, queue_execLdi, queue_execSti, queue_execVld, queue_execVst,
    queue_execVgth, queue_execVsct, queue_execMcpyIssue, queue_execMcpyWait, queue_execMcpyWaitall,
    queue_execAsyncCopyDone, queue_execHndDraw, queue_execHndFree, queue_execHndHget, queue_execHndHput,
    queue_execLatm, queue_execFput, queue_execFget, queue_execFatm, queue_execFcall, queue_execIssueStallRelease,
    queue_execFopen, queue_execFclose, queue_execFwaitAll, queue_execFwaitUpto, queue_execFwaitPoll,
    queue_execCjoin, queue_execCwaitWait, queue_execCwaitPoll, queue_execCrel, queue_execTgate,
    queue_execJoinTimeout, queue_execSapp, queue_execSappPerformed, queue_execSgath, queue_execSmapAddr,
    queue_execSmapPte, queue_execSmapLen, queue_execSrel, queue_execBr, queue_execJal, queue_execJalr,
    queue_execCtlr, queue_execCtlw, queue_execCntr, queue_execYield, queue_execTrap, queue_execHalt,
    queue_execMsync, queue_execTreadleStep, queue_execClusterShareUpdate, queue_execCapWordWrite,
    queue_execCapHoldExpire, queue_execCapFallbackExpire, queue_execHostCap, queue_execSleep, queue_execHostCfg,
    queue_execTrdAlertClear, queue_execTrdErrClear, queue_execPowerReportRead, queue_execPowerRead,
    queue_execPowerReports, queue_execSwGateTimer, queue_execShuGateTimer, queue_execShuRetainTimer,
    queue_execReedGateTimer, queue_execReedRetainTimer, queue_execHbmSrTimer, queue_execThermalSample,
    queue_execSensorPlausibilityTimer, queue_execRungReleaseTimer, queue_execLadderStepTimer,
    queue_execThermtripAssert, queue_execTripLatchClear, queue_execCoolantSample, queue_execCoolDtTimer,
    queue_execLeakSample, queue_execLeakDryTimer, queue_execCartPresenceQualified, queue_execCartPull,
    queue_execCartRemove, queue_execCartInspect, queue_execCartIdentityReadDone, queue_execInspectionDone,
    queue_execSensors, queue_execZones, queue_execCoolCfg, queue_execCartStatus, queue_execScores,
    queue_execCartIdentity, queue_execComponentFault, queue_execComponentWatchdog, queue_execCoreWatchdog,
    queue_execComponentRestartDone, queue_execKernelFault, queue_execComplexRestartDone, queue_execSecCoreFault,
    queue_execTreadleCoreFault, queue_execSchedulerCoreFault, queue_execControlCoreFault,
    queue_execDelegateRestartDone, queue_execFwStage, queue_execStageVerifyDone, queue_execActivateLive,
    queue_execActivateReset, queue_execFwCancel, queue_execFwCommit, queue_execActivationComponentDone,
    queue_execActivationResume, queue_execProbationExpire, queue_execRevertDone, queue_execFwStatus,
    queue_execPolicyWrite, queue_execSpdm, queue_execDoeRequest, queue_execDebugNonce, queue_execDebugToken,
    queue_execNonceExpire, queue_execPlnLogLostClear, queue_execLogRead, queue_execTraceCatalogue,
    queue_execIdentify, queue_execVersion, queue_execDigest, queue_execCqDoorbell, queue_execRqDoorbell,
    queue_execEqDoorbell, queue_execRingEnable, queue_execCommandTake, queue_execRegRead, queue_execRegWrite,
    queue_execRouteWrite, queue_execMcastWrite, queue_execImageList, queue_execGroupWrite, queue_execGroupRead,
    queue_execSlotRead, queue_execRegionSet, queue_execBind, queue_execEventMask, queue_execEventCredit,
    queue_execMapRead, queue_execMapCfg, queue_execRelayTimeout, queue_execRelayProgressTimer,
    queue_execMsixCoalesceTimer, queue_execFlr, queue_execD3hotEntry, queue_execPerstAssert,
    queue_execPerstDeassert, queue_execBar0BadAccess, queue_execBar2Write, queue_execBar2Read,
    queue_execHioFatalError, queue_execHioErrClear, queue_execPairConfig, queue_execPairStatus, queue_execPairSwap,
    queue_execSwapAbdicate, queue_execHeartbeatTx, queue_execHbFrameRx, queue_execHbPathSilent,
    queue_execSelectorSwitchDone, queue_execTakeoverComplete, queue_execSelectorPoll, queue_execPairMsgItem,
    queue_execPairMsgAck, queue_execPairMsgBaselineStart, queue_execPairMsgBaselineEnd, queue_execPairMsgAbdicate,
    queue_execMirrorAckTimeout, queue_execEpochMirrorTimer, queue_execDvtErrClear, queue_execCounterOverflow,
    queue_execSampleCapture, queue_execCounterRead, queue_execCounterCfgWrite, queue_execMapIntervalEnd,
    queue_execCntMapErrClear, queue_execHbmEccClear, queue_execAttachCut, queue_execWarmReset,
    queue_execFabricReset, queue_execClusterReset, queue_execPortReset, queue_execSelftestAonTrim,
    queue_execSelftestLaneCal, queue_execSelftestPortLoop, queue_execSelftestSramBist, queue_execSelftestShuBist,
    queue_execSelftestReedBist, queue_execSelftestHbmScan, queue_execSelftestCryptoKat,
    queue_execSelftestSensorCheck, queue_execSelftestDone, queue_execI3cWriteTransfer, queue_execI3cReadTransfer,
    queue_execEntdaa, queue_execRstdaa, queue_execSetnewda, queue_execGetpid, queue_execGetbcr, queue_execGetdcr,
    queue_execGetstatus, queue_execJtagRegAccess, queue_execRegisterWrite, queue_execJtagHalt, queue_execJtagResume,
    queue_execPllLockLoss, queue_execPcieLinkUp, queue_execPcieLinkDown, queue_execPcieHotReset,
    queue_execBusMasterEnableWrite, queue_execDoeAbort]

/-! ### The obligation -/

/-- Settles O5: every command keeps the queue that it finds. -/
theorem execLeavesQueueAlone : Obligations.ExecLeavesQueueAlone := by
  unfold Obligations.ExecLeavesQueueAlone
  intro c s t run
  obtain ⟨u, answers, keep⟩ := exec_keepsQueue (todo := s.pending) c s
  cases answers.symm.trans run
  exact keep rfl

end Sys2Proof.Machine
end
